-- ==== Sys2Proof/Word.lean ====
section
/-!
DEFINITION. Sys2Proof/Word.lean: the plain number types of the SM7160 model (00_scope R11, R12, R18).
-/
namespace Sys2Proof

/-- One byte of a register, message, image or memory (R11). -/
abbrev Byte := BitVec 8

/-- One register: 32 bits (R12). -/
abbrev Word := BitVec 32

/-- Device time counts ticks of 5 ns (R18, R30), as plain naturals; 200 of them make one microsecond. -/
abbrev ticksPerUs : Nat := 200

end Sys2Proof
end

