-- ==== Sys2Proof/Syntax.lean ====
section
/-!
DEFINITION. Sys2Proof/Syntax.lean: the commands of the SM7160, one constructor per row of spec/opcode_table.json.

Operands. Most rows carry `t`, the device time (5 ns ticks) at which the step happens; `ssv` is SSV time in ticks of its
50 MHz oscillator (20 ns). `fn` is a function number 0-16 and `slot` a request slot 0-31 (R308). What a sensor, a link
partner, a comparator or a host write shows the device is an operand of the row that takes it in. `cyc` is the cycle of the
stack NoC in which a scheduling step happens, counted from the frame open (R252, R272); a cluster cycle is two of them.
-/
namespace Sys2Proof

/-- The register spaces a `REGISTER_WRITE` can name: a function's BAR0 window (Table 15.3), PF0's BAR4 window
(Table 15.12), the SMBus registers (Table 21.9), and the MSI-X control bits of configuration space (R365). -/
inductive RegSpace where
  | bar0
  | bar4
  | smbus
  | msixControl
  | deviceControl
  | deviceControl2
  | linkControl
  | aerControl
  deriving DecidableEq, Repr

/-- What a task does, as the operand block that its ARGS name says it (R244, R254): the operations of the frame that
placement and admission tell apart. -/
inductive TaskOp where
  | assay
  | rake
  | distBuild
  | stop
  | repair
  | carriedRecheck
  | context
  | contextCopy
  | firstBlock
  | block
  | repairBlock
  | check
  | preRank
  | smooth
  | timeScale
  | recheck
  | harvestNode
  | reverify
  deriving DecidableEq, Repr

/-- A task descriptor of Table 10.2 as a producer offers it, with the operation of its operand block, its release time in
ticks of the delay list (0: no release tick, R250) and, for a PINNED task whose cluster is known, that cluster (R254). -/
structure TaskDesc where
  layerId : Nat
  operatorId : Nat
  phase : Nat
  unit : Nat
  tokens : Nat
  safety : Bool
  pinned : Bool
  keep : Bool
  succExtra : Nat
  stream : Nat
  age : Nat := 0
  args : Nat
  release : Nat := 0
  op : TaskOp
  target : Option Nat := none
  deriving DecidableEq, Repr

/-- Who offers a task to a cluster (R245): the stack dispatcher, the stack DMA or the cluster itself. -/
inductive Producer where
  | dispatcher
  | stackDma
  | ownCluster
  deriving DecidableEq, Repr

/-- A stack DMA transfer that brings an operand to a cluster's scratchpad (R268): source address in the internal address
space, offset in the scratchpad, length in bytes. -/
structure DmaDesc where
  src : Nat
  off : Nat
  len : Nat
  deriving DecidableEq, Repr

/-- What a corrected or uncorrectable read of an SRAM, or a NoC flit check, shows the consumer (R280, R282, R283). -/
inductive ReadFault where
  | none
  | corrected
  | uncorrectable
  deriving DecidableEq, Repr

/-- What the HBM reads of a resolution request show, and the address of the read that was not clean (R279, R280). -/
structure HbmRead where
  fault : ReadFault
  addr : Nat
  deriving DecidableEq, Repr

/-- A failure of a self-test (R409): item 0 of a cluster is its assay, with the mask of differing units; the other items are those
of Table 17.4. -/
structure TestFailure where
  unit : Nat
  item : Nat
  mask : Nat := 0
  deriving DecidableEq, Repr

/-- A Zerelet flit (Table 16.2), with the CRC that stands in its last four bytes. -/
structure Flit where
  crc : Nat
  vc : Nat
  kind : Nat
  src : Nat
  dst : Nat
  lseq : Nat
  lack : Nat
  sendTime : Nat
  len : Nat
  credits : List Nat
  msg : Nat
  payload : List Byte
  deriving DecidableEq, Repr

/-- One REPORT of a census (R380): the reporter's certificate hash, its bound node ID (0xFF: none) and, per port, the
neighbour's hash (empty: port down). -/
structure CensusReport where
  epoch : Nat
  hash : List Byte
  bound : Nat
  neighbours : List (List Byte)
  deriving DecidableEq, Repr

/-- The answer to a GRANT request (R378, R390): the VC and number of the message, and whether the grant is given. -/
structure GrantAnswer where
  vc : Nat
  msg : Nat
  granted : Bool
  deriving DecidableEq, Repr

/-- A verify answer (R379, R383): its census epoch, and whether it is VERIFY_OK or VERIFY_FAIL. -/
structure VerifyAnswer where
  epoch : Nat
  ok : Bool
  deriving DecidableEq, Repr

/-- A ROUTE message (R382): epoch, the hashes in node-ID order (empty: no node), the adjacency as four neighbour IDs per
node (0xFF: none), and the table hash as received. -/
structure RouteMsg where
  epoch : Nat
  hashes : List (List Byte)
  adjacency : List (List Nat)
  tableHash : List Byte
  deriving DecidableEq, Repr

/-- When a scheduler row takes place: the NoC cycle since the frame open, and the device time (R248, R249). -/
structure CycleAt where
  cyc : Nat
  t : Nat
  deriving DecidableEq, Repr

/-- How an operand arrives: its stack DMA transfer, the cycles that it waited for a bank, whether its flits pass their CRC, and what
the read of its source shows (R267, R268, R280, R282, R283). -/
structure Delivery where
  dma : DmaDesc
  waits : Nat
  crcOk : Bool
  read : ReadFault := .none
  deriving DecidableEq, Repr

/-- A core of a cluster: CC0 or CC1 (R23). -/
structure CoreId where
  cluster : Nat
  core : Nat
  deriving DecidableEq, Repr

/-- What the guard start finds: the clusters whose scheduler identities do not hold (R260), and the device time. -/
structure GuardAt where
  badBooks : List Nat
  t : Nat
  deriving DecidableEq, Repr

/-- The level of BOOT_SEL where a boot samples it (R472), and the device time. -/
structure BootAt where
  bootSel : Bool
  t : Nat
  deriving DecidableEq, Repr

/-- The commands of the block: one constructor per row of spec/opcode_table.json, in the table's order. -/
inductive Instr where
  -- the mailbox, the sluice and the rings
  | slotSubmit (fn slot : Nat) (t : Nat)
  | inboundSlotWrite (fn slot off : Nat) (bytes : List Byte) (t : Nat)
  | commandArrival (fn slot : Nat) (failed : Option Nat) (t : Nat)
  | brineLanding (fn slot : Nat) (t : Nat)
  | mailboxResponse (fn slot : Nat) (t : Nat)
  | hubTaskTransfer (stack : Nat) (t : Nat)
  | sluiceReopen (t : Nat)
  | ringReadIndexWrite (fn r value : Nat) (t : Nat)
  | msixUnmask (fn vec : Nat) (t : Nat)
  -- registers with a row of their own
  | mbxWriteDiscardRead (fn : Nat) (sameCycle : Bool) (t : Nat)
  | hubTimeLoRead (fn : Nat) (t : Nat)
  | counterLoRead (fn scope inst idx : Nat) (shadow sameCycleReset : Bool) (t : Nat)
  | pwrRtcLoRead (master rtc : Nat) (t : Nat)
  | secTamperLogLoRead (master i : Nat) (t : Nat)
  | hubResetWarm (fn value : Nat) (t : Nat)
  | cfwBeat (ssv : Nat) (t : Nat)
  | registerWrite (space : RegSpace) (fn off size value hwSet : Nat) (t : Nat)
  -- device group
  | devIdentify (fn slot : Nat) (t : Nat)
  | devStatus (fn slot : Nat) (t : Nat)
  | devKey (fn slot : Nat) (t : Nat)
  | devTimeSource (fn slot : Nat) (t : Nat)
  -- session group
  | sesOpen (fn slot : Nat) (t : Nat)
  | sesBind (fn slot : Nat) (t : Nat)
  | sesSet (fn slot : Nat) (t : Nat)
  | sesStart (fn slot : Nat) (t : Nat)
  | sesStop (fn slot : Nat) (t : Nat)
  | sesRecover (fn slot : Nat) (t : Nat)
  | sesClose (fn slot : Nat) (t : Nat)
  | sesStatus (fn slot : Nat) (t : Nat)
  -- images group
  | imgLoad (fn slot : Nat) (t : Nat)
  | imgUnload (fn slot : Nat) (t : Nat)
  | imgList (fn slot : Nat) (t : Nat)
  | imageCopyComplete (kind slot : Nat) (t : Nat)
  -- world and brine group
  | brine (fn slot : Nat) (t : Nat)
  | brineUrgent (fn slot : Nat) (t : Nat)
  | worldStatus (fn slot : Nat) (t : Nat)
  | panRead (fn slot : Nat) (t : Nat)
  -- frames and queries group
  | frameConfig (fn slot : Nat) (t : Nat)
  | gridStart (fn slot : Nat) (t : Nat)
  | gridStop (fn slot : Nat) (t : Nat)
  | streamAdd (fn slot : Nat) (t : Nat)
  | streamResize (fn slot : Nat) (t : Nat)
  | streamRemove (fn slot : Nat) (t : Nat)
  | querySubmit (fn slot : Nat) (t : Nat)
  -- results group
  | ringRegister (fn slot : Nat) (t : Nat)
  | ringRelease (fn slot : Nat) (t : Nat)
  | resultLast (fn slot : Nat) (t : Nat)
  -- determinism group
  | recordStart (fn slot : Nat) (t : Nat)
  | recordStop (fn slot : Nat) (t : Nat)
  | captureRelease (fn slot : Nat) (t : Nat)
  | opDigestSet (fn slot : Nat) (t : Nat)
  | replayStart (fn slot : Nat) (t : Nat)
  | replayFeed (fn slot : Nat) (t : Nat)
  | replayStop (fn slot : Nat) (t : Nat)
  | pause (fn slot : Nat) (t : Nat)
  | save (fn slot : Nat) (t : Nat)
  | restore (fn slot : Nat) (t : Nat)
  | resume (fn slot : Nat) (t : Nat)
  | slipLogRead (fn slot : Nat) (t : Nat)
  -- observability group
  | ctrRead (fn slot : Nat) (t : Nat)
  | ctrSelect (fn slot : Nat) (t : Nat)
  | freeze (fn slot : Nat) (t : Nat)
  | traceConfig (fn slot : Nat) (t : Nat)
  | traceRead (fn slot : Nat) (t : Nat)
  | breakSet (fn slot : Nat) (t : Nat)
  | breakClear (fn slot : Nat) (hitSameCycle : Bool) (t : Nat)
  | breakResume (fn slot : Nat) (t : Nat)
  -- safety, calibration and lifecycle group
  | safetyStatus (fn slot : Nat) (ssv : Nat) (t : Nat)
  | safetyBind (fn slot : Nat) (t : Nat)
  | safeRelease (fn slot : Nat) (ssv : Nat) (t : Nat)
  | calRead (fn slot : Nat) (t : Nat)
  | calWrite (fn slot : Nat) (t : Nat)
  | lifecycleSet (fn slot : Nat) (t : Nat)
  | debugUnlock (fn slot : Nat) (t : Nat)
  | ledgerRead (fn slot : Nat) (t : Nat)
  -- fabric group
  | fabStatus (fn slot : Nat) (t : Nat)
  | fabPorts (fn slot : Nat) (t : Nat)
  | fabCensus (fn slot : Nat) (t : Nat)
  | fabRouteRead (fn slot : Nat) (t : Nat)
  | fabNodeBind (fn slot : Nat) (t : Nat)
  | fabShard (fn slot : Nat) (t : Nat)
  | fabFarm (fn slot : Nat) (t : Nat)
  -- firmware and dump group
  | fwStage (fn slot : Nat) (t : Nat)
  | fwCommit (fn slot : Nat) (t : Nat)
  | fwStatus (fn slot : Nat) (t : Nat)
  | dumpRead (fn slot : Nat) (t : Nat)
  | dumpTarget (fn slot : Nat) (t : Nat)
  | dumpClear (fn slot : Nat) (t : Nat)
  -- SPDM through DOE
  | getVersion (req : List Byte) (t : Nat)
  | getCapabilities (req : List Byte) (t : Nat)
  | negotiateAlgorithms (req : List Byte) (baseAsymEd25519 baseHashSha512 others : Bool) (t : Nat)
  | getDigests (req : List Byte) (t : Nat)
  | getCertificate (chainSlot offset length : Nat) (req : List Byte) (t : Nat)
  | challenge (chainSlot : Nat) (req : List Byte) (t : Nat)
  | getMeasurements (index : Nat) (sign : Bool) (req : List Byte) (t : Nat)
  | doeDiscovery (index : Nat) (t : Nat)
  | doeAbort (t : Nat)
  -- PCIe links, functions and time sources
  | perstNAssert (t : Nat)
  | perstNDeassert (gpio3 refclkToggles : Bool) (t : Nat)
  | pcieLinkReset (linkB : Bool) (t : Nat)
  | dlDown (linkB : Bool) (t : Nat)
  | flr (fn : Nat) (t : Nat)
  | flrComplete (fn : Nat) (t : Nat)
  | vfRemove (vfEnable : Bool) (numVfs : Nat) (t : Nat)
  | pcieReplay (linkB : Bool) (delay : Nat) (t : Nat)
  | poisonedInboundWrite (fn : Nat) (t : Nat)
  | ptmDialog (masterNs : Option Nat) (t : Nat)
  | ppsEdge (t : Nat)
  -- the frame
  | frameOpen (ssv : Nat) (t : Nat)
  | assayStart (stack : Nat) (t : Nat)
  | assayComplete (stack : Nat) (sigs : List Nat) (t : Nat)
  | assayLate (stack : Nat) (t : Nat)
  | brineApply (fn slot : Nat) (t : Nat)
  | brineCutoff (t : Nat)
  | urgentCheckpoint (j : Nat) (t : Nat)
  | urgentApply (fn slot : Nat) (t : Nat)
  | harvestDeadline (t : Nat)
  | engineDrainEnd (cluster : Nat) (t : Nat)
  | harvestStart (t : Nat)
  | harvestNode (stream level pos : Nat) (t : Nat)
  | attemptStart (stream : Nat) (t : Nat)
  | attemptResult (stream : Nat) (t : Nat)
  | reverifyCutoff (t : Nat)
  | commit (stream : Nat) (t : Nat)
  | publishDeadline (t : Nat)
  | publishEnd (t : Nat)
  | rakeStart (t : Nat)
  | rakeItemDone (unit item : Nat) (ok : Bool) (taps : Nat) (temp : Int) (osc : List Nat) (t : Nat)
  | guardStart (t : GuardAt)
  | frameHung (t : Nat)
  | captureDrain (bytes : Nat) (t : Nat)
  -- cluster scheduling
  | taskOffer (cluster : Nat) (producer : Producer) (task : TaskDesc) (t : CycleAt)
  | tokenDelivery (cluster entry : Nat) (operand : Delivery) (t : CycleAt)
  | taskCompletion (cluster unit : Nat) (successors : List TaskDesc) (bookOk : Bool) (t : CycleAt)
  | unitTake (cluster unit : Nat) (read : ReadFault) (t : Nat)
  | delayRelease (cluster entry : Nat) (t : CycleAt)
  | clusterWake (cluster : Nat) (t : Nat)
  | pllRestart (stack : Nat) (t : Nat)
  | nocCreditTimeout (stack endpoint : Nat) (t : Nat)
  -- proposal, checking, smoothing
  | contextRun (stream cluster : Nat) (t : Nat)
  | headBlock (stream cluster : Nat) (t : Nat)
  | localBlock (stream cluster : Nat) (t : Nat)
  | distBuild (job : Nat) (t : Nat)
  | resolutionRequest (cluster query : Nat) (read : HbmRead) (t : Nat)
  | check (cluster stream g : Nat) (t : Nat)
  | recheck (cluster stream g : Nat) (t : Nat)
  | repair (stream : Nat) (t : Nat)
  | stop (stream : Nat) (t : Nat)
  | probe (cluster stream g : Nat) (t : Nat)
  | reverify (stream : Nat) (t : Nat)
  | costProgram (cluster stream g stage : Nat) (t : Nat)
  | topkCut (cluster stream : Nat) (t : Nat)
  | factorisation (core : CoreId) (stream g block : Nat) (t : Nat)
  | solverIteration (cluster stream : Nat) (gs : List Nat) (t : Nat)
  | timeScalingOp (cluster stream g : Nat) (t : Nat)
  -- memory
  | bgtStep (cluster : Nat) (running faultFound : Bool) (t : Nat)
  | hbmTempRead (hbm : Nat) (tempC : Int) (t : Nat)
  -- safety
  | wdogEdge (level : Bool) (ssv : Nat) (t : Nat)
  | wdogLost (ssv : Nat) (t : Nat)
  | cfwSilent (ssv : Nat) (t : Nat)
  | timeBaseCheck (ssv : Nat) (t : Nat)
  | cpLockstep (pair : Nat) (t : Nat)
  | ssvLockstep (t : Nat)
  | latentOverdue (unit item : Nat) (t : Nat)
  | rakeOverdue (unit item : Nat) (t : Nat)
  | dumpWritten (t : Nat)
  | selfTestComplete (failures : List TestFailure) (t : Nat)
  | healthPageWrite (t : Nat)
  -- fabric events
  | portUp (port : Nat) (rtt : Nat) (neighbour : List Byte) (neighbourId : Nat) (t : Nat)
  | portDown (port : Nat) (t : Nat)
  | flitReceive (port : Nat) (flit : Flit) (t : Nat)
  | nackReceive (port lack : Nat) (t : Nat)
  | creditFlit (port : Nat) (t : Nat)
  | grant (msg : GrantAnswer) (t : Nat)
  | hail (port : Nat) (neighbour : List Byte) (t : Nat)
  | censusStart (epoch : Nat) (t : Nat)
  | selfCensus (t : Nat)
  | report (r : CensusReport) (port : Nat) (t : Nat)
  | collectEnd (t : Nat)
  | route (r : RouteMsg) (t : Nat)
  | verifyOk (node : Nat) (ok : VerifyAnswer) (t : Nat)
  | enable (epoch : Nat) (t : Nat)
  | censusTimeout (t : Nat)
  | ping (port : Nat) (t : Nat)
  | fabricBrineArrival (port src : Nat) (urgent : Bool) (world seq : Nat) (records : List Byte) (t : Nat)
  | brineCompletion (msg status statusArg frame : Nat) (t : Nat)
  | farmReq (port src : Nat) (body : List Byte) (t : Nat)
  | farmReply (port : Nat) (body : List Byte) (t : Nat)
  -- freeze, trace, breakpoints
  | freezeGo (t : Nat)
  | trigInEdge (t : Nat)
  | fabricFreeze (t : Nat)
  | freezeInstant (t : Nat)
  | freezeShadowsDone (t : Nat)
  | traceUnitWrite (buffer source : Nat) (bytes : List Byte) (t : Nat)
  | breakHit (index unit cluster pc layer operator : Nat) (t : Nat)
  -- power, clocks, management
  | auxRise (gpio0 gpio1 perstHigh lidOpen tamperLow : Bool) (t : Nat)
  | auxLoss (t : Nat)
  | mainInRange (t : Nat)
  | boot (t : BootAt)
  | undervoltage (t : Nat)
  | overvoltage (t : Nat)
  | railsOff (t : Nat)
  | railFault (t : Nat)
  | thermalTrip (tripped : Nat) (hub hbm : Bool) (excursion : Option Bool) (t : Nat)
  | thermalStep (stack : Nat) (temps : List Int) (t : Nat)
  | powerSample (power : Nat) (avg10ms : Nat) (voltage : Nat) (t : Nat)
  | clockMonitor (ok : Bool) (lostReference : Bool) (t : Nat)
  | tamperEvent (sources : List Nat) (rtc : Nat) (t : Nat)
  | pwrCtlOff (value : Nat) (t : Nat)
  | pwrCtlWake (value : Nat) (t : Nat)
  | pwrCtlRestart (value : Nat) (t : Nat)
  | wakeNTimeout (t : Nat)
  | smbAlertResponse (t : Nat)
  | hubOnlyExit (stack : Nat) (t : Nat)
  | hubOnlyEntry (stack : Nat) (t : Nat)
  | jtagInstruction (code : Nat) (t : Nat)
  | dlUp (linkB : Bool) (width speed : Nat) (flit : Bool) (t : Nat)
  | busMasterEnable (fn : Nat) (on : Bool) (t : Nat)
  | healthyWaveformEdge (readA readB : Bool) (ssv : Nat) (t : Nat)
  | timeCorrApply (correction : Int) (source : Nat) (t : Nat)
  deriving DecidableEq, Repr

end Sys2Proof
end

