-- ==== Sys2Proof/WellFormed.lean ====
section
/-!
DEFINITION. Sys2Proof/WellFormed.lean: which commands name units, slots and fields that the device has.
-/
namespace Sys2Proof

/-- `v` is below the count of a unit or the bound of a field. -/
def below (v n : Nat) : Bool := decide (v < n)
/-- Functions are 0-16 (R308). -/
def fnOk (fn : Nat) : Bool := below fn 17
/-- Each function has request slots 0-31 (R308). -/
def slotOk (fn slot : Nat) : Bool := fnOk fn && below slot 32
/-- A brine command: a function's slot, or 17 and the number of a command that arrived over the fabric (R387). -/
def brineSlotOk (fn slot : Nat) : Bool := slotOk fn slot || (fn == 17 && below slot 65536)
/-- Image slots by kind (R336). -/
def imageSlotOk (kind slot : Nat) : Bool :=
  (kind == 1 && below slot 4) || (kind == 2 && below slot 8) || (kind == 3 && below slot 4) || (kind == 4 && below slot 8)
/-- The index of a failing descriptor is below 64 (R316). -/
def failedOk : Option Nat → Bool
  | none => true
  | some i => below i 64
/-- Streams are 0-255; 256 and up name the guest streams of the frame in the order in which they were admitted (R390). -/
def streamOk (stream : Nat) : Bool := below stream 512
/-- Counter scopes, instances and indices (Table 20.1). -/
def counterOk (scope inst idx : Nat) : Bool :=
  (scope == 0 && below inst 64 && below idx 64) || (scope == 1 && below inst 4 && below idx 32)
    || (scope == 2 && inst == 0 && below idx 64) || (scope == 3 && below inst 16 && below idx 16)
/-- Rake units are clusters 0-63 with items 1-11, and the hub (64) with items 1-16 (Table 17.4). -/
def rakeItemOk (unit item : Nat) : Bool :=
  decide (1 ≤ item) && ((below unit 64 && below item 12) || (unit == 64 && below item 17))
/-- A failure names a rake item, or a cluster's assay with some differing units (R405, R409). -/
def TestFailure.wf (f : TestFailure) : Bool :=
  rakeItemOk f.unit f.item || (f.item == 0 && below f.unit 64 && decide (0 < f.mask) && below f.mask 256)
/-- The operations whose tasks are PINNED (R254). -/
def TaskOp.pinned (o : TaskOp) : Bool :=
  [TaskOp.distBuild, .stop, .repair, .carriedRecheck, .contextCopy, .firstBlock, .harvestNode, .reverify].contains o
/-- The operations whose tasks have SAFETY set (R244). -/
def TaskOp.safety (o : TaskOp) : Bool := o == .assay || o == .rake
/-- The operations whose tasks have KEEP set (R244). -/
def TaskOp.keep (o : TaskOp) : Bool := o == .distBuild || o == .stop
/-- PHASE of an operation's tasks (Table 02.1; DIST_BUILD takes 4, R112). -/
def TaskOp.phase : TaskOp → Nat
  | .assay => 3
  | .distBuild | .stop | .repair => 4
  | .context | .contextCopy | .firstBlock | .block | .repairBlock => 5
  | .check => 6
  | .preRank => 7
  | .smooth | .timeScale => 8
  | .recheck | .carriedRecheck => 9
  | .harvestNode => 10
  | .reverify => 11
  | .rake => 13
/-- A descriptor fits the fields of Table 10.2, its flags and phase are those of its operation (R244, R254), and a repair block or
rake slice has a release tick (R250). -/
def TaskDesc.wf (d : TaskDesc) : Bool :=
  below d.layerId 65536 && below d.operatorId 65536 && d.phase == d.op.phase && below d.unit 6 && below d.tokens 8 &&
  below d.succExtra 8 && below d.stream 256 && below d.age 65536 && below d.args (2 ^ 32) && below d.release 20001 &&
  d.safety == d.op.safety && d.keep == d.op.keep && d.pinned == d.op.pinned &&
  !((d.op == .repairBlock || d.op == .rake) && d.release == 0) &&
  (match d.target with
    | none => true
    | some p => d.pinned && below p 64)
/-- A DMA transfer stays inside a scratchpad, and its address inside the internal address space (R262, R265). -/
def DmaDesc.wf (d : DmaDesc) : Bool := below (d.src + d.len) (2 ^ 48 + 1) && below (d.off + d.len) (0x400000 + 1)
/-- A register write names a register space, an offset inside its window, a size in bytes and a value (Table 15.13). -/
def registerWriteOk (space : RegSpace) (fn off size value hwSet : Nat) : Bool :=
  fnOk fn && below value (2 ^ 64) && below hwSet (2 ^ 64) && decide (1 ≤ size) && below size 9 &&
  match space with
  | .bar0 => below off 65536
  | .bar4 => fn == 0 && below off 16777216
  | .smbus => below off 256
  | .msixControl | .deviceControl | .deviceControl2 | .linkControl | .aerControl => true

/-- A well-formed command. -/
def Instr.wf : Instr → Bool
  | .slotSubmit fn slot _ => slotOk fn slot
  | .inboundSlotWrite fn slot off bytes _ => slotOk fn slot && decide (off + bytes.length ≤ 4096)
  | .commandArrival fn slot failed _ => slotOk fn slot && failedOk failed
  | .brineLanding fn slot _ => slotOk fn slot
  | .mailboxResponse fn slot _ => slotOk fn slot
  | .hubTaskTransfer stack _ => below stack 4
  | .sluiceReopen _ => true
  | .ringReadIndexWrite fn r value _ => fnOk fn && below r 33 && below value (2 ^ 32)
  | .msixUnmask fn vec _ => fnOk fn && below vec 64
  | .mbxWriteDiscardRead fn _ _ => fnOk fn
  | .hubTimeLoRead fn _ => fnOk fn
  | .counterLoRead fn scope inst idx _ _ _ => fnOk fn && counterOk scope inst idx
  | .pwrRtcLoRead master rtc _ => below master 2 && below rtc (2 ^ 64)
  | .secTamperLogLoRead master i _ => below master 2 && below i 16
  | .hubResetWarm fn value _ => fnOk fn && below value (2 ^ 32)
  | .cfwBeat _ _ => true
  | .registerWrite space fn off size value hwSet _ => registerWriteOk space fn off size value hwSet
  | .devIdentify fn slot _ => slotOk fn slot
  | .devStatus fn slot _ => slotOk fn slot
  | .devKey fn slot _ => slotOk fn slot
  | .devTimeSource fn slot _ => slotOk fn slot
  | .sesOpen fn slot _ => slotOk fn slot
  | .sesBind fn slot _ => slotOk fn slot
  | .sesSet fn slot _ => slotOk fn slot
  | .sesStart fn slot _ => slotOk fn slot
  | .sesStop fn slot _ => slotOk fn slot
  | .sesRecover fn slot _ => slotOk fn slot
  | .sesClose fn slot _ => slotOk fn slot
  | .sesStatus fn slot _ => slotOk fn slot
  | .imgLoad fn slot _ => slotOk fn slot
  | .imgUnload fn slot _ => slotOk fn slot
  | .imgList fn slot _ => slotOk fn slot
  | .imageCopyComplete kind slot _ => imageSlotOk kind slot
  | .brine fn slot _ => slotOk fn slot
  | .brineUrgent fn slot _ => slotOk fn slot
  | .worldStatus fn slot _ => slotOk fn slot
  | .panRead fn slot _ => slotOk fn slot
  | .frameConfig fn slot _ => slotOk fn slot
  | .gridStart fn slot _ => slotOk fn slot
  | .gridStop fn slot _ => slotOk fn slot
  | .streamAdd fn slot _ => slotOk fn slot
  | .streamResize fn slot _ => slotOk fn slot
  | .streamRemove fn slot _ => slotOk fn slot
  | .querySubmit fn slot _ => slotOk fn slot
  | .ringRegister fn slot _ => slotOk fn slot
  | .ringRelease fn slot _ => slotOk fn slot
  | .resultLast fn slot _ => slotOk fn slot
  | .recordStart fn slot _ => slotOk fn slot
  | .recordStop fn slot _ => slotOk fn slot
  | .captureRelease fn slot _ => slotOk fn slot
  | .opDigestSet fn slot _ => slotOk fn slot
  | .replayStart fn slot _ => slotOk fn slot
  | .replayFeed fn slot _ => slotOk fn slot
  | .replayStop fn slot _ => slotOk fn slot
  | .pause fn slot _ => slotOk fn slot
  | .save fn slot _ => slotOk fn slot
  | .restore fn slot _ => slotOk fn slot
  | .resume fn slot _ => slotOk fn slot
  | .slipLogRead fn slot _ => slotOk fn slot
  | .ctrRead fn slot _ => slotOk fn slot
  | .ctrSelect fn slot _ => slotOk fn slot
  | .freeze fn slot _ => slotOk fn slot
  | .traceConfig fn slot _ => slotOk fn slot
  | .traceRead fn slot _ => slotOk fn slot
  | .breakSet fn slot _ => slotOk fn slot
  | .breakClear fn slot _ _ => slotOk fn slot
  | .breakResume fn slot _ => slotOk fn slot
  | .safetyStatus fn slot _ _ => slotOk fn slot
  | .safetyBind fn slot _ => slotOk fn slot
  | .safeRelease fn slot _ _ => slotOk fn slot
  | .calRead fn slot _ => slotOk fn slot
  | .calWrite fn slot _ => slotOk fn slot
  | .lifecycleSet fn slot _ => slotOk fn slot
  | .debugUnlock fn slot _ => slotOk fn slot
  | .ledgerRead fn slot _ => slotOk fn slot
  | .fabStatus fn slot _ => slotOk fn slot
  | .fabPorts fn slot _ => slotOk fn slot
  | .fabCensus fn slot _ => slotOk fn slot
  | .fabRouteRead fn slot _ => slotOk fn slot
  | .fabNodeBind fn slot _ => slotOk fn slot
  | .fabShard fn slot _ => slotOk fn slot
  | .fabFarm fn slot _ => slotOk fn slot
  | .fwStage fn slot _ => slotOk fn slot
  | .fwCommit fn slot _ => slotOk fn slot
  | .fwStatus fn slot _ => slotOk fn slot
  | .dumpRead fn slot _ => slotOk fn slot
  | .dumpTarget fn slot _ => slotOk fn slot
  | .dumpClear fn slot _ => slotOk fn slot
  | .getVersion _ _ => true
  | .getCapabilities _ _ => true
  | .negotiateAlgorithms _ _ _ _ _ => true
  | .getDigests _ _ => true
  | .getCertificate _ _ _ _ _ => true
  | .challenge _ _ _ => true
  | .getMeasurements _ _ _ _ => true
  | .doeDiscovery index _ => below index 256
  | .doeAbort _ => true
  | .perstNAssert _ => true
  | .perstNDeassert _ _ _ => true
  | .pcieLinkReset _ _ => true
  | .dlDown _ _ => true
  | .flr fn _ => fnOk fn
  | .flrComplete fn _ => fnOk fn
  | .vfRemove _ numVfs _ => below numVfs 16
  | .pcieReplay _ _ _ => true
  | .poisonedInboundWrite fn _ => fnOk fn
  | .ptmDialog _ _ => true
  | .ppsEdge _ => true
  | .frameOpen _ _ => true
  | .assayStart stack _ => below stack 4
  | .assayComplete stack sigs _ => below stack 4 && decide (sigs.length = 8)
  | .assayLate stack _ => below stack 4
  | .brineApply fn slot _ => brineSlotOk fn slot
  | .brineCutoff _ => true
  | .urgentCheckpoint j _ => decide (1 ≤ j) && below j 5
  | .urgentApply fn slot _ => brineSlotOk fn slot
  | .harvestDeadline _ => true
  | .engineDrainEnd cluster _ => below cluster 64
  | .harvestStart _ => true
  | .harvestNode stream level pos _ => streamOk stream && decide (1 ≤ level ∧ level ≤ 6) && below pos (64 / 2 ^ level)
  | .attemptStart stream _ => streamOk stream
  | .attemptResult stream _ => streamOk stream
  | .reverifyCutoff _ => true
  | .commit stream _ => streamOk stream
  | .publishDeadline _ => true
  | .publishEnd _ => true
  | .rakeStart _ => true
  | .rakeItemDone unit item _ _ _ _ _ => rakeItemOk unit item
  | .guardStart t => t.badBooks.all fun p => below p 64
  | .frameHung _ => true
  | .captureDrain _ _ => true
  | .taskOffer cluster _ task _ => below cluster 64 && task.wf
  | .tokenDelivery cluster _ operand _ => below cluster 64 && operand.dma.wf
  | .taskCompletion cluster unit successors _ _ => below cluster 64 && below unit 6 && successors.all (·.wf)
  | .unitTake cluster unit _ _ => below cluster 64 && below unit 6
  | .delayRelease cluster _ _ => below cluster 64
  | .clusterWake cluster _ => below cluster 64
  | .pllRestart stack _ => below stack 4
  | .nocCreditTimeout stack endpoint _ => below stack 4 && below endpoint 19
  | .contextRun stream cluster _ => below cluster 64 && streamOk stream
  | .headBlock stream cluster _ => below cluster 64 && streamOk stream
  | .localBlock stream cluster _ => below cluster 64 && streamOk stream
  | .distBuild _ _ => true
  | .resolutionRequest cluster _ _ _ => below cluster 64
  | .check cluster stream _ _ => below cluster 64 && streamOk stream
  | .recheck cluster stream _ _ => below cluster 64 && streamOk stream
  | .repair stream _ => streamOk stream
  | .stop stream _ => streamOk stream
  | .probe cluster stream _ _ => below cluster 64 && streamOk stream
  | .reverify stream _ => streamOk stream
  | .costProgram cluster stream _ stage _ => below cluster 64 && streamOk stream && below stage 2
  | .topkCut cluster stream _ => below cluster 64 && streamOk stream
  | .factorisation core stream _ _ _ => below core.cluster 64 && streamOk stream && below core.core 2
  | .solverIteration cluster stream _ _ => below cluster 64 && streamOk stream
  | .timeScalingOp cluster stream _ _ => below cluster 64 && streamOk stream
  | .bgtStep cluster _ _ _ => below cluster 64
  | .hbmTempRead hbm _ _ => below hbm 2
  | .wdogEdge _ _ _ => true
  | .wdogLost _ _ => true
  | .cfwSilent _ _ => true
  | .timeBaseCheck _ _ => true
  | .cpLockstep pair _ => below pair 2
  | .ssvLockstep _ => true
  | .latentOverdue unit item _ => rakeItemOk unit item
  | .rakeOverdue unit item _ => rakeItemOk unit item
  | .dumpWritten _ => true
  | .selfTestComplete failures _ => failures.all TestFailure.wf
  | .healthPageWrite _ => true
  | .portUp port _ _ neighbourId _ => below port 4 && below neighbourId 256
  | .portDown port _ => below port 4
  | .flitReceive port flit _ => below port 4 && below flit.vc 4
  | .nackReceive port lack _ => below port 4 && below lack 65536
  | .creditFlit port _ => below port 4
  | .grant msg _ => below msg.vc 4
  | .hail port _ _ => below port 4
  | .censusStart epoch _ => below epoch (2 ^ 32)
  | .selfCensus _ => true
  | .report r port _ => below port 4 && below r.epoch (2 ^ 32)
  | .collectEnd _ => true
  | .route r _ => below r.epoch (2 ^ 32)
  | .verifyOk node ok _ => below node 256 && below ok.epoch (2 ^ 32)
  | .enable epoch _ => below epoch (2 ^ 32)
  | .censusTimeout _ => true
  | .ping port _ => below port 4
  | .fabricBrineArrival port src _ _ _ _ _ => below port 4 && below src 64
  | .brineCompletion _ _ _ _ _ => true
  | .farmReq port src _ _ => below port 4 && below src 64
  | .farmReply port _ _ => below port 4
  | .freezeGo _ => true
  | .trigInEdge _ => true
  | .fabricFreeze _ => true
  | .freezeInstant _ => true
  | .freezeShadowsDone _ => true
  | .traceUnitWrite buffer source bytes _ => below buffer 5 && below source 256 && decide (bytes.length = 32)
  | .breakHit index _ _ _ _ _ _ => below index 16
  | .auxRise _ _ _ _ _ _ => true
  | .auxLoss _ => true
  | .mainInRange _ => true
  | .boot _ => true
  | .undervoltage _ => true
  | .overvoltage _ => true
  | .railsOff _ => true
  | .railFault _ => true
  | .thermalTrip tripped _ _ _ _ => below tripped (2 ^ 64)
  | .thermalStep stack _ _ => below stack 4
  | .powerSample _ _ _ _ => true
  | .clockMonitor _ _ _ => true
  | .tamperEvent sources _ _ => sources.all fun k => below k 5
  | .pwrCtlOff _ _ => true
  | .pwrCtlWake _ _ => true
  | .pwrCtlRestart _ _ => true
  | .wakeNTimeout _ => true
  | .smbAlertResponse _ => true
  | .hubOnlyExit stack _ => below stack 4
  | .hubOnlyEntry stack _ => below stack 4
  | .jtagInstruction code _ => below code 256
  | .dlUp _ _ _ _ _ => true
  | .busMasterEnable fn _ _ => fnOk fn
  | .healthyWaveformEdge _ _ _ _ => true
  | .timeCorrApply _ _ _ => true

end Sys2Proof
end

