-- ==== Sys2Proof/Decode.lean ====
section
/-!
DEFINITION. Sys2Proof/Decode.lean: no row of spec/opcode_table.json gives a command any bits (each row's `fields` is empty),
so no word spells a command.
-/
namespace Sys2Proof

/-- The command that a word spells by the table's bits: none, because the table gives no row any bits (log entry 15). -/
def decodeTableWord (_nbits _w : Nat) : Option Instr := none

end Sys2Proof
end

