-- ==== Sys2Proof/Machine/State.lean ====
section
/-!
DEFINITION. Sys2Proof/Machine/State.lean: everything the spec gives the SM7160, as plain data. Each field's comment names
the rule that gives it. A field's default is its value in `State.reset`: power-up of the always-on domain with the flash
and OTP of a part as shipped; rows of INVENTORY.md say which of these values the spec states and which the model chose.
-/
namespace Sys2Proof.Machine

/-- Byte-addressed memory: the listed bytes, addresses strictly rising, no listed byte 0; an unlisted byte reads 0
(log entry 3). -/
abbrev Mem := List Host.Cell

/-! ## Identity, OTP and flash -/

/-- The disabled-unit map (Table 01.5); its CRC is computed when it is reported. -/
structure Dum where
  disabled : BitVec 64 := 0
  reason : List Nat := List.replicate 64 0
  mapVersion : Nat := 0
  deriving DecidableEq, Repr

/-- One ledger entry (Table 19.10); `committed` is its separate commit bit (R450). -/
structure LedgerEntry where
  setting : Nat
  index : Nat
  value : Nat
  time : Nat
  signer : List Byte
  committed : Bool
  deriving DecidableEq, Repr

/-- A bound safety profile (R397, Table 19.7 kind 3). -/
structure Profile where
  rigHashes : List (List Byte)
  liveFloor : List Nat
  ageMax : Nat
  pMax : Nat
  body : List Byte
  deriving DecidableEq, Repr

/-- A calibration record (Table 18.5), field by field. -/
structure CalRecord where
  temp : List (Int × Nat) := List.replicate 64 (0, 32768)
  vmon : List (Int × Nat) := List.replicate 72 (0, 32768)
  pdm : List (Nat × Int) := List.replicate 64 (0, 0)
  roBase : List (Nat × Nat) := List.replicate 64 (0, 0)
  voffInit : List Int := List.replicate 64 0
  clkTrim : List Nat := List.replicate 7 0
  portLat : List (Nat × Nat) := List.replicate 4 (0, 0)
  hbmSeed : List Byte := List.replicate 1024 0
  userCounter : Nat := 0
  calFlags : Nat := 0
  deriving DecidableEq, Repr

/-- A temperature reading of sensor `i` in 1/64 °C: raw × GAIN / 2¹⁵ + OFFSET, the quotient rounded down (R427; log entry 129). -/
def CalRecord.tempOf (r : CalRecord) (i : Nat) (raw : Int) : Int :=
  let c := r.temp.getD i (0, 0)
  raw * (c.2 : Int) / 32768 + c.1

/-- Fuses and OTP (R2, R34, R434, R450). -/
structure Part where
  orderCode : Nat := 1
  serial : List Byte := List.replicate 16 0
  dum : Dum := {}
  vendorA : List Byte := []
  vendorB : List Byte := []
  revokedA : Bool := false
  owner : Option (List Byte) := none
  ownerVoid : Bool := false
  deviceSecret : List Byte := []
  certHash : List Byte := []
  ledger : List LedgerEntry := []
  lifecycle : Nat := 2
  factory : CalRecord := {}
  factoryCrcOk : Bool := true
  pendingProfile : Option Profile := none
  deriving DecidableEq, Repr

/-- Two copies of a flash area with their write counts (R436). -/
structure Paired (α : Type) where
  copy0 : Option (Nat × α) := none
  copy1 : Option (Nat × α) := none
  deriving DecidableEq, Repr

/-- The health page (R426): BOOT_COUNT, VOFF per cluster, retirement marks with their cause (1 ageing, 2 spares). -/
structure HealthPage where
  bootCount : Nat := 0
  voff : List Int := List.replicate 64 0
  marks : List (Nat × Nat) := []
  signed : Bool := true
  deriving DecidableEq, Repr

/-- A wrapped content key of the content-key area (Table 19.7 kind 5). -/
structure WrappedKey where
  wrapped : List Byte
  iv : List Byte
  tag : List Byte
  deriving DecidableEq, Repr

/-- The flash (Table 19.2): each bank as its bytes from its first manifest on. -/
structure Flash where
  bootBank : Paired Nat := {}
  userCal : Paired (List Byte) := {}
  health : Paired HealthPage := {}
  keys : Paired (List (Option WrappedKey)) := {}
  keyInstalls : List Nat := List.replicate 8 0
  certChain : List Byte := []
  banks : List (List Byte) := [[], []]
  verified : List Bool := [false, false]
  staging : Option Nat := none
  deriving DecidableEq, Repr

/-! ## The always-on domain, power and clocks -/

/-- One tamper-log slot (Table 21.19). -/
structure TamperEntry where
  source : Nat
  wiped : Bool
  standby : Bool
  rtc : Nat
  deriving DecidableEq, Repr

/-- Always-on domain: power state, SMBus registers, tamper monitor, JTAG (R466-R480). -/
structure Aon where
  auxPresent : Bool := true
  mainInRange : Bool := false
  pstate : Nat := 1
  railsUp : Bool := false
  thermTripped : Bool := false
  overLimit : Bool := false
  cause : Nat := 0
  tempHbm : Int := 0
  tempHub : Int := 0
  tempCompute : Int := 0
  tempValid : Bool := false
  power : Nat := 0
  voltage : Nat := 0
  limit : Nat := 420
  powerStep : Nat := 0
  lastStepUp : Option Nat := none
  lastStepChange : Option Nat := none
  lastOver460 : Option Nat := none
  thermStep : List Nat := [0, 0, 0, 0]
  lastThermDown : List (Option Nat) := [none, none, none, none]
  coolSince : List (Option Nat) := [none, none, none, none]
  stackTemp : List Int := [0, 0, 0, 0]
  wakeN : Bool := false
  wakeSince : Nat := 0
  shutdownSince : Nat := 0
  tripTime : Option Nat := none
  railsOffDue : Option Nat := none
  safePinsForced : Bool := false
  deriving DecidableEq, Repr

/-- Always-on domain: counters, tamper log and pins. -/
structure Management where
  rtc : Nat := 0
  rtcHi : List (Nat × Nat) := []
  logHi : List (Nat × Nat) := []
  gpio0 : Bool := false
  gpio1 : Bool := false
  smbAddress : Nat := 76
  smbAlert : Bool := false
  tamperLog : List (Option TamperEntry) := List.replicate 16 none
  tamperNext : Nat := 0
  tamperCount : Nat := 0
  lid : Bool := false
  tamperPin : Bool := false
  glitch : Bool := false
  clkMon : Bool := false
  fieldDebug : Bool := false
  bootSel : Option Bool := none
  bifurcated : Option Bool := none
  linkLatched : Bool := false
  commonClock : Bool := false
  perstAsserted : Bool := true
  jtagInstr : Nat := 0
  jtagReset : Bool := true
  jtagEffective : Nat := 255
  jtagData : Nat := 0
  vendorDebug : Bool := false
  deriving DecidableEq, Repr

/-! ## Device time -/

/-- Device time and its discipline (R367, R368, Tables 15.5, 15.6). -/
structure TimeBase where
  now : Nat := 0
  source : Nat := 0
  offset : Int := 0
  locked : Bool := false
  srcLost : Bool := false
  ppsReject : Bool := false
  stepDeferred : Bool := false
  slew : Int := 0
  ppsExpected : Option Nat := none
  ppsRejects : Nat := 0
  corrections : List (Nat × Int) := []
  deriving DecidableEq, Repr

/-! ## PCIe -/

/-- A link (R356, Table 15.11). -/
structure Link where
  up : Bool := false
  downSeen : Bool := false
  width : Nat := 0
  speed : Nat := 0
  flit : Bool := false
  deriving DecidableEq, Repr

/-- One MSI-X table entry (R365). -/
structure MsixEntry where
  addr : Nat := 0
  data : Nat := 0
  masked : Bool := true
  deriving DecidableEq, Repr

/-- One function's PCIe state (R308, R355, R360-R373). `ridxOld` holds for each ring read index written in a tick the tick and
the index at its start; `mps` and `mrrs` are the powers of two above 128 bytes, `timeout` the completion timeout's value (log
entry 140). -/
structure FnState where
  busMaster : Bool := false
  timeHi : Nat := 0
  discard : Nat := 0
  ridx : List (Nat × Nat) := []
  msixEnabled : Bool := false
  msixFnMask : Bool := false
  msix : List (Nat × MsixEntry) := []
  pendingBits : List Nat := []
  flrBusy : Bool := false
  counterHi : List (Nat × Nat) := []
  ridxOld : List (Nat × Nat × Nat) := []
  mps : Nat := 0
  mrrs : Nat := 2
  ecrcGenerate : Bool := false
  ecrcCheck : Bool := false
  aspmL1 : Bool := false
  timeout : Nat := 5
  deriving DecidableEq, Repr

/-- The PCIe controller (R355-R373). `readData` is the completion data of the last modelled register read, and
`sent` the MSI-X messages sent, oldest first (R366). -/
structure Pcie where
  linkA : Link := {}
  linkB : Link := {}
  fns : List FnState := List.replicate 17 {}
  vfEnable : Bool := false
  numVfs : Nat := 0
  readData : Nat := 0
  sent : List (Nat × Nat) := []
  aerCorrectable : Nat := 0
  aerNonFatal : Nat := 0
  doeBusy : Option (List Byte) := none
  doeResponse : List Byte := []
  spdmTranscript : List Byte := []
  spdmVersion : Bool := false
  spdmAlgorithms : Bool := false
  deriving DecidableEq, Repr

/-! ## Mailboxes, commands and rings -/

/-- A host buffer descriptor (Table 13.4). -/
structure Desc where
  addr : Nat
  len : Nat
  write : Bool
  deriving DecidableEq, Repr

/-- How far a command has gone: fetching its bulk data, held at the sluice, waiting for landing space, ready for its
opcode row, waiting for the instant its response or effect is tied to, or with its response decided. -/
inductive Stage where
  | fetching
  | held
  | landing
  | ready
  | waiting
  | done
  deriving DecidableEq, Repr

/-- A response as decided and not yet written (R318, R329). -/
structure Response where
  status : Nat
  arg : Nat := 0
  session : Option Nat := none
  payload : List Byte := []
  deriving DecidableEq, Repr

/-- One entry of the CFW command table: a device-owned slot's command (R310-R320). `landed` is the tick of its ownership write;
a command of a reset function that completes silently stands under a slot number above 31, with its message in `raw` (R373). -/
structure Cmd where
  fn : Nat
  slot : Nat
  opcode : Nat
  flags : Nat := 0
  session : Nat := 255
  layerId : Nat := 0
  operatorId : Nat := 0
  seq : Nat := 0
  descs : List Desc := []
  payload : List Byte := []
  bulk : List Byte := []
  stage : Stage := .fetching
  admitted : Bool := false
  submitted : Nat := 0
  order : Nat := 0
  arrival : Nat := 0
  frame : BitVec 32 := 0
  heldOpens : Nat := 0
  silentDrop : Bool := false
  proxyMsg : Option Nat := none
  landed : Nat := 0
  raw : List Byte := []
  response : Option Response := none
  deriving DecidableEq, Repr

/-- The mailbox logic (R308-R320): slot bytes at fn * 0x20000 + slot * 0x1000, the device-owned slots, the command table. -/
structure Mailbox where
  bytes : Mem := []
  own : List (Nat × Nat) := []
  cmds : List Cmd := []
  nextOrder : Nat := 0
  freed : List ((Nat × Nat) × Nat) := []
  deriving DecidableEq, Repr

/-- A registered ring (R321, R322); `key` is its MBX_RIDX index r of R362. -/
structure Ring where
  key : Nat
  fn : Nat
  base : Nat
  entries : Nat
  entrySize : Nat
  widxAddr : Nat
  w : Nat := 0
  eventSeq : Nat := 0
  lost : Nat := 0
  written : Bool := false
  deriving DecidableEq, Repr

/-! ## Sessions -/

/-- A session's settings (R96, R134, R153, R173, R191, R215). A crust entry `none` is UNSET. -/
structure Settings where
  crust : List (Option Nat) := List.replicate 16 (some 20) ++ List.replicate 16 none ++ List.replicate 16 (some 0)
    ++ List.replicate 16 (some 500)
  seed : Nat := 0
  smoothIters : Nat := 20
  pivotExp : Nat := 20
  attrGain : Nat := 256
  clrRef : Nat := 6400
  costParam : List Int := List.replicate 8 0
  prerankK : Nat := 8
  repairW : Nat := 3
  repairBlocks : Nat := 1
  repairLock : Nat := 16000
  baseWindow : Option (Int × Int) := none
  speedScale : Nat := 256
  moverDefer : Bool := false
  deriving DecidableEq, Repr

/-- A session (R324, Table 13.11: 0 CLOSED, 1 OPEN, 2 CONFIGURED, 3 RUNNING, 4 PAUSED, 5 FAULTED). -/
structure Session where
  state : Nat := 0
  classS : Bool := false
  fn : Nat := 0
  world : Option Nat := none
  rig : Option Nat := none
  net : Option Nat := none
  cost : Option Nat := none
  settings : Settings := {}
  pendingSet : Option Settings := none
  lastCause : Nat := 0
  stopping : Bool := false
  starting : Bool := false
  closing : Bool := false
  wholeDirty : Bool := false
  counters : List Nat := List.replicate 16 0
  deriving DecidableEq, Repr

/-! ## Images -/

/-- An image slot's common part (R336, Table 14.7): state 0 empty, 1 loading, 2 loaded, 3 unloading. -/
structure SlotState where
  state : Nat := 0
  id : Nat := 0
  hash : List Byte := List.replicate 64 0
  usable : Bool := false
  copied : Bool := false
  loader : Option (Nat × Nat) := none
  deriving DecidableEq, Repr

/-- A link record (Table 05.3). -/
structure RigLink where
  parent : Nat
  jointType : Nat
  jointIdx : Nat
  arm : Nat
  originT : List Int
  originR : List Int
  axis : List Int
  deriving DecidableEq, Repr

/-- A joint record (Table 05.3). -/
structure RigJoint where
  type : Nat
  role : Nat
  posMin : Int
  posMax : Int
  velMax : Nat
  accMax : Nat
  jerkMax : Nat
  stopAcc : Nat
  deriving DecidableEq, Repr

/-- A sphere with its error bound E (Table 05.3, R130). -/
structure RigSphere where
  link : Nat
  group : Nat
  centre : List Int
  radius : Nat
  e : Nat
  deriving DecidableEq, Repr

/-- A capsule with its error bound E (Table 05.3, R130). -/
structure RigCapsule where
  link : Nat
  group : Nat
  endA : List Int
  endB : List Int
  radius : Nat
  e : Nat
  deriving DecidableEq, Repr

/-- A tool point with its error bound E (Table 05.3, R130); `limits` are (V_MAX, D0, SLOPE) per class. -/
structure RigTool where
  link : Nat
  groupMask : Nat
  offset : List Int
  limits : List (Nat × Nat × Nat)
  e : Nat
  deriving DecidableEq, Repr

/-- A loaded rig (R116-R130); `rRig` is R_rig of R172 and `bound` each link's bounding sphere (centre, radius, E). -/
structure Rig where
  rigId : Nat := 0
  dof : Nat := 1
  arms : Nat := 0
  lift : Nat := 0
  groups : Nat := 1
  uOffset : Int := 0
  links : List RigLink := []
  joints : List RigJoint := []
  spheres : List RigSphere := []
  capsules : List RigCapsule := []
  pairs : List (Nat × Nat) := []
  lips : List (List Nat) := []
  tools : List RigTool := []
  rRig : Nat := 0
  bound : List (List Int × Nat × Nat) := []
  deriving DecidableEq, Repr

/-- A tensor format descriptor (Table 03.3). -/
structure TensorDesc where
  width : Nat
  frac : Int
  round : Nat
  certified : Bool
  hostInput : Bool
  lo : Int
  hi : Int
  tensorId : Nat
  deriving DecidableEq, Repr

/-- One operator of a network graph (Table 06.4), as the device reads it from the image: its code, input and output
tensors, the shape numbers its code needs, split mode, weights and per-channel (M, sh) of R68. -/
structure NetOp where
  code : Nat
  ins : List Nat
  out : Nat
  shape : List Nat
  split : Nat
  weights : List Int
  chans : List (Nat × Nat)
  table : List Int
  deriving DecidableEq, Repr

/-- One graph (R139, Table 06.3): its operators, its role tensors (role code, TENSOR_ID), the elements of each tensor, and
the tensors that are columns of another one: (TENSOR_ID, (source, row length, first column, columns)). -/
structure NetGraph where
  ops : List NetOp := []
  roles : List (Nat × Nat) := []
  sizes : List (Nat × Nat) := []
  views : List (Nat × Nat × Nat × Nat × Nat) := []
  deriving DecidableEq, Repr

/-- A loaded network image (Table 06.1). -/
structure Net where
  netId : Nat := 0
  dof : Nat := 1
  ncp : Nat := 4
  components : Nat := 1
  moversN : Nat := 0
  noiseDim : Nat := 0
  fvPitch : Nat := 0
  fvShift : Nat := 0
  localGraph : Bool := false
  fvDims : List Nat := [1, 1, 1]
  fvOrigin : List Int := [0, 0, 0]
  weightBytes : Nat := 0
  ctxWeightBytes : Nat := 0
  aMax : Nat := 1
  ctxCycles : Nat := 0
  headCycles : Nat := 0
  localCycles : Nat := 0
  resident : Bool := false
  weights : List Byte := []
  tensors : List TensorDesc := []
  context : NetGraph := {}
  head : NetGraph := {}
  localG : NetGraph := {}
  deriving DecidableEq, Repr

/-- A loaded cost image (Table 09.2). -/
structure Cost where
  costId : Nat := 0
  consts : List Int := []
  instrs : List Nat := []
  maxDepth : Nat := 1
  worstCycles : Nat := 0
  deriving DecidableEq, Repr

/-- A multi-part world load in progress (R337). -/
structure PartLoad where
  slot : Nat
  named : Nat
  nextPart : Nat
  bytes : List Byte
  deriving DecidableEq, Repr

/-- The image slots (R117, R135, R216, R336). -/
structure Images where
  worldSlots : List SlotState := List.replicate 4 {}
  rigSlots : List SlotState := List.replicate 8 {}
  netSlots : List SlotState := List.replicate 4 {}
  costSlots : List SlotState := List.replicate 8 {}
  rigs : List Rig := List.replicate 8 {}
  nets : List Net := List.replicate 4 {}
  costs : List Cost := List.replicate 8 {}
  partLoads : List PartLoad := []
  deriving DecidableEq, Repr

/-! ## Worlds -/

/-- A segment record (Table 04.1), DIR_BASE in device numbering. -/
structure Segment where
  sStart : Int
  length : Nat
  nextRot : List Int
  last : Bool
  dirBase : Nat
  dirSlices : Nat
  deriving DecidableEq, Repr

/-- A mover record (Table 04.6). -/
structure Mover where
  shape : Nat
  cls : Nat
  segment : Nat
  id : Nat
  centre : List Int
  extent : List Int
  rot : List Int
  vel : List Int
  tRef : Nat
  tFrom : Nat
  tTo : Nat
  velUncert : Nat
  deriving DecidableEq, Repr

/-- A workcell record (Table 04.7) of a defined workcell. -/
structure Workcell where
  id : Nat
  world : Nat
  segment : Nat
  sliceLo : Nat
  sliceHi : Nat
  iuLo : Nat
  iuHi : Nat
  ivLo : Nat
  ivHi : Nat
  fineMapBase : Nat
  cells : Nat
  deriving DecidableEq, Repr

/-- One of the four worlds (R83-R113). The pan pool, directory and fine maps lie in `State.hbm`. -/
structure World where
  loaded : Bool := false
  worldId : Nat := 0
  segments : List Segment := []
  dirBase : Nat := 0
  dirSlices : Nat := 0
  movers : List (Option Mover) := []
  prevMovers : List (Option Mover) := []
  urgent : List (Option Mover) := List.replicate 16 none
  urgentTouched : List Nat := []
  lastSeq : Nat := 0
  urgentSeq : Nat := 0
  worldTime : Nat := 0
  timeAtCutoff : Nat := 0
  dirty : List Nat := []
  urgentChanged : List Nat := []
  deriving DecidableEq, Repr

/-- An occupancy box waiting for or in DIST_BUILD (R110, R112), with its output once built. -/
structure DistJob where
  world : Nat
  cell : List Nat
  cls : Nat
  dims : List Nat
  bitmap : List Byte
  snapshot : Nat
  seq : Nat
  frame : BitVec 32
  cmd : Option (Nat × Nat) := none
  output : Option (List (List Int)) := none
  deriving DecidableEq, Repr

/-- World state shared by the worlds: pan handles (R108), workcells (R101), DIST_BUILD (R112), bad handles (R422), and the
urgent epoch of the frame (R181) with, per epoch, the slots in force and the (world, slot) pairs its application named. The area of
free-handle and world-state records (R114) has no printed layout and holds no bytes: these fields are its content (log entry 122). -/
structure Worlds where
  ws : List World := List.replicate 4 {}
  allocated : List Nat := []
  freeing : List Nat := []
  workcells : List Workcell := []
  distJobs : List DistJob := []
  badHandles : List Nat := []
  landingUsed : Nat := 0
  ingestUsed : Nat := 0
  epoch : Nat := 0
  checkpointEpochs : List Nat := []
  urgentVersions : List (List (List (Option Mover))) := []
  urgentTouches : List (Nat × List (Nat × Nat)) := []
  deriving DecidableEq, Repr

/-! ## Plans, candidates and streams -/

/-- A time-map entry (Table 08.2). -/
structure TmEntry where
  speed : Nat
  tLo : Nat
  tHi : Nat
  acc : Int
  deriving DecidableEq, Repr

/-- A swept box (Table 09.6). -/
structure SweptBox where
  sliceLo : Nat
  sliceHi : Nat
  iuLo : Nat
  iuHi : Nat
  ivLo : Nat
  ivHi : Nat
  deriving DecidableEq, Repr

/-- A verdict record (Table 07.5). -/
structure Verdict where
  g : Nat
  stream : Nat
  verdict : Nat
  steps : Nat
  minNet : List Int
  hitSigma : Nat
  hitSphere : Nat
  hitObj : Nat
  epoch : Nat
  kind : Nat
  budgetMax : Nat
  deriving DecidableEq, Repr

/-- A smoothing record (Table 08.3). -/
structure SmoothRec where
  flags : Nat := 0
  tsStatus : Nat := 0
  tsRetries : Nat := 0
  probeEpoch : Nat := 255
  iters : Nat := 0
  mapSlot : Nat := 65535
  duration : Nat := 0
  jerkInt : Nat := 0
  deriving DecidableEq, Repr

/-- The smoothing system and PCG vectors of one candidate (R195-R200): H and b after scaling, the factors of each
diagonal block (L rows, D), x, r, z, p, rz, and 0 running, 1 CONVERGED, 2 FAILED. -/
structure Solver where
  free : List Nat := []
  h : List (List Int) := []
  b : List Int := []
  factors : List (Option (List (List Int) × List Int)) := []
  x : List Int := []
  r : List Int := []
  z : List Int := []
  p : List Int := []
  rz : Int := 0
  iter : Nat := 0
  done : Nat := 0
  overflow : Bool := false
  started : Bool := false
  deriving DecidableEq, Repr

/-- A candidate on a cluster: its record (Table 06.5) and what checking, smoothing and costing have found. `origin` is
0 new, 1 repaired, 2 carried, 3 farmed; `cp` is joint-major. -/
structure Cand where
  stream : Nat
  g : Nat
  origin : Nat := 0
  component : Nat := 0
  weight : Int := 0
  flags : Nat := 0
  cp : List (List Int)
  check : Option Verdict := none
  segClear : List Int := []
  cost0 : Option Int := none
  selected : Bool := false
  solver : Solver := {}
  smooth : SmoothRec := {}
  smoothed : Bool := false
  tsDone : Bool := false
  tmProv : Option (List TmEntry) := none
  probe : Option (List (List (List Int)) × Nat) := none
  tm : List TmEntry := []
  recheck : Option Verdict := none
  swept : List SweptBox := []
  cost1 : Option Int := none
  winA : Nat := 255
  winB : Nat := 255
  dropped : Bool := false
  peer : Nat := 0
  tStart : Nat := 0
  deriving DecidableEq, Repr

/-- A shortlist entry (Table 09.5) with its control points, swept boxes and time map; `peer` orders farmed entries. -/
structure Entry where
  cost : Int
  g : Nat
  origin : Nat
  stream : Nat
  cluster : Nat
  epoch : Nat
  winA : Nat
  winB : Nat
  smooth : SmoothRec
  minNet : List Int
  tStart : Nat
  cp : List (List Int)
  swept : List SweptBox
  tm : List TmEntry
  peer : Nat := 0
  deriving DecidableEq, Repr

/-- A query tally (Table 09.7). -/
structure Tally where
  proposed : Int := 0
  repairs : Int := 0
  clearCheck : Int := 0
  smoothed : Int := 0
  tsDropped : Int := 0
  clearRecheck : Int := 0
  abandoned : Int := 0
  deriving DecidableEq, Repr

/-- A query record (Table 14.11) as admitted. -/
structure Query where
  stream : Nat
  horizon : Nat
  tStart : Nat
  speed0 : Nat
  qStart : List Int
  qGoal : List Int
  tau : List Int
  seq : Nat
  deriving DecidableEq, Repr

/-- A published plan as current motion, carried plan and source of PREV (R141, R234, R237). -/
structure Plan where
  g : Nat
  cp : List (List Int)
  tStart : Nat
  tm : List TmEntry
  swept : List SweptBox
  seq : Nat
  frame : BitVec 32
  rig : Nat
  net : Nat
  cost : Nat
  qGoal : List Int
  smooth : SmoothRec := {}
  deriving DecidableEq, Repr

/-- A stop descriptor (Table 09.11). -/
structure StopDesc where
  sigmaLo : Nat := 0
  sigmaHi : Nat := 0
  sigmaStop : Nat := 0
  speed0 : Nat := 0
  decel : Int := 0
  tStop : Nat := 0
  kind : Nat := 0
  status : Nat := 3
  verdict : Nat := 255
  epoch : Nat := 0
  planSeq : Nat := 0
  deriving DecidableEq, Repr

/-- A stream's current motion (R234); a braking stop keeps the plan it brakes on and its end time. -/
inductive Motion where
  | standstill
  | plan (p : Plan)
  | braking (p : Plan) (d : StopDesc) (endTime : Nat)
  deriving DecidableEq, Repr

/-- A guest stream's binding (R390): the home's node, the port it arrived at, the home's stream ID and frame, the world and
image slots here, the settings sent, the blocks granted and the home's key K. -/
structure Guest where
  home : Nat
  port : Nat
  stream : Nat
  homeFrame : Nat
  world : Nat
  rig : Nat
  net : Nat
  cost : Nat
  settings : Settings
  blocks : Nat
  key : Nat
  deriving DecidableEq, Repr

/-- A stream (R341-R344) and the state of its query in the frame (R226-R241). -/
structure Stream where
  id : Nat
  session : Nat
  candidates : Nat
  ageLimit : Nat
  active : Bool := false
  removing : Bool := false
  pendingCandidates : Option Nat := none
  recSeq : Nat := 0
  sealSeq : Nat := 0
  query : Option Query := none
  formed : Bool := false
  motion : Motion := .standstill
  published : Option Plan := none
  carried : Option Plan := none
  elapsed : Int := 0
  kDraw : Nat := 0
  affinity : Option Nat := none
  block0 : Option Nat := none
  contextOut : Option (List Int) := none
  blocksDone : Nat := 0
  repairDone : Nat := 0
  blocksAccepted : Nat := 0
  outOfRange : Option Nat := none
  stop : StopDesc := {}
  stopPending : Bool := false
  stopEpoch : Nat := 0
  repairWindow : Option (Nat × Nat) := none
  repairVerdict : Option Verdict := none
  repairFrozen : Bool := false
  treeNodes : List (Nat × Nat × List Entry × Tally) := []
  device : Option (List Entry) := none
  tally : Tally := {}
  attemptCodes : List Nat := []
  attempting : Option (Nat × Nat) := none
  attemptVerdict : Option Verdict := none
  agreed : Option Nat := none
  committed : Bool := false
  lastRecord : List Byte := []
  guest : Option Guest := none
  tagLayer : Nat := 0xFFFF
  tagOperator : Nat := 0xFFFF
  repairRuns : List (Nat × Nat) := []
  ssvAge : Nat := 0
  deriving DecidableEq, Repr

/-! ## Clusters and stacks -/

/-- A selectable counter slot's programme entry (Table 20.3). -/
structure CounterSel where
  scope : Nat
  inst : Nat
  idx : Nat
  event : Nat
  qual : Nat
  tagged : Bool
  cmdScope : Bool
  tagLayer : Nat
  tagOperator : Nat
  deriving DecidableEq, Repr

/-- A staged pan (R163): slot, handle, generation of its staged header (R57), the order of its last read, pins. -/
structure StagedPan where
  slot : Nat
  handle : Nat
  generation : Nat
  lastRead : Nat
  pins : Nat := 0
  deriving DecidableEq, Repr

/-- A coarse cell: segment, slice, iv, iu. -/
structure Cell where
  seg : Nat
  slice : Nat
  iv : Nat
  iu : Nat
  deriving DecidableEq, Repr

/-- A cell or fine cube as a cell address names it (R105). -/
structure CellAddr where
  cell : Cell
  fine : Bool
  idx : Nat
  deriving DecidableEq, Repr

/-- What a point query needs of HBM (R161): the directory index of its coarse cell, its fine cubes as (directory index,
FINE_IDX), and the pans it reads, with the world and the addresses at which it asks for them; and the σ and the sphere or capsule
that made it. -/
structure Need where
  sigma : Nat := 0
  sphere : Nat := 0xFFFF
  dir : Nat
  fine : List (Nat × Nat) := []
  pans : List Nat
  world : Nat := 0
  places : List (Nat × CellAddr) := []
  deriving DecidableEq, Repr

/-- A query waiting in the parking store, or behind it in the stalled front end (R161), with the check operation that made
it (kind of Table 07.5). -/
structure Parked where
  stream : Nat
  g : Nat
  kind : Nat
  need : Need
  deriving DecidableEq, Repr

/-- A check operation in flight (R161, R181): its kind of Table 07.5, stream, generator index and latched epoch. -/
structure Sweeping where
  kind : Nat
  stream : Nat
  g : Nat
  epoch : Nat
  deriving DecidableEq, Repr

/-- A drain record (Table 11.5). -/
structure DrainRecord where
  frame : BitVec 32
  msFree : Nat
  rlFree : Nat
  dlFree : Nat
  creditsOut : Nat
  atGuard : Bool
  deriving DecidableEq, Repr

/-- Gating of a cluster (R61). -/
inductive Gate where
  | on
  | clockGated
  | powerGated
  | waking
  deriving DecidableEq, Repr

/-- A task in a scheduler: the number of its entry, its descriptor, the structure whose entry it occupies and the structure
that holds its SUCC_EXTRA entries (0 matching store, 1 ready list, 2 delay list; R245-R247). -/
structure Held where
  entry : Nat
  task : TaskDesc
  seat : Nat
  extraSeat : Nat
  deriving DecidableEq, Repr

/-- A cluster's scheduler (R243-R250): the tasks of each structure and those running, by unit; the next entry number and the
AGE counter. Of the newest scheduling cycle: its number, the place in the source order of R248 reached in it, and the
entries of each structure freed in it (R249). `inHand`: entries that a completing task is handing to its successors (R247). -/
structure Scheduler where
  ms : List Held := []
  rl : List Held := []
  dl : List Held := []
  running : List (Nat × Held) := []
  nextEntry : Nat := 0
  age : Nat := 0
  cycle : Nat := 0
  source : Nat := 0
  freed : List Nat := [0, 0, 0]
  inHand : List Nat := [0, 0, 0]
  deriving DecidableEq, Repr

/-- The flow book of a producer (R259): tasks offered for the first time, and tasks accepted. -/
structure Flow where
  offered : Nat := 0
  accepted : Nat := 0
  deriving DecidableEq, Repr

/-- Private memories of a cluster core (R20, R23): 32 KiB of instructions and 32 KiB of data, which only this core
reaches. -/
structure CoreMem where
  instr : Mem := []
  data : Mem := []
  deriving DecidableEq, Repr

/-- Assay, ageing and background-test registers of a cluster (R284, R285, R406, R426): `spares` holds the spare regions, byte
`i` of spare `k` of bank `b` at b * 512 + k * 256 + i; `remapped` the regions that stay mapped to theirs; `bgtWaiting` the steps
that wait for the running one, with what their march finds. -/
structure ClusterTest where
  assaySig : List Nat := List.replicate 8 0
  assayComplete : Bool := false
  assayFrameLo : Nat := 0
  assayRunning : Bool := false
  assayPassedAt : Option Nat := none
  taps : Nat := 0
  temp : Int := 0
  osc : List Nat := [0, 0]
  slackN : Int := 0
  slackRead : Bool := false
  voff : Int := 0
  readCycle : Nat := 0
  voffCycle : Option Nat := none
  retirePending : Bool := false
  retireCause : Nat := 0
  bgtRegion : Nat := 0
  bgtFail : Bool := false
  bgtFailBank : Nat := 0
  bgtLate : Bool := false
  bgtWaiting : List Bool := []
  sparesUsed : List Nat := List.replicate 64 0
  remapped : List Nat := []
  spares : Mem := []
  deriving DecidableEq, Repr

/-- One cluster (R20-R29). `resolved` is the resolution table: directory index, 0 for its coarse cell or 1 + FINE_IDX for a fine
cube, and the order of its last read (R159, R163); `lanes` the queries in the lane queues: since when, and the pans they pin
(R161); `inFlight` the check operations whose queries wait. Of this frame: `made` the scheduler entries whose CONTEXT run or block
has been made, `taken` the schedule keys of the tasks accepted (R255), `worked` whether a task was accepted (R58), `draining`
whether an engine operation was in progress at T_h (R51). -/
structure Cluster where
  sched : Scheduler := {}
  test : ClusterTest := {}
  arithFlags : Nat := 0
  arithLast : Nat := 0
  arithFrame : Nat := 0
  counters : List Nat := List.replicate 16 0
  selCounters : List (Nat × Nat) := []
  gate : Gate := .on
  creditsOut : Nat := 0
  cands : List Cand := []
  blocks : List (Nat × Nat) := []
  repairsAccepted : List (Nat × Nat) := []
  cutDone : List Nat := []
  shortlists : List (Nat × List Entry) := []
  tallies : List (Nat × Tally) := []
  drained : Bool := false
  workDone : Bool := false
  nextLocal : Nat := 0
  contexts : List (Nat × List Int) := []
  staged : List StagedPan := []
  stagePlan : List (Nat × Nat) := []
  resolved : List (Nat × Nat × Nat) := []
  parked : List Parked := []
  lanes : List (Nat × List Nat) := []
  inFlight : List Sweeping := []
  panReads : List (Nat × Nat) := []
  panPlaces : List (Nat × Nat × CellAddr) := []
  verdicts : List Verdict := []
  readOrder : Nat := 0
  mapSlots : List Nat := []
  mapsMade : Nat := 0
  disagrees : List (BitVec 32) := []
  halted : Bool := false
  own : List TaskDesc := []
  ownFlow : Flow := {}
  made : List Nat := []
  taken : List (List Byte) := []
  worked : Bool := false
  draining : Bool := false
  cores : List CoreMem := [{}, {}]
  deriving DecidableEq, Repr

/-- A task at a dispatcher input (R253, R254): the cluster at which its probe began and the cluster to which its next offer
is due; none: a pinned task whose cluster is not yet known. -/
structure Queued where
  task : TaskDesc
  start : Option Nat := none
  next : Option Nat := none
  deriving DecidableEq, Repr

/-- One stack (R27, R270-R274, R470): dispatcher input, CFW task list, and what the stack DMA holds for retry: tasks with
their cluster, and operand tokens as (cluster, entry) (Table 10.3); which of its 16 channels hold a slot token (R271); the
credits that stay out at the store port and at both sides of the hub link (R274). -/
structure Stack where
  hubOnly : Bool := true
  pllStopped : Bool := true
  dispatcher : List Queued := []
  taskList : List TaskDesc := []
  dmaTasks : List (TaskDesc × Nat) := []
  dmaTokensHeld : List (Nat × Nat) := []
  flow : Flow := {}
  dmaFlow : Flow := {}
  dmaTokens : Nat := 16
  storeCredits : Nat := 0
  hubCredits : Nat := 0
  hubSideCredits : Nat := 0
  channels : List Bool := List.replicate 16 false
  assayCluster : Option Nat := none
  counters : List Nat := List.replicate 16 0
  selCounters : List (Nat × Nat) := []
  rakeNext : Nat := 0
  rakeTarget : Option Nat := none
  deriving DecidableEq, Repr

/-- Hub units of scheduling and memory (R257, R276, R277, R281, Table 20.2). -/
structure Hub where
  sluiceClosed : Bool := false
  counters : List Nat := List.replicate 32 0
  selCounters : List (Nat × Nat) := []
  hbmBand : List Nat := [0, 0]
  hbmTemp : List Int := [0, 0]
  secretsKeys : Bool := false
  secretsGolden : Bool := false
  secureWiped : Bool := true
  wipeDone : Option Nat := none
  deriving DecidableEq, Repr

/-! ## The frame -/

/-- Frame configuration (R39-R41). -/
structure FrameConf where
  period : Nat := 1000
  cutoff : Nat := 15
  exact : Bool := false
  deriving DecidableEq, Repr

/-- How far the frame in progress has gone. -/
inductive Phase where
  | closed
  | opened
  | afterCutoff
  | afterHarvest
  | published
  | rake
  | guarded
  deriving DecidableEq, Repr

/-- The frame grid and the frame in progress (R41-R60, R286-R306, R331). Device states: 0 IDLE, 1 GRID, 2 PAUSED,
3 REPLAY. `schedule` is what the static schedule in force was computed from (R255). -/
structure Frame where
  devState : Nat := 0
  conf : FrameConf := {}
  pendingConf : Option FrameConf := none
  counter : BitVec 32 := 0
  anyOpened : Bool := false
  t0s : Nat := 0
  k : Nat := 0
  nextOpen : Nat := 0
  openTime : Nat := 0
  frt : Nat := 0
  phase : Phase := .closed
  reverifyClosed : Bool := false
  rakeAt : Nat := 0
  overrun : Nat := 0
  abandoned : Nat := 0
  brineHeld : Nat := 0
  brineLate : Nat := 0
  slipTicks : Nat := 0
  timingSlip : Bool := false
  faultReaction : Bool := false
  resumed : Bool := false
  resumeNext : Bool := false
  digest : List Byte := List.replicate 8 0
  records : List (Nat × List Byte) := []
  schedule : List Byte := []
  deriving DecidableEq, Repr

/-- Requests that wait for a frame instant (R303, R341, R348, R385). -/
structure FrameReq where
  pausing : Bool := false
  stopping : Bool := false
  replayStopping : Bool := false
  autoPause : Bool := false
  autoPaused : Bool := false
  hostPaused : Bool := false
  haltTicks : Nat := 0
  haltSince : Option Nat := none
  faultedOpen : Bool := false
  deriving DecidableEq, Repr

/-! ## Determinism -/

/-- A TIMING_SLIP log entry (Table 12.5). -/
structure SlipEntry where
  frame : BitVec 32
  cause : Nat
  stack : Nat
  cluster : Nat
  delay : Nat
  count : Nat
  deriving DecidableEq, Repr

/-- A capture entry (Table 12.7), header fields and payload. -/
structure Capture where
  kind : Nat
  source : Nat
  slot : Nat
  when_ : Nat
  frame : BitVec 32
  order : Nat
  offset : Nat
  time : Nat
  payload : List Byte
  deriving DecidableEq, Repr

/-- One operator-digest entry (Table 12.9). -/
structure OpDigest where
  phase : Nat
  layer : Nat
  operator : Nat
  stream : Nat
  count : Nat
  digest : BitVec 64
  deriving DecidableEq, Repr

/-- Record, replay, key and slip log (R292-R306, R349). -/
structure Determinism where
  record : Bool := false
  recordNext : Bool := false
  recordEnding : Bool := false
  recordEnded : Bool := false
  overflowed : Bool := false
  captureWidx : Nat := 0
  captureDescs : List Desc := []
  ring : List Byte := []
  written : Nat := 0
  consumed : Nat := 0
  captureOrder : Nat := 0
  frameEnds : List Nat := []
  opDigest : Bool := false
  opDigestNext : Option Bool := none
  opDigests : List OpDigest := []
  slipLog : List SlipEntry := []
  keyDigest : List Byte := List.replicate 8 0
  key : List Byte := List.replicate 256 0
  replay : List Capture := []
  replayStalled : List (Nat × Nat) := []
  keyMismatch : Bool := false
  deriving DecidableEq, Repr

/-! ## Safety -/

/-- A rake item's age record: set/hub unit (0-63 cluster, 64 hub), item, time of last completion, LATENT_OVERDUE sent. -/
structure RakeItem where
  unit : Nat
  item : Nat
  last : Nat
  warned : Bool := false
  deriving DecidableEq, Repr

/-- A latched fault (R398, R414): its newest detection, the time of its first one, the clusters that earlier detections of
the code named with their times, and the functions of the class-S sessions it concerns. -/
structure Latched where
  code : Nat
  time : Nat
  cluster : Nat := 255
  frame : BitVec 32 := 0
  resets : Nat := 0
  arg : Nat := 0
  first : Nat := 0
  earlier : List (Nat × Nat) := []
  fns : List Nat := []
  deriving DecidableEq, Repr

/-- The safety supervisor (R398-R416). Pin states: 0 IDLE, 1 HEALTHY, 2 LATCHED. -/
structure Safety where
  pinState : Nat := 0
  safeA : Bool := false
  safeB : Bool := true
  latch : List Latched := []
  latchOverflow : Nat := 0
  firstCode : Nat := 0
  firstTime : Nat := 0
  keeper : Bool := false
  ssvNow : Nat := 0
  wdogLevel : Bool := false
  wdogEdge : Option Nat := none
  cfwBeat : Nat := 0
  rateRef : Option (Nat × Nat) := none
  timeBaseAt : Option Nat := none
  rakeItems : List RakeItem := []
  rakeHubNext : Nat := 0
  rakeDeferrals : Nat := 0
  disagree : Nat := 0
  ageRefused : Nat := 0
  restarts : List Nat := []
  restartPending : Option Nat := none
  warmResets : Nat := 0
  resetUnderWay : Bool := false
  quarantineNext : Bool := false
  profile : Option Profile := none
  selfTests : Nat := 0
  slackCritical : List (Nat × Nat) := []
  rakeCycle : Nat := 0
  rakeDone : List Nat := []
  deriving DecidableEq, Repr

/-! ## Boot, versions, errors, dumps -/

/-- Boot state (R333, R437): mode 0 normal, 1 QUARANTINE, 2 UNQUALIFIED_SET, 3 BOOT_FAIL; versions of the running set. -/
structure BootState where
  mode : Nat := 0
  cfwUp : Bool := false
  activeBank : Nat := 0
  cfwVersion : Nat := 0
  sfwVersion : Nat := 0
  ucodeVersion : Nat := 0
  bootVersion : Nat := 0
  imageHashes : List (List Byte) := List.replicate 4 (List.replicate 64 0)
  advance : Bool := false
  svn : Nat := 0
  vendorPub : List Byte := []
  retired : List Nat := []
  calRejected : Bool := false
  healthRejected : Bool := false
  certOk : Bool := false
  golden : List (List Nat) := []
  contentKeys : List (Option (List Byte)) := List.replicate 8 none
  effective : CalRecord := {}
  voffChanged : Bool := false
  markNew : Bool := false
  healthWritten : Option Nat := none
  deriving DecidableEq, Repr

/-- An error-log entry (Table 18.4). -/
structure ErrorEntry where
  code : Nat
  cls : Nat
  stack : Nat
  cluster : Nat
  stream : Nat
  time : Nat
  frame : BitVec 32
  count : Nat
  arg : Nat
  deriving DecidableEq, Repr

/-- The dump region (R430-R433). -/
structure Dump where
  bytes : List Byte := []
  kind : Nat := 0
  state : Nat := 0
  length : Nat := 0
  codes : List Nat := []
  writing : Option Nat := none
  minimal : Option (List Byte) := none
  target : Option Desc := none
  suppressed : Nat := 0
  suppressedEvent : Bool := false
  deriving DecidableEq, Repr

/-- The error log, the entries ever written to it, and its rate windows (R421-R423). -/
structure Errors where
  log : List ErrorEntry := []
  logged : Nat := 0
  corrWindows : List (Nat × List Nat) := []
  warned : List (Nat × Nat) := []
  dump : Dump := {}
  deriving DecidableEq, Repr

/-! ## Fabric -/

/-- A flit kept in a port's replay buffer (R376): the flit and how often it has been replayed. -/
structure Unacked where
  flit : Flit
  replays : Nat := 0
  deriving DecidableEq, Repr

/-- A Zerelet port (R374-R377). Credits are (available, outstanding) per VC, with the time at which each outstanding one was
used, oldest first (R59). -/
structure Port where
  enabled : Bool := false
  up : Bool := false
  neighbour : List Byte := []
  neighbourId : Nat := 255
  rtt : Nat := 0
  retrying : Bool := false
  replays : Nat := 0
  crcFail : Nat := 0
  txSeq : Nat := 0
  rxSeq : Nat := 0
  nacked : Bool := false
  unacked : List Unacked := []
  credits : List (Nat × Nat) := [(32, 0), (256, 0), (512, 0), (128, 0)]
  creditTimes : List (List Nat) := [[], [], [], []]
  owed : List Nat := [0, 0, 0, 0]
  rx : List Flit := []
  tx : List Flit := []
  linkOut : Option Flit := none
  pinged : Option Nat := none
  deriving DecidableEq, Repr

/-- A message waiting for its GRANT (R378). -/
structure FabMsg where
  id : Nat
  vc : Nat
  dst : Nat
  body : List Byte
  requested : Bool := false
  granted : Bool := false
  sent : Bool := false
  cmd : Option (Nat × Nat) := none
  deriving DecidableEq, Repr

/-- A shard entry (Table 16.8). -/
structure Shard where
  corridor : Nat
  home : Nat
  homeWorld : Nat
  localWorld : Nat
  sLo : Int
  sHi : Int
  base : Int
  deriving DecidableEq, Repr

/-- A farming entry (R389). -/
structure Farm where
  stream : Nat
  peer : Nat
  peerWorld : Nat
  blocks : Nat
  deriving DecidableEq, Repr

/-- A FARM_REQ or forwarded brine command bound to one of this device's frames, or a FARM_REPLY (R387, R390, R391). -/
structure FabInput where
  kind : Nat
  src : Nat
  frame : BitVec 32
  body : List Byte
  world : Nat := 0
  seq : Nat := 0
  deriving DecidableEq, Repr

/-- A request a home has sent and its query (R390, R391). -/
structure FarmSent where
  stream : Nat
  peer : Nat
  frame : BitVec 32
  query : Query
  deriving DecidableEq, Repr

/-- The fabric (R374-R393). Census states: 0 OFF, 1 COLLECT, 2 ROUTE, 3 VERIFY, 4 ACTIVE, 5 FAILED. -/
structure Fabric where
  ports : List Port := List.replicate 4 {}
  nodeId : Nat := 255
  bound : Bool := false
  leader : Nat := 255
  census : Nat := 0
  epoch : Nat := 0
  highestEpoch : Nat := 0
  nodes : Nat := 0
  censusCount : Nat := 0
  lastCensus : Nat := 0
  censusStart : Nat := 0
  quietSince : Nat := 0
  repeated : Bool := false
  again : Bool := false
  enabledAt : Option Nat := none
  reports : List CensusReport := []
  routeMsg : Option RouteMsg := none
  nextHop : List (Nat × Nat × Nat) := []
  verified : List Nat := []
  msgs : List FabMsg := []
  nextMsg : List Nat := [0, 0, 0, 0]
  answers : List (Nat × Nat) := []
  deriving DecidableEq, Repr

/-- Sharding and farming (R386-R392), with tables that take effect after the next census. -/
structure Farming where
  shards : List Shard := []
  pendingShards : Option (List Shard) := none
  farms : List Farm := []
  pendingFarms : Option (List Farm) := none
  shardsCensus : Bool := false
  farmsCensus : Bool := false
  inputs : List FabInput := []
  sent : List FarmSent := []
  usable : List (Nat × List Entry) := []
  deriving DecidableEq, Repr

/-! ## Observability -/

/-- A breakpoint record (Table 20.13) with its armed state and hits so far. -/
structure Breakpoint where
  bytes : List Byte
  armed : Bool
  hits : Nat := 0
  clearedAt : Option Nat := none
  deriving DecidableEq, Repr

/-- One trace buffer (R457-R460): units oldest first, pre and post region. -/
structure TraceBuf where
  state : Nat := 0
  units : List (List Byte) := []
  post : List (List Byte) := []
  later : Nat := 0
  overflows : Nat := 0
  triggers : Nat := 0
  hold : List (Nat × List (List Byte)) := []
  lostSince : List (Nat × Nat) := []
  dropped : Nat := 0
  deriving DecidableEq, Repr

/-- Counters' programme, FREEZE, trace and breakpoints (R451-R462). -/
structure Observability where
  programme : List CounterSel := []
  programmeNext : Option (List CounterSel) := none
  shadows : List (Nat × Nat × Nat × Nat) := []
  freezePending : Option Nat := none
  freezeRemote : Bool := false
  freezeWriting : Bool := false
  freezeTime : Nat := 0
  freezeDone : Bool := false
  trigOutEn : Bool := false
  fabricEn : Bool := false
  trigInEn : Bool := false
  trigOut : Option Nat := none
  snapPrev : Bool := false
  traceConf : List Byte := 1 :: List.replicate 191 0
  traceConfNext : Option (List Byte) := none
  buffers : List TraceBuf := List.replicate 5 {}
  breaks : List (Option Breakpoint) := List.replicate 16 none
  breaksNext : List (Nat × List Byte) := []
  cpHalted : Bool := false
  deriving DecidableEq, Repr

/-- What a state image holds (R304): the world region with its records, sessions, streams, the frame counter, the next FRT
and the key. -/
structure SavedState where
  worlds : Worlds
  hbm : Mem
  sessions : List Session
  streams : List Stream
  counter : BitVec 32
  nextFrt : Nat
  key : List Byte
  deriving DecidableEq, Repr

/-! ## The whole state -/

/-- The machine. `host` is the host memory the device's DMA reads and writes, `hbm` the HBM, `sram` the scratchpads, stack
stores and hub SRAM at their addresses of Table 11.1, `saves` the model's own record of what each state image that SAVE wrote
stands for (log entry 144), `free` its counter behind each free value, `pending` the commands waiting, first in, first out. -/
structure State where
  part : Part := {}
  flash : Flash := {}
  aon : Aon := {}
  mgmt : Management := {}
  time : TimeBase := {}
  pcie : Pcie := {}
  mbx : Mailbox := {}
  rings : List Ring := []
  sessions : List Session := List.replicate 16 {}
  images : Images := {}
  worlds : Worlds := {}
  streams : List Stream := []
  clusters : List Cluster := List.replicate 64 {}
  stks : List Stack := List.replicate 4 {}
  hub : Hub := {}
  frame : Frame := {}
  req : FrameReq := {}
  det : Determinism := {}
  safety : Safety := {}
  boot : BootState := {}
  errors : Errors := {}
  fabric : Fabric := {}
  farming : Farming := {}
  obs : Observability := {}
  host : Mem := []
  hbm : Mem := []
  sram : Mem := []
  saves : List (List Byte × SavedState) := []
  free : Nat := 0
  pending : List Instr := []
  deriving DecidableEq, Repr

/-- Why a command stops the model: none does. Every fault of the manual is a next state. -/
inductive Fault where
  deriving DecidableEq, Repr

/-- Why a command has no meaning. `notModelled` stands for a row not reached yet; safe. -/
inductive Refusal where
  | notModelled (mnemonic : String)
  deriving DecidableEq, Repr

/-- The machine right after the always-on domain starts: every field at its default above; the queue is empty. -/
def State.reset : State := {}

end Sys2Proof.Machine
end

