-- ==== Sys2Proof/Config.lean ====
section
/-!
DEFINITION. Sys2Proof/Config.lean: what the manual leaves open, as constants without a body: no proof can see a value.
Each names the rule that leaves it open and its log entry.
-/
namespace Sys2Proof.Config

/-- The model's free value number `n` (log entry 5): draws of the true random number generator (R153) and every value
that a rule leaves unstated while the machine goes on. -/
opaque freeValue : Nat → BitVec 64

/-- SHA-512 (00_scope, Standards): the manual names the standard and does not give the function (log entry 6). -/
opaque sha512 : List Byte → BitVec 512

/-- The Ed25519 public key of a seed (R435, RFC 8032; log entry 6). -/
opaque ed25519Public : List Byte → BitVec 256

/-- The Ed25519 signature by a seed over a digest (R435; log entry 6). -/
opaque ed25519Sign : List Byte → List Byte → BitVec 512

/-- Ed25519 verification: public key, digest, signature (R435; log entry 6). -/
opaque ed25519Verify : List Byte → List Byte → List Byte → Bool

/-- AES-256-GCM opening with no associated data: key, nonce, ciphertext, tag (R442, R446; log entry 6). -/
opaque aesGcmOpen : List Byte → List Byte → List Byte → List Byte → Option (List Byte)

/-- The sine in Q2.30, FLOOR, of a joint angle in 2^-26 rad: the table of R129, whose contents the manual does not give
(log entry 7). -/
opaque sinQ30 : Int → Int

/-- The cosine, as `sinQ30` (R129; log entry 7). -/
opaque cosQ30 : Int → Int

/-- The 256-entry exponent table of SOFTMAX (R146), whose contents the manual does not give (log entry 8). -/
opaque expTable : Nat → Int

/-- The centre of a link's bounding sphere (R172), which the manual does not give: from the centres and radii of the
link's spheres (log entry 26). -/
opaque boundCentre : List (List Int × Nat) → List Int

/-- How the OPERATORS, TABLES, WEIGHTS and GRAPHS sections of a network image read: the manual gives no layout for them
(log entry 9). The answer is the CONTEXT, HEAD and LOCAL graphs; none: check 5 of Table 06.2 fails. -/
opaque netSections : List (List Byte) → Option (Machine.NetGraph × Machine.NetGraph × Machine.NetGraph)

/-- The descriptor of the tensors of certified clearances (R71-R73): rig and cost images are said to carry descriptors, and
the manual gives them no place in an image (log entry 124). -/
opaque certDesc : Option Machine.TensorDesc

/-- Fraction bits of the DSU operations of LAYERNORM (R146), which the manual does not give (log entry 27): 0 the mean, 1 the
variance, 2 the square root, 3 the reciprocal. -/
opaque layerNormFrac : Nat → Nat

/-- The variance of LAYERNORM (R146) where its exact numerator is wider than the S32 operand of a DSU divide (R75): numerator,
denominator (log entry 27). -/
opaque layerNormWide : Int → Int → Int

/-- Result of an assay unit for a golden vector, as the signed SFW image carries it (R405, R438; log entry 10): image
bytes, vector, unit. -/
opaque goldenSignature : List Byte → Nat → Nat → BitVec 64

/-- Caldaha's PCIe vendor ID (R358), which the manual does not give (log entry 142). -/
opaque vendorId : BitVec 16

/-- Caldaha's 11-bit JTAG manufacturer identity (R480), which the manual does not give (log entry 106). -/
opaque manufacturerId : BitVec 11

/-- Whether the CFW can size the static schedule of Exact mode within R243 and R157 (R255) for the given numbers of
blocks and streams per stack; the manual does not give the schedule (log entry 11). -/
opaque scheduleFits : Nat → Nat → Bool

/-- The static schedule of Exact mode (R255), which the CFW computes and the manual does not give (log entry 11): what it is
computed from, and a task's key; the answer is the choice of its cluster, its place in the order of offers to that cluster and
its earliest dispatch slot, in NoC cycles from the frame open. -/
opaque staticSchedule : List Byte → List Byte → Nat × Nat × Nat

/-- The gaps of the static schedule of Exact mode in which a cluster is power-gated (R63), which the CFW computes and the manual
does not give (log entry 11): what the schedule is computed from, the cluster; begin and end of each gap in ticks from the open. -/
opaque gatingSchedule : List Byte → Nat → List (Nat × Nat)

/-- The bytes of the frame working area a configuration uses on a cluster (R266), which the CFW computes and the manual
does not give (log entry 11): streams, blocks per cluster, PRERANK_K. -/
opaque workingArea : Nat → Nat → Nat → Nat

/-- The bytes of a state image (R304), whose layout the manual does not give (log entry 24). -/
opaque stateImage : Machine.SavedState → List Byte

/-- What the bytes of a state image hold; none: its integrity check fails (R304; log entry 24). -/
opaque stateOf : List Byte → Option Machine.SavedState

/-- The capture payload of an SPDM message the manual does not lay out: request code, request, state digest
(R369, R444; SPDM 1.2 is named and not given; log entry 12). -/
opaque spdmBody : Nat → List Byte → List Byte → List Byte

/-- The bytes of the route table in force, which FAB_ROUTE_READ returns and whose layout the manual does not give (R352;
log entry 35). -/
opaque routeTable : List (Nat × Nat × Nat) → List Byte

/-- Fraction bits of the limits converted to joint LSB per (0.25 µs)^p (R204), which the manual does not give (log entry
42). -/
opaque limitFrac : Nat → Nat

/-- Fraction bits of the reciprocals of time-scaling (R204), which the manual does not give (log entry 47). -/
opaque recipFrac : Nat

/-- Fraction bits of the entries of L and of the pivot reciprocals of a factorisation (R196), which the manual does not
give (log entry 43). -/
opaque factorFrac : Nat × Nat

/-- The sections of a dump: KIND, the machine; type, FLAGS and bytes of each (R431 names their contents and gives no
layout; log entry 37). -/
opaque dumpSections : Nat → Machine.State → List (Nat × Nat × List Byte)

end Sys2Proof.Config
end

