-- ==== Sys2Proof/Machine/Bytes.lean ====
section
/-!
DEFINITION. Sys2Proof/Machine/Bytes.lean: little-endian fields (R11), CRCs, and lists that stand for hardware tables.
-/
namespace Sys2Proof.Machine

/-- The low `n` bytes of `v`, least significant first (R11). -/
def le : Nat → Nat → List Byte
  | 0, _ => []
  | n + 1, v => BitVec.ofNat 8 v :: le n (v / 256)

/-- A signed value as `n` little-endian bytes. -/
def leS (n : Nat) (v : Int) : List Byte := le n (v % (2 ^ (8 * n) : Int)).toNat

/-- The little-endian value of a byte list. -/
def ofLE : List Byte → Nat
  | [] => 0
  | b :: bs => b.toNat + 256 * ofLE bs

/-- `n` bytes at offset `off`; bytes beyond the end read 0. -/
def slice (bs : List Byte) (off n : Nat) : List Byte :=
  let p := (bs.drop off).take n
  p ++ List.replicate (n - p.length) 0

/-- The unsigned field of `n` bytes at `off`. -/
def getU (bs : List Byte) (off n : Nat) : Nat := ofLE ((bs.drop off).take n)

/-- A value read as an `n`-bit two's-complement number. -/
def toSigned (n v : Nat) : Int := if v % 2 ^ n < 2 ^ (n - 1) then (v % 2 ^ n : Nat) else ((v % 2 ^ n : Nat) : Int) - 2 ^ n

/-- The signed field of `n` bytes at `off`. -/
def getS (bs : List Byte) (off n : Nat) : Int := toSigned (8 * n) (getU bs off n)

/-- `k` signed fields of `n` bytes each from `off` on. -/
def getSs (bs : List Byte) (off n : Nat) : Nat → List Int
  | 0 => []
  | k + 1 => getS bs off n :: getSs bs (off + n) n k

/-- Bits `lo + n - 1` to `lo` of a number. -/
def bits (v lo n : Nat) : Nat := v / 2 ^ lo % 2 ^ n

/-- One bit of a number. -/
def bit (v i : Nat) : Bool := v / 2 ^ i % 2 == 1

/-- A flag as bit `i` of a word. -/
def flag (b : Bool) (i : Nat) : Nat := if b then 2 ^ i else 0

/-- All bytes zero (reserved fields, R13). -/
def allZero (bs : List Byte) : Bool := bs.all (· == 0)

/-- `n` zero bytes. -/
def zeros (n : Nat) : List Byte := List.replicate n 0

/-- Pads a byte list with zeros to a multiple of `k`. -/
def padTo (k : Nat) (bs : List Byte) : List Byte := bs ++ zeros ((k - bs.length % k) % k)

/-- Cuts a byte list to exactly `n` bytes, zero-padded. -/
def fit (n : Nat) (bs : List Byte) : List Byte := slice bs 0 n

/-- One bit of a reflected CRC. -/
def crcBit (poly : BitVec 32) (c : BitVec 32) : BitVec 32 := if c.getLsbD 0 then (c >>> 1) ^^^ poly else c >>> 1

/-- One byte of a reflected CRC. -/
def crcByte (poly : BitVec 32) (c : BitVec 32) (b : Byte) : BitVec 32 :=
  let c := c ^^^ b.setWidth 32
  crcBit poly (crcBit poly (crcBit poly (crcBit poly (crcBit poly (crcBit poly (crcBit poly (crcBit poly c)))))))

/-- A reflected CRC-32 with initial value and final inversion all ones (log entry 13). -/
def crcR (poly : BitVec 32) (bs : List Byte) : BitVec 32 := ~~~(bs.foldl (crcByte poly) 0xFFFFFFFF#32)

/-- CRC-32C, Castagnoli polynomial (00_scope, Standards; log entry 13). -/
def crc32c (bs : List Byte) : Nat := (crcR 0x82F63B78#32 bs).toNat

/-- The CRC-32 of IEEE 802.3 (Table 16.2; log entry 13). -/
def crc32Ieee (bs : List Byte) : Nat := (crcR 0xEDB88320#32 bs).toNat

/-- One bit of the CRC-64 of R302. -/
def crc64Bit (c : BitVec 64) : BitVec 64 := if c.getLsbD 63 then (c <<< 1) ^^^ 0x42F0E1EBA9EA3693#64 else c <<< 1

/-- One byte of the CRC-64 of R302. -/
def crc64Byte (c : BitVec 64) (b : Byte) : BitVec 64 :=
  let c := c ^^^ (b.setWidth 64 <<< 56)
  crc64Bit (crc64Bit (crc64Bit (crc64Bit (crc64Bit (crc64Bit (crc64Bit (crc64Bit c)))))))

/-- CRC-64 with the ECMA-182 polynomial of R302 (log entry 13). -/
def crc64 (bs : List Byte) : BitVec 64 := bs.foldl crc64Byte 0

/-- Big-endian bytes of a 512-bit digest, byte 0 most significant (R381). -/
def digestBytes (d : BitVec 512) : List Byte := (List.range 64).map fun i => (d >>> (8 * (63 - i))).setWidth 8

/-- SHA-512 of a byte list as 64 bytes. -/
def sha512 (bs : List Byte) : List Byte := digestBytes (Config.sha512 bs)

/-- The first 8 bytes of SHA-512 (R294). -/
def hash8 (bs : List Byte) : List Byte := (sha512 bs).take 8

/-- A 512-bit signature as bytes. -/
def sigBytes (d : BitVec 512) : List Byte := (List.range 64).map fun i => (d >>> (8 * i)).setWidth 8

/-- A 256-bit key as bytes. -/
def keyBytes (d : BitVec 256) : List Byte := (List.range 32).map fun i => (d >>> (8 * i)).setWidth 8

/-! ## Lists that stand for tables -/

/-- The value stored for a key, or a default. -/
def lookupD {α : Type} (d : α) (k : Nat) : List (Nat × α) → α
  | [] => d
  | (k', v) :: r => if k' = k then v else lookupD d k r

/-- Stores a value under a key: replaced in place, or added at the end. -/
def upsert {α : Type} (k : Nat) (v : α) : List (Nat × α) → List (Nat × α)
  | [] => [(k, v)]
  | (k', v') :: r => if k' = k then (k, v) :: r else (k', v') :: upsert k v r

/-- Inserts a number into an ascending list without repeats. -/
def insertAsc (n : Nat) : List Nat → List Nat
  | [] => [n]
  | m :: r => if n < m then n :: m :: r else if n = m then m :: r else m :: insertAsc n r

/-- The least number at or above `from` (within fuel) that is not in the list. -/
def leastFree (used : List Nat) (start : Nat) : Nat → Nat
  | 0 => start
  | fuel + 1 => if used.contains start then leastFree used (start + 1) fuel else start

/-- The sum of a list of integers. -/
def sumI (l : List Int) : Int := l.foldl (· + ·) 0

/-- The sum of a list of naturals. -/
def sumN (l : List Nat) : Nat := l.foldl (· + ·) 0

/-- The least of a nonempty list of integers, `d` for an empty one. -/
def minD (d : Int) : List Int → Int
  | [] => d
  | x :: r => r.foldl min x

/-- The greatest of a nonempty list of integers, `d` for an empty one. -/
def maxD (d : Int) : List Int → Int
  | [] => d
  | x :: r => r.foldl max x

/-- Element `i` of a list of integers, 0 beyond its end. -/
def at0 (l : List Int) (i : Nat) : Int := l.getD i 0

/-- Insertion of one element by a strict order `lt`, after its equals. -/
def insertBy {α : Type} (lt : α → α → Bool) (x : α) : List α → List α
  | [] => [x]
  | y :: r => if lt x y then x :: y :: r else y :: insertBy lt x r

/-- Stable insertion sort by a strict order. -/
def sortBy {α : Type} (lt : α → α → Bool) (l : List α) : List α := l.foldl (fun acc x => insertBy lt x acc) []

/-- The U64 device time that a field carries. -/
def le64 (t : Nat) : List Byte := le 8 t

/-- A counter plus one, modulo 2^48 (R451). -/
def inc48 (n : Nat) (by_ : Nat := 1) : Nat := (n + by_) % 2 ^ 48

/-- A saturating unsigned counter of `w` bits. -/
def satU (w n : Nat) : Nat := min n (2 ^ w - 1)

/-- Adds `k` to element `i` of a list of 48-bit counters. -/
def bumpAt (l : List Nat) (i : Nat) (k : Nat := 1) : List Nat := l.modify i (fun n => inc48 n k)

/-- Frame counter arithmetic of R42: `a` is later than `b`. -/
def laterFrame (a b : BitVec 32) : Bool := (a - b).toInt > 0

end Sys2Proof.Machine
end

