-- ==== Sys2Proof/Machine/Flags.lean ====
section
/-!
DEFINITION. Sys2Proof/Machine/Flags.lean: the fixed-point arithmetic of chapter 3 with the flags each operation raises
(Table 03.7): saturation, rounding, the write-back path, the range guard, the DSU and the fixed reduction tree.
-/
namespace Sys2Proof.Machine

/-- Bits of CLU_ARITH_FLAGS (Table 03.7). -/
abbrev accSat : Nat := 1
abbrev outSat : Nat := 2
abbrev geomSat : Nat := 4
abbrev coreSat : Nat := 8
abbrev guardHit : Nat := 16
abbrev guardCert : Nat := 32
abbrev divZero : Nat := 64
abbrev sqrtNeg : Nat := 128

/-- A value with the flags raised while forming it. -/
abbrev Flagged := Int × Nat

/-- The least and greatest value of a `w`-bit two's-complement format (R64). -/
def fmtMin (w : Nat) : Int := -(2 ^ (w - 1))
def fmtMax (w : Nat) : Int := 2 ^ (w - 1) - 1

/-- Saturation to `w` bits, raising `f` when the value changes (R64, R70). -/
def saturate (w : Nat) (f : Nat) (v : Int) : Flagged :=
  if v < fmtMin w then (fmtMin w, f) else if v > fmtMax w then (fmtMax w, f) else (v, 0)

/-- Saturation without a flag. -/
def sat (w : Nat) (v : Int) : Int := (saturate w 0 v).1

/-- Rounding modes by the codes of Table 03.3: 0 RNE, 1 FLOOR, 2 CEIL. -/
abbrev rne : Nat := 0
abbrev floorMode : Nat := 1
abbrev ceilMode : Nat := 2

/-- num / den rounded once (R74), den > 0. -/
def divRoundPos (num den : Int) (mode : Nat) : Int :=
  let q := num / den
  let r := num % den
  if mode = 1 then q
  else if mode = 2 then (if r = 0 then q else q + 1)
  else if 2 * r > den ∨ (2 * r = den ∧ q % 2 = 1) then q + 1 else q

/-- num / den rounded once (R74), den nonzero. -/
def divRound (num den : Int) (mode : Nat) : Int :=
  if den < 0 then divRoundPos (-num) (-den) mode else divRoundPos num den mode

/-- The right shift with rounding of R74. -/
def shiftRound (x : Int) (s : Nat) (mode : Nat) : Int := if s = 0 then x else divRoundPos x (2 ^ s) mode

/-- ceil(a / b) of naturals. -/
def ceilDiv (a b : Nat) : Nat := (a + b - 1) / b

/-- ceil(a / b) of integers, b > 0. -/
def ceilDivI (a b : Int) : Int := -((-a) / b)

/-- One bit of the integer square root, most significant first. -/
def isqrtGo (n : Nat) : Nat → Nat → Nat
  | 0, r => r
  | k + 1, r => let c := r + 2 ^ k; isqrtGo n k (if c * c ≤ n then c else r)

/-- floor(sqrt n) (R75, R171). -/
def isqrt (n : Nat) : Nat := isqrtGo n (Nat.log2 n / 2 + 1) 0

/-- ceil(sqrt n). -/
def isqrtCeil (n : Nat) : Nat := let r := isqrt n; if r * r = n then r else r + 1

/-- sqrt n rounded once: an exact half cannot occur, so RNE compares n with r * r + r. -/
def sqrtRound (n : Nat) (mode : Nat) : Nat :=
  let r := isqrt n
  if mode = 1 then r else if mode = 2 then isqrtCeil n else if n > r * r + r then r + 1 else r

/-- The DSU divide of R75 with the special cases of Table 03.6; `satFlag` is GEOM_SAT for the STS, CORE_SAT for a core. -/
def dsuDiv (satFlag : Nat) (a b : Int) (f mode : Nat) : Flagged :=
  if b = 0 then
    (if a > 0 then (fmtMax 32, divZero) else if a < 0 then (fmtMin 32, divZero) else (0, divZero))
  else saturate 32 satFlag (divRound (a * 2 ^ f) b mode)

/-- The DSU square root of R75. -/
def dsuSqrt (satFlag : Nat) (x : Int) (f mode : Nat) : Flagged :=
  if x < 0 then (0, sqrtNeg) else saturate 32 satFlag (sqrtRound (x * 2 ^ f).toNat mode : Nat)

/-- The wide DSU divide of R205: U64 operands, rounded once, never saturated; a zero divisor gives 0 (the law stalls). -/
def wideDiv (a b : Nat) (mode : Nat) : Nat := if b = 0 then 0 else (divRound a b mode).toNat

/-- The range guard of R72: clamps to the declared range and raises GUARD, and GUARD_CERT on a CERTIFIED tensor. -/
def rangeGuard (d : TensorDesc) (v : Int) : Flagged :=
  let f := if d.certified then guardHit + guardCert else guardHit
  if v < d.lo then (d.lo, f) else if v > d.hi then (d.hi, f) else (v, 0)

/-- Bits of a tensor width code (Table 03.3). -/
def widthBits (w : Nat) : Nat := if w = 0 then 4 else if w = 1 then 8 else if w = 2 then 16 else 32

/-- The write-back path of R68 from an accumulator: scale, shift, saturate, guard. -/
def writeBack (d : TensorDesc) (m sh : Nat) (acc : Int) : Flagged :=
  let s := saturate (widthBits d.width) outSat (shiftRound (acc * m) sh d.round)
  let g := rangeGuard d s.1
  (g.1, s.2 ||| g.2)

/-- Conversion between tensor formats (R69): `fin` is the source FRAC. -/
def convert (d : TensorDesc) (fin : Int) (v : Int) : Flagged :=
  let sh := fin - d.frac
  if sh ≥ 0 then writeBack d 1 sh.toNat v else writeBack d 1 0 (v * 2 ^ (-sh).toNat)

/-- One saturating accumulation at `w` bits (R66). -/
def accumulate (w : Nat) (a : Flagged) (p : Int) : Flagged :=
  let s := saturate w accSat (a.1 + p)
  (s.1, a.2 ||| s.2)

/-- Products in ascending k (R67); at S4 two products are added before each saturating addition. -/
def accumulateAll (w : Nat) (pairwise : Bool) (ps : List Int) : Flagged :=
  let rec go : List Int → Flagged → Flagged
    | [], a => a
    | [p], a => accumulate w a p
    | p :: q :: r, a => if pairwise then go r (accumulate w a (p + q)) else go r (accumulate w (accumulate w a p) q)
  go ps (0, 0)

/-- One level of the pairwise tree of R77; a missing operand passes its partner through. -/
def treeLevel {α : Type} (f : α → α → α) : List (Option α) → List (Option α)
  | [] => []
  | [x] => [x]
  | x :: y :: r => (match x, y with
      | some a, some b => some (f a b)
      | some a, none => some a
      | none, b => b) :: treeLevel f r

/-- The reduction tree of R77 with fuel for its levels. -/
def treeReduce {α : Type} (f : α → α → α) : Nat → List (Option α) → Option α
  | 0, l => l.headD none
  | n + 1, l => if l.length ≤ 1 then l.headD none else treeReduce f n (treeLevel f l)

/-- Adds two tree operands with saturation at `w` bits, keeping flags (R77). -/
def treeAdd (w fl : Nat) (a b : Flagged) : Flagged :=
  let s := saturate w fl (a.1 + b.1)
  (s.1, a.2 ||| b.2 ||| s.2)

/-- A saturating sum over the fixed tree. -/
def treeSum (w fl : Nat) (l : List Int) : Flagged :=
  (treeReduce (treeAdd w fl) (l.length + 1) (l.map fun v => some (v, 0))).getD (0, 0)

/-- Values formed without a flag. -/
def unflagged (l : List Int) : List Flagged := l.map fun v => (v, 0)

/-- Collects the values and the OR of the flags. -/
def collect (l : List Flagged) : List Int × Nat := (l.map (·.1), l.foldl (fun a x => a ||| x.2) 0)

end Sys2Proof.Machine
end

