-- ==== Sys2Proof/Machine/Ops.lean ====
section
/-!
DEFINITION. Sys2Proof/Machine/Ops.lean: the named operations every meaning is written over: the outcome of a command,
updates of each part of State, byte memory, counters, host memory and MSI-X, rings and events, trace, capture, the error
log and the detection of a fault.
-/
namespace Sys2Proof.Machine

/-- Rewrites `part`. -/
def State.modPart (f : Part → Part) (s : State) : State := { s with part := f s.part }

/-- Rewrites `flash`. -/
def State.modFlash (f : Flash → Flash) (s : State) : State := { s with flash := f s.flash }

/-- Rewrites `aon`. -/
def State.modAon (f : Aon → Aon) (s : State) : State := { s with aon := f s.aon }

/-- Rewrites `mgmt`. -/
def State.modMgmt (f : Management → Management) (s : State) : State := { s with mgmt := f s.mgmt }

/-- Rewrites `time`. -/
def State.modTime (f : TimeBase → TimeBase) (s : State) : State := { s with time := f s.time }

/-- Rewrites `pcie`. -/
def State.modPcie (f : Pcie → Pcie) (s : State) : State := { s with pcie := f s.pcie }

/-- Rewrites `mbx`. -/
def State.modMbx (f : Mailbox → Mailbox) (s : State) : State := { s with mbx := f s.mbx }

/-- Rewrites `rings`. -/
def State.modRings (f : List Ring → List Ring) (s : State) : State := { s with rings := f s.rings }

/-- Rewrites `sessions`. -/
def State.modSessions (f : List Session → List Session) (s : State) : State := { s with sessions := f s.sessions }

/-- Rewrites `images`. -/
def State.modImages (f : Images → Images) (s : State) : State := { s with images := f s.images }

/-- Rewrites `worlds`. -/
def State.modWorlds (f : Worlds → Worlds) (s : State) : State := { s with worlds := f s.worlds }

/-- Rewrites `streams`. -/
def State.modStreams (f : List Stream → List Stream) (s : State) : State := { s with streams := f s.streams }

/-- Rewrites `clusters`. -/
def State.modClusters (f : List Cluster → List Cluster) (s : State) : State := { s with clusters := f s.clusters }

/-- Rewrites `stks`. -/
def State.modStks (f : List Stack → List Stack) (s : State) : State := { s with stks := f s.stks }

/-- Rewrites `hub`. -/
def State.modHub (f : Hub → Hub) (s : State) : State := { s with hub := f s.hub }

/-- Rewrites `frame`. -/
def State.modFrame (f : Frame → Frame) (s : State) : State := { s with frame := f s.frame }

/-- Rewrites `req`. -/
def State.modReq (f : FrameReq → FrameReq) (s : State) : State := { s with req := f s.req }

/-- Rewrites `det`. -/
def State.modDet (f : Determinism → Determinism) (s : State) : State := { s with det := f s.det }

/-- Rewrites `safety`. -/
def State.modSafety (f : Safety → Safety) (s : State) : State := { s with safety := f s.safety }

/-- Rewrites `boot`. -/
def State.modBoot (f : BootState → BootState) (s : State) : State := { s with boot := f s.boot }

/-- Rewrites `errors`. -/
def State.modErrors (f : Errors → Errors) (s : State) : State := { s with errors := f s.errors }

/-- Rewrites `fabric`. -/
def State.modFabric (f : Fabric → Fabric) (s : State) : State := { s with fabric := f s.fabric }

/-- Rewrites `farming`. -/
def State.modFarming (f : Farming → Farming) (s : State) : State := { s with farming := f s.farming }

/-- Rewrites `obs`. -/
def State.modObs (f : Observability → Observability) (s : State) : State := { s with obs := f s.obs }

/-- Rewrites `host`. -/
def State.modHost (f : Mem → Mem) (s : State) : State := { s with host := f s.host }

/-- Rewrites `hbm`. -/
def State.modHbm (f : Mem → Mem) (s : State) : State := { s with hbm := f s.hbm }

/-- Rewrites `sram`. -/
def State.modSram (f : Mem → Mem) (s : State) : State := { s with sram := f s.sram }

/-- Rewrites `free`. -/
def State.modFree (f : Nat → Nat) (s : State) : State := { s with free := f s.free }

/-! ## Outcomes and time -/

/-- The outcome of a command: its effect `f` on everything but the queue. A command whose operands name a unit, slot or field
that the device does not have (not `ok`) reaches nothing and changes nothing (log entry 108). -/
def ran (ok : Bool) (s : State) (f : State → State) : Host.Outcome State Fault Refusal :=
  .next (if ok then { f s with pending := s.pending } else s)

/-- Device time moves to the command's tick; it never runs back (log entry 2). -/
def State.at (s : State) (t : Nat) : State := s.modTime fun b => { b with now := max b.now t }

/-- `ran` at device time `t`. -/
def ranAt (ok : Bool) (t : Nat) (s : State) (f : State → State) : Host.Outcome State Fault Refusal :=
  ran ok s fun s => f (s.at t)

/-- SSV time in its 20 ns ticks, which never runs back. -/
def State.atSsv (s : State) (ssv : Nat) : State := s.modSafety fun b => { b with ssvNow := max b.ssvNow ssv }

/-- A free value (log entry 5): the next one, and the state with the counter advanced. -/
def State.fresh (s : State) : BitVec 64 × State := (Config.freeValue s.free, s.modFree (· + 1))

/-- `f` when the condition holds, else nothing: an event that is not due does not happen (log entry 4). -/
def State.when_ (s : State) (c : Bool) (f : State → State) : State := if c then f s else s

/-! ## Byte memory -/

/-- Writes one byte, keeping addresses strictly rising and no byte 0 listed. -/
def Mem.write (a : Nat) (b : Byte) : Mem → Mem
  | [] => if b = 0 then [] else [(a, b)]
  | (a', b') :: r =>
    if a < a' then (if b = 0 then (a', b') :: r else (a, b) :: (a', b') :: r)
    else if a = a' then (if b = 0 then r else (a, b) :: r)
    else (a', b') :: Mem.write a b r

/-- The byte at an address; an unlisted address reads 0. -/
def Mem.read (a : Nat) : Mem → Byte
  | [] => 0
  | (a', b') :: r => if a = a' then b' else Mem.read a r

/-- Writes bytes from an address on. -/
def Mem.writeBytes : Nat → List Byte → Mem → Mem
  | _, [], m => m
  | a, b :: bs, m => Mem.writeBytes (a + 1) bs (Mem.write a b m)

/-- Reads `n` bytes from an address on. -/
def Mem.readBytes (m : Mem) (a : Nat) : Nat → List Byte
  | 0 => []
  | n + 1 => Mem.read a m :: Mem.readBytes m (a + 1) n

/-- Every listed address is above `lo` and rising, and no listed byte is 0. -/
def Mem.wfFrom : Nat → Mem → Bool
  | _, [] => true
  | lo, (a, b) :: r => decide (lo ≤ a) && b != 0 && Mem.wfFrom (a + 1) r

/-- The canonical form. -/
def Mem.wf (m : Mem) : Bool := Mem.wfFrom 0 m

/-- The byte memories of the machine are in canonical form. -/
def State.memWf (s : State) : Bool := s.host.wf && s.hbm.wf && s.sram.wf && s.mbx.bytes.wf

/-! ## Access to repeated units -/

/-- Session `i`. -/
def State.ses (s : State) (i : Nat) : Session := s.sessions.getD i {}
/-- Cluster `p`, by physical index. -/
def State.cl (s : State) (p : Nat) : Cluster := s.clusters.getD p {}
/-- Stack `i`. -/
def State.stk (s : State) (i : Nat) : Stack := s.stks.getD i {}
/-- World `w`. -/
def State.wd (s : State) (w : Nat) : World := s.worlds.ws.getD w {}
/-- Function `fn`. -/
def State.fnS (s : State) (fn : Nat) : FnState := s.pcie.fns.getD fn {}
/-- Stream `id`, if it exists. -/
def State.stream? (s : State) (id : Nat) : Option Stream := s.streams.find? (·.id == id)
/-- Fabric port `p`. -/
def State.port (s : State) (p : Nat) : Port := s.fabric.ports.getD p {}

/-- Rewrites session `i`. -/
def State.modSes (i : Nat) (f : Session → Session) (s : State) : State := s.modSessions fun l => l.modify i f
/-- Rewrites cluster `p`. -/
def State.modCl (p : Nat) (f : Cluster → Cluster) (s : State) : State := s.modClusters fun l => l.modify p f
/-- Rewrites stack `i`. -/
def State.modStk (i : Nat) (f : Stack → Stack) (s : State) : State := s.modStks fun l => l.modify i f
/-- Rewrites world `w`. -/
def State.modWd (w : Nat) (f : World → World) (s : State) : State :=
  s.modWorlds fun x => { x with ws := x.ws.modify w f }
/-- Rewrites function `fn`. -/
def State.modFn (fn : Nat) (f : FnState → FnState) (s : State) : State :=
  s.modPcie fun x => { x with fns := x.fns.modify fn f }
/-- Rewrites stream `id`. -/
def State.modStream (id : Nat) (f : Stream → Stream) (s : State) : State :=
  s.modStreams fun l => l.map fun x => if x.id = id then f x else x
/-- Rewrites fabric port `p`. -/
def State.modPort (p : Nat) (f : Port → Port) (s : State) : State :=
  s.modFabric fun x => { x with ports := x.ports.modify p f }

/-- The stack of a cluster, by physical index (R27). -/
def stackOf (p : Nat) : Nat := p / 16

/-- Whether cluster `p` is enabled (R34). -/
def State.enabled (s : State) (p : Nat) : Bool := p < 64 && !s.part.dum.disabled.getLsbD p
/-- The enabled clusters in ascending physical order. -/
def State.enabledList (s : State) : List Nat := (List.range 64).filter s.enabled
/-- The enabled clusters of a stack in ascending slot order. -/
def State.enabledIn (s : State) (k : Nat) : List Nat := s.enabledList.filter fun p => stackOf p == k
/-- The frame in progress as a number. -/
def State.frameNo (s : State) : Nat := s.frame.counter.toNat
/-- A session is RUNNING or PAUSED. -/
def Session.live (x : Session) : Bool := x.state == 3 || x.state == 4
/-- The function of the first class-S session in RUNNING or PAUSED; 0: none. -/
def State.classSFn (s : State) : Nat := ((s.sessions.find? fun x => x.classS && x.live).map (·.fn)).getD 0
/-- Some class-S session is in a given state. -/
def State.classSIn (s : State) (st : Nat → Bool) : Bool := s.sessions.any fun x => x.classS && st x.state
/-- Some class-S session is RUNNING. -/
def State.classSRunning (s : State) : Bool := s.classSIn (· == 3)
/-- Whether a stream belongs to a class-S session. -/
def State.streamClassS (s : State) (x : Stream) : Bool := (s.ses x.session).classS
/-- The grid runs: GRID or REPLAY (Table 14.1). -/
def State.gridRuns (s : State) : Bool := s.frame.devState == 1 || s.frame.devState == 3

/-! ## Counters (R451-R455) -/

/-- Adds to fixed hub counter `i`. -/
def State.bumpHub (i : Nat) (s : State) (k : Nat := 1) : State :=
  s.modHub fun h => { h with counters := bumpAt h.counters i k }
/-- Adds to fixed counter `i` of cluster `p`; ASSAY_FAIL (13) saturates. -/
def State.bumpCl (p i : Nat) (s : State) (k : Nat := 1) : State :=
  s.modCl p fun c => { c with counters :=
    if i = 13 then c.counters.modify 13 (fun n => satU 48 (n + k)) else bumpAt c.counters i k }
/-- Adds to fixed counter `i` of stack `j`. -/
def State.bumpStk (j i : Nat) (s : State) (k : Nat := 1) : State :=
  s.modStk j fun c => { c with counters := bumpAt c.counters i k }
/-- Adds to counter `i` of session `j`. -/
def State.bumpSes (j i : Nat) (s : State) (k : Nat := 1) : State :=
  s.modSes j fun c => { c with counters := bumpAt c.counters i k }

/-- A unit held an operation for cycles whose number the manual does not give: its busy counter goes up by a free amount (log
entry 88). -/
def State.busy (p i : Nat) (s : State) : State :=
  let r := s.fresh
  r.2.bumpCl p i (1 + r.1.toNat)

/-- A tag match of Tables 20.3 and 20.11: 0xFFFF matches any. -/
def tagMatch (want got : Nat) : Bool := want == 0xFFFF || want == got

/-- Adds to a selectable counter slot of a scope and instance. -/
def State.addSel (scope inst idx k : Nat) (s : State) : State :=
  let up (l : List (Nat × Nat)) := upsert idx (inc48 (lookupD 0 idx l) k) l
  if scope = 0 then s.modCl inst fun c => { c with selCounters := up c.selCounters }
  else if scope = 1 then s.modStk inst fun c => { c with selCounters := up c.selCounters }
  else s.modHub fun h => { h with selCounters := up h.selCounters }

/-- A selectable event (Table 20.4) happens `k` times in a unit, by a task or transfer with the tag. -/
def State.selEvent (scope inst event qual layer op k : Nat) (s : State) : State :=
  s.obs.programme.foldl (init := s) fun s e =>
    if e.scope = scope ∧ e.inst = inst ∧ e.event = event
      ∧ (e.qual = qual ∨ ((event = 0x01 ∨ event = 0x02) ∧ e.qual = 3) ∨ (event = 0x22 ∧ e.qual = 0xFF))
      ∧ (e.tagged = false ∨ (tagMatch e.tagLayer layer && tagMatch e.tagOperator op) = true)
    then s.addSel scope inst e.idx k else s

/-- Arithmetic flags raised by a cluster's unit: sticky OR into CLU_ARITH_FLAGS and the frame's collection (R76),
GUARD_HITS and the selectable event 0x07 per bit. -/
def State.raiseArith (p flags : Nat) (s : State) (guards : Nat := 0) : State :=
  let s := s.modCl p fun c => { c with arithFlags := c.arithFlags ||| flags, arithFrame := c.arithFrame ||| flags }
  let s := s.bumpCl p 9 guards
  (List.range 8).foldl (init := s) fun s i => if bit flags i then s.selEvent 0 p 0x07 i 0xFFFF 0xFFFF 1 else s

/-! ## Links, host memory and MSI-X (R356, R365, R366, R371) -/

/-- Whether a function lies on link B (R356). -/
def State.onLinkB (s : State) (fn : Nat) : Bool := s.mgmt.bifurcated == some true && fn != 0
/-- A function is there: PF0, PF1, or a VF that PF1 has enabled (R359). -/
def Pcie.has (p : Pcie) (fn : Nat) : Bool := fn < 2 || (p.vfEnable && fn < 2 + p.numVfs)
/-- The link that carries a function. -/
def State.carrier (s : State) (fn : Nat) : Link := if s.onLinkB fn then s.pcie.linkB else s.pcie.linkA
/-- A function's link; a request to a VF that is not there is an Unsupported Request (R359, R364). -/
def State.linkOf (s : State) (fn : Nat) : Link :=
  if s.pcie.has fn then s.carrier fn else {}
/-- A function's DMA reaches host memory: its link is up and Bus Master Enable is set (R371). -/
def State.dmaOk (s : State) (fn : Nat) : Bool := (s.linkOf fn).up && (s.fnS fn).busMaster
/-- A device write to host memory; without DMA it is lost (R357, R371). -/
def State.hostWrite (fn addr : Nat) (bs : List Byte) (s : State) : State :=
  if s.dmaOk fn then (s.modHost (Mem.writeBytes addr bs)).selEvent 2 0 0x41 1 0xFFFF 0xFFFF bs.length else s

/-- Sends the message of a vector: a posted write of its data (R365, R366). -/
def State.msixSend (fn vec : Nat) (s : State) : State :=
  let e := lookupD {} vec (s.fnS fn).msix
  let s := s.modPcie fun p => { p with sent := p.sent ++ [(fn, vec)] }
  s.modHost (Mem.writeBytes e.addr (le 4 e.data))

/-- Whether a vector may be sent now. -/
def State.msixOpen (s : State) (fn vec : Nat) : Bool :=
  let f := s.fnS fn
  f.msixEnabled && !f.msixFnMask && !(lookupD {} vec f.msix).masked && s.dmaOk fn

/-- Raises a vector: sent, or left pending (R365, R371). -/
def State.msixRaise (fn vec : Nat) (s : State) : State :=
  if s.msixOpen fn vec then s.msixSend fn vec
  else s.modFn fn fun f => { f with pendingBits := insertAsc vec f.pendingBits }

/-- Sends every pending message of a function that may now go. -/
def State.msixFlush (fn : Nat) (s : State) : State :=
  (s.fnS fn).pendingBits.foldl (init := s) fun s v =>
    if s.msixOpen fn v then
      (s.modFn fn fun f => { f with pendingBits := f.pendingBits.filter (· != v) }).msixSend fn v
    else s

/-- One more discarded inbound write of a function, saturating (Table 15.9). -/
def State.discard (fn : Nat) (s : State) : State := s.modFn fn fun f => { f with discard := satU 16 (f.discard + 1) }

/-! ## Rings and events (R321-R323) -/

/-- The read index of a ring, as it stood at the start of the cycle (R362). -/
def State.ridxOf (s : State) (r : Ring) : Nat :=
  match (s.fnS r.fn).ridxOld.find? fun x => x.1 == r.key && x.2.1 == s.time.now with
  | some x => x.2.2
  | none => lookupD 0 r.key (s.fnS r.fn).ridx
/-- The free count of a ring (R321). -/
def State.ringFree (s : State) (r : Ring) : Int :=
  (r.entries : Int) - (((r.w : Int) - s.ridxOf r) % 2 ^ 32)
/-- A ring can take an entry now: it has room and the entry would reach host memory (R357, R371). -/
def State.ringRoom (s : State) (r : Ring) : Bool := decide (s.ringFree r ≥ 1) && s.dmaOk r.fn
/-- The ring with a key. -/
def State.ring? (s : State) (key : Nat) : Option Ring := s.rings.find? (·.key == key)
/-- Rewrites the ring with a key. -/
def State.modRing (key : Nat) (f : Ring → Ring) (s : State) : State :=
  s.modRings fun l => l.map fun r => if r.key = key then f r else r

/-- Writes an entry, then W to WIDX_ADDR (R322). The caller has checked the room. -/
def State.ringPut (r : Ring) (bs : List Byte) (s : State) : State :=
  let w' := (r.w + 1) % 2 ^ 32
  let s := s.hostWrite r.fn (r.base + (r.w % r.entries) * r.entrySize) bs
  let s := s.hostWrite r.fn r.widxAddr (le 8 w')
  s.modRing r.key fun r => { r with w := w', written := true }

/-- An event entry of Table 13.9. -/
def eventEntry (type ses stream frame : Nat) (time : Nat) (seq : Nat) (payload : List Byte) : List Byte :=
  let b := le 1 type ++ le 1 ses ++ le 1 stream ++ [0] ++ le 4 frame ++ le 8 time ++ le 4 seq ++ zeros 4 ++ fit 36 payload
  b ++ le 4 (crc32c b)

/-- The MSI-X vector of a ring (Table 15.14). -/
def ringVec (key : Nat) : Nat := if key = 32 then 1 else key + 2

/-- One event to one event ring, its SESSION field `ses`: lost when there is no room, a RING_OVERFLOW first when some
were lost (R322). FAULT and SESSION_STATE raise MSI-X at once. -/
def State.eventTo (key type ses stream : Nat) (payload : List Byte) (s : State) : State :=
  match s.ring? key with
  | none => s
  | some r =>
    let own := if key = 32 then 0xFF else key / 2
    let s := if r.lost > 0 ∧ s.ringRoom r then
        (s.ringPut r (eventEntry 5 own 0xFF s.frameNo s.time.now r.eventSeq (le 4 r.lost))).modRing key
          fun r => { r with eventSeq := (r.eventSeq + 1) % 2 ^ 32, lost := 0 }
      else s
    let r := (s.ring? key).getD r
    if s.ringRoom r then
      let now := type == 2 || type == 3
      let s := s.ringPut r (eventEntry type ses stream s.frameNo s.time.now r.eventSeq payload)
      let s := s.modRing key fun x => { x with eventSeq := (x.eventSeq + 1) % 2 ^ 32, written := r.written || !now }
      if now then s.msixRaise r.fn (ringVec key) else s
    else
      let s := s.modRing key fun r => { r with eventSeq := (r.eventSeq + 1) % 2 ^ 32, lost := satU 32 (r.lost + 1) }
      if key = 32 then s else s.bumpSes (key / 2) 15

/-- A device event: the device ring and the event ring of every session in RUNNING or PAUSED (R323). -/
def State.deviceEvent (type stream : Nat) (payload : List Byte) (s : State) : State :=
  (List.range 16).foldl (init := s.eventTo 32 type 0xFF stream payload) fun s i =>
    if (s.ses i).live then s.eventTo (2 * i + 1) type 0xFF stream payload else s

/-- An event of one session. -/
def State.sessionEvent (ses type stream : Nat) (payload : List Byte) (s : State) : State :=
  s.eventTo (2 * ses + 1) type ses stream payload

/-- A session's transition with its SESSION_STATE event (R326). -/
def State.sesTo (i st cause : Nat) (s : State) : State :=
  let old := (s.ses i).state
  let s := s.modSes i fun x => { x with state := st, lastCause := cause, starting := false, stopping := false }
  s.sessionEvent i 2 0xFF (le 1 old ++ le 1 st ++ le 2 cause)

/-! ## Trace (R457-R460) -/

/-- Field of `n` bytes at `off` of buffer `b`'s part of the trace configuration (Table 20.11). -/
def State.traceCfg (s : State) (b off n : Nat) : Nat := getU s.obs.traceConf (32 + 32 * b + off) n
/-- Units a buffer holds: 1 MiB per stack, 4 MiB in the hub. -/
def traceUnits (b : Nat) : Nat := if b = 4 then 131072 else 32768
/-- Units of a buffer's post region for a POST value (R460). -/
def postUnits (b post : Nat) : Nat := post * (traceUnits b / 16)
/-- The kinds that carry LAYER_ID and OPERATOR_ID. -/
def taggedKind (k : Nat) : Bool := [2, 3, 4, 5, 6, 7, 8, 9, 0xE].contains k

/-- A source offers a record of one or two units to its hold queue (R459); a full queue drops and counts it. -/
def State.trace (b source kind : Nat) (body : List Byte) (s : State) (layer op : Nat := 0xFFFF) : State :=
  let x := s.obs.buffers.getD b {}
  let slotOk := b = 4 ∨ source ≥ 64 ∨ bit (s.traceCfg b 8 2) (source % 16)
  let tagOk := !taggedKind kind || (tagMatch (s.traceCfg b 10 2) layer && tagMatch (s.traceCfg b 12 2) op)
  if x.state = 2 ∧ s.traceCfg b 0 1 = 1 ∧ bit (s.traceCfg b 4 4) kind ∧ slotOk ∧ tagOk then
    s.modObs fun o => { o with buffers := o.buffers.modify b fun x =>
      { x with overflows := satU 24 (x.overflows + if kind = 0xD then 2 else 1) } }
  else if (x.state = 1 ∨ x.state = 3) ∧ bit (s.traceCfg b 4 4) kind ∧ slotOk ∧ tagOk then
    let two := kind = 0xD
    let whole := le 1 kind ++ le 1 source ++ le 1 (flag two 0 + flag (x.state == 3) 1) ++ [0] ++ le 4 s.time.now ++
      fit (if two then 56 else 24) body
    let units := if two then [whole.take 32, whole.drop 32] else [whole]
    let q := lookupD [] source x.hold
    if q.length + units.length > 16 then
      let s := s.modObs fun o => { o with buffers := o.buffers.modify b fun x =>
        { x with lostSince := upsert source (lookupD 0 source x.lostSince + units.length) x.lostSince,
                 overflows := satU 24 (x.overflows + units.length) } }
      if b = 4 then s.bumpHub 15 units.length else s.bumpStk b 6 units.length
    else
      let lost := lookupD 0 source x.lostSince
      let pre := if lost > 0 then
          [le 1 0xC ++ le 1 source ++ [0, 0] ++ le 4 s.time.now ++ fit 24 (le 4 lost)] else []
      s.modObs fun o => { o with buffers := o.buffers.modify b fun x =>
        { x with hold := upsert source (q ++ pre ++ units) x.hold, lostSince := upsert source 0 x.lostSince } }
  else s

/-- Body of a TRIGGER record. -/
def triggerBody (src n : Nat) : List Byte := le 1 src ++ zeros 3 ++ le 4 n

/-- A TRIGGER unit that counts a later trigger in its NUMBER. -/
def retrigger (u : List Byte) (n : Nat) : List Byte := u.take 12 ++ le 4 n ++ u.drop 16

/-- A trigger source of Table 20.11 fires: the first one opens the post region, later ones are counted in its NUMBER and in
LATER_TRIGGERS (R460; log entry 57). -/
def State.traceTrigger (src : Nat) (s : State) (only : Nat := 5) : State :=
  (List.range 5).foldl (init := s) fun s b =>
    let x := s.obs.buffers.getD b {}
    if (only = 5 ∨ only = b) ∧ s.traceCfg b 0 1 = 3 ∧ bit (s.traceCfg b 2 2) src then
      if x.state = 1 then
        let u := le 1 0xB ++ le 1 (if b = 4 then 0xFF else 0xF0 + b) ++ le 1 2 ++ [0] ++ le 4 s.time.now ++
          fit 24 (triggerBody src 1)
        s.modObs fun o => { o with
          buffers := o.buffers.modify b fun x => { x with state := 3, post := [u], triggers := 1 },
          trigOut := if bit (getU o.traceConf 2 2) 1 then some s.time.now else o.trigOut }
      else if x.state = 3 ∨ x.state = 2 then
        s.modObs fun o => { o with buffers := o.buffers.modify b fun x =>
          let n := satU 32 (x.triggers + 1)
          { x with later := min 63 (x.later + 1), triggers := n, post := x.post.modify 0 (retrigger · n) } }
      else s
    else s

/-! ## Capture, operator digests and timing-only events (R292, R298, R302) -/

/-- A capture entry (Table 12.7) with its padded payload. -/
def captureEntry (e : Capture) : List Byte :=
  let h := le 1 e.kind ++ le 1 e.source ++ le 1 e.slot ++ le 1 e.when_ ++ le 4 e.frame.toNat ++ le 4 e.order ++
    le 4 e.offset ++ le 8 e.time ++ le 4 e.payload.length
  h ++ le 4 (crc32c (h ++ zeros 4 ++ e.payload)) ++ padTo 8 e.payload

/-- Puts an entry into the capture ring, or OVERFLOW into the 64 bytes kept free, which ends recording (R299). -/
def State.capturePut (e : Capture) (s : State) : State :=
  if s.det.record then
    let bs := captureEntry e
    if s.det.ring.length + bs.length ≤ 536870848 then
      s.modDet fun d => { d with ring := d.ring ++ bs, captureOrder := d.captureOrder + 1 }
    else
      let o := captureEntry { e with kind := 7, source := 0, slot := 0xFF, when_ := 0, payload := [] }
      s.modDet fun d => { d with ring := d.ring ++ o, record := false, recordEnding := false, overflowed := true }
  else s

/-- The frame's FRAME_END stands, or no frame is open: what is captured now belongs to the frame that opens next (R298, R299). -/
def State.frameClosed (s : State) : Bool := [Phase.closed, .published, .rake, .guarded].contains s.frame.phase

/-- Captures an input that applies now: OFFSET counts from the actual open of its frame, or from the open to come. -/
def State.capture (kind source slot when_ : Nat) (arrival : Nat) (payload : List Byte) (s : State) : State :=
  let next := s.frameClosed
  let offset : Int := (arrival : Int) - (if next then s.frame.nextOpen else s.frame.openTime)
  s.capturePut { kind := kind, source := source, slot := slot, when_ := when_,
                 frame := if next then s.frame.counter + 1 else s.frame.counter,
                 order := s.det.captureOrder, offset := (offset % 2 ^ 32).toNat, time := arrival, payload := payload }

/-- Folds a task's output into its operator-digest entry (R302). -/
def State.opDigest (phase layer op stream index : Nat) (out : List Byte) (s : State) : State :=
  if s.det.opDigest then
    let d := crc64 (le 4 index ++ out)
    let lt (a b : OpDigest) : Bool :=
      a.phase < b.phase || a.phase == b.phase && (a.layer < b.layer || a.layer == b.layer &&
        (a.operator < b.operator || a.operator == b.operator && decide (a.stream < b.stream)))
    let same (a : OpDigest) : Bool := a.phase == phase && a.layer == layer && a.operator == op && a.stream == stream
    s.modDet fun x => { x with
      opDigests := if x.opDigests.any same then
          x.opDigests.map fun a => if same a then { a with count := satU 16 (a.count + 1), digest := a.digest ^^^ d } else a
        else insertBy lt { phase := phase, layer := layer, operator := op, stream := stream, count := 1, digest := d }
        x.opDigests }
  else s

/-- A timing-only event of Table 12.4 (R291, R292): in Exact mode one that delays a unit beyond its static-schedule position, by
`delay` ticks, marks the frame and enters the log; one that delays nothing beyond it does neither. -/
def State.timingEvent (cause stack cluster delay : Nat) (s : State) : State :=
  if s.frame.conf.exact ∧ s.gridRuns ∧ s.frame.phase ≠ .closed ∧ 0 < delay then
    let s := s.modFrame fun f => { f with timingSlip := true, slipTicks := satU 32 (f.slipTicks + delay) }
    let same (e : SlipEntry) : Bool :=
      e.frame == s.frame.counter && e.cause == cause && e.stack == stack && e.cluster == cluster
    let one : SlipEntry :=
      { frame := s.frame.counter, cause := cause, stack := stack, cluster := cluster, delay := delay, count := 1 }
    s.modDet fun d => { d with
      slipLog := if d.slipLog.any same then
          d.slipLog.map fun e => if same e then
            { e with delay := satU 32 (e.delay + delay), count := satU 32 (e.count + 1) } else e
        else (d.slipLog ++ [one]).drop (d.slipLog.length + 1 - 4096) }
  else s

/-! ## Errors, warnings and faults (R398-R401, R420-R423, R430-R432) -/

/-- An entry merges with the last one of its code, unit and frame, whose count rises; else it joins the ring of 4,096 (R423). -/
def Errors.add (x : ErrorEntry) (e : Errors) : Errors :=
  match e.log.getLast?.filter fun l => l.code == x.code && l.stack == x.stack && l.cluster == x.cluster && l.frame == x.frame with
  | some l => { e with log := e.log.dropLast ++ [{ l with count := satU 32 (l.count + 1) }] }
  | none => { e with log := (e.log ++ [x]).drop (e.log.length + 1 - 4096), logged := e.logged + 1 }

/-- Error-log write with merging into the newest entry (R423). -/
def State.logError (code cls stack cluster stream arg : Nat) (s : State) : State :=
  s.modErrors (Errors.add {
    code := code, cls := cls, stack := stack, cluster := cluster, stream := stream,
    time := s.time.now, frame := s.frame.counter, count := 1, arg := arg })

/-- Payload of Table 17.7. -/
def faultPayload (code reaction stack cluster stream : Nat) (time : Nat) (arg : List Byte) : List Byte :=
  le 2 code ++ le 1 reaction ++ le 1 stack ++ le 1 cluster ++ le 1 stream ++ zeros 2 ++ le 8 time ++ fit 16 arg ++ zeros 4

/-- ERROR trace record and the error triggers of Table 20.11. -/
def State.traceError (code cls stack cluster stream : Nat) (arg : List Byte) (s : State) : State :=
  let s := s.trace 4 0xFF 0xA (le 2 code ++ le 1 cls ++ le 1 stack ++ le 1 cluster ++ le 1 stream ++ zeros 2 ++ fit 8 arg)
  let s := if cls = 2 then s.traceTrigger 2 else s
  s.traceTrigger 3

/-- A WARNING event (R421), a device event: every code the device warns of names a unit and no stream (log entry 14). -/
def State.warn (code stack cluster : Nat) (arg : List Byte) (s : State) : State :=
  s.deviceEvent 7 0xFF (faultPayload code 0 stack cluster 0xFF s.time.now arg)

/-- A WARNING event whose CODE the manual does not give: a free value (log entry 5). -/
def State.warnFree (stack : Nat) (arg : List Byte) (s : State) : State :=
  let r := s.fresh
  r.2.warn (r.1.toNat % 65536) stack 0xFF arg

/-- A CONTAINED error: counted and logged, one WARNING per code and unit per frame (R420). -/
def State.contained (code stack cluster stream arg : Nat) (s : State) (quiet : Bool := false) : State :=
  let s := s.logError code 1 stack cluster stream arg
  let s := s.traceError code 1 stack cluster stream (le 8 arg)
  let unit := stack * 256 + cluster
  if quiet || s.errors.warned.contains (code, unit) then s
  else (s.modErrors fun e => { e with warned := e.warned ++ [(code, unit)] }).warn code stack cluster (le 8 arg)

/-- The codes whose class-N reaction is Restart (Tables 17.1 and 18.2). -/
def restartCodes : List Nat :=
  [0x0001, 0x0002, 0x0003, 0x0006, 0x0007, 0x0008, 0x0009, 0x000A, 0x000B, 0x000D, 0x0100, 0x0101, 0x0102, 0x0103, 0x0104]

/-- Restart reaction of a code (R399). -/
def isRestart (code : Nat) : Bool := restartCodes.contains code

/-- The latch takes a new code behind the codes it holds; codes first detected in one cycle stand in ascending order (R400). -/
def latchInsert (e : Latched) (l : List Latched) : List Latched :=
  let k := l.length - (l.reverse.takeWhile fun x => x.first == e.first && decide (e.code < x.code)).length
  l.take k ++ [e] ++ l.drop k

/-- A code that is detected again keeps its place; its condition then holds for every unit and session it has named (R414). -/
def Latched.again (old e : Latched) : Latched :=
  { e with first := old.first, fns := (old.fns ++ e.fns).eraseDups,
           earlier := if old.cluster = e.cluster then old.earlier.filter (·.1 != e.cluster)
             else (old.earlier.filter (·.1 != e.cluster)) ++ [(old.cluster, old.time)] }

/-- The SSV latches a code and drives the pins static (R398 steps 1 and 3, R400). -/
def Safety.latchCode (x : Safety) (e : Latched) : Safety :=
  let known := x.latch.any (·.code == e.code)
  { x with
    latch := if known then x.latch.map fun l => if l.code = e.code then l.again e else l
      else if x.latch.length < 32 then latchInsert e x.latch else x.latch,
    latchOverflow := if known || x.latch.length < 32 then x.latchOverflow else x.latchOverflow + 1,
    pinState := 2, safeA := false, safeB := true,
    firstCode := if x.latch.isEmpty || (x.firstTime == e.time && decide (e.code < x.firstCode)) then e.code else x.firstCode,
    firstTime := if x.latch.isEmpty then e.time else x.firstTime }

/-- A dump may be written: the region is empty, or its dump has COPIED or READ set (R432). -/
def Dump.canWrite (d : Dump) : Bool := d.state % 2 == 0 || bit d.state 1 || bit d.state 2

/-- The dump trigger of a code (R430, R432): a new dump starts, joins the one being written, or is suppressed; its
DUMP_SUPPRESSED waits for the restart of a Restart code. -/
def State.triggerDump (code : Nat) (s : State) : State :=
  let d := s.errors.dump
  let put (d : Dump) : State := s.modErrors fun e => { e with dump := d }
  match d.writing with
    | some _ => put { d with codes := d.codes ++ [code] }
    | none => if d.canWrite then put { d with writing := some code, codes := [code] }
        else if isRestart code then put { d with suppressed := d.suppressed + 1, suppressedEvent := true }
        else (put { d with suppressed := d.suppressed + 1 }).warn 0x0126 0xFF 0xFF []

/-- Waiting stream, query, stop and held commands of a session that leaves are answered STATE_ILLEGAL (R325, R326). -/
def State.dropWaiting (ses : Nat) (s : State) : State :=
  let leave (c : Cmd) : Cmd :=
    if c.session = ses ∧ c.response = none ∧
      (c.stage = .held ∨ (c.stage = .waiting ∧ c.opcode = 0x0205) ∨ (c.stage ≠ .done ∧ c.opcode ≥ 0x0504 ∧ c.opcode ≤ 0x0507))
    then { c with stage := .done, response := some { status := 0x0201 } } else c
  s.modMbx fun m => { m with cmds := m.cmds.map leave }

/-- The functions of the class-S sessions a code concerns: the reset function of FN_RESET, the functions on the link of
LINK_DOWN, else every function with a live class-S session (R370, R414). -/
def State.faultFns (s : State) (code arg : Nat) : List Nat :=
  let fns := ((s.sessions.filter fun x => x.classS && x.live).map (·.fn)).eraseDups
  if code = 0x0013 then [arg] else if code = 0x0012 then fns.filter fun f => s.onLinkB f == (arg == 1) else fns

/-- A fault is detected (R398 steps 1 and 3, R400): latch, pins, the FAULT event to the sessions live at detection, log and
trace. -/
def State.faultReport (code stack cluster stream : Nat) (arg : List Byte) (s : State) : State :=
  let now := s.time.now
  let n := ofLE (arg.take 8)
  let e : Latched := {
    code := code, time := now, cluster := cluster, frame := s.frame.counter, resets := s.safety.warmResets, arg := n,
    first := now, fns := s.faultFns code n }
  let s := s.modSafety fun x => x.latchCode e
  let s := if s.gridRuns then s.modFrame fun f => { f with faultReaction := true } else s
  let s := s.deviceEvent 3 stream (faultPayload code (1 + flag (isRestart code) 1) stack cluster stream now arg)
  let s := s.logError code 2 stack cluster stream n
  s.traceError code 2 stack cluster stream arg

/-- The last two automatic warm restarts were consecutive, and the later began less than 10 s ago (R401). -/
def State.thirdRestart (s : State) : Bool :=
  match s.safety.restarts.reverse with
  | second :: first :: _ =>
    decide (second ≤ first + 10000000 * ticksPerUs) && decide (s.time.now ≤ second + 10000000 * ticksPerUs)
  | _ => false

/-- What follows a detection (R398 step 4, R399, R401, R430): sessions to FAULTED, the dump, and the Restart to come; one that
falls into a warm reset starts no second one. -/
def State.faultReact (code : Nat) (s : State) : State :=
  let restart := isRestart code
  let s := (List.range 16).foldl (init := s) fun s i =>
    if (s.ses i).live && ((s.ses i).classS || restart) then (s.sesTo i 5 code).dropWaiting i else s
  let s := s.triggerDump code
  if restart then
    s.modSafety fun x => { x with
      restartPending := if x.resetUnderWay || x.restartPending.isSome then x.restartPending else some code,
      quarantineNext := x.quarantineNext || s.thirdRestart }
  else s

/-- Detection of a fault and what follows it. -/
def State.detect (code stack cluster stream : Nat) (arg : List Byte) (s : State) : State :=
  (s.faultReport code stack cluster stream arg).faultReact code

/-- One detection among several of a cycle. -/
structure Detection where
  code : Nat
  stack : Nat := 0xFF
  cluster : Nat := 0xFF
  stream : Nat := 0xFF
  arg : List Byte := []
  deriving DecidableEq, Repr

/-- Faults detected in one cycle, in ascending order: each is reported to the sessions live at detection before any of them
moves a session (R398 step 4, R400). -/
def State.detectAll (l : List Detection) (s : State) : State :=
  let s := l.foldl (init := s) fun s e => s.faultReport e.code e.stack e.cluster e.stream e.arg
  l.foldl (init := s) fun s e => s.faultReact e.code

/-- A FAULT-class error of Table 18.2 found in a cluster or stack. -/
def State.hwFault (code p arg : Nat) (s : State) : State :=
  s.detect code (if p < 64 then stackOf p else 0xFF) p 0xFF (le 16 arg)

end Sys2Proof.Machine
end

