-- ==== Sys2Proof/Machine/Noc.lean ====
section
/-!
DEFINITION. Sys2Proof/Machine/Noc.lean: the internal address space (chapter 11): regions and rights (R262-R264), the layouts of
scratchpad, stack store, hub SRAM and HBM (R265, R266, R269, R275, R278, R279), what a read at an internal address gives,
stack DMA transfers with their slot tokens (R263, R267, R268, R271), NoC credits (R274) and drain records (R270).
-/
namespace Sys2Proof.Machine

/-! ## Address map (R262, Table 11.1) -/

/-- A unit of the internal address space with the offset of an address in it. -/
inductive Region where
  | hbm (off : Nat)
  | scratchpad (p off : Nat)
  | stackStore (k off : Nat)
  | stackTrace (k off : Nat)
  | hubSram (off : Nat)
  | hubTrace (off : Nat)
  | hubRegs (k off : Nat)
  | stackRegs (k off : Nat)
  | clusterRegs (p off : Nat)
  deriving DecidableEq, Repr

/-- Bases of Table 11.1. -/
abbrev scratchBase : Nat := 0x010000000000
abbrev stackStoreBase : Nat := 0x010100000000
abbrev stackTraceBase : Nat := 0x010200000000
abbrev hubSramBase : Nat := 0x010300000000
abbrev hubTraceBase : Nat := 0x010400000000
abbrev hubRegBase : Nat := 0x018000000000
abbrev stackRegBase : Nat := 0x018100000000
abbrev clusterRegBase : Nat := 0x018200000000

/-- The region that an address meets; none: no region of Table 11.1. -/
def regionOf (a : Nat) : Option Region :=
  let unit (base size n : Nat) (f : Nat → Nat → Region) : Option Region :=
    if base ≤ a ∧ a < base + n * size then some (f ((a - base) / size) ((a - base) % size)) else none
  if a < 0xC00000000 then some (.hbm a)
  else (unit scratchBase 0x400000 64 .scratchpad).orElse fun _ =>
    (unit stackStoreBase 0x1000000 4 .stackStore).orElse fun _ =>
    (unit stackTraceBase 0x100000 4 .stackTrace).orElse fun _ =>
    (unit hubSramBase 0x2000000 1 fun _ o => .hubSram o).orElse fun _ =>
    (unit hubTraceBase 0x400000 1 fun _ o => .hubTrace o).orElse fun _ =>
    (unit hubRegBase 0x10000 7 .hubRegs).orElse fun _ =>
    (unit stackRegBase 0x10000 4 .stackRegs).orElse fun _ =>
    unit clusterRegBase 0x1000 64 .clusterRegs

/-! ## Layouts -/

/-- Address of an offset of cluster `p`'s scratchpad. -/
def scratchAddr (p off : Nat) : Nat := scratchBase + p * 0x400000 + off
/-- Address of an offset of stack `k`'s store. -/
def storeAddr (k off : Nat) : Nat := stackStoreBase + k * 0x1000000 + off

/-- Bank and row of a scratchpad offset (R24, R265): staging in banks 0-31, the tensor area in 32-47, the general area in
48-63. -/
def scratchPlace (off : Nat) : Nat × Nat :=
  if off < 0x200000 then (off / 65536, off / 8 % 8192)
  else if off < 0x300000 then (32 + off / 8 % 16, (off - 0x200000) / 128)
  else (48 + off / 8 % 16, (off - 0x300000) / 128)

/-- The scratchpad offset of a row of a bank, the inverse of `scratchPlace`. -/
def placeOffset (bank row : Nat) : Nat :=
  if bank < 32 then bank * 65536 + row * 8
  else if bank < 48 then 0x200000 + row * 128 + (bank - 32) * 8
  else 0x300000 + row * 128 + (bank - 48) * 8

/-- Bank and row of voxel (x, y, z) of a pan staged in a slot (R25, R265). -/
def voxelPlace (slot x y z : Nat) : Nat × Nat :=
  (8 * (slot % 4) + x % 2 + 2 * (y % 2) + 4 * (z % 2), slot / 4 * 512 + (z / 2 * 64 + y / 2 * 8 + x / 2))

/-- Scratchpad offset of voxel number `i` = (z * 16 + y) * 16 + x of a staged pan. -/
def voxelOffset (slot i : Nat) : Nat :=
  let b := voxelPlace slot (i % 16) (i / 16 % 16) (i / 256)
  placeOffset b.1 b.2

/-- Areas of the tensor and general areas (Table 11.3). -/
abbrev candArea : Nat := 0x200000
abbrev weightBuffer : Nat := 0x280000
abbrev activationArea : Nat := 0x2A0000
abbrev headerArea : Nat := 0x300000
abbrev moverArea : Nat := 0x301000
abbrev resolutionArea : Nat := 0x31A000
abbrev shortlistArea : Nat := 0x322000
abbrev timeMapBuffer : Nat := 0x362000
abbrev featureArea : Nat := 0x372000
abbrev constantArea : Nat := 0x382000
abbrev operandArea : Nat := 0x388000
abbrev workArea : Nat := 0x390000
/-- Sizes of the areas that admission fills (R150, R223, R266). -/
abbrev candAreaBytes : Nat := 524288
abbrev shortlistBytes : Nat := 262144
abbrev workAreaBytes : Nat := 458752

/-- Offset of urgent slot `i` of the version of an epoch in the general area (R181, Table 11.3). -/
def urgentCopyOffset (epoch i : Nat) : Nat := moverArea + 1024 * 96 + epoch % 2 * 1536 + 96 * i

/-- Stack-store offsets of rig slots, cost slots, drain records and the CFW's tables (R269). -/
def rigOffset (i : Nat) : Nat := 0xC00000 + i * 0x40000
def costOffset (i : Nat) : Nat := 0xE00000 + i * 0x1000
def drainOffset (slot : Nat) : Nat := 0xE08000 + slot * 16
abbrev stackTables : Nat := 0xE09000

/-- Hub SRAM offsets (Table 11.4). -/
abbrev hubSlots : Nat := 0x600000
abbrev hubTaskLists : Nat := 0xA00000
abbrev hubAssembly : Nat := 0xC00000
abbrev hubLanding : Nat := 0x1000000
abbrev hubSecure : Nat := 0x1C00000
/-- Assay golden data and session secrets in the secure region, behind 256 KiB of keys. -/
abbrev hubGolden : Nat := 0x1C40000
abbrev hubSecrets : Nat := 0x1F40000

/-- HBM addresses above the world region (Table 11.7). -/
def streamedAddr (slot : Nat) : Nat := 0xA00000000 + slot * 0x10000000
def timeMapAddr (p k : Nat) : Nat := 0xA40000000 + (p * 320 + k) * 4096
abbrev dumpBase : Nat := 0xA50000000
abbrev captureBase : Nat := 0xA60000000
abbrev cfwBase : Nat := 0xA80000000

/-- The pseudo-channel of an HBM address (R279): bit 8 selects the HBM3 stack, bits 13:9 the pseudo-channel in it. -/
def pseudoChannel (a : Nat) : Nat := a / 256 % 2 * 32 + a / 512 % 32

/-! ## Who reaches what (R263, R264, Table 11.2) -/

/-- A requester of the internal address space. -/
inductive Requester where
  | engine (p : Nat)
  | core (p : Nat)
  | stackDma (k : Nat)
  | cfw
  | ssv
  | security
  | pcie
  deriving DecidableEq, Repr

/-- Rights in hub SRAM: below the secure region, and in its keys, golden data and session secrets. -/
def Requester.hub (r : Requester) (write : Bool) (off : Nat) : Bool :=
  if off < hubSecure then
    match r with
    | .stackDma _ | .cfw | .security | .pcie => true
    | .ssv => !write
    | .engine _ | .core _ => false
  else match r with
    | .security => true
    | .stackDma _ => !write && decide (hubGolden ≤ off ∧ off < hubSecrets)
    | .cfw => decide (hubSecrets ≤ off)
    | .engine _ | .core _ | .ssv | .pcie => false

/-- The rights of Table 11.2. The trace buffers have no column: the CFW reads them for TRACE_READ. -/
def Requester.may (r : Requester) (write : Bool) : Region → Bool
  | .scratchpad q _ => match r with
    | .engine p | .core p => p == q
    | .stackDma k => stackOf q == k
    | .cfw => true
    | .ssv | .security | .pcie => false
  | .stackStore k _ => match r with
    | .engine p | .core p => !write && stackOf p == k
    | .stackDma j => j == k
    | .cfw => true
    | .ssv | .security | .pcie => false
  | .hbm _ => match r with
    | .stackDma _ | .cfw => true
    | .ssv | .security => !write
    | .engine _ | .core _ | .pcie => false
  | .hubSram off => r.hub write off
  | .stackTrace _ _ | .hubTrace _ => r == .cfw && !write
  | .hubRegs k _ => match r with
    | .cfw | .pcie => true
    | .ssv => !write || k == 2
    | .security => k == 5
    | .engine _ | .core _ | .stackDma _ => false
  | .stackRegs _ _ => match r with
    | .cfw | .pcie => true
    | .ssv => !write
    | .engine _ | .core _ | .stackDma _ | .security => false
  | .clusterRegs q _ => match r with
    | .cfw | .pcie => true
    | .ssv => !write
    | .core p => p == q
    | .engine _ | .stackDma _ | .security => false

/-- A requester may reach an address: it meets a region, the requester has the right, and a scratchpad's cluster is enabled
(R263). -/
def State.reaches (s : State) (r : Requester) (write : Bool) (a : Nat) : Bool :=
  match regionOf a with
  | none => false
  | some g => r.may write g && match g with
    | .scratchpad p _ => s.enabled p
    | _ => true

/-- The first address of a range and the pages of 4 KiB that begin in it: every region of Table 11.1 and every part of the secure
region begins and ends on such a page, so a requester that reaches these reaches the whole range. -/
def rangePages (a n : Nat) : List Nat :=
  a :: (List.range ((a + n - 1) / 4096 - a / 4096)).map fun i => (a / 4096 + 1 + i) * 4096

/-- The first address of a range that a requester may not reach. -/
def State.badAddress (s : State) (r : Requester) (write : Bool) (a n : Nat) : Option Nat :=
  if n = 0 then none else (rangePages a n).find? fun x => !s.reaches r write x

/-! ## What an address holds

Request slots, trace buffers, task lists, brine landing, candidate records, the dump, the capture ring and the error log are held
as fields of State; their bytes are formed here. -/

/-- A task descriptor (Table 10.2). -/
def TaskDesc.bytes (d : TaskDesc) : List Byte :=
  le 2 d.layerId ++ le 2 d.operatorId ++ le 1 d.phase ++ le 1 d.unit ++ le 1 d.tokens ++
    le 1 (flag d.safety 0 + flag d.pinned 1 + flag d.keep 2 + d.succExtra % 8 * 16) ++ le 1 d.stream ++ [0] ++ le 2 d.age ++ le 4 d.args

/-- The stream ID that records of a stream carry: a guest's is its home's (R390). -/
def State.wireId (s : State) (id : Nat) : Nat := match (s.stream? id).bind (·.guest) with
  | some g => g.stream
  | none => id

/-- A candidate record (Table 06.5). -/
def Cand.record (c : Cand) (wid : Nat) : List Byte :=
  le 1 wid ++ le 1 c.component ++ le 1 ((c.cp.getD 0 []).length - 6) ++ le 1 c.cp.length ++ le 4 c.g ++ le 2 c.flags ++
    leS 2 c.weight ++ zeros 4 ++ padTo 8 (c.cp.flatMap fun r => r.flatMap (leS 4))

/-- An epoch as U8 fields report it. -/
def epochByte (e : Nat) : Nat := min e 254

/-- The bytes of a verdict record, as an operator digest takes them. -/
def Verdict.bytes (v : Verdict) : List Byte :=
  le 4 v.g ++ le 1 v.stream ++ le 1 v.verdict ++ le 2 v.steps ++ (v.minNet.flatMap (leS 4)) ++ le 4 v.hitSigma ++
    le 2 v.hitSphere ++ le 2 v.hitObj ++ le 1 (epochByte v.epoch) ++ le 1 v.kind ++ zeros 2 ++ le 4 v.budgetMax

/-- Bytes of a smoothing record (Table 08.3). -/
def smoothBytes (r : SmoothRec) : List Byte :=
  le 1 r.flags ++ le 1 r.tsStatus ++ le 1 r.tsRetries ++ le 1 r.probeEpoch ++ le 1 r.iters ++ [0] ++ le 2 r.mapSlot ++
    le 4 r.duration ++ le 4 r.jerkInt

/-- Bytes of a swept box (Table 09.6). -/
def SweptBox.bytes (x : SweptBox) : List Byte :=
  le 4 x.sliceLo ++ le 4 x.sliceHi ++ le 1 x.iuLo ++ le 1 x.iuHi ++ le 1 x.ivLo ++ le 1 x.ivHi ++ zeros 4

/-- Control points in the CP layout of Table 06.5. -/
def cpBytes (cp : List (List Int)) : List Byte := padTo 8 (cp.flatMap fun r => r.flatMap (leS 4))

/-- KEY_INDEX of an entry (Table 09.5). -/
def Entry.keyIndex (e : Entry) : Nat := e.g % 2 ^ 18 + e.origin % 4 * 2 ^ 18

/-- A shortlist entry (Table 09.5). -/
def Entry.bytes (e : Entry) : List Byte :=
  let h := leS 4 e.cost ++ le 4 e.keyIndex ++ le 1 e.stream ++ le 1 e.cluster ++ le 2 e.smooth.mapSlot ++
    le 1 (epochByte e.epoch) ++
    le 1 e.winA ++ le 1 e.winB ++ [0] ++ smoothBytes e.smooth ++ e.minNet.flatMap (leS 4) ++ le 8 e.tStart ++ zeros 4
  h ++ le 4 (crc32c h) ++ cpBytes e.cp ++ e.swept.flatMap SweptBox.bytes

/-- The tally. -/
def Tally.bytes (t : Tally) : List Byte :=
  leS 4 t.proposed ++ leS 4 t.repairs ++ leS 4 t.clearCheck ++ leS 4 t.smoothed ++ leS 4 t.tsDropped ++ leS 4 t.clearRecheck ++
    leS 4 t.abandoned ++ zeros 4

/-- The candidate records of a cluster, one behind the other in the order of their making (log entry 122). -/
def State.candBytes (s : State) (p : Nat) : List Byte := (s.cl p).cands.flatMap fun c => c.record (s.wireId c.stream)

/-- The shortlists of a cluster, query by query (R223; log entry 122). -/
def Cluster.shortlistBytes (c : Cluster) : List Byte := c.shortlists.flatMap fun l => l.2.flatMap Entry.bytes

/-- The frame working area of a cluster: verdict records, segment clearances, tallies and smoothing records in this order (R266; log
entry 122). -/
def Cluster.workBytes (c : Cluster) : List Byte :=
  c.verdicts.flatMap Verdict.bytes ++ (c.cands.flatMap fun k => k.segClear.flatMap (leS 4)) ++ (c.tallies.flatMap fun t => t.2.bytes) ++
    c.cands.flatMap fun k => smoothBytes k.smooth

/-- A byte of a cluster's tensor and general areas: candidate records, shortlists and the working area are fields of State. -/
def State.scratchByte (s : State) (p off a : Nat) : Byte :=
  if candArea ≤ off ∧ off < weightBuffer then (s.candBytes p).getD (off - candArea) 0
  else if shortlistArea ≤ off ∧ off < timeMapBuffer then (s.cl p).shortlistBytes.getD (off - shortlistArea) 0
  else if workArea ≤ off then (s.cl p).workBytes.getD (off - workArea) 0
  else Mem.read a s.sram

/-- The device shortlists in hub SRAM, stream by stream (R275; log entry 122). -/
def State.assemblyBytes (s : State) : List Byte := s.streams.flatMap fun x => (x.device.getD []).flatMap Entry.bytes

/-- The secure region: the content keys, then the golden signatures at their place, each from the start of its part (R275; log entry
122). -/
def State.secureByte (s : State) (off a : Nat) : Byte :=
  if s.hub.secureWiped then 0
  else if off < hubSecure + 256 then (s.boot.contentKeys.flatMap fun k => (k.getD []).take 32 ++ zeros (32 - (k.getD []).length)).getD (off - hubSecure) 0
  else if hubGolden ≤ off ∧ off < hubGolden + 1024 then ((s.boot.golden.flatten).flatMap (le 8)).getD (off - hubGolden) 0
  else Mem.read a s.sram

/-- The task list of a stack in hub SRAM: the four lists share the area in stack order (log entry 122). -/
def State.taskListBytes (s : State) (k : Nat) : List Byte := (s.stk k).taskList.flatMap TaskDesc.bytes

/-- Bytes of the brine commands that stand in brine landing, in order of arrival (log entry 122). -/
def State.landingBytes (s : State) : List Byte :=
  (s.mbx.cmds.filter fun c => (c.opcode == 0x0401 || c.opcode == 0x0402) && c.response.isNone).flatMap (·.bulk)

/-- An error-log entry (Table 18.4). -/
def ErrorEntry.bytes (e : ErrorEntry) : List Byte :=
  le 2 e.code ++ le 1 e.cls ++ le 1 e.stack ++ le 1 e.cluster ++ le 1 e.stream ++ zeros 2 ++ le 8 e.time ++ le 4 e.frame.toNat ++
    le 4 e.count ++ le 8 e.arg

/-- The error log's ring of 4,096 entries (R423) at the start of the CFW working area (log entry 122). -/
def State.errorByte (s : State) (off : Nat) : Byte :=
  let l := s.errors.log
  let j := (off / 32 + 4096 - (s.errors.logged - l.length) % 4096) % 4096
  (((l[j]?).map ErrorEntry.bytes).getD []).getD (off % 32) 0

/-- A byte of HBM: the dump region, the capture ring and the error log are the parts of State that hold them (R278, R423). -/
def State.hbmByte (s : State) (a : Nat) : Byte :=
  if dumpBase ≤ a ∧ a < captureBase then s.errors.dump.bytes.getD (a - dumpBase) 0
  else if captureBase ≤ a ∧ a < cfwBase then
    s.det.ring.getD ((a - captureBase + 0x20000000 - s.det.written % 0x20000000) % 0x20000000) 0
  else if cfwBase ≤ a ∧ a < cfwBase + 0x20000 then s.errorByte (a - cfwBase)
  else Mem.read a s.hbm

/-- A unit of a trace buffer as it lies in its memory (R460): units from the start, in WRAP and the pre region round and round,
the post region in the last units; a unit never written is empty and reads 0 (log entry 141). -/
def State.traceUnitAt (s : State) (b i : Nat) : List Byte :=
  let x := s.obs.buffers.getD b {}
  let pre := traceUnits b - (if s.traceCfg b 0 1 = 3 then postUnits b (s.traceCfg b 1 1) else 0)
  if i < pre then x.units.getD ((i + pre - x.dropped % pre) % pre) [] else x.post.getD (i - pre) []

/-- A byte of a trace buffer. -/
def State.traceByte (s : State) (b off : Nat) : Byte := (s.traceUnitAt b (off / 32)).getD (off % 32) 0

/-- The network region of a stack store: the weights of the resident images, one behind the other in slot order (R138; log entry
122). -/
def State.networkBytes (s : State) : List Byte :=
  (List.range 4).flatMap fun i =>
    let n := s.images.nets.getD i {}
    if (s.images.netSlots.getD i {}).state ≠ 0 ∧ n.resident then n.weights else []

/-- A byte at an internal address: request slots and trace buffers are the parts of State that hold them, a wiped secure
region reads 0 (R275, R277), and registers are read through their own rows. -/
def State.internalByte (s : State) (a : Nat) : Byte :=
  match regionOf a with
  | some (.hbm _) => s.hbmByte a
  | some (.stackTrace k off) => s.traceByte k off
  | some (.hubTrace off) => s.traceByte 4 off
  | some (.hubSram off) =>
    if hubSlots ≤ off ∧ off < hubSlots + 0x220000 then Mem.read (off - hubSlots) s.mbx.bytes
    else if hubTaskLists ≤ off ∧ off < hubAssembly then
      (s.taskListBytes ((off - hubTaskLists) / 0x80000)).getD ((off - hubTaskLists) % 0x80000) 0
    else if hubLanding ≤ off ∧ off < hubSecure then s.landingBytes.getD (off - hubLanding) 0
    else if hubSecure ≤ off then s.secureByte off a
    else if hubAssembly ≤ off ∧ off < hubAssembly + 0x400000 then s.assemblyBytes.getD (off - hubAssembly) 0
    else Mem.read a s.sram
  | some (.scratchpad p off) => s.scratchByte p off a
  | some (.stackStore _ off) => if off < 0xC00000 then s.networkBytes.getD off 0 else Mem.read a s.sram
  | _ => 0

/-- Bytes from an internal address on. -/
def State.internalBytes (s : State) (a n : Nat) : List Byte := (List.range n).map fun i => s.internalByte (a + i)

/-- Writes bytes to an SRAM at its internal address. -/
def State.sramWrite (a : Nat) (bs : List Byte) (s : State) : State := s.modSram (Mem.writeBytes a bs)

/-! ## Stack DMA transfers (R263, R267, R268, R271) -/

/-- An access that no region takes or no right covers: address fault, the refused address as its argument (R263). -/
def State.addressFault (p a : Nat) (s : State) : State := s.hwFault 0x0103 p a

/-- The lowest channel of a stack's DMA that holds no token. -/
def Stack.freeChannel (x : Stack) : Option Nat := (List.range 16).find? fun i => !x.channels.getD i true

/-- A free channel takes a token from the pool. -/
def Stack.takeToken (i : Nat) (x : Stack) : Stack := { x with dmaTokens := x.dmaTokens - 1, channels := x.channels.set i true }
/-- The channel returns it. -/
def Stack.returnToken (i : Nat) (x : Stack) : Stack := { x with dmaTokens := x.dmaTokens + 1, channels := x.channels.set i false }

/-- A stack's DMA has a token and a channel for a slot. -/
def State.dmaReady (s : State) (k : Nat) : Bool := (s.stk k).dmaTokens != 0 && (s.stk k).freeChannel.isSome

/-- A channel takes a token for a slot and returns it at the slot's end: with none in the pool there is no slot to use
(R271). -/
def State.withToken (k : Nat) (f : State → State) (s : State) : State :=
  match (s.stk k).freeChannel with
  | none => s
  | some i =>
    if (s.stk k).dmaTokens = 0 then s
    else (f (s.modStk k (Stack.takeToken i))).modStk k (Stack.returnToken i)

/-- A slot carries 256 bytes (2,048 bits, R273). -/
abbrev slotBytes : Nat := 256

/-- Bytes that a stack's DMA writes to an SRAM, a token for each slot (R271). -/
def State.dmaWrite (k a : Nat) (bs : List Byte) (s : State) : State :=
  (List.range (ceilDiv bs.length slotBytes)).foldl (init := s) fun s i =>
    s.withToken k fun s => s.sramWrite (a + slotBytes * i) ((bs.drop (slotBytes * i)).take slotBytes)

/-- The region of a scratchpad offset, as a qualifier of Table 20.4: 0 pan staging, 1 tensor, 2 general. -/
def scratchRegion (off : Nat) : Nat := if off < 0x200000 then 0 else if off < 0x300000 then 1 else 2

/-- What the selectable counters see of `n` bytes that the stack DMA brings from an address to an offset of cluster `p`'s
scratchpad (Table 20.4). The channel is not known: only a slot that takes all channels counts (log entry 88). -/
def State.dmaEvents (p src off n : Nat) (s : State) : State :=
  let k := stackOf p
  let ev (scope inst event qual : Nat) (s : State) : State := s.selEvent scope inst event qual 0xFFFF 0xFFFF n
  let s := ev 1 k 0x22 0xFF (ev 0 p 0x03 0 (ev 0 p 0x02 (scratchRegion off) s))
  match regionOf src with
  | some (.stackStore _ _) => ev 1 k 0x20 0 s
  | some (.hbm _) => ev 2 0 0x40 k (ev 1 k 0x21 0 s)
  | some (.hubSram _) => ev 2 0 0x43 0 (ev 1 k 0x21 0 s)
  | _ => s

/-- T_c in whole µs (R40, R43). -/
def FrameConf.tc (c : FrameConf) : Nat := c.cutoff * c.period / 100

/-- Between 10 µs and T_c of a frame the hub alone writes HBM: no stack reads it (R47). -/
def State.hbmClosed (s : State) : Bool :=
  let since := s.time.now - s.frame.openTime
  s.gridRuns && s.frame.phase == .opened && decide (10 * ticksPerUs ≤ since ∧ since < s.frame.conf.tc * ticksPerUs)

/-- A range of scratchpad offsets meets a pan slot: the slot has 4 KiB in each of the eight banks of its group (R265). -/
def slotMeets (slot off n : Nat) : Bool :=
  (List.range 8).any fun b =>
    let lo := (8 * (slot % 4) + b) * 65536 + slot / 4 * 4096
    decide (off < lo + 4096 ∧ lo < off + n)

/-- A transfer would overwrite a pinned pan (R268). -/
def Cluster.pinnedAt (c : Cluster) (off n : Nat) : Bool := c.staged.any fun x => x.pins != 0 && slotMeets x.slot off n

/-- An address lies in HBM. -/
def inHbm (a : Nat) : Bool := decide (a < 0xC00000000)

/-- A transfer can take its slots now: a token, a source that may be read (R47), no pinned pan in its way (R268). -/
def State.dmaOpen (s : State) (p : Nat) (d : DmaDesc) : Bool :=
  s.dmaReady (stackOf p) && !(inHbm d.src && s.hbmClosed) && !(s.cl p).pinnedAt d.off d.len

/-- A corrected error in a bank or pseudo-channel: the sixty-fourth within 1 s is CORR_RATE (R421, R423). -/
def State.corrected (key stack cluster arg : Nat) (s : State) : State :=
  let now := s.time.now
  let l := (lookupD [] key s.errors.corrWindows).filter (fun (x : Nat) => decide (now < x + 1000000 * ticksPerUs)) ++ [now]
  let s := s.modErrors fun e => { e with corrWindows := upsert key (if l.length ≥ 64 then [] else l) e.corrWindows }
  if l.length ≥ 64 then
    (((s.logError 0x0120 0 stack cluster 0xFF arg).traceError 0x0120 0 stack cluster 0xFF (le 8 arg)).warn
      0x0120 stack cluster (le 8 arg))
  else s

/-- Keys of the CORR_RATE windows (R421): a pseudo-channel, a bank of a scratchpad, a scheduler structure, any other SRAM by its
64 KiB (log entry 82). -/
def channelKey (pc : Nat) : Nat := pc
def scratchKey (p bank : Nat) : Nat := 64 + 64 * p + bank
def schedKey (p st : Nat) : Nat := 8192 + 4 * p + st
def sramKey (a : Nat) : Nat := 16384 + a / 65536

/-- A corrected SRAM read of cluster `p`'s: counted, and late by a free amount (R282, Table 12.4 code 3). -/
def State.sramCorrected (p key arg : Nat) (s : State) : State :=
  let r := ((s.bumpCl p 7).corrected key (stackOf p) p arg).fresh
  r.2.timingEvent 3 (stackOf p) p (r.1.toNat % 2 ^ 32)

/-- A corrected HBM read: counted per pseudo-channel, and late by a free amount (R280, Table 12.4 code 2). -/
def State.hbmCorrected (p a : Nat) (s : State) : State :=
  let pc := pseudoChannel a
  let r := ((s.bumpHub 3).corrected (channelKey pc) 0xFF 0xFF pc).fresh
  r.2.timingEvent 2 (stackOf p) p (r.1.toNat % 2 ^ 32)

/-- The key of a corrected SRAM read at an internal address. -/
def readKey (a : Nat) : Nat :=
  match regionOf a with
  | some (.scratchpad p off) => scratchKey p (scratchPlace off).1
  | _ => sramKey a

/-- What the read of a DMA source shows: a corrected one goes on, a poisoned one is never used (R280, R282): HBM_UE or SRAM_UE,
with the source address as its argument. -/
def State.sourceRead (p a : Nat) (read : ReadFault) (f : State → State) (s : State) : State :=
  match read with
  | .none => f s
  | .corrected => f (if inHbm a then s.hbmCorrected p a else s.sramCorrected p (readKey a) a)
  | .uncorrectable => if inHbm a then (s.bumpHub 4).hwFault 0x0101 p a else (s.bumpCl p 8).hwFault 0x0100 p a

/-- A transfer of the stack DMA into cluster `p`'s scratchpad: refused whole by an address fault, or every byte is written
and its bank waits are counted; `f` follows the last byte. -/
def State.dmaTransfer (p : Nat) (d : DmaDesc) (waits : Nat) (read : ReadFault) (f : State → State) (s : State) : State :=
  let r : Requester := .stackDma (stackOf p)
  match s.badAddress r false d.src d.len, s.badAddress r true (scratchAddr p d.off) d.len with
  | some a, _ => s.addressFault p a
  | none, some a => s.addressFault p a
  | none, none => s.when_ (s.dmaOpen p d) <| State.sourceRead p d.src read fun s =>
      f (((s.dmaWrite (stackOf p) (scratchAddr p d.off) (s.internalBytes d.src d.len)).bumpStk (stackOf p) 0 waits).dmaEvents
        p d.src d.off d.len)

/-! ## NoC credits (R274, Table 11.6) -/

/-- Receive-buffer depth of an endpoint of a stack: 0-15 a cluster port, 16 the stack-store port, 17 the hub-link receiver on the
stack's side, 18 the one on the hub's side. -/
def nocDepth (endpoint : Nat) : Nat := if endpoint < 16 then 32 else if endpoint = 16 then 64 else 128

/-- A credit that is not returned stays outstanding at its endpoint, up to the depth. -/
def State.creditLost (k endpoint : Nat) (s : State) : State :=
  let up (n : Nat) : Nat := min (nocDepth endpoint) (n + 1)
  if endpoint < 16 then s.modCl (16 * k + endpoint) fun c => { c with creditsOut := up c.creditsOut }
  else if endpoint = 16 then s.modStk k fun x => { x with storeCredits := up x.storeCredits }
  else if endpoint = 17 then s.modStk k fun x => { x with hubCredits := up x.hubCredits }
  else s.modStk k fun x => { x with hubSideCredits := up x.hubSideCredits }

/-! ## Drain records (R270, Table 11.5) -/

/-- A drain record's bytes, its CRC at the end. -/
def DrainRecord.bytes (d : DrainRecord) : List Byte :=
  let b := le 4 d.frame.toNat ++ le 2 d.msFree ++ le 1 d.rlFree ++ le 1 d.dlFree ++ le 2 d.creditsOut ++ le 2 (flag d.atGuard 0)
  b ++ le 4 (crc32c b)

/-- Address of a cluster's drain record in its stack's store. -/
def drainAddr (p : Nat) : Nat := storeAddr (stackOf p) (drainOffset (p % 16))

/-- The bytes of a cluster's drain record as the hub reads them. -/
def State.drainBytes (s : State) (p : Nat) : List Byte := Mem.readBytes s.sram (drainAddr p) 16

/-- A drain record passes its CRC (R270). -/
def drainCrcOk (b : List Byte) : Bool := getU b 12 4 == crc32c (b.take 12)

end Sys2Proof.Machine
end

