-- ==== Sys2Proof/Machine/Operands.lean ====
section
/-!
DEFINITION. Sys2Proof/Machine/Operands.lean: no operand form is shared by all commands. Fields are read by
Machine/Bytes.lean; each record that a command or an image carries is read beside the rules that give its table.
-/
namespace Sys2Proof.Machine

end Sys2Proof.Machine
end

