-- ==== Sys2Proof/Machine/Mailbox.lean ====
section
/-!
DEFINITION. Sys2Proof/Machine/Mailbox.lean: request slots, request checks, the sluice, arrival, responses and the rows of
chapter 13 that act on the mailbox itself (R308-R327).
-/
namespace Sys2Proof.Machine

/-! ## The command table -/

/-- The command in a slot. -/
def State.cmd? (s : State) (fn slot : Nat) : Option Cmd := s.mbx.cmds.find? fun c => c.fn == fn && c.slot == slot
/-- Rewrites the command in a slot. -/
def State.modCmd (fn slot : Nat) (f : Cmd → Cmd) (s : State) : State :=
  s.modMbx fun m => { m with cmds := m.cmds.map fun c => if c.fn = fn ∧ c.slot = slot then f c else c }
/-- Whether a slot is device-owned (R309). -/
def State.owned (s : State) (fn slot : Nat) : Bool := s.mbx.own.contains (fn, slot)
/-- A slot is device-owned at the start of this cycle: a write in the cycle of OWN = 0 is still discarded (R364). -/
def State.slotHeld (s : State) (fn slot : Nat) : Bool := s.owned fn slot || s.mbx.freed.contains ((fn, slot), s.time.now)
/-- The command a row acts on: the slot's own, or one that a function reset left to complete silently (R373). -/
def State.cmdFor (s : State) (fn slot : Nat) (p : Cmd → Bool) : Option Cmd :=
  ((s.cmd? fn slot).filter p).or (s.mbx.cmds.find? fun c => c.silentDrop && c.fn == fn && c.slot != slot && c.slot % 32 == slot && p c)
/-- Ownership writes of one cycle are ordered by function, then by slot (R312). -/
def Cmd.sooner (a b : Cmd) : Bool :=
  decide (a.landed < b.landed) || a.landed == b.landed &&
    (decide (a.fn < b.fn) || a.fn == b.fn && decide (a.slot % 32 < b.slot % 32))
/-- The address of a slot's byte in the mailbox memory. -/
def slotAddr (fn slot off : Nat) : Nat := fn * 0x20000 + slot * 0x1000 + off

/-- The response to a command is decided (R320). -/
def State.respond (c : Cmd) (r : Response) (s : State) : State :=
  s.modCmd c.fn c.slot fun c => if c.response = none then { c with response := some r, stage := .done } else c
/-- A refusal with its STATUS_ARG. -/
def State.refuse (c : Cmd) (status : Nat) (s : State) (arg : Nat := 0) : State :=
  s.respond c { status := status, arg := arg }
/-- Success with a response payload. -/
def State.accept (c : Cmd) (s : State) (payload : List Byte := []) : State :=
  s.respond c { status := 0, payload := payload }
/-- The command waits for the instant its effect or response is tied to. -/
def State.wait (c : Cmd) (s : State) : State := s.modCmd c.fn c.slot fun c => { c with stage := .waiting }

/-- Runs a check: the refusal it gives, or the rest. -/
def State.need (c : Cmd) (ok : Bool) (status : Nat) (s : State) (f : State → State) (arg : Nat := 0) : State :=
  if ok then f s else s.refuse c status arg

/-- A payload of exactly `n` bytes whose bytes at `resv` (offset, length) are 0 (R329, R13). -/
def State.shape (c : Cmd) (n : Nat) (resv : List (Nat × Nat)) (s : State) (f : State → State) : State :=
  s.need c (c.payload.length == n) 0x0104 fun s =>
    s.need c (resv.all fun r => allZero (slice c.payload r.1 r.2)) 0x0105 f

/-- Bulk output into the write descriptors in table order (R318). -/
def State.output (c : Cmd) (bs : List Byte) (s : State) : State :=
  let go := (c.descs.filter (·.write)).foldl (init := (s, bs)) fun (acc : State × List Byte) d =>
    (acc.1.hostWrite c.fn d.addr (acc.2.take d.len), acc.2.drop d.len)
  go.1
/-- The total length of the write descriptors. -/
def Cmd.room (c : Cmd) : Nat := sumN ((c.descs.filter (·.write)).map (·.len))

/-- Output and response together: OUTPUT_SHORT with the bytes written when the descriptors are too short (R318, R329). -/
def State.deliver (c : Cmd) (bs payload : List Byte) (s : State) : State :=
  let s := s.output c bs
  if bs.length ≤ c.room then s.accept c payload
  else s.respond c { status := 0x0307, payload := le 4 c.room }

/-! ## Request checks (R314-R317) -/

/-- The opcodes of Tables 14.2 to 14.18. -/
def opcodes : List Nat :=
  let g (h n : Nat) := (List.range n).map fun i => h * 256 + i + 1
  g 1 4 ++ g 2 8 ++ g 3 3 ++ g 4 4 ++ g 5 7 ++ g 6 3 ++ g 7 12 ++ g 8 8 ++ g 9 8 ++ g 10 7 ++ g 11 6

/-- Commands governed by the sluice (mark SL). -/
def isSluiced (op : Nat) : Bool := [0x0504, 0x0505, 0x0507].contains op
/-- Whether a command names a session (check 7); a ring command names none for the device event ring (R345), and
RESULT_LAST names the session of its stream (log entry 16). -/
def namesSession (op : Nat) (payload : List Byte) : Bool :=
  if op = 0x0601 ∨ op = 0x0602 then getU payload 0 1 != 2
  else (op / 256 == 2 && op != 0x0201) || (op / 256 == 5 && decide (0x0504 ≤ op)) || op == 0x0603

/-- A session that is open and owned by the function. -/
def State.ownsSession (s : State) (fn ses : Nat) : Bool :=
  ses < 16 && (s.ses ses).state != 0 && (s.ses ses).fn == fn

/-- Table 13.6. -/
def State.permitted (s : State) (fn op : Nat) (payload : List Byte) : Bool :=
  if fn = 0 then true
  else match op / 256 with
    | 1 => decide (op ≤ 0x0103)
    | 2 => true
    | 4 => s.sessions.any fun x => x.fn == fn && x.world == some (getU payload 0 1) && decide (2 ≤ x.state ∧ x.state ≤ 4)
    | 5 => decide (0x0504 ≤ op)
    | 6 => !((op == 0x0601 || op == 0x0602) && getU payload 0 1 == 2)
    | 8 => op == 0x0801
    | _ => false

/-- Fetch and write descriptors that a command may use: least and most of each (R317, chapter 14; log entry 17). -/
def descRule (op : Nat) : (Nat × Nat) × (Nat × Nat) :=
  if [0x0301, 0x0706, 0x070A, 0x0902, 0x0905, 0x0906, 0x0907, 0x0A06, 0x0A07, 0x0B01].contains op then ((1, 64), (0, 0))
  else if [0x0401, 0x0402, 0x0507].contains op then ((0, 64), (0, 0))
  else if [0x0404, 0x0603, 0x070C, 0x0904, 0x0908, 0x0A04].contains op then ((0, 0), (1, 1))
  else if [0x0701, 0x0709, 0x0805, 0x0B04].contains op then ((0, 0), (1, 64))
  else if op = 0x0B05 then ((0, 0), (0, 1))
  else ((0, 0), (0, 0))

/-- One descriptor's bytes (Table 13.4), and whether its values are legal. -/
def descOf (bs : List Byte) : Desc := { addr := getU bs 0 8, len := getU bs 8 4, write := getU bs 12 1 == 1 }
def descOk (bs : List Byte) : Bool :=
  let d := descOf bs
  d.addr % 8 == 0 && decide (8 ≤ d.len) && decide (d.len ≤ 268435456) && d.len % 8 == 0 && decide (getU bs 12 1 ≤ 1)
    && decide (d.addr + d.len ≤ 2 ^ 64)

/-- Check 9 over the descriptor table: the status and the index of the first bad descriptor. A nonzero reserved byte is a
reserved field of a message (R13). -/
def badDesc (op : Nat) (raw : List (List Byte)) : Option (Nat × Nat) :=
  let r := descRule op
  let bad (b : List Byte) : Option Nat :=
    if !allZero (slice b 13 3) then some 0x0105
    else if !descOk b || (if (descOf b).write then r.2.2 == 0 else r.1.2 == 0) then some 0x0106 else none
  match (List.range raw.length).findSome? fun i => (bad (raw.getD i [])).map fun st => (st, i) with
  | some x => some x
  | none =>
    let w := (raw.filter fun b => (descOf b).write).length
    let f := raw.length - w
    if f < r.1.1 ∨ f > r.1.2 ∨ w < r.2.1 ∨ w > r.2.2 then some (0x0106, 0) else none

/-- Checks 1 to 7 on a request (header, slot bytes): the failing status. -/
def State.requestCheck (s : State) (fn : Nat) (b : List Byte) : Option Nat :=
  let dc := getU b 14 2
  let pl := getU b 20 4
  let op := getU b 4 2
  let ses := getU b 8 1
  let payload := slice b (32 + 16 * dc) pl
  if dc > 64 ∨ 32 + 16 * dc + pl > 4092 then some 0x0104
  else if getU b 28 4 ≠ crc32c (b.take 28 ++ slice b 32 (16 * dc + pl)) then some 0x0401
  else if getU b 0 2 ≠ 0x4649 then some 0x0101
  else if getU b 2 1 ≠ 3 ∨ getU b 3 1 > 2 then some 0x0102
  else if getU b 9 1 ≠ 0 ∨ getU b 6 2 ≥ 4 ∨ getU b 24 4 ≠ 0 then some 0x0105
  else if !opcodes.contains op then some 0x0103
  else if !s.permitted fn op payload then some 0x0502
  else if namesSession op payload then (if s.ownsSession fn ses then none else some 0x0107)
  else if ses = 0xFF then none else some 0x0107

/-! ## Frame binding and arrival (R46, R317, R483) -/

/-- A boundary T_c + `percent`/100 P: formed from the exact T_c and rounded down once (R43, Table 02.3). -/
def FrameConf.tcPlus (c : FrameConf) (percent : Nat) : Nat := (c.cutoff + percent) * c.period / 100
/-- A share of P in whole µs, rounded down (R43). -/
def FrameConf.part (c : FrameConf) (percent : Nat) : Nat := percent * c.period / 100

/-- Start of each phase in µs after the frame open (Table 02.1); phase 14 starts at a cluster's last task. -/
def FrameConf.phaseStart (c : FrameConf) : Nat → Nat
  | 1 => 0
  | 2 | 3 => 10
  | 4 | 5 => c.tc
  | 6 => c.tcPlus 2
  | 7 => c.tcPlus 4
  | 8 => c.tcPlus 15
  | 9 => c.tcPlus 17
  | 10 => c.part 72
  | 11 => c.part 76
  | 12 => c.part 84
  | _ => c.period - 30

/-- End of each phase (Table 02.1); the ends of phases 4 to 8 are planning targets (R44). -/
def FrameConf.phaseEnd (c : FrameConf) : Nat → Nat
  | 1 => 10
  | 2 => c.tc
  | 3 => 40
  | 4 => c.tcPlus 9
  | 5 => c.part 50
  | 6 => c.part 62
  | 7 => c.part 64
  | 8 => c.part 70
  | 9 => c.part 72
  | 10 => c.part 76
  | 11 => c.part 84
  | 12 => c.part 88
  | _ => c.period - 10

/-- The frame a command that arrives at `t` belongs to (R46, R483). -/
def State.frameFor (s : State) (t : Nat) : BitVec 32 :=
  if s.gridRuns ∧ s.frame.phase = .opened ∧ t < s.frame.openTime + s.frame.conf.tc * ticksPerUs then s.frame.counter
  else s.frame.counter + 1

/-- Selectable counters with CMD_SCOPE restart at the admission of a command with their tag (R453). -/
def State.cmdScopeReset (layer op : Nat) (s : State) : State :=
  s.obs.programme.foldl (init := s) fun s e =>
    if e.cmdScope && tagMatch e.tagLayer layer && tagMatch e.tagOperator op then
      if e.scope = 0 then s.modCl e.inst fun c => { c with selCounters := upsert e.idx 0 c.selCounters }
      else if e.scope = 1 then s.modStk e.inst fun c => { c with selCounters := upsert e.idx 0 c.selCounters }
      else s.modHub fun h => { h with selCounters := upsert e.idx 0 h.selCounters }
    else s

/-- Body of CMD_BEGIN and CMD_END records. -/
def cmdBody (c : Cmd) (status : Nat) : List Byte :=
  le 1 c.fn ++ le 1 c.slot ++ le 2 c.opcode ++ le 1 c.session ++ zeros 3 ++ le 4 c.seq ++ le 2 c.layerId ++
    le 2 c.operatorId ++ zeros 4 ++ le 2 status

/-- The command's bulk data is complete: it arrives, behind every command that arrived before it (R46, R258), and waits for
its opcode row. -/
def State.arrive (c : Cmd) (bulk : List Byte) (t : Nat) (s : State) : State :=
  let s := (s.modCmd c.fn c.slot fun c =>
    { c with bulk := bulk, stage := .ready, admitted := true, order := s.mbx.nextOrder, arrival := t,
             frame := s.frameFor t }).modMbx fun m => { m with nextOrder := m.nextOrder + 1 }
  let s := s.cmdScopeReset c.layerId c.operatorId
  let s := s.trace 4 0xFF 7 (cmdBody c 0) c.layerId c.operatorId
  if bit (s.traceCfg 4 2 2) 5 && tagMatch (s.traceCfg 4 10 2) c.layerId && tagMatch (s.traceCfg 4 12 2) c.operatorId
  then s.traceTrigger 5 else s

/-- Total bytes of the fetch descriptors. -/
def Cmd.fetchBytes (c : Cmd) : Nat := sumN ((c.descs.filter fun d => !d.write).map (·.len))

/-- Check 9 and the start of fetching for a command that the sluice has let in. -/
def State.letIn (c : Cmd) (raw : List (List Byte)) (t : Nat) (s : State) : State :=
  match badDesc c.opcode raw with
  | some (st, i) => s.refuse c st i
  | none =>
    if c.fetchBytes = 0 then s.arrive c [] t
    else if c.opcode = 0x0401 ∨ c.opcode = 0x0402 then
      if c.fetchBytes > 12582912 then s.refuse c 0x0303
      else s.modCmd c.fn c.slot fun c => { c with stage := .landing }
    else s.modCmd c.fn c.slot fun c => { c with stage := .fetching }

/-- The descriptor table of a slot, entry by entry. -/
def State.rawDescs (s : State) (fn slot n : Nat) : List (List Byte) :=
  (List.range n).map fun i => Mem.readBytes s.mbx.bytes (slotAddr fn slot (32 + 16 * i)) 16

/-- The mailbox takes a slot and the CFW checks the request (R310, R314, R257, R258). -/
def State.slotSubmit (fn slot : Nat) (t : Nat) (s : State) : State :=
  if !s.boot.cfwUp || !(s.linkOf fn).up then s
  else if s.slotHeld fn slot || (s.fnS fn).flrBusy then s.discard fn
  else
    let b := Mem.readBytes s.mbx.bytes (slotAddr fn slot 0) 4092
    let dc := getU b 14 2
    let lenOk := decide (dc ≤ 64 ∧ 32 + 16 * dc + getU b 20 4 ≤ 4092)
    let raw := if lenOk then s.rawDescs fn slot dc else []
    let c : Cmd := {
      fn := fn, slot := slot, opcode := getU b 4 2, flags := getU b 6 2, session := getU b 8 1, layerId := getU b 10 2,
      operatorId := getU b 12 2, seq := getU b 16 4, descs := raw.map descOf,
      payload := if lenOk then slice b (32 + 16 * dc) (getU b 20 4) else [], submitted := s.mbx.nextOrder,
      order := s.mbx.nextOrder, landed := s.time.now }
    let s := s.modMbx fun m => { m with
      bytes := Mem.write (slotAddr fn slot 0xFFC) 1 m.bytes, own := m.own ++ [(fn, slot)],
      cmds := m.cmds ++ [c], nextOrder := m.nextOrder + 1 }
    match s.requestCheck fn b with
    | some st => s.refuse c st
    | none =>
      if isSluiced c.opcode && s.hub.sluiceClosed then
        if bit c.flags 0 then s.modCmd fn slot fun c => { c with stage := .held }
        else (s.refuse c 0x0301).bumpSes c.session 13
      else s.letIn c raw t

/-- SLOT_SUBMIT: the ownership write of R310. -/
def execSlotSubmit (fn slot : Nat) (t : Nat) (s : State) : Host.Outcome State Fault Refusal :=
  ranAt (slotOk fn slot) t s fun s => s.slotSubmit fn slot s.time.now

/-- A host write to slot bytes (R310, R311, R364). -/
def State.slotWrite (fn slot off : Nat) (bs : List Byte) (t : Nat) (s : State) : State :=
  if !(s.linkOf fn).up || bs.isEmpty then s
  else if s.slotHeld fn slot then s.discard fn
  else if off + bs.length > 0xFFC then
    if off = 0xFFC ∧ bs.length = 4 then (if bit (ofLE bs) 0 then s.slotSubmit fn slot t else s)
    else s.discard fn
  else
    let s := s.modMbx fun m => { m with bytes := Mem.writeBytes (slotAddr fn slot off) bs m.bytes }
    s.selEvent 2 0 0x41 0 0xFFFF 0xFFFF bs.length

/-- INBOUND_SLOT_WRITE (R311). -/
def execInboundSlotWrite (fn slot off : Nat) (bytes : List Byte) (t : Nat) (s : State) :
    Host.Outcome State Fault Refusal :=
  ranAt (slotOk fn slot && decide (off + bytes.length ≤ 4096)) t s fun s => s.slotWrite fn slot off bytes s.time.now

/-- The bytes of the fetch descriptors, concatenated in table order (R317). -/
def State.fetched (s : State) (c : Cmd) : List Byte :=
  (c.descs.filter fun d => !d.write).flatMap fun d => Mem.readBytes s.host d.addr d.len

/-- The last fetch of a command ends, in its arrival or in FETCH_FAILED (R317, R357, R371). -/
def State.commandArrival (fn slot : Nat) (failed : Option Nat) (t : Nat) (s : State) : State :=
  match s.cmd? fn slot with
  | none => s
  | some c =>
    if c.stage = .fetching ∧ c.response = none then
      let first := (c.descs.findIdx? fun d => !d.write).getD 0
      match if s.dmaOk fn then failed else some first with
      | some i =>
        let s := if c.opcode = 0x0401 ∨ c.opcode = 0x0402 then
            s.modWorlds fun w => { w with landingUsed := w.landingUsed - c.fetchBytes } else s
        s.refuse c 0x0406 i
      | none => (s.arrive c (s.fetched c) t).selEvent 2 0 0x41 0 c.layerId c.operatorId c.fetchBytes
    else s

/-- COMMAND_ARRIVAL (R317). -/
def execCommandArrival (fn slot : Nat) (failed : Option Nat) (t : Nat) (s : State) :
    Host.Outcome State Fault Refusal :=
  ranAt (slotOk fn slot && failedOk failed) t s fun s => s.commandArrival fn slot failed s.time.now

/-- A brine command is fetched into landing once it fits, in arrival order (R276). -/
def State.brineLanding (fn slot : Nat) (s : State) : State :=
  match s.mbx.cmds.find? fun c => c.stage == .landing with
  | none => s
  | some c =>
    if c.fn = fn ∧ c.slot = slot ∧ s.worlds.landingUsed + c.fetchBytes ≤ 12582912 then
      (s.modWorlds fun w => { w with landingUsed := w.landingUsed + c.fetchBytes }).modCmd fn slot
        fun c => { c with stage := .fetching }
    else s

/-- BRINE_LANDING (R276). -/
def execBrineLanding (fn slot : Nat) (t : Nat) (s : State) : Host.Outcome State Fault Refusal :=
  ranAt (slotOk fn slot) t s (State.brineLanding fn slot)

/-! ## Responses (R311, R313, R320) -/

/-- The response header and payload bytes; the descriptor table stands where the request put it (log entry 18). -/
def responseBytes (c : Cmd) (r : Response) (descs : List Byte) : List Byte :=
  let h := le 2 0x4649 ++ le 1 3 ++ le 1 2 ++ le 2 c.opcode ++ zeros 2 ++ le 1 (r.session.getD c.session) ++ [0] ++
    le 2 c.layerId ++ le 2 c.operatorId ++ le 2 c.descs.length ++ le 4 c.seq ++ le 4 r.payload.length ++
    le 2 r.status ++ le 2 r.arg
  h ++ le 4 (crc32c (h ++ descs ++ r.payload)) ++ descs ++ r.payload

/-- A stream or query command that is judged at T_c of the frame in progress (R320, R342). -/
def Cmd.atCutoff (c : Cmd) (s : State) : Bool :=
  decide (0x0504 ≤ c.opcode) && decide (c.opcode ≤ 0x0507) && c.stage == .ready && c.response.isNone
    && !laterFrame c.frame s.frame.counter && s.frame.phase != .closed && s.frame.phase != .opened

/-- The response point: response, OWN = 0, then MSI-X unless SILENT (R311). A
QUERY_SUBMIT's DISPOSITIONs are known once every command of its T_c is judged (R344). -/
def State.mailboxResponse (fn slot : Nat) (s : State) : State :=
  match s.cmdFor fn slot fun c => c.response.isSome with
  | none => s
  | some c => match c.response with
    | none => s
    | some r =>
      if c.opcode = 0x0507 ∧ r.status = 0 ∧ s.mbx.cmds.any fun x => x.atCutoff s then s else
      let s := s.trace 4 0xFF 8 (cmdBody c r.status) c.layerId c.operatorId
      let rest (m : Mailbox) : Mailbox := { m with cmds := m.cmds.filter fun x => x.order != c.order }
      if c.silentDrop then s.modMbx rest
      else
        let descs := Mem.readBytes s.mbx.bytes (slotAddr fn slot 32) (16 * c.descs.length)
        let s := s.modMbx fun m => { rest m with
          bytes := Mem.write (slotAddr fn slot 0xFFC) 0
            (Mem.writeBytes (slotAddr fn slot 0) (responseBytes c r descs) m.bytes),
          own := m.own.filter (· != (fn, slot)),
          freed := (m.freed.filter fun x => x.2 == s.time.now) ++ [((fn, slot), s.time.now)] }
        if bit c.flags 1 then s else s.msixRaise fn 0

/-- MAILBOX_RESPONSE (R311). -/
def execMailboxResponse (fn slot : Nat) (t : Nat) (s : State) : Host.Outcome State Fault Refusal :=
  ranAt (slotOk fn slot) t s (State.mailboxResponse fn slot)

/-! ## Sluice and dispatcher input (R256-R258, R327) -/

/-- Tasks a dispatcher input holds (Table 10.4). -/
abbrev inputDepth : Nat := 128

/-- A task enters a stack's dispatcher input; an input that becomes full closes the sluice (R257). -/
def State.queueTask (k : Nat) (d : TaskDesc) (s : State) : State :=
  let s := s.modStk k fun y => { y with dispatcher := y.dispatcher ++ [{ task := d }] }
  if (s.stk k).dispatcher.length ≥ inputDepth then s.modHub fun h => { h with sluiceClosed := true } else s

/-- The oldest task of a stack's CFW task list moves into its dispatcher input; a full input refuses it, which is counted, and
the task list holds it (Table 10.3). -/
def State.hubTaskTransfer (k : Nat) (s : State) : State :=
  match (s.stk k).taskList with
  | [] => s
  | d :: rest =>
    if (s.stk k).dispatcher.length ≥ inputDepth then s.bumpStk k 1
    else (s.modStk k fun y => { y with taskList := rest }).queueTask k d

/-- HUB_TASK_TRANSFER (R256). -/
def execHubTaskTransfer (stack : Nat) (t : Nat) (s : State) : Host.Outcome State Fault Refusal :=
  ranAt (below stack 4) t s (State.hubTaskTransfer stack)

/-- The sluice reopens and held commands are admitted in the order in which they were stopped (R257, R327). -/
def State.sluiceReopen (t : Nat) (s : State) : State :=
  if s.hub.sluiceClosed && s.stks.all fun x => decide (x.dispatcher.length ≤ 64) then
    (s.mbx.cmds.filter fun c => c.stage == .held).foldl
      (init := s.modHub fun h => { h with sluiceClosed := false })
      fun s c => s.letIn c (s.rawDescs c.fn c.slot c.descs.length) t
  else s

/-- SLUICE_REOPEN (R257). -/
def execSluiceReopen (t : Nat) (s : State) : Host.Outcome State Fault Refusal :=
  ranAt true t s fun s => s.sluiceReopen s.time.now

/-- A frame opens over a held command: at the fourth it is answered BUSY (R258). -/
def State.ageHeld (s : State) : State :=
  (s.mbx.cmds.filter fun c => c.stage == .held).foldl (init := s) fun s c =>
    if c.heldOpens + 1 ≥ 4 then (s.refuse c 0x0301).bumpSes c.session 13
    else s.modCmd c.fn c.slot fun c => { c with heldOpens := c.heldOpens + 1 }

/-! ## Running a command's opcode row -/

/-- The message as it arrived (R298): header, descriptor table and inline payload. -/
def State.message (s : State) (c : Cmd) : List Byte :=
  if c.slot ≥ 32 then c.raw else Mem.readBytes s.mbx.bytes (slotAddr c.fn c.slot 0) (32 + 16 * c.descs.length + c.payload.length)

/-- The MAILBOX capture entry of a command that takes effect now, with its fetched records in a BRINE entry; image bytes are
omitted (R298; log entry 51). -/
def State.captureCmd (c : Cmd) (s : State) : State :=
  let s := s.capture 1 c.fn c.slot 0 c.arrival (s.message c)
  if c.bulk.isEmpty || c.opcode / 256 == 3 then s else s.capture 2 c.fn c.slot 0 c.arrival c.bulk

/-- Accepted in QUARANTINE (R332). -/
def quarantineOk (op : Nat) : Bool :=
  [0x0101, 0x0102, 0x0103, 0x0901, 0x0904, 0x0908].contains op || op / 256 == 8 || op / 256 == 11
/-- Accepted while replay runs (R300). -/
def replayOk (op : Nat) : Bool := op / 256 == 7 || op / 256 == 8

/-- A brine command's landing space is free again (R276). -/
def State.freeLanding (c : Cmd) (s : State) : State :=
  if c.opcode = 0x0401 ∨ c.opcode = 0x0402 then
    s.modWorlds fun y => { y with landingUsed := y.landingUsed - c.fetchBytes }
  else s

/-- A command that has arrived and acts at once: neither brine nor judged at T_c. -/
def Cmd.immediate (c : Cmd) : Bool :=
  c.stage == .ready && c.response.isNone && !([0x0401, 0x0402].contains c.opcode || decide (0x0504 ≤ c.opcode ∧ c.opcode ≤ 0x0507))

/-- Commands that act at once are processed in the order in which their ownership writes completed (R312). -/
def State.inTurn (s : State) (c : Cmd) : Bool :=
  !c.immediate || !(s.mbx.cmds.any fun x => x.immediate && x.sooner c)

/-- An opcode row acts on a command that has arrived and is due in its turn: check 10 of R314, then the command's body. -/
def runCmd (op fn slot : Nat) (body : Cmd → State → State) (s : State)
    (due : Cmd → State → Bool := fun _ _ => true) (captured : Bool := true) : State :=
  match s.cmdFor fn slot fun c => c.opcode == op && c.stage == .ready && c.response.isNone with
  | none => s
  | some c =>
    if s.inTurn c ∧ due c s then
      if s.boot.mode = 1 ∧ !quarantineOk op then (s.refuse c 0x0208).freeLanding c
      else if s.frame.devState = 3 ∧ !replayOk op then (s.refuse c 0x0205).freeLanding c
      else body c (if captured then s.captureCmd c else s)
    else s

end Sys2Proof.Machine
end

