-- ==== Sys2Proof/Machine/Reset.lean ====
section
/-!
DEFINITION. Sys2Proof/Machine/Reset.lean: what closes sessions and resets functions and the device: session close, FLR
(R373), device warm reset (R372), cold start (R468), and the wipe of the secure region (R277).
-/
namespace Sys2Proof.Machine

/-- The streams of some sessions leave the stream set; their IDs are free from the next frame open (R373, R483). -/
def State.dropStreams (of : Stream → Bool) (s : State) : State :=
  if s.frame.devState = 0 then s.modStreams fun l => l.filter fun x => !of x
  else s.modStreams fun l => l.map fun x =>
    if of x then { x with
      removing := true, active := false, query := none, motion := .standstill, published := none, carried := none } else x

/-- A session closes (SES_CLOSE, R370, R373): its event, its waiting commands answered, streams and rings gone; the ID is
free from the next frame open, or at once in IDLE (R483). -/
def State.closeSession (i cause : Nat) (s : State) : State :=
  let s := (s.sesTo i 0 cause).dropWaiting i
  let s := s.dropStreams fun x => x.session == i
  let s := s.modRings fun l => l.filter fun r => r.key != 2 * i && r.key != 2 * i + 1
  let closing := s.frame.devState != 0
  s.modSes i fun x => { x with closing := closing, world := none, rig := none, net := none, cost := none,
                               pendingSet := none }

/-- Closes every session that is open and chosen. -/
def State.closeSessions (of : Session → Bool) (cause : Nat) (s : State) : State :=
  (List.range 16).foldl (init := s) fun s i =>
    if (s.ses i).state != 0 && of (s.ses i) then s.closeSession i cause else s

/-- The secure region reads 0 and refuses writes, and the wipe ends 40 µs later (R277). -/
def State.wipeSecure (s : State) : State :=
  (s.modSram fun m => m.filter fun c => c.1 < hubSramBase + hubSecure || hubTraceBase ≤ c.1).modHub fun h => { h with
    secretsKeys := false, secretsGolden := false, secureWiped := true, wipeDone := some (s.time.now + 40 * ticksPerUs) }

/-- The slot number under which a command of a reset function completes: above every slot, and its own. -/
def Cmd.silentSlot (c : Cmd) : Nat := c.slot % 32 + 32 * (c.submitted + 1)

/-- A reset function's admitted commands go on silently: they leave their slots, with their messages, and what waits on them
follows (R373 step 4). -/
def State.silence (fn : Nat) (s : State) : State :=
  let key (k : Nat × Nat) : Nat × Nat :=
    if k.1 = fn then ((s.cmd? k.1 k.2).map fun c => (fn, c.silentSlot)).getD k else k
  let slots (l : List SlotState) : List SlotState := l.map fun x => { x with loader := x.loader.map key }
  { s with
    mbx := { s.mbx with cmds := s.mbx.cmds.map fun c =>
      if c.fn = fn then { c with silentDrop := true, raw := s.message c, slot := c.silentSlot } else c },
    images := { s.images with
      worldSlots := slots s.images.worldSlots, rigSlots := slots s.images.rigSlots, netSlots := slots s.images.netSlots,
      costSlots := slots s.images.costSlots },
    worlds := { s.worlds with distJobs := s.worlds.distJobs.map fun j => { j with cmd := j.cmd.map key } },
    fabric := { s.fabric with
      msgs := s.fabric.msgs.map (fun m => { m with cmd := m.cmd.map key }), answers := s.fabric.answers.map key },
    det := { s.det with replayStalled := s.det.replayStalled.map key } }

/-- An FLR's own cycle (R373 steps 1 and 3 to 5); an ownership write of that cycle is discarded. -/
def State.flr (fn cause : Nat) (s : State) : State :=
  let now := s.time.now
  let late := (s.mbx.cmds.filter fun c => c.fn == fn && c.landed == now && !c.silentDrop).length
  let s := s.closeSessions (fun x => x.fn == fn) cause
  let admitted (c : Cmd) : Bool :=
    c.silentDrop || c.landed != now && (c.admitted && !(isSluiced c.opcode || c.opcode == 0x0506) || c.response.isSome)
  let gone (c : Cmd) : Bool := c.fn == fn && !admitted c
  let landing := sumN ((s.mbx.cmds.filter fun c =>
    gone c && (c.stage == .fetching || c.stage == .ready) && (c.opcode == 0x0401 || c.opcode == 0x0402)).map (·.fetchBytes))
  let s := s.modWorlds fun w => { w with landingUsed := w.landingUsed - landing }
  let s := s.modMbx fun m => { m with
    own := m.own.filter fun o => o.1 != fn, cmds := m.cmds.filter fun c => !gone c }
  let s := s.silence fn
  let s := s.modRings fun l => l.filter fun r => r.fn != fn
  let s := if fn = 0 then s.modErrors fun e => { e with dump := { e.dump with target := none } } else s
  s.modFn fn fun f => { f with flrBusy := true, discard := satU 16 (f.discard + late) }

/-- An FLR completes (R373 step 6): slots host-owned and zero, the function's registers at reset. -/
def State.flrComplete (fn : Nat) (s : State) : State :=
  if (s.fnS fn).flrBusy then
    let s := s.modMbx fun m => { m with
      bytes := m.bytes.filter fun c => c.1 < slotAddr fn 0 0 || slotAddr fn 32 0 ≤ c.1,
      own := m.own.filter fun o => o.1 != fn }
    s.modFn fn fun _ => {}
  else s

/-- The functions an FLR of `fn` resets: PF1's takes every VF with it (Table 15.15). -/
def flrScope (fn : Nat) : List Nat := if fn = 1 then (List.range 16).map (· + 1) else [fn]

/-- Clusters as they start: a disabled one is held gated from power-up (R35). -/
def State.freshClusters (s : State) : List Cluster :=
  (List.range 64).map fun p => { gate := if s.enabled p then .on else .powerGated }

/-- The repairs of the background test in a new cluster: a region mapped to a spare stays mapped (R285). -/
def Cluster.keepRepairs (old c : Cluster) : Cluster :=
  { c with test := { c.test with
      sparesUsed := old.test.sparesUsed, remapped := old.test.remapped, spares := old.test.spares } }

/-- What a device warm reset keeps: fuses, flash, the always-on domain, device time, the SSV, the dump region, the links, the
repairs of the background test, host memory (R372, R398, R433; log entry 19). -/
def State.warmReset (cause : Nat) (s : State) : State :=
  let s := s.closeSessions (fun _ => true) cause
  let d := s.errors.dump
  let fresh : State := {}
  let link (l : Link) : Link := { l with downSeen := false }
  { fresh with
    part := s.part, flash := s.flash, aon := s.aon, mgmt := { s.mgmt with fieldDebug := false },
    time := { now := s.time.now },
    pcie := { linkA := link s.pcie.linkA, linkB := link s.pcie.linkB, sent := s.pcie.sent },
    hub := { hbmBand := s.hub.hbmBand, hbmTemp := s.hub.hbmTemp },
    safety := { s.safety with restartPending := none, resetUnderWay := true, rateRef := none },
    boot := { s.boot with cfwUp := false },
    errors := { dump := { d with target := none, writing := none, codes := [] } },
    clusters := s.freshClusters.mapIdx fun p c => (s.cl p).keepRepairs c,
    host := s.host, saves := s.saves, free := s.free, pending := s.pending }

/-- The main rails are off: every session, image, world and the dump region are lost; fuses, flash and the always-on
domain stay (R468). SAFE_A reads low and SAFE_B high (R466). The model's clock runs on (log entry 41). -/
def State.mainOff (s : State) : State :=
  let fresh : State := {}
  { fresh with
    part := s.part, flash := s.flash, mgmt := { s.mgmt with fieldDebug := false, perstAsserted := s.mgmt.perstAsserted },
    time := { now := s.time.now },
    aon := { s.aon with
      railsUp := false, tempValid := false, powerStep := 0, thermStep := [0, 0, 0, 0], railsOffDue := none,
      safePinsForced := false, overLimit := false },
    clusters := s.freshClusters,
    host := s.host, saves := s.saves, free := s.free, pending := s.pending }

end Sys2Proof.Machine
end

