-- ==== Sys2Proof/Machine/Registers.lean ====
section
/-!
DEFINITION. Sys2Proof/Machine/Registers.lean: the readable value of every register, the reads that have a side effect, and
register writes by access code (R12-R16, R360-R365, R453-R456, R479).
-/
namespace Sys2Proof.Machine

/-! ## Counters as registers (R451, R454) -/

/-- A counter's live value. -/
def State.counter (s : State) (scope inst idx : Nat) : Nat :=
  match scope with
  | 0 => if !s.enabled inst then 0
    else if idx < 16 then (s.cl inst).counters.getD idx 0 else lookupD 0 idx (s.cl inst).selCounters
  | 1 => if idx < 16 then (s.stk inst).counters.getD idx 0 else lookupD 0 idx (s.stk inst).selCounters
  | 2 => if idx < 32 then s.hub.counters.getD idx 0 else lookupD 0 idx s.hub.selCounters
  | _ => (s.ses inst).counters.getD idx 0

/-- A counter's FREEZE shadow; 0 before the first FREEZE. -/
def State.shadow (s : State) (scope inst idx : Nat) : Nat :=
  match s.obs.shadows.find? fun x => x.1 == scope && x.2.1 == inst && x.2.2.1 == idx with
  | some x => x.2.2.2
  | none => 0

/-- The key of a counter's latched HI word. -/
def hiKey (scope inst idx : Nat) (shadow : Bool) : Nat := ((scope * 64 + inst) * 64 + idx) * 2 + flag shadow 0

/-- The selection entry of a counter slot. -/
def State.selEntry (s : State) (scope inst idx : Nat) : Option CounterSel :=
  s.obs.programme.find? fun e => e.scope == scope && e.inst == inst && e.idx == idx

/-- COUNTER_LO_READ (R454, R455): the value's LO half, its HI half latched for the reader, the sample-and-reset case. -/
def State.counterLoRead (fn scope inst idx : Nat) (shadow reset : Bool) (s : State) : State :=
  if fn ≠ 0 ∨ !(s.linkOf 0).up then s
  else
    let v := if shadow then s.shadow scope inst idx else s.counter scope inst idx
    let sampled := reset && !shadow && ((s.selEntry scope inst idx).map (·.cmdScope)).getD false
    let hi := v / 2 ^ 32 + flag sampled 31
    let s := s.modPcie fun p => { p with readData := v % 2 ^ 32 }
    let s := s.modFn 0 fun f => { f with counterHi := upsert (hiKey scope inst idx shadow) hi f.counterHi }
    if sampled then
      let up (l : List (Nat × Nat)) := upsert idx 0 l
      let s := if scope = 0 then s.modCl inst fun c => { c with selCounters := up c.selCounters }
        else if scope = 1 then s.modStk inst fun c => { c with selCounters := up c.selCounters }
        else s.modHub fun h => { h with selCounters := up h.selCounters }
      (s.modObs fun o => { o with snapPrev := true }).bumpHub 14
    else s

/-! ## Configuration space (R358) -/

/-- What identifies a function in its configuration space, its BARs with their sizes: (BAR, bytes). -/
structure FnIdentity where
  vendor : Nat
  device : Nat
  classCode : Nat
  subsystem : Nat
  bars : List (Nat × Nat)
  deriving DecidableEq, Repr

/-- The identity of a function (Table 15.2); every BAR is 64-bit and non-prefetchable. The vendor ID's value is not in the
manual (log entry 142). -/
def State.fnIdentity (s : State) (fn : Nat) : FnIdentity :=
  { vendor := Config.vendorId.toNat, device := if fn = 0 then 0x7160 else if fn = 1 then 0x7161 else 0x7162,
    classCode := 0x120000, subsystem := s.part.orderCode + 1,
    bars := [(0, 0x10000), (2, 0x20000)] ++ (if fn = 0 then [(4, 0x1000000)] else []) }

/-! ## Read values -/

/-- The lifecycle code: FIELD_DEBUG while it holds (R447). -/
def State.lifecycle (s : State) : Nat := if s.mgmt.fieldDebug then 3 else s.part.lifecycle

/-- FAULT_N is asserted low (R466). -/
def State.faultNLow (s : State) : Bool :=
  !s.aon.railsUp || s.boot.mode == 3 || s.boot.mode == 1 || s.aon.pstate == 5 || s.part.lifecycle == 5

/-- WDOG_IN has had an edge within the last 5,000 µs of SSV time (R402). -/
def State.wdogPresent (s : State) : Bool :=
  match s.safety.wdogEdge with
  | some e => decide (s.safety.ssvNow - e ≤ 250000)
  | none => false

/-- Some rake item is older than 100 ms while its age is judged (R408, Table 17.8). -/
def State.latentOverdue (s : State) : Bool :=
  s.classSRunning && s.safety.rakeItems.any fun i => decide (s.time.now - i.last > 100000 * ticksPerUs)

/-- A low byte as a two's-complement field. -/
def s8 (v : Int) : Nat := ((max (-128) (min 127 v)) % 256).toNat

/-- e_s of R477. -/
def State.clockStep (s : State) (k : Nat) : Nat := max s.aon.powerStep (s.aon.thermStep.getD k 0)

/-- The HI word of a tamper-log slot (Table 21.19). -/
def tamperHi : Option TamperEntry → Nat
  | none => 0
  | some e => e.source * 2 ^ 28 + flag e.wiped 27 + flag e.standby 26 + bits e.rtc 32 16

/-- SMBus registers (Tables 21.9 to 21.19); `master` is 0 for SMBus and 1 for the BAR4 mirror. -/
def State.readSmbus (s : State) (master code : Nat) : Nat :=
  let valid := (s.mgmt.tamperLog.filter (·.isSome)).length
  match code with
  | 0x00 => 0xB1 * 2 ^ 24 + s.part.orderCode * 2 ^ 16 + s.lifecycle * 256 + 1
  | 0x01 =>
    let on := sumN ((List.range 4).map fun k => flag (!(s.stk k).hubOnly) (20 + k))
    let tamper := s.mgmt.lid || s.mgmt.tamperPin || s.mgmt.glitch || s.mgmt.clkMon
    on + s.boot.mode * 2 ^ 18 + flag s.boot.cfwUp 17 + flag s.faultNLow 16 + flag s.aon.auxPresent 15 +
      flag s.aon.mainInRange 14 + flag s.aon.railsUp 13 + flag s.aon.thermTripped 12 + flag tamper 11 +
      flag s.mgmt.gpio1 10 + flag s.mgmt.gpio0 9 + flag s.aon.overLimit 8 + s.aon.pstate
  | 0x03 => s.aon.cause
  | 0x04 => s8 s.aon.tempHbm * 2 ^ 24 + s8 s.aon.tempHub * 2 ^ 16 + s8 s.aon.tempCompute * 256 + flag s.aon.tempValid 0
  | 0x05 => (s.aon.power % 65536) * 65536 + s.aon.voltage % 65536
  | 0x06 => s.aon.limit
  | 0x07 =>
    s.aon.powerStep * 65536 + sumN ((List.range 4).map fun k =>
      flag (decide (s.aon.thermStep.getD k 0 > s.aon.powerStep)) (4 * k + 3) + s.clockStep k * 2 ^ (4 * k))
  | 0x08 => s.mgmt.rtc % 2 ^ 32
  | 0x09 => lookupD 0 master s.mgmt.rtcHi
  | 0x10 =>
    satU 16 s.mgmt.tamperCount * 65536 + valid * 256 + s.mgmt.tamperNext * 16 + flag s.mgmt.clkMon 3 +
      flag s.mgmt.glitch 2 + flag s.mgmt.tamperPin 1 + flag s.mgmt.lid 0
  | c =>
    if 0x20 ≤ c ∧ c < 0x40 then
      if c % 2 = 0 then (match s.mgmt.tamperLog.getD ((c - 0x20) / 2) none with
        | some e => e.rtc % 2 ^ 32
        | none => 0)
      else lookupD 0 (master * 16 + (c - 0x21) / 2) s.mgmt.logHi
    else 0

/-- BAR0 registers (Tables 15.3 to 15.11), without the read side effects. -/
def State.readBar0 (s : State) (fn off : Nat) : Nat :=
  let f := s.fnS fn
  let l := s.linkOf fn
  match off with
  | 0x0000 => 0xB1 * 2 ^ 24 + s.part.orderCode * 2 ^ 16 + fn
  | 0x0008 => s.time.now % 2 ^ 32
  | 0x000C => f.timeHi
  | 0x0010 => if fn ≠ 0 then 0 else
      flag s.time.stepDeferred 5 + flag s.time.ppsReject 4 + flag s.time.srcLost 3 + flag s.time.locked 2 + s.time.source
  | 0x0014 => if fn ≠ 0 then 0 else (sat 32 s.time.offset % 2 ^ 32).toNat
  | 0x0100 => sumN ((List.range 32).map fun i => flag (s.owned fn i) i)
  | 0x0104 => f.discard
  | 0x1000 =>
      l.width * 2 ^ 11 + l.speed * 256 + flag (s.mgmt.bifurcated == some true) 2 + flag l.downSeen 1 + flag l.flit 0
  | o =>
    if 0x0200 ≤ o ∧ o ≤ 0x0280 ∧ o % 4 = 0 ∧ (o < 0x0280 ∨ fn = 0) then lookupD 0 ((o - 0x0200) / 4) f.ridx
    else if 0x8000 ≤ o ∧ o < 0x8400 ∧ o % 4 = 0 then
      let e := lookupD {} ((o - 0x8000) / 16) f.msix
      match o % 16 with
      | 0 => e.addr % 2 ^ 32
      | 4 => e.addr / 2 ^ 32
      | 8 => e.data
      | _ => flag e.masked 0
    else if o = 0x9000 ∨ o = 0x9004 then
      sumN ((List.range 32).map fun i => flag (f.pendingBits.contains (i + (o - 0x9000) * 8)) i)
    else 0

/-- The state code of a trace buffer and whether any records (Table 20.8, 20.12). -/
def State.traceStatus (s : State) (b : Nat) : Nat :=
  let x := s.obs.buffers.getD b {}
  x.state * 2 ^ 30 + x.later * 2 ^ 24 + x.overflows

/-- LO or HI word of a register pair at an offset within a counter array. -/
def State.counterWord (s : State) (scope inst off : Nat) (shadow : Bool) : Nat :=
  let i := off / 8
  if off % 8 = 0 then (if shadow then s.shadow scope inst i else s.counter scope inst i) % 2 ^ 32
  else lookupD 0 (hiKey scope inst i shadow) (s.fnS 0).counterHi

/-- DBG_ block. -/
def State.readDbg (s : State) (o : Nat) : Nat :=
  match o with
  | 0x0000 =>
    flag (s.clusters.any (·.halted) || s.obs.cpHalted) 3 + flag s.obs.cpHalted 2 + flag s.obs.snapPrev 1 +
      flag (s.obs.buffers.any fun b => b.state == 1 || b.state == 3) 0
  | 0x0004 => flag s.obs.freezeDone 7 + flag s.obs.trigOutEn 3 + flag s.obs.fabricEn 2 + flag s.obs.trigInEn 1
  | 0x0008 => s.obs.freezeTime % 2 ^ 32
  | 0x000C => s.obs.freezeTime / 2 ^ 32
  | o =>
    if 0x20 ≤ o ∧ o < 0x34 then s.traceStatus ((o - 0x20) / 4)
    else if 0x1000 ≤ o ∧ o < 0x1200 then s.counterWord 2 0 (o - 0x1000) false
    else if 0x1200 ≤ o ∧ o < 0x1400 then s.counterWord 2 0 (o - 0x1200) true
    else if 0x2000 ≤ o ∧ o < 0x2800 then s.counterWord 3 ((o - 0x2000) / 128) ((o - 0x2000) % 128) false
    else if 0x2800 ≤ o ∧ o < 0x3000 then s.counterWord 3 ((o - 0x2800) / 128) ((o - 0x2800) % 128) true
    else 0

/-- Every task that holds entries of a cluster's structures: the waiting ones and those running (R247). -/
def Scheduler.tasks (x : Scheduler) : List Held := x.ms ++ x.rl ++ x.dl ++ x.running.map (·.2)

/-- Occupied entries of a structure: the tasks seated in it, the SUCC_EXTRA entries held in it, and those being handed to
successors (R247). -/
def Scheduler.occupied (x : Scheduler) (st : Nat) : Nat :=
  (x.tasks.filter fun h => h.seat == st).length + sumN ((x.tasks.filter fun h => h.extraSeat == st).map fun h => h.task.succExtra) +
    x.inHand.getD st 0

/-- Entries of a structure (Table 10.1): 0 matching store, 1 ready list, 2 delay list. -/
def structEntries (st : Nat) : Nat := if st = 0 then 256 else if st = 1 then 64 else 32

/-- Free entries of a structure, reservation included (Table 10.4). -/
def Scheduler.freeIn (x : Scheduler) (st : Nat) : Nat := structEntries st - x.occupied st

/-- A safety task holds an entry of the cluster. -/
def Scheduler.safeInUse (x : Scheduler) : Bool := x.tasks.any fun h => h.task.safety

/-- CLU_ block of a cluster; a disabled cluster's block reads 0 (R263). -/
def State.readClu (s : State) (p o : Nat) : Nat :=
  let c := s.cl p
  if !s.enabled p then 0
  else match o with
  | 0x0140 => c.arithFlags
  | 0x0144 => c.arithLast
  | 0x0180 =>
    if c.gate = .powerGated then
      let d := s.drainBytes p
      flag true 22 + getU d 7 1 * 65536 + getU d 6 1 * 512 + getU d 4 2
    else flag c.sched.safeInUse 23 + c.sched.freeIn 2 * 65536 + c.sched.freeIn 1 * 512 + c.sched.freeIn 0
  | 0x01C0 =>
    flag c.test.bgtLate 25 + flag c.test.bgtFail 24 + c.test.bgtFailBank * 2 ^ 14 + c.test.bgtRegion
  | 0x0200 =>
    flag c.test.retirePending 31 + s8 c.test.voff * 65536 + satU 8 c.test.slackN.toNat * 256 + satU 8 c.test.taps
  | 0x0340 => flag c.test.assayComplete 31 + c.test.assayFrameLo
  | o =>
    if 0x0300 ≤ o ∧ o < 0x0340 then
      let v := c.test.assaySig.getD ((o - 0x0300) / 8) 0
      if o % 8 = 0 then v % 2 ^ 32 else v / 2 ^ 32
    else if 0x0400 ≤ o ∧ o < 0x0600 then s.counterWord 0 p (o - 0x0400) false
    else if 0x0600 ≤ o ∧ o < 0x0800 then s.counterWord 0 p (o - 0x0600) true
    else 0

/-- FAB_ block (Tables 16.5 to 16.7). -/
def State.readFab (s : State) (o : Nat) : Nat :=
  let f := s.fabric
  if o = 0 then f.nodes * 2 ^ 20 + f.census * 2 ^ 17 + flag f.bound 16 + f.leader * 256 + f.nodeId
  else if o = 4 then f.epoch
  else if 0x100 ≤ o ∧ o < 0x180 then
    let p := s.port ((o - 0x100) / 0x20)
    match o % 0x20 with
    | 0 => (if p.up then p.neighbourId else 0xFF) * 2 ^ 24 + p.rtt * 2 ^ 12 + flag p.retrying 2 + flag p.up 1 + flag p.enabled 0
    | 4 => p.replays * 65536 + p.crcFail
    | _ => 0
  else 0

/-- SAF_STATUS (Table 17.8). -/
def State.safStatus (s : State) : Nat :=
  let x := s.safety
  x.latch.length * 256 + flag x.profile.isSome 7 + flag s.latentOverdue 6 + flag s.wdogPresent 5 + flag x.safeB 4 +
    flag x.safeA 3 + x.pinState

/-- A word of a trace buffer. -/
def State.readTrace (s : State) (b off : Nat) : Nat := getU (s.traceUnitAt b (off / 32)) (off % 32) 4

/-- PF0's BAR4 window (Table 15.12). -/
def State.readBar4 (s : State) (off : Nat) : Nat :=
  if off < 0x10000 then (if off < 0x100 then s.readBar0 0 off else if off = 0x1000 then s.readBar0 0 off else 0)
  else if off < 0x20000 then (if off = 0x10000 then s.safStatus else 0)
  else if off < 0x30000 then (if 0x28000 ≤ off ∧ off % 4 = 0 then s.readSmbus 1 ((off - 0x28000) / 4) else 0)
  else if off < 0x40000 then s.readDbg (off - 0x30000)
  else if off < 0x50000 then s.readFab (off - 0x40000)
  else if 0x100000 ≤ off ∧ off < 0x140000 then
    let k := (off - 0x100000) / 0x10000
    let o := off % 0x10000
    if 0x0400 ≤ o ∧ o < 0x0500 then s.counterWord 1 k (o - 0x0400) false
    else if 0x0600 ≤ o ∧ o < 0x0700 then s.counterWord 1 k (o - 0x0600) true else 0
  else if 0x140000 ≤ off ∧ off < 0x180000 then s.readClu ((off - 0x140000) / 0x1000) (off % 0x1000)
  else if 0x400000 ≤ off ∧ off < 0x800000 then s.readTrace ((off - 0x400000) / 0x100000) (off % 0x100000)
  else if 0x800000 ≤ off ∧ off < 0xC00000 then s.readTrace 4 (off - 0x800000)
  else 0

/-! ## Reads with a side effect -/

/-- COUNTER_LO_READ (R454). -/
def execCounterLoRead (fn scope inst idx : Nat) (shadow sameCycleReset : Bool) (t : Nat) (s : State) :
    Host.Outcome State Fault Refusal :=
  ranAt (fnOk fn && counterOk scope inst idx) t s (State.counterLoRead fn scope inst idx shadow sameCycleReset)

/-- MBX_WRITE_DISCARD is RC: the read returns the count and clears it; a discard in the same cycle is the new count (R16). -/
def State.discardRead (fn : Nat) (sameCycle : Bool) (s : State) : State :=
  let s := s.modPcie fun p => { p with readData := (s.fnS fn).discard }
  s.modFn fn fun f => { f with discard := flag sameCycle 0 }

/-- MBX_WRITE_DISCARD_READ (R16, Table 15.9). -/
def execMbxWriteDiscardRead (fn : Nat) (sameCycle : Bool) (t : Nat) (s : State) : Host.Outcome State Fault Refusal :=
  ranAt (fnOk fn) t s (State.discardRead fn sameCycle)

/-- HUB_TIME_LO returns bits 31:0 of device time and latches bits 63:32 for the reader (R361). -/
def State.timeLoRead (fn : Nat) (s : State) : State :=
  let s := s.modPcie fun p => { p with readData := s.time.now % 2 ^ 32 }
  s.modFn fn fun f => { f with timeHi := s.time.now / 2 ^ 32 % 2 ^ 32 }

/-- HUB_TIME_LO_READ (R361). -/
def execHubTimeLoRead (fn : Nat) (t : Nat) (s : State) : Host.Outcome State Fault Refusal :=
  ranAt (fnOk fn) t s (State.timeLoRead fn)

/-- The slow real-time counter, which counts upward modulo 2^48, stands at `rtc` (R471). -/
def State.atRtc (rtc : Nat) (s : State) : State := s.modMgmt fun m => { m with rtc := max m.rtc (rtc % 2 ^ 48) }

/-- PWR_RTC_LO returns bits 31:0 and latches bits 47:32 for the bus master (R479). -/
def State.rtcLoRead (master rtc : Nat) (s : State) : State :=
  let s := s.atRtc rtc
  let s := s.modPcie fun p => { p with readData := s.mgmt.rtc % 2 ^ 32 }
  s.modMgmt fun m => { m with rtcHi := upsert master (m.rtc / 2 ^ 32) m.rtcHi }

/-- PWR_RTC_LO_READ (R479). -/
def execPwrRtcLoRead (master rtc : Nat) (t : Nat) (s : State) : Host.Outcome State Fault Refusal :=
  ranAt (below master 2 && below rtc (2 ^ 64)) t s (State.rtcLoRead master rtc)

/-- SEC_TAMPER_LOG_LO[i] returns bits 31:0 of the event's time and latches its HI word for the bus master (R479). -/
def State.tamperLoRead (master i : Nat) (s : State) : State :=
  let e := s.mgmt.tamperLog.getD i none
  let s := s.modPcie fun p => { p with readData := (e.map fun x => x.rtc % 2 ^ 32).getD 0 }
  s.modMgmt fun m => { m with logHi := upsert (master * 16 + i) (tamperHi e) m.logHi }

/-- SEC_TAMPER_LOG_LO_READ (R479). -/
def execSecTamperLogLoRead (master i : Nat) (t : Nat) (s : State) : Host.Outcome State Fault Refusal :=
  ranAt (below master 2 && below i 16) t s (State.tamperLoRead master i)

/-! ## Writes -/

/-- A W1C field (R16): ones clear, bits that hardware sets in the same cycle stay set. -/
def w1c (old written hw : Nat) : Nat := (old &&& (old ^^^ written)) ||| hw
/-- How many bits of a mask are set. -/
def popCount (n width : Nat) : Nat := ((List.range width).filter fun i => bit n i).length
/-- Clears lost to a same-cycle set (R455): one CLEAR_LOST each. -/
def State.clearLost (written hw : Nat) (s : State) : State := s.bumpHub 13 (popCount (written &&& hw) 32)

/-- A W1C write of a field mask with the same-cycle rule: the new field value, and CLEAR_LOST counted. -/
def State.w1cWrite (old mask value hwSet : Nat) (put : Nat → State → State) (s : State) : State :=
  let wr := value &&& mask
  let hw := hwSet &&& mask
  (put (w1c old wr hw) s).clearLost wr hw

/-- HUB_RESET (Table 15.7): WARM with the key, on PF0. -/
def State.hubReset (fn value : Nat) (s : State) : State :=
  if fn = 0 ∧ value / 65536 = 0x5741 ∧ value % 2 = 1 ∧ (s.linkOf 0).up then
    let s := if s.classSIn fun st => st == 3 || st == 4 then s.detect 0x0014 0xFF 0xFF 0xFF (le 16 s.classSFn) else s
    s.warmReset 0x0014
  else s

/-- HUB_RESET_WARM (R370, R372). -/
def execHubResetWarm (fn value : Nat) (t : Nat) (s : State) : Host.Outcome State Fault Refusal :=
  ranAt (fnOk fn && below value (2 ^ 32)) t s (State.hubReset fn value)

/-- The CFW heartbeat (R412). -/
def State.beat (ssv : Nat) (s : State) : State :=
  (s.atSsv ssv).when_ s.boot.cfwUp fun s => s.modSafety fun x => { x with cfwBeat := x.ssvNow }

/-- CFW_BEAT (R412). -/
def execCfwBeat (ssv : Nat) (t : Nat) (s : State) : Host.Outcome State Fault Refusal :=
  ranAt true t s (State.beat ssv)

/-- MBX_RIDX[r] (R321, R362): the free counts of this cycle go by the index at its start. Ring 32 is PF0's: elsewhere its
register ignores writes. -/
def State.ridxWrite (fn r value : Nat) (s : State) : State :=
  if r = 32 ∧ fn ≠ 0 then s
  else match s.ring? r with
    | none => s.discard fn
    | some g =>
      if g.fn ≠ fn ∨ ((g.w : Int) - value) % 2 ^ 32 > g.entries then s.discard fn
      else
        let now := s.time.now
        s.modFn fn fun f =>
          let old := f.ridxOld.filter fun x => x.2.1 == now
          { f with
            ridx := upsert r value f.ridx,
            ridxOld := if old.any (·.1 == r) then old else old ++ [(r, now, lookupD 0 r f.ridx)] }

/-- RING_READ_INDEX_WRITE (R362). -/
def execRingReadIndexWrite (fn r value : Nat) (t : Nat) (s : State) : Host.Outcome State Fault Refusal :=
  ranAt (fnOk fn && below r 33 && below value (2 ^ 32)) t s (State.ridxWrite fn r value)

/-- Unmasks a vector and sends its pending message (R365). -/
def State.msixUnmask (fn vec : Nat) (s : State) : State :=
  (s.modFn fn fun f => { f with msix := upsert vec { lookupD {} vec f.msix with masked := false } f.msix }).msixFlush fn

/-- MSIX_UNMASK (R365). -/
def execMsixUnmask (fn vec : Nat) (t : Nat) (s : State) : Host.Outcome State Fault Refusal :=
  ranAt (fnOk fn && below vec 64) t s (State.msixUnmask fn vec)

/-- A trigger of FREEZE joins a pending one, or starts one that samples 32 NoC cycles later (R456). -/
def State.freezeTrigger (s : State) (remote : Bool := false) : State :=
  s.modObs fun o => { o with
    freezePending := some (o.freezePending.getD s.time.now),
    freezeRemote := remote && (o.freezePending.isNone || o.freezeRemote) }

/-- One word of an MSI-X table entry. -/
def MsixEntry.put (e : MsixEntry) (word value : Nat) : MsixEntry :=
  match word with
  | 0 => { e with addr := e.addr / 2 ^ 32 * 2 ^ 32 + value }
  | 4 => { e with addr := e.addr % 2 ^ 32 + value * 2 ^ 32 }
  | 8 => { e with data := value }
  | _ => { e with masked := bit value 0 }

/-- One aligned 32-bit write in BAR0. -/
def State.writeBar0 (fn off value hwSet : Nat) (s : State) : State :=
  if off = 0x0010 then
    if fn = 0 then
      let old := flag s.time.stepDeferred 5 + flag s.time.ppsReject 4 + flag s.time.srcLost 3
      s.w1cWrite old 0x38 value hwSet fun v s => s.modTime fun b =>
        { b with stepDeferred := bit v 5, ppsReject := bit v 4, srcLost := bit v 3 }
    else s
  else if off = 0x0020 then s.hubReset fn value
  else if off = 0x1000 then
    s.w1cWrite (flag (s.linkOf fn).downSeen 1) 2 value hwSet fun v s =>
      let put (l : Link) : Link := { l with downSeen := bit v 1 }
      if s.onLinkB fn then s.modPcie fun p => { p with linkB := put p.linkB }
      else s.modPcie fun p => { p with linkA := put p.linkA }
  else if 0x0200 ≤ off ∧ off ≤ 0x0280 ∧ off % 4 = 0 then
    s.ridxWrite fn ((off - 0x0200) / 4) value
  else if 0x8000 ≤ off ∧ off < 0x8400 ∧ off % 4 = 0 then
    let vec := (off - 0x8000) / 16
    let s := s.modFn fn fun f => { f with msix := upsert vec ((lookupD {} vec f.msix).put (off % 16) value) f.msix }
    s.msixFlush fn
  else s

/-- A region of Table 15.12 takes the offset; elsewhere a write has no effect (R14). -/
def bar4Assigned (off : Nat) : Bool :=
  decide (off < 0x50000 ∨ (0x100000 ≤ off ∧ off < 0x180000) ∨ 0x400000 ≤ off)

/-- One aligned 32-bit write in BAR4: only the DBG_, STK_ and CLU_ blocks take writes, per field access (Table 15.12). -/
def State.writeBar4 (off value hwSet : Nat) (s : State) : State :=
  if off = 0x30000 then
    s.w1cWrite (flag s.obs.snapPrev 1) 2 value hwSet fun v s => s.modObs fun o => { o with snapPrev := bit v 1 }
  else if off = 0x30004 then
    let s := s.w1cWrite (flag s.obs.freezeDone 7) 0x80 value hwSet fun v s => s.modObs fun o => { o with freezeDone := bit v 7 }
    let s := s.modObs fun o => { o with trigOutEn := bit value 3, fabricEn := bit value 2, trigInEn := bit value 1 }
    if bit value 0 then s.freezeTrigger else s
  else if (0x30000 ≤ off ∧ off < 0x40000) ∨ (0x100000 ≤ off ∧ off < 0x140000) then s
  else if 0x140000 ≤ off ∧ off < 0x180000 then
    let p := (off - 0x140000) / 0x1000
    let o := off % 0x1000
    if !s.enabled p then s
    else if o = 0x140 then
      s.w1cWrite (s.cl p).arithFlags 0xFF value hwSet fun v s => s.modCl p fun c => { c with arithFlags := v }
    else if o = 0x1C0 then
      let x := (s.cl p).test
      s.w1cWrite (flag x.bgtLate 25 + flag x.bgtFail 24) 0x3000000 value hwSet fun v s =>
        s.modCl p fun c => { c with test := { c.test with bgtLate := bit v 25, bgtFail := bit v 24 } }
    else if 0x300 ≤ o ∧ o < 0x344 then s.discard 0
    else s
  else if bar4Assigned off then s.discard 0
  else s

/-- PWR_CTL.OFF (R469, Table 21.12): the SAFE pins go static at once, and the rails off 200 µs later. -/
def State.pwrOff (s : State) : State :=
  let s := s.modSafety fun x => { x with safeA := false, safeB := true, pinState := if x.pinState = 1 then 0 else x.pinState }
  s.modAon fun a => { a with
    safePinsForced := true, railsOffDue := some (s.time.now + 200 * ticksPerUs), cause := a.cause ||| 128, pstate := 5,
    shutdownSince := s.time.now }

/-- PWR_CTL.WAKE in STANDBY (R470). -/
def State.pwrWake (s : State) : State :=
  s.when_ (s.aon.pstate == 1) fun s => s.modAon fun a => { a with wakeN := true, wakeSince := s.time.now }

/-- The rails come up for a cold start (R471 step 2). -/
def State.railsOn (s : State) : State :=
  s.modAon fun a => { a with pstate := 2, railsUp := true, wakeN := false, thermTripped := false, tripTime := none }

/-- PWR_CTL.RESTART (R478): leaves SHUTDOWN, at least 10 s after a thermal trip, by a cold start,
which waits for the 54 V input where that is out of range. -/
def State.pwrRestart (s : State) : State :=
  let late := match s.aon.tripTime with
    | some t => decide (s.time.now ≥ t + 10000000 * ticksPerUs)
    | none => true
  s.when_ (s.aon.pstate == 5 && late) fun s =>
    let s := s.mainOff.modAon fun a => { a with pstate := 1, thermTripped := false, tripTime := none }
    if s.aon.mainInRange then s.railsOn else s

/-- A write of PWR_CTL (Table 21.12): the key, and not OFF together with RESTART. -/
def State.pwrCtl (value : Nat) (s : State) : State :=
  if value / 65536 ≠ 0x5057 ∨ (bit value 0 && bit value 2) then s
  else
    let s := if bit value 1 then s.pwrWake else s
    let s := if bit value 0 then s.pwrOff.modMgmt fun m => { m with smbAlert := true } else s
    if bit value 2 then s.pwrRestart else s

/-- An SMBus write (Tables 21.9 to 21.18). -/
def State.writeSmbus (code value hwSet : Nat) (s : State) : State :=
  if code = 2 then s.pwrCtl value
  else if code = 3 then
    s.w1cWrite s.aon.cause 0xFBF value hwSet fun v s => s.modAon fun a => { a with cause := v }
  else if code = 6 then s.modAon fun a => { a with limit := max 150 (min 420 (value % 65536)) }
  else s

/-- The word of a register space at an aligned offset. -/
def State.readWord (s : State) (space : RegSpace) (fn off : Nat) : Nat :=
  match space with
  | .bar0 => s.readBar0 fn off
  | .bar4 => s.readBar4 off
  | .smbus => s.readSmbus 0 off
  | _ => 0

/-- What a read of registers returns: the containing registers, the lower one first (Table 15.13); a read that no function takes
is an Unsupported Request and returns nothing. -/
def State.inboundRead (s : State) (space : RegSpace) (fn off size : Nat) : Option (List Byte) :=
  if !(s.linkOf fn).up then none
  else
    let first := off / 4
    some ((List.range ((off + size - 1) / 4 + 1 - first)).flatMap fun i => le 4 (s.readWord space fn (4 * (first + i))))

/-- A 64-bit write is one write: it is counted as discarded once (R364). -/
def State.onePairDiscard (fn : Nat) (f : State → State) (s : State) : State :=
  let old := (s.fnS fn).discard
  let r := f s
  if old < (r.fnS fn).discard then r.modFn fn fun x => { x with discard := old + 1 } else r

/-- A field of the configuration space that a write programs (Table 15.1; the places of the fields are PCI Express's, log entries
20 and 140). A value that the device does not support leaves the field as it was. -/
def FnState.configWrite (f : FnState) (space : RegSpace) (value : Nat) : FnState :=
  match space with
  | .msixControl => { f with msixEnabled := bit value 15, msixFnMask := bit value 14 }
  | .deviceControl =>
    { f with mps := if bits value 5 3 ≤ 2 then bits value 5 3 else f.mps,
             mrrs := if bits value 12 3 ≤ 5 then bits value 12 3 else f.mrrs }
  | .deviceControl2 => if [0, 1, 2, 5, 6, 9, 10, 13, 14].contains (value % 16) then { f with timeout := value % 16 } else f
  | .linkControl => { f with aspmL1 := bit value 1 }
  | .aerControl => { f with ecrcGenerate := bit value 6, ecrcCheck := bit value 8 }
  | _ => f

/-- A register write: aligned 32-bit, or 64-bit as two registers, lower first; other sizes are discarded (Table 15.13).
MSI-X control: bit 15 of Message Control enables, bit 14 masks the function (PCI Express; log entry 20). -/
def State.registerWrite (space : RegSpace) (fn off size value hwSet : Nat) (s : State) : State :=
  match space with
  | .smbus => if size = 4 then s.writeSmbus off (value % 2 ^ 32) hwSet else s
  | .msixControl => (s.modFn fn fun f => f.configWrite space value).msixFlush fn
  | .deviceControl | .deviceControl2 | .linkControl | .aerControl => s.modFn fn fun f => f.configWrite space value
  | .bar0 =>
    if !(s.linkOf fn).up then s
    else if size = 4 ∧ off % 4 = 0 then s.writeBar0 fn off (value % 2 ^ 32) (hwSet % 2 ^ 32)
    else if size = 8 ∧ off % 8 = 0 then
      s.onePairDiscard fn fun s =>
        (s.writeBar0 fn off (value % 2 ^ 32) (hwSet % 2 ^ 32)).writeBar0 fn (off + 4) (value / 2 ^ 32) (hwSet / 2 ^ 32)
    else s.discard fn
  | .bar4 =>
    if !(s.linkOf 0).up then s
    else if size = 4 ∧ off % 4 = 0 then s.writeBar4 off (value % 2 ^ 32) (hwSet % 2 ^ 32)
    else if size = 8 ∧ off % 8 = 0 then
      s.onePairDiscard 0 fun s =>
        (s.writeBar4 off (value % 2 ^ 32) (hwSet % 2 ^ 32)).writeBar4 (off + 4) (value / 2 ^ 32) (hwSet / 2 ^ 32)
    else s.discard 0

/-- REGISTER_WRITE (R16). -/
def execRegisterWrite (space : RegSpace) (fn off size value hwSet : Nat) (t : Nat) (s : State) :
    Host.Outcome State Fault Refusal :=
  ranAt (registerWriteOk space fn off size value hwSet) t s (State.registerWrite space fn off size value hwSet)

/-- FREEZE_GO (R456). -/
def execFreezeGo (t : Nat) (s : State) : Host.Outcome State Fault Refusal := ranAt true t s State.freezeTrigger

/-- PWR_CTL_OFF (R469). -/
def execPwrCtlOff (value : Nat) (t : Nat) (s : State) : Host.Outcome State Fault Refusal :=
  ranAt true t s fun s => if bit value 0 then s.pwrCtl value else s

/-- PWR_CTL_WAKE (R470). -/
def execPwrCtlWake (value : Nat) (t : Nat) (s : State) : Host.Outcome State Fault Refusal :=
  ranAt true t s fun s => if bit value 1 then s.pwrCtl value else s

/-- PWR_CTL_RESTART (R478). -/
def execPwrCtlRestart (value : Nat) (t : Nat) (s : State) : Host.Outcome State Fault Refusal :=
  ranAt true t s fun s => if bit value 2 then s.pwrCtl value else s

end Sys2Proof.Machine
end

