-- ==== Sys2Proof/Machine/Admission.lean ====
section
/-!
DEFINITION. Sys2Proof/Machine/Admission.lean: what a set of streams may ask of the device (R150, R157, R223, R255, R266).
-/
namespace Sys2Proof.Machine

/-- The propose window 0.50P - T_c in µs, each boundary rounded down first (R43, R157). -/
def FrameConf.window (c : FrameConf) : Int := (c.period / 2 : Nat) - (c.tc : Int)

/-- BLK of R157: HEAD, SEED and SAMPLE of one block. -/
def Net.blk (n : Net) : Nat := n.headCycles + (n.noiseDim + 8) + (n.dof * (n.ncp + 6) + 12)
/-- Bytes of a candidate record (Table 06.5). -/
def Net.candBytes (n : Net) : Nat := 16 + 8 * ceilDiv (n.dof * (n.ncp + 6)) 2
/-- Bytes of a shortlist entry (R223). -/
def Net.entryBytes (n : Net) : Nat := 64 + 8 * ceilDiv (n.dof * (n.ncp + 6)) 2 + 16 * (n.ncp + 3)
/-- C_pass of R156. -/
def Net.pass (n : Net) : Nat := 262144 / (64 * n.aMax) * 64

/-- Settings as they will stand at the next frame open (R335). -/
def Session.next (x : Session) : Settings := x.pendingSet.getD x.settings
/-- Candidates as they will stand at the next frame open (R342). -/
def Stream.nextCandidates (x : Stream) : Nat := x.pendingCandidates.getD x.candidates

/-! ## The static schedule (R255; log entry 11) -/

/-- The operation's number in a schedule key. -/
def opCode (o : TaskOp) : Nat := o.ctorIdx

/-- The key of a task in the static schedule: its stream, operation and operands. -/
def scheduleKey (kind stream n : Nat) : List Byte := le 1 kind ++ le 2 stream ++ le 4 n

/-- A session's work counts: it is RUNNING or PAUSED, will start, or is the one a command names (log entry 22). -/
def State.counted (s : State) (named : Nat) (i : Nat) : Bool := (s.ses i).live || (s.ses i).starting || i == named

/-- What a static schedule is computed from: the frame configuration, the disabled-unit map, and the bindings and streams of the
sessions that count. -/
def State.scheduleInput (s : State) (conf : FrameConf) (named : Nat) : List Byte :=
  let slot (o : Option Nat) : List Byte := le 1 (o.getD 0xFF)
  let ses := (List.range 16).flatMap fun i =>
    let x := s.ses i
    if s.counted named i then
      le 1 i ++ slot x.world ++ slot x.rig ++ slot x.net ++ slot x.cost ++ le 1 x.next.prerankK ++ le 1 x.next.repairBlocks
    else []
  let streams := (s.streams.filter fun x => !x.removing && s.counted named x.session).flatMap fun x =>
    le 1 x.id ++ le 1 x.session ++ le 2 x.nextCandidates
  le 2 conf.period ++ le 1 conf.cutoff ++ le 1 (flag conf.exact 0) ++ le 8 s.part.dum.disabled.toNat ++ ses ++ streams

/-! ## Loads and areas -/

/-- One stream's load: its ID and network slot with the image, its ordinary blocks and repair budget, and PRERANK_K. -/
structure Load where
  stream : Nat
  slot : Nat
  net : Net
  ordinary : Nat
  repair : Nat
  prerankK : Nat

/-- Blocks of a load, ordinary and repair budget together. -/
def Load.blocks (l : Load) : Nat := l.ordinary + l.repair

/-- The streams of stack `k` that count: those of the sessions that count. -/
def State.loads (s : State) (named k : Nat) : List Load :=
  (s.streams.filter fun x => !x.removing && x.id % 4 == k).filterMap fun x =>
    let y := s.ses x.session
    if s.counted named x.session then
      y.net.map fun n => {
        stream := x.id, slot := n, net := s.images.nets.getD n {}, ordinary := x.nextCandidates / 64,
        repair := y.next.repairBlocks, prerankK := y.next.prerankK }
    else none

/-- A session's network image is streamed. -/
def State.bindsStreamed (s : State) (x : Session) : Bool := match x.net with
  | some n => !(s.images.nets.getD n {}).resident
  | none => false

/-- How work is placed on the clusters of a stack: by affinity, or by the static schedule computed from these bytes. -/
abbrev Placement := Option (List Byte)

/-- Blocks of a load that the schedule places on the `j`-th of the `n` enabled clusters of its stack. -/
def Load.placed (sched : List Byte) (n j : Nat) (l : Load) : Nat :=
  let at_ (kind i : Nat) : Bool := (Config.staticSchedule sched (scheduleKey kind l.stream i)).1 % n == j
  ((List.range l.ordinary).filter (at_ (opCode .block))).length + ((List.range l.repair).filter (at_ (opCode .repairBlock))).length

/-- The blocks that admission counts on a cluster (R150, R157): ceil(B / n), or those of the fullest one in the schedule. -/
def perCluster (pl : Placement) (n : Nat) (loads : List Load) : Nat := match pl with
  | none => ceilDiv (sumN (loads.map Load.blocks)) n
  | some b => ((List.range n).map fun j => sumN (loads.map (Load.placed b n j))).foldl max 0

/-- The queries that the counted load can place on a cluster (R223). -/
def queriesOn (pl : Placement) (n : Nat) (loads : List Load) : Nat := match pl with
  | none => min loads.length (perCluster pl n loads)
  | some b => ((List.range n).map fun j => (loads.filter fun l => decide (0 < l.placed b n j)).length).foldl max 0

/-- The passes of one streamed image over `blocks` blocks of a cluster, in cluster cycles (R155, R156): the stream runs
at 44.8 GB/s, 64 bytes a cycle; the CONTEXT runs of all the cluster's blocks lie in pass 1. -/
def passCycles (n : Net) (blocks : Nat) : Nat :=
  let per := n.pass / 64
  let passes := ceilDiv blocks (max 1 per)
  sumN ((List.range passes).map fun i =>
    let b := min per (blocks - i * per)
    let bytes := if i = 0 then n.weightBytes else n.weightBytes - n.ctxWeightBytes
    max (ceilDiv bytes 64) (b * n.blk + if i = 0 then blocks * n.ctxCycles else 0))

/-- E of R157 for a stack of `n` enabled clusters; `streamed`: a streamed image is bound to a RUNNING session. -/
def estimate (pl : Placement) (streamed : Bool) (loads : List Load) (n : Nat) : Nat :=
  let res := loads.filter (·.net.resident)
  let str := loads.filter fun l => !l.net.resident
  let per := perCluster pl n res
  let ctx := (res.map (·.net.ctxCycles)).foldl max 0
  let blk := (res.map (·.net.blk)).foldl max 0
  let factor := if streamed then per else max 1 (ceilDiv res.length n)
  let resident := if res.isEmpty then 0 else factor * ctx + per * blk
  let slots := (str.map (·.slot)).dedup
  let passes := slots.map fun i =>
    let ls := str.filter (·.slot == i)
    passCycles ((ls.head?.map (·.net)).getD {}) (perCluster pl n ls)
  2800 + resident + sumN passes

/-- Whether one stack can take its loads: E within the window, the candidate-record and shortlist areas, the frame
working area, and in Exact mode a static schedule (log entry 11). -/
def stackAdmits (conf : FrameConf) (pl : Placement) (streamed : Bool) (loads : List Load) (n : Nat) : Bool :=
  if loads.isEmpty then true
  else
    let per := perCluster pl n loads
    let queries := queriesOn pl n loads
    let rec_ := (loads.map (·.net.candBytes)).foldl max 0
    let ent := (loads.map (·.net.entryBytes)).foldl max 0
    let k := (loads.map (·.prerankK)).foldl max 0
    decide ((estimate pl streamed loads n : Int) ≤ 700 * conf.window) && decide (per * 64 * rec_ ≤ candAreaBytes)
      && decide (queries * 4 * ent ≤ shortlistBytes) && decide (Config.workingArea queries per k ≤ workAreaBytes)
      && (!conf.exact || Config.scheduleFits (sumN (loads.map Load.blocks)) loads.length)

/-- The placement of the sessions that count under a configuration. -/
def State.placement (s : State) (conf : FrameConf) (named : Nat) : Placement :=
  if conf.exact then some (s.scheduleInput conf named) else none

/-- The admission rule for one stack with loads beside its own, for a state as a command would leave it. -/
def State.stackAdmitsWith (s : State) (conf : FrameConf) (named k : Nat) (more : List Load) : Bool :=
  let streamed := (List.range 16).any fun i => s.counted named i && s.bindsStreamed (s.ses i)
  stackAdmits conf (s.placement conf named) streamed (s.loads named k ++ more) (s.enabledIn k).length

/-- The admission rule over all four stacks. -/
def State.admits (s : State) (conf : FrameConf) (named : Nat) : Bool :=
  (List.range 4).all fun k => s.stackAdmitsWith conf named k []

/-- The frame configuration that the next frame open puts in force. -/
def State.nextConf (s : State) : FrameConf := s.frame.pendingConf.getD s.frame.conf

end Sys2Proof.Machine
end

