-- ==== Sys2Proof/Machine/Key.lean ====
section
/-!
DEFINITION. Sys2Proof/Machine/Key.lean: settings that take effect at a frame open (R325, R335, R342, R458, R483), and the
reproducibility key (R294, R295).
-/
namespace Sys2Proof.Machine

/-- The disabled-unit map as its 32-byte record (Table 01.5). -/
def dumBytes (d : Dum) : List Byte :=
  let reasons := (List.range 64).foldl (fun a i => a + d.reason.getD i 0 % 4 * 4 ^ i) 0
  let n := ((List.range 64).filter fun i => !d.disabled.getLsbD i).length
  let b := le 8 d.disabled.toNat ++ le 16 reasons ++ le 2 n ++ le 2 d.mapVersion
  b ++ le 4 (crc32c b)

/-- The number of enabled clusters. -/
def State.enabledCount (s : State) : Nat := s.enabledList.length

/-- TRACE_HASH: the trace block, then the armed breakpoint records in INDEX order (R458). -/
def State.traceHash (s : State) : List Byte :=
  hash8 (s.obs.traceConf ++ (s.obs.breaks.filterMap fun b => b).flatMap fun b => if b.armed then b.bytes else [])

/-- MODE of the key: EXACT, OP_DIGEST, RECORD. -/
def State.modeBits (s : State) : Nat := flag s.frame.conf.exact 0 + flag s.det.opDigest 1 + flag s.det.record 2

/-- The hash of a slot's image: zero while it is empty or loading (R294, R444). -/
def SlotState.shown (x : SlotState) : List Byte := if x.state = 0 ∨ x.state = 1 then zeros 64 else x.hash
/-- The 8-byte hashes of a list of image slots. -/
def slotHashes (l : List SlotState) : List Byte := l.flatMap fun x => x.shown.take 8

/-- The reproducibility key of the present make-up (Table 12.6). -/
def State.keyRecord (s : State) : List Byte :=
  let b := le 2 1 ++ le 1 0xB1 ++ le 1 s.modeBits ++ le 2 s.enabledCount ++ le 2 s.frame.conf.period ++
    le 1 s.frame.conf.cutoff ++ zeros 7 ++ hash8 (dumBytes s.part.dum) ++ le 4 s.boot.cfwVersion ++
    le 4 s.boot.sfwVersion ++ le 4 s.boot.ucodeVersion ++ zeros 4 ++ s.traceHash ++ slotHashes s.images.rigSlots ++
    slotHashes s.images.netSlots ++ slotHashes s.images.costSlots ++ slotHashes s.images.worldSlots ++ zeros 8
  b ++ hash8 b

/-! ## Effects placed at a frame open -/

/-- Every image that a session names is usable (R125, R135, R216). -/
def State.imagesUsable (s : State) (x : Session) : Bool :=
  let m := s.images
  let ok (l : List SlotState) (i : Option Nat) : Bool := (i.map fun i => (l.getD i {}).usable).getD false
  ok m.worldSlots x.world && ok m.rigSlots x.rig && ok m.netSlots x.net && ok m.costSlots x.cost

/-- Session settings, and sessions that start, or close for good, at a frame open (R98, R335). A crust, base-window or
speed-scale change makes every carried plan of the session wholly dirty. A session starts at the first open at which its
images are usable (R125; log entry 117). -/
def State.settleSession (i : Nat) (s : State) : State :=
  let x := s.ses i
  let s := match x.pendingSet with
    | some p =>
      let dirty := p.crust != x.settings.crust || p.baseWindow != x.settings.baseWindow
        || p.speedScale != x.settings.speedScale
      s.modSes i fun x => { x with settings := p, pendingSet := none, wholeDirty := x.wholeDirty || dirty }
    | none => s
  let s := if x.closing then s.modSes i fun x => { x with closing := false } else s
  if x.starting ∧ x.state = 2 ∧ s.imagesUsable x then s.sesTo i 3 0x0204 else s

/-- Image slots: an unload frees its slot, and an image whose copies are complete becomes usable (R125, R135, R216). -/
def settleSlot (x : SlotState) : SlotState :=
  if x.state = 3 then {} else if x.state = 2 ∧ x.copied then { x with usable := true } else x
def State.settleImages (s : State) : State :=
  s.modImages fun m => { m with
    worldSlots := m.worldSlots.map settleSlot, rigSlots := m.rigSlots.map settleSlot,
    netSlots := m.netSlots.map settleSlot, costSlots := m.costSlots.map settleSlot }

/-- The stream set: additions, resizes and removals (R342). -/
def State.settleStreams (s : State) : State :=
  s.modStreams fun l => (l.filter fun x => !x.removing).map fun x =>
    { x with active := true, candidates := x.nextCandidates, pendingCandidates := none }

/-- Counter programme, trace block and breakpoints (R350, R452, R458, R461). -/
def State.settleObs (s : State) : State :=
  let put (l : List (Option Breakpoint)) (e : Nat × List Byte) := l.set e.1 (some { bytes := e.2, armed := true })
  let s := match s.obs.programmeNext with
    | some p =>
      let s := s.modObs fun o => { o with programme := p, programmeNext := none }
      let s := s.modClusters fun l => l.map fun (c : Cluster) => { c with selCounters := [] }
      let s := s.modStks fun l => l.map fun (c : Stack) => { c with selCounters := [] }
      s.modHub fun h => { h with selCounters := [] }
    | none => s
  let s := match s.obs.traceConfNext with
    | some c => s.modObs fun o => { o with traceConf := c, traceConfNext := none, buffers := (List.range 5).map fun b =>
        { state := if getU c (32 + 32 * b) 1 = 0 then 0 else 1 } }
    | none => s
  s.modObs fun o => { o with breaks := o.breaksNext.foldl put o.breaks, breaksNext := [] }

/-- OP_DIGEST_SET (R348). -/
def State.settleDigest (s : State) : State :=
  s.modDet fun d => match d.opDigestNext with
    | some b => { d with opDigest := b, opDigestNext := none }
    | none => d

/-- RECORD_START: capture begins at the next frame open (R349). -/
def State.settleRecord (s : State) : State :=
  s.modDet fun d => if d.recordNext then { d with
      recordNext := false, record := true, ring := [], written := 0, consumed := 0, recordEnded := false,
      overflowed := false, captureOrder := 0 } else d

/-- Everything placed at the next frame open that no frame is needed for (R483). -/
def State.settleNow (s : State) : State :=
  let s := (List.range 16).foldl (init := s.settleImages) fun s i => s.settleSession i
  let s := s.settleStreams.settleObs.settleDigest
  let s := s.modFrame fun f => { f with conf := f.pendingConf.getD f.conf, pendingConf := none }
  s.modWorlds fun w => { w with freeing := [], allocated := w.allocated.filter fun h => !w.freeing.contains h }

/-- Everything that a frame open puts in force, but for the frame configuration's grid. -/
def State.settle (s : State) : State := s.settleNow.settleRecord

/-- In IDLE an effect placed at the next frame open happens at once (R483). -/
def State.settleIdle (s : State) (f : State → State) : State := if s.frame.devState = 0 then f s else s

/-- The key that the next frame open would form. -/
def State.nextKey (s : State) : List Byte := s.settle.keyRecord

end Sys2Proof.Machine
end

