-- ==== Sys2Proof/Machine/PcieEvents.lean ====
section
/-!
DEFINITION. Sys2Proof/Machine/PcieEvents.lean: PERST_N, link and function resets, AER, and the discipline of device time
(R355-R373, R472).
-/
namespace Sys2Proof.Machine

/-- Rewrites link A or link B. -/
def State.modLink (linkB : Bool) (f : Link → Link) (s : State) : State :=
  if linkB then s.modPcie fun p => { p with linkB := f p.linkB } else s.modPcie fun p => { p with linkA := f p.linkA }

/-- Functions carried by a link (R356). -/
def State.fnsOn (s : State) (linkB : Bool) : List Nat := (List.range 17).filter fun f => s.onLinkB f == linkB

/-- A class-S session of one of some functions is RUNNING or PAUSED. -/
def State.classSOf (s : State) (fns : List Nat) : Bool :=
  s.sessions.any fun x => x.classS && x.live && fns.contains x.fn

/-- A link leaves DL_Up. -/
def Link.lowered (l : Link) : Link := { l with up := false, downSeen := true, width := 0, speed := 0, flit := false }

/-- Link x16 or A is reset: the link in DL_Down, LINK_RESET for class S before any other effect, every session closed, warm reset
(R370). -/
def State.linkAReset (s : State) : State :=
  let s := s.modLink false Link.lowered
  let s := if s.classSOf (List.range 17) then s.detect 0x0011 0xFF 0xFF 0xFF (le 16 s.classSFn) else s
  (s.warmReset 0x0011).modLink false Link.lowered

/-- PERST_N asserts (R472): after boot a warm reset; during bring-up only the pin. -/
def State.perstAssert (s : State) : State :=
  if s.aon.railsUp && !s.mgmt.perstAsserted then
    s.linkAReset.modMgmt fun m => { m with perstAsserted := true }
  else s.modMgmt fun m => { m with perstAsserted := true }

/-- PERST_N_ASSERT (R370). -/
def execPerstNAssert (t : Nat) (s : State) : Host.Outcome State Fault Refusal := ranAt true t s State.perstAssert

/-- PERST_N de-asserts: the first time after 3V3_AUX came up or went it latches bifurcation and the reference clock (R356, R472);
EXTEST in FIELD is forced to Test-Logic-Reset (R480). -/
def State.perstDeassert (gpio3 refclk : Bool) (s : State) : State :=
  s.modMgmt fun m =>
    let m := { m with perstAsserted := false }
    let m := if m.linkLatched then m else { m with bifurcated := some gpio3, commonClock := refclk, linkLatched := true }
    if s.lifecycle = 2 ∧ m.jtagInstr = 0 ∧ !m.jtagReset then { m with jtagReset := true, jtagEffective := 0xFF } else m

/-- PERST_N_DEASSERT (R472). -/
def execPerstNDeassert (gpio3 refclkToggles : Bool) (t : Nat) (s : State) : Host.Outcome State Fault Refusal :=
  ranAt true t s (State.perstDeassert gpio3 refclkToggles)

/-- An FLR of a function with those it takes along: FN_RESET of each function with a live class-S session, before any other
effect (R370, R373, Table 15.15). -/
def State.flrAll (fns : List Nat) (cause : Nat) (s : State) : State :=
  let s := s.detectAll ((fns.filter fun f => s.classSOf [f]).map fun f => { code := 0x0013, arg := le 16 f })
  fns.foldl (init := s) fun s f => s.flr f cause

/-- Hot reset or link disable (Table 15.15). -/
def State.linkReset (linkB : Bool) (s : State) : State :=
  if linkB then
    if s.mgmt.bifurcated = some true then
      (s.flrAll (flrScope 1) 0x0013).modLink true Link.lowered
    else s
  else s.linkAReset

/-- PCIE_LINK_RESET (R370). -/
def execPcieLinkReset (linkB : Bool) (t : Nat) (s : State) : Host.Outcome State Fault Refusal :=
  ranAt true t s (State.linkReset linkB)

/-- The time source is lost: SRC_LOST and a WARNING (R367). -/
def State.sourceLost (s : State) : State := (s.modTime fun b => { b with srcLost := true, slew := 0 }).warnFree 0xFF []

/-- A link enters DL_Down without reset (R370). -/
def State.dlDown (linkB : Bool) (s : State) : State :=
  let fns := s.fnsOn linkB
  if (if linkB then s.pcie.linkB else s.pcie.linkA).up then
    let s := s.modLink linkB Link.lowered
    let s := if s.classSOf fns then s.detect 0x0012 0xFF 0xFF 0xFF (le 16 (flag linkB 0)) else s
    if !linkB ∧ s.time.source = 1 then s.sourceLost else s
  else s

/-- DL_DOWN (R370). -/
def execDlDown (linkB : Bool) (t : Nat) (s : State) : Host.Outcome State Fault Refusal :=
  ranAt true t s (State.dlDown linkB)

/-- A link comes up in a form of Table 15.1: status fields, device writes and interrupts resume (R355, R414, Table 15.11). -/
def State.dlUp (linkB : Bool) (width speed : Nat) (flit : Bool) (s : State) : State :=
  let most := if s.mgmt.bifurcated = some true then 8 else 16
  if s.aon.railsUp ∧ s.boot.mode ≠ 3 ∧ (linkB = false ∨ s.mgmt.bifurcated = some true) ∧ (linkB ∨ !s.mgmt.perstAsserted)
    ∧ [4, 8, 16].contains width ∧ width ≤ most ∧ 1 ≤ speed ∧ speed ≤ 6 ∧ (speed = 6 → flit)
  then
    let s := s.modLink linkB fun l => { l with up := true, width := width, speed := speed, flit := flit }
    (s.fnsOn linkB).foldl (init := s) fun s f => s.msixFlush f
  else s

/-- DL_UP (R414). -/
def execDlUp (linkB : Bool) (width speed : Nat) (flit : Bool) (t : Nat) (s : State) : Host.Outcome State Fault Refusal :=
  ranAt true t s (State.dlUp linkB width speed flit)

/-- FLR (R373). -/
def execFlr (fn : Nat) (t : Nat) (s : State) : Host.Outcome State Fault Refusal :=
  ranAt (fnOk fn) t s fun s => s.flrAll (flrScope fn) 0x0013

/-- FLR_COMPLETE (R373 step 6). -/
def execFlrComplete (fn : Nat) (t : Nat) (s : State) : Host.Outcome State Fault Refusal :=
  ranAt (fnOk fn) t s (State.flrComplete fn)

/-- The VFs in being, as function numbers (R359). -/
def Pcie.vfs (p : Pcie) : List Nat := if p.vfEnable then (List.range p.numVfs).map (· + 2) else []

/-- VF Enable or NumVFs changes: each VF that goes is reset as by an FLR (R359). -/
def State.vfRemove (vfEnable : Bool) (numVfs : Nat) (s : State) : State :=
  let next : Pcie := { s.pcie with vfEnable := vfEnable, numVfs := numVfs }
  (s.flrAll (s.pcie.vfs.filter fun f => !next.vfs.contains f) 0x0013).modPcie fun p =>
    { p with vfEnable := vfEnable, numVfs := numVfs }

/-- VF_REMOVE (R359). -/
def execVfRemove (vfEnable : Bool) (numVfs : Nat) (t : Nat) (s : State) : Host.Outcome State Fault Refusal :=
  ranAt (below numVfs 16) t s (State.vfRemove vfEnable numVfs)

/-- Bus Master Enable changes (R371). -/
def State.busMaster (fn : Nat) (on : Bool) (s : State) : State :=
  let s := s.modFn fn fun f => { f with busMaster := on }
  if on then s.msixFlush fn else s

/-- BUS_MASTER_ENABLE (R371). -/
def execBusMasterEnable (fn : Nat) (on : Bool) (t : Nat) (s : State) : Host.Outcome State Fault Refusal :=
  ranAt (fnOk fn) t s (State.busMaster fn on)

/-- A correctable link error (R357): AER, PCIE_REPLAY, a timing-only event of code 4. -/
def State.pcieReplay (linkB : Bool) (delay : Nat) (s : State) : State :=
  let s := (s.modPcie fun p => { p with aerCorrectable := p.aerCorrectable + 1 }).bumpHub 5
  (s.timingEvent 4 0xFF 0xFF delay).msixRaise (if linkB then 1 else 0) 34

/-- PCIE_REPLAY (R357). -/
def execPcieReplay (linkB : Bool) (delay : Nat) (t : Nat) (s : State) : Host.Outcome State Fault Refusal :=
  ranAt true t s (State.pcieReplay linkB delay)

/-- A poisoned inbound write (R357): discarded, counted, an AER non-fatal error. -/
def State.poisonedWrite (fn : Nat) (s : State) : State :=
  ((s.discard fn).modPcie fun p => { p with aerNonFatal := p.aerNonFatal + 1 }).msixRaise fn 34

/-- POISONED_INBOUND_WRITE (R357). -/
def execPoisonedInboundWrite (fn : Nat) (t : Nat) (s : State) : Host.Outcome State Fault Refusal :=
  ranAt (fnOk fn) t s (State.poisonedWrite fn)

/-! ## Device time (R367, R368) -/

/-- Payload of a TIME_CORR entry (R298). -/
def timeCorrBody (corr : Int) (src : Nat) : List Byte := leS 8 corr ++ le 1 src ++ zeros 7

/-- The correction that a measured offset gets: in full in IDLE, else at most 20 ticks either way (R367). -/
def State.correction (s : State) (offset : Int) : Int :=
  if s.frame.devState = 0 then offset else max (-20) (min 20 offset)

/-- Applies a measured offset: in full in IDLE, else at most 20 ticks either way, spread over the next 1,024 µs
(`slew`); the correction is reported to the SSV and captured (R298, R367, R413). -/
def State.applyOffset (offset : Int) (src : Nat) (s : State) : State :=
  let idle := s.frame.devState == 0
  let c := s.correction offset
  let s := s.modTime fun b => { b with
    offset := sat 32 offset, locked := decide (offset.natAbs ≤ 20), srcLost := b.srcLost,
    stepDeferred := b.stepDeferred || (!idle && decide (offset.natAbs > 20)),
    slew := if idle then 0 else c,
    now := if idle then ((b.now : Int) + c).toNat else b.now,
    corrections := b.corrections ++ [(b.now, c)] }
  s.capture 4 0 0xFF 0 s.time.now (timeCorrBody c src)

/-- One PTM dialog (R367); `none` is a failed dialog. -/
def State.ptmDialog (masterNs : Option Nat) (s : State) : State :=
  if s.time.source ≠ 1 then s
  else match if s.pcie.linkA.up then masterNs else none with
    | none => s.sourceLost
    | some ns => s.applyOffset ((ns / 5 : Nat) - (s.time.now : Int)) 0

/-- PTM_DIALOG (R367). -/
def execPtmDialog (masterNs : Option Nat) (t : Nat) (s : State) : Host.Outcome State Fault Refusal :=
  ranAt true t s (State.ptmDialog masterNs)

/-- The PPS period in ticks. -/
abbrev ppsTicks : Nat := 200000000

/-- One PPS_IN rising edge (R368; log entry 21). After four rejections the edge fixes the phase again: its offset is the distance
to the nearest second, for the absolute value of device time stays. -/
def State.ppsEdge (s : State) : State :=
  if s.time.source ≠ 2 then s
  else match s.time.ppsExpected with
    | none => s.modTime fun b => { b with ppsExpected := some (b.now + ppsTicks), ppsRejects := 0 }
    | some e =>
      let off := (e : Int) - s.time.now
      if s.time.ppsRejects ≥ 4 then
        let near := (off + ppsTicks / 2) % ppsTicks - ppsTicks / 2
        let c := s.correction near
        (s.applyOffset near 1).modTime fun b =>
          { b with ppsExpected := some (((s.time.now : Int) + c).toNat + ppsTicks), ppsRejects := 0 }
      else if off.natAbs > 2000 then
        s.modTime fun b => { b with ppsReject := true, ppsRejects := b.ppsRejects + 1, ppsExpected := some (e + ppsTicks) }
      else (s.applyOffset off 1).modTime fun b => { b with ppsRejects := 0, ppsExpected := some (e + ppsTicks) }

/-- PPS_EDGE (R368). -/
def execPpsEdge (t : Nat) (s : State) : Host.Outcome State Fault Refusal := ranAt true t s State.ppsEdge

/-- A captured TIME_CORR entry of the frame, due at its OFFSET, is applied in replay (R300). -/
def State.timeCorrApply (corr : Int) (src : Nat) (s : State) : State :=
  let due (e : Capture) : Bool := e.kind == 4 && e.frame == s.frame.counter && e.payload == timeCorrBody corr src
    && decide (s.frame.openTime + e.offset ≤ s.time.now)
  if s.frame.devState = 3 ∧ s.det.replay.any due then
    let s := s.modDet fun d => { d with replay := d.replay.eraseP due }
    s.modTime fun b => { b with
      now := ((b.now : Int) + corr).toNat, corrections := b.corrections ++ [(b.now, corr)] }
  else s

/-- TIME_CORR_APPLY (R300). -/
def execTimeCorrApply (correction : Int) (source : Nat) (t : Nat) (s : State) : Host.Outcome State Fault Refusal :=
  ranAt true t s (State.timeCorrApply correction source)

end Sys2Proof.Machine
end

