-- ==== Sys2Proof/Machine/DeviceCmds.lean ====
section
/-!
DEFINITION. Sys2Proof/Machine/DeviceCmds.lean: the device group 0x01 (Tables 14.2 to 14.4).
-/
namespace Sys2Proof.Machine

/-- The identity record (Table 14.3). -/
def State.identity (s : State) : List Byte :=
  le 1 s.part.orderCode ++ le 1 0xB1 ++ le 1 s.lifecycle ++ le 1 s.boot.mode ++ le 4 s.boot.cfwVersion ++
    le 4 s.boot.sfwVersion ++ le 4 s.boot.ucodeVersion ++ dumBytes s.part.dum ++ fit 16 s.part.serial ++
    fit 8 s.part.certHash ++ le 1 s.fabric.nodeId ++ le 1 s.boot.activeBank ++ zeros 54

/-- DEV_IDENTIFY. -/
def bodyDevIdentify (c : Cmd) (s : State) : State := s.shape c 0 [] fun s => s.accept c s.identity

/-- DEV_IDENTIFY (R333). -/
def execDevIdentify (fn slot : Nat) (t : Nat) (s : State) : Host.Outcome State Fault Refusal :=
  ranAt (slotOk fn slot) t s (runCmd 0x0101 fn slot bodyDevIdentify)

/-- The DEV_STATUS response (Table 14.4). -/
def State.devStatus (s : State) : List Byte :=
  le 1 s.frame.devState ++ le 1 s.boot.mode ++ le 1 s.modeBits ++ le 1 s.frame.conf.cutoff ++ le 2 s.frame.conf.period ++
    zeros 2 ++ le 4 s.frameNo ++ zeros 4 ++ le 8 s.frame.frt ++ le 8 s.time.now ++
    ((List.range 16).flatMap fun i => le 1 (s.ses i).state) ++ zeros 16

/-- DEV_STATUS. -/
def bodyDevStatus (c : Cmd) (s : State) : State := s.shape c 0 [] fun s => s.accept c s.devStatus

/-- DEV_STATUS (Table 14.4). -/
def execDevStatus (fn slot : Nat) (t : Nat) (s : State) : Host.Outcome State Fault Refusal :=
  ranAt (slotOk fn slot) t s (runCmd 0x0102 fn slot bodyDevStatus)

/-- DEV_KEY: the key of the current frame; in IDLE the key that the next frame open would form. -/
def bodyDevKey (c : Cmd) (s : State) : State :=
  s.shape c 0 [] fun s => s.accept c (if s.frame.devState = 0 then s.nextKey else s.det.key)

/-- DEV_KEY (Table 14.2). -/
def execDevKey (fn slot : Nat) (t : Nat) (s : State) : Host.Outcome State Fault Refusal :=
  ranAt (slotOk fn slot) t s (runCmd 0x0103 fn slot bodyDevKey)

/-- A time source is selected; with PTM a link in DL_Down is a lost source (R367). -/
def State.selectSource (v : Nat) (s : State) : State :=
  let s := s.modTime fun b => { b with source := v, ppsExpected := none, ppsRejects := 0, slew := 0 }
  if v = 1 ∧ !s.pcie.linkA.up then s.sourceLost else s

/-- DEV_TIME_SOURCE. -/
def bodyDevTimeSource (c : Cmd) (s : State) : State :=
  s.shape c 8 [(1, 7)] fun s =>
    s.need c (s.frame.devState == 0 || s.frame.devState == 2) 0x0201 fun s =>
      s.need c (decide (getU c.payload 0 1 ≤ 2)) 0x0106 fun s =>
        (s.selectSource (getU c.payload 0 1)).accept c

/-- DEV_TIME_SOURCE (R367). -/
def execDevTimeSource (fn slot : Nat) (t : Nat) (s : State) : Host.Outcome State Fault Refusal :=
  ranAt (slotOk fn slot) t s (runCmd 0x0104 fn slot bodyDevTimeSource)

end Sys2Proof.Machine
end

