-- ==== Sys2Proof/Machine/SessionCmds.lean ====
section
/-!
DEFINITION. Sys2Proof/Machine/SessionCmds.lean: the session group 0x02 (R324-R326, R334, R335, R396, R397, R415).
-/
namespace Sys2Proof.Machine

/-- The lowest free session ID; an ID that closed in this frame is not free yet (Table 14.5). -/
def State.freeSession (s : State) : Option Nat :=
  (List.range 16).find? fun i => (s.ses i).state == 0 && !(s.ses i).closing

/-- SES_OPEN (R324). -/
def bodySesOpen (c : Cmd) (s : State) : State :=
  s.shape c 8 [(1, 7)] fun s =>
    let cls := getU c.payload 0 1
    s.need c (decide (cls ≤ 1)) 0x0106 fun s =>
      match s.freeSession with
      | none => s.refuse c 0x0306
      | some i =>
        s.need c (cls == 0 || !([0, 3, 4].contains s.lifecycle)) 0x0503 fun s =>
          s.need c (cls == 0 || s.boot.mode != 2) 0x0209 fun s =>
            let s := s.modSes i fun _ => { state := 1, classS := cls == 1, fn := c.fn, lastCause := 0x0201 }
            s.respond c { status := 0, session := some i }

/-- SES_OPEN (R324). -/
def execSesOpen (fn slot : Nat) (t : Nat) (s : State) : Host.Outcome State Fault Refusal :=
  ranAt (slotOk fn slot) t s (runCmd 0x0201 fn slot bodySesOpen)

/-! ## SES_BIND -/

/-- A slot that holds a loaded image. -/
def loadedIn (slots : List SlotState) (i : Nat) : Bool := (slots.getD i {}).state == 2

/-- The binding a payload byte names: unchanged, or a slot; an error when the slot bound then is not loaded. -/
def bindTo (slots : List SlotState) (v : Nat) (old : Option Nat) : Option (Option Nat) :=
  let b := if v = 0xFF then old else some v
  if b.all (loadedIn slots) then some b else none

/-- The first payload byte that leaves a binding to a slot that is not loaded. -/
def State.badBinding (s : State) (x : Session) (p : List Byte) : Option Nat :=
  let m := s.images
  if bindTo m.worldSlots (getU p 0 1) x.world = none then some 0
  else if bindTo m.rigSlots (getU p 1 1) x.rig = none then some 1
  else if bindTo m.netSlots (getU p 2 1) x.net = none then some 2
  else if bindTo m.costSlots (getU p 3 1) x.cost = none then some 3
  else none

/-- The session after the bindings; another rig returns BASE_WINDOW and SPEED_SCALE to their defaults (R335). -/
def Session.bind (m : Images) (p : List Byte) (x : Session) : Session :=
  let rig := (bindTo m.rigSlots (getU p 1 1) x.rig).getD x.rig
  let y := { x with
    world := (bindTo m.worldSlots (getU p 0 1) x.world).getD x.world, rig := rig,
    net := (bindTo m.netSlots (getU p 2 1) x.net).getD x.net,
    cost := (bindTo m.costSlots (getU p 3 1) x.cost).getD x.cost }
  let plain (t : Settings) : Settings := { t with baseWindow := none, speedScale := 256 }
  if rig = x.rig then y else { y with settings := plain y.settings, pendingSet := y.pendingSet.map plain }

/-- The network's DOF equals the rig's (R136). -/
def State.dofAgrees (s : State) (x : Session) : Bool :=
  match x.rig, x.net with
  | some r, some n => (s.images.rigs.getD r {}).dof == (s.images.nets.getD n {}).dof
  | _, _ => true

/-- SES_BIND (Table 14.5). -/
def bodySesBind (c : Cmd) (s : State) : State :=
  let i := c.session
  s.shape c 8 [(4, 4)] fun s =>
    s.need c ((s.ses i).state == 1 || (s.ses i).state == 2) 0x0201 fun s =>
      match s.badBinding (s.ses i) c.payload with
      | some off => s.refuse c 0x0106 off
      | none =>
        let x := (s.ses i).bind s.images c.payload
        let netNamed := getU c.payload 2 1 != 0xFF
        s.need c (s.dofAgrees x) 0x0106 (arg := if netNamed then 2 else 1) fun s =>
          let s' := s.modSes i fun _ => x
          s.need c (!netNamed || s'.admits s'.nextConf i) 0x0308 fun _ =>
            let all := x.world.isSome && x.rig.isSome && x.net.isSome && x.cost.isSome
            (if x.state = 1 ∧ all then s'.sesTo i 2 0x0202 else s').accept c

/-- SES_BIND (R136, R334). -/
def execSesBind (fn slot : Nat) (t : Nat) (s : State) : Host.Outcome State Fault Refusal :=
  ranAt (slotOk fn slot) t s (runCmd 0x0202 fn slot bodySesBind)

/-! ## SES_SET -/

/-- A settings entry's body length by ID (Table 14.6). -/
def settingLen (id : Nat) : Option Nat :=
  match id with
  | 1 => some 128
  | 2 => some 8
  | 3 => some 8
  | 4 => some 40
  | 5 => some 8
  | 6 => some 4
  | 7 => some 4
  | _ => none

/-- Cuts a payload into its entries (ID, body); an unknown ID keeps its body. `none`: a length is wrong. -/
def settingEntries : Nat → List Byte → Option (List (Nat × List Byte))
  | 0, _ => none
  | fuel + 1, p =>
    if p.isEmpty then some []
    else
      let id := getU p 0 2
      let len := getU p 2 2
      if p.length < 4 ∨ len % 4 ≠ 0 ∨ p.length < 4 + len ∨ (settingLen id).getD len ≠ len then none
      else (settingEntries fuel (p.drop (4 + len))).map fun r => (id, slice p 4 len) :: r

/-- In the range [lo, hi]. -/
def inR (v lo hi : Nat) : Bool := decide (lo ≤ v ∧ v ≤ hi)

/-- The status an entry is refused with: a value out of range, a reserved field set, or a profile breach (Tables 08.1,
09.1, 14.6; R397). -/
def State.settingBad (s : State) (x : Session) (e : Nat × List Byte) : Option Nat :=
  let b := e.2
  let u := fun off n => getU b off n
  let rig := x.rig.map fun r => s.images.rigs.getD r {}
  let bad (ok : Bool) : Option Nat := if ok then none else some 0x0106
  match e.1 with
  | 1 =>
    let range := (List.range 64).all fun i => decide (u (2 * i) 2 ≤ 16000) || u (2 * i) 2 == 0xFFFF
    let floor := match s.safety.profile with
      | some p => !x.classS || (List.range 16).all fun g =>
          u (32 + 2 * g) 2 == 0xFFFF || decide (p.liveFloor.getD g 0 ≤ u (32 + 2 * g) 2)
      | none => true
    bad (range && floor)
  | 2 => none
  | 3 => bad (inR (u 0 1) 4 64 && inR (u 1 1) 8 30 && inR (u 2 2) 1 65535 && inR (u 4 4) 64 1048575)
  | 4 =>
    if (u 35 1) ≠ 0 then some 0x0105
    else bad (inR (u 32 1) 1 16 && inR (u 33 1) 1 8 && inR (u 34 1) 0 4 && inR (u 36 4) 0 400000)
  | 5 =>
    let lo := getS b 0 4
    let hi := getS b 4 4
    match rig with
    | none => some 0x0106
    | some r =>
      let j := r.joints.headD ⟨0, 0, 0, 0, 0, 0, 0, 0⟩
      bad (decide (j.posMin ≤ lo ∧ hi ≤ j.posMax ∧ lo < hi))
  | 6 => if u 2 2 ≠ 0 then some 0x0105 else bad (rig.isSome && inR (u 0 2) 1 256)
  | 7 => if !allZero (slice b 1 3) then some 0x0105 else bad (inR (u 0 1) 0 1)
  | _ => some 0x0106

/-- An entry's effect on the settings. -/
def Settings.put (x : Settings) (e : Nat × List Byte) : Settings :=
  let b := e.2
  match e.1 with
  | 1 =>
    let entry (i : Nat) : Option Nat :=
      if getU b (2 * i) 2 = 0xFFFF then x.crust.getD i none else some (getU b (2 * i) 2)
    { x with crust := (List.range 64).map entry }
  | 2 => { x with seed := getU b 0 8 }
  | 3 => { x with smoothIters := getU b 0 1, pivotExp := getU b 1 1, attrGain := getU b 2 2, clrRef := getU b 4 4 }
  | 4 => { x with costParam := getSs b 0 4 8, prerankK := getU b 32 1, repairW := getU b 33 1,
                  repairBlocks := getU b 34 1, repairLock := getU b 36 4 }
  | 5 => { x with baseWindow := some (getS b 0 4, getS b 4 4) }
  | 6 => { x with speedScale := getU b 0 2 }
  | 7 => { x with moverDefer := getU b 0 1 == 1 }
  | _ => x

/-- SES_SET (R335). -/
def bodySesSet (c : Cmd) (s : State) : State :=
  let i := c.session
  let x := s.ses i
  s.need c (inR x.state 1 4) 0x0201 fun s =>
    match settingEntries (c.payload.length + 1) c.payload with
    | none => s.refuse c 0x0104
    | some es =>
      match (List.range es.length).findSome? fun k => (s.settingBad x (es.getD k (0, []))).map fun st => (st, k) with
      | some (st, k) => s.refuse c st k
      | none =>
        let n := es.foldl Settings.put x.next
        let s' := s.modSes i fun y => { y with pendingSet := some n }
        let loads := n.prerankK != x.next.prerankK || n.repairBlocks != x.next.repairBlocks
        s.need c (!loads || s'.admits s'.nextConf i) 0x0308 fun _ =>
          (s'.settleIdle (State.settleSession i)).accept c

/-- SES_SET (R335). -/
def execSesSet (fn slot : Nat) (t : Nat) (s : State) : Host.Outcome State Fault Refusal :=
  ranAt (slotOk fn slot) t s (runCmd 0x0203 fn slot bodySesSet)

/-! ## SES_START, SES_STOP, SES_RECOVER, SES_CLOSE, SES_STATUS -/

/-- A class-S session conforms to the bound profile (R397). -/
def State.conforms (s : State) (i : Nat) (p : Profile) : Bool :=
  let x := s.ses i
  let h := ((s.images.rigSlots.getD (x.rig.getD 8) {}).hash).take 8
  p.rigHashes.contains h
    && ((List.range 16).all fun g => decide (p.liveFloor.getD g 0 ≤ (x.next.crust.getD (16 + g) none).getD 0))
    && ((s.streams.filter (·.session == i)).all fun y => decide (y.ageLimit ≤ p.ageMax))
    && decide (s.nextConf.period ≤ p.pMax)

/-- A session may run as to its settings (R96, R215). -/
def Session.unset (x : Session) : Nat := flag (x.next.crust.any (·.isNone)) 0 + flag x.cost.isNone 1

/-- The base window of a session bound to a home world lies within that world's shard entries (R388); an unset window is
the whole range of joint 0 (R134). -/
def State.homeWindowOk (s : State) (x : Session) : Bool :=
  let es := s.farming.shards.filter fun e => e.home == s.fabric.nodeId && some e.homeWorld == x.world
  let j := ((s.images.rigs.getD (x.rig.getD 8) {}).joints.headD ⟨0, 0, 0, 0, 0, 0, 0, 0⟩)
  let w := x.next.baseWindow.getD (j.posMin, j.posMax)
  es.isEmpty || es.any fun e => decide (e.sLo - e.base ≤ w.1 ∧ w.2 ≤ e.sHi - e.base)

/-- SES_START (R325, R388, R396): RUNNING at once before the grid runs, else from the next frame open. -/
def bodySesStart (c : Cmd) (s : State) : State :=
  let i := c.session
  s.shape c 0 [] fun s =>
    let x := s.ses i
    s.need c (x.state == 2) 0x0201 fun s =>
      s.need c (x.unset == 0) 0x0202 fun s =>
        s.need c (!x.classS || !(s.obs.breaks.any fun b => (b.map (·.armed)).getD false)) 0x0201 fun s =>
          let safe := !x.classS || (decide (s.nextConf.period ≤ 5000) &&
            (s.safety.profile.map (s.conforms i)).getD true)
          let s' := s.modSes i fun y => { y with starting := true }
          s.need c (safe && s.homeWindowOk x && s'.admits s'.nextConf i) 0x0308 fun _ =>
            (s'.settleIdle (State.settleSession i)).accept c

/-- SES_START (R325). -/
def execSesStart (fn slot : Nat) (t : Nat) (s : State) : Host.Outcome State Fault Refusal :=
  ranAt (slotOk fn slot) t s (runCmd 0x0204 fn slot bodySesStart)

/-- SES_STOP: from RUNNING at the next guard start, when it is answered; from PAUSED, or with no grid, at once. -/
def bodySesStop (c : Cmd) (s : State) : State :=
  let i := c.session
  s.shape c 0 [] fun s =>
    s.need c (s.ses i).live 0x0201 fun s =>
      if (s.ses i).state = 3 ∧ s.gridRuns then (s.modSes i fun x => { x with stopping := true }).wait c
      else (s.sesTo i 2 0x0205).accept c

/-- SES_STOP (Table 14.5). -/
def execSesStop (fn slot : Nat) (t : Nat) (s : State) : Host.Outcome State Fault Refusal :=
  ranAt (slotOk fn slot) t s (runCmd 0x0205 fn slot bodySesStop)

/-- SES_RECOVER: FAULTED to CONFIGURED; for class S only with a clear latch, and its streams keep no motion (R415). -/
def bodySesRecover (c : Cmd) (s : State) : State :=
  let i := c.session
  s.shape c 0 [] fun s =>
    let x := s.ses i
    s.need c (x.state == 5 && (!x.classS || s.safety.latch.isEmpty)) 0x0201 fun s =>
      let s := if x.classS then s.modStreams fun l => l.map fun y =>
          if y.session = i then { y with motion := .standstill, published := none, carried := none } else y else s
      (s.sesTo i 2 0x0206).accept c

/-- SES_RECOVER (R415). -/
def execSesRecover (fn slot : Nat) (t : Nat) (s : State) : Host.Outcome State Fault Refusal :=
  ranAt (slotOk fn slot) t s (runCmd 0x0206 fn slot bodySesRecover)

/-- SES_CLOSE (Table 14.5, R326). -/
def bodySesClose (c : Cmd) (s : State) : State :=
  s.shape c 0 [] fun s =>
    s.need c ([1, 2, 5].contains (s.ses c.session).state) 0x0201 fun s =>
      (s.accept c).closeSession c.session 0x0207

/-- SES_CLOSE (R325). -/
def execSesClose (fn slot : Nat) (t : Nat) (s : State) : Host.Outcome State Fault Refusal :=
  ranAt (slotOk fn slot) t s (runCmd 0x0207 fn slot bodySesClose)

/-- The SES_STATUS response. -/
def State.sesStatus (s : State) (i : Nat) : List Byte :=
  let x := s.ses i
  let b (o : Option Nat) := le 1 (o.getD 0xFF)
  le 1 x.state ++ le 1 (flag x.classS 0) ++ b x.world ++ b x.rig ++ b x.net ++ b x.cost ++
    le 2 (s.streams.filter (·.session == i)).length ++ le 1 x.unset ++ zeros 3 ++ le 2 x.lastCause ++ zeros 18

/-- SES_STATUS. -/
def bodySesStatus (c : Cmd) (s : State) : State := s.shape c 0 [] fun s => s.accept c (s.sesStatus c.session)

/-- SES_STATUS (Table 14.5). -/
def execSesStatus (fn slot : Nat) (t : Nat) (s : State) : Host.Outcome State Fault Refusal :=
  ranAt (slotOk fn slot) t s (runCmd 0x0208 fn slot bodySesStatus)

end Sys2Proof.Machine
end

