-- ==== Sys2Proof/Machine/FrameCmds.lean ====
section
/-!
DEFINITION. Sys2Proof/Machine/FrameCmds.lean: frame configuration, the grid, streams and queries (R39-R42, R341-R344).
-/
namespace Sys2Proof.Machine

/-- Some session is in one of some states. -/
def State.anySession (s : State) (st : List Nat) : Bool := s.sessions.any fun x => st.contains x.state

/-- The device is in one of some states (Table 14.1). -/
def State.devIn (s : State) (l : List Nat) : Bool := l.contains s.frame.devState

/-- FRAME_CONFIG: at once in IDLE, at the next open in GRID, at RESUME's frame in PAUSED (R41, R397). -/
def bodyFrameConfig (c : Cmd) (s : State) : State :=
  let p := getU c.payload 0 2
  let cut := getU c.payload 2 1
  let mode := getU c.payload 3 1
  s.shape c 8 [(4, 4)] fun s =>
    s.need c (decide (mode < 2)) 0x0105 fun s =>
      s.need c (s.devIn [0, 1, 2]) 0x0201 fun s =>
        s.need c (!s.anySession [3]) 0x0204 fun s =>
          s.need c (inR p 250 20000 && p % 50 == 0 && inR cut 10 25) 0x0106 fun s =>
            let conf : FrameConf := { period := p, cutoff := cut, exact := bit mode 0 }
            let breach := match s.safety.profile with
              | some f => decide (p > f.pMax) && s.classSIn fun st => st == 2 || st == 4
              | none => false
            s.need c (!breach && s.admits conf 16) 0x0308 fun s =>
              if s.frame.devState = 0 then (s.modFrame fun f => { f with conf := conf, pendingConf := none }).accept c
              else
                let s := s.modFrame fun f => { f with pendingConf := some conf }
                if s.frame.devState = 2 then s.accept c else s.wait c

/-- FRAME_CONFIG (R41). -/
def execFrameConfig (fn slot : Nat) (t : Nat) (s : State) : Host.Outcome State Fault Refusal :=
  ranAt (slotOk fn slot) t s (runCmd 0x0501 fn slot bodyFrameConfig)

/-- A grid starts at `t0` with the lattice of R289. -/
def State.startGrid (t0 devState : Nat) (s : State) : State :=
  s.modFrame fun f => { f with devState := devState, t0s := t0, k := 0, nextOpen := t0, phase := .closed }

/-- GRID_START: answered at the first frame open (R42, R341). -/
def bodyGridStart (c : Cmd) (s : State) : State :=
  let t0 := getU c.payload 0 8
  s.shape c 8 [] fun s =>
    s.need c (s.devIn [0]) 0x0201 fun s =>
      s.need c (decide (t0 ≥ s.time.now + 1000 * ticksPerUs)) 0x0106 fun s =>
        (s.startGrid t0 1).wait c

/-- GRID_START (R42). -/
def execGridStart (fn slot : Nat) (t : Nat) (s : State) : Host.Outcome State Fault Refusal :=
  ranAt (slotOk fn slot) t s (runCmd 0x0502 fn slot bodyGridStart)

/-- Commands of an opcode that wait for this instant are answered. -/
def State.answerWaiting (op : Nat) (s : State) : State :=
  (s.mbx.cmds.filter fun c => c.opcode == op && c.stage == .waiting && c.response.isNone).foldl (fun s c => s.accept c) s

/-- Commands of an opcode that wait are not legal as things now stand, and are refused (R331). -/
def State.refuseWaiting (op status : Nat) (s : State) : State :=
  (s.mbx.cmds.filter fun c => c.opcode == op && c.stage == .waiting && c.response.isNone).foldl (fun s c => s.refuse c status) s

/-- The device becomes IDLE, and what waited for the next frame open takes effect, a FRAME_CONFIG with its answer (R483). -/
def State.toIdle (s : State) : State :=
  let s := s.modFrame fun f => { f with devState := 0, phase := .closed }
  let s := s.modReq fun r => { r with
    stopping := false, pausing := false, hostPaused := false, autoPause := false, autoPaused := false }
  (s.settleNow.answerWaiting 0x0501).refuseWaiting 0x0708 0x0201

/-- GRID_STOP: from GRID at the next guard start, from PAUSED at once (R341). -/
def bodyGridStop (c : Cmd) (s : State) : State :=
  s.shape c 0 [] fun s =>
    s.need c (s.devIn [1, 2]) 0x0201 fun s =>
      s.need c (!s.anySession [3, 4]) 0x0204 fun s =>
        if s.frame.devState = 2 then s.toIdle.accept c
        else (s.modReq fun r => { r with stopping := true }).wait c

/-- GRID_STOP (R341). -/
def execGridStop (fn slot : Nat) (t : Nat) (s : State) : Host.Outcome State Fault Refusal :=
  ranAt (slotOk fn slot) t s (runCmd 0x0503 fn slot bodyGridStop)

/-! ## Streams -/

/-- Judged at T_c of its frame, in the order of R312 (R320, R342). -/
def dueAtCutoff (c : Cmd) (s : State) : Bool :=
  c.atCutoff s && !(s.mbx.cmds.any fun x => x.atCutoff s && decide (x.order < c.order))

/-- A stream that the session has in the present stream set (R341, R342). -/
def State.ownStream? (s : State) (ses id : Nat) : Option Stream :=
  s.streams.find? fun x => x.id == id && x.session == ses && x.active

/-- A legal CANDIDATES value. -/
def candidatesOk (n : Nat) : Bool := inR n 64 4096 && n % 64 == 0

/-- STREAM_ADD (R341, R342, R397, R412). -/
def bodyStreamAdd (c : Cmd) (s : State) : State :=
  let id := getU c.payload 0 1
  let n := getU c.payload 2 2
  let age := getU c.payload 4 4
  let i := c.session
  s.shape c 16 [(1, 1), (8, 8)] fun s =>
    s.need c (inR (s.ses i).state 2 4) 0x0201 fun s =>
      let within := match s.safety.profile with
        | some p => !(s.ses i).classS || decide ((if age = 0 then 3000 else age) ≤ p.ageMax)
        | none => true
      s.need c (candidatesOk n && (age == 0 || inR age 250 60000) && within) 0x0106 fun s =>
        s.need c (!s.streams.any fun x => x.id == id) 0x0203 fun s =>
          let limit := if age = 0 then 3000 else age
          let x : Stream := { id := id, session := i, candidates := n, ageLimit := limit, ssvAge := limit }
          let s' := s.modStreams fun l => insertBy (fun a b => decide (a.id < b.id)) x l
          s.need c (s'.admits s'.nextConf i) 0x0308 fun _ => s'.accept c

/-- STREAM_RESIZE (R342). -/
def bodyStreamResize (c : Cmd) (s : State) : State :=
  let id := getU c.payload 0 1
  let n := getU c.payload 2 2
  let i := c.session
  s.shape c 8 [(1, 1), (4, 4)] fun s =>
    s.need c (inR (s.ses i).state 2 4) 0x0201 fun s =>
      s.need c (candidatesOk n && (s.ownStream? i id).isSome) 0x0106 fun s =>
        let s' := s.modStream id fun x => { x with pendingCandidates := some n }
        s.need c (s'.admits s'.nextConf i) 0x0308 fun _ => s'.accept c

/-- STREAM_REMOVE (R342). -/
def bodyStreamRemove (c : Cmd) (s : State) : State :=
  let id := getU c.payload 0 1
  let i := c.session
  s.shape c 8 [(1, 7)] fun s =>
    s.need c (inR (s.ses i).state 2 4) 0x0201 fun s =>
      s.need c (s.ownStream? i id).isSome 0x0106 fun s =>
        (s.modStream id fun x => { x with removing := true }).accept c

/-! ## Queries -/

/-- Bytes of a query record (R343). -/
def queryBytes (dof : Nat) : Nat := ceilDiv (32 + 12 * dof) 8 * 8

/-- A query record (Table 14.11). -/
def queryOf (dof seq : Nat) (b : List Byte) : Query := {
  stream := getU b 0 1, horizon := getU b 4 4, tStart := getU b 8 8, speed0 := getU b 16 4,
  qStart := getSs b 32 4 dof, qGoal := getSs b (32 + 4 * dof) 4 dof, tau := getSs b (32 + 8 * dof) 4 dof, seq := seq }

/-- The status a query record is refused with (R341-R343). -/
def State.queryBad (s : State) (ses dof : Nat) (b : List Byte) : Option Nat :=
  let q := queryOf dof 0 b
  if !allZero (slice b 2 2) || !allZero (slice b 20 12) || !allZero (b.drop (32 + 12 * dof)) then some 0x0105
  else if (s.ownStream? ses q.stream).isNone || getU b 1 1 != dof || q.horizon == 0
    || (q.speed0 == 0) != q.tau.all (· == 0) then some 0x0106
  else none

/-- The query records of a command: inline after the 8-byte head, or by descriptor. -/
def Cmd.queryBytes (c : Cmd) : List Byte := if c.descs.isEmpty then c.payload.drop 8 else c.bulk

/-- The streams that a QUERY_SUBMIT's records name. -/
def Cmd.queryStreams (c : Cmd) (len : Nat) : List Nat :=
  (List.range (getU c.payload 0 2)).map fun k => getU c.queryBytes (k * len) 1

/-- Dispositions: a record is replaced by a later one of the same stream, or of a later command (R344). -/
def dispositions (later : Nat → Bool) : List Nat → List Byte
  | [] => []
  | x :: r => (if r.contains x || later x then 1 else 0) :: dispositions later r

/-- A QUERY_SUBMIT of the frame that is later in the order of R312 has been accepted with a record of the stream (R344). -/
def State.replacedBy (s : State) (c : Cmd) (id : Nat) : Bool :=
  s.mbx.cmds.any fun x => x.opcode == 0x0507 && x.frame == c.frame && c.sooner x &&
    (x.response.map fun r => r.status == 0).getD false && (x.queryStreams (queryBytes (getU x.queryBytes 1 1))).contains id

/-- A QUERY_SUBMIT of the frame names `ids`: records of those streams in ones earlier in the order of R312 get DISPOSITION 1. -/
def State.replaceQueries (c : Cmd) (ids : List Nat) (s : State) : State :=
  let mark (x : Cmd) (r : Response) : Response :=
    let own := x.queryStreams (queryBytes (getU x.queryBytes 1 1))
    let disp := (List.range own.length).map fun k =>
      if ids.contains (own.getD k 256) then (1 : Byte) else r.payload.getD (8 + k) 0
    { r with payload := r.payload.take 8 ++ disp }
  s.modMbx fun m => { m with cmds := m.cmds.map fun x =>
    if x.opcode = 0x0507 ∧ x.frame = c.frame ∧ x.sooner c then
      { x with response := x.response.map fun r => if r.status = 0 then mark x r else r } else x }

/-- QUERY_SUBMIT (R343, R344). -/
def bodyQuerySubmit (c : Cmd) (s : State) : State :=
  let i := c.session
  let n := getU c.payload 0 2
  let x := s.ses i
  let dof := (s.images.rigs.getD (x.rig.getD 8) {}).dof
  let len := queryBytes dof
  let recs := (List.range n).map fun k => slice c.queryBytes (k * len) len
  s.need c (decide (c.payload.length ≥ 8)) 0x0104 fun s =>
    s.need c (allZero (slice c.payload 2 6)) 0x0105 fun s =>
      s.need c (inR x.state 2 4) 0x0201 fun s =>
        s.need c (inR n 1 256) 0x0106 fun s =>
          s.need c (c.queryBytes.length == n * len && (c.descs.isEmpty || c.payload.length == 8)) 0x0104 fun s =>
            match (List.range n).findSome? fun k => (s.queryBad i dof (recs.getD k [])).map fun st => (st, k) with
            | some (st, k) => s.refuse c st k
            | none =>
              let ids := c.queryStreams len
              let later := s.replacedBy c
              let s := (recs.filter fun b => !later (getU b 0 1)).foldl (init := s) fun s b =>
                s.modStream (getU b 0 1) fun y =>
                  { y with query := some (queryOf dof c.seq b), tagLayer := c.layerId, tagOperator := c.operatorId }
              let s := (s.bumpSes i 0 n).replaceQueries c ids
              s.accept c (le 2 n ++ zeros 6 ++ dispositions later ids)

end Sys2Proof.Machine
end

