-- ==== Sys2Proof/Machine/ResultCmds.lean ====
section
/-!
DEFINITION. Sys2Proof/Machine/ResultCmds.lean: the results group 0x06 (R321, R345-R347).
-/
namespace Sys2Proof.Machine

/-- The largest result record of a configuration, rounded up to a multiple of 256 (R347). -/
def largestRecord (dof ncp : Nat) : Nat := ceilDiv (256 + 8 * ceilDiv (dof * (ncp + 6)) 2 + 4096) 256 * 256

/-- The least ENTRY_SIZE of a session's result ring. -/
def State.resultEntry (s : State) (i : Nat) : Nat :=
  match (s.ses i).rig, (s.ses i).net with
  | some r, some n => largestRecord (s.images.rigs.getD r {}).dof (s.images.nets.getD n {}).ncp
  | _, _ => 256

/-- The MBX_RIDX index of a ring (R362). -/
def ringKey (kind ses : Nat) : Nat := if kind = 2 then 32 else 2 * ses + kind

/-- The session's state permits ring registration; the device event ring has no session (R334, R345). -/
def State.ringLegal (s : State) (kind ses : Nat) : Bool := kind == 2 || [1, 2, 4].contains (s.ses ses).state

/-- RING_REGISTER (R321, R345). -/
def bodyRingRegister (c : Cmd) (s : State) : State :=
  let kind := getU c.payload 0 1
  let n := getU c.payload 4 4
  let base := getU c.payload 8 8
  let size := getU c.payload 16 4
  let widx := getU c.payload 24 8
  let key := ringKey kind c.session
  s.shape c 32 [(1, 3), (20, 4)] fun s =>
    s.need c (decide (kind ≤ 2)) 0x0106 fun s =>
      s.need c (s.ringLegal kind c.session) 0x0201 fun s =>
        let sizeOk := if kind = 0 then size % 256 == 0 && decide (size ≥ s.resultEntry c.session) else size == 64
        s.need c (inR n 16 65536 && n == 2 ^ Nat.log2 n && base % 256 == 0 && widx % 8 == 0 && sizeOk) 0x0106 fun s =>
          let r : Ring := { key := key, fn := c.fn, base := base, entries := n, entrySize := size, widxAddr := widx }
          let s := s.modRings fun l => (l.filter fun g => g.key != key) ++ [r]
          let s := s.modFn c.fn fun f => { f with
            ridx := upsert key 0 f.ridx, ridxOld := f.ridxOld.filter (·.1 != key) }
          s.accept c (le 1 key ++ zeros 7)

/-- RING_REGISTER (R321). -/
def execRingRegister (fn slot : Nat) (t : Nat) (s : State) : Host.Outcome State Fault Refusal :=
  ranAt (slotOk fn slot) t s (runCmd 0x0601 fn slot bodyRingRegister)

/-- RING_RELEASE (R345). -/
def bodyRingRelease (c : Cmd) (s : State) : State :=
  let kind := getU c.payload 0 1
  let key := ringKey kind c.session
  s.shape c 8 [(1, 7)] fun s =>
    s.need c (decide (kind ≤ 2) && (s.ring? key).isSome) 0x0106 fun s =>
      s.need c (s.ringLegal kind c.session) 0x0201 fun s =>
        (s.modRings fun l => l.filter fun g => g.key != key).accept c

/-- RING_RELEASE (R345). -/
def execRingRelease (fn slot : Nat) (t : Nat) (s : State) : Host.Outcome State Fault Refusal :=
  ranAt (slotOk fn slot) t s (runCmd 0x0602 fn slot bodyRingRelease)

/-- Output by the write descriptors with the bytes written in the payload (R318; log entry 23). -/
def State.deliverCounted (c : Cmd) (bs : List Byte) (s : State) : State := s.deliver c bs (le 4 bs.length)

/-- RESULT_LAST (R345, R346). -/
def bodyResultLast (c : Cmd) (s : State) : State :=
  s.shape c 8 [(1, 7)] fun s =>
    match s.streams.find? fun x => x.id == getU c.payload 0 1 && x.session == c.session && !x.lastRecord.isEmpty with
    | some x => s.deliverCounted c x.lastRecord
    | none => s.refuse c 0x0106

/-- RESULT_LAST (R345). -/
def execResultLast (fn slot : Nat) (t : Nat) (s : State) : Host.Outcome State Fault Refusal :=
  ranAt (slotOk fn slot) t s (runCmd 0x0603 fn slot bodyResultLast)

end Sys2Proof.Machine
end

