-- ==== Sys2Proof/Machine/Determinism.lean ====
section
/-!
DEFINITION. Sys2Proof/Machine/Determinism.lean: the determinism group 0x07 and the capture drain (R298-R305, R348, R349).
-/
namespace Sys2Proof.Machine

/-! ## Recording -/

/-- Recording is under way, its last bytes still to drain included. -/
def Determinism.recording (d : Determinism) : Bool := d.record || d.recordNext || d.recordEnded

/-- RECORD_START: answered at the frame open at which capture begins (R349). -/
def bodyRecordStart (c : Cmd) (s : State) : State :=
  let w := getU c.payload 0 8
  s.shape c 16 [(8, 8)] fun s =>
    s.need c (s.devIn [0, 1, 2] && !s.det.recording) 0x0201 fun s =>
      s.need c (w % 8 == 0) 0x0106 fun s =>
        (s.modDet fun d => {
          d with recordNext := true, captureWidx := w, captureDescs := c.descs, frameEnds := [], recordEnding := false }).wait c

/-- RECORD_START (R349). -/
def execRecordStart (fn slot : Nat) (t : Nat) (s : State) : Host.Outcome State Fault Refusal :=
  ranAt (slotOk fn slot) t s (runCmd 0x0701 fn slot bodyRecordStart)

/-- RECORD_STOP: capture ends after the next FRAME_END, that of the first frame where RECORD_START still waits for its open;
answered when the last byte is drained (log entry 143). -/
def bodyRecordStop (c : Cmd) (s : State) : State :=
  s.shape c 0 [] fun s =>
    s.need c (s.det.record || s.det.recordNext) 0x0201 fun s =>
      (s.modDet fun d => { d with recordEnding := true }).wait c

/-- RECORD_STOP (R348). -/
def execRecordStop (fn slot : Nat) (t : Nat) (s : State) : Host.Outcome State Fault Refusal :=
  ranAt (slotOk fn slot) t s (runCmd 0x0702 fn slot bodyRecordStop)

/-- CAPTURE_RELEASE. -/
def bodyCaptureRelease (c : Cmd) (s : State) : State :=
  let n := getU c.payload 0 8
  s.shape c 8 [] fun s =>
    s.need c s.det.recording 0x0201 fun s =>
      s.need c (decide (n ≤ s.det.written)) 0x0106 fun s =>
        (s.modDet fun d => { d with consumed := max d.consumed n }).accept c

/-- CAPTURE_RELEASE (R349). -/
def execCaptureRelease (fn slot : Nat) (t : Nat) (s : State) : Host.Outcome State Fault Refusal :=
  ranAt (slotOk fn slot) t s (runCmd 0x0703 fn slot bodyCaptureRelease)

/-- Writes one stream of bytes into the capture descriptors from stream position `pos` on, wrapped (R349). -/
def State.captureWrite (descs : List Desc) : Nat → List Byte → State → State
  | _, [], s => s
  | pos, b :: bs, s =>
    let total := sumN (descs.map (·.len))
    let place := descs.foldl (init := (pos % max 1 total, (none : Option Nat))) fun a d =>
      match a.2 with
      | some _ => a
      | none => if a.1 < d.len then (a.1, some (d.addr + a.1)) else (a.1 - d.len, none)
    let s := match place.2 with
      | some a => s.hostWrite 0 a [b]
      | none => s
    State.captureWrite descs (pos + 1) bs s

/-- RECORD_STOP is answered. -/
def State.stopRecorded (s : State) : State :=
  let s := s.modDet fun d => { d with recordEnded := false }
  (s.mbx.cmds.filter fun c => c.opcode == 0x0702 && c.stage == .waiting).foldl (init := s) fun s c => s.accept c

/-- Bytes of the capture ring go to the host as far as released space allows; after a FRAME_END's last byte the total is
written to WIDX_ADDR, and the last byte answers RECORD_STOP (R299, R348, R349). Once OVERFLOW has ended recording the device
writes there no more (R319), and a RECORD_STOP that waits is answered. -/
def State.captureDrain (bytes : Nat) (s : State) : State :=
  let d := s.det
  if d.overflowed then s.stopRecorded
  else
    let total := sumN (d.captureDescs.map (·.len))
    let n := min (min bytes d.ring.length) (d.consumed + total - d.written)
    let s := s.captureWrite d.captureDescs d.written (d.ring.take n)
    let w := d.written + n
    let s := s.modDet fun d => { d with ring := d.ring.drop n, written := w }
    let s := if d.frameEnds.any fun e => decide (e ≤ w) then
        (s.hostWrite 0 d.captureWidx (le 8 w)).modDet fun d => { d with frameEnds := d.frameEnds.filter fun e => decide (w < e) }
      else s
    if s.det.ring.isEmpty && s.det.recordEnded then s.stopRecorded else s

/-- CAPTURE_DRAIN (R299). -/
def execCaptureDrain (bytes : Nat) (t : Nat) (s : State) : Host.Outcome State Fault Refusal :=
  ranAt true t s (State.captureDrain bytes)

/-- OP_DIGEST_SET. -/
def bodyOpDigestSet (c : Cmd) (s : State) : State :=
  s.shape c 8 [(1, 7)] fun s =>
    s.need c (s.devIn [0, 1, 2]) 0x0201 fun s =>
      s.need c (decide (getU c.payload 0 1 ≤ 1)) 0x0106 fun s =>
        ((s.modDet fun d => { d with opDigestNext := some (getU c.payload 0 1 == 1) }).settleIdle State.settleDigest).accept c

/-- OP_DIGEST_SET (R302). -/
def execOpDigestSet (fn slot : Nat) (t : Nat) (s : State) : Host.Outcome State Fault Refusal :=
  ranAt (slotOk fn slot) t s (runCmd 0x0704 fn slot bodyOpDigestSet)

/-! ## Replay (R300) -/

/-- REPLAY_START. -/
def bodyReplayStart (c : Cmd) (s : State) : State :=
  s.shape c 0 [] fun s =>
    s.need c (s.devIn [0, 2]) 0x0201 fun s =>
      let s := s.startGrid s.frame.nextOpen 3
      (s.modDet fun d => { d with replay := [], replayStalled := [], keyMismatch := false }).accept c

/-- REPLAY_START (R300). -/
def execReplayStart (fn slot : Nat) (t : Nat) (s : State) : Host.Outcome State Fault Refusal :=
  ranAt (slotOk fn slot) t s (runCmd 0x0705 fn slot bodyReplayStart)

/-- A capture entry's header and payload read back (Table 12.7). -/
def captureOf (b : List Byte) : Capture := {
  kind := getU b 0 1, source := getU b 1 1, slot := getU b 2 1, when_ := getU b 3 1, frame := BitVec.ofNat 32 (getU b 4 4),
  order := getU b 8 4, offset := getU b 12 4, time := getU b 16 8, payload := slice b 32 (getU b 24 4) }

/-- The reserved bytes and bits of an entry's payload are 0: TIME_CORR's last seven bytes, and FRAME_END's FLAGS 15:5 and bytes
38 and 39 (R13, R298, Table 12.8). -/
def Capture.reservedOk (e : Capture) : Bool :=
  if e.kind = 4 then allZero (slice e.payload 9 7)
  else if e.kind = 6 then decide (getU e.payload 36 2 < 32) && allZero (slice e.payload 38 2)
  else true

/-- Cuts capture bytes into entries; else a status and its argument: a part entry, a failing CRC or a nonzero reserved field at
entry `i`. -/
def cutCapture : Nat → Nat → List Byte → Sum (Nat × Nat) (List Capture)
  | 0, _, _ => .inl (0x0104, 0)
  | fuel + 1, i, b =>
    if b.isEmpty then .inr []
    else
      let n := 32 + ceilDiv (getU b 24 4) 8 * 8
      if b.length < 32 ∨ b.length < n then .inl (0x0104, 0)
      else if getU b 28 4 ≠ crc32c (b.take 28 ++ zeros 4 ++ slice b 32 (getU b 24 4)) then .inl (0x0402, i)
      else if !(captureOf b).reservedOk then .inl (0x0105, i)
      else match cutCapture fuel (i + 1) (b.drop n) with
        | .inl e => .inl e
        | .inr r => .inr (captureOf b :: r)

/-- Bytes that the entries of the replay queue take. -/
def replayBytes (l : List Capture) : Nat := sumN (l.map fun e => 32 + ceilDiv e.payload.length 8 * 8)

/-- Each REPLAY_FEED whose last entry is within the 64 MiB queue is answered: the entries of the feeds behind it do not count
(R349). -/
def State.replayUnstall (s : State) : State :=
  let l := s.det.replayStalled
  let total := replayBytes s.det.replay
  let fed (k : Nat × Nat) : Nat := ((s.cmd? k.1 k.2).map fun c => c.bulk.length).getD 0
  let queued (i : Nat) : Bool := decide (total - sumN ((l.drop (i + 1)).map fed) ≤ 67108864)
  let done := (List.range l.length).filter queued
  let s := s.modDet fun d => { d with
    replayStalled := ((List.range l.length).filter fun i => !queued i).map fun i => l.getD i (0, 0) }
  done.foldl (init := s) fun s i => match s.cmd? (l.getD i (0, 0)).1 (l.getD i (0, 0)).2 with
    | some c => s.accept c
    | none => s

/-- REPLAY_FEED. -/
def bodyReplayFeed (c : Cmd) (s : State) : State :=
  s.shape c 0 [] fun s =>
    s.need c (s.devIn [3]) 0x0201 fun s =>
      s.need c (!s.det.keyMismatch) 0x0206 fun s =>
        match cutCapture (c.bulk.length + 1) 0 c.bulk with
        | .inl e => s.refuse c e.1 e.2
        | .inr es =>
          let s := s.modDet fun d => { d with replay := d.replay ++ es, replayStalled := d.replayStalled ++ [(c.fn, c.slot)] }
          (s.wait c).replayUnstall

/-- REPLAY_FEED (R300). -/
def execReplayFeed (fn slot : Nat) (t : Nat) (s : State) : Host.Outcome State Fault Refusal :=
  ranAt (slotOk fn slot) t s (runCmd 0x0706 fn slot bodyReplayFeed)

/-- Every RUNNING session becomes PAUSED, and so does the device (R303). -/
def State.pauseAll (cause : Nat) (s : State) : State :=
  let s := (List.range 16).foldl (init := s) fun s i => if (s.ses i).state = 3 then s.sesTo i 4 cause else s
  s.modFrame fun f => { f with devState := 2, phase := .closed }

/-- The next frame's entries have been fed up to its FRAME_END. -/
def State.replayReady (s : State) : Bool :=
  s.det.replay.any fun e => e.kind == 6 && e.frame == s.frame.counter + 1

/-- REPLAY_STOP: at the next guard start; with no frame under way and none fed, at once (log entry 25). -/
def bodyReplayStop (c : Cmd) (s : State) : State :=
  s.shape c 0 [] fun s =>
    s.need c (s.devIn [3]) 0x0201 fun s =>
      if (s.frame.phase = .closed ∨ s.frame.phase = .guarded) ∧ !s.replayReady then (s.pauseAll 0x0707).accept c
      else (s.modReq fun r => { r with replayStopping := true }).wait c

/-- REPLAY_STOP (R348). -/
def execReplayStop (fn slot : Nat) (t : Nat) (s : State) : Host.Outcome State Fault Refusal :=
  ranAt (slotOk fn slot) t s (runCmd 0x0707 fn slot bodyReplayStop)

/-! ## Pause, save, restore, resume (R303-R305) -/

/-- PAUSE: answered at the guard start. -/
def bodyPause (c : Cmd) (s : State) : State :=
  s.shape c 0 [] fun s =>
    s.need c (s.devIn [1]) 0x0201 fun s =>
      (s.modReq fun r => { r with pausing := true, hostPaused := true }).wait c

/-- PAUSE (R303). -/
def execPause (fn slot : Nat) (t : Nat) (s : State) : Host.Outcome State Fault Refusal :=
  ranAt (slotOk fn slot) t s (runCmd 0x0708 fn slot bodyPause)

/-- The FRT that the lattice gives the next frame (R289). -/
def State.nextFrt (s : State) : Nat := s.frame.t0s + s.frame.k * s.frame.conf.period * ticksPerUs

/-- The world region's records without what is transient at a boundary (R56, R304). -/
def Worlds.saved (w : Worlds) : Worlds :=
  { ws := w.ws, allocated := w.allocated, freeing := w.freeing, workcells := w.workcells, badHandles := w.badHandles }

/-- A stream without what is transient at a boundary: its query, motion, carried plan and stop stay (R304). -/
def Stream.saved (x : Stream) : Stream :=
  { id := x.id, session := x.session, candidates := x.candidates, ageLimit := x.ageLimit, ssvAge := x.ssvAge, active := x.active,
    removing := x.removing, pendingCandidates := x.pendingCandidates, recSeq := x.recSeq, sealSeq := x.sealSeq, query := x.query,
    motion := x.motion, published := x.published, carried := x.carried, stop := x.stop, stopEpoch := x.stopEpoch,
    affinity := x.affinity, lastRecord := x.lastRecord, tagLayer := x.tagLayer, tagOperator := x.tagOperator }

/-- What SAVE writes (R304). -/
def State.saved (s : State) : SavedState := {
  worlds := s.worlds.saved, hbm := s.hbm, sessions := s.sessions.map fun x => { x with counters := List.replicate 16 0 },
  streams := s.streams.map Stream.saved, counter := s.frame.counter, nextFrt := s.nextFrt, key := s.det.key }

/-- SAVE. -/
def bodySave (c : Cmd) (s : State) : State :=
  s.shape c 0 [] fun s =>
    s.need c (s.devIn [2]) 0x0201 fun s =>
      let image := Config.stateImage s.saved
      ({ s with saves := (s.saves.filter fun (x : List Byte × SavedState) => x.1 != image) ++ [(image, s.saved)] }).deliverCounted c image

/-- SAVE (R304). -/
def execSave (fn slot : Nat) (t : Nat) (s : State) : Host.Outcome State Fault Refusal :=
  ranAt (slotOk fn slot) t s (runCmd 0x0709 fn slot bodySave)

/-- Memory built from listed bytes, in canonical form. -/
def Mem.ofCells (l : List Host.Cell) : Mem := l.foldl (fun m c => Mem.write c.1 c.2 m) []

/-- The waiting commands of a session whose state has left those marked for them are answered STATE_ILLEGAL (R325). -/
def State.reJudge (i : Nat) (s : State) : State :=
  let st := (s.ses i).state
  if inR st 2 4 then
    s.modMbx fun m => { m with cmds := m.cmds.map fun c =>
      if c.session = i ∧ c.response = none ∧ c.stage = .waiting ∧ c.opcode = 0x0205 ∧ st = 2
      then { c with stage := .done, response := some { status := 0x0201 } } else c }
  else s.dropWaiting i

/-- A state image put back; counters are not part of it (R304). Commands that wait then belong to the first frame that opens
(R483), and those whose session has left its states are answered (R325). -/
def State.restoreFrom (x : SavedState) (s : State) : State :=
  let put (i : Nat) : Session := { x.sessions.getD i {} with counters := (s.ses i).counters }
  let ws := (List.range 4).map fun w => x.worlds.ws.getD w {}
  let s := s.modSessions fun _ => (List.range 16).map put
  let s := s.modWorlds fun w => { w with
    ws := ws, allocated := x.worlds.allocated, freeing := x.worlds.freeing, workcells := x.worlds.workcells,
    badHandles := x.worlds.badHandles }
  let s := (s.modHbm fun _ => Mem.ofCells x.hbm).modStreams fun _ => x.streams
  let s := s.modFrame fun f => { f with counter := x.counter, t0s := x.nextFrt, k := 0 }
  let s := s.modMbx fun m => { m with cmds := m.cmds.map fun c => if c.response = none then { c with frame := x.counter + 1 } else c }
  (List.range 16).foldl (init := s) fun s i => s.reJudge i

/-- What an image that RESTORE fetched stands for: the state that its SAVE wrote; of another image, the manual gives no layout
(log entry 144). -/
def State.imageState (s : State) (image : List Byte) : Option SavedState :=
  match s.saves.find? fun x => image.take x.1.length == x.1 with
  | some x => some x.2
  | none => Config.stateOf image

/-- RESTORE. -/
def bodyRestore (c : Cmd) (s : State) : State :=
  s.shape c 0 [] fun s =>
    s.need c (s.devIn [2]) 0x0201 fun s =>
      match s.imageState c.bulk with
      | none => s.refuse c 0x0402
      | some x => s.need c (decide (x.key = s.det.key)) 0x0206 fun s => (s.restoreFrom x).accept c

/-- RESTORE (R304). -/
def execRestore (fn slot : Nat) (t : Nat) (s : State) : Host.Outcome State Fault Refusal :=
  ranAt (slotOk fn slot) t s (runCmd 0x070A fn slot bodyRestore)

/-- RESUME: answered at the first frame open (R305). -/
def bodyResume (c : Cmd) (s : State) : State :=
  let t0 := getU c.payload 0 8
  s.shape c 8 [] fun s =>
    s.need c (s.devIn [2]) 0x0201 fun s =>
      s.need c (decide (t0 ≥ s.time.now + 1000 * ticksPerUs)) 0x0106 fun s =>
        let s := (s.startGrid t0 1).modFrame fun f => { f with resumeNext := true }
        (s.modReq fun r => { r with hostPaused := false, autoPaused := false }).wait c

/-- RESUME (R305). -/
def execResume (fn slot : Nat) (t : Nat) (s : State) : Host.Outcome State Fault Refusal :=
  ranAt (slotOk fn slot) t s (runCmd 0x070B fn slot bodyResume)

/-! ## The TIMING_SLIP log -/

/-- A TIMING_SLIP log entry (Table 12.5). -/
def slipBytes (e : SlipEntry) : List Byte :=
  le 4 e.frame.toNat ++ le 1 e.cause ++ le 1 e.stack ++ le 1 e.cluster ++ [0] ++ le 4 e.delay ++ le 4 e.count

/-- SLIP_LOG_READ: entries from frame FIRST on, as far as the descriptor holds. -/
def bodySlipLogRead (c : Cmd) (s : State) : State :=
  s.shape c 8 [(4, 4)] fun s =>
    let first := BitVec.ofNat 32 (getU c.payload 0 4)
    let es := (s.det.slipLog.filter fun e => !laterFrame first e.frame).take (c.room / 16)
    (s.output c (es.flatMap slipBytes)).accept c (le 4 es.length)

/-- SLIP_LOG_READ (R292). -/
def execSlipLogRead (fn slot : Nat) (t : Nat) (s : State) : Host.Outcome State Fault Refusal :=
  ranAt (slotOk fn slot) t s (runCmd 0x070C fn slot bodySlipLogRead)

end Sys2Proof.Machine
end

