-- ==== Sys2Proof/Machine/Rigs.lean ====
section
/-!
DEFINITION. Sys2Proof/Machine/Rigs.lean: rig images (R116-R134): their records, their load checks, forward kinematics and
the bounds computed at load. Vectors are lists of three integers (s, u, v).
-/
namespace Sys2Proof.Machine

/-! ## Vectors and rotations -/

/-- Sum of two vectors. -/
def vAdd (a b : List Int) : List Int := [at0 a 0 + at0 b 0, at0 a 1 + at0 b 1, at0 a 2 + at0 b 2]
/-- Difference of two vectors. -/
def vSub (a b : List Int) : List Int := [at0 a 0 - at0 b 0, at0 a 1 - at0 b 1, at0 a 2 - at0 b 2]
/-- Dot product. -/
def vDot (a b : List Int) : Int := at0 a 0 * at0 b 0 + at0 a 1 * at0 b 1 + at0 a 2 * at0 b 2
/-- Cross product. -/
def vCross (a b : List Int) : List Int :=
  [at0 a 1 * at0 b 2 - at0 a 2 * at0 b 1, at0 a 2 * at0 b 0 - at0 a 0 * at0 b 2, at0 a 0 * at0 b 1 - at0 a 1 * at0 b 0]
/-- Squared length. -/
def vSq (a : List Int) : Nat := (vDot a a).toNat
/-- Sum of magnitudes. -/
def vAbs1 (a : List Int) : Nat := (at0 a 0).natAbs + (at0 a 1).natAbs + (at0 a 2).natAbs
/-- Row `i` of a row-major 3 x 3 matrix. -/
def row (m : List Int) (i : Nat) : List Int := [at0 m (3 * i), at0 m (3 * i + 1), at0 m (3 * i + 2)]
/-- Column `j`. -/
def col (m : List Int) (j : Nat) : List Int := [at0 m j, at0 m (3 + j), at0 m (6 + j)]
/-- The transpose. -/
def transpose (m : List Int) : List Int := col m 0 ++ col m 1 ++ col m 2
/-- Matrix times vector, exact. -/
def mulV (m v : List Int) : List Int := [vDot (row m 0) v, vDot (row m 1) v, vDot (row m 2) v]
/-- FLOOR of each entry divided by 2^k. -/
def shr (k : Nat) (v : List Int) : List Int := v.map fun x => x / 2 ^ k
/-- Matrix product, each entry exact and floored once by 2^k (Table 05.6). -/
def mulM (k : Nat) (a b : List Int) : List Int :=
  (List.range 9).map fun i => vDot (row a (i / 3)) (col b (i % 3)) / 2 ^ k

/-- The identity in Q2.30. -/
def ident30 : List Int := [2 ^ 30, 0, 0, 0, 2 ^ 30, 0, 0, 0, 2 ^ 30]
/-- The identity in Q2.14. -/
def ident14 : List Int := [16384, 0, 0, 0, 16384, 0, 0, 0, 16384]

/-- A pose: rotation in Q2.30 and translation in 2^-16 of a position LSB (Table 05.6). -/
structure Pose where
  rot : List Int
  tr : List Int
  deriving DecidableEq, Repr

/-- The rotation about a Q2.14 axis by a joint whose (sine, cosine) are in Q2.30, in Q2.30, each entry floored once. -/
def axisRot (axis : List Int) (sc : Int × Int) : List Int :=
  let a := at0 axis
  let e (i j : Nat) : Int :=
    let skew := if i = j then 0 else (if (j + 3 - i) % 3 = 1 then - a (3 - i - j) else a (3 - i - j))
    ((if i = j then sc.2 * 2 ^ 28 else 0) + (2 ^ 30 - sc.2) * a i * a j + sc.1 * skew * 2 ^ 14) / 2 ^ 28
  (List.range 9).map fun k => e (k / 3) (k % 3)

/-- Joint motion after the origin transform (R120): `q` is the position, `sc` its sine and cosine. -/
def linkStep (l : RigLink) (q : Int) (sc : Int × Int) (p : Pose) : Pose :=
  let rot := mulM 14 p.rot l.originR
  let tr := vAdd p.tr (shr 14 (mulV p.rot l.originT))
  if l.jointType = 1 then { rot := mulM 30 rot (axisRot l.axis sc), tr := tr }
  else if l.jointType = 2 then { rot := rot, tr := vAdd tr ((mulV rot l.axis).map fun x => x * q / 2 ^ 28) }
  else { rot := rot, tr := tr }

/-- Poses of all links in the base frame, in index order: link 0's is the base frame itself, at `base` (R118, R120). -/
def linkPoses (r : Rig) (base : List Int) (q : Nat → Int) (sc : Nat → Int × Int) : List Pose :=
  let origin : Pose := { rot := ident30, tr := base.map (· * 65536) }
  r.links.foldl (init := []) fun ps l =>
    ps ++ [if ps.isEmpty then origin else linkStep l (q l.jointIdx) (sc l.jointIdx) (ps.getD l.parent origin)]

/-- A point of a link frame in the internal format. -/
def Pose.point (p : Pose) (c : List Int) : List Int := vAdd p.tr (shr 14 (mulV p.rot c))
/-- An output position: floored from the internal format and saturated to S32, with its flags (R70, Table 05.6). -/
def outPos (satFlag : Nat) (v : List Int) : List Int × Nat := collect ((shr 16 v).map (saturate 32 satFlag))

/-- Sine and cosine of `q` * 2^-26 rad, to within 2^-60: power series at a 64th of the angle, then six doublings. -/
def sinCos (q : Int) : Int × Int :=
  let one : Int := 2 ^ 96
  let x := q * 2 ^ 64
  let sq := x * x / one
  let series (first : Int) (k0 : Nat) : Int :=
    ((List.range 14).foldl (fun (a : Int × Int) i =>
      let k : Int := 2 * i + k0
      let t := -(a.2 * sq / one) / ((k + 1) * (k + 2))
      (a.1 + t, t)) (first, first)).1
  (List.range 6).foldl (fun (a : Int × Int) _ => (2 * a.1 * a.2 / one, 2 * a.2 * a.2 / one - one)) (series x 1, series one 0)

/-- A free value held to R129: S32 Q2.30 within 2^-30 of the exact `x` * 2^-96 (log entry 7). -/
def trigNear (x v : Int) : Int := max (ceilDivI (x - 2 ^ 66) (2 ^ 66)) (min ((x + 2 ^ 66) / 2 ^ 66) v)
/-- The sine of a joint angle as the table gives it. -/
def sinQ30 (q : Int) : Int := trigNear (sinCos q).1 (Config.sinQ30 q)
/-- The cosine of a joint angle. -/
def cosQ30 (q : Int) : Int := trigNear (sinCos q).2 (Config.cosQ30 q)

/-- Poses at a configuration, with the base at (s, U_OFFSET, 0) of its segment frame. -/
def Rig.pose (r : Rig) (sLoc : Int) (q : List Int) : List Pose :=
  linkPoses r [sLoc, r.uOffset, 0] (at0 q) fun j => (sinQ30 (at0 q j), cosQ30 (at0 q j))
/-- Poses with every joint at position 0, where sine is 0 and cosine 1. -/
def Rig.poseZero (r : Rig) : List Pose := linkPoses r [0, r.uOffset, 0] (fun _ => 0) fun _ => (0, 2 ^ 30)

/-! ## Chains and bounds -/

/-- A link's chain from itself to link 0 (fuel: the number of links). -/
def chainUp (links : List RigLink) : Nat → Nat → List Nat
  | 0, i => [i]
  | fuel + 1, i =>
    match links[i]? with
    | some l => if i = 0 ∨ l.parent ≥ i then [i] else i :: chainUp links fuel l.parent
    | none => [i]

/-- A link's chain from link 0 to itself. -/
def Rig.chain (r : Rig) (i : Nat) : List Nat := (chainUp r.links r.links.length i).reverse
/-- Link `i`. -/
def Rig.link (r : Rig) (i : Nat) : RigLink := r.links.getD i ⟨0, 0, 255, 0, [], [], []⟩
/-- Joint `j`. -/
def Rig.joint (r : Rig) (j : Nat) : RigJoint := r.joints.getD j ⟨0, 0, 0, 0, 0, 0, 0, 0⟩
/-- The number of joints on a link's chain. -/
def Rig.depth (r : Rig) (i : Nat) : Nat := ((r.chain i).filter fun k => (r.link k).jointType != 0).length

/-- The translations of the chain after its first revolute joint (R130). -/
def Rig.reachOf (r : Rig) (i : Nat) : Nat :=
  let rest := ((r.chain i).dropWhile fun k => (r.link k).jointType != 1).drop 1
  sumN (rest.map fun k => isqrtCeil (vSq (r.link k).originT))

/-- E of R130 for a point of link `i` at distance `far` from its frame's origin. -/
def Rig.errorBound (r : Rig) (i far : Nat) : Nat := 2 + ceilDiv (3 * r.depth i * (r.reachOf i + far)) (2 ^ 29)

/-- R_rig of R172. -/
def Rig.radius (r : Rig) : Nat :=
  (r.spheres.map fun s =>
    let ch := (r.chain s.link).drop 1
    let tr := sumN (ch.map fun k => isqrtCeil (vSq (r.link k).originT))
    let pr := sumN (ch.map fun k =>
      let l := r.link k
      let j := r.joint l.jointIdx
      if l.jointType = 2 then max j.posMin.natAbs j.posMax.natAbs else 0)
    tr + pr + isqrtCeil (vSq s.centre) + s.radius).foldl max 0

/-- A link's bounding sphere: a centre that the manual leaves open, a radius that encloses every sphere of the link, and
its own E (R172; log entry 26). -/
def Rig.bounding (r : Rig) (i : Nat) : List Int × Nat × Nat :=
  let ss := r.spheres.filter (·.link == i)
  let c := fit3 (Config.boundCentre (ss.map fun s => (s.centre, s.radius)))
  let rad := (ss.map fun s => isqrtCeil (vSq (vSub s.centre c)) + s.radius).foldl max 0
  (c, rad, r.errorBound i (isqrtCeil (vSq c)))
where
  /-- Three components of a list. -/
  fit3 (l : List Int) : List Int := [at0 l 0, at0 l 1, at0 l 2]

/-- The motion bound of link `i` between two configurations (R128); a link whose entries are `lips`. -/
def Rig.motion (r : Rig) (i : Nat) (q q' : List Int) : Nat :=
  let js := ((r.chain i).map r.link).filter fun l => l.jointType != 0
  let d (j : Nat) := (at0 q' j - at0 q j).natAbs
  let acc := sumN ((js.filter fun l => l.jointType == 1).map fun l => (r.lips.getD i []).getD l.jointIdx 0 * d l.jointIdx)
  ceilDiv acc (2 ^ 26) + sumN ((js.filter fun l => l.jointType == 2).map fun l => d l.jointIdx)

/-! ## Records -/

/-- Cuts a section into records of `n` bytes. -/
def recordsOf (b : List Byte) (n count : Nat) : List (List Byte) := (List.range count).map fun i => slice b (i * n) n

/-- A link record (Table 05.3). -/
def linkRec (b : List Byte) : RigLink := {
  parent := getU b 0 1, jointType := getU b 1 1, jointIdx := getU b 2 1, arm := getU b 3 1, originT := getSs b 4 4 3,
  originR := getSs b 16 2 9, axis := getSs b 34 2 3 }
/-- A joint record. -/
def jointRec (b : List Byte) : RigJoint := {
  type := getU b 0 1, role := getU b 1 1, posMin := getS b 4 4, posMax := getS b 8 4, velMax := getU b 12 4,
  accMax := getU b 16 4, jerkMax := getU b 20 4, stopAcc := getU b 24 4 }
/-- A sphere record; its E is put in at load. -/
def sphereRec (b : List Byte) : RigSphere := {
  link := getU b 0 1, group := getU b 1 1, centre := getSs b 4 4 3, radius := getU b 16 4, e := 0 }
/-- A capsule record. -/
def capsuleRec (b : List Byte) : RigCapsule := {
  link := getU b 0 1, group := getU b 1 1, endA := getSs b 4 4 3, endB := getSs b 16 4 3, radius := getU b 28 4, e := 0 }
/-- A tool-point record. -/
def toolRec (b : List Byte) : RigTool := {
  link := getU b 0 1, groupMask := getU b 2 2, offset := getSs b 4 4 3,
  limits := (List.range 4).map fun c => (getU b (16 + 12 * c) 4, getU b (20 + 12 * c) 4, getU b (24 + 12 * c) 4), e := 0 }

/-- Section `i` of an image whose table starts at `tab`. -/
def sectionOf (b : List Byte) (tab i : Nat) : List Byte := slice b (getU b (tab + 8 * i) 4) (getU b (tab + 8 * i + 4) 4)

/-- The sections lie inside the image, do not overlap, and their CRCs agree. DESIGN CHOICE: an empty section whose offset lies inside
another one overlaps it (log entry 150). -/
def sectionsOk (b : List Byte) (tab crcs n : Nat) : Bool :=
  let lo (i : Nat) := getU b (tab + 8 * i) 4
  let len (i : Nat) := getU b (tab + 8 * i + 4) 4
  (List.range n).all fun i =>
    decide (lo i + len i ≤ b.length) && getU b (crcs + 4 * i) 4 == crc32c (sectionOf b tab i)
      && (List.range i).all fun j => decide (lo i + len i ≤ lo j ∨ lo j + len j ≤ lo i)

/-- Counts of a rig header: links, joints, spheres, capsules, pairs, Lipschitz rows, tool points. -/
def rigCounts (b : List Byte) : List Nat :=
  [getU b 24 2, getU b 20 1, getU b 26 2, getU b 28 2, getU b 30 2, getU b 24 2, getU b 32 1]

/-- Record sizes in section order. -/
def rigSizes : List Nat := [64, 32, 24, 32, 4, 128, 64]

/-- The records of rig section `i`. -/
def rigRecords (b : List Byte) (i : Nat) : List (List Byte) :=
  recordsOf (sectionOf b 40 i) (rigSizes.getD i 1) ((rigCounts b).getD i 0)

/-- A rig as read from its image, with the bounds that the device computes at load (R130, R172). -/
def rigOf (b : List Byte) : Rig :=
  let r : Rig := {
    rigId := getU b 16 4, dof := getU b 20 1, arms := getU b 21 1, lift := getU b 22 1, groups := getU b 23 1,
    uOffset := getS b 36 4, links := (rigRecords b 0).map linkRec, joints := (rigRecords b 1).map jointRec,
    spheres := (rigRecords b 2).map sphereRec, capsules := (rigRecords b 3).map capsuleRec,
    pairs := (rigRecords b 4).map fun p => (getU p 0 2, getU p 2 2),
    lips := (rigRecords b 5).map fun p => (List.range 32).map fun j => getU p (4 * j) 4,
    tools := (rigRecords b 6).map toolRec }
  let r := { r with
    spheres := r.spheres.map fun (s : RigSphere) => { s with e := r.errorBound s.link (isqrtCeil (vSq s.centre)) },
    capsules := r.capsules.map fun (s : RigCapsule) =>
      { s with e := r.errorBound s.link (max (isqrtCeil (vSq s.endA)) (isqrtCeil (vSq s.endB))) },
    tools := r.tools.map fun (s : RigTool) => { s with e := r.errorBound s.link (isqrtCeil (vSq s.offset)) } }
  { r with rRig := r.radius, bound := (List.range r.links.length).map r.bounding }

/-! ## Load checks (Table 05.5) -/

/-- Check 2. -/
def rigCheck2 (b : List Byte) : Bool :=
  getU b 0 4 == 0x47495253 && getU b 4 1 == 2 && getU b 5 1 == 1 && getU b 124 4 == crc32c (b.take 124)
    && sectionsOk b 40 96 7
    && (List.range 7).all fun i => getU b (44 + 8 * i) 4 == (rigCounts b).getD i 0 * rigSizes.getD i 0

/-- Check 3. -/
def rigCheck3 (b : List Byte) : Bool :=
  let z (r : List Byte) (o n : Nat) := allZero (slice r o n)
  decide (1 ≤ getU b 20 1 ∧ getU b 20 1 ≤ 32 ∧ getU b 21 1 ≤ 4 ∧ getU b 22 1 ≤ 1 ∧ 1 ≤ getU b 23 1 ∧ getU b 23 1 ≤ 16)
    && decide (1 ≤ getU b 24 2 ∧ getU b 24 2 ≤ 96 ∧ 1 ≤ getU b 26 2 ∧ getU b 26 2 ≤ 512 ∧ 1 ≤ getU b 28 2)
    && decide (getU b 28 2 ≤ 64 ∧ getU b 30 2 ≤ 4096 ∧ 1 ≤ getU b 32 1 ∧ getU b 32 1 ≤ 16 ∧ b.length ≤ 262144)
    && z b 6 2 && z b 33 3 && ((rigRecords b 0).all fun r => z r 40 24)
    && ((rigRecords b 1).all fun r => z r 2 2 && z r 28 4) && ((rigRecords b 2).all fun r => z r 2 2 && z r 20 4)
    && ((rigRecords b 3).all fun r => z r 2 2) && ((rigRecords b 6).all fun r => z r 1 1)

/-- A link's parent is the base or the lift. -/
def Rig.onBase (r : Rig) (p : Nat) : Bool := p == 0 || (r.lift == 1 && p == 1)

/-- The ARM field of link `i` follows R119. DESIGN CHOICE: an arm in which a link has two children passes, since Table 05.5 lists no test
for it (log entry 150). -/
def Rig.armOk (r : Rig) (i : Nat) : Bool :=
  let l := r.link i
  if i = 0 ∨ (i = 1 ∧ r.lift = 1) then l.arm == 0
  else if l.arm = 0 then l.jointType == 0 && r.onBase l.parent
  else decide (l.arm ≤ r.arms) && (r.onBase l.parent || (r.link l.parent).arm == 0 || (r.link l.parent).arm == l.arm)
    && ((r.link l.parent).arm != 0 || r.onBase l.parent)

/-- Check 4. DESIGN CHOICE: beyond the list of Table 05.5 it also refuses a JOINT_TYPE above 2, a joint whose TYPE is not
its link's JOINT_TYPE and an arm joint whose ROLE is not 2 (R118-R121 give no meaning to these; log entry 119). -/
def rigCheck4 (r : Rig) : Bool :=
  let n := r.links.length
  let l0 := r.link 0
  let l1 := r.link 1
  let moving := r.links.filter fun l => l.jointType != 0
  let lift := if r.lift = 1 then
      let d := mulV l1.originR l1.axis
      decide (2 ≤ n) && l1.parent == 0 && l1.jointType == 2 && l1.jointIdx == 1 && (r.joint 1).role == 1
        && at0 d 0 == 0 && at0 d 1 == 0 && decide (at0 d 2 > 0)
    else true
  let arms := (List.range r.arms).all fun a =>
    ((List.range n).filter fun i => i != 0 && (r.link i).arm == a + 1 && r.onBase (r.link i).parent).length == 1
  l0.parent == 255 && l0.jointType == 2 && l0.jointIdx == 0 && l0.originT == [0, 0, 0] && l0.originR == ident14
    && l0.axis == [16384, 0, 0] && (r.joint 0).type == 2 && (r.joint 0).role == 0
    && ((List.range n).all fun i => i == 0 || decide ((r.link i).parent < i))
    && (r.links.all fun l => decide (l.jointType ≤ 2) && (l.jointType != 0 || l.jointIdx == 255))
    && moving.length == r.dof && ((List.range r.dof).all fun j => moving.any fun l => l.jointIdx == j)
    && (moving.all fun l => (r.joint l.jointIdx).type == l.jointType)
    && ((List.range r.dof).all fun j => j == 0 || (j == 1 && r.lift == 1) || (r.joint j).role == 2)
    && lift && arms && ((List.range n).all r.armOk) && (List.range n).all fun i => decide (r.depth i ≤ 12)

/-- A Q2.14 vector has unit length within 2^-12. -/
def unit14 (v : List Int) : Bool := decide ((vDot v v - 2 ^ 28).natAbs ≤ 2 ^ 16)
/-- Two Q2.14 vectors are orthogonal within 2^-12. -/
def ortho14 (a b : List Int) : Bool := decide ((vDot a b).natAbs ≤ 2 ^ 16)

/-- Check 5. -/
def rigCheck5 (r : Rig) : Bool := r.links.all fun l =>
  let m := row l.originR
  (l.jointType == 0 || unit14 l.axis) && unit14 (m 0) && unit14 (m 1) && unit14 (m 2) && ortho14 (m 0) (m 1)
    && ortho14 (m 0) (m 2) && ortho14 (m 1) (m 2)

/-- Check 6. -/
def rigCheck6 (r : Rig) : Bool := r.joints.all fun j =>
  decide (j.posMin < j.posMax ∧ 0 < j.velMax ∧ 0 < j.accMax ∧ 0 < j.jerkMax ∧ 0 < j.stopAcc ∧ j.stopAcc ≤ j.accMax)

/-- Check 7. -/
def rigCheck7 (r : Rig) : Bool :=
  let n := r.links.length
  (r.spheres.all fun s => decide (s.link < n ∧ s.group < r.groups) && r.capsules.any (·.link == s.link))
    && (r.capsules.all fun s => decide (s.link < n ∧ s.group < r.groups)) && r.tools.all fun s => decide (s.link < n)

/-- Check 8. -/
def rigCheck8 (r : Rig) : Bool :=
  (r.pairs.all fun p => decide (p.1 < p.2 ∧ p.2 < r.spheres.length)) && decide r.pairs.Nodup

/-- The distance of a point from the axis of joint link `k`, every joint at 0, rounded up to 1/64 mm (R127). -/
def axisDistance (poses : List Pose) (r : Rig) (k : Nat) (p : List Int) : Nat :=
  let x := poses.getD k ⟨ident30, [0, 0, 0]⟩
  let a := mulV x.rot (r.link k).axis
  let c := vCross (vSub p x.tr) a
  ceilDiv (isqrtCeil (ceilDiv (vSq c) (max 1 (vSq a)))) 65536

/-- Check 9. -/
def rigCheck9 (r : Rig) : Bool :=
  let ps := r.poseZero
  (List.range r.links.length).all fun i =>
    let x := ps.getD i ⟨ident30, [0, 0, 0]⟩
    let anc := r.chain i
    (List.range 32).all fun j =>
      let v := (r.lips.getD i []).getD j 0
      match anc.find? fun k => (r.link k).jointType != 0 && (r.link k).jointIdx == j with
      | none => v == 0
      | some k =>
        if (r.link k).jointType = 2 then v == 65536
        else
          let far := ((r.spheres.filter (·.link == i)).map fun s => axisDistance ps r k (x.point s.centre) + s.radius) ++
            (r.capsules.filter (·.link == i)).map fun s =>
              max (axisDistance ps r k (x.point s.endA)) (axisDistance ps r k (x.point s.endB)) + s.radius
          decide (1 ≤ v ∧ v ≤ 2 ^ 24 ∧ far.foldl max 0 ≤ v)

/-- The first failing check among 2 to 9 of Table 05.5. -/
def rigChecks (b : List Byte) : Option Nat :=
  if !rigCheck2 b then some 2
  else if !rigCheck3 b then some 3
  else
    let r := rigOf b
    if !rigCheck4 r then some 4
    else if !rigCheck5 r then some 5
    else if !rigCheck6 r then some 6
    else if !rigCheck7 r then some 7
    else if !rigCheck8 r then some 8
    else if !rigCheck9 r then some 9
    else none

end Sys2Proof.Machine
end

