-- ==== Sys2Proof/Machine/Nets.lean ====
section
/-!
DEFINITION. Sys2Proof/Machine/Nets.lean: network images (R135-R139) and the proposer operators with their cycles
(R80, R145, R146). A tensor is the list of its stored integers, its last dimension varying fastest; in HEAD and LOCAL it holds 64 rows, one per candidate.
-/
namespace Sys2Proof.Machine

/-! ## Cycles -/

/-- Side of a sub-array (Table 03.8). -/
def subSide (width split : Nat) : Nat := (if width = 2 then 32 else 64) / isqrt split
/-- R80: cycles of an M x K x N operator. -/
def matCycles (width split m k n : Nat) : Nat :=
  let a := max 1 (subSide width split)
  let s := if width = 0 then 2 else 1
  ceilDiv m a * ceilDiv n a * max (ceilDiv k s * isqrt split) 16 + 12

/-- Accumulator width of a format (Table 03.2). -/
def accBits (width : Nat) : Nat := if width = 2 then 48 else 40

/-- Shape number `i` of an operator. A convolution or pool lists kernel, stride, dilation, padding and input size (3 each),
input channels, output size (3), output channels, and how many inputs are stacked. -/
def NetOp.dim (o : NetOp) (i : Nat) : Nat := o.shape.getD i 0
/-- Kernel or window volume. -/
def NetOp.kernel (o : NetOp) : Nat := o.dim 0 * o.dim 1 * o.dim 2
/-- Input channels. -/
def NetOp.cin (o : NetOp) : Nat := o.dim 15
/-- Output positions of a convolution or pool, over the stacked inputs. -/
def NetOp.positions (o : NetOp) : Nat := max 1 (o.dim 20) * (o.dim 16 * o.dim 17 * o.dim 18)
/-- The independent problems of a GEMM, one per sub-array (R79), each M, K, N. -/
def NetOp.problems (o : NetOp) : List (Nat × Nat × Nat) :=
  (List.range (o.shape.length / 3)).map fun i => (o.dim (3 * i), o.dim (3 * i + 1), o.dim (3 * i + 2))

/-- Cycles of an operator on the matrix engine (Table 06.4); `w` is its input width code. -/
def NetOp.cycles (o : NetOp) (w : Nat) : Nat :=
  match o.code with
  | 0x01 => (o.problems.map fun q => matCycles w o.split q.1 q.2.1 q.2.2).foldl max 0
  | 0x02 | 0x03 | 0x04 => matCycles w o.split o.positions (o.kernel * o.cin) (o.dim 19)
  | 0x05 => ceilDiv o.cin o.split * matCycles w o.split o.positions o.kernel 1
  | 0x06 | 0x07 => ceilDiv (o.positions * o.cin * o.kernel) 64 + 12
  | 0x08 | 0x09 | 0x0A => ceilDiv (o.dim 0) 64 + 12
  | 0x0B => 2 * ceilDiv (o.dim 0 * o.dim 1) 64 + 30
  | 0x0C => 3 * ceilDiv (o.dim 0 * o.dim 1) 64 + 48
  | _ => ceilDiv (o.dim 0) 128 + 12

/-! ## Values -/

/-- The descriptor of a tensor. -/
def tensorOf (ts : List TensorDesc) (id : Nat) : TensorDesc :=
  (ts.find? (·.tensorId == id)).getD ⟨2, 0, 0, false, false, -32768, 32767, id⟩

/-- One write-back with the channel's multiplier and shift (R68). DESIGN CHOICE: the channels of an element-wise ADD or MUL
repeat along its elements, and a channel that the image does not list has M = 1 and sh = 0 (log entry 121). -/
def NetOp.store (o : NetOp) (d : TensorDesc) (ch : Nat) (acc : Flagged) : Flagged :=
  let c := o.chans.getD ch (1, 0)
  let r := writeBack d c.1 c.2 acc.1
  (r.1, acc.2 ||| r.2)

/-- The weights of an operator as its MAC operands: each in the format of the inputs (R65), code `w` of Table 03.3. -/
def NetOp.operands (o : NetOp) (w : Nat) : List Int := o.weights.map fun v => (BitVec.ofInt (widthBits w) v).toInt

/-- One problem of a GEMM: rows of `a` by columns of `b` (R67). -/
def NetOp.product (o : NetOp) (w : Nat) (d : TensorDesc) (q : Nat × Nat × Nat) (a b : List Int) : List Flagged :=
  let k := q.2.1
  let n := q.2.2
  (List.range (q.1 * n)).map fun i =>
    o.store d (i % n) (accumulateAll (accBits w) (w == 0)
      ((List.range k).map fun j => at0 a (i / n * k + j) * at0 b (j * n + i % n)))

/-- The problems of a GEMM one after another, each on its own operands (R79). -/
def NetOp.gemm (o : NetOp) (w : Nat) (d : TensorDesc) (a b : List Int) : List Flagged :=
  let run (acc : List Flagged × List Int × List Int) (q : Nat × Nat × Nat) : List Flagged × List Int × List Int :=
    (acc.1 ++ o.product w d q acc.2.1 acc.2.2, acc.2.1.drop (q.1 * q.2.1), acc.2.2.drop (q.2.1 * q.2.2))
  (o.problems.foldl run ([], a, b)).1

/-- The input positions (or none: padding) that an output position reads, in ascending kernel index. -/
def NetOp.taps (o : NetOp) (p : Nat) : List (Option Nat) :=
  let oz := p % o.dim 18
  let oy := p / o.dim 18 % o.dim 17
  let ox := p / (o.dim 18 * o.dim 17) % o.dim 16
  let item := p / (o.dim 18 * o.dim 17 * o.dim 16)
  let ax (i out k : Nat) : Option Nat :=
    let v := out * o.dim (3 + i) + k * o.dim (6 + i)
    if v < o.dim (9 + i) ∨ v - o.dim (9 + i) ≥ o.dim (12 + i) then none else some (v - o.dim (9 + i))
  (List.range o.kernel).map fun i =>
    match ax 0 ox (i / (o.dim 2 * o.dim 1)), ax 1 oy (i / o.dim 2 % o.dim 1), ax 2 oz (i % o.dim 2) with
    | some x, some y, some z => some (((item * o.dim 12 + x) * o.dim 13 + y) * o.dim 14 + z)
    | _, _, _ => none

/-- A convolution. -/
def NetOp.conv (o : NetOp) (w : Nat) (d : TensorDesc) (a : List Int) : List Flagged :=
  let cin := o.cin
  let cout := o.dim 19
  let ws := o.operands w
  (List.range o.positions).flatMap fun p =>
    let ts := o.taps p
    (List.range cout).map fun co =>
      o.store d co (accumulateAll (accBits w) (w == 0) ((List.range (ts.length * cin)).map fun j =>
        match ts.getD (j / cin) none with
        | some x => at0 a (x * cin + j % cin) * at0 ws (j * cout + co)
        | none => 0))

/-- A depthwise convolution. -/
def NetOp.dwconv (o : NetOp) (w : Nat) (d : TensorDesc) (a : List Int) : List Flagged :=
  let c := o.cin
  let ws := o.operands w
  (List.range o.positions).flatMap fun p =>
    let ts := o.taps p
    (List.range c).map fun ch =>
      o.store d ch (accumulateAll (accBits w) (w == 0) ((List.range ts.length).map fun j =>
        match ts.getD j none with
        | some x => at0 a (x * c + ch) * at0 ws (j * c + ch)
        | none => 0))

/-- Pooling: the maximum, converted from its input's FRAC `fin` (R69), or the exact sum through R68. -/
def NetOp.pool (o : NetOp) (w : Nat) (d : TensorDesc) (fin : Int) (a : List Int) (isMax : Bool) : List Flagged :=
  let c := o.cin
  (List.range o.positions).flatMap fun p =>
    let vs (ch : Nat) := (o.taps p).filterMap fun t => t.map fun x => at0 a (x * c + ch)
    (List.range c).map fun ch =>
      if isMax then convert d fin (maxD 0 (vs ch)) else o.store d ch (treeSum (accBits w) accSat (vs ch))

/-- TABLE on one value (R146). -/
def NetOp.tableAt (o : NetOp) (w : Nat) (x : Int) : Int :=
  let e := at0 o.table
  if w = 1 then e (x + 128).toNat
  else
    let i := (x / 256 + 128).toNat
    e i + shiftRound ((e (min (i + 1) 255) - e i) * (x % 256)) 8 rne

/-- SOFTMAX of one vector (R146; log entry 8). DESIGN CHOICE: its sum tree saturates at 48 bits for S8 and S16 inputs alike,
since its operands are table entries of neither format (R77), and a saturating quotient raises CORE_SAT, since R75 names
GEOM_SAT for the STS alone (log entry 120). DESIGN CHOICE: the difference of two S16 values is scaled to S8 by FLOOR at 2^8, the
table's entry 255 stands at difference 0, and the quotient has 15 fraction bits for every FRAC of the output (log entry 8). -/
def softmaxVec (w : Nat) (d : TensorDesc) (v : List Int) : List Flagged :=
  let m := maxD 0 v
  let idx (x : Int) : Nat := ((if w = 1 then x - m else (x - m) / 256) + 255).toNat
  let es := v.map fun x => Config.expTable (idx x)
  let total := treeSum 48 accSat es
  es.map fun e =>
    let q := dsuDiv coreSat e total.1 15 rne
    let r := writeBack d 1 0 q.1
    (r.1, q.2 ||| total.2 ||| r.2)

/-- LAYERNORM of one vector (R146; log entry 27): mean and variance from the exact sums of the elements and of their squares;
the offsets stand in the weights. DESIGN CHOICE: a saturating DSU result raises CORE_SAT, as in SOFTMAX (log entry 120). -/
def NetOp.layerNorm (o : NetOp) (w : Nat) (d : TensorDesc) (v : List Int) : List Flagged :=
  let n : Int := v.length
  let f := Config.layerNormFrac
  let s1 := treeSum (accBits w) accSat v
  let s2 := treeSum (accBits w) accSat (v.map fun x => x * x)
  let mean := dsuDiv coreSat s1.1 n (f 0) rne
  let num := n * s2.1 - s1.1 * s1.1
  let var := if sat 32 num = num then dsuDiv coreSat num (n * n) (f 1) rne
    else saturate 32 coreSat (Config.layerNormWide num (n * n))
  let sd := dsuSqrt coreSat var.1 (f 2) rne
  let inv := dsuDiv coreSat 1 sd.1 (f 3) rne
  let fl := s1.2 ||| s2.2 ||| mean.2 ||| var.2 ||| sd.2 ||| inv.2
  (List.range v.length).map fun i =>
    let acc := saturate (accBits w) accSat ((at0 v i * 2 ^ f 0 - mean.1) * inv.1 + at0 o.weights i)
    let r := o.store d i acc
    (r.1, r.2 ||| fl)

/-- Cuts a tensor into rows. -/
def rowsOf (v : List Int) (n : Nat) : List (List Int) :=
  (List.range (v.length / max 1 n)).map fun i => (v.drop (i * n)).take n

/-- CONCAT joins the inputs row by row; each element is converted from its input's FRAC (R69). -/
def NetOp.concat (o : NetOp) (d : TensorDesc) (fracs : List Int) (ins : List (List Int)) : List Flagged :=
  let rows := max 1 (o.dim 1)
  (List.range rows).flatMap fun r => (List.range ins.length).flatMap fun i =>
    let v := ins.getD i []
    let n := v.length / rows
    ((v.drop (r * n)).take n).map (convert d (at0 fracs i))

/-- The output of an operator from its input tensors; `ds` are their descriptors. -/
def NetOp.eval (o : NetOp) (d : TensorDesc) (ds : List TensorDesc) (ins : List (List Int)) : List Flagged :=
  let w := ((ds.head?).map (·.width)).getD 2
  let fracs := ds.map (·.frac)
  let a := ins.getD 0 []
  let b := ins.getD 1 []
  let each (f : Int → Int → Int) := (List.range a.length).map fun i =>
    o.store d (i % max 1 o.chans.length) (f (at0 a i) (at0 b i), 0)
  match o.code with
  | 0x01 => o.gemm w d a (if ins.length > 1 then b else o.operands w)
  | 0x02 | 0x03 | 0x04 => o.conv w d a
  | 0x05 => o.dwconv w d a
  | 0x06 => o.pool w d (at0 fracs 0) a true
  | 0x07 => o.pool w d (at0 fracs 0) a false
  | 0x08 => each (· + ·)
  | 0x09 => each (· * ·)
  | 0x0A => a.map fun x => writeBack d 1 0 (o.tableAt w x)
  | 0x0B => (rowsOf a (o.dim 1)).flatMap (softmaxVec w d)
  | 0x0C => (rowsOf a (o.dim 1)).flatMap (o.layerNorm w d)
  | _ => o.concat d fracs ins

/-- The tensors of a graph as written so far, newest first, each value with the flags raised while it was formed. -/
abbrev Tensors := List (Nat × List Flagged)

/-- All flags raised. -/
def Tensors.flags (t : Tensors) : Nat := t.foldl (fun a e => a ||| (collect e.2).2) 0
/-- The number of range-guard hits. -/
def Tensors.guards (t : Tensors) : Nat := sumN (t.map fun e => (e.2.filter fun v => bit v.2 4).length)
/-- The flags raised in row `j` of the `n` rows that every tensor holds. -/
def Tensors.rowFlags (t : Tensors) (n j : Nat) : Nat :=
  t.foldl (fun a e => let k := e.2.length / n; a ||| (collect ((e.2.drop (j * k)).take k)).2) 0

/-- The values of a tensor, or of the columns of one. -/
def NetGraph.value (g : NetGraph) (t : Tensors) (id : Nat) : List Int :=
  match g.views.find? (·.1 == id) with
  | some (_, src, len, first, n) => (rowsOf ((lookupD [] src t).map (·.1)) len).flatMap fun r => (r.drop first).take n
  | none => (lookupD [] id t).map (·.1)

/-- Runs a graph's operators in order from its filled roles. -/
def runGraph (ts : List TensorDesc) (g : NetGraph) (filled : Tensors) : Tensors :=
  g.ops.foldl (init := filled) fun t o =>
    (o.out, o.eval (tensorOf ts o.out) (o.ins.map (tensorOf ts)) (o.ins.map (g.value t))) :: t

/-- The tensor of a role of a graph. -/
def NetGraph.role? (g : NetGraph) (r : Nat) : Option Nat := (g.roles.find? (·.1 == r)).map (·.2)
/-- The values of a role after a run. -/
def NetGraph.read (g : NetGraph) (r : Nat) (t : Tensors) : List Int :=
  match g.role? r with
  | some id => g.value t id
  | none => []
/-- Role codes of Table 06.3, in the order of its rows. -/
abbrev roleFeature : Nat := 0
abbrev roleStart : Nat := 1
abbrev roleGoal : Nat := 2
abbrev rolePrev : Nat := 3
abbrev rolePrevValid : Nat := 4
abbrev roleMovers : Nat := 5
abbrev roleContextOut : Nat := 6
abbrev roleContextIn : Nat := 7
abbrev roleNoise : Nat := 8
abbrev roleWindow : Nat := 9
abbrev roleCp : Nat := 10
abbrev roleProb : Nat := 11

/-- Fills roles: (role, values with the flags of their forming). The range guard checks what ENCODE and SEED write, and every
element of a HOST_INPUT tensor as it lands (R72, Table 06.4; log entry 56). -/
def NetGraph.fill (g : NetGraph) (ts : List TensorDesc) (l : List (Nat × List Flagged)) : Tensors :=
  l.filterMap fun e => (g.role? e.1).map fun id =>
    let d := tensorOf ts id
    let guard (v : Flagged) : Flagged := let r := rangeGuard d v.1; (r.1, v.2 ||| r.2)
    (id, if d.hostInput || e.1 == roleFeature || e.1 == roleNoise then e.2.map guard else e.2)

/-! ## Load checks (Table 06.2) -/

/-- A format descriptor (Table 03.3). -/
def descRec (b : List Byte) : TensorDesc := {
  width := getU b 0 1, frac := getS b 1 1, round := getU b 2 1, certified := bit (getU b 3 1) 0,
  hostInput := bit (getU b 3 1) 1, lo := getS b 4 4, hi := getS b 8 4, tensorId := getU b 12 2 }

/-- A descriptor is legal (R71, R74). -/
def tensorOk (b : List Byte) : Bool :=
  let d := descRec b
  decide (d.width ≤ 3 ∧ -32 ≤ d.frac ∧ d.frac ≤ 32 ∧ d.round ≤ 2 ∧ getU b 3 1 < 4 ∧ d.lo ≤ d.hi)
    && decide (fmtMin (widthBits d.width) ≤ d.lo ∧ d.hi ≤ fmtMax (widthBits d.width)) && allZero (slice b 14 2)
    && !(d.certified && d.round == 0)

/-- The header fields of a network image (Table 06.1); graphs and tensors are put in at load. -/
def netHeader (b : List Byte) : Net := {
  netId := getU b 16 4, dof := getU b 20 1, ncp := getU b 21 1, components := getU b 22 1, moversN := getU b 23 1,
  noiseDim := getU b 24 1, fvPitch := getU b 25 1, fvShift := getU b 26 1, localGraph := getU b 27 1 == 1,
  fvDims := [getU b 28 1, getU b 29 1, getU b 30 1], fvOrigin := getSs b 32 4 3, weightBytes := getU b 48 4,
  ctxWeightBytes := getU b 52 4, aMax := getU b 56 4, ctxCycles := getU b 60 4, headCycles := getU b 64 4,
  localCycles := getU b 68 4 }

/-- Check 2. -/
def netCheck2 (b : List Byte) : Bool :=
  getU b 0 4 == 0x54454E53 && getU b 4 1 == 3 && getU b 5 1 == 1 && getU b 156 4 == crc32c (b.take 156)
    && sectionsOk b 72 112 5

/-- Check 3. -/
def netCheck3 (b : List Byte) : Bool :=
  let n := netHeader b
  let r (v lo hi : Nat) := decide (lo ≤ v ∧ v ≤ hi)
  r n.dof 1 32 && r n.ncp 4 16 && r n.components 1 16 && r n.moversN 0 64 && r n.noiseDim 0 248 && n.noiseDim % 8 == 0
    && r n.fvPitch 0 2 && r n.fvShift 0 8 && r (getU b 27 1) 0 1 && r (n.fvDims.getD 0 0) 1 32
    && r (n.fvDims.getD 1 0) 1 32 && r (n.fvDims.getD 2 0) 1 16 && r (getU b 44 2) 1 512 && r (getU b 46 2) 1 1024
    && r n.weightBytes 0 268435456 && r n.ctxWeightBytes 0 n.weightBytes && r n.aMax 1 4096
    && (n.localGraph || n.localCycles == 0) && allZero (slice b 6 2) && allZero (slice b 31 1) && allZero (slice b 132 24)

/-- The descriptor records of an image. -/
def netDescs (b : List Byte) : List (List Byte) := recordsOf (sectionOf b 72 1) 16 (getU b 46 2)

/-- Check 4. -/
def netCheck4 (b : List Byte) : Bool :=
  (sectionOf b 72 1).length == 16 * getU b 46 2 && (netDescs b).all tensorOk

/-- An operator's formats and limits (R65, Table 06.4) on inputs `ds` and output `d`. -/
def NetOp.ok (o : NetOp) (ds : List TensorDesc) (d : TensorDesc) : Bool :=
  let r (v lo hi : Nat) := decide (lo ≤ v ∧ v ≤ hi)
  let w := ((ds.head?).map (·.width)).getD 3
  let oneWidth := ds.all (·.width == w)
  let conv (k : Nat) := (List.range 3).all fun i => r (o.dim i) 1 k
  let strides := (List.range 6).all fun i => r (o.dim (3 + i)) 1 4
  let mat := [1, 4, 16, 64].contains o.split && decide (w ≤ 2 ∧ d.width ≤ 2) && oneWidth
  let narrow := r w 1 2 && r d.width 1 2 && oneWidth
  let ch := o.chans.all fun c => r c.1 1 65535 && r c.2 0 63
  let longest := if w = 2 then 131071 else if w = 1 then 33554431 else 8589934591
  ch && match o.code with
  | 0x01 => mat && r o.problems.length 1 o.split &&
      o.problems.all fun q => r q.1 1 65536 && r q.2.1 1 longest && r q.2.2 1 65536
  | 0x02 => mat && r (o.dim 0) 1 15 && o.dim 1 == 1 && o.dim 2 == 1 && strides
  | 0x03 => mat && conv 7 && o.dim 2 == 1 && strides
  | 0x04 => mat && conv 5 && strides
  | 0x05 => mat && (conv 5 || (conv 7 && o.dim 2 == 1) || (r (o.dim 0) 1 15 && o.dim 1 == 1 && o.dim 2 == 1)) && strides
  | 0x06 | 0x07 => narrow && conv 4 && (List.range 3).all fun i => r (o.dim (3 + i)) 1 4
  | 0x08 => narrow && ds.all fun x => ds.all fun y => x.frac == y.frac
  | 0x09 => narrow
  | 0x0A => narrow && o.table.length == 256
  | 0x0B => r w 1 2 && d.width == 2 && r (o.dim 1) 1 1024
  | 0x0C => narrow && r (o.dim 1) 1 4096
  | 0x0D => oneWidth && d.width == w
  | _ => false

/-- A graph's operators are legal. -/
def NetGraph.opsOk (ts : List TensorDesc) (g : NetGraph) : Bool :=
  g.ops.all fun o => o.ok (o.ins.map (tensorOf ts)) (tensorOf ts o.out)

/-- A role of Table 06.3: its code, its element counts, its widths and, where one is given, its FRAC. -/
abbrev RoleRow := Nat × (Nat × Nat) × List Nat × Option Int

/-- The elements of a tensor of a graph. -/
def NetGraph.size (g : NetGraph) (id : Nat) : Nat := lookupD 0 id g.sizes

/-- Each listed role is bound to a tensor of its shape, width and FRAC; a role without elements needs none. -/
def NetGraph.rolesOk (ts : List TensorDesc) (g : NetGraph) (want : List RoleRow) : Bool :=
  want.all fun r => r.2.1.2 == 0 || match g.role? r.1 with
    | none => false
    | some id => match ts.find? (·.tensorId == id) with
      | none => false
      | some d => decide (r.2.1.1 ≤ g.size id ∧ g.size id ≤ r.2.1.2) && r.2.2.1.contains d.width &&
          (r.2.2.2.map fun f => d.frac == f).getD true

/-- The role table of CONTEXT. -/
def Net.contextRoles (n : Net) : List RoleRow :=
  let dim (i : Nat) := n.fvDims.getD i 0
  let one (k : Nat) : Nat × Nat := (k, k)
  [(roleFeature, one (dim 0 * dim 1 * dim 2 * 4), [1], none), (roleStart, one n.dof, [2], some 15),
   (roleGoal, one n.dof, [2], some 15), (rolePrev, one (n.ncp * n.dof), [2], some 15), (rolePrevValid, one 1, [2], none),
   (roleMovers, one (n.moversN * 8), [2], none), (roleContextOut, (1, 1024), [1, 2], none)]

/-- The tensor CONTEXT_OUT of an image, with its elements. -/
def Net.contextOut (n : Net) : TensorDesc × Nat :=
  let id := (n.context.role? roleContextOut).getD 0
  (tensorOf n.tensors id, n.context.size id)

/-- The role table of HEAD and LOCAL: 64 rows of each shape, one per candidate of a block (R139). -/
def Net.headRoles (n : Net) (isLocal : Bool) : List RoleRow :=
  let c := n.contextOut
  let rows (k : Nat) : Nat × Nat := (64 * k, 64 * k)
  [(roleContextIn, rows c.2, [c.1.width], some c.1.frac), (roleNoise, rows n.noiseDim, [1], some 0),
   (roleCp, rows (n.components * n.ncp * n.dof), [2], some 15), (roleProb, rows n.components, [2], some 15)]
    ++ (if isLocal then [(roleWindow, rows (n.ncp * n.dof + n.ncp), [2], some 15)] else [])

/-- The last operator of a graph that has PROB is SOFTMAX. -/
def NetGraph.lastSoftmax (g : NetGraph) : Bool := (g.ops.getLast?.map (·.code == 0x0B)).getD false

/-- Cycles of a graph. -/
def NetGraph.cycles (ts : List TensorDesc) (g : NetGraph) : Nat :=
  sumN (g.ops.map fun o => o.cycles (tensorOf ts (o.ins.headD 0)).width)

/-- The network of an image, where its sections read (check 5; log entry 9). -/
def netOf (b : List Byte) : Option Net :=
  (Config.netSections ((List.range 5).map (sectionOf b 72))).map fun g =>
    { netHeader b with tensors := (netDescs b).map descRec, context := g.1, head := g.2.1, localG := g.2.2 }

/-- Check 5. -/
def netCheck5 (n : Net) : Bool :=
  let heads (g : NetGraph) (l : Bool) := g.opsOk n.tensors && g.rolesOk n.tensors (n.headRoles l) && g.lastSoftmax
  n.context.opsOk n.tensors && n.context.rolesOk n.tensors n.contextRoles && heads n.head false
    && (!n.localGraph || heads n.localG true)

/-- Check 6: the image's cycles are those of its operators; ENCODE's are part of CTX_CYCLES. -/
def netCheck6 (n : Net) : Bool :=
  let points := n.fvDims.getD 0 0 * n.fvDims.getD 1 0 * n.fvDims.getD 2 0
  n.ctxCycles == n.context.cycles n.tensors + (ceilDiv points 16 + 12) && n.headCycles == n.head.cycles n.tensors
    && n.localCycles == (if n.localGraph then n.localG.cycles n.tensors else 0)

/-- The first failing check among 2 to 6 of Table 06.2, or the network. -/
def netChecks (b : List Byte) : Sum Nat Net :=
  if !netCheck2 b then .inl 2
  else if !netCheck3 b then .inl 3
  else if !netCheck4 b then .inl 4
  else match netOf b with
    | none => .inl 5
    | some n => if !netCheck5 n then .inl 5 else if !netCheck6 n then .inl 6 else .inr n

end Sys2Proof.Machine
end

