-- ==== Sys2Proof/Machine/WorldMem.lean ====
section
/-!
DEFINITION. Sys2Proof/Machine/WorldMem.lean: the world region of HBM (R83-R93, R101-R103, R108, R114): directory, fine
maps, pan headers and payloads, handle allocation, and the world image's sections (R338).
-/
namespace Sys2Proof.Machine

/-! ## Addresses (Table 04.11) -/

/-- Payload of a handle. -/
def payloadAddr (h : Nat) : Nat := 32768 * h
/-- Header of a handle. -/
def headerAddr (h : Nat) : Nat := 0x9B0000000 + 64 * h
/-- A directory entry by index. -/
def dirAddr (i : Nat) : Nat := 0x9B5000000 + 8 * i
/-- An entry of a fine map. -/
def fineAddr (m i : Nat) : Nat := 0x9BC000000 + 16384 * m + 4 * i
/-- A segment record of world `w`. -/
def segmentAddr (w i : Nat) : Nat := 0x9CC000000 + w * 0x40000 + 64 * i
/-- Row `i` of the mover table of world `w`; its urgent slots stand behind the 1,024 rows (log entry 122). -/
def moverAddr (w i : Nat) : Nat := 0x9CC100000 + w * 99840 + 96 * i
/-- The workcell record of an ID. -/
def workcellAddr (id : Nat) : Nat := 0x9CC200000 + 32 * id
/-- DIST_BUILD output of pan `k` of a box (log entry 122). -/
def distAddr (box k : Nat) : Nat := 0x9CC300000 + (box * 8 + k) * 32832
/-- Handles of the pool. -/
abbrev handleCount : Nat := 1269760
/-- Fine maps of the device. -/
abbrev fineMapCount : Nat := 16384
/-- Directory slices of the device. -/
abbrev sliceCount : Nat := 28672

/-! ## Cells -/

/-- A segment of a world. -/
def World.seg (w : World) (i : Nat) : Segment := w.segments.getD i ⟨0, 0, [], true, 0, 0⟩
/-- The cell exists in the world. -/
def World.hasCell (w : World) (c : Cell) : Bool :=
  w.loaded && decide (c.seg < w.segments.length ∧ c.slice < (w.seg c.seg).dirSlices ∧ c.iv < 16 ∧ c.iu < 32)
/-- A cell of the overhang slice before the first segment or after the last one: outside the world (R86). -/
def World.overhang (w : World) (c : Cell) : Bool :=
  (c.seg == 0 && c.slice == 0) || (c.seg + 1 == w.segments.length && c.slice + 1 == (w.seg c.seg).dirSlices)
/-- The cell exists and lies in the world's s cover. -/
def World.holdsCell (w : World) (c : Cell) : Bool := w.hasCell c && !w.overhang c
/-- Directory index (R88). -/
def World.dirIndex (w : World) (c : Cell) : Nat := ((w.seg c.seg).dirBase + c.slice) * 512 + c.iv * 32 + c.iu

/-- A directory entry (Table 04.2). -/
def State.dirEntry (s : State) (i : Nat) : Nat := ofLE (Mem.readBytes s.hbm (dirAddr i) 8)
/-- KIND of an entry: 0 FAR, 1 COARSE, 2 COARSE_FINE. -/
def dirKind (e : Nat) : Nat := e / 2 ^ 62
/-- HANDLE. -/
def dirHandle (e : Nat) : Nat := e % 2 ^ 21
/-- FLOOR_MM of a FAR entry. -/
def dirFloor (e : Nat) : Nat := e % 2 ^ 15
/-- FINE_MAP. -/
def dirFine (e : Nat) : Nat := bits e 21 16
/-- An entry from its fields. -/
def dirOf (kind fine low : Nat) : Nat := kind * 2 ^ 62 + fine * 2 ^ 21 + low
/-- An entry of a fine map (R90). -/
def State.fineEntry (s : State) (m i : Nat) : Nat := ofLE (Mem.readBytes s.hbm (fineAddr m i) 4)
/-- PRESENT of a fine-map entry. -/
def finePresent (e : Nat) : Bool := bit e 31

/-- Writes HBM bytes. -/
def State.hbmWrite (a : Nat) (bs : List Byte) (s : State) : State := s.modHbm (Mem.writeBytes a bs)
/-- Marks a coarse cell dirty in its world (R113). -/
def State.markDirty (w i : Nat) (s : State) : State := s.modWd w fun x => { x with dirty := insertAsc i x.dirty }
/-- Writes a directory entry of a world. -/
def State.setDir (w i e : Nat) (s : State) : State := (s.hbmWrite (dirAddr i) (le 8 e)).markDirty w i
/-- Writes a fine-map entry. -/
def State.setFine (m i e : Nat) (s : State) : State := s.hbmWrite (fineAddr m i) (le 4 e)

/-! ## Handles (R108) -/

/-- Allocates the lowest free handle. -/
def State.takeHandle (s : State) : Nat × State :=
  let used := s.worlds.allocated
  let h := leastFree used 0 (used.length + 1)
  (h, s.modWorlds fun x => { x with allocated := insertAsc h x.allocated })
/-- How many handles are free. -/
def State.freeHandles (s : State) : Nat :=
  handleCount - s.worlds.allocated.length
/-- A handle is freed: it can be taken again from the next frame open on, at once in IDLE (R108, R483). -/
def State.freeHandle (h : Nat) (s : State) : State :=
  if s.frame.devState = 0 then s.modWorlds fun x => { x with allocated := x.allocated.filter (· != h) }
  else s.modWorlds fun x => { x with freeing := insertAsc h x.freeing }

/-! ## Pans (R91-R94) -/

/-- A pan's header and payload. -/
def State.panHeader (s : State) (h : Nat) : List Byte := Mem.readBytes s.hbm (headerAddr h) 64
/-- Payload bytes of a pan. -/
def State.panPayload (s : State) (h : Nat) : List Byte := Mem.readBytes s.hbm (payloadAddr h) 32768
/-- Stored sample of class `c` of voxel `i`. -/
def sampleOf (payload : List Byte) (i c : Nat) : Int := getS payload (8 * i + 2 * c) 2
/-- The least stored sample of a class. -/
def minClear (payload : List Byte) (c : Nat) : Int :=
  minD 0 ((recordsOf payload 8 4096).map fun v => getS v (2 * c) 2)

/-- The address part of a pan header, bytes 0 and 2 to 11, for a cell. -/
def headAddr (a : CellAddr) (flags : Nat) : List Byte :=
  le 1 (flag a.fine 0) ++ le 1 flags ++ le 2 a.cell.seg ++ le 4 a.cell.slice ++ le 1 a.cell.iu ++ le 1 a.cell.iv ++
    le 2 a.idx

/-- The header of a pan (R93): device fields set from the content. `build` holds the DIST_BUILT and TOOL_BUILT bits of FLAGS,
`crc` the PAYLOAD_CRC. -/
def panHead (gen : Nat) (a : CellAddr) (build snapshot seq interp crc : Nat) (payload : List Byte) : List Byte :=
  let mins := (List.range 4).map (minClear payload)
  let flags := flag (decide (at0 mins 1 ≤ 0)) 0 + flag (decide (at0 mins 3 ≤ 0)) 1 + build
  let head := headAddr a flags ++ le 4 gen ++ le 8 snapshot ++ le 4 seq ++ le 2 interp ++ zeros 2 ++
    (mins.flatMap fun m => leS 2 m) ++ zeros 16 ++ le 4 crc
  head ++ le 4 (crc32c head)

/-- Writes a pan (R93): GENERATION one more than before. -/
def State.panWrite (h : Nat) (a : CellAddr) (build snapshot seq interp crc : Nat) (payload : List Byte) (s : State) :
    State :=
  let gen := (getU (s.panHeader h) 12 4 + 1) % 2 ^ 32
  (s.hbmWrite (payloadAddr h) payload).hbmWrite (headerAddr h) (panHead gen a build snapshot seq interp crc payload)

/-- The bad mark of a handle is removed: brine writes its pan again (R422). -/
def State.goodHandle (h : Nat) (s : State) : State :=
  s.modWorlds fun x => { x with badHandles := x.badHandles.filter (· != h) }

/-- Brine writes a pan: as `panWrite`, and its handle is good again. -/
def State.brinePan (h : Nat) (a : CellAddr) (build snapshot seq interp crc : Nat) (payload : List Byte) (s : State) :
    State :=
  (s.panWrite h a build snapshot seq interp crc payload).goodHandle h

/-- The handle of the pan at an address, where there is one. -/
def State.panAt (s : State) (w : Nat) (a : CellAddr) : Option Nat :=
  let x := s.wd w
  if x.hasCell a.cell then
    let e := s.dirEntry (x.dirIndex a.cell)
    if a.fine then
      (if dirKind e = 2 then
        let f := s.fineEntry (dirFine e) a.idx
        if finePresent f then some (f % 2 ^ 21) else none
      else none)
    else if dirKind e = 0 then none else some (dirHandle e)
  else none

/-! ## Workcells (R101-R103) -/

/-- A cell lies in a workcell's box. -/
def Workcell.has (k : Workcell) (w : Nat) (c : Cell) : Bool :=
  k.world == w && k.segment == c.seg && decide (k.sliceLo ≤ c.slice ∧ c.slice ≤ k.sliceHi ∧ k.iuLo ≤ c.iu ∧ c.iu ≤ k.iuHi)
    && decide (k.ivLo ≤ c.iv ∧ c.iv ≤ k.ivHi)
/-- Two boxes share a cell. -/
def Workcell.overlaps (a b : Workcell) : Bool :=
  a.world == b.world && a.segment == b.segment && decide (a.sliceLo ≤ b.sliceHi ∧ b.sliceLo ≤ a.sliceHi)
    && decide (a.iuLo ≤ b.iuHi ∧ b.iuLo ≤ a.iuHi ∧ a.ivLo ≤ b.ivHi ∧ b.ivLo ≤ a.ivHi)
/-- The cells of a workcell in directory-index order. -/
def Workcell.list (k : Workcell) : List Cell :=
  (List.range (k.sliceHi + 1 - k.sliceLo)).flatMap fun sl =>
    (List.range (k.ivHi + 1 - k.ivLo)).flatMap fun v =>
      (List.range (k.iuHi + 1 - k.iuLo)).map fun u => ⟨k.segment, k.sliceLo + sl, k.ivLo + v, k.iuLo + u⟩
/-- Number of cells of a box. -/
def Workcell.count (k : Workcell) : Nat :=
  (k.sliceHi + 1 - k.sliceLo) * (k.ivHi + 1 - k.ivLo) * (k.iuHi + 1 - k.iuLo)

/-- The record of a workcell with its STATE (Table 04.7). -/
def Workcell.bytes (k : Workcell) (state : Nat) : List Byte :=
  let b := le 1 k.id ++ le 1 state ++ le 1 k.world ++ [0] ++ le 2 k.segment ++ zeros 2 ++ le 4 k.sliceLo ++ le 4 k.sliceHi ++
    le 1 k.iuLo ++ le 1 k.iuHi ++ le 1 k.ivLo ++ le 1 k.ivHi ++ le 2 k.fineMapBase ++ le 2 k.cells ++ zeros 4
  b ++ le 4 (crc32c b)

/-- Writes a workcell's record into the workcell table (R102). -/
def State.putWorkcell (state : Nat) (s : State) (k : Workcell) : State :=
  s.hbmWrite (workcellAddr k.id) (k.bytes state)

/-- The lowest base at which `n` fit among used ranges below a limit: 0, or the end of a used range. -/
def lowestFit (used : List (Nat × Nat)) (n limit : Nat) : Option Nat :=
  let clear (b : Nat) := decide (b + n ≤ limit) && used.all fun r => decide (b + n ≤ r.1 ∨ r.1 + r.2 ≤ b)
  (sortBy (fun a b => decide (a < b)) (0 :: used.map fun r => r.1 + r.2)).find? clear
/-- Fine maps in use, as ranges. -/
def State.fineUsed (s : State) : List (Nat × Nat) := s.worlds.workcells.map fun k => (k.fineMapBase, k.cells)
/-- Directory slices in use, as ranges. -/
def State.sliceUsed (s : State) : List (Nat × Nat) :=
  (s.worlds.ws.filter (·.loaded)).map fun w => (w.dirBase, w.dirSlices)

/-- Frees the fine pans of a fine map and clears its entries. -/
def State.clearFineMap (m : Nat) (s : State) : State :=
  let held := (List.range 4096).filterMap fun i =>
    let e := s.fineEntry m i
    if finePresent e then some (e % 2 ^ 21) else none
  (held.foldl (init := s) fun s h => s.freeHandle h).hbmWrite (fineAddr m 0) (zeros 16384)

/-- The whole of a world's coarse cells, by directory index. -/
def World.dirRange (w : World) : List Nat := (List.range (w.dirSlices * 512)).map fun i => w.dirBase * 512 + i

/-- A world is emptied: its pans, fine maps and directory are freed (R337, R372). -/
def State.emptyWorld (w : Nat) (s : State) : State :=
  let x := s.wd w
  if x.loaded then
    let s := (s.worlds.workcells.filter (·.world == w)).foldl (init := s) fun s k =>
      (List.range k.cells).foldl (init := s) fun s i => s.clearFineMap (k.fineMapBase + i)
    let s := x.dirRange.foldl (init := s) fun s i =>
      let e := s.dirEntry i
      let s := if dirKind e = 0 then s else s.freeHandle (dirHandle e)
      s.hbmWrite (dirAddr i) (zeros 8)
    let gone := s.worlds.workcells.filter (·.world == w)
    let s := gone.foldl (State.putWorkcell 0) s
    let s := (s.hbmWrite (segmentAddr w 0) (zeros (64 * x.segments.length))).hbmWrite (moverAddr w 0) (zeros 99840)
    (s.modWorlds fun y => { y with workcells := y.workcells.filter (·.world != w) }).modWd w fun _ => {}
  else s

/-! ## The world image (R338) -/

/-- Section lengths of a world image: segments, directory, workcells, fine maps, pans. -/
def worldLens (b : List Byte) : List Nat :=
  [64 * getU b 20 2, 4096 * getU b 40 4, 32 * getU b 22 1, 16384 * getU b 36 2, 32832 * getU b 32 4]
/-- Section `i`. -/
def worldSection (b : List Byte) (i : Nat) : List Byte :=
  slice b (64 + sumN ((worldLens b).take i)) ((worldLens b).getD i 0)

/-- Check 2. -/
def worldCheck2 (b : List Byte) : Bool :=
  getU b 0 4 == 0x444C5753 && getU b 4 1 == 1 && getU b 5 1 == 1 && getU b 60 4 == crc32c (b.take 60)
    && b.length == 64 + sumN (worldLens b) && getU b 56 4 == crc32c (b.drop 64)
    && decide (1 ≤ getU b 20 2 ∧ getU b 20 2 ≤ 4096 ∧ getU b 22 1 ≤ 64 ∧ getU b 36 2 ≤ 16384)
    && allZero (slice b 6 2) && allZero (slice b 23 1) && allZero (slice b 38 2) && allZero (slice b 44 12)

/-- A segment record (Table 04.1). -/
def segRec (b : List Byte) : Segment := {
  sStart := getS b 0 4, length := getU b 4 4, nextRot := getSs b 8 2 9, last := bit (getU b 26 2) 0,
  dirBase := getU b 28 4, dirSlices := getU b 32 4 }

/-- The angle between this segment's direction and the next one's is at most 0.02 rad: the cosine, NEXT_ROT's first
entry over the length of its first column, is at least 1 - 0.0002 (cos 0.02 = 0.99980001; log entry 28). -/
def deflectionOk (m : List Int) : Bool :=
  let c := col m 0
  decide (at0 c 0 > 0 ∧ (at0 c 0) ^ 2 * 10 ^ 16 ≥ vDot c c * 9996000533295556)

/-- Check 3: R83 and R85. DESIGN CHOICE: it also refuses a LAST bit or a NEXT_ROT of the last segment that is not as
Table 04.1 states it, which R85 does not list (log entry 119). -/
def worldCheck3 (b : List Byte) : Bool :=
  let rs := recordsOf (worldSection b 0) 64 (getU b 20 2)
  let ss := rs.map segRec
  let n := ss.length
  let at_ (i : Nat) := ss.getD i ⟨0, 0, [], true, 0, 0⟩
  (rs.all fun r => getU r 60 4 == crc32c (r.take 60) && allZero (slice r 36 24) && decide (getU r 26 2 < 2))
    && (ss.all fun x => decide (262144 ≤ x.length ∧ x.length ≤ 65536000) && x.dirSlices == ceilDiv x.length 65536 + 2)
    && (at_ 0).sStart == 0 && (at_ 0).dirBase == 0
    && decide ((at_ (n - 1)).sStart + (at_ (n - 1)).length ≤ 20000 * 64000)
    && ((List.range n).all fun i =>
      (at_ i).last == (i + 1 == n) && (if i + 1 = n then (at_ i).nextRot.all (· == 0) else
        deflectionOk (at_ i).nextRot && (at_ (i + 1)).sStart == (at_ i).sStart + (at_ i).length
          && (at_ (i + 1)).dirBase == (at_ i).dirBase + (at_ i).dirSlices))
    && sumN (ss.map (·.dirSlices)) == getU b 40 4

/-- A pan header's reserved fields are 0. -/
def panReservedOk (p : List Byte) : Bool :=
  allZero (slice p 30 2) && allZero (slice p 40 16) && decide (getU p 1 1 < 16)

/-- A workcell record (Table 04.7) of world `w`. -/
def workcellRec (w : Nat) (b : List Byte) : Workcell := {
  id := getU b 0 1, world := w, segment := getU b 4 2, sliceLo := getU b 8 4, sliceHi := getU b 12 4, iuLo := getU b 16 1,
  iuHi := getU b 17 1, ivLo := getU b 18 1, ivHi := getU b 19 1, fineMapBase := getU b 20 2, cells := getU b 22 2 }

/-- A directory entry of an image is legal (check 4). -/
def dirEntryOk (pans fines e : Nat) : Bool :=
  if dirKind e = 0 then e % 2 ^ 62 < 2 ^ 15
  else if dirKind e = 1 then e % 2 ^ 62 < 2 ^ 21 && dirHandle e < pans
  else if dirKind e = 2 then e % 2 ^ 62 < 2 ^ 37 && dirHandle e < pans && dirFine e < fines
  else false

/-- Check 4. -/
def worldCheck4 (b : List Byte) : Bool :=
  let pans := getU b 32 4
  let fines := getU b 36 2
  ((recordsOf (worldSection b 4) 32832 pans).all fun p =>
      getU p 60 4 == crc32c (p.take 60) && getU p 56 4 == crc32c (p.drop 64) && panReservedOk p)
    && ((recordsOf (worldSection b 1) 8 (512 * getU b 40 4)).all fun e => dirEntryOk pans fines (ofLE e))
    && ((recordsOf (worldSection b 3) 4 (4096 * fines)).all fun e =>
      bits (ofLE e) 21 10 == 0 && (!finePresent (ofLE e) || decide (ofLE e % 2 ^ 21 < pans)))
    && (recordsOf (worldSection b 2) 32 (getU b 22 1)).all fun k =>
      getU k 28 4 == crc32c (k.take 28) && allZero (slice k 3 1) && allZero (slice k 6 2) && allZero (slice k 24 4)

/-- The workcells of an image as world `w` would hold them, with fine maps from `base` on. -/
def imageWorkcells (b : List Byte) (w base : Nat) : List Workcell :=
  (recordsOf (worldSection b 2) 32 (getU b 22 1)).map fun r =>
    let k := workcellRec w r
    { k with fineMapBase := base + k.fineMapBase }

/-- Directory entry `i` of an image. -/
def imageEntry (b : List Byte) (i : Nat) : Nat := getU (worldSection b 1) (8 * i) 8

/-- Fine pans only inside workcells (R101): each workcell cell of an image is COARSE_FINE with its own map, in directory-index
order, and no other cell is. -/
def imageFineOk (b : List Byte) (ks : List Workcell) : Bool :=
  let ss := (recordsOf (worldSection b 0) 64 (getU b 20 2)).map segRec
  let index (c : Cell) : Nat := ((ss.getD c.seg ⟨0, 0, [], true, 0, 0⟩).dirBase + c.slice) * 512 + c.iv * 32 + c.iu
  (ks.all fun k => (List.range k.list.length).all fun j =>
      let e := imageEntry b (index (k.list.getD j ⟨0, 0, 0, 0⟩))
      dirKind e == 2 && dirFine e == k.fineMapBase + j)
    && ((List.range (512 * getU b 40 4)).filter fun i => dirKind (imageEntry b i) == 2).length == sumN (ks.map (·.cells))

/-- R101 over an image: defined workcells inside their segments, apart from one another and from the device's others, each
cell with its own fine map. DESIGN CHOICE: a record with STATE 0, with CELLS that is not its box's count, or with maps that do
not add up to FINE_MAPS breaks R101 too: no check of R338 names these (log entry 119). -/
def State.imageWorkcellsOk (s : State) (b : List Byte) (w : Nat) : Bool :=
  let ks := imageWorkcells b w 0
  let others := s.worlds.workcells.filter (·.world != w)
  let ss := (recordsOf (worldSection b 0) 64 (getU b 20 2)).map segRec
  ((recordsOf (worldSection b 2) 32 (getU b 22 1)).all fun r => getU r 1 1 == 1)
    && (ks.all fun k => decide (k.id < 64 ∧ k.sliceLo ≤ k.sliceHi ∧ k.iuLo ≤ k.iuHi ∧ k.ivLo ≤ k.ivHi ∧ k.iuHi < 32)
      && decide (k.ivHi < 16 ∧ k.segment < ss.length ∧ k.sliceHi < (ss.getD k.segment ⟨0, 0, [], true, 0, 0⟩).dirSlices)
      && k.cells == k.count && decide (k.fineMapBase + k.cells ≤ getU b 36 2) && others.all fun o => o.id != k.id)
    && decide ((ks.map (·.id)).Nodup)
    && ((List.range ks.length).all fun i => (List.range i).all fun j =>
      match ks[i]?, ks[j]? with
      | some x, some y => !x.overlaps y
          && decide (x.fineMapBase + x.cells ≤ y.fineMapBase ∨ y.fineMapBase + y.cells ≤ x.fineMapBase)
      | _, _ => true)
    && sumN (ks.map (·.cells)) == getU b 36 2 && imageFineOk b ks

/-- Check 5: R101, R115, and free handles, fine maps and slices. The world's own old content is already gone. -/
def State.worldCheck5 (s : State) (b : List Byte) (w : Nat) : Bool :=
  s.imageWorkcellsOk b w && decide (getU b 32 4 ≤ s.freeHandles)
    && (lowestFit s.fineUsed (getU b 36 2) fineMapCount).isSome
    && (lowestFit s.sliceUsed (getU b 40 4) sliceCount).isSome

/-- Puts a world image that passed its checks into world `w` (R338). -/
def State.installWorld (b : List Byte) (w : Nat) (s : State) : State :=
  let slices := getU b 40 4
  let base := (lowestFit s.sliceUsed slices sliceCount).getD 0
  let fbase := (lowestFit s.fineUsed (getU b 36 2) fineMapCount).getD 0
  let snap := getU b 24 8
  let pans := recordsOf (worldSection b 4) 32832 (getU b 32 4)
  let put := pans.foldl (init := ((s, []) : State × List Nat)) fun acc p =>
    let t := acc.1.takeHandle
    let a : CellAddr := ⟨⟨getU p 2 2, getU p 4 4, getU p 9 1, getU p 8 1⟩, getU p 0 1 == 1, getU p 10 2⟩
    (t.2.panWrite t.1 a (getU p 1 1 &&& 8) snap 0 (getU p 28 2) (getU p 56 4) (p.drop 64), acc.2 ++ [t.1])
  let hs := put.2
  let reloc (e : Nat) : Nat :=
    if dirKind e = 0 then e else dirOf (dirKind e) (if dirKind e = 2 then fbase + dirFine e else 0) (hs.getD (dirHandle e) 0)
  let dir := (recordsOf (worldSection b 1) 8 (512 * slices)).flatMap fun e => le 8 (reloc (ofLE e))
  let fine := (recordsOf (worldSection b 3) 4 (4096 * getU b 36 2)).flatMap fun e =>
    le 4 (if finePresent (ofLE e) then 2 ^ 31 + hs.getD (ofLE e % 2 ^ 21) 0 else ofLE e)
  let segs := (recordsOf (worldSection b 0) 64 (getU b 20 2)).map fun r =>
    let x := segRec r
    { x with dirBase := base + x.dirBase }
  let s := (put.1.hbmWrite (dirAddr (512 * base)) dir).hbmWrite (fineAddr fbase 0) fine
  let recs := (recordsOf (worldSection b 0) 64 (getU b 20 2)).flatMap fun r =>
    let h := r.take 28 ++ le 4 (base + getU r 28 4) ++ slice r 32 28
    h ++ le 4 (crc32c h)
  let s := (imageWorkcells b w fbase).foldl (State.putWorkcell 1) (s.hbmWrite (segmentAddr w 0) recs)
  let s := s.modWorlds fun y => { y with workcells := y.workcells ++ imageWorkcells b w fbase }
  s.modWd w fun _ => {
    loaded := true, worldId := getU b 16 4, segments := segs, dirBase := base, dirSlices := slices, worldTime := snap,
    timeAtCutoff := snap }

end Sys2Proof.Machine
end

