-- ==== Sys2Proof/Machine/Trust.lean ====
section
/-!
DEFINITION. Sys2Proof/Machine/Trust.lean: signature acceptance, the settings ledger, and the signature and COMPAT step of
every image load (R434, R435, R439, R441, R442, R450).
-/
namespace Sys2Proof.Machine

/-! ## Anchors and signatures (R434, R435) -/

/-- A vendor root public key matches its slot's anchor, and slot A is not revoked. -/
def Part.vendorKeyOk (p : Part) (slot : Nat) (pub : List Byte) : Bool :=
  if slot = 0 then !p.revokedA && decide (sha512 pub = p.vendorA)
  else if slot = 1 then decide (sha512 pub = p.vendorB)
  else false

/-- The vendor root slot, if any, whose valid anchor a public key matches. -/
def Part.vendorSlot (p : Part) (pub : List Byte) : Option Nat := [0, 1].find? fun k => p.vendorKeyOk k pub

/-- An owner is enrolled and not VOID. -/
def Part.ownerValid (p : Part) : Bool := p.owner.isSome && !p.ownerVoid

/-- A public key matches the valid owner anchor. -/
def Part.ownerKeyOk (p : Part) (pub : List Byte) : Bool := p.ownerValid && decide (some (sha512 pub) = p.owner)

/-- Ed25519 over the SHA-512 of a message. -/
def signed (pub msg sig : List Byte) : Bool := Config.ed25519Verify pub (sha512 msg) sig

/-- The identity key's seed (R435). -/
def Part.identitySeed (p : Part) : List Byte := (sha512 ([0x53, 0x4D, 0x49, 0x44, 0x45, 0x4E, 0x54] ++ p.deviceSecret)).take 32
/-- The transport key KT (R435). -/
def Part.transportKey (p : Part) : List Byte := (sha512 ([0x53, 0x4D, 0x57, 0x52, 0x41, 0x50] ++ p.deviceSecret)).take 32

/-- The device's signature over a message, by the identity key. -/
def State.identitySign (s : State) (msg : List Byte) : List Byte :=
  sigBytes (Config.ed25519Sign s.part.identitySeed (sha512 msg))

/-! ## The settings ledger (R450) -/

/-- Places of each setting's area (Table 19.9). -/
def ledgerCapacity (code : Nat) : Nat := [0, 8, 16, 64, 4, 4, 1].getD code 0
/-- The committed entries of a setting, in the order written. -/
def Part.committed (p : Part) (code : Nat) : List LedgerEntry := p.ledger.filter fun e => e.setting == code && e.committed
/-- The current value of a setting. -/
def Part.ledgerValue (p : Part) (code dflt : Nat) : Nat := ((p.committed code).getLast?.map (·.value)).getD dflt
/-- A place is left in a setting's area; an interrupted entry has consumed its own. -/
def Part.ledgerRoom (p : Part) (code : Nat) : Bool := (p.ledger.filter (·.setting == code)).length < ledgerCapacity code
/-- The anti-rollback counter. -/
def Part.rollback (p : Part) : Nat := p.ledgerValue 3 0

/-- Writes and commits one entry, timed by the slow real-time counter. -/
def State.ledgerPut (code value : Nat) (signer : List Byte) (s : State) : State :=
  s.modPart fun p => { p with ledger := p.ledger ++ [{
    setting := code, index := (p.committed code).length + 1, value := value, time := s.mgmt.rtc, signer := fit 8 signer,
    committed := true }] }

/-- A ledger entry as read (Table 19.10). -/
def ledgerBytes (e : LedgerEntry) : List Byte :=
  let b := le 1 e.setting ++ le 1 e.index ++ zeros 2 ++ le 4 e.value ++ le 8 e.time ++ fit 8 e.signer ++ zeros 4
  b ++ le 4 (crc32c b)

/-- The committed entries by TIME, ties in setting-code order. -/
def Part.ledgerOrder (p : Part) : List LedgerEntry :=
  sortBy (fun a b => decide (a.time < b.time) || a.time == b.time && decide (a.setting < b.setting))
    (p.ledger.filter (·.committed))

/-! ## COMPAT (R439) and the image trailer (R441, R442) -/

/-- A version lies in the COMPAT range at an offset. -/
def compatOk (b : List Byte) (off version : Nat) : Bool :=
  decide (getU b off 4 ≤ version ∧ version ≤ getU b (off + 4) 4)

/-- Step 1 of R442: MAGIC, FORMAT, LENGTH, FLAGS with CONTENT_KEY, and reserved fields 0 (R13). -/
def trailerOk (enc : Bool) (img t : List Byte) : Bool :=
  getU t 0 4 == 0x4C525454 && getU t 4 1 == 1 && getU t 6 1 == flag enc 0 && getU t 8 8 == img.length
    && (if enc then decide (getU t 7 1 ≤ 7) else getU t 7 1 == 0xFF) && allZero (slice t 83 5) && allZero (slice t 180 12)

/-- Steps 2 to 4 of R442: the status a signer is refused with. -/
def State.signerBad (s : State) (img t : List Byte) : Option Nat :=
  let p := s.part
  let signer := getU t 5 1
  let key := slice t 16 32
  let root := slice t 48 32
  let sigOk := signed key (img ++ t.take 192) (slice t 192 64)
  if signer ≠ (if p.ownerValid then 2 else 1) then some 0x0501
  else if signer = 1 then
    if !p.vendorKeyOk (getU t 82 1) root || !signed root (slice t 16 67) (slice t 88 64) then some 0x0501
    else if getU t 80 2 < p.rollback then some 0x0504
    else if sigOk then none else some 0x0501
  else if p.ownerKeyOk key && sigOk then none else some 0x0501

/-- Step 5 of R442: the plaintext image, or the STATUS_ARG of a SIGNATURE refusal. -/
def State.plainImage (s : State) (enc : Bool) (img t : List Byte) : Sum Nat (List Byte) :=
  if !enc then .inr img
  else if !s.hub.secretsKeys then .inl 0xFFFF
  else match s.boot.contentKeys.getD (getU t 7 1) none with
    | none => .inl 0
    | some k => match Config.aesGcmOpen k (slice t 152 12) img (slice t 164 16) with
      | none => .inl 0
      | some p => .inr p

/-- The signature and COMPAT step (R442): a status with its STATUS_ARG, or the plaintext image. -/
def State.checkImage (s : State) (enc : Bool) (bs : List Byte) : Sum (Nat × Nat) (List Byte) :=
  let img := bs.take (bs.length - 256)
  let t := bs.drop (bs.length - 256)
  if bs.length < 256 ∨ !trailerOk enc img t then .inl (0x0405, 1)
  else match s.signerBad img t with
    | some st => .inl (st, 0)
    | none => match s.plainImage enc img t with
      | .inl a => .inl (0x0501, a)
      | .inr p => if compatOk p 8 s.boot.cfwVersion then .inr p else .inl (0x0407, 0)

end Sys2Proof.Machine
end

