-- ==== Sys2Proof/Machine/Images.lean ====
section
/-!
DEFINITION. Sys2Proof/Machine/Images.lean: cost images (R216-R218) and the image group 0x03 (R117, R125, R135, R138,
R336-R338).
-/
namespace Sys2Proof.Machine

/-! ## Cost images -/

/-- Operands taken, operands left and cycles of an instruction code (Table 09.3). -/
def costShape (op : Nat) : Option (Nat × Nat × Nat) :=
  match op with
  | 0x01 | 0x02 | 0x03 | 0x04 => some (0, 1, 1)
  | 0x05 => some (1, 2, 1)
  | 0x06 => some (1, 0, 1)
  | 0x07 => some (2, 2, 1)
  | 0x08 => some (2, 3, 1)
  | 0x12 => some (2, 1, 2)
  | 0x13 => some (2, 1, 20)
  | 0x14 | 0x15 | 0x16 | 0x17 => some (1, 1, 1)
  | 0x10 | 0x11 | 0x18 | 0x19 | 0x20 | 0x21 | 0x22 => some (2, 1, 1)
  | 0x23 => some (3, 1, 1)
  | 0x30 => some (1, 0, 1)
  | 0x31 => some (0, 0, 1)
  | 0x3F => some (1, 0, 1)
  | _ => none

/-- OP and ARG of an instruction word (R218). -/
def costOp (w : Nat) : Nat := w / 2 ^ 24
def costArg (w : Nat) : Nat := w % 2 ^ 24

/-- Check 3 of R217 for instruction `i` of `n`: a code of the table with an argument in its range. -/
def costWordOk (consts n i w : Nat) : Bool :=
  let a := costArg w
  (costShape (costOp w)).isSome && match costOp w with
  | 0x01 => true
  | 0x02 => decide (a ≤ 15)
  | 0x03 => decide (a ≤ 7)
  | 0x04 => decide (a < consts)
  | 0x12 => decide (a < 2 ^ 8 ∧ bits a 0 6 ≤ 62 ∧ bits a 6 2 ≤ 2)
  | 0x13 | 0x14 => decide (a < 2 ^ 7 ∧ bits a 5 2 ≤ 2)
  | 0x15 => decide (a < 2 ^ 5)
  | 0x30 | 0x31 => decide (1 ≤ a ∧ a ≤ 127 ∧ i + a + 1 ≤ n - 1)
  | _ => a == 0

/-- The static walk of R217: stack depths with the dearest way to each, per instruction; greatest depth and dearest end. -/
structure CostWalk where
  ok : Bool := true
  reach : List (List (Nat × Nat))
  depth : Nat := 0
  cycles : Nat := 0

/-- A path reaches instruction `j` with a depth and cost. -/
def CostWalk.arrive (x : CostWalk) (j d c : Nat) : CostWalk :=
  if j < x.reach.length ∧ d ≤ 16 then
    { x with reach := x.reach.modify j fun l => upsert d (max c (lookupD 0 d l)) l, depth := max x.depth d }
  else { x with ok := false }

/-- Every path that stands at instruction `i` runs it. -/
def CostWalk.step (instrs : List Nat) (x : CostWalk) (i : Nat) : CostWalk :=
  let w := instrs.getD i 0
  let sh := (costShape (costOp w)).getD (0, 0, 0)
  (x.reach.getD i []).foldl (init := x) fun x e =>
    if e.1 < sh.1 then { x with ok := false }
    else
      let d := e.1 - sh.1 + sh.2.1
      let c := e.2 + sh.2.2
      if costOp w = 0x3F then { x with ok := x.ok && e.1 == 1, cycles := max x.cycles c }
      else if costOp w = 0x30 then (x.arrive (i + 1) d c).arrive (i + costArg w + 1) d c
      else if costOp w = 0x31 then x.arrive (i + costArg w + 1) d c
      else x.arrive (i + 1) d c

/-- The walk of a whole program. -/
def costWalk (instrs : List Nat) : CostWalk :=
  let start : CostWalk := { reach := [(0, 0)] :: List.replicate (instrs.length - 1) [] }
  (List.range instrs.length).foldl (CostWalk.step instrs) start

/-- The cost program of an image (Table 09.2). -/
def costOf (b : List Byte) : Cost := {
  costId := getU b 16 4, consts := getSs b 64 4 (getU b 21 1),
  instrs := (List.range (getU b 20 1)).map fun i => getU b (64 + 4 * getU b 21 1 + 4 * i) 4, maxDepth := getU b 22 1,
  worstCycles := getU b 24 4 }

/-- Check 2 of R217. -/
def costCheck2 (b : List Byte) : Bool :=
  getU b 0 4 == 0x54534353 && getU b 4 1 == 4 && getU b 5 1 == 1 && getU b 60 4 == crc32c (b.take 60)
    && getU b 56 4 == crc32c (b.drop 64) && b.length == 64 + 4 * (getU b 21 1 + getU b 20 1)
    && inR (getU b 20 1) 1 128 && decide (getU b 21 1 ≤ 32) && inR (getU b 22 1) 1 16 && allZero (slice b 6 2)
    && allZero (slice b 23 1) && allZero (slice b 28 28)

/-- The first failing check among 2 to 4 of R217. -/
def costChecks (b : List Byte) : Option Nat :=
  let c := costOf b
  let n := c.instrs.length
  if !costCheck2 b then some 2
  else if !((List.range n).all fun i => costWordOk c.consts.length n i (c.instrs.getD i 0)) then some 3
  else
    let w := costWalk c.instrs
    if w.ok && w.depth == c.maxDepth && w.cycles == c.worstCycles then none else some 4

/-! ## Slots -/

/-- Image slots of a kind: 1 world, 2 rig, 3 network, 4 cost. -/
def Images.slots (m : Images) (kind : Nat) : List SlotState :=
  match kind with
  | 1 => m.worldSlots
  | 2 => m.rigSlots
  | 3 => m.netSlots
  | 4 => m.costSlots
  | _ => []

/-- Rewrites one slot of a kind. -/
def State.modSlot (kind slot : Nat) (f : SlotState → SlotState) (s : State) : State :=
  s.modImages fun m => match kind with
    | 1 => { m with worldSlots := m.worldSlots.modify slot f }
    | 2 => { m with rigSlots := m.rigSlots.modify slot f }
    | 3 => { m with netSlots := m.netSlots.modify slot f }
    | 4 => { m with costSlots := m.costSlots.modify slot f }
    | _ => m

/-- The slot of a kind that a session names. -/
def Session.names (x : Session) (kind : Nat) : Option Nat :=
  match kind with
  | 1 => x.world
  | 2 => x.rig
  | 3 => x.net
  | 4 => x.cost
  | _ => none

/-- A slot of this node's shard table: a proxy slot of another home, or a home world here (R386). -/
def State.isProxy (s : State) (w : Nat) : Bool :=
  s.farming.shards.any fun e => e.home != s.fabric.nodeId && e.localWorld == w
def State.isHomeWorld (s : State) (w : Nat) : Bool :=
  s.farming.shards.any fun e => e.home == s.fabric.nodeId && e.homeWorld == w

/-- A slot that cannot be overwritten or unloaded: named by a session in CONFIGURED, RUNNING or PAUSED (R125, R135,
R216), loading or unloading (R337). -/
def State.slotInUse (s : State) (kind slot : Nat) : Bool :=
  let st := ((s.images.slots kind).getD slot {}).state
  st == 1 || st == 3 || s.sessions.any fun x => inR x.state 2 4 && x.names kind == some slot

/-- The slot a load goes to: the one named, or the lowest free one for 0xFF; else a status (0x0302 NO_SLOT, 0x0203
OBJECT_IN_USE). -/
def State.loadSlot (s : State) (kind named : Nat) : Sum Nat Nat :=
  let free (i : Nat) := ((s.images.slots kind).getD i {}).state == 0 && !(kind == 1 && s.isProxy i)
  if named = 0xFF then
    match (List.range (s.images.slots kind).length).find? free with
    | some i => .inr i
    | none => .inl 0x0302
  else if s.slotInUse kind named || (kind == 1 && s.isProxy named) then .inl 0x0203
  else .inr named

/-- An image is in its slot: it is loading until its copies are complete. -/
def State.startCopy (c : Cmd) (kind slot id : Nat) (plain : List Byte) (s : State) : State :=
  (s.modSlot kind slot fun _ => {
    state := 1, id := id, hash := sha512 plain, loader := some (c.fn, c.slot) }).wait c

/-- WEIGHT_BYTES of the images resident in other slots (R138). -/
def State.residentBytes (s : State) (but : Nat) : Nat :=
  sumN ((List.range 4).map fun i =>
    let n := s.images.nets.getD i {}
    if i ≠ but ∧ (s.images.netSlots.getD i {}).state ≠ 0 ∧ n.resident then n.weightBytes else 0)

/-! ## IMG_LOAD -/

/-- Bytes of an image go to the same place of all four stack stores (R117, R216, R269). -/
def State.storeCopies (off : Nat) (bs : List Byte) (s : State) : State :=
  (List.range 4).foldl (init := s) fun s k => s.sramWrite (storeAddr k off) bs

/-- The copies of an image: a rig or cost image into every stack store, the weights of a streamed network into HBM (R138, R278): a
slot there has the size of the greatest WEIGHT_BYTES. A resident network's
weights stand in the network region of every stack store as its slot holds them (R138; log entry 122). -/
def State.copyImage (kind slot : Nat) (p : List Byte) (s : State) : State :=
  if kind = 2 then s.storeCopies (rigOffset slot) p
  else if kind = 4 then s.storeCopies (costOffset slot) p
  else if kind = 3 ∧ !(s.images.nets.getD slot {}).resident then s.hbmWrite (streamedAddr slot) (sectionOf p 72 3)
  else s

/-- A rig, network or cost image whose signature step passed: its own checks, the slot check last, then its content. -/
def State.loadImage (c : Cmd) (kind named : Nat) (p : List Byte) (s : State) : State :=
  let put (id : Nat) (f : Nat → Images → Images) : State :=
    match s.loadSlot kind named with
    | .inl st => s.refuse c st
    | .inr i => ((s.modImages (f i)).copyImage kind i p).startCopy c kind i id p
  if kind = 2 then
    match rigChecks p with
    | some k => s.refuse c 0x0405 k
    | none => put (getU p 16 4) fun i m => { m with rigs := m.rigs.set i (rigOf p) }
  else if kind = 3 then
    match netChecks p with
    | .inl k => s.refuse c 0x0405 k
    | .inr n => put n.netId fun i m =>
        { m with nets := m.nets.set i { n with weights := sectionOf p 72 3, resident := decide (s.residentBytes i + n.weightBytes ≤ 12582912) } }
  else
    match costChecks p with
    | some k => s.refuse c 0x0405 k
    | none => put (getU p 16 4) fun i m => { m with costs := m.costs.set i (costOf p) }

/-- A world load ends with its slot empty. -/
def State.emptySlot (slot : Nat) (s : State) : State :=
  (s.modSlot 1 slot fun _ => {}).modImages fun m => { m with partLoads := m.partLoads.filter (·.slot != slot) }

/-- The last part of a world has arrived: the checks of R338, then its content. -/
def State.finishWorld (c : Cmd) (slot : Nat) (enc : Bool) (bs : List Byte) (s : State) : State :=
  let fail (st arg : Nat) : State := (s.refuse c st arg).emptySlot slot
  match s.checkImage enc bs with
  | .inl e => fail e.1 e.2
  | .inr p =>
    if !worldCheck2 p then fail 0x0405 2
    else if !worldCheck3 p then fail 0x0405 3
    else if !worldCheck4 p then fail 0x0405 4
    else if !s.worldCheck5 p slot then fail 0x0303 0
    else ((s.emptySlot slot).installWorld p slot).startCopy c 1 slot (getU p 16 4) p

/-- One part of a world image (R337). A command that names the slot of a load begun under 0xFF has another SLOT, and is none of its
parts. -/
def State.loadPart (c : Cmd) (named part : Nat) (more enc : Bool) (s : State) : State :=
  match s.images.partLoads.find? fun l => l.named == named && !(named == 0xFF && part == 0) || l.slot == named with
  | some l =>
    if l.named ≠ named then s.refuse c 0x0203
    else if part ≠ l.nextPart then (s.refuse c 0x0106).emptySlot l.slot
    else if more then
      (s.modImages fun m => { m with partLoads := m.partLoads.map fun x =>
        if x.slot = l.slot then { x with nextPart := part + 1, bytes := x.bytes ++ c.bulk } else x }).accept c
    else s.finishWorld c l.slot enc (l.bytes ++ c.bulk)
  | none =>
    if part ≠ 0 then s.refuse c 0x0106
    else match s.loadSlot 1 named with
      | .inl st => s.refuse c st
      | .inr i =>
        let s := s.emptyWorld i
        if more then
          let s := s.modSlot 1 i fun _ => { state := 1 }
          (s.modImages fun m => { m with partLoads := m.partLoads ++ [{
            slot := i, named := named, nextPart := 1, bytes := c.bulk }] }).accept c
        else s.finishWorld c i enc c.bulk

/-- IMG_LOAD (R336, R337). -/
def bodyImgLoad (c : Cmd) (s : State) : State :=
  let kind := getU c.payload 0 1
  let named := getU c.payload 1 1
  let flags := getU c.payload 2 1
  let part := getU c.payload 4 2
  s.shape c 8 [(3, 1), (6, 2)] fun s =>
    s.need c (decide (flags < 4)) 0x0105 fun s =>
      s.need c (inR kind 1 4 && (named == 0xFF || decide (named < (s.images.slots kind).length))) 0x0106 fun s =>
        if kind = 1 then s.loadPart c named part (bit flags 1) (bit flags 0)
        else s.need c (part == 0 && !bit flags 1) 0x0106 fun s =>
          match s.checkImage (bit flags 0) c.bulk with
          | .inl e => s.refuse c e.1 e.2
          | .inr p => s.loadImage c kind named p

/-- IMG_LOAD (R336). -/
def execImgLoad (fn slot : Nat) (t : Nat) (s : State) : Host.Outcome State Fault Refusal :=
  ranAt (slotOk fn slot) t s (runCmd 0x0301 fn slot bodyImgLoad)

/-- Every copy of an image is complete: it is loaded, usable from the next frame open, and the load is answered (R117,
R125, R135, R216, R320). -/
def State.copyComplete (kind slot : Nat) (s : State) : State :=
  let x := (s.images.slots kind).getD slot {}
  match x.loader with
  | none => s
  | some l =>
    if x.state = 1 then
      let s := s.modSlot kind slot fun y => { y with state := 2, copied := true, loader := none }
      let s := s.settleIdle State.settleImages
      let resident := kind == 3 && (s.images.nets.getD slot {}).resident
      match s.cmd? l.1 l.2 with
      | none => s
      | some c =>
        if c.opcode = 0x0301 ∧ c.stage = .waiting then s.accept c (x.hash ++ le 1 slot ++ le 1 (flag resident 0) ++ zeros 6)
        else s
    else s

/-- IMG_UNLOAD: the slot is free from the next frame open; a world's content goes at once (log entry 29). -/
def bodyImgUnload (c : Cmd) (s : State) : State :=
  let kind := getU c.payload 0 1
  let i := getU c.payload 1 1
  s.shape c 8 [(2, 6)] fun s =>
    s.need c (imageSlotOk kind i) 0x0106 fun s =>
      s.need c (!s.slotInUse kind i && !(kind == 1 && s.isHomeWorld i)) 0x0203 fun s =>
        s.need c (((s.images.slots kind).getD i {}).state == 2) 0x0106 fun s =>
          let s := s.modSlot kind i fun x => { x with state := 3 }
          let s := if kind = 1 then s.emptyWorld i else s
          (s.settleIdle State.settleImages).accept c

/-- IMG_UNLOAD (R336). -/
def execImgUnload (fn slot : Nat) (t : Nat) (s : State) : Host.Outcome State Fault Refusal :=
  ranAt (slotOk fn slot) t s (runCmd 0x0302 fn slot bodyImgUnload)

/-- The IMG_LIST response. -/
def Images.listing (m : Images) : List Byte :=
  [1, 2, 3, 4].flatMap fun k => (m.slots k).flatMap fun x =>
    le 1 x.state ++ le 1 k ++ zeros 2 ++ le 4 x.id ++ x.shown.take 8

/-- IMG_LIST. -/
def bodyImgList (c : Cmd) (s : State) : State := s.shape c 0 [] fun s => s.accept c s.images.listing

/-- IMG_LIST (R336). -/
def execImgList (fn slot : Nat) (t : Nat) (s : State) : Host.Outcome State Fault Refusal :=
  ranAt (slotOk fn slot) t s (runCmd 0x0303 fn slot bodyImgList)

end Sys2Proof.Machine
end

