-- ==== Sys2Proof/Machine/Brine.lean ====
section
/-!
DEFINITION. Sys2Proof/Machine/Brine.lean: brine records (R99-R113): delimiting, the checks made at arrival, the effect of each
record on its world with the checks made at application, and DIST_BUILD.
-/
namespace Sys2Proof.Machine

/-! ## Records and their fields -/

/-- Cuts bulk data into records by LENGTH; the index of a record that overruns (R106). DESIGN CHOICE: a record whose LENGTH is
below its 32-byte header, or a rest shorter than a header, is BAD_LENGTH at that index (log entry 119). -/
def delimit : Nat → List Byte → List (List Byte) → Sum Nat (List (List Byte))
  | 0, _, acc => .inl acc.length
  | fuel + 1, bs, acc =>
    if bs.isEmpty then .inr acc
    else
      let n := getU bs 4 4
      if bs.length < 32 ∨ n < 32 ∨ n > bs.length then .inl acc.length
      else delimit fuel (bs.drop n) (acc ++ [bs.take n])

/-- Header fields of a record (Table 04.8). -/
def recType (r : List Byte) : Nat := getU r 0 1
def recTarget (r : List Byte) : Nat := getU r 8 4
def recSeq (r : List Byte) : Nat := getU r 12 4
def recTime (r : List Byte) : Nat := getU r 16 8

/-- A cell address at an offset (R105). -/
def addrAt (r : List Byte) (o : Nat) : CellAddr :=
  ⟨⟨getU r o 2, getU r (o + 4) 4, getU r (o + 9) 1, getU r (o + 8) 1⟩, getU r (o + 2) 1 == 1, getU r (o + 10) 2⟩

/-- A mover record (Table 04.6). -/
def moverOf (b : List Byte) : Mover := {
  shape := getU b 0 1, cls := getU b 1 1, segment := getU b 2 2, id := getU b 4 4, centre := getSs b 8 4 3,
  extent := getSs b 20 4 3, rot := getSs b 32 2 9, vel := getSs b 52 4 3, tRef := getU b 64 8, tFrom := getU b 72 8,
  tTo := getU b 80 8, velUncert := getU b 88 4 }

/-! ## Checks at arrival (Table 04.10, checks 1 and 2) -/

/-- Check 1. -/
def recordCrcOk (r : List Byte) : Bool :=
  getU r 28 4 == crc32c (r.take 28 ++ zeros 4 ++ r.drop 32)
    && (recType r != 1 || r.length != 32864 || getU r 88 4 == crc32c (r.drop 96))

/-- The LENGTH of Table 04.9. -/
def recordLen (r : List Byte) : Option Nat :=
  match recType r with
  | 1 => some 32864
  | 2 => some (56 + 16 * getU r 48 2)
  | 3 => some (40 + 96 * getU r 32 2)
  | 4 => some 48
  | 5 => some 40
  | 6 => some (56 + 512 * getU r 49 1 * getU r 50 1 * getU r 51 1)
  | 7 => some 136
  | 8 => some 56
  | 9 => some 32
  | _ => none

/-- Reserved fields (offset, bytes) of a mover record at `o`. -/
def moverResv (o : Nat) : List (Nat × Nat) := [(o + 50, 2), (o + 92, 4)]
/-- Reserved fields of a cell address at `o`. -/
def addrResv (o : Nat) : List (Nat × Nat) := [(o + 3, 1), (o + 12, 4)]

/-- Reserved fields of a record. -/
def recordResv (r : List Byte) : List (Nat × Nat) :=
  [(2, 2), (24, 4)] ++ match recType r with
  | 1 => [(62, 2), (72, 16)]
  | 2 => addrResv 32 ++ [(52, 4)] ++ (List.range (getU r 48 2)).map fun i => (59 + 16 * i, 5)
  | 3 => (34, 6) :: (List.range (getU r 32 2)).flatMap fun i => moverResv (40 + 96 * i)
  | 4 => [(33, 1)]
  | 5 => [(33, 7)]
  | 6 => addrResv 32 ++ [(52, 4)]
  | 7 => (34, 6) :: moverResv 40
  | 8 => addrResv 32 ++ [(50, 6)]
  | _ => []

/-- Indices of a cell address are within range, and FINE_IDX is 0 at LEVEL 0 (R105). -/
def addrOk (r : List Byte) (o : Nat) : Bool :=
  decide (getU r (o + 2) 1 ≤ 1 ∧ getU r (o + 8) 1 < 32 ∧ getU r (o + 9) 1 < 16 ∧ getU r (o + 10) 2 < 4096)
    && (getU r (o + 2) 1 == 1 || getU r (o + 10) 2 == 0)

/-- Values of a mover record are within range (R99). -/
def moverOk (w : World) (b : List Byte) : Bool :=
  let m := moverOf b
  decide (m.shape ≤ 1 ∧ m.cls ≤ 3 ∧ m.segment < w.segments.length ∧ m.tFrom ≤ m.tTo) && m.extent.all (decide <| 0 ≤ ·)
    && (m.shape == 0 || at0 m.extent 2 == 0)

/-- Indices and values of a record are within range. -/
def recordRangeOk (w : World) (r : List Byte) : Bool :=
  match recType r with
  | 1 => decide (getU r 32 1 ≤ 1 ∧ getU r 40 1 < 32 ∧ getU r 41 1 < 16 ∧ getU r 42 2 < 4096)
      && (getU r 32 1 == 1 || getU r 42 2 == 0)
  | 2 => addrOk r 32 && inR (getU r 48 2) 1 4096 &&
      (List.range (getU r 48 2)).all fun i => decide (getU r (56 + 16 * i) 2 < 4096 ∧ getU r (58 + 16 * i) 1 < 16)
  | 3 => decide (getU r 32 2 ≤ 1024) && (List.range (getU r 32 2)).all fun i => moverOk w (slice r (40 + 96 * i) 96)
  | 4 => decide (getU r 32 1 < 64 ∧ getU r 36 4 ≤ getU r 40 4 ∧ getU r 44 1 ≤ getU r 45 1 ∧ getU r 45 1 < 32)
      && decide (getU r 46 1 ≤ getU r 47 1 ∧ getU r 47 1 < 16)
  | 5 => decide (getU r 32 1 < 64)
  | 6 => addrOk r 32 && decide (getU r 48 1 ≤ 3) && inR (getU r 49 1) 1 2 && inR (getU r 50 1) 1 2 && inR (getU r 51 1) 1 2
  | 7 => decide (getU r 32 1 < 16 ∧ getU r 33 1 ≤ 1 ∧ recTarget r = 0) && moverOk w (slice r 40 96)
  | 8 => addrOk r 32 && getU r 34 1 == 0 && decide (getU r 48 2 ≤ 32767)
  | _ => true

/-- The status a record is refused with at arrival. FLAGS bits 7:4 of a PAN_REPLACE header are reserved too. -/
def recordBad (urgent : Bool) (world : Nat) (w : World) (r : List Byte) : Option Nat :=
  if !recordCrcOk r then some 0x0402
  else if (if urgent then recType r != 7 else recType r == 7 || (recordLen r).isNone) || getU r 1 1 != world then some 0x0106
  else if recordLen r ≠ some r.length then some 0x0104
  else if !((recordResv r).all fun f => allZero (slice r f.1 f.2)) || (recType r == 1 && decide (getU r 33 1 ≥ 16)) then
    some 0x0105
  else if !recordRangeOk w r then some 0x0106
  else none

/-! ## Cells of a box (R110) -/

/-- A cell shifted along s, u and v at its level; none below an index of 0. A fine cube may lie in the next coarse
cell. -/
def CellAddr.shift (a : CellAddr) (dx dy dz : Int) : Option CellAddr :=
  let k : Nat := if a.fine then 16 else 1
  let f (c i : Nat) (d : Int) : Int := (c * k + (if a.fine then i else 0) : Nat) + d
  let x := f a.cell.slice (a.idx % 16) dx
  let y := f a.cell.iu (a.idx / 16 % 16) dy
  let z := f a.cell.iv (a.idx / 256) dz
  if x < 0 ∨ y < 0 ∨ z < 0 then none
  else
    let n (v : Int) := v.toNat
    some ⟨⟨a.cell.seg, n x / k, n z / k, n y / k⟩, a.fine, if a.fine then (n z % 16 * 16 + n y % 16) * 16 + n x % 16 else 0⟩

/-- The cells of a box, x fastest; none for one outside the address space. -/
def boxCells (a : CellAddr) (nx ny nz : Nat) : List (Option CellAddr) :=
  (List.range nz).flatMap fun z => (List.range ny).flatMap fun y => (List.range nx).map fun x => a.shift x y z

/-- The cells around a box, of the same level. -/
def shellCells (a : CellAddr) (nx ny nz : Nat) : List (Option CellAddr) :=
  (List.range (nz + 2)).flatMap fun z => (List.range (ny + 2)).flatMap fun y => (List.range (nx + 2)).filterMap fun x =>
    if inR x 1 nx && inR y 1 ny && inR z 1 nz then none else some (a.shift (x - 1 : Int) (y - 1 : Int) (z - 1 : Int))

/-- The directory kind of a coarse cell of a world; none where the cell does not exist. -/
def State.cellKind (s : State) (w : Nat) (c : Cell) : Option Nat :=
  let x := s.wd w
  if x.hasCell c then some (dirKind (s.dirEntry (x.dirIndex c))) else none

/-- A cell of a box can take a DIST_BUILD pan: a coarse cell of the world, or a fine cube that is PRESENT (log entry
30). -/
def State.boxCellOk (s : State) (w : Nat) : Option CellAddr → Bool
  | none => false
  | some a => if a.fine then (s.panAt w a).isSome else (s.cellKind w a.cell).isSome

/-- FAR cells of a box: each will take a new handle. -/
def State.farCells (s : State) (w : Nat) (l : List (Option CellAddr)) : Nat :=
  (l.filter fun a => match a with
    | some a => !a.fine && s.cellKind w a.cell == some 0
    | none => false).length

/-- The cells of a job. -/
def DistJob.base (j : DistJob) : CellAddr :=
  let c := fun i => j.cell.getD i 0
  ⟨⟨c 0, c 1, c 2, c 3⟩, c 4 == 1, c 5⟩
def DistJob.cells (j : DistJob) : List (Option CellAddr) :=
  boxCells j.base (j.dims.getD 0 1) (j.dims.getD 1 1) (j.dims.getD 2 1)

/-- Free handles that no waiting box will take. -/
def State.spareHandles (s : State) : Nat :=
  s.freeHandles - sumN (s.worlds.distJobs.map fun j => s.farCells j.world j.cells)

/-! ## Effects (Table 04.9, checks 5 and 6) -/

/-- What applying a record gives: the status it is refused with, or the bytes counted (Table 02.6) and the new state. -/
abbrev Applied := Sum Nat (Nat × State)

/-- PAN_REPLACE. -/
def applyPanReplace (w : Nat) (r : List Byte) (s : State) : Applied :=
  let a : CellAddr := ⟨⟨getU r 34 2, getU r 36 4, getU r 41 1, getU r 40 1⟩, getU r 32 1 == 1, getU r 42 2⟩
  let write (h : Nat) (s : State) : State :=
    s.brinePan h a (getU r 33 1 &&& 8) (recTime r) (recSeq r) (getU r 60 2) (getU r 88 4) (r.drop 96)
  let i := (s.wd w).dirIndex a.cell
  match s.cellKind w a.cell with
  | none => .inl 0x0207
  | some k =>
    if a.fine ∧ k ≠ 2 then .inl 0x0207
    else match s.panAt w a with
      | some h => .inr (32832, (write h s).markDirty w i)
      | none =>
        if s.spareHandles = 0 then .inl 0x0303
        else
          let t := s.takeHandle
          let s := if a.fine then t.2.setFine (dirFine (s.dirEntry i)) a.idx (2 ^ 31 + t.1) else t.2.setDir w i (dirOf 1 0 t.1)
          .inr (32840, (write t.1 s).markDirty w i)

/-- One voxel entry of a patch. -/
def patchVoxel (payload e : List Byte) : List Byte :=
  let i := getU e 0 2
  let old := slice payload (8 * i) 8
  let new := (List.range 4).flatMap fun c => if bit (getU e 2 1) c then slice e (8 + 2 * c) 2 else slice old (2 * c) 2
  payload.take (8 * i) ++ new ++ payload.drop (8 * i + 8)

/-- VOXEL_PATCH. -/
def applyVoxelPatch (w : Nat) (r : List Byte) (s : State) : Applied :=
  let a := addrAt r 32
  match s.panAt w a with
  | none => .inl 0x0207
  | some h =>
    let n := getU r 48 2
    let p := (recordsOf (r.drop 56) 16 n).foldl patchVoxel (s.panPayload h)
    let interp := max (getU (s.panHeader h) 28 2) (getU r 50 2)
    .inr (8 * n + 64, (s.brinePan h a 0 (recTime r) (recSeq r) interp (crc32c p) p).markDirty w ((s.wd w).dirIndex a.cell))

/-- MOVER_TABLE: the rows of the table that it replaces, in HBM too. -/
def applyMoverTable (w : Nat) (r : List Byte) (s : State) : Applied :=
  let n := getU r 32 2
  let rows := slice r 40 (96 * n) ++ zeros (96 * ((s.wd w).movers.length - n))
  .inr (8 + 96 * n, (s.hbmWrite (moverAddr w 0) rows).modWd w fun x => { x with
    movers := (recordsOf (r.drop 40) 96 n).map fun b => some (moverOf b) })

/-- WORKCELL_DEFINE (R101, R103). -/
def applyDefine (w : Nat) (r : List Byte) (s : State) : Applied :=
  let x := s.wd w
  let k : Workcell := {
    id := getU r 32 1, world := w, segment := getU r 34 2, sliceLo := getU r 36 4, sliceHi := getU r 40 4,
    iuLo := getU r 44 1, iuHi := getU r 45 1, ivLo := getU r 46 1, ivHi := getU r 47 1, fineMapBase := 0, cells := 0 }
  if k.segment ≥ x.segments.length ∨ k.sliceHi ≥ (x.seg k.segment).dirSlices ∨
    s.worlds.workcells.any fun o => o.id == k.id || o.overlaps k then .inl 0x0207
  else if k.list.any fun c => s.cellKind w c == some 0 then .inl 0x0207
  else match lowestFit s.fineUsed k.count fineMapCount with
    | none => .inl 0x0303
    | some base =>
      let cs := k.list
      let s := (List.range cs.length).foldl (init := s) fun s j =>
        let i := x.dirIndex (cs.getD j ⟨0, 0, 0, 0⟩)
        (s.hbmWrite (fineAddr (base + j) 0) (zeros 16384)).setDir w i (dirOf 2 (base + j) (dirHandle (s.dirEntry i)))
      let k := { k with fineMapBase := base, cells := cs.length }
      .inr (32 + 16392 * cs.length, (s.putWorkcell 1 k).modWorlds fun y => { y with workcells := y.workcells ++ [k] })

/-- WORKCELL_RETIRE (R103). -/
def applyRetire (w : Nat) (r : List Byte) (s : State) : Applied :=
  match s.worlds.workcells.find? fun k => k.id == getU r 32 1 && k.world == w with
  | none => .inl 0x0207
  | some k =>
    let s := k.list.foldl (init := s) fun s c =>
      let i := (s.wd w).dirIndex c
      let e := s.dirEntry i
      (s.clearFineMap (dirFine e)).setDir w i (dirOf 1 0 (dirHandle e))
    .inr (32 + 8 * k.cells, (s.putWorkcell 0 k).modWorlds fun y => { y with workcells := y.workcells.filter (·.id != k.id) })

/-- OCCUPANCY_PATCH: the box is admitted for DIST_BUILD (R110, R112); `cmd` is the command's slot. A command's ninth box is
beyond the capacity of any frame (check 6). -/
def applyOccupancy (w : Nat) (cmd : Nat × Nat) (r : List Byte) (s : State) : Applied :=
  let a := addrAt r 32
  let dims := [getU r 49 1, getU r 50 1, getU r 51 1]
  let cells := boxCells a (getU r 49 1) (getU r 50 1) (getU r 51 1)
  if (s.panAt w a).isNone || !cells.all (s.boxCellOk w) then .inl 0x0207
  else if s.spareHandles < s.farCells w cells ∨ (s.worlds.distJobs.filter (·.cmd == some cmd)).length ≥ 8 then .inl 0x0303
  else .inr (r.length, s.modWorlds fun y => { y with distJobs := y.distJobs ++ [{
    world := w, cell := [a.cell.seg, a.cell.slice, a.cell.iv, a.cell.iu, flag a.fine 0, a.idx], cls := getU r 48 1,
    dims := dims, bitmap := r.drop 56, snapshot := recTime r, seq := recSeq r, frame := s.frame.counter,
    cmd := some cmd }] })

/-- CELL_FAR. -/
def applyCellFar (w : Nat) (r : List Byte) (s : State) : Applied :=
  let a := addrAt r 32
  let i := (s.wd w).dirIndex a.cell
  match s.cellKind w a.cell with
  | none | some 2 => .inl 0x0207
  | some k =>
    if s.worlds.workcells.any fun o => o.has w a.cell then .inl 0x0207
    else
      let h := dirHandle (s.dirEntry i)
      let s := if k = 1 then (s.freeHandle h).goodHandle h else s
      .inr (8, s.setDir w i (getU r 48 2))

/-- One ordinary record with checks 3 to 6, on the world as the records before it left it. WORLD_TIME and the last SEQ rise when
the record is admitted, for an OCCUPANCY_PATCH too, whose pans the next frame's ingest writes: the manual does not say which
of the two frames takes them (DESIGN CHOICE, log entry 145). -/
def applyRecord (w : Nat) (cmd : Nat × Nat) (r : List Byte) (s : State) : Applied :=
  let x := s.wd w
  if !x.loaded then .inl 0x0207
  else if recSeq r ≠ (x.lastSeq + 1) % 2 ^ 32 then .inl 0x0403
  else if recTime r < x.worldTime then .inl 0x0404
  else
    let out : Applied := match recType r with
      | 1 => applyPanReplace w r s
      | 2 => applyVoxelPatch w r s
      | 3 => applyMoverTable w r s
      | 4 => applyDefine w r s
      | 5 => applyRetire w r s
      | 6 => applyOccupancy w cmd r s
      | 8 => applyCellFar w r s
      | _ => .inr (0, s)
    match out with
    | .inl st => .inl st
    | .inr o => .inr (o.1, o.2.modWd w fun y => { y with lastSeq := recSeq r, worldTime := max y.worldTime (recTime r) })

/-- A command's records in order: the status and index of the first that fails, or the bytes and the state. -/
def applyRecords (w : Nat) (cmd : Nat × Nat) : Nat → List (List Byte) → Nat × State → Sum (Nat × Nat) (Nat × State)
  | _, [], acc => .inr acc
  | i, r :: rs, acc => match applyRecord w cmd r acc.2 with
    | .inl st => .inl (st, i)
    | .inr o => applyRecords w cmd (i + 1) rs (acc.1 + o.1, o.2)

/-- One urgent record (R109): checks 3 and 4, and its slot, in the world in HBM too; WORLD_TIME
stays. -/
def applyUrgentRecord (w : Nat) (r : List Byte) (s : State) : Sum Nat State :=
  let x := s.wd w
  if !x.loaded then .inl 0x0207
  else if recSeq r ≠ (x.urgentSeq + 1) % 2 ^ 32 then .inl 0x0403
  else if recTime r < x.worldTime then .inl 0x0404
  else
    let k := getU r 32 1
    let set := getU r 33 1 == 0
    let m := if set then some (moverOf (slice r 40 96)) else none
    let row := if set then slice r 40 96 else zeros 96
    .inr ((s.hbmWrite (moverAddr w (1024 + k)) row).modWd w fun y => { y with
      urgentSeq := recSeq r, urgent := y.urgent.set k m, urgentTouched := insertAsc k y.urgentTouched })

/-- The CFW copies the urgent slots of a world into the general area of every enabled cluster, as the version of the epoch
(R109, R181; log entry 122). -/
def State.copyUrgents (w : Nat) (s : State) : State :=
  let rows := Mem.readBytes s.hbm (moverAddr w 1024) 1536
  s.enabledList.foldl (init := s) fun s p => s.sramWrite (scratchAddr p (urgentCopyOffset s.worlds.epoch 0)) rows

/-- The copies of every loaded world. DESIGN CHOICE: the general area has room for the urgent slots of one world (Table 11.3), so with
several loaded worlds those of the last one stand (log entry 122); tests read the worlds themselves. -/
def State.copyAllUrgents (s : State) : State :=
  (List.range 4).foldl (init := s) fun s w => if (s.wd w).loaded then s.copyUrgents w else s

/-- An urgent command's records in order. -/
def applyUrgentRecords (w : Nat) : Nat → List (List Byte) → State → Sum (Nat × Nat) State
  | _, [], s => .inr s
  | i, r :: rs, s => match applyUrgentRecord w r s with
    | .inl st => .inl (st, i)
    | .inr s => applyUrgentRecords w (i + 1) rs s

/-! ## DIST_BUILD (R110, R111) -/

/-- A sample of a box is occupied: bit (z * 16 + y) * 16 + x of its pan's 512 bytes, pans with x fastest (log entry
30). -/
def DistJob.occupied (j : DistJob) (x y z : Nat) : Bool :=
  let pan := (z / 16 * j.dims.getD 1 1 + y / 16) * j.dims.getD 0 1 + x / 16
  let i := (z % 16 * 16 + y % 16) * 16 + x % 16
  bit (getU j.bitmap (512 * pan + i / 8) 1) (i % 8)

/-- The samples of a box. -/
def DistJob.samples (j : DistJob) : List (Nat × Nat × Nat) :=
  (List.range (16 * j.dims.getD 2 1)).flatMap fun z => (List.range (16 * j.dims.getD 1 1)).flatMap fun y =>
    (List.range (16 * j.dims.getD 0 1)).map fun x => (x, y, z)

/-- Squared distance of two samples in LSB: the pitch is 64 LSB at either level. -/
def sampleSq (p q : Nat × Nat × Nat) : Nat :=
  let d (a b : Nat) := 64 * ((a : Int) - b).natAbs
  d p.1 q.1 ^ 2 + d p.2.1 q.2.1 ^ 2 + d p.2.2 q.2.2 ^ 2

/-- The least of a list of squared distances, rooted with FLOOR; none for an empty list. -/
def leastRoot (l : List Nat) : Option Int :=
  match l with
  | [] => none
  | x :: r => some (isqrt (r.foldl min x) : Nat)

/-- A neighbour's lower bound for a class; none where it lies outside the world (R86). A fine neighbour that is not PRESENT
takes its coarse cell's bound (log entry 30). DESIGN CHOICE: a neighbour beyond the directory slices of an inner segment has no
cell in this segment and is no bound (log entry 119). -/
def State.shellBound (s : State) (w cls : Nat) : Option CellAddr → Option Int
  | none => none
  | some a =>
    let pan (h : Nat) : Int := getS (s.panHeader h) (32 + 2 * cls) 2 - getU (s.panHeader h) 28 2
    let coarse : Option Int := if (s.wd w).overhang a.cell then none else match s.cellKind w a.cell with
      | none => none
      | some 0 => some (dirFloor (s.dirEntry ((s.wd w).dirIndex a.cell)) : Nat)
      | some _ => some (pan (dirHandle (s.dirEntry ((s.wd w).dirIndex a.cell))))
    if a.fine && !(s.wd w).overhang a.cell then (match s.panAt w a with
      | some h => some (pan h)
      | none => coarse.map (· * 16))
    else coarse

/-- The lesser of two bounds, none standing for no bound. -/
def minO : Option Int → Option Int → Option Int
  | some a, some b => some (min a b)
  | some a, none => some a
  | none, b => b

/-- The stored value of one sample. DESIGN CHOICE: an occupied sample of a box without a clear one stores the least value
(log entry 119). -/
def DistJob.stored (j : DistJob) (shell : Option Int) (occ clear : List (Nat × Nat × Nat)) (p : Nat × Nat × Nat) : Int :=
  if j.occupied p.1 p.2.1 p.2.2 then
    match leastRoot (clear.map (sampleSq p)) with
    | some d => sat 16 (-d)
    | none => -32768
  else
    let dIn := (leastRoot (occ.map (sampleSq p))).map (· - 56)
    let face (v n : Nat) : Int := 64 * min (v : Int) (16 * n - v)
    let surface := min (face p.1 (j.dims.getD 0 1)) (min (face p.2.1 (j.dims.getD 1 1)) (face p.2.2 (j.dims.getD 2 1)))
    let dExt := shell.map fun m => surface + max 0 m
    match minO dIn dExt with
    | some d => sat 16 d
    | none => 32767

/-- The field of a box: per pan, the values of its 4,096 samples. -/
def State.distField (s : State) (j : DistJob) : List (List Int) :=
  let nx := j.dims.getD 0 1
  let ny := j.dims.getD 1 1
  let nz := j.dims.getD 2 1
  let shell := (shellCells j.base nx ny nz).foldl (fun m a => minO m (s.shellBound j.world j.cls a)) none
  let occ := j.samples.filter fun p => j.occupied p.1 p.2.1 p.2.2
  let clear := j.samples.filter fun p => !j.occupied p.1 p.2.1 p.2.2
  (List.range nz).flatMap fun pz => (List.range ny).flatMap fun py => (List.range nx).map fun px =>
    (List.range 4096).map fun i =>
      j.stored shell occ clear (16 * px + i % 16, 16 * py + i / 16 % 16, 16 * pz + i / 256)

/-- The payload that a box writes into one of its pans: the patched class from the field, the others as they stand; in a FAR
cell they take its FLOOR_MM (R110). -/
def State.distPayload (s : State) (j : DistJob) (a : CellAddr) (field : List Int) : List Byte :=
  let old : Nat → Nat → Int := match s.panAt j.world a with
    | some h => sampleOf (s.panPayload h)
    | none => fun _ _ => (dirFloor (s.dirEntry ((s.wd j.world).dirIndex a.cell)) : Nat)
  (List.range 4096).flatMap fun v => (List.range 4).flatMap fun c => leS 2 (if c = j.cls then at0 field v else old v c)

/-- The pans of a converted box go to the DIST_BUILD output area (R112; log entry 122). -/
def State.distOutput (job : Nat) (j : DistJob) (out : List (List Int)) (s : State) : State :=
  (List.range out.length).foldl (init := s) fun s k => match j.cells.getD k none with
    | none => s
    | some a =>
      let p := s.distPayload j a (out.getD k [])
      s.hbmWrite (distAddr (job % 8) k) (panHead 0 a 4 j.snapshot j.seq 56 (crc32c p) p ++ p)

/-- A box is converted, from T_c of its frame on (R112); its field is its output in the operator digest (log entry 147). -/
def State.distBuild (job : Nat) (s : State) : State :=
  match s.worlds.distJobs[job]? with
  | none => s
  | some j =>
    let due := j.output.isNone && (laterFrame s.frame.counter j.frame ||
      (j.frame == s.frame.counter && s.frame.phase != .closed && s.frame.phase != .opened))
    s.when_ due fun s =>
      let out := s.distField j
      let s := s.opDigest 4 0xFFFF 0xFFFF 0xFF job ((out.flatten).flatMap (leS 2))
      (s.distOutput job j out).modWorlds fun y => { y with distJobs := y.distJobs.modify job fun j => { j with output := some out } }

/-- DIST_BUILD (R110). -/
def execDistBuild (job : Nat) (t : Nat) (s : State) : Host.Outcome State Fault Refusal :=
  ranAt true t s (State.distBuild job)

/-- One pan of a finished box is written: the patched class from the field, the other classes as they stand; a FAR cell
takes a new coarse pan whose other classes hold its old FLOOR_MM (R110, R111). -/
def State.distPan (j : DistJob) (a : CellAddr) (field : List Int) (s : State) : State :=
  let w := j.world
  let i := (s.wd w).dirIndex a.cell
  let p := s.distPayload j a field
  let put (h : Nat) (s : State) : State := (s.brinePan h a 4 j.snapshot j.seq 56 (crc32c p) p).markDirty w i
  match s.panAt w a with
  | some h => put h s
  | none =>
    if !a.fine ∧ s.cellKind w a.cell = some 0 ∧ s.freeHandles > 0 then
      let t := s.takeHandle
      put t.1 (t.2.setDir w i (dirOf 1 0 t.1))
    else s

/-- The finished boxes of earlier frames are written into the world and counted against this frame's ingest budget; a
command whose boxes are all written is answered (R112, R320; log entry 31). -/
def State.writeBoxes (s : State) : State :=
  let ready := s.worlds.distJobs.filter fun j => j.output.isSome && laterFrame s.frame.counter j.frame
  let s := s.modWorlds fun y => { y with
    distJobs := y.distJobs.filter fun j => !(j.output.isSome && laterFrame s.frame.counter j.frame) }
  ready.foldl (init := s) fun s j =>
    let out := j.output.getD []
    let s := (List.range out.length).foldl (init := s) fun s k =>
      match j.cells.getD k none with
      | some a => s.distPan j a (out.getD k [])
      | none => s
    let s := s.modWorlds fun y => { y with ingestUsed := y.ingestUsed + 32832 * out.length }
    match j.cmd with
    | none => s
    | some l =>
      if s.worlds.distJobs.any fun o => o.cmd == some l then s
      else s.modCmd l.1 l.2 fun c =>
        if c.opcode = 0x0401 ∧ c.stage = .waiting ∧ c.response = none then
          let n := (match delimit (c.bulk.length + c.payload.length) (if c.descs.isEmpty then c.payload.drop 8 else c.bulk) [] with
            | .inr rs => rs.length
            | .inl _ => 0)
          { c with stage := .done, response := some { status := 0, payload := le 4 n ++ le 4 s.frameNo } }
        else c

end Sys2Proof.Machine
end

