-- ==== Sys2Proof/Machine/Sched.lean ====
section
/-!
DEFINITION. Sys2Proof/Machine/Sched.lean: cluster scheduling (chapter 10): offers, tokens, completions, unit takes, the
delay list, placement by affinity and by static schedule, and the gating of clusters and stack PLLs (R61, R62).
-/
namespace Sys2Proof.Machine

/-- Rewrites the scheduler of a cluster. -/
def State.modSched (p : Nat) (f : Scheduler → Scheduler) (s : State) : State :=
  s.modCl p fun c => { c with sched := f c.sched }

/-! ## Instants and assigned clusters (R43, R185, R404, R407) -/

/-- The instant a share of P after the open. -/
def State.partAt (s : State) (percent : Nat) : Nat := s.frame.openTime + s.frame.conf.part percent * ticksPerUs
/-- T_c of the frame. -/
def State.cutoffAt (s : State) : Nat := s.frame.openTime + s.frame.conf.tc * ticksPerUs
/-- 10 µs after the open, where the assay and the ingest start. -/
def State.assayAt (s : State) : Nat := s.frame.openTime + 10 * ticksPerUs
/-- 40 µs after the open, where the assay ends. -/
def State.assayEnd (s : State) : Nat := s.frame.openTime + 40 * ticksPerUs

/-- The assay cluster of stack `k` in the frame with a counter (R404). -/
def State.assayTarget (s : State) (k : Nat) (frame : BitVec 32) : Option Nat :=
  let l := s.enabledIn k
  if l.isEmpty then none else l[frame.toNat % l.length]?

/-- The rake target of stack `k` in the frame with a counter (R407). -/
def State.rakeTargetOf (s : State) (k : Nat) (frame : BitVec 32) : Option Nat :=
  let l := (s.enabledIn k).reverse
  if l.isEmpty then none else l[frame.toNat % l.length]?

/-- The re-verify cluster of a stream in a frame (R185): another stack than its home stack. -/
def State.reverifyCluster (s : State) (id : Nat) : Option Nat :=
  let k := (id % 4 + 1 + s.frameNo % 3) % 4
  let l := s.enabledIn k
  match l.find? fun p => decide (16 * k + id / 4 % 16 ≤ p) with
  | some p => some p
  | none => l.head?

/-- The assay cluster takes no other task before 40 µs (R50). -/
def State.assayHolds (s : State) (p : Nat) : Bool :=
  [Phase.opened, .afterCutoff].contains s.frame.phase && s.assayTarget (stackOf p) s.frame.counter == some p &&
    decide (s.time.now < s.assayEnd)

/-- No frame task goes to a stack's rake target during its rake slice (R55). -/
def State.rakeHolds (s : State) (p : Nat) : Bool :=
  s.frame.phase == .rake && s.rakeTargetOf (stackOf p) s.frame.counter == some p

/-- A cluster takes frame work: it is enabled, powered (R61) and not halted (R462), and neither the assay nor the rake slice holds
it. -/
def State.takesWork (s : State) (p : Nat) : Bool :=
  s.enabled p && (s.cl p).gate != .powerGated && !(s.cl p).halted && !s.assayHolds p && !s.rakeHolds p

/-- The slice that holds a cluster bars a task. -/
def State.barred (s : State) (p : Nat) (d : TaskDesc) : Bool :=
  (s.assayHolds p && d.op != .assay) || (s.rakeHolds p && !d.safety)

/-! ## Needs and gating (R58, R61, R62) -/

/-- The harvest deadline has passed in Throughput mode, or the cluster's frame work is complete in Exact mode. -/
def State.pastWork (s : State) (p : Nat) : Bool :=
  [Phase.afterHarvest, .published, .rake, .guarded].contains s.frame.phase || (s.frame.conf.exact && (s.cl p).workDone)

/-- The assay of the frame is still to end on a cluster. -/
def State.assayAhead (s : State) (p : Nat) : Bool :=
  let x := (s.cl p).test
  (s.stk (stackOf p)).assayCluster == some p && !(x.assayComplete && x.assayFrameLo == s.frameNo % 2 ^ 24)

/-- Frame work of this frame still to come for a cluster: the assay at 10 µs, or work from T_c on. -/
def State.frameNeed (s : State) (p : Nat) : List Nat :=
  if s.frame.phase = .opened then [if s.assayAhead p then s.assayAt else s.cutoffAt]
  else if s.frame.phase = .afterCutoff ∧ !s.pastWork p then [s.cutoffAt] else []

/-- The rake assignment of a cluster, until its slice ends. -/
def State.rakeNeed (s : State) (p : Nat) : List Nat :=
  if s.rakeTargetOf (stackOf p) s.frame.counter = some p ∧
      ([Phase.afterHarvest, .published].contains s.frame.phase ∨ (s.stk (stackOf p)).rakeTarget = some p)
  then [s.frame.rakeAt] else []

/-- The earliest next need of a cluster (R61). -/
def State.nextNeed (s : State) (p : Nat) : Nat :=
  let f := s.frame
  let base := f.nextOpen + ticksPerUs *
    if s.assayTarget (stackOf p) (f.counter + 1) = some p then 10 else (f.pendingConf.getD f.conf).tc
  let delays := (s.cl p).sched.dl.map fun h => f.openTime + h.task.release * ticksPerUs
  let attempts := if s.streams.any (fun x => x.attempting.isSome && s.reverifyCluster x.id == some p) then [s.time.now] else []
  (delays ++ s.frameNeed p ++ s.rakeNeed p ++ attempts).foldl min base

/-- Matching store, ready list and engines are empty (R61): no task runs, no check operation is in flight, and no engine operation of
T_h drains. -/
def Cluster.idle (c : Cluster) : Bool :=
  c.sched.ms.isEmpty && c.sched.rl.isEmpty && c.sched.running.isEmpty && c.inFlight.isEmpty && !c.draining

/-- A cluster's drain record as its structures stand. -/
def State.drainRecord (s : State) (p : Nat) (atGuard : Bool) : DrainRecord :=
  let x := (s.cl p).sched
  { frame := s.frame.counter, msFree := x.freeIn 0, rlFree := x.freeIn 1, dlFree := x.freeIn 2,
    creditsOut := (s.cl p).creditsOut, atGuard := atGuard }

/-- A cluster writes its drain record into its stack's store (R58, R260, R270). -/
def State.writeDrain (p : Nat) (atGuard : Bool) (s : State) : State :=
  s.sramWrite (drainAddr p) (s.drainRecord p atGuard).bytes

/-- An image is being copied to the stacks, which takes slots of every stack's DMA (R117, R125). -/
def State.copying (s : State) : Bool :=
  (s.images.rigSlots ++ s.images.netSlots ++ s.images.costSlots).any fun x => x.state == 1

/-- The stack DMA has a slot to come within 20 µs: what it holds, the copy of an image, or a query to resolve (R62). -/
def State.dmaAhead (s : State) (k : Nat) : Bool :=
  let x := s.stk k
  x.dmaTokens != 16 || !x.dmaTasks.isEmpty || !x.dmaTokensHeld.isEmpty || s.copying ||
    (s.enabledIn k).any fun p => !(s.cl p).parked.isEmpty

/-- The stack PLL stops when every enabled cluster is power-gated, the DMA has no slot to come and no need is near (R62). -/
def State.stopPll (k : Nat) (s : State) : State :=
  let l := s.enabledIn k
  let stop := (l.all fun p => (s.cl p).gate == .powerGated) && !s.dmaAhead k && !(s.stk k).hubOnly &&
    l.all fun p => decide (s.time.now + 20 * ticksPerUs ≤ s.nextNeed p)
  if stop then s.modStk k fun x => { x with pllStopped := true } else s

/-- The gap of the static schedule in which a cluster is power-gated now, with the instant of its end (R63): Exact mode. -/
def State.gatingGap (s : State) (p : Nat) : Option (Nat × Nat) :=
  (Config.gatingSchedule s.frame.schedule p).find? fun g =>
    decide (s.frame.openTime + g.1 ≤ s.time.now ∧ s.time.now < s.frame.openTime + g.2)

/-- An idle cluster may be power-gated: in Throughput mode when its next need is at least 6 µs away (R61), in Exact mode when the
static schedule says so (R63). -/
def State.mayGate (s : State) (p : Nat) : Bool :=
  s.pastWork p && if s.frame.conf.exact then (s.gatingGap p).isSome else decide (s.time.now + 6 * ticksPerUs ≤ s.nextNeed p)

/-- A power-gated cluster wakes: 2 µs before its next need, in Exact mode at the end of its gap in the schedule (R62, R63). -/
def State.wakeDue (s : State) (p : Nat) : Bool :=
  if s.frame.conf.exact then (s.gatingGap p).isNone else decide (s.nextNeed p ≤ s.time.now + 2 * ticksPerUs)

/-- An idle cluster is clock-gated and, past its frame work, power-gated (R61), behind its drain record if it has worked in the
frame; one that has not writes its record at the guard (R58). -/
def State.gateIdle (p : Nat) (s : State) : State :=
  let c := s.cl p
  if !s.enabled p || c.halted || !c.idle || c.gate == .powerGated then s
  else if s.mayGate p then
    (((if c.worked then s.writeDrain p false else s).modCl p fun c => { c with gate := .powerGated })).stopPll (stackOf p)
  else if c.gate = .on then s.modCl p fun c => { c with gate := .clockGated } else s

/-- Gating judged again on every cluster and stack: at T_h, at the start of harvest, at the end of publish and of the rake
slice, and at the guard (R61, R62). -/
def State.gateAll (s : State) : State :=
  [0, 1, 2, 3].foldl (fun s k => s.stopPll k) (s.enabledList.foldl (fun s p => s.gateIdle p) s)

/-! ## Scheduling cycles (R248, R249) -/

/-- Places of the source order of R248 behind the completions, which come first in UNIT order. -/
abbrev rankToken : Nat := 8
abbrev rankRelease : Nat := 9
abbrev rankDispatcher : Nat := 10

/-- The cluster cycle of a NoC cycle: two NoC cycles make one. -/
def clusterCycle (cyc : Nat) : Nat := cyc / 2

/-- A step of a source may take place: in a later cycle than the newest, or in it behind no later source. -/
def State.cycleDue (s : State) (p cyc rank : Nat) : Bool :=
  let x := (s.cl p).sched
  decide (x.cycle < clusterCycle cyc) || (x.cycle == clusterCycle cyc && decide (x.source ≤ rank))

/-- The step's cycle begins or goes on: entries freed before it in another cycle can be taken again. -/
def Scheduler.inCycle (x : Scheduler) (cyc rank : Nat) : Scheduler :=
  if x.cycle < clusterCycle cyc then { x with cycle := clusterCycle cyc, source := rank, freed := [0, 0, 0] }
  else { x with source := rank }

/-- The NoC cycle of an instant, from the frame open: seven to a tick of 5 ns (R252: 16 cycles are 11.43 ns). -/
def State.instantCycle (s : State) : Nat := 7 * (s.time.now - s.frame.openTime)

/-- The dispatch slot of a cluster (R252, R272). -/
def dispatchSlot (p cyc : Nat) : Bool := cyc % 16 == p % 16

/-! ## Admission (R243, R245, R251) -/

/-- The structure a task needs: 0 matching store, 1 ready list, 2 delay list. -/
def taskStruct (d : TaskDesc) : Nat := if d.tokens > 0 then 0 else if d.release > 0 then 2 else 1

/-- A safety task holds the reserved entry of a structure. -/
def Scheduler.reservedTaken (x : Scheduler) (st : Nat) : Bool := x.tasks.any fun h => h.task.safety && h.seat == st

/-- Entries of a structure free since the start of the cycle (R249). -/
def Scheduler.open_ (x : Scheduler) (st : Nat) : Nat := x.freeIn st - x.freed.getD st 0

/-- The entries of a structure that a task's class may take (R243, R251). -/
def Scheduler.room (x : Scheduler) (st : Nat) (safety : Bool) : Nat :=
  if safety || x.reservedTaken st then x.open_ st else x.open_ st - 1

/-- Entries of a structure become free in the cycle. -/
def Scheduler.free (x : Scheduler) (st n : Nat) : Scheduler := { x with freed := x.freed.modify st (· + n) }

/-- A completing task hands over `n` entries of a structure, or a successor has taken them. -/
def Scheduler.hand (x : Scheduler) (st n : Nat) : Scheduler := { x with inHand := x.inHand.modify st (· + n) }
def Scheduler.handed (x : Scheduler) (st : Nat) : Scheduler := { x with inHand := x.inHand.modify st (· - 1) }

/-- Tasks leave the scheduler at an instant: their entries are free from the next cycle on (R249). -/
def Scheduler.remove (x : Scheduler) (cyc : Nat) (gone : Held → Bool) : Scheduler :=
  let l := x.tasks.filter gone
  let x := if x.cycle < clusterCycle cyc ∧ !l.isEmpty then x.inCycle cyc 0 else x
  let rest (l : List Held) := l.filter fun h => !gone h
  l.foldl (fun x h => (x.free h.seat 1).free h.extraSeat h.task.succExtra)
    { x with ms := rest x.ms, rl := rest x.rl, dl := rest x.dl, running := x.running.filter fun r => !gone r.2 }

/-- The stream of a task: the one with its ID, or a guest whose home gave it that ID. -/
def State.streamOfTask (s : State) (id : Nat) : Option Stream :=
  match s.stream? id with
  | some x => some x
  | none => s.streams.find? fun x => s.wireId x.id == id

/-- The network image of a stream's session, or of a guest's binding. -/
def State.netOfStream (s : State) (id : Nat) : Net :=
  match s.streamOfTask id with
  | none => {}
  | some x => match x.guest with
    | some g => s.images.nets.getD g.net {}
    | none => ((s.ses x.session).net.map fun n => s.images.nets.getD n {}).getD {}

/-- A proposal block: a HEAD or LOCAL block, or a streamed pass (R245). -/
def isBlock (d : TaskDesc) : Bool := d.op == .firstBlock || d.op == .block || d.op == .repairBlock

/-- A cluster runs a task of an operation and stream. -/
def Cluster.runs (c : Cluster) (op : TaskOp) (stream : Nat) : Bool :=
  c.sched.running.any fun r => r.2.task.op == op && r.2.task.stream == stream

/-- The entry of the running task of an operation and stream whose output is still to be made. -/
def Cluster.toMake (c : Cluster) (op : TaskOp) (stream : Nat) : Option Nat :=
  (c.sched.running.find? fun r => r.2.task.op == op && r.2.task.stream == stream && !c.made.contains r.2.entry).map (·.2.entry)

/-- The streams of the blocks that a cluster has accepted and not made yet. -/
def Cluster.blocksAhead (c : Cluster) : List Nat :=
  (c.sched.tasks.filter fun h => isBlock h.task && !c.made.contains h.entry).map (·.task.stream)

/-- The queries for which a cluster holds a shortlist: those of its blocks, accepted or made, and of its entries (R223). -/
def Cluster.queriesHeld (c : Cluster) : List Nat :=
  (c.blocksAhead ++ c.blocks.map (·.1) ++ c.repairsAccepted.map (·.1) ++ c.shortlists.map (·.1)).dedup

/-- The candidate-record area can take 64 more records and the shortlist area a shortlist for the stream (R245): the records that
stand, carried plans and farmed entries among them, and those of the blocks accepted count (log entry 135). -/
def State.areasFit (s : State) (p stream : Nat) : Bool :=
  let c := s.cl p
  let bytes (id : Nat) : Nat := (s.netOfStream id).candBytes
  let used := sumN (c.cands.map fun x => bytes x.stream) + 64 * sumN (c.blocksAhead.map bytes)
  let held := c.queriesHeld
  let lists := sumN (held.map fun id => 4 * (s.netOfStream id).entryBytes)
  decide (used + 64 * bytes stream ≤ candAreaBytes) &&
    (held.contains stream || decide (lists + 4 * (s.netOfStream stream).entryBytes ≤ shortlistBytes))

/-- Body of the ENQUEUE, REFUSE, DISPATCH and DELAY_EXPIRY records (Table 20.10). -/
def taskBody (d : TaskDesc) (st producer reason : Nat) : List Byte :=
  le 2 d.layerId ++ le 2 d.operatorId ++ le 1 d.stream ++ le 1 d.phase ++ le 1 d.unit ++ le 1 st ++ le 2 d.age ++
    le 1 producer ++ zeros 4 ++ le 1 reason ++ zeros 8

/-- The code of a producer. -/
def producerCode : Producer → Nat
  | .dispatcher => 0
  | .stackDma => 1
  | .ownCluster => 2

/-- A scheduler record of a cluster goes to its stack's trace buffer. -/
def State.traceTask (p kind : Nat) (d : TaskDesc) (st producer reason : Nat) (s : State) : State :=
  s.trace (stackOf p) p kind (taskBody d st producer reason) d.layerId d.operatorId

/-- A refused offer: counted, traced, and in Exact mode recorded (R253, R255). -/
def State.refuseTask (p : Nat) (d : TaskDesc) (producer : Nat) (reserved : Bool) (s : State) : State :=
  let s := (s.bumpCl p 10).traceTask p 3 d (taskStruct d) producer (flag reserved 0)
  let r := s.fresh
  if s.frame.conf.exact then r.2.timingEvent 8 (stackOf p) p (r.1.toNat % 2 ^ 32) else s

/-- The list of a structure a task joins. -/
def Scheduler.push (x : Scheduler) (st : Nat) (h : Held) : Scheduler :=
  if st = 0 then { x with ms := x.ms ++ [h] } else if st = 1 then { x with rl := x.rl ++ [h] } else { x with dl := x.dl ++ [h] }

/-- A task joins a structure, holding an entry of `seat` and its SUCC_EXTRA entries; entering the ready list or delay list it
takes the next AGE (R248). -/
def State.enter (p seat : Nat) (d : TaskDesc) (producer : Nat) (s : State) : State :=
  let x := (s.cl p).sched
  let st := taskStruct d
  let d := if st = 0 then d else { d with age := x.age % 65536 }
  let s := s.modSched p fun x => { x.push st { entry := x.nextEntry, task := d, seat := seat, extraSeat := st } with
    nextEntry := x.nextEntry + 1, age := if st = 0 then x.age else x.age + 1 }
  (s.modCl p fun c => { c with gate := .on, worked := true }).traceTask p 2 d st producer 0

/-- An offer to a cluster (R245): accepted whole, with its SUCC_EXTRA entries, or refused with nothing written. `yes` and `no`
are what the producer does then. -/
def State.admitTask (p : Nat) (d : TaskDesc) (producer : Nat) (yes no : State → State) (s : State) : State :=
  let x := (s.cl p).sched
  let need := 1 + d.succExtra
  if x.room (taskStruct d) d.safety < need then no (s.refuseTask p d producer (decide (need ≤ x.open_ (taskStruct d))))
  else if isBlock d && !s.areasFit p d.stream then no (s.refuseTask p d producer false)
  else yes (s.enter p (taskStruct d) d producer)

/-! ## Placement (R252-R255) -/

/-- Weight streaming is in force (R155): a streamed image is bound to a RUNNING session. -/
def State.streaming (s : State) : Bool := s.sessions.any fun x => x.state == 3 && s.bindsStreamed x

/-- The first enabled cluster at or after a slot of a stack, wrapping. -/
def State.clusterFrom (s : State) (k slot : Nat) : Option Nat :=
  let l := s.enabledIn k
  match l.find? fun p => decide (16 * k + slot ≤ p) with
  | some p => some p
  | none => l.head?

/-- The affinity cluster of a stream (R253). -/
def State.affinityOf (s : State) (id : Nat) : Option Nat :=
  match (s.stream? id).bind (·.affinity) with
  | some p => some p
  | none => s.clusterFrom (id % 4) (id / 4 % 16)

/-- A task is offered only to one cluster: PINNED tasks, but not block 0 while weight streaming is in force, when its placement
is what fixes the stream's cluster (R254). -/
def State.pinnedNow (s : State) (d : TaskDesc) : Bool := d.pinned && !(d.op == .firstBlock && s.streaming)

/-- The cluster a PINNED task names, once it is known (R254): the cluster of block 0, the re-verify cluster of R185, or the one
in its operand block. -/
def State.pinTarget (s : State) (d : TaskDesc) : Option Nat :=
  match d.target, d.op with
  | some p, _ => some p
  | none, .reverify => s.reverifyCluster d.stream
  | none, .firstBlock | none, .stop | none, .repair | none, .carriedRecheck => (s.stream? d.stream).bind (·.block0)
  | none, _ => none

/-- A PINNED task is offered only to its cluster, and a CONTEXT_OUT copy once there is one to copy (R254). -/
def State.misplaced (s : State) (p : Nat) (d : TaskDesc) : Bool :=
  s.pinnedNow d && (s.pinTarget d != some p || (d.op == .contextCopy && ((s.stream? d.stream).bind (·.contextOut)).isNone))

/-- The cluster that the static schedule in force fixes for a task of a stack (R255). -/
def State.scheduledOn (s : State) (k : Nat) (key : List Byte) : Option Nat :=
  let l := s.enabledIn k
  l[(Config.staticSchedule s.frame.schedule key).1 % max 1 l.length]?

/-- The operations that a stream has once in a frame, on the cluster of its block 0 (R147, R239). -/
def singleOp (o : TaskOp) : Bool := [TaskOp.context, .firstBlock, .stop, .repair, .carriedRecheck].contains o

/-- The schedule key of a task's cluster: CONTEXT, STOP, REPAIR and the carried plan's re-check go where block 0 goes. -/
def placeKey (op : TaskOp) (stream n : Nat) : List Byte :=
  if singleOp op then scheduleKey (opCode .block) stream 0 else scheduleKey (opCode op) stream n

/-- The schedule key of a task: its place in the order of offers and its earliest slot. -/
def orderKey (op : TaskOp) (stream n : Nat) : List Byte :=
  if op = .firstBlock then scheduleKey (opCode .block) stream 0
  else if singleOp op then scheduleKey (opCode op) stream 0
  else scheduleKey (opCode op) stream n

/-- A task's place in the order of offers to its cluster, and its earliest slot (R255). -/
def State.orderOf (s : State) (key : List Byte) : Nat := (Config.staticSchedule s.frame.schedule key).2.1
def State.slotOf (s : State) (key : List Byte) : Nat := (Config.staticSchedule s.frame.schedule key).2.2

/-- A queued task's schedule key. -/
def taskKey (d : TaskDesc) : List Byte := orderKey d.op d.stream d.args

/-- While weight streaming is in force every cluster that holds a block of a stream runs CONTEXT for it without a task of its own
(R155); a stream that proposes nothing (R151) has no block to hold. -/
def State.contextPerBlock (s : State) (x : Stream) : Bool := s.streaming && x.outOfRange.isNone

/-- The tasks that a stream brings to the dispatcher in the frame, as far as the frame's state tells: CONTEXT and its blocks, the
repair blocks once their window is known, STOP, REPAIR and the carried plan's re-check. -/
def State.streamTasks (s : State) (x : Stream) : List (TaskOp × Nat) :=
  let blocks := match x.guest with
    | some g => g.blocks
    | none => x.candidates / 64
  let repairs := match x.guest with
    | some _ => 0
    | none => (s.ses x.session).settings.repairBlocks
  if !x.formed then []
  else
    (if s.contextPerBlock x then [] else [(.context, 0)]) ++ (if x.outOfRange.isSome then [] else
      (List.range blocks).map (fun i => (if i = 0 then .firstBlock else .block, i)) ++
        if x.repairWindow.isSome then (List.range repairs).map (fun i => (.repairBlock, i)) else []) ++
      (if x.stopPending then [(.stop, 0)] else []) ++ (if x.repairRuns.isEmpty then [] else [(.repair, 0)]) ++
      if x.carried.isSome && x.repairVerdict.isNone then [(.carriedRecheck, 0)] else []

/-- The schedule keys of the tasks that are still to be offered to cluster `p` in the frame. -/
def State.stillToOffer (s : State) (p : Nat) : List (List Byte) :=
  (s.streams.flatMap fun x => (s.streamTasks x).filterMap fun o =>
    if s.scheduledOn (s.wireId x.id % 4) (placeKey o.1 (s.wireId x.id) o.2) = some p then some (orderKey o.1 (s.wireId x.id) o.2)
    else none).filter fun k => !(s.cl p).taken.contains k

/-- The cluster of stack `k` to which a task at the dispatcher input is offered first. -/
def State.firstChoice (s : State) (k : Nat) (d : TaskDesc) : Option Nat :=
  if d.op = .assay then s.assayTarget k s.frame.counter
  else if d.op = .rake then s.rakeTargetOf k s.frame.counter
  else if d.target.isSome || d.op == .reverify then s.pinTarget d
  else if s.frame.conf.exact then s.scheduledOn k (placeKey d.op d.stream d.args)
  else if s.pinnedNow d then s.pinTarget d
  else s.affinityOf d.stream

/-- The cluster to which a waiting task's next offer is due. -/
def State.nextOffer (s : State) (k : Nat) (q : Queued) : Option Nat :=
  match q.next with
  | some p => some p
  | none => s.firstChoice k q.task

/-- Where a task's probe goes after cluster `p` (R253): the next enabled cluster that no slice holds, in ascending slot order
with a wrap; a full rotation starts again from the affinity cluster. Pinned and scheduled tasks stay. -/
def State.probeNext (s : State) (p : Nat) (q : Queued) : Queued :=
  if s.pinnedNow q.task || s.frame.conf.exact || q.task.safety then q
  else
    let start := q.start.getD p
    let l := (s.enabledIn (stackOf p)).filter fun r => r == start || !s.barred r q.task
    match (l.filter fun r => decide (p < r)) ++ l.filter fun r => decide (r ≤ p) with
    | r :: _ => if r = start then { q with start := none, next := none } else { q with start := some start, next := some r }
    | [] => { q with start := none, next := none }

/-- The task at the dispatcher input that is offered in a dispatch slot of cluster `p`: the oldest one whose offer is due to it
(R253). In Exact mode the first in the schedule's order, once its earliest slot has come and no task before it in the order is
still to be offered (R255). -/
def State.offered (s : State) (p cyc : Nat) : Option Queued :=
  let k := stackOf p
  let l := (s.stk k).dispatcher.filter fun q => s.nextOffer k q == some p
  if s.frame.conf.exact then
    let before (a b : List Byte) : Bool := decide (s.orderOf a < s.orderOf b)
    let first := (sortBy (fun (a b : Queued) => before (taskKey a.task) (taskKey b.task)) l).head?
    first.filter fun q => decide (s.slotOf (taskKey q.task) ≤ cyc) && !(s.stillToOffer p).any fun k => before k (taskKey q.task)
  else l.head?

/-- The acceptance of a CONTEXT, or of block 0 while weight streaming is in force, makes the cluster of block 0 known (R254). -/
def State.noteBlock0 (p : Nat) (d : TaskDesc) (s : State) : State :=
  if d.op == .context || (s.streaming && d.op == .firstBlock) then s.modStream d.stream fun x => { x with block0 := x.block0.getD p } else s

/-- The streams whose records carry an ID: the stream itself and guests of other nodes (R390). -/
def State.streamOn (s : State) (wid : Nat) (f : Stream → Stream) : State :=
  s.modStreams fun l => l.map fun x => if (match x.guest with
    | some g => g.stream
    | none => x.id) = wid then f x else x

/-- A block is accepted: counted for its query (R222, R245), and in Exact mode the task's place in the order is taken (R255). -/
def State.noteTaken (p : Nat) (d : TaskDesc) (s : State) : State :=
  let s := if isBlock d then s.streamOn d.stream fun x => { x with blocksAccepted := x.blocksAccepted + 1 } else s
  s.modCl p fun c => { c with taken := if c.taken.contains (taskKey d) then c.taken else c.taken ++ [(taskKey d)] }

/-- An acceptance of an unpinned task of a stream is an affinity hit or miss, and fixes the stream's affinity cluster (R253). -/
def State.noteAffinity (p : Nat) (d : TaskDesc) (s : State) : State :=
  if s.pinnedNow d || d.stream = 255 || s.frame.conf.exact then s
  else
    let a := s.affinityOf d.stream
    let hit := a == some p
    let s := s.bumpStk (stackOf p) (if hit then 2 else 3)
    let s := s.trace (stackOf p) (0xF0 + stackOf p) 5 (le 1 d.stream ++ le 1 (flag hit 0) ++ le 1 (a.getD 255) ++ le 1 p ++
      le 2 d.layerId ++ le 2 d.operatorId) d.layerId d.operatorId
    s.modStream d.stream fun x => { x with affinity := some p }

/-! ## Producers (R245, R256, R259) -/

/-- A producer offers a task for the first time. -/
def Flow.offer (f : Flow) : Flow := { f with offered := f.offered + 1 }
/-- A task is accepted. -/
def Flow.accept (f : Flow) : Flow := { f with accepted := f.accepted + 1 }
/-- Waiting tasks leave a producer's book. -/
def Flow.lose (f : Flow) (n : Nat) : Flow := { f with offered := f.offered - n }

/-- A task new to the dispatcher comes to its input, or to the CFW task list when the input is full, which is counted
(Table 10.3). -/
def State.newTask (k : Nat) (d : TaskDesc) (s : State) : State :=
  let x := s.stk k
  if (x.dispatcher.any fun q => q.task == d) || x.taskList.contains d then s
  else
    let s := s.modStk k fun x => { x with flow := x.flow.offer }
    if x.dispatcher.length ≥ inputDepth then (s.bumpStk k 1).modStk k fun y => { y with taskList := y.taskList ++ [d] }
    else s.queueTask k d

/-- The tasks that a stack's dispatcher, task list and DMA hold and that match go, and leave the producers' books. -/
def Stack.dropTasks (gone : TaskDesc → Bool) (x : Stack) : Stack :=
  let n := (x.dispatcher.filter fun q => gone q.task).length + (x.taskList.filter gone).length
  { x with
    dispatcher := x.dispatcher.filter fun q => !gone q.task, taskList := x.taskList.filter fun d => !gone d,
    flow := x.flow.lose n, dmaTasks := x.dmaTasks.filter fun d => !gone d.1,
    dmaFlow := x.dmaFlow.lose (x.dmaTasks.filter fun d => gone d.1).length }

/-- The tasks of an operation and stream are withdrawn wherever they wait: at the dispatcher or in a cluster of the home stack. -/
def State.withdraw (op : TaskOp) (stream : Nat) (s : State) : State :=
  let gone (d : TaskDesc) : Bool := d.op == op && d.stream == stream
  let cyc := s.instantCycle
  (s.modStk (stream % 4) (Stack.dropTasks gone)).modClusters fun l => l.map fun (c : Cluster) =>
    { c with sched := c.sched.remove cyc fun h => gone h.task }

/-- A PINNED task of a stream's sweep operation (R236, R239, R254): it waits at the input of the home stack's dispatcher until the
cluster of block 0 is known. -/
def pinnedTask (x : Stream) (wid : Nat) (op : TaskOp) : TaskDesc := {
  layerId := x.tagLayer, operatorId := x.tagOperator, phase := op.phase, unit := 1, tokens := 0, safety := false, pinned := true,
  keep := op.keep, succExtra := 0, stream := wid, args := operandArea, op := op }

/-- A PINNED task of a stream is issued, unless a cluster holds it. -/
def State.issuePinned (x : Stream) (op : TaskOp) (s : State) : State :=
  let wid := s.wireId x.id
  if s.clusters.any fun (c : Cluster) => c.sched.tasks.any fun h => h.task.op == op && h.task.stream == wid then s
  else s.newTask (wid % 4) (pinnedTask x wid op)

/-- The task that copies a stream's CONTEXT_OUT to a cluster (R254); its unit is the model's choice (log entry 136). -/
def copyTask (x : Stream) (wid p : Nat) : TaskDesc := {
  layerId := x.tagLayer, operatorId := x.tagOperator, phase := 5, unit := 0, tokens := 0, safety := false, pinned := true,
  keep := false, succExtra := 0, stream := wid, args := operandArea, op := .contextCopy, target := some p }

/-- The acceptance of a block other than block 0 sends a CONTEXT_OUT copy to the cluster, unless it holds one, runs CONTEXT itself
(R155), or a copy is on its way. -/
def State.issueCopy (p : Nat) (d : TaskDesc) (s : State) : State :=
  match s.streams.find? fun x => s.wireId x.id == d.stream with
  | none => s
  | some x =>
    let here := (s.cl p).contexts.any (·.1 == x.id) || x.block0 == some p ||
      (s.cl p).sched.tasks.any fun h => h.task.op == .contextCopy && h.task.stream == d.stream
    if (d.op == .block || d.op == .repairBlock) && !s.streaming && !here then s.newTask (stackOf p) (copyTask x d.stream p) else s

/-- The first waiting place of a task in the dispatcher input is rewritten, or leaves it. -/
def replaceFirst (d : TaskDesc) (r : Option Queued) : List Queued → List Queued
  | [] => []
  | q :: l => if q.task = d then r.toList ++ l else q :: replaceFirst d r l

/-- A task of the dispatcher input is offered to cluster `p`: passed over, refused or accepted (R253). -/
def State.offerTo (p : Nat) (q : Queued) (s : State) : State :=
  let k := stackOf p
  let d := q.task
  let keep (s : State) : State := s.modStk k fun x => { x with dispatcher := replaceFirst d (some (s.probeNext p q)) x.dispatcher }
  let take (s : State) : State :=
    ((((s.modStk k fun x => { x with dispatcher := replaceFirst d none x.dispatcher, flow := x.flow.accept }).noteAffinity p d).noteBlock0
      p d).noteTaken p d).issueCopy p d
  let full := !(s.pinnedNow d || s.frame.conf.exact || d.safety) && q.start.isNone && (s.cl p).sched.room 1 false == 0
  if s.barred p d || full then keep s else s.admitTask p d 0 take keep

/-- The dispatcher's slot for cluster `p`: the task that is due there is offered. -/
def State.dispatcherOffer (p cyc : Nat) (d : TaskDesc) (s : State) : State :=
  let s := s.newTask (stackOf p) d
  match s.offered p cyc with
  | none => s
  | some q => if q.task ≠ d then s else s.offerTo p q

/-- A stack DMA's slot for cluster `p`; a refused task stays in its queue. -/
def State.dmaOffer (p : Nat) (d : TaskDesc) (s : State) : State :=
  let k := stackOf p
  let s := if (s.stk k).dmaTasks.contains (d, p) then s
    else s.modStk k fun x => { x with dmaTasks := x.dmaTasks ++ [(d, p)], dmaFlow := x.dmaFlow.offer }
  let take (s : State) : State :=
    (s.modStk k fun x => { x with dmaTasks := x.dmaTasks.erase (d, p), dmaFlow := x.dmaFlow.accept }).noteTaken p d
  if s.barred p d || s.misplaced p d then s else s.admitTask p d 1 take id

/-- A cluster holds a task of its own for its next dispatch slot. -/
def State.holdOwn (p : Nat) (d : TaskDesc) (s : State) : State :=
  s.modCl p fun c => { c with own := c.own ++ [d], ownFlow := c.ownFlow.offer }

/-- A cluster's slot for its own work. -/
def State.ownOffer (p : Nat) (d : TaskDesc) (s : State) : State :=
  let s := if (s.cl p).own.contains d then s else s.holdOwn p d
  let take (s : State) : State :=
    (s.modCl p fun c => { c with own := c.own.erase d, ownFlow := c.ownFlow.accept }).noteTaken p d
  if s.barred p d || s.misplaced p d then s else s.admitTask p d 2 take id

/-- When an offer takes place: in a dispatch slot of an enabled cluster that is not power-gated, outside the guard. -/
def State.offerDue (s : State) (p cyc : Nat) (producer : Producer) : Bool :=
  let rank := if producer = .dispatcher then rankDispatcher else rankToken
  s.enabled p && (s.cl p).gate != .powerGated && s.frame.phase != .guarded && s.frame.phase != .closed && dispatchSlot p cyc &&
    s.cycleDue p cyc rank

/-- An offer of a producer to a cluster (R245). -/
def State.taskOffer (p : Nat) (producer : Producer) (d : TaskDesc) (cyc : Nat) (s : State) : State :=
  s.when_ (s.offerDue p cyc producer) fun s =>
    let s := s.modSched p fun x => x.inCycle cyc (if producer = .dispatcher then rankDispatcher else rankToken)
    match producer with
    | .dispatcher => s.dispatcherOffer p cyc d
    | .stackDma => s.dmaOffer p d
    | .ownCluster => s.ownOffer p d

/-- TASK_OFFER (R245). -/
def execTaskOffer (cluster : Nat) (producer : Producer) (task : TaskDesc) (t : CycleAt) (s : State) :
    Host.Outcome State Fault Refusal :=
  ranAt (below cluster 64 && task.wf) t.t s (State.taskOffer cluster producer task t.cyc)

/-! ## Tokens (R246, R249, R268) -/

/-- A task of phases 4 to 9 whose KEEP flag is clear: T_h abandons it (R51). -/
def abandons (d : TaskDesc) : Bool := decide (4 ≤ d.phase ∧ d.phase ≤ 9) && !d.keep

/-- T_h of a Throughput frame has come and its removal is still to be made: it goes before tokens and completions of the same
cycle (R249). -/
def State.removalDue (s : State) : Bool :=
  !s.frame.conf.exact && [Phase.opened, .afterCutoff].contains s.frame.phase && decide (s.partAt 72 ≤ s.time.now)

/-- A matching-store task leaves it for the ready list, or for the delay list when it has a release tick (Table 10.1; log entry
115), if an entry of its class is free or it holds one; else the token is refused and stays with the stack DMA. -/
def State.ready (p : Nat) (h : Held) (s : State) : State :=
  let x := (s.cl p).sched
  let k := stackOf p
  let d := { h.task with tokens := 0, age := x.age % 65536 }
  let st := taskStruct d
  if h.seat ≠ st ∧ x.room st h.task.safety = 0 then
    (s.refuseTask p h.task 1 (decide (0 < x.open_ st))).modStk k fun y => { y with
      dmaTokensHeld := if y.dmaTokensHeld.contains (p, h.entry) then y.dmaTokensHeld else y.dmaTokensHeld ++ [(p, h.entry)] }
  else
    let s := s.modSched p fun x =>
      { (if h.seat = st then x else x.free h.seat 1).push st { h with task := d, seat := st } with
        ms := x.ms.filter (·.entry != h.entry), age := x.age + 1 }
    ((s.modStk k fun y => { y with dmaTokensHeld := y.dmaTokensHeld.erase (p, h.entry) }).modCl p
      fun c => { c with gate := .on }).traceTask p 2 d st 1 0

/-- A token for a matching-store entry (R246); one for a removed task is discarded and counted (R249). -/
def State.token (p entry : Nat) (s : State) : State :=
  match (s.cl p).sched.ms.find? fun h => h.entry == entry && !(s.removalDue && abandons h.task) with
  | none => (s.bumpCl p 15).modStk (stackOf p) fun y => { y with dmaTokensHeld := y.dmaTokensHeld.erase (p, entry) }
  | some h =>
    if h.task.tokens ≤ 1 then s.ready p h
    else s.modSched p fun x => { x with
      ms := x.ms.map fun e => if e.entry = entry then { e with task := { e.task with tokens := e.task.tokens - 1 } } else e }

/-- In the header slot of its port (R272) an operand's bytes arrive in the scratchpad, then its token (R246, R268): a bad flit is a
fault, an access to a disabled cluster or a barred address an address fault (R263). A token that was refused is tried again without
the bytes. When the DMA falls idle, the stack PLL is judged again (R62). -/
def State.tokenDelivery (p entry : Nat) (o : Delivery) (cyc : Nat) (s : State) : State :=
  if !s.enabled p then s.addressFault p (scratchAddr p o.dma.off)
  else if !o.crcOk then s.hwFault 0x0102 p 0
  else s.when_ (dispatchSlot p cyc && s.cycleDue p cyc rankToken) fun s =>
    let s := s.modSched p fun x => x.inCycle cyc rankToken
    (if (s.stk (stackOf p)).dmaTokensHeld.contains (p, entry) then s.token p entry
    else s.dmaTransfer p o.dma o.waits o.read (State.token p entry)).stopPll (stackOf p)

/-- TOKEN_DELIVERY (R246). -/
def execTokenDelivery (cluster entry : Nat) (operand : Delivery) (t : CycleAt) (s : State) :
    Host.Outcome State Fault Refusal :=
  ranAt (below cluster 64 && operand.dma.wf) t.t s (State.tokenDelivery cluster entry operand t.cyc)

/-! ## Units (R248, R282) -/

/-- Ready-list order (R243). -/
def taskBefore (a b : Held) : Bool :=
  a.task.phase < b.task.phase || a.task.phase == b.task.phase && decide (a.task.age < b.task.age)

/-- The first ready-list task that names a unit (R248). -/
def Scheduler.firstFor (x : Scheduler) (unit : Nat) : Option Held :=
  (sortBy taskBefore (x.rl.filter fun h => h.task.unit == unit)).head?

/-- The assay begins on a cluster: it clears its nine registers (R406). -/
def State.assayBegins (p : Nat) (s : State) : State :=
  s.modCl p fun c => { c with test := { c.test with
    assaySig := List.replicate 8 0, assayComplete := false, assayFrameLo := 0, assayRunning := true } }

/-- A unit takes the first task that names it: dispatched, counted and traced. Its entries stay its own (R247). -/
def State.dispatch (p unit : Nat) (s : State) : State :=
  match (s.cl p).sched.firstFor unit with
  | none => s
  | some h =>
    let s := s.modSched p fun x => { x with rl := x.rl.filter (·.entry != h.entry), running := x.running ++ [(unit, h)] }
    let s := (s.traceTask p 4 h.task 1 0 0).selEvent 0 p 0x09 unit h.task.layerId h.task.operatorId 1
    if h.task.op = .assay then s.assayBegins p else s

/-- UNIT_TAKE: the read of the scheduler entry may be corrected or uncorrectable (R282). A task that the assay or the rake
slice bars is not taken (R50, R55). -/
def State.unitTake (p unit : Nat) (read : ReadFault) (s : State) : State :=
  let x := (s.cl p).sched
  let due := match x.firstFor unit with
    | none => false
    | some h => !s.barred p h.task
  s.when_ (s.enabled p && (s.cl p).gate != .powerGated && s.frame.phase != .guarded && !(s.cl p).halted && due &&
      !x.running.any (·.1 == unit)) fun s =>
    match read with
    | .none => s.dispatch p unit
    | .corrected => (s.sramCorrected p (schedKey p 1) 0).dispatch p unit
    | .uncorrectable => (s.bumpCl p 8).hwFault 0x0100 p 0

/-- UNIT_TAKE (R248). -/
def execUnitTake (cluster unit : Nat) (read : ReadFault) (t : Nat) (s : State) : Host.Outcome State Fault Refusal :=
  ranAt (below cluster 64 && below unit 6) t s (State.unitTake cluster unit read)

/-! ## Completions (R247, R260) -/

/-- One successor takes an entry that its predecessor held, whatever structure it joins; a successor whose own SUCC_EXTRA entries
are not free waits with the cluster, and the entry is free from the next cycle on (R245, R247; log entry 116). -/
def State.handOver (p seat : Nat) (d : TaskDesc) (s : State) : State :=
  let x := (s.cl p).sched
  if x.room (taskStruct d) d.safety < d.succExtra then
    ((s.refuseTask p d 2 (decide (d.succExtra ≤ x.open_ (taskStruct d)))).modSched p fun x => (x.handed seat).free seat 1).holdOwn p d
  else
    (((s.modSched p fun x => x.handed seat).enter p seat d 2).noteTaken p d).modCl p fun c => { c with
      ownFlow := c.ownFlow.offer.accept }

/-- A task completes (R247): its entry passes to its first successor and its held entries to the later ones, and count as occupied
until they have; entries that no successor takes are free from the next cycle on, and further successors wait with the cluster
for its dispatch slot. -/
def State.complete (p unit : Nat) (h : Held) (succ : List TaskDesc) (s : State) : State :=
  let extra := min h.task.succExtra (succ.length - 1)
  let s := s.modSched p fun x =>
    let x := { x with running := x.running.filter (·.1 != unit) }
    ((if succ.isEmpty then x.free h.seat 1 else (x.hand h.seat 1).hand h.extraSeat extra)).free h.extraSeat (h.task.succExtra - extra)
  let s := ((succ.take (1 + h.task.succExtra)).zipIdx).foldl (init := s) fun s n =>
    s.handOver p (if n.2 = 0 then h.seat else h.extraSeat) n.1
  (succ.drop (1 + h.task.succExtra)).foldl (init := s) fun s n => s.holdOwn p n

/-- A CONTEXT_OUT copy that completes has reached its cluster (R254). -/
def State.copyDone (p : Nat) (d : TaskDesc) (s : State) : State :=
  match d.op, s.streams.find? fun x => s.wireId x.id == d.stream with
  | .contextCopy, some x => match x.contextOut with
    | some v => s.modCl p fun c => { c with contexts := upsert x.id v c.contexts }
    | none => s
  | _, _ => s

/-- SCHED_BOOK of a cluster (R260): the fault record names no book that the manual gives a code; the free counts as found are its
argument (log entry 137). -/
def State.schedBook (p : Nat) (s : State) : State :=
  let x := (s.cl p).sched
  s.detect 0x0007 (stackOf p) p 0xFF (le 4 (x.freeIn 0) ++ le 4 (x.freeIn 1) ++ le 4 (x.freeIn 2))

/-- TASK_COMPLETION: a book that does not balance is SCHED_BOOK (R260), and an idle cluster is gated. -/
def State.completion (p unit : Nat) (succ : List TaskDesc) (bookOk : Bool) (cyc : Nat) (s : State) : State :=
  match (s.cl p).sched.running.find? fun h => h.1 == unit && !(s.removalDue && abandons h.2.task) with
  | none => s
  | some h => s.when_ (s.cycleDue p cyc unit) fun s =>
    let s := ((s.modSched p fun x => x.inCycle cyc unit).complete p unit h.2 succ).copyDone p h.2.task
    let s := if bookOk then s else s.schedBook p
    s.gateIdle p

/-- TASK_COMPLETION (R247). -/
def execTaskCompletion (cluster unit : Nat) (successors : List TaskDesc) (bookOk : Bool) (t : CycleAt) (s : State) :
    Host.Outcome State Fault Refusal :=
  ranAt (below cluster 64 && below unit 6 && successors.all (·.wf)) t.t s
    (State.completion cluster unit successors bookOk t.cyc)

/-! ## Delay list (R250) -/

/-- Delay-list order (R243). -/
def delayBefore (a b : Held) : Bool :=
  a.task.release < b.task.release || a.task.release == b.task.release && decide (a.task.age < b.task.age)

/-- The first task of a class in the delay list. -/
def Scheduler.firstDelayed (x : Scheduler) (safety : Bool) : Option Held :=
  (sortBy delayBefore (x.dl.filter fun h => h.task.safety == safety)).head?

/-- A delayed task moves to the ready list from its release tick on, keeping its AGE, when an entry of its class is free or it
holds one. -/
def State.release (p : Nat) (h : Held) (s : State) : State :=
  let x := (s.cl p).sched
  s.when_ (decide (s.frame.openTime + h.task.release * ticksPerUs ≤ s.time.now) &&
      (h.seat == 1 || decide (0 < x.room 1 h.task.safety))) fun s =>
    let s := s.modSched p fun x => { (if h.seat = 1 then x else x.free h.seat 1) with
      dl := x.dl.filter (·.entry != h.entry), rl := x.rl ++ [{ h with task := { h.task with release := 0 }, seat := 1 }],
      age := x.age + 1 }
    ((s.modCl p fun c => { c with gate := .on }).traceTask p 6 h.task 2 0 0).selEvent 0 p 0x08 0 h.task.layerId h.task.operatorId 1

/-- DELAY_RELEASE: the tasks of a class leave in the list's order. -/
def State.delayRelease (p entry cyc : Nat) (s : State) : State :=
  let x := (s.cl p).sched
  match x.dl.find? (·.entry == entry) with
  | none => s
  | some h =>
    s.when_ (s.cycleDue p cyc rankRelease && x.firstDelayed h.task.safety == some h) fun s =>
      (s.modSched p fun x => x.inCycle cyc rankRelease).release p h

/-- DELAY_RELEASE (R250). -/
def execDelayRelease (cluster entry : Nat) (t : CycleAt) (s : State) : Host.Outcome State Fault Refusal :=
  ranAt (below cluster 64) t.t s (State.delayRelease cluster entry t.cyc)

/-! ## Safety tasks (R50, R55, R250, R251) -/

/-- The task of the assay or of a rake slice on CC0; a rake slice has its start as its release tick (R250). -/
def safetyDesc (op : TaskOp) (release : Nat) : TaskDesc := {
  layerId := 0, operatorId := 0, phase := op.phase, unit := 4, tokens := 0, safety := true, pinned := false, keep := false,
  succExtra := 0, stream := 255, args := operandArea, release := release, op := op }

/-- A free unit takes the first task that names it, unless a slice bars it. -/
def State.takeFree (p unit : Nat) (s : State) : State :=
  let x := (s.cl p).sched
  s.when_ (!x.running.any (·.1 == unit) && ((x.firstFor unit).map fun h => !s.barred p h.task).getD false) (State.dispatch p unit)

/-- The task of a slice comes to the dispatcher input and is offered to the cluster; refused, it waits there (R256). In the delay
list its release tick has come, and CC0 takes it when it is free (R248). -/
def State.safetyTask (p : Nat) (op : TaskOp) (release : Nat) (s : State) : State :=
  let d := safetyDesc op release
  let s := s.newTask (stackOf p) d
  let s := if (s.stk (stackOf p)).dispatcher.any (·.task == d) then s.offerTo p { task := d } else s
  (((s.cl p).sched.dl.filter fun h => h.task.op == op).foldl (fun s h => s.release p h) s).takeFree p 4

/-- The safety task of a slice ends, wherever it stands, and returns its entries. -/
def State.endSafety (p : Nat) (op : TaskOp) (s : State) : State :=
  let s := s.modStk (stackOf p) fun x => { x with
    dispatcher := x.dispatcher.filter fun q => q.task.op != op, taskList := x.taskList.filter fun d => d.op != op }
  s.modSched p fun x => x.remove s.instantCycle fun h => h.task.op == op

/-! ## Waking (R61, R62) and credits (R274) -/

/-- A power-gated cluster starts waking when it is due, on a running PLL; its structures come back empty. -/
def State.clusterWake (p : Nat) (s : State) : State :=
  s.when_ (s.enabled p && (s.cl p).gate == .powerGated && !(s.stk (stackOf p)).pllStopped && s.wakeDue p) fun s =>
    s.modCl p fun c => { c with
      gate := .waking, sched := { age := c.sched.age, nextEntry := c.sched.nextEntry, cycle := c.sched.cycle } }

/-- CLUSTER_WAKE (R62). -/
def execClusterWake (cluster : Nat) (t : Nat) (s : State) : Host.Outcome State Fault Refusal :=
  ranAt (below cluster 64) t s (State.clusterWake cluster)

/-- A stopped stack PLL restarts 10 µs before the earliest next need of the stack. -/
def State.pllRestart (k : Nat) (s : State) : State :=
  s.when_ ((s.stk k).pllStopped && !(s.stk k).hubOnly &&
      (s.enabledIn k).any fun p => decide (s.nextNeed p ≤ s.time.now + 10 * ticksPerUs)) fun s =>
    s.modStk k fun x => { x with pllStopped := false }

/-- PLL_RESTART (R62). -/
def execPllRestart (stack : Nat) (t : Nat) (s : State) : Host.Outcome State Fault Refusal :=
  ranAt (below stack 4) t s (State.pllRestart stack)

/-- NOC_CREDIT_TIMEOUT: the credit stays outstanding, and it is SCHED_BOOK of the stack whose endpoint issued it (R274). -/
def execNocCreditTimeout (stack endpoint : Nat) (t : Nat) (s : State) : Host.Outcome State Fault Refusal :=
  ranAt (below stack 4 && below endpoint 19) t s fun s => (s.creditLost stack endpoint).detect 0x0007 stack 0xFF 0xFF (le 8 endpoint)

end Sys2Proof.Machine
end

