-- ==== Sys2Proof/Machine/MemEvents.lean ====
section
/-!
DEFINITION. Sys2Proof/Machine/MemEvents.lean: the background scratchpad test (R284, R285), the HBM refresh bands (R281) and the end
of an image's copies.
-/
namespace Sys2Proof.Machine

/-- Addresses of the 32 rows of test region `r` of a scratchpad: consecutive rows of one bank (R284). -/
def regionRows (p r : Nat) : List Nat :=
  (List.range 32).map fun i => scratchAddr p (placeOffset (r / 256) (r % 256 * 32 + i))

/-- A march over a region: its bytes are copied to the bank's step spare, served from there, and restored row by row (R284). -/
def State.march (p r : Nat) (s : State) : State :=
  let spare := r / 256 * 512 + (s.cl p).test.sparesUsed.getD (r / 256) 0 % 2 * 256
  let bs := (regionRows p r).flatMap fun a => Mem.readBytes s.sram a 8
  let s := s.modCl p fun c => { c with test := { c.test with spares := Mem.writeBytes spare bs c.test.spares } }
  let back := Mem.readBytes (s.cl p).test.spares spare 256
  (List.range 32).foldl (init := s) fun s i => s.sramWrite ((regionRows p r).getD i 0) (slice back (8 * i) 8)

/-- A fault found by the march of a region: it stays mapped to S0, or, with both spares used, stays in use and marks the
cluster for retirement (R285, R422, R425). -/
def State.bgtFault (p r : Nat) (s : State) : State :=
  let bank := r / 256
  let used := (s.cl p).test.sparesUsed.getD bank 0
  let s := s.modCl p fun c => { c with test := { c.test with
    bgtFail := true, bgtFailBank := bank, sparesUsed := c.test.sparesUsed.set bank (min 2 (used + 1)),
    remapped := if used = 0 then insertAsc r c.test.remapped else c.test.remapped,
    retirePending := c.test.retirePending || used != 0,
    retireCause := if used = 0 then c.test.retireCause else 2 } }
  if used = 0 then s
  else (s.modBoot fun b => { b with markNew := true }).warn 0x0122 (stackOf p) p (le 8 bank)

/-- One step of the background test runs; in a bank with both spares used it is skipped. -/
def State.bgtRun (p : Nat) (found : Bool) (s : State) : State :=
  let x := (s.cl p).test
  let s := if x.sparesUsed.getD (x.bgtRegion / 256) 0 < 2 then
      let s := s.march p x.bgtRegion
      if found then s.bgtFault p x.bgtRegion else s
    else s
  s.modCl p fun c => { c with test := { c.test with bgtRegion := (c.test.bgtRegion + 1) % 16384 } }

/-- A step of the background test is due: while the previous step runs it waits, with what its march will find, and sets LATE. The
steps that waited have run, in order, by the time the next one runs (log entry 123). -/
def State.bgtStep (p : Nat) (running found : Bool) (s : State) : State :=
  s.when_ (s.enabled p && s.aon.railsUp) fun s =>
    if running then
      s.modCl p fun c => { c with test := { c.test with bgtLate := true, bgtWaiting := c.test.bgtWaiting ++ [found] } }
    else
      (((s.cl p).test.bgtWaiting ++ [found]).foldl (fun s f => s.bgtRun p f) s).modCl p fun c =>
        { c with test := { c.test with bgtWaiting := [] } }

/-- BGT_STEP (R284, R285). -/
def execBgtStep (cluster : Nat) (running faultFound : Bool) (t : Nat) (s : State) : Host.Outcome State Fault Refusal :=
  ranAt (below cluster 64) t s (State.bgtStep cluster running faultFound)

/-- The refresh band at a temperature: 0 base, 1 double, 2 double with insertions. A band is entered at its threshold and
left 2 K below it. -/
def refreshBand (old : Nat) (c : Int) : Nat :=
  let up := if c > 95 then 2 else if c > 85 then 1 else 0
  let keep := if old = 2 ∧ c > 93 then 2 else if old ≥ 1 ∧ c > 83 then 1 else 0
  max up keep

/-- An HBM stack's temperature is read: the band changes at once, and above 95 °C an extra refresh follows every reserved slot,
each counted, which is a timing-only event (R281, Table 12.4 code 1). How many slots the 32 µs hold is not given: a free
value, as is the delay (log entry 5). -/
def State.hbmTempRead (h : Nat) (c : Int) (s : State) : State :=
  s.when_ s.aon.railsUp fun s =>
    let band := refreshBand (s.hub.hbmBand.getD h 0) c
    let s := s.modHub fun x => { x with hbmTemp := x.hbmTemp.set h c, hbmBand := x.hbmBand.set h band }
    let s := s.modAon fun a => { a with tempHbm := maxD c s.hub.hbmTemp }
    if band = 2 then
      let n := s.fresh
      let r := (n.2.bumpHub 2 (1 + n.1.toNat)).fresh
      r.2.timingEvent 1 0xFF 0xFF (r.1.toNat % 2 ^ 32)
    else s

/-- HBM_TEMP_READ (R281). -/
def execHbmTempRead (hbm : Nat) (tempC : Int) (t : Nat) (s : State) : Host.Outcome State Fault Refusal :=
  ranAt (below hbm 2) t s (State.hbmTempRead hbm tempC)

/-- The copies of an image are complete: every stack's DMA falls idle, and its PLL is judged again (R62). -/
def State.copiesEnd (kind slot : Nat) (s : State) : State :=
  [0, 1, 2, 3].foldl (fun s k => s.stopPll k) (s.copyComplete kind slot)

/-- IMAGE_COPY_COMPLETE (R125, R135, R216). -/
def execImageCopyComplete (kind slot : Nat) (t : Nat) (s : State) : Host.Outcome State Fault Refusal :=
  ranAt (imageSlotOk kind slot) t s (State.copiesEnd kind slot)

end Sys2Proof.Machine
end

