-- ==== Sys2Proof/Machine/Binding.lean ====
section
/-!
DEFINITION. Sys2Proof/Machine/Binding.lean: what a stream's work is bound to (world, images, settings, limits), and the
splines of R148: control points, basis, derivative bounds (R175, R176) and the time-scaling grid (R203).
-/
namespace Sys2Proof.Machine

/-! ## Bindings and limits -/

/-- What the work of a stream is bound to; `wid` is the stream ID in keys and records. -/
structure Binding where
  wid : Nat := 0
  world : Nat := 0
  rig : Rig := {}
  net : Net := {}
  cost : Cost := {}
  set : Settings := {}
  classS : Bool := false

/-- The binding of a stream: its session's, or a guest's own (R390). -/
def State.binding (s : State) (x : Stream) : Binding :=
  match x.guest with
  | some g => {
      wid := g.stream, world := g.world, rig := s.images.rigs.getD g.rig {}, net := s.images.nets.getD g.net {},
      cost := s.images.costs.getD g.cost {}, set := g.settings }
  | none =>
    let y := s.ses x.session
    { wid := x.id, world := y.world.getD 0, rig := s.images.rigs.getD (y.rig.getD 0) {},
      net := s.images.nets.getD (y.net.getD 0) {}, cost := s.images.costs.getD (y.cost.getD 0) {}, set := y.settings,
      classS := y.classS }

/-- A limit under the speed scale: floor(v * (k / 256)^p), never 0 (R134). -/
def scaled (k p v : Nat) : Nat := max 1 (v * k ^ p / 256 ^ p)

/-- A rate limit of Table 05.4 in joint LSB per (0.25 µs)^p, rounded FLOOR (R204); the manual does not give its fraction
bits (log entry 42). -/
def convertRate (revolute : Bool) (p v : Nat) : Nat :=
  v * (if revolute then 1024 else 4) * 2 ^ Config.limitFrac p / 4000000 ^ p

/-- Degrees of freedom. -/
def Binding.dof (b : Binding) : Nat := b.rig.dof
/-- Control points per joint: n of R148. -/
def Binding.n (b : Binding) : Nat := b.net.ncp + 6
/-- σ_end of R175. -/
def Binding.sigmaEnd (b : Binding) : Nat := (b.n - 3) * 65536
/-- A joint's span: the base window for joint 0, else its position limits (R140). -/
def Binding.span (b : Binding) (j : Nat) : Int × Int :=
  let r := b.rig.joint j
  let within (v : Int) : Int := max r.posMin (min v r.posMax)
  match j, b.set.baseWindow with
  | 0, some w => (within w.1, within w.2)
  | _, _ => (r.posMin, r.posMax)
/-- Whether a joint is revolute. -/
def Binding.revolute (b : Binding) (j : Nat) : Bool := (b.rig.joint j).type == 1
/-- Converted velocity, acceleration, jerk and stop limits of a joint (R204, R235). -/
def Binding.velLim (b : Binding) (j : Nat) : Nat :=
  convertRate (b.revolute j) 1 (scaled b.set.speedScale 1 (b.rig.joint j).velMax)
def Binding.accLim (b : Binding) (j : Nat) : Nat :=
  convertRate (b.revolute j) 2 (scaled b.set.speedScale 2 (b.rig.joint j).accMax)
def Binding.jerkLim (b : Binding) (j : Nat) : Nat :=
  convertRate (b.revolute j) 3 (scaled b.set.speedScale 3 (b.rig.joint j).jerkMax)
def Binding.stopLim (b : Binding) (j : Nat) : Nat :=
  convertRate (b.revolute j) 2 (scaled b.set.speedScale 2 (b.rig.joint j).stopAcc)
/-- V_MAX of a tool point for a class; 0 is no limit at any scale (R133, R134). -/
def Binding.vMax (b : Binding) (t : RigTool) (c : Nat) : Nat :=
  let v := (t.limits.getD c (0, 0, 0)).1
  if v = 0 then 0 else scaled b.set.speedScale 1 v
/-- Some tool point has a nonzero V_MAX (R206). -/
def Binding.cartesian (b : Binding) : Bool := b.rig.tools.any fun t => t.limits.any fun l => l.1 != 0
/-- A crust entry in 1/64 mm (R96, R166); an UNSET entry cannot reach a running session. -/
def Binding.crust (b : Binding) (c g : Nat) : Int := 64 * (b.set.crust.getD (16 * c + g) none).getD 0
/-- The session's largest crust in 1/64 mm (R172). -/
def Binding.maxCrust (b : Binding) : Int := 64 * ((b.set.crust.map (·.getD 0)).foldl max 0 : Nat)

/-! ## Normalisation (R140) -/

/-- A joint position as an S16 of its span. -/
def normalise (sp : Int × Int) (q : Int) : Int := sat 16 ((q - sp.1) * 65536 / (max 1 (sp.2 - sp.1)) - 32768)
/-- The position of a normalised value. -/
def denormalise (sp : Int × Int) (n : Int) : Int := sp.1 + (n + 32768) * (sp.2 - sp.1) / 65536

/-! ## Splines -/

/-- Control point `i` of joint `d`; control points are joint-major. -/
def cpAt (cp : List (List Int)) (d i : Nat) : Int := at0 (cp.getD d []) i

/-- q(σ) (R175): the four cubic basis numerators over 6 * 2^48, rounded FLOOR once. -/
def splineAt (cp : List (List Int)) (dof n sigma : Nat) : List Int :=
  let k := min (sigma / 65536) (n - 4)
  let f : Int := (sigma - k * 65536 : Nat)
  let o : Int := 65536
  (List.range dof).map fun d =>
    let c (i : Nat) := cpAt cp d (k + i)
    ((o - f) ^ 3 * c 0 + (3 * f ^ 3 - 6 * o * f ^ 2 + 4 * o ^ 3) * c 1
      + (-3 * f ^ 3 + 3 * o * f ^ 2 + 3 * o ^ 2 * f + o ^ 3) * c 2 + f ^ 3 * c 3) / (6 * 2 ^ 48)

/-- D of R176: bound on the derivative of joint `d` over segment `k`, in joint LSB per unit σ. -/
def derivBound (cp : List (List Int)) (d k : Nat) : Nat :=
  ((List.range 3).map fun i => (cpAt cp d (k + i + 1) - cpAt cp d (k + i)).natAbs).foldl max 0

/-- D2 of R203: bound on the second derivative over segment `k`. -/
def deriv2Bound (cp : List (List Int)) (d k : Nat) : Nat :=
  ((List.range 2).map fun i => (cpAt cp d (k + i + 2) - 2 * cpAt cp d (k + i + 1) + cpAt cp d (k + i)).natAbs).foldl max 0

/-- The rate of a link for given joint bounds (R176), in 1/64 mm per unit σ. -/
def Rig.linkRate (r : Rig) (i : Nat) (bound : Nat → Nat) : Nat :=
  let js := ((r.chain i).map r.link).filter fun l => l.jointType != 0
  let rev := sumN ((js.filter fun l => l.jointType == 1).map fun l =>
    (r.lips.getD i []).getD l.jointIdx 0 * bound l.jointIdx)
  ceilDiv rev (2 ^ 26) + sumN ((js.filter fun l => l.jointType == 2).map fun l => bound l.jointIdx)

/-- K of R176 for link `i` in segment `k`. -/
def Rig.rateIn (r : Rig) (cp : List (List Int)) (i k : Nat) : Nat := r.linkRate i fun j => derivBound cp j k

/-- E_q of R175. -/
def Rig.eq (r : Rig) (i : Nat) : Nat :=
  let js := ((r.chain i).map r.link).filter fun l => l.jointType != 0
  ceilDiv (sumN ((js.filter fun l => l.jointType == 1).map fun l => (r.lips.getD i []).getD l.jointIdx 0)) (2 ^ 26)
    + (js.filter fun l => l.jointType == 2).length

/-! ## The time-scaling grid (R203) -/

/-- σ_g. -/
def gridSigma (sigmaEnd g : Nat) : Nat := g * sigmaEnd / 255
/-- The last grid point not after σ. -/
def gridLo (sigmaEnd sigma : Nat) : Nat := ((List.range 256).filter fun g => gridSigma sigmaEnd g ≤ sigma).getLastD 0
/-- The first grid point not before σ. -/
def gridHi (sigmaEnd sigma : Nat) : Nat := ((List.range 256).find? fun g => decide (sigma ≤ gridSigma sigmaEnd g)).getD 255

/-- A time-map entry; a missing one is all zero. -/
def tmAt (tm : List TmEntry) (g : Nat) : TmEntry := tm.getD g ⟨0, 0, 0, 0⟩

/-! ## The streams of the frame -/

/-- A stream works in the frame: its query has been formed at T_c and its session (if it is no guest) is RUNNING. -/
def State.works (s : State) (x : Stream) : Bool :=
  x.query.isSome && x.formed && (x.guest.isSome || (s.ses x.session).state == 3)

/-- It proposes: it works and R151 does not apply. -/
def State.proposes (s : State) (x : Stream) : Bool := s.works x && x.outOfRange.isNone

/-- The interval of phases 4 to 9: from T_c to the harvest. -/
def State.working (s : State) : Bool := s.frame.phase == .afterCutoff && s.gridRuns

/-- Ordinary blocks of a stream in the frame. -/
def Stream.blocks (x : Stream) : Nat :=
  match x.guest with
  | some g => g.blocks
  | none => x.candidates / 64

/-- The query of a stream, or an empty one. -/
def Stream.q (x : Stream) : Query := x.query.getD ⟨x.id, 0, 0, 0, [], [], [], 0⟩

/-- The candidate of a cluster that satisfies a test, by stream and generator index. -/
def Cluster.cand? (c : Cluster) (stream g : Nat) (p : Cand → Bool) : Option Cand :=
  c.cands.find? fun x => x.stream == stream && x.g == g && !x.dropped && p x

/-- Rewrites the first such candidate. -/
def modFirst (p : Cand → Bool) (f : Cand → Cand) : List Cand → List Cand
  | [] => []
  | x :: r => if p x then f x :: r else x :: modFirst p f r

/-- Rewrites the first candidate of a cluster that satisfies a test. -/
def State.modCand (cl stream g : Nat) (p : Cand → Bool) (f : Cand → Cand) (s : State) : State :=
  s.modCl cl fun c => { c with
    cands := modFirst (fun x => x.stream == stream && x.g == g && !x.dropped && p x) f c.cands }

/-- Adds to a query's tally on a cluster (R225). -/
def State.tallyOn (cl stream : Nat) (f : Tally → Tally) (s : State) : State :=
  s.modCl cl fun c => { c with tallies := upsert stream (f (lookupD {} stream c.tallies)) c.tallies }

/-- Saturating S32 addition of tallies. -/
def addS (a b : Int) : Int := sat 32 (a + b)

end Sys2Proof.Machine
end

