-- ==== Sys2Proof/Machine/Geometry.lean ====
section
/-!
DEFINITION. Sys2Proof/Machine/Geometry.lean: points in segment frames (R84, R86, R118, R131), the certified bound on a
point's clearance from the pans (R87-R90, R162, R165, R166) and from movers (R99, R100, R170, R171).
-/
namespace Sys2Proof.Machine

/-! ## Segment frames -/

/-- The segment that holds a base chainage (R118); none where it lies outside the world. -/
def World.baseSeg (w : World) (q0 : Int) : Option Nat :=
  (List.range w.segments.length).find? fun i => decide ((w.seg i).sStart ≤ q0 ∧ q0 < (w.seg i).sStart + (w.seg i).length)

/-- The frame in which the rig is placed; a base outside the world is placed in the nearer end segment. -/
def World.baseFrame (w : World) (q0 : Int) : Nat :=
  (w.baseSeg q0).getD (if q0 < 0 then 0 else w.segments.length - 1)

/-- S32 coordinates, with GEOM_SAT where one saturates (R70). -/
def fitS32 (p : List Int) : List Int × Nat := collect (p.map (saturate 32 geomSat))

/-- The term that one vertex adds to an error bound (R131); `p` is relative to the vertex. -/
def vertexTerm (p : List Int) : Nat := ceilDiv (3 * vAbs1 p) (2 ^ 15) + 2

/-- A point re-expressed across a vertex: its S32 coordinates, the error term (R131) and the flags raised. -/
structure Carried where
  p : List Int
  err : Nat
  flags : Nat

/-- A point of segment `i` in the frame of segment `i + 1`. -/
def World.forward (w : World) (i : Nat) (p : List Int) : Carried :=
  let r := vSub p [(w.seg i).length, 0, 0]
  let x := fitS32 (shr 14 (mulV (transpose (w.seg i).nextRot) r))
  ⟨x.1, vertexTerm r, x.2⟩

/-- A point of segment `i` in the frame of segment `i - 1`. -/
def World.back (w : World) (i : Nat) (p : List Int) : Carried :=
  let g := w.seg (i - 1)
  let x := fitS32 (vAdd (shr 14 (mulV g.nextRot p)) [g.length, 0, 0])
  ⟨x.1, vertexTerm p, x.2⟩

/-- On or after the bisecting plane at the end vertex of segment `i` (R86): the plane's normal is the sum of the two
directions, the next one's being the first column of NEXT_ROT (log entry 44). -/
def World.pastEnd (w : World) (i : Nat) (p : List Int) : Bool :=
  decide (i + 1 < w.segments.length) &&
    decide (0 ≤ vDot (vAdd [16384, 0, 0] (col (w.seg i).nextRot 0)) (vSub p [(w.seg i).length, 0, 0]))

/-- Before the bisecting plane at the start vertex of segment `i`. -/
def World.beforeStart (w : World) (i : Nat) (p : List Int) : Bool :=
  i != 0 && decide (vDot (vAdd [16384, 0, 0] (row (w.seg (i - 1)).nextRot 0)) p < 0)

/-- A point with the segment that holds it, the error of its vertices and their number, 5 beyond R86's limit, and the
flags raised. -/
structure Place where
  seg : Nat
  p : List Int
  err : Nat := 0
  vertices : Nat := 0
  flags : Nat := 0

/-- A place behind one more vertex. -/
def Place.across (x : Place) (seg : Nat) (r : Carried) : Place :=
  { seg := seg, p := r.p, err := x.err + r.err, vertices := x.vertices + 1, flags := x.flags ||| r.flags }

/-- Crosses end vertices until the point's segment is reached. -/
def World.walkOn (w : World) : Nat → Place → Place
  | 0, x => if w.pastEnd x.seg x.p then { x with vertices := 5 } else x
  | n + 1, x =>
    if w.pastEnd x.seg x.p then w.walkOn n (x.across (x.seg + 1) (w.forward x.seg x.p)) else x

/-- Crosses start vertices until the point's segment is reached. -/
def World.walkBack (w : World) : Nat → Place → Place
  | 0, x => if w.beforeStart x.seg x.p then { x with vertices := 5 } else x
  | n + 1, x =>
    if w.beforeStart x.seg x.p then w.walkBack n (x.across (x.seg - 1) (w.back x.seg x.p)) else x

/-- The segment that holds a point given in the frame of segment `i`, at most 4 vertices away (R86). -/
def World.locate (w : World) (i : Nat) (p : List Int) : Place :=
  if w.pastEnd i p then w.walkOn 4 { seg := i, p := p } else w.walkBack 4 { seg := i, p := p }

/-- A point of its segment lies inside the world (R84, R86). -/
def World.inside (w : World) (i : Nat) (p : List Int) : Bool :=
  (i != 0 || decide (0 ≤ at0 p 0)) && (decide (i + 1 < w.segments.length) || decide (at0 p 0 < (w.seg i).length)) &&
    decide (-1048576 ≤ at0 p 1 ∧ at0 p 1 < 1048576 ∧ -262144 ≤ at0 p 2 ∧ at0 p 2 < 786432)

/-! ## Lookup (R87-R90, R165, R166) -/

/-- The offset values of R87. -/
def offsets (p : List Int) : List Nat := [(at0 p 0 + 65536).toNat, (at0 p 1 + 1048576).toNat, (at0 p 2 + 262144).toNat]
/-- Offset `i`. -/
def offAt (o : List Nat) (i : Nat) : Nat := o.getD i 0

/-- The coarse cell of a point. -/
def cellOf (seg : Nat) (o : List Nat) : Cell := ⟨seg, offAt o 0 / 65536, offAt o 2 / 65536, offAt o 1 / 65536⟩

/-- The address of the cell, or fine cube, that holds a point. -/
def addrOf (seg : Nat) (o : List Nat) (fine : Bool) : CellAddr :=
  ⟨cellOf seg o, fine, if fine then (bits (offAt o 2) 12 4 * 16 + bits (offAt o 1) 12 4) * 16 + bits (offAt o 0) 12 4 else 0⟩

/-- The eight corners of a trilinear cell, as (i, j, k). -/
def cornerList : List (Nat × Nat × Nat) :=
  [(0, 0, 0), (1, 0, 0), (0, 1, 0), (1, 1, 0), (0, 0, 1), (1, 0, 1), (0, 1, 1), (1, 1, 1)]

/-- The address and sample index of a corner; a sample index of 16 is the neighbour's index 0 (R165). -/
def cornerAt (a : CellAddr) (o : List Nat) (b : Nat) (c : Nat × Nat × Nat) : Option CellAddr × Nat :=
  let x := bits (offAt o 0) b 4 + c.1
  let y := bits (offAt o 1) b 4 + c.2.1
  let z := bits (offAt o 2) b 4 + c.2.2
  (a.shift (x / 16 : Nat) (y / 16 : Nat) (z / 16 : Nat), (z % 16 * 16 + y % 16) * 16 + x % 16)

/-- Fine level is selected (R90): the cube of the point and of every corner is PRESENT, be it in an overhang slice. -/
def State.fineLevel (s : State) (w seg : Nat) (o : List Nat) : Bool :=
  let a := addrOf seg o true
  (s.panAt w a).isSome && cornerList.all fun c => match (cornerAt a o 8 c).1 with
    | some n => (s.panAt w n).isSome
    | none => false

/-- A staged pan passes the checks of R162 and its handle is not marked bad (R422). -/
def State.panOk (s : State) (a : CellAddr) (h : Nat) : Bool :=
  let head := s.panHeader h
  !s.worlds.badHandles.contains h && getU head 60 4 == crc32c (head.take 60) && getU head 56 4 == crc32c (s.panPayload h)
    && getU head 0 1 == flag a.fine 0 && slice head 2 10 == (headAddr a 0).drop 2

/-- The four stored samples of a voxel of a pan. -/
def State.samples (s : State) (h i : Nat) : List Int := getSs (Mem.readBytes s.hbm (payloadAddr h + 8 * i) 8) 0 2 4

/-- What a corner supplies: its pan's handle and address where there is one, and four values; a neighbour outside the world or
beyond the segment's directory supplies -32768 (R165). -/
def State.corner (s : State) (w : Nat) (a : Option CellAddr) (i : Nat) : Option (Nat × CellAddr) × List Int :=
  match a with
  | none => (none, List.replicate 4 (-32768))
  | some a =>
    if !(s.wd w).holdsCell a.cell then (none, List.replicate 4 (-32768))
    else
      let e := s.dirEntry ((s.wd w).dirIndex a.cell)
      if !a.fine && dirKind e == 0 then (none, List.replicate 4 (dirFloor e : Int))
      else match s.panAt w a with
        | some h => (some (h, a), s.samples h i)
        | none => (none, List.replicate 4 (-32768))

/-- The bound of a point: level (Table 07.3), d per class, the INTERP_ERR term, the pans read, the faulty ones among them,
the coarse cells read and the fine cubes needed, as (directory index, FINE_IDX). -/
structure PointBound where
  level : Nat
  d : List Int := []
  interp : Nat := 0
  pans : List (Nat × CellAddr) := []
  faults : List Nat := []
  cells : List Cell := []
  fine : List (Nat × Nat) := []

/-- The certified bound of a point of segment `seg` of world `w` (R165, R166). -/
def State.pointBound (s : State) (w seg : Nat) (p : List Int) : PointBound :=
  let x := s.wd w
  let o := offsets p
  let cell := cellOf seg o
  if !x.inside seg p || !x.hasCell cell then { level := 3, cells := [cell] }
  else
    let e := s.dirEntry (x.dirIndex cell)
    if dirKind e = 0 then { level := 2, d := List.replicate 4 (64 * (dirFloor e : Int)), cells := [cell] }
    else
      let fine := s.fineLevel w seg o
      let a := addrOf seg o fine
      let b := if fine then 8 else 12
      let u : Int := if fine then 4 else 64
      let cs := cornerList.map fun c => let r := cornerAt a o b c; (c, r.1, s.corner w r.1 r.2)
      let pans := (cs.filterMap fun c => c.2.2.1).dedup
      let weight (i bitv : Nat) : Int := if bitv = 1 then bits (offAt o i) 0 b else 2 ^ b - bits (offAt o i) 0 b
      let d := (List.range 4).map fun c =>
        sumI (cs.map fun k => at0 k.2.2.2 c * weight 0 k.1.1 * weight 1 k.1.2.1 * weight 2 k.1.2.2) / 2 ^ (3 * b) * u
      let origin := (s.panAt w a).getD 0
      { level := if fine then 1 else 0, d := d, interp := u.toNat * getU (s.panHeader origin) 28 2,
        pans := pans, faults := (pans.filter fun h => !s.panOk h.2 h.1).map (·.1),
        cells := ((cs.filterMap fun c => c.2.1.map (·.cell)).filter x.hasCell).dedup,
        fine := if fine then (cs.filterMap fun c => c.2.1.map fun n => (x.dirIndex n.cell, n.idx)).dedup else [] }

/-! ## Movers -/

/-- A mover as it stands at a time within its window, or at T_TO (R100): the centre. -/
def Mover.centreAt (m : Mover) (t : Nat) : List Int :=
  (List.range 3).map fun i => at0 m.centre i + at0 m.vel i * ((t : Int) - m.tRef) / 3200000

/-- The mover is present at `t` (R100). -/
def Mover.present (m : Mover) (t : Nat) : Bool := decide (m.tFrom ≤ t) && (decide (t ≤ m.tTo) || m.cls != 2)

/-- The check of ROT (R171). -/
def rotOk (m : List Int) : Bool :=
  let c := col m
  ((List.range 3).all fun i => decide ((vDot (c i) (c i) - 2 ^ 28).natAbs ≤ 2 ^ 16)) &&
    decide ((vDot (c 0) (c 1)).natAbs ≤ 2 ^ 16 ∧ (vDot (c 0) (c 2)).natAbs ≤ 2 ^ 16 ∧ (vDot (c 1) (c 2)).natAbs ≤ 2 ^ 16)

/-- A mover's hull over an interval, or its enclosing sphere's: object code of Table 07.4, class, shape, centre, growth, and
the flags raised while forming it. -/
structure Hull where
  obj : Nat
  cls : Nat
  capsule : Bool
  ext : List Int
  rot : List Int
  centre : List Int
  grow : Nat
  flags : Nat := 0

/-- A growth is an S32 too (R70). -/
def fitGrow (n : Nat) : Nat × Nat := let r := saturate 32 geomSat n; (r.1.toNat, r.2)

/-- The hull of R170, with the fallback of R171; absent where the window does not reach the interval. -/
def Mover.hull (m : Mover) (obj ta tb : Nat) : Option Hull :=
  if tb < m.tFrom ∨ (ta > m.tTo ∧ m.cls = 2) then none
  else
    let t1 := min (max ta m.tFrom) (min tb m.tTo)
    let t2 := min tb m.tTo
    let v := vAbs1 m.vel
    let away (t : Nat) := ((t : Int) - m.tRef).natAbs
    let late := if tb > m.tTo ∧ m.cls ≠ 2 then 2 * (v + m.velUncert) * (tb - m.tTo) else 0
    let grow := fitGrow (ceilDiv (v * (t2 - t1) + 2 * m.velUncert * max (away t1) (away t2) + late) 6400000 + 1)
    let c := fitS32 (m.centreAt ((t1 + t2) / 2))
    let h : Hull := {
      obj := obj, cls := m.cls, capsule := m.shape == 1, ext := m.extent, rot := m.rot, centre := c.1, grow := grow.1,
      flags := c.2 ||| grow.2 }
    if rotOk m.rot then some h
    else some { h with capsule := true, ext := [0, sumI m.extent, 0], rot := ident14 }

/-- A hull behind one more vertex, whose term joins the growth; `r` turns the axes column by column. -/
def Hull.across (h : Hull) (x : Carried) (r : List Int) : Hull :=
  let grow := fitGrow (h.grow + x.err)
  { h with centre := x.p, grow := grow.1, rot := mulM 14 r h.rot, flags := h.flags ||| x.flags ||| grow.2 }

/-- A hull in the frame of segment `dst`, over however many vertices (R172). -/
def World.carryHull (w : World) (src dst : Nat) (h : Hull) : Hull :=
  if src ≤ dst then
    (List.range (dst - src)).foldl (init := h) fun h k =>
      h.across (w.forward (src + k) h.centre) (transpose (w.seg (src + k)).nextRot)
  else
    (List.range (src - dst)).foldl (init := h) fun h k =>
      h.across (w.back (src - k) h.centre) (w.seg (src - k - 1)).nextRot

/-- A mover's centre in the frame of segment `dst`. -/
def World.carryPoint (w : World) (src dst : Nat) (p : List Int) : List Int :=
  if src ≤ dst then (List.range (dst - src)).foldl (fun p k => (w.forward (src + k) p).p) p
  else (List.range (src - dst)).foldl (fun p k => (w.back (src - k) p).p) p

/-- The urgent slots of a world at an epoch of the frame (R181). -/
def State.urgentAt (s : State) (w epoch : Nat) : List (Option Mover) :=
  match s.worlds.urgentVersions[epoch]? with
  | some v => v.getD w []
  | none => (s.wd w).urgent

/-- A table's movers in index order, with their object codes from `base` on. -/
def movedOf (base : Nat) (l : List (Option Mover)) : List (Nat × Mover) :=
  (List.range l.length).filterMap fun i => (l.getD i none).map fun m => (base + i, m)

/-- The movers and urgent movers of a world, in the order in which they are tested. -/
def State.moversAt (s : State) (w epoch : Nat) : List (Nat × Mover) :=
  movedOf 0 (s.wd w).movers ++ movedOf 0x400 (s.urgentAt w epoch)

/-- The lower bound on the distance of a point from a hull (R171), before BUDGET. -/
def Hull.dist (h : Hull) (c : List Int) : Int :=
  let v := vSub c h.centre
  let p := (List.range 3).map fun a => (vDot (col h.rot a) v).natAbs / 2 ^ 14
  let at_ (i : Nat) : Nat := p.getD i 0
  let less (i : Nat) (x : Int) : Nat := ((at_ i : Int) - x).toNat
  let e := if h.capsule then [less 0 (at0 h.ext 0), at_ 1, at_ 2]
    else [less 0 (at0 h.ext 0), less 1 (at0 h.ext 1), less 2 (at0 h.ext 2)]
  let d := isqrt (sumN (e.map fun x => x * x))
  (d : Int) - ceilDiv (sumN p) (2 ^ 9) - 2 - h.grow - (if h.capsule then at0 h.ext 1 else 0)

/-- The net clearance of a point from a hull, `less` being BUDGET, RADIUS and crust: an S32, with the flags raised (R70, R171). -/
def Hull.net (h : Hull) (c : List Int) (less : Int) : Flagged :=
  let r := saturate 32 geomSat (h.dist c - less)
  (r.1, r.2 ||| h.flags)

/-! ## Culling (R172) -/

/-- Half-extents of a hull along its columns and the radius around them: a capsule is its axis, its radius outside. -/
def Hull.halves (h : Hull) : List Nat × Nat :=
  if h.capsule then ([(at0 h.ext 0).toNat, 0, 0], (at0 h.ext 1).toNat) else (h.ext.map Int.toNat, 0)

/-- The squared distance, times (2^14 d)^2, of the point p + (n / d) along the s axis from a hull's body in the coordinates of its
columns, as R171 takes them. -/
def Hull.bodySq (h : Hull) (p : List Int) (n d : Int) : Int :=
  sumI ((List.range 3).map fun i =>
    let y := vDot (col h.rot i) (vSub p h.centre) * d + n * at0 (col h.rot i) 0
    let e := (y.natAbs : Int) - (h.halves.1.getD i 0 : Int) * 2 ^ 14 * d
    (max 0 e) ^ 2)

/-- The places n / d of a line of length `len` from p where its distance from a hull's body can be least: both ends, and the
stationary point of each choice of the faces that bound the excess along the columns. -/
def Hull.nearest (h : Hull) (p : List Int) (len : Int) : List (Int × Int) :=
  let a (i : Nat) : Int := vDot (col h.rot i) (vSub p h.centre)
  let b (i : Nat) : Int := at0 (col h.rot i) 0
  let f (i : Nat) : Int := (h.halves.1.getD i 0 : Int) * 2 ^ 14
  let faces := (List.range 27).map fun k => [(k % 3 : Int) - 1, (k / 3 % 3 : Int) - 1, (k / 9 : Int) - 1]
  let inner := faces.filterMap fun g =>
    let on := (List.range 3).filter fun i => at0 g i != 0
    let den := sumI (on.map fun i => b i * b i)
    let num := -sumI (on.map fun i => b i * (a i - at0 g i * f i))
    if 0 < den ∧ 0 ≤ num ∧ num ≤ len * den then some (num, den) else none
  (0, 1) :: (len, 1) :: inner

/-- A hull lies farther than `far` from every point of a line along the s axis. -/
def Hull.farther (h : Hull) (far : Nat) (p : List Int) (len : Int) : Bool :=
  let r : Int := (far + h.grow + h.halves.2 : Nat)
  (h.nearest p len).all fun x => decide ((r * 2 ^ 14 * x.2) ^ 2 < h.bodySq p x.1 x.2)

/-- A hull, in segment `seg`, lies farther than `far` from the base line between two chainages (R172): from the line's piece in
every segment, each in that segment's frame (log entry 45). -/
def World.culled (w : World) (uOff lo hi : Int) (far : Nat) (seg : Nat) (h : Hull) : Bool :=
  (List.range w.segments.length).all fun i =>
    let g := w.seg i
    if hi < g.sStart ∨ g.sStart + g.length < lo then true
    else
      let a := max 0 (lo - g.sStart)
      let b := min (g.length : Int) (hi - g.sStart)
      (w.carryHull seg i h).farther far [a, uOff, 0] (b - a)

end Sys2Proof.Machine
end

