-- ==== Sys2Proof/Machine/Sweep.lean ====
section
/-!
DEFINITION. Sys2Proof/Machine/Sweep.lean: the certified check of a trajectory by the sweep engine (R160-R183): one
configuration's sphere, mover and pair tests, the advancement rule, verdicts, segment clearances and swept boxes, and the
tool-point bounds of a PROBE.
-/
namespace Sys2Proof.Machine

/-! ## What an operation runs over -/

/-- A check operation (Table 07.2): its binding, spline, urgent epoch, σ range, the movers left to test, and the mover
interval of the step from one σ to the next. `direct`: movers are tested against spheres only (R183). -/
structure SweepOp where
  b : Binding
  cp : List (List Int)
  epoch : Nat
  first : Nat := 0
  last : Nat
  tests : List (Nat × Mover)
  times : Nat → Nat → Nat × Nat
  direct : Bool := false

/-- The least and greatest base control point. -/
def baseRange (cp : List (List Int)) : Int × Int :=
  let c := cp.getD 0 []
  (minD 0 c, maxD 0 c)

/-- A mover is left to test: urgent, or not culled over an interval (R172). -/
def State.keeps (s : State) (b : Binding) (cp : List (List Int)) (ta tb : Nat) (m : Nat × Mover) : Bool :=
  decide (0x400 ≤ m.1) || match m.2.hull m.1 ta tb with
    | none => true
    | some h =>
      let r := baseRange cp
      !(s.wd b.world).culled b.rig.uOffset r.1 r.2 (b.rig.rRig + b.maxCrust.toNat) m.2.segment h

/-- T_START + H in ticks: H counts 0.25 µs (Table 14.11). -/
def Query.tEnd (q : Query) : Nat := q.tStart + 50 * q.horizon

/-- The movers of an operation of a candidate, culled over the query's CHECK interval. -/
def State.culledMovers (s : State) (b : Binding) (q : Query) (epoch : Nat) (cp : List (List Int)) : List (Nat × Mover) :=
  (s.moversAt b.world epoch).filter (s.keeps b cp q.tStart q.tEnd)

/-! ## The urgent epoch of an operation (R181, R229, R242) -/

/-- Checkpoints K2 to K4 of R49 at or before an instant of the static schedule, in NoC cycles from the open. -/
def State.checkpointsBy (s : State) (cyc : Nat) : Nat :=
  ([40, 60, 80].filter fun k => decide (1400 * s.frame.conf.part k ≤ cyc)).length

/-- The epoch that an operation on a stream latches: in Throughput mode the current one, in Exact mode that of the checkpoints
before its slot in the static schedule; none while they are still to come (log entry 11). -/
def State.latch (s : State) (op : TaskOp) (stream n : Nat) : Option Nat :=
  if s.frame.conf.exact then
    s.worlds.checkpointEpochs[s.checkpointsBy (Config.staticSchedule s.frame.schedule (scheduleKey (opCode op) stream n)).2.2]?
  else some s.worlds.epoch

/-- The mover interval of a step, from a time map (R182). -/
def mapInterval (tStart sigmaEnd : Nat) (tm : List TmEntry) (a b : Nat) : Nat × Nat :=
  (tStart + 50 * (tmAt tm (gridLo sigmaEnd a)).tLo, tStart + 50 * (tmAt tm (gridHi sigmaEnd b)).tHi)

/-! ## One point -/

/-- A certified clearance passes the range guard of its tensor, where it has a descriptor (R72, R73; log entry 124). -/
def certNet (v : Flagged) : Flagged :=
  match Config.certDesc with
  | none => v
  | some d => let g := rangeGuard d v.1; (g.1, v.2 ||| g.2)

/-- HIT_OBJ of GUARD_CERT. -/
def certTensor : Nat := (Config.certDesc.map (·.tensorId)).getD 0xFFFF

/-- Range-guard hits among values. -/
def guardsIn (l : List Flagged) : Nat := (l.filter fun x => bit x.2 4).length

/-- A point query (R165-R168): static nets per class (none where there is no bound), BUDGET, the conditions of R178, the flags
raised and the guard hits. -/
structure PointQuery where
  nets : List Int := []
  budget : Nat := 0
  guarded : Bool := false
  saturated : Bool := false
  outside : Bool := false
  vertex : Bool := false
  faults : List Nat := []
  cells : List (Nat × Nat × Nat) := []
  flags : Nat := 0
  guards : Nat := 0
  need : Option Need := none

/-- A coordinate triple does not fit the output format. -/
def beyondS32 (p : List Int) : Bool := p.any fun v => decide (v < fmtMin 32 ∨ v > fmtMax 32)

/-- The query of a point of the frame of segment `i`, formed with flags, for a sphere or capsule; `e` is its error bound before the
vertex terms. SATURATED is SAT of the budget word or GEOM_SAT raised before the final clamp of R166. -/
def State.pointQuery (s : State) (w i : Nat) (based : Bool) (sphere : Nat) (c : List Int × Nat) (e radius : Nat)
    (crust : Nat → Int) : PointQuery :=
  let x := s.wd w
  let pl := x.locate i c.1
  let far := pl.vertices == 5
  let pb : PointBound := if far then { level := 3 } else s.pointBound w pl.seg pl.p
  let raw := e + pl.err + pb.interp
  let budget := min raw 1048575
  let nets : List Flagged := if far || !based || pb.level == 3 then [] else
    (List.range 4).map fun k => certNet (saturate 32 geomSat (at0 pb.d k - budget - radius - crust k))
  let r := collect nets
  { nets := r.1, budget := budget, guarded := bit r.2 5, saturated := decide (1048575 < raw) || bit (c.2 ||| pl.flags) 2 || bit c.2 3,
    outside := !far && (!based || pb.level == 3), vertex := far, faults := pb.faults,
    cells := pb.cells.map fun c => ((x.seg c.seg).dirBase + c.slice, c.iu, c.iv),
    flags := r.2 ||| c.2 ||| pl.flags, guards := guardsIn nets,
    need := if far then none else (pb.cells.head?.filter x.hasCell).map fun k =>
      { sphere := sphere, dir := x.dirIndex k, fine := pb.fine, pans := pb.pans.map (·.1), world := w, places := pb.pans } }

/-- The condition of a query, among the first of R178: rank, verdict code, object. -/
def PointQuery.cond (p : PointQuery) : Option (Nat × Nat × Nat) :=
  match p.faults with
  | h :: _ => some (1, 10, h % 65536)
  | [] =>
    if p.guarded then some (2, 8, certTensor)
    else if p.saturated then some (3, 9, 0xFFFF)
    else if p.outside then some (4, 5, 0xFFFF)
    else if p.vertex then some (5, 6, 0xFFFF)
    else none

/-- The conditions that the flags of a mover, self or capsule clearance give its sphere or capsule (R178): GUARD_CERT, and
SATURATED for a geometric saturation. -/
def flagConds (sphere flags : Nat) : List (Nat × Nat × Nat × Nat × Nat) :=
  (if bit flags 5 then [(2, sphere * 4, 8, sphere, certTensor)] else []) ++
    if bit flags 2 || bit flags 3 then [(3, sphere * 4, 9, sphere, 0xFFFF)] else []

/-- The verdict of a hard class. -/
def hitCode (c : Nat) : Nat := if c = 0 then 1 else if c = 1 then 2 else 3

/-- The classes of the collision decision. -/
def hardClasses : List Nat := [0, 1, 3]

/-! ## One configuration -/

/-- What one configuration's tests give: the condition that ends the operation (code, sphere, object), the faulty handles, the
least net per class, each link's hard clearance, the self nets, the largest BUDGET, the cells read, the flags, the guard hits
and what the queries need. -/
structure Eval where
  cond : Option (Nat × Nat × Nat)
  faults : List Nat
  mins : List Int
  clear : List (Nat × Int)
  selfs : List Int
  budget : Nat
  cells : List (Nat × Nat × Nat)
  flags : Nat
  guards : Nat := 0
  needs : List Need := []

/-- The greatest S32, which the least of no values reads (log entry 46). -/
abbrev noNet : Int := 2147483647

/-- Least per class of two lists of four. -/
def minNets (a b : List Int) : List Int := (List.range 4).map fun c => min (a.getD c noNet) (b.getD c noNet)

/-- A list of four with one class filled. -/
def oneNet (c : Nat) (v : Int) : List Int := (List.replicate 4 noNet).set c v

/-- Mover tests of a link: clearances per mover (class, net), the spheres that collide (sphere, class, object), and every value
formed, with its sphere. -/
structure LinkMovers where
  clear : List (Nat × Int) := []
  hits : List (Nat × Nat × Nat) := []
  values : List (Nat × Flagged) := []

/-- The tests of one mover against a link (R172): the link's bounding sphere, then its spheres where that bound is below the
static clearance or negative; PROBE tests spheres only (R183). -/
def Binding.moverTest (b : Binding) (link : Nat) (bc : List Int × Nat) (ss : List (Nat × RigSphere × List Int × Nat)) (stat : Int)
    (direct : Bool) (h : Hull) : LinkMovers :=
  let eq := b.rig.eq link
  let bound := b.rig.bound.getD link ([], 0, 0)
  let worst := (ss.map fun x => b.crust h.cls x.2.1.group).foldl max 0
  let r := h.net bc.1 ((bound.2.2 + eq + bound.2.1 : Nat) + worst)
  let net := certNet (r.1, r.2 ||| bc.2)
  let own : List (Nat × Flagged) := if direct then [] else [((ss.head?.map (·.1)).getD 0xFFFF, net)]
  if direct = true ∨ net.1 < stat ∨ net.1 < 0 then
    let nets := ss.map fun x => (x.1, certNet (h.net x.2.2.1 ((x.2.1.e + eq + x.2.1.radius : Nat) + b.crust h.cls x.2.1.group)))
    let least := minD noNet (nets.map (·.2.1))
    { clear := [(h.cls, if direct then least else max net.1 least)]
      hits := if direct ∨ net.1 < 0 then (nets.filter fun n => decide (n.2.1 < 0)).map fun n => (n.1, h.cls, h.obj) else []
      values := own ++ nets }
  else { clear := [(h.cls, net.1)], values := own }

/-- The mover tests of a link against every hull. -/
def Binding.linkMovers (b : Binding) (ps : List Pose) (link : Nat) (ss : List (Nat × RigSphere × List Int × Nat)) (stat : Int)
    (hulls : List Hull) (direct : Bool) : LinkMovers :=
  let bc := outPos geomSat ((ps.getD link ⟨ident30, [0, 0, 0]⟩).point (b.rig.bound.getD link ([], 0, 0)).1)
  let rs := hulls.map (b.moverTest link bc ss stat direct)
  { clear := rs.flatMap (·.clear), hits := rs.flatMap (·.hits), values := rs.flatMap (·.values) }

/-- The first condition of a list of (rank, sphere order, verdict, sphere, object). -/
def firstCond (l : List (Nat × Nat × Nat × Nat × Nat)) : Option (Nat × Nat × Nat) :=
  let lt (a b : Nat × Nat × Nat × Nat × Nat) : Bool := a.1 < b.1 || a.1 == b.1 && decide (a.2.1 < b.2.1)
  ((sortBy lt l).head?).map fun x => (x.2.2.1, x.2.2.2.1, x.2.2.2.2)

/-- Sphere lookups, mover tests and pair tests of a configuration (R165-R174, R178), over the spheres that `use` names. -/
def SweepOp.eval (op : SweepOp) (s : State) (use : RigSphere → Bool) (q : List Int) (ta tb : Nat) : Eval :=
  let b := op.b
  let w := s.wd b.world
  let q0 := at0 q 0
  let frame := w.baseFrame q0
  let based := (w.baseSeg q0).isSome
  let ps := b.rig.pose (q0 - (w.seg frame).sStart) q
  let poseOf (i : Nat) : Pose := ps.getD i ⟨ident30, [0, 0, 0]⟩
  let all : List (Nat × RigSphere × List Int × Nat) := (List.range b.rig.spheres.length).filterMap fun i =>
    (b.rig.spheres[i]?).map fun x => (i, x, outPos geomSat ((poseOf x.link).point x.centre))
  let ss := all.filter fun x => use x.2.1
  let qs : List (Nat × RigSphere × PointQuery) := ss.map fun x =>
    (x.1, x.2.1, s.pointQuery b.world frame based x.1 x.2.2 (x.2.1.e + b.rig.eq x.2.1.link) x.2.1.radius
      fun c => b.crust c x.2.1.group)
  let hulls := op.tests.filterMap fun m => (m.2.hull m.1 ta tb).map (w.carryHull m.2.segment frame)
  let links := (ss.map fun x => x.2.1.link).dedup
  let stat (l : Nat) : Int := minD noNet ((qs.filter fun x => x.2.1.link == l).flatMap fun x =>
    hardClasses.map fun c => x.2.2.nets.getD c noNet)
  let mv : List (Nat × LinkMovers) := links.map fun l =>
    (l, b.linkMovers ps l (ss.filter fun x => x.2.1.link == l) (stat l) hulls op.direct)
  let hits := mv.flatMap fun x => x.2.hits
  let conds := qs.flatMap fun x =>
    (x.2.2.cond.toList.map fun c => (c.1, x.1 * 4, c.2.1, x.1, c.2.2)) ++
    hardClasses.flatMap fun c =>
      let mine := hits.filter fun h => h.1 == x.1 && h.2.1 == c
      (if x.2.2.nets.getD c 0 < 0 then [(6, x.1 * 4 + c, hitCode c, x.1, 0xFFFF)] else []) ++
        mine.map fun h => (6, x.1 * 4 + c, hitCode c, x.1, h.2.2)
  let centre (i : Nat) : List Int × Nat := ((all[i]?).map fun x => x.2.2).getD ([], 0)
  let budgetOf (i : Nat) : Nat := ((b.rig.spheres[i]?).map fun x => x.e + b.rig.eq x.link).getD 0
  let radiusOf (i : Nat) : Nat := ((b.rig.spheres[i]?).map fun x => x.radius).getD 0
  let selfs : List (Nat × Flagged) := b.rig.pairs.map fun p =>
    let r := saturate 32 geomSat
      ((isqrt (vSq (vSub (centre p.1).1 (centre p.2).1)) : Int) - radiusOf p.1 - radiusOf p.2 - budgetOf p.1 - budgetOf p.2)
    (p.1, certNet (r.1, r.2 ||| (centre p.1).2 ||| (centre p.2).2))
  let selfConds := selfs.zipIdx.filterMap fun n =>
    let p := b.rig.pairs.getD n.2 (0, 0)
    if n.1.2.1 < 0 then some (7, n.2, 4, p.1, p.2) else none
  let values := (mv.flatMap fun x => x.2.values) ++ selfs
  { cond := firstCond (conds ++ (values.flatMap fun v => flagConds v.1 v.2.2) ++ selfConds)
    faults := (qs.flatMap fun x => x.2.2.faults).dedup
    mins := mv.foldl (fun m x => x.2.clear.foldl (fun m c => minNets m (oneNet c.1 c.2)) m)
      (qs.foldl (fun m x => if x.2.2.nets.isEmpty then m else minNets m x.2.2.nets) (List.replicate 4 noNet))
    clear := mv.map fun x => (x.1, minD (stat x.1) (stat x.1 :: (x.2.clear.filter fun c => c.1 != 2).map (·.2)))
    selfs := selfs.map (·.2.1)
    budget := (qs.map fun x => x.2.2.budget).foldl max 0
    cells := (qs.flatMap fun x => x.2.2.cells).dedup
    flags := values.foldl (fun f v => f ||| v.2.2) (qs.foldl (fun f x => f ||| x.2.2.flags) 0)
    guards := sumN (qs.map fun x => x.2.2.guards) + guardsIn (values.map (·.2))
    needs := qs.filterMap fun x => x.2.2.need }

/-! ## Advancement (R175-R179) -/

/-- Progress of an operation. -/
structure Progress where
  sigma : Nat
  steps : Nat := 0
  mins : List Int := List.replicate 4 noNet
  segClear : List (Nat × Int) := []
  boxes : List (Nat × SweptBox) := []
  budget : Nat := 0
  flags : Nat := 0
  guards : Nat := 0
  verdict : Nat := 0
  hitSigma : Nat := 0
  hitSphere : Nat := 0xFFFF
  hitObj : Nat := 0xFFFF
  faults : List Nat := []
  needs : List Need := []

/-- Progress after the tests of one configuration at σ. -/
def Progress.seen (x : Progress) (e : Eval) (sigma : Nat) : Progress := { x with
  steps := x.steps + 1, mins := minNets x.mins e.mins, budget := max x.budget e.budget, flags := x.flags ||| e.flags,
  guards := x.guards + e.guards, needs := x.needs ++ e.needs.map fun n => { n with sigma := sigma } }

/-- The condition that ends an operation at σ. -/
def Progress.ended (x : Progress) (c : Nat × Nat × Nat) (faults : List Nat) (sigma : Nat) : Progress :=
  { x with verdict := c.1, hitSigma := sigma, hitSphere := c.2.1, hitObj := c.2.2, faults := faults }

/-- A swept box grown by a cell (R224). -/
def growBox (c : Nat × Nat × Nat) : Option SweptBox → SweptBox
  | none => ⟨c.1, c.1, c.2.1, c.2.1, c.2.2, c.2.2⟩
  | some x => ⟨min x.sliceLo c.1, max x.sliceHi c.1, min x.iuLo c.2.1, max x.iuHi c.2.1, min x.ivLo c.2.2, max x.ivHi c.2.2⟩

/-- The box of a segment so far. -/
def boxAt (k : Nat) (l : List (Nat × SweptBox)) : Option SweptBox := (l.find? (·.1 == k)).map (·.2)

/-- One limiter of a step: the clearance times the reciprocal of the rate, FLOOR (R177). -/
def limitStep (clear : Int) (rate : Nat) : Int := clear * (2 ^ 48 / rate : Nat) / 2 ^ 32

/-- The step and the first limiter that makes it 0 (R177, Table 07.4). -/
def stepOf (toKnot : Nat) (limits : List (Nat × Int)) : Nat × Option Nat :=
  (limits.foldl (fun m l => min m l.2) (toKnot : Int) |>.toNat, (limits.find? fun l => decide (l.2 ≤ 0)).map (·.1))

/-- The limiters of a step in the order of R177: links in index order, then pairs in pair order. -/
def SweepOp.limits (op : SweepOp) (e : Eval) (k : Nat) : List (Nat × Int) :=
  let r := op.b.rig
  let rates := (List.range r.links.length).map fun i => r.rateIn op.cp i k
  let links := (sortBy (fun a b => decide (a.1 < b.1)) e.clear).filterMap fun c =>
    if rates.getD c.1 0 = 0 then none else some (c.1, limitStep c.2 (rates.getD c.1 0))
  let top := rates.foldl max 0
  let pairs := if top = 0 then [] else (List.range e.selfs.length).map fun i =>
    ((r.spheres.getD ((r.pairs.getD i (0, 0)).1) ⟨0, 0, [], 0, 0⟩).link, limitStep (at0 e.selfs i) (2 * top))
  links ++ pairs

/-- The advancement rule, with fuel for its 256 steps. -/
def SweepOp.advance (op : SweepOp) (s : State) : Nat → Progress → Progress
  | 0, x => { x with verdict := 7, hitSigma := x.sigma }
  | fuel + 1, x =>
    let seg := min (x.sigma / 65536) (op.b.n - 4)
    let next := min ((x.sigma / 65536 + 1) * 65536) op.last
    let t := op.times x.sigma next
    let e := op.eval s (fun _ => true) (splineAt op.cp op.b.dof op.b.n x.sigma) t.1 t.2
    let hard := minD noNet (hardClasses.map fun c => e.mins.getD c noNet)
    let seen := match x.segClear.find? (·.1 == seg) with
      | some c => min c.2 hard
      | none => hard
    let x := { x.seen e x.sigma with
      segClear := upsert seg seen x.segClear,
      boxes := e.cells.foldl (fun l c => upsert seg (growBox c (boxAt seg l)) l) x.boxes }
    match e.cond with
    | some c => x.ended c e.faults x.sigma
    | none =>
      if x.sigma ≥ op.last then x
      else
        let st := stepOf ((x.sigma / 65536 + 1) * 65536 - x.sigma) (op.limits e seg)
        if st.1 = 0 then { x with verdict := 7, hitSigma := x.sigma, hitObj := st.2.getD 0xFFFF }
        else op.advance s fuel { x with sigma := min (x.sigma + st.1) op.last }

/-- The whole operation. -/
def SweepOp.run (op : SweepOp) (s : State) : Progress := op.advance s 256 { sigma := op.first }

/-- Its verdict record (Table 07.5). -/
def Progress.record (x : Progress) (stream g kind epoch : Nat) : Verdict := {
  g := g, stream := stream, verdict := x.verdict, steps := x.steps, minNet := x.mins, hitSigma := x.hitSigma,
  hitSphere := x.hitSphere, hitObj := x.hitObj, epoch := epoch, kind := kind, budgetMax := x.budget }

/-- The segment-clearance array (R194). -/
def Progress.clearances (x : Progress) (n : Nat) : List Int :=
  (List.range (n - 3)).map fun k => ((x.segClear.find? (·.1 == k)).map (·.2)).getD noNet

/-- The swept boxes in segment order (R224). -/
def Progress.swept (x : Progress) (n : Nat) : List SweptBox :=
  (List.range (n - 3)).map fun k => (boxAt k x.boxes).getD ⟨0, 0, 0, 0, 0, 0⟩

/-! ## What an operation leaves behind -/

/-- A faulty pan is marked bad (R422) and reported as a CONTAINED error, without a WARNING while its mark stands. -/
def State.panFault (p h : Nat) (s : State) : State :=
  let old := s.worlds.badHandles.contains h
  let s := s.modWorlds fun x => { x with badHandles := insertAsc h x.badHandles }
  s.contained 0x0110 (stackOf p) p 0xFF h old

/-- A pan is staged. -/
def Cluster.holdsPan (c : Cluster) (h : Nat) : Bool := c.staged.any (·.handle == h)

/-- A key of the resolution table is there: a coarse cell, or a fine cube. -/
def Cluster.knows (c : Cluster) (dir sub : Nat) : Bool := c.resolved.any fun r => r.1 == dir && r.2.1 == sub

/-- The keys of the resolution table that a query needs. -/
def Need.keys (n : Need) : List (Nat × Nat) := (n.dir, 0) :: n.fine.map fun f => (f.1, f.2 + 1)

/-- The coarse cell, the fine cubes and the pans of a query are all there. -/
def Cluster.ready (c : Cluster) (n : Need) : Bool := n.keys.all (fun k => c.knows k.1 k.2) && n.pans.all c.holdsPan

/-- The entries and staged pans that a query reads become the newest read ones (R163). -/
def Cluster.readBy (c : Cluster) (n : Need) : Cluster :=
  { c with
    readOrder := c.readOrder + 1,
    resolved := c.resolved.map fun r => if n.keys.contains (r.1, r.2.1) then (r.1, r.2.1, c.readOrder) else r,
    staged := c.staged.map fun x => if n.pans.contains x.handle then { x with lastRead := c.readOrder } else x }

/-- The pins of a query's pans. -/
def Cluster.pin (c : Cluster) (pans : List Nat) (f : Nat → Nat) : Cluster :=
  { c with staged := c.staged.map fun x => if pans.contains x.handle then { x with pins := f x.pins } else x }

/-- A query whose pans are all staged enters the lane queues and pins them (R161). -/
def Cluster.enterLanes (c : Cluster) (now : Nat) (n : Need) : Cluster :=
  { (c.readBy n).pin n.pans (· + 1) with lanes := c.lanes ++ [(now, n.pans)] }

/-- Queries that entered the lane queues before now have completed their reads, and release their pins (R161, R268). -/
def Cluster.lanesDone (c : Cluster) (now : Nat) : Cluster :=
  let gone := c.lanes.filter fun l => decide (l.1 < now)
  gone.foldl (fun c l => c.pin l.2 (· - 1)) { c with lanes := c.lanes.filter fun l => !decide (l.1 < now) }

/-- The parking store is full, and the front end stalls (R161). -/
def Cluster.stalled (c : Cluster) : Bool := decide (64 ≤ c.parked.length)

/-- The pan reads of an operation are counted for the staging plan of the next frame, with where they were asked for (R163). -/
def Cluster.countReads (c : Cluster) (needs : List Need) : Cluster :=
  { c with
    panReads := (needs.flatMap (·.pans)).foldl (fun l h => upsert h (lookupD 0 h l + 1) l) c.panReads,
    panPlaces := needs.foldl (fun l n => n.places.foldl (fun l x => upsert x.1 (n.world, x.2) l) l) c.panPlaces }

/-- Queries that find all they need enter the lane queues; the others wait in the parking store, or in order behind it
(R161). -/
def Cluster.park (now : Nat) (f : Sweeping) (needs : List Need) (c : Cluster) : Cluster :=
  let miss := (needs.filter fun n => !c.ready n).map fun n => ({ stream := f.stream, g := f.g, kind := f.kind, need := n } : Parked)
  let c := (needs.filter c.ready).foldl (fun c n => c.enterLanes now n) c
  { c with parked := c.parked ++ miss.dedup }

/-- A check operation runs: to its end when its queries find all they need, else it stays in flight until the last of them is
resolved (R161; log entry 49). -/
def State.sweep (p : Nat) (f : Sweeping) (needs : List Need) (done : State → State) (s : State) : State :=
  let go := needs.all (s.cl p).ready
  let s := s.modCl p fun c => ((c.lanesDone s.time.now).countReads needs).park s.time.now f needs
  if go then done s else s.modCl p fun c => { c with inFlight := c.inFlight ++ [f] }

/-- An operation on a stream and generator index is in flight. -/
def Cluster.flying (c : Cluster) (kind stream g : Nat) : Bool :=
  c.inFlight.any fun f => f.kind == kind && f.stream == stream && f.g == g

/-- An operation of a kind on a stream is stopped: it and its parked queries go. -/
def Cluster.dropSweeps (gone : Nat → Nat → Bool) (c : Cluster) : Cluster :=
  { c with inFlight := c.inFlight.filter fun f => !gone f.kind f.stream, parked := c.parked.filter fun k => !gone k.kind k.stream }

/-- Busy cycles of the sweep engine, or of CC0 for a re-verify, flags, guard hits, verdict event (Table 20.4 code 0x04) and pan
faults of an operation on cluster `p`. -/
def State.afterSweep (p kind : Nat) (x : Progress) (layer op : Nat) (s : State) : State :=
  let s := ((s.busy p (if kind = 5 then 4 else 1)).raiseArith p x.flags x.guards).selEvent 0 p 0x04 (16 * kind + x.verdict) layer op 1
  x.faults.foldl (fun s h => s.panFault p h) s

/-! ## PROBE (R183, R206) -/

/-- The probe nodes: 0, 8, ..., 248 and 255. -/
def probeNodes : List Nat := (List.range 32).map (8 * ·) ++ [255]

/-- Motion bound of a link between two values of σ (R176), per segment rounded up. -/
def SweepOp.travel (op : SweepOp) (link a b : Nat) : Nat :=
  sumN ((List.range (op.b.n - 3)).map fun k =>
    let lo := max a (k * 65536)
    let hi := min b ((k + 1) * 65536)
    if lo < hi then ceilDiv (op.b.rig.rateIn op.cp link k * (hi - lo)) 65536 else 0)

/-- A tool point's bound per class at one probe node: least net of its groups' spheres less the motion to the next node, an
S32; a saturation of it is SATURATED. A configuration that ends a check without a bound gives the least S32. -/
def SweepOp.toolBound (op : SweepOp) (s : State) (t : RigTool) (sigma next ta tb : Nat) : Eval × List Int :=
  let use (x : RigSphere) : Bool := bit t.groupMask x.group
  let e := op.eval s use (splineAt op.cp op.b.dof op.b.n sigma) ta tb
  let far := ((op.b.rig.spheres.filter use).map fun x => op.travel x.link sigma next).foldl max 0
  let r := collect (e.mins.map fun m => if m = noNet then (noNet, 0) else saturate 32 geomSat (m - far))
  let cond := e.cond.orElse fun _ => if bit r.2 2 then some (9, 0xFFFF, 0xFFFF) else none
  let bad := match cond with
    | some c => [5, 6, 8, 9, 10].contains c.1
    | none => false
  ({ e with cond := cond, flags := e.flags ||| r.2 }, if bad then e.mins.map fun _ => fmtMin 32 else r.1)

/-- The bounds of all tool points at all probe nodes, with what the operation left: nodes, then tools, then classes.
`times` gives the mover interval at a node and its successor. -/
def SweepOp.probe (op : SweepOp) (s : State) (sigmaEnd : Nat) (times : Nat → Nat → Nat × Nat) :
    List (List (List Int)) × Progress :=
  let rows := (List.range probeNodes.length).map fun i =>
    let g := probeNodes.getD i 255
    let g' := probeNodes.getD (i + 1) 255
    let t := times g g'
    (gridSigma sigmaEnd g, op.b.rig.tools.map fun tool =>
      op.toolBound s tool (gridSigma sigmaEnd g) (gridSigma sigmaEnd g') t.1 t.2)
  let x := rows.foldl (init := ({ sigma := 0 } : Progress)) fun x r =>
    let y := r.2.foldl (init := x) fun x e =>
      let x := x.seen e.1 r.1
      match e.1.cond with
      | some c => if x.verdict = 0 then x.ended c e.1.faults r.1 else x
      | none => x
    { y with steps := x.steps + 1 }
  (rows.map fun r => r.2.map (·.2), x)

end Sys2Proof.Machine
end

