-- ==== Sys2Proof/Machine/Propose.lean ====
section
/-!
DEFINITION. Sys2Proof/Machine/Propose.lean: proposal (R139-R154): the CONTEXT inputs, SEED, SAMPLE, and the rows CONTEXT_RUN,
HEAD_BLOCK and LOCAL_BLOCK.
-/
namespace Sys2Proof.Machine

/-! ## CONTEXT inputs (R140-R144) -/

/-- The coarse value of class `c` at a lattice point of a segment, in mm (R143). DESIGN CHOICE: a point outside the adjacent segment's
directory too is outside the world (log entry 148). -/
def State.coarseAt (s : State) (w seg : Nat) (p : List Int) (c : Nat) : Int :=
  let x := s.wd w
  let o := offsets p
  let cell := cellOf seg o
  if at0 p 0 < -65536 ∨ !x.inside seg p ∨ !x.hasCell cell then -32768
  else match s.corner w (some ⟨cell, false, 0⟩) ((bits (offAt o 2) 12 4 * 16 + bits (offAt o 1) 12 4) * 16 + bits (offAt o 0) 12 4) with
    | (_, v) => at0 v c

/-- A grid point outside the base segment's directory is looked up in the adjacent segment, without rotation. -/
def World.neighbour (w : World) (seg : Nat) (p : List Int) : Nat × List Int :=
  let a := (at0 p 0 + 65536) / 65536
  if a < 0 ∧ seg > 0 then (seg - 1, [at0 p 0 + (w.seg (seg - 1)).length, at0 p 1, at0 p 2])
  else if a ≥ (w.seg seg).dirSlices ∧ seg + 1 < w.segments.length then
    (seg + 1, [at0 p 0 - (w.seg seg).length, at0 p 1, at0 p 2])
  else (seg, p)

/-- The base origin of a chainage: its segment and point (R118). -/
def World.baseOrigin (w : World) (r : Rig) (q0 : Int) : Nat × List Int :=
  let i := w.baseFrame q0
  (i, [q0 - (w.seg i).sStart, r.uOffset, 0])

/-- FEATURE (R143), with OUT_SAT where a value is cut to S8 (R76). -/
def State.feature (s : State) (b : Binding) (q : Query) : List Flagged :=
  let w := s.wd b.world
  let o := w.baseOrigin b.rig (at0 q.qStart 0)
  let first := (vAdd o.2 b.net.fvOrigin).map fun v => v / 4096 * 4096
  let pitch : Int := 4096 * 2 ^ b.net.fvPitch
  let dim (i : Nat) := b.net.fvDims.getD i 1
  (List.range (dim 0)).flatMap fun x => (List.range (dim 1)).flatMap fun y => (List.range (dim 2)).flatMap fun z =>
    let n := w.neighbour o.1 (vAdd first [x * pitch, y * pitch, z * pitch])
    (List.range 4).map fun c => saturate 8 outSat (s.coarseAt b.world n.1 n.2 c / 2 ^ b.net.fvShift)

/-- MOVERS (R142), with OUT_SAT where a value is cut to S16 (R76). DESIGN CHOICE: the centre is rounded FLOOR to 1/64 mm at T_c, and
again where it is carried across a vertex, before its squared distance is formed (log entry 148). -/
def State.moversTensor (s : State) (b : Binding) (q : Query) : List Flagged :=
  let w := s.wd b.world
  let o := w.baseOrigin b.rig (at0 q.qStart 0)
  let t := s.frame.frt + s.frame.conf.tc * ticksPerUs
  let present := (movedOf 0 (s.urgentAt b.world 0) ++ movedOf 0x400 w.movers).filter fun m => m.2.present t
  let rows := present.map fun m =>
    let d := vSub (w.carryPoint m.2.segment o.1 (m.2.centreAt (min t m.2.tTo))) o.2
    (vSq d, (d.map fun v => saturate 16 outSat (v / 1024)) ++ [saturate 16 outSat (sumI m.2.extent / 1024)] ++
      (m.2.vel.map fun v => saturate 16 outSat (v / 64)) ++ [((m.2.cls : Int), 0)])
  let near := (sortBy (fun a c => decide (a.1 < c.1)) rows).take b.net.moversN
  near.flatMap (·.2) ++ unflagged (List.replicate (b.net.moversN - near.length) [0, 0, 0, 0, 0, 0, 0, -1]).flatten

/-- PREV's free points, point-major, and PREV_VALID (R141). -/
def Binding.prev (b : Binding) (x : Stream) : List Int × Int :=
  let n := b.net.ncp
  match x.published with
  | some p =>
    if (p.cp.getD 0 []).length = n + 6 then
      ((List.range n).flatMap fun i => (List.range b.dof).map fun d => normalise (b.span d) (cpAt p.cp d (i + 3)), 32767)
    else (List.replicate (n * b.dof) 0, 0)
  | none => (List.replicate (n * b.dof) 0, 0)

/-- Normalised joint positions. -/
def Binding.norms (b : Binding) (q : List Int) : List Int := (List.range b.dof).map fun d => normalise (b.span d) (at0 q d)

/-- CONTEXT_OUT with the flags and guard hits of its run (R139). -/
def State.runContext (s : State) (b : Binding) (x : Stream) : List Int × Nat × Nat :=
  let q := x.q
  let p := b.prev x
  let g := b.net.context
  let t := runGraph b.net.tensors g (g.fill b.net.tensors [(roleFeature, s.feature b q), (roleStart, unflagged (b.norms q.qStart)),
    (roleGoal, unflagged (b.norms q.qGoal)), (rolePrev, unflagged p.1), (rolePrevValid, unflagged [p.2]),
    (roleMovers, s.moversTensor b q)])
  (g.read roleContextOut t, t.flags, t.guards)

/-! ## Placement in Exact mode (R242, R255) -/

/-- The operation of the block tasks of a stream: ordinary ones, or repair blocks. -/
def blockOp (rep : Bool) : TaskOp := if rep then .repairBlock else .block

/-- The ordinary blocks of a stream that the static schedule places on cluster `p`, in order of their index; `rep`: the repair
blocks of its budget. -/
def State.blocksOn (s : State) (p : Nat) (x : Stream) (rep : Bool) : List Nat :=
  let b := s.binding x
  (List.range (if rep then b.set.repairBlocks else x.blocks)).filter fun i =>
    s.scheduledOn (b.wid % 4) (scheduleKey (opCode (blockOp rep)) b.wid i) == some p

/-- The blocks that the static schedule places on a cluster, in its order of offers: (place in the order, stream, repair or
not, index). -/
def State.blockOrder (s : State) (p : Nat) : List (Nat × Nat × Bool × Nat) :=
  let of (x : Stream) (rep : Bool) : List (Nat × Nat × Bool × Nat) := (s.blocksOn p x rep).map fun i =>
    ((Config.staticSchedule s.frame.schedule (scheduleKey (opCode (blockOp rep)) (s.wireId x.id) i)).2.1, x.id, rep, i)
  sortBy (fun a b => decide (a.1 < b.1) || a.1 == b.1 && (decide (a.2.1 < b.2.1) || a.2.1 == b.2.1 && (!a.2.2.1 && b.2.2.1)))
    (s.streams.flatMap fun x => of x false ++ of x true)

/-- The first local index of a block on a cluster: the next free one, in Exact mode that of its place in the schedule, whichever
blocks have run (R147, R242). -/
def State.localBase (s : State) (p id : Nat) (rep : Bool) (i : Nat) : Nat :=
  if s.frame.conf.exact then
    64 * ((s.blockOrder p).findIdx fun e => e.2.1 == id && e.2.2.1 == rep && e.2.2.2 == i)
  else (s.cl p).nextLocal

/-- The index of the block of a stream that runs next on a cluster; `done` blocks have run, `here` of them there. In Exact mode
the static schedule fixes which blocks run there. -/
def State.nextBlock (s : State) (p : Nat) (x : Stream) (rep : Bool) (done here : Nat) : Option Nat :=
  if s.frame.conf.exact then (s.blocksOn p x rep)[here]? else some done

/-- The task by which a cluster runs CONTEXT for a stream: its CONTEXT task, or, while weight streaming is in force, a block of the
stream that it holds (R139, R147, R155). -/
def State.contextTask (s : State) (p : Nat) (x : Stream) : Option (Option Nat) :=
  let c := s.cl p
  let wid := s.wireId x.id
  if s.contextPerBlock x then
    if (c.sched.tasks.any fun h => isBlock h.task && h.task.stream == wid) && !c.contexts.any (·.1 == x.id) then some none else none
  else if x.contextOut.isSome then none else (c.toMake .context wid).map some

/-- The output of a running task is made. -/
def Cluster.make (e : Option Nat) (c : Cluster) : Cluster := { c with made := c.made ++ e.toList }

/-- A tile of the weight stream: half of the double buffer (log entry 146). -/
abbrev tileBytes : Nat := 65536

/-- A pass over a streamed image's weights brings its tiles into the two halves of a cluster's weight buffer in turn; the last one
of each half stays (R155, R266; log entry 146). -/
def State.streamTiles (p : Nat) (net : Net) (s : State) : State :=
  if net.resident then s
  else
    let n := ceilDiv net.weights.length tileBytes
    ((List.range n).drop (n - 2)).foldl (init := s) fun s i =>
      s.sramWrite (scratchAddr p (weightBuffer + i % 2 * tileBytes)) ((net.weights.drop (i * tileBytes)).take tileBytes)

/-- CONTEXT runs once per stream on the cluster that will hold its block 0; while weight streaming is in force, on every
cluster that holds a block (R139, R147, R155). -/
def State.contextRun (id p : Nat) (s : State) : State :=
  match s.stream? id with
  | none => s
  | some x => match s.contextTask p x with
    | none => s
    | some e =>
      let b := s.binding x
      s.when_ (s.working && s.takesWork p && stackOf p == b.wid % 4 && s.works x) fun s =>
        let r := s.runContext b x
        let s := ((s.raiseArith p r.2.1 r.2.2).bumpCl p 0 b.net.ctxCycles).streamTiles p b.net
        let s := s.modCl p fun c => ({ c with contexts := upsert id r.1 c.contexts }).make e
        let s := s.opDigest 5 x.tagLayer x.tagOperator (b.wid % 256) 0 (r.1.flatMap (leS 2))
        s.modStream id fun y => { y with contextOut := some r.1 }

/-- CONTEXT_RUN (R139). -/
def execContextRun (stream cluster : Nat) (t : Nat) (s : State) : Host.Outcome State Fault Refusal :=
  ranAt (below cluster 64 && streamOk stream) t s (State.contextRun stream cluster)

/-! ## SEED and SAMPLE (R148, R149, R152) -/

/-- The mix of R152. -/
def mix64 (z : BitVec 64) : BitVec 64 :=
  let z := (z ^^^ (z >>> 30)) * 0xBF58476D1CE4E5B9#64
  let z := (z ^^^ (z >>> 27)) * 0x94D049BB133111EB#64
  z ^^^ (z >>> 31)

/-- One random word (R152). -/
def seedWord (key : BitVec 64) (frame : BitVec 32) (stream g w : Nat) : BitVec 64 :=
  mix64 (key ^^^ mix64 ((frame.setWidth 64 <<< 32) ||| BitVec.ofNat 64 (stream * 2 ^ 24 + g * 64 + w)))

/-- The key K of a stream (R153, R390). -/
def State.seedKey (s : State) (b : Binding) (x : Stream) : BitVec 64 :=
  BitVec.ofNat 64 (if s.frame.conf.exact then (match x.guest with
    | some g => g.key
    | none => b.set.seed) else x.kDraw)

/-- NOISE of a candidate: bytes of the words as S8. -/
def noiseOf (dim : Nat) (word : Nat → BitVec 64) : List Int :=
  (List.range dim).map fun e => toSigned 8 (bits (word (e / 8)).toNat (8 * (e % 8)) 8)

/-- The chosen component (R149). -/
def pickComponent (probs : List Int) (r : Nat) : Nat :=
  let sums := (List.range probs.length).map fun m => sumI (probs.take (m + 1))
  ((List.range probs.length).find? fun m => decide ((r : Int) < at0 sums m)).getD (probs.length - 1)

/-- One proposed candidate: component, P_m, FLAGS bits 1 and 2 and the component's CP values (point-major). -/
structure Sample where
  component : Nat
  weight : Int
  flags : Nat
  cp : List Int

/-- Runs a graph once for a block, with one row per candidate, and takes each candidate's component (R139, R149); with the flags
and guard hits of the run. DESIGN CHOICE: one row runs every operator of the graph (log entry 118). -/
def State.runBlock (s : State) (b : Binding) (x : Stream) (g : NetGraph) (extra : List (Nat × List Int)) (ctx : List Int)
    (g0 wBase : Nat) : List Sample × Nat × Nat :=
  let word (j w : Nat) := seedWord (s.seedKey b x) s.frame.counter b.wid (g0 + j) (wBase + w)
  let rows (l : List Int) : List Int := (List.replicate 64 l).flatten
  let t := runGraph b.net.tensors g (g.fill b.net.tensors ([(roleContextIn, unflagged (rows ctx)),
    (roleNoise, unflagged ((List.range 64).flatMap fun j => noiseOf b.net.noiseDim (word j)))] ++
      extra.map fun e => (e.1, unflagged (rows e.2))))
  let size := b.net.ncp * b.dof
  let k := b.net.components
  let probs := g.read roleProb t
  let cps := g.read roleCp t
  ((List.range 64).map fun j =>
    let ps := (probs.drop (j * k)).take k
    let m := if k = 1 then 0 else pickComponent ps ((word j 31).toNat % 65536 / 2)
    let f := t.rowFlags 64 j
    { component := m, weight := at0 ps m, flags := flag (bit f 4) 1 + flag (bit f 0 || bit f 1) 2,
      cp := (cps.drop ((j * k + m) * size)).take size }, t.flags, t.guards)

/-- The free control point `i` (0 for c_3) of joint `d` from a component's CP values. -/
def Binding.freePoint (b : Binding) (v : List Int) (d i : Nat) : Int := denormalise (b.span d) (at0 v (i * b.dof + d))

/-- The control points of an ordinary candidate (R148). -/
def Binding.spline (b : Binding) (q : Query) (v : List Int) : List (List Int) :=
  (List.range b.dof).map fun d =>
    let st := at0 q.qStart d
    [st - at0 q.tau d, st, st + at0 q.tau d] ++ (List.range b.net.ncp).map (b.freePoint v d) ++
      List.replicate 3 (at0 q.qGoal d)

/-- The bytes of a candidate record (Table 06.5). -/
def Binding.candBytes (b : Binding) (c : Cand) : List Byte :=
  le 1 b.wid ++ le 1 c.component ++ le 1 b.net.ncp ++ le 1 b.dof ++ le 4 c.g ++ le 2 c.flags ++ leS 2 c.weight ++ zeros 4 ++
    padTo 8 (c.cp.flatMap fun r => r.flatMap (leS 4))

/-! ## Blocks -/

/-- The context that a cluster holds for a stream: of its own run, or the copy (R147, R155). -/
def State.contextOn (s : State) (p : Nat) (x : Stream) : Option (List Int) :=
  ((s.cl p).contexts.find? (·.1 == x.id)).map (·.2)

/-- A block whose task a cluster runs is made there with a first local index: the cluster takes work, is on the home stack and holds
the context, the stream proposes, and there are 64 local indices (R147). -/
def State.blockDue (s : State) (p : Nat) (b : Binding) (x : Stream) (base : Nat) : Bool :=
  s.working && s.takesWork p && stackOf p == b.wid % 4 && s.proposes x && (s.contextOn p x).isSome && decide (base + 64 ≤ 4096)

/-- The carried plan as a candidate for re-check (R239). -/
def carriedCand (id : Nat) (p : Plan) : Cand := {
  stream := id, g := p.g, origin := 2, cp := p.cp, selected := true, smoothed := true, tsDone := true, tm := p.tm,
  tStart := p.tStart, smooth := { probeEpoch := 255, duration := (tmAt p.tm 255).tHi, jerkInt := p.smooth.jerkInt } }

/-- A farmed entry as a candidate for re-check (R391). -/
def farmedCand (id : Nat) (e : Entry) : Cand := {
  stream := id, g := e.g, origin := 3, cp := e.cp, selected := true, smoothed := true, tsDone := true, tm := e.tm,
  tStart := e.tStart, smooth := e.smooth, peer := e.peer }

/-- The carried plan of a stream goes to RECHECK on the cluster of block 0 once every REPAIR has ended without a hit
(R239). -/
def State.placeCarried (id : Nat) (s : State) : State :=
  match s.stream? id with
  | none => s
  | some x => match x.block0, x.carried with
    | some p, some c =>
      if x.repairRuns.isEmpty && x.repairVerdict.isNone && !(s.cl p).cands.any fun k => k.stream == id && k.origin == 2 then
        s.modCl p fun k => { k with cands := k.cands ++ [carriedCand id c] }
      else s
    | _, _ => s

/-- The farmed entries of a stream go to RECHECK on the cluster of block 0 (R391). -/
def State.placeFarmed (id p : Nat) (s : State) : State :=
  let es := lookupD [] id s.farming.usable
  let s := s.modFarming fun f => { f with usable := f.usable.filter (·.1 != id) }
  s.modCl p fun k => { k with cands := k.cands ++ es.map (farmedCand id) }

/-- The cluster of block 0 is known. -/
def State.block0On (id p : Nat) (s : State) : State :=
  ((s.modStream id fun y => { y with block0 := some p }).placeCarried id).placeFarmed id p

/-- A block's 64 candidates join the cluster's records; the block is counted. -/
def State.addBlock (p : Nat) (b : Binding) (x : Stream) (cands : List Cand) (flags guards cycles : Nat) (s : State) : State :=
  let s := (s.raiseArith p flags guards).streamTiles p b.net
  let s := (s.bumpCl p 0 cycles).modCl p fun c => { c with cands := c.cands ++ cands, nextLocal := c.nextLocal + 64 }
  let s := if x.guest.isSome then s else s.bumpSes x.session 9 64
  s.opDigest 5 x.tagLayer x.tagOperator (b.wid % 256) ((cands.map (·.g)).headD 0) (cands.flatMap b.candBytes)

/-- HEAD, SEED and SAMPLE produce an ordinary block of 64 candidates (R139, R147-R152), for a block task that the cluster runs. -/
def State.headBlock (id p : Nat) (s : State) : State :=
  match s.stream? id with
  | none => s
  | some x => match s.nextBlock p x false x.blocksDone (lookupD 0 id (s.cl p).blocks) with
    | none => s
    | some i => match (s.cl p).toMake (if i = 0 then .firstBlock else .block) (s.wireId id) with
      | none => s
      | some e =>
        let b := s.binding x
        let base := s.localBase p id false i
        s.when_ (s.blockDue p b x base && decide (i < x.blocks)) fun s =>
          let g0 := p * 4096 + base
          let r := s.runBlock b x b.net.head [] ((s.contextOn p x).getD []) g0 0
          let cands := r.1.zipIdx.map fun n =>
            ({ stream := id, g := g0 + n.2, component := n.1.component, weight := n.1.weight, flags := n.1.flags,
               cp := b.spline x.q n.1.cp, tStart := x.q.tStart } : Cand)
          let s := (s.addBlock p b x cands r.2.1 r.2.2 b.net.blk).modCl p fun c => ({ c with
            blocks := upsert id (lookupD 0 id c.blocks + 1) c.blocks }).make (some e)
          let s := (s.tallyOn p id fun t => { t with proposed := addS t.proposed 64 }).modStream id fun y => { y with
            blocksDone := y.blocksDone + 1 }
          if i = 0 then s.block0On id p else s

/-- HEAD_BLOCK (R139). -/
def execHeadBlock (stream cluster : Nat) (t : Nat) (s : State) : Host.Outcome State Fault Refusal :=
  ranAt (below cluster 64 && streamOk stream) t s (State.headBlock stream cluster)

/-- The WINDOW tensor: the carried plan's free points, normalised, and the window mask (Table 06.3). -/
def Binding.window (b : Binding) (cp : List (List Int)) (w : Nat × Nat) : List Int :=
  ((List.range b.net.ncp).flatMap fun i => (List.range b.dof).map fun d => normalise (b.span d) (cpAt cp d (i + 3))) ++
    (List.range b.net.ncp).map fun i => if w.1 ≤ i + 3 ∧ i + 3 ≤ w.2 then 32767 else 0

/-- The control points of a repair candidate (R154). -/
def Binding.stitch (b : Binding) (cp : List (List Int)) (w : Nat × Nat) (v : List Int) : List (List Int) :=
  (List.range b.dof).map fun d => (List.range b.n).map fun i =>
    if w.1 ≤ i ∧ i ≤ w.2 ∧ 3 ≤ i ∧ i ≤ b.net.ncp + 2 then b.freePoint v d (i - 3) else cpAt cp d i

/-- A repair block proposes stitched candidates (R154, R240), for a repair-block task that the cluster runs: the delay list paces
these (R250). -/
def State.localBlock (id p : Nat) (s : State) : State :=
  match s.stream? id with
  | none => s
  | some x => match x.carried, x.repairWindow, s.nextBlock p x true x.repairDone (lookupD 0 id (s.cl p).repairsAccepted),
      (s.cl p).toMake .repairBlock (s.wireId id) with
    | some plan, some w, some i, some e =>
      let b := s.binding x
      let base := s.localBase p id true i
      s.when_ (s.blockDue p b x base && decide (i < b.set.repairBlocks)) fun s =>
        let g0 := p * 4096 + base
        let graph := if b.net.localGraph then b.net.localG else b.net.head
        let extra := if b.net.localGraph then [(roleWindow, b.window plan.cp w)] else []
        let r := s.runBlock b x graph extra ((s.contextOn p x).getD []) g0 32
        let cands := r.1.zipIdx.map fun n =>
          ({ stream := id, g := g0 + n.2, origin := 1, component := n.1.component, weight := n.1.weight, flags := n.1.flags + 1,
             cp := b.stitch plan.cp w n.1.cp, winA := w.1, winB := w.2, tStart := plan.tStart } : Cand)
        let cycles := (if b.net.localGraph then b.net.localCycles else b.net.headCycles) + (b.net.noiseDim + 8) +
          (b.dof * (b.net.ncp + 6) + 12)
        let s := (s.addBlock p b x cands r.2.1 r.2.2 cycles).modCl p fun c => ({ c with
          repairsAccepted := upsert id (lookupD 0 id c.repairsAccepted + 1) c.repairsAccepted }).make (some e)
        (s.tallyOn p id fun t => { t with repairs := addS t.repairs 64 }).modStream id fun y => { y with
          repairDone := y.repairDone + 1 }
    | _, _, _, _ => s

/-- LOCAL_BLOCK (R154). -/
def execLocalBlock (stream cluster : Nat) (t : Nat) (s : State) : Host.Outcome State Fault Refusal :=
  ranAt (below cluster 64 && streamOk stream) t s (State.localBlock stream cluster)

end Sys2Proof.Machine
end

