-- ==== Sys2Proof/Machine/Smooth.lean ====
section
/-!
DEFINITION. Sys2Proof/Machine/Smooth.lean: cost programs and their metrics (R215-R220), the top-K cut (R221, R222), the
smoothing system, its preconditioner and the conjugate-gradient solve (R191-R202, R211, R212).
-/
namespace Sys2Proof.Machine

/-! ## Constants of a session (R192, R193) -/

/-- A joint's span in units of LSB. -/
def Binding.width (b : Binding) (j : Nat) : Nat := ((b.span j).2 - (b.span j).1).toNat

/-- Scales a ratio to 2^14 at its largest, RNE. -/
def toUnit14 (num den top topDen : Nat) : Int := divRound (16384 * (num * topDen : Nat)) (max 1 (den * top) : Nat) rne

/-- W of R192: span over JERK_MAX squared, in radians or millimetres. -/
def Binding.weights (b : Binding) : List Int :=
  let rs : List (Nat × Nat) := (List.range b.dof).map fun j =>
    (b.width j ^ 2, (scaled b.set.speedScale 3 (b.rig.joint j).jerkMax * (if b.revolute j then 1024 else 4)) ^ 2)
  let top := rs.foldl (fun m r => if m.1 * r.2 < r.1 * m.2 then r else m) (0, 1)
  rs.map fun r => max 1 (toUnit14 r.1 r.2 top.1 top.2)

/-- A tool point's motion per joint over the joint's span, in 2^-26 of 1/64 mm; a prismatic entry counts as 1. -/
def Binding.toolSpan (b : Binding) (t : RigTool) (j : Nat) : Nat :=
  let l := (b.rig.lips.getD t.link []).getD j 0
  if l = 0 then 0 else if b.revolute j then l * b.width j else b.width j * 2 ^ 26

/-- G of R192, row-major. -/
def Binding.metric (b : Binding) : List Int :=
  let raw (j k : Nat) : Nat := sumN (b.rig.tools.map fun t => b.toolSpan t j * b.toolSpan t k)
  let top := ((List.range b.dof).map fun j => raw j j).foldl max 0
  (List.range (b.dof * b.dof)).map fun i =>
    let j := i / b.dof
    let k := i % b.dof
    toUnit14 (64 * raw j k + if j = k then top else 0) 1 (65 * top) 1

/-- s_ij of R192. -/
def jerkCoeff (n i j : Nat) : Int :=
  let t (k i : Nat) : Int := if i < k then 0 else at0 [-1, 3, -3, 1] (i - k)
  sumI ((List.range (n - 3)).map fun k => t k i * t k j)

/-! ## Metrics (R219) -/

/-- N(c) of a spline, joint-major. -/
def Binding.normCp (b : Binding) (cp : List (List Int)) : List (List Int) :=
  (List.range b.dof).map fun d => (List.range b.n).map fun i => normalise (b.span d) (cpAt cp d i)

/-- g_lo of R235 for an elapsed time. -/
def nodeLo (tm : List TmEntry) (e : Int) : Nat :=
  ((List.range 256).filter fun g => decide (((tmAt tm g).tHi : Int) ≤ e)).getLastD 0

/-- The segment from which sums start: 0, or the one that holds σ_lo for a carried or repaired candidate. -/
def Binding.fromSegment (b : Binding) (x : Stream) (c : Cand) : Nat :=
  if c.origin = 1 ∨ c.origin = 2 then
    match x.carried with
    | some p => min (gridSigma b.sigmaEnd (nodeLo p.tm x.elapsed) / 65536) (b.n - 4)
    | none => 0
  else 0

/-- Segments of a sum. -/
def Binding.segmentsFrom (b : Binding) (k : Nat) : List Nat := (List.range (b.n - 3)).filter fun i => decide (k ≤ i)

/-- DURATION at stage 0: its quotients are DSU divides of the core (R75), with their flags. -/
def Binding.roughDuration (b : Binding) (c : Cand) (k0 : Nat) : Flagged :=
  let per (k : Nat) : List Int × Nat := collect ((List.range b.dof).map fun d =>
    dsuDiv coreSat (derivBound c.cp d k) (b.velLim d) (Config.limitFrac 1) ceilMode)
  let l := (b.segmentsFrom k0).map per
  (sumI (l.map fun r => maxD 0 r.1), l.foldl (fun f r => f ||| r.2) 0)

/-- PATH_LEN. -/
def Binding.pathLen (b : Binding) (c : Cand) (k0 : Nat) : Int :=
  let l := ((b.rig.tools.head?).map (·.link)).getD 0
  sumN ((b.segmentsFrom k0).map fun k => b.rig.rateIn c.cp l k)

/-- Sum of the magnitudes of a stencil's values along a row. -/
def diffSum (st : List Int) (row : List Int) : Int :=
  sumN ((List.range (row.length + 1 - st.length)).map fun i =>
    (sumI ((List.range st.length).map fun j => at0 st j * at0 row (i + j))).natAbs)

/-- JERK_INT at stage 0. -/
def Binding.jerkMetric (b : Binding) (c : Cand) : Int :=
  let w := b.weights
  sumI ((List.range b.dof).map fun d => at0 w d * diffSum [-1, 3, -3, 1] ((b.normCp c.cp).getD d [])) / 2 ^ 14

/-- ENERGY. -/
def Binding.energy (b : Binding) (c : Cand) : Int :=
  let g := b.metric
  sumI ((List.range b.dof).map fun d => at0 g (d * b.dof + d) * diffSum [1, -2, 1] ((b.normCp c.cp).getD d [])) / 2 ^ 14

/-- DEV. -/
def Binding.deviation (b : Binding) (x : Stream) (c : Cand) : Int :=
  let p := b.prev x
  if p.2 = 0 then -1
  else
    let n := b.normCp c.cp
    sumN ((List.range b.net.ncp).flatMap fun i => (List.range b.dof).map fun d =>
      (at0 (n.getD d []) (i + 3) - at0 p.1 (i * b.dof + d)).natAbs)

/-- The sixteen metrics of Table 09.4, each saturated to S32 by the core that forms it, with the flags raised (R70). -/
def Binding.metrics (b : Binding) (x : Stream) (c : Cand) (stage : Nat) : List Int × Nat :=
  let k0 := b.fromSegment x c
  let late := c.origin == 1 || c.origin == 2
  let rec_ := if stage = 0 then c.check else c.recheck
  let net (i : Nat) := (rec_.map fun v => v.minNet.getD i noNet).getD noNet
  let dur : Flagged := if stage = 0 then b.roughDuration c k0
    else ((c.smooth.duration : Int) - if late then x.elapsed else 0, 0)
  let r := collect (([(stage : Int), dur.1, b.pathLen c k0, net 0, net 1, net 2, net 3,
    if stage = 0 then b.jerkMetric c else c.smooth.jerkInt, b.deviation x c, b.energy c, c.origin] ++
      List.replicate 5 0).map (saturate 32 coreSat))
  (r.1, r.2 ||| dur.2)

/-! ## Cost programs (R218) -/

/-- A binary operation on the two topmost values. -/
def binary (f : Int → Int → Flagged) : List Int → List Int × Nat
  | b :: a :: r => let v := f a b; (v.1 :: r, v.2)
  | l => (l, 0)

/-- A unary operation. -/
def unary (f : Int → Flagged) : List Int → List Int × Nat
  | a :: r => let v := f a; (v.1 :: r, v.2)
  | l => (l, 0)

/-- A value saturated to S32 for a core. -/
def core32 (v : Int) : Flagged := saturate 32 coreSat v
/-- A comparison's result. -/
def truth (b : Bool) : Flagged := (if b then 1 else 0, 0)

/-- One instruction other than jumps and RET, on the stack (top first). -/
def costStep (metrics params consts : List Int) (op arg : Nat) (st : List Int) : List Int × Nat :=
  match op with
  | 0x01 => (toSigned 24 arg :: st, 0)
  | 0x02 => (at0 metrics arg :: st, 0)
  | 0x03 => (at0 params arg :: st, 0)
  | 0x04 => (at0 consts arg :: st, 0)
  | 0x05 => (st.headD 0 :: st, 0)
  | 0x06 => (st.drop 1, 0)
  | 0x07 => (match st with
    | b :: a :: r => a :: b :: r
    | l => l, 0)
  | 0x08 => (at0 st 1 :: st, 0)
  | 0x10 => binary (fun a b => core32 (a + b)) st
  | 0x11 => binary (fun a b => core32 (a - b)) st
  | 0x12 => binary (fun a b => core32 (shiftRound (a * b) (bits arg 0 6) (bits arg 6 2))) st
  | 0x13 => binary (fun a b => dsuDiv coreSat a b (bits arg 0 5) (bits arg 5 2)) st
  | 0x14 => unary (fun a => (shiftRound a (bits arg 0 5) (bits arg 5 2), 0)) st
  | 0x15 => unary (fun a => core32 (a * 2 ^ bits arg 0 5)) st
  | 0x16 => unary (fun a => core32 (-a)) st
  | 0x17 => unary (fun a => core32 a.natAbs) st
  | 0x18 => binary (fun a b => (min a b, 0)) st
  | 0x19 => binary (fun a b => (max a b, 0)) st
  | 0x20 => binary (fun a b => truth (decide (a < b))) st
  | 0x21 => binary (fun a b => truth (decide (a ≤ b))) st
  | 0x22 => binary (fun a b => truth (decide (a = b))) st
  | 0x23 => (match st with
    | b :: a :: c :: r => (if c = 0 then b else a) :: r
    | l => l, 0)
  | _ => (st, 0)

/-- Runs the instructions from one on; the cost and the flags raised. -/
def costRun (metrics params consts : List Int) : Nat → List Nat → List Int × Nat → Flagged
  | 0, _, acc => (acc.1.headD 0, acc.2)
  | _ + 1, [], acc => (acc.1.headD 0, acc.2)
  | fuel + 1, w :: r, acc =>
    let op := w / 2 ^ 24
    let arg := w % 2 ^ 24
    if op = 0x3F then (acc.1.headD 0, acc.2)
    else if op = 0x30 then
      costRun metrics params consts fuel (if acc.1.headD 0 = 0 then r.drop arg else r) (acc.1.drop 1, acc.2)
    else if op = 0x31 then costRun metrics params consts fuel (r.drop arg) acc
    else
      let n := costStep metrics params consts op arg acc.1
      costRun metrics params consts fuel r (n.1, acc.2 ||| n.2)

/-- Cycles and DSU divides of the instructions that a run of a cost program executes (Table 09.3). -/
def costSpent (metrics params consts : List Int) : Nat → List Nat → List Int → Nat × Nat → Nat × Nat
  | 0, _, _, n => n
  | _ + 1, [], _, n => n
  | fuel + 1, w :: r, st, n =>
    let op := costOp w
    let n := (n.1 + ((costShape op).getD (0, 0, 0)).2.2, n.2 + flag (op == 0x13) 0)
    if op = 0x3F then n
    else if op = 0x30 then
      costSpent metrics params consts fuel (if st.headD 0 = 0 then r.drop (costArg w) else r) (st.drop 1) n
    else if op = 0x31 then costSpent metrics params consts fuel (r.drop (costArg w)) st n
    else costSpent metrics params consts fuel r (costStep metrics params consts op (costArg w) st).1 n

/-- What a run of the cost program of a candidate spends on CC1 and the DSU. -/
def Binding.costSpent (b : Binding) (x : Stream) (c : Cand) (stage : Nat) : Nat × Nat :=
  Machine.costSpent (b.metrics x c stage).1 b.set.costParam b.cost.consts b.cost.instrs.length b.cost.instrs [] (0, 0)

/-- The cost of a candidate at a stage. -/
def Binding.costOf (b : Binding) (x : Stream) (c : Cand) (stage : Nat) : Flagged :=
  let m := b.metrics x c stage
  costRun m.1 b.set.costParam b.cost.consts b.cost.instrs.length b.cost.instrs ([], m.2)

/-! ## Keys and shortlists (R209, R221, R223) -/

/-- Order of keys: cost, generator index, origin, then the peer of a farmed entry (R221, R391). -/
def Entry.before (a b : Entry) : Bool :=
  a.cost < b.cost || a.cost == b.cost && (a.g < b.g || a.g == b.g && (a.origin < b.origin ||
    a.origin == b.origin && decide (a.peer < b.peer)))

/-- The 4 lowest keys of a list. -/
def lowest4 (l : List Entry) : List Entry := (sortBy Entry.before l).take 4

/-- The shortlist entry of a costed candidate of cluster `p`. -/
def Cand.entry (c : Cand) (p : Nat) : Entry := {
  cost := c.cost1.getD 0, g := c.g, origin := c.origin, stream := c.stream, cluster := p,
  epoch := (c.recheck.map (·.epoch)).getD 0, winA := c.winA, winB := c.winB, smooth := c.smooth,
  minNet := (c.recheck.map (·.minNet)).getD [], tStart := c.tStart, cp := c.cp, swept := c.swept, tm := c.tm,
  peer := c.peer }

/-- A candidate joins its query's shortlist; time-map slots of entries that leave are released. -/
def State.shortlist (p : Nat) (e : Entry) (s : State) : State :=
  s.modCl p fun c =>
    let old := lookupD [] e.stream c.shortlists
    let new := lowest4 (old ++ [e])
    let gone := (old ++ [e]).filter fun x => !new.contains x
    { c with shortlists := upsert e.stream new c.shortlists,
             mapSlots := c.mapSlots.filter fun m => !gone.any fun x => x.smooth.mapSlot == m }

/-- The first candidate that waits for the stage. -/
def Cand.wantsCost (c : Cand) (stage : Nat) : Bool :=
  if stage = 0 then c.cost0.isNone && !c.selected && (c.check.map (·.verdict)) == some 0
  else c.cost1.isNone && (c.recheck.map (·.verdict)) == some 0

/-- A cost program runs for a candidate on CC1 (R23, R220). -/
def State.costProgram (p id g stage : Nat) (s : State) : State :=
  match s.stream? id, (s.cl p).cand? id g (·.wantsCost stage) with
  | some x, some c =>
    s.when_ (s.working && s.takesWork p) fun s =>
      let b := s.binding x
      let r := b.costOf x c stage
      let n := b.costSpent x c stage
      let s := ((s.bumpCl p 5 n.1).selEvent 0 p 0x06 2 x.tagLayer x.tagOperator n.2).raiseArith p r.2
      let s := s.opDigest (if stage = 0 then 7 else 9) x.tagLayer x.tagOperator (b.wid % 256) g (leS 4 r.1)
      if stage = 0 then s.modCand p id g (·.wantsCost 0) fun c => { c with cost0 := some r.1 }
      else (s.modCand p id g (·.wantsCost 1) fun c => { c with cost1 := some r.1 }).shortlist p
        ({ c with cost1 := some r.1 }.entry p)
  | _, _ => s

/-- COST_PROGRAM (R220). -/
def execCostProgram (cluster stream g stage : Nat) (t : Nat) (s : State) : Host.Outcome State Fault Refusal :=
  ranAt (below cluster 64 && streamOk stream && below stage 2) t s (State.costProgram cluster stream g stage)

/-! ## The system of a candidate (R192-R195, R202) -/

/-- The free points of a candidate: all, or those of its repair window. -/
def Binding.freePoints (b : Binding) (c : Cand) : List Nat :=
  ((List.range b.net.ncp).map (· + 3)).filter fun i => c.origin != 1 || decide (c.winA ≤ i ∧ i ≤ c.winB)

/-- α_i with the flags of its divide (R194). -/
def Binding.attraction (b : Binding) (c : Cand) (i : Nat) : Flagged :=
  let ks := (List.range (b.n - 3)).filter fun k => decide (i - 3 ≤ k ∧ k ≤ i)
  let clear := minD noNet (ks.map fun k => c.segClear.getD k noNet)
  let r := dsuDiv geomSat b.set.clrRef (max clear 64) 8 floorMode
  (min 32767 (b.set.attrGain * r.1 / 256), r.2)

/-- H, row by row, at 256 times its real value; unknowns in the order free point, then joint. -/
def Binding.system (b : Binding) (c : Cand) : List (List Int) × Nat :=
  let fs := b.freePoints c
  let w := b.weights
  let g := b.metric
  let al := fs.map (b.attraction c)
  let dof := b.dof
  ((List.range (fs.length * dof)).map fun r => (List.range (fs.length * dof)).map fun k =>
    let i := fs.getD (r / dof) 0
    let j := fs.getD (k / dof) 0
    let stiff := if r % dof = k % dof then 256 * jerkCoeff b.n i j * at0 w (r % dof) else 0
    let hold := if i = j then ((al[r / dof]?).map (·.1)).getD 0 * at0 g (r % dof * dof + k % dof) else 0
    stiff + hold, al.foldl (fun f a => f ||| a.2) 0)

/-- b at 256 times its real value. -/
def Binding.rhs (b : Binding) (c : Cand) : List Int :=
  let n := b.normCp c.cp
  let w := b.weights
  (b.freePoints c).flatMap fun i => (List.range b.dof).map fun d =>
    -256 * sumI ((List.range b.n).map fun j => jerkCoeff b.n i j * at0 w d * at0 (n.getD d []) j)

/-- The least shift that brings every entry to at most 2^14. -/
def scaleOf (h : List (List Int)) : Nat :=
  let top := (h.map fun r => (r.map Int.natAbs).foldl max 0).foldl max 0
  ((List.range 64).find? fun e => decide ((shiftRound top e rne).natAbs ≤ 16384)).getD 64

/-- Diagonal blocks of the preconditioner: first row and order (R196). -/
def Binding.diagBlocks (b : Binding) (c : Cand) : List (Nat × Nat) :=
  let half := (b.dof + 1) / 2
  (List.range (b.freePoints c).length).flatMap fun f =>
    if b.dof ≤ 16 then [(f * b.dof, b.dof)] else [(f * b.dof, half), (f * b.dof + half, b.dof - half)]

/-- The solver as the STS sets it up for a candidate, with the flags raised (R193, R195, R201). -/
def Binding.setup (b : Binding) (c : Cand) : Solver × Nat :=
  let h := b.system c
  let e := scaleOf h.1
  let rhs := collect ((b.rhs c).map fun v => saturate 16 outSat (shiftRound v (e + 14) rne))
  ({ free := b.freePoints c, h := h.1.map fun r => r.map fun v => shiftRound v e rne, b := rhs.1,
     factors := (b.diagBlocks c).map fun _ => none, overflow := rhs.2 != 0 || h.2 != 0 }, rhs.2 ||| h.2)

/-! ## Top-K cut (R222) -/

/-- Every block of a stream's query has been accepted by some cluster: the ordinary blocks, and the repair blocks that a hit of
its REPAIR operations opens. -/
def State.allAccepted (s : State) (x : Stream) : Bool :=
  x.repairRuns.isEmpty &&
    x.blocksAccepted == x.blocks + if x.repairWindow.isSome then (s.binding x).set.repairBlocks else 0

/-- Every block of the query that the cluster accepted has been made, and every candidate of it has its CHECK verdict, every CLEAR
one its stage-0 cost. -/
def Cluster.cutReady (c : Cluster) (id wid : Nat) : Bool :=
  !c.blocksAhead.contains wid && c.cands.all fun k => k.stream != id || decide (2 ≤ k.origin) ||
    (k.check.isSome && (k.cost0.isSome || (k.check.map (·.verdict)) != some 0))

/-- The PRERANK_K lowest stage-0 keys pass to smoothing; the others are released. The keys that pass are its output in the operator
digest (log entry 147). -/
def State.topkCut (p id : Nat) (s : State) : State :=
  match s.stream? id with
  | none => s
  | some x =>
    let c := s.cl p
    let b := s.binding x
    let due := s.working && s.takesWork p && s.allAccepted x && c.cutReady id b.wid && !c.cutDone.contains id &&
      c.cands.any fun k => k.stream == id && decide (k.origin < 2)
    s.when_ due fun s =>
      let lt (a k : Cand) : Bool :=
        a.cost0.getD 0 < k.cost0.getD 0 || a.cost0 == k.cost0 && (a.g < k.g || a.g == k.g && decide (a.origin < k.origin))
      let mine := c.cands.filter fun k => k.stream == id && decide (k.origin < 2) && k.cost0.isSome
      let kept := (sortBy lt mine).take b.set.prerankK
      let s := (s.modCl p fun c => { c with
        cutDone := c.cutDone ++ [id],
        cands := (c.cands.filter fun k => k.stream != id || decide (2 ≤ k.origin)) ++
          kept.map fun k => { k with selected := true, solver := (b.setup k).1 } }).raiseArith p
        (kept.foldl (fun f k => f ||| (b.setup k).2) 0)
      let s := s.opDigest 7 x.tagLayer x.tagOperator (b.wid % 256) p (kept.flatMap fun k => le 4 k.g)
      s.tallyOn p id fun t => { t with smoothed := addS t.smoothed kept.length }

/-- TOPK_CUT (R222). -/
def execTopkCut (cluster stream : Nat) (t : Nat) (s : State) : Host.Outcome State Fault Refusal :=
  ranAt (below cluster 64 && streamOk stream) t s (State.topkCut cluster stream)

/-! ## Factorisation (R196-R198) -/

/-- The factors so far of a column LDLᵀ: rows of L, pivots, reciprocals, and the flags: PIVOT_SMALL, PIVOT_ZERO,
saturation. -/
structure Factor where
  l : List (List Int) := []
  d : List Int := []
  inv : List Int := []
  flags : Nat := 0
  sat : Bool := false

/-- A pivot against its floor (R198): the value used and the flag (bit 0 SMALL, bit 1 ZERO). -/
def pivot (d floor_ : Int) : Int × Nat :=
  if d.natAbs ≥ floor_.natAbs then (d, 0) else if d = 0 then (floor_, 2) else (if d < 0 then -floor_ else floor_, 1)

/-- Column `j`: its pivot, its reciprocal and the entries of L below it. `cols` of L stand by column. -/
def Factor.column (a : List (List Int)) (order : Nat) (floor_ : Int) (x : Factor) (j : Nat) : Factor :=
  let fl := Config.factorFrac.1
  let fr := Config.factorFrac.2
  let lAt (i k : Nat) : Int := at0 (x.l.getD k []) i
  let entry (i : Nat) : Flagged := saturate 32 coreSat (divRound
    (at0 (a.getD i []) j * 2 ^ (2 * fl) - sumI ((List.range j).map fun k => lAt i k * lAt j k * at0 x.d k)) (2 ^ (2 * fl)) rne)
  let dj := entry j
  let pv := pivot dj.1 floor_
  let inv := dsuDiv coreSat 1 pv.1 fr rne
  let below_ := (List.range order).map fun i =>
    if i < j then (0, 0) else if i = j then ((2 ^ fl : Int), 0)
    else
      let e := entry i
      let v := saturate 32 coreSat (divRound (e.1 * inv.1 * 2 ^ fl) (2 ^ fr) rne)
      (v.1, e.2 ||| v.2)
  let c := collect below_
  { l := x.l ++ [c.1], d := x.d ++ [pv.1], inv := x.inv ++ [inv.1], flags := x.flags ||| pv.2,
    sat := x.sat || dj.2 != 0 || inv.2 != 0 || c.2 != 0 }

/-- The factorisation of one diagonal block: columns of L, then the reciprocals (log entry 43). -/
def factorise (h : List (List Int)) (at_ order pivotExp : Nat) : Factor :=
  let a := (List.range order).map fun i => (List.range order).map fun j => at0 (h.getD (at_ + i) []) (at_ + j) * 256
  let norm := (a.map fun r => sumN (r.map Int.natAbs)).foldl max 0
  let floor_ : Int := max 1 (norm / 2 ^ pivotExp)
  (List.range order).foldl (Factor.column a order floor_) {}

/-- Core cycles of a factorisation (R196). -/
def factorCycles (d : Nat) : Nat := 64 + 20 * d + d * (d - 1) * (d + 1) / 6

/-- A candidate in smoothing. -/
def Cand.smoothing (c : Cand) : Bool := c.selected && !c.smoothed

/-- One block factorisation of a candidate, on the core that the firmware kernel chose (R23, R196). -/
def State.factorisation (p id g block core : Nat) (s : State) : State :=
  match s.stream? id, (s.cl p).cand? id g (·.smoothing) with
  | some x, some c =>
    let b := s.binding x
    let due := s.working && s.takesWork p && (c.solver.factors.getD block (some ([], []))).isNone
    s.when_ due fun s =>
      let d := (b.diagBlocks c).getD block (0, 0)
      let f := factorise c.solver.h d.1 d.2 b.set.pivotExp
      let s := (s.bumpCl p (4 + core) (factorCycles d.2)).raiseArith p (if f.sat then coreSat else 0)
      let s := s.opDigest 8 x.tagLayer x.tagOperator (b.wid % 256) g ((f.l.flatten ++ f.inv).flatMap (leS 4))
      s.modCand p id g (·.smoothing) fun c => { c with
        solver := { c.solver with
          factors := c.solver.factors.set block (some (f.l, f.inv)), overflow := c.solver.overflow || f.sat },
        smooth := { c.smooth with flags := c.smooth.flags ||| f.flags } }
  | _, _ => s

/-- FACTORISATION (R196). -/
def execFactorisation (core : CoreId) (stream g block : Nat) (t : Nat) (s : State) : Host.Outcome State Fault Refusal :=
  ranAt (below core.cluster 64 && streamOk stream && below core.core 2) t s
    (State.factorisation core.cluster stream g block core.core)

/-! ## The solve (R199-R202) -/

/-- A write-back into FRAC 15 from an accumulator (R195, R68). -/
def wb16 (sh : Nat) (acc : Int) : Flagged :=
  let a := saturate 48 accSat acc
  let r := saturate 16 outSat (shiftRound a.1 sh rne)
  (r.1, a.2 ||| r.2)

/-- A dot product (R199). -/
def dot15 (a b : List Int) : Flagged :=
  let t := treeSum 48 accSat ((List.range a.length).map fun i => at0 a i * at0 b i)
  let r := saturate 32 geomSat (shiftRound t.1 15 rne)
  (r.1, t.2 ||| r.2)

/-- L y = r by forward substitution, each value written back. -/
def forwardSub (l : List (List Int)) (r : List Int) : List Int × Nat :=
  let fl := Config.factorFrac.1
  (List.range r.length).foldl (init := ([], 0)) fun acc i =>
    let v := saturate 16 outSat (divRound (at0 r i * 2 ^ fl - sumI ((List.range i).map fun k =>
      at0 (l.getD k []) i * at0 acc.1 k)) (2 ^ fl) rne)
    (acc.1 ++ [v.1], acc.2 ||| v.2)

/-- Lᵀ z = y by back substitution. -/
def backSub (l : List (List Int)) (y : List Int) : List Int × Nat :=
  let fl := Config.factorFrac.1
  let n := y.length
  (List.range n).foldl (init := ([], 0)) fun acc k =>
    let i := n - 1 - k
    let v := saturate 16 outSat (divRound (at0 y i * 2 ^ fl - sumI ((List.range k).map fun m =>
      at0 (l.getD i []) (i + 1 + m) * at0 acc.1 m)) (2 ^ fl) rne)
    (v.1 :: acc.1, acc.2 ||| v.2)

/-- z = L⁻ᵀ D⁻¹ L⁻¹ r of one block; D holds the block at 2^22 (log entry 43). -/
def blockSolve (f : List (List Int) × List Int) (r : List Int) : List Int × Nat :=
  let y := forwardSub f.1 r
  let m := collect ((List.range r.length).map fun i =>
    saturate 16 outSat (divRound (at0 y.1 i * at0 f.2 i * 2 ^ 22) (2 ^ Config.factorFrac.2) rne))
  let z := backSub f.1 m.1
  (z.1, y.2 ||| m.2 ||| z.2)

/-- Pinv of the whole vector, block by block. -/
def Solver.pinv (x : Solver) (orders : List (Nat × Nat)) (r : List Int) : List Int × Nat :=
  (List.range orders.length).foldl (init := ([], 0)) fun acc i =>
    let o := orders.getD i (0, 0)
    let z := blockSolve ((x.factors.getD i none).getD ([], [])) ((r.drop o.1).take o.2)
    (acc.1 ++ z.1, acc.2 ||| z.2)

/-- The vectors before the first iteration. -/
def Solver.start (x : Solver) (orders : List (Nat × Nat)) : Solver × Nat :=
  let z := x.pinv orders x.b
  let rz := dot15 x.b z.1
  ({ x with x := x.b.map fun _ => 0, r := x.b, z := z.1, p := z.1, rz := rz.1, started := true,
            overflow := x.overflow || z.2 != 0 || rz.2 != 0 }, z.2 ||| rz.2)

/-- One iteration; `done` is 1 CONVERGED or 2 FAILED (R199). The answer holds the flags raised. -/
def Solver.iterate (x : Solver) (orders : List (Nat × Nat)) : Solver × Nat :=
  if x.done ≠ 0 then (x, 0)
  else
    let q := collect (x.h.map fun row => wb16 14 (sumI ((List.range row.length).map fun j => at0 row j * at0 x.p j)))
    let pq := dot15 x.p q.1
    let f0 := q.2 ||| pq.2
    if x.rz = 0 then ({ x with done := 1, overflow := x.overflow || f0 != 0 }, f0)
    else if pq.1 ≤ 0 then ({ x with done := 2, overflow := x.overflow || f0 != 0 }, f0)
    else
      let al := dsuDiv geomSat x.rz pq.1 15 rne
      let step (v w : List Int) (k : Int) := collect ((List.range v.length).map fun i => wb16 15 (at0 v i * 2 ^ 15 + k * at0 w i))
      let xs := step x.x x.p al.1
      let rs := step x.r q.1 (-al.1)
      let z := x.pinv orders rs.1
      let rz2 := dot15 rs.1 z.1
      let be := dsuDiv geomSat rz2.1 x.rz 15 rne
      let ps := step z.1 x.p be.1
      let f := f0 ||| al.2 ||| xs.2 ||| rs.2 ||| z.2 ||| rz2.2 ||| be.2 ||| ps.2
      ({ x with x := xs.1, r := rs.1, z := z.1, p := ps.1, rz := rz2.1, iter := x.iter + 1,
                overflow := x.overflow || f != 0 }, f)

/-- The trimmed control points, each free one a write-back of its own (R70, R200): joint-major, with the flags of their sums. -/
def Binding.trim (b : Binding) (c : Cand) : List (List Flagged) :=
  let n := b.normCp c.cp
  (List.range b.dof).map fun d => (List.range b.n).map fun i =>
    match c.solver.free.findIdx? (· == i) with
    | some f =>
      let v := saturate 16 outSat (at0 (n.getD d []) i + at0 c.solver.x (f * b.dof + d))
      (denormalise (b.span d) v.1, v.2)
    | none => (cpAt c.cp d i, 0)

/-- The solve of a candidate ends: trimmed, or UNTRIMMED after OVERFLOW or NONPOS_CURV (R200, R201, R210); with the flags of the
trim. -/
def Binding.finish (b : Binding) (c : Cand) : Cand × Nat :=
  let x := c.solver
  let bad := x.overflow || x.done == 2
  let fl := c.smooth.flags + flag x.overflow 2 + flag (x.done == 2) 3 + flag bad 4 + flag (x.done == 1) 5
  let t := (b.trim c).map collect
  ({ c with
     cp := if bad then c.cp else t.map (·.1), smoothed := true,
     smooth := { c.smooth with flags := fl, iters := if x.done = 0 then b.set.smoothIters else x.iter },
     solver := {} }, if bad then 0 else t.foldl (fun f r => f ||| r.2) 0)

/-- bp, sp and v of R211. -/
def Binding.bandCost (b : Binding) (k : Nat) : Nat := if b.dof ≤ 8 then ceilDiv k 2 else if b.dof ≤ 16 then k else 4 * k
def Binding.lanes (b : Binding) : Nat := if b.dof ≤ 8 then 1 else if b.dof ≤ 16 then 2 else 4
def Binding.vecCost (b : Binding) : Nat := 3 * ceilDiv (b.net.ncp * b.dof) 16
/-- W of Table 08.4: one iteration of one candidate. -/
def Binding.iterCost (b : Binding) : Nat := b.bandCost (7 * b.net.ncp - 12) + b.net.ncp * b.lanes + b.vecCost

/-- Idle iterations after CONVERGED or FAILED are counted in `smooth.iters` while the solve runs. -/
def Cand.turn (c : Cand) : Nat := c.smooth.iters

/-- One iteration of one candidate, and its end after SMOOTH_ITERS. -/
def Binding.turnOf (b : Binding) (c : Cand) : Cand × Nat :=
  let o := b.diagBlocks c
  let st := if c.solver.started then (c.solver, 0) else c.solver.start o
  let r := st.1.iterate o
  let c := { c with solver := r.1, smooth := { c.smooth with iters := c.smooth.iters + 1 } }
  let e := if c.smooth.iters < b.set.smoothIters then (c, 0) else b.finish c
  (e.1, st.2 ||| r.2 ||| e.2)

/-- The flags of a finished smoothing record are counted (R210; Table 20.4 code 0x05). -/
def State.countSmooth (p : Nat) (x : Stream) (c : Cand) (s : State) : State :=
  if c.smoothed then
    (List.range 6).foldl (init := s) fun s i =>
      if bit c.smooth.flags i then s.selEvent 0 p 0x05 i x.tagLayer x.tagOperator 1 else s
  else s

/-- One iteration of a group of candidates of one query (R199, R212). -/
def State.solverIteration (p id : Nat) (gs : List Nat) (s : State) : State :=
  match s.stream? id with
  | none => s
  | some x =>
    let b := s.binding x
    let cs := gs.filterMap fun g => (s.cl p).cand? id g (·.smoothing)
    let turn := (cs.map Cand.turn).headD 0
    let due := s.working && s.takesWork p && !gs.isEmpty && decide (gs.Nodup) && cs.length == gs.length &&
      (cs.all fun c => c.turn == turn && c.solver.factors.all (·.isSome)) && decide (gs.length ≤ 8) &&
      decide (gs.length * b.iterCost + 40 ≤ 2800)
    s.when_ due fun s =>
      let cycles := gs.length * b.iterCost + 40 + if turn = 0 then gs.length * (2 * (b.n - 3) + b.vecCost + 16) else 0
      cs.foldl (init := s.bumpCl p 2 cycles) fun s c =>
        let r := b.turnOf c
        let s := (s.raiseArith p r.2).modCand p id c.g (·.smoothing) fun _ => r.1
        let out := if r.1.smoothed then r.1.cp.flatMap fun l => l.flatMap (leS 4) else r.1.solver.x.flatMap (leS 2)
        let s := s.opDigest 8 x.tagLayer x.tagOperator (b.wid % 256) c.g out
        s.countSmooth p x r.1

/-- SOLVER_ITERATION (R199). -/
def execSolverIteration (cluster stream : Nat) (gs : List Nat) (t : Nat) (s : State) : Host.Outcome State Fault Refusal :=
  ranAt (below cluster 64 && streamOk stream) t s (State.solverIteration cluster stream gs)

end Sys2Proof.Machine
end

