-- ==== Sys2Proof/Machine/TimeScale.lean ====
section
/-!
DEFINITION. Sys2Proof/Machine/TimeScale.lean: time-scaling (R203-R210, R241): the grid's bounds from reciprocals of the DSU, the
passes, the check of R207 and its retries, in the formats of R204 (log entry 47).
-/
namespace Sys2Proof.Machine

/-! ## Bounds at a grid node (R203, R204) -/

/-- What a time-scaling operation works on. -/
structure TsIn where
  b : Binding
  cp : List (List Int)
  start : Nat := 0
  speed0 : Nat
  old : List TmEntry := []
  vt : Option (List (List (Option Nat))) := none

/-- σ of node `g`. -/
def TsIn.sigma (x : TsIn) (g : Nat) : Nat := gridSigma x.b.sigmaEnd g
/-- Δσ of interval `g`. -/
def TsIn.ds (x : TsIn) (g : Nat) : Nat := x.sigma (g + 1) - x.sigma g
/-- The spline segments that meet interval g - 1 or interval g. -/
def TsIn.segs (x : TsIn) (g : Nat) : List Nat :=
  let lo := min (x.sigma (g - 1) / 65536) (x.b.n - 4)
  let hi := min (x.sigma (min (g + 1) 255) / 65536) (x.b.n - 4)
  (List.range (hi + 1 - lo)).map (lo + ·)

/-- D1, D2 and Lt of node `g`. -/
def TsIn.d1 (x : TsIn) (d g : Nat) : Nat := ((x.segs g).map (derivBound x.cp d)).foldl max 0
def TsIn.d2 (x : TsIn) (d g : Nat) : Nat := ((x.segs g).map (deriv2Bound x.cp d)).foldl max 0
def TsIn.lt (x : TsIn) (tool g : Nat) : Nat :=
  ((x.segs g).map fun k => x.b.rig.rateIn x.cp ((x.b.rig.tools[tool]?.map (·.link)).getD 0) k).foldl max 0

/-- vt of a tool at node `g`, in 1/64 mm per 0.25 µs with the velocity fraction bits; none where there is no limit. -/
def TsIn.vtAt (x : TsIn) (tool g : Nat) : Option Nat :=
  x.vt.bind fun rows => (rows.getD (g / 8 + if g = 255 then 1 else 0) []).getD tool none

/-- The joints of a rig. -/
def TsIn.joints (x : TsIn) : List Nat := List.range x.b.dof
/-- The tool points of a rig. -/
def TsIn.toolList (x : TsIn) : List Nat := List.range x.b.rig.tools.length

/-- The least of a list, `d` for an empty one. -/
def leastN (d : Nat) (l : List Nat) : Nat := l.foldl min d

/-- The reciprocal of a bound on the DSU, rounded FLOOR so that a cap can only fall; the manual does not give its fraction bits
(log entry 47). -/
def recip (m : Nat) : Flagged := dsuDiv geomSat 1 m Config.recipFrac floorMode

/-- The reciprocal as a factor over 2^recipFrac. -/
def recipN (m : Nat) : Nat := (recip m).1.toNat

/-- ucap of node `g`, Q32.32; the greatest squared speed of the format where nothing limits it. DESIGN CHOICE: a joint whose D1 is 0
does not move in the segments at the node; it stays out of the minimum, and the DSU takes no reciprocal of 0 and raises no
DIV_ZERO (log entry 125). -/
def TsIn.ucap (x : TsIn) (g : Nat) : Nat :=
  let f1 := 2 ^ Config.limitFrac 1
  let f2 := 2 ^ Config.limitFrac 2
  let one := 2 ^ Config.recipFrac
  let vel := x.joints.filterMap fun d =>
    let m := x.d1 d g
    if m = 0 then none else some ((x.b.velLim d * recipN m) ^ 2 * 2 ^ 64 / (f1 * one) ^ 2)
  let acc := x.joints.filterMap fun d =>
    let m := x.d2 d g
    if m = 0 then none else some (x.b.accLim d * recipN m * 2 ^ 64 / (f2 * one))
  let cart := x.toolList.filterMap fun t => (x.vtAt t g).bind fun v =>
    let m := x.lt t g
    if m = 0 then none else some ((v * recipN m) ^ 2 * 2 ^ 64 / (f1 * one) ^ 2)
  leastN ((2 ^ 32 - 1) ^ 2) (vel ++ acc ++ cart)

/-- amax of node `g` at a squared speed, 32 fraction bits, for retry `k`. -/
def TsIn.amax (x : TsIn) (k g u : Nat) : Int :=
  let f2 : Int := 2 ^ Config.limitFrac 2
  let one : Int := 2 ^ Config.recipFrac
  let l := x.joints.filterMap fun d =>
    let m := x.d1 d g
    if m = 0 then none
    else some (((x.b.accLim d : Int) * 2 ^ 64 - x.d2 d g * u * f2) * 2 ^ 48 * recipN m / (f2 * 2 ^ 64 * one))
  max 0 (minD (2 ^ 63 - 1) l) / 2 ^ k

/-- J of interval `g`, 32 fraction bits (log entry 47); unbounded where no joint moves. -/
def TsIn.jerk (x : TsIn) (g : Nat) : Int :=
  let l := x.joints.filterMap fun d =>
    let m := x.d1 d g
    if m = 0 then none
    else some ((x.b.jerkLim d * 2 ^ 48 * recipN m / (2 ^ Config.limitFrac 3 * 2 ^ Config.recipFrac) : Nat) : Int)
  minD (2 ^ 63 - 1) l

/-- dtmin of interval `g`, 16 fraction bits as R205 gives a time; none where no speed is allowed. DESIGN CHOICE: the DSU's root of a U64
squared speed is exact and never saturated, though R75 gives a root an S32 operand and result (log entry 47). -/
def TsIn.dtmin (x : TsIn) (g : Nat) : Option Nat :=
  let sp := isqrt (max (x.ucap g) (x.ucap (g + 1)))
  if sp = 0 then none else some (wideDiv (x.ds g * 2 ^ 32) sp floorMode)

/-- J[g] times dtmin[g], 32 fraction bits, for retry `k`. -/
def TsIn.jerkStep (x : TsIn) (k g : Nat) : Int := match x.dtmin g with
  | some t => x.jerk g / 2 ^ k * t / 2 ^ 16
  | none => 2 ^ 63 - 1

/-- The flags of the reciprocals of all nodes (R75, R76). -/
def TsIn.flags (x : TsIn) : Nat :=
  let of (m : Nat) : Nat := if m = 0 then 0 else (recip m).2
  (List.range 256).foldl (init := 0) fun f g =>
    x.joints.foldl (fun f d => f ||| of (x.d1 d g) ||| of (x.d2 d g)) f |||
      (x.toolList.filter fun t => (x.vtAt t g).isSome).foldl (fun f t => f ||| of (x.lt t g)) 0

/-! ## Passes (R205, R241) -/

/-- The forward pass from node `g` on: squared speeds of the nodes after it (fuel: the intervals left). -/
def TsIn.forward (x : TsIn) (k : Nat) : Nat → Nat → Nat → Int → List Nat
  | 0, _, _, _ => []
  | fuel + 1, g, u, prev =>
    let a := min (x.amax k g u) (prev + x.jerkStep k g)
    let v := min (x.ucap (g + 1)) (((u : Int) + 2 * a * x.ds g).toNat)
    v :: x.forward k fuel (g + 1) v a

/-- The backward pass over nodes given with their squared speeds; the last one ends at rest. -/
def TsIn.backward (x : TsIn) (k : Nat) : Nat → List Nat → List Nat
  | _, [] => []
  | _, [_] => [0]
  | g, u :: r =>
    let rest := x.backward k (g + 1) r
    let next := rest.headD 0
    min u (((next : Int) + 2 * x.amax k g (max u next) * x.ds g).toNat) :: rest

/-- Squared speeds of the nodes from the start node on, after both passes. -/
def TsIn.profile (x : TsIn) (k : Nat) : List Nat :=
  let u0 := x.speed0 ^ 2
  let prev : Int := if x.start = 0 then 0 else (tmAt x.old (x.start - 1)).acc * 256
  x.backward k x.start (u0 :: x.forward k (255 - x.start) x.start u0 prev)

/-- Path speed of every node: carried before the start node, realised after it. DESIGN CHOICE: the root of a U64 squared speed is exact
and never saturated, though R75 gives a root of the DSU an S32 operand and result (log entry 47). -/
def TsIn.speeds (x : TsIn) (us : List Nat) : List Nat :=
  ((List.range x.start).map fun g => (tmAt x.old g).speed) ++ us.map isqrt

/-- Δt of interval `g` with 16 fraction bits (R205). -/
def TsIn.dt (x : TsIn) (sp : List Nat) (mode g : Nat) : Nat :=
  wideDiv (2 * x.ds g * 2 ^ 32) (sp.getD g 0 + sp.getD (g + 1) 0) mode

/-- Running sums from a start value. -/
def sumsFrom (v : Nat) : List Nat → List Nat
  | [] => [v]
  | d :: r => v :: sumsFrom (v + d) r

/-- Difference of the squared speeds over interval `g`: 2Δσ times the path acceleration, 32 fraction bits. -/
def TsIn.du (_x : TsIn) (sp : List Nat) (g : Nat) : Int := (sp.getD (g + 1) 0 : Int) ^ 2 - (sp.getD g 0 : Int) ^ 2

/-- ACC of node `g` (Table 08.2), an S32 (R70). DESIGN CHOICE: rounded toward zero, as Table 08.2 says for this field, though R74
says that the device never truncates toward zero (log entry 126). -/
def TsIn.acc (x : TsIn) (sp : List Nat) (g : Nat) : Flagged :=
  if g = 255 then (0, 0) else saturate 32 geomSat (Int.tdiv (x.du sp g) (512 * x.ds g))

/-- The time map (Table 08.2). -/
def TsIn.map (x : TsIn) (sp : List Nat) : List TmEntry :=
  let gs := (List.range (255 - x.start)).map (x.start + ·)
  let lo := sumsFrom ((tmAt x.old x.start).tLo * 65536) (gs.map (x.dt sp floorMode))
  let hi := sumsFrom ((tmAt x.old x.start).tHi * 65536) (gs.map (x.dt sp ceilMode))
  (List.range x.start).map (tmAt x.old) ++ (List.range (256 - x.start)).map fun i =>
    let g := x.start + i
    { speed := sp.getD g 0, tLo := lo.getD i 0 / 65536, tHi := ceilDiv (hi.getD i 0) 65536, acc := (x.acc sp g).1 }

/-- The flags of a time map's ACC fields. -/
def TsIn.mapFlags (x : TsIn) (sp : List Nat) : Nat :=
  (List.range (256 - x.start)).foldl (fun f i => f ||| (x.acc sp (x.start + i)).2) 0

/-! ## The check (R207) -/

/-- First and second derivative of joint `d` at node `g`, over 2^33 and 2^16 (R175's basis, exact). -/
def TsIn.slopes (x : TsIn) (d g : Nat) : Int × Int :=
  let s := x.sigma g
  let k := min (s / 65536) (x.b.n - 4)
  let f : Int := (s - k * 65536 : Nat)
  let o : Int := 65536
  let c (i : Nat) := cpAt x.cp d (k + i)
  (-(o - f) ^ 2 * c 0 + (3 * f ^ 2 - 4 * o * f) * c 1 + (-3 * f ^ 2 + 2 * o * f + o ^ 2) * c 2 + f ^ 2 * c 3,
   (o - f) * c 0 + (3 * f - 2 * o) * c 1 + (o - 3 * f) * c 2 + f * c 3)

/-- |a_g| of an interval, 32 fraction bits, CEIL. -/
def TsIn.accMag (x : TsIn) (sp : List Nat) (g : Nat) : Nat := ceilDiv (x.du sp g).natAbs (2 * x.ds g)

/-- a_g of an interval with its magnitude rounded CEIL; before the start node the carried map's ACC. -/
def TsIn.accOf (x : TsIn) (sp : List Nat) (g : Nat) : Int :=
  if g < x.start then (tmAt x.old g).acc * 256 else (x.du sp g).sign * x.accMag sp g

/-- A_d(g) over 2^81. -/
def TsIn.jointAcc (x : TsIn) (sp : List Nat) (d g : Nat) : Int :=
  let q := x.slopes d g
  q.1 * x.accOf sp g + 2 * q.2 * (sp.getD g 0 : Int) ^ 2

/-- |A_d(g) - A_d(g - 1)| over 2^81, and the interval whose time bounds it. -/
def TsIn.jerkOf (x : TsIn) (sp : List Nat) (d g : Nat) : Nat × Nat :=
  if g = 0 then ((x.jointAcc sp d 0).natAbs, 0)
  else ((x.jointAcc sp d g - x.jointAcc sp d (g - 1)).natAbs, g - 1)

/-- The conditions of R207 on joint `d` over interval `g`: |a_g| and each term of a sum are rounded CEIL in the limit's format. -/
def TsIn.jointOk (x : TsIn) (sp : List Nat) (g d : Nat) : Bool :=
  let top := max (sp.getD g 0) (sp.getD (g + 1) 0)
  let j := x.jerkOf sp d g
  let f2 := 2 ^ Config.limitFrac 2
  decide (ceilDiv (x.d1 d g * top * 2 ^ Config.limitFrac 1) (2 ^ 32) ≤ x.b.velLim d) &&
    decide (ceilDiv (x.d1 d g * x.accMag sp g * f2) (2 ^ 48) + ceilDiv (x.d2 d g * top ^ 2 * f2) (2 ^ 64) ≤ x.b.accLim d) &&
    decide (ceilDiv (j.1 * 2 ^ Config.limitFrac 3 * 2 ^ 16) (2 ^ 81) ≤ x.b.jerkLim d * x.dt sp floorMode j.2)

/-- The Cartesian condition of a tool point on interval `g`. -/
def TsIn.toolOk (x : TsIn) (sp : List Nat) (g tool : Nat) : Bool :=
  match x.vtAt tool g with
  | none => true
  | some v =>
    decide (ceilDiv (x.lt tool g * max (sp.getD g 0) (sp.getD (g + 1) 0) * 2 ^ Config.limitFrac 1) (2 ^ 32) ≤ v)

/-- The intervals that are checked. -/
def TsIn.intervals (x : TsIn) : List Nat := (List.range (255 - x.start)).map (x.start + ·)

/-- The whole check. -/
def TsIn.checkOk (x : TsIn) (sp : List Nat) : Bool :=
  x.intervals.all fun g => (x.joints.all (x.jointOk sp g)) && x.toolList.all (x.toolOk sp g)

/-- JERK_INT (Table 08.3), each term rounded FLOOR. -/
def TsIn.jerkInt (x : TsIn) (sp : List Nat) : Nat :=
  satU 32 (sumN ((List.range 255).flatMap fun g => x.joints.map fun d =>
    let j := x.jerkOf sp d g
    j.1 * 2 ^ 8 * 2 ^ Config.limitFrac 3 * 2 ^ 16 / (2 ^ 81 * x.b.jerkLim d * x.dt sp floorMode j.2)))

/-! ## One operation -/

/-- What an operation gives: TS_STATUS, retries, the time map, JERK_INT and the flags raised. -/
structure TsOut where
  status : Nat
  retries : Nat := 0
  tm : List TmEntry := []
  jerk : Nat := 0
  flags : Nat := 0

/-- Some node after the start stalls (R205). -/
def stalls (sp : List Nat) : Bool :=
  ((List.range 254).any fun i => sp.getD (i + 1) 0 == 0) || (sp.getD 0 0 == 0 && sp.getD 1 0 == 0)

/-- Retries `k` on (fuel: those left). The horizon test is the caller's. -/
def TsIn.tries (x : TsIn) : Nat → Nat → TsOut
  | 0, _ => { status := 1, retries := 3 }
  | fuel + 1, k =>
    let us := x.profile k
    if us.headD 0 < x.speed0 ^ 2 then { status := 1, retries := k }
    else
      let sp := x.speeds us
      if stalls sp then { status := 2, retries := k }
      else if x.checkOk sp then { status := 0, retries := k, tm := x.map sp, jerk := x.jerkInt sp, flags := x.mapFlags sp }
      else x.tries fuel (k + 1)

/-- One time-scaling operation (R205, R207): `late` is the elapsed time of a repaired candidate. -/
def TsIn.run (x : TsIn) (horizon : Nat) (late : Int) : TsOut :=
  if x.speed0 ^ 2 > x.ucap x.start then { status := 1, flags := x.flags }
  else
    let r := x.tries 4 0
    let r := { r with flags := r.flags ||| x.flags }
    if r.status = 0 ∧ ((tmAt r.tm 255).tHi : Int) > horizon + late then { r with status := 3 } else r

/-- v_lim of R133 for a tool point and class at a clearance, on the raw integers of Table 05.4; 0 for none. DESIGN CHOICE:
the table's units put SLOPE times a distance in 1/64 mm/s and V_MAX in 1/16 mm/s, a factor of 4 that the rule's formula does not
name: the integers are compared as they stand, and the result is 1/16 mm/s (log entry 48). -/
def Binding.vLim (b : Binding) (t : RigTool) (c : Nat) (clear : Int) : Option Nat :=
  let v := b.vMax t c
  let l := t.limits.getD c (0, 0, 0)
  if v = 0 then none else some (min v (l.2.2 * (clear - l.2.1).toNat / 2 ^ 16))

/-- vt of the probe nodes from the PROBE's bounds: per tool the least over the classes, converted as R204 says. -/
def Binding.vtOf (b : Binding) (rows : List (List (List Int))) : List (List (Option Nat)) :=
  rows.map fun r => (List.range b.rig.tools.length).map fun i =>
    match b.rig.tools[i]? with
    | none => none
    | some t =>
      let ls := (List.range 4).filterMap fun c => b.vLim t c ((r.getD i []).getD c 0)
      match ls with
      | [] => none
      | v :: vs => some (convertRate false 1 (leastN v vs))

/-- The start of a candidate's operation: node 0 and the query's speed, or g₀ of a repaired candidate (R241). -/
def Binding.tsIn (b : Binding) (x : Stream) (c : Cand) (vt : Option (List (List (Option Nat)))) : TsIn :=
  match c.origin, x.carried with
  | 1, some p =>
    let bound := (c.winA - 3) * 65536
    let g0 := gridLo b.sigmaEnd bound
    { b := b, cp := c.cp, start := g0, speed0 := (tmAt p.tm g0).speed, old := p.tm, vt := vt }
  | _, _ => { b := b, cp := c.cp, speed0 := x.q.speed0, vt := vt }

/-- A candidate waits for a time-scaling operation. -/
def Cand.wantsTime (c : Cand) (cart : Bool) : Bool :=
  c.smoothed && !c.tsDone && (!cart || c.tmProv.isNone || c.probe.isSome)

/-- The bytes of a time map. -/
def tmBytes (tm : List TmEntry) : List Byte := tm.flatMap fun e => le 4 e.speed ++ le 4 e.tLo ++ le 4 e.tHi ++ leS 4 e.acc

/-- The STS writes a time map into the group buffer of the general area, 2 groups of 8 maps (R209). DESIGN CHOICE: the maps of a
frame take its places in turn (log entry 127). -/
def State.bufferMap (p : Nat) (tm : List TmEntry) (s : State) : State :=
  (s.sramWrite (scratchAddr p (timeMapBuffer + (s.cl p).mapsMade % 16 * 4096)) (tmBytes tm)).modCl p fun c =>
    { c with mapsMade := c.mapsMade + 1 }

/-- Time-scaling unit's cycles of an operation (Table 08.4). -/
def Binding.tsCycles (b : Binding) (retries : Nat) : Nat :=
  (b.n - 3) * (b.dof + 1 + b.rig.tools.length) + 256 + (256 * b.lanes + 511) * (retries + 1)

/-- A provisional operation, or the final one (R205, R206): OK goes on to RECHECK; any other status ends the candidate. -/
def State.timeScalingOp (p id g : Nat) (s : State) : State :=
  match s.stream? id with
  | none => s
  | some x =>
    let b := s.binding x
    match (s.cl p).cand? id g (·.wantsTime b.cartesian) with
    | none => s
    | some c =>
      s.when_ (s.working && s.takesWork p) fun s =>
        let late : Int := if c.origin = 1 then x.elapsed else 0
        let prov := b.cartesian && c.tmProv.isNone
        let r := (b.tsIn x c (if prov then none else c.probe.map fun q => b.vtOf q.1)).run x.q.horizon late
        let s := (((s.busy p 6).raiseArith p r.flags).bumpCl p 3 (b.tsCycles r.retries)).opDigest 8 x.tagLayer x.tagOperator (b.wid % 256) g (tmBytes r.tm)
        let drop (s : State) : State :=
          (s.modCand p id g (·.wantsTime b.cartesian) fun c => { c with
            dropped := true, smooth := { c.smooth with tsStatus := r.status, tsRetries := r.retries } }).tallyOn p id
              fun t => { t with tsDropped := addS t.tsDropped 1 }
        if prov then
          (if r.status = 1 ∨ r.status = 2 then drop s
          else s.modCand p id g (·.wantsTime true) fun c => { c with tmProv := some r.tm })
        else if r.status ≠ 0 then drop s
        else (s.bufferMap p r.tm).modCand p id g (·.wantsTime b.cartesian) fun c => { c with
          tsDone := true, tm := r.tm,
          smooth := { c.smooth with
            tsStatus := 0, tsRetries := r.retries, duration := (tmAt r.tm 255).tHi, jerkInt := r.jerk,
            probeEpoch := (c.probe.map fun q => epochByte q.2).getD 255 } }

/-- TIME_SCALING_OP (R205). -/
def execTimeScalingOp (cluster stream g : Nat) (t : Nat) (s : State) : Host.Outcome State Fault Refusal :=
  ranAt (below cluster 64 && streamOk stream) t s (State.timeScalingOp cluster stream g)

end Sys2Proof.Machine
end

