-- ==== Sys2Proof/Machine/Checks.lean ====
section
/-!
DEFINITION. Sys2Proof/Machine/Checks.lean: the check operations of Table 07.2 but for REVERIFY (R160-R183, R200, R206, R236,
R239, R240), and what an application of urgent brine touches (R228).
-/
namespace Sys2Proof.Machine

/-! ## Touch (R228) -/

/-- Slots that an application has named, as (world, slot). -/
abbrev Touched := List (Nat × Nat)

/-- Some slot that the application of an epoch left set holds a mover that R172 would not cull for a trajectory. -/
def State.touches (s : State) (b : Binding) (cp : List (List Int)) (ta tb epoch : Nat) (l : Touched) : Bool :=
  l.any fun k => k.1 == b.world && match (s.urgentAt k.1 epoch).getD k.2 none with
    | none => false
    | some m => match m.hull (0x400 + k.2) ta tb with
      | none => false
      | some h =>
        let r := baseRange cp
        !(s.wd b.world).culled b.rig.uOffset r.1 r.2 (b.rig.rRig + b.maxCrust.toNat) m.segment h

/-- The last application after an epoch that touches a trajectory: in Exact mode an operation may run behind applications that
its schedule puts after its epoch (R229). -/
def State.touchedSince (s : State) (b : Binding) (cp : List (List Int)) (ta tb epoch : Nat) : Option Nat :=
  ((s.worlds.urgentTouches.filter fun e => decide (epoch < e.1) && s.touches b cp ta tb e.1 e.2).getLast?).map (·.1)

/-! ## Position limits (R132, R200) -/

/-- A segment's Bézier points of one joint lie within its span: each is compared at its own factor. -/
def bezierIn (sp : Int × Int) (c : Nat → Int) (k : Nat) : Bool :=
  let within (m v : Int) : Bool := decide (m * sp.1 ≤ v ∧ v ≤ m * sp.2)
  within 6 (c k + 4 * c (k + 1) + c (k + 2)) && within 3 (2 * c (k + 1) + c (k + 2)) &&
    within 3 (c (k + 1) + 2 * c (k + 2)) && within 6 (c (k + 1) + 4 * c (k + 2) + c (k + 3))

/-- The lowest joint whose spline leaves its span in segments 0 to 2. -/
def Binding.limitJoint (b : Binding) (cp : List (List Int)) : Option Nat :=
  (List.range b.dof).find? fun d => !((List.range 3).all (bezierIn (b.span d) (cpAt cp d)))

/-- What a candidate dropped before its check leaves: LIMIT_DROP with the joint. -/
def limitDrop (joint : Nat) : Progress := { sigma := 0, verdict := 11, hitObj := joint }

/-- An operation on a candidate that has passed the limit test, or LIMIT_DROP. -/
def SweepOp.judged (op : SweepOp) (s : State) (limited : Bool) : Progress :=
  match (if limited then op.b.limitJoint op.cp else none) with
  | some j => limitDrop j
  | none => op.run s

/-- An operation ends with a verdict record in the general area (R179), its marks, and its part in the operator digest of its
phase. -/
def State.verdictDone (p kind phase : Nat) (x : Stream) (g : Nat) (r : Progress) (v : Verdict) (s : State) : State :=
  ((s.afterSweep p kind r x.tagLayer x.tagOperator).modCl p fun c => { c with verdicts := c.verdicts ++ [v] }).opDigest
    phase x.tagLayer x.tagOperator v.stream g v.bytes

/-- A cluster's sweep engine takes a check operation: it takes work, its front end is not stalled, and fewer than 64 operations are
in flight (R159, R161). -/
def State.sweeps (s : State) (p : Nat) : Bool :=
  s.takesWork p && !(s.cl p).stalled && decide ((s.cl p).inFlight.length < 64)

/-! ## CHECK and RECHECK -/

/-- A candidate waits for its CHECK. -/
def Cand.wantsCheck (c : Cand) : Bool := c.check.isNone && decide (c.origin < 2)

/-- The CHECK of a proposed candidate at an epoch (R160, R173). -/
def State.checkRun (s : State) (x : Stream) (c : Cand) (epoch : Nat) : Progress :=
  let b := s.binding x
  let op : SweepOp := {
    b := b, cp := c.cp, epoch := epoch, last := b.sigmaEnd,
    tests := if b.set.moverDefer then [] else s.culledMovers b x.q epoch c.cp,
    times := fun _ _ => (x.q.tStart, x.q.tEnd) }
  op.judged s true

/-- A CHECK ends with its verdict, and with its segment clearances where it is CLEAR (R194). -/
def State.checkDone (p id g epoch : Nat) (s : State) : State :=
  match s.stream? id, (s.cl p).cand? id g Cand.wantsCheck with
  | some x, some c =>
    let b := s.binding x
    let r := s.checkRun x c epoch
    let v := r.record b.wid g 0 epoch
    let s := (s.verdictDone p 0 6 x g r v).modCand p id g Cand.wantsCheck fun c => { c with
      check := some v, segClear := if r.verdict = 0 then r.clearances b.n else [] }
    if r.verdict = 0 then s.tallyOn p id fun t => { t with clearCheck := addS t.clearCheck 1 } else s
  | _, _ => s

/-- CHECK of a proposed candidate. -/
def State.checkOp (p id g : Nat) (s : State) : State :=
  match s.stream? id, (s.cl p).cand? id g Cand.wantsCheck, s.latch .check id g with
  | some x, some c, some epoch =>
    s.when_ (s.working && s.sweeps p && !(s.cl p).flying 0 id g) fun s =>
      s.sweep p ⟨0, id, g, epoch⟩ (s.checkRun x c epoch).needs (State.checkDone p id g epoch)
  | _, _, _ => s

/-- CHECK (R177). -/
def execCheck (cluster stream g : Nat) (t : Nat) (s : State) : Host.Outcome State Fault Refusal :=
  ranAt (below cluster 64 && streamOk stream) t s (State.checkOp cluster stream g)

/-- A candidate waits for its RECHECK. -/
def Cand.wantsRecheck (c : Cand) : Bool := c.tsDone && c.recheck.isNone

/-- The lowest free time-map slot of a cluster (R209). -/
def Cluster.freeMapSlot (c : Cluster) : Nat := ((List.range 320).find? fun i => !c.mapSlots.contains i).getD 65535

/-- The RECHECK of a smoothed, time-scaled candidate at an epoch (R182, R200). -/
def State.recheckRun (s : State) (x : Stream) (c : Cand) (epoch : Nat) : Progress :=
  let b := s.binding x
  let op : SweepOp := {
    b := b, cp := c.cp, epoch := epoch, last := b.sigmaEnd, tests := s.culledMovers b x.q epoch c.cp,
    times := mapInterval c.tStart b.sigmaEnd c.tm }
  op.judged s (decide (c.origin < 2))

/-- The stack DMA copies the time map of a CLEAR candidate into the cluster's lowest free slot of HBM (R209). -/
def State.keepMap (p slot : Nat) (tm : List TmEntry) (s : State) : State :=
  let s := s.modCl p fun k => { k with mapSlots := k.mapSlots ++ [slot] }
  if slot < 320 then s.modHbm (Mem.writeBytes (timeMapAddr p slot) (tmBytes tm)) else s

/-- A RECHECK ends: a CLEAR candidate keeps its swept boxes and its time map (R209, R224), and counts in the stream's tally unless it
is farmed (R391). -/
def State.recheckDone (p id g epoch : Nat) (s : State) : State :=
  match s.stream? id, (s.cl p).cand? id g Cand.wantsRecheck with
  | some x, some c =>
    let b := s.binding x
    let r := s.recheckRun x c epoch
    let v := r.record b.wid g 1 epoch
    let s := s.verdictDone p 1 9 x g r v
    if r.verdict = 0 then
      let slot := (s.cl p).freeMapSlot
      let s := (s.keepMap p slot c.tm).modCand p id g Cand.wantsRecheck fun c =>
        { c with recheck := some v, swept := r.swept b.n, smooth := { c.smooth with mapSlot := slot } }
      let s := if c.origin = 3 then s else s.tallyOn p id fun t => { t with clearRecheck := addS t.clearRecheck 1 }
      if x.guest.isSome then s else s.bumpSes x.session 10
    else s.modCand p id g Cand.wantsRecheck fun c => { c with recheck := some v }
  | _, _ => s

/-- RECHECK of a smoothed, time-scaled candidate; the carried plan's is a task of its own (R254). -/
def State.recheckOp (p id g : Nat) (s : State) : State :=
  match s.stream? id, (s.cl p).cand? id g Cand.wantsRecheck, s.latch .recheck id g with
  | some x, some c, some epoch =>
    let task := c.origin != 2 || (s.cl p).runs .carriedRecheck (s.wireId id)
    s.when_ (s.working && s.sweeps p && task && !(s.cl p).flying 1 id g) fun s =>
      s.sweep p ⟨1, id, g, epoch⟩ (s.recheckRun x c epoch).needs (State.recheckDone p id g epoch)
  | _, _, _ => s

/-- RECHECK (R182). -/
def execRecheck (cluster stream g : Nat) (t : Nat) (s : State) : Host.Outcome State Fault Refusal :=
  ranAt (below cluster 64 && streamOk stream) t s (State.recheckOp cluster stream g)

/-! ## REPAIR and STOP -/

/-- The repair window of a hit at σ (R240); none in the frozen part. -/
def Binding.repairRange (b : Binding) (tm : List TmEntry) (elapsed : Int) (hit : Nat) : Option (Nat × Nat) :=
  let k := hit / 65536
  let gl := ((List.range 256).find? fun g => decide (elapsed + b.set.repairLock ≤ ((tmAt tm g).tLo : Int))).getD 255
  let lock := min (gridSigma b.sigmaEnd gl / 65536) (b.n - 4)
  let lo := max (max (k - b.set.repairW) 3) (lock + 4)
  let hi := min (k + b.set.repairW) (b.net.ncp + 2)
  if hi < lo then none else some (lo, hi)

/-- The REPAIR of a run of segments of the carried plan at an epoch (R172, R239). -/
def State.repairRun (s : State) (x : Stream) (plan : Plan) (run : Nat × Nat) (epoch : Nat) : Progress :=
  let b := s.binding x
  let op : SweepOp := {
    b := b, cp := plan.cp, epoch := epoch, first := run.1 * 65536, last := (run.2 + 1) * 65536,
    tests := s.culledMovers b x.q epoch plan.cp, times := mapInterval plan.tStart b.sigmaEnd plan.tm }
  op.run s

/-- A run that does not end CLEAR opens the repair window of the frame, or lies in the frozen part (R240). -/
def Stream.repairHit (x : Stream) (b : Binding) (plan : Plan) (v : Verdict) : Stream :=
  let w := b.repairRange plan.tm x.elapsed v.hitSigma
  { x with repairRuns := [], repairVerdict := some v, repairWindow := w, repairFrozen := w.isNone }

/-- A REPAIR of the next dirty run ends (R239, R240); after a hit the carried plan's re-check is withdrawn. -/
def State.repairDone (p id epoch : Nat) (s : State) : State :=
  match s.stream? id with
  | none => s
  | some x => match x.carried, x.repairRuns with
    | some plan, run :: rest =>
      let b := s.binding x
      let r := s.repairRun x plan run epoch
      let v := r.record b.wid plan.g 2 epoch
      let s := s.verdictDone p 2 4 x plan.g r v
      if r.verdict = 0 then (s.modStream id fun y => { y with repairRuns := rest }).placeCarried id
      else (s.modStream id fun y => y.repairHit b plan v).withdraw .carriedRecheck b.wid
    | _, _ => s

/-- REPAIR of the next dirty run of the carried plan, in the task that the cluster of block 0 runs (R254). -/
def State.repairOp (id : Nat) (s : State) : State :=
  match s.stream? id with
  | none => s
  | some x => match x.block0, x.carried, x.repairRuns, s.latch .repair id x.repairRuns.length with
    | some p, some plan, run :: _, some epoch =>
      let task := (s.cl p).runs .repair (s.wireId id)
      s.when_ (s.working && s.works x && s.sweeps p && task && !(s.cl p).flying 2 id plan.g) fun s =>
        s.sweep p ⟨2, id, plan.g, epoch⟩ (s.repairRun x plan run epoch).needs (State.repairDone p id epoch)
    | _, _, _, _ => s

/-- REPAIR (R239). -/
def execRepair (stream : Nat) (t : Nat) (s : State) : Host.Outcome State Fault Refusal :=
  ranAt (streamOk stream) t s (State.repairOp stream)

/-- The spline of a stop: the plan's, or the one configuration q_start (R235). -/
def Binding.stopSpline (b : Binding) (x : Stream) : List (List Int) :=
  match x.motion with
  | .standstill => (List.range b.dof).map fun d => List.replicate b.n (at0 x.q.qStart d)
  | .plan p => p.cp
  | .braking p _ _ => p.cp

/-- The movers' interval of a stop: the whole braking interval (R236). -/
def Stream.stopTime (x : Stream) : Nat × Nat := (x.q.tStart, x.q.tStart + 50 * x.stop.tStop)

/-- The STOP of a stream's stop trajectory at an epoch (R236). -/
def State.stopRun (s : State) (x : Stream) (epoch : Nat) : Progress :=
  let b := s.binding x
  let op : SweepOp := {
    b := b, cp := b.stopSpline x, epoch := epoch, first := x.stop.sigmaLo, last := x.stop.sigmaStop,
    tests := s.moversAt b.world epoch, times := fun _ _ => x.stopTime }
  op.run s

/-- A stop that an application touches is TOUCHED and, before 0.86P, re-issued with the new epoch (R236). -/
def Stream.touchStop (closed : Bool) (epoch : Nat) (x : Stream) : Stream :=
  { x with stop := { x.stop with status := 4 }, stopPending := !closed, stopEpoch := epoch }

/-- A STOP ends with the stop's status; an application that the schedule puts behind its epoch touches it (R229). -/
def State.stopDone (p id epoch : Nat) (s : State) : State :=
  match s.stream? id with
  | none => s
  | some x =>
    let b := s.binding x
    let r := s.stopRun x epoch
    let v := r.record b.wid 0 3 epoch
    let ended (y : Stream) : Stream := { y with
      stopPending := false,
      stop := { y.stop with status := if r.verdict = 0 then 0 else 1, verdict := r.verdict, epoch := epoch } }
    let s' := s.verdictDone p 3 4 x 0 r v
    match s.touchedSince b (b.stopSpline x) x.stopTime.1 x.stopTime.2 epoch with
    | some n => (s'.modStream id fun y => (ended y).touchStop false n).issuePinned x .stop
    | none => s'.modStream id ended

/-- STOP of a stream's stop trajectory, in the task that the cluster of block 0 runs (R254). It latches no earlier epoch than the one that re-issued it. -/
def State.stopOp (id : Nat) (s : State) : State :=
  match s.stream? id with
  | none => s
  | some x => match x.block0, s.latch .stop id 0 with
    | some p, some e =>
      let due := x.stopPending && s.works x && s.sweeps p && (s.cl p).runs .stop (s.wireId id) && s.gridRuns && !s.frame.reverifyClosed &&
        (s.frame.phase == .afterCutoff || s.frame.phase == .afterHarvest) && !(s.cl p).flying 3 id 0
      let epoch := max e x.stopEpoch
      s.when_ due fun s => s.sweep p ⟨3, id, 0, epoch⟩ (s.stopRun x epoch).needs (State.stopDone p id epoch)
    | _, _ => s

/-- STOP (R236). -/
def execStop (stream : Nat) (t : Nat) (s : State) : Host.Outcome State Fault Refusal :=
  ranAt (streamOk stream) t s (State.stopOp stream)

/-! ## PROBE -/

/-- A candidate waits for its PROBE (R206). -/
def Cand.wantsProbe (c : Cand) : Bool := c.tmProv.isSome && c.probe.isNone

/-- The PROBE of a candidate's provisional law at an epoch (R183, R206). -/
def State.probeRun (s : State) (x : Stream) (c : Cand) (epoch : Nat) : List (List (List Int)) × Progress :=
  let b := s.binding x
  let tm := c.tmProv.getD []
  let op : SweepOp := {
    b := b, cp := c.cp, epoch := epoch, last := b.sigmaEnd, tests := s.culledMovers b x.q epoch c.cp,
    times := fun _ _ => (0, 0), direct := true }
  op.probe s b.sigmaEnd fun n _ => (c.tStart + 50 * (tmAt tm n).tLo, x.q.tEnd)

/-- A PROBE ends: its bounds go to the STS, beside its verdict record of KIND 4 (R179). -/
def State.probeDone (p id g epoch : Nat) (s : State) : State :=
  match s.stream? id, (s.cl p).cand? id g Cand.wantsProbe with
  | some x, some c =>
    let b := s.binding x
    let r := s.probeRun x c epoch
    let v := r.2.record b.wid g 4 epoch
    let s := (s.afterSweep p 4 r.2 x.tagLayer x.tagOperator).modCl p fun c => { c with verdicts := c.verdicts ++ [v] }
    let s := s.opDigest 8 x.tagLayer x.tagOperator (b.wid % 256) g (r.1.flatMap fun n => n.flatMap fun t => t.flatMap (leS 4))
    s.modCand p id g Cand.wantsProbe fun c => { c with probe := some (r.1, epoch) }
  | _, _ => s

/-- PROBE at the probe nodes. -/
def State.probeOp (p id g : Nat) (s : State) : State :=
  match s.stream? id, (s.cl p).cand? id g Cand.wantsProbe, s.latch .timeScale id g with
  | some x, some c, some epoch =>
    s.when_ (s.working && s.sweeps p && !(s.cl p).flying 4 id g) fun s =>
      s.sweep p ⟨4, id, g, epoch⟩ (s.probeRun x c epoch).2.needs (State.probeDone p id g epoch)
  | _, _, _ => s

/-- PROBE (R183). -/
def execProbe (cluster stream g : Nat) (t : Nat) (s : State) : Host.Outcome State Fault Refusal :=
  ranAt (below cluster 64 && streamOk stream) t s (State.probeOp cluster stream g)

end Sys2Proof.Machine
end

