-- ==== Sys2Proof/Machine/WorldCmds.lean ====
section
/-!
DEFINITION. Sys2Proof/Machine/WorldCmds.lean: the world and brine group 0x04 (R339), stage 1 and the ingest of ordinary brine
(R46, R47, R106, R107, R276), and brine forwarded to and from other nodes (R387). A command forwarded from another node
stands in the command table as function 17, its `layerId` the source node, `flags` the port, `seq` the message number.
-/
namespace Sys2Proof.Machine

/-- The pseudo-function of commands that arrived over the fabric. -/
abbrev fabricFn : Nat := 17

/-- The records of a brine command: inline after the 8-byte head, or by descriptor. -/
def Cmd.records (c : Cmd) : List Byte := if c.descs.isEmpty then c.payload.drop 8 else c.bulk
/-- The records, cut. -/
def Cmd.recordList (c : Cmd) : Sum Nat (List (List Byte)) := delimit (c.records.length + 1) c.records []
/-- The world a brine command names. -/
def Cmd.world (c : Cmd) : Nat := getU c.payload 0 1

/-- A census is under way. -/
def State.inCensus (s : State) : Bool := inR s.fabric.census 1 3

/-- A node can be sent to: the census is ACTIVE and a route leads there, or a census is under way, during which messages
wait at their sources (R382, R384). -/
def State.reachable (s : State) (node : Nat) : Bool :=
  s.inCensus || s.fabric.census == 4 && s.fabric.nextHop.any (·.1 == node)

/-- The U32 message number that comes next on a VC (Table 16.2). -/
def Fabric.nextId (f : Fabric) (vc : Nat) : Nat := f.nextMsg.getD vc 0
/-- A message number of a VC is used. -/
def Fabric.useId (vc : Nat) (f : Fabric) : Fabric := { f with nextMsg := f.nextMsg.modify vc fun n => (n + 1) % 2 ^ 32 }

/-- A message is queued for another node (R378). -/
def State.fabricSend (vc dst : Nat) (body : List Byte) (cmd : Option (Nat × Nat)) (s : State) : State :=
  s.modFabric fun f => Fabric.useId vc { f with
    msgs := f.msgs ++ [{ id := f.nextId vc, vc := vc, dst := dst, body := body, cmd := cmd }] }

/-- A record with its WORLD rewritten; a CRC that was right is made right again (R387). -/
def rewriteWorld (w : Nat) (r : List Byte) : List Byte :=
  let n := r.take 1 ++ le 1 w ++ slice r 2 26
  if getU r 28 4 = crc32c (r.take 28 ++ zeros 4 ++ r.drop 32) then n ++ le 4 (crc32c (n ++ zeros 4 ++ r.drop 32)) ++ r.drop 32
  else n ++ r.drop 28

/-- Capture entries of a brine command as it applies, or is refused or forwarded (R298). -/
def State.captureBrine (kind when_ : Nat) (c : Cmd) (s : State) : State :=
  if c.fn = fabricFn then s.capture 5 c.flags 1 when_ c.arrival (le 1 (flag (c.opcode == 0x0402) 0) ++ le 1 c.world ++ c.records)
  else
    let s := s.capture 1 c.fn c.slot when_ c.arrival (s.message c)
    if c.descs.isEmpty then s else s.capture kind c.fn c.slot when_ c.arrival c.bulk

/-- Brine for a proxy slot goes to its home (R387). -/
def State.forwardBrine (urgent : Bool) (c : Cmd) (s : State) : State :=
  match s.farming.shards.find? fun e => e.home != s.fabric.nodeId && e.localWorld == c.world with
  | none => (s.refuse c 0x0207).freeLanding c
  | some e =>
    if !s.reachable e.home then (s.refuse c 0x0201).freeLanding c
    else
      let recs := match c.recordList with
        | .inl _ => c.records
        | .inr rs => rs.flatMap (rewriteWorld e.homeWorld)
      let id := s.fabric.nextId 1
      let s := s.fabricSend 1 e.home (le 1 (flag urgent 0) ++ le 1 e.homeWorld ++ recs) (some (c.fn, c.slot))
      s.modCmd c.fn c.slot fun c => { c with stage := .waiting, proxyMsg := some id }

/-- Stage 1 of R106: the checks at arrival, in order; `f` runs on the records of a command that passes. -/
def State.brineArrival (urgent : Bool) (c : Cmd) (s : State) (f : List (List Byte) → State → State) : State :=
  let w := c.world
  let taken (s : State) : State := s.captureBrine (if urgent then 3 else 2) 0 c
  let no (st arg : Nat) (s : State) : State := ((taken s).refuse c st arg).freeLanding c
  if c.payload.length < 8 ∨ (!c.descs.isEmpty ∧ c.payload.length ≠ 8) then no 0x0104 0 s
  else if !allZero (slice c.payload 1 7) then no 0x0105 0 s
  else if w > 3 then no 0x0106 0 s
  else if s.isProxy w then (taken s).forwardBrine urgent c
  else if !(s.wd w).loaded then no 0x0207 0 s
  else match c.recordList with
    | .inl i => no 0x0104 i s
    | .inr rs =>
      if rs.isEmpty then no 0x0104 0 s
      else if urgent ∧ rs.length > 16 then no 0x0104 16 s
      else match (List.range rs.length).findSome? fun i =>
          (recordBad urgent w (s.wd w) (rs.getD i [])).map fun st => (st, i) with
        | some (st, i) => no st i s
        | none => f rs s

/-! ## BRINE -/

/-- The frame a record asks to be applied in: its TARGET_FRAME, one earlier for an occupancy patch, whose effective frame
is the next one (R112). -/
def recFrame (r : List Byte) : BitVec 32 := BitVec.ofNat 32 (recTarget r) - (if recType r = 6 then 1 else 0)

/-- The later of two frames. -/
def laterOf (a b : BitVec 32) : BitVec 32 := if laterFrame b a then b else a

/-- BRINE at arrival: checks 1 and 2, then TARGET_FRAME (R107). -/
def bodyBrine (c : Cmd) (s : State) : State :=
  s.brineArrival false c fun rs s =>
    match rs.findIdx? fun r => decide ((recFrame r - c.frame).toInt > 16) with
    | some i => ((s.captureBrine 2 0 c).refuse c 0x0108 i).freeLanding c
    | none => s.modCmd c.fn c.slot fun c => { c with stage := .waiting, frame := (rs.map recFrame).foldl laterOf c.frame }

/-- BRINE (R106, R107). -/
def execBrine (fn slot : Nat) (t : Nat) (s : State) : Host.Outcome State Fault Refusal :=
  ranAt (slotOk fn slot) t s (runCmd 0x0401 fn slot bodyBrine (captured := false))

/-- BRINE_URGENT at arrival; it is applied at the time R49 fixes. -/
def bodyBrineUrgent (c : Cmd) (s : State) : State :=
  s.brineArrival true c fun _ s => s.modCmd c.fn c.slot fun c => { c with stage := .waiting }

/-- BRINE_URGENT (R106, R109). -/
def execBrineUrgent (fn slot : Nat) (t : Nat) (s : State) : Host.Outcome State Fault Refusal :=
  ranAt (slotOk fn slot) t s (runCmd 0x0402 fn slot bodyBrineUrgent (captured := false))

/-! ## Ingest (R46, R47) -/

/-- A brine command that has passed stage 1 and waits to be applied here. -/
def State.brineWaits (s : State) (c : Cmd) (op : Nat) : Bool :=
  c.opcode == op && c.stage == .waiting && c.response.isNone && c.proxyMsg.isNone
    && !(s.worlds.distJobs.any fun j => j.cmd == some (c.fn, c.slot))

/-- A command arrived before another: by arrival, and in one cycle by their ownership writes (R46, R312). -/
def Cmd.before (a b : Cmd) : Bool := decide (a.arrival < b.arrival) || a.arrival == b.arrival && a.sooner b

/-- An ordinary brine command has arrived and is still to be applied, its stage 1 done or not (R46). -/
def State.brineStands (s : State) (c : Cmd) : Bool :=
  s.brineWaits c 0x0401 || (c.opcode == 0x0401 && c.stage == .ready && c.response.isNone)

/-- No command of its world that arrived earlier stands in front of a brine command: none overtakes another (R46). -/
def State.brineFirst (s : State) (c : Cmd) : Bool :=
  !(s.mbx.cmds.any fun x => s.brineStands x && x.world == c.world && x.before c)

/-- Bytes a tick of the hub's HBM share: 204.8 GB/s, half of it while recording (R33, R299). -/
def State.ingestRate (s : State) : Nat := if s.det.record then 512 else 1024

/-- The place in the ingest window, in bytes at its rate, where a write can start now; its end at T_c. -/
def State.ingestStart (s : State) : Nat :=
  max s.worlds.ingestUsed ((s.time.now - (s.frame.openTime + 10 * ticksPerUs)) * s.ingestRate)
def State.ingestEnd (s : State) : Nat := (s.frame.conf.tc - 10) * ticksPerUs * s.ingestRate

/-- Records admitted count for the sessions of their function and world (Table 20.2). -/
def State.countBrine (c : Cmd) (n : Nat) (s : State) : State :=
  (List.range 16).foldl (init := s) fun s i =>
    let x := s.ses i
    if x.state ≠ 0 ∧ x.fn = c.fn ∧ x.world = some c.world then s.bumpSes i 12 n else s

/-- A command that does not complete by T_c, or finds no DIST_BUILD capacity, is held for the next frame (R47, R112). -/
def State.holdBrine (c : Cmd) (s : State) : State :=
  let s := (s.bumpHub 0).modFrame fun f => { f with brineHeld := f.brineHeld + 1 }
  s.modCmd c.fn c.slot fun c => { c with frame := s.frame.counter + 1 }

/-- A brine command is started: stage 2, then its whole write (R47, R106). -/
def State.startBrine (c : Cmd) (rs : List (List Byte)) (s : State) : State :=
  match applyRecords c.world (c.fn, c.slot) 0 rs (0, s) with
  | .inl e => ((s.captureBrine 2 0 c).refuse c e.1 e.2).freeLanding c
  | .inr out =>
    let boxes (x : State) := (x.worlds.distJobs.filter fun j => j.frame == s.frame.counter).length
    let own := boxes out.2 - boxes s
    if boxes out.2 > 8 ∨ s.ingestStart + out.1 > s.ingestEnd then s.holdBrine c
    else
      let late := (rs.filter fun r => laterFrame s.frame.counter (recFrame r)).length
      let s' := out.2.captureBrine 2 0 c
      let s' := s'.modWorlds fun y => { y with ingestUsed := s.ingestStart + out.1 }
      let s' := (s'.bumpHub 1 late).modFrame fun f => { f with brineLate := f.brineLate + late }
      let s' := ((s'.countBrine c rs.length).freeLanding c).selEvent 2 0 0x40 0x84 c.layerId c.operatorId out.1
      if own > 0 then s' else s'.accept c (le 4 rs.length ++ le 4 s.frameNo)

/-- The answers to forwarded commands go back to the nodes that sent them: message number, status, argument and frame
(R387). -/
def State.fabricAnswers (s : State) : State :=
  let done := s.mbx.cmds.filter fun c => c.fn == fabricFn && c.response.isSome
  let s := s.modMbx fun m => { m with cmds := m.cmds.filter fun c => !(c.fn == fabricFn && c.response.isSome) }
  done.foldl (init := s) fun s c =>
    let r := c.response.getD { status := 0 }
    s.fabricSend 0 c.layerId (le 4 c.seq ++ le 2 r.status ++ le 2 r.arg ++ le 4 s.frameNo) none

/-- The ingest window of the frame in progress (R47). -/
def State.ingesting (s : State) : Bool := s.frame.devState == 1 && decide (s.frame.phase = .opened ∧
  s.frame.openTime + 10 * ticksPerUs ≤ s.time.now ∧ s.time.now < s.frame.openTime + s.frame.conf.tc * ticksPerUs)

/-- BRINE_APPLY: in the ingest window the boxes that earlier frames converted are written first (R112), then the first
waiting command of its world starts. -/
def State.brineApply (fn slot : Nat) (s : State) : State :=
  match s.cmdFor fn slot (s.brineWaits · 0x0401) with
  | none => s
  | some c => match c.recordList with
    | .inl _ => s
    | .inr rs =>
      s.when_ (s.ingesting && s.brineWaits c 0x0401 && s.brineFirst c && !laterFrame c.frame s.frame.counter) fun s =>
        (s.writeBoxes.startBrine c rs).fabricAnswers

/-- BRINE_APPLY (R47); `fn` 17 names a command that arrived over the fabric. -/
def execBrineApply (fn slot : Nat) (t : Nat) (s : State) : Host.Outcome State Fault Refusal :=
  ranAt (brineSlotOk fn slot) t s (State.brineApply fn slot)

/-! ## WORLD_STATUS and PAN_READ -/

/-- Bits set by position. -/
def bitsOf (l : List Bool) : Nat := sumN ((List.range l.length).map fun i => flag (l.getD i false) i)

/-- The WORLD_STATUS response. -/
def State.worldStatus (s : State) (w : Nat) : List Byte :=
  let x := s.wd w
  le 8 x.worldTime ++ le 4 x.lastSeq ++ le 4 x.urgentSeq ++ le 4 s.freeHandles ++
    le 2 (fineMapCount - sumN (s.fineUsed.map (·.2))) ++ le 2 (sliceCount - sumN (s.sliceUsed.map (·.2))) ++
    le 2 (x.movers.filter (·.isSome)).length ++ le 2 (bitsOf (x.urgent.map (·.isSome))) ++ zeros 4 ++
    le 8 (bitsOf ((List.range 64).map fun i => s.worlds.workcells.any (·.id == i)))

/-- WORLD_STATUS. -/
def bodyWorldStatus (c : Cmd) (s : State) : State :=
  s.shape c 8 [(1, 7)] fun s =>
    s.need c (decide (c.world ≤ 3)) 0x0106 fun s =>
      s.need c (s.wd c.world).loaded 0x0207 fun s => s.accept c (s.worldStatus c.world)

/-- WORLD_STATUS (R339). -/
def execWorldStatus (fn slot : Nat) (t : Nat) (s : State) : Host.Outcome State Fault Refusal :=
  ranAt (slotOk fn slot) t s (runCmd 0x0403 fn slot bodyWorldStatus)

/-- PAN_READ: header and payload of a pan. -/
def bodyPanRead (c : Cmd) (s : State) : State :=
  s.shape c 24 [(1, 7), (11, 1), (20, 4)] fun s =>
    s.need c (decide (c.world ≤ 3) && addrOk c.payload 8) 0x0106 fun s =>
      s.need c (s.wd c.world).loaded 0x0207 fun s =>
        match s.panAt c.world (addrAt c.payload 8) with
        | none => s.refuse c 0x0207
        | some h => s.deliverCounted c (s.panHeader h ++ s.panPayload h)

/-- PAN_READ (R339). -/
def execPanRead (fn slot : Nat) (t : Nat) (s : State) : Host.Outcome State Fault Refusal :=
  ranAt (slotOk fn slot) t s (runCmd 0x0404 fn slot bodyPanRead)

end Sys2Proof.Machine
end

