-- ==== Sys2Proof/Machine/Observe.lean ====
section
/-!
DEFINITION. Sys2Proof/Machine/Observe.lean: the observability group 0x08, FREEZE, trace buffers and breakpoints (R306, R350,
R396, R451-R462).
-/
namespace Sys2Proof.Machine

/-! ## Counter selectors (Tables 20.1, 20.5) -/

/-- Scope, instance and index of a selector. -/
def selScope (v : Nat) : Nat := bits v 28 4
def selInst (v : Nat) : Nat := bits v 16 6
def selIdx (v : Nat) : Nat := v % 256

/-- A selector names a counter: its scope, instance and index exist. -/
def selExists (v : Nat) : Bool := counterOk (selScope v) (selInst v) (selIdx v)
/-- Reserved bits of a selector are 0. -/
def selClean (v : Nat) : Bool := bits v 22 6 == 0 && bits v 8 8 == 0

/-- The status a CTR_READ selector is refused with. -/
def State.selectorBad (s : State) (fn v : Nat) : Option Nat :=
  if !selClean v then some 0x0105
  else if !selExists v then some 0x0106
  else if fn ≠ 0 ∧ !(selScope v == 3 && s.ownsSession fn (selInst v)) then some 0x0502
  else none

/-- CTR_READ: live values or FREEZE shadows (R454). -/
def bodyCtrRead (c : Cmd) (s : State) : State :=
  let n := getU c.payload 0 2
  let frozen := getU c.payload 2 1
  let sels := (List.range n).map fun i => getU c.payload (8 + 4 * i) 4
  s.need c (decide (c.payload.length ≥ 8)) 0x0104 fun s =>
    s.need c (allZero (slice c.payload 3 5)) 0x0105 fun s =>
      s.need c (inR n 1 448 && decide (frozen ≤ 1)) 0x0106 fun s =>
        s.need c (c.payload.length == 8 + 4 * n) 0x0104 fun s =>
          match (List.range n).findSome? fun i => (s.selectorBad c.fn (sels.getD i 0)).map fun st => (st, i) with
          | some (st, i) => s.refuse c st i
          | none => s.accept c (sels.flatMap fun v =>
              le 8 (if frozen = 1 then s.shadow (selScope v) (selInst v) (selIdx v)
                else s.counter (selScope v) (selInst v) (selIdx v)))

/-- CTR_READ (R454). -/
def execCtrRead (fn slot : Nat) (t : Nat) (s : State) : Host.Outcome State Fault Refusal :=
  ranAt (slotOk fn slot) t s (runCmd 0x0801 fn slot bodyCtrRead)

/-- A selection entry (Table 20.3). -/
def selectionOf (b : List Byte) : CounterSel := {
  scope := selScope (getU b 0 4), inst := selInst (getU b 0 4), idx := selIdx (getU b 0 4), event := getU b 4 1,
  qual := getU b 5 1, tagged := bit (getU b 6 1) 0, cmdScope := bit (getU b 6 1) 1, tagLayer := getU b 8 2,
  tagOperator := getU b 10 2 }

/-- An event code belongs to a scope (Table 20.4). -/
def eventInScope (scope event : Nat) : Bool :=
  (scope == 0 && inR event 0x01 0x0B) || (scope == 1 && inR event 0x20 0x22) || (scope == 2 && inR event 0x40 0x43)

/-- The first index that is not a fixed counter of a scope. -/
def firstSelectable (scope : Nat) : Nat := [16, 16, 32].getD scope 256

/-- The status a selection entry is refused with, after the entries before it (R453). -/
def State.selectionBad (s : State) (earlier : List CounterSel) (b : List Byte) : Option Nat :=
  let e := selectionOf b
  if !selClean (getU b 0 4) || getU b 6 1 ≥ 4 || !allZero (slice b 7 1) || !allZero (slice b 12 4) then some 0x0105
  else if !selExists (getU b 0 4) || e.idx < firstSelectable e.scope || !eventInScope e.scope e.event
    || (e.scope == 0 && !s.enabled e.inst)
    || earlier.any fun x => x.scope == e.scope && x.inst == e.inst && x.idx == e.idx then some 0x0106
  else none

/-- CTR_SELECT: a new programme from the next frame open (R453). -/
def bodyCtrSelect (c : Cmd) (s : State) : State :=
  let n := getU c.payload 0 2
  let raw := (List.range n).map fun i => slice c.payload (8 + 16 * i) 16
  s.need c (decide (c.payload.length ≥ 8)) 0x0104 fun s =>
    s.need c (allZero (slice c.payload 2 6)) 0x0105 fun s =>
      s.need c (inR n 1 160) 0x0106 fun s =>
        s.need c (c.payload.length == 8 + 16 * n) 0x0104 fun s =>
          let es := raw.map selectionOf
          match (List.range n).findSome? fun i => (s.selectionBad (es.take i) (raw.getD i [])).map fun st => (st, i) with
          | some (st, i) => s.refuse c st i
          | none => ((s.modObs fun o => { o with programmeNext := some es }).settleIdle State.settleObs).accept c

/-- CTR_SELECT (R453). -/
def execCtrSelect (fn slot : Nat) (t : Nat) (s : State) : Host.Outcome State Fault Refusal :=
  ranAt (slotOk fn slot) t s (runCmd 0x0802 fn slot bodyCtrSelect)

/-! ## FREEZE (R456) -/

/-- FREEZE: triggered at execution, answered at its freeze instant. -/
def bodyFreeze (c : Cmd) (s : State) : State := s.shape c 0 [] fun s => s.freezeTrigger.wait c

/-- FREEZE (R456). -/
def execFreeze (fn slot : Nat) (t : Nat) (s : State) : Host.Outcome State Fault Refusal :=
  ranAt (slotOk fn slot) t s (runCmd 0x0803 fn slot bodyFreeze)

/-- TRIG_IN rises: a FREEZE trigger where enabled, and a trace trigger (R456, Table 20.11). -/
def State.trigIn (s : State) : State :=
  let s := if s.obs.trigInEn then s.freezeTrigger else s
  s.traceTrigger 0

/-- TRIG_IN_EDGE (R456). -/
def execTrigInEdge (t : Nat) (s : State) : Host.Outcome State Fault Refusal := ranAt true t s State.trigIn

/-- A FREEZE broadcast arrives: obeyed where FABRIC_EN is set (R456). -/
def State.fabricFreeze (s : State) : State := if s.obs.fabricEn then s.freezeTrigger true else s

/-- FABRIC_FREEZE (R456). -/
def execFabricFreeze (t : Nat) (s : State) : Host.Outcome State Fault Refusal := ranAt true t s State.fabricFreeze

/-- Every counter of a scope with its value; zeros are left out, since an unlisted shadow reads 0. -/
def State.snapshotScope (s : State) (scope insts idxs : Nat) : List (Nat × Nat × Nat × Nat) :=
  (List.range insts).flatMap fun i => (List.range idxs).filterMap fun k =>
    let v := s.counter scope i k
    if v = 0 then none else some (scope, i, k, v)

/-- All counters. -/
def State.snapshotAll (s : State) : List (Nat × Nat × Nat × Nat) :=
  s.snapshotScope 0 64 64 ++ s.snapshotScope 1 4 32 ++ s.snapshotScope 2 1 64 ++ s.snapshotScope 3 16 16

/-- Ticks of the freeze line: 32 NoC cycles at 1.4 GHz, rounded up. -/
abbrev freezeTicks : Nat := 5

/-- The TRACE source of a buffer's own unit. -/
def bufferSource (b : Nat) : Nat := if b = 4 then 0xFF else 0xF0 + b

/-- The freeze instant: every counter is copied, then FREEZE's other effects. -/
def State.freezeInstant (s : State) : State :=
  match s.obs.freezePending with
  | none => s
  | some t0 =>
    if s.time.now < t0 + freezeTicks then s
    else
      let now := s.time.now
      let send := s.obs.fabricEn && !s.obs.freezeRemote
      let all := s.snapshotAll
      let s := s.modObs fun o => { o with
        shadows := all, freezePending := none, freezeRemote := false, freezeWriting := true, freezeTime := now,
        trigOut := if o.trigOutEn then some now else o.trigOut }
      let r := s.fresh
      let s := ((r.2.timingEvent 7 0xFF 0xFF (r.1.toNat % 2 ^ 32)).bumpHub 16).traceTrigger 4
      let s := (List.range 5).foldl (init := s) fun s b => s.trace b (bufferSource b) 0xF (le 8 now)
      let s := if send then s.fabricSend 0 0xFF [0x46] none else s
      (s.mbx.cmds.filter fun c => c.opcode == 0x0803 && decide (c.stage = .waiting)).foldl (init := s) fun s c =>
        s.accept c (le 8 now)

/-- FREEZE_INSTANT (R456). -/
def execFreezeInstant (t : Nat) (s : State) : Host.Outcome State Fault Refusal := ranAt true t s State.freezeInstant

/-- Every shadow is written: DONE, and PF0 vector 35. -/
def State.shadowsDone (s : State) : State :=
  s.when_ s.obs.freezeWriting fun s =>
    (s.modObs fun o => { o with freezeWriting := false, freezeDone := true }).msixRaise 0 35

/-- FREEZE_SHADOWS_DONE (R456). -/
def execFreezeShadowsDone (t : Nat) (s : State) : Host.Outcome State Fault Refusal := ranAt true t s State.shadowsDone

/-! ## Trace (R458-R460) -/

/-- The status a buffer's part of the trace block is refused with (Table 20.11). -/
def bufferConfBad (hub : Bool) (b : List Byte) : Option Nat :=
  if !allZero (slice b 14 18) || getU b 2 2 ≥ 64 then some 0x0105
  else if getU b 0 1 > 3 || getU b 1 1 > 15 || (getU b 0 1 == 3 && getU b 1 1 == 0) || getU b 4 4 ≥ 65536
    || bit (getU b 4 4) 0 || (hub && getU b 8 2 ≠ 0) then some 0x0106
  else none

/-- The status a trace block is refused with. -/
def traceConfBad (b : List Byte) : Option Nat :=
  if !allZero (slice b 4 28) || getU b 2 2 ≥ 4 then some 0x0105
  else if getU b 0 2 ≠ 1 then some 0x0106
  else (List.range 5).findSome? fun k => bufferConfBad (k == 4) (slice b (32 + 32 * k) 32)

/-- TRACE_CONFIG: from the next frame open on (R458). -/
def bodyTraceConfig (c : Cmd) (s : State) : State :=
  s.need c (c.payload.length == 192) 0x0104 fun s =>
    match traceConfBad c.payload with
    | some st => s.refuse c st
    | none => ((s.modObs fun o => { o with traceConfNext := some c.payload }).settleIdle State.settleObs).accept c

/-- TRACE_CONFIG (R458). -/
def execTraceConfig (fn slot : Nat) (t : Nat) (s : State) : Host.Outcome State Fault Refusal :=
  ranAt (slotOk fn slot) t s (runCmd 0x0804 fn slot bodyTraceConfig)

/-- TRACE_READ: the units in write order, pre region before post region (R460). -/
def bodyTraceRead (c : Cmd) (s : State) : State :=
  s.shape c 8 [(1, 7)] fun s =>
    let b := getU c.payload 0 1
    s.need c (decide (b ≤ 4)) 0x0106 fun s =>
      let x := s.obs.buffers.getD b {}
      let out := (x.units ++ x.post).flatten
      s.deliver c out (le 4 out.length ++ le 4 x.overflows)

/-- TRACE_READ (R460). -/
def execTraceRead (fn slot : Nat) (t : Nat) (s : State) : Host.Outcome State Fault Refusal :=
  ranAt (slotOk fn slot) t s (runCmd 0x0805 fn slot bodyTraceRead)

/-- The newest unit overwrites the oldest in a region of `cap` units. -/
def TraceBuf.wrap (x : TraceBuf) (cap : Nat) (u : List Byte) : TraceBuf :=
  { x with units := (x.units ++ [u]).drop (x.units.length + 1 - cap), dropped := x.dropped + (x.units.length + 1 - cap) }

/-- One unit enters a buffer by its mode (R460). -/
def TraceBuf.take (x : TraceBuf) (b mode post : Nat) (now : Nat) (u : List Byte) : TraceBuf :=
  let cap := traceUnits b
  if mode = 1 then
    if x.state ≠ 1 then x
    else
      let x := { x with units := x.units ++ [u] }
      if x.units.length + 1 ≥ cap then
        let o := le 1 0xC ++ le 1 (bufferSource b) ++ zeros 2 ++ le 4 now ++ zeros 24
        { x with units := x.units ++ [o], state := 2 }
      else x
  else if mode = 2 then x.wrap cap u
  else if mode = 3 ∧ x.state = 1 then x.wrap (cap - postUnits b post) u
  else if mode = 3 ∧ x.state = 3 then
    let x := { x with post := x.post ++ [u] }
    if x.post.length ≥ postUnits b post then { x with state := 2 } else x
  else x

/-- A trace unit takes a DMA token, of its stack's DMA where the buffer is a stack's (R271, R459): the head of its source's hold
queue, or, with that queue empty, a unit of a record that this model does not form (log entry 32). -/
def State.traceUnitWrite (b source : Nat) (u : List Byte) (s : State) : State :=
  let x := s.obs.buffers.getD b {}
  let q := lookupD [] source x.hold
  let write (s : State) : State :=
    let r := s.fresh
    let s := r.2.timingEvent 7 (if b = 4 then 0xFF else b) 0xFF (r.1.toNat % 2 ^ 32)
    s.modObs fun o => { o with buffers := o.buffers.modify b fun x =>
      { x with hold := upsert source q.tail x.hold }.take b (s.traceCfg b 0 1) (s.traceCfg b 1 1) s.time.now u }
  s.when_ ((x.state == 1 || x.state == 3) && (q.isEmpty || q.head? == some u)) fun s =>
    if b < 4 then s.withToken b write else write s

/-- TRACE_UNIT_WRITE (R459). -/
def execTraceUnitWrite (buffer source : Nat) (bytes : List Byte) (t : Nat) (s : State) : Host.Outcome State Fault Refusal :=
  ranAt (below buffer 5 && below source 256 && decide (bytes.length = 32)) t s (State.traceUnitWrite buffer source bytes)

/-! ## Breakpoints (R306, R461, R462) -/

/-- The status a breakpoint record is refused with (Table 20.13). -/
def State.breakBad (s : State) (b : List Byte) : Option Nat :=
  if !allZero (slice b 19 13) || getU b 18 1 ≥ 64 then some 0x0105
  else if getU b 0 1 > 15 || getU b 1 1 > 3 || getU b 3 1 > 3 || getU b 16 2 == 0 || bits (getU b 18 1) 1 2 == 3
    || !(getU b 2 1 == 0xFF || s.enabled (getU b 2 1)) then some 0x0106
  else none

/-- BREAK_SET: armed from the next frame open. -/
def bodyBreakSet (c : Cmd) (s : State) : State :=
  s.need c (c.payload.length == 32) 0x0104 fun s =>
    match s.breakBad c.payload with
    | some st => s.refuse c st
    | none =>
      s.need c (!s.classSIn fun st => inR st 2 4) 0x0201 fun s =>
        s.need c (getU c.payload 1 1 != 3 || [0, 3, 4].contains s.lifecycle) 0x0503 fun s =>
          let s := s.modObs fun o => { o with
            breaksNext := (o.breaksNext.filter (·.1 != getU c.payload 0 1)) ++ [(getU c.payload 0 1, c.payload)] }
          (s.settleIdle State.settleObs).accept c

/-- BREAK_SET (R461). -/
def execBreakSet (fn slot : Nat) (t : Nat) (s : State) : Host.Outcome State Fault Refusal :=
  ranAt (slotOk fn slot) t s (runCmd 0x0806 fn slot bodyBreakSet)

/-- BREAK_CLEAR: disarmed at once; a hit in the same cycle stands. -/
def bodyBreakClear (hit : Bool) (c : Cmd) (s : State) : State :=
  s.shape c 8 [(1, 7)] fun s =>
    let i := getU c.payload 0 1
    s.need c (decide (i ≤ 15)) 0x0106 fun s =>
      let off (b : Breakpoint) : Breakpoint := { b with armed := false, clearedAt := if hit then some s.time.now else none }
      (s.modObs fun o => { o with
        breaks := o.breaks.modify i (·.map off), breaksNext := o.breaksNext.filter (·.1 != i) }).accept c

/-- BREAK_CLEAR (R461). -/
def execBreakClear (fn slot : Nat) (hitSameCycle : Bool) (t : Nat) (s : State) : Host.Outcome State Fault Refusal :=
  ranAt (slotOk fn slot) t s (runCmd 0x0807 fn slot (bodyBreakClear hitSameCycle))

/-- Some unit is halted. -/
def State.halted (s : State) : Bool := s.obs.cpHalted || s.clusters.any (·.halted)

/-- BREAK_RESUME: every halted unit restarts; in Exact mode the halt is logged as cause 7 (R306). The time that a control
core stood still does not count for its heartbeat (R462; log entry 58). -/
def bodyBreakResume (c : Cmd) (s : State) : State :=
  s.shape c 0 [] fun s =>
    s.need c s.halted 0x0201 fun s =>
      let d := s.time.now - s.req.haltSince.getD s.time.now
      let s := s.modClusters fun l => l.map fun (x : Cluster) => { x with halted := false }
      let s := if s.obs.cpHalted then s.modSafety fun x => { x with cfwBeat := x.cfwBeat + d / 4 } else s
      let s := s.modObs fun o => { o with cpHalted := false }
      let s := s.modReq fun r => { r with haltSince := none, haltTicks := r.haltTicks + d }
      let running := s.frame.conf.exact && s.gridRuns && s.frame.phase != .closed && s.frame.phase != .guarded
      let s := if running then s.modFrame fun f => { f with rakeAt := f.rakeAt + d, nextOpen := f.nextOpen + d } else s
      (s.timingEvent 7 0xFF 0xFF d).accept c

/-- BREAK_RESUME (R462). -/
def execBreakResume (fn slot : Nat) (t : Nat) (s : State) : Host.Outcome State Fault Refusal :=
  ranAt (slotOk fn slot) t s (runCmd 0x0808 fn slot bodyBreakResume)

/-- What a hit shows agrees with the record: its core, cluster, and the address or tag compared. `unit` is 0 CC0, 1 CC1,
3 control core. -/
def breakMatches (r : List Byte) (unit cluster pc layer op : Nat) : Bool :=
  let mask := getU r 8 4
  (getU r 1 1 == unit || (getU r 1 1 == 2 && decide (unit ≤ 1)))
    && (unit == 3 || getU r 2 1 == 0xFF || getU r 2 1 == cluster)
    && (getU r 3 1 != 0 || decide (pc &&& mask = getU r 4 4 &&& mask))
    && (getU r 3 1 != 3 || (tagMatch (getU r 12 2) layer && tagMatch (getU r 14 2) op))

/-- The clusters in the scope of a halt. -/
def State.haltScope (s : State) (scope cluster : Nat) : List Nat :=
  s.enabledList.filter fun p => scope == 2 || (scope == 1 && stackOf p == stackOf cluster) || p == cluster

/-- The action of a breakpoint. -/
def State.breakAction (act unit cluster : Nat) (s : State) : State :=
  let s := if bit act 0 then
      let l := if unit = 3 ∧ bits act 1 2 ≠ 2 then [] else s.haltScope (bits act 1 2) cluster
      let s := l.foldl (init := s) fun s p => s.modCl p fun x => { x with halted := true }
      let s := if unit = 3 then s.modObs fun o => { o with cpHalted := true } else s
      (s.modReq fun r => { r with haltSince := some (r.haltSince.getD s.time.now) }).msixRaise 0 35
    else s
  let s := if bit act 3 then s.freezeTrigger else s
  let s := if bit act 4 then s.traceTrigger 1 else s
  if bit act 5 then s.modObs fun o => { o with trigOut := some s.time.now } else s

/-- A breakpoint hit: a BREAK record, BREAK_HITS, and at the COUNT-th hit the action. -/
def State.breakHit (index unit cluster pc layer op : Nat) (s : State) : State :=
  match s.obs.breaks.getD index none with
  | none => s
  | some b =>
    if (b.armed || b.clearedAt == some s.time.now) && breakMatches b.bytes unit cluster pc layer op then
      let buf := if unit = 3 ∨ cluster ≥ 64 then 4 else stackOf cluster
      let s := s.modObs fun o => { o with breaks := o.breaks.modify index (·.map fun x => { x with hits := x.hits + 1 }) }
      let s := s.trace buf (if buf = 4 then 0xFF else cluster) 0xE
        (le 1 index ++ le 1 unit ++ le 1 cluster ++ [0] ++ le 4 pc ++ le 2 layer ++ le 2 op) layer op
      let s := s.bumpHub 17
      if b.hits + 1 ≥ getU b.bytes 16 2 then s.breakAction (getU b.bytes 18 1) unit cluster else s
    else s

/-- BREAK_HIT (R462). -/
def execBreakHit (index unit cluster pc layer operator : Nat) (t : Nat) (s : State) : Host.Outcome State Fault Refusal :=
  ranAt (below index 16) t s (State.breakHit index unit cluster pc layer operator)

end Sys2Proof.Machine
end

