-- ==== Sys2Proof/Machine/SafetyCmds.lean ====
section
/-!
DEFINITION. Sys2Proof/Machine/SafetyCmds.lean: the safety, calibration and lifecycle group 0x09 (R351, R397, R414, R416,
R427-R429, R445-R450).
-/
namespace Sys2Proof.Machine

/-! ## SAFETY_STATUS and SAFE_RELEASE -/

/-- Age of a rake item, in µs. -/
def State.rakeAge (s : State) (i : RakeItem) : Nat := (s.time.now - i.last) / ticksPerUs

/-- The safety status record (Table 17.6). -/
def State.safetyRecord (s : State) : List Byte :=
  let x := s.safety
  let codes := (List.range 8).flatMap fun i => le 2 ((x.latch[i]?.map (·.code)).getD 0)
  let wdog := match x.wdogEdge with
    | some e => satU 32 ((x.ssvNow - e) / 50)
    | none => 2 ^ 32 - 1
  let recent := (x.restarts.filter fun r => decide (s.time.now ≤ r + 10000000 * ticksPerUs)).length
  le 1 x.pinState ++ le 1 x.latch.length ++ le 2 x.firstCode ++ zeros 4 ++ le 8 x.firstTime ++ codes ++
    le 4 (satU 32 ((x.rakeItems.map s.rakeAge).foldl max 0)) ++ le 4 (satU 32 x.rakeDeferrals) ++ le 4 wdog ++
    le 1 (flag x.profile.isSome 0) ++ le 1 recent ++ zeros 2 ++ le 4 (satU 32 x.disagree) ++ le 4 (satU 32 x.ageRefused) ++
    zeros 8

/-- SAFETY_STATUS. -/
def bodySafetyStatus (c : Cmd) (s : State) : State := s.shape c 0 [] fun s => s.accept c s.safetyRecord

/-- SAFETY_STATUS (R416). -/
def execSafetyStatus (fn slot : Nat) (ssv : Nat) (t : Nat) (s : State) : Host.Outcome State Fault Refusal :=
  ranAt (slotOk fn slot) t s fun s => runCmd 0x0901 fn slot bodySafetyStatus (s.atSsv ssv)

/-- Every rake item is at most 100 ms old. -/
def State.rakeFresh (s : State) : Bool := s.safety.rakeItems.all fun i => decide (s.time.now - i.last ≤ 100000 * ticksPerUs)

/-- The release condition of a latched code (Table 17.5). -/
def State.releasable (s : State) (l : Latched) : Bool :=
  if l.code = 0x000A then false
  else if isRestart l.code then decide (l.resets < s.safety.warmResets)
  else match l.code with
    | 0x0004 => s.rakeFresh
    | 0x0005 => ((l.cluster, l.time) :: l.earlier).all fun d =>
        (((s.cl d.1).test.assayPassedAt).map fun t => decide (d.2 < t)).getD false
    | 0x000C => decide (l.time + 10000 * ticksPerUs ≤ s.time.now)
    | 0x000E | 0x000F => s.frame.anyOpened && decide (l.time < s.frame.openTime)
    | 0x0010 => s.wdogPresent
    | 0x0011 | 0x0012 | 0x0013 | 0x0014 => l.fns.all fun f => (s.carrier f).up
    | _ => true

/-- A code leaves the latch; with the last one the pins go from LATCHED to IDLE. -/
def Safety.release (x : Safety) (code : Nat) : Safety :=
  let latch := x.latch.filter (·.code != code)
  if latch.isEmpty then { x with latch := [], latchOverflow := 0, pinState := 0, firstCode := 0, firstTime := 0 }
  else { x with latch := latch }

/-- SAFE_RELEASE (R414). -/
def bodySafeRelease (c : Cmd) (s : State) : State :=
  s.shape c 8 [(2, 6)] fun s =>
    let code := getU c.payload 0 2
    s.need c (s.safety.latch.any fun l => l.code == code && s.releasable l) 0x0201 fun s =>
      (s.modSafety fun x => x.release code).accept c

/-- SAFE_RELEASE (R414). -/
def execSafeRelease (fn slot : Nat) (ssv : Nat) (t : Nat) (s : State) : Host.Outcome State Fault Refusal :=
  ranAt (slotOk fn slot) t s fun s => runCmd 0x0903 fn slot bodySafeRelease (s.atSsv ssv)

/-! ## Paired flash areas (R436) -/

/-- The copy in force. -/
def Paired.read {α : Type} (p : Paired α) : Option α :=
  match p.copy0, p.copy1 with
  | some a, some b => if a.1 < b.1 then some b.2 else some a.2
  | some a, none => some a.2
  | none, some b => some b.2
  | none, none => none

/-- A write goes over the copy with the lower valid count, and counts one more than the copy in force (log entry 33). -/
def Paired.write {α : Type} (v : α) (p : Paired α) : Paired α :=
  let n (c : Option (Nat × α)) := (c.map (·.1)).getD 0
  let next := (max (n p.copy0) (n p.copy1) + 1) % 2 ^ 32
  if p.copy0.isNone then { p with copy0 := some (next, v) }
  else if p.copy1.isNone then { p with copy1 := some (next, v) }
  else if n p.copy0 ≤ n p.copy1 then { p with copy0 := some (next, v) } else { p with copy1 := some (next, v) }

/-! ## Calibration (R427-R429) -/

/-- A calibration record (Table 18.5). -/
def calBytes (r : CalRecord) : List Byte :=
  let pairSU (l : List (Int × Nat)) := l.flatMap fun x => leS 2 x.1 ++ le 2 x.2
  let b := le 4 0x4C414346 ++ le 2 1 ++ zeros 2 ++ pairSU r.temp ++ pairSU r.vmon ++
    (r.pdm.flatMap fun x => le 2 x.1 ++ leS 2 x.2) ++ (r.roBase.flatMap fun x => le 2 x.1 ++ le 2 x.2) ++
    (r.voffInit.flatMap fun x => leS 1 x) ++ (r.clkTrim.flatMap fun x => le 2 x) ++ zeros 2 ++
    (r.portLat.flatMap fun x => le 2 x.1 ++ le 2 x.2) ++ fit 1024 r.hbmSeed ++ le 4 r.userCounter ++ le 4 r.calFlags ++
    zeros 44
  b ++ le 4 (crc32c b)

/-- CAL_READ. -/
def bodyCalRead (c : Cmd) (s : State) : State :=
  s.shape c 8 [(1, 7)] fun s =>
    let which := getU c.payload 0 1
    s.need c (decide (which ≤ 2)) 0x0106 fun s =>
      s.deliverCounted c (if which = 0 then calBytes s.part.factory
        else if which = 1 then fit 320 (s.flash.userCal.read.getD []) else calBytes s.boot.effective)

/-- CAL_READ (R427, R429). -/
def execCalRead (fn slot : Nat) (t : Nat) (s : State) : Host.Outcome State Fault Refusal :=
  ranAt (slotOk fn slot) t s (runCmd 0x0904 fn slot bodyCalRead)

/-- The owner signature of a user calibration page (Table 18.7): some enrolled owner's key verifies it. The page carries no
key, so the key itself is what the signature names; the anchor holds its hash (log entry 34). -/
def State.calSigned (s : State) (b : List Byte) : Bool :=
  s.part.ownerValid && Config.ed25519Verify (s.part.owner.getD []) (sha512 (b.take 256)) (slice b 256 64)

/-- Fields of a user calibration page are legal. -/
def State.calPageOk (s : State) (b : List Byte) : Bool :=
  b.length == 320 && getU b 0 4 == 0x4C414355 && getU b 4 2 == 1 && decide (slice b 16 16 = fit 16 s.part.serial)
    && decide (s.boot.effective.userCounter < getU b 8 4) && allZero (slice b 6 2) && allZero (slice b 12 4)
    && allZero (slice b 168 88)

/-- CAL_WRITE: the page is applied at the next power-up (R428). -/
def bodyCalWrite (c : Cmd) (s : State) : State :=
  s.shape c 0 [] fun s => s.need c (c.bulk.length == 320) 0x0104 fun s =>
    s.need c (s.devIn [0, 2]) 0x0201 fun s =>
      s.need c (inR s.lifecycle 1 3 && s.part.ownerValid) 0x0503 fun s =>
        s.need c (s.calSigned c.bulk) 0x0501 fun s =>
          s.need c (s.calPageOk c.bulk) 0x0106 fun s =>
            (s.modFlash fun f => { f with userCal := f.userCal.write c.bulk }).accept c

/-- CAL_WRITE (R428). -/
def execCalWrite (fn slot : Nat) (t : Nat) (s : State) : Host.Outcome State Fault Refusal :=
  ranAt (slotOk fn slot) t s (runCmd 0x0905 fn slot bodyCalWrite)

/-! ## Tokens (R445, R446) -/

/-- KIND and body of a token. -/
def tokKind (b : List Byte) : Nat := getU b 4 1
def tokBody (b : List Byte) : List Byte := slice b 64 (getU b 6 2)
/-- The signers named (bit 0 vendor, bit 1 owner). -/
def tokSigners (b : List Byte) : Nat := getU b 5 1

/-- BODY_LEN of a kind (Table 19.7). -/
def tokBodyLen (kind : Nat) : Nat := [0, 40, 8, 104, 8, 68, 32].getD kind 0

/-- Signature block `i`: public key and signature. -/
def tokBlock (b : List Byte) (i : Nat) : List Byte × List Byte :=
  let o := 64 + getU b 6 2 + 96 * i
  (slice b o 32, slice b (o + 32) 64)

/-- A body's reserved bytes are 0 and its values legal, as step 1 asks. -/
def State.tokBodyOk (s : State) (b : List Byte) : Bool :=
  let x := tokBody b
  match tokKind b with
  | 1 => decide (getU x 0 1 ≤ 5) && allZero (slice x 1 7)
  | 2 => decide (getU x 0 1 ≤ 2) && allZero (slice x 1 3)
      && (getU x 0 1 != 0 || getU x 4 4 == (s.flash.health.read.getD {}).bootCount)
  | 3 => allZero x || (allZero (slice x 102 2) && inR (getU x 96 4) 250 60000 && inR (getU x 100 2) 250 5000)
  | 4 => allZero x
  | 5 => decide (getU x 0 1 ≤ 7 ∧ getU x 1 1 ≤ 1) && allZero (slice x 2 6)
  | _ => true

/-- Step 1: MAGIC, KIND, lengths, SERIAL, reserved fields, and the command of Table 19.7. -/
def State.tokFormOk (s : State) (kinds : List Nat) (b : List Byte) : Bool :=
  let n := 64 + getU b 6 2 + 96 * (flag (bit (tokSigners b) 0) 0 + flag (bit (tokSigners b) 1) 0)
  decide (64 ≤ b.length) && getU b 0 4 == 0x4E4B4F54 && kinds.contains (tokKind b) && getU b 6 2 == tokBodyLen (tokKind b)
    && decide (tokSigners b < 4 ∧ n ≤ b.length ∧ b.length < n + 8) && allZero (b.drop n)
    && decide (slice b 8 16 = fit 16 s.part.serial) && allZero (slice b 28 36) && s.tokBodyOk b

/-- The CHANGES a token must carry (Table 19.7). -/
def State.tokChanges (s : State) (b : List Byte) : Nat :=
  let entries (code : Nat) := (s.part.committed code).length
  match tokKind b with
  | 1 => entries 5
  | 2 => entries 4
  | 3 => entries 1
  | 4 => entries 6
  | 5 => s.flash.keyInstalls.getD (getU (tokBody b) 0 1) 0
  | _ => 0

/-- An owner is enrolled for Table 19.7: valid, not VOID. -/
def State.ownerOrVendor (s : State) : Nat := if s.part.ownerValid then 2 else 1

/-- The signers a token needs (Tables 19.7 and 19.8). -/
def State.tokNeeds (s : State) (b : List Byte) : Nat :=
  let x := tokBody b
  match tokKind b with
  | 1 =>
    if getU x 0 1 = 2 then (if allZero (slice x 8 32) then 1 else 3)
    else if getU x 0 1 = 4 then (if s.part.ownerValid then 3 else 1)
    else if getU x 0 1 = 5 then s.ownerOrVendor
    else 1
  | 2 => if getU x 0 1 = 0 then (if s.part.ownerValid then 3 else 1) else s.ownerOrVendor
  | 3 | 5 => s.ownerOrVendor
  | 4 => 1
  | _ => 3

/-- Step 3: every signature named, over SHA-512 of header and body. An enrolling token's owner block is by the key that it
enrols; a REVOKE token's vendor block is by slot B. -/
def State.tokSigned (s : State) (b : List Byte) : Bool :=
  let x := tokBody b
  let msg := b.take (64 + getU b 6 2)
  let v := tokBlock b 0
  let o := tokBlock b (flag (bit (tokSigners b) 0) 0)
  let vendorOk := match s.part.vendorSlot v.1 with
    | some k => (tokKind b != 4 || k == 1) && signed v.1 msg v.2
    | none => false
  let ownerKey := if tokKind b = 6 then decide (o.1 = x.take 32)
    else if tokKind b = 1 ∧ getU x 0 1 = 2 then decide (o.1 = slice x 8 32)
    else s.part.ownerKeyOk o.1
  tokSigners b == s.tokNeeds b && (!bit (tokSigners b) 0 || vendorOk) && (!bit (tokSigners b) 1 || (ownerKey && signed o.1 msg o.2))

/-- Step 4: the status a token is refused with in the present lifecycle state (R446, R447). -/
def State.tokIllegal (s : State) (b : List Byte) : Option Nat :=
  let x := tokBody b
  let st := s.lifecycle
  let no (ok : Bool) : Option Nat := if ok then none else some 0x0503
  match tokKind b with
  | 1 => no (match getU x 0 1 with
    | 1 => st == 0
    | 2 => st == 1
    | 4 => st == 1 || st == 2
    | 5 => st != 5
    | _ => false)
  | 2 =>
    if getU x 0 1 = 0 then
      if !(st == 1 || st == 2 || st == 4) then some 0x0503
      else if s.part.ledgerValue 4 1 = 0 then some 0x0505 else none
    else no (st != 5)
  | 6 => no (st == 2 && s.part.owner.isNone && !s.part.ownerVoid)
  | _ => no (st != 5)

/-- The ledger setting a token writes. -/
def tokLedger (b : List Byte) : Option Nat :=
  match tokKind b with
  | 1 => some 5
  | 2 => if getU (tokBody b) 0 1 = 0 then none else some 4
  | 3 => some 1
  | 4 => some 6
  | _ => none

/-- The five steps of R446: the status a token is refused with. -/
def State.tokenBad (s : State) (kinds : List Nat) (b : List Byte) : Option Nat :=
  if !s.tokFormOk kinds b then some 0x0106
  else if getU b 24 4 ≠ s.tokChanges b then some 0x0106
  else if !s.tokSigned b then some 0x0501
  else match s.tokIllegal b with
    | some st => some st
    | none => if ((tokLedger b).map fun c => !s.part.ledgerRoom c).getD false then some 0x0303 else none

/-- The hash of a token's first signing key, as a ledger entry carries it. -/
def tokSigner (b : List Byte) : List Byte := hash8 (tokBlock b 0).1

/-! ## SAFETY_BIND, DEBUG_UNLOCK, LIFECYCLE_SET, LEDGER_READ -/

/-- The profile of a SAFETY token's body; an all-zero body unbinds. -/
def profileOf (x : List Byte) : Option Profile :=
  if allZero x then none
  else some {
    rigHashes := (recordsOf x 8 8).filter fun h => !allZero h, liveFloor := (List.range 16).map fun g => getU x (64 + 2 * g) 2,
    ageMax := getU x 96 4, pMax := getU x 100 2, body := x }

/-- SAFETY_BIND: the binding goes to the ledger and takes effect at power-up (R397). -/
def bodySafetyBind (c : Cmd) (s : State) : State :=
  s.shape c 0 [] fun s =>
    s.need c (s.devIn [0]) 0x0201 fun s =>
      s.need c (s.part.orderCode == 1) 0x0209 fun s =>
        match s.tokenBad [3] c.bulk with
        | some st => s.refuse c st
        | none =>
          let x := tokBody c.bulk
          let v := if allZero x then 0 else getU (sha512 x) 0 4
          ((s.ledgerPut 1 v (tokSigner c.bulk)).modPart fun p => { p with pendingProfile := profileOf x }).accept c

/-- SAFETY_BIND (R397, R446). -/
def execSafetyBind (fn slot : Nat) (t : Nat) (s : State) : Host.Outcome State Fault Refusal :=
  ranAt (slotOk fn slot) t s (runCmd 0x0902 fn slot bodySafetyBind)

/-- A debug unlock: FIELD_DEBUG over FIELD, JTAG debug elsewhere; the secure region is wiped and only the golden data is
filled again, unless a tamper wipe has taken it (R447-R449). -/
def State.unlockDebug (s : State) : State :=
  let s := s.modMgmt fun m => if s.lifecycle = 2 then { m with fieldDebug := true } else { m with vendorDebug := true }
  let golden := s.hub.secretsGolden
  let s := s.wipeSecure
  if golden then s.modHub fun h => { h with secretsGolden := true, secureWiped := false, wipeDone := none } else s

/-- DEBUG_UNLOCK (R446, R447). -/
def bodyDebugUnlock (c : Cmd) (s : State) : State :=
  s.shape c 0 [] fun s =>
    s.need c (s.devIn [0] && !(s.sessions.any fun x => x.classS && x.state != 0)) 0x0201 fun s =>
      match s.tokenBad [2] c.bulk with
      | some st => s.refuse c st
      | none =>
        let op := getU (tokBody c.bulk) 0 1
        (if op = 0 then s.unlockDebug else s.ledgerPut 4 (2 - op) (tokSigner c.bulk)).accept c

/-- DEBUG_UNLOCK (R447). -/
def execDebugUnlock (fn slot : Nat) (t : Nat) (s : State) : Host.Outcome State Fault Refusal :=
  ranAt (slotOk fn slot) t s (runCmd 0x0907 fn slot bodyDebugUnlock)

/-- A LIFECYCLE transition (R447). -/
def State.lifecycleTo (st : Nat) (pub : List Byte) (signer : List Byte) (s : State) : State :=
  let s := (s.ledgerPut 5 st signer).modPart fun p => { p with
    lifecycle := st, owner := if st = 2 ∧ !allZero pub then some (sha512 pub) else p.owner,
    ownerVoid := p.ownerVoid || st == 4, pendingProfile := if st = 4 then none else p.pendingProfile,
    deviceSecret := if st = 5 then List.replicate 32 0xFF else p.deviceSecret }
  if st = 4 then s.modFlash fun f => { f with keys := {} } else s

/-- A KEY token's effect on the content-key area; none: the tag check fails. -/
def State.keyToken (x : List Byte) (s : State) : Option State :=
  let i := getU x 0 1
  let area := s.flash.keys.read.getD (List.replicate 8 none)
  if getU x 1 1 = 1 then some (s.modFlash fun f => { f with keys := f.keys.write (area.set i none) })
  else
    let k : WrappedKey := { wrapped := slice x 8 32, iv := slice x 40 12, tag := slice x 52 16 }
    match Config.aesGcmOpen s.part.transportKey k.iv k.wrapped k.tag with
    | none => none
    | some _ => some (s.modFlash fun f => { f with
        keys := f.keys.write (area.set i (some k)), keyInstalls := f.keyInstalls.modify i (· + 1) })

/-- What an accepted LIFECYCLE_SET token does. -/
def State.tokenEffect (b : List Byte) (s : State) : Option State :=
  let x := tokBody b
  match tokKind b with
  | 1 => some (s.lifecycleTo (getU x 0 1) (slice x 8 32) (tokSigner b))
  | 4 => some ((s.ledgerPut 6 0 (tokSigner b)).modPart fun p => { p with revokedA := true })
  | 5 => s.keyToken x
  | _ => some (s.modPart fun p => { p with owner := some (sha512 (x.take 32)) })

/-- LIFECYCLE_SET: the effect, the wipe of the secure region, the response, then the reset (R277, R446). -/
def bodyLifecycleSet (c : Cmd) (s : State) : State :=
  s.shape c 0 [] fun s =>
    s.need c (s.devIn [0]) 0x0201 fun s =>
      match s.tokenBad [1, 4, 5, 6] c.bulk with
      | some st => s.refuse c st
      | none => match s.tokenEffect c.bulk with
        | none => s.refuse c 0x0501
        | some s => ((s.wipeSecure.accept c).mailboxResponse c.fn c.slot).warmReset 0x0906

/-- LIFECYCLE_SET (R446). -/
def execLifecycleSet (fn slot : Nat) (t : Nat) (s : State) : Host.Outcome State Fault Refusal :=
  ranAt (slotOk fn slot) t s (runCmd 0x0906 fn slot bodyLifecycleSet)

/-- LEDGER_READ: the committed entries, oldest first. -/
def bodyLedgerRead (c : Cmd) (s : State) : State :=
  s.shape c 0 [] fun s => s.deliverCounted c (s.part.ledgerOrder.flatMap ledgerBytes)

/-- LEDGER_READ (R450). -/
def execLedgerRead (fn slot : Nat) (t : Nat) (s : State) : Host.Outcome State Fault Refusal :=
  ranAt (slotOk fn slot) t s (runCmd 0x0908 fn slot bodyLedgerRead)

end Sys2Proof.Machine
end

