-- ==== Sys2Proof/Machine/Fabric.lean ====
section
/-!
DEFINITION. Sys2Proof/Machine/Fabric.lean: the Zerelet link layer (R374-R378, R393), the census (R379-R385) and what
arrives from other nodes (R387, R390, R391). The byte layout of control messages is the model's own (log entry 35).
-/
namespace Sys2Proof

/-- The 252 bytes of a flit that its CRC covers (Table 16.2). -/
def Flit.bytes (f : Flit) : List Byte :=
  let c (i : Nat) : Nat := f.credits.getD i 0 % 16
  Machine.le 1 f.vc ++ Machine.le 1 f.kind ++ Machine.le 1 f.src ++ Machine.le 1 f.dst ++ Machine.le 2 f.lseq ++
    Machine.le 2 f.lack ++ Machine.le 8 f.sendTime ++ Machine.le 2 f.len ++
    Machine.le 2 (c 0 + 16 * c 1 + 256 * c 2 + 4096 * c 3) ++ Machine.le 4 f.msg ++ Machine.fit 228 f.payload

/-- A flit with its CRC formed (R375). -/
def Flit.sealed (f : Flit) : Flit := { f with crc := Machine.crc32Ieee f.bytes }

/-- The CRC of a received flit holds (R376). -/
def Flit.crcOk (f : Flit) : Bool := f.crc == Machine.crc32Ieee f.bytes

end Sys2Proof

namespace Sys2Proof.Machine

/-! ## The link layer -/

/-- This device's ID in an assignment: the node at which its own hash stands, 0xFF for none. -/
def State.ownId (s : State) (r : RouteMsg) : Nat :=
  ((List.range 64).find? fun i => !(r.hashes.getD i []).isEmpty && r.hashes.getD i [] == s.part.certHash).getD 0xFF

/-- The node ID at which the device sends and receives: in VERIFY that of the assignment being verified (R381, R383). -/
def State.address (s : State) : Nat := match s.fabric.census, s.fabric.routeMsg with
  | 3, some r => s.ownId r
  | _, _ => s.fabric.nodeId

/-- Kinds of Table 16.2. -/
abbrev kindCredit : Nat := 4
abbrev kindNack : Nat := 5
/-- Link sequence number `a` is at or beyond `b`. -/
def seqReached (a b : Nat) : Bool := decide ((a + 65536 - b % 65536) % 65536 < 32768)

/-- A port can send a flit on a VC: it is up, it holds a credit, the replay buffer has room, and VCs 1 to 3 are open only
in census state ACTIVE (R376, R377, R384). -/
def State.portReady (s : State) (i vc : Nat) : Bool :=
  let p := s.port i
  p.up && decide (1 ≤ (p.credits.getD vc (0, 0)).1) && decide (p.unacked.length < 512) && (vc == 0 || s.fabric.census == 4)

/-- Credits returned in one flit: at most 15 per VC (Table 16.2). -/
def owedNow (l : List Nat) : List Nat := l.map (min · 15)
def owedLeft (l : List Nat) : List Nat := l.map (· - 15)

/-- A flit leaves a port: hop fields rewritten, one credit spent, kept for replay (R375-R377). -/
def State.portSend (i : Nat) (f : Flit) (s : State) : State :=
  (s.selEvent 2 0 0x42 (i + 4 * f.vc + 128) 0xFFFF 0xFFFF f.len).modPort i fun p =>
    let g : Flit := Flit.sealed { f with
      lseq := (p.txSeq + 1) % 65536, lack := p.rxSeq, credits := owedNow p.owed, sendTime := s.time.now }
    { p with
      txSeq := (p.txSeq + 1) % 65536, owed := owedLeft p.owed, unacked := p.unacked ++ [{ flit := g }],
      credits := p.credits.modify f.vc fun c => (c.1 - 1, c.2 + 1),
      creditTimes := p.creditTimes.modify f.vc (· ++ [s.time.now]) }

/-- The port toward a node (R382). -/
def State.portTo (s : State) (dst : Nat) : Option Nat := (s.fabric.nextHop.find? (·.1 == dst)).map (·.2.2)

/-- The flits that a port's transmit queue holds for one VC leave while they can. -/
def State.drainVc (i vc : Nat) (s : State) : State :=
  (s.port i).tx.foldl (init := s.modPort i fun p => { p with tx := [] }) fun s f =>
    if f.vc = vc ∧ s.portReady i vc = true then s.portSend i f else s.modPort i fun p => { p with tx := p.tx ++ [f] }

/-- Flits of one VC that wait in a receive buffer to be relayed go on; each returns its credit as it leaves (R377,
R378). -/
def State.relayVc (i vc : Nat) (s : State) : State :=
  let leave (f : Flit) (s : State) : State := s.modPort i fun p => { p with owed := p.owed.modify f.vc (· + 1) }
  let keep (f : Flit) (s : State) : State := s.modPort i fun p => { p with rx := p.rx ++ [f] }
  (s.port i).rx.foldl (init := s.modPort i fun p => { p with rx := [] }) fun s f =>
    if f.vc ≠ vc then keep f s
    else match s.portTo f.dst with
      | none => leave f s
      | some o => if s.portReady o f.vc then leave f (s.portSend o f) else keep f s

/-- Everything that can leave the ports leaves them, VCs in the order control, harvest, brine, candidate; on one VC the flits
that are relayed go before the device's own (R377; log entry 75). -/
def State.pump (s : State) : State :=
  [0, 3, 1, 2].foldl (init := s) fun s vc =>
    (List.range 4).foldl (init := (List.range 4).foldl (init := s) fun s i => s.relayVc i vc) fun s i => s.drainVc i vc

/-- A link-level flit, which needs no credit and stands in no replay buffer (R376, R377): its LACK, the credits it returns
and its send time, kept as the port's last one. -/
def State.linkFlit (i kind : Nat) (s : State) : State :=
  s.modPort i fun p =>
    let f : Flit := Flit.sealed {
      crc := 0, vc := 0, kind := kind, src := s.address, dst := 0xFE, lseq := p.txSeq, lack := p.rxSeq,
      sendTime := s.time.now, len := 0, credits := owedNow p.owed, msg := 0, payload := [] }
    { p with owed := owedLeft p.owed, linkOut := some f }

/-- A control message as the single-flit messages that carry it: one of more than 228 bytes (a REPORT, a ROUTE) goes in
parts of 224 bytes, each with its number and the count of parts (Tables 16.2 and 16.3; log entry 35). -/
def controlParts (body : List Byte) : List (List Byte) :=
  let n := ceilDiv body.length 224
  if body.length ≤ 228 then [body]
  else (List.range n).map fun k => [0x2B] ++ le 1 k ++ le 1 n ++ slice body (224 * k) 224

/-- A control message is sent on ports, under one message number per flit (R375, R377). -/
def State.controlTo (ports : List Nat) (dst : Nat) (body : List Byte) (s : State) : State :=
  let part (s : State) (b : List Byte) : State :=
    let f : Flit := {
      crc := 0, vc := 0, kind := 0, src := s.address, dst := dst, lseq := 0, lack := 0, sendTime := 0, len := b.length,
      credits := [], msg := s.fabric.nextId 0, payload := b }
    ports.foldl (init := s.modFabric (Fabric.useId 0)) fun s i => s.modPort i fun p => { p with tx := p.tx ++ [f] }
  ports.foldl (init := (controlParts body).foldl part s) fun s i => s.drainVc i 0

/-- A control message floods every up port but one (R380). -/
def State.flood (but : Nat) (body : List Byte) (s : State) : State :=
  s.controlTo ((List.range 4).filter fun i => (s.port i).up && i != but) 0xFF body

/-- Acknowledged flits leave the replay buffer, and returned credits are taken (R376, R377). -/
def Port.acknowledge (f : Flit) (p : Port) : Port :=
  let left := p.unacked.filter fun u => !seqReached f.lack u.flit.lseq
  let take (i : Nat) (c : Nat × Nat) : Nat × Nat :=
    let k := min (f.credits.getD i 0) c.2
    (c.1 + k, c.2 - k)
  { p with
    unacked := left, retrying := p.retrying && !left.isEmpty,
    credits := (List.range 4).map fun i => take i (p.credits.getD i (0, 0)),
    creditTimes := (List.range 4).map fun i => (p.creditTimes.getD i []).drop (f.credits.getD i 0) }

/-- The stamp record of a control flit or of a message's first flit (R393, Table 16.9). -/
def State.stamp (i : Nat) (f : Flit) (s : State) : State :=
  if bit (getU s.obs.traceConf 2 2) 0 && (f.vc == 0 || f.kind ≤ 1) then
    s.trace 4 0xFF 0xD (le 1 i ++ le 1 f.vc ++ le 1 (s.port i).neighbourId ++ le 1 f.kind ++
      le 4 (if f.kind ≥ 4 then 0 else f.msg) ++ le 8 f.sendTime ++ le 8 s.time.now ++ le 4 s.fabric.epoch ++ zeros 4)
  else s

/-! ## The census -/

/-- Node-ID binding of this part (R381, Table 19.9). -/
def State.boundId (s : State) : Nat := s.part.ledgerValue 2 0xFF
/-- This device's own REPORT (Table 16.4). -/
def State.ownReport (s : State) (epoch : Nat) : CensusReport := {
  epoch := epoch, hash := s.part.certHash, bound := s.boundId,
  neighbours := s.fabric.ports.map fun p => if p.up then p.neighbour else [] }
/-- A REPORT as a control message. -/
def reportBody (r : CensusReport) : List Byte :=
  [0x52] ++ le 4 r.epoch ++ r.hash ++ le 1 r.bound ++ r.neighbours.flatMap fun h => fit 64 h

/-- A session spans devices (R385): its world is a home world of the shard table, or a stream of it is farmed (log
entry 36). -/
def State.spans (s : State) (i : Nat) : Bool :=
  (match (s.ses i).world with
    | some w => s.isHomeWorld w
    | none => false)
  || s.streams.any fun x => x.session == i && s.farming.farms.any fun e => e.stream == x.id

/-- A port at the start of COLLECT: in-flight flits and credits of VCs 1 to 3 are settled, and nothing of them waits
(R384). -/
def Port.settle (p : Port) : Port :=
  { p with
    tx := p.tx.filter fun f => f.vc == 0, rx := p.rx.filter fun f => f.vc == 0,
    unacked := p.unacked.filter fun u => u.flit.vc == 0,
    credits := p.credits.take 1 ++ [(256, 0), (512, 0), (128, 0)],
    creditTimes := p.creditTimes.take 1 ++ [[], [], []], owed := p.owed.take 1 ++ [0, 0, 0] }

/-- Own messages of which some flit is among `l` are to be sent again whole (R384). -/
def State.unsend (l : List Flit) (s : State) : State :=
  s.modFabric fun f => { f with msgs := f.msgs.map fun m =>
    if m.sent && (l.any fun g => g.src == f.nodeId && g.vc == m.vc && g.msg == m.id) then { m with sent := false } else m }

/-- The flits of a port that have not surely arrived. -/
def Port.held (p : Port) : List Flit := p.tx ++ p.unacked.map (·.flit)

/-- FAB_CENSUS commands that wait. -/
def State.waitingCensus (s : State) : List (Nat × Nat) :=
  (s.mbx.cmds.filter fun c => c.opcode == 0x0A03 && c.stage == .waiting && c.response.isNone).map fun c => (c.fn, c.slot)

/-- A census of an epoch starts in COLLECT (R379, R384, R385). Messages partly sent will be sent again whole. A census that
takes the place of one under way keeps the trigger that came during it, and answers the same commands. -/
def State.startCensus (epoch : Nat) (repeated : Bool) (s : State) : State :=
  let replaces := s.inCensus
  let s := s.unsend (s.fabric.ports.flatMap (·.tx))
  let s := s.modFabric fun f => { f with
    census := 1, epoch := epoch, highestEpoch := max f.highestEpoch epoch, censusStart := s.time.now,
    quietSince := s.time.now, repeated := repeated, again := f.again && replaces,
    answers := if replaces then f.answers else s.waitingCensus, reports := [s.ownReport epoch], routeMsg := none,
    verified := [], ports := f.ports.map Port.settle }
  let s := s.modFarming fun f =>
    { f with shardsCensus := f.shardsCensus || f.pendingShards.isSome, farmsCensus := f.farmsCensus || f.pendingFarms.isSome }
  let running := (List.range 16).any fun i => (s.ses i).state == 3 && s.spans i
  let s := if s.frame.devState = 1 ∧ running then s.modReq fun r => { r with autoPause := true } else s
  s.flood 4 (reportBody (s.ownReport epoch))

/-- The U32 epoch of a new census, one more than the highest seen (R379). -/
def State.nextEpoch (s : State) : Nat := (s.fabric.highestEpoch + 1) % 2 ^ 32

/-- Waiting commands are answered. -/
def State.acceptAll (l : List (Nat × Nat)) (s : State) : State :=
  l.foldl (init := s) fun s k => match s.cmd? k.1 k.2 with
    | some c => if c.stage = .waiting ∧ c.response = none then s.accept c else s
    | none => s

/-- A trigger of R379: a new census, or one more once the current one ends; none while every port is disabled (state
OFF, Table 16.4). -/
def State.censusTrigger (s : State) : State :=
  if s.inCensus then s.modFabric fun f => { f with again := true }
  else if s.fabric.ports.any (·.enabled) then s.startCensus s.nextEpoch false
  else
    let l := s.waitingCensus
    (s.modFabric fun f => { f with
      census := 0, nodeId := 0xFF, bound := false, nodes := 0, nextHop := [], again := false }).acceptAll l

/-- A census ends: the FAB_CENSUS commands that were waiting when it began are answered, and the census starts that triggers
asked for meanwhile (R352, R379). -/
def State.censusEnd (s : State) : State :=
  let l := s.fabric.answers
  let s := (s.modFabric fun f => { f with
    censusCount := f.censusCount + 1, lastCensus := s.time.now, answers := [] }).acceptAll l
  s.when_ s.fabric.again State.censusTrigger

/-- FAILED (Table 16.4): VCs 1 to 3 stay shut, and a WARNING goes out whose CODE the manual does not give. A device that the
census paused stays paused until RESUME (R385). -/
def State.censusFailed (s : State) : State :=
  (((s.modFabric fun f => { f with census := 5 }).modReq fun r => { r with autoPaused := false }).warnFree 0xFF []).censusEnd

/-- Hashes compare as unsigned numbers, byte 0 most significant (R381). -/
def hashLt : List Byte → List Byte → Bool
  | _, [] => false
  | [], _ => true
  | a :: r, b :: q => decide (a < b) || a == b && hashLt r q

/-- The reports of a census in ascending hash order. -/
def sortReports (l : List CensusReport) : List CensusReport := sortBy (fun a b => hashLt a.hash b.hash) l

/-- Node IDs of R381 for reports in ascending hash order: (hash, node ID). -/
def assignIds (l : List CensusReport) : List (List Byte × Nat) :=
  let bound := l.foldl (init := ([] : List (List Byte × Nat))) fun acc r =>
    if r.bound < 64 && !(acc.any fun x => x.2 == r.bound) then acc ++ [(r.hash, r.bound)] else acc
  l.foldl (init := bound) fun acc r =>
    if acc.any fun x => x.1 == r.hash then acc else acc ++ [(r.hash, leastFree (acc.map (·.2)) 0 64)]

/-- The node with a hash. -/
def nodeOf (ids : List (List Byte × Nat)) (h : List Byte) : Nat := ((ids.find? fun x => x.1 == h).map (·.2)).getD 0xFF

/-- One step of the breadth-first distances to a node. -/
def distStep (adj : List (List Nat)) (d : List (Option Nat)) : List (Option Nat) :=
  (List.range d.length).map fun x => match d.getD x none with
    | some k => some k
    | none =>
      let ks := (adj.getD x []).filterMap fun y => d.getD y none
      if ks.isEmpty then none else some (ks.foldl min 64 + 1)

/-- Hop distances to node `b`, up to 8 (R382). -/
def distTo (adj : List (List Nat)) (b : Nat) : List (Option Nat) :=
  (List.range 8).foldl (fun d _ => distStep adj d) ((List.range 64).map fun x => if x = b then some 0 else none)

/-- The next hop and port of node `a` toward `b` (R382). -/
def hopTo (adj : List (List Nat)) (a b : Nat) : Option (Nat × Nat × Nat) :=
  let d := distTo adj b
  let row := adj.getD a []
  let best := row.foldl (init := (none : Option (Nat × Nat))) fun acc n =>
    match d.getD n none, acc with
    | none, _ => acc
    | some k, none => some (k, n)
    | some k, some (k', n') => if k < k' ∨ (k = k' ∧ n < n') then some (k, n) else acc
  best.bind fun x => (row.findIdx? (· == x.2)).map fun p => (b, x.2, p)

/-- The nodes of an assignment. -/
def routeNodes (r : RouteMsg) : List Nat := (List.range 64).filter fun i => !(r.hashes.getD i []).isEmpty

/-- The next-hop table of node `a` (R382). -/
def routeHops (r : RouteMsg) (a : Nat) : List (Nat × Nat × Nat) :=
  ((routeNodes r).filter (· != a)).filterMap fun b => hopTo r.adjacency a b

/-- The bytes that the table hash covers: epoch, 64 hashes, 4 neighbour IDs per node; an absent node reads 0 and 0xFF
(R382; log entry 35). -/
def routeTable (r : RouteMsg) : List Byte :=
  le 4 r.epoch ++ ((List.range 64).flatMap fun i => fit 64 (r.hashes.getD i [])) ++
    (List.range 64).flatMap fun i => (List.range 4).flatMap fun k => le 1 ((r.adjacency.getD i []).getD k 0xFF)

/-- The ROUTE message of a collected set (R381, R382). -/
def routeOf (epoch : Nat) (reports : List CensusReport) : RouteMsg :=
  let l := (sortReports reports).take 64
  let ids := assignIds l
  let at_ (i : Nat) : Option CensusReport := l.find? fun r => nodeOf ids r.hash == i
  let hashes := (List.range 64).map fun i => ((at_ i).map (·.hash)).getD []
  let adj := (List.range 64).map fun i => match at_ i with
    | some r => r.neighbours.map fun h => if h.isEmpty then 0xFF else nodeOf ids h
    | none => [0xFF, 0xFF, 0xFF, 0xFF]
  let r : RouteMsg := { epoch := epoch, hashes := hashes, adjacency := adj, tableHash := [] }
  { r with tableHash := hash8 (routeTable r) }

/-- Every ordered pair of nodes is within 8 hops (R382). -/
def routeWithin8 (r : RouteMsg) : Bool :=
  (routeNodes r).all fun b => let d := distTo r.adjacency b; (routeNodes r).all fun a => (d.getD a none).isSome

/-- A ROUTE as a control message (R382). -/
def routeBody (r : RouteMsg) : List Byte := [0x54] ++ routeTable r ++ r.tableHash

/-- The table hash of a ROUTE message holds. -/
def routeSealed (r : RouteMsg) : Bool := hash8 (routeTable r) == r.tableHash

/-- The checks of R383 on a ROUTE message. -/
def State.routeOk (s : State) (r : RouteMsg) : Bool :=
  let a := s.ownId r
  let seen := s.fabric.ports.map fun p => if p.up then (((routeNodes r).find? fun i => r.hashes.getD i [] == p.neighbour).getD 0xFF) else 0xFF
  routeSealed r && a != 0xFF && r.adjacency.getD a [] == seen
    && (routeHops r a).length + 1 == (routeNodes r).length

/-- The leader's node ID: the lowest hash of the assignment (R381). -/
def routeLeader (r : RouteMsg) : Nat :=
  ((routeNodes r).foldl (init := (none : Option Nat)) fun acc i => match acc with
    | none => some i
    | some j => if hashLt (r.hashes.getD i []) (r.hashes.getD j []) then some i else some j).getD 0xFF

/-- A message is the one of a VC and number. -/
def FabMsg.same (vc id : Nat) (m : FabMsg) : Bool := m.vc == vc && m.id == id

/-- A waiting message is changed. -/
def State.modMsg (vc id : Nat) (g : FabMsg → FabMsg) (s : State) : State :=
  s.modFabric fun f => { f with msgs := f.msgs.map fun m => if m.same vc id then g m else m }

/-- What R384 drops: brine is answered STATE_ILLEGAL, a farm request counts FARM_REFUSED (R387, R390). -/
def State.dropMsg (m : FabMsg) (s : State) : State :=
  let s := s.modFabric fun f => { f with msgs := f.msgs.filter fun x => !(x.same m.vc m.id) }
  match m.cmd with
  | some (fn, slot) => match s.cmd? fn slot with
    | some c => (s.refuse c 0x0201).freeLanding c
    | none => s
  | none => if m.vc = 2 then s.bumpHub 10 else s

/-- Messages of VCs 1 to 3 ask for their grant once the census is ACTIVE; one whose destination is not reachable then is
dropped (R378, R384, R387). -/
def State.requestGrants (s : State) : State :=
  if s.fabric.census = 4 then
    (s.fabric.msgs.filter fun m => m.vc != 0 && !m.requested).foldl (init := s) fun s m =>
      match s.portTo m.dst with
      | some p => (s.modMsg m.vc m.id fun x => { x with requested := true }).controlTo [p] m.dst
          ([0x47] ++ le 1 m.vc ++ le 4 m.id ++ le 4 m.body.length)
      | none => s.dropMsg m
  else s

/-- Control messages waiting as messages go out: broadcasts on every port, others toward their node. -/
def State.sendControl (s : State) : State :=
  let ctl := s.fabric.msgs.filter fun m => m.vc == 0
  let s := s.modFabric fun f => { f with msgs := f.msgs.filter fun m => m.vc != 0 }
  ctl.foldl (init := s) fun s m =>
    if m.dst = 0xFF then s.flood 4 m.body
    else match s.portTo m.dst with
      | some p => s.controlTo [p] m.dst m.body
      | none => s

/-- The flits of a message (R375). -/
def msgFlits (src : Nat) (m : FabMsg) : List Flit :=
  let n := max 1 (ceilDiv m.body.length 228)
  (List.range n).map fun i => {
    crc := 0, vc := m.vc, kind := if n = 1 then 0 else if i = 0 then 1 else if i + 1 = n then 3 else 2, src := src,
    dst := m.dst, lseq := 0, lack := 0, sendTime := 0, len := min 228 (m.body.length - 228 * i), credits := [], msg := m.id,
    payload := slice m.body (228 * i) 228 }

/-- A granted message is sent on its VC while the census is ACTIVE (R378, R384). -/
def State.sendGranted (s : State) : State :=
  if s.fabric.census = 4 then
    ((s.fabric.msgs.filter fun m => m.granted && !m.sent).foldl (init := s) fun s m =>
      match s.portTo m.dst with
      | none => s
      | some p =>
        let s := (s.modMsg m.vc m.id fun x => { x with sent := true }).modFabric fun f => { f with msgs := f.msgs.filter fun x =>
          !(x.sent && x.cmd.isNone && !(x.same m.vc m.id) &&
            !(f.ports.any fun q => q.held.any fun g => g.vc == x.vc && g.msg == x.id)) }
        s.modPort p fun q => { q with tx := q.tx ++ msgFlits s.fabric.nodeId m }).pump
  else s

/-- Whatever may leave now leaves. -/
def State.fabricGo (s : State) : State := s.sendControl.requestGrants.sendGranted.pump

/-- A device that the census paused, and that no host has paused, resumes on its own FRT lattice (R385). -/
def State.autoResume (s : State) : State :=
  let s := s.modReq fun r => { r with autoPause := false }
  if s.frame.devState = 2 ∧ s.req.autoPaused ∧ !s.req.hostPaused then
    let p := s.frame.conf.period * ticksPerUs
    let first := s.nextFrt
    let earliest := s.time.now + 1000 * ticksPerUs
    let t0 := if earliest ≤ first then first else first + ceilDiv (earliest - first) p * p
    ((s.startGrid t0 1).modFrame fun f => { f with resumeNext := true }).modReq fun r => { r with autoPaused := false }
  else s

/-- The census is ACTIVE: assignment and routes in force, messages to nodes that left dropped (R380, R384, R385). BOUND tells
of the binding that this census reported (R381). -/
def State.censusActive (r : RouteMsg) (s : State) : State :=
  let a := s.ownId r
  let s := s.modFabric fun f => { f with
    census := 4, nodeId := a, bound := f.reports.any fun x => x.hash == s.part.certHash && x.bound == a, leader := routeLeader r, nodes := (routeNodes r).length,
    nextHop := routeHops r a,
    ports := (List.range 4).map fun i => { f.ports.getD i {} with neighbourId := (r.adjacency.getD a []).getD i 0xFF } }
  let gone := s.fabric.msgs.filter fun m => m.dst != 0xFF && !((routeNodes r).contains m.dst)
  let s := gone.foldl (init := s) fun s m => s.dropMsg m
  s.autoResume.fabricGo.censusEnd

/-- The leader takes one verify answer of its census; the last VERIFY_OK makes it broadcast ENABLE, a VERIFY_FAIL repeats the
census once (R379, R383). A device that finds itself at no ID answers as node 0xFF. -/
def State.verifyOk (node : Nat) (v : VerifyAnswer) (s : State) : State :=
  match s.fabric.routeMsg with
  | none => s
  | some r =>
    if s.fabric.census ≠ 3 ∨ routeLeader r ≠ s.ownId r ∨ v.epoch ≠ s.fabric.epoch then s
    else if !v.ok then (if s.fabric.repeated then s.censusFailed else s.startCensus s.nextEpoch true)
    else if !(routeNodes r).contains node then s
    else
      let s := s.modFabric fun f => { f with verified := insertAsc node f.verified }
      if (routeNodes r).all fun i => s.fabric.verified.contains i then (s.flood 4 ([0x45] ++ le 4 r.epoch)).censusActive r else s

/-- A ROUTE message is checked and answered (R382, R383). A distance beyond 8 hops, and a device left out of a full
assignment, are FAILED (R381, R382). The leader's own answer counts at once, any other goes to the leader; a device without a
route of its own sends it to its neighbours (log entry 35). -/
def State.takeRoute (r : RouteMsg) (s : State) : State :=
  let a := s.ownId r
  if (routeSealed r && !routeWithin8 r) || (a == 0xFF && decide (64 ≤ (routeNodes r).length)) then s.censusFailed
  else
    let ok := s.routeOk r
    let s := s.modFabric fun f => { f with census := 3, routeMsg := some r, nextHop := routeHops r a }
    if routeLeader r = a then s.verifyOk a ⟨r.epoch, ok⟩
    else
      let ports := match s.portTo (routeLeader r) with
        | some p => [p]
        | none => (List.range 4).filter fun i => (s.port i).up
      s.controlTo ports (routeLeader r) ([0x56] ++ le 4 r.epoch ++ le 1 a ++ le 1 (flag ok 0))

/-- Every hash named in a report has a report of its own. -/
def State.collected (s : State) : Bool :=
  s.fabric.reports.all fun r => r.neighbours.all fun h => h.isEmpty || s.fabric.reports.any fun x => x.hash == h

/-- COLLECT ends: the leader assigns IDs, computes the routes and broadcasts ROUTE (R380-R382). -/
def State.collectEnd (s : State) : State :=
  if s.fabric.census = 1 ∧ s.collected ∧ s.fabric.quietSince + 20 * ticksPerUs ≤ s.time.now then
    let s := s.modFabric fun f => { f with census := 2 }
    let lead := (sortReports s.fabric.reports).head?.map (·.hash)
    if lead = some s.part.certHash then
      let r := routeOf s.fabric.epoch s.fabric.reports
      (s.flood 4 (routeBody r)).takeRoute r
    else s
  else s

/-! ## Rows of the links -/

/-- A port is lowered: nothing of it stays in flight, and messages of which it held flits are to be sent again (R384). -/
def State.lowerPort (i : Nat) (enabled : Bool) (s : State) : State :=
  (s.unsend (s.port i).held).modPort i fun p =>
    { ({} : Port) with enabled := enabled, replays := p.replays, crcFail := p.crcFail }

/-- A port goes down, and a census starts (R376, R379). -/
def State.portDown (i : Nat) (s : State) : State :=
  if (s.port i).up then (s.lowerPort i (s.port i).enabled).censusTrigger else s

/-- PORT_DOWN (R379). -/
def execPortDown (port : Nat) (t : Nat) (s : State) : Host.Outcome State Fault Refusal :=
  ranAt (below port 4) t s (State.portDown port)

/-- A port trains on four lanes: up unless its round trip exceeds 1.5 µs (Table 16.1). -/
def State.portUp (i rtt : Nat) (neighbour : List Byte) (nid : Nat) (s : State) : State :=
  let p := s.port i
  s.when_ (p.enabled && !p.up && decide (rtt ≤ 300)) fun s =>
    (s.modPort i fun p => { ({} : Port) with
      enabled := true, up := true, replays := p.replays, crcFail := p.crcFail, rtt := rtt, neighbour := neighbour,
      neighbourId := nid }).censusTrigger

/-- PORT_UP (R374). -/
def execPortUp (port : Nat) (rtt : Nat) (neighbour : List Byte) (neighbourId : Nat) (t : Nat) (s : State) :
    Host.Outcome State Fault Refusal :=
  ranAt (below port 4 && below neighbourId 256) t s (State.portUp port rtt neighbour neighbourId)

/-- Flits go out again in order, with identical bytes apart from the hop fields (R375, R376). -/
def Port.resend (now : Nat) (l : List Unacked) (p : Port) : Port :=
  l.foldl (init := { p with unacked := [] }) fun p u =>
    let f : Flit := Flit.sealed { u.flit with lack := p.rxSeq, credits := owedNow p.owed, sendTime := now }
    { p with owed := owedLeft p.owed, unacked := p.unacked ++ [{ flit := f, replays := u.replays + 1 }] }

/-- Go-back-N replay from LACK + 1; the eighth replay of an unacknowledged flit takes the port down (R376). -/
def State.nackReceive (i lack : Nat) (s : State) : State :=
  if (s.port i).up then
    let s := s.modPort i fun p =>
      let left := p.unacked.filter fun u => !seqReached lack u.flit.lseq
      { p.resend s.time.now left with
        retrying := !left.isEmpty, replays := if left.isEmpty then p.replays else satU 16 (p.replays + 1) }
    if (s.port i).unacked.isEmpty then s
    else
      let r := (s.bumpHub (6 + i)).fresh
      let s := r.2.timingEvent 5 0xFF 0xFF (r.1.toNat % 2 ^ 32)
      if (s.port i).unacked.any fun u => decide (u.replays ≥ 8) then s.portDown i else s
  else s

/-- NACK_RECEIVE (R376). -/
def execNackReceive (port lack : Nat) (t : Nat) (s : State) : Host.Outcome State Fault Refusal :=
  ranAt (below port 4 && below lack 65536) t s (State.nackReceive port lack)

/-- One NACK for a run of discarded flits (R376). -/
def State.nackOnce (i : Nat) (s : State) : State :=
  if (s.port i).nacked then s else (s.modPort i fun p => { p with nacked := true }).linkFlit i kindNack

/-- A flit arrives (R375-R378): CRC and LSEQ, acknowledgement and credits, then delivery or relay. -/
def State.flitReceive (i : Nat) (f : Flit) (s : State) : State :=
  let p := s.port i
  if !p.up then s
  else if !f.crcOk then (s.modPort i fun p => { p with crcFail := satU 16 (p.crcFail + 1) }).nackOnce i
  else if f.kind ≥ kindCredit then
    let s := (s.modPort i (Port.acknowledge f)).stamp i f
    (if f.kind = kindNack then s.nackReceive i f.lack else s).fabricGo
  else if f.lseq ≠ (p.rxSeq + 1) % 65536 then s.nackOnce i
  else
    let s := s.modPort i fun p => { Port.acknowledge f p with rxSeq := f.lseq, nacked := false }
    let s := (s.selEvent 2 0 0x42 (i + 4 * f.vc) 0xFFFF 0xFFFF f.len).stamp i f
    let mine := f.dst == s.address || f.dst == 0xFE || f.dst == 0xFF
    (if mine then s.modPort i fun p => { p with owed := p.owed.modify f.vc (· + 1) }
     else s.modPort i fun p => { p with rx := p.rx ++ [f] }).fabricGo

/-- FLIT_RECEIVE (R376). -/
def execFlitReceive (port : Nat) (flit : Flit) (t : Nat) (s : State) : Host.Outcome State Fault Refusal :=
  ranAt (below port 4 && below flit.vc 4) t s (State.flitReceive port flit)

/-- With no flit pending, owed credits go out in a CREDIT flit (R377). -/
def State.creditFlit (i : Nat) (s : State) : State :=
  let p := s.port i
  s.when_ (p.up && p.tx.isEmpty && p.owed.any fun n => decide (n > 0)) fun s => s.linkFlit i kindCredit

/-- CREDIT_FLIT (R377). -/
def execCreditFlit (port : Nat) (t : Nat) (s : State) : Host.Outcome State Fault Refusal :=
  ranAt (below port 4) t s (State.creditFlit port)

/-- The answer to a GRANT request arrives (R378). A farm request whose grant is refused is not sent and counts FARM_REFUSED
(R390); another message whose grant is refused asks again (log entry 75). -/
def State.grant (g : GrantAnswer) (s : State) : State :=
  match s.fabric.msgs.find? fun m => m.same g.vc g.msg && m.requested && !m.granted with
  | none => s
  | some m =>
    if g.granted then (s.modMsg g.vc g.msg fun m => { m with granted := true }).sendGranted
    else if g.vc = 2 then s.dropMsg m
    else s.modMsg g.vc g.msg fun m => { m with requested := false }

/-- GRANT (R378). -/
def execGrant (msg : GrantAnswer) (t : Nat) (s : State) : Host.Outcome State Fault Refusal :=
  ranAt (below msg.vc 4) t s (State.grant msg)

/-- Every port sends a PING on the control VC once every 1,024 µs (R393). -/
def State.ping (i : Nat) (s : State) : State :=
  let due := match (s.port i).pinged with
    | none => true
    | some p => decide (p + 1024 * ticksPerUs ≤ s.time.now)
  s.when_ ((s.port i).up && due) fun s =>
    ((s.modPort i fun p => { p with pinged := some s.time.now }).controlTo [i] 0xFE [0x50]).fabricGo

/-- PING (R393). -/
def execPing (port : Nat) (t : Nat) (s : State) : Host.Outcome State Fault Refusal :=
  ranAt (below port 4) t s (State.ping port)

/-! ## Rows of the census -/

/-- A HAIL: a neighbour whose hash differs from the one recorded starts a census (R379). -/
def State.hail (i : Nat) (neighbour : List Byte) (s : State) : State :=
  let p := s.port i
  s.when_ (p.up && p.neighbour != neighbour) fun s =>
    (s.modPort i fun p => { p with neighbour := neighbour }).censusTrigger

/-- HAIL (R379). -/
def execHail (port : Nat) (neighbour : List Byte) (t : Nat) (s : State) : Host.Outcome State Fault Refusal :=
  ranAt (below port 4) t s (State.hail port neighbour)

/-- A census message of a higher epoch is joined; a lower one is discarded (R379). -/
def State.joinCensus (epoch : Nat) (s : State) : State :=
  s.when_ (decide (s.fabric.highestEpoch < epoch) && s.fabric.ports.any (·.enabled)) fun s => s.startCensus epoch false

/-- CENSUS_START (R379). -/
def execCensusStart (epoch : Nat) (t : Nat) (s : State) : Host.Outcome State Fault Refusal :=
  ranAt (below epoch (2 ^ 32)) t s (State.joinCensus epoch)

/-- 1 ms after the enabling, with a port enabled and none up, the device runs a census of itself (R379). -/
def State.selfCensus (s : State) : State :=
  match s.fabric.enabledAt with
  | none => s
  | some e =>
    let due := decide (e + 1000 * ticksPerUs ≤ s.time.now) && s.fabric.ports.any (·.enabled) && !s.fabric.ports.any (·.up)
    s.when_ due fun s => (s.modFabric fun f => { f with enabledAt := none }).censusTrigger

/-- SELF_CENSUS (R379). -/
def execSelfCensus (t : Nat) (s : State) : Host.Outcome State Fault Refusal := ranAt true t s State.selfCensus

/-- A REPORT arrives: a new one is kept and re-flooded once (Table 16.4). -/
def State.report (r : CensusReport) (i : Nat) (s : State) : State :=
  let s := s.joinCensus r.epoch
  s.when_ (s.fabric.census == 1 && r.epoch == s.fabric.epoch && !(s.fabric.reports.any fun x => x.hash == r.hash)) fun s =>
    (s.modFabric fun f => { f with reports := f.reports ++ [r], quietSince := s.time.now }).flood i (reportBody r)

/-- REPORT (R380). -/
def execReport (r : CensusReport) (port : Nat) (t : Nat) (s : State) : Host.Outcome State Fault Refusal :=
  ranAt (below port 4 && below r.epoch (2 ^ 32)) t s (State.report r port)

/-- COLLECT_END (R380). -/
def execCollectEnd (t : Nat) (s : State) : Host.Outcome State Fault Refusal := ranAt true t s State.collectEnd

/-- A ROUTE message arrives: the broadcast goes on over the links, and the message is checked (R380, R383; log entry 35). -/
def State.route (r : RouteMsg) (s : State) : State :=
  let s := s.joinCensus r.epoch
  s.when_ ((s.fabric.census == 1 || s.fabric.census == 2) && r.epoch == s.fabric.epoch) fun s =>
    (s.flood 4 (routeBody r)).takeRoute r

/-- ROUTE (R383). -/
def execRoute (r : RouteMsg) (t : Nat) (s : State) : Host.Outcome State Fault Refusal :=
  ranAt (below r.epoch (2 ^ 32)) t s (State.route r)

/-- VERIFY_OK (R383). -/
def execVerifyOk (node : Nat) (ok : VerifyAnswer) (t : Nat) (s : State) : Host.Outcome State Fault Refusal :=
  ranAt (below node 256 && below ok.epoch (2 ^ 32)) t s (State.verifyOk node ok)

/-- ENABLE arrives: the broadcast goes on over the links, and the census is ACTIVE (R380, R385; log entry 35). -/
def State.enable (epoch : Nat) (s : State) : State :=
  match s.fabric.routeMsg with
  | none => s
  | some r => s.when_ (s.fabric.census == 3 && epoch == s.fabric.epoch && r.epoch == epoch) fun s =>
      (s.flood 4 ([0x45] ++ le 4 epoch)).censusActive r

/-- ENABLE (R385). -/
def execEnable (epoch : Nat) (t : Nat) (s : State) : Host.Outcome State Fault Refusal :=
  ranAt (below epoch (2 ^ 32)) t s (State.enable epoch)

/-- A census that has not completed 50 ms after its start fails (R380). -/
def State.censusTimeout (s : State) : State :=
  s.when_ (s.inCensus && decide (s.fabric.censusStart + 50000 * ticksPerUs ≤ s.time.now)) State.censusFailed

/-- CENSUS_TIMEOUT (R380). -/
def execCensusTimeout (t : Nat) (s : State) : Host.Outcome State Fault Refusal := ranAt true t s State.censusTimeout

/-! ## Forwarded brine and farming -/

/-- The command that brine forwarded to this home is from its arrival on (R46, R387). -/
def State.fabricCmd (s : State) (port src : Nat) (urgent : Bool) (world seq : Nat) (records : List Byte) : Cmd := {
  fn := fabricFn, slot := leastFree ((s.mbx.cmds.filter fun c => c.fn == fabricFn).map (·.slot)) 0 65536,
  opcode := if urgent then 0x0402 else 0x0401, flags := port, layerId := src, seq := seq,
  payload := le 1 world ++ zeros 7 ++ records, stage := .ready, admitted := true, order := s.mbx.nextOrder,
  arrival := s.time.now, frame := s.frameFor s.time.now }

/-- Brine forwarded to this home arrives whole: from here it is a command like a local one (R387). -/
def State.fabricBrine (port src : Nat) (urgent : Bool) (world seq : Nat) (records : List Byte) (s : State) : State :=
  if s.frame.devState = 3 then s
  else
    let c := s.fabricCmd port src urgent world seq records
    let s := s.modMbx fun m => { m with cmds := m.cmds ++ [c], nextOrder := m.nextOrder + 1 }
    ((if urgent then bodyBrineUrgent c s else bodyBrine c s).fabricAnswers).fabricGo

/-- FABRIC_BRINE_ARRIVAL (R387). -/
def execFabricBrineArrival (port src : Nat) (urgent : Bool) (world seq : Nat) (records : List Byte) (t : Nat) (s : State) :
    Host.Outcome State Fault Refusal :=
  ranAt (below port 4 && below src 64) t s (State.fabricBrine port src urgent world seq records)

/-- The home's completion becomes the proxy's response (R387). APPLIED and CHECKPOINT of an urgent command are not part
of it: free values. -/
def State.brineCompletion (msg status arg frame : Nat) (s : State) : State :=
  match s.mbx.cmds.find? fun c => c.proxyMsg == some msg && c.response.isNone with
  | none => s
  | some c =>
    let n := match c.recordList with
      | .inr rs => rs.length
      | .inl _ => 0
    let a := s.fresh
    let b := a.2.fresh
    let urgent := c.opcode == 0x0402
    let s := if urgent then b.2 else s
    let payload := if status ≠ 0 then []
      else if urgent then le 8 a.1.toNat ++ le 4 frame ++ le 1 b.1.toNat ++ zeros 3 else le 4 n ++ le 4 frame
    let s := s.respond c { status := status, arg := arg, payload := payload }
    (s.freeLanding c).modFabric fun f => { f with msgs := f.msgs.filter fun m => !(m.same 1 msg) }

/-- BRINE_COMPLETION (R387). -/
def execBrineCompletion (msg status statusArg frame : Nat) (t : Nat) (s : State) : Host.Outcome State Fault Refusal :=
  ranAt true t s (State.brineCompletion msg status statusArg frame)

/-- A farm message is bound to one of this device's frames (R390, R391); replay takes none from live traffic (R300). -/
def State.farmInput (kind port src : Nat) (body : List Byte) (s : State) : State :=
  s.when_ (s.frame.devState != 3) fun s =>
    s.modFarming fun f => { f with inputs := f.inputs ++ [{
      kind := kind, src := src, frame := s.frameFor s.time.now, body := body, world := port, seq := s.time.now }] }

/-- FARM_REQ (R390). -/
def execFarmReq (port src : Nat) (body : List Byte) (t : Nat) (s : State) : Host.Outcome State Fault Refusal :=
  ranAt (below port 4 && below src 64) t s (State.farmInput 0 port src body)

/-- FARM_REPLY (R391). -/
def execFarmReply (port : Nat) (body : List Byte) (t : Nat) (s : State) : Host.Outcome State Fault Refusal :=
  ranAt (below port 4) t s (State.farmInput 1 port (getU body 4 1) body)

end Sys2Proof.Machine
end

