-- ==== Sys2Proof/Machine/FabricCmds.lean ====
section
/-!
DEFINITION. Sys2Proof/Machine/FabricCmds.lean: the fabric group 0x0A (R352, R379, R381, R386, R389).
-/
namespace Sys2Proof.Machine

/-- The FAB_STATUS response. -/
def State.fabStatus (s : State) : List Byte :=
  let f := s.fabric
  let up := sumN ((List.range 4).map fun i => flag (s.port i).up i)
  le 1 f.nodeId ++ le 1 f.leader ++ le 1 f.census ++ le 1 up ++ le 1 f.nodes ++ zeros 3 ++ le 4 f.censusCount ++
    le 8 f.lastCensus ++ zeros 44

/-- FAB_STATUS. -/
def bodyFabStatus (c : Cmd) (s : State) : State := s.shape c 0 [] fun s => s.accept c s.fabStatus

/-- FAB_STATUS (R352). -/
def execFabStatus (fn slot : Nat) (t : Nat) (s : State) : Host.Outcome State Fault Refusal :=
  ranAt (slotOk fn slot) t s (runCmd 0x0A01 fn slot bodyFabStatus)

/-- Links are enabled or lowered; a re-census follows (R352, R379). -/
def State.fabPorts (enable : Nat) (s : State) : State :=
  let newly := (List.range 4).any fun i => bit enable i && !(s.port i).enabled
  let s := (List.range 4).foldl (init := s) fun s i =>
    if bit enable i then s.modPort i fun p => { p with enabled := true } else s.lowerPort i false
  (s.modFabric fun f => { f with enabledAt := if newly then some s.time.now else f.enabledAt }).censusTrigger

/-- FAB_PORTS. -/
def bodyFabPorts (c : Cmd) (s : State) : State :=
  s.shape c 8 [(1, 7)] fun s =>
    s.need c (s.devIn [0, 2]) 0x0201 fun s =>
      s.need c (decide (getU c.payload 0 1 < 16)) 0x0106 fun s => (s.fabPorts (getU c.payload 0 1)).accept c

/-- FAB_PORTS (R352). -/
def execFabPorts (fn slot : Nat) (t : Nat) (s : State) : Host.Outcome State Fault Refusal :=
  ranAt (slotOk fn slot) t s (runCmd 0x0A02 fn slot bodyFabPorts)

/-- FAB_CENSUS: answered at the end of the census it forces; with every port disabled there is none (state OFF). -/
def bodyFabCensus (c : Cmd) (s : State) : State := s.shape c 0 [] fun s => (s.wait c).censusTrigger

/-- FAB_CENSUS (R379). -/
def execFabCensus (fn slot : Nat) (t : Nat) (s : State) : Host.Outcome State Fault Refusal :=
  ranAt (slotOk fn slot) t s (runCmd 0x0A03 fn slot bodyFabCensus)

/-- FAB_ROUTE_READ. -/
def bodyFabRouteRead (c : Cmd) (s : State) : State :=
  s.shape c 0 [] fun s => s.deliverCounted c (Config.routeTable s.fabric.nextHop)

/-- FAB_ROUTE_READ (R352). -/
def execFabRouteRead (fn slot : Nat) (t : Nat) (s : State) : Host.Outcome State Fault Refusal :=
  ranAt (slotOk fn slot) t s (runCmd 0x0A04 fn slot bodyFabRouteRead)

/-- FAB_NODE_BIND: the binding goes to the ledger; 0xFF unbinds (Table 19.9). -/
def bodyFabNodeBind (c : Cmd) (s : State) : State :=
  let n := getU c.payload 0 1
  s.shape c 8 [(1, 7)] fun s =>
    s.need c (s.devIn [0]) 0x0201 fun s =>
      s.need c (decide (n < 64) || n == 0xFF) 0x0106 fun s =>
        s.need c (s.part.ledgerRoom 2) 0x0303 fun s => (s.ledgerPut 2 n (zeros 8)).accept c

/-- FAB_NODE_BIND (R381). -/
def execFabNodeBind (fn slot : Nat) (t : Nat) (s : State) : Host.Outcome State Fault Refusal :=
  ranAt (slotOk fn slot) t s (runCmd 0x0A05 fn slot bodyFabNodeBind)

/-! ## FAB_SHARD -/

/-- A shard entry (Table 16.8). -/
def shardOf (b : List Byte) : Shard := {
  corridor := getU b 0 1, home := getU b 1 1, homeWorld := getU b 2 1, localWorld := getU b 3 1, sLo := getS b 8 8,
  sHi := getS b 16 8, base := getS b 24 8 }

/-- The segments of a world cover a range of chainage. -/
def World.covers (w : World) (lo hi : Int) : Bool :=
  let reach := (sortBy (fun (a b : Segment) => decide (a.sStart < b.sStart)) w.segments).foldl (init := lo) fun (r : Int) (g : Segment) =>
    if g.sStart ≤ r ∧ r < g.sStart + (g.length : Int) then g.sStart + (g.length : Int) else r
  w.loaded && decide (hi ≤ reach)

/-- Whether entry `i` of a shard table is refused, in view of the entries before it (R386). -/
def State.shardBad (s : State) (l : List Shard) (i : Nat) : Bool :=
  let e := l.getD i ⟨0, 0, 0, 0, 0, 0, 0⟩
  let before := l.take i
  let mine := e.home == s.fabric.nodeId
  let range := decide (e.corridor < 16 ∧ e.home < 64 ∧ e.homeWorld < 4 ∧ (e.localWorld < 4 ∨ e.localWorld = 0xFF) ∧ e.sLo < e.sHi)
  let overlap := before.any fun x => x.corridor == e.corridor && decide (x.sLo < e.sHi ∧ e.sLo < x.sHi)
  let homeOk := !mine || (e.localWorld == e.homeWorld && (s.wd e.homeWorld).covers (e.sLo - e.base) (e.sHi - e.base))
  let slotUsed := ((s.images.worldSlots.getD e.localWorld {}).state) != 0 || (s.wd e.localWorld).loaded
  let twice := before.any fun x => x.home != s.fabric.nodeId && x.localWorld == e.localWorld
  let proxyOk := mine || e.localWorld == 0xFF || !(slotUsed || twice)
  !(range && !overlap && homeOk && proxyOk)

/-- Entries of a table command: COUNT, six reserved bytes, then `n` bytes each. A status, or the entries. -/
def tableEntries (n : Nat) (b : List Byte) : Sum Nat (List (List Byte)) :=
  let k := getU b 0 2
  if b.length < 8 ∨ b.length ≠ 8 + n * k then .inl 0x0104
  else if !allZero (slice b 2 6) then .inl 0x0105
  else if k > 256 then .inl 0x0106
  else .inr (recordsOf (b.drop 8) n k)

/-- FAB_SHARD: the table takes effect at the first frame open after the next census. -/
def bodyFabShard (c : Cmd) (s : State) : State :=
  s.shape c 0 [] fun s =>
    s.need c (!s.anySession [3]) 0x0204 fun s =>
      match tableEntries 32 c.bulk with
      | .inl st => s.refuse c st
      | .inr rs => match rs.findIdx? fun r => !allZero (slice r 4 4) with
        | some i => s.refuse c 0x0105 i
        | none =>
          let l := rs.map shardOf
          match (List.range l.length).find? (s.shardBad l) with
          | some i => s.refuse c 0x0106 i
          | none => (s.modFarming fun f => { f with pendingShards := some l, shardsCensus := false }).accept c

/-- FAB_SHARD (R386). -/
def execFabShard (fn slot : Nat) (t : Nat) (s : State) : Host.Outcome State Fault Refusal :=
  ranAt (slotOk fn slot) t s (runCmd 0x0A06 fn slot bodyFabShard)

/-! ## FAB_FARM -/

/-- A farming entry (R389). -/
def farmOf (b : List Byte) : Farm := { stream := getU b 0 1, peer := getU b 1 1, peerWorld := getU b 2 1, blocks := getU b 3 1 }

/-- Whether entry `i` of a farming table is refused (R389). -/
def State.farmBad (s : State) (l : List Farm) (i : Nat) : Bool :=
  let e := l.getD i ⟨0, 0, 0, 0⟩
  let own := (l.take i).filter fun x => x.stream == e.stream
  !((s.stream? e.stream).isSome && decide (e.peer < 64) && e.peer != s.fabric.nodeId && decide (e.peerWorld < 4)
    && inR e.blocks 1 16 && decide (own.length < 4) && !(own.any fun x => x.peer == e.peer))

/-- FAB_FARM. -/
def bodyFabFarm (c : Cmd) (s : State) : State :=
  s.shape c 0 [] fun s =>
    s.need c (!s.anySession [3]) 0x0204 fun s =>
      match tableEntries 8 c.bulk with
      | .inl st => s.refuse c st
      | .inr rs => match rs.findIdx? fun r => !allZero (slice r 4 4) with
        | some i => s.refuse c 0x0105 i
        | none =>
          let l := rs.map farmOf
          match (List.range l.length).find? (s.farmBad l) with
          | some i => s.refuse c 0x0106 i
          | none => (s.modFarming fun f => { f with pendingFarms := some l, farmsCensus := false }).accept c

/-- FAB_FARM (R389). -/
def execFabFarm (fn slot : Nat) (t : Nat) (s : State) : Host.Outcome State Fault Refusal :=
  ranAt (slotOk fn slot) t s (runCmd 0x0A07 fn slot bodyFabFarm)

end Sys2Proof.Machine
end

