-- ==== Sys2Proof/Machine/Firmware.lean ====
section
/-!
DEFINITION. Sys2Proof/Machine/Firmware.lean: firmware banks and their verification (R436-R440), the firmware group 0x0B
(R353, R354) and the dump region (R430-R433).
-/
namespace Sys2Proof.Machine

/-! ## Firmware sets -/

/-- The manifest of a kind (Table 19.3) among a bank's four. -/
def manifestOf (bank : List Byte) (kind : Nat) : Option (List Byte) := (recordsOf bank 512 4).find? fun m => getU m 4 1 == kind
/-- The four manifests in KIND order. -/
def manifests (bank : List Byte) : Option (List (List Byte)) := [0x10, 0x11, 0x12, 0x13].mapM (manifestOf bank)
/-- A manifest's VERSION and SVN. -/
def fwVersion (m : List Byte) : Nat := getU m 16 4
def fwSvn (m : List Byte) : Nat := getU m 20 2
/-- The image a manifest describes. -/
def fwImage (bank m : List Byte) : List Byte := slice bank (getU m 32 4) (getU m 36 4)

/-- MAGIC, FORMAT and the image's place inside the bank. -/
def manifestShape (bank m : List Byte) : Bool :=
  getU m 0 4 == 0x464E414D && getU m 5 1 == 1 && decide (getU m 32 4 + getU m 36 4 ≤ bank.length)
/-- Vendor signature, and the owner's when one is enrolled (R435, R437). -/
def Part.manifestSigned (p : Part) (m : List Byte) : Bool :=
  let body := m.take 384
  p.vendorKeyOk (getU m 22 1) (slice m 104 32) && signed (slice m 104 32) body (slice m 384 64) &&
    (if p.ownerValid then p.ownerKeyOk (slice m 136 32) && signed (slice m 136 32) body (slice m 448 64)
     else allZero (slice m 136 32) && allZero (slice m 448 64))
/-- IMAGE_HASH. -/
def manifestHashOk (bank m : List Byte) : Bool := sha512 (fwImage bank m) == slice m 40 64
/-- Reserved fields are 0; ADVANCE belongs to the boot stage only (R13, R438). -/
def manifestResv (m : List Byte) : Bool :=
  decide (getU m 6 2 ≤ if getU m 4 1 = 0x10 then 1 else 0) && allZero (slice m 23 1) && allZero (slice m 168 216)
/-- A version lies in a manifest's COMPAT range (R439). -/
def inCompat (m : List Byte) (v : Nat) : Bool := inR v (getU m 8 4) (getU m 12 4)
/-- The set's own ranges agree: CFW with the boot stage, SFW and microcode with the CFW (R439). -/
def rangesAgree (ms : List (List Byte)) : Bool :=
  let m (i : Nat) := ms.getD i []
  inCompat (m 1) (fwVersion (m 0)) && inCompat (m 2) (fwVersion (m 1)) && inCompat (m 3) (fwVersion (m 1))
/-- A set is qualified (R439). -/
def qualified (ms : List (List Byte)) : Bool :=
  let q := hash8 (ms.flatMap fun m => le 4 (fwVersion m))
  ms.all fun m => slice m 24 8 == q

/-- What a bank fails: IMAGE_INVALID, SIGNATURE or ROLLBACK. -/
def Part.bankBad (p : Part) (bank : List Byte) : Option Nat :=
  match manifests bank with
  | none => some 0x0405
  | some ms =>
    if !ms.all (manifestShape bank) then some 0x0405
    else if !ms.all p.manifestSigned then some 0x0501
    else if !ms.all (manifestHashOk bank) then some 0x0405
    else if ms.any fun m => decide (fwSvn m < p.rollback) then some 0x0504
    else if !ms.all manifestResv then some 0x0405
    else none

/-- Bytes of each bank (Table 19.2). -/
def bankSize (i : Nat) : Nat := if i = 0 then 0x1F78000 else 0x1FF8000

/-- A FW_STAGE has begun and its response is not written yet (R354). -/
def State.stagingNow (s : State) : Bool := match s.flash.staging with
  | some o => s.mbx.cmds.any fun c => c.order == o
  | none => false

/-- FW_STAGE: the set goes to the bank not booted and is verified there (R354, R439). -/
def bodyFwStage (c : Cmd) (s : State) : State :=
  let i := 1 - s.boot.activeBank
  s.shape c 0 [] fun s =>
    s.need c (!s.stagingNow) 0x0203 fun s =>
      s.need c (decide (c.bulk.length ≤ bankSize i)) 0x0303 fun s =>
        let bad := match s.part.bankBad c.bulk with
          | some st => some st
          | none => if ((manifests c.bulk).map rangesAgree).getD false then none else some 0x0407
        let s := s.modFlash fun f => { f with
          banks := f.banks.set i c.bulk, verified := f.verified.set i bad.isNone, staging := some c.order }
        match bad with
        | some st => s.refuse c st
        | none => s.accept c

/-- FW_STAGE (R354). -/
def execFwStage (fn slot : Nat) (t : Nat) (s : State) : Host.Outcome State Fault Refusal :=
  ranAt (slotOk fn slot) t s (runCmd 0x0B01 fn slot bodyFwStage)

/-- FW_COMMIT. -/
def bodyFwCommit (c : Cmd) (s : State) : State :=
  let b := getU c.payload 0 1
  s.shape c 8 [(1, 7)] fun s =>
    s.need c (decide (b ≤ 1)) 0x0106 fun s =>
      s.need c (!s.stagingNow) 0x0203 fun s =>
        s.need c (s.flash.verified.getD b false) 0x0405 fun s =>
          (s.modFlash fun f => { f with bootBank := f.bootBank.write b }).accept c

/-- FW_COMMIT (R353). -/
def execFwCommit (fn slot : Nat) (t : Nat) (s : State) : Host.Outcome State Fault Refusal :=
  ranAt (slotOk fn slot) t s (runCmd 0x0B02 fn slot bodyFwCommit)

/-- The FW_STATUS response; the versions of a bank that holds no verified set read 0 (log entry 38). -/
def State.fwStatus (s : State) : List Byte :=
  let i := 1 - s.boot.activeBank
  let ms := if s.flash.verified.getD i false then (manifests (s.flash.banks.getD i [])).getD [] else []
  let v (k : Nat) := if ms.isEmpty then 0 else fwVersion (ms.getD k [])
  let staged := flag (s.flash.verified.getD 0 false) 0 + flag (s.flash.verified.getD 1 false) 1
  le 1 s.boot.activeBank ++ le 1 (s.flash.bootBank.read.getD 0) ++ le 1 staged ++ zeros 5 ++ le 4 (v 1) ++ le 4 (v 2) ++
    le 4 (v 3) ++ le 4 (v 0) ++ zeros 8

/-- FW_STATUS. -/
def bodyFwStatus (c : Cmd) (s : State) : State := s.shape c 0 [] fun s => s.accept c s.fwStatus

/-- FW_STATUS (R353). -/
def execFwStatus (fn slot : Nat) (t : Nat) (s : State) : Host.Outcome State Fault Refusal :=
  ranAt (slotOk fn slot) t s (runCmd 0x0B03 fn slot bodyFwStatus)

/-! ## The dump region -/

/-- The dump as it reads now: LENGTH and STATE stand in its header (Table 18.8). -/
def Dump.image (d : Dump) : List Byte :=
  if d.state % 2 = 0 then [] else d.bytes.take 7 ++ le 1 d.state ++ le 8 d.length ++ d.bytes.drop 16

/-- DUMP_READ's output; READ is set once it is written in full (R432). -/
def State.dumpRead (c : Cmd) (s : State) : State :=
  let bs := s.errors.dump.image
  let s := s.output c bs
  if bs.length ≤ c.room then
    (s.modErrors fun e => { e with dump := { e.dump with state := if e.dump.state % 2 = 1 then e.dump.state ||| 4 else 0 } }).accept
      c (le 4 bs.length ++ le 1 (s.errors.dump.state % 2) ++ zeros 3)
  else s.respond c { status := 0x0307, payload := le 4 c.room ++ le 1 (s.errors.dump.state % 2) ++ zeros 3 }

/-- DUMP_READ waits for a write under way (R432). -/
def bodyDumpRead (c : Cmd) (s : State) : State :=
  s.shape c 0 [] fun s => if s.errors.dump.writing.isSome then s.wait c else s.dumpRead c

/-- DUMP_READ (R432). -/
def execDumpRead (fn slot : Nat) (t : Nat) (s : State) : Host.Outcome State Fault Refusal :=
  ranAt (slotOk fn slot) t s (runCmd 0x0B04 fn slot bodyDumpRead)

/-- DUMP_TARGET: a write descriptor, or none to clear (R433). -/
def bodyDumpTarget (c : Cmd) (s : State) : State :=
  s.shape c 0 [] fun s =>
    (s.modErrors fun e => { e with dump := { e.dump with target := c.descs.head? } }).accept c

/-- DUMP_TARGET (R433). -/
def execDumpTarget (fn slot : Nat) (t : Nat) (s : State) : Host.Outcome State Fault Refusal :=
  ranAt (slotOk fn slot) t s (runCmd 0x0B05 fn slot bodyDumpTarget)

/-- The dump region is marked empty (R432). -/
def State.dumpClear (c : Cmd) (s : State) : State :=
  (s.modErrors fun e => { e with dump := { e.dump with bytes := [], length := 0, state := 0 } }).accept c

/-- DUMP_CLEAR waits for a write under way (R354). -/
def bodyDumpClear (c : Cmd) (s : State) : State :=
  s.shape c 0 [] fun s => if s.errors.dump.writing.isSome then s.wait c else s.dumpClear c

/-- DUMP_CLEAR (R432). -/
def execDumpClear (fn slot : Nat) (t : Nat) (s : State) : Host.Outcome State Fault Refusal :=
  ranAt (slotOk fn slot) t s (runCmd 0x0B06 fn slot bodyDumpClear)

/-- DUMP_READ and DUMP_CLEAR commands that waited for the write, in order of arrival. -/
def State.dumpWaiters (s : State) : State :=
  (s.mbx.cmds.filter fun c => c.stage == .waiting && (c.opcode == 0x0B04 || c.opcode == 0x0B06)).foldl (init := s) fun s c =>
    if c.opcode = 0x0B04 then s.dumpRead c else s.dumpClear c

/-- A table entry of a dump: TYPE, FLAGS, CRC, OFFSET, LENGTH. -/
def dumpEntry (e : Nat × Nat × List Byte) (off : Nat) : List Byte :=
  le 1 e.1 ++ le 1 e.2.1 ++ zeros 2 ++ le 4 (crc32c e.2.2) ++ le 4 off ++ le 4 e.2.2.length

/-- Offsets of sections that each start on a 4,096-byte boundary, from `off` on. -/
def dumpOffsets : Nat → List (Nat × Nat × List Byte) → List Nat
  | _, [] => []
  | off, e :: r => off :: dumpOffsets (off + ceilDiv e.2.2.length 4096 * 4096) r

/-- A dump of a KIND for a triggering fault, unsigned (R431): 256-byte header, section table, sections. -/
def State.dumpBytes (s : State) (kind code : Nat) (codes : List Nat) (late : Bool) : List Byte :=
  let secs := (Config.dumpSections kind s).take 8
  let offs := dumpOffsets 4096 secs
  let table := fit 128 ((List.range secs.length).flatMap fun i => dumpEntry (secs.getD i (0, 0, [])) (offs.getD i 0))
  let body := secs.flatMap fun e => padTo 4096 e.2.2
  let l := (s.safety.latch.find? fun x => x.code == code).getD { code := code, time := s.time.now }
  let poisoned := secs.any fun e => bit e.2.1 1
  let stack := if l.cluster < 64 then stackOf l.cluster else 0xFF
  let fault := faultPayload code (1 + flag (isRestart code) 1) stack l.cluster 0xFF l.time (le 8 l.arg)
  le 4 0x504D5544 ++ le 2 1 ++ le 1 kind ++ le 1 (1 + flag late 3 + flag poisoned 4) ++ le 8 (4096 + body.length) ++
    le 8 l.time ++ le 4 l.frame.toNat ++ le 1 secs.length ++ zeros 3 ++ fault ++ fit 16 (codes.flatMap fun c => le 2 c) ++
    s.part.serial ++ s.det.keyDigest ++ le 4 s.boot.cfwVersion ++ le 4 s.boot.sfwVersion ++ zeros 140 ++
    table ++ zeros (4096 - 384) ++ body

/-- The sections of a dump in offset order. -/
def dumpSectionBytes (b : List Byte) : List Byte :=
  (List.range (getU b 28 1)).flatMap fun i => slice b (getU b (264 + 16 * i) 4) (getU b (268 + 16 * i) 4)

/-- The identity key signs a dump: header with STATE and SIGNATURE as 0, section table, sections (R431). -/
def State.signDump (s : State) (b : List Byte) : List Byte :=
  let msg := b.take 7 ++ [0] ++ slice b 8 120 ++ zeros 64 ++ slice b 192 64 ++ slice b 256 128 ++ dumpSectionBytes b
  b.take 128 ++ s.identitySign msg ++ b.drop 192

/-- A dump that the keys allow to sign is signed; without them it is written unsigned with SIGNED_LATE (R448). -/
def State.sealDump (s : State) (b : List Byte) : List Byte :=
  if s.hub.secretsKeys then s.signDump b else b.take 7 ++ le 1 (getU b 7 1 ||| 8) ++ b.drop 8

/-- A valid dump that still lacks its signature is signed once the keys are back (R430, R448). -/
def State.signLate (s : State) : State :=
  let d := s.errors.dump
  if s.hub.secretsKeys ∧ d.state % 2 = 1 ∧ allZero (slice d.bytes 128 64) then
    s.modErrors fun e => { e with dump := { e.dump with bytes := s.signDump d.bytes } }
  else s

end Sys2Proof.Machine
end

