-- ==== Sys2Proof/Machine/SafetyEvents.lean ====
section
/-!
DEFINITION. Sys2Proof/Machine/SafetyEvents.lean: what the SSV sees and does by itself (R401-R403, R408, R409, R412, R413),
the writing of a dump (R430-R433) and of the health page (R426).
-/
namespace Sys2Proof.Machine

/-! ## WDOG_IN and the pins -/

/-- WDOG_IN changes level (R402). -/
def State.wdogEdge (level : Bool) (s : State) : State :=
  s.when_ (level != s.safety.wdogLevel) fun s =>
    s.modSafety fun x => { x with wdogLevel := level, wdogEdge := some x.ssvNow }

/-- WDOG_EDGE (R402). -/
def execWdogEdge (level : Bool) (ssv : Nat) (t : Nat) (s : State) : Host.Outcome State Fault Refusal :=
  ranAt true t s fun s => (s.atSsv ssv).wdogEdge level

/-- More than 5,000 µs without an edge while a class-S session is RUNNING (R402). -/
def State.wdogLost (s : State) : State :=
  s.when_ (s.classSRunning && !s.wdogPresent) fun s => s.detect 0x0010 0xFF 0xFF 0xFF []

/-- WDOG_LOST (R402). -/
def execWdogLost (ssv : Nat) (t : Nat) (s : State) : Host.Outcome State Fault Refusal :=
  ranAt true t s fun s => (s.atSsv ssv).wdogLost

/-- SSV_LOCKSTEP: latched until power-up, and the keeper holds the pins static (R412). -/
def State.ssvLockstep (s : State) : State :=
  (s.modSafety fun x => { x with keeper := true }).detect 0x000A 0xFF 0xFF 0xFF []

/-- SSV_LOCKSTEP (R412). -/
def execSsvLockstep (t : Nat) (s : State) : Host.Outcome State Fault Refusal := ranAt true t s State.ssvLockstep

/-- An edge of the HEALTHY waveform: both pins change level and are read back (R403, R412). -/
def State.healthyEdge (readA readB : Bool) (s : State) : State :=
  s.when_ (s.safety.pinState == 1) fun s =>
    let s := s.modSafety fun x => { x with safeA := !x.safeA, safeB := x.safeA }
    if readA = s.safety.safeA ∧ readB = s.safety.safeB then s else s.ssvLockstep

/-- HEALTHY_WAVEFORM_EDGE (R403). -/
def execHealthyWaveformEdge (readA readB : Bool) (ssv : Nat) (t : Nat) (s : State) : Host.Outcome State Fault Refusal :=
  ranAt true t s fun s => (s.atSsv ssv).healthyEdge readA readB

/-- CP_LOCKSTEP: the pair is the argument (R412). -/
def execCpLockstep (pair : Nat) (t : Nat) (s : State) : Host.Outcome State Fault Refusal :=
  ranAt (below pair 2) t s fun s => s.detect 0x0009 0xFF 0xFF 0xFF (le 1 pair)

/-! ## Heartbeat and time base -/

/-- No CFW heartbeat for 300 µs of SSV time: CFW_SILENT, whose dump is the SSV's minimal one (R412, R430, R432). A halted
control core suspends the check (R462). -/
def State.cfwSilent (s : State) : State :=
  let due := s.boot.cfwUp && !s.obs.cpHalted && !s.safety.resetUnderWay && decide (s.safety.ssvNow - s.safety.cfwBeat ≥ 15000)
    && s.safety.restartPending != some 0x000B
  s.when_ due fun s =>
    let partly := s.errors.dump.writing.isSome
    let s := s.detect 0x000B 0xFF 0xFF 0xFF []
    s.modErrors fun e => { e with dump :=
      if e.dump.writing.isSome then
        { e.dump with writing := some 0x000B, codes := if partly then e.dump.codes else [0x000B] }
      else e.dump }

/-- CFW_SILENT (R412). -/
def execCfwSilent (ssv : Nat) (t : Nat) (s : State) : Host.Outcome State Fault Refusal :=
  ranAt true t s fun s => (s.atSsv ssv).cfwSilent

/-- Over each 10 ms of SSV time the advance of device time, less the reported corrections, is compared with the SSV's
oscillator: 4 ticks of 5 ns a 20 ns SSV tick, within 2 % (R413). -/
def State.timeBaseCheck (s : State) : State :=
  let now := s.time.now
  let ssv := s.safety.ssvNow
  let mark (s : State) : State :=
    (s.modSafety fun x => { x with rateRef := some (ssv, now) }).modTime fun b => { b with corrections := [] }
  match s.safety.rateRef with
  | none => mark s
  | some (ssv0, now0) =>
    if ssv - ssv0 < 500000 then s
    else
      let want : Int := 4 * ((ssv : Int) - ssv0)
      let got : Int := (now : Int) - now0 - sumI (s.time.corrections.map (·.2))
      if 50 * (got - want).natAbs > want.natAbs then
        ((mark s).modSafety fun x => { x with timeBaseAt := some now }).detect 0x000C 0xFF 0xFF 0xFF []
      else mark s

/-- TIME_BASE_CHECK (R413). -/
def execTimeBaseCheck (ssv : Nat) (t : Nat) (s : State) : Host.Outcome State Fault Refusal :=
  ranAt true t s fun s => (s.atSsv ssv).timeBaseCheck

/-! ## Ages of the rake items (R408) -/

/-- A rake item's age is above a limit in µs while ages are judged. -/
def State.olderThan (s : State) (unit item us : Nat) : Option RakeItem :=
  if s.classSRunning then
    s.safety.rakeItems.find? fun i => i.unit == unit && i.item == item && decide (s.time.now - i.last > us * ticksPerUs)
  else none

/-- The argument of a rake item's code: its set's unit and its number. -/
def rakeArg (unit item : Nat) : List Byte := le 1 unit ++ le 1 item

/-- The stack and cluster fields of a rake unit. -/
def rakePlace (unit : Nat) : Nat × Nat := if unit < 64 then (stackOf unit, unit) else (0xFF, 0xFF)

/-- Rewrites one rake item. -/
def Safety.modItem (unit item : Nat) (f : RakeItem → RakeItem) (x : Safety) : Safety :=
  { x with rakeItems := x.rakeItems.map fun i => if i.unit = unit ∧ i.item = item then f i else i }

/-- An age above 100 ms is warned of once per item and cycle. -/
def State.latentWarn (unit item : Nat) (s : State) : State :=
  match s.olderThan unit item 100000 with
  | none => s
  | some i => if i.warned then s
    else (s.modSafety (Safety.modItem unit item fun i => { i with warned := true })).warn 0x0127 (rakePlace unit).1
      (rakePlace unit).2 (rakeArg unit item)

/-- LATENT_OVERDUE (R408). -/
def execLatentOverdue (unit item : Nat) (t : Nat) (s : State) : Host.Outcome State Fault Refusal :=
  ranAt (rakeItemOk unit item) t s (State.latentWarn unit item)

/-- An age above 200 ms is RAKE_OVERDUE. -/
def State.rakeOverdue (unit item : Nat) (s : State) : State :=
  s.when_ (s.olderThan unit item 200000).isSome fun s =>
    s.detect 0x0004 (rakePlace unit).1 (rakePlace unit).2 0xFF (rakeArg unit item)

/-- RAKE_OVERDUE (R408). -/
def execRakeOverdue (unit item : Nat) (t : Nat) (s : State) : Host.Outcome State Fault Refusal :=
  ranAt (rakeItemOk unit item) t s (State.rakeOverdue unit item)

/-! ## Dump, restart, self-test -/

/-- A signed dump stands in the region (R431). -/
def Dump.holds (d : Dump) (bytes : List Byte) (kind state : Nat) : Dump :=
  { d with bytes := bytes, kind := kind, length := bytes.length, state := state }

/-- A full dump is written, signed and, where DUMP_TARGET takes it, copied (R430, R433). -/
def State.fullDump (code : Nat) (s : State) : State :=
  let b := s.sealDump (s.dumpBytes 0 code s.errors.dump.codes false)
  let s := s.modErrors fun e => { e with dump := e.dump.holds b 0 (getU b 7 1) }
  match s.errors.dump.target with
  | some d =>
    if b.length ≤ d.len ∧ s.dmaOk 0 = true then
      (s.hostWrite 0 d.addr b).modErrors fun e => { e with dump := { e.dump with state := e.dump.state ||| 2 } }
    else s
  | none => s

/-- The SSV's minimal dump goes to its private memory; a partial full dump reads as empty (R430, R432). -/
def State.minimalDump (s : State) : State :=
  let b := s.dumpBytes 1 0x000B s.errors.dump.codes true
  s.modErrors fun e => { e with dump :=
    { e.dump with minimal := some b, bytes := [], length := 0, state := 0 } }

/-- The automatic warm restart that a Restart code asked for begins (R399, R401). -/
def State.beginRestart (code : Nat) (s : State) : State :=
  (s.modSafety fun x => { x with restarts := x.restarts ++ [s.time.now] }).warmReset code

/-- DUMP_WRITTEN: the dump, what waited for it, and the Restart to come. -/
def State.dumpWritten (s : State) : State :=
  let s := match s.errors.dump.writing with
    | some code =>
      let s := if code = 0x000B then s.minimalDump else s.fullDump code
      (s.modErrors fun e => { e with dump := { e.dump with writing := none, codes := [] } }).dumpWaiters
    | none => s
  match s.safety.restartPending with
  | some code => s.beginRestart code
  | none => s

/-- DUMP_WRITTEN (R430). -/
def execDumpWritten (t : Nat) (s : State) : Host.Outcome State Fault Refusal := ranAt true t s State.dumpWritten

/-- Every rake item of the device. -/
def State.allRakeItems (s : State) : List (Nat × Nat) :=
  (s.enabledList.flatMap fun p => (List.range 11).map fun i => (p, i + 1)) ++ (List.range 16).map fun i => (64, i + 1)

/-- Item ages restart at 0 (R409). -/
def State.restartAges (s : State) : State :=
  let items := s.allRakeItems.map fun u => ({ unit := u.1, item := u.2, last := s.time.now } : RakeItem)
  s.modSafety fun x => { x with rakeItems := items, selfTests := x.selfTests + 1 }

/-- The anti-rollback counter rises to the SVN of an ADVANCE boot stage (R440). -/
def State.advance (s : State) : State :=
  if s.boot.advance ∧ s.boot.svn > s.part.rollback ∧ s.part.ledgerRoom 3 then
    s.ledgerPut 3 s.boot.svn (hash8 s.boot.vendorPub)
  else s

/-- What the CFW does once a reset's self-test has passed: the counter advance, the minimal dump's copy, DUMP_SUPPRESSED
(R430, R432, R440). -/
def State.afterReset (s : State) : State :=
  let s := s.modSafety fun x => { x with resetUnderWay := false, warmResets := x.warmResets + flag x.resetUnderWay 0 }
  let s := s.advance
  let d := s.errors.dump
  let s := match d.minimal with
    | some b => s.modErrors fun e => { e with dump :=
        if d.canWrite then { (d.holds b 1 (getU b 7 1)) with minimal := none } else { d with minimal := none } }
    | none => s
  let s := s.signLate
  if s.errors.dump.suppressedEvent then
    (s.modErrors fun e => { e with dump := { e.dump with suppressedEvent := false } }).warn 0x0126 0xFF 0xFF []
  else s

/-- A self-test runs at power-up, at a warm reset, and between GRID_START or RESUME and the next frame open (R409). -/
def State.selfTestDue (s : State) : Bool :=
  s.boot.cfwUp && (s.safety.resetUnderWay || s.safety.selfTests == 0 || (s.gridRuns && s.frame.phase == .closed))

/-- The failures of a self-test: those of enabled units, and with golden data that reads 0 the assay of every enabled cluster, in
units that the manual does not name (R406; log entry 5). -/
def State.testFailures (given : List TestFailure) (s : State) : List TestFailure × State :=
  let l := given.filter fun f => f.unit == 64 || s.enabled f.unit
  if s.hub.secretsGolden then (l, s)
  else s.enabledList.foldl (init := (l, s)) fun a p =>
    if a.1.any fun f => f.unit == p && f.item == 0 then a
    else
      let r := a.2.fresh
      (a.1 ++ [{ unit := p, item := 0, mask := r.1.toNat % 255 + 1 }], r.2)

/-- The differing units of a cluster's assay in a self-test. -/
def maskOf (l : List TestFailure) (p : Nat) : Nat :=
  (l.filter fun f => f.unit == p && f.item == 0).foldl (fun m f => m ||| f.mask) 0

/-- The assay of a self-test leaves its signatures in a cluster's registers: the expected ones of golden vector 0 but for the
units in `mask`, whose outputs the manual leaves open (R405, R406, R409; log entry 5). -/
def State.selfAssay (mask p : Nat) (s : State) : State :=
  let sigs := (List.range 8).foldl (init := (([] : List Nat), s)) fun a u =>
    let good := (s.boot.golden.getD 0 []).getD u 0
    if bit mask u then
      let r := a.2.fresh
      let v := r.1.toNat
      (a.1 ++ [if v = good then (v + 1) % 2 ^ 64 else v], r.2)
    else (a.1 ++ [good], a.2)
  let s := (sigs.2.modCl p fun c => { c with test := { c.test with
    assaySig := sigs.1, assayComplete := true, assayFrameLo := s.frame.counter.toNat % 2 ^ 24, assayRunning := false,
    assayPassedAt := if mask = 0 then some s.time.now else c.test.assayPassedAt } })
  (s.bumpCl p (if mask = 0 then 12 else 13)).bumpCl p 14

/-- The fault of a failed item: ASSAY_FAIL with the mask of units, RAKE_FAIL with the set and item (R405, R407). -/
def TestFailure.fault (f : TestFailure) : Detection :=
  { code := if f.item = 0 then 0x0001 else 0x0003, stack := (rakePlace f.unit).1, cluster := (rakePlace f.unit).2,
    arg := if f.item = 0 then le 16 f.mask else rakeArg f.unit f.item }

/-- A self-test has run every cluster item and assay and every hub item; its failures are detected together, and with none the
ages restart and the reset's own end follows (R409). -/
def State.selfTest (given : List TestFailure) (s : State) : State :=
  s.when_ s.selfTestDue fun s =>
    let r := s.testFailures given
    let s := r.2.enabledList.foldl (init := r.2) fun s p => s.selfAssay (maskOf r.1 p) p
    if r.1.isEmpty then
      let first := s.safety.resetUnderWay || s.safety.selfTests == 0
      let s := s.restartAges
      if first then s.afterReset else s
    else s.detectAll ((r.1.filter (·.item == 0) ++ r.1.filter (·.item != 0)).map TestFailure.fault)

/-- SELF_TEST_COMPLETE (R409). -/
def execSelfTestComplete (failures : List TestFailure) (t : Nat) (s : State) : Host.Outcome State Fault Refusal :=
  ranAt (failures.all TestFailure.wf) t s (State.selfTest failures)

/-! ## The health page -/

/-- The health page is rewritten after a new mark, or when 10 minutes have passed and some VOFF has changed (R426). -/
def State.healthPageWrite (s : State) : State :=
  let spaced := match s.boot.healthWritten with
    | some w => decide (w + 600000000 * ticksPerUs ≤ s.time.now)
    | none => true
  s.when_ (s.boot.markNew || (s.boot.voffChanged && spaced)) fun s =>
    let old := s.flash.health.read.getD {}
    let fresh := (List.range 64).filterMap fun p =>
      let x := (s.cl p).test
      if x.retirePending && !(old.marks.any fun m => m.1 == p) then some (p, x.retireCause) else none
    let page : HealthPage := { old with voff := s.clusters.map (·.test.voff), marks := old.marks ++ fresh, signed := true }
    (s.modFlash fun f => { f with health := f.health.write page }).modBoot fun b =>
      { b with markNew := false, voffChanged := false, healthWritten := some s.time.now }

/-- HEALTH_PAGE_WRITE (R426). -/
def execHealthPageWrite (t : Nat) (s : State) : Host.Outcome State Fault Refusal := ranAt true t s State.healthPageWrite

end Sys2Proof.Machine
end

