-- ==== Sys2Proof/Machine/Power.lean ====
section
/-!
DEFINITION. Sys2Proof/Machine/Power.lean: power, boot, tamper, SMBus alert and JTAG (R426, R429, R437-R440, R443, R447-R449,
R466-R480).
-/
namespace Sys2Proof.Machine

/-! ## Tamper (R449) -/

/-- The tamper monitor is armed. -/
def State.armed (s : State) : Bool := inR s.lifecycle 1 3
/-- The lid is open or TAMPER_N is low: the secure region stays wiped. -/
def State.held (s : State) : Bool := s.mgmt.lid || s.mgmt.tamperPin
/-- A tamper source is asserted now. -/
def State.tampered (s : State) : Bool := s.held || s.mgmt.glitch || s.mgmt.clkMon

/-- One event of the tamper log: 16 slots, oldest overwritten; SMB_ALERT_N follows (R479). -/
def State.logTamper (source : Nat) (s : State) : State :=
  let up := s.aon.railsUp
  let e : TamperEntry := { source := source, wiped := up, standby := !up, rtc := s.mgmt.rtc }
  s.modMgmt fun m => { m with
    tamperLog := m.tamperLog.set m.tamperNext (some e), tamperNext := (m.tamperNext + 1) % 16,
    tamperCount := satU 16 (m.tamperCount + 1), smbAlert := true }

/-- Sources assert in one cycle: their levels, and where the monitor is armed one wipe and a log entry each, in
source-code order. Glitch detectors are momentary. -/
def State.tamper (sources : List Nat) (s : State) : State :=
  let s := s.modMgmt fun m => { m with
    lid := m.lid || sources.contains 0, tamperPin := m.tamperPin || sources.contains 1 }
  let hits := (List.range 5).filter fun k => sources.contains k
  s.when_ (s.armed && !hits.isEmpty) fun s =>
    hits.foldl (init := if s.aon.railsUp then s.wipeSecure else s) fun s k => s.logTamper k

/-- TAMPER_EVENT (R449). -/
def execTamperEvent (sources : List Nat) (rtc : Nat) (t : Nat) (s : State) : Host.Outcome State Fault Refusal :=
  ranAt (sources.all fun k => below k 5) t s fun s => (s.atRtc rtc).tamper sources

/-- A clock monitor's comparison every 10 µs; a lost system reference stops the PLLs (R475). -/
def State.clockMonitor (ok lost : Bool) (s : State) : State :=
  let rising := !ok && !s.mgmt.clkMon
  let s := s.modMgmt fun m => { m with clkMon := !ok }
  let s := if lost then s.modStks fun l => l.map fun (k : Stack) => { k with pllStopped := true } else s
  s.when_ (rising && s.aon.railsUp) fun s => s.tamper [4]

/-- CLOCK_MONITOR (R475). -/
def execClockMonitor (ok : Bool) (lostReference : Bool) (t : Nat) (s : State) : Host.Outcome State Fault Refusal :=
  ranAt true t s (State.clockMonitor ok lostReference)

/-! ## Inputs and rails -/

/-- 3V3_AUX rises: the always-on domain of a module that was OFF starts, whatever the 54 V input, and the rails follow where
that is in range (R32, R471 steps 1 and 2, R479). In any other state the 54 V path has fed the domain, and it never stopped. -/
def State.auxRise (g0 g1 perst lid tamper : Bool) (s : State) : State :=
  if s.aon.auxPresent then s
  else if s.aon.pstate ≠ 0 then (s.modAon fun a => { a with auxPresent := true }).modMgmt fun m => { m with linkLatched := false }
  else
    let last := (s.part.ledger.map (·.time)).foldl max 0
    let up := { s.mainOff with
      aon := { auxPresent := true, pstate := 1, limit := 420, mainInRange := s.aon.mainInRange },
      mgmt := {
        rtc := last + 1, gpio0 := g0, gpio1 := g1, smbAddress := 76 + 2 * flag g1 0 + flag g0 0, perstAsserted := !perst, lid := lid,
        tamperPin := tamper } }
    if s.aon.mainInRange then up.railsOn else up

/-- AUX_RISE (R471). -/
def execAuxRise (gpio0 gpio1 perstHigh lidOpen tamperLow : Bool) (t : Nat) (s : State) : Host.Outcome State Fault Refusal :=
  ranAt true t s (State.auxRise gpio0 gpio1 perstHigh lidOpen tamperLow)

/-- Both inputs are absent: nothing is powered, and both SAFE pins read low (R466, R469). -/
def State.off (s : State) : State :=
  { s.mainOff with aon := { auxPresent := false, pstate := 0 }, mgmt := {}, safety := { safeB := false } }

/-- 3V3_AUX is lost: operation goes on from the 54 V path while it is in range, else the module is OFF (R468, R469). -/
def State.auxLoss (s : State) : State :=
  if s.aon.railsUp ∨ s.aon.mainInRange then
    (s.modAon fun a => { a with auxPresent := false }).modMgmt fun m => { m with linkLatched := false }
  else s.off

/-- AUX_LOSS (R468). -/
def execAuxLoss (t : Nat) (s : State) : Host.Outcome State Fault Refusal := ranAt true t s State.auxLoss

/-- The 54 V input has been at or above 40 V for 2 ms (R468, R471). SHUTDOWN ends only after the input was away for 1 s. -/
def State.mainRise (s : State) : State :=
  let away := !s.aon.mainInRange && decide (s.aon.shutdownSince + 1000000 * ticksPerUs ≤ s.time.now)
  let s := s.modAon fun a => { a with mainInRange := true, wakeN := false }
  if s.aon.railsUp then s
  else if s.aon.pstate = 5 then (if away then s.railsOn else s)
  else if s.aon.auxPresent then s.railsOn
  else s

/-- MAIN_IN_RANGE (R471). -/
def execMainInRange (t : Nat) (s : State) : Host.Outcome State Fault Refusal := ranAt true t s State.mainRise

/-- The SSV drives the SAFE pins static, and the rails go off 200 µs later (R468). -/
def State.excursion (causeBit state : Nat) (s : State) : State :=
  let s := s.modSafety fun x => { x with safeA := false, safeB := true, pinState := if x.pinState = 1 then 0 else x.pinState }
  (s.modAon fun a => { a with
    cause := a.cause ||| 2 ^ causeBit, safePinsForced := true, mainInRange := false, pstate := state,
    railsOffDue := some (s.time.now + 200 * ticksPerUs), shutdownSince := s.time.now }).modMgmt
    fun m => { m with smbAlert := true }

/-- 54 V below 38 V for 20 µs. With the rails off and 3V3_AUX away too, the module is OFF (R469). -/
def State.undervoltage (s : State) : State :=
  if s.aon.railsUp then s.excursion 3 s.aon.pstate
  else if !s.aon.auxPresent then s.off
  else s.modAon fun a => { a with mainInRange := false, shutdownSince := if a.mainInRange then s.time.now else a.shutdownSince }

/-- UNDERVOLTAGE (R468). -/
def execUndervoltage (t : Nat) (s : State) : Host.Outcome State Fault Refusal := ranAt true t s State.undervoltage

/-- 54 V above 63 V for 20 µs. -/
def State.overvoltage (s : State) : State :=
  s.when_ s.aon.railsUp fun s => s.excursion 4 5

/-- OVERVOLTAGE (R468). -/
def execOvervoltage (t : Nat) (s : State) : Host.Outcome State Fault Refusal := ranAt true t s State.overvoltage

/-- A power stage reports a fault: SHUTDOWN as for OVERVOLTAGE (Table 21.13). -/
def State.railFault (s : State) : State :=
  s.when_ s.aon.railsUp fun s =>
    (s.excursion 5 5).modAon fun a => { a with mainInRange := s.aon.mainInRange }

/-- RAIL_FAULT (R469). -/
def execRailFault (t : Nat) (s : State) : Host.Outcome State Fault Refusal := ranAt true t s State.railFault

/-- The rails are switched off: SHUTDOWN holds, else STANDBY, or OFF with both inputs away (R469). -/
def State.railsOff (s : State) : State :=
  match s.aon.railsOffDue with
  | none => s
  | some due =>
    s.when_ (decide (due ≤ s.time.now)) fun s =>
      if !s.aon.auxPresent ∧ !s.aon.mainInRange then s.off
      else s.mainOff.modAon fun a => { a with pstate := if s.aon.pstate = 5 then 5 else if s.aon.auxPresent then 1 else 0 }

/-- RAILS_OFF (R468). -/
def execRailsOff (t : Nat) (s : State) : Host.Outcome State Fault Refusal := ranAt true t s State.railsOff

/-! ## Heat and power (R474, R477, R478) -/

/-- Stacks with a tripped cluster sensor. -/
def tripStacks (tripped : Nat) : Nat := sumN ((List.range 4).map fun k => flag (bits tripped (16 * k) 16 != 0) k)

/-- A thermal trip: rails off at once, SHUTDOWN. `excursion` is a 54 V excursion of the same cycle: over, or under. -/
def State.thermalTrip (tripped : Nat) (hub hbm : Bool) (excursion : Option Bool) (s : State) : State :=
  s.when_ (s.aon.railsUp && (tripped != 0 || hub || hbm)) fun s =>
    let both := match excursion with
      | some true => 16
      | some false => 8
      | none => 0
    let cause := flag (tripped != 0) 0 + flag hub 1 + flag hbm 2 + both + 256 * tripStacks tripped
    let s := s.mainOff
    (s.modAon fun a => { a with
      pstate := 5, thermTripped := true, cause := a.cause ||| cause, tripTime := some s.time.now, shutdownSince := s.time.now,
      mainInRange := a.mainInRange && excursion.isNone }).modMgmt fun m => { m with smbAlert := true }

/-- THERMAL_TRIP (R478). -/
def execThermalTrip (tripped : Nat) (hub hbm : Bool) (excursion : Option Bool) (t : Nat) (s : State) :
    Host.Outcome State Fault Refusal :=
  ranAt (below tripped (2 ^ 64)) t s (State.thermalTrip tripped hub hbm excursion)

/-- A clock step of a stack changes its timing only (Table 12.4, code 6); the delay is not given: a free value. -/
def State.clockStepped (k : Nat) (s : State) : State :=
  let r := s.fresh
  r.2.timingEvent 6 k 0xFF (r.1.toNat % 2 ^ 32)

/-- The calibrated temperatures of a stack's cluster sensors, in 1/64 °C, for their raw readings in slot order. -/
def State.stackTemps (s : State) (k : Nat) (raw : List Int) : List Int :=
  raw.zipIdx.map fun x => s.boot.effective.tempOf (16 * k + x.2) x.1

/-- The thermal step of a stack, on its hottest calibrated cluster temperature. -/
def State.thermalStep (k : Nat) (raw : List Int) (s : State) : State :=
  s.when_ (s.aon.railsUp && !raw.isEmpty) fun s =>
    let hot := maxD 0 (s.stackTemps k raw)
    let now := s.time.now
    let old := s.aon.thermStep.getD k 0
    let since := if hot < 97 * 64 then some ((s.aon.coolSince.getD k none).getD now) else none
    let cool := match since with
      | some t => decide (t + 1000 * ticksPerUs ≤ now)
      | none => false
    let spaced := match s.aon.lastThermDown.getD k none with
      | some t => decide (t + 1000 * ticksPerUs ≤ now)
      | none => true
    let up := decide (100 * 64 ≤ hot ∧ old < 4)
    let down := !up && cool && spaced && decide (0 < old)
    let before := s.clockStep k
    let s := s.modAon fun a =>
      let st := a.stackTemp.set k hot
      { a with
        thermStep := a.thermStep.set k (if up then old + 1 else if down then old - 1 else old),
        coolSince := a.coolSince.set k since,
        lastThermDown := if down then a.lastThermDown.set k (some now) else a.lastThermDown,
        stackTemp := st, tempCompute := maxD 0 st / 64, tempValid := true,
        overLimit := st.any fun x => decide (105 * 64 < x) }
    if s.clockStep k ≠ before then s.clockStepped k else s

/-- THERMAL_STEP (R477). -/
def execThermalStep (stack : Nat) (temps : List Int) (t : Nat) (s : State) : Host.Outcome State Fault Refusal :=
  ranAt (below stack 4) t s (State.thermalStep stack temps)

/-- At least 1 ms since an instant. -/
def State.spacedMs (s : State) : Option Nat → Bool
  | some t => decide (t + 1000 * ticksPerUs ≤ s.time.now)
  | none => true

/-- The power limiter's sample: power and its 10 ms average in 0.1 W, voltage in 10 mV (R474). -/
def State.powerSample (power avg voltage : Nat) (s : State) : State :=
  s.when_ s.aon.railsUp fun s =>
    let a := s.aon
    let now := s.time.now
    let high := decide (4600 < power)
    let last460 := if high then some now else a.lastOver460
    let up := high || (decide (10 * a.limit < avg) && s.spacedMs a.lastStepUp)
    let down := !up && decide (100 * avg < 950 * a.limit) && s.spacedMs last460 && s.spacedMs a.lastStepChange
    let step := if up then min 4 (a.powerStep + 1) else if down then a.powerStep - 1 else a.powerStep
    let before := (List.range 4).map s.clockStep
    let s := s.modAon fun a => { a with
      power := avg, voltage := voltage, mainInRange := inR voltage 4000 6000, lastOver460 := last460, powerStep := step,
      lastStepUp := if up then some now else a.lastStepUp,
      lastStepChange := if step ≠ a.powerStep then some now else a.lastStepChange }
    (List.range 4).foldl (init := s) fun s k => if s.clockStep k ≠ before.getD k 0 then s.clockStepped k else s

/-- POWER_SAMPLE (R474). -/
def execPowerSample (power : Nat) (avg10ms : Nat) (voltage : Nat) (t : Nat) (s : State) : Host.Outcome State Fault Refusal :=
  ranAt true t s (State.powerSample power avg10ms voltage)

/-! ## Boot (R437-R440, R443, R448, R471) -/

/-- The DER certificates of a chain, by the length of each outer SEQUENCE. -/
def derCut : Nat → List Byte → List (List Byte)
  | 0, _ => []
  | fuel + 1, b =>
    let l := getU b 1 1
    let n := if l < 128 then 2 + l else if l = 0x81 then 3 + getU b 2 1 else 4 + getU b 2 1 * 256 + getU b 3 1
    if b.length < 2 ∨ getU b 0 1 ≠ 0x30 ∨ b.length < n then [] else b.take n :: derCut fuel (b.drop n)

/-- The identity certificate is the third of the chain (R443). -/
def Flash.identityCert (f : Flash) : List Byte := (derCut 3 f.certChain).getD 2 []

/-- The secure region is filled: keys but in RMA, and golden data; not while the lid is open or TAMPER_N low (R448, R449). -/
def State.fillSecure (sfw : List Byte) (s : State) : State :=
  if s.held && s.armed then s.wipeSecure
  else
    let keys := s.part.lifecycle != 4
    let area := s.flash.keys.read.getD (List.replicate 8 none)
    let open_ (k : Option WrappedKey) : Option (List Byte) :=
      k.bind fun k => Config.aesGcmOpen s.part.transportKey k.iv k.wrapped k.tag
    let s := s.modHub fun h => { h with secretsKeys := keys, secretsGolden := true, secureWiped := false, wipeDone := none }
    s.modBoot fun b => { b with
      contentKeys := if keys then area.map open_ else List.replicate 8 none,
      golden := (List.range 16).map fun v => (List.range 8).map fun u => (Config.goldenSignature sfw v u).toNat }

/-- The running set's versions and hashes. -/
def State.runSet (i : Nat) (bank : List Byte) (ms : List (List Byte)) (s : State) : State :=
  let m (k : Nat) := ms.getD k []
  let s := s.modBoot fun b => { b with
    mode := 0, cfwUp := true, activeBank := i, bootVersion := fwVersion (m 0), cfwVersion := fwVersion (m 1),
    sfwVersion := fwVersion (m 2), ucodeVersion := fwVersion (m 3), imageHashes := ms.map fun x => slice x 40 64,
    advance := bit (getU (m 0) 6 2) 0, svn := fwSvn (m 0), vendorPub := slice (m 0) 104 32 }
  let s := (s.modFlash fun f => { f with verified := f.verified.set i true }).fillSecure (fwImage bank (m 2))
  s.modSafety fun x => { x with cfwBeat := x.ssvNow }

/-- The effective calibration record, and whether the page was rejected (R429). -/
def State.calibrate (s : State) : CalRecord × Bool :=
  match s.flash.userCal.read with
  | none => (s.part.factory, false)
  | some b =>
    if s.calSigned b then
      let clamp (lim : Int) (v : Int) : Int := max (-lim) (min lim v)
      let ta := getSs b 32 1 64
      let va := getSs b 96 1 72
      let addT (i : Nat) (x : Int × Nat) : Int × Nat := (x.1 + 4 * clamp 32 (at0 ta i), x.2)
      let addV (i : Nat) (x : Int × Nat) : Int × Nat := (x.1 + clamp 40 (at0 va i), x.2)
      let cut (lim : Int) (l : List Int) : Bool := l.any fun v => clamp lim v != v
      ({ s.part.factory with
        temp := s.part.factory.temp.mapIdx addT, vmon := s.part.factory.vmon.mapIdx addV, userCounter := getU b 8 4,
        calFlags := flag (cut 32 ta) 0 + flag (cut 40 va) 1 }, false)
    else ({ s.part.factory with calFlags := 4 }, true)

/-- The retirements that the health page asks for, stack by stack in ascending slot order (R36, R426): the map, the
clusters retired, and whether one would break R36. -/
def State.retire (s : State) (marks : List Nat) : Dum × List Nat × Bool :=
  (List.range 64).foldl (init := (s.part.dum, [], false)) fun acc p =>
    let d := acc.1
    if marks.contains p ∧ !d.disabled.getLsbD p then
      let left := ((List.range 16).filter fun i => !d.disabled.getLsbD (16 * stackOf p + i)).length
      if left ≤ 8 then (d, acc.2.1, true)
      else ({ d with disabled := d.disabled ||| BitVec.ofNat 64 (2 ^ p), reason := d.reason.set p 2,
                     mapVersion := (d.mapVersion + 1) % 65536 }, acc.2.1 ++ [p], acc.2.2)
    else acc

/-- What only a power-up does: certificate, calibration, health page and retirements, safety profile (R397, R426, R429,
R443). The answer says whether the device must boot into QUARANTINE. -/
def State.powerUp (s : State) : State × Bool :=
  let page := s.flash.health.read.getD {}
  let cal := s.calibrate
  let certOk := sha512 s.flash.identityCert == s.part.certHash
  let r := s.retire (if page.signed then page.marks.map (·.1) else [])
  let s := s.modFlash fun f => { f with health := f.health.write { page with bootCount := page.bootCount + 1 } }
  let s := s.modPart fun p => { p with dum := r.1 }
  let s := s.modClusters fun l => l.mapIdx fun p (c : Cluster) => if s.enabled p then c else { c with gate := .powerGated }
  let s := s.modBoot fun b => { b with
    certOk := certOk, effective := cal.1, calRejected := cal.2, healthRejected := !page.signed, retired := r.2.1 }
  let s := s.modSafety fun x => { x with profile := s.part.pendingProfile }
  let warned := s.mgmt.lid || s.mgmt.tamperPin || s.mgmt.glitch || s.mgmt.clkMon
  (s, !certOk || !s.part.factoryCrcOk || r.2.2 || (warned && inR s.part.lifecycle 1 2))

/-- Every VOFF as the health page has it; VOFF_INIT where its signature failed (R426). -/
def State.loadVoff (s : State) : State :=
  let page := s.flash.health.read.getD {}
  s.modClusters fun l => l.mapIdx fun i (c : Cluster) =>
    { c with test := { c.test with
        voff := if page.signed then at0 page.voff i else at0 s.part.factory.voffInit i } }

/-- The boot mode of R439; what forced QUARANTINE at power-up, or a third restart (R401), holds until power-up. -/
def State.bootMode (s : State) (ms : List (List Byte)) : Nat :=
  if s.safety.quarantineNext || !inCompat (ms.getD 0 []) 0xB1 || !rangesAgree ms then 1
  else if !qualified ms then 2 else 0

/-- BOOT: after the rails came up, or after a warm reset. BOOT_SEL is sampled at the first one after 3V3_AUX rose and holds
(R472). -/
def State.bootUp (sel : Bool) (s : State) : State :=
  let cold := s.aon.pstate == 2 && s.aon.railsUp
  s.when_ ((cold || s.safety.resetUnderWay) && !s.boot.cfwUp && s.boot.mode != 3 && s.part.lifecycle != 5) fun s =>
    let s := s.modMgmt fun m => { m with bootSel := some (m.bootSel.getD sel) }
    let first := (s.flash.bootBank.read.getD 0) ^^^ flag (s.mgmt.bootSel.getD false) 0
    let usable := [first, 1 - first].find? fun i => (s.part.bankBad (s.flash.banks.getD i [])).isNone
    match usable with
    | none => (s.modBoot fun b => { b with mode := 3 }).modMgmt fun m => { m with smbAlert := true }
    | some i =>
      let bank := s.flash.banks.getD i []
      let ms := (manifests bank).getD []
      let s := s.runSet i bank ms
      let p := if cold then s.powerUp else (s, false)
      let s := p.1.loadVoff.modSafety fun x => { x with quarantineNext := x.quarantineNext || p.2 }
      let s := s.modBoot fun b => { b with mode := s.bootMode ms }
      let s := if cold && s.boot.calRejected then s.warn 0x0124 0xFF 0xFF (le 8 0) else s
      let s := if cold && s.boot.healthRejected then s.warn 0x0124 0xFF 0xFF (le 8 1) else s
      s.modAon fun a => { a with pstate := if a.pstate = 2 then 3 else a.pstate }

/-- BOOT (R437). -/
def execBoot (t : BootAt) (s : State) : Host.Outcome State Fault Refusal :=
  ranAt true t.t s (State.bootUp t.bootSel)

/-! ## HUB_ONLY (R470) -/

/-- Something needs the stacks out of HUB_ONLY. -/
def State.stackNeed (s : State) : Bool :=
  let m := s.images
  let copying := (m.worldSlots ++ m.rigSlots ++ m.netSlots ++ m.costSlots).any fun x => x.state == 1
  let saving := s.mbx.cmds.any fun c => c.opcode == 0x0709 || c.opcode == 0x070A
  s.gridRuns || copying || saving || s.safety.resetUnderWay || (s.boot.cfwUp && s.safety.selfTests == 0)

/-- A stack leaves HUB_ONLY: its regulator and PLL run. -/
def State.hubOnlyExit (k : Nat) (s : State) : State :=
  s.when_ (s.stackNeed && (s.stk k).hubOnly && s.aon.railsUp) fun s =>
    (s.modStk k fun x => { x with hubOnly := false, pllStopped := false }).modAon fun a =>
      { a with pstate := if a.pstate = 3 then 4 else a.pstate }

/-- HUB_ONLY_EXIT (R470). -/
def execHubOnlyExit (stack : Nat) (t : Nat) (s : State) : Host.Outcome State Fault Refusal :=
  ranAt (below stack 4) t s (State.hubOnlyExit stack)

/-- A stack returns to HUB_ONLY when nothing needs it. -/
def State.hubOnlyEntry (k : Nat) (s : State) : State :=
  s.when_ (!s.stackNeed && !(s.stk k).hubOnly) fun s =>
    let s := s.modStk k fun x => { x with hubOnly := true, pllStopped := true }
    if s.stks.all (·.hubOnly) then s.modAon fun a => { a with pstate := if a.pstate = 4 then 3 else a.pstate } else s

/-- HUB_ONLY_ENTRY (R470). -/
def execHubOnlyEntry (stack : Nat) (t : Nat) (s : State) : Host.Outcome State Fault Refusal :=
  ranAt (below stack 4) t s (State.hubOnlyEntry stack)

/-! ## WAKE_N, SMB_ALERT_N, JTAG -/

/-- WAKE_N is released 1 s after it was asserted (R470). -/
def State.wakeTimeout (s : State) : State :=
  s.when_ (s.aon.wakeN && decide (s.aon.wakeSince + 1000000 * ticksPerUs ≤ s.time.now)) fun s =>
    s.modAon fun a => { a with wakeN := false }

/-- WAKE_N_TIMEOUT (R470). -/
def execWakeNTimeout (t : Nat) (s : State) : Host.Outcome State Fault Refusal := ranAt true t s State.wakeTimeout

/-- The Alert Response Address read releases SMB_ALERT_N (R479). -/
def execSmbAlertResponse (t : Nat) (s : State) : Host.Outcome State Fault Refusal :=
  ranAt true t s fun s => s.modMgmt fun m => { m with smbAlert := false }

/-- The mandatory instructions: EXTEST 0x00, SAMPLE/PRELOAD 0x01, IDCODE 0x02, BYPASS 0xFF (IEEE 1149.1 fixes the last;
log entry 40). -/
def jtagMandatory : List Nat := [0, 1, 2, 0xFF]

/-- What an instruction acts as (R480, Table 19.8). -/
def State.jtagActs (s : State) (code : Nat) : Nat :=
  let all := s.lifecycle == 0 || s.lifecycle == 3 || (s.mgmt.vendorDebug && (s.lifecycle == 1 || s.lifecycle == 4))
  let extestBarred := s.lifecycle == 2 && code == 0 && !s.mgmt.perstAsserted
  if s.lifecycle ≠ 5 ∧ (all || (jtagMandatory.contains code && !extestBarred)) = true then code else 0xFF

/-- The IDCODE of stepping B1 (R480). -/
def jtagIdcode : Nat := 1 * 2 ^ 28 + 0x7160 * 2 ^ 12 + Config.manufacturerId.toNat * 2 + 1

/-- An instruction is loaded into the TAP, which is powered with the main bank; IDCODE selects the identity, BYPASS a 0. -/
def State.jtag (code : Nat) (s : State) : State :=
  s.when_ s.aon.railsUp fun s => s.modMgmt fun m =>
    { m with jtagInstr := code, jtagReset := false, jtagEffective := s.jtagActs code,
             jtagData := if s.jtagActs code = 2 then jtagIdcode else 0 }

/-- JTAG_INSTRUCTION (R480). -/
def execJtagInstruction (code : Nat) (t : Nat) (s : State) : Host.Outcome State Fault Refusal :=
  ranAt (below code 256) t s (State.jtag code)

end Sys2Proof.Machine
end

