-- ==== Sys2Proof/Machine/Reverify.lean ====
section
/-!
DEFINITION. Sys2Proof/Machine/Reverify.lean: the diverse re-verify (R184-R188) over capsules and the repeated limit check of
R410. The placing of axis samples within R186's bounds is the model's own (log entry 50).
-/
namespace Sys2Proof.Machine

/-! ## Segment-to-segment distance (R186 step 6) -/

/-- The squared distance of a point from a segment, FLOOR. -/
def pointSegSq (p a b : List Int) : Nat :=
  let d := vSub b a
  let dd := vSq d
  let t := vDot (vSub p a) d
  if t ≤ 0 then vSq (vSub p a) else if (dd : Int) ≤ t then vSq (vSub p b)
  else (vSq (vSub p a) * dd - t.natAbs ^ 2) / dd

/-- The squared distance of two segments, FLOOR: the least of the ends' distances and, where both lines are nearest inside
their segments, the lines' distance. -/
def segSegSq (a b c d : List Int) : Nat :=
  let d1 := vSub b a
  let d2 := vSub d c
  let r := vSub a c
  let e : Int := vSq d1
  let f : Int := vSq d2
  let m := vDot d1 d2
  let k := vDot d1 r
  let l := vDot d2 r
  let den := e * f - m * m
  let s := m * l - k * f
  let t := e * l - m * k
  let ends := min (min (pointSegSq a c d) (pointSegSq b c d)) (min (pointSegSq c a b) (pointSegSq d a b))
  if 0 < den ∧ 0 ≤ s ∧ s ≤ den ∧ 0 ≤ t ∧ t ≤ den then
    min ends (((vDot r (vCross d1 d2)).natAbs ^ 2) / den.toNat)
  else ends

/-! ## One capsule -/

/-- A capsule as it stands at a configuration: its ends, the flags of their forming and its budget E + E_q. -/
structure CapsuleAt where
  idx : Nat
  c : RigCapsule
  a : List Int
  b : List Int
  flags : Nat
  e : Nat

/-- What the samples on a capsule's axis give: the condition (rank, verdict, object), the least FLOOR(m/2), the least net per
class, the largest BUDGET, flags, guard hits, what the queries need and the faulty handles. -/
structure AxisOut where
  cond : Option (Nat × Nat × Nat) := none
  clear : Int := noNet
  mins : List Int := List.replicate 4 noNet
  budget : Nat := 0
  flags : Nat := 0
  guards : Nat := 0
  needs : List Need := []
  faults : List Nat := []

/-- One sample: the margin m, its condition or the first hit in the order of R186, the nets per class, and its query with the
flags and guard hits of the mover tests. -/
structure SampleOut where
  m : Int
  cond : Option (Nat × Nat × Nat)
  hit : Option (Nat × Nat × Nat)
  nets : List Int
  q : PointQuery
  flags : Nat
  guards : Nat

/-- The tests at one sample of a capsule's axis. CC0 forms the net clearances less the radius as S32 results (R70). -/
def SweepOp.sampleAt (op : SweepOp) (s : State) (frame : Nat) (based : Bool) (hulls : List Hull) (k : CapsuleAt)
    (x : List Int) : SampleOut :=
  let crust (c : Nat) := op.b.crust c k.c.group
  let q := s.pointQuery op.b.world frame based k.idx (x, k.flags) k.e 0 crust
  let stat (c : Nat) := q.nets.getD c noNet
  let vs := hulls.map fun h => (h, certNet (h.net x (k.e + crust h.cls)))
  let mv : List (Nat × Nat × Int) := vs.map fun v => (v.1.cls, v.1.obj, v.2.1)
  let fl := vs.foldl (fun f v => f ||| v.2.2) 0
  let rho : Int := k.c.radius
  let net := collect ((List.range 4).map fun c =>
    saturate 32 coreSat (minD (stat c) (stat c :: (mv.filter (·.1 == c)).map (·.2.2)) - rho))
  let nets := net.1
  let hit (c : Nat) : Option (Nat × Nat × Nat) :=
    if stat c - rho < 0 then some (6, hitCode c, 0xFFFF)
    else (mv.find? fun m => m.1 == c && decide (m.2.2 - rho < 0)).map fun m => (6, hitCode c, m.2.1)
  let conds := (q.cond.toList.map fun c => (c.1, k.idx, c.2.1, k.idx, c.2.2)) ++ flagConds k.idx fl
  let rank := (conds.map (·.1)).foldl min 8
  { m := minD noNet (hardClasses.map fun c => nets.getD c noNet), cond := (firstCond conds).map fun c => (rank, c.1, c.2.2),
    hit := hardClasses.findSome? hit, nets := nets, q := q, flags := q.flags ||| fl ||| net.2,
    guards := q.guards + guardsIn (vs.map (·.2)) }

/-- The samples of an axis from `along` on, at most 64 (R186 step 3). -/
def SweepOp.march (op : SweepOp) (s : State) (frame : Nat) (based : Bool) (hulls : List Hull) (k : CapsuleAt) (len : Nat) :
    Nat → Nat → AxisOut → AxisOut
  | 0, _, o => { o with cond := some (8, 7, k.c.link) }
  | fuel + 1, along, o =>
    let d := vSub k.b k.a
    let x := if len = 0 then k.a else vAdd k.a (d.map fun v => v * along / len)
    let r := op.sampleAt s frame based hulls k x
    let o := { o with
      budget := max o.budget r.q.budget, flags := o.flags ||| r.flags, guards := o.guards + r.guards,
      needs := o.needs ++ r.q.need.toList }
    match r.cond with
    | some c => { o with cond := some c, faults := r.q.faults }
    | none =>
      let o := { o with mins := minNets o.mins r.nets, clear := min o.clear (r.m / 2) }
      match r.hit with
      | some h => { o with cond := some h }
      | none =>
        if (4 * vSq (vSub k.b x) : Int) ≤ r.m ^ 2 then o
        else op.march s frame based hulls k len fuel (min len (along + (r.m / 2 - 2).toNat)) o

/-! ## One configuration and the advancement -/

/-- The capsule pairs of a rig (R126): every capsule of two distinct links that a sphere pair joins. -/
def Rig.capsulePairs (r : Rig) : List (Nat × Nat) :=
  let linkOf (i : Nat) : Nat := ((r.spheres[i]?).map (·.link)).getD 0
  let capLink (i : Nat) : Nat := ((r.capsules[i]?).map (·.link)).getD 0
  let joined := (r.pairs.map fun p => (linkOf p.1, linkOf p.2)).filter fun p => p.1 != p.2
  (List.range r.capsules.length).flatMap fun i => ((List.range r.capsules.length).filter fun j =>
    decide (i < j) && (joined.contains (capLink i, capLink j) || joined.contains (capLink j, capLink i))).map fun j => (i, j)

/-- Capsule tests of a configuration (R186): the result as an `Eval`, with hit objects and sphere indices of capsules. -/
def SweepOp.evalCapsules (op : SweepOp) (s : State) (q : List Int) (ta tb : Nat) : Eval :=
  let b := op.b
  let w := s.wd b.world
  let q0 := at0 q 0
  let frame := w.baseFrame q0
  let based := (w.baseSeg q0).isSome
  let ps := b.rig.pose (q0 - (w.seg frame).sStart) q
  let poseOf (i : Nat) : Pose := ps.getD i ⟨ident30, [0, 0, 0]⟩
  let caps : List CapsuleAt := (List.range b.rig.capsules.length).filterMap fun i => (b.rig.capsules[i]?).map fun c =>
    let a := outPos coreSat ((poseOf c.link).point c.endA)
    let z := outPos coreSat ((poseOf c.link).point c.endB)
    { idx := i, c := c, a := a.1, b := z.1, flags := a.2 ||| z.2, e := c.e + b.rig.eq c.link }
  let hulls := op.tests.filterMap fun m => (m.2.hull m.1 ta tb).map (w.carryHull m.2.segment frame)
  let rs := caps.map fun k => (k, op.march s frame based hulls k (isqrtCeil (vSq (vSub k.b k.a))) 64 0 {})
  let pairs := b.rig.capsulePairs
  let selfs : List (Nat × Flagged) := pairs.map fun p => match caps[p.1]?, caps[p.2]? with
    | some x, some y =>
      let r := saturate 32 coreSat ((isqrt (segSegSq x.a x.b y.a y.b) : Int) - x.c.radius - y.c.radius - x.e - y.e)
      (p.1, certNet (r.1, r.2 ||| x.flags ||| y.flags))
    | _, _ => (p.1, 0, 0)
  let conds := rs.flatMap fun r => r.2.cond.toList.map fun c => (c.1, r.1.idx, c.2.1, r.1.idx, c.2.2)
  let selfConds := selfs.zipIdx.filterMap fun n =>
    let p := pairs.getD n.2 (0, 0)
    if n.1.2.1 < 0 then some (7, n.2, 4, p.1, p.2) else none
  let links := (caps.map fun k => k.c.link).dedup
  { cond := firstCond (conds ++ (selfs.flatMap fun v => flagConds v.1 v.2.2) ++ selfConds)
    faults := (rs.flatMap fun r => r.2.faults).dedup
    mins := rs.foldl (fun m r => minNets m r.2.mins) (List.replicate 4 noNet)
    clear := links.map fun l => (l, minD noNet ((rs.filter fun r => r.1.c.link == l).map fun r => r.2.clear))
    selfs := selfs.map (·.2.1)
    budget := (rs.map fun r => r.2.budget).foldl max 0
    cells := []
    flags := selfs.foldl (fun f v => f ||| v.2.2) (rs.foldl (fun f r => f ||| r.2.flags) 0)
    guards := sumN (rs.map fun r => r.2.guards) + guardsIn (selfs.map (·.2))
    needs := rs.flatMap fun r => r.2.needs }

/-- The limiters of a step, divided on the DSU with FLOOR (R186 step 2), with the flags raised. -/
def SweepOp.capsuleLimits (op : SweepOp) (e : Eval) (k : Nat) : List (Nat × Int) × Nat :=
  let r := op.b.rig
  let rates := (List.range r.links.length).map fun i => r.rateIn op.cp i k
  let quot (clear : Int) (rate : Nat) : Flagged := dsuDiv coreSat clear rate 16 floorMode
  let links : List (Nat × Flagged) := (sortBy (fun a b => decide (a.1 < b.1)) e.clear).filterMap fun c =>
    if rates.getD c.1 0 = 0 then none else some (c.1, quot c.2 (rates.getD c.1 0))
  let top := rates.foldl max 0
  let ps := r.capsulePairs
  let pairs : List (Nat × Flagged) := if top = 0 then [] else (List.range e.selfs.length).map fun i =>
    (((r.capsules[(ps.getD i (0, 0)).1]?).map (·.link)).getD 0, quot (at0 e.selfs i) (2 * top))
  ((links ++ pairs).map fun l => (l.1, l.2.1), (links ++ pairs).foldl (fun f l => f ||| l.2.2) 0)

/-- The advancement over capsules, with fuel for its 256 steps. -/
def SweepOp.advanceCapsules (op : SweepOp) (s : State) : Nat → Progress → Progress
  | 0, x => { x with verdict := 7, hitSigma := x.sigma }
  | fuel + 1, x =>
    let seg := min (x.sigma / 65536) (op.b.n - 4)
    let next := min ((x.sigma / 65536 + 1) * 65536) op.last
    let t := op.times x.sigma next
    let e := op.evalCapsules s (splineAt op.cp op.b.dof op.b.n x.sigma) t.1 t.2
    let x := x.seen e x.sigma
    match e.cond with
    | some c => x.ended c e.faults x.sigma
    | none =>
      if x.sigma ≥ op.last then x
      else
        let l := op.capsuleLimits e seg
        let x := { x with flags := x.flags ||| l.2 }
        let st := stepOf ((x.sigma / 65536 + 1) * 65536 - x.sigma) l.1
        if st.1 = 0 then { x with verdict := 7, hitSigma := x.sigma, hitObj := st.2.getD 0xFFFF }
        else op.advanceCapsules s fuel { x with sigma := min (x.sigma + st.1) op.last }

/-! ## The limit check (R410) -/

/-- The check of R207 over a winner's time map: its start node is that of its repair window. -/
def Binding.limitIn (b : Binding) (e : Entry) (vt : Option (List (List (Option Nat)))) : TsIn :=
  { b := b, cp := e.cp, start := if e.origin = 1 then gridLo b.sigmaEnd ((e.winA - 3) * 65536) else 0, speed0 := 0,
    old := e.tm, vt := vt }

/-- The first limit that a winner breaks over the whole of its time map: joints in index order, then tool points
(0x8000 + index). -/
def TsIn.limitBroken (x : TsIn) (sp : List Nat) : Option Nat :=
  match x.joints.find? fun d => !((List.range 255).all fun g => x.jointOk sp g d) with
  | some d => some d
  | none => (x.toolList.find? fun t => !((List.range 255).all fun g => x.toolOk sp g t)).map (0x8000 + ·)

/-- The limit check that ends a re-verify, with the target's own PROBE, whose faulty pan is PAN_FAULT and whose certified value out
of its range is GUARD_CERT, both colliding (R73, R162, R410). -/
def SweepOp.limitCheck (op : SweepOp) (s : State) (e : Entry) (x : Progress) : Progress :=
  let b := op.b
  let probe := if b.cartesian then
      some ({ op with direct := true }.probe s b.sigmaEnd fun g g' =>
        (e.tStart + 50 * (tmAt e.tm g).tLo, e.tStart + 50 * (tmAt e.tm g').tHi))
    else none
  let x := match probe with
    | some r => { x with flags := x.flags ||| r.2.flags, guards := x.guards + r.2.guards, needs := x.needs ++ r.2.needs }
    | none => x
  let bad := probe.bind fun r => match r.2.faults with
    | h :: _ => some (x.ended (10, r.2.hitSphere, h % 65536) r.2.faults r.2.hitSigma)
    | [] => if bit r.2.flags 5 then some (x.ended (8, r.2.hitSphere, certTensor) [] r.2.hitSigma) else none
  match bad with
  | some y => y
  | none => match (b.limitIn e (probe.map fun r => b.vtOf r.1)).limitBroken (e.tm.map (·.speed)) with
    | some j => { x with verdict := 11, hitObj := j }
    | none => x

/-- The whole re-verify of an entry: the capsule advancement, then the limit check. -/
def SweepOp.reverified (op : SweepOp) (s : State) (e : Entry) : Progress :=
  let x := op.advanceCapsules s 256 { sigma := 0 }
  if x.verdict ≠ 0 then x else op.limitCheck s e x

/-- The REVERIFY of a shortlist entry at an epoch (R172, R182, R186). -/
def State.reverifyRun (s : State) (x : Stream) (e : Entry) (epoch : Nat) : Progress :=
  let b := s.binding x
  let op : SweepOp := {
    b := b, cp := e.cp, epoch := epoch, last := b.sigmaEnd, tests := s.culledMovers b x.q epoch e.cp,
    times := mapInterval e.tStart b.sigmaEnd e.tm }
  op.reverified s e

/-- The entry that a stream attempts, with the epoch latched. -/
def Stream.attempt? (x : Stream) : Option (Entry × Nat) :=
  x.attempting.bind fun a => ((x.device.getD [])[a.1]?).map fun e => (e, a.2)

/-- A REVERIFY ends with its verdict (R188). -/
def State.reverifyDone (p id : Nat) (s : State) : State :=
  match s.stream? id with
  | none => s
  | some x => match x.attempt? with
    | none => s
    | some a =>
      let r := s.reverifyRun x a.1 a.2
      let v := r.record (s.binding x).wid a.1.g 5 a.2
      (s.verdictDone p 5 11 x a.1.g r v).modStream id fun y => { y with attemptVerdict := some v }

/-- REVERIFY of the entry that a stream attempts, on the cluster of R185. -/
def State.reverifyOp (id : Nat) (s : State) : State :=
  match s.stream? id with
  | none => s
  | some x => match x.attempt?, s.reverifyCluster id with
    | some a, some p =>
      s.when_ (s.gridRuns && s.frame.phase == .afterHarvest && x.attemptVerdict.isNone && s.sweeps p &&
          !(s.cl p).flying 5 id a.1.g) fun s =>
        s.sweep p ⟨5, id, a.1.g, a.2⟩ (s.reverifyRun x a.1 a.2).needs (State.reverifyDone p id)
    | _, _ => s

/-- REVERIFY (R186). -/
def execReverify (stream : Nat) (t : Nat) (s : State) : Host.Outcome State Fault Refusal :=
  ranAt (streamOk stream) t s (State.reverifyOp stream)

end Sys2Proof.Machine
end

