-- ==== Sys2Proof/Machine/Resolve.lean ====
section
/-!
DEFINITION. Sys2Proof/Machine/Resolve.lean: the resolution and staging of parked queries, and the end of the check operations
that waited for them (R25, R92, R159, R161-R163, R268, R280).
-/
namespace Sys2Proof.Machine

/-! ## Staging (R163) -/

/-- The slot that a pan takes in its bank group: the lowest free one, else the unpinned one read longest ago. -/
def Cluster.slotFor (c : Cluster) (h : Nat) : Option Nat :=
  let slots := (List.range 64).filter fun i => i % 4 == h % 4
  match slots.find? fun i => !c.staged.any (·.slot == i) with
  | some i => some i
  | none =>
    let free := c.staged.filter fun x => x.slot % 4 == h % 4 && x.pins == 0
    ((sortBy (fun a b => a.lastRead < b.lastRead || a.lastRead == b.lastRead && decide (a.slot < b.slot)) free).head?).map
      (·.slot)

/-- The voxels of a pan go to their banks and rows (R25, R92), and its header to the slot's place (Table 11.3); each slot of
256 bytes takes a token (R271). -/
def State.copyPan (p slot h : Nat) (s : State) : State :=
  let k := stackOf p
  let b := s.panPayload h
  let s := (s.dmaWrite k (scratchAddr p (headerArea + 64 * slot)) (s.panHeader h)).dmaEvents p (headerAddr h) headerArea 64
  let s := s.dmaEvents p (payloadAddr h) 0 32768
  (List.range 128).foldl (init := s) fun s j => s.withToken k fun s =>
    (List.range 32).foldl (init := s) fun s i =>
      s.sramWrite (scratchAddr p (voxelOffset slot (32 * j + i))) (slice b (256 * j + 8 * i) 8)

/-- A pan takes a slot; what stood there goes. -/
def State.stageAt (p slot h : Nat) (s : State) : State :=
  let gen := getU (s.panHeader h) 12 4
  (s.copyPan p slot h).modCl p fun c => { c with
    readOrder := c.readOrder + 1,
    staged := (c.staged.filter (·.slot != slot)) ++ [⟨slot, h, gen, c.readOrder, 0⟩] }

/-- A pan of a query fails the checks of R162 at the address at which the query asks for it, or is marked bad. -/
def State.panBad (s : State) (n : Need) (h : Nat) : Bool :=
  s.worlds.badHandles.contains h || n.places.any fun x => x.1 == h && !s.panOk x.2 h

/-- A pan that is not staged yet is staged, unless it is bad (R162), every slot of its group is pinned or the DMA has no token; pan
requests and evictions are counted per stack (Table 20.2). -/
def State.stagePan (p : Nat) (n : Need) (s : State) (h : Nat) : State :=
  let c := s.cl p
  if c.holdsPan h || s.panBad n h || !s.dmaReady (stackOf p) then s
  else match c.slotFor h with
    | none => s
    | some i =>
      let s := s.bumpStk (stackOf p) 4
      let s := if c.staged.any (·.slot == i) then s.bumpStk (stackOf p) 5 else s
      s.stageAt p i h

/-! ## The end of an operation -/

/-- A check operation ends on the cluster where it is in flight. -/
def State.finishSweep (p : Nat) (f : Sweeping) (s : State) : State :=
  let s := s.modCl p fun c => { c with inFlight := c.inFlight.filter (· != f) }
  match f.kind with
  | 0 => s.checkDone p f.stream f.g f.epoch
  | 1 => s.recheckDone p f.stream f.g f.epoch
  | 2 => s.repairDone p f.stream f.epoch
  | 3 => s.stopDone p f.stream f.epoch
  | 4 => s.probeDone p f.stream f.g f.epoch
  | _ => s.reverifyDone p f.stream

/-- Operations in flight none of whose queries waits any more end, in the order in which they began. -/
def State.finishSweeps (p : Nat) (s : State) : State :=
  let c := s.cl p
  let gone := c.inFlight.filter fun f => !c.parked.any fun k => k.kind == f.kind && k.stream == f.stream && k.g == f.g
  gone.foldl (fun s f => s.finishSweep p f) s

/-! ## RESOLUTION_REQUEST -/

/-- The index of the entry of the resolution table that was read longest ago, ties by lowest index. -/
def Cluster.oldestEntry (c : Cluster) : Nat :=
  let age (i : Nat) : Nat := (c.resolved.getD i (0, 0, 0)).2.2
  (List.range c.resolved.length).foldl (fun j i => if age i < age j then i else j) 0

/-- The resolution table takes a key it does not hold: in its first free entry, or with all 2,048 taken in place of the one read
longest ago (R159, R163). -/
def Cluster.resolve (c : Cluster) (k : Nat × Nat) : Cluster :=
  let e := (k.1, k.2, c.readOrder)
  if c.knows k.1 k.2 then { c with
    readOrder := c.readOrder + 1,
    resolved := c.resolved.map fun r => if r.1 == k.1 && r.2.1 == k.2 then e else r }
  else { c with
    readOrder := c.readOrder + 1,
    resolved := if c.resolved.length < 2048 then c.resolved ++ [e] else c.resolved.set c.oldestEntry e }

/-- The entries of a query's cell and cubes are resolved and its pans staged. With all of them there the query leaves the store
for the lanes; with every slot of a group pinned the request waits. A query that needs a bad pan waits for no pan: its verdict is
PAN_FAULT. -/
def State.resolveQuery (p query : Nat) (n : Need) (s : State) : State :=
  let s := s.modCl p fun c => n.keys.foldl Cluster.resolve c
  let s := n.pans.foldl (State.stagePan p n) s
  if n.pans.all fun h => (s.cl p).holdsPan h || s.panBad n h then
    s.modCl p fun c => { c.enterLanes s.time.now n with parked := c.parked.eraseIdx query }
  else s

/-- A pan that cannot be read is not used: its handle is bad, and every query that needs it gets PAN_FAULT, which ends its
operation (R162, R422). -/
def State.spoilPan (p h : Nat) (s : State) : State :=
  let hit := (s.cl p).parked.filter fun k => k.need.pans.contains h
  (s.panFault p h).modCl p fun c => { c with
    parked := c.parked.filter fun k => !hit.any fun x => x.kind == k.kind && x.stream == k.stream && x.g == k.g }

/-- Address `a` lies in the `n` bytes from `b` on. -/
def lies (a b n : Nat) : Bool := decide (b ≤ a ∧ a < b + n)

/-- The pan of a query whose header or payload holds an HBM address. -/
def Need.panOf (n : Need) (a : Nat) : Option Nat :=
  n.pans.find? fun h => lies a (headerAddr h) 64 || lies a (payloadAddr h) 32768

/-- The directory or fine-map entry of a query that holds an HBM address. -/
def State.entryOf (s : State) (n : Need) (a : Nat) : Bool :=
  lies a (dirAddr n.dir) 8 || n.fine.any fun f => lies a (fineAddr (dirFine (s.dirEntry f.1)) f.2) 4

/-- RESOLUTION_REQUEST: the stack DMA resolves a parked query and stages its pans (R161). Of the reads that this takes, one may show
an error, at its address (R280): a corrected read is late; an uncorrectable one is PAN_FAULT where a pan is read, HBM_UE where a
directory or fine-map entry is. An address that the query does not read shows nothing. -/
def State.resolution (p query : Nat) (read : HbmRead) (s : State) : State :=
  match (s.cl p).parked[query]? with
  | none => s
  | some k =>
    s.when_ (s.enabled p && decide (query < 64)) fun s =>
      let s := (s.modCl p fun c => c.lanesDone s.time.now).selEvent 0 p 0x0A 0 0xFFFF 0xFFFF 1
      let go (s : State) : State := (s.resolveQuery p query k.need).finishSweeps p
      match read.fault, k.need.panOf read.addr, s.entryOf k.need read.addr with
      | .corrected, some _, _ => go (s.hbmCorrected p read.addr)
      | .corrected, none, true => go (s.hbmCorrected p read.addr)
      | .uncorrectable, some h, _ => ((s.bumpHub 4).spoilPan p h).finishSweeps p
      | .uncorrectable, none, true => (s.bumpHub 4).hwFault 0x0101 p read.addr
      | _, _, _ => go s

/-- RESOLUTION_REQUEST (R161). -/
def execResolutionRequest (cluster query : Nat) (read : HbmRead) (t : Nat) (s : State) :
    Host.Outcome State Fault Refusal :=
  ranAt (below cluster 64) t s (State.resolution cluster query read)

end Sys2Proof.Machine
end

