-- ==== Sys2Proof/Machine/Opening.lean ====
section
/-!
DEFINITION. Sys2Proof/Machine/Opening.lean: phase 1 of a frame (FRAME_OPEN: R42, R57-R60, R76, R100, R289, R295, R300, R402,
R425, R426) and the assay slot (R404-R406).
-/
namespace Sys2Proof.Machine

/-- What a mid-frame halt adds to the instants of R306: in Exact mode only. -/
def State.haltShift (s : State) : Nat := if s.frame.conf.exact then s.req.haltTicks else 0

/-! ## Drain audit (R59, R60) -/

/-- A compared book: its number in Table 02.5 (1 matching store, 2 ready list, 3 delay list, 4 NoC credits, 5 DMA tokens, 6 Zerelet
credits, 7 mailbox ownership), stack, unit, expected and found value. -/
structure Book where
  kind : Nat
  stack : Nat
  unit : Nat
  want : Nat
  found : Nat
  deriving DecidableEq, Repr

/-- The counts of a cluster that the hub compares: behind a frame that reached its guard those of its drain record, each
0xFFFFFFFF when the record fails its CRC or is another frame's (R270); else its structures as they stand (log entry 39). -/
def State.drainCounts (s : State) (p : Nat) : List Nat :=
  let x := (s.cl p).sched
  let b := s.drainBytes p
  if s.frame.phase != .guarded then [x.freeIn 0, x.freeIn 1, x.freeIn 2, (s.cl p).creditsOut]
  else if drainCrcOk b && BitVec.ofNat 32 (getU b 0 4) + 1 == s.frame.counter then [getU b 4 2, getU b 6 1, getU b 7 1, getU b 8 2]
  else List.replicate 4 0xFFFFFFFF

/-- The books of a cluster (Table 02.5). -/
def State.clusterBooks (s : State) (p : Nat) : List Book :=
  ([256, 64, 32, 0].zip (s.drainCounts p)).zipIdx.map fun b => ⟨b.2 + 1, stackOf p, p, b.1.1, b.1.2⟩

/-- The books of a stack's DMA. -/
def State.stackBooks (s : State) (k : Nat) : List Book :=
  let x := s.stk k
  [⟨4, k, 0xFF, 0, x.storeCredits + x.hubCredits + x.hubSideCredits⟩, ⟨5, k, 0xFF, 16, x.dmaTokens⟩]

/-- The initial credits of each virtual channel (R377). -/
def creditDepth : List Nat := [32, 256, 512, 128]

/-- The credit books of a port: the sum per channel, and no credit out longer than one round trip (10 µs) unless under
retry. -/
def State.portBooks (s : State) (i : Nat) : List Book :=
  let p := s.port i
  if !p.up then [] else (List.range 4).flatMap fun vc =>
    let c := p.credits.getD vc (0, 0)
    let late := !p.retrying && (p.creditTimes.getD vc []).any fun sent => decide (sent + 10 * ticksPerUs < s.time.now)
    [⟨6, 0xFF, 4 * i + vc, creditDepth.getD vc 0, c.1 + c.2⟩] ++
      if late then [⟨6, 0xFF, 4 * i + vc, 0, c.2⟩] else []

/-- The ownership book of a function. -/
def State.mailBook (s : State) (fn : Nat) : Book :=
  ⟨7, 0xFF, fn, (s.mbx.cmds.filter fun c => c.fn == fn && !c.silentDrop).length, (s.mbx.own.filter fun o => o.1 == fn).length⟩

/-- The first book out of balance. -/
def State.badBook (s : State) : Option Book :=
  (s.enabledList.flatMap s.clusterBooks ++ (List.range 4).flatMap s.stackBooks ++ (List.range 4).flatMap s.portBooks ++
    (List.range 17).map s.mailBook).find? fun b => b.want != b.found

/-- DRAIN_AUDIT: the frame does not open further; the argument is log entry 39's. -/
def State.drainFault (b : Book) (s : State) : State :=
  (s.modReq fun r => { r with faultedOpen := true }).detect 0x0006 b.stack (if b.kind ≤ 4 then b.unit else 0xFF) 0xFF
    (le 1 b.kind ++ le 1 b.stack ++ le 1 b.unit ++ [0] ++ le 4 b.want ++ le 4 b.found ++ zeros 4)

/-! ## The instants and the counter -/

/-- The FRAME_END entry of the next frame, in replay. -/
def State.recordedEnd (s : State) : Option Capture :=
  s.det.replay.find? fun e => e.kind == 6 && e.frame == s.frame.counter + 1

/-- A frame may open: on its grid instant, or in replay once its entries are fed. -/
def State.openDue (s : State) : Bool :=
  s.gridRuns && (s.frame.phase == .closed || s.frame.phase == .guarded) && !s.req.faultedOpen && s.boot.cfwUp &&
    if s.frame.devState = 3 then s.replayReady else decide (s.frame.nextOpen ≤ s.time.now)

/-- The key of the frame to open is not the recorded one. -/
def State.replayDiffers (s : State) : Bool :=
  s.frame.devState == 3 && match s.recordedEnd with
    | some e => e.payload.take 8 != s.nextKey.drop 248
    | none => false

/-- KEY_MISMATCH: replay stops before the frame runs (R300). -/
def State.stopReplay (s : State) : State :=
  let l := s.det.replayStalled
  let s := (s.pauseAll 0x0705).modDet fun d => { d with keyMismatch := true, replayStalled := [] }
  l.foldl (init := s) fun s k => match s.cmd? k.1 k.2 with
    | some c => s.refuse c 0x0206
    | none => s

/-- The frame counter, FRT and the actual open (R41, R42, R289, R300): in replay device time is set to the recorded FRT, a
correction reported as R413 asks (log entry 52). -/
def State.openTimes (s : State) : State :=
  let f := s.frame
  let conf := f.pendingConf.getD f.conf
  match (if f.devState = 3 then s.recordedEnd else none) with
  | some e =>
    let frt := getU e.payload 8 8
    (s.modFrame fun f => { f with
      counter := f.counter + 1, anyOpened := true, frt := frt, openTime := frt, t0s := frt, k := 1 }).modTime fun b =>
        { b with now := frt, corrections := b.corrections ++ [(b.now, (frt : Int) - b.now)] }
  | none =>
    let frt := s.nextFrt
    let fresh := conf.period != f.conf.period
    s.modFrame fun f => { f with
      counter := f.counter + 1, anyOpened := true, frt := frt, openTime := f.nextOpen,
      t0s := if fresh then frt else f.t0s, k := if fresh then 1 else f.k + 1 }

/-! ## What the open puts in force -/

/-- Worlds at the open: the movers of the last T_c stay for comparison, the dirty set empties. -/
def State.openWorlds (s : State) : State :=
  s.modWorlds fun y => { y with
    ingestUsed := 0, ws := y.ws.map fun (w : World) => { w with prevMovers := w.movers, dirty := [] } }

/-- A SOFT mover whose window has passed at the open time (R100). -/
def Mover.expired (m : Mover) (opened : Nat) : Bool := m.cls == 2 && decide (m.tTo < opened)

/-- The entries of a list of movers that expire. -/
def expiredIn (l : List (Option Mover)) (opened : Nat) : List Nat :=
  (List.range l.length).filter fun i => ((l.getD i none).map (·.expired opened)).getD false

/-- The records of a world's expired movers become empty in HBM, and its urgent slots in the clusters' copies (R109, R114). -/
def State.expireRecords (w : Nat) (s : State) : State :=
  let x := s.wd w
  let gone := expiredIn x.urgent s.frame.frt
  let s := (expiredIn x.movers s.frame.frt ++ gone.map (· + 1024)).foldl (init := s) fun s i => s.hbmWrite (moverAddr w i) (zeros 96)
  if gone.isEmpty then s else s.copyUrgents w

/-- SOFT movers whose T_TO has passed leave their entries empty (R100); the open time is FRT (R289). -/
def State.expireMovers (s : State) : State :=
  let keep (o : Option Mover) : Option Mover := o.bind fun m => if m.expired s.frame.frt then none else some m
  let s := (List.range 4).foldl (fun s w => s.expireRecords w) s
  s.modWorlds fun y => { y with ws := y.ws.map fun (w : World) => { w with movers := w.movers.map keep, urgent := w.urgent.map keep } }

/-- Shard and farming tables take effect at the first open after the census that followed them (R352). -/
def State.openTables (s : State) : State :=
  let due := s.fabric.census == 4
  let s := s.when_ (due && s.farming.shardsCensus) fun s => s.modFarming fun f =>
    { f with shards := f.pendingShards.getD f.shards, pendingShards := none, shardsCensus := false }
  s.when_ (due && s.farming.farmsCensus) fun s => s.modFarming fun f =>
    { f with farms := f.pendingFarms.getD f.farms, pendingFarms := none, farmsCensus := false }

/-- Paused sessions run again. -/
def State.resumeSessions (s : State) : State :=
  let cause := if s.frame.devState = 3 then 0x0705 else 0x070B
  (List.range 16).foldl (init := s) fun s i => if (s.ses i).state = 4 then s.sesTo i 3 cause else s

/-- The key of the frame (R295). -/
def State.formKey (s : State) : State :=
  let k := s.keyRecord
  let d := k.drop 248
  let old := s.det.keyDigest
  let s := s.modDet fun x => { x with key := k, keyDigest := d }
  if d = old then s else s.deviceEvent 4 0xFF d

/-- TIME_SYNC in every trace buffer (R457). -/
def State.timeSync (s : State) : State :=
  (List.range 5).foldl (init := s) fun s b =>
    s.trace b (if b = 4 then 0xFF else 0xF0 + b) 1 (le 4 s.frameNo ++ zeros 4 ++ le 8 s.time.now ++ s.det.keyDigest)

/-- CLUSTER_RETIRED at the first open after power-up, once per retired cluster (R426). -/
def State.tellRetired (s : State) : State :=
  s.boot.retired.foldl (init := s.modBoot fun b => { b with retired := [] }) fun s p => s.warn 0x0125 (stackOf p) p []

/-! ## Margins (R425) -/

/-- Rewrites the test registers of a cluster. -/
def State.modTest (p : Nat) (f : ClusterTest → ClusterTest) (s : State) : State :=
  s.modCl p fun c => { c with test := f c.test }

/-- VOFF of a cluster moves by one step, at most once per rake cycle. -/
def State.voffStep (p : Nat) (v : Int) (s : State) : State :=
  let x := (s.cl p).test
  if x.voffCycle = some x.readCycle then s
  else (s.modTest p fun x => { x with voff := v, voffCycle := some x.readCycle }).modBoot fun b => { b with voffChanged := true }

/-- One margin step of a cluster that was read since the last open (Table 18.3). SLACK_CRITICAL recurs when the warm restart that
an earlier one of the cluster caused has run. -/
def State.marginStep (p : Nat) (s : State) : State :=
  let x := (s.cl p).test
  if !x.slackRead then s
  else
    let s := s.modTest p fun x => { x with slackRead := false }
    let init := at0 s.boot.effective.voffInit p
    if x.slackN < 8 then
      let again := s.safety.slackCritical.any fun c => c.1 == p && decide (c.2 < s.safety.warmResets)
      (s.modSafety fun y => { y with
        slackCritical := if y.slackCritical.any (·.1 == p) then y.slackCritical else y.slackCritical ++ [(p, y.warmResets)],
        quarantineNext := y.quarantineNext || again }).detect 0x0104 (stackOf p) p 0xFF (leS 8 x.slackN)
    else if x.slackN < 20 then
      (if x.voff < init + 8 then s.voffStep p (x.voff + 1)
      else
        let s := s.modBoot fun b => { b with markNew := b.markNew || !x.retirePending }
        (s.modTest p fun x => { x with retirePending := true, retireCause := if x.retirePending then x.retireCause else 1 }).warn
          0x0121 (stackOf p) p [])
    else if x.slackN > 32 ∧ x.voff > init - 8 then s.voffStep p (x.voff - 1)
    else s

/-! ## Transient state -/

/-- A stream at the open: what R304 carries, and nothing else. -/
def Stream.opened (x : Stream) : Stream := {
  id := x.id, session := x.session, candidates := x.candidates, ageLimit := x.ageLimit, ssvAge := x.ssvAge, active := x.active,
  removing := x.removing, pendingCandidates := x.pendingCandidates, recSeq := x.recSeq, sealSeq := x.sealSeq,
  motion := x.motion, published := x.published, affinity := x.affinity, lastRecord := x.lastRecord,
  tagLayer := x.tagLayer, tagOperator := x.tagOperator }

/-- The pans of a bank group that a cluster read most in the last frame, ties by lower handle, up to 16. -/
def Cluster.mostRead (c : Cluster) (g : Nat) : List Nat :=
  let l := c.panReads.filter fun r => r.1 % 4 == g
  ((sortBy (fun (a b : Nat × Nat) => decide (b.2 < a.2) || a.2 == b.2 && decide (a.1 < b.1)) l).take 16).map (·.1)

/-- The staging plan of a cluster as (slot, handle) (R163): per bank group the pans most read; one that is staged keeps its slot,
the others take the group's free slots in plan order. -/
def Cluster.plan (c : Cluster) : List (Nat × Nat) :=
  (List.range 4).flatMap fun g =>
    let most := c.mostRead g
    let kept := (c.staged.filter fun x => x.slot % 4 == g && most.contains x.handle).map fun x => (x.slot, x.handle)
    let free := (List.range 64).filter fun i => i % 4 == g && !kept.any (·.1 == i)
    kept ++ free.zip (most.filter fun h => !kept.any (·.2 == h))

/-- A cluster at the open (R56, R57, R76, R248): its structures, what waits for a dispatch slot, its counters and the staged pans
of the plan stay. -/
def Cluster.opened (empty : Bool) (c : Cluster) : Cluster :=
  let plan := if empty then [] else c.plan
  let staged := (c.staged.filter fun x => plan.contains (x.slot, x.handle)).map fun x => { x with pins := 0 }
  { sched := { c.sched with age := 0, cycle := 0, source := 0, freed := [0, 0, 0], inHand := [0, 0, 0] }, test := c.test,
    arithFlags := c.arithFlags, arithLast := c.arithFrame, counters := c.counters, selCounters := c.selCounters, gate := c.gate,
    creditsOut := c.creditsOut, staged := staged, stagePlan := plan,
    panPlaces := c.panPlaces.filter fun x => plan.any (·.2 == x.1), disagrees := c.disagrees, readOrder := c.readOrder,
    halted := c.halted, own := c.own, ownFlow := c.ownFlow, cores := c.cores }

/-- Frame registers at the open. -/
def Frame.opened (f : Frame) : Frame :=
  { f with
    phase := .opened, reverifyClosed := false, rakeAt := f.openTime + (f.conf.period - 30) * ticksPerUs,
    nextOpen := f.openTime + f.conf.period * ticksPerUs, overrun := 0, abandoned := 0, brineHeld := 0, brineLate := 0,
    slipTicks := 0, timingSlip := false, faultReaction := false, resumed := f.resumeNext, resumeNext := false,
    digest := List.replicate 8 0, records := [] }

/-- Farm messages bound to frames that have passed unused; replies among them count FARM_LATE (R391). -/
def State.dropFarmInputs (s : State) : State :=
  let gone (i : FabInput) : Bool := laterFrame s.frame.counter i.frame
  let late := (s.farming.inputs.filter fun i => gone i && i.kind == 1).length
  (s.modFarming fun f => { f with inputs := f.inputs.filter fun i => !gone i, usable := [] }).bumpHub 11 late

/-- Replay entries of frames that have passed leave the queue (R300, R349). -/
def State.dropReplayed (s : State) : State :=
  (s.modDet fun d => { d with replay := d.replay.filter fun e => !laterFrame s.frame.counter e.frame }).replayUnstall

/-- All transient state of the frame before is gone; `empty`: the staging plan is empty (R163, R305). -/
def State.clearFrame (empty : Bool) (s : State) : State :=
  let s := s.modFrame Frame.opened
  let s := s.modStreams fun l => (l.filter (·.guest.isNone)).map Stream.opened
  let s := s.modClusters fun l => l.map (Cluster.opened empty)
  let s := s.modStks fun l => l.mapIdx fun k (x : Stack) => { x with assayCluster := s.assayTarget k s.frame.counter, rakeTarget := none }
  let s := s.modReq fun r => { r with haltTicks := 0 }
  let s := s.modDet fun d => { d with opDigests := [] }
  (s.modErrors fun e => { e with warned := [] }).dropFarmInputs.dropReplayed

/-! ## SAFE pins (R402) -/

/-- At an open with a class-S session RUNNING: WDOG_IN is judged, and the pins become HEALTHY when nothing forbids it. -/
def State.openPins (s : State) : State :=
  if !s.classSRunning then s
  else if !s.wdogPresent then s.detect 0x0010 0xFF 0xFF 0xFF []
  else if s.safety.pinState = 0 ∧ s.safety.latch.isEmpty ∧ s.rakeFresh then s.modSafety fun x => { x with pinState := 1 }
  else s

/-- In Exact mode the static schedule of the sessions, streams and configuration in force takes effect at the open (R255). -/
def State.scheduleInForce (s : State) : State :=
  let l := if s.frame.conf.exact then s.scheduleInput s.frame.conf 16 else []
  s.modFrame fun f => { f with schedule := l }

/-! ## FRAME_OPEN -/

/-- The open of a frame whose books balance. -/
def State.openBalanced (s : State) : State :=
  let waits := (List.range 16).filter fun i => (s.ses i).starting
  let first := s.frame.k == 0
  let s := s.openTimes
  match s.badBook with
  | some b => (s.modFrame fun f => { f with phase := .closed }).drainFault b
  | none =>
    let s := s.openWorlds.settle
    let empty := (waits.any fun i => (s.ses i).state == 3) || s.frame.resumeNext || first
    let s := s.openTables.resumeSessions.expireMovers
    let s := (s.clearFrame empty).scheduleInForce.ageHeld.fabricAnswers.fabricGo
    let s := [0x0501, 0x0502, 0x0701, 0x070B].foldl (fun s op => s.answerWaiting op) s
    let s := s.formKey.timeSync.tellRetired
    let s := s.enabledList.foldl (fun s p => s.marginStep p) s
    s.openPins

/-- FRAME_OPEN: not before its instant, and in replay only with the recorded key. -/
def State.frameOpen (s : State) : State :=
  s.when_ s.openDue fun s => if s.replayDiffers then s.stopReplay else s.openBalanced

/-- FRAME_OPEN (R42, R59, R295). -/
def execFrameOpen (ssv : Nat) (t : Nat) (s : State) : Host.Outcome State Fault Refusal :=
  ranAt true t s fun s => (s.atSsv ssv).frameOpen

/-! ## The assay slot (R404-R406) -/

/-- The phases in which a frame is open. -/
def State.inFrame (s : State) : Bool := s.gridRuns && s.frame.phase != .closed && s.frame.phase != .guarded

/-- At 10 µs the assay comes to the cluster as a safety task (R251); its CC0 clears the nine registers as it takes it (R406). -/
def State.assayStart (k : Nat) (s : State) : State :=
  match (s.stk k).assayCluster with
  | none => s
  | some p =>
    s.when_ (s.inFrame && decide (s.frame.openTime + 10 * ticksPerUs ≤ s.time.now) &&
        !((s.cl p).sched.tasks.any fun h => h.task.op == .assay) &&
        !((s.cl p).test.assayComplete && (s.cl p).test.assayFrameLo == s.frameNo % 2 ^ 24)) (State.safetyTask p .assay 0)

/-- ASSAY_START (R406). -/
def execAssayStart (stack : Nat) (t : Nat) (s : State) : Host.Outcome State Fault Refusal :=
  ranAt (below stack 4) t s (State.assayStart stack)

/-- The mask of units whose signatures differ from the golden ones of the frame's vector. -/
def assayMask (golden sigs : List Nat) : Nat :=
  sumN ((List.range 8).map fun u => flag (sigs.getD u 0 != golden.getD u 0) u)

/-- The assay completes: signatures, the SSV's comparison, ASSAY_FAIL (R405); the idle cluster is gated (R61). Golden inputs that read 0 give signatures that
differ, in units the manual does not name (R406). -/
def State.assayComplete (k : Nat) (sigs : List Nat) (s : State) : State :=
  match (s.stk k).assayCluster with
  | none => s
  | some p =>
    s.when_ (s.inFrame && (s.cl p).test.assayRunning) fun s =>
      let sigs := (List.range 8).map fun u => sigs.getD u 0 % 2 ^ 64
      let s := (s.endSafety p .assay).modTest p fun x => { x with
        assaySig := sigs, assayComplete := true, assayFrameLo := s.frameNo % 2 ^ 24, assayRunning := false }
      let s := s.gateIdle p
      let fails (mask : Nat) (s : State) : State := (s.bumpCl p 13).detect 0x0001 k p 0xFF (le 16 mask)
      if !s.hub.secretsGolden then
        let r := s.fresh
        fails (r.1.toNat % 255 + 1) r.2
      else
        let mask := assayMask (s.boot.golden.getD (s.frameNo % 16) []) sigs
        if mask = 0 then (s.bumpCl p 12).modTest p fun x => { x with assayPassedAt := some s.time.now } else fails mask s

/-- ASSAY_COMPLETE (R405). -/
def execAssayComplete (stack : Nat) (sigs : List Nat) (t : Nat) (s : State) : Host.Outcome State Fault Refusal :=
  ranAt (below stack 4 && decide (sigs.length = 8)) t s (State.assayComplete stack sigs)

/-- At 40 µs the assay cluster joins frame work, gated while it is idle (R61); without the frame's signatures it is ASSAY_LATE. -/
def State.assayLate (k : Nat) (s : State) : State :=
  match (s.stk k).assayCluster with
  | none => s
  | some p =>
    s.when_ (s.inFrame && decide (s.frame.openTime + 40 * ticksPerUs ≤ s.time.now)) fun s =>
      let done := (s.cl p).test.assayComplete && (s.cl p).test.assayFrameLo == s.frameNo % 2 ^ 24
      let s := ((s.endSafety p .assay).modStk k fun x => { x with assayCluster := none }).gateIdle p
      if done then s else (s.modTest p fun x => { x with assayRunning := false }).detect 0x0002 k p 0xFF []

/-- ASSAY_LATE (R405). -/
def execAssayLate (stack : Nat) (t : Nat) (s : State) : Host.Outcome State Fault Refusal :=
  ranAt (below stack 4) t s (State.assayLate stack)

end Sys2Proof.Machine
end

