-- ==== Sys2Proof/Machine/Urgent.lean ====
section
/-!
DEFINITION. Sys2Proof/Machine/Urgent.lean: the application of urgent brine (R49, R109, R181) and what it touches (R228,
R229), in a running grid, in IDLE and PAUSED (R483) and in replay (R300).
-/
namespace Sys2Proof.Machine

/-! ## Touch (R228) -/

/-- The slots that a list of urgent records names in a world. -/
def touchedBy (w : Nat) (rs : List (List Byte)) : Touched := rs.map fun r => (w, getU r 32 1)

/-- The application of the newest epoch touches an entry of a stream's device shortlist. -/
def State.touchesEntry (s : State) (x : Stream) (i : Nat) (l : Touched) : Bool :=
  match (x.device.getD [])[i]? with
  | none => false
  | some e => s.touches (s.binding x) e.cp x.q.tStart (x.q.tStart + 50 * (tmAt e.tm 255).tHi) s.worlds.epoch l

/-- A stop that the application of the newest epoch tests: in Throughput mode also one whose STOP has not ended, which is then
re-issued; in Exact mode a STOP that the schedule puts before the application tests it as it ends (R229; log entry 95). -/
def State.touchesStop (s : State) (x : Stream) (l : Touched) : Bool :=
  let b := s.binding x
  x.stop.status != 2 && !(s.frame.conf.exact && x.stopPending) &&
    s.touches b (b.stopSpline x) x.stopTime.1 x.stopTime.2 s.worlds.epoch l

/-- The running attempt ends URGENT_TOUCH. -/
def Stream.touchAttempt (x : Stream) : Stream :=
  { x with attemptCodes := x.attemptCodes ++ [3], attempting := none, attemptVerdict := none }

/-- An entry that has reached AGREE ends URGENT_TOUCH. -/
def Stream.touchAgreed (i : Nat) (x : Stream) : Stream :=
  { x with attemptCodes := x.attemptCodes.set i 3, agreed := none, attemptVerdict := none }

/-- The three tests of R228 on a stream. -/
def State.touchStream (s : State) (l : Touched) (x : Stream) : Stream :=
  if !s.works x || x.committed || x.guest.isSome then x
  else
    let hit (i : Nat) : Bool := s.touchesEntry x i l
    let y := match x.attempting, x.agreed with
      | some a, _ => if hit a.1 then x.touchAttempt else x
      | none, some i => if hit i then x.touchAgreed i else x
      | none, none => x
    if s.touchesStop x l then y.touchStop s.frame.reverifyClosed s.worlds.epoch else y

/-- The REVERIFY of an attempt that was stopped, and the STOP that is re-issued, end where they are in flight. -/
def State.dropTouched (s old : State) : State :=
  s.modClusters fun l => l.map <| Cluster.dropSweeps fun kind id =>
    match old.stream? id, s.stream? id with
    | some x, some y => (kind == 5 && x.attempting != y.attempting) || (kind == 3 && x.stopEpoch != y.stopEpoch)
    | _, _ => false

/-! ## Application (R109, R181) -/

/-- The frame is past T_c: an application makes a new epoch. -/
def State.pastCutoff (s : State) : Bool := s.gridRuns && s.frame.phase != .closed && s.frame.phase != .opened

/-- Urgent movers that an application left set and whose ROT fails the check of R171. -/
def State.newFallbacks (s : State) (l : Touched) : Nat :=
  (l.dedup.filter fun k => (((s.wd k.1).urgent.getD k.2 none).map fun m => !rotOk m.rot).getD false).length

/-- The STOPs that an application has re-issued wait at the dispatcher again (R236). -/
def State.reissueStops (s : State) : State :=
  (s.streams.filter fun x => x.stopPending && x.stopEpoch == s.worlds.epoch).foldl (fun s x => s.issuePinned x .stop) s

/-- An application after T_c: a new epoch with its version of the slots, the ROT checks, and the touch test. -/
def State.newEpoch (l : Touched) (s : State) : State :=
  let s := s.modWorlds fun y => { y with
    epoch := y.epoch + 1, urgentVersions := y.urgentVersions ++ [y.ws.map fun (w : World) => w.urgent],
    urgentTouches := y.urgentTouches ++ [(y.epoch + 1, l)] }
  let s := s.bumpHub 18 (s.newFallbacks l)
  ((s.modStreams fun xs => xs.map (s.touchStream l)).dropTouched s).reissueStops

/-- One application has been made: its changes are copied into every enabled cluster (R109). -/
def State.applied (l : Touched) (s : State) : State :=
  s.when_ (!l.isEmpty) fun s =>
    let s := if s.pastCutoff then s.newEpoch l else s
    ((l.map (·.1)).dedup).foldl (fun s w => s.copyUrgents w) s

/-- One waiting urgent command is applied whole, or refused by its first failing record; `when_` is its checkpoint. -/
def State.applyUrgentCmd (when_ : Nat) (c : Cmd) (s : State) : State × Touched :=
  match c.recordList with
  | .inl i => (((s.captureBrine 3 when_ c).refuse c 0x0104 i).freeLanding c, [])
  | .inr rs => match applyUrgentRecords c.world 0 rs s with
    | .inl e => (((s.captureBrine 3 when_ c).refuse c e.1 e.2).freeLanding c, [])
    | .inr s =>
      let s := ((s.captureBrine 3 when_ c).countBrine c rs.length).freeLanding c
      (s.accept c (le 8 s.time.now ++ le 4 s.frameNo ++ le 1 when_ ++ zeros 3), touchedBy c.world rs)

/-- Commands applied one after another as one application. -/
def State.applyUrgentCmds (when_ : Nat) (cs : List Cmd) (s : State) : State :=
  let r := cs.foldl (init := (s, ([] : Touched))) fun (acc : State × Touched) c =>
    let o := acc.1.applyUrgentCmd when_ c
    (o.1, acc.2 ++ o.2)
  ((r.1.applied r.2).fabricAnswers).fabricGo

/-- The urgent commands that wait and arrived before an instant, in arrival order. -/
def State.urgentsBefore (s : State) (limit : Nat) : List Cmd :=
  sortBy Cmd.before (s.mbx.cmds.filter fun c => s.brineWaits c 0x0402 && decide (c.arrival < limit))

/-! ## Replayed urgents (R300) -/

/-- An entry and the fetched records that follow it. -/
abbrev Replayed := Capture × List Byte

/-- The next entry holds the records of this one. -/
def Capture.hasBulk (e d : Capture) : Bool :=
  e.kind == 1 && (d.kind == 2 || d.kind == 3) && d.source == e.source && d.slot == e.slot && d.frame == e.frame &&
    d.order == e.order + 1

/-- Entries with their fetched records. -/
def pairEntries : List Capture → List Replayed
  | [] => []
  | [e] => [(e, [])]
  | e :: d :: r => if e.hasBulk d then (e, d.payload) :: pairEntries r else (e, []) :: pairEntries (d :: r)

/-- The inputs of the frame in progress, in ORDER. -/
def State.replayed (s : State) : List Replayed :=
  pairEntries (sortBy (fun a b => decide (a.order < b.order)) (s.det.replay.filter fun e =>
    e.frame == s.frame.counter && [1, 2, 3, 5].contains e.kind))

/-- The command that a MAILBOX entry holds. -/
def cmdOfEntry (x : Replayed) : Cmd :=
  let b := x.1.payload
  let n := getU b 14 2
  { fn := x.1.source, slot := x.1.slot, opcode := getU b 4 2, flags := getU b 6 2, session := getU b 8 1,
    layerId := getU b 10 2, operatorId := getU b 12 2, seq := getU b 16 4,
    descs := (List.range n).map fun i => descOf (slice b (32 + 16 * i) 16), payload := slice b (32 + 16 * n) (getU b 20 4),
    bulk := x.2, stage := .ready, admitted := true, arrival := x.1.time, frame := x.1.frame }

/-- World and records of an entry that carries brine. -/
def brineOf (x : Replayed) : Nat × List (List Byte) :=
  let c := cmdOfEntry x
  let p := if x.1.kind = 1 then (c.world, c.records) else (getU x.1.payload 1 1, x.1.payload.drop 2)
  (p.1, match delimit (p.2.length + 1) p.2 [] with
    | .inr rs => rs
    | .inl _ => [])

/-- Replayed urgent inputs of the frame with a WHEN. -/
def State.replayedUrgents (s : State) (when_ : Nat) : List Replayed := s.replayed.filter fun x => x.1.when_ == when_

/-- An input leaves the replay queue with its records; a recording takes it as it applies (R298). -/
def State.takeReplayed (x : Replayed) (s : State) : State :=
  let own := s.det.replay.filter fun e => e == x.1 || x.1.hasBulk e
  let s := s.modDet fun d => { d with replay := d.replay.filter fun e => e != x.1 && !x.1.hasBulk e }
  own.foldl (fun s e => s.capturePut { e with order := s.det.captureOrder }) s

/-- One replayed urgent input is applied. -/
def State.applyReplayedUrgent (x : Replayed) (s : State) : State × Touched :=
  let w := brineOf x
  let s := s.takeReplayed x
  match applyUrgentRecords w.1 0 w.2 s with
  | .inl _ => (s, [])
  | .inr s => (s, touchedBy w.1 w.2)

/-- Replayed urgent inputs applied as one application. -/
def State.applyReplayedUrgents (xs : List Replayed) (s : State) : State :=
  let r := xs.foldl (init := (s, ([] : Touched))) fun (acc : State × Touched) x =>
    let o := acc.1.applyReplayedUrgent x
    (o.1, acc.2 ++ o.2)
  r.1.applied r.2

/-! ## The rows -/

/-- The instant of checkpoint Kj (R49); halts push back those after T_c (R306). -/
def State.checkpointAt (s : State) (j : Nat) : Nat :=
  (if j = 1 then s.cutoffAt else s.partAt (if j = 2 then 40 else if j = 3 then 60 else 80)) + s.haltShift

/-- All urgent records due at checkpoint Kj, as one application. -/
def State.applyCheckpoint (j : Nat) (s : State) : State :=
  if s.frame.devState = 3 then s.applyReplayedUrgents (s.replayedUrgents j)
  else s.applyUrgentCmds j (s.urgentsBefore (s.checkpointAt j))

/-- The epoch in force once a checkpoint after T_c has been applied (R181). -/
def State.noteCheckpoint (s : State) : State :=
  s.modWorlds fun y => { y with checkpointEpochs := y.checkpointEpochs ++ [y.epoch] }

/-- URGENT_CHECKPOINT: K1 at T_c before the inputs close, the others after T_c, each once and in order. -/
def State.urgentCheckpoint (j : Nat) (s : State) : State :=
  let open_ := if j = 1 then s.frame.phase == .opened else s.pastCutoff && s.worlds.checkpointEpochs.length + 1 == j
  s.when_ (s.gridRuns && s.frame.conf.exact && open_ && decide (s.checkpointAt j ≤ s.time.now)) fun s =>
    if j = 1 then s.applyCheckpoint 1 else (s.applyCheckpoint j).noteCheckpoint

/-- URGENT_CHECKPOINT (R49). -/
def execUrgentCheckpoint (j : Nat) (t : Nat) (s : State) : Host.Outcome State Fault Refusal :=
  ranAt (decide (1 ≤ j) && below j 5) t s (State.urgentCheckpoint j)

/-- The replayed Throughput-mode input that a row names, once its OFFSET is reached. -/
def State.replayedDue (s : State) (fn slot : Nat) : Option Replayed :=
  (s.replayedUrgents 0xFE).find? fun x =>
    (if fn = fabricFn then x.1.kind == 5 && x.1.slot == 1 else x.1.kind == 1 && x.1.source == fn && x.1.slot == slot) &&
      decide (s.frame.openTime + x.1.offset ≤ s.time.now)

/-- URGENT_APPLY: one command, in arrival order for its world; in Exact mode the checkpoints apply it. -/
def State.urgentApply (fn slot : Nat) (s : State) : State :=
  s.when_ (!s.frame.conf.exact) fun s =>
    if s.frame.devState = 3 then
      (match s.replayedDue fn slot with
      | some x => s.applyReplayedUrgents [x]
      | none => s)
    else match s.cmdFor fn slot (s.brineWaits · 0x0402) with
      | none => s
      | some c =>
        let first := !(s.mbx.cmds.any fun x => s.brineWaits x 0x0402 && x.world == c.world && x.before c)
        s.when_ (s.brineWaits c 0x0402 && first) (State.applyUrgentCmds 0xFE [c])

/-- URGENT_APPLY (R49); `fn` 17 names a command that arrived over the fabric. -/
def execUrgentApply (fn slot : Nat) (t : Nat) (s : State) : Host.Outcome State Fault Refusal :=
  ranAt (brineSlotOk fn slot) t s (State.urgentApply fn slot)

end Sys2Proof.Machine
end

