-- ==== Sys2Proof/Machine/Forming.lean ====
section
/-!
DEFINITION. Sys2Proof/Machine/Forming.lean: what is formed at T_c for each query of the frame: the current motion and the stop
trajectory (R234-R236), the carried plan and its dirty runs (R237-R239), R151's test, the key K (R153), farm requests and
replies and guest streams (R390-R392). The byte layout of farm messages is the model's own (log entry 53).
-/
namespace Sys2Proof.Machine

/-! ## Current motion and stop (R234, R235) -/

/-- The current motion for a query that starts at `t` (R234). -/
def Motion.atStart (m : Motion) (t : Nat) : Motion :=
  match m with
  | .standstill => .standstill
  | .plan p => if t < p.tStart + 50 * (tmAt p.tm 255).tHi then m else .standstill
  | .braking _ _ endTime => if t < endTime then m else .standstill

/-- e of R235 for a plan, in 0.25 µs. -/
def Plan.elapsed (p : Plan) (t : Nat) : Int := ((t : Int) - p.tStart) / 50

/-- Elapsed time of a motion's plan. -/
def Motion.elapsed (m : Motion) (t : Nat) : Int :=
  match m with
  | .standstill => 0
  | .plan p => p.elapsed t
  | .braking p _ _ => p.elapsed t

/-- g_lo of R235. -/
def nodeAtOrBefore (tm : List TmEntry) (e : Int) : Nat :=
  ((List.range 256).filter fun g => decide (((tmAt tm g).tHi : Int) ≤ e)).getLastD 0
/-- g_hi of R235. -/
def nodeAtOrAfter (tm : List TmEntry) (e : Int) : Nat :=
  ((List.range 256).find? fun g => decide (e ≤ ((tmAt tm g).tLo : Int))).getD 255

/-- a_s of R235, 32 fraction bits, FLOOR: the least over joints and the segments from σ on. -/
def Binding.stopAccel (b : Binding) (cp : List (List Int)) (sigma v0 : Nat) : Int :=
  let f2 := 2 ^ Config.limitFrac 2
  let k0 := min (sigma / 65536) (b.n - 4)
  let l := (List.range (b.n - 3 - k0)).flatMap fun i => (List.range b.dof).filterMap fun d =>
    let d1 := derivBound cp d (k0 + i)
    if d1 = 0 then none
    else some (((b.stopLim d * 2 ^ 64 : Nat) - (deriv2Bound cp d (k0 + i) * v0 ^ 2 * f2 : Nat) : Int) * 2 ^ 48 /
      (f2 * 2 ^ 64 * d1 : Nat))
  minD (2 ^ 63 - 1) l

/-- The stop descriptor from a plan (R235). DECEL is a_s rounded toward zero, as Table 09.11 states it (log entry 126); no cluster forms
it, since the one of block 0 is not known at T_c (R236), so its saturation raises no flag of R70. -/
def Binding.stopFrom (b : Binding) (p : Plan) (e : Int) : StopDesc :=
  let lo := nodeAtOrBefore p.tm e
  let hi := nodeAtOrAfter p.tm e
  let v0 := ((List.range (hi + 1 - lo)).map fun i => (tmAt p.tm (lo + i)).speed).foldl max 0
  let sLo := gridSigma b.sigmaEnd lo
  let sHi := gridSigma b.sigmaEnd hi
  let a := b.stopAccel p.cp sLo v0
  let base : StopDesc := {
    sigmaLo := sLo, sigmaHi := sHi, sigmaStop := sHi, speed0 := v0, decel := sat 32 (Int.tdiv a 256), kind := 1, planSeq := p.seq }
  if a ≤ 0 then { base with status := 2 }
  else
    let stop := sHi + ceilDiv (v0 ^ 2) (2 * a.toNat)
    if stop < b.sigmaEnd then { base with sigmaStop := stop, tStop := min 0xFFFFFFFF (ceilDiv (v0 * 2 ^ 16) a.toNat) }
    else { base with sigmaStop := b.sigmaEnd, tStop := (((tmAt p.tm 255).tHi : Int) - e).toNat, kind := 2 }

/-- The stop descriptor of a query's current motion (R235, R236); that of a braking stop holds the sequence number of the record
that published it. -/
def Binding.stopOf (b : Binding) (q : Query) (m : Motion) : StopDesc :=
  match m with
  | .standstill => { tStop := q.horizon }
  | .plan p => b.stopFrom p (p.elapsed q.tStart)
  | .braking _ d endTime => { d with tStop := ceilDiv (endTime - q.tStart) 50, status := 3, verdict := 255, epoch := 0 }

/-! ## R151 -/

/-- The lowest joint whose start or goal leaves its span, or whose c_0 or c_2 would leave S32 (R151). -/
def Binding.rangeJoint (b : Binding) (q : Query) : Option Nat :=
  (List.range b.dof).find? fun d =>
    let sp := b.span d
    let st := at0 q.qStart d
    let go := at0 q.qGoal d
    let ta := at0 q.tau d
    decide (st < sp.1 ∨ st > sp.2 ∨ go < sp.1 ∨ go > sp.2) || beyondS32 [st - ta, st + ta]

/-! ## The carried plan and its dirty runs (R237-R239) -/

/-- The plan that a stream carries into the frame (R237). -/
def State.carriedPlan (s : State) (b : Binding) (x : Stream) (q : Query) (m : Motion) : Option Plan :=
  let y := s.ses x.session
  match m with
  | .plan p =>
    if p.frame + 1 = s.frame.counter ∧ some p.rig = y.rig ∧ some p.net = y.net ∧ some p.cost = y.cost ∧
      (p.cp.getD 0 []).length = b.n ∧ p.qGoal = q.qGoal then some p else none
  | _ => none

/-- A swept box holds a coarse cell, given by its directory index (R88, R224). -/
def SweptBox.holds (x : SweptBox) (i : Nat) : Bool :=
  let slice := i / 512
  let iv := i / 32 % 16
  let iu := i % 32
  decide (x.sliceLo ≤ slice ∧ slice ≤ x.sliceHi ∧ x.iuLo ≤ iu ∧ iu ≤ x.iuHi ∧ x.ivLo ≤ iv ∧ iv ≤ x.ivHi)

/-- The new versions of the movers whose record differs from that of the previous T_c (R238). -/
def World.changedMovers (w : World) : List (Nat × Mover) :=
  (movedOf 0 w.movers).filter fun m => w.prevMovers.getD m.1 none != some m.2

/-- The set urgent slots to which a record was applied after the previous T_c (R238). -/
def World.changedUrgents (w : World) : List (Nat × Mover) :=
  (movedOf 0x400 w.urgent).filter fun m => w.urgentChanged.contains (m.1 - 0x400)

/-- A changed mover reaches segment `k` of a carried plan: it is present in the segment's mover interval and R172 keeps it;
urgent slots are never culled (log entry 54). -/
def State.dirtyMover (s : State) (b : Binding) (p : Plan) (k : Nat) (m : Nat × Mover) : Bool :=
  let t := mapInterval p.tStart b.sigmaEnd p.tm (k * 65536) ((k + 1) * 65536)
  (m.2.hull m.1 t.1 t.2).isSome && s.keeps b [((p.cp.getD 0 []).drop k).take 4] t.1 t.2 m

/-- Segment `k` of the carried spline is dirty (R238). -/
def State.dirtySegment (s : State) (b : Binding) (x : Stream) (p : Plan) (k : Nat) : Bool :=
  let w := s.wd b.world
  (s.ses x.session).wholeDirty || w.dirty.any ((p.swept.getD k ⟨0, 0, 0, 0, 0, 0⟩).holds) ||
    (w.changedMovers ++ w.changedUrgents).any (s.dirtyMover b p k)

/-- Maximal runs of consecutive numbers of an ascending list. -/
def runsOf : List Nat → List (Nat × Nat)
  | [] => []
  | k :: r => match runsOf r with
    | (a, z) :: rest => if a = k + 1 then (k, z) :: rest else (k, k) :: (a, z) :: rest
    | [] => [(k, k)]

/-- The REPAIR runs of a carried plan, in σ order (R239). -/
def State.dirtyRuns (s : State) (b : Binding) (x : Stream) (p : Plan) : List (Nat × Nat) :=
  runsOf ((List.range (b.n - 3)).filter (s.dirtySegment b x p))

/-! ## Forming one query -/

/-- A stream's query becomes work of the frame. -/
def State.formedStream (s : State) (x : Stream) (q : Query) (draw : Nat) : Stream :=
  let b := s.binding x
  let m := x.motion.atStart q.tStart
  let stop := b.stopOf q m
  let carried := s.carriedPlan b x q m
  { x with
    formed := true, kDraw := draw, motion := m, elapsed := m.elapsed q.tStart, stop := stop, stopPending := stop.status != 2,
    published := x.published.filter fun p => p.frame + 1 == s.frame.counter, outOfRange := b.rangeJoint q, carried := carried,
    repairRuns := (carried.map (s.dirtyRuns b x)).getD [] }

/-- Takes the draw of R153 in Throughput mode. -/
def State.draw (s : State) : Nat × State :=
  if s.frame.conf.exact then (0, s) else
    let r := s.fresh
    (r.1.toNat, r.2)

/-- A stream with a query and a RUNNING session waits to be formed. -/
def State.wantsForming (s : State) (x : Stream) : Bool :=
  x.active && !x.formed && x.guest.isNone && x.query.isSome && (s.ses x.session).state == 3

/-- Forms one stream. -/
def State.formStream (s : State) (id : Nat) : State :=
  match s.stream? id with
  | none => s
  | some x => match x.query with
    | none => s
    | some q =>
      let r := s.draw
      let y := r.2.formedStream x q r.1
      r.2.modStream id fun _ => y

/-! ## Farm messages (R390, R391; log entry 53) -/

/-- Bytes of a query record (Table 14.11). -/
def queryRecord (q : Query) : List Byte :=
  padTo 8 (le 1 q.stream ++ le 1 q.qStart.length ++ zeros 2 ++ le 4 q.horizon ++ le 8 q.tStart ++ le 4 q.speed0 ++ zeros 12 ++
    (q.qStart ++ q.qGoal ++ q.tau).flatMap (leS 4))

/-- A settings entry (Table 14.6). -/
def settingEntry (id : Nat) (body : List Byte) : List Byte := le 2 id ++ le 2 body.length ++ body

/-- A session's settings in SES_SET entry form. -/
def Settings.entries (x : Settings) : List Byte :=
  settingEntry 1 (x.crust.flatMap fun c => le 2 (c.getD 0xFFFF)) ++ settingEntry 2 (le 8 x.seed) ++
  settingEntry 3 (le 1 x.smoothIters ++ le 1 x.pivotExp ++ le 2 x.attrGain ++ le 4 x.clrRef) ++
  settingEntry 4 (x.costParam.flatMap (leS 4) ++ le 1 x.prerankK ++ le 1 x.repairW ++ le 1 x.repairBlocks ++ [0] ++
    le 4 x.repairLock) ++
  (match x.baseWindow with
    | some w => settingEntry 5 (leS 4 w.1 ++ leS 4 w.2)
    | none => []) ++
  settingEntry 6 (le 2 x.speedScale ++ zeros 2) ++ settingEntry 7 (le 1 (flag x.moverDefer 0) ++ zeros 3)

/-- The first 8 bytes of a slot's hash. -/
def slotHash (l : List SlotState) (i : Option Nat) : List Byte := (l.getD (i.getD 8) {}).shown.take 8

/-- A FARM_REQ, the home's node ID before its query record (log entry 53). -/
def State.farmRequest (s : State) (x : Stream) (q : Query) (f : Farm) : List Byte :=
  let y := s.ses x.session
  let r := queryRecord q
  le 4 s.frameNo ++ le 1 f.blocks ++ le 1 f.peerWorld ++ le 2 r.length ++ le 8 (s.seedKey (s.binding x) x).toNat ++
    slotHash s.images.rigSlots y.rig ++ slotHash s.images.netSlots y.net ++ slotHash s.images.costSlots y.cost ++
    le 1 s.fabric.nodeId ++ zeros 7 ++ r ++ y.settings.entries

/-- A smoothing record read back. -/
def smoothOf (b : List Byte) : SmoothRec := {
  flags := getU b 0 1, tsStatus := getU b 1 1, tsRetries := getU b 2 1, probeEpoch := getU b 3 1, iters := getU b 4 1,
  mapSlot := getU b 6 2, duration := getU b 8 4, jerkInt := getU b 12 4 }

/-- Bytes of an entry with its time map, for a rig and network. -/
def Binding.farmEntrySize (b : Binding) : Nat := 64 + ceilDiv (b.dof * b.n) 2 * 8 + 16 * (b.n - 3) + 4096

/-- A farmed entry read back; its origin is 3 and `peer` orders it (R391). -/
def Binding.farmEntry (b : Binding) (peer stream : Nat) (e : List Byte) : Entry :=
  let o := 64 + ceilDiv (b.dof * b.n) 2 * 8
  let m := o + 16 * (b.n - 3)
  { cost := getS e 0 4, g := getU e 4 4 % 2 ^ 18, origin := 3, stream := stream, cluster := getU e 9 1, epoch := getU e 12 1,
    winA := getU e 13 1, winB := getU e 14 1, smooth := smoothOf (slice e 16 16), minNet := getSs e 32 4 4,
    tStart := getU e 48 8,
    cp := (List.range b.dof).map fun d => getSs e (64 + 4 * b.n * d) 4 b.n,
    swept := (List.range (b.n - 3)).map fun k =>
      let x := slice e (o + 16 * k) 16
      ⟨getU x 0 4, getU x 4 4, getU x 8 1, getU x 9 1, getU x 10 1, getU x 11 1⟩,
    tm := (List.range 256).map fun g =>
      let x := slice e (m + 16 * g) 16
      ⟨getU x 0 4, getU x 4 4, getU x 8 4, getS x 12 4⟩,
    peer := peer }

/-- A FARM_REPLY: the home's frame, this node, a refusal code, and entries each followed by its time map. -/
def State.farmReply (s : State) (homeFrame stream code : Nat) (es : List Entry) : List Byte :=
  le 4 homeFrame ++ le 1 s.fabric.nodeId ++ le 1 code ++ le 1 es.length ++ le 1 stream ++
    es.flatMap fun e => e.bytes ++ tmBytes e.tm

/-! ## The home's side -/

/-- FARM_REQs of a formed stream go to its peers (R390). Replay sends none: its replies come from the recorded inputs alone (R300,
R392), and count as asked for. -/
def State.farmOut (s : State) (id : Nat) : State :=
  match s.stream? id with
  | none => s
  | some x =>
    let q := x.q
    (s.farming.farms.filter (·.stream == id)).foldl (init := s) fun s f =>
      let asked (s : State) : State := s.modFarming fun y => { y with
        sent := y.sent ++ [{ stream := id, peer := f.peer, frame := s.frame.counter, query := q }] }
      if s.frame.devState = 3 then asked s
      else if !s.reachable f.peer then s.bumpHub 10
      else asked (s.fabricSend 2 f.peer (s.farmRequest x q f) none)

/-- A query equals another field for field; the sequence number of its command is no field of the record. -/
def Query.same (a b : Query) : Bool := { a with seq := 0 } == { b with seq := 0 }

/-- A reply's entries are usable in the frame (R391). -/
def State.farmUsable (s : State) (i : FabInput) : Bool :=
  s.farming.sent.any fun r =>
    r.stream == getU i.body 7 1 && r.peer == i.src && r.frame == BitVec.ofNat 32 (getU i.body 0 4) &&
      decide ((s.frame.counter - r.frame).toNat ≤ 4) &&
      s.streams.any fun x => x.id == r.stream && s.works x && x.q.same r.query

/-- Entries of a usable reply. -/
def State.farmEntries (s : State) (i : FabInput) : List Entry :=
  match s.stream? (getU i.body 7 1) with
  | none => []
  | some x =>
    let b := s.binding x
    (List.range (min 4 (getU i.body 6 1))).map fun k => b.farmEntry i.src x.id (slice i.body (8 + k * b.farmEntrySize) b.farmEntrySize)

/-- A farm message is captured as it is taken: its payload, with its port and virtual channel (R298, R392); a replayed one has been
taken from its entry. -/
def State.captureFarm (i : FabInput) (s : State) : State :=
  s.when_ (s.frame.devState != 3) (State.capture 5 i.world (2 + i.kind) 0 i.seq i.body)

/-- One reply is taken: usable entries join the stream's, others are FARM_LATE (R391). -/
def State.takeReply (s : State) (i : FabInput) : State :=
  let s := s.captureFarm i
  if getU i.body 5 1 ≠ 0 then s
  else if s.farmUsable i then
    let id := getU i.body 7 1
    let es := s.farmEntries i
    s.modFarming fun f => { f with usable := upsert id (lowest4 (lookupD [] id f.usable ++ es)) f.usable }
  else s.bumpHub 11

/-- Farm messages of a kind bound to this frame, in the order of their arrival. -/
def State.farmDue (s : State) (kind : Nat) : List FabInput :=
  s.farming.inputs.filter fun i => i.kind == kind && !laterFrame i.frame s.frame.counter

/-- The replies bound to the frame are taken. -/
def State.takeReplies (s : State) : State :=
  let l := s.farmDue 1
  l.foldl State.takeReply (s.modFarming fun f => { f with inputs := f.inputs.filter fun i => !l.contains i })

/-! ## The peer's side (R390) -/

/-- The usable slot whose image has a hash. -/
def slotWith (l : List SlotState) (h : List Byte) : Option Nat :=
  (List.range l.length).find? fun i => (l.getD i {}).usable && (l.getD i {}).hash.take 8 == h

/-- The guest stream that a request asks for; none when a slot, the world or the headroom is missing. -/
def State.guestOf (s : State) (id : Nat) (i : FabInput) : Option Stream :=
  let r := i.body
  let w := getU r 5 1
  let blocks := getU r 4 1
  let len := getU r 6 2
  match slotWith s.images.rigSlots (slice r 16 8), slotWith s.images.netSlots (slice r 24 8), slotWith s.images.costSlots (slice r 32 8) with
  | some rig, some net, some cost =>
    let dof := (s.images.rigs.getD rig {}).dof
    let q := queryOf dof 0 (slice r 48 len)
    let rest := r.drop (48 + len)
    let set := ((settingEntries (rest.length + 1) rest).getD []).foldl Settings.put {}
    let load : Load := {
      stream := id, slot := net, net := s.images.nets.getD net {}, ordinary := blocks, repair := 0, prerankK := set.prerankK }
    let k := q.stream % 4
    let guests := (s.streams.filter fun x => x.guest.isSome && x.q.stream % 4 == k).filterMap fun x => x.guest.map fun g =>
      ({ stream := x.id, slot := g.net, net := s.images.nets.getD g.net {}, ordinary := g.blocks, repair := 0,
         prerankK := g.settings.prerankK } : Load)
    if (s.wd w).loaded ∧ s.stackAdmitsWith s.frame.conf 16 k (guests ++ [load]) then
      some {
        id := id, session := 255, candidates := 64 * blocks, ageLimit := 0, active := true, query := some q, formed := true,
        guest := some {
          home := i.src, port := i.world, stream := q.stream, homeFrame := getU r 0 4, world := w, rig := rig, net := net,
          cost := cost, settings := set, blocks := blocks, key := getU r 8 8 } }
    else none
  | _, _, _ => none

/-- One request is taken at T_c: a guest stream of the frame, or a refusal (its code 1; log entry 53). -/
def State.takeRequest (s : State) (i : FabInput) : State :=
  let s := s.captureFarm i
  let id := 256 + (s.streams.filter (·.guest.isSome)).length
  match s.guestOf id i with
  | none => s.fabricSend 3 i.src (s.farmReply (getU i.body 0 4) (getU i.body 48 1) 1 []) none
  | some x =>
    let r := s.draw
    let b := s.binding x
    r.2.modStreams fun l => l ++ [{ x with kDraw := r.1, outOfRange := b.rangeJoint x.q }]

/-- The requests bound to the frame are taken. -/
def State.takeRequests (s : State) : State :=
  let l := s.farmDue 0
  l.foldl State.takeRequest (s.modFarming fun f => { f with inputs := f.inputs.filter fun i => !l.contains i })

/-! ## All queries of the frame -/

/-- Stream and query commands of this T_c wait to be judged; replay has none. -/
def State.judging (s : State) : Bool := s.frame.devState != 3 && s.mbx.cmds.any fun c => c.atCutoff s

/-- The PINNED tasks of a formed stream are issued at T_c (R254): its STOP, REPAIR, and the carried plan's re-check. -/
def State.issueSweeps (s : State) (id : Nat) : State :=
  match s.stream? id with
  | none => s
  | some x =>
    let s := if x.stopPending then s.issuePinned x .stop else s
    let s := if x.repairRuns.isEmpty then s else s.issuePinned x .repair
    if x.carried.isSome then s.issuePinned x .carriedRecheck else s

/-- Once every command of this T_c is judged, the queries are formed, their PINNED tasks issued, farm requests leave and
replies are taken. -/
def State.formQueries (s : State) : State :=
  s.when_ (s.working && !s.judging) fun s =>
    let ids := (s.streams.filter s.wantsForming).map (·.id)
    let s := ids.foldl State.issueSweeps (ids.foldl State.formStream s)
    let s := s.modFarming fun f => { f with sent := f.sent.filter fun r => decide ((s.frame.counter - r.frame).toNat ≤ 4) }
    (ids.foldl State.farmOut s).takeReplies.fabricGo

end Sys2Proof.Machine
end

