-- ==== Sys2Proof/Machine/Cutoff.lean ====
section
/-!
DEFINITION. Sys2Proof/Machine/Cutoff.lean: T_c (R46, R48, R49, R57, R113, R171): the inputs of a replayed frame (R300), the
closing of the inputs, staging, and the stream and query commands judged there (R320, R342-R344).
-/
namespace Sys2Proof.Machine

/-! ## Replayed inputs (R300) -/

/-- The meaning of a replayed command by its opcode; none for commands without effect on results, and for IMG_LOAD, whose
bytes no capture holds (log entry 55). -/
def replayBody (op : Nat) : Option (Cmd → State → State) :=
  match op with
  | 0x0201 => some bodySesOpen
  | 0x0202 => some bodySesBind
  | 0x0203 => some bodySesSet
  | 0x0204 => some bodySesStart
  | 0x0205 => some bodySesStop
  | 0x0206 => some bodySesRecover
  | 0x0207 => some bodySesClose
  | 0x0302 => some bodyImgUnload
  | 0x0501 => some bodyFrameConfig
  | 0x0503 => some bodyGridStop
  | 0x0504 => some bodyStreamAdd
  | 0x0505 => some bodyStreamResize
  | 0x0506 => some bodyStreamRemove
  | 0x0507 => some bodyQuerySubmit
  | 0x0902 => some bodySafetyBind
  | 0x0903 => some bodySafeRelease
  | 0x0905 => some bodyCalWrite
  | 0x0906 => some bodyLifecycleSet
  | 0x0907 => some bodyDebugUnlock
  | 0x0A02 => some bodyFabPorts
  | 0x0A03 => some bodyFabCensus
  | 0x0A05 => some bodyFabNodeBind
  | 0x0A06 => some bodyFabShard
  | 0x0A07 => some bodyFabFarm
  | _ => none

/-- A command runs alone in the command table, as in a running grid; its response goes nowhere. -/
def State.runAlone (body : Cmd → State → State) (c : Cmd) (s : State) : State :=
  let live := s.mbx.cmds
  let s := (s.modMbx fun m => { m with cmds := [c] }).modFrame fun f => { f with devState := 1 }
  let s := (body c s).modMbx fun m => { m with cmds := live }
  s.modFrame fun f => { f with devState := if f.devState = 1 then 3 else f.devState }

/-- Ordinary brine applies without R47's budget and hold; its boxes answer no live command. -/
def State.replayBrine (x : Replayed) (s : State) : State :=
  let w := brineOf x
  let c := cmdOfEntry x
  match applyRecords w.1 (fabricFn + 1, 0) 0 w.2 (0, s) with
  | .inl _ => s
  | .inr o => if x.1.kind = 1 then o.2.countBrine { c with payload := le 1 w.1 } w.2.length else o.2

/-- One input before T_c. A fabric message is told by its virtual channel: brine, request or reply, whose source node it names. -/
def State.replayInput (s : State) (x : Replayed) : State :=
  let s := s.takeReplayed x
  if x.1.kind = 1 then
    let c := cmdOfEntry x
    if c.opcode = 0x0401 then s.replayBrine x
    else match replayBody c.opcode with
      | some body => s.runAlone body c
      | none => s
  else if x.1.kind = 5 then
    let b := x.1.payload
    if x.1.slot = 1 then (if getU b 0 1 = 0 then s.replayBrine x else s)
    else if x.1.slot = 2 ∨ x.1.slot = 3 then s.modFarming fun f => { f with inputs := f.inputs ++ [{
        kind := x.1.slot - 2, src := getU b (if x.1.slot = 2 then 40 else 4) 1, frame := s.frame.counter, body := b,
        world := x.1.source, seq := x.1.time }] }
    else s
  else s

/-- The inputs of the replayed frame before T_c, in ORDER. -/
def State.replayInputs (s : State) : State :=
  s.when_ (s.frame.devState == 3) fun s => (s.replayedUrgents 0).foldl State.replayInput s

/-! ## T_c -/

/-- Movers and urgent movers whose ROT fails the check of R171. -/
def State.rotFallbacks (s : State) : Nat :=
  sumN (s.worlds.ws.map fun w => ((w.movers ++ w.urgent).filter fun m => (m.map fun (x : Mover) => !rotOk x.rot).getD false).length)

/-- The inputs close: WORLD_TIME is fixed and the urgent epoch starts at 0 (R113, R181). -/
def State.closeInputs (s : State) : State :=
  let s := s.modFrame fun f => { f with phase := .afterCutoff }
  let s := s.modWorlds fun y => { y with
    epoch := 0, urgentVersions := [y.ws.map fun (w : World) => w.urgent], urgentTouches := [], checkpointEpochs := [0],
    ws := y.ws.map fun (w : World) => { w with
      timeAtCutoff := w.worldTime, urgentChanged := w.urgentTouched, urgentTouched := [] } }
  s.bumpHub 18 s.rotFallbacks

/-- A cluster's staging at T_c: a planned pan stays in its slot while its generation in HBM is that of its staged header, else
the slot is staged again (R57, R163). A pan that fails its checks is PAN_FAULT (R162); one that no longer stands where the last
frame asked for it is not staged. -/
def State.stageAtCutoff (s : State) (p : Nat) : State :=
  (s.cl p).stagePlan.foldl (init := s) fun s x =>
    let stays := (s.cl p).staged.any fun y =>
      y.slot == x.1 && y.handle == x.2 && getU (s.panHeader x.2) 12 4 == y.generation
    match (s.cl p).panPlaces.find? (·.1 == x.2) with
    | none => s
    | some e =>
      if stays || s.worlds.badHandles.contains x.2 || s.panAt e.2.1 e.2.2 != some x.2 || !s.dmaReady (stackOf p) then s
      else if s.panOk e.2.2 x.2 then (s.bumpStk (stackOf p) 4).stageAt p x.1 x.2
      else s.panFault p x.2

/-- The cluster that converts a box (R112): the first enabled cluster that is not its stack's assay cluster, from the stack of
the box's number on (log entry 31). -/
def State.boxCluster (s : State) (job : Nat) : Option Nat :=
  ([0, 1, 2, 3].flatMap fun i =>
    let k := (job + i) % 4
    (s.enabledIn k).filter fun p => s.assayTarget k s.frame.counter != some p).head?

/-- The task of a box: PHASE 4, KEEP, pinned to its cluster (R112, R254). -/
def boxTask (job p : Nat) : TaskDesc := {
  layerId := 0xFFFF, operatorId := 0xFFFF, phase := 4, unit := 0, tokens := 0, safety := false, pinned := true, keep := true,
  succExtra := 0, stream := 0xFF, args := job, op := .distBuild, target := some p }

/-- At T_c the frame's boxes are issued to the dispatchers (R112). -/
def State.issueBoxes (s : State) : State :=
  ((List.range s.worlds.distJobs.length).filter fun j =>
      ((s.worlds.distJobs[j]?).map fun x => x.output.isNone && x.frame == s.frame.counter).getD false).foldl (init := s)
    fun s j => match s.boxCluster j with
      | some p => s.newTask (stackOf p) (boxTask j p)
      | none => s

/-- BRINE_CUTOFF: boxes that no ingest has written are written, and in Exact mode checkpoint K1 is applied. -/
def State.brineCutoff (s : State) : State :=
  s.when_ (s.gridRuns && s.frame.phase == .opened && decide (s.cutoffAt ≤ s.time.now)) fun s =>
    let s := s.writeBoxes.replayInputs
    let s := if s.frame.conf.exact then s.applyCheckpoint 1 else s
    let s := s.closeInputs.copyAllUrgents
    (s.enabledList.foldl State.stageAtCutoff s).issueBoxes.takeRequests.formQueries

/-- BRINE_CUTOFF (R46). -/
def execBrineCutoff (t : Nat) (s : State) : Host.Outcome State Fault Refusal := ranAt true t s State.brineCutoff

/-! ## Stream and query commands -/

/-- STREAM_ADD (R342). -/
def execStreamAdd (fn slot : Nat) (t : Nat) (s : State) : Host.Outcome State Fault Refusal :=
  ranAt (slotOk fn slot) t s fun s => (runCmd 0x0504 fn slot bodyStreamAdd (due := dueAtCutoff) s).formQueries

/-- STREAM_RESIZE (R342). -/
def execStreamResize (fn slot : Nat) (t : Nat) (s : State) : Host.Outcome State Fault Refusal :=
  ranAt (slotOk fn slot) t s fun s => (runCmd 0x0505 fn slot bodyStreamResize (due := dueAtCutoff) s).formQueries

/-- STREAM_REMOVE (R342). -/
def execStreamRemove (fn slot : Nat) (t : Nat) (s : State) : Host.Outcome State Fault Refusal :=
  ranAt (slotOk fn slot) t s fun s => (runCmd 0x0506 fn slot bodyStreamRemove (due := dueAtCutoff) s).formQueries

/-- QUERY_SUBMIT (R344). -/
def execQuerySubmit (fn slot : Nat) (t : Nat) (s : State) : Host.Outcome State Fault Refusal :=
  ranAt (slotOk fn slot) t s fun s => (runCmd 0x0507 fn slot bodyQuerySubmit (due := dueAtCutoff) s).formQueries

end Sys2Proof.Machine
end

