-- ==== Sys2Proof/Machine/Harvest.lean ====
section
/-!
DEFINITION. Sys2Proof/Machine/Harvest.lean: the end of phases 4 to 9 (R51, R53), the harvest tree (R226), the attempts of a
query's device shortlist (R227, R411) and the 0.86P cutoff (R227, R236).
-/
namespace Sys2Proof.Machine

/-! ## The harvest deadline (R51) -/

/-- The tasks of a scheduler that T_h abandons: queued ones and those whose engine operation is in progress. -/
def Scheduler.abandoned (x : Scheduler) : Nat :=
  ((x.ms ++ x.rl ++ x.dl ++ x.running.map (·.2)).filter fun h => abandons h.task).length

/-- What a cluster holds for its dispatch slot, without the abandoned tasks. -/
def Cluster.cutOwn (c : Cluster) : Cluster :=
  { c with own := c.own.filter fun d => !abandons d, ownFlow := c.ownFlow.lose (c.own.filter abandons).length }

/-- A candidate has not reached its end: it is neither dropped nor judged against nor costed at stage 1. -/
def Cand.inProgress (c : Cand) : Bool :=
  !c.dropped && c.cost1.isNone && ((c.check.map (·.verdict)).getD 0 == 0) && ((c.recheck.map (·.verdict)).getD 0 == 0)

/-- The candidates of a cluster are released; those in progress count as abandoned for their query and session (R51, Table
09.7), but for farmed ones, whose tallies are not the stream's (R391). -/
def State.releaseCands (p : Nat) (s : State) : State :=
  let l := (s.cl p).cands.filter Cand.inProgress
  let s := l.foldl (init := s) fun s c =>
    let s := if c.origin = 3 then s else s.tallyOn p c.stream fun t => { t with abandoned := addS t.abandoned 1 }
    match s.stream? c.stream with
    | some x => if x.guest.isSome then s else s.bumpSes x.session 11
    | none => s
  s.modCl p fun c => { c.dropSweeps (fun kind _ => kind != 3 && kind != 5) with cands := [] }

/-- T_h on one cluster: engine operations in progress drain. -/
def State.abandonOn (s : State) (p : Nat) : State :=
  let c := s.cl p
  let n := c.sched.abandoned
  let busy := (c.sched.running.any fun r => abandons r.2.task) || !c.inFlight.isEmpty
  let s := (((s.modSched p fun x => x.remove s.instantCycle fun h => abandons h.task).modCl p Cluster.cutOwn).modCl p fun c =>
    { c with draining := busy }).bumpCl p 11 n
  (s.modFrame fun f => { f with abandoned := satU 32 (f.abandoned + n) }).releaseCands p

/-- HARVEST_DEADLINE: queued work goes, also from the dispatcher inputs; engines drain. -/
def State.harvestDeadline (s : State) : State :=
  s.when_ (s.working && !s.frame.conf.exact && decide (s.partAt 72 ≤ s.time.now)) fun s =>
    let s := (s.enabledList.foldl State.abandonOn s).modStks fun l => l.map (Stack.dropTasks abandons)
    (s.modFrame fun f => { f with phase := .afterHarvest }).gateAll

/-- HARVEST_DEADLINE (R51). -/
def execHarvestDeadline (t : Nat) (s : State) : Host.Outcome State Fault Refusal := ranAt true t s State.harvestDeadline

/-- The frame is between the end of phases 4 to 9 and the end of publish. -/
def State.harvesting (s : State) : Bool := s.gridRuns && s.frame.phase == .afterHarvest

/-- ENGINE_DRAIN_END: a cluster's shortlists enter the tree, and an idle cluster is gated (R61). -/
def State.engineDrainEnd (p : Nat) (s : State) : State :=
  s.when_ (s.harvesting && s.enabled p) fun s => (s.modCl p fun c => { c with drained := true, draining := false }).gateIdle p

/-- ENGINE_DRAIN_END (R51). -/
def execEngineDrainEnd (cluster : Nat) (t : Nat) (s : State) : Host.Outcome State Fault Refusal :=
  ranAt (below cluster 64) t s (State.engineDrainEnd cluster)

/-! ## Exact mode (R53) -/

/-- Everything of a stream in phases 4 to 9 has been made. -/
def State.workMade (s : State) (x : Stream) : Bool :=
  x.repairRuns.isEmpty && !x.stopPending && (x.outOfRange.isSome || s.allAccepted x)

/-- Every enabled cluster has completed phases 4 to 9. -/
def State.workComplete (s : State) : Bool :=
  !s.judging && (s.streams.all fun x => !s.works x || s.workMade x) &&
    s.enabledList.all fun p => (s.cl p).blocksAhead.isEmpty && !(s.cl p).cands.any Cand.inProgress

/-- HARVEST_START: no work is abandoned; candidates have been consumed. -/
def State.harvestStart (s : State) : State :=
  s.when_ (s.working && s.frame.conf.exact && s.workComplete) fun s =>
    let s := s.modClusters fun l => l.map fun (c : Cluster) => { c with drained := true, workDone := true, cands := [] }
    (s.modFrame fun f => { f with phase := .afterHarvest }).gateAll

/-- HARVEST_START (R53). -/
def execHarvestStart (t : Nat) (s : State) : Host.Outcome State Fault Refusal := ranAt true t s State.harvestStart

/-! ## The harvest tree (R226) -/

/-- Tallies added field by field, saturating at S32. -/
def Tally.add (a b : Tally) : Tally := {
  proposed := addS a.proposed b.proposed, repairs := addS a.repairs b.repairs, clearCheck := addS a.clearCheck b.clearCheck,
  smoothed := addS a.smoothed b.smoothed, tsDropped := addS a.tsDropped b.tsDropped,
  clearRecheck := addS a.clearRecheck b.clearRecheck, abandoned := addS a.abandoned b.abandoned }

/-- An enabled cluster lies below position `pos` of a level; level 0 is the clusters. -/
def State.treeLive (s : State) (level pos : Nat) : Bool := s.enabledList.any fun p => p / 2 ^ level == pos

/-- What a tree position gives once it is complete; a missing child gives nothing at once. -/
def State.treeChild (s : State) (x : Stream) (level pos : Nat) : Option (List Entry × Tally) :=
  if !s.treeLive level pos then some ([], {})
  else if level = 0 then
    let c := s.cl pos
    if c.drained then some (lookupD [] x.id c.shortlists, lookupD {} x.id c.tallies) else none
  else (x.treeNodes.find? fun n => n.1 == level && n.2.1 == pos).map (·.2.2)

/-- The root gives the device shortlist and tally; a guest's goes to its home (R390). -/
def State.treeRoot (id : Nat) (es : List Entry) (t : Tally) (s : State) : State :=
  let s := s.modStream id fun x => { x with device := some es, tally := t }
  match (s.stream? id).bind (·.guest) with
  | none => s
  | some g => (s.fabricSend 3 g.home (s.farmReply g.homeFrame g.stream 0 es) none).fabricGo

/-- A tree node: the 4 lowest keys of its children's entries, and their tallies; its place in the tree is its index in the operator
digest (log entry 147). -/
def State.harvestNode (id level pos : Nat) (s : State) : State :=
  match s.stream? id with
  | none => s
  | some x => match s.treeChild x (level - 1) (2 * pos), s.treeChild x (level - 1) (2 * pos + 1) with
    | some a, some b =>
      let done := x.device.isSome || x.treeNodes.any fun n => n.1 == level && n.2.1 == pos
      s.when_ (s.harvesting && s.works x && !done) fun s =>
        let es := lowest4 (a.1 ++ b.1)
        let t := a.2.add b.2
        let s := s.modStream id fun y => { y with treeNodes := y.treeNodes ++ [(level, pos, es, t)] }
        let s := s.opDigest 10 x.tagLayer x.tagOperator (s.wireId id % 256) (64 * level + pos) (es.flatMap Entry.bytes ++ t.bytes)
        if level = 6 then s.treeRoot id es t else s
    | _, _ => s

/-- HARVEST_NODE (R226). -/
def execHarvestNode (stream level pos : Nat) (t : Nat) (s : State) : Host.Outcome State Fault Refusal :=
  ranAt (streamOk stream && decide (1 ≤ level ∧ level ≤ 6) && below pos (64 / 2 ^ level)) t s (State.harvestNode stream level pos)

/-! ## Attempts (R227) -/

/-- The index of the entry that a stream attempts next; none when its attempts are over. -/
def Stream.nextAttempt (x : Stream) : Option Nat :=
  match x.device with
  | none => none
  | some es =>
    let n := x.attemptCodes.length
    let ended := x.attemptCodes.any fun c => c == 2 || c == 4
    if x.agreed.isSome || ended || decide (es.length ≤ n) || x.outOfRange.isSome then none else some n

/-- Phase 10 is complete in Exact mode: every stream's device shortlist stands (R53). -/
def State.harvested (s : State) : Bool := s.streams.all fun x => !s.works x || x.device.isSome

/-- An application behind an epoch has touched an entry: in Exact mode an attempt may latch an earlier epoch than the newest
(R229). -/
def State.touchedEntry (s : State) (x : Stream) (i epoch : Nat) : Bool :=
  match (x.device.getD [])[i]? with
  | none => false
  | some e => (s.touchedSince (s.binding x) e.cp x.q.tStart (x.q.tStart + 50 * (tmAt e.tm 255).tHi) epoch).isSome

/-- ATTEMPT_START latches the epoch; in Throughput mode only before 0.86P. An entry that has been touched since ends
URGENT_TOUCH at once. -/
def State.attemptStart (id : Nat) (s : State) : State :=
  match s.stream? id with
  | none => s
  | some x => match x.nextAttempt with
    | none => s
    | some i => match s.latch .reverify id i with
      | none => s
      | some e =>
        let open_ := if s.frame.conf.exact then s.harvested else !s.frame.reverifyClosed && decide (s.time.now < s.partAt 86)
        let due := s.harvesting && s.works x && !x.committed && x.guest.isNone && x.attempting.isNone && open_
        s.when_ due (State.modStream id fun y =>
          let y := { y with attempting := some (i, e), attemptVerdict := none }
          if s.touchedEntry x i e then y.touchAttempt else y)

/-- ATTEMPT_START (R227). -/
def execAttemptStart (stream : Nat) (t : Nat) (s : State) : Host.Outcome State Fault Refusal :=
  ranAt (streamOk stream) t s (State.attemptStart stream)

/-- The frames of DISAGREE results that still count beside a new one: within 16 consecutive frames (R411). -/
def recentDisagrees (now : BitVec 32) (l : List (BitVec 32)) : List (BitVec 32) :=
  l.filter fun f => decide ((now - f).toNat < 16)

/-- A DISAGREE is attributed to the cluster that its entry names; the fourth in 16 frames is reported, and the count
restarts. -/
def State.disagree (p : Nat) (s : State) : State :=
  let s := s.modSafety fun x => { x with disagree := satU 32 (x.disagree + 1) }
  let l := recentDisagrees s.frame.counter (s.cl p).disagrees ++ [s.frame.counter]
  if l.length < 4 then s.modCl p fun c => { c with disagrees := l }
  else
    let s := s.modCl p fun c => { c with disagrees := [] }
    if s.classSRunning then s.detect 0x0005 (stackOf p) p 0xFF (le 1 p) else s.warnFree (stackOf p) (le 1 p)

/-- ATTEMPT_RESULT: AGREE leads to commit, every other verdict to the next entry. -/
def State.attemptResult (id : Nat) (s : State) : State :=
  match s.stream? id with
  | none => s
  | some x => match x.attempting, x.attemptVerdict with
    | some (i, _), some v =>
      let p := (((x.device.getD [])[i]?).map (·.cluster)).getD 0
      s.when_ s.harvesting fun s =>
        if v.verdict = 0 then
          (s.modStream id fun y => { y with
            attempting := none, agreed := some i, attemptCodes := y.attemptCodes ++ [0] }).selEvent 0 p 0x0B 0 0xFFFF 0xFFFF 1
        else
          ((s.modStream id fun y => { y with
            attempting := none, attemptVerdict := none, attemptCodes := y.attemptCodes ++ [1] }).selEvent 0 p 0x0B 1 0xFFFF
              0xFFFF 1).disagree p
    | _, _ => s

/-- ATTEMPT_RESULT (R227). -/
def execAttemptResult (stream : Nat) (t : Nat) (s : State) : Host.Outcome State Fault Refusal :=
  ranAt (streamOk stream) t s (State.attemptResult stream)

/-- A stream at 0.86P: a running attempt ends INCOMPLETE; a pending STOP leaves its status as it stands (R236). -/
def Stream.cutReverify (x : Stream) : Stream :=
  let y := if x.attempting.isSome then
      { x with attempting := none, attemptVerdict := none, attemptCodes := x.attemptCodes ++ [2] } else x
  { y with stopPending := false }

/-- REVERIFY_CUTOFF: STOP operations and attempts that have not ended leave the schedulers too. -/
def State.reverifyCutoff (s : State) : State :=
  s.when_ (s.harvesting && !s.frame.conf.exact && !s.frame.reverifyClosed && decide (s.partAt 86 ≤ s.time.now)) fun s =>
    let s := (s.streams.map (·.id)).foldl (fun s id => (s.withdraw .stop (s.wireId id)).withdraw .reverify (s.wireId id)) s
    let s := (s.modStreams fun l => l.map Stream.cutReverify).modFrame fun f => { f with reverifyClosed := true }
    s.modClusters fun l => l.map (Cluster.dropSweeps fun kind _ => kind == 3 || kind == 5)

/-- REVERIFY_CUTOFF (R227). -/
def execReverifyCutoff (t : Nat) (s : State) : Host.Outcome State Fault Refusal := ranAt true t s State.reverifyCutoff

end Sys2Proof.Machine
end

