-- ==== Sys2Proof/Machine/Commit.lean ====
section
/-!
DEFINITION. Sys2Proof/Machine/Commit.lean: the result record (R230-R233, R346, R347), the SSV's seal (R398, R412), the commit of
one record and the publish deadline (R52).
-/
namespace Sys2Proof.Machine

/-! ## When a stream may commit (R229-R231) -/

/-- The attempts of a stream have decided its outcome. -/
def Stream.settled (x : Stream) (closed : Bool) : Bool :=
  x.attempting.isNone && (closed || x.outOfRange.isSome || (x.device.isSome && (x.agreed.isSome || x.nextAttempt.isNone)))

/-- In Exact mode all attempts are over and the applications of all four checkpoints have been made (R53, R229). -/
def State.exactReady (s : State) : Bool :=
  (s.streams.all fun x => !s.works x || x.guest.isSome || (x.device.isSome && x.settled false)) &&
    s.worlds.checkpointEpochs.length == 4

/-- A stream of the frame that gets a record. -/
def State.publishes (s : State) (x : Stream) : Bool := s.works x && x.guest.isNone

/-- A stream may commit now: its outcome is decided and its STOP is not pending. -/
def State.mayCommit (s : State) (x : Stream) : Bool :=
  s.publishes x && !x.committed && !x.stopPending &&
    if s.frame.conf.exact then s.exactReady else x.settled s.frame.reverifyClosed

/-! ## Age test and outcome (R230, R232) -/

/-- The world-snapshot time of a stream's record (R113). -/
def State.worldTimeOf (s : State) (x : Stream) : Nat := (s.wd (s.binding x).world).timeAtCutoff

/-- EXPIRY. -/
def State.expiryOf (s : State) (x : Stream) : Nat := s.worldTimeOf x + x.ageLimit * ticksPerUs

/-- The commit time that the age test uses (R230, R289). -/
def State.ageTime (s : State) : Nat :=
  if s.frame.conf.exact then s.frame.frt + s.frame.conf.part 88 * ticksPerUs else s.time.now

/-- The age test of an entry that has reached AGREE: AGE ends the query (R230, Table 09.8). -/
def State.ageTest (s : State) (x : Stream) : Stream :=
  match x.agreed with
  | none => x
  | some i => if s.expiryOf x < s.ageTime then { x with agreed := none, attemptCodes := x.attemptCodes.set i 4 } else x

/-- The outcome before R232's step 5; `late`: the publish deadline finds no record (R52). -/
def Stream.innerOutcome (x : Stream) (late : Bool) : Nat :=
  if x.outOfRange.isSome then 5
  else if late then 2
  else match x.device with
    | none => 2
    | some [] => if x.tally.abandoned ≠ 0 then 2 else 1
    | some es =>
      if x.agreed.isSome then 0
      else if (x.attemptCodes.any fun c => c == 2 || c == 4) || decide (x.attemptCodes.length < es.length) then 2
      else 3

/-- OUTCOME: an invalid outcome whose stop is not VERIFIED is STOP_UNVERIFIED. -/
def Stream.outcome (x : Stream) (late : Bool) : Nat :=
  let i := x.innerOutcome late
  if i ≠ 0 ∧ x.stop.status ≠ 0 then 4 else i

/-- The winner of a VALID outcome. -/
def Stream.winner (x : Stream) (late : Bool) : Option Entry :=
  if x.outcome late = 0 then x.agreed.bind fun i => (x.device.getD [])[i]? else none

/-! ## The record (Tables 09.7, 09.10, 09.11, 14.13) -/

/-- The outcome block. -/
def State.outcomeBlock (s : State) (x : Stream) (late : Bool) : List Byte :=
  let w := x.winner late
  let grade := s.streamClassS x && s.part.orderCode != 1
  let untrimmed := (w.map fun e => bit e.smooth.flags 4).getD false
  le 1 (x.outcome late) ++ le 1 (x.innerOutcome late) ++ le 1 ((w.map (·.origin)).getD 0xFF) ++ le 1 x.attemptCodes.length ++
    (List.range 4).flatMap (fun i => le 1 (x.attemptCodes.getD i 0xFF)) ++
    le 1 (flag grade 0 + flag untrimmed 1 + flag (x.stop.status == 0) 2) ++ [0] ++
    le 2 (if x.innerOutcome late = 5 then x.outOfRange.getD 0 else 0) ++ le 4 ((w.map Entry.keyIndex).getD 0)

/-- The stop descriptor. -/
def StopDesc.bytes (d : StopDesc) : List Byte :=
  le 4 d.sigmaLo ++ le 4 d.sigmaHi ++ le 4 d.sigmaStop ++ le 4 d.speed0 ++ leS 4 d.decel ++ le 4 d.tStop ++ le 1 d.kind ++
    le 1 d.status ++ le 1 d.verdict ++ le 1 (epochByte d.epoch) ++ le 4 d.planSeq

/-- The swept digest (R231). -/
def State.sweptDigest (s : State) (world : Nat) (boxes : List SweptBox) : List Byte :=
  hash8 (le 1 world ++ le 4 (s.wd world).lastSeq ++ le 4 (s.wd world).urgentSeq ++ boxes.flatMap SweptBox.bytes)

/-- The record's bytes before CRC, and those after it. -/
def State.recordParts (s : State) (x : Stream) (late : Bool) (seq : Nat) : List Byte × List Byte :=
  let b := s.binding x
  let w := x.winner late
  let q := x.q
  let body := match w with
    | some e => cpBytes e.cp ++ tmBytes e.tm
    | none => []
  (le 4 0x544C5352 ++ le 4 (256 + body.length) ++ le 1 x.session ++ le 1 x.id ++ le 1 (flag (s.streamClassS x) 0) ++
    le 1 b.dof ++ le 4 seq ++ le 4 s.frameNo ++ le 1 ((w.map fun e => (e.cp.getD 0 []).length - 6).getD b.net.ncp) ++ zeros 3 ++
    le 8 (s.worldTimeOf x) ++ le 8 (s.expiryOf x) ++ le 8 s.time.now ++ le 8 q.tStart ++ le 8 s.frame.frt ++
    s.outcomeBlock x late ++ x.stop.bytes ++ x.tally.bytes ++
    s.sweptDigest b.world ((w.map (·.swept)).getD []) ++ le 4 b.rig.rigId ++ le 4 b.net.netId ++ le 4 b.cost.costId ++
    leS 4 ((w.map (·.cost)).getD 0) ++ (match w with
      | some e => smoothBytes e.smooth ++ fit 16 (e.minNet.flatMap (leS 4))
      | none => zeros 32) ++
    s.det.keyDigest ++ le 4 q.seq ++ zeros 40, body)

/-! ## Seal (R398, R412) -/

/-- The four seal checks of R412 on a record's bytes: SEQ, FRAME, for VALID the AGREE record of its winner, and EXPIRY against
WORLD_TIME and the SSV's own copy of the age limit. -/
def State.sealOk (s : State) (x : Stream) (rec_ : List Byte) (w : Option Entry) : Bool :=
  getU rec_ 12 4 == (x.sealSeq + 1) % 2 ^ 32 && getU rec_ 16 4 == s.frameNo
    && getU rec_ 32 8 == (getU rec_ 24 8 + x.ssvAge * ticksPerUs) % 2 ^ 64
    && match w with
      | none => true
      | some e => (x.attemptVerdict.map fun v => v.kind == 5 && v.verdict == 0 && v.g % 2 ^ 18 == e.g % 2 ^ 18).getD false

/-- The age monitor refuses the record: actual device time is beyond WORLD_TIME plus the SSV's age limit (R412). -/
def State.ageRefused (s : State) (x : Stream) : Bool := decide (s.worldTimeOf x + x.ssvAge * ticksPerUs < s.time.now)

/-- The seal is complemented: a class-S record under a latched code or one whose own detection latches one, a failed seal
check, or a record too old (R398, R412). -/
def State.complements (s : State) (x : Stream) (rec_ : List Byte) (late : Bool) : Bool :=
  (s.streamClassS x && (!s.safety.latch.isEmpty || x.outcome late == 4)) || !s.sealOk x rec_ (x.winner late) || s.ageRefused x

/-- The CRC-32C of a record, or its bitwise complement. -/
def sealOf (parts : List Byte × List Byte) (complement : Bool) : Nat :=
  let c := crc32c (parts.1 ++ zeros 4 ++ parts.2)
  if complement then 2 ^ 32 - 1 - c else c

/-! ## After a commit (R141, R234, R237) -/

/-- The current motion after the commit of a record with sequence number `seq`. -/
def Stream.motionAfter (x : Stream) (plan : Option Plan) (seq : Nat) : Motion :=
  let brake (p : Plan) : Motion :=
    if x.stop.status = 0 then .braking p { x.stop with planSeq := seq } (x.q.tStart + 50 * x.stop.tStop) else x.motion
  match plan with
  | some p => .plan p
  | none => match x.motion with
    | .standstill => .standstill
    | .plan p => brake p
    | .braking p _ _ => brake p

/-- The plan that a winner becomes. -/
def State.planOf (s : State) (x : Stream) (seq : Nat) (e : Entry) : Plan :=
  let y := s.ses x.session
  { g := e.g, cp := e.cp, tStart := e.tStart, tm := e.tm, swept := e.swept, seq := seq, frame := s.frame.counter,
    rig := y.rig.getD 0, net := y.net.getD 0, cost := y.cost.getD 0, qGoal := x.q.qGoal, smooth := e.smooth }

/-- A stream after its commit. -/
def State.committedStream (s : State) (x : Stream) (late : Bool) (seq : Nat) (rec_ : List Byte) : Stream :=
  let plan := (x.winner late).map (s.planOf x seq)
  { x with
    committed := true, recSeq := seq, sealSeq := seq, lastRecord := rec_, motion := x.motionAfter plan seq, published := plan,
    attempting := none, stopPending := false }

/-- The record goes to the session's result ring; one that the ring or its entries cannot take is RESULT_DROPPED (R322, R345). -/
def State.resultPut (ses stream seq : Nat) (rec_ : List Byte) (s : State) : State :=
  match s.ring? (2 * ses) with
  | none => s
  | some r =>
    if s.ringRoom r && decide (rec_.length ≤ r.entrySize) then s.ringPut r rec_
    else (s.bumpSes ses 8).sessionEvent ses 6 stream (le 4 seq)

/-- The counters of a committed record (Table 20.2). -/
def State.countRecord (ses outcome : Nat) (refused : Bool) (s : State) : State :=
  let s := (s.bumpSes ses 1).bumpSes ses (2 + outcome)
  if refused then (s.bumpSes ses 14).modSafety fun y => { y with ageRefused := satU 32 (y.ageRefused + 1) } else s

/-- The faults of a commit: SEAL_MISMATCH, and for class S AGE_REFUSED and STOP_UNVERIFIED. -/
def State.commitFaults (x : Stream) (mismatch refused unverified : Bool) (s : State) : State :=
  let classS := s.streamClassS x
  let codes := [(mismatch, 0x000D), (classS && refused, 0x000E), (classS && unverified, 0x000F)]
  s.detectAll ((codes.filter (·.1)).map fun c => { code := c.2, stream := x.id, arg := le 1 x.id })

/-- One record is assembled, sealed, committed and written. -/
def State.commitStream (late : Bool) (x0 : Stream) (s : State) : State :=
  let x := s.ageTest x0
  let seq := (x.recSeq + 1) % 2 ^ 32
  let parts := s.recordParts x late seq
  let ok := s.sealOk x parts.1 (x.winner late)
  let rec_ := parts.1 ++ le 4 (sealOf parts (s.complements x parts.1 late)) ++ parts.2
  let y := s.committedStream x late seq rec_
  let refused := s.ageRefused x
  let s := (s.modStream x.id fun _ => y).modFrame fun f => { f with records := f.records ++ [(x.id, rec_)] }
  let s := (s.countRecord x.session (x.outcome late) refused).resultPut x.session x.id seq rec_
  s.commitFaults x (!ok) refused (x.outcome late == 4)

/-- COMMIT. -/
def State.commit (id : Nat) (s : State) : State :=
  match s.stream? id with
  | none => s
  | some x => s.when_ (s.harvesting && s.mayCommit x) (State.commitStream false x)

/-- COMMIT (R231). -/
def execCommit (stream : Nat) (t : Nat) (s : State) : Host.Outcome State Fault Refusal :=
  ranAt (streamOk stream) t s (State.commit stream)

/-- A stream without a record at the publish deadline gets one, unless its session has left RUNNING by then. -/
def State.commitLate (s : State) (id : Nat) : State :=
  match s.stream? id with
  | none => s
  | some x => s.when_ (s.publishes x && !x.committed) (State.commitStream true x)

/-- Shortlists are released (R56): the clusters' with their time maps, and the device shortlists, which read `device` then. -/
def State.releaseLists (device : Option (List Entry)) (s : State) : State :=
  (s.modClusters fun l => l.map fun (c : Cluster) => { c with shortlists := [], tallies := [], mapSlots := [] }).modStreams fun l =>
    l.map fun x => { x with device := device, treeNodes := [], agreed := none }

/-- PUBLISH_DEADLINE, in Throughput mode: streams without a record get one, and the frame's shortlists are released. -/
def State.publishDeadline (s : State) : State :=
  s.when_ (s.harvesting && !s.frame.conf.exact && decide (s.partAt 88 ≤ s.time.now)) fun s =>
    let s := if s.frame.reverifyClosed then s else s.reverifyCutoff
    ((s.streams.map (·.id)).foldl State.commitLate s).releaseLists (some [])

/-- PUBLISH_DEADLINE (R52). -/
def execPublishDeadline (t : Nat) (s : State) : Host.Outcome State Fault Refusal := ranAt true t s State.publishDeadline

end Sys2Proof.Machine
end

