-- ==== Sys2Proof/Machine/Closing.lean ====
section
/-!
DEFINITION. Sys2Proof/Machine/Closing.lean: the end of publish (R53, R298, R299, R301, R322), the rake slice (R55, R407, R408,
R424), the guard (R44, R56, R58, R303, R341, R385, R402) and FRAME_HUNG (R54).
-/
namespace Sys2Proof.Machine

/-! ## Publish ends -/

/-- A little-endian device-time field of a record becomes its difference from FRT (R301). -/
def relativeField (frt : Nat) (r : List Byte) (off : Nat) : List Byte :=
  r.take off ++ leS 8 ((getU r off 8 : Int) - frt) ++ r.drop (off + 8)

/-- A record as the frame digest takes it: times from FRT, COMMIT_TIME and CRC 0 (R301, R347). -/
def digestRecord (frt : Nat) (r : List Byte) : List Byte :=
  let r := [24, 32, 48, 56].foldl (relativeField frt) r
  let r := r.take 40 ++ zeros 8 ++ r.drop 48
  r.take 252 ++ zeros 4 ++ r.drop 256

/-- The frame digest (R301). -/
def State.frameDigest (s : State) : List Byte :=
  let l := sortBy (fun (a b : Nat × List Byte) => decide (a.1 < b.1)) s.frame.records
  hash8 (le 4 s.frameNo ++ le 4 l.length ++ l.flatMap fun r => digestRecord s.frame.frt r.2)

/-- An operator-digest entry (Table 12.9). -/
def OpDigest.bytes (e : OpDigest) : List Byte :=
  le 2 e.layer ++ le 2 e.operator ++ le 1 e.stream ++ le 1 e.phase ++ le 2 e.count ++ le 8 e.digest.toNat

/-- The FLAGS of Table 12.8. -/
def State.frameFlags (s : State) : Nat :=
  flag s.frame.timingSlip 0 + flag (s.frame.overrun != 0) 1 + flag s.frame.faultReaction 2 + flag s.frame.resumed 3 +
    flag s.det.opDigest 4

/-- The payload of the FRAME_END entry (Table 12.8). -/
def State.frameEndEntry (s : State) : List Byte :=
  s.det.keyDigest ++ le 8 s.frame.frt ++ le 8 s.frame.openTime ++ s.frame.digest ++ le 4 s.frame.slipTicks ++
    le 2 s.frameFlags ++ zeros 2

/-- The payload of the FRAME_END event (Table 13.10). -/
def State.frameEndEvent (s : State) : List Byte :=
  let arith := s.enabledList.foldl (fun f p => f ||| (s.cl p).arithLast % 256) 0
  le 2 s.frameFlags ++ le 1 arith ++ [0] ++ le 4 s.frame.abandoned ++ le 4 s.frame.overrun ++ s.frame.digest ++
    le 4 s.frame.brineHeld ++ le 4 s.frame.brineLate

/-- OP_DIGEST and FRAME_END entries close the frame in the capture ring; RECORD_STOP ends recording behind them (R299). -/
def State.captureFrameEnd (s : State) : State :=
  let put (kind : Nat) (p : List Byte) (s : State) : State := s.capture kind 0 0xFF 0 s.time.now p
  let s := if s.det.opDigest then put 8 (s.det.opDigests.flatMap OpDigest.bytes) s else s
  if !s.det.record then s
  else
    let s := put 6 s.frameEndEntry s
    let s := s.modDet fun d => { d with
      captureOrder := 0, frameEnds := if d.record then d.frameEnds ++ [d.written + d.ring.length] else d.frameEnds }
    if s.det.recordEnding then s.modDet fun d => { d with record := false, recordEnding := false, recordEnded := true } else s

/-- Each ring written in the frame raises its vector once (R322). -/
def State.ringVectors (s : State) : State :=
  let l := s.rings.filter (·.written)
  let s := s.modRings fun rs => rs.map fun r => { r with written := false }
  l.foldl (init := s) fun s r => s.msixRaise r.fn (ringVec r.key)

/-- An Exact-mode overrun delays the rake, the guard and the next open (R53). -/
def State.slipGrid (s : State) : State :=
  s.when_ s.frame.conf.exact fun s =>
    let c := s.time.now
    s.modFrame fun f =>
      let at_ := max f.rakeAt c
      { f with overrun := satU 32 (c - (f.openTime + f.conf.part 88 * ticksPerUs)), rakeAt := at_,
               nextOpen := at_ + 30 * ticksPerUs }

/-- The tasks of the frame that no cluster has accepted by the end of publish go (R56): all but box conversions, which R112 lets run
on, and safety tasks (log entry 136). -/
def State.dropLeftTasks (s : State) : State :=
  let gone (d : TaskDesc) : Bool := d.op != .distBuild && !d.safety
  let left (c : Cluster) : Cluster := { c with own := c.own.filter fun d => !gone d, ownFlow := c.ownFlow.lose (c.own.filter gone).length }
  (s.modStks fun l => l.map (Stack.dropTasks gone)).modClusters fun l => l.map left

/-- PUBLISH_END, once every query of the frame has its record. -/
def State.publishEnd (s : State) : State :=
  s.when_ (s.harvesting && s.streams.all fun x => !s.publishes x || x.committed) fun s =>
    let s := s.slipGrid
    let d := s.frameDigest
    let s := s.modFrame fun f => { f with digest := d }
    let s := if s.frame.timingSlip then s.bumpHub 12 else s
    let s := s.captureFrameEnd
    let s := (s.deviceEvent 1 0xFF s.frameEndEvent).ringVectors
    ((s.releaseLists none).dropLeftTasks.modFrame fun f => { f with phase := .published }).gateAll

/-- PUBLISH_END (R301). -/
def execPublishEnd (t : Nat) (s : State) : Host.Outcome State Fault Refusal := ranAt true t s State.publishEnd

/-! ## The rake slice (R407, R408, R424) -/

/-- One more deferral. -/
def State.deferRake (s : State) : State := s.modSafety fun x => { x with rakeDeferrals := satU 32 (x.rakeDeferrals + 1) }

/-- A cluster is busy or halted. -/
def State.rakeBusy (s : State) (p : Nat) : Bool := !(s.cl p).sched.running.isEmpty || (s.cl p).halted

/-- The release tick of the rake slice's tasks: its start, in µs from the open (R250, R407). -/
def State.rakeTick (s : State) : Nat := min 20000 (max 1 ((s.frame.rakeAt - s.frame.openTime) / ticksPerUs))

/-- A stack's rake target gets the slice's safety task, which the delay list paces (R250, R251), or its item is deferred. -/
def State.rakeStack (s : State) (k : Nat) : State :=
  match s.rakeTargetOf k s.frame.counter with
  | none => s
  | some p =>
    if s.rakeBusy p then s.deferRake else (s.safetyTask p .rake s.rakeTick).modStk k fun x => { x with rakeTarget := some p }

/-- RAKE_START. -/
def State.rakeStart (s : State) : State :=
  s.when_ (s.gridRuns && s.frame.phase == .published && decide (s.frame.rakeAt ≤ s.time.now)) fun s =>
    ([0, 1, 2, 3].foldl State.rakeStack s).modFrame fun f => { f with phase := .rake }

/-- RAKE_START (R407). -/
def execRakeStart (t : Nat) (s : State) : Host.Outcome State Fault Refusal := ranAt true t s State.rakeStart

/-- The hub item of this slice has run. -/
def State.hubItemDone (s : State) : Bool :=
  s.safety.rakeItems.any fun i => i.unit == 64 && decide (s.frame.rakeAt ≤ i.last)

/-- The item is the next one of its set; a cluster's runs in the rake task that its CC0 has taken. -/
def State.rakeDue (s : State) (unit item : Nat) : Bool :=
  if unit = 64 then item == s.safety.rakeHubNext + 1 && !s.hubItemDone
  else (s.stk (stackOf unit)).rakeTarget == some unit && (s.cl unit).runs .rake 255 && item == (s.stk (stackOf unit)).rakeNext + 1

/-- A cluster's set or a hub item (64 and up) has run; with the last of them the rake cycle is complete (R407). -/
def State.rakeCycleNote (n : Nat) (s : State) : State :=
  let l := insertAsc n s.safety.rakeDone
  if (s.enabledList ++ (List.range 16).map (· + 64)).all l.contains then
    s.modSafety fun x => { x with rakeCycle := x.rakeCycle + 1, rakeDone := [] }
  else s.modSafety fun x => { x with rakeDone := l }

/-- The sequence of a set moves on; a cluster set that completes is counted. -/
def State.rakeNext (unit item : Nat) (s : State) : State :=
  if unit = 64 then (s.modSafety fun x => { x with rakeHubNext := item % 16 }).rakeCycleNote (63 + item)
  else
    let s := s.modStk (stackOf unit) fun x => { x with
      rakeNext := item % 11, rakeTarget := if item = 11 then none else x.rakeTarget }
    if item = 11 then (((s.endSafety unit .rake).bumpCl unit 14).gateIdle unit).rakeCycleNote unit else s

/-- Item 11 reads the path-delay monitor, the cluster's temperature sensor and the ring oscillators (R424, R427). -/
def State.rakeMonitor (p taps : Nat) (raw : Int) (osc : List Nat) (s : State) : State :=
  let r := s.boot.effective
  let pdm := r.pdm.getD p (0, 0)
  let ro := r.roBase.getD p (0, 0)
  let tempC := r.tempOf p raw / 64
  let n : Int := taps + pdm.2 * (tempC - 85) / 256
  let s := s.modTest p fun x => { x with
    taps := taps, temp := tempC, osc := osc, slackN := n, slackRead := true, readCycle := s.safety.rakeCycle }
  let slow (base : Nat) (i : Nat) : Bool := decide (100 * osc.getD i base < 97 * base)
  if (slow ro.1 0 || slow ro.2 1) && decide ((pdm.1 : Int) - 4 ≤ n) then s.warn 0x0123 (stackOf p) p [] else s

/-- RAKE_ITEM_DONE: the item's age restarts; a wrong result is RAKE_FAIL. -/
def State.rakeItemDone (unit item : Nat) (ok : Bool) (taps : Nat) (temp : Int) (osc : List Nat) (s : State) : State :=
  s.when_ (s.gridRuns && s.frame.phase == .rake && decide (s.time.now < s.frame.rakeAt + 20 * ticksPerUs) &&
      s.rakeDue unit item) fun s =>
    let s := s.modSafety (Safety.modItem unit item fun i => { i with last := s.time.now, warned := false })
    let s := if unit < 64 ∧ item = 11 then s.rakeMonitor unit taps temp osc else s
    let s := s.rakeNext unit item
    if ok then s else s.detect 0x0003 (rakePlace unit).1 (rakePlace unit).2 0xFF (rakeArg unit item)

/-- RAKE_ITEM_DONE (R407). -/
def execRakeItemDone (unit item : Nat) (ok : Bool) (taps : Nat) (temp : Int) (osc : List Nat) (t : Nat) (s : State) :
    Host.Outcome State Fault Refusal :=
  ranAt (rakeItemOk unit item) t s (State.rakeItemDone unit item ok taps temp osc)

/-! ## The guard -/

/-- Items of the slice that have not completed are deferred. -/
def State.rakeCut (s : State) : State :=
  let s := [0, 1, 2, 3].foldl (init := s) fun s k =>
    match (s.stk k).rakeTarget with
    | some p => (s.endSafety p .rake).deferRake.modStk k fun x => { x with rakeTarget := none }
    | none => s
  if s.hubItemDone then s else s.deferRake

/-- A cluster that is not gated behind its drain record of the frame writes one as its structures stand: one still at work, and one
that has done no work in the frame (R58, R260). -/
def State.guardDrains (s : State) : State :=
  s.enabledList.foldl (init := s) fun s p =>
    let b := s.drainBytes p
    if (s.cl p).gate == .powerGated && (s.cl p).worked && drainCrcOk b && getU b 0 4 == s.frameNo then s else s.writeDrain p true

/-- Sessions that stop: CONFIGURED, and their SES_STOP is answered. -/
def State.guardSessions (s : State) : State :=
  (List.range 16).foldl (init := s) fun s i =>
    let s := s.modSes i fun x => { x with wholeDirty := false }
    if (s.ses i).stopping then
      ((s.mbx.cmds.filter fun c => c.opcode == 0x0205 && c.session == i && c.stage == .waiting && c.response.isNone).foldl
        (fun s c => s.accept c) (s.sesTo i 2 0x0205))
    else s

/-- The pins become IDLE when no class-S session is RUNNING any more (R402). -/
def State.guardPins (s : State) : State :=
  if s.safety.pinState = 1 ∧ !s.classSRunning then
    s.modSafety fun x => { x with pinState := 0, safeA := false, safeB := true }
  else s

/-- A GRID_STOP that waits is judged as it takes effect: a session that runs or is paused by then refuses it (R331, R341). -/
def State.judgeStop (s : State) : State :=
  if s.req.stopping ∧ s.anySession [3, 4] then (s.modReq fun r => { r with stopping := false }).refuseWaiting 0x0503 0x0204 else s

/-- What waits for the guard start at device level: the end of the grid, of replay, and a pause by the host or by the census
(R303, R341, R348, R385). A pause of the census resumes by itself while that census runs on. -/
def State.guardDevice (s : State) : State :=
  let s := s.judgeStop
  let r := s.req
  if r.stopping then s.toIdle.answerWaiting 0x0503
  else if r.replayStopping then
    ((s.pauseAll 0x0707).modReq fun r => { r with replayStopping := false }).answerWaiting 0x0707
  else if r.pausing then
    ((s.pauseAll 0x0708).modReq fun x => { x with pausing := false, autoPaused := r.autoPause && s.inCensus, autoPause := false }).answerWaiting
      0x0708
  else if r.autoPause then (s.pauseAll 0x0708).modReq fun r => { r with autoPause := false, autoPaused := s.inCensus }
  else s

/-- GUARD_START: idle clusters are gated, the others write their drain records; a cluster whose identities do not hold is SCHED_BOOK
(R260). -/
def State.guardStart (badBooks : List Nat) (s : State) : State :=
  let due := s.gridRuns && (s.frame.phase == .published || s.frame.phase == .rake) &&
    decide (s.frame.rakeAt + 20 * ticksPerUs ≤ s.time.now)
  s.when_ due fun s =>
    let s := (s.rakeCut.modFrame fun f => { f with phase := .guarded }).gateAll.guardDrains
    let s := (s.enabledList.filter badBooks.contains).foldl (fun s p => s.schedBook p) s
    s.guardSessions.guardDevice.guardPins

/-- GUARD_START (R44). -/
def execGuardStart (t : GuardAt) (s : State) : Host.Outcome State Fault Refusal :=
  ranAt (t.badBooks.all fun p => below p 64) t.t s (State.guardStart t.badBooks)

/-! ## FRAME_HUNG -/

/-- An Exact-mode frame whose publish is not complete by S + 4P (R54); halts do not count (R306). -/
def State.frameHung (s : State) : State :=
  let f := s.frame
  let open_ := [Phase.opened, .afterCutoff, .afterHarvest].contains f.phase
  let due := s.gridRuns && f.conf.exact && open_ && s.safety.restartPending != some 0x0008 &&
    decide (f.openTime + 4 * f.conf.period * ticksPerUs + s.req.haltTicks ≤ s.time.now)
  s.when_ due (State.detect 0x0008 0xFF 0xFF 0xFF [])

/-- FRAME_HUNG (R54). -/
def execFrameHung (t : Nat) (s : State) : Host.Outcome State Fault Refusal := ranAt true t s State.frameHung

end Sys2Proof.Machine
end

