-- ==== Sys2Proof/Machine/Spdm.lean ====
section
/-!
DEFINITION. Sys2Proof/Machine/Spdm.lean: the DOE mailbox of PF0 and its SPDM responder (R369, R443, R444). What an answer
says is modelled; its DMTF byte layout is not in the manual and is `Config.spdmBody` (log entry 12).
-/
namespace Sys2Proof.Machine

/-- The measurement block of an index (Table 19.5), none for an index without one. -/
def State.measurement (s : State) (i : Nat) : Option (List Byte) :=
  let m := s.images
  let slotHash (l : List SlotState) (k : Nat) : List Byte := (l.getD k {}).shown
  if 1 ≤ i ∧ i ≤ 4 then some (s.boot.imageHashes.getD (i - 1) (zeros 64))
  else if i = 5 then some (sha512 (s.part.ledgerOrder.flatMap ledgerBytes))
  else if i = 6 then some (sha512 (calBytes s.boot.effective))
  else if i = 7 then some (sha512 (dumBytes s.part.dum))
  else if i = 8 then some (match s.safety.profile with
    | some p => sha512 p.body
    | none => zeros 64)
  else if 16 ≤ i ∧ i ≤ 19 then some (slotHash m.worldSlots (i - 16))
  else if 20 ≤ i ∧ i ≤ 27 then some (slotHash m.rigSlots (i - 20))
  else if 28 ≤ i ∧ i ≤ 31 then some (slotHash m.netSlots (i - 28))
  else if 32 ≤ i ∧ i ≤ 39 then some (slotHash m.costSlots (i - 32))
  else none

/-- Every block, with its index. -/
def State.measurements (s : State) : List Byte :=
  (List.range 40).flatMap fun i => match s.measurement i with
    | some d => le 1 i ++ d
    | none => []

/-- The responder takes requests of at most 4 KiB while the CFW runs and PF0's link is up. -/
def State.doeOpen (s : State) (req : List Byte) : Bool := s.boot.cfwUp && (s.linkOf 0).up && decide (req.length ≤ 4096)

/-- An answer: `code` is the request's kind (0xFF: SPDM ERROR), `content` what the answer says. -/
def State.answer (code : Nat) (req content : List Byte) (s : State) : State :=
  let body := Config.spdmBody code req content
  s.modPcie fun p => { p with doeBusy := some req, doeResponse := body, spdmTranscript := p.spdmTranscript ++ req ++ body }

/-- An SPDM ERROR. -/
def State.spdmError (req : List Byte) (s : State) : State := s.answer 0xFF req []

/-- Runs a request that needs the algorithms negotiated, with a check of its own. -/
def State.spdm (code : Nat) (req : List Byte) (ok : Bool) (content : List Byte) (s : State) : State :=
  s.when_ (s.doeOpen req) fun s =>
    if s.pcie.spdmVersion && s.pcie.spdmAlgorithms && ok then s.answer code req content else s.spdmError req

/-- GET_VERSION starts a new exchange. -/
def State.getVersion (req : List Byte) (s : State) : State :=
  s.when_ (s.doeOpen req) fun s =>
    (s.modPcie fun p => { p with spdmTranscript := [], spdmVersion := true, spdmAlgorithms := false }).answer 1 req [0x12]

/-- GET_VERSION (R369). -/
def execGetVersion (req : List Byte) (t : Nat) (s : State) : Host.Outcome State Fault Refusal :=
  ranAt true t s (State.getVersion req)

/-- GET_CAPABILITIES: CERT_CAP, CHAL_CAP, MEAS_CAP with signatures. -/
def State.getCapabilities (req : List Byte) (s : State) : State :=
  s.when_ (s.doeOpen req) fun s => if s.pcie.spdmVersion then s.answer 2 req [1, 1, 2] else s.spdmError req

/-- GET_CAPABILITIES (R369). -/
def execGetCapabilities (req : List Byte) (t : Nat) (s : State) : Host.Outcome State Fault Refusal :=
  ranAt true t s (State.getCapabilities req)

/-- NEGOTIATE_ALGORITHMS: Ed25519 and SHA-512 and nothing else. -/
def State.negotiate (req : List Byte) (sig hash others : Bool) (s : State) : State :=
  s.when_ (s.doeOpen req) fun s =>
    if s.pcie.spdmVersion && sig && hash && !others then
      (s.modPcie fun p => { p with spdmAlgorithms := true }).answer 3 req [1, 1]
    else s.spdmError req

/-- NEGOTIATE_ALGORITHMS (R369). -/
def execNegotiateAlgorithms (req : List Byte) (baseAsymEd25519 baseHashSha512 others : Bool) (t : Nat) (s : State) :
    Host.Outcome State Fault Refusal :=
  ranAt true t s (State.negotiate req baseAsymEd25519 baseHashSha512 others)

/-- GET_DIGESTS (R369): the digest of slot 0's chain. -/
def execGetDigests (req : List Byte) (t : Nat) (s : State) : Host.Outcome State Fault Refusal :=
  ranAt true t s fun s => s.spdm 4 req s.boot.certOk (sha512 s.flash.certChain)

/-- GET_CERTIFICATE (R443): a portion of the chain; an SPDM ERROR without one. -/
def execGetCertificate (chainSlot offset length : Nat) (req : List Byte) (t : Nat) (s : State) :
    Host.Outcome State Fault Refusal :=
  ranAt true t s fun s =>
    s.spdm 5 req (s.boot.certOk && chainSlot == 0 && decide (offset < s.flash.certChain.length))
      ((s.flash.certChain.drop offset).take length)

/-- CHALLENGE (R369): signed over the exchange; an SPDM ERROR while the keys are zero (R448). -/
def State.challenge (chainSlot : Nat) (req : List Byte) (s : State) : State :=
  s.spdm 6 req (s.boot.certOk && s.hub.secretsKeys && chainSlot == 0)
    (sha512 s.flash.certChain ++ s.measurements ++ s.identitySign (s.pcie.spdmTranscript ++ req ++ s.measurements))

/-- CHALLENGE (R369). -/
def execChallenge (chainSlot : Nat) (req : List Byte) (t : Nat) (s : State) : Host.Outcome State Fault Refusal :=
  ranAt true t s (State.challenge chainSlot req)

/-- GET_MEASUREMENTS: index 0xFF names every block. -/
def State.getMeasurements (i : Nat) (sign : Bool) (req : List Byte) (s : State) : State :=
  let blocks := if i = 0xFF then some s.measurements else s.measurement i
  let body := blocks.getD []
  s.spdm 7 req (blocks.isSome && (!sign || s.hub.secretsKeys))
    (body ++ if sign then s.identitySign (s.pcie.spdmTranscript ++ req ++ body) else [])

/-- GET_MEASUREMENTS (R444). -/
def execGetMeasurements (index : Nat) (sign : Bool) (req : List Byte) (t : Nat) (s : State) :
    Host.Outcome State Fault Refusal :=
  ranAt true t s (State.getMeasurements index sign req)

/-- DOE Discovery: the data objects supported, by index: 0 DOE Discovery, 1 CMA-SPDM (R369). The vendor and type numbers
are PCI Express's: vendor 1, types 0 and 1. -/
def State.doeDiscovery (i : Nat) (s : State) : State :=
  s.when_ (s.doeOpen []) fun s => s.modPcie fun p =>
    { p with doeResponse := if i ≤ 1 then le 2 1 ++ le 1 i ++ le 1 (if i = 0 then 1 else 0) else le 2 0xFFFF ++ zeros 2 }

/-- DOE_DISCOVERY (R369). -/
def execDoeDiscovery (index : Nat) (t : Nat) (s : State) : Host.Outcome State Fault Refusal :=
  ranAt (below index 256) t s (State.doeDiscovery index)

/-- A DOE Abort discards the request in progress (R369). -/
def execDoeAbort (t : Nat) (s : State) : Host.Outcome State Fault Refusal :=
  ranAt true t s fun s => s.modPcie fun p => { p with doeBusy := none, doeResponse := [] }

end Sys2Proof.Machine
end

