-- ==== Sys2Proof/Machine/Dispatch.lean ====
section
/-!
DEFINITION. Sys2Proof/Machine/Dispatch.lean: one arm per command, each a direct call of its meaning.
-/
namespace Sys2Proof.Machine

def exec (i : Instr) (s : State) : Host.Outcome State Fault Refusal :=
  match i with
  | .slotSubmit fn slot t => Sys2Proof.Machine.execSlotSubmit fn slot t s
  | .inboundSlotWrite fn slot off bytes t => Sys2Proof.Machine.execInboundSlotWrite fn slot off bytes t s
  | .commandArrival fn slot failed t => Sys2Proof.Machine.execCommandArrival fn slot failed t s
  | .brineLanding fn slot t => Sys2Proof.Machine.execBrineLanding fn slot t s
  | .mailboxResponse fn slot t => Sys2Proof.Machine.execMailboxResponse fn slot t s
  | .hubTaskTransfer stack t => Sys2Proof.Machine.execHubTaskTransfer stack t s
  | .sluiceReopen t => Sys2Proof.Machine.execSluiceReopen t s
  | .ringReadIndexWrite fn r value t => Sys2Proof.Machine.execRingReadIndexWrite fn r value t s
  | .msixUnmask fn vec t => Sys2Proof.Machine.execMsixUnmask fn vec t s
  | .mbxWriteDiscardRead fn sameCycle t => Sys2Proof.Machine.execMbxWriteDiscardRead fn sameCycle t s
  | .hubTimeLoRead fn t => Sys2Proof.Machine.execHubTimeLoRead fn t s
  | .counterLoRead fn scope inst idx shadow sameCycleReset t => Sys2Proof.Machine.execCounterLoRead fn scope inst idx shadow sameCycleReset t s
  | .pwrRtcLoRead master rtc t => Sys2Proof.Machine.execPwrRtcLoRead master rtc t s
  | .secTamperLogLoRead master k t => Sys2Proof.Machine.execSecTamperLogLoRead master k t s
  | .hubResetWarm fn value t => Sys2Proof.Machine.execHubResetWarm fn value t s
  | .cfwBeat ssv t => Sys2Proof.Machine.execCfwBeat ssv t s
  | .registerWrite space fn off size value hwSet t => Sys2Proof.Machine.execRegisterWrite space fn off size value hwSet t s
  | .devIdentify fn slot t => Sys2Proof.Machine.execDevIdentify fn slot t s
  | .devStatus fn slot t => Sys2Proof.Machine.execDevStatus fn slot t s
  | .devKey fn slot t => Sys2Proof.Machine.execDevKey fn slot t s
  | .devTimeSource fn slot t => Sys2Proof.Machine.execDevTimeSource fn slot t s
  | .sesOpen fn slot t => Sys2Proof.Machine.execSesOpen fn slot t s
  | .sesBind fn slot t => Sys2Proof.Machine.execSesBind fn slot t s
  | .sesSet fn slot t => Sys2Proof.Machine.execSesSet fn slot t s
  | .sesStart fn slot t => Sys2Proof.Machine.execSesStart fn slot t s
  | .sesStop fn slot t => Sys2Proof.Machine.execSesStop fn slot t s
  | .sesRecover fn slot t => Sys2Proof.Machine.execSesRecover fn slot t s
  | .sesClose fn slot t => Sys2Proof.Machine.execSesClose fn slot t s
  | .sesStatus fn slot t => Sys2Proof.Machine.execSesStatus fn slot t s
  | .imgLoad fn slot t => Sys2Proof.Machine.execImgLoad fn slot t s
  | .imgUnload fn slot t => Sys2Proof.Machine.execImgUnload fn slot t s
  | .imgList fn slot t => Sys2Proof.Machine.execImgList fn slot t s
  | .imageCopyComplete kind slot t => Sys2Proof.Machine.execImageCopyComplete kind slot t s
  | .brine fn slot t => Sys2Proof.Machine.execBrine fn slot t s
  | .brineUrgent fn slot t => Sys2Proof.Machine.execBrineUrgent fn slot t s
  | .worldStatus fn slot t => Sys2Proof.Machine.execWorldStatus fn slot t s
  | .panRead fn slot t => Sys2Proof.Machine.execPanRead fn slot t s
  | .frameConfig fn slot t => Sys2Proof.Machine.execFrameConfig fn slot t s
  | .gridStart fn slot t => Sys2Proof.Machine.execGridStart fn slot t s
  | .gridStop fn slot t => Sys2Proof.Machine.execGridStop fn slot t s
  | .streamAdd fn slot t => Sys2Proof.Machine.execStreamAdd fn slot t s
  | .streamResize fn slot t => Sys2Proof.Machine.execStreamResize fn slot t s
  | .streamRemove fn slot t => Sys2Proof.Machine.execStreamRemove fn slot t s
  | .querySubmit fn slot t => Sys2Proof.Machine.execQuerySubmit fn slot t s
  | .ringRegister fn slot t => Sys2Proof.Machine.execRingRegister fn slot t s
  | .ringRelease fn slot t => Sys2Proof.Machine.execRingRelease fn slot t s
  | .resultLast fn slot t => Sys2Proof.Machine.execResultLast fn slot t s
  | .recordStart fn slot t => Sys2Proof.Machine.execRecordStart fn slot t s
  | .recordStop fn slot t => Sys2Proof.Machine.execRecordStop fn slot t s
  | .captureRelease fn slot t => Sys2Proof.Machine.execCaptureRelease fn slot t s
  | .opDigestSet fn slot t => Sys2Proof.Machine.execOpDigestSet fn slot t s
  | .replayStart fn slot t => Sys2Proof.Machine.execReplayStart fn slot t s
  | .replayFeed fn slot t => Sys2Proof.Machine.execReplayFeed fn slot t s
  | .replayStop fn slot t => Sys2Proof.Machine.execReplayStop fn slot t s
  | .pause fn slot t => Sys2Proof.Machine.execPause fn slot t s
  | .save fn slot t => Sys2Proof.Machine.execSave fn slot t s
  | .restore fn slot t => Sys2Proof.Machine.execRestore fn slot t s
  | .resume fn slot t => Sys2Proof.Machine.execResume fn slot t s
  | .slipLogRead fn slot t => Sys2Proof.Machine.execSlipLogRead fn slot t s
  | .ctrRead fn slot t => Sys2Proof.Machine.execCtrRead fn slot t s
  | .ctrSelect fn slot t => Sys2Proof.Machine.execCtrSelect fn slot t s
  | .freeze fn slot t => Sys2Proof.Machine.execFreeze fn slot t s
  | .traceConfig fn slot t => Sys2Proof.Machine.execTraceConfig fn slot t s
  | .traceRead fn slot t => Sys2Proof.Machine.execTraceRead fn slot t s
  | .breakSet fn slot t => Sys2Proof.Machine.execBreakSet fn slot t s
  | .breakClear fn slot hitSameCycle t => Sys2Proof.Machine.execBreakClear fn slot hitSameCycle t s
  | .breakResume fn slot t => Sys2Proof.Machine.execBreakResume fn slot t s
  | .safetyStatus fn slot ssv t => Sys2Proof.Machine.execSafetyStatus fn slot ssv t s
  | .safetyBind fn slot t => Sys2Proof.Machine.execSafetyBind fn slot t s
  | .safeRelease fn slot ssv t => Sys2Proof.Machine.execSafeRelease fn slot ssv t s
  | .calRead fn slot t => Sys2Proof.Machine.execCalRead fn slot t s
  | .calWrite fn slot t => Sys2Proof.Machine.execCalWrite fn slot t s
  | .lifecycleSet fn slot t => Sys2Proof.Machine.execLifecycleSet fn slot t s
  | .debugUnlock fn slot t => Sys2Proof.Machine.execDebugUnlock fn slot t s
  | .ledgerRead fn slot t => Sys2Proof.Machine.execLedgerRead fn slot t s
  | .fabStatus fn slot t => Sys2Proof.Machine.execFabStatus fn slot t s
  | .fabPorts fn slot t => Sys2Proof.Machine.execFabPorts fn slot t s
  | .fabCensus fn slot t => Sys2Proof.Machine.execFabCensus fn slot t s
  | .fabRouteRead fn slot t => Sys2Proof.Machine.execFabRouteRead fn slot t s
  | .fabNodeBind fn slot t => Sys2Proof.Machine.execFabNodeBind fn slot t s
  | .fabShard fn slot t => Sys2Proof.Machine.execFabShard fn slot t s
  | .fabFarm fn slot t => Sys2Proof.Machine.execFabFarm fn slot t s
  | .fwStage fn slot t => Sys2Proof.Machine.execFwStage fn slot t s
  | .fwCommit fn slot t => Sys2Proof.Machine.execFwCommit fn slot t s
  | .fwStatus fn slot t => Sys2Proof.Machine.execFwStatus fn slot t s
  | .dumpRead fn slot t => Sys2Proof.Machine.execDumpRead fn slot t s
  | .dumpTarget fn slot t => Sys2Proof.Machine.execDumpTarget fn slot t s
  | .dumpClear fn slot t => Sys2Proof.Machine.execDumpClear fn slot t s
  | .getVersion req t => Sys2Proof.Machine.execGetVersion req t s
  | .getCapabilities req t => Sys2Proof.Machine.execGetCapabilities req t s
  | .negotiateAlgorithms req baseAsymEd25519 baseHashSha512 others t => Sys2Proof.Machine.execNegotiateAlgorithms req baseAsymEd25519 baseHashSha512 others t s
  | .getDigests req t => Sys2Proof.Machine.execGetDigests req t s
  | .getCertificate chainSlot offset length req t => Sys2Proof.Machine.execGetCertificate chainSlot offset length req t s
  | .challenge chainSlot req t => Sys2Proof.Machine.execChallenge chainSlot req t s
  | .getMeasurements index sign req t => Sys2Proof.Machine.execGetMeasurements index sign req t s
  | .doeDiscovery index t => Sys2Proof.Machine.execDoeDiscovery index t s
  | .doeAbort t => Sys2Proof.Machine.execDoeAbort t s
  | .perstNAssert t => Sys2Proof.Machine.execPerstNAssert t s
  | .perstNDeassert gpio3 refclkToggles t => Sys2Proof.Machine.execPerstNDeassert gpio3 refclkToggles t s
  | .pcieLinkReset linkB t => Sys2Proof.Machine.execPcieLinkReset linkB t s
  | .dlDown linkB t => Sys2Proof.Machine.execDlDown linkB t s
  | .flr fn t => Sys2Proof.Machine.execFlr fn t s
  | .flrComplete fn t => Sys2Proof.Machine.execFlrComplete fn t s
  | .vfRemove vfEnable numVfs t => Sys2Proof.Machine.execVfRemove vfEnable numVfs t s
  | .pcieReplay linkB delay t => Sys2Proof.Machine.execPcieReplay linkB delay t s
  | .poisonedInboundWrite fn t => Sys2Proof.Machine.execPoisonedInboundWrite fn t s
  | .ptmDialog masterNs t => Sys2Proof.Machine.execPtmDialog masterNs t s
  | .ppsEdge t => Sys2Proof.Machine.execPpsEdge t s
  | .frameOpen ssv t => Sys2Proof.Machine.execFrameOpen ssv t s
  | .assayStart stack t => Sys2Proof.Machine.execAssayStart stack t s
  | .assayComplete stack sigs t => Sys2Proof.Machine.execAssayComplete stack sigs t s
  | .assayLate stack t => Sys2Proof.Machine.execAssayLate stack t s
  | .brineApply fn slot t => Sys2Proof.Machine.execBrineApply fn slot t s
  | .brineCutoff t => Sys2Proof.Machine.execBrineCutoff t s
  | .urgentCheckpoint j t => Sys2Proof.Machine.execUrgentCheckpoint j t s
  | .urgentApply fn slot t => Sys2Proof.Machine.execUrgentApply fn slot t s
  | .harvestDeadline t => Sys2Proof.Machine.execHarvestDeadline t s
  | .engineDrainEnd cluster t => Sys2Proof.Machine.execEngineDrainEnd cluster t s
  | .harvestStart t => Sys2Proof.Machine.execHarvestStart t s
  | .harvestNode stream level pos t => Sys2Proof.Machine.execHarvestNode stream level pos t s
  | .attemptStart stream t => Sys2Proof.Machine.execAttemptStart stream t s
  | .attemptResult stream t => Sys2Proof.Machine.execAttemptResult stream t s
  | .reverifyCutoff t => Sys2Proof.Machine.execReverifyCutoff t s
  | .commit stream t => Sys2Proof.Machine.execCommit stream t s
  | .publishDeadline t => Sys2Proof.Machine.execPublishDeadline t s
  | .publishEnd t => Sys2Proof.Machine.execPublishEnd t s
  | .rakeStart t => Sys2Proof.Machine.execRakeStart t s
  | .rakeItemDone unit item ok taps temp osc t => Sys2Proof.Machine.execRakeItemDone unit item ok taps temp osc t s
  | .guardStart t => Sys2Proof.Machine.execGuardStart t s
  | .frameHung t => Sys2Proof.Machine.execFrameHung t s
  | .captureDrain bytes t => Sys2Proof.Machine.execCaptureDrain bytes t s
  | .taskOffer cluster producer task t => Sys2Proof.Machine.execTaskOffer cluster producer task t s
  | .tokenDelivery cluster entry operand t => Sys2Proof.Machine.execTokenDelivery cluster entry operand t s
  | .taskCompletion cluster unit successors bookOk t => Sys2Proof.Machine.execTaskCompletion cluster unit successors bookOk t s
  | .unitTake cluster unit read t => Sys2Proof.Machine.execUnitTake cluster unit read t s
  | .delayRelease cluster entry t => Sys2Proof.Machine.execDelayRelease cluster entry t s
  | .clusterWake cluster t => Sys2Proof.Machine.execClusterWake cluster t s
  | .pllRestart stack t => Sys2Proof.Machine.execPllRestart stack t s
  | .nocCreditTimeout stack endpoint t => Sys2Proof.Machine.execNocCreditTimeout stack endpoint t s
  | .contextRun stream cluster t => Sys2Proof.Machine.execContextRun stream cluster t s
  | .headBlock stream cluster t => Sys2Proof.Machine.execHeadBlock stream cluster t s
  | .localBlock stream cluster t => Sys2Proof.Machine.execLocalBlock stream cluster t s
  | .distBuild job t => Sys2Proof.Machine.execDistBuild job t s
  | .resolutionRequest cluster query read t => Sys2Proof.Machine.execResolutionRequest cluster query read t s
  | .check cluster stream g t => Sys2Proof.Machine.execCheck cluster stream g t s
  | .recheck cluster stream g t => Sys2Proof.Machine.execRecheck cluster stream g t s
  | .repair stream t => Sys2Proof.Machine.execRepair stream t s
  | .stop stream t => Sys2Proof.Machine.execStop stream t s
  | .probe cluster stream g t => Sys2Proof.Machine.execProbe cluster stream g t s
  | .reverify stream t => Sys2Proof.Machine.execReverify stream t s
  | .costProgram cluster stream g stage t => Sys2Proof.Machine.execCostProgram cluster stream g stage t s
  | .topkCut cluster stream t => Sys2Proof.Machine.execTopkCut cluster stream t s
  | .factorisation core stream g block t => Sys2Proof.Machine.execFactorisation core stream g block t s
  | .solverIteration cluster stream gs t => Sys2Proof.Machine.execSolverIteration cluster stream gs t s
  | .timeScalingOp cluster stream g t => Sys2Proof.Machine.execTimeScalingOp cluster stream g t s
  | .bgtStep cluster running faultFound t => Sys2Proof.Machine.execBgtStep cluster running faultFound t s
  | .hbmTempRead hbm tempC t => Sys2Proof.Machine.execHbmTempRead hbm tempC t s
  | .wdogEdge level ssv t => Sys2Proof.Machine.execWdogEdge level ssv t s
  | .wdogLost ssv t => Sys2Proof.Machine.execWdogLost ssv t s
  | .cfwSilent ssv t => Sys2Proof.Machine.execCfwSilent ssv t s
  | .timeBaseCheck ssv t => Sys2Proof.Machine.execTimeBaseCheck ssv t s
  | .cpLockstep pair t => Sys2Proof.Machine.execCpLockstep pair t s
  | .ssvLockstep t => Sys2Proof.Machine.execSsvLockstep t s
  | .latentOverdue unit item t => Sys2Proof.Machine.execLatentOverdue unit item t s
  | .rakeOverdue unit item t => Sys2Proof.Machine.execRakeOverdue unit item t s
  | .dumpWritten t => Sys2Proof.Machine.execDumpWritten t s
  | .selfTestComplete failures t => Sys2Proof.Machine.execSelfTestComplete failures t s
  | .healthPageWrite t => Sys2Proof.Machine.execHealthPageWrite t s
  | .portUp port rtt neighbour neighbourId t => Sys2Proof.Machine.execPortUp port rtt neighbour neighbourId t s
  | .portDown port t => Sys2Proof.Machine.execPortDown port t s
  | .flitReceive port flit t => Sys2Proof.Machine.execFlitReceive port flit t s
  | .nackReceive port lack t => Sys2Proof.Machine.execNackReceive port lack t s
  | .creditFlit port t => Sys2Proof.Machine.execCreditFlit port t s
  | .grant msg t => Sys2Proof.Machine.execGrant msg t s
  | .hail port neighbour t => Sys2Proof.Machine.execHail port neighbour t s
  | .censusStart epoch t => Sys2Proof.Machine.execCensusStart epoch t s
  | .selfCensus t => Sys2Proof.Machine.execSelfCensus t s
  | .report r port t => Sys2Proof.Machine.execReport r port t s
  | .collectEnd t => Sys2Proof.Machine.execCollectEnd t s
  | .route r t => Sys2Proof.Machine.execRoute r t s
  | .verifyOk node ok t => Sys2Proof.Machine.execVerifyOk node ok t s
  | .enable epoch t => Sys2Proof.Machine.execEnable epoch t s
  | .censusTimeout t => Sys2Proof.Machine.execCensusTimeout t s
  | .ping port t => Sys2Proof.Machine.execPing port t s
  | .fabricBrineArrival port src urgent world seq records t => Sys2Proof.Machine.execFabricBrineArrival port src urgent world seq records t s
  | .brineCompletion msg status statusArg frame t => Sys2Proof.Machine.execBrineCompletion msg status statusArg frame t s
  | .farmReq port src body t => Sys2Proof.Machine.execFarmReq port src body t s
  | .farmReply port body t => Sys2Proof.Machine.execFarmReply port body t s
  | .freezeGo t => Sys2Proof.Machine.execFreezeGo t s
  | .trigInEdge t => Sys2Proof.Machine.execTrigInEdge t s
  | .fabricFreeze t => Sys2Proof.Machine.execFabricFreeze t s
  | .freezeInstant t => Sys2Proof.Machine.execFreezeInstant t s
  | .freezeShadowsDone t => Sys2Proof.Machine.execFreezeShadowsDone t s
  | .traceUnitWrite buffer source bytes t => Sys2Proof.Machine.execTraceUnitWrite buffer source bytes t s
  | .breakHit index unit cluster pc layer operator t => Sys2Proof.Machine.execBreakHit index unit cluster pc layer operator t s
  | .auxRise gpio0 gpio1 perstHigh lidOpen tamperLow t => Sys2Proof.Machine.execAuxRise gpio0 gpio1 perstHigh lidOpen tamperLow t s
  | .auxLoss t => Sys2Proof.Machine.execAuxLoss t s
  | .mainInRange t => Sys2Proof.Machine.execMainInRange t s
  | .boot t => Sys2Proof.Machine.execBoot t s
  | .undervoltage t => Sys2Proof.Machine.execUndervoltage t s
  | .overvoltage t => Sys2Proof.Machine.execOvervoltage t s
  | .railsOff t => Sys2Proof.Machine.execRailsOff t s
  | .railFault t => Sys2Proof.Machine.execRailFault t s
  | .thermalTrip tripped hub hbm excursion t => Sys2Proof.Machine.execThermalTrip tripped hub hbm excursion t s
  | .thermalStep stack temps t => Sys2Proof.Machine.execThermalStep stack temps t s
  | .powerSample power avg10ms voltage t => Sys2Proof.Machine.execPowerSample power avg10ms voltage t s
  | .clockMonitor ok lostReference t => Sys2Proof.Machine.execClockMonitor ok lostReference t s
  | .tamperEvent sources rtc t => Sys2Proof.Machine.execTamperEvent sources rtc t s
  | .pwrCtlOff value t => Sys2Proof.Machine.execPwrCtlOff value t s
  | .pwrCtlWake value t => Sys2Proof.Machine.execPwrCtlWake value t s
  | .pwrCtlRestart value t => Sys2Proof.Machine.execPwrCtlRestart value t s
  | .wakeNTimeout t => Sys2Proof.Machine.execWakeNTimeout t s
  | .smbAlertResponse t => Sys2Proof.Machine.execSmbAlertResponse t s
  | .hubOnlyExit stack t => Sys2Proof.Machine.execHubOnlyExit stack t s
  | .hubOnlyEntry stack t => Sys2Proof.Machine.execHubOnlyEntry stack t s
  | .jtagInstruction code t => Sys2Proof.Machine.execJtagInstruction code t s
  | .dlUp linkB width speed flit t => Sys2Proof.Machine.execDlUp linkB width speed flit t s
  | .busMasterEnable fn on t => Sys2Proof.Machine.execBusMasterEnable fn on t s
  | .healthyWaveformEdge readA readB ssv t => Sys2Proof.Machine.execHealthyWaveformEdge readA readB ssv t s
  | .timeCorrApply correction source t => Sys2Proof.Machine.execTimeCorrApply correction source t s

end Sys2Proof.Machine
end

