-- ==== Sys2Proof/Safety.lean ====
section
/-!
DEFINITION. Sys2Proof/Safety.lean: what counts as a safe state and a run that stays inside the model.
-/
namespace Sys2Proof

/-- The SAFE pins show class-S safe state: LATCHED, SAFE_A low, SAFE_B high (R398, Table 17.2). -/
def Machine.State.pinsLatched (s : Machine.State) : Prop :=
  s.safety.pinState = 2 ∧ s.safety.safeA = false ∧ s.safety.safeB = true

/-- While any code is latched the pins show class-S safe state (R398, R402, R414). -/
def Machine.State.latchHolds (s : Machine.State) : Prop := s.safety.latch ≠ [] → s.pinsLatched

/-- The response decided for the command in a slot and not yet written (R320). -/
def Machine.State.reply? (s : Machine.State) (fn slot : Nat) : Option Machine.Response :=
  (s.cmd? fn slot).bind fun c => c.response

/-- The command in a slot has arrived, waits for the row of opcode `op` and is in its turn (R46, R312, R314 check 10). -/
def Machine.State.isArrived (s : Machine.State) (op fn slot : Nat) (c : Machine.Cmd) : Prop :=
  s.cmd? fn slot = some c ∧ c.opcode = op ∧ c.stage = .ready ∧ c.response = none ∧ s.inTurn c = true

/-- The like outside QUARANTINE (R332) and replay (R300). -/
def Machine.State.isReady (s : Machine.State) (op fn slot : Nat) (c : Machine.Cmd) : Prop :=
  s.cmd? fn slot = some c ∧ c.opcode = op ∧ c.stage = .ready ∧ c.response = none ∧ s.inTurn c = true ∧ s.boot.mode ≠ 1 ∧
    s.frame.devState ≠ 3

/-- The command in a slot waits for the instant that its answer or effect is tied to. -/
def Machine.State.waitsAt (s : Machine.State) (fn slot : Nat) : Prop :=
  ∃ c, s.cmd? fn slot = some c ∧ c.stage = .waiting ∧ c.response = none

/-- A response of STATUS OK with its payload (R328, R329). -/
def okReply (p : List Byte) : Machine.Response := { status := 0, payload := p }

/-- A response of a refusal: its STATUS, its STATUS_ARG and no payload (R328, R329). -/
def refusal (status : Nat) (arg : Nat := 0) : Machine.Response := { status := status, arg := arg }

/-- The code stands in the latch with the time of its detection, and the pins show it (R398). -/
def Machine.State.faultLatched (s : Machine.State) (code now : Nat) : Prop :=
  s.pinsLatched ∧ ∃ e ∈ s.safety.latch, e.code = code ∧ e.time = now

/-- Nothing changed but device time, the capture ring and the command table. -/
def Machine.State.onlyAnswered (s s' : Machine.State) : Prop :=
  { s' with time := s.time, det := s.det, mbx := { s'.mbx with cmds := s.mbx.cmds } } = s

/-- Nothing changed but what `onlyAnswered` names, host memory within the command's write descriptors and the hub's selectable
counters, which count the bytes written (R318, Table 20.4). -/
def Machine.State.onlyDelivered (s s' : Machine.State) (c : Machine.Cmd) : Prop :=
  (∀ x, (∀ d ∈ c.descs, d.write = true → ¬(d.addr ≤ x ∧ x < d.addr + d.len)) →
    Machine.Mem.read x s'.host = Machine.Mem.read x s.host) ∧
  { s' with
    time := s.time, det := s.det, mbx := { s'.mbx with cmds := s.mbx.cmds }, host := s.host,
    hub := { s'.hub with selCounters := s.hub.selCounters } } = s

/-- Nothing changed but what `onlyAnswered` names, the event rings with their host memory, interrupts and counters (R321,
R322, R365), the sessions and the free-value counter. -/
def Machine.State.onlyEvents (s s' : Machine.State) : Prop :=
  { s' with
    time := s.time, det := s.det, mbx := { s'.mbx with cmds := s.mbx.cmds }, rings := s.rings, sessions := s.sessions,
    pcie := s.pcie, clusters := s.clusters, stks := s.stks, hub := s.hub, host := s.host, free := s.free } = s

/-- Nothing changed but what the detection of a fault writes: the supervisor, the error log, the trace, the frame's mark,
events with what they touch, and the answers to commands of sessions that leave (R398-R401, R420-R423, R430). -/
def Machine.State.onlyFault (s s' : Machine.State) : Prop :=
  { s' with
    time := s.time, safety := s.safety, errors := s.errors, obs := s.obs, frame := s.frame,
    mbx := { s'.mbx with cmds := s.mbx.cmds }, rings := s.rings, sessions := s.sessions, pcie := s.pcie,
    clusters := s.clusters, stks := s.stks, hub := s.hub, host := s.host, free := s.free } = s

/-- A check operation has begun on cluster `p` and stays in flight: queries of its own wait in the parking store, and nothing but
the cluster changed (R161). -/
def Machine.State.staysInFlight (s s' : Machine.State) (p : Nat) (f : Machine.Sweeping) : Prop :=
  f ∈ (s'.cl p).inFlight ∧ (s'.cl p).cands = (s.cl p).cands ∧
    (∃ l, l ≠ [] ∧ (s'.cl p).parked = (s.cl p).parked ++ l ∧ ∀ k ∈ l, k.kind = f.kind ∧ k.stream = f.stream ∧ k.g = f.g) ∧
    (∀ q, q ≠ p → s'.cl q = s.cl q) ∧ { s' with time := s.time, clusters := s.clusters } = s

/-- Nothing changed but device time, the fabric with what waits for it (the farming state and the pause that a census asks for)
and the hub's selectable counters, which count the bytes that ports send (Table 20.4). -/
def Machine.State.onlyFabric (s s' : Machine.State) : Prop :=
  { s' with
    time := s.time, fabric := s.fabric, farming := s.farming, req := s.req,
    hub := { s'.hub with selCounters := s.hub.selCounters } } = s

/-- Every message that the fabric holds has a route, or the census is not ACTIVE (R384). -/
def Machine.State.allRouted (s : Machine.State) : Prop :=
  s.fabric.census ≠ 4 ∨ ∀ m ∈ s.fabric.msgs, (s.portTo m.dst).isSome = true

/-- Nothing changed but the fabric, the requests that a census makes, hub counters, and the commands whose messages have no
route, which are refused (R384). -/
def Machine.State.onlyLinks (s s' : Machine.State) : Prop :=
  { s' with
    time := s.time, fabric := s.fabric, farming := s.farming, req := s.req,
    hub := { s'.hub with selCounters := s.hub.selCounters, counters := s.hub.counters },
    mbx := { s'.mbx with cmds := s.mbx.cmds },
    worlds := { s'.worlds with landingUsed := s.worlds.landingUsed } } = s ∧
    (s.allRouted → s'.mbx = s.mbx ∧ s'.worlds = s.worlds)

/-- Stage 1 of a brine command that came over the fabric refuses it with this status and argument (R106, R107, R387). -/
def Machine.State.fabricRefuses (s : Machine.State) (urgent : Bool) (c : Machine.Cmd) (status arg : Nat) : Prop :=
  let home := c.world ≤ 3 ∧ s.isProxy c.world = false
  let here := home ∧ (s.wd c.world).loaded = true
  (3 < c.world ∧ (status, arg) = (0x0106, 0)) ∨
  (c.world ≤ 3 ∧ (∃ e, s.farming.shards.find? (fun e => e.home != s.fabric.nodeId && e.localWorld == c.world) = some e ∧
    s.reachable e.home = false) ∧ (status, arg) = (0x0201, 0)) ∨
  (home ∧ (s.wd c.world).loaded = false ∧ (status, arg) = (0x0207, 0)) ∨
  (here ∧ ∃ i, c.recordList = .inl i ∧ (status, arg) = (0x0104, i)) ∨
  (here ∧ ∃ rs, c.recordList = .inr rs ∧
    ((rs = [] ∧ (status, arg) = (0x0104, 0)) ∨ (urgent = true ∧ 16 < rs.length ∧ (status, arg) = (0x0104, 16)) ∨
      (rs ≠ [] ∧ (urgent = true → rs.length ≤ 16) ∧ ∃ i < rs.length,
        (∀ j < i, recordBad urgent c.world (s.wd c.world) (rs.getD j []) = none) ∧
        recordBad urgent c.world (s.wd c.world) (rs.getD i []) = some status ∧ arg = i) ∨
      (urgent = false ∧ rs ≠ [] ∧ (∀ i < rs.length, recordBad urgent c.world (s.wd c.world) (rs.getD i []) = none) ∧
        rs.findIdx? (fun r => decide ((recFrame r - c.frame).toInt > 16)) = some arg ∧ status = 0x0108)))

/-- `s'` with device time, the free-value counter and what a timing event writes, the frame's mark and the TIMING_SLIP log, as
they are in `s` (R292). -/
def Machine.State.slipApart (s s' : Machine.State) : Machine.State :=
  { s' with
    time := s.time, free := s.free,
    frame := { s'.frame with timingSlip := s.frame.timingSlip, slipTicks := s.frame.slipTicks },
    det := { s'.det with slipLog := s.det.slipLog } }

/-- No timing event counts: the mode is not Exact, or no frame is under way (R292). -/
def Machine.State.noSlips (s : Machine.State) : Prop :=
  s.frame.conf.exact = false ∨ s.gridRuns = false ∨ s.frame.phase = .closed

/-- The image slots, but for the key of the command that loads one: a reset of its function renames it (R373). -/
def Machine.Images.unkeyed (x : Machine.Images) : Machine.Images :=
  let bare (l : List Machine.SlotState) : List Machine.SlotState := l.map fun y => { y with loader := none }
  { x with
    worldSlots := bare x.worldSlots, rigSlots := bare x.rigSlots, netSlots := bare x.netSlots, costSlots := bare x.costSlots }

/-- Session `i` apart, every session keeps all but its counters. -/
def Machine.State.otherSessions (s s' : Machine.State) (i : Nat) : Prop :=
  ∀ j ≠ i, { s'.ses j with counters := [] } = { s.ses j with counters := [] }

/-- The slot names a request slot of a function (R308). -/
def isSlot (fn slot : Nat) : Prop := fn < 17 ∧ slot < 32

/-- The opcode, function and slot of a row that runs an Ifen command (Tables 14.2 to 14.18). -/
def Instr.row : Instr → Option (Nat × Nat × Nat)
  | .devIdentify fn slot _ => some (0x0101, fn, slot)
  | .devStatus fn slot _ => some (0x0102, fn, slot)
  | .devKey fn slot _ => some (0x0103, fn, slot)
  | .devTimeSource fn slot _ => some (0x0104, fn, slot)
  | .sesOpen fn slot _ => some (0x0201, fn, slot)
  | .sesBind fn slot _ => some (0x0202, fn, slot)
  | .sesSet fn slot _ => some (0x0203, fn, slot)
  | .sesStart fn slot _ => some (0x0204, fn, slot)
  | .sesStop fn slot _ => some (0x0205, fn, slot)
  | .sesRecover fn slot _ => some (0x0206, fn, slot)
  | .sesClose fn slot _ => some (0x0207, fn, slot)
  | .sesStatus fn slot _ => some (0x0208, fn, slot)
  | .imgLoad fn slot _ => some (0x0301, fn, slot)
  | .imgUnload fn slot _ => some (0x0302, fn, slot)
  | .imgList fn slot _ => some (0x0303, fn, slot)
  | .brine fn slot _ => some (0x0401, fn, slot)
  | .brineUrgent fn slot _ => some (0x0402, fn, slot)
  | .worldStatus fn slot _ => some (0x0403, fn, slot)
  | .panRead fn slot _ => some (0x0404, fn, slot)
  | .frameConfig fn slot _ => some (0x0501, fn, slot)
  | .gridStart fn slot _ => some (0x0502, fn, slot)
  | .gridStop fn slot _ => some (0x0503, fn, slot)
  | .streamAdd fn slot _ => some (0x0504, fn, slot)
  | .streamResize fn slot _ => some (0x0505, fn, slot)
  | .streamRemove fn slot _ => some (0x0506, fn, slot)
  | .querySubmit fn slot _ => some (0x0507, fn, slot)
  | .ringRegister fn slot _ => some (0x0601, fn, slot)
  | .ringRelease fn slot _ => some (0x0602, fn, slot)
  | .resultLast fn slot _ => some (0x0603, fn, slot)
  | .recordStart fn slot _ => some (0x0701, fn, slot)
  | .recordStop fn slot _ => some (0x0702, fn, slot)
  | .captureRelease fn slot _ => some (0x0703, fn, slot)
  | .opDigestSet fn slot _ => some (0x0704, fn, slot)
  | .replayStart fn slot _ => some (0x0705, fn, slot)
  | .replayFeed fn slot _ => some (0x0706, fn, slot)
  | .replayStop fn slot _ => some (0x0707, fn, slot)
  | .pause fn slot _ => some (0x0708, fn, slot)
  | .save fn slot _ => some (0x0709, fn, slot)
  | .restore fn slot _ => some (0x070A, fn, slot)
  | .resume fn slot _ => some (0x070B, fn, slot)
  | .slipLogRead fn slot _ => some (0x070C, fn, slot)
  | .ctrRead fn slot _ => some (0x0801, fn, slot)
  | .ctrSelect fn slot _ => some (0x0802, fn, slot)
  | .freeze fn slot _ => some (0x0803, fn, slot)
  | .traceConfig fn slot _ => some (0x0804, fn, slot)
  | .traceRead fn slot _ => some (0x0805, fn, slot)
  | .breakSet fn slot _ => some (0x0806, fn, slot)
  | .breakClear fn slot _ _ => some (0x0807, fn, slot)
  | .breakResume fn slot _ => some (0x0808, fn, slot)
  | .safetyStatus fn slot _ _ => some (0x0901, fn, slot)
  | .safetyBind fn slot _ => some (0x0902, fn, slot)
  | .safeRelease fn slot _ _ => some (0x0903, fn, slot)
  | .calRead fn slot _ => some (0x0904, fn, slot)
  | .calWrite fn slot _ => some (0x0905, fn, slot)
  | .lifecycleSet fn slot _ => some (0x0906, fn, slot)
  | .debugUnlock fn slot _ => some (0x0907, fn, slot)
  | .ledgerRead fn slot _ => some (0x0908, fn, slot)
  | .fabStatus fn slot _ => some (0x0A01, fn, slot)
  | .fabPorts fn slot _ => some (0x0A02, fn, slot)
  | .fabCensus fn slot _ => some (0x0A03, fn, slot)
  | .fabRouteRead fn slot _ => some (0x0A04, fn, slot)
  | .fabNodeBind fn slot _ => some (0x0A05, fn, slot)
  | .fabShard fn slot _ => some (0x0A06, fn, slot)
  | .fabFarm fn slot _ => some (0x0A07, fn, slot)
  | .fwStage fn slot _ => some (0x0B01, fn, slot)
  | .fwCommit fn slot _ => some (0x0B02, fn, slot)
  | .fwStatus fn slot _ => some (0x0B03, fn, slot)
  | .dumpRead fn slot _ => some (0x0B04, fn, slot)
  | .dumpTarget fn slot _ => some (0x0B05, fn, slot)
  | .dumpClear fn slot _ => some (0x0B06, fn, slot)
  | .slotSubmit _ _ _ => none
  | .inboundSlotWrite _ _ _ _ _ => none
  | .commandArrival _ _ _ _ => none
  | .brineLanding _ _ _ => none
  | .mailboxResponse _ _ _ => none
  | .hubTaskTransfer _ _ => none
  | .sluiceReopen _ => none
  | .ringReadIndexWrite _ _ _ _ => none
  | .msixUnmask _ _ _ => none
  | .mbxWriteDiscardRead _ _ _ => none
  | .hubTimeLoRead _ _ => none
  | .counterLoRead _ _ _ _ _ _ _ => none
  | .pwrRtcLoRead _ _ _ => none
  | .secTamperLogLoRead _ _ _ => none
  | .hubResetWarm _ _ _ => none
  | .cfwBeat _ _ => none
  | .registerWrite _ _ _ _ _ _ _ => none
  | .imageCopyComplete _ _ _ => none
  | .getVersion _ _ => none
  | .getCapabilities _ _ => none
  | .negotiateAlgorithms _ _ _ _ _ => none
  | .getDigests _ _ => none
  | .getCertificate _ _ _ _ _ => none
  | .challenge _ _ _ => none
  | .getMeasurements _ _ _ _ => none
  | .doeDiscovery _ _ => none
  | .doeAbort _ => none
  | .perstNAssert _ => none
  | .perstNDeassert _ _ _ => none
  | .pcieLinkReset _ _ => none
  | .dlDown _ _ => none
  | .flr _ _ => none
  | .flrComplete _ _ => none
  | .vfRemove _ _ _ => none
  | .pcieReplay _ _ _ => none
  | .poisonedInboundWrite _ _ => none
  | .ptmDialog _ _ => none
  | .ppsEdge _ => none
  | .frameOpen _ _ => none
  | .assayStart _ _ => none
  | .assayComplete _ _ _ => none
  | .assayLate _ _ => none
  | .brineApply _ _ _ => none
  | .brineCutoff _ => none
  | .urgentCheckpoint _ _ => none
  | .urgentApply _ _ _ => none
  | .harvestDeadline _ => none
  | .engineDrainEnd _ _ => none
  | .harvestStart _ => none
  | .harvestNode _ _ _ _ => none
  | .attemptStart _ _ => none
  | .attemptResult _ _ => none
  | .reverifyCutoff _ => none
  | .commit _ _ => none
  | .publishDeadline _ => none
  | .publishEnd _ => none
  | .rakeStart _ => none
  | .rakeItemDone _ _ _ _ _ _ _ => none
  | .guardStart _ => none
  | .frameHung _ => none
  | .captureDrain _ _ => none
  | .taskOffer _ _ _ _ => none
  | .tokenDelivery _ _ _ _ => none
  | .taskCompletion _ _ _ _ _ => none
  | .unitTake _ _ _ _ => none
  | .delayRelease _ _ _ => none
  | .clusterWake _ _ => none
  | .pllRestart _ _ => none
  | .nocCreditTimeout _ _ _ => none
  | .contextRun _ _ _ => none
  | .headBlock _ _ _ => none
  | .localBlock _ _ _ => none
  | .distBuild _ _ => none
  | .resolutionRequest _ _ _ _ => none
  | .check _ _ _ _ => none
  | .recheck _ _ _ _ => none
  | .repair _ _ => none
  | .stop _ _ => none
  | .probe _ _ _ _ => none
  | .reverify _ _ => none
  | .costProgram _ _ _ _ _ => none
  | .topkCut _ _ _ => none
  | .factorisation _ _ _ _ _ => none
  | .solverIteration _ _ _ _ => none
  | .timeScalingOp _ _ _ _ => none
  | .bgtStep _ _ _ _ => none
  | .hbmTempRead _ _ _ => none
  | .wdogEdge _ _ _ => none
  | .wdogLost _ _ => none
  | .cfwSilent _ _ => none
  | .timeBaseCheck _ _ => none
  | .cpLockstep _ _ => none
  | .ssvLockstep _ => none
  | .latentOverdue _ _ _ => none
  | .rakeOverdue _ _ _ => none
  | .dumpWritten _ => none
  | .selfTestComplete _ _ => none
  | .healthPageWrite _ => none
  | .portUp _ _ _ _ _ => none
  | .portDown _ _ => none
  | .flitReceive _ _ _ => none
  | .nackReceive _ _ _ => none
  | .creditFlit _ _ => none
  | .grant _ _ => none
  | .hail _ _ _ => none
  | .censusStart _ _ => none
  | .selfCensus _ => none
  | .report _ _ _ => none
  | .collectEnd _ => none
  | .route _ _ => none
  | .verifyOk _ _ _ => none
  | .enable _ _ => none
  | .censusTimeout _ => none
  | .ping _ _ => none
  | .fabricBrineArrival _ _ _ _ _ _ _ => none
  | .brineCompletion _ _ _ _ _ => none
  | .farmReq _ _ _ _ => none
  | .farmReply _ _ _ => none
  | .freezeGo _ => none
  | .trigInEdge _ => none
  | .fabricFreeze _ => none
  | .freezeInstant _ => none
  | .freezeShadowsDone _ => none
  | .traceUnitWrite _ _ _ _ => none
  | .breakHit _ _ _ _ _ _ _ => none
  | .auxRise _ _ _ _ _ _ => none
  | .auxLoss _ => none
  | .mainInRange _ => none
  | .boot _ => none
  | .undervoltage _ => none
  | .overvoltage _ => none
  | .railsOff _ => none
  | .railFault _ => none
  | .thermalTrip _ _ _ _ _ => none
  | .thermalStep _ _ _ => none
  | .powerSample _ _ _ _ => none
  | .clockMonitor _ _ _ => none
  | .tamperEvent _ _ _ => none
  | .pwrCtlOff _ _ => none
  | .pwrCtlWake _ _ => none
  | .pwrCtlRestart _ _ => none
  | .wakeNTimeout _ => none
  | .smbAlertResponse _ => none
  | .hubOnlyExit _ _ => none
  | .hubOnlyEntry _ _ => none
  | .jtagInstruction _ _ => none
  | .dlUp _ _ _ _ _ => none
  | .busMasterEnable _ _ _ => none
  | .healthyWaveformEdge _ _ _ _ => none
  | .timeCorrApply _ _ _ => none

/-- Every waiting command is well-formed. -/
def Machine.State.queueWf (s : Machine.State) : Prop := ∀ c ∈ s.pending, c.wf = true

/-- `k` steps from `s` end in a next state: no fault and no refusal. -/
def runsFor (k : Nat) (s : Machine.State) : Prop := ∃ t, Host.Core.run core k s = .next t

end Sys2Proof
end

