-- ==== Sys2Proof/Certificates/Slice0/Obligations.lean ====
section
/-!
DEFINITION. Sys2Proof/Certificates/Slice0/Obligations.lean: the statements about the model for the provers. Each docstring
names the rules or tables of the manual it follows, and the log entry where a clause is the model's own choice. A free value
(log entry 5) is never named: what holds, holds for each.
-/
open Sys2Proof Sys2Proof.Machine

/-- Commands run first in, first out: a step runs the command at the front of the queue on the state with the queue's rest.
-/
def Obligations.StepRunsFront : Prop :=
  ∀ (c : Instr) (rest : List Instr) (s : State), s.pending = c :: rest → step s = exec c { s with pending := rest }

/-- Every command answers a next state and leaves the rest of the queue as it is; an ill-formed one, which names a unit or a
form that the manual does not have, changes nothing (the model's choice, log entry 108). -/
def Obligations.WellFormedCommandsRun : Prop :=
  ∀ (c : Instr) (s : State),
    (c.wf = true → ∃ s', exec c s = .next s' ∧ s'.pending = s.pending) ∧
    (c.wf = false → exec c s = .next s)

/-- A queue of well-formed commands is worked off: every step answers a next state with the front command gone, its rest
still well-formed, and as many steps as it holds commands end in a next state with an empty queue. With an empty queue the
block idles (the model's choice, log entry 1). -/
def Obligations.QueueRuns : Prop :=
  ((∀ s : State, s.queueWf → ∃ s', step s = .next s' ∧ s'.pending = s.pending.tail ∧ s'.queueWf) ∧
   (∀ s : State, s.queueWf → ∃ s', Host.Core.run core s.pending.length s = .next s' ∧ s'.pending = [])) ∧
  (∀ s : State, s.pending = [] → step s = .next s)

/-- Reset (R13, R42, R398, R468; the values the spec gives none for are log entries): the main rails are off, the device
state IDLE with no session, stream, ring or command, the SAFE pins at class-S safe levels with an empty latch, the memories
in canonical form, and an empty queue. -/
def Obligations.ResetState : Prop :=
  State.reset.frame.devState = 0 ∧ State.reset.frame.phase = .closed ∧ (∀ i < 16, (State.reset.ses i).state = 0) ∧
  State.reset.streams = [] ∧ State.reset.rings = [] ∧ State.reset.mbx.cmds = [] ∧ State.reset.pending = [] ∧
  State.reset.safety.safeA = false ∧ State.reset.safety.safeB = true ∧ State.reset.safety.latch = [] ∧
  State.reset.safety.pinState = 0 ∧ State.reset.boot.cfwUp = false ∧ State.reset.memWf = true ∧ State.reset.queueWf ∧
  State.reset.latchHolds

/-- The byte memories: a read gives the last byte written to its address, a write changes no other address, and every
operation keeps the canonical form, so that equal memories are equal lists. -/
def Obligations.MemoryLaws : Prop :=
  ∀ (m : Mem) (a x : Nat) (bs : List Byte), m.wf = true →
    (Mem.writeBytes a bs m).wf = true ∧
    Mem.read x (Mem.writeBytes a bs m) = (if a ≤ x ∧ x < a + bs.length then bs.getD (x - a) 0 else Mem.read x m) ∧
    Mem.readBytes (Mem.writeBytes a bs m) a bs.length = bs

/-- Class-S safe state (R398, R402): if the pins show class-S safe state whenever a code is latched, they still do after any
step; no command of any kind brings them to another state while a code remains. -/
def Obligations.LatchedPinsHold : Prop :=
  ∀ (s s' : State), s.latchHolds → step s = .next s' → s'.latchHolds

/-- The re-verify cluster (R185): a stream with home stack h = ID mod 4 is re-verified in stack (h + 1 + (frame counter mod
3)) mod 4, which is never h, on the first enabled cluster at or after slot (ID >> 2) mod 16, wrapping at 15; a stack with an
enabled cluster always gives one. -/
def Obligations.ReverifyCluster : Prop :=
  ∀ (s : State) (id k a : Nat), k = (id % 4 + 1 + s.frame.counter.toNat % 3) % 4 → a = 16 * k + id / 4 % 16 →
    k ≠ id % 4 ∧
    (∀ p, s.reverifyCluster id = some p ↔ s.enabled p = true ∧ p / 16 = k ∧
      ((a ≤ p ∧ ∀ q, a ≤ q → q < p → s.enabled q = false) ∨
        (p < a ∧ (∀ q, a ≤ q → q < 16 * k + 16 → s.enabled q = false) ∧ ∀ q, 16 * k ≤ q → q < p → s.enabled q = false))) ∧
    ((∃ p, p / 16 = k ∧ s.enabled p = true) → (s.reverifyCluster id).isSome = true)

/-- The component of a candidate (R149): with C_m the exact partial sums of the candidate's row of the PROB tensor and r
bits 15:1 of its component draw, the least m with r < C_m, else M - 1; with M = 1 component 0; its weight is P_m. -/
def Obligations.ComponentDraw : Prop :=
  (∀ (probs : List Int) (r : Nat), probs ≠ [] →
    ((∃ m < probs.length, (r : Int) < sumI (probs.take (m + 1))) →
      pickComponent probs r < probs.length ∧ (r : Int) < sumI (probs.take (pickComponent probs r + 1)) ∧
        ∀ k < pickComponent probs r, sumI (probs.take (k + 1)) ≤ r) ∧
    ((∀ m < probs.length, sumI (probs.take (m + 1)) ≤ r) → pickComponent probs r = probs.length - 1)) ∧
  (∀ (s : State) (b : Binding) (x : Stream) (g : NetGraph) (extra : List (Nat × List Int)) (ctx : List Int)
      (g0 base j : Nat) (word : Nat → Nat → BitVec 64) (run : Tensors) (probs : List Int),
    j < 64 → (∀ j w, word j w = seedWord (s.seedKey b x) s.frame.counter b.wid (g0 + j) (base + w)) →
    run = runGraph b.net.tensors g (g.fill b.net.tensors ([(roleContextIn, unflagged (List.replicate 64 ctx).flatten),
      (roleNoise, unflagged ((List.range 64).flatMap fun j => noiseOf b.net.noiseDim (word j)))] ++
        extra.map fun e => (e.1, unflagged (List.replicate 64 e.2).flatten))) →
    probs = ((g.read roleProb run).drop (j * b.net.components)).take b.net.components →
    ∃ c, (s.runBlock b x g extra ctx g0 base).1[j]? = some c ∧ c.weight = probs.getD c.component 0 ∧
      (b.net.components = 1 → c.component = 0) ∧
      (b.net.components ≠ 1 → c.component = pickComponent probs ((word j 31).toNat % 65536 / 2)))

/-- FRAME_HUNG (R54): an Exact-mode frame whose publish is not complete by S + 4P (mid-frame halts apart, R306) is latched;
every class-S session enters class-S safe state with the pins static, and every live session is FAULTED. Completion:
FRAME_HUNG. -/
def Obligations.FrameHung : Prop :=
  ∀ (s : State) (t : Nat), s.sessions.length = 16 → s.gridRuns = true → s.frame.conf.exact = true →
    s.frame.phase ∈ [Phase.opened, .afterCutoff, .afterHarvest] → s.safety.latch.length < 32 →
    s.safety.restartPending ≠ some 0x0008 →
    (s.frame.openTime + 4 * s.frame.conf.period * ticksPerUs + s.req.haltTicks ≤ max s.time.now t →
      ∃ s', exec (.frameHung t) s = .next s' ∧ s'.faultLatched 0x0008 (max s.time.now t) ∧
        (∀ i < 16, (s.ses i).live = true → (s'.ses i).state = 5) ∧ s.onlyFault s') ∧
    (max s.time.now t < s.frame.openTime + 4 * s.frame.conf.period * ticksPerUs + s.req.haltTicks →
      ∃ s', exec (.frameHung t) s = .next s' ∧ { s' with time := s.time } = s)

/-- Retirement (R36): where every stack keeps at least 8 enabled clusters, it still does after any retirements; a cluster
whose retirement would leave fewer stays enabled, and the power-up that finds one boots into QUARANTINE. Completion: BOOT.
-/
def Obligations.RetirementKeepsEight : Prop :=
  ∀ (s : State) (marks : List Nat), (∀ k < 4, 8 ≤ (s.enabledIn k).length) →
    (∀ k < 4, 8 ≤ ((List.range 16).filter fun i => !(s.retire marks).1.disabled.getLsbD (16 * k + i)).length) ∧
    (∀ p ∈ marks, p < 64 → (s.retire marks).1.disabled.getLsbD p = false → (s.retire marks).2.2 = true) ∧
    (∀ sel t, s.aon.pstate = 2 → s.aon.railsUp = true → s.boot.cfwUp = false → s.boot.mode ≠ 3 → s.part.lifecycle ≠ 5 →
      (∃ i < 2, s.part.bankBad (s.flash.banks.getD i []) = none) → (s.flash.bootBank.read.getD 0) < 2 →
      (s.flash.health.read.getD {}).signed = true → marks = (s.flash.health.read.getD {}).marks.map (·.1) →
      (s.retire marks).2.2 = true →
      ∃ s', exec (.boot ⟨sel, t⟩) s = .next s' ∧ s'.boot.mode = 1 ∧ (∀ k < 4, 8 ≤ (s'.enabledIn k).length))

/-- SES_RECOVER of a class-S session (R415): legal only while the latch is clear, else STATE_ILLEGAL; the recovered session
is CONFIGURED, its streams keep no current motion, and none of them works until SES_START. Completion: SES_RECOVER of a
class-S session. -/
def Obligations.ClassSRecover : Prop :=
  ∀ (s : State) (fn slot : Nat) (t : Nat) (c : Cmd), isSlot fn slot → s.isReady 0x0206 fn slot c → c.payload = [] →
    c.session < s.sessions.length → (s.ses c.session).classS = true → (s.ses c.session).state = 5 →
    (s.safety.latch = [] → ∃ s', exec (.sesRecover fn slot t) s = .next s' ∧ s'.reply? fn slot = some (okReply []) ∧
      (s'.ses c.session).state = 2 ∧
      (∀ y ∈ s'.streams, y.session = c.session → y.motion = .standstill ∧ y.published = none ∧
        (y.guest = none → s'.works y = false))) ∧
    (s.safety.latch ≠ [] → ∃ s', exec (.sesRecover fn slot t) s = .next s' ∧
      s'.reply? fn slot = some (refusal 0x0201) ∧ s.onlyAnswered s')

/-- Every Ifen row by the device's mode (R300, R332): in QUARANTINE a command outside the list of R332 answers QUARANTINED,
in replay a command outside groups 0x07 and 0x08 answers REPLAY_ACTIVE, a refused brine command gives its landing space back
(R276), and with no command in its slot a row moves only the clocks; stream and query rows, which wait for T_c, apart. -/
def Obligations.IfenRowsByMode : Prop :=
  ∀ (i : Instr) (s : State) (op fn slot : Nat) (c : Cmd), i.row = some (op, fn, slot) → isSlot fn slot →
    ¬(0x0504 ≤ op ∧ op ≤ 0x0507) →
    (s.isArrived op fn slot c → s.boot.mode = 1 → op ∉ [0x0101, 0x0102, 0x0103, 0x0901, 0x0904, 0x0908] →
      op / 256 ≠ 8 → op / 256 ≠ 11 →
      ∃ s', exec i s = .next s' ∧ s'.reply? fn slot = some (refusal 0x0208) ∧
        s'.worlds.landingUsed = (if op = 0x0401 ∨ op = 0x0402 then s.worlds.landingUsed - c.fetchBytes
          else s.worlds.landingUsed) ∧
        { s' with time := s.time, safety := s.safety, mbx := { s'.mbx with cmds := s.mbx.cmds },
                  worlds := { s'.worlds with landingUsed := s.worlds.landingUsed } } = s) ∧
    (s.isArrived op fn slot c → s.boot.mode ≠ 1 → s.frame.devState = 3 → op / 256 ≠ 7 → op / 256 ≠ 8 →
      ∃ s', exec i s = .next s' ∧ s'.reply? fn slot = some (refusal 0x0205) ∧
        s'.worlds.landingUsed = (if op = 0x0401 ∨ op = 0x0402 then s.worlds.landingUsed - c.fetchBytes
          else s.worlds.landingUsed) ∧
        { s' with time := s.time, safety := s.safety, mbx := { s'.mbx with cmds := s.mbx.cmds },
                  worlds := { s'.worlds with landingUsed := s.worlds.landingUsed } } = s) ∧
    ((∀ c ∈ s.mbx.cmds, c.fn = fn → c.slot % 32 ≠ slot) →
      ∃ s', exec i s = .next s' ∧ { s' with time := s.time, safety := s.safety } = s)

/-- The device group (Tables 14.2, 14.3, 14.4; R333): what each command answers, and that a read-only command changes
nothing but device time, the capture ring and its own answer. Discipline of device time (R367, R368): in IDLE a measured
offset is applied in full, in a running grid at most 20 ticks are, as a slew; a lost source is reported; the first PPS edge
sets the phase, an edge more than 10 us off is rejected. Completion: DEV_IDENTIFY, DEV_STATUS, DEV_KEY, DEV_TIME_SOURCE,
PTM_DIALOG, PPS_EDGE. -/
def Obligations.DeviceAndTime : Prop :=
  (∀ (s : State) (fn slot : Nat) (t : Nat) (c : Cmd), isSlot fn slot →
     (s.isArrived 0x0101 fn slot c → s.frame.devState ≠ 3 → c.payload = [] → ∃ s', exec (.devIdentify fn slot t) s = .next s' ∧
       s'.reply? fn slot = some (okReply (
         le 1 s.part.orderCode ++ le 1 0xB1 ++ le 1 (if s.mgmt.fieldDebug then 3 else s.part.lifecycle) ++
         le 1 s.boot.mode ++ le 4 s.boot.cfwVersion ++ le 4 s.boot.sfwVersion ++ le 4 s.boot.ucodeVersion ++
         dumBytes s.part.dum ++ fit 16 s.part.serial ++ fit 8 s.part.certHash ++ le 1 s.fabric.nodeId ++
         le 1 s.boot.activeBank ++ zeros 54)) ∧ s.onlyAnswered s') ∧
     (s.isArrived 0x0102 fn slot c → s.frame.devState ≠ 3 → c.payload = [] → ∃ s' p, exec (.devStatus fn slot t) s = .next s' ∧
       s'.reply? fn slot = some (okReply p) ∧ p.length = 64 ∧ slice p 0 1 = le 1 s.frame.devState ∧
       slice p 3 1 = le 1 s.frame.conf.cutoff ∧ slice p 4 2 = le 2 s.frame.conf.period ∧
       slice p 8 4 = le 4 s.frame.counter.toNat ∧ slice p 16 8 = le 8 s.frame.frt ∧
       slice p 24 8 = le 8 (max s.time.now t) ∧ (∀ i < 16, slice p (32 + i) 1 = le 1 (s.ses i).state) ∧
       s.onlyAnswered s') ∧
     (s.isArrived 0x0103 fn slot c → s.frame.devState ≠ 3 → c.payload = [] → ∃ s', exec (.devKey fn slot t) s = .next s' ∧
       s'.reply? fn slot = some (okReply (if s.frame.devState = 0 then ((s.at t).captureCmd c).nextKey else s.det.key)) ∧
       s.onlyAnswered s') ∧
     (s.isReady 0x0104 fn slot c → c.payload.length = 8 → allZero (slice c.payload 1 7) = true →
       getU c.payload 0 1 ≤ 2 → s.frame.devState = 0 ∨ s.frame.devState = 2 →
       ∃ s', exec (.devTimeSource fn slot t) s = .next s' ∧ s'.reply? fn slot = some (okReply []) ∧
         s'.time.source = getU c.payload 0 1 ∧ s'.time.now = max s.time.now t ∧
         s.onlyEvents s')) ∧
  (∀ (s : State) (t : Nat),
     (∀ ns, s.time.source = 1 → s.pcie.linkA.up = true → s.frame.devState = 0 →
       ∃ s', exec (.ptmDialog (some ns) t) s = .next s' ∧ s'.time.now = ns / 5 ∧ s'.time.slew = 0 ∧
         { s' with time := s.time, det := s.det } = s) ∧
     (∀ ns, s.time.source = 1 → s.pcie.linkA.up = true → s.frame.devState ≠ 0 →
       ∃ s', exec (.ptmDialog (some ns) t) s = .next s' ∧ s'.time.now = max s.time.now t ∧
         s'.time.slew = max (-20) (min 20 ((ns / 5 : Nat) - (max s.time.now t : Nat) : Int)) ∧
         (s'.time.locked = true ↔ ((ns / 5 : Nat) - (max s.time.now t : Nat) : Int).natAbs ≤ 20) ∧
         { s' with time := s.time, det := s.det } = s) ∧
     (s.time.source = 1 → ∃ s', exec (.ptmDialog none t) s = .next s' ∧ s'.time.srcLost = true ∧
       s'.time.now = max s.time.now t ∧ s'.frame = s.frame ∧ s'.safety = s.safety) ∧
     (s.time.source ≠ 1 → ∀ m, ∃ s', exec (.ptmDialog m t) s = .next s' ∧ { s' with time := s.time } = s ∧
       s'.time = { s.time with now := max s.time.now t }) ∧
     (s.time.source = 2 → s.time.ppsExpected = none →
       ∃ s', exec (.ppsEdge t) s = .next s' ∧ s'.time.ppsExpected = some (max s.time.now t + 200000000) ∧
         s'.time.now = max s.time.now t ∧ { s' with time := s.time } = s) ∧
     (∀ e : Nat, s.time.source = 2 → s.time.ppsExpected = some e → s.time.ppsRejects < 4 →
       ∃ s', exec (.ppsEdge t) s = .next s' ∧
         (2000 < ((e : Int) - (max s.time.now t : Nat)).natAbs → s'.time.ppsReject = true ∧
           s'.time.now = max s.time.now t ∧ { s' with time := s.time } = s) ∧
         (((e : Int) - (max s.time.now t : Nat)).natAbs ≤ 2000 → s'.time.ppsReject = s.time.ppsReject ∧
           (s.frame.devState = 0 → s'.time.now = e) ∧ (s.frame.devState ≠ 0 → s'.time.now = max s.time.now t) ∧
           { s' with time := s.time, det := s.det } = s)))

/-- Sessions are opened, closed and read (R324, Tables 13.11, 13.12, 14.5): the lowest free ID; SESSION_LIMIT when none is
free; a closed session's rings are unregistered, and its stream IDs are free at once in IDLE (R483). Bindings and settings
(R335, R483, Table 14.5): SES_BIND names loaded slots, 0xFF leaves a binding, and the session is CONFIGURED once all four
are bound; SES_SET's entries are applied in order and wait for the next frame open, or take effect at once in IDLE.
Completion: SES_OPEN, SES_BIND, SES_SET, SES_CLOSE, SES_STATUS. -/
def Obligations.SessionOpenBindSet : Prop :=
  (∀ (s : State) (fn slot : Nat) (t : Nat) (c : Cmd), isSlot fn slot → s.sessions.length = 16 →
     (∀ i < 16, s.isReady 0x0201 fn slot c → c.payload.length = 8 → allZero (slice c.payload 1 7) = true →
       getU c.payload 0 1 ≤ 1 → (s.ses i).state = 0 → (s.ses i).closing = false →
       (∀ j < i, (s.ses j).state ≠ 0 ∨ (s.ses j).closing = true) →
       (getU c.payload 0 1 = 1 → s.mgmt.fieldDebug = false ∧ s.part.lifecycle ∉ [0, 3, 4] ∧ s.boot.mode ≠ 2) →
       ∃ s', exec (.sesOpen fn slot t) s = .next s' ∧
         s'.reply? fn slot = some { status := 0, session := some i } ∧
         s'.ses i = { state := 1, classS := getU c.payload 0 1 == 1, fn := fn, lastCause := 0x0201 } ∧
         (∀ j ≠ i, s'.ses j = s.ses j) ∧ s.onlyEvents s' ∧ s'.rings = s.rings ∧ s'.host = s.host) ∧
     (s.isReady 0x0201 fn slot c → c.payload.length = 8 → allZero (slice c.payload 1 7) = true →
       getU c.payload 0 1 ≤ 1 → (∀ j < 16, (s.ses j).state ≠ 0 ∨ (s.ses j).closing = true) →
       ∃ s', exec (.sesOpen fn slot t) s = .next s' ∧ s'.reply? fn slot = some (refusal 0x0306) ∧ s.onlyAnswered s') ∧
     (s.isReady 0x0207 fn slot c → c.payload = [] → c.session < 16 → (s.ses c.session).state ∈ [1, 2, 5] →
       ∃ s', exec (.sesClose fn slot t) s = .next s' ∧ s'.reply? fn slot = some (okReply []) ∧
         (s'.ses c.session).state = 0 ∧ (s'.ses c.session).closing = (s.frame.devState != 0) ∧
         (∀ r ∈ s'.rings, r.key ≠ 2 * c.session ∧ r.key ≠ 2 * c.session + 1) ∧
         s'.rings = s.rings.filter (fun r => r.key != 2 * c.session && r.key != 2 * c.session + 1) ∧
         (s.frame.devState = 0 → s'.streams = s.streams.filter fun x => x.session != c.session) ∧
         (s.frame.devState ≠ 0 → s'.streams.map (·.id) = s.streams.map (·.id) ∧
           ∀ y ∈ s'.streams, y.session = c.session → y.removing = true) ∧
         s.otherSessions s' c.session ∧ s'.images = s.images ∧ s'.worlds = s.worlds ∧ s'.frame = s.frame ∧
         s'.safety = s.safety ∧ s'.hbm = s.hbm ∧ s'.farming = s.farming) ∧
     (s.isReady 0x0208 fn slot c → c.payload = [] → ∃ s' p, exec (.sesStatus fn slot t) s = .next s' ∧
       s'.reply? fn slot = some (okReply p) ∧ p.length = 32 ∧ slice p 0 1 = le 1 (s.ses c.session).state ∧
       slice p 2 1 = le 1 ((s.ses c.session).world.getD 0xFF) ∧ slice p 3 1 = le 1 ((s.ses c.session).rig.getD 0xFF) ∧
       slice p 4 1 = le 1 ((s.ses c.session).net.getD 0xFF) ∧ slice p 5 1 = le 1 ((s.ses c.session).cost.getD 0xFF) ∧
       slice p 12 2 = le 2 (s.ses c.session).lastCause ∧ s.onlyAnswered s')) ∧
  (∀ (s : State) (fn slot : Nat) (t : Nat) (c : Cmd), isSlot fn slot → c.session < s.sessions.length →
     (s.isReady 0x0202 fn slot c → c.payload.length = 8 → allZero (slice c.payload 4 4) = true →
       (s.ses c.session).state = 1 ∨ (s.ses c.session).state = 2 → s.badBinding (s.ses c.session) c.payload = none →
       s.dofAgrees ((s.ses c.session).bind s.images c.payload) = true →
       (getU c.payload 2 1 ≠ 0xFF →
         (s.modSes c.session fun _ => (s.ses c.session).bind s.images c.payload).admits s.nextConf c.session = true) →
       ∃ s', exec (.sesBind fn slot t) s = .next s' ∧ s'.reply? fn slot = some (okReply []) ∧
         (s'.ses c.session).world =
           (if getU c.payload 0 1 = 0xFF then (s.ses c.session).world else some (getU c.payload 0 1)) ∧
         (s'.ses c.session).rig = (if getU c.payload 1 1 = 0xFF then (s.ses c.session).rig else some (getU c.payload 1 1)) ∧
         (s'.ses c.session).net = (if getU c.payload 2 1 = 0xFF then (s.ses c.session).net else some (getU c.payload 2 1)) ∧
         (s'.ses c.session).cost =
           (if getU c.payload 3 1 = 0xFF then (s.ses c.session).cost else some (getU c.payload 3 1)) ∧
         (s'.ses c.session).state = (if (s'.ses c.session).world.isSome ∧ (s'.ses c.session).rig.isSome ∧
           (s'.ses c.session).net.isSome ∧ (s'.ses c.session).cost.isSome then 2 else (s.ses c.session).state) ∧
         s.otherSessions s' c.session ∧ s.onlyEvents s') ∧
     (∀ es, s.isReady 0x0203 fn slot c → (s.ses c.session).state ∈ [1, 2, 3, 4] →
       settingEntries (c.payload.length + 1) c.payload = some es →
       (∀ e ∈ es, s.settingBad (s.ses c.session) e = none) →
       ((es.foldl Settings.put (s.ses c.session).next).prerankK ≠ (s.ses c.session).next.prerankK ∨
         (es.foldl Settings.put (s.ses c.session).next).repairBlocks ≠ (s.ses c.session).next.repairBlocks →
         (s.modSes c.session fun y => { y with
           pendingSet := some (es.foldl Settings.put (s.ses c.session).next) }).admits s.nextConf c.session = true) →
       ∃ s', exec (.sesSet fn slot t) s = .next s' ∧ s'.reply? fn slot = some (okReply []) ∧
         (s.frame.devState = 0 →
           (s'.ses c.session).settings = es.foldl Settings.put (s.ses c.session).next ∧
           (s'.ses c.session).pendingSet = none) ∧
         (s.frame.devState ≠ 0 → (s'.ses c.session).settings = (s.ses c.session).settings ∧
           (s'.ses c.session).pendingSet = some (es.foldl Settings.put (s.ses c.session).next)) ∧
         s.otherSessions s' c.session ∧ s.onlyEvents s'))

/-- SES_START, SES_STOP and SES_RECOVER (R325, R483, Tables 13.12, 14.5): a CONFIGURED session starts at once in IDLE and at
the next frame open otherwise (while one of its images is not usable, later: log entry 117); a RUNNING session stops at the
guard start while the grid runs; a FAULTED class-N session returns to CONFIGURED and keeps its streams. Completion:
SES_START, SES_STOP, SES_RECOVER. -/
def Obligations.SessionStartStopRecover : Prop :=
  ∀ (s : State) (fn slot : Nat) (t : Nat) (c : Cmd), isSlot fn slot → c.session < s.sessions.length → c.payload = [] →
    (s.isReady 0x0204 fn slot c → (s.ses c.session).state = 2 → (s.ses c.session).unset = 0 →
      ((s.ses c.session).classS = true → (∀ b ∈ s.obs.breaks, ∀ x, b = some x → x.armed = false) ∧
        s.nextConf.period ≤ 5000 ∧ ∀ p, s.safety.profile = some p → s.conforms c.session p = true) →
      s.homeWindowOk (s.ses c.session) = true →
      (s.modSes c.session fun y => { y with starting := true }).admits s.nextConf c.session = true →
      ∃ s', exec (.sesStart fn slot t) s = .next s' ∧ s'.reply? fn slot = some (okReply []) ∧
        (s.frame.devState = 0 → s.imagesUsable (s.ses c.session) = true →
          (s'.ses c.session).state = 3 ∧ (s'.ses c.session).lastCause = 0x0204) ∧
        (s.frame.devState ≠ 0 ∨ s.imagesUsable (s.ses c.session) = false →
          (s'.ses c.session).state = 2 ∧ (s'.ses c.session).starting = true) ∧
        s.otherSessions s' c.session ∧ s.onlyEvents s') ∧
    (s.isReady 0x0205 fn slot c → (s.ses c.session).state = 3 → s.frame.devState = 1 →
      ∃ s', exec (.sesStop fn slot t) s = .next s' ∧
        (∃ c', s'.cmd? fn slot = some c' ∧ c'.stage = .waiting ∧ c'.response = none) ∧
        (s'.ses c.session).state = 3 ∧ (s'.ses c.session).stopping = true ∧ s.otherSessions s' c.session ∧
        s.onlyEvents s') ∧
    (s.isReady 0x0205 fn slot c → (s.ses c.session).state = 4 ∨ (s.ses c.session).state = 3 ∧ s.frame.devState = 0 →
      ∃ s', exec (.sesStop fn slot t) s = .next s' ∧ s'.reply? fn slot = some (okReply []) ∧
        (s'.ses c.session).state = 2 ∧ s.otherSessions s' c.session ∧ s.onlyEvents s') ∧
    (s.isReady 0x0206 fn slot c → (s.ses c.session).state = 5 → (s.ses c.session).classS = false →
      ∃ s', exec (.sesRecover fn slot t) s = .next s' ∧ s'.reply? fn slot = some (okReply []) ∧
        (s'.ses c.session).state = 2 ∧ (s'.ses c.session).lastCause = 0x0206 ∧ s'.streams = s.streams ∧
        s.otherSessions s' c.session ∧ s.onlyEvents s')

/-- Rings (R321, R345, R362): registration gives the ring's MBX_RIDX index, sets its read index to 0 and starts its W at 0,
replacing a ring of the same kind and session; release takes it away; no other ring, read index or function changes.
RESULT_LAST writes the stream's last record from the descriptor's address on and answers its length (log entry 23).
Completion: RING_REGISTER, RING_RELEASE and RESULT_LAST each answer a next state under conditions on the state and operands
alone. -/
def Obligations.RingsAndLastResult : Prop :=
  ∀ (s : State) (fn slot : Nat) (t : Nat) (c : Cmd), isSlot fn slot → s.pcie.fns.length = 17 →
    (s.isReady 0x0601 fn slot c → c.payload.length = 32 → allZero (slice c.payload 1 3) = true →
      allZero (slice c.payload 20 4) = true → getU c.payload 0 1 ≤ 2 →
      (getU c.payload 0 1 ≠ 2 → (s.ses c.session).state ∈ [1, 2, 4]) →
      (∃ k, 4 ≤ k ∧ k ≤ 16 ∧ getU c.payload 4 4 = 2 ^ k) → getU c.payload 8 8 % 256 = 0 → getU c.payload 24 8 % 8 = 0 →
      (if getU c.payload 0 1 = 0 then getU c.payload 16 4 % 256 = 0 ∧ s.resultEntry c.session ≤ getU c.payload 16 4
        else getU c.payload 16 4 = 64) →
      ∃ s', exec (.ringRegister fn slot t) s = .next s' ∧
        s'.reply? fn slot = some (okReply
          (le 1 (if getU c.payload 0 1 = 2 then 32 else 2 * c.session + getU c.payload 0 1) ++ zeros 7)) ∧
        s'.ring? (if getU c.payload 0 1 = 2 then 32 else 2 * c.session + getU c.payload 0 1) = some {
          key := if getU c.payload 0 1 = 2 then 32 else 2 * c.session + getU c.payload 0 1, fn := fn,
          base := getU c.payload 8 8, entries := getU c.payload 4 4, entrySize := getU c.payload 16 4,
          widxAddr := getU c.payload 24 8, w := 0 } ∧
        lookupD 1 (if getU c.payload 0 1 = 2 then 32 else 2 * c.session + getU c.payload 0 1) (s'.fnS fn).ridx = 0 ∧
        (∀ k, k ≠ (if getU c.payload 0 1 = 2 then 32 else 2 * c.session + getU c.payload 0 1) →
          s'.ring? k = s.ring? k ∧ lookupD 1 k (s'.fnS fn).ridx = lookupD 1 k (s.fnS fn).ridx) ∧
        s'.pcie = { s.pcie with fns := s'.pcie.fns } ∧ { s'.fnS fn with ridx := (s.fnS fn).ridx, ridxOld := (s.fnS fn).ridxOld } = s.fnS fn ∧
        (∀ g, g ≠ fn → s'.fnS g = s.fnS g) ∧
        { s' with time := s.time, det := s.det, mbx := { s'.mbx with cmds := s.mbx.cmds }, rings := s.rings,
                  pcie := s.pcie } = s) ∧
    (s.isReady 0x0602 fn slot c → c.payload.length = 8 → allZero (slice c.payload 1 7) = true → getU c.payload 0 1 ≤ 2 →
      (s.ring? (if getU c.payload 0 1 = 2 then 32 else 2 * c.session + getU c.payload 0 1)).isSome →
      (getU c.payload 0 1 ≠ 2 → (s.ses c.session).state ∈ [1, 2, 4]) →
      ∃ s', exec (.ringRelease fn slot t) s = .next s' ∧ s'.reply? fn slot = some (okReply []) ∧
        s'.ring? (if getU c.payload 0 1 = 2 then 32 else 2 * c.session + getU c.payload 0 1) = none ∧
        (∀ k, k ≠ (if getU c.payload 0 1 = 2 then 32 else 2 * c.session + getU c.payload 0 1) →
          s'.ring? k = s.ring? k) ∧
        { s' with time := s.time, det := s.det, mbx := { s'.mbx with cmds := s.mbx.cmds }, rings := s.rings } = s) ∧
    (∀ x a len, s.isReady 0x0603 fn slot c → c.payload.length = 8 → allZero (slice c.payload 1 7) = true →
      s.streams.find? (fun y => y.id == getU c.payload 0 1 && y.session == c.session && !y.lastRecord.isEmpty) = some x →
      c.descs = [{ addr := a, len := len, write := true }] → x.lastRecord.length ≤ len → s.dmaOk fn = true →
      ∃ s', exec (.resultLast fn slot t) s = .next s' ∧
        s'.reply? fn slot = some (okReply (le 4 x.lastRecord.length)) ∧
        s'.host = Mem.writeBytes a x.lastRecord s.host ∧ s.onlyDelivered s' c)

/-- The frame grid (R41, R42, R289, R341): a configuration takes effect at once in IDLE and waits for the next open in GRID
and PAUSED, from GRID with its answer; GRID_START sets the grid and its first open; GRID_STOP waits for the guard start, and
from PAUSED the device is IDLE at once. Completion: FRAME_CONFIG, GRID_START, GRID_STOP. -/
def Obligations.FrameGridCommands : Prop :=
  ∀ (s : State) (fn slot : Nat) (t : Nat) (c : Cmd), isSlot fn slot →
    (s.isReady 0x0501 fn slot c → c.payload.length = 8 → allZero (slice c.payload 4 4) = true → getU c.payload 3 1 < 2 →
      s.frame.devState ∈ [0, 1, 2] → (∀ x ∈ s.sessions, x.state ≠ 3) → 250 ≤ getU c.payload 0 2 →
      getU c.payload 0 2 ≤ 20000 → getU c.payload 0 2 % 50 = 0 → 10 ≤ getU c.payload 2 1 → getU c.payload 2 1 ≤ 25 →
      (∀ f, s.safety.profile = some f → getU c.payload 0 2 ≤ f.pMax) →
      s.admits { period := getU c.payload 0 2, cutoff := getU c.payload 2 1, exact := getU c.payload 3 1 == 1 } 16 = true →
      ∃ s', exec (.frameConfig fn slot t) s = .next s' ∧
        (s.frame.devState = 0 → s'.reply? fn slot = some (okReply []) ∧ s'.frame = { s.frame with
          conf := { period := getU c.payload 0 2, cutoff := getU c.payload 2 1, exact := getU c.payload 3 1 == 1 },
          pendingConf := none }) ∧
        (s.frame.devState ≠ 0 → s'.frame = { s.frame with pendingConf := some {
          period := getU c.payload 0 2, cutoff := getU c.payload 2 1, exact := getU c.payload 3 1 == 1 } }) ∧
        (s.frame.devState = 1 → s'.waitsAt fn slot) ∧
        (s.frame.devState = 2 → s'.reply? fn slot = some (okReply [])) ∧
        { s' with time := s.time, det := s.det, mbx := { s'.mbx with cmds := s.mbx.cmds }, frame := s.frame } = s) ∧
    (s.isReady 0x0502 fn slot c → c.payload.length = 8 → s.frame.devState = 0 →
      max s.time.now t + 1000 * ticksPerUs ≤ getU c.payload 0 8 →
      ∃ s', exec (.gridStart fn slot t) s = .next s' ∧
        (∃ c', s'.cmd? fn slot = some c' ∧ c'.stage = .waiting ∧ c'.response = none) ∧
        s'.frame = { s.frame with devState := 1, t0s := getU c.payload 0 8, k := 0, nextOpen := getU c.payload 0 8,
                                  phase := .closed } ∧
        { s' with time := s.time, det := s.det, mbx := { s'.mbx with cmds := s.mbx.cmds }, frame := s.frame } = s) ∧
    (s.isReady 0x0503 fn slot c → c.payload = [] → (∀ x ∈ s.sessions, x.state ≠ 3 ∧ x.state ≠ 4) →
      s.frame.devState = 1 →
      ∃ s', exec (.gridStop fn slot t) s = .next s' ∧
        (∃ c', s'.cmd? fn slot = some c' ∧ c'.stage = .waiting ∧ c'.response = none) ∧ s'.req.stopping = true ∧
        { s' with time := s.time, det := s.det, mbx := { s'.mbx with cmds := s.mbx.cmds }, req := s.req } = s) ∧
    (s.isReady 0x0503 fn slot c → c.payload = [] → (∀ x ∈ s.sessions, x.state ≠ 3 ∧ x.state ≠ 4) →
      s.frame.devState = 2 →
      ∃ s', exec (.gridStop fn slot t) s = .next s' ∧ s'.reply? fn slot = some (okReply []) ∧ s'.frame.devState = 0 ∧
        s'.frame.phase = .closed ∧ s'.frame.counter = s.frame.counter ∧ s'.part = s.part ∧ s'.safety = s.safety ∧
        s'.worlds = s.worlds ∧ s'.hbm = s.hbm ∧ s'.rings = s.rings)

/-- Stream commands (R320, R341, R342): judged at T_c in the order of R312, a STREAM_ADD enters a stream that takes part
from the next frame open, a STREAM_RESIZE and a STREAM_REMOVE mark the stream for the next frame open; an ID in use is
refused with OBJECT_IN_USE. The row of the last command to judge then forms the frame's queries (R153, R391). Completion:
STREAM_ADD, STREAM_RESIZE, STREAM_REMOVE. -/
def Obligations.StreamCommands : Prop :=
  ∀ (s : State) (fn slot : Nat) (t : Nat) (c : Cmd), isSlot fn slot → dueAtCutoff c s = true →
    2 ≤ (s.ses c.session).state → (s.ses c.session).state ≤ 4 →
    (∀ x : Stream, s.isReady 0x0504 fn slot c → c.payload.length = 16 → allZero (slice c.payload 1 1) = true →
      allZero (slice c.payload 8 8) = true → 64 ≤ getU c.payload 2 2 → getU c.payload 2 2 ≤ 4096 →
      getU c.payload 2 2 % 64 = 0 → (getU c.payload 4 4 = 0 ∨ 250 ≤ getU c.payload 4 4 ∧ getU c.payload 4 4 ≤ 60000) →
      (∀ p, s.safety.profile = some p → (s.ses c.session).classS = true → x.ageLimit ≤ p.ageMax) →
      (∀ y ∈ s.streams, y.id ≠ getU c.payload 0 1) →
      x = { id := getU c.payload 0 1, session := c.session, candidates := getU c.payload 2 2,
            ageLimit := if getU c.payload 4 4 = 0 then 3000 else getU c.payload 4 4,
            ssvAge := if getU c.payload 4 4 = 0 then 3000 else getU c.payload 4 4 } →
      (s.modStreams fun l => insertBy (fun a b => decide (a.id < b.id)) x l).admits s.nextConf c.session = true →
      ∃ s' s1 : State, exec (.streamAdd fn slot t) s = .next s' ∧ s' = { s1.formQueries with pending := s.pending } ∧
        s'.reply? fn slot = some (okReply []) ∧ x.active = false ∧ (∀ y, y ∈ s1.streams ↔ y = x ∨ y ∈ s.streams) ∧
        { s1 with time := s.time, det := s.det, mbx := { s'.mbx with cmds := s.mbx.cmds }, streams := s.streams } = s) ∧
    (s.isReady 0x0504 fn slot c → c.payload.length = 16 → allZero (slice c.payload 1 1) = true →
      allZero (slice c.payload 8 8) = true → 64 ≤ getU c.payload 2 2 → getU c.payload 2 2 ≤ 4096 →
      getU c.payload 2 2 % 64 = 0 → getU c.payload 4 4 = 0 → s.safety.profile = none →
      (∃ y ∈ s.streams, y.id = getU c.payload 0 1) →
      ∃ s' s1 : State, exec (.streamAdd fn slot t) s = .next s' ∧ s' = { s1.formQueries with pending := s.pending } ∧
        s'.reply? fn slot = some (refusal 0x0203) ∧ s.onlyAnswered s1) ∧
    (s.isReady 0x0505 fn slot c → c.payload.length = 8 → allZero (slice c.payload 1 1) = true →
      allZero (slice c.payload 4 4) = true → 64 ≤ getU c.payload 2 2 → getU c.payload 2 2 ≤ 4096 →
      getU c.payload 2 2 % 64 = 0 → (∃ y ∈ s.streams, y.id = getU c.payload 0 1 ∧ y.session = c.session ∧ y.active = true) →
      (s.modStream (getU c.payload 0 1) fun y => { y with pendingCandidates := some (getU c.payload 2 2) }).admits
        s.nextConf c.session = true →
      ∃ s' s1 : State, exec (.streamResize fn slot t) s = .next s' ∧ s' = { s1.formQueries with pending := s.pending } ∧
        s'.reply? fn slot = some (okReply []) ∧
        s1.streams = s.streams.map (fun y =>
          if y.id = getU c.payload 0 1 then { y with pendingCandidates := some (getU c.payload 2 2) } else y) ∧
        { s1 with time := s.time, det := s.det, mbx := { s'.mbx with cmds := s.mbx.cmds }, streams := s.streams } = s) ∧
    (s.isReady 0x0506 fn slot c → c.payload.length = 8 → allZero (slice c.payload 1 7) = true →
      (∃ y ∈ s.streams, y.id = getU c.payload 0 1 ∧ y.session = c.session ∧ y.active = true) →
      ∃ s' s1 : State, exec (.streamRemove fn slot t) s = .next s' ∧ s' = { s1.formQueries with pending := s.pending } ∧
        s'.reply? fn slot = some (okReply []) ∧
        s1.streams = s.streams.map (fun y => if y.id = getU c.payload 0 1 then { y with removing := true } else y) ∧
        { s1 with time := s.time, det := s.det, mbx := { s'.mbx with cmds := s.mbx.cmds }, streams := s.streams } = s)

/-- QUERY_SUBMIT (R343, R344): every record's stream gets its query, where two records name one stream the later is used,
and each record's DISPOSITION is 0 when used and 1 when a later record of the command, or one of a later accepted
QUERY_SUBMIT of the frame, replaced it; a stream that no record names keeps its query. Commit (R230-R233, R346, R412): the
record takes the stream's next sequence number and stands as the stream's last record and among the frame's records, which
carries RSLT, its session and its stream; an entry whose age limit has passed is not published. In Throughput mode the
publish deadline leaves no publishing stream without a record. Completion: QUERY_SUBMIT, COMMIT, PUBLISH_DEADLINE. -/
def Obligations.QueriesAndCommits : Prop :=
  (∀ (s : State) (fn slot : Nat) (t : Nat) (c : Cmd) (n len : Nat) (recs : List (List Byte)), isSlot fn slot →
     s.isReady 0x0507 fn slot c → dueAtCutoff c s = true → 2 ≤ (s.ses c.session).state → (s.ses c.session).state ≤ 4 →
     8 ≤ c.payload.length → getU c.payload 0 2 = n → allZero (slice c.payload 2 6) = true → 1 ≤ n → n ≤ 256 →
     len = ceilDiv (32 + 12 * (s.images.rigs.getD ((s.ses c.session).rig.getD 8) {}).dof) 8 * 8 →
     (if c.descs.isEmpty then c.payload.drop 8 else c.bulk).length = n * len →
     (c.descs = [] ∨ c.payload.length = 8) →
     recs = (List.range n).map (fun k => slice (if c.descs.isEmpty then c.payload.drop 8 else c.bulk) (k * len) len) →
     (∀ r ∈ recs, s.queryBad c.session (s.images.rigs.getD ((s.ses c.session).rig.getD 8) {}).dof r = none) →
     ∃ (s' s1 : State) (disp : List Byte), exec (.querySubmit fn slot t) s = .next s' ∧ s' = { s1.formQueries with pending := s.pending } ∧
       s'.reply? fn slot = some (okReply (le 2 n ++ zeros 6 ++ disp)) ∧ disp.length = n ∧
       (∀ k < n, disp.getD k 2 = 0 ∨ disp.getD k 2 = 1) ∧
       (∀ k < n, disp.getD k 2 = 1 ↔ (∃ j < n, k < j ∧ getU (recs.getD j []) 0 1 = getU (recs.getD k []) 0 1) ∨
         s.replacedBy c (getU (recs.getD k []) 0 1) = true) ∧
       (∀ x ∈ s.streams, (∀ k < n, getU (recs.getD k []) 0 1 ≠ x.id) → x ∈ s1.streams) ∧
       s1.frame = s.frame ∧ s1.safety = s.safety ∧ s1.rings = s.rings ∧ s1.host = s.host ∧
       (∀ k < n, disp.getD k 2 = 0 → ∀ x ∈ s1.streams, x.id = getU (recs.getD k []) 0 1 → x.query = some
         (queryOf (s.images.rigs.getD ((s.ses c.session).rig.getD 8) {}).dof c.seq (recs.getD k [])))) ∧
  (∀ (s : State) (t : Nat),
     (∀ id x, id < 512 → s.frame.phase = .afterHarvest → s.gridRuns = true → s.stream? id = some x → s.mayCommit x = true →
       s.frame.conf.exact = false →
       ∃ s' y r, exec (.commit id t) s = .next s' ∧ s'.stream? id = some y ∧ y.committed = true ∧
         y.recSeq = (x.recSeq + 1) % 2 ^ 32 ∧ y.lastRecord = r ∧ s'.frame.records = s.frame.records ++ [(id, r)] ∧
         r.take 4 = le 4 0x544C5352 ∧ slice r 8 2 = le 1 x.session ++ le 1 x.id ∧
         (s.expiryOf x < max s.time.now t → y.published = none) ∧
         (∀ z ∈ s'.streams, z.id ≠ id → z ∈ s.streams) ∧
         s'.worlds = s.worlds ∧ s'.images = s.images ∧ s'.hbm = s.hbm ∧ s'.part = s.part) ∧
     (s.frame.phase = .afterHarvest → s.gridRuns = true → s.frame.conf.exact = false →
       s.frame.openTime + 88 * s.frame.conf.period / 100 * ticksPerUs ≤ max s.time.now t →
       ∃ s', exec (.publishDeadline t) s = .next s' ∧ 
         (∀ id x, s'.stream? id = some x → s'.publishes x = true → x.committed = true) ∧
         s'.frame.reverifyClosed = true ∧ s'.worlds = s.worlds ∧ s'.images = s.images ∧ s'.hbm = s.hbm ∧ s'.part = s.part))

/-- Recording (R299, R348, R349): RECORD_START arms capture for the next frame open and waits; RECORD_STOP ends it after the
next FRAME_END; CAPTURE_RELEASE returns space; OP_DIGEST_SET acts at once in IDLE and at the next open otherwise. The
capture drain (R349): bytes leave the ring in order, and the device never writes a byte whose position in the stream lies at
or beyond the bytes consumed plus the descriptors' total length, and none after an OVERFLOW (R299). The TIMING_SLIP log (R292, R348): SLIP_LOG_READ delivers
the entries from frame FIRST on, in ring order, as far as the descriptor holds, and answers their number. Completion:
RECORD_START, RECORD_STOP, CAPTURE_RELEASE, OP_DIGEST_SET, CAPTURE_DRAIN, SLIP_LOG_READ. -/
def Obligations.RecordingAndSlips : Prop :=
  (∀ (s : State) (fn slot : Nat) (t : Nat) (c : Cmd), isSlot fn slot →
     (s.isReady 0x0701 fn slot c → c.payload.length = 16 → allZero (slice c.payload 8 8) = true →
       getU c.payload 0 8 % 8 = 0 → s.frame.devState ∈ [0, 1, 2] → s.det.record = false → s.det.recordNext = false →
       s.det.recordEnded = false →
       ∃ s', exec (.recordStart fn slot t) s = .next s' ∧
         (∃ c', s'.cmd? fn slot = some c' ∧ c'.stage = .waiting ∧ c'.response = none) ∧
         s'.det = { s.det with recordNext := true, captureWidx := getU c.payload 0 8, captureDescs := c.descs,
                               frameEnds := [], recordEnding := false } ∧
         { s' with time := s.time, det := s.det, mbx := { s'.mbx with cmds := s.mbx.cmds } } = s) ∧
     (s.isReady 0x0702 fn slot c → c.payload = [] → s.det.record = true → s.det.ring.length ≤ 536000000 →
       c.bulk = [] → c.descs = [] →
       ∃ s', exec (.recordStop fn slot t) s = .next s' ∧
         (∃ c', s'.cmd? fn slot = some c' ∧ c'.stage = .waiting ∧ c'.response = none) ∧
         s'.det.recordEnding = true ∧ s'.det.record = true ∧ s.onlyAnswered s') ∧
     (s.isReady 0x0703 fn slot c → c.payload.length = 8 → s.det.record = true → s.det.ring.length ≤ 536000000 →
       c.bulk = [] → c.descs = [] → getU c.payload 0 8 ≤ s.det.written →
       ∃ s', exec (.captureRelease fn slot t) s = .next s' ∧ s'.reply? fn slot = some (okReply []) ∧
         s'.det.consumed = max s.det.consumed (getU c.payload 0 8) ∧ s'.det.written = s.det.written ∧
         s.onlyAnswered s') ∧
     (s.isReady 0x0704 fn slot c → c.payload.length = 8 → allZero (slice c.payload 1 7) = true → getU c.payload 0 1 ≤ 1 →
       s.frame.devState ∈ [0, 1, 2] →
       ∃ s', exec (.opDigestSet fn slot t) s = .next s' ∧ s'.reply? fn slot = some (okReply []) ∧
         (s.frame.devState = 0 → s'.det.opDigest = (getU c.payload 0 1 == 1) ∧ s'.det.opDigestNext = none) ∧
         (s.frame.devState ≠ 0 → s'.det.opDigest = s.det.opDigest ∧
           s'.det.opDigestNext = some (getU c.payload 0 1 == 1)) ∧ s.onlyAnswered s')) ∧
  (∀ (s : State) (bytes : Nat) (t : Nat), ∃ s' n, exec (.captureDrain bytes t) s = .next s' ∧
     n = (if s.det.overflowed then 0
       else min (min bytes s.det.ring.length) (s.det.consumed + sumN (s.det.captureDescs.map (·.len)) - s.det.written)) ∧
     (s.det.overflowed = true → s'.host = s.host) ∧
     s'.det.written = s.det.written + n ∧ s'.det.ring = s.det.ring.drop n ∧
     (s'.det.written ≤ s.det.consumed + sumN (s.det.captureDescs.map (·.len)) ∨ s'.det.written = s.det.written) ∧
     s'.hbm = s.hbm ∧ s'.frame = s.frame ∧ s'.sessions = s.sessions) ∧
  (∀ (s : State) (fn slot : Nat) (t : Nat) (c : Cmd) (a len : Nat) (es : List SlipEntry), isSlot fn slot →
     s.isReady 0x070C fn slot c → c.payload.length = 8 → allZero (slice c.payload 4 4) = true →
     c.descs = [{ addr := a, len := len, write := true }] → s.dmaOk fn = true →
     es = (s.det.slipLog.filter fun e => !laterFrame (BitVec.ofNat 32 (getU c.payload 0 4)) e.frame).take (len / 16) →
     ∃ s', exec (.slipLogRead fn slot t) s = .next s' ∧ s'.reply? fn slot = some (okReply (le 4 es.length)) ∧
       s'.host = Mem.writeBytes a (es.flatMap fun e => le 4 e.frame.toNat ++ le 1 e.cause ++ le 1 e.stack ++
         le 1 e.cluster ++ [0] ++ le 4 e.delay ++ le 4 e.count) s.host ∧ s'.det.slipLog = s.det.slipLog ∧
       s.onlyDelivered s' c)

/-- Replay (R300, R348, R349): REPLAY_START enters REPLAY with an empty queue; REPLAY_FEED queues whole entries in order,
waits while more than 64 MiB are queued, and names the first entry whose CRC or a reserved field fails; REPLAY_STOP with no
frame under way pauses the device at once; a captured correction is applied in replay when its entry is due. Completion:
REPLAY_START, REPLAY_FEED, REPLAY_STOP, TIME_CORR_APPLY. -/
def Obligations.ReplayCommands : Prop :=
  ∀ (s : State) (fn slot : Nat) (t : Nat) (c : Cmd), isSlot fn slot → s.boot.mode ≠ 1 →
    (s.isArrived 0x0705 fn slot c → c.payload = [] → s.frame.devState = 0 ∨ s.frame.devState = 2 →
      ∃ s', exec (.replayStart fn slot t) s = .next s' ∧ s'.reply? fn slot = some (okReply []) ∧
        s'.frame.devState = 3 ∧ s'.frame.phase = .closed ∧ s'.det.replay = [] ∧ s'.det.keyMismatch = false ∧
        { s' with time := s.time, det := s.det, mbx := { s'.mbx with cmds := s.mbx.cmds }, frame := s.frame } = s) ∧
    (∀ es, s.isArrived 0x0706 fn slot c → c.payload = [] → s.frame.devState = 3 → s.det.keyMismatch = false →
      cutCapture (c.bulk.length + 1) 0 c.bulk = .inr es → replayBytes (s.det.replay ++ es) ≤ 67108864 →
      ∃ s', exec (.replayFeed fn slot t) s = .next s' ∧ s'.reply? fn slot = some (okReply []) ∧
        s'.det.replay = s.det.replay ++ es ∧ s'.det.replayStalled = [] ∧ s.onlyAnswered s') ∧
    (∀ es, s.isArrived 0x0706 fn slot c → c.payload = [] → s.frame.devState = 3 → s.det.keyMismatch = false →
      cutCapture (c.bulk.length + 1) 0 c.bulk = .inr es → 67108864 < replayBytes (s.det.replay ++ es) →
      (fn, slot) ∉ s.det.replayStalled →
      ∃ s', exec (.replayFeed fn slot t) s = .next s' ∧ s'.waitsAt fn slot ∧ s'.det.replay = s.det.replay ++ es ∧
        s'.det.replayStalled.getLast? = some (fn, slot) ∧ s.onlyAnswered s') ∧
    (∀ st k, s.isArrived 0x0706 fn slot c → c.payload = [] → s.frame.devState = 3 → s.det.keyMismatch = false →
      cutCapture (c.bulk.length + 1) 0 c.bulk = .inl (st, k) →
      ∃ s', exec (.replayFeed fn slot t) s = .next s' ∧ s'.reply? fn slot = some (refusal st k) ∧
        s'.det.replay = s.det.replay ∧ s.onlyAnswered s') ∧
    (s.isArrived 0x0707 fn slot c → c.payload = [] → s.frame.devState = 3 → s.sessions.length = 16 →
      s.frame.phase = .closed ∨ s.frame.phase = .guarded →
      (∀ e ∈ s.det.replay, ¬(e.kind = 6 ∧ e.frame = s.frame.counter + 1)) →
      ∃ s', exec (.replayStop fn slot t) s = .next s' ∧ s'.reply? fn slot = some (okReply []) ∧
        s'.frame.devState = 2 ∧ s'.frame.phase = .closed ∧
        ∀ j < 16, (s'.ses j).state = if (s.ses j).state = 3 then 4 else (s.ses j).state) ∧
    (∀ (corr : Int) (src : Nat) (e : Capture), s.frame.devState = 3 → e ∈ s.det.replay → e.kind = 4 →
      e.frame = s.frame.counter → e.payload = leS 8 corr ++ le 1 src ++ zeros 7 →
      s.frame.openTime + e.offset ≤ max s.time.now t →
      ∃ s', exec (.timeCorrApply corr src t) s = .next s' ∧
        s'.time.now = ((max s.time.now t : Nat) + corr).toNat ∧
        s'.det.replay.length + 1 = s.det.replay.length ∧ { s' with time := s.time, det := s.det } = s)

/-- PAUSE, SAVE, RESTORE and RESUME (R303, R304, R305, R318): PAUSE and RESUME wait for their frame instant, and RESUME sets
the new grid; SAVE writes the state image through the write descriptors and answers its length, or OUTPUT_SHORT where they
are too short (the image's bytes: log entry 24); RESTORE puts back worlds, memory, sessions apart from counters, streams,
the frame counter and the next FRT of an image with the device's own key, refuses another key with KEY_MISMATCH and an image
that fails its check with RECORD_CRC; the first image that SAVE writes stands for the state saved, whatever pads it (log entry
144). Completion: PAUSE, SAVE, RESTORE, RESUME. -/
def Obligations.PauseSaveRestoreResume : Prop :=
  ∀ (s : State) (fn slot : Nat) (t : Nat) (c : Cmd), isSlot fn slot →
    (s.isReady 0x0708 fn slot c → c.payload = [] → s.frame.devState = 1 →
      ∃ s', exec (.pause fn slot t) s = .next s' ∧ s'.waitsAt fn slot ∧
        s'.req = { s.req with pausing := true, hostPaused := true } ∧
        { s' with time := s.time, det := s.det, mbx := { s'.mbx with cmds := s.mbx.cmds }, req := s.req } = s) ∧
    (s.isReady 0x0709 fn slot c → c.payload = [] → s.frame.devState = 2 →
      ∃ s', exec (.save fn slot t) s = .next s' ∧
        ((Config.stateImage s.saved).length ≤ sumN ((c.descs.filter (·.write)).map (·.len)) →
          s'.reply? fn slot = some (okReply (le 4 (Config.stateImage s.saved).length))) ∧
        (sumN ((c.descs.filter (·.write)).map (·.len)) < (Config.stateImage s.saved).length →
          s'.reply? fn slot = some { status := 0x0307, payload := le 4 (sumN ((c.descs.filter (·.write)).map (·.len))) }) ∧
        (∀ a len, c.descs = [{ addr := a, len := len, write := true }] → s.dmaOk fn = true →
          s'.host = Mem.writeBytes a ((Config.stateImage s.saved).take len) s.host) ∧
        (s.saves = [] → ∀ pad, s'.imageState (Config.stateImage s.saved ++ pad) = some s.saved) ∧
        s.onlyDelivered { s' with saves := s.saves } c) ∧
    (s.isReady 0x070A fn slot c → c.payload = [] → s.frame.devState = 2 →
      ∃ s', exec (.restore fn slot t) s = .next s' ∧
        (∀ x, s.imageState c.bulk = some x → x.key = s.det.key → s'.reply? fn slot = some (okReply []) ∧
          s'.worlds = { s.worlds with
            ws := (List.range 4).map fun w => x.worlds.ws.getD w {}, allocated := x.worlds.allocated,
            freeing := x.worlds.freeing, workcells := x.worlds.workcells, badHandles := x.worlds.badHandles } ∧
          (∀ a, Mem.read a s'.hbm = Mem.read a (Mem.ofCells x.hbm)) ∧ s'.streams = x.streams ∧
          (∀ j < 16, s'.ses j = { x.sessions.getD j {} with counters := (s.ses j).counters }) ∧
          s'.frame = { s.frame with counter := x.counter, t0s := x.nextFrt, k := 0 } ∧
          { s' with time := s.time, det := s.det, mbx := { s'.mbx with cmds := s.mbx.cmds }, worlds := s.worlds, hbm := s.hbm,
                    streams := s.streams, sessions := s.sessions, frame := s.frame } = s) ∧
        (∀ x, s.imageState c.bulk = some x → x.key ≠ s.det.key →
          s'.reply? fn slot = some (refusal 0x0206) ∧ s.onlyAnswered s') ∧
        (s.imageState c.bulk = none → s'.reply? fn slot = some (refusal 0x0402) ∧ s.onlyAnswered s')) ∧
    (s.isReady 0x070B fn slot c → c.payload.length = 8 → s.frame.devState = 2 →
      max s.time.now t + 1000 * ticksPerUs ≤ getU c.payload 0 8 →
      ∃ s', exec (.resume fn slot t) s = .next s' ∧ s'.waitsAt fn slot ∧
        s'.frame = { s.frame with devState := 1, t0s := getU c.payload 0 8, k := 0, nextOpen := getU c.payload 0 8,
                                  phase := .closed, resumeNext := true } ∧
        s'.req = { s.req with hostPaused := false, autoPaused := false } ∧
        { s' with time := s.time, det := s.det, mbx := { s'.mbx with cmds := s.mbx.cmds }, frame := s.frame,
                  req := s.req } = s)

/-- Counters (R350, R453, R454, Tables 20.1, 20.5): CTR_READ answers each selected counter's live value or FREEZE shadow; a
function other than PF0 is refused a selector of another scope with PRIVILEGE; CTR_SELECT's programme waits for the next
frame open, or acts at once in IDLE; a read of a LO register returns bits 31:0 and latches the HI half. Sample and reset
(R455): a LO read in the cycle in which a command resets a counter returns the value before the reset, sets bit 31 of HI and
PREV, counts SNAP_PREV (hub counter 14), and the counter restarts at 0. Completion: CTR_READ, CTR_SELECT, COUNTER_LO_READ.
-/
def Obligations.CountersReadAndReset : Prop :=
  (∀ (s : State) (fn slot : Nat) (t : Nat) (c : Cmd) (n : Nat), isSlot fn slot →
     (s.isArrived 0x0801 fn slot c → c.payload.length = 8 + 4 * n → allZero (slice c.payload 3 5) = true →
       getU c.payload 0 2 = n → 1 ≤ n → n ≤ 448 → getU c.payload 2 1 ≤ 1 →
       (∀ k < n, s.selectorBad fn (getU c.payload (8 + 4 * k) 4) = none) →
       ∃ s', exec (.ctrRead fn slot t) s = .next s' ∧ s'.reply? fn slot = some (okReply ((List.range n).flatMap fun k =>
           let v := getU c.payload (8 + 4 * k) 4
           le 8 (if getU c.payload 2 1 = 1 then s.shadow (v / 2 ^ 28 % 16) (v / 2 ^ 16 % 64) (v % 256)
             else s.counter (v / 2 ^ 28 % 16) (v / 2 ^ 16 % 64) (v % 256)))) ∧ s.onlyAnswered s') ∧
     (s.isArrived 0x0801 fn slot c → c.payload.length = 12 → allZero (slice c.payload 3 5) = true →
       getU c.payload 0 2 = 1 → getU c.payload 2 1 ≤ 1 → fn ≠ 0 → selClean (getU c.payload 8 4) = true →
       selExists (getU c.payload 8 4) = true → getU c.payload 8 4 / 2 ^ 28 % 16 ≠ 3 →
       ∃ s', exec (.ctrRead fn slot t) s = .next s' ∧ s'.reply? fn slot = some (refusal 0x0502 0) ∧ s.onlyAnswered s') ∧
     (s.isArrived 0x0802 fn slot c → c.payload.length = 8 + 16 * n → allZero (slice c.payload 2 6) = true →
       getU c.payload 0 2 = n → 1 ≤ n → n ≤ 160 →
       (∀ k < n, s.selectionBad (((List.range n).map fun k => selectionOf (slice c.payload (8 + 16 * k) 16)).take k)
         (slice c.payload (8 + 16 * k) 16) = none) →
       ∃ s', exec (.ctrSelect fn slot t) s = .next s' ∧ s'.reply? fn slot = some (okReply []) ∧
         (s.frame.devState ≠ 0 → s'.obs.programme = s.obs.programme ∧
           s'.obs.programmeNext = some ((List.range n).map fun k => selectionOf (slice c.payload (8 + 16 * k) 16))) ∧
         (s.frame.devState = 0 → s'.obs.programmeNext = none ∧
           s'.obs.programme = (List.range n).map (fun k => selectionOf (slice c.payload (8 + 16 * k) 16)) ∧
           (∀ x ∈ s'.clusters, x.selCounters = []) ∧ (∀ x ∈ s'.stks, x.selCounters = []) ∧ s'.hub.selCounters = [])) ∧
     (∀ scope inst idx shadow, counterOk scope inst idx = true → s.pcie.linkA.up = true → 0 < s.pcie.fns.length →
       ∃ s', exec (.counterLoRead 0 scope inst idx shadow false t) s = .next s' ∧
         s'.pcie.readData = (if shadow then s.shadow scope inst idx else s.counter scope inst idx) % 2 ^ 32 ∧
         lookupD 0 (hiKey scope inst idx shadow) (s'.fnS 0).counterHi =
           (if shadow then s.shadow scope inst idx else s.counter scope inst idx) / 2 ^ 32 ∧
         { s' with time := s.time, pcie := s.pcie } = s)) ∧
  (∀ (s : State) (p idx : Nat) (e : CounterSel) (t : Nat), p < 64 → 16 ≤ idx → idx < 64 → s.pcie.linkA.up = true →
     0 < s.pcie.fns.length → p < s.clusters.length → s.enabled p = true → s.selEntry 0 p idx = some e → e.cmdScope = true →
     ∃ s', exec (.counterLoRead 0 0 p idx false true t) s = .next s' ∧
       s'.pcie.readData = lookupD 0 idx (s.cl p).selCounters % 2 ^ 32 ∧
       lookupD 0 (hiKey 0 p idx false) (s'.fnS 0).counterHi = lookupD 0 idx (s.cl p).selCounters / 2 ^ 32 + 2 ^ 31 ∧
       s'.obs.snapPrev = true ∧ s'.counter 0 p idx = 0 ∧
       s'.hub.counters = s.hub.counters.modify 14 (fun k => (k + 1) % 2 ^ 48) ∧
       { s' with time := s.time, pcie := s.pcie, obs := s.obs, clusters := s.clusters, hub := s.hub } = s)

/-- FREEZE triggers (R456, R350): GO, the FREEZE command, an enabled TRIG_IN edge and an obeyed fabric broadcast start a
freeze or join the pending one, whose trigger time stays; the command then waits for the freeze instant. The freeze instant
(R456): not before the latency of the freeze line; every counter of every scope is copied into its shadow, the device time
is recorded, FREEZES counts, and each waiting FREEZE command is answered with that time. When the shadows are written, DONE
is set and PF0 vector 35 is raised. Completion: FREEZE, FREEZE_GO, TRIG_IN_EDGE, FABRIC_FREEZE, FREEZE_INSTANT,
FREEZE_SHADOWS_DONE. -/
def Obligations.FreezeCopiesCounters : Prop :=
  (∀ (s : State) (t : Nat),
     (∀ fn slot c, isSlot fn slot → s.isArrived 0x0803 fn slot c → c.payload = [] →
       ∃ s', exec (.freeze fn slot t) s = .next s' ∧ s'.waitsAt fn slot ∧
         s'.obs.freezePending = some (s.obs.freezePending.getD (max s.time.now t)) ∧
         { s' with time := s.time, det := s.det, mbx := { s'.mbx with cmds := s.mbx.cmds }, obs := s.obs } = s) ∧
     (∃ s', exec (.freezeGo t) s = .next s' ∧
       s'.obs.freezePending = some (s.obs.freezePending.getD (max s.time.now t)) ∧ s'.obs.freezeRemote = false ∧
       { s' with time := s.time, obs := s.obs } = s) ∧
     (∃ s', exec (.trigInEdge t) s = .next s' ∧
       s'.obs.freezePending = (if s.obs.trigInEn then some (s.obs.freezePending.getD (max s.time.now t))
         else s.obs.freezePending) ∧
       { s' with time := s.time, obs := s.obs } = s) ∧
     (∃ s', exec (.fabricFreeze t) s = .next s' ∧
       s'.obs.freezePending = (if s.obs.fabricEn then some (s.obs.freezePending.getD (max s.time.now t))
         else s.obs.freezePending) ∧
       { s' with time := s.time, obs := s.obs } = s)) ∧
  (∀ (s : State) (t : Nat),
     (∀ t0, s.obs.freezePending = some t0 → max s.time.now t < t0 + 5 →
       ∃ s', exec (.freezeInstant t) s = .next s' ∧ { s' with time := s.time } = s) ∧
     (∀ t0, s.obs.freezePending = some t0 → t0 + 5 ≤ max s.time.now t →
       ∃ s', exec (.freezeInstant t) s = .next s' ∧
         (∀ scope inst idx, counterOk scope inst idx = true → s'.shadow scope inst idx = s.counter scope inst idx) ∧
         (s.hub.counters.length = 32 → s'.hub.counters.getD 16 0 = (s.hub.counters.getD 16 0 + 1) % 2 ^ 48) ∧
         s'.obs.freezePending = none ∧ s'.obs.freezeWriting = true ∧ s'.obs.freezeTime = max s.time.now t ∧
         (∀ fn slot c, s.cmd? fn slot = some c → c.opcode = 0x0803 → c.stage = .waiting → c.response = none →
           s'.reply? fn slot = some (okReply (le 8 (max s.time.now t)))) ∧
         (s.noSlips → s'.frame = s.frame ∧ s'.det = s.det) ∧
         { s.slipApart s' with obs := s.obs, hub := s.hub, stks := s.stks, fabric := s.fabric,
                               mbx := { s'.mbx with cmds := s.mbx.cmds } } = s) ∧
     (s.obs.freezeWriting = true → s.pcie.fns.length = 17 →
       ∃ s', exec (.freezeShadowsDone t) s = .next s' ∧ s'.obs.freezeDone = true ∧ s'.obs.freezeWriting = false ∧
         (if s.msixOpen 0 35 then s'.pcie.sent = s.pcie.sent ++ [(0, 35)] else 35 ∈ (s'.fnS 0).pendingBits) ∧
         { s' with time := s.time, obs := s.obs, pcie := s.pcie, host := s.host } = s))

/-- Trace commands (R350, R458, R460): TRACE_CONFIG waits for the next frame open, or acts at once in IDLE, when every
buffer restarts empty; TRACE_READ delivers a buffer's units in write order, pre region first, and answers the bytes and
OVERFLOWS. The buffer modes (R459, R460), for a unit that the stack's DMA has a token for: in WRAP the newest unit
overwrites the oldest; STOP_ON_FULL keeps one unit for an OVERFLOW record and stops there; in the post region of TRIGGER_WINDOW recording stops when the region is full. Completion:
TRACE_CONFIG, TRACE_READ, TRACE_UNIT_WRITE. -/
def Obligations.TraceBuffers : Prop :=
  (∀ (s : State) (fn slot : Nat) (t : Nat) (c : Cmd), isSlot fn slot →
     (s.isArrived 0x0804 fn slot c → c.payload.length = 192 → traceConfBad c.payload = none →
       ∃ s', exec (.traceConfig fn slot t) s = .next s' ∧ s'.reply? fn slot = some (okReply []) ∧
         (s.frame.devState ≠ 0 → s'.obs.traceConf = s.obs.traceConf ∧ s'.obs.traceConfNext = some c.payload ∧
           s'.obs.buffers = s.obs.buffers) ∧
         (s.frame.devState = 0 → s'.obs.traceConf = c.payload ∧ s'.obs.traceConfNext = none ∧
           ∀ b < 5, s'.obs.buffers.getD b {} = { state := if getU c.payload (32 + 32 * b) 1 = 0 then 0 else 1 }) ∧
         { s' with time := s.time, det := s.det, mbx := { s'.mbx with cmds := s.mbx.cmds }, obs := s.obs,
                   clusters := s.clusters, stks := s.stks, hub := s.hub } = s) ∧
     (∀ st, s.isArrived 0x0804 fn slot c → c.payload.length = 192 → traceConfBad c.payload = some st →
       ∃ s', exec (.traceConfig fn slot t) s = .next s' ∧ s'.reply? fn slot = some (refusal st) ∧ s.onlyAnswered s') ∧
     (∀ a len x, s.isArrived 0x0805 fn slot c → c.payload.length = 8 → allZero (slice c.payload 1 7) = true →
       getU c.payload 0 1 ≤ 4 → x = s.obs.buffers.getD (getU c.payload 0 1) {} →
       c.descs = [{ addr := a, len := len, write := true }] → (x.units ++ x.post).flatten.length ≤ len →
       s.dmaOk fn = true →
       ∃ s', exec (.traceRead fn slot t) s = .next s' ∧
         s'.reply? fn slot = some (okReply (le 4 (x.units ++ x.post).flatten.length ++ le 4 x.overflows)) ∧
         s'.host = Mem.writeBytes a (x.units ++ x.post).flatten s.host ∧ s.onlyDelivered s' c)) ∧
  (∀ (s : State) (b source : Nat) (u : List Byte) (q : List (List Byte)) (x : TraceBuf) (t : Nat), b < 5 →
     source < 256 → u.length = 32 → s.obs.buffers.length = 5 → x = s.obs.buffers.getD b {} →
     (b < 4 → s.dmaReady b = true) → lookupD [] source x.hold = u :: q → x.units.length ≤ traceUnits b →
     (x.state = 1 → s.traceCfg b 0 1 = 2 →
       ∃ s', exec (.traceUnitWrite b source u t) s = .next s' ∧
         s'.obs.buffers.getD b {} =
           { x with hold := upsert source q x.hold, units := (x.units ++ [u]).drop (x.units.length + 1 - traceUnits b),
                    dropped := x.dropped + (x.units.length + 1 - traceUnits b) } ∧
         (s'.obs.buffers.getD b {}).units.length = min (x.units.length + 1) (traceUnits b) ∧
         (∀ k ≠ b, s'.obs.buffers.getD k {} = s.obs.buffers.getD k {}) ∧ (s.noSlips → s'.frame = s.frame ∧ s'.det = s.det) ∧
         { s.slipApart s' with obs := { s'.obs with buffers := s.obs.buffers } } = s) ∧
     (x.state = 1 → s.traceCfg b 0 1 = 1 → x.units.length + 2 ≤ traceUnits b →
       ∃ s', exec (.traceUnitWrite b source u t) s = .next s' ∧
         (s'.obs.buffers.getD b {}).state = (if x.units.length + 2 = traceUnits b then 2 else 1) ∧
         (s'.obs.buffers.getD b {}).units.length = (if x.units.length + 2 = traceUnits b then traceUnits b
           else x.units.length + 1) ∧
         (s'.obs.buffers.getD b {}).units[x.units.length]? = some u ∧
         { s.slipApart s' with obs := { s'.obs with buffers := s.obs.buffers } } = s) ∧
     (x.state = 3 → s.traceCfg b 0 1 = 3 →
       ∃ s', exec (.traceUnitWrite b source u t) s = .next s' ∧
         (s'.obs.buffers.getD b {}).post = x.post ++ [u] ∧ (s'.obs.buffers.getD b {}).units = x.units ∧
         (s'.obs.buffers.getD b {}).state =
           (if s.traceCfg b 1 1 * (traceUnits b / 16) ≤ x.post.length + 1 then 2 else 3) ∧
         { s.slipApart s' with obs := { s'.obs with buffers := s.obs.buffers } } = s))

/-- Breakpoint commands (R350, R396, R461, R462, R306): arming waits for the next frame open, or acts at once in IDLE; it is
refused while a class-S session is CONFIGURED, RUNNING or PAUSED and, for a control core, outside MANUFACTURE, FIELD_DEBUG
and RMA; clearing acts at once; BREAK_RESUME restarts every halted unit, and is STATE_ILLEGAL when nothing is halted. A
breakpoint hit (R461, R462): it counts a hit of the breakpoint and, at its COUNT with a halt action, halts every enabled
cluster of the action's scope, or the control core that was hit; below its COUNT nothing but the hit, its record and the
counters changes. Completion: BREAK_SET, BREAK_CLEAR, BREAK_RESUME, BREAK_HIT. -/
def Obligations.Breakpoints : Prop :=
  (∀ (s : State) (fn slot : Nat) (t : Nat) (c : Cmd), isSlot fn slot → s.obs.breaks.length = 16 →
     (s.isArrived 0x0806 fn slot c → c.payload.length = 32 → s.breakBad c.payload = none →
       s.classSIn (fun st => inR st 2 4) = false → getU c.payload 1 1 ≠ 3 ∨ s.lifecycle ∈ [0, 3, 4] →
       ∃ s', exec (.breakSet fn slot t) s = .next s' ∧ s'.reply? fn slot = some (okReply []) ∧
         (s.frame.devState ≠ 0 →
           s'.obs = { s.obs with breaksNext := (s.obs.breaksNext.filter fun x => x.1 != getU c.payload 0 1) ++
             [(getU c.payload 0 1, c.payload)] }) ∧
         (s.frame.devState = 0 →
           s'.obs.breaks.getD (getU c.payload 0 1) none = some { bytes := c.payload, armed := true } ∧
           s'.obs.breaksNext = []) ∧
         (s.frame.devState = 0 → s.obs.programmeNext = none → s.obs.traceConfNext = none → s.obs.breaksNext = [] →
           s'.obs = { s.obs with
             breaks := s.obs.breaks.set (getU c.payload 0 1) (some { bytes := c.payload, armed := true }) }) ∧
         (s.frame.devState ≠ 0 ∨ s.obs.programmeNext = none →
           { s' with time := s.time, det := s.det, mbx := { s'.mbx with cmds := s.mbx.cmds }, obs := s.obs } = s)) ∧
     (s.isArrived 0x0806 fn slot c → c.payload.length = 32 → s.breakBad c.payload = none →
       s.classSIn (fun st => inR st 2 4) = true →
       ∃ s', exec (.breakSet fn slot t) s = .next s' ∧ s'.reply? fn slot = some (refusal 0x0201) ∧ s.onlyAnswered s') ∧
     (s.isArrived 0x0806 fn slot c → c.payload.length = 32 → s.breakBad c.payload = none →
       s.classSIn (fun st => inR st 2 4) = false → getU c.payload 1 1 = 3 → s.lifecycle ∉ [0, 3, 4] →
       ∃ s', exec (.breakSet fn slot t) s = .next s' ∧ s'.reply? fn slot = some (refusal 0x0503) ∧ s.onlyAnswered s') ∧
     (∀ hit, s.isArrived 0x0807 fn slot c → c.payload.length = 8 → allZero (slice c.payload 1 7) = true →
       getU c.payload 0 1 ≤ 15 →
       ∃ s', exec (.breakClear fn slot hit t) s = .next s' ∧ s'.reply? fn slot = some (okReply []) ∧
         (∀ b, s.obs.breaks.getD (getU c.payload 0 1) none = some b →
           ∃ b', s'.obs.breaks.getD (getU c.payload 0 1) none = some b' ∧ b'.armed = false ∧ b'.bytes = b.bytes) ∧
         (∀ k, k ≠ getU c.payload 0 1 → s'.obs.breaks.getD k none = s.obs.breaks.getD k none) ∧
         (∀ e ∈ s'.obs.breaksNext, e.1 ≠ getU c.payload 0 1) ∧
         { s' with time := s.time, det := s.det, mbx := { s'.mbx with cmds := s.mbx.cmds }, obs := s.obs } = s) ∧
     (s.isArrived 0x0808 fn slot c → c.payload = [] →
       ∃ s', exec (.breakResume fn slot t) s = .next s' ∧
         (s.halted = true → s'.reply? fn slot = some (okReply []) ∧ s'.halted = false ∧ s'.req.haltSince = none ∧
           { s' with time := s.time, det := s.det, mbx := { s'.mbx with cmds := s.mbx.cmds }, obs := s.obs,
                     clusters := s.clusters, req := s.req, frame := s.frame, safety := s.safety } = s) ∧
         (s.halted = false → s'.reply? fn slot = some (refusal 0x0201) ∧ s.onlyAnswered s'))) ∧
  (∀ (s : State) (i unit p pc layer op : Nat) (b : Breakpoint) (t : Nat), i < 16 →
     s.obs.breaks.getD i none = some b → b.armed = true → s.clusters.length = 64 →
     (breakMatches b.bytes unit p pc layer op = false →
       ∃ s', exec (.breakHit i unit p pc layer op t) s = .next s' ∧ { s' with time := s.time } = s) ∧
     (breakMatches b.bytes unit p pc layer op = true →
       ∃ s', exec (.breakHit i unit p pc layer op t) s = .next s' ∧
       s'.obs.breaks = s.obs.breaks.set i (some { b with hits := b.hits + 1 }) ∧
       (b.hits + 1 < getU b.bytes 16 2 →
         { s' with time := s.time, obs := s.obs, hub := s.hub, stks := s.stks } = s) ∧
       (getU b.bytes 16 2 ≤ b.hits + 1 → bit (getU b.bytes 18 1) 0 = true →
         (∀ q < 64, s.enabled q = true → (unit ≠ 3 ∧ (q = p ∨ bits (getU b.bytes 18 1) 1 2 = 1 ∧ q / 16 = p / 16) ∨
           bits (getU b.bytes 18 1) 1 2 = 2) → (s'.cl q).halted = true) ∧
         (unit = 3 → s'.obs.cpHalted = true) ∧ s'.req.haltSince = some (s.req.haltSince.getD (max s.time.now t))) ∧
       { s' with time := s.time, obs := s.obs, hub := s.hub, stks := s.stks, clusters := s.clusters, req := s.req,
                 pcie := s.pcie, host := s.host } = s))

/-- Image commands (R85, R117, R125, R135, R216, R320, R336-R338): a rig, network or cost image that passes its signature
step, its own checks and the slot check stands in its slot as loading, with its copies in the stack stores or, of a streamed
network, in HBM, and the load waits for its copies; a failing step refuses it and changes nothing. A world image comes in
parts: a first part with MORE takes the slot and is kept; a last part that fails a check leaves the slot empty, else the
load waits; a load that names outright the slot of a part load begun under 0xFF finds it in use. IMG_UNLOAD marks the slot for the next frame open, a world's content goes at once (log entry 29), and a slot in
use is refused; IMG_LIST lists the slots. The last copy of an image is made (R125, R135, R216, R320): the slot is loaded, it
becomes usable at the next frame open or at once in IDLE, and the waiting load is answered with hash, slot and residency.
Completion: IMG_LOAD, IMG_UNLOAD, IMG_LIST, IMAGE_COPY_COMPLETE. -/
def Obligations.ImagesLoadAndCopy : Prop :=
  (∀ (s : State) (fn slot : Nat) (t : Nat) (c : Cmd) (kind i : Nat), isSlot fn slot →
     (s.isReady 0x0301 fn slot c → c.payload.length = 8 → allZero (slice c.payload 3 1) = true →
       allZero (slice c.payload 6 2) = true → getU c.payload 2 1 ≤ 1 → getU c.payload 4 2 = 0 → kind ∈ [2, 3, 4] →
       getU c.payload 0 1 = kind →
       getU c.payload 1 1 = 0xFF ∨ getU c.payload 1 1 < (s.images.slots kind).length →
       ∃ s', exec (.imgLoad fn slot t) s = .next s' ∧
         (∀ e, s.checkImage (bit (getU c.payload 2 1) 0) c.bulk = .inl e →
           s'.reply? fn slot = some (refusal e.1 e.2) ∧ s.onlyAnswered s') ∧
         (∀ p k, s.checkImage (bit (getU c.payload 2 1) 0) c.bulk = .inr p →
           (if kind = 2 then rigChecks p else if kind = 3 then (match netChecks p with | .inl k => some k | .inr _ => none)
             else costChecks p) = some k →
           s'.reply? fn slot = some (refusal 0x0405 k) ∧ s.onlyAnswered s') ∧
         (∀ p, s.checkImage (bit (getU c.payload 2 1) 0) c.bulk = .inr p →
           (if kind = 2 then rigChecks p else if kind = 3 then (match netChecks p with | .inl k => some k | .inr _ => none)
             else costChecks p) = none →
           (∀ st, s.loadSlot kind (getU c.payload 1 1) = .inl st →
             s'.reply? fn slot = some (refusal st) ∧ s.onlyAnswered s') ∧
           (s.loadSlot kind (getU c.payload 1 1) = .inr i → s'.waitsAt fn slot ∧
             ((s'.images.slots kind).getD i {}).state = 1 ∧ ((s'.images.slots kind).getD i {}).hash = sha512 p ∧
             ((s'.images.slots kind).getD i {}).loader = some (fn, slot) ∧
             (∀ j, j ≠ i → (s'.images.slots kind).getD j {} = (s.images.slots kind).getD j {}) ∧
             s'.sram = (if kind = 2 then (s.storeCopies (rigOffset i) p).sram
               else if kind = 4 then (s.storeCopies (costOffset i) p).sram else s.sram) ∧
             s'.hbm = (if kind = 3 ∧ (s'.images.nets.getD i {}).resident = false
               then Mem.writeBytes (streamedAddr i) (sectionOf p 72 3) s.hbm else s.hbm) ∧
             { s' with time := s.time, det := s.det, mbx := { s'.mbx with cmds := s.mbx.cmds }, images := s.images,
                       hbm := s.hbm, sram := s.sram } = s))) ∧
     (s.isReady 0x0301 fn slot c → c.payload.length = 8 → allZero (slice c.payload 3 1) = true →
       allZero (slice c.payload 6 2) = true → getU c.payload 2 1 ≤ 3 → getU c.payload 4 2 = 0 → getU c.payload 0 1 = 1 →
       getU c.payload 1 1 = 0xFF ∨ getU c.payload 1 1 < s.images.worldSlots.length →
       (∀ l ∈ s.images.partLoads, (l.named ≠ getU c.payload 1 1 ∨ getU c.payload 1 1 = 0xFF) ∧ l.slot ≠ getU c.payload 1 1) →
       ∃ s', exec (.imgLoad fn slot t) s = .next s' ∧
         (∀ st, s.loadSlot 1 (getU c.payload 1 1) = .inl st → s'.reply? fn slot = some (refusal st) ∧ s.onlyAnswered s') ∧
         (s.loadSlot 1 (getU c.payload 1 1) = .inr i →
           (bit (getU c.payload 2 1) 1 = true → s'.reply? fn slot = some (okReply []) ∧
             (s'.images.worldSlots.getD i {}).state = 1 ∧
             { slot := i, named := getU c.payload 1 1, nextPart := 1, bytes := c.bulk } ∈ s'.images.partLoads) ∧
           (∀ e, bit (getU c.payload 2 1) 1 = false → s.checkImage (bit (getU c.payload 2 1) 0) c.bulk = .inl e →
             s'.reply? fn slot = some (refusal e.1 e.2) ∧ (s'.images.worldSlots.getD i {}).state = 0) ∧
           (∀ p, bit (getU c.payload 2 1) 1 = false → s.checkImage (bit (getU c.payload 2 1) 0) c.bulk = .inr p →
             (∀ k, (if worldCheck2 p = false then some 2 else if worldCheck3 p = false then some 3
                 else if worldCheck4 p = false then some 4 else none) = some k →
               s'.reply? fn slot = some (refusal 0x0405 k) ∧ (s'.images.worldSlots.getD i {}).state = 0) ∧
             (worldCheck2 p = true → worldCheck3 p = true → worldCheck4 p = true →
               ((s.emptyWorld i).worldCheck5 p i = false →
                 s'.reply? fn slot = some (refusal 0x0303) ∧ (s'.images.worldSlots.getD i {}).state = 0) ∧
               ((s.emptyWorld i).worldCheck5 p i = true → s'.waitsAt fn slot ∧
                 (s'.images.worldSlots.getD i {}).state = 1 ∧ (s'.images.worldSlots.getD i {}).hash = sha512 p)))) ∧
         s'.frame = s.frame ∧ s'.sessions = s.sessions ∧ s'.streams = s.streams ∧ s'.host = s.host ∧ s'.sram = s.sram) ∧
     (s.isReady 0x0301 fn slot c → c.payload.length = 8 → allZero (slice c.payload 3 1) = true →
       allZero (slice c.payload 6 2) = true → getU c.payload 2 1 ≤ 3 → getU c.payload 0 1 = 1 →
       getU c.payload 1 1 < s.images.worldSlots.length → (∃ l ∈ s.images.partLoads, l.slot = getU c.payload 1 1) →
       (∀ l ∈ s.images.partLoads, l.named ≠ getU c.payload 1 1) →
       ∃ s', exec (.imgLoad fn slot t) s = .next s' ∧ s'.reply? fn slot = some (refusal 0x0203) ∧ s.onlyAnswered s') ∧
     (s.isReady 0x0302 fn slot c → c.payload.length = 8 → allZero (slice c.payload 2 6) = true →
       getU c.payload 0 1 = kind → getU c.payload 1 1 = i → imageSlotOk kind i = true → s.slotInUse kind i = false →
       (kind = 1 → s.isHomeWorld i = false) →
       ((s.images.slots kind).getD i {}).state = 2 →
       ∃ s', exec (.imgUnload fn slot t) s = .next s' ∧ s'.reply? fn slot = some (okReply []) ∧
         (s.frame.devState ≠ 0 → ((s'.images.slots kind).getD i {}).state = 3) ∧
         (s.frame.devState = 0 → ((s'.images.slots kind).getD i {}).state = 0) ∧
         (kind = 1 → (s'.wd i).loaded = false) ∧ (kind ≠ 1 → s'.worlds = s.worlds ∧ s'.hbm = s.hbm) ∧
         { s' with time := s.time, det := s.det, mbx := { s'.mbx with cmds := s.mbx.cmds }, images := s.images,
                   worlds := s.worlds, hbm := s.hbm } = s) ∧
     (s.isReady 0x0302 fn slot c → c.payload.length = 8 → allZero (slice c.payload 2 6) = true →
       imageSlotOk (getU c.payload 0 1) (getU c.payload 1 1) = true →
       s.slotInUse (getU c.payload 0 1) (getU c.payload 1 1) = true →
       ∃ s', exec (.imgUnload fn slot t) s = .next s' ∧ s'.reply? fn slot = some (refusal 0x0203) ∧ s.onlyAnswered s') ∧
     (s.isReady 0x0303 fn slot c → c.payload = [] →
       ∃ s', exec (.imgList fn slot t) s = .next s' ∧
         s'.reply? fn slot = some (okReply ([1, 2, 3, 4].flatMap fun k => (s.images.slots k).flatMap fun x =>
           le 1 x.state ++ le 1 k ++ zeros 2 ++ le 4 x.id ++ x.shown.take 8)) ∧ s.onlyAnswered s')) ∧
  (∀ (s : State) (kind i fn slot : Nat) (x : SlotState) (c : Cmd) (t : Nat), imageSlotOk kind i = true →
     (s.images.slots kind)[i]? = some x → x.state = 1 → x.loader = some (fn, slot) → s.cmd? fn slot = some c →
     c.opcode = 0x0301 → c.stage = .waiting → c.response = none →
     ∃ s', exec (.imageCopyComplete kind i t) s = .next s' ∧
       ((s'.images.slots kind).getD i {}).state = 2 ∧ ((s'.images.slots kind).getD i {}).hash = x.hash ∧
       (s.frame.devState = 0 → ((s'.images.slots kind).getD i {}).usable = true) ∧
       (s.frame.devState ≠ 0 → ((s'.images.slots kind).getD i {}).usable = x.usable) ∧
       s'.reply? fn slot = some (okReply (x.hash ++ le 1 i ++
         le 1 (flag (kind == 3 && (s.images.nets.getD i {}).resident) 0) ++ zeros 6)) ∧
       (∀ k < 4, { s'.stk k with pllStopped := (s.stk k).pllStopped } = s.stk k) ∧
       { s' with time := s.time, mbx := { s'.mbx with cmds := s.mbx.cmds }, images := s.images, stks := s.stks } = s)

/-- Brine at arrival (R106, R107, R276, R339): a command whose records pass the arrival checks waits for its frame, the
latest its records ask for; a world that is not loaded answers WORLD_STATE, the first record that fails a check names its
status and index, a target more than 16 frames ahead answers TARGET_TOO_FAR, and each of the three frees the landing space.
WORLD_STATUS and PAN_READ (R339): what each answers and delivers; a world that is not loaded, or a cell with no pan, is
WORLD_STATE. Completion: BRINE, BRINE_URGENT, WORLD_STATUS, PAN_READ. -/
def Obligations.BrineArrivalAndWorldReads : Prop :=
  (∀ (s : State) (fn slot : Nat) (t : Nat) (c : Cmd) (rs : List (List Byte)) (urgent : Bool), isSlot fn slot →
     s.isReady (if urgent then 0x0402 else 0x0401) fn slot c → 8 ≤ c.payload.length → (c.descs ≠ [] → c.payload.length = 8) →
     allZero (slice c.payload 1 7) = true → c.world ≤ 3 → s.isProxy c.world = false →
     let go := exec (if urgent then .brineUrgent fn slot t else .brine fn slot t) s
     ((s.wd c.world).loaded = false →
       ∃ s', go = .next s' ∧ s'.reply? fn slot = some (refusal 0x0207) ∧
         s'.worlds = { s.worlds with landingUsed := s.worlds.landingUsed - c.fetchBytes } ∧
         { s' with time := s.time, det := s.det, mbx := { s'.mbx with cmds := s.mbx.cmds }, worlds := s.worlds } = s) ∧
     ((s.wd c.world).loaded = true → c.recordList = .inr rs → rs ≠ [] → (urgent = true → rs.length ≤ 16) →
       ∃ s', go = .next s' ∧
         (∀ st i, (List.range rs.length).findSome? (fun i =>
             (recordBad urgent c.world (s.wd c.world) (rs.getD i [])).map fun st => (st, i)) = some (st, i) →
           s'.reply? fn slot = some (refusal st i) ∧
           s'.worlds = { s.worlds with landingUsed := s.worlds.landingUsed - c.fetchBytes } ∧
           { s' with time := s.time, det := s.det, mbx := { s'.mbx with cmds := s.mbx.cmds }, worlds := s.worlds } = s) ∧
         ((List.range rs.length).findSome? (fun i =>
             (recordBad urgent c.world (s.wd c.world) (rs.getD i [])).map fun st => (st, i)) = none →
           (urgent = true → s'.waitsAt fn slot ∧ { s' with time := s.time, mbx := { s'.mbx with cmds := s.mbx.cmds } } = s) ∧
           (urgent = false → (∀ r ∈ rs, (recFrame r - c.frame).toInt ≤ 16) → s'.waitsAt fn slot ∧
             (∀ c', s'.cmd? fn slot = some c' → c'.frame = (rs.map recFrame).foldl laterOf c.frame) ∧
             { s' with time := s.time, mbx := { s'.mbx with cmds := s.mbx.cmds } } = s) ∧
           (urgent = false → ∀ i, rs.findIdx? (fun r => decide ((recFrame r - c.frame).toInt > 16)) = some i →
             s'.reply? fn slot = some (refusal 0x0108 i) ∧
             s'.worlds = { s.worlds with landingUsed := s.worlds.landingUsed - c.fetchBytes } ∧
             { s' with time := s.time, det := s.det, mbx := { s'.mbx with cmds := s.mbx.cmds }, worlds := s.worlds } = s)))) ∧
  (∀ (s : State) (fn slot : Nat) (t : Nat) (c : Cmd), isSlot fn slot → c.world ≤ 3 →
     (s.isReady 0x0403 fn slot c → c.payload.length = 8 → allZero (slice c.payload 1 7) = true →
       ∃ s', exec (.worldStatus fn slot t) s = .next s' ∧ s.onlyAnswered s' ∧
         ((s.wd c.world).loaded = false → s'.reply? fn slot = some (refusal 0x0207)) ∧
         ((s.wd c.world).loaded = true → ∃ p, s'.reply? fn slot = some (okReply p) ∧ p.length = 40 ∧
           slice p 0 8 = le 8 (s.wd c.world).worldTime ∧ slice p 8 4 = le 4 (s.wd c.world).lastSeq ∧
           slice p 12 4 = le 4 (s.wd c.world).urgentSeq ∧ slice p 16 4 = le 4 s.freeHandles ∧
           slice p 24 2 = le 2 ((s.wd c.world).movers.filter (·.isSome)).length)) ∧
     (∀ h a len, s.isReady 0x0404 fn slot c → c.payload.length = 24 → allZero (slice c.payload 1 7) = true →
       allZero (slice c.payload 11 1) = true → allZero (slice c.payload 20 4) = true → addrOk c.payload 8 = true →
       (s.wd c.world).loaded = true → s.panAt c.world (addrAt c.payload 8) = some h → s.dmaOk fn = true →
       c.descs = [{ addr := a, len := len, write := true }] → (s.panHeader h ++ s.panPayload h).length ≤ len →
       ∃ s', exec (.panRead fn slot t) s = .next s' ∧
         s'.reply? fn slot = some (okReply (le 4 (s.panHeader h ++ s.panPayload h).length)) ∧
         s'.host = Mem.writeBytes a (s.panHeader h ++ s.panPayload h) s.host ∧ s.onlyDelivered s' c) ∧
     (s.isReady 0x0404 fn slot c → c.payload.length = 24 → allZero (slice c.payload 1 7) = true →
       allZero (slice c.payload 11 1) = true → allZero (slice c.payload 20 4) = true → addrOk c.payload 8 = true →
       (s.wd c.world).loaded = false ∨ s.panAt c.world (addrAt c.payload 8) = none →
       ∃ s', exec (.panRead fn slot t) s = .next s' ∧ s'.reply? fn slot = some (refusal 0x0207) ∧ s.onlyAnswered s'))

/-- One record's checks and its order (R106, Table 04.10): a world takes the next SEQUENCE and a TIME not before its own,
and a record of no content (type 9) only moves both on; a wrong SEQUENCE is 0x0403, an earlier TIME 0x0404. A new mover
table and an urgent slot are written in HBM too (R109, Table 04.11). Ordinary brine applies whole or not at all (R46, R47,
R106, R107, R112): in the ingest window the boxes that earlier frames converted are written, then the first waiting command
of its world starts; a record that fails its checks refuses the command with its index and the world keeps its content; a
command whose writes fit before T_c takes effect and is answered with its record count and the frame, unless boxes of its
own still wait; one that does not fit, or asks for a ninth box of the frame, is held for the next frame; outside the window
nothing happens. Completion: BRINE_APPLY. -/
def Obligations.BrineAppliesInOrder : Prop :=
  (∀ (s : State) (w : Nat) (cmd : Nat × Nat) (r : List Byte), w < 4 → s.worlds.ws.length = 4 → (s.wd w).loaded = true →
     (recSeq r ≠ ((s.wd w).lastSeq + 1) % 2 ^ 32 → applyRecord w cmd r s = .inl 0x0403) ∧
     (recSeq r = ((s.wd w).lastSeq + 1) % 2 ^ 32 → recTime r < (s.wd w).worldTime → applyRecord w cmd r s = .inl 0x0404) ∧
     (recSeq r = ((s.wd w).lastSeq + 1) % 2 ^ 32 → (s.wd w).worldTime ≤ recTime r → recType r = 9 →
       ∃ s', applyRecord w cmd r s = .inr (0, s') ∧
         s'.wd w = { s.wd w with lastSeq := recSeq r, worldTime := recTime r } ∧ (∀ v, v ≠ w → s'.wd v = s.wd v) ∧
         { s' with worlds := s.worlds } = s) ∧
     (recSeq r = ((s.wd w).lastSeq + 1) % 2 ^ 32 → (s.wd w).worldTime ≤ recTime r → recType r = 3 →
       ∃ s', applyRecord w cmd r s = .inr (8 + 96 * getU r 32 2, s') ∧
         (s'.wd w).movers = (recordsOf (r.drop 40) 96 (getU r 32 2)).map (fun b => some (moverOf b)) ∧
         (s'.wd w).lastSeq = recSeq r ∧ (s'.wd w).worldTime = recTime r ∧ (∀ v, v ≠ w → s'.wd v = s.wd v) ∧
         s'.hbm = Mem.writeBytes (moverAddr w 0) (slice r 40 (96 * getU r 32 2) ++
           zeros (96 * ((s.wd w).movers.length - getU r 32 2))) s.hbm ∧
         { s' with worlds := s.worlds, hbm := s.hbm } = s) ∧
     (recSeq r = ((s.wd w).urgentSeq + 1) % 2 ^ 32 → (s.wd w).worldTime ≤ recTime r → getU r 32 1 < 16 →
       (s.wd w).urgent.length = 16 → ∃ s', applyUrgentRecord w r s = .inr s' ∧
         (s'.wd w).urgent.getD (getU r 32 1) none = (if getU r 33 1 = 0 then some (moverOf (slice r 40 96)) else none) ∧
         (∀ k, k ≠ getU r 32 1 → (s'.wd w).urgent.getD k none = (s.wd w).urgent.getD k none) ∧
         (s'.wd w).urgentSeq = recSeq r ∧ (s'.wd w).worldTime = (s.wd w).worldTime ∧ (∀ v, v ≠ w → s'.wd v = s.wd v) ∧
         s'.hbm = Mem.writeBytes (moverAddr w (1024 + getU r 32 1))
           (if getU r 33 1 = 0 then slice r 40 96 else zeros 96) s.hbm ∧
         { s' with worlds := s.worlds, hbm := s.hbm } = s)) ∧
  (∀ (s : State) (fn slot : Nat) (t : Nat) (c : Cmd) (rs : List (List Byte)), isSlot fn slot →
     s.cmd? fn slot = some c → c.recordList = .inr rs → s.frame.devState = 1 → s.brineWaits c 0x0401 = true →
     let s0 := (s.at t).writeBoxes
     (s.frame.phase = .opened → s.frame.openTime + 10 * ticksPerUs ≤ max s.time.now t →
       max s.time.now t < s.frame.openTime + s.frame.conf.tc * ticksPerUs → s.brineFirst c = true →
       laterFrame c.frame s.frame.counter = false →
       (∀ st i, applyRecords c.world (fn, slot) 0 rs (0, s0) = .inl (st, i) →
         ∃ s', exec (.brineApply fn slot t) s = .next s' ∧ s'.reply? fn slot = some (refusal st i) ∧
           s'.worlds = { s0.worlds with landingUsed := s0.worlds.landingUsed - c.fetchBytes } ∧ s'.hbm = s0.hbm ∧
           s'.streams = s.streams ∧ s'.sessions = s.sessions) ∧
       (∀ n s1, applyRecords c.world (fn, slot) 0 rs (0, s0) = .inr (n, s1) →
         ((s1.worlds.distJobs.filter fun j => j.frame == s.frame.counter).length ≤ 8 → s0.ingestStart + n ≤ s.ingestEnd →
           ∃ s', exec (.brineApply fn slot t) s = .next s' ∧ s'.worlds.ws = s1.worlds.ws ∧
             s'.hbm = s1.hbm ∧ s'.worlds.ingestUsed = s0.ingestStart + n ∧ s'.frame.brineHeld = s.frame.brineHeld ∧
             (s1.worlds.distJobs = s0.worlds.distJobs → s'.reply? fn slot =
               some (okReply (le 4 rs.length ++ le 4 s.frame.counter.toNat))) ∧
             ((s0.worlds.distJobs.filter fun j => j.frame == s.frame.counter).length <
               (s1.worlds.distJobs.filter fun j => j.frame == s.frame.counter).length → s'.waitsAt fn slot)) ∧
         (8 < (s1.worlds.distJobs.filter fun j => j.frame == s.frame.counter).length ∨ s.ingestEnd < s0.ingestStart + n →
           ∃ s', exec (.brineApply fn slot t) s = .next s' ∧ s'.worlds = s0.worlds ∧ s'.hbm = s0.hbm ∧
             s'.frame.brineHeld = s.frame.brineHeld + 1 ∧
             (∃ c', s'.cmd? fn slot = some c' ∧ c'.frame = s.frame.counter + 1 ∧ c'.stage = .waiting ∧
               c'.response = none)))) ∧
     (s.frame.phase ≠ .opened ∨ max s.time.now t < s.frame.openTime + 10 * ticksPerUs ∨
         s.frame.openTime + s.frame.conf.tc * ticksPerUs ≤ max s.time.now t ∨ s.brineFirst c = false ∨ laterFrame c.frame s.frame.counter = true →
       ∃ s', exec (.brineApply fn slot t) s = .next s' ∧ { s' with time := s.time } = s))

/-- Urgent brine (R49, R109, R181, R229): in Throughput mode the first waiting command of its world applies whole at once,
with WHEN 0xFE; in Exact mode a checkpoint after T_c applies those that arrived before it; after T_c an application makes a
new epoch. A record that fails refuses the command whole. T_c (R46, R113, R181): no earlier than the cut-off the inputs of
the frame close, every world's WORLD_TIME is fixed for it and the urgent epoch starts at 0; before it nothing happens.
Completion: URGENT_APPLY, URGENT_CHECKPOINT, BRINE_CUTOFF. -/
def Obligations.UrgentAndCutoff : Prop :=
  (∀ (s : State) (fn slot j : Nat) (t : Nat) (c : Cmd) (r : List Byte) (rs : List (List Byte)), isSlot fn slot →
     s.cmd? fn slot = some c → c.recordList = .inr (r :: rs) → s.brineWaits c 0x0402 = true → s.frame.devState = 1 →
     (s.frame.conf.exact = false → (∀ x ∈ s.mbx.cmds, s.brineWaits x 0x0402 = true → x.world = c.world → x.before c = false) →
       (∀ st i, applyUrgentRecords c.world 0 (r :: rs) (s.at t) = .inl (st, i) →
         ∃ s', exec (.urgentApply fn slot t) s = .next s' ∧ s'.reply? fn slot = some (refusal st i) ∧
           { s'.worlds with landingUsed := s.worlds.landingUsed } = s.worlds ∧ s'.streams = s.streams ∧
           (s.fabric.msgs = [] → s'.worlds.landingUsed = s.worlds.landingUsed - c.fetchBytes)) ∧
       (∀ s1, applyUrgentRecords c.world 0 (r :: rs) (s.at t) = .inr s1 →
         ∃ s', exec (.urgentApply fn slot t) s = .next s' ∧
           s'.reply? fn slot = some (okReply (le 8 (max s.time.now t) ++ le 4 s.frame.counter.toNat ++ [0xFE, 0, 0, 0])) ∧
           s'.worlds.ws = s1.worlds.ws ∧
           s'.worlds.epoch = (if s.frame.phase = .closed ∨ s.frame.phase = .opened then s.worlds.epoch
             else s.worlds.epoch + 1) ∧ s'.hbm = s1.hbm)) ∧
     (s.frame.conf.exact = true → ∃ s', exec (.urgentApply fn slot t) s = .next s' ∧ { s' with time := s.time } = s) ∧
     (s.frame.conf.exact = true → 2 ≤ j → j ≤ 4 → s.frame.phase ≠ .closed → s.frame.phase ≠ .opened →
       s.worlds.checkpointEpochs.length + 1 = j →
       s.checkpointAt j ≤ max s.time.now t → s.urgentsBefore (s.checkpointAt j) = [c] →
       (∀ s1, applyUrgentRecords c.world 0 (r :: rs) (s.at t) = .inr s1 →
         ∃ s', exec (.urgentCheckpoint j t) s = .next s' ∧
           s'.reply? fn slot = some (okReply (le 8 (max s.time.now t) ++ le 4 s.frame.counter.toNat ++ le 1 j ++ zeros 3)) ∧
           s'.worlds.ws = s1.worlds.ws ∧ s'.worlds.epoch = s.worlds.epoch + 1 ∧
           s'.worlds.checkpointEpochs = s.worlds.checkpointEpochs ++ [s.worlds.epoch + 1] ∧ s'.hbm = s1.hbm)) ∧
     (2 ≤ j → j ≤ 4 → max s.time.now t < s.checkpointAt j →
       ∃ s', exec (.urgentCheckpoint j t) s = .next s' ∧ { s' with time := s.time } = s)) ∧
  (∀ (s : State) (t : Nat), s.frame.devState = 1 → s.frame.phase = .opened →
     (max s.time.now t < s.cutoffAt → ∃ s', exec (.brineCutoff t) s = .next s' ∧ { s' with time := s.time } = s) ∧
     (s.cutoffAt ≤ max s.time.now t → s.frame.conf.exact = false →
       ∃ s', exec (.brineCutoff t) s = .next s' ∧ s'.frame.phase = .afterCutoff ∧ s'.worlds.epoch = 0 ∧
         (∀ w < 4, (s'.wd w).timeAtCutoff = (s.wd w).worldTime ∧ (s'.wd w).worldTime = (s.wd w).worldTime ∧
           (s'.wd w).urgent = (s.wd w).urgent ∧ (s'.wd w).urgentTouched = []) ∧
         ((∀ j ∈ s.worlds.distJobs, j.output = none) → s'.hbm = s.hbm) ∧ s'.frame.counter = s.frame.counter ∧
         s'.safety = s.safety))

/-- FRAME_OPEN in a running grid (R41, R42, R56, R59, R289): not before its instant; when every book balances (the books of
a frame that reached its guard are its drain records: log entry 39), the counter moves on by one modulo 2^32, FRT is T0 + k
P on the lattice, the next open lies P behind this one, and no transient of the frame before is left; a book out of balance
is DRAIN_AUDIT, latched at once, and the frame does not open. The end of a frame (R53, R55, R56, R301, R402, R407): publish
ends once every query has its record, releases the shortlists and, after an Exact-mode overrun, delays the rake slice and
puts the next open 30 us behind its start; the rake slice follows, a safety task on each stack's target that is neither busy
nor halted; then the guard, which completes every drain record, ends the sessions that stop and lets the pins go IDLE; a
cluster whose identities do not hold is SCHED_BOOK (R260). Completion: FRAME_OPEN, PUBLISH_END, RAKE_START, GUARD_START. -/
def Obligations.FrameOpensAndEnds : Prop :=
  (∀ (s : State) (ssv : Nat) (t : Nat),
     (s.frame.devState = 1 → max s.time.now t < s.frame.nextOpen →
       ∃ s', exec (.frameOpen ssv t) s = .next s' ∧ { s' with time := s.time, safety := s.safety } = s) ∧
     (∀ conf, s.frame.devState = 1 → s.frame.phase = .closed ∨ s.frame.phase = .guarded → s.req.faultedOpen = false →
       s.boot.cfwUp = true → s.frame.nextOpen ≤ max s.time.now t → conf = s.frame.pendingConf.getD s.frame.conf →
       (State.badBook { s with time := { s.time with now := max s.time.now t },
                               frame := { s.frame with counter := s.frame.counter + 1 } } = none →
         ∃ s', exec (.frameOpen ssv t) s = .next s' ∧ s'.frame.counter = s.frame.counter + 1 ∧
           s'.frame.phase = .opened ∧ s'.frame.openTime = s.frame.nextOpen ∧
           s'.frame.frt = s.frame.t0s + s.frame.k * s.frame.conf.period * ticksPerUs ∧
           s'.frame.nextOpen = s.frame.nextOpen + conf.period * ticksPerUs ∧ s'.frame.conf = conf ∧
           s'.frame.pendingConf = none ∧ s'.frame.records = [] ∧ s'.frame.overrun = 0 ∧
           (∀ x ∈ s'.streams, x.guest = none ∧ x.query = none ∧ x.device = none) ∧
           (∀ x ∈ s'.clusters, x.cands = [] ∧ x.shortlists = [] ∧ x.sched.age = 0) ∧
           s'.part = s.part ∧ s'.flash = s.flash ∧ s'.aon = s.aon ∧ s'.mgmt = s.mgmt) ∧
       (∀ b, State.badBook { s with time := { s.time with now := max s.time.now t },
                                    frame := { s.frame with counter := s.frame.counter + 1 } } = some b →
         s.safety.latch.length < 32 →
         ∃ s', exec (.frameOpen ssv t) s = .next s' ∧ s'.req.faultedOpen = true ∧ s'.frame.phase = .closed ∧
           s'.frame.counter = s.frame.counter + 1 ∧ s'.faultLatched 0x0006 (max s.time.now t)))) ∧
  (∀ (s : State) (t : Nat), s.clusters.length = 64 → s.stks.length = 4 →
     (s.frame.phase = .afterHarvest → s.gridRuns = true →
       (∀ x ∈ s.streams, s.publishes x = true → x.committed = true) →
       ∃ s', exec (.publishEnd t) s = .next s' ∧ s'.frame.phase = .published ∧
         (∀ x ∈ s'.clusters, x.shortlists = [] ∧ x.tallies = []) ∧
         (∀ x ∈ s'.streams, x.device = none ∧ x.treeNodes = []) ∧
         (s.frame.conf.exact = false → s'.frame.rakeAt = s.frame.rakeAt ∧ s'.frame.nextOpen = s.frame.nextOpen) ∧
         (s.frame.conf.exact = true → s'.frame.rakeAt = max s.frame.rakeAt (max s.time.now t) ∧
           s'.frame.nextOpen = max s.frame.rakeAt (max s.time.now t) + 30 * ticksPerUs ∧
           s'.frame.overrun = min (2 ^ 32 - 1) (max s.time.now t -
             (s.frame.openTime + 88 * s.frame.conf.period / 100 * ticksPerUs))) ∧
         s'.worlds = s.worlds ∧ s'.images = s.images ∧ s'.hbm = s.hbm ∧ s'.part = s.part ∧ s'.safety = s.safety) ∧
     (s.frame.phase = .published → s.gridRuns = true → s.frame.rakeAt ≤ max s.time.now t →
       ∃ s', exec (.rakeStart t) s = .next s' ∧ s'.frame.phase = .rake ∧ s'.sram = s.sram ∧ s'.hbm = s.hbm ∧
         s'.worlds = s.worlds ∧ s'.streams = s.streams ∧
         (s.frame.openTime + ticksPerUs ≤ max s.time.now t →
           (∀ k < 4, ∀ p, s.rakeTargetOf k s.frame.counter = some p → s.rakeBusy p = true ∨
             (s.cl p).sched.tasks = [] ∧ (s.cl p).sched.freed = [0, 0, 0] ∧ (s.cl p).sched.inHand = [0, 0, 0] ∧
               (s.stk k).dispatcher = [] ∧ (s.stk k).taskList = []) →
           (∀ k < 4, ∀ p, s.rakeTargetOf k s.frame.counter = some p → s.rakeBusy p = false →
             (s'.stk k).rakeTarget = some p ∧ (s'.stk k).dispatcher = [] ∧
             ∃ h, (s'.cl p).sched.running = [(4, h)] ∧ h.task.op = .rake ∧ h.task.safety = true) ∧
           { s' with time := s.time, frame := { s'.frame with phase := s.frame.phase }, stks := s.stks, clusters := s.clusters,
                     obs := s.obs, safety := { s'.safety with rakeDeferrals := s.safety.rakeDeferrals } } = s)) ∧
     (s.frame.phase = .published ∨ s.frame.phase = .rake → s.gridRuns = true →
       s.frame.rakeAt + 20 * ticksPerUs ≤ max s.time.now t → s.req = {} →
       (∀ p, s.enabled p = true → s.safety.latch.length < 32 → ∃ s', exec (.guardStart ⟨[p], t⟩) s = .next s' ∧
         s'.frame.phase = .guarded ∧ s'.faultLatched 0x0007 (max s.time.now t)) ∧
       ∃ s', exec (.guardStart ⟨[], t⟩) s = .next s' ∧ s'.frame = { s.frame with phase := .guarded } ∧
         (s.sram.wf = true → ∀ p, s.enabled p = true → drainCrcOk (s'.drainBytes p) = true ∧
           getU (s'.drainBytes p) 0 4 = s.frameNo ∧
           ((s'.cl p).gate ≠ .powerGated → s'.drainBytes p = (s'.drainRecord p true).bytes)) ∧
         (∀ i < 16, (s.ses i).stopping = true → (s'.ses i).state = 2) ∧
         (s.safety.pinState = 1 → s'.classSRunning = false → s'.safety.pinState = 0 ∧ s'.safety.safeA = false ∧
           s'.safety.safeB = true) ∧
         s'.streams = s.streams ∧ s'.worlds = s.worlds ∧ s'.images = s.images ∧ s'.hbm = s.hbm ∧ s'.part = s.part))

/-- The end of the work phases (R51, R53, R226): HARVEST_DEADLINE leaves no task of phases 4 to 9 without KEEP, in a cluster
or waiting for one, and no candidate; HARVEST_START waits until the work is complete and abandons no task; ENGINE_DRAIN_END
lets a cluster's shortlists into the tree and may gate the cluster, with its drain record (R61); HARVEST_NODE keeps the four
lowest keys of its children and adds their tallies, and the root's list is the stream's device list. Attempts (R227, R228,
R411): an attempt latches an urgent epoch, in Throughput mode the newest, and ends TOUCHED where a change since touches its
entry; AGREE leads to commit, every other verdict to the next entry and to a disagreement of the cluster; at 0.86P of
Throughput mode a running attempt ends INCOMPLETE, no STOP is pending any more, their queries leave the sweep units and their
tasks the schedulers.
Completion: HARVEST_DEADLINE, HARVEST_START, ENGINE_DRAIN_END, HARVEST_NODE, ATTEMPT_START, ATTEMPT_RESULT, REVERIFY_CUTOFF.
-/
def Obligations.HarvestAndAttempts : Prop :=
  (∀ (s : State) (t : Nat), s.clusters.length = 64 →
     (s.frame.phase = .afterCutoff → s.gridRuns = true → s.frame.conf.exact = false →
       s.frame.openTime + 72 * s.frame.conf.period / 100 * ticksPerUs ≤ max s.time.now t →
       ∃ s', exec (.harvestDeadline t) s = .next s' ∧ s'.frame.phase = .afterHarvest ∧
         (∀ p, s.enabled p = true → (s'.cl p).cands = [] ∧
           ∀ e ∈ (s'.cl p).sched.ms ++ (s'.cl p).sched.rl ++ (s'.cl p).sched.dl ++ (s'.cl p).sched.running.map (·.2),
             ¬(4 ≤ e.task.phase ∧ e.task.phase ≤ 9 ∧ e.task.keep = false)) ∧
         (∀ p, s.enabled p = true → ∀ d ∈ (s'.cl p).own, abandons d = false) ∧
         (∀ x ∈ s'.stks, ∀ d ∈ x.dispatcher.map (·.task) ++ x.taskList ++ x.dmaTasks.map (·.1), abandons d = false) ∧
         { s' with time := s.time, clusters := s.clusters, stks := s.stks, frame := s.frame, sessions := s.sessions,
                   sram := s.sram } = s) ∧
     (s.frame.phase = .afterCutoff → s.gridRuns = true → s.frame.conf.exact = true →
       ∃ s', exec (.harvestStart t) s = .next s' ∧
         (s.workComplete = true → s'.frame.phase = .afterHarvest ∧
           (∀ x ∈ s'.clusters, x.drained = true ∧ x.cands = []) ∧
           (∀ p, (s'.cl p).sched = (s.cl p).sched ∧ (s'.cl p).shortlists = (s.cl p).shortlists) ∧
           { s' with time := s.time, clusters := s.clusters, frame := s.frame, stks := s.stks, sram := s.sram } = s) ∧
         (s.workComplete = false → { s' with time := s.time } = s)) ∧
     (∀ p, p < 64 → s.frame.phase = .afterHarvest → s.gridRuns = true → s.enabled p = true →
       ∃ s', exec (.engineDrainEnd p t) s = .next s' ∧ s'.cl p = { s.cl p with
         drained := true, draining := false, gate := (s'.cl p).gate } ∧
         (∀ q, q ≠ p → s'.cl q = s.cl q) ∧
         (s.sram.wf = true → ∀ a, ¬(drainAddr p ≤ a ∧ a < drainAddr p + 16) → Mem.read a s'.sram = Mem.read a s.sram) ∧
         { s' with time := s.time, clusters := s.clusters, stks := s.stks, sram := s.sram } = s) ∧
     (∀ id p x, id < 512 → p < 32 → s.frame.phase = .afterHarvest → s.gridRuns = true → s.stream? id = some x →
       s.works x = true → x.device = none → x.treeNodes = [] → s.enabled (2 * p) = true → s.enabled (2 * p + 1) = true →
       (s.cl (2 * p)).drained = true → (s.cl (2 * p + 1)).drained = true →
       ∃ s', exec (.harvestNode id 1 p t) s = .next s' ∧
         (s'.stream? id).map (·.treeNodes) = some [(1, p,
           lowest4 (lookupD [] id (s.cl (2 * p)).shortlists ++ lookupD [] id (s.cl (2 * p + 1)).shortlists),
           (lookupD {} id (s.cl (2 * p)).tallies).add (lookupD {} id (s.cl (2 * p + 1)).tallies))] ∧
         (s.det.opDigest = false → s'.det = s.det) ∧ { s' with time := s.time, streams := s.streams, det := s.det } = s) ∧
     (∀ id x a b, id < 512 → s.frame.phase = .afterHarvest → s.gridRuns = true → s.stream? id = some x →
       s.works x = true → x.guest = none → x.device = none → (x.treeNodes.any fun n => n.1 == 6 && n.2.1 == 0) = false →
       s.treeChild x 5 0 = some a → s.treeChild x 5 1 = some b →
       ∃ s', exec (.harvestNode id 6 0 t) s = .next s' ∧
         (s'.stream? id).map (fun y => (y.device, y.tally)) = some (some (lowest4 (a.1 ++ b.1)), a.2.add b.2) ∧
         (s.det.opDigest = false → s'.det = s.det) ∧ { s' with time := s.time, streams := s.streams, det := s.det } = s)) ∧
  (∀ (s : State) (t : Nat) (id i e : Nat) (x : Stream), id < 512 → s.frame.phase = .afterHarvest → s.gridRuns = true →
     s.stream? id = some x →
     (s.works x = true → x.committed = false → x.guest = none → x.attempting = none → x.nextAttempt = some i →
       s.latch .reverify id i = some e →
       s.frame.conf.exact = true ∧ s.harvested = true ∨ s.frame.conf.exact = false ∧ s.frame.reverifyClosed = false ∧
         max s.time.now t < s.frame.openTime + 86 * s.frame.conf.period / 100 * ticksPerUs →
       ∃ s', exec (.attemptStart id t) s = .next s' ∧
         (s.frame.conf.exact = false → e = s.worlds.epoch) ∧
         (s.touchedEntry x i e = false → s'.stream? id = some { x with attempting := some (i, e), attemptVerdict := none }) ∧
         (s.touchedEntry x i e = true → s'.stream? id = some { x with
           attempting := none, attemptVerdict := none, attemptCodes := x.attemptCodes ++ [3] }) ∧
         { s' with time := s.time, streams := s.streams } = s) ∧
     (∀ v, x.attempting = some (i, e) → x.attemptVerdict = some v →
       ∃ s', exec (.attemptResult id t) s = .next s' ∧
         (v.verdict = 0 → s'.stream? id = some { x with
             attempting := none, agreed := some i, attemptCodes := x.attemptCodes ++ [0] } ∧
           { s' with time := s.time, streams := s.streams, clusters := s.clusters, stks := s.stks, hub := s.hub } = s) ∧
         (v.verdict ≠ 0 → s'.stream? id = some { x with
             attempting := none, attemptVerdict := none, attemptCodes := x.attemptCodes ++ [1] } ∧
           s'.safety.disagree = satU 32 (s.safety.disagree + 1) ∧ s'.worlds = s.worlds ∧ s'.images = s.images)) ∧
     (s.frame.conf.exact = false → s.frame.reverifyClosed = false →
       s.frame.openTime + 86 * s.frame.conf.period / 100 * ticksPerUs ≤ max s.time.now t →
       ∃ s', exec (.reverifyCutoff t) s = .next s' ∧ s'.frame = { s.frame with reverifyClosed := true } ∧
         s'.streams = s.streams.map (fun y => if y.attempting.isSome then
             { y with attempting := none, attemptVerdict := none, attemptCodes := y.attemptCodes ++ [2], stopPending := false }
           else { y with stopPending := false }) ∧
         s'.clusters.map (fun c => { c with sched := {} }) = s.clusters.map (fun c => { c with
           sched := {}, inFlight := c.inFlight.filter (fun f => f.kind ≠ 3 ∧ f.kind ≠ 5),
           parked := c.parked.filter (fun k => k.kind ≠ 3 ∧ k.kind ≠ 5) }) ∧
         (∀ y ∈ s.streams, ∀ c ∈ s'.clusters, ∀ h ∈ c.sched.tasks, h.task.stream = s.wireId y.id →
           h.task.op ≠ .stop ∧ h.task.op ≠ .reverify) ∧
         (∀ c ∈ s'.clusters, ∀ h ∈ c.sched.tasks, ∃ c0 ∈ s.clusters, h ∈ c0.sched.tasks) ∧
         { s' with time := s.time, frame := s.frame, streams := s.streams, clusters := s.clusters, stks := s.stks } = s))

/-- Task offers (R243, R245, R248, R249, R251, R253, R256): in a dispatch slot of its cluster an offer is taken whole into
the structure it needs when that has an entry of its class for it and its held successors, free since the cycle began, and
is refused and counted otherwise, with nothing written to the structures and the task held by its producer; a task new to an
empty dispatcher input goes first to the cluster of R253 and is taken there, a block with a copy of its context issued behind
it where the cluster holds none (R254), or waits for its next one; outside its slot, in a power-gated cluster and in the guard
no task is taken. Completion: TASK_OFFER of each producer. -/
def Obligations.TaskOffers : Prop :=
  ∀ (s : State) (p cyc : Nat) (d : TaskDesc) (t : Nat) (x : Scheduler) (h : Held), p < 64 → s.clusters.length = 64 →
    s.stks.length = 4 → d.wf = true →
    h = { entry := x.nextEntry, task := if 0 < d.tokens then d else { d with age := x.age % 65536 },
          seat := taskStruct d, extraSeat := taskStruct d } →
    (∀ q, q = .ownCluster ∨ q = .stackDma → x = (s.cl p).sched.inCycle cyc rankToken → (s.at t).offerDue p cyc q = true →
      (s.at t).barred p d = false → s.misplaced p d = false →
      (1 + d.succExtra ≤ x.room (taskStruct d) d.safety → (isBlock d = true → s.areasFit p d.stream = true) →
        ∃ s', exec (.taskOffer p q d ⟨cyc, t⟩) s = .next s' ∧ (s'.cl p).gate = .on ∧
          (s'.cl p).sched = { x.push (taskStruct d) h with
            nextEntry := x.nextEntry + 1, age := if 0 < d.tokens then x.age else x.age + 1 } ∧
          (q = .ownCluster → (s'.cl p).own = (s.cl p).own.erase d) ∧
          (q = .stackDma → (s'.stk (p / 16)).dmaTasks = (s.stk (p / 16)).dmaTasks.erase (d, p)) ∧
          (∀ r, r ≠ p → s'.cl r = s.cl r) ∧
          s'.streams = (if isBlock d then s.streamOn d.stream fun y => { y with blocksAccepted := y.blocksAccepted + 1 }
            else s).streams ∧
          { s' with time := s.time, clusters := s.clusters, stks := s.stks, obs := s.obs, streams := s.streams } = s) ∧
      (x.room (taskStruct d) d.safety < 1 + d.succExtra → s.frame.conf.exact = false →
        ∃ s', exec (.taskOffer p q d ⟨cyc, t⟩) s = .next s' ∧ (s'.cl p).sched = x ∧
          (q = .ownCluster → d ∈ (s'.cl p).own) ∧ (q = .stackDma → (d, p) ∈ (s'.stk (p / 16)).dmaTasks) ∧
          (∀ r, r ≠ p → s'.cl r = s.cl r) ∧
          { s' with time := s.time, clusters := s.clusters, stks := s.stks, obs := s.obs, free := s.free } = s)) ∧
    (x = (s.cl p).sched.inCycle cyc rankDispatcher → (s.at t).offerDue p cyc .dispatcher = true →
      (s.at t).barred p d = false → s.frame.conf.exact = false → (s.stk (p / 16)).dispatcher = [] →
      d ∉ (s.stk (p / 16)).taskList → s.firstChoice (p / 16) d = some p →
      ((1 + d.succExtra ≤ x.room (taskStruct d) d.safety ∧ (isBlock d = true → s.areasFit p d.stream = true) ∧
          (d.safety = true ∨ s.pinnedNow d = true ∨ 0 < x.room 1 false) →
        ∃ s', exec (.taskOffer p .dispatcher d ⟨cyc, t⟩) s = .next s' ∧ (s'.cl p).gate = .on ∧
          (s'.cl p).sched = { x.push (taskStruct d) h with
            nextEntry := x.nextEntry + 1, age := if 0 < d.tokens then x.age else x.age + 1 } ∧
          (∀ y ∈ (s'.stk (p / 16)).dispatcher, isBlock d = true ∧ y.task.op = .contextCopy ∧ y.task.target = some p) ∧
          (∀ r, r ≠ p → s'.cl r = s.cl r) ∧
          { s' with time := s.time, clusters := s.clusters, stks := s.stks, obs := s.obs, streams := s.streams } = s) ∧
        (x.room (taskStruct d) d.safety < 1 + d.succExtra →
          ∃ s', exec (.taskOffer p .dispatcher d ⟨cyc, t⟩) s = .next s' ∧ (s'.cl p).sched = x ∧
            (s'.stk (p / 16)).dispatcher.map (·.task) = [d] ∧ (∀ r, r ≠ p → s'.cl r = s.cl r) ∧
            { s' with time := s.time, clusters := s.clusters, stks := s.stks, obs := s.obs, free := s.free } = s))) ∧
    ((s.cl p).gate = .powerGated ∨ s.frame.phase = .guarded ∨ s.frame.phase = .closed ∨ cyc % 16 ≠ p % 16 ∨
        s.enabled p = false →
      ∀ q, ∃ s', exec (.taskOffer p q d ⟨cyc, t⟩) s = .next s' ∧ { s' with time := s.time } = s)

/-- Tokens, units and delays (R246, R248 to R250, R263, R268, R271, R282): while the DMA may carry it out, an operand's bytes
reach the scratchpad and then its token brings its task nearer; the last one moves it to the ready list, into an entry of its class free since the cycle
began, or into the delay list while it has a release tick (log entry 115), or stays with the stack DMA; a token for no task
is counted, a bad flit and a disabled cluster are faults; a free unit takes the oldest task of the earliest phase that names
it, a corrected read of its entry too; a delayed task is ready from its release tick on, with its AGE. Completion:
TOKEN_DELIVERY, UNIT_TAKE, DELAY_RELEASE. -/
def Obligations.TokensUnitsDelays : Prop :=
  ∀ (s : State) (p e unit cyc waits : Nat) (h : Held) (dma : DmaDesc) (t : Nat) (x : Scheduler), p < 64 →
    s.clusters.length = 64 → s.stks.length = 4 → dma.wf = true →
    (s.enabled p = true → x = (s.cl p).sched.inCycle cyc rankToken → cyc % 16 = p % 16 → s.cycleDue p cyc rankToken = true →
      (s.at t).removalDue = false → (p, e) ∉ (s.stk (p / 16)).dmaTokensHeld → (s.at t).dmaOpen p dma = true →
      s.badAddress (.stackDma (p / 16)) false dma.src dma.len = none →
      s.badAddress (.stackDma (p / 16)) true (scratchAddr p dma.off) dma.len = none →
      ∃ s', exec (.tokenDelivery p e ⟨dma, waits, true, .none⟩ ⟨cyc, t⟩) s = .next s' ∧
        s'.sram = Mem.writeBytes (scratchAddr p dma.off) (s.internalBytes dma.src dma.len) s.sram ∧
        (s'.stk (p / 16)).dmaTokens = (s.stk (p / 16)).dmaTokens ∧
        (x.ms.find? (fun y => y.entry == e) = some h → 1 < h.task.tokens → (s'.cl p).sched = { x with
          ms := x.ms.map fun y => if y.entry = e then { y with task := { y.task with tokens := y.task.tokens - 1 } } else y }) ∧
        (x.ms.find? (fun y => y.entry == e) = some h → h.task.tokens = 1 → h.task.release = 0 →
          h.seat = 1 ∨ 0 < x.room 1 h.task.safety →
          (s'.cl p).sched.ms = x.ms.filter (fun y => y.entry != e) ∧
          (s'.cl p).sched.rl = x.rl ++ [{ h with task := { h.task with tokens := 0, age := x.age % 65536 }, seat := 1 }]) ∧
        (x.ms.find? (fun y => y.entry == e) = some h → h.task.tokens = 1 → h.task.release = 0 → h.seat ≠ 1 →
          x.room 1 h.task.safety = 0 → s.frame.conf.exact = false →
          (s'.cl p).sched = x ∧ (p, e) ∈ (s'.stk (p / 16)).dmaTokensHeld) ∧
        (x.ms.find? (fun y => y.entry == e) = none → (s'.cl p).sched = x) ∧
        (s.frame.conf.exact = false → { s' with
          time := s.time, clusters := s.clusters, stks := s.stks, hub := s.hub, obs := s.obs, sram := s.sram,
          free := s.free } = s)) ∧
    (s.enabled p = true → s.safety.latch.length < 32 → ∀ read,
      ∃ s', exec (.tokenDelivery p e ⟨dma, waits, false, read⟩ ⟨cyc, t⟩) s = .next s' ∧
      s'.faultLatched 0x0102 (max s.time.now t) ∧ s.onlyFault s') ∧
    (s.enabled p = false → s.safety.latch.length < 32 → ∀ ok read,
      ∃ s', exec (.tokenDelivery p e ⟨dma, waits, ok, read⟩ ⟨cyc, t⟩) s = .next s' ∧
      s'.faultLatched 0x0103 (max s.time.now t) ∧ s.onlyFault s') ∧
    (unit < 6 → s.enabled p = true → (s.cl p).gate ≠ .powerGated → s.frame.phase ≠ .guarded → (s.cl p).halted = false →
      (s.cl p).sched.firstFor unit = some h → (s.at t).barred p h.task = false →
      (∀ y ∈ (s.cl p).sched.running, y.1 ≠ unit) →
      (∃ s', exec (.unitTake p unit .none t) s = .next s' ∧
        (s'.cl p).sched.running = (s.cl p).sched.running ++ [(unit, h)] ∧
        (s'.cl p).sched.rl = (s.cl p).sched.rl.filter (fun y => y.entry != h.entry) ∧
        { s' with time := s.time, clusters := s.clusters, stks := s.stks, hub := s.hub, obs := s.obs } = s) ∧
      (∃ s', exec (.unitTake p unit .corrected t) s = .next s' ∧
        (s'.cl p).sched.running = (s.cl p).sched.running ++ [(unit, h)] ∧
        (s'.cl p).sched.rl = (s.cl p).sched.rl.filter (fun y => y.entry != h.entry) ∧ s'.safety = s.safety ∧
        s'.worlds = s.worlds ∧ s'.streams = s.streams ∧ s'.hbm = s.hbm ∧ s'.sram = s.sram) ∧
      (s.safety.latch.length < 32 → ∃ s', exec (.unitTake p unit .uncorrectable t) s = .next s' ∧
        s'.faultLatched 0x0100 (max s.time.now t) ∧ s.onlyFault s')) ∧
    (x = (s.cl p).sched.inCycle cyc rankRelease → s.cycleDue p cyc rankRelease = true →
      x.dl.find? (fun y => y.entry == e) = some h → x.firstDelayed h.task.safety = some h →
      (s.frame.openTime + h.task.release * ticksPerUs ≤ max s.time.now t →
        h.seat = 1 ∨ 0 < x.room 1 h.task.safety →
        ∃ s', exec (.delayRelease p e ⟨cyc, t⟩) s = .next s' ∧
          (s'.cl p).sched.dl = x.dl.filter (fun y => y.entry != e) ∧
          (s'.cl p).sched.rl = x.rl ++ [{ h with task := { h.task with release := 0 }, seat := 1 }] ∧
          (s'.cl p).gate = .on ∧
          { s' with time := s.time, clusters := s.clusters, stks := s.stks, hub := s.hub, obs := s.obs } = s) ∧
      (max s.time.now t < s.frame.openTime + h.task.release * ticksPerUs →
        ∃ s', exec (.delayRelease p e ⟨cyc, t⟩) s = .next s' ∧ (s'.cl p).sched = x ∧
          { s' with time := s.time, clusters := s.clusters } = s))

/-- Completion and waking (R61, R62, R247, R260, R274): a completed task leaves its unit, its first successors take its
entry and those it held (log entry 116), and further ones wait with the cluster; a book out of balance is SCHED_BOOK; a
power-gated cluster wakes with empty structures 2 us before its next need, in Exact mode at the instant of the static schedule
(log entry 11), a stopped PLL restarts 10 us before; a NoC credit
that stays out is SCHED_BOOK of its stack and stays outstanding at its endpoint. Completion: TASK_COMPLETION, CLUSTER_WAKE,
PLL_RESTART, NOC_CREDIT_TIMEOUT. -/
def Obligations.CompletionAndWaking : Prop :=
  ∀ (s : State) (p k unit e cyc : Nat) (h : Held) (ns : List TaskDesc) (t : Nat), p < 64 → k < 4 → unit < 6 →
    s.clusters.length = 64 → s.stks.length = 4 → (∀ n ∈ ns, n.wf = true) →
    ((s.cl p).sched.running.find? (fun x => x.1 == unit) = some (unit, h) → s.cycleDue p cyc unit = true →
      (s.at t).removalDue = false →
      (ns ≠ [] → (∀ n ∈ ns, n.tokens = 0 ∧ n.release = 0 ∧ n.succExtra = 0) →
        ∃ s', exec (.taskCompletion p unit ns true ⟨cyc, t⟩) s = .next s' ∧
          (s'.cl p).sched.running = (s.cl p).sched.running.filter (fun x => x.1 != unit) ∧
          (s'.cl p).sched.rl.map (·.task) = (s.cl p).sched.rl.map (·.task) ++
            (ns.take (1 + h.task.succExtra)).mapIdx (fun i n => { n with age := ((s.cl p).sched.age + i) % 65536 }) ∧
          (s'.cl p).own = (s.cl p).own ++ ns.drop (1 + h.task.succExtra) ∧ (s'.cl p).gate = .on ∧
          ((∀ n ∈ ns, isBlock n = false) → s'.streams = s.streams) ∧
          { s' with time := s.time, clusters := s.clusters, stks := s.stks, obs := s.obs, streams := s.streams } = s) ∧
      (∃ s', exec (.taskCompletion p unit [] true ⟨cyc, t⟩) s = .next s' ∧
        (s'.cl p).sched.running = (s.cl p).sched.running.filter (fun x => x.1 != unit) ∧
        (s'.cl p).sched.ms = (s.cl p).sched.ms ∧ (s'.cl p).sched.rl = (s.cl p).sched.rl ∧
        (s'.cl p).sched.dl = (s.cl p).sched.dl ∧
        { s' with time := s.time, clusters := s.clusters, stks := s.stks, sram := s.sram } = s) ∧
      (s.safety.latch.length < 32 →
        ∃ s', exec (.taskCompletion p unit [] false ⟨cyc, t⟩) s = .next s' ∧
          (s'.cl p).sched.running = (s.cl p).sched.running.filter (fun x => x.1 != unit) ∧
          s'.faultLatched 0x0007 (max s.time.now t) ∧ s.onlyFault { s' with sram := s.sram })) ∧
    ((s.cl p).sched.running.find? (fun x => x.1 == unit) = none →
      ∀ ok, ∃ s', exec (.taskCompletion p unit ns ok ⟨cyc, t⟩) s = .next s' ∧ { s' with time := s.time } = s) ∧
    (s.enabled p = true → (s.cl p).gate = .powerGated → (s.stk (p / 16)).pllStopped = false →
      (if s.frame.conf.exact then (s.at t).gatingGap p = none
        else (s.at t).nextNeed p ≤ max s.time.now t + 2 * ticksPerUs) →
      ∃ s', exec (.clusterWake p t) s = .next s' ∧ (s'.cl p).gate = .waking ∧ (s'.cl p).sched.ms = [] ∧
        (s'.cl p).sched.rl = [] ∧ (s'.cl p).sched.dl = [] ∧ (s'.cl p).sched.running = [] ∧
        (∀ q, q ≠ p → s'.cl q = s.cl q) ∧ { s' with time := s.time, clusters := s.clusters } = s) ∧
    ((s.cl p).gate ≠ .powerGated ∨ (s.stk (p / 16)).pllStopped = true →
      ∃ s', exec (.clusterWake p t) s = .next s' ∧ { s' with time := s.time } = s) ∧
    ((s.stk k).pllStopped = true → (s.stk k).hubOnly = false →
      (∃ q ∈ s.enabledIn k, (s.at t).nextNeed q ≤ max s.time.now t + 10 * ticksPerUs) →
      ∃ s', exec (.pllRestart k t) s = .next s' ∧ s'.stk k = { s.stk k with pllStopped := false } ∧
        (∀ j, j ≠ k → s'.stk j = s.stk j) ∧ { s' with time := s.time, stks := s.stks } = s) ∧
    (s.safety.latch.length < 32 → e < 19 → ∃ s', exec (.nocCreditTimeout k e t) s = .next s' ∧
      s'.faultLatched 0x0007 (max s.time.now t) ∧ s.onlyFault s' ∧
      (e < 16 → (s'.cl (16 * k + e)).creditsOut = min (nocDepth e) ((s.cl (16 * k + e)).creditsOut + 1)) ∧
      (e = 16 → (s'.stk k).storeCredits = min (nocDepth e) ((s.stk k).storeCredits + 1)) ∧
      (e = 17 → (s'.stk k).hubCredits = min (nocDepth e) ((s.stk k).hubCredits + 1)) ∧
      (e = 18 → (s'.stk k).hubSideCredits = min (nocDepth e) ((s.stk k).hubSideCredits + 1)))

/-- Proposal (R139, R147 to R154, R155, R245): CONTEXT runs on the stream's home stack, where a unit has its task or, while
weight streaming is in force, a block of the stream waits for it, and its output is kept; a running block's task proposes 64 candidates with consecutive numbers, each through
the stream's start and goal (R148), and block 0 brings the carried plan and the farmed entries to its cluster; a repair
block keeps the carried plan's control points outside its window (R154). Costs and the cut (R220, R222): a stage-0 cost
stands on its candidate, a stage-1 cost brings it into its query's shortlist; the cut keeps the lowest PRERANK_K of the
stream's stage-0 costs, ready for smoothing, and releases its other candidates, and no candidate of another stream.
Completion: CONTEXT_RUN, HEAD_BLOCK, LOCAL_BLOCK, COST_PROGRAM, TOPK_CUT. -/
def Obligations.ProposalAndCost : Prop :=
  (∀ (s : State) (id p : Nat) (x : Stream) (t : Nat), p < 64 → id < 512 → s.clusters.length = 64 →
     s.stream? id = some x →
     (∀ e, s.working = true → (s.at t).takesWork p = true → p / 16 = (s.binding x).wid % 4 → s.works x = true →
       s.contextTask p x = some e →
       ∃ s' y, exec (.contextRun id p t) s = .next s' ∧ s'.stream? id = some y ∧
         y = { x with contextOut := some (s.runContext (s.binding x) x).1 } ∧
         lookupD [] id (s'.cl p).contexts = (s.runContext (s.binding x) x).1 ∧ (s'.cl p).made = (s.cl p).made ++ e.toList ∧
         (∀ q, q ≠ p → s'.cl q = s.cl q) ∧ ((s.binding x).net.resident = true → s'.sram = s.sram) ∧
         { s' with time := s.time, clusters := s.clusters, stks := s.stks, hub := s.hub, streams := s.streams, det := s.det,
                   sram := s.sram } = s) ∧
     (s.works x = false ∨ s.working = false ∨ s.contextTask p x = none →
       ∃ s', exec (.contextRun id p t) s = .next s' ∧ { s' with time := s.time } = s) ∧
     (∀ i base e, s.nextBlock p x false x.blocksDone (lookupD 0 id (s.cl p).blocks) = some i →
       (s.cl p).toMake (if i = 0 then .firstBlock else .block) (s.wireId id) = some e →
       base = s.localBase p id false i → (s.at t).blockDue p (s.binding x) x base = true → i < x.blocks →
       ∃ s' cs more, exec (.headBlock id p t) s = .next s' ∧ (s'.cl p).cands = (s.cl p).cands ++ cs ++ more ∧
         cs.length = 64 ∧ (i ≠ 0 → more = []) ∧ (∀ c ∈ more, c.stream = id ∧ 2 ≤ c.origin) ∧
         (∀ j < 64, ∃ c, cs[j]? = some c ∧ c.g = p * 4096 + base + j ∧ c.stream = id ∧ c.origin = 0 ∧
           c.check = none ∧ c.cp.length = (s.binding x).dof ∧
           (∀ k < (s.binding x).dof, at0 (c.cp.getD k []) 1 = at0 x.q.qStart k ∧
             at0 (c.cp.getD k []) 0 + at0 (c.cp.getD k []) 2 = 2 * at0 x.q.qStart k)) ∧
         (s'.cl p).nextLocal = (s.cl p).nextLocal + 64 ∧
         (s'.cl p).made = (s.cl p).made ++ [e] ∧
         (∀ y, s'.stream? id = some y → y.blocksDone = x.blocksDone + 1 ∧ y.blocksAccepted = x.blocksAccepted ∧
           (i = 0 → y.block0 = some p)) ∧
         s'.hbm = s.hbm ∧ s'.safety = s.safety ∧ s'.frame = s.frame) ∧
     (∀ plan w i base e, x.carried = some plan → x.repairWindow = some w →
       s.nextBlock p x true x.repairDone (lookupD 0 id (s.cl p).repairsAccepted) = some i →
       (s.cl p).toMake .repairBlock (s.wireId id) = some e →
       base = s.localBase p id true i → (s.at t).blockDue p (s.binding x) x base = true →
       i < (s.binding x).set.repairBlocks →
       ∃ s' cs, exec (.localBlock id p t) s = .next s' ∧ (s'.cl p).cands = (s.cl p).cands ++ cs ∧ cs.length = 64 ∧
         (∀ c ∈ cs, c.stream = id ∧ c.origin = 1 ∧ c.winA = w.1 ∧ c.winB = w.2 ∧
           (∀ d < (s.binding x).dof, ∀ k < (s.binding x).n, k < w.1 ∨ w.2 < k →
             at0 (c.cp.getD d []) k = cpAt plan.cp d k)) ∧
         (s'.cl p).made = (s.cl p).made ++ [e] ∧ (∀ y, s'.stream? id = some y → y.repairDone = x.repairDone + 1) ∧
         s'.hbm = s.hbm ∧ s'.safety = s.safety ∧ s'.frame = s.frame)) ∧
  (∀ (s : State) (id p g : Nat) (x : Stream) (t : Nat), p < 64 → id < 512 → s.clusters.length = 64 →
     s.stream? id = some x → s.working = true → (s.at t).takesWork p = true →
     (∀ c, (s.cl p).cand? id g (fun k => k.wantsCost 0) = some c →
       ∃ s', exec (.costProgram p id g 0 t) s = .next s' ∧
         (∃ c' ∈ (s'.cl p).cands, c'.stream = id ∧ c'.g = g ∧ c'.cp = c.cp ∧
           c'.cost0 = some ((s.binding x).costOf x c 0).1) ∧
         (s'.cl p).cands.length = (s.cl p).cands.length ∧
         { s' with time := s.time, clusters := s.clusters, det := s.det } = s) ∧
     (∀ c, (s.cl p).cand? id g (fun k => k.wantsCost 1) = some c →
       ∃ s', exec (.costProgram p id g 1 t) s = .next s' ∧
         (∃ c' ∈ (s'.cl p).cands, c'.stream = id ∧ c'.g = g ∧ c'.cp = c.cp ∧
           c'.cost1 = some ((s.binding x).costOf x c 1).1) ∧
         lookupD [] id (s'.cl p).shortlists = lowest4 (lookupD [] id (s.cl p).shortlists ++
           [Cand.entry { c with cost1 := some ((s.binding x).costOf x c 1).1 } p]) ∧
         { s' with time := s.time, clusters := s.clusters, det := s.det } = s) ∧
     (s.allAccepted x = true → (s.cl p).cutReady id (s.binding x).wid = true → id ∉ (s.cl p).cutDone →
       (∃ k ∈ (s.cl p).cands, k.stream = id ∧ k.origin < 2) →
       ∃ s', exec (.topkCut p id t) s = .next s' ∧ id ∈ (s'.cl p).cutDone ∧
         (∀ k, k.stream ≠ id → (k ∈ (s'.cl p).cands ↔ k ∈ (s.cl p).cands)) ∧
         (∀ k ∈ (s'.cl p).cands, k.stream = id → k.origin < 2 → k.selected = true ∧ k.cost0.isSome = true) ∧
         ((s'.cl p).cands.filter fun k => k.stream == id && decide (k.origin < 2)).length =
           min (s.binding x).set.prerankK
             ((s.cl p).cands.filter fun k => k.stream == id && decide (k.origin < 2) && k.cost0.isSome).length ∧
         (∀ k ∈ (s'.cl p).cands, k.stream = id → k.origin < 2 → ∀ r ∈ (s.cl p).cands, r.stream = id → r.origin < 2 →
           r.cost0.isSome = true → (∀ k' ∈ (s'.cl p).cands, k'.stream = id → k'.g = r.g → k'.origin ≠ r.origin) →
           k.cost0.getD 0 ≤ r.cost0.getD 0) ∧
         { s' with time := s.time, clusters := s.clusters, det := s.det } = s))

/-- CHECK, RECHECK and PROBE (R160, R161, R177, R182, R183, R200, R209, R224): a waiting candidate of a working frame whose
operation finds all its cells and pans takes its verdict record, with the stream, number, kind and epoch of the operation,
and otherwise stays in flight with its queries parked (log entry 49); a candidate whose first three segments leave their
joint limits is LIMIT_DROP without a step; only a CLEAR verdict gives clearances to a candidate, or a time-map slot with its
map in HBM. REPAIR, STOP and REVERIFY (R184 to R186, R236, R239, R240): a dirty run of the carried plan that is CLEAR leaves
the list, a hit ends it with its verdict; a pending stop is judged CLEAR or HIT, or touched again; the attempted entry takes
its re-verify verdict. Completion: CHECK, RECHECK, PROBE, REPAIR, STOP, REVERIFY. -/
def Obligations.VerdictsAndStreamOperations : Prop :=
  (∀ (s : State) (id p g e : Nat) (x : Stream) (c : Cand) (t : Nat), p < 64 → id < 512 → s.clusters.length = 64 →
     s.stream? id = some x → s.working = true → (s.at t).sweeps p = true →
     ((s.cl p).cand? id g Cand.wantsCheck = some c → s.latch .check id g = some e → (s.cl p).flying 0 id g = false →
       ((∀ n ∈ ((s.at t).checkRun x c e).needs, (s.cl p).ready n = true) →
         ∃ s' c' v, exec (.check p id g t) s = .next s' ∧ c' ∈ (s'.cl p).cands ∧ c'.stream = id ∧ c'.g = g ∧ c'.cp = c.cp ∧
           c'.check = some v ∧ v.g = g ∧ v.stream = (s.binding x).wid ∧ v.kind = 0 ∧ v.epoch = e ∧
           (v.verdict ≠ 0 → c'.segClear = []) ∧
           (∀ j, (s.binding x).limitJoint c.cp = some j → v.verdict = 11 ∧ v.hitObj = j ∧ v.steps = 0) ∧
           (s'.cl p).cands.length = (s.cl p).cands.length ∧ (∀ q, q ≠ p → (s'.cl q).cands = (s.cl q).cands) ∧
           s'.streams = s.streams ∧ s'.hbm = s.hbm ∧ s'.safety = s.safety ∧ s'.frame = s.frame) ∧
       ((∃ n ∈ ((s.at t).checkRun x c e).needs, (s.cl p).ready n = false) →
         ∃ s', exec (.check p id g t) s = .next s' ∧ s.staysInFlight s' p ⟨0, id, g, e⟩)) ∧
     ((s.cl p).cand? id g Cand.wantsRecheck = some c → s.latch .recheck id g = some e → (s.cl p).flying 1 id g = false →
       (c.origin = 2 → (s.cl p).runs .carriedRecheck (s.wireId id) = true) →
       ((∀ n ∈ ((s.at t).recheckRun x c e).needs, (s.cl p).ready n = true) →
         ∃ s' c' v, exec (.recheck p id g t) s = .next s' ∧ c' ∈ (s'.cl p).cands ∧ c'.stream = id ∧ c'.g = g ∧
           c'.cp = c.cp ∧ c'.recheck = some v ∧ v.g = g ∧ v.kind = 1 ∧ v.epoch = e ∧
           (v.verdict = 0 → c'.smooth.mapSlot = (s.cl p).freeMapSlot ∧
             (s'.cl p).mapSlots = (s.cl p).mapSlots ++ [(s.cl p).freeMapSlot] ∧
             ((s.cl p).freeMapSlot < 320 →
               s'.hbm = Mem.writeBytes (timeMapAddr p (s.cl p).freeMapSlot) (tmBytes c.tm) s.hbm)) ∧
           (v.verdict ≠ 0 → (s'.cl p).mapSlots = (s.cl p).mapSlots ∧ s'.hbm = s.hbm) ∧
           (c.origin < 2 → ∀ j, (s.binding x).limitJoint c.cp = some j → v.verdict = 11 ∧ v.hitObj = j) ∧
           s'.streams = s.streams ∧ s'.safety = s.safety ∧ s'.frame = s.frame) ∧
       ((∃ n ∈ ((s.at t).recheckRun x c e).needs, (s.cl p).ready n = false) →
         ∃ s', exec (.recheck p id g t) s = .next s' ∧ s.staysInFlight s' p ⟨1, id, g, e⟩)) ∧
     ((s.cl p).cand? id g Cand.wantsProbe = some c → s.latch .timeScale id g = some e → (s.cl p).flying 4 id g = false →
       ((∀ n ∈ ((s.at t).probeRun x c e).2.needs, (s.cl p).ready n = true) →
         ∃ s' c' r v, exec (.probe p id g t) s = .next s' ∧ c' ∈ (s'.cl p).cands ∧ c'.stream = id ∧ c'.g = g ∧ c'.cp = c.cp ∧
           c'.probe = some (r, e) ∧ r.length = 33 ∧ (s'.cl p).verdicts = (s.cl p).verdicts ++ [v] ∧ v.kind = 4 ∧ v.g = g ∧
           s'.streams = s.streams ∧ s'.hbm = s.hbm ∧ s'.safety = s.safety ∧ s'.frame = s.frame) ∧
       ((∃ n ∈ ((s.at t).probeRun x c e).2.needs, (s.cl p).ready n = false) →
         ∃ s', exec (.probe p id g t) s = .next s' ∧ s.staysInFlight s' p ⟨4, id, g, e⟩)) ∧
     ((s.cl p).cand? id g Cand.wantsCheck = none →
       ∃ s', exec (.check p id g t) s = .next s' ∧ { s' with time := s.time } = s)) ∧
  (∀ (s : State) (id p e : Nat) (x : Stream) (t : Nat), id < 512 → p < 64 → s.clusters.length = 64 → s.stream? id = some x →
     (∀ plan run rest, x.block0 = some p → x.carried = some plan → x.repairRuns = run :: rest → s.working = true →
       s.works x = true → (s.at t).sweeps p = true → s.latch .repair id x.repairRuns.length = some e →
       (s.cl p).flying 2 id plan.g = false → (s.cl p).runs .repair (s.wireId id) = true →
       ((∀ n ∈ ((s.at t).repairRun x plan run e).needs, (s.cl p).ready n = true) →
         ∃ s' y v, exec (.repair id t) s = .next s' ∧ s'.stream? id = some y ∧ v.kind = 2 ∧ v.g = plan.g ∧ v.epoch = e ∧
           (v.verdict = 0 → y = { x with repairRuns := rest }) ∧
           (v.verdict ≠ 0 → y.repairRuns = [] ∧ y.repairVerdict = some v ∧ y.repairFrozen = y.repairWindow.isNone) ∧
           s'.hbm = s.hbm ∧ s'.safety = s.safety ∧ s'.frame = s.frame) ∧
       ((∃ n ∈ ((s.at t).repairRun x plan run e).needs, (s.cl p).ready n = false) →
         ∃ s', exec (.repair id t) s = .next s' ∧ s.staysInFlight s' p ⟨2, id, plan.g, e⟩)) ∧
     (x.block0 = some p → x.stopPending = true → s.works x = true → (s.cl p).runs .stop (s.wireId id) = true → (s.at t).sweeps p = true → s.gridRuns = true →
       s.frame.reverifyClosed = false → s.frame.phase = .afterCutoff ∨ s.frame.phase = .afterHarvest →
       s.latch .stop id 0 = some e → (s.cl p).flying 3 id 0 = false →
       ((∀ n ∈ ((s.at t).stopRun x (max e x.stopEpoch)).needs, (s.cl p).ready n = true) →
         ∃ s' y, exec (.stop id t) s = .next s' ∧ s'.stream? id = some y ∧ y.stop.epoch = max e x.stopEpoch ∧
           (s.touchedSince (s.binding x) ((s.binding x).stopSpline x) x.stopTime.1 x.stopTime.2 (max e x.stopEpoch) = none →
             y.stopPending = false ∧ y.stop.status = (if y.stop.verdict = 0 then 0 else 1)) ∧
           (∀ n, s.touchedSince (s.binding x) ((s.binding x).stopSpline x) x.stopTime.1 x.stopTime.2 (max e x.stopEpoch) =
             some n → y.stopPending = true ∧ y.stop.status = 4 ∧ y.stopEpoch = n) ∧
           s'.hbm = s.hbm ∧ s'.safety = s.safety ∧ s'.frame = s.frame) ∧
       ((∃ n ∈ ((s.at t).stopRun x (max e x.stopEpoch)).needs, (s.cl p).ready n = false) →
         ∃ s', exec (.stop id t) s = .next s' ∧ s.staysInFlight s' p ⟨3, id, 0, max e x.stopEpoch⟩)) ∧
     (x.stopPending = false ∨ s.frame.reverifyClosed = true →
       ∃ s', exec (.stop id t) s = .next s' ∧ { s' with time := s.time } = s) ∧
     (∀ i epoch en, x.attempting = some (i, epoch) → s.reverifyCluster id = some p → (x.device.getD [])[i]? = some en →
       s.gridRuns = true → s.frame.phase = .afterHarvest → x.attemptVerdict = none → (s.at t).sweeps p = true →
       (s.cl p).flying 5 id en.g = false →
       ((∀ n ∈ ((s.at t).reverifyRun x en epoch).needs, (s.cl p).ready n = true) →
         ∃ s' y v, exec (.reverify id t) s = .next s' ∧ s'.stream? id = some y ∧ y = { x with attemptVerdict := some v } ∧
           v.kind = 5 ∧ v.g = en.g ∧ v.epoch = epoch ∧
           s'.hbm = s.hbm ∧ s'.safety = s.safety ∧ s'.frame = s.frame) ∧
       ((∃ n ∈ ((s.at t).reverifyRun x en epoch).needs, (s.cl p).ready n = false) →
         ∃ s', exec (.reverify id t) s = .next s' ∧ s.staysInFlight s' p ⟨5, id, en.g, epoch⟩)))

/-- Smoothing (R23, R196 to R202, R212): a factorisation, on the core the firmware chose, stores the factors of its block
with what they raise, and an iteration advances each candidate of its group by one turn of the solver; where a block is
factored already, a factor is missing or the group is no group, nothing happens. A turn that is not the last keeps the
candidate's control points; the last one ends the solve, with the control points trimmed unless an overflow or a failed
curvature stands against it. Time scaling (R205 to R209): the final operation of a candidate either gives it its time map,
whose last node's time is its duration and within the horizon, and leaves the map in the group buffer, or drops it with a
nonzero TS_STATUS; a Cartesian query first gets its provisional map. Completion: FACTORISATION, SOLVER_ITERATION,
TIME_SCALING_OP. -/
def Obligations.SmoothingAndTimeScaling : Prop :=
  (∀ (s : State) (id p g block core : Nat) (x : Stream) (c : Cand) (d : Nat × Nat) (f : Factor) (t : Nat), p < 64 → id < 512 →
     core < 2 → s.clusters.length = 64 → s.stream? id = some x → s.working = true → (s.at t).takesWork p = true →
     (s.cl p).cand? id g Cand.smoothing = some c → d = ((s.binding x).diagBlocks c).getD block (0, 0) →
     f = factorise c.solver.h d.1 d.2 (s.binding x).set.pivotExp →
     (block < c.solver.factors.length → c.solver.factors.getD block none = none →
       ∃ s', exec (.factorisation ⟨p, core⟩ id g block t) s = .next s' ∧
         (s'.cl p).cand? id g Cand.smoothing = some { c with
           solver := { c.solver with
             factors := c.solver.factors.set block (some (f.l, f.inv)), overflow := c.solver.overflow || f.sat },
           smooth := { c.smooth with flags := c.smooth.flags ||| f.flags } } ∧
         (s'.cl p).arithFlags = (s.cl p).arithFlags ||| (if f.sat then coreSat else 0) ∧
         (s'.cl p).cands.length = (s.cl p).cands.length ∧
         (∀ k ∈ (s.cl p).cands, k.stream ≠ id ∨ k.g ≠ g → k ∈ (s'.cl p).cands) ∧
         { s' with time := s.time, clusters := s.clusters, det := s.det } = s) ∧
     ((c.solver.factors.getD block (some ([], []))).isSome = true →
       ∃ s', exec (.factorisation ⟨p, core⟩ id g block t) s = .next s' ∧ { s' with time := s.time } = s)) ∧
  (∀ (s : State) (id p turn : Nat) (gs : List Nat) (cs : List Cand) (x : Stream) (t : Nat), p < 64 → id < 512 →
     s.clusters.length = 64 → s.stream? id = some x → s.working = true → (s.at t).takesWork p = true →
     gs.map (fun g => (s.cl p).cand? id g Cand.smoothing) = cs.map some →
     (gs ≠ [] → gs.Nodup → gs.length ≤ 8 → gs.length * (s.binding x).iterCost + 40 ≤ 2800 →
       (∀ c ∈ cs, c.turn = turn ∧ ∀ f ∈ c.solver.factors, f.isSome = true) →
       ∃ s', exec (.solverIteration p id gs t) s = .next s' ∧ (∀ c ∈ cs, ((s.binding x).turnOf c).1 ∈ (s'.cl p).cands) ∧
         (s'.cl p).arithFlags = cs.foldl (fun a c => a ||| ((s.binding x).turnOf c).2) (s.cl p).arithFlags ∧
         (s'.cl p).cands.length = (s.cl p).cands.length ∧
         (∀ k ∈ (s.cl p).cands, k.stream ≠ id ∨ k.g ∉ gs → k ∈ (s'.cl p).cands) ∧
         { s' with time := s.time, clusters := s.clusters, det := s.det } = s) ∧
     (gs = [] ∨ ¬gs.Nodup ∨ 8 < gs.length ∨ 2800 < gs.length * (s.binding x).iterCost + 40 ∨
         (∃ c ∈ cs, ∃ f ∈ c.solver.factors, f = none) ∨ (∃ c ∈ cs, ∃ k ∈ cs, c.turn ≠ k.turn) →
       ∃ s', exec (.solverIteration p id gs t) s = .next s' ∧ { s' with time := s.time } = s)) ∧
  (∀ (b : Binding) (c c' : Cand) (x : Solver), c' = (b.turnOf c).1 →
     x = ((if c.solver.started then c.solver else (c.solver.start (b.diagBlocks c)).1).iterate (b.diagBlocks c)).1 →
     c'.stream = c.stream ∧ c'.g = c.g ∧ c'.origin = c.origin ∧
     (c.smooth.iters + 1 < b.set.smoothIters → c' = { c with
       solver := x, smooth := { c.smooth with iters := c.smooth.iters + 1 } }) ∧
     (b.set.smoothIters ≤ c.smooth.iters + 1 → c'.smoothed = true ∧ c'.solver = {} ∧
       (x.overflow = true ∨ x.done = 2 → c'.cp = c.cp) ∧
       (x.overflow = false → x.done ≠ 2 → c'.cp = (b.trim { c with solver := x }).map (·.map (·.1))))) ∧
  (∀ (s : State) (id p g : Nat) (x : Stream) (c : Cand) (r : TsOut) (t : Nat), p < 64 → id < 512 → s.clusters.length = 64 →
     s.stream? id = some x → s.working = true → (s.at t).takesWork p = true →
     (s.cl p).cand? id g (fun k => k.wantsTime (s.binding x).cartesian) = some c →
     r = TsIn.run ((s.binding x).tsIn x c (if (s.binding x).cartesian = true ∧ c.tmProv = none then none
       else c.probe.map fun q => (s.binding x).vtOf q.1)) x.q.horizon (if c.origin = 1 then x.elapsed else 0) →
     ∃ s', exec (.timeScalingOp p id g t) s = .next s' ∧ (s'.cl p).cands.length = (s.cl p).cands.length ∧
       (s'.cl p).arithFlags = (s.cl p).arithFlags ||| r.flags ∧
       (∀ k ∈ (s.cl p).cands, k.stream ≠ id ∨ k.g ≠ g → k ∈ (s'.cl p).cands) ∧
       ((s.binding x).cartesian = true → c.tmProv = none → r.status ∉ [1, 2] → { c with tmProv := some r.tm } ∈ (s'.cl p).cands) ∧
       (r.status ≠ 0 → (s.binding x).cartesian = false ∨ c.tmProv.isSome = true ∨ r.status ∈ [1, 2] →
         { c with dropped := true, smooth := { c.smooth with tsStatus := r.status, tsRetries := r.retries } } ∈
           (s'.cl p).cands) ∧
       (r.status = 0 → (s.binding x).cartesian = false ∨ c.tmProv.isSome = true →
         { c with
           tsDone := true, tm := r.tm,
           smooth := { c.smooth with
             tsStatus := 0, tsRetries := r.retries, duration := (tmAt r.tm 255).tHi, jerkInt := r.jerk,
             probeEpoch := (c.probe.map fun q => epochByte q.2).getD 255 } } ∈ (s'.cl p).cands ∧
         ((tmAt r.tm 255).tHi : Int) ≤ x.q.horizon + (if c.origin = 1 then x.elapsed else 0) ∧
         s'.sram = Mem.writeBytes (scratchAddr p (timeMapBuffer + (s.cl p).mapsMade % 16 * 4096)) (tmBytes r.tm) s.sram) ∧
       (r.status ≠ 0 ∨ (s.binding x).cartesian = true ∧ c.tmProv = none → s'.sram = s.sram) ∧
       { s' with time := s.time, clusters := s.clusters, det := s.det, sram := s.sram, free := s.free } = s)

/-- DIST_BUILD and the resolution of parked queries (R110 to R112, R161 to R163, R280): a box is converted from T_c of its
frame on, into its place of the output area; a resolved query whose pans are staged leaves the parking store, its cell and
cubes in the resolution table where it has room for them, and a pan that it needs takes its slot; the last query of an
operation in flight ends it with its verdict; an uncorrectable read of a pan marks it bad and every query that needs it
leaves, and one of a directory or fine-map entry is HBM_UE. Completion: DIST_BUILD, RESOLUTION_REQUEST. -/
def Obligations.BoxesAndResolution : Prop :=
  ∀ (s : State) (p q job : Nat) (j : DistJob) (k : Parked) (t : Nat), p < 64 → q < 64 → s.clusters.length = 64 →
    (s.worlds.distJobs[job]? = some j → j.output = none → (laterFrame s.frame.counter j.frame = true ∨
      j.frame = s.frame.counter ∧ s.frame.phase ≠ .closed ∧ s.frame.phase ≠ .opened) →
      ∃ s', exec (.distBuild job t) s = .next s' ∧ s'.worlds.distJobs[job]? = some { j with output := some ((s.at t).distField j) } ∧
        (∀ i, i ≠ job → s'.worlds.distJobs[i]? = s.worlds.distJobs[i]?) ∧ s' = { s.at t with
          worlds := s'.worlds, hbm := s'.hbm, det := s'.det } ∧ { s'.det with opDigests := s.det.opDigests } = s.det ∧
        (s.det.opDigest = false → s'.det = s.det) ∧ s'.hbm = ((s.at t).distOutput job j ((s.at t).distField j)).hbm ∧
        { s'.worlds with distJobs := s.worlds.distJobs } = s.worlds) ∧
    (s.worlds.distJobs[job]? = some j → j.frame = s.frame.counter → s.frame.phase = .opened →
      ∃ s', exec (.distBuild job t) s = .next s' ∧ { s' with time := s.time } = s) ∧
    ((s.cl p).parked[q]? = some k → s.enabled p = true →
      (∀ r : HbmRead, (s.cl p).inFlight = [] → r.fault ≠ .uncorrectable →
        (∀ h ∈ k.need.pans, (s.cl p).holdsPan h = true ∨ s.panBad k.need h = true) →
        ∃ s', exec (.resolutionRequest p q r t) s = .next s' ∧ (s'.cl p).parked = (s.cl p).parked.eraseIdx q ∧
          ((s.cl p).resolved.length + k.need.fine.length < 2048 → (∃ n, (k.need.dir, 0, n) ∈ (s'.cl p).resolved) ∧
            ∀ f ∈ k.need.fine, ∃ n, (f.1, f.2 + 1, n) ∈ (s'.cl p).resolved) ∧
          (s'.cl p).cands = (s.cl p).cands ∧
          (r.fault = .none → { s' with time := s.time, clusters := s.clusters } = s)) ∧
      (∀ h i a, (s.cl p).inFlight = [] → (s.cl p).lanes = [] → k.need.pans = [h] → (s.cl p).holdsPan h = false →
        s.panBad k.need h = false → s.dmaReady (stackOf p) = true → (s.cl p).slotFor h = some i →
        ∃ s', exec (.resolutionRequest p q ⟨.none, a⟩ t) s = .next s' ∧ (s'.cl p).parked = (s.cl p).parked.eraseIdx q ∧
          (∃ y ∈ (s'.cl p).staged, y.slot = i ∧ y.handle = h ∧ y.pins = 1) ∧
          { s' with time := s.time, clusters := s.clusters, stks := s.stks, hub := s.hub, sram := s.sram } = s) ∧
      (∀ c e, k.kind = 0 → (s.cl p).parked = [k] → (s.cl p).inFlight = [⟨0, k.stream, k.g, e⟩] →
        (s.cl p).cand? k.stream k.g Cand.wantsCheck = some c → (s.stream? k.stream).isSome = true →
        (∀ h ∈ k.need.pans, (s.cl p).holdsPan h = true ∨ s.panBad k.need h = true) →
        ∃ s' c', exec (.resolutionRequest p q ⟨.none, 0⟩ t) s = .next s' ∧ (s'.cl p).parked = [] ∧ (s'.cl p).inFlight = [] ∧
          c' ∈ (s'.cl p).cands ∧ c'.stream = k.stream ∧ c'.g = k.g ∧ c'.check.isSome = true) ∧
      (∀ h a, k.need.panOf a = some h → ∃ s', exec (.resolutionRequest p q ⟨.uncorrectable, a⟩ t) s = .next s' ∧
        (∀ r ∈ (s'.cl p).parked, h ∉ r.need.pans) ∧ h ∈ s'.worlds.badHandles ∧
        ((s.cl p).inFlight = [] → s'.safety = s.safety)) ∧
      (∀ a, k.need.panOf a = none → s.entryOf k.need a = true → s.safety.latch.length < 32 →
        ∃ s', exec (.resolutionRequest p q ⟨.uncorrectable, a⟩ t) s = .next s' ∧ s'.faultLatched 0x0101 (max s.time.now t))) ∧
    ((s.cl p).parked[q]? = none → ∀ r, ∃ s', exec (.resolutionRequest p q r t) s = .next s' ∧ { s' with time := s.time } = s)

/-- The background scratchpad test (R284, R285): a step marches over its region and leaves every byte of the scratchpads as
it was, and the region advances modulo 16,384; a fault maps the region to a spare of the bank, with one already used the
cluster is marked for retirement, and a bank with both used is skipped; a step due while the last one runs waits, with what
it will find, and sets LATE, and the waiting steps run before the next one (log entry 123). The assay slot (R404 to R406):
from 10 us into the frame the assay cluster is offered its safety task, which goes to CC0 as it is taken and clears the
cluster's registers; completion writes the eight signatures and the frame, and any that differ from the golden ones latch
ASSAY_FAIL; without the frame's signatures at 40 us ASSAY_LATE is latched. The rake (R407, R408, R424): in the rake slice
the next item of a set restarts its age, in sequence; item 11 of a cluster reads its path-delay monitor; a failed item
latches RAKE_FAIL. An item out of its turn or behind the slice does nothing. Completion: BGT_STEP, ASSAY_START,
ASSAY_COMPLETE, ASSAY_LATE, RAKE_ITEM_DONE. -/
def Obligations.TestsAssayAndRake : Prop :=
  (∀ (s : State) (p : Nat) (t : Nat), p < 64 → s.clusters.length = 64 → s.enabled p = true →
     s.aon.railsUp = true → (s.cl p).test.bgtRegion < 16384 → (s.cl p).test.sparesUsed.length = 64 →
     (∀ found, ∃ s', exec (.bgtStep p true found t) s = .next s' ∧
       s'.cl p = { s.cl p with test := { (s.cl p).test with bgtLate := true, bgtWaiting := (s.cl p).test.bgtWaiting ++ [found] } } ∧
       (∀ q, q ≠ p → s'.cl q = s.cl q) ∧ { s' with time := s.time, clusters := s.clusters } = s) ∧
     (∀ found, ∃ s', exec (.bgtStep p false found t) s = .next s' ∧ (s'.cl p).test.bgtWaiting = [] ∧
       (s'.cl p).test.bgtRegion = ((s.cl p).test.bgtRegion + (s.cl p).test.bgtWaiting.length + 1) % 16384) ∧
     ((∀ f ∈ (s.cl p).test.bgtWaiting, f = false) →
       ∃ s', exec (.bgtStep p false false t) s = .next s' ∧ s'.cl p = { s.cl p with test := { (s.cl p).test with
         bgtRegion := ((s.cl p).test.bgtRegion + (s.cl p).test.bgtWaiting.length + 1) % 16384, bgtWaiting := [],
         spares := (s'.cl p).test.spares } } ∧ (∀ q, q ≠ p → s'.cl q = s.cl q) ∧
       (s.sram.wf = true → Mem.wf (s.cl p).test.spares = true → ∀ a, Mem.read a s'.sram = Mem.read a s.sram) ∧
       { s' with time := s.time, clusters := s.clusters, sram := s.sram } = s) ∧
     (∀ found, ((s.cl p).test.bgtWaiting, found) = ([], true) ∨ ((s.cl p).test.bgtWaiting, found) = ([true], false) →
       (s.cl p).test.sparesUsed.getD ((s.cl p).test.bgtRegion / 256) 0 = 0 →
       ∃ s', exec (.bgtStep p false found t) s = .next s' ∧ (s'.cl p).test.bgtFail = true ∧
         (s'.cl p).test.bgtFailBank = (s.cl p).test.bgtRegion / 256 ∧
         (s'.cl p).test.sparesUsed.getD ((s.cl p).test.bgtRegion / 256) 0 = 1 ∧
         (s.cl p).test.bgtRegion ∈ (s'.cl p).test.remapped ∧
         (s'.cl p).test.retirePending = (s.cl p).test.retirePending ∧ (∀ q, q ≠ p → s'.cl q = s.cl q) ∧
         { s' with time := s.time, clusters := s.clusters, sram := s.sram } = s) ∧
     ((s.cl p).test.bgtWaiting = [] → (s.cl p).test.sparesUsed.getD ((s.cl p).test.bgtRegion / 256) 0 = 1 →
       ∃ s', exec (.bgtStep p false true t) s = .next s' ∧ (s'.cl p).test.retirePending = true ∧
         (s'.cl p).test.retireCause = 2 ∧ (s'.cl p).test.sparesUsed.getD ((s.cl p).test.bgtRegion / 256) 0 = 2 ∧
         s'.boot = { s.boot with markNew := true } ∧ s'.safety = s.safety) ∧
     ((s.cl p).test.bgtWaiting = [] → 2 ≤ (s.cl p).test.sparesUsed.getD ((s.cl p).test.bgtRegion / 256) 0 →
       ∀ found, ∃ s', exec (.bgtStep p false found t) s = .next s' ∧ s'.cl p = { s.cl p with test := { (s.cl p).test with
         bgtRegion := ((s.cl p).test.bgtRegion + 1) % 16384 } } ∧ (∀ q, q ≠ p → s'.cl q = s.cl q) ∧
         { s' with time := s.time, clusters := s.clusters } = s)) ∧
  (∀ (s : State) (k p : Nat) (sigs : List Nat) (t : Nat), k < 4 → p < 64 → s.clusters.length = 64 → s.stks.length = 4 →
     (s.stk k).assayCluster = some p → s.inFrame = true → s.safety.latch.length < 32 →
     (stackOf p = k → s.frame.openTime + 10 * ticksPerUs ≤ max s.time.now t →
       (s.cl p).test.assayComplete = false ∨ (s.cl p).test.assayFrameLo ≠ s.frame.counter.toNat % 2 ^ 24 →
       (∀ h ∈ (s.cl p).sched.tasks, h.task.op ≠ .assay ∧ h.task.unit ≠ 4) → (∀ r ∈ (s.cl p).sched.running, r.1 ≠ 4) →
       0 < (s.cl p).sched.open_ 1 → (s.stk k).dispatcher.length < 127 → (∀ q ∈ (s.stk k).dispatcher, q.task.op ≠ .assay) →
       (∀ d ∈ (s.stk k).taskList, d.op ≠ .assay) →
       ∃ s', exec (.assayStart k t) s = .next s' ∧ (s'.cl p).test.assayRunning = true ∧
         (s'.cl p).test.assaySig = List.replicate 8 0 ∧ (s'.cl p).test.assayFrameLo = 0 ∧ (∀ q, q ≠ p → s'.cl q = s.cl q) ∧
         (∃ h, (4, h) ∈ (s'.cl p).sched.running ∧ h.task.op = .assay ∧ h.task.safety = true) ∧
         { s' with time := s.time, clusters := s.clusters, stks := s.stks, obs := s.obs } = s) ∧
     (max s.time.now t < s.frame.openTime + 10 * ticksPerUs ∨ (∃ h ∈ (s.cl p).sched.tasks, h.task.op = .assay) ∨
       (s.cl p).test.assayComplete = true ∧ (s.cl p).test.assayFrameLo = s.frame.counter.toNat % 2 ^ 24 →
       ∃ s', exec (.assayStart k t) s = .next s' ∧ { s' with time := s.time } = s) ∧
     (sigs.length = 8 → (∀ x ∈ sigs, x < 2 ^ 64) → (s.cl p).test.assayRunning = true → s.hub.secretsGolden = true →
       ∃ s', exec (.assayComplete k sigs t) s = .next s' ∧ (s'.cl p).test.assayComplete = true ∧
         (s'.cl p).test.assaySig = sigs ∧ (s'.cl p).test.assayFrameLo = s.frame.counter.toNat % 2 ^ 24 ∧
         (s'.cl p).test.assayRunning = false ∧
         ((∀ u < 8, sigs.getD u 0 = (s.boot.golden.getD (s.frame.counter.toNat % 16) []).getD u 0) →
           s'.safety = s.safety ∧ (s'.cl p).test.assayPassedAt = some (max s.time.now t) ∧
           { s' with time := s.time, clusters := s.clusters, stks := s.stks, sram := s.sram } = s) ∧
         ((∃ u < 8, sigs.getD u 0 ≠ (s.boot.golden.getD (s.frame.counter.toNat % 16) []).getD u 0) →
           s'.faultLatched 0x0001 (max s.time.now t) ∧ s.onlyFault { s' with sram := s.sram })) ∧
     (sigs.length = 8 → (s.cl p).test.assayRunning = true → s.hub.secretsGolden = false →
       ∃ s', exec (.assayComplete k sigs t) s = .next s' ∧ (s'.cl p).test.assayComplete = true ∧
         s'.faultLatched 0x0001 (max s.time.now t) ∧ s.onlyFault { s' with sram := s.sram }) ∧
     (s.frame.openTime + 40 * ticksPerUs ≤ max s.time.now t →
       ∃ s', exec (.assayLate k t) s = .next s' ∧ (s'.stk k).assayCluster = none ∧
         ((s.cl p).test.assayComplete = true → (s.cl p).test.assayFrameLo = s.frame.counter.toNat % 2 ^ 24 →
           s'.safety = s.safety ∧ { s' with time := s.time, stks := s.stks, clusters := s.clusters, sram := s.sram } = s) ∧
         ((s.cl p).test.assayComplete = false ∨ (s.cl p).test.assayFrameLo ≠ s.frame.counter.toNat % 2 ^ 24 →
           s'.faultLatched 0x0002 (max s.time.now t) ∧ s.onlyFault { s' with sram := s.sram }))) ∧
  (∀ (s : State) (unit item taps : Nat) (ok : Bool) (tempC : Int) (osc : List Nat) (t : Nat), rakeItemOk unit item = true →
     s.clusters.length = 64 → s.stks.length = 4 → s.safety.latch.length < 32 →
     (s.gridRuns = true → s.frame.phase = .rake → s.rakeDue unit item = true →
       max s.time.now t < s.frame.rakeAt + 20 * ticksPerUs →
       ∃ s', exec (.rakeItemDone unit item ok taps tempC osc t) s = .next s' ∧
         (∀ r ∈ s'.safety.rakeItems, r.unit = unit → r.item = item → r.last = max s.time.now t ∧ r.warned = false) ∧
         (∀ r ∈ s.safety.rakeItems, r.unit ≠ unit ∨ r.item ≠ item → r ∈ s'.safety.rakeItems) ∧
         (unit < 64 → (s'.stk (unit / 16)).rakeNext = item % 11) ∧ (unit = 64 → s'.safety.rakeHubNext = item % 16) ∧
         (unit < 64 → item = 11 → (s'.cl unit).test.taps = taps ∧ (s'.cl unit).test.slackRead = true ∧
           (s'.stk (unit / 16)).rakeTarget = none) ∧
         (ok = true → s'.safety.latch = s.safety.latch) ∧
         (ok = false → s'.faultLatched 0x0003 (max s.time.now t)) ∧ s.onlyFault { s' with sram := s.sram }) ∧
     (s.frame.phase ≠ .rake ∨ s.rakeDue unit item = false ∨ s.frame.rakeAt + 20 * ticksPerUs ≤ max s.time.now t →
       ∃ s', exec (.rakeItemDone unit item ok taps tempC osc t) s = .next s' ∧ { s' with time := s.time } = s))

/-- What the SSV watches (R402, R403, R412, R413): edges of WDOG_IN and beats of the CFW are noted at SSV time; an edge
missed for more than 5,000 us while a class-S session is RUNNING, a CFW silent for 300 us, a lockstep mismatch and a time
base off by more than 2 % are latched at once; a control core halted by a breakpoint suspends the heartbeat check; the
HEALTHY waveform drives the two pins in antiphase. Reactions (R398, R399, R401): a code of the Restart class moves every
live session to FAULTED and asks for the warm restart; a code of the Report class moves only class-S sessions; the frame of
a running grid carries the mark. Completion: WDOG_EDGE, WDOG_LOST, CFW_BEAT, CFW_SILENT, CP_LOCKSTEP, SSV_LOCKSTEP,
HEALTHY_WAVEFORM_EDGE, TIME_BASE_CHECK, RAKE_OVERDUE. -/
def Obligations.SupervisorAndReactions : Prop :=
  (∀ (s : State) (ssv : Nat) (t : Nat), s.safety.latch.length < 32 →
     (∀ level, ∃ s', exec (.wdogEdge level ssv t) s = .next s' ∧ s'.safety.wdogLevel = level ∧
       (level ≠ s.safety.wdogLevel → s'.safety.wdogEdge = some (max s.safety.ssvNow ssv)) ∧
       (level = s.safety.wdogLevel → s'.safety.wdogEdge = s.safety.wdogEdge) ∧
       { s' with time := s.time, safety := s.safety } = s) ∧
     (s.classSRunning = true → (∀ e, s.safety.wdogEdge = some e → 250000 < max s.safety.ssvNow ssv - e) →
       ∃ s', exec (.wdogLost ssv t) s = .next s' ∧ s'.faultLatched 0x0010 (max s.time.now t) ∧ s.onlyFault s') ∧
     (s.classSRunning = false ∨ (∃ e, s.safety.wdogEdge = some e ∧ max s.safety.ssvNow ssv - e ≤ 250000) →
       ∃ s', exec (.wdogLost ssv t) s = .next s' ∧ { s' with time := s.time, safety := s.safety } = s ∧
         s'.safety.latch = s.safety.latch) ∧
     (s.boot.cfwUp = true → ∃ s', exec (.cfwBeat ssv t) s = .next s' ∧ s'.safety.cfwBeat = max s.safety.ssvNow ssv ∧
       { s' with time := s.time, safety := s.safety } = s) ∧
     (s.boot.cfwUp = true → s.obs.cpHalted = false → s.safety.resetUnderWay = false → s.safety.restartPending = none →
       15000 ≤ max s.safety.ssvNow ssv - s.safety.cfwBeat →
       ∃ s', exec (.cfwSilent ssv t) s = .next s' ∧ s'.faultLatched 0x000B (max s.time.now t) ∧
         s'.safety.restartPending = some 0x000B ∧ s.onlyFault s') ∧
     (s.boot.cfwUp = false ∨ s.obs.cpHalted = true ∨ max s.safety.ssvNow ssv - s.safety.cfwBeat < 15000 →
       ∃ s', exec (.cfwSilent ssv t) s = .next s' ∧ { s' with time := s.time, safety := s.safety } = s ∧
         s'.safety.latch = s.safety.latch) ∧
     (∀ pair, pair < 2 → ∃ s', exec (.cpLockstep pair t) s = .next s' ∧ s'.faultLatched 0x0009 (max s.time.now t) ∧
       s.onlyFault s') ∧
     (∃ s', exec (.ssvLockstep t) s = .next s' ∧ s'.safety.keeper = true ∧ s'.faultLatched 0x000A (max s.time.now t) ∧
       s.onlyFault s') ∧
     (s.safety.pinState = 1 → ∃ s', exec (.healthyWaveformEdge (!s.safety.safeA) s.safety.safeA ssv t) s = .next s' ∧
       s'.safety.safeA = !s.safety.safeA ∧ s'.safety.safeB = !s'.safety.safeA ∧ s'.safety.latch = s.safety.latch ∧
       { s' with time := s.time, safety := s.safety } = s) ∧
     (∀ ssv0 now0, s.safety.rateRef = some (ssv0, now0) → s.time.corrections = [] →
       ssv0 + 500000 ≤ max s.safety.ssvNow ssv →
       ∃ s', exec (.timeBaseCheck ssv t) s = .next s' ∧
         s'.safety.rateRef = some (max s.safety.ssvNow ssv, max s.time.now t) ∧
         ((max s.safety.ssvNow ssv - ssv0 : Int) * 4 <
             50 * (((max s.time.now t : Nat) : Int) - now0 - 4 * ((max s.safety.ssvNow ssv : Nat) - ssv0)).natAbs →
           s'.faultLatched 0x000C (max s.time.now t) ∧ s.onlyFault s') ∧
         (50 * (((max s.time.now t : Nat) : Int) - now0 - 4 * ((max s.safety.ssvNow ssv : Nat) - ssv0)).natAbs ≤
             (max s.safety.ssvNow ssv - ssv0 : Int) * 4 →
           { s' with time := s.time, safety := s.safety } = s ∧ s'.safety.latch = s.safety.latch))) ∧
  (∀ (s : State) (pair unit item : Nat) (t : Nat), s.sessions.length = 16 → s.safety.latch.length < 32 →
     (pair < 2 → ∃ s', exec (.cpLockstep pair t) s = .next s' ∧
       (∀ i < 16, (s'.ses i).state = if (s.ses i).live then 5 else (s.ses i).state) ∧
       (s.safety.resetUnderWay = false → s.safety.restartPending = none → s'.safety.restartPending = some 0x0009) ∧
       s'.frame.faultReaction = (s.gridRuns || s.frame.faultReaction)) ∧
     (rakeItemOk unit item = true → s.classSRunning = true →
       (∃ r, r ∈ s.safety.rakeItems ∧ r.unit = unit ∧ r.item = item ∧ 200000 * ticksPerUs < max s.time.now t - r.last) →
       ∃ s', exec (.rakeOverdue unit item t) s = .next s' ∧ s'.faultLatched 0x0004 (max s.time.now t) ∧
         (∀ i < 16, (s'.ses i).state = if (s.ses i).live && (s.ses i).classS then 5 else (s.ses i).state) ∧
         s'.safety.restartPending = s.safety.restartPending ∧ s.onlyFault s'))

/-- Ages, self-test, restart and health page (R408, R409, R426, R430): an age above 100 ms is warned of; a self-test runs in a
reset and once a frame has closed, and a passed one restarts every age at zero and leaves every cluster the signatures of a
passed assay; each failure is latched, and with the golden data wiped every assay fails; once no dump is being written, DUMP_WRITTEN begins the restart that a
code asked for, which closes every session and keeps fuses, flash and the latch. Completion: LATENT_OVERDUE,
SELF_TEST_COMPLETE, DUMP_WRITTEN, HEALTH_PAGE_WRITE. -/
def Obligations.LatentTestsAndRestart : Prop :=
  ∀ (s : State) (unit item : Nat) (t : Nat),
    (rakeItemOk unit item = true → s.classSRunning = true →
      (∀ r ∈ s.safety.rakeItems, r.unit = unit → r.item = item → 100000 * ticksPerUs < max s.time.now t - r.last) →
      (∃ r ∈ s.safety.rakeItems, r.unit = unit ∧ r.item = item) →
      ∃ s', exec (.latentOverdue unit item t) s = .next s' ∧
        (∀ r ∈ s'.safety.rakeItems, r.unit = unit → r.item = item → r.warned = true ∨ ∃ q ∈ s.safety.rakeItems,
          q.unit = unit ∧ q.item = item ∧ q.warned = true) ∧
        s'.safety.latch = s.safety.latch ∧
        { s' with time := s.time, safety := s.safety, rings := s.rings, sessions := s.sessions, pcie := s.pcie,
                  clusters := s.clusters, stks := s.stks, hub := s.hub, host := s.host } = s) ∧
    (s.selfTestDue = true → s.hub.secretsGolden = true → ∃ s', exec (.selfTestComplete [] t) s = .next s' ∧
      (∀ p < 64, s.clusters.length = 64 → s.enabled p = true → (s'.cl p).test.assaySig =
        (List.range 8).map (fun u => (s.boot.golden.getD 0 []).getD u 0) ∧ (s'.cl p).test.assayComplete = true ∧
        (s'.cl p).test.assayPassedAt = some (max s.time.now t)) ∧
      (∀ p < 64, s.enabled p = true → ∀ i, 1 ≤ i → i ≤ 11 →
        ∃ r ∈ s'.safety.rakeItems, r.unit = p ∧ r.item = i ∧ r.last = max s.time.now t) ∧
      (∀ r ∈ s'.safety.rakeItems, r.last = max s.time.now t ∧ r.warned = false) ∧ s'.safety.latch = s.safety.latch ∧
      s'.worlds = s.worlds ∧ s'.images = s.images ∧ s'.streams = s.streams) ∧
    (∀ l, l.all TestFailure.wf = true → s.selfTestDue = true → s.safety.latch.length < 31 →
      (∃ f ∈ l, f.unit = 64 ∨ s.enabled f.unit = true) ∨ s.hub.secretsGolden = false ∧ (∃ p < 64, s.enabled p = true) →
      ∃ s', exec (.selfTestComplete l t) s = .next s' ∧ s.onlyFault s' ∧
        (∀ f ∈ l, f.unit = 64 ∨ s.enabled f.unit = true →
          s'.faultLatched (if f.item = 0 then 0x0001 else 0x0003) (max s.time.now t)) ∧
        (s.hub.secretsGolden = false → (∃ p < 64, s.enabled p = true) →
          s'.faultLatched 0x0001 (max s.time.now t))) ∧
    (∀ l, s.selfTestDue = false → ∃ s', exec (.selfTestComplete l t) s = .next s' ∧ { s' with time := s.time } = s) ∧
    (s.errors.dump.writing = none → s.safety.restartPending = none →
      ∃ s', exec (.dumpWritten t) s = .next s' ∧ { s' with time := s.time } = s) ∧
    (∀ code, s.errors.dump.writing = none → s.safety.restartPending = some code →
      ∃ s', exec (.dumpWritten t) s = .next s' ∧ (∀ i < 16, (s'.ses i).state = 0) ∧ s'.streams = [] ∧
        s'.boot.cfwUp = false ∧ s'.safety.restartPending = none ∧ s'.safety.resetUnderWay = true ∧
        s'.safety.restarts = s.safety.restarts ++ [max s.time.now t] ∧ s'.safety.latch = s.safety.latch ∧
        s'.part = s.part ∧ s'.flash = s.flash ∧ s'.aon = s.aon ∧ s'.time.now = max s.time.now t) ∧
    (s.boot.markNew = true → ∃ s' page n, exec (.healthPageWrite t) s = .next s' ∧
      (s'.flash.health.copy0 = some (n, page) ∨ s'.flash.health.copy1 = some (n, page)) ∧
      page.voff = s.clusters.map (fun x => x.test.voff) ∧
      (∀ p < 64, (s.cl p).test.retirePending = true → ∃ m ∈ page.marks, m.1 = p) ∧
      s'.boot.markNew = false ∧ s'.boot.healthWritten = some (max s.time.now t) ∧
      { s' with time := s.time, flash := s.flash, boot := s.boot } = s) ∧
    (s.boot.markNew = false → s.boot.voffChanged = false →
      ∃ s', exec (.healthPageWrite t) s = .next s' ∧ { s' with time := s.time } = s)

/-- SAFETY_STATUS and SAFE_RELEASE (R414, R416, Table 17.5): the record names pin state, latch and first code; a releasable
code leaves the latch and the pins go IDLE with the last one; SSV_LOCKSTEP, a code that is not latched, and a Restart code
with no warm reset since are refused. Token commands (R397, R446, R447, R448): each is refused outside IDLE, DEBUG_UNLOCK
also while a class-S session is open, and SAFETY_BIND on a part without class S; the first failing step of a token gives the
status; an accepted SAFETY_BIND leaves the binding for power-up, an accepted unlock opens debug and zeroes the keys, an
accepted LIFECYCLE_SET ends in a warm reset. Completion: SAFETY_STATUS, SAFE_RELEASE, SAFETY_BIND, LIFECYCLE_SET,
DEBUG_UNLOCK. -/
def Obligations.SafetyReleaseAndTokens : Prop :=
  (∀ (s : State) (fn slot ssv code : Nat) (t : Nat) (c : Cmd), isSlot fn slot → s.frame.devState ≠ 3 →
     (s.isArrived 0x0901 fn slot c → c.payload = [] →
       ∃ s' p, exec (.safetyStatus fn slot ssv t) s = .next s' ∧ s'.reply? fn slot = some (okReply p) ∧ p.length = 64 ∧
         slice p 0 1 = le 1 s.safety.pinState ∧ slice p 1 1 = le 1 s.safety.latch.length ∧
         slice p 2 2 = le 2 s.safety.firstCode ∧ slice p 8 8 = le 8 s.safety.firstTime ∧
         { s' with time := s.time, det := s.det, mbx := { s'.mbx with cmds := s.mbx.cmds }, safety := s.safety } = s) ∧
     (s.isReady 0x0903 fn slot c → c.payload.length = 8 → allZero (slice c.payload 2 6) = true →
       getU c.payload 0 2 = code →
       ∃ s', exec (.safeRelease fn slot ssv t) s = .next s' ∧
         ((∃ l ∈ s.safety.latch, l.code = code ∧ ((s.at t).atSsv ssv).releasable l = true) →
           s'.reply? fn slot = some (okReply []) ∧ s'.safety.latch = s.safety.latch.filter (fun l => l.code != code) ∧
           s'.safety.pinState = (if s'.safety.latch = [] then 0 else s.safety.pinState) ∧
           s'.safety.safeA = s.safety.safeA ∧ s'.safety.safeB = s.safety.safeB ∧
           { s' with time := s.time, det := s.det, mbx := { s'.mbx with cmds := s.mbx.cmds }, safety := s.safety } = s) ∧
         ((∀ l ∈ s.safety.latch, l.code ≠ code) ∨ code = 0x000A ∨
             (isRestart code = true ∧ ∀ l ∈ s.safety.latch, l.code = code → s.safety.warmResets ≤ l.resets) →
           s'.reply? fn slot = some (refusal 0x0201) ∧ s'.safety.latch = s.safety.latch ∧
           { s' with time := s.time, det := s.det, mbx := { s'.mbx with cmds := s.mbx.cmds }, safety := s.safety } = s))) ∧
  (∀ (s : State) (fn slot op : Nat) (i : Instr) (t : Nat) (c : Cmd), isSlot fn slot → c.payload = [] →
     (op, i) ∈ [(0x0902, Instr.safetyBind fn slot t), (0x0906, .lifecycleSet fn slot t), (0x0907, .debugUnlock fn slot t)] →
     s.isReady op fn slot c →
     (s.frame.devState ≠ 0 → ∃ s', exec i s = .next s' ∧ s'.reply? fn slot = some (refusal 0x0201) ∧ s.onlyAnswered s') ∧
     (s.frame.devState = 0 → op = 0x0902 → s.part.orderCode ≠ 1 →
       ∃ s', exec i s = .next s' ∧ s'.reply? fn slot = some (refusal 0x0209) ∧ s.onlyAnswered s') ∧
     (s.frame.devState = 0 → (op = 0x0902 → s.part.orderCode = 1) → s.classSIn (· != 0) = false →
       ∃ s', exec i s = .next s' ∧
         (∀ st, s.tokenBad (if op = 0x0902 then [3] else if op = 0x0907 then [2] else [1, 4, 5, 6]) c.bulk = some st →
           s'.reply? fn slot = some (refusal st) ∧ s.onlyAnswered s') ∧
         (op = 0x0902 → s.tokenBad [3] c.bulk = none → s'.reply? fn slot = some (okReply []) ∧
           s'.part.pendingProfile = profileOf (tokBody c.bulk) ∧ s'.safety.profile = s.safety.profile ∧
           { s' with time := s.time, det := s.det, mbx := { s'.mbx with cmds := s.mbx.cmds }, part := s.part } = s) ∧
         (op = 0x0907 → s.tokenBad [2] c.bulk = none → getU (tokBody c.bulk) 0 1 = 0 →
           s'.reply? fn slot = some (okReply []) ∧ s'.hub.secretsKeys = false ∧ s'.hub.secureWiped = false ∧
           (s.lifecycle = 2 → s'.mgmt.fieldDebug = true) ∧ (s.lifecycle ≠ 2 → s'.mgmt.vendorDebug = true) ∧
           s'.part = s.part ∧ s'.flash = s.flash ∧ s'.streams = s.streams ∧ s'.worlds = s.worlds) ∧
         (op = 0x0906 → s.tokenBad [1, 4, 5, 6] c.bulk = none → (∃ x, s.tokenEffect c.bulk = some x) →
           (∀ j < 16, (s'.ses j).state = 0) ∧ s'.boot.cfwUp = false ∧ s'.safety.resetUnderWay = true ∧ s'.streams = [] ∧
           s'.hub.secretsKeys = false)))

/-- Calibration and ledger (R427, R428, R429, R450): CAL_READ and LEDGER_READ deliver their records and answer the bytes;
CAL_WRITE stores a page that passes its checks, and refuses it outside IDLE and PAUSED, without an owner, with a wrong
signature or with wrong fields. Completion: CAL_READ, CAL_WRITE, LEDGER_READ. -/
def Obligations.CalibrationAndLedger : Prop :=
  ∀ (s : State) (fn slot a len : Nat) (t : Nat) (c : Cmd), isSlot fn slot → s.frame.devState ≠ 3 →
    (∀ bs, s.isArrived 0x0904 fn slot c → c.payload.length = 8 → allZero (slice c.payload 1 7) = true →
      getU c.payload 0 1 ≤ 2 → c.descs = [{ addr := a, len := len, write := true }] → s.dmaOk fn = true →
      bs = (if getU c.payload 0 1 = 0 then calBytes s.part.factory else if getU c.payload 0 1 = 1 then
        fit 320 (s.flash.userCal.read.getD []) else calBytes s.boot.effective) → bs.length ≤ len →
      ∃ s', exec (.calRead fn slot t) s = .next s' ∧ s'.reply? fn slot = some (okReply (le 4 bs.length)) ∧
        s'.host = Mem.writeBytes a bs s.host ∧
        { s' with time := s.time, det := s.det, mbx := { s'.mbx with cmds := s.mbx.cmds }, host := s.host,
                  clusters := s.clusters, stks := s.stks, hub := s.hub } = s) ∧
    (s.isArrived 0x0908 fn slot c → c.payload = [] → c.descs = [{ addr := a, len := len, write := true }] →
      s.dmaOk fn = true → (s.part.ledgerOrder.flatMap ledgerBytes).length ≤ len →
      ∃ s', exec (.ledgerRead fn slot t) s = .next s' ∧
        s'.reply? fn slot = some (okReply (le 4 (s.part.ledgerOrder.flatMap ledgerBytes).length)) ∧
        s'.host = Mem.writeBytes a (s.part.ledgerOrder.flatMap ledgerBytes) s.host ∧
        { s' with time := s.time, det := s.det, mbx := { s'.mbx with cmds := s.mbx.cmds }, host := s.host,
                  clusters := s.clusters, stks := s.stks, hub := s.hub } = s) ∧
    (s.isReady 0x0905 fn slot c → c.payload = [] → c.bulk.length ≠ 320 →
      ∃ s', exec (.calWrite fn slot t) s = .next s' ∧ s'.reply? fn slot = some (refusal 0x0104) ∧ s.onlyAnswered s') ∧
    (s.isReady 0x0905 fn slot c → c.payload = [] → c.bulk.length = 320 → s.frame.devState ∈ [0, 2] →
      1 ≤ s.lifecycle → s.lifecycle ≤ 3 → s.part.ownerValid = true →
      ∃ s', exec (.calWrite fn slot t) s = .next s' ∧
        (s.calSigned c.bulk = false → s'.reply? fn slot = some (refusal 0x0501) ∧ s.onlyAnswered s') ∧
        (s.calSigned c.bulk = true → s.calPageOk c.bulk = false →
          s'.reply? fn slot = some (refusal 0x0106) ∧ s.onlyAnswered s') ∧
        (s.calSigned c.bulk = true → s.calPageOk c.bulk = true → s'.reply? fn slot = some (okReply []) ∧
          s'.flash = { s.flash with userCal := s.flash.userCal.write c.bulk } ∧
          { s' with time := s.time, det := s.det, mbx := { s'.mbx with cmds := s.mbx.cmds }, flash := s.flash } = s)) ∧
    (s.isReady 0x0905 fn slot c → c.payload = [] → c.bulk.length = 320 → s.frame.devState = 1 →
      ∃ s', exec (.calWrite fn slot t) s = .next s' ∧ s'.reply? fn slot = some (refusal 0x0201) ∧ s.onlyAnswered s')

/-- Firmware commands (R353, R354, R437, R439): FW_STAGE writes the bank that is not booted and leaves it verified only when
every check passes; FW_COMMIT selects a verified bank for the next boot and refuses another; FW_STATUS names the banks. Dump
commands (R353, R432, R433): a read or a clear that finds a dump being written waits for it; otherwise the read delivers the
dump and sets READ, and the clear leaves the region empty; DUMP_TARGET names the buffer or clears it. Completion: FW_STAGE,
FW_COMMIT, FW_STATUS, DUMP_READ, DUMP_CLEAR, DUMP_TARGET. -/
def Obligations.FirmwareAndDumps : Prop :=
  (∀ (s : State) (fn slot : Nat) (t : Nat) (c : Cmd), isSlot fn slot → s.frame.devState ≠ 3 → s.boot.activeBank ≤ 1 →
     s.flash.banks.length = 2 → s.flash.verified.length = 2 → s.stagingNow = false →
     (s.isArrived 0x0B01 fn slot c → c.payload = [] → c.bulk.length ≤ bankSize (1 - s.boot.activeBank) →
       ∃ s', exec (.fwStage fn slot t) s = .next s' ∧
         s'.flash.banks.getD (1 - s.boot.activeBank) [] = c.bulk ∧
         s'.flash.banks.getD s.boot.activeBank [] = s.flash.banks.getD s.boot.activeBank [] ∧
         s'.flash.bootBank = s.flash.bootBank ∧
         (∀ st, s.part.bankBad c.bulk = some st → s'.reply? fn slot = some (refusal st) ∧
           s'.flash.verified.getD (1 - s.boot.activeBank) true = false) ∧
         (∀ ms, s.part.bankBad c.bulk = none → manifests c.bulk = some ms →
           s'.reply? fn slot = some (if rangesAgree ms then okReply [] else refusal 0x0407) ∧
           s'.flash.verified.getD (1 - s.boot.activeBank) true = rangesAgree ms) ∧
         { s' with time := s.time, det := s.det, mbx := { s'.mbx with cmds := s.mbx.cmds }, flash := s.flash } = s) ∧
     (s.isArrived 0x0B02 fn slot c → c.payload.length = 8 → allZero (slice c.payload 1 7) = true → getU c.payload 0 1 ≤ 1 →
       ∃ s', exec (.fwCommit fn slot t) s = .next s' ∧
         (s.flash.verified.getD (getU c.payload 0 1) false = true → s'.reply? fn slot = some (okReply []) ∧
           ((∀ x, s.flash.bootBank.copy0 = some x ∨ s.flash.bootBank.copy1 = some x → x.1 + 1 < 2 ^ 32) →
             s'.flash.bootBank.read = some (getU c.payload 0 1)) ∧
           { s' with time := s.time, det := s.det, mbx := { s'.mbx with cmds := s.mbx.cmds },
                     flash := { s'.flash with bootBank := s.flash.bootBank } } = s) ∧
         (s.flash.verified.getD (getU c.payload 0 1) false = false → s'.reply? fn slot = some (refusal 0x0405) ∧
           s.onlyAnswered s')) ∧
     (s.isArrived 0x0B03 fn slot c → c.payload = [] →
       ∃ s' p, exec (.fwStatus fn slot t) s = .next s' ∧ s'.reply? fn slot = some (okReply p) ∧ p.length = 32 ∧
         slice p 0 1 = le 1 s.boot.activeBank ∧ slice p 1 1 = le 1 (s.flash.bootBank.read.getD 0) ∧ s.onlyAnswered s')) ∧
  (∀ (s : State) (fn slot a len : Nat) (t : Nat) (c : Cmd), isSlot fn slot → s.frame.devState ≠ 3 → c.payload = [] →
     (s.isArrived 0x0B04 fn slot c → s.errors.dump.writing.isSome = true →
       ∃ s', exec (.dumpRead fn slot t) s = .next s' ∧ s'.waitsAt fn slot ∧ s.onlyAnswered s') ∧
     (s.isArrived 0x0B06 fn slot c → s.errors.dump.writing.isSome = true →
       ∃ s', exec (.dumpClear fn slot t) s = .next s' ∧ s'.waitsAt fn slot ∧ s.onlyAnswered s') ∧
     (s.isArrived 0x0B04 fn slot c → s.errors.dump.writing = none → c.descs = [{ addr := a, len := len, write := true }] →
       s.dmaOk fn = true → s.errors.dump.image.length ≤ len →
       ∃ s', exec (.dumpRead fn slot t) s = .next s' ∧
         s'.reply? fn slot = some (okReply (le 4 s.errors.dump.image.length ++ le 1 (s.errors.dump.state % 2) ++ zeros 3)) ∧
         s'.host = Mem.writeBytes a s.errors.dump.image s.host ∧
         (s.errors.dump.state % 2 = 1 → bit s'.errors.dump.state 2 = true) ∧ s'.errors.dump.bytes = s.errors.dump.bytes ∧
         { s' with time := s.time, det := s.det, mbx := { s'.mbx with cmds := s.mbx.cmds }, host := s.host,
                   errors := s.errors, clusters := s.clusters, stks := s.stks, hub := s.hub } = s) ∧
     (s.isArrived 0x0B06 fn slot c → s.errors.dump.writing = none →
       ∃ s', exec (.dumpClear fn slot t) s = .next s' ∧ s'.reply? fn slot = some (okReply []) ∧
         s'.errors = { s.errors with dump := { s.errors.dump with bytes := [], length := 0, state := 0 } } ∧
         { s' with time := s.time, det := s.det, mbx := { s'.mbx with cmds := s.mbx.cmds }, errors := s.errors } = s) ∧
     (s.isArrived 0x0B05 fn slot c →
       ∃ s', exec (.dumpTarget fn slot t) s = .next s' ∧ s'.reply? fn slot = some (okReply []) ∧
         s'.errors = { s.errors with dump := { s.errors.dump with target := c.descs.head? } } ∧
         { s' with time := s.time, det := s.det, mbx := { s'.mbx with cmds := s.mbx.cmds }, errors := s.errors } = s))

/-- Resets from the links (R356, R370, R372, R414, R472, Table 15.15): a reset of link A, or PERST_N in operation, closes
every session, lowers the link and keeps fuses, flash and the latch; PERST_N de-asserted latches bifurcation once after auxiliary power came; a link
that goes down without reset keeps the sessions and, with a class-S session live, is latched; a link that comes up takes its
width and speed, of the forms of Table 15.1. Link errors (R291, R357): a replay counts a correctable error and PCIE_REPLAY, and in Exact mode marks the
frame; a poisoned inbound write is discarded and counted. Completion: PCIE_LINK_RESET, PERST_N_ASSERT, PERST_N_DEASSERT,
DL_DOWN, DL_UP, PCIE_REPLAY, POISONED_INBOUND_WRITE. -/
def Obligations.LinkResetsAndErrors : Prop :=
  (∀ (s : State) (t : Nat), s.safety.latch.length < 32 → s.sessions.length = 16 →
     (∀ i, i ∈ [Instr.pcieLinkReset false t, .perstNAssert t] → s.aon.railsUp = true → s.mgmt.perstAsserted = false →
       ∃ s', exec i s = .next s' ∧ (∀ j < 16, (s'.ses j).state = 0) ∧ s'.streams = [] ∧ s'.rings = [] ∧
         s'.boot.cfwUp = false ∧ s'.pcie.linkA.up = false ∧ s'.pcie.linkA.downSeen = true ∧
         s'.safety.resetUnderWay = true ∧ (∀ l ∈ s.safety.latch, ∃ m ∈ s'.safety.latch, m.code = l.code) ∧
         (s.classSOf (List.range 17) = true → ∃ m ∈ s'.safety.latch, m.code = 0x0011) ∧
         s'.mgmt.perstAsserted = (i == .perstNAssert t) ∧ s'.part = s.part ∧ s'.flash = s.flash ∧ s'.aon = s.aon ∧
         s'.time.now = max s.time.now t) ∧
     (s.aon.railsUp = false → ∃ s', exec (.perstNAssert t) s = .next s' ∧ s'.mgmt = { s.mgmt with perstAsserted := true } ∧
       { s' with time := s.time, mgmt := s.mgmt } = s) ∧
     (∀ gpio3 refclk, ∃ s', exec (.perstNDeassert gpio3 refclk t) s = .next s' ∧ s'.mgmt.perstAsserted = false ∧
       s'.mgmt.linkLatched = true ∧
       s'.mgmt.bifurcated = (if s.mgmt.linkLatched then s.mgmt.bifurcated else some gpio3) ∧ { s' with time := s.time, mgmt := s.mgmt } = s) ∧
     (s.pcie.linkA.up = true → s.time.source ≠ 1 → ∃ s', exec (.dlDown false t) s = .next s' ∧
       s'.pcie.linkA = { up := false, downSeen := true, width := 0, speed := 0, flit := false } ∧
       s'.pcie.linkB = s.pcie.linkB ∧
       (s.classSOf (s.fnsOn false) = true → s'.faultLatched 0x0012 (max s.time.now t) ∧ s.onlyFault s') ∧
       (s.classSOf (s.fnsOn false) = false → { s' with time := s.time, pcie := s.pcie } = s)) ∧
     (∀ w sp fl, s.aon.railsUp = true → s.boot.mode ≠ 3 → s.mgmt.perstAsserted = false → w = 4 ∨ w = 8 ∨ w = 16 →
       w ≤ (if s.mgmt.bifurcated = some true then 8 else 16) → 1 ≤ sp → sp ≤ 6 → (sp = 6 → fl = true) →
       ∃ s', exec (.dlUp false w sp fl t) s = .next s' ∧
         s'.pcie.linkA = { s.pcie.linkA with up := true, width := w, speed := sp, flit := fl } ∧
         { s' with time := s.time, pcie := s.pcie, host := s.host } = s) ∧
     (∀ b w sp fl, w ∉ [4, 8, 16] ∨ s.mgmt.bifurcated = some true ∧ w = 16 ∨ sp ∉ [1, 2, 3, 4, 5, 6] ∨ sp = 6 ∧ fl = false →
       ∃ s', exec (.dlUp b w sp fl t) s = .next s' ∧ { s' with time := s.time } = s)) ∧
  (∀ (s : State) (b : Bool) (delay fn : Nat) (t : Nat), s.pcie.fns.length = 17 → s.hub.counters.length = 32 →
     (∃ s', exec (.pcieReplay b delay t) s = .next s' ∧ s'.pcie.aerCorrectable = s.pcie.aerCorrectable + 1 ∧
       s'.hub.counters.getD 5 0 = (s.hub.counters.getD 5 0 + 1) % 2 ^ 48 ∧
       (s.frame.conf.exact = true → s.gridRuns = true → s.frame.phase ≠ .closed → 0 < delay → s'.frame.timingSlip = true ∧
         s'.frame.slipTicks = min (s.frame.slipTicks + delay) (2 ^ 32 - 1)) ∧
       (s.frame.conf.exact = false ∨ delay = 0 → s'.frame = s.frame ∧ s'.det = s.det) ∧
       { s' with time := s.time, pcie := s.pcie, host := s.host, hub := s.hub, frame := s.frame, det := s.det } = s) ∧
     (fn < 17 → ∃ s', exec (.poisonedInboundWrite fn t) s = .next s' ∧ s'.pcie.aerNonFatal = s.pcie.aerNonFatal + 1 ∧
       (s'.fnS fn).discard = min ((s.fnS fn).discard + 1) 65535 ∧
       { s' with time := s.time, pcie := s.pcie, host := s.host } = s))

/-- Function resets (R359, R371, R373): an FLR closes the sessions of its functions (PF1's takes its virtual functions
with it) and leaves the other functions' alone, takes their rings and slots, and completes with its slots zero and its registers at reset; a virtual function that goes is reset the
same way; Bus Master Enable is what its write says. Completion: FLR, FLR_COMPLETE, BUS_MASTER_ENABLE, VF_REMOVE. -/
def Obligations.FunctionResets : Prop :=
  ∀ (s : State) (fn : Nat) (t : Nat), fn < 17 → s.sessions.length = 16 → s.pcie.fns.length = 17 →
    (s.classSOf (flrScope fn) = false →
      ∃ s', exec (.flr fn t) s = .next s' ∧ (∀ j < 16, (s.ses j).fn ∈ flrScope fn → (s'.ses j).state = 0) ∧
        (∀ j < 16, (s.ses j).fn ∉ flrScope fn → { s'.ses j with counters := [] } = { s.ses j with counters := [] }) ∧
        (∀ r ∈ s'.rings, r.fn ∉ flrScope fn) ∧ (∀ o ∈ s'.mbx.own, o.1 ∉ flrScope fn) ∧
        (∀ c ∈ s'.mbx.cmds, c.fn ∈ flrScope fn → c.silentDrop = true) ∧ (∀ g ∈ flrScope fn, (s'.fnS g).flrBusy = true) ∧
        s'.part = s.part ∧ s'.flash = s.flash ∧ s'.images.unkeyed = s.images.unkeyed ∧ s'.frame = s.frame ∧
        s'.safety = s.safety ∧ { s'.fabric with msgs := s.fabric.msgs, answers := s.fabric.answers } = s.fabric) ∧
    (s.classSOf (flrScope fn) = true → s.safety.latch.length < 32 →
      ∃ s', exec (.flr fn t) s = .next s' ∧ s'.faultLatched 0x0013 (max s.time.now t)) ∧
    ((s.fnS fn).flrBusy = true →
      ∃ s', exec (.flrComplete fn t) s = .next s' ∧ s'.fnS fn = {} ∧
        (∀ a, slotAddr fn 0 0 ≤ a → a < slotAddr fn 32 0 → Mem.read a s'.mbx.bytes = 0) ∧
        (∀ a, a < slotAddr fn 0 0 ∨ slotAddr fn 32 0 ≤ a → Mem.read a s'.mbx.bytes = Mem.read a s.mbx.bytes) ∧
        (∀ g, g ≠ fn → s'.fnS g = s.fnS g) ∧
        { s' with time := s.time, pcie := { s'.pcie with fns := s.pcie.fns },
                  mbx := { s'.mbx with bytes := s.mbx.bytes, own := s.mbx.own } } = s) ∧
    ((s.fnS fn).flrBusy = false → ∃ s', exec (.flrComplete fn t) s = .next s' ∧ { s' with time := s.time } = s) ∧
    (∀ on, ∃ s', exec (.busMasterEnable fn on t) s = .next s' ∧ (s'.fnS fn).busMaster = on ∧
      (on = false → { s' with time := s.time, pcie := { s'.pcie with fns := s.pcie.fns } } = s) ∧
      { s' with time := s.time, pcie := s.pcie, host := s.host } = s) ∧
    (∀ on n, n < 16 → ∃ s', exec (.vfRemove on n t) s = .next s' ∧ s'.pcie.vfEnable = on ∧ s'.pcie.numVfs = n ∧
      (∀ j < 16, (s.ses j).fn ∈ s.pcie.vfs → (s.ses j).fn ∉ s'.pcie.vfs → (s'.ses j).state = 0) ∧
      s'.part = s.part ∧ s'.flash = s.flash ∧ s'.images.unkeyed = s.images.unkeyed)

/-- Zerelet links (R374-R378, R379, R393): a port comes up only when enabled and within the round-trip limit, and its coming
up starts a census or asks for another; a flit with a bad CRC or out of sequence is discarded and answered by one NACK; in
sequence it moves LSEQ on; a NACK acknowledges up to LACK and sends the rest again, sealed anew, and the eighth replay of a
flit takes the port down; a CREDIT flit returns at most 15 credits a channel; a GRANT marks the message that asked, and a
refused one ends a farm request, which FARM_REFUSED counts; a link is pinged at most every 1,024 us. Completion: PORT_UP,
PORT_DOWN, FLIT_RECEIVE, NACK_RECEIVE, CREDIT_FLIT, GRANT, PING. -/
def Obligations.ZereletLinks : Prop :=
  ∀ (s : State) (i : Nat) (t : Nat), i < 4 → s.fabric.ports.length = 4 →
    (∀ rtt h n, n < 256 → (s.port i).enabled = true → (s.port i).up = false →
      ∃ s', exec (.portUp i rtt h n t) s = .next s' ∧
        (300 < rtt → { s' with time := s.time } = s) ∧
        (rtt ≤ 300 → (s'.port i).up = true ∧ (s'.port i).neighbour = h ∧
          (∀ u ∈ (s'.port i).unacked, u.flit.vc = 0) ∧
          (s.inCensus = false → s'.fabric.census = 1 ∧ s'.fabric.epoch = (s.fabric.highestEpoch + 1) % 2 ^ 32) ∧
          (s.inCensus = true → s'.fabric.again = true ∧ s'.fabric.census = s.fabric.census) ∧
          s.onlyFabric s')) ∧
    ((s.port i).up = true → ∃ s', exec (.portDown i t) s = .next s' ∧ (s'.port i).up = false ∧ (s'.port i).unacked = [] ∧
      (s'.port i).tx = [] ∧ (s'.port i).enabled = (s.port i).enabled ∧
      (s.fabric.ports.any (·.enabled) = true → s.onlyFabric s')) ∧
    (∀ f : Flit, f.vc < 4 → (s.port i).up = true → f.crcOk = false →
      ∃ s', exec (.flitReceive i f t) s = .next s' ∧
        (s'.port i).crcFail = min ((s.port i).crcFail + 1) 65535 ∧ (s'.port i).nacked = true ∧
        (s'.port i).rxSeq = (s.port i).rxSeq ∧ (s'.port i).rx = (s.port i).rx ∧
        ((s.port i).nacked = false → (s'.port i).linkOut.map (·.kind) = some kindNack) ∧
        { s' with time := s.time, fabric := s.fabric } = s) ∧
    (∀ f : Flit, f.vc < 4 → (s.port i).up = true → f.crcOk = true → f.kind < 4 → f.lseq ≠ ((s.port i).rxSeq + 1) % 65536 →
      ∃ s', exec (.flitReceive i f t) s = .next s' ∧ (s'.port i).nacked = true ∧ (s'.port i).rxSeq = (s.port i).rxSeq ∧
        (s'.port i).rx = (s.port i).rx ∧ (s'.port i).unacked = (s.port i).unacked ∧
        { s' with time := s.time, fabric := s.fabric } = s) ∧
    (∀ f : Flit, f.vc < 4 → (s.port i).up = true → f.crcOk = true → f.kind < 4 → f.lseq = ((s.port i).rxSeq + 1) % 65536 →
      ∃ s', exec (.flitReceive i f t) s = .next s' ∧ (s'.port i).rxSeq = f.lseq ∧ (s'.port i).nacked = false ∧
        s.onlyLinks { s' with obs := s.obs }) ∧
    (∀ f : Flit, f.vc < 4 → (s.port i).up = true → f.crcOk = true → f.kind = kindCredit →
      ∃ s', exec (.flitReceive i f t) s = .next s' ∧ (s'.port i).rxSeq = (s.port i).rxSeq ∧ (s'.port i).up = true ∧
        s.onlyLinks { s' with obs := s.obs }) ∧
    (∀ f : Flit, f.vc < 4 → (s.port i).up = true → f.crcOk = true → f.kind = kindNack →
      (∀ u ∈ (s.port i).unacked, seqReached f.lack u.flit.lseq = true) →
      ∃ s', exec (.flitReceive i f t) s = .next s' ∧ (s'.port i).rxSeq = (s.port i).rxSeq ∧ (s'.port i).up = true ∧
        (s'.port i).replays = (s.port i).replays ∧ s.onlyLinks { s' with obs := s.obs }) ∧
    (∀ lack, lack < 65536 → (s.port i).up = true → (∀ u ∈ (s.port i).unacked, seqReached lack u.flit.lseq = true) →
      ∃ s', exec (.nackReceive i lack t) s = .next s' ∧ (s'.port i).unacked = [] ∧
        (s'.port i).replays = (s.port i).replays ∧ { s' with time := s.time, fabric := s.fabric } = s) ∧
    (∀ lack left, lack < 65536 → (s.port i).up = true →
      left = (s.port i).unacked.filter (fun u => !seqReached lack u.flit.lseq) → left ≠ [] → (∀ u ∈ left, u.replays < 7) →
      ∃ s', exec (.nackReceive i lack t) s = .next s' ∧ (s'.port i).up = true ∧
        (s'.port i).unacked.map (fun u => (u.flit.lseq, u.flit.vc, u.flit.dst, u.flit.msg, u.flit.payload, u.replays)) =
          left.map (fun u => (u.flit.lseq, u.flit.vc, u.flit.dst, u.flit.msg, u.flit.payload, u.replays + 1)) ∧
        (∀ u ∈ (s'.port i).unacked, u.flit.lack = (s.port i).rxSeq ∧ u.flit.sendTime = max s.time.now t ∧
          u.flit.crcOk = true) ∧
        (s'.port i).replays = min ((s.port i).replays + 1) 65535) ∧
    (∀ lack, lack < 65536 → (s.port i).up = true →
      (∃ u ∈ (s.port i).unacked, seqReached lack u.flit.lseq = false ∧ 7 ≤ u.replays) →
      ∃ s', exec (.nackReceive i lack t) s = .next s' ∧ (s'.port i).up = false ∧ (s'.port i).unacked = []) ∧
    ((s.port i).up = true → (s.port i).tx = [] → (∃ n ∈ (s.port i).owed, 0 < n) →
      ∃ s', exec (.creditFlit i t) s = .next s' ∧ (s'.port i).owed = (s.port i).owed.map (· - 15) ∧
        (∃ f, (s'.port i).linkOut = some f ∧ f.kind = kindCredit ∧ f.credits = (s.port i).owed.map (min · 15) ∧
          f.lack = (s.port i).rxSeq) ∧
        (∀ j, j ≠ i → s'.port j = s.port j) ∧ { s' with time := s.time, fabric := s.fabric } = s) ∧
    (∀ g : GrantAnswer, g.vc < 4 → g.granted = true →
      (∃ m ∈ s.fabric.msgs, m.same g.vc g.msg = true ∧ m.requested = true ∧ m.granted = false) →
      ∃ s', exec (.grant g t) s = .next s' ∧ (∀ m ∈ s'.fabric.msgs, m.same g.vc g.msg = true → m.granted = true) ∧
        (s.fabric.census ≠ 4 → s'.fabric = { s.fabric with msgs := s.fabric.msgs.map fun m =>
          if (m.same g.vc g.msg) then { m with granted := true } else m }) ∧ s.onlyFabric s') ∧
    (∀ (g : GrantAnswer) (m : FabMsg), g.vc < 4 → g.granted = false →
      s.fabric.msgs.find? (fun m => m.same g.vc g.msg && m.requested && !m.granted) = some m →
      ∃ s', exec (.grant g t) s = .next s' ∧
        (g.vc = 2 → m.cmd = none → (∀ x ∈ s'.fabric.msgs, x.same g.vc g.msg = false) ∧
          s'.hub.counters = bumpAt s.hub.counters 10 1 ∧ { s' with time := s.time, fabric := s.fabric, hub := s.hub } = s) ∧
        (g.vc ≠ 2 → s'.fabric = { s.fabric with msgs := s.fabric.msgs.map fun m =>
          if (m.same g.vc g.msg) then { m with requested := false } else m } ∧
          { s' with time := s.time, fabric := s.fabric } = s)) ∧
    (∀ g : GrantAnswer, (∀ m ∈ s.fabric.msgs, m.same g.vc g.msg = true → m.requested = false ∨ m.granted = true) →
      ∃ s', exec (.grant g t) s = .next s' ∧ { s' with time := s.time } = s) ∧
    ((s.port i).up = true → (∀ p, (s.port i).pinged = some p → p + 1024 * ticksPerUs ≤ max s.time.now t) →
      ∃ s', exec (.ping i t) s = .next s' ∧ (s'.port i).pinged = some (max s.time.now t) ∧ s.onlyLinks s') ∧
    ((s.port i).up = false ∨ (∃ p, (s.port i).pinged = some p ∧ max s.time.now t < p + 1024 * ticksPerUs) →
      ∃ s', exec (.ping i t) s = .next s' ∧ { s' with time := s.time } = s)

/-- The census (R379-R385): a census message of a higher epoch is joined in COLLECT and a lower one discarded; a new
neighbour and the enabling of ports with none up start one; a REPORT is kept once; a ROUTE of
this epoch moves to VERIFY, but to FAILED where two nodes lie more than eight hops apart; the leader takes answers of its
epoch alone; ENABLE of the epoch in VERIFY makes the
routes of the ROUTE message the ones in force; a census that has not completed 50 ms after its start fails. Completion:
CENSUS_START, HAIL, SELF_CENSUS, REPORT, COLLECT_END, ROUTE, VERIFY_OK, ENABLE, CENSUS_TIMEOUT. -/
def Obligations.CensusEvents : Prop :=
  ∀ (s : State) (i : Nat) (t : Nat), i < 4 → s.fabric.ports.length = 4 →
    (∀ epoch, epoch < 2 ^ 32 → s.fabric.ports.any (·.enabled) = true → s.fabric.highestEpoch < epoch →
      ∃ s', exec (.censusStart epoch t) s = .next s' ∧ s'.fabric.census = 1 ∧ s'.fabric.epoch = epoch ∧
        s'.fabric.highestEpoch = epoch ∧ s'.fabric.reports = [s.ownReport epoch] ∧ s'.fabric.verified = [] ∧
        s.onlyFabric s') ∧
    (∀ epoch, epoch ≤ s.fabric.highestEpoch →
      ∃ s', exec (.censusStart epoch t) s = .next s' ∧ { s' with time := s.time } = s) ∧
    (∀ h, (s.port i).up = true → s.inCensus = false → (s.port i).enabled = true →
      ∃ s', exec (.hail i h t) s = .next s' ∧ (h = (s.port i).neighbour → { s' with time := s.time } = s) ∧
        (h ≠ (s.port i).neighbour → (s'.port i).neighbour = h ∧ s'.fabric.census = 1 ∧
          s'.fabric.epoch = (s.fabric.highestEpoch + 1) % 2 ^ 32) ∧
        s.onlyFabric s') ∧
    (∀ e, s.fabric.enabledAt = some e → e + 1000 * ticksPerUs ≤ max s.time.now t → s.fabric.ports.any (·.enabled) = true →
      s.fabric.ports.any (·.up) = false → s.inCensus = false →
      ∃ s', exec (.selfCensus t) s = .next s' ∧ s'.fabric.enabledAt = none ∧ s'.fabric.census = 1 ∧
        s.onlyFabric s') ∧
    (∀ r : CensusReport, s.fabric.census = 1 → r.epoch = s.fabric.epoch → r.epoch < 2 ^ 32 →
      r.epoch ≤ s.fabric.highestEpoch →
      ∃ s', exec (.report r i t) s = .next s' ∧
        (s.fabric.reports.any (fun x => x.hash == r.hash) = true → { s' with time := s.time } = s) ∧
        (s.fabric.reports.any (fun x => x.hash == r.hash) = false →
          s'.fabric.reports = s.fabric.reports ++ [r] ∧ s'.fabric.quietSince = max s.time.now t ∧
          s.onlyFabric s' ∧ s'.farming = s.farming ∧ s'.req = s.req)) ∧
    (s.fabric.census = 1 → max s.time.now t < s.fabric.quietSince + 20 * ticksPerUs →
      ∃ s', exec (.collectEnd t) s = .next s' ∧ { s' with time := s.time } = s) ∧
    (s.fabric.census = 1 → s.fabric.quietSince + 20 * ticksPerUs ≤ max s.time.now t → s.collected = true →
      (sortReports s.fabric.reports).head?.map (·.hash) ≠ some s.part.certHash →
      ∃ s', exec (.collectEnd t) s = .next s' ∧ s'.fabric = { s.fabric with census := 2 } ∧
        { s' with time := s.time, fabric := s.fabric } = s) ∧
    (∀ r : RouteMsg, s.fabric.census = 1 ∨ s.fabric.census = 2 → r.epoch = s.fabric.epoch → r.epoch < 2 ^ 32 →
      r.epoch ≤ s.fabric.highestEpoch → s.ownId r ≠ 0xFF → routeLeader r ≠ s.ownId r →
      routeSealed r = false ∨ routeWithin8 r = true →
      ∃ s', exec (.route r t) s = .next s' ∧ s'.fabric.census = 3 ∧ s'.fabric.routeMsg = some r ∧
        s.onlyFabric s' ∧ s'.farming = s.farming ∧ s'.req = s.req) ∧
    (∀ r : RouteMsg, s.fabric.census = 1 ∨ s.fabric.census = 2 → r.epoch = s.fabric.epoch → r.epoch < 2 ^ 32 →
      r.epoch ≤ s.fabric.highestEpoch → routeSealed r = true → routeWithin8 r = false → s.fabric.again = false →
      ∃ s', exec (.route r t) s = .next s' ∧ s'.fabric.census = 5) ∧
    (∀ node v, s.fabric.census ≠ 3 ∨ v.epoch ≠ s.fabric.epoch →
      ∃ s', exec (.verifyOk node v t) s = .next s' ∧ { s' with time := s.time } = s) ∧
    (∀ node (v : VerifyAnswer) r, node < 256 → v.epoch < 2 ^ 32 → v.epoch = s.fabric.epoch → s.fabric.census = 3 →
      s.fabric.routeMsg = some r → routeLeader r = s.ownId r → ∃ s', exec (.verifyOk node v t) s = .next s' ∧
        (v.ok = false → s.fabric.repeated = true → s.fabric.again = false → s'.fabric.census = 5) ∧
        (v.ok = false → s.fabric.repeated = false → s'.fabric.census = 1 ∧ s'.fabric.repeated = true ∧
          s'.fabric.epoch = (s.fabric.highestEpoch + 1) % 2 ^ 32) ∧
        (v.ok = true → node ∈ routeNodes r → (∃ k ∈ routeNodes r, k ≠ node ∧ k ∉ s.fabric.verified) → s'.fabric.census = 3 ∧
          node ∈ s'.fabric.verified ∧ { s' with time := s.time, fabric := s.fabric } = s)) ∧
    (∀ r, s.fabric.census = 3 → s.fabric.routeMsg = some r → r.epoch = s.fabric.epoch → r.epoch < 2 ^ 32 →
      s.fabric.again = false →
      s.frame.devState ≠ 2 →
      ∃ s', exec (.enable s.fabric.epoch t) s = .next s' ∧ s'.fabric.census = 4 ∧ s'.fabric.nodeId = s.ownId r ∧
        s'.fabric.leader = routeLeader r ∧ s'.fabric.nextHop = routeHops r (s.ownId r) ∧
        s'.fabric.censusCount = s.fabric.censusCount + 1 ∧ s'.fabric.lastCensus = max s.time.now t ∧ s'.frame = s.frame ∧
        s'.part = s.part ∧ s'.images = s.images ∧ s'.streams = s.streams) ∧
    (s.inCensus = true → s.fabric.censusStart + 50000 * ticksPerUs ≤ max s.time.now t → s.fabric.again = false →
      ∃ s', exec (.censusTimeout t) s = .next s' ∧ s'.fabric.census = 5 ∧ s'.frame = s.frame ∧ s'.part = s.part ∧
        s'.streams = s.streams) ∧
    (s.inCensus = false ∨ max s.time.now t < s.fabric.censusStart + 50000 * ticksPerUs →
      ∃ s', exec (.censusTimeout t) s = .next s' ∧ { s' with time := s.time } = s)

/-- Fabric commands (R352, R379, R381, R386, R389): FAB_STATUS and FAB_ROUTE_READ answer the state of the fabric; FAB_PORTS
enables and lowers links in IDLE and PAUSED and starts a census; FAB_CENSUS waits for the census that it forces; a node
binding goes to the ledger; shard and farming tables are checked entry by entry and wait for the next census. Completion:
FAB_STATUS, FAB_PORTS, FAB_CENSUS, FAB_ROUTE_READ, FAB_NODE_BIND, FAB_SHARD, FAB_FARM. -/
def Obligations.FabricCommands : Prop :=
  ∀ (s : State) (fn slot a len : Nat) (t : Nat) (c : Cmd), isSlot fn slot → s.fabric.ports.length = 4 →
    (s.isReady 0x0A01 fn slot c → c.payload = [] →
      ∃ s' p, exec (.fabStatus fn slot t) s = .next s' ∧ s'.reply? fn slot = some (okReply p) ∧ p.length = 64 ∧
        slice p 0 1 = le 1 s.fabric.nodeId ∧ slice p 1 1 = le 1 s.fabric.leader ∧ slice p 2 1 = le 1 s.fabric.census ∧
        slice p 4 1 = le 1 s.fabric.nodes ∧ slice p 8 4 = le 4 s.fabric.censusCount ∧
        slice p 12 8 = le 8 s.fabric.lastCensus ∧ s.onlyAnswered s') ∧
    (s.isReady 0x0A02 fn slot c → c.payload.length = 8 → allZero (slice c.payload 1 7) = true → getU c.payload 0 1 < 16 →
      ∃ s', exec (.fabPorts fn slot t) s = .next s' ∧
        (s.frame.devState = 1 → s'.reply? fn slot = some (refusal 0x0201) ∧ s.onlyAnswered s') ∧
        (s.frame.devState ∈ [0, 2] → s'.reply? fn slot = some (okReply []) ∧
          (∀ i < 4, (s'.port i).enabled = bit (getU c.payload 0 1) i) ∧
          (∀ i < 4, bit (getU c.payload 0 1) i = false → (s'.port i).up = false) ∧
          (getU c.payload 0 1 ≠ 0 → s.inCensus = false → s'.fabric.census = 1) ∧
          s.onlyFabric { s' with det := s.det, mbx := { s'.mbx with cmds := s.mbx.cmds } })) ∧
    (s.isReady 0x0A03 fn slot c → c.payload = [] →
      ∃ s', exec (.fabCensus fn slot t) s = .next s' ∧
        (s.inCensus = true → s'.waitsAt fn slot ∧ s'.fabric = { s.fabric with again := true }) ∧
        (s.inCensus = false → s.fabric.ports.any (·.enabled) = true → s'.waitsAt fn slot ∧ s'.fabric.census = 1 ∧
          s'.fabric.epoch = (s.fabric.highestEpoch + 1) % 2 ^ 32) ∧
        (s.inCensus = false → s.fabric.ports.any (·.enabled) = false → s'.reply? fn slot = some (okReply []) ∧
          s'.fabric.census = 0 ∧ s'.fabric.nodeId = 0xFF) ∧
        s.onlyFabric { s' with det := s.det, mbx := { s'.mbx with cmds := s.mbx.cmds } }) ∧
    (s.isReady 0x0A04 fn slot c → c.payload = [] → c.descs = [{ addr := a, len := len, write := true }] →
      s.dmaOk fn = true →
      ∃ s', exec (.fabRouteRead fn slot t) s = .next s' ∧
        ((Config.routeTable s.fabric.nextHop).length ≤ len →
          s'.reply? fn slot = some (okReply (le 4 (Config.routeTable s.fabric.nextHop).length)) ∧
          s'.host = Mem.writeBytes a (Config.routeTable s.fabric.nextHop) s.host) ∧
        { s' with time := s.time, det := s.det, mbx := { s'.mbx with cmds := s.mbx.cmds }, host := s.host,
                  clusters := s.clusters, stks := s.stks, hub := s.hub } = s) ∧
    (s.isReady 0x0A05 fn slot c → c.payload.length = 8 → allZero (slice c.payload 1 7) = true → s.frame.devState = 0 →
      getU c.payload 0 1 < 64 ∨ getU c.payload 0 1 = 0xFF → s.part.ledgerRoom 2 = true →
      ∃ s', exec (.fabNodeBind fn slot t) s = .next s' ∧ s'.reply? fn slot = some (okReply []) ∧
        s'.boundId = getU c.payload 0 1 ∧ (∀ e ∈ s.part.ledger, e ∈ s'.part.ledger) ∧
        { s' with time := s.time, det := s.det, mbx := { s'.mbx with cmds := s.mbx.cmds },
                  part := { s'.part with ledger := s.part.ledger } } = s) ∧
    (∀ rs, s.isReady 0x0A06 fn slot c → c.payload = [] → s.anySession [3] = false → tableEntries 32 c.bulk = .inr rs →
      (∀ r ∈ rs, allZero (slice r 4 4) = true) →
      ∃ s', exec (.fabShard fn slot t) s = .next s' ∧
        (∀ k, (List.range rs.length).find? (s.shardBad (rs.map shardOf)) = some k →
          s'.reply? fn slot = some (refusal 0x0106 k) ∧ s.onlyAnswered s') ∧
        ((List.range rs.length).find? (s.shardBad (rs.map shardOf)) = none → s'.reply? fn slot = some (okReply []) ∧
          s'.farming = { s.farming with pendingShards := some (rs.map shardOf), shardsCensus := false } ∧
          { s' with time := s.time, det := s.det, mbx := { s'.mbx with cmds := s.mbx.cmds }, farming := s.farming } = s)) ∧
    (∀ rs, s.isReady 0x0A07 fn slot c → c.payload = [] → s.anySession [3] = false → tableEntries 8 c.bulk = .inr rs →
      (∀ r ∈ rs, allZero (slice r 4 4) = true) →
      ∃ s', exec (.fabFarm fn slot t) s = .next s' ∧
        (∀ k, (List.range rs.length).find? (s.farmBad (rs.map farmOf)) = some k →
          s'.reply? fn slot = some (refusal 0x0106 k) ∧ s.onlyAnswered s') ∧
        ((List.range rs.length).find? (s.farmBad (rs.map farmOf)) = none → s'.reply? fn slot = some (okReply []) ∧
          s'.farming = { s.farming with pendingFarms := some (rs.map farmOf), farmsCensus := false } ∧
          { s' with time := s.time, det := s.det, mbx := { s'.mbx with cmds := s.mbx.cmds }, farming := s.farming } = s))

/-- Messages from other nodes (R46, R298, R387, R390, R391, R300): a farm message is bound to the frame that its arrival falls
in, strictly before T_c, and none is taken in replay; the completion of forwarded brine becomes the proxy's response, with
its record count or, of an urgent command, two free values beside the frame, and returns its landing space; forwarded brine
that arrives and passes its checks waits as a brine command of this device, one that fails a check leaves no command, and its
status and index go back to its source, and one for a proxy slot goes on to its home. Completion: FARM_REQ, FARM_REPLY,
BRINE_COMPLETION, FABRIC_BRINE_ARRIVAL. -/
def Obligations.FabricMessages : Prop :=
  (∀ (s : State) (port src : Nat) (body : List Byte) (t now : Nat) (frame : BitVec 32), port < 4 → src < 64 →
     now = max s.time.now t → frame = (if s.gridRuns = true ∧ s.frame.phase = .opened ∧
       now < s.frame.openTime + s.frame.conf.tc * ticksPerUs then s.frame.counter else s.frame.counter + 1) →
     (s.frame.devState ≠ 3 → ∃ s', exec (.farmReq port src body t) s = .next s' ∧
       s' = { s with
         time := s'.time,
         farming := { s.farming with inputs := s.farming.inputs ++ [{
           kind := 0, src := src, frame := frame, body := body, world := port, seq := now }] } } ∧ s'.time.now = now) ∧
     (s.frame.devState ≠ 3 → ∃ s', exec (.farmReply port body t) s = .next s' ∧
       s' = { s with
         time := s'.time,
         farming := { s.farming with inputs := s.farming.inputs ++ [{
           kind := 1, src := getU body 4 1, frame := frame, body := body, world := port, seq := now }] } } ∧
       s'.time.now = now) ∧
     (s.frame.devState = 3 → (∃ s', exec (.farmReq port src body t) s = .next s' ∧ { s' with time := s.time } = s) ∧
       ∃ s', exec (.farmReply port body t) s = .next s' ∧ { s' with time := s.time } = s)) ∧
  (∀ (s : State) (msg frame t : Nat),
     ((∀ c ∈ s.mbx.cmds, c.proxyMsg = some msg → c.response ≠ none) → ∀ status arg,
       ∃ s', exec (.brineCompletion msg status arg frame t) s = .next s' ∧ { s' with time := s.time } = s) ∧
     (∀ c n, s.mbx.cmds.find? (fun x => x.proxyMsg == some msg && x.response.isNone) = some c →
       s.cmd? c.fn c.slot = some c → n = c.recordList.elim (fun _ => 0) List.length → ∀ status arg,
       ∃ s', exec (.brineCompletion msg status arg frame t) s = .next s' ∧
         (status ≠ 0 → s'.reply? c.fn c.slot = some (refusal status arg)) ∧
         (status = 0 → c.opcode ≠ 0x0402 →
           s'.reply? c.fn c.slot = some { status := 0, arg := arg, payload := le 4 n ++ le 4 frame }) ∧
         (status = 0 → c.opcode = 0x0402 → ∃ p, s'.reply? c.fn c.slot = some { status := 0, arg := arg, payload := p } ∧
           p.length = 16 ∧ slice p 8 4 = le 4 frame ∧ allZero (slice p 13 3) = true) ∧
         (c.opcode ≠ 0x0402 → s'.free = s.free) ∧
         s'.worlds.landingUsed = s.worlds.landingUsed -
           (if c.opcode = 0x0401 ∨ c.opcode = 0x0402 then c.fetchBytes else 0) ∧
         s'.fabric.msgs = s.fabric.msgs.filter (fun m => !(m.same 1 msg)) ∧
         { s' with
           time := s.time, mbx := { s'.mbx with cmds := s.mbx.cmds },
           worlds := { s'.worlds with landingUsed := s.worlds.landingUsed },
           fabric := { s'.fabric with msgs := s.fabric.msgs }, free := s.free } = s)) ∧
  (∀ (s : State) (port src world seq : Nat) (urgent : Bool) (body : List Byte) (t : Nat) (c : Cmd), port < 4 → src < 64 →
     (s.frame.devState = 3 →
       ∃ s', exec (.fabricBrineArrival port src urgent world seq body t) s = .next s' ∧ { s' with time := s.time } = s) ∧
     (s.frame.devState ≠ 3 → s.mbx.cmds.length < 65536 → (∀ x ∈ s.mbx.cmds, x.fn = fabricFn → x.response = none) →
       s.allRouted → c = (s.at t).fabricCmd port src urgent world seq body →
       (c.world ≤ 3 → s.isProxy c.world = false → (s.wd c.world).loaded = true → ∀ rs, c.recordList = .inr rs → rs ≠ [] →
         (urgent = true → rs.length ≤ 16) →
         (∀ i < rs.length, recordBad urgent c.world (s.wd c.world) (rs.getD i []) = none) →
         (urgent = false → ∀ r ∈ rs, (recFrame r - c.frame).toInt ≤ 16) →
         ∃ s', exec (.fabricBrineArrival port src urgent world seq body t) s = .next s' ∧
           s'.mbx = { s.mbx with
             cmds := s.mbx.cmds ++ [{ c with
               stage := .waiting, frame := if urgent then c.frame else (rs.map recFrame).foldl laterOf c.frame }],
             nextOrder := s.mbx.nextOrder + 1 } ∧
           s.onlyFabric { s' with mbx := s.mbx }) ∧
       (∀ status arg, s.fabricRefuses urgent c status arg →
         ∃ s', exec (.fabricBrineArrival port src urgent world seq body t) s = .next s' ∧
           s'.mbx = { s.mbx with nextOrder := s.mbx.nextOrder + 1 } ∧
           (∀ p, s.portTo src = some p → p < 4 → s.fabric.ports.length = 4 →
             ∃ f, (f ∈ (s'.port p).tx ∨ f ∈ (s'.port p).unacked.map (·.flit)) ∧ f.dst = src ∧
               f.payload = le 4 seq ++ le 2 status ++ le 2 arg ++ le 4 s.frameNo) ∧
           s.onlyFabric { s' with mbx := s.mbx, det := s.det }) ∧
       (∀ e, c.world ≤ 3 → s.farming.shards.find? (fun e => e.home != s.fabric.nodeId && e.localWorld == c.world) = some e →
         s.reachable e.home = true → (s.fabric.census = 4 → (s.portTo e.home).isSome = true) →
         ∃ s', exec (.fabricBrineArrival port src urgent world seq body t) s = .next s' ∧
           s'.mbx = { s.mbx with
             cmds := s.mbx.cmds ++ [{ c with stage := .waiting, proxyMsg := some (s.fabric.nextId 1) }],
             nextOrder := s.mbx.nextOrder + 1 } ∧
           s.onlyFabric { s' with mbx := s.mbx, det := s.det })))

/-- Power inputs (R32, R466 to R471): 3V3_AUX starts the always-on domain of a module that was OFF, with the limiter at 420
W, the SMBus address from the straps, the levels of PERST_N, lid and TAMPER_N and the real-time counter past the ledger's
newest record, and the rails follow where 54 V is in range; 54 V in range starts the rails, but SHUTDOWN only after it was
away for 1 s; an excursion or a rail fault drives the SAFE pins static, records its cause, and the rails go off 200 us
later, which closes everything but fuses, flash and the always-on domain; with both inputs away the module is OFF and both
pins read low. Completion: AUX_RISE, AUX_LOSS, MAIN_IN_RANGE, UNDERVOLTAGE, OVERVOLTAGE, RAIL_FAULT, RAILS_OFF. -/
def Obligations.PowerInputs : Prop :=
  ∀ (s : State) (g0 g1 perst lid tamper : Bool) (t : Nat),
    (s.aon.auxPresent = false → s.aon.pstate = 0 →
      ∃ s', exec (.auxRise g0 g1 perst lid tamper t) s = .next s' ∧ s'.aon.auxPresent = true ∧
        s'.aon.pstate = (if s.aon.mainInRange then 2 else 1) ∧ s'.aon.railsUp = s.aon.mainInRange ∧
        s'.aon.limit = 420 ∧ s'.mgmt.smbAddress = 76 + (if g1 then 2 else 0) + (if g0 then 1 else 0) ∧
        s'.mgmt.bootSel = none ∧ s'.mgmt.linkLatched = false ∧ s'.mgmt.perstAsserted = !perst ∧ s'.mgmt.lid = lid ∧ s'.mgmt.tamperPin = tamper ∧
        (∀ e ∈ s.part.ledger, e.time < s'.mgmt.rtc) ∧ s'.part = s.part ∧ s'.flash = s.flash ∧ s'.host = s.host) ∧
    (s.aon.auxPresent = true ∨ s.aon.pstate ≠ 0 →
      ∃ s', exec (.auxRise g0 g1 perst lid tamper t) s = .next s' ∧ s'.aon = { s.aon with auxPresent := true } ∧
        s'.mgmt.linkLatched = (s.mgmt.linkLatched && s.aon.auxPresent) ∧
        { s' with time := s.time, aon := s.aon, mgmt := { s'.mgmt with linkLatched := s.mgmt.linkLatched } } = s) ∧
    (s.aon.railsUp = true ∨ s.aon.mainInRange = true →
      ∃ s', exec (.auxLoss t) s = .next s' ∧ s'.aon = { s.aon with auxPresent := false } ∧ s'.mgmt.linkLatched = false ∧
        { s' with time := s.time, aon := s.aon, mgmt := { s'.mgmt with linkLatched := s.mgmt.linkLatched } } = s) ∧
    (s.aon.railsUp = false → s.aon.mainInRange = false →
      ∃ s', exec (.auxLoss t) s = .next s' ∧ s'.aon.pstate = 0 ∧ s'.aon.auxPresent = false ∧ (∀ i < 16, (s'.ses i).state = 0) ∧
        s'.safety.safeA = false ∧ s'.safety.safeB = false ∧
        s'.part = s.part ∧ s'.flash = s.flash ∧ s'.host = s.host) ∧
    (s.aon.railsUp = false → (s.aon.auxPresent = true ∧ s.aon.pstate ≠ 5) ∨
      (s.aon.pstate = 5 ∧ s.aon.mainInRange = false ∧ s.aon.shutdownSince + 1000000 * ticksPerUs ≤ max s.time.now t) →
      ∃ s', exec (.mainInRange t) s = .next s' ∧ s'.aon.mainInRange = true ∧ s'.aon.railsUp = true ∧ s'.aon.pstate = 2 ∧
        s'.aon.wakeN = false ∧ s'.aon.thermTripped = false ∧ { s' with time := s.time, aon := s.aon } = s) ∧
    (s.aon.railsUp = true ∨ (s.aon.pstate ≠ 5 ∧ s.aon.auxPresent = false) ∨ (s.aon.pstate = 5 ∧
        (s.aon.mainInRange = true ∨ max s.time.now t < s.aon.shutdownSince + 1000000 * ticksPerUs)) →
      ∃ s', exec (.mainInRange t) s = .next s' ∧ s'.aon = { s.aon with mainInRange := true, wakeN := false } ∧
        { s' with time := s.time, aon := s.aon } = s) ∧
    (∀ i b p, (i, b, p) ∈ [(Instr.undervoltage t, 3, s.aon.pstate), (.overvoltage t, 4, 5), (.railFault t, 5, 5)] →
      s.aon.railsUp = true → ∃ s', exec i s = .next s' ∧ bit s'.aon.cause b = true ∧ s'.aon.pstate = p ∧
        s'.aon.railsUp = true ∧ s'.aon.railsOffDue = some (max s.time.now t + 200 * ticksPerUs) ∧
        s'.safety.safeA = false ∧ s'.safety.safeB = true ∧ s'.safety.latch = s.safety.latch ∧ s'.mgmt.smbAlert = true ∧
        { s' with time := s.time, aon := s.aon, safety := s.safety, mgmt := s.mgmt } = s) ∧
    (s.aon.railsUp = false →
      (s.aon.auxPresent = true → ∃ s', exec (.undervoltage t) s = .next s' ∧ s'.aon.mainInRange = false ∧
        s'.aon.pstate = s.aon.pstate ∧ { s' with time := s.time, aon := s.aon } = s) ∧
      (s.aon.auxPresent = false → ∃ s', exec (.undervoltage t) s = .next s' ∧ s'.aon.pstate = 0 ∧
        s'.safety.safeA = false ∧ s'.safety.safeB = false ∧ s'.part = s.part ∧ s'.flash = s.flash ∧ s'.host = s.host) ∧
      ∀ i ∈ [Instr.overvoltage t, .railFault t], ∃ s', exec i s = .next s' ∧ { s' with time := s.time } = s) ∧
    (∀ due, s.aon.railsOffDue = some due → due ≤ max s.time.now t → s.aon.auxPresent = false → s.aon.mainInRange = false →
      ∃ s', exec (.railsOff t) s = .next s' ∧ s'.aon.railsUp = false ∧ s'.aon.pstate = 0 ∧ s'.boot.cfwUp = false ∧
        s'.safety.safeA = false ∧ s'.safety.safeB = false ∧ (∀ i < 16, (s'.ses i).state = 0) ∧
        s'.part = s.part ∧ s'.flash = s.flash ∧ s'.host = s.host) ∧
    (∀ due, s.aon.railsOffDue = some due → due ≤ max s.time.now t → s.aon.auxPresent = true ∨ s.aon.mainInRange = true →
      ∃ s', exec (.railsOff t) s = .next s' ∧ s'.aon.railsUp = false ∧ s'.aon.railsOffDue = none ∧
        s'.aon.pstate = (if s.aon.pstate = 5 then 5 else if s.aon.auxPresent then 1 else 0) ∧ s'.boot.cfwUp = false ∧
        s'.safety.safeA = false ∧ s'.safety.safeB = true ∧ (∀ i < 16, (s'.ses i).state = 0) ∧ s'.streams = [] ∧
        s'.hbm = [] ∧ s'.aon.cause = s.aon.cause ∧ s'.part = s.part ∧ s'.flash = s.flash ∧ s'.host = s.host) ∧
    ((∀ due, s.aon.railsOffDue = some due → max s.time.now t < due) →
      ∃ s', exec (.railsOff t) s = .next s' ∧ { s' with time := s.time } = s)

/-- PWR_CTL, WAKE_N, SMB_ALERT_N and HUB_ONLY (R469, R470, R478, R479, Table 21.12): OFF with the key drives the SAFE pins
static and switches the rails off 200 us later; WAKE asserts WAKE_N in STANDBY and 1 s releases it; RESTART leaves SHUTDOWN,
after a trip only 10 s later, by a cold start where 54 V is in range; a wrong key, or OFF together with RESTART, does
nothing; a stack leaves HUB_ONLY when something needs it and returns when nothing does. Completion: PWR_CTL_OFF,
PWR_CTL_WAKE, PWR_CTL_RESTART, WAKE_N_TIMEOUT, SMB_ALERT_RESPONSE, HUB_ONLY_EXIT, HUB_ONLY_ENTRY. -/
def Obligations.PowerControl : Prop :=
  ∀ (s : State) (v k : Nat) (t : Nat),
    (v / 65536 = 0x5057 → bit v 0 = true → bit v 1 = false → bit v 2 = false →
      ∃ s', exec (.pwrCtlOff v t) s = .next s' ∧ s'.aon.pstate = 5 ∧ bit s'.aon.cause 7 = true ∧
        s'.aon.railsOffDue = some (max s.time.now t + 200 * ticksPerUs) ∧ s'.aon.railsUp = s.aon.railsUp ∧
        s'.safety.safeA = false ∧ s'.safety.safeB = true ∧ s'.safety.latch = s.safety.latch ∧
        { s' with time := s.time, aon := s.aon, safety := s.safety, mgmt := s.mgmt } = s) ∧
    (v / 65536 = 0x5057 → bit v 0 = false → bit v 1 = true → bit v 2 = false → s.aon.pstate = 1 →
      ∃ s', exec (.pwrCtlWake v t) s = .next s' ∧
        s'.aon = { s.aon with wakeN := true, wakeSince := max s.time.now t } ∧
        { s' with time := s.time, aon := s.aon } = s) ∧
    (v / 65536 = 0x5057 → bit v 0 = false → bit v 1 = false → bit v 2 = true → s.aon.pstate = 5 →
      (∀ u, s.aon.tripTime = some u → u + 10000000 * ticksPerUs ≤ max s.time.now t) →
      ∃ s', exec (.pwrCtlRestart v t) s = .next s' ∧ s'.aon.pstate = (if s.aon.mainInRange then 2 else 1) ∧
        s'.aon.railsUp = s.aon.mainInRange ∧ s'.aon.railsOffDue = none ∧ s'.aon.thermTripped = false ∧
        s'.boot.cfwUp = false ∧ (∀ i < 16, (s'.ses i).state = 0) ∧ s'.part = s.part ∧ s'.flash = s.flash ∧
        s'.host = s.host) ∧
    (v / 65536 ≠ 0x5057 ∨ (bit v 0 && bit v 2) = true ∨ (bit v 0 = false ∧ bit v 1 = false ∧ bit v 2 = true ∧
        ∃ u, s.aon.tripTime = some u ∧ max s.time.now t < u + 10000000 * ticksPerUs) →
      ∀ i ∈ [Instr.pwrCtlOff v t, .pwrCtlWake v t, .pwrCtlRestart v t],
        ∃ s', exec i s = .next s' ∧ { s' with time := s.time } = s) ∧
    (∃ s', exec (.wakeNTimeout t) s = .next s' ∧
      s'.aon.wakeN = (s.aon.wakeN && decide (max s.time.now t < s.aon.wakeSince + 1000000 * ticksPerUs)) ∧
      { s' with time := s.time, aon := { s'.aon with wakeN := s.aon.wakeN } } = s) ∧
    (∃ s', exec (.smbAlertResponse t) s = .next s' ∧ s'.mgmt = { s.mgmt with smbAlert := false } ∧
      { s' with time := s.time, mgmt := s.mgmt } = s) ∧
    (k < 4 → s.stks.length = 4 → s.stackNeed = true → (s.stk k).hubOnly = true → s.aon.railsUp = true →
      ∃ s', exec (.hubOnlyExit k t) s = .next s' ∧ (s'.stk k).hubOnly = false ∧ (s'.stk k).pllStopped = false ∧
        s'.aon.pstate = (if s.aon.pstate = 3 then 4 else s.aon.pstate) ∧ (∀ j, j ≠ k → s'.stk j = s.stk j) ∧
        { s' with time := s.time, stks := s.stks, aon := s.aon } = s) ∧
    (k < 4 → s.stks.length = 4 → s.stackNeed = false → (s.stk k).hubOnly = false →
      ∃ s', exec (.hubOnlyEntry k t) s = .next s' ∧ (s'.stk k).hubOnly = true ∧ (∀ j, j ≠ k → s'.stk j = s.stk j) ∧
        ((∀ j < 4, j ≠ k → (s.stk j).hubOnly = true) → s.aon.pstate = 4 → s'.aon.pstate = 3) ∧
        { s' with time := s.time, stks := s.stks, aon := s.aon } = s) ∧
    (k < 4 → s.stackNeed = true → ∃ s', exec (.hubOnlyEntry k t) s = .next s' ∧ { s' with time := s.time } = s)

/-- Heat (R281, R427, R477, R478): a trip of any sensor switches the rails off at once into SHUTDOWN and records every
source; the thermal step of a stack, from its calibrated readings in 1/64 degree, rises by one at 100 degrees, and falls by
one after 1 ms below 97 degrees and 1 ms after its last fall; a refresh band is entered above 85 and 95 degrees and left 2
degrees below. The power limiter (R474): power above 460 W, or a 10 ms average above the limit at least 1 ms after the last
step up, raises the step; below 95 % of the limit and 1 ms after both, it falls; the step stays within 0 to 4. Completion:
THERMAL_TRIP, THERMAL_STEP, HBM_TEMP_READ, POWER_SAMPLE. -/
def Obligations.HeatAndPowerLimit : Prop :=
  (∀ (s : State) (tripped k h : Nat) (hub hbm : Bool) (c : Int) (temps : List Int) (t : Nat), s.aon.railsUp = true →
     (∀ exc : Option Bool, tripped < 2 ^ 64 → (tripped ≠ 0 ∨ hub = true ∨ hbm = true) →
       ∃ s', exec (.thermalTrip tripped hub hbm exc t) s = .next s' ∧ s'.aon.railsUp = false ∧ s'.aon.pstate = 5 ∧
         s'.aon.thermTripped = true ∧ s'.aon.tripTime = some (max s.time.now t) ∧
         bit s'.aon.cause 0 = (bit s.aon.cause 0 || decide (tripped ≠ 0)) ∧ bit s'.aon.cause 1 = (bit s.aon.cause 1 || hub) ∧
         bit s'.aon.cause 2 = (bit s.aon.cause 2 || hbm) ∧ bit s'.aon.cause 3 = (bit s.aon.cause 3 || exc == some false) ∧
         bit s'.aon.cause 4 = (bit s.aon.cause 4 || exc == some true) ∧
         (∀ j < 4, bit s'.aon.cause (8 + j) = (bit s.aon.cause (8 + j) || decide (tripped / 2 ^ (16 * j) % 2 ^ 16 ≠ 0))) ∧
         s'.mgmt.smbAlert = true ∧ s'.boot.cfwUp = false ∧ (∀ i < 16, (s'.ses i).state = 0) ∧ s'.part = s.part ∧
         s'.flash = s.flash ∧ s'.host = s.host) ∧
     (tripped = 0 → ∃ s', exec (.thermalTrip 0 false false none t) s = .next s' ∧ { s' with time := s.time } = s) ∧
     (k < 4 → s.aon.thermStep.length = 4 → temps ≠ [] →
       ∃ s', exec (.thermalStep k temps t) s = .next s' ∧ s'.aon.tempValid = true ∧
         ((∃ x ∈ s.stackTemps k temps, 6400 ≤ x) → s'.aon.thermStep.getD k 0 = max (s.aon.thermStep.getD k 0) (min 4 (s.aon.thermStep.getD k 0 + 1))) ∧
         ((∃ x ∈ s.stackTemps k temps, 6208 ≤ x) → (∀ x ∈ s.stackTemps k temps, x < 6400) → s'.aon.thermStep = s.aon.thermStep) ∧
         ((∀ x ∈ s.stackTemps k temps, x < 6208) → (∃ u, s.aon.coolSince.getD k none = some u ∧ u + 1000 * ticksPerUs ≤ max s.time.now t) →
           (∀ u, s.aon.lastThermDown.getD k none = some u → u + 1000 * ticksPerUs ≤ max s.time.now t) →
           s'.aon.thermStep.getD k 0 = s.aon.thermStep.getD k 0 - 1) ∧
         (∀ j, j ≠ k → s'.aon.thermStep.getD j 0 = s.aon.thermStep.getD j 0) ∧
         { s' with time := s.time, aon := s.aon, frame := s.frame, det := s.det, free := s.free } = s) ∧
     (h < 2 → s.hub.hbmBand.length = 2 → s.hub.hbmTemp.length = 2 →
       ∃ s', exec (.hbmTempRead h c t) s = .next s' ∧ s'.hub.hbmTemp.getD h 0 = c ∧
         (95 < c → s'.hub.hbmBand.getD h 0 = 2) ∧ (c ≤ 83 → s'.hub.hbmBand.getD h 0 = 0) ∧
         (85 < c → c ≤ 93 → s'.hub.hbmBand.getD h 0 = 1) ∧
         (93 < c → c ≤ 95 → s'.hub.hbmBand.getD h 0 = if s.hub.hbmBand.getD h 0 = 2 then 2 else 1) ∧
         (∀ j, j ≠ h → s'.hub.hbmBand.getD j 0 = s.hub.hbmBand.getD j 0) ∧
         { s' with time := s.time, aon := s.aon, hub := s.hub, frame := s.frame, det := s.det, free := s.free } = s)) ∧
  (∀ (s : State) (power avg voltage : Nat) (t : Nat), s.aon.railsUp = true →
     ∃ s', exec (.powerSample power avg voltage t) s = .next s' ∧ s'.aon.power = avg ∧ s'.aon.voltage = voltage ∧
       (4600 < power → s'.aon.powerStep = min 4 (s.aon.powerStep + 1) ∧ s'.aon.lastOver460 = some (max s.time.now t)) ∧
       (power ≤ 4600 → 10 * s.aon.limit < avg →
         (∀ u, s.aon.lastStepUp = some u → u + 1000 * ticksPerUs ≤ max s.time.now t) →
         s'.aon.powerStep = min 4 (s.aon.powerStep + 1)) ∧
       (power ≤ 4600 → 100 * avg < 950 * s.aon.limit →
         (∀ u, s.aon.lastOver460 = some u → u + 1000 * ticksPerUs ≤ max s.time.now t) →
         (∀ u, s.aon.lastStepChange = some u → u + 1000 * ticksPerUs ≤ max s.time.now t) →
         s'.aon.powerStep = s.aon.powerStep - 1) ∧
       (power ≤ 4600 → avg ≤ 10 * s.aon.limit → 950 * s.aon.limit ≤ 100 * avg → s'.aon.powerStep = s.aon.powerStep) ∧
       { s' with time := s.time, aon := s.aon, frame := s.frame, det := s.det, free := s.free } = s)

/-- Tamper, clock monitors and JTAG (R449, R475, R479, R480): an asserted source of an armed monitor wipes the secure region
and is logged; an unarmed one changes only its level; a lost reference stops the PLLs; the TAP acts as BYPASS in SCRAPPED
and for what the lifecycle bars. Boot (R437 to R440, R443, R448, R471, R472): BOOT_SEL is sampled at the first boot and
holds; the preferred bank runs when it is usable, else the other; its versions stand, the secure region is filled where
nothing holds it wiped, and a cold start reaches power state 3; with no usable bank the device stays in BOOT_FAIL with
SMB_ALERT_N asserted. Completion: TAMPER_EVENT, CLOCK_MONITOR, JTAG_INSTRUCTION, BOOT. -/
def Obligations.TamperTestAndBoot : Prop :=
  (∀ (s : State) (sources : List Nat) (rtc code : Nat) (ok lost : Bool) (t : Nat),
     (s.armed = true → s.aon.railsUp = true → sources ≠ [] → (∀ k ∈ sources, k < 5) → s.mgmt.tamperCount < 65530 →
       ∃ s', exec (.tamperEvent sources rtc t) s = .next s' ∧ s'.hub.secretsKeys = false ∧ s'.hub.secretsGolden = false ∧
         s'.hub.secureWiped = true ∧ s'.hub.wipeDone = some (max s.time.now t + 40 * ticksPerUs) ∧ s'.mgmt.smbAlert = true ∧
         s'.mgmt.tamperCount = s.mgmt.tamperCount + ((List.range 5).filter fun k => sources.contains k).length ∧
         s'.mgmt.lid = (s.mgmt.lid || sources.contains 0) ∧ s'.mgmt.tamperPin = (s.mgmt.tamperPin || sources.contains 1) ∧
         { s' with time := s.time, mgmt := s.mgmt, hub := s.hub, sram := s.sram } = s) ∧
     (s.armed = false → (∀ k ∈ sources, k < 5) →
       ∃ s', exec (.tamperEvent sources rtc t) s = .next s' ∧ s'.mgmt.tamperLog = s.mgmt.tamperLog ∧
         s'.mgmt.tamperCount = s.mgmt.tamperCount ∧ s'.mgmt.lid = (s.mgmt.lid || sources.contains 0) ∧
         { s' with time := s.time, mgmt := s.mgmt } = s) ∧
     (∃ s', exec (.clockMonitor ok lost t) s = .next s' ∧ s'.mgmt.clkMon = !ok ∧
       (∀ k < 4, s.stks.length = 4 → (s'.stk k).pllStopped = ((s.stk k).pllStopped || lost)) ∧
       (ok = false → s.mgmt.clkMon = false → s.armed = true → s.aon.railsUp = true →
         s'.hub.secureWiped = true ∧ s'.mgmt.smbAlert = true) ∧
       { s' with time := s.time, mgmt := s.mgmt, stks := s.stks, hub := s.hub, sram := s.sram } = s) ∧
     (code < 256 → s.aon.railsUp = true → ∃ s', exec (.jtagInstruction code t) s = .next s' ∧
       s'.mgmt.jtagInstr = code ∧ s'.mgmt.jtagReset = false ∧
       (s.lifecycle = 5 → s'.mgmt.jtagEffective = 0xFF) ∧ (s.lifecycle = 0 ∨ s.lifecycle = 3 → s'.mgmt.jtagEffective = code) ∧
       (s.lifecycle = 2 → code = 0 → s.mgmt.perstAsserted = false → s'.mgmt.jtagEffective = 0xFF) ∧
       (s.lifecycle = 2 → code ∉ [0, 1, 2, 0xFF] → s'.mgmt.jtagEffective = 0xFF) ∧
       s'.mgmt.jtagData = (if s'.mgmt.jtagEffective = 2 then jtagIdcode else 0) ∧
       { s' with time := s.time, mgmt := s.mgmt } = s)) ∧
  (∀ (s : State) (sel : Bool) (t : Nat) (a : Nat), (s.aon.pstate = 2 ∧ s.aon.railsUp = true) ∨ s.safety.resetUnderWay = true →
     s.boot.cfwUp = false → s.boot.mode ≠ 3 → s.part.lifecycle ≠ 5 →
     (s.flash.bootBank.read.getD 0) ^^^ (if s.mgmt.bootSel.getD sel then 1 else 0) = a → a < 2 → s.flash.verified.length = 2 →
     (∀ i, (i = a ∧ s.part.bankBad (s.flash.banks.getD a []) = none) ∨
         (i = 1 - a ∧ s.part.bankBad (s.flash.banks.getD a []) ≠ none ∧ s.part.bankBad (s.flash.banks.getD (1 - a) []) = none) →
       ∃ s', exec (.boot ⟨sel, t⟩) s = .next s' ∧ s'.boot.cfwUp = true ∧ s'.boot.activeBank = i ∧ s'.flash.verified.getD i false = true ∧
         (∀ ms, manifests (s.flash.banks.getD i []) = some ms →
           s'.boot.cfwVersion = fwVersion (ms.getD 1 []) ∧ s'.boot.sfwVersion = fwVersion (ms.getD 2 []) ∧
           s'.boot.ucodeVersion = fwVersion (ms.getD 3 [])) ∧
         s'.mgmt.bootSel = some (s.mgmt.bootSel.getD sel) ∧ s'.boot.mode ≤ 2 ∧ (s.safety.quarantineNext = true → s'.boot.mode = 1) ∧
         (s.aon.pstate = 2 → s'.aon.pstate = 3) ∧ (s.aon.pstate ≠ 2 → s'.aon.pstate = s.aon.pstate) ∧
         (s.mgmt.lid = false → s.mgmt.tamperPin = false →
           s'.hub.secretsGolden = true ∧ s'.hub.secureWiped = false ∧ s'.hub.secretsKeys = decide (s.part.lifecycle ≠ 4)) ∧
         s'.safety.cfwBeat = s.safety.ssvNow ∧ s'.safety.latch = s.safety.latch) ∧
     (s.part.bankBad (s.flash.banks.getD 0 []) ≠ none → s.part.bankBad (s.flash.banks.getD 1 []) ≠ none →
       ∃ s', exec (.boot ⟨sel, t⟩) s = .next s' ∧ s'.boot = { s.boot with mode := 3 } ∧
         s'.mgmt = { s.mgmt with smbAlert := true, bootSel := some (s.mgmt.bootSel.getD sel) } ∧
         { s' with time := s.time, boot := s.boot, mgmt := s.mgmt } = s))

/-- Submission (R308 to R311, R314, R257, R258): the ownership write takes a host-owned slot, checks 1 to 7 refuse by name,
the closed sluice refuses with BUSY or holds the command, and a command without bulk data arrives at once, in the frame that
R46 gives it; on a slot that the device owns the write is discarded and counted. Host writes and fetches (R276, R310, R311,
R317): bytes go to a host-owned slot only; bulk data that arrived makes the command ready with the concatenation of its
fetch descriptors, a failed fetch answers FETCH_FAILED with the descriptor's index; a brine command is fetched once it fits
into the 12 MiB of landing. Completion: SLOT_SUBMIT, INBOUND_SLOT_WRITE, COMMAND_ARRIVAL, BRINE_LANDING. -/
def Obligations.SubmissionAndFetches : Prop :=
  (∀ (s : State) (fn slot : Nat) (t : Nat) (b : List Byte), isSlot fn slot → s.boot.cfwUp = true →
     (s.linkOf fn).up = true → s.pcie.fns.length = 17 → b = Mem.readBytes s.mbx.bytes (slotAddr fn slot 0) 4092 →
     ((s.at t).slotHeld fn slot = true ∨ (s.fnS fn).flrBusy = true →
       ∃ s', exec (.slotSubmit fn slot t) s = .next s' ∧ (s'.fnS fn).discard = min ((s.fnS fn).discard + 1) 65535 ∧
         { s' with time := s.time, pcie := s.pcie } = s) ∧
     ((s.at t).slotHeld fn slot = false → (s.fnS fn).flrBusy = false → s.cmd? fn slot = none →
       (∀ st, s.requestCheck fn b = some st → ∃ s', exec (.slotSubmit fn slot t) s = .next s' ∧
         s'.owned fn slot = true ∧ s'.reply? fn slot = some (refusal st) ∧
         (∀ f k, (f, k) ≠ (fn, slot) → s'.cmd? f k = s.cmd? f k) ∧ { s' with time := s.time, mbx := s.mbx } = s) ∧
       (s.requestCheck fn b = none → isSluiced (getU b 4 2) = true → s.hub.sluiceClosed = true →
         (bit (getU b 6 2) 0 = true → ∃ s' c, exec (.slotSubmit fn slot t) s = .next s' ∧ s'.cmd? fn slot = some c ∧
           c.stage = .held ∧ c.response = none ∧ { s' with time := s.time, mbx := s.mbx } = s) ∧
         (bit (getU b 6 2) 0 = false → ∃ s', exec (.slotSubmit fn slot t) s = .next s' ∧
           s'.reply? fn slot = some (refusal 0x0301) ∧ { s' with time := s.time, mbx := s.mbx, sessions := s.sessions } = s)) ∧
       (s.requestCheck fn b = none → isSluiced (getU b 4 2) = false ∨ s.hub.sluiceClosed = false →
         getU b 14 2 = 0 → badDesc (getU b 4 2) [] = none →
         ∃ s' c, exec (.slotSubmit fn slot t) s = .next s' ∧ s'.cmd? fn slot = some c ∧ c.opcode = getU b 4 2 ∧
           c.stage = .ready ∧ c.response = none ∧ ((∀ x ∈ s.mbx.cmds, x.immediate = false) → s'.inTurn c = true) ∧
           c.session = getU b 8 1 ∧ c.seq = getU b 16 4 ∧ c.payload = slice b 32 (getU b 20 4) ∧
           c.arrival = max s.time.now t ∧ c.frame = s.frameFor (max s.time.now t) ∧ s'.owned fn slot = true ∧
           (∀ f k, (f, k) ≠ (fn, slot) → s'.cmd? f k = s.cmd? f k) ∧
           { s' with time := s.time, mbx := s.mbx, clusters := s.clusters, stks := s.stks, hub := s.hub,
                     obs := s.obs } = s))) ∧
  (∀ (s : State) (fn slot off : Nat) (bytes : List Byte) (t : Nat) (c : Cmd), isSlot fn slot → s.pcie.fns.length = 17 →
     ((s.at t).slotHeld fn slot = true → (s.linkOf fn).up = true → off + bytes.length ≤ 4096 → bytes ≠ [] →
       ∃ s', exec (.inboundSlotWrite fn slot off bytes t) s = .next s' ∧
         (s'.fnS fn).discard = min ((s.fnS fn).discard + 1) 65535 ∧ { s' with time := s.time, pcie := s.pcie } = s) ∧
     ((s.at t).slotHeld fn slot = false → (s.linkOf fn).up = true → off + bytes.length ≤ 0xFFC → bytes ≠ [] → s.mbx.bytes.wf = true →
       ∃ s', exec (.inboundSlotWrite fn slot off bytes t) s = .next s' ∧
         (∀ a, Mem.read a s'.mbx.bytes =
           if slotAddr fn slot off ≤ a ∧ a < slotAddr fn slot off + bytes.length
             then bytes.getD (a - slotAddr fn slot off) 0 else Mem.read a s.mbx.bytes) ∧
         { s' with time := s.time, mbx := s.mbx, clusters := s.clusters, stks := s.stks, hub := s.hub } = s ∧
         s'.mbx.cmds = s.mbx.cmds ∧ s'.mbx.own = s.mbx.own) ∧
     (s.cmd? fn slot = some c → c.stage = .fetching → c.response = none →
       (s.dmaOk fn = true → ∃ s', exec (.commandArrival fn slot none t) s = .next s' ∧
         (∃ c', s'.cmd? fn slot = some c' ∧ c'.opcode = c.opcode ∧ c'.stage = .ready ∧ c'.response = none ∧
           ((∀ x ∈ s.mbx.cmds, x.immediate = false) → s'.inTurn c' = true) ∧ c'.arrival = max s.time.now t ∧
           c'.bulk = (c.descs.filter fun d => !d.write).flatMap fun d => Mem.readBytes s.host d.addr d.len) ∧
         { s' with time := s.time, mbx := s.mbx, clusters := s.clusters, stks := s.stks, hub := s.hub, obs := s.obs } = s) ∧
       (∀ i, s.dmaOk fn = true → i < 64 →
         ∃ s', exec (.commandArrival fn slot (some i) t) s = .next s' ∧ s'.reply? fn slot = some (refusal 0x0406 i) ∧
           s'.worlds = { s.worlds with landingUsed :=
             if c.opcode = 0x0401 ∨ c.opcode = 0x0402 then s.worlds.landingUsed - c.fetchBytes else s.worlds.landingUsed } ∧
           { s' with time := s.time, mbx := s.mbx, worlds := s.worlds } = s) ∧
       (s.dmaOk fn = false → ∃ s' i, exec (.commandArrival fn slot none t) s = .next s' ∧
         s'.reply? fn slot = some (refusal 0x0406 i))) ∧
     (s.mbx.cmds.find? (fun x => x.stage == .landing) = some c → c.fn = fn → c.slot = slot → s.cmd? fn slot = some c →
       (s.worlds.landingUsed + c.fetchBytes ≤ 12582912 →
         ∃ s', exec (.brineLanding fn slot t) s = .next s' ∧ s'.cmd? fn slot = some { c with stage := .fetching } ∧
           s'.worlds = { s.worlds with landingUsed := s.worlds.landingUsed + c.fetchBytes } ∧
           { s' with time := s.time, mbx := s.mbx, worlds := s.worlds } = s) ∧
       (12582912 < s.worlds.landingUsed + c.fetchBytes →
         ∃ s', exec (.brineLanding fn slot t) s = .next s' ∧ { s' with time := s.time } = s)))

/-- The response point (R311, R313): the response is written at the start of the slot, the slot becomes host-owned, and
vector 0 of the function follows unless the request was SILENT; the bytes of the other slots stay; a write of the same cycle
still finds it held; a command whose function was reset leaves in silence. The sluice and the
dispatcher inputs (R256, R257, R327): the oldest task of a stack's list moves into its dispatcher input of 128; a full input
refuses it; the input that becomes full closes the sluice, which reopens when every input holds at most 64. Completion:
MAILBOX_RESPONSE, HUB_TASK_TRANSFER, SLUICE_REOPEN. -/
def Obligations.ResponseAndSluice : Prop :=
  (∀ (s : State) (fn slot : Nat) (t : Nat) (c : Cmd) (r : Response) (d : List Byte), isSlot fn slot →
     s.pcie.fns.length = 17 → s.mbx.bytes.wf = true → d =
       Mem.readBytes s.mbx.bytes (slotAddr fn slot 32) (16 * c.descs.length) →
     (s.cmdFor fn slot (fun x => x.response.isSome) = none → ∃ s', exec (.mailboxResponse fn slot t) s = .next s' ∧ { s' with time := s.time } = s) ∧
     (s.cmdFor fn slot (fun x => x.response.isSome) = some c → c.response = some r →
       (c.opcode = 0x0507 → r.status = 0 → ∀ x ∈ s.mbx.cmds, x.atCutoff s = false) → c.silentDrop = true →
       ∃ s', exec (.mailboxResponse fn slot t) s = .next s' ∧ s'.mbx.bytes = s.mbx.bytes ∧ s'.mbx.own = s.mbx.own ∧
         (∀ x ∈ s'.mbx.cmds, x ∈ s.mbx.cmds ∧ x.order ≠ c.order) ∧ s'.pcie = s.pcie) ∧
     (s.cmd? fn slot = some c → c.response = some r →
       (c.opcode = 0x0507 → r.status = 0 → ∀ x ∈ s.mbx.cmds, x.atCutoff s = false) → c.silentDrop = false →
       (responseBytes c r d).length ≤ 4092 →
       ∃ s', exec (.mailboxResponse fn slot t) s = .next s' ∧ s'.owned fn slot = false ∧ s'.slotHeld fn slot = true ∧
         Mem.readBytes s'.mbx.bytes (slotAddr fn slot 0) (responseBytes c r d).length = responseBytes c r d ∧
         (∀ f k a, isSlot f k → (f, k) ≠ (fn, slot) → slotAddr f k 0 ≤ a → a < slotAddr f k 4096 →
           Mem.read a s'.mbx.bytes = Mem.read a s.mbx.bytes) ∧
         (∀ x ∈ s'.mbx.cmds, x ∈ s.mbx.cmds ∧ x.order ≠ c.order) ∧
         (bit c.flags 1 = true → s'.pcie = s.pcie) ∧
         (bit c.flags 1 = false → if s.msixOpen fn 0 then s'.pcie.sent = s.pcie.sent ++ [(fn, 0)]
           else 0 ∈ (s'.fnS fn).pendingBits) ∧
         { s' with time := s.time, mbx := s.mbx, pcie := s.pcie, obs := s.obs, hub := s.hub, host := s.host } = s)) ∧
  (∀ (s : State) (k : Nat) (t : Nat) (x : TaskDesc) (rest : List TaskDesc), k < 4 → s.stks.length = 4 →
     ((s.stk k).taskList = [] → ∃ s', exec (.hubTaskTransfer k t) s = .next s' ∧ { s' with time := s.time } = s) ∧
     ((s.stk k).taskList = x :: rest → (s.stk k).dispatcher.length < 128 →
       ∃ s', exec (.hubTaskTransfer k t) s = .next s' ∧ (s'.stk k).taskList = rest ∧
         (s'.stk k).dispatcher = (s.stk k).dispatcher ++ [{ task := x }] ∧ (∀ j, j ≠ k → s'.stk j = s.stk j) ∧
         s'.hub.sluiceClosed = (s.hub.sluiceClosed || decide ((s.stk k).dispatcher.length = 127)) ∧
         { s' with time := s.time, stks := s.stks, hub := s.hub } = s) ∧
     ((s.stk k).taskList = x :: rest → 128 ≤ (s.stk k).dispatcher.length →
       ∃ s', exec (.hubTaskTransfer k t) s = .next s' ∧ (s'.stk k).taskList = (s.stk k).taskList ∧
         (s'.stk k).dispatcher = (s.stk k).dispatcher ∧ { s' with time := s.time, stks := s.stks } = s) ∧
     ((∀ j < 4, (s.stk j).dispatcher.length ≤ 64) → (∀ c ∈ s.mbx.cmds, c.stage ≠ .held) →
       ∃ s', exec (.sluiceReopen t) s = .next s' ∧ s'.hub = { s.hub with sluiceClosed := false } ∧
         { s' with time := s.time, hub := s.hub } = s) ∧
     (∀ c, (∀ j < 4, (s.stk j).dispatcher.length ≤ 64) → s.hub.sluiceClosed = true →
       s.mbx.cmds.filter (fun x => x.stage == .held) = [c] → s.cmd? c.fn c.slot = some c → c.fetchBytes = 0 →
       badDesc c.opcode (s.rawDescs c.fn c.slot c.descs.length) = none →
       ∃ s' c', exec (.sluiceReopen t) s = .next s' ∧ s'.hub.sluiceClosed = false ∧ s'.cmd? c.fn c.slot = some c' ∧
         c'.stage = .ready ∧ c'.arrival = max s.time.now t) ∧
     ((∃ j < 4, 64 < (s.stk j).dispatcher.length) →
       ∃ s', exec (.sluiceReopen t) s = .next s' ∧ { s' with time := s.time } = s))

/-- Reads with a side effect (R16, R361, R479): HUB_TIME_LO and PWR_RTC_LO return their low 32 bits and latch the upper half
for the reader; a tamper-log slot likewise; the discard counter is returned and cleared, but for a discard of the same
cycle. Read indices and interrupts (R321, R362, R365): MBX_RIDX is taken when the ring is registered, of the function, and
the value leaves between 0 and ENTRIES entries; else the write is discarded and counted; a device function alone has the
index of the device ring; an entry of the same cycle still sees the old index; unmasking a vector sends what was
pending. Completion: HUB_TIME_LO_READ, MBX_WRITE_DISCARD_READ, PWR_RTC_LO_READ, SEC_TAMPER_LOG_LO_READ,
RING_READ_INDEX_WRITE, MSIX_UNMASK. -/
def Obligations.ReadsIndicesAndUnmask : Prop :=
  (∀ (s : State) (fn master rtc i : Nat) (same : Bool) (t : Nat), s.pcie.fns.length = 17 →
     (fn < 17 → ∃ s', exec (.hubTimeLoRead fn t) s = .next s' ∧ s'.time.now = max s.time.now t ∧
       s'.pcie.readData = (max s.time.now t) % 2 ^ 32 ∧ (s'.fnS fn).timeHi = (max s.time.now t) / 2 ^ 32 % 2 ^ 32 ∧
       (∀ f, f ≠ fn → s'.fnS f = s.fnS f) ∧ { s' with time := s.time, pcie := s.pcie } = s) ∧
     (fn < 17 → ∃ s', exec (.mbxWriteDiscardRead fn same t) s = .next s' ∧ s'.pcie.readData = (s.fnS fn).discard ∧
       (s'.fnS fn).discard = (if same then 1 else 0) ∧ (∀ f, f ≠ fn → s'.fnS f = s.fnS f) ∧
       { s' with time := s.time, pcie := s.pcie } = s) ∧
     (master < 2 → rtc < 2 ^ 48 → s.mgmt.rtc ≤ rtc →
       ∃ s', exec (.pwrRtcLoRead master rtc t) s = .next s' ∧ s'.pcie.readData = rtc % 2 ^ 32 ∧ s'.mgmt.rtc = rtc ∧
         lookupD 0 master s'.mgmt.rtcHi = rtc / 2 ^ 32 ∧
         (∀ m, m ≠ master → lookupD 0 m s'.mgmt.rtcHi = lookupD 0 m s.mgmt.rtcHi) ∧
         { s' with time := s.time, mgmt := s.mgmt, pcie := s.pcie } = s) ∧
     (master < 2 → i < 16 → ∃ s', exec (.secTamperLogLoRead master i t) s = .next s' ∧
       (∀ e, s.mgmt.tamperLog.getD i none = some e → s'.pcie.readData = e.rtc % 2 ^ 32 ∧
         lookupD 0 (master * 16 + i) s'.mgmt.logHi = e.source * 2 ^ 28 + (if e.wiped then 2 ^ 27 else 0) +
           (if e.standby then 2 ^ 26 else 0) + e.rtc / 2 ^ 32 % 2 ^ 16) ∧
       (s.mgmt.tamperLog.getD i none = none → s'.pcie.readData = 0 ∧ lookupD 0 (master * 16 + i) s'.mgmt.logHi = 0) ∧
       s'.mgmt.tamperLog = s.mgmt.tamperLog ∧ { s' with time := s.time, mgmt := s.mgmt, pcie := s.pcie } = s)) ∧
  (∀ (s : State) (fn r value vec : Nat) (g : Ring) (t : Nat), fn < 17 → s.pcie.fns.length = 17 →
     (r < 33 → r ≠ 32 ∨ fn = 0 → value < 2 ^ 32 → s.ring? r = some g → g.fn = fn → ((g.w : Int) - value) % 2 ^ 32 ≤ g.entries →
       ∃ s', exec (.ringReadIndexWrite fn r value t) s = .next s' ∧ lookupD 0 r (s'.fnS fn).ridx = value ∧
         (∀ q, q ≠ r → lookupD 0 q (s'.fnS fn).ridx = lookupD 0 q (s.fnS fn).ridx) ∧
         ((∀ x ∈ (s.fnS fn).ridxOld, x.1 = r → x.2.1 ≠ max s.time.now t) →
           (r, max s.time.now t, lookupD 0 r (s.fnS fn).ridx) ∈ (s'.fnS fn).ridxOld) ∧
         (s'.fnS fn).discard = (s.fnS fn).discard ∧ { s' with time := s.time, pcie := s.pcie } = s) ∧
     (fn ≠ 0 → ∃ s', exec (.ringReadIndexWrite fn 32 value t) s = .next s' ∧ { s' with time := s.time } = s) ∧
     (r < 33 → r ≠ 32 ∨ fn = 0 → value < 2 ^ 32 →
       (s.ring? r = none ∨ (∃ g, s.ring? r = some g ∧ (g.fn ≠ fn ∨ (g.entries : Int) < ((g.w : Int) - value) % 2 ^ 32))) →
       ∃ s', exec (.ringReadIndexWrite fn r value t) s = .next s' ∧ (s'.fnS fn).ridx = (s.fnS fn).ridx ∧
         (s'.fnS fn).discard = min ((s.fnS fn).discard + 1) 65535 ∧ { s' with time := s.time, pcie := s.pcie } = s) ∧
     (vec < 64 → (s.fnS fn).pendingBits = [vec] → (s.fnS fn).msixEnabled = true → (s.fnS fn).msixFnMask = false →
       s.dmaOk fn = true → ∃ s', exec (.msixUnmask fn vec t) s = .next s' ∧ (s'.fnS fn).pendingBits = [] ∧
         s'.pcie.sent = s.pcie.sent ++ [(fn, vec)] ∧ { s' with time := s.time, pcie := s.pcie, host := s.host } = s) ∧
     (vec < 64 → (s.fnS fn).pendingBits = [] → ∃ s', exec (.msixUnmask fn vec t) s = .next s' ∧
       (lookupD {} vec (s'.fnS fn).msix).masked = false ∧ s'.pcie.sent = s.pcie.sent ∧
       { s' with time := s.time, pcie := s.pcie } = s))

/-- Register writes (R16, Table 15.13, R355, R360, R364, R474): a one clears a W1C bit, and a set of the same cycle wins and
counts CLEAR_LOST; sizes other than 4 and 8 are discarded and counted, a write of 8 bytes to a discarded region once; the
control registers of a function's configuration space take what their fields allow; PWR_LIMIT takes 150 to 420 W; HUB_RESET resets only with its
key on PF0. Completion: REGISTER_WRITE, HUB_RESET_WARM. -/
def Obligations.RegisterWrites : Prop :=
  ∀ (s : State) (fn off size value hw : Nat) (t : Nat), s.pcie.fns.length = 17 → value < 2 ^ 32 → hw < 2 ^ 32 →
    (s.pcie.linkA.up = true → ∃ s', exec (.registerWrite .bar0 0 0x0010 4 value hw t) s = .next s' ∧
      s'.time.srcLost = ((s.time.srcLost && !bit value 3) || bit hw 3) ∧
      s'.time.ppsReject = ((s.time.ppsReject && !bit value 4) || bit hw 4) ∧
      s'.time.stepDeferred = ((s.time.stepDeferred && !bit value 5) || bit hw 5) ∧
      (s.hub.counters.length = 32 → s'.hub.counters.getD 13 0 =
        (s.hub.counters.getD 13 0 + popCount ((value &&& 0x38) &&& (hw &&& 0x38)) 32) % 2 ^ 48) ∧
      { s' with time := s.time, hub := s.hub } = s ∧ { s'.hub with counters := s.hub.counters } = s.hub) ∧
    (fn < 17 → (s.linkOf fn).up = true → off < 65536 → 1 ≤ size → size ≤ 8 → size ≠ 4 → size ≠ 8 →
      ∃ s', exec (.registerWrite .bar0 fn off size value hw t) s = .next s' ∧
        (s'.fnS fn).discard = min ((s.fnS fn).discard + 1) 65535 ∧ { s' with time := s.time, pcie := s.pcie } = s) ∧
    (fn < 17 → (s.linkOf fn).up = false → off < 65536 → 1 ≤ size → size ≤ 8 →
      ∃ s', exec (.registerWrite .bar0 fn off size value hw t) s = .next s' ∧ { s' with time := s.time } = s) ∧
    (∀ p < 64, s.enabled p = true → s.pcie.linkA.up = true → off < 0x44 →
      ∃ s', exec (.registerWrite .bar4 0 (0x140000 + 0x1000 * p + 0x300 + off / 8 * 8) 8 value hw t) s = .next s' ∧
        (s'.fnS 0).discard = min ((s.fnS 0).discard + 1) 65535 ∧ { s' with time := s.time, pcie := s.pcie } = s) ∧
    (∀ p < 64, s.clusters.length = 64 → s.enabled p = true → s.pcie.linkA.up = true →
      ∃ s', exec (.registerWrite .bar4 0 (0x140000 + 0x1000 * p + 0x140) 4 value hw t) s = .next s' ∧
        (∀ i < 8, bit (s'.cl p).arithFlags i = ((bit (s.cl p).arithFlags i && !bit value i) || bit hw i)) ∧
        (∀ q, q ≠ p → s'.cl q = s.cl q) ∧ { s' with time := s.time, clusters := s.clusters, hub := s.hub } = s) ∧
    (fn < 17 → 1 ≤ size → size ≤ 8 →
      (∀ sp ∈ [RegSpace.deviceControl, .deviceControl2, .linkControl, .aerControl],
        ∃ s', exec (.registerWrite sp fn off size value hw t) s = .next s' ∧
          s'.fnS fn = (s.fnS fn).configWrite sp value ∧ (∀ f, f ≠ fn → s'.fnS f = s.fnS f) ∧
          { s' with time := s.time, pcie := { s'.pcie with fns := s.pcie.fns } } = s) ∧
      ∃ s', exec (.registerWrite .msixControl fn off size value hw t) s = .next s' ∧
        (s'.fnS fn).msixEnabled = bit value 15 ∧ (s'.fnS fn).msixFnMask = bit value 14 ∧
        ((s.fnS fn).pendingBits = [] ∨ bit value 15 = false ∨ bit value 14 = true → s'.pcie.sent = s.pcie.sent ∧
          s'.host = s.host) ∧
        { s' with time := s.time, pcie := s.pcie, host := s.host } = s) ∧
    (fn < 17 → ∃ s', exec (.registerWrite .smbus fn 6 4 value hw t) s = .next s' ∧
      s'.aon = { s.aon with limit := max 150 (min 420 (value % 65536)) } ∧ { s' with time := s.time, aon := s.aon } = s) ∧
    (fn < 17 → value / 65536 ≠ 0x5741 ∨ fn ≠ 0 ∨ value % 2 = 0 →
      ∃ s', exec (.hubResetWarm fn value t) s = .next s' ∧ { s' with time := s.time } = s) ∧
    (value / 65536 = 0x5741 → value % 2 = 1 → s.pcie.linkA.up = true →
      (∀ y ∈ s.sessions, y.classS = true → y.state ≠ 3 ∧ y.state ≠ 4) → s.sessions.length = 16 →
      ∃ s', exec (.hubResetWarm 0 value t) s = .next s' ∧ (∀ i < 16, (s'.ses i).state = 0) ∧ s'.streams = [] ∧
        s'.boot.cfwUp = false ∧ s'.safety.resetUnderWay = true ∧ s'.safety.latch = s.safety.latch ∧
        s'.time.now = max s.time.now t ∧ s'.part = s.part ∧ s'.flash = s.flash ∧ s'.aon = s.aon) ∧
    (value / 65536 = 0x5741 → value % 2 = 1 → s.pcie.linkA.up = true → s.safety.latch.length < 32 →
      (∃ i < 16, (s.ses i).classS = true ∧ ((s.ses i).state = 3 ∨ (s.ses i).state = 4)) → s.sessions.length = 16 →
      ∃ s', exec (.hubResetWarm 0 value t) s = .next s' ∧ s'.faultLatched 0x0014 (max s.time.now t) ∧
        (∀ i < 16, (s'.ses i).state = 0) ∧ s'.safety.resetUnderWay = true)

/-- The SPDM responder (R369, R443, R444, R448): a request of at most 4 KiB is answered while the CFW runs and PF0's link is
up; GET_VERSION begins the exchange, only Ed25519 with SHA-512 is negotiated, the requests after that need it; a slot but 0,
a certificate that failed its check, a missing measurement index or zeroed keys answer ERROR (code 0xFF). What an answer's
bytes are is a free function of what it tells (log entry 12). The DOE mailbox (R369): discovery names DOE Discovery and
CMA-SPDM; an abort empties the mailbox; with the CFW down or a request above 4 KiB there is no answer. Completion:
GET_VERSION, GET_CAPABILITIES, NEGOTIATE_ALGORITHMS, GET_DIGESTS, GET_CERTIFICATE, CHALLENGE, GET_MEASUREMENTS,
DOE_DISCOVERY, DOE_ABORT. -/
def Obligations.SpdmAndDoe : Prop :=
  (∀ (s : State) (req : List Byte) (a b : Bool) (k off len : Nat) (sign : Bool) (t : Nat), s.boot.cfwUp = true →
     s.pcie.linkA.up = true → req.length ≤ 4096 →
     let tells (i : Instr) (code : Nat) (content : List Byte) (old : List Byte) : Prop :=
       ∃ s', exec i s = .next s' ∧ s'.pcie.doeResponse = Config.spdmBody code req content ∧ s'.pcie.doeBusy = some req ∧
         s'.pcie.spdmTranscript = old ++ req ++ Config.spdmBody code req content ∧
         { s' with time := s.time, pcie := s.pcie } = s
     let tr := s.pcie.spdmTranscript
     tells (.getVersion req t) 1 [0x12] [] ∧
     tells (.getCapabilities req t) (if s.pcie.spdmVersion then 2 else 0xFF) (if s.pcie.spdmVersion then [1, 1, 2] else []) tr ∧
     (s.pcie.spdmVersion = true → tells (.negotiateAlgorithms req true true false t) 3 [1, 1] tr) ∧
     (s.pcie.spdmVersion = false ∨ a = false ∨ b = false → tells (.negotiateAlgorithms req a b sign t) 0xFF [] tr) ∧
     tells (.negotiateAlgorithms req a b true t) 0xFF [] tr ∧
     (s.pcie.spdmVersion = true → s.pcie.spdmAlgorithms = true →
       (s.boot.certOk = true → tells (.getDigests req t) 4 (sha512 s.flash.certChain) tr) ∧
       (s.boot.certOk = false → tells (.getDigests req t) 0xFF [] tr ∧ tells (.challenge k req t) 0xFF [] tr) ∧
       (s.boot.certOk = true → off < s.flash.certChain.length →
         tells (.getCertificate 0 off len req t) 5 ((s.flash.certChain.drop off).take len) tr) ∧
       (k ≠ 0 → tells (.getCertificate k off len req t) 0xFF [] tr ∧ tells (.challenge k req t) 0xFF [] tr) ∧
       (s.boot.certOk = true → s.hub.secretsKeys = true → tells (.challenge 0 req t) 6
         (sha512 s.flash.certChain ++ s.measurements ++ s.identitySign (tr ++ req ++ s.measurements)) tr) ∧
       (s.hub.secretsKeys = false → tells (.challenge 0 req t) 0xFF [] tr) ∧
       (∀ i m, i ≠ 0xFF → s.measurement i = some m → tells (.getMeasurements i false req t) 7 m tr) ∧
       (∀ i, i ≠ 0xFF → s.measurement i = none → tells (.getMeasurements i sign req t) 0xFF [] tr) ∧
       tells (.getMeasurements 0xFF false req t) 7 s.measurements tr ∧
       (s.hub.secretsKeys = true → tells (.getMeasurements 0xFF true req t) 7
         (s.measurements ++ s.identitySign (tr ++ req ++ s.measurements)) tr) ∧
       (s.hub.secretsKeys = false → tells (.getMeasurements 0xFF true req t) 0xFF [] tr)) ∧
     (s.pcie.spdmVersion = false ∨ s.pcie.spdmAlgorithms = false →
       ∀ i ∈ [Instr.getDigests req t, .getCertificate k off len req t, .challenge k req t, .getMeasurements k sign req t],
         tells i 0xFF [] tr)) ∧
  (∀ (s : State) (req : List Byte) (t : Nat),
     (s.boot.cfwUp = true → s.pcie.linkA.up = true →
       (∃ s', exec (.doeDiscovery 0 t) s = .next s' ∧ s'.pcie.doeResponse = [1, 0, 0, 1] ∧
         { s' with time := s.time, pcie := { s'.pcie with doeResponse := s.pcie.doeResponse } } = s) ∧
       (∃ s', exec (.doeDiscovery 1 t) s = .next s' ∧ s'.pcie.doeResponse = [1, 0, 1, 0] ∧
         { s' with time := s.time, pcie := { s'.pcie with doeResponse := s.pcie.doeResponse } } = s)) ∧
     (∃ s', exec (.doeAbort t) s = .next s' ∧ s'.pcie = { s.pcie with doeBusy := none, doeResponse := [] } ∧
       { s' with time := s.time, pcie := s.pcie } = s) ∧
     (s.boot.cfwUp = false ∨ 4096 < req.length →
       ∀ i ∈ [Instr.getVersion req t, .getCapabilities req t, .getDigests req t, .challenge 0 req t],
         ∃ s', exec i s = .next s' ∧ { s' with time := s.time } = s))
end

