-- ==== Sys2Proof/Laws/State.lean ====
section
/-!
SUPPORT. Sys2Proof/Laws/State.lean: for each part of the state and each update of one part, what the update leaves and
what it writes; all true by definition, so that no proof unfolds a record update.
-/
namespace Sys2Proof.Machine

section
variable (f : Part → Part) (s : State)
@[simp] theorem State.modPart_part : (s.modPart f).part = f s.part := rfl
@[simp] theorem State.modPart_flash : (s.modPart f).flash = s.flash := rfl
@[simp] theorem State.modPart_aon : (s.modPart f).aon = s.aon := rfl
@[simp] theorem State.modPart_mgmt : (s.modPart f).mgmt = s.mgmt := rfl
@[simp] theorem State.modPart_time : (s.modPart f).time = s.time := rfl
@[simp] theorem State.modPart_pcie : (s.modPart f).pcie = s.pcie := rfl
@[simp] theorem State.modPart_mbx : (s.modPart f).mbx = s.mbx := rfl
@[simp] theorem State.modPart_rings : (s.modPart f).rings = s.rings := rfl
@[simp] theorem State.modPart_sessions : (s.modPart f).sessions = s.sessions := rfl
@[simp] theorem State.modPart_images : (s.modPart f).images = s.images := rfl
@[simp] theorem State.modPart_worlds : (s.modPart f).worlds = s.worlds := rfl
@[simp] theorem State.modPart_streams : (s.modPart f).streams = s.streams := rfl
@[simp] theorem State.modPart_clusters : (s.modPart f).clusters = s.clusters := rfl
@[simp] theorem State.modPart_stks : (s.modPart f).stks = s.stks := rfl
@[simp] theorem State.modPart_hub : (s.modPart f).hub = s.hub := rfl
@[simp] theorem State.modPart_frame : (s.modPart f).frame = s.frame := rfl
@[simp] theorem State.modPart_req : (s.modPart f).req = s.req := rfl
@[simp] theorem State.modPart_det : (s.modPart f).det = s.det := rfl
@[simp] theorem State.modPart_safety : (s.modPart f).safety = s.safety := rfl
@[simp] theorem State.modPart_boot : (s.modPart f).boot = s.boot := rfl
@[simp] theorem State.modPart_errors : (s.modPart f).errors = s.errors := rfl
@[simp] theorem State.modPart_fabric : (s.modPart f).fabric = s.fabric := rfl
@[simp] theorem State.modPart_farming : (s.modPart f).farming = s.farming := rfl
@[simp] theorem State.modPart_obs : (s.modPart f).obs = s.obs := rfl
@[simp] theorem State.modPart_host : (s.modPart f).host = s.host := rfl
@[simp] theorem State.modPart_hbm : (s.modPart f).hbm = s.hbm := rfl
@[simp] theorem State.modPart_sram : (s.modPart f).sram = s.sram := rfl
@[simp] theorem State.modPart_saves : (s.modPart f).saves = s.saves := rfl
@[simp] theorem State.modPart_free : (s.modPart f).free = s.free := rfl
@[simp] theorem State.modPart_pending : (s.modPart f).pending = s.pending := rfl
end

section
variable (f : Flash → Flash) (s : State)
@[simp] theorem State.modFlash_part : (s.modFlash f).part = s.part := rfl
@[simp] theorem State.modFlash_flash : (s.modFlash f).flash = f s.flash := rfl
@[simp] theorem State.modFlash_aon : (s.modFlash f).aon = s.aon := rfl
@[simp] theorem State.modFlash_mgmt : (s.modFlash f).mgmt = s.mgmt := rfl
@[simp] theorem State.modFlash_time : (s.modFlash f).time = s.time := rfl
@[simp] theorem State.modFlash_pcie : (s.modFlash f).pcie = s.pcie := rfl
@[simp] theorem State.modFlash_mbx : (s.modFlash f).mbx = s.mbx := rfl
@[simp] theorem State.modFlash_rings : (s.modFlash f).rings = s.rings := rfl
@[simp] theorem State.modFlash_sessions : (s.modFlash f).sessions = s.sessions := rfl
@[simp] theorem State.modFlash_images : (s.modFlash f).images = s.images := rfl
@[simp] theorem State.modFlash_worlds : (s.modFlash f).worlds = s.worlds := rfl
@[simp] theorem State.modFlash_streams : (s.modFlash f).streams = s.streams := rfl
@[simp] theorem State.modFlash_clusters : (s.modFlash f).clusters = s.clusters := rfl
@[simp] theorem State.modFlash_stks : (s.modFlash f).stks = s.stks := rfl
@[simp] theorem State.modFlash_hub : (s.modFlash f).hub = s.hub := rfl
@[simp] theorem State.modFlash_frame : (s.modFlash f).frame = s.frame := rfl
@[simp] theorem State.modFlash_req : (s.modFlash f).req = s.req := rfl
@[simp] theorem State.modFlash_det : (s.modFlash f).det = s.det := rfl
@[simp] theorem State.modFlash_safety : (s.modFlash f).safety = s.safety := rfl
@[simp] theorem State.modFlash_boot : (s.modFlash f).boot = s.boot := rfl
@[simp] theorem State.modFlash_errors : (s.modFlash f).errors = s.errors := rfl
@[simp] theorem State.modFlash_fabric : (s.modFlash f).fabric = s.fabric := rfl
@[simp] theorem State.modFlash_farming : (s.modFlash f).farming = s.farming := rfl
@[simp] theorem State.modFlash_obs : (s.modFlash f).obs = s.obs := rfl
@[simp] theorem State.modFlash_host : (s.modFlash f).host = s.host := rfl
@[simp] theorem State.modFlash_hbm : (s.modFlash f).hbm = s.hbm := rfl
@[simp] theorem State.modFlash_sram : (s.modFlash f).sram = s.sram := rfl
@[simp] theorem State.modFlash_saves : (s.modFlash f).saves = s.saves := rfl
@[simp] theorem State.modFlash_free : (s.modFlash f).free = s.free := rfl
@[simp] theorem State.modFlash_pending : (s.modFlash f).pending = s.pending := rfl
end

section
variable (f : Aon → Aon) (s : State)
@[simp] theorem State.modAon_part : (s.modAon f).part = s.part := rfl
@[simp] theorem State.modAon_flash : (s.modAon f).flash = s.flash := rfl
@[simp] theorem State.modAon_aon : (s.modAon f).aon = f s.aon := rfl
@[simp] theorem State.modAon_mgmt : (s.modAon f).mgmt = s.mgmt := rfl
@[simp] theorem State.modAon_time : (s.modAon f).time = s.time := rfl
@[simp] theorem State.modAon_pcie : (s.modAon f).pcie = s.pcie := rfl
@[simp] theorem State.modAon_mbx : (s.modAon f).mbx = s.mbx := rfl
@[simp] theorem State.modAon_rings : (s.modAon f).rings = s.rings := rfl
@[simp] theorem State.modAon_sessions : (s.modAon f).sessions = s.sessions := rfl
@[simp] theorem State.modAon_images : (s.modAon f).images = s.images := rfl
@[simp] theorem State.modAon_worlds : (s.modAon f).worlds = s.worlds := rfl
@[simp] theorem State.modAon_streams : (s.modAon f).streams = s.streams := rfl
@[simp] theorem State.modAon_clusters : (s.modAon f).clusters = s.clusters := rfl
@[simp] theorem State.modAon_stks : (s.modAon f).stks = s.stks := rfl
@[simp] theorem State.modAon_hub : (s.modAon f).hub = s.hub := rfl
@[simp] theorem State.modAon_frame : (s.modAon f).frame = s.frame := rfl
@[simp] theorem State.modAon_req : (s.modAon f).req = s.req := rfl
@[simp] theorem State.modAon_det : (s.modAon f).det = s.det := rfl
@[simp] theorem State.modAon_safety : (s.modAon f).safety = s.safety := rfl
@[simp] theorem State.modAon_boot : (s.modAon f).boot = s.boot := rfl
@[simp] theorem State.modAon_errors : (s.modAon f).errors = s.errors := rfl
@[simp] theorem State.modAon_fabric : (s.modAon f).fabric = s.fabric := rfl
@[simp] theorem State.modAon_farming : (s.modAon f).farming = s.farming := rfl
@[simp] theorem State.modAon_obs : (s.modAon f).obs = s.obs := rfl
@[simp] theorem State.modAon_host : (s.modAon f).host = s.host := rfl
@[simp] theorem State.modAon_hbm : (s.modAon f).hbm = s.hbm := rfl
@[simp] theorem State.modAon_sram : (s.modAon f).sram = s.sram := rfl
@[simp] theorem State.modAon_saves : (s.modAon f).saves = s.saves := rfl
@[simp] theorem State.modAon_free : (s.modAon f).free = s.free := rfl
@[simp] theorem State.modAon_pending : (s.modAon f).pending = s.pending := rfl
end

section
variable (f : Management → Management) (s : State)
@[simp] theorem State.modMgmt_part : (s.modMgmt f).part = s.part := rfl
@[simp] theorem State.modMgmt_flash : (s.modMgmt f).flash = s.flash := rfl
@[simp] theorem State.modMgmt_aon : (s.modMgmt f).aon = s.aon := rfl
@[simp] theorem State.modMgmt_mgmt : (s.modMgmt f).mgmt = f s.mgmt := rfl
@[simp] theorem State.modMgmt_time : (s.modMgmt f).time = s.time := rfl
@[simp] theorem State.modMgmt_pcie : (s.modMgmt f).pcie = s.pcie := rfl
@[simp] theorem State.modMgmt_mbx : (s.modMgmt f).mbx = s.mbx := rfl
@[simp] theorem State.modMgmt_rings : (s.modMgmt f).rings = s.rings := rfl
@[simp] theorem State.modMgmt_sessions : (s.modMgmt f).sessions = s.sessions := rfl
@[simp] theorem State.modMgmt_images : (s.modMgmt f).images = s.images := rfl
@[simp] theorem State.modMgmt_worlds : (s.modMgmt f).worlds = s.worlds := rfl
@[simp] theorem State.modMgmt_streams : (s.modMgmt f).streams = s.streams := rfl
@[simp] theorem State.modMgmt_clusters : (s.modMgmt f).clusters = s.clusters := rfl
@[simp] theorem State.modMgmt_stks : (s.modMgmt f).stks = s.stks := rfl
@[simp] theorem State.modMgmt_hub : (s.modMgmt f).hub = s.hub := rfl
@[simp] theorem State.modMgmt_frame : (s.modMgmt f).frame = s.frame := rfl
@[simp] theorem State.modMgmt_req : (s.modMgmt f).req = s.req := rfl
@[simp] theorem State.modMgmt_det : (s.modMgmt f).det = s.det := rfl
@[simp] theorem State.modMgmt_safety : (s.modMgmt f).safety = s.safety := rfl
@[simp] theorem State.modMgmt_boot : (s.modMgmt f).boot = s.boot := rfl
@[simp] theorem State.modMgmt_errors : (s.modMgmt f).errors = s.errors := rfl
@[simp] theorem State.modMgmt_fabric : (s.modMgmt f).fabric = s.fabric := rfl
@[simp] theorem State.modMgmt_farming : (s.modMgmt f).farming = s.farming := rfl
@[simp] theorem State.modMgmt_obs : (s.modMgmt f).obs = s.obs := rfl
@[simp] theorem State.modMgmt_host : (s.modMgmt f).host = s.host := rfl
@[simp] theorem State.modMgmt_hbm : (s.modMgmt f).hbm = s.hbm := rfl
@[simp] theorem State.modMgmt_sram : (s.modMgmt f).sram = s.sram := rfl
@[simp] theorem State.modMgmt_saves : (s.modMgmt f).saves = s.saves := rfl
@[simp] theorem State.modMgmt_free : (s.modMgmt f).free = s.free := rfl
@[simp] theorem State.modMgmt_pending : (s.modMgmt f).pending = s.pending := rfl
end

section
variable (f : TimeBase → TimeBase) (s : State)
@[simp] theorem State.modTime_part : (s.modTime f).part = s.part := rfl
@[simp] theorem State.modTime_flash : (s.modTime f).flash = s.flash := rfl
@[simp] theorem State.modTime_aon : (s.modTime f).aon = s.aon := rfl
@[simp] theorem State.modTime_mgmt : (s.modTime f).mgmt = s.mgmt := rfl
@[simp] theorem State.modTime_time : (s.modTime f).time = f s.time := rfl
@[simp] theorem State.modTime_pcie : (s.modTime f).pcie = s.pcie := rfl
@[simp] theorem State.modTime_mbx : (s.modTime f).mbx = s.mbx := rfl
@[simp] theorem State.modTime_rings : (s.modTime f).rings = s.rings := rfl
@[simp] theorem State.modTime_sessions : (s.modTime f).sessions = s.sessions := rfl
@[simp] theorem State.modTime_images : (s.modTime f).images = s.images := rfl
@[simp] theorem State.modTime_worlds : (s.modTime f).worlds = s.worlds := rfl
@[simp] theorem State.modTime_streams : (s.modTime f).streams = s.streams := rfl
@[simp] theorem State.modTime_clusters : (s.modTime f).clusters = s.clusters := rfl
@[simp] theorem State.modTime_stks : (s.modTime f).stks = s.stks := rfl
@[simp] theorem State.modTime_hub : (s.modTime f).hub = s.hub := rfl
@[simp] theorem State.modTime_frame : (s.modTime f).frame = s.frame := rfl
@[simp] theorem State.modTime_req : (s.modTime f).req = s.req := rfl
@[simp] theorem State.modTime_det : (s.modTime f).det = s.det := rfl
@[simp] theorem State.modTime_safety : (s.modTime f).safety = s.safety := rfl
@[simp] theorem State.modTime_boot : (s.modTime f).boot = s.boot := rfl
@[simp] theorem State.modTime_errors : (s.modTime f).errors = s.errors := rfl
@[simp] theorem State.modTime_fabric : (s.modTime f).fabric = s.fabric := rfl
@[simp] theorem State.modTime_farming : (s.modTime f).farming = s.farming := rfl
@[simp] theorem State.modTime_obs : (s.modTime f).obs = s.obs := rfl
@[simp] theorem State.modTime_host : (s.modTime f).host = s.host := rfl
@[simp] theorem State.modTime_hbm : (s.modTime f).hbm = s.hbm := rfl
@[simp] theorem State.modTime_sram : (s.modTime f).sram = s.sram := rfl
@[simp] theorem State.modTime_saves : (s.modTime f).saves = s.saves := rfl
@[simp] theorem State.modTime_free : (s.modTime f).free = s.free := rfl
@[simp] theorem State.modTime_pending : (s.modTime f).pending = s.pending := rfl
end

section
variable (f : Pcie → Pcie) (s : State)
@[simp] theorem State.modPcie_part : (s.modPcie f).part = s.part := rfl
@[simp] theorem State.modPcie_flash : (s.modPcie f).flash = s.flash := rfl
@[simp] theorem State.modPcie_aon : (s.modPcie f).aon = s.aon := rfl
@[simp] theorem State.modPcie_mgmt : (s.modPcie f).mgmt = s.mgmt := rfl
@[simp] theorem State.modPcie_time : (s.modPcie f).time = s.time := rfl
@[simp] theorem State.modPcie_pcie : (s.modPcie f).pcie = f s.pcie := rfl
@[simp] theorem State.modPcie_mbx : (s.modPcie f).mbx = s.mbx := rfl
@[simp] theorem State.modPcie_rings : (s.modPcie f).rings = s.rings := rfl
@[simp] theorem State.modPcie_sessions : (s.modPcie f).sessions = s.sessions := rfl
@[simp] theorem State.modPcie_images : (s.modPcie f).images = s.images := rfl
@[simp] theorem State.modPcie_worlds : (s.modPcie f).worlds = s.worlds := rfl
@[simp] theorem State.modPcie_streams : (s.modPcie f).streams = s.streams := rfl
@[simp] theorem State.modPcie_clusters : (s.modPcie f).clusters = s.clusters := rfl
@[simp] theorem State.modPcie_stks : (s.modPcie f).stks = s.stks := rfl
@[simp] theorem State.modPcie_hub : (s.modPcie f).hub = s.hub := rfl
@[simp] theorem State.modPcie_frame : (s.modPcie f).frame = s.frame := rfl
@[simp] theorem State.modPcie_req : (s.modPcie f).req = s.req := rfl
@[simp] theorem State.modPcie_det : (s.modPcie f).det = s.det := rfl
@[simp] theorem State.modPcie_safety : (s.modPcie f).safety = s.safety := rfl
@[simp] theorem State.modPcie_boot : (s.modPcie f).boot = s.boot := rfl
@[simp] theorem State.modPcie_errors : (s.modPcie f).errors = s.errors := rfl
@[simp] theorem State.modPcie_fabric : (s.modPcie f).fabric = s.fabric := rfl
@[simp] theorem State.modPcie_farming : (s.modPcie f).farming = s.farming := rfl
@[simp] theorem State.modPcie_obs : (s.modPcie f).obs = s.obs := rfl
@[simp] theorem State.modPcie_host : (s.modPcie f).host = s.host := rfl
@[simp] theorem State.modPcie_hbm : (s.modPcie f).hbm = s.hbm := rfl
@[simp] theorem State.modPcie_sram : (s.modPcie f).sram = s.sram := rfl
@[simp] theorem State.modPcie_saves : (s.modPcie f).saves = s.saves := rfl
@[simp] theorem State.modPcie_free : (s.modPcie f).free = s.free := rfl
@[simp] theorem State.modPcie_pending : (s.modPcie f).pending = s.pending := rfl
end

section
variable (f : Mailbox → Mailbox) (s : State)
@[simp] theorem State.modMbx_part : (s.modMbx f).part = s.part := rfl
@[simp] theorem State.modMbx_flash : (s.modMbx f).flash = s.flash := rfl
@[simp] theorem State.modMbx_aon : (s.modMbx f).aon = s.aon := rfl
@[simp] theorem State.modMbx_mgmt : (s.modMbx f).mgmt = s.mgmt := rfl
@[simp] theorem State.modMbx_time : (s.modMbx f).time = s.time := rfl
@[simp] theorem State.modMbx_pcie : (s.modMbx f).pcie = s.pcie := rfl
@[simp] theorem State.modMbx_mbx : (s.modMbx f).mbx = f s.mbx := rfl
@[simp] theorem State.modMbx_rings : (s.modMbx f).rings = s.rings := rfl
@[simp] theorem State.modMbx_sessions : (s.modMbx f).sessions = s.sessions := rfl
@[simp] theorem State.modMbx_images : (s.modMbx f).images = s.images := rfl
@[simp] theorem State.modMbx_worlds : (s.modMbx f).worlds = s.worlds := rfl
@[simp] theorem State.modMbx_streams : (s.modMbx f).streams = s.streams := rfl
@[simp] theorem State.modMbx_clusters : (s.modMbx f).clusters = s.clusters := rfl
@[simp] theorem State.modMbx_stks : (s.modMbx f).stks = s.stks := rfl
@[simp] theorem State.modMbx_hub : (s.modMbx f).hub = s.hub := rfl
@[simp] theorem State.modMbx_frame : (s.modMbx f).frame = s.frame := rfl
@[simp] theorem State.modMbx_req : (s.modMbx f).req = s.req := rfl
@[simp] theorem State.modMbx_det : (s.modMbx f).det = s.det := rfl
@[simp] theorem State.modMbx_safety : (s.modMbx f).safety = s.safety := rfl
@[simp] theorem State.modMbx_boot : (s.modMbx f).boot = s.boot := rfl
@[simp] theorem State.modMbx_errors : (s.modMbx f).errors = s.errors := rfl
@[simp] theorem State.modMbx_fabric : (s.modMbx f).fabric = s.fabric := rfl
@[simp] theorem State.modMbx_farming : (s.modMbx f).farming = s.farming := rfl
@[simp] theorem State.modMbx_obs : (s.modMbx f).obs = s.obs := rfl
@[simp] theorem State.modMbx_host : (s.modMbx f).host = s.host := rfl
@[simp] theorem State.modMbx_hbm : (s.modMbx f).hbm = s.hbm := rfl
@[simp] theorem State.modMbx_sram : (s.modMbx f).sram = s.sram := rfl
@[simp] theorem State.modMbx_saves : (s.modMbx f).saves = s.saves := rfl
@[simp] theorem State.modMbx_free : (s.modMbx f).free = s.free := rfl
@[simp] theorem State.modMbx_pending : (s.modMbx f).pending = s.pending := rfl
end

section
variable (f : List Ring → List Ring) (s : State)
@[simp] theorem State.modRings_part : (s.modRings f).part = s.part := rfl
@[simp] theorem State.modRings_flash : (s.modRings f).flash = s.flash := rfl
@[simp] theorem State.modRings_aon : (s.modRings f).aon = s.aon := rfl
@[simp] theorem State.modRings_mgmt : (s.modRings f).mgmt = s.mgmt := rfl
@[simp] theorem State.modRings_time : (s.modRings f).time = s.time := rfl
@[simp] theorem State.modRings_pcie : (s.modRings f).pcie = s.pcie := rfl
@[simp] theorem State.modRings_mbx : (s.modRings f).mbx = s.mbx := rfl
@[simp] theorem State.modRings_rings : (s.modRings f).rings = f s.rings := rfl
@[simp] theorem State.modRings_sessions : (s.modRings f).sessions = s.sessions := rfl
@[simp] theorem State.modRings_images : (s.modRings f).images = s.images := rfl
@[simp] theorem State.modRings_worlds : (s.modRings f).worlds = s.worlds := rfl
@[simp] theorem State.modRings_streams : (s.modRings f).streams = s.streams := rfl
@[simp] theorem State.modRings_clusters : (s.modRings f).clusters = s.clusters := rfl
@[simp] theorem State.modRings_stks : (s.modRings f).stks = s.stks := rfl
@[simp] theorem State.modRings_hub : (s.modRings f).hub = s.hub := rfl
@[simp] theorem State.modRings_frame : (s.modRings f).frame = s.frame := rfl
@[simp] theorem State.modRings_req : (s.modRings f).req = s.req := rfl
@[simp] theorem State.modRings_det : (s.modRings f).det = s.det := rfl
@[simp] theorem State.modRings_safety : (s.modRings f).safety = s.safety := rfl
@[simp] theorem State.modRings_boot : (s.modRings f).boot = s.boot := rfl
@[simp] theorem State.modRings_errors : (s.modRings f).errors = s.errors := rfl
@[simp] theorem State.modRings_fabric : (s.modRings f).fabric = s.fabric := rfl
@[simp] theorem State.modRings_farming : (s.modRings f).farming = s.farming := rfl
@[simp] theorem State.modRings_obs : (s.modRings f).obs = s.obs := rfl
@[simp] theorem State.modRings_host : (s.modRings f).host = s.host := rfl
@[simp] theorem State.modRings_hbm : (s.modRings f).hbm = s.hbm := rfl
@[simp] theorem State.modRings_sram : (s.modRings f).sram = s.sram := rfl
@[simp] theorem State.modRings_saves : (s.modRings f).saves = s.saves := rfl
@[simp] theorem State.modRings_free : (s.modRings f).free = s.free := rfl
@[simp] theorem State.modRings_pending : (s.modRings f).pending = s.pending := rfl
end

section
variable (f : List Session → List Session) (s : State)
@[simp] theorem State.modSessions_part : (s.modSessions f).part = s.part := rfl
@[simp] theorem State.modSessions_flash : (s.modSessions f).flash = s.flash := rfl
@[simp] theorem State.modSessions_aon : (s.modSessions f).aon = s.aon := rfl
@[simp] theorem State.modSessions_mgmt : (s.modSessions f).mgmt = s.mgmt := rfl
@[simp] theorem State.modSessions_time : (s.modSessions f).time = s.time := rfl
@[simp] theorem State.modSessions_pcie : (s.modSessions f).pcie = s.pcie := rfl
@[simp] theorem State.modSessions_mbx : (s.modSessions f).mbx = s.mbx := rfl
@[simp] theorem State.modSessions_rings : (s.modSessions f).rings = s.rings := rfl
@[simp] theorem State.modSessions_sessions : (s.modSessions f).sessions = f s.sessions := rfl
@[simp] theorem State.modSessions_images : (s.modSessions f).images = s.images := rfl
@[simp] theorem State.modSessions_worlds : (s.modSessions f).worlds = s.worlds := rfl
@[simp] theorem State.modSessions_streams : (s.modSessions f).streams = s.streams := rfl
@[simp] theorem State.modSessions_clusters : (s.modSessions f).clusters = s.clusters := rfl
@[simp] theorem State.modSessions_stks : (s.modSessions f).stks = s.stks := rfl
@[simp] theorem State.modSessions_hub : (s.modSessions f).hub = s.hub := rfl
@[simp] theorem State.modSessions_frame : (s.modSessions f).frame = s.frame := rfl
@[simp] theorem State.modSessions_req : (s.modSessions f).req = s.req := rfl
@[simp] theorem State.modSessions_det : (s.modSessions f).det = s.det := rfl
@[simp] theorem State.modSessions_safety : (s.modSessions f).safety = s.safety := rfl
@[simp] theorem State.modSessions_boot : (s.modSessions f).boot = s.boot := rfl
@[simp] theorem State.modSessions_errors : (s.modSessions f).errors = s.errors := rfl
@[simp] theorem State.modSessions_fabric : (s.modSessions f).fabric = s.fabric := rfl
@[simp] theorem State.modSessions_farming : (s.modSessions f).farming = s.farming := rfl
@[simp] theorem State.modSessions_obs : (s.modSessions f).obs = s.obs := rfl
@[simp] theorem State.modSessions_host : (s.modSessions f).host = s.host := rfl
@[simp] theorem State.modSessions_hbm : (s.modSessions f).hbm = s.hbm := rfl
@[simp] theorem State.modSessions_sram : (s.modSessions f).sram = s.sram := rfl
@[simp] theorem State.modSessions_saves : (s.modSessions f).saves = s.saves := rfl
@[simp] theorem State.modSessions_free : (s.modSessions f).free = s.free := rfl
@[simp] theorem State.modSessions_pending : (s.modSessions f).pending = s.pending := rfl
end

section
variable (f : Images → Images) (s : State)
@[simp] theorem State.modImages_part : (s.modImages f).part = s.part := rfl
@[simp] theorem State.modImages_flash : (s.modImages f).flash = s.flash := rfl
@[simp] theorem State.modImages_aon : (s.modImages f).aon = s.aon := rfl
@[simp] theorem State.modImages_mgmt : (s.modImages f).mgmt = s.mgmt := rfl
@[simp] theorem State.modImages_time : (s.modImages f).time = s.time := rfl
@[simp] theorem State.modImages_pcie : (s.modImages f).pcie = s.pcie := rfl
@[simp] theorem State.modImages_mbx : (s.modImages f).mbx = s.mbx := rfl
@[simp] theorem State.modImages_rings : (s.modImages f).rings = s.rings := rfl
@[simp] theorem State.modImages_sessions : (s.modImages f).sessions = s.sessions := rfl
@[simp] theorem State.modImages_images : (s.modImages f).images = f s.images := rfl
@[simp] theorem State.modImages_worlds : (s.modImages f).worlds = s.worlds := rfl
@[simp] theorem State.modImages_streams : (s.modImages f).streams = s.streams := rfl
@[simp] theorem State.modImages_clusters : (s.modImages f).clusters = s.clusters := rfl
@[simp] theorem State.modImages_stks : (s.modImages f).stks = s.stks := rfl
@[simp] theorem State.modImages_hub : (s.modImages f).hub = s.hub := rfl
@[simp] theorem State.modImages_frame : (s.modImages f).frame = s.frame := rfl
@[simp] theorem State.modImages_req : (s.modImages f).req = s.req := rfl
@[simp] theorem State.modImages_det : (s.modImages f).det = s.det := rfl
@[simp] theorem State.modImages_safety : (s.modImages f).safety = s.safety := rfl
@[simp] theorem State.modImages_boot : (s.modImages f).boot = s.boot := rfl
@[simp] theorem State.modImages_errors : (s.modImages f).errors = s.errors := rfl
@[simp] theorem State.modImages_fabric : (s.modImages f).fabric = s.fabric := rfl
@[simp] theorem State.modImages_farming : (s.modImages f).farming = s.farming := rfl
@[simp] theorem State.modImages_obs : (s.modImages f).obs = s.obs := rfl
@[simp] theorem State.modImages_host : (s.modImages f).host = s.host := rfl
@[simp] theorem State.modImages_hbm : (s.modImages f).hbm = s.hbm := rfl
@[simp] theorem State.modImages_sram : (s.modImages f).sram = s.sram := rfl
@[simp] theorem State.modImages_saves : (s.modImages f).saves = s.saves := rfl
@[simp] theorem State.modImages_free : (s.modImages f).free = s.free := rfl
@[simp] theorem State.modImages_pending : (s.modImages f).pending = s.pending := rfl
end

section
variable (f : Worlds → Worlds) (s : State)
@[simp] theorem State.modWorlds_part : (s.modWorlds f).part = s.part := rfl
@[simp] theorem State.modWorlds_flash : (s.modWorlds f).flash = s.flash := rfl
@[simp] theorem State.modWorlds_aon : (s.modWorlds f).aon = s.aon := rfl
@[simp] theorem State.modWorlds_mgmt : (s.modWorlds f).mgmt = s.mgmt := rfl
@[simp] theorem State.modWorlds_time : (s.modWorlds f).time = s.time := rfl
@[simp] theorem State.modWorlds_pcie : (s.modWorlds f).pcie = s.pcie := rfl
@[simp] theorem State.modWorlds_mbx : (s.modWorlds f).mbx = s.mbx := rfl
@[simp] theorem State.modWorlds_rings : (s.modWorlds f).rings = s.rings := rfl
@[simp] theorem State.modWorlds_sessions : (s.modWorlds f).sessions = s.sessions := rfl
@[simp] theorem State.modWorlds_images : (s.modWorlds f).images = s.images := rfl
@[simp] theorem State.modWorlds_worlds : (s.modWorlds f).worlds = f s.worlds := rfl
@[simp] theorem State.modWorlds_streams : (s.modWorlds f).streams = s.streams := rfl
@[simp] theorem State.modWorlds_clusters : (s.modWorlds f).clusters = s.clusters := rfl
@[simp] theorem State.modWorlds_stks : (s.modWorlds f).stks = s.stks := rfl
@[simp] theorem State.modWorlds_hub : (s.modWorlds f).hub = s.hub := rfl
@[simp] theorem State.modWorlds_frame : (s.modWorlds f).frame = s.frame := rfl
@[simp] theorem State.modWorlds_req : (s.modWorlds f).req = s.req := rfl
@[simp] theorem State.modWorlds_det : (s.modWorlds f).det = s.det := rfl
@[simp] theorem State.modWorlds_safety : (s.modWorlds f).safety = s.safety := rfl
@[simp] theorem State.modWorlds_boot : (s.modWorlds f).boot = s.boot := rfl
@[simp] theorem State.modWorlds_errors : (s.modWorlds f).errors = s.errors := rfl
@[simp] theorem State.modWorlds_fabric : (s.modWorlds f).fabric = s.fabric := rfl
@[simp] theorem State.modWorlds_farming : (s.modWorlds f).farming = s.farming := rfl
@[simp] theorem State.modWorlds_obs : (s.modWorlds f).obs = s.obs := rfl
@[simp] theorem State.modWorlds_host : (s.modWorlds f).host = s.host := rfl
@[simp] theorem State.modWorlds_hbm : (s.modWorlds f).hbm = s.hbm := rfl
@[simp] theorem State.modWorlds_sram : (s.modWorlds f).sram = s.sram := rfl
@[simp] theorem State.modWorlds_saves : (s.modWorlds f).saves = s.saves := rfl
@[simp] theorem State.modWorlds_free : (s.modWorlds f).free = s.free := rfl
@[simp] theorem State.modWorlds_pending : (s.modWorlds f).pending = s.pending := rfl
end

section
variable (f : List Stream → List Stream) (s : State)
@[simp] theorem State.modStreams_part : (s.modStreams f).part = s.part := rfl
@[simp] theorem State.modStreams_flash : (s.modStreams f).flash = s.flash := rfl
@[simp] theorem State.modStreams_aon : (s.modStreams f).aon = s.aon := rfl
@[simp] theorem State.modStreams_mgmt : (s.modStreams f).mgmt = s.mgmt := rfl
@[simp] theorem State.modStreams_time : (s.modStreams f).time = s.time := rfl
@[simp] theorem State.modStreams_pcie : (s.modStreams f).pcie = s.pcie := rfl
@[simp] theorem State.modStreams_mbx : (s.modStreams f).mbx = s.mbx := rfl
@[simp] theorem State.modStreams_rings : (s.modStreams f).rings = s.rings := rfl
@[simp] theorem State.modStreams_sessions : (s.modStreams f).sessions = s.sessions := rfl
@[simp] theorem State.modStreams_images : (s.modStreams f).images = s.images := rfl
@[simp] theorem State.modStreams_worlds : (s.modStreams f).worlds = s.worlds := rfl
@[simp] theorem State.modStreams_streams : (s.modStreams f).streams = f s.streams := rfl
@[simp] theorem State.modStreams_clusters : (s.modStreams f).clusters = s.clusters := rfl
@[simp] theorem State.modStreams_stks : (s.modStreams f).stks = s.stks := rfl
@[simp] theorem State.modStreams_hub : (s.modStreams f).hub = s.hub := rfl
@[simp] theorem State.modStreams_frame : (s.modStreams f).frame = s.frame := rfl
@[simp] theorem State.modStreams_req : (s.modStreams f).req = s.req := rfl
@[simp] theorem State.modStreams_det : (s.modStreams f).det = s.det := rfl
@[simp] theorem State.modStreams_safety : (s.modStreams f).safety = s.safety := rfl
@[simp] theorem State.modStreams_boot : (s.modStreams f).boot = s.boot := rfl
@[simp] theorem State.modStreams_errors : (s.modStreams f).errors = s.errors := rfl
@[simp] theorem State.modStreams_fabric : (s.modStreams f).fabric = s.fabric := rfl
@[simp] theorem State.modStreams_farming : (s.modStreams f).farming = s.farming := rfl
@[simp] theorem State.modStreams_obs : (s.modStreams f).obs = s.obs := rfl
@[simp] theorem State.modStreams_host : (s.modStreams f).host = s.host := rfl
@[simp] theorem State.modStreams_hbm : (s.modStreams f).hbm = s.hbm := rfl
@[simp] theorem State.modStreams_sram : (s.modStreams f).sram = s.sram := rfl
@[simp] theorem State.modStreams_saves : (s.modStreams f).saves = s.saves := rfl
@[simp] theorem State.modStreams_free : (s.modStreams f).free = s.free := rfl
@[simp] theorem State.modStreams_pending : (s.modStreams f).pending = s.pending := rfl
end

section
variable (f : List Cluster → List Cluster) (s : State)
@[simp] theorem State.modClusters_part : (s.modClusters f).part = s.part := rfl
@[simp] theorem State.modClusters_flash : (s.modClusters f).flash = s.flash := rfl
@[simp] theorem State.modClusters_aon : (s.modClusters f).aon = s.aon := rfl
@[simp] theorem State.modClusters_mgmt : (s.modClusters f).mgmt = s.mgmt := rfl
@[simp] theorem State.modClusters_time : (s.modClusters f).time = s.time := rfl
@[simp] theorem State.modClusters_pcie : (s.modClusters f).pcie = s.pcie := rfl
@[simp] theorem State.modClusters_mbx : (s.modClusters f).mbx = s.mbx := rfl
@[simp] theorem State.modClusters_rings : (s.modClusters f).rings = s.rings := rfl
@[simp] theorem State.modClusters_sessions : (s.modClusters f).sessions = s.sessions := rfl
@[simp] theorem State.modClusters_images : (s.modClusters f).images = s.images := rfl
@[simp] theorem State.modClusters_worlds : (s.modClusters f).worlds = s.worlds := rfl
@[simp] theorem State.modClusters_streams : (s.modClusters f).streams = s.streams := rfl
@[simp] theorem State.modClusters_clusters : (s.modClusters f).clusters = f s.clusters := rfl
@[simp] theorem State.modClusters_stks : (s.modClusters f).stks = s.stks := rfl
@[simp] theorem State.modClusters_hub : (s.modClusters f).hub = s.hub := rfl
@[simp] theorem State.modClusters_frame : (s.modClusters f).frame = s.frame := rfl
@[simp] theorem State.modClusters_req : (s.modClusters f).req = s.req := rfl
@[simp] theorem State.modClusters_det : (s.modClusters f).det = s.det := rfl
@[simp] theorem State.modClusters_safety : (s.modClusters f).safety = s.safety := rfl
@[simp] theorem State.modClusters_boot : (s.modClusters f).boot = s.boot := rfl
@[simp] theorem State.modClusters_errors : (s.modClusters f).errors = s.errors := rfl
@[simp] theorem State.modClusters_fabric : (s.modClusters f).fabric = s.fabric := rfl
@[simp] theorem State.modClusters_farming : (s.modClusters f).farming = s.farming := rfl
@[simp] theorem State.modClusters_obs : (s.modClusters f).obs = s.obs := rfl
@[simp] theorem State.modClusters_host : (s.modClusters f).host = s.host := rfl
@[simp] theorem State.modClusters_hbm : (s.modClusters f).hbm = s.hbm := rfl
@[simp] theorem State.modClusters_sram : (s.modClusters f).sram = s.sram := rfl
@[simp] theorem State.modClusters_saves : (s.modClusters f).saves = s.saves := rfl
@[simp] theorem State.modClusters_free : (s.modClusters f).free = s.free := rfl
@[simp] theorem State.modClusters_pending : (s.modClusters f).pending = s.pending := rfl
end

section
variable (f : List Stack → List Stack) (s : State)
@[simp] theorem State.modStks_part : (s.modStks f).part = s.part := rfl
@[simp] theorem State.modStks_flash : (s.modStks f).flash = s.flash := rfl
@[simp] theorem State.modStks_aon : (s.modStks f).aon = s.aon := rfl
@[simp] theorem State.modStks_mgmt : (s.modStks f).mgmt = s.mgmt := rfl
@[simp] theorem State.modStks_time : (s.modStks f).time = s.time := rfl
@[simp] theorem State.modStks_pcie : (s.modStks f).pcie = s.pcie := rfl
@[simp] theorem State.modStks_mbx : (s.modStks f).mbx = s.mbx := rfl
@[simp] theorem State.modStks_rings : (s.modStks f).rings = s.rings := rfl
@[simp] theorem State.modStks_sessions : (s.modStks f).sessions = s.sessions := rfl
@[simp] theorem State.modStks_images : (s.modStks f).images = s.images := rfl
@[simp] theorem State.modStks_worlds : (s.modStks f).worlds = s.worlds := rfl
@[simp] theorem State.modStks_streams : (s.modStks f).streams = s.streams := rfl
@[simp] theorem State.modStks_clusters : (s.modStks f).clusters = s.clusters := rfl
@[simp] theorem State.modStks_stks : (s.modStks f).stks = f s.stks := rfl
@[simp] theorem State.modStks_hub : (s.modStks f).hub = s.hub := rfl
@[simp] theorem State.modStks_frame : (s.modStks f).frame = s.frame := rfl
@[simp] theorem State.modStks_req : (s.modStks f).req = s.req := rfl
@[simp] theorem State.modStks_det : (s.modStks f).det = s.det := rfl
@[simp] theorem State.modStks_safety : (s.modStks f).safety = s.safety := rfl
@[simp] theorem State.modStks_boot : (s.modStks f).boot = s.boot := rfl
@[simp] theorem State.modStks_errors : (s.modStks f).errors = s.errors := rfl
@[simp] theorem State.modStks_fabric : (s.modStks f).fabric = s.fabric := rfl
@[simp] theorem State.modStks_farming : (s.modStks f).farming = s.farming := rfl
@[simp] theorem State.modStks_obs : (s.modStks f).obs = s.obs := rfl
@[simp] theorem State.modStks_host : (s.modStks f).host = s.host := rfl
@[simp] theorem State.modStks_hbm : (s.modStks f).hbm = s.hbm := rfl
@[simp] theorem State.modStks_sram : (s.modStks f).sram = s.sram := rfl
@[simp] theorem State.modStks_saves : (s.modStks f).saves = s.saves := rfl
@[simp] theorem State.modStks_free : (s.modStks f).free = s.free := rfl
@[simp] theorem State.modStks_pending : (s.modStks f).pending = s.pending := rfl
end

section
variable (f : Hub → Hub) (s : State)
@[simp] theorem State.modHub_part : (s.modHub f).part = s.part := rfl
@[simp] theorem State.modHub_flash : (s.modHub f).flash = s.flash := rfl
@[simp] theorem State.modHub_aon : (s.modHub f).aon = s.aon := rfl
@[simp] theorem State.modHub_mgmt : (s.modHub f).mgmt = s.mgmt := rfl
@[simp] theorem State.modHub_time : (s.modHub f).time = s.time := rfl
@[simp] theorem State.modHub_pcie : (s.modHub f).pcie = s.pcie := rfl
@[simp] theorem State.modHub_mbx : (s.modHub f).mbx = s.mbx := rfl
@[simp] theorem State.modHub_rings : (s.modHub f).rings = s.rings := rfl
@[simp] theorem State.modHub_sessions : (s.modHub f).sessions = s.sessions := rfl
@[simp] theorem State.modHub_images : (s.modHub f).images = s.images := rfl
@[simp] theorem State.modHub_worlds : (s.modHub f).worlds = s.worlds := rfl
@[simp] theorem State.modHub_streams : (s.modHub f).streams = s.streams := rfl
@[simp] theorem State.modHub_clusters : (s.modHub f).clusters = s.clusters := rfl
@[simp] theorem State.modHub_stks : (s.modHub f).stks = s.stks := rfl
@[simp] theorem State.modHub_hub : (s.modHub f).hub = f s.hub := rfl
@[simp] theorem State.modHub_frame : (s.modHub f).frame = s.frame := rfl
@[simp] theorem State.modHub_req : (s.modHub f).req = s.req := rfl
@[simp] theorem State.modHub_det : (s.modHub f).det = s.det := rfl
@[simp] theorem State.modHub_safety : (s.modHub f).safety = s.safety := rfl
@[simp] theorem State.modHub_boot : (s.modHub f).boot = s.boot := rfl
@[simp] theorem State.modHub_errors : (s.modHub f).errors = s.errors := rfl
@[simp] theorem State.modHub_fabric : (s.modHub f).fabric = s.fabric := rfl
@[simp] theorem State.modHub_farming : (s.modHub f).farming = s.farming := rfl
@[simp] theorem State.modHub_obs : (s.modHub f).obs = s.obs := rfl
@[simp] theorem State.modHub_host : (s.modHub f).host = s.host := rfl
@[simp] theorem State.modHub_hbm : (s.modHub f).hbm = s.hbm := rfl
@[simp] theorem State.modHub_sram : (s.modHub f).sram = s.sram := rfl
@[simp] theorem State.modHub_saves : (s.modHub f).saves = s.saves := rfl
@[simp] theorem State.modHub_free : (s.modHub f).free = s.free := rfl
@[simp] theorem State.modHub_pending : (s.modHub f).pending = s.pending := rfl
end

section
variable (f : Frame → Frame) (s : State)
@[simp] theorem State.modFrame_part : (s.modFrame f).part = s.part := rfl
@[simp] theorem State.modFrame_flash : (s.modFrame f).flash = s.flash := rfl
@[simp] theorem State.modFrame_aon : (s.modFrame f).aon = s.aon := rfl
@[simp] theorem State.modFrame_mgmt : (s.modFrame f).mgmt = s.mgmt := rfl
@[simp] theorem State.modFrame_time : (s.modFrame f).time = s.time := rfl
@[simp] theorem State.modFrame_pcie : (s.modFrame f).pcie = s.pcie := rfl
@[simp] theorem State.modFrame_mbx : (s.modFrame f).mbx = s.mbx := rfl
@[simp] theorem State.modFrame_rings : (s.modFrame f).rings = s.rings := rfl
@[simp] theorem State.modFrame_sessions : (s.modFrame f).sessions = s.sessions := rfl
@[simp] theorem State.modFrame_images : (s.modFrame f).images = s.images := rfl
@[simp] theorem State.modFrame_worlds : (s.modFrame f).worlds = s.worlds := rfl
@[simp] theorem State.modFrame_streams : (s.modFrame f).streams = s.streams := rfl
@[simp] theorem State.modFrame_clusters : (s.modFrame f).clusters = s.clusters := rfl
@[simp] theorem State.modFrame_stks : (s.modFrame f).stks = s.stks := rfl
@[simp] theorem State.modFrame_hub : (s.modFrame f).hub = s.hub := rfl
@[simp] theorem State.modFrame_frame : (s.modFrame f).frame = f s.frame := rfl
@[simp] theorem State.modFrame_req : (s.modFrame f).req = s.req := rfl
@[simp] theorem State.modFrame_det : (s.modFrame f).det = s.det := rfl
@[simp] theorem State.modFrame_safety : (s.modFrame f).safety = s.safety := rfl
@[simp] theorem State.modFrame_boot : (s.modFrame f).boot = s.boot := rfl
@[simp] theorem State.modFrame_errors : (s.modFrame f).errors = s.errors := rfl
@[simp] theorem State.modFrame_fabric : (s.modFrame f).fabric = s.fabric := rfl
@[simp] theorem State.modFrame_farming : (s.modFrame f).farming = s.farming := rfl
@[simp] theorem State.modFrame_obs : (s.modFrame f).obs = s.obs := rfl
@[simp] theorem State.modFrame_host : (s.modFrame f).host = s.host := rfl
@[simp] theorem State.modFrame_hbm : (s.modFrame f).hbm = s.hbm := rfl
@[simp] theorem State.modFrame_sram : (s.modFrame f).sram = s.sram := rfl
@[simp] theorem State.modFrame_saves : (s.modFrame f).saves = s.saves := rfl
@[simp] theorem State.modFrame_free : (s.modFrame f).free = s.free := rfl
@[simp] theorem State.modFrame_pending : (s.modFrame f).pending = s.pending := rfl
end

section
variable (f : FrameReq → FrameReq) (s : State)
@[simp] theorem State.modReq_part : (s.modReq f).part = s.part := rfl
@[simp] theorem State.modReq_flash : (s.modReq f).flash = s.flash := rfl
@[simp] theorem State.modReq_aon : (s.modReq f).aon = s.aon := rfl
@[simp] theorem State.modReq_mgmt : (s.modReq f).mgmt = s.mgmt := rfl
@[simp] theorem State.modReq_time : (s.modReq f).time = s.time := rfl
@[simp] theorem State.modReq_pcie : (s.modReq f).pcie = s.pcie := rfl
@[simp] theorem State.modReq_mbx : (s.modReq f).mbx = s.mbx := rfl
@[simp] theorem State.modReq_rings : (s.modReq f).rings = s.rings := rfl
@[simp] theorem State.modReq_sessions : (s.modReq f).sessions = s.sessions := rfl
@[simp] theorem State.modReq_images : (s.modReq f).images = s.images := rfl
@[simp] theorem State.modReq_worlds : (s.modReq f).worlds = s.worlds := rfl
@[simp] theorem State.modReq_streams : (s.modReq f).streams = s.streams := rfl
@[simp] theorem State.modReq_clusters : (s.modReq f).clusters = s.clusters := rfl
@[simp] theorem State.modReq_stks : (s.modReq f).stks = s.stks := rfl
@[simp] theorem State.modReq_hub : (s.modReq f).hub = s.hub := rfl
@[simp] theorem State.modReq_frame : (s.modReq f).frame = s.frame := rfl
@[simp] theorem State.modReq_req : (s.modReq f).req = f s.req := rfl
@[simp] theorem State.modReq_det : (s.modReq f).det = s.det := rfl
@[simp] theorem State.modReq_safety : (s.modReq f).safety = s.safety := rfl
@[simp] theorem State.modReq_boot : (s.modReq f).boot = s.boot := rfl
@[simp] theorem State.modReq_errors : (s.modReq f).errors = s.errors := rfl
@[simp] theorem State.modReq_fabric : (s.modReq f).fabric = s.fabric := rfl
@[simp] theorem State.modReq_farming : (s.modReq f).farming = s.farming := rfl
@[simp] theorem State.modReq_obs : (s.modReq f).obs = s.obs := rfl
@[simp] theorem State.modReq_host : (s.modReq f).host = s.host := rfl
@[simp] theorem State.modReq_hbm : (s.modReq f).hbm = s.hbm := rfl
@[simp] theorem State.modReq_sram : (s.modReq f).sram = s.sram := rfl
@[simp] theorem State.modReq_saves : (s.modReq f).saves = s.saves := rfl
@[simp] theorem State.modReq_free : (s.modReq f).free = s.free := rfl
@[simp] theorem State.modReq_pending : (s.modReq f).pending = s.pending := rfl
end

section
variable (f : Determinism → Determinism) (s : State)
@[simp] theorem State.modDet_part : (s.modDet f).part = s.part := rfl
@[simp] theorem State.modDet_flash : (s.modDet f).flash = s.flash := rfl
@[simp] theorem State.modDet_aon : (s.modDet f).aon = s.aon := rfl
@[simp] theorem State.modDet_mgmt : (s.modDet f).mgmt = s.mgmt := rfl
@[simp] theorem State.modDet_time : (s.modDet f).time = s.time := rfl
@[simp] theorem State.modDet_pcie : (s.modDet f).pcie = s.pcie := rfl
@[simp] theorem State.modDet_mbx : (s.modDet f).mbx = s.mbx := rfl
@[simp] theorem State.modDet_rings : (s.modDet f).rings = s.rings := rfl
@[simp] theorem State.modDet_sessions : (s.modDet f).sessions = s.sessions := rfl
@[simp] theorem State.modDet_images : (s.modDet f).images = s.images := rfl
@[simp] theorem State.modDet_worlds : (s.modDet f).worlds = s.worlds := rfl
@[simp] theorem State.modDet_streams : (s.modDet f).streams = s.streams := rfl
@[simp] theorem State.modDet_clusters : (s.modDet f).clusters = s.clusters := rfl
@[simp] theorem State.modDet_stks : (s.modDet f).stks = s.stks := rfl
@[simp] theorem State.modDet_hub : (s.modDet f).hub = s.hub := rfl
@[simp] theorem State.modDet_frame : (s.modDet f).frame = s.frame := rfl
@[simp] theorem State.modDet_req : (s.modDet f).req = s.req := rfl
@[simp] theorem State.modDet_det : (s.modDet f).det = f s.det := rfl
@[simp] theorem State.modDet_safety : (s.modDet f).safety = s.safety := rfl
@[simp] theorem State.modDet_boot : (s.modDet f).boot = s.boot := rfl
@[simp] theorem State.modDet_errors : (s.modDet f).errors = s.errors := rfl
@[simp] theorem State.modDet_fabric : (s.modDet f).fabric = s.fabric := rfl
@[simp] theorem State.modDet_farming : (s.modDet f).farming = s.farming := rfl
@[simp] theorem State.modDet_obs : (s.modDet f).obs = s.obs := rfl
@[simp] theorem State.modDet_host : (s.modDet f).host = s.host := rfl
@[simp] theorem State.modDet_hbm : (s.modDet f).hbm = s.hbm := rfl
@[simp] theorem State.modDet_sram : (s.modDet f).sram = s.sram := rfl
@[simp] theorem State.modDet_saves : (s.modDet f).saves = s.saves := rfl
@[simp] theorem State.modDet_free : (s.modDet f).free = s.free := rfl
@[simp] theorem State.modDet_pending : (s.modDet f).pending = s.pending := rfl
end

section
variable (f : Safety → Safety) (s : State)
@[simp] theorem State.modSafety_part : (s.modSafety f).part = s.part := rfl
@[simp] theorem State.modSafety_flash : (s.modSafety f).flash = s.flash := rfl
@[simp] theorem State.modSafety_aon : (s.modSafety f).aon = s.aon := rfl
@[simp] theorem State.modSafety_mgmt : (s.modSafety f).mgmt = s.mgmt := rfl
@[simp] theorem State.modSafety_time : (s.modSafety f).time = s.time := rfl
@[simp] theorem State.modSafety_pcie : (s.modSafety f).pcie = s.pcie := rfl
@[simp] theorem State.modSafety_mbx : (s.modSafety f).mbx = s.mbx := rfl
@[simp] theorem State.modSafety_rings : (s.modSafety f).rings = s.rings := rfl
@[simp] theorem State.modSafety_sessions : (s.modSafety f).sessions = s.sessions := rfl
@[simp] theorem State.modSafety_images : (s.modSafety f).images = s.images := rfl
@[simp] theorem State.modSafety_worlds : (s.modSafety f).worlds = s.worlds := rfl
@[simp] theorem State.modSafety_streams : (s.modSafety f).streams = s.streams := rfl
@[simp] theorem State.modSafety_clusters : (s.modSafety f).clusters = s.clusters := rfl
@[simp] theorem State.modSafety_stks : (s.modSafety f).stks = s.stks := rfl
@[simp] theorem State.modSafety_hub : (s.modSafety f).hub = s.hub := rfl
@[simp] theorem State.modSafety_frame : (s.modSafety f).frame = s.frame := rfl
@[simp] theorem State.modSafety_req : (s.modSafety f).req = s.req := rfl
@[simp] theorem State.modSafety_det : (s.modSafety f).det = s.det := rfl
@[simp] theorem State.modSafety_safety : (s.modSafety f).safety = f s.safety := rfl
@[simp] theorem State.modSafety_boot : (s.modSafety f).boot = s.boot := rfl
@[simp] theorem State.modSafety_errors : (s.modSafety f).errors = s.errors := rfl
@[simp] theorem State.modSafety_fabric : (s.modSafety f).fabric = s.fabric := rfl
@[simp] theorem State.modSafety_farming : (s.modSafety f).farming = s.farming := rfl
@[simp] theorem State.modSafety_obs : (s.modSafety f).obs = s.obs := rfl
@[simp] theorem State.modSafety_host : (s.modSafety f).host = s.host := rfl
@[simp] theorem State.modSafety_hbm : (s.modSafety f).hbm = s.hbm := rfl
@[simp] theorem State.modSafety_sram : (s.modSafety f).sram = s.sram := rfl
@[simp] theorem State.modSafety_saves : (s.modSafety f).saves = s.saves := rfl
@[simp] theorem State.modSafety_free : (s.modSafety f).free = s.free := rfl
@[simp] theorem State.modSafety_pending : (s.modSafety f).pending = s.pending := rfl
end

section
variable (f : BootState → BootState) (s : State)
@[simp] theorem State.modBoot_part : (s.modBoot f).part = s.part := rfl
@[simp] theorem State.modBoot_flash : (s.modBoot f).flash = s.flash := rfl
@[simp] theorem State.modBoot_aon : (s.modBoot f).aon = s.aon := rfl
@[simp] theorem State.modBoot_mgmt : (s.modBoot f).mgmt = s.mgmt := rfl
@[simp] theorem State.modBoot_time : (s.modBoot f).time = s.time := rfl
@[simp] theorem State.modBoot_pcie : (s.modBoot f).pcie = s.pcie := rfl
@[simp] theorem State.modBoot_mbx : (s.modBoot f).mbx = s.mbx := rfl
@[simp] theorem State.modBoot_rings : (s.modBoot f).rings = s.rings := rfl
@[simp] theorem State.modBoot_sessions : (s.modBoot f).sessions = s.sessions := rfl
@[simp] theorem State.modBoot_images : (s.modBoot f).images = s.images := rfl
@[simp] theorem State.modBoot_worlds : (s.modBoot f).worlds = s.worlds := rfl
@[simp] theorem State.modBoot_streams : (s.modBoot f).streams = s.streams := rfl
@[simp] theorem State.modBoot_clusters : (s.modBoot f).clusters = s.clusters := rfl
@[simp] theorem State.modBoot_stks : (s.modBoot f).stks = s.stks := rfl
@[simp] theorem State.modBoot_hub : (s.modBoot f).hub = s.hub := rfl
@[simp] theorem State.modBoot_frame : (s.modBoot f).frame = s.frame := rfl
@[simp] theorem State.modBoot_req : (s.modBoot f).req = s.req := rfl
@[simp] theorem State.modBoot_det : (s.modBoot f).det = s.det := rfl
@[simp] theorem State.modBoot_safety : (s.modBoot f).safety = s.safety := rfl
@[simp] theorem State.modBoot_boot : (s.modBoot f).boot = f s.boot := rfl
@[simp] theorem State.modBoot_errors : (s.modBoot f).errors = s.errors := rfl
@[simp] theorem State.modBoot_fabric : (s.modBoot f).fabric = s.fabric := rfl
@[simp] theorem State.modBoot_farming : (s.modBoot f).farming = s.farming := rfl
@[simp] theorem State.modBoot_obs : (s.modBoot f).obs = s.obs := rfl
@[simp] theorem State.modBoot_host : (s.modBoot f).host = s.host := rfl
@[simp] theorem State.modBoot_hbm : (s.modBoot f).hbm = s.hbm := rfl
@[simp] theorem State.modBoot_sram : (s.modBoot f).sram = s.sram := rfl
@[simp] theorem State.modBoot_saves : (s.modBoot f).saves = s.saves := rfl
@[simp] theorem State.modBoot_free : (s.modBoot f).free = s.free := rfl
@[simp] theorem State.modBoot_pending : (s.modBoot f).pending = s.pending := rfl
end

section
variable (f : Errors → Errors) (s : State)
@[simp] theorem State.modErrors_part : (s.modErrors f).part = s.part := rfl
@[simp] theorem State.modErrors_flash : (s.modErrors f).flash = s.flash := rfl
@[simp] theorem State.modErrors_aon : (s.modErrors f).aon = s.aon := rfl
@[simp] theorem State.modErrors_mgmt : (s.modErrors f).mgmt = s.mgmt := rfl
@[simp] theorem State.modErrors_time : (s.modErrors f).time = s.time := rfl
@[simp] theorem State.modErrors_pcie : (s.modErrors f).pcie = s.pcie := rfl
@[simp] theorem State.modErrors_mbx : (s.modErrors f).mbx = s.mbx := rfl
@[simp] theorem State.modErrors_rings : (s.modErrors f).rings = s.rings := rfl
@[simp] theorem State.modErrors_sessions : (s.modErrors f).sessions = s.sessions := rfl
@[simp] theorem State.modErrors_images : (s.modErrors f).images = s.images := rfl
@[simp] theorem State.modErrors_worlds : (s.modErrors f).worlds = s.worlds := rfl
@[simp] theorem State.modErrors_streams : (s.modErrors f).streams = s.streams := rfl
@[simp] theorem State.modErrors_clusters : (s.modErrors f).clusters = s.clusters := rfl
@[simp] theorem State.modErrors_stks : (s.modErrors f).stks = s.stks := rfl
@[simp] theorem State.modErrors_hub : (s.modErrors f).hub = s.hub := rfl
@[simp] theorem State.modErrors_frame : (s.modErrors f).frame = s.frame := rfl
@[simp] theorem State.modErrors_req : (s.modErrors f).req = s.req := rfl
@[simp] theorem State.modErrors_det : (s.modErrors f).det = s.det := rfl
@[simp] theorem State.modErrors_safety : (s.modErrors f).safety = s.safety := rfl
@[simp] theorem State.modErrors_boot : (s.modErrors f).boot = s.boot := rfl
@[simp] theorem State.modErrors_errors : (s.modErrors f).errors = f s.errors := rfl
@[simp] theorem State.modErrors_fabric : (s.modErrors f).fabric = s.fabric := rfl
@[simp] theorem State.modErrors_farming : (s.modErrors f).farming = s.farming := rfl
@[simp] theorem State.modErrors_obs : (s.modErrors f).obs = s.obs := rfl
@[simp] theorem State.modErrors_host : (s.modErrors f).host = s.host := rfl
@[simp] theorem State.modErrors_hbm : (s.modErrors f).hbm = s.hbm := rfl
@[simp] theorem State.modErrors_sram : (s.modErrors f).sram = s.sram := rfl
@[simp] theorem State.modErrors_saves : (s.modErrors f).saves = s.saves := rfl
@[simp] theorem State.modErrors_free : (s.modErrors f).free = s.free := rfl
@[simp] theorem State.modErrors_pending : (s.modErrors f).pending = s.pending := rfl
end

section
variable (f : Fabric → Fabric) (s : State)
@[simp] theorem State.modFabric_part : (s.modFabric f).part = s.part := rfl
@[simp] theorem State.modFabric_flash : (s.modFabric f).flash = s.flash := rfl
@[simp] theorem State.modFabric_aon : (s.modFabric f).aon = s.aon := rfl
@[simp] theorem State.modFabric_mgmt : (s.modFabric f).mgmt = s.mgmt := rfl
@[simp] theorem State.modFabric_time : (s.modFabric f).time = s.time := rfl
@[simp] theorem State.modFabric_pcie : (s.modFabric f).pcie = s.pcie := rfl
@[simp] theorem State.modFabric_mbx : (s.modFabric f).mbx = s.mbx := rfl
@[simp] theorem State.modFabric_rings : (s.modFabric f).rings = s.rings := rfl
@[simp] theorem State.modFabric_sessions : (s.modFabric f).sessions = s.sessions := rfl
@[simp] theorem State.modFabric_images : (s.modFabric f).images = s.images := rfl
@[simp] theorem State.modFabric_worlds : (s.modFabric f).worlds = s.worlds := rfl
@[simp] theorem State.modFabric_streams : (s.modFabric f).streams = s.streams := rfl
@[simp] theorem State.modFabric_clusters : (s.modFabric f).clusters = s.clusters := rfl
@[simp] theorem State.modFabric_stks : (s.modFabric f).stks = s.stks := rfl
@[simp] theorem State.modFabric_hub : (s.modFabric f).hub = s.hub := rfl
@[simp] theorem State.modFabric_frame : (s.modFabric f).frame = s.frame := rfl
@[simp] theorem State.modFabric_req : (s.modFabric f).req = s.req := rfl
@[simp] theorem State.modFabric_det : (s.modFabric f).det = s.det := rfl
@[simp] theorem State.modFabric_safety : (s.modFabric f).safety = s.safety := rfl
@[simp] theorem State.modFabric_boot : (s.modFabric f).boot = s.boot := rfl
@[simp] theorem State.modFabric_errors : (s.modFabric f).errors = s.errors := rfl
@[simp] theorem State.modFabric_fabric : (s.modFabric f).fabric = f s.fabric := rfl
@[simp] theorem State.modFabric_farming : (s.modFabric f).farming = s.farming := rfl
@[simp] theorem State.modFabric_obs : (s.modFabric f).obs = s.obs := rfl
@[simp] theorem State.modFabric_host : (s.modFabric f).host = s.host := rfl
@[simp] theorem State.modFabric_hbm : (s.modFabric f).hbm = s.hbm := rfl
@[simp] theorem State.modFabric_sram : (s.modFabric f).sram = s.sram := rfl
@[simp] theorem State.modFabric_saves : (s.modFabric f).saves = s.saves := rfl
@[simp] theorem State.modFabric_free : (s.modFabric f).free = s.free := rfl
@[simp] theorem State.modFabric_pending : (s.modFabric f).pending = s.pending := rfl
end

section
variable (f : Farming → Farming) (s : State)
@[simp] theorem State.modFarming_part : (s.modFarming f).part = s.part := rfl
@[simp] theorem State.modFarming_flash : (s.modFarming f).flash = s.flash := rfl
@[simp] theorem State.modFarming_aon : (s.modFarming f).aon = s.aon := rfl
@[simp] theorem State.modFarming_mgmt : (s.modFarming f).mgmt = s.mgmt := rfl
@[simp] theorem State.modFarming_time : (s.modFarming f).time = s.time := rfl
@[simp] theorem State.modFarming_pcie : (s.modFarming f).pcie = s.pcie := rfl
@[simp] theorem State.modFarming_mbx : (s.modFarming f).mbx = s.mbx := rfl
@[simp] theorem State.modFarming_rings : (s.modFarming f).rings = s.rings := rfl
@[simp] theorem State.modFarming_sessions : (s.modFarming f).sessions = s.sessions := rfl
@[simp] theorem State.modFarming_images : (s.modFarming f).images = s.images := rfl
@[simp] theorem State.modFarming_worlds : (s.modFarming f).worlds = s.worlds := rfl
@[simp] theorem State.modFarming_streams : (s.modFarming f).streams = s.streams := rfl
@[simp] theorem State.modFarming_clusters : (s.modFarming f).clusters = s.clusters := rfl
@[simp] theorem State.modFarming_stks : (s.modFarming f).stks = s.stks := rfl
@[simp] theorem State.modFarming_hub : (s.modFarming f).hub = s.hub := rfl
@[simp] theorem State.modFarming_frame : (s.modFarming f).frame = s.frame := rfl
@[simp] theorem State.modFarming_req : (s.modFarming f).req = s.req := rfl
@[simp] theorem State.modFarming_det : (s.modFarming f).det = s.det := rfl
@[simp] theorem State.modFarming_safety : (s.modFarming f).safety = s.safety := rfl
@[simp] theorem State.modFarming_boot : (s.modFarming f).boot = s.boot := rfl
@[simp] theorem State.modFarming_errors : (s.modFarming f).errors = s.errors := rfl
@[simp] theorem State.modFarming_fabric : (s.modFarming f).fabric = s.fabric := rfl
@[simp] theorem State.modFarming_farming : (s.modFarming f).farming = f s.farming := rfl
@[simp] theorem State.modFarming_obs : (s.modFarming f).obs = s.obs := rfl
@[simp] theorem State.modFarming_host : (s.modFarming f).host = s.host := rfl
@[simp] theorem State.modFarming_hbm : (s.modFarming f).hbm = s.hbm := rfl
@[simp] theorem State.modFarming_sram : (s.modFarming f).sram = s.sram := rfl
@[simp] theorem State.modFarming_saves : (s.modFarming f).saves = s.saves := rfl
@[simp] theorem State.modFarming_free : (s.modFarming f).free = s.free := rfl
@[simp] theorem State.modFarming_pending : (s.modFarming f).pending = s.pending := rfl
end

section
variable (f : Observability → Observability) (s : State)
@[simp] theorem State.modObs_part : (s.modObs f).part = s.part := rfl
@[simp] theorem State.modObs_flash : (s.modObs f).flash = s.flash := rfl
@[simp] theorem State.modObs_aon : (s.modObs f).aon = s.aon := rfl
@[simp] theorem State.modObs_mgmt : (s.modObs f).mgmt = s.mgmt := rfl
@[simp] theorem State.modObs_time : (s.modObs f).time = s.time := rfl
@[simp] theorem State.modObs_pcie : (s.modObs f).pcie = s.pcie := rfl
@[simp] theorem State.modObs_mbx : (s.modObs f).mbx = s.mbx := rfl
@[simp] theorem State.modObs_rings : (s.modObs f).rings = s.rings := rfl
@[simp] theorem State.modObs_sessions : (s.modObs f).sessions = s.sessions := rfl
@[simp] theorem State.modObs_images : (s.modObs f).images = s.images := rfl
@[simp] theorem State.modObs_worlds : (s.modObs f).worlds = s.worlds := rfl
@[simp] theorem State.modObs_streams : (s.modObs f).streams = s.streams := rfl
@[simp] theorem State.modObs_clusters : (s.modObs f).clusters = s.clusters := rfl
@[simp] theorem State.modObs_stks : (s.modObs f).stks = s.stks := rfl
@[simp] theorem State.modObs_hub : (s.modObs f).hub = s.hub := rfl
@[simp] theorem State.modObs_frame : (s.modObs f).frame = s.frame := rfl
@[simp] theorem State.modObs_req : (s.modObs f).req = s.req := rfl
@[simp] theorem State.modObs_det : (s.modObs f).det = s.det := rfl
@[simp] theorem State.modObs_safety : (s.modObs f).safety = s.safety := rfl
@[simp] theorem State.modObs_boot : (s.modObs f).boot = s.boot := rfl
@[simp] theorem State.modObs_errors : (s.modObs f).errors = s.errors := rfl
@[simp] theorem State.modObs_fabric : (s.modObs f).fabric = s.fabric := rfl
@[simp] theorem State.modObs_farming : (s.modObs f).farming = s.farming := rfl
@[simp] theorem State.modObs_obs : (s.modObs f).obs = f s.obs := rfl
@[simp] theorem State.modObs_host : (s.modObs f).host = s.host := rfl
@[simp] theorem State.modObs_hbm : (s.modObs f).hbm = s.hbm := rfl
@[simp] theorem State.modObs_sram : (s.modObs f).sram = s.sram := rfl
@[simp] theorem State.modObs_saves : (s.modObs f).saves = s.saves := rfl
@[simp] theorem State.modObs_free : (s.modObs f).free = s.free := rfl
@[simp] theorem State.modObs_pending : (s.modObs f).pending = s.pending := rfl
end

section
variable (f : Mem → Mem) (s : State)
@[simp] theorem State.modHost_part : (s.modHost f).part = s.part := rfl
@[simp] theorem State.modHost_flash : (s.modHost f).flash = s.flash := rfl
@[simp] theorem State.modHost_aon : (s.modHost f).aon = s.aon := rfl
@[simp] theorem State.modHost_mgmt : (s.modHost f).mgmt = s.mgmt := rfl
@[simp] theorem State.modHost_time : (s.modHost f).time = s.time := rfl
@[simp] theorem State.modHost_pcie : (s.modHost f).pcie = s.pcie := rfl
@[simp] theorem State.modHost_mbx : (s.modHost f).mbx = s.mbx := rfl
@[simp] theorem State.modHost_rings : (s.modHost f).rings = s.rings := rfl
@[simp] theorem State.modHost_sessions : (s.modHost f).sessions = s.sessions := rfl
@[simp] theorem State.modHost_images : (s.modHost f).images = s.images := rfl
@[simp] theorem State.modHost_worlds : (s.modHost f).worlds = s.worlds := rfl
@[simp] theorem State.modHost_streams : (s.modHost f).streams = s.streams := rfl
@[simp] theorem State.modHost_clusters : (s.modHost f).clusters = s.clusters := rfl
@[simp] theorem State.modHost_stks : (s.modHost f).stks = s.stks := rfl
@[simp] theorem State.modHost_hub : (s.modHost f).hub = s.hub := rfl
@[simp] theorem State.modHost_frame : (s.modHost f).frame = s.frame := rfl
@[simp] theorem State.modHost_req : (s.modHost f).req = s.req := rfl
@[simp] theorem State.modHost_det : (s.modHost f).det = s.det := rfl
@[simp] theorem State.modHost_safety : (s.modHost f).safety = s.safety := rfl
@[simp] theorem State.modHost_boot : (s.modHost f).boot = s.boot := rfl
@[simp] theorem State.modHost_errors : (s.modHost f).errors = s.errors := rfl
@[simp] theorem State.modHost_fabric : (s.modHost f).fabric = s.fabric := rfl
@[simp] theorem State.modHost_farming : (s.modHost f).farming = s.farming := rfl
@[simp] theorem State.modHost_obs : (s.modHost f).obs = s.obs := rfl
@[simp] theorem State.modHost_host : (s.modHost f).host = f s.host := rfl
@[simp] theorem State.modHost_hbm : (s.modHost f).hbm = s.hbm := rfl
@[simp] theorem State.modHost_sram : (s.modHost f).sram = s.sram := rfl
@[simp] theorem State.modHost_saves : (s.modHost f).saves = s.saves := rfl
@[simp] theorem State.modHost_free : (s.modHost f).free = s.free := rfl
@[simp] theorem State.modHost_pending : (s.modHost f).pending = s.pending := rfl
end

section
variable (f : Mem → Mem) (s : State)
@[simp] theorem State.modHbm_part : (s.modHbm f).part = s.part := rfl
@[simp] theorem State.modHbm_flash : (s.modHbm f).flash = s.flash := rfl
@[simp] theorem State.modHbm_aon : (s.modHbm f).aon = s.aon := rfl
@[simp] theorem State.modHbm_mgmt : (s.modHbm f).mgmt = s.mgmt := rfl
@[simp] theorem State.modHbm_time : (s.modHbm f).time = s.time := rfl
@[simp] theorem State.modHbm_pcie : (s.modHbm f).pcie = s.pcie := rfl
@[simp] theorem State.modHbm_mbx : (s.modHbm f).mbx = s.mbx := rfl
@[simp] theorem State.modHbm_rings : (s.modHbm f).rings = s.rings := rfl
@[simp] theorem State.modHbm_sessions : (s.modHbm f).sessions = s.sessions := rfl
@[simp] theorem State.modHbm_images : (s.modHbm f).images = s.images := rfl
@[simp] theorem State.modHbm_worlds : (s.modHbm f).worlds = s.worlds := rfl
@[simp] theorem State.modHbm_streams : (s.modHbm f).streams = s.streams := rfl
@[simp] theorem State.modHbm_clusters : (s.modHbm f).clusters = s.clusters := rfl
@[simp] theorem State.modHbm_stks : (s.modHbm f).stks = s.stks := rfl
@[simp] theorem State.modHbm_hub : (s.modHbm f).hub = s.hub := rfl
@[simp] theorem State.modHbm_frame : (s.modHbm f).frame = s.frame := rfl
@[simp] theorem State.modHbm_req : (s.modHbm f).req = s.req := rfl
@[simp] theorem State.modHbm_det : (s.modHbm f).det = s.det := rfl
@[simp] theorem State.modHbm_safety : (s.modHbm f).safety = s.safety := rfl
@[simp] theorem State.modHbm_boot : (s.modHbm f).boot = s.boot := rfl
@[simp] theorem State.modHbm_errors : (s.modHbm f).errors = s.errors := rfl
@[simp] theorem State.modHbm_fabric : (s.modHbm f).fabric = s.fabric := rfl
@[simp] theorem State.modHbm_farming : (s.modHbm f).farming = s.farming := rfl
@[simp] theorem State.modHbm_obs : (s.modHbm f).obs = s.obs := rfl
@[simp] theorem State.modHbm_host : (s.modHbm f).host = s.host := rfl
@[simp] theorem State.modHbm_hbm : (s.modHbm f).hbm = f s.hbm := rfl
@[simp] theorem State.modHbm_sram : (s.modHbm f).sram = s.sram := rfl
@[simp] theorem State.modHbm_saves : (s.modHbm f).saves = s.saves := rfl
@[simp] theorem State.modHbm_free : (s.modHbm f).free = s.free := rfl
@[simp] theorem State.modHbm_pending : (s.modHbm f).pending = s.pending := rfl
end

section
variable (f : Mem → Mem) (s : State)
@[simp] theorem State.modSram_part : (s.modSram f).part = s.part := rfl
@[simp] theorem State.modSram_flash : (s.modSram f).flash = s.flash := rfl
@[simp] theorem State.modSram_aon : (s.modSram f).aon = s.aon := rfl
@[simp] theorem State.modSram_mgmt : (s.modSram f).mgmt = s.mgmt := rfl
@[simp] theorem State.modSram_time : (s.modSram f).time = s.time := rfl
@[simp] theorem State.modSram_pcie : (s.modSram f).pcie = s.pcie := rfl
@[simp] theorem State.modSram_mbx : (s.modSram f).mbx = s.mbx := rfl
@[simp] theorem State.modSram_rings : (s.modSram f).rings = s.rings := rfl
@[simp] theorem State.modSram_sessions : (s.modSram f).sessions = s.sessions := rfl
@[simp] theorem State.modSram_images : (s.modSram f).images = s.images := rfl
@[simp] theorem State.modSram_worlds : (s.modSram f).worlds = s.worlds := rfl
@[simp] theorem State.modSram_streams : (s.modSram f).streams = s.streams := rfl
@[simp] theorem State.modSram_clusters : (s.modSram f).clusters = s.clusters := rfl
@[simp] theorem State.modSram_stks : (s.modSram f).stks = s.stks := rfl
@[simp] theorem State.modSram_hub : (s.modSram f).hub = s.hub := rfl
@[simp] theorem State.modSram_frame : (s.modSram f).frame = s.frame := rfl
@[simp] theorem State.modSram_req : (s.modSram f).req = s.req := rfl
@[simp] theorem State.modSram_det : (s.modSram f).det = s.det := rfl
@[simp] theorem State.modSram_safety : (s.modSram f).safety = s.safety := rfl
@[simp] theorem State.modSram_boot : (s.modSram f).boot = s.boot := rfl
@[simp] theorem State.modSram_errors : (s.modSram f).errors = s.errors := rfl
@[simp] theorem State.modSram_fabric : (s.modSram f).fabric = s.fabric := rfl
@[simp] theorem State.modSram_farming : (s.modSram f).farming = s.farming := rfl
@[simp] theorem State.modSram_obs : (s.modSram f).obs = s.obs := rfl
@[simp] theorem State.modSram_host : (s.modSram f).host = s.host := rfl
@[simp] theorem State.modSram_hbm : (s.modSram f).hbm = s.hbm := rfl
@[simp] theorem State.modSram_sram : (s.modSram f).sram = f s.sram := rfl
@[simp] theorem State.modSram_saves : (s.modSram f).saves = s.saves := rfl
@[simp] theorem State.modSram_free : (s.modSram f).free = s.free := rfl
@[simp] theorem State.modSram_pending : (s.modSram f).pending = s.pending := rfl
end

section
variable (f : Nat → Nat) (s : State)
@[simp] theorem State.modFree_part : (s.modFree f).part = s.part := rfl
@[simp] theorem State.modFree_flash : (s.modFree f).flash = s.flash := rfl
@[simp] theorem State.modFree_aon : (s.modFree f).aon = s.aon := rfl
@[simp] theorem State.modFree_mgmt : (s.modFree f).mgmt = s.mgmt := rfl
@[simp] theorem State.modFree_time : (s.modFree f).time = s.time := rfl
@[simp] theorem State.modFree_pcie : (s.modFree f).pcie = s.pcie := rfl
@[simp] theorem State.modFree_mbx : (s.modFree f).mbx = s.mbx := rfl
@[simp] theorem State.modFree_rings : (s.modFree f).rings = s.rings := rfl
@[simp] theorem State.modFree_sessions : (s.modFree f).sessions = s.sessions := rfl
@[simp] theorem State.modFree_images : (s.modFree f).images = s.images := rfl
@[simp] theorem State.modFree_worlds : (s.modFree f).worlds = s.worlds := rfl
@[simp] theorem State.modFree_streams : (s.modFree f).streams = s.streams := rfl
@[simp] theorem State.modFree_clusters : (s.modFree f).clusters = s.clusters := rfl
@[simp] theorem State.modFree_stks : (s.modFree f).stks = s.stks := rfl
@[simp] theorem State.modFree_hub : (s.modFree f).hub = s.hub := rfl
@[simp] theorem State.modFree_frame : (s.modFree f).frame = s.frame := rfl
@[simp] theorem State.modFree_req : (s.modFree f).req = s.req := rfl
@[simp] theorem State.modFree_det : (s.modFree f).det = s.det := rfl
@[simp] theorem State.modFree_safety : (s.modFree f).safety = s.safety := rfl
@[simp] theorem State.modFree_boot : (s.modFree f).boot = s.boot := rfl
@[simp] theorem State.modFree_errors : (s.modFree f).errors = s.errors := rfl
@[simp] theorem State.modFree_fabric : (s.modFree f).fabric = s.fabric := rfl
@[simp] theorem State.modFree_farming : (s.modFree f).farming = s.farming := rfl
@[simp] theorem State.modFree_obs : (s.modFree f).obs = s.obs := rfl
@[simp] theorem State.modFree_host : (s.modFree f).host = s.host := rfl
@[simp] theorem State.modFree_hbm : (s.modFree f).hbm = s.hbm := rfl
@[simp] theorem State.modFree_sram : (s.modFree f).sram = s.sram := rfl
@[simp] theorem State.modFree_saves : (s.modFree f).saves = s.saves := rfl
@[simp] theorem State.modFree_free : (s.modFree f).free = f s.free := rfl
@[simp] theorem State.modFree_pending : (s.modFree f).pending = s.pending := rfl
end

/-! ## A view of a choice is the choice of the views -/

theorem State.ite_part (c : Prop) [Decidable c] (a b : State) : (if c then a else b).part = if c then a.part else b.part := by
  split <;> rfl
theorem State.ite_flash (c : Prop) [Decidable c] (a b : State) : (if c then a else b).flash = if c then a.flash else b.flash := by
  split <;> rfl
theorem State.ite_aon (c : Prop) [Decidable c] (a b : State) : (if c then a else b).aon = if c then a.aon else b.aon := by
  split <;> rfl
theorem State.ite_mgmt (c : Prop) [Decidable c] (a b : State) : (if c then a else b).mgmt = if c then a.mgmt else b.mgmt := by
  split <;> rfl
theorem State.ite_time (c : Prop) [Decidable c] (a b : State) : (if c then a else b).time = if c then a.time else b.time := by
  split <;> rfl
theorem State.ite_pcie (c : Prop) [Decidable c] (a b : State) : (if c then a else b).pcie = if c then a.pcie else b.pcie := by
  split <;> rfl
theorem State.ite_mbx (c : Prop) [Decidable c] (a b : State) : (if c then a else b).mbx = if c then a.mbx else b.mbx := by
  split <;> rfl
theorem State.ite_rings (c : Prop) [Decidable c] (a b : State) : (if c then a else b).rings = if c then a.rings else b.rings := by
  split <;> rfl
theorem State.ite_sessions (c : Prop) [Decidable c] (a b : State) : (if c then a else b).sessions = if c then a.sessions else b.sessions := by
  split <;> rfl
theorem State.ite_images (c : Prop) [Decidable c] (a b : State) : (if c then a else b).images = if c then a.images else b.images := by
  split <;> rfl
theorem State.ite_worlds (c : Prop) [Decidable c] (a b : State) : (if c then a else b).worlds = if c then a.worlds else b.worlds := by
  split <;> rfl
theorem State.ite_streams (c : Prop) [Decidable c] (a b : State) : (if c then a else b).streams = if c then a.streams else b.streams := by
  split <;> rfl
theorem State.ite_clusters (c : Prop) [Decidable c] (a b : State) : (if c then a else b).clusters = if c then a.clusters else b.clusters := by
  split <;> rfl
theorem State.ite_stks (c : Prop) [Decidable c] (a b : State) : (if c then a else b).stks = if c then a.stks else b.stks := by
  split <;> rfl
theorem State.ite_hub (c : Prop) [Decidable c] (a b : State) : (if c then a else b).hub = if c then a.hub else b.hub := by
  split <;> rfl
theorem State.ite_frame (c : Prop) [Decidable c] (a b : State) : (if c then a else b).frame = if c then a.frame else b.frame := by
  split <;> rfl
theorem State.ite_req (c : Prop) [Decidable c] (a b : State) : (if c then a else b).req = if c then a.req else b.req := by
  split <;> rfl
theorem State.ite_det (c : Prop) [Decidable c] (a b : State) : (if c then a else b).det = if c then a.det else b.det := by
  split <;> rfl
theorem State.ite_safety (c : Prop) [Decidable c] (a b : State) : (if c then a else b).safety = if c then a.safety else b.safety := by
  split <;> rfl
theorem State.ite_boot (c : Prop) [Decidable c] (a b : State) : (if c then a else b).boot = if c then a.boot else b.boot := by
  split <;> rfl
theorem State.ite_errors (c : Prop) [Decidable c] (a b : State) : (if c then a else b).errors = if c then a.errors else b.errors := by
  split <;> rfl
theorem State.ite_fabric (c : Prop) [Decidable c] (a b : State) : (if c then a else b).fabric = if c then a.fabric else b.fabric := by
  split <;> rfl
theorem State.ite_farming (c : Prop) [Decidable c] (a b : State) : (if c then a else b).farming = if c then a.farming else b.farming := by
  split <;> rfl
theorem State.ite_obs (c : Prop) [Decidable c] (a b : State) : (if c then a else b).obs = if c then a.obs else b.obs := by
  split <;> rfl
theorem State.ite_host (c : Prop) [Decidable c] (a b : State) : (if c then a else b).host = if c then a.host else b.host := by
  split <;> rfl
theorem State.ite_hbm (c : Prop) [Decidable c] (a b : State) : (if c then a else b).hbm = if c then a.hbm else b.hbm := by
  split <;> rfl
theorem State.ite_sram (c : Prop) [Decidable c] (a b : State) : (if c then a else b).sram = if c then a.sram else b.sram := by
  split <;> rfl
theorem State.ite_saves (c : Prop) [Decidable c] (a b : State) : (if c then a else b).saves = if c then a.saves else b.saves := by
  split <;> rfl
theorem State.ite_free (c : Prop) [Decidable c] (a b : State) : (if c then a else b).free = if c then a.free else b.free := by
  split <;> rfl
theorem State.ite_pending (c : Prop) [Decidable c] (a b : State) : (if c then a else b).pending = if c then a.pending else b.pending := by
  split <;> rfl

/-! ## Repeated units: each update in terms of the update of its list -/

@[simp] theorem State.modSes_eq (i : Nat) (f : Session → Session) (s : State) :
    s.modSes i f = s.modSessions fun l => l.modify i f := rfl
@[simp] theorem State.modCl_eq (p : Nat) (f : Cluster → Cluster) (s : State) :
    s.modCl p f = s.modClusters fun l => l.modify p f := rfl
@[simp] theorem State.modStk_eq (i : Nat) (f : Stack → Stack) (s : State) :
    s.modStk i f = s.modStks fun l => l.modify i f := rfl
@[simp] theorem State.modWd_eq (w : Nat) (f : World → World) (s : State) :
    s.modWd w f = s.modWorlds fun x => { x with ws := x.ws.modify w f } := rfl
@[simp] theorem State.modFn_eq (fn : Nat) (f : FnState → FnState) (s : State) :
    s.modFn fn f = s.modPcie fun x => { x with fns := x.fns.modify fn f } := rfl
@[simp] theorem State.modStream_eq (id : Nat) (f : Stream → Stream) (s : State) :
    s.modStream id f = s.modStreams fun l => l.map fun x => if x.id = id then f x else x := rfl
@[simp] theorem State.modPort_eq (p : Nat) (f : Port → Port) (s : State) :
    s.modPort p f = s.modFabric fun x => { x with ports := x.ports.modify p f } := rfl

/-- An update of every element of a fold that keeps a view of the state keeps it as a whole. -/
theorem State.foldl_keeps {α β : Type} (v : State → β) (g : State → α → State) (h : ∀ s a, v (g s a) = v s) :
    ∀ (l : List α) (s : State), v (l.foldl g s) = v s
  | [], _ => rfl
  | a :: l, s => (State.foldl_keeps v g h l (g s a)).trans (h s a)

/-- The like for a property that each element's update keeps. -/
theorem State.foldl_inv {α : Type} (P : State → Prop) (g : State → α → State) (h : ∀ s a, P s → P (g s a)) :
    ∀ (l : List α) (s : State), P s → P (l.foldl g s)
  | [], _, hs => hs
  | a :: l, s, hs => State.foldl_inv P g h l (g s a) (h s a hs)


theorem State.foldl_part {α : Type} (g : State → α → State) (h : ∀ s a, (g s a).part = s.part) (l : List α) (s : State) :
    (l.foldl g s).part = s.part := State.foldl_keeps (·.part) g h l s
theorem State.foldl_flash {α : Type} (g : State → α → State) (h : ∀ s a, (g s a).flash = s.flash) (l : List α) (s : State) :
    (l.foldl g s).flash = s.flash := State.foldl_keeps (·.flash) g h l s
theorem State.foldl_aon {α : Type} (g : State → α → State) (h : ∀ s a, (g s a).aon = s.aon) (l : List α) (s : State) :
    (l.foldl g s).aon = s.aon := State.foldl_keeps (·.aon) g h l s
theorem State.foldl_mgmt {α : Type} (g : State → α → State) (h : ∀ s a, (g s a).mgmt = s.mgmt) (l : List α) (s : State) :
    (l.foldl g s).mgmt = s.mgmt := State.foldl_keeps (·.mgmt) g h l s
theorem State.foldl_time {α : Type} (g : State → α → State) (h : ∀ s a, (g s a).time = s.time) (l : List α) (s : State) :
    (l.foldl g s).time = s.time := State.foldl_keeps (·.time) g h l s
theorem State.foldl_pcie {α : Type} (g : State → α → State) (h : ∀ s a, (g s a).pcie = s.pcie) (l : List α) (s : State) :
    (l.foldl g s).pcie = s.pcie := State.foldl_keeps (·.pcie) g h l s
theorem State.foldl_mbx {α : Type} (g : State → α → State) (h : ∀ s a, (g s a).mbx = s.mbx) (l : List α) (s : State) :
    (l.foldl g s).mbx = s.mbx := State.foldl_keeps (·.mbx) g h l s
theorem State.foldl_rings {α : Type} (g : State → α → State) (h : ∀ s a, (g s a).rings = s.rings) (l : List α) (s : State) :
    (l.foldl g s).rings = s.rings := State.foldl_keeps (·.rings) g h l s
theorem State.foldl_sessions {α : Type} (g : State → α → State) (h : ∀ s a, (g s a).sessions = s.sessions) (l : List α) (s : State) :
    (l.foldl g s).sessions = s.sessions := State.foldl_keeps (·.sessions) g h l s
theorem State.foldl_images {α : Type} (g : State → α → State) (h : ∀ s a, (g s a).images = s.images) (l : List α) (s : State) :
    (l.foldl g s).images = s.images := State.foldl_keeps (·.images) g h l s
theorem State.foldl_worlds {α : Type} (g : State → α → State) (h : ∀ s a, (g s a).worlds = s.worlds) (l : List α) (s : State) :
    (l.foldl g s).worlds = s.worlds := State.foldl_keeps (·.worlds) g h l s
theorem State.foldl_streams {α : Type} (g : State → α → State) (h : ∀ s a, (g s a).streams = s.streams) (l : List α) (s : State) :
    (l.foldl g s).streams = s.streams := State.foldl_keeps (·.streams) g h l s
theorem State.foldl_clusters {α : Type} (g : State → α → State) (h : ∀ s a, (g s a).clusters = s.clusters) (l : List α) (s : State) :
    (l.foldl g s).clusters = s.clusters := State.foldl_keeps (·.clusters) g h l s
theorem State.foldl_stks {α : Type} (g : State → α → State) (h : ∀ s a, (g s a).stks = s.stks) (l : List α) (s : State) :
    (l.foldl g s).stks = s.stks := State.foldl_keeps (·.stks) g h l s
theorem State.foldl_hub {α : Type} (g : State → α → State) (h : ∀ s a, (g s a).hub = s.hub) (l : List α) (s : State) :
    (l.foldl g s).hub = s.hub := State.foldl_keeps (·.hub) g h l s
theorem State.foldl_frame {α : Type} (g : State → α → State) (h : ∀ s a, (g s a).frame = s.frame) (l : List α) (s : State) :
    (l.foldl g s).frame = s.frame := State.foldl_keeps (·.frame) g h l s
theorem State.foldl_req {α : Type} (g : State → α → State) (h : ∀ s a, (g s a).req = s.req) (l : List α) (s : State) :
    (l.foldl g s).req = s.req := State.foldl_keeps (·.req) g h l s
theorem State.foldl_det {α : Type} (g : State → α → State) (h : ∀ s a, (g s a).det = s.det) (l : List α) (s : State) :
    (l.foldl g s).det = s.det := State.foldl_keeps (·.det) g h l s
theorem State.foldl_safety {α : Type} (g : State → α → State) (h : ∀ s a, (g s a).safety = s.safety) (l : List α) (s : State) :
    (l.foldl g s).safety = s.safety := State.foldl_keeps (·.safety) g h l s
theorem State.foldl_boot {α : Type} (g : State → α → State) (h : ∀ s a, (g s a).boot = s.boot) (l : List α) (s : State) :
    (l.foldl g s).boot = s.boot := State.foldl_keeps (·.boot) g h l s
theorem State.foldl_errors {α : Type} (g : State → α → State) (h : ∀ s a, (g s a).errors = s.errors) (l : List α) (s : State) :
    (l.foldl g s).errors = s.errors := State.foldl_keeps (·.errors) g h l s
theorem State.foldl_fabric {α : Type} (g : State → α → State) (h : ∀ s a, (g s a).fabric = s.fabric) (l : List α) (s : State) :
    (l.foldl g s).fabric = s.fabric := State.foldl_keeps (·.fabric) g h l s
theorem State.foldl_farming {α : Type} (g : State → α → State) (h : ∀ s a, (g s a).farming = s.farming) (l : List α) (s : State) :
    (l.foldl g s).farming = s.farming := State.foldl_keeps (·.farming) g h l s
theorem State.foldl_obs {α : Type} (g : State → α → State) (h : ∀ s a, (g s a).obs = s.obs) (l : List α) (s : State) :
    (l.foldl g s).obs = s.obs := State.foldl_keeps (·.obs) g h l s
theorem State.foldl_host {α : Type} (g : State → α → State) (h : ∀ s a, (g s a).host = s.host) (l : List α) (s : State) :
    (l.foldl g s).host = s.host := State.foldl_keeps (·.host) g h l s
theorem State.foldl_hbm {α : Type} (g : State → α → State) (h : ∀ s a, (g s a).hbm = s.hbm) (l : List α) (s : State) :
    (l.foldl g s).hbm = s.hbm := State.foldl_keeps (·.hbm) g h l s
theorem State.foldl_sram {α : Type} (g : State → α → State) (h : ∀ s a, (g s a).sram = s.sram) (l : List α) (s : State) :
    (l.foldl g s).sram = s.sram := State.foldl_keeps (·.sram) g h l s
theorem State.foldl_saves {α : Type} (g : State → α → State) (h : ∀ s a, (g s a).saves = s.saves) (l : List α) (s : State) :
    (l.foldl g s).saves = s.saves := State.foldl_keeps (·.saves) g h l s
theorem State.foldl_free {α : Type} (g : State → α → State) (h : ∀ s a, (g s a).free = s.free) (l : List α) (s : State) :
    (l.foldl g s).free = s.free := State.foldl_keeps (·.free) g h l s
theorem State.foldl_pending {α : Type} (g : State → α → State) (h : ∀ s a, (g s a).pending = s.pending) (l : List α) (s : State) :
    (l.foldl g s).pending = s.pending := State.foldl_keeps (·.pending) g h l s

/-- Two states with equal parts are equal. -/
theorem State.ext_parts {s s' : State} (h0 : s.part = s'.part) (h1 : s.flash = s'.flash) (h2 : s.aon = s'.aon) (h3 : s.mgmt = s'.mgmt) (h4 : s.time =
    s'.time) (h5 : s.pcie = s'.pcie) (h6 : s.mbx = s'.mbx) (h7 : s.rings = s'.rings) (h8 : s.sessions = s'.sessions)
    (h9 : s.images = s'.images) (h10 : s.worlds = s'.worlds) (h11 : s.streams = s'.streams) (h12 : s.clusters =
    s'.clusters) (h13 : s.stks = s'.stks) (h14 : s.hub = s'.hub) (h15 : s.frame = s'.frame) (h16 : s.req = s'.req)
    (h17 : s.det = s'.det) (h18 : s.safety = s'.safety) (h19 : s.boot = s'.boot) (h20 : s.errors = s'.errors) (h21 :
    s.fabric = s'.fabric) (h22 : s.farming = s'.farming) (h23 : s.obs = s'.obs) (h24 : s.host = s'.host) (h25 :
    s.hbm = s'.hbm) (h26 : s.free = s'.free) (h27 : s.pending = s'.pending) (h28 : s.sram = s'.sram) (h29 :
    s.saves = s'.saves) : s = s' := by
  cases s; cases s'; simp_all

end Sys2Proof.Machine
end

