-- ==== Sys2Proof/Laws/Ops.lean ====
section
/-!
SUPPORT. Sys2Proof/Laws/Ops.lean: what each shared operation leaves unchanged, part by part.
-/
namespace Sys2Proof.Machine

section
variable (s : State) (t : Nat)
@[simp] theorem State.at_part : (s.at t).part = s.part := rfl
@[simp] theorem State.at_flash : (s.at t).flash = s.flash := rfl
@[simp] theorem State.at_aon : (s.at t).aon = s.aon := rfl
@[simp] theorem State.at_mgmt : (s.at t).mgmt = s.mgmt := rfl
@[simp] theorem State.at_pcie : (s.at t).pcie = s.pcie := rfl
@[simp] theorem State.at_mbx : (s.at t).mbx = s.mbx := rfl
@[simp] theorem State.at_rings : (s.at t).rings = s.rings := rfl
@[simp] theorem State.at_sessions : (s.at t).sessions = s.sessions := rfl
@[simp] theorem State.at_images : (s.at t).images = s.images := rfl
@[simp] theorem State.at_worlds : (s.at t).worlds = s.worlds := rfl
@[simp] theorem State.at_streams : (s.at t).streams = s.streams := rfl
@[simp] theorem State.at_clusters : (s.at t).clusters = s.clusters := rfl
@[simp] theorem State.at_stks : (s.at t).stks = s.stks := rfl
@[simp] theorem State.at_hub : (s.at t).hub = s.hub := rfl
@[simp] theorem State.at_frame : (s.at t).frame = s.frame := rfl
@[simp] theorem State.at_req : (s.at t).req = s.req := rfl
@[simp] theorem State.at_det : (s.at t).det = s.det := rfl
@[simp] theorem State.at_safety : (s.at t).safety = s.safety := rfl
@[simp] theorem State.at_boot : (s.at t).boot = s.boot := rfl
@[simp] theorem State.at_errors : (s.at t).errors = s.errors := rfl
@[simp] theorem State.at_fabric : (s.at t).fabric = s.fabric := rfl
@[simp] theorem State.at_farming : (s.at t).farming = s.farming := rfl
@[simp] theorem State.at_obs : (s.at t).obs = s.obs := rfl
@[simp] theorem State.at_host : (s.at t).host = s.host := rfl
@[simp] theorem State.at_hbm : (s.at t).hbm = s.hbm := rfl
@[simp] theorem State.at_sram : (s.at t).sram = s.sram := rfl
@[simp] theorem State.at_saves : (s.at t).saves = s.saves := rfl
@[simp] theorem State.at_free : (s.at t).free = s.free := rfl
@[simp] theorem State.at_pending : (s.at t).pending = s.pending := rfl
end

section
variable (s : State) (t : Nat)
@[simp] theorem State.atSsv_part : (s.atSsv t).part = s.part := rfl
@[simp] theorem State.atSsv_flash : (s.atSsv t).flash = s.flash := rfl
@[simp] theorem State.atSsv_aon : (s.atSsv t).aon = s.aon := rfl
@[simp] theorem State.atSsv_mgmt : (s.atSsv t).mgmt = s.mgmt := rfl
@[simp] theorem State.atSsv_time : (s.atSsv t).time = s.time := rfl
@[simp] theorem State.atSsv_pcie : (s.atSsv t).pcie = s.pcie := rfl
@[simp] theorem State.atSsv_mbx : (s.atSsv t).mbx = s.mbx := rfl
@[simp] theorem State.atSsv_rings : (s.atSsv t).rings = s.rings := rfl
@[simp] theorem State.atSsv_sessions : (s.atSsv t).sessions = s.sessions := rfl
@[simp] theorem State.atSsv_images : (s.atSsv t).images = s.images := rfl
@[simp] theorem State.atSsv_worlds : (s.atSsv t).worlds = s.worlds := rfl
@[simp] theorem State.atSsv_streams : (s.atSsv t).streams = s.streams := rfl
@[simp] theorem State.atSsv_clusters : (s.atSsv t).clusters = s.clusters := rfl
@[simp] theorem State.atSsv_stks : (s.atSsv t).stks = s.stks := rfl
@[simp] theorem State.atSsv_hub : (s.atSsv t).hub = s.hub := rfl
@[simp] theorem State.atSsv_frame : (s.atSsv t).frame = s.frame := rfl
@[simp] theorem State.atSsv_req : (s.atSsv t).req = s.req := rfl
@[simp] theorem State.atSsv_det : (s.atSsv t).det = s.det := rfl
@[simp] theorem State.atSsv_boot : (s.atSsv t).boot = s.boot := rfl
@[simp] theorem State.atSsv_errors : (s.atSsv t).errors = s.errors := rfl
@[simp] theorem State.atSsv_fabric : (s.atSsv t).fabric = s.fabric := rfl
@[simp] theorem State.atSsv_farming : (s.atSsv t).farming = s.farming := rfl
@[simp] theorem State.atSsv_obs : (s.atSsv t).obs = s.obs := rfl
@[simp] theorem State.atSsv_host : (s.atSsv t).host = s.host := rfl
@[simp] theorem State.atSsv_hbm : (s.atSsv t).hbm = s.hbm := rfl
@[simp] theorem State.atSsv_sram : (s.atSsv t).sram = s.sram := rfl
@[simp] theorem State.atSsv_saves : (s.atSsv t).saves = s.saves := rfl
@[simp] theorem State.atSsv_free : (s.atSsv t).free = s.free := rfl
@[simp] theorem State.atSsv_pending : (s.atSsv t).pending = s.pending := rfl
end

section
variable (s : State)
@[simp] theorem State.fresh_part : (s.fresh.2).part = s.part := rfl
@[simp] theorem State.fresh_flash : (s.fresh.2).flash = s.flash := rfl
@[simp] theorem State.fresh_aon : (s.fresh.2).aon = s.aon := rfl
@[simp] theorem State.fresh_mgmt : (s.fresh.2).mgmt = s.mgmt := rfl
@[simp] theorem State.fresh_time : (s.fresh.2).time = s.time := rfl
@[simp] theorem State.fresh_pcie : (s.fresh.2).pcie = s.pcie := rfl
@[simp] theorem State.fresh_mbx : (s.fresh.2).mbx = s.mbx := rfl
@[simp] theorem State.fresh_rings : (s.fresh.2).rings = s.rings := rfl
@[simp] theorem State.fresh_sessions : (s.fresh.2).sessions = s.sessions := rfl
@[simp] theorem State.fresh_images : (s.fresh.2).images = s.images := rfl
@[simp] theorem State.fresh_worlds : (s.fresh.2).worlds = s.worlds := rfl
@[simp] theorem State.fresh_streams : (s.fresh.2).streams = s.streams := rfl
@[simp] theorem State.fresh_clusters : (s.fresh.2).clusters = s.clusters := rfl
@[simp] theorem State.fresh_stks : (s.fresh.2).stks = s.stks := rfl
@[simp] theorem State.fresh_hub : (s.fresh.2).hub = s.hub := rfl
@[simp] theorem State.fresh_frame : (s.fresh.2).frame = s.frame := rfl
@[simp] theorem State.fresh_req : (s.fresh.2).req = s.req := rfl
@[simp] theorem State.fresh_det : (s.fresh.2).det = s.det := rfl
@[simp] theorem State.fresh_safety : (s.fresh.2).safety = s.safety := rfl
@[simp] theorem State.fresh_boot : (s.fresh.2).boot = s.boot := rfl
@[simp] theorem State.fresh_errors : (s.fresh.2).errors = s.errors := rfl
@[simp] theorem State.fresh_fabric : (s.fresh.2).fabric = s.fabric := rfl
@[simp] theorem State.fresh_farming : (s.fresh.2).farming = s.farming := rfl
@[simp] theorem State.fresh_obs : (s.fresh.2).obs = s.obs := rfl
@[simp] theorem State.fresh_host : (s.fresh.2).host = s.host := rfl
@[simp] theorem State.fresh_hbm : (s.fresh.2).hbm = s.hbm := rfl
@[simp] theorem State.fresh_sram : (s.fresh.2).sram = s.sram := rfl
@[simp] theorem State.fresh_saves : (s.fresh.2).saves = s.saves := rfl
@[simp] theorem State.fresh_pending : (s.fresh.2).pending = s.pending := rfl
end

section
variable (i k : Nat) (s : State)
@[simp] theorem State.bumpHub_part : (s.bumpHub i k).part = s.part := rfl
@[simp] theorem State.bumpHub_flash : (s.bumpHub i k).flash = s.flash := rfl
@[simp] theorem State.bumpHub_aon : (s.bumpHub i k).aon = s.aon := rfl
@[simp] theorem State.bumpHub_mgmt : (s.bumpHub i k).mgmt = s.mgmt := rfl
@[simp] theorem State.bumpHub_time : (s.bumpHub i k).time = s.time := rfl
@[simp] theorem State.bumpHub_pcie : (s.bumpHub i k).pcie = s.pcie := rfl
@[simp] theorem State.bumpHub_mbx : (s.bumpHub i k).mbx = s.mbx := rfl
@[simp] theorem State.bumpHub_rings : (s.bumpHub i k).rings = s.rings := rfl
@[simp] theorem State.bumpHub_sessions : (s.bumpHub i k).sessions = s.sessions := rfl
@[simp] theorem State.bumpHub_images : (s.bumpHub i k).images = s.images := rfl
@[simp] theorem State.bumpHub_worlds : (s.bumpHub i k).worlds = s.worlds := rfl
@[simp] theorem State.bumpHub_streams : (s.bumpHub i k).streams = s.streams := rfl
@[simp] theorem State.bumpHub_clusters : (s.bumpHub i k).clusters = s.clusters := rfl
@[simp] theorem State.bumpHub_stks : (s.bumpHub i k).stks = s.stks := rfl
@[simp] theorem State.bumpHub_frame : (s.bumpHub i k).frame = s.frame := rfl
@[simp] theorem State.bumpHub_req : (s.bumpHub i k).req = s.req := rfl
@[simp] theorem State.bumpHub_det : (s.bumpHub i k).det = s.det := rfl
@[simp] theorem State.bumpHub_safety : (s.bumpHub i k).safety = s.safety := rfl
@[simp] theorem State.bumpHub_boot : (s.bumpHub i k).boot = s.boot := rfl
@[simp] theorem State.bumpHub_errors : (s.bumpHub i k).errors = s.errors := rfl
@[simp] theorem State.bumpHub_fabric : (s.bumpHub i k).fabric = s.fabric := rfl
@[simp] theorem State.bumpHub_farming : (s.bumpHub i k).farming = s.farming := rfl
@[simp] theorem State.bumpHub_obs : (s.bumpHub i k).obs = s.obs := rfl
@[simp] theorem State.bumpHub_host : (s.bumpHub i k).host = s.host := rfl
@[simp] theorem State.bumpHub_hbm : (s.bumpHub i k).hbm = s.hbm := rfl
@[simp] theorem State.bumpHub_sram : (s.bumpHub i k).sram = s.sram := rfl
@[simp] theorem State.bumpHub_saves : (s.bumpHub i k).saves = s.saves := rfl
@[simp] theorem State.bumpHub_free : (s.bumpHub i k).free = s.free := rfl
@[simp] theorem State.bumpHub_pending : (s.bumpHub i k).pending = s.pending := rfl
end

section
variable (p i k : Nat) (s : State)
@[simp] theorem State.bumpCl_part : (s.bumpCl p i k).part = s.part := rfl
@[simp] theorem State.bumpCl_flash : (s.bumpCl p i k).flash = s.flash := rfl
@[simp] theorem State.bumpCl_aon : (s.bumpCl p i k).aon = s.aon := rfl
@[simp] theorem State.bumpCl_mgmt : (s.bumpCl p i k).mgmt = s.mgmt := rfl
@[simp] theorem State.bumpCl_time : (s.bumpCl p i k).time = s.time := rfl
@[simp] theorem State.bumpCl_pcie : (s.bumpCl p i k).pcie = s.pcie := rfl
@[simp] theorem State.bumpCl_mbx : (s.bumpCl p i k).mbx = s.mbx := rfl
@[simp] theorem State.bumpCl_rings : (s.bumpCl p i k).rings = s.rings := rfl
@[simp] theorem State.bumpCl_sessions : (s.bumpCl p i k).sessions = s.sessions := rfl
@[simp] theorem State.bumpCl_images : (s.bumpCl p i k).images = s.images := rfl
@[simp] theorem State.bumpCl_worlds : (s.bumpCl p i k).worlds = s.worlds := rfl
@[simp] theorem State.bumpCl_streams : (s.bumpCl p i k).streams = s.streams := rfl
@[simp] theorem State.bumpCl_stks : (s.bumpCl p i k).stks = s.stks := rfl
@[simp] theorem State.bumpCl_hub : (s.bumpCl p i k).hub = s.hub := rfl
@[simp] theorem State.bumpCl_frame : (s.bumpCl p i k).frame = s.frame := rfl
@[simp] theorem State.bumpCl_req : (s.bumpCl p i k).req = s.req := rfl
@[simp] theorem State.bumpCl_det : (s.bumpCl p i k).det = s.det := rfl
@[simp] theorem State.bumpCl_safety : (s.bumpCl p i k).safety = s.safety := rfl
@[simp] theorem State.bumpCl_boot : (s.bumpCl p i k).boot = s.boot := rfl
@[simp] theorem State.bumpCl_errors : (s.bumpCl p i k).errors = s.errors := rfl
@[simp] theorem State.bumpCl_fabric : (s.bumpCl p i k).fabric = s.fabric := rfl
@[simp] theorem State.bumpCl_farming : (s.bumpCl p i k).farming = s.farming := rfl
@[simp] theorem State.bumpCl_obs : (s.bumpCl p i k).obs = s.obs := rfl
@[simp] theorem State.bumpCl_host : (s.bumpCl p i k).host = s.host := rfl
@[simp] theorem State.bumpCl_hbm : (s.bumpCl p i k).hbm = s.hbm := rfl
@[simp] theorem State.bumpCl_sram : (s.bumpCl p i k).sram = s.sram := rfl
@[simp] theorem State.bumpCl_saves : (s.bumpCl p i k).saves = s.saves := rfl
@[simp] theorem State.bumpCl_free : (s.bumpCl p i k).free = s.free := rfl
@[simp] theorem State.bumpCl_pending : (s.bumpCl p i k).pending = s.pending := rfl
end

section
variable (p i k : Nat) (s : State)
@[simp] theorem State.bumpStk_part : (s.bumpStk p i k).part = s.part := rfl
@[simp] theorem State.bumpStk_flash : (s.bumpStk p i k).flash = s.flash := rfl
@[simp] theorem State.bumpStk_aon : (s.bumpStk p i k).aon = s.aon := rfl
@[simp] theorem State.bumpStk_mgmt : (s.bumpStk p i k).mgmt = s.mgmt := rfl
@[simp] theorem State.bumpStk_time : (s.bumpStk p i k).time = s.time := rfl
@[simp] theorem State.bumpStk_pcie : (s.bumpStk p i k).pcie = s.pcie := rfl
@[simp] theorem State.bumpStk_mbx : (s.bumpStk p i k).mbx = s.mbx := rfl
@[simp] theorem State.bumpStk_rings : (s.bumpStk p i k).rings = s.rings := rfl
@[simp] theorem State.bumpStk_sessions : (s.bumpStk p i k).sessions = s.sessions := rfl
@[simp] theorem State.bumpStk_images : (s.bumpStk p i k).images = s.images := rfl
@[simp] theorem State.bumpStk_worlds : (s.bumpStk p i k).worlds = s.worlds := rfl
@[simp] theorem State.bumpStk_streams : (s.bumpStk p i k).streams = s.streams := rfl
@[simp] theorem State.bumpStk_clusters : (s.bumpStk p i k).clusters = s.clusters := rfl
@[simp] theorem State.bumpStk_hub : (s.bumpStk p i k).hub = s.hub := rfl
@[simp] theorem State.bumpStk_frame : (s.bumpStk p i k).frame = s.frame := rfl
@[simp] theorem State.bumpStk_req : (s.bumpStk p i k).req = s.req := rfl
@[simp] theorem State.bumpStk_det : (s.bumpStk p i k).det = s.det := rfl
@[simp] theorem State.bumpStk_safety : (s.bumpStk p i k).safety = s.safety := rfl
@[simp] theorem State.bumpStk_boot : (s.bumpStk p i k).boot = s.boot := rfl
@[simp] theorem State.bumpStk_errors : (s.bumpStk p i k).errors = s.errors := rfl
@[simp] theorem State.bumpStk_fabric : (s.bumpStk p i k).fabric = s.fabric := rfl
@[simp] theorem State.bumpStk_farming : (s.bumpStk p i k).farming = s.farming := rfl
@[simp] theorem State.bumpStk_obs : (s.bumpStk p i k).obs = s.obs := rfl
@[simp] theorem State.bumpStk_host : (s.bumpStk p i k).host = s.host := rfl
@[simp] theorem State.bumpStk_hbm : (s.bumpStk p i k).hbm = s.hbm := rfl
@[simp] theorem State.bumpStk_sram : (s.bumpStk p i k).sram = s.sram := rfl
@[simp] theorem State.bumpStk_saves : (s.bumpStk p i k).saves = s.saves := rfl
@[simp] theorem State.bumpStk_free : (s.bumpStk p i k).free = s.free := rfl
@[simp] theorem State.bumpStk_pending : (s.bumpStk p i k).pending = s.pending := rfl
end

section
variable (p i k : Nat) (s : State)
@[simp] theorem State.bumpSes_part : (s.bumpSes p i k).part = s.part := rfl
@[simp] theorem State.bumpSes_flash : (s.bumpSes p i k).flash = s.flash := rfl
@[simp] theorem State.bumpSes_aon : (s.bumpSes p i k).aon = s.aon := rfl
@[simp] theorem State.bumpSes_mgmt : (s.bumpSes p i k).mgmt = s.mgmt := rfl
@[simp] theorem State.bumpSes_time : (s.bumpSes p i k).time = s.time := rfl
@[simp] theorem State.bumpSes_pcie : (s.bumpSes p i k).pcie = s.pcie := rfl
@[simp] theorem State.bumpSes_mbx : (s.bumpSes p i k).mbx = s.mbx := rfl
@[simp] theorem State.bumpSes_rings : (s.bumpSes p i k).rings = s.rings := rfl
@[simp] theorem State.bumpSes_images : (s.bumpSes p i k).images = s.images := rfl
@[simp] theorem State.bumpSes_worlds : (s.bumpSes p i k).worlds = s.worlds := rfl
@[simp] theorem State.bumpSes_streams : (s.bumpSes p i k).streams = s.streams := rfl
@[simp] theorem State.bumpSes_clusters : (s.bumpSes p i k).clusters = s.clusters := rfl
@[simp] theorem State.bumpSes_stks : (s.bumpSes p i k).stks = s.stks := rfl
@[simp] theorem State.bumpSes_hub : (s.bumpSes p i k).hub = s.hub := rfl
@[simp] theorem State.bumpSes_frame : (s.bumpSes p i k).frame = s.frame := rfl
@[simp] theorem State.bumpSes_req : (s.bumpSes p i k).req = s.req := rfl
@[simp] theorem State.bumpSes_det : (s.bumpSes p i k).det = s.det := rfl
@[simp] theorem State.bumpSes_safety : (s.bumpSes p i k).safety = s.safety := rfl
@[simp] theorem State.bumpSes_boot : (s.bumpSes p i k).boot = s.boot := rfl
@[simp] theorem State.bumpSes_errors : (s.bumpSes p i k).errors = s.errors := rfl
@[simp] theorem State.bumpSes_fabric : (s.bumpSes p i k).fabric = s.fabric := rfl
@[simp] theorem State.bumpSes_farming : (s.bumpSes p i k).farming = s.farming := rfl
@[simp] theorem State.bumpSes_obs : (s.bumpSes p i k).obs = s.obs := rfl
@[simp] theorem State.bumpSes_host : (s.bumpSes p i k).host = s.host := rfl
@[simp] theorem State.bumpSes_hbm : (s.bumpSes p i k).hbm = s.hbm := rfl
@[simp] theorem State.bumpSes_sram : (s.bumpSes p i k).sram = s.sram := rfl
@[simp] theorem State.bumpSes_saves : (s.bumpSes p i k).saves = s.saves := rfl
@[simp] theorem State.bumpSes_free : (s.bumpSes p i k).free = s.free := rfl
@[simp] theorem State.bumpSes_pending : (s.bumpSes p i k).pending = s.pending := rfl
end

section
variable (fn : Nat) (s : State)
@[simp] theorem State.discard_part : (s.discard fn).part = s.part := rfl
@[simp] theorem State.discard_flash : (s.discard fn).flash = s.flash := rfl
@[simp] theorem State.discard_aon : (s.discard fn).aon = s.aon := rfl
@[simp] theorem State.discard_mgmt : (s.discard fn).mgmt = s.mgmt := rfl
@[simp] theorem State.discard_time : (s.discard fn).time = s.time := rfl
@[simp] theorem State.discard_mbx : (s.discard fn).mbx = s.mbx := rfl
@[simp] theorem State.discard_rings : (s.discard fn).rings = s.rings := rfl
@[simp] theorem State.discard_sessions : (s.discard fn).sessions = s.sessions := rfl
@[simp] theorem State.discard_images : (s.discard fn).images = s.images := rfl
@[simp] theorem State.discard_worlds : (s.discard fn).worlds = s.worlds := rfl
@[simp] theorem State.discard_streams : (s.discard fn).streams = s.streams := rfl
@[simp] theorem State.discard_clusters : (s.discard fn).clusters = s.clusters := rfl
@[simp] theorem State.discard_stks : (s.discard fn).stks = s.stks := rfl
@[simp] theorem State.discard_hub : (s.discard fn).hub = s.hub := rfl
@[simp] theorem State.discard_frame : (s.discard fn).frame = s.frame := rfl
@[simp] theorem State.discard_req : (s.discard fn).req = s.req := rfl
@[simp] theorem State.discard_det : (s.discard fn).det = s.det := rfl
@[simp] theorem State.discard_safety : (s.discard fn).safety = s.safety := rfl
@[simp] theorem State.discard_boot : (s.discard fn).boot = s.boot := rfl
@[simp] theorem State.discard_errors : (s.discard fn).errors = s.errors := rfl
@[simp] theorem State.discard_fabric : (s.discard fn).fabric = s.fabric := rfl
@[simp] theorem State.discard_farming : (s.discard fn).farming = s.farming := rfl
@[simp] theorem State.discard_obs : (s.discard fn).obs = s.obs := rfl
@[simp] theorem State.discard_host : (s.discard fn).host = s.host := rfl
@[simp] theorem State.discard_hbm : (s.discard fn).hbm = s.hbm := rfl
@[simp] theorem State.discard_sram : (s.discard fn).sram = s.sram := rfl
@[simp] theorem State.discard_saves : (s.discard fn).saves = s.saves := rfl
@[simp] theorem State.discard_free : (s.discard fn).free = s.free := rfl
@[simp] theorem State.discard_pending : (s.discard fn).pending = s.pending := rfl
end

section
variable (k : Nat) (f : Ring → Ring) (s : State)
@[simp] theorem State.modRing_part : (s.modRing k f).part = s.part := rfl
@[simp] theorem State.modRing_flash : (s.modRing k f).flash = s.flash := rfl
@[simp] theorem State.modRing_aon : (s.modRing k f).aon = s.aon := rfl
@[simp] theorem State.modRing_mgmt : (s.modRing k f).mgmt = s.mgmt := rfl
@[simp] theorem State.modRing_time : (s.modRing k f).time = s.time := rfl
@[simp] theorem State.modRing_pcie : (s.modRing k f).pcie = s.pcie := rfl
@[simp] theorem State.modRing_mbx : (s.modRing k f).mbx = s.mbx := rfl
@[simp] theorem State.modRing_sessions : (s.modRing k f).sessions = s.sessions := rfl
@[simp] theorem State.modRing_images : (s.modRing k f).images = s.images := rfl
@[simp] theorem State.modRing_worlds : (s.modRing k f).worlds = s.worlds := rfl
@[simp] theorem State.modRing_streams : (s.modRing k f).streams = s.streams := rfl
@[simp] theorem State.modRing_clusters : (s.modRing k f).clusters = s.clusters := rfl
@[simp] theorem State.modRing_stks : (s.modRing k f).stks = s.stks := rfl
@[simp] theorem State.modRing_hub : (s.modRing k f).hub = s.hub := rfl
@[simp] theorem State.modRing_frame : (s.modRing k f).frame = s.frame := rfl
@[simp] theorem State.modRing_req : (s.modRing k f).req = s.req := rfl
@[simp] theorem State.modRing_det : (s.modRing k f).det = s.det := rfl
@[simp] theorem State.modRing_safety : (s.modRing k f).safety = s.safety := rfl
@[simp] theorem State.modRing_boot : (s.modRing k f).boot = s.boot := rfl
@[simp] theorem State.modRing_errors : (s.modRing k f).errors = s.errors := rfl
@[simp] theorem State.modRing_fabric : (s.modRing k f).fabric = s.fabric := rfl
@[simp] theorem State.modRing_farming : (s.modRing k f).farming = s.farming := rfl
@[simp] theorem State.modRing_obs : (s.modRing k f).obs = s.obs := rfl
@[simp] theorem State.modRing_host : (s.modRing k f).host = s.host := rfl
@[simp] theorem State.modRing_hbm : (s.modRing k f).hbm = s.hbm := rfl
@[simp] theorem State.modRing_sram : (s.modRing k f).sram = s.sram := rfl
@[simp] theorem State.modRing_saves : (s.modRing k f).saves = s.saves := rfl
@[simp] theorem State.modRing_free : (s.modRing k f).free = s.free := rfl
@[simp] theorem State.modRing_pending : (s.modRing k f).pending = s.pending := rfl
end

section
variable (a b c k : Nat) (s : State)
@[simp] theorem State.addSel_part : (s.addSel a b c k).part = s.part := by unfold State.addSel; simp [State.ite_part]
@[simp] theorem State.addSel_flash : (s.addSel a b c k).flash = s.flash := by unfold State.addSel; simp [State.ite_flash]
@[simp] theorem State.addSel_aon : (s.addSel a b c k).aon = s.aon := by unfold State.addSel; simp [State.ite_aon]
@[simp] theorem State.addSel_mgmt : (s.addSel a b c k).mgmt = s.mgmt := by unfold State.addSel; simp [State.ite_mgmt]
@[simp] theorem State.addSel_time : (s.addSel a b c k).time = s.time := by unfold State.addSel; simp [State.ite_time]
@[simp] theorem State.addSel_pcie : (s.addSel a b c k).pcie = s.pcie := by unfold State.addSel; simp [State.ite_pcie]
@[simp] theorem State.addSel_mbx : (s.addSel a b c k).mbx = s.mbx := by unfold State.addSel; simp [State.ite_mbx]
@[simp] theorem State.addSel_rings : (s.addSel a b c k).rings = s.rings := by unfold State.addSel; simp [State.ite_rings]
@[simp] theorem State.addSel_sessions : (s.addSel a b c k).sessions = s.sessions := by unfold State.addSel; simp [State.ite_sessions]
@[simp] theorem State.addSel_images : (s.addSel a b c k).images = s.images := by unfold State.addSel; simp [State.ite_images]
@[simp] theorem State.addSel_worlds : (s.addSel a b c k).worlds = s.worlds := by unfold State.addSel; simp [State.ite_worlds]
@[simp] theorem State.addSel_streams : (s.addSel a b c k).streams = s.streams := by unfold State.addSel; simp [State.ite_streams]
@[simp] theorem State.addSel_frame : (s.addSel a b c k).frame = s.frame := by unfold State.addSel; simp [State.ite_frame]
@[simp] theorem State.addSel_req : (s.addSel a b c k).req = s.req := by unfold State.addSel; simp [State.ite_req]
@[simp] theorem State.addSel_det : (s.addSel a b c k).det = s.det := by unfold State.addSel; simp [State.ite_det]
@[simp] theorem State.addSel_safety : (s.addSel a b c k).safety = s.safety := by unfold State.addSel; simp [State.ite_safety]
@[simp] theorem State.addSel_boot : (s.addSel a b c k).boot = s.boot := by unfold State.addSel; simp [State.ite_boot]
@[simp] theorem State.addSel_errors : (s.addSel a b c k).errors = s.errors := by unfold State.addSel; simp [State.ite_errors]
@[simp] theorem State.addSel_fabric : (s.addSel a b c k).fabric = s.fabric := by unfold State.addSel; simp [State.ite_fabric]
@[simp] theorem State.addSel_farming : (s.addSel a b c k).farming = s.farming := by unfold State.addSel; simp [State.ite_farming]
@[simp] theorem State.addSel_obs : (s.addSel a b c k).obs = s.obs := by unfold State.addSel; simp [State.ite_obs]
@[simp] theorem State.addSel_host : (s.addSel a b c k).host = s.host := by unfold State.addSel; simp [State.ite_host]
@[simp] theorem State.addSel_hbm : (s.addSel a b c k).hbm = s.hbm := by unfold State.addSel; simp [State.ite_hbm]
@[simp] theorem State.addSel_sram : (s.addSel a b c k).sram = s.sram := by unfold State.addSel; simp [State.ite_sram]
@[simp] theorem State.addSel_saves : (s.addSel a b c k).saves = s.saves := by unfold State.addSel; simp [State.ite_saves]
@[simp] theorem State.addSel_free : (s.addSel a b c k).free = s.free := by unfold State.addSel; simp [State.ite_free]
@[simp] theorem State.addSel_pending : (s.addSel a b c k).pending = s.pending := by unfold State.addSel; simp [State.ite_pending]
end

section
variable (a b c d e f k : Nat) (s : State)
@[simp] theorem State.selEvent_part : (s.selEvent a b c d e f k).part = s.part := by
  unfold State.selEvent; exact State.foldl_keeps (·.part) _ (fun s a => by simp [State.ite_part]) _ _
@[simp] theorem State.selEvent_flash : (s.selEvent a b c d e f k).flash = s.flash := by
  unfold State.selEvent; exact State.foldl_keeps (·.flash) _ (fun s a => by simp [State.ite_flash]) _ _
@[simp] theorem State.selEvent_aon : (s.selEvent a b c d e f k).aon = s.aon := by
  unfold State.selEvent; exact State.foldl_keeps (·.aon) _ (fun s a => by simp [State.ite_aon]) _ _
@[simp] theorem State.selEvent_mgmt : (s.selEvent a b c d e f k).mgmt = s.mgmt := by
  unfold State.selEvent; exact State.foldl_keeps (·.mgmt) _ (fun s a => by simp [State.ite_mgmt]) _ _
@[simp] theorem State.selEvent_time : (s.selEvent a b c d e f k).time = s.time := by
  unfold State.selEvent; exact State.foldl_keeps (·.time) _ (fun s a => by simp [State.ite_time]) _ _
@[simp] theorem State.selEvent_pcie : (s.selEvent a b c d e f k).pcie = s.pcie := by
  unfold State.selEvent; exact State.foldl_keeps (·.pcie) _ (fun s a => by simp [State.ite_pcie]) _ _
@[simp] theorem State.selEvent_mbx : (s.selEvent a b c d e f k).mbx = s.mbx := by
  unfold State.selEvent; exact State.foldl_keeps (·.mbx) _ (fun s a => by simp [State.ite_mbx]) _ _
@[simp] theorem State.selEvent_rings : (s.selEvent a b c d e f k).rings = s.rings := by
  unfold State.selEvent; exact State.foldl_keeps (·.rings) _ (fun s a => by simp [State.ite_rings]) _ _
@[simp] theorem State.selEvent_sessions : (s.selEvent a b c d e f k).sessions = s.sessions := by
  unfold State.selEvent; exact State.foldl_keeps (·.sessions) _ (fun s a => by simp [State.ite_sessions]) _ _
@[simp] theorem State.selEvent_images : (s.selEvent a b c d e f k).images = s.images := by
  unfold State.selEvent; exact State.foldl_keeps (·.images) _ (fun s a => by simp [State.ite_images]) _ _
@[simp] theorem State.selEvent_worlds : (s.selEvent a b c d e f k).worlds = s.worlds := by
  unfold State.selEvent; exact State.foldl_keeps (·.worlds) _ (fun s a => by simp [State.ite_worlds]) _ _
@[simp] theorem State.selEvent_streams : (s.selEvent a b c d e f k).streams = s.streams := by
  unfold State.selEvent; exact State.foldl_keeps (·.streams) _ (fun s a => by simp [State.ite_streams]) _ _
@[simp] theorem State.selEvent_frame : (s.selEvent a b c d e f k).frame = s.frame := by
  unfold State.selEvent; exact State.foldl_keeps (·.frame) _ (fun s a => by simp [State.ite_frame]) _ _
@[simp] theorem State.selEvent_req : (s.selEvent a b c d e f k).req = s.req := by
  unfold State.selEvent; exact State.foldl_keeps (·.req) _ (fun s a => by simp [State.ite_req]) _ _
@[simp] theorem State.selEvent_det : (s.selEvent a b c d e f k).det = s.det := by
  unfold State.selEvent; exact State.foldl_keeps (·.det) _ (fun s a => by simp [State.ite_det]) _ _
@[simp] theorem State.selEvent_safety : (s.selEvent a b c d e f k).safety = s.safety := by
  unfold State.selEvent; exact State.foldl_keeps (·.safety) _ (fun s a => by simp [State.ite_safety]) _ _
@[simp] theorem State.selEvent_boot : (s.selEvent a b c d e f k).boot = s.boot := by
  unfold State.selEvent; exact State.foldl_keeps (·.boot) _ (fun s a => by simp [State.ite_boot]) _ _
@[simp] theorem State.selEvent_errors : (s.selEvent a b c d e f k).errors = s.errors := by
  unfold State.selEvent; exact State.foldl_keeps (·.errors) _ (fun s a => by simp [State.ite_errors]) _ _
@[simp] theorem State.selEvent_fabric : (s.selEvent a b c d e f k).fabric = s.fabric := by
  unfold State.selEvent; exact State.foldl_keeps (·.fabric) _ (fun s a => by simp [State.ite_fabric]) _ _
@[simp] theorem State.selEvent_farming : (s.selEvent a b c d e f k).farming = s.farming := by
  unfold State.selEvent; exact State.foldl_keeps (·.farming) _ (fun s a => by simp [State.ite_farming]) _ _
@[simp] theorem State.selEvent_obs : (s.selEvent a b c d e f k).obs = s.obs := by
  unfold State.selEvent; exact State.foldl_keeps (·.obs) _ (fun s a => by simp [State.ite_obs]) _ _
@[simp] theorem State.selEvent_host : (s.selEvent a b c d e f k).host = s.host := by
  unfold State.selEvent; exact State.foldl_keeps (·.host) _ (fun s a => by simp [State.ite_host]) _ _
@[simp] theorem State.selEvent_hbm : (s.selEvent a b c d e f k).hbm = s.hbm := by
  unfold State.selEvent; exact State.foldl_keeps (·.hbm) _ (fun s a => by simp [State.ite_hbm]) _ _
@[simp] theorem State.selEvent_sram : (s.selEvent a b c d e f k).sram = s.sram := by
  unfold State.selEvent; exact State.foldl_keeps (·.sram) _ (fun s a => by simp [State.ite_sram]) _ _
@[simp] theorem State.selEvent_saves : (s.selEvent a b c d e f k).saves = s.saves := by
  unfold State.selEvent; exact State.foldl_keeps (·.saves) _ (fun s a => by simp [State.ite_saves]) _ _
@[simp] theorem State.selEvent_free : (s.selEvent a b c d e f k).free = s.free := by
  unfold State.selEvent; exact State.foldl_keeps (·.free) _ (fun s a => by simp [State.ite_free]) _ _
@[simp] theorem State.selEvent_pending : (s.selEvent a b c d e f k).pending = s.pending := by
  unfold State.selEvent; exact State.foldl_keeps (·.pending) _ (fun s a => by simp [State.ite_pending]) _ _
@[simp] theorem State.selEvent_hub_clusters : (s.selEvent 2 b c d e f k).clusters = s.clusters := by
  unfold State.selEvent; exact State.foldl_keeps (·.clusters) _ (fun s a => by simp [State.addSel, State.ite_clusters]) _ _
@[simp] theorem State.selEvent_hub_stks : (s.selEvent 2 b c d e f k).stks = s.stks := by
  unfold State.selEvent; exact State.foldl_keeps (·.stks) _ (fun s a => by simp [State.addSel, State.ite_stks]) _ _
end

section
variable (p fl g : Nat) (s : State)
@[simp] theorem State.raiseArith_part : (s.raiseArith p fl g).part = s.part := by
  unfold State.raiseArith; refine (State.foldl_keeps (·.part) _ (fun s a => by simp [State.ite_part]) _ _).trans ?_; simp
@[simp] theorem State.raiseArith_flash : (s.raiseArith p fl g).flash = s.flash := by
  unfold State.raiseArith; refine (State.foldl_keeps (·.flash) _ (fun s a => by simp [State.ite_flash]) _ _).trans ?_; simp
@[simp] theorem State.raiseArith_aon : (s.raiseArith p fl g).aon = s.aon := by
  unfold State.raiseArith; refine (State.foldl_keeps (·.aon) _ (fun s a => by simp [State.ite_aon]) _ _).trans ?_; simp
@[simp] theorem State.raiseArith_mgmt : (s.raiseArith p fl g).mgmt = s.mgmt := by
  unfold State.raiseArith; refine (State.foldl_keeps (·.mgmt) _ (fun s a => by simp [State.ite_mgmt]) _ _).trans ?_; simp
@[simp] theorem State.raiseArith_time : (s.raiseArith p fl g).time = s.time := by
  unfold State.raiseArith; refine (State.foldl_keeps (·.time) _ (fun s a => by simp [State.ite_time]) _ _).trans ?_; simp
@[simp] theorem State.raiseArith_pcie : (s.raiseArith p fl g).pcie = s.pcie := by
  unfold State.raiseArith; refine (State.foldl_keeps (·.pcie) _ (fun s a => by simp [State.ite_pcie]) _ _).trans ?_; simp
@[simp] theorem State.raiseArith_mbx : (s.raiseArith p fl g).mbx = s.mbx := by
  unfold State.raiseArith; refine (State.foldl_keeps (·.mbx) _ (fun s a => by simp [State.ite_mbx]) _ _).trans ?_; simp
@[simp] theorem State.raiseArith_rings : (s.raiseArith p fl g).rings = s.rings := by
  unfold State.raiseArith; refine (State.foldl_keeps (·.rings) _ (fun s a => by simp [State.ite_rings]) _ _).trans ?_; simp
@[simp] theorem State.raiseArith_sessions : (s.raiseArith p fl g).sessions = s.sessions := by
  unfold State.raiseArith; refine (State.foldl_keeps (·.sessions) _ (fun s a => by simp [State.ite_sessions]) _ _).trans ?_; simp
@[simp] theorem State.raiseArith_images : (s.raiseArith p fl g).images = s.images := by
  unfold State.raiseArith; refine (State.foldl_keeps (·.images) _ (fun s a => by simp [State.ite_images]) _ _).trans ?_; simp
@[simp] theorem State.raiseArith_worlds : (s.raiseArith p fl g).worlds = s.worlds := by
  unfold State.raiseArith; refine (State.foldl_keeps (·.worlds) _ (fun s a => by simp [State.ite_worlds]) _ _).trans ?_; simp
@[simp] theorem State.raiseArith_streams : (s.raiseArith p fl g).streams = s.streams := by
  unfold State.raiseArith; refine (State.foldl_keeps (·.streams) _ (fun s a => by simp [State.ite_streams]) _ _).trans ?_; simp
@[simp] theorem State.raiseArith_frame : (s.raiseArith p fl g).frame = s.frame := by
  unfold State.raiseArith; refine (State.foldl_keeps (·.frame) _ (fun s a => by simp [State.ite_frame]) _ _).trans ?_; simp
@[simp] theorem State.raiseArith_req : (s.raiseArith p fl g).req = s.req := by
  unfold State.raiseArith; refine (State.foldl_keeps (·.req) _ (fun s a => by simp [State.ite_req]) _ _).trans ?_; simp
@[simp] theorem State.raiseArith_det : (s.raiseArith p fl g).det = s.det := by
  unfold State.raiseArith; refine (State.foldl_keeps (·.det) _ (fun s a => by simp [State.ite_det]) _ _).trans ?_; simp
@[simp] theorem State.raiseArith_safety : (s.raiseArith p fl g).safety = s.safety := by
  unfold State.raiseArith; refine (State.foldl_keeps (·.safety) _ (fun s a => by simp [State.ite_safety]) _ _).trans ?_; simp
@[simp] theorem State.raiseArith_boot : (s.raiseArith p fl g).boot = s.boot := by
  unfold State.raiseArith; refine (State.foldl_keeps (·.boot) _ (fun s a => by simp [State.ite_boot]) _ _).trans ?_; simp
@[simp] theorem State.raiseArith_errors : (s.raiseArith p fl g).errors = s.errors := by
  unfold State.raiseArith; refine (State.foldl_keeps (·.errors) _ (fun s a => by simp [State.ite_errors]) _ _).trans ?_; simp
@[simp] theorem State.raiseArith_fabric : (s.raiseArith p fl g).fabric = s.fabric := by
  unfold State.raiseArith; refine (State.foldl_keeps (·.fabric) _ (fun s a => by simp [State.ite_fabric]) _ _).trans ?_; simp
@[simp] theorem State.raiseArith_farming : (s.raiseArith p fl g).farming = s.farming := by
  unfold State.raiseArith; refine (State.foldl_keeps (·.farming) _ (fun s a => by simp [State.ite_farming]) _ _).trans ?_; simp
@[simp] theorem State.raiseArith_obs : (s.raiseArith p fl g).obs = s.obs := by
  unfold State.raiseArith; refine (State.foldl_keeps (·.obs) _ (fun s a => by simp [State.ite_obs]) _ _).trans ?_; simp
@[simp] theorem State.raiseArith_host : (s.raiseArith p fl g).host = s.host := by
  unfold State.raiseArith; refine (State.foldl_keeps (·.host) _ (fun s a => by simp [State.ite_host]) _ _).trans ?_; simp
@[simp] theorem State.raiseArith_hbm : (s.raiseArith p fl g).hbm = s.hbm := by
  unfold State.raiseArith; refine (State.foldl_keeps (·.hbm) _ (fun s a => by simp [State.ite_hbm]) _ _).trans ?_; simp
@[simp] theorem State.raiseArith_sram : (s.raiseArith p fl g).sram = s.sram := by
  unfold State.raiseArith; refine (State.foldl_keeps (·.sram) _ (fun s a => by simp [State.ite_sram]) _ _).trans ?_; simp
@[simp] theorem State.raiseArith_saves : (s.raiseArith p fl g).saves = s.saves := by
  unfold State.raiseArith; refine (State.foldl_keeps (·.saves) _ (fun s a => by simp [State.ite_saves]) _ _).trans ?_; simp
@[simp] theorem State.raiseArith_free : (s.raiseArith p fl g).free = s.free := by
  unfold State.raiseArith; refine (State.foldl_keeps (·.free) _ (fun s a => by simp [State.ite_free]) _ _).trans ?_; simp
@[simp] theorem State.raiseArith_pending : (s.raiseArith p fl g).pending = s.pending := by
  unfold State.raiseArith; refine (State.foldl_keeps (·.pending) _ (fun s a => by simp [State.ite_pending]) _ _).trans ?_; simp
end

section
variable (fn a : Nat) (b : List Byte) (s : State)
@[simp] theorem State.hostWrite_part : (s.hostWrite fn a b).part = s.part := by unfold State.hostWrite; simp [State.ite_part]
@[simp] theorem State.hostWrite_flash : (s.hostWrite fn a b).flash = s.flash := by unfold State.hostWrite; simp [State.ite_flash]
@[simp] theorem State.hostWrite_aon : (s.hostWrite fn a b).aon = s.aon := by unfold State.hostWrite; simp [State.ite_aon]
@[simp] theorem State.hostWrite_mgmt : (s.hostWrite fn a b).mgmt = s.mgmt := by unfold State.hostWrite; simp [State.ite_mgmt]
@[simp] theorem State.hostWrite_time : (s.hostWrite fn a b).time = s.time := by unfold State.hostWrite; simp [State.ite_time]
@[simp] theorem State.hostWrite_pcie : (s.hostWrite fn a b).pcie = s.pcie := by unfold State.hostWrite; simp [State.ite_pcie]
@[simp] theorem State.hostWrite_mbx : (s.hostWrite fn a b).mbx = s.mbx := by unfold State.hostWrite; simp [State.ite_mbx]
@[simp] theorem State.hostWrite_rings : (s.hostWrite fn a b).rings = s.rings := by unfold State.hostWrite; simp [State.ite_rings]
@[simp] theorem State.hostWrite_sessions : (s.hostWrite fn a b).sessions = s.sessions := by unfold State.hostWrite; simp [State.ite_sessions]
@[simp] theorem State.hostWrite_images : (s.hostWrite fn a b).images = s.images := by unfold State.hostWrite; simp [State.ite_images]
@[simp] theorem State.hostWrite_worlds : (s.hostWrite fn a b).worlds = s.worlds := by unfold State.hostWrite; simp [State.ite_worlds]
@[simp] theorem State.hostWrite_streams : (s.hostWrite fn a b).streams = s.streams := by unfold State.hostWrite; simp [State.ite_streams]
@[simp] theorem State.hostWrite_frame : (s.hostWrite fn a b).frame = s.frame := by unfold State.hostWrite; simp [State.ite_frame]
@[simp] theorem State.hostWrite_req : (s.hostWrite fn a b).req = s.req := by unfold State.hostWrite; simp [State.ite_req]
@[simp] theorem State.hostWrite_det : (s.hostWrite fn a b).det = s.det := by unfold State.hostWrite; simp [State.ite_det]
@[simp] theorem State.hostWrite_safety : (s.hostWrite fn a b).safety = s.safety := by unfold State.hostWrite; simp [State.ite_safety]
@[simp] theorem State.hostWrite_boot : (s.hostWrite fn a b).boot = s.boot := by unfold State.hostWrite; simp [State.ite_boot]
@[simp] theorem State.hostWrite_errors : (s.hostWrite fn a b).errors = s.errors := by unfold State.hostWrite; simp [State.ite_errors]
@[simp] theorem State.hostWrite_fabric : (s.hostWrite fn a b).fabric = s.fabric := by unfold State.hostWrite; simp [State.ite_fabric]
@[simp] theorem State.hostWrite_farming : (s.hostWrite fn a b).farming = s.farming := by unfold State.hostWrite; simp [State.ite_farming]
@[simp] theorem State.hostWrite_obs : (s.hostWrite fn a b).obs = s.obs := by unfold State.hostWrite; simp [State.ite_obs]
@[simp] theorem State.hostWrite_hbm : (s.hostWrite fn a b).hbm = s.hbm := by unfold State.hostWrite; simp [State.ite_hbm]
@[simp] theorem State.hostWrite_sram : (s.hostWrite fn a b).sram = s.sram := by unfold State.hostWrite; simp [State.ite_sram]
@[simp] theorem State.hostWrite_saves : (s.hostWrite fn a b).saves = s.saves := by unfold State.hostWrite; simp [State.ite_saves]
@[simp] theorem State.hostWrite_free : (s.hostWrite fn a b).free = s.free := by unfold State.hostWrite; simp [State.ite_free]
@[simp] theorem State.hostWrite_pending : (s.hostWrite fn a b).pending = s.pending := by unfold State.hostWrite; simp [State.ite_pending]
end

section
variable (fn v : Nat) (s : State)
@[simp] theorem State.msixSend_part : (s.msixSend fn v).part = s.part := rfl
@[simp] theorem State.msixSend_flash : (s.msixSend fn v).flash = s.flash := rfl
@[simp] theorem State.msixSend_aon : (s.msixSend fn v).aon = s.aon := rfl
@[simp] theorem State.msixSend_mgmt : (s.msixSend fn v).mgmt = s.mgmt := rfl
@[simp] theorem State.msixSend_time : (s.msixSend fn v).time = s.time := rfl
@[simp] theorem State.msixSend_mbx : (s.msixSend fn v).mbx = s.mbx := rfl
@[simp] theorem State.msixSend_rings : (s.msixSend fn v).rings = s.rings := rfl
@[simp] theorem State.msixSend_sessions : (s.msixSend fn v).sessions = s.sessions := rfl
@[simp] theorem State.msixSend_images : (s.msixSend fn v).images = s.images := rfl
@[simp] theorem State.msixSend_worlds : (s.msixSend fn v).worlds = s.worlds := rfl
@[simp] theorem State.msixSend_streams : (s.msixSend fn v).streams = s.streams := rfl
@[simp] theorem State.msixSend_clusters : (s.msixSend fn v).clusters = s.clusters := rfl
@[simp] theorem State.msixSend_stks : (s.msixSend fn v).stks = s.stks := rfl
@[simp] theorem State.msixSend_hub : (s.msixSend fn v).hub = s.hub := rfl
@[simp] theorem State.msixSend_frame : (s.msixSend fn v).frame = s.frame := rfl
@[simp] theorem State.msixSend_req : (s.msixSend fn v).req = s.req := rfl
@[simp] theorem State.msixSend_det : (s.msixSend fn v).det = s.det := rfl
@[simp] theorem State.msixSend_safety : (s.msixSend fn v).safety = s.safety := rfl
@[simp] theorem State.msixSend_boot : (s.msixSend fn v).boot = s.boot := rfl
@[simp] theorem State.msixSend_errors : (s.msixSend fn v).errors = s.errors := rfl
@[simp] theorem State.msixSend_fabric : (s.msixSend fn v).fabric = s.fabric := rfl
@[simp] theorem State.msixSend_farming : (s.msixSend fn v).farming = s.farming := rfl
@[simp] theorem State.msixSend_obs : (s.msixSend fn v).obs = s.obs := rfl
@[simp] theorem State.msixSend_hbm : (s.msixSend fn v).hbm = s.hbm := rfl
@[simp] theorem State.msixSend_sram : (s.msixSend fn v).sram = s.sram := rfl
@[simp] theorem State.msixSend_saves : (s.msixSend fn v).saves = s.saves := rfl
@[simp] theorem State.msixSend_free : (s.msixSend fn v).free = s.free := rfl
@[simp] theorem State.msixSend_pending : (s.msixSend fn v).pending = s.pending := rfl
end

section
variable (fn v : Nat) (s : State)
@[simp] theorem State.msixRaise_part : (s.msixRaise fn v).part = s.part := by unfold State.msixRaise; simp [State.ite_part]
@[simp] theorem State.msixRaise_flash : (s.msixRaise fn v).flash = s.flash := by unfold State.msixRaise; simp [State.ite_flash]
@[simp] theorem State.msixRaise_aon : (s.msixRaise fn v).aon = s.aon := by unfold State.msixRaise; simp [State.ite_aon]
@[simp] theorem State.msixRaise_mgmt : (s.msixRaise fn v).mgmt = s.mgmt := by unfold State.msixRaise; simp [State.ite_mgmt]
@[simp] theorem State.msixRaise_time : (s.msixRaise fn v).time = s.time := by unfold State.msixRaise; simp [State.ite_time]
@[simp] theorem State.msixRaise_mbx : (s.msixRaise fn v).mbx = s.mbx := by unfold State.msixRaise; simp [State.ite_mbx]
@[simp] theorem State.msixRaise_rings : (s.msixRaise fn v).rings = s.rings := by unfold State.msixRaise; simp [State.ite_rings]
@[simp] theorem State.msixRaise_sessions : (s.msixRaise fn v).sessions = s.sessions := by unfold State.msixRaise; simp [State.ite_sessions]
@[simp] theorem State.msixRaise_images : (s.msixRaise fn v).images = s.images := by unfold State.msixRaise; simp [State.ite_images]
@[simp] theorem State.msixRaise_worlds : (s.msixRaise fn v).worlds = s.worlds := by unfold State.msixRaise; simp [State.ite_worlds]
@[simp] theorem State.msixRaise_streams : (s.msixRaise fn v).streams = s.streams := by unfold State.msixRaise; simp [State.ite_streams]
@[simp] theorem State.msixRaise_clusters : (s.msixRaise fn v).clusters = s.clusters := by unfold State.msixRaise; simp [State.ite_clusters]
@[simp] theorem State.msixRaise_stks : (s.msixRaise fn v).stks = s.stks := by unfold State.msixRaise; simp [State.ite_stks]
@[simp] theorem State.msixRaise_hub : (s.msixRaise fn v).hub = s.hub := by unfold State.msixRaise; simp [State.ite_hub]
@[simp] theorem State.msixRaise_frame : (s.msixRaise fn v).frame = s.frame := by unfold State.msixRaise; simp [State.ite_frame]
@[simp] theorem State.msixRaise_req : (s.msixRaise fn v).req = s.req := by unfold State.msixRaise; simp [State.ite_req]
@[simp] theorem State.msixRaise_det : (s.msixRaise fn v).det = s.det := by unfold State.msixRaise; simp [State.ite_det]
@[simp] theorem State.msixRaise_safety : (s.msixRaise fn v).safety = s.safety := by unfold State.msixRaise; simp [State.ite_safety]
@[simp] theorem State.msixRaise_boot : (s.msixRaise fn v).boot = s.boot := by unfold State.msixRaise; simp [State.ite_boot]
@[simp] theorem State.msixRaise_errors : (s.msixRaise fn v).errors = s.errors := by unfold State.msixRaise; simp [State.ite_errors]
@[simp] theorem State.msixRaise_fabric : (s.msixRaise fn v).fabric = s.fabric := by unfold State.msixRaise; simp [State.ite_fabric]
@[simp] theorem State.msixRaise_farming : (s.msixRaise fn v).farming = s.farming := by unfold State.msixRaise; simp [State.ite_farming]
@[simp] theorem State.msixRaise_obs : (s.msixRaise fn v).obs = s.obs := by unfold State.msixRaise; simp [State.ite_obs]
@[simp] theorem State.msixRaise_hbm : (s.msixRaise fn v).hbm = s.hbm := by unfold State.msixRaise; simp [State.ite_hbm]
@[simp] theorem State.msixRaise_sram : (s.msixRaise fn v).sram = s.sram := by unfold State.msixRaise; simp [State.ite_sram]
@[simp] theorem State.msixRaise_saves : (s.msixRaise fn v).saves = s.saves := by unfold State.msixRaise; simp [State.ite_saves]
@[simp] theorem State.msixRaise_free : (s.msixRaise fn v).free = s.free := by unfold State.msixRaise; simp [State.ite_free]
@[simp] theorem State.msixRaise_pending : (s.msixRaise fn v).pending = s.pending := by unfold State.msixRaise; simp [State.ite_pending]
end

section
variable (fn : Nat) (s : State)
@[simp] theorem State.msixFlush_part : (s.msixFlush fn).part = s.part := by
  unfold State.msixFlush; exact State.foldl_keeps (·.part) _ (fun s a => by simp [State.ite_part]) _ _
@[simp] theorem State.msixFlush_flash : (s.msixFlush fn).flash = s.flash := by
  unfold State.msixFlush; exact State.foldl_keeps (·.flash) _ (fun s a => by simp [State.ite_flash]) _ _
@[simp] theorem State.msixFlush_aon : (s.msixFlush fn).aon = s.aon := by
  unfold State.msixFlush; exact State.foldl_keeps (·.aon) _ (fun s a => by simp [State.ite_aon]) _ _
@[simp] theorem State.msixFlush_mgmt : (s.msixFlush fn).mgmt = s.mgmt := by
  unfold State.msixFlush; exact State.foldl_keeps (·.mgmt) _ (fun s a => by simp [State.ite_mgmt]) _ _
@[simp] theorem State.msixFlush_time : (s.msixFlush fn).time = s.time := by
  unfold State.msixFlush; exact State.foldl_keeps (·.time) _ (fun s a => by simp [State.ite_time]) _ _
@[simp] theorem State.msixFlush_mbx : (s.msixFlush fn).mbx = s.mbx := by
  unfold State.msixFlush; exact State.foldl_keeps (·.mbx) _ (fun s a => by simp [State.ite_mbx]) _ _
@[simp] theorem State.msixFlush_rings : (s.msixFlush fn).rings = s.rings := by
  unfold State.msixFlush; exact State.foldl_keeps (·.rings) _ (fun s a => by simp [State.ite_rings]) _ _
@[simp] theorem State.msixFlush_sessions : (s.msixFlush fn).sessions = s.sessions := by
  unfold State.msixFlush; exact State.foldl_keeps (·.sessions) _ (fun s a => by simp [State.ite_sessions]) _ _
@[simp] theorem State.msixFlush_images : (s.msixFlush fn).images = s.images := by
  unfold State.msixFlush; exact State.foldl_keeps (·.images) _ (fun s a => by simp [State.ite_images]) _ _
@[simp] theorem State.msixFlush_worlds : (s.msixFlush fn).worlds = s.worlds := by
  unfold State.msixFlush; exact State.foldl_keeps (·.worlds) _ (fun s a => by simp [State.ite_worlds]) _ _
@[simp] theorem State.msixFlush_streams : (s.msixFlush fn).streams = s.streams := by
  unfold State.msixFlush; exact State.foldl_keeps (·.streams) _ (fun s a => by simp [State.ite_streams]) _ _
@[simp] theorem State.msixFlush_clusters : (s.msixFlush fn).clusters = s.clusters := by
  unfold State.msixFlush; exact State.foldl_keeps (·.clusters) _ (fun s a => by simp [State.ite_clusters]) _ _
@[simp] theorem State.msixFlush_stks : (s.msixFlush fn).stks = s.stks := by
  unfold State.msixFlush; exact State.foldl_keeps (·.stks) _ (fun s a => by simp [State.ite_stks]) _ _
@[simp] theorem State.msixFlush_hub : (s.msixFlush fn).hub = s.hub := by
  unfold State.msixFlush; exact State.foldl_keeps (·.hub) _ (fun s a => by simp [State.ite_hub]) _ _
@[simp] theorem State.msixFlush_frame : (s.msixFlush fn).frame = s.frame := by
  unfold State.msixFlush; exact State.foldl_keeps (·.frame) _ (fun s a => by simp [State.ite_frame]) _ _
@[simp] theorem State.msixFlush_req : (s.msixFlush fn).req = s.req := by
  unfold State.msixFlush; exact State.foldl_keeps (·.req) _ (fun s a => by simp [State.ite_req]) _ _
@[simp] theorem State.msixFlush_det : (s.msixFlush fn).det = s.det := by
  unfold State.msixFlush; exact State.foldl_keeps (·.det) _ (fun s a => by simp [State.ite_det]) _ _
@[simp] theorem State.msixFlush_safety : (s.msixFlush fn).safety = s.safety := by
  unfold State.msixFlush; exact State.foldl_keeps (·.safety) _ (fun s a => by simp [State.ite_safety]) _ _
@[simp] theorem State.msixFlush_boot : (s.msixFlush fn).boot = s.boot := by
  unfold State.msixFlush; exact State.foldl_keeps (·.boot) _ (fun s a => by simp [State.ite_boot]) _ _
@[simp] theorem State.msixFlush_errors : (s.msixFlush fn).errors = s.errors := by
  unfold State.msixFlush; exact State.foldl_keeps (·.errors) _ (fun s a => by simp [State.ite_errors]) _ _
@[simp] theorem State.msixFlush_fabric : (s.msixFlush fn).fabric = s.fabric := by
  unfold State.msixFlush; exact State.foldl_keeps (·.fabric) _ (fun s a => by simp [State.ite_fabric]) _ _
@[simp] theorem State.msixFlush_farming : (s.msixFlush fn).farming = s.farming := by
  unfold State.msixFlush; exact State.foldl_keeps (·.farming) _ (fun s a => by simp [State.ite_farming]) _ _
@[simp] theorem State.msixFlush_obs : (s.msixFlush fn).obs = s.obs := by
  unfold State.msixFlush; exact State.foldl_keeps (·.obs) _ (fun s a => by simp [State.ite_obs]) _ _
@[simp] theorem State.msixFlush_hbm : (s.msixFlush fn).hbm = s.hbm := by
  unfold State.msixFlush; exact State.foldl_keeps (·.hbm) _ (fun s a => by simp [State.ite_hbm]) _ _
@[simp] theorem State.msixFlush_sram : (s.msixFlush fn).sram = s.sram := by
  unfold State.msixFlush; exact State.foldl_keeps (·.sram) _ (fun s a => by simp [State.ite_sram]) _ _
@[simp] theorem State.msixFlush_saves : (s.msixFlush fn).saves = s.saves := by
  unfold State.msixFlush; exact State.foldl_keeps (·.saves) _ (fun s a => by simp [State.ite_saves]) _ _
@[simp] theorem State.msixFlush_free : (s.msixFlush fn).free = s.free := by
  unfold State.msixFlush; exact State.foldl_keeps (·.free) _ (fun s a => by simp [State.ite_free]) _ _
@[simp] theorem State.msixFlush_pending : (s.msixFlush fn).pending = s.pending := by
  unfold State.msixFlush; exact State.foldl_keeps (·.pending) _ (fun s a => by simp [State.ite_pending]) _ _
end

section
variable (r : Ring) (b : List Byte) (s : State)
@[simp] theorem State.ringPut_part : (s.ringPut r b).part = s.part := by unfold State.ringPut; simp
@[simp] theorem State.ringPut_flash : (s.ringPut r b).flash = s.flash := by unfold State.ringPut; simp
@[simp] theorem State.ringPut_aon : (s.ringPut r b).aon = s.aon := by unfold State.ringPut; simp
@[simp] theorem State.ringPut_mgmt : (s.ringPut r b).mgmt = s.mgmt := by unfold State.ringPut; simp
@[simp] theorem State.ringPut_time : (s.ringPut r b).time = s.time := by unfold State.ringPut; simp
@[simp] theorem State.ringPut_pcie : (s.ringPut r b).pcie = s.pcie := by unfold State.ringPut; simp
@[simp] theorem State.ringPut_mbx : (s.ringPut r b).mbx = s.mbx := by unfold State.ringPut; simp
@[simp] theorem State.ringPut_sessions : (s.ringPut r b).sessions = s.sessions := by unfold State.ringPut; simp
@[simp] theorem State.ringPut_images : (s.ringPut r b).images = s.images := by unfold State.ringPut; simp
@[simp] theorem State.ringPut_worlds : (s.ringPut r b).worlds = s.worlds := by unfold State.ringPut; simp
@[simp] theorem State.ringPut_streams : (s.ringPut r b).streams = s.streams := by unfold State.ringPut; simp
@[simp] theorem State.ringPut_frame : (s.ringPut r b).frame = s.frame := by unfold State.ringPut; simp
@[simp] theorem State.ringPut_req : (s.ringPut r b).req = s.req := by unfold State.ringPut; simp
@[simp] theorem State.ringPut_det : (s.ringPut r b).det = s.det := by unfold State.ringPut; simp
@[simp] theorem State.ringPut_safety : (s.ringPut r b).safety = s.safety := by unfold State.ringPut; simp
@[simp] theorem State.ringPut_boot : (s.ringPut r b).boot = s.boot := by unfold State.ringPut; simp
@[simp] theorem State.ringPut_errors : (s.ringPut r b).errors = s.errors := by unfold State.ringPut; simp
@[simp] theorem State.ringPut_fabric : (s.ringPut r b).fabric = s.fabric := by unfold State.ringPut; simp
@[simp] theorem State.ringPut_farming : (s.ringPut r b).farming = s.farming := by unfold State.ringPut; simp
@[simp] theorem State.ringPut_obs : (s.ringPut r b).obs = s.obs := by unfold State.ringPut; simp
@[simp] theorem State.ringPut_hbm : (s.ringPut r b).hbm = s.hbm := by unfold State.ringPut; simp
@[simp] theorem State.ringPut_sram : (s.ringPut r b).sram = s.sram := by unfold State.ringPut; simp
@[simp] theorem State.ringPut_saves : (s.ringPut r b).saves = s.saves := by unfold State.ringPut; simp
@[simp] theorem State.ringPut_free : (s.ringPut r b).free = s.free := by unfold State.ringPut; simp
@[simp] theorem State.ringPut_pending : (s.ringPut r b).pending = s.pending := by unfold State.ringPut; simp
end

section
variable (k ty se st : Nat) (p : List Byte) (s : State)
@[simp] theorem State.eventTo_part : (s.eventTo k ty se st p).part = s.part := by
  unfold State.eventTo; split
  · rfl
  · simp [State.ite_part]
@[simp] theorem State.eventTo_flash : (s.eventTo k ty se st p).flash = s.flash := by
  unfold State.eventTo; split
  · rfl
  · simp [State.ite_flash]
@[simp] theorem State.eventTo_aon : (s.eventTo k ty se st p).aon = s.aon := by
  unfold State.eventTo; split
  · rfl
  · simp [State.ite_aon]
@[simp] theorem State.eventTo_mgmt : (s.eventTo k ty se st p).mgmt = s.mgmt := by
  unfold State.eventTo; split
  · rfl
  · simp [State.ite_mgmt]
@[simp] theorem State.eventTo_time : (s.eventTo k ty se st p).time = s.time := by
  unfold State.eventTo; split
  · rfl
  · simp [State.ite_time]
@[simp] theorem State.eventTo_mbx : (s.eventTo k ty se st p).mbx = s.mbx := by
  unfold State.eventTo; split
  · rfl
  · simp [State.ite_mbx]
@[simp] theorem State.eventTo_images : (s.eventTo k ty se st p).images = s.images := by
  unfold State.eventTo; split
  · rfl
  · simp [State.ite_images]
@[simp] theorem State.eventTo_worlds : (s.eventTo k ty se st p).worlds = s.worlds := by
  unfold State.eventTo; split
  · rfl
  · simp [State.ite_worlds]
@[simp] theorem State.eventTo_streams : (s.eventTo k ty se st p).streams = s.streams := by
  unfold State.eventTo; split
  · rfl
  · simp [State.ite_streams]
@[simp] theorem State.eventTo_frame : (s.eventTo k ty se st p).frame = s.frame := by
  unfold State.eventTo; split
  · rfl
  · simp [State.ite_frame]
@[simp] theorem State.eventTo_req : (s.eventTo k ty se st p).req = s.req := by
  unfold State.eventTo; split
  · rfl
  · simp [State.ite_req]
@[simp] theorem State.eventTo_det : (s.eventTo k ty se st p).det = s.det := by
  unfold State.eventTo; split
  · rfl
  · simp [State.ite_det]
@[simp] theorem State.eventTo_safety : (s.eventTo k ty se st p).safety = s.safety := by
  unfold State.eventTo; split
  · rfl
  · simp [State.ite_safety]
@[simp] theorem State.eventTo_boot : (s.eventTo k ty se st p).boot = s.boot := by
  unfold State.eventTo; split
  · rfl
  · simp [State.ite_boot]
@[simp] theorem State.eventTo_errors : (s.eventTo k ty se st p).errors = s.errors := by
  unfold State.eventTo; split
  · rfl
  · simp [State.ite_errors]
@[simp] theorem State.eventTo_fabric : (s.eventTo k ty se st p).fabric = s.fabric := by
  unfold State.eventTo; split
  · rfl
  · simp [State.ite_fabric]
@[simp] theorem State.eventTo_farming : (s.eventTo k ty se st p).farming = s.farming := by
  unfold State.eventTo; split
  · rfl
  · simp [State.ite_farming]
@[simp] theorem State.eventTo_obs : (s.eventTo k ty se st p).obs = s.obs := by
  unfold State.eventTo; split
  · rfl
  · simp [State.ite_obs]
@[simp] theorem State.eventTo_hbm : (s.eventTo k ty se st p).hbm = s.hbm := by
  unfold State.eventTo; split
  · rfl
  · simp [State.ite_hbm]
@[simp] theorem State.eventTo_sram : (s.eventTo k ty se st p).sram = s.sram := by
  unfold State.eventTo; split
  · rfl
  · simp [State.ite_sram]
@[simp] theorem State.eventTo_saves : (s.eventTo k ty se st p).saves = s.saves := by
  unfold State.eventTo; split
  · rfl
  · simp [State.ite_saves]
@[simp] theorem State.eventTo_free : (s.eventTo k ty se st p).free = s.free := by
  unfold State.eventTo; split
  · rfl
  · simp [State.ite_free]
@[simp] theorem State.eventTo_pending : (s.eventTo k ty se st p).pending = s.pending := by
  unfold State.eventTo; split
  · rfl
  · simp [State.ite_pending]
end

section
variable (ty st : Nat) (p : List Byte) (s : State)
@[simp] theorem State.deviceEvent_part : (s.deviceEvent ty st p).part = s.part := by
  unfold State.deviceEvent; refine (State.foldl_keeps (·.part) _ (fun s a => by simp [State.ite_part]) _ _).trans ?_; simp
@[simp] theorem State.deviceEvent_flash : (s.deviceEvent ty st p).flash = s.flash := by
  unfold State.deviceEvent; refine (State.foldl_keeps (·.flash) _ (fun s a => by simp [State.ite_flash]) _ _).trans ?_; simp
@[simp] theorem State.deviceEvent_aon : (s.deviceEvent ty st p).aon = s.aon := by
  unfold State.deviceEvent; refine (State.foldl_keeps (·.aon) _ (fun s a => by simp [State.ite_aon]) _ _).trans ?_; simp
@[simp] theorem State.deviceEvent_mgmt : (s.deviceEvent ty st p).mgmt = s.mgmt := by
  unfold State.deviceEvent; refine (State.foldl_keeps (·.mgmt) _ (fun s a => by simp [State.ite_mgmt]) _ _).trans ?_; simp
@[simp] theorem State.deviceEvent_time : (s.deviceEvent ty st p).time = s.time := by
  unfold State.deviceEvent; refine (State.foldl_keeps (·.time) _ (fun s a => by simp [State.ite_time]) _ _).trans ?_; simp
@[simp] theorem State.deviceEvent_mbx : (s.deviceEvent ty st p).mbx = s.mbx := by
  unfold State.deviceEvent; refine (State.foldl_keeps (·.mbx) _ (fun s a => by simp [State.ite_mbx]) _ _).trans ?_; simp
@[simp] theorem State.deviceEvent_images : (s.deviceEvent ty st p).images = s.images := by
  unfold State.deviceEvent; refine (State.foldl_keeps (·.images) _ (fun s a => by simp [State.ite_images]) _ _).trans ?_; simp
@[simp] theorem State.deviceEvent_worlds : (s.deviceEvent ty st p).worlds = s.worlds := by
  unfold State.deviceEvent; refine (State.foldl_keeps (·.worlds) _ (fun s a => by simp [State.ite_worlds]) _ _).trans ?_; simp
@[simp] theorem State.deviceEvent_streams : (s.deviceEvent ty st p).streams = s.streams := by
  unfold State.deviceEvent; refine (State.foldl_keeps (·.streams) _ (fun s a => by simp [State.ite_streams]) _ _).trans ?_; simp
@[simp] theorem State.deviceEvent_frame : (s.deviceEvent ty st p).frame = s.frame := by
  unfold State.deviceEvent; refine (State.foldl_keeps (·.frame) _ (fun s a => by simp [State.ite_frame]) _ _).trans ?_; simp
@[simp] theorem State.deviceEvent_req : (s.deviceEvent ty st p).req = s.req := by
  unfold State.deviceEvent; refine (State.foldl_keeps (·.req) _ (fun s a => by simp [State.ite_req]) _ _).trans ?_; simp
@[simp] theorem State.deviceEvent_det : (s.deviceEvent ty st p).det = s.det := by
  unfold State.deviceEvent; refine (State.foldl_keeps (·.det) _ (fun s a => by simp [State.ite_det]) _ _).trans ?_; simp
@[simp] theorem State.deviceEvent_safety : (s.deviceEvent ty st p).safety = s.safety := by
  unfold State.deviceEvent; refine (State.foldl_keeps (·.safety) _ (fun s a => by simp [State.ite_safety]) _ _).trans ?_; simp
@[simp] theorem State.deviceEvent_boot : (s.deviceEvent ty st p).boot = s.boot := by
  unfold State.deviceEvent; refine (State.foldl_keeps (·.boot) _ (fun s a => by simp [State.ite_boot]) _ _).trans ?_; simp
@[simp] theorem State.deviceEvent_errors : (s.deviceEvent ty st p).errors = s.errors := by
  unfold State.deviceEvent; refine (State.foldl_keeps (·.errors) _ (fun s a => by simp [State.ite_errors]) _ _).trans ?_; simp
@[simp] theorem State.deviceEvent_fabric : (s.deviceEvent ty st p).fabric = s.fabric := by
  unfold State.deviceEvent; refine (State.foldl_keeps (·.fabric) _ (fun s a => by simp [State.ite_fabric]) _ _).trans ?_; simp
@[simp] theorem State.deviceEvent_farming : (s.deviceEvent ty st p).farming = s.farming := by
  unfold State.deviceEvent; refine (State.foldl_keeps (·.farming) _ (fun s a => by simp [State.ite_farming]) _ _).trans ?_; simp
@[simp] theorem State.deviceEvent_obs : (s.deviceEvent ty st p).obs = s.obs := by
  unfold State.deviceEvent; refine (State.foldl_keeps (·.obs) _ (fun s a => by simp [State.ite_obs]) _ _).trans ?_; simp
@[simp] theorem State.deviceEvent_hbm : (s.deviceEvent ty st p).hbm = s.hbm := by
  unfold State.deviceEvent; refine (State.foldl_keeps (·.hbm) _ (fun s a => by simp [State.ite_hbm]) _ _).trans ?_; simp
@[simp] theorem State.deviceEvent_sram : (s.deviceEvent ty st p).sram = s.sram := by
  unfold State.deviceEvent; refine (State.foldl_keeps (·.sram) _ (fun s a => by simp [State.ite_sram]) _ _).trans ?_; simp
@[simp] theorem State.deviceEvent_saves : (s.deviceEvent ty st p).saves = s.saves := by
  unfold State.deviceEvent; refine (State.foldl_keeps (·.saves) _ (fun s a => by simp [State.ite_saves]) _ _).trans ?_; simp
@[simp] theorem State.deviceEvent_free : (s.deviceEvent ty st p).free = s.free := by
  unfold State.deviceEvent; refine (State.foldl_keeps (·.free) _ (fun s a => by simp [State.ite_free]) _ _).trans ?_; simp
@[simp] theorem State.deviceEvent_pending : (s.deviceEvent ty st p).pending = s.pending := by
  unfold State.deviceEvent; refine (State.foldl_keeps (·.pending) _ (fun s a => by simp [State.ite_pending]) _ _).trans ?_; simp
end

section
variable (se ty st : Nat) (p : List Byte) (s : State)
@[simp] theorem State.sessionEvent_part : (s.sessionEvent se ty st p).part = s.part := by unfold State.sessionEvent; simp
@[simp] theorem State.sessionEvent_flash : (s.sessionEvent se ty st p).flash = s.flash := by unfold State.sessionEvent; simp
@[simp] theorem State.sessionEvent_aon : (s.sessionEvent se ty st p).aon = s.aon := by unfold State.sessionEvent; simp
@[simp] theorem State.sessionEvent_mgmt : (s.sessionEvent se ty st p).mgmt = s.mgmt := by unfold State.sessionEvent; simp
@[simp] theorem State.sessionEvent_time : (s.sessionEvent se ty st p).time = s.time := by unfold State.sessionEvent; simp
@[simp] theorem State.sessionEvent_mbx : (s.sessionEvent se ty st p).mbx = s.mbx := by unfold State.sessionEvent; simp
@[simp] theorem State.sessionEvent_images : (s.sessionEvent se ty st p).images = s.images := by unfold State.sessionEvent; simp
@[simp] theorem State.sessionEvent_worlds : (s.sessionEvent se ty st p).worlds = s.worlds := by unfold State.sessionEvent; simp
@[simp] theorem State.sessionEvent_streams : (s.sessionEvent se ty st p).streams = s.streams := by unfold State.sessionEvent; simp
@[simp] theorem State.sessionEvent_frame : (s.sessionEvent se ty st p).frame = s.frame := by unfold State.sessionEvent; simp
@[simp] theorem State.sessionEvent_req : (s.sessionEvent se ty st p).req = s.req := by unfold State.sessionEvent; simp
@[simp] theorem State.sessionEvent_det : (s.sessionEvent se ty st p).det = s.det := by unfold State.sessionEvent; simp
@[simp] theorem State.sessionEvent_safety : (s.sessionEvent se ty st p).safety = s.safety := by unfold State.sessionEvent; simp
@[simp] theorem State.sessionEvent_boot : (s.sessionEvent se ty st p).boot = s.boot := by unfold State.sessionEvent; simp
@[simp] theorem State.sessionEvent_errors : (s.sessionEvent se ty st p).errors = s.errors := by unfold State.sessionEvent; simp
@[simp] theorem State.sessionEvent_fabric : (s.sessionEvent se ty st p).fabric = s.fabric := by unfold State.sessionEvent; simp
@[simp] theorem State.sessionEvent_farming : (s.sessionEvent se ty st p).farming = s.farming := by unfold State.sessionEvent; simp
@[simp] theorem State.sessionEvent_obs : (s.sessionEvent se ty st p).obs = s.obs := by unfold State.sessionEvent; simp
@[simp] theorem State.sessionEvent_hbm : (s.sessionEvent se ty st p).hbm = s.hbm := by unfold State.sessionEvent; simp
@[simp] theorem State.sessionEvent_sram : (s.sessionEvent se ty st p).sram = s.sram := by unfold State.sessionEvent; simp
@[simp] theorem State.sessionEvent_saves : (s.sessionEvent se ty st p).saves = s.saves := by unfold State.sessionEvent; simp
@[simp] theorem State.sessionEvent_free : (s.sessionEvent se ty st p).free = s.free := by unfold State.sessionEvent; simp
@[simp] theorem State.sessionEvent_pending : (s.sessionEvent se ty st p).pending = s.pending := by unfold State.sessionEvent; simp
end

section
variable (i st ca : Nat) (s : State)
@[simp] theorem State.sesTo_part : (s.sesTo i st ca).part = s.part := by unfold State.sesTo; simp
@[simp] theorem State.sesTo_flash : (s.sesTo i st ca).flash = s.flash := by unfold State.sesTo; simp
@[simp] theorem State.sesTo_aon : (s.sesTo i st ca).aon = s.aon := by unfold State.sesTo; simp
@[simp] theorem State.sesTo_mgmt : (s.sesTo i st ca).mgmt = s.mgmt := by unfold State.sesTo; simp
@[simp] theorem State.sesTo_time : (s.sesTo i st ca).time = s.time := by unfold State.sesTo; simp
@[simp] theorem State.sesTo_mbx : (s.sesTo i st ca).mbx = s.mbx := by unfold State.sesTo; simp
@[simp] theorem State.sesTo_images : (s.sesTo i st ca).images = s.images := by unfold State.sesTo; simp
@[simp] theorem State.sesTo_worlds : (s.sesTo i st ca).worlds = s.worlds := by unfold State.sesTo; simp
@[simp] theorem State.sesTo_streams : (s.sesTo i st ca).streams = s.streams := by unfold State.sesTo; simp
@[simp] theorem State.sesTo_frame : (s.sesTo i st ca).frame = s.frame := by unfold State.sesTo; simp
@[simp] theorem State.sesTo_req : (s.sesTo i st ca).req = s.req := by unfold State.sesTo; simp
@[simp] theorem State.sesTo_det : (s.sesTo i st ca).det = s.det := by unfold State.sesTo; simp
@[simp] theorem State.sesTo_safety : (s.sesTo i st ca).safety = s.safety := by unfold State.sesTo; simp
@[simp] theorem State.sesTo_boot : (s.sesTo i st ca).boot = s.boot := by unfold State.sesTo; simp
@[simp] theorem State.sesTo_errors : (s.sesTo i st ca).errors = s.errors := by unfold State.sesTo; simp
@[simp] theorem State.sesTo_fabric : (s.sesTo i st ca).fabric = s.fabric := by unfold State.sesTo; simp
@[simp] theorem State.sesTo_farming : (s.sesTo i st ca).farming = s.farming := by unfold State.sesTo; simp
@[simp] theorem State.sesTo_obs : (s.sesTo i st ca).obs = s.obs := by unfold State.sesTo; simp
@[simp] theorem State.sesTo_hbm : (s.sesTo i st ca).hbm = s.hbm := by unfold State.sesTo; simp
@[simp] theorem State.sesTo_sram : (s.sesTo i st ca).sram = s.sram := by unfold State.sesTo; simp
@[simp] theorem State.sesTo_saves : (s.sesTo i st ca).saves = s.saves := by unfold State.sesTo; simp
@[simp] theorem State.sesTo_free : (s.sesTo i st ca).free = s.free := by unfold State.sesTo; simp
@[simp] theorem State.sesTo_pending : (s.sesTo i st ca).pending = s.pending := by unfold State.sesTo; simp
end

section
variable (b so k : Nat) (bo : List Byte) (l o : Nat) (s : State)
@[simp] theorem State.trace_part : (s.trace b so k bo l o).part = s.part := by unfold State.trace; simp [State.ite_part]
@[simp] theorem State.trace_flash : (s.trace b so k bo l o).flash = s.flash := by unfold State.trace; simp [State.ite_flash]
@[simp] theorem State.trace_aon : (s.trace b so k bo l o).aon = s.aon := by unfold State.trace; simp [State.ite_aon]
@[simp] theorem State.trace_mgmt : (s.trace b so k bo l o).mgmt = s.mgmt := by unfold State.trace; simp [State.ite_mgmt]
@[simp] theorem State.trace_time : (s.trace b so k bo l o).time = s.time := by unfold State.trace; simp [State.ite_time]
@[simp] theorem State.trace_pcie : (s.trace b so k bo l o).pcie = s.pcie := by unfold State.trace; simp [State.ite_pcie]
@[simp] theorem State.trace_mbx : (s.trace b so k bo l o).mbx = s.mbx := by unfold State.trace; simp [State.ite_mbx]
@[simp] theorem State.trace_rings : (s.trace b so k bo l o).rings = s.rings := by unfold State.trace; simp [State.ite_rings]
@[simp] theorem State.trace_sessions : (s.trace b so k bo l o).sessions = s.sessions := by unfold State.trace; simp [State.ite_sessions]
@[simp] theorem State.trace_images : (s.trace b so k bo l o).images = s.images := by unfold State.trace; simp [State.ite_images]
@[simp] theorem State.trace_worlds : (s.trace b so k bo l o).worlds = s.worlds := by unfold State.trace; simp [State.ite_worlds]
@[simp] theorem State.trace_streams : (s.trace b so k bo l o).streams = s.streams := by unfold State.trace; simp [State.ite_streams]
@[simp] theorem State.trace_clusters : (s.trace b so k bo l o).clusters = s.clusters := by unfold State.trace; simp [State.ite_clusters]
@[simp] theorem State.trace_frame : (s.trace b so k bo l o).frame = s.frame := by unfold State.trace; simp [State.ite_frame]
@[simp] theorem State.trace_req : (s.trace b so k bo l o).req = s.req := by unfold State.trace; simp [State.ite_req]
@[simp] theorem State.trace_det : (s.trace b so k bo l o).det = s.det := by unfold State.trace; simp [State.ite_det]
@[simp] theorem State.trace_safety : (s.trace b so k bo l o).safety = s.safety := by unfold State.trace; simp [State.ite_safety]
@[simp] theorem State.trace_boot : (s.trace b so k bo l o).boot = s.boot := by unfold State.trace; simp [State.ite_boot]
@[simp] theorem State.trace_errors : (s.trace b so k bo l o).errors = s.errors := by unfold State.trace; simp [State.ite_errors]
@[simp] theorem State.trace_fabric : (s.trace b so k bo l o).fabric = s.fabric := by unfold State.trace; simp [State.ite_fabric]
@[simp] theorem State.trace_farming : (s.trace b so k bo l o).farming = s.farming := by unfold State.trace; simp [State.ite_farming]
@[simp] theorem State.trace_host : (s.trace b so k bo l o).host = s.host := by unfold State.trace; simp [State.ite_host]
@[simp] theorem State.trace_hbm : (s.trace b so k bo l o).hbm = s.hbm := by unfold State.trace; simp [State.ite_hbm]
@[simp] theorem State.trace_sram : (s.trace b so k bo l o).sram = s.sram := by unfold State.trace; simp [State.ite_sram]
@[simp] theorem State.trace_saves : (s.trace b so k bo l o).saves = s.saves := by unfold State.trace; simp [State.ite_saves]
@[simp] theorem State.trace_free : (s.trace b so k bo l o).free = s.free := by unfold State.trace; simp [State.ite_free]
@[simp] theorem State.trace_pending : (s.trace b so k bo l o).pending = s.pending := by unfold State.trace; simp [State.ite_pending]
end

section
variable (a o : Nat) (s : State)
@[simp] theorem State.traceTrigger_part : (s.traceTrigger a o).part = s.part := by
  unfold State.traceTrigger; exact State.foldl_keeps (·.part) _ (fun s a => by simp [State.ite_part]) _ _
@[simp] theorem State.traceTrigger_flash : (s.traceTrigger a o).flash = s.flash := by
  unfold State.traceTrigger; exact State.foldl_keeps (·.flash) _ (fun s a => by simp [State.ite_flash]) _ _
@[simp] theorem State.traceTrigger_aon : (s.traceTrigger a o).aon = s.aon := by
  unfold State.traceTrigger; exact State.foldl_keeps (·.aon) _ (fun s a => by simp [State.ite_aon]) _ _
@[simp] theorem State.traceTrigger_mgmt : (s.traceTrigger a o).mgmt = s.mgmt := by
  unfold State.traceTrigger; exact State.foldl_keeps (·.mgmt) _ (fun s a => by simp [State.ite_mgmt]) _ _
@[simp] theorem State.traceTrigger_time : (s.traceTrigger a o).time = s.time := by
  unfold State.traceTrigger; exact State.foldl_keeps (·.time) _ (fun s a => by simp [State.ite_time]) _ _
@[simp] theorem State.traceTrigger_pcie : (s.traceTrigger a o).pcie = s.pcie := by
  unfold State.traceTrigger; exact State.foldl_keeps (·.pcie) _ (fun s a => by simp [State.ite_pcie]) _ _
@[simp] theorem State.traceTrigger_mbx : (s.traceTrigger a o).mbx = s.mbx := by
  unfold State.traceTrigger; exact State.foldl_keeps (·.mbx) _ (fun s a => by simp [State.ite_mbx]) _ _
@[simp] theorem State.traceTrigger_rings : (s.traceTrigger a o).rings = s.rings := by
  unfold State.traceTrigger; exact State.foldl_keeps (·.rings) _ (fun s a => by simp [State.ite_rings]) _ _
@[simp] theorem State.traceTrigger_sessions : (s.traceTrigger a o).sessions = s.sessions := by
  unfold State.traceTrigger; exact State.foldl_keeps (·.sessions) _ (fun s a => by simp [State.ite_sessions]) _ _
@[simp] theorem State.traceTrigger_images : (s.traceTrigger a o).images = s.images := by
  unfold State.traceTrigger; exact State.foldl_keeps (·.images) _ (fun s a => by simp [State.ite_images]) _ _
@[simp] theorem State.traceTrigger_worlds : (s.traceTrigger a o).worlds = s.worlds := by
  unfold State.traceTrigger; exact State.foldl_keeps (·.worlds) _ (fun s a => by simp [State.ite_worlds]) _ _
@[simp] theorem State.traceTrigger_streams : (s.traceTrigger a o).streams = s.streams := by
  unfold State.traceTrigger; exact State.foldl_keeps (·.streams) _ (fun s a => by simp [State.ite_streams]) _ _
@[simp] theorem State.traceTrigger_clusters : (s.traceTrigger a o).clusters = s.clusters := by
  unfold State.traceTrigger; exact State.foldl_keeps (·.clusters) _ (fun s a => by simp [State.ite_clusters]) _ _
@[simp] theorem State.traceTrigger_stks : (s.traceTrigger a o).stks = s.stks := by
  unfold State.traceTrigger; exact State.foldl_keeps (·.stks) _ (fun s a => by simp [State.ite_stks]) _ _
@[simp] theorem State.traceTrigger_hub : (s.traceTrigger a o).hub = s.hub := by
  unfold State.traceTrigger; exact State.foldl_keeps (·.hub) _ (fun s a => by simp [State.ite_hub]) _ _
@[simp] theorem State.traceTrigger_frame : (s.traceTrigger a o).frame = s.frame := by
  unfold State.traceTrigger; exact State.foldl_keeps (·.frame) _ (fun s a => by simp [State.ite_frame]) _ _
@[simp] theorem State.traceTrigger_req : (s.traceTrigger a o).req = s.req := by
  unfold State.traceTrigger; exact State.foldl_keeps (·.req) _ (fun s a => by simp [State.ite_req]) _ _
@[simp] theorem State.traceTrigger_det : (s.traceTrigger a o).det = s.det := by
  unfold State.traceTrigger; exact State.foldl_keeps (·.det) _ (fun s a => by simp [State.ite_det]) _ _
@[simp] theorem State.traceTrigger_safety : (s.traceTrigger a o).safety = s.safety := by
  unfold State.traceTrigger; exact State.foldl_keeps (·.safety) _ (fun s a => by simp [State.ite_safety]) _ _
@[simp] theorem State.traceTrigger_boot : (s.traceTrigger a o).boot = s.boot := by
  unfold State.traceTrigger; exact State.foldl_keeps (·.boot) _ (fun s a => by simp [State.ite_boot]) _ _
@[simp] theorem State.traceTrigger_errors : (s.traceTrigger a o).errors = s.errors := by
  unfold State.traceTrigger; exact State.foldl_keeps (·.errors) _ (fun s a => by simp [State.ite_errors]) _ _
@[simp] theorem State.traceTrigger_fabric : (s.traceTrigger a o).fabric = s.fabric := by
  unfold State.traceTrigger; exact State.foldl_keeps (·.fabric) _ (fun s a => by simp [State.ite_fabric]) _ _
@[simp] theorem State.traceTrigger_farming : (s.traceTrigger a o).farming = s.farming := by
  unfold State.traceTrigger; exact State.foldl_keeps (·.farming) _ (fun s a => by simp [State.ite_farming]) _ _
@[simp] theorem State.traceTrigger_host : (s.traceTrigger a o).host = s.host := by
  unfold State.traceTrigger; exact State.foldl_keeps (·.host) _ (fun s a => by simp [State.ite_host]) _ _
@[simp] theorem State.traceTrigger_hbm : (s.traceTrigger a o).hbm = s.hbm := by
  unfold State.traceTrigger; exact State.foldl_keeps (·.hbm) _ (fun s a => by simp [State.ite_hbm]) _ _
@[simp] theorem State.traceTrigger_sram : (s.traceTrigger a o).sram = s.sram := by
  unfold State.traceTrigger; exact State.foldl_keeps (·.sram) _ (fun s a => by simp [State.ite_sram]) _ _
@[simp] theorem State.traceTrigger_saves : (s.traceTrigger a o).saves = s.saves := by
  unfold State.traceTrigger; exact State.foldl_keeps (·.saves) _ (fun s a => by simp [State.ite_saves]) _ _
@[simp] theorem State.traceTrigger_free : (s.traceTrigger a o).free = s.free := by
  unfold State.traceTrigger; exact State.foldl_keeps (·.free) _ (fun s a => by simp [State.ite_free]) _ _
@[simp] theorem State.traceTrigger_pending : (s.traceTrigger a o).pending = s.pending := by
  unfold State.traceTrigger; exact State.foldl_keeps (·.pending) _ (fun s a => by simp [State.ite_pending]) _ _
end

section
variable (e : Capture) (s : State)
@[simp] theorem State.capturePut_part : (s.capturePut e).part = s.part := by unfold State.capturePut; simp [State.ite_part]
@[simp] theorem State.capturePut_flash : (s.capturePut e).flash = s.flash := by unfold State.capturePut; simp [State.ite_flash]
@[simp] theorem State.capturePut_aon : (s.capturePut e).aon = s.aon := by unfold State.capturePut; simp [State.ite_aon]
@[simp] theorem State.capturePut_mgmt : (s.capturePut e).mgmt = s.mgmt := by unfold State.capturePut; simp [State.ite_mgmt]
@[simp] theorem State.capturePut_time : (s.capturePut e).time = s.time := by unfold State.capturePut; simp [State.ite_time]
@[simp] theorem State.capturePut_pcie : (s.capturePut e).pcie = s.pcie := by unfold State.capturePut; simp [State.ite_pcie]
@[simp] theorem State.capturePut_mbx : (s.capturePut e).mbx = s.mbx := by unfold State.capturePut; simp [State.ite_mbx]
@[simp] theorem State.capturePut_rings : (s.capturePut e).rings = s.rings := by unfold State.capturePut; simp [State.ite_rings]
@[simp] theorem State.capturePut_sessions : (s.capturePut e).sessions = s.sessions := by unfold State.capturePut; simp [State.ite_sessions]
@[simp] theorem State.capturePut_images : (s.capturePut e).images = s.images := by unfold State.capturePut; simp [State.ite_images]
@[simp] theorem State.capturePut_worlds : (s.capturePut e).worlds = s.worlds := by unfold State.capturePut; simp [State.ite_worlds]
@[simp] theorem State.capturePut_streams : (s.capturePut e).streams = s.streams := by unfold State.capturePut; simp [State.ite_streams]
@[simp] theorem State.capturePut_clusters : (s.capturePut e).clusters = s.clusters := by unfold State.capturePut; simp [State.ite_clusters]
@[simp] theorem State.capturePut_stks : (s.capturePut e).stks = s.stks := by unfold State.capturePut; simp [State.ite_stks]
@[simp] theorem State.capturePut_hub : (s.capturePut e).hub = s.hub := by unfold State.capturePut; simp [State.ite_hub]
@[simp] theorem State.capturePut_frame : (s.capturePut e).frame = s.frame := by unfold State.capturePut; simp [State.ite_frame]
@[simp] theorem State.capturePut_req : (s.capturePut e).req = s.req := by unfold State.capturePut; simp [State.ite_req]
@[simp] theorem State.capturePut_safety : (s.capturePut e).safety = s.safety := by unfold State.capturePut; simp [State.ite_safety]
@[simp] theorem State.capturePut_boot : (s.capturePut e).boot = s.boot := by unfold State.capturePut; simp [State.ite_boot]
@[simp] theorem State.capturePut_errors : (s.capturePut e).errors = s.errors := by unfold State.capturePut; simp [State.ite_errors]
@[simp] theorem State.capturePut_fabric : (s.capturePut e).fabric = s.fabric := by unfold State.capturePut; simp [State.ite_fabric]
@[simp] theorem State.capturePut_farming : (s.capturePut e).farming = s.farming := by unfold State.capturePut; simp [State.ite_farming]
@[simp] theorem State.capturePut_obs : (s.capturePut e).obs = s.obs := by unfold State.capturePut; simp [State.ite_obs]
@[simp] theorem State.capturePut_host : (s.capturePut e).host = s.host := by unfold State.capturePut; simp [State.ite_host]
@[simp] theorem State.capturePut_hbm : (s.capturePut e).hbm = s.hbm := by unfold State.capturePut; simp [State.ite_hbm]
@[simp] theorem State.capturePut_sram : (s.capturePut e).sram = s.sram := by unfold State.capturePut; simp [State.ite_sram]
@[simp] theorem State.capturePut_saves : (s.capturePut e).saves = s.saves := by unfold State.capturePut; simp [State.ite_saves]
@[simp] theorem State.capturePut_free : (s.capturePut e).free = s.free := by unfold State.capturePut; simp [State.ite_free]
@[simp] theorem State.capturePut_pending : (s.capturePut e).pending = s.pending := by unfold State.capturePut; simp [State.ite_pending]
end

section
variable (k so sl w : Nat) (a : Nat) (p : List Byte) (s : State)
@[simp] theorem State.capture_part : (s.capture k so sl w a p).part = s.part := by unfold State.capture; simp
@[simp] theorem State.capture_flash : (s.capture k so sl w a p).flash = s.flash := by unfold State.capture; simp
@[simp] theorem State.capture_aon : (s.capture k so sl w a p).aon = s.aon := by unfold State.capture; simp
@[simp] theorem State.capture_mgmt : (s.capture k so sl w a p).mgmt = s.mgmt := by unfold State.capture; simp
@[simp] theorem State.capture_time : (s.capture k so sl w a p).time = s.time := by unfold State.capture; simp
@[simp] theorem State.capture_pcie : (s.capture k so sl w a p).pcie = s.pcie := by unfold State.capture; simp
@[simp] theorem State.capture_mbx : (s.capture k so sl w a p).mbx = s.mbx := by unfold State.capture; simp
@[simp] theorem State.capture_rings : (s.capture k so sl w a p).rings = s.rings := by unfold State.capture; simp
@[simp] theorem State.capture_sessions : (s.capture k so sl w a p).sessions = s.sessions := by unfold State.capture; simp
@[simp] theorem State.capture_images : (s.capture k so sl w a p).images = s.images := by unfold State.capture; simp
@[simp] theorem State.capture_worlds : (s.capture k so sl w a p).worlds = s.worlds := by unfold State.capture; simp
@[simp] theorem State.capture_streams : (s.capture k so sl w a p).streams = s.streams := by unfold State.capture; simp
@[simp] theorem State.capture_clusters : (s.capture k so sl w a p).clusters = s.clusters := by unfold State.capture; simp
@[simp] theorem State.capture_stks : (s.capture k so sl w a p).stks = s.stks := by unfold State.capture; simp
@[simp] theorem State.capture_hub : (s.capture k so sl w a p).hub = s.hub := by unfold State.capture; simp
@[simp] theorem State.capture_frame : (s.capture k so sl w a p).frame = s.frame := by unfold State.capture; simp
@[simp] theorem State.capture_req : (s.capture k so sl w a p).req = s.req := by unfold State.capture; simp
@[simp] theorem State.capture_safety : (s.capture k so sl w a p).safety = s.safety := by unfold State.capture; simp
@[simp] theorem State.capture_boot : (s.capture k so sl w a p).boot = s.boot := by unfold State.capture; simp
@[simp] theorem State.capture_errors : (s.capture k so sl w a p).errors = s.errors := by unfold State.capture; simp
@[simp] theorem State.capture_fabric : (s.capture k so sl w a p).fabric = s.fabric := by unfold State.capture; simp
@[simp] theorem State.capture_farming : (s.capture k so sl w a p).farming = s.farming := by unfold State.capture; simp
@[simp] theorem State.capture_obs : (s.capture k so sl w a p).obs = s.obs := by unfold State.capture; simp
@[simp] theorem State.capture_host : (s.capture k so sl w a p).host = s.host := by unfold State.capture; simp
@[simp] theorem State.capture_hbm : (s.capture k so sl w a p).hbm = s.hbm := by unfold State.capture; simp
@[simp] theorem State.capture_sram : (s.capture k so sl w a p).sram = s.sram := by unfold State.capture; simp
@[simp] theorem State.capture_saves : (s.capture k so sl w a p).saves = s.saves := by unfold State.capture; simp
@[simp] theorem State.capture_free : (s.capture k so sl w a p).free = s.free := by unfold State.capture; simp
@[simp] theorem State.capture_pending : (s.capture k so sl w a p).pending = s.pending := by unfold State.capture; simp
end

section
variable (ph l o st i : Nat) (b : List Byte) (s : State)
@[simp] theorem State.opDigest_part : (s.opDigest ph l o st i b).part = s.part := by unfold State.opDigest; simp [State.ite_part]
@[simp] theorem State.opDigest_flash : (s.opDigest ph l o st i b).flash = s.flash := by unfold State.opDigest; simp [State.ite_flash]
@[simp] theorem State.opDigest_aon : (s.opDigest ph l o st i b).aon = s.aon := by unfold State.opDigest; simp [State.ite_aon]
@[simp] theorem State.opDigest_mgmt : (s.opDigest ph l o st i b).mgmt = s.mgmt := by unfold State.opDigest; simp [State.ite_mgmt]
@[simp] theorem State.opDigest_time : (s.opDigest ph l o st i b).time = s.time := by unfold State.opDigest; simp [State.ite_time]
@[simp] theorem State.opDigest_pcie : (s.opDigest ph l o st i b).pcie = s.pcie := by unfold State.opDigest; simp [State.ite_pcie]
@[simp] theorem State.opDigest_mbx : (s.opDigest ph l o st i b).mbx = s.mbx := by unfold State.opDigest; simp [State.ite_mbx]
@[simp] theorem State.opDigest_rings : (s.opDigest ph l o st i b).rings = s.rings := by unfold State.opDigest; simp [State.ite_rings]
@[simp] theorem State.opDigest_sessions : (s.opDigest ph l o st i b).sessions = s.sessions := by unfold State.opDigest; simp [State.ite_sessions]
@[simp] theorem State.opDigest_images : (s.opDigest ph l o st i b).images = s.images := by unfold State.opDigest; simp [State.ite_images]
@[simp] theorem State.opDigest_worlds : (s.opDigest ph l o st i b).worlds = s.worlds := by unfold State.opDigest; simp [State.ite_worlds]
@[simp] theorem State.opDigest_streams : (s.opDigest ph l o st i b).streams = s.streams := by unfold State.opDigest; simp [State.ite_streams]
@[simp] theorem State.opDigest_clusters : (s.opDigest ph l o st i b).clusters = s.clusters := by unfold State.opDigest; simp [State.ite_clusters]
@[simp] theorem State.opDigest_stks : (s.opDigest ph l o st i b).stks = s.stks := by unfold State.opDigest; simp [State.ite_stks]
@[simp] theorem State.opDigest_hub : (s.opDigest ph l o st i b).hub = s.hub := by unfold State.opDigest; simp [State.ite_hub]
@[simp] theorem State.opDigest_frame : (s.opDigest ph l o st i b).frame = s.frame := by unfold State.opDigest; simp [State.ite_frame]
@[simp] theorem State.opDigest_req : (s.opDigest ph l o st i b).req = s.req := by unfold State.opDigest; simp [State.ite_req]
@[simp] theorem State.opDigest_safety : (s.opDigest ph l o st i b).safety = s.safety := by unfold State.opDigest; simp [State.ite_safety]
@[simp] theorem State.opDigest_boot : (s.opDigest ph l o st i b).boot = s.boot := by unfold State.opDigest; simp [State.ite_boot]
@[simp] theorem State.opDigest_errors : (s.opDigest ph l o st i b).errors = s.errors := by unfold State.opDigest; simp [State.ite_errors]
@[simp] theorem State.opDigest_fabric : (s.opDigest ph l o st i b).fabric = s.fabric := by unfold State.opDigest; simp [State.ite_fabric]
@[simp] theorem State.opDigest_farming : (s.opDigest ph l o st i b).farming = s.farming := by unfold State.opDigest; simp [State.ite_farming]
@[simp] theorem State.opDigest_obs : (s.opDigest ph l o st i b).obs = s.obs := by unfold State.opDigest; simp [State.ite_obs]
@[simp] theorem State.opDigest_host : (s.opDigest ph l o st i b).host = s.host := by unfold State.opDigest; simp [State.ite_host]
@[simp] theorem State.opDigest_hbm : (s.opDigest ph l o st i b).hbm = s.hbm := by unfold State.opDigest; simp [State.ite_hbm]
@[simp] theorem State.opDigest_sram : (s.opDigest ph l o st i b).sram = s.sram := by unfold State.opDigest; simp [State.ite_sram]
@[simp] theorem State.opDigest_saves : (s.opDigest ph l o st i b).saves = s.saves := by unfold State.opDigest; simp [State.ite_saves]
@[simp] theorem State.opDigest_free : (s.opDigest ph l o st i b).free = s.free := by unfold State.opDigest; simp [State.ite_free]
@[simp] theorem State.opDigest_pending : (s.opDigest ph l o st i b).pending = s.pending := by unfold State.opDigest; simp [State.ite_pending]
end

section
variable (a b c d : Nat) (s : State)
@[simp] theorem State.timingEvent_part : (s.timingEvent a b c d).part = s.part := by unfold State.timingEvent; simp [State.ite_part]
@[simp] theorem State.timingEvent_flash : (s.timingEvent a b c d).flash = s.flash := by unfold State.timingEvent; simp [State.ite_flash]
@[simp] theorem State.timingEvent_aon : (s.timingEvent a b c d).aon = s.aon := by unfold State.timingEvent; simp [State.ite_aon]
@[simp] theorem State.timingEvent_mgmt : (s.timingEvent a b c d).mgmt = s.mgmt := by unfold State.timingEvent; simp [State.ite_mgmt]
@[simp] theorem State.timingEvent_time : (s.timingEvent a b c d).time = s.time := by unfold State.timingEvent; simp [State.ite_time]
@[simp] theorem State.timingEvent_pcie : (s.timingEvent a b c d).pcie = s.pcie := by unfold State.timingEvent; simp [State.ite_pcie]
@[simp] theorem State.timingEvent_mbx : (s.timingEvent a b c d).mbx = s.mbx := by unfold State.timingEvent; simp [State.ite_mbx]
@[simp] theorem State.timingEvent_rings : (s.timingEvent a b c d).rings = s.rings := by unfold State.timingEvent; simp [State.ite_rings]
@[simp] theorem State.timingEvent_sessions : (s.timingEvent a b c d).sessions = s.sessions := by unfold State.timingEvent; simp [State.ite_sessions]
@[simp] theorem State.timingEvent_images : (s.timingEvent a b c d).images = s.images := by unfold State.timingEvent; simp [State.ite_images]
@[simp] theorem State.timingEvent_worlds : (s.timingEvent a b c d).worlds = s.worlds := by unfold State.timingEvent; simp [State.ite_worlds]
@[simp] theorem State.timingEvent_streams : (s.timingEvent a b c d).streams = s.streams := by unfold State.timingEvent; simp [State.ite_streams]
@[simp] theorem State.timingEvent_clusters : (s.timingEvent a b c d).clusters = s.clusters := by unfold State.timingEvent; simp [State.ite_clusters]
@[simp] theorem State.timingEvent_stks : (s.timingEvent a b c d).stks = s.stks := by unfold State.timingEvent; simp [State.ite_stks]
@[simp] theorem State.timingEvent_hub : (s.timingEvent a b c d).hub = s.hub := by unfold State.timingEvent; simp [State.ite_hub]
@[simp] theorem State.timingEvent_req : (s.timingEvent a b c d).req = s.req := by unfold State.timingEvent; simp [State.ite_req]
@[simp] theorem State.timingEvent_safety : (s.timingEvent a b c d).safety = s.safety := by unfold State.timingEvent; simp [State.ite_safety]
@[simp] theorem State.timingEvent_boot : (s.timingEvent a b c d).boot = s.boot := by unfold State.timingEvent; simp [State.ite_boot]
@[simp] theorem State.timingEvent_errors : (s.timingEvent a b c d).errors = s.errors := by unfold State.timingEvent; simp [State.ite_errors]
@[simp] theorem State.timingEvent_fabric : (s.timingEvent a b c d).fabric = s.fabric := by unfold State.timingEvent; simp [State.ite_fabric]
@[simp] theorem State.timingEvent_farming : (s.timingEvent a b c d).farming = s.farming := by unfold State.timingEvent; simp [State.ite_farming]
@[simp] theorem State.timingEvent_obs : (s.timingEvent a b c d).obs = s.obs := by unfold State.timingEvent; simp [State.ite_obs]
@[simp] theorem State.timingEvent_host : (s.timingEvent a b c d).host = s.host := by unfold State.timingEvent; simp [State.ite_host]
@[simp] theorem State.timingEvent_hbm : (s.timingEvent a b c d).hbm = s.hbm := by unfold State.timingEvent; simp [State.ite_hbm]
@[simp] theorem State.timingEvent_sram : (s.timingEvent a b c d).sram = s.sram := by unfold State.timingEvent; simp [State.ite_sram]
@[simp] theorem State.timingEvent_saves : (s.timingEvent a b c d).saves = s.saves := by unfold State.timingEvent; simp [State.ite_saves]
@[simp] theorem State.timingEvent_free : (s.timingEvent a b c d).free = s.free := by unfold State.timingEvent; simp [State.ite_free]
@[simp] theorem State.timingEvent_pending : (s.timingEvent a b c d).pending = s.pending := by unfold State.timingEvent; simp [State.ite_pending]
end

section
variable (a b c d e f : Nat) (s : State)
@[simp] theorem State.logError_part : (s.logError a b c d e f).part = s.part := rfl
@[simp] theorem State.logError_flash : (s.logError a b c d e f).flash = s.flash := rfl
@[simp] theorem State.logError_aon : (s.logError a b c d e f).aon = s.aon := rfl
@[simp] theorem State.logError_mgmt : (s.logError a b c d e f).mgmt = s.mgmt := rfl
@[simp] theorem State.logError_time : (s.logError a b c d e f).time = s.time := rfl
@[simp] theorem State.logError_pcie : (s.logError a b c d e f).pcie = s.pcie := rfl
@[simp] theorem State.logError_mbx : (s.logError a b c d e f).mbx = s.mbx := rfl
@[simp] theorem State.logError_rings : (s.logError a b c d e f).rings = s.rings := rfl
@[simp] theorem State.logError_sessions : (s.logError a b c d e f).sessions = s.sessions := rfl
@[simp] theorem State.logError_images : (s.logError a b c d e f).images = s.images := rfl
@[simp] theorem State.logError_worlds : (s.logError a b c d e f).worlds = s.worlds := rfl
@[simp] theorem State.logError_streams : (s.logError a b c d e f).streams = s.streams := rfl
@[simp] theorem State.logError_clusters : (s.logError a b c d e f).clusters = s.clusters := rfl
@[simp] theorem State.logError_stks : (s.logError a b c d e f).stks = s.stks := rfl
@[simp] theorem State.logError_hub : (s.logError a b c d e f).hub = s.hub := rfl
@[simp] theorem State.logError_frame : (s.logError a b c d e f).frame = s.frame := rfl
@[simp] theorem State.logError_req : (s.logError a b c d e f).req = s.req := rfl
@[simp] theorem State.logError_det : (s.logError a b c d e f).det = s.det := rfl
@[simp] theorem State.logError_safety : (s.logError a b c d e f).safety = s.safety := rfl
@[simp] theorem State.logError_boot : (s.logError a b c d e f).boot = s.boot := rfl
@[simp] theorem State.logError_fabric : (s.logError a b c d e f).fabric = s.fabric := rfl
@[simp] theorem State.logError_farming : (s.logError a b c d e f).farming = s.farming := rfl
@[simp] theorem State.logError_obs : (s.logError a b c d e f).obs = s.obs := rfl
@[simp] theorem State.logError_host : (s.logError a b c d e f).host = s.host := rfl
@[simp] theorem State.logError_hbm : (s.logError a b c d e f).hbm = s.hbm := rfl
@[simp] theorem State.logError_sram : (s.logError a b c d e f).sram = s.sram := rfl
@[simp] theorem State.logError_saves : (s.logError a b c d e f).saves = s.saves := rfl
@[simp] theorem State.logError_free : (s.logError a b c d e f).free = s.free := rfl
@[simp] theorem State.logError_pending : (s.logError a b c d e f).pending = s.pending := rfl
end

section
variable (a b c d e : Nat) (p : List Byte) (s : State)
@[simp] theorem State.traceError_part : (s.traceError a b c d e p).part = s.part := by unfold State.traceError; simp [State.ite_part]
@[simp] theorem State.traceError_flash : (s.traceError a b c d e p).flash = s.flash := by unfold State.traceError; simp [State.ite_flash]
@[simp] theorem State.traceError_aon : (s.traceError a b c d e p).aon = s.aon := by unfold State.traceError; simp [State.ite_aon]
@[simp] theorem State.traceError_mgmt : (s.traceError a b c d e p).mgmt = s.mgmt := by unfold State.traceError; simp [State.ite_mgmt]
@[simp] theorem State.traceError_time : (s.traceError a b c d e p).time = s.time := by unfold State.traceError; simp [State.ite_time]
@[simp] theorem State.traceError_pcie : (s.traceError a b c d e p).pcie = s.pcie := by unfold State.traceError; simp [State.ite_pcie]
@[simp] theorem State.traceError_mbx : (s.traceError a b c d e p).mbx = s.mbx := by unfold State.traceError; simp [State.ite_mbx]
@[simp] theorem State.traceError_rings : (s.traceError a b c d e p).rings = s.rings := by unfold State.traceError; simp [State.ite_rings]
@[simp] theorem State.traceError_sessions : (s.traceError a b c d e p).sessions = s.sessions := by unfold State.traceError; simp [State.ite_sessions]
@[simp] theorem State.traceError_images : (s.traceError a b c d e p).images = s.images := by unfold State.traceError; simp [State.ite_images]
@[simp] theorem State.traceError_worlds : (s.traceError a b c d e p).worlds = s.worlds := by unfold State.traceError; simp [State.ite_worlds]
@[simp] theorem State.traceError_streams : (s.traceError a b c d e p).streams = s.streams := by unfold State.traceError; simp [State.ite_streams]
@[simp] theorem State.traceError_clusters : (s.traceError a b c d e p).clusters = s.clusters := by unfold State.traceError; simp [State.ite_clusters]
@[simp] theorem State.traceError_frame : (s.traceError a b c d e p).frame = s.frame := by unfold State.traceError; simp [State.ite_frame]
@[simp] theorem State.traceError_req : (s.traceError a b c d e p).req = s.req := by unfold State.traceError; simp [State.ite_req]
@[simp] theorem State.traceError_det : (s.traceError a b c d e p).det = s.det := by unfold State.traceError; simp [State.ite_det]
@[simp] theorem State.traceError_safety : (s.traceError a b c d e p).safety = s.safety := by unfold State.traceError; simp [State.ite_safety]
@[simp] theorem State.traceError_boot : (s.traceError a b c d e p).boot = s.boot := by unfold State.traceError; simp [State.ite_boot]
@[simp] theorem State.traceError_errors : (s.traceError a b c d e p).errors = s.errors := by unfold State.traceError; simp [State.ite_errors]
@[simp] theorem State.traceError_fabric : (s.traceError a b c d e p).fabric = s.fabric := by unfold State.traceError; simp [State.ite_fabric]
@[simp] theorem State.traceError_farming : (s.traceError a b c d e p).farming = s.farming := by unfold State.traceError; simp [State.ite_farming]
@[simp] theorem State.traceError_host : (s.traceError a b c d e p).host = s.host := by unfold State.traceError; simp [State.ite_host]
@[simp] theorem State.traceError_hbm : (s.traceError a b c d e p).hbm = s.hbm := by unfold State.traceError; simp [State.ite_hbm]
@[simp] theorem State.traceError_sram : (s.traceError a b c d e p).sram = s.sram := by unfold State.traceError; simp [State.ite_sram]
@[simp] theorem State.traceError_saves : (s.traceError a b c d e p).saves = s.saves := by unfold State.traceError; simp [State.ite_saves]
@[simp] theorem State.traceError_free : (s.traceError a b c d e p).free = s.free := by unfold State.traceError; simp [State.ite_free]
@[simp] theorem State.traceError_pending : (s.traceError a b c d e p).pending = s.pending := by unfold State.traceError; simp [State.ite_pending]
end

section
variable (a b c : Nat) (p : List Byte) (s : State)
@[simp] theorem State.warn_part : (s.warn a b c p).part = s.part := by unfold State.warn; simp
@[simp] theorem State.warn_flash : (s.warn a b c p).flash = s.flash := by unfold State.warn; simp
@[simp] theorem State.warn_aon : (s.warn a b c p).aon = s.aon := by unfold State.warn; simp
@[simp] theorem State.warn_mgmt : (s.warn a b c p).mgmt = s.mgmt := by unfold State.warn; simp
@[simp] theorem State.warn_time : (s.warn a b c p).time = s.time := by unfold State.warn; simp
@[simp] theorem State.warn_mbx : (s.warn a b c p).mbx = s.mbx := by unfold State.warn; simp
@[simp] theorem State.warn_images : (s.warn a b c p).images = s.images := by unfold State.warn; simp
@[simp] theorem State.warn_worlds : (s.warn a b c p).worlds = s.worlds := by unfold State.warn; simp
@[simp] theorem State.warn_streams : (s.warn a b c p).streams = s.streams := by unfold State.warn; simp
@[simp] theorem State.warn_frame : (s.warn a b c p).frame = s.frame := by unfold State.warn; simp
@[simp] theorem State.warn_req : (s.warn a b c p).req = s.req := by unfold State.warn; simp
@[simp] theorem State.warn_det : (s.warn a b c p).det = s.det := by unfold State.warn; simp
@[simp] theorem State.warn_safety : (s.warn a b c p).safety = s.safety := by unfold State.warn; simp
@[simp] theorem State.warn_boot : (s.warn a b c p).boot = s.boot := by unfold State.warn; simp
@[simp] theorem State.warn_errors : (s.warn a b c p).errors = s.errors := by unfold State.warn; simp
@[simp] theorem State.warn_fabric : (s.warn a b c p).fabric = s.fabric := by unfold State.warn; simp
@[simp] theorem State.warn_farming : (s.warn a b c p).farming = s.farming := by unfold State.warn; simp
@[simp] theorem State.warn_obs : (s.warn a b c p).obs = s.obs := by unfold State.warn; simp
@[simp] theorem State.warn_hbm : (s.warn a b c p).hbm = s.hbm := by unfold State.warn; simp
@[simp] theorem State.warn_sram : (s.warn a b c p).sram = s.sram := by unfold State.warn; simp
@[simp] theorem State.warn_saves : (s.warn a b c p).saves = s.saves := by unfold State.warn; simp
@[simp] theorem State.warn_free : (s.warn a b c p).free = s.free := by unfold State.warn; simp
@[simp] theorem State.warn_pending : (s.warn a b c p).pending = s.pending := by unfold State.warn; simp
end

section
variable (a : Nat) (p : List Byte) (s : State)
@[simp] theorem State.warnFree_part : (s.warnFree a p).part = s.part := by unfold State.warnFree; simp
@[simp] theorem State.warnFree_flash : (s.warnFree a p).flash = s.flash := by unfold State.warnFree; simp
@[simp] theorem State.warnFree_aon : (s.warnFree a p).aon = s.aon := by unfold State.warnFree; simp
@[simp] theorem State.warnFree_mgmt : (s.warnFree a p).mgmt = s.mgmt := by unfold State.warnFree; simp
@[simp] theorem State.warnFree_time : (s.warnFree a p).time = s.time := by unfold State.warnFree; simp
@[simp] theorem State.warnFree_mbx : (s.warnFree a p).mbx = s.mbx := by unfold State.warnFree; simp
@[simp] theorem State.warnFree_images : (s.warnFree a p).images = s.images := by unfold State.warnFree; simp
@[simp] theorem State.warnFree_worlds : (s.warnFree a p).worlds = s.worlds := by unfold State.warnFree; simp
@[simp] theorem State.warnFree_streams : (s.warnFree a p).streams = s.streams := by unfold State.warnFree; simp
@[simp] theorem State.warnFree_frame : (s.warnFree a p).frame = s.frame := by unfold State.warnFree; simp
@[simp] theorem State.warnFree_req : (s.warnFree a p).req = s.req := by unfold State.warnFree; simp
@[simp] theorem State.warnFree_det : (s.warnFree a p).det = s.det := by unfold State.warnFree; simp
@[simp] theorem State.warnFree_safety : (s.warnFree a p).safety = s.safety := by unfold State.warnFree; simp
@[simp] theorem State.warnFree_boot : (s.warnFree a p).boot = s.boot := by unfold State.warnFree; simp
@[simp] theorem State.warnFree_errors : (s.warnFree a p).errors = s.errors := by unfold State.warnFree; simp
@[simp] theorem State.warnFree_fabric : (s.warnFree a p).fabric = s.fabric := by unfold State.warnFree; simp
@[simp] theorem State.warnFree_farming : (s.warnFree a p).farming = s.farming := by unfold State.warnFree; simp
@[simp] theorem State.warnFree_obs : (s.warnFree a p).obs = s.obs := by unfold State.warnFree; simp
@[simp] theorem State.warnFree_hbm : (s.warnFree a p).hbm = s.hbm := by unfold State.warnFree; simp
@[simp] theorem State.warnFree_sram : (s.warnFree a p).sram = s.sram := by unfold State.warnFree; simp
@[simp] theorem State.warnFree_saves : (s.warnFree a p).saves = s.saves := by unfold State.warnFree; simp
@[simp] theorem State.warnFree_pending : (s.warnFree a p).pending = s.pending := by unfold State.warnFree; simp
end

section
variable (a b c d e : Nat) (q : Bool) (s : State)
@[simp] theorem State.contained_part : (s.contained a b c d e q).part = s.part := by unfold State.contained; simp [State.ite_part]
@[simp] theorem State.contained_flash : (s.contained a b c d e q).flash = s.flash := by unfold State.contained; simp [State.ite_flash]
@[simp] theorem State.contained_aon : (s.contained a b c d e q).aon = s.aon := by unfold State.contained; simp [State.ite_aon]
@[simp] theorem State.contained_mgmt : (s.contained a b c d e q).mgmt = s.mgmt := by unfold State.contained; simp [State.ite_mgmt]
@[simp] theorem State.contained_time : (s.contained a b c d e q).time = s.time := by unfold State.contained; simp [State.ite_time]
@[simp] theorem State.contained_mbx : (s.contained a b c d e q).mbx = s.mbx := by unfold State.contained; simp [State.ite_mbx]
@[simp] theorem State.contained_images : (s.contained a b c d e q).images = s.images := by unfold State.contained; simp [State.ite_images]
@[simp] theorem State.contained_worlds : (s.contained a b c d e q).worlds = s.worlds := by unfold State.contained; simp [State.ite_worlds]
@[simp] theorem State.contained_streams : (s.contained a b c d e q).streams = s.streams := by unfold State.contained; simp [State.ite_streams]
@[simp] theorem State.contained_frame : (s.contained a b c d e q).frame = s.frame := by unfold State.contained; simp [State.ite_frame]
@[simp] theorem State.contained_req : (s.contained a b c d e q).req = s.req := by unfold State.contained; simp [State.ite_req]
@[simp] theorem State.contained_det : (s.contained a b c d e q).det = s.det := by unfold State.contained; simp [State.ite_det]
@[simp] theorem State.contained_safety : (s.contained a b c d e q).safety = s.safety := by unfold State.contained; simp [State.ite_safety]
@[simp] theorem State.contained_boot : (s.contained a b c d e q).boot = s.boot := by unfold State.contained; simp [State.ite_boot]
@[simp] theorem State.contained_fabric : (s.contained a b c d e q).fabric = s.fabric := by unfold State.contained; simp [State.ite_fabric]
@[simp] theorem State.contained_farming : (s.contained a b c d e q).farming = s.farming := by unfold State.contained; simp [State.ite_farming]
@[simp] theorem State.contained_hbm : (s.contained a b c d e q).hbm = s.hbm := by unfold State.contained; simp [State.ite_hbm]
@[simp] theorem State.contained_sram : (s.contained a b c d e q).sram = s.sram := by unfold State.contained; simp [State.ite_sram]
@[simp] theorem State.contained_saves : (s.contained a b c d e q).saves = s.saves := by unfold State.contained; simp [State.ite_saves]
@[simp] theorem State.contained_free : (s.contained a b c d e q).free = s.free := by unfold State.contained; simp [State.ite_free]
@[simp] theorem State.contained_pending : (s.contained a b c d e q).pending = s.pending := by unfold State.contained; simp [State.ite_pending]
end

section
variable (a : Nat) (s : State)
@[simp] theorem State.triggerDump_part : (s.triggerDump a).part = s.part := by
  rcases hw : s.errors.dump.writing with _ | w <;> simp [State.triggerDump, hw, State.ite_part]
@[simp] theorem State.triggerDump_flash : (s.triggerDump a).flash = s.flash := by
  rcases hw : s.errors.dump.writing with _ | w <;> simp [State.triggerDump, hw, State.ite_flash]
@[simp] theorem State.triggerDump_aon : (s.triggerDump a).aon = s.aon := by
  rcases hw : s.errors.dump.writing with _ | w <;> simp [State.triggerDump, hw, State.ite_aon]
@[simp] theorem State.triggerDump_mgmt : (s.triggerDump a).mgmt = s.mgmt := by
  rcases hw : s.errors.dump.writing with _ | w <;> simp [State.triggerDump, hw, State.ite_mgmt]
@[simp] theorem State.triggerDump_time : (s.triggerDump a).time = s.time := by
  rcases hw : s.errors.dump.writing with _ | w <;> simp [State.triggerDump, hw, State.ite_time]
@[simp] theorem State.triggerDump_mbx : (s.triggerDump a).mbx = s.mbx := by
  rcases hw : s.errors.dump.writing with _ | w <;> simp [State.triggerDump, hw, State.ite_mbx]
@[simp] theorem State.triggerDump_images : (s.triggerDump a).images = s.images := by
  rcases hw : s.errors.dump.writing with _ | w <;> simp [State.triggerDump, hw, State.ite_images]
@[simp] theorem State.triggerDump_worlds : (s.triggerDump a).worlds = s.worlds := by
  rcases hw : s.errors.dump.writing with _ | w <;> simp [State.triggerDump, hw, State.ite_worlds]
@[simp] theorem State.triggerDump_streams : (s.triggerDump a).streams = s.streams := by
  rcases hw : s.errors.dump.writing with _ | w <;> simp [State.triggerDump, hw, State.ite_streams]
@[simp] theorem State.triggerDump_frame : (s.triggerDump a).frame = s.frame := by
  rcases hw : s.errors.dump.writing with _ | w <;> simp [State.triggerDump, hw, State.ite_frame]
@[simp] theorem State.triggerDump_req : (s.triggerDump a).req = s.req := by
  rcases hw : s.errors.dump.writing with _ | w <;> simp [State.triggerDump, hw, State.ite_req]
@[simp] theorem State.triggerDump_det : (s.triggerDump a).det = s.det := by
  rcases hw : s.errors.dump.writing with _ | w <;> simp [State.triggerDump, hw, State.ite_det]
@[simp] theorem State.triggerDump_safety : (s.triggerDump a).safety = s.safety := by
  rcases hw : s.errors.dump.writing with _ | w <;> simp [State.triggerDump, hw, State.ite_safety]
@[simp] theorem State.triggerDump_boot : (s.triggerDump a).boot = s.boot := by
  rcases hw : s.errors.dump.writing with _ | w <;> simp [State.triggerDump, hw, State.ite_boot]
@[simp] theorem State.triggerDump_fabric : (s.triggerDump a).fabric = s.fabric := by
  rcases hw : s.errors.dump.writing with _ | w <;> simp [State.triggerDump, hw, State.ite_fabric]
@[simp] theorem State.triggerDump_farming : (s.triggerDump a).farming = s.farming := by
  rcases hw : s.errors.dump.writing with _ | w <;> simp [State.triggerDump, hw, State.ite_farming]
@[simp] theorem State.triggerDump_obs : (s.triggerDump a).obs = s.obs := by
  rcases hw : s.errors.dump.writing with _ | w <;> simp [State.triggerDump, hw, State.ite_obs]
@[simp] theorem State.triggerDump_hbm : (s.triggerDump a).hbm = s.hbm := by
  rcases hw : s.errors.dump.writing with _ | w <;> simp [State.triggerDump, hw, State.ite_hbm]
@[simp] theorem State.triggerDump_sram : (s.triggerDump a).sram = s.sram := by
  rcases hw : s.errors.dump.writing with _ | w <;> simp [State.triggerDump, hw, State.ite_sram]
@[simp] theorem State.triggerDump_saves : (s.triggerDump a).saves = s.saves := by
  rcases hw : s.errors.dump.writing with _ | w <;> simp [State.triggerDump, hw, State.ite_saves]
@[simp] theorem State.triggerDump_free : (s.triggerDump a).free = s.free := by
  rcases hw : s.errors.dump.writing with _ | w <;> simp [State.triggerDump, hw, State.ite_free]
@[simp] theorem State.triggerDump_pending : (s.triggerDump a).pending = s.pending := by
  rcases hw : s.errors.dump.writing with _ | w <;> simp [State.triggerDump, hw, State.ite_pending]
end

section
variable (a : Nat) (s : State)
@[simp] theorem State.dropWaiting_part : (s.dropWaiting a).part = s.part := rfl
@[simp] theorem State.dropWaiting_flash : (s.dropWaiting a).flash = s.flash := rfl
@[simp] theorem State.dropWaiting_aon : (s.dropWaiting a).aon = s.aon := rfl
@[simp] theorem State.dropWaiting_mgmt : (s.dropWaiting a).mgmt = s.mgmt := rfl
@[simp] theorem State.dropWaiting_time : (s.dropWaiting a).time = s.time := rfl
@[simp] theorem State.dropWaiting_pcie : (s.dropWaiting a).pcie = s.pcie := rfl
@[simp] theorem State.dropWaiting_rings : (s.dropWaiting a).rings = s.rings := rfl
@[simp] theorem State.dropWaiting_sessions : (s.dropWaiting a).sessions = s.sessions := rfl
@[simp] theorem State.dropWaiting_images : (s.dropWaiting a).images = s.images := rfl
@[simp] theorem State.dropWaiting_worlds : (s.dropWaiting a).worlds = s.worlds := rfl
@[simp] theorem State.dropWaiting_streams : (s.dropWaiting a).streams = s.streams := rfl
@[simp] theorem State.dropWaiting_clusters : (s.dropWaiting a).clusters = s.clusters := rfl
@[simp] theorem State.dropWaiting_stks : (s.dropWaiting a).stks = s.stks := rfl
@[simp] theorem State.dropWaiting_hub : (s.dropWaiting a).hub = s.hub := rfl
@[simp] theorem State.dropWaiting_frame : (s.dropWaiting a).frame = s.frame := rfl
@[simp] theorem State.dropWaiting_req : (s.dropWaiting a).req = s.req := rfl
@[simp] theorem State.dropWaiting_det : (s.dropWaiting a).det = s.det := rfl
@[simp] theorem State.dropWaiting_safety : (s.dropWaiting a).safety = s.safety := rfl
@[simp] theorem State.dropWaiting_boot : (s.dropWaiting a).boot = s.boot := rfl
@[simp] theorem State.dropWaiting_errors : (s.dropWaiting a).errors = s.errors := rfl
@[simp] theorem State.dropWaiting_fabric : (s.dropWaiting a).fabric = s.fabric := rfl
@[simp] theorem State.dropWaiting_farming : (s.dropWaiting a).farming = s.farming := rfl
@[simp] theorem State.dropWaiting_obs : (s.dropWaiting a).obs = s.obs := rfl
@[simp] theorem State.dropWaiting_host : (s.dropWaiting a).host = s.host := rfl
@[simp] theorem State.dropWaiting_hbm : (s.dropWaiting a).hbm = s.hbm := rfl
@[simp] theorem State.dropWaiting_sram : (s.dropWaiting a).sram = s.sram := rfl
@[simp] theorem State.dropWaiting_saves : (s.dropWaiting a).saves = s.saves := rfl
@[simp] theorem State.dropWaiting_free : (s.dropWaiting a).free = s.free := rfl
@[simp] theorem State.dropWaiting_pending : (s.dropWaiting a).pending = s.pending := rfl
end

section
variable (a b c d : Nat) (p : List Byte) (s : State)
@[simp] theorem State.detect_part : (s.detect a b c d p).part = s.part := by
  unfold State.detect State.faultReact State.faultReport; simp [State.ite_part, State.foldl_part]
@[simp] theorem State.detect_flash : (s.detect a b c d p).flash = s.flash := by
  unfold State.detect State.faultReact State.faultReport; simp [State.ite_flash, State.foldl_flash]
@[simp] theorem State.detect_aon : (s.detect a b c d p).aon = s.aon := by
  unfold State.detect State.faultReact State.faultReport; simp [State.ite_aon, State.foldl_aon]
@[simp] theorem State.detect_mgmt : (s.detect a b c d p).mgmt = s.mgmt := by
  unfold State.detect State.faultReact State.faultReport; simp [State.ite_mgmt, State.foldl_mgmt]
@[simp] theorem State.detect_time : (s.detect a b c d p).time = s.time := by
  unfold State.detect State.faultReact State.faultReport; simp [State.ite_time, State.foldl_time]
@[simp] theorem State.detect_images : (s.detect a b c d p).images = s.images := by
  unfold State.detect State.faultReact State.faultReport; simp [State.ite_images, State.foldl_images]
@[simp] theorem State.detect_worlds : (s.detect a b c d p).worlds = s.worlds := by
  unfold State.detect State.faultReact State.faultReport; simp [State.ite_worlds, State.foldl_worlds]
@[simp] theorem State.detect_streams : (s.detect a b c d p).streams = s.streams := by
  unfold State.detect State.faultReact State.faultReport; simp [State.ite_streams, State.foldl_streams]
@[simp] theorem State.detect_req : (s.detect a b c d p).req = s.req := by
  unfold State.detect State.faultReact State.faultReport; simp [State.ite_req, State.foldl_req]
@[simp] theorem State.detect_det : (s.detect a b c d p).det = s.det := by
  unfold State.detect State.faultReact State.faultReport; simp [State.ite_det, State.foldl_det]
@[simp] theorem State.detect_boot : (s.detect a b c d p).boot = s.boot := by
  unfold State.detect State.faultReact State.faultReport; simp [State.ite_boot, State.foldl_boot]
@[simp] theorem State.detect_fabric : (s.detect a b c d p).fabric = s.fabric := by
  unfold State.detect State.faultReact State.faultReport; simp [State.ite_fabric, State.foldl_fabric]
@[simp] theorem State.detect_farming : (s.detect a b c d p).farming = s.farming := by
  unfold State.detect State.faultReact State.faultReport; simp [State.ite_farming, State.foldl_farming]
@[simp] theorem State.detect_hbm : (s.detect a b c d p).hbm = s.hbm := by
  unfold State.detect State.faultReact State.faultReport; simp [State.ite_hbm, State.foldl_hbm]
@[simp] theorem State.detect_sram : (s.detect a b c d p).sram = s.sram := by
  unfold State.detect State.faultReact State.faultReport; simp [State.ite_sram, State.foldl_sram]
@[simp] theorem State.detect_saves : (s.detect a b c d p).saves = s.saves := by
  unfold State.detect State.faultReact State.faultReport; simp [State.ite_saves, State.foldl_saves]
@[simp] theorem State.detect_free : (s.detect a b c d p).free = s.free := by
  unfold State.detect State.faultReact State.faultReport; simp [State.ite_free, State.foldl_free]
@[simp] theorem State.detect_pending : (s.detect a b c d p).pending = s.pending := by
  unfold State.detect State.faultReact State.faultReport; simp [State.ite_pending, State.foldl_pending]
end

section
variable (a b c : Nat) (s : State)
@[simp] theorem State.hwFault_part : (s.hwFault a b c).part = s.part := by unfold State.hwFault; simp
@[simp] theorem State.hwFault_flash : (s.hwFault a b c).flash = s.flash := by unfold State.hwFault; simp
@[simp] theorem State.hwFault_aon : (s.hwFault a b c).aon = s.aon := by unfold State.hwFault; simp
@[simp] theorem State.hwFault_mgmt : (s.hwFault a b c).mgmt = s.mgmt := by unfold State.hwFault; simp
@[simp] theorem State.hwFault_time : (s.hwFault a b c).time = s.time := by unfold State.hwFault; simp
@[simp] theorem State.hwFault_images : (s.hwFault a b c).images = s.images := by unfold State.hwFault; simp
@[simp] theorem State.hwFault_worlds : (s.hwFault a b c).worlds = s.worlds := by unfold State.hwFault; simp
@[simp] theorem State.hwFault_streams : (s.hwFault a b c).streams = s.streams := by unfold State.hwFault; simp
@[simp] theorem State.hwFault_req : (s.hwFault a b c).req = s.req := by unfold State.hwFault; simp
@[simp] theorem State.hwFault_det : (s.hwFault a b c).det = s.det := by unfold State.hwFault; simp
@[simp] theorem State.hwFault_boot : (s.hwFault a b c).boot = s.boot := by unfold State.hwFault; simp
@[simp] theorem State.hwFault_fabric : (s.hwFault a b c).fabric = s.fabric := by unfold State.hwFault; simp
@[simp] theorem State.hwFault_farming : (s.hwFault a b c).farming = s.farming := by unfold State.hwFault; simp
@[simp] theorem State.hwFault_hbm : (s.hwFault a b c).hbm = s.hbm := by unfold State.hwFault; simp
@[simp] theorem State.hwFault_sram : (s.hwFault a b c).sram = s.sram := by unfold State.hwFault; simp
@[simp] theorem State.hwFault_saves : (s.hwFault a b c).saves = s.saves := by unfold State.hwFault; simp
@[simp] theorem State.hwFault_free : (s.hwFault a b c).free = s.free := by unfold State.hwFault; simp
@[simp] theorem State.hwFault_pending : (s.hwFault a b c).pending = s.pending := by unfold State.hwFault; simp
end

section
variable (fn slot : Nat) (f : Cmd → Cmd) (s : State)
@[simp] theorem State.modCmd_part : (s.modCmd fn slot f).part = s.part := rfl
@[simp] theorem State.modCmd_flash : (s.modCmd fn slot f).flash = s.flash := rfl
@[simp] theorem State.modCmd_aon : (s.modCmd fn slot f).aon = s.aon := rfl
@[simp] theorem State.modCmd_mgmt : (s.modCmd fn slot f).mgmt = s.mgmt := rfl
@[simp] theorem State.modCmd_time : (s.modCmd fn slot f).time = s.time := rfl
@[simp] theorem State.modCmd_pcie : (s.modCmd fn slot f).pcie = s.pcie := rfl
@[simp] theorem State.modCmd_rings : (s.modCmd fn slot f).rings = s.rings := rfl
@[simp] theorem State.modCmd_sessions : (s.modCmd fn slot f).sessions = s.sessions := rfl
@[simp] theorem State.modCmd_images : (s.modCmd fn slot f).images = s.images := rfl
@[simp] theorem State.modCmd_worlds : (s.modCmd fn slot f).worlds = s.worlds := rfl
@[simp] theorem State.modCmd_streams : (s.modCmd fn slot f).streams = s.streams := rfl
@[simp] theorem State.modCmd_clusters : (s.modCmd fn slot f).clusters = s.clusters := rfl
@[simp] theorem State.modCmd_stks : (s.modCmd fn slot f).stks = s.stks := rfl
@[simp] theorem State.modCmd_hub : (s.modCmd fn slot f).hub = s.hub := rfl
@[simp] theorem State.modCmd_frame : (s.modCmd fn slot f).frame = s.frame := rfl
@[simp] theorem State.modCmd_req : (s.modCmd fn slot f).req = s.req := rfl
@[simp] theorem State.modCmd_det : (s.modCmd fn slot f).det = s.det := rfl
@[simp] theorem State.modCmd_safety : (s.modCmd fn slot f).safety = s.safety := rfl
@[simp] theorem State.modCmd_boot : (s.modCmd fn slot f).boot = s.boot := rfl
@[simp] theorem State.modCmd_errors : (s.modCmd fn slot f).errors = s.errors := rfl
@[simp] theorem State.modCmd_fabric : (s.modCmd fn slot f).fabric = s.fabric := rfl
@[simp] theorem State.modCmd_farming : (s.modCmd fn slot f).farming = s.farming := rfl
@[simp] theorem State.modCmd_obs : (s.modCmd fn slot f).obs = s.obs := rfl
@[simp] theorem State.modCmd_host : (s.modCmd fn slot f).host = s.host := rfl
@[simp] theorem State.modCmd_hbm : (s.modCmd fn slot f).hbm = s.hbm := rfl
@[simp] theorem State.modCmd_sram : (s.modCmd fn slot f).sram = s.sram := rfl
@[simp] theorem State.modCmd_saves : (s.modCmd fn slot f).saves = s.saves := rfl
@[simp] theorem State.modCmd_free : (s.modCmd fn slot f).free = s.free := rfl
@[simp] theorem State.modCmd_pending : (s.modCmd fn slot f).pending = s.pending := rfl
end

section
variable (c : Cmd) (r : Response) (s : State)
@[simp] theorem State.respond_part : (s.respond c r).part = s.part := rfl
@[simp] theorem State.respond_flash : (s.respond c r).flash = s.flash := rfl
@[simp] theorem State.respond_aon : (s.respond c r).aon = s.aon := rfl
@[simp] theorem State.respond_mgmt : (s.respond c r).mgmt = s.mgmt := rfl
@[simp] theorem State.respond_time : (s.respond c r).time = s.time := rfl
@[simp] theorem State.respond_pcie : (s.respond c r).pcie = s.pcie := rfl
@[simp] theorem State.respond_rings : (s.respond c r).rings = s.rings := rfl
@[simp] theorem State.respond_sessions : (s.respond c r).sessions = s.sessions := rfl
@[simp] theorem State.respond_images : (s.respond c r).images = s.images := rfl
@[simp] theorem State.respond_worlds : (s.respond c r).worlds = s.worlds := rfl
@[simp] theorem State.respond_streams : (s.respond c r).streams = s.streams := rfl
@[simp] theorem State.respond_clusters : (s.respond c r).clusters = s.clusters := rfl
@[simp] theorem State.respond_stks : (s.respond c r).stks = s.stks := rfl
@[simp] theorem State.respond_hub : (s.respond c r).hub = s.hub := rfl
@[simp] theorem State.respond_frame : (s.respond c r).frame = s.frame := rfl
@[simp] theorem State.respond_req : (s.respond c r).req = s.req := rfl
@[simp] theorem State.respond_det : (s.respond c r).det = s.det := rfl
@[simp] theorem State.respond_safety : (s.respond c r).safety = s.safety := rfl
@[simp] theorem State.respond_boot : (s.respond c r).boot = s.boot := rfl
@[simp] theorem State.respond_errors : (s.respond c r).errors = s.errors := rfl
@[simp] theorem State.respond_fabric : (s.respond c r).fabric = s.fabric := rfl
@[simp] theorem State.respond_farming : (s.respond c r).farming = s.farming := rfl
@[simp] theorem State.respond_obs : (s.respond c r).obs = s.obs := rfl
@[simp] theorem State.respond_host : (s.respond c r).host = s.host := rfl
@[simp] theorem State.respond_hbm : (s.respond c r).hbm = s.hbm := rfl
@[simp] theorem State.respond_sram : (s.respond c r).sram = s.sram := rfl
@[simp] theorem State.respond_saves : (s.respond c r).saves = s.saves := rfl
@[simp] theorem State.respond_free : (s.respond c r).free = s.free := rfl
@[simp] theorem State.respond_pending : (s.respond c r).pending = s.pending := rfl
end

section
variable (c : Cmd) (st a : Nat) (s : State)
@[simp] theorem State.refuse_part : (s.refuse c st a).part = s.part := rfl
@[simp] theorem State.refuse_flash : (s.refuse c st a).flash = s.flash := rfl
@[simp] theorem State.refuse_aon : (s.refuse c st a).aon = s.aon := rfl
@[simp] theorem State.refuse_mgmt : (s.refuse c st a).mgmt = s.mgmt := rfl
@[simp] theorem State.refuse_time : (s.refuse c st a).time = s.time := rfl
@[simp] theorem State.refuse_pcie : (s.refuse c st a).pcie = s.pcie := rfl
@[simp] theorem State.refuse_rings : (s.refuse c st a).rings = s.rings := rfl
@[simp] theorem State.refuse_sessions : (s.refuse c st a).sessions = s.sessions := rfl
@[simp] theorem State.refuse_images : (s.refuse c st a).images = s.images := rfl
@[simp] theorem State.refuse_worlds : (s.refuse c st a).worlds = s.worlds := rfl
@[simp] theorem State.refuse_streams : (s.refuse c st a).streams = s.streams := rfl
@[simp] theorem State.refuse_clusters : (s.refuse c st a).clusters = s.clusters := rfl
@[simp] theorem State.refuse_stks : (s.refuse c st a).stks = s.stks := rfl
@[simp] theorem State.refuse_hub : (s.refuse c st a).hub = s.hub := rfl
@[simp] theorem State.refuse_frame : (s.refuse c st a).frame = s.frame := rfl
@[simp] theorem State.refuse_req : (s.refuse c st a).req = s.req := rfl
@[simp] theorem State.refuse_det : (s.refuse c st a).det = s.det := rfl
@[simp] theorem State.refuse_safety : (s.refuse c st a).safety = s.safety := rfl
@[simp] theorem State.refuse_boot : (s.refuse c st a).boot = s.boot := rfl
@[simp] theorem State.refuse_errors : (s.refuse c st a).errors = s.errors := rfl
@[simp] theorem State.refuse_fabric : (s.refuse c st a).fabric = s.fabric := rfl
@[simp] theorem State.refuse_farming : (s.refuse c st a).farming = s.farming := rfl
@[simp] theorem State.refuse_obs : (s.refuse c st a).obs = s.obs := rfl
@[simp] theorem State.refuse_host : (s.refuse c st a).host = s.host := rfl
@[simp] theorem State.refuse_hbm : (s.refuse c st a).hbm = s.hbm := rfl
@[simp] theorem State.refuse_sram : (s.refuse c st a).sram = s.sram := rfl
@[simp] theorem State.refuse_saves : (s.refuse c st a).saves = s.saves := rfl
@[simp] theorem State.refuse_free : (s.refuse c st a).free = s.free := rfl
@[simp] theorem State.refuse_pending : (s.refuse c st a).pending = s.pending := rfl
end

section
variable (c : Cmd) (p : List Byte) (s : State)
@[simp] theorem State.accept_part : (s.accept c p).part = s.part := rfl
@[simp] theorem State.accept_flash : (s.accept c p).flash = s.flash := rfl
@[simp] theorem State.accept_aon : (s.accept c p).aon = s.aon := rfl
@[simp] theorem State.accept_mgmt : (s.accept c p).mgmt = s.mgmt := rfl
@[simp] theorem State.accept_time : (s.accept c p).time = s.time := rfl
@[simp] theorem State.accept_pcie : (s.accept c p).pcie = s.pcie := rfl
@[simp] theorem State.accept_rings : (s.accept c p).rings = s.rings := rfl
@[simp] theorem State.accept_sessions : (s.accept c p).sessions = s.sessions := rfl
@[simp] theorem State.accept_images : (s.accept c p).images = s.images := rfl
@[simp] theorem State.accept_worlds : (s.accept c p).worlds = s.worlds := rfl
@[simp] theorem State.accept_streams : (s.accept c p).streams = s.streams := rfl
@[simp] theorem State.accept_clusters : (s.accept c p).clusters = s.clusters := rfl
@[simp] theorem State.accept_stks : (s.accept c p).stks = s.stks := rfl
@[simp] theorem State.accept_hub : (s.accept c p).hub = s.hub := rfl
@[simp] theorem State.accept_frame : (s.accept c p).frame = s.frame := rfl
@[simp] theorem State.accept_req : (s.accept c p).req = s.req := rfl
@[simp] theorem State.accept_det : (s.accept c p).det = s.det := rfl
@[simp] theorem State.accept_safety : (s.accept c p).safety = s.safety := rfl
@[simp] theorem State.accept_boot : (s.accept c p).boot = s.boot := rfl
@[simp] theorem State.accept_errors : (s.accept c p).errors = s.errors := rfl
@[simp] theorem State.accept_fabric : (s.accept c p).fabric = s.fabric := rfl
@[simp] theorem State.accept_farming : (s.accept c p).farming = s.farming := rfl
@[simp] theorem State.accept_obs : (s.accept c p).obs = s.obs := rfl
@[simp] theorem State.accept_host : (s.accept c p).host = s.host := rfl
@[simp] theorem State.accept_hbm : (s.accept c p).hbm = s.hbm := rfl
@[simp] theorem State.accept_sram : (s.accept c p).sram = s.sram := rfl
@[simp] theorem State.accept_saves : (s.accept c p).saves = s.saves := rfl
@[simp] theorem State.accept_free : (s.accept c p).free = s.free := rfl
@[simp] theorem State.accept_pending : (s.accept c p).pending = s.pending := rfl
end

section
variable (c : Cmd) (s : State)
@[simp] theorem State.wait_part : (s.wait c).part = s.part := rfl
@[simp] theorem State.wait_flash : (s.wait c).flash = s.flash := rfl
@[simp] theorem State.wait_aon : (s.wait c).aon = s.aon := rfl
@[simp] theorem State.wait_mgmt : (s.wait c).mgmt = s.mgmt := rfl
@[simp] theorem State.wait_time : (s.wait c).time = s.time := rfl
@[simp] theorem State.wait_pcie : (s.wait c).pcie = s.pcie := rfl
@[simp] theorem State.wait_rings : (s.wait c).rings = s.rings := rfl
@[simp] theorem State.wait_sessions : (s.wait c).sessions = s.sessions := rfl
@[simp] theorem State.wait_images : (s.wait c).images = s.images := rfl
@[simp] theorem State.wait_worlds : (s.wait c).worlds = s.worlds := rfl
@[simp] theorem State.wait_streams : (s.wait c).streams = s.streams := rfl
@[simp] theorem State.wait_clusters : (s.wait c).clusters = s.clusters := rfl
@[simp] theorem State.wait_stks : (s.wait c).stks = s.stks := rfl
@[simp] theorem State.wait_hub : (s.wait c).hub = s.hub := rfl
@[simp] theorem State.wait_frame : (s.wait c).frame = s.frame := rfl
@[simp] theorem State.wait_req : (s.wait c).req = s.req := rfl
@[simp] theorem State.wait_det : (s.wait c).det = s.det := rfl
@[simp] theorem State.wait_safety : (s.wait c).safety = s.safety := rfl
@[simp] theorem State.wait_boot : (s.wait c).boot = s.boot := rfl
@[simp] theorem State.wait_errors : (s.wait c).errors = s.errors := rfl
@[simp] theorem State.wait_fabric : (s.wait c).fabric = s.fabric := rfl
@[simp] theorem State.wait_farming : (s.wait c).farming = s.farming := rfl
@[simp] theorem State.wait_obs : (s.wait c).obs = s.obs := rfl
@[simp] theorem State.wait_host : (s.wait c).host = s.host := rfl
@[simp] theorem State.wait_hbm : (s.wait c).hbm = s.hbm := rfl
@[simp] theorem State.wait_sram : (s.wait c).sram = s.sram := rfl
@[simp] theorem State.wait_saves : (s.wait c).saves = s.saves := rfl
@[simp] theorem State.wait_free : (s.wait c).free = s.free := rfl
@[simp] theorem State.wait_pending : (s.wait c).pending = s.pending := rfl
end

section
variable (c : Cmd) (b : List Byte) (s : State)
@[simp] theorem State.output_part : (s.output c b).part = s.part := by
  have h : ∀ (l : List Desc) (x : State × List Byte), (l.foldl (init := x) fun (acc : State × List Byte) d =>
      (acc.1.hostWrite c.fn d.addr (acc.2.take d.len), acc.2.drop d.len)).1.part = x.1.part := by
    intro l; induction l with
    | nil => intro x; rfl
    | cons d l ih => intro x; simp [ih]
  exact h _ _
@[simp] theorem State.output_flash : (s.output c b).flash = s.flash := by
  have h : ∀ (l : List Desc) (x : State × List Byte), (l.foldl (init := x) fun (acc : State × List Byte) d =>
      (acc.1.hostWrite c.fn d.addr (acc.2.take d.len), acc.2.drop d.len)).1.flash = x.1.flash := by
    intro l; induction l with
    | nil => intro x; rfl
    | cons d l ih => intro x; simp [ih]
  exact h _ _
@[simp] theorem State.output_aon : (s.output c b).aon = s.aon := by
  have h : ∀ (l : List Desc) (x : State × List Byte), (l.foldl (init := x) fun (acc : State × List Byte) d =>
      (acc.1.hostWrite c.fn d.addr (acc.2.take d.len), acc.2.drop d.len)).1.aon = x.1.aon := by
    intro l; induction l with
    | nil => intro x; rfl
    | cons d l ih => intro x; simp [ih]
  exact h _ _
@[simp] theorem State.output_mgmt : (s.output c b).mgmt = s.mgmt := by
  have h : ∀ (l : List Desc) (x : State × List Byte), (l.foldl (init := x) fun (acc : State × List Byte) d =>
      (acc.1.hostWrite c.fn d.addr (acc.2.take d.len), acc.2.drop d.len)).1.mgmt = x.1.mgmt := by
    intro l; induction l with
    | nil => intro x; rfl
    | cons d l ih => intro x; simp [ih]
  exact h _ _
@[simp] theorem State.output_time : (s.output c b).time = s.time := by
  have h : ∀ (l : List Desc) (x : State × List Byte), (l.foldl (init := x) fun (acc : State × List Byte) d =>
      (acc.1.hostWrite c.fn d.addr (acc.2.take d.len), acc.2.drop d.len)).1.time = x.1.time := by
    intro l; induction l with
    | nil => intro x; rfl
    | cons d l ih => intro x; simp [ih]
  exact h _ _
@[simp] theorem State.output_pcie : (s.output c b).pcie = s.pcie := by
  have h : ∀ (l : List Desc) (x : State × List Byte), (l.foldl (init := x) fun (acc : State × List Byte) d =>
      (acc.1.hostWrite c.fn d.addr (acc.2.take d.len), acc.2.drop d.len)).1.pcie = x.1.pcie := by
    intro l; induction l with
    | nil => intro x; rfl
    | cons d l ih => intro x; simp [ih]
  exact h _ _
@[simp] theorem State.output_mbx : (s.output c b).mbx = s.mbx := by
  have h : ∀ (l : List Desc) (x : State × List Byte), (l.foldl (init := x) fun (acc : State × List Byte) d =>
      (acc.1.hostWrite c.fn d.addr (acc.2.take d.len), acc.2.drop d.len)).1.mbx = x.1.mbx := by
    intro l; induction l with
    | nil => intro x; rfl
    | cons d l ih => intro x; simp [ih]
  exact h _ _
@[simp] theorem State.output_rings : (s.output c b).rings = s.rings := by
  have h : ∀ (l : List Desc) (x : State × List Byte), (l.foldl (init := x) fun (acc : State × List Byte) d =>
      (acc.1.hostWrite c.fn d.addr (acc.2.take d.len), acc.2.drop d.len)).1.rings = x.1.rings := by
    intro l; induction l with
    | nil => intro x; rfl
    | cons d l ih => intro x; simp [ih]
  exact h _ _
@[simp] theorem State.output_sessions : (s.output c b).sessions = s.sessions := by
  have h : ∀ (l : List Desc) (x : State × List Byte), (l.foldl (init := x) fun (acc : State × List Byte) d =>
      (acc.1.hostWrite c.fn d.addr (acc.2.take d.len), acc.2.drop d.len)).1.sessions = x.1.sessions := by
    intro l; induction l with
    | nil => intro x; rfl
    | cons d l ih => intro x; simp [ih]
  exact h _ _
@[simp] theorem State.output_images : (s.output c b).images = s.images := by
  have h : ∀ (l : List Desc) (x : State × List Byte), (l.foldl (init := x) fun (acc : State × List Byte) d =>
      (acc.1.hostWrite c.fn d.addr (acc.2.take d.len), acc.2.drop d.len)).1.images = x.1.images := by
    intro l; induction l with
    | nil => intro x; rfl
    | cons d l ih => intro x; simp [ih]
  exact h _ _
@[simp] theorem State.output_worlds : (s.output c b).worlds = s.worlds := by
  have h : ∀ (l : List Desc) (x : State × List Byte), (l.foldl (init := x) fun (acc : State × List Byte) d =>
      (acc.1.hostWrite c.fn d.addr (acc.2.take d.len), acc.2.drop d.len)).1.worlds = x.1.worlds := by
    intro l; induction l with
    | nil => intro x; rfl
    | cons d l ih => intro x; simp [ih]
  exact h _ _
@[simp] theorem State.output_streams : (s.output c b).streams = s.streams := by
  have h : ∀ (l : List Desc) (x : State × List Byte), (l.foldl (init := x) fun (acc : State × List Byte) d =>
      (acc.1.hostWrite c.fn d.addr (acc.2.take d.len), acc.2.drop d.len)).1.streams = x.1.streams := by
    intro l; induction l with
    | nil => intro x; rfl
    | cons d l ih => intro x; simp [ih]
  exact h _ _
@[simp] theorem State.output_frame : (s.output c b).frame = s.frame := by
  have h : ∀ (l : List Desc) (x : State × List Byte), (l.foldl (init := x) fun (acc : State × List Byte) d =>
      (acc.1.hostWrite c.fn d.addr (acc.2.take d.len), acc.2.drop d.len)).1.frame = x.1.frame := by
    intro l; induction l with
    | nil => intro x; rfl
    | cons d l ih => intro x; simp [ih]
  exact h _ _
@[simp] theorem State.output_req : (s.output c b).req = s.req := by
  have h : ∀ (l : List Desc) (x : State × List Byte), (l.foldl (init := x) fun (acc : State × List Byte) d =>
      (acc.1.hostWrite c.fn d.addr (acc.2.take d.len), acc.2.drop d.len)).1.req = x.1.req := by
    intro l; induction l with
    | nil => intro x; rfl
    | cons d l ih => intro x; simp [ih]
  exact h _ _
@[simp] theorem State.output_det : (s.output c b).det = s.det := by
  have h : ∀ (l : List Desc) (x : State × List Byte), (l.foldl (init := x) fun (acc : State × List Byte) d =>
      (acc.1.hostWrite c.fn d.addr (acc.2.take d.len), acc.2.drop d.len)).1.det = x.1.det := by
    intro l; induction l with
    | nil => intro x; rfl
    | cons d l ih => intro x; simp [ih]
  exact h _ _
@[simp] theorem State.output_safety : (s.output c b).safety = s.safety := by
  have h : ∀ (l : List Desc) (x : State × List Byte), (l.foldl (init := x) fun (acc : State × List Byte) d =>
      (acc.1.hostWrite c.fn d.addr (acc.2.take d.len), acc.2.drop d.len)).1.safety = x.1.safety := by
    intro l; induction l with
    | nil => intro x; rfl
    | cons d l ih => intro x; simp [ih]
  exact h _ _
@[simp] theorem State.output_boot : (s.output c b).boot = s.boot := by
  have h : ∀ (l : List Desc) (x : State × List Byte), (l.foldl (init := x) fun (acc : State × List Byte) d =>
      (acc.1.hostWrite c.fn d.addr (acc.2.take d.len), acc.2.drop d.len)).1.boot = x.1.boot := by
    intro l; induction l with
    | nil => intro x; rfl
    | cons d l ih => intro x; simp [ih]
  exact h _ _
@[simp] theorem State.output_errors : (s.output c b).errors = s.errors := by
  have h : ∀ (l : List Desc) (x : State × List Byte), (l.foldl (init := x) fun (acc : State × List Byte) d =>
      (acc.1.hostWrite c.fn d.addr (acc.2.take d.len), acc.2.drop d.len)).1.errors = x.1.errors := by
    intro l; induction l with
    | nil => intro x; rfl
    | cons d l ih => intro x; simp [ih]
  exact h _ _
@[simp] theorem State.output_fabric : (s.output c b).fabric = s.fabric := by
  have h : ∀ (l : List Desc) (x : State × List Byte), (l.foldl (init := x) fun (acc : State × List Byte) d =>
      (acc.1.hostWrite c.fn d.addr (acc.2.take d.len), acc.2.drop d.len)).1.fabric = x.1.fabric := by
    intro l; induction l with
    | nil => intro x; rfl
    | cons d l ih => intro x; simp [ih]
  exact h _ _
@[simp] theorem State.output_farming : (s.output c b).farming = s.farming := by
  have h : ∀ (l : List Desc) (x : State × List Byte), (l.foldl (init := x) fun (acc : State × List Byte) d =>
      (acc.1.hostWrite c.fn d.addr (acc.2.take d.len), acc.2.drop d.len)).1.farming = x.1.farming := by
    intro l; induction l with
    | nil => intro x; rfl
    | cons d l ih => intro x; simp [ih]
  exact h _ _
@[simp] theorem State.output_obs : (s.output c b).obs = s.obs := by
  have h : ∀ (l : List Desc) (x : State × List Byte), (l.foldl (init := x) fun (acc : State × List Byte) d =>
      (acc.1.hostWrite c.fn d.addr (acc.2.take d.len), acc.2.drop d.len)).1.obs = x.1.obs := by
    intro l; induction l with
    | nil => intro x; rfl
    | cons d l ih => intro x; simp [ih]
  exact h _ _
@[simp] theorem State.output_hbm : (s.output c b).hbm = s.hbm := by
  have h : ∀ (l : List Desc) (x : State × List Byte), (l.foldl (init := x) fun (acc : State × List Byte) d =>
      (acc.1.hostWrite c.fn d.addr (acc.2.take d.len), acc.2.drop d.len)).1.hbm = x.1.hbm := by
    intro l; induction l with
    | nil => intro x; rfl
    | cons d l ih => intro x; simp [ih]
  exact h _ _
@[simp] theorem State.output_sram : (s.output c b).sram = s.sram := by
  have h : ∀ (l : List Desc) (x : State × List Byte), (l.foldl (init := x) fun (acc : State × List Byte) d =>
      (acc.1.hostWrite c.fn d.addr (acc.2.take d.len), acc.2.drop d.len)).1.sram = x.1.sram := by
    intro l; induction l with
    | nil => intro x; rfl
    | cons d l ih => intro x; simp [ih]
  exact h _ _
@[simp] theorem State.output_saves : (s.output c b).saves = s.saves := by
  have h : ∀ (l : List Desc) (x : State × List Byte), (l.foldl (init := x) fun (acc : State × List Byte) d =>
      (acc.1.hostWrite c.fn d.addr (acc.2.take d.len), acc.2.drop d.len)).1.saves = x.1.saves := by
    intro l; induction l with
    | nil => intro x; rfl
    | cons d l ih => intro x; simp [ih]
  exact h _ _
@[simp] theorem State.output_free : (s.output c b).free = s.free := by
  have h : ∀ (l : List Desc) (x : State × List Byte), (l.foldl (init := x) fun (acc : State × List Byte) d =>
      (acc.1.hostWrite c.fn d.addr (acc.2.take d.len), acc.2.drop d.len)).1.free = x.1.free := by
    intro l; induction l with
    | nil => intro x; rfl
    | cons d l ih => intro x; simp [ih]
  exact h _ _
@[simp] theorem State.output_pending : (s.output c b).pending = s.pending := by
  have h : ∀ (l : List Desc) (x : State × List Byte), (l.foldl (init := x) fun (acc : State × List Byte) d =>
      (acc.1.hostWrite c.fn d.addr (acc.2.take d.len), acc.2.drop d.len)).1.pending = x.1.pending := by
    intro l; induction l with
    | nil => intro x; rfl
    | cons d l ih => intro x; simp [ih]
  exact h _ _
end

section
variable (c : Cmd) (b p : List Byte) (s : State)
@[simp] theorem State.deliver_part : (s.deliver c b p).part = s.part := by unfold State.deliver; simp [State.ite_part]
@[simp] theorem State.deliver_flash : (s.deliver c b p).flash = s.flash := by unfold State.deliver; simp [State.ite_flash]
@[simp] theorem State.deliver_aon : (s.deliver c b p).aon = s.aon := by unfold State.deliver; simp [State.ite_aon]
@[simp] theorem State.deliver_mgmt : (s.deliver c b p).mgmt = s.mgmt := by unfold State.deliver; simp [State.ite_mgmt]
@[simp] theorem State.deliver_time : (s.deliver c b p).time = s.time := by unfold State.deliver; simp [State.ite_time]
@[simp] theorem State.deliver_pcie : (s.deliver c b p).pcie = s.pcie := by unfold State.deliver; simp [State.ite_pcie]
@[simp] theorem State.deliver_rings : (s.deliver c b p).rings = s.rings := by unfold State.deliver; simp [State.ite_rings]
@[simp] theorem State.deliver_sessions : (s.deliver c b p).sessions = s.sessions := by unfold State.deliver; simp [State.ite_sessions]
@[simp] theorem State.deliver_images : (s.deliver c b p).images = s.images := by unfold State.deliver; simp [State.ite_images]
@[simp] theorem State.deliver_worlds : (s.deliver c b p).worlds = s.worlds := by unfold State.deliver; simp [State.ite_worlds]
@[simp] theorem State.deliver_streams : (s.deliver c b p).streams = s.streams := by unfold State.deliver; simp [State.ite_streams]
@[simp] theorem State.deliver_frame : (s.deliver c b p).frame = s.frame := by unfold State.deliver; simp [State.ite_frame]
@[simp] theorem State.deliver_req : (s.deliver c b p).req = s.req := by unfold State.deliver; simp [State.ite_req]
@[simp] theorem State.deliver_det : (s.deliver c b p).det = s.det := by unfold State.deliver; simp [State.ite_det]
@[simp] theorem State.deliver_safety : (s.deliver c b p).safety = s.safety := by unfold State.deliver; simp [State.ite_safety]
@[simp] theorem State.deliver_boot : (s.deliver c b p).boot = s.boot := by unfold State.deliver; simp [State.ite_boot]
@[simp] theorem State.deliver_errors : (s.deliver c b p).errors = s.errors := by unfold State.deliver; simp [State.ite_errors]
@[simp] theorem State.deliver_fabric : (s.deliver c b p).fabric = s.fabric := by unfold State.deliver; simp [State.ite_fabric]
@[simp] theorem State.deliver_farming : (s.deliver c b p).farming = s.farming := by unfold State.deliver; simp [State.ite_farming]
@[simp] theorem State.deliver_obs : (s.deliver c b p).obs = s.obs := by unfold State.deliver; simp [State.ite_obs]
@[simp] theorem State.deliver_hbm : (s.deliver c b p).hbm = s.hbm := by unfold State.deliver; simp [State.ite_hbm]
@[simp] theorem State.deliver_sram : (s.deliver c b p).sram = s.sram := by unfold State.deliver; simp [State.ite_sram]
@[simp] theorem State.deliver_saves : (s.deliver c b p).saves = s.saves := by unfold State.deliver; simp [State.ite_saves]
@[simp] theorem State.deliver_free : (s.deliver c b p).free = s.free := by unfold State.deliver; simp [State.ite_free]
@[simp] theorem State.deliver_pending : (s.deliver c b p).pending = s.pending := by unfold State.deliver; simp [State.ite_pending]
end

section
variable (c : Cmd) (s : State)
@[simp] theorem State.captureCmd_part : (s.captureCmd c).part = s.part := by unfold State.captureCmd; simp [State.ite_part]
@[simp] theorem State.captureCmd_flash : (s.captureCmd c).flash = s.flash := by unfold State.captureCmd; simp [State.ite_flash]
@[simp] theorem State.captureCmd_aon : (s.captureCmd c).aon = s.aon := by unfold State.captureCmd; simp [State.ite_aon]
@[simp] theorem State.captureCmd_mgmt : (s.captureCmd c).mgmt = s.mgmt := by unfold State.captureCmd; simp [State.ite_mgmt]
@[simp] theorem State.captureCmd_time : (s.captureCmd c).time = s.time := by unfold State.captureCmd; simp [State.ite_time]
@[simp] theorem State.captureCmd_pcie : (s.captureCmd c).pcie = s.pcie := by unfold State.captureCmd; simp [State.ite_pcie]
@[simp] theorem State.captureCmd_mbx : (s.captureCmd c).mbx = s.mbx := by unfold State.captureCmd; simp [State.ite_mbx]
@[simp] theorem State.captureCmd_rings : (s.captureCmd c).rings = s.rings := by unfold State.captureCmd; simp [State.ite_rings]
@[simp] theorem State.captureCmd_sessions : (s.captureCmd c).sessions = s.sessions := by unfold State.captureCmd; simp [State.ite_sessions]
@[simp] theorem State.captureCmd_images : (s.captureCmd c).images = s.images := by unfold State.captureCmd; simp [State.ite_images]
@[simp] theorem State.captureCmd_worlds : (s.captureCmd c).worlds = s.worlds := by unfold State.captureCmd; simp [State.ite_worlds]
@[simp] theorem State.captureCmd_streams : (s.captureCmd c).streams = s.streams := by unfold State.captureCmd; simp [State.ite_streams]
@[simp] theorem State.captureCmd_clusters : (s.captureCmd c).clusters = s.clusters := by unfold State.captureCmd; simp [State.ite_clusters]
@[simp] theorem State.captureCmd_stks : (s.captureCmd c).stks = s.stks := by unfold State.captureCmd; simp [State.ite_stks]
@[simp] theorem State.captureCmd_hub : (s.captureCmd c).hub = s.hub := by unfold State.captureCmd; simp [State.ite_hub]
@[simp] theorem State.captureCmd_frame : (s.captureCmd c).frame = s.frame := by unfold State.captureCmd; simp [State.ite_frame]
@[simp] theorem State.captureCmd_req : (s.captureCmd c).req = s.req := by unfold State.captureCmd; simp [State.ite_req]
@[simp] theorem State.captureCmd_safety : (s.captureCmd c).safety = s.safety := by unfold State.captureCmd; simp [State.ite_safety]
@[simp] theorem State.captureCmd_boot : (s.captureCmd c).boot = s.boot := by unfold State.captureCmd; simp [State.ite_boot]
@[simp] theorem State.captureCmd_errors : (s.captureCmd c).errors = s.errors := by unfold State.captureCmd; simp [State.ite_errors]
@[simp] theorem State.captureCmd_fabric : (s.captureCmd c).fabric = s.fabric := by unfold State.captureCmd; simp [State.ite_fabric]
@[simp] theorem State.captureCmd_farming : (s.captureCmd c).farming = s.farming := by unfold State.captureCmd; simp [State.ite_farming]
@[simp] theorem State.captureCmd_obs : (s.captureCmd c).obs = s.obs := by unfold State.captureCmd; simp [State.ite_obs]
@[simp] theorem State.captureCmd_host : (s.captureCmd c).host = s.host := by unfold State.captureCmd; simp [State.ite_host]
@[simp] theorem State.captureCmd_hbm : (s.captureCmd c).hbm = s.hbm := by unfold State.captureCmd; simp [State.ite_hbm]
@[simp] theorem State.captureCmd_sram : (s.captureCmd c).sram = s.sram := by unfold State.captureCmd; simp [State.ite_sram]
@[simp] theorem State.captureCmd_saves : (s.captureCmd c).saves = s.saves := by unfold State.captureCmd; simp [State.ite_saves]
@[simp] theorem State.captureCmd_free : (s.captureCmd c).free = s.free := by unfold State.captureCmd; simp [State.ite_free]
@[simp] theorem State.captureCmd_pending : (s.captureCmd c).pending = s.pending := by unfold State.captureCmd; simp [State.ite_pending]
end

section
variable (l o : Nat) (s : State)
@[simp] theorem State.cmdScopeReset_part : (s.cmdScopeReset l o).part = s.part := by
  unfold State.cmdScopeReset; exact State.foldl_keeps (·.part) _ (fun s a => by simp [State.ite_part]) _ _
@[simp] theorem State.cmdScopeReset_flash : (s.cmdScopeReset l o).flash = s.flash := by
  unfold State.cmdScopeReset; exact State.foldl_keeps (·.flash) _ (fun s a => by simp [State.ite_flash]) _ _
@[simp] theorem State.cmdScopeReset_aon : (s.cmdScopeReset l o).aon = s.aon := by
  unfold State.cmdScopeReset; exact State.foldl_keeps (·.aon) _ (fun s a => by simp [State.ite_aon]) _ _
@[simp] theorem State.cmdScopeReset_mgmt : (s.cmdScopeReset l o).mgmt = s.mgmt := by
  unfold State.cmdScopeReset; exact State.foldl_keeps (·.mgmt) _ (fun s a => by simp [State.ite_mgmt]) _ _
@[simp] theorem State.cmdScopeReset_time : (s.cmdScopeReset l o).time = s.time := by
  unfold State.cmdScopeReset; exact State.foldl_keeps (·.time) _ (fun s a => by simp [State.ite_time]) _ _
@[simp] theorem State.cmdScopeReset_pcie : (s.cmdScopeReset l o).pcie = s.pcie := by
  unfold State.cmdScopeReset; exact State.foldl_keeps (·.pcie) _ (fun s a => by simp [State.ite_pcie]) _ _
@[simp] theorem State.cmdScopeReset_mbx : (s.cmdScopeReset l o).mbx = s.mbx := by
  unfold State.cmdScopeReset; exact State.foldl_keeps (·.mbx) _ (fun s a => by simp [State.ite_mbx]) _ _
@[simp] theorem State.cmdScopeReset_rings : (s.cmdScopeReset l o).rings = s.rings := by
  unfold State.cmdScopeReset; exact State.foldl_keeps (·.rings) _ (fun s a => by simp [State.ite_rings]) _ _
@[simp] theorem State.cmdScopeReset_sessions : (s.cmdScopeReset l o).sessions = s.sessions := by
  unfold State.cmdScopeReset; exact State.foldl_keeps (·.sessions) _ (fun s a => by simp [State.ite_sessions]) _ _
@[simp] theorem State.cmdScopeReset_images : (s.cmdScopeReset l o).images = s.images := by
  unfold State.cmdScopeReset; exact State.foldl_keeps (·.images) _ (fun s a => by simp [State.ite_images]) _ _
@[simp] theorem State.cmdScopeReset_worlds : (s.cmdScopeReset l o).worlds = s.worlds := by
  unfold State.cmdScopeReset; exact State.foldl_keeps (·.worlds) _ (fun s a => by simp [State.ite_worlds]) _ _
@[simp] theorem State.cmdScopeReset_streams : (s.cmdScopeReset l o).streams = s.streams := by
  unfold State.cmdScopeReset; exact State.foldl_keeps (·.streams) _ (fun s a => by simp [State.ite_streams]) _ _
@[simp] theorem State.cmdScopeReset_frame : (s.cmdScopeReset l o).frame = s.frame := by
  unfold State.cmdScopeReset; exact State.foldl_keeps (·.frame) _ (fun s a => by simp [State.ite_frame]) _ _
@[simp] theorem State.cmdScopeReset_req : (s.cmdScopeReset l o).req = s.req := by
  unfold State.cmdScopeReset; exact State.foldl_keeps (·.req) _ (fun s a => by simp [State.ite_req]) _ _
@[simp] theorem State.cmdScopeReset_det : (s.cmdScopeReset l o).det = s.det := by
  unfold State.cmdScopeReset; exact State.foldl_keeps (·.det) _ (fun s a => by simp [State.ite_det]) _ _
@[simp] theorem State.cmdScopeReset_safety : (s.cmdScopeReset l o).safety = s.safety := by
  unfold State.cmdScopeReset; exact State.foldl_keeps (·.safety) _ (fun s a => by simp [State.ite_safety]) _ _
@[simp] theorem State.cmdScopeReset_boot : (s.cmdScopeReset l o).boot = s.boot := by
  unfold State.cmdScopeReset; exact State.foldl_keeps (·.boot) _ (fun s a => by simp [State.ite_boot]) _ _
@[simp] theorem State.cmdScopeReset_errors : (s.cmdScopeReset l o).errors = s.errors := by
  unfold State.cmdScopeReset; exact State.foldl_keeps (·.errors) _ (fun s a => by simp [State.ite_errors]) _ _
@[simp] theorem State.cmdScopeReset_fabric : (s.cmdScopeReset l o).fabric = s.fabric := by
  unfold State.cmdScopeReset; exact State.foldl_keeps (·.fabric) _ (fun s a => by simp [State.ite_fabric]) _ _
@[simp] theorem State.cmdScopeReset_farming : (s.cmdScopeReset l o).farming = s.farming := by
  unfold State.cmdScopeReset; exact State.foldl_keeps (·.farming) _ (fun s a => by simp [State.ite_farming]) _ _
@[simp] theorem State.cmdScopeReset_obs : (s.cmdScopeReset l o).obs = s.obs := by
  unfold State.cmdScopeReset; exact State.foldl_keeps (·.obs) _ (fun s a => by simp [State.ite_obs]) _ _
@[simp] theorem State.cmdScopeReset_host : (s.cmdScopeReset l o).host = s.host := by
  unfold State.cmdScopeReset; exact State.foldl_keeps (·.host) _ (fun s a => by simp [State.ite_host]) _ _
@[simp] theorem State.cmdScopeReset_hbm : (s.cmdScopeReset l o).hbm = s.hbm := by
  unfold State.cmdScopeReset; exact State.foldl_keeps (·.hbm) _ (fun s a => by simp [State.ite_hbm]) _ _
@[simp] theorem State.cmdScopeReset_sram : (s.cmdScopeReset l o).sram = s.sram := by
  unfold State.cmdScopeReset; exact State.foldl_keeps (·.sram) _ (fun s a => by simp [State.ite_sram]) _ _
@[simp] theorem State.cmdScopeReset_saves : (s.cmdScopeReset l o).saves = s.saves := by
  unfold State.cmdScopeReset; exact State.foldl_keeps (·.saves) _ (fun s a => by simp [State.ite_saves]) _ _
@[simp] theorem State.cmdScopeReset_free : (s.cmdScopeReset l o).free = s.free := by
  unfold State.cmdScopeReset; exact State.foldl_keeps (·.free) _ (fun s a => by simp [State.ite_free]) _ _
@[simp] theorem State.cmdScopeReset_pending : (s.cmdScopeReset l o).pending = s.pending := by
  unfold State.cmdScopeReset; exact State.foldl_keeps (·.pending) _ (fun s a => by simp [State.ite_pending]) _ _
end

section
variable (c : Cmd) (b : List Byte) (t : Nat) (s : State)
@[simp] theorem State.arrive_part : (s.arrive c b t).part = s.part := by unfold State.arrive; simp [State.ite_part]
@[simp] theorem State.arrive_flash : (s.arrive c b t).flash = s.flash := by unfold State.arrive; simp [State.ite_flash]
@[simp] theorem State.arrive_aon : (s.arrive c b t).aon = s.aon := by unfold State.arrive; simp [State.ite_aon]
@[simp] theorem State.arrive_mgmt : (s.arrive c b t).mgmt = s.mgmt := by unfold State.arrive; simp [State.ite_mgmt]
@[simp] theorem State.arrive_time : (s.arrive c b t).time = s.time := by unfold State.arrive; simp [State.ite_time]
@[simp] theorem State.arrive_pcie : (s.arrive c b t).pcie = s.pcie := by unfold State.arrive; simp [State.ite_pcie]
@[simp] theorem State.arrive_rings : (s.arrive c b t).rings = s.rings := by unfold State.arrive; simp [State.ite_rings]
@[simp] theorem State.arrive_sessions : (s.arrive c b t).sessions = s.sessions := by unfold State.arrive; simp [State.ite_sessions]
@[simp] theorem State.arrive_images : (s.arrive c b t).images = s.images := by unfold State.arrive; simp [State.ite_images]
@[simp] theorem State.arrive_worlds : (s.arrive c b t).worlds = s.worlds := by unfold State.arrive; simp [State.ite_worlds]
@[simp] theorem State.arrive_streams : (s.arrive c b t).streams = s.streams := by unfold State.arrive; simp [State.ite_streams]
@[simp] theorem State.arrive_frame : (s.arrive c b t).frame = s.frame := by unfold State.arrive; simp [State.ite_frame]
@[simp] theorem State.arrive_req : (s.arrive c b t).req = s.req := by unfold State.arrive; simp [State.ite_req]
@[simp] theorem State.arrive_det : (s.arrive c b t).det = s.det := by unfold State.arrive; simp [State.ite_det]
@[simp] theorem State.arrive_safety : (s.arrive c b t).safety = s.safety := by unfold State.arrive; simp [State.ite_safety]
@[simp] theorem State.arrive_boot : (s.arrive c b t).boot = s.boot := by unfold State.arrive; simp [State.ite_boot]
@[simp] theorem State.arrive_errors : (s.arrive c b t).errors = s.errors := by unfold State.arrive; simp [State.ite_errors]
@[simp] theorem State.arrive_fabric : (s.arrive c b t).fabric = s.fabric := by unfold State.arrive; simp [State.ite_fabric]
@[simp] theorem State.arrive_farming : (s.arrive c b t).farming = s.farming := by unfold State.arrive; simp [State.ite_farming]
@[simp] theorem State.arrive_host : (s.arrive c b t).host = s.host := by unfold State.arrive; simp [State.ite_host]
@[simp] theorem State.arrive_hbm : (s.arrive c b t).hbm = s.hbm := by unfold State.arrive; simp [State.ite_hbm]
@[simp] theorem State.arrive_sram : (s.arrive c b t).sram = s.sram := by unfold State.arrive; simp [State.ite_sram]
@[simp] theorem State.arrive_saves : (s.arrive c b t).saves = s.saves := by unfold State.arrive; simp [State.ite_saves]
@[simp] theorem State.arrive_free : (s.arrive c b t).free = s.free := by unfold State.arrive; simp [State.ite_free]
@[simp] theorem State.arrive_pending : (s.arrive c b t).pending = s.pending := by unfold State.arrive; simp [State.ite_pending]
end

end Sys2Proof.Machine
end

