-- ==== Sys2Proof/Laws/Frames.lean ====
section
/-!
SUPPORT. Sys2Proof/Laws/Frames.lean: what further operations leave unchanged, part by part.
-/
set_option linter.unusedSimpArgs false
set_option linter.unnecessarySeqFocus false
namespace Sys2Proof.Machine

section
variable (i : Nat) (s : State)
@[simp] theorem State.settleSession_part : (s.settleSession i).part = s.part := by
  unfold State.settleSession; simp [State.ite_part, State.foldl_part] <;> (repeat' split) <;> simp [State.ite_part, State.foldl_part]
@[simp] theorem State.settleSession_flash : (s.settleSession i).flash = s.flash := by
  unfold State.settleSession; simp [State.ite_flash, State.foldl_flash] <;> (repeat' split) <;> simp [State.ite_flash, State.foldl_flash]
@[simp] theorem State.settleSession_aon : (s.settleSession i).aon = s.aon := by
  unfold State.settleSession; simp [State.ite_aon, State.foldl_aon] <;> (repeat' split) <;> simp [State.ite_aon, State.foldl_aon]
@[simp] theorem State.settleSession_mgmt : (s.settleSession i).mgmt = s.mgmt := by
  unfold State.settleSession; simp [State.ite_mgmt, State.foldl_mgmt] <;> (repeat' split) <;> simp [State.ite_mgmt, State.foldl_mgmt]
@[simp] theorem State.settleSession_time : (s.settleSession i).time = s.time := by
  unfold State.settleSession; simp [State.ite_time, State.foldl_time] <;> (repeat' split) <;> simp [State.ite_time, State.foldl_time]
@[simp] theorem State.settleSession_mbx : (s.settleSession i).mbx = s.mbx := by
  unfold State.settleSession; simp [State.ite_mbx, State.foldl_mbx] <;> (repeat' split) <;> simp [State.ite_mbx, State.foldl_mbx]
@[simp] theorem State.settleSession_images : (s.settleSession i).images = s.images := by
  unfold State.settleSession; simp [State.ite_images, State.foldl_images] <;> (repeat' split) <;> simp [State.ite_images, State.foldl_images]
@[simp] theorem State.settleSession_worlds : (s.settleSession i).worlds = s.worlds := by
  unfold State.settleSession; simp [State.ite_worlds, State.foldl_worlds] <;> (repeat' split) <;> simp [State.ite_worlds, State.foldl_worlds]
@[simp] theorem State.settleSession_streams : (s.settleSession i).streams = s.streams := by
  unfold State.settleSession; simp [State.ite_streams, State.foldl_streams] <;> (repeat' split) <;> simp [State.ite_streams, State.foldl_streams]
@[simp] theorem State.settleSession_frame : (s.settleSession i).frame = s.frame := by
  unfold State.settleSession; simp [State.ite_frame, State.foldl_frame] <;> (repeat' split) <;> simp [State.ite_frame, State.foldl_frame]
@[simp] theorem State.settleSession_req : (s.settleSession i).req = s.req := by
  unfold State.settleSession; simp [State.ite_req, State.foldl_req] <;> (repeat' split) <;> simp [State.ite_req, State.foldl_req]
@[simp] theorem State.settleSession_det : (s.settleSession i).det = s.det := by
  unfold State.settleSession; simp [State.ite_det, State.foldl_det] <;> (repeat' split) <;> simp [State.ite_det, State.foldl_det]
@[simp] theorem State.settleSession_safety : (s.settleSession i).safety = s.safety := by
  unfold State.settleSession; simp [State.ite_safety, State.foldl_safety] <;> (repeat' split) <;> simp [State.ite_safety, State.foldl_safety]
@[simp] theorem State.settleSession_boot : (s.settleSession i).boot = s.boot := by
  unfold State.settleSession; simp [State.ite_boot, State.foldl_boot] <;> (repeat' split) <;> simp [State.ite_boot, State.foldl_boot]
@[simp] theorem State.settleSession_errors : (s.settleSession i).errors = s.errors := by
  unfold State.settleSession; simp [State.ite_errors, State.foldl_errors] <;> (repeat' split) <;> simp [State.ite_errors, State.foldl_errors]
@[simp] theorem State.settleSession_fabric : (s.settleSession i).fabric = s.fabric := by
  unfold State.settleSession; simp [State.ite_fabric, State.foldl_fabric] <;> (repeat' split) <;> simp [State.ite_fabric, State.foldl_fabric]
@[simp] theorem State.settleSession_farming : (s.settleSession i).farming = s.farming := by
  unfold State.settleSession; simp [State.ite_farming, State.foldl_farming] <;> (repeat' split) <;> simp [State.ite_farming, State.foldl_farming]
@[simp] theorem State.settleSession_obs : (s.settleSession i).obs = s.obs := by
  unfold State.settleSession; simp [State.ite_obs, State.foldl_obs] <;> (repeat' split) <;> simp [State.ite_obs, State.foldl_obs]
@[simp] theorem State.settleSession_hbm : (s.settleSession i).hbm = s.hbm := by
  unfold State.settleSession; simp [State.ite_hbm, State.foldl_hbm] <;> (repeat' split) <;> simp [State.ite_hbm, State.foldl_hbm]
@[simp] theorem State.settleSession_sram : (s.settleSession i).sram = s.sram := by
  unfold State.settleSession; simp [State.ite_sram, State.foldl_sram] <;> (repeat' split) <;> simp [State.ite_sram, State.foldl_sram]
@[simp] theorem State.settleSession_saves : (s.settleSession i).saves = s.saves := by
  unfold State.settleSession; simp [State.ite_saves, State.foldl_saves] <;> (repeat' split) <;> simp [State.ite_saves, State.foldl_saves]
@[simp] theorem State.settleSession_free : (s.settleSession i).free = s.free := by
  unfold State.settleSession; simp [State.ite_free, State.foldl_free] <;> (repeat' split) <;> simp [State.ite_free, State.foldl_free]
@[simp] theorem State.settleSession_pending : (s.settleSession i).pending = s.pending := by
  unfold State.settleSession; simp [State.ite_pending, State.foldl_pending] <;> (repeat' split) <;> simp [State.ite_pending, State.foldl_pending]
end

section
variable (f : Stream → Bool) (s : State)
@[simp] theorem State.dropStreams_part : (s.dropStreams f).part = s.part := by
  unfold State.dropStreams; simp [State.ite_part, State.foldl_part]
@[simp] theorem State.dropStreams_flash : (s.dropStreams f).flash = s.flash := by
  unfold State.dropStreams; simp [State.ite_flash, State.foldl_flash]
@[simp] theorem State.dropStreams_aon : (s.dropStreams f).aon = s.aon := by
  unfold State.dropStreams; simp [State.ite_aon, State.foldl_aon]
@[simp] theorem State.dropStreams_mgmt : (s.dropStreams f).mgmt = s.mgmt := by
  unfold State.dropStreams; simp [State.ite_mgmt, State.foldl_mgmt]
@[simp] theorem State.dropStreams_time : (s.dropStreams f).time = s.time := by
  unfold State.dropStreams; simp [State.ite_time, State.foldl_time]
@[simp] theorem State.dropStreams_pcie : (s.dropStreams f).pcie = s.pcie := by
  unfold State.dropStreams; simp [State.ite_pcie, State.foldl_pcie]
@[simp] theorem State.dropStreams_mbx : (s.dropStreams f).mbx = s.mbx := by
  unfold State.dropStreams; simp [State.ite_mbx, State.foldl_mbx]
@[simp] theorem State.dropStreams_rings : (s.dropStreams f).rings = s.rings := by
  unfold State.dropStreams; simp [State.ite_rings, State.foldl_rings]
@[simp] theorem State.dropStreams_sessions : (s.dropStreams f).sessions = s.sessions := by
  unfold State.dropStreams; simp [State.ite_sessions, State.foldl_sessions]
@[simp] theorem State.dropStreams_images : (s.dropStreams f).images = s.images := by
  unfold State.dropStreams; simp [State.ite_images, State.foldl_images]
@[simp] theorem State.dropStreams_worlds : (s.dropStreams f).worlds = s.worlds := by
  unfold State.dropStreams; simp [State.ite_worlds, State.foldl_worlds]
@[simp] theorem State.dropStreams_clusters : (s.dropStreams f).clusters = s.clusters := by
  unfold State.dropStreams; simp [State.ite_clusters, State.foldl_clusters]
@[simp] theorem State.dropStreams_stks : (s.dropStreams f).stks = s.stks := by
  unfold State.dropStreams; simp [State.ite_stks, State.foldl_stks]
@[simp] theorem State.dropStreams_hub : (s.dropStreams f).hub = s.hub := by
  unfold State.dropStreams; simp [State.ite_hub, State.foldl_hub]
@[simp] theorem State.dropStreams_frame : (s.dropStreams f).frame = s.frame := by
  unfold State.dropStreams; simp [State.ite_frame, State.foldl_frame]
@[simp] theorem State.dropStreams_req : (s.dropStreams f).req = s.req := by
  unfold State.dropStreams; simp [State.ite_req, State.foldl_req]
@[simp] theorem State.dropStreams_det : (s.dropStreams f).det = s.det := by
  unfold State.dropStreams; simp [State.ite_det, State.foldl_det]
@[simp] theorem State.dropStreams_safety : (s.dropStreams f).safety = s.safety := by
  unfold State.dropStreams; simp [State.ite_safety, State.foldl_safety]
@[simp] theorem State.dropStreams_boot : (s.dropStreams f).boot = s.boot := by
  unfold State.dropStreams; simp [State.ite_boot, State.foldl_boot]
@[simp] theorem State.dropStreams_errors : (s.dropStreams f).errors = s.errors := by
  unfold State.dropStreams; simp [State.ite_errors, State.foldl_errors]
@[simp] theorem State.dropStreams_fabric : (s.dropStreams f).fabric = s.fabric := by
  unfold State.dropStreams; simp [State.ite_fabric, State.foldl_fabric]
@[simp] theorem State.dropStreams_farming : (s.dropStreams f).farming = s.farming := by
  unfold State.dropStreams; simp [State.ite_farming, State.foldl_farming]
@[simp] theorem State.dropStreams_obs : (s.dropStreams f).obs = s.obs := by
  unfold State.dropStreams; simp [State.ite_obs, State.foldl_obs]
@[simp] theorem State.dropStreams_host : (s.dropStreams f).host = s.host := by
  unfold State.dropStreams; simp [State.ite_host, State.foldl_host]
@[simp] theorem State.dropStreams_hbm : (s.dropStreams f).hbm = s.hbm := by
  unfold State.dropStreams; simp [State.ite_hbm, State.foldl_hbm]
@[simp] theorem State.dropStreams_sram : (s.dropStreams f).sram = s.sram := by
  unfold State.dropStreams; simp [State.ite_sram, State.foldl_sram]
@[simp] theorem State.dropStreams_saves : (s.dropStreams f).saves = s.saves := by
  unfold State.dropStreams; simp [State.ite_saves, State.foldl_saves]
@[simp] theorem State.dropStreams_free : (s.dropStreams f).free = s.free := by
  unfold State.dropStreams; simp [State.ite_free, State.foldl_free]
@[simp] theorem State.dropStreams_pending : (s.dropStreams f).pending = s.pending := by
  unfold State.dropStreams; simp [State.ite_pending, State.foldl_pending]
end

section
variable (i ca : Nat) (s : State)
@[simp] theorem State.closeSession_part : (s.closeSession i ca).part = s.part := by
  unfold State.closeSession; simp [State.ite_part, State.foldl_part]
@[simp] theorem State.closeSession_flash : (s.closeSession i ca).flash = s.flash := by
  unfold State.closeSession; simp [State.ite_flash, State.foldl_flash]
@[simp] theorem State.closeSession_aon : (s.closeSession i ca).aon = s.aon := by
  unfold State.closeSession; simp [State.ite_aon, State.foldl_aon]
@[simp] theorem State.closeSession_mgmt : (s.closeSession i ca).mgmt = s.mgmt := by
  unfold State.closeSession; simp [State.ite_mgmt, State.foldl_mgmt]
@[simp] theorem State.closeSession_time : (s.closeSession i ca).time = s.time := by
  unfold State.closeSession; simp [State.ite_time, State.foldl_time]
@[simp] theorem State.closeSession_images : (s.closeSession i ca).images = s.images := by
  unfold State.closeSession; simp [State.ite_images, State.foldl_images]
@[simp] theorem State.closeSession_worlds : (s.closeSession i ca).worlds = s.worlds := by
  unfold State.closeSession; simp [State.ite_worlds, State.foldl_worlds]
@[simp] theorem State.closeSession_frame : (s.closeSession i ca).frame = s.frame := by
  unfold State.closeSession; simp [State.ite_frame, State.foldl_frame]
@[simp] theorem State.closeSession_req : (s.closeSession i ca).req = s.req := by
  unfold State.closeSession; simp [State.ite_req, State.foldl_req]
@[simp] theorem State.closeSession_det : (s.closeSession i ca).det = s.det := by
  unfold State.closeSession; simp [State.ite_det, State.foldl_det]
@[simp] theorem State.closeSession_safety : (s.closeSession i ca).safety = s.safety := by
  unfold State.closeSession; simp [State.ite_safety, State.foldl_safety]
@[simp] theorem State.closeSession_boot : (s.closeSession i ca).boot = s.boot := by
  unfold State.closeSession; simp [State.ite_boot, State.foldl_boot]
@[simp] theorem State.closeSession_errors : (s.closeSession i ca).errors = s.errors := by
  unfold State.closeSession; simp [State.ite_errors, State.foldl_errors]
@[simp] theorem State.closeSession_fabric : (s.closeSession i ca).fabric = s.fabric := by
  unfold State.closeSession; simp [State.ite_fabric, State.foldl_fabric]
@[simp] theorem State.closeSession_farming : (s.closeSession i ca).farming = s.farming := by
  unfold State.closeSession; simp [State.ite_farming, State.foldl_farming]
@[simp] theorem State.closeSession_obs : (s.closeSession i ca).obs = s.obs := by
  unfold State.closeSession; simp [State.ite_obs, State.foldl_obs]
@[simp] theorem State.closeSession_hbm : (s.closeSession i ca).hbm = s.hbm := by
  unfold State.closeSession; simp [State.ite_hbm, State.foldl_hbm]
@[simp] theorem State.closeSession_sram : (s.closeSession i ca).sram = s.sram := by
  unfold State.closeSession; simp [State.ite_sram, State.foldl_sram]
@[simp] theorem State.closeSession_saves : (s.closeSession i ca).saves = s.saves := by
  unfold State.closeSession; simp [State.ite_saves, State.foldl_saves]
@[simp] theorem State.closeSession_free : (s.closeSession i ca).free = s.free := by
  unfold State.closeSession; simp [State.ite_free, State.foldl_free]
@[simp] theorem State.closeSession_pending : (s.closeSession i ca).pending = s.pending := by
  unfold State.closeSession; simp [State.ite_pending, State.foldl_pending]
end

section
variable (f : Session → Bool) (ca : Nat) (s : State)
@[simp] theorem State.closeSessions_part : (s.closeSessions f ca).part = s.part := by
  unfold State.closeSessions; simp [State.ite_part, State.foldl_part]
@[simp] theorem State.closeSessions_flash : (s.closeSessions f ca).flash = s.flash := by
  unfold State.closeSessions; simp [State.ite_flash, State.foldl_flash]
@[simp] theorem State.closeSessions_aon : (s.closeSessions f ca).aon = s.aon := by
  unfold State.closeSessions; simp [State.ite_aon, State.foldl_aon]
@[simp] theorem State.closeSessions_mgmt : (s.closeSessions f ca).mgmt = s.mgmt := by
  unfold State.closeSessions; simp [State.ite_mgmt, State.foldl_mgmt]
@[simp] theorem State.closeSessions_time : (s.closeSessions f ca).time = s.time := by
  unfold State.closeSessions; simp [State.ite_time, State.foldl_time]
@[simp] theorem State.closeSessions_images : (s.closeSessions f ca).images = s.images := by
  unfold State.closeSessions; simp [State.ite_images, State.foldl_images]
@[simp] theorem State.closeSessions_worlds : (s.closeSessions f ca).worlds = s.worlds := by
  unfold State.closeSessions; simp [State.ite_worlds, State.foldl_worlds]
@[simp] theorem State.closeSessions_frame : (s.closeSessions f ca).frame = s.frame := by
  unfold State.closeSessions; simp [State.ite_frame, State.foldl_frame]
@[simp] theorem State.closeSessions_req : (s.closeSessions f ca).req = s.req := by
  unfold State.closeSessions; simp [State.ite_req, State.foldl_req]
@[simp] theorem State.closeSessions_det : (s.closeSessions f ca).det = s.det := by
  unfold State.closeSessions; simp [State.ite_det, State.foldl_det]
@[simp] theorem State.closeSessions_safety : (s.closeSessions f ca).safety = s.safety := by
  unfold State.closeSessions; simp [State.ite_safety, State.foldl_safety]
@[simp] theorem State.closeSessions_boot : (s.closeSessions f ca).boot = s.boot := by
  unfold State.closeSessions; simp [State.ite_boot, State.foldl_boot]
@[simp] theorem State.closeSessions_errors : (s.closeSessions f ca).errors = s.errors := by
  unfold State.closeSessions; simp [State.ite_errors, State.foldl_errors]
@[simp] theorem State.closeSessions_fabric : (s.closeSessions f ca).fabric = s.fabric := by
  unfold State.closeSessions; simp [State.ite_fabric, State.foldl_fabric]
@[simp] theorem State.closeSessions_farming : (s.closeSessions f ca).farming = s.farming := by
  unfold State.closeSessions; simp [State.ite_farming, State.foldl_farming]
@[simp] theorem State.closeSessions_obs : (s.closeSessions f ca).obs = s.obs := by
  unfold State.closeSessions; simp [State.ite_obs, State.foldl_obs]
@[simp] theorem State.closeSessions_hbm : (s.closeSessions f ca).hbm = s.hbm := by
  unfold State.closeSessions; simp [State.ite_hbm, State.foldl_hbm]
@[simp] theorem State.closeSessions_sram : (s.closeSessions f ca).sram = s.sram := by
  unfold State.closeSessions; simp [State.ite_sram, State.foldl_sram]
@[simp] theorem State.closeSessions_saves : (s.closeSessions f ca).saves = s.saves := by
  unfold State.closeSessions; simp [State.ite_saves, State.foldl_saves]
@[simp] theorem State.closeSessions_free : (s.closeSessions f ca).free = s.free := by
  unfold State.closeSessions; simp [State.ite_free, State.foldl_free]
@[simp] theorem State.closeSessions_pending : (s.closeSessions f ca).pending = s.pending := by
  unfold State.closeSessions; simp [State.ite_pending, State.foldl_pending]
end

section
variable (i : Nat) (f : Flit) (s : State)
@[simp] theorem State.portSend_part : (s.portSend i f).part = s.part := by
  unfold State.portSend; simp [State.ite_part, State.foldl_part]
@[simp] theorem State.portSend_flash : (s.portSend i f).flash = s.flash := by
  unfold State.portSend; simp [State.ite_flash, State.foldl_flash]
@[simp] theorem State.portSend_aon : (s.portSend i f).aon = s.aon := by
  unfold State.portSend; simp [State.ite_aon, State.foldl_aon]
@[simp] theorem State.portSend_mgmt : (s.portSend i f).mgmt = s.mgmt := by
  unfold State.portSend; simp [State.ite_mgmt, State.foldl_mgmt]
@[simp] theorem State.portSend_time : (s.portSend i f).time = s.time := by
  unfold State.portSend; simp [State.ite_time, State.foldl_time]
@[simp] theorem State.portSend_pcie : (s.portSend i f).pcie = s.pcie := by
  unfold State.portSend; simp [State.ite_pcie, State.foldl_pcie]
@[simp] theorem State.portSend_mbx : (s.portSend i f).mbx = s.mbx := by
  unfold State.portSend; simp [State.ite_mbx, State.foldl_mbx]
@[simp] theorem State.portSend_rings : (s.portSend i f).rings = s.rings := by
  unfold State.portSend; simp [State.ite_rings, State.foldl_rings]
@[simp] theorem State.portSend_sessions : (s.portSend i f).sessions = s.sessions := by
  unfold State.portSend; simp [State.ite_sessions, State.foldl_sessions]
@[simp] theorem State.portSend_images : (s.portSend i f).images = s.images := by
  unfold State.portSend; simp [State.ite_images, State.foldl_images]
@[simp] theorem State.portSend_worlds : (s.portSend i f).worlds = s.worlds := by
  unfold State.portSend; simp [State.ite_worlds, State.foldl_worlds]
@[simp] theorem State.portSend_streams : (s.portSend i f).streams = s.streams := by
  unfold State.portSend; simp [State.ite_streams, State.foldl_streams]
@[simp] theorem State.portSend_clusters : (s.portSend i f).clusters = s.clusters := by
  unfold State.portSend; simp [State.ite_clusters, State.foldl_clusters]
@[simp] theorem State.portSend_stks : (s.portSend i f).stks = s.stks := by
  unfold State.portSend; simp [State.ite_stks, State.foldl_stks]
@[simp] theorem State.portSend_frame : (s.portSend i f).frame = s.frame := by
  unfold State.portSend; simp [State.ite_frame, State.foldl_frame]
@[simp] theorem State.portSend_req : (s.portSend i f).req = s.req := by
  unfold State.portSend; simp [State.ite_req, State.foldl_req]
@[simp] theorem State.portSend_det : (s.portSend i f).det = s.det := by
  unfold State.portSend; simp [State.ite_det, State.foldl_det]
@[simp] theorem State.portSend_safety : (s.portSend i f).safety = s.safety := by
  unfold State.portSend; simp [State.ite_safety, State.foldl_safety]
@[simp] theorem State.portSend_boot : (s.portSend i f).boot = s.boot := by
  unfold State.portSend; simp [State.ite_boot, State.foldl_boot]
@[simp] theorem State.portSend_errors : (s.portSend i f).errors = s.errors := by
  unfold State.portSend; simp [State.ite_errors, State.foldl_errors]
@[simp] theorem State.portSend_farming : (s.portSend i f).farming = s.farming := by
  unfold State.portSend; simp [State.ite_farming, State.foldl_farming]
@[simp] theorem State.portSend_obs : (s.portSend i f).obs = s.obs := by
  unfold State.portSend; simp [State.ite_obs, State.foldl_obs]
@[simp] theorem State.portSend_host : (s.portSend i f).host = s.host := by
  unfold State.portSend; simp [State.ite_host, State.foldl_host]
@[simp] theorem State.portSend_hbm : (s.portSend i f).hbm = s.hbm := by
  unfold State.portSend; simp [State.ite_hbm, State.foldl_hbm]
@[simp] theorem State.portSend_sram : (s.portSend i f).sram = s.sram := by
  unfold State.portSend; simp [State.ite_sram, State.foldl_sram]
@[simp] theorem State.portSend_saves : (s.portSend i f).saves = s.saves := by
  unfold State.portSend; simp [State.ite_saves, State.foldl_saves]
@[simp] theorem State.portSend_free : (s.portSend i f).free = s.free := by
  unfold State.portSend; simp [State.ite_free, State.foldl_free]
@[simp] theorem State.portSend_pending : (s.portSend i f).pending = s.pending := by
  unfold State.portSend; simp [State.ite_pending, State.foldl_pending]
end

section
variable (i vc : Nat) (s : State)
@[simp] theorem State.drainVc_part : (s.drainVc i vc).part = s.part := by
  unfold State.drainVc; simp [State.ite_part, State.foldl_part]
@[simp] theorem State.drainVc_flash : (s.drainVc i vc).flash = s.flash := by
  unfold State.drainVc; simp [State.ite_flash, State.foldl_flash]
@[simp] theorem State.drainVc_aon : (s.drainVc i vc).aon = s.aon := by
  unfold State.drainVc; simp [State.ite_aon, State.foldl_aon]
@[simp] theorem State.drainVc_mgmt : (s.drainVc i vc).mgmt = s.mgmt := by
  unfold State.drainVc; simp [State.ite_mgmt, State.foldl_mgmt]
@[simp] theorem State.drainVc_time : (s.drainVc i vc).time = s.time := by
  unfold State.drainVc; simp [State.ite_time, State.foldl_time]
@[simp] theorem State.drainVc_pcie : (s.drainVc i vc).pcie = s.pcie := by
  unfold State.drainVc; simp [State.ite_pcie, State.foldl_pcie]
@[simp] theorem State.drainVc_mbx : (s.drainVc i vc).mbx = s.mbx := by
  unfold State.drainVc; simp [State.ite_mbx, State.foldl_mbx]
@[simp] theorem State.drainVc_rings : (s.drainVc i vc).rings = s.rings := by
  unfold State.drainVc; simp [State.ite_rings, State.foldl_rings]
@[simp] theorem State.drainVc_sessions : (s.drainVc i vc).sessions = s.sessions := by
  unfold State.drainVc; simp [State.ite_sessions, State.foldl_sessions]
@[simp] theorem State.drainVc_images : (s.drainVc i vc).images = s.images := by
  unfold State.drainVc; simp [State.ite_images, State.foldl_images]
@[simp] theorem State.drainVc_worlds : (s.drainVc i vc).worlds = s.worlds := by
  unfold State.drainVc; simp [State.ite_worlds, State.foldl_worlds]
@[simp] theorem State.drainVc_streams : (s.drainVc i vc).streams = s.streams := by
  unfold State.drainVc; simp [State.ite_streams, State.foldl_streams]
@[simp] theorem State.drainVc_clusters : (s.drainVc i vc).clusters = s.clusters := by
  unfold State.drainVc; simp [State.ite_clusters, State.foldl_clusters]
@[simp] theorem State.drainVc_stks : (s.drainVc i vc).stks = s.stks := by
  unfold State.drainVc; simp [State.ite_stks, State.foldl_stks]
@[simp] theorem State.drainVc_frame : (s.drainVc i vc).frame = s.frame := by
  unfold State.drainVc; simp [State.ite_frame, State.foldl_frame]
@[simp] theorem State.drainVc_req : (s.drainVc i vc).req = s.req := by
  unfold State.drainVc; simp [State.ite_req, State.foldl_req]
@[simp] theorem State.drainVc_det : (s.drainVc i vc).det = s.det := by
  unfold State.drainVc; simp [State.ite_det, State.foldl_det]
@[simp] theorem State.drainVc_safety : (s.drainVc i vc).safety = s.safety := by
  unfold State.drainVc; simp [State.ite_safety, State.foldl_safety]
@[simp] theorem State.drainVc_boot : (s.drainVc i vc).boot = s.boot := by
  unfold State.drainVc; simp [State.ite_boot, State.foldl_boot]
@[simp] theorem State.drainVc_errors : (s.drainVc i vc).errors = s.errors := by
  unfold State.drainVc; simp [State.ite_errors, State.foldl_errors]
@[simp] theorem State.drainVc_farming : (s.drainVc i vc).farming = s.farming := by
  unfold State.drainVc; simp [State.ite_farming, State.foldl_farming]
@[simp] theorem State.drainVc_obs : (s.drainVc i vc).obs = s.obs := by
  unfold State.drainVc; simp [State.ite_obs, State.foldl_obs]
@[simp] theorem State.drainVc_host : (s.drainVc i vc).host = s.host := by
  unfold State.drainVc; simp [State.ite_host, State.foldl_host]
@[simp] theorem State.drainVc_hbm : (s.drainVc i vc).hbm = s.hbm := by
  unfold State.drainVc; simp [State.ite_hbm, State.foldl_hbm]
@[simp] theorem State.drainVc_sram : (s.drainVc i vc).sram = s.sram := by
  unfold State.drainVc; simp [State.ite_sram, State.foldl_sram]
@[simp] theorem State.drainVc_saves : (s.drainVc i vc).saves = s.saves := by
  unfold State.drainVc; simp [State.ite_saves, State.foldl_saves]
@[simp] theorem State.drainVc_free : (s.drainVc i vc).free = s.free := by
  unfold State.drainVc; simp [State.ite_free, State.foldl_free]
@[simp] theorem State.drainVc_pending : (s.drainVc i vc).pending = s.pending := by
  unfold State.drainVc; simp [State.ite_pending, State.foldl_pending]
end

section
variable (i vc : Nat) (s : State)
@[simp] theorem State.relayVc_part : (s.relayVc i vc).part = s.part := by
  unfold State.relayVc; simp (disch := (intros; (try dsimp only); (repeat' split) <;> simp [State.ite_part, State.foldl_part])) [State.ite_part, State.foldl_part]
@[simp] theorem State.relayVc_flash : (s.relayVc i vc).flash = s.flash := by
  unfold State.relayVc; simp (disch := (intros; (try dsimp only); (repeat' split) <;> simp [State.ite_flash, State.foldl_flash])) [State.ite_flash, State.foldl_flash]
@[simp] theorem State.relayVc_aon : (s.relayVc i vc).aon = s.aon := by
  unfold State.relayVc; simp (disch := (intros; (try dsimp only); (repeat' split) <;> simp [State.ite_aon, State.foldl_aon])) [State.ite_aon, State.foldl_aon]
@[simp] theorem State.relayVc_mgmt : (s.relayVc i vc).mgmt = s.mgmt := by
  unfold State.relayVc; simp (disch := (intros; (try dsimp only); (repeat' split) <;> simp [State.ite_mgmt, State.foldl_mgmt])) [State.ite_mgmt, State.foldl_mgmt]
@[simp] theorem State.relayVc_time : (s.relayVc i vc).time = s.time := by
  unfold State.relayVc; simp (disch := (intros; (try dsimp only); (repeat' split) <;> simp [State.ite_time, State.foldl_time])) [State.ite_time, State.foldl_time]
@[simp] theorem State.relayVc_pcie : (s.relayVc i vc).pcie = s.pcie := by
  unfold State.relayVc; simp (disch := (intros; (try dsimp only); (repeat' split) <;> simp [State.ite_pcie, State.foldl_pcie])) [State.ite_pcie, State.foldl_pcie]
@[simp] theorem State.relayVc_mbx : (s.relayVc i vc).mbx = s.mbx := by
  unfold State.relayVc; simp (disch := (intros; (try dsimp only); (repeat' split) <;> simp [State.ite_mbx, State.foldl_mbx])) [State.ite_mbx, State.foldl_mbx]
@[simp] theorem State.relayVc_rings : (s.relayVc i vc).rings = s.rings := by
  unfold State.relayVc; simp (disch := (intros; (try dsimp only); (repeat' split) <;> simp [State.ite_rings, State.foldl_rings])) [State.ite_rings, State.foldl_rings]
@[simp] theorem State.relayVc_sessions : (s.relayVc i vc).sessions = s.sessions := by
  unfold State.relayVc; simp (disch := (intros; (try dsimp only); (repeat' split) <;> simp [State.ite_sessions, State.foldl_sessions])) [State.ite_sessions, State.foldl_sessions]
@[simp] theorem State.relayVc_images : (s.relayVc i vc).images = s.images := by
  unfold State.relayVc; simp (disch := (intros; (try dsimp only); (repeat' split) <;> simp [State.ite_images, State.foldl_images])) [State.ite_images, State.foldl_images]
@[simp] theorem State.relayVc_worlds : (s.relayVc i vc).worlds = s.worlds := by
  unfold State.relayVc; simp (disch := (intros; (try dsimp only); (repeat' split) <;> simp [State.ite_worlds, State.foldl_worlds])) [State.ite_worlds, State.foldl_worlds]
@[simp] theorem State.relayVc_streams : (s.relayVc i vc).streams = s.streams := by
  unfold State.relayVc; simp (disch := (intros; (try dsimp only); (repeat' split) <;> simp [State.ite_streams, State.foldl_streams])) [State.ite_streams, State.foldl_streams]
@[simp] theorem State.relayVc_clusters : (s.relayVc i vc).clusters = s.clusters := by
  unfold State.relayVc; simp (disch := (intros; (try dsimp only); (repeat' split) <;> simp [State.ite_clusters, State.foldl_clusters])) [State.ite_clusters, State.foldl_clusters]
@[simp] theorem State.relayVc_stks : (s.relayVc i vc).stks = s.stks := by
  unfold State.relayVc; simp (disch := (intros; (try dsimp only); (repeat' split) <;> simp [State.ite_stks, State.foldl_stks])) [State.ite_stks, State.foldl_stks]
@[simp] theorem State.relayVc_frame : (s.relayVc i vc).frame = s.frame := by
  unfold State.relayVc; simp (disch := (intros; (try dsimp only); (repeat' split) <;> simp [State.ite_frame, State.foldl_frame])) [State.ite_frame, State.foldl_frame]
@[simp] theorem State.relayVc_req : (s.relayVc i vc).req = s.req := by
  unfold State.relayVc; simp (disch := (intros; (try dsimp only); (repeat' split) <;> simp [State.ite_req, State.foldl_req])) [State.ite_req, State.foldl_req]
@[simp] theorem State.relayVc_det : (s.relayVc i vc).det = s.det := by
  unfold State.relayVc; simp (disch := (intros; (try dsimp only); (repeat' split) <;> simp [State.ite_det, State.foldl_det])) [State.ite_det, State.foldl_det]
@[simp] theorem State.relayVc_safety : (s.relayVc i vc).safety = s.safety := by
  unfold State.relayVc; simp (disch := (intros; (try dsimp only); (repeat' split) <;> simp [State.ite_safety, State.foldl_safety])) [State.ite_safety, State.foldl_safety]
@[simp] theorem State.relayVc_boot : (s.relayVc i vc).boot = s.boot := by
  unfold State.relayVc; simp (disch := (intros; (try dsimp only); (repeat' split) <;> simp [State.ite_boot, State.foldl_boot])) [State.ite_boot, State.foldl_boot]
@[simp] theorem State.relayVc_errors : (s.relayVc i vc).errors = s.errors := by
  unfold State.relayVc; simp (disch := (intros; (try dsimp only); (repeat' split) <;> simp [State.ite_errors, State.foldl_errors])) [State.ite_errors, State.foldl_errors]
@[simp] theorem State.relayVc_farming : (s.relayVc i vc).farming = s.farming := by
  unfold State.relayVc; simp (disch := (intros; (try dsimp only); (repeat' split) <;> simp [State.ite_farming, State.foldl_farming])) [State.ite_farming, State.foldl_farming]
@[simp] theorem State.relayVc_obs : (s.relayVc i vc).obs = s.obs := by
  unfold State.relayVc; simp (disch := (intros; (try dsimp only); (repeat' split) <;> simp [State.ite_obs, State.foldl_obs])) [State.ite_obs, State.foldl_obs]
@[simp] theorem State.relayVc_host : (s.relayVc i vc).host = s.host := by
  unfold State.relayVc; simp (disch := (intros; (try dsimp only); (repeat' split) <;> simp [State.ite_host, State.foldl_host])) [State.ite_host, State.foldl_host]
@[simp] theorem State.relayVc_hbm : (s.relayVc i vc).hbm = s.hbm := by
  unfold State.relayVc; simp (disch := (intros; (try dsimp only); (repeat' split) <;> simp [State.ite_hbm, State.foldl_hbm])) [State.ite_hbm, State.foldl_hbm]
@[simp] theorem State.relayVc_sram : (s.relayVc i vc).sram = s.sram := by
  unfold State.relayVc; simp (disch := (intros; (try dsimp only); (repeat' split) <;> simp [State.ite_sram, State.foldl_sram])) [State.ite_sram, State.foldl_sram]
@[simp] theorem State.relayVc_saves : (s.relayVc i vc).saves = s.saves := by
  unfold State.relayVc; simp (disch := (intros; (try dsimp only); (repeat' split) <;> simp [State.ite_saves, State.foldl_saves])) [State.ite_saves, State.foldl_saves]
@[simp] theorem State.relayVc_free : (s.relayVc i vc).free = s.free := by
  unfold State.relayVc; simp (disch := (intros; (try dsimp only); (repeat' split) <;> simp [State.ite_free, State.foldl_free])) [State.ite_free, State.foldl_free]
@[simp] theorem State.relayVc_pending : (s.relayVc i vc).pending = s.pending := by
  unfold State.relayVc; simp (disch := (intros; (try dsimp only); (repeat' split) <;> simp [State.ite_pending, State.foldl_pending])) [State.ite_pending, State.foldl_pending]
end

section
variable (s : State)
@[simp] theorem State.pump_part : (s.pump).part = s.part := by
  unfold State.pump; simp [State.ite_part, State.foldl_part]
@[simp] theorem State.pump_flash : (s.pump).flash = s.flash := by
  unfold State.pump; simp [State.ite_flash, State.foldl_flash]
@[simp] theorem State.pump_aon : (s.pump).aon = s.aon := by
  unfold State.pump; simp [State.ite_aon, State.foldl_aon]
@[simp] theorem State.pump_mgmt : (s.pump).mgmt = s.mgmt := by
  unfold State.pump; simp [State.ite_mgmt, State.foldl_mgmt]
@[simp] theorem State.pump_time : (s.pump).time = s.time := by
  unfold State.pump; simp [State.ite_time, State.foldl_time]
@[simp] theorem State.pump_pcie : (s.pump).pcie = s.pcie := by
  unfold State.pump; simp [State.ite_pcie, State.foldl_pcie]
@[simp] theorem State.pump_mbx : (s.pump).mbx = s.mbx := by
  unfold State.pump; simp [State.ite_mbx, State.foldl_mbx]
@[simp] theorem State.pump_rings : (s.pump).rings = s.rings := by
  unfold State.pump; simp [State.ite_rings, State.foldl_rings]
@[simp] theorem State.pump_sessions : (s.pump).sessions = s.sessions := by
  unfold State.pump; simp [State.ite_sessions, State.foldl_sessions]
@[simp] theorem State.pump_images : (s.pump).images = s.images := by
  unfold State.pump; simp [State.ite_images, State.foldl_images]
@[simp] theorem State.pump_worlds : (s.pump).worlds = s.worlds := by
  unfold State.pump; simp [State.ite_worlds, State.foldl_worlds]
@[simp] theorem State.pump_streams : (s.pump).streams = s.streams := by
  unfold State.pump; simp [State.ite_streams, State.foldl_streams]
@[simp] theorem State.pump_clusters : (s.pump).clusters = s.clusters := by
  unfold State.pump; simp [State.ite_clusters, State.foldl_clusters]
@[simp] theorem State.pump_stks : (s.pump).stks = s.stks := by
  unfold State.pump; simp [State.ite_stks, State.foldl_stks]
@[simp] theorem State.pump_frame : (s.pump).frame = s.frame := by
  unfold State.pump; simp [State.ite_frame, State.foldl_frame]
@[simp] theorem State.pump_req : (s.pump).req = s.req := by
  unfold State.pump; simp [State.ite_req, State.foldl_req]
@[simp] theorem State.pump_det : (s.pump).det = s.det := by
  unfold State.pump; simp [State.ite_det, State.foldl_det]
@[simp] theorem State.pump_safety : (s.pump).safety = s.safety := by
  unfold State.pump; simp [State.ite_safety, State.foldl_safety]
@[simp] theorem State.pump_boot : (s.pump).boot = s.boot := by
  unfold State.pump; simp [State.ite_boot, State.foldl_boot]
@[simp] theorem State.pump_errors : (s.pump).errors = s.errors := by
  unfold State.pump; simp [State.ite_errors, State.foldl_errors]
@[simp] theorem State.pump_farming : (s.pump).farming = s.farming := by
  unfold State.pump; simp [State.ite_farming, State.foldl_farming]
@[simp] theorem State.pump_obs : (s.pump).obs = s.obs := by
  unfold State.pump; simp [State.ite_obs, State.foldl_obs]
@[simp] theorem State.pump_host : (s.pump).host = s.host := by
  unfold State.pump; simp [State.ite_host, State.foldl_host]
@[simp] theorem State.pump_hbm : (s.pump).hbm = s.hbm := by
  unfold State.pump; simp [State.ite_hbm, State.foldl_hbm]
@[simp] theorem State.pump_sram : (s.pump).sram = s.sram := by
  unfold State.pump; simp [State.ite_sram, State.foldl_sram]
@[simp] theorem State.pump_saves : (s.pump).saves = s.saves := by
  unfold State.pump; simp [State.ite_saves, State.foldl_saves]
@[simp] theorem State.pump_free : (s.pump).free = s.free := by
  unfold State.pump; simp [State.ite_free, State.foldl_free]
@[simp] theorem State.pump_pending : (s.pump).pending = s.pending := by
  unfold State.pump; simp [State.ite_pending, State.foldl_pending]
end

section
variable (l : List Nat) (d : Nat) (b : List Byte) (s : State)
@[simp] theorem State.controlTo_part : (s.controlTo l d b).part = s.part := by
  unfold State.controlTo
  exact (State.foldl_part _ (by simp) _ _).trans (State.foldl_part _ (fun s b => (State.foldl_part _ (by simp) _ _).trans (by simp)) _ _)
@[simp] theorem State.controlTo_flash : (s.controlTo l d b).flash = s.flash := by
  unfold State.controlTo
  exact (State.foldl_flash _ (by simp) _ _).trans (State.foldl_flash _ (fun s b => (State.foldl_flash _ (by simp) _ _).trans (by simp)) _ _)
@[simp] theorem State.controlTo_aon : (s.controlTo l d b).aon = s.aon := by
  unfold State.controlTo
  exact (State.foldl_aon _ (by simp) _ _).trans (State.foldl_aon _ (fun s b => (State.foldl_aon _ (by simp) _ _).trans (by simp)) _ _)
@[simp] theorem State.controlTo_mgmt : (s.controlTo l d b).mgmt = s.mgmt := by
  unfold State.controlTo
  exact (State.foldl_mgmt _ (by simp) _ _).trans (State.foldl_mgmt _ (fun s b => (State.foldl_mgmt _ (by simp) _ _).trans (by simp)) _ _)
@[simp] theorem State.controlTo_time : (s.controlTo l d b).time = s.time := by
  unfold State.controlTo
  exact (State.foldl_time _ (by simp) _ _).trans (State.foldl_time _ (fun s b => (State.foldl_time _ (by simp) _ _).trans (by simp)) _ _)
@[simp] theorem State.controlTo_pcie : (s.controlTo l d b).pcie = s.pcie := by
  unfold State.controlTo
  exact (State.foldl_pcie _ (by simp) _ _).trans (State.foldl_pcie _ (fun s b => (State.foldl_pcie _ (by simp) _ _).trans (by simp)) _ _)
@[simp] theorem State.controlTo_mbx : (s.controlTo l d b).mbx = s.mbx := by
  unfold State.controlTo
  exact (State.foldl_mbx _ (by simp) _ _).trans (State.foldl_mbx _ (fun s b => (State.foldl_mbx _ (by simp) _ _).trans (by simp)) _ _)
@[simp] theorem State.controlTo_rings : (s.controlTo l d b).rings = s.rings := by
  unfold State.controlTo
  exact (State.foldl_rings _ (by simp) _ _).trans (State.foldl_rings _ (fun s b => (State.foldl_rings _ (by simp) _ _).trans (by simp)) _ _)
@[simp] theorem State.controlTo_sessions : (s.controlTo l d b).sessions = s.sessions := by
  unfold State.controlTo
  exact (State.foldl_sessions _ (by simp) _ _).trans (State.foldl_sessions _ (fun s b => (State.foldl_sessions _ (by simp) _ _).trans (by simp)) _ _)
@[simp] theorem State.controlTo_images : (s.controlTo l d b).images = s.images := by
  unfold State.controlTo
  exact (State.foldl_images _ (by simp) _ _).trans (State.foldl_images _ (fun s b => (State.foldl_images _ (by simp) _ _).trans (by simp)) _ _)
@[simp] theorem State.controlTo_worlds : (s.controlTo l d b).worlds = s.worlds := by
  unfold State.controlTo
  exact (State.foldl_worlds _ (by simp) _ _).trans (State.foldl_worlds _ (fun s b => (State.foldl_worlds _ (by simp) _ _).trans (by simp)) _ _)
@[simp] theorem State.controlTo_streams : (s.controlTo l d b).streams = s.streams := by
  unfold State.controlTo
  exact (State.foldl_streams _ (by simp) _ _).trans (State.foldl_streams _ (fun s b => (State.foldl_streams _ (by simp) _ _).trans (by simp)) _ _)
@[simp] theorem State.controlTo_clusters : (s.controlTo l d b).clusters = s.clusters := by
  unfold State.controlTo
  exact (State.foldl_clusters _ (by simp) _ _).trans (State.foldl_clusters _ (fun s b => (State.foldl_clusters _ (by simp) _ _).trans (by simp)) _ _)
@[simp] theorem State.controlTo_stks : (s.controlTo l d b).stks = s.stks := by
  unfold State.controlTo
  exact (State.foldl_stks _ (by simp) _ _).trans (State.foldl_stks _ (fun s b => (State.foldl_stks _ (by simp) _ _).trans (by simp)) _ _)
@[simp] theorem State.controlTo_frame : (s.controlTo l d b).frame = s.frame := by
  unfold State.controlTo
  exact (State.foldl_frame _ (by simp) _ _).trans (State.foldl_frame _ (fun s b => (State.foldl_frame _ (by simp) _ _).trans (by simp)) _ _)
@[simp] theorem State.controlTo_req : (s.controlTo l d b).req = s.req := by
  unfold State.controlTo
  exact (State.foldl_req _ (by simp) _ _).trans (State.foldl_req _ (fun s b => (State.foldl_req _ (by simp) _ _).trans (by simp)) _ _)
@[simp] theorem State.controlTo_det : (s.controlTo l d b).det = s.det := by
  unfold State.controlTo
  exact (State.foldl_det _ (by simp) _ _).trans (State.foldl_det _ (fun s b => (State.foldl_det _ (by simp) _ _).trans (by simp)) _ _)
@[simp] theorem State.controlTo_safety : (s.controlTo l d b).safety = s.safety := by
  unfold State.controlTo
  exact (State.foldl_safety _ (by simp) _ _).trans (State.foldl_safety _ (fun s b => (State.foldl_safety _ (by simp) _ _).trans (by simp)) _ _)
@[simp] theorem State.controlTo_boot : (s.controlTo l d b).boot = s.boot := by
  unfold State.controlTo
  exact (State.foldl_boot _ (by simp) _ _).trans (State.foldl_boot _ (fun s b => (State.foldl_boot _ (by simp) _ _).trans (by simp)) _ _)
@[simp] theorem State.controlTo_errors : (s.controlTo l d b).errors = s.errors := by
  unfold State.controlTo
  exact (State.foldl_errors _ (by simp) _ _).trans (State.foldl_errors _ (fun s b => (State.foldl_errors _ (by simp) _ _).trans (by simp)) _ _)
@[simp] theorem State.controlTo_farming : (s.controlTo l d b).farming = s.farming := by
  unfold State.controlTo
  exact (State.foldl_farming _ (by simp) _ _).trans (State.foldl_farming _ (fun s b => (State.foldl_farming _ (by simp) _ _).trans (by simp)) _ _)
@[simp] theorem State.controlTo_obs : (s.controlTo l d b).obs = s.obs := by
  unfold State.controlTo
  exact (State.foldl_obs _ (by simp) _ _).trans (State.foldl_obs _ (fun s b => (State.foldl_obs _ (by simp) _ _).trans (by simp)) _ _)
@[simp] theorem State.controlTo_host : (s.controlTo l d b).host = s.host := by
  unfold State.controlTo
  exact (State.foldl_host _ (by simp) _ _).trans (State.foldl_host _ (fun s b => (State.foldl_host _ (by simp) _ _).trans (by simp)) _ _)
@[simp] theorem State.controlTo_hbm : (s.controlTo l d b).hbm = s.hbm := by
  unfold State.controlTo
  exact (State.foldl_hbm _ (by simp) _ _).trans (State.foldl_hbm _ (fun s b => (State.foldl_hbm _ (by simp) _ _).trans (by simp)) _ _)
@[simp] theorem State.controlTo_sram : (s.controlTo l d b).sram = s.sram := by
  unfold State.controlTo
  exact (State.foldl_sram _ (by simp) _ _).trans (State.foldl_sram _ (fun s b => (State.foldl_sram _ (by simp) _ _).trans (by simp)) _ _)
@[simp] theorem State.controlTo_saves : (s.controlTo l d b).saves = s.saves := by
  unfold State.controlTo
  exact (State.foldl_saves _ (by simp) _ _).trans (State.foldl_saves _ (fun s b => (State.foldl_saves _ (by simp) _ _).trans (by simp)) _ _)
@[simp] theorem State.controlTo_free : (s.controlTo l d b).free = s.free := by
  unfold State.controlTo
  exact (State.foldl_free _ (by simp) _ _).trans (State.foldl_free _ (fun s b => (State.foldl_free _ (by simp) _ _).trans (by simp)) _ _)
@[simp] theorem State.controlTo_pending : (s.controlTo l d b).pending = s.pending := by
  unfold State.controlTo
  exact (State.foldl_pending _ (by simp) _ _).trans (State.foldl_pending _ (fun s b => (State.foldl_pending _ (by simp) _ _).trans (by simp)) _ _)
end

section
variable (u : Nat) (b : List Byte) (s : State)
@[simp] theorem State.flood_part : (s.flood u b).part = s.part := by
  unfold State.flood; simp [State.ite_part, State.foldl_part]
@[simp] theorem State.flood_flash : (s.flood u b).flash = s.flash := by
  unfold State.flood; simp [State.ite_flash, State.foldl_flash]
@[simp] theorem State.flood_aon : (s.flood u b).aon = s.aon := by
  unfold State.flood; simp [State.ite_aon, State.foldl_aon]
@[simp] theorem State.flood_mgmt : (s.flood u b).mgmt = s.mgmt := by
  unfold State.flood; simp [State.ite_mgmt, State.foldl_mgmt]
@[simp] theorem State.flood_time : (s.flood u b).time = s.time := by
  unfold State.flood; simp [State.ite_time, State.foldl_time]
@[simp] theorem State.flood_pcie : (s.flood u b).pcie = s.pcie := by
  unfold State.flood; simp [State.ite_pcie, State.foldl_pcie]
@[simp] theorem State.flood_mbx : (s.flood u b).mbx = s.mbx := by
  unfold State.flood; simp [State.ite_mbx, State.foldl_mbx]
@[simp] theorem State.flood_rings : (s.flood u b).rings = s.rings := by
  unfold State.flood; simp [State.ite_rings, State.foldl_rings]
@[simp] theorem State.flood_sessions : (s.flood u b).sessions = s.sessions := by
  unfold State.flood; simp [State.ite_sessions, State.foldl_sessions]
@[simp] theorem State.flood_images : (s.flood u b).images = s.images := by
  unfold State.flood; simp [State.ite_images, State.foldl_images]
@[simp] theorem State.flood_worlds : (s.flood u b).worlds = s.worlds := by
  unfold State.flood; simp [State.ite_worlds, State.foldl_worlds]
@[simp] theorem State.flood_streams : (s.flood u b).streams = s.streams := by
  unfold State.flood; simp [State.ite_streams, State.foldl_streams]
@[simp] theorem State.flood_clusters : (s.flood u b).clusters = s.clusters := by
  unfold State.flood; simp [State.ite_clusters, State.foldl_clusters]
@[simp] theorem State.flood_stks : (s.flood u b).stks = s.stks := by
  unfold State.flood; simp [State.ite_stks, State.foldl_stks]
@[simp] theorem State.flood_frame : (s.flood u b).frame = s.frame := by
  unfold State.flood; simp [State.ite_frame, State.foldl_frame]
@[simp] theorem State.flood_req : (s.flood u b).req = s.req := by
  unfold State.flood; simp [State.ite_req, State.foldl_req]
@[simp] theorem State.flood_det : (s.flood u b).det = s.det := by
  unfold State.flood; simp [State.ite_det, State.foldl_det]
@[simp] theorem State.flood_safety : (s.flood u b).safety = s.safety := by
  unfold State.flood; simp [State.ite_safety, State.foldl_safety]
@[simp] theorem State.flood_boot : (s.flood u b).boot = s.boot := by
  unfold State.flood; simp [State.ite_boot, State.foldl_boot]
@[simp] theorem State.flood_errors : (s.flood u b).errors = s.errors := by
  unfold State.flood; simp [State.ite_errors, State.foldl_errors]
@[simp] theorem State.flood_farming : (s.flood u b).farming = s.farming := by
  unfold State.flood; simp [State.ite_farming, State.foldl_farming]
@[simp] theorem State.flood_obs : (s.flood u b).obs = s.obs := by
  unfold State.flood; simp [State.ite_obs, State.foldl_obs]
@[simp] theorem State.flood_host : (s.flood u b).host = s.host := by
  unfold State.flood; simp [State.ite_host, State.foldl_host]
@[simp] theorem State.flood_hbm : (s.flood u b).hbm = s.hbm := by
  unfold State.flood; simp [State.ite_hbm, State.foldl_hbm]
@[simp] theorem State.flood_sram : (s.flood u b).sram = s.sram := by
  unfold State.flood; simp [State.ite_sram, State.foldl_sram]
@[simp] theorem State.flood_saves : (s.flood u b).saves = s.saves := by
  unfold State.flood; simp [State.ite_saves, State.foldl_saves]
@[simp] theorem State.flood_free : (s.flood u b).free = s.free := by
  unfold State.flood; simp [State.ite_free, State.foldl_free]
@[simp] theorem State.flood_pending : (s.flood u b).pending = s.pending := by
  unfold State.flood; simp [State.ite_pending, State.foldl_pending]
end

section
variable (s : State)
@[simp] theorem State.sendControl_part : (s.sendControl).part = s.part := by
  unfold State.sendControl; simp (disch := (intros; (try dsimp only); (repeat' split) <;> simp [State.ite_part, State.foldl_part])) [State.ite_part, State.foldl_part]
@[simp] theorem State.sendControl_flash : (s.sendControl).flash = s.flash := by
  unfold State.sendControl; simp (disch := (intros; (try dsimp only); (repeat' split) <;> simp [State.ite_flash, State.foldl_flash])) [State.ite_flash, State.foldl_flash]
@[simp] theorem State.sendControl_aon : (s.sendControl).aon = s.aon := by
  unfold State.sendControl; simp (disch := (intros; (try dsimp only); (repeat' split) <;> simp [State.ite_aon, State.foldl_aon])) [State.ite_aon, State.foldl_aon]
@[simp] theorem State.sendControl_mgmt : (s.sendControl).mgmt = s.mgmt := by
  unfold State.sendControl; simp (disch := (intros; (try dsimp only); (repeat' split) <;> simp [State.ite_mgmt, State.foldl_mgmt])) [State.ite_mgmt, State.foldl_mgmt]
@[simp] theorem State.sendControl_time : (s.sendControl).time = s.time := by
  unfold State.sendControl; simp (disch := (intros; (try dsimp only); (repeat' split) <;> simp [State.ite_time, State.foldl_time])) [State.ite_time, State.foldl_time]
@[simp] theorem State.sendControl_pcie : (s.sendControl).pcie = s.pcie := by
  unfold State.sendControl; simp (disch := (intros; (try dsimp only); (repeat' split) <;> simp [State.ite_pcie, State.foldl_pcie])) [State.ite_pcie, State.foldl_pcie]
@[simp] theorem State.sendControl_mbx : (s.sendControl).mbx = s.mbx := by
  unfold State.sendControl; simp (disch := (intros; (try dsimp only); (repeat' split) <;> simp [State.ite_mbx, State.foldl_mbx])) [State.ite_mbx, State.foldl_mbx]
@[simp] theorem State.sendControl_rings : (s.sendControl).rings = s.rings := by
  unfold State.sendControl; simp (disch := (intros; (try dsimp only); (repeat' split) <;> simp [State.ite_rings, State.foldl_rings])) [State.ite_rings, State.foldl_rings]
@[simp] theorem State.sendControl_sessions : (s.sendControl).sessions = s.sessions := by
  unfold State.sendControl; simp (disch := (intros; (try dsimp only); (repeat' split) <;> simp [State.ite_sessions, State.foldl_sessions])) [State.ite_sessions, State.foldl_sessions]
@[simp] theorem State.sendControl_images : (s.sendControl).images = s.images := by
  unfold State.sendControl; simp (disch := (intros; (try dsimp only); (repeat' split) <;> simp [State.ite_images, State.foldl_images])) [State.ite_images, State.foldl_images]
@[simp] theorem State.sendControl_worlds : (s.sendControl).worlds = s.worlds := by
  unfold State.sendControl; simp (disch := (intros; (try dsimp only); (repeat' split) <;> simp [State.ite_worlds, State.foldl_worlds])) [State.ite_worlds, State.foldl_worlds]
@[simp] theorem State.sendControl_streams : (s.sendControl).streams = s.streams := by
  unfold State.sendControl; simp (disch := (intros; (try dsimp only); (repeat' split) <;> simp [State.ite_streams, State.foldl_streams])) [State.ite_streams, State.foldl_streams]
@[simp] theorem State.sendControl_clusters : (s.sendControl).clusters = s.clusters := by
  unfold State.sendControl; simp (disch := (intros; (try dsimp only); (repeat' split) <;> simp [State.ite_clusters, State.foldl_clusters])) [State.ite_clusters, State.foldl_clusters]
@[simp] theorem State.sendControl_stks : (s.sendControl).stks = s.stks := by
  unfold State.sendControl; simp (disch := (intros; (try dsimp only); (repeat' split) <;> simp [State.ite_stks, State.foldl_stks])) [State.ite_stks, State.foldl_stks]
@[simp] theorem State.sendControl_frame : (s.sendControl).frame = s.frame := by
  unfold State.sendControl; simp (disch := (intros; (try dsimp only); (repeat' split) <;> simp [State.ite_frame, State.foldl_frame])) [State.ite_frame, State.foldl_frame]
@[simp] theorem State.sendControl_req : (s.sendControl).req = s.req := by
  unfold State.sendControl; simp (disch := (intros; (try dsimp only); (repeat' split) <;> simp [State.ite_req, State.foldl_req])) [State.ite_req, State.foldl_req]
@[simp] theorem State.sendControl_det : (s.sendControl).det = s.det := by
  unfold State.sendControl; simp (disch := (intros; (try dsimp only); (repeat' split) <;> simp [State.ite_det, State.foldl_det])) [State.ite_det, State.foldl_det]
@[simp] theorem State.sendControl_safety : (s.sendControl).safety = s.safety := by
  unfold State.sendControl; simp (disch := (intros; (try dsimp only); (repeat' split) <;> simp [State.ite_safety, State.foldl_safety])) [State.ite_safety, State.foldl_safety]
@[simp] theorem State.sendControl_boot : (s.sendControl).boot = s.boot := by
  unfold State.sendControl; simp (disch := (intros; (try dsimp only); (repeat' split) <;> simp [State.ite_boot, State.foldl_boot])) [State.ite_boot, State.foldl_boot]
@[simp] theorem State.sendControl_errors : (s.sendControl).errors = s.errors := by
  unfold State.sendControl; simp (disch := (intros; (try dsimp only); (repeat' split) <;> simp [State.ite_errors, State.foldl_errors])) [State.ite_errors, State.foldl_errors]
@[simp] theorem State.sendControl_farming : (s.sendControl).farming = s.farming := by
  unfold State.sendControl; simp (disch := (intros; (try dsimp only); (repeat' split) <;> simp [State.ite_farming, State.foldl_farming])) [State.ite_farming, State.foldl_farming]
@[simp] theorem State.sendControl_obs : (s.sendControl).obs = s.obs := by
  unfold State.sendControl; simp (disch := (intros; (try dsimp only); (repeat' split) <;> simp [State.ite_obs, State.foldl_obs])) [State.ite_obs, State.foldl_obs]
@[simp] theorem State.sendControl_host : (s.sendControl).host = s.host := by
  unfold State.sendControl; simp (disch := (intros; (try dsimp only); (repeat' split) <;> simp [State.ite_host, State.foldl_host])) [State.ite_host, State.foldl_host]
@[simp] theorem State.sendControl_hbm : (s.sendControl).hbm = s.hbm := by
  unfold State.sendControl; simp (disch := (intros; (try dsimp only); (repeat' split) <;> simp [State.ite_hbm, State.foldl_hbm])) [State.ite_hbm, State.foldl_hbm]
@[simp] theorem State.sendControl_sram : (s.sendControl).sram = s.sram := by
  unfold State.sendControl; simp (disch := (intros; (try dsimp only); (repeat' split) <;> simp [State.ite_sram, State.foldl_sram])) [State.ite_sram, State.foldl_sram]
@[simp] theorem State.sendControl_saves : (s.sendControl).saves = s.saves := by
  unfold State.sendControl; simp (disch := (intros; (try dsimp only); (repeat' split) <;> simp [State.ite_saves, State.foldl_saves])) [State.ite_saves, State.foldl_saves]
@[simp] theorem State.sendControl_free : (s.sendControl).free = s.free := by
  unfold State.sendControl; simp (disch := (intros; (try dsimp only); (repeat' split) <;> simp [State.ite_free, State.foldl_free])) [State.ite_free, State.foldl_free]
@[simp] theorem State.sendControl_pending : (s.sendControl).pending = s.pending := by
  unfold State.sendControl; simp (disch := (intros; (try dsimp only); (repeat' split) <;> simp [State.ite_pending, State.foldl_pending])) [State.ite_pending, State.foldl_pending]
end

section
variable (vc k : Nat) (g : FabMsg → FabMsg) (s : State)
@[simp] theorem State.modMsg_part : (s.modMsg vc k g).part = s.part := rfl
@[simp] theorem State.modMsg_flash : (s.modMsg vc k g).flash = s.flash := rfl
@[simp] theorem State.modMsg_aon : (s.modMsg vc k g).aon = s.aon := rfl
@[simp] theorem State.modMsg_mgmt : (s.modMsg vc k g).mgmt = s.mgmt := rfl
@[simp] theorem State.modMsg_time : (s.modMsg vc k g).time = s.time := rfl
@[simp] theorem State.modMsg_pcie : (s.modMsg vc k g).pcie = s.pcie := rfl
@[simp] theorem State.modMsg_mbx : (s.modMsg vc k g).mbx = s.mbx := rfl
@[simp] theorem State.modMsg_rings : (s.modMsg vc k g).rings = s.rings := rfl
@[simp] theorem State.modMsg_sessions : (s.modMsg vc k g).sessions = s.sessions := rfl
@[simp] theorem State.modMsg_images : (s.modMsg vc k g).images = s.images := rfl
@[simp] theorem State.modMsg_worlds : (s.modMsg vc k g).worlds = s.worlds := rfl
@[simp] theorem State.modMsg_streams : (s.modMsg vc k g).streams = s.streams := rfl
@[simp] theorem State.modMsg_clusters : (s.modMsg vc k g).clusters = s.clusters := rfl
@[simp] theorem State.modMsg_stks : (s.modMsg vc k g).stks = s.stks := rfl
@[simp] theorem State.modMsg_frame : (s.modMsg vc k g).frame = s.frame := rfl
@[simp] theorem State.modMsg_req : (s.modMsg vc k g).req = s.req := rfl
@[simp] theorem State.modMsg_det : (s.modMsg vc k g).det = s.det := rfl
@[simp] theorem State.modMsg_safety : (s.modMsg vc k g).safety = s.safety := rfl
@[simp] theorem State.modMsg_boot : (s.modMsg vc k g).boot = s.boot := rfl
@[simp] theorem State.modMsg_errors : (s.modMsg vc k g).errors = s.errors := rfl
@[simp] theorem State.modMsg_farming : (s.modMsg vc k g).farming = s.farming := rfl
@[simp] theorem State.modMsg_obs : (s.modMsg vc k g).obs = s.obs := rfl
@[simp] theorem State.modMsg_host : (s.modMsg vc k g).host = s.host := rfl
@[simp] theorem State.modMsg_hbm : (s.modMsg vc k g).hbm = s.hbm := rfl
@[simp] theorem State.modMsg_sram : (s.modMsg vc k g).sram = s.sram := rfl
@[simp] theorem State.modMsg_saves : (s.modMsg vc k g).saves = s.saves := rfl
@[simp] theorem State.modMsg_free : (s.modMsg vc k g).free = s.free := rfl
@[simp] theorem State.modMsg_pending : (s.modMsg vc k g).pending = s.pending := rfl
end

section
variable (m : FabMsg) (s : State)
@[simp] theorem State.dropMsg_part : (s.dropMsg m).part = s.part := by
  unfold State.dropMsg State.freeLanding; dsimp only; (repeat' split) <;> simp
@[simp] theorem State.dropMsg_flash : (s.dropMsg m).flash = s.flash := by
  unfold State.dropMsg State.freeLanding; dsimp only; (repeat' split) <;> simp
@[simp] theorem State.dropMsg_aon : (s.dropMsg m).aon = s.aon := by
  unfold State.dropMsg State.freeLanding; dsimp only; (repeat' split) <;> simp
@[simp] theorem State.dropMsg_mgmt : (s.dropMsg m).mgmt = s.mgmt := by
  unfold State.dropMsg State.freeLanding; dsimp only; (repeat' split) <;> simp
@[simp] theorem State.dropMsg_time : (s.dropMsg m).time = s.time := by
  unfold State.dropMsg State.freeLanding; dsimp only; (repeat' split) <;> simp
@[simp] theorem State.dropMsg_pcie : (s.dropMsg m).pcie = s.pcie := by
  unfold State.dropMsg State.freeLanding; dsimp only; (repeat' split) <;> simp
@[simp] theorem State.dropMsg_rings : (s.dropMsg m).rings = s.rings := by
  unfold State.dropMsg State.freeLanding; dsimp only; (repeat' split) <;> simp
@[simp] theorem State.dropMsg_sessions : (s.dropMsg m).sessions = s.sessions := by
  unfold State.dropMsg State.freeLanding; dsimp only; (repeat' split) <;> simp
@[simp] theorem State.dropMsg_images : (s.dropMsg m).images = s.images := by
  unfold State.dropMsg State.freeLanding; dsimp only; (repeat' split) <;> simp
@[simp] theorem State.dropMsg_streams : (s.dropMsg m).streams = s.streams := by
  unfold State.dropMsg State.freeLanding; dsimp only; (repeat' split) <;> simp
@[simp] theorem State.dropMsg_clusters : (s.dropMsg m).clusters = s.clusters := by
  unfold State.dropMsg State.freeLanding; dsimp only; (repeat' split) <;> simp
@[simp] theorem State.dropMsg_stks : (s.dropMsg m).stks = s.stks := by
  unfold State.dropMsg State.freeLanding; dsimp only; (repeat' split) <;> simp
@[simp] theorem State.dropMsg_frame : (s.dropMsg m).frame = s.frame := by
  unfold State.dropMsg State.freeLanding; dsimp only; (repeat' split) <;> simp
@[simp] theorem State.dropMsg_req : (s.dropMsg m).req = s.req := by
  unfold State.dropMsg State.freeLanding; dsimp only; (repeat' split) <;> simp
@[simp] theorem State.dropMsg_det : (s.dropMsg m).det = s.det := by
  unfold State.dropMsg State.freeLanding; dsimp only; (repeat' split) <;> simp
@[simp] theorem State.dropMsg_safety : (s.dropMsg m).safety = s.safety := by
  unfold State.dropMsg State.freeLanding; dsimp only; (repeat' split) <;> simp
@[simp] theorem State.dropMsg_boot : (s.dropMsg m).boot = s.boot := by
  unfold State.dropMsg State.freeLanding; dsimp only; (repeat' split) <;> simp
@[simp] theorem State.dropMsg_errors : (s.dropMsg m).errors = s.errors := by
  unfold State.dropMsg State.freeLanding; dsimp only; (repeat' split) <;> simp
@[simp] theorem State.dropMsg_farming : (s.dropMsg m).farming = s.farming := by
  unfold State.dropMsg State.freeLanding; dsimp only; (repeat' split) <;> simp
@[simp] theorem State.dropMsg_obs : (s.dropMsg m).obs = s.obs := by
  unfold State.dropMsg State.freeLanding; dsimp only; (repeat' split) <;> simp
@[simp] theorem State.dropMsg_host : (s.dropMsg m).host = s.host := by
  unfold State.dropMsg State.freeLanding; dsimp only; (repeat' split) <;> simp
@[simp] theorem State.dropMsg_hbm : (s.dropMsg m).hbm = s.hbm := by
  unfold State.dropMsg State.freeLanding; dsimp only; (repeat' split) <;> simp
@[simp] theorem State.dropMsg_sram : (s.dropMsg m).sram = s.sram := by
  unfold State.dropMsg State.freeLanding; dsimp only; (repeat' split) <;> simp
@[simp] theorem State.dropMsg_saves : (s.dropMsg m).saves = s.saves := by
  unfold State.dropMsg State.freeLanding; dsimp only; (repeat' split) <;> simp
@[simp] theorem State.dropMsg_free : (s.dropMsg m).free = s.free := by
  unfold State.dropMsg State.freeLanding; dsimp only; (repeat' split) <;> simp
@[simp] theorem State.dropMsg_pending : (s.dropMsg m).pending = s.pending := by
  unfold State.dropMsg State.freeLanding; dsimp only; (repeat' split) <;> simp
end

section
variable (s : State)
@[simp] theorem State.requestGrants_part : (s.requestGrants).part = s.part := by
  unfold State.requestGrants
  split
  · refine State.foldl_part _ ?_ _ _
    intro s m
    cases h : s.portTo m.dst <;> simp [h]
  · rfl
@[simp] theorem State.requestGrants_flash : (s.requestGrants).flash = s.flash := by
  unfold State.requestGrants
  split
  · refine State.foldl_flash _ ?_ _ _
    intro s m
    cases h : s.portTo m.dst <;> simp [h]
  · rfl
@[simp] theorem State.requestGrants_aon : (s.requestGrants).aon = s.aon := by
  unfold State.requestGrants
  split
  · refine State.foldl_aon _ ?_ _ _
    intro s m
    cases h : s.portTo m.dst <;> simp [h]
  · rfl
@[simp] theorem State.requestGrants_mgmt : (s.requestGrants).mgmt = s.mgmt := by
  unfold State.requestGrants
  split
  · refine State.foldl_mgmt _ ?_ _ _
    intro s m
    cases h : s.portTo m.dst <;> simp [h]
  · rfl
@[simp] theorem State.requestGrants_time : (s.requestGrants).time = s.time := by
  unfold State.requestGrants
  split
  · refine State.foldl_time _ ?_ _ _
    intro s m
    cases h : s.portTo m.dst <;> simp [h]
  · rfl
@[simp] theorem State.requestGrants_pcie : (s.requestGrants).pcie = s.pcie := by
  unfold State.requestGrants
  split
  · refine State.foldl_pcie _ ?_ _ _
    intro s m
    cases h : s.portTo m.dst <;> simp [h]
  · rfl
@[simp] theorem State.requestGrants_rings : (s.requestGrants).rings = s.rings := by
  unfold State.requestGrants
  split
  · refine State.foldl_rings _ ?_ _ _
    intro s m
    cases h : s.portTo m.dst <;> simp [h]
  · rfl
@[simp] theorem State.requestGrants_sessions : (s.requestGrants).sessions = s.sessions := by
  unfold State.requestGrants
  split
  · refine State.foldl_sessions _ ?_ _ _
    intro s m
    cases h : s.portTo m.dst <;> simp [h]
  · rfl
@[simp] theorem State.requestGrants_images : (s.requestGrants).images = s.images := by
  unfold State.requestGrants
  split
  · refine State.foldl_images _ ?_ _ _
    intro s m
    cases h : s.portTo m.dst <;> simp [h]
  · rfl
@[simp] theorem State.requestGrants_streams : (s.requestGrants).streams = s.streams := by
  unfold State.requestGrants
  split
  · refine State.foldl_streams _ ?_ _ _
    intro s m
    cases h : s.portTo m.dst <;> simp [h]
  · rfl
@[simp] theorem State.requestGrants_clusters : (s.requestGrants).clusters = s.clusters := by
  unfold State.requestGrants
  split
  · refine State.foldl_clusters _ ?_ _ _
    intro s m
    cases h : s.portTo m.dst <;> simp [h]
  · rfl
@[simp] theorem State.requestGrants_stks : (s.requestGrants).stks = s.stks := by
  unfold State.requestGrants
  split
  · refine State.foldl_stks _ ?_ _ _
    intro s m
    cases h : s.portTo m.dst <;> simp [h]
  · rfl
@[simp] theorem State.requestGrants_frame : (s.requestGrants).frame = s.frame := by
  unfold State.requestGrants
  split
  · refine State.foldl_frame _ ?_ _ _
    intro s m
    cases h : s.portTo m.dst <;> simp [h]
  · rfl
@[simp] theorem State.requestGrants_req : (s.requestGrants).req = s.req := by
  unfold State.requestGrants
  split
  · refine State.foldl_req _ ?_ _ _
    intro s m
    cases h : s.portTo m.dst <;> simp [h]
  · rfl
@[simp] theorem State.requestGrants_det : (s.requestGrants).det = s.det := by
  unfold State.requestGrants
  split
  · refine State.foldl_det _ ?_ _ _
    intro s m
    cases h : s.portTo m.dst <;> simp [h]
  · rfl
@[simp] theorem State.requestGrants_safety : (s.requestGrants).safety = s.safety := by
  unfold State.requestGrants
  split
  · refine State.foldl_safety _ ?_ _ _
    intro s m
    cases h : s.portTo m.dst <;> simp [h]
  · rfl
@[simp] theorem State.requestGrants_boot : (s.requestGrants).boot = s.boot := by
  unfold State.requestGrants
  split
  · refine State.foldl_boot _ ?_ _ _
    intro s m
    cases h : s.portTo m.dst <;> simp [h]
  · rfl
@[simp] theorem State.requestGrants_errors : (s.requestGrants).errors = s.errors := by
  unfold State.requestGrants
  split
  · refine State.foldl_errors _ ?_ _ _
    intro s m
    cases h : s.portTo m.dst <;> simp [h]
  · rfl
@[simp] theorem State.requestGrants_farming : (s.requestGrants).farming = s.farming := by
  unfold State.requestGrants
  split
  · refine State.foldl_farming _ ?_ _ _
    intro s m
    cases h : s.portTo m.dst <;> simp [h]
  · rfl
@[simp] theorem State.requestGrants_obs : (s.requestGrants).obs = s.obs := by
  unfold State.requestGrants
  split
  · refine State.foldl_obs _ ?_ _ _
    intro s m
    cases h : s.portTo m.dst <;> simp [h]
  · rfl
@[simp] theorem State.requestGrants_host : (s.requestGrants).host = s.host := by
  unfold State.requestGrants
  split
  · refine State.foldl_host _ ?_ _ _
    intro s m
    cases h : s.portTo m.dst <;> simp [h]
  · rfl
@[simp] theorem State.requestGrants_hbm : (s.requestGrants).hbm = s.hbm := by
  unfold State.requestGrants
  split
  · refine State.foldl_hbm _ ?_ _ _
    intro s m
    cases h : s.portTo m.dst <;> simp [h]
  · rfl
@[simp] theorem State.requestGrants_sram : (s.requestGrants).sram = s.sram := by
  unfold State.requestGrants
  split
  · refine State.foldl_sram _ ?_ _ _
    intro s m
    cases h : s.portTo m.dst <;> simp [h]
  · rfl
@[simp] theorem State.requestGrants_saves : (s.requestGrants).saves = s.saves := by
  unfold State.requestGrants
  split
  · refine State.foldl_saves _ ?_ _ _
    intro s m
    cases h : s.portTo m.dst <;> simp [h]
  · rfl
@[simp] theorem State.requestGrants_free : (s.requestGrants).free = s.free := by
  unfold State.requestGrants
  split
  · refine State.foldl_free _ ?_ _ _
    intro s m
    cases h : s.portTo m.dst <;> simp [h]
  · rfl
@[simp] theorem State.requestGrants_pending : (s.requestGrants).pending = s.pending := by
  unfold State.requestGrants
  split
  · refine State.foldl_pending _ ?_ _ _
    intro s m
    cases h : s.portTo m.dst <;> simp [h]
  · rfl
end

section
variable (s : State)
@[simp] theorem State.sendGranted_part : (s.sendGranted).part = s.part := by
  unfold State.sendGranted
  split
  · rw [State.pump_part]
    refine State.foldl_part _ ?_ _ _
    intro s m
    cases h : s.portTo m.dst <;> simp [h]
  · rfl
@[simp] theorem State.sendGranted_flash : (s.sendGranted).flash = s.flash := by
  unfold State.sendGranted
  split
  · rw [State.pump_flash]
    refine State.foldl_flash _ ?_ _ _
    intro s m
    cases h : s.portTo m.dst <;> simp [h]
  · rfl
@[simp] theorem State.sendGranted_aon : (s.sendGranted).aon = s.aon := by
  unfold State.sendGranted
  split
  · rw [State.pump_aon]
    refine State.foldl_aon _ ?_ _ _
    intro s m
    cases h : s.portTo m.dst <;> simp [h]
  · rfl
@[simp] theorem State.sendGranted_mgmt : (s.sendGranted).mgmt = s.mgmt := by
  unfold State.sendGranted
  split
  · rw [State.pump_mgmt]
    refine State.foldl_mgmt _ ?_ _ _
    intro s m
    cases h : s.portTo m.dst <;> simp [h]
  · rfl
@[simp] theorem State.sendGranted_time : (s.sendGranted).time = s.time := by
  unfold State.sendGranted
  split
  · rw [State.pump_time]
    refine State.foldl_time _ ?_ _ _
    intro s m
    cases h : s.portTo m.dst <;> simp [h]
  · rfl
@[simp] theorem State.sendGranted_pcie : (s.sendGranted).pcie = s.pcie := by
  unfold State.sendGranted
  split
  · rw [State.pump_pcie]
    refine State.foldl_pcie _ ?_ _ _
    intro s m
    cases h : s.portTo m.dst <;> simp [h]
  · rfl
@[simp] theorem State.sendGranted_mbx : (s.sendGranted).mbx = s.mbx := by
  unfold State.sendGranted
  split
  · rw [State.pump_mbx]
    refine State.foldl_mbx _ ?_ _ _
    intro s m
    cases h : s.portTo m.dst <;> simp [h]
  · rfl
@[simp] theorem State.sendGranted_rings : (s.sendGranted).rings = s.rings := by
  unfold State.sendGranted
  split
  · rw [State.pump_rings]
    refine State.foldl_rings _ ?_ _ _
    intro s m
    cases h : s.portTo m.dst <;> simp [h]
  · rfl
@[simp] theorem State.sendGranted_sessions : (s.sendGranted).sessions = s.sessions := by
  unfold State.sendGranted
  split
  · rw [State.pump_sessions]
    refine State.foldl_sessions _ ?_ _ _
    intro s m
    cases h : s.portTo m.dst <;> simp [h]
  · rfl
@[simp] theorem State.sendGranted_images : (s.sendGranted).images = s.images := by
  unfold State.sendGranted
  split
  · rw [State.pump_images]
    refine State.foldl_images _ ?_ _ _
    intro s m
    cases h : s.portTo m.dst <;> simp [h]
  · rfl
@[simp] theorem State.sendGranted_worlds : (s.sendGranted).worlds = s.worlds := by
  unfold State.sendGranted
  split
  · rw [State.pump_worlds]
    refine State.foldl_worlds _ ?_ _ _
    intro s m
    cases h : s.portTo m.dst <;> simp [h]
  · rfl
@[simp] theorem State.sendGranted_streams : (s.sendGranted).streams = s.streams := by
  unfold State.sendGranted
  split
  · rw [State.pump_streams]
    refine State.foldl_streams _ ?_ _ _
    intro s m
    cases h : s.portTo m.dst <;> simp [h]
  · rfl
@[simp] theorem State.sendGranted_clusters : (s.sendGranted).clusters = s.clusters := by
  unfold State.sendGranted
  split
  · rw [State.pump_clusters]
    refine State.foldl_clusters _ ?_ _ _
    intro s m
    cases h : s.portTo m.dst <;> simp [h]
  · rfl
@[simp] theorem State.sendGranted_stks : (s.sendGranted).stks = s.stks := by
  unfold State.sendGranted
  split
  · rw [State.pump_stks]
    refine State.foldl_stks _ ?_ _ _
    intro s m
    cases h : s.portTo m.dst <;> simp [h]
  · rfl
@[simp] theorem State.sendGranted_frame : (s.sendGranted).frame = s.frame := by
  unfold State.sendGranted
  split
  · rw [State.pump_frame]
    refine State.foldl_frame _ ?_ _ _
    intro s m
    cases h : s.portTo m.dst <;> simp [h]
  · rfl
@[simp] theorem State.sendGranted_req : (s.sendGranted).req = s.req := by
  unfold State.sendGranted
  split
  · rw [State.pump_req]
    refine State.foldl_req _ ?_ _ _
    intro s m
    cases h : s.portTo m.dst <;> simp [h]
  · rfl
@[simp] theorem State.sendGranted_det : (s.sendGranted).det = s.det := by
  unfold State.sendGranted
  split
  · rw [State.pump_det]
    refine State.foldl_det _ ?_ _ _
    intro s m
    cases h : s.portTo m.dst <;> simp [h]
  · rfl
@[simp] theorem State.sendGranted_safety : (s.sendGranted).safety = s.safety := by
  unfold State.sendGranted
  split
  · rw [State.pump_safety]
    refine State.foldl_safety _ ?_ _ _
    intro s m
    cases h : s.portTo m.dst <;> simp [h]
  · rfl
@[simp] theorem State.sendGranted_boot : (s.sendGranted).boot = s.boot := by
  unfold State.sendGranted
  split
  · rw [State.pump_boot]
    refine State.foldl_boot _ ?_ _ _
    intro s m
    cases h : s.portTo m.dst <;> simp [h]
  · rfl
@[simp] theorem State.sendGranted_errors : (s.sendGranted).errors = s.errors := by
  unfold State.sendGranted
  split
  · rw [State.pump_errors]
    refine State.foldl_errors _ ?_ _ _
    intro s m
    cases h : s.portTo m.dst <;> simp [h]
  · rfl
@[simp] theorem State.sendGranted_farming : (s.sendGranted).farming = s.farming := by
  unfold State.sendGranted
  split
  · rw [State.pump_farming]
    refine State.foldl_farming _ ?_ _ _
    intro s m
    cases h : s.portTo m.dst <;> simp [h]
  · rfl
@[simp] theorem State.sendGranted_obs : (s.sendGranted).obs = s.obs := by
  unfold State.sendGranted
  split
  · rw [State.pump_obs]
    refine State.foldl_obs _ ?_ _ _
    intro s m
    cases h : s.portTo m.dst <;> simp [h]
  · rfl
@[simp] theorem State.sendGranted_host : (s.sendGranted).host = s.host := by
  unfold State.sendGranted
  split
  · rw [State.pump_host]
    refine State.foldl_host _ ?_ _ _
    intro s m
    cases h : s.portTo m.dst <;> simp [h]
  · rfl
@[simp] theorem State.sendGranted_hbm : (s.sendGranted).hbm = s.hbm := by
  unfold State.sendGranted
  split
  · rw [State.pump_hbm]
    refine State.foldl_hbm _ ?_ _ _
    intro s m
    cases h : s.portTo m.dst <;> simp [h]
  · rfl
@[simp] theorem State.sendGranted_sram : (s.sendGranted).sram = s.sram := by
  unfold State.sendGranted
  split
  · rw [State.pump_sram]
    refine State.foldl_sram _ ?_ _ _
    intro s m
    cases h : s.portTo m.dst <;> simp [h]
  · rfl
@[simp] theorem State.sendGranted_saves : (s.sendGranted).saves = s.saves := by
  unfold State.sendGranted
  split
  · rw [State.pump_saves]
    refine State.foldl_saves _ ?_ _ _
    intro s m
    cases h : s.portTo m.dst <;> simp [h]
  · rfl
@[simp] theorem State.sendGranted_free : (s.sendGranted).free = s.free := by
  unfold State.sendGranted
  split
  · rw [State.pump_free]
    refine State.foldl_free _ ?_ _ _
    intro s m
    cases h : s.portTo m.dst <;> simp [h]
  · rfl
@[simp] theorem State.sendGranted_pending : (s.sendGranted).pending = s.pending := by
  unfold State.sendGranted
  split
  · rw [State.pump_pending]
    refine State.foldl_pending _ ?_ _ _
    intro s m
    cases h : s.portTo m.dst <;> simp [h]
  · rfl
end

section
variable (s : State)
@[simp] theorem State.fabricGo_part : (s.fabricGo).part = s.part := by
  unfold State.fabricGo; simp [State.ite_part, State.foldl_part]
@[simp] theorem State.fabricGo_flash : (s.fabricGo).flash = s.flash := by
  unfold State.fabricGo; simp [State.ite_flash, State.foldl_flash]
@[simp] theorem State.fabricGo_aon : (s.fabricGo).aon = s.aon := by
  unfold State.fabricGo; simp [State.ite_aon, State.foldl_aon]
@[simp] theorem State.fabricGo_mgmt : (s.fabricGo).mgmt = s.mgmt := by
  unfold State.fabricGo; simp [State.ite_mgmt, State.foldl_mgmt]
@[simp] theorem State.fabricGo_time : (s.fabricGo).time = s.time := by
  unfold State.fabricGo; simp [State.ite_time, State.foldl_time]
@[simp] theorem State.fabricGo_pcie : (s.fabricGo).pcie = s.pcie := by
  unfold State.fabricGo; simp [State.ite_pcie, State.foldl_pcie]
@[simp] theorem State.fabricGo_rings : (s.fabricGo).rings = s.rings := by
  unfold State.fabricGo; simp [State.ite_rings, State.foldl_rings]
@[simp] theorem State.fabricGo_sessions : (s.fabricGo).sessions = s.sessions := by
  unfold State.fabricGo; simp [State.ite_sessions, State.foldl_sessions]
@[simp] theorem State.fabricGo_images : (s.fabricGo).images = s.images := by
  unfold State.fabricGo; simp [State.ite_images, State.foldl_images]
@[simp] theorem State.fabricGo_streams : (s.fabricGo).streams = s.streams := by
  unfold State.fabricGo; simp [State.ite_streams, State.foldl_streams]
@[simp] theorem State.fabricGo_clusters : (s.fabricGo).clusters = s.clusters := by
  unfold State.fabricGo; simp [State.ite_clusters, State.foldl_clusters]
@[simp] theorem State.fabricGo_stks : (s.fabricGo).stks = s.stks := by
  unfold State.fabricGo; simp [State.ite_stks, State.foldl_stks]
@[simp] theorem State.fabricGo_frame : (s.fabricGo).frame = s.frame := by
  unfold State.fabricGo; simp [State.ite_frame, State.foldl_frame]
@[simp] theorem State.fabricGo_req : (s.fabricGo).req = s.req := by
  unfold State.fabricGo; simp [State.ite_req, State.foldl_req]
@[simp] theorem State.fabricGo_det : (s.fabricGo).det = s.det := by
  unfold State.fabricGo; simp [State.ite_det, State.foldl_det]
@[simp] theorem State.fabricGo_safety : (s.fabricGo).safety = s.safety := by
  unfold State.fabricGo; simp [State.ite_safety, State.foldl_safety]
@[simp] theorem State.fabricGo_boot : (s.fabricGo).boot = s.boot := by
  unfold State.fabricGo; simp [State.ite_boot, State.foldl_boot]
@[simp] theorem State.fabricGo_errors : (s.fabricGo).errors = s.errors := by
  unfold State.fabricGo; simp [State.ite_errors, State.foldl_errors]
@[simp] theorem State.fabricGo_farming : (s.fabricGo).farming = s.farming := by
  unfold State.fabricGo; simp [State.ite_farming, State.foldl_farming]
@[simp] theorem State.fabricGo_obs : (s.fabricGo).obs = s.obs := by
  unfold State.fabricGo; simp [State.ite_obs, State.foldl_obs]
@[simp] theorem State.fabricGo_host : (s.fabricGo).host = s.host := by
  unfold State.fabricGo; simp [State.ite_host, State.foldl_host]
@[simp] theorem State.fabricGo_hbm : (s.fabricGo).hbm = s.hbm := by
  unfold State.fabricGo; simp [State.ite_hbm, State.foldl_hbm]
@[simp] theorem State.fabricGo_sram : (s.fabricGo).sram = s.sram := by
  unfold State.fabricGo; simp [State.ite_sram, State.foldl_sram]
@[simp] theorem State.fabricGo_saves : (s.fabricGo).saves = s.saves := by
  unfold State.fabricGo; simp [State.ite_saves, State.foldl_saves]
@[simp] theorem State.fabricGo_free : (s.fabricGo).free = s.free := by
  unfold State.fabricGo; simp [State.ite_free, State.foldl_free]
@[simp] theorem State.fabricGo_pending : (s.fabricGo).pending = s.pending := by
  unfold State.fabricGo; simp [State.ite_pending, State.foldl_pending]
end

section
variable (vc d : Nat) (b : List Byte) (c : Option (Nat × Nat)) (s : State)
@[simp] theorem State.fabricSend_part : (s.fabricSend vc d b c).part = s.part := rfl
@[simp] theorem State.fabricSend_flash : (s.fabricSend vc d b c).flash = s.flash := rfl
@[simp] theorem State.fabricSend_aon : (s.fabricSend vc d b c).aon = s.aon := rfl
@[simp] theorem State.fabricSend_mgmt : (s.fabricSend vc d b c).mgmt = s.mgmt := rfl
@[simp] theorem State.fabricSend_time : (s.fabricSend vc d b c).time = s.time := rfl
@[simp] theorem State.fabricSend_pcie : (s.fabricSend vc d b c).pcie = s.pcie := rfl
@[simp] theorem State.fabricSend_mbx : (s.fabricSend vc d b c).mbx = s.mbx := rfl
@[simp] theorem State.fabricSend_rings : (s.fabricSend vc d b c).rings = s.rings := rfl
@[simp] theorem State.fabricSend_sessions : (s.fabricSend vc d b c).sessions = s.sessions := rfl
@[simp] theorem State.fabricSend_images : (s.fabricSend vc d b c).images = s.images := rfl
@[simp] theorem State.fabricSend_worlds : (s.fabricSend vc d b c).worlds = s.worlds := rfl
@[simp] theorem State.fabricSend_streams : (s.fabricSend vc d b c).streams = s.streams := rfl
@[simp] theorem State.fabricSend_clusters : (s.fabricSend vc d b c).clusters = s.clusters := rfl
@[simp] theorem State.fabricSend_stks : (s.fabricSend vc d b c).stks = s.stks := rfl
@[simp] theorem State.fabricSend_hub : (s.fabricSend vc d b c).hub = s.hub := rfl
@[simp] theorem State.fabricSend_frame : (s.fabricSend vc d b c).frame = s.frame := rfl
@[simp] theorem State.fabricSend_req : (s.fabricSend vc d b c).req = s.req := rfl
@[simp] theorem State.fabricSend_det : (s.fabricSend vc d b c).det = s.det := rfl
@[simp] theorem State.fabricSend_safety : (s.fabricSend vc d b c).safety = s.safety := rfl
@[simp] theorem State.fabricSend_boot : (s.fabricSend vc d b c).boot = s.boot := rfl
@[simp] theorem State.fabricSend_errors : (s.fabricSend vc d b c).errors = s.errors := rfl
@[simp] theorem State.fabricSend_farming : (s.fabricSend vc d b c).farming = s.farming := rfl
@[simp] theorem State.fabricSend_obs : (s.fabricSend vc d b c).obs = s.obs := rfl
@[simp] theorem State.fabricSend_host : (s.fabricSend vc d b c).host = s.host := rfl
@[simp] theorem State.fabricSend_hbm : (s.fabricSend vc d b c).hbm = s.hbm := rfl
@[simp] theorem State.fabricSend_sram : (s.fabricSend vc d b c).sram = s.sram := rfl
@[simp] theorem State.fabricSend_saves : (s.fabricSend vc d b c).saves = s.saves := rfl
@[simp] theorem State.fabricSend_free : (s.fabricSend vc d b c).free = s.free := rfl
@[simp] theorem State.fabricSend_pending : (s.fabricSend vc d b c).pending = s.pending := rfl
end

section
variable (s : State)
@[simp] theorem State.draw_part : (s.draw.2).part = s.part := by
  unfold State.draw; simp [State.ite_part, State.foldl_part] <;> (repeat' split) <;> simp [State.ite_part, State.foldl_part]
@[simp] theorem State.draw_flash : (s.draw.2).flash = s.flash := by
  unfold State.draw; simp [State.ite_flash, State.foldl_flash] <;> (repeat' split) <;> simp [State.ite_flash, State.foldl_flash]
@[simp] theorem State.draw_aon : (s.draw.2).aon = s.aon := by
  unfold State.draw; simp [State.ite_aon, State.foldl_aon] <;> (repeat' split) <;> simp [State.ite_aon, State.foldl_aon]
@[simp] theorem State.draw_mgmt : (s.draw.2).mgmt = s.mgmt := by
  unfold State.draw; simp [State.ite_mgmt, State.foldl_mgmt] <;> (repeat' split) <;> simp [State.ite_mgmt, State.foldl_mgmt]
@[simp] theorem State.draw_time : (s.draw.2).time = s.time := by
  unfold State.draw; simp [State.ite_time, State.foldl_time] <;> (repeat' split) <;> simp [State.ite_time, State.foldl_time]
@[simp] theorem State.draw_pcie : (s.draw.2).pcie = s.pcie := by
  unfold State.draw; simp [State.ite_pcie, State.foldl_pcie] <;> (repeat' split) <;> simp [State.ite_pcie, State.foldl_pcie]
@[simp] theorem State.draw_mbx : (s.draw.2).mbx = s.mbx := by
  unfold State.draw; simp [State.ite_mbx, State.foldl_mbx] <;> (repeat' split) <;> simp [State.ite_mbx, State.foldl_mbx]
@[simp] theorem State.draw_rings : (s.draw.2).rings = s.rings := by
  unfold State.draw; simp [State.ite_rings, State.foldl_rings] <;> (repeat' split) <;> simp [State.ite_rings, State.foldl_rings]
@[simp] theorem State.draw_sessions : (s.draw.2).sessions = s.sessions := by
  unfold State.draw; simp [State.ite_sessions, State.foldl_sessions] <;> (repeat' split) <;> simp [State.ite_sessions, State.foldl_sessions]
@[simp] theorem State.draw_images : (s.draw.2).images = s.images := by
  unfold State.draw; simp [State.ite_images, State.foldl_images] <;> (repeat' split) <;> simp [State.ite_images, State.foldl_images]
@[simp] theorem State.draw_worlds : (s.draw.2).worlds = s.worlds := by
  unfold State.draw; simp [State.ite_worlds, State.foldl_worlds] <;> (repeat' split) <;> simp [State.ite_worlds, State.foldl_worlds]
@[simp] theorem State.draw_streams : (s.draw.2).streams = s.streams := by
  unfold State.draw; simp [State.ite_streams, State.foldl_streams] <;> (repeat' split) <;> simp [State.ite_streams, State.foldl_streams]
@[simp] theorem State.draw_clusters : (s.draw.2).clusters = s.clusters := by
  unfold State.draw; simp [State.ite_clusters, State.foldl_clusters] <;> (repeat' split) <;> simp [State.ite_clusters, State.foldl_clusters]
@[simp] theorem State.draw_stks : (s.draw.2).stks = s.stks := by
  unfold State.draw; simp [State.ite_stks, State.foldl_stks] <;> (repeat' split) <;> simp [State.ite_stks, State.foldl_stks]
@[simp] theorem State.draw_hub : (s.draw.2).hub = s.hub := by
  unfold State.draw; simp [State.ite_hub, State.foldl_hub] <;> (repeat' split) <;> simp [State.ite_hub, State.foldl_hub]
@[simp] theorem State.draw_frame : (s.draw.2).frame = s.frame := by
  unfold State.draw; simp [State.ite_frame, State.foldl_frame] <;> (repeat' split) <;> simp [State.ite_frame, State.foldl_frame]
@[simp] theorem State.draw_req : (s.draw.2).req = s.req := by
  unfold State.draw; simp [State.ite_req, State.foldl_req] <;> (repeat' split) <;> simp [State.ite_req, State.foldl_req]
@[simp] theorem State.draw_det : (s.draw.2).det = s.det := by
  unfold State.draw; simp [State.ite_det, State.foldl_det] <;> (repeat' split) <;> simp [State.ite_det, State.foldl_det]
@[simp] theorem State.draw_safety : (s.draw.2).safety = s.safety := by
  unfold State.draw; simp [State.ite_safety, State.foldl_safety] <;> (repeat' split) <;> simp [State.ite_safety, State.foldl_safety]
@[simp] theorem State.draw_boot : (s.draw.2).boot = s.boot := by
  unfold State.draw; simp [State.ite_boot, State.foldl_boot] <;> (repeat' split) <;> simp [State.ite_boot, State.foldl_boot]
@[simp] theorem State.draw_errors : (s.draw.2).errors = s.errors := by
  unfold State.draw; simp [State.ite_errors, State.foldl_errors] <;> (repeat' split) <;> simp [State.ite_errors, State.foldl_errors]
@[simp] theorem State.draw_fabric : (s.draw.2).fabric = s.fabric := by
  unfold State.draw; simp [State.ite_fabric, State.foldl_fabric] <;> (repeat' split) <;> simp [State.ite_fabric, State.foldl_fabric]
@[simp] theorem State.draw_farming : (s.draw.2).farming = s.farming := by
  unfold State.draw; simp [State.ite_farming, State.foldl_farming] <;> (repeat' split) <;> simp [State.ite_farming, State.foldl_farming]
@[simp] theorem State.draw_obs : (s.draw.2).obs = s.obs := by
  unfold State.draw; simp [State.ite_obs, State.foldl_obs] <;> (repeat' split) <;> simp [State.ite_obs, State.foldl_obs]
@[simp] theorem State.draw_host : (s.draw.2).host = s.host := by
  unfold State.draw; simp [State.ite_host, State.foldl_host] <;> (repeat' split) <;> simp [State.ite_host, State.foldl_host]
@[simp] theorem State.draw_hbm : (s.draw.2).hbm = s.hbm := by
  unfold State.draw; simp [State.ite_hbm, State.foldl_hbm] <;> (repeat' split) <;> simp [State.ite_hbm, State.foldl_hbm]
@[simp] theorem State.draw_sram : (s.draw.2).sram = s.sram := by
  unfold State.draw; simp [State.ite_sram, State.foldl_sram] <;> (repeat' split) <;> simp [State.ite_sram, State.foldl_sram]
@[simp] theorem State.draw_saves : (s.draw.2).saves = s.saves := by
  unfold State.draw; simp [State.ite_saves, State.foldl_saves] <;> (repeat' split) <;> simp [State.ite_saves, State.foldl_saves]
@[simp] theorem State.draw_pending : (s.draw.2).pending = s.pending := by
  unfold State.draw; simp [State.ite_pending, State.foldl_pending] <;> (repeat' split) <;> simp [State.ite_pending, State.foldl_pending]
end

section
variable (i : Nat) (s : State)
@[simp] theorem State.formStream_part : (s.formStream i).part = s.part := by
  unfold State.formStream; dsimp only; (repeat' split) <;> simp (disch := (intros; (try dsimp only); (repeat' split) <;> simp [State.ite_part, State.foldl_part])) [State.ite_part, State.foldl_part]
@[simp] theorem State.formStream_flash : (s.formStream i).flash = s.flash := by
  unfold State.formStream; dsimp only; (repeat' split) <;> simp (disch := (intros; (try dsimp only); (repeat' split) <;> simp [State.ite_flash, State.foldl_flash])) [State.ite_flash, State.foldl_flash]
@[simp] theorem State.formStream_aon : (s.formStream i).aon = s.aon := by
  unfold State.formStream; dsimp only; (repeat' split) <;> simp (disch := (intros; (try dsimp only); (repeat' split) <;> simp [State.ite_aon, State.foldl_aon])) [State.ite_aon, State.foldl_aon]
@[simp] theorem State.formStream_mgmt : (s.formStream i).mgmt = s.mgmt := by
  unfold State.formStream; dsimp only; (repeat' split) <;> simp (disch := (intros; (try dsimp only); (repeat' split) <;> simp [State.ite_mgmt, State.foldl_mgmt])) [State.ite_mgmt, State.foldl_mgmt]
@[simp] theorem State.formStream_time : (s.formStream i).time = s.time := by
  unfold State.formStream; dsimp only; (repeat' split) <;> simp (disch := (intros; (try dsimp only); (repeat' split) <;> simp [State.ite_time, State.foldl_time])) [State.ite_time, State.foldl_time]
@[simp] theorem State.formStream_pcie : (s.formStream i).pcie = s.pcie := by
  unfold State.formStream; dsimp only; (repeat' split) <;> simp (disch := (intros; (try dsimp only); (repeat' split) <;> simp [State.ite_pcie, State.foldl_pcie])) [State.ite_pcie, State.foldl_pcie]
@[simp] theorem State.formStream_mbx : (s.formStream i).mbx = s.mbx := by
  unfold State.formStream; dsimp only; (repeat' split) <;> simp (disch := (intros; (try dsimp only); (repeat' split) <;> simp [State.ite_mbx, State.foldl_mbx])) [State.ite_mbx, State.foldl_mbx]
@[simp] theorem State.formStream_rings : (s.formStream i).rings = s.rings := by
  unfold State.formStream; dsimp only; (repeat' split) <;> simp (disch := (intros; (try dsimp only); (repeat' split) <;> simp [State.ite_rings, State.foldl_rings])) [State.ite_rings, State.foldl_rings]
@[simp] theorem State.formStream_sessions : (s.formStream i).sessions = s.sessions := by
  unfold State.formStream; dsimp only; (repeat' split) <;> simp (disch := (intros; (try dsimp only); (repeat' split) <;> simp [State.ite_sessions, State.foldl_sessions])) [State.ite_sessions, State.foldl_sessions]
@[simp] theorem State.formStream_images : (s.formStream i).images = s.images := by
  unfold State.formStream; dsimp only; (repeat' split) <;> simp (disch := (intros; (try dsimp only); (repeat' split) <;> simp [State.ite_images, State.foldl_images])) [State.ite_images, State.foldl_images]
@[simp] theorem State.formStream_worlds : (s.formStream i).worlds = s.worlds := by
  unfold State.formStream; dsimp only; (repeat' split) <;> simp (disch := (intros; (try dsimp only); (repeat' split) <;> simp [State.ite_worlds, State.foldl_worlds])) [State.ite_worlds, State.foldl_worlds]
@[simp] theorem State.formStream_clusters : (s.formStream i).clusters = s.clusters := by
  unfold State.formStream; dsimp only; (repeat' split) <;> simp (disch := (intros; (try dsimp only); (repeat' split) <;> simp [State.ite_clusters, State.foldl_clusters])) [State.ite_clusters, State.foldl_clusters]
@[simp] theorem State.formStream_stks : (s.formStream i).stks = s.stks := by
  unfold State.formStream; dsimp only; (repeat' split) <;> simp (disch := (intros; (try dsimp only); (repeat' split) <;> simp [State.ite_stks, State.foldl_stks])) [State.ite_stks, State.foldl_stks]
@[simp] theorem State.formStream_hub : (s.formStream i).hub = s.hub := by
  unfold State.formStream; dsimp only; (repeat' split) <;> simp (disch := (intros; (try dsimp only); (repeat' split) <;> simp [State.ite_hub, State.foldl_hub])) [State.ite_hub, State.foldl_hub]
@[simp] theorem State.formStream_frame : (s.formStream i).frame = s.frame := by
  unfold State.formStream; dsimp only; (repeat' split) <;> simp (disch := (intros; (try dsimp only); (repeat' split) <;> simp [State.ite_frame, State.foldl_frame])) [State.ite_frame, State.foldl_frame]
@[simp] theorem State.formStream_req : (s.formStream i).req = s.req := by
  unfold State.formStream; dsimp only; (repeat' split) <;> simp (disch := (intros; (try dsimp only); (repeat' split) <;> simp [State.ite_req, State.foldl_req])) [State.ite_req, State.foldl_req]
@[simp] theorem State.formStream_det : (s.formStream i).det = s.det := by
  unfold State.formStream; dsimp only; (repeat' split) <;> simp (disch := (intros; (try dsimp only); (repeat' split) <;> simp [State.ite_det, State.foldl_det])) [State.ite_det, State.foldl_det]
@[simp] theorem State.formStream_safety : (s.formStream i).safety = s.safety := by
  unfold State.formStream; dsimp only; (repeat' split) <;> simp (disch := (intros; (try dsimp only); (repeat' split) <;> simp [State.ite_safety, State.foldl_safety])) [State.ite_safety, State.foldl_safety]
@[simp] theorem State.formStream_boot : (s.formStream i).boot = s.boot := by
  unfold State.formStream; dsimp only; (repeat' split) <;> simp (disch := (intros; (try dsimp only); (repeat' split) <;> simp [State.ite_boot, State.foldl_boot])) [State.ite_boot, State.foldl_boot]
@[simp] theorem State.formStream_errors : (s.formStream i).errors = s.errors := by
  unfold State.formStream; dsimp only; (repeat' split) <;> simp (disch := (intros; (try dsimp only); (repeat' split) <;> simp [State.ite_errors, State.foldl_errors])) [State.ite_errors, State.foldl_errors]
@[simp] theorem State.formStream_fabric : (s.formStream i).fabric = s.fabric := by
  unfold State.formStream; dsimp only; (repeat' split) <;> simp (disch := (intros; (try dsimp only); (repeat' split) <;> simp [State.ite_fabric, State.foldl_fabric])) [State.ite_fabric, State.foldl_fabric]
@[simp] theorem State.formStream_farming : (s.formStream i).farming = s.farming := by
  unfold State.formStream; dsimp only; (repeat' split) <;> simp (disch := (intros; (try dsimp only); (repeat' split) <;> simp [State.ite_farming, State.foldl_farming])) [State.ite_farming, State.foldl_farming]
@[simp] theorem State.formStream_obs : (s.formStream i).obs = s.obs := by
  unfold State.formStream; dsimp only; (repeat' split) <;> simp (disch := (intros; (try dsimp only); (repeat' split) <;> simp [State.ite_obs, State.foldl_obs])) [State.ite_obs, State.foldl_obs]
@[simp] theorem State.formStream_host : (s.formStream i).host = s.host := by
  unfold State.formStream; dsimp only; (repeat' split) <;> simp (disch := (intros; (try dsimp only); (repeat' split) <;> simp [State.ite_host, State.foldl_host])) [State.ite_host, State.foldl_host]
@[simp] theorem State.formStream_hbm : (s.formStream i).hbm = s.hbm := by
  unfold State.formStream; dsimp only; (repeat' split) <;> simp (disch := (intros; (try dsimp only); (repeat' split) <;> simp [State.ite_hbm, State.foldl_hbm])) [State.ite_hbm, State.foldl_hbm]
@[simp] theorem State.formStream_sram : (s.formStream i).sram = s.sram := by
  unfold State.formStream; dsimp only; (repeat' split) <;> simp (disch := (intros; (try dsimp only); (repeat' split) <;> simp [State.ite_sram, State.foldl_sram])) [State.ite_sram, State.foldl_sram]
@[simp] theorem State.formStream_saves : (s.formStream i).saves = s.saves := by
  unfold State.formStream; dsimp only; (repeat' split) <;> simp (disch := (intros; (try dsimp only); (repeat' split) <;> simp [State.ite_saves, State.foldl_saves])) [State.ite_saves, State.foldl_saves]
@[simp] theorem State.formStream_pending : (s.formStream i).pending = s.pending := by
  unfold State.formStream; dsimp only; (repeat' split) <;> simp (disch := (intros; (try dsimp only); (repeat' split) <;> simp [State.ite_pending, State.foldl_pending])) [State.ite_pending, State.foldl_pending]
end

section
variable (i : Nat) (s : State)
@[simp] theorem State.farmOut_part : (s.farmOut i).part = s.part := by
  unfold State.farmOut; dsimp only; (repeat' split) <;> simp (disch := (intros; (try dsimp only); (repeat' split) <;> simp [State.ite_part, State.foldl_part])) [State.ite_part, State.foldl_part]
@[simp] theorem State.farmOut_flash : (s.farmOut i).flash = s.flash := by
  unfold State.farmOut; dsimp only; (repeat' split) <;> simp (disch := (intros; (try dsimp only); (repeat' split) <;> simp [State.ite_flash, State.foldl_flash])) [State.ite_flash, State.foldl_flash]
@[simp] theorem State.farmOut_aon : (s.farmOut i).aon = s.aon := by
  unfold State.farmOut; dsimp only; (repeat' split) <;> simp (disch := (intros; (try dsimp only); (repeat' split) <;> simp [State.ite_aon, State.foldl_aon])) [State.ite_aon, State.foldl_aon]
@[simp] theorem State.farmOut_mgmt : (s.farmOut i).mgmt = s.mgmt := by
  unfold State.farmOut; dsimp only; (repeat' split) <;> simp (disch := (intros; (try dsimp only); (repeat' split) <;> simp [State.ite_mgmt, State.foldl_mgmt])) [State.ite_mgmt, State.foldl_mgmt]
@[simp] theorem State.farmOut_time : (s.farmOut i).time = s.time := by
  unfold State.farmOut; dsimp only; (repeat' split) <;> simp (disch := (intros; (try dsimp only); (repeat' split) <;> simp [State.ite_time, State.foldl_time])) [State.ite_time, State.foldl_time]
@[simp] theorem State.farmOut_pcie : (s.farmOut i).pcie = s.pcie := by
  unfold State.farmOut; dsimp only; (repeat' split) <;> simp (disch := (intros; (try dsimp only); (repeat' split) <;> simp [State.ite_pcie, State.foldl_pcie])) [State.ite_pcie, State.foldl_pcie]
@[simp] theorem State.farmOut_mbx : (s.farmOut i).mbx = s.mbx := by
  unfold State.farmOut; dsimp only; (repeat' split) <;> simp (disch := (intros; (try dsimp only); (repeat' split) <;> simp [State.ite_mbx, State.foldl_mbx])) [State.ite_mbx, State.foldl_mbx]
@[simp] theorem State.farmOut_rings : (s.farmOut i).rings = s.rings := by
  unfold State.farmOut; dsimp only; (repeat' split) <;> simp (disch := (intros; (try dsimp only); (repeat' split) <;> simp [State.ite_rings, State.foldl_rings])) [State.ite_rings, State.foldl_rings]
@[simp] theorem State.farmOut_sessions : (s.farmOut i).sessions = s.sessions := by
  unfold State.farmOut; dsimp only; (repeat' split) <;> simp (disch := (intros; (try dsimp only); (repeat' split) <;> simp [State.ite_sessions, State.foldl_sessions])) [State.ite_sessions, State.foldl_sessions]
@[simp] theorem State.farmOut_images : (s.farmOut i).images = s.images := by
  unfold State.farmOut; dsimp only; (repeat' split) <;> simp (disch := (intros; (try dsimp only); (repeat' split) <;> simp [State.ite_images, State.foldl_images])) [State.ite_images, State.foldl_images]
@[simp] theorem State.farmOut_worlds : (s.farmOut i).worlds = s.worlds := by
  unfold State.farmOut; dsimp only; (repeat' split) <;> simp (disch := (intros; (try dsimp only); (repeat' split) <;> simp [State.ite_worlds, State.foldl_worlds])) [State.ite_worlds, State.foldl_worlds]
@[simp] theorem State.farmOut_streams : (s.farmOut i).streams = s.streams := by
  unfold State.farmOut; dsimp only; (repeat' split) <;> simp (disch := (intros; (try dsimp only); (repeat' split) <;> simp [State.ite_streams, State.foldl_streams])) [State.ite_streams, State.foldl_streams]
@[simp] theorem State.farmOut_clusters : (s.farmOut i).clusters = s.clusters := by
  unfold State.farmOut; dsimp only; (repeat' split) <;> simp (disch := (intros; (try dsimp only); (repeat' split) <;> simp [State.ite_clusters, State.foldl_clusters])) [State.ite_clusters, State.foldl_clusters]
@[simp] theorem State.farmOut_stks : (s.farmOut i).stks = s.stks := by
  unfold State.farmOut; dsimp only; (repeat' split) <;> simp (disch := (intros; (try dsimp only); (repeat' split) <;> simp [State.ite_stks, State.foldl_stks])) [State.ite_stks, State.foldl_stks]
@[simp] theorem State.farmOut_frame : (s.farmOut i).frame = s.frame := by
  unfold State.farmOut; dsimp only; (repeat' split) <;> simp (disch := (intros; (try dsimp only); (repeat' split) <;> simp [State.ite_frame, State.foldl_frame])) [State.ite_frame, State.foldl_frame]
@[simp] theorem State.farmOut_req : (s.farmOut i).req = s.req := by
  unfold State.farmOut; dsimp only; (repeat' split) <;> simp (disch := (intros; (try dsimp only); (repeat' split) <;> simp [State.ite_req, State.foldl_req])) [State.ite_req, State.foldl_req]
@[simp] theorem State.farmOut_det : (s.farmOut i).det = s.det := by
  unfold State.farmOut; dsimp only; (repeat' split) <;> simp (disch := (intros; (try dsimp only); (repeat' split) <;> simp [State.ite_det, State.foldl_det])) [State.ite_det, State.foldl_det]
@[simp] theorem State.farmOut_safety : (s.farmOut i).safety = s.safety := by
  unfold State.farmOut; dsimp only; (repeat' split) <;> simp (disch := (intros; (try dsimp only); (repeat' split) <;> simp [State.ite_safety, State.foldl_safety])) [State.ite_safety, State.foldl_safety]
@[simp] theorem State.farmOut_boot : (s.farmOut i).boot = s.boot := by
  unfold State.farmOut; dsimp only; (repeat' split) <;> simp (disch := (intros; (try dsimp only); (repeat' split) <;> simp [State.ite_boot, State.foldl_boot])) [State.ite_boot, State.foldl_boot]
@[simp] theorem State.farmOut_errors : (s.farmOut i).errors = s.errors := by
  unfold State.farmOut; dsimp only; (repeat' split) <;> simp (disch := (intros; (try dsimp only); (repeat' split) <;> simp [State.ite_errors, State.foldl_errors])) [State.ite_errors, State.foldl_errors]
@[simp] theorem State.farmOut_obs : (s.farmOut i).obs = s.obs := by
  unfold State.farmOut; dsimp only; (repeat' split) <;> simp (disch := (intros; (try dsimp only); (repeat' split) <;> simp [State.ite_obs, State.foldl_obs])) [State.ite_obs, State.foldl_obs]
@[simp] theorem State.farmOut_host : (s.farmOut i).host = s.host := by
  unfold State.farmOut; dsimp only; (repeat' split) <;> simp (disch := (intros; (try dsimp only); (repeat' split) <;> simp [State.ite_host, State.foldl_host])) [State.ite_host, State.foldl_host]
@[simp] theorem State.farmOut_hbm : (s.farmOut i).hbm = s.hbm := by
  unfold State.farmOut; dsimp only; (repeat' split) <;> simp (disch := (intros; (try dsimp only); (repeat' split) <;> simp [State.ite_hbm, State.foldl_hbm])) [State.ite_hbm, State.foldl_hbm]
@[simp] theorem State.farmOut_sram : (s.farmOut i).sram = s.sram := by
  unfold State.farmOut; dsimp only; (repeat' split) <;> simp (disch := (intros; (try dsimp only); (repeat' split) <;> simp [State.ite_sram, State.foldl_sram])) [State.ite_sram, State.foldl_sram]
@[simp] theorem State.farmOut_saves : (s.farmOut i).saves = s.saves := by
  unfold State.farmOut; dsimp only; (repeat' split) <;> simp (disch := (intros; (try dsimp only); (repeat' split) <;> simp [State.ite_saves, State.foldl_saves])) [State.ite_saves, State.foldl_saves]
@[simp] theorem State.farmOut_free : (s.farmOut i).free = s.free := by
  unfold State.farmOut; dsimp only; (repeat' split) <;> simp (disch := (intros; (try dsimp only); (repeat' split) <;> simp [State.ite_free, State.foldl_free])) [State.ite_free, State.foldl_free]
@[simp] theorem State.farmOut_pending : (s.farmOut i).pending = s.pending := by
  unfold State.farmOut; dsimp only; (repeat' split) <;> simp (disch := (intros; (try dsimp only); (repeat' split) <;> simp [State.ite_pending, State.foldl_pending])) [State.ite_pending, State.foldl_pending]
end

section
variable (i : FabInput) (s : State)
@[simp] theorem State.captureFarm_part : (s.captureFarm i).part = s.part := by
  unfold State.captureFarm; simp [State.ite_part, State.foldl_part, State.when_]
@[simp] theorem State.captureFarm_flash : (s.captureFarm i).flash = s.flash := by
  unfold State.captureFarm; simp [State.ite_flash, State.foldl_flash, State.when_]
@[simp] theorem State.captureFarm_aon : (s.captureFarm i).aon = s.aon := by
  unfold State.captureFarm; simp [State.ite_aon, State.foldl_aon, State.when_]
@[simp] theorem State.captureFarm_mgmt : (s.captureFarm i).mgmt = s.mgmt := by
  unfold State.captureFarm; simp [State.ite_mgmt, State.foldl_mgmt, State.when_]
@[simp] theorem State.captureFarm_time : (s.captureFarm i).time = s.time := by
  unfold State.captureFarm; simp [State.ite_time, State.foldl_time, State.when_]
@[simp] theorem State.captureFarm_pcie : (s.captureFarm i).pcie = s.pcie := by
  unfold State.captureFarm; simp [State.ite_pcie, State.foldl_pcie, State.when_]
@[simp] theorem State.captureFarm_mbx : (s.captureFarm i).mbx = s.mbx := by
  unfold State.captureFarm; simp [State.ite_mbx, State.foldl_mbx, State.when_]
@[simp] theorem State.captureFarm_rings : (s.captureFarm i).rings = s.rings := by
  unfold State.captureFarm; simp [State.ite_rings, State.foldl_rings, State.when_]
@[simp] theorem State.captureFarm_sessions : (s.captureFarm i).sessions = s.sessions := by
  unfold State.captureFarm; simp [State.ite_sessions, State.foldl_sessions, State.when_]
@[simp] theorem State.captureFarm_images : (s.captureFarm i).images = s.images := by
  unfold State.captureFarm; simp [State.ite_images, State.foldl_images, State.when_]
@[simp] theorem State.captureFarm_worlds : (s.captureFarm i).worlds = s.worlds := by
  unfold State.captureFarm; simp [State.ite_worlds, State.foldl_worlds, State.when_]
@[simp] theorem State.captureFarm_streams : (s.captureFarm i).streams = s.streams := by
  unfold State.captureFarm; simp [State.ite_streams, State.foldl_streams, State.when_]
@[simp] theorem State.captureFarm_clusters : (s.captureFarm i).clusters = s.clusters := by
  unfold State.captureFarm; simp [State.ite_clusters, State.foldl_clusters, State.when_]
@[simp] theorem State.captureFarm_stks : (s.captureFarm i).stks = s.stks := by
  unfold State.captureFarm; simp [State.ite_stks, State.foldl_stks, State.when_]
@[simp] theorem State.captureFarm_hub : (s.captureFarm i).hub = s.hub := by
  unfold State.captureFarm; simp [State.ite_hub, State.foldl_hub, State.when_]
@[simp] theorem State.captureFarm_frame : (s.captureFarm i).frame = s.frame := by
  unfold State.captureFarm; simp [State.ite_frame, State.foldl_frame, State.when_]
@[simp] theorem State.captureFarm_req : (s.captureFarm i).req = s.req := by
  unfold State.captureFarm; simp [State.ite_req, State.foldl_req, State.when_]
@[simp] theorem State.captureFarm_safety : (s.captureFarm i).safety = s.safety := by
  unfold State.captureFarm; simp [State.ite_safety, State.foldl_safety, State.when_]
@[simp] theorem State.captureFarm_boot : (s.captureFarm i).boot = s.boot := by
  unfold State.captureFarm; simp [State.ite_boot, State.foldl_boot, State.when_]
@[simp] theorem State.captureFarm_errors : (s.captureFarm i).errors = s.errors := by
  unfold State.captureFarm; simp [State.ite_errors, State.foldl_errors, State.when_]
@[simp] theorem State.captureFarm_fabric : (s.captureFarm i).fabric = s.fabric := by
  unfold State.captureFarm; simp [State.ite_fabric, State.foldl_fabric, State.when_]
@[simp] theorem State.captureFarm_farming : (s.captureFarm i).farming = s.farming := by
  unfold State.captureFarm; simp [State.ite_farming, State.foldl_farming, State.when_]
@[simp] theorem State.captureFarm_obs : (s.captureFarm i).obs = s.obs := by
  unfold State.captureFarm; simp [State.ite_obs, State.foldl_obs, State.when_]
@[simp] theorem State.captureFarm_host : (s.captureFarm i).host = s.host := by
  unfold State.captureFarm; simp [State.ite_host, State.foldl_host, State.when_]
@[simp] theorem State.captureFarm_hbm : (s.captureFarm i).hbm = s.hbm := by
  unfold State.captureFarm; simp [State.ite_hbm, State.foldl_hbm, State.when_]
@[simp] theorem State.captureFarm_sram : (s.captureFarm i).sram = s.sram := by
  unfold State.captureFarm; simp [State.ite_sram, State.foldl_sram, State.when_]
@[simp] theorem State.captureFarm_saves : (s.captureFarm i).saves = s.saves := by
  unfold State.captureFarm; simp [State.ite_saves, State.foldl_saves, State.when_]
@[simp] theorem State.captureFarm_free : (s.captureFarm i).free = s.free := by
  unfold State.captureFarm; simp [State.ite_free, State.foldl_free, State.when_]
@[simp] theorem State.captureFarm_pending : (s.captureFarm i).pending = s.pending := by
  unfold State.captureFarm; simp [State.ite_pending, State.foldl_pending, State.when_]
end

section
variable (i : FabInput) (s : State)
@[simp] theorem State.takeReply_part : (s.takeReply i).part = s.part := by
  unfold State.takeReply; simp [State.ite_part, State.foldl_part]
@[simp] theorem State.takeReply_flash : (s.takeReply i).flash = s.flash := by
  unfold State.takeReply; simp [State.ite_flash, State.foldl_flash]
@[simp] theorem State.takeReply_aon : (s.takeReply i).aon = s.aon := by
  unfold State.takeReply; simp [State.ite_aon, State.foldl_aon]
@[simp] theorem State.takeReply_mgmt : (s.takeReply i).mgmt = s.mgmt := by
  unfold State.takeReply; simp [State.ite_mgmt, State.foldl_mgmt]
@[simp] theorem State.takeReply_time : (s.takeReply i).time = s.time := by
  unfold State.takeReply; simp [State.ite_time, State.foldl_time]
@[simp] theorem State.takeReply_pcie : (s.takeReply i).pcie = s.pcie := by
  unfold State.takeReply; simp [State.ite_pcie, State.foldl_pcie]
@[simp] theorem State.takeReply_mbx : (s.takeReply i).mbx = s.mbx := by
  unfold State.takeReply; simp [State.ite_mbx, State.foldl_mbx]
@[simp] theorem State.takeReply_rings : (s.takeReply i).rings = s.rings := by
  unfold State.takeReply; simp [State.ite_rings, State.foldl_rings]
@[simp] theorem State.takeReply_sessions : (s.takeReply i).sessions = s.sessions := by
  unfold State.takeReply; simp [State.ite_sessions, State.foldl_sessions]
@[simp] theorem State.takeReply_images : (s.takeReply i).images = s.images := by
  unfold State.takeReply; simp [State.ite_images, State.foldl_images]
@[simp] theorem State.takeReply_worlds : (s.takeReply i).worlds = s.worlds := by
  unfold State.takeReply; simp [State.ite_worlds, State.foldl_worlds]
@[simp] theorem State.takeReply_streams : (s.takeReply i).streams = s.streams := by
  unfold State.takeReply; simp [State.ite_streams, State.foldl_streams]
@[simp] theorem State.takeReply_clusters : (s.takeReply i).clusters = s.clusters := by
  unfold State.takeReply; simp [State.ite_clusters, State.foldl_clusters]
@[simp] theorem State.takeReply_stks : (s.takeReply i).stks = s.stks := by
  unfold State.takeReply; simp [State.ite_stks, State.foldl_stks]
@[simp] theorem State.takeReply_frame : (s.takeReply i).frame = s.frame := by
  unfold State.takeReply; simp [State.ite_frame, State.foldl_frame]
@[simp] theorem State.takeReply_req : (s.takeReply i).req = s.req := by
  unfold State.takeReply; simp [State.ite_req, State.foldl_req]
@[simp] theorem State.takeReply_safety : (s.takeReply i).safety = s.safety := by
  unfold State.takeReply; simp [State.ite_safety, State.foldl_safety]
@[simp] theorem State.takeReply_boot : (s.takeReply i).boot = s.boot := by
  unfold State.takeReply; simp [State.ite_boot, State.foldl_boot]
@[simp] theorem State.takeReply_errors : (s.takeReply i).errors = s.errors := by
  unfold State.takeReply; simp [State.ite_errors, State.foldl_errors]
@[simp] theorem State.takeReply_fabric : (s.takeReply i).fabric = s.fabric := by
  unfold State.takeReply; simp [State.ite_fabric, State.foldl_fabric]
@[simp] theorem State.takeReply_obs : (s.takeReply i).obs = s.obs := by
  unfold State.takeReply; simp [State.ite_obs, State.foldl_obs]
@[simp] theorem State.takeReply_host : (s.takeReply i).host = s.host := by
  unfold State.takeReply; simp [State.ite_host, State.foldl_host]
@[simp] theorem State.takeReply_hbm : (s.takeReply i).hbm = s.hbm := by
  unfold State.takeReply; simp [State.ite_hbm, State.foldl_hbm]
@[simp] theorem State.takeReply_sram : (s.takeReply i).sram = s.sram := by
  unfold State.takeReply; simp [State.ite_sram, State.foldl_sram]
@[simp] theorem State.takeReply_saves : (s.takeReply i).saves = s.saves := by
  unfold State.takeReply; simp [State.ite_saves, State.foldl_saves]
@[simp] theorem State.takeReply_free : (s.takeReply i).free = s.free := by
  unfold State.takeReply; simp [State.ite_free, State.foldl_free]
@[simp] theorem State.takeReply_pending : (s.takeReply i).pending = s.pending := by
  unfold State.takeReply; simp [State.ite_pending, State.foldl_pending]
end

section
variable (s : State)
@[simp] theorem State.takeReplies_part : (s.takeReplies).part = s.part := by
  unfold State.takeReplies; simp [State.ite_part, State.foldl_part]
@[simp] theorem State.takeReplies_flash : (s.takeReplies).flash = s.flash := by
  unfold State.takeReplies; simp [State.ite_flash, State.foldl_flash]
@[simp] theorem State.takeReplies_aon : (s.takeReplies).aon = s.aon := by
  unfold State.takeReplies; simp [State.ite_aon, State.foldl_aon]
@[simp] theorem State.takeReplies_mgmt : (s.takeReplies).mgmt = s.mgmt := by
  unfold State.takeReplies; simp [State.ite_mgmt, State.foldl_mgmt]
@[simp] theorem State.takeReplies_time : (s.takeReplies).time = s.time := by
  unfold State.takeReplies; simp [State.ite_time, State.foldl_time]
@[simp] theorem State.takeReplies_pcie : (s.takeReplies).pcie = s.pcie := by
  unfold State.takeReplies; simp [State.ite_pcie, State.foldl_pcie]
@[simp] theorem State.takeReplies_mbx : (s.takeReplies).mbx = s.mbx := by
  unfold State.takeReplies; simp [State.ite_mbx, State.foldl_mbx]
@[simp] theorem State.takeReplies_rings : (s.takeReplies).rings = s.rings := by
  unfold State.takeReplies; simp [State.ite_rings, State.foldl_rings]
@[simp] theorem State.takeReplies_sessions : (s.takeReplies).sessions = s.sessions := by
  unfold State.takeReplies; simp [State.ite_sessions, State.foldl_sessions]
@[simp] theorem State.takeReplies_images : (s.takeReplies).images = s.images := by
  unfold State.takeReplies; simp [State.ite_images, State.foldl_images]
@[simp] theorem State.takeReplies_worlds : (s.takeReplies).worlds = s.worlds := by
  unfold State.takeReplies; simp [State.ite_worlds, State.foldl_worlds]
@[simp] theorem State.takeReplies_streams : (s.takeReplies).streams = s.streams := by
  unfold State.takeReplies; simp [State.ite_streams, State.foldl_streams]
@[simp] theorem State.takeReplies_clusters : (s.takeReplies).clusters = s.clusters := by
  unfold State.takeReplies; simp [State.ite_clusters, State.foldl_clusters]
@[simp] theorem State.takeReplies_stks : (s.takeReplies).stks = s.stks := by
  unfold State.takeReplies; simp [State.ite_stks, State.foldl_stks]
@[simp] theorem State.takeReplies_frame : (s.takeReplies).frame = s.frame := by
  unfold State.takeReplies; simp [State.ite_frame, State.foldl_frame]
@[simp] theorem State.takeReplies_req : (s.takeReplies).req = s.req := by
  unfold State.takeReplies; simp [State.ite_req, State.foldl_req]
@[simp] theorem State.takeReplies_safety : (s.takeReplies).safety = s.safety := by
  unfold State.takeReplies; simp [State.ite_safety, State.foldl_safety]
@[simp] theorem State.takeReplies_boot : (s.takeReplies).boot = s.boot := by
  unfold State.takeReplies; simp [State.ite_boot, State.foldl_boot]
@[simp] theorem State.takeReplies_errors : (s.takeReplies).errors = s.errors := by
  unfold State.takeReplies; simp [State.ite_errors, State.foldl_errors]
@[simp] theorem State.takeReplies_fabric : (s.takeReplies).fabric = s.fabric := by
  unfold State.takeReplies; simp [State.ite_fabric, State.foldl_fabric]
@[simp] theorem State.takeReplies_obs : (s.takeReplies).obs = s.obs := by
  unfold State.takeReplies; simp [State.ite_obs, State.foldl_obs]
@[simp] theorem State.takeReplies_host : (s.takeReplies).host = s.host := by
  unfold State.takeReplies; simp [State.ite_host, State.foldl_host]
@[simp] theorem State.takeReplies_hbm : (s.takeReplies).hbm = s.hbm := by
  unfold State.takeReplies; simp [State.ite_hbm, State.foldl_hbm]
@[simp] theorem State.takeReplies_sram : (s.takeReplies).sram = s.sram := by
  unfold State.takeReplies; simp [State.ite_sram, State.foldl_sram]
@[simp] theorem State.takeReplies_saves : (s.takeReplies).saves = s.saves := by
  unfold State.takeReplies; simp [State.ite_saves, State.foldl_saves]
@[simp] theorem State.takeReplies_free : (s.takeReplies).free = s.free := by
  unfold State.takeReplies; simp [State.ite_free, State.foldl_free]
@[simp] theorem State.takeReplies_pending : (s.takeReplies).pending = s.pending := by
  unfold State.takeReplies; simp [State.ite_pending, State.foldl_pending]
end

section
variable (k : Nat) (d : TaskDesc) (x : Stream) (op : TaskOp) (id : Nat) (s : State)
@[simp] theorem State.queueTask_part : (s.queueTask k d).part = s.part := by
  unfold State.queueTask; dsimp only; split <;> rfl
@[simp] theorem State.newTask_part : (s.newTask k d).part = s.part := by
  unfold State.newTask; simp [State.ite_part]
@[simp] theorem State.issuePinned_part : (s.issuePinned x op).part = s.part := by
  unfold State.issuePinned; simp [State.ite_part]
@[simp] theorem State.issueSweeps_part : (s.issueSweeps id).part = s.part := by
  unfold State.issueSweeps; split <;> simp [State.ite_part]
@[simp] theorem State.queueTask_flash : (s.queueTask k d).flash = s.flash := by
  unfold State.queueTask; dsimp only; split <;> rfl
@[simp] theorem State.newTask_flash : (s.newTask k d).flash = s.flash := by
  unfold State.newTask; simp [State.ite_flash]
@[simp] theorem State.issuePinned_flash : (s.issuePinned x op).flash = s.flash := by
  unfold State.issuePinned; simp [State.ite_flash]
@[simp] theorem State.issueSweeps_flash : (s.issueSweeps id).flash = s.flash := by
  unfold State.issueSweeps; split <;> simp [State.ite_flash]
@[simp] theorem State.queueTask_aon : (s.queueTask k d).aon = s.aon := by
  unfold State.queueTask; dsimp only; split <;> rfl
@[simp] theorem State.newTask_aon : (s.newTask k d).aon = s.aon := by
  unfold State.newTask; simp [State.ite_aon]
@[simp] theorem State.issuePinned_aon : (s.issuePinned x op).aon = s.aon := by
  unfold State.issuePinned; simp [State.ite_aon]
@[simp] theorem State.issueSweeps_aon : (s.issueSweeps id).aon = s.aon := by
  unfold State.issueSweeps; split <;> simp [State.ite_aon]
@[simp] theorem State.queueTask_mgmt : (s.queueTask k d).mgmt = s.mgmt := by
  unfold State.queueTask; dsimp only; split <;> rfl
@[simp] theorem State.newTask_mgmt : (s.newTask k d).mgmt = s.mgmt := by
  unfold State.newTask; simp [State.ite_mgmt]
@[simp] theorem State.issuePinned_mgmt : (s.issuePinned x op).mgmt = s.mgmt := by
  unfold State.issuePinned; simp [State.ite_mgmt]
@[simp] theorem State.issueSweeps_mgmt : (s.issueSweeps id).mgmt = s.mgmt := by
  unfold State.issueSweeps; split <;> simp [State.ite_mgmt]
@[simp] theorem State.queueTask_time : (s.queueTask k d).time = s.time := by
  unfold State.queueTask; dsimp only; split <;> rfl
@[simp] theorem State.newTask_time : (s.newTask k d).time = s.time := by
  unfold State.newTask; simp [State.ite_time]
@[simp] theorem State.issuePinned_time : (s.issuePinned x op).time = s.time := by
  unfold State.issuePinned; simp [State.ite_time]
@[simp] theorem State.issueSweeps_time : (s.issueSweeps id).time = s.time := by
  unfold State.issueSweeps; split <;> simp [State.ite_time]
@[simp] theorem State.queueTask_pcie : (s.queueTask k d).pcie = s.pcie := by
  unfold State.queueTask; dsimp only; split <;> rfl
@[simp] theorem State.newTask_pcie : (s.newTask k d).pcie = s.pcie := by
  unfold State.newTask; simp [State.ite_pcie]
@[simp] theorem State.issuePinned_pcie : (s.issuePinned x op).pcie = s.pcie := by
  unfold State.issuePinned; simp [State.ite_pcie]
@[simp] theorem State.issueSweeps_pcie : (s.issueSweeps id).pcie = s.pcie := by
  unfold State.issueSweeps; split <;> simp [State.ite_pcie]
@[simp] theorem State.queueTask_mbx : (s.queueTask k d).mbx = s.mbx := by
  unfold State.queueTask; dsimp only; split <;> rfl
@[simp] theorem State.newTask_mbx : (s.newTask k d).mbx = s.mbx := by
  unfold State.newTask; simp [State.ite_mbx]
@[simp] theorem State.issuePinned_mbx : (s.issuePinned x op).mbx = s.mbx := by
  unfold State.issuePinned; simp [State.ite_mbx]
@[simp] theorem State.issueSweeps_mbx : (s.issueSweeps id).mbx = s.mbx := by
  unfold State.issueSweeps; split <;> simp [State.ite_mbx]
@[simp] theorem State.queueTask_rings : (s.queueTask k d).rings = s.rings := by
  unfold State.queueTask; dsimp only; split <;> rfl
@[simp] theorem State.newTask_rings : (s.newTask k d).rings = s.rings := by
  unfold State.newTask; simp [State.ite_rings]
@[simp] theorem State.issuePinned_rings : (s.issuePinned x op).rings = s.rings := by
  unfold State.issuePinned; simp [State.ite_rings]
@[simp] theorem State.issueSweeps_rings : (s.issueSweeps id).rings = s.rings := by
  unfold State.issueSweeps; split <;> simp [State.ite_rings]
@[simp] theorem State.queueTask_sessions : (s.queueTask k d).sessions = s.sessions := by
  unfold State.queueTask; dsimp only; split <;> rfl
@[simp] theorem State.newTask_sessions : (s.newTask k d).sessions = s.sessions := by
  unfold State.newTask; simp [State.ite_sessions]
@[simp] theorem State.issuePinned_sessions : (s.issuePinned x op).sessions = s.sessions := by
  unfold State.issuePinned; simp [State.ite_sessions]
@[simp] theorem State.issueSweeps_sessions : (s.issueSweeps id).sessions = s.sessions := by
  unfold State.issueSweeps; split <;> simp [State.ite_sessions]
@[simp] theorem State.queueTask_images : (s.queueTask k d).images = s.images := by
  unfold State.queueTask; dsimp only; split <;> rfl
@[simp] theorem State.newTask_images : (s.newTask k d).images = s.images := by
  unfold State.newTask; simp [State.ite_images]
@[simp] theorem State.issuePinned_images : (s.issuePinned x op).images = s.images := by
  unfold State.issuePinned; simp [State.ite_images]
@[simp] theorem State.issueSweeps_images : (s.issueSweeps id).images = s.images := by
  unfold State.issueSweeps; split <;> simp [State.ite_images]
@[simp] theorem State.queueTask_worlds : (s.queueTask k d).worlds = s.worlds := by
  unfold State.queueTask; dsimp only; split <;> rfl
@[simp] theorem State.newTask_worlds : (s.newTask k d).worlds = s.worlds := by
  unfold State.newTask; simp [State.ite_worlds]
@[simp] theorem State.issuePinned_worlds : (s.issuePinned x op).worlds = s.worlds := by
  unfold State.issuePinned; simp [State.ite_worlds]
@[simp] theorem State.issueSweeps_worlds : (s.issueSweeps id).worlds = s.worlds := by
  unfold State.issueSweeps; split <;> simp [State.ite_worlds]
@[simp] theorem State.queueTask_streams : (s.queueTask k d).streams = s.streams := by
  unfold State.queueTask; dsimp only; split <;> rfl
@[simp] theorem State.newTask_streams : (s.newTask k d).streams = s.streams := by
  unfold State.newTask; simp [State.ite_streams]
@[simp] theorem State.issuePinned_streams : (s.issuePinned x op).streams = s.streams := by
  unfold State.issuePinned; simp [State.ite_streams]
@[simp] theorem State.issueSweeps_streams : (s.issueSweeps id).streams = s.streams := by
  unfold State.issueSweeps; split <;> simp [State.ite_streams]
@[simp] theorem State.queueTask_clusters : (s.queueTask k d).clusters = s.clusters := by
  unfold State.queueTask; dsimp only; split <;> rfl
@[simp] theorem State.newTask_clusters : (s.newTask k d).clusters = s.clusters := by
  unfold State.newTask; simp [State.ite_clusters]
@[simp] theorem State.issuePinned_clusters : (s.issuePinned x op).clusters = s.clusters := by
  unfold State.issuePinned; simp [State.ite_clusters]
@[simp] theorem State.issueSweeps_clusters : (s.issueSweeps id).clusters = s.clusters := by
  unfold State.issueSweeps; split <;> simp [State.ite_clusters]
@[simp] theorem State.queueTask_frame : (s.queueTask k d).frame = s.frame := by
  unfold State.queueTask; dsimp only; split <;> rfl
@[simp] theorem State.newTask_frame : (s.newTask k d).frame = s.frame := by
  unfold State.newTask; simp [State.ite_frame]
@[simp] theorem State.issuePinned_frame : (s.issuePinned x op).frame = s.frame := by
  unfold State.issuePinned; simp [State.ite_frame]
@[simp] theorem State.issueSweeps_frame : (s.issueSweeps id).frame = s.frame := by
  unfold State.issueSweeps; split <;> simp [State.ite_frame]
@[simp] theorem State.queueTask_req : (s.queueTask k d).req = s.req := by
  unfold State.queueTask; dsimp only; split <;> rfl
@[simp] theorem State.newTask_req : (s.newTask k d).req = s.req := by
  unfold State.newTask; simp [State.ite_req]
@[simp] theorem State.issuePinned_req : (s.issuePinned x op).req = s.req := by
  unfold State.issuePinned; simp [State.ite_req]
@[simp] theorem State.issueSweeps_req : (s.issueSweeps id).req = s.req := by
  unfold State.issueSweeps; split <;> simp [State.ite_req]
@[simp] theorem State.queueTask_det : (s.queueTask k d).det = s.det := by
  unfold State.queueTask; dsimp only; split <;> rfl
@[simp] theorem State.newTask_det : (s.newTask k d).det = s.det := by
  unfold State.newTask; simp [State.ite_det]
@[simp] theorem State.issuePinned_det : (s.issuePinned x op).det = s.det := by
  unfold State.issuePinned; simp [State.ite_det]
@[simp] theorem State.issueSweeps_det : (s.issueSweeps id).det = s.det := by
  unfold State.issueSweeps; split <;> simp [State.ite_det]
@[simp] theorem State.queueTask_safety : (s.queueTask k d).safety = s.safety := by
  unfold State.queueTask; dsimp only; split <;> rfl
@[simp] theorem State.newTask_safety : (s.newTask k d).safety = s.safety := by
  unfold State.newTask; simp [State.ite_safety]
@[simp] theorem State.issuePinned_safety : (s.issuePinned x op).safety = s.safety := by
  unfold State.issuePinned; simp [State.ite_safety]
@[simp] theorem State.issueSweeps_safety : (s.issueSweeps id).safety = s.safety := by
  unfold State.issueSweeps; split <;> simp [State.ite_safety]
@[simp] theorem State.queueTask_boot : (s.queueTask k d).boot = s.boot := by
  unfold State.queueTask; dsimp only; split <;> rfl
@[simp] theorem State.newTask_boot : (s.newTask k d).boot = s.boot := by
  unfold State.newTask; simp [State.ite_boot]
@[simp] theorem State.issuePinned_boot : (s.issuePinned x op).boot = s.boot := by
  unfold State.issuePinned; simp [State.ite_boot]
@[simp] theorem State.issueSweeps_boot : (s.issueSweeps id).boot = s.boot := by
  unfold State.issueSweeps; split <;> simp [State.ite_boot]
@[simp] theorem State.queueTask_errors : (s.queueTask k d).errors = s.errors := by
  unfold State.queueTask; dsimp only; split <;> rfl
@[simp] theorem State.newTask_errors : (s.newTask k d).errors = s.errors := by
  unfold State.newTask; simp [State.ite_errors]
@[simp] theorem State.issuePinned_errors : (s.issuePinned x op).errors = s.errors := by
  unfold State.issuePinned; simp [State.ite_errors]
@[simp] theorem State.issueSweeps_errors : (s.issueSweeps id).errors = s.errors := by
  unfold State.issueSweeps; split <;> simp [State.ite_errors]
@[simp] theorem State.queueTask_fabric : (s.queueTask k d).fabric = s.fabric := by
  unfold State.queueTask; dsimp only; split <;> rfl
@[simp] theorem State.newTask_fabric : (s.newTask k d).fabric = s.fabric := by
  unfold State.newTask; simp [State.ite_fabric]
@[simp] theorem State.issuePinned_fabric : (s.issuePinned x op).fabric = s.fabric := by
  unfold State.issuePinned; simp [State.ite_fabric]
@[simp] theorem State.issueSweeps_fabric : (s.issueSweeps id).fabric = s.fabric := by
  unfold State.issueSweeps; split <;> simp [State.ite_fabric]
@[simp] theorem State.queueTask_farming : (s.queueTask k d).farming = s.farming := by
  unfold State.queueTask; dsimp only; split <;> rfl
@[simp] theorem State.newTask_farming : (s.newTask k d).farming = s.farming := by
  unfold State.newTask; simp [State.ite_farming]
@[simp] theorem State.issuePinned_farming : (s.issuePinned x op).farming = s.farming := by
  unfold State.issuePinned; simp [State.ite_farming]
@[simp] theorem State.issueSweeps_farming : (s.issueSweeps id).farming = s.farming := by
  unfold State.issueSweeps; split <;> simp [State.ite_farming]
@[simp] theorem State.queueTask_obs : (s.queueTask k d).obs = s.obs := by
  unfold State.queueTask; dsimp only; split <;> rfl
@[simp] theorem State.newTask_obs : (s.newTask k d).obs = s.obs := by
  unfold State.newTask; simp [State.ite_obs]
@[simp] theorem State.issuePinned_obs : (s.issuePinned x op).obs = s.obs := by
  unfold State.issuePinned; simp [State.ite_obs]
@[simp] theorem State.issueSweeps_obs : (s.issueSweeps id).obs = s.obs := by
  unfold State.issueSweeps; split <;> simp [State.ite_obs]
@[simp] theorem State.queueTask_host : (s.queueTask k d).host = s.host := by
  unfold State.queueTask; dsimp only; split <;> rfl
@[simp] theorem State.newTask_host : (s.newTask k d).host = s.host := by
  unfold State.newTask; simp [State.ite_host]
@[simp] theorem State.issuePinned_host : (s.issuePinned x op).host = s.host := by
  unfold State.issuePinned; simp [State.ite_host]
@[simp] theorem State.issueSweeps_host : (s.issueSweeps id).host = s.host := by
  unfold State.issueSweeps; split <;> simp [State.ite_host]
@[simp] theorem State.queueTask_hbm : (s.queueTask k d).hbm = s.hbm := by
  unfold State.queueTask; dsimp only; split <;> rfl
@[simp] theorem State.newTask_hbm : (s.newTask k d).hbm = s.hbm := by
  unfold State.newTask; simp [State.ite_hbm]
@[simp] theorem State.issuePinned_hbm : (s.issuePinned x op).hbm = s.hbm := by
  unfold State.issuePinned; simp [State.ite_hbm]
@[simp] theorem State.issueSweeps_hbm : (s.issueSweeps id).hbm = s.hbm := by
  unfold State.issueSweeps; split <;> simp [State.ite_hbm]
@[simp] theorem State.queueTask_sram : (s.queueTask k d).sram = s.sram := by
  unfold State.queueTask; dsimp only; split <;> rfl
@[simp] theorem State.newTask_sram : (s.newTask k d).sram = s.sram := by
  unfold State.newTask; simp [State.ite_sram]
@[simp] theorem State.issuePinned_sram : (s.issuePinned x op).sram = s.sram := by
  unfold State.issuePinned; simp [State.ite_sram]
@[simp] theorem State.issueSweeps_sram : (s.issueSweeps id).sram = s.sram := by
  unfold State.issueSweeps; split <;> simp [State.ite_sram]
@[simp] theorem State.queueTask_saves : (s.queueTask k d).saves = s.saves := by
  unfold State.queueTask; dsimp only; split <;> rfl
@[simp] theorem State.newTask_saves : (s.newTask k d).saves = s.saves := by
  unfold State.newTask; simp [State.ite_saves]
@[simp] theorem State.issuePinned_saves : (s.issuePinned x op).saves = s.saves := by
  unfold State.issuePinned; simp [State.ite_saves]
@[simp] theorem State.issueSweeps_saves : (s.issueSweeps id).saves = s.saves := by
  unfold State.issueSweeps; split <;> simp [State.ite_saves]
@[simp] theorem State.queueTask_free : (s.queueTask k d).free = s.free := by
  unfold State.queueTask; dsimp only; split <;> rfl
@[simp] theorem State.newTask_free : (s.newTask k d).free = s.free := by
  unfold State.newTask; simp [State.ite_free]
@[simp] theorem State.issuePinned_free : (s.issuePinned x op).free = s.free := by
  unfold State.issuePinned; simp [State.ite_free]
@[simp] theorem State.issueSweeps_free : (s.issueSweeps id).free = s.free := by
  unfold State.issueSweeps; split <;> simp [State.ite_free]
@[simp] theorem State.queueTask_pending : (s.queueTask k d).pending = s.pending := by
  unfold State.queueTask; dsimp only; split <;> rfl
@[simp] theorem State.newTask_pending : (s.newTask k d).pending = s.pending := by
  unfold State.newTask; simp [State.ite_pending]
@[simp] theorem State.issuePinned_pending : (s.issuePinned x op).pending = s.pending := by
  unfold State.issuePinned; simp [State.ite_pending]
@[simp] theorem State.issueSweeps_pending : (s.issueSweeps id).pending = s.pending := by
  unfold State.issueSweeps; split <;> simp [State.ite_pending]
end

section
variable (s : State)
@[simp] theorem State.formQueries_part : (s.formQueries).part = s.part := by
  unfold State.formQueries; simp [State.ite_part, State.foldl_part, State.when_]
@[simp] theorem State.formQueries_flash : (s.formQueries).flash = s.flash := by
  unfold State.formQueries; simp [State.ite_flash, State.foldl_flash, State.when_]
@[simp] theorem State.formQueries_aon : (s.formQueries).aon = s.aon := by
  unfold State.formQueries; simp [State.ite_aon, State.foldl_aon, State.when_]
@[simp] theorem State.formQueries_mgmt : (s.formQueries).mgmt = s.mgmt := by
  unfold State.formQueries; simp [State.ite_mgmt, State.foldl_mgmt, State.when_]
@[simp] theorem State.formQueries_time : (s.formQueries).time = s.time := by
  unfold State.formQueries; simp [State.ite_time, State.foldl_time, State.when_]
@[simp] theorem State.formQueries_pcie : (s.formQueries).pcie = s.pcie := by
  unfold State.formQueries; simp [State.ite_pcie, State.foldl_pcie, State.when_]
@[simp] theorem State.formQueries_rings : (s.formQueries).rings = s.rings := by
  unfold State.formQueries; simp [State.ite_rings, State.foldl_rings, State.when_]
@[simp] theorem State.formQueries_sessions : (s.formQueries).sessions = s.sessions := by
  unfold State.formQueries; simp [State.ite_sessions, State.foldl_sessions, State.when_]
@[simp] theorem State.formQueries_images : (s.formQueries).images = s.images := by
  unfold State.formQueries; simp [State.ite_images, State.foldl_images, State.when_]
@[simp] theorem State.formQueries_clusters : (s.formQueries).clusters = s.clusters := by
  unfold State.formQueries; simp [State.ite_clusters, State.foldl_clusters, State.when_]
@[simp] theorem State.formQueries_frame : (s.formQueries).frame = s.frame := by
  unfold State.formQueries; simp [State.ite_frame, State.foldl_frame, State.when_]
@[simp] theorem State.formQueries_req : (s.formQueries).req = s.req := by
  unfold State.formQueries; simp [State.ite_req, State.foldl_req, State.when_]
@[simp] theorem State.formQueries_safety : (s.formQueries).safety = s.safety := by
  unfold State.formQueries; simp [State.ite_safety, State.foldl_safety, State.when_]
@[simp] theorem State.formQueries_boot : (s.formQueries).boot = s.boot := by
  unfold State.formQueries; simp [State.ite_boot, State.foldl_boot, State.when_]
@[simp] theorem State.formQueries_errors : (s.formQueries).errors = s.errors := by
  unfold State.formQueries; simp [State.ite_errors, State.foldl_errors, State.when_]
@[simp] theorem State.formQueries_obs : (s.formQueries).obs = s.obs := by
  unfold State.formQueries; simp [State.ite_obs, State.foldl_obs, State.when_]
@[simp] theorem State.formQueries_host : (s.formQueries).host = s.host := by
  unfold State.formQueries; simp [State.ite_host, State.foldl_host, State.when_]
@[simp] theorem State.formQueries_hbm : (s.formQueries).hbm = s.hbm := by
  unfold State.formQueries; simp [State.ite_hbm, State.foldl_hbm, State.when_]
@[simp] theorem State.formQueries_sram : (s.formQueries).sram = s.sram := by
  unfold State.formQueries; simp [State.ite_sram, State.foldl_sram, State.when_]
@[simp] theorem State.formQueries_saves : (s.formQueries).saves = s.saves := by
  unfold State.formQueries; simp [State.ite_saves, State.foldl_saves, State.when_]
@[simp] theorem State.formQueries_pending : (s.formQueries).pending = s.pending := by
  unfold State.formQueries; simp [State.ite_pending, State.foldl_pending, State.when_]
end

end Sys2Proof.Machine
end

