-- ==== Sys2Proof/Laws/Mailbox.lean ====
section
/-!
SUPPORT. Sys2Proof/Laws/Mailbox.lean: the command table, responses, the checks of a command, and an opcode row on a ready
command.
-/
namespace Sys2Proof.Machine

theorem slotOk_of (fn slot : Nat) (h : isSlot fn slot) : slotOk fn slot = true := by
  obtain ⟨h1, h2⟩ := h; simp [slotOk, fnOk, below, h1, h2]

/-- The command in a slot names that slot. -/
theorem State.cmd?_slot {s : State} {fn slot : Nat} {c : Cmd} (h : s.cmd? fn slot = some c) : c.fn = fn ∧ c.slot = slot := by
  have := List.find?_some h
  simpa using this

theorem State.cmd?_mbx {s s' : State} (h : s'.mbx = s.mbx) (fn slot : Nat) : s'.cmd? fn slot = s.cmd? fn slot := by
  simp [State.cmd?, h]

/-- Rewriting every command, each in its slot. -/
theorem State.cmd?_map (s s' : State) (f : Cmd → Cmd) (hf : ∀ c, (f c).fn = c.fn ∧ (f c).slot = c.slot)
    (h : s'.mbx.cmds = s.mbx.cmds.map f) (fn slot : Nat) : s'.cmd? fn slot = (s.cmd? fn slot).map f := by
  simp only [State.cmd?, h]
  induction s.mbx.cmds with
  | nil => rfl
  | cons c r ih => simp only [List.map_cons, List.find?_cons, (hf c).1, (hf c).2]; split <;> simp_all

/-- Rewriting the command in a slot. -/
theorem State.cmd?_modCmd (s : State) (fn slot : Nat) (f : Cmd → Cmd) (hf : ∀ c, (f c).fn = c.fn ∧ (f c).slot = c.slot) :
    (s.modCmd fn slot f).cmd? fn slot = (s.cmd? fn slot).map f := by
  simp only [State.cmd?, State.modCmd, State.modMbx]
  induction s.mbx.cmds with
  | nil => rfl
  | cons c r ih =>
    simp only [List.map_cons, List.find?_cons]
    by_cases hc : c.fn = fn ∧ c.slot = slot
    · simp [hc, hf c]
    · have : (c.fn == fn && c.slot == slot) = false := by
        simp only [not_and_or] at hc; rcases hc with h | h <;> simp [h]
      simp [if_neg hc, this, ih]

theorem State.cmd?_respond {s : State} {fn slot : Nat} {c c' : Cmd} (r : Response) (h : s.cmd? fn slot = some c)
    (hc : c'.fn = fn ∧ c'.slot = slot) (hn : c.response = none) :
    (s.respond c' r).cmd? fn slot = some { c with response := some r, stage := .done } := by
  rw [State.respond, hc.1, hc.2, State.cmd?_modCmd, h]
  · simp [hn]
  · intro x; split <;> simp

theorem State.reply?_respond {s : State} {fn slot : Nat} {c c' : Cmd} (r : Response) (h : s.cmd? fn slot = some c)
    (hc : c'.fn = fn ∧ c'.slot = slot) (hn : c.response = none) : (s.respond c' r).reply? fn slot = some r := by
  simp [State.reply?, State.cmd?_respond r h hc hn]

theorem State.reply?_mbx {s s' : State} (h : s'.mbx = s.mbx) (fn slot : Nat) : s'.reply? fn slot = s.reply? fn slot := by
  simp [State.reply?, State.cmd?, h]

/-- A command that has its answer keeps it when its session leaves. -/
theorem State.reply?_dropWaiting {s : State} {fn slot : Nat} {r : Response} (i : Nat) (h : s.reply? fn slot = some r) :
    (s.dropWaiting i).reply? fn slot = some r := by
  simp only [State.reply?] at h ⊢
  rw [State.cmd?_map s (s.dropWaiting i) _ ?_ rfl]
  · cases hc : s.cmd? fn slot with
    | none => simp [hc] at h
    | some c => simp only [hc, Option.bind_some] at h; simp [h]
  · intro c; split <;> simp

/-- Success answers the command, whatever was written to other parts of the state before. -/
theorem State.reply?_accept {s s' : State} {fn slot : Nat} {c : Cmd} (hm : s'.mbx = s.mbx) (h : s.cmd? fn slot = some c)
    (hn : c.response = none) (p : List Byte) : (s'.accept c p).reply? fn slot = some (okReply p) :=
  State.reply?_respond _ ((State.cmd?_mbx hm fn slot).trans h) (State.cmd?_slot h) hn

/-- A refusal answers the command. -/
theorem State.reply?_refuse {s s' : State} {fn slot : Nat} {c : Cmd} (hm : s'.mbx = s.mbx) (h : s.cmd? fn slot = some c)
    (hn : c.response = none) (st a : Nat) : (s'.refuse c st a).reply? fn slot = some (refusal st a) :=
  State.reply?_respond _ ((State.cmd?_mbx hm fn slot).trans h) (State.cmd?_slot h) hn

/-- The like with the queue put back, as `exec` answers it. -/
theorem State.answered {s s' : State} {op fn slot : Nat} {c : Cmd} (h : s.isReady op fn slot c) (hm : s'.mbx = s.mbx)
    (p : List Byte) (q : List Instr) : State.reply? { s'.accept c p with pending := q } fn slot = some (okReply p) :=
  State.reply?_accept hm h.1 h.2.2.2.1 p

/-- The like for a refusal. -/
theorem State.refused {s s' : State} {op fn slot : Nat} {c : Cmd} (h : s.isReady op fn slot c) (hm : s'.mbx = s.mbx)
    (st a : Nat) (q : List Instr) : State.reply? { s'.refuse c st a with pending := q } fn slot = some (refusal st a) :=
  State.reply?_refuse hm h.1 h.2.2.2.1 st a

/-- A ready command has arrived. -/
theorem State.isReady.arrived {s : State} {op fn slot : Nat} {c : Cmd} (h : s.isReady op fn slot c) :
    s.isArrived op fn slot c := ⟨h.1, h.2.1, h.2.2.1, h.2.2.2.1, h.2.2.2.2.1⟩

/-- An arrived command is answered, with the queue put back as `exec` answers it. -/
theorem State.answeredA {s s' : State} {op fn slot : Nat} {c : Cmd} (h : s.isArrived op fn slot c) (hm : s'.mbx = s.mbx)
    (p : List Byte) (q : List Instr) : State.reply? { s'.accept c p with pending := q } fn slot = some (okReply p) :=
  State.reply?_accept hm h.1 h.2.2.2.1 p

/-- The like for a refusal. -/
theorem State.refusedA {s s' : State} {op fn slot : Nat} {c : Cmd} (h : s.isArrived op fn slot c) (hm : s'.mbx = s.mbx)
    (st a : Nat) (q : List Instr) : State.reply? { s'.refuse c st a with pending := q } fn slot = some (refusal st a) :=
  State.reply?_refuse hm h.1 h.2.2.2.1 st a

theorem State.cmd?_wait {s s' : State} {fn slot : Nat} {c : Cmd} (hm : s'.mbx = s.mbx) (h : s.cmd? fn slot = some c) :
    (s'.wait c).cmd? fn slot = some { c with stage := .waiting } := by
  have hs := State.cmd?_slot h
  rw [State.wait, hs.1, hs.2, State.cmd?_modCmd, State.cmd?_mbx hm, h]
  · simp [hs.1, hs.2]
  · intro x; simp

/-- A check that holds lets the rest run. -/
theorem State.need_pos {c : Cmd} {ok : Bool} (h : ok = true) (st : Nat) (s : State) (f : State → State) (a : Nat) :
    s.need c ok st f a = f s := by simp [State.need, h]

/-- A check that fails refuses the command. -/
theorem State.need_neg {c : Cmd} {ok : Bool} (h : ok = false) (st : Nat) (s : State) (f : State → State) (a : Nat) :
    s.need c ok st f a = s.refuse c st a := by simp [State.need, h]

/-- A payload of the right shape lets the rest run. -/
theorem State.shape_pos {c : Cmd} {n : Nat} {resv : List (Nat × Nat)} (hl : c.payload.length = n)
    (hr : ∀ r ∈ resv, allZero (slice c.payload r.1 r.2) = true) (s : State) (f : State → State) :
    s.shape c n resv f = f s := by
  rw [State.shape, State.need_pos (by simp [hl]), State.need_pos (by simpa using hr)]

/-- A row names the command of its slot when that one meets the row's test. -/
theorem State.cmdFor_of {s : State} {fn slot : Nat} {c : Cmd} {p : Cmd → Bool} (h : s.cmd? fn slot = some c) (hp : p c = true) :
    s.cmdFor fn slot p = some c := by simp [State.cmdFor, h, hp]

/-- An opcode row on a ready command runs its body, on the state with the capture entry. -/
theorem runCmd_ready {s : State} {op fn slot : Nat} {c : Cmd} (h : s.isReady op fn slot c) (body : Cmd → State → State)
    (due : Cmd → State → Bool) (hd : due c s = true) (captured : Bool) :
    runCmd op fn slot body s due captured = body c (if captured then s.captureCmd c else s) := by
  obtain ⟨h1, h2, h3, h4, h0, h5, h6⟩ := h
  simp [runCmd, State.cmdFor_of h1, h2, h3, h4, h0, h5, h6, hd]

/-- An opcode row on an arrived command: check 10 of R314 for QUARANTINE (R332) and replay (R300), then its body. -/
theorem runCmd_arrived {s : State} {op fn slot : Nat} {c : Cmd} (h : s.isArrived op fn slot c) (body : Cmd → State → State)
    (due : Cmd → State → Bool) (hd : due c s = true) (captured : Bool) :
    runCmd op fn slot body s due captured =
      if s.boot.mode = 1 ∧ !quarantineOk op then (s.refuse c 0x0208).freeLanding c
      else if s.frame.devState = 3 ∧ !replayOk op then (s.refuse c 0x0205).freeLanding c
      else body c (if captured then s.captureCmd c else s) := by
  obtain ⟨h1, h2, h3, h4, h0⟩ := h
  simp [runCmd, State.cmdFor_of h1, h2, h3, h4, h0, hd]

theorem ranAt_pos {ok : Bool} (h : ok = true) (t : Nat) (s : State) (f : State → State) :
    ranAt ok t s f = .next { f (s.at t) with pending := (s.at t).pending } := by subst h; rfl

/-- A command that has arrived and that its mode permits. -/
theorem execArrived {s : State} {op fn slot : Nat} {c : Cmd} (hs : isSlot fn slot) (h : s.isArrived op fn slot c)
    (hq : s.boot.mode = 1 → quarantineOk op = true) (hr : s.frame.devState = 3 → replayOk op = true) (t : Nat)
    (body : Cmd → State → State) :
    ranAt (slotOk fn slot) t s (runCmd op fn slot body) =
      .next { body c ((s.at t).captureCmd c) with pending := s.pending } := by
  have key := runCmd_arrived (s := s.at t) h body (fun _ _ => true) rfl true
  rw [if_neg (by intro x; have := hq x.1; simp_all), if_neg (by intro x; have := hr x.1; simp_all)] at key
  rw [ranAt_pos (slotOk_of fn slot hs), key]; rfl

theorem State.isReady_at {s : State} {op fn slot : Nat} {c : Cmd} (h : s.isReady op fn slot c) (t : Nat) :
    (s.at t).isReady op fn slot c := h

/-- A command of an opcode row that is ready: the state its meaning answers. -/
theorem execRow {s : State} {op fn slot : Nat} {c : Cmd} (hs : isSlot fn slot) (h : s.isReady op fn slot c) (t : Nat)
    (body : Cmd → State → State) :
    ranAt (slotOk fn slot) t s (runCmd op fn slot body) =
      .next { body c ((s.at t).captureCmd c) with pending := s.pending } := by
  rw [ranAt_pos (slotOk_of fn slot hs), runCmd_ready (State.isReady_at h t) body _ rfl]; rfl

/-- A capture entry leaves the key, the replay queue and the digest mode of the determinism block. -/
theorem State.det_capturePut (s : State) (e : Capture) :
    (s.capturePut e).det.key = s.det.key ∧ (s.capturePut e).det.replay = s.det.replay ∧
      (s.capturePut e).det.opDigest = s.det.opDigest := by
  unfold State.capturePut; dsimp only
  (repeat' split) <;> simp [State.modDet]

/-- So do the entries of a command. -/
theorem State.det_captureCmd (s : State) (c : Cmd) :
    (s.captureCmd c).det.key = s.det.key ∧ (s.captureCmd c).det.replay = s.det.replay ∧
      (s.captureCmd c).det.opDigest = s.det.opDigest := by
  simp only [State.captureCmd, State.capture]
  split
  · exact State.det_capturePut s _
  · have h1 := State.det_capturePut s
    simp [State.det_capturePut]

@[simp] theorem State.captureCmd_key (s : State) (c : Cmd) : (s.captureCmd c).det.key = s.det.key := (s.det_captureCmd c).1

@[simp] theorem State.captureCmd_cmd? (s : State) (c : Cmd) (fn slot : Nat) :
    (s.captureCmd c).cmd? fn slot = s.cmd? fn slot := State.cmd?_mbx (by simp) fn slot

@[simp] theorem State.at_cmd? (s : State) (t : Nat) (fn slot : Nat) : (s.at t).cmd? fn slot = s.cmd? fn slot := rfl

@[simp] theorem State.at_now (s : State) (t : Nat) : (s.at t).time.now = max s.time.now t := rfl

theorem le_length (n v : Nat) : (le n v).length = n := by
  induction n generalizing v with
  | zero => rfl
  | succ n ih => simp [le, ih]

end Sys2Proof.Machine
end

