-- ==== Sys2Proof/Laws/Sessions.lean ====
section
/-!
SUPPORT. Sys2Proof/Laws/Sessions.lean: events change nothing of a session but its counters; a transition changes the state
of one session.
-/
namespace Sys2Proof.Machine

/-- A session without its counters. -/
def Session.core (x : Session) : Session := { x with counters := [] }

/-- Every session without its counters. -/
def State.cores (s : State) : List Session := s.sessions.map Session.core

theorem State.cores_ite (c : Prop) [Decidable c] (a b : State) :
    (if c then a else b).cores = if c then a.cores else b.cores := by split <;> rfl

theorem State.cores_of {s s' : State} (h : s'.sessions = s.sessions) : s'.cores = s.cores := by rw [cores, cores, h]

theorem map_modify_core (g : Session → Session) (hg : ∀ x, (g x).core = x.core) :
    ∀ (l : List Session) (i : Nat), (l.modify i g).map Session.core = l.map Session.core
  | [], i => by cases i <;> rfl
  | x :: l, 0 => by simp [List.modify_zero_cons, hg]
  | x :: l, i + 1 => by simp [List.modify_succ_cons, map_modify_core g hg l i]

@[simp] theorem State.bumpSes_cores (j i k : Nat) (s : State) : (s.bumpSes j i k).cores = s.cores :=
  map_modify_core (fun c => { c with counters := bumpAt c.counters i k }) (fun _ => rfl) _ _

@[simp] theorem State.modRing_cores (k : Nat) (f : Ring → Ring) (s : State) : (s.modRing k f).cores = s.cores := rfl
@[simp] theorem State.ringPut_cores (r : Ring) (b : List Byte) (s : State) : (s.ringPut r b).cores = s.cores :=
  State.cores_of (by simp)
@[simp] theorem State.msixRaise_cores (fn v : Nat) (s : State) : (s.msixRaise fn v).cores = s.cores :=
  State.cores_of (by simp)

@[simp] theorem State.eventTo_cores (k ty se st : Nat) (p : List Byte) (s : State) :
    (s.eventTo k ty se st p).cores = s.cores := by
  unfold State.eventTo; split
  · rfl
  · simp [State.cores_ite]

theorem State.foldl_cores {α : Type} (g : State → α → State) (h : ∀ s a, (g s a).cores = s.cores) (l : List α) (s : State) :
    (l.foldl g s).cores = s.cores := State.foldl_keeps State.cores g h l s

@[simp] theorem State.deviceEvent_cores (ty st : Nat) (p : List Byte) (s : State) :
    (s.deviceEvent ty st p).cores = s.cores := by
  unfold State.deviceEvent; simp [State.foldl_cores, State.cores_ite]

@[simp] theorem State.sessionEvent_cores (se ty st : Nat) (p : List Byte) (s : State) :
    (s.sessionEvent se ty st p).cores = s.cores := State.eventTo_cores _ _ _ _ _ _

@[simp] theorem State.warn_cores (a b c : Nat) (p : List Byte) (s : State) : (s.warn a b c p).cores = s.cores :=
  State.deviceEvent_cores _ _ _ _

/-- A session's core is what the list of cores says. -/
theorem State.core_ses (s : State) (j : Nat) : (s.ses j).core = s.cores.getD j (Session.core {}) := by
  simp only [State.ses, State.cores, List.getD_eq_getElem?_getD, List.getElem?_map]
  cases s.sessions[j]? <;> rfl

theorem State.core_eq {s s' : State} (h : s'.cores = s.cores) (j : Nat) : (s'.ses j).core = (s.ses j).core := by
  rw [State.core_ses, State.core_ses, h]

/-- What equal cores give, field by field. -/
theorem Session.core_fields {x y : Session} (h : x.core = y.core) : x.state = y.state ∧ x.classS = y.classS ∧ x.fn = y.fn ∧
    x.world = y.world ∧ x.rig = y.rig ∧ x.net = y.net ∧ x.cost = y.cost ∧ x.settings = y.settings ∧
    x.pendingSet = y.pendingSet ∧ x.lastCause = y.lastCause ∧ x.stopping = y.stopping ∧ x.starting = y.starting ∧
    x.closing = y.closing ∧ x.wholeDirty = y.wholeDirty := by
  cases x; cases y; simp_all [Session.core]

theorem State.cores_length {s s' : State} (h : s'.cores = s.cores) : s'.sessions.length = s.sessions.length := by
  have := congrArg List.length h; simpa [State.cores] using this

/-- A transition: the session's state and cause, no request left open; every other session keeps all but counters. -/
theorem State.sesTo_core (i st ca : Nat) (s : State) (j : Nat) : ((s.sesTo i st ca).ses j).core =
    if j = i ∧ i < s.sessions.length then
      (Session.core { s.ses i with state := st, lastCause := ca, starting := false, stopping := false })
    else (s.ses j).core := by
  have h : (s.sesTo i st ca).cores = (s.modSes i fun x =>
      { x with state := st, lastCause := ca, starting := false, stopping := false }).cores := by
    unfold State.sesTo; simp
  rw [State.core_eq h]
  simp only [State.ses, State.modSes, State.modSessions, List.getD_eq_getElem?_getD, List.getElem?_modify]
  by_cases hj : j = i
  · subst hj
    by_cases hl : j < s.sessions.length
    · simp [hl]
    · simp [hl]
  · simp [hj, Ne.symm hj]

/-- The state of a session after a transition. -/
theorem State.sesTo_state (i st ca : Nat) (s : State) (h : i < s.sessions.length) :
    ((s.sesTo i st ca).ses i).state = st := by
  have e := State.sesTo_core i st ca s i
  rw [if_pos ⟨rfl, h⟩] at e
  exact (Session.core_fields e).1

theorem State.sesTo_length (i st ca : Nat) (s : State) : (s.sesTo i st ca).sessions.length = s.sessions.length := by
  have h : (s.sesTo i st ca).cores = (s.modSes i fun x =>
      { x with state := st, lastCause := ca, starting := false, stopping := false }).cores := by
    unfold State.sesTo; simp
  rw [State.cores_length h]; simp

/-- What closing session `i` does to the sessions: it is CLOSED and unbound, its ID is free at once in IDLE and at the
next frame open otherwise; every other session keeps all but counters. -/
theorem State.closeSession_core (i ca : Nat) (s : State) (j : Nat) : ((s.closeSession i ca).ses j).core =
    if j = i ∧ i < s.sessions.length then (Session.core { s.ses i with
      state := 0, lastCause := ca, starting := false, stopping := false, closing := s.frame.devState != 0, world := none,
      rig := none, net := none, cost := none, pendingSet := none })
    else (s.ses j).core := by
  have hd : ∀ x : State, ∀ f : Stream → Bool, (x.dropStreams f).sessions = x.sessions ∧ (x.dropStreams f).frame = x.frame := by
    intro x f; unfold State.dropStreams; split <;> simp
  have key : (s.closeSession i ca).ses j = if j = i ∧ i < s.sessions.length then
      { (s.sesTo i 0 ca).ses i with closing := s.frame.devState != 0, world := none, rig := none, net := none, cost := none,
                                    pendingSet := none }
      else (s.sesTo i 0 ca).ses j := by
    have hl := State.sesTo_length i 0 ca s
    simp only [State.closeSession, State.ses, State.modSes, State.modSessions, List.getD_eq_getElem?_getD,
      List.getElem?_modify, State.modRings_sessions, State.modRings_frame, (hd _ _).1, (hd _ _).2, State.dropWaiting_sessions,
      State.dropWaiting_frame, State.sesTo_frame]
    by_cases hj : j = i
    · subst hj
      by_cases hl' : j < s.sessions.length
      · simp [hl', hl]
      · simp [hl', hl]
    · simp [hj, Ne.symm hj]
  rw [key]
  by_cases hj : j = i ∧ i < s.sessions.length
  · rw [if_pos hj, if_pos hj]
    have e := State.sesTo_core i 0 ca s i
    rw [if_pos ⟨rfl, hj.2⟩] at e
    have f := Session.core_fields e
    simp only [Session.core] at e ⊢
    simp_all
  · rw [if_neg hj, if_neg hj, State.sesTo_core, if_neg hj]

end Sys2Proof.Machine
end

