-- ==== Sys2Proof/Laws/Admission.lean ====
section
/-!
SUPPORT. Sys2Proof/Laws/Admission.lean: which parts of the state the admission rule and the session checks read, and what
settling one session does.
-/
namespace Sys2Proof.Machine

/-- The admission rule reads the disabled-unit map, the sessions, the streams and the images. -/
theorem State.admits_congr {s s' : State} (h1 : s'.part = s.part) (h2 : s'.sessions = s.sessions)
    (h3 : s'.streams = s.streams) (h4 : s'.images = s.images) (conf : FrameConf) (i : Nat) :
    s'.admits conf i = s.admits conf i := by
  have he : s'.enabled = s.enabled := by funext p; simp [State.enabled, h1]
  have hl : ∀ k, s'.loads i k = s.loads i k := by intro k; simp [State.loads, State.counted, State.ses, h2, h3, h4]
  have hn : ∀ k, s'.enabledIn k = s.enabledIn k := by intro k; simp [State.enabledIn, State.enabledList, he]
  have hp : s'.placement conf i = s.placement conf i := by
    simp [State.placement, State.scheduleInput, State.counted, State.ses, h1, h2, h3]
  simp [State.admits, State.stackAdmitsWith, State.bindsStreamed, State.counted, State.ses, h2, h4, hl, hn, hp]

theorem State.settingBad_congr {s s' : State} (h1 : s'.images = s.images) (h2 : s'.safety = s.safety) (x : Session)
    (e : Nat × List Byte) : s'.settingBad x e = s.settingBad x e := by
  simp only [State.settingBad, h1, h2]

theorem State.ses_modSes (s : State) (i : Nat) (f : Session → Session) (h : i < s.sessions.length) (j : Nat) :
    (s.modSes i f).ses j = if j = i then f (s.ses i) else s.ses j := by
  by_cases hj : j = i
  · subst hj; simp [State.ses, State.modSes, State.modSessions, h]
  · simp [State.ses, State.modSes, State.modSessions, hj, Ne.symm hj]

/-- The settings, the free ID and the start of a session when they settle; a start needs usable images. -/
def Session.settled (usable : Bool) (x : Session) : Session :=
  let y := { x with
    settings := x.next, pendingSet := none, closing := false,
    wholeDirty := x.wholeDirty || (x.next.crust != x.settings.crust || x.next.baseWindow != x.settings.baseWindow
      || x.next.speedScale != x.settings.speedScale) }
  if x.starting ∧ x.state = 2 ∧ usable then { y with state := 3, lastCause := 0x0204, starting := false, stopping := false } else y

/-- Settling session `i` does that to it; every other session keeps all but counters. -/
theorem State.settleSession_core (i : Nat) (s : State) (h : i < s.sessions.length) (j : Nat) :
    ((s.settleSession i).ses j).core = if j = i then ((s.ses i).settled (s.imagesUsable (s.ses i))).core else (s.ses j).core := by
  have step : ∀ s' : State, i < s'.sessions.length → s'.cores = (s.modSes i fun x => { x with
      settings := x.next, pendingSet := none, closing := false,
      wholeDirty := x.wholeDirty || (x.next.crust != x.settings.crust || x.next.baseWindow != x.settings.baseWindow
        || x.next.speedScale != x.settings.speedScale) }).cores →
      ((if (s.ses i).starting ∧ (s.ses i).state = 2 ∧ s.imagesUsable (s.ses i) then s'.sesTo i 3 0x0204 else s').ses j).core =
        if j = i then ((s.ses i).settled (s.imagesUsable (s.ses i))).core else (s.ses j).core := by
    intro s' hl hc
    have e : ∀ j, (s'.ses j).core = _ := fun j => State.core_eq hc j
    simp only [State.ses_modSes s i _ h] at e
    by_cases hs : (s.ses i).starting ∧ (s.ses i).state = 2 ∧ s.imagesUsable (s.ses i)
    · rw [if_pos hs, State.sesTo_core]
      by_cases hj : j = i
      · have e' := e i
        rw [if_pos rfl] at e'
        have f := Session.core_fields e'
        rw [if_pos ⟨hj, hl⟩, if_pos hj, Session.settled, if_pos hs]
        simp_all [Session.core]
      · rw [if_neg (by tauto), if_neg hj, e j, if_neg hj]
    · rw [if_neg hs, e j]
      by_cases hj : j = i
      · rw [if_pos hj, if_pos hj, Session.settled, if_neg hs]
      · rw [if_neg hj, if_neg hj]
  have same : ∀ (a b : State) (n : Nat), (∀ j, a.ses j = b.ses j) → a.sessions.length = n → b.sessions.length = n →
      a.cores = b.cores := by
    intro a b n hs ha hb
    simp only [State.cores]
    apply List.ext_getElem
    · simp [ha, hb]
    · intro k hk hk'
      have := hs k
      simp only [List.length_map] at hk hk'
      simp only [State.ses, List.getD_eq_getElem _ _ hk, List.getD_eq_getElem _ _ hk'] at this
      simp [this]
  have keep : ∀ a : State, a.images = s.images → a.imagesUsable (s.ses i) = s.imagesUsable (s.ses i) := by
    intro a ha; simp only [State.imagesUsable, ha]
  unfold State.settleSession
  simp only
  rw [keep _ (by (repeat' split) <;> simp)]
  apply step
  · split <;> split <;> simpa using h
  · refine same _ _ s.sessions.length ?_ (by split <;> split <;> simp) (by simp)
    intro k
    rw [State.ses_modSes s i _ h]
    cases hp : (s.ses i).pendingSet with
    | none =>
      by_cases hc : (s.ses i).closing
      · simp only [hc, if_true]
        rw [State.ses_modSes s i _ h]
        split
        · rename_i hk; generalize s.ses i = x at *; cases x; simp_all [Session.next]
        · rfl
      · simp only [hc, Bool.false_eq_true, if_false]
        split
        · rename_i hk; subst hk; generalize s.ses k = x at *; cases x; simp_all [Session.next]
        · rfl
    | some p =>
      by_cases hc : (s.ses i).closing
      · simp only [hc, if_true]
        rw [State.ses_modSes _ i _ (by simpa using h), State.ses_modSes s i _ h, State.ses_modSes s i _ h]
        by_cases hk : k = i
        · generalize s.ses i = x at *; cases x; simp_all [Session.next]
        · simp [hk]
      · simp only [hc, Bool.false_eq_true, if_false]
        rw [State.ses_modSes s i _ h]
        by_cases hk : k = i
        · generalize s.ses i = x at *; cases x; simp_all [Session.next]
        · simp [hk]

end Sys2Proof.Machine
end

