-- ==== Sys2Proof/Laws/Mem.lean ====
section
/-!
SUPPORT. Sys2Proof/Laws/Mem.lean: byte memory: read after write, the other addresses, and that every operation keeps the
canonical form.
-/
namespace Sys2Proof.Machine

theorem Mem.read_write (a x : Nat) (b : Byte) : ∀ m : Mem, Mem.wf m = true →
    Mem.read x (Mem.write a b m) = if x = a then b else Mem.read x m := by
  suffices h : ∀ (m : Mem) (lo : Nat), Mem.wfFrom lo m = true →
      Mem.read x (Mem.write a b m) = if x = a then b else Mem.read x m from fun m hm => h m 0 hm
  have low : ∀ (m : Mem) (lo y : Nat), Mem.wfFrom lo m = true → y < lo → Mem.read y m = 0 := by
    intro m
    induction m with
    | nil => intro lo y _ _; rfl
    | cons c r ih =>
      obtain ⟨a', b'⟩ := c
      intro lo y h hy
      simp only [Mem.wfFrom, Bool.and_eq_true, decide_eq_true_eq] at h
      simp only [Mem.read]
      rw [if_neg (by omega), ih (a' + 1) y h.2 (by omega)]
  intro m
  induction m with
  | nil => intro lo _; simp only [Mem.write]; split <;> simp_all [Mem.read]
  | cons c r ih =>
    obtain ⟨a', b'⟩ := c
    intro lo h
    simp only [Mem.wfFrom, Bool.and_eq_true, decide_eq_true_eq] at h
    have hr := ih (a' + 1) h.2
    have hl := low r (a' + 1)
    simp only [Mem.write]
    split
    · have := hl a h.2 (by omega)
      split <;> simp only [Mem.read] <;> split <;> simp_all
      intro; omega
    · split
      · subst a'
        have := hl a h.2 (by omega)
        split <;> simp only [Mem.read] <;> split <;> simp_all
      · simp only [Mem.read, hr]; split <;> simp_all; intro e; exact absurd e.symm ‹_›

theorem Mem.wfFrom_mono : ∀ (m : Mem) (lo lo' : Nat), lo' ≤ lo → Mem.wfFrom lo m = true → Mem.wfFrom lo' m = true
  | [], _, _, _, _ => rfl
  | (a, b) :: r, lo, lo', h, hm => by
    simp only [Mem.wfFrom, Bool.and_eq_true, decide_eq_true_eq] at hm ⊢
    exact ⟨⟨by omega, hm.1.2⟩, hm.2⟩

theorem Mem.write_wfFrom (a : Nat) (b : Byte) : ∀ (m : Mem) (lo : Nat), lo ≤ a → Mem.wfFrom lo m = true →
    Mem.wfFrom lo (Mem.write a b m) = true
  | [], lo, h, _ => by
    simp only [Mem.write]; split <;> simp_all [Mem.wfFrom]
  | (a', b') :: r, lo, h, hm => by
    simp only [Mem.wfFrom, Bool.and_eq_true, decide_eq_true_eq] at hm
    have ih := Mem.write_wfFrom a b r (a' + 1)
    have mono := Mem.wfFrom_mono r (a' + 1) lo (by omega) hm.2
    have hb : ¬ b = 0 → (b != 0) = true := by simp
    simp only [Mem.write]
    split
    · split
      · simp only [Mem.wfFrom, Bool.and_eq_true, decide_eq_true_eq]; exact hm
      · simp only [Mem.wfFrom, Bool.and_eq_true, decide_eq_true_eq]
        exact ⟨⟨h, hb ‹_›⟩, ⟨⟨by omega, hm.1.2⟩, hm.2⟩⟩
    · split
      · split
        · exact mono
        · subst a'; simp only [Mem.wfFrom, Bool.and_eq_true, decide_eq_true_eq]; exact ⟨⟨h, hb ‹_›⟩, hm.2⟩
      · simp only [Mem.wfFrom, Bool.and_eq_true, decide_eq_true_eq]
        exact ⟨hm.1, ih (by omega) hm.2⟩

/-- A write keeps the canonical form. -/
theorem Mem.write_wf (a : Nat) (b : Byte) (m : Mem) (h : m.wf = true) : (Mem.write a b m).wf = true :=
  Mem.write_wfFrom a b m 0 (Nat.zero_le a) h

/-- A write of several bytes keeps the canonical form. -/
theorem Mem.writeBytes_wf : ∀ (bs : List Byte) (a : Nat) (m : Mem), m.wf = true → (Mem.writeBytes a bs m).wf = true
  | [], _, _, h => h
  | b :: bs, a, m, h => Mem.writeBytes_wf bs (a + 1) _ (Mem.write_wf a b m h)

/-- A byte outside the bytes written reads as before. -/
theorem Mem.read_writeBytes_out (x : Nat) : ∀ (bs : List Byte) (a : Nat) (m : Mem), m.wf = true →
    (x < a ∨ a + bs.length ≤ x) → Mem.read x (Mem.writeBytes a bs m) = Mem.read x m
  | [], _, _, _, _ => rfl
  | b :: bs, a, m, h, hx => by
    simp only [List.length_cons] at hx
    rw [Mem.writeBytes, Mem.read_writeBytes_out x bs (a + 1) _ (Mem.write_wf a b m h) (by omega), Mem.read_write a x b m h,
      if_neg (by omega)]

/-- Byte `i` written reads back. -/
theorem Mem.read_writeBytes_in : ∀ (bs : List Byte) (a i : Nat) (m : Mem), m.wf = true → (h : i < bs.length) →
    Mem.read (a + i) (Mem.writeBytes a bs m) = bs[i]
  | b :: bs, a, 0, m, h, _ => by
    rw [Mem.writeBytes, Mem.read_writeBytes_out _ bs (a + 1) _ (Mem.write_wf a b m h) (by omega),
      Mem.read_write _ _ _ _ h]; simp
  | b :: bs, a, i + 1, m, h, hi => by
    have := Mem.read_writeBytes_in bs (a + 1) i (Mem.write a b m) (Mem.write_wf a b m h) (by simpa using hi)
    rw [Mem.writeBytes, show a + (i + 1) = a + 1 + i by omega, this]; rfl

@[simp] theorem Mem.length_readBytes (m : Mem) : ∀ a n, (Mem.readBytes m a n).length = n
  | _, 0 => rfl
  | a, n + 1 => by simp [Mem.readBytes, Mem.length_readBytes m (a + 1) n]

/-- What was written reads back whole. -/
theorem Mem.readBytes_writeBytes (bs : List Byte) (a : Nat) (m : Mem) (h : m.wf = true) :
    Mem.readBytes (Mem.writeBytes a bs m) a bs.length = bs := by
  suffices H : ∀ (m' : Mem) (a : Nat) (bs : List Byte), (∀ i (hi : i < bs.length), Mem.read (a + i) m' = bs[i]) →
      Mem.readBytes m' a bs.length = bs from H _ _ _ fun i hi => Mem.read_writeBytes_in bs a i m h hi
  intro m' a bs
  induction bs generalizing a with
  | nil => intro _; rfl
  | cons b bs ih =>
    intro hb
    simp only [List.length_cons, Mem.readBytes]
    rw [ih (a + 1) fun i hi => by
      have := hb (i + 1) (by simp; omega)
      simpa [Nat.add_assoc, Nat.add_comm 1 i] using this]
    have := hb 0 (by simp)
    simp at this
    rw [this]

/-- Dropping listed bytes keeps the canonical form. -/
theorem Mem.filter_wf (p : Host.Cell → Bool) (m : Mem) (h : m.wf = true) : Mem.wf (m.filter p) = true := by
  suffices H : ∀ (m : Mem) (lo : Nat), Mem.wfFrom lo m = true → Mem.wfFrom lo (m.filter p) = true from H m 0 h
  intro m
  induction m with
  | nil => intro _ _; rfl
  | cons c r ih =>
    intro lo h
    simp only [Mem.wfFrom, Bool.and_eq_true, decide_eq_true_eq] at h
    rw [List.filter_cons]
    split
    · simp only [Mem.wfFrom, Bool.and_eq_true, decide_eq_true_eq]; exact ⟨h.1, ih _ h.2⟩
    · exact Mem.wfFrom_mono _ (c.1 + 1) lo (by omega) (ih _ h.2)

@[simp] theorem Mem.nil_wf : Mem.wf [] = true := rfl

end Sys2Proof.Machine
end

