-- ==== Sys2Proof/Laws/Reset.lean ====
section
/-!
SUPPORT. Sys2Proof/Laws/Reset.lean: what the loss of the main rails and a device warm reset leave of each part of the state.
-/
namespace Sys2Proof.Machine

section
variable (s : State)
@[simp] theorem State.mainOff_part : s.mainOff.part = s.part := rfl
@[simp] theorem State.mainOff_flash : s.mainOff.flash = s.flash := rfl
@[simp] theorem State.mainOff_mgmt : s.mainOff.mgmt = { s.mgmt with fieldDebug := false } := rfl
@[simp] theorem State.mainOff_now : s.mainOff.time.now = s.time.now := rfl
@[simp] theorem State.mainOff_aon : s.mainOff.aon = { s.aon with
    railsUp := false, tempValid := false, powerStep := 0, thermStep := [0, 0, 0, 0], railsOffDue := none,
    safePinsForced := false, overLimit := false } := rfl
@[simp] theorem State.mainOff_sessions : s.mainOff.sessions = ({} : State).sessions := rfl
@[simp] theorem State.mainOff_streams : s.mainOff.streams = [] := rfl
@[simp] theorem State.mainOff_rings : s.mainOff.rings = [] := rfl
@[simp] theorem State.mainOff_images : s.mainOff.images = {} := rfl
@[simp] theorem State.mainOff_worlds : s.mainOff.worlds = {} := rfl
@[simp] theorem State.mainOff_safety : s.mainOff.safety = {} := rfl
@[simp] theorem State.mainOff_boot : s.mainOff.boot = {} := rfl
@[simp] theorem State.mainOff_errors : s.mainOff.errors = {} := rfl
@[simp] theorem State.mainOff_frame : s.mainOff.frame = {} := rfl
@[simp] theorem State.mainOff_hbm : s.mainOff.hbm = [] := rfl
@[simp] theorem State.mainOff_sram : s.mainOff.sram = [] := rfl
@[simp] theorem State.mainOff_saves : s.mainOff.saves = s.saves := rfl
@[simp] theorem State.mainOff_host : s.mainOff.host = s.host := rfl
@[simp] theorem State.mainOff_free : s.mainOff.free = s.free := rfl
@[simp] theorem State.mainOff_pending : s.mainOff.pending = s.pending := rfl
/-- Every session is closed after the main rails went off. -/
@[simp] theorem State.mainOff_ses (i : Nat) : s.mainOff.ses i = {} := by
  have h : ∀ l : List Session, (∀ x ∈ l, x = {}) → l.getD i {} = {} := by
    intro l hl
    cases hi : l[i]? with
    | none => simp [hi]
    | some x => simp [hi, hl x (List.mem_of_getElem? hi)]
  exact h _ (fun x hx => List.eq_of_mem_replicate (show x ∈ List.replicate 16 _ from hx))
end

end Sys2Proof.Machine
end

