-- ==== Sys2Proof/Laws/Rows.lean ====
section
/-!
SUPPORT. Sys2Proof/Laws/Rows.lean: what each row's command runs and under which check, once per constructor, so that a proof
cites the row and does not unfold `exec`.
-/
namespace Sys2Proof.Machine

/-- A row whose operands are not well formed is not carried out: nothing changes. -/
theorem ranAt_skip {ok : Bool} (h : ok = false) (t : Nat) (s : State) (f : State → State) :
    ranAt ok t s f = .next s := by simp [ranAt, ran, h]

theorem exec_slotSubmit (fn slot : Nat) (t : Nat) (s : State) :
    exec (.slotSubmit fn slot t) s = ranAt (slotOk fn slot) t s fun s => s.slotSubmit fn slot s.time.now := rfl
theorem exec_inboundSlotWrite (fn slot off : Nat) (bytes : List Byte) (t : Nat) (s : State) :
    exec (.inboundSlotWrite fn slot off bytes t) s =
      ranAt (slotOk fn slot && decide (off + bytes.length ≤ 4096)) t s fun s => s.slotWrite fn slot off bytes s.time.now :=
  rfl
theorem exec_commandArrival (fn slot : Nat) (failed : Option Nat) (t : Nat) (s : State) :
    exec (.commandArrival fn slot failed t) s =
      ranAt (slotOk fn slot && failedOk failed) t s fun s => s.commandArrival fn slot failed s.time.now := rfl
theorem exec_brineLanding (fn slot : Nat) (t : Nat) (s : State) :
    exec (.brineLanding fn slot t) s = ranAt (slotOk fn slot) t s (State.brineLanding fn slot) := rfl
theorem exec_mailboxResponse (fn slot : Nat) (t : Nat) (s : State) :
    exec (.mailboxResponse fn slot t) s = ranAt (slotOk fn slot) t s (State.mailboxResponse fn slot) := rfl
theorem exec_hubTaskTransfer (stack : Nat) (t : Nat) (s : State) :
    exec (.hubTaskTransfer stack t) s = ranAt (below stack 4) t s (State.hubTaskTransfer stack) := rfl
theorem exec_sluiceReopen (t : Nat) (s : State) :
    exec (.sluiceReopen t) s = ranAt true t s fun s => s.sluiceReopen s.time.now := rfl
theorem exec_ringReadIndexWrite (fn r value : Nat) (t : Nat) (s : State) :
    exec (.ringReadIndexWrite fn r value t) s =
      ranAt (fnOk fn && below r 33 && below value (2 ^ 32)) t s (State.ridxWrite fn r value) := rfl
theorem exec_msixUnmask (fn vec : Nat) (t : Nat) (s : State) :
    exec (.msixUnmask fn vec t) s = ranAt (fnOk fn && below vec 64) t s (State.msixUnmask fn vec) := rfl
theorem exec_mbxWriteDiscardRead (fn : Nat) (sameCycle : Bool) (t : Nat) (s : State) :
    exec (.mbxWriteDiscardRead fn sameCycle t) s = ranAt (fnOk fn) t s (State.discardRead fn sameCycle) := rfl
theorem exec_hubTimeLoRead (fn : Nat) (t : Nat) (s : State) :
    exec (.hubTimeLoRead fn t) s = ranAt (fnOk fn) t s (State.timeLoRead fn) := rfl
theorem exec_counterLoRead (fn scope inst idx : Nat) (shadow sameCycleReset : Bool) (t : Nat) (s : State) :
    exec (.counterLoRead fn scope inst idx shadow sameCycleReset t) s =
      ranAt (fnOk fn && counterOk scope inst idx) t s (State.counterLoRead fn scope inst idx shadow sameCycleReset) := rfl
theorem exec_pwrRtcLoRead (master rtc : Nat) (t : Nat) (s : State) :
    exec (.pwrRtcLoRead master rtc t) s =
      ranAt (below master 2 && below rtc (2 ^ 64)) t s (State.rtcLoRead master rtc) := rfl
theorem exec_secTamperLogLoRead (master i : Nat) (t : Nat) (s : State) :
    exec (.secTamperLogLoRead master i t) s = ranAt (below master 2 && below i 16) t s (State.tamperLoRead master i) := rfl
theorem exec_hubResetWarm (fn value : Nat) (t : Nat) (s : State) :
    exec (.hubResetWarm fn value t) s = ranAt (fnOk fn && below value (2 ^ 32)) t s (State.hubReset fn value) := rfl
theorem exec_cfwBeat (ssv : Nat) (t : Nat) (s : State) :
    exec (.cfwBeat ssv t) s = ranAt true t s (State.beat ssv) := rfl
theorem exec_registerWrite (space : RegSpace) (fn off size value hwSet : Nat) (t : Nat) (s : State) :
    exec (.registerWrite space fn off size value hwSet t) s =
      ranAt (registerWriteOk space fn off size value hwSet) t s (State.registerWrite space fn off size value hwSet) := rfl
theorem exec_devIdentify (fn slot : Nat) (t : Nat) (s : State) :
    exec (.devIdentify fn slot t) s = ranAt (slotOk fn slot) t s (runCmd 0x0101 fn slot bodyDevIdentify) := rfl
theorem exec_devStatus (fn slot : Nat) (t : Nat) (s : State) :
    exec (.devStatus fn slot t) s = ranAt (slotOk fn slot) t s (runCmd 0x0102 fn slot bodyDevStatus) := rfl
theorem exec_devKey (fn slot : Nat) (t : Nat) (s : State) :
    exec (.devKey fn slot t) s = ranAt (slotOk fn slot) t s (runCmd 0x0103 fn slot bodyDevKey) := rfl
theorem exec_devTimeSource (fn slot : Nat) (t : Nat) (s : State) :
    exec (.devTimeSource fn slot t) s = ranAt (slotOk fn slot) t s (runCmd 0x0104 fn slot bodyDevTimeSource) := rfl
theorem exec_sesOpen (fn slot : Nat) (t : Nat) (s : State) :
    exec (.sesOpen fn slot t) s = ranAt (slotOk fn slot) t s (runCmd 0x0201 fn slot bodySesOpen) := rfl
theorem exec_sesBind (fn slot : Nat) (t : Nat) (s : State) :
    exec (.sesBind fn slot t) s = ranAt (slotOk fn slot) t s (runCmd 0x0202 fn slot bodySesBind) := rfl
theorem exec_sesSet (fn slot : Nat) (t : Nat) (s : State) :
    exec (.sesSet fn slot t) s = ranAt (slotOk fn slot) t s (runCmd 0x0203 fn slot bodySesSet) := rfl
theorem exec_sesStart (fn slot : Nat) (t : Nat) (s : State) :
    exec (.sesStart fn slot t) s = ranAt (slotOk fn slot) t s (runCmd 0x0204 fn slot bodySesStart) := rfl
theorem exec_sesStop (fn slot : Nat) (t : Nat) (s : State) :
    exec (.sesStop fn slot t) s = ranAt (slotOk fn slot) t s (runCmd 0x0205 fn slot bodySesStop) := rfl
theorem exec_sesRecover (fn slot : Nat) (t : Nat) (s : State) :
    exec (.sesRecover fn slot t) s = ranAt (slotOk fn slot) t s (runCmd 0x0206 fn slot bodySesRecover) := rfl
theorem exec_sesClose (fn slot : Nat) (t : Nat) (s : State) :
    exec (.sesClose fn slot t) s = ranAt (slotOk fn slot) t s (runCmd 0x0207 fn slot bodySesClose) := rfl
theorem exec_sesStatus (fn slot : Nat) (t : Nat) (s : State) :
    exec (.sesStatus fn slot t) s = ranAt (slotOk fn slot) t s (runCmd 0x0208 fn slot bodySesStatus) := rfl
theorem exec_imgLoad (fn slot : Nat) (t : Nat) (s : State) :
    exec (.imgLoad fn slot t) s = ranAt (slotOk fn slot) t s (runCmd 0x0301 fn slot bodyImgLoad) := rfl
theorem exec_imgUnload (fn slot : Nat) (t : Nat) (s : State) :
    exec (.imgUnload fn slot t) s = ranAt (slotOk fn slot) t s (runCmd 0x0302 fn slot bodyImgUnload) := rfl
theorem exec_imgList (fn slot : Nat) (t : Nat) (s : State) :
    exec (.imgList fn slot t) s = ranAt (slotOk fn slot) t s (runCmd 0x0303 fn slot bodyImgList) := rfl
theorem exec_imageCopyComplete (kind slot : Nat) (t : Nat) (s : State) :
    exec (.imageCopyComplete kind slot t) s = ranAt (imageSlotOk kind slot) t s (State.copiesEnd kind slot) := rfl
theorem exec_brine (fn slot : Nat) (t : Nat) (s : State) :
    exec (.brine fn slot t) s = ranAt (slotOk fn slot) t s (runCmd 0x0401 fn slot bodyBrine (captured := false)) := rfl
theorem exec_brineUrgent (fn slot : Nat) (t : Nat) (s : State) :
    exec (.brineUrgent fn slot t) s =
      ranAt (slotOk fn slot) t s (runCmd 0x0402 fn slot bodyBrineUrgent (captured := false)) := rfl
theorem exec_worldStatus (fn slot : Nat) (t : Nat) (s : State) :
    exec (.worldStatus fn slot t) s = ranAt (slotOk fn slot) t s (runCmd 0x0403 fn slot bodyWorldStatus) := rfl
theorem exec_panRead (fn slot : Nat) (t : Nat) (s : State) :
    exec (.panRead fn slot t) s = ranAt (slotOk fn slot) t s (runCmd 0x0404 fn slot bodyPanRead) := rfl
theorem exec_frameConfig (fn slot : Nat) (t : Nat) (s : State) :
    exec (.frameConfig fn slot t) s = ranAt (slotOk fn slot) t s (runCmd 0x0501 fn slot bodyFrameConfig) := rfl
theorem exec_gridStart (fn slot : Nat) (t : Nat) (s : State) :
    exec (.gridStart fn slot t) s = ranAt (slotOk fn slot) t s (runCmd 0x0502 fn slot bodyGridStart) := rfl
theorem exec_gridStop (fn slot : Nat) (t : Nat) (s : State) :
    exec (.gridStop fn slot t) s = ranAt (slotOk fn slot) t s (runCmd 0x0503 fn slot bodyGridStop) := rfl
theorem exec_streamAdd (fn slot : Nat) (t : Nat) (s : State) :
    exec (.streamAdd fn slot t) s =
      ranAt (slotOk fn slot) t s fun s => (runCmd 0x0504 fn slot bodyStreamAdd (due := dueAtCutoff) s).formQueries := rfl
theorem exec_streamResize (fn slot : Nat) (t : Nat) (s : State) :
    exec (.streamResize fn slot t) s =
      ranAt (slotOk fn slot) t s fun s => (runCmd 0x0505 fn slot bodyStreamResize (due := dueAtCutoff) s).formQueries := rfl
theorem exec_streamRemove (fn slot : Nat) (t : Nat) (s : State) :
    exec (.streamRemove fn slot t) s =
      ranAt (slotOk fn slot) t s fun s => (runCmd 0x0506 fn slot bodyStreamRemove (due := dueAtCutoff) s).formQueries := rfl
theorem exec_querySubmit (fn slot : Nat) (t : Nat) (s : State) :
    exec (.querySubmit fn slot t) s =
      ranAt (slotOk fn slot) t s fun s => (runCmd 0x0507 fn slot bodyQuerySubmit (due := dueAtCutoff) s).formQueries := rfl
theorem exec_ringRegister (fn slot : Nat) (t : Nat) (s : State) :
    exec (.ringRegister fn slot t) s = ranAt (slotOk fn slot) t s (runCmd 0x0601 fn slot bodyRingRegister) := rfl
theorem exec_ringRelease (fn slot : Nat) (t : Nat) (s : State) :
    exec (.ringRelease fn slot t) s = ranAt (slotOk fn slot) t s (runCmd 0x0602 fn slot bodyRingRelease) := rfl
theorem exec_resultLast (fn slot : Nat) (t : Nat) (s : State) :
    exec (.resultLast fn slot t) s = ranAt (slotOk fn slot) t s (runCmd 0x0603 fn slot bodyResultLast) := rfl
theorem exec_recordStart (fn slot : Nat) (t : Nat) (s : State) :
    exec (.recordStart fn slot t) s = ranAt (slotOk fn slot) t s (runCmd 0x0701 fn slot bodyRecordStart) := rfl
theorem exec_recordStop (fn slot : Nat) (t : Nat) (s : State) :
    exec (.recordStop fn slot t) s = ranAt (slotOk fn slot) t s (runCmd 0x0702 fn slot bodyRecordStop) := rfl
theorem exec_captureRelease (fn slot : Nat) (t : Nat) (s : State) :
    exec (.captureRelease fn slot t) s = ranAt (slotOk fn slot) t s (runCmd 0x0703 fn slot bodyCaptureRelease) := rfl
theorem exec_opDigestSet (fn slot : Nat) (t : Nat) (s : State) :
    exec (.opDigestSet fn slot t) s = ranAt (slotOk fn slot) t s (runCmd 0x0704 fn slot bodyOpDigestSet) := rfl
theorem exec_replayStart (fn slot : Nat) (t : Nat) (s : State) :
    exec (.replayStart fn slot t) s = ranAt (slotOk fn slot) t s (runCmd 0x0705 fn slot bodyReplayStart) := rfl
theorem exec_replayFeed (fn slot : Nat) (t : Nat) (s : State) :
    exec (.replayFeed fn slot t) s = ranAt (slotOk fn slot) t s (runCmd 0x0706 fn slot bodyReplayFeed) := rfl
theorem exec_replayStop (fn slot : Nat) (t : Nat) (s : State) :
    exec (.replayStop fn slot t) s = ranAt (slotOk fn slot) t s (runCmd 0x0707 fn slot bodyReplayStop) := rfl
theorem exec_pause (fn slot : Nat) (t : Nat) (s : State) :
    exec (.pause fn slot t) s = ranAt (slotOk fn slot) t s (runCmd 0x0708 fn slot bodyPause) := rfl
theorem exec_save (fn slot : Nat) (t : Nat) (s : State) :
    exec (.save fn slot t) s = ranAt (slotOk fn slot) t s (runCmd 0x0709 fn slot bodySave) := rfl
theorem exec_restore (fn slot : Nat) (t : Nat) (s : State) :
    exec (.restore fn slot t) s = ranAt (slotOk fn slot) t s (runCmd 0x070A fn slot bodyRestore) := rfl
theorem exec_resume (fn slot : Nat) (t : Nat) (s : State) :
    exec (.resume fn slot t) s = ranAt (slotOk fn slot) t s (runCmd 0x070B fn slot bodyResume) := rfl
theorem exec_slipLogRead (fn slot : Nat) (t : Nat) (s : State) :
    exec (.slipLogRead fn slot t) s = ranAt (slotOk fn slot) t s (runCmd 0x070C fn slot bodySlipLogRead) := rfl
theorem exec_ctrRead (fn slot : Nat) (t : Nat) (s : State) :
    exec (.ctrRead fn slot t) s = ranAt (slotOk fn slot) t s (runCmd 0x0801 fn slot bodyCtrRead) := rfl
theorem exec_ctrSelect (fn slot : Nat) (t : Nat) (s : State) :
    exec (.ctrSelect fn slot t) s = ranAt (slotOk fn slot) t s (runCmd 0x0802 fn slot bodyCtrSelect) := rfl
theorem exec_freeze (fn slot : Nat) (t : Nat) (s : State) :
    exec (.freeze fn slot t) s = ranAt (slotOk fn slot) t s (runCmd 0x0803 fn slot bodyFreeze) := rfl
theorem exec_traceConfig (fn slot : Nat) (t : Nat) (s : State) :
    exec (.traceConfig fn slot t) s = ranAt (slotOk fn slot) t s (runCmd 0x0804 fn slot bodyTraceConfig) := rfl
theorem exec_traceRead (fn slot : Nat) (t : Nat) (s : State) :
    exec (.traceRead fn slot t) s = ranAt (slotOk fn slot) t s (runCmd 0x0805 fn slot bodyTraceRead) := rfl
theorem exec_breakSet (fn slot : Nat) (t : Nat) (s : State) :
    exec (.breakSet fn slot t) s = ranAt (slotOk fn slot) t s (runCmd 0x0806 fn slot bodyBreakSet) := rfl
theorem exec_breakClear (fn slot : Nat) (hitSameCycle : Bool) (t : Nat) (s : State) :
    exec (.breakClear fn slot hitSameCycle t) s =
      ranAt (slotOk fn slot) t s (runCmd 0x0807 fn slot (bodyBreakClear hitSameCycle)) := rfl
theorem exec_breakResume (fn slot : Nat) (t : Nat) (s : State) :
    exec (.breakResume fn slot t) s = ranAt (slotOk fn slot) t s (runCmd 0x0808 fn slot bodyBreakResume) := rfl
theorem exec_safetyStatus (fn slot : Nat) (ssv : Nat) (t : Nat) (s : State) :
    exec (.safetyStatus fn slot ssv t) s =
      ranAt (slotOk fn slot) t s fun s => runCmd 0x0901 fn slot bodySafetyStatus (s.atSsv ssv) := rfl
theorem exec_safetyBind (fn slot : Nat) (t : Nat) (s : State) :
    exec (.safetyBind fn slot t) s = ranAt (slotOk fn slot) t s (runCmd 0x0902 fn slot bodySafetyBind) := rfl
theorem exec_safeRelease (fn slot : Nat) (ssv : Nat) (t : Nat) (s : State) :
    exec (.safeRelease fn slot ssv t) s =
      ranAt (slotOk fn slot) t s fun s => runCmd 0x0903 fn slot bodySafeRelease (s.atSsv ssv) := rfl
theorem exec_calRead (fn slot : Nat) (t : Nat) (s : State) :
    exec (.calRead fn slot t) s = ranAt (slotOk fn slot) t s (runCmd 0x0904 fn slot bodyCalRead) := rfl
theorem exec_calWrite (fn slot : Nat) (t : Nat) (s : State) :
    exec (.calWrite fn slot t) s = ranAt (slotOk fn slot) t s (runCmd 0x0905 fn slot bodyCalWrite) := rfl
theorem exec_lifecycleSet (fn slot : Nat) (t : Nat) (s : State) :
    exec (.lifecycleSet fn slot t) s = ranAt (slotOk fn slot) t s (runCmd 0x0906 fn slot bodyLifecycleSet) := rfl
theorem exec_debugUnlock (fn slot : Nat) (t : Nat) (s : State) :
    exec (.debugUnlock fn slot t) s = ranAt (slotOk fn slot) t s (runCmd 0x0907 fn slot bodyDebugUnlock) := rfl
theorem exec_ledgerRead (fn slot : Nat) (t : Nat) (s : State) :
    exec (.ledgerRead fn slot t) s = ranAt (slotOk fn slot) t s (runCmd 0x0908 fn slot bodyLedgerRead) := rfl
theorem exec_fabStatus (fn slot : Nat) (t : Nat) (s : State) :
    exec (.fabStatus fn slot t) s = ranAt (slotOk fn slot) t s (runCmd 0x0A01 fn slot bodyFabStatus) := rfl
theorem exec_fabPorts (fn slot : Nat) (t : Nat) (s : State) :
    exec (.fabPorts fn slot t) s = ranAt (slotOk fn slot) t s (runCmd 0x0A02 fn slot bodyFabPorts) := rfl
theorem exec_fabCensus (fn slot : Nat) (t : Nat) (s : State) :
    exec (.fabCensus fn slot t) s = ranAt (slotOk fn slot) t s (runCmd 0x0A03 fn slot bodyFabCensus) := rfl
theorem exec_fabRouteRead (fn slot : Nat) (t : Nat) (s : State) :
    exec (.fabRouteRead fn slot t) s = ranAt (slotOk fn slot) t s (runCmd 0x0A04 fn slot bodyFabRouteRead) := rfl
theorem exec_fabNodeBind (fn slot : Nat) (t : Nat) (s : State) :
    exec (.fabNodeBind fn slot t) s = ranAt (slotOk fn slot) t s (runCmd 0x0A05 fn slot bodyFabNodeBind) := rfl
theorem exec_fabShard (fn slot : Nat) (t : Nat) (s : State) :
    exec (.fabShard fn slot t) s = ranAt (slotOk fn slot) t s (runCmd 0x0A06 fn slot bodyFabShard) := rfl
theorem exec_fabFarm (fn slot : Nat) (t : Nat) (s : State) :
    exec (.fabFarm fn slot t) s = ranAt (slotOk fn slot) t s (runCmd 0x0A07 fn slot bodyFabFarm) := rfl
theorem exec_fwStage (fn slot : Nat) (t : Nat) (s : State) :
    exec (.fwStage fn slot t) s = ranAt (slotOk fn slot) t s (runCmd 0x0B01 fn slot bodyFwStage) := rfl
theorem exec_fwCommit (fn slot : Nat) (t : Nat) (s : State) :
    exec (.fwCommit fn slot t) s = ranAt (slotOk fn slot) t s (runCmd 0x0B02 fn slot bodyFwCommit) := rfl
theorem exec_fwStatus (fn slot : Nat) (t : Nat) (s : State) :
    exec (.fwStatus fn slot t) s = ranAt (slotOk fn slot) t s (runCmd 0x0B03 fn slot bodyFwStatus) := rfl
theorem exec_dumpRead (fn slot : Nat) (t : Nat) (s : State) :
    exec (.dumpRead fn slot t) s = ranAt (slotOk fn slot) t s (runCmd 0x0B04 fn slot bodyDumpRead) := rfl
theorem exec_dumpTarget (fn slot : Nat) (t : Nat) (s : State) :
    exec (.dumpTarget fn slot t) s = ranAt (slotOk fn slot) t s (runCmd 0x0B05 fn slot bodyDumpTarget) := rfl
theorem exec_dumpClear (fn slot : Nat) (t : Nat) (s : State) :
    exec (.dumpClear fn slot t) s = ranAt (slotOk fn slot) t s (runCmd 0x0B06 fn slot bodyDumpClear) := rfl
theorem exec_getVersion (req : List Byte) (t : Nat) (s : State) :
    exec (.getVersion req t) s = ranAt true t s (State.getVersion req) := rfl
theorem exec_getCapabilities (req : List Byte) (t : Nat) (s : State) :
    exec (.getCapabilities req t) s = ranAt true t s (State.getCapabilities req) := rfl
theorem exec_negotiateAlgorithms (req : List Byte) (baseAsymEd25519 baseHashSha512 others : Bool) (t : Nat) (s : State) :
    exec (.negotiateAlgorithms req baseAsymEd25519 baseHashSha512 others t) s =
      ranAt true t s (State.negotiate req baseAsymEd25519 baseHashSha512 others) := rfl
theorem exec_getDigests (req : List Byte) (t : Nat) (s : State) :
    exec (.getDigests req t) s = ranAt true t s fun s => s.spdm 4 req s.boot.certOk (sha512 s.flash.certChain) := rfl
theorem exec_getCertificate (chainSlot offset length : Nat) (req : List Byte) (t : Nat) (s : State) :
    exec (.getCertificate chainSlot offset length req t) s =
      ranAt true t s fun s =>
        s.spdm 5 req (s.boot.certOk && chainSlot == 0 && decide (offset < s.flash.certChain.length)) ((s.flash.certChain.drop offset).take length) := rfl
theorem exec_challenge (chainSlot : Nat) (req : List Byte) (t : Nat) (s : State) :
    exec (.challenge chainSlot req t) s = ranAt true t s (State.challenge chainSlot req) := rfl
theorem exec_getMeasurements (index : Nat) (sign : Bool) (req : List Byte) (t : Nat) (s : State) :
    exec (.getMeasurements index sign req t) s = ranAt true t s (State.getMeasurements index sign req) := rfl
theorem exec_doeDiscovery (index : Nat) (t : Nat) (s : State) :
    exec (.doeDiscovery index t) s = ranAt (below index 256) t s (State.doeDiscovery index) := rfl
theorem exec_doeAbort (t : Nat) (s : State) :
    exec (.doeAbort t) s = ranAt true t s fun s => s.modPcie fun p => { p with doeBusy := none, doeResponse := [] } := rfl
theorem exec_perstNAssert (t : Nat) (s : State) :
    exec (.perstNAssert t) s = ranAt true t s State.perstAssert := rfl
theorem exec_perstNDeassert (gpio3 refclkToggles : Bool) (t : Nat) (s : State) :
    exec (.perstNDeassert gpio3 refclkToggles t) s = ranAt true t s (State.perstDeassert gpio3 refclkToggles) := rfl
theorem exec_pcieLinkReset (linkB : Bool) (t : Nat) (s : State) :
    exec (.pcieLinkReset linkB t) s = ranAt true t s (State.linkReset linkB) := rfl
theorem exec_dlDown (linkB : Bool) (t : Nat) (s : State) :
    exec (.dlDown linkB t) s = ranAt true t s (State.dlDown linkB) := rfl
theorem exec_flr (fn : Nat) (t : Nat) (s : State) :
    exec (.flr fn t) s = ranAt (fnOk fn) t s fun s => s.flrAll (flrScope fn) 0x0013 := rfl
theorem exec_flrComplete (fn : Nat) (t : Nat) (s : State) :
    exec (.flrComplete fn t) s = ranAt (fnOk fn) t s (State.flrComplete fn) := rfl
theorem exec_vfRemove (vfEnable : Bool) (numVfs : Nat) (t : Nat) (s : State) :
    exec (.vfRemove vfEnable numVfs t) s = ranAt (below numVfs 16) t s (State.vfRemove vfEnable numVfs) := rfl
theorem exec_pcieReplay (linkB : Bool) (delay : Nat) (t : Nat) (s : State) :
    exec (.pcieReplay linkB delay t) s = ranAt true t s (State.pcieReplay linkB delay) := rfl
theorem exec_poisonedInboundWrite (fn : Nat) (t : Nat) (s : State) :
    exec (.poisonedInboundWrite fn t) s = ranAt (fnOk fn) t s (State.poisonedWrite fn) := rfl
theorem exec_ptmDialog (masterNs : Option Nat) (t : Nat) (s : State) :
    exec (.ptmDialog masterNs t) s = ranAt true t s (State.ptmDialog masterNs) := rfl
theorem exec_ppsEdge (t : Nat) (s : State) :
    exec (.ppsEdge t) s = ranAt true t s State.ppsEdge := rfl
theorem exec_frameOpen (ssv : Nat) (t : Nat) (s : State) :
    exec (.frameOpen ssv t) s = ranAt true t s fun s => (s.atSsv ssv).frameOpen := rfl
theorem exec_assayStart (stack : Nat) (t : Nat) (s : State) :
    exec (.assayStart stack t) s = ranAt (below stack 4) t s (State.assayStart stack) := rfl
theorem exec_assayComplete (stack : Nat) (sigs : List Nat) (t : Nat) (s : State) :
    exec (.assayComplete stack sigs t) s =
      ranAt (below stack 4 && decide (sigs.length = 8)) t s (State.assayComplete stack sigs) := rfl
theorem exec_assayLate (stack : Nat) (t : Nat) (s : State) :
    exec (.assayLate stack t) s = ranAt (below stack 4) t s (State.assayLate stack) := rfl
theorem exec_brineApply (fn slot : Nat) (t : Nat) (s : State) :
    exec (.brineApply fn slot t) s = ranAt (brineSlotOk fn slot) t s (State.brineApply fn slot) := rfl
theorem exec_brineCutoff (t : Nat) (s : State) :
    exec (.brineCutoff t) s = ranAt true t s State.brineCutoff := rfl
theorem exec_urgentCheckpoint (j : Nat) (t : Nat) (s : State) :
    exec (.urgentCheckpoint j t) s = ranAt (decide (1 ≤ j) && below j 5) t s (State.urgentCheckpoint j) := rfl
theorem exec_urgentApply (fn slot : Nat) (t : Nat) (s : State) :
    exec (.urgentApply fn slot t) s = ranAt (brineSlotOk fn slot) t s (State.urgentApply fn slot) := rfl
theorem exec_harvestDeadline (t : Nat) (s : State) :
    exec (.harvestDeadline t) s = ranAt true t s State.harvestDeadline := rfl
theorem exec_engineDrainEnd (cluster : Nat) (t : Nat) (s : State) :
    exec (.engineDrainEnd cluster t) s = ranAt (below cluster 64) t s (State.engineDrainEnd cluster) := rfl
theorem exec_harvestStart (t : Nat) (s : State) :
    exec (.harvestStart t) s = ranAt true t s State.harvestStart := rfl
theorem exec_harvestNode (stream level pos : Nat) (t : Nat) (s : State) :
    exec (.harvestNode stream level pos t) s =
      ranAt (streamOk stream && decide (1 ≤ level ∧ level ≤ 6) && below pos (64 / 2 ^ level)) t s
        (State.harvestNode stream level pos) := rfl
theorem exec_attemptStart (stream : Nat) (t : Nat) (s : State) :
    exec (.attemptStart stream t) s = ranAt (streamOk stream) t s (State.attemptStart stream) := rfl
theorem exec_attemptResult (stream : Nat) (t : Nat) (s : State) :
    exec (.attemptResult stream t) s = ranAt (streamOk stream) t s (State.attemptResult stream) := rfl
theorem exec_reverifyCutoff (t : Nat) (s : State) :
    exec (.reverifyCutoff t) s = ranAt true t s State.reverifyCutoff := rfl
theorem exec_commit (stream : Nat) (t : Nat) (s : State) :
    exec (.commit stream t) s = ranAt (streamOk stream) t s (State.commit stream) := rfl
theorem exec_publishDeadline (t : Nat) (s : State) :
    exec (.publishDeadline t) s = ranAt true t s State.publishDeadline := rfl
theorem exec_publishEnd (t : Nat) (s : State) :
    exec (.publishEnd t) s = ranAt true t s State.publishEnd := rfl
theorem exec_rakeStart (t : Nat) (s : State) :
    exec (.rakeStart t) s = ranAt true t s State.rakeStart := rfl
theorem exec_rakeItemDone (unit item : Nat) (ok : Bool) (taps : Nat) (temp : Int) (osc : List Nat) (t : Nat) (s : State) :
    exec (.rakeItemDone unit item ok taps temp osc t) s =
      ranAt (rakeItemOk unit item) t s (State.rakeItemDone unit item ok taps temp osc) := rfl
theorem exec_guardStart (t : GuardAt) (s : State) :
    exec (.guardStart t) s = ranAt (t.badBooks.all fun p => below p 64) t.t s (State.guardStart t.badBooks) := rfl
theorem exec_frameHung (t : Nat) (s : State) :
    exec (.frameHung t) s = ranAt true t s State.frameHung := rfl
theorem exec_captureDrain (bytes : Nat) (t : Nat) (s : State) :
    exec (.captureDrain bytes t) s = ranAt true t s (State.captureDrain bytes) := rfl
theorem exec_taskOffer (cluster : Nat) (producer : Producer) (task : TaskDesc) (t : CycleAt) (s : State) :
    exec (.taskOffer cluster producer task t) s =
      ranAt (below cluster 64 && task.wf) t.t s (State.taskOffer cluster producer task t.cyc) := rfl
theorem exec_tokenDelivery (cluster entry : Nat) (operand : Delivery) (t : CycleAt) (s : State) :
    exec (.tokenDelivery cluster entry operand t) s =
      ranAt (below cluster 64 && operand.dma.wf) t.t s (State.tokenDelivery cluster entry operand t.cyc) := rfl
theorem exec_taskCompletion (cluster unit : Nat) (successors : List TaskDesc) (bookOk : Bool) (t : CycleAt) (s : State) :
    exec (.taskCompletion cluster unit successors bookOk t) s =
      ranAt (below cluster 64 && below unit 6 && successors.all (·.wf)) t.t s
        (State.completion cluster unit successors bookOk t.cyc) := rfl
theorem exec_unitTake (cluster unit : Nat) (read : ReadFault) (t : Nat) (s : State) :
    exec (.unitTake cluster unit read t) s =
      ranAt (below cluster 64 && below unit 6) t s (State.unitTake cluster unit read) := rfl
theorem exec_delayRelease (cluster entry : Nat) (t : CycleAt) (s : State) :
    exec (.delayRelease cluster entry t) s = ranAt (below cluster 64) t.t s (State.delayRelease cluster entry t.cyc) := rfl
theorem exec_clusterWake (cluster : Nat) (t : Nat) (s : State) :
    exec (.clusterWake cluster t) s = ranAt (below cluster 64) t s (State.clusterWake cluster) := rfl
theorem exec_pllRestart (stack : Nat) (t : Nat) (s : State) :
    exec (.pllRestart stack t) s = ranAt (below stack 4) t s (State.pllRestart stack) := rfl
theorem exec_nocCreditTimeout (stack endpoint : Nat) (t : Nat) (s : State) :
    exec (.nocCreditTimeout stack endpoint t) s =
      ranAt (below stack 4 && below endpoint 19) t s fun s =>
        (s.creditLost stack endpoint).detect 0x0007 stack 0xFF 0xFF (le 8 endpoint) := rfl
theorem exec_contextRun (stream cluster : Nat) (t : Nat) (s : State) :
    exec (.contextRun stream cluster t) s =
      ranAt (below cluster 64 && streamOk stream) t s (State.contextRun stream cluster) := rfl
theorem exec_headBlock (stream cluster : Nat) (t : Nat) (s : State) :
    exec (.headBlock stream cluster t) s =
      ranAt (below cluster 64 && streamOk stream) t s (State.headBlock stream cluster) := rfl
theorem exec_localBlock (stream cluster : Nat) (t : Nat) (s : State) :
    exec (.localBlock stream cluster t) s =
      ranAt (below cluster 64 && streamOk stream) t s (State.localBlock stream cluster) := rfl
theorem exec_distBuild (job : Nat) (t : Nat) (s : State) :
    exec (.distBuild job t) s = ranAt true t s (State.distBuild job) := rfl
theorem exec_resolutionRequest (cluster query : Nat) (read : HbmRead) (t : Nat) (s : State) :
    exec (.resolutionRequest cluster query read t) s =
      ranAt (below cluster 64) t s (State.resolution cluster query read) := rfl
theorem exec_check (cluster stream g : Nat) (t : Nat) (s : State) :
    exec (.check cluster stream g t) s =
      ranAt (below cluster 64 && streamOk stream) t s (State.checkOp cluster stream g) := rfl
theorem exec_recheck (cluster stream g : Nat) (t : Nat) (s : State) :
    exec (.recheck cluster stream g t) s =
      ranAt (below cluster 64 && streamOk stream) t s (State.recheckOp cluster stream g) := rfl
theorem exec_repair (stream : Nat) (t : Nat) (s : State) :
    exec (.repair stream t) s = ranAt (streamOk stream) t s (State.repairOp stream) := rfl
theorem exec_stop (stream : Nat) (t : Nat) (s : State) :
    exec (.stop stream t) s = ranAt (streamOk stream) t s (State.stopOp stream) := rfl
theorem exec_probe (cluster stream g : Nat) (t : Nat) (s : State) :
    exec (.probe cluster stream g t) s =
      ranAt (below cluster 64 && streamOk stream) t s (State.probeOp cluster stream g) := rfl
theorem exec_reverify (stream : Nat) (t : Nat) (s : State) :
    exec (.reverify stream t) s = ranAt (streamOk stream) t s (State.reverifyOp stream) := rfl
theorem exec_costProgram (cluster stream g stage : Nat) (t : Nat) (s : State) :
    exec (.costProgram cluster stream g stage t) s =
      ranAt (below cluster 64 && streamOk stream && below stage 2) t s (State.costProgram cluster stream g stage) := rfl
theorem exec_topkCut (cluster stream : Nat) (t : Nat) (s : State) :
    exec (.topkCut cluster stream t) s =
      ranAt (below cluster 64 && streamOk stream) t s (State.topkCut cluster stream) := rfl
theorem exec_factorisation (core : CoreId) (stream g block : Nat) (t : Nat) (s : State) :
    exec (.factorisation core stream g block t) s =
      ranAt (below core.cluster 64 && streamOk stream && below core.core 2) t s
        (State.factorisation core.cluster stream g block core.core) := rfl
theorem exec_solverIteration (cluster stream : Nat) (gs : List Nat) (t : Nat) (s : State) :
    exec (.solverIteration cluster stream gs t) s =
      ranAt (below cluster 64 && streamOk stream) t s (State.solverIteration cluster stream gs) := rfl
theorem exec_timeScalingOp (cluster stream g : Nat) (t : Nat) (s : State) :
    exec (.timeScalingOp cluster stream g t) s =
      ranAt (below cluster 64 && streamOk stream) t s (State.timeScalingOp cluster stream g) := rfl
theorem exec_bgtStep (cluster : Nat) (running faultFound : Bool) (t : Nat) (s : State) :
    exec (.bgtStep cluster running faultFound t) s =
      ranAt (below cluster 64) t s (State.bgtStep cluster running faultFound) := rfl
theorem exec_hbmTempRead (hbm : Nat) (tempC : Int) (t : Nat) (s : State) :
    exec (.hbmTempRead hbm tempC t) s = ranAt (below hbm 2) t s (State.hbmTempRead hbm tempC) := rfl
theorem exec_wdogEdge (level : Bool) (ssv : Nat) (t : Nat) (s : State) :
    exec (.wdogEdge level ssv t) s = ranAt true t s fun s => (s.atSsv ssv).wdogEdge level := rfl
theorem exec_wdogLost (ssv : Nat) (t : Nat) (s : State) :
    exec (.wdogLost ssv t) s = ranAt true t s fun s => (s.atSsv ssv).wdogLost := rfl
theorem exec_cfwSilent (ssv : Nat) (t : Nat) (s : State) :
    exec (.cfwSilent ssv t) s = ranAt true t s fun s => (s.atSsv ssv).cfwSilent := rfl
theorem exec_timeBaseCheck (ssv : Nat) (t : Nat) (s : State) :
    exec (.timeBaseCheck ssv t) s = ranAt true t s fun s => (s.atSsv ssv).timeBaseCheck := rfl
theorem exec_cpLockstep (pair : Nat) (t : Nat) (s : State) :
    exec (.cpLockstep pair t) s = ranAt (below pair 2) t s fun s => s.detect 0x0009 0xFF 0xFF 0xFF (le 1 pair) := rfl
theorem exec_ssvLockstep (t : Nat) (s : State) :
    exec (.ssvLockstep t) s = ranAt true t s State.ssvLockstep := rfl
theorem exec_latentOverdue (unit item : Nat) (t : Nat) (s : State) :
    exec (.latentOverdue unit item t) s = ranAt (rakeItemOk unit item) t s (State.latentWarn unit item) := rfl
theorem exec_rakeOverdue (unit item : Nat) (t : Nat) (s : State) :
    exec (.rakeOverdue unit item t) s = ranAt (rakeItemOk unit item) t s (State.rakeOverdue unit item) := rfl
theorem exec_dumpWritten (t : Nat) (s : State) :
    exec (.dumpWritten t) s = ranAt true t s State.dumpWritten := rfl
theorem exec_selfTestComplete (failures : List TestFailure) (t : Nat) (s : State) :
    exec (.selfTestComplete failures t) s = ranAt (failures.all TestFailure.wf) t s (State.selfTest failures) := rfl
theorem exec_healthPageWrite (t : Nat) (s : State) :
    exec (.healthPageWrite t) s = ranAt true t s State.healthPageWrite := rfl
theorem exec_portUp (port : Nat) (rtt : Nat) (neighbour : List Byte) (neighbourId : Nat) (t : Nat) (s : State) :
    exec (.portUp port rtt neighbour neighbourId t) s =
      ranAt (below port 4 && below neighbourId 256) t s (State.portUp port rtt neighbour neighbourId) := rfl
theorem exec_portDown (port : Nat) (t : Nat) (s : State) :
    exec (.portDown port t) s = ranAt (below port 4) t s (State.portDown port) := rfl
theorem exec_flitReceive (port : Nat) (flit : Flit) (t : Nat) (s : State) :
    exec (.flitReceive port flit t) s = ranAt (below port 4 && below flit.vc 4) t s (State.flitReceive port flit) := rfl
theorem exec_nackReceive (port lack : Nat) (t : Nat) (s : State) :
    exec (.nackReceive port lack t) s = ranAt (below port 4 && below lack 65536) t s (State.nackReceive port lack) := rfl
theorem exec_creditFlit (port : Nat) (t : Nat) (s : State) :
    exec (.creditFlit port t) s = ranAt (below port 4) t s (State.creditFlit port) := rfl
theorem exec_grant (msg : GrantAnswer) (t : Nat) (s : State) :
    exec (.grant msg t) s = ranAt (below msg.vc 4) t s (State.grant msg) := rfl
theorem exec_hail (port : Nat) (neighbour : List Byte) (t : Nat) (s : State) :
    exec (.hail port neighbour t) s = ranAt (below port 4) t s (State.hail port neighbour) := rfl
theorem exec_censusStart (epoch : Nat) (t : Nat) (s : State) :
    exec (.censusStart epoch t) s = ranAt (below epoch (2 ^ 32)) t s (State.joinCensus epoch) := rfl
theorem exec_selfCensus (t : Nat) (s : State) :
    exec (.selfCensus t) s = ranAt true t s State.selfCensus := rfl
theorem exec_report (r : CensusReport) (port : Nat) (t : Nat) (s : State) :
    exec (.report r port t) s = ranAt (below port 4 && below r.epoch (2 ^ 32)) t s (State.report r port) := rfl
theorem exec_collectEnd (t : Nat) (s : State) :
    exec (.collectEnd t) s = ranAt true t s State.collectEnd := rfl
theorem exec_route (r : RouteMsg) (t : Nat) (s : State) :
    exec (.route r t) s = ranAt (below r.epoch (2 ^ 32)) t s (State.route r) := rfl
theorem exec_verifyOk (node : Nat) (ok : VerifyAnswer) (t : Nat) (s : State) :
    exec (.verifyOk node ok t) s = ranAt (below node 256 && below ok.epoch (2 ^ 32)) t s (State.verifyOk node ok) := rfl
theorem exec_enable (epoch : Nat) (t : Nat) (s : State) :
    exec (.enable epoch t) s = ranAt (below epoch (2 ^ 32)) t s (State.enable epoch) := rfl
theorem exec_censusTimeout (t : Nat) (s : State) :
    exec (.censusTimeout t) s = ranAt true t s State.censusTimeout := rfl
theorem exec_ping (port : Nat) (t : Nat) (s : State) :
    exec (.ping port t) s = ranAt (below port 4) t s (State.ping port) := rfl
theorem exec_fabricBrineArrival (port src : Nat) (urgent : Bool) (world seq : Nat) (records : List Byte) (t : Nat) (s : State) :
    exec (.fabricBrineArrival port src urgent world seq records t) s =
      ranAt (below port 4 && below src 64) t s (State.fabricBrine port src urgent world seq records) := rfl
theorem exec_brineCompletion (msg status statusArg frame : Nat) (t : Nat) (s : State) :
    exec (.brineCompletion msg status statusArg frame t) s =
      ranAt true t s (State.brineCompletion msg status statusArg frame) := rfl
theorem exec_farmReq (port src : Nat) (body : List Byte) (t : Nat) (s : State) :
    exec (.farmReq port src body t) s = ranAt (below port 4 && below src 64) t s (State.farmInput 0 port src body) := rfl
theorem exec_farmReply (port : Nat) (body : List Byte) (t : Nat) (s : State) :
    exec (.farmReply port body t) s = ranAt (below port 4) t s (State.farmInput 1 port (getU body 4 1) body) := rfl
theorem exec_freezeGo (t : Nat) (s : State) :
    exec (.freezeGo t) s = ranAt true t s State.freezeTrigger := rfl
theorem exec_trigInEdge (t : Nat) (s : State) :
    exec (.trigInEdge t) s = ranAt true t s State.trigIn := rfl
theorem exec_fabricFreeze (t : Nat) (s : State) :
    exec (.fabricFreeze t) s = ranAt true t s State.fabricFreeze := rfl
theorem exec_freezeInstant (t : Nat) (s : State) :
    exec (.freezeInstant t) s = ranAt true t s State.freezeInstant := rfl
theorem exec_freezeShadowsDone (t : Nat) (s : State) :
    exec (.freezeShadowsDone t) s = ranAt true t s State.shadowsDone := rfl
theorem exec_traceUnitWrite (buffer source : Nat) (bytes : List Byte) (t : Nat) (s : State) :
    exec (.traceUnitWrite buffer source bytes t) s =
      ranAt (below buffer 5 && below source 256 && decide (bytes.length = 32)) t s
        (State.traceUnitWrite buffer source bytes) := rfl
theorem exec_breakHit (index unit cluster pc layer operator : Nat) (t : Nat) (s : State) :
    exec (.breakHit index unit cluster pc layer operator t) s =
      ranAt (below index 16) t s (State.breakHit index unit cluster pc layer operator) := rfl
theorem exec_auxRise (gpio0 gpio1 perstHigh lidOpen tamperLow : Bool) (t : Nat) (s : State) :
    exec (.auxRise gpio0 gpio1 perstHigh lidOpen tamperLow t) s =
      ranAt true t s (State.auxRise gpio0 gpio1 perstHigh lidOpen tamperLow) := rfl
theorem exec_auxLoss (t : Nat) (s : State) :
    exec (.auxLoss t) s = ranAt true t s State.auxLoss := rfl
theorem exec_mainInRange (t : Nat) (s : State) :
    exec (.mainInRange t) s = ranAt true t s State.mainRise := rfl
theorem exec_boot (t : BootAt) (s : State) :
    exec (.boot t) s = ranAt true t.t s (State.bootUp t.bootSel) := rfl
theorem exec_undervoltage (t : Nat) (s : State) :
    exec (.undervoltage t) s = ranAt true t s State.undervoltage := rfl
theorem exec_overvoltage (t : Nat) (s : State) :
    exec (.overvoltage t) s = ranAt true t s State.overvoltage := rfl
theorem exec_railsOff (t : Nat) (s : State) :
    exec (.railsOff t) s = ranAt true t s State.railsOff := rfl
theorem exec_railFault (t : Nat) (s : State) :
    exec (.railFault t) s = ranAt true t s State.railFault := rfl
theorem exec_thermalTrip (tripped : Nat) (hub hbm : Bool) (excursion : Option Bool) (t : Nat) (s : State) :
    exec (.thermalTrip tripped hub hbm excursion t) s =
      ranAt (below tripped (2 ^ 64)) t s (State.thermalTrip tripped hub hbm excursion) := rfl
theorem exec_thermalStep (stack : Nat) (temps : List Int) (t : Nat) (s : State) :
    exec (.thermalStep stack temps t) s = ranAt (below stack 4) t s (State.thermalStep stack temps) := rfl
theorem exec_powerSample (power : Nat) (avg10ms : Nat) (voltage : Nat) (t : Nat) (s : State) :
    exec (.powerSample power avg10ms voltage t) s = ranAt true t s (State.powerSample power avg10ms voltage) := rfl
theorem exec_clockMonitor (ok : Bool) (lostReference : Bool) (t : Nat) (s : State) :
    exec (.clockMonitor ok lostReference t) s = ranAt true t s (State.clockMonitor ok lostReference) := rfl
theorem exec_tamperEvent (sources : List Nat) (rtc : Nat) (t : Nat) (s : State) :
    exec (.tamperEvent sources rtc t) s =
      ranAt (sources.all fun k => below k 5) t s fun s => (s.atRtc rtc).tamper sources := rfl
theorem exec_pwrCtlOff (value : Nat) (t : Nat) (s : State) :
    exec (.pwrCtlOff value t) s = ranAt true t s fun s => if bit value 0 then s.pwrCtl value else s := rfl
theorem exec_pwrCtlWake (value : Nat) (t : Nat) (s : State) :
    exec (.pwrCtlWake value t) s = ranAt true t s fun s => if bit value 1 then s.pwrCtl value else s := rfl
theorem exec_pwrCtlRestart (value : Nat) (t : Nat) (s : State) :
    exec (.pwrCtlRestart value t) s = ranAt true t s fun s => if bit value 2 then s.pwrCtl value else s := rfl
theorem exec_wakeNTimeout (t : Nat) (s : State) :
    exec (.wakeNTimeout t) s = ranAt true t s State.wakeTimeout := rfl
theorem exec_smbAlertResponse (t : Nat) (s : State) :
    exec (.smbAlertResponse t) s = ranAt true t s fun s => s.modMgmt fun m => { m with smbAlert := false } := rfl
theorem exec_hubOnlyExit (stack : Nat) (t : Nat) (s : State) :
    exec (.hubOnlyExit stack t) s = ranAt (below stack 4) t s (State.hubOnlyExit stack) := rfl
theorem exec_hubOnlyEntry (stack : Nat) (t : Nat) (s : State) :
    exec (.hubOnlyEntry stack t) s = ranAt (below stack 4) t s (State.hubOnlyEntry stack) := rfl
theorem exec_jtagInstruction (code : Nat) (t : Nat) (s : State) :
    exec (.jtagInstruction code t) s = ranAt (below code 256) t s (State.jtag code) := rfl
theorem exec_dlUp (linkB : Bool) (width speed : Nat) (flit : Bool) (t : Nat) (s : State) :
    exec (.dlUp linkB width speed flit t) s = ranAt true t s (State.dlUp linkB width speed flit) := rfl
theorem exec_busMasterEnable (fn : Nat) (on : Bool) (t : Nat) (s : State) :
    exec (.busMasterEnable fn on t) s = ranAt (fnOk fn) t s (State.busMaster fn on) := rfl
theorem exec_healthyWaveformEdge (readA readB : Bool) (ssv : Nat) (t : Nat) (s : State) :
    exec (.healthyWaveformEdge readA readB ssv t) s = ranAt true t s fun s => (s.atSsv ssv).healthyEdge readA readB := rfl
theorem exec_timeCorrApply (correction : Int) (source : Nat) (t : Nat) (s : State) :
    exec (.timeCorrApply correction source t) s = ranAt true t s (State.timeCorrApply correction source) := rfl

end Sys2Proof.Machine
end

