-- ==== Sys2Proof/Laws/Streams.lean ====
section
/-!
SUPPORT. Sys2Proof/Laws/Streams.lean: what forming the queries of a frame does to the stream set.
-/
namespace Sys2Proof.Machine

@[simp] theorem State.fabricGo_streams' (s : State) : s.fabricGo.streams = s.streams := by simp

/-- Forming one stream keeps what holds of every stream, if forming keeps it. -/
theorem State.formStream_all (P : Stream → Prop) (hP : ∀ (s : State) x q d, P x → P (s.formedStream x q d)) (i : Nat)
    (s : State) (h : ∀ x ∈ s.streams, P x) : ∀ x ∈ (s.formStream i).streams, P x := by
  unfold State.formStream
  split
  · exact h
  · rename_i x hx
    split
    · exact h
    · simp only [State.modStream_eq, State.modStreams_streams, State.draw_streams]
      intro y hy
      obtain ⟨z, hz, rfl⟩ := List.mem_map.mp hy
      split
      · exact hP _ _ _ _ (h x (List.mem_of_find?_eq_some hx))
      · exact h z hz

/-- Forming the queries keeps what holds of every stream, if forming one keeps it. -/
theorem State.formQueries_all (P : Stream → Prop) (hP : ∀ (s : State) x q d, P x → P (s.formedStream x q d)) (s : State)
    (h : ∀ x ∈ s.streams, P x) : ∀ x ∈ s.formQueries.streams, P x := by
  have hf : ∀ (l : List Nat) (s : State), (∀ x ∈ s.streams, P x) → ∀ x ∈ (l.foldl State.formStream s).streams, P x :=
    fun l s h => State.foldl_inv (fun s => ∀ x ∈ s.streams, P x) (fun s i => s.formStream i)
      (fun s a h => State.formStream_all P hP a s h) l s h
  unfold State.formQueries State.when_
  split
  · simpa [State.foldl_streams] using hf _ s h
  · exact h

/-- A stream that no query of the frame names stays as it is. -/
theorem State.formQueries_keeps (s : State) (x : Stream) (h : x ∈ s.streams)
    (hn : ∀ y ∈ s.streams, s.wantsForming y = true → y.id ≠ x.id) : x ∈ s.formQueries.streams := by
  have one : ∀ (i : Nat) (s : State), i ≠ x.id → x ∈ s.streams → x ∈ (s.formStream i).streams := by
    intro i s hi hx
    unfold State.formStream
    split
    · exact hx
    · split
      · exact hx
      · simp only [State.modStream_eq, State.modStreams_streams, State.draw_streams]
        exact List.mem_map.mpr ⟨x, hx, by simp [Ne.symm hi]⟩
  have all : ∀ (l : List Nat) (s : State), (∀ i ∈ l, i ≠ x.id) → x ∈ s.streams → x ∈ (l.foldl State.formStream s).streams := by
    intro l
    induction l with
    | nil => intro s _ hx; exact hx
    | cons i l ih =>
      intro s hl hx
      exact ih _ (fun j hj => hl j (List.mem_cons_of_mem _ hj)) (one i s (hl i List.mem_cons_self) hx)
  unfold State.formQueries State.when_
  split
  · have := all ((s.streams.filter s.wantsForming).map (·.id)) s (by
      intro i hi
      obtain ⟨y, hy, rfl⟩ := List.mem_map.mp hi
      have hy' := List.mem_filter.mp hy
      exact hn y hy'.1 hy'.2) h
    simpa [State.foldl_streams] using this
  · exact h

end Sys2Proof.Machine
end

