-- ==== Sys2Proof/Tests/Slice0.lean ====
section
/-!
SUPPORT. Sys2Proof/Tests/Slice0.lean: tests of the model. First the checks of WellFormed, each with a term it refuses; then
worked examples of the spec; then, for each statement of Certificates/Slice0/Obligations.lean with hypotheses and for each of
its clauses, a state and operands that meet them all: `test_meets_<statement>_<clause>`. Where two clauses of a statement
have the same hypotheses, the first stands for both.
-/
namespace Sys2Proof.Machine

-- One theorem at a time: each holds a thread of its own otherwise.
set_option Elab.async false

/-! ## What WellFormed refuses -/

theorem test_wf_slot : (Instr.slotSubmit 16 31 0).wf = true ∧ (Instr.slotSubmit 17 31 0).wf = false ∧
    (Instr.slotSubmit 16 32 0).wf = false := by decide
theorem test_wf_slotWrite : (Instr.inboundSlotWrite 0 0 4095 [1] 0).wf = true ∧
    (Instr.inboundSlotWrite 0 0 4095 [1, 2] 0).wf = false := by decide
theorem test_wf_failed : (Instr.commandArrival 0 0 (some 63) 0).wf = true ∧
    (Instr.commandArrival 0 0 (some 64) 0).wf = false := by decide
theorem test_wf_ring : (Instr.ringReadIndexWrite 0 32 0 0).wf = true ∧ (Instr.ringReadIndexWrite 0 33 0 0).wf = false ∧
    (Instr.ringReadIndexWrite 0 0 (2 ^ 32) 0).wf = false := by decide
theorem test_wf_counter : (Instr.counterLoRead 0 3 15 15 false false 0).wf = true ∧
    (Instr.counterLoRead 0 3 16 0 false false 0).wf = false ∧ (Instr.counterLoRead 0 4 0 0 false false 0).wf = false := by
  decide
theorem test_wf_register : (Instr.registerWrite .bar4 0 16777215 8 0 0 0).wf = true ∧
    (Instr.registerWrite .bar4 1 0 4 0 0 0).wf = false ∧ (Instr.registerWrite .bar0 0 65536 4 0 0 0).wf = false ∧
    (Instr.registerWrite .smbus 0 256 4 0 0 0).wf = false ∧ (Instr.registerWrite .bar0 0 0 9 0 0 0).wf = false := by decide
theorem test_wf_image : (Instr.imageCopyComplete 1 3 0).wf = true ∧ (Instr.imageCopyComplete 1 4 0).wf = false ∧
    (Instr.imageCopyComplete 5 0 0).wf = false := by decide
theorem test_wf_brine : (Instr.brineApply 17 65535 0).wf = true ∧ (Instr.brineApply 18 0 0).wf = false := by decide
theorem test_wf_stream : (Instr.commit 511 0).wf = true ∧ (Instr.commit 512 0).wf = false := by decide
theorem test_wf_rake : (Instr.rakeItemDone 63 11 true 0 0 [] 0).wf = true ∧
    (Instr.rakeItemDone 63 12 true 0 0 [] 0).wf = false ∧ (Instr.rakeItemDone 64 16 true 0 0 [] 0).wf = true ∧
    (Instr.rakeItemDone 64 17 true 0 0 [] 0).wf = false ∧ (Instr.rakeItemDone 64 0 true 0 0 [] 0).wf = false := by decide
theorem test_wf_node : (Instr.harvestNode 0 6 0 0).wf = true ∧ (Instr.harvestNode 0 6 1 0).wf = false ∧
    (Instr.harvestNode 0 0 0 0).wf = false := by decide
theorem test_wf_units : (Instr.taskCompletion 63 5 [] true ⟨0, 0⟩).wf = true ∧ (Instr.taskCompletion 63 6 [] true ⟨0, 0⟩).wf = false ∧
    (Instr.assayStart 4 0).wf = false ∧ (Instr.assayComplete 0 [] 0).wf = false ∧ (Instr.ping 4 0).wf = false ∧
    (Instr.hbmTempRead 2 0 0).wf = false ∧ (Instr.cpLockstep 2 0).wf = false ∧ (Instr.urgentCheckpoint 5 0).wf = false := by
  decide
theorem test_wf_fields : (Instr.vfRemove true 16 0).wf = false ∧ (Instr.jtagInstruction 256 0).wf = false ∧
    (Instr.tamperEvent [5] 0 0).wf = false ∧ (Instr.traceUnitWrite 0 0 [] 0).wf = false ∧
    (Instr.breakHit 16 0 0 0 0 0 0).wf = false ∧ (Instr.nackReceive 0 65536 0).wf = false ∧
    (Instr.verifyOk 256 ⟨0, true⟩ 0).wf = false ∧ (Instr.pwrRtcLoRead 2 0 0).wf = false := by decide
theorem test_illFormed_changes_nothing : exec (.flr 17 0) .reset = .next .reset := rfl
theorem test_noBits : decodeTableWord 32 0 = none ∧ State.reset.withFetchWord 32 0 = State.reset := ⟨rfl, rfl⟩

/-! ## Worked examples of the spec -/

/-- Table 03.5: an S8 output with M = 25,000, sh = 21, RNE and a range of -120 to 120; flags OUT_SAT and GUARD. -/
theorem test_writeBack :
    ([9600, 10600, 11000].map fun acc => writeBack ⟨1, 0, 0, false, false, -120, 120, 0⟩ 25000 21 acc) =
      [(114, 0), (120, guardHit), (120, outSat ||| guardHit)] := by decide +kernel

/-- The half-way case after Table 03.5: 2,648 and -1,350 with sh = 4 by RNE, FLOOR and CEIL. -/
theorem test_rounding : ([0, 1, 2].map fun m => (shiftRound 2648 4 m, shiftRound (-1350) 4 m)) =
    [(166, -84), (165, -85), (166, -84)] := by decide +kernel

/-- The step example of 07_sweep_checking.md: K = 28,000 and a clearance of 8,000 give 18,724. -/
theorem test_limitStep : limitStep 8000 28000 = 18724 := by decide +kernel

/-- The commit example of 09_harvest_and_repair.md: stream 37 in frame 1,200 is re-verified on cluster 41. -/
theorem test_reverifyCluster : State.reverifyCluster { frame := { counter := 1200 } } 37 = some 41 := by decide +kernel

/-- Table 02.3: the starts and ends of phases 1 to 13 at P = 250 and c = 0.15; the cutoff of phase 11 is 215. -/
theorem test_boundaries :
    ((List.range 13).map fun i => FrameConf.phaseStart { period := 250 } (i + 1)) =
        [0, 10, 10, 37, 37, 42, 47, 75, 80, 180, 190, 210, 220] ∧
      ((List.range 13).map fun i => FrameConf.phaseEnd { period := 250 } (i + 1)) =
        [10, 37, 40, 60, 125, 155, 160, 175, 180, 190, 210, 220, 240] ∧
      FrameConf.part { period := 250 } 86 = 215 := by decide +kernel

/-- The brine budget of 02_frames.md: 873 full pan replaces at the default, 168 at P = 250. -/
theorem test_ingest : (State.ingestEnd {} / 32832, State.ingestEnd { frame := { conf := { period := 250 } } } / 32832) =
    (873, 168) := by decide +kernel

/-- The ageing example of 18_ageing_calibration_dumps.md: 24 taps at 65 degrees with PDM_TC = 64 give slack_n = 19. -/
theorem test_slack : ((State.rakeMonitor 22 24 (64 * 65) [] { boot := { effective := { pdm := List.replicate 64 (31, 64) } } }).cl
    22).test.slackN = 19 := by decide +kernel

/-- The state after a command that answers a next state. -/
def tNextOf : Host.Outcome State Fault Refusal → State
  | .next s => s
  | _ => {}

/-- The PTM example of 15_pcie_host.md: an offset of 260 ticks in a running grid moves device time by 20 ticks. -/
theorem test_slew : (tNextOf (exec (.ptmDialog (some (5 * 1260)) 1000) {
    time := { source := 1 }, pcie := { linkA := { up := true } }, frame := { devState := 1 } })).time.slew = 20 := by
  decide +kernel

/-- R398, R402: a lockstep mismatch latches and the pins go to class-S safe levels. -/
theorem test_lockstep : (fun s : State => (s.safety.pinState, s.safety.safeA, s.safety.safeB, s.safety.latch.map (·.code)))
    (tNextOf (exec (.cpLockstep 1 5) {})) = (2, false, true, [9]) := by decide +kernel

/-! ## States and operands that meet the statements' hypotheses -/

/-- A command in slot 31 of function 16 that waits for its row. -/
def tCmd (op : Nat) (payload : List Byte := []) (session : Nat := 0) (descs : List Desc := []) (bulk : List Byte := []) : Cmd :=
  { fn := 16, slot := 31, opcode := op, session, payload, descs, bulk, stage := .ready }

/-- A state with one command in the command table. -/
def tPut (c : Cmd) (s : State := {}) : State := { s with mbx := { s.mbx with cmds := [c] } }

/-- A state with a session `i`. -/
def tSes (i : Nat) (x : Session) (s : State := {}) : State := { s with sessions := s.sessions.set i x }

/-- A state in a device state and phase. -/
def tDev (d : Nat) (p : Phase := .closed) (s : State := {}) : State := { s with frame := { s.frame with devState := d, phase := p } }

/-- A state with a session 0 in state `n`. -/
def tRun (n : Nat) (s : State := {}) : State := tSes 0 { state := n } s

/-- Function 16 on a live link with bus mastering on. -/
def tDma (s : State := {}) : State :=
  { s with pcie := { s.pcie with
      linkA := { up := true }, linkB := { up := true }, vfEnable := true, numVfs := 15,
      fns := s.pcie.fns.map fun f => { f with busMaster := true } } }

/-- A stream 0 of session 0, taking part. -/
def tStr : Stream := { id := 0, session := 0, candidates := 64, ageLimit := 3000, active := true }

/-- A state with these streams. -/
def tStreams (l : List Stream) (s : State := {}) : State := { s with streams := l }

/-- A query record as admitted. -/
def tQuery : Query :=
  { stream := 0, horizon := 1, tStart := 0, speed0 := 0, qStart := [0], qGoal := [0], tau := [0], seq := 1 }

/-- A stream that works on a query and whose query is settled. -/
def tPub : Stream := { tStr with query := some tQuery, formed := true, outOfRange := some 0 }

/-- The bytes of a capture entry without payload: kind 6. -/
def tEntry : List Byte := le 8 6 ++ zeros 20 ++ le 4 (crc32c (le 8 6 ++ zeros 24))

/-- A recorded time correction of -3 ticks at offset 7. -/
def tCorr : Capture := {
  kind := 4, source := 0, slot := 0, when_ := 0, frame := 0, order := 0, offset := 7, time := 0,
  payload := leS 8 (-3) ++ le 1 1 ++ zeros 7 }

/-- A SAVE with room for the state image of a PAUSED reset state. -/
def tSave : Cmd := tCmd 1801 [] 0 [{ addr := 0, len := (Config.stateImage (tDev 2).saved).length, write := true }]

/-- A counter programme entry of cluster 63, index 63, of command scope. -/
def tSel : CounterSel := {
  scope := 0, inst := 63, idx := 63, event := 0, qual := 0, tagged := false, cmdScope := true, tagLayer := 0,
  tagOperator := 0 }

/-- A breakpoint on unit 1 of any cluster. -/
def tBreak : Breakpoint := { bytes := [15, 1, 255, 0] ++ zeros 12 ++ [1, 0] ++ zeros 14, armed := true }

/-- An IMG_LOAD that waits for its copy, and its slot. -/
def tLoad : Cmd := { fn := 16, slot := 31, opcode := 769, stage := .waiting }
@[inherit_doc tLoad] def tLoading : SlotState := { state := 1, loader := some (16, 31) }

/-- World 0 loaded with one segment of one slice; its first cell is COARSE with handle 5. -/
def tWorld : State := {
  worlds := { ws := { loaded := true, segments := [⟨0, 40000, [], true, 0, 1⟩], dirSlices := 1 } :: List.replicate 3 {} },
  hbm := Mem.writeBytes (dirAddr 0) (le 8 (dirOf 1 0 5)) [] }

/-- A brine record. -/
def tRec (type seq time : Nat) (body : List Byte := []) : List Byte :=
  le 1 type ++ zeros 3 ++ le 4 (32 + body.length) ++ zeros 4 ++ le 4 seq ++ le 8 time ++ zeros 8 ++ body

/-- A brine record with its CRC. -/
def tGood : List Byte := (tRec 9 1 0).take 28 ++ le 4 (crc32c (tRec 9 1 0))

/-- A brine command for world 0 that waits to be applied. -/
def tBrine (op : Nat) (r : List Byte) : Cmd := { tCmd op (zeros 8 ++ r) with stage := .waiting }

/-- An open frame with that command and world 0 loaded. -/
def tIngest (op : Nat) (r : List Byte) (phase : Phase := .opened) : State := tDev 1 phase (tPut (tBrine op r) tWorld)

/-- World 0 after the records of a brine command. -/
def tApplied (r : List Byte) (s : State) : State :=
  match applyRecords 0 (16, 31) 0 [r] (0, s) with
  | .inr o => o.2
  | .inl _ => s

/-- The like for an urgent command. -/
def tUrgent (r : List Byte) (s : State) : State :=
  match applyUrgentRecords 0 0 [r] s with
  | .inr o => o
  | .inl _ => s

/-- A state with a cluster `p`. -/
def tClu (p : Nat) (c : Cluster) (s : State := {}) : State := { s with clusters := s.clusters.set p c }

/-- A re-check task of unit 5 that waits for nothing. -/
def tTask : TaskDesc := {
  layerId := 0, operatorId := 0, phase := 9, unit := 5, tokens := 0, safety := false, pinned := false, keep := false,
  succExtra := 0, stream := 255, args := 0, op := .recheck }

/-- A STOP for cluster 63. -/
def tStop : TaskDesc := { tTask with phase := 4, pinned := true, keep := true, op := .stop, target := some 63 }

/-- The task in a structure's entry 8 (0: main store, 1: ready list, 2: delay list). -/
def tHeld (d : TaskDesc) (seat : Nat) : Held := { entry := 8, task := d, seat, extraSeat := seat }

/-- Unit 5 runs a task of stream 0 in entry 8. -/
def tDo (op : TaskOp) : Scheduler := { running := [(5, tHeld { tTask with op, stream := 0 } 1)] }

/-- A shortlist entry and a clear verdict. -/
def tEnt : Entry := {
  cost := 0, g := 0, origin := 0, stream := 0, cluster := 0, epoch := 0, winA := 255, winB := 255, smooth := {},
  minNet := [], tStart := 0, cp := [], swept := [], tm := [] }
@[inherit_doc tEnt] def tVer : Verdict := {
  g := 0, stream := 0, verdict := 0, steps := 1, minNet := [], hitSigma := 0, hitSphere := 0, hitObj := 0, epoch := 0,
  kind := 3, budgetMax := 0 }

/-- That frame with no ingest time left. -/
def tFull : State := (tIngest 1025 (tRec 9 1 5)).modWorlds fun w => { w with ingestUsed := 2 ^ 40 }

/-- An Exact-mode frame after the cut-off with a waiting urgent command. -/
def tExact : State :=
  (tIngest 1026 (tRec 7 1 5 ([15] ++ zeros 103)) .afterCutoff).modFrame fun f => { f with conf := { exact := true } }

/-- A stream with one shortlist entry to attempt. -/
def tTry : Stream := { tPub with outOfRange := none, device := some [tEnt] }

/-- A stream whose tree nodes below the root are done. -/
def tRoot : Stream := { tPub with treeNodes := [(5, 0, [tEnt], {}), (5, 1, [], {})] }

/-- A stream that works on a query. -/
def tWork : Stream := { tStr with query := some tQuery, formed := true }

/-- A frame after the cut-off with one stream at work. -/
def tWorking (x : Stream) (s : State := {}) : State := tStreams [x] (tDev 1 .afterCutoff (tRun 3 s))

/-- A plan, and a candidate of stream 0. -/
def tPlan : Plan := {
  g := 0, cp := [], tStart := 0, tm := [], swept := [], seq := 1, frame := 0, rig := 0, net := 0, cost := 0, qGoal := [] }
@[inherit_doc tPlan] def tCand : Cand := { stream := 0, g := 7, cp := [] }

/-- A stream at work with a candidate on cluster 15. -/
def tOn (c : Cand) (s : State := {}) : State := tClu 15 { cands := [c] } (tWorking tWork s)

/-- A box job of world 0 in the frame with counter 0. -/
def tJob : DistJob :=
  { world := 0, cell := [0, 0, 0, 0], cls := 0, dims := [1, 1, 1], bitmap := zeros 512, snapshot := 0, seq := 1, frame := 0 }

/-- A stream with its first block done, one to repair, one with a run to repair, and one with all blocks done. -/
def tNext : Stream := { tWork with candidates := 128, blocksDone := 1, contextOut := some [] }
@[inherit_doc tNext] def tFix : Stream :=
  { tWork with contextOut := some [], carried := some tPlan, repairWindow := some (0, 1) }
@[inherit_doc tNext] def tRep : Stream := { tWork with block0 := some 15, carried := some tPlan, repairRuns := [(0, 1)] }
@[inherit_doc tNext] def tDone : Stream := { tWork with blocksDone := 1, blocksAccepted := 1 }

/-- A rig with a tool point that has a speed limit. -/
def tCart : State := { images := { rigs := List.replicate 8 { tools := [⟨0, 0, [], [(1, 0, 0)], 0⟩] } } }

/-- World 0 with four slices and rigs of one sphere and one capsule just before its start: what their queries need of HBM is
directory entry 144, of the overhang. -/
def tArm : State := {
  worlds := { ws := { loaded := true, segments := [⟨0, 40000, [], true, 0, 4⟩], dirSlices := 4 } :: List.replicate 3 {} },
  images := { rigs := List.replicate 8 {
    spheres := [⟨0, 0, [-1, 0, 0], 0, 0⟩], capsules := [⟨0, 0, [-1, 0, 0], [-1, 0, 0], 0, 0⟩],
    tools := [⟨0, 1, [0, 0, 0], [(1, 0, 0)], 0⟩] } } }

/-- A candidate of stream 0 on cluster 15, whose resolution table holds that entry. -/
def tKnown (c : Cand) : State := tClu 15 { cands := [c], resolved := [(144, 0, 0)] } (tWorking tWork tArm)

/-- That cluster runs a task of a stream. -/
def tReady (op : TaskOp) (x : Stream) (cands : List Cand := []) : State :=
  tClu 15 { cands, resolved := [(144, 0, 0)], sched := tDo op } (tWorking x tArm)

/-- The query of that candidate's check, parked. -/
def tPark (pans : List Nat) (kind : Nat) : Parked := { stream := 0, g := 7, kind, need := { dir := 144, pans } }

/-- An open frame in which cluster 63 is the assay cluster of stack 3. -/
def tAssay (x : ClusterTest) : State :=
  tClu 63 { test := x } (tDev 1 .opened {
    stks := List.replicate 3 {} ++ [{ assayCluster := some 63 }], hub := { secretsGolden := true } })

/-- Rake item 16 of the hub last completed at 0. -/
def tAged : State := { safety := { rakeItems := [⟨64, 16, 0, false⟩] } }

/-- A flit of virtual channel 0 and a port that is up and has it unacknowledged. -/
def tFlit (ok : Bool) (lseq : Nat) (kind : Nat := 0) : Flit :=
  let f : Flit := {
    crc := 0, vc := 3, kind, src := 0, dst := 0, lseq, lack := 0, sendTime := 0, len := 0, credits := [0, 0, 0, 0], msg := 0,
    payload := [] }
  if ok then f.sealed else { f.sealed with crc := if f.sealed.crc = 0 then 1 else 0 }
@[inherit_doc tFlit] def tPort (replays : Nat) : Port :=
  { enabled := true, up := true, neighbourId := 255, unacked := [{ flit := tFlit true 5, replays }], owed := [0, 0, 0, 16] }

/-- A state with port 3. -/
def tPorts (p : Port) (s : State := {}) : State := { s with fabric := { s.fabric with ports := List.replicate 3 {} ++ [p] } }

/-- A census in a state with a ROUTE message for the nodes 0 (this device) and 63. -/
def tCensus (state : Nat) (s : State := {}) : State :=
  { s with part := { certHash := [1] }, fabric := { s.fabric with census := state, epoch := 5, highestEpoch := 5 } }
@[inherit_doc tCensus] def tRoute (h0 h63 : List Byte) : RouteMsg :=
  { epoch := 5, hashes := h0 :: List.replicate 62 [] ++ [h63], adjacency := List.replicate 64 [255, 255, 255, 255], tableHash := [] }

/-- A brine command forwarded to a node as message 3. -/
def tSent : Cmd := { tBrine 1025 (tRec 9 1 5) with proxyMsg := some 3 }

/-- The bytes of a request without payload. -/
def tReq (op flags session : Nat) : List Byte :=
  let h := le 2 0x4649 ++ [3, 0] ++ le 2 op ++ le 2 flags ++ le 1 session ++ zeros 19
  h ++ le 4 (crc32c h)

/-- A running device with these bytes in slot 31 of function 16, of which it has session 0. -/
def tMail (b : List Byte) (s : State := {}) : State :=
  tSes 0 { state := 1, fn := 16 } (tDma { s with
    boot := { cfwUp := true }, mbx := { s.mbx with bytes := Mem.writeBytes (slotAddr 16 31 0) b [] } })

/-- An SPDM exchange whose algorithms are agreed, with a certificate chain of two bytes. -/
def tAlg (cert : Bool := false) (keys : Bool := false) : State := { tMail [] with
  pcie := { (tMail []).pcie with spdmVersion := true, spdmAlgorithms := true }
  boot := { cfwUp := true, certOk := cert }, flash := { certChain := zeros 2 }, hub := { secretsKeys := keys } }

/-- A ring of function 16. -/
def tRing : Ring := { key := 32, fn := 16, base := 0, entries := 16, entrySize := 64, widxAddr := 0, w := 2 ^ 32 - 1 }

/-- The device owns slot 31 of function 16. -/
def tOwn (s : State) : State := { s with mbx := { s.mbx with own := [(16, 31)] } }

/-- The sluice is closed. -/
def tShut : State := { hub := { sluiceClosed := true } }

/-- A brine command of 8 bytes that waits for landing space, and a command with its response. -/
def tLand : Cmd := { tCmd 1025 [] 0 [{ addr := 0, len := 8, write := false }] with stage := .landing }
@[inherit_doc tLand] def tAns : Cmd := { tCmd 257 with response := some { status := 0 } }

/-- Every dispatcher holds `n` tasks and one waits in hub memory. -/
def tQueue (n : Nat) : State :=
  { stks := List.replicate 4 { taskList := [tTask], dispatcher := List.replicate n { task := tTask } } }

/-- Every function has MSI-X on and these bits pending. -/
def tUnmask (l : List Nat) : State := {
  pcie := {
    linkA := { up := true }, linkB := { up := true }, vfEnable := true, numVfs := 15,
    fns := List.replicate 17 { busMaster := true, msixEnabled := true, pendingBits := l } } }

/-- Power is up before boot, with these bytes in flash bank 0 and nine clusters marked in the health page. -/
def tBank (bank : List Byte) : State := {
  aon := { pstate := 2, railsUp := true },
  flash := { banks := [bank, []], health := { copy0 := some (0, { marks := (List.range 9).map fun p => (p, 1) }) } } }

/-- A sealed flit has a good CRC and a changed one has not. -/
theorem tSealed (f : Flit) : f.sealed.crcOk = true ∧
    { f.sealed with crc := if f.sealed.crc = 0 then 1 else 0 }.crcOk = false := by
  refine ⟨beq_self_eq_true _, ?_⟩
  show ((if crc32Ieee f.bytes = 0 then 1 else 0) == crc32Ieee f.bytes) = false
  split <;> simp_all [Ne.symm]

/-- An entry of 64 MiB or more leaves no room in the replay queue. -/
theorem tReplay (n : Nat) (h : 67108864 ≤ n) (c : Capture) :
    67108864 < replayBytes ([{ tCorr with payload := List.replicate n 0 }] ++ [c]) := by
  simp [replayBytes, sumN, ceilDiv]; omega

/-- Nine marks in one stack are too many. -/
theorem tRetire (s : State) (h : s.part.dum = {}) : (s.retire [0, 1, 2, 3, 4, 5, 6, 7, 8]).2.2 = true := by
  unfold State.retire; rw [h]; decide +kernel

theorem test_meets_StepRunsFront_1 : ∃ (c : Instr) (rest : List Instr) (s : State), s.pending = c :: rest :=
  ⟨.freezeGo 0, [.freezeGo 1], { pending := [.freezeGo 0, .freezeGo 1] }, by decide +kernel⟩

theorem test_meets_WellFormedCommandsRun_1 : ∃ (c : Instr), c.wf = true :=
  ⟨.slotSubmit 16 31 0, by decide +kernel⟩

theorem test_meets_WellFormedCommandsRun_2 : ∃ (c : Instr), c.wf = false :=
  ⟨.slotSubmit 17 0 0, by decide +kernel⟩

theorem test_meets_QueueRuns_1 : ∃ (s : State), s.queueWf :=
  ⟨{ pending := [.freezeGo 0, .flr 16 0] }, by unfold State.queueWf; decide +kernel⟩

theorem test_meets_QueueRuns_3 : ∃ (s : State), s.pending = [] :=
  ⟨{}, by decide +kernel⟩

theorem test_meets_ResetState_3 : ∃ (i : Nat), i < 16 :=
  ⟨15, by decide +kernel⟩

theorem test_meets_MemoryLaws_1 : ∃ (m : Mem), m.wf = true :=
  ⟨[(3, 1), (2 ^ 64, 255)], by decide +kernel⟩

theorem test_meets_LatchedPinsHold_1 : ∃ (s s' : State), s.latchHolds ∧ step s = Host.Outcome.next s' :=
  ⟨{ safety := { latch := [{ code := 9, time := 0 }], pinState := 2, safeA := false, safeB := true } },
    { safety := { latch := [{ code := 9, time := 0 }], pinState := 2, safeA := false, safeB := true } },
    by unfold State.latchHolds State.pinsLatched; decide +kernel, by rfl⟩

theorem test_meets_ReverifyCluster_1 : ∃ (s : State) (id k a : Nat), k = (id % 4 + 1 + s.frame.counter.toNat % 3) %
    4 ∧ a = 16 * k + id / 4 % 16 :=
  ⟨{}, 255, 0, 15, by decide +kernel⟩

theorem test_meets_ReverifyCluster_3 : ∃ (s : State) (id k a : Nat), k = (id % 4 + 1 + s.frame.counter.toNat % 3) %
    4 ∧ a = 16 * k + id / 4 % 16 ∧ (∃ p, p / 16 = k ∧ s.enabled p = true) :=
  ⟨{}, 255, 0, 15, by decide +kernel, by decide +kernel, by exact ⟨0, by decide +kernel⟩⟩

theorem test_meets_ComponentDraw_1 : ∃ (probs : List Int) (r : Nat), probs ≠ [] ∧ (∃ m < probs.length, ↑r < sumI
    (List.take (m + 1) probs)) :=
  ⟨[16384, 16384], 16384, by decide +kernel⟩

theorem test_meets_ComponentDraw_3 : ∃ (probs : List Int) (r k : Nat), probs ≠ [] ∧ (∃ m < probs.length, ↑r < sumI
    (List.take (m + 1) probs)) ∧ k < pickComponent probs r :=
  ⟨[16384, 16384], 16384, 0, by decide +kernel⟩

theorem test_meets_ComponentDraw_4 : ∃ (probs : List Int) (r : Nat), probs ≠ [] ∧ (∀ m < probs.length, sumI
    (List.take (m + 1) probs) ≤ ↑r) :=
  ⟨[16384, 16383], 32767, by decide +kernel⟩

theorem test_meets_ComponentDraw_5 : ∃ (s : State) (b : Binding) (x : Stream) (g : NetGraph) (extra : List (Nat ×
    List Int)) (ctx : List Int) (g0 base j : Nat) (word : Nat → Nat → BitVec 64) (run : Tensors) (probs : List Int),
    j < 64 ∧ (∀ (j w : Nat), word j w = seedWord (s.seedKey b x) s.frame.counter b.wid (g0 + j) (base + w)) ∧ run =
    runGraph b.net.tensors g (g.fill b.net.tensors ([(roleContextIn, unflagged (List.replicate 64 ctx).flatten),
    (roleNoise, unflagged (List.flatMap (fun j => noiseOf b.net.noiseDim (word j)) (List.range 64)))] ++ List.map
    (fun e => (e.1, unflagged (List.replicate 64 e.2).flatten)) extra)) ∧ probs = List.take b.net.components
    (List.drop (j * b.net.components) (g.read roleProb run)) :=
  ⟨{}, {}, { id := 0, session := 0, candidates := 64, ageLimit := 3000 }, {}, [], [], 0, 0, 63, _, _, _, by decide,
    (fun _ _ => rfl), by rfl, by rfl⟩

theorem test_meets_FrameHung_1 : ∃ (s : State) (t : Nat), s.sessions.length = 16 ∧ s.gridRuns = true ∧
    s.frame.conf.exact = true ∧ s.frame.phase ∈ [Phase.opened, Phase.afterCutoff, Phase.afterHarvest] ∧
    s.safety.latch.length < 32 ∧ s.safety.restartPending ≠ some 8 ∧ s.frame.openTime + 4 * s.frame.conf.period *
    ticksPerUs + s.req.haltTicks ≤ max s.time.now t :=
  ⟨{ frame := { devState := 1, phase := .opened, conf := { exact := true, period := 250 } } }, 4 * 250 * 200,
    by decide +kernel⟩

theorem test_meets_FrameHung_2 : ∃ (s : State) (t : Nat), s.sessions.length = 16 ∧ s.gridRuns = true ∧
    s.frame.conf.exact = true ∧ s.frame.phase ∈ [Phase.opened, Phase.afterCutoff, Phase.afterHarvest] ∧
    s.safety.latch.length < 32 ∧ s.safety.restartPending ≠ some 8 ∧ max s.time.now t < s.frame.openTime + 4 *
    s.frame.conf.period * ticksPerUs + s.req.haltTicks :=
  ⟨{ frame := { devState := 1, phase := .opened, conf := { exact := true, period := 250 } } }, 4 * 250 * 200 - 1,
    by decide +kernel⟩

theorem test_meets_RetirementKeepsEight_1 : ∃ (s : State) (k : Nat), (∀ k < 4, 8 ≤ (s.enabledIn k).length) ∧ k < 4
    :=
  ⟨{}, 3, by decide +kernel⟩

theorem test_meets_RetirementKeepsEight_2 : ∃ (s : State) (marks : List Nat) (p : Nat), (∀ k < 4, 8 ≤ (s.enabledIn
    k).length) ∧ p ∈ marks ∧ p < 64 ∧ (s.retire marks).1.disabled.getLsbD p = false :=
  ⟨{}, [0, 1, 2, 3, 4, 5, 6, 7, 8], 8, by decide +kernel⟩

theorem test_meets_RetirementKeepsEight_3 (bank : List Byte) (h : ({} : Part).bankBad bank = none) : ∃ (s : State)
    (marks : List Nat), (∀ k < 4, 8 ≤ (s.enabledIn k).length) ∧ s.aon.pstate = 2 ∧ s.aon.railsUp = true ∧
    s.boot.cfwUp = false ∧ s.boot.mode ≠ 3 ∧ s.part.lifecycle ≠ 5 ∧ (∃ i < 2, s.part.bankBad (s.flash.banks.getD i
    []) = none) ∧ s.flash.bootBank.read.getD 0 < 2 ∧ (s.flash.health.read.getD { }).signed = true ∧ marks = List.map
    (fun x => x.1) (s.flash.health.read.getD { }).marks ∧ (s.retire marks).2.2 = true :=
  ⟨tBank bank, [0, 1, 2, 3, 4, 5, 6, 7, 8], (by show ∀ k < 4, 8 ≤ (State.enabledIn {} k).length; decide +kernel), by
    rfl, by rfl, by rfl, (by show (0 : Nat) ≠ 3; decide), (by show (2 : Nat) ≠ 5; decide), ⟨0, by decide, h⟩, (by
    show (0 : Nat) < 2; decide), by rfl, (by show _ = ((List.range 9).map fun p => (p, 1)).map (·.1); decide),
    (tRetire _ rfl)⟩

theorem test_meets_ClassSRecover_1 : ∃ (s : State) (fn slot : Nat) (c : Cmd), isSlot fn slot ∧ s.isReady 518 fn slot
    c ∧ c.payload = [] ∧ c.session < s.sessions.length ∧ (s.ses c.session).classS = true ∧ (s.ses c.session).state =
    5 ∧ s.safety.latch = [] :=
  ⟨tPut (tCmd 518 [] 15)
    { safety := { latch := [] }, sessions := List.replicate 15 {} ++ [{ state := 5, classS := true }] }, 16, 31,
    tCmd 518 [] 15, by unfold isSlot State.isReady; decide +kernel⟩

theorem test_meets_ClassSRecover_2 : ∃ (s : State) (fn slot : Nat) (c : Cmd), isSlot fn slot ∧ s.isReady 518 fn slot
    c ∧ c.payload = [] ∧ c.session < s.sessions.length ∧ (s.ses c.session).classS = true ∧ (s.ses c.session).state =
    5 ∧ s.safety.latch ≠ [] :=
  ⟨tPut (tCmd 518 [] 15) { safety := { latch := [{ code := 9, time := 0 }] }, sessions := List.replicate 15 {} ++
    [{ state := 5, classS := true }] }, 16, 31, tCmd 518 [] 15, by unfold isSlot State.isReady; decide +kernel⟩

theorem test_meets_IfenRowsByMode_1 : ∃ (i : Instr) (s : State) (op fn slot : Nat) (c : Cmd), i.row = some (op, fn,
    slot) ∧ isSlot fn slot ∧ (¬(1284 ≤ op ∧ op ≤ 1287)) ∧ s.isArrived op fn slot c ∧ s.boot.mode = 1 ∧ op ∉ [257,
    258, 259, 2305, 2308, 2312] ∧ op / 256 ≠ 8 ∧ op / 256 ≠ 11 :=
  ⟨.sesOpen 16 31 0, tPut (tCmd 513) { boot := { mode := 1 } }, 513, 16, 31, tCmd 513,
    by unfold isSlot State.isArrived; decide +kernel⟩

theorem test_meets_IfenRowsByMode_2 : ∃ (i : Instr) (s : State) (op fn slot : Nat) (c : Cmd), i.row = some (op, fn,
    slot) ∧ isSlot fn slot ∧ (¬(1284 ≤ op ∧ op ≤ 1287)) ∧ s.isArrived op fn slot c ∧ s.boot.mode ≠ 1 ∧
    s.frame.devState = 3 ∧ op / 256 ≠ 7 ∧ op / 256 ≠ 8 :=
  ⟨.sesOpen 16 31 0, tDev 3 .closed (tPut (tCmd 513)), 513, 16, 31, tCmd 513,
    by unfold isSlot State.isArrived; decide +kernel⟩

theorem test_meets_IfenRowsByMode_3 : ∃ (i : Instr) (s : State) (op fn slot : Nat), i.row = some (op, fn, slot) ∧
    isSlot fn slot ∧ (¬(1284 ≤ op ∧ op ≤ 1287)) ∧ (∀ c ∈ s.mbx.cmds, c.fn = fn → c.slot % 32 ≠ slot) :=
  ⟨.sesOpen 16 31 0, { boot := { mode := 1 } }, 513, 16, 31, by unfold isSlot; decide +kernel⟩

theorem test_meets_DeviceAndTime_1 : ∃ (s : State) (fn slot : Nat) (c : Cmd), isSlot fn slot ∧ s.isArrived 257 fn
    slot c ∧ s.frame.devState ≠ 3 ∧ c.payload = [] :=
  ⟨tPut (tCmd 257), 16, 31, tCmd 257, by unfold isSlot State.isArrived; decide +kernel⟩

theorem test_meets_DeviceAndTime_2 : ∃ (s : State) (fn slot : Nat) (c : Cmd), isSlot fn slot ∧ s.isArrived 258 fn
    slot c ∧ s.frame.devState ≠ 3 ∧ c.payload = [] :=
  ⟨tPut (tCmd 258), 16, 31, tCmd 258, by unfold isSlot State.isArrived; decide +kernel⟩

theorem test_meets_DeviceAndTime_3 : ∃ (s : State) (fn slot : Nat) (c : Cmd), isSlot fn slot ∧ s.isArrived 259 fn
    slot c ∧ s.frame.devState ≠ 3 ∧ c.payload = [] :=
  ⟨tPut (tCmd 259), 16, 31, tCmd 259, by unfold isSlot State.isArrived; decide +kernel⟩

theorem test_meets_DeviceAndTime_4 : ∃ (s : State) (fn slot : Nat) (c : Cmd), isSlot fn slot ∧ s.isReady 260 fn slot
    c ∧ c.payload.length = 8 ∧ allZero (slice c.payload 1 7) = true ∧ getU c.payload 0 1 ≤ 2 ∧ (s.frame.devState = 0
    ∨ s.frame.devState = 2) :=
  ⟨tPut (tCmd 260 ([2] ++ zeros 7)), 16, 31, tCmd 260 ([2] ++ zeros 7),
    by unfold isSlot State.isReady; decide +kernel⟩

theorem test_meets_DeviceAndTime_5 : ∃ (s : State), s.time.source = 1 ∧ s.pcie.linkA.up = true ∧ s.frame.devState =
    0 :=
  ⟨{ time := { source := 1 }, pcie := { linkA := { up := true } } }, by decide +kernel⟩

theorem test_meets_DeviceAndTime_6 : ∃ (s : State), s.time.source = 1 ∧ s.pcie.linkA.up = true ∧ s.frame.devState ≠
    0 :=
  ⟨{ time := { source := 1 }, pcie := { linkA := { up := true } }, frame := { devState := 1 } }, by decide +kernel⟩

theorem test_meets_DeviceAndTime_7 : ∃ (s : State), s.time.source = 1 ∧ s.pcie.linkA.up = true ∧ s.frame.devState =
    0 :=
  ⟨{ time := { source := 1 }, pcie := { linkA := { up := true } } }, by decide +kernel⟩

theorem test_meets_DeviceAndTime_8 : ∃ (s : State), s.time.source ≠ 1 :=
  ⟨{}, by decide +kernel⟩

theorem test_meets_DeviceAndTime_9 : ∃ (s : State), s.time.source = 2 ∧ s.time.ppsExpected = none :=
  ⟨{ time := { source := 2 } }, by decide +kernel⟩

theorem test_meets_DeviceAndTime_10 : ∃ (s : State) (e : Nat), s.time.source = 2 ∧ s.time.ppsExpected = some e ∧
    s.time.ppsRejects < 4 :=
  ⟨{ time := { source := 2, ppsExpected := some 2001, ppsRejects := 3 } }, 2001, by decide +kernel⟩

theorem test_meets_SessionOpenBindSet_1 : ∃ (s : State) (fn slot : Nat) (c : Cmd) (i : Nat), isSlot fn slot ∧
    s.sessions.length = 16 ∧ i < 16 ∧ s.isReady 513 fn slot c ∧ c.payload.length = 8 ∧ allZero (slice c.payload 1 7)
    = true ∧ getU c.payload 0 1 ≤ 1 ∧ (s.ses i).state = 0 ∧ (s.ses i).closing = false ∧ (∀ j < i, (s.ses j).state ≠
    0 ∨ (s.ses j).closing = true) ∧ (getU c.payload 0 1 = 1 → s.mgmt.fieldDebug = false ∧ s.part.lifecycle ∉ [0, 3,
    4] ∧ s.boot.mode ≠ 2) :=
  ⟨(tPut (tCmd 513 ([1] ++ zeros 7)) (tRun 1)), 16, 31, tCmd 513 ([1] ++ zeros 7), 1,
    by unfold isSlot; decide +kernel, by decide +kernel, by decide +kernel, by unfold State.isReady; decide +kernel,
    by decide +kernel⟩

theorem test_meets_SessionOpenBindSet_2 : ∃ (s : State) (fn slot : Nat) (c : Cmd), isSlot fn slot ∧
    s.sessions.length = 16 ∧ s.isReady 513 fn slot c ∧ c.payload.length = 8 ∧ allZero (slice c.payload 1 7) = true ∧
    getU c.payload 0 1 ≤ 1 ∧ (∀ j < 16, (s.ses j).state ≠ 0 ∨ (s.ses j).closing = true) :=
  ⟨tPut (tCmd 513 ([1] ++ zeros 7)) { sessions := List.replicate 16 { state := 1 } }, 16, 31, tCmd 513 ([1] ++ zeros
    7), by unfold isSlot State.isReady; decide +kernel⟩

theorem test_meets_SessionOpenBindSet_3 : ∃ (s : State) (fn slot : Nat) (c : Cmd), isSlot fn slot ∧
    s.sessions.length = 16 ∧ s.isReady 519 fn slot c ∧ c.payload = [] ∧ c.session < 16 ∧ (s.ses c.session).state ∈
    [1, 2, 5] :=
  ⟨tPut (tCmd 519) (tRun 5), 16, 31, tCmd 519, by unfold isSlot State.isReady; decide +kernel⟩

theorem test_meets_SessionOpenBindSet_4 : ∃ (s : State) (fn slot : Nat) (c : Cmd), isSlot fn slot ∧
    s.sessions.length = 16 ∧ s.isReady 520 fn slot c ∧ c.payload = [] :=
  ⟨tPut (tCmd 520 [] 15), 16, 31, tCmd 520 [] 15, by unfold isSlot State.isReady; decide +kernel⟩

theorem test_meets_SessionOpenBindSet_5 : ∃ (s : State) (fn slot : Nat) (c : Cmd), isSlot fn slot ∧ c.session <
    s.sessions.length ∧ s.isReady 514 fn slot c ∧ c.payload.length = 8 ∧ allZero (slice c.payload 4 4) = true ∧
    ((s.ses c.session).state = 1 ∨ (s.ses c.session).state = 2) ∧ s.badBinding (s.ses c.session) c.payload = none ∧
    s.dofAgrees (Session.bind s.images c.payload (s.ses c.session)) = true ∧ (getU c.payload 2 1 ≠ 255 →
    (State.modSes c.session (fun _ => Session.bind s.images c.payload (s.ses c.session)) s).admits s.nextConf
    c.session = true) :=
  ⟨tPut (tCmd 514 ([255, 255, 255, 255] ++ zeros 4)) (tRun 2), 16, 31, tCmd 514 ([255, 255, 255, 255] ++ zeros 4),
    by unfold isSlot State.isReady; decide +kernel⟩

theorem test_meets_SessionOpenBindSet_6 : ∃ (s : State) (fn slot : Nat) (c : Cmd) (es : List (Nat × List Byte)),
    isSlot fn slot ∧ c.session < s.sessions.length ∧ s.isReady 515 fn slot c ∧ (s.ses c.session).state ∈ [1, 2, 3,
    4] ∧ settingEntries (c.payload.length + 1) c.payload = some es ∧ (∀ e ∈ es, s.settingBad (s.ses c.session) e =
    none) ∧ ((List.foldl Settings.put (s.ses c.session).next es).prerankK ≠ (s.ses c.session).next.prerankK ∨
    (List.foldl Settings.put (s.ses c.session).next es).repairBlocks ≠ (s.ses c.session).next.repairBlocks →
    (State.modSes c.session (fun y =>
    { y with pendingSet := some (List.foldl Settings.put (s.ses c.session).next es) }) s).admits s.nextConf
    c.session = true) :=
  ⟨tPut (tCmd 515 ([4, 0, 40, 0] ++ zeros 32 ++ [16, 8, 4, 0, 0, 0, 0, 0])) (tRun 4), 16, 31, tCmd 515 ([4, 0, 40,
    0] ++ zeros 32 ++ [16, 8, 4, 0, 0, 0, 0, 0]), [(4, zeros 32 ++ [16, 8, 4, 0, 0, 0, 0, 0])],
    by unfold isSlot State.isReady; decide +kernel⟩

theorem test_meets_SessionStartStopRecover_1 : ∃ (s : State) (fn slot : Nat) (c : Cmd), isSlot fn slot ∧ c.session <
    s.sessions.length ∧ c.payload = [] ∧ s.isReady 516 fn slot c ∧ (s.ses c.session).state = 2 ∧ (s.ses
    c.session).unset = 0 ∧ ((s.ses c.session).classS = true → (∀ b ∈ s.obs.breaks, ∀ (x : Breakpoint), b = some x →
    x.armed = false) ∧ s.nextConf.period ≤ 5000 ∧ ∀ (p : Profile), s.safety.profile = some p → s.conforms c.session
    p = true) ∧ s.homeWindowOk (s.ses c.session) = true ∧ (State.modSes c.session (fun y =>
    { y with starting := true }) s).admits s.nextConf c.session = true :=
  ⟨tPut (tCmd 516) (tSes 0 { state := 2, cost := some 0, settings := { crust := List.replicate 64 (some 20) } }),
    16, 31, tCmd 516, by     unfold isSlot State.isReady; refine ⟨?_, ?_, ?_, ?_, ?_, ?_, (fun h => absurd h
    (by decide +kernel)), ?_⟩ <;> decide +kernel⟩

theorem test_meets_SessionStartStopRecover_2 : ∃ (s : State) (fn slot : Nat) (c : Cmd), isSlot fn slot ∧ c.session <
    s.sessions.length ∧ c.payload = [] ∧ s.isReady 517 fn slot c ∧ (s.ses c.session).state = 3 ∧ s.frame.devState =
    1 :=
  ⟨tPut (tCmd 517) (tDev 1 .closed (tRun 3)), 16, 31, tCmd 517, by unfold isSlot State.isReady; decide +kernel⟩

theorem test_meets_SessionStartStopRecover_3 : ∃ (s : State) (fn slot : Nat) (c : Cmd), isSlot fn slot ∧ c.session <
    s.sessions.length ∧ c.payload = [] ∧ s.isReady 517 fn slot c ∧ ((s.ses c.session).state = 4 ∨ (s.ses
    c.session).state = 3 ∧ s.frame.devState = 0) :=
  ⟨tPut (tCmd 517) (tRun 3), 16, 31, tCmd 517, by unfold isSlot State.isReady; decide +kernel⟩

theorem test_meets_SessionStartStopRecover_4 : ∃ (s : State) (fn slot : Nat) (c : Cmd), isSlot fn slot ∧ c.session <
    s.sessions.length ∧ c.payload = [] ∧ s.isReady 518 fn slot c ∧ (s.ses c.session).state = 5 ∧ (s.ses
    c.session).classS = false :=
  ⟨tPut (tCmd 518) (tRun 5), 16, 31, tCmd 518, by unfold isSlot State.isReady; decide +kernel⟩

theorem test_meets_RingsAndLastResult_1 : ∃ (s : State) (fn slot : Nat) (c : Cmd), isSlot fn slot ∧
    s.pcie.fns.length = 17 ∧ s.isReady 1537 fn slot c ∧ c.payload.length = 32 ∧ allZero (slice c.payload 1 3) = true
    ∧ allZero (slice c.payload 20 4) = true ∧ getU c.payload 0 1 ≤ 2 ∧ (getU c.payload 0 1 ≠ 2 → (s.ses
    c.session).state ∈ [1, 2, 4]) ∧ (∃ k, 4 ≤ k ∧ k ≤ 16 ∧ getU c.payload 4 4 = 2 ^ k) ∧ getU c.payload 8 8 % 256 =
    0 ∧ getU c.payload 24 8 % 8 = 0 ∧ (if getU c.payload 0 1 = 0 then getU c.payload 16 4 % 256 = 0 ∧ s.resultEntry
    c.session ≤ getU c.payload 16 4 else getU c.payload 16 4 = 64) :=
  ⟨tPut (tCmd 1537 ([2, 0, 0, 0, 16, 0, 0, 0] ++ zeros 8 ++ [64, 0, 0, 0] ++ zeros 12)), 16, 31, tCmd 1537 ([2, 0,
    0, 0, 16, 0, 0, 0] ++ zeros 8 ++ [64, 0, 0, 0] ++ zeros 12), by unfold isSlot; decide +kernel,
    by decide +kernel, by unfold State.isReady; decide +kernel, by decide +kernel, by decide +kernel,
    by decide +kernel, by decide +kernel, by decide +kernel, ⟨4, by decide +kernel⟩, by decide +kernel⟩

theorem test_meets_RingsAndLastResult_2 : ∃ (s : State) (fn slot : Nat) (c : Cmd), isSlot fn slot ∧
    s.pcie.fns.length = 17 ∧ s.isReady 1538 fn slot c ∧ c.payload.length = 8 ∧ allZero (slice c.payload 1 7) = true
    ∧ getU c.payload 0 1 ≤ 2 ∧ (s.ring? (if getU c.payload 0 1 = 2 then 32 else 2 * c.session + getU c.payload 0
    1)).isSome = true ∧ (getU c.payload 0 1 ≠ 2 → (s.ses c.session).state ∈ [1, 2, 4]) :=
  ⟨{ rings := [{ key := 32, fn := 0, base := 0, entries := 16, entrySize := 64, widxAddr := 8 }], mbx :=
    { cmds := [tCmd 1538 ([2] ++ zeros 7)] } }, 16, 31, tCmd 1538 ([2] ++ zeros 7),
    by unfold isSlot State.isReady; decide +kernel⟩

theorem test_meets_RingsAndLastResult_3 : ∃ (s : State) (fn slot : Nat) (c : Cmd) (x : Stream) (a len : Nat), isSlot
    fn slot ∧ s.pcie.fns.length = 17 ∧ s.isReady 1539 fn slot c ∧ c.payload.length = 8 ∧ allZero (slice c.payload 1
    7) = true ∧ List.find? (fun y => y.id == getU c.payload 0 1 && y.session == c.session && !y.lastRecord.isEmpty)
    s.streams = some x ∧ c.descs = [{ addr := a, len := len, write := true }] ∧ x.lastRecord.length ≤ len ∧ s.dmaOk
    fn = true :=
  ⟨tDma (tStreams [{ tStr with lastRecord := zeros 8 }] (tPut (tCmd 1539 ([0] ++ zeros 7) 0
    [{ addr := 4096, len := 8, write := true }]))), 16, 31, tCmd 1539 ([0] ++ zeros 7) 0
    [{ addr := 4096, len := 8, write := true }], { tStr with lastRecord := zeros 8 }, 4096, 8,
    by unfold isSlot State.isReady; decide +kernel⟩

theorem test_meets_FrameGridCommands_1 : ∃ (s : State) (fn slot : Nat) (c : Cmd), isSlot fn slot ∧ s.isReady 1281 fn
    slot c ∧ c.payload.length = 8 ∧ allZero (slice c.payload 4 4) = true ∧ getU c.payload 3 1 < 2 ∧ s.frame.devState
    ∈ [0, 1, 2] ∧ (∀ x ∈ s.sessions, x.state ≠ 3) ∧ 250 ≤ getU c.payload 0 2 ∧ getU c.payload 0 2 ≤ 20000 ∧ getU
    c.payload 0 2 % 50 = 0 ∧ 10 ≤ getU c.payload 2 1 ∧ getU c.payload 2 1 ≤ 25 ∧ (∀ (f : Profile), s.safety.profile
    = some f → getU c.payload 0 2 ≤ f.pMax) ∧ s.admits
    { period := getU c.payload 0 2, cutoff := getU c.payload 2 1, exact := getU c.payload 3 1 == 1 } 16 = true :=
  ⟨tPut (tCmd 1281 ([250, 0, 10, 1] ++ zeros 4)), 16, 31, tCmd 1281 ([250, 0, 10, 1] ++ zeros 4),
    by unfold isSlot; decide +kernel, by unfold State.isReady; decide +kernel, by decide +kernel, by decide +kernel,
    by decide +kernel, by decide +kernel, by decide, by decide +kernel, by decide +kernel,
    by decide +kernel, by decide +kernel, by decide +kernel, by nofun, by decide +kernel⟩

theorem test_meets_FrameGridCommands_2 : ∃ (s : State) (fn slot t : Nat) (c : Cmd), isSlot fn slot ∧ s.isReady 1282
    fn slot c ∧ c.payload.length = 8 ∧ s.frame.devState = 0 ∧ max s.time.now t + 1000 * ticksPerUs ≤ getU c.payload
    0 8 :=
  ⟨tPut (tCmd 1282 (le 8 200000)), 16, 31, 0, tCmd 1282 (le 8 200000),
    by unfold isSlot State.isReady; decide +kernel⟩

theorem test_meets_FrameGridCommands_3 : ∃ (s : State) (fn slot : Nat) (c : Cmd), isSlot fn slot ∧ s.isReady 1283 fn
    slot c ∧ c.payload = [] ∧ (∀ x ∈ s.sessions, x.state ≠ 3 ∧ x.state ≠ 4) ∧ s.frame.devState = 1 :=
  ⟨tPut (tCmd 1283) (tDev 1), 16, 31, tCmd 1283, by unfold isSlot State.isReady; decide +kernel⟩

theorem test_meets_FrameGridCommands_4 : ∃ (s : State) (fn slot : Nat) (c : Cmd), isSlot fn slot ∧ s.isReady 1283 fn
    slot c ∧ c.payload = [] ∧ (∀ x ∈ s.sessions, x.state ≠ 3 ∧ x.state ≠ 4) ∧ s.frame.devState = 2 :=
  ⟨tPut (tCmd 1283) (tDev 2), 16, 31, tCmd 1283, by unfold isSlot State.isReady; decide +kernel⟩

theorem test_meets_StreamCommands_1 : ∃ (s : State) (fn slot : Nat) (c : Cmd) (x : Stream), isSlot fn slot ∧
    dueAtCutoff c s = true ∧ 2 ≤ (s.ses c.session).state ∧ (s.ses c.session).state ≤ 4 ∧ s.isReady 1284 fn slot c ∧
    c.payload.length = 16 ∧ allZero (slice c.payload 1 1) = true ∧ allZero (slice c.payload 8 8) = true ∧ 64 ≤ getU
    c.payload 2 2 ∧ getU c.payload 2 2 ≤ 4096 ∧ getU c.payload 2 2 % 64 = 0 ∧ (getU c.payload 4 4 = 0 ∨ 250 ≤ getU
    c.payload 4 4 ∧ getU c.payload 4 4 ≤ 60000) ∧ (∀ (p : Profile), s.safety.profile = some p → (s.ses
    c.session).classS = true → x.ageLimit ≤ p.ageMax) ∧ (∀ y ∈ s.streams, y.id ≠ getU c.payload 0 1) ∧ x = {
      id := getU c.payload 0 1, session := c.session, candidates := getU c.payload 2 2,
      ageLimit := if getU c.payload 4 4 = 0 then 3000 else getU c.payload 4 4,
      ssvAge := if getU c.payload 4 4 = 0 then 3000 else getU c.payload 4 4 } ∧
    (State.modStreams (fun l => insertBy (fun a b => decide (a.id < b.id)) x l) s).admits s.nextConf c.session =
    true :=
  ⟨tPut (tCmd 1284 ([0, 0, 64, 0] ++ zeros 12)) (tDev 1 .afterCutoff (tRun 4)), 16, 31, tCmd 1284 ([0, 0, 64, 0] ++
    zeros 12), { id := 0, session := 0, candidates := 64, ageLimit := 3000, ssvAge := 3000 },
    by
    unfold isSlot State.isReady;
    refine ⟨?_, ?_, ?_, ?_, ?_, ?_, ?_, ?_, ?_, ?_, ?_, ?_, (by nofun), ?_⟩ <;> decide +kernel⟩

theorem test_meets_StreamCommands_2 : ∃ (s : State) (fn slot : Nat) (c : Cmd), isSlot fn slot ∧ dueAtCutoff c s =
    true ∧ 2 ≤ (s.ses c.session).state ∧ (s.ses c.session).state ≤ 4 ∧ s.isReady 1284 fn slot c ∧ c.payload.length =
    16 ∧ allZero (slice c.payload 1 1) = true ∧ allZero (slice c.payload 8 8) = true ∧ 64 ≤ getU c.payload 2 2 ∧
    getU c.payload 2 2 ≤ 4096 ∧ getU c.payload 2 2 % 64 = 0 ∧ getU c.payload 4 4 = 0 ∧ s.safety.profile = none ∧ (∃
    y ∈ s.streams, y.id = getU c.payload 0 1) :=
  ⟨tStreams [tStr] (tPut (tCmd 1284 ([0, 0, 64, 0] ++ zeros 12)) (tDev 1 .afterCutoff (tRun 4))), 16, 31, tCmd 1284
    ([0, 0, 64, 0] ++ zeros 12), by unfold isSlot State.isReady; decide +kernel⟩

theorem test_meets_StreamCommands_3 : ∃ (s : State) (fn slot : Nat) (c : Cmd), isSlot fn slot ∧ dueAtCutoff c s =
    true ∧ 2 ≤ (s.ses c.session).state ∧ (s.ses c.session).state ≤ 4 ∧ s.isReady 1285 fn slot c ∧ c.payload.length =
    8 ∧ allZero (slice c.payload 1 1) = true ∧ allZero (slice c.payload 4 4) = true ∧ 64 ≤ getU c.payload 2 2 ∧ getU
    c.payload 2 2 ≤ 4096 ∧ getU c.payload 2 2 % 64 = 0 ∧ (∃ y ∈ s.streams, y.id = getU c.payload 0 1 ∧ y.session =
    c.session ∧ y.active = true) ∧ (State.modStream (getU c.payload 0 1) (fun y =>
    { y with pendingCandidates := some (getU c.payload 2 2) }) s).admits s.nextConf c.session = true :=
  ⟨tStreams [tStr] (tPut (tCmd 1285 ([0, 0, 0, 16] ++ zeros 4)) (tDev 1 .afterCutoff (tRun 4))), 16, 31, tCmd 1285
    ([0, 0, 0, 16] ++ zeros 4), by unfold isSlot State.isReady; decide +kernel⟩

theorem test_meets_StreamCommands_4 : ∃ (s : State) (fn slot : Nat) (c : Cmd), isSlot fn slot ∧ dueAtCutoff c s =
    true ∧ 2 ≤ (s.ses c.session).state ∧ (s.ses c.session).state ≤ 4 ∧ s.isReady 1286 fn slot c ∧ c.payload.length =
    8 ∧ allZero (slice c.payload 1 7) = true ∧ (∃ y ∈ s.streams, y.id = getU c.payload 0 1 ∧ y.session = c.session ∧
    y.active = true) :=
  ⟨tStreams [tStr] (tPut (tCmd 1286 (zeros 8)) (tDev 1 .afterCutoff (tRun 4))), 16, 31, tCmd 1286 (zeros 8),
    by unfold isSlot State.isReady; decide +kernel⟩

theorem test_meets_QueriesAndCommits_1 : ∃ (s : State) (fn slot : Nat) (c : Cmd) (n len : Nat) (recs : List (List
    Byte)), isSlot fn slot ∧ s.isReady 1287 fn slot c ∧ dueAtCutoff c s = true ∧ 2 ≤ (s.ses c.session).state ∧
    (s.ses c.session).state ≤ 4 ∧ 8 ≤ c.payload.length ∧ getU c.payload 0 2 = n ∧ allZero (slice c.payload 2 6) =
    true ∧ 1 ≤ n ∧ n ≤ 256 ∧ len = ceilDiv (32 + 12 * (s.images.rigs.getD ((s.ses c.session).rig.getD 8) { }).dof) 8
    * 8 ∧ (if c.descs.isEmpty = true then List.drop 8 c.payload else c.bulk).length = n * len ∧ (c.descs = [] ∨
    c.payload.length = 8) ∧ recs = List.map (fun k => slice (if c.descs.isEmpty = true then List.drop 8 c.payload
    else c.bulk) (k * len) len) (List.range n) ∧ (∀ r ∈ recs, s.queryBad c.session (s.images.rigs.getD ((s.ses
    c.session).rig.getD 8) { }).dof r = none) :=
  ⟨tStreams [tStr] (tPut (tCmd 1287 ([2, 0] ++ zeros 6 ++ ([0, 1, 0, 0, 1, 0, 0, 0] ++ zeros 40) ++ ([0, 1, 0, 0, 1,
    0, 0, 0] ++ zeros 40))) (tDev 1 .afterCutoff (tRun 4))), 16, 31, tCmd 1287 ([2, 0] ++ zeros 6 ++ ([0, 1, 0, 0,
    1, 0, 0, 0] ++ zeros 40) ++ ([0, 1, 0, 0, 1, 0, 0, 0] ++ zeros 40)), 2, 48, [[0, 1, 0, 0, 1, 0, 0, 0] ++ zeros
    40, [0, 1, 0, 0, 1, 0, 0, 0] ++ zeros 40], by unfold isSlot State.isReady; decide +kernel⟩

theorem test_meets_QueriesAndCommits_2 : ∃ (s : State) (id : Nat) (x : Stream), id < 512 ∧ s.frame.phase =
    Phase.afterHarvest ∧ s.gridRuns = true ∧ s.stream? id = some x ∧ s.mayCommit x = true ∧ s.frame.conf.exact =
    false :=
  ⟨tStreams [tPub] (tDev 1 .afterHarvest (tRun 3)), 0, tPub, by decide +kernel⟩

theorem test_meets_QueriesAndCommits_3 : ∃ (s : State) (t : Nat), s.frame.phase = Phase.afterHarvest ∧ s.gridRuns =
    true ∧ s.frame.conf.exact = false ∧ s.frame.openTime + 88 * s.frame.conf.period / 100 * ticksPerUs ≤ max
    s.time.now t :=
  ⟨tStreams [tPub] (tDev 1 .afterHarvest (tRun 3)), 176000, by decide +kernel⟩

theorem test_meets_RecordingAndSlips_1 : ∃ (s : State) (fn slot : Nat) (c : Cmd), isSlot fn slot ∧ s.isReady 1793 fn
    slot c ∧ c.payload.length = 16 ∧ allZero (slice c.payload 8 8) = true ∧ getU c.payload 0 8 % 8 = 0 ∧
    s.frame.devState ∈ [0, 1, 2] ∧ s.det.record = false ∧ s.det.recordNext = false ∧ s.det.recordEnded = false :=
  ⟨tPut (tCmd 1793 (zeros 16)), 16, 31, tCmd 1793 (zeros 16), by unfold isSlot State.isReady; decide +kernel⟩

theorem test_meets_RecordingAndSlips_2 : ∃ (s : State) (fn slot : Nat) (c : Cmd), isSlot fn slot ∧ s.isReady 1794 fn
    slot c ∧ c.payload = [] ∧ s.det.record = true ∧ s.det.ring.length ≤ 536000000 ∧ c.bulk = [] ∧ c.descs = [] :=
  ⟨tPut (tCmd 1794) { det := { record := true } }, 16, 31, tCmd 1794,
    by unfold isSlot State.isReady; decide +kernel⟩

theorem test_meets_RecordingAndSlips_3 : ∃ (s : State) (fn slot : Nat) (c : Cmd), isSlot fn slot ∧ s.isReady 1795 fn
    slot c ∧ c.payload.length = 8 ∧ s.det.record = true ∧ s.det.ring.length ≤ 536000000 ∧ c.bulk = [] ∧ c.descs = []
    ∧ getU c.payload 0 8 ≤ s.det.written :=
  ⟨tPut (tCmd 1795 ([5] ++ zeros 7)) { det := { record := true, written := 5 } }, 16, 31, tCmd 1795 ([5] ++ zeros
    7), by unfold isSlot State.isReady; decide +kernel⟩

theorem test_meets_RecordingAndSlips_4 : ∃ (s : State) (fn slot : Nat) (c : Cmd), isSlot fn slot ∧ s.isReady 1796 fn
    slot c ∧ c.payload.length = 8 ∧ allZero (slice c.payload 1 7) = true ∧ getU c.payload 0 1 ≤ 1 ∧ s.frame.devState
    ∈ [0, 1, 2] :=
  ⟨tPut (tCmd 1796 ([1] ++ zeros 7)) (tDev 2), 16, 31, tCmd 1796 ([1] ++ zeros 7),
    by unfold isSlot State.isReady; decide +kernel⟩

theorem test_meets_RecordingAndSlips_6 : ∃ (s : State) (fn slot : Nat) (c : Cmd) (a len : Nat) (es : List
    SlipEntry), isSlot fn slot ∧ s.isReady 1804 fn slot c ∧ c.payload.length = 8 ∧ allZero (slice c.payload 4 4) =
    true ∧ c.descs = [{ addr := a, len := len, write := true }] ∧ s.dmaOk fn = true ∧ es = List.take (len / 16)
    (List.filter (fun e => !laterFrame (BitVec.ofNat 32 (getU c.payload 0 4)) e.frame) s.det.slipLog) :=
  ⟨tDma (tPut (tCmd 1804 (zeros 8) 0 [{ addr := 4096, len := 8, write := true }])), 16, 31, tCmd 1804 (zeros 8) 0
    [{ addr := 4096, len := 8, write := true }], 4096, 8, [], by unfold isSlot State.isReady; decide +kernel⟩

theorem test_meets_ReplayCommands_1 : ∃ (s : State) (fn slot : Nat) (c : Cmd), isSlot fn slot ∧ s.boot.mode ≠ 1 ∧
    s.isArrived 1797 fn slot c ∧ c.payload = [] ∧ (s.frame.devState = 0 ∨ s.frame.devState = 2) :=
  ⟨tPut (tCmd 1797) (tDev 2), 16, 31, tCmd 1797, by unfold isSlot State.isArrived; decide +kernel⟩

theorem test_meets_ReplayCommands_2 : ∃ (s : State) (fn slot : Nat) (c : Cmd) (es : List Capture), isSlot fn slot ∧
    s.boot.mode ≠ 1 ∧ s.isArrived 1798 fn slot c ∧ c.payload = [] ∧ s.frame.devState = 3 ∧ s.det.keyMismatch = false
    ∧ cutCapture (c.bulk.length + 1) 0 c.bulk = Sum.inr es ∧ replayBytes (s.det.replay ++ es) ≤ 67108864 :=
  ⟨tPut (tCmd 1798 [] 0 [] tEntry) (tDev 3 .guarded), 16, 31, tCmd 1798 [] 0 [] tEntry, [captureOf tEntry],
    by unfold isSlot State.isArrived; decide +kernel⟩

theorem test_meets_ReplayCommands_3 : ∃ (s : State) (fn slot : Nat) (c : Cmd) (es : List Capture), isSlot fn slot ∧
    s.boot.mode ≠ 1 ∧ s.isArrived 1798 fn slot c ∧ c.payload = [] ∧ s.frame.devState = 3 ∧ s.det.keyMismatch = false
    ∧ cutCapture (c.bulk.length + 1) 0 c.bulk = Sum.inr es ∧ 67108864 < replayBytes (s.det.replay ++ es) ∧ (fn,
    slot) ∉ s.det.replayStalled :=
  ⟨tPut (tCmd 1798 [] 0 [] tEntry) (tDev 3 .guarded
    { det := { replay := [{ tCorr with payload := List.replicate 67108864 0 }] } }), 16, 31, tCmd 1798 [] 0 []
    tEntry, [captureOf tEntry],
    by unfold isSlot State.isArrived; refine ⟨?_, ?_, ?_, ?_, ?_, ?_, ?_, (tReplay _ (by decide) _), ?_⟩ <;> decide +kernel⟩

theorem test_meets_ReplayCommands_4 : ∃ (s : State) (fn slot : Nat) (c : Cmd) (st k : Nat), isSlot fn slot ∧
    s.boot.mode ≠ 1 ∧ s.isArrived 1798 fn slot c ∧ c.payload = [] ∧ s.frame.devState = 3 ∧ s.det.keyMismatch = false
    ∧ cutCapture (c.bulk.length + 1) 0 c.bulk = Sum.inl (st, k) :=
  ⟨tPut (tCmd 1798 [] 0 [] (tEntry ++ zeros 28 ++ [1, 0, 0, 0])) (tDev 3 .guarded), 16, 31, tCmd 1798 [] 0 []
    (tEntry ++ zeros 28 ++ [1, 0, 0, 0]), 0x0402, 1, by unfold isSlot State.isArrived; decide +kernel⟩

theorem test_meets_ReplayCommands_5 : ∃ (s : State) (fn slot : Nat) (c : Cmd), isSlot fn slot ∧ s.boot.mode ≠ 1 ∧
    s.isArrived 1799 fn slot c ∧ c.payload = [] ∧ s.frame.devState = 3 ∧ s.sessions.length = 16 ∧ (s.frame.phase =
    Phase.closed ∨ s.frame.phase = Phase.guarded) ∧ (∀ e ∈ s.det.replay, ¬(e.kind = 6 ∧ e.frame = s.frame.counter +
    1)) :=
  ⟨tPut (tCmd 1799) (tDev 3 .guarded), 16, 31, tCmd 1799, by unfold isSlot State.isArrived; decide +kernel⟩

theorem test_meets_ReplayCommands_6 : ∃ (s : State) (fn slot t : Nat) (corr : Int) (src : Nat) (e : Capture), isSlot
    fn slot ∧ s.boot.mode ≠ 1 ∧ s.frame.devState = 3 ∧ e ∈ s.det.replay ∧ e.kind = 4 ∧ e.frame = s.frame.counter ∧
    e.payload = leS 8 corr ++ le 1 src ++ zeros 7 ∧ s.frame.openTime + e.offset ≤ max s.time.now t :=
  ⟨tDev 3 .opened { det := { replay := [tCorr] } }, 16, 31, 7, -3, 1, tCorr, by unfold isSlot; decide +kernel⟩

theorem test_meets_PauseSaveRestoreResume_1 : ∃ (s : State) (fn slot : Nat) (c : Cmd), isSlot fn slot ∧ s.isReady
    1800 fn slot c ∧ c.payload = [] ∧ s.frame.devState = 1 :=
  ⟨tPut (tCmd 1800) (tDev 1), 16, 31, tCmd 1800, by unfold isSlot State.isReady; decide +kernel⟩

theorem test_meets_PauseSaveRestoreResume_2 : ∃ (s : State) (fn slot : Nat) (c : Cmd), isSlot fn slot ∧ s.isReady
    1801 fn slot c ∧ c.payload = [] ∧ s.frame.devState = 2 ∧ (Config.stateImage s.saved).length ≤ sumN (List.map
    (fun x => x.len) (List.filter (fun x => x.write) c.descs)) :=
  ⟨tPut tSave (tDev 2), 16, 31, tSave, by unfold isSlot; decide +kernel, ⟨rfl, rfl, rfl, rfl, by decide +kernel⟩, by rfl, by decide +kernel, (Nat.le_add_left (Config.stateImage (tDev 2).saved).length 0)⟩

theorem test_meets_PauseSaveRestoreResume_3 : ∃ (s : State) (fn slot : Nat) (c : Cmd), isSlot fn slot ∧ s.isReady
    1802 fn slot c ∧ c.payload = [] ∧ s.frame.devState = 2 :=
  ⟨tPut (tCmd 1802) (tDev 2), 16, 31, tCmd 1802, by unfold isSlot State.isReady; decide +kernel⟩

theorem test_meets_PauseSaveRestoreResume_4 : ∃ (s : State) (fn slot t : Nat) (c : Cmd), isSlot fn slot ∧ s.isReady
    1803 fn slot c ∧ c.payload.length = 8 ∧ s.frame.devState = 2 ∧ max s.time.now t + 1000 * ticksPerUs ≤ getU
    c.payload 0 8 :=
  ⟨tPut (tCmd 1803 (le 8 200000)) (tDev 2), 16, 31, 0, tCmd 1803 (le 8 200000),
    by unfold isSlot State.isReady; decide +kernel⟩

theorem test_meets_CountersReadAndReset_1 : ∃ (s : State) (fn slot : Nat) (c : Cmd) (n : Nat), isSlot fn slot ∧
    s.isArrived 2049 fn slot c ∧ c.payload.length = 8 + 4 * n ∧ allZero (slice c.payload 3 5) = true ∧ getU
    c.payload 0 2 = n ∧ 1 ≤ n ∧ n ≤ 448 ∧ getU c.payload 2 1 ≤ 1 ∧ (∀ k < n, s.selectorBad fn (getU c.payload (8 + 4
    * k) 4) = none) :=
  ⟨tPut (tCmd 2049 ([2, 0] ++ zeros 6 ++ le 4 (3 * 2 ^ 28 + 15) ++ le 4 (3 * 2 ^ 28))) (tSes 0
    { state := 1, fn := 16 }), 16, 31, tCmd 2049 ([2, 0] ++ zeros 6 ++ le 4 (3 * 2 ^ 28 + 15) ++ le 4 (3 * 2 ^ 28)),
    2, by unfold isSlot State.isArrived; decide +kernel⟩

theorem test_meets_CountersReadAndReset_2 : ∃ (s : State) (fn slot : Nat) (c : Cmd), isSlot fn slot ∧ s.isArrived
    2049 fn slot c ∧ c.payload.length = 12 ∧ allZero (slice c.payload 3 5) = true ∧ getU c.payload 0 2 = 1 ∧ getU
    c.payload 2 1 ≤ 1 ∧ fn ≠ 0 ∧ selClean (getU c.payload 8 4) = true ∧ selExists (getU c.payload 8 4) = true ∧ getU
    c.payload 8 4 / 2 ^ 28 % 16 ≠ 3 :=
  ⟨tPut (tCmd 2049 ([1] ++ zeros 7 ++ le 4 63)), 16, 31, tCmd 2049 ([1] ++ zeros 7 ++ le 4 63),
    by unfold isSlot State.isArrived; decide +kernel⟩

theorem test_meets_CountersReadAndReset_3 : ∃ (s : State) (fn slot : Nat) (c : Cmd) (n : Nat), isSlot fn slot ∧
    s.isArrived 2050 fn slot c ∧ c.payload.length = 8 + 16 * n ∧ allZero (slice c.payload 2 6) = true ∧ getU
    c.payload 0 2 = n ∧ 1 ≤ n ∧ n ≤ 160 ∧ (∀ k < n, s.selectionBad (List.take k (List.map (fun k => selectionOf
    (slice c.payload (8 + 16 * k) 16)) (List.range n))) (slice c.payload (8 + 16 * k) 16) = none) :=
  ⟨tPut (tCmd 2050 ([2, 0] ++ zeros 6 ++ le 4 16 ++ [1] ++ zeros 11 ++ le 4 63 ++ [11] ++ zeros 11)), 16, 31, tCmd
    2050 ([2, 0] ++ zeros 6 ++ le 4 16 ++ [1] ++ zeros 11 ++ le 4 63 ++ [11] ++ zeros 11), 2,
    by unfold isSlot State.isArrived; decide +kernel⟩

theorem test_meets_CountersReadAndReset_4 : ∃ (s : State) (fn slot scope inst idx : Nat), isSlot fn slot ∧ counterOk
    scope inst idx = true ∧ s.pcie.linkA.up = true ∧ 0 < s.pcie.fns.length :=
  ⟨tDma, 16, 31, 3, 15, 15, by unfold isSlot; decide +kernel⟩

theorem test_meets_CountersReadAndReset_5 : ∃ (s : State) (p idx : Nat) (e : CounterSel), p < 64 ∧ 16 ≤ idx ∧ idx <
    64 ∧ s.pcie.linkA.up = true ∧ 0 < s.pcie.fns.length ∧ p < s.clusters.length ∧ s.enabled p = true ∧ s.selEntry 0
    p idx = some e ∧ e.cmdScope = true :=
  ⟨tDma { obs := { programme := [tSel] } }, 63, 63, tSel, by decide +kernel⟩

theorem test_meets_FreezeCopiesCounters_1 : ∃ (s : State) (fn slot : Nat) (c : Cmd), isSlot fn slot ∧ s.isArrived
    2051 fn slot c ∧ c.payload = [] :=
  ⟨tPut (tCmd 2051), 16, 31, tCmd 2051, by unfold isSlot State.isArrived; decide +kernel⟩

theorem test_meets_FreezeCopiesCounters_5 : ∃ (s : State) (t t0 : Nat), s.obs.freezePending = some t0 ∧ max
    s.time.now t < t0 + 5 :=
  ⟨{ obs := { freezePending := some 0 } }, 4, 0, by decide +kernel⟩

theorem test_meets_FreezeCopiesCounters_6 : ∃ (s : State) (t t0 : Nat), s.obs.freezePending = some t0 ∧ t0 + 5 ≤ max
    s.time.now t :=
  ⟨{ obs := { freezePending := some 0 } }, 5, 0, by decide +kernel⟩

theorem test_meets_FreezeCopiesCounters_7 : ∃ (s : State), s.obs.freezeWriting = true ∧ s.pcie.fns.length = 17 :=
  ⟨{ obs := { freezeWriting := true } }, by decide +kernel⟩

theorem test_meets_TraceBuffers_1 : ∃ (s : State) (fn slot : Nat) (c : Cmd), isSlot fn slot ∧ s.isArrived 2052 fn
    slot c ∧ c.payload.length = 192 ∧ traceConfBad c.payload = none :=
  ⟨tPut (tCmd 2052 (1 :: zeros 191)), 16, 31, tCmd 2052 (1 :: zeros 191),
    by unfold isSlot State.isArrived; decide +kernel⟩

theorem test_meets_TraceBuffers_2 : ∃ (s : State) (fn slot : Nat) (c : Cmd) (st : Nat), isSlot fn slot ∧ s.isArrived
    2052 fn slot c ∧ c.payload.length = 192 ∧ traceConfBad c.payload = some st :=
  ⟨tPut (tCmd 2052 (zeros 192)), 16, 31, tCmd 2052 (zeros 192), 0x0106,
    by unfold isSlot State.isArrived; decide +kernel⟩

theorem test_meets_TraceBuffers_3 : ∃ (s : State) (fn slot : Nat) (c : Cmd) (a len : Nat) (x : TraceBuf), isSlot fn
    slot ∧ s.isArrived 2053 fn slot c ∧ c.payload.length = 8 ∧ allZero (slice c.payload 1 7) = true ∧ getU c.payload
    0 1 ≤ 4 ∧ x = s.obs.buffers.getD (getU c.payload 0 1) { } ∧ c.descs = [{ addr := a, len := len, write := true }]
    ∧ (x.units ++ x.post).flatten.length ≤ len ∧ s.dmaOk fn = true :=
  ⟨tDma (tPut (tCmd 2053 ([4] ++ zeros 7) 0 [{ addr := 4096, len := 8, write := true }])), 16, 31, tCmd 2053 ([4] ++
    zeros 7) 0 [{ addr := 4096, len := 8, write := true }], 4096, 8, {},
    by unfold isSlot State.isArrived; decide +kernel⟩

theorem test_meets_TraceBuffers_4 : ∃ (s : State) (b source : Nat) (u : List Byte) (q : List (List Byte)) (x :
    TraceBuf), b < 5 ∧ source < 256 ∧ u.length = 32 ∧ s.obs.buffers.length = 5 ∧ x = s.obs.buffers.getD b { } ∧ (b <
    4 → s.dmaReady b = true) ∧ lookupD [] source x.hold = u :: q ∧ x.units.length ≤ traceUnits b ∧ x.state = 1 ∧
    s.traceCfg b 0 1 = 2 :=
  ⟨{ obs := { traceConf := zeros 160 ++ [2] ++ zeros 31, buffers := List.replicate 4 {} ++
    [{ state := 1, hold := [(255, [zeros 32])] }] } }, 4, 255, zeros 32, [],
    { state := 1, hold := [(255, [zeros 32])] }, by decide +kernel⟩

theorem test_meets_TraceBuffers_4b : ∃ (s : State) (b source : Nat) (u : List Byte) (q : List (List Byte)) (x :
    TraceBuf), b < 5 ∧ source < 256 ∧ u.length = 32 ∧ s.obs.buffers.length = 5 ∧ x = s.obs.buffers.getD b { } ∧ (b <
    4 → s.dmaReady b = true) ∧ lookupD [] source x.hold = u :: q ∧ x.units.length ≤ traceUnits b ∧ x.state = 1 ∧
    s.traceCfg b 0 1 = 2 :=
  ⟨{ obs := { traceConf := zeros 32 ++ [2] ++ zeros 159, buffers :=
    { state := 1, units := List.replicate 32768 [], hold := [(255, [zeros 32])] } :: List.replicate 4 {} } }, 0,
    255, zeros 32, [], { state := 1, units := List.replicate 32768 [], hold := [(255, [zeros 32])] },
    by
    refine ⟨?_, ?_, ?_, ?_, rfl, ?_, ?_, (Nat.le_of_eq List.length_replicate), ?_⟩ <;> decide +kernel⟩

theorem test_meets_TraceBuffers_5 : ∃ (s : State) (b source : Nat) (u : List Byte) (q : List (List Byte)) (x :
    TraceBuf), b < 5 ∧ source < 256 ∧ u.length = 32 ∧ s.obs.buffers.length = 5 ∧ x = s.obs.buffers.getD b { } ∧ (b <
    4 → s.dmaReady b = true) ∧ lookupD [] source x.hold = u :: q ∧ x.units.length ≤ traceUnits b ∧ x.state = 1 ∧
    s.traceCfg b 0 1 = 1 ∧ x.units.length + 2 ≤ traceUnits b :=
  ⟨{ obs := { traceConf := zeros 32 ++ [1] ++ zeros 159, buffers :=
    { state := 1, units := List.replicate 32766 [], hold := [(255, [zeros 32])] } :: List.replicate 4 {} } }, 0,
    255, zeros 32, [], { state := 1, units := List.replicate 32766 [], hold := [(255, [zeros 32])] },
    by
    refine ⟨?_, ?_, ?_, ?_, rfl, ?_, ?_, (by rw [List.length_replicate]; decide), ?_, ?_, (by rw [List.length_replicate]; decide)⟩ <;> decide +kernel⟩

theorem test_meets_TraceBuffers_6 : ∃ (s : State) (b source : Nat) (u : List Byte) (q : List (List Byte)) (x :
    TraceBuf), b < 5 ∧ source < 256 ∧ u.length = 32 ∧ s.obs.buffers.length = 5 ∧ x = s.obs.buffers.getD b { } ∧ (b <
    4 → s.dmaReady b = true) ∧ lookupD [] source x.hold = u :: q ∧ x.units.length ≤ traceUnits b ∧ x.state = 3 ∧
    s.traceCfg b 0 1 = 3 :=
  ⟨{ obs := { traceConf := zeros 160 ++ [3] ++ zeros 31, buffers := List.replicate 4 {} ++
    [{ state := 3, post := [zeros 32], hold := [(255, [zeros 32])] }] } }, 4, 255, zeros 32, [],
    { state := 3, post := [zeros 32], hold := [(255, [zeros 32])] }, by decide +kernel⟩

theorem test_meets_Breakpoints_1 : ∃ (s : State) (fn slot : Nat) (c : Cmd), isSlot fn slot ∧ s.obs.breaks.length =
    16 ∧ s.isArrived 2054 fn slot c ∧ c.payload.length = 32 ∧ s.breakBad c.payload = none ∧ (s.classSIn fun st =>
    inR st 2 4) = false ∧ (getU c.payload 1 1 ≠ 3 ∨ s.lifecycle ∈ [0, 3, 4]) :=
  ⟨tPut (tCmd 2054 ([15, 0, 255, 0] ++ zeros 12 ++ [1, 0] ++ zeros 14)), 16, 31, tCmd 2054 ([15, 0, 255, 0] ++ zeros
    12 ++ [1, 0] ++ zeros 14), by unfold isSlot State.isArrived; decide +kernel⟩

theorem test_meets_Breakpoints_2 : ∃ (s : State) (fn slot : Nat) (c : Cmd), isSlot fn slot ∧ s.obs.breaks.length =
    16 ∧ s.isArrived 2054 fn slot c ∧ c.payload.length = 32 ∧ s.breakBad c.payload = none ∧ (s.classSIn fun st =>
    inR st 2 4) = true :=
  ⟨tPut (tCmd 2054 ([15, 0, 255, 0] ++ zeros 12 ++ [1, 0] ++ zeros 14)) (tSes 15 { state := 2, classS := true }),
    16, 31, tCmd 2054 ([15, 0, 255, 0] ++ zeros 12 ++ [1, 0] ++ zeros 14),
    by unfold isSlot State.isArrived; decide +kernel⟩

theorem test_meets_Breakpoints_3 : ∃ (s : State) (fn slot : Nat) (c : Cmd), isSlot fn slot ∧ s.obs.breaks.length =
    16 ∧ s.isArrived 2054 fn slot c ∧ c.payload.length = 32 ∧ s.breakBad c.payload = none ∧ (s.classSIn fun st =>
    inR st 2 4) = false ∧ getU c.payload 1 1 = 3 ∧ s.lifecycle ∉ [0, 3, 4] :=
  ⟨tPut (tCmd 2054 ([15, 3, 255, 0] ++ zeros 12 ++ [1, 0] ++ zeros 14)), 16, 31, tCmd 2054 ([15, 3, 255, 0] ++ zeros
    12 ++ [1, 0] ++ zeros 14), by unfold isSlot State.isArrived; decide +kernel⟩

theorem test_meets_Breakpoints_4 : ∃ (s : State) (fn slot : Nat) (c : Cmd), isSlot fn slot ∧ s.obs.breaks.length =
    16 ∧ s.isArrived 2055 fn slot c ∧ c.payload.length = 8 ∧ allZero (slice c.payload 1 7) = true ∧ getU c.payload 0
    1 ≤ 15 :=
  ⟨tPut (tCmd 2055 ([15] ++ zeros 7)), 16, 31, tCmd 2055 ([15] ++ zeros 7),
    by unfold isSlot State.isArrived; decide +kernel⟩

theorem test_meets_Breakpoints_5 : ∃ (s : State) (fn slot : Nat) (c : Cmd), isSlot fn slot ∧ s.obs.breaks.length =
    16 ∧ s.isArrived 2056 fn slot c ∧ c.payload = [] :=
  ⟨tPut (tCmd 2056), 16, 31, tCmd 2056, by unfold isSlot State.isArrived; decide +kernel⟩

theorem test_meets_Breakpoints_6 : ∃ (s : State) (i unit p pc layer op : Nat) (b : Breakpoint), i < 16 ∧
    s.obs.breaks.getD i none = some b ∧ b.armed = true ∧ s.clusters.length = 64 ∧ breakMatches b.bytes unit p pc
    layer op = false :=
  ⟨{ obs := { breaks := List.replicate 15 none ++ [some tBreak] } }, 15, 2, 63, 0, 0, 0, tBreak, by decide +kernel⟩

theorem test_meets_Breakpoints_7 : ∃ (s : State) (i unit p pc layer op : Nat) (b : Breakpoint), i < 16 ∧
    s.obs.breaks.getD i none = some b ∧ b.armed = true ∧ s.clusters.length = 64 ∧ breakMatches b.bytes unit p pc
    layer op = true :=
  ⟨{ obs := { breaks := List.replicate 15 none ++ [some tBreak] } }, 15, 1, 63, 0, 0, 0, tBreak, by decide +kernel⟩

theorem test_meets_ImagesLoadAndCopy_1 : ∃ (s : State) (fn slot : Nat) (c : Cmd) (kind : Nat), isSlot fn slot ∧
    s.isReady 769 fn slot c ∧ c.payload.length = 8 ∧ allZero (slice c.payload 3 1) = true ∧ allZero (slice c.payload
    6 2) = true ∧ getU c.payload 2 1 ≤ 1 ∧ getU c.payload 4 2 = 0 ∧ kind ∈ [2, 3, 4] ∧ getU c.payload 0 1 = kind ∧
    (getU c.payload 1 1 = 255 ∨ getU c.payload 1 1 < (s.images.slots kind).length) :=
  ⟨tPut (tCmd 769 ([4, 7] ++ zeros 6)), 16, 31, tCmd 769 ([4, 7] ++ zeros 6), 4,
    by unfold isSlot State.isReady; decide +kernel⟩

theorem test_meets_ImagesLoadAndCopy_2 : ∃ (s : State) (fn slot : Nat) (c : Cmd), isSlot fn slot ∧ s.isReady 769 fn
    slot c ∧ c.payload.length = 8 ∧ allZero (slice c.payload 3 1) = true ∧ allZero (slice c.payload 6 2) = true ∧
    getU c.payload 2 1 ≤ 3 ∧ getU c.payload 4 2 = 0 ∧ getU c.payload 0 1 = 1 ∧ (getU c.payload 1 1 = 255 ∨ getU
    c.payload 1 1 < s.images.worldSlots.length) ∧ (∀ l ∈ s.images.partLoads, (l.named ≠ getU c.payload 1 1 ∨ getU
    c.payload 1 1 = 255) ∧ l.slot ≠ getU c.payload 1 1) :=
  ⟨tPut (tCmd 769 ([1, 3, 3] ++ zeros 5)), 16, 31, tCmd 769 ([1, 3, 3] ++ zeros 5),
    by unfold isSlot State.isReady; decide +kernel⟩

theorem test_meets_ImagesLoadAndCopy_3 : ∃ (s : State) (fn slot : Nat) (c : Cmd), isSlot fn slot ∧ s.isReady 769 fn
    slot c ∧ c.payload.length = 8 ∧ allZero (slice c.payload 3 1) = true ∧ allZero (slice c.payload 6 2) = true ∧
    getU c.payload 2 1 ≤ 3 ∧ getU c.payload 0 1 = 1 ∧ getU c.payload 1 1 < s.images.worldSlots.length ∧ (∃ l ∈
    s.images.partLoads, l.slot = getU c.payload 1 1) ∧ (∀ l ∈ s.images.partLoads, l.named ≠ getU c.payload 1 1) :=
  ⟨tPut (tCmd 769 ([1, 3, 3] ++ zeros 5)) { images := { partLoads := [⟨3, 255, 1, []⟩] } }, 16, 31, tCmd 769 ([1, 3,
    3] ++ zeros 5), by unfold isSlot State.isReady; decide +kernel⟩

theorem test_meets_ImagesLoadAndCopy_4 : ∃ (s : State) (fn slot : Nat) (c : Cmd) (kind i : Nat), isSlot fn slot ∧
    s.isReady 770 fn slot c ∧ c.payload.length = 8 ∧ allZero (slice c.payload 2 6) = true ∧ getU c.payload 0 1 =
    kind ∧ getU c.payload 1 1 = i ∧ imageSlotOk kind i = true ∧ s.slotInUse kind i = false ∧ (kind = 1 →
    s.isHomeWorld i = false) ∧ ((s.images.slots kind).getD i { }).state = 2 :=
  ⟨tPut (tCmd 770 ([4, 7] ++ zeros 6)) { images := { costSlots := List.replicate 8 { state := 2 } } }, 16, 31, tCmd
    770 ([4, 7] ++ zeros 6), 4, 7, by unfold isSlot State.isReady; decide +kernel⟩

theorem test_meets_ImagesLoadAndCopy_4b : ∃ (s : State) (fn slot : Nat) (c : Cmd) (kind i : Nat), isSlot fn slot ∧
    s.isReady 770 fn slot c ∧ c.payload.length = 8 ∧ allZero (slice c.payload 2 6) = true ∧ getU c.payload 0 1 =
    kind ∧ getU c.payload 1 1 = i ∧ imageSlotOk kind i = true ∧ s.slotInUse kind i = false ∧ (kind = 1 →
    s.isHomeWorld i = false) ∧ ((s.images.slots kind).getD i { }).state = 2 ∧ kind = 1 :=
  ⟨tPut (tCmd 770 ([1, 3] ++ zeros 6)) { images := { worldSlots := List.replicate 4 { state := 2 } } }, 16, 31, tCmd
    770 ([1, 3] ++ zeros 6), 1, 3, by unfold isSlot State.isReady; decide +kernel⟩

theorem test_meets_ImagesLoadAndCopy_5 : ∃ (s : State) (fn slot : Nat) (c : Cmd), isSlot fn slot ∧ s.isReady 770 fn
    slot c ∧ c.payload.length = 8 ∧ allZero (slice c.payload 2 6) = true ∧ imageSlotOk (getU c.payload 0 1) (getU
    c.payload 1 1) = true ∧ s.slotInUse (getU c.payload 0 1) (getU c.payload 1 1) = true :=
  ⟨tPut (tCmd 770 ([4, 7] ++ zeros 6)) { images := { costSlots := List.replicate 8 { state := 1 } } }, 16, 31, tCmd
    770 ([4, 7] ++ zeros 6), by unfold isSlot State.isReady; decide +kernel⟩

theorem test_meets_ImagesLoadAndCopy_6 : ∃ (s : State) (fn slot : Nat) (c : Cmd), isSlot fn slot ∧ s.isReady 771 fn
    slot c ∧ c.payload = [] :=
  ⟨tPut (tCmd 771), 16, 31, tCmd 771, by unfold isSlot State.isReady; decide +kernel⟩

theorem test_meets_ImagesLoadAndCopy_7 : ∃ (s : State) (kind i fn slot : Nat) (x : SlotState) (c : Cmd), imageSlotOk
    kind i = true ∧ (s.images.slots kind)[i]? = some x ∧ x.state = 1 ∧ x.loader = some (fn, slot) ∧ s.cmd? fn slot =
    some c ∧ c.opcode = 769 ∧ c.stage = Stage.waiting ∧ c.response = none :=
  ⟨tPut tLoad { images := { costSlots := List.replicate 8 tLoading } }, 4, 7, 16, 31, tLoading, tLoad,
    by decide +kernel⟩

theorem test_meets_BrineArrivalAndWorldReads_1 : ∃ (s : State) (fn slot : Nat) (c : Cmd) (urgent : Bool), isSlot fn
    slot ∧ s.isReady (if urgent = true then 1026 else 1025) fn slot c ∧ 8 ≤ c.payload.length ∧ (c.descs ≠ [] →
    c.payload.length = 8) ∧ allZero (slice c.payload 1 7) = true ∧ c.world ≤ 3 ∧ s.isProxy c.world = false ∧ (s.wd
    c.world).loaded = false :=
  ⟨tPut (tCmd 1026 (zeros 8)), 16, 31, tCmd 1026 (zeros 8), true, by unfold isSlot State.isReady; decide +kernel⟩

theorem test_meets_BrineArrivalAndWorldReads_2 : ∃ (s : State) (fn slot : Nat) (c : Cmd) (rs : List (List Byte))
    (urgent : Bool), isSlot fn slot ∧ s.isReady (if urgent = true then 1026 else 1025) fn slot c ∧ 8 ≤
    c.payload.length ∧ (c.descs ≠ [] → c.payload.length = 8) ∧ allZero (slice c.payload 1 7) = true ∧ c.world ≤ 3 ∧
    s.isProxy c.world = false ∧ (s.wd c.world).loaded = true ∧ c.recordList = Sum.inr rs ∧ rs ≠ [] ∧ (urgent = true
    → rs.length ≤ 16) :=
  ⟨tPut (tCmd 1025 (zeros 8 ++ tGood)) tWorld, 16, 31, tCmd 1025 (zeros 8 ++ tGood), [tGood], false,
    by unfold isSlot State.isReady; decide +kernel⟩

theorem test_meets_BrineArrivalAndWorldReads_2b : ∃ (s : State) (fn slot : Nat) (c : Cmd) (rs : List (List Byte))
    (urgent : Bool), isSlot fn slot ∧ s.isReady (if urgent = true then 1026 else 1025) fn slot c ∧ 8 ≤
    c.payload.length ∧ (c.descs ≠ [] → c.payload.length = 8) ∧ allZero (slice c.payload 1 7) = true ∧ c.world ≤ 3 ∧
    s.isProxy c.world = false ∧ (s.wd c.world).loaded = true ∧ c.recordList = Sum.inr rs ∧ rs ≠ [] ∧ (urgent = true
    → rs.length ≤ 16) :=
  ⟨tPut (tCmd 1026 (zeros 8) 0 [{ addr := 0, len := 32, write := false }] tGood) tWorld, 16, 31, tCmd 1026 (zeros 8)
    0 [{ addr := 0, len := 32, write := false }] tGood, [tGood], true,
    by unfold isSlot State.isReady; decide +kernel⟩

theorem test_meets_BrineArrivalAndWorldReads_3 : ∃ (s : State) (fn slot : Nat) (c : Cmd), isSlot fn slot ∧ c.world ≤
    3 ∧ s.isReady 1027 fn slot c ∧ c.payload.length = 8 ∧ allZero (slice c.payload 1 7) = true :=
  ⟨tPut (tCmd 1027 (zeros 8)), 16, 31, tCmd 1027 (zeros 8), by unfold isSlot State.isReady; decide +kernel⟩

theorem test_meets_BrineArrivalAndWorldReads_4 : ∃ (s : State) (fn slot : Nat) (c : Cmd) (h a len : Nat), isSlot fn
    slot ∧ c.world ≤ 3 ∧ s.isReady 1028 fn slot c ∧ c.payload.length = 24 ∧ allZero (slice c.payload 1 7) = true ∧
    allZero (slice c.payload 11 1) = true ∧ allZero (slice c.payload 20 4) = true ∧ addrOk c.payload 8 = true ∧
    (s.wd c.world).loaded = true ∧ s.panAt c.world (addrAt c.payload 8) = some h ∧ s.dmaOk fn = true ∧ c.descs =
    [{ addr := a, len := len, write := true }] ∧ (s.panHeader h ++ s.panPayload h).length ≤ len :=
  ⟨tDma (tPut (tCmd 1028 (zeros 24) 0 [{ addr := 4096, len := 32832, write := true }]) tWorld), 16, 31, tCmd 1028
    (zeros 24) 0 [{ addr := 4096, len := 32832, write := true }], 5, 4096, 32832, by unfold isSlot; decide +kernel,
    by decide +kernel, by unfold State.isReady; decide +kernel, by decide +kernel, by decide +kernel,
    by decide +kernel, by decide +kernel, by decide, by decide +kernel, by decide +kernel,
    by decide +kernel, by decide +kernel, by simp [State.panHeader, State.panPayload]⟩

theorem test_meets_BrineArrivalAndWorldReads_5 : ∃ (s : State) (fn slot : Nat) (c : Cmd), isSlot fn slot ∧ c.world ≤
    3 ∧ s.isReady 1028 fn slot c ∧ c.payload.length = 24 ∧ allZero (slice c.payload 1 7) = true ∧ allZero (slice
    c.payload 11 1) = true ∧ allZero (slice c.payload 20 4) = true ∧ addrOk c.payload 8 = true ∧ ((s.wd
    c.world).loaded = false ∨ s.panAt c.world (addrAt c.payload 8) = none) :=
  ⟨tDma (tPut (tCmd 1028 (zeros 24) 0 [{ addr := 4096, len := 32832, write := true }])), 16, 31, tCmd 1028 (zeros
    24) 0 [{ addr := 4096, len := 32832, write := true }], by unfold isSlot State.isReady; decide +kernel⟩

theorem test_meets_BrineAppliesInOrder_1 : ∃ (s : State) (w : Nat) (r : List Byte), w < 4 ∧ s.worlds.ws.length = 4 ∧
    (s.wd w).loaded = true ∧ recSeq r ≠ ((s.wd w).lastSeq + 1) % 2 ^ 32 :=
  ⟨tWorld, 0, tRec 9 2 5, by decide +kernel⟩

theorem test_meets_BrineAppliesInOrder_2 : ∃ (s : State) (w : Nat) (r : List Byte), w < 4 ∧ s.worlds.ws.length = 4 ∧
    (s.wd w).loaded = true ∧ recSeq r = ((s.wd w).lastSeq + 1) % 2 ^ 32 ∧ recTime r < (s.wd w).worldTime :=
  ⟨{ worlds := { ws := { loaded := true, worldTime := 6 } :: List.replicate 3 {} } }, 0, tRec 9 1 5,
    by decide +kernel⟩

theorem test_meets_BrineAppliesInOrder_3 : ∃ (s : State) (w : Nat) (r : List Byte), w < 4 ∧ s.worlds.ws.length = 4 ∧
    (s.wd w).loaded = true ∧ recSeq r = ((s.wd w).lastSeq + 1) % 2 ^ 32 ∧ (s.wd w).worldTime ≤ recTime r ∧ recType r
    = 9 :=
  ⟨{ worlds := { ws := List.replicate 3 {} ++ [{ loaded := true, lastSeq := 2 ^ 32 - 1, worldTime := 5 }] } }, 3,
    tRec 9 0 5, by decide +kernel⟩

theorem test_meets_BrineAppliesInOrder_4 : ∃ (s : State) (w : Nat) (r : List Byte), w < 4 ∧ s.worlds.ws.length = 4 ∧
    (s.wd w).loaded = true ∧ recSeq r = ((s.wd w).lastSeq + 1) % 2 ^ 32 ∧ (s.wd w).worldTime ≤ recTime r ∧ recType r
    = 3 :=
  ⟨tWorld, 0, tRec 3 1 5 (le 2 1 ++ zeros 102), by decide +kernel⟩

theorem test_meets_BrineAppliesInOrder_5 : ∃ (s : State) (w : Nat) (r : List Byte), w < 4 ∧ s.worlds.ws.length = 4 ∧
    (s.wd w).loaded = true ∧ recSeq r = ((s.wd w).urgentSeq + 1) % 2 ^ 32 ∧ (s.wd w).worldTime ≤ recTime r ∧ getU r
    32 1 < 16 ∧ (s.wd w).urgent.length = 16 :=
  ⟨tWorld, 0, tRec 7 1 5 ([15] ++ zeros 103), by decide +kernel⟩

theorem test_meets_BrineAppliesInOrder_6 : ∃ (s : State) (fn slot t : Nat) (c : Cmd) (rs : List (List Byte)) (st i :
    Nat), isSlot fn slot ∧ s.cmd? fn slot = some c ∧ c.recordList = Sum.inr rs ∧ s.frame.devState = 1 ∧ s.brineWaits
    c 1025 = true ∧ s.frame.phase = Phase.opened ∧ s.frame.openTime + 10 * ticksPerUs ≤ max s.time.now t ∧ max
    s.time.now t < s.frame.openTime + s.frame.conf.tc * ticksPerUs ∧ s.brineFirst c = true ∧ laterFrame c.frame
    s.frame.counter = false ∧ applyRecords c.world (fn, slot) 0 rs (0, (s.at t).writeBoxes) = Sum.inl (st, i) :=
  ⟨tIngest 1025 (tRec 9 2 5), 16, 31, 2000, tBrine 1025 (tRec 9 2 5), [tRec 9 2 5], 0x0403, 0,
    by unfold isSlot; decide +kernel⟩

theorem test_meets_BrineAppliesInOrder_7 : ∃ (s : State) (fn slot t : Nat) (c : Cmd) (rs : List (List Byte)) (n :
    Nat) (s1 : State), isSlot fn slot ∧ s.cmd? fn slot = some c ∧ c.recordList = Sum.inr rs ∧ s.frame.devState = 1 ∧
    s.brineWaits c 1025 = true ∧ s.frame.phase = Phase.opened ∧ s.frame.openTime + 10 * ticksPerUs ≤ max s.time.now
    t ∧ max s.time.now t < s.frame.openTime + s.frame.conf.tc * ticksPerUs ∧ s.brineFirst c = true ∧ laterFrame
    c.frame s.frame.counter = false ∧ applyRecords c.world (fn, slot) 0 rs (0, (s.at t).writeBoxes) = Sum.inr (n,
    s1) ∧ (List.filter (fun j => j.frame == s.frame.counter) s1.worlds.distJobs).length ≤ 8 ∧ (s.at
    t).writeBoxes.ingestStart + n ≤ s.ingestEnd :=
  ⟨tIngest 1025 (tRec 9 1 5), 16, 31, 29999, tBrine 1025 (tRec 9 1 5), [tRec 9 1 5], 0, tApplied (tRec 9 1 5)
    ((tIngest 1025 (tRec 9 1 5)).at 29999).writeBoxes, by unfold isSlot; decide +kernel⟩

theorem test_meets_BrineAppliesInOrder_8 : ∃ (s : State) (fn slot t : Nat) (c : Cmd) (rs : List (List Byte)) (n :
    Nat) (s1 : State), isSlot fn slot ∧ s.cmd? fn slot = some c ∧ c.recordList = Sum.inr rs ∧ s.frame.devState = 1 ∧
    s.brineWaits c 1025 = true ∧ s.frame.phase = Phase.opened ∧ s.frame.openTime + 10 * ticksPerUs ≤ max s.time.now
    t ∧ max s.time.now t < s.frame.openTime + s.frame.conf.tc * ticksPerUs ∧ s.brineFirst c = true ∧ laterFrame
    c.frame s.frame.counter = false ∧ applyRecords c.world (fn, slot) 0 rs (0, (s.at t).writeBoxes) = Sum.inr (n,
    s1) ∧ (8 < (List.filter (fun j => j.frame == s.frame.counter) s1.worlds.distJobs).length ∨ s.ingestEnd < (s.at
    t).writeBoxes.ingestStart + n) :=
  ⟨tFull, 16, 31, 2000, tBrine 1025 (tRec 9 1 5), [tRec 9 1 5], 0, tApplied (tRec 9 1 5) (tFull.at 2000).writeBoxes,
    by unfold isSlot; decide +kernel⟩

theorem test_meets_BrineAppliesInOrder_9 : ∃ (s : State) (fn slot t : Nat) (c : Cmd) (rs : List (List Byte)), isSlot
    fn slot ∧ s.cmd? fn slot = some c ∧ c.recordList = Sum.inr rs ∧ s.frame.devState = 1 ∧ s.brineWaits c 1025 =
    true ∧ (s.frame.phase ≠ Phase.opened ∨ max s.time.now t < s.frame.openTime + 10 * ticksPerUs ∨ s.frame.openTime
    + s.frame.conf.tc * ticksPerUs ≤ max s.time.now t ∨ s.brineFirst c = false ∨ laterFrame c.frame s.frame.counter
    = true) :=
  ⟨tIngest 1025 (tRec 9 1 5), 16, 31, 1999, tBrine 1025 (tRec 9 1 5), [tRec 9 1 5],
    by unfold isSlot; decide +kernel⟩

theorem test_meets_BrineAppliesInOrder_9b : ∃ (s : State) (fn slot t : Nat) (c : Cmd) (rs : List (List Byte)), isSlot
    fn slot ∧ s.cmd? fn slot = some c ∧ c.recordList = Sum.inr rs ∧ s.frame.devState = 1 ∧ s.brineWaits c 1025 =
    true ∧ (s.frame.phase ≠ Phase.opened ∨ max s.time.now t < s.frame.openTime + 10 * ticksPerUs ∨ s.frame.openTime
    + s.frame.conf.tc * ticksPerUs ≤ max s.time.now t ∨ s.brineFirst c = false ∨ laterFrame c.frame s.frame.counter
    = true) :=
  ⟨tIngest 1025 (tRec 9 1 5), 16, 31, 30000, tBrine 1025 (tRec 9 1 5), [tRec 9 1 5],
    by unfold isSlot; decide +kernel⟩

theorem test_meets_UrgentAndCutoff_1 : ∃ (s : State) (fn slot t : Nat) (c : Cmd) (r : List Byte) (rs : List (List
    Byte)) (st i : Nat), isSlot fn slot ∧ s.cmd? fn slot = some c ∧ c.recordList = Sum.inr (r :: rs) ∧ s.brineWaits
    c 1026 = true ∧ s.frame.devState = 1 ∧ s.frame.conf.exact = false ∧ (∀ x ∈ s.mbx.cmds, s.brineWaits x 1026 =
    true → x.world = c.world → x.before c = false) ∧ applyUrgentRecords c.world 0 (r :: rs) (s.at t) = Sum.inl (st,
    i) :=
  ⟨tIngest 1026 (tRec 7 2 5 ([15] ++ zeros 103)), 16, 31, 0, tBrine 1026 (tRec 7 2 5 ([15] ++ zeros 103)), tRec 7 2
    5 ([15] ++ zeros 103), [], 0x0403, 0, by unfold isSlot; decide +kernel⟩

theorem test_meets_UrgentAndCutoff_2 : ∃ (s : State) (fn slot t : Nat) (c : Cmd) (r : List Byte) (rs : List (List
    Byte)) (s1 : State), isSlot fn slot ∧ s.cmd? fn slot = some c ∧ c.recordList = Sum.inr (r :: rs) ∧ s.brineWaits
    c 1026 = true ∧ s.frame.devState = 1 ∧ s.frame.conf.exact = false ∧ (∀ x ∈ s.mbx.cmds, s.brineWaits x 1026 =
    true → x.world = c.world → x.before c = false) ∧ applyUrgentRecords c.world 0 (r :: rs) (s.at t) = Sum.inr s1 :=
  ⟨tIngest 1026 (tRec 7 1 5 ([15] ++ zeros 103)), 16, 31, 0, tBrine 1026 (tRec 7 1 5 ([15] ++ zeros 103)), tRec 7 1
    5 ([15] ++ zeros 103), [], tUrgent (tRec 7 1 5 ([15] ++ zeros 103)) ((tIngest 1026 (tRec 7 1 5 ([15] ++ zeros
    103))).at 0), by unfold isSlot; decide +kernel⟩

theorem test_meets_UrgentAndCutoff_3 : ∃ (s : State) (fn slot : Nat) (c : Cmd) (r : List Byte) (rs : List (List
    Byte)), isSlot fn slot ∧ s.cmd? fn slot = some c ∧ c.recordList = Sum.inr (r :: rs) ∧ s.brineWaits c 1026 = true
    ∧ s.frame.devState = 1 ∧ s.frame.conf.exact = true :=
  ⟨tExact, 16, 31, tBrine 1026 (tRec 7 1 5 ([15] ++ zeros 103)), tRec 7 1 5 ([15] ++ zeros 103), [],
    by unfold isSlot; decide +kernel⟩

theorem test_meets_UrgentAndCutoff_4 : ∃ (s : State) (fn slot j t : Nat) (c : Cmd) (r : List Byte) (rs : List (List
    Byte)) (s1 : State), isSlot fn slot ∧ s.cmd? fn slot = some c ∧ c.recordList = Sum.inr (r :: rs) ∧ s.brineWaits
    c 1026 = true ∧ s.frame.devState = 1 ∧ s.frame.conf.exact = true ∧ 2 ≤ j ∧ j ≤ 4 ∧ s.frame.phase ≠ Phase.closed
    ∧ s.frame.phase ≠ Phase.opened ∧ s.worlds.checkpointEpochs.length + 1 = j ∧ s.checkpointAt j ≤ max s.time.now t
    ∧ s.urgentsBefore (s.checkpointAt j) = [c] ∧ applyUrgentRecords c.world 0 (r :: rs) (s.at t) = Sum.inr s1 :=
  ⟨tExact.modWorlds fun w => { w with checkpointEpochs := [0, 0, 0] }, 16, 31, 4, 160000, tBrine 1026 (tRec 7 1 5
    ([15] ++ zeros 103)), tRec 7 1 5 ([15] ++ zeros 103), [], tUrgent (tRec 7 1 5 ([15] ++ zeros 103))
    ((tExact.modWorlds fun w => { w with checkpointEpochs := [0, 0, 0] }).at 160000),
    by unfold isSlot; decide +kernel⟩

theorem test_meets_UrgentAndCutoff_5 : ∃ (s : State) (fn slot j t : Nat) (c : Cmd) (r : List Byte) (rs : List (List
    Byte)), isSlot fn slot ∧ s.cmd? fn slot = some c ∧ c.recordList = Sum.inr (r :: rs) ∧ s.brineWaits c 1026 = true
    ∧ s.frame.devState = 1 ∧ 2 ≤ j ∧ j ≤ 4 ∧ max s.time.now t < s.checkpointAt j :=
  ⟨tExact, 16, 31, 2, 79999, tBrine 1026 (tRec 7 1 5 ([15] ++ zeros 103)), tRec 7 1 5 ([15] ++ zeros 103), [],
    by unfold isSlot; decide +kernel⟩

theorem test_meets_UrgentAndCutoff_6 : ∃ (s : State) (t : Nat), s.frame.devState = 1 ∧ s.frame.phase = Phase.opened
    ∧ max s.time.now t < s.cutoffAt :=
  ⟨tDev 1 .opened, 29999, by decide +kernel⟩

theorem test_meets_UrgentAndCutoff_7 : ∃ (s : State) (t : Nat), s.frame.devState = 1 ∧ s.frame.phase = Phase.opened
    ∧ s.cutoffAt ≤ max s.time.now t ∧ s.frame.conf.exact = false :=
  ⟨tDev 1 .opened, 30000, by decide +kernel⟩

theorem test_meets_FrameOpensAndEnds_1 : ∃ (s : State) (t : Nat), s.frame.devState = 1 ∧ max s.time.now t <
    s.frame.nextOpen :=
  ⟨{ frame := { devState := 1, nextOpen := 1 } }, 0, by decide +kernel⟩

theorem test_meets_FrameOpensAndEnds_2 : ∃ (s : State) (t : Nat) (conf : FrameConf), s.frame.devState = 1 ∧
    (s.frame.phase = Phase.closed ∨ s.frame.phase = Phase.guarded) ∧ s.req.faultedOpen = false ∧ s.boot.cfwUp = true
    ∧ s.frame.nextOpen ≤ max s.time.now t ∧ conf = s.frame.pendingConf.getD s.frame.conf ∧ (State.badBook {
      s with
      time := { s.time with now := max s.time.now t }, frame := { s.frame with counter := s.frame.counter + 1 } }) = none :=
  ⟨tDev 1 .closed { boot := { cfwUp := true } }, 0, {}, by decide +kernel⟩

theorem test_meets_FrameOpensAndEnds_3 : ∃ (s : State) (t : Nat) (conf : FrameConf) (b : Book), s.frame.devState = 1
    ∧ (s.frame.phase = Phase.closed ∨ s.frame.phase = Phase.guarded) ∧ s.req.faultedOpen = false ∧ s.boot.cfwUp =
    true ∧ s.frame.nextOpen ≤ max s.time.now t ∧ conf = s.frame.pendingConf.getD s.frame.conf ∧ (State.badBook {
      s with
      time := { s.time with now := max s.time.now t }, frame := { s.frame with counter := s.frame.counter + 1 } }) = some b ∧
    s.safety.latch.length < 32 :=
  ⟨tDev 1 .closed { boot := { cfwUp := true }, stks := { dmaTokens := 15 } :: List.replicate 3 {} }, 0, {}, ⟨5, 0,
    255, 16, 15⟩, by decide +kernel⟩

theorem test_meets_FrameOpensAndEnds_4 : ∃ (s : State), s.clusters.length = 64 ∧ s.stks.length = 4 ∧ s.frame.phase =
    Phase.afterHarvest ∧ s.gridRuns = true ∧ (∀ x ∈ s.streams, s.publishes x = true → x.committed = true) :=
  ⟨tStreams [{ tPub with committed := true }] (tDev 1 .afterHarvest (tRun 3)), by decide +kernel⟩

theorem test_meets_FrameOpensAndEnds_5 : ∃ (s : State) (t : Nat), s.clusters.length = 64 ∧ s.stks.length = 4 ∧
    s.frame.phase = Phase.published ∧ s.gridRuns = true ∧ s.frame.rakeAt ≤ max s.time.now t :=
  ⟨tDev 1 .published, 0, by decide +kernel⟩

theorem test_meets_FrameOpensAndEnds_6 : ∃ (s : State) (t p : Nat), s.clusters.length = 64 ∧ s.stks.length = 4 ∧
    (s.frame.phase = Phase.published ∨ s.frame.phase = Phase.rake) ∧ s.gridRuns = true ∧ s.frame.rakeAt + 20 *
    ticksPerUs ≤ max s.time.now t ∧ s.req = { } ∧ s.enabled p = true ∧ s.safety.latch.length < 32 :=
  ⟨tDev 1 .rake, 4000, 63, by decide +kernel⟩

theorem test_meets_FrameOpensAndEnds_7 : ∃ (s : State) (t p : Nat), s.clusters.length = 64 ∧ s.stks.length = 4 ∧
    (s.frame.phase = Phase.published ∨ s.frame.phase = Phase.rake) ∧ s.gridRuns = true ∧ s.frame.rakeAt + 20 *
    ticksPerUs ≤ max s.time.now t ∧ s.req = { } ∧ s.enabled p = true ∧ s.safety.latch.length < 32 :=
  ⟨tDev 1 .rake, 4000, 63, by decide +kernel⟩

theorem test_meets_HarvestAndAttempts_1 : ∃ (s : State) (t : Nat), s.clusters.length = 64 ∧ s.frame.phase =
    Phase.afterCutoff ∧ s.gridRuns = true ∧ s.frame.conf.exact = false ∧ s.frame.openTime + 72 * s.frame.conf.period
    / 100 * ticksPerUs ≤ max s.time.now t :=
  ⟨tDev 1 .afterCutoff, 144000, by decide +kernel⟩

theorem test_meets_HarvestAndAttempts_2 : ∃ (s : State), s.clusters.length = 64 ∧ s.frame.phase = Phase.afterCutoff
    ∧ s.gridRuns = true ∧ s.frame.conf.exact = true :=
  ⟨{ frame := { devState := 1, phase := .afterCutoff, conf := { exact := true } } }, by decide +kernel⟩

theorem test_meets_HarvestAndAttempts_3 : ∃ (s : State) (p : Nat), s.clusters.length = 64 ∧ p < 64 ∧ s.frame.phase =
    Phase.afterHarvest ∧ s.gridRuns = true ∧ s.enabled p = true :=
  ⟨tDev 1 .afterHarvest, 63, by decide +kernel⟩

theorem test_meets_HarvestAndAttempts_4 : ∃ (s : State) (id p : Nat) (x : Stream), s.clusters.length = 64 ∧ id < 512
    ∧ p < 32 ∧ s.frame.phase = Phase.afterHarvest ∧ s.gridRuns = true ∧ s.stream? id = some x ∧ s.works x = true ∧
    x.device = none ∧ x.treeNodes = [] ∧ s.enabled (2 * p) = true ∧ s.enabled (2 * p + 1) = true ∧ (s.cl (2 *
    p)).drained = true ∧ (s.cl (2 * p + 1)).drained = true :=
  ⟨tStreams [tPub] (tClu 62 { drained := true } (tClu 63 { drained := true } (tDev 1 .afterHarvest (tRun 3)))), 0,
    31, tPub, by decide +kernel⟩

theorem test_meets_HarvestAndAttempts_5 : ∃ (s : State) (id : Nat) (x : Stream) (a b : List Entry × Tally),
    s.clusters.length = 64 ∧ id < 512 ∧ s.frame.phase = Phase.afterHarvest ∧ s.gridRuns = true ∧ s.stream? id = some
    x ∧ s.works x = true ∧ x.guest = none ∧ x.device = none ∧ (x.treeNodes.any fun n => n.1 == 6 && n.2.1 == 0) =
    false ∧ s.treeChild x 5 0 = some a ∧ s.treeChild x 5 1 = some b :=
  ⟨tStreams [tRoot] (tDev 1 .afterHarvest (tRun 3)), 0, tRoot, ([tEnt], {}), ([], {}), by decide +kernel⟩

theorem test_meets_HarvestAndAttempts_6 : ∃ (s : State) (t id i e : Nat) (x : Stream), id < 512 ∧ s.frame.phase =
    Phase.afterHarvest ∧ s.gridRuns = true ∧ s.stream? id = some x ∧ s.works x = true ∧ x.committed = false ∧
    x.guest = none ∧ x.attempting = none ∧ x.nextAttempt = some i ∧ s.latch TaskOp.reverify id i = some e ∧
    (s.frame.conf.exact = true ∧ s.harvested = true ∨ s.frame.conf.exact = false ∧ s.frame.reverifyClosed = false ∧
    max s.time.now t < s.frame.openTime + 86 * s.frame.conf.period / 100 * ticksPerUs) :=
  ⟨tStreams [tTry] (tDev 1 .afterHarvest (tRun 3)), 171999, 0, 0, 0, tTry, by decide +kernel⟩

theorem test_meets_HarvestAndAttempts_7 : ∃ (s : State) (id i e : Nat) (x : Stream) (v : Verdict), id < 512 ∧
    s.frame.phase = Phase.afterHarvest ∧ s.gridRuns = true ∧ s.stream? id = some x ∧ x.attempting = some (i, e) ∧
    x.attemptVerdict = some v :=
  ⟨tStreams [{ tTry with attempting := some (0, 2), attemptVerdict := some tVer }] (tDev 1 .afterHarvest (tRun 3)),
    0, 0, 2, { tTry with attempting := some (0, 2), attemptVerdict := some tVer }, tVer, by decide +kernel⟩

theorem test_meets_HarvestAndAttempts_8 : ∃ (s : State) (t id : Nat) (x : Stream), id < 512 ∧ s.frame.phase =
    Phase.afterHarvest ∧ s.gridRuns = true ∧ s.stream? id = some x ∧ s.frame.conf.exact = false ∧
    s.frame.reverifyClosed = false ∧ s.frame.openTime + 86 * s.frame.conf.period / 100 * ticksPerUs ≤ max s.time.now
    t :=
  ⟨tStreams [tPub] (tDev 1 .afterHarvest (tRun 3)), 172000, 0, tPub, by decide +kernel⟩

theorem test_meets_TaskOffers_1 : ∃ (s : State) (p cyc : Nat) (d : TaskDesc) (t : Nat) (x : Scheduler) (h : Held) (q
    : Producer), p < 64 ∧ s.clusters.length = 64 ∧ s.stks.length = 4 ∧ d.wf = true ∧ h = ⟨x.nextEntry, if 0 <
    d.tokens then d else { d with age := x.age % 65536 }, taskStruct d, taskStruct d⟩ ∧ (q = Producer.ownCluster ∨ q
    = Producer.stackDma) ∧ x = (s.cl p).sched.inCycle cyc rankToken ∧ (s.at t).offerDue p cyc q = true ∧ (s.at
    t).barred p d = false ∧ s.misplaced p d = false ∧ 1 + d.succExtra ≤ x.room (taskStruct d) d.safety ∧ (isBlock d
    = true → s.areasFit p d.stream = true) :=
  ⟨tDev 1 .opened, 63, 15, tTask, 0, _, _, .ownCluster,
    by refine ⟨?_, ?_, ?_, ?_, rfl, ?_, rfl, ?_⟩ <;> decide +kernel⟩

theorem test_meets_TaskOffers_1b : ∃ (s : State) (p cyc : Nat) (d : TaskDesc) (t : Nat) (x : Scheduler) (h : Held) (q
    : Producer), p < 64 ∧ s.clusters.length = 64 ∧ s.stks.length = 4 ∧ d.wf = true ∧ h = ⟨x.nextEntry, if 0 <
    d.tokens then d else { d with age := x.age % 65536 }, taskStruct d, taskStruct d⟩ ∧ (q = Producer.ownCluster ∨ q
    = Producer.stackDma) ∧ x = (s.cl p).sched.inCycle cyc rankToken ∧ (s.at t).offerDue p cyc q = true ∧ (s.at
    t).barred p d = false ∧ s.misplaced p d = false ∧ 1 + d.succExtra ≤ x.room (taskStruct d) d.safety ∧ (isBlock d
    = true → s.areasFit p d.stream = true) ∧ isBlock d = true :=
  ⟨tDev 1 .opened, 63, 15, { tTask with phase := 5, op := .block }, 0, _, _, .stackDma,
    by refine ⟨?_, ?_, ?_, ?_, rfl, ?_, rfl, ?_⟩ <;> decide +kernel⟩

theorem test_meets_TaskOffers_2 : ∃ (s : State) (p cyc : Nat) (d : TaskDesc) (t : Nat) (x : Scheduler) (h : Held) (q
    : Producer), p < 64 ∧ s.clusters.length = 64 ∧ s.stks.length = 4 ∧ d.wf = true ∧ h = ⟨x.nextEntry, if 0 <
    d.tokens then d else { d with age := x.age % 65536 }, taskStruct d, taskStruct d⟩ ∧ (q = Producer.ownCluster ∨ q
    = Producer.stackDma) ∧ x = (s.cl p).sched.inCycle cyc rankToken ∧ (s.at t).offerDue p cyc q = true ∧ (s.at
    t).barred p d = false ∧ s.misplaced p d = false ∧ x.room (taskStruct d) d.safety < 1 + d.succExtra ∧
    s.frame.conf.exact = false :=
  ⟨tClu 63 { sched := { rl := List.replicate 63 (tHeld tTask 1) } } (tDev 1 .opened), 63, 15, tTask, 0, _, _,
    .stackDma, by refine ⟨?_, ?_, ?_, ?_, rfl, ?_, rfl, ?_⟩ <;> decide +kernel⟩

theorem test_meets_TaskOffers_3 : ∃ (s : State) (p cyc : Nat) (d : TaskDesc) (t : Nat) (x : Scheduler) (h : Held), p
    < 64 ∧ s.clusters.length = 64 ∧ s.stks.length = 4 ∧ d.wf = true ∧ h = ⟨x.nextEntry, if 0 < d.tokens then d else
    { d with age := x.age % 65536 }, taskStruct d, taskStruct d⟩ ∧ x = (s.cl p).sched.inCycle cyc rankDispatcher ∧
    (s.at t).offerDue p cyc Producer.dispatcher = true ∧ (s.at t).barred p d = false ∧ s.frame.conf.exact = false ∧
    (s.stk (p / 16)).dispatcher = [] ∧ d ∉ (s.stk (p / 16)).taskList ∧ s.firstChoice (p / 16) d = some p ∧ (1 +
    d.succExtra ≤ x.room (taskStruct d) d.safety ∧ (isBlock d = true → s.areasFit p d.stream = true) ∧ (d.safety =
    true ∨ s.pinnedNow d = true ∨ 0 < x.room 1 false)) :=
  ⟨tDev 1 .opened, 63, 15, tStop, 0, _, _, by refine ⟨?_, ?_, ?_, ?_, rfl, rfl, ?_⟩ <;> decide +kernel⟩

theorem test_meets_TaskOffers_4 : ∃ (s : State) (p cyc : Nat) (d : TaskDesc) (t : Nat) (x : Scheduler) (h : Held), p
    < 64 ∧ s.clusters.length = 64 ∧ s.stks.length = 4 ∧ d.wf = true ∧ h = ⟨x.nextEntry, if 0 < d.tokens then d else
    { d with age := x.age % 65536 }, taskStruct d, taskStruct d⟩ ∧ x = (s.cl p).sched.inCycle cyc rankDispatcher ∧
    (s.at t).offerDue p cyc Producer.dispatcher = true ∧ (s.at t).barred p d = false ∧ s.frame.conf.exact = false ∧
    (s.stk (p / 16)).dispatcher = [] ∧ d ∉ (s.stk (p / 16)).taskList ∧ s.firstChoice (p / 16) d = some p ∧ x.room
    (taskStruct d) d.safety < 1 + d.succExtra :=
  ⟨tClu 63 { sched := { rl := List.replicate 63 (tHeld tTask 1) } } (tDev 1 .opened), 63, 15, tStop, 0, _, _,
    by refine ⟨?_, ?_, ?_, ?_, rfl, rfl, ?_⟩ <;> decide +kernel⟩

theorem test_meets_TaskOffers_5 : ∃ (s : State) (p cyc : Nat) (d : TaskDesc) (x : Scheduler) (h : Held), p < 64 ∧
    s.clusters.length = 64 ∧ s.stks.length = 4 ∧ d.wf = true ∧ h = ⟨x.nextEntry, if 0 < d.tokens then d else
    { d with age := x.age % 65536 }, taskStruct d, taskStruct d⟩ ∧ ((s.cl p).gate = Gate.powerGated ∨ s.frame.phase
    = Phase.guarded ∨ s.frame.phase = Phase.closed ∨ cyc % 16 ≠ p % 16 ∨ s.enabled p = false) :=
  ⟨tDev 1 .opened, 63, 0, tTask, {}, _, by refine ⟨?_, ?_, ?_, ?_, rfl, ?_⟩ <;> decide +kernel⟩

theorem test_meets_TaskOffers_5b : ∃ (s : State) (p cyc : Nat) (d : TaskDesc) (x : Scheduler) (h : Held), p < 64 ∧
    s.clusters.length = 64 ∧ s.stks.length = 4 ∧ d.wf = true ∧ h = ⟨x.nextEntry, if 0 < d.tokens then d else
    { d with age := x.age % 65536 }, taskStruct d, taskStruct d⟩ ∧ ((s.cl p).gate = Gate.powerGated ∨ s.frame.phase
    = Phase.guarded ∨ s.frame.phase = Phase.closed ∨ cyc % 16 ≠ p % 16 ∨ s.enabled p = false) ∧ s.frame.phase =
    Phase.guarded :=
  ⟨tDev 1 .guarded, 63, 15, tTask, {}, _, by refine ⟨?_, ?_, ?_, ?_, rfl, ?_⟩ <;> decide +kernel⟩

theorem test_meets_TaskOffers_5c : ∃ (s : State) (p cyc : Nat) (d : TaskDesc) (x : Scheduler) (h : Held), p < 64 ∧
    s.clusters.length = 64 ∧ s.stks.length = 4 ∧ d.wf = true ∧ h = ⟨x.nextEntry, if 0 < d.tokens then d else
    { d with age := x.age % 65536 }, taskStruct d, taskStruct d⟩ ∧ ((s.cl p).gate = Gate.powerGated ∨ s.frame.phase
    = Phase.guarded ∨ s.frame.phase = Phase.closed ∨ cyc % 16 ≠ p % 16 ∨ s.enabled p = false) ∧ s.frame.phase =
    Phase.closed :=
  ⟨tDev 1 .closed, 63, 15, tTask, {}, _, by refine ⟨?_, ?_, ?_, ?_, rfl, ?_⟩ <;> decide +kernel⟩

theorem test_meets_TaskOffers_5d : ∃ (s : State) (p cyc : Nat) (d : TaskDesc) (x : Scheduler) (h : Held), p < 64 ∧
    s.clusters.length = 64 ∧ s.stks.length = 4 ∧ d.wf = true ∧ h = ⟨x.nextEntry, if 0 < d.tokens then d else
    { d with age := x.age % 65536 }, taskStruct d, taskStruct d⟩ ∧ ((s.cl p).gate = Gate.powerGated ∨ s.frame.phase
    = Phase.guarded ∨ s.frame.phase = Phase.closed ∨ cyc % 16 ≠ p % 16 ∨ s.enabled p = false) ∧ (s.cl p).gate =
    Gate.powerGated :=
  ⟨tClu 63 { gate := .powerGated } (tDev 1 .opened), 63, 15, tTask, {}, _,
    by refine ⟨?_, ?_, ?_, ?_, rfl, ?_⟩ <;> decide +kernel⟩

theorem test_meets_TaskOffers_5e : ∃ (s : State) (p cyc : Nat) (d : TaskDesc) (x : Scheduler) (h : Held), p < 64 ∧
    s.clusters.length = 64 ∧ s.stks.length = 4 ∧ d.wf = true ∧ h = ⟨x.nextEntry, if 0 < d.tokens then d else
    { d with age := x.age % 65536 }, taskStruct d, taskStruct d⟩ ∧ ((s.cl p).gate = Gate.powerGated ∨ s.frame.phase
    = Phase.guarded ∨ s.frame.phase = Phase.closed ∨ cyc % 16 ≠ p % 16 ∨ s.enabled p = false) ∧ s.enabled p = false
    :=
  ⟨tDev 1 .opened { part := { dum := { disabled := 2 ^ 63 } } }, 63, 15, tTask, {}, _,
    by refine ⟨?_, ?_, ?_, ?_, rfl, ?_⟩ <;> decide +kernel⟩

theorem test_meets_TokensUnitsDelays_1 : ∃ (s : State) (p e cyc : Nat) (h : Held) (dma : DmaDesc) (t : Nat) (x :
    Scheduler), p < 64 ∧ s.clusters.length = 64 ∧ s.stks.length = 4 ∧ dma.wf = true ∧ s.enabled p = true ∧ x = (s.cl
    p).sched.inCycle cyc rankToken ∧ cyc % 16 = p % 16 ∧ s.cycleDue p cyc rankToken = true ∧ (s.at t).removalDue =
    false ∧ (p, e) ∉ (s.stk (p / 16)).dmaTokensHeld ∧ (s.at t).dmaOpen p dma = true ∧ s.badAddress
    (Requester.stackDma (p / 16)) false dma.src dma.len = none ∧ s.badAddress (Requester.stackDma (p / 16)) true
    (scratchAddr p dma.off) dma.len = none ∧ x.ms.find? (fun y => y.entry == e) = some h ∧ 1 < h.task.tokens :=
  ⟨tClu 63 { sched := { ms := [tHeld { tTask with tokens := 2 } 0] } } (tDev 1 .opened), 63, 8, 15, tHeld
    { tTask with tokens := 2 } 0, ⟨0xBFFFFFFC0, 0x3FFFC0, 64⟩, 0, _,
    by refine ⟨?_, ?_, ?_, ?_, ?_, rfl, ?_⟩ <;> decide +kernel⟩

theorem test_meets_TokensUnitsDelays_1b : ∃ (s : State) (p e cyc : Nat) (h : Held) (dma : DmaDesc) (t : Nat) (x :
    Scheduler), p < 64 ∧ s.clusters.length = 64 ∧ s.stks.length = 4 ∧ dma.wf = true ∧ s.enabled p = true ∧ x = (s.cl
    p).sched.inCycle cyc rankToken ∧ cyc % 16 = p % 16 ∧ s.cycleDue p cyc rankToken = true ∧ (s.at t).removalDue =
    false ∧ (p, e) ∉ (s.stk (p / 16)).dmaTokensHeld ∧ (s.at t).dmaOpen p dma = true ∧ s.badAddress
    (Requester.stackDma (p / 16)) false dma.src dma.len = none ∧ s.badAddress (Requester.stackDma (p / 16)) true
    (scratchAddr p dma.off) dma.len = none ∧ x.ms.find? (fun y => y.entry == e) = some h ∧ h.task.tokens = 1 ∧
    h.task.release = 0 ∧ (h.seat = 1 ∨ 0 < x.room 1 h.task.safety) :=
  ⟨tClu 63 { sched := { ms := [tHeld { tTask with tokens := 1 } 0] } } (tDev 1 .opened), 63, 8, 15, tHeld
    { tTask with tokens := 1 } 0, ⟨0xBFFFFFFC0, 0x3FFFC0, 64⟩, 0, _,
    by refine ⟨?_, ?_, ?_, ?_, ?_, rfl, ?_⟩ <;> decide +kernel⟩

theorem test_meets_TokensUnitsDelays_1c : ∃ (s : State) (p e cyc : Nat) (h : Held) (dma : DmaDesc) (t : Nat) (x :
    Scheduler), p < 64 ∧ s.clusters.length = 64 ∧ s.stks.length = 4 ∧ dma.wf = true ∧ s.enabled p = true ∧ x = (s.cl
    p).sched.inCycle cyc rankToken ∧ cyc % 16 = p % 16 ∧ s.cycleDue p cyc rankToken = true ∧ (s.at t).removalDue =
    false ∧ (p, e) ∉ (s.stk (p / 16)).dmaTokensHeld ∧ (s.at t).dmaOpen p dma = true ∧ s.badAddress
    (Requester.stackDma (p / 16)) false dma.src dma.len = none ∧ s.badAddress (Requester.stackDma (p / 16)) true
    (scratchAddr p dma.off) dma.len = none ∧ x.ms.find? (fun y => y.entry == e) = some h ∧ h.task.tokens = 1 ∧
    h.task.release = 0 ∧ h.seat ≠ 1 ∧ x.room 1 h.task.safety = 0 ∧ s.frame.conf.exact = false :=
  ⟨tClu 63 { sched := { ms := [tHeld { tTask with tokens := 1 } 0], rl := List.replicate 63 (tHeld tTask 1) } }
    (tDev 1 .opened), 63, 8, 15, tHeld { tTask with tokens := 1 } 0, ⟨0xBFFFFFFC0, 0x3FFFC0, 64⟩, 0, _,
    by refine ⟨?_, ?_, ?_, ?_, ?_, rfl, ?_⟩ <;> decide +kernel⟩

theorem test_meets_TokensUnitsDelays_1d : ∃ (s : State) (p e cyc : Nat) (dma : DmaDesc) (t : Nat) (x : Scheduler), p
    < 64 ∧ s.clusters.length = 64 ∧ s.stks.length = 4 ∧ dma.wf = true ∧ s.enabled p = true ∧ x = (s.cl
    p).sched.inCycle cyc rankToken ∧ cyc % 16 = p % 16 ∧ s.cycleDue p cyc rankToken = true ∧ (s.at t).removalDue =
    false ∧ (p, e) ∉ (s.stk (p / 16)).dmaTokensHeld ∧ (s.at t).dmaOpen p dma = true ∧ s.badAddress
    (Requester.stackDma (p / 16)) false dma.src dma.len = none ∧ s.badAddress (Requester.stackDma (p / 16)) true
    (scratchAddr p dma.off) dma.len = none ∧ x.ms.find? (fun y => y.entry == e) = none :=
  ⟨tDev 1 .opened, 63, 8, 15, ⟨0xBFFFFFFC0, 0x3FFFC0, 64⟩, 0, _,
    by refine ⟨?_, ?_, ?_, ?_, ?_, rfl, ?_⟩ <;> decide +kernel⟩

theorem test_meets_TokensUnitsDelays_2 : ∃ (s : State) (p : Nat) (dma : DmaDesc), p < 64 ∧ s.clusters.length = 64 ∧
    s.stks.length = 4 ∧ dma.wf = true ∧ s.enabled p = true ∧ s.safety.latch.length < 32 :=
  ⟨tDev 1 .opened, 63, ⟨0xBFFFFFFC0, 0x3FFFC0, 64⟩, by decide +kernel⟩

theorem test_meets_TokensUnitsDelays_3 : ∃ (s : State) (p : Nat) (dma : DmaDesc), p < 64 ∧ s.clusters.length = 64 ∧
    s.stks.length = 4 ∧ dma.wf = true ∧ s.enabled p = false ∧ s.safety.latch.length < 32 :=
  ⟨{ part := { dum := { disabled := 2 ^ 63 } } }, 63, ⟨0xBFFFFFFC0, 0x3FFFC0, 64⟩, by decide +kernel⟩

theorem test_meets_TokensUnitsDelays_4 : ∃ (s : State) (p unit : Nat) (h : Held) (dma : DmaDesc) (t : Nat), p < 64 ∧
    s.clusters.length = 64 ∧ s.stks.length = 4 ∧ dma.wf = true ∧ unit < 6 ∧ s.enabled p = true ∧ (s.cl p).gate ≠
    Gate.powerGated ∧ s.frame.phase ≠ Phase.guarded ∧ (s.cl p).halted = false ∧ (s.cl p).sched.firstFor unit = some
    h ∧ (s.at t).barred p h.task = false ∧ (∀ y ∈ (s.cl p).sched.running, y.1 ≠ unit) :=
  ⟨tClu 63 { sched := { rl := [tHeld tTask 1] } } (tDev 1 .opened), 63, 5, tHeld tTask 1, ⟨0xBFFFFFFC0, 0x3FFFC0,
    64⟩, 0, by decide +kernel⟩

theorem test_meets_TokensUnitsDelays_6 : ∃ (s : State) (p unit : Nat) (h : Held) (dma : DmaDesc) (t : Nat), p < 64 ∧
    s.clusters.length = 64 ∧ s.stks.length = 4 ∧ dma.wf = true ∧ unit < 6 ∧ s.enabled p = true ∧ (s.cl p).gate ≠
    Gate.powerGated ∧ s.frame.phase ≠ Phase.guarded ∧ (s.cl p).halted = false ∧ (s.cl p).sched.firstFor unit = some
    h ∧ (s.at t).barred p h.task = false ∧ (∀ y ∈ (s.cl p).sched.running, y.1 ≠ unit) ∧ s.safety.latch.length < 32
    :=
  ⟨tClu 63 { sched := { rl := [tHeld tTask 1] } } (tDev 1 .opened), 63, 5, tHeld tTask 1, ⟨0xBFFFFFFC0, 0x3FFFC0,
    64⟩, 0, by decide +kernel⟩

theorem test_meets_TokensUnitsDelays_7 : ∃ (s : State) (p e cyc : Nat) (h : Held) (dma : DmaDesc) (t : Nat) (x :
    Scheduler), p < 64 ∧ s.clusters.length = 64 ∧ s.stks.length = 4 ∧ dma.wf = true ∧ x = (s.cl p).sched.inCycle cyc
    rankRelease ∧ s.cycleDue p cyc rankRelease = true ∧ List.find? (fun y => y.entry == e) x.dl = some h ∧
    x.firstDelayed h.task.safety = some h ∧ s.frame.openTime + h.task.release * ticksPerUs ≤ max s.time.now t ∧
    (h.seat = 1 ∨ 0 < x.room 1 h.task.safety) :=
  ⟨tClu 63 { sched := { dl := [tHeld { tTask with release := 10 } 2] } } (tDev 1 .opened), 63, 8, 15, tHeld
    { tTask with release := 10 } 2, ⟨0xBFFFFFFC0, 0x3FFFC0, 64⟩, 2000, _,
    by refine ⟨?_, ?_, ?_, ?_, rfl, ?_⟩ <;> decide +kernel⟩

theorem test_meets_TokensUnitsDelays_8 : ∃ (s : State) (p e cyc : Nat) (h : Held) (dma : DmaDesc) (t : Nat) (x :
    Scheduler), p < 64 ∧ s.clusters.length = 64 ∧ s.stks.length = 4 ∧ dma.wf = true ∧ x = (s.cl p).sched.inCycle cyc
    rankRelease ∧ s.cycleDue p cyc rankRelease = true ∧ List.find? (fun y => y.entry == e) x.dl = some h ∧
    x.firstDelayed h.task.safety = some h ∧ max s.time.now t < s.frame.openTime + h.task.release * ticksPerUs :=
  ⟨tClu 63 { sched := { dl := [tHeld { tTask with release := 10 } 2] } } (tDev 1 .opened), 63, 8, 15, tHeld
    { tTask with release := 10 } 2, ⟨0xBFFFFFFC0, 0x3FFFC0, 64⟩, 1999, _,
    by refine ⟨?_, ?_, ?_, ?_, rfl, ?_⟩ <;> decide +kernel⟩

theorem test_meets_CompletionAndWaking_1 : ∃ (s : State) (p k unit cyc : Nat) (h : Held) (ns : List TaskDesc) (t :
    Nat), p < 64 ∧ k < 4 ∧ unit < 6 ∧ s.clusters.length = 64 ∧ s.stks.length = 4 ∧ (∀ n ∈ ns, n.wf = true) ∧
    List.find? (fun x => x.1 == unit) (s.cl p).sched.running = some (unit, h) ∧ s.cycleDue p cyc unit = true ∧ (s.at
    t).removalDue = false ∧ ns ≠ [] ∧ (∀ n ∈ ns, n.tokens = 0 ∧ n.release = 0 ∧ n.succExtra = 0) :=
  ⟨tClu 63 { sched := { running := [(5, tHeld tTask 1)] } } (tDev 1 .opened), 63, 3, 5, 15, tHeld tTask 1, [tTask],
    0, by decide +kernel⟩

theorem test_meets_CompletionAndWaking_2 : ∃ (s : State) (p k unit cyc : Nat) (h : Held) (ns : List TaskDesc) (t :
    Nat), p < 64 ∧ k < 4 ∧ unit < 6 ∧ s.clusters.length = 64 ∧ s.stks.length = 4 ∧ (∀ n ∈ ns, n.wf = true) ∧
    List.find? (fun x => x.1 == unit) (s.cl p).sched.running = some (unit, h) ∧ s.cycleDue p cyc unit = true ∧ (s.at
    t).removalDue = false ∧ ns ≠ [] ∧ (∀ n ∈ ns, n.tokens = 0 ∧ n.release = 0 ∧ n.succExtra = 0) :=
  ⟨tClu 63 { sched := { running := [(5, tHeld tTask 1)] } } (tDev 1 .opened), 63, 3, 5, 15, tHeld tTask 1, [tTask],
    0, by decide +kernel⟩

theorem test_meets_CompletionAndWaking_3 : ∃ (s : State) (p k unit cyc : Nat) (h : Held) (ns : List TaskDesc) (t :
    Nat), p < 64 ∧ k < 4 ∧ unit < 6 ∧ s.clusters.length = 64 ∧ s.stks.length = 4 ∧ (∀ n ∈ ns, n.wf = true) ∧
    List.find? (fun x => x.1 == unit) (s.cl p).sched.running = some (unit, h) ∧ s.cycleDue p cyc unit = true ∧ (s.at
    t).removalDue = false ∧ s.safety.latch.length < 32 :=
  ⟨tClu 63 { sched := { running := [(5, tHeld tTask 1)] } } (tDev 1 .opened), 63, 3, 5, 15, tHeld tTask 1, [], 0,
    by decide +kernel⟩

theorem test_meets_CompletionAndWaking_4 : ∃ (s : State) (p k unit : Nat) (ns : List TaskDesc), p < 64 ∧ k < 4 ∧
    unit < 6 ∧ s.clusters.length = 64 ∧ s.stks.length = 4 ∧ (∀ n ∈ ns, n.wf = true) ∧ List.find? (fun x => x.1 ==
    unit) (s.cl p).sched.running = none :=
  ⟨tDev 1 .opened, 63, 3, 5, [], by decide +kernel⟩

theorem test_meets_CompletionAndWaking_5 : ∃ (s : State) (p k unit : Nat) (ns : List TaskDesc) (t : Nat), p < 64 ∧ k
    < 4 ∧ unit < 6 ∧ s.clusters.length = 64 ∧ s.stks.length = 4 ∧ (∀ n ∈ ns, n.wf = true) ∧ s.enabled p = true ∧
    (s.cl p).gate = Gate.powerGated ∧ (s.stk (p / 16)).pllStopped = false ∧ (if s.frame.conf.exact = true then (s.at
    t).gatingGap p = none else (s.at t).nextNeed p ≤ max s.time.now t + 2 * ticksPerUs) :=
  ⟨tClu 63 { gate := .powerGated } { stks := List.replicate 4 { pllStopped := false } }, 63, 3, 5, [], 29600,
    by decide +kernel⟩

theorem test_meets_CompletionAndWaking_6 : ∃ (s : State) (p k unit : Nat) (ns : List TaskDesc), p < 64 ∧ k < 4 ∧
    unit < 6 ∧ s.clusters.length = 64 ∧ s.stks.length = 4 ∧ (∀ n ∈ ns, n.wf = true) ∧ ((s.cl p).gate ≠
    Gate.powerGated ∨ (s.stk (p / 16)).pllStopped = true) :=
  ⟨{}, 63, 3, 5, [], by decide +kernel⟩

theorem test_meets_CompletionAndWaking_7 : ∃ (s : State) (p k unit : Nat) (ns : List TaskDesc) (t : Nat), p < 64 ∧ k
    < 4 ∧ unit < 6 ∧ s.clusters.length = 64 ∧ s.stks.length = 4 ∧ (∀ n ∈ ns, n.wf = true) ∧ (s.stk k).pllStopped =
    true ∧ (s.stk k).hubOnly = false ∧ (∃ q ∈ s.enabledIn k, (s.at t).nextNeed q ≤ max s.time.now t + 10 *
    ticksPerUs) :=
  ⟨{ stks := List.replicate 4 { hubOnly := false } }, 63, 3, 5, [], 0, by decide +kernel⟩

theorem test_meets_CompletionAndWaking_8 : ∃ (s : State) (p k unit e : Nat) (ns : List TaskDesc), p < 64 ∧ k < 4 ∧
    unit < 6 ∧ s.clusters.length = 64 ∧ s.stks.length = 4 ∧ (∀ n ∈ ns, n.wf = true) ∧ s.safety.latch.length < 32 ∧ e
    < 19 :=
  ⟨{}, 63, 3, 5, 18, [], by decide +kernel⟩

theorem test_meets_ProposalAndCost_1 : ∃ (s : State) (id p : Nat) (x : Stream) (t : Nat) (e : Option Nat), p < 64 ∧
    id < 512 ∧ s.clusters.length = 64 ∧ s.stream? id = some x ∧ s.working = true ∧ (s.at t).takesWork p = true ∧ p /
    16 = (s.binding x).wid % 4 ∧ s.works x = true ∧ s.contextTask p x = some e :=
  ⟨tClu 15 { sched := tDo .context } (tWorking tWork), 0, 15, tWork, 0, some 8, by decide +kernel⟩

theorem test_meets_ProposalAndCost_2 : ∃ (s : State) (id p : Nat) (x : Stream), p < 64 ∧ id < 512 ∧
    s.clusters.length = 64 ∧ s.stream? id = some x ∧ (s.works x = false ∨ s.working = false ∨ s.contextTask p x =
    none) ∧ s.works x = false :=
  ⟨tWorking { tWork with query := none }, 0, 15, { tWork with query := none }, by decide +kernel⟩

theorem test_meets_ProposalAndCost_2b : ∃ (s : State) (id p : Nat) (x : Stream), p < 64 ∧ id < 512 ∧
    s.clusters.length = 64 ∧ s.stream? id = some x ∧ (s.works x = false ∨ s.working = false ∨ s.contextTask p x =
    none) ∧ s.contextTask p x = none :=
  ⟨tWorking tWork, 0, 15, tWork, by decide +kernel⟩

theorem test_meets_ProposalAndCost_3 : ∃ (s : State) (id p : Nat) (x : Stream) (t i base e : Nat), p < 64 ∧ id < 512
    ∧ s.clusters.length = 64 ∧ s.stream? id = some x ∧ s.nextBlock p x false x.blocksDone (lookupD 0 id (s.cl
    p).blocks) = some i ∧ (s.cl p).toMake (if i = 0 then TaskOp.firstBlock else TaskOp.block) (s.wireId id) = some e
    ∧ base = s.localBase p id false i ∧ (s.at t).blockDue p (s.binding x) x base = true ∧ i < x.blocks :=
  ⟨tClu 15 { sched := tDo .block, contexts := [(0, [])] } (tWorking tNext), 0, 15, tNext, 0, 1, _, 8,
    by refine ⟨?_, ?_, ?_, ?_, ?_, ?_, rfl, ?_⟩ <;> decide +kernel⟩

theorem test_meets_ProposalAndCost_4 : ∃ (s : State) (id p : Nat) (x : Stream) (t : Nat) (plan : Plan) (w : Nat ×
    Nat) (i base e : Nat), p < 64 ∧ id < 512 ∧ s.clusters.length = 64 ∧ s.stream? id = some x ∧ x.carried = some
    plan ∧ x.repairWindow = some w ∧ s.nextBlock p x true x.repairDone (lookupD 0 id (s.cl p).repairsAccepted) =
    some i ∧ (s.cl p).toMake TaskOp.repairBlock (s.wireId id) = some e ∧ base = s.localBase p id true i ∧ (s.at
    t).blockDue p (s.binding x) x base = true ∧ i < (s.binding x).set.repairBlocks :=
  ⟨tClu 15 { sched := tDo .repairBlock, contexts := [(0, [])] } (tWorking tFix), 0, 15, tFix, 0, tPlan, (0, 1), 0,
    _, 8, by refine ⟨?_, ?_, ?_, ?_, ?_, ?_, ?_, ?_, rfl, ?_⟩ <;> decide +kernel⟩

theorem test_meets_ProposalAndCost_5 : ∃ (s : State) (id p g : Nat) (x : Stream) (t : Nat) (c : Cand), p < 64 ∧ id <
    512 ∧ s.clusters.length = 64 ∧ s.stream? id = some x ∧ s.working = true ∧ (s.at t).takesWork p = true ∧ ((s.cl
    p).cand? id g fun k => k.wantsCost 0) = some c :=
  ⟨tOn { tCand with check := some tVer }, 0, 15, 7, tWork, 0, { tCand with check := some tVer }, by decide +kernel⟩

theorem test_meets_ProposalAndCost_6 : ∃ (s : State) (id p g : Nat) (x : Stream) (t : Nat) (c : Cand), p < 64 ∧ id <
    512 ∧ s.clusters.length = 64 ∧ s.stream? id = some x ∧ s.working = true ∧ (s.at t).takesWork p = true ∧ ((s.cl
    p).cand? id g fun k => k.wantsCost 1) = some c :=
  ⟨tOn { tCand with recheck := some tVer }, 0, 15, 7, tWork, 0, { tCand with recheck := some tVer },
    by decide +kernel⟩

theorem test_meets_ProposalAndCost_7 : ∃ (s : State) (id p : Nat) (x : Stream) (t : Nat), p < 64 ∧ id < 512 ∧
    s.clusters.length = 64 ∧ s.stream? id = some x ∧ s.working = true ∧ (s.at t).takesWork p = true ∧ s.allAccepted
    x = true ∧ (s.cl p).cutReady id (s.binding x).wid = true ∧ id ∉ (s.cl p).cutDone ∧ (∃ k ∈ (s.cl p).cands,
    k.stream = id ∧ k.origin < 2) :=
  ⟨tClu 15 { cands := [{ tCand with check := some tVer, cost0 := some 0 }] } (tWorking tDone), 0, 15, tDone, 0,
    by decide +kernel⟩

theorem test_meets_VerdictsAndStreamOperations_1 : ∃ (s : State) (id p g e : Nat) (x : Stream) (c : Cand) (t : Nat),
    p < 64 ∧ id < 512 ∧ s.clusters.length = 64 ∧ s.stream? id = some x ∧ s.working = true ∧ (s.at t).sweeps p = true
    ∧ (s.cl p).cand? id g Cand.wantsCheck = some c ∧ s.latch TaskOp.check id g = some e ∧ (s.cl p).flying 0 id g =
    false ∧ (∀ n ∈ ((s.at t).checkRun x c e).needs, (s.cl p).ready n = true) :=
  ⟨tKnown tCand, 0, 15, 7, 0, tWork, tCand, 0, by decide +kernel⟩

theorem test_meets_VerdictsAndStreamOperations_2 : ∃ (s : State) (id p g e : Nat) (x : Stream) (c : Cand) (t : Nat),
    p < 64 ∧ id < 512 ∧ s.clusters.length = 64 ∧ s.stream? id = some x ∧ s.working = true ∧ (s.at t).sweeps p = true
    ∧ (s.cl p).cand? id g Cand.wantsCheck = some c ∧ s.latch TaskOp.check id g = some e ∧ (s.cl p).flying 0 id g =
    false ∧ (∃ n ∈ ((s.at t).checkRun x c e).needs, (s.cl p).ready n = false) :=
  ⟨tOn tCand tArm, 0, 15, 7, 0, tWork, tCand, 0, by decide +kernel⟩

theorem test_meets_VerdictsAndStreamOperations_3 : ∃ (s : State) (id p g e : Nat) (x : Stream) (c : Cand) (t : Nat),
    p < 64 ∧ id < 512 ∧ s.clusters.length = 64 ∧ s.stream? id = some x ∧ s.working = true ∧ (s.at t).sweeps p = true
    ∧ (s.cl p).cand? id g Cand.wantsRecheck = some c ∧ s.latch TaskOp.recheck id g = some e ∧ (s.cl p).flying 1 id g
    = false ∧ (c.origin = 2 → (s.cl p).runs TaskOp.carriedRecheck (s.wireId id) = true) ∧ (∀ n ∈ ((s.at
    t).recheckRun x c e).needs, (s.cl p).ready n = true) :=
  ⟨tKnown { tCand with tsDone := true }, 0, 15, 7, 0, tWork, { tCand with tsDone := true }, 0, by decide +kernel⟩

theorem test_meets_VerdictsAndStreamOperations_3b : ∃ (s : State) (id p g e : Nat) (x : Stream) (c : Cand) (t : Nat),
    p < 64 ∧ id < 512 ∧ s.clusters.length = 64 ∧ s.stream? id = some x ∧ s.working = true ∧ (s.at t).sweeps p = true
    ∧ (s.cl p).cand? id g Cand.wantsRecheck = some c ∧ s.latch TaskOp.recheck id g = some e ∧ (s.cl p).flying 1 id g
    = false ∧ (c.origin = 2 → (s.cl p).runs TaskOp.carriedRecheck (s.wireId id) = true) ∧ (∀ n ∈ ((s.at
    t).recheckRun x c e).needs, (s.cl p).ready n = true) ∧ c.origin = 2 :=
  ⟨tReady .carriedRecheck tWork [{ tCand with tsDone := true, origin := 2 }], 0, 15, 7, 0, tWork,
    { tCand with tsDone := true, origin := 2 }, 0, by decide +kernel⟩

theorem test_meets_VerdictsAndStreamOperations_4 : ∃ (s : State) (id p g e : Nat) (x : Stream) (c : Cand) (t : Nat),
    p < 64 ∧ id < 512 ∧ s.clusters.length = 64 ∧ s.stream? id = some x ∧ s.working = true ∧ (s.at t).sweeps p = true
    ∧ (s.cl p).cand? id g Cand.wantsRecheck = some c ∧ s.latch TaskOp.recheck id g = some e ∧ (s.cl p).flying 1 id g
    = false ∧ (c.origin = 2 → (s.cl p).runs TaskOp.carriedRecheck (s.wireId id) = true) ∧ (∃ n ∈ ((s.at
    t).recheckRun x c e).needs, (s.cl p).ready n = false) :=
  ⟨tOn { tCand with tsDone := true } tArm, 0, 15, 7, 0, tWork, { tCand with tsDone := true }, 0, by decide +kernel⟩

theorem test_meets_VerdictsAndStreamOperations_5 : ∃ (s : State) (id p g e : Nat) (x : Stream) (c : Cand) (t : Nat),
    p < 64 ∧ id < 512 ∧ s.clusters.length = 64 ∧ s.stream? id = some x ∧ s.working = true ∧ (s.at t).sweeps p = true
    ∧ (s.cl p).cand? id g Cand.wantsProbe = some c ∧ s.latch TaskOp.timeScale id g = some e ∧ (s.cl p).flying 4 id g
    = false ∧ (∀ n ∈ ((s.at t).probeRun x c e).2.needs, (s.cl p).ready n = true) :=
  ⟨tKnown { tCand with tmProv := some [] }, 0, 15, 7, 0, tWork, { tCand with tmProv := some [] }, 0,
    by decide +kernel⟩

theorem test_meets_VerdictsAndStreamOperations_6 : ∃ (s : State) (id p g e : Nat) (x : Stream) (c : Cand) (t : Nat),
    p < 64 ∧ id < 512 ∧ s.clusters.length = 64 ∧ s.stream? id = some x ∧ s.working = true ∧ (s.at t).sweeps p = true
    ∧ (s.cl p).cand? id g Cand.wantsProbe = some c ∧ s.latch TaskOp.timeScale id g = some e ∧ (s.cl p).flying 4 id g
    = false ∧ (∃ n ∈ ((s.at t).probeRun x c e).2.needs, (s.cl p).ready n = false) :=
  ⟨tOn { tCand with tmProv := some [] } tArm, 0, 15, 7, 0, tWork, { tCand with tmProv := some [] }, 0,
    by decide +kernel⟩

theorem test_meets_VerdictsAndStreamOperations_7 : ∃ (s : State) (id p g : Nat) (x : Stream) (t : Nat), p < 64 ∧ id
    < 512 ∧ s.clusters.length = 64 ∧ s.stream? id = some x ∧ s.working = true ∧ (s.at t).sweeps p = true ∧ (s.cl
    p).cand? id g Cand.wantsCheck = none :=
  ⟨tWorking tWork, 0, 15, 7, tWork, 0, by decide +kernel⟩

theorem test_meets_VerdictsAndStreamOperations_8 : ∃ (s : State) (id p e : Nat) (x : Stream) (t : Nat) (plan : Plan)
    (run : Nat × Nat) (rest : List (Nat × Nat)), id < 512 ∧ p < 64 ∧ s.clusters.length = 64 ∧ s.stream? id = some x
    ∧ x.block0 = some p ∧ x.carried = some plan ∧ x.repairRuns = run :: rest ∧ s.working = true ∧ s.works x = true ∧
    (s.at t).sweeps p = true ∧ s.latch TaskOp.repair id x.repairRuns.length = some e ∧ (s.cl p).flying 2 id plan.g =
    false ∧ (s.cl p).runs TaskOp.repair (s.wireId id) = true ∧ (∀ n ∈ ((s.at t).repairRun x plan run e).needs, (s.cl
    p).ready n = true) :=
  ⟨tReady .repair tRep, 0, 15, 0, tRep, 0, tPlan, (0, 1), [], by decide +kernel⟩

theorem test_meets_VerdictsAndStreamOperations_9 : ∃ (s : State) (id p e : Nat) (x : Stream) (t : Nat) (plan : Plan)
    (run : Nat × Nat) (rest : List (Nat × Nat)), id < 512 ∧ p < 64 ∧ s.clusters.length = 64 ∧ s.stream? id = some x
    ∧ x.block0 = some p ∧ x.carried = some plan ∧ x.repairRuns = run :: rest ∧ s.working = true ∧ s.works x = true ∧
    (s.at t).sweeps p = true ∧ s.latch TaskOp.repair id x.repairRuns.length = some e ∧ (s.cl p).flying 2 id plan.g =
    false ∧ (s.cl p).runs TaskOp.repair (s.wireId id) = true ∧ (∃ n ∈ ((s.at t).repairRun x plan run e).needs, (s.cl
    p).ready n = false) :=
  ⟨tClu 15 { sched := tDo .repair } (tWorking tRep tArm), 0, 15, 0, tRep, 0, tPlan, (0, 1), [], by decide +kernel⟩

theorem test_meets_VerdictsAndStreamOperations_10 : ∃ (s : State) (id p e : Nat) (x : Stream) (t : Nat), id < 512 ∧
    p < 64 ∧ s.clusters.length = 64 ∧ s.stream? id = some x ∧ x.block0 = some p ∧ x.stopPending = true ∧ s.works x =
    true ∧ (s.cl p).runs TaskOp.stop (s.wireId id) = true ∧ (s.at t).sweeps p = true ∧ s.gridRuns = true ∧
    s.frame.reverifyClosed = false ∧ (s.frame.phase = Phase.afterCutoff ∨ s.frame.phase = Phase.afterHarvest) ∧
    s.latch TaskOp.stop id 0 = some e ∧ (s.cl p).flying 3 id 0 = false ∧ (∀ n ∈ ((s.at t).stopRun x (max e
    x.stopEpoch)).needs, (s.cl p).ready n = true) :=
  ⟨tReady .stop ({ tWork with block0 := some 15, stopPending := true }), 0, 15, 0,
    { tWork with block0 := some 15, stopPending := true }, 0, by decide +kernel⟩

theorem test_meets_VerdictsAndStreamOperations_11 : ∃ (s : State) (id p e : Nat) (x : Stream) (t : Nat), id < 512 ∧
    p < 64 ∧ s.clusters.length = 64 ∧ s.stream? id = some x ∧ x.block0 = some p ∧ x.stopPending = true ∧ s.works x =
    true ∧ (s.cl p).runs TaskOp.stop (s.wireId id) = true ∧ (s.at t).sweeps p = true ∧ s.gridRuns = true ∧
    s.frame.reverifyClosed = false ∧ (s.frame.phase = Phase.afterCutoff ∨ s.frame.phase = Phase.afterHarvest) ∧
    s.latch TaskOp.stop id 0 = some e ∧ (s.cl p).flying 3 id 0 = false ∧ (∃ n ∈ ((s.at t).stopRun x (max e
    x.stopEpoch)).needs, (s.cl p).ready n = false) :=
  ⟨tClu 15 { sched := tDo .stop } (tWorking ({ tWork with block0 := some 15, stopPending := true }) tArm), 0, 15, 0,
    { tWork with block0 := some 15, stopPending := true }, 0, by decide +kernel⟩

theorem test_meets_VerdictsAndStreamOperations_12 : ∃ (s : State) (id p : Nat) (x : Stream), id < 512 ∧ p < 64 ∧
    s.clusters.length = 64 ∧ s.stream? id = some x ∧ (x.stopPending = false ∨ s.frame.reverifyClosed = true) :=
  ⟨tWorking tWork, 0, 15, tWork, by decide +kernel⟩

theorem test_meets_VerdictsAndStreamOperations_13 : ∃ (s : State) (id p : Nat) (x : Stream) (t i epoch : Nat) (en :
    Entry), id < 512 ∧ p < 64 ∧ s.clusters.length = 64 ∧ s.stream? id = some x ∧ x.attempting = some (i, epoch) ∧
    s.reverifyCluster id = some p ∧ (x.device.getD [])[i]? = some en ∧ s.gridRuns = true ∧ s.frame.phase =
    Phase.afterHarvest ∧ x.attemptVerdict = none ∧ (s.at t).sweeps p = true ∧ (s.cl p).flying 5 id en.g = false ∧ (∀
    n ∈ ((s.at t).reverifyRun x en epoch).needs, (s.cl p).ready n = true) :=
  ⟨tClu 16 { resolved := [(144, 0, 0)] } (tStreams [{ tTry with attempting := some (0, 0) }] (tDev 1 .afterHarvest
    (tRun 3 tArm))), 0, 16, { tTry with attempting := some (0, 0) }, 0, 0, 0, tEnt, by decide +kernel⟩

theorem test_meets_VerdictsAndStreamOperations_14 : ∃ (s : State) (id p : Nat) (x : Stream) (t i epoch : Nat) (en :
    Entry), id < 512 ∧ p < 64 ∧ s.clusters.length = 64 ∧ s.stream? id = some x ∧ x.attempting = some (i, epoch) ∧
    s.reverifyCluster id = some p ∧ (x.device.getD [])[i]? = some en ∧ s.gridRuns = true ∧ s.frame.phase =
    Phase.afterHarvest ∧ x.attemptVerdict = none ∧ (s.at t).sweeps p = true ∧ (s.cl p).flying 5 id en.g = false ∧ (∃
    n ∈ ((s.at t).reverifyRun x en epoch).needs, (s.cl p).ready n = false) :=
  ⟨tClu 16 {} (tStreams [{ tTry with attempting := some (0, 0) }] (tDev 1 .afterHarvest (tRun 3 tArm))), 0, 16,
    { tTry with attempting := some (0, 0) }, 0, 0, 0, tEnt, by decide +kernel⟩

theorem test_meets_SmoothingAndTimeScaling_1 : ∃ (s : State) (id p g block core : Nat) (x : Stream) (c : Cand) (d :
    Nat × Nat) (f : Factor) (t : Nat), p < 64 ∧ id < 512 ∧ core < 2 ∧ s.clusters.length = 64 ∧ s.stream? id = some x
    ∧ s.working = true ∧ (s.at t).takesWork p = true ∧ (s.cl p).cand? id g Cand.smoothing = some c ∧ d = ((s.binding
    x).diagBlocks c).getD block (0, 0) ∧ f = factorise c.solver.h d.1 d.2 (s.binding x).set.pivotExp ∧ block <
    c.solver.factors.length ∧ c.solver.factors.getD block none = none :=
  ⟨tOn { tCand with selected := true, solver := { factors := [none] } }, 0, 15, 7, 0, 1, tWork,
    { tCand with selected := true, solver := { factors := [none] } }, _, _, 0,
    by refine ⟨?_, ?_, ?_, ?_, ?_, ?_, ?_, ?_, rfl, rfl, ?_⟩ <;> decide +kernel⟩

theorem test_meets_SmoothingAndTimeScaling_2 : ∃ (s : State) (id p g block core : Nat) (x : Stream) (c : Cand) (d :
    Nat × Nat) (f : Factor) (t : Nat), p < 64 ∧ id < 512 ∧ core < 2 ∧ s.clusters.length = 64 ∧ s.stream? id = some x
    ∧ s.working = true ∧ (s.at t).takesWork p = true ∧ (s.cl p).cand? id g Cand.smoothing = some c ∧ d = ((s.binding
    x).diagBlocks c).getD block (0, 0) ∧ f = factorise c.solver.h d.1 d.2 (s.binding x).set.pivotExp ∧
    (c.solver.factors.getD block (some ([], []))).isSome = true :=
  ⟨tOn { tCand with selected := true, solver := { factors := [some ([], [])] } }, 0, 15, 7, 0, 1, tWork,
    { tCand with selected := true, solver := { factors := [some ([], [])] } }, _, _, 0,
    by refine ⟨?_, ?_, ?_, ?_, ?_, ?_, ?_, ?_, rfl, rfl, ?_⟩ <;> decide +kernel⟩

theorem test_meets_SmoothingAndTimeScaling_3 : ∃ (s : State) (id p turn : Nat) (gs : List Nat) (cs : List Cand) (x :
    Stream) (t : Nat), p < 64 ∧ id < 512 ∧ s.clusters.length = 64 ∧ s.stream? id = some x ∧ s.working = true ∧ (s.at
    t).takesWork p = true ∧ List.map (fun g => (s.cl p).cand? id g Cand.smoothing) gs = List.map some cs ∧ gs ≠ [] ∧
    gs.Nodup ∧ gs.length ≤ 8 ∧ gs.length * (s.binding x).iterCost + 40 ≤ 2800 ∧ (∀ c ∈ cs, c.turn = turn ∧ ∀ f ∈
    c.solver.factors, f.isSome = true) :=
  ⟨tOn { tCand with selected := true, solver := { factors := [some ([], [])] } }, 0, 15, 0, [7],
    [{ tCand with selected := true, solver := { factors := [some ([], [])] } }], tWork, 0, by decide +kernel⟩

theorem test_meets_SmoothingAndTimeScaling_4 : ∃ (s : State) (id p : Nat) (gs : List Nat) (cs : List Cand) (x :
    Stream) (t : Nat), p < 64 ∧ id < 512 ∧ s.clusters.length = 64 ∧ s.stream? id = some x ∧ s.working = true ∧ (s.at
    t).takesWork p = true ∧ List.map (fun g => (s.cl p).cand? id g Cand.smoothing) gs = List.map some cs ∧ (gs = []
    ∨ ¬gs.Nodup ∨ 8 < gs.length ∨ 2800 < gs.length * (s.binding x).iterCost + 40 ∨ (∃ c ∈ cs, ∃ f ∈
    c.solver.factors, f = none) ∨ ∃ c ∈ cs, ∃ k ∈ cs, c.turn ≠ k.turn) ∧ (∃ c ∈ cs, ∃ f ∈ c.solver.factors, f =
    none) :=
  ⟨tOn { tCand with selected := true, solver := { factors := [none] } }, 0, 15, [7],
    [{ tCand with selected := true, solver := { factors := [none] } }], tWork, 0, by decide +kernel⟩

theorem test_meets_SmoothingAndTimeScaling_4b : ∃ (s : State) (id p : Nat) (gs : List Nat) (cs : List Cand) (x :
    Stream) (t : Nat), p < 64 ∧ id < 512 ∧ s.clusters.length = 64 ∧ s.stream? id = some x ∧ s.working = true ∧ (s.at
    t).takesWork p = true ∧ List.map (fun g => (s.cl p).cand? id g Cand.smoothing) gs = List.map some cs ∧ (gs = []
    ∨ ¬gs.Nodup ∨ 8 < gs.length ∨ 2800 < gs.length * (s.binding x).iterCost + 40 ∨ (∃ c ∈ cs, ∃ f ∈
    c.solver.factors, f = none) ∨ ∃ c ∈ cs, ∃ k ∈ cs, c.turn ≠ k.turn) ∧ gs = [] :=
  ⟨tOn { tCand with selected := true, solver := { factors := [some ([], [])] } }, 0, 15, [], [], tWork, 0,
    by decide +kernel⟩

theorem test_meets_SmoothingAndTimeScaling_5 : ∃ (b : Binding) (c c' : Cand) (x : Solver), c' = (b.turnOf c).1 ∧ x =
    ((if c.solver.started = true then c.solver else (c.solver.start (b.diagBlocks c)).1).iterate (b.diagBlocks c)).1
    :=
  ⟨{}, tCand, _, _, by rfl, by rfl⟩

theorem test_meets_SmoothingAndTimeScaling_8 : ∃ (b : Binding) (c c' : Cand) (x : Solver), c' = (b.turnOf c).1 ∧ x =
    ((if c.solver.started = true then c.solver else (c.solver.start (b.diagBlocks c)).1).iterate (b.diagBlocks c)).1
    ∧ c.smooth.iters + 1 < b.set.smoothIters :=
  ⟨{ set := { smoothIters := 2 } }, tCand, _, _, by rfl, by rfl, by decide +kernel⟩

theorem test_meets_SmoothingAndTimeScaling_9 : ∃ (b : Binding) (c c' : Cand) (x : Solver), c' = (b.turnOf c).1 ∧ x =
    ((if c.solver.started = true then c.solver else (c.solver.start (b.diagBlocks c)).1).iterate (b.diagBlocks c)).1
    ∧ b.set.smoothIters ≤ c.smooth.iters + 1 :=
  ⟨{ set := { smoothIters := 1 } }, tCand, _, _, by rfl, by rfl, by decide +kernel⟩

theorem test_meets_SmoothingAndTimeScaling_11 : ∃ (b : Binding) (c c' : Cand) (x : Solver), c' = (b.turnOf c).1 ∧ x
    = ((if c.solver.started = true then c.solver else (c.solver.start (b.diagBlocks c)).1).iterate (b.diagBlocks
    c)).1 ∧ b.set.smoothIters ≤ c.smooth.iters + 1 ∧ (x.overflow = true ∨ x.done = 2) :=
  ⟨{ set := { smoothIters := 1 } }, { tCand with solver := { started := true, done := 2 } }, _, _, by rfl, by rfl,
    by decide +kernel, by decide +kernel⟩

theorem test_meets_SmoothingAndTimeScaling_11b : ∃ (b : Binding) (c c' : Cand) (x : Solver), c' = (b.turnOf c).1 ∧ x
    = ((if c.solver.started = true then c.solver else (c.solver.start (b.diagBlocks c)).1).iterate (b.diagBlocks
    c)).1 ∧ b.set.smoothIters ≤ c.smooth.iters + 1 ∧ (x.overflow = true ∨ x.done = 2) ∧ x.overflow = true :=
  ⟨{ set := { smoothIters := 1 } }, { tCand with solver := { started := true, done := 1, overflow := true } }, _, _,
    by rfl, by rfl, by decide +kernel, by decide +kernel, by decide +kernel⟩

theorem test_meets_SmoothingAndTimeScaling_12 : ∃ (b : Binding) (c c' : Cand) (x : Solver), c' = (b.turnOf c).1 ∧ x
    = ((if c.solver.started = true then c.solver else (c.solver.start (b.diagBlocks c)).1).iterate (b.diagBlocks
    c)).1 ∧ b.set.smoothIters ≤ c.smooth.iters + 1 ∧ x.overflow = false ∧ x.done ≠ 2 :=
  ⟨{ set := { smoothIters := 1 } }, { tCand with solver := { started := true, done := 1 } }, _, _, by rfl, by rfl,
    by decide +kernel, by decide +kernel, by decide +kernel⟩

theorem test_meets_SmoothingAndTimeScaling_13 : ∃ (s : State) (id p g : Nat) (x : Stream) (c : Cand) (r : TsOut) (t
    : Nat), p < 64 ∧ id < 512 ∧ s.clusters.length = 64 ∧ s.stream? id = some x ∧ s.working = true ∧ (s.at
    t).takesWork p = true ∧ ((s.cl p).cand? id g fun k => k.wantsTime (s.binding x).cartesian) = some c ∧ (r =
    ((s.binding x).tsIn x c (if (s.binding x).cartesian = true ∧ c.tmProv = none then none else Option.map (fun q =>
    (s.binding x).vtOf q.1) c.probe)).run x.q.horizon (if c.origin = 1 then x.elapsed else 0)) :=
  ⟨tOn { tCand with smoothed := true }, 0, 15, 7, tWork, { tCand with smoothed := true }, _, 0,
    by refine ⟨?_, ?_, ?_, ?_, ?_, ?_, ?_, rfl⟩ <;> decide +kernel⟩

theorem test_meets_BoxesAndResolution_1 : ∃ (s : State) (p q job : Nat) (j : DistJob), p < 64 ∧ q < 64 ∧
    s.clusters.length = 64 ∧ s.worlds.distJobs[job]? = some j ∧ j.output = none ∧ (laterFrame s.frame.counter
    j.frame = true ∨ j.frame = s.frame.counter ∧ s.frame.phase ≠ Phase.closed ∧ s.frame.phase ≠ Phase.opened) :=
  ⟨tDev 1 .afterCutoff { worlds := { distJobs := [tJob] } }, 63, 0, 0, tJob, by decide +kernel⟩

theorem test_meets_BoxesAndResolution_1b : ∃ (s : State) (p q job : Nat) (j : DistJob), p < 64 ∧ q < 64 ∧
    s.clusters.length = 64 ∧ s.worlds.distJobs[job]? = some j ∧ j.output = none ∧ (laterFrame s.frame.counter
    j.frame = true ∨ j.frame = s.frame.counter ∧ s.frame.phase ≠ Phase.closed ∧ s.frame.phase ≠ Phase.opened) ∧
    laterFrame s.frame.counter j.frame = true :=
  ⟨tDev 1 .opened { frame := { counter := 1 }, worlds := { distJobs := [tJob] } }, 63, 0, 0, tJob,
    by decide +kernel⟩

theorem test_meets_BoxesAndResolution_2 : ∃ (s : State) (p q job : Nat) (j : DistJob), p < 64 ∧ q < 64 ∧
    s.clusters.length = 64 ∧ s.worlds.distJobs[job]? = some j ∧ j.frame = s.frame.counter ∧ s.frame.phase =
    Phase.opened :=
  ⟨tDev 1 .opened { worlds := { distJobs := [tJob] } }, 63, 0, 0, tJob, by decide +kernel⟩

theorem test_meets_BoxesAndResolution_3 : ∃ (s : State) (p q : Nat) (k : Parked) (r : HbmRead), p < 64 ∧ q < 64 ∧
    s.clusters.length = 64 ∧ (s.cl p).parked[q]? = some k ∧ s.enabled p = true ∧ (s.cl p).inFlight = [] ∧ r.fault ≠
    ReadFault.uncorrectable ∧ (∀ h ∈ k.need.pans, (s.cl p).holdsPan h = true ∨ s.panBad k.need h = true) :=
  ⟨tClu 63 { parked := [tPark [] 0] }, 63, 0, tPark [] 0, ⟨.none, 0⟩, by decide +kernel⟩

theorem test_meets_BoxesAndResolution_3b : ∃ (s : State) (p q : Nat) (k : Parked) (r : HbmRead), p < 64 ∧ q < 64 ∧
    s.clusters.length = 64 ∧ (s.cl p).parked[q]? = some k ∧ s.enabled p = true ∧ (s.cl p).inFlight = [] ∧ r.fault ≠
    ReadFault.uncorrectable ∧ (∀ h ∈ k.need.pans, (s.cl p).holdsPan h = true ∨ s.panBad k.need h = true) ∧ r.fault =
    ReadFault.corrected :=
  ⟨tClu 63 { parked := [tPark [] 0] }, 63, 0, tPark [] 0, ⟨.corrected, 2 ^ 36 - 8⟩, by decide +kernel⟩

theorem test_meets_BoxesAndResolution_4 : ∃ (s : State) (p q : Nat) (k : Parked) (h i : Nat), p < 64 ∧ q < 64 ∧
    s.clusters.length = 64 ∧ (s.cl p).parked[q]? = some k ∧ s.enabled p = true ∧ (s.cl p).inFlight = [] ∧ (s.cl
    p).lanes = [] ∧ k.need.pans = [h] ∧ (s.cl p).holdsPan h = false ∧ s.panBad k.need h = false ∧ s.dmaReady
    (stackOf p) = true ∧ (s.cl p).slotFor h = some i :=
  ⟨tClu 63 { parked := [tPark [5] 0] }, 63, 0, tPark [5] 0, 5, 1, by decide +kernel⟩

theorem test_meets_BoxesAndResolution_5 : ∃ (s : State) (p q : Nat) (k : Parked) (c : Cand) (e : Nat), p < 64 ∧ q <
    64 ∧ s.clusters.length = 64 ∧ (s.cl p).parked[q]? = some k ∧ s.enabled p = true ∧ k.kind = 0 ∧ (s.cl p).parked =
    [k] ∧ (s.cl p).inFlight = [{ k with kind := 0, epoch := e }] ∧ (s.cl p).cand? k.stream k.g Cand.wantsCheck =
    some c ∧ (s.stream? k.stream).isSome = true ∧ (∀ h ∈ k.need.pans, (s.cl p).holdsPan h = true ∨ s.panBad k.need h
    = true) :=
  ⟨tClu 15 { cands := [tCand], parked := [tPark [] 0], inFlight := [⟨0, 0, 7, 0⟩] } (tWorking tWork tArm), 15, 0,
    tPark [] 0, tCand, 0, by decide +kernel⟩

theorem test_meets_BoxesAndResolution_6 : ∃ (s : State) (p q : Nat) (k : Parked) (h a : Nat), p < 64 ∧ q < 64 ∧
    s.clusters.length = 64 ∧ (s.cl p).parked[q]? = some k ∧ s.enabled p = true ∧ k.need.panOf a = some h :=
  ⟨tClu 63 { parked := [tPark [5] 0] }, 63, 0, tPark [5] 0, 5, payloadAddr 5, by decide +kernel⟩

theorem test_meets_BoxesAndResolution_7 : ∃ (s : State) (p q : Nat) (k : Parked) (a : Nat), p < 64 ∧ q < 64 ∧
    s.clusters.length = 64 ∧ (s.cl p).parked[q]? = some k ∧ s.enabled p = true ∧ k.need.panOf a = none ∧ s.entryOf
    k.need a = true ∧ s.safety.latch.length < 32 :=
  ⟨tClu 63 { parked := [tPark [] 0] }, 63, 0, tPark [] 0, dirAddr 144 + 7, by decide +kernel⟩

theorem test_meets_BoxesAndResolution_8 : ∃ (s : State) (p q : Nat), p < 64 ∧ q < 64 ∧ s.clusters.length = 64 ∧
    (s.cl p).parked[q]? = none :=
  ⟨{}, 63, 0, by decide +kernel⟩

theorem test_meets_TestsAssayAndRake_1 : ∃ (s : State) (p : Nat), p < 64 ∧ s.clusters.length = 64 ∧ s.enabled p =
    true ∧ s.aon.railsUp = true ∧ (s.cl p).test.bgtRegion < 16384 ∧ (s.cl p).test.sparesUsed.length = 64 :=
  ⟨tClu 63 { test := { bgtRegion := 16383 } } { aon := { railsUp := true } }, 63, by decide +kernel⟩

theorem test_meets_TestsAssayAndRake_3 : ∃ (s : State) (p : Nat), p < 64 ∧ s.clusters.length = 64 ∧ s.enabled p =
    true ∧ s.aon.railsUp = true ∧ (s.cl p).test.bgtRegion < 16384 ∧ (s.cl p).test.sparesUsed.length = 64 ∧ (∀ f ∈
    (s.cl p).test.bgtWaiting, f = false) :=
  ⟨tClu 63 { test := { bgtRegion := 16383 } } { aon := { railsUp := true } }, 63, by decide +kernel⟩

theorem test_meets_TestsAssayAndRake_3b : ∃ (s : State) (p : Nat), p < 64 ∧ s.clusters.length = 64 ∧ s.enabled p =
    true ∧ s.aon.railsUp = true ∧ (s.cl p).test.bgtRegion < 16384 ∧ (s.cl p).test.sparesUsed.length = 64 ∧ (∀ f ∈
    (s.cl p).test.bgtWaiting, f = false) ∧ (s.cl p).test.bgtWaiting = [false] :=
  ⟨tClu 63 { test := { bgtRegion := 0, bgtWaiting := [false] } } { aon := { railsUp := true } }, 63,
    by decide +kernel⟩

theorem test_meets_TestsAssayAndRake_4 : ∃ (s : State) (p : Nat) (found : Bool), p < 64 ∧ s.clusters.length = 64 ∧
    s.enabled p = true ∧ s.aon.railsUp = true ∧ (s.cl p).test.bgtRegion < 16384 ∧ (s.cl p).test.sparesUsed.length =
    64 ∧ (((s.cl p).test.bgtWaiting, found) = ([], true) ∨ ((s.cl p).test.bgtWaiting, found) = ([true], false)) ∧
    (s.cl p).test.sparesUsed.getD ((s.cl p).test.bgtRegion / 256) 0 = 0 :=
  ⟨tClu 63 { test := { bgtRegion := 16383 } } { aon := { railsUp := true } }, 63, true, by decide +kernel⟩

theorem test_meets_TestsAssayAndRake_4b : ∃ (s : State) (p : Nat) (found : Bool), p < 64 ∧ s.clusters.length = 64 ∧
    s.enabled p = true ∧ s.aon.railsUp = true ∧ (s.cl p).test.bgtRegion < 16384 ∧ (s.cl p).test.sparesUsed.length =
    64 ∧ (((s.cl p).test.bgtWaiting, found) = ([], true) ∨ ((s.cl p).test.bgtWaiting, found) = ([true], false)) ∧
    (s.cl p).test.sparesUsed.getD ((s.cl p).test.bgtRegion / 256) 0 = 0 ∧ found = false :=
  ⟨tClu 63 { test := { bgtRegion := 16383, bgtWaiting := [true] } } { aon := { railsUp := true } }, 63, false,
    by decide +kernel⟩

theorem test_meets_TestsAssayAndRake_5 : ∃ (s : State) (p : Nat), p < 64 ∧ s.clusters.length = 64 ∧ s.enabled p =
    true ∧ s.aon.railsUp = true ∧ (s.cl p).test.bgtRegion < 16384 ∧ (s.cl p).test.sparesUsed.length = 64 ∧ (s.cl
    p).test.bgtWaiting = [] ∧ (s.cl p).test.sparesUsed.getD ((s.cl p).test.bgtRegion / 256) 0 = 1 :=
  ⟨tClu 63 { test := { bgtRegion := 16383, sparesUsed := List.replicate 64 1 } } { aon := { railsUp := true } }, 63,
    by decide +kernel⟩

theorem test_meets_TestsAssayAndRake_6 : ∃ (s : State) (p : Nat), p < 64 ∧ s.clusters.length = 64 ∧ s.enabled p =
    true ∧ s.aon.railsUp = true ∧ (s.cl p).test.bgtRegion < 16384 ∧ (s.cl p).test.sparesUsed.length = 64 ∧ (s.cl
    p).test.bgtWaiting = [] ∧ 2 ≤ (s.cl p).test.sparesUsed.getD ((s.cl p).test.bgtRegion / 256) 0 :=
  ⟨tClu 63 { test := { bgtRegion := 16383, sparesUsed := List.replicate 64 2 } } { aon := { railsUp := true } }, 63,
    by decide +kernel⟩

theorem test_meets_TestsAssayAndRake_7 : ∃ (s : State) (k p t : Nat), k < 4 ∧ p < 64 ∧ s.clusters.length = 64 ∧
    s.stks.length = 4 ∧ (s.stk k).assayCluster = some p ∧ s.inFrame = true ∧ s.safety.latch.length < 32 ∧ stackOf p
    = k ∧ s.frame.openTime + 10 * ticksPerUs ≤ max s.time.now t ∧ ((s.cl p).test.assayComplete = false ∨ (s.cl
    p).test.assayFrameLo ≠ s.frame.counter.toNat % 2 ^ 24) ∧ (∀ h ∈ (s.cl p).sched.tasks, h.task.op ≠ TaskOp.assay ∧
    h.task.unit ≠ 4) ∧ (∀ r ∈ (s.cl p).sched.running, r.1 ≠ 4) ∧ 0 < (s.cl p).sched.open_ 1 ∧ (s.stk
    k).dispatcher.length < 127 ∧ (∀ q ∈ (s.stk k).dispatcher, q.task.op ≠ TaskOp.assay) ∧ (∀ d ∈ (s.stk k).taskList,
    d.op ≠ TaskOp.assay) :=
  ⟨tAssay {}, 3, 63, 2000, by decide +kernel⟩

theorem test_meets_TestsAssayAndRake_8 : ∃ (s : State) (k p t : Nat), k < 4 ∧ p < 64 ∧ s.clusters.length = 64 ∧
    s.stks.length = 4 ∧ (s.stk k).assayCluster = some p ∧ s.inFrame = true ∧ s.safety.latch.length < 32 ∧ (max
    s.time.now t < s.frame.openTime + 10 * ticksPerUs ∨ (∃ h ∈ (s.cl p).sched.tasks, h.task.op = TaskOp.assay) ∨
    (s.cl p).test.assayComplete = true ∧ (s.cl p).test.assayFrameLo = s.frame.counter.toNat % 2 ^ 24) :=
  ⟨tAssay {}, 3, 63, 1999, by decide +kernel⟩

theorem test_meets_TestsAssayAndRake_8b : ∃ (s : State) (k p t : Nat), k < 4 ∧ p < 64 ∧ s.clusters.length = 64 ∧
    s.stks.length = 4 ∧ (s.stk k).assayCluster = some p ∧ s.inFrame = true ∧ s.safety.latch.length < 32 ∧ (max
    s.time.now t < s.frame.openTime + 10 * ticksPerUs ∨ (∃ h ∈ (s.cl p).sched.tasks, h.task.op = TaskOp.assay) ∨
    (s.cl p).test.assayComplete = true ∧ (s.cl p).test.assayFrameLo = s.frame.counter.toNat % 2 ^ 24) ∧ (s.cl
    p).test.assayComplete = true :=
  ⟨tAssay { assayComplete := true }, 3, 63, 2000, by decide +kernel⟩

theorem test_meets_TestsAssayAndRake_9 : ∃ (s : State) (k p : Nat) (sigs : List Nat), k < 4 ∧ p < 64 ∧
    s.clusters.length = 64 ∧ s.stks.length = 4 ∧ (s.stk k).assayCluster = some p ∧ s.inFrame = true ∧
    s.safety.latch.length < 32 ∧ sigs.length = 8 ∧ (∀ x ∈ sigs, x < 2 ^ 64) ∧ (s.cl p).test.assayRunning = true ∧
    s.hub.secretsGolden = true :=
  ⟨tAssay { assayRunning := true }, 3, 63, List.replicate 8 (2 ^ 64 - 1), by decide +kernel⟩

theorem test_meets_TestsAssayAndRake_10 : ∃ (s : State) (k p : Nat) (sigs : List Nat), k < 4 ∧ p < 64 ∧
    s.clusters.length = 64 ∧ s.stks.length = 4 ∧ (s.stk k).assayCluster = some p ∧ s.inFrame = true ∧
    s.safety.latch.length < 32 ∧ sigs.length = 8 ∧ (s.cl p).test.assayRunning = true ∧ s.hub.secretsGolden = false
    :=
  ⟨(tAssay { assayRunning := true }).modHub fun h => { h with secretsGolden := false }, 3, 63, List.replicate 8 0,
    by decide +kernel⟩

theorem test_meets_TestsAssayAndRake_11 : ∃ (s : State) (k p t : Nat), k < 4 ∧ p < 64 ∧ s.clusters.length = 64 ∧
    s.stks.length = 4 ∧ (s.stk k).assayCluster = some p ∧ s.inFrame = true ∧ s.safety.latch.length < 32 ∧
    s.frame.openTime + 40 * ticksPerUs ≤ max s.time.now t :=
  ⟨tAssay { assayRunning := true }, 3, 63, 8000, by decide +kernel⟩

theorem test_meets_TestsAssayAndRake_12 : ∃ (s : State) (unit item t : Nat), rakeItemOk unit item = true ∧
    s.clusters.length = 64 ∧ s.stks.length = 4 ∧ s.safety.latch.length < 32 ∧ s.gridRuns = true ∧ s.frame.phase =
    Phase.rake ∧ s.rakeDue unit item = true ∧ max s.time.now t < s.frame.rakeAt + 20 * ticksPerUs :=
  ⟨tDev 1 .rake, 64, 1, 3999, by decide +kernel⟩

theorem test_meets_TestsAssayAndRake_13 : ∃ (s : State) (unit item t : Nat), rakeItemOk unit item = true ∧
    s.clusters.length = 64 ∧ s.stks.length = 4 ∧ s.safety.latch.length < 32 ∧ (s.frame.phase ≠ Phase.rake ∨
    s.rakeDue unit item = false ∨ s.frame.rakeAt + 20 * ticksPerUs ≤ max s.time.now t) :=
  ⟨tDev 1 .rake, 64, 1, 4000, by decide +kernel⟩

theorem test_meets_TestsAssayAndRake_13b : ∃ (s : State) (unit item t : Nat), rakeItemOk unit item = true ∧
    s.clusters.length = 64 ∧ s.stks.length = 4 ∧ s.safety.latch.length < 32 ∧ (s.frame.phase ≠ Phase.rake ∨
    s.rakeDue unit item = false ∨ s.frame.rakeAt + 20 * ticksPerUs ≤ max s.time.now t) ∧ s.frame.phase ≠ Phase.rake
    :=
  ⟨tDev 1 .published, 63, 11, 0, by decide +kernel⟩

theorem test_meets_TestsAssayAndRake_13c : ∃ (s : State) (unit item t : Nat), rakeItemOk unit item = true ∧
    s.clusters.length = 64 ∧ s.stks.length = 4 ∧ s.safety.latch.length < 32 ∧ (s.frame.phase ≠ Phase.rake ∨
    s.rakeDue unit item = false ∨ s.frame.rakeAt + 20 * ticksPerUs ≤ max s.time.now t) ∧ s.rakeDue unit item = false
    :=
  ⟨tDev 1 .rake, 64, 2, 0, by decide +kernel⟩

theorem test_meets_SupervisorAndReactions_1 : ∃ (s : State), s.safety.latch.length < 32 :=
  ⟨{}, by decide +kernel⟩

theorem test_meets_SupervisorAndReactions_2 : ∃ (s : State) (ssv : Nat), s.safety.latch.length < 32 ∧
    s.classSRunning = true ∧ (∀ (e : Nat), s.safety.wdogEdge = some e → 250000 < max s.safety.ssvNow ssv - e) :=
  ⟨tSes 0 { state := 3, classS := true } { safety := { wdogEdge := some 0 } }, 250001, by decide +kernel,
    by decide +kernel, by intro e h; cases h; decide +kernel⟩

theorem test_meets_SupervisorAndReactions_3 : ∃ (s : State) (ssv : Nat), s.safety.latch.length < 32 ∧
    (s.classSRunning = false ∨ ∃ e, s.safety.wdogEdge = some e ∧ max s.safety.ssvNow ssv - e ≤ 250000) :=
  ⟨tSes 0 { state := 3, classS := true } { safety := { wdogEdge := some 0 } }, 250000, by decide +kernel, (.inr ⟨0,
    by decide +kernel⟩)⟩

theorem test_meets_SupervisorAndReactions_4 : ∃ (s : State), s.safety.latch.length < 32 ∧ s.boot.cfwUp = true :=
  ⟨{ boot := { cfwUp := true } }, by decide +kernel⟩

theorem test_meets_SupervisorAndReactions_5 : ∃ (s : State) (ssv : Nat), s.safety.latch.length < 32 ∧ s.boot.cfwUp =
    true ∧ s.obs.cpHalted = false ∧ s.safety.resetUnderWay = false ∧ s.safety.restartPending = none ∧ 15000 ≤ max
    s.safety.ssvNow ssv - s.safety.cfwBeat :=
  ⟨{ boot := { cfwUp := true } }, 15000, by decide +kernel⟩

theorem test_meets_SupervisorAndReactions_6 : ∃ (s : State) (ssv : Nat), s.safety.latch.length < 32 ∧ (s.boot.cfwUp
    = false ∨ s.obs.cpHalted = true ∨ max s.safety.ssvNow ssv - s.safety.cfwBeat < 15000) :=
  ⟨{ boot := { cfwUp := true } }, 14999, by decide +kernel⟩

theorem test_meets_SupervisorAndReactions_7 : ∃ (s : State) (pair : Nat), s.safety.latch.length < 32 ∧ pair < 2 :=
  ⟨{}, 1, by decide +kernel⟩

theorem test_meets_SupervisorAndReactions_9 : ∃ (s : State), s.safety.latch.length < 32 ∧ s.safety.pinState = 1 :=
  ⟨{ safety := { pinState := 1 } }, by decide +kernel⟩

theorem test_meets_SupervisorAndReactions_10 : ∃ (s : State) (ssv ssv0 now0 : Nat), s.safety.latch.length < 32 ∧
    s.safety.rateRef = some (ssv0, now0) ∧ s.time.corrections = [] ∧ ssv0 + 500000 ≤ max s.safety.ssvNow ssv :=
  ⟨{ safety := { rateRef := some (0, 0) } }, 500000, 0, 0, by decide +kernel⟩

theorem test_meets_SupervisorAndReactions_11 : ∃ (s : State) (pair : Nat), s.sessions.length = 16 ∧
    s.safety.latch.length < 32 ∧ pair < 2 :=
  ⟨{}, 1, by decide +kernel⟩

theorem test_meets_SupervisorAndReactions_12 : ∃ (s : State) (unit item t : Nat), s.sessions.length = 16 ∧
    s.safety.latch.length < 32 ∧ rakeItemOk unit item = true ∧ s.classSRunning = true ∧ (∃ r ∈ s.safety.rakeItems,
    r.unit = unit ∧ r.item = item ∧ 200000 * ticksPerUs < max s.time.now t - r.last) :=
  ⟨tSes 15 { state := 3, classS := true } tAged, 64, 16, 200000 * 200 + 1, by decide +kernel⟩

theorem test_meets_LatentTestsAndRestart_1 : ∃ (s : State) (unit item t : Nat), rakeItemOk unit item = true ∧
    s.classSRunning = true ∧ (∀ r ∈ s.safety.rakeItems, r.unit = unit → r.item = item → 100000 * ticksPerUs < max
    s.time.now t - r.last) ∧ (∃ r ∈ s.safety.rakeItems, r.unit = unit ∧ r.item = item) :=
  ⟨tSes 15 { state := 3, classS := true } tAged, 64, 16, 100000 * 200 + 1, by decide +kernel⟩

theorem test_meets_LatentTestsAndRestart_2 : ∃ (s : State), s.selfTestDue = true ∧ s.hub.secretsGolden = true :=
  ⟨{ boot := { cfwUp := true }, hub := { secretsGolden := true } }, by decide +kernel⟩

theorem test_meets_LatentTestsAndRestart_3 : ∃ (s : State) (l : List TestFailure), l.all TestFailure.wf = true ∧
    s.selfTestDue = true ∧ s.safety.latch.length < 31 ∧ ((∃ f ∈ l, f.unit = 64 ∨ s.enabled f.unit = true) ∨
    s.hub.secretsGolden = false ∧ ∃ p < 64, s.enabled p = true) :=
  ⟨{ boot := { cfwUp := true }, hub := { secretsGolden := true } }, [⟨63, 0, 63⟩, ⟨64, 16, 0⟩], by decide +kernel⟩

theorem test_meets_LatentTestsAndRestart_3b : ∃ (s : State) (l : List TestFailure), l.all TestFailure.wf = true ∧
    s.selfTestDue = true ∧ s.safety.latch.length < 31 ∧ ((∃ f ∈ l, f.unit = 64 ∨ s.enabled f.unit = true) ∨
    s.hub.secretsGolden = false ∧ ∃ p < 64, s.enabled p = true) ∧ s.hub.secretsGolden = false :=
  ⟨{ boot := { cfwUp := true } }, [], by decide +kernel⟩

theorem test_meets_LatentTestsAndRestart_4 : ∃ (s : State), s.selfTestDue = false :=
  ⟨{ boot := { cfwUp := true }, safety := { selfTests := 1 } }, by decide +kernel⟩

theorem test_meets_LatentTestsAndRestart_5 : ∃ (s : State), s.errors.dump.writing = none ∧ s.safety.restartPending =
    none :=
  ⟨{}, by decide +kernel⟩

theorem test_meets_LatentTestsAndRestart_6 : ∃ (s : State) (code : Nat), s.errors.dump.writing = none ∧
    s.safety.restartPending = some code :=
  ⟨{ safety := { restartPending := some 11 } }, 11, by decide +kernel⟩

theorem test_meets_LatentTestsAndRestart_7 : ∃ (s : State), s.boot.markNew = true :=
  ⟨{ boot := { markNew := true } }, by decide +kernel⟩

theorem test_meets_LatentTestsAndRestart_8 : ∃ (s : State), s.boot.markNew = false ∧ s.boot.voffChanged = false :=
  ⟨{}, by decide +kernel⟩

theorem test_meets_SafetyReleaseAndTokens_1 : ∃ (s : State) (fn slot : Nat) (c : Cmd), isSlot fn slot ∧
    s.frame.devState ≠ 3 ∧ s.isArrived 2305 fn slot c ∧ c.payload = [] :=
  ⟨tPut (tCmd 2305), 16, 31, tCmd 2305, by unfold isSlot State.isArrived; decide +kernel⟩

theorem test_meets_SafetyReleaseAndTokens_2 : ∃ (s : State) (fn slot code : Nat) (c : Cmd), isSlot fn slot ∧
    s.frame.devState ≠ 3 ∧ s.isReady 2307 fn slot c ∧ c.payload.length = 8 ∧ allZero (slice c.payload 2 6) = true ∧
    getU c.payload 0 2 = code :=
  ⟨tPut (tCmd 2307 ([9] ++ zeros 7)), 16, 31, 9, tCmd 2307 ([9] ++ zeros 7),
    by unfold isSlot State.isReady; decide +kernel⟩

theorem test_meets_SafetyReleaseAndTokens_3 : ∃ (s : State) (fn slot op : Nat) (i : Instr) (t : Nat) (c : Cmd),
    isSlot fn slot ∧ c.payload = [] ∧ (op, i) ∈ [(2306, Instr.safetyBind fn slot t), (2310, Instr.lifecycleSet fn
    slot t), (2311, Instr.debugUnlock fn slot t)] ∧ s.isReady op fn slot c ∧ s.frame.devState ≠ 0 :=
  ⟨tPut (tCmd 2311) (tDev 2), 16, 31, 2311, .debugUnlock 16 31 0, 0, tCmd 2311,
    by unfold isSlot State.isReady; decide +kernel⟩

theorem test_meets_SafetyReleaseAndTokens_4 : ∃ (s : State) (fn slot op : Nat) (i : Instr) (t : Nat) (c : Cmd),
    isSlot fn slot ∧ c.payload = [] ∧ (op, i) ∈ [(2306, Instr.safetyBind fn slot t), (2310, Instr.lifecycleSet fn
    slot t), (2311, Instr.debugUnlock fn slot t)] ∧ s.isReady op fn slot c ∧ s.frame.devState = 0 ∧ op = 2306 ∧
    s.part.orderCode ≠ 1 :=
  ⟨tPut (tCmd 2306) { part := { orderCode := 2 } }, 16, 31, 2306, .safetyBind 16 31 0, 0, tCmd 2306,
    by unfold isSlot State.isReady; decide +kernel⟩

theorem test_meets_SafetyReleaseAndTokens_5 : ∃ (s : State) (fn slot op : Nat) (i : Instr) (t : Nat) (c : Cmd),
    isSlot fn slot ∧ c.payload = [] ∧ (op, i) ∈ [(2306, Instr.safetyBind fn slot t), (2310, Instr.lifecycleSet fn
    slot t), (2311, Instr.debugUnlock fn slot t)] ∧ s.isReady op fn slot c ∧ s.frame.devState = 0 ∧ (op = 2306 →
    s.part.orderCode = 1) ∧ (s.classSIn fun x => x != 0) = false :=
  ⟨tPut (tCmd 2310), 16, 31, 2310, .lifecycleSet 16 31 0, 0, tCmd 2310,
    by unfold isSlot State.isReady; decide +kernel⟩

theorem test_meets_CalibrationAndLedger_1 : ∃ (s : State) (fn slot a len : Nat) (c : Cmd) (bs : List Byte), isSlot
    fn slot ∧ s.frame.devState ≠ 3 ∧ s.isArrived 2308 fn slot c ∧ c.payload.length = 8 ∧ allZero (slice c.payload 1
    7) = true ∧ getU c.payload 0 1 ≤ 2 ∧ c.descs = [{ addr := a, len := len, write := true }] ∧ s.dmaOk fn = true ∧
    (bs = if getU c.payload 0 1 = 0 then calBytes s.part.factory else if getU c.payload 0 1 = 1 then fit 320
    (s.flash.userCal.read.getD []) else calBytes s.boot.effective) ∧ bs.length ≤ len :=
  ⟨tDma (tPut (tCmd 2308 ([1] ++ zeros 7) 0 [{ addr := 4096, len := 320, write := true }])), 16, 31, 4096, 320, tCmd
    2308 ([1] ++ zeros 7) 0 [{ addr := 4096, len := 320, write := true }], fit 320 [],
    by unfold isSlot State.isArrived; decide +kernel⟩

theorem test_meets_CalibrationAndLedger_2 : ∃ (s : State) (fn slot a len : Nat) (c : Cmd), isSlot fn slot ∧
    s.frame.devState ≠ 3 ∧ s.isArrived 2312 fn slot c ∧ c.payload = [] ∧ c.descs =
    [{ addr := a, len := len, write := true }] ∧ s.dmaOk fn = true ∧ (List.flatMap ledgerBytes
    s.part.ledgerOrder).length ≤ len :=
  ⟨tDma (tPut (tCmd 2312 [] 0 [{ addr := 4096, len := 8, write := true }])), 16, 31, 4096, 8, tCmd 2312 [] 0
    [{ addr := 4096, len := 8, write := true }], by unfold isSlot State.isArrived; decide +kernel⟩

theorem test_meets_CalibrationAndLedger_3 : ∃ (s : State) (fn slot : Nat) (c : Cmd), isSlot fn slot ∧
    s.frame.devState ≠ 3 ∧ s.isReady 2309 fn slot c ∧ c.payload = [] ∧ c.bulk.length ≠ 320 :=
  ⟨tPut (tCmd 2309 [] 0 [] (zeros 319)), 16, 31, tCmd 2309 [] 0 [] (zeros 319),
    by unfold isSlot State.isReady; decide +kernel⟩

theorem test_meets_CalibrationAndLedger_4 : ∃ (s : State) (fn slot : Nat) (c : Cmd), isSlot fn slot ∧
    s.frame.devState ≠ 3 ∧ s.isReady 2309 fn slot c ∧ c.payload = [] ∧ c.bulk.length = 320 ∧ s.frame.devState ∈ [0,
    2] ∧ 1 ≤ s.lifecycle ∧ s.lifecycle ≤ 3 ∧ s.part.ownerValid = true :=
  ⟨tPut (tCmd 2309 [] 0 [] (zeros 320)) { part := { owner := some [] } }, 16, 31, tCmd 2309 [] 0 [] (zeros 320),
    by unfold isSlot State.isReady; decide +kernel⟩

theorem test_meets_CalibrationAndLedger_5 : ∃ (s : State) (fn slot : Nat) (c : Cmd), isSlot fn slot ∧
    s.frame.devState ≠ 3 ∧ s.isReady 2309 fn slot c ∧ c.payload = [] ∧ c.bulk.length = 320 ∧ s.frame.devState = 1 :=
  ⟨tPut (tCmd 2309 [] 0 [] (zeros 320)) (tDev 1 .closed { part := { owner := some [] } }), 16, 31, tCmd 2309 [] 0 []
    (zeros 320), by unfold isSlot State.isReady; decide +kernel⟩

theorem test_meets_FirmwareAndDumps_1 : ∃ (s : State) (fn slot : Nat) (c : Cmd), isSlot fn slot ∧ s.frame.devState ≠
    3 ∧ s.boot.activeBank ≤ 1 ∧ s.flash.banks.length = 2 ∧ s.flash.verified.length = 2 ∧ s.stagingNow = false ∧
    s.isArrived 2817 fn slot c ∧ c.payload = [] ∧ c.bulk.length ≤ bankSize (1 - s.boot.activeBank) :=
  ⟨tPut (tCmd 2817 [] 0 [] [1]), 16, 31, tCmd 2817 [] 0 [] [1], by unfold isSlot State.isArrived; decide +kernel⟩

theorem test_meets_FirmwareAndDumps_2 : ∃ (s : State) (fn slot : Nat) (c : Cmd), isSlot fn slot ∧ s.frame.devState ≠
    3 ∧ s.boot.activeBank ≤ 1 ∧ s.flash.banks.length = 2 ∧ s.flash.verified.length = 2 ∧ s.stagingNow = false ∧
    s.isArrived 2818 fn slot c ∧ c.payload.length = 8 ∧ allZero (slice c.payload 1 7) = true ∧ getU c.payload 0 1 ≤
    1 :=
  ⟨tPut (tCmd 2818 ([1] ++ zeros 7)), 16, 31, tCmd 2818 ([1] ++ zeros 7),
    by unfold isSlot State.isArrived; decide +kernel⟩

theorem test_meets_FirmwareAndDumps_3 : ∃ (s : State) (fn slot : Nat) (c : Cmd), isSlot fn slot ∧ s.frame.devState ≠
    3 ∧ s.boot.activeBank ≤ 1 ∧ s.flash.banks.length = 2 ∧ s.flash.verified.length = 2 ∧ s.stagingNow = false ∧
    s.isArrived 2819 fn slot c ∧ c.payload = [] :=
  ⟨tPut (tCmd 2819), 16, 31, tCmd 2819, by unfold isSlot State.isArrived; decide +kernel⟩

theorem test_meets_FirmwareAndDumps_4 : ∃ (s : State) (fn slot : Nat) (c : Cmd), isSlot fn slot ∧ s.frame.devState ≠
    3 ∧ c.payload = [] ∧ s.isArrived 2820 fn slot c ∧ s.errors.dump.writing.isSome = true :=
  ⟨tPut (tCmd 2820) { errors := { dump := { writing := some 0 } } }, 16, 31, tCmd 2820,
    by unfold isSlot State.isArrived; decide +kernel⟩

theorem test_meets_FirmwareAndDumps_5 : ∃ (s : State) (fn slot : Nat) (c : Cmd), isSlot fn slot ∧ s.frame.devState ≠
    3 ∧ c.payload = [] ∧ s.isArrived 2822 fn slot c ∧ s.errors.dump.writing.isSome = true :=
  ⟨tPut (tCmd 2822) { errors := { dump := { writing := some 0 } } }, 16, 31, tCmd 2822,
    by unfold isSlot State.isArrived; decide +kernel⟩

theorem test_meets_FirmwareAndDumps_6 : ∃ (s : State) (fn slot a len : Nat) (c : Cmd), isSlot fn slot ∧
    s.frame.devState ≠ 3 ∧ c.payload = [] ∧ s.isArrived 2820 fn slot c ∧ s.errors.dump.writing = none ∧ c.descs =
    [{ addr := a, len := len, write := true }] ∧ s.dmaOk fn = true ∧ s.errors.dump.image.length ≤ len :=
  ⟨tDma (tPut (tCmd 2820 [] 0 [{ addr := 4096, len := 8, write := true }])), 16, 31, 4096, 8, tCmd 2820 [] 0
    [{ addr := 4096, len := 8, write := true }], by unfold isSlot State.isArrived; decide +kernel⟩

theorem test_meets_FirmwareAndDumps_7 : ∃ (s : State) (fn slot : Nat) (c : Cmd), isSlot fn slot ∧ s.frame.devState ≠
    3 ∧ c.payload = [] ∧ s.isArrived 2822 fn slot c ∧ s.errors.dump.writing = none :=
  ⟨tPut (tCmd 2822), 16, 31, tCmd 2822, by unfold isSlot State.isArrived; decide +kernel⟩

theorem test_meets_FirmwareAndDumps_8 : ∃ (s : State) (fn slot : Nat) (c : Cmd), isSlot fn slot ∧ s.frame.devState ≠
    3 ∧ c.payload = [] ∧ s.isArrived 2821 fn slot c :=
  ⟨tPut (tCmd 2821 [] 0 [{ addr := 4096, len := 8, write := true }]), 16, 31, tCmd 2821 [] 0
    [{ addr := 4096, len := 8, write := true }], by unfold isSlot State.isArrived; decide +kernel⟩

theorem test_meets_LinkResetsAndErrors_1 : ∃ (s : State) (t : Nat) (i : Instr), s.safety.latch.length < 32 ∧
    s.sessions.length = 16 ∧ i ∈ [Instr.pcieLinkReset false t, Instr.perstNAssert t] ∧ s.aon.railsUp = true ∧
    s.mgmt.perstAsserted = false :=
  ⟨{ aon := { railsUp := true }, mgmt := { perstAsserted := false } }, 0, .perstNAssert 0, by decide +kernel⟩

theorem test_meets_LinkResetsAndErrors_2 : ∃ (s : State), s.safety.latch.length < 32 ∧ s.sessions.length = 16 ∧
    s.aon.railsUp = false :=
  ⟨{}, by decide +kernel⟩

theorem test_meets_LinkResetsAndErrors_3 : ∃ (s : State) (t : Nat) (i : Instr), s.safety.latch.length < 32 ∧
    s.sessions.length = 16 ∧ i ∈ [Instr.pcieLinkReset false t, Instr.perstNAssert t] ∧ s.aon.railsUp = true ∧
    s.mgmt.perstAsserted = false :=
  ⟨{ aon := { railsUp := true }, mgmt := { perstAsserted := false } }, 0, .perstNAssert 0, by decide +kernel⟩

theorem test_meets_LinkResetsAndErrors_4 : ∃ (s : State), s.safety.latch.length < 32 ∧ s.sessions.length = 16 ∧
    s.pcie.linkA.up = true ∧ s.time.source ≠ 1 :=
  ⟨{ pcie := { linkA := { up := true } } }, by decide +kernel⟩

theorem test_meets_LinkResetsAndErrors_5 : ∃ (s : State) (w sp : Nat) (fl : Bool), s.safety.latch.length < 32 ∧
    s.sessions.length = 16 ∧ s.aon.railsUp = true ∧ s.boot.mode ≠ 3 ∧ s.mgmt.perstAsserted = false ∧ (w = 4 ∨ w = 8
    ∨ w = 16) ∧ (w ≤ if s.mgmt.bifurcated = some true then 8 else 16) ∧ 1 ≤ sp ∧ sp ≤ 6 ∧ (sp = 6 → fl = true) :=
  ⟨{ aon := { railsUp := true }, mgmt := { perstAsserted := false } }, 16, 6, true, by decide +kernel⟩

theorem test_meets_LinkResetsAndErrors_5b : ∃ (s : State) (w sp : Nat) (fl : Bool), s.safety.latch.length < 32 ∧
    s.sessions.length = 16 ∧ s.aon.railsUp = true ∧ s.boot.mode ≠ 3 ∧ s.mgmt.perstAsserted = false ∧ (w = 4 ∨ w = 8
    ∨ w = 16) ∧ (w ≤ if s.mgmt.bifurcated = some true then 8 else 16) ∧ 1 ≤ sp ∧ sp ≤ 6 ∧ (sp = 6 → fl = true) ∧
    s.mgmt.bifurcated = some true :=
  ⟨{ aon := { railsUp := true }, mgmt := { perstAsserted := false, bifurcated := some true } }, 8, 5, false,
    by decide +kernel⟩

theorem test_meets_LinkResetsAndErrors_6 : ∃ (s : State) (w sp : Nat) (fl : Bool), s.safety.latch.length < 32 ∧
    s.sessions.length = 16 ∧ (w ∉ [4, 8, 16] ∨ s.mgmt.bifurcated = some true ∧ w = 16 ∨ sp ∉ [1, 2, 3, 4, 5, 6] ∨ sp
    = 6 ∧ fl = false) ∧ w ∉ [4, 8, 16] :=
  ⟨{ aon := { railsUp := true }, mgmt := { perstAsserted := false } }, 5, 1, true, by decide +kernel⟩

theorem test_meets_LinkResetsAndErrors_6b : ∃ (s : State) (w sp : Nat) (fl : Bool), s.safety.latch.length < 32 ∧
    s.sessions.length = 16 ∧ (w ∉ [4, 8, 16] ∨ s.mgmt.bifurcated = some true ∧ w = 16 ∨ sp ∉ [1, 2, 3, 4, 5, 6] ∨ sp
    = 6 ∧ fl = false) ∧ (s.mgmt.bifurcated = some true ∧ w = 16) :=
  ⟨{ aon := { railsUp := true }, mgmt := { perstAsserted := false, bifurcated := some true } }, 16, 1, true,
    by decide +kernel⟩

theorem test_meets_LinkResetsAndErrors_6c : ∃ (s : State) (w sp : Nat) (fl : Bool), s.safety.latch.length < 32 ∧
    s.sessions.length = 16 ∧ (w ∉ [4, 8, 16] ∨ s.mgmt.bifurcated = some true ∧ w = 16 ∨ sp ∉ [1, 2, 3, 4, 5, 6] ∨ sp
    = 6 ∧ fl = false) ∧ sp ∉ [1, 2, 3, 4, 5, 6] :=
  ⟨{ aon := { railsUp := true }, mgmt := { perstAsserted := false } }, 16, 7, true, by decide +kernel⟩

theorem test_meets_LinkResetsAndErrors_6d : ∃ (s : State) (w sp : Nat) (fl : Bool), s.safety.latch.length < 32 ∧
    s.sessions.length = 16 ∧ (w ∉ [4, 8, 16] ∨ s.mgmt.bifurcated = some true ∧ w = 16 ∨ sp ∉ [1, 2, 3, 4, 5, 6] ∨ sp
    = 6 ∧ fl = false) ∧ (sp = 6 ∧ fl = false) :=
  ⟨{ aon := { railsUp := true }, mgmt := { perstAsserted := false } }, 16, 6, false, by decide +kernel⟩

theorem test_meets_LinkResetsAndErrors_7 : ∃ (s : State), s.pcie.fns.length = 17 ∧ s.hub.counters.length = 32 :=
  ⟨{}, by decide +kernel⟩

theorem test_meets_LinkResetsAndErrors_8 : ∃ (s : State) (fn : Nat), s.pcie.fns.length = 17 ∧ s.hub.counters.length
    = 32 ∧ fn < 17 :=
  ⟨{}, 16, by decide +kernel⟩

theorem test_meets_FunctionResets_1 : ∃ (s : State) (fn : Nat), fn < 17 ∧ s.sessions.length = 16 ∧ s.pcie.fns.length
    = 17 ∧ s.classSOf (flrScope fn) = false :=
  ⟨tRun 3, 16, by decide +kernel⟩

theorem test_meets_FunctionResets_2 : ∃ (s : State) (fn : Nat), fn < 17 ∧ s.sessions.length = 16 ∧ s.pcie.fns.length
    = 17 ∧ s.classSOf (flrScope fn) = true ∧ s.safety.latch.length < 32 :=
  ⟨tSes 0 { state := 3, classS := true, fn := 16 }, 16, by decide +kernel⟩

theorem test_meets_FunctionResets_3 : ∃ (s : State) (fn : Nat), fn < 17 ∧ s.sessions.length = 16 ∧ s.pcie.fns.length
    = 17 ∧ (s.fnS fn).flrBusy = true :=
  ⟨{ pcie := { fns := List.replicate 17 { flrBusy := true } } }, 16, by decide +kernel⟩

theorem test_meets_FunctionResets_4 : ∃ (s : State) (fn : Nat), fn < 17 ∧ s.sessions.length = 16 ∧ s.pcie.fns.length
    = 17 ∧ (s.fnS fn).flrBusy = false :=
  ⟨{}, 16, by decide +kernel⟩

theorem test_meets_FunctionResets_5 : ∃ (s : State) (fn : Nat), fn < 17 ∧ s.sessions.length = 16 ∧ s.pcie.fns.length
    = 17 ∧ s.classSOf (flrScope fn) = false :=
  ⟨tRun 3, 16, by decide +kernel⟩

theorem test_meets_FunctionResets_6 : ∃ (s : State) (fn n : Nat), fn < 17 ∧ s.sessions.length = 16 ∧
    s.pcie.fns.length = 17 ∧ n < 16 :=
  ⟨{}, 16, 15, by decide +kernel⟩

theorem test_meets_ZereletLinks_1 : ∃ (s : State) (i n : Nat), i < 4 ∧ s.fabric.ports.length = 4 ∧ n < 256 ∧ (s.port
    i).enabled = true ∧ (s.port i).up = false :=
  ⟨tPorts { enabled := true }, 3, 255, by decide +kernel⟩

theorem test_meets_ZereletLinks_2 : ∃ (s : State) (i : Nat), i < 4 ∧ s.fabric.ports.length = 4 ∧ (s.port i).up =
    true :=
  ⟨tPorts (tPort 0), 3, by decide +kernel⟩

theorem test_meets_ZereletLinks_3 : ∃ (s : State) (i : Nat) (f : Flit), i < 4 ∧ s.fabric.ports.length = 4 ∧ f.vc < 4
    ∧ (s.port i).up = true ∧ f.crcOk = false :=
  ⟨tPorts (tPort 0), 3, tFlit false 1, by refine ⟨?_, ?_, ?_, ?_, (tSealed _).2⟩ <;> decide +kernel⟩

theorem test_meets_ZereletLinks_4 : ∃ (s : State) (i : Nat) (f : Flit), i < 4 ∧ s.fabric.ports.length = 4 ∧ f.vc < 4
    ∧ (s.port i).up = true ∧ f.crcOk = true ∧ f.kind < 4 ∧ f.lseq ≠ ((s.port i).rxSeq + 1) % 65536 :=
  ⟨tPorts (tPort 0), 3, tFlit true 2, by refine ⟨?_, ?_, ?_, ?_, (tSealed _).1, ?_⟩ <;> decide +kernel⟩

theorem test_meets_ZereletLinks_5 : ∃ (s : State) (i : Nat) (f : Flit), i < 4 ∧ s.fabric.ports.length = 4 ∧ f.vc < 4
    ∧ (s.port i).up = true ∧ f.crcOk = true ∧ f.kind < 4 ∧ f.lseq = ((s.port i).rxSeq + 1) % 65536 :=
  ⟨tPorts { tPort 0 with rxSeq := 65535 }, 3, tFlit true 0,
    by refine ⟨?_, ?_, ?_, ?_, (tSealed _).1, ?_⟩ <;> decide +kernel⟩

theorem test_meets_ZereletLinks_6 : ∃ (s : State) (i : Nat) (f : Flit), i < 4 ∧ s.fabric.ports.length = 4 ∧ f.vc < 4
    ∧ (s.port i).up = true ∧ f.crcOk = true ∧ f.kind = kindCredit :=
  ⟨tPorts (tPort 0), 3, tFlit true 0 4, by refine ⟨?_, ?_, ?_, ?_, (tSealed _).1, ?_⟩ <;> decide +kernel⟩

theorem test_meets_ZereletLinks_7 : ∃ (s : State) (i : Nat) (f : Flit), i < 4 ∧ s.fabric.ports.length = 4 ∧ f.vc < 4
    ∧ (s.port i).up = true ∧ f.crcOk = true ∧ f.kind = kindNack ∧ (∀ u ∈ (s.port i).unacked, seqReached f.lack
    u.flit.lseq = true) :=
  ⟨tPorts (tPort 0), 3, { tFlit true 0 5 with lack := 5 }.sealed,
    by refine ⟨?_, ?_, ?_, ?_, (tSealed _).1, ?_⟩ <;> decide +kernel⟩

theorem test_meets_ZereletLinks_8 : ∃ (s : State) (i lack : Nat), i < 4 ∧ s.fabric.ports.length = 4 ∧ lack < 65536 ∧
    (s.port i).up = true ∧ (∀ u ∈ (s.port i).unacked, seqReached lack u.flit.lseq = true) :=
  ⟨tPorts (tPort 7), 3, 5, by decide +kernel⟩

theorem test_meets_ZereletLinks_9 : ∃ (s : State) (i lack : Nat) (left : List Unacked), i < 4 ∧
    s.fabric.ports.length = 4 ∧ lack < 65536 ∧ (s.port i).up = true ∧ left = List.filter (fun u => !seqReached lack
    u.flit.lseq) (s.port i).unacked ∧ left ≠ [] ∧ (∀ u ∈ left, u.replays < 7) :=
  ⟨tPorts (tPort 6), 3, 4, _, by refine ⟨?_, ?_, ?_, ?_, rfl, ?_⟩ <;> decide +kernel⟩

theorem test_meets_ZereletLinks_10 : ∃ (s : State) (i lack : Nat), i < 4 ∧ s.fabric.ports.length = 4 ∧ lack < 65536
    ∧ (s.port i).up = true ∧ (∃ u ∈ (s.port i).unacked, seqReached lack u.flit.lseq = false ∧ 7 ≤ u.replays) :=
  ⟨tPorts (tPort 7), 3, 4, by refine ⟨?_, ?_, ?_, ?_, ⟨_, .head _, by decide +kernel⟩⟩ <;> decide +kernel⟩

theorem test_meets_ZereletLinks_11 : ∃ (s : State) (i : Nat), i < 4 ∧ s.fabric.ports.length = 4 ∧ (s.port i).up =
    true ∧ (s.port i).tx = [] ∧ (∃ n ∈ (s.port i).owed, 0 < n) :=
  ⟨tPorts (tPort 0), 3, by decide +kernel⟩

theorem test_meets_ZereletLinks_12 : ∃ (s : State) (i : Nat) (g : GrantAnswer), i < 4 ∧ s.fabric.ports.length = 4 ∧
    g.vc < 4 ∧ g.granted = true ∧ (∃ m ∈ s.fabric.msgs, FabMsg.same g.vc g.msg m = true ∧ m.requested = true ∧
    m.granted = false) :=
  ⟨tPorts (tPort 0) { fabric := { msgs := [⟨65535, 3, 63, [], true, false, false, none⟩] } }, 3, ⟨3, 65535, true⟩,
    by decide +kernel⟩

theorem test_meets_ZereletLinks_13 : ∃ (s : State) (i : Nat) (g : GrantAnswer) (m : FabMsg), i < 4 ∧
    s.fabric.ports.length = 4 ∧ g.vc < 4 ∧ g.granted = false ∧ List.find? (fun y => FabMsg.same g.vc g.msg y &&
    y.requested && !y.granted) s.fabric.msgs = some m :=
  ⟨tPorts (tPort 0) { fabric := { msgs := [⟨65535, 3, 63, [], true, false, false, none⟩] } }, 3, ⟨3, 65535, false⟩,
    ⟨65535, 3, 63, [], true, false, false, none⟩, by decide +kernel⟩

theorem test_meets_ZereletLinks_14 : ∃ (s : State) (i : Nat) (g : GrantAnswer), i < 4 ∧ s.fabric.ports.length = 4 ∧
    (∀ m ∈ s.fabric.msgs, FabMsg.same g.vc g.msg m = true → m.requested = false ∨ m.granted = true) :=
  ⟨tPorts (tPort 0) { fabric := { msgs := [⟨65535, 3, 63, [], true, false, false, none⟩] } }, 3, ⟨2, 65535, true⟩,
    by decide +kernel⟩

theorem test_meets_ZereletLinks_15 : ∃ (s : State) (i t : Nat), i < 4 ∧ s.fabric.ports.length = 4 ∧ (s.port i).up =
    true ∧ (∀ (p : Nat), (s.port i).pinged = some p → p + 1024 * ticksPerUs ≤ max s.time.now t) :=
  ⟨tPorts { tPort 0 with pinged := some 1 }, 3, 204801, by decide +kernel, by decide +kernel, by decide +kernel, (by
    rintro _ ⟨⟩; decide)⟩

theorem test_meets_ZereletLinks_16 : ∃ (s : State) (i t : Nat), i < 4 ∧ s.fabric.ports.length = 4 ∧ ((s.port i).up =
    false ∨ ∃ p, (s.port i).pinged = some p ∧ max s.time.now t < p + 1024 * ticksPerUs) ∧ (s.port i).up = false :=
  ⟨tPorts { enabled := true }, 3, 0, by decide +kernel⟩

theorem test_meets_ZereletLinks_16b : ∃ (s : State) (i t : Nat), i < 4 ∧ s.fabric.ports.length = 4 ∧ ((s.port i).up =
    false ∨ ∃ p, (s.port i).pinged = some p ∧ max s.time.now t < p + 1024 * ticksPerUs) :=
  ⟨tPorts { tPort 0 with pinged := some 1 }, 3, 204800, by decide +kernel, by decide +kernel, (.inr ⟨1, by decide⟩)⟩

theorem test_meets_CensusEvents_1 : ∃ (s : State) (i epoch : Nat), i < 4 ∧ s.fabric.ports.length = 4 ∧ epoch < 2 ^
    32 ∧ (s.fabric.ports.any fun x => x.enabled) = true ∧ s.fabric.highestEpoch < epoch :=
  ⟨tPorts (tPort 0), 3, 2 ^ 32 - 1, by decide +kernel⟩

theorem test_meets_CensusEvents_2 : ∃ (s : State) (i epoch : Nat), i < 4 ∧ s.fabric.ports.length = 4 ∧ epoch ≤
    s.fabric.highestEpoch :=
  ⟨tPorts (tPort 0), 3, 0, by decide +kernel⟩

theorem test_meets_CensusEvents_3 : ∃ (s : State) (i : Nat), i < 4 ∧ s.fabric.ports.length = 4 ∧ (s.port i).up =
    true ∧ s.inCensus = false ∧ (s.port i).enabled = true :=
  ⟨tPorts (tPort 0), 3, by decide +kernel⟩

theorem test_meets_CensusEvents_4 : ∃ (s : State) (i t e : Nat), i < 4 ∧ s.fabric.ports.length = 4 ∧
    s.fabric.enabledAt = some e ∧ e + 1000 * ticksPerUs ≤ max s.time.now t ∧ (s.fabric.ports.any fun x => x.enabled)
    = true ∧ (s.fabric.ports.any fun x => x.up) = false ∧ s.inCensus = false :=
  ⟨tPorts { enabled := true } { fabric := { enabledAt := some 0 } }, 3, 200000, 0, by decide +kernel⟩

theorem test_meets_CensusEvents_5 : ∃ (s : State) (i : Nat) (r : CensusReport), i < 4 ∧ s.fabric.ports.length = 4 ∧
    s.fabric.census = 1 ∧ r.epoch = s.fabric.epoch ∧ r.epoch < 2 ^ 32 ∧ r.epoch ≤ s.fabric.highestEpoch :=
  ⟨tPorts {} (tCensus 1), 3, { epoch := 5, hash := [0], bound := 255, neighbours := [] }, by decide +kernel⟩

theorem test_meets_CensusEvents_6 : ∃ (s : State) (i t : Nat), i < 4 ∧ s.fabric.ports.length = 4 ∧ s.fabric.census =
    1 ∧ max s.time.now t < s.fabric.quietSince + 20 * ticksPerUs :=
  ⟨tCensus 1, 3, 3999, by decide +kernel⟩

theorem test_meets_CensusEvents_7 : ∃ (s : State) (i t : Nat), i < 4 ∧ s.fabric.ports.length = 4 ∧ s.fabric.census =
    1 ∧ s.fabric.quietSince + 20 * ticksPerUs ≤ max s.time.now t ∧ s.collected = true ∧ Option.map (fun x => x.hash)
    (sortReports s.fabric.reports).head? ≠ some s.part.certHash :=
  ⟨tCensus 1 { fabric := { reports := [{ epoch := 5, hash := [0], bound := 255, neighbours := [] }] } }, 3, 4000,
    by decide +kernel⟩

theorem test_meets_CensusEvents_8 : ∃ (s : State) (i : Nat) (r : RouteMsg), i < 4 ∧ s.fabric.ports.length = 4 ∧
    (s.fabric.census = 1 ∨ s.fabric.census = 2) ∧ r.epoch = s.fabric.epoch ∧ r.epoch < 2 ^ 32 ∧ r.epoch ≤
    s.fabric.highestEpoch ∧ s.ownId r ≠ 255 ∧ routeLeader r ≠ s.ownId r ∧ (routeSealed r = false ∨ routeWithin8 r =
    true) :=
  ⟨tPorts {} (tCensus 2), 3, tRoute [1] [0], by decide +kernel⟩

theorem test_meets_CensusEvents_9 : ∃ (s : State) (i : Nat) (r : RouteMsg), i < 4 ∧ s.fabric.ports.length = 4 ∧
    (s.fabric.census = 1 ∨ s.fabric.census = 2) ∧ r.epoch = s.fabric.epoch ∧ r.epoch < 2 ^ 32 ∧ r.epoch ≤
    s.fabric.highestEpoch ∧ routeSealed r = true ∧ routeWithin8 r = false ∧ s.fabric.again = false :=
  ⟨tPorts {} (tCensus 2), 3, { tRoute [1] [0] with tableHash := hash8 (routeTable (tRoute [1] [0])) },
    by refine ⟨?_, ?_, ?_, ?_, ?_, ?_, (beq_self_eq_true _), ?_⟩ <;> decide +kernel⟩

theorem test_meets_CensusEvents_10 : ∃ (s : State) (i : Nat) (v : VerifyAnswer), i < 4 ∧ s.fabric.ports.length = 4 ∧
    (s.fabric.census ≠ 3 ∨ v.epoch ≠ s.fabric.epoch) ∧ s.fabric.census ≠ 3 :=
  ⟨tPorts {}, 3, ⟨0, true⟩, by decide +kernel⟩

theorem test_meets_CensusEvents_10b : ∃ (s : State) (i : Nat) (v : VerifyAnswer), i < 4 ∧ s.fabric.ports.length = 4 ∧
    (s.fabric.census ≠ 3 ∨ v.epoch ≠ s.fabric.epoch) ∧ v.epoch ≠ s.fabric.epoch :=
  ⟨tPorts {} (tCensus 3), 3, ⟨4, true⟩, by decide +kernel⟩

theorem test_meets_CensusEvents_11 : ∃ (s : State) (i node : Nat) (v : VerifyAnswer) (r : RouteMsg), i < 4 ∧
    s.fabric.ports.length = 4 ∧ node < 256 ∧ v.epoch < 2 ^ 32 ∧ v.epoch = s.fabric.epoch ∧ s.fabric.census = 3 ∧
    s.fabric.routeMsg = some r ∧ routeLeader r = s.ownId r :=
  ⟨tPorts {} (tCensus 3 { fabric := { routeMsg := some (tRoute [1] [2]) } }), 3, 63, ⟨5, true⟩, tRoute [1] [2],
    by decide +kernel⟩

theorem test_meets_CensusEvents_12 : ∃ (s : State) (i : Nat) (r : RouteMsg), i < 4 ∧ s.fabric.ports.length = 4 ∧
    s.fabric.census = 3 ∧ s.fabric.routeMsg = some r ∧ r.epoch = s.fabric.epoch ∧ r.epoch < 2 ^ 32 ∧ s.fabric.again
    = false ∧ s.frame.devState ≠ 2 :=
  ⟨tPorts {} (tCensus 3 { fabric := { routeMsg := some (tRoute [1] [2]) } }), 3, tRoute [1] [2], by decide +kernel⟩

theorem test_meets_CensusEvents_13 : ∃ (s : State) (i t : Nat), i < 4 ∧ s.fabric.ports.length = 4 ∧ s.inCensus =
    true ∧ s.fabric.censusStart + 50000 * ticksPerUs ≤ max s.time.now t ∧ s.fabric.again = false :=
  ⟨tCensus 3, 3, 10000000, by decide +kernel⟩

theorem test_meets_CensusEvents_14 : ∃ (s : State) (i t : Nat), i < 4 ∧ s.fabric.ports.length = 4 ∧ (s.inCensus =
    false ∨ max s.time.now t < s.fabric.censusStart + 50000 * ticksPerUs) :=
  ⟨tCensus 3, 3, 9999999, by decide +kernel⟩

theorem test_meets_FabricCommands_1 : ∃ (s : State) (fn slot : Nat) (c : Cmd), isSlot fn slot ∧
    s.fabric.ports.length = 4 ∧ s.isReady 2561 fn slot c ∧ c.payload = [] :=
  ⟨tPut (tCmd 2561), 16, 31, tCmd 2561, by unfold isSlot State.isReady; decide +kernel⟩

theorem test_meets_FabricCommands_2 : ∃ (s : State) (fn slot : Nat) (c : Cmd), isSlot fn slot ∧
    s.fabric.ports.length = 4 ∧ s.isReady 2562 fn slot c ∧ c.payload.length = 8 ∧ allZero (slice c.payload 1 7) =
    true ∧ getU c.payload 0 1 < 16 :=
  ⟨tPut (tCmd 2562 ([15] ++ zeros 7)), 16, 31, tCmd 2562 ([15] ++ zeros 7),
    by unfold isSlot State.isReady; decide +kernel⟩

theorem test_meets_FabricCommands_3 : ∃ (s : State) (fn slot : Nat) (c : Cmd), isSlot fn slot ∧
    s.fabric.ports.length = 4 ∧ s.isReady 2563 fn slot c ∧ c.payload = [] :=
  ⟨tPut (tCmd 2563), 16, 31, tCmd 2563, by unfold isSlot State.isReady; decide +kernel⟩

theorem test_meets_FabricCommands_4 : ∃ (s : State) (fn slot a len : Nat) (c : Cmd), isSlot fn slot ∧
    s.fabric.ports.length = 4 ∧ s.isReady 2564 fn slot c ∧ c.payload = [] ∧ c.descs =
    [{ addr := a, len := len, write := true }] ∧ s.dmaOk fn = true :=
  ⟨tDma (tPut (tCmd 2564 [] 0 [{ addr := 4096, len := 8, write := true }])), 16, 31, 4096, 8, tCmd 2564 [] 0
    [{ addr := 4096, len := 8, write := true }], by unfold isSlot State.isReady; decide +kernel⟩

theorem test_meets_FabricCommands_5 : ∃ (s : State) (fn slot : Nat) (c : Cmd), isSlot fn slot ∧
    s.fabric.ports.length = 4 ∧ s.isReady 2565 fn slot c ∧ c.payload.length = 8 ∧ allZero (slice c.payload 1 7) =
    true ∧ s.frame.devState = 0 ∧ (getU c.payload 0 1 < 64 ∨ getU c.payload 0 1 = 255) ∧ s.part.ledgerRoom 2 = true
    :=
  ⟨tPut (tCmd 2565 ([63] ++ zeros 7)), 16, 31, tCmd 2565 ([63] ++ zeros 7),
    by unfold isSlot State.isReady; decide +kernel⟩

theorem test_meets_FabricCommands_6 : ∃ (s : State) (fn slot : Nat) (c : Cmd) (rs : List (List Byte)), isSlot fn
    slot ∧ s.fabric.ports.length = 4 ∧ s.isReady 2566 fn slot c ∧ c.payload = [] ∧ s.anySession [3] = false ∧
    tableEntries 32 c.bulk = Sum.inr rs ∧ (∀ r ∈ rs, allZero (slice r 4 4) = true) :=
  ⟨tPut (tCmd 2566 [] 0 [] ([1, 0] ++ zeros 6 ++ zeros 32)), 16, 31, tCmd 2566 [] 0 [] ([1, 0] ++ zeros 6 ++ zeros
    32), [zeros 32], by unfold isSlot State.isReady; decide +kernel⟩

theorem test_meets_FabricCommands_7 : ∃ (s : State) (fn slot : Nat) (c : Cmd) (rs : List (List Byte)), isSlot fn
    slot ∧ s.fabric.ports.length = 4 ∧ s.isReady 2567 fn slot c ∧ c.payload = [] ∧ s.anySession [3] = false ∧
    tableEntries 8 c.bulk = Sum.inr rs ∧ (∀ r ∈ rs, allZero (slice r 4 4) = true) :=
  ⟨tPut (tCmd 2567 [] 0 [] ([1, 0] ++ zeros 6 ++ zeros 8)), 16, 31, tCmd 2567 [] 0 [] ([1, 0] ++ zeros 6 ++ zeros
    8), [zeros 8], by unfold isSlot State.isReady; decide +kernel⟩

theorem test_meets_FabricMessages_1 : ∃ (s : State) (port src t now : Nat) (frame : BitVec 32), port < 4 ∧ src < 64
    ∧ now = max s.time.now t ∧ (frame = if s.gridRuns = true ∧ s.frame.phase = Phase.opened ∧ now < s.frame.openTime
    + s.frame.conf.tc * ticksPerUs then s.frame.counter else s.frame.counter + 1) ∧ s.frame.devState ≠ 3 :=
  ⟨{}, 3, 63, 0, _, _, by decide +kernel, by decide +kernel, by rfl, by rfl, by decide +kernel⟩

theorem test_meets_FabricMessages_1b : ∃ (s : State) (port src t now : Nat) (frame : BitVec 32), port < 4 ∧ src < 64
    ∧ now = max s.time.now t ∧ (frame = if s.gridRuns = true ∧ s.frame.phase = Phase.opened ∧ now < s.frame.openTime
    + s.frame.conf.tc * ticksPerUs then s.frame.counter else s.frame.counter + 1) ∧ s.frame.devState ≠ 3 ∧
    (s.gridRuns = true ∧ s.frame.phase = Phase.opened ∧ now < s.frame.openTime + s.frame.conf.tc * ticksPerUs) :=
  ⟨tDev 1 .opened, 3, 63, 0, _, _, by refine ⟨?_, ?_, rfl, rfl, ?_⟩ <;> decide +kernel⟩

theorem test_meets_FabricMessages_3 : ∃ (s : State) (port src t now : Nat) (frame : BitVec 32), port < 4 ∧ src < 64
    ∧ now = max s.time.now t ∧ (frame = if s.gridRuns = true ∧ s.frame.phase = Phase.opened ∧ now < s.frame.openTime
    + s.frame.conf.tc * ticksPerUs then s.frame.counter else s.frame.counter + 1) ∧ s.frame.devState = 3 :=
  ⟨tDev 3, 3, 63, 0, _, _, by decide +kernel, by decide +kernel, by rfl, by rfl, by decide +kernel⟩

theorem test_meets_FabricMessages_5 : ∃ (s : State) (msg : Nat), (∀ c ∈ s.mbx.cmds, c.proxyMsg = some msg →
    c.response ≠ none) :=
  ⟨tPut { tSent with proxyMsg := some 2 }, 3, by decide +kernel⟩

theorem test_meets_FabricMessages_6 : ∃ (s : State) (msg : Nat) (c : Cmd) (n : Nat), List.find? (fun x => x.proxyMsg
    == some msg && x.response.isNone) s.mbx.cmds = some c ∧ s.cmd? c.fn c.slot = some c ∧ n = Sum.elim (fun _ => 0)
    List.length c.recordList :=
  ⟨tPut tSent, 3, tSent, 1, by decide +kernel⟩

theorem test_meets_FabricMessages_7 : ∃ (s : State) (port src t now : Nat) (frame : BitVec 32), port < 4 ∧ src < 64
    ∧ now = max s.time.now t ∧ (frame = if s.gridRuns = true ∧ s.frame.phase = Phase.opened ∧ now < s.frame.openTime
    + s.frame.conf.tc * ticksPerUs then s.frame.counter else s.frame.counter + 1) ∧ s.frame.devState = 3 :=
  ⟨tDev 3, 3, 63, 0, _, _, by decide +kernel, by decide +kernel, by rfl, by rfl, by decide +kernel⟩

theorem test_meets_FabricMessages_8 : ∃ (s : State) (port src world seq : Nat) (urgent : Bool) (body : List Byte) (t
    : Nat) (c : Cmd) (rs : List (List Byte)), port < 4 ∧ src < 64 ∧ s.frame.devState ≠ 3 ∧ s.mbx.cmds.length < 65536
    ∧ (∀ x ∈ s.mbx.cmds, x.fn = fabricFn → x.response = none) ∧ s.allRouted ∧ c = (s.at t).fabricCmd port src urgent
    world seq body ∧ c.world ≤ 3 ∧ s.isProxy c.world = false ∧ (s.wd c.world).loaded = true ∧ c.recordList = Sum.inr
    rs ∧ rs ≠ [] ∧ (urgent = true → rs.length ≤ 16) ∧ (∀ i < rs.length, recordBad urgent c.world (s.wd c.world)
    (rs.getD i []) = none) ∧ (urgent = false → ∀ r ∈ rs, (recFrame r - c.frame).toInt ≤ 16) :=
  ⟨tWorld, 3, 63, 0, 9, false, tGood, 0, _, [tGood],
    by unfold State.allRouted; refine ⟨?_, ?_, ?_, ?_, ?_, ?_, rfl, ?_⟩ <;> decide +kernel⟩

theorem test_meets_FabricMessages_9 : ∃ (s : State) (port src world seq : Nat) (urgent : Bool) (body : List Byte) (t
    : Nat) (c : Cmd) (status arg : Nat), port < 4 ∧ src < 64 ∧ s.frame.devState ≠ 3 ∧ s.mbx.cmds.length < 65536 ∧ (∀
    x ∈ s.mbx.cmds, x.fn = fabricFn → x.response = none) ∧ s.allRouted ∧ c = (s.at t).fabricCmd port src urgent
    world seq body ∧ s.fabricRefuses urgent c status arg :=
  ⟨{}, 3, 63, 4, 9, true, [], 0, _, 0x0106, 0,
    by unfold State.allRouted State.fabricRefuses; refine ⟨?_, ?_, ?_, ?_, ?_, ?_, rfl, (.inl (by decide +kernel))⟩ <;> decide +kernel⟩

theorem test_meets_FabricMessages_9b : ∃ (s : State) (port src world seq : Nat) (urgent : Bool) (body : List Byte) (t
    : Nat) (c : Cmd) (status arg : Nat), port < 4 ∧ src < 64 ∧ s.frame.devState ≠ 3 ∧ s.mbx.cmds.length < 65536 ∧ (∀
    x ∈ s.mbx.cmds, x.fn = fabricFn → x.response = none) ∧ s.allRouted ∧ c = (s.at t).fabricCmd port src urgent
    world seq body ∧ s.fabricRefuses urgent c status arg :=
  ⟨{}, 3, 63, 3, 9, false, [], 0, _, 0x0207, 0,
    by
    unfold State.allRouted State.fabricRefuses;
    refine ⟨?_, ?_, ?_, ?_, ?_, ?_, rfl, (.inr (.inr (.inl (by decide +kernel))))⟩ <;> decide +kernel⟩

theorem test_meets_FabricMessages_10 : ∃ (s : State) (port src world seq : Nat) (urgent : Bool) (body : List Byte)
    (t : Nat) (c : Cmd) (e : Shard), port < 4 ∧ src < 64 ∧ s.frame.devState ≠ 3 ∧ s.mbx.cmds.length < 65536 ∧ (∀ x ∈
    s.mbx.cmds, x.fn = fabricFn → x.response = none) ∧ s.allRouted ∧ c = (s.at t).fabricCmd port src urgent world
    seq body ∧ c.world ≤ 3 ∧ List.find? (fun e => e.home != s.fabric.nodeId && e.localWorld == c.world)
    s.farming.shards = some e ∧ s.reachable e.home = true ∧ (s.fabric.census = 4 → (s.portTo e.home).isSome = true)
    :=
  ⟨{ farming := { shards := [⟨0, 63, 2, 3, 0, 0, 0⟩] }, fabric := { census := 1 } }, 3, 63, 3, 9, true, [], 0, _,
    ⟨0, 63, 2, 3, 0, 0, 0⟩, by unfold State.allRouted; refine ⟨?_, ?_, ?_, ?_, ?_, ?_, rfl, ?_⟩ <;> decide +kernel⟩

theorem test_meets_PowerInputs_1 : ∃ (s : State), s.aon.auxPresent = false ∧ s.aon.pstate = 0 :=
  ⟨{ aon := { auxPresent := false, pstate := 0 } }, by decide +kernel⟩

theorem test_meets_PowerInputs_2 : ∃ (s : State), (s.aon.auxPresent = true ∨ s.aon.pstate ≠ 0) :=
  ⟨{ aon := { auxPresent := false, pstate := 1 } }, by decide +kernel⟩

theorem test_meets_PowerInputs_3 : ∃ (s : State), (s.aon.railsUp = true ∨ s.aon.mainInRange = true) :=
  ⟨{ aon := { railsUp := true } }, by decide +kernel⟩

theorem test_meets_PowerInputs_4 : ∃ (s : State), s.aon.railsUp = false ∧ s.aon.mainInRange = false :=
  ⟨{}, by decide +kernel⟩

theorem test_meets_PowerInputs_5 : ∃ (s : State) (t : Nat), s.aon.railsUp = false ∧ (s.aon.auxPresent = true ∧
    s.aon.pstate ≠ 5 ∨ s.aon.pstate = 5 ∧ s.aon.mainInRange = false ∧ s.aon.shutdownSince + 1000000 * ticksPerUs ≤
    max s.time.now t) :=
  ⟨{ aon := { pstate := 5 } }, 200000000, by decide +kernel⟩

theorem test_meets_PowerInputs_5b : ∃ (s : State) (t : Nat), s.aon.railsUp = false ∧ (s.aon.auxPresent = true ∧
    s.aon.pstate ≠ 5 ∨ s.aon.pstate = 5 ∧ s.aon.mainInRange = false ∧ s.aon.shutdownSince + 1000000 * ticksPerUs ≤
    max s.time.now t) ∧ (s.aon.auxPresent = true ∧ s.aon.pstate ≠ 5) :=
  ⟨{ aon := { auxPresent := true, pstate := 1 } }, 0, by decide +kernel⟩

theorem test_meets_PowerInputs_6 : ∃ (s : State) (t : Nat), (s.aon.railsUp = true ∨ s.aon.pstate ≠ 5 ∧
    s.aon.auxPresent = false ∨ s.aon.pstate = 5 ∧ (s.aon.mainInRange = true ∨ max s.time.now t < s.aon.shutdownSince
    + 1000000 * ticksPerUs)) :=
  ⟨{ aon := { pstate := 5 } }, 199999999, by decide +kernel⟩

theorem test_meets_PowerInputs_6b : ∃ (s : State) (t : Nat), (s.aon.railsUp = true ∨ s.aon.pstate ≠ 5 ∧
    s.aon.auxPresent = false ∨ s.aon.pstate = 5 ∧ (s.aon.mainInRange = true ∨ max s.time.now t < s.aon.shutdownSince
    + 1000000 * ticksPerUs)) ∧ (s.aon.pstate ≠ 5 ∧ s.aon.auxPresent = false) :=
  ⟨{ aon := { auxPresent := false } }, 0, by decide +kernel⟩

theorem test_meets_PowerInputs_7 : ∃ (s : State) (t : Nat) (i : Instr) (b p : Nat), (i, b, p) ∈ [(Instr.undervoltage
    t, 3, s.aon.pstate), (Instr.overvoltage t, 4, 5), (Instr.railFault t, 5, 5)] ∧ s.aon.railsUp = true :=
  ⟨{ aon := { railsUp := true, pstate := 4 } }, 0, .undervoltage 0, 3, 4, by decide +kernel⟩

theorem test_meets_PowerInputs_8 : ∃ (s : State) (t : Nat), s.aon.railsUp = false ∧ (s.aon.auxPresent = true ∧
    s.aon.pstate ≠ 5 ∨ s.aon.pstate = 5 ∧ s.aon.mainInRange = false ∧ s.aon.shutdownSince + 1000000 * ticksPerUs ≤
    max s.time.now t) :=
  ⟨{ aon := { pstate := 5 } }, 200000000, by decide +kernel⟩

theorem test_meets_PowerInputs_8b : ∃ (s : State) (t : Nat), s.aon.railsUp = false ∧ (s.aon.auxPresent = true ∧
    s.aon.pstate ≠ 5 ∨ s.aon.pstate = 5 ∧ s.aon.mainInRange = false ∧ s.aon.shutdownSince + 1000000 * ticksPerUs ≤
    max s.time.now t) ∧ (s.aon.auxPresent = true ∧ s.aon.pstate ≠ 5) :=
  ⟨{ aon := { auxPresent := true, pstate := 1 } }, 0, by decide +kernel⟩

theorem test_meets_PowerInputs_9 : ∃ (s : State), s.aon.railsUp = false ∧ s.aon.auxPresent = false :=
  ⟨{ aon := { auxPresent := false } }, by decide +kernel⟩

theorem test_meets_PowerInputs_10 : ∃ (s : State) (t : Nat) (i : Instr), s.aon.railsUp = false ∧ i ∈
    [Instr.overvoltage t, Instr.railFault t] :=
  ⟨{}, 0, .overvoltage 0, by decide +kernel, (by simp)⟩

theorem test_meets_PowerInputs_11 : ∃ (s : State) (t due : Nat), s.aon.railsOffDue = some due ∧ due ≤ max s.time.now
    t ∧ s.aon.auxPresent = false ∧ s.aon.mainInRange = false :=
  ⟨{ aon := { railsOffDue := some 7, auxPresent := false } }, 7, 7, by decide +kernel⟩

theorem test_meets_PowerInputs_12 : ∃ (s : State) (t due : Nat), s.aon.railsOffDue = some due ∧ due ≤ max s.time.now
    t ∧ (s.aon.auxPresent = true ∨ s.aon.mainInRange = true) :=
  ⟨{ aon := { railsOffDue := some 7 } }, 7, 7, by decide +kernel⟩

theorem test_meets_PowerInputs_13 : ∃ (s : State) (t : Nat), (∀ (due : Nat), s.aon.railsOffDue = some due → max
    s.time.now t < due) :=
  ⟨{ aon := { railsOffDue := some 7 } }, 6, by intro u h; cases h; decide +kernel⟩

theorem test_meets_PowerControl_1 : ∃ (v : Nat), v / 65536 = 20567 ∧ bit v 0 = true ∧ bit v 1 = false ∧ bit v 2 =
    false :=
  ⟨20567 * 65536 + 1, by decide +kernel⟩

theorem test_meets_PowerControl_2 : ∃ (s : State) (v : Nat), v / 65536 = 20567 ∧ bit v 0 = false ∧ bit v 1 = true ∧
    bit v 2 = false ∧ s.aon.pstate = 1 :=
  ⟨{}, 20567 * 65536 + 2, by decide +kernel⟩

theorem test_meets_PowerControl_3 : ∃ (s : State) (v t : Nat), v / 65536 = 20567 ∧ bit v 0 = false ∧ bit v 1 = false
    ∧ bit v 2 = true ∧ s.aon.pstate = 5 ∧ (∀ (u : Nat), s.aon.tripTime = some u → u + 10000000 * ticksPerUs ≤ max
    s.time.now t) :=
  ⟨{ aon := { pstate := 5, tripTime := some 0 } }, 20567 * 65536 + 4, 2000000000, by decide +kernel,
    by decide +kernel, by decide +kernel, by decide +kernel, by decide +kernel,
    by intro u h; cases h; decide +kernel⟩

theorem test_meets_PowerControl_4 : ∃ (s : State) (v t : Nat) (i : Instr), (v / 65536 ≠ 20567 ∨ (bit v 0 && bit v 2)
    = true ∨ bit v 0 = false ∧ bit v 1 = false ∧ bit v 2 = true ∧ ∃ u, s.aon.tripTime = some u ∧ max s.time.now t <
    u + 10000000 * ticksPerUs) ∧ i ∈ [Instr.pwrCtlOff v t, Instr.pwrCtlWake v t, Instr.pwrCtlRestart v t] :=
  ⟨{ aon := { pstate := 5, tripTime := some 0 } }, 20567 * 65536 + 4, 1999999999, .pwrCtlRestart (20567 * 65536 + 4)
    1999999999, (.inr (.inr ⟨by decide +kernel, by decide +kernel, by decide +kernel, 0, by decide +kernel⟩)),
    by decide +kernel⟩

theorem test_meets_PowerControl_7 : ∃ (s : State) (k : Nat), k < 4 ∧ s.stks.length = 4 ∧ s.stackNeed = true ∧ (s.stk
    k).hubOnly = true ∧ s.aon.railsUp = true :=
  ⟨{ frame := { devState := 1 }, aon := { railsUp := true } }, 3, by decide +kernel⟩

theorem test_meets_PowerControl_8 : ∃ (s : State) (k : Nat), k < 4 ∧ s.stks.length = 4 ∧ s.stackNeed = false ∧
    (s.stk k).hubOnly = false :=
  ⟨{ aon := { railsUp := true }, stks := List.replicate 4 { hubOnly := false } }, 3, by decide +kernel⟩

theorem test_meets_PowerControl_9 : ∃ (s : State) (k : Nat), k < 4 ∧ s.stks.length = 4 ∧ s.stackNeed = true ∧ (s.stk
    k).hubOnly = true ∧ s.aon.railsUp = true :=
  ⟨{ frame := { devState := 1 }, aon := { railsUp := true } }, 3, by decide +kernel⟩

theorem test_meets_HeatAndPowerLimit_1 : ∃ (s : State) (tripped : Nat) (hub hbm : Bool), s.aon.railsUp = true ∧
    tripped < 2 ^ 64 ∧ (tripped ≠ 0 ∨ hub = true ∨ hbm = true) :=
  ⟨{ aon := { railsUp := true } }, 2 ^ 64 - 1, false, false, by decide +kernel⟩

theorem test_meets_HeatAndPowerLimit_2 : ∃ (s : State) (tripped : Nat), s.aon.railsUp = true ∧ tripped = 0 :=
  ⟨{ aon := { railsUp := true } }, 0, by decide +kernel⟩

theorem test_meets_HeatAndPowerLimit_3 : ∃ (s : State) (k : Nat) (temps : List Int), s.aon.railsUp = true ∧ k < 4 ∧
    s.aon.thermStep.length = 4 ∧ temps ≠ [] :=
  ⟨{ aon := { railsUp := true } }, 3, [100], by decide +kernel⟩

theorem test_meets_HeatAndPowerLimit_4 : ∃ (s : State) (h : Nat), s.aon.railsUp = true ∧ h < 2 ∧
    s.hub.hbmBand.length = 2 ∧ s.hub.hbmTemp.length = 2 :=
  ⟨{ aon := { railsUp := true } }, 1, by decide +kernel⟩

theorem test_meets_HeatAndPowerLimit_5 : ∃ (s : State) (tripped : Nat) (hub hbm : Bool), s.aon.railsUp = true ∧
    tripped < 2 ^ 64 ∧ (tripped ≠ 0 ∨ hub = true ∨ hbm = true) :=
  ⟨{ aon := { railsUp := true } }, 2 ^ 64 - 1, false, false, by decide +kernel⟩

theorem test_meets_TamperTestAndBoot_1 : ∃ (s : State) (sources : List Nat), s.armed = true ∧ s.aon.railsUp = true ∧
    sources ≠ [] ∧ (∀ k ∈ sources, k < 5) ∧ s.mgmt.tamperCount < 65530 :=
  ⟨{ aon := { railsUp := true }, mgmt := { tamperCount := 65529 } }, [0, 4], by decide +kernel⟩

theorem test_meets_TamperTestAndBoot_2 : ∃ (s : State) (sources : List Nat), s.armed = false ∧ (∀ k ∈ sources, k <
    5) :=
  ⟨{ aon := { railsUp := true }, part := { lifecycle := 0 } }, [4], by decide +kernel⟩

theorem test_meets_TamperTestAndBoot_4 : ∃ (s : State) (code : Nat), code < 256 ∧ s.aon.railsUp = true :=
  ⟨{ aon := { railsUp := true } }, 255, by decide +kernel⟩

theorem test_meets_TamperTestAndBoot_5 (bank : List Byte) (h : ({} : Part).bankBad bank = none) : ∃ (s : State) (sel
    : Bool) (a i : Nat), (s.aon.pstate = 2 ∧ s.aon.railsUp = true ∨ s.safety.resetUnderWay = true) ∧ s.boot.cfwUp =
    false ∧ s.boot.mode ≠ 3 ∧ s.part.lifecycle ≠ 5 ∧ (s.flash.bootBank.read.getD 0 ^^^ if s.mgmt.bootSel.getD sel =
    true then 1 else 0) = a ∧ a < 2 ∧ s.flash.verified.length = 2 ∧ (i = a ∧ s.part.bankBad (s.flash.banks.getD a
    []) = none ∨ i = 1 - a ∧ s.part.bankBad (s.flash.banks.getD a []) ≠ none ∧ s.part.bankBad (s.flash.banks.getD (1
    - a) []) = none) :=
  ⟨tBank bank, false, 0, 0, (.inl ⟨rfl, rfl⟩), by rfl, (by show (0 : Nat) ≠ 3; decide),
    (by show (2 : Nat) ≠ 5; decide), (by show (0 ^^^ 0 : Nat) = 0; decide), (by decide), by rfl, (.inl ⟨rfl, h⟩)⟩

theorem test_meets_TamperTestAndBoot_6 : ∃ (s : State) (sel : Bool) (a : Nat), (s.aon.pstate = 2 ∧ s.aon.railsUp =
    true ∨ s.safety.resetUnderWay = true) ∧ s.boot.cfwUp = false ∧ s.boot.mode ≠ 3 ∧ s.part.lifecycle ≠ 5 ∧
    (s.flash.bootBank.read.getD 0 ^^^ if s.mgmt.bootSel.getD sel = true then 1 else 0) = a ∧ a < 2 ∧
    s.flash.verified.length = 2 ∧ s.part.bankBad (s.flash.banks.getD 0 []) ≠ none ∧ s.part.bankBad
    (s.flash.banks.getD 1 []) ≠ none :=
  ⟨{ boot := { cfwUp := false }, aon := { pstate := 2, railsUp := true } }, false, 0, by decide +kernel⟩

theorem test_meets_SubmissionAndFetches_1 : ∃ (s : State) (fn slot t : Nat) (b : List Byte), isSlot fn slot ∧
    s.boot.cfwUp = true ∧ (s.linkOf fn).up = true ∧ s.pcie.fns.length = 17 ∧ b = s.mbx.bytes.readBytes (slotAddr fn
    slot 0) 4092 ∧ ((s.at t).slotHeld fn slot = true ∨ (s.fnS fn).flrBusy = true) :=
  ⟨tOwn (tMail []), 16, 31, 0, (tOwn (tMail [])).mbx.bytes.readBytes (slotAddr 16 31 0) 4092,
    by unfold isSlot; refine ⟨?_, ?_, ?_, ?_, rfl, ?_⟩ <;> decide +kernel⟩

theorem test_meets_SubmissionAndFetches_2 : ∃ (s : State) (fn slot t : Nat) (b : List Byte) (st : Nat), isSlot fn
    slot ∧ s.boot.cfwUp = true ∧ (s.linkOf fn).up = true ∧ s.pcie.fns.length = 17 ∧ b = s.mbx.bytes.readBytes
    (slotAddr fn slot 0) 4092 ∧ (s.at t).slotHeld fn slot = false ∧ (s.fnS fn).flrBusy = false ∧ s.cmd? fn slot =
    none ∧ s.requestCheck fn b = some st :=
  ⟨tMail [], 16, 31, 0, (tMail []).mbx.bytes.readBytes (slotAddr 16 31 0) 4092, 0x0401,
    by unfold isSlot; refine ⟨?_, ?_, ?_, ?_, rfl, ?_⟩ <;> decide +kernel⟩

theorem test_meets_SubmissionAndFetches_3 : ∃ (s : State) (fn slot t : Nat) (b : List Byte), isSlot fn slot ∧
    s.boot.cfwUp = true ∧ (s.linkOf fn).up = true ∧ s.pcie.fns.length = 17 ∧ b = s.mbx.bytes.readBytes (slotAddr fn
    slot 0) 4092 ∧ (s.at t).slotHeld fn slot = false ∧ (s.fnS fn).flrBusy = false ∧ s.cmd? fn slot = none ∧
    s.requestCheck fn b = none ∧ isSluiced (getU b 4 2) = true ∧ s.hub.sluiceClosed = true ∧ bit (getU b 6 2) 0 =
    true :=
  ⟨tMail (tReq 0x0504 1 0) tShut, 16, 31, 0, (tMail (tReq 0x0504 1 0) tShut).mbx.bytes.readBytes (slotAddr 16 31 0)
    4092, by unfold isSlot; refine ⟨?_, ?_, ?_, ?_, rfl, ?_⟩ <;> decide +kernel⟩

theorem test_meets_SubmissionAndFetches_4 : ∃ (s : State) (fn slot t : Nat) (b : List Byte), isSlot fn slot ∧
    s.boot.cfwUp = true ∧ (s.linkOf fn).up = true ∧ s.pcie.fns.length = 17 ∧ b = s.mbx.bytes.readBytes (slotAddr fn
    slot 0) 4092 ∧ (s.at t).slotHeld fn slot = false ∧ (s.fnS fn).flrBusy = false ∧ s.cmd? fn slot = none ∧
    s.requestCheck fn b = none ∧ isSluiced (getU b 4 2) = true ∧ s.hub.sluiceClosed = true ∧ bit (getU b 6 2) 0 =
    false :=
  ⟨tMail (tReq 0x0504 0 0) tShut, 16, 31, 0, (tMail (tReq 0x0504 0 0) tShut).mbx.bytes.readBytes (slotAddr 16 31 0)
    4092, by unfold isSlot; refine ⟨?_, ?_, ?_, ?_, rfl, ?_⟩ <;> decide +kernel⟩

theorem test_meets_SubmissionAndFetches_5 : ∃ (s : State) (fn slot t : Nat) (b : List Byte), isSlot fn slot ∧
    s.boot.cfwUp = true ∧ (s.linkOf fn).up = true ∧ s.pcie.fns.length = 17 ∧ b = s.mbx.bytes.readBytes (slotAddr fn
    slot 0) 4092 ∧ (s.at t).slotHeld fn slot = false ∧ (s.fnS fn).flrBusy = false ∧ s.cmd? fn slot = none ∧
    s.requestCheck fn b = none ∧ (isSluiced (getU b 4 2) = false ∨ s.hub.sluiceClosed = false) ∧ getU b 14 2 = 0 ∧
    badDesc (getU b 4 2) [] = none :=
  ⟨tMail (tReq 0x0504 0 0), 16, 31, 0, (tMail (tReq 0x0504 0 0)).mbx.bytes.readBytes (slotAddr 16 31 0) 4092,
    by unfold isSlot; refine ⟨?_, ?_, ?_, ?_, rfl, ?_⟩ <;> decide +kernel⟩

theorem test_meets_SubmissionAndFetches_6 : ∃ (s : State) (fn slot off : Nat) (bytes : List Byte) (t : Nat), isSlot
    fn slot ∧ s.pcie.fns.length = 17 ∧ (s.at t).slotHeld fn slot = true ∧ (s.linkOf fn).up = true ∧ off +
    bytes.length ≤ 4096 ∧ bytes ≠ [] :=
  ⟨tOwn (tMail []), 16, 31, 4092, [0, 0, 0, 1], 0, by unfold isSlot; decide +kernel⟩

theorem test_meets_SubmissionAndFetches_7 : ∃ (s : State) (fn slot off : Nat) (bytes : List Byte) (t : Nat), isSlot
    fn slot ∧ s.pcie.fns.length = 17 ∧ (s.at t).slotHeld fn slot = false ∧ (s.linkOf fn).up = true ∧ off +
    bytes.length ≤ 4092 ∧ bytes ≠ [] ∧ s.mbx.bytes.wf = true :=
  ⟨tMail [], 16, 31, 4088, [0, 0, 0, 1], 0, by unfold isSlot; decide +kernel⟩

theorem test_meets_SubmissionAndFetches_8 : ∃ (s : State) (fn slot : Nat) (c : Cmd), isSlot fn slot ∧
    s.pcie.fns.length = 17 ∧ s.cmd? fn slot = some c ∧ c.stage = Stage.fetching ∧ c.response = none ∧ s.dmaOk fn =
    true :=
  ⟨tPut { tCmd 0x0102 with stage := .fetching } (tMail []), 16, 31, { tCmd 0x0102 with stage := .fetching },
    by unfold isSlot; decide +kernel⟩

theorem test_meets_SubmissionAndFetches_9 : ∃ (s : State) (fn slot : Nat) (c : Cmd) (i : Nat), isSlot fn slot ∧
    s.pcie.fns.length = 17 ∧ s.cmd? fn slot = some c ∧ c.stage = Stage.fetching ∧ c.response = none ∧ s.dmaOk fn =
    true ∧ i < 64 ∧ c.opcode ≠ 1025 ∧ c.opcode ≠ 1026 :=
  ⟨tPut { tCmd 0x0102 with stage := .fetching } (tMail []), 16, 31, { tCmd 0x0102 with stage := .fetching }, 63,
    by unfold isSlot; decide +kernel⟩

theorem test_meets_SubmissionAndFetches_10 : ∃ (s : State) (fn slot : Nat) (c : Cmd), isSlot fn slot ∧
    s.pcie.fns.length = 17 ∧ s.cmd? fn slot = some c ∧ c.stage = Stage.fetching ∧ c.response = none ∧ s.dmaOk fn =
    false :=
  ⟨tPut { tCmd 0x0102 with stage := .fetching }, 16, 31, { tCmd 0x0102 with stage := .fetching },
    by unfold isSlot; decide +kernel⟩

theorem test_meets_SubmissionAndFetches_11 : ∃ (s : State) (fn slot : Nat) (c : Cmd), isSlot fn slot ∧
    s.pcie.fns.length = 17 ∧ List.find? (fun x => x.stage == Stage.landing) s.mbx.cmds = some c ∧ c.fn = fn ∧ c.slot
    = slot ∧ s.cmd? fn slot = some c ∧ s.worlds.landingUsed + c.fetchBytes ≤ 12582912 :=
  ⟨tPut tLand (tMail []), 16, 31, tLand, by unfold isSlot; decide +kernel⟩

theorem test_meets_SubmissionAndFetches_12 : ∃ (s : State) (fn slot : Nat) (c : Cmd), isSlot fn slot ∧
    s.pcie.fns.length = 17 ∧ List.find? (fun x => x.stage == Stage.landing) s.mbx.cmds = some c ∧ c.fn = fn ∧ c.slot
    = slot ∧ s.cmd? fn slot = some c ∧ 12582912 < s.worlds.landingUsed + c.fetchBytes :=
  ⟨tPut tLand (tMail [] { worlds := { landingUsed := 12582905 } }), 16, 31, tLand, by unfold isSlot; decide +kernel⟩

theorem test_meets_ResponseAndSluice_1 : ∃ (s : State) (fn slot : Nat) (c : Cmd) (d : List Byte), isSlot fn slot ∧
    s.pcie.fns.length = 17 ∧ s.mbx.bytes.wf = true ∧ d = s.mbx.bytes.readBytes (slotAddr fn slot 32) (16 *
    c.descs.length) ∧ (s.cmdFor fn slot fun x => x.response.isSome) = none :=
  ⟨tPut (tCmd 257) tDma, 16, 31, tCmd 257, [], by unfold isSlot; decide +kernel⟩

theorem test_meets_ResponseAndSluice_2 : ∃ (s : State) (fn slot : Nat) (c : Cmd) (r : Response) (d : List Byte),
    isSlot fn slot ∧ s.pcie.fns.length = 17 ∧ s.mbx.bytes.wf = true ∧ d = s.mbx.bytes.readBytes (slotAddr fn slot
    32) (16 * c.descs.length) ∧ (s.cmdFor fn slot fun x => x.response.isSome) = some c ∧ c.response = some r ∧
    (c.opcode = 1287 → r.status = 0 → ∀ x ∈ s.mbx.cmds, x.atCutoff s = false) ∧ c.silentDrop = true :=
  ⟨tPut { tAns with silentDrop := true } tDma, 16, 31, { tAns with silentDrop := true }, { status := 0 }, [],
    by unfold isSlot; decide +kernel⟩

theorem test_meets_ResponseAndSluice_3 : ∃ (s : State) (fn slot : Nat) (c : Cmd) (r : Response) (d : List Byte),
    isSlot fn slot ∧ s.pcie.fns.length = 17 ∧ s.mbx.bytes.wf = true ∧ s.cmd? fn slot = some c ∧ d =
    s.mbx.bytes.readBytes (slotAddr fn slot 32) (16 * c.descs.length) ∧ c.response = some r ∧ (c.opcode = 1287 →
    r.status = 0 → ∀ x ∈ s.mbx.cmds, x.atCutoff s = false) ∧ c.silentDrop = false ∧ (responseBytes c r d).length ≤
    4092 :=
  ⟨tPut tAns tDma, 16, 31, tAns, { status := 0 }, [], by unfold isSlot; decide +kernel⟩

theorem test_meets_ResponseAndSluice_4 : ∃ (s : State) (k : Nat), k < 4 ∧ s.stks.length = 4 ∧ (s.stk k).taskList =
    [] :=
  ⟨{}, 3, by decide +kernel⟩

theorem test_meets_ResponseAndSluice_5 : ∃ (s : State) (k : Nat) (x : TaskDesc) (rest : List TaskDesc), k < 4 ∧
    s.stks.length = 4 ∧ (s.stk k).taskList = x :: rest ∧ (s.stk k).dispatcher.length < 128 :=
  ⟨{ stks := List.replicate 4 { taskList := [tTask] } }, 3, tTask, [], by decide +kernel⟩

theorem test_meets_ResponseAndSluice_6 : ∃ (s : State) (k : Nat) (x : TaskDesc) (rest : List TaskDesc), k < 4 ∧
    s.stks.length = 4 ∧ (s.stk k).taskList = x :: rest ∧ 128 ≤ (s.stk k).dispatcher.length :=
  ⟨tQueue 128, 3, tTask, [], by decide +kernel⟩

theorem test_meets_ResponseAndSluice_7 : ∃ (s : State) (k : Nat), k < 4 ∧ s.stks.length = 4 ∧ (∀ j < 4, (s.stk
    j).dispatcher.length ≤ 64) ∧ (∀ c ∈ s.mbx.cmds, c.stage ≠ Stage.held) :=
  ⟨tQueue 64, 3, by decide +kernel⟩

theorem test_meets_ResponseAndSluice_8 : ∃ (s : State) (k : Nat) (c : Cmd), k < 4 ∧ s.stks.length = 4 ∧ (∀ j < 4,
    (s.stk j).dispatcher.length ≤ 64) ∧ s.hub.sluiceClosed = true ∧ List.filter (fun x => x.stage == Stage.held)
    s.mbx.cmds = [c] ∧ s.cmd? c.fn c.slot = some c ∧ c.fetchBytes = 0 ∧ badDesc c.opcode (s.rawDescs c.fn c.slot
    c.descs.length) = none :=
  ⟨tPut { tCmd 0x0504 with stage := .held } tShut, 3, { tCmd 0x0504 with stage := .held }, by decide +kernel⟩

theorem test_meets_ResponseAndSluice_9 : ∃ (s : State) (k : Nat), k < 4 ∧ s.stks.length = 4 ∧ (∃ j < 4, 64 < (s.stk
    j).dispatcher.length) :=
  ⟨tQueue 65, 3, by decide +kernel⟩

theorem test_meets_ReadsIndicesAndUnmask_1 : ∃ (s : State) (fn : Nat), s.pcie.fns.length = 17 ∧ fn < 17 :=
  ⟨tDma, 16, by decide +kernel⟩

theorem test_meets_ReadsIndicesAndUnmask_3 : ∃ (s : State) (master rtc : Nat), s.pcie.fns.length = 17 ∧ master < 2 ∧
    rtc < 2 ^ 48 ∧ s.mgmt.rtc ≤ rtc :=
  ⟨{}, 1, 2 ^ 48 - 1, by decide +kernel⟩

theorem test_meets_ReadsIndicesAndUnmask_4 : ∃ (s : State) (master i : Nat), s.pcie.fns.length = 17 ∧ master < 2 ∧ i
    < 16 :=
  ⟨{}, 1, 15, by decide +kernel⟩

theorem test_meets_ReadsIndicesAndUnmask_5 : ∃ (s : State) (fn r value : Nat) (g : Ring), fn < 17 ∧
    s.pcie.fns.length = 17 ∧ r < 33 ∧ (r ≠ 32 ∨ fn = 0) ∧ value < 2 ^ 32 ∧ s.ring? r = some g ∧ g.fn = fn ∧ ((g.w :
    Int) - value) % 2 ^ 32 ≤ g.entries :=
  ⟨{ rings := [{ tRing with fn := 0 }] }, 0, 32, 2 ^ 32 - 1, { tRing with fn := 0 }, by decide +kernel⟩

theorem test_meets_ReadsIndicesAndUnmask_6 : ∃ (s : State) (fn : Nat), fn < 17 ∧ s.pcie.fns.length = 17 ∧ fn ≠ 0 :=
  ⟨{}, 16, by decide +kernel⟩

theorem test_meets_ReadsIndicesAndUnmask_7 : ∃ (s : State) (fn r value : Nat), fn < 17 ∧ s.pcie.fns.length = 17 ∧ r
    < 33 ∧ (r ≠ 32 ∨ fn = 0) ∧ value < 2 ^ 32 ∧ (s.ring? r = none ∨ ∃ g, s.ring? r = some g ∧ (g.fn ≠ fn ∨ g.entries
    < ((g.w : Int) - value) % 2 ^ 32)) ∧ s.ring? r = none :=
  ⟨{}, 0, 32, 0, by refine ⟨?_, ?_, ?_, ?_, ?_, (.inl (by decide +kernel)), ?_⟩ <;> decide +kernel⟩

theorem test_meets_ReadsIndicesAndUnmask_7b : ∃ (s : State) (fn r value : Nat), fn < 17 ∧ s.pcie.fns.length = 17 ∧ r
    < 33 ∧ (r ≠ 32 ∨ fn = 0) ∧ value < 2 ^ 32 ∧ (s.ring? r = none ∨ ∃ g, s.ring? r = some g ∧ (g.fn ≠ fn ∨ g.entries
    < ((g.w : Int) - value) % 2 ^ 32)) ∧ (s.ring? r).isSome :=
  ⟨{ rings := [{ tRing with fn := 0 }] }, 0, 32, 2 ^ 32 - 18,
    by
    refine ⟨?_, ?_, ?_, ?_, ?_, (.inr ⟨{ tRing with fn := 0 }, by decide +kernel⟩), ?_⟩ <;> decide +kernel⟩

theorem test_meets_ReadsIndicesAndUnmask_8 : ∃ (s : State) (fn vec : Nat), fn < 17 ∧ s.pcie.fns.length = 17 ∧ vec <
    64 ∧ (s.fnS fn).pendingBits = [vec] ∧ (s.fnS fn).msixEnabled = true ∧ (s.fnS fn).msixFnMask = false ∧ s.dmaOk fn
    = true :=
  ⟨tUnmask [63], 16, 63, by decide +kernel⟩

theorem test_meets_ReadsIndicesAndUnmask_9 : ∃ (s : State) (fn vec : Nat), fn < 17 ∧ s.pcie.fns.length = 17 ∧ vec <
    64 ∧ (s.fnS fn).pendingBits = [] :=
  ⟨tUnmask [], 16, 63, by decide +kernel⟩

theorem test_meets_RegisterWrites_1 : ∃ (s : State) (value hw : Nat), s.pcie.fns.length = 17 ∧ value < 2 ^ 32 ∧ hw <
    2 ^ 32 ∧ s.pcie.linkA.up = true :=
  ⟨tDma, 2 ^ 32 - 1, 2 ^ 32 - 1, by decide +kernel⟩

theorem test_meets_RegisterWrites_2 : ∃ (s : State) (fn off size value hw : Nat), s.pcie.fns.length = 17 ∧ value < 2
    ^ 32 ∧ hw < 2 ^ 32 ∧ fn < 17 ∧ (s.linkOf fn).up = true ∧ off < 65536 ∧ 1 ≤ size ∧ size ≤ 8 ∧ size ≠ 4 ∧ size ≠ 8
    :=
  ⟨tDma, 16, 65535, 3, 2 ^ 32 - 1, 2 ^ 32 - 1, by decide +kernel⟩

theorem test_meets_RegisterWrites_3 : ∃ (s : State) (fn off size value hw : Nat), s.pcie.fns.length = 17 ∧ value < 2
    ^ 32 ∧ hw < 2 ^ 32 ∧ fn < 17 ∧ (s.linkOf fn).up = false ∧ off < 65536 ∧ 1 ≤ size ∧ size ≤ 8 :=
  ⟨{}, 16, 65535, 3, 2 ^ 32 - 1, 2 ^ 32 - 1, by decide +kernel⟩

theorem test_meets_RegisterWrites_4 : ∃ (s : State) (off value hw p : Nat), s.pcie.fns.length = 17 ∧ value < 2 ^ 32
    ∧ hw < 2 ^ 32 ∧ p < 64 ∧ s.enabled p = true ∧ s.pcie.linkA.up = true ∧ off < 68 :=
  ⟨tDma, 67, 2 ^ 32 - 1, 2 ^ 32 - 1, 63, by decide +kernel⟩

theorem test_meets_RegisterWrites_5 : ∃ (s : State) (value hw p : Nat), s.pcie.fns.length = 17 ∧ value < 2 ^ 32 ∧ hw
    < 2 ^ 32 ∧ p < 64 ∧ s.clusters.length = 64 ∧ s.enabled p = true ∧ s.pcie.linkA.up = true :=
  ⟨tDma, 2 ^ 32 - 1, 2 ^ 32 - 1, 63, by decide +kernel⟩

theorem test_meets_RegisterWrites_6 : ∃ (s : State) (fn size value hw : Nat) (sp : RegSpace), s.pcie.fns.length = 17
    ∧ value < 2 ^ 32 ∧ hw < 2 ^ 32 ∧ fn < 17 ∧ 1 ≤ size ∧ size ≤ 8 ∧ sp ∈ [RegSpace.deviceControl,
    RegSpace.deviceControl2, RegSpace.linkControl, RegSpace.aerControl] :=
  ⟨tDma, 16, 8, 2 ^ 32 - 1, 2 ^ 32 - 1, .aerControl, by decide +kernel⟩

theorem test_meets_RegisterWrites_7 : ∃ (s : State) (fn off size value hw : Nat), s.pcie.fns.length = 17 ∧ value < 2
    ^ 32 ∧ hw < 2 ^ 32 ∧ fn < 17 ∧ (s.linkOf fn).up = true ∧ off < 65536 ∧ 1 ≤ size ∧ size ≤ 8 ∧ size ≠ 4 ∧ size ≠ 8
    :=
  ⟨tDma, 16, 65535, 3, 2 ^ 32 - 1, 2 ^ 32 - 1, by decide +kernel⟩

theorem test_meets_RegisterWrites_8 : ∃ (s : State) (fn off size value hw : Nat), s.pcie.fns.length = 17 ∧ value < 2
    ^ 32 ∧ hw < 2 ^ 32 ∧ fn < 17 ∧ (s.linkOf fn).up = true ∧ off < 65536 ∧ 1 ≤ size ∧ size ≤ 8 ∧ size ≠ 4 ∧ size ≠ 8
    :=
  ⟨tDma, 16, 65535, 3, 2 ^ 32 - 1, 2 ^ 32 - 1, by decide +kernel⟩

theorem test_meets_RegisterWrites_9 : ∃ (s : State) (fn value hw : Nat), s.pcie.fns.length = 17 ∧ value < 2 ^ 32 ∧
    hw < 2 ^ 32 ∧ fn < 17 ∧ (value / 65536 ≠ 22337 ∨ fn ≠ 0 ∨ value % 2 = 0) :=
  ⟨{}, 16, 22337 * 65536 + 1, 2 ^ 32 - 1, by decide +kernel⟩

theorem test_meets_RegisterWrites_10 : ∃ (s : State) (value hw : Nat), s.pcie.fns.length = 17 ∧ value < 2 ^ 32 ∧ hw <
    2 ^ 32 ∧ value / 65536 = 22337 ∧ value % 2 = 1 ∧ s.pcie.linkA.up = true ∧ (∀ y ∈ s.sessions, y.classS = true →
    y.state ≠ 3 ∧ y.state ≠ 4) ∧ s.sessions.length = 16 :=
  ⟨tDma, 22337 * 65536 + 1, 2 ^ 32 - 1, by decide +kernel⟩

theorem test_meets_RegisterWrites_11 : ∃ (s : State) (value hw : Nat), s.pcie.fns.length = 17 ∧ value < 2 ^ 32 ∧ hw <
    2 ^ 32 ∧ value / 65536 = 22337 ∧ value % 2 = 1 ∧ s.pcie.linkA.up = true ∧ s.safety.latch.length < 32 ∧ (∃ i <
    16, (s.ses i).classS = true ∧ ((s.ses i).state = 3 ∨ (s.ses i).state = 4)) ∧ s.sessions.length = 16 :=
  ⟨tSes 15 { state := 4, classS := true } tDma, 22337 * 65536 + 1, 2 ^ 32 - 1, by decide +kernel⟩

theorem test_meets_SpdmAndDoe_1 : ∃ (s : State) (req : List Byte), s.boot.cfwUp = true ∧ s.pcie.linkA.up = true ∧
    req.length ≤ 4096 :=
  ⟨tMail [], zeros 4096, by decide +kernel⟩

theorem test_meets_SpdmAndDoe_3 : ∃ (s : State) (req : List Byte), s.boot.cfwUp = true ∧ s.pcie.linkA.up = true ∧
    req.length ≤ 4096 ∧ s.pcie.spdmVersion = true :=
  ⟨tAlg, zeros 4096, by decide +kernel⟩

theorem test_meets_SpdmAndDoe_4 : ∃ (s : State) (req : List Byte) (a b : Bool), s.boot.cfwUp = true ∧
    s.pcie.linkA.up = true ∧ req.length ≤ 4096 ∧ (s.pcie.spdmVersion = false ∨ a = false ∨ b = false) :=
  ⟨tMail [], zeros 4096, true, true, by decide +kernel⟩

theorem test_meets_SpdmAndDoe_4b : ∃ (s : State) (req : List Byte) (a b : Bool), s.boot.cfwUp = true ∧
    s.pcie.linkA.up = true ∧ req.length ≤ 4096 ∧ (s.pcie.spdmVersion = false ∨ a = false ∨ b = false) ∧
    s.pcie.spdmVersion = true :=
  ⟨tAlg, zeros 4096, true, false, by decide +kernel⟩

theorem test_meets_SpdmAndDoe_6 : ∃ (s : State) (req : List Byte), s.boot.cfwUp = true ∧ s.pcie.linkA.up = true ∧
    req.length ≤ 4096 ∧ s.pcie.spdmVersion = true ∧ s.pcie.spdmAlgorithms = true ∧ s.boot.certOk = true :=
  ⟨tAlg true, zeros 4096, by decide +kernel⟩

theorem test_meets_SpdmAndDoe_7 : ∃ (s : State) (req : List Byte), s.boot.cfwUp = true ∧ s.pcie.linkA.up = true ∧
    req.length ≤ 4096 ∧ s.pcie.spdmVersion = true ∧ s.pcie.spdmAlgorithms = true ∧ s.boot.certOk = false :=
  ⟨tAlg, zeros 4096, by decide +kernel⟩

theorem test_meets_SpdmAndDoe_9 : ∃ (s : State) (req : List Byte) (off : Nat), s.boot.cfwUp = true ∧ s.pcie.linkA.up
    = true ∧ req.length ≤ 4096 ∧ s.pcie.spdmVersion = true ∧ s.pcie.spdmAlgorithms = true ∧ s.boot.certOk = true ∧
    off < s.flash.certChain.length :=
  ⟨tAlg true, zeros 4096, 1, by decide +kernel⟩

theorem test_meets_SpdmAndDoe_10 : ∃ (s : State) (req : List Byte) (k : Nat), s.boot.cfwUp = true ∧ s.pcie.linkA.up
    = true ∧ req.length ≤ 4096 ∧ s.pcie.spdmVersion = true ∧ s.pcie.spdmAlgorithms = true ∧ k ≠ 0 :=
  ⟨tAlg, zeros 4096, 1, by decide +kernel⟩

theorem test_meets_SpdmAndDoe_12 : ∃ (s : State) (req : List Byte), s.boot.cfwUp = true ∧ s.pcie.linkA.up = true ∧
    req.length ≤ 4096 ∧ s.pcie.spdmVersion = true ∧ s.pcie.spdmAlgorithms = true ∧ s.boot.certOk = true ∧
    s.hub.secretsKeys = true :=
  ⟨tAlg true true, zeros 4096, by decide +kernel⟩

theorem test_meets_SpdmAndDoe_13 : ∃ (s : State) (req : List Byte), s.boot.cfwUp = true ∧ s.pcie.linkA.up = true ∧
    req.length ≤ 4096 ∧ s.pcie.spdmVersion = true ∧ s.pcie.spdmAlgorithms = true ∧ s.hub.secretsKeys = false :=
  ⟨tAlg, zeros 4096, by decide +kernel⟩

theorem test_meets_SpdmAndDoe_14 : ∃ (s : State) (req : List Byte) (i : Nat) (m : List Byte), s.boot.cfwUp = true ∧
    s.pcie.linkA.up = true ∧ req.length ≤ 4096 ∧ s.pcie.spdmVersion = true ∧ s.pcie.spdmAlgorithms = true ∧ i ≠ 255
    ∧ s.measurement i = some m :=
  ⟨tAlg, zeros 4096, 1, zeros 64, by decide +kernel⟩

theorem test_meets_SpdmAndDoe_15 : ∃ (s : State) (req : List Byte) (i : Nat), s.boot.cfwUp = true ∧ s.pcie.linkA.up
    = true ∧ req.length ≤ 4096 ∧ s.pcie.spdmVersion = true ∧ s.pcie.spdmAlgorithms = true ∧ i ≠ 255 ∧ s.measurement
    i = none :=
  ⟨tAlg, zeros 4096, 40, by decide +kernel⟩

theorem test_meets_SpdmAndDoe_16 : ∃ (s : State) (req : List Byte), s.boot.cfwUp = true ∧ s.pcie.linkA.up = true ∧
    req.length ≤ 4096 ∧ s.pcie.spdmVersion = true ∧ s.pcie.spdmAlgorithms = true :=
  ⟨tAlg, zeros 4096, by decide +kernel⟩

theorem test_meets_SpdmAndDoe_17 : ∃ (s : State) (req : List Byte), s.boot.cfwUp = true ∧ s.pcie.linkA.up = true ∧
    req.length ≤ 4096 ∧ s.pcie.spdmVersion = true ∧ s.pcie.spdmAlgorithms = true ∧ s.hub.secretsKeys = true :=
  ⟨tAlg true true, zeros 4096, by decide +kernel⟩

theorem test_meets_SpdmAndDoe_19 : ∃ (s : State) (req : List Byte) (k off len : Nat) (sign : Bool) (t : Nat) (i :
    Instr), s.boot.cfwUp = true ∧ s.pcie.linkA.up = true ∧ req.length ≤ 4096 ∧ (s.pcie.spdmVersion = false ∨
    s.pcie.spdmAlgorithms = false) ∧ i ∈ [Instr.getDigests req t, Instr.getCertificate k off len req t,
    Instr.challenge k req t, Instr.getMeasurements k sign req t] :=
  ⟨tMail [], [], 0, 0, 0, true, 0, .getDigests [] 0, by decide +kernel⟩

theorem test_meets_SpdmAndDoe_20 : ∃ (s : State) (req : List Byte), s.boot.cfwUp = true ∧ s.pcie.linkA.up = true ∧
    req.length ≤ 4096 :=
  ⟨tMail [], zeros 4096, by decide +kernel⟩

theorem test_meets_SpdmAndDoe_23 : ∃ (s : State) (req : List Byte) (t : Nat) (i : Instr), (s.boot.cfwUp = false ∨
    4096 < req.length) ∧ i ∈ [Instr.getVersion req t, Instr.getCapabilities req t, Instr.getDigests req t,
    Instr.challenge 0 req t] :=
  ⟨{}, [], 0, .getVersion [] 0, by decide +kernel⟩

end Sys2Proof.Machine
end

section
/-!
SUPPORT. What a power-up does to the disabled-unit map (R36, R426), and the obligation on it: the fold of `State.retire` as
one decision per cluster, what that decision can do, and what the fold keeps.
-/
namespace Sys2Proof.Machine

/-! ## The enabled clusters of a stack -/

/-- The slots of stack `k` that the map leaves enabled. -/
def Dum.enabledSlots (d : Dum) (k : Nat) : List Nat := (List.range 16).filter fun i => !d.disabled.getLsbD (16 * k + i)

/-- The clusters of a stack are its 16 slots in order. -/
theorem range_filter_stackOf : ∀ k < 4,
    ((List.range 64).filter fun p => stackOf p == k) = (List.range 16).map (16 * k + ·) := by
  decide

/-- The enabled clusters of a stack are its enabled slots, by physical index. -/
theorem State.enabledIn_eq_map (s : State) {k : Nat} (hk : k < 4) :
    s.enabledIn k = (s.part.dum.enabledSlots k).map (16 * k + ·) := by
  have hcomm : s.enabledIn k = ((List.range 64).filter fun p => stackOf p == k).filter s.enabled := by
    simp only [State.enabledIn, State.enabledList, List.filter_filter, Bool.and_comm]
  rw [hcomm, range_filter_stackOf k hk, List.filter_map, Dum.enabledSlots]
  refine congrArg _ (List.filter_congr fun i hi => ?_)
  have hlt : 16 * k + i < 64 := by have := List.mem_range.mp hi; omega
  simp [State.enabled, hlt]

theorem State.length_enabledIn (s : State) {k : Nat} (hk : k < 4) :
    (s.enabledIn k).length = (s.part.dum.enabledSlots k).length := by
  simp [s.enabledIn_eq_map hk]

/-! ## Retiring one cluster -/

/-- The map with cluster `p` disabled for ageing or spares (reason 2), one version on. -/
def Dum.disable (d : Dum) (p : Nat) : Dum :=
  { d with disabled := d.disabled ||| BitVec.ofNat 64 (2 ^ p), reason := d.reason.set p 2,
           mapVersion := (d.mapVersion + 1) % 65536 }

theorem Dum.disable_getLsbD (d : Dum) (p q : Nat) :
    (d.disable p).disabled.getLsbD q = (d.disabled.getLsbD q || (decide (q < 64) && decide (p = q))) := by
  simp only [Dum.disable, BitVec.getLsbD_or, BitVec.getLsbD_ofNat, Nat.testBit_two_pow]

/-- Disabling a cluster takes its slot, and no other, out of the stacks' enabled slots. -/
theorem Dum.enabledSlots_disable (d : Dum) (p : Nat) {k : Nat} (hk : k < 4) :
    (d.disable p).enabledSlots k = (d.enabledSlots k).filter fun i => 16 * k + i != p := by
  rw [Dum.enabledSlots, Dum.enabledSlots, List.filter_filter]
  refine List.filter_congr fun i hi => ?_
  have hlt : 16 * k + i < 64 := by have := List.mem_range.mp hi; omega
  rw [Dum.disable_getLsbD, decide_eq_true hlt, Bool.true_and, Bool.not_or, Bool.and_comm]
  simp [bne, beq_eq_decide, eq_comm (a := p)]

/-- A stack loses at most the one slot of the cluster disabled. -/
theorem Dum.le_enabledSlots_disable (d : Dum) (p : Nat) {k : Nat} (hk : k < 4) :
    (d.enabledSlots k).length - 1 ≤ ((d.disable p).enabledSlots k).length := by
  have hnd : (d.enabledSlots k).Nodup := List.nodup_range.filter _
  rw [Dum.enabledSlots_disable d p hk]
  calc (d.enabledSlots k).length - 1
      ≤ ((d.enabledSlots k).erase (p - 16 * k)).length := List.le_length_erase
    _ = ((d.enabledSlots k).filter (· != p - 16 * k)).length := by rw [hnd.erase_eq_filter]
    _ ≤ _ := (List.monotone_filter_right _ fun i h => by simp at h ⊢; omega).length_le

/-- A cluster of another stack takes nothing from stack `k`. -/
theorem Dum.enabledSlots_disable_other (d : Dum) {p k : Nat} (hk : k < 4) (hp : stackOf p ≠ k) :
    (d.disable p).enabledSlots k = d.enabledSlots k := by
  rw [Dum.enabledSlots_disable d p hk]
  refine List.filter_eq_self.mpr fun i hi => ?_
  have hi := List.mem_range.mp (List.mem_filter.mp hi).1
  simp only [stackOf] at hp
  simp only [bne_iff_ne]
  omega

/-! ## The fold of the marks -/

/-- The decision on one cluster: what `State.retire` folds over the clusters. -/
def retireStep (marks : List Nat) (acc : Dum × List Nat × Bool) (p : Nat) : Dum × List Nat × Bool :=
  if marks.contains p ∧ !acc.1.disabled.getLsbD p then
    if (acc.1.enabledSlots (stackOf p)).length ≤ 8 then (acc.1, acc.2.1, true)
    else (acc.1.disable p, acc.2.1 ++ [p], acc.2.2)
  else acc

theorem State.retire_eq_foldl (s : State) (marks : List Nat) :
    s.retire marks = (List.range 64).foldl (retireStep marks) (s.part.dum, [], false) := rfl

/-- What the decision on cluster `p` can do: leave all as it is, where no mark asks for more; keep a marked cluster enabled
and say so, where its stack has no more than 8; or retire it from a stack with more. -/
theorem retireStep_cases (marks : List Nat) (acc : Dum × List Nat × Bool) (p : Nat) :
    (retireStep marks acc p = acc ∧ (p ∈ marks → acc.1.disabled.getLsbD p = true)) ∨
    retireStep marks acc p = (acc.1, acc.2.1, true) ∨
    (retireStep marks acc p = (acc.1.disable p, acc.2.1 ++ [p], acc.2.2) ∧
      8 < (acc.1.enabledSlots (stackOf p)).length) := by
  unfold retireStep
  split
  · split
    · exact .inr (.inl rfl)
    · exact .inr (.inr ⟨rfl, by omega⟩)
  · exact .inl ⟨rfl, by simp_all⟩

/-- Every stack has at least 8 enabled clusters (R36). -/
def Dum.KeepsEight (d : Dum) : Prop := ∀ k < 4, 8 ≤ (d.enabledSlots k).length

/-- One decision keeps 8 clusters in every stack. -/
theorem retireStep_keepsEight (marks : List Nat) (acc : Dum × List Nat × Bool) (p : Nat) (h : acc.1.KeepsEight) :
    (retireStep marks acc p).1.KeepsEight := by
  obtain ⟨heq, -⟩ | heq | ⟨heq, hleft⟩ := retireStep_cases marks acc p <;> rw [heq]
  · exact h
  · exact h
  · intro k hk
    by_cases hp : stackOf p = k
    · have := acc.1.le_enabledSlots_disable p hk
      rw [hp] at hleft
      show 8 ≤ ((acc.1.disable p).enabledSlots k).length
      omega
    · exact (acc.1.enabledSlots_disable_other hk hp).symm ▸ h k hk

/-- The mark of cluster `p` is answered: the cluster is disabled, or QUARANTINE is asked for. -/
def MarkAnswered (p : Nat) (acc : Dum × List Nat × Bool) : Prop := acc.1.disabled.getLsbD p = true ∨ acc.2.2 = true

/-- An answered mark stays answered: no decision enables a cluster or withdraws QUARANTINE. -/
theorem retireStep_keeps_answered {p : Nat} (marks : List Nat) (acc : Dum × List Nat × Bool) (q : Nat)
    (h : MarkAnswered p acc) : MarkAnswered p (retireStep marks acc q) := by
  obtain ⟨heq, -⟩ | heq | ⟨heq, -⟩ := retireStep_cases marks acc q <;> rw [heq]
  · exact h
  · exact .inr rfl
  · exact h.imp_left fun hd => by rw [Dum.disable_getLsbD, hd, Bool.true_or]

/-- The decision on a marked cluster answers its mark. -/
theorem retireStep_answers {marks : List Nat} {p : Nat} (acc : Dum × List Nat × Bool) (hp : p < 64) (hm : p ∈ marks) :
    MarkAnswered p (retireStep marks acc p) := by
  obtain ⟨heq, hd⟩ | heq | ⟨heq, -⟩ := retireStep_cases marks acc p <;> rw [heq]
  · exact .inl (hd hm)
  · exact .inr rfl
  · exact .inl (by simp [Dum.disable_getLsbD, hp])

/-- Deciding on a list of clusters answers the mark of each of them. -/
theorem foldl_retireStep_answers {marks : List Nat} {p : Nat} (hp : p < 64) (hm : p ∈ marks) (l : List Nat) :
    ∀ acc, (p ∈ l ∨ MarkAnswered p acc) → MarkAnswered p (l.foldl (retireStep marks) acc) := by
  induction l with
  | nil => intro acc h; exact h.resolve_left List.not_mem_nil
  | cons q l ih =>
    intro acc h
    refine ih _ ?_
    obtain hmem | ha := h
    · obtain rfl | hl := List.mem_cons.mp hmem
      · exact .inr (retireStep_answers acc hp hm)
      · exact .inl hl
    · exact .inr (retireStep_keeps_answered marks acc q ha)

/-- Deciding on any list of clusters keeps 8 clusters in every stack. -/
theorem foldl_retireStep_keepsEight (marks : List Nat) (l : List Nat) :
    ∀ acc : Dum × List Nat × Bool, acc.1.KeepsEight → (l.foldl (retireStep marks) acc).1.KeepsEight := by
  induction l with
  | nil => exact fun _ h => h
  | cons p l ih => exact fun acc h => ih _ (retireStep_keepsEight marks acc p h)

/-- Any retirements keep 8 clusters in every stack. -/
theorem State.retire_keepsEight (s : State) (marks : List Nat) (h : s.part.dum.KeepsEight) : (s.retire marks).1.KeepsEight := by
  rw [State.retire_eq_foldl]
  exact foldl_retireStep_keepsEight marks _ _ h

/-- Every mark of a cluster is answered. -/
theorem State.retire_answers (s : State) {marks : List Nat} {p : Nat} (hp : p < 64) (hm : p ∈ marks) :
    MarkAnswered p (s.retire marks) := by
  rw [State.retire_eq_foldl]
  exact foldl_retireStep_answers hp hm _ _ (.inl (List.mem_range.mpr hp))

/-- Retirement reads the disabled-unit map alone. -/
theorem State.retire_congr {s s' : State} (h : s'.part.dum = s.part.dum) (marks : List Nat) : s'.retire marks = s.retire marks := by
  rw [State.retire_eq_foldl, State.retire_eq_foldl, h]

/-! ## What the parts of a boot leave -/

section
variable (s : State)

@[simp] theorem State.fillSecure_part (sfw : List Byte) : (s.fillSecure sfw).part = s.part := by
  unfold State.fillSecure; split <;> rfl
@[simp] theorem State.fillSecure_flash (sfw : List Byte) : (s.fillSecure sfw).flash = s.flash := by
  unfold State.fillSecure; split <;> rfl

@[simp] theorem State.runSet_part (i : Nat) (bank : List Byte) (ms : List (List Byte)) :
    (s.runSet i bank ms).part = s.part := by
  simp [State.runSet]
@[simp] theorem State.runSet_health (i : Nat) (bank : List Byte) (ms : List (List Byte)) :
    (s.runSet i bank ms).flash.health = s.flash.health := by
  simp [State.runSet]

/-- A warning that is due, or not, leaves the boot state and the part. -/
theorem State.ite_warn_boot (c : Prop) [Decidable c] (code k p : Nat) (arg : List Byte) :
    (if c then s.warn code k p arg else s).boot = s.boot := by split <;> simp
theorem State.ite_warn_part (c : Prop) [Decidable c] (code k p : Nat) (arg : List Byte) :
    (if c then s.warn code k p arg else s).part = s.part := by split <;> simp
end

/-- The clusters that the health page in force asks to retire: none where its signature failed (R426). -/
def State.pageMarks (s : State) : List Nat :=
  let page := s.flash.health.read.getD {}
  if page.signed then page.marks.map (·.1) else []

/-- A power-up writes the retirements of the health page to the map. -/
@[simp] theorem State.powerUp_dum (s : State) : s.powerUp.1.part.dum = (s.retire s.pageMarks).1 := rfl

/-- What makes a power-up ask for QUARANTINE: the certificate, the factory record, a retirement, a tamper source. -/
theorem State.powerUp_snd (s : State) : s.powerUp.2 =
    (!(sha512 s.flash.identityCert == s.part.certHash) || !s.part.factoryCrcOk || (s.retire s.pageMarks).2.2 ||
      ((s.mgmt.lid || s.mgmt.tamperPin || s.mgmt.glitch || s.mgmt.clkMon) && inR s.part.lifecycle 1 2)) := rfl

/-- A retirement that would leave fewer than 8 clusters makes a power-up ask for QUARANTINE. -/
theorem State.powerUp_quarantine {s : State} (h : (s.retire s.pageMarks).2.2 = true) : s.powerUp.2 = true := by
  rw [State.powerUp_snd, h, Bool.or_true, Bool.true_or]

/-- QUARANTINE that was asked for is the boot mode, whatever the images say (R439). -/
theorem State.bootMode_quarantine {s : State} (h : s.safety.quarantineNext = true) (ms : List (List Byte)) :
    s.bootMode ms = 1 := by
  simp [State.bootMode, h]

/-! ## The boot at power-up -/

/-- BOOT_SEL as the first boot after 3V3_AUX rose samples it (R472). -/
def State.bootSampled (sel : Bool) (s : State) : State :=
  s.modMgmt fun m => { m with bootSel := some (m.bootSel.getD sel) }

/-- The bank a boot runs: BOOT_BANK, turned by BOOT_SEL, where it verifies, else the other (R437, R472). -/
def State.usableBank (s : State) : Option Nat :=
  let first := (s.flash.bootBank.read.getD 0) ^^^ flag (s.mgmt.bootSel.getD false) 0
  [first, 1 - first].find? fun i => (s.part.bankBad (s.flash.banks.getD i [])).isNone

/-- With a bank that verifies and BOOT_BANK in force, a boot finds a bank, whichever of the two it tries first. -/
theorem State.exists_usableBank {s : State} (hfirst : s.flash.bootBank.read.getD 0 < 2)
    (hbank : ∃ i < 2, s.part.bankBad (s.flash.banks.getD i []) = none) : ∃ i, s.usableBank = some i := by
  obtain ⟨i, hi, hgood⟩ := hbank
  refine Option.isSome_iff_exists.mp (List.find?_isSome.mpr ⟨i, ?_, by simp only [hgood, Option.isNone_none]⟩)
  have hlt : (s.flash.bootBank.read.getD 0) ^^^ flag (s.mgmt.bootSel.getD false) 0 < 2 :=
    Nat.xor_lt_two_pow (n := 1) hfirst (by unfold flag; split <;> decide)
  simp only [List.mem_cons, List.not_mem_nil, or_false]
  omega

/-- The manifests of the set in bank `i`. -/
def State.bankManifests (s : State) (i : Nat) : List (List Byte) := (manifests (s.flash.banks.getD i [])).getD []

/-- The boot of bank `i` at power-up, up to the warnings: the bank's set runs, the part is brought up, QUARANTINE is latched
where asked for. -/
def State.bootBank (i : Nat) (s : State) : State :=
  let p := (s.runSet i (s.flash.banks.getD i []) (s.bankManifests i)).powerUp
  p.1.loadVoff.modSafety fun x => { x with quarantineNext := x.quarantineNext || p.2 }

/-- A boot at power-up that finds bank `i`: its mode and its part are those that `bootBank` gives. -/
theorem State.bootUp_atPowerUp {s : State} {sel : Bool} {i : Nat} (hst : s.aon.pstate = 2) (hrails : s.aon.railsUp = true)
    (hcfw : s.boot.cfwUp = false) (hmode : s.boot.mode ≠ 3) (hlife : s.part.lifecycle ≠ 5)
    (hi : (s.bootSampled sel).usableBank = some i) :
    (s.bootUp sel).boot.mode = ((s.bootSampled sel).bootBank i).bootMode (s.bankManifests i) ∧
      (s.bootUp sel).part = ((s.bootSampled sel).bootBank i).part := by
  have hcold : (s.aon.pstate == 2 && s.aon.railsUp) = true := by simp [hst, hrails]
  have hdue : (!s.boot.cfwUp && s.boot.mode != 3 && s.part.lifecycle != 5) = true := by simp [hcfw, hmode, hlife]
  unfold State.usableBank State.bootSampled at hi
  unfold State.bootUp State.when_
  simp only [hcold, Bool.true_or, Bool.true_and, hdue, hi, if_true]
  simp only [State.modAon_boot, State.modAon_part, State.ite_warn_boot, State.ite_warn_part]
  exact ⟨rfl, rfl⟩

/-- The set that runs has no part in what a power-up retires. -/
theorem State.runSet_retire (s : State) (i : Nat) (bank : List Byte) (ms : List (List Byte)) :
    (s.runSet i bank ms).retire (s.runSet i bank ms).pageMarks = s.retire s.pageMarks := by
  have hmarks : (s.runSet i bank ms).pageMarks = s.pageMarks := by simp only [State.pageMarks, State.runSet_health]
  rw [hmarks, State.retire_congr (congrArg Part.dum (s.runSet_part i bank ms))]

/-- `bootBank` puts the retirements that the health page asks for into the map. -/
theorem State.bootBank_dum (s : State) (i : Nat) : (s.bootBank i).part.dum = (s.retire s.pageMarks).1 :=
  congrArg Prod.fst (s.runSet_retire i _ _)

/-- `bootBank` latches QUARANTINE where a retirement would leave a stack with fewer than 8 clusters. -/
theorem State.bootBank_quarantine {s : State} (i : Nat) (h : (s.retire s.pageMarks).2.2 = true) :
    (s.bootBank i).safety.quarantineNext = true := by
  rw [← s.runSet_retire i (s.flash.banks.getD i []) (s.bankManifests i)] at h
  simp only [State.bootBank, State.modSafety_safety, State.powerUp_quarantine h, Bool.or_true]

/-- Settles O10. Eight clusters per stack and the answered marks are invariants of the fold of `State.retire`; a boot at power-up
takes its mode and its map from that fold. -/
theorem retirementKeepsEight : Obligations.RetirementKeepsEight := by
  intro s marks height
  have hkeeps : (s.retire marks).1.KeepsEight :=
    s.retire_keepsEight marks fun k hk => s.length_enabledIn hk ▸ height k hk
  refine ⟨hkeeps, fun p hm hp hd => ?_, fun sel t hst hrails hcfw hmode hlife hbank hfirst hsigned hmarks hq => ?_⟩
  · exact (s.retire_answers hp hm).resolve_left (by simp [hd])
  · have hpage : ((s.at t).bootSampled sel).pageMarks = marks := by
      rw [hmarks]; exact if_pos hsigned
    have hret : ((s.at t).bootSampled sel).retire ((s.at t).bootSampled sel).pageMarks = s.retire marks := by
      rw [hpage]; exact State.retire_congr rfl marks
    obtain ⟨i, hi⟩ := ((s.at t).bootSampled sel).exists_usableBank hfirst hbank
    obtain ⟨hm, hpart⟩ := State.bootUp_atPowerUp (s := s.at t) hst hrails hcfw hmode hlife hi
    refine ⟨_, (exec_boot _ s).trans (ranAt_pos rfl ..), ?_, fun k hk => ?_⟩
    · exact hm.trans (State.bootMode_quarantine (State.bootBank_quarantine i (hret.symm ▸ hq)) _)
    · rw [State.length_enabledIn _ hk]
      show 8 ≤ (Dum.enabledSlots (State.bootUp sel (s.at t)).part.dum k).length
      rw [hpart, State.bootBank_dum, hret]
      exact hkeeps k hk

end Sys2Proof.Machine
end

section
/-!
SUPPORT. The detection of a fault (R398-R401): the code that it latches, the sessions that it moves to FAULTED and what it
leaves unchanged; and the obligation on FRAME_HUNG, which is one such detection.
-/
namespace Sys2Proof.Machine

/-! ## The latch -/

theorem mem_latchInsert_self (e : Latched) (l : List Latched) : e ∈ latchInsert e l := by
  simp [latchInsert]

/-- A latch with room holds the code after its detection, with the time of that detection, be the code known or new. -/
theorem Safety.exists_mem_latchCode {x : Safety} (hroom : x.latch.length < 32) (e : Latched) :
    ∃ l ∈ (x.latchCode e).latch, l.code = e.code ∧ l.time = e.time := by
  by_cases hknown : x.latch.any (·.code == e.code) = true
  · obtain ⟨old, hold, hcode⟩ := List.any_eq_true.mp hknown
    refine ⟨old.again e, ?_, rfl, rfl⟩
    simp only [Safety.latchCode, hknown, if_true]
    exact List.mem_map.mpr ⟨old, hold, if_pos (by simpa using hcode)⟩
  · refine ⟨e, ?_, rfl, rfl⟩
    simp only [Safety.latchCode, hknown, hroom, if_true]
    exact mem_latchInsert_self e x.latch

/-- The entry that a report of a fault latches. -/
def State.faultEntry (s : State) (code cluster : Nat) (arg : List Byte) : Latched :=
  { code := code, time := s.time.now, cluster := cluster, frame := s.frame.counter, resets := s.safety.warmResets,
    arg := ofLE (arg.take 8), first := s.time.now, fns := s.faultFns code (ofLE (arg.take 8)) }

/-- Of the supervisor a report of a fault changes what the SSV does as it latches the entry. -/
theorem State.faultReport_safety (code stack cluster stream : Nat) (arg : List Byte) (s : State) :
    (s.faultReport code stack cluster stream arg).safety = s.safety.latchCode (s.faultEntry code cluster arg) := by
  simp only [State.faultReport, State.traceError_safety, State.logError_safety, State.deviceEvent_safety, State.ite_safety,
    State.modFrame_safety, ite_self, State.modSafety_safety, State.faultEntry]

theorem State.faultReport_faultLatched {s : State} (hroom : s.safety.latch.length < 32) (code stack cluster stream : Nat)
    (arg : List Byte) : (s.faultReport code stack cluster stream arg).faultLatched code s.time.now := by
  rw [State.faultLatched, State.pinsLatched, State.faultReport_safety]
  exact ⟨⟨rfl, rfl, rfl⟩, Safety.exists_mem_latchCode hroom (s.faultEntry code cluster arg)⟩

/-! ## The sessions that a detection moves -/

/-- A code moves a live session to FAULTED where the session is class-S or the code's reaction is Restart (R398, R399). -/
def Session.leavesOn (code : Nat) (x : Session) : Bool := x.live && (x.classS || isRestart code)

/-- What a detection does to session `i`. -/
def State.faultLeave (code : Nat) (s : State) (i : Nat) : State :=
  if (s.ses i).leavesOn code then (s.sesTo i 5 code).dropWaiting i else s

/-- The reaction to a code: the sessions leave one by one, the dump starts, and a Restart code asks for the restart. -/
theorem State.faultReact_eq (code : Nat) (s : State) : s.faultReact code =
    if isRestart code then
      (((List.range 16).foldl (State.faultLeave code) s).triggerDump code).modSafety fun x => { x with
        restartPending := if x.resetUnderWay || x.restartPending.isSome then x.restartPending else some code,
        quarantineNext := x.quarantineNext ||
          (((List.range 16).foldl (State.faultLeave code) s).triggerDump code).thirdRestart }
    else ((List.range 16).foldl (State.faultLeave code) s).triggerDump code := rfl

theorem Session.leavesOn_congr {x y : Session} (h : x.core = y.core) (code : Nat) : x.leavesOn code = y.leavesOn code := by
  obtain ⟨hstate, hclass, -⟩ := Session.core_fields h
  simp only [Session.leavesOn, Session.live, hstate, hclass]

/-- A FAULTED session stays where it is: it is not live. -/
theorem Session.leavesOn_faulted {x : Session} (h : x.state = 5) (code : Nat) : x.leavesOn code = false := by
  simp [Session.leavesOn, Session.live, h]

@[simp] theorem State.faultLeave_safety (code : Nat) (s : State) (i : Nat) : (s.faultLeave code i).safety = s.safety := by
  simp [State.faultLeave, State.ite_safety]

@[simp] theorem State.faultLeave_length (code : Nat) (s : State) (i : Nat) :
    (s.faultLeave code i).sessions.length = s.sessions.length := by
  unfold State.faultLeave
  split
  · exact State.sesTo_length i 5 code s
  · rfl

/-- One session's leaving keeps every other session but for its counters. -/
theorem State.faultLeave_core_of_ne {i j : Nat} (h : j ≠ i) (code : Nat) (s : State) :
    ((s.faultLeave code i).ses j).core = (s.ses j).core := by
  unfold State.faultLeave
  split
  · exact (State.sesTo_core i 5 code s j).trans (if_neg fun hji => h hji.1)
  · rfl

theorem State.faultLeave_state {s : State} {code i : Nat} (hi : i < s.sessions.length)
    (h : (s.ses i).leavesOn code = true) : ((s.faultLeave code i).ses i).state = 5 := by
  rw [State.faultLeave, if_pos h]
  exact State.sesTo_state i 5 code s hi

theorem State.faultLeave_keeps_faulted {s : State} {j : Nat} (h : (s.ses j).state = 5) (code i : Nat) :
    ((s.faultLeave code i).ses j).state = 5 := by
  by_cases hji : j = i
  · subst hji
    rwa [State.faultLeave, if_neg (by simp [Session.leavesOn_faulted h])]
  · rw [(Session.core_fields (State.faultLeave_core_of_ne hji code s)).1, h]

/-- Of the sessions named, each that the code moves ends FAULTED. -/
theorem State.foldl_faultLeave_state {code j : Nat} {l : List Nat} {s : State} (hmem : j ∈ l) (hj : j < s.sessions.length)
    (h : (s.ses j).leavesOn code = true) : ((l.foldl (State.faultLeave code) s).ses j).state = 5 := by
  induction l generalizing s with
  | nil => exact absurd hmem List.not_mem_nil
  | cons a l ih =>
    rw [List.foldl_cons]
    by_cases hja : j = a
    · subst hja
      exact State.foldl_inv (fun s => (s.ses j).state = 5) _ (fun _ i hs => State.faultLeave_keeps_faulted hs code i) l _
        (State.faultLeave_state hj h)
    · refine ih ((List.mem_cons.mp hmem).resolve_left hja) (by rwa [State.faultLeave_length]) ?_
      rwa [Session.leavesOn_congr (State.faultLeave_core_of_ne hja code s)]

@[simp] theorem State.triggerDump_cores (code : Nat) (s : State) : (s.triggerDump code).cores = s.cores := by
  have hput (f : Errors → Errors) : (s.modErrors f).cores = s.cores := rfl
  rcases hw : s.errors.dump.writing with _ | w <;> simp [State.triggerDump, hw, State.cores_ite, hput]

@[simp] theorem State.traceError_cores (code cls stack cluster stream : Nat) (arg : List Byte) (s : State) :
    (s.traceError code cls stack cluster stream arg).cores = s.cores := State.cores_of (State.traceError_sessions ..)

@[simp] theorem State.logError_cores (code cls stack cluster stream arg : Nat) (s : State) :
    (s.logError code cls stack cluster stream arg).cores = s.cores := rfl

@[simp] theorem State.modFrame_cores (f : Frame → Frame) (s : State) : (s.modFrame f).cores = s.cores := rfl

@[simp] theorem State.modSafety_cores (f : Safety → Safety) (s : State) : (s.modSafety f).cores = s.cores := rfl

@[simp] theorem State.faultReport_cores (code stack cluster stream : Nat) (arg : List Byte) (s : State) :
    (s.faultReport code stack cluster stream arg).cores = s.cores := by
  simp [State.faultReport, State.cores_ite]

theorem State.faultReact_state {s : State} {code j : Nat} (hlen : s.sessions.length = 16) (hj : j < 16)
    (h : (s.ses j).leavesOn code = true) : ((s.faultReact code).ses j).state = 5 := by
  have hcores : (s.faultReact code).cores = ((List.range 16).foldl (State.faultLeave code) s).cores := by
    simp [State.faultReact_eq, State.cores_ite]
  rw [(Session.core_fields (State.core_eq hcores j)).1]
  exact State.foldl_faultLeave_state (List.mem_range.mpr hj) (hlen ▸ hj) h

/-! ## A detection as a whole -/

/-- What follows a detection keeps the latch and the pins. -/
theorem State.faultReact_faultLatched {s : State} {code now : Nat} (h : s.faultLatched code now) (code' : Nat) :
    (s.faultReact code').faultLatched code now := by
  have hsafety : (((List.range 16).foldl (State.faultLeave code') s).triggerDump code').safety = s.safety := by
    rw [State.triggerDump_safety, State.foldl_safety _ (State.faultLeave_safety code')]
  rw [State.faultReact_eq]
  split <;> simpa only [State.faultLatched, State.pinsLatched, State.modSafety_safety, hsafety] using h

/-- A detection with room in the latch: its code stands in the latch with the present time, and the pins show it. -/
theorem State.detect_faultLatched {s : State} (hroom : s.safety.latch.length < 32) (code stack cluster stream : Nat)
    (arg : List Byte) : (s.detect code stack cluster stream arg).faultLatched code s.time.now :=
  State.faultReact_faultLatched (State.faultReport_faultLatched hroom code stack cluster stream arg) code

/-- A detection leaves every session that its code moves FAULTED. -/
theorem State.detect_state {s : State} {code j : Nat} (hlen : s.sessions.length = 16) (hj : j < 16)
    (h : (s.ses j).leavesOn code = true) (stack cluster stream : Nat) (arg : List Byte) :
    ((s.detect code stack cluster stream arg).ses j).state = 5 := by
  have hcores := State.faultReport_cores code stack cluster stream arg s
  exact State.faultReact_state ((State.cores_length hcores).trans hlen) hj
    ((Session.leavesOn_congr (State.core_eq hcores j) code).trans h)

/-- The mailbox logic beside the command table. -/
def Mailbox.noCmds (m : Mailbox) : Mailbox := { m with cmds := [] }

theorem Mailbox.with_cmds_of_noCmds {m m' : Mailbox} (h : m'.noCmds = m.noCmds) : { m' with cmds := m.cmds } = m := by
  cases m; cases m'; simp_all [Mailbox.noCmds]

theorem State.faultLeave_noCmds (code : Nat) (s : State) (i : Nat) : (s.faultLeave code i).mbx.noCmds = s.mbx.noCmds := by
  unfold State.faultLeave
  split
  · show (s.sesTo i 5 code).mbx.noCmds = s.mbx.noCmds
    rw [State.sesTo_mbx]
  · rfl

/-- Of the mailbox logic a detection changes the command table alone: the commands of the sessions that leave. -/
theorem State.detect_noCmds (code stack cluster stream : Nat) (arg : List Byte) (s : State) :
    (s.detect code stack cluster stream arg).mbx.noCmds = s.mbx.noCmds := by
  have hreport : (s.faultReport code stack cluster stream arg).mbx = s.mbx := by simp [State.faultReport, State.ite_mbx]
  rw [State.detect, State.faultReact_eq, State.ite_mbx, State.modSafety_mbx, State.triggerDump_mbx, ite_self,
    State.foldl_keeps (·.mbx.noCmds) _ (State.faultLeave_noCmds code), hreport]

theorem State.detect_onlyFault (code stack cluster stream : Nat) (arg : List Byte) (s : State) :
    s.onlyFault (s.detect code stack cluster stream arg) :=
  State.ext_parts (h6 := Mailbox.with_cmds_of_noCmds (s.detect_noCmds code stack cluster stream arg))
    (by simp) (by simp) (by simp) (by simp) rfl rfl rfl rfl (by simp) (by simp) (by simp) rfl rfl rfl rfl (by simp) (by simp)
    rfl (by simp) rfl (by simp) (by simp) rfl rfl (by simp) rfl (by simp) (by simp) (by simp)

/-- Device time is among what a detection may change. -/
theorem State.onlyFault_of_at {s s' : State} {t : Nat} (h : (s.at t).onlyFault s') : s.onlyFault s' := by
  have htime := congrArg (fun x : State => { x with time := s.time }) h
  exact htime

/-- An event that is one detection: its outcome. -/
theorem ranAt_detect (t : Nat) (s : State) (code stack cluster stream : Nat) (arg : List Byte) :
    ranAt true t s (State.detect code stack cluster stream arg) =
      .next ((s.at t).detect code stack cluster stream arg) := by
  rw [ranAt_pos rfl, ← State.detect_pending code stack cluster stream arg (s.at t)]

/-! ## FRAME_HUNG -/

/-- The frame is an Exact-mode frame of a running grid, open and not published, and the
restart that is pending, if one is, is not FRAME_HUNG's own (R54). -/
def State.mayHang (s : State) : Bool :=
  s.gridRuns && s.frame.conf.exact && [Phase.opened, .afterCutoff, .afterHarvest].contains s.frame.phase &&
    s.safety.restartPending != some 0x0008

/-- The instant by which the frame's publish must be complete: S + 4P, put off by the frame's halts (R54, R306). -/
def State.hangsAt (s : State) : Nat := s.frame.openTime + 4 * s.frame.conf.period * ticksPerUs + s.req.haltTicks

theorem State.frameHung_of_due {s : State} (hmay : s.mayHang = true) (hdue : s.hangsAt ≤ s.time.now) :
    s.frameHung = s.detect 0x0008 0xFF 0xFF 0xFF [] :=
  if_pos (Bool.and_eq_true_iff.mpr ⟨hmay, decide_eq_true hdue⟩)

theorem State.frameHung_of_early {s : State} (hearly : s.time.now < s.hangsAt) : s.frameHung = s :=
  if_neg fun h => absurd (of_decide_eq_true (Bool.and_eq_true_iff.mp h).2) (Nat.not_le.mpr hearly)

/-- Every live session leaves on FRAME_HUNG, as its reaction is Restart. -/
theorem Session.leavesOn_frameHung {x : Session} (h : x.live = true) : x.leavesOn 0x0008 = true := by
  simp [Session.leavesOn, h, isRestart, restartCodes]

/-- Settles O9. From S + 4P on the event is the detection of FRAME_HUNG, whose reaction is Restart; before that instant only
device time moves. -/
theorem frameHung : Obligations.FrameHung := by
  intro s t hlen hgrid hexact hphase hroom hpending
  refine ⟨fun hdue => ?_, fun hearly => ?_⟩
  · have hmay : (s.at t).mayHang = true := by
      show s.mayHang = true
      simp only [State.mayHang, hgrid, hexact, List.contains_iff_mem.mpr hphase, bne_iff_ne.mpr hpending, Bool.and_self]
    have hhung : exec (.frameHung t) s = .next ((s.at t).detect 0x0008 0xFF 0xFF 0xFF []) := by
      rw [← ranAt_detect, exec_frameHung, ranAt_pos rfl, ranAt_pos rfl, State.frameHung_of_due hmay hdue]
    exact ⟨_, hhung, State.detect_faultLatched (s := s.at t) hroom ..,
      fun i hi hlive => State.detect_state (s := s.at t) hlen hi (Session.leavesOn_frameHung hlive) ..,
      State.onlyFault_of_at (State.detect_onlyFault ..)⟩
  · refine ⟨_, (exec_frameHung t s).trans (ranAt_pos rfl ..), ?_⟩
    rw [State.frameHung_of_early (s := s.at t) hearly]
    rfl

end Sys2Proof.Machine
end

section
/-!
SUPPORT. SAMPLE's choice of a component (R149): the search of `pickComponent` read as the least partial sum above the draw,
and the obligation on it and on the candidates that `State.runBlock` makes with it.
-/
namespace Sys2Proof.Machine

/-! ## The search through the partial sums -/

/-- The draw `r` lies below the partial sum C_m of the row (R149). -/
def drawBelow (probs : List Int) (r m : Nat) : Bool := decide ((r : Int) < sumI (probs.take (m + 1)))

theorem getElem?_map_range {α : Type} (f : Nat → α) {m n : Nat} (h : m < n) :
    ((List.range n).map f)[m]? = some (f m) := by
  rw [List.getElem?_map, List.getElem?_range h, Option.map_some]

theorem at0_map_range (f : Nat → Int) {m n : Nat} (h : m < n) : at0 ((List.range n).map f) m = f m := by
  rw [at0, List.getD_eq_getElem?_getD, getElem?_map_range f h, Option.getD_some]

/-- The table of the partial sums apart, the choice is a search for the first component that the draw lies below. -/
theorem pickComponent_eq_find? (probs : List Int) (r : Nat) :
    pickComponent probs r = ((List.range probs.length).find? (drawBelow probs r)).getD (probs.length - 1) := by
  refine congrArg (Option.getD · _) (List.find?_congr fun m hm => ?_)
  rw [at0_map_range _ (List.mem_range.mp hm), drawBelow]

theorem pickComponent_least {probs : List Int} {r : Nat} (h : ∃ m < probs.length, drawBelow probs r m = true) :
    pickComponent probs r < probs.length ∧ drawBelow probs r (pickComponent probs r) = true ∧
      ∀ k < pickComponent probs r, drawBelow probs r k = false := by
  obtain ⟨m, hm, hbelow⟩ := h
  obtain ⟨c, hc⟩ := Option.isSome_iff_exists.mp
    (List.find?_isSome.mpr ⟨m, List.mem_range.mpr hm, hbelow⟩)
  have hpick : pickComponent probs r = c := by rw [pickComponent_eq_find?, hc, Option.getD_some]
  obtain ⟨hit, hrange, hleast⟩ := List.find?_range_eq_some.mp hc
  rw [hpick]
  exact ⟨List.mem_range.mp hrange, hit, fun k hk => Bool.not_eq_true' _ ▸ hleast k hk⟩

theorem pickComponent_of_deficit {probs : List Int} {r : Nat} (h : ∀ m < probs.length, drawBelow probs r m = false) :
    pickComponent probs r = probs.length - 1 := by
  have hnone : (List.range probs.length).find? (drawBelow probs r) = none :=
    List.find?_range_eq_none.mpr fun m hm => by rw [h m hm, Bool.not_false]
  rw [pickComponent_eq_find?, hnone, Option.getD_none]

/-! ## The component of a candidate -/

/-- Settles O8. The search through the partial sums stops at the least one above the draw, or falls to M - 1 where there is
none; every row of a block takes its component from that search, unless M = 1. -/
theorem componentDraw : Obligations.ComponentDraw := by
  refine ⟨fun probs r _ => ⟨fun hhit => ?_, fun hdeficit => ?_⟩, ?_⟩
  · obtain ⟨m, hm, hbelow⟩ := hhit
    obtain ⟨hlt, hpick, hleast⟩ := pickComponent_least ⟨m, hm, decide_eq_true hbelow⟩
    exact ⟨hlt, of_decide_eq_true hpick, fun k hk => not_lt.mp (of_decide_eq_false (hleast k hk))⟩
  · exact pickComponent_of_deficit fun m hm => decide_eq_false (not_lt.mpr (hdeficit m hm))
  · intro s b x g extra ctx g0 base j word run probs hj hword hrun hprobs
    obtain rfl := funext₂ hword
    subst hrun hprobs
    exact ⟨_, getElem?_map_range _ hj, rfl, fun hone => if_pos hone, fun hmany => if_neg hmany⟩

end Sys2Proof.Machine
end

section
/-!
SUPPORT. The re-verify cluster of R185: the two searches of `State.reverifyCluster` through a stack's enabled clusters, and
the obligation on it.
-/
namespace Sys2Proof.Machine

/-! ## The enabled clusters of a stack -/

theorem State.lt_of_enabled {s : State} {p : Nat} (h : s.enabled p = true) : p < 64 :=
  of_decide_eq_true (Bool.and_eq_true_iff.mp h).1

theorem State.mem_enabledIn {s : State} {k p : Nat} : p ∈ s.enabledIn k ↔ s.enabled p = true ∧ p / 16 = k := by
  simp only [State.enabledIn, State.enabledList, List.mem_filter, List.mem_range, stackOf, beq_iff_eq]
  exact and_congr_left fun _ => and_iff_right_of_imp State.lt_of_enabled

/-- A stack's clusters are the 16 from 16k on. -/
theorem State.bounds_of_mem_enabledIn {s : State} {k p : Nat} (h : p ∈ s.enabledIn k) : 16 * k ≤ p ∧ p < 16 * k + 16 := by
  have hstack := (State.mem_enabledIn.mp h).2
  omega

/-- Between two clusters of a stack no cluster is enabled, said of the stack's enabled clusters. -/
theorem State.disabled_between_iff {s : State} {k lo hi : Nat} (hlo : 16 * k ≤ lo) (hhi : hi ≤ 16 * k + 16) :
    (∀ q, lo ≤ q → q < hi → s.enabled q = false) ↔ ∀ q ∈ s.enabledIn k, lo ≤ q → hi ≤ q := by
  refine ⟨fun h q hq hle => ?_, fun h q hle hlt => ?_⟩
  · by_contra hlt
    exact Bool.eq_false_iff.mp (h q hle (Nat.lt_of_not_le hlt)) (State.mem_enabledIn.mp hq).1
  · by_contra hon
    have hq : q ∈ s.enabledIn k := State.mem_enabledIn.mpr ⟨Bool.eq_true_of_not_eq_false hon, by omega⟩
    exact absurd (h q hq hle) (Nat.not_le.mpr hlt)

/-- A search through the enabled clusters of a stack finds the least one that meets the condition. -/
theorem State.find?_enabledIn_eq_some {s : State} {k p : Nat} {f : Nat → Bool} :
    (s.enabledIn k).find? f = some p ↔ p ∈ s.enabledIn k ∧ f p = true ∧ ∀ q ∈ s.enabledIn k, f q = true → p ≤ q := by
  simp only [State.enabledIn, State.enabledList, List.find?_filter, List.find?_range_eq_some, List.mem_filter]
  grind

/-- The first enabled cluster of a stack is its least. -/
theorem State.head?_enabledIn_eq_some {s : State} {k p : Nat} :
    (s.enabledIn k).head? = some p ↔ p ∈ s.enabledIn k ∧ ∀ q ∈ s.enabledIn k, p ≤ q := by
  have hhead : (s.enabledIn k).head? = (s.enabledIn k).find? fun _ => true := by
    cases s.enabledIn k <;> rfl
  simp only [hhead, State.find?_enabledIn_eq_some, true_and, true_imp_iff]

/-! ## The cluster -/

/-- The stack in which a stream is re-verified in the present frame (R185). -/
def State.reverifyStack (s : State) (id : Nat) : Nat := (id % 4 + 1 + s.frame.counter.toNat % 3) % 4

theorem State.reverifyStack_ne_home (s : State) (id : Nat) : s.reverifyStack id ≠ id % 4 := by
  unfold State.reverifyStack
  omega

/-- The cluster at which the search starts: the stream's slot in that stack (R185). -/
def State.reverifyStart (s : State) (id : Nat) : Nat := 16 * s.reverifyStack id + id / 4 % 16

/-- The search from the start on, and where it finds none the search from the stack's first slot. -/
theorem State.reverifyCluster_eq_or (s : State) (id : Nat) :
    s.reverifyCluster id = ((s.enabledIn (s.reverifyStack id)).find? fun p => decide (s.reverifyStart id ≤ p)).or
      (s.enabledIn (s.reverifyStack id)).head? := by
  unfold State.reverifyCluster
  dsimp only
  split <;> next hfind => exact (congrArg (Option.or · _) hfind).symm

/-- The cluster is the least enabled one from the start on; where there is none it is the stack's least. -/
theorem State.reverifyCluster_eq_some {s : State} {id p : Nat} :
    s.reverifyCluster id = some p ↔ p ∈ s.enabledIn (s.reverifyStack id) ∧
      ((s.reverifyStart id ≤ p ∧ ∀ q ∈ s.enabledIn (s.reverifyStack id), s.reverifyStart id ≤ q → p ≤ q) ∨
        ((∀ q ∈ s.enabledIn (s.reverifyStack id), q < s.reverifyStart id) ∧
          ∀ q ∈ s.enabledIn (s.reverifyStack id), p ≤ q)) := by
  simp only [State.reverifyCluster_eq_or, Option.or_eq_some_iff, State.find?_enabledIn_eq_some, List.find?_eq_none,
    State.head?_enabledIn_eq_some, decide_eq_true_eq, Nat.not_le]
  tauto

theorem State.reverifyCluster_isSome {s : State} {id p : Nat} (h : p ∈ s.enabledIn (s.reverifyStack id)) :
    (s.reverifyCluster id).isSome = true := by
  have hhead := List.isSome_head?.mpr (List.ne_nil_of_mem h)
  rw [State.reverifyCluster_eq_or, Option.isSome_or, hhead, Bool.or_true]

/-- Settles O7. The search from the stream's slot finds the least enabled cluster at or after it; where the stack has none
there, its least enabled cluster is the one that comes first after 15 wraps to 0. -/
theorem reverifyCluster : Obligations.ReverifyCluster := by
  rintro s id k a hk ha
  obtain rfl : k = s.reverifyStack id := hk
  obtain rfl : a = s.reverifyStart id := ha
  refine ⟨s.reverifyStack_ne_home id, fun p => ?_, fun ⟨p, hstack, henabled⟩ =>
    State.reverifyCluster_isSome (State.mem_enabledIn.mpr ⟨henabled, hstack⟩)⟩
  rw [State.reverifyCluster_eq_some, ← and_assoc, ← State.mem_enabledIn]
  refine and_congr_right fun hp => ?_
  have hstart : 16 * s.reverifyStack id ≤ s.reverifyStart id := Nat.le_add_right ..
  have hin := (State.bounds_of_mem_enabledIn hp).2.le
  rw [State.disabled_between_iff hstart hin, State.disabled_between_iff hstart le_rfl,
    State.disabled_between_iff le_rfl hin]
  refine or_congr_right ⟨fun ⟨hafter, hleast⟩ => ?_, fun ⟨_, hafter, hleast⟩ => ?_⟩
  · exact ⟨hafter p hp, fun q hq hle => absurd (hafter q hq) (Nat.not_lt.mpr hle), fun q hq _ => hleast q hq⟩
  · refine ⟨fun q hq => Nat.lt_of_not_le fun hle => ?_, fun q hq => hleast q hq (State.bounds_of_mem_enabledIn hq).1⟩
    exact absurd (hafter q hq hle) (Nat.not_le.mpr (State.bounds_of_mem_enabledIn hq).2)

end Sys2Proof.Machine
end

section
/-!
SUPPORT. The queue: what one command does to it, and the obligations on a step, on a run of the queue and on ill-formed
commands.
-/
namespace Sys2Proof.Machine

/-- The outcome is a next state whose queue is that of `s`. -/
def KeepsQueue (s : State) (o : Host.Outcome State Fault Refusal) : Prop := ∃ s', o = .next s' ∧ s'.pending = s.pending

/-- A row answers a next state, carried out or not, and puts the queue back. -/
theorem ranAt_keepsQueue (ok : Bool) (t : Nat) (s : State) (f : State → State) : KeepsQueue s (ranAt ok t s f) := by
  cases ok
  · exact ⟨s, rfl, rfl⟩
  · exact ⟨_, rfl, rfl⟩

/-- Every command answers a next state and leaves the queue to the commands behind it. -/
theorem exec_keepsQueue (c : Instr) (s : State) : KeepsQueue s (exec c s) := by
  unfold exec
  cases c <;> exact ranAt_keepsQueue ..

/-- The check of a row is the well-formedness of its command. -/
theorem exec_of_not_wf {c : Instr} (h : c.wf = false) (s : State) : exec c s = .next s := by
  unfold exec
  cases c <;> exact ranAt_skip h ..

/-- Settles O2. Each row runs its effect under its own check, and puts the queue back. -/
theorem wellFormedCommandsRun : Obligations.WellFormedCommandsRun :=
  fun c s => ⟨fun _ => exec_keepsQueue c s, fun h => exec_of_not_wf h s⟩

theorem step_cons {c : Instr} {rest : List Instr} {s : State} (h : s.pending = c :: rest) :
    step s = exec c { s with pending := rest } := by
  simp [step, h]

theorem step_nil {s : State} (h : s.pending = []) : step s = .next s := by
  simp [step, h]

/-- Settles O1. -/
theorem stepRunsFront : Obligations.StepRunsFront := fun _ _ _ h => step_cons h

/-- Every step answers a next state with the front command gone. -/
theorem step_next (s : State) : ∃ s', step s = .next s' ∧ s'.pending = s.pending.tail := by
  cases hq : s.pending with
  | nil => exact ⟨s, step_nil hq, hq⟩
  | cons c rest => exact step_cons hq ▸ exec_keepsQueue c _

/-- As many steps as the queue holds commands empty it. -/
theorem run_pending (n : Nat) : ∀ s : State, s.pending.length = n →
    ∃ s', Host.Core.run core n s = .next s' ∧ s'.pending = [] := by
  induction n with
  | zero => exact fun s hs => ⟨s, rfl, List.length_eq_zero_iff.mp hs⟩
  | succ n ih =>
    intro s hs
    obtain ⟨s', hstep, htail⟩ := step_next s
    obtain ⟨s'', hrun, hempty⟩ := ih s' (by rw [htail, List.length_tail, hs]; rfl)
    exact ⟨s'', by simpa only [Host.Core.run, show core.step s = .next s' from hstep] using hrun, hempty⟩

/-- Settles O3. A step takes the front command away and leaves the rest, so the queue is worked off by induction on its
length. -/
theorem queueRuns : Obligations.QueueRuns := by
  refine ⟨⟨fun s hwf => ?_, fun s _ => run_pending _ s rfl⟩, fun s => step_nil⟩
  obtain ⟨s', hstep, htail⟩ := step_next s
  exact ⟨s', hstep, htail, fun c hc => hwf c (List.mem_of_mem_tail (htail ▸ hc))⟩

end Sys2Proof.Machine
end

section
/-!
SUPPORT. The obligations on reset and on the byte memories.
-/
namespace Sys2Proof.Machine

/-- Every session of reset is CLOSED. -/
theorem State.reset_ses_state (i : Nat) (hi : i < 16) : (State.reset.ses i).state = 0 := by
  interval_cases i <;> rfl

/-- Settles O4. -/
theorem resetState : Obligations.ResetState :=
  ⟨rfl, rfl, State.reset_ses_state, rfl, rfl, rfl, rfl, rfl, rfl, rfl, rfl, rfl, rfl,
    fun _ hc => absurd hc List.not_mem_nil, fun h => absurd rfl h⟩

/-- Settles O5. An address lies among the bytes written, or below or above them. -/
theorem memoryLaws : Obligations.MemoryLaws := by
  intro m a x bs hm
  refine ⟨Mem.writeBytes_wf bs a m hm, ?_, Mem.readBytes_writeBytes bs a m hm⟩
  split
  · next hin =>
    obtain ⟨i, rfl⟩ := Nat.exists_eq_add_of_le hin.1
    have hi : i < bs.length := by omega
    rw [Mem.read_writeBytes_in bs a i m hm hi, Nat.add_sub_cancel_left, List.getD_eq_getElem _ _ hi]
  · next hout => exact Mem.read_writeBytes_out x bs a m hm (by omega)

end Sys2Proof.Machine
end

section
/-!
SUPPORT. What does not touch the supervisor: the worlds an application of brine writes, and, operation by operation,
that the SSV's part of the state (pins, latch, ages) stays as it is.
-/
namespace Sys2Proof.Machine

/-- `s'` differs from `s` at most in the worlds and the HBM's bytes. -/
def State.AtWorlds (s s' : State) : Prop := ∃ ws h, s' = { s with worlds := ws, hbm := h }

theorem State.AtWorlds.refl (s : State) : s.AtWorlds s := ⟨_, _, rfl⟩

theorem State.AtWorlds.trans {a b c : State} (h : a.AtWorlds b) (h' : b.AtWorlds c) : a.AtWorlds c := by
  obtain ⟨ws, m, rfl⟩ := h
  obtain ⟨ws', m', rfl⟩ := h'
  exact ⟨ws', m', rfl⟩

theorem State.AtWorlds.safety {a b : State} (h : a.AtWorlds b) : b.safety = a.safety := by
  obtain ⟨ws, m, rfl⟩ := h; rfl

theorem State.AtWorlds.foldl {α : Type} {g : State → α → State} (h : ∀ (s : State) a, s.AtWorlds (g s a)) (l : List α)
    (s : State) : s.AtWorlds (l.foldl g s) :=
  State.foldl_inv s.AtWorlds g (fun _ a hs => hs.trans (h _ a)) l s (.refl s)

theorem State.AtWorlds.hbmWrite {s s' : State} (h : s.AtWorlds s') (a : Nat) (bs : List Byte) :
    s.AtWorlds (s'.hbmWrite a bs) := h.trans ⟨_, _, rfl⟩
theorem State.AtWorlds.modWd {s s' : State} (h : s.AtWorlds s') (w : Nat) (f : World → World) :
    s.AtWorlds (s'.modWd w f) := h.trans ⟨_, _, rfl⟩
theorem State.AtWorlds.modWorlds {s s' : State} (h : s.AtWorlds s') (f : Worlds → Worlds) :
    s.AtWorlds (s'.modWorlds f) := h.trans ⟨_, _, rfl⟩
theorem State.AtWorlds.markDirty {s s' : State} (h : s.AtWorlds s') (w i : Nat) : s.AtWorlds (s'.markDirty w i) :=
  h.modWd ..
theorem State.AtWorlds.setDir {s s' : State} (h : s.AtWorlds s') (w i e : Nat) : s.AtWorlds (s'.setDir w i e) :=
  (h.hbmWrite ..).markDirty ..
theorem State.AtWorlds.setFine {s s' : State} (h : s.AtWorlds s') (m i e : Nat) : s.AtWorlds (s'.setFine m i e) :=
  h.hbmWrite ..
theorem State.AtWorlds.putWorkcell {s s' : State} (h : s.AtWorlds s') (n : Nat) (k : Workcell) :
    s.AtWorlds (State.putWorkcell n s' k) := h.hbmWrite ..
theorem State.AtWorlds.goodHandle {s s' : State} (h : s.AtWorlds s') (p : Nat) : s.AtWorlds (s'.goodHandle p) :=
  h.modWorlds ..
theorem State.AtWorlds.takeHandle {s s' : State} (h : s.AtWorlds s') : s.AtWorlds s'.takeHandle.2 :=
  h.trans ⟨_, _, rfl⟩
theorem State.AtWorlds.brinePan {s s' : State} (h : s.AtWorlds s') (p : Nat) (a : CellAddr) (b t q i c : Nat)
    (bs : List Byte) : s.AtWorlds (s'.brinePan p a b t q i c bs) := ((h.hbmWrite ..).hbmWrite ..).goodHandle ..
theorem State.AtWorlds.freeHandle {s s' : State} (h : s.AtWorlds s') (p : Nat) : s.AtWorlds (s'.freeHandle p) := by
  unfold State.freeHandle; split <;> exact h.modWorlds ..
theorem State.AtWorlds.clearFineMap {s s' : State} (h : s.AtWorlds s') (m : Nat) : s.AtWorlds (s'.clearFineMap m) :=
  (h.trans (.foldl (fun s p => (State.AtWorlds.refl s).freeHandle p) ..)).hbmWrite ..

/-- Emptying a world touches worlds and HBM alone. -/
theorem State.emptyWorld_atWorlds (w : Nat) (s : State) : s.AtWorlds (s.emptyWorld w) := by
  unfold State.emptyWorld
  dsimp only
  split
  · have hmaps := State.AtWorlds.foldl (g := fun s (k : Workcell) =>
        (List.range k.cells).foldl (fun s i => s.clearFineMap (k.fineMapBase + i)) s)
      (fun s k => .foldl (fun s i => (State.AtWorlds.refl s).clearFineMap _) ..) (s.worlds.workcells.filter (·.world == w)) s
    refine .modWd (.modWorlds (.hbmWrite (.hbmWrite (.trans (hmaps.trans (.foldl (fun s i => ?_) ..))
      (.foldl (fun s k => (State.AtWorlds.refl s).putWorkcell ..) ..)) ..) ..) ..) ..
    split
    · exact (State.AtWorlds.refl s).hbmWrite ..
    · exact ((State.AtWorlds.refl s).freeHandle _).hbmWrite ..
  · exact .refl s

/-- A record's outcome, where it is no refusal, touches worlds and HBM alone. -/
def Applied.AtWorlds (s : State) (x : Applied) : Prop := ∀ o, x = .inr o → s.AtWorlds o.2

theorem Applied.AtWorlds.inl {s : State} {st : Nat} : Applied.AtWorlds s (.inl st) := fun _ h => nomatch h
theorem Applied.AtWorlds.inr {s s' : State} (h : s.AtWorlds s') (n : Nat) : Applied.AtWorlds s (.inr (n, s')) := by
  rintro _ ⟨⟩; exact h

theorem applyPanReplace_atWorlds (w : Nat) (r : List Byte) (s : State) : (applyPanReplace w r s).AtWorlds s := by
  unfold applyPanReplace
  dsimp only
  split
  · exact .inl
  · split
    · exact .inl
    · split
      · exact .inr (((State.AtWorlds.refl s).brinePan ..).markDirty ..) _
      · split
        · exact .inl
        · refine .inr (.markDirty (.brinePan ?_ ..) ..) _
          split
          · exact (State.AtWorlds.refl s).takeHandle.setFine ..
          · exact (State.AtWorlds.refl s).takeHandle.setDir ..

theorem applyVoxelPatch_atWorlds (w : Nat) (r : List Byte) (s : State) : (applyVoxelPatch w r s).AtWorlds s := by
  unfold applyVoxelPatch
  dsimp only
  split
  · exact .inl
  · exact .inr (((State.AtWorlds.refl s).brinePan ..).markDirty ..) _

theorem applyMoverTable_atWorlds (w : Nat) (r : List Byte) (s : State) : (applyMoverTable w r s).AtWorlds s :=
  .inr (((State.AtWorlds.refl s).hbmWrite ..).modWd ..) _

theorem applyDefine_atWorlds (w : Nat) (r : List Byte) (s : State) : (applyDefine w r s).AtWorlds s := by
  unfold applyDefine
  dsimp only
  (repeat' split) <;> try exact .inl
  exact .inr (((State.AtWorlds.foldl (fun s j => ((State.AtWorlds.refl s).hbmWrite ..).setDir ..) ..).putWorkcell ..).modWorlds ..) _

theorem applyRetire_atWorlds (w : Nat) (r : List Byte) (s : State) : (applyRetire w r s).AtWorlds s := by
  unfold applyRetire
  dsimp only
  split
  · exact .inl
  · exact .inr (((State.AtWorlds.foldl (fun s c => ((State.AtWorlds.refl s).clearFineMap _).setDir ..) ..).putWorkcell ..).modWorlds ..) _

theorem applyOccupancy_atWorlds (w : Nat) (cmd : Nat × Nat) (r : List Byte) (s : State) :
    (applyOccupancy w cmd r s).AtWorlds s := by
  unfold applyOccupancy
  dsimp only
  (repeat' split) <;> try exact .inl
  exact .inr ((State.AtWorlds.refl s).modWorlds _) _

theorem applyCellFar_atWorlds (w : Nat) (r : List Byte) (s : State) : (applyCellFar w r s).AtWorlds s := by
  unfold applyCellFar
  dsimp only
  (repeat' split) <;> try exact .inl
  · exact .inr ((((State.AtWorlds.refl s).freeHandle _).goodHandle _).setDir ..) _
  · exact .inr ((State.AtWorlds.refl s).setDir ..) _

/-- A record touches worlds and HBM alone. -/
theorem applyRecord_atWorlds (w : Nat) (cmd : Nat × Nat) (r : List Byte) (s : State) :
    (applyRecord w cmd r s).AtWorlds s := by
  unfold applyRecord
  dsimp only
  split
  · exact .inl
  · split
    · exact .inl
    · split
      · exact .inl
      · split
        · exact .inl
        · next o ho =>
          refine .inr (State.AtWorlds.modWd ?_ ..) _
          split at ho
          · exact applyPanReplace_atWorlds w r s o ho
          · exact applyVoxelPatch_atWorlds w r s o ho
          · exact applyMoverTable_atWorlds w r s o ho
          · exact applyDefine_atWorlds w r s o ho
          · exact applyRetire_atWorlds w r s o ho
          · exact applyOccupancy_atWorlds w cmd r s o ho
          · exact applyCellFar_atWorlds w r s o ho
          · cases ho; exact .refl s

/-- The records of a command, as far as they are admitted, touch worlds and HBM alone. -/
theorem applyRecords_atWorlds (w : Nat) (cmd : Nat × Nat) {s : State} (rs : List (List Byte)) : ∀ (i : Nat) (acc o : Nat × State),
    s.AtWorlds acc.2 → applyRecords w cmd i rs acc = .inr o → s.AtWorlds o.2 := by
  induction rs with
  | nil => rintro i acc o h ⟨⟩; exact h
  | cons r rs ih =>
    intro i acc o h ho
    rw [applyRecords] at ho
    cases hr : applyRecord w cmd r acc.2 with
    | inl st => rw [hr] at ho; cases ho
    | inr x => rw [hr] at ho; exact ih (i + 1) (acc.1 + x.1, x.2) o (h.trans (applyRecord_atWorlds w cmd r acc.2 x hr)) ho

theorem applyUrgentRecord_atWorlds {w : Nat} {r : List Byte} {s s' : State} (h : applyUrgentRecord w r s = .inr s') :
    s.AtWorlds s' := by
  unfold applyUrgentRecord at h
  dsimp only at h
  (repeat' split at h) <;> cases h
  all_goals exact ((State.AtWorlds.refl s).hbmWrite ..).modWd ..

theorem applyUrgentRecords_atWorlds {w : Nat} (rs : List (List Byte)) : ∀ {i : Nat} {s s' : State},
    applyUrgentRecords w i rs s = .inr s' → s.AtWorlds s' := by
  induction rs with
  | nil => rintro i s s' ⟨⟩; exact .refl s
  | cons r rs ih =>
    intro i s s' h
    rw [applyUrgentRecords] at h
    cases hr : applyUrgentRecord w r s with
    | inl st => rw [hr] at h; cases h
    | inr x => rw [hr] at h; exact (applyUrgentRecord_atWorlds hr).trans (ih h)

/-- A fold keeps what each of its steps keeps. -/
theorem foldl_view_keeps {α β γ : Type} (v : γ → β) (g : γ → α → γ) (h : ∀ x a, v (g x a) = v x) :
    ∀ (l : List α) (x : γ), v (l.foldl g x) = v x
  | [], _ => rfl
  | a :: l, x => (foldl_view_keeps v g h l (g x a)).trans (h x a)


@[simp] theorem State.safety_when_ (s : State) (c : Bool) (f : State → State) :
    (s.when_ c f).safety = if c then (f s).safety else s.safety :=
  State.ite_safety ..
@[simp] theorem State.modSes_safety (i : Nat) (f : Session → Session) (s : State) :
    (State.modSes i f s).safety = s.safety := by
  simp [State.modSes]
@[simp] theorem State.modCl_safety (p : Nat) (f : Cluster → Cluster) (s : State) :
    (State.modCl p f s).safety = s.safety := by
  simp [State.modCl]
@[simp] theorem State.modStk_safety (i : Nat) (f : Stack → Stack) (s : State) :
    (State.modStk i f s).safety = s.safety := by
  simp [State.modStk]
@[simp] theorem State.modWd_safety (w : Nat) (f : World → World) (s : State) :
    (State.modWd w f s).safety = s.safety := by
  simp [State.modWd]
@[simp] theorem State.modFn_safety (fn : Nat) (f : FnState → FnState) (s : State) :
    (State.modFn fn f s).safety = s.safety := by
  simp [State.modFn]
@[simp] theorem State.modStream_safety (id : Nat) (f : Stream → Stream) (s : State) :
    (State.modStream id f s).safety = s.safety := by
  simp [State.modStream]
@[simp] theorem State.modPort_safety (p : Nat) (f : Port → Port) (s : State) :
    (State.modPort p f s).safety = s.safety := by
  simp [State.modPort]
@[simp] theorem State.busy_safety (p i : Nat) (s : State) : (State.busy p i s).safety = s.safety := by
  simp [State.busy]
@[simp] theorem State.sramWrite_safety (a : Nat) (bs : List Byte) (s : State) :
    (State.sramWrite a bs s).safety = s.safety := by
  simp [State.sramWrite]
@[simp] theorem State.withToken_safety (k : Nat) (f : State → State) (s : State) (h : ∀ s, (f s).safety = s.safety) :
    (s.withToken k f).safety = s.safety := by
  unfold State.withToken; (repeat' split) <;> simp [h]
@[simp] theorem State.dmaWrite_safety (k a : Nat) (bs : List Byte) (s : State) :
    (State.dmaWrite k a bs s).safety = s.safety := by
  simp [State.dmaWrite, State.foldl_safety]
@[simp] theorem State.corrected_safety (key stack cluster arg : Nat) (s : State) :
    (State.corrected key stack cluster arg s).safety = s.safety := by
  simp [State.corrected, State.ite_safety]
@[simp] theorem State.sramCorrected_safety (p key arg : Nat) (s : State) :
    (State.sramCorrected p key arg s).safety = s.safety := by
  simp [State.sramCorrected]
@[simp] theorem State.hbmCorrected_safety (p a : Nat) (s : State) : (State.hbmCorrected p a s).safety = s.safety := by
  simp [State.hbmCorrected]
@[simp] theorem State.creditLost_safety (k endpoint : Nat) (s : State) :
    (State.creditLost k endpoint s).safety = s.safety := by
  simp [State.creditLost, State.ite_safety]
@[simp] theorem State.need_safety (c : Cmd) (ok : Bool) (st : Nat) (s : State) (f : State → State) (a : Nat) :
    (s.need c ok st f a).safety = if ok then (f s).safety else s.safety := by
  unfold State.need; split <;> simp
@[simp] theorem State.shape_safety (c : Cmd) (n : Nat) (resv : List (Nat × Nat)) (s : State) (f : State → State) :
    (s.shape c n resv f).safety = if c.payload.length = n ∧ resv.all (fun r => allZero (slice c.payload r.1 r.2)) then (f s).safety else s.safety := by
  simp only [State.shape, State.need_safety, beq_iff_eq]; (repeat' split) <;> simp_all
@[simp] theorem State.letIn_safety (c : Cmd) (raw : List (List Byte)) (t : Nat) (s : State) :
    (State.letIn c raw t s).safety = s.safety := by
  unfold State.letIn
  (repeat' split) <;> simp
@[simp] theorem State.slotSubmit_safety (fn slot t : Nat) (s : State) :
    (State.slotSubmit fn slot t s).safety = s.safety := by
  unfold State.slotSubmit
  dsimp only
  (repeat' split) <;> simp
@[simp] theorem State.commandArrival_safety (fn slot : Nat) (failed : Option Nat) (t : Nat) (s : State) :
    (State.commandArrival fn slot failed t s).safety = s.safety := by
  unfold State.commandArrival
  (repeat' split) <;> simp
@[simp] theorem State.brineLanding_safety (fn slot : Nat) (s : State) :
    (State.brineLanding fn slot s).safety = s.safety := by
  unfold State.brineLanding
  (repeat' split) <;> simp
@[simp] theorem State.mailboxResponse_safety (fn slot : Nat) (s : State) :
    (State.mailboxResponse fn slot s).safety = s.safety := by
  unfold State.mailboxResponse
  (repeat' split) <;> simp
@[simp] theorem State.hubTaskTransfer_safety (k : Nat) (s : State) :
    (State.hubTaskTransfer k s).safety = s.safety := by
  unfold State.hubTaskTransfer
  (repeat' split) <;> simp
@[simp] theorem State.sluiceReopen_safety (t : Nat) (s : State) : (State.sluiceReopen t s).safety = s.safety := by
  simp [State.sluiceReopen, State.ite_safety, State.foldl_safety]
@[simp] theorem State.ageHeld_safety (s : State) : (State.ageHeld s).safety = s.safety := by
  simp [State.ageHeld, State.ite_safety, State.foldl_safety]
@[simp] theorem State.freeLanding_safety (c : Cmd) (s : State) : (State.freeLanding c s).safety = s.safety := by
  simp [State.freeLanding, State.ite_safety]
@[simp] theorem State.wipeSecure_safety (s : State) : (State.wipeSecure s).safety = s.safety := by
  simp [State.wipeSecure]
@[simp] theorem State.silence_safety (fn : Nat) (s : State) : (State.silence fn s).safety = s.safety := by
  simp [State.silence]
@[simp] theorem State.flr_safety (fn cause : Nat) (s : State) : (State.flr fn cause s).safety = s.safety := by
  simp [State.flr, State.ite_safety]
@[simp] theorem State.flrComplete_safety (fn : Nat) (s : State) : (State.flrComplete fn s).safety = s.safety := by
  simp [State.flrComplete, State.ite_safety]
@[simp] theorem State.counterLoRead_safety (fn scope inst idx : Nat) (shadow reset : Bool) (s : State) :
    (State.counterLoRead fn scope inst idx shadow reset s).safety = s.safety := by
  simp [State.counterLoRead, State.ite_safety]
@[simp] theorem State.discardRead_safety (fn : Nat) (sameCycle : Bool) (s : State) :
    (State.discardRead fn sameCycle s).safety = s.safety := by
  simp [State.discardRead]
@[simp] theorem State.timeLoRead_safety (fn : Nat) (s : State) : (State.timeLoRead fn s).safety = s.safety := by
  simp [State.timeLoRead]
@[simp] theorem State.atRtc_safety (rtc : Nat) (s : State) : (State.atRtc rtc s).safety = s.safety := by
  simp [State.atRtc]
@[simp] theorem State.rtcLoRead_safety (master rtc : Nat) (s : State) :
    (State.rtcLoRead master rtc s).safety = s.safety := by
  simp [State.rtcLoRead]
@[simp] theorem State.tamperLoRead_safety (master i : Nat) (s : State) :
    (State.tamperLoRead master i s).safety = s.safety := by
  simp [State.tamperLoRead]
@[simp] theorem State.clearLost_safety (written hw : Nat) (s : State) :
    (State.clearLost written hw s).safety = s.safety := by
  simp [State.clearLost]
@[simp] theorem State.w1cWrite_safety (old mask value hwSet : Nat) (put : Nat → State → State) (s : State) :
    (s.w1cWrite old mask value hwSet put).safety = (put (w1c old (value &&& mask) (hwSet &&& mask)) s).safety := by
  simp [State.w1cWrite]
@[simp] theorem State.ridxWrite_safety (fn r value : Nat) (s : State) :
    (State.ridxWrite fn r value s).safety = s.safety := by
  unfold State.ridxWrite
  (repeat' split) <;> simp
@[simp] theorem State.msixUnmask_safety (fn vec : Nat) (s : State) :
    (State.msixUnmask fn vec s).safety = s.safety := by
  simp [State.msixUnmask]
@[simp] theorem State.freezeTrigger_safety (s : State) (remote : Bool) :
    (State.freezeTrigger s remote).safety = s.safety := by
  simp [State.freezeTrigger]
@[simp] theorem State.pwrWake_safety (s : State) : (State.pwrWake s).safety = s.safety := by
  simp [State.pwrWake]
@[simp] theorem State.railsOn_safety (s : State) : (State.railsOn s).safety = s.safety := by
  simp [State.railsOn]
@[simp] theorem State.onePairDiscard_safety (fn : Nat) (f : State → State) (s : State) (h : (f s).safety = s.safety) :
    (s.onePairDiscard fn f).safety = s.safety := by
  unfold State.onePairDiscard; dsimp only; split <;> simp [h]
@[simp] theorem State.settleImages_safety (s : State) : (State.settleImages s).safety = s.safety := by
  simp [State.settleImages]
@[simp] theorem State.settleStreams_safety (s : State) : (State.settleStreams s).safety = s.safety := by
  simp [State.settleStreams]
@[simp] theorem State.settleObs_safety (s : State) : (State.settleObs s).safety = s.safety := by
  unfold State.settleObs
  dsimp only
  (repeat' split) <;> simp
@[simp] theorem State.settleDigest_safety (s : State) : (State.settleDigest s).safety = s.safety := by
  simp [State.settleDigest]
@[simp] theorem State.settleRecord_safety (s : State) : (State.settleRecord s).safety = s.safety := by
  simp [State.settleRecord]
@[simp] theorem State.settleNow_safety (s : State) : (State.settleNow s).safety = s.safety := by
  simp [State.settleNow, State.foldl_safety]
@[simp] theorem State.settle_safety (s : State) : (State.settle s).safety = s.safety := by
  simp [State.settle]
@[simp] theorem State.settleIdle_safety (s : State) (f : State → State) :
    (s.settleIdle f).safety = if s.frame.devState = 0 then (f s).safety else s.safety :=
  State.ite_safety ..
@[simp] theorem State.modLink_safety (linkB : Bool) (f : Link → Link) (s : State) :
    (State.modLink linkB f s).safety = s.safety := by
  simp [State.modLink, State.ite_safety]
@[simp] theorem State.perstDeassert_safety (gpio3 refclk : Bool) (s : State) :
    (State.perstDeassert gpio3 refclk s).safety = s.safety := by
  simp [State.perstDeassert]
@[simp] theorem State.sourceLost_safety (s : State) : (State.sourceLost s).safety = s.safety := by
  simp [State.sourceLost]
@[simp] theorem State.dlUp_safety (linkB : Bool) (width speed : Nat) (flit : Bool) (s : State) :
    (State.dlUp linkB width speed flit s).safety = s.safety := by
  simp [State.dlUp, State.ite_safety, State.foldl_safety]
@[simp] theorem State.busMaster_safety (fn : Nat) (on : Bool) (s : State) :
    (State.busMaster fn on s).safety = s.safety := by
  simp [State.busMaster, State.ite_safety]
@[simp] theorem State.pcieReplay_safety (linkB : Bool) (delay : Nat) (s : State) :
    (State.pcieReplay linkB delay s).safety = s.safety := by
  simp [State.pcieReplay]
@[simp] theorem State.poisonedWrite_safety (fn : Nat) (s : State) : (State.poisonedWrite fn s).safety = s.safety := by
  simp [State.poisonedWrite]
@[simp] theorem State.applyOffset_safety (offset : Int) (src : Nat) (s : State) :
    (State.applyOffset offset src s).safety = s.safety := by
  simp [State.applyOffset]
@[simp] theorem State.ptmDialog_safety (masterNs : Option Nat) (s : State) :
    (State.ptmDialog masterNs s).safety = s.safety := by
  unfold State.ptmDialog
  (repeat' split) <;> simp
@[simp] theorem State.timeCorrApply_safety (corr : Int) (src : Nat) (s : State) :
    (State.timeCorrApply corr src s).safety = s.safety := by
  simp [State.timeCorrApply, State.ite_safety]
@[simp] theorem bodyDevIdentify_safety (c : Cmd) (s : State) : (bodyDevIdentify c s).safety = s.safety := by
  simp [bodyDevIdentify]
@[simp] theorem bodyDevStatus_safety (c : Cmd) (s : State) : (bodyDevStatus c s).safety = s.safety := by
  simp [bodyDevStatus]
@[simp] theorem bodyDevKey_safety (c : Cmd) (s : State) : (bodyDevKey c s).safety = s.safety := by
  simp [bodyDevKey]
@[simp] theorem State.selectSource_safety (v : Nat) (s : State) : (State.selectSource v s).safety = s.safety := by
  simp [State.selectSource, State.ite_safety]
@[simp] theorem bodyDevTimeSource_safety (c : Cmd) (s : State) : (bodyDevTimeSource c s).safety = s.safety := by
  simp [bodyDevTimeSource]
@[simp] theorem bodySesOpen_safety (c : Cmd) (s : State) : (bodySesOpen c s).safety = s.safety := by
  unfold bodySesOpen
  simp
  intros
  (repeat' split) <;> simp
@[simp] theorem bodySesSet_safety (c : Cmd) (s : State) : (bodySesSet c s).safety = s.safety := by
  unfold bodySesSet
  simp
  intros
  (repeat' split) <;> simp
@[simp] theorem bodySesStart_safety (c : Cmd) (s : State) : (bodySesStart c s).safety = s.safety := by
  simp [bodySesStart]
@[simp] theorem bodySesStop_safety (c : Cmd) (s : State) : (bodySesStop c s).safety = s.safety := by
  simp [bodySesStop, State.ite_safety]
@[simp] theorem bodySesRecover_safety (c : Cmd) (s : State) : (bodySesRecover c s).safety = s.safety := by
  simp [bodySesRecover, State.ite_safety]
@[simp] theorem bodySesClose_safety (c : Cmd) (s : State) : (bodySesClose c s).safety = s.safety := by
  simp [bodySesClose]
@[simp] theorem bodySesStatus_safety (c : Cmd) (s : State) : (bodySesStatus c s).safety = s.safety := by
  simp [bodySesStatus]
@[simp] theorem bodyFrameConfig_safety (c : Cmd) (s : State) : (bodyFrameConfig c s).safety = s.safety := by
  unfold bodyFrameConfig
  simp only [State.shape_safety, State.need_safety]
  (repeat' split) <;> simp
@[simp] theorem State.startGrid_safety (t0 devState : Nat) (s : State) :
    (State.startGrid t0 devState s).safety = s.safety := by
  simp [State.startGrid]
@[simp] theorem bodyGridStart_safety (c : Cmd) (s : State) : (bodyGridStart c s).safety = s.safety := by
  simp [bodyGridStart]
@[simp] theorem State.answerWaiting_safety (op : Nat) (s : State) : (State.answerWaiting op s).safety = s.safety := by
  unfold State.answerWaiting
  rw [State.foldl_safety _ fun s a => ?_]
  all_goals simp
@[simp] theorem State.refuseWaiting_safety (op status : Nat) (s : State) :
    (State.refuseWaiting op status s).safety = s.safety := by
  unfold State.refuseWaiting
  rw [State.foldl_safety _ fun s a => ?_]
  all_goals simp
@[simp] theorem State.toIdle_safety (s : State) : (State.toIdle s).safety = s.safety := by
  simp [State.toIdle]
@[simp] theorem bodyGridStop_safety (c : Cmd) (s : State) : (bodyGridStop c s).safety = s.safety := by
  simp [bodyGridStop, State.ite_safety]
@[simp] theorem bodyStreamAdd_safety (c : Cmd) (s : State) : (bodyStreamAdd c s).safety = s.safety := by
  simp [bodyStreamAdd]
@[simp] theorem bodyStreamResize_safety (c : Cmd) (s : State) : (bodyStreamResize c s).safety = s.safety := by
  simp [bodyStreamResize]
@[simp] theorem bodyStreamRemove_safety (c : Cmd) (s : State) : (bodyStreamRemove c s).safety = s.safety := by
  simp [bodyStreamRemove]
@[simp] theorem State.replaceQueries_safety (c : Cmd) (ids : List Nat) (s : State) :
    (State.replaceQueries c ids s).safety = s.safety := by
  simp [State.replaceQueries]
@[simp] theorem bodyQuerySubmit_safety (c : Cmd) (s : State) : (bodyQuerySubmit c s).safety = s.safety := by
  unfold bodyQuerySubmit
  simp only [State.need_safety]
  (repeat' split) <;> simp
  refine State.foldl_safety _ (fun s b => ?_) ..
  rfl
@[simp] theorem bodyRingRegister_safety (c : Cmd) (s : State) : (bodyRingRegister c s).safety = s.safety := by
  simp [bodyRingRegister]
@[simp] theorem bodyRingRelease_safety (c : Cmd) (s : State) : (bodyRingRelease c s).safety = s.safety := by
  simp [bodyRingRelease]
@[simp] theorem State.deliverCounted_safety (c : Cmd) (bs : List Byte) (s : State) :
    (State.deliverCounted c bs s).safety = s.safety := by
  simp [State.deliverCounted]
@[simp] theorem bodyResultLast_safety (c : Cmd) (s : State) : (bodyResultLast c s).safety = s.safety := by
  unfold bodyResultLast
  simp
  intros
  (repeat' split) <;> simp
@[simp] theorem bodyRecordStart_safety (c : Cmd) (s : State) : (bodyRecordStart c s).safety = s.safety := by
  simp [bodyRecordStart]
@[simp] theorem bodyRecordStop_safety (c : Cmd) (s : State) : (bodyRecordStop c s).safety = s.safety := by
  simp [bodyRecordStop]
@[simp] theorem bodyCaptureRelease_safety (c : Cmd) (s : State) : (bodyCaptureRelease c s).safety = s.safety := by
  simp [bodyCaptureRelease]
@[simp] theorem State.captureWrite_safety (descs : List Desc) : ∀ (pos : Nat) (bs : List Byte) (s :
    State), (State.captureWrite descs pos bs s).safety = s.safety
  | _, [], _ => rfl
  | pos, b :: bs, s => by
    rw [State.captureWrite, State.captureWrite_safety descs (pos + 1) bs]
    split <;> simp
@[simp] theorem State.stopRecorded_safety (s : State) : (State.stopRecorded s).safety = s.safety := by
  unfold State.stopRecorded
  rw [State.foldl_safety _ fun s a => ?_]
  all_goals simp
@[simp] theorem State.captureDrain_safety (bytes : Nat) (s : State) :
    (State.captureDrain bytes s).safety = s.safety := by
  simp [State.captureDrain, State.ite_safety]
@[simp] theorem bodyOpDigestSet_safety (c : Cmd) (s : State) : (bodyOpDigestSet c s).safety = s.safety := by
  simp [bodyOpDigestSet]
@[simp] theorem bodyReplayStart_safety (c : Cmd) (s : State) : (bodyReplayStart c s).safety = s.safety := by
  simp [bodyReplayStart]
@[simp] theorem State.replayUnstall_safety (s : State) : (State.replayUnstall s).safety = s.safety := by
  unfold State.replayUnstall
  rw [State.foldl_safety _ fun s a => ?_]
  all_goals (repeat' split) <;> simp
@[simp] theorem bodyReplayFeed_safety (c : Cmd) (s : State) : (bodyReplayFeed c s).safety = s.safety := by
  unfold bodyReplayFeed
  split <;> simp
@[simp] theorem State.pauseAll_safety (cause : Nat) (s : State) : (State.pauseAll cause s).safety = s.safety := by
  simp [State.pauseAll, State.ite_safety, State.foldl_safety]
@[simp] theorem bodyReplayStop_safety (c : Cmd) (s : State) : (bodyReplayStop c s).safety = s.safety := by
  simp [bodyReplayStop, State.ite_safety]
@[simp] theorem bodyPause_safety (c : Cmd) (s : State) : (bodyPause c s).safety = s.safety := by
  simp [bodyPause]
@[simp] theorem bodySave_safety (c : Cmd) (s : State) : (bodySave c s).safety = s.safety := by
  simp [bodySave]
@[simp] theorem State.reJudge_safety (i : Nat) (s : State) : (State.reJudge i s).safety = s.safety := by
  simp [State.reJudge, State.ite_safety]
@[simp] theorem State.restoreFrom_safety (x : SavedState) (s : State) :
    (State.restoreFrom x s).safety = s.safety := by
  simp [State.restoreFrom, State.foldl_safety]
@[simp] theorem bodyRestore_safety (c : Cmd) (s : State) : (bodyRestore c s).safety = s.safety := by
  unfold bodyRestore
  simp
  intros
  (repeat' split) <;> simp
@[simp] theorem bodyResume_safety (c : Cmd) (s : State) : (bodyResume c s).safety = s.safety := by
  simp [bodyResume]
@[simp] theorem bodySlipLogRead_safety (c : Cmd) (s : State) : (bodySlipLogRead c s).safety = s.safety := by
  simp [bodySlipLogRead]
@[simp] theorem State.hbmWrite_safety (a : Nat) (bs : List Byte) (s : State) :
    (State.hbmWrite a bs s).safety = s.safety := by
  simp [State.hbmWrite]
@[simp] theorem State.markDirty_safety (w i : Nat) (s : State) : (State.markDirty w i s).safety = s.safety := by
  simp [State.markDirty]
@[simp] theorem State.setDir_safety (w i e : Nat) (s : State) : (State.setDir w i e s).safety = s.safety := by
  simp [State.setDir]
@[simp] theorem State.setFine_safety (m i e : Nat) (s : State) : (State.setFine m i e s).safety = s.safety := by
  simp [State.setFine]
@[simp] theorem State.takeHandle_safety (s : State) : (s.takeHandle.2).safety = s.safety := rfl
@[simp] theorem State.freeHandle_safety (h : Nat) (s : State) : (State.freeHandle h s).safety = s.safety := by
  simp [State.freeHandle, State.ite_safety]
@[simp] theorem State.panWrite_safety (h : Nat) (a : CellAddr) (build snapshot seq interp crc : Nat) (payload : List Byte) (s : State) :
    (State.panWrite h a build snapshot seq interp crc payload s).safety = s.safety := by
  simp [State.panWrite]
@[simp] theorem State.goodHandle_safety (h : Nat) (s : State) : (State.goodHandle h s).safety = s.safety := by
  simp [State.goodHandle]
@[simp] theorem State.brinePan_safety (h : Nat) (a : CellAddr) (build snapshot seq interp crc : Nat) (payload : List Byte) (s : State) :
    (State.brinePan h a build snapshot seq interp crc payload s).safety = s.safety := by
  simp [State.brinePan]
@[simp] theorem State.putWorkcell_safety (state : Nat) (s : State) (k : Workcell) :
    (State.putWorkcell state s k).safety = s.safety := by
  simp [State.putWorkcell]
@[simp] theorem State.clearFineMap_safety (m : Nat) (s : State) : (State.clearFineMap m s).safety = s.safety := by
  simp [State.clearFineMap, State.foldl_safety]
@[simp] theorem State.emptyWorld_safety (w : Nat) (s : State) : (s.emptyWorld w).safety = s.safety :=
  (s.emptyWorld_atWorlds w).safety
@[simp] theorem State.installWorld_safety (b : List Byte) (w : Nat) (s : State) :
    (State.installWorld b w s).safety = s.safety := by
  unfold State.installWorld
  simp only [State.modWd_eq, State.modWorlds_safety]
  rw [State.foldl_safety _ fun s k => by simp]
  simp only [State.hbmWrite_safety]
  refine foldl_view_keeps (fun x : State × List Nat => x.1.safety) _ (fun x p => ?_) ..
  simp
@[simp] theorem State.ledgerPut_safety (code value : Nat) (signer : List Byte) (s : State) :
    (State.ledgerPut code value signer s).safety = s.safety := by
  simp [State.ledgerPut]
@[simp] theorem State.modSlot_safety (kind slot : Nat) (f : SlotState → SlotState) (s : State) :
    (State.modSlot kind slot f s).safety = s.safety := by
  simp [State.modSlot]
@[simp] theorem State.startCopy_safety (c : Cmd) (kind slot id : Nat) (plain : List Byte) (s : State) :
    (State.startCopy c kind slot id plain s).safety = s.safety := by
  simp [State.startCopy]
@[simp] theorem State.emptySlot_safety (slot : Nat) (s : State) : (State.emptySlot slot s).safety = s.safety := by
  simp [State.emptySlot]
@[simp] theorem State.finishWorld_safety (c : Cmd) (slot : Nat) (enc : Bool) (bs : List Byte) (s : State) :
    (State.finishWorld c slot enc bs s).safety = s.safety := by
  unfold State.finishWorld
  (repeat' split) <;> simp
@[simp] theorem State.loadPart_safety (c : Cmd) (named part : Nat) (more enc : Bool) (s : State) :
    (State.loadPart c named part more enc s).safety = s.safety := by
  unfold State.loadPart
  (repeat' split) <;> simp
@[simp] theorem State.copyComplete_safety (kind slot : Nat) (s : State) :
    (State.copyComplete kind slot s).safety = s.safety := by
  unfold State.copyComplete
  dsimp only
  (repeat' split) <;> simp
@[simp] theorem bodyImgUnload_safety (c : Cmd) (s : State) : (bodyImgUnload c s).safety = s.safety := by
  simp [bodyImgUnload, State.ite_safety]
@[simp] theorem bodyImgList_safety (c : Cmd) (s : State) : (bodyImgList c s).safety = s.safety := by
  simp [bodyImgList]
@[simp] theorem State.copyUrgents_safety (w : Nat) (s : State) : (State.copyUrgents w s).safety = s.safety := by
  simp [State.copyUrgents, State.foldl_safety]
@[simp] theorem State.copyAllUrgents_safety (s : State) : (State.copyAllUrgents s).safety = s.safety := by
  simp [State.copyAllUrgents, State.ite_safety, State.foldl_safety]
@[simp] theorem State.distOutput_safety (job : Nat) (j : DistJob) (out : List (List Int)) (s : State) :
    (State.distOutput job j out s).safety = s.safety := by
  unfold State.distOutput
  rw [State.foldl_safety _ fun s a => ?_]
  all_goals (repeat' split) <;> simp
@[simp] theorem State.distBuild_safety (job : Nat) (s : State) : (State.distBuild job s).safety = s.safety := by
  unfold State.distBuild
  split <;> simp
@[simp] theorem State.distPan_safety (j : DistJob) (a : CellAddr) (field : List Int) (s : State) :
    (State.distPan j a field s).safety = s.safety := by
  unfold State.distPan
  dsimp only
  (repeat' split) <;> simp
@[simp] theorem State.writeBoxes_safety (s : State) : s.writeBoxes.safety = s.safety := by
  unfold State.writeBoxes
  refine (State.foldl_safety _ (fun s j => ?_) _ _).trans rfl
  split <;> simp only [State.ite_safety, State.modCmd_safety, State.modWorlds_safety, ite_self]
  all_goals exact State.foldl_safety _ (fun s k => by split <;> simp) ..
@[simp] theorem State.modSched_safety (p : Nat) (f : Scheduler → Scheduler) (s : State) :
    (State.modSched p f s).safety = s.safety := by
  simp [State.modSched]
@[simp] theorem State.writeDrain_safety (p : Nat) (atGuard : Bool) (s : State) :
    (State.writeDrain p atGuard s).safety = s.safety := by
  simp [State.writeDrain]
@[simp] theorem State.stopPll_safety (k : Nat) (s : State) : (State.stopPll k s).safety = s.safety := by
  simp [State.stopPll, State.ite_safety]
@[simp] theorem State.gateIdle_safety (p : Nat) (s : State) : (State.gateIdle p s).safety = s.safety := by
  simp [State.gateIdle, State.ite_safety]
@[simp] theorem State.gateAll_safety (s : State) : (State.gateAll s).safety = s.safety := by
  simp [State.gateAll, State.foldl_safety]
@[simp] theorem State.traceTask_safety (p kind : Nat) (d : TaskDesc) (st producer reason : Nat) (s : State) :
    (State.traceTask p kind d st producer reason s).safety = s.safety := by
  simp [State.traceTask]
@[simp] theorem State.refuseTask_safety (p : Nat) (d : TaskDesc) (producer : Nat) (reserved : Bool) (s : State) :
    (State.refuseTask p d producer reserved s).safety = s.safety := by
  simp [State.refuseTask, State.ite_safety]
@[simp] theorem State.enter_safety (p seat : Nat) (d : TaskDesc) (producer : Nat) (s : State) :
    (State.enter p seat d producer s).safety = s.safety := by
  simp [State.enter]
@[simp] theorem State.admitTask_safety (p : Nat) (d : TaskDesc) (producer : Nat) (yes no : State → State) (s : State) (hy : ∀ s, (yes s).safety = s.safety) (hn : ∀ s, (no s).safety = s.safety) :
    (s.admitTask p d producer yes no).safety = s.safety := by
  unfold State.admitTask; dsimp only; (repeat' split) <;> simp [hy, hn]
@[simp] theorem State.noteBlock0_safety (p : Nat) (d : TaskDesc) (s : State) :
    (State.noteBlock0 p d s).safety = s.safety := by
  simp [State.noteBlock0, State.ite_safety]
@[simp] theorem State.streamOn_safety (s : State) (wid : Nat) (f : Stream → Stream) :
    (State.streamOn s wid f).safety = s.safety := by
  simp [State.streamOn]
@[simp] theorem State.noteTaken_safety (p : Nat) (d : TaskDesc) (s : State) :
    (State.noteTaken p d s).safety = s.safety := by
  simp [State.noteTaken, State.ite_safety]
@[simp] theorem State.noteAffinity_safety (p : Nat) (d : TaskDesc) (s : State) :
    (State.noteAffinity p d s).safety = s.safety := by
  simp [State.noteAffinity, State.ite_safety]
@[simp] theorem State.withdraw_safety (op : TaskOp) (stream : Nat) (s : State) :
    (State.withdraw op stream s).safety = s.safety := by
  simp [State.withdraw]
@[simp] theorem State.issueCopy_safety (p : Nat) (d : TaskDesc) (s : State) :
    (State.issueCopy p d s).safety = s.safety := by
  unfold State.issueCopy
  (repeat' split) <;> simp [State.ite_safety]
@[simp] theorem State.offerTo_safety (p : Nat) (q : Queued) (s : State) :
    (State.offerTo p q s).safety = s.safety := by
  unfold State.offerTo
  dsimp only
  split
  · rfl
  · exact State.admitTask_safety _ _ _ _ _ _ (fun s => by simp) fun s => by simp
@[simp] theorem State.dispatcherOffer_safety (p cyc : Nat) (d : TaskDesc) (s : State) :
    (State.dispatcherOffer p cyc d s).safety = s.safety := by
  unfold State.dispatcherOffer
  dsimp only
  (repeat' split) <;> simp
@[simp] theorem State.dmaOffer_safety (p : Nat) (d : TaskDesc) (s : State) :
    (State.dmaOffer p d s).safety = s.safety := by
  simp [State.dmaOffer, State.ite_safety]
@[simp] theorem State.holdOwn_safety (p : Nat) (d : TaskDesc) (s : State) :
    (State.holdOwn p d s).safety = s.safety := by
  simp [State.holdOwn]
@[simp] theorem State.ownOffer_safety (p : Nat) (d : TaskDesc) (s : State) :
    (State.ownOffer p d s).safety = s.safety := by
  simp [State.ownOffer, State.ite_safety]
@[simp] theorem State.taskOffer_safety (p : Nat) (producer : Producer) (d : TaskDesc) (cyc : Nat) (s : State) :
    (State.taskOffer p producer d cyc s).safety = s.safety := by
  unfold State.taskOffer
  (repeat' split) <;> simp
@[simp] theorem State.ready_safety (p : Nat) (h : Held) (s : State) : (State.ready p h s).safety = s.safety := by
  simp [State.ready, State.ite_safety]
@[simp] theorem State.token_safety (p entry : Nat) (s : State) : (State.token p entry s).safety = s.safety := by
  unfold State.token
  (repeat' split) <;> simp
@[simp] theorem State.handOver_safety (p seat : Nat) (d : TaskDesc) (s : State) :
    (State.handOver p seat d s).safety = s.safety := by
  simp [State.handOver, State.ite_safety]
@[simp] theorem State.complete_safety (p unit : Nat) (h : Held) (succ : List TaskDesc) (s : State) :
    (State.complete p unit h succ s).safety = s.safety := by
  simp [State.complete, State.foldl_safety]
@[simp] theorem State.copyDone_safety (p : Nat) (d : TaskDesc) (s : State) :
    (State.copyDone p d s).safety = s.safety := by
  unfold State.copyDone
  (repeat' split) <;> simp
@[simp] theorem State.release_safety (p : Nat) (h : Held) (s : State) : (State.release p h s).safety = s.safety := by
  simp [State.release]
@[simp] theorem State.delayRelease_safety (p entry cyc : Nat) (s : State) :
    (State.delayRelease p entry cyc s).safety = s.safety := by
  unfold State.delayRelease
  dsimp only
  (repeat' split) <;> simp
@[simp] theorem State.endSafety_safety (p : Nat) (op : TaskOp) (s : State) :
    (State.endSafety p op s).safety = s.safety := by
  simp [State.endSafety]
@[simp] theorem State.clusterWake_safety (p : Nat) (s : State) : (State.clusterWake p s).safety = s.safety := by
  simp [State.clusterWake]
@[simp] theorem State.pllRestart_safety (k : Nat) (s : State) : (State.pllRestart k s).safety = s.safety := by
  simp [State.pllRestart]
@[simp] theorem State.march_safety (p r : Nat) (s : State) : (State.march p r s).safety = s.safety := by
  simp [State.march, State.foldl_safety]
@[simp] theorem State.bgtFault_safety (p r : Nat) (s : State) : (State.bgtFault p r s).safety = s.safety := by
  simp [State.bgtFault, State.ite_safety]
@[simp] theorem State.bgtRun_safety (p : Nat) (found : Bool) (s : State) :
    (State.bgtRun p found s).safety = s.safety := by
  simp [State.bgtRun, State.ite_safety]
@[simp] theorem State.bgtStep_safety (p : Nat) (running found : Bool) (s : State) :
    (State.bgtStep p running found s).safety = s.safety := by
  simp [State.bgtStep, State.ite_safety, State.foldl_safety]
@[simp] theorem State.hbmTempRead_safety (h : Nat) (c : Int) (s : State) :
    (State.hbmTempRead h c s).safety = s.safety := by
  simp [State.hbmTempRead, State.ite_safety]
@[simp] theorem State.copiesEnd_safety (kind slot : Nat) (s : State) :
    (State.copiesEnd kind slot s).safety = s.safety := by
  simp [State.copiesEnd]
@[simp] theorem State.modCand_safety (cl stream g : Nat) (p : Cand → Bool) (f : Cand → Cand) (s : State) :
    (State.modCand cl stream g p f s).safety = s.safety := by
  simp [State.modCand]
@[simp] theorem State.tallyOn_safety (cl stream : Nat) (f : Tally → Tally) (s : State) :
    (State.tallyOn cl stream f s).safety = s.safety := by
  simp [State.tallyOn]
@[simp] theorem State.panFault_safety (p h : Nat) (s : State) : (State.panFault p h s).safety = s.safety := by
  simp [State.panFault]
@[simp] theorem State.sweep_safety (p : Nat) (f : Sweeping) (needs : List Need) (done : State → State) (s : State) (h : ∀ s, (done s).safety = s.safety) :
    (s.sweep p f needs done).safety = s.safety := by
  unfold State.sweep; dsimp only; split <;> simp [h]
@[simp] theorem State.afterSweep_safety (p kind : Nat) (x : Progress) (layer op : Nat) (s : State) :
    (State.afterSweep p kind x layer op s).safety = s.safety := by
  simp [State.afterSweep, State.foldl_safety]
@[simp] theorem State.streamTiles_safety (p : Nat) (net : Net) (s : State) :
    (State.streamTiles p net s).safety = s.safety := by
  simp [State.streamTiles, State.ite_safety, State.foldl_safety]
@[simp] theorem State.contextRun_safety (id p : Nat) (s : State) : (State.contextRun id p s).safety = s.safety := by
  unfold State.contextRun
  (repeat' split) <;> simp
@[simp] theorem State.placeCarried_safety (id : Nat) (s : State) : (State.placeCarried id s).safety = s.safety := by
  unfold State.placeCarried
  (repeat' split) <;> simp
@[simp] theorem State.placeFarmed_safety (id p : Nat) (s : State) : (State.placeFarmed id p s).safety = s.safety := by
  simp [State.placeFarmed]
@[simp] theorem State.block0On_safety (id p : Nat) (s : State) : (State.block0On id p s).safety = s.safety := by
  simp [State.block0On]
@[simp] theorem State.addBlock_safety (p : Nat) (b : Binding) (x : Stream) (cands : List Cand) (flags guards cycles : Nat) (s : State) :
    (State.addBlock p b x cands flags guards cycles s).safety = s.safety := by
  simp [State.addBlock, State.ite_safety]
@[simp] theorem State.headBlock_safety (id p : Nat) (s : State) : (State.headBlock id p s).safety = s.safety := by
  unfold State.headBlock
  (repeat' split) <;> simp
@[simp] theorem State.localBlock_safety (id p : Nat) (s : State) : (State.localBlock id p s).safety = s.safety := by
  unfold State.localBlock
  (repeat' split) <;> simp
@[simp] theorem State.shortlist_safety (p : Nat) (e : Entry) (s : State) :
    (State.shortlist p e s).safety = s.safety := by
  simp [State.shortlist]
@[simp] theorem State.costProgram_safety (p id g stage : Nat) (s : State) :
    (State.costProgram p id g stage s).safety = s.safety := by
  unfold State.costProgram
  (repeat' split) <;> simp
@[simp] theorem State.topkCut_safety (p id : Nat) (s : State) : (State.topkCut p id s).safety = s.safety := by
  unfold State.topkCut
  split <;> simp
@[simp] theorem State.factorisation_safety (p id g block core : Nat) (s : State) :
    (State.factorisation p id g block core s).safety = s.safety := by
  unfold State.factorisation
  split <;> simp
@[simp] theorem State.countSmooth_safety (p : Nat) (x : Stream) (c : Cand) (s : State) :
    (State.countSmooth p x c s).safety = s.safety := by
  simp [State.countSmooth, State.ite_safety, State.foldl_safety]
@[simp] theorem State.solverIteration_safety (p id : Nat) (gs : List Nat) (s : State) :
    (State.solverIteration p id gs s).safety = s.safety := by
  unfold State.solverIteration
  (repeat' split) <;> simp [State.foldl_safety]
@[simp] theorem State.bufferMap_safety (p : Nat) (tm : List TmEntry) (s : State) :
    (State.bufferMap p tm s).safety = s.safety := by
  simp [State.bufferMap]
@[simp] theorem State.timeScalingOp_safety (p id g : Nat) (s : State) :
    (State.timeScalingOp p id g s).safety = s.safety := by
  unfold State.timeScalingOp
  dsimp only
  (repeat' split) <;> simp
@[simp] theorem State.verdictDone_safety (p kind phase : Nat) (x : Stream) (g : Nat) (r : Progress) (v : Verdict) (s : State) :
    (State.verdictDone p kind phase x g r v s).safety = s.safety := by
  simp [State.verdictDone]
@[simp] theorem State.checkDone_safety (p id g epoch : Nat) (s : State) :
    (State.checkDone p id g epoch s).safety = s.safety := by
  unfold State.checkDone
  (repeat' split) <;> simp [State.ite_safety]
@[simp] theorem State.checkOp_safety (p id g : Nat) (s : State) : (State.checkOp p id g s).safety = s.safety := by
  unfold State.checkOp
  split <;> simp
@[simp] theorem State.keepMap_safety (p slot : Nat) (tm : List TmEntry) (s : State) :
    (State.keepMap p slot tm s).safety = s.safety := by
  simp [State.keepMap, State.ite_safety]
@[simp] theorem State.recheckDone_safety (p id g epoch : Nat) (s : State) :
    (State.recheckDone p id g epoch s).safety = s.safety := by
  unfold State.recheckDone
  (repeat' split) <;> simp [State.ite_safety]
@[simp] theorem State.recheckOp_safety (p id g : Nat) (s : State) : (State.recheckOp p id g s).safety = s.safety := by
  unfold State.recheckOp
  split <;> simp
@[simp] theorem State.repairDone_safety (p id epoch : Nat) (s : State) :
    (State.repairDone p id epoch s).safety = s.safety := by
  unfold State.repairDone
  (repeat' split) <;> simp [State.ite_safety]
@[simp] theorem State.repairOp_safety (id : Nat) (s : State) : (State.repairOp id s).safety = s.safety := by
  unfold State.repairOp
  (repeat' split) <;> simp
@[simp] theorem State.stopDone_safety (p id epoch : Nat) (s : State) :
    (State.stopDone p id epoch s).safety = s.safety := by
  unfold State.stopDone
  dsimp only
  (repeat' split) <;> simp
@[simp] theorem State.stopOp_safety (id : Nat) (s : State) : (State.stopOp id s).safety = s.safety := by
  unfold State.stopOp
  (repeat' split) <;> simp
@[simp] theorem State.probeDone_safety (p id g epoch : Nat) (s : State) :
    (State.probeDone p id g epoch s).safety = s.safety := by
  unfold State.probeDone
  split <;> simp
@[simp] theorem State.probeOp_safety (p id g : Nat) (s : State) : (State.probeOp p id g s).safety = s.safety := by
  unfold State.probeOp
  split <;> simp
@[simp] theorem State.captureBrine_safety (kind when_ : Nat) (c : Cmd) (s : State) :
    (State.captureBrine kind when_ c s).safety = s.safety := by
  simp [State.captureBrine, State.ite_safety]
@[simp] theorem State.forwardBrine_safety (urgent : Bool) (c : Cmd) (s : State) :
    (State.forwardBrine urgent c s).safety = s.safety := by
  unfold State.forwardBrine
  (repeat' split) <;> simp
@[simp] theorem State.brineArrival_safety (urgent : Bool) (c : Cmd) (s : State) (f : List (List Byte) → State → State) (h : ∀ rs, (f rs s).safety = s.safety) :
    (s.brineArrival urgent c f).safety = s.safety := by
  unfold State.brineArrival; dsimp only; (repeat' split) <;> simp [h]
@[simp] theorem bodyBrine_safety (c : Cmd) (s : State) : (bodyBrine c s).safety = s.safety :=
  State.brineArrival_safety _ _ _ _ fun rs => by split <;> simp
@[simp] theorem bodyBrineUrgent_safety (c : Cmd) (s : State) : (bodyBrineUrgent c s).safety = s.safety :=
  State.brineArrival_safety _ _ _ _ fun rs => by simp
@[simp] theorem State.countBrine_safety (c : Cmd) (n : Nat) (s : State) :
    (State.countBrine c n s).safety = s.safety := by
  simp [State.countBrine, State.ite_safety, State.foldl_safety]
@[simp] theorem State.holdBrine_safety (c : Cmd) (s : State) : (State.holdBrine c s).safety = s.safety := by
  simp [State.holdBrine]
@[simp] theorem State.startBrine_safety (c : Cmd) (rs : List (List Byte)) (s : State) :
    (s.startBrine c rs).safety = s.safety := by
  unfold State.startBrine
  split
  · simp
  · next out hout =>
    have hkept := (applyRecords_atWorlds _ _ rs 0 (0, s) out (.refl s) hout).safety
    dsimp only
    (repeat' split) <;> simp [hkept]
@[simp] theorem State.fabricAnswers_safety (s : State) : (State.fabricAnswers s).safety = s.safety := by
  unfold State.fabricAnswers
  rw [State.foldl_safety _ fun s a => ?_]
  all_goals simp
@[simp] theorem State.brineApply_safety (fn slot : Nat) (s : State) :
    (State.brineApply fn slot s).safety = s.safety := by
  unfold State.brineApply
  (repeat' split) <;> simp
@[simp] theorem bodyWorldStatus_safety (c : Cmd) (s : State) : (bodyWorldStatus c s).safety = s.safety := by
  simp [bodyWorldStatus]
@[simp] theorem bodyPanRead_safety (c : Cmd) (s : State) : (bodyPanRead c s).safety = s.safety := by
  unfold bodyPanRead
  simp
  intros
  (repeat' split) <;> simp
@[simp] theorem bodyCtrRead_safety (c : Cmd) (s : State) : (bodyCtrRead c s).safety = s.safety := by
  unfold bodyCtrRead
  simp
  intros
  (repeat' split) <;> simp
@[simp] theorem bodyCtrSelect_safety (c : Cmd) (s : State) : (bodyCtrSelect c s).safety = s.safety := by
  unfold bodyCtrSelect
  simp
  intros
  (repeat' split) <;> simp
@[simp] theorem bodyFreeze_safety (c : Cmd) (s : State) : (bodyFreeze c s).safety = s.safety := by
  simp [bodyFreeze]
@[simp] theorem State.trigIn_safety (s : State) : (State.trigIn s).safety = s.safety := by
  simp [State.trigIn, State.ite_safety]
@[simp] theorem State.fabricFreeze_safety (s : State) : (State.fabricFreeze s).safety = s.safety := by
  simp [State.fabricFreeze, State.ite_safety]
@[simp] theorem State.freezeInstant_safety (s : State) : s.freezeInstant.safety = s.safety := by
  unfold State.freezeInstant
  dsimp only
  split
  · rfl
  · split
    · rfl
    · refine (State.foldl_safety _ (fun s c => by simp) ..).trans ?_
      rw [State.ite_safety, State.fabricSend_safety, ite_self, State.foldl_safety _ fun s b => by simp]
      simp
@[simp] theorem State.shadowsDone_safety (s : State) : (State.shadowsDone s).safety = s.safety := by
  simp [State.shadowsDone]
@[simp] theorem bodyTraceConfig_safety (c : Cmd) (s : State) : (bodyTraceConfig c s).safety = s.safety := by
  unfold bodyTraceConfig
  split <;> simp
@[simp] theorem bodyTraceRead_safety (c : Cmd) (s : State) : (bodyTraceRead c s).safety = s.safety := by
  simp [bodyTraceRead]
@[simp] theorem State.traceUnitWrite_safety (b source : Nat) (u : List Byte) (s : State) :
    (State.traceUnitWrite b source u s).safety = s.safety := by
  simp [State.traceUnitWrite, State.ite_safety]
@[simp] theorem bodyBreakSet_safety (c : Cmd) (s : State) : (bodyBreakSet c s).safety = s.safety := by
  unfold bodyBreakSet
  simp
  intros
  (repeat' split) <;> simp
@[simp] theorem State.breakAction_safety (act unit cluster : Nat) (s : State) :
    (State.breakAction act unit cluster s).safety = s.safety := by
  unfold State.breakAction
  simp only [State.ite_safety, State.modObs_safety, State.traceTrigger_safety, State.freezeTrigger_safety, ite_self,
    State.msixRaise_safety, State.modReq_safety]
  rw [State.foldl_safety _ fun s p => by simp, ite_self]
@[simp] theorem State.breakHit_safety (index unit cluster pc layer op : Nat) (s : State) :
    (State.breakHit index unit cluster pc layer op s).safety = s.safety := by
  unfold State.breakHit
  (repeat' split) <;> simp
@[simp] theorem bodySafetyStatus_safety (c : Cmd) (s : State) : (bodySafetyStatus c s).safety = s.safety := by
  simp [bodySafetyStatus]
@[simp] theorem bodyCalRead_safety (c : Cmd) (s : State) : (bodyCalRead c s).safety = s.safety := by
  simp [bodyCalRead]
@[simp] theorem bodyCalWrite_safety (c : Cmd) (s : State) : (bodyCalWrite c s).safety = s.safety := by
  simp [bodyCalWrite]
@[simp] theorem bodySafetyBind_safety (c : Cmd) (s : State) : (bodySafetyBind c s).safety = s.safety := by
  unfold bodySafetyBind
  simp
  intros
  (repeat' split) <;> simp
@[simp] theorem State.unlockDebug_safety (s : State) : (State.unlockDebug s).safety = s.safety := by
  unfold State.unlockDebug
  dsimp only
  (repeat' split) <;> simp
@[simp] theorem bodyDebugUnlock_safety (c : Cmd) (s : State) : (bodyDebugUnlock c s).safety = s.safety := by
  unfold bodyDebugUnlock
  simp
  intros
  (repeat' split) <;> simp
@[simp] theorem State.lifecycleTo_safety (st : Nat) (pub signer : List Byte) (s : State) :
    (State.lifecycleTo st pub signer s).safety = s.safety := by
  simp [State.lifecycleTo, State.ite_safety]
@[simp] theorem bodyLedgerRead_safety (c : Cmd) (s : State) : (bodyLedgerRead c s).safety = s.safety := by
  simp [bodyLedgerRead]
@[simp] theorem State.linkFlit_safety (i kind : Nat) (s : State) : (State.linkFlit i kind s).safety = s.safety := by
  simp [State.linkFlit]
@[simp] theorem State.stamp_safety (i : Nat) (f : Flit) (s : State) : (State.stamp i f s).safety = s.safety := by
  simp [State.stamp, State.ite_safety]
@[simp] theorem State.unsend_safety (l : List Flit) (s : State) : (State.unsend l s).safety = s.safety := by
  simp [State.unsend]
@[simp] theorem State.startCensus_safety (epoch : Nat) (repeated : Bool) (s : State) :
    (State.startCensus epoch repeated s).safety = s.safety := by
  simp [State.startCensus, State.ite_safety]
@[simp] theorem State.acceptAll_safety (l : List (Nat × Nat)) (s : State) :
    (State.acceptAll l s).safety = s.safety := by
  unfold State.acceptAll
  rw [State.foldl_safety _ fun s a => ?_]
  all_goals (repeat' split) <;> simp
@[simp] theorem State.censusTrigger_safety (s : State) : (State.censusTrigger s).safety = s.safety := by
  simp [State.censusTrigger, State.ite_safety]
@[simp] theorem State.censusEnd_safety (s : State) : (State.censusEnd s).safety = s.safety := by
  simp [State.censusEnd]
@[simp] theorem State.censusFailed_safety (s : State) : (State.censusFailed s).safety = s.safety := by
  simp [State.censusFailed]
@[simp] theorem State.autoResume_safety (s : State) : (State.autoResume s).safety = s.safety := by
  simp [State.autoResume, State.ite_safety]
@[simp] theorem State.censusActive_safety (r : RouteMsg) (s : State) :
    (State.censusActive r s).safety = s.safety := by
  simp [State.censusActive, State.foldl_safety]
@[simp] theorem State.verifyOk_safety (node : Nat) (v : VerifyAnswer) (s : State) :
    (State.verifyOk node v s).safety = s.safety := by
  unfold State.verifyOk
  (repeat' split) <;> simp [State.ite_safety]
@[simp] theorem State.takeRoute_safety (r : RouteMsg) (s : State) : (State.takeRoute r s).safety = s.safety := by
  simp [State.takeRoute, State.ite_safety]
@[simp] theorem State.collectEnd_safety (s : State) : (State.collectEnd s).safety = s.safety := by
  simp [State.collectEnd, State.ite_safety]
@[simp] theorem State.lowerPort_safety (i : Nat) (enabled : Bool) (s : State) :
    (State.lowerPort i enabled s).safety = s.safety := by
  simp [State.lowerPort]
@[simp] theorem State.portDown_safety (i : Nat) (s : State) : (State.portDown i s).safety = s.safety := by
  simp [State.portDown, State.ite_safety]
@[simp] theorem State.portUp_safety (i rtt : Nat) (neighbour : List Byte) (nid : Nat) (s : State) :
    (State.portUp i rtt neighbour nid s).safety = s.safety := by
  simp [State.portUp]
@[simp] theorem State.nackReceive_safety (i lack : Nat) (s : State) :
    (State.nackReceive i lack s).safety = s.safety := by
  simp [State.nackReceive, State.ite_safety]
@[simp] theorem State.nackOnce_safety (i : Nat) (s : State) : (State.nackOnce i s).safety = s.safety := by
  simp [State.nackOnce, State.ite_safety]
@[simp] theorem State.flitReceive_safety (i : Nat) (f : Flit) (s : State) :
    (State.flitReceive i f s).safety = s.safety := by
  simp [State.flitReceive, State.ite_safety]
@[simp] theorem State.creditFlit_safety (i : Nat) (s : State) : (State.creditFlit i s).safety = s.safety := by
  simp [State.creditFlit]
@[simp] theorem State.grant_safety (g : GrantAnswer) (s : State) : (State.grant g s).safety = s.safety := by
  unfold State.grant
  (repeat' split) <;> simp
@[simp] theorem State.ping_safety (i : Nat) (s : State) : (State.ping i s).safety = s.safety := by
  simp [State.ping]
@[simp] theorem State.hail_safety (i : Nat) (neighbour : List Byte) (s : State) :
    (State.hail i neighbour s).safety = s.safety := by
  simp [State.hail]
@[simp] theorem State.joinCensus_safety (epoch : Nat) (s : State) : (State.joinCensus epoch s).safety = s.safety := by
  simp [State.joinCensus]
@[simp] theorem State.selfCensus_safety (s : State) : (State.selfCensus s).safety = s.safety := by
  unfold State.selfCensus
  split <;> simp
@[simp] theorem State.report_safety (r : CensusReport) (i : Nat) (s : State) :
    (State.report r i s).safety = s.safety := by
  simp [State.report]
@[simp] theorem State.route_safety (r : RouteMsg) (s : State) : (State.route r s).safety = s.safety := by
  simp [State.route]
@[simp] theorem State.enable_safety (epoch : Nat) (s : State) : (State.enable epoch s).safety = s.safety := by
  unfold State.enable
  split <;> simp
@[simp] theorem State.censusTimeout_safety (s : State) : (State.censusTimeout s).safety = s.safety := by
  simp [State.censusTimeout]
@[simp] theorem State.fabricBrine_safety (port src : Nat) (urgent : Bool) (world seq : Nat) (records : List Byte) (s : State) :
    (State.fabricBrine port src urgent world seq records s).safety = s.safety := by
  simp [State.fabricBrine, State.ite_safety]
@[simp] theorem State.brineCompletion_safety (msg status arg frame : Nat) (s : State) :
    (State.brineCompletion msg status arg frame s).safety = s.safety := by
  unfold State.brineCompletion
  (repeat' split) <;> simp [State.ite_safety]
@[simp] theorem State.farmInput_safety (kind port src : Nat) (body : List Byte) (s : State) :
    (State.farmInput kind port src body s).safety = s.safety := by
  simp [State.farmInput]
@[simp] theorem bodyFabStatus_safety (c : Cmd) (s : State) : (bodyFabStatus c s).safety = s.safety := by
  simp [bodyFabStatus]
@[simp] theorem State.fabPorts_safety (enable : Nat) (s : State) : (State.fabPorts enable s).safety = s.safety := by
  simp [State.fabPorts, State.ite_safety, State.foldl_safety]
@[simp] theorem bodyFabPorts_safety (c : Cmd) (s : State) : (bodyFabPorts c s).safety = s.safety := by
  simp [bodyFabPorts]
@[simp] theorem bodyFabCensus_safety (c : Cmd) (s : State) : (bodyFabCensus c s).safety = s.safety := by
  simp [bodyFabCensus]
@[simp] theorem bodyFabRouteRead_safety (c : Cmd) (s : State) : (bodyFabRouteRead c s).safety = s.safety := by
  simp [bodyFabRouteRead]
@[simp] theorem bodyFabNodeBind_safety (c : Cmd) (s : State) : (bodyFabNodeBind c s).safety = s.safety := by
  simp [bodyFabNodeBind]
@[simp] theorem bodyFabShard_safety (c : Cmd) (s : State) : (bodyFabShard c s).safety = s.safety := by
  unfold bodyFabShard
  simp
  intros
  (repeat' split) <;> simp
@[simp] theorem bodyFabFarm_safety (c : Cmd) (s : State) : (bodyFabFarm c s).safety = s.safety := by
  unfold bodyFabFarm
  simp
  intros
  (repeat' split) <;> simp
@[simp] theorem bodyFwStage_safety (c : Cmd) (s : State) : (bodyFwStage c s).safety = s.safety := by
  unfold bodyFwStage
  simp
  intros
  (repeat' split) <;> simp
@[simp] theorem bodyFwCommit_safety (c : Cmd) (s : State) : (bodyFwCommit c s).safety = s.safety := by
  simp [bodyFwCommit]
@[simp] theorem bodyFwStatus_safety (c : Cmd) (s : State) : (bodyFwStatus c s).safety = s.safety := by
  simp [bodyFwStatus]
@[simp] theorem State.dumpRead_safety (c : Cmd) (s : State) : (State.dumpRead c s).safety = s.safety := by
  simp [State.dumpRead, State.ite_safety]
@[simp] theorem bodyDumpRead_safety (c : Cmd) (s : State) : (bodyDumpRead c s).safety = s.safety := by
  simp [bodyDumpRead, State.ite_safety]
@[simp] theorem bodyDumpTarget_safety (c : Cmd) (s : State) : (bodyDumpTarget c s).safety = s.safety := by
  simp [bodyDumpTarget]
@[simp] theorem State.dumpClear_safety (c : Cmd) (s : State) : (State.dumpClear c s).safety = s.safety := by
  simp [State.dumpClear]
@[simp] theorem bodyDumpClear_safety (c : Cmd) (s : State) : (bodyDumpClear c s).safety = s.safety := by
  simp [bodyDumpClear, State.ite_safety]
@[simp] theorem State.dumpWaiters_safety (s : State) : (State.dumpWaiters s).safety = s.safety := by
  simp [State.dumpWaiters, State.ite_safety, State.foldl_safety]
@[simp] theorem State.signLate_safety (s : State) : (State.signLate s).safety = s.safety := by
  simp [State.signLate, State.ite_safety]
@[simp] theorem State.fullDump_safety (code : Nat) (s : State) : (State.fullDump code s).safety = s.safety := by
  unfold State.fullDump
  dsimp only
  (repeat' split) <;> simp
@[simp] theorem State.minimalDump_safety (s : State) : (State.minimalDump s).safety = s.safety := by
  simp [State.minimalDump]
@[simp] theorem State.advance_safety (s : State) : (State.advance s).safety = s.safety := by
  simp [State.advance, State.ite_safety]
@[simp] theorem State.testFailures_safety (given : List TestFailure) (s : State) :
    ((s.testFailures given).2).safety = s.safety := by
  unfold State.testFailures
  dsimp only
  split
  · rfl
  · refine foldl_view_keeps (fun x : List TestFailure × State => x.2.safety) _ (fun x p => ?_) ..
    split <;> simp
@[simp] theorem State.healthPageWrite_safety (s : State) : (State.healthPageWrite s).safety = s.safety := by
  simp [State.healthPageWrite]
@[simp] theorem State.logTamper_safety (source : Nat) (s : State) : (State.logTamper source s).safety = s.safety := by
  simp [State.logTamper]
@[simp] theorem State.tamper_safety (sources : List Nat) (s : State) :
    (State.tamper sources s).safety = s.safety := by
  unfold State.tamper State.when_
  dsimp only
  (repeat' split) <;> simp [State.foldl_safety]
@[simp] theorem State.clockMonitor_safety (ok lost : Bool) (s : State) :
    (State.clockMonitor ok lost s).safety = s.safety := by
  simp [State.clockMonitor, State.ite_safety]
@[simp] theorem State.mainRise_safety (s : State) : (State.mainRise s).safety = s.safety := by
  unfold State.mainRise
  dsimp only
  (repeat' split) <;> simp
@[simp] theorem State.clockStepped_safety (k : Nat) (s : State) : (State.clockStepped k s).safety = s.safety := by
  simp [State.clockStepped]
@[simp] theorem State.thermalStep_safety (k : Nat) (raw : List Int) (s : State) :
    (State.thermalStep k raw s).safety = s.safety := by
  simp [State.thermalStep, State.ite_safety]
@[simp] theorem State.powerSample_safety (power avg voltage : Nat) (s : State) :
    (State.powerSample power avg voltage s).safety = s.safety := by
  simp [State.powerSample, State.ite_safety, State.foldl_safety]
@[simp] theorem State.fillSecure_safety (sfw : List Byte) (s : State) :
    (State.fillSecure sfw s).safety = s.safety := by
  simp [State.fillSecure, State.ite_safety]
@[simp] theorem State.loadVoff_safety (s : State) : (State.loadVoff s).safety = s.safety := by
  simp [State.loadVoff]
@[simp] theorem State.hubOnlyExit_safety (k : Nat) (s : State) : (State.hubOnlyExit k s).safety = s.safety := by
  simp [State.hubOnlyExit]
@[simp] theorem State.hubOnlyEntry_safety (k : Nat) (s : State) : (State.hubOnlyEntry k s).safety = s.safety := by
  simp [State.hubOnlyEntry, State.ite_safety]
@[simp] theorem State.wakeTimeout_safety (s : State) : (State.wakeTimeout s).safety = s.safety := by
  simp [State.wakeTimeout]
@[simp] theorem State.jtag_safety (code : Nat) (s : State) : (State.jtag code s).safety = s.safety := by
  simp [State.jtag]
@[simp] theorem State.reverifyDone_safety (p id : Nat) (s : State) :
    (State.reverifyDone p id s).safety = s.safety := by
  unfold State.reverifyDone
  (repeat' split) <;> simp
@[simp] theorem State.reverifyOp_safety (id : Nat) (s : State) : (State.reverifyOp id s).safety = s.safety := by
  unfold State.reverifyOp
  (repeat' split) <;> simp
@[simp] theorem State.finishSweep_safety (p : Nat) (f : Sweeping) (s : State) :
    (State.finishSweep p f s).safety = s.safety := by
  unfold State.finishSweep
  split <;> simp
@[simp] theorem State.finishSweeps_safety (p : Nat) (s : State) : (State.finishSweeps p s).safety = s.safety := by
  simp [State.finishSweeps, State.foldl_safety]
@[simp] theorem State.spoilPan_safety (p h : Nat) (s : State) : (State.spoilPan p h s).safety = s.safety := by
  simp [State.spoilPan]
@[simp] theorem State.stopReplay_safety (s : State) : (State.stopReplay s).safety = s.safety := by
  unfold State.stopReplay
  rw [State.foldl_safety _ fun s a => ?_]
  all_goals (repeat' split) <;> simp
@[simp] theorem State.openTimes_safety (s : State) : (State.openTimes s).safety = s.safety := by
  unfold State.openTimes
  dsimp only
  (repeat' split) <;> simp
@[simp] theorem State.openWorlds_safety (s : State) : (State.openWorlds s).safety = s.safety := by
  simp [State.openWorlds]
@[simp] theorem State.expireRecords_safety (w : Nat) (s : State) : (State.expireRecords w s).safety = s.safety := by
  simp [State.expireRecords, State.ite_safety, State.foldl_safety]
@[simp] theorem State.expireMovers_safety (s : State) : (State.expireMovers s).safety = s.safety := by
  simp [State.expireMovers, State.foldl_safety]
@[simp] theorem State.openTables_safety (s : State) : (State.openTables s).safety = s.safety := by
  simp [State.openTables]
@[simp] theorem State.resumeSessions_safety (s : State) : (State.resumeSessions s).safety = s.safety := by
  simp [State.resumeSessions, State.ite_safety, State.foldl_safety]
@[simp] theorem State.formKey_safety (s : State) : (State.formKey s).safety = s.safety := by
  simp [State.formKey, State.ite_safety]
@[simp] theorem State.timeSync_safety (s : State) : (State.timeSync s).safety = s.safety := by
  simp [State.timeSync, State.foldl_safety]
@[simp] theorem State.tellRetired_safety (s : State) : (State.tellRetired s).safety = s.safety := by
  simp [State.tellRetired, State.foldl_safety]
@[simp] theorem State.modTest_safety (p : Nat) (f : ClusterTest → ClusterTest) (s : State) :
    (State.modTest p f s).safety = s.safety := by
  simp [State.modTest]
@[simp] theorem State.voffStep_safety (p : Nat) (v : Int) (s : State) : (State.voffStep p v s).safety = s.safety := by
  simp [State.voffStep, State.ite_safety]
@[simp] theorem State.dropFarmInputs_safety (s : State) : (State.dropFarmInputs s).safety = s.safety := by
  simp [State.dropFarmInputs]
@[simp] theorem State.dropReplayed_safety (s : State) : (State.dropReplayed s).safety = s.safety := by
  simp [State.dropReplayed]
@[simp] theorem State.clearFrame_safety (empty : Bool) (s : State) :
    (State.clearFrame empty s).safety = s.safety := by
  simp [State.clearFrame]
@[simp] theorem State.scheduleInForce_safety (s : State) : (State.scheduleInForce s).safety = s.safety := by
  simp [State.scheduleInForce]
@[simp] theorem State.dropTouched_safety (s old : State) : (s.dropTouched old).safety = s.safety := rfl
@[simp] theorem State.reissueStops_safety (s : State) : (State.reissueStops s).safety = s.safety := by
  simp [State.reissueStops, State.foldl_safety]
@[simp] theorem State.newEpoch_safety (l : Touched) (s : State) : (State.newEpoch l s).safety = s.safety := by
  simp [State.newEpoch]
@[simp] theorem State.applied_safety (l : Touched) (s : State) : (State.applied l s).safety = s.safety := by
  simp [State.applied, State.ite_safety, State.foldl_safety]
@[simp] theorem State.applyUrgentCmd_safety (w : Nat) (c : Cmd) (s : State) :
    ((s.applyUrgentCmd w c).1).safety = s.safety := by
  unfold State.applyUrgentCmd
  split
  · simp
  · split
    · simp
    · next hrs => simp [(applyUrgentRecords_atWorlds _ hrs).safety]
@[simp] theorem State.applyUrgentCmds_safety (w : Nat) (cs : List Cmd) (s : State) :
    (s.applyUrgentCmds w cs).safety = s.safety := by
  unfold State.applyUrgentCmds
  simp only [State.fabricGo_safety, State.fabricAnswers_safety, State.applied_safety]
  refine foldl_view_keeps (fun x : State × Touched => x.1.safety) _ (fun x c => ?_) ..
  exact State.applyUrgentCmd_safety ..
@[simp] theorem State.takeReplayed_safety (x : Replayed) (s : State) :
    (State.takeReplayed x s).safety = s.safety := by
  simp [State.takeReplayed, State.foldl_safety]
@[simp] theorem State.applyReplayedUrgent_safety (x : Replayed) (s : State) :
    ((s.applyReplayedUrgent x).1).safety = s.safety := by
  unfold State.applyReplayedUrgent
  dsimp only
  split
  · simp
  · next hrs => simp [(applyUrgentRecords_atWorlds _ hrs).safety]
@[simp] theorem State.applyReplayedUrgents_safety (xs : List Replayed) (s : State) :
    (s.applyReplayedUrgents xs).safety = s.safety := by
  unfold State.applyReplayedUrgents
  simp only [State.applied_safety]
  refine foldl_view_keeps (fun x : State × Touched => x.1.safety) _ (fun x c => ?_) ..
  exact State.applyReplayedUrgent_safety ..
@[simp] theorem State.applyCheckpoint_safety (j : Nat) (s : State) :
    (State.applyCheckpoint j s).safety = s.safety := by
  simp [State.applyCheckpoint, State.ite_safety]
@[simp] theorem State.noteCheckpoint_safety (s : State) : (State.noteCheckpoint s).safety = s.safety := by
  simp [State.noteCheckpoint]
@[simp] theorem State.urgentCheckpoint_safety (j : Nat) (s : State) :
    (State.urgentCheckpoint j s).safety = s.safety := by
  simp [State.urgentCheckpoint, State.ite_safety]
@[simp] theorem State.urgentApply_safety (fn slot : Nat) (s : State) :
    (State.urgentApply fn slot s).safety = s.safety := by
  unfold State.urgentApply State.when_
  dsimp only
  (repeat' split) <;> simp
@[simp] theorem State.takeRequest_safety (s : State) (i : FabInput) : (State.takeRequest s i).safety = s.safety := by
  unfold State.takeRequest
  dsimp only
  (repeat' split) <;> simp
@[simp] theorem State.takeRequests_safety (s : State) : (State.takeRequests s).safety = s.safety := by
  simp [State.takeRequests, State.foldl_safety]
@[simp] theorem State.runAlone_safety (body : Cmd → State → State) (c : Cmd) (s : State) (h : ∀ s, (body c s).safety = s.safety) :
    (s.runAlone body c).safety = s.safety := by
  simp [State.runAlone, h]
@[simp] theorem State.replayBrine_safety (x : Replayed) (s : State) : (s.replayBrine x).safety = s.safety := by
  unfold State.replayBrine
  dsimp only
  split
  · rfl
  · next o ho =>
    have hkept := (applyRecords_atWorlds _ _ _ 0 (0, s) o (.refl s) ho).safety
    split <;> simp [hkept]
@[simp] theorem State.closeInputs_safety (s : State) : (State.closeInputs s).safety = s.safety := by
  simp [State.closeInputs]
@[simp] theorem State.issueBoxes_safety (s : State) : (State.issueBoxes s).safety = s.safety := by
  unfold State.issueBoxes
  rw [State.foldl_safety _ fun s a => ?_]
  all_goals (repeat' split) <;> simp
@[simp] theorem State.releaseCands_safety (p : Nat) (s : State) : (State.releaseCands p s).safety = s.safety := by
  unfold State.releaseCands
  dsimp only
  refine (State.foldl_safety _ (fun s a => ?_) _ _).trans ?_
  all_goals (repeat' split) <;> simp
@[simp] theorem State.abandonOn_safety (s : State) (p : Nat) : (State.abandonOn s p).safety = s.safety := by
  simp [State.abandonOn]
@[simp] theorem State.harvestDeadline_safety (s : State) : (State.harvestDeadline s).safety = s.safety := by
  simp [State.harvestDeadline, State.foldl_safety]
@[simp] theorem State.engineDrainEnd_safety (p : Nat) (s : State) : (State.engineDrainEnd p s).safety = s.safety := by
  simp [State.engineDrainEnd]
@[simp] theorem State.harvestStart_safety (s : State) : (State.harvestStart s).safety = s.safety := by
  simp [State.harvestStart]
@[simp] theorem State.treeRoot_safety (id : Nat) (es : List Entry) (t : Tally) (s : State) :
    (State.treeRoot id es t s).safety = s.safety := by
  unfold State.treeRoot
  dsimp only
  (repeat' split) <;> simp
@[simp] theorem State.harvestNode_safety (id level pos : Nat) (s : State) :
    (State.harvestNode id level pos s).safety = s.safety := by
  unfold State.harvestNode
  (repeat' split) <;> simp
@[simp] theorem State.attemptStart_safety (id : Nat) (s : State) : (State.attemptStart id s).safety = s.safety := by
  unfold State.attemptStart
  (repeat' split) <;> simp
@[simp] theorem State.reverifyCutoff_safety (s : State) : (State.reverifyCutoff s).safety = s.safety := by
  simp [State.reverifyCutoff, State.foldl_safety]
@[simp] theorem State.resultPut_safety (ses stream seq : Nat) (rec_ : List Byte) (s : State) :
    (State.resultPut ses stream seq rec_ s).safety = s.safety := by
  unfold State.resultPut
  (repeat' split) <;> simp
@[simp] theorem State.releaseLists_safety (device : Option (List Entry)) (s : State) :
    (State.releaseLists device s).safety = s.safety := by
  simp [State.releaseLists]
@[simp] theorem State.captureFrameEnd_safety (s : State) : (State.captureFrameEnd s).safety = s.safety := by
  simp [State.captureFrameEnd, State.ite_safety]
@[simp] theorem State.ringVectors_safety (s : State) : (State.ringVectors s).safety = s.safety := by
  simp [State.ringVectors, State.foldl_safety]
@[simp] theorem State.slipGrid_safety (s : State) : (State.slipGrid s).safety = s.safety := by
  simp [State.slipGrid]
@[simp] theorem State.dropLeftTasks_safety (s : State) : (State.dropLeftTasks s).safety = s.safety := by
  simp [State.dropLeftTasks]
@[simp] theorem State.publishEnd_safety (s : State) : (State.publishEnd s).safety = s.safety := by
  unfold State.publishEnd State.when_
  dsimp only
  (repeat' split) <;> simp
@[simp] theorem State.rakeMonitor_safety (p taps : Nat) (raw : Int) (osc : List Nat) (s : State) :
    (State.rakeMonitor p taps raw osc s).safety = s.safety := by
  simp [State.rakeMonitor, State.ite_safety]
@[simp] theorem State.guardDrains_safety (s : State) : (State.guardDrains s).safety = s.safety := by
  simp [State.guardDrains, State.ite_safety, State.foldl_safety]
@[simp] theorem State.guardSessions_safety (s : State) : s.guardSessions.safety = s.safety := by
  unfold State.guardSessions
  refine State.foldl_safety _ (fun s i => ?_) _ _
  dsimp only
  split
  · exact (State.foldl_safety _ (fun s c => by simp) _ _).trans (by simp)
  · rfl
@[simp] theorem State.judgeStop_safety (s : State) : (State.judgeStop s).safety = s.safety := by
  simp [State.judgeStop, State.ite_safety]
@[simp] theorem State.guardDevice_safety (s : State) : (State.guardDevice s).safety = s.safety := by
  simp [State.guardDevice, State.ite_safety]
@[simp] theorem State.answer_safety (code : Nat) (req content : List Byte) (s : State) :
    (State.answer code req content s).safety = s.safety := by
  simp [State.answer]
@[simp] theorem State.spdmError_safety (req : List Byte) (s : State) : (State.spdmError req s).safety = s.safety := by
  simp [State.spdmError]
@[simp] theorem State.spdm_safety (code : Nat) (req : List Byte) (ok : Bool) (content : List Byte) (s : State) :
    (State.spdm code req ok content s).safety = s.safety := by
  simp [State.spdm, State.ite_safety]
@[simp] theorem State.getVersion_safety (req : List Byte) (s : State) :
    (State.getVersion req s).safety = s.safety := by
  simp [State.getVersion]
@[simp] theorem State.getCapabilities_safety (req : List Byte) (s : State) :
    (State.getCapabilities req s).safety = s.safety := by
  simp [State.getCapabilities, State.ite_safety]
@[simp] theorem State.negotiate_safety (req : List Byte) (sig hash others : Bool) (s : State) :
    (State.negotiate req sig hash others s).safety = s.safety := by
  simp [State.negotiate, State.ite_safety]
@[simp] theorem State.challenge_safety (chainSlot : Nat) (req : List Byte) (s : State) :
    (State.challenge chainSlot req s).safety = s.safety := by
  simp [State.challenge]
@[simp] theorem State.getMeasurements_safety (i : Nat) (sign : Bool) (req : List Byte) (s : State) :
    (State.getMeasurements i sign req s).safety = s.safety := by
  simp [State.getMeasurements]
@[simp] theorem State.doeDiscovery_safety (i : Nat) (s : State) : (State.doeDiscovery i s).safety = s.safety := by
  simp [State.doeDiscovery]
@[simp] theorem State.dmaEvents_safety (p src : Nat) (off n : Nat) (s : State) :
    (State.dmaEvents p src off n s).safety = s.safety := by
  unfold State.dmaEvents
  split <;> simp
@[simp] theorem State.slotWrite_safety (fn slot off : Nat) (bs : List Byte) (t : Nat) (s : State) :
    (State.slotWrite fn slot off bs t s).safety = s.safety := by
  simp [State.slotWrite, State.ite_safety]
@[simp] theorem State.ppsEdge_safety (s : State) : (State.ppsEdge s).safety = s.safety := by
  unfold State.ppsEdge
  (repeat' split) <;> simp [State.ite_safety]
@[simp] theorem bodySesBind_safety (c : Cmd) (s : State) : (bodySesBind c s).safety = s.safety := by
  unfold bodySesBind
  simp
  intros
  (repeat' split) <;> simp
@[simp] theorem State.storeCopies_safety (off : Nat) (bs : List Byte) (s : State) :
    (State.storeCopies off bs s).safety = s.safety := by
  simp [State.storeCopies, State.foldl_safety]
@[simp] theorem State.copyImage_safety (kind slot : Nat) (p : List Byte) (s : State) :
    (State.copyImage kind slot p s).safety = s.safety := by
  simp [State.copyImage, State.ite_safety]
@[simp] theorem State.loadImage_safety (c : Cmd) (kind named : Nat) (p : List Byte) (s : State) :
    (State.loadImage c kind named p s).safety = s.safety := by
  unfold State.loadImage
  (repeat' split) <;> simp
@[simp] theorem bodyImgLoad_safety (c : Cmd) (s : State) : (bodyImgLoad c s).safety = s.safety := by
  unfold bodyImgLoad
  simp [State.ite_safety]
  intros
  (repeat' split) <;> simp
@[simp] theorem State.assayBegins_safety (p : Nat) (s : State) : (State.assayBegins p s).safety = s.safety := by
  simp [State.assayBegins]
@[simp] theorem State.dispatch_safety (p unit : Nat) (s : State) : (State.dispatch p unit s).safety = s.safety := by
  unfold State.dispatch
  (repeat' split) <;> simp
@[simp] theorem State.takeFree_safety (p unit : Nat) (s : State) : (State.takeFree p unit s).safety = s.safety := by
  simp [State.takeFree]
@[simp] theorem State.safetyTask_safety (p : Nat) (op : TaskOp) (release : Nat) (s : State) :
    (State.safetyTask p op release s).safety = s.safety := by
  simp [State.safetyTask, State.ite_safety, State.foldl_safety]
@[simp] theorem bodyBreakClear_safety (hit : Bool) (c : Cmd) (s : State) :
    (bodyBreakClear hit c s).safety = s.safety := by
  simp [bodyBreakClear]
@[simp] theorem State.copyPan_safety (p slot h : Nat) (s : State) : (State.copyPan p slot h s).safety = s.safety := by
  unfold State.copyPan
  rw [State.foldl_safety _ fun s a => ?_]
  all_goals simp [State.foldl_safety]
@[simp] theorem State.stageAt_safety (p slot h : Nat) (s : State) : (State.stageAt p slot h s).safety = s.safety := by
  simp [State.stageAt]
@[simp] theorem State.stagePan_safety (p : Nat) (n : Need) (s : State) (h : Nat) :
    (State.stagePan p n s h).safety = s.safety := by
  unfold State.stagePan
  dsimp only
  (repeat' split) <;> simp
@[simp] theorem State.resolveQuery_safety (p query : Nat) (n : Need) (s : State) :
    (State.resolveQuery p query n s).safety = s.safety := by
  simp [State.resolveQuery, State.ite_safety, State.foldl_safety]
@[simp] theorem State.assayStart_safety (k : Nat) (s : State) : (State.assayStart k s).safety = s.safety := by
  unfold State.assayStart
  split <;> simp
@[simp] theorem State.stageAtCutoff_safety (s : State) (p : Nat) : (State.stageAtCutoff s p).safety = s.safety := by
  unfold State.stageAtCutoff
  rw [State.foldl_safety _ fun s a => ?_]
  all_goals (repeat' split) <;> simp [State.ite_safety]
end Sys2Proof.Machine
end

section
/-!
SUPPORT. The rows that act on the supervisor: each keeps the pins in class-S safe state while a code is latched (R398, R402),
and the obligation on it.
-/
namespace Sys2Proof.Machine

/-- While a code is latched the pins stand in class-S safe state: `State.latchHolds`, said of the supervisor alone. -/
def Safety.PinsHold (x : Safety) : Prop := x.latch ≠ [] → x.pinState = 2 ∧ x.safeA = false ∧ x.safeB = true

theorem State.latchHolds_iff (s : State) : s.latchHolds ↔ s.safety.PinsHold := Iff.rfl

theorem State.when_pinsHold {c : Bool} {f : State → State} {s : State} (h : s.safety.PinsHold)
    (hf : (f s).safety.PinsHold) : (s.when_ c f).safety.PinsHold := by
  rw [State.safety_when_]
  split
  · exact hf
  · exact h

theorem State.ite_pinsHold {c : Prop} [Decidable c] {a b : State} (ha : a.safety.PinsHold) (hb : b.safety.PinsHold) :
    (if c then a else b).safety.PinsHold := by
  split
  · exact ha
  · exact hb

/-! ## Detections -/

/-- A code that is latched drives the pins. -/
theorem Safety.pinsHold_latchCode (x : Safety) (e : Latched) : (x.latchCode e).PinsHold := fun _ => ⟨rfl, rfl, rfl⟩

/-- With an empty latch there is nothing to show. -/
theorem Safety.pinsHold_of_latch_nil {x : Safety} (h : x.latch = []) : x.PinsHold := fun hne => absurd h hne

section
variable {s : State}

@[simp] theorem State.faultReport_pinsHold (code stack cluster stream : Nat) (arg : List Byte) (s : State) :
    (s.faultReport code stack cluster stream arg).safety.PinsHold := by
  rw [State.faultReport_safety]
  exact Safety.pinsHold_latchCode _ _

/-- What follows a detection leaves latch and pins. -/
theorem State.faultReact_pinsHold (code : Nat) (h : s.safety.PinsHold) : (s.faultReact code).safety.PinsHold := by
  have hleft : (((List.range 16).foldl (State.faultLeave code) s).triggerDump code).safety = s.safety := by
    rw [State.triggerDump_safety, State.foldl_safety _ (State.faultLeave_safety code)]
  rw [State.faultReact_eq]
  split <;> simpa only [Safety.PinsHold, State.modSafety_safety, hleft] using h

/-- A detection drives the pins, whatever they showed. -/
@[simp] theorem State.detect_pinsHold {code stack cluster stream : Nat} {arg : List Byte} {s : State} :
    (s.detect code stack cluster stream arg).safety.PinsHold :=
  State.faultReact_pinsHold code (State.faultReport_pinsHold code stack cluster stream arg s)

@[simp] theorem State.hwFault_pinsHold {code p arg : Nat} {s : State} : (s.hwFault code p arg).safety.PinsHold :=
  State.detect_pinsHold

theorem State.detectAll_pinsHold (l : List Detection) (h : s.safety.PinsHold) : (s.detectAll l).safety.PinsHold := by
  have hreported := State.foldl_inv (·.safety.PinsHold)
    (fun s (e : Detection) => s.faultReport e.code e.stack e.cluster e.stream e.arg)
    (fun s e _ => State.faultReport_pinsHold e.code e.stack e.cluster e.stream e.arg s) l s h
  exact State.foldl_inv (·.safety.PinsHold) (fun s (e : Detection) => s.faultReact e.code)
    (fun s e hs => State.faultReact_pinsHold e.code hs) l _ hreported

/-! ## Resets and power -/

/-- A warm reset keeps the supervisor with its latch (R372, log entry 19). -/
@[simp] theorem State.warmReset_safety (cause : Nat) (s : State) : (s.warmReset cause).safety =
    { s.safety with restartPending := none, resetUnderWay := true, rateRef := none } := by
  rw [← State.closeSessions_safety (fun _ => true) cause s]
  rfl

@[simp] theorem State.warmReset_pinsHold (cause : Nat) (h : s.safety.PinsHold) :
    (s.warmReset cause).safety.PinsHold := by
  rw [State.warmReset_safety]
  exact h

/-- The rails that go off take the latch with them. -/
@[simp] theorem State.mainOff_pinsHold (s : State) : s.mainOff.safety.PinsHold := Safety.pinsHold_of_latch_nil rfl
@[simp] theorem State.off_pinsHold (s : State) : s.off.safety.PinsHold := Safety.pinsHold_of_latch_nil rfl

/-- The pins forced to their safe levels: LATCHED stays LATCHED. -/
theorem Safety.PinsHold.forced {x : Safety} (h : x.PinsHold) :
    Safety.PinsHold { x with safeA := false, safeB := true, pinState := if x.pinState = 1 then 0 else x.pinState } := by
  intro hne
  obtain ⟨hpin, -, -⟩ := h hne
  exact ⟨by simp [hpin], rfl, rfl⟩

theorem State.pwrOff_pinsHold (h : s.safety.PinsHold) : s.pwrOff.safety.PinsHold := h.forced
theorem State.excursion_pinsHold (b p : Nat) (h : s.safety.PinsHold) : (s.excursion b p).safety.PinsHold := h.forced

theorem State.pwrRestart_pinsHold (h : s.safety.PinsHold) : s.pwrRestart.safety.PinsHold := by
  unfold State.pwrRestart
  refine State.when_pinsHold h ?_
  dsimp only
  split
  · exact s.mainOff_pinsHold
  · exact s.mainOff_pinsHold

theorem State.pwrCtl_pinsHold (value : Nat) (h : s.safety.PinsHold) : (s.pwrCtl value).safety.PinsHold := by
  have hwake : (if bit value 1 then s.pwrWake else s).safety.PinsHold := by
    rw [State.ite_safety, State.pwrWake_safety, ite_self]; exact h
  unfold State.pwrCtl
  dsimp only
  split
  · exact h
  · generalize (if bit value 1 then s.pwrWake else s) = w at hwake
    (repeat' split)
    · exact State.pwrRestart_pinsHold hwake.forced
    · exact State.pwrRestart_pinsHold hwake
    · exact hwake.forced
    · exact hwake


/-- An operation that leaves the supervisor leaves its pins. -/
theorem State.pinsHold_of_safety {s' : State} (h : s.safety.PinsHold) (heq : s'.safety = s.safety) : s'.safety.PinsHold :=
  heq ▸ h

theorem State.need_pinsHold (c : Cmd) (ok : Bool) (st : Nat) {f : State → State} (h : s.safety.PinsHold)
    (hf : (f s).safety.PinsHold) : (s.need c ok st f).safety.PinsHold := by
  rw [State.need_safety]
  split
  · exact hf
  · exact h

theorem State.shape_pinsHold (c : Cmd) (n : Nat) (resv : List (Nat × Nat)) {f : State → State} (h : s.safety.PinsHold)
    (hf : (f s).safety.PinsHold) : (s.shape c n resv f).safety.PinsHold := by
  rw [State.shape_safety]
  split
  · exact hf
  · exact h

/-! ## Transfers, the scheduler and its books -/

theorem State.sourceRead_pinsHold (p a : Nat) (read : ReadFault) {f : State → State}
    (hf : ∀ s : State, s.safety.PinsHold → (f s).safety.PinsHold) (h : s.safety.PinsHold) :
    (s.sourceRead p a read f).safety.PinsHold := by
  cases read with
  | none => exact hf s h
  | corrected => exact hf _ (State.pinsHold_of_safety h (by simp [State.ite_safety]))
  | uncorrectable =>
    exact State.ite_pinsHold State.hwFault_pinsHold State.hwFault_pinsHold

theorem State.dmaTransfer_pinsHold (p : Nat) (d : DmaDesc) (waits : Nat) (read : ReadFault) {f : State → State}
    (hf : ∀ s : State, s.safety.PinsHold → (f s).safety.PinsHold) (h : s.safety.PinsHold) :
    (s.dmaTransfer p d waits read f).safety.PinsHold := by
  unfold State.dmaTransfer
  dsimp only
  split
  · exact State.hwFault_pinsHold
  · exact State.hwFault_pinsHold
  · exact State.when_pinsHold h (State.sourceRead_pinsHold _ _ _
      (fun s hs => hf _ (State.pinsHold_of_safety hs (by simp))) h)

theorem State.tokenDelivery_pinsHold (p entry : Nat) (o : Delivery) (cyc : Nat) (h : s.safety.PinsHold) :
    (s.tokenDelivery p entry o cyc).safety.PinsHold := by
  unfold State.tokenDelivery
  split
  · exact State.hwFault_pinsHold
  · split
    · exact State.hwFault_pinsHold
    · refine State.when_pinsHold h ?_
      dsimp only
      rw [State.stopPll_safety]
      exact State.ite_pinsHold (by simpa using h) (State.dmaTransfer_pinsHold _ _ _ _
        (fun s hs => by simpa using hs) (by simpa using h))

theorem State.unitTake_pinsHold (p unit : Nat) (read : ReadFault) (h : s.safety.PinsHold) :
    (s.unitTake p unit read).safety.PinsHold := by
  refine State.when_pinsHold h ?_
  cases read with
  | none => simpa using h
  | corrected => simpa using h
  | uncorrectable => exact State.hwFault_pinsHold

@[simp] theorem State.schedBook_pinsHold {p : Nat} {s : State} : (s.schedBook p).safety.PinsHold := State.detect_pinsHold

theorem State.completion_pinsHold (p unit : Nat) (succ : List TaskDesc) (bookOk : Bool) (cyc : Nat)
    (h : s.safety.PinsHold) : (s.completion p unit succ bookOk cyc).safety.PinsHold := by
  unfold State.completion
  split
  · exact h
  · refine State.when_pinsHold h ?_
    dsimp only
    rw [State.gateIdle_safety]
    exact State.ite_pinsHold (by simpa using h) State.schedBook_pinsHold

/-! ## Register writes -/

theorem State.hubReset_pinsHold (fn value : Nat) (h : s.safety.PinsHold) : (s.hubReset fn value).safety.PinsHold := by
  unfold State.hubReset
  split
  · exact State.warmReset_pinsHold _ (State.ite_pinsHold State.detect_pinsHold h)
  · exact h

theorem State.writeBar0_pinsHold (fn off value hwSet : Nat) (h : s.safety.PinsHold) :
    (s.writeBar0 fn off value hwSet).safety.PinsHold := by
  unfold State.writeBar0
  split
  · exact State.pinsHold_of_safety h (by simp [State.ite_safety])
  · split
    · exact State.hubReset_pinsHold _ _ h
    · exact State.pinsHold_of_safety h (by simp [State.ite_safety])

@[simp] theorem State.writeBar4_safety (off value hwSet : Nat) (s : State) :
    (s.writeBar4 off value hwSet).safety = s.safety := by
  unfold State.writeBar4
  generalize (off - 0x140000) / 0x1000 = p
  generalize off % 0x1000 = o
  dsimp only
  split
  · simp
  · split
    · split <;> simp
    · split
      · rfl
      · split
        · split
          · rfl
          · split
            · exact (State.w1cWrite_safety ..).trans (State.modClusters_safety ..)
            · split
              · exact (State.w1cWrite_safety ..).trans (State.modClusters_safety ..)
              · rw [State.ite_safety, State.discard_safety, ite_self]
        · rw [State.ite_safety, State.discard_safety, ite_self]

theorem State.writeSmbus_pinsHold (code value hwSet : Nat) (h : s.safety.PinsHold) :
    (s.writeSmbus code value hwSet).safety.PinsHold := by
  unfold State.writeSmbus
  split
  · exact State.pwrCtl_pinsHold _ h
  · exact State.pinsHold_of_safety h (by simp [State.ite_safety])

theorem State.onePairDiscard_pinsHold (fn : Nat) {f : State → State} (h : (f s).safety.PinsHold) :
    (s.onePairDiscard fn f).safety.PinsHold := by
  unfold State.onePairDiscard
  exact State.pinsHold_of_safety h (by simp [State.ite_safety])

theorem State.registerWrite_pinsHold (space : RegSpace) (fn off size value hwSet : Nat) (h : s.safety.PinsHold) :
    (s.registerWrite space fn off size value hwSet).safety.PinsHold := by
  unfold State.registerWrite
  cases space with
  | smbus => exact State.ite_pinsHold (State.writeSmbus_pinsHold _ _ _ h) h
  | bar0 =>
    dsimp only
    refine State.ite_pinsHold h (State.ite_pinsHold (State.writeBar0_pinsHold _ _ _ _ h) (State.ite_pinsHold ?_ (by simpa using h)))
    exact State.onePairDiscard_pinsHold _ (State.writeBar0_pinsHold _ _ _ _ (State.writeBar0_pinsHold _ _ _ _ h))
  | bar4 => 
    dsimp only
    refine State.ite_pinsHold h (State.ite_pinsHold (by simpa using h) (State.ite_pinsHold ?_ (by simpa using h)))
    exact State.onePairDiscard_pinsHold _ (by simpa using h)
  | msixControl => simpa using h
  | deviceControl => simpa using h
  | deviceControl2 => simpa using h
  | linkControl => simpa using h
  | aerControl => simpa using h

/-! ## Links, functions and their resets -/

theorem State.linkAReset_pinsHold (h : s.safety.PinsHold) : s.linkAReset.safety.PinsHold := by
  unfold State.linkAReset
  dsimp only
  rw [State.modLink_safety]
  exact State.warmReset_pinsHold _ (State.ite_pinsHold State.detect_pinsHold (by simpa using h))

theorem State.perstAssert_pinsHold (h : s.safety.PinsHold) : s.perstAssert.safety.PinsHold := by
  unfold State.perstAssert
  refine State.ite_pinsHold ?_ h
  rw [State.modMgmt_safety]
  exact State.linkAReset_pinsHold h

theorem State.flrAll_pinsHold (fns : List Nat) (cause : Nat) (h : s.safety.PinsHold) :
    (s.flrAll fns cause).safety.PinsHold :=
  State.pinsHold_of_safety (State.detectAll_pinsHold _ h) (State.foldl_safety _ (fun s f => by simp) _ _)

theorem State.linkReset_pinsHold (linkB : Bool) (h : s.safety.PinsHold) : (s.linkReset linkB).safety.PinsHold := by
  unfold State.linkReset
  refine State.ite_pinsHold (State.ite_pinsHold ?_ h) (State.linkAReset_pinsHold h)
  rw [State.modLink_safety]
  exact State.flrAll_pinsHold _ _ h

theorem State.dlDown_pinsHold (linkB : Bool) (h : s.safety.PinsHold) : (s.dlDown linkB).safety.PinsHold := by
  have hdown : (if (s.modLink linkB Link.lowered).classSOf (s.fnsOn linkB) then
      (s.modLink linkB Link.lowered).detect 0x0012 0xFF 0xFF 0xFF (le 16 (flag linkB 0))
      else s.modLink linkB Link.lowered).safety.PinsHold :=
    State.ite_pinsHold State.detect_pinsHold (by simpa using h)
  unfold State.dlDown
  dsimp only
  refine State.ite_pinsHold (State.ite_pinsHold ?_ ?_) h
  · rw [State.sourceLost_safety]
    exact hdown
  · exact hdown

theorem State.vfRemove_pinsHold (vfEnable : Bool) (numVfs : Nat) (h : s.safety.PinsHold) :
    (s.vfRemove vfEnable numVfs).safety.PinsHold := by
  unfold State.vfRemove
  dsimp only
  rw [State.modPcie_safety]
  exact State.flrAll_pinsHold _ _ h

theorem bodyBreakResume_pinsHold (c : Cmd) (h : s.safety.PinsHold) : (bodyBreakResume c s).safety.PinsHold := by
  refine State.shape_pinsHold _ _ _ h (State.need_pinsHold _ _ _ h ?_)
  dsimp only
  rw [State.accept_safety, State.timingEvent_safety, State.ite_safety, State.modFrame_safety, ite_self, State.modReq_safety,
    State.modObs_safety]
  exact State.ite_pinsHold h h

theorem bodySafeRelease_pinsHold (c : Cmd) (h : s.safety.PinsHold) : (bodySafeRelease c s).safety.PinsHold := by
  refine State.shape_pinsHold _ _ _ h (State.need_pinsHold _ _ _ h ?_)
  rw [State.accept_safety, State.modSafety_safety]
  unfold Safety.release
  dsimp only
  split
  · exact Safety.pinsHold_of_latch_nil rfl
  · exact fun hne => h fun hnil => hne (by simp [hnil])

theorem State.keyToken_safety {x : List Byte} {s s' : State} (h : s.keyToken x = some s') : s'.safety = s.safety := by
  unfold State.keyToken at h
  dsimp only at h
  split at h
  · obtain rfl := Option.some.inj h; rfl
  · split at h
    · cases h
    · obtain rfl := Option.some.inj h; rfl

theorem State.tokenEffect_safety {b : List Byte} {s s' : State} (h : s.tokenEffect b = some s') :
    s'.safety = s.safety := by
  unfold State.tokenEffect at h
  dsimp only at h
  split at h
  · obtain rfl := Option.some.inj h; simp
  · obtain rfl := Option.some.inj h; simp
  · exact State.keyToken_safety h
  · obtain rfl := Option.some.inj h; simp

theorem bodyLifecycleSet_pinsHold (c : Cmd) (h : s.safety.PinsHold) : (bodyLifecycleSet c s).safety.PinsHold := by
  refine State.shape_pinsHold _ _ _ h (State.need_pinsHold _ _ _ h ?_)
  split
  · simpa using h
  · split
    · simpa using h
    · next s' heffect =>
      have hs' := State.tokenEffect_safety heffect
      exact State.warmReset_pinsHold _ (State.pinsHold_of_safety h (by simpa using hs'))

/-! ## The supervisor's own watches -/

theorem State.wdogEdge_pinsHold (level : Bool) (h : s.safety.PinsHold) : (s.wdogEdge level).safety.PinsHold :=
  State.when_pinsHold h h

theorem State.wdogLost_pinsHold (h : s.safety.PinsHold) : s.wdogLost.safety.PinsHold :=
  State.when_pinsHold h State.detect_pinsHold

@[simp] theorem State.ssvLockstep_pinsHold {s : State} : s.ssvLockstep.safety.PinsHold := State.detect_pinsHold

theorem State.healthyEdge_pinsHold (readA readB : Bool) (h : s.safety.PinsHold) :
    (s.healthyEdge readA readB).safety.PinsHold := by
  unfold State.healthyEdge
  rw [State.safety_when_]
  split
  next hpin =>
    have hnil : s.safety.latch = [] := by
      by_contra hne
      simp [(h hne).1] at hpin
    dsimp only
    split
    · exact fun hne => absurd hnil hne
    · exact State.ssvLockstep_pinsHold
  next => exact h

theorem State.beat_pinsHold (ssv : Nat) (h : s.safety.PinsHold) : (s.beat ssv).safety.PinsHold :=
  State.when_pinsHold h h

theorem State.cfwSilent_pinsHold (h : s.safety.PinsHold) : s.cfwSilent.safety.PinsHold := by
  unfold State.cfwSilent
  dsimp only
  rw [State.safety_when_, State.modErrors_safety]
  split
  · exact State.detect_pinsHold
  · exact h

theorem State.timeBaseCheck_pinsHold (h : s.safety.PinsHold) : s.timeBaseCheck.safety.PinsHold := by
  unfold State.timeBaseCheck
  dsimp only
  split
  · exact h
  · exact State.ite_pinsHold h (State.ite_pinsHold State.detect_pinsHold h)

theorem State.latentWarn_pinsHold (unit item : Nat) (h : s.safety.PinsHold) :
    (s.latentWarn unit item).safety.PinsHold := by
  unfold State.latentWarn
  split
  · exact h
  · refine State.ite_pinsHold h ?_
    rw [State.warn_safety]
    exact h

theorem State.rakeOverdue_pinsHold (unit item : Nat) (h : s.safety.PinsHold) :
    (s.rakeOverdue unit item).safety.PinsHold :=
  State.when_pinsHold h State.detect_pinsHold

theorem State.beginRestart_pinsHold (code : Nat) (h : s.safety.PinsHold) : (s.beginRestart code).safety.PinsHold :=
  State.warmReset_pinsHold _ h

theorem State.dumpWritten_pinsHold (h : s.safety.PinsHold) : s.dumpWritten.safety.PinsHold := by
  unfold State.dumpWritten
  split
  · next code _ =>
    have hw : ((State.modErrors (fun e => { e with dump := { e.dump with writing := none, codes := [] } })
        (if code = 0x000B then s.minimalDump else s.fullDump code)).dumpWaiters).safety = s.safety := by
      simp [State.ite_safety]
    dsimp only
    split
    · exact State.beginRestart_pinsHold _ (State.pinsHold_of_safety h hw)
    · exact State.pinsHold_of_safety h hw
  · dsimp only
    split
    · exact State.beginRestart_pinsHold _ h
    · exact h

theorem State.afterReset_pinsHold (h : s.safety.PinsHold) : s.afterReset.safety.PinsHold := by
  unfold State.afterReset
  dsimp only
  rw [State.ite_safety, State.warn_safety, State.modErrors_safety, ite_self, State.signLate_safety]
  split
  · rw [State.modErrors_safety, State.advance_safety]
    exact h
  · rw [State.advance_safety]
    exact h

@[simp] theorem State.selfAssay_safety (mask p : Nat) (s : State) : (s.selfAssay mask p).safety = s.safety := by
  have hsigs := foldl_view_keeps (fun x : List Nat × State => x.2.safety) (fun (a : List Nat × State) (u : Nat) =>
    if bit mask u then
      (a.1 ++ [if a.2.fresh.1.toNat = (s.boot.golden.getD 0 []).getD u 0 then (a.2.fresh.1.toNat + 1) % 2 ^ 64
        else a.2.fresh.1.toNat], a.2.fresh.2)
    else (a.1 ++ [(s.boot.golden.getD 0 []).getD u 0], a.2)) (fun a u => by split <;> simp)
    (List.range 8) ([], s)
  unfold State.selfAssay
  simpa using hsigs

theorem State.restartAges_pinsHold (h : s.safety.PinsHold) : s.restartAges.safety.PinsHold := h

theorem State.selfTest_pinsHold (given : List TestFailure) (h : s.safety.PinsHold) :
    (s.selfTest given).safety.PinsHold := by
  refine State.when_pinsHold h ?_
  dsimp only
  have htested : ((s.testFailures given).2.enabledList.foldl (fun s' p => s'.selfAssay (maskOf (s.testFailures given).1 p) p)
      (s.testFailures given).2).safety.PinsHold :=
    State.pinsHold_of_safety h ((State.foldl_safety _ (fun s p => by simp) _ _).trans (State.testFailures_safety ..))
  split
  · exact State.ite_pinsHold (State.afterReset_pinsHold (State.restartAges_pinsHold htested)) (State.restartAges_pinsHold htested)
  · exact State.detectAll_pinsHold _ htested

/-! ## Power -/

theorem State.auxRise_pinsHold (g0 g1 perst lid tamper : Bool) (h : s.safety.PinsHold) :
    (s.auxRise g0 g1 perst lid tamper).safety.PinsHold := by
  unfold State.auxRise
  split
  · exact h
  · split
    · exact h
    · dsimp only
      split
      · exact s.mainOff_pinsHold
      · exact s.mainOff_pinsHold

theorem State.auxLoss_pinsHold (h : s.safety.PinsHold) : s.auxLoss.safety.PinsHold := by
  unfold State.auxLoss
  split
  · exact h
  · exact s.off_pinsHold

theorem State.undervoltage_pinsHold (h : s.safety.PinsHold) : s.undervoltage.safety.PinsHold :=
  State.ite_pinsHold (State.excursion_pinsHold _ _ h) (State.ite_pinsHold s.off_pinsHold h)

theorem State.overvoltage_pinsHold (h : s.safety.PinsHold) : s.overvoltage.safety.PinsHold :=
  State.when_pinsHold h (State.excursion_pinsHold _ _ h)

theorem State.railFault_pinsHold (h : s.safety.PinsHold) : s.railFault.safety.PinsHold :=
  State.when_pinsHold h (State.excursion_pinsHold 5 5 h)

theorem State.railsOff_pinsHold (h : s.safety.PinsHold) : s.railsOff.safety.PinsHold := by
  unfold State.railsOff
  split
  · exact h
  · refine State.when_pinsHold h ?_
    split
    · exact s.off_pinsHold
    · exact s.mainOff_pinsHold

theorem State.thermalTrip_pinsHold (tripped : Nat) (hub hbm : Bool) (excursion : Option Bool) (h : s.safety.PinsHold) :
    (s.thermalTrip tripped hub hbm excursion).safety.PinsHold :=
  State.when_pinsHold h s.mainOff_pinsHold

theorem State.runSet_pinsHold (i : Nat) (bank : List Byte) (ms : List (List Byte)) (h : s.safety.PinsHold) :
    (s.runSet i bank ms).safety.PinsHold := by
  unfold State.runSet
  dsimp only
  rw [State.modSafety_safety, State.fillSecure_safety]
  exact h

theorem State.powerUp_pinsHold (h : s.safety.PinsHold) : s.powerUp.1.safety.PinsHold := h

theorem State.bootUp_pinsHold (sel : Bool) (h : s.safety.PinsHold) : (s.bootUp sel).safety.PinsHold := by
  refine State.when_pinsHold h ?_
  dsimp only
  split
  · exact h
  · rw [State.modAon_safety, State.ite_safety, State.warn_safety, ite_self, State.ite_safety, State.warn_safety, ite_self,
      State.modBoot_safety, State.modSafety_safety, State.loadVoff_safety]
    have hran := State.runSet_pinsHold (s := s.modMgmt fun m => { m with bootSel := some (m.bootSel.getD sel) }) ‹_› 
      (s.flash.banks.getD ‹_› []) ((manifests (s.flash.banks.getD ‹_› [])).getD []) h
    split
    · exact hran
    · exact hran

/-! ## The frame's events -/

theorem State.foldl_pinsHold {α : Type} (g : State → α → State) (hg : ∀ s a, s.safety.PinsHold → (g s a).safety.PinsHold)
    (l : List α) {s : State} (h : s.safety.PinsHold) : (l.foldl g s).safety.PinsHold :=
  State.foldl_inv (·.safety.PinsHold) g hg l s h

theorem State.resolution_pinsHold (p query : Nat) (read : HbmRead) (h : s.safety.PinsHold) :
    (s.resolution p query read).safety.PinsHold := by
  unfold State.resolution
  split
  · exact h
  · refine State.when_pinsHold h ?_
    dsimp only
    split
    · exact State.pinsHold_of_safety h (by simp)
    · exact State.pinsHold_of_safety h (by simp)
    · exact State.pinsHold_of_safety h (by simp)
    · exact State.hwFault_pinsHold
    · exact State.pinsHold_of_safety h (by simp)

@[simp] theorem State.drainFault_pinsHold {b : Book} {s : State} : (s.drainFault b).safety.PinsHold := State.detect_pinsHold

theorem State.marginStep_pinsHold (p : Nat) (h : s.safety.PinsHold) : (s.marginStep p).safety.PinsHold := by
  unfold State.marginStep
  dsimp only
  refine State.ite_pinsHold h (State.ite_pinsHold State.detect_pinsHold (State.ite_pinsHold (State.ite_pinsHold ?_ ?_)
    (State.ite_pinsHold ?_ ?_)))
  · simpa using h
  · simpa using h
  · simpa using h
  · simpa using h

theorem State.openPins_pinsHold (h : s.safety.PinsHold) : s.openPins.safety.PinsHold := by
  unfold State.openPins
  split
  · exact h
  · split
    · exact State.detect_pinsHold
    · split
      next hidle => exact Safety.pinsHold_of_latch_nil (List.isEmpty_iff.mp hidle.2.1)
      next => exact h

theorem State.openBalanced_pinsHold (h : s.safety.PinsHold) : s.openBalanced.safety.PinsHold := by
  unfold State.openBalanced
  dsimp only
  split
  · exact State.drainFault_pinsHold
  · refine State.openPins_pinsHold (State.foldl_pinsHold _ (fun s p hs => State.marginStep_pinsHold p hs) _ ?_)
    refine State.pinsHold_of_safety h ?_
    simp

theorem State.frameOpen_pinsHold (h : s.safety.PinsHold) : s.frameOpen.safety.PinsHold :=
  State.when_pinsHold h (State.ite_pinsHold (State.pinsHold_of_safety h (by simp)) (State.openBalanced_pinsHold h))

theorem State.assayComplete_pinsHold (k : Nat) (sigs : List Nat) (h : s.safety.PinsHold) :
    (s.assayComplete k sigs).safety.PinsHold := by
  unfold State.assayComplete
  split
  · exact h
  · refine State.when_pinsHold h ?_
    dsimp only
    split
    · exact State.detect_pinsHold
    · split
      · simpa using h
      · exact State.detect_pinsHold

theorem State.assayLate_pinsHold (k : Nat) (h : s.safety.PinsHold) : (s.assayLate k).safety.PinsHold := by
  unfold State.assayLate
  split
  · exact h
  · refine State.when_pinsHold h ?_
    dsimp only
    split
    · simpa using h
    · exact State.detect_pinsHold

theorem State.runAlone_pinsHold {body : Cmd → State → State}
    (hbody : ∀ (c : Cmd) (s : State), s.safety.PinsHold → (body c s).safety.PinsHold) (c : Cmd) (h : s.safety.PinsHold) :
    (s.runAlone body c).safety.PinsHold := by
  unfold State.runAlone
  dsimp only
  rw [State.modFrame_safety, State.modMbx_safety]
  exact hbody c _ h

/-- The commands of a replayed frame keep the pins, SAFE_RELEASE and LIFECYCLE_SET among them. -/
theorem replayBody_pinsHold (op : Nat) : ∀ body, replayBody op = some body → ∀ (c : Cmd) (s : State),
    s.safety.PinsHold → (body c s).safety.PinsHold := by
  unfold replayBody
  split <;> simp +contextual [bodySafeRelease_pinsHold, bodyLifecycleSet_pinsHold]

theorem State.replayInput_pinsHold (x : Replayed) (h : s.safety.PinsHold) : (s.replayInput x).safety.PinsHold := by
  unfold State.replayInput
  dsimp only
  have ht : (s.takeReplayed x).safety.PinsHold := State.pinsHold_of_safety h (by simp)
  split
  · split
    · simpa using h
    · split
      · next body hop => exact State.runAlone_pinsHold (replayBody_pinsHold _ body hop) _ ht
      · exact ht
  · refine State.pinsHold_of_safety h ?_
    simp [State.ite_safety]

theorem State.replayInputs_pinsHold (h : s.safety.PinsHold) : s.replayInputs.safety.PinsHold :=
  State.when_pinsHold h (State.foldl_pinsHold _ (fun _ x hs => State.replayInput_pinsHold x hs) _ h)

theorem State.brineCutoff_pinsHold (h : s.safety.PinsHold) : s.brineCutoff.safety.PinsHold := by
  refine State.when_pinsHold h ?_
  dsimp only
  have hreplay : s.writeBoxes.replayInputs.safety.PinsHold :=
    State.replayInputs_pinsHold (State.pinsHold_of_safety h (by simp))
  exact State.pinsHold_of_safety hreplay (by simp [State.ite_safety, State.foldl_safety])

theorem State.disagree_pinsHold (p : Nat) (h : s.safety.PinsHold) : (s.disagree p).safety.PinsHold := by
  unfold State.disagree
  dsimp only
  refine State.ite_pinsHold h (State.ite_pinsHold State.detect_pinsHold ?_)
  rw [State.warnFree_safety]
  exact h

theorem State.attemptResult_pinsHold (id : Nat) (h : s.safety.PinsHold) : (s.attemptResult id).safety.PinsHold := by
  unfold State.attemptResult
  split
  · exact h
  · split
    · refine State.when_pinsHold h ?_
      split
      · simpa using h
      · exact State.disagree_pinsHold _ (State.pinsHold_of_safety h (by simp))
    · exact h

theorem State.countRecord_pinsHold (ses outcome : Nat) (refused : Bool) (h : s.safety.PinsHold) :
    (s.countRecord ses outcome refused).safety.PinsHold := by
  unfold State.countRecord
  dsimp only
  split
  · rw [State.modSafety_safety, State.bumpSes_safety, State.bumpSes_safety, State.bumpSes_safety]
    exact h
  · simpa using h

theorem State.commitFaults_pinsHold (x : Stream) (mismatch refused unverified : Bool) (h : s.safety.PinsHold) :
    (s.commitFaults x mismatch refused unverified).safety.PinsHold := State.detectAll_pinsHold _ h

theorem State.commitStream_pinsHold (late : Bool) (x : Stream) (h : s.safety.PinsHold) :
    (s.commitStream late x).safety.PinsHold := by
  unfold State.commitStream
  dsimp only
  refine State.commitFaults_pinsHold _ _ _ _ ?_
  rw [State.resultPut_safety]
  exact State.countRecord_pinsHold _ _ _ (State.pinsHold_of_safety h (by simp))

theorem State.commit_pinsHold (id : Nat) (h : s.safety.PinsHold) : (s.commit id).safety.PinsHold := by
  unfold State.commit
  split
  · exact h
  · exact State.when_pinsHold h (State.commitStream_pinsHold _ _ h)

theorem State.commitLate_pinsHold (id : Nat) (h : s.safety.PinsHold) : (s.commitLate id).safety.PinsHold := by
  unfold State.commitLate
  split
  · exact h
  · exact State.when_pinsHold h (State.commitStream_pinsHold _ _ h)

theorem State.publishDeadline_pinsHold (h : s.safety.PinsHold) : s.publishDeadline.safety.PinsHold := by
  refine State.when_pinsHold h ?_
  dsimp only
  rw [State.releaseLists_safety]
  refine State.foldl_pinsHold _ (fun _ id hs => State.commitLate_pinsHold id hs) _ (State.pinsHold_of_safety h ?_)
  simp [State.ite_safety]

/-! ## The rake and the guard -/

theorem State.deferRake_pinsHold (h : s.safety.PinsHold) : s.deferRake.safety.PinsHold := h

theorem State.rakeStack_pinsHold (k : Nat) (h : s.safety.PinsHold) : (s.rakeStack k).safety.PinsHold := by
  unfold State.rakeStack
  split
  · exact h
  · exact State.ite_pinsHold (State.deferRake_pinsHold h) (by simpa using h)

theorem State.rakeStart_pinsHold (h : s.safety.PinsHold) : s.rakeStart.safety.PinsHold :=
  State.when_pinsHold h (State.foldl_pinsHold State.rakeStack (fun _ k hs => State.rakeStack_pinsHold k hs) [0, 1, 2, 3] h)

theorem State.rakeCycleNote_pinsHold (n : Nat) (h : s.safety.PinsHold) : (s.rakeCycleNote n).safety.PinsHold :=
  State.ite_pinsHold h h

theorem State.rakeNext_pinsHold (unit item : Nat) (h : s.safety.PinsHold) :
    (s.rakeNext unit item).safety.PinsHold := by
  unfold State.rakeNext
  dsimp only
  refine State.ite_pinsHold (State.rakeCycleNote_pinsHold _ h) (State.ite_pinsHold ?_ h)
  exact State.rakeCycleNote_pinsHold _ (State.pinsHold_of_safety h (by simp))

theorem State.rakeItemDone_pinsHold (unit item : Nat) (ok : Bool) (taps : Nat) (temp : Int) (osc : List Nat)
    (h : s.safety.PinsHold) : (s.rakeItemDone unit item ok taps temp osc).safety.PinsHold := by
  refine State.when_pinsHold h ?_
  dsimp only
  refine State.ite_pinsHold (State.rakeNext_pinsHold _ _ (State.ite_pinsHold ?_ h)) State.detect_pinsHold
  rw [State.rakeMonitor_safety]
  exact h

theorem State.rakeCut_pinsHold (h : s.safety.PinsHold) : s.rakeCut.safety.PinsHold := by
  unfold State.rakeCut
  dsimp only
  refine State.ite_pinsHold ?_ (State.deferRake_pinsHold ?_)
  all_goals
    refine State.foldl_pinsHold _ (fun s k hs => ?_) _ h
    split
    · exact State.pinsHold_of_safety (State.deferRake_pinsHold (State.pinsHold_of_safety hs (State.endSafety_safety ..))) rfl
    · exact hs

theorem State.guardPins_pinsHold (h : s.safety.PinsHold) : s.guardPins.safety.PinsHold := by
  unfold State.guardPins
  split
  next hidle =>
    intro hne
    have hpin := (h hne).1
    omega
  next => exact h

theorem State.guardStart_pinsHold (badBooks : List Nat) (h : s.safety.PinsHold) :
    (s.guardStart badBooks).safety.PinsHold := by
  unfold State.guardStart
  dsimp only
  refine State.when_pinsHold h (State.guardPins_pinsHold ?_)
  rw [State.guardDevice_safety, State.guardSessions_safety]
  refine State.foldl_pinsHold _ (fun _ _ _ => State.schedBook_pinsHold) _ ?_
  rw [State.guardDrains_safety, State.gateAll_safety, State.modFrame_safety]
  exact State.rakeCut_pinsHold h

theorem State.frameHung_pinsHold (h : s.safety.PinsHold) : s.frameHung.safety.PinsHold := by
  unfold State.frameHung
  exact State.when_pinsHold h State.detect_pinsHold

/-! ## Time and the mailbox rows -/

theorem State.atSsv_pinsHold (ssv : Nat) (h : s.safety.PinsHold) : (s.atSsv ssv).safety.PinsHold := h

theorem runCmd_pinsHold (op fn slot : Nat) {body : Cmd → State → State} (due : Cmd → State → Bool) (captured : Bool)
    (hbody : ∀ (c : Cmd) (s : State), s.safety.PinsHold → (body c s).safety.PinsHold) (h : s.safety.PinsHold) :
    (runCmd op fn slot body s due captured).safety.PinsHold := by
  unfold runCmd
  split
  · exact h
  · refine State.ite_pinsHold (State.ite_pinsHold (by simpa using h) (State.ite_pinsHold (by simpa using h) ?_)) h
    exact hbody _ _ (State.ite_pinsHold (by simpa using h) h)

/-- Every command of the mailbox that leaves the supervisor does so refused, too. -/
theorem runCmd_safety (op fn slot : Nat) {body : Cmd → State → State} (hbody : ∀ (c : Cmd) (s : State), (body c s).safety = s.safety)
    (s : State) (due : Cmd → State → Bool) (captured : Bool) : (runCmd op fn slot body s due captured).safety = s.safety := by
  unfold runCmd
  split
  · rfl
  · simp [State.ite_safety, hbody]

end

/-! ## Every row -/

/-- The outcome keeps the pins in class-S safe state while a code is latched. -/
def KeepsPins (s : State) (o : Host.Outcome State Fault Refusal) : Prop := ∀ s', s.safety.PinsHold → o = .next s' → s'.safety.PinsHold

theorem ranAt_keepsPins {ok : Bool} {t : Nat} {s : State} {f : State → State}
    (hf : ∀ s : State, s.safety.PinsHold → (f s).safety.PinsHold) : KeepsPins s (ranAt ok t s f) := by
  intro s' h hs'
  cases ok
  · cases hs'
    exact h
  · cases hs'
    exact hf _ h

theorem ranAt_keepsPins_of_safety {ok : Bool} {t : Nat} {s : State} {f : State → State}
    (hf : ∀ s : State, (f s).safety = s.safety) : KeepsPins s (ranAt ok t s f) :=
  ranAt_keepsPins fun s h => State.pinsHold_of_safety h (hf s)

/-- Every command keeps the pins: the rows that act on the supervisor by name, the others because they leave it. -/
theorem exec_keepsPins (c : Instr) (s : State) : KeepsPins s (exec c s) := by
  unfold exec
  cases c with
  | hubResetWarm => exact ranAt_keepsPins fun s => State.hubReset_pinsHold _ _
  | cfwBeat => exact ranAt_keepsPins fun s => State.beat_pinsHold _
  | registerWrite => exact ranAt_keepsPins fun s => State.registerWrite_pinsHold _ _ _ _ _ _
  | breakResume => exact ranAt_keepsPins fun s => runCmd_pinsHold _ _ _ _ _ fun c s => bodyBreakResume_pinsHold c
  | safetyStatus =>
    exact ranAt_keepsPins fun s h =>
      runCmd_pinsHold _ _ _ _ _ (fun c s h => State.pinsHold_of_safety h (bodySafetyStatus_safety c s))
        (State.atSsv_pinsHold _ h)
  | safeRelease =>
    exact ranAt_keepsPins fun s h =>
      runCmd_pinsHold _ _ _ _ _ (fun c s => bodySafeRelease_pinsHold c) (State.atSsv_pinsHold _ h)
  | lifecycleSet => exact ranAt_keepsPins fun s => runCmd_pinsHold _ _ _ _ _ fun c s => bodyLifecycleSet_pinsHold c
  | perstNAssert => exact ranAt_keepsPins fun s => State.perstAssert_pinsHold
  | pcieLinkReset => exact ranAt_keepsPins fun s => State.linkReset_pinsHold _
  | dlDown => exact ranAt_keepsPins fun s => State.dlDown_pinsHold _
  | flr => exact ranAt_keepsPins fun s => State.flrAll_pinsHold _ _
  | vfRemove => exact ranAt_keepsPins fun s => State.vfRemove_pinsHold _ _
  | frameOpen => exact ranAt_keepsPins fun s h => State.frameOpen_pinsHold (State.atSsv_pinsHold _ h)
  | assayComplete => exact ranAt_keepsPins fun s => State.assayComplete_pinsHold _ _
  | assayLate => exact ranAt_keepsPins fun s => State.assayLate_pinsHold _
  | brineCutoff => exact ranAt_keepsPins fun s => State.brineCutoff_pinsHold
  | attemptResult => exact ranAt_keepsPins fun s => State.attemptResult_pinsHold _
  | commit => exact ranAt_keepsPins fun s => State.commit_pinsHold _
  | publishDeadline => exact ranAt_keepsPins fun s => State.publishDeadline_pinsHold
  | rakeStart => exact ranAt_keepsPins fun s => State.rakeStart_pinsHold
  | rakeItemDone => exact ranAt_keepsPins fun s => State.rakeItemDone_pinsHold _ _ _ _ _ _
  | guardStart => exact ranAt_keepsPins fun s => State.guardStart_pinsHold _
  | frameHung => exact ranAt_keepsPins fun s => State.frameHung_pinsHold
  | tokenDelivery => exact ranAt_keepsPins fun s => State.tokenDelivery_pinsHold _ _ _ _
  | taskCompletion => exact ranAt_keepsPins fun s => State.completion_pinsHold _ _ _ _ _
  | unitTake => exact ranAt_keepsPins fun s => State.unitTake_pinsHold _ _ _
  | nocCreditTimeout => exact ranAt_keepsPins fun s _ => State.detect_pinsHold
  | resolutionRequest => exact ranAt_keepsPins fun s => State.resolution_pinsHold _ _ _
  | wdogEdge => exact ranAt_keepsPins fun s h => State.wdogEdge_pinsHold _ (State.atSsv_pinsHold _ h)
  | wdogLost => exact ranAt_keepsPins fun s h => State.wdogLost_pinsHold (State.atSsv_pinsHold _ h)
  | cfwSilent => exact ranAt_keepsPins fun s h => State.cfwSilent_pinsHold (State.atSsv_pinsHold _ h)
  | timeBaseCheck => exact ranAt_keepsPins fun s h => State.timeBaseCheck_pinsHold (State.atSsv_pinsHold _ h)
  | cpLockstep => exact ranAt_keepsPins fun s _ => State.detect_pinsHold
  | ssvLockstep => exact ranAt_keepsPins fun s _ => State.ssvLockstep_pinsHold
  | latentOverdue => exact ranAt_keepsPins fun s => State.latentWarn_pinsHold _ _
  | rakeOverdue => exact ranAt_keepsPins fun s => State.rakeOverdue_pinsHold _ _
  | dumpWritten => exact ranAt_keepsPins fun s => State.dumpWritten_pinsHold
  | selfTestComplete => exact ranAt_keepsPins fun s => State.selfTest_pinsHold _
  | auxRise => exact ranAt_keepsPins fun s => State.auxRise_pinsHold _ _ _ _ _
  | auxLoss => exact ranAt_keepsPins fun s => State.auxLoss_pinsHold
  | boot => exact ranAt_keepsPins fun s => State.bootUp_pinsHold _
  | undervoltage => exact ranAt_keepsPins fun s => State.undervoltage_pinsHold
  | overvoltage => exact ranAt_keepsPins fun s => State.overvoltage_pinsHold
  | railsOff => exact ranAt_keepsPins fun s => State.railsOff_pinsHold
  | railFault => exact ranAt_keepsPins fun s => State.railFault_pinsHold
  | thermalTrip => exact ranAt_keepsPins fun s => State.thermalTrip_pinsHold _ _ _ _
  | pwrCtlOff => exact ranAt_keepsPins fun s h => State.ite_pinsHold (State.pwrCtl_pinsHold _ h) h
  | pwrCtlWake => exact ranAt_keepsPins fun s h => State.ite_pinsHold (State.pwrCtl_pinsHold _ h) h
  | pwrCtlRestart => exact ranAt_keepsPins fun s h => State.ite_pinsHold (State.pwrCtl_pinsHold _ h) h
  | healthyWaveformEdge => exact ranAt_keepsPins fun s h => State.healthyEdge_pinsHold _ _ (State.atSsv_pinsHold _ h)
  | _ => exact ranAt_keepsPins_of_safety fun s => by simp [runCmd_safety]

/-- Settles O6. A step runs the front command, which keeps the pins, or idles. -/
theorem latchedPinsHold : Obligations.LatchedPinsHold := by
  intro s s' h hstep
  cases hq : s.pending with
  | nil =>
    rw [step_nil hq] at hstep
    cases hstep
    exact h
  | cons c rest =>
    rw [step_cons hq] at hstep
    exact exec_keepsPins c { s with pending := rest } s' h hstep

end Sys2Proof.Machine
end

section
/-!
SUPPORT. What an answered command leaves: the parts of the state that a response, a wait and the capture entry of a row touch.
-/
namespace Sys2Proof.Machine

/-- The command table with the response of the command in `c`'s slot decided, where none was. -/
def Cmd.answer (c : Cmd) (r : Response) (x : Cmd) : Cmd :=
  if x.fn = c.fn ∧ x.slot = c.slot then (if x.response = none then { x with response := some r, stage := .done } else x) else x

@[simp] theorem State.respond_mbx (c : Cmd) (r : Response) (s : State) :
    (s.respond c r).mbx = { s.mbx with cmds := s.mbx.cmds.map (c.answer r) } := rfl
@[simp] theorem State.refuse_mbx (c : Cmd) (st a : Nat) (s : State) :
    (s.refuse c st a).mbx = { s.mbx with cmds := s.mbx.cmds.map (c.answer (refusal st a)) } := rfl
@[simp] theorem State.accept_mbx (c : Cmd) (p : List Byte) (s : State) :
    (s.accept c p).mbx = { s.mbx with cmds := s.mbx.cmds.map (c.answer (okReply p)) } := rfl
@[simp] theorem State.modCmd_mbx (fn slot : Nat) (f : Cmd → Cmd) (s : State) : (s.modCmd fn slot f).mbx =
    { s.mbx with cmds := s.mbx.cmds.map fun c => if c.fn = fn ∧ c.slot = slot then f c else c } := rfl
@[simp] theorem State.wait_mbx (c : Cmd) (s : State) : (s.wait c).mbx =
    { s.mbx with cmds := s.mbx.cmds.map fun x => if x.fn = c.fn ∧ x.slot = c.slot then { x with stage := .waiting } else x } :=
  rfl

/-- The state on which a row runs the body of its command: device time read, the command captured. -/
def State.taken (s : State) (t : Nat) (c : Cmd) : State := (s.at t).captureCmd c

section
variable (s : State) (t : Nat) (c : Cmd)
@[simp] theorem State.taken_part : (s.taken t c).part = s.part := by simp [State.taken]
@[simp] theorem State.taken_flash : (s.taken t c).flash = s.flash := by simp [State.taken]
@[simp] theorem State.taken_aon : (s.taken t c).aon = s.aon := by simp [State.taken]
@[simp] theorem State.taken_mgmt : (s.taken t c).mgmt = s.mgmt := by simp [State.taken]
@[simp] theorem State.taken_now : (s.taken t c).time.now = max s.time.now t := by simp [State.taken]
@[simp] theorem State.taken_time : (s.taken t c).time = { s.time with now := max s.time.now t } := by
  simp [State.taken, State.at]
@[simp] theorem State.taken_pcie : (s.taken t c).pcie = s.pcie := by simp [State.taken]
@[simp] theorem State.taken_mbx : (s.taken t c).mbx = s.mbx := by simp [State.taken]
@[simp] theorem State.taken_rings : (s.taken t c).rings = s.rings := by simp [State.taken]
@[simp] theorem State.taken_sessions : (s.taken t c).sessions = s.sessions := by simp [State.taken]
@[simp] theorem State.taken_images : (s.taken t c).images = s.images := by simp [State.taken]
@[simp] theorem State.taken_worlds : (s.taken t c).worlds = s.worlds := by simp [State.taken]
@[simp] theorem State.taken_streams : (s.taken t c).streams = s.streams := by simp [State.taken]
@[simp] theorem State.taken_clusters : (s.taken t c).clusters = s.clusters := by simp [State.taken]
@[simp] theorem State.taken_stks : (s.taken t c).stks = s.stks := by simp [State.taken]
@[simp] theorem State.taken_hub : (s.taken t c).hub = s.hub := by simp [State.taken]
@[simp] theorem State.taken_frame : (s.taken t c).frame = s.frame := by simp [State.taken]
@[simp] theorem State.taken_req : (s.taken t c).req = s.req := by simp [State.taken]
@[simp] theorem State.taken_key : (s.taken t c).det.key = s.det.key := by simp [State.taken]
@[simp] theorem State.taken_safety : (s.taken t c).safety = s.safety := by simp [State.taken]
@[simp] theorem State.taken_boot : (s.taken t c).boot = s.boot := by simp [State.taken]
@[simp] theorem State.taken_errors : (s.taken t c).errors = s.errors := by simp [State.taken]
@[simp] theorem State.taken_fabric : (s.taken t c).fabric = s.fabric := by simp [State.taken]
@[simp] theorem State.taken_farming : (s.taken t c).farming = s.farming := by simp [State.taken]
@[simp] theorem State.taken_obs : (s.taken t c).obs = s.obs := by simp [State.taken]
@[simp] theorem State.taken_host : (s.taken t c).host = s.host := by simp [State.taken]
@[simp] theorem State.taken_hbm : (s.taken t c).hbm = s.hbm := by simp [State.taken]
@[simp] theorem State.taken_sram : (s.taken t c).sram = s.sram := by simp [State.taken]
@[simp] theorem State.taken_saves : (s.taken t c).saves = s.saves := by simp [State.taken]
@[simp] theorem State.taken_free : (s.taken t c).free = s.free := by simp [State.taken]
@[simp] theorem State.taken_pending : (s.taken t c).pending = s.pending := by simp [State.taken]
@[simp] theorem State.taken_ses (i : Nat) : (s.taken t c).ses i = s.ses i := by simp [State.ses]
end

theorem State.ses_congr {s s' : State} (h : s'.sessions = s.sessions) (i : Nat) : s'.ses i = s.ses i := by
  rw [State.ses, State.ses, h]

@[simp] theorem State.accept_ses (c : Cmd) (p : List Byte) (s : State) (i : Nat) : (s.accept c p).ses i = s.ses i := rfl

/-- The row of a ready command runs its body on the state taken, and puts the queue back. -/
theorem execTaken {s : State} {op fn slot : Nat} {c : Cmd} (hs : isSlot fn slot) (h : s.isReady op fn slot c) (t : Nat)
    (body : Cmd → State → State) :
    ranAt (slotOk fn slot) t s (runCmd op fn slot body) = .next { body c (s.taken t c) with pending := s.pending } :=
  execRow hs h t body

/-- The like for a command that has arrived and that its mode permits. -/
theorem execTakenA {s : State} {op fn slot : Nat} {c : Cmd} (hs : isSlot fn slot) (h : s.isArrived op fn slot c)
    (hq : s.boot.mode = 1 → quarantineOk op = true) (hr : s.frame.devState = 3 → replayOk op = true) (t : Nat)
    (body : Cmd → State → State) :
    ranAt (slotOk fn slot) t s (runCmd op fn slot body) = .next { body c (s.taken t c) with pending := s.pending } :=
  execArrived hs h hq hr t body

/-- A state that only answers: what was written before the answer is in none of the parts that `onlyAnswered` fixes. -/
theorem State.onlyAnswered_refuse (s : State) (t : Nat) (c : Cmd) (st a : Nat) :
    s.onlyAnswered { (s.taken t c).refuse c st a with pending := s.pending } := by
  unfold State.onlyAnswered
  apply State.ext_parts <;> simp

theorem State.onlyAnswered_accept (s : State) (t : Nat) (c : Cmd) (p : List Byte) :
    s.onlyAnswered { (s.taken t c).accept c p with pending := s.pending } := by
  unfold State.onlyAnswered
  apply State.ext_parts <;> simp

end Sys2Proof.Machine
end

section
/-!
SUPPORT. Fields of a payload that is written as fields one behind the other.
-/
namespace Sys2Proof.Machine

/-- A field that begins behind `a`. -/
theorem slice_append_right {a b : List Byte} {off n : Nat} (h : a.length ≤ off) :
    slice (a ++ b) off n = slice b (off - a.length) n := by
  simp [slice, List.drop_append, List.drop_eq_nil_of_le h]

/-- The field that stands first. -/
theorem slice_append_left {a b : List Byte} {n : Nat} (h : a.length = n) : slice (a ++ b) 0 n = a := by
  simp [slice, ← h]

theorem slice_all {a : List Byte} {n : Nat} (h : a.length = n) : slice a 0 n = a := by
  simp [slice, ← h]

@[simp] theorem length_zeros (n : Nat) : (zeros n).length = n := List.length_replicate

end Sys2Proof.Machine
end

section
/-!
SUPPORT. The obligation on SES_RECOVER of a class-S session (R415).
-/
namespace Sys2Proof.Machine

/-- The latch refuses SES_RECOVER of a class-S session. -/
theorem bodySesRecover_latched {c : Cmd} {s : State} (hp : c.payload = []) (hs : (s.ses c.session).classS = true)
    (hl : s.safety.latch ≠ []) : bodySesRecover c s = s.refuse c 0x0201 := by
  unfold bodySesRecover
  rw [State.shape_pos (by simp [hp]) (by simp)]
  exact State.need_neg (by simp [hs, hl]) ..

/-- A stream of a session that recovers keeps no current motion. -/
def Stream.recovered (i : Nat) (y : Stream) : Stream :=
  if y.session = i then { y with motion := .standstill, published := none, carried := none } else y

/-- With the latch clear a FAULTED class-S session is CONFIGURED again, its streams without a current motion. -/
theorem bodySesRecover_classS {c : Cmd} {s : State} (hp : c.payload = []) (hs : (s.ses c.session).classS = true)
    (hst : (s.ses c.session).state = 5) (hl : s.safety.latch = []) : bodySesRecover c s =
      ((s.modStreams fun l => l.map (Stream.recovered c.session)).sesTo c.session 2 0x0206).accept c := by
  unfold bodySesRecover
  rw [State.shape_pos (by simp [hp]) (by simp)]
  dsimp only
  rw [State.need_pos (by simp [hs, hst, hl]), if_pos hs]
  rfl

theorem Stream.recovered_session (i : Nat) (y : Stream) : (y.recovered i).session = y.session := by
  unfold Stream.recovered; split <;> rfl

/-- A recovered stream stands still. -/
theorem Stream.recovered_motion {i : Nat} {y : Stream} (h : y.session = i) :
    (y.recovered i).motion = .standstill ∧ (y.recovered i).published = none := by
  simp [Stream.recovered, h]

/-- A stream of its own works only while its session is RUNNING. -/
theorem State.works_of_state {s : State} {y : Stream} (hg : y.guest = none) (h : (s.ses y.session).state ≠ 3) :
    s.works y = false := by
  simp [State.works, hg, h]

/-- Settles O11. -/
theorem classSRecover : Obligations.ClassSRecover := by
  intro s fn slot t c hslot hready hp hi hclass hst
  refine ⟨fun hl => ?_, fun hl => ?_⟩
  · refine ⟨_, (exec_sesRecover fn slot t s).trans (execTaken hslot hready t _), ?_⟩
    rw [bodySesRecover_classS hp (by simpa using hclass) (by simpa using hst) (by simpa using hl)]
    have hstate : (State.ses (((s.taken t c).modStreams fun l => l.map (Stream.recovered c.session)).sesTo c.session 2 0x0206)
        c.session).state = 2 := State.sesTo_state _ _ _ _ (by simpa using hi)
    refine ⟨State.answered hready (by simp) _ _, hstate, fun y hy hys => ?_⟩
    replace hy : y ∈ s.streams.map (Stream.recovered c.session) := by simpa using hy
    obtain ⟨z, -, rfl⟩ := List.mem_map.mp hy
    obtain ⟨hm, hpub⟩ := Stream.recovered_motion ((Stream.recovered_session _ z).symm.trans hys)
    exact ⟨hm, hpub, fun hg => State.works_of_state hg (by rw [hys]; exact ne_of_eq_of_ne hstate (by decide))⟩
  · refine ⟨_, (exec_sesRecover fn slot t s).trans (execTaken hslot hready t _), ?_⟩
    rw [bodySesRecover_latched hp (by simpa using hclass) (by simpa using hl)]
    exact ⟨State.refused hready (by simp) _ _ _, State.onlyAnswered_refuse ..⟩

end Sys2Proof.Machine
end
section
/-!
SUPPORT. The rows of the Ifen commands by the device's mode (R300, R332), and the obligation on them.
-/
namespace Sys2Proof.Machine

/-- SSV time read, of the two rows that read it. -/
def State.ssvSeen (v : Option Nat) (s : State) : State := v.elim s s.atSsv

/-- The instruction runs the command of opcode `op` in its slot at once: the stream and query rows, which wait for T_c, do not. -/
def IfenRow (i : Instr) (op fn slot : Nat) : Prop :=
  ∃ (t : Nat) (v : Option Nat) (body : Cmd → State → State) (captured : Bool), ∀ s, exec i s =
    ranAt (slotOk fn slot) t s fun s => runCmd op fn slot body (s.ssvSeen v) (captured := captured)

theorem IfenRow.plain {i : Instr} {op fn slot t : Nat} {body : Cmd → State → State} {captured : Bool}
    (h : ∀ s, exec i s = ranAt (slotOk fn slot) t s fun s => runCmd op fn slot body s (captured := captured)) :
    IfenRow i op fn slot := ⟨t, none, body, captured, h⟩

theorem IfenRow.ssv {i : Instr} {op fn slot t v : Nat} {body : Cmd → State → State} {captured : Bool}
    (h : ∀ s, exec i s = ranAt (slotOk fn slot) t s fun s => runCmd op fn slot body (s.atSsv v) (captured := captured)) :
    IfenRow i op fn slot := ⟨t, some v, body, captured, h⟩

/-- Every Ifen row but those of a stream or a query. -/
theorem ifenRow_of_row {i : Instr} {op fn slot : Nat} (h : i.row = some (op, fn, slot)) (hop : ¬(0x0504 ≤ op ∧ op ≤ 0x0507)) :
    IfenRow i op fn slot := by
  cases i with
  | streamAdd => cases h; exact absurd (by decide) hop
  | streamResize => cases h; exact absurd (by decide) hop
  | streamRemove => cases h; exact absurd (by decide) hop
  | querySubmit => cases h; exact absurd (by decide) hop
  | safetyStatus => cases h; exact IfenRow.ssv fun _ => rfl
  | safeRelease => cases h; exact IfenRow.ssv fun _ => rfl
  | _ => cases h <;> exact IfenRow.plain fun _ => rfl

theorem State.freeLanding_eq (c : Cmd) (s : State) : s.freeLanding c = s.modWorlds fun y => { y with
    landingUsed := if c.opcode = 0x0401 ∨ c.opcode = 0x0402 then y.landingUsed - c.fetchBytes else y.landingUsed } := by
  unfold State.freeLanding
  split <;> rfl

/-- No command of the function's names the slot: a row finds none. -/
theorem State.cmdFor_none {s : State} {fn slot : Nat} (hslot : slot < 32) (p : Cmd → Bool)
    (h : ∀ c ∈ s.mbx.cmds, c.fn = fn → c.slot % 32 ≠ slot) : s.cmdFor fn slot p = none := by
  have hin : s.cmd? fn slot = none := List.find?_eq_none.mpr fun c hc => by
    have := h c hc
    simp only [Bool.and_eq_true, beq_iff_eq, not_and]
    intro hfn hs
    exact this hfn (by rw [hs, Nat.mod_eq_of_lt hslot])
  have hdrop : s.mbx.cmds.find? (fun c => c.silentDrop && c.fn == fn && c.slot != slot && c.slot % 32 == slot && p c) = none :=
    List.find?_eq_none.mpr fun c hc => by
      have := h c hc
      simp only [Bool.and_eq_true, beq_iff_eq, not_and, and_imp]
      exact fun _ hfn _ hs => absurd hs (this hfn)
  rw [State.cmdFor, hin, hdrop]
  rfl

/-- What a row's state before its body has of `s`: all but time and SSV time. -/
theorem State.ssvSeen_at (s : State) (t : Nat) (v : Option Nat) : { (s.at t).ssvSeen v with
    time := s.time, safety := s.safety } = s := by
  cases v <;> rfl

/-- A mode refuses the command of a row: it is answered, its landing space is free again, and nothing else changes. -/
theorem ifenRow_refused {s s' : State} {op fn slot st : Nat} {c : Cmd} (t : Nat) (v : Option Nat)
    (h : s.isArrived op fn slot c)
    (hs' : s' = { ((((s.at t).ssvSeen v).refuse c st).freeLanding c) with pending := s.pending }) :
    s'.reply? fn slot = some (refusal st) ∧
      s'.worlds.landingUsed = (if op = 0x0401 ∨ op = 0x0402 then s.worlds.landingUsed - c.fetchBytes
        else s.worlds.landingUsed) ∧
      { s' with time := s.time, safety := s.safety, mbx := { s'.mbx with cmds := s.mbx.cmds },
                worlds := { s'.worlds with landingUsed := s.worlds.landingUsed } } = s := by
  obtain ⟨hc, hop, -, hn, -⟩ := h
  have hmbx : ((s.at t).ssvSeen v).mbx = s.mbx := by cases v <;> rfl
  subst hs'
  rw [State.freeLanding_eq, hop]
  refine ⟨State.reply?_refuse hmbx hc hn st 0, ?_, ?_⟩
  · cases v <;> rfl
  · cases v <;> rfl

/-- Settles O12. The checks of a row come before its body, whatever the body is. -/
theorem ifenRowsByMode : Obligations.IfenRowsByMode := by
  intro i s op fn slot c hrow hslot hop
  obtain ⟨t, v, body, captured, hexec⟩ := ifenRow_of_row hrow hop
  have hran := fun f => ranAt_pos (slotOk_of fn slot hslot) t s f
  have harrived : s.isArrived op fn slot c → ((s.at t).ssvSeen v).isArrived op fn slot c := by cases v <;> exact id
  have hmode : ((s.at t).ssvSeen v).boot.mode = s.boot.mode := by cases v <;> rfl
  have hdev : ((s.at t).ssvSeen v).frame.devState = s.frame.devState := by cases v <;> rfl
  refine ⟨fun h hq hlist h8 h11 => ?_, fun h hq hr h7 h8 => ?_, fun h => ?_⟩
  · have hbad : quarantineOk op = false := by simp [quarantineOk] at hlist ⊢; tauto
    have hrun := runCmd_arrived (harrived h) body (fun _ _ => true) rfl captured
    rw [if_pos (by simp [hmode, hq, hbad])] at hrun
    refine ⟨_, (hexec s).trans (hran _), ?_⟩
    exact ifenRow_refused t v h (by rw [hrun]; rfl)
  · have hbad : replayOk op = false := by simp [replayOk, h7, h8]
    have hrun := runCmd_arrived (harrived h) body (fun _ _ => true) rfl captured
    rw [if_neg (by simp [hmode, hq]), if_pos (by simp [hdev, hr, hbad])] at hrun
    refine ⟨_, (hexec s).trans (hran _), ?_⟩
    exact ifenRow_refused t v h (by rw [hrun]; rfl)
  · have hrun : runCmd op fn slot body ((s.at t).ssvSeen v) (captured := captured) = (s.at t).ssvSeen v := by
      unfold runCmd
      rw [State.cmdFor_none hslot.2 _ (by cases v <;> exact h)]
    refine ⟨_, (hexec s).trans (hran _), ?_⟩
    rw [hrun]
    cases v <;> rfl

end Sys2Proof.Machine
end

section
/-!
SUPPORT. The session group: what each command of Table 14.5 answers and does to its session, and the obligations on it.
-/
namespace Sys2Proof.Machine

/-! ## SES_OPEN -/

/-- The lowest session ID that is CLOSED and free. -/
theorem State.freeSession_of_lowest {s : State} {i : Nat} (hi : i < 16) (hst : (s.ses i).state = 0)
    (hcl : (s.ses i).closing = false) (hlow : ∀ j < i, (s.ses j).state ≠ 0 ∨ (s.ses j).closing = true) :
    s.freeSession = some i := by
  refine List.find?_range_eq_some.mpr ⟨by simp [hst, hcl], List.mem_range.mpr hi, fun j hj => ?_⟩
  rcases hlow j hj with h | h <;> simp [h]

theorem State.freeSession_none {s : State} (h : ∀ j < 16, (s.ses j).state ≠ 0 ∨ (s.ses j).closing = true) :
    s.freeSession = none := by
  refine List.find?_eq_none.mpr fun j hj => ?_
  rcases h j (List.mem_range.mp hj) with h | h <;> simp [h]

theorem State.freeSession_congr {s s' : State} (h : s'.sessions = s.sessions) : s'.freeSession = s.freeSession := by
  simp [State.freeSession, State.ses, h]

/-- A free ID is opened for the function. -/
theorem bodySesOpen_opens {c : Cmd} {s : State} {i : Nat} (hlen : c.payload.length = 8)
    (hz : allZero (slice c.payload 1 7) = true) (hcls : getU c.payload 0 1 ≤ 1) (hfree : s.freeSession = some i)
    (hS : getU c.payload 0 1 = 1 → s.mgmt.fieldDebug = false ∧ s.part.lifecycle ∉ [0, 3, 4] ∧ s.boot.mode ≠ 2) :
    bodySesOpen c s = (s.modSes i fun _ => { state := 1, classS := getU c.payload 0 1 == 1, fn := c.fn, lastCause := 0x0201 }).respond
      c { status := 0, session := some i } := by
  unfold bodySesOpen
  rw [State.shape_pos hlen (by simpa using hz)]
  dsimp only
  have hcase : getU c.payload 0 1 = 0 ∨ getU c.payload 0 1 = 1 := by omega
  rw [State.need_pos (by simpa using hcls), hfree]
  dsimp only
  rcases hcase with h0 | h1
  · rw [State.need_pos (by simp [h0]), State.need_pos (by simp [h0])]
  · obtain ⟨hfd, hlife, hmode⟩ := hS h1
    rw [State.need_pos (by simp only [State.lifecycle, hfd]; simpa using Or.inr hlife), State.need_pos (by simp [hmode])]

/-- No free ID: SESSION_LIMIT. -/
theorem bodySesOpen_limit {c : Cmd} {s : State} (hlen : c.payload.length = 8) (hz : allZero (slice c.payload 1 7) = true)
    (hcls : getU c.payload 0 1 ≤ 1) (hfree : s.freeSession = none) : bodySesOpen c s = s.refuse c 0x0306 := by
  unfold bodySesOpen
  rw [State.shape_pos hlen (by simpa using hz)]
  dsimp only
  rw [State.need_pos (by simpa using hcls), hfree]

/-! ## SES_CLOSE and SES_STATUS -/

theorem bodySesClose_closes {c : Cmd} {s : State} (hp : c.payload = []) (hst : (s.ses c.session).state ∈ [1, 2, 5]) :
    bodySesClose c s = (s.accept c).closeSession c.session 0x0207 := by
  unfold bodySesClose
  rw [State.shape_pos (by simp [hp]) (by simp)]
  exact State.need_pos (by simpa using hst) ..

/-- An answer stands through the closing of a session. -/
theorem State.reply?_closeSession {s : State} {fn slot : Nat} {r : Response} (i ca : Nat) (h : s.reply? fn slot = some r) :
    (s.closeSession i ca).reply? fn slot = some r := by
  have hsent : (s.sesTo i 0 ca).reply? fn slot = some r := (State.reply?_mbx (by simp) fn slot).trans h
  refine (State.reply?_mbx ?_ fn slot).trans (State.reply?_dropWaiting i hsent)
  simp only [State.closeSession, State.dropStreams]
  split <;> simp

/-- A ring that is changed in place keeps its key: what a filter that leaves it out gives is the same. -/
theorem State.modRing_rings_filter {p : Ring → Bool} {key : Nat} {f : Ring → Ring} (hf : ∀ r, (f r).key = r.key)
    (hp : ∀ r, r.key = key → p r = false) (s : State) : (s.modRing key f).rings.filter p = s.rings.filter p := by
  simp only [State.modRing, State.modRings_rings]
  induction s.rings with
  | nil => rfl
  | cons r l ih =>
    rw [List.map_cons, List.filter_cons, List.filter_cons, ih]
    by_cases hr : r.key = key
    · rw [if_pos hr, hp r hr, hp (f r) ((hf r).trans hr)]; rfl
    · rw [if_neg hr]

theorem State.ring?_key {s : State} {key : Nat} {r : Ring} (h : s.ring? key = some r) : r.key = key := by
  simpa using List.find?_some h

theorem State.ring?_getD_key (s : State) {key : Nat} {r : Ring} (h : r.key = key) : ((s.ring? key).getD r).key = key := by
  cases hq : s.ring? key with
  | none => exact h
  | some x => exact State.ring?_key hq

theorem State.ringPut_rings_filter {p : Ring → Bool} {key : Nat} {r : Ring} (hr : r.key = key)
    (hp : ∀ r, r.key = key → p r = false) (bs : List Byte) (s : State) :
    (s.ringPut r bs).rings.filter p = s.rings.filter p := by
  subst hr
  refine (State.modRing_rings_filter ?_ hp _).trans (by simp)
  exact fun _ => rfl

/-- The first half of an event's way into its ring: the record of the events lost before it. -/
def State.lostPut (key : Nat) (r : Ring) (s : State) : State :=
  if r.lost > 0 ∧ s.ringRoom r then
    (s.ringPut r (eventEntry 5 (if key = 32 then 0xFF else key / 2) 0xFF s.frameNo s.time.now r.eventSeq (le 4 r.lost))).modRing key
      fun r => { r with eventSeq := (r.eventSeq + 1) % 2 ^ 32, lost := 0 }
  else s

/-- The second half: the event itself, or one more lost. -/
def State.eventPut (key type ses stream : Nat) (payload : List Byte) (r : Ring) (s : State) : State :=
  if s.ringRoom r then
    let now := type == 2 || type == 3
    let s := s.ringPut r (eventEntry type ses stream s.frameNo s.time.now r.eventSeq payload)
    let s := s.modRing key fun x => { x with eventSeq := (x.eventSeq + 1) % 2 ^ 32, written := r.written || !now }
    if now then s.msixRaise r.fn (ringVec key) else s
  else
    let s := s.modRing key fun r => { r with eventSeq := (r.eventSeq + 1) % 2 ^ 32, lost := satU 32 (r.lost + 1) }
    if key = 32 then s else s.bumpSes (key / 2) 15

theorem State.eventTo_of_ring {s : State} {key : Nat} {r : Ring} (h : s.ring? key = some r) (type se st : Nat) (b : List Byte) :
    s.eventTo key type se st b = (s.lostPut key r).eventPut key type se st b (((s.lostPut key r).ring? key).getD r) := by
  unfold State.eventTo
  rw [h]
  rfl

theorem State.lostPut_rings_filter {p : Ring → Bool} {key : Nat} {r : Ring} (hr : r.key = key)
    (hp : ∀ r, r.key = key → p r = false) (s : State) : (s.lostPut key r).rings.filter p = s.rings.filter p := by
  unfold State.lostPut
  split
  · refine (State.modRing_rings_filter ?_ hp _).trans (State.ringPut_rings_filter hr hp ..)
    exact fun _ => rfl
  · rfl

theorem State.eventPut_rings_filter {p : Ring → Bool} {key : Nat} {r : Ring} (hr : r.key = key)
    (hp : ∀ r, r.key = key → p r = false) (type se st : Nat) (b : List Byte) (s : State) :
    (s.eventPut key type se st b r).rings.filter p = s.rings.filter p := by
  unfold State.eventPut
  dsimp only
  split
  · split
    · rw [State.msixRaise_rings]
      refine (State.modRing_rings_filter ?_ hp _).trans (State.ringPut_rings_filter hr hp ..)
      exact fun _ => rfl
    · refine (State.modRing_rings_filter ?_ hp _).trans (State.ringPut_rings_filter hr hp ..)
      exact fun _ => rfl
  · split
    · refine State.modRing_rings_filter ?_ hp s
      exact fun _ => rfl
    · rw [State.bumpSes_rings]
      refine State.modRing_rings_filter ?_ hp s
      exact fun _ => rfl

/-- An event touches one ring. -/
theorem State.eventTo_rings_filter {p : Ring → Bool} {key : Nat} (hp : ∀ r, r.key = key → p r = false)
    (type se st : Nat) (b : List Byte) (s : State) :
    (s.eventTo key type se st b).rings.filter p = s.rings.filter p := by
  cases h : s.ring? key with
  | none => simp [State.eventTo, h]
  | some r =>
    have hr := State.ring?_key h
    rw [State.eventTo_of_ring h, State.eventPut_rings_filter (State.ring?_getD_key _ hr) hp, State.lostPut_rings_filter hr hp]

/-- Closing a session unregisters its two rings and no other. -/
theorem State.closeSession_rings (i ca : Nat) (s : State) :
    (s.closeSession i ca).rings = s.rings.filter fun r => r.key != 2 * i && r.key != 2 * i + 1 := by
  have hdrop : ∀ x : State, ∀ f, (x.dropStreams f).rings = x.rings := by
    intro x f
    unfold State.dropStreams
    split <;> rfl
  simp only [State.closeSession, State.modSes, State.modSessions_rings, State.modRings_rings, hdrop, State.dropWaiting_rings]
  exact State.eventTo_rings_filter (fun r hr => by simp [hr]) _ _ _ _ _

theorem State.closeSession_streams_idle {i ca : Nat} {s : State} (h : s.frame.devState = 0) :
    (s.closeSession i ca).streams = s.streams.filter fun x => x.session != i := by
  simp [State.closeSession, State.modSes, State.dropStreams, h, bne]

/-- A stream of a session that leaves while frames run: it is removed at the next frame open. -/
def Stream.dropped (x : Stream) : Stream :=
  { x with removing := true, active := false, query := none, motion := .standstill, published := none, carried := none }

theorem State.closeSession_streams_running {i ca : Nat} {s : State} (h : s.frame.devState ≠ 0) :
    (s.closeSession i ca).streams = s.streams.map fun x => if x.session == i then x.dropped else x := by
  simp [State.closeSession, State.modSes, State.dropStreams, h, Stream.dropped]

/-- A response leaves the rings' room, the sessions and the frame to what follows it. -/
theorem State.closeSession_otherSessions {s x : State} (hx : x.sessions = s.sessions) (i ca : Nat) :
    s.otherSessions (x.closeSession i ca) i := by
  intro j hj
  have hcore := State.closeSession_core i ca x j
  rw [if_neg (fun h => hj h.1), State.ses_congr hx] at hcore
  exact hcore

/-- The fields of the status record that Table 14.5 gives (R324). -/
theorem State.sesStatus_fields (s : State) (i : Nat) : (s.sesStatus i).length = 32 ∧
    slice (s.sesStatus i) 0 1 = le 1 (s.ses i).state ∧
    slice (s.sesStatus i) 2 1 = le 1 ((s.ses i).world.getD 0xFF) ∧ slice (s.sesStatus i) 3 1 = le 1 ((s.ses i).rig.getD 0xFF) ∧
    slice (s.sesStatus i) 4 1 = le 1 ((s.ses i).net.getD 0xFF) ∧ slice (s.sesStatus i) 5 1 = le 1 ((s.ses i).cost.getD 0xFF) ∧
    slice (s.sesStatus i) 12 2 = le 2 (s.ses i).lastCause := by
  simp [State.sesStatus, slice_append_right, slice_append_left, le_length]

/-! ## SES_BIND and SES_SET -/

@[simp] theorem State.modSessions_nextConf (f : List Session → List Session) (s : State) :
    (s.modSessions f).nextConf = s.nextConf := rfl

/-- A binding that is named is that slot; 0xFF leaves what was bound. -/
theorem bindTo_getD {slots : List SlotState} {v : Nat} {old : Option Nat} (h : bindTo slots v old ≠ none) :
    (bindTo slots v old).getD old = if v = 0xFF then old else some v := by
  unfold bindTo at h ⊢
  generalize (if v = 0xFF then old else some v) = b at h ⊢
  dsimp only at h ⊢
  split
  · rfl
  · next hbad => exact absurd (if_neg hbad) h

/-- No binding of the payload is bad. -/
theorem State.bindTo_of_badBinding {s : State} {x : Session} {p : List Byte} (h : s.badBinding x p = none) :
    bindTo s.images.worldSlots (getU p 0 1) x.world ≠ none ∧ bindTo s.images.rigSlots (getU p 1 1) x.rig ≠ none ∧
      bindTo s.images.netSlots (getU p 2 1) x.net ≠ none ∧ bindTo s.images.costSlots (getU p 3 1) x.cost ≠ none := by
  simp only [State.badBinding] at h
  by_cases hw : bindTo s.images.worldSlots (getU p 0 1) x.world = none
  · simp [hw] at h
  by_cases hr : bindTo s.images.rigSlots (getU p 1 1) x.rig = none
  · simp [hw, hr] at h
  by_cases hn : bindTo s.images.netSlots (getU p 2 1) x.net = none
  · simp [hw, hr, hn] at h
  by_cases hc : bindTo s.images.costSlots (getU p 3 1) x.cost = none
  · simp [hw, hr, hn, hc] at h
  exact ⟨hw, hr, hn, hc⟩

/-- What SES_BIND makes of its session's bindings; its state stays. -/
theorem Session.bind_fields (m : Images) (p : List Byte) (x : Session) :
    (x.bind m p).world = (bindTo m.worldSlots (getU p 0 1) x.world).getD x.world ∧
      (x.bind m p).rig = (bindTo m.rigSlots (getU p 1 1) x.rig).getD x.rig ∧
      (x.bind m p).net = (bindTo m.netSlots (getU p 2 1) x.net).getD x.net ∧
      (x.bind m p).cost = (bindTo m.costSlots (getU p 3 1) x.cost).getD x.cost ∧ (x.bind m p).state = x.state := by
  unfold Session.bind
  dsimp only
  split <;> exact ⟨rfl, rfl, rfl, rfl, rfl⟩

/-- All four are bound. -/
def Session.allBound (x : Session) : Bool := x.world.isSome && x.rig.isSome && x.net.isSome && x.cost.isSome

theorem bodySesBind_binds {c : Cmd} {s : State} (hlen : c.payload.length = 8) (hz : allZero (slice c.payload 4 4) = true)
    (hst : (s.ses c.session).state = 1 ∨ (s.ses c.session).state = 2)
    (hgood : s.badBinding (s.ses c.session) c.payload = none)
    (hdof : s.dofAgrees ((s.ses c.session).bind s.images c.payload) = true)
    (hadm : getU c.payload 2 1 ≠ 0xFF →
      (s.modSes c.session fun _ => (s.ses c.session).bind s.images c.payload).admits s.nextConf c.session = true) :
    bodySesBind c s =
      (if ((s.ses c.session).bind s.images c.payload).state = 1 ∧ ((s.ses c.session).bind s.images c.payload).allBound then
        (s.modSes c.session fun _ => (s.ses c.session).bind s.images c.payload).sesTo c.session 2 0x0202
      else s.modSes c.session fun _ => (s.ses c.session).bind s.images c.payload).accept c := by
  unfold bodySesBind
  dsimp only
  rw [State.shape_pos hlen (by simpa using hz), State.need_pos (by simpa using hst), hgood]
  dsimp only
  rw [State.need_pos hdof, State.need_pos]
  · rfl
  · by_cases hn : getU c.payload 2 1 = 0xFF
    · simp [hn]
    · simpa [hn] using hadm hn

theorem bodySesSet_sets {c : Cmd} {s : State} {es : List (Nat × List Byte)} (hst : (s.ses c.session).state ∈ [1, 2, 3, 4])
    (hes : settingEntries (c.payload.length + 1) c.payload = some es)
    (hgood : ∀ e ∈ es, s.settingBad (s.ses c.session) e = none)
    (hadm : (es.foldl Settings.put (s.ses c.session).next).prerankK ≠ (s.ses c.session).next.prerankK ∨
        (es.foldl Settings.put (s.ses c.session).next).repairBlocks ≠ (s.ses c.session).next.repairBlocks →
      (s.modSes c.session fun y => { y with
        pendingSet := some (es.foldl Settings.put (s.ses c.session).next) }).admits s.nextConf c.session = true) :
    bodySesSet c s = ((s.modSes c.session fun y => { y with
      pendingSet := some (es.foldl Settings.put (s.ses c.session).next) }).settleIdle (State.settleSession c.session)).accept c := by
  have hfine : ((List.range es.length).findSome? fun k =>
      (s.settingBad (s.ses c.session) (es.getD k (0, []))).map fun st => (st, k)) = none := by
    refine List.findSome?_eq_none_iff.mpr fun k hk => ?_
    have hk' : k < es.length := List.mem_range.mp hk
    rw [List.getD_eq_getElem _ _ hk', hgood _ (List.getElem_mem hk')]
    rfl
  unfold bodySesSet
  dsimp only
  rw [State.need_pos (by simp at hst; simp [inR]; omega), hes]
  dsimp only
  rw [hfine]
  dsimp only
  rw [State.need_pos]
  by_cases h1 : (es.foldl Settings.put (s.ses c.session).next).prerankK = (s.ses c.session).next.prerankK
  · by_cases h2 : (es.foldl Settings.put (s.ses c.session).next).repairBlocks = (s.ses c.session).next.repairBlocks
    · simp [h1, h2]
    · simpa [h1, h2] using hadm (.inr h2)
  · simpa [h1] using hadm (.inl h1)

/-- The admission rule does not read what a row's taking of its command changes. -/
theorem State.taken_admits (s : State) (t : Nat) (c : Cmd) (f : List Session → List Session) (conf : FrameConf) (i : Nat) :
    ((s.taken t c).modSessions f).admits conf i = (s.modSessions f).admits conf i :=
  State.admits_congr (by simp) (by simp) (by simp) (by simp) conf i

@[simp] theorem State.taken_nextConf (s : State) (t : Nat) (c : Cmd) : (s.taken t c).nextConf = s.nextConf := by
  simp [State.nextConf]

@[simp] theorem State.taken_sesStatus (s : State) (t : Nat) (c : Cmd) (i : Nat) : (s.taken t c).sesStatus i = s.sesStatus i := by
  simp [State.sesStatus]

@[simp] theorem State.taken_badBinding (s : State) (t : Nat) (c : Cmd) (x : Session) (p : List Byte) :
    (s.taken t c).badBinding x p = s.badBinding x p := by
  simp [State.badBinding]

@[simp] theorem State.taken_dofAgrees (s : State) (t : Nat) (c : Cmd) (x : Session) :
    (s.taken t c).dofAgrees x = s.dofAgrees x := by
  simp [State.dofAgrees]

@[simp] theorem State.taken_settingBad (s : State) (t : Nat) (c : Cmd) (x : Session) (e : Nat × List Byte) :
    (s.taken t c).settingBad x e = s.settingBad x e := State.settingBad_congr (by simp) (by simp) x e

/-! A session command touches its session, the events and its own answer. -/

theorem State.onlyEvents_taken_sessions (s : State) (t : Nat) (c : Cmd) (l : List Session) :
    s.onlyEvents { s.taken t c with sessions := l, pending := s.pending } := by
  unfold State.onlyEvents
  apply State.ext_parts <;> simp

theorem State.onlyEvents_taken_sesTo (s : State) (t : Nat) (c : Cmd) (l : List Session) (i st ca : Nat) :
    s.onlyEvents { State.sesTo i st ca { s.taken t c with sessions := l } with pending := s.pending } := by
  unfold State.onlyEvents
  apply State.ext_parts <;> simp

theorem State.onlyEvents_taken_settle (s : State) (t : Nat) (c : Cmd) (l : List Session) (i : Nat) :
    s.onlyEvents { State.settleIdle { s.taken t c with sessions := l } (State.settleSession i) with pending := s.pending } := by
  unfold State.onlyEvents State.settleIdle
  split <;> apply State.ext_parts <;> simp

/-- The session that a binding leaves: CONFIGURED once all four are bound. -/
def Session.boundState (x : Session) : Session :=
  if x.state = 1 ∧ x.allBound then { x with state := 2, lastCause := 0x0202, starting := false, stopping := false } else x

theorem Session.boundState_fields (x : Session) : x.boundState.world = x.world ∧ x.boundState.rig = x.rig ∧
    x.boundState.net = x.net ∧ x.boundState.cost = x.cost := by
  unfold Session.boundState
  split <;> exact ⟨rfl, rfl, rfl, rfl⟩

theorem Session.boundState_state {x : Session} (h : x.state = 1 ∨ x.state = 2) : x.boundState.state =
    if x.world.isSome ∧ x.rig.isSome ∧ x.net.isSome ∧ x.cost.isSome then 2 else x.state := by
  unfold Session.boundState Session.allBound
  rcases h with h | h
  · simp only [h, true_and, Bool.and_eq_true, and_assoc]
    split
    · rfl
    · exact h
  · simp [h]

theorem State.modSes_core (s : State) (i : Nat) (f : Session → Session) (h : i < s.sessions.length) (j : Nat) :
    ((s.modSes i f).ses j).core = if j = i then (f (s.ses i)).core else (s.ses j).core := by
  rw [State.ses_modSes s i f h]
  split <;> rfl

/-- What SES_BIND does to the sessions. -/
theorem State.bound_core {s : State} {i : Nat} (h : i < s.sessions.length) (x : Session) (j : Nat) :
    ((if x.state = 1 ∧ x.allBound then (s.modSes i fun _ => x).sesTo i 2 0x0202 else s.modSes i fun _ => x).ses j).core =
      if j = i then x.boundState.core else (s.ses j).core := by
  unfold Session.boundState
  split
  · rw [State.sesTo_core, State.modSes_core s i _ h, State.ses_modSes s i _ h]
    by_cases hj : j = i
    · simp [hj, h]
    · simp [hj]
  · exact State.modSes_core s i _ h j

/-- A state whose cores are known for session `i` and stay for the others. -/
theorem State.otherSessions_of_core {s x : State} {i : Nat} {y : Session}
    (h : ∀ j, (x.ses j).core = if j = i then y.core else (s.ses j).core) : s.otherSessions x i := by
  intro j hj
  have hj' := h j
  rw [if_neg hj] at hj'
  exact hj'

theorem State.fields_of_core {s x : State} {i : Nat} {y : Session}
    (h : ∀ j, (x.ses j).core = if j = i then y.core else (s.ses j).core) : (x.ses i).core = y.core := by
  rw [h i, if_pos rfl]

/-- Settling a session at once puts its settings in force. -/
theorem Session.settled_fields (usable : Bool) (x : Session) : (x.settled usable).settings = x.next ∧
    (x.settled usable).pendingSet = none := by
  unfold Session.settled
  dsimp only
  split <;> exact ⟨rfl, rfl⟩

theorem State.settleIdle_core {s : State} {i : Nat} (h : i < s.sessions.length) (j : Nat) :
    ((s.settleIdle (State.settleSession i)).ses j).core = if j = i then
      (if s.frame.devState = 0 then (s.ses i).settled (s.imagesUsable (s.ses i)) else s.ses i).core else (s.ses j).core := by
  unfold State.settleIdle
  split
  · exact State.settleSession_core i s h j
  · split
    · next hj => rw [hj]
    · rfl

/-- What a change of one session, settled at once in IDLE, does to the sessions. -/
theorem State.modSes_settleIdle_core {s : State} {i : Nat} (h : i < s.sessions.length) (f : Session → Session) (j : Nat) :
    (((s.modSes i f).settleIdle (State.settleSession i)).ses j).core = if j = i then
      (if s.frame.devState = 0 then (f (s.ses i)).settled (s.imagesUsable (f (s.ses i))) else f (s.ses i)).core
      else (s.ses j).core := by
  have hi : (s.modSes i f).ses i = f (s.ses i) := by rw [State.ses_modSes s i f h, if_pos rfl]
  rw [State.settleIdle_core (by simpa using h), hi]
  split
  · rfl
  · next hj => rw [State.ses_modSes s i f h, if_neg hj]

/-- The state that SES_CLOSE leaves. -/
def State.sesClosed (s : State) (t : Nat) (c : Cmd) : State := ((s.taken t c).accept c).closeSession c.session 0x0207

theorem State.sesClosed_session {s : State} {t : Nat} {c : Cmd} (hi : c.session < s.sessions.length) :
    ((s.sesClosed t c).ses c.session).state = 0 ∧ ((s.sesClosed t c).ses c.session).closing = (s.frame.devState != 0) := by
  have hcore := State.closeSession_core c.session 0x0207 ((s.taken t c).accept c) c.session
  rw [if_pos ⟨rfl, by simpa using hi⟩] at hcore
  obtain ⟨hstate, -, -, -, -, -, -, -, -, -, -, -, hclosing, -⟩ := Session.core_fields hcore
  exact ⟨hstate, hclosing.trans (by simp)⟩

theorem State.sesClosed_rings (s : State) (t : Nat) (c : Cmd) : (s.sesClosed t c).rings =
    s.rings.filter fun r => r.key != 2 * c.session && r.key != 2 * c.session + 1 :=
  (State.closeSession_rings ..).trans (by simp)

theorem State.sesClosed_streams_idle {s : State} (t : Nat) (c : Cmd) (h : s.frame.devState = 0) :
    (s.sesClosed t c).streams = s.streams.filter fun x => x.session != c.session :=
  (State.closeSession_streams_idle (by simpa using h)).trans (by simp)

theorem State.sesClosed_streams_running {s : State} (t : Nat) (c : Cmd) (h : s.frame.devState ≠ 0) :
    (s.sesClosed t c).streams.map (·.id) = s.streams.map (·.id) ∧
      ∀ y ∈ (s.sesClosed t c).streams, y.session = c.session → y.removing = true := by
  have hstreams : (s.sesClosed t c).streams = s.streams.map fun x => if x.session == c.session then x.dropped else x :=
    (State.closeSession_streams_running (by simpa using h)).trans (by simp)
  rw [hstreams, List.map_map]
  refine ⟨List.map_congr_left fun x _ => ?_, fun y hy => ?_⟩
  · simp only [Function.comp_apply]
    split <;> rfl
  · obtain ⟨x, -, rfl⟩ := List.mem_map.mp hy
    split
    · exact fun _ => rfl
    · next hne => exact fun h => absurd (by simpa using h) hne

/-- The state that SES_BIND leaves, but for its answer. -/
def State.sesBound (s : State) (t : Nat) (c : Cmd) : State :=
  if ((s.ses c.session).bind s.images c.payload).state = 1 ∧ ((s.ses c.session).bind s.images c.payload).allBound then
    ((s.taken t c).modSes c.session fun _ => (s.ses c.session).bind s.images c.payload).sesTo c.session 2 0x0202
  else (s.taken t c).modSes c.session fun _ => (s.ses c.session).bind s.images c.payload

theorem State.sesBound_fields {s : State} {t : Nat} {c : Cmd} (hi : c.session < s.sessions.length)
    (hst : (s.ses c.session).state = 1 ∨ (s.ses c.session).state = 2)
    (hgood : s.badBinding (s.ses c.session) c.payload = none) :
    ((s.sesBound t c).ses c.session).world =
        (if getU c.payload 0 1 = 0xFF then (s.ses c.session).world else some (getU c.payload 0 1)) ∧
      ((s.sesBound t c).ses c.session).rig =
        (if getU c.payload 1 1 = 0xFF then (s.ses c.session).rig else some (getU c.payload 1 1)) ∧
      ((s.sesBound t c).ses c.session).net =
        (if getU c.payload 2 1 = 0xFF then (s.ses c.session).net else some (getU c.payload 2 1)) ∧
      ((s.sesBound t c).ses c.session).cost =
        (if getU c.payload 3 1 = 0xFF then (s.ses c.session).cost else some (getU c.payload 3 1)) ∧
      ((s.sesBound t c).ses c.session).state =
        (if ((s.sesBound t c).ses c.session).world.isSome ∧ ((s.sesBound t c).ses c.session).rig.isSome ∧
          ((s.sesBound t c).ses c.session).net.isSome ∧ ((s.sesBound t c).ses c.session).cost.isSome then 2
        else (s.ses c.session).state) ∧ s.otherSessions (s.sesBound t c) c.session := by
  have hcore : ∀ j, ((s.sesBound t c).ses j).core = if j = c.session then
      (((s.ses c.session).bind s.images c.payload).boundState).core else (s.ses j).core := by
    intro j
    exact (State.bound_core (by simpa using hi) _ j).trans (by rw [State.taken_ses])
  obtain ⟨hw, hr, hn, hc⟩ := State.bindTo_of_badBinding hgood
  obtain ⟨fw, fr, fn, fc, fst⟩ := Session.bind_fields s.images c.payload (s.ses c.session)
  obtain ⟨bw, br, bn, bc⟩ := Session.boundState_fields ((s.ses c.session).bind s.images c.payload)
  obtain ⟨cst, -, -, cw, cr, cn, cc, -⟩ := Session.core_fields (State.fields_of_core hcore)
  have hbound := cst.trans (Session.boundState_state (fst.symm ▸ hst))
  rw [← bw, ← br, ← bn, ← bc, ← cw, ← cr, ← cn, ← cc, fst] at hbound
  exact ⟨cw.trans (bw.trans (fw.trans (bindTo_getD hw))), cr.trans (br.trans (fr.trans (bindTo_getD hr))),
    cn.trans (bn.trans (fn.trans (bindTo_getD hn))), cc.trans (bc.trans (fc.trans (bindTo_getD hc))), hbound,
    State.otherSessions_of_core hcore⟩

theorem State.sesBound_mbx (s : State) (t : Nat) (c : Cmd) : (s.sesBound t c).mbx = s.mbx := by
  unfold State.sesBound
  split <;> simp

theorem State.sesBound_onlyEvents (s : State) (t : Nat) (c : Cmd) :
    s.onlyEvents { s.sesBound t c with pending := s.pending } := by
  unfold State.sesBound
  split
  · exact State.onlyEvents_taken_sesTo ..
  · exact State.onlyEvents_taken_sessions s t c s.sessions

/-- The state that SES_SET leaves, but for its answer. -/
def State.sesSettled (s : State) (t : Nat) (c : Cmd) (n : Settings) : State :=
  ((s.taken t c).modSes c.session fun y => { y with pendingSet := some n }).settleIdle (State.settleSession c.session)

theorem State.sesSettled_fields {s : State} {t : Nat} {c : Cmd} (hi : c.session < s.sessions.length) (n : Settings) :
    (s.frame.devState = 0 → ((s.sesSettled t c n).ses c.session).settings = n ∧
      ((s.sesSettled t c n).ses c.session).pendingSet = none) ∧
    (s.frame.devState ≠ 0 → ((s.sesSettled t c n).ses c.session).settings = (s.ses c.session).settings ∧
      ((s.sesSettled t c n).ses c.session).pendingSet = some n) ∧ s.otherSessions (s.sesSettled t c n) c.session := by
  have hcore := State.modSes_settleIdle_core (s := s.taken t c) (i := c.session) (by simpa using hi) fun y =>
    { y with pendingSet := some n }
  simp only [State.taken_ses, State.taken_frame] at hcore
  obtain ⟨-, -, -, -, -, -, -, hset, hpend, -⟩ := Session.core_fields (State.fields_of_core hcore)
  refine ⟨fun hidle => ?_, fun hrun => ?_, State.otherSessions_of_core hcore⟩
  · rw [if_pos hidle] at hset hpend
    exact ⟨hset.trans (Session.settled_fields ..).1, hpend.trans (Session.settled_fields ..).2⟩
  · rw [if_neg hrun] at hset hpend
    exact ⟨hset, hpend⟩

theorem sesOpen_answers {s : State} {fn slot t : Nat} {c : Cmd} (hslot : isSlot fn slot) (hlen16 : s.sessions.length = 16) :
    ∀ i < 16, s.isReady 0x0201 fn slot c → c.payload.length = 8 → allZero (slice c.payload 1 7) = true →
      getU c.payload 0 1 ≤ 1 → (s.ses i).state = 0 → (s.ses i).closing = false →
      (∀ j < i, (s.ses j).state ≠ 0 ∨ (s.ses j).closing = true) →
      (getU c.payload 0 1 = 1 → s.mgmt.fieldDebug = false ∧ s.part.lifecycle ∉ [0, 3, 4] ∧ s.boot.mode ≠ 2) →
      ∃ s', exec (.sesOpen fn slot t) s = .next s' ∧
        s'.reply? fn slot = some { status := 0, session := some i } ∧
        s'.ses i = { state := 1, classS := getU c.payload 0 1 == 1, fn := fn, lastCause := 0x0201 } ∧
        (∀ j ≠ i, s'.ses j = s.ses j) ∧ s.onlyEvents s' ∧ s'.rings = s.rings ∧ s'.host = s.host := by
  intro i hi hready hlen hz hcls hst hcl hlow hS
  refine ⟨_, (exec_sesOpen fn slot t s).trans (execTaken hslot hready t _), ?_⟩
  rw [bodySesOpen_opens hlen hz hcls ((State.freeSession_congr (by simp)).trans (State.freeSession_of_lowest hi hst hcl hlow))
    (by simpa using hS)]
  have hses := State.ses_modSes (s.taken t c) i (fun _ => { state := 1, classS := getU c.payload 0 1 == 1, fn := c.fn, lastCause := 0x0201 })
    (by simpa [hlen16] using hi)
  obtain ⟨hfn, -⟩ := State.cmd?_slot hready.1
  refine ⟨State.reply?_respond _ ((State.cmd?_mbx (by simp) fn slot).trans hready.1) (State.cmd?_slot hready.1)
    hready.arrived.2.2.2.1, ?_, fun j hj => ?_, State.onlyEvents_taken_sessions s t c s.sessions, ?_, ?_⟩
  · exact (hses i).trans (by simp [hfn])
  · exact (hses j).trans (by simp [hj])
  · exact State.taken_rings ..
  · exact State.taken_host ..

theorem sesOpen_limits {s : State} {fn slot t : Nat} {c : Cmd} (hslot : isSlot fn slot) :
    s.isReady 0x0201 fn slot c → c.payload.length = 8 → allZero (slice c.payload 1 7) = true →
      getU c.payload 0 1 ≤ 1 → (∀ j < 16, (s.ses j).state ≠ 0 ∨ (s.ses j).closing = true) →
      ∃ s', exec (.sesOpen fn slot t) s = .next s' ∧ s'.reply? fn slot = some (refusal 0x0306) ∧ s.onlyAnswered s' := by
  intro hready hlen hz hcls hfull
  refine ⟨_, (exec_sesOpen fn slot t s).trans (execTaken hslot hready t _), ?_⟩
  rw [bodySesOpen_limit hlen hz hcls ((State.freeSession_congr (by simp)).trans (State.freeSession_none hfull))]
  exact ⟨State.refused hready (by simp) _ _ _, State.onlyAnswered_refuse ..⟩

theorem sesClose_answers {s : State} {fn slot t : Nat} {c : Cmd} (hslot : isSlot fn slot) (hlen16 : s.sessions.length = 16) :
    s.isReady 0x0207 fn slot c → c.payload = [] → c.session < 16 → (s.ses c.session).state ∈ [1, 2, 5] →
      ∃ s', exec (.sesClose fn slot t) s = .next s' ∧ s'.reply? fn slot = some (okReply []) ∧
        (s'.ses c.session).state = 0 ∧ (s'.ses c.session).closing = (s.frame.devState != 0) ∧
        (∀ r ∈ s'.rings, r.key ≠ 2 * c.session ∧ r.key ≠ 2 * c.session + 1) ∧
        s'.rings = s.rings.filter (fun r => r.key != 2 * c.session && r.key != 2 * c.session + 1) ∧
        (s.frame.devState = 0 → s'.streams = s.streams.filter fun x => x.session != c.session) ∧
        (s.frame.devState ≠ 0 → s'.streams.map (·.id) = s.streams.map (·.id) ∧
          ∀ y ∈ s'.streams, y.session = c.session → y.removing = true) ∧
        s.otherSessions s' c.session ∧ s'.images = s.images ∧ s'.worlds = s.worlds ∧ s'.frame = s.frame ∧
        s'.safety = s.safety ∧ s'.hbm = s.hbm ∧ s'.farming = s.farming := by
  intro hready hp hi hst
  refine ⟨_, (exec_sesClose fn slot t s).trans (execTaken hslot hready t _), ?_⟩
  rw [bodySesClose_closes hp (by simpa using hst)]
  obtain ⟨hstate, hclosing⟩ := State.sesClosed_session (s := s) (t := t) (c := c) (by omega)
  have hrings := s.sesClosed_rings t c
  exact ⟨State.reply?_closeSession _ _ (State.answered hready (by simp) _ s.pending), hstate, hclosing,
    fun r hr => by
      have hr' := (List.mem_filter.mp (hrings ▸ hr)).2
      rwa [Bool.and_eq_true, bne_iff_ne, bne_iff_ne] at hr', hrings,
    s.sesClosed_streams_idle t c, s.sesClosed_streams_running t c, State.closeSession_otherSessions (by simp) _ _, by simp, by simp, by simp, by simp, by simp, by simp⟩

theorem sesStatus_answers {s : State} {fn slot t : Nat} {c : Cmd} (hslot : isSlot fn slot) :
    s.isReady 0x0208 fn slot c → c.payload = [] → ∃ s' p, exec (.sesStatus fn slot t) s = .next s' ∧
      s'.reply? fn slot = some (okReply p) ∧ p.length = 32 ∧ slice p 0 1 = le 1 (s.ses c.session).state ∧
      slice p 2 1 = le 1 ((s.ses c.session).world.getD 0xFF) ∧ slice p 3 1 = le 1 ((s.ses c.session).rig.getD 0xFF) ∧
      slice p 4 1 = le 1 ((s.ses c.session).net.getD 0xFF) ∧ slice p 5 1 = le 1 ((s.ses c.session).cost.getD 0xFF) ∧
      slice p 12 2 = le 2 (s.ses c.session).lastCause ∧ s.onlyAnswered s' := by
  intro hready hp
  refine ⟨_, s.sesStatus c.session, (exec_sesStatus fn slot t s).trans (execTaken hslot hready t _), ?_⟩
  have hbody : bodySesStatus c (s.taken t c) = (s.taken t c).accept c (s.sesStatus c.session) := by
    unfold bodySesStatus
    rw [State.shape_pos (by simp [hp]) (by simp), State.taken_sesStatus]
  rw [hbody]
  obtain ⟨hlen, hst, hw, hr, hn, hc, hcause⟩ := s.sesStatus_fields c.session
  exact ⟨State.answered hready (by simp) _ _, hlen, hst, hw, hr, hn, hc, hcause, State.onlyAnswered_accept ..⟩

theorem sesBind_answers {s : State} {fn slot t : Nat} {c : Cmd} (hslot : isSlot fn slot) (hi : c.session < s.sessions.length) :
    s.isReady 0x0202 fn slot c → c.payload.length = 8 → allZero (slice c.payload 4 4) = true →
      (s.ses c.session).state = 1 ∨ (s.ses c.session).state = 2 → s.badBinding (s.ses c.session) c.payload = none →
      s.dofAgrees ((s.ses c.session).bind s.images c.payload) = true →
      (getU c.payload 2 1 ≠ 0xFF →
        (s.modSes c.session fun _ => (s.ses c.session).bind s.images c.payload).admits s.nextConf c.session = true) →
      ∃ s', exec (.sesBind fn slot t) s = .next s' ∧ s'.reply? fn slot = some (okReply []) ∧
        (s'.ses c.session).world =
          (if getU c.payload 0 1 = 0xFF then (s.ses c.session).world else some (getU c.payload 0 1)) ∧
        (s'.ses c.session).rig = (if getU c.payload 1 1 = 0xFF then (s.ses c.session).rig else some (getU c.payload 1 1)) ∧
        (s'.ses c.session).net = (if getU c.payload 2 1 = 0xFF then (s.ses c.session).net else some (getU c.payload 2 1)) ∧
        (s'.ses c.session).cost =
          (if getU c.payload 3 1 = 0xFF then (s.ses c.session).cost else some (getU c.payload 3 1)) ∧
        (s'.ses c.session).state = (if (s'.ses c.session).world.isSome ∧ (s'.ses c.session).rig.isSome ∧
          (s'.ses c.session).net.isSome ∧ (s'.ses c.session).cost.isSome then 2 else (s.ses c.session).state) ∧
        s.otherSessions s' c.session ∧ s.onlyEvents s' := by
  intro hready hlen hz hst hgood hdof hadm
  refine ⟨_, (exec_sesBind fn slot t s).trans (execTaken hslot hready t _), ?_⟩
  have hbody : bodySesBind c (s.taken t c) = (s.sesBound t c).accept c := by
    rw [bodySesBind_binds hlen hz (by simpa using hst) (by simpa using hgood) (by simpa using hdof)
      (fun hn => by simpa using (State.taken_admits ..).trans (hadm hn)), State.taken_ses, State.taken_images]
    rfl
  obtain ⟨hw, hr, hn, hc, hstate, hother⟩ := State.sesBound_fields (s := s) (t := t) hi hst hgood
  rw [hbody]
  exact ⟨State.answered hready (s.sesBound_mbx t c) _ _, hw, hr, hn, hc, hstate, hother, s.sesBound_onlyEvents t c⟩

theorem sesSet_answers {s : State} {fn slot t : Nat} {c : Cmd} (hslot : isSlot fn slot) (hi : c.session < s.sessions.length) :
    ∀ es, s.isReady 0x0203 fn slot c → (s.ses c.session).state ∈ [1, 2, 3, 4] →
      settingEntries (c.payload.length + 1) c.payload = some es →
      (∀ e ∈ es, s.settingBad (s.ses c.session) e = none) →
      ((es.foldl Settings.put (s.ses c.session).next).prerankK ≠ (s.ses c.session).next.prerankK ∨
        (es.foldl Settings.put (s.ses c.session).next).repairBlocks ≠ (s.ses c.session).next.repairBlocks →
        (s.modSes c.session fun y => { y with
          pendingSet := some (es.foldl Settings.put (s.ses c.session).next) }).admits s.nextConf c.session = true) →
      ∃ s', exec (.sesSet fn slot t) s = .next s' ∧ s'.reply? fn slot = some (okReply []) ∧
        (s.frame.devState = 0 →
          (s'.ses c.session).settings = es.foldl Settings.put (s.ses c.session).next ∧
          (s'.ses c.session).pendingSet = none) ∧
        (s.frame.devState ≠ 0 → (s'.ses c.session).settings = (s.ses c.session).settings ∧
          (s'.ses c.session).pendingSet = some (es.foldl Settings.put (s.ses c.session).next)) ∧
        s.otherSessions s' c.session ∧ s.onlyEvents s' := by
  intro es hready hst hes hgood hadm
  refine ⟨_, (exec_sesSet fn slot t s).trans (execTaken hslot hready t _), ?_⟩
  have hbody : bodySesSet c (s.taken t c) = (s.sesSettled t c (es.foldl Settings.put (s.ses c.session).next)).accept c := by
    rw [bodySesSet_sets (by simpa using hst) hes (by simpa using hgood)
      (fun hn => by simpa using (State.taken_admits ..).trans (hadm (by simpa using hn))), State.taken_ses]
    rfl
  obtain ⟨hidle, hrun, hother⟩ := State.sesSettled_fields (s := s) (t := t) hi (es.foldl Settings.put (s.ses c.session).next)
  rw [hbody]
  exact ⟨State.answered hready (by simp [State.sesSettled, State.settleIdle, apply_ite]) _ _, hidle, hrun, hother,
    State.onlyEvents_taken_settle ..⟩

/-- Settles O14. -/
theorem sessionOpenBindSet : Obligations.SessionOpenBindSet :=
  ⟨fun _ _ _ _ _ hslot hlen => ⟨sesOpen_answers hslot hlen, sesOpen_limits hslot, sesClose_answers hslot hlen, sesStatus_answers hslot⟩,
    fun _ _ _ _ _ hslot hi => ⟨sesBind_answers hslot hi, sesSet_answers hslot hi⟩⟩

end Sys2Proof.Machine
end

section
/-!
SUPPORT. SES_START, SES_STOP and SES_RECOVER of class N, and the obligation on them.
-/
namespace Sys2Proof.Machine

/-- The state that SES_START leaves, but for its answer. -/
def State.sesStarted (s : State) (t : Nat) (c : Cmd) : State :=
  ((s.taken t c).modSes c.session fun y => { y with starting := true }).settleIdle (State.settleSession c.session)

/-- A session starts when it is settled and its images are usable. -/
theorem Session.settled_starts {x : Session} (hst : x.state = 2) (hstart : x.starting = true) :
    (x.settled true).state = 3 ∧ (x.settled true).lastCause = 0x0204 := by
  simp [Session.settled, hst, hstart]

/-- While an image is not usable it goes on waiting. -/
theorem Session.settled_waits {x : Session} : (x.settled false).state = x.state ∧ (x.settled false).starting = x.starting := by
  simp [Session.settled]

theorem State.sesStarted_fields {s : State} {t : Nat} {c : Cmd} (hi : c.session < s.sessions.length)
    (hst : (s.ses c.session).state = 2) :
    (s.frame.devState = 0 → s.imagesUsable (s.ses c.session) = true → ((s.sesStarted t c).ses c.session).state = 3 ∧
      ((s.sesStarted t c).ses c.session).lastCause = 0x0204) ∧
    (s.frame.devState ≠ 0 ∨ s.imagesUsable (s.ses c.session) = false → ((s.sesStarted t c).ses c.session).state = 2 ∧
      ((s.sesStarted t c).ses c.session).starting = true) ∧ s.otherSessions (s.sesStarted t c) c.session := by
  have hcore := State.modSes_settleIdle_core (s := s.taken t c) (i := c.session) (by simpa using hi) fun y =>
    { y with starting := true }
  have husable : (s.taken t c).imagesUsable { s.ses c.session with starting := true } = s.imagesUsable (s.ses c.session) := by
    simp [State.imagesUsable]
  simp only [State.taken_ses, State.taken_frame, husable] at hcore
  obtain ⟨cst, -, -, -, -, -, -, -, -, ccause, -, cstart, -⟩ := Session.core_fields (State.fields_of_core hcore)
  refine ⟨fun hidle hu => ?_, fun hwait => ?_, State.otherSessions_of_core hcore⟩
  · rw [if_pos hidle, hu] at cst ccause
    have hstart := Session.settled_starts (x := { s.ses c.session with starting := true }) hst rfl
    exact ⟨cst.trans hstart.1, ccause.trans hstart.2⟩
  · by_cases hidle : s.frame.devState = 0
    · rw [if_pos hidle, hwait.resolve_left (not_not_intro hidle)] at cst cstart
      exact ⟨cst.trans (Session.settled_waits.1.trans hst), cstart.trans Session.settled_waits.2⟩
    · rw [if_neg hidle] at cst cstart
      exact ⟨cst.trans hst, cstart⟩

/-- What SES_START checks of a class-S session (R396, R413, R325). -/
def State.mayStartClassS (s : State) (i : Nat) : Prop :=
  (s.ses i).classS = true → (∀ b ∈ s.obs.breaks, ∀ x, b = some x → x.armed = false) ∧
    s.nextConf.period ≤ 5000 ∧ ∀ p, s.safety.profile = some p → s.conforms i p = true

/-- No breakpoint is armed. -/
theorem noneArmed_iff (l : List (Option Breakpoint)) : (l.any fun b => (b.map (·.armed)).getD false) = false ↔
    ∀ b ∈ l, ∀ x, b = some x → x.armed = false := by
  rw [List.any_eq_false]
  refine forall₂_congr fun b _ => ?_
  cases b <;> simp

theorem bodySesStart_starts {c : Cmd} {s : State} (hp : c.payload = []) (hst : (s.ses c.session).state = 2)
    (hset : (s.ses c.session).unset = 0) (hS : s.mayStartClassS c.session) (hhome : s.homeWindowOk (s.ses c.session) = true)
    (hadm : (s.modSes c.session fun y => { y with starting := true }).admits s.nextConf c.session = true) :
    bodySesStart c s = ((s.modSes c.session fun y => { y with starting := true }).settleIdle
      (State.settleSession c.session)).accept c := by
  unfold bodySesStart
  dsimp only
  rw [State.shape_pos (by simp [hp]) (by simp), State.need_pos (by simpa using hst), State.need_pos (by simpa using hset)]
  by_cases hclass : (s.ses c.session).classS = true
  · obtain ⟨harmed, hperiod, hprofile⟩ := hS hclass
    rw [State.need_pos (by rw [(noneArmed_iff _).mpr harmed]; simp), State.need_pos]
    have hconf : (s.safety.profile.map (s.conforms c.session)).getD true = true := by
      cases hq : s.safety.profile with
      | none => rfl
      | some p => exact hprofile p hq
    simpa [hhome, hperiod, hconf] using hadm
  · rw [State.need_pos (by simp [hclass]), State.need_pos]
    simpa [hhome, hclass] using hadm

/-- A RUNNING session of a running grid stops at the guard start. -/
theorem bodySesStop_waits {c : Cmd} {s : State} (hp : c.payload = []) (hst : (s.ses c.session).state = 3)
    (hgrid : s.gridRuns = true) :
    bodySesStop c s = (s.modSes c.session fun x => { x with stopping := true }).wait c := by
  unfold bodySesStop
  dsimp only
  rw [State.shape_pos (by simp [hp]) (by simp), State.need_pos (by simp [Session.live, hst]), if_pos ⟨hst, hgrid⟩]

/-- A PAUSED session stops at once, and so does a RUNNING one without a grid. -/
theorem bodySesStop_stops {c : Cmd} {s : State} (hp : c.payload = [])
    (hst : (s.ses c.session).state = 4 ∨ (s.ses c.session).state = 3 ∧ s.gridRuns = false) :
    bodySesStop c s = (s.sesTo c.session 2 0x0205).accept c := by
  unfold bodySesStop
  dsimp only
  rw [State.shape_pos (by simp [hp]) (by simp), State.need_pos (by rcases hst with h | h <;> simp [Session.live, h]), if_neg]
  rintro ⟨h3, hgrid⟩
  rcases hst with h | ⟨-, h⟩
  · omega
  · simp [h] at hgrid

/-- A FAULTED class-N session is CONFIGURED again, whatever the latch holds. -/
theorem bodySesRecover_classN {c : Cmd} {s : State} (hp : c.payload = []) (hs : (s.ses c.session).classS = false)
    (hst : (s.ses c.session).state = 5) : bodySesRecover c s = (s.sesTo c.session 2 0x0206).accept c := by
  unfold bodySesRecover
  rw [State.shape_pos (by simp [hp]) (by simp)]
  dsimp only
  rw [State.need_pos (by simp [hs, hst]), if_neg (by simp [hs])]

/-- A transition of one session, after a row has taken its command. -/
theorem State.sesTo_taken_fields {s : State} {c : Cmd} (t st ca : Nat) (hi : c.session < s.sessions.length) :
    (((s.taken t c).sesTo c.session st ca).ses c.session).state = st ∧
      (((s.taken t c).sesTo c.session st ca).ses c.session).lastCause = ca ∧
      s.otherSessions ((s.taken t c).sesTo c.session st ca) c.session := by
  have hcore : ∀ j, (((s.taken t c).sesTo c.session st ca).ses j).core = if j = c.session then
      Session.core { s.ses c.session with state := st, lastCause := ca, starting := false, stopping := false }
      else (s.ses j).core := by
    intro j
    rw [State.sesTo_core, State.taken_ses, State.taken_ses]
    simp [hi]
  obtain ⟨hst, -, -, -, -, -, -, -, -, hca, -⟩ := Session.core_fields (State.fields_of_core hcore)
  exact ⟨hst, hca, State.otherSessions_of_core hcore⟩

section
variable {s : State} {fn slot t : Nat} {c : Cmd} (hslot : isSlot fn slot) (hi : c.session < s.sessions.length)
  (hp : c.payload = [])
include hslot hi hp

theorem sesStart_answers (hready : s.isReady 0x0204 fn slot c) (hst : (s.ses c.session).state = 2)
    (hset : (s.ses c.session).unset = 0) (hS : s.mayStartClassS c.session) (hhome : s.homeWindowOk (s.ses c.session) = true)
    (hadm : (s.modSes c.session fun y => { y with starting := true }).admits s.nextConf c.session = true) :
    ∃ s', exec (.sesStart fn slot t) s = .next s' ∧ s'.reply? fn slot = some (okReply []) ∧
      (s.frame.devState = 0 → s.imagesUsable (s.ses c.session) = true →
        (s'.ses c.session).state = 3 ∧ (s'.ses c.session).lastCause = 0x0204) ∧
      (s.frame.devState ≠ 0 ∨ s.imagesUsable (s.ses c.session) = false →
        (s'.ses c.session).state = 2 ∧ (s'.ses c.session).starting = true) ∧
      s.otherSessions s' c.session ∧ s.onlyEvents s' := by
  refine ⟨_, (exec_sesStart fn slot t s).trans (execTaken hslot hready t _), ?_⟩
  have hS' : (s.taken t c).mayStartClassS c.session := by
    simpa [State.mayStartClassS, State.conforms] using hS
  have hbody : bodySesStart c (s.taken t c) = (s.sesStarted t c).accept c :=
    bodySesStart_starts hp (by simpa using hst) (by simpa using hset) hS' (by simpa [State.homeWindowOk] using hhome)
      (by simpa using (State.taken_admits ..).trans hadm)
  obtain ⟨hstart, hwait, hother⟩ := State.sesStarted_fields (t := t) hi hst
  rw [hbody]
  exact ⟨State.answered hready (by simp [State.sesStarted, State.settleIdle, apply_ite]) _ _, hstart, hwait, hother,
    State.onlyEvents_taken_settle ..⟩

theorem sesStop_waits (hready : s.isReady 0x0205 fn slot c) (hst : (s.ses c.session).state = 3) (hgrid : s.frame.devState = 1) :
    ∃ s', exec (.sesStop fn slot t) s = .next s' ∧
      (∃ c', s'.cmd? fn slot = some c' ∧ c'.stage = .waiting ∧ c'.response = none) ∧
      (s'.ses c.session).state = 3 ∧ (s'.ses c.session).stopping = true ∧ s.otherSessions s' c.session ∧
      s.onlyEvents s' := by
  refine ⟨_, (exec_sesStop fn slot t s).trans (execTaken hslot hready t _), ?_⟩
  rw [bodySesStop_waits hp (by simpa using hst) (by simp [State.gridRuns, hgrid])]
  have hses := State.ses_modSes (s.taken t c) c.session (fun x => { x with stopping := true }) (by simpa using hi)
  have hown := (hses c.session).trans (if_pos rfl)
  rw [State.taken_ses] at hown
  refine ⟨⟨_, State.cmd?_wait (by simp) hready.1, rfl, hready.arrived.2.2.2.1⟩, (congrArg Session.state hown).trans hst,
    congrArg Session.stopping hown, fun j hj => ?_, State.onlyEvents_taken_sessions s t c s.sessions⟩
  have hother := (hses j).trans (if_neg hj)
  rw [State.taken_ses] at hother
  exact congrArg (fun x : Session => { x with counters := [] }) hother

theorem sesStop_answers (hready : s.isReady 0x0205 fn slot c)
    (hst : (s.ses c.session).state = 4 ∨ (s.ses c.session).state = 3 ∧ s.frame.devState = 0) :
    ∃ s', exec (.sesStop fn slot t) s = .next s' ∧ s'.reply? fn slot = some (okReply []) ∧
      (s'.ses c.session).state = 2 ∧ s.otherSessions s' c.session ∧ s.onlyEvents s' := by
  refine ⟨_, (exec_sesStop fn slot t s).trans (execTaken hslot hready t _), ?_⟩
  rw [bodySesStop_stops hp (by rcases hst with h | ⟨h, hidle⟩ <;> simp [State.gridRuns, *])]
  obtain ⟨hstate, -, hother⟩ := State.sesTo_taken_fields t 2 0x0205 hi
  exact ⟨State.answered hready (by simp) _ _, hstate, hother, State.onlyEvents_taken_sesTo s t c (s.taken t c).sessions ..⟩

theorem sesRecover_answers (hready : s.isReady 0x0206 fn slot c) (hst : (s.ses c.session).state = 5)
    (hclass : (s.ses c.session).classS = false) :
    ∃ s', exec (.sesRecover fn slot t) s = .next s' ∧ s'.reply? fn slot = some (okReply []) ∧
      (s'.ses c.session).state = 2 ∧ (s'.ses c.session).lastCause = 0x0206 ∧ s'.streams = s.streams ∧
      s.otherSessions s' c.session ∧ s.onlyEvents s' := by
  refine ⟨_, (exec_sesRecover fn slot t s).trans (execTaken hslot hready t _), ?_⟩
  rw [bodySesRecover_classN hp (by simpa using hclass) (by simpa using hst)]
  obtain ⟨hstate, hcause, hother⟩ := State.sesTo_taken_fields t 2 0x0206 hi
  exact ⟨State.answered hready (by simp) _ _, hstate, hcause, by simp, hother,
    State.onlyEvents_taken_sesTo s t c (s.taken t c).sessions ..⟩

end

/-- Settles O15. -/
theorem sessionStartStopRecover : Obligations.SessionStartStopRecover :=
  fun _ _ _ _ _ hslot hi hp => ⟨sesStart_answers hslot hi hp, sesStop_waits hslot hi hp, sesStop_answers hslot hi hp,
    sesRecover_answers hslot hi hp⟩

end Sys2Proof.Machine
end

section
/-!
SUPPORT. GRID_STOP from PAUSED settles what waited for the next frame open, pan blocks that are to be freed among it, so the
worlds do not stay as they are.
-/
namespace Sys2Proof.Machine

/-- Settling leaves no pan block to be freed. -/
theorem State.settle_freeing (s : State) : s.settle.worlds.freeing = [] := rfl

@[simp] theorem State.answerWaiting_worlds (op : Nat) (s : State) : (s.answerWaiting op).worlds = s.worlds :=
  State.foldl_keeps (·.worlds) (fun s c => s.accept c) (fun _ _ => rfl) _ s

@[simp] theorem State.refuseWaiting_worlds (op st : Nat) (s : State) : (s.refuseWaiting op st).worlds = s.worlds :=
  State.foldl_keeps (·.worlds) (fun s c => s.refuse c st) (fun _ _ => rfl) _ s

/-- IDLE is reached with every pan block freed. -/
theorem State.toIdle_freeing (s : State) : s.toIdle.worlds.freeing = [] := by
  simp only [State.toIdle, State.refuseWaiting_worlds, State.answerWaiting_worlds]
  rfl

/-- A GRID_STOP in its slot. -/
def gridStopCmd : Cmd := { fn := 0, slot := 0, opcode := 0x0503, stage := .ready }

/-- A PAUSED device with a pan block that the next frame open would free. -/
def pausedFreeing : State :=
  { frame := { devState := 2 }, worlds := { allocated := [0], freeing := [0] }, mbx := { cmds := [gridStopCmd] } }

theorem pausedFreeing_ready : pausedFreeing.isReady 0x0503 0 0 gridStopCmd :=
  ⟨rfl, rfl, rfl, rfl, rfl, by decide, by decide⟩

/-- GRID_STOP from PAUSED makes the device IDLE. -/
theorem bodyGridStop_paused {c : Cmd} {s : State} (hp : c.payload = []) (hses : s.anySession [3, 4] = false)
    (hdev : s.frame.devState = 2) : bodyGridStop c s = s.toIdle.accept c := by
  unfold bodyGridStop
  rw [State.shape_pos (by simp [hp]) (by simp), State.need_pos (by simp [State.devIn, hdev]), State.need_pos (by simp [hses]),
    if_pos hdev]

/-- GRID_STOP from PAUSED leaves no pan block to be freed. -/
theorem gridStop_frees {s s' : State} {fn slot t : Nat} {c : Cmd} (hslot : isSlot fn slot) (hready : s.isReady 0x0503 fn slot c)
    (hp : c.payload = []) (hses : s.anySession [3, 4] = false) (hdev : s.frame.devState = 2)
    (hexec : exec (.gridStop fn slot t) s = .next s') : s'.worlds.freeing = [] := by
  have hrow := (exec_gridStop fn slot t s).trans (execTaken hslot hready t _)
  rw [bodyGridStop_paused hp (by simpa [State.anySession] using hses) (by simpa using hdev)] at hrow
  have hfreeing := State.toIdle_freeing (s.taken t c)
  generalize (s.taken t c).toIdle = idle at hrow hfreeing
  obtain rfl := Host.Outcome.next.inj (hexec.symm.trans hrow)
  exact hfreeing

/-- Refutes O17: GRID_STOP from PAUSED frees the pan block that waited for the next frame open. -/
theorem not_frameGridCommands : ¬ Obligations.FrameGridCommands := by
  intro h
  obtain ⟨-, -, -, hstop⟩ := h pausedFreeing 0 0 0 gridStopCmd ⟨by decide, by decide⟩
  obtain ⟨s', hexec, -, -, -, -, -, -, hworlds, -⟩ := hstop pausedFreeing_ready rfl (by decide) rfl
  have hfreeing := gridStop_frees ⟨by decide, by decide⟩ pausedFreeing_ready rfl (by decide) rfl hexec
  rw [hworlds] at hfreeing
  exact List.cons_ne_nil _ _ hfreeing

end Sys2Proof.Machine
end

section
/-!
SUPPORT. What a command delivers: the host's bytes within its write descriptors (R318), and the hub's selectable counters.
-/
namespace Sys2Proof.Machine

/-- A byte elsewhere reads as before, whatever the memory's form. -/
theorem Mem.read_write_ne {x a : Nat} (hx : x ≠ a) (b : Byte) (m : Mem) : Mem.read x (Mem.write a b m) = Mem.read x m := by
  induction m with
  | nil =>
    unfold Mem.write
    split
    · rfl
    · exact if_neg hx
  | cons y m ih =>
    obtain ⟨a', b'⟩ := y
    unfold Mem.write
    split
    · split
      · rfl
      · exact if_neg hx
    · split
      · next h => subst h; split <;> simp [Mem.read, hx]
      · simp only [Mem.read, ih]

theorem Mem.read_writeBytes_outside {x : Nat} (bs : List Byte) : ∀ {a : Nat} (m : Mem), (x < a ∨ a + bs.length ≤ x) →
    Mem.read x (Mem.writeBytes a bs m) = Mem.read x m := by
  induction bs with
  | nil => exact fun _ _ => rfl
  | cons b bs ih =>
    intro a m hx
    rw [List.length_cons] at hx
    rw [Mem.writeBytes, ih _ (by omega), Mem.read_write_ne (by omega)]

/-- `s'` differs from `s` at most in the host's memory and the hub's selectable counters. -/
def State.AtHost (s s' : State) : Prop := ∃ h l, s' = { s with host := h, hub := { s.hub with selCounters := l } }

theorem State.AtHost.refl (s : State) : s.AtHost s := ⟨_, _, rfl⟩

theorem State.AtHost.trans {a b c : State} (h : a.AtHost b) (h' : b.AtHost c) : a.AtHost c := by
  obtain ⟨m, l, rfl⟩ := h
  obtain ⟨m', l', rfl⟩ := h'
  exact ⟨m', l', rfl⟩

/-- An event at the hub counts at the hub. -/
theorem State.selEvent_atHost (inst event qual layer op k : Nat) (s : State) :
    s.AtHost (s.selEvent 2 inst event qual layer op k) := by
  refine State.foldl_inv s.AtHost _ (fun x e hx => ?_) _ s (.refl s)
  split
  · exact hx.trans ⟨_, _, rfl⟩
  · exact hx

theorem State.hostWrite_atHost (fn a : Nat) (bs : List Byte) (s : State) : s.AtHost (s.hostWrite fn a bs) := by
  unfold State.hostWrite
  split
  · exact State.AtHost.trans ⟨_, _, rfl⟩ (State.selEvent_atHost ..)
  · exact .refl s

theorem State.hostWrite_host (fn a : Nat) (bs : List Byte) (s : State) :
    (s.hostWrite fn a bs).host = if s.dmaOk fn then Mem.writeBytes a bs s.host else s.host := by
  unfold State.hostWrite
  split
  · simp
  · rfl

/-- The bytes go out one descriptor after the other. -/
def State.outputTo (fn : Nat) (acc : State × List Byte) (d : Desc) : State × List Byte :=
  (acc.1.hostWrite fn d.addr (acc.2.take d.len), acc.2.drop d.len)

theorem State.output_eq (c : Cmd) (bs : List Byte) (s : State) :
    s.output c bs = ((c.descs.filter (·.write)).foldl (State.outputTo c.fn) (s, bs)).1 := rfl

theorem State.output_atHost (c : Cmd) (bs : List Byte) (s : State) : s.AtHost (s.output c bs) := by
  rw [State.output_eq]
  generalize c.descs.filter (·.write) = ds
  induction ds generalizing s bs with
  | nil => exact .refl s
  | cons d ds ih => exact (State.hostWrite_atHost ..).trans (ih (bs.drop d.len) _)

/-- No byte outside the write descriptors is written. -/
theorem State.output_read {c : Cmd} {x : Nat} (hx : ∀ d ∈ c.descs, d.write = true → ¬(d.addr ≤ x ∧ x < d.addr + d.len))
    (bs : List Byte) (s : State) : Mem.read x (s.output c bs).host = Mem.read x s.host := by
  rw [State.output_eq]
  have hds : ∀ d ∈ c.descs.filter (·.write), ¬(d.addr ≤ x ∧ x < d.addr + d.len) := fun d hd =>
    hx d (List.mem_filter.mp hd).1 (List.mem_filter.mp hd).2
  generalize c.descs.filter (·.write) = ds at hds
  induction ds generalizing s bs with
  | nil => rfl
  | cons d ds ih =>
    have hd := hds d List.mem_cons_self
    rw [List.foldl_cons, State.outputTo, ih (bs.drop d.len) _ fun e he => hds e (List.mem_cons_of_mem _ he), State.hostWrite_host]
    split
    · refine Mem.read_writeBytes_outside _ _ ?_
      have hlen := List.length_take_le d.len bs
      dsimp only
      omega
    · rfl

/-- With one descriptor that holds them, the bytes stand from its address on. -/
theorem State.output_one {c : Cmd} {d : Desc} (hd : c.descs.filter (·.write) = [d]) {bs : List Byte} (hlen : bs.length ≤ d.len)
    {s : State} (hdma : s.dmaOk c.fn = true) : (s.output c bs).host = Mem.writeBytes d.addr bs s.host := by
  rw [State.output_eq, hd, List.foldl_cons, List.foldl_nil, State.outputTo, State.hostWrite_host, if_pos hdma,
    List.take_of_length_le hlen]

/-- A delivery that fits answers with its payload. -/
theorem State.deliver_fits {c : Cmd} {bs : List Byte} (h : bs.length ≤ c.room) (p : List Byte) (s : State) :
    s.deliver c bs p = (s.output c bs).accept c p := if_pos h

/-- A delivery that does not fit is OUTPUT_SHORT. -/
theorem State.deliver_short {c : Cmd} {bs : List Byte} (h : ¬ bs.length ≤ c.room) (p : List Byte) (s : State) :
    s.deliver c bs p = (s.output c bs).respond c { status := 0x0307, payload := le 4 c.room } := if_neg h

/-- What a row that delivers changes. -/
theorem State.onlyDelivered_output (s : State) (t : Nat) (c : Cmd) (bs : List Byte) :
    s.onlyDelivered { (s.taken t c).output c bs with pending := s.pending } c := by
  obtain ⟨m, l, h⟩ := State.output_atHost c bs (s.taken t c)
  refine ⟨fun x hx => (State.output_read hx bs (s.taken t c)).trans (by rw [State.taken_host]), ?_⟩
  rw [h]
  apply State.ext_parts <;> simp

end Sys2Proof.Machine
end

section
/-!
SUPPORT. Rings and RESULT_LAST (R321, R345, R362), and the obligation on them.
-/
namespace Sys2Proof.Machine

theorem lookupD_upsert_same {α : Type} (d : α) (k : Nat) (v : α) (l : List (Nat × α)) : lookupD d k (upsert k v l) = v := by
  induction l with
  | nil => exact if_pos rfl
  | cons y l ih =>
    obtain ⟨k', v'⟩ := y
    unfold upsert
    split
    · exact if_pos rfl
    · next h => exact (if_neg h).trans ih

theorem lookupD_upsert_ne {α : Type} (d : α) {k k' : Nat} (h : k' ≠ k) (v : α) (l : List (Nat × α)) :
    lookupD d k' (upsert k v l) = lookupD d k' l := by
  induction l with
  | nil => exact if_neg h.symm
  | cons y l ih =>
    obtain ⟨j, w⟩ := y
    unfold upsert
    split
    · next hj => subst hj; simp [lookupD, h.symm]
    · simp only [lookupD, ih]

theorem State.fnS_modFn (s : State) (fn : Nat) (f : FnState → FnState) (h : fn < s.pcie.fns.length) (g : Nat) :
    (s.modFn fn f).fnS g = if g = fn then f (s.fnS fn) else s.fnS g := by
  by_cases hg : g = fn
  · subst hg; simp [State.fnS, State.modFn, State.modPcie, h]
  · simp [State.fnS, State.modFn, State.modPcie, hg, Ne.symm hg]

/-- Only the ring of a key is left out. -/
theorem find?_key_filter_ne {k j : Nat} (h : j ≠ k) (l : List Ring) :
    (l.filter fun g => g.key != k).find? (·.key == j) = l.find? (·.key == j) := by
  induction l with
  | nil => rfl
  | cons r l ih =>
    by_cases hr : r.key = k
    · simp [hr, ih, Ne.symm h]
    · simp [hr, List.find?_cons, ih]

theorem find?_key_filter_same (k : Nat) (l : List Ring) : (l.filter fun g => g.key != k).find? (·.key == k) = none := by
  refine List.find?_eq_none.mpr fun r hr => ?_
  simpa using (List.mem_filter.mp hr).2

/-- A ring entered in place of the one of its key. -/
theorem find?_key_entered (r : Ring) (l : List Ring) (j : Nat) :
    ((l.filter fun g => g.key != r.key) ++ [r]).find? (·.key == j) = if j = r.key then some r else l.find? (·.key == j) := by
  rw [List.find?_append]
  by_cases hj : j = r.key
  · rw [hj, find?_key_filter_same, if_pos rfl]
    simp
  · rw [find?_key_filter_ne hj, if_neg hj]
    simp [Ne.symm hj]

/-- The ring that RING_REGISTER enters. -/
def Cmd.newRing (c : Cmd) : Ring :=
  { key := ringKey (getU c.payload 0 1) c.session, fn := c.fn, base := getU c.payload 8 8, entries := getU c.payload 4 4,
    entrySize := getU c.payload 16 4, widxAddr := getU c.payload 24 8 }

/-- A function whose ring of key `k` is registered: its read index starts at 0. -/
def FnState.registered (k : Nat) (f : FnState) : FnState :=
  { f with ridx := upsert k 0 f.ridx, ridxOld := f.ridxOld.filter (·.1 != k) }

/-- The state with a ring entered. -/
def State.ringEntered (r : Ring) (s : State) : State :=
  (s.modRings fun l => (l.filter fun g => g.key != r.key) ++ [r]).modFn r.fn (FnState.registered r.key)

theorem bodyRingRegister_registers {c : Cmd} {s : State} (hlen : c.payload.length = 32)
    (hz : allZero (slice c.payload 1 3) = true) (hz' : allZero (slice c.payload 20 4) = true) (hkind : getU c.payload 0 1 ≤ 2)
    (hlegal : getU c.payload 0 1 ≠ 2 → (s.ses c.session).state ∈ [1, 2, 4])
    (hn : ∃ k, 4 ≤ k ∧ k ≤ 16 ∧ getU c.payload 4 4 = 2 ^ k) (hbase : getU c.payload 8 8 % 256 = 0)
    (hwidx : getU c.payload 24 8 % 8 = 0)
    (hsize : if getU c.payload 0 1 = 0 then getU c.payload 16 4 % 256 = 0 ∧ s.resultEntry c.session ≤ getU c.payload 16 4
        else getU c.payload 16 4 = 64) :
    bodyRingRegister c s =
      (s.ringEntered c.newRing).accept c (le 1 (ringKey (getU c.payload 0 1) c.session) ++ zeros 7) := by
  obtain ⟨k, hk, hk', hpow⟩ := hn
  have hentries : inR (getU c.payload 4 4) 16 65536 = true ∧ (getU c.payload 4 4 == 2 ^ Nat.log2 (getU c.payload 4 4)) = true := by
    have hlo : 2 ^ 4 ≤ 2 ^ k := Nat.pow_le_pow_right (by omega) hk
    have hhi : 2 ^ k ≤ 2 ^ 16 := Nat.pow_le_pow_right (by omega) hk'
    rw [hpow, Nat.log2_two_pow]
    exact ⟨by simpa [inR] using ⟨hlo, hhi⟩, by simp⟩
  have hring : s.ringLegal (getU c.payload 0 1) c.session = true := by
    by_cases h2 : getU c.payload 0 1 = 2
    · simp [State.ringLegal, h2]
    · have := hlegal h2
      simp [State.ringLegal, h2] at this ⊢
      omega
  unfold bodyRingRegister
  dsimp only
  rw [State.shape_pos hlen (by simpa using ⟨hz, hz'⟩), State.need_pos (by simpa using hkind), State.need_pos hring,
    State.need_pos]
  · rfl
  · rw [hentries.1, hentries.2]
    simp only [hbase, hwidx]
    split
    · next h0 => rw [if_pos h0] at hsize; simpa using hsize
    · next h0 => rw [if_neg h0] at hsize; simpa using hsize

theorem bodyRingRelease_releases {c : Cmd} {s : State} (hlen : c.payload.length = 8)
    (hz : allZero (slice c.payload 1 7) = true) (hkind : getU c.payload 0 1 ≤ 2)
    (hring : (s.ring? (ringKey (getU c.payload 0 1) c.session)).isSome)
    (hlegal : getU c.payload 0 1 ≠ 2 → (s.ses c.session).state ∈ [1, 2, 4]) :
    bodyRingRelease c s =
      (s.modRings fun l => l.filter fun g => g.key != ringKey (getU c.payload 0 1) c.session).accept c := by
  have hlegal' : s.ringLegal (getU c.payload 0 1) c.session = true := by
    by_cases h2 : getU c.payload 0 1 = 2
    · simp [State.ringLegal, h2]
    · have := hlegal h2
      simp [State.ringLegal, h2] at this ⊢
      omega
  unfold bodyRingRelease
  dsimp only
  rw [State.shape_pos hlen (by simpa using hz), State.need_pos (by simp [hkind, hring]), State.need_pos hlegal']

theorem bodyResultLast_delivers {c : Cmd} {s : State} {x : Stream} {a len : Nat} (hlen : c.payload.length = 8)
    (hz : allZero (slice c.payload 1 7) = true)
    (hx : s.streams.find? (fun y => y.id == getU c.payload 0 1 && y.session == c.session && !y.lastRecord.isEmpty) = some x)
    (hd : c.descs = [{ addr := a, len := len, write := true }]) (hfit : x.lastRecord.length ≤ len) :
    bodyResultLast c s = (s.output c x.lastRecord).accept c (le 4 x.lastRecord.length) := by
  unfold bodyResultLast
  rw [State.shape_pos hlen (by simpa using hz), hx]
  exact State.deliver_fits (by simpa [Cmd.room, hd, sumN] using hfit) _ s

theorem State.ringEntered_ring? (r : Ring) (s : State) (j : Nat) :
    (s.ringEntered r).ring? j = if j = r.key then some r else s.ring? j := find?_key_entered r s.rings j

theorem State.ringEntered_fnS {r : Ring} {s : State} (h : r.fn < s.pcie.fns.length) (g : Nat) :
    (s.ringEntered r).fnS g = if g = r.fn then (s.fnS r.fn).registered r.key else s.fnS g :=
  State.fnS_modFn (s.modRings _) r.fn _ h g

theorem FnState.registered_lookup (k j : Nat) (f : FnState) :
    lookupD 1 j (f.registered k).ridx = if j = k then 0 else lookupD 1 j f.ridx := by
  split
  · next h => exact h ▸ lookupD_upsert_same ..
  · next h => exact lookupD_upsert_ne _ h ..

@[simp] theorem State.taken_fnS (s : State) (t : Nat) (c : Cmd) (g : Nat) : (s.taken t c).fnS g = s.fnS g := by
  simp [State.fnS]

@[simp] theorem State.taken_dmaOk (s : State) (t : Nat) (c : Cmd) (fn : Nat) : (s.taken t c).dmaOk fn = s.dmaOk fn := by
  simp [State.dmaOk, State.linkOf, State.carrier, State.onLinkB]

@[simp] theorem State.taken_ring? (s : State) (t : Nat) (c : Cmd) (k : Nat) : (s.taken t c).ring? k = s.ring? k := by
  simp [State.ring?]

section
variable {s : State} {fn slot t : Nat} {c : Cmd} (hslot : isSlot fn slot)
include hslot

theorem ringRegister_answers (hfns : s.pcie.fns.length = 17) (hready : s.isReady 0x0601 fn slot c)
    (hlen : c.payload.length = 32) (hz : allZero (slice c.payload 1 3) = true) (hz' : allZero (slice c.payload 20 4) = true)
    (hkind : getU c.payload 0 1 ≤ 2) (hlegal : getU c.payload 0 1 ≠ 2 → (s.ses c.session).state ∈ [1, 2, 4])
    (hn : ∃ k, 4 ≤ k ∧ k ≤ 16 ∧ getU c.payload 4 4 = 2 ^ k) (hbase : getU c.payload 8 8 % 256 = 0)
    (hwidx : getU c.payload 24 8 % 8 = 0)
    (hsize : if getU c.payload 0 1 = 0 then getU c.payload 16 4 % 256 = 0 ∧ s.resultEntry c.session ≤ getU c.payload 16 4
        else getU c.payload 16 4 = 64) :
    ∃ s', exec (.ringRegister fn slot t) s = .next s' ∧
      s'.reply? fn slot = some (okReply (le 1 (ringKey (getU c.payload 0 1) c.session) ++ zeros 7)) ∧
      s'.ring? (ringKey (getU c.payload 0 1) c.session) = some {
        key := ringKey (getU c.payload 0 1) c.session, fn := fn, base := getU c.payload 8 8, entries := getU c.payload 4 4,
        entrySize := getU c.payload 16 4, widxAddr := getU c.payload 24 8, w := 0 } ∧
      lookupD 1 (ringKey (getU c.payload 0 1) c.session) (s'.fnS fn).ridx = 0 ∧
      (∀ k, k ≠ ringKey (getU c.payload 0 1) c.session →
        s'.ring? k = s.ring? k ∧ lookupD 1 k (s'.fnS fn).ridx = lookupD 1 k (s.fnS fn).ridx) ∧
      s'.pcie = { s.pcie with fns := s'.pcie.fns } ∧
      { s'.fnS fn with ridx := (s.fnS fn).ridx, ridxOld := (s.fnS fn).ridxOld } = s.fnS fn ∧
      (∀ g, g ≠ fn → s'.fnS g = s.fnS g) ∧
      { s' with time := s.time, det := s.det, mbx := { s'.mbx with cmds := s.mbx.cmds }, rings := s.rings,
                pcie := s.pcie } = s := by
  obtain ⟨hfn, -⟩ := State.cmd?_slot hready.1
  have hrow := (exec_ringRegister fn slot t s).trans (execTaken hslot hready t _)
  rw [bodyRingRegister_registers hlen hz hz' hkind (by simpa using hlegal) hn hbase hwidx
    (by simpa [State.resultEntry] using hsize)] at hrow
  have hrfn : c.newRing.fn = fn := hfn
  have hring := State.ringEntered_ring? c.newRing (s.taken t c)
  rw [show c.newRing.key = ringKey (getU c.payload 0 1) c.session from rfl] at hring
  have hfnS := State.ringEntered_fnS (r := c.newRing) (s := s.taken t c) (by rw [State.taken_pcie, hfns, hrfn]; exact hslot.1)
  simp only [hrfn, State.taken_fnS] at hfnS
  have hown : ((s.taken t c).ringEntered c.newRing).fnS fn = (s.fnS fn).registered (ringKey (getU c.payload 0 1) c.session) :=
    (hfnS fn).trans (if_pos rfl)
  refine ⟨_, hrow, State.answered hready (by simp [State.ringEntered]) _ _, ?_, ?_, fun k hk => ⟨?_, ?_⟩, ?_, ?_, fun g hg => ?_, ?_⟩
  · exact (hring _).trans (by rw [if_pos rfl, Cmd.newRing, hfn])
  · exact (congrArg (fun f : FnState => lookupD 1 _ f.ridx) hown).trans ((FnState.registered_lookup ..).trans (if_pos rfl))
  · exact (hring k).trans ((if_neg hk).trans (State.taken_ring? ..))
  · exact (congrArg (fun f : FnState => lookupD 1 k f.ridx) hown).trans ((FnState.registered_lookup ..).trans (if_neg hk))
  · simp [State.ringEntered]
  · exact congrArg (fun f : FnState => { f with ridx := (s.fnS fn).ridx, ridxOld := (s.fnS fn).ridxOld }) hown
  · exact (hfnS g).trans (if_neg hg)
  · apply State.ext_parts <;> simp [State.ringEntered]

theorem ringRelease_answers (hready : s.isReady 0x0602 fn slot c) (hlen : c.payload.length = 8)
    (hz : allZero (slice c.payload 1 7) = true) (hkind : getU c.payload 0 1 ≤ 2)
    (hring : (s.ring? (ringKey (getU c.payload 0 1) c.session)).isSome)
    (hlegal : getU c.payload 0 1 ≠ 2 → (s.ses c.session).state ∈ [1, 2, 4]) :
    ∃ s', exec (.ringRelease fn slot t) s = .next s' ∧ s'.reply? fn slot = some (okReply []) ∧
      s'.ring? (ringKey (getU c.payload 0 1) c.session) = none ∧
      (∀ k, k ≠ ringKey (getU c.payload 0 1) c.session → s'.ring? k = s.ring? k) ∧
      { s' with time := s.time, det := s.det, mbx := { s'.mbx with cmds := s.mbx.cmds }, rings := s.rings } = s := by
  have hrow := (exec_ringRelease fn slot t s).trans (execTaken hslot hready t _)
  rw [bodyRingRelease_releases hlen hz hkind (by simpa using hring) (by simpa using hlegal)] at hrow
  have hrings : (s.taken t c).rings = s.rings := by simp
  refine ⟨_, hrow, State.answered hready (by simp) _ _, find?_key_filter_same .., fun k hk => ?_, ?_⟩
  · exact (find?_key_filter_ne hk _).trans (congrArg _ hrings)
  · apply State.ext_parts <;> simp

theorem resultLast_answers {x : Stream} {a len : Nat} (hready : s.isReady 0x0603 fn slot c) (hlen : c.payload.length = 8)
    (hz : allZero (slice c.payload 1 7) = true)
    (hx : s.streams.find? (fun y => y.id == getU c.payload 0 1 && y.session == c.session && !y.lastRecord.isEmpty) = some x)
    (hd : c.descs = [{ addr := a, len := len, write := true }]) (hfit : x.lastRecord.length ≤ len)
    (hdma : s.dmaOk fn = true) :
    ∃ s', exec (.resultLast fn slot t) s = .next s' ∧ s'.reply? fn slot = some (okReply (le 4 x.lastRecord.length)) ∧
      s'.host = Mem.writeBytes a x.lastRecord s.host ∧ s.onlyDelivered s' c := by
  obtain ⟨hfn, -⟩ := State.cmd?_slot hready.1
  have hrow := (exec_resultLast fn slot t s).trans (execTaken hslot hready t _)
  rw [bodyResultLast_delivers hlen hz (by simpa using hx) hd hfit] at hrow
  have hhost := State.output_one (c := c) (d := { addr := a, len := len, write := true }) (by simp [hd]) hfit (s := s.taken t c)
    (by rw [hfn]; simpa using hdma)
  exact ⟨_, hrow, State.answered hready (by simp) _ _, hhost.trans (by rw [State.taken_host]), State.onlyDelivered_output ..⟩

end

/-- Settles O16. -/
theorem ringsAndLastResult : Obligations.RingsAndLastResult :=
  fun _ _ _ _ _ hslot hfns => ⟨ringRegister_answers hslot hfns, ringRelease_answers hslot,
    fun _ _ _ => resultLast_answers hslot⟩

end Sys2Proof.Machine
end

section
/-!
SUPPORT. The device group and the discipline of device time (R333, R367, R368), and the obligation on them.
-/
namespace Sys2Proof.Machine

@[simp] theorem State.taken_identity (s : State) (t : Nat) (c : Cmd) : (s.taken t c).identity = s.identity := by
  simp [State.identity, State.lifecycle]

/-- The bytes of a list of one-byte fields. -/
theorem slice_flatMap_le (f : Nat → Nat) (n : Nat) : ∀ i < n, ∀ rest : List Byte,
    slice (((List.range n).flatMap fun i => le 1 (f i)) ++ rest) i 1 = le 1 (f i) := by
  induction n with
  | zero => exact fun i hi => absurd hi (Nat.not_lt_zero i)
  | succ n ih =>
    intro i hi rest
    have hlen : ((List.range n).flatMap fun i => le 1 (f i)).length = n := by
      simp [List.length_flatMap, le_length]
    rw [List.range_succ, List.flatMap_append, List.append_assoc]
    by_cases h : i < n
    · exact ih i h _
    · obtain rfl : i = n := by omega
      rw [slice_append_right (by omega), hlen, Nat.sub_self, List.flatMap_cons, List.flatMap_nil, List.append_nil]
      exact slice_append_left (le_length 1 _)

/-- The fields of the status record (Table 14.3). -/
theorem State.devStatus_fields (s : State) : s.devStatus.length = 64 ∧ slice s.devStatus 0 1 = le 1 s.frame.devState ∧
    slice s.devStatus 3 1 = le 1 s.frame.conf.cutoff ∧ slice s.devStatus 4 2 = le 2 s.frame.conf.period ∧
    slice s.devStatus 8 4 = le 4 s.frame.counter.toNat ∧ slice s.devStatus 16 8 = le 8 s.frame.frt ∧
    slice s.devStatus 24 8 = le 8 s.time.now ∧ ∀ i < 16, slice s.devStatus (32 + i) 1 = le 1 (s.ses i).state := by
  refine ⟨?_, ?_, ?_, ?_, ?_, ?_, ?_, fun i hi => ?_⟩
  · simp [State.devStatus, le_length, List.length_flatMap]
  · simp [State.devStatus, slice_append_left, le_length]
  · simp [State.devStatus, slice_append_right, slice_append_left, le_length]
  · simp [State.devStatus, slice_append_right, slice_append_left, le_length]
  · simp [State.devStatus, slice_append_right, slice_append_left, le_length, State.frameNo]
  · simp [State.devStatus, slice_append_right, slice_append_left, le_length]
  · simp [State.devStatus, slice_append_right, slice_append_left, le_length]
  · unfold State.devStatus
    rw [List.append_assoc, slice_append_right (by simp [le_length])]
    simp only [List.length_append, le_length, length_zeros]
    rw [show 32 + i - (1 + 1 + 1 + 1 + 2 + 2 + 4 + 4 + 8 + 8) = i by omega]
    exact slice_flatMap_le (fun i => (s.ses i).state) 16 i hi (zeros 16)

section
variable {s : State} {fn slot : Nat} {c : Cmd} (hslot : isSlot fn slot) (t : Nat)
include hslot

theorem devIdentify_answers (h : s.isArrived 0x0101 fn slot c) (hdev : s.frame.devState ≠ 3) (hp : c.payload = []) :
    ∃ s', exec (.devIdentify fn slot t) s = .next s' ∧ s'.reply? fn slot = some (okReply s.identity) ∧ s.onlyAnswered s' := by
  refine ⟨_, (exec_devIdentify fn slot t s).trans (execTakenA hslot h (fun _ => rfl) (fun hd => absurd hd hdev) t _), ?_⟩
  unfold bodyDevIdentify
  rw [State.shape_pos (by simp [hp]) (by simp), State.taken_identity]
  exact ⟨State.answeredA h (by simp) _ _, State.onlyAnswered_accept ..⟩

theorem devStatus_answers (h : s.isArrived 0x0102 fn slot c) (hdev : s.frame.devState ≠ 3) (hp : c.payload = []) :
    ∃ s', exec (.devStatus fn slot t) s = .next s' ∧
      s'.reply? fn slot = some (okReply (s.taken t c).devStatus) ∧ s.onlyAnswered s' := by
  refine ⟨_, (exec_devStatus fn slot t s).trans (execTakenA hslot h (fun _ => rfl) (fun hd => absurd hd hdev) t _), ?_⟩
  unfold bodyDevStatus
  rw [State.shape_pos (by simp [hp]) (by simp)]
  exact ⟨State.answeredA h (by simp) _ _, State.onlyAnswered_accept ..⟩

theorem devKey_answers (h : s.isArrived 0x0103 fn slot c) (hdev : s.frame.devState ≠ 3) (hp : c.payload = []) :
    ∃ s', exec (.devKey fn slot t) s = .next s' ∧
      s'.reply? fn slot = some (okReply (if s.frame.devState = 0 then (s.taken t c).nextKey else s.det.key)) ∧
      s.onlyAnswered s' := by
  refine ⟨_, (exec_devKey fn slot t s).trans (execTakenA hslot h (fun _ => rfl) (fun hd => absurd hd hdev) t _), ?_⟩
  unfold bodyDevKey
  rw [State.shape_pos (by simp [hp]) (by simp), State.taken_frame, State.taken_key]
  exact ⟨State.answeredA h (by simp) _ _, State.onlyAnswered_accept ..⟩
end

/-- A source lost is marked, with the slew off. -/
@[simp] theorem State.sourceLost_time (s : State) : s.sourceLost.time = { s.time with srcLost := true, slew := 0 } := by
  simp [State.sourceLost]

@[simp] theorem State.sourceLost_mbx (s : State) : s.sourceLost.mbx = s.mbx := by simp [State.sourceLost]
@[simp] theorem State.sourceLost_frame (s : State) : s.sourceLost.frame = s.frame := by simp [State.sourceLost]

/-- The time record as a source of device time is selected. -/
def TimeBase.select (v : Nat) (b : TimeBase) : TimeBase := { b with source := v, ppsExpected := none, ppsRejects := 0, slew := 0 }

theorem State.selectSource_eq (v : Nat) (s : State) : s.selectSource v =
    if v = 1 ∧ !s.pcie.linkA.up then (s.modTime (TimeBase.select v)).sourceLost else s.modTime (TimeBase.select v) := rfl

@[simp] theorem State.selectSource_mbx (v : Nat) (s : State) : (s.selectSource v).mbx = s.mbx := by
  rw [State.selectSource_eq]; split <;> simp

theorem State.selectSource_time (v : Nat) (s : State) : (s.selectSource v).time.source = v ∧
    (s.selectSource v).time.now = s.time.now := by
  rw [State.selectSource_eq]; split <;> simp [TimeBase.select]

theorem State.onlyEvents_selectSource (s : State) (t : Nat) (c : Cmd) (v : Nat) :
    s.onlyEvents { ((s.taken t c).selectSource v).accept c with pending := s.pending } := by
  rw [State.selectSource_eq]
  unfold State.onlyEvents
  split <;> apply State.ext_parts <;> simp [State.sourceLost]

theorem devTimeSource_answers {s : State} {fn slot : Nat} {c : Cmd} (hslot : isSlot fn slot) (t : Nat)
    (h : s.isReady 0x0104 fn slot c) (hlen : c.payload.length = 8) (hz : allZero (slice c.payload 1 7) = true)
    (hv : getU c.payload 0 1 ≤ 2) (hdev : s.frame.devState = 0 ∨ s.frame.devState = 2) :
    ∃ s', exec (.devTimeSource fn slot t) s = .next s' ∧ s'.reply? fn slot = some (okReply []) ∧
      s'.time.source = getU c.payload 0 1 ∧ s'.time.now = max s.time.now t ∧ s.onlyEvents s' := by
  refine ⟨_, (exec_devTimeSource fn slot t s).trans (execTaken hslot h t _), ?_⟩
  unfold bodyDevTimeSource
  rw [State.shape_pos hlen (by simp [hz])]
  dsimp only
  rw [State.need_pos (by simpa using hdev), State.need_pos (by simpa using hv)]
  obtain ⟨hsrc, hnow⟩ := (s.taken t c).selectSource_time (getU c.payload 0 1)
  exact ⟨State.answered h (by simp) _ _, by simpa using hsrc, by simpa using hnow, State.onlyEvents_selectSource ..⟩

/-- An offset applied touches time and the capture ring alone. -/
theorem State.applyOffset_frame (o : Int) (src : Nat) (s : State) :
    { s.applyOffset o src with time := s.time, det := s.det } = s := by
  unfold State.applyOffset
  apply State.ext_parts <;> simp

/-- What an applied offset leaves in device time: in IDLE it is applied whole, else as a slew. -/
theorem State.applyOffset_time (o : Int) (src : Nat) (s : State) : (s.applyOffset o src).time = { s.time with
    offset := sat 32 o, locked := decide (o.natAbs ≤ 20), srcLost := s.time.srcLost,
    stepDeferred := s.time.stepDeferred || (!(s.frame.devState == 0) && decide (o.natAbs > 20)),
    slew := if s.frame.devState == 0 then 0 else s.correction o,
    now := if s.frame.devState == 0 then ((s.time.now : Int) + s.correction o).toNat else s.time.now,
    corrections := s.time.corrections ++ [(s.time.now, s.correction o)] } := by
  simp [State.applyOffset]

/-- With a lost answer, or the link down, PTM is a lost source. -/
theorem State.ptmDialog_none {s : State} (h : s.time.source = 1) : s.ptmDialog none = s.sourceLost := by
  simp [State.ptmDialog, h]

theorem State.ptmDialog_some {s : State} (h : s.time.source = 1) (hup : s.pcie.linkA.up = true) (ns : Nat) :
    s.ptmDialog (some ns) = s.applyOffset ((ns / 5 : Nat) - (s.time.now : Int)) 0 := by
  simp [State.ptmDialog, h, hup]

theorem State.ptmDialog_other {s : State} (h : s.time.source ≠ 1) (m : Option Nat) : s.ptmDialog m = s := if_pos h

section
variable {s : State} (t : Nat)

theorem ptmDialog_idle (h : s.time.source = 1) (hup : s.pcie.linkA.up = true) (hdev : s.frame.devState = 0) (ns : Nat) :
    ∃ s', exec (.ptmDialog (some ns) t) s = .next s' ∧ s'.time.now = ns / 5 ∧ s'.time.slew = 0 ∧
      { s' with time := s.time, det := s.det } = s := by
  refine ⟨_, (exec_ptmDialog _ t s).trans (ranAt_pos rfl ..), ?_⟩
  rw [State.ptmDialog_some (s := s.at t) h hup]
  refine ⟨?_, by simp [State.applyOffset_time, hdev], ?_⟩
  · simp [State.applyOffset_time, hdev, State.correction]
    omega
  · exact congrArg (fun x : State => { x with time := s.time, pending := s.pending }) ((s.at t).applyOffset_frame _ 0)

theorem ptmDialog_running (h : s.time.source = 1) (hup : s.pcie.linkA.up = true) (hdev : s.frame.devState ≠ 0) (ns : Nat) :
    ∃ s', exec (.ptmDialog (some ns) t) s = .next s' ∧ s'.time.now = max s.time.now t ∧
      s'.time.slew = max (-20) (min 20 ((ns / 5 : Nat) - (max s.time.now t : Nat) : Int)) ∧
      (s'.time.locked = true ↔ ((ns / 5 : Nat) - (max s.time.now t : Nat) : Int).natAbs ≤ 20) ∧
      { s' with time := s.time, det := s.det } = s := by
  refine ⟨_, (exec_ptmDialog _ t s).trans (ranAt_pos rfl ..), ?_⟩
  rw [State.ptmDialog_some (s := s.at t) h hup]
  refine ⟨by simp [State.applyOffset_time, hdev], by simp [State.applyOffset_time, hdev, State.correction],
    by simp [State.applyOffset_time], ?_⟩
  exact congrArg (fun x : State => { x with time := s.time, pending := s.pending }) ((s.at t).applyOffset_frame _ 0)

theorem ptmDialog_lost (h : s.time.source = 1) : ∃ s', exec (.ptmDialog none t) s = .next s' ∧ s'.time.srcLost = true ∧
    s'.time.now = max s.time.now t ∧ s'.frame = s.frame ∧ s'.safety = s.safety := by
  refine ⟨_, (exec_ptmDialog _ t s).trans (ranAt_pos rfl ..), ?_⟩
  rw [State.ptmDialog_none (s := s.at t) h]
  simp

theorem ptmDialog_unused (h : s.time.source ≠ 1) (m : Option Nat) : ∃ s', exec (.ptmDialog m t) s = .next s' ∧
    { s' with time := s.time } = s ∧ s'.time = { s.time with now := max s.time.now t } := by
  refine ⟨_, (exec_ptmDialog _ t s).trans (ranAt_pos rfl ..), ?_⟩
  rw [State.ptmDialog_other (s := s.at t) h]
  exact ⟨rfl, rfl⟩

/-- The first edge sets the phase. -/
theorem State.ppsEdge_none {s : State} (h : s.time.source = 2) (he : s.time.ppsExpected = none) : s.ppsEdge =
    s.modTime fun b => { b with ppsExpected := some (b.now + ppsTicks), ppsRejects := 0 } := by
  simp [State.ppsEdge, h, he]

theorem ppsEdge_first (h : s.time.source = 2) (he : s.time.ppsExpected = none) : ∃ s', exec (.ppsEdge t) s = .next s' ∧
    s'.time.ppsExpected = some (max s.time.now t + 200000000) ∧ s'.time.now = max s.time.now t ∧
    { s' with time := s.time } = s := by
  refine ⟨_, (exec_ppsEdge t s).trans (ranAt_pos rfl ..), ?_⟩
  rw [State.ppsEdge_none (s := s.at t) h he]
  exact ⟨rfl, rfl, rfl⟩

/-- An edge far off is rejected; a near one is applied as an offset. -/
theorem State.ppsEdge_next {s : State} {e : Nat} (h : s.time.source = 2) (he : s.time.ppsExpected = some e)
    (hr : s.time.ppsRejects < 4) : s.ppsEdge = if ((e : Int) - s.time.now).natAbs > 2000 then
      s.modTime fun b => { b with ppsReject := true, ppsRejects := b.ppsRejects + 1, ppsExpected := some (e + ppsTicks) }
    else (s.applyOffset ((e : Int) - s.time.now) 1).modTime fun b =>
      { b with ppsRejects := 0, ppsExpected := some (e + ppsTicks) } := by
  simp [State.ppsEdge, h, he, hr]

theorem ppsEdge_again {e : Nat} (h : s.time.source = 2) (he : s.time.ppsExpected = some e) (hr : s.time.ppsRejects < 4) :
    ∃ s', exec (.ppsEdge t) s = .next s' ∧
      (2000 < ((e : Int) - (max s.time.now t : Nat)).natAbs → s'.time.ppsReject = true ∧
        s'.time.now = max s.time.now t ∧ { s' with time := s.time } = s) ∧
      (((e : Int) - (max s.time.now t : Nat)).natAbs ≤ 2000 → s'.time.ppsReject = s.time.ppsReject ∧
        (s.frame.devState = 0 → s'.time.now = e) ∧ (s.frame.devState ≠ 0 → s'.time.now = max s.time.now t) ∧
        { s' with time := s.time, det := s.det } = s) := by
  refine ⟨_, (exec_ppsEdge t s).trans (ranAt_pos rfl ..), ?_⟩
  rw [State.ppsEdge_next (s := s.at t) h he hr, State.at_now]
  refine ⟨fun hfar => ?_, fun hnear => ?_⟩
  · rw [if_pos hfar]
    exact ⟨rfl, rfl, rfl⟩
  · rw [if_neg (by omega)]
    refine ⟨by simp [State.applyOffset_time, State.at], fun hdev => ?_, fun hdev => ?_, ?_⟩
    · simp [State.applyOffset_time, hdev, State.correction]
    · simp [State.applyOffset_time, hdev]
    · exact congrArg (fun x : State => { x with time := s.time, pending := s.pending }) ((s.at t).applyOffset_frame _ 1)
end

/-- Settles O13. -/
theorem deviceAndTime : Obligations.DeviceAndTime := by
  refine ⟨fun s fn slot t c hslot => ⟨fun h hdev hp => devIdentify_answers hslot t h hdev hp, fun h hdev hp => ?_,
    fun h hdev hp => devKey_answers hslot t h hdev hp, fun h hl hz hv hdev => devTimeSource_answers hslot t h hl hz hv hdev⟩,
    fun s t => ⟨fun ns h hup hdev => ptmDialog_idle t h hup hdev ns, fun ns h hup hdev => ptmDialog_running t h hup hdev ns,
      ptmDialog_lost t, ptmDialog_unused t, ppsEdge_first t, fun e => ppsEdge_again t⟩⟩
  obtain ⟨s', hexec, hreply, hframe⟩ := devStatus_answers hslot t h hdev hp
  obtain ⟨hlen, h0, h3, h4, h8, h16, h24, hses⟩ := (s.taken t c).devStatus_fields
  exact ⟨s', _, hexec, hreply, hlen, by simpa using h0, by simpa using h3, by simpa using h4, by simpa using h8,
    by simpa using h16, by simpa using h24, fun i hi => by simpa using hses i hi, hframe⟩

end Sys2Proof.Machine
end

section
/-!
SUPPORT. What a capture entry leaves of the determinism block (R298, R299), and the obligation on recording and the slip log
(R292, R299, R348, R349).
-/
namespace Sys2Proof.Machine

/-- A capture entry touches the ring, its order and the marks of recording alone. -/
theorem State.capturePut_det (s : State) (e : Capture) : (s.capturePut e).det = { s.det with
    ring := (s.capturePut e).det.ring, captureOrder := (s.capturePut e).det.captureOrder,
    record := (s.capturePut e).det.record, recordEnding := (s.capturePut e).det.recordEnding,
    overflowed := (s.capturePut e).det.overflowed } := by
  simp only [State.capturePut]
  (repeat' split) <;> rfl

theorem State.capture_det (kind source slot when_ arrival : Nat) (p : List Byte) (s : State) :
    (s.capture kind source slot when_ arrival p).det = { s.det with
      ring := (s.capture kind source slot when_ arrival p).det.ring,
      captureOrder := (s.capture kind source slot when_ arrival p).det.captureOrder,
      record := (s.capture kind source slot when_ arrival p).det.record,
      recordEnding := (s.capture kind source slot when_ arrival p).det.recordEnding,
      overflowed := (s.capture kind source slot when_ arrival p).det.overflowed } := State.capturePut_det ..

theorem State.captureCmd_det (s : State) (c : Cmd) : (s.captureCmd c).det = { s.det with
    ring := (s.captureCmd c).det.ring, captureOrder := (s.captureCmd c).det.captureOrder,
    record := (s.captureCmd c).det.record, recordEnding := (s.captureCmd c).det.recordEnding,
    overflowed := (s.captureCmd c).det.overflowed } := by
  simp only [State.captureCmd]
  split
  · exact State.capture_det ..
  · rw [State.capture_det 2, State.capture_det 1]

theorem State.taken_det (s : State) (t : Nat) (c : Cmd) : (s.taken t c).det = { s.det with
    ring := (s.taken t c).det.ring, captureOrder := (s.taken t c).det.captureOrder,
    record := (s.taken t c).det.record, recordEnding := (s.taken t c).det.recordEnding,
    overflowed := (s.taken t c).det.overflowed } := State.captureCmd_det (s.at t) c

section
variable (s : State) (t : Nat) (c : Cmd)
@[simp] theorem State.taken_written : (s.taken t c).det.written = s.det.written := by rw [State.taken_det]
@[simp] theorem State.taken_consumed : (s.taken t c).det.consumed = s.det.consumed := by rw [State.taken_det]
@[simp] theorem State.taken_opDigest : (s.taken t c).det.opDigest = s.det.opDigest := by rw [State.taken_det]
@[simp] theorem State.taken_slipLog : (s.taken t c).det.slipLog = s.det.slipLog := by rw [State.taken_det]
@[simp] theorem State.taken_replay : (s.taken t c).det.replay = s.det.replay := by rw [State.taken_det]
@[simp] theorem State.taken_replayStalled : (s.taken t c).det.replayStalled = s.det.replayStalled := by rw [State.taken_det]
@[simp] theorem State.taken_keyMismatch : (s.taken t c).det.keyMismatch = s.det.keyMismatch := by rw [State.taken_det]
end

/-- Nothing is captured while no frame is recorded. -/
theorem State.capture_off {s : State} (h : s.det.record = false) (kind source slot when_ arrival : Nat) (p : List Byte) :
    s.capture kind source slot when_ arrival p = s := by
  simp [State.capture, State.capturePut, h]

theorem State.taken_off {s : State} (h : s.det.record = false) (t : Nat) (c : Cmd) : s.taken t c = s.at t := by
  have hoff := fun k so sl w a p => State.capture_off (s := s.at t) h k so sl w a p
  simp only [State.taken, State.captureCmd, hoff, ite_self]

theorem length_captureEntry_le (e : Capture) : (captureEntry e).length ≤ 44 + e.payload.length := by
  simp only [captureEntry, padTo, List.length_append, le_length, length_zeros]
  omega

/-- An entry that fits leaves recording on. -/
theorem State.capture_record {s : State} (h : s.det.record = true) {p : List Byte}
    (hroom : s.det.ring.length + p.length ≤ 536870000) (kind source slot when_ arrival : Nat) :
    (s.capture kind source slot when_ arrival p).det.record = true := by
  unfold State.capture State.capturePut
  dsimp only
  rw [if_pos h, if_pos]
  · exact h
  · refine (Nat.add_le_add_left (length_captureEntry_le _) _).trans ?_
    simp only
    omega

/-- A short command without bulk data leaves recording on. -/
theorem State.taken_record {s : State} {fn slot op : Nat} {c : Cmd} (hslot : isSlot fn slot) (h : s.isReady op fn slot c)
    (hr : s.det.record = true) (hroom : s.det.ring.length ≤ 536000000) (hb : c.bulk = []) (hd : c.descs = [])
    (hp : c.payload.length ≤ 8) (t : Nat) : (s.taken t c).det.record = true := by
  obtain ⟨-, hs⟩ := State.cmd?_slot h.1
  have hlen : ((s.at t).message c).length ≤ 40 := by
    rw [State.message, if_neg (by rw [hs]; exact Nat.not_le.mpr hslot.2), Mem.length_readBytes, hd]
    simp only [List.length_nil]
    omega
  unfold State.taken State.captureCmd
  rw [hb]
  exact State.capture_record (s := s.at t) hr (by simpa using by omega) ..

section
variable {s : State} {fn slot : Nat} {c : Cmd} (hslot : isSlot fn slot) (t : Nat)
include hslot

/-- The determinism block with recording armed for the next frame open. -/
def Determinism.armed (c : Cmd) (d : Determinism) : Determinism :=
  { d with recordNext := true, captureWidx := getU c.payload 0 8, captureDescs := c.descs, frameEnds := [],
           recordEnding := false }

theorem recordStart_waits (h : s.isReady 0x0701 fn slot c) (hlen : c.payload.length = 16)
    (hz : allZero (slice c.payload 8 8) = true) (hw : getU c.payload 0 8 % 8 = 0) (hdev : s.frame.devState ∈ [0, 1, 2])
    (hr : s.det.record = false) (hn : s.det.recordNext = false) (he : s.det.recordEnded = false) :
    ∃ s', exec (.recordStart fn slot t) s = .next s' ∧
      (∃ c', s'.cmd? fn slot = some c' ∧ c'.stage = .waiting ∧ c'.response = none) ∧ s'.det = s.det.armed c ∧
      { s' with time := s.time, det := s.det, mbx := { s'.mbx with cmds := s.mbx.cmds } } = s := by
  have hbody : bodyRecordStart c (s.taken t c) = ((s.at t).modDet (Determinism.armed c)).wait c := by
    rw [State.taken_off hr]
    unfold bodyRecordStart
    dsimp only
    rw [State.shape_pos hlen (by simpa using hz), State.need_pos (by simpa [State.devIn, Determinism.recording, hr, hn, he] using hdev),
      State.need_pos (by simpa using hw)]
    rfl
  have hrow := (exec_recordStart fn slot t s).trans (execTaken hslot h t _)
  rw [hbody] at hrow
  exact ⟨_, hrow, ⟨_, State.cmd?_wait rfl h.1, rfl, h.2.2.2.1⟩, rfl, rfl⟩

theorem recordStop_waits (h : s.isReady 0x0702 fn slot c) (hp : c.payload = []) (hr : s.det.record = true)
    (hroom : s.det.ring.length ≤ 536000000) (hb : c.bulk = []) (hd : c.descs = []) :
    ∃ s', exec (.recordStop fn slot t) s = .next s' ∧
      (∃ c', s'.cmd? fn slot = some c' ∧ c'.stage = .waiting ∧ c'.response = none) ∧
      s'.det.recordEnding = true ∧ s'.det.record = true ∧ s.onlyAnswered s' := by
  have hrec := State.taken_record hslot h hr hroom hb hd (by simp [hp]) t
  refine ⟨_, (exec_recordStop fn slot t s).trans (execTaken hslot h t _), ?_⟩
  unfold bodyRecordStop
  rw [State.shape_pos (by simp [hp]) (by simp), State.need_pos (by simp [hrec])]
  refine ⟨⟨_, State.cmd?_wait (by simp) h.1, rfl, h.2.2.2.1⟩, rfl, hrec, ?_⟩
  unfold State.onlyAnswered
  apply State.ext_parts <;> simp

theorem captureRelease_answers (h : s.isReady 0x0703 fn slot c) (hlen : c.payload.length = 8) (hr : s.det.record = true)
    (hroom : s.det.ring.length ≤ 536000000) (hb : c.bulk = []) (hd : c.descs = []) (hn : getU c.payload 0 8 ≤ s.det.written) :
    ∃ s', exec (.captureRelease fn slot t) s = .next s' ∧ s'.reply? fn slot = some (okReply []) ∧
      s'.det.consumed = max s.det.consumed (getU c.payload 0 8) ∧ s'.det.written = s.det.written ∧ s.onlyAnswered s' := by
  have hrec := State.taken_record hslot h hr hroom hb hd (by simp [hlen]) t
  refine ⟨_, (exec_captureRelease fn slot t s).trans (execTaken hslot h t _), ?_⟩
  unfold bodyCaptureRelease
  dsimp only
  rw [State.shape_pos hlen (by simp), State.need_pos (by simp [Determinism.recording, hrec]),
    State.need_pos (by simpa using hn)]
  refine ⟨State.answered h (by simp) _ _, by simp, by simp, ?_⟩
  unfold State.onlyAnswered
  apply State.ext_parts <;> simp

theorem opDigestSet_answers (h : s.isReady 0x0704 fn slot c) (hlen : c.payload.length = 8)
    (hz : allZero (slice c.payload 1 7) = true) (hv : getU c.payload 0 1 ≤ 1) (hdev : s.frame.devState ∈ [0, 1, 2]) :
    ∃ s', exec (.opDigestSet fn slot t) s = .next s' ∧ s'.reply? fn slot = some (okReply []) ∧
      (s.frame.devState = 0 → s'.det.opDigest = (getU c.payload 0 1 == 1) ∧ s'.det.opDigestNext = none) ∧
      (s.frame.devState ≠ 0 → s'.det.opDigest = s.det.opDigest ∧ s'.det.opDigestNext = some (getU c.payload 0 1 == 1)) ∧
      s.onlyAnswered s' := by
  refine ⟨_, (exec_opDigestSet fn slot t s).trans (execTaken hslot h t _), ?_⟩
  unfold bodyOpDigestSet
  rw [State.shape_pos hlen (by simpa using hz), State.need_pos (by simpa [State.devIn] using hdev),
    State.need_pos (by simpa using hv)]
  unfold State.settleIdle
  rw [State.modDet_frame, State.taken_frame]
  split
  · next h0 =>
    refine ⟨State.answered h (by simp [State.settleDigest]) _ _, fun _ => by simp [State.settleDigest], fun hne => absurd h0 hne, ?_⟩
    unfold State.onlyAnswered
    apply State.ext_parts <;> simp [State.settleDigest]
  · next h0 =>
    refine ⟨State.answered h (by simp) _ _, fun he => absurd he h0, fun _ => by simp, ?_⟩
    unfold State.onlyAnswered
    apply State.ext_parts <;> simp

end

/-- Nothing but the command table differs. -/
def State.AtMbx (s s' : State) : Prop := ∃ m, s' = { s with mbx := m }

/-- The end of recording answers the commands that wait for it and marks the block. -/
theorem State.stopRecorded_atMbx (s : State) : (s.modDet fun d => { d with recordEnded := false }).AtMbx s.stopRecorded := by
  unfold State.stopRecorded
  dsimp only
  refine State.foldl_inv _ _ (fun x c hx => ?_) _ _ ⟨_, rfl⟩
  obtain ⟨m, rfl⟩ := hx
  exact ⟨_, rfl⟩

theorem State.captureWrite_atHost (descs : List Desc) (bs : List Byte) :
    ∀ (pos : Nat) (s : State), s.AtHost (s.captureWrite descs pos bs) := by
  induction bs with
  | nil => exact fun _ s => .refl s
  | cons b bs ih =>
    intro pos s
    unfold State.captureWrite
    dsimp only
    split
    · exact (State.hostWrite_atHost ..).trans (ih ..)
    · exact ih ..

/-- The bytes that a drain of `bytes` may move (R349). -/
def Determinism.movable (bytes : Nat) (d : Determinism) : Nat :=
  min (min bytes d.ring.length) (d.consumed + sumN (d.captureDescs.map (·.len)) - d.written)

/-- The block with `n` bytes drained. -/
def Determinism.drained (n : Nat) (d : Determinism) : Determinism := { d with ring := d.ring.drop n, written := d.written + n }

/-- What a drain leaves beside host memory and the hub's counters: at most the command table and the block's other marks. -/
structure State.Drained (s s' : State) (n : Nat) : Prop where
  written : s'.det.written = s.det.written + n
  ring : s'.det.ring = s.det.ring.drop n
  hbm : s'.hbm = s.hbm
  frame : s'.frame = s.frame
  sessions : s'.sessions = s.sessions

theorem State.Drained.stop {s s' : State} {n : Nat} (h : s.Drained s' n) : s.Drained s'.stopRecorded n := by
  obtain ⟨m, hm⟩ := s'.stopRecorded_atMbx
  rw [hm]
  exact ⟨h.written, h.ring, h.hbm, h.frame, h.sessions⟩

/-- The write of the index at a frame's end. -/
theorem State.Drained.widx {s s' : State} {n : Nat} (h : s.Drained s' n) (a : Nat) (bs : List Byte)
    (g : Determinism → List Nat) : s.Drained ((s'.hostWrite 0 a bs).modDet fun d => { d with frameEnds := g d }) n := by
  obtain ⟨m, sc, hm⟩ := s'.hostWrite_atHost 0 a bs
  rw [hm]
  exact ⟨h.written, h.ring, h.hbm, h.frame, h.sessions⟩

/-- The bytes moved, before the index and the answers. -/
theorem State.Drained.moved (s : State) (n : Nat) : s.Drained ((s.captureWrite s.det.captureDescs s.det.written
    (s.det.ring.take n)).modDet fun d => { d with ring := d.ring.drop n, written := s.det.written + n }) n := by
  obtain ⟨m, sc, hm⟩ := s.captureWrite_atHost s.det.captureDescs (s.det.ring.take n) s.det.written
  rw [hm]
  exact ⟨rfl, rfl, rfl, rfl, rfl⟩

/-- A drain moves the bytes it may, after an OVERFLOW none. -/
theorem State.captureDrain_drained (bytes : Nat) (s : State) :
    s.Drained (s.captureDrain bytes) (if s.det.overflowed then 0 else s.det.movable bytes) := by
  simp only [State.captureDrain]
  split
  · exact State.Drained.stop ⟨rfl, rfl, rfl, rfl, rfl⟩
  · have hmoved := State.Drained.moved s (s.det.movable bytes)
    split <;> split
    · exact (hmoved.widx _ _ fun d => _).stop
    · exact hmoved.widx _ _ fun d => _
    · exact hmoved.stop
    · exact hmoved

theorem captureDrain_bounded (s : State) (bytes t : Nat) : ∃ s' n, exec (.captureDrain bytes t) s = .next s' ∧
    n = (if s.det.overflowed then 0
      else min (min bytes s.det.ring.length) (s.det.consumed + sumN (s.det.captureDescs.map (·.len)) - s.det.written)) ∧
    (s.det.overflowed = true → s'.host = s.host) ∧
    s'.det.written = s.det.written + n ∧ s'.det.ring = s.det.ring.drop n ∧
    (s'.det.written ≤ s.det.consumed + sumN (s.det.captureDescs.map (·.len)) ∨ s'.det.written = s.det.written) ∧
    s'.hbm = s.hbm ∧ s'.frame = s.frame ∧ s'.sessions = s.sessions := by
  obtain ⟨hw, hring, hhbm, hframe, hses⟩ := (s.at t).captureDrain_drained bytes
  refine ⟨_, _, (exec_captureDrain bytes t s).trans (ranAt_pos rfl ..), rfl, fun ho => ?_, hw, hring, ?_, hhbm, hframe, hses⟩
  · obtain ⟨m, hm⟩ := (s.at t).stopRecorded_atMbx
    have hstop : (s.at t).captureDrain bytes = (s.at t).stopRecorded := by
      unfold State.captureDrain
      dsimp only
      exact if_pos ho
    rw [hstop, hm]
    rfl
  · refine (show _ ∨ _ from ?_).imp (fun h => le_of_eq_of_le hw h) fun h => hw.trans h
    change s.det.written + (if s.det.overflowed then 0 else s.det.movable bytes) ≤ _ ∨
      s.det.written + (if s.det.overflowed then 0 else s.det.movable bytes) = _
    unfold Determinism.movable
    split <;> omega

theorem length_slipBytes (e : SlipEntry) : (slipBytes e).length = 16 := by simp [slipBytes, le_length]

theorem length_flatMap_slipBytes (es : List SlipEntry) : (es.flatMap slipBytes).length = 16 * es.length := by
  simp [List.length_flatMap, length_slipBytes, Nat.mul_comm]

theorem slipLogRead_answers {s : State} {fn slot : Nat} {c : Cmd} {a len : Nat} {es : List SlipEntry} (t : Nat)
    (hslot : isSlot fn slot) (h : s.isReady 0x070C fn slot c) (hlen : c.payload.length = 8)
    (hz : allZero (slice c.payload 4 4) = true) (hd : c.descs = [{ addr := a, len := len, write := true }])
    (hdma : s.dmaOk fn = true)
    (hes : es = (s.det.slipLog.filter fun e => !laterFrame (BitVec.ofNat 32 (getU c.payload 0 4)) e.frame).take (len / 16)) :
    ∃ s', exec (.slipLogRead fn slot t) s = .next s' ∧ s'.reply? fn slot = some (okReply (le 4 es.length)) ∧
      s'.host = Mem.writeBytes a (es.flatMap slipBytes) s.host ∧ s'.det.slipLog = s.det.slipLog ∧ s.onlyDelivered s' c := by
  obtain ⟨hfn, -⟩ := State.cmd?_slot h.1
  have hroom : c.room = len := by simp [Cmd.room, hd, sumN]
  have hfit : (es.flatMap slipBytes).length ≤ len := by
    rw [length_flatMap_slipBytes, hes]
    have := List.length_take_le (len / 16)
      (s.det.slipLog.filter fun e => !laterFrame (BitVec.ofNat 32 (getU c.payload 0 4)) e.frame)
    omega
  have hrow := (exec_slipLogRead fn slot t s).trans (execTaken hslot h t _)
  have hbody : bodySlipLogRead c (s.taken t c) = ((s.taken t c).output c (es.flatMap slipBytes)).accept c (le 4 es.length) := by
    unfold bodySlipLogRead
    rw [State.shape_pos hlen (by simpa using hz), State.taken_slipLog, hroom, hes]
  rw [hbody] at hrow
  have hhost := State.output_one (c := c) (d := { addr := a, len := len, write := true }) (by simp [hd]) hfit
    (s := s.taken t c) (by rw [hfn]; simpa using hdma)
  exact ⟨_, hrow, State.answered h (by simp) _ _, hhost.trans (by rw [State.taken_host]), by simp,
    State.onlyDelivered_output ..⟩

/-- Settles O20. -/
theorem recordingAndSlips : Obligations.RecordingAndSlips :=
  ⟨fun _ _ _ t _ hslot => ⟨recordStart_waits hslot t, recordStop_waits hslot t, captureRelease_answers hslot t,
    opDigestSet_answers hslot t⟩, captureDrain_bounded, fun _ _ _ t _ _ _ _ => slipLogRead_answers t⟩

end Sys2Proof.Machine
end

section
/-!
SUPPORT. The replay queue and its waiting feeds (R300, R349), and the obligation on the replay commands.
-/
namespace Sys2Proof.Machine

section
variable {s : State} {fn slot : Nat} {c : Cmd} (hslot : isSlot fn slot) (hmode : s.boot.mode ≠ 1) (t : Nat)
include hslot hmode

theorem replayStart_answers (h : s.isArrived 0x0705 fn slot c) (hp : c.payload = [])
    (hdev : s.frame.devState = 0 ∨ s.frame.devState = 2) :
    ∃ s', exec (.replayStart fn slot t) s = .next s' ∧ s'.reply? fn slot = some (okReply []) ∧
      s'.frame.devState = 3 ∧ s'.frame.phase = .closed ∧ s'.det.replay = [] ∧ s'.det.keyMismatch = false ∧
      { s' with time := s.time, det := s.det, mbx := { s'.mbx with cmds := s.mbx.cmds }, frame := s.frame } = s := by
  refine ⟨_, (exec_replayStart fn slot t s).trans (execTakenA hslot h (fun hq => absurd hq hmode) (fun _ => rfl) t _), ?_⟩
  unfold bodyReplayStart
  rw [State.shape_pos (by simp [hp]) (by simp), State.need_pos (by simpa [State.devIn] using hdev)]
  unfold State.startGrid
  dsimp only
  refine ⟨State.answeredA h (by simp) _ _, by simp, by simp, by simp, by simp, ?_⟩
  apply State.ext_parts <;> simp

theorem replayFeed_refused {st k : Nat} (h : s.isArrived 0x0706 fn slot c) (hp : c.payload = []) (hdev : s.frame.devState = 3)
    (hkey : s.det.keyMismatch = false) (hcut : cutCapture (c.bulk.length + 1) 0 c.bulk = .inl (st, k)) :
    ∃ s', exec (.replayFeed fn slot t) s = .next s' ∧ s'.reply? fn slot = some (refusal st k) ∧
      s'.det.replay = s.det.replay ∧ s.onlyAnswered s' := by
  refine ⟨_, (exec_replayFeed fn slot t s).trans (execTakenA hslot h (fun hq => absurd hq hmode) (fun _ => rfl) t _), ?_⟩
  unfold bodyReplayFeed
  rw [State.shape_pos (by simp [hp]) (by simp), State.need_pos (by simp [State.devIn, hdev]), State.need_pos (by simp [hkey]),
    hcut]
  exact ⟨State.refusedA h (by simp) _ _ _, by simp, State.onlyAnswered_refuse ..⟩

end

/-- The bytes that a waiting feed has queued. -/
def State.fedBytes (s : State) (k : Nat × Nat) : Nat := ((s.cmd? k.1 k.2).map fun c => c.bulk.length).getD 0

/-- The bytes of the `i`-th feed are queued, once the bytes behind it are left out (R349). -/
def State.feedQueued (s : State) (i : Nat) : Bool :=
  decide (replayBytes s.det.replay - sumN ((s.det.replayStalled.drop (i + 1)).map s.fedBytes) ≤ 67108864)

/-- The command of a feed is answered. -/
def State.answerFeed (s : State) (k : Nat × Nat) : State := match s.cmd? k.1 k.2 with
  | some c => s.accept c
  | none => s

/-- The indices of the waiting feeds that are queued. -/
def State.queuedFeeds (s : State) : List Nat := (List.range s.det.replayStalled.length).filter s.feedQueued

/-- The feeds that go on waiting. -/
def State.keptFeeds (s : State) : List (Nat × Nat) :=
  ((List.range s.det.replayStalled.length).filter fun i => !s.feedQueued i).map fun i => s.det.replayStalled.getD i (0, 0)

theorem State.replayUnstall_eq (s : State) : s.replayUnstall =
    s.queuedFeeds.foldl (fun x i => x.answerFeed (s.det.replayStalled.getD i (0, 0)))
      (s.modDet fun d => { d with replayStalled := s.keptFeeds }) := rfl

theorem State.answerFeed_atMbx (s : State) (k : Nat × Nat) : ∃ l, s.answerFeed k = s.modMbx fun m => { m with cmds := l } := by
  unfold State.answerFeed
  split
  · exact ⟨_, rfl⟩
  · exact ⟨_, rfl⟩

/-- Nothing but the commands of the table differs. -/
def State.AtCmds (s s' : State) : Prop := ∃ l, s' = s.modMbx fun m => { m with cmds := l }

theorem State.replayUnstall_atCmds (s : State) :
    (s.modDet fun d => { d with replayStalled := s.keptFeeds }).AtCmds s.replayUnstall := by
  rw [State.replayUnstall_eq]
  refine State.foldl_inv _ _ (fun x i hx => ?_) _ _ ⟨_, rfl⟩
  obtain ⟨l, rfl⟩ := hx
  exact State.answerFeed_atMbx ..

theorem State.cmd?_accept (c : Cmd) (p : List Byte) (s : State) (fn slot : Nat) :
    (s.accept c p).cmd? fn slot = (s.cmd? fn slot).map (c.answer (okReply p)) :=
  State.cmd?_map s _ _ (fun x => by unfold Cmd.answer; (repeat' split) <;> exact ⟨rfl, rfl⟩) (by simp) fn slot

/-- The answer of a feed leaves the commands of the other slots. -/
theorem State.answerFeed_cmd?_ne {k : Nat × Nat} {fn slot : Nat} (hk : k ≠ (fn, slot)) (s : State) :
    (s.answerFeed k).cmd? fn slot = s.cmd? fn slot := by
  unfold State.answerFeed
  split
  · next x hx =>
    obtain ⟨hfn, hsl⟩ := State.cmd?_slot hx
    rw [State.cmd?_accept]
    cases hc : s.cmd? fn slot with
    | none => rfl
    | some c =>
      obtain ⟨hcf, hcs⟩ := State.cmd?_slot hc
      have hother : ¬(c.fn = x.fn ∧ c.slot = x.slot) := fun ⟨h1, h2⟩ =>
        hk (Prod.ext (hfn.symm.trans (h1.symm.trans hcf)) (hsl.symm.trans (h2.symm.trans hcs)))
      rw [Option.map_some, Cmd.answer, if_neg hother]
  · rfl

/-- The command of a feed has no response but the one of an answered feed. -/
def State.FeedOpen (s : State) (fn slot : Nat) : Prop :=
  ∃ c, s.cmd? fn slot = some c ∧ (c.response = none ∨ c.response = some (okReply []))

theorem State.FeedOpen.answerFeed {s : State} {fn slot : Nat} (h : s.FeedOpen fn slot) (k : Nat × Nat) :
    (s.answerFeed k).FeedOpen fn slot := by
  obtain ⟨c, hc, hresp⟩ := h
  unfold State.answerFeed
  split
  · next x hx =>
    refine ⟨x.answer (okReply []) c, by rw [State.cmd?_accept, hc, Option.map_some], ?_⟩
    unfold Cmd.answer
    split
    · split
      · exact .inr rfl
      · exact hresp
    · exact hresp
  · exact ⟨c, hc, hresp⟩

/-- Its own answer decides it. -/
theorem State.FeedOpen.reply {s : State} {fn slot : Nat} (h : s.FeedOpen fn slot) :
    (s.answerFeed (fn, slot)).reply? fn slot = some (okReply []) := by
  obtain ⟨c, hc, hresp⟩ := h
  unfold State.answerFeed
  simp only [hc]
  rw [State.reply?, State.cmd?_accept, hc, Option.map_some, Option.bind_some, Cmd.answer, if_pos ⟨rfl, rfl⟩]
  split
  · rfl
  · next hn => exact hresp.resolve_left hn

/-- The feed that came last is answered where every feed is queued. -/
theorem State.replayUnstall_queued {s : State} {fn slot : Nat} {l : List (Nat × Nat)}
    (hl : s.det.replayStalled = l ++ [(fn, slot)]) (hopen : s.FeedOpen fn slot)
    (hfit : replayBytes s.det.replay ≤ 67108864) :
    s.replayUnstall.reply? fn slot = some (okReply []) ∧ s.keptFeeds = [] := by
  have hall : ∀ i, s.feedQueued i = true := fun i => decide_eq_true ((Nat.sub_le _ _).trans hfit)
  have hqueued : s.queuedFeeds = List.range l.length ++ [l.length] := by
    rw [State.queuedFeeds, List.filter_eq_self.mpr fun i _ => hall i, hl, List.length_append, List.length_singleton,
      List.range_succ]
  refine ⟨?_, by simp [State.keptFeeds, hall]⟩
  rw [State.replayUnstall_eq, hqueued, List.foldl_append, List.foldl_cons, List.foldl_nil, hl,
    List.getD_append_right _ _ _ _ le_rfl, Nat.sub_self]
  refine State.FeedOpen.reply (State.foldl_inv (fun x => x.FeedOpen fn slot) _ (fun x i hx => hx.answerFeed _) _ _ ?_)
  exact hopen

/-- It goes on waiting where the queue is too long, and no earlier feed is its own. -/
theorem State.replayUnstall_waits {s : State} {fn slot : Nat} {l : List (Nat × Nat)}
    (hl : s.det.replayStalled = l ++ [(fn, slot)]) (hnew : (fn, slot) ∉ l)
    (hlong : 67108864 < replayBytes s.det.replay) :
    s.replayUnstall.cmd? fn slot = s.cmd? fn slot ∧ s.keptFeeds.getLast? = some (fn, slot) := by
  have hlast : s.feedQueued l.length = false := by
    simp [State.feedQueued, hl, sumN, hlong]
  have hlen : s.det.replayStalled.length = l.length + 1 := by simp [hl]
  constructor
  · rw [State.replayUnstall_eq]
    refine List.foldlRecOn (motive := fun x : State => x.cmd? fn slot = s.cmd? fn slot) _ _ rfl fun x hx i hi => ?_
    obtain ⟨hrange, hq⟩ := List.mem_filter.mp hi
    have hi : i < l.length := by
      have hne : i ≠ l.length := fun he => by rw [he, hlast] at hq; exact Bool.false_ne_true hq
      have := List.mem_range.mp hrange
      omega
    have hfeed : s.det.replayStalled.getD i (0, 0) = l[i] := by simp [hl, List.getD, List.getElem?_append_left hi, hi]
    rw [State.answerFeed_cmd?_ne (by rw [hfeed]; exact fun he => hnew (he ▸ List.getElem_mem hi))]
    exact hx
  · rw [State.keptFeeds, hlen, List.range_succ, List.filter_append, List.map_append, List.getLast?_append]
    simp [hlast, hl]

/-- The state with a feed's entries behind the queue and its command waiting. -/
def State.fed (s : State) (c : Cmd) (es : List Capture) : State :=
  (s.modDet fun d => { d with replay := d.replay ++ es, replayStalled := d.replayStalled ++ [(c.fn, c.slot)] }).wait c

/-- What a feed leaves: the queue, the waiting feeds, and beside them only commands. -/
theorem replayFeed_leaves (s : State) (t : Nat) (c : Cmd) (es : List Capture) :
    ((s.taken t c).fed c es).replayUnstall.det.replay = s.det.replay ++ es ∧
    ((s.taken t c).fed c es).replayUnstall.det.replayStalled = ((s.taken t c).fed c es).keptFeeds ∧
    s.onlyAnswered { ((s.taken t c).fed c es).replayUnstall with pending := s.pending } := by
  obtain ⟨l, hl⟩ := ((s.taken t c).fed c es).replayUnstall_atCmds
  rw [hl]
  refine ⟨by simp [State.fed], rfl, ?_⟩
  unfold State.onlyAnswered
  apply State.ext_parts <;> simp [State.fed]

section
variable {s : State} {fn slot : Nat} {c : Cmd} (hslot : isSlot fn slot) (hmode : s.boot.mode ≠ 1) (t : Nat)
include hslot hmode

theorem replayFeed_next {es : List Capture} (h : s.isArrived 0x0706 fn slot c) (hp : c.payload = [])
    (hdev : s.frame.devState = 3) (hkey : s.det.keyMismatch = false)
    (hcut : cutCapture (c.bulk.length + 1) 0 c.bulk = .inr es) :
    exec (.replayFeed fn slot t) s = .next { ((s.taken t c).fed c es).replayUnstall with pending := s.pending } := by
  refine ((exec_replayFeed fn slot t s).trans (execTakenA hslot h (fun hq => absurd hq hmode) (fun _ => rfl) t _)).trans ?_
  unfold bodyReplayFeed
  rw [State.shape_pos (by simp [hp]) (by simp), State.need_pos (by simp [State.devIn, hdev]), State.need_pos (by simp [hkey]),
    hcut]
  rfl

theorem replayFeed_answers {es : List Capture} (h : s.isArrived 0x0706 fn slot c) (hp : c.payload = [])
    (hdev : s.frame.devState = 3) (hkey : s.det.keyMismatch = false)
    (hcut : cutCapture (c.bulk.length + 1) 0 c.bulk = .inr es) (hfit : replayBytes (s.det.replay ++ es) ≤ 67108864) :
    ∃ s', exec (.replayFeed fn slot t) s = .next s' ∧ s'.reply? fn slot = some (okReply []) ∧
      s'.det.replay = s.det.replay ++ es ∧ s'.det.replayStalled = [] ∧ s.onlyAnswered s' := by
  obtain ⟨hfn, hsl⟩ := State.cmd?_slot h.1
  obtain ⟨hreplay, hstalled, honly⟩ := replayFeed_leaves s t c es
  have hopen : ((s.taken t c).fed c es).FeedOpen fn slot :=
    ⟨_, State.cmd?_wait (s := s) (by simp) h.1, .inl h.2.2.2.1⟩
  obtain ⟨hreply, hkept⟩ := State.replayUnstall_queued (s := (s.taken t c).fed c es) (fn := fn) (slot := slot) (l := (s.taken t c).det.replayStalled)
    (by rw [← hfn, ← hsl]; rfl) hopen
    (by simpa [State.fed] using hfit)
  exact ⟨_, replayFeed_next hslot hmode t h hp hdev hkey hcut, hreply, hreplay, hstalled.trans hkept, honly⟩

theorem replayFeed_waits {es : List Capture} (h : s.isArrived 0x0706 fn slot c) (hp : c.payload = [])
    (hdev : s.frame.devState = 3) (hkey : s.det.keyMismatch = false)
    (hcut : cutCapture (c.bulk.length + 1) 0 c.bulk = .inr es) (hlong : 67108864 < replayBytes (s.det.replay ++ es))
    (hnew : (fn, slot) ∉ s.det.replayStalled) :
    ∃ s', exec (.replayFeed fn slot t) s = .next s' ∧ s'.waitsAt fn slot ∧ s'.det.replay = s.det.replay ++ es ∧
      s'.det.replayStalled.getLast? = some (fn, slot) ∧ s.onlyAnswered s' := by
  obtain ⟨hfn, hsl⟩ := State.cmd?_slot h.1
  obtain ⟨hreplay, hstalled, honly⟩ := replayFeed_leaves s t c es
  obtain ⟨hcmd, hlast⟩ := State.replayUnstall_waits (s := (s.taken t c).fed c es) (fn := fn) (slot := slot) (l := (s.taken t c).det.replayStalled)
    (by rw [← hfn, ← hsl]; rfl) (by simpa using hnew) (by simpa [State.fed] using hlong)
  exact ⟨_, replayFeed_next hslot hmode t h hp hdev hkey hcut,
    ⟨_, hcmd.trans (State.cmd?_wait (s := s) (by simp) h.1), rfl, h.2.2.2.1⟩, hreplay, hstalled ▸ hlast, honly⟩

end

/-- One session of a pause: it pauses when it runs. -/
def State.pauseStep (cause : Nat) (s : State) (i : Nat) : State := if (s.ses i).state = 3 then s.sesTo i 4 cause else s

theorem State.pauseAll_eq (cause : Nat) (s : State) : s.pauseAll cause =
    ((List.range 16).foldl (State.pauseStep cause) s).modFrame fun f => { f with devState := 2, phase := .closed } := rfl

@[simp] theorem State.pauseStep_frame (cause : Nat) (s : State) (i : Nat) : (s.pauseStep cause i).frame = s.frame := by
  unfold State.pauseStep; split <;> simp

@[simp] theorem State.pauseStep_mbx (cause : Nat) (s : State) (i : Nat) : (s.pauseStep cause i).mbx = s.mbx := by
  unfold State.pauseStep; split <;> simp

@[simp] theorem State.pauseAll_frame (cause : Nat) (s : State) :
    (s.pauseAll cause).frame = { s.frame with devState := 2, phase := .closed } := by
  rw [State.pauseAll_eq, State.modFrame_frame, State.foldl_frame _ (State.pauseStep_frame cause)]

@[simp] theorem State.pauseAll_mbx (cause : Nat) (s : State) : (s.pauseAll cause).mbx = s.mbx := by
  rw [State.pauseAll_eq, State.modFrame_mbx, State.foldl_mbx _ (State.pauseStep_mbx cause)]

theorem State.pauseStep_length (cause : Nat) (s : State) (i : Nat) : (s.pauseStep cause i).sessions.length = s.sessions.length := by
  unfold State.pauseStep; split
  · exact State.sesTo_length ..
  · rfl

theorem State.pauseStep_state {s : State} {i : Nat} (hi : i < s.sessions.length) (cause j : Nat) :
    ((s.pauseStep cause i).ses j).state = if j = i ∧ (s.ses j).state = 3 then 4 else (s.ses j).state := by
  unfold State.pauseStep
  by_cases hj : j = i
  · subst hj
    by_cases h : (s.ses j).state = 3
    · rw [if_pos h, if_pos ⟨rfl, h⟩, State.sesTo_state _ _ _ _ hi]
    · rw [if_neg h, if_neg fun hc => h hc.2]
  · rw [if_neg (c := j = i ∧ (s.ses j).state = 3) fun hc => hj hc.1]
    split
    · exact (Session.core_fields ((State.sesTo_core i 4 cause s j).trans (if_neg fun hc => hj hc.1))).1
    · rfl

theorem State.foldl_pauseStep_state (cause j : Nat) (l : List Nat) : ∀ s : State, (∀ i ∈ l, i < s.sessions.length) →
    ((l.foldl (State.pauseStep cause) s).ses j).state = if j ∈ l ∧ (s.ses j).state = 3 then 4 else (s.ses j).state := by
  induction l with
  | nil => exact fun s _ => by simp
  | cons i l ih =>
    intro s hl
    rw [List.foldl_cons, ih _ fun k hk => State.pauseStep_length cause s i ▸ hl k (List.mem_cons_of_mem i hk),
      State.pauseStep_state (hl i List.mem_cons_self)]
    by_cases hj : j = i
    · subst hj
      by_cases hst : (s.ses j).state = 3 <;> simp [hst]
    · simp [hj]

/-- Every running session is paused. -/
theorem State.pauseAll_state {s : State} (hlen : s.sessions.length = 16) (cause : Nat) {j : Nat} (hj : j < 16) :
    ((s.pauseAll cause).ses j).state = if (s.ses j).state = 3 then 4 else (s.ses j).state := by
  rw [State.pauseAll_eq, State.ses_congr (State.modFrame_sessions ..), State.foldl_pauseStep_state cause j _ s fun i hi => by
    rw [hlen]; exact List.mem_range.mp hi]
  simp [hj]

theorem replayStop_answers {s : State} {fn slot : Nat} {c : Cmd} (hslot : isSlot fn slot) (hmode : s.boot.mode ≠ 1) (t : Nat)
    (h : s.isArrived 0x0707 fn slot c) (hp : c.payload = []) (hdev : s.frame.devState = 3) (hlen : s.sessions.length = 16)
    (hphase : s.frame.phase = .closed ∨ s.frame.phase = .guarded)
    (hready : ∀ e ∈ s.det.replay, ¬(e.kind = 6 ∧ e.frame = s.frame.counter + 1)) :
    ∃ s', exec (.replayStop fn slot t) s = .next s' ∧ s'.reply? fn slot = some (okReply []) ∧
      s'.frame.devState = 2 ∧ s'.frame.phase = .closed ∧
      ∀ j < 16, (s'.ses j).state = if (s.ses j).state = 3 then 4 else (s.ses j).state := by
  have hnone : (s.taken t c).replayReady = false := by
    rw [Bool.eq_false_iff]
    simpa [State.replayReady] using hready
  have hrow := (exec_replayStop fn slot t s).trans (execTakenA hslot h (fun hq => absurd hq hmode) (fun _ => rfl) t _)
  have hbody : bodyReplayStop c (s.taken t c) = ((s.taken t c).pauseAll 0x0707).accept c := by
    unfold bodyReplayStop
    rw [State.shape_pos (by simp [hp]) (by simp), State.need_pos (by simp [State.devIn, hdev])]
    rw [if_pos ⟨by simpa using hphase, by simp [hnone]⟩]
  rw [hbody] at hrow
  refine ⟨_, hrow, State.answeredA h (by simp) _ _, by simp, by simp, fun j hj => ?_⟩
  rw [State.ses_congr (s := (s.taken t c).pauseAll 0x0707) (by simp), State.pauseAll_state (by simpa using hlen) _ hj,
    State.taken_ses]

/-- A captured correction that is due (R300). -/
def State.corrDue (s : State) (corr : Int) (src : Nat) (e : Capture) : Bool :=
  e.kind == 4 && e.frame == s.frame.counter && e.payload == timeCorrBody corr src
    && decide (s.frame.openTime + e.offset ≤ s.time.now)

theorem State.timeCorrApply_due {s : State} {corr : Int} {src : Nat} (hdev : s.frame.devState = 3)
    (hany : s.det.replay.any (s.corrDue corr src) = true) : s.timeCorrApply corr src =
      (s.modDet fun d => { d with replay := d.replay.eraseP (s.corrDue corr src) }).modTime fun b => { b with
        now := ((b.now : Int) + corr).toNat, corrections := b.corrections ++ [(b.now, corr)] } :=
  if_pos ⟨hdev, hany⟩

theorem timeCorrApply_applies {s : State} (t : Nat) {corr : Int} {src : Nat} {e : Capture} (hdev : s.frame.devState = 3)
    (he : e ∈ s.det.replay) (hk : e.kind = 4) (hf : e.frame = s.frame.counter)
    (hp : e.payload = leS 8 corr ++ le 1 src ++ zeros 7) (hdue : s.frame.openTime + e.offset ≤ max s.time.now t) :
    ∃ s', exec (.timeCorrApply corr src t) s = .next s' ∧ s'.time.now = ((max s.time.now t : Nat) + corr).toNat ∧
      s'.det.replay.length + 1 = s.det.replay.length ∧ { s' with time := s.time, det := s.det } = s := by
  have hany : (s.at t).det.replay.any ((s.at t).corrDue corr src) = true :=
    List.any_eq_true.mpr ⟨e, he, by simpa [State.corrDue, hk, hf, hp, timeCorrBody] using hdue⟩
  have hpos := List.length_pos_of_mem he
  have hlen : ((s.at t).det.replay.eraseP ((s.at t).corrDue corr src)).length = s.det.replay.length - 1 := by
    obtain ⟨x, hx, hdx⟩ := List.any_eq_true.mp hany
    exact List.length_eraseP_of_mem hx hdx
  refine ⟨_, (exec_timeCorrApply corr src t s).trans (ranAt_pos rfl ..), ?_⟩
  rw [State.timeCorrApply_due (s := s.at t) hdev hany]
  exact ⟨rfl, (congrArg (· + 1) hlen).trans (Nat.sub_add_cancel hpos), rfl⟩

/-- Settles O21. -/
theorem replayCommands : Obligations.ReplayCommands :=
  fun _ _ _ t _ hslot hmode => ⟨replayStart_answers hslot hmode t, fun _ => replayFeed_answers hslot hmode t,
    fun _ => replayFeed_waits hslot hmode t, fun _ _ => replayFeed_refused hslot hmode t, replayStop_answers hslot hmode t,
    fun _ _ _ => timeCorrApply_applies t⟩

end Sys2Proof.Machine
end

section
/-!
SUPPORT. The obligation on PAUSE, SAVE, RESTORE and RESUME (R303-R305, R318).
-/
namespace Sys2Proof.Machine

theorem State.taken_nextFrt (s : State) (t : Nat) (c : Cmd) : (s.taken t c).nextFrt = s.nextFrt := by simp [State.nextFrt]

@[simp] theorem State.taken_saved (s : State) (t : Nat) (c : Cmd) : (s.taken t c).saved = s.saved := by
  simp [State.saved, State.taken_nextFrt]

/-- The bytes that one write descriptor takes. -/
theorem State.output_take {c : Cmd} {d : Desc} (hd : c.descs.filter (·.write) = [d]) (bs : List Byte)
    {s : State} (hdma : s.dmaOk c.fn = true) : (s.output c bs).host = Mem.writeBytes d.addr (bs.take d.len) s.host := by
  rw [State.output_eq, hd, List.foldl_cons, List.foldl_nil, State.outputTo, State.hostWrite_host, if_pos hdma]

/-- The state with an image of `x` among the saved ones. -/
def State.keepImage (x : SavedState) (s : State) : State := { s with
  saves := (s.saves.filter fun (y : List Byte × SavedState) => y.1 != Config.stateImage x) ++ [(Config.stateImage x, x)] }

/-- The first image kept stands for the state saved, whatever follows it. -/
theorem State.imageState_first {s : State} {x : SavedState} (h : s.saves = [(Config.stateImage x, x)]) (pad : List Byte) :
    s.imageState (Config.stateImage x ++ pad) = some x := by
  simp [State.imageState, h]

/-- A delivery touches host memory, the hub's selectable counters and the commands. -/
theorem State.deliver_leaves (c : Cmd) (bs p : List Byte) (s : State) : ∃ m l cs, s.deliver c bs p = { s with
    host := m, hub := { s.hub with selCounters := l }, mbx := { s.mbx with cmds := cs } } := by
  obtain ⟨m, l, h⟩ := State.output_atHost c bs s
  simp only [State.deliver]
  split <;> rw [h] <;> exact ⟨m, l, _, rfl⟩

theorem State.deliver_host (c : Cmd) (bs p : List Byte) (s : State) : (s.deliver c bs p).host = (s.output c bs).host := by
  simp only [State.deliver]
  split <;> rfl

/-- What a row that delivers changes, the saved images apart. -/
theorem State.onlyDelivered_deliver (s : State) (t : Nat) (c : Cmd) (bs p : List Byte) (x : SavedState) :
    s.onlyDelivered { { ((s.taken t c).keepImage x).deliver c bs p with pending := s.pending } with saves := s.saves } c := by
  refine ⟨fun a ha => ?_, ?_⟩
  · exact (congrArg (Mem.read a) (State.deliver_host c bs p _)).trans
      ((State.output_read ha bs _).trans (congrArg (Mem.read a) (s.taken_host t c)))
  · obtain ⟨m, l, cs, h⟩ := State.deliver_leaves c bs p ((s.taken t c).keepImage x)
    rw [h]
    apply State.ext_parts <;> simp [State.keepImage]

/-- The answer of a delivery. -/
theorem State.deliver_reply {s : State} {fn slot : Nat} {c : Cmd} (h : s.cmd? fn slot = some c) (hn : c.response = none)
    (bs p : List Byte) : (s.deliver c bs p).reply? fn slot =
      some (if bs.length ≤ c.room then okReply p else { status := 0x0307, payload := le 4 c.room }) := by
  have hcmd : (s.output c bs).cmd? fn slot = some c := (State.cmd?_mbx (State.output_mbx ..) fn slot).trans h
  simp only [State.deliver]
  split
  · exact State.reply?_respond _ hcmd (State.cmd?_slot h) hn
  · exact State.reply?_respond _ hcmd (State.cmd?_slot h) hn

/-- The state that a saved one stands for, before the waiting commands are judged again. -/
def State.restored (x : SavedState) (s : State) : State := { s with
  worlds := { s.worlds with
    ws := (List.range 4).map fun w => x.worlds.ws.getD w {}, allocated := x.worlds.allocated,
    freeing := x.worlds.freeing, workcells := x.worlds.workcells, badHandles := x.worlds.badHandles },
  hbm := Mem.ofCells x.hbm, streams := x.streams,
  sessions := (List.range 16).map fun i => { x.sessions.getD i {} with counters := (s.ses i).counters },
  frame := { s.frame with counter := x.counter, t0s := x.nextFrt, k := 0 } }

/-- The command of a row runs: it is in its slot, without a response, and does not wait. -/
def State.runs (s : State) (op fn slot : Nat) : Prop :=
  ∃ c, s.cmd? fn slot = some c ∧ c.opcode = op ∧ c.stage = .ready ∧ c.response = none

/-- A session judged again answers only commands that wait, or stream and query commands. -/
theorem State.reJudge_cmds (i : Nat) (s : State) : ∃ f : Cmd → Cmd, (∀ x, (f x).fn = x.fn ∧ (f x).slot = x.slot) ∧
    (∀ x, x.stage = .ready → (x.opcode < 0x0504 ∨ 0x0507 < x.opcode) → f x = x) ∧
    (s.reJudge i).mbx.cmds = s.mbx.cmds.map f := by
  simp only [State.reJudge]
  split
  · exact ⟨_, fun x => by split <;> exact ⟨rfl, rfl⟩, fun x hx _ => if_neg (by simp [hx]), rfl⟩
  · refine ⟨_, fun x => ?_, fun x hx hop => if_neg ?_, rfl⟩
    · split <;> exact ⟨rfl, rfl⟩
    · simp [hx]; omega

theorem State.reJudge_runs {s : State} {op fn slot : Nat} (h : s.runs op fn slot) (hop : op < 0x0504 ∨ 0x0507 < op) (i : Nat) :
    (s.reJudge i).runs op fn slot := by
  obtain ⟨c, hc, hopc, hst, hn⟩ := h
  obtain ⟨f, hf, hkeep, hmap⟩ := s.reJudge_cmds i
  exact ⟨c, by rw [State.cmd?_map s _ f hf hmap, hc, Option.map_some, hkeep c hst (hopc ▸ hop)], hopc, hst, hn⟩

theorem State.reJudge_atCmds (i : Nat) (s : State) : s.AtCmds (s.reJudge i) := by
  simp only [State.reJudge]
  split <;> exact ⟨_, rfl⟩

theorem State.AtCmds.trans {a b d : State} (h : a.AtCmds b) (h' : b.AtCmds d) : a.AtCmds d := by
  obtain ⟨l, rfl⟩ := h
  obtain ⟨l', rfl⟩ := h'
  exact ⟨l', rfl⟩

theorem State.restoreFrom_atCmds (x : SavedState) (s : State) : (s.restored x).AtCmds (s.restoreFrom x) := by
  unfold State.restoreFrom
  dsimp only
  refine State.foldl_inv _ _ (fun y i hy => hy.trans (State.reJudge_atCmds i y)) _ _ ?_
  exact ⟨_, rfl⟩

theorem State.restoreFrom_runs {s : State} {op fn slot : Nat} (h : s.runs op fn slot) (hop : op < 0x0504 ∨ 0x0507 < op)
    (x : SavedState) : (s.restoreFrom x).runs op fn slot := by
  obtain ⟨c, hc, hopc, hst, hn⟩ := h
  unfold State.restoreFrom
  dsimp only
  refine State.foldl_inv (fun y => y.runs op fn slot) _ (fun y i hy => State.reJudge_runs hy hop i) _ _ ?_
  refine ⟨{ c with frame := x.counter + 1 }, ?_, hopc, hst, hn⟩
  rw [State.cmd?_map s _ _ (fun y => ?_) rfl, hc, Option.map_some, if_pos hn]
  split <;> exact ⟨rfl, rfl⟩

section
variable {s : State} {fn slot : Nat} {c : Cmd} (hslot : isSlot fn slot) (t : Nat)
include hslot

theorem pause_waits (h : s.isReady 0x0708 fn slot c) (hp : c.payload = []) (hdev : s.frame.devState = 1) :
    ∃ s', exec (.pause fn slot t) s = .next s' ∧ s'.waitsAt fn slot ∧
      s'.req = { s.req with pausing := true, hostPaused := true } ∧
      { s' with time := s.time, det := s.det, mbx := { s'.mbx with cmds := s.mbx.cmds }, req := s.req } = s := by
  refine ⟨_, (exec_pause fn slot t s).trans (execTaken hslot h t _), ?_⟩
  unfold bodyPause
  rw [State.shape_pos (by simp [hp]) (by simp), State.need_pos (by simp [State.devIn, hdev])]
  refine ⟨⟨_, State.cmd?_wait (by simp) h.1, rfl, h.2.2.2.1⟩, by simp, ?_⟩
  apply State.ext_parts <;> simp

theorem resume_waits (h : s.isReady 0x070B fn slot c) (hlen : c.payload.length = 8) (hdev : s.frame.devState = 2)
    (ht : max s.time.now t + 1000 * ticksPerUs ≤ getU c.payload 0 8) :
    ∃ s', exec (.resume fn slot t) s = .next s' ∧ s'.waitsAt fn slot ∧
      s'.frame = { s.frame with devState := 1, t0s := getU c.payload 0 8, k := 0, nextOpen := getU c.payload 0 8,
                                phase := .closed, resumeNext := true } ∧
      s'.req = { s.req with hostPaused := false, autoPaused := false } ∧
      { s' with time := s.time, det := s.det, mbx := { s'.mbx with cmds := s.mbx.cmds }, frame := s.frame,
                req := s.req } = s := by
  refine ⟨_, (exec_resume fn slot t s).trans (execTaken hslot h t _), ?_⟩
  unfold bodyResume State.startGrid
  dsimp only
  rw [State.shape_pos hlen (by simp), State.need_pos (by simp [State.devIn, hdev]), State.need_pos (by simpa using ht)]
  refine ⟨⟨_, State.cmd?_wait (by simp) h.1, rfl, h.2.2.2.1⟩, by simp, by simp, ?_⟩
  apply State.ext_parts <;> simp

theorem save_answers (h : s.isReady 0x0709 fn slot c) (hp : c.payload = []) (hdev : s.frame.devState = 2) :
    ∃ s', exec (.save fn slot t) s = .next s' ∧
      ((Config.stateImage s.saved).length ≤ sumN ((c.descs.filter (·.write)).map (·.len)) →
        s'.reply? fn slot = some (okReply (le 4 (Config.stateImage s.saved).length))) ∧
      (sumN ((c.descs.filter (·.write)).map (·.len)) < (Config.stateImage s.saved).length →
        s'.reply? fn slot = some { status := 0x0307, payload := le 4 (sumN ((c.descs.filter (·.write)).map (·.len))) }) ∧
      (∀ a len, c.descs = [{ addr := a, len := len, write := true }] → s.dmaOk fn = true →
        s'.host = Mem.writeBytes a ((Config.stateImage s.saved).take len) s.host) ∧
      (s.saves = [] → ∀ pad, s'.imageState (Config.stateImage s.saved ++ pad) = some s.saved) ∧
      s.onlyDelivered { s' with saves := s.saves } c := by
  obtain ⟨hfn, hsl⟩ := State.cmd?_slot h.1
  have hrow := (exec_save fn slot t s).trans (execTaken hslot h t _)
  have hbody : bodySave c (s.taken t c) = ((s.taken t c).keepImage s.saved).deliver c (Config.stateImage s.saved)
      (le 4 (Config.stateImage s.saved).length) := by
    unfold bodySave
    rw [State.shape_pos (by simp [hp]) (by simp), State.need_pos (by simp [State.devIn, hdev]), State.taken_saved]
    rfl
  rw [hbody] at hrow
  have hreply := State.deliver_reply (s := (s.taken t c).keepImage s.saved) (fn := fn) (slot := slot) (c := c)
    ((State.cmd?_mbx (s.taken_mbx t c) fn slot).trans h.1) h.2.2.2.1 (Config.stateImage s.saved)
    (le 4 (Config.stateImage s.saved).length)
  refine ⟨_, hrow, fun hfit => hreply.trans (congrArg some (if_pos hfit)), fun hshort => ?_, fun a len hd hdma => ?_,
    fun hfirst pad => ?_, State.onlyDelivered_deliver ..⟩
  · exact hreply.trans (congrArg some (if_neg (Nat.not_le.mpr hshort)))
  · have hhost := State.output_take (c := c) (d := { addr := a, len := len, write := true }) (by simp [hd])
      (Config.stateImage s.saved) (s := (s.taken t c).keepImage s.saved) (hfn ▸ (s.taken_dmaOk t c fn).trans hdma)
    exact (State.deliver_host ..).trans (hhost.trans (congrArg _ (s.taken_host t c)))
  · obtain ⟨m, l, cs, hleaves⟩ := State.deliver_leaves c (Config.stateImage s.saved)
      (le 4 (Config.stateImage s.saved).length) ((s.taken t c).keepImage s.saved)
    rw [hleaves]
    exact State.imageState_first (by simp [State.keepImage, hfirst]) pad

theorem restore_answers (h : s.isReady 0x070A fn slot c) (hp : c.payload = []) (hdev : s.frame.devState = 2) :
    ∃ s', exec (.restore fn slot t) s = .next s' ∧
      (∀ x, s.imageState c.bulk = some x → x.key = s.det.key → s'.reply? fn slot = some (okReply []) ∧
        s'.worlds = { s.worlds with
          ws := (List.range 4).map fun w => x.worlds.ws.getD w {}, allocated := x.worlds.allocated,
          freeing := x.worlds.freeing, workcells := x.worlds.workcells, badHandles := x.worlds.badHandles } ∧
        (∀ a, Mem.read a s'.hbm = Mem.read a (Mem.ofCells x.hbm)) ∧ s'.streams = x.streams ∧
        (∀ j < 16, s'.ses j = { x.sessions.getD j {} with counters := (s.ses j).counters }) ∧
        s'.frame = { s.frame with counter := x.counter, t0s := x.nextFrt, k := 0 } ∧
        { s' with time := s.time, det := s.det, mbx := { s'.mbx with cmds := s.mbx.cmds }, worlds := s.worlds, hbm := s.hbm,
                  streams := s.streams, sessions := s.sessions, frame := s.frame } = s) ∧
      (∀ x, s.imageState c.bulk = some x → x.key ≠ s.det.key →
        s'.reply? fn slot = some (refusal 0x0206) ∧ s.onlyAnswered s') ∧
      (s.imageState c.bulk = none → s'.reply? fn slot = some (refusal 0x0402) ∧ s.onlyAnswered s') := by
  have hstate : (s.taken t c).imageState c.bulk = s.imageState c.bulk := by simp [State.imageState]
  have hrow := (exec_restore fn slot t s).trans (execTaken hslot h t _)
  unfold bodyRestore at hrow
  rw [State.shape_pos (by simp [hp]) (by simp), State.need_pos (by simp [State.devIn, hdev]), hstate] at hrow
  refine ⟨_, hrow, fun x hx hkey => ?_, fun x hx hkey => ?_, fun hx => ?_⟩
  · rw [hx]
    dsimp only
    rw [State.need_pos (by simpa using hkey)]
    have hruns : ((s.taken t c).restoreFrom x).runs 0x070A fn slot :=
      State.restoreFrom_runs ⟨c, by rw [State.cmd?_mbx (s.taken_mbx t c), h.1], h.2.1, h.2.2.1, h.2.2.2.1⟩ (by decide) x
    obtain ⟨c', hc', -, -, hn'⟩ := hruns
    obtain ⟨l, hl⟩ := (s.taken t c).restoreFrom_atCmds x
    generalize (s.taken t c).restoreFrom x = y at hc' hl ⊢
    refine ⟨State.reply?_respond (s := y) _ hc' (State.cmd?_slot h.1) hn', ?_⟩
    rw [hl]
    refine ⟨?_, fun a => rfl, rfl, fun j hj => ?_, ?_, ?_⟩
    · simp only [State.accept_worlds, State.modMbx_worlds, State.restored, State.taken_worlds]
    · rw [State.ses_congr (s := (s.taken t c).restored x) (by simp)]
      simp [State.restored, State.ses, hj]
    · simp only [State.accept_frame, State.modMbx_frame, State.restored, State.taken_frame]
    · apply State.ext_parts <;> simp [State.restored]
  · rw [hx]
    dsimp only
    rw [State.need_neg (by simpa using hkey)]
    exact ⟨State.refused h (by simp) _ _ _, State.onlyAnswered_refuse ..⟩
  · rw [hx]
    exact ⟨State.refused h (by simp) _ _ _, State.onlyAnswered_refuse ..⟩

end

/-- Settles O22. -/
theorem pauseSaveRestoreResume : Obligations.PauseSaveRestoreResume :=
  fun _ _ _ t _ hslot => ⟨pause_waits hslot t, save_answers hslot t, restore_answers hslot t, resume_waits hslot t⟩

end Sys2Proof.Machine
end

section
/-!
SUPPORT. Counter reads (R350, R453-R455), and the obligation on them.
-/
namespace Sys2Proof.Machine

section
variable (s : State) (t : Nat) (c : Cmd)
@[simp] theorem State.taken_enabled (p : Nat) : (s.taken t c).enabled p = s.enabled p := by simp [State.enabled]
@[simp] theorem State.taken_cl (p : Nat) : (s.taken t c).cl p = s.cl p := by simp [State.cl]
@[simp] theorem State.taken_stk (k : Nat) : (s.taken t c).stk k = s.stk k := by simp [State.stk]
@[simp] theorem State.taken_counter (scope inst idx : Nat) : (s.taken t c).counter scope inst idx = s.counter scope inst idx := by
  simp [State.counter]
@[simp] theorem State.taken_shadow (scope inst idx : Nat) : (s.taken t c).shadow scope inst idx = s.shadow scope inst idx := by
  simp [State.shadow]
@[simp] theorem State.taken_selectorBad (fn v : Nat) : (s.taken t c).selectorBad fn v = s.selectorBad fn v := by
  simp [State.selectorBad, State.ownsSession]
@[simp] theorem State.taken_selectionBad (l : List CounterSel) (b : List Byte) :
    (s.taken t c).selectionBad l b = s.selectionBad l b := by
  simp [State.selectionBad]
end

/-- The value that CTR_READ answers for a selector. -/
def State.readOf (s : State) (frozen v : Nat) : List Byte :=
  le 8 (if frozen = 1 then s.shadow (v / 2 ^ 28 % 16) (v / 2 ^ 16 % 64) (v % 256)
    else s.counter (v / 2 ^ 28 % 16) (v / 2 ^ 16 % 64) (v % 256))

/-- A search that finds nothing bad. -/
theorem findSome?_range_none {α β : Type} {f : Nat → Option α} {g : Nat → α → β} {n : Nat} (h : ∀ k < n, f k = none) :
    ((List.range n).findSome? fun k => (f k).map (g k)) = none :=
  List.findSome?_eq_none_iff.mpr fun k hk => by rw [h k (List.mem_range.mp hk), Option.map_none]

theorem getD_map_range {α : Type} (f : Nat → α) {n k : Nat} (h : k < n) (d : α) : ((List.range n).map f).getD k d = f k := by
  simp [List.getD, h]

/-- The selectors of CTR_READ, of a payload whose first is good where all are. -/
theorem bodyCtrRead_reads {c : Cmd} {s : State} {n : Nat} (hlen : c.payload.length = 8 + 4 * n)
    (hz : allZero (slice c.payload 3 5) = true) (hn : getU c.payload 0 2 = n) (h1 : 1 ≤ n) (h448 : n ≤ 448)
    (hf : getU c.payload 2 1 ≤ 1) (hgood : ∀ k < n, s.selectorBad c.fn (getU c.payload (8 + 4 * k) 4) = none) :
    bodyCtrRead c s = s.accept c ((List.range n).flatMap fun k =>
      s.readOf (getU c.payload 2 1) (getU c.payload (8 + 4 * k) 4)) := by
  unfold bodyCtrRead
  dsimp only
  rw [hn, State.need_pos (by simp [hlen]), State.need_pos hz, State.need_pos (by simp [inR, h1, h448, hf]),
    State.need_pos (by simp [hlen]), findSome?_range_none (fun k hk => by rw [getD_map_range _ hk]; exact hgood k hk)]
  dsimp only
  rw [List.flatMap_map]
  rfl

/-- A selector of another scope is refused to a function other than PF0. -/
theorem selectorBad_privilege {s : State} {fn v : Nat} (hfn : fn ≠ 0) (hclean : selClean v = true) (hex : selExists v = true)
    (hscope : v / 2 ^ 28 % 16 ≠ 3) : s.selectorBad fn v = some 0x0502 := by
  have : selScope v ≠ 3 := hscope
  simp [State.selectorBad, hclean, hex, hfn, this]

/-- The list of one index whose element is bad. -/
theorem bodyCtrRead_bad {c : Cmd} {s : State} {st : Nat} (hlen : c.payload.length = 12) (hz : allZero (slice c.payload 3 5) = true)
    (hn : getU c.payload 0 2 = 1) (hf : getU c.payload 2 1 ≤ 1) (hbad : s.selectorBad c.fn (getU c.payload 8 4) = some st) :
    bodyCtrRead c s = s.refuse c st 0 := by
  unfold bodyCtrRead
  dsimp only
  rw [hn, State.need_pos (by simp [hlen]), State.need_pos hz, State.need_pos (by simp [inR, hf]),
    State.need_pos (by simp [hlen])]
  simp [List.range_one, hbad]

/-- The selection entries of CTR_SELECT. -/
def selectionsOf (c : Cmd) (n : Nat) : List CounterSel := (List.range n).map fun k => selectionOf (slice c.payload (8 + 16 * k) 16)

theorem bodyCtrSelect_sets {c : Cmd} {s : State} {n : Nat} (hlen : c.payload.length = 8 + 16 * n)
    (hz : allZero (slice c.payload 2 6) = true) (hn : getU c.payload 0 2 = n) (h1 : 1 ≤ n) (h160 : n ≤ 160)
    (hgood : ∀ k < n, s.selectionBad ((selectionsOf c n).take k) (slice c.payload (8 + 16 * k) 16) = none) :
    bodyCtrSelect c s =
      ((s.modObs fun o => { o with programmeNext := some (selectionsOf c n) }).settleIdle State.settleObs).accept c := by
  unfold bodyCtrSelect
  dsimp only
  rw [hn, State.need_pos (by simp [hlen]), State.need_pos hz, State.need_pos (by simp [inR, h1, h160]),
    State.need_pos (by simp [hlen]), List.map_map,
    findSome?_range_none (fun k hk => by rw [getD_map_range _ hk]; exact hgood k hk)]
  rfl

@[simp] theorem State.settleObs_mbx (s : State) : s.settleObs.mbx = s.mbx := by
  simp only [State.settleObs]
  split <;> split <;> simp

/-- A programme that waits takes effect with the selectable counters at 0. -/
theorem State.settleObs_programme {s : State} {p : List CounterSel} (h : s.obs.programmeNext = some p) :
    s.settleObs.obs.programmeNext = none ∧ s.settleObs.obs.programme = p ∧
      (∀ x ∈ s.settleObs.clusters, x.selCounters = []) ∧ (∀ x ∈ s.settleObs.stks, x.selCounters = []) ∧
      s.settleObs.hub.selCounters = [] := by
  simp only [State.settleObs, h]
  split <;> simp

section
variable {s : State} {fn slot : Nat} {c : Cmd} {n : Nat} (hslot : isSlot fn slot) (t : Nat)
include hslot

theorem ctrRead_answers (h : s.isArrived 0x0801 fn slot c) (hlen : c.payload.length = 8 + 4 * n)
    (hz : allZero (slice c.payload 3 5) = true) (hn : getU c.payload 0 2 = n) (h1 : 1 ≤ n) (h448 : n ≤ 448)
    (hf : getU c.payload 2 1 ≤ 1) (hgood : ∀ k < n, s.selectorBad fn (getU c.payload (8 + 4 * k) 4) = none) :
    ∃ s', exec (.ctrRead fn slot t) s = .next s' ∧ s'.reply? fn slot = some (okReply ((List.range n).flatMap fun k =>
        s.readOf (getU c.payload 2 1) (getU c.payload (8 + 4 * k) 4))) ∧ s.onlyAnswered s' := by
  obtain ⟨hfn, -⟩ := State.cmd?_slot h.1
  have hrow := (exec_ctrRead fn slot t s).trans (execTakenA hslot h (fun _ => rfl) (fun _ => rfl) t _)
  rw [bodyCtrRead_reads hlen hz hn h1 h448 hf fun k hk => by rw [hfn, State.taken_selectorBad, hgood k hk]] at hrow
  have hread : ∀ f v, (s.taken t c).readOf f v = s.readOf f v := fun f v => by simp [State.readOf]
  simp only [hread] at hrow
  exact ⟨_, hrow, State.answeredA h (by simp) _ _, State.onlyAnswered_accept ..⟩

theorem ctrRead_refused (h : s.isArrived 0x0801 fn slot c) (hlen : c.payload.length = 12)
    (hz : allZero (slice c.payload 3 5) = true) (hn : getU c.payload 0 2 = 1) (hf : getU c.payload 2 1 ≤ 1) (hpf : fn ≠ 0)
    (hclean : selClean (getU c.payload 8 4) = true) (hex : selExists (getU c.payload 8 4) = true)
    (hscope : getU c.payload 8 4 / 2 ^ 28 % 16 ≠ 3) :
    ∃ s', exec (.ctrRead fn slot t) s = .next s' ∧ s'.reply? fn slot = some (refusal 0x0502 0) ∧ s.onlyAnswered s' := by
  obtain ⟨hfn, -⟩ := State.cmd?_slot h.1
  have hrow := (exec_ctrRead fn slot t s).trans (execTakenA hslot h (fun _ => rfl) (fun _ => rfl) t _)
  rw [bodyCtrRead_bad hlen hz hn hf (selectorBad_privilege (by rw [hfn]; exact hpf) hclean hex hscope)] at hrow
  exact ⟨_, hrow, State.refusedA h (by simp) _ _ _, State.onlyAnswered_refuse ..⟩

theorem ctrSelect_answers (h : s.isArrived 0x0802 fn slot c) (hlen : c.payload.length = 8 + 16 * n)
    (hz : allZero (slice c.payload 2 6) = true) (hn : getU c.payload 0 2 = n) (h1 : 1 ≤ n) (h160 : n ≤ 160)
    (hgood : ∀ k < n, s.selectionBad ((selectionsOf c n).take k) (slice c.payload (8 + 16 * k) 16) = none) :
    ∃ s', exec (.ctrSelect fn slot t) s = .next s' ∧ s'.reply? fn slot = some (okReply []) ∧
      (s.frame.devState ≠ 0 → s'.obs.programme = s.obs.programme ∧ s'.obs.programmeNext = some (selectionsOf c n)) ∧
      (s.frame.devState = 0 → s'.obs.programmeNext = none ∧ s'.obs.programme = selectionsOf c n ∧
        (∀ x ∈ s'.clusters, x.selCounters = []) ∧ (∀ x ∈ s'.stks, x.selCounters = []) ∧ s'.hub.selCounters = []) := by
  have hrow := (exec_ctrSelect fn slot t s).trans (execTakenA hslot h (fun _ => rfl) (fun _ => rfl) t _)
  rw [bodyCtrSelect_sets hlen hz hn h1 h160 fun k hk => by rw [State.taken_selectionBad, hgood k hk]] at hrow
  unfold State.settleIdle at hrow
  rw [State.modObs_frame, State.taken_frame] at hrow
  by_cases h0 : s.frame.devState = 0
  · rw [if_pos h0] at hrow
    have hset := State.settleObs_programme (s := (s.taken t c).modObs fun o => { o with programmeNext := some (selectionsOf c n) })
      (p := selectionsOf c n) rfl
    have hm : (State.settleObs ((s.taken t c).modObs fun o => { o with programmeNext := some (selectionsOf c n) })).mbx = s.mbx := by
      rw [State.settleObs_mbx]; simp
    generalize State.settleObs ((s.taken t c).modObs fun o => { o with programmeNext := some (selectionsOf c n) }) = x
      at hrow hset hm
    exact ⟨_, hrow, State.answeredA h hm _ _, fun hne => absurd h0 hne, fun _ => hset⟩
  · rw [if_neg h0] at hrow
    exact ⟨_, hrow, State.answeredA h (by simp) _ _, fun _ => ⟨by simp, by simp⟩, fun he => absurd he h0⟩

end

/-- A read of a LO register latches the HI half for the reader. -/
def State.loRead (key v hi : Nat) (s : State) : State :=
  (s.modPcie fun p => { p with readData := v % 2 ^ 32 }).modFn 0 fun f => { f with counterHi := upsert key hi f.counterHi }

theorem State.loRead_leaves {s : State} (hfns : 0 < s.pcie.fns.length) (key v hi : Nat) :
    (s.loRead key v hi).pcie.readData = v % 2 ^ 32 ∧ lookupD 0 key ((s.loRead key v hi).fnS 0).counterHi = hi ∧
      { s.loRead key v hi with pcie := s.pcie } = s := by
  refine ⟨rfl, ?_, rfl⟩
  rw [State.loRead, State.fnS_modFn _ _ _ (by simpa using hfns), if_pos rfl]
  exact lookupD_upsert_same ..

theorem State.linkOf_zero (s : State) : s.linkOf 0 = s.pcie.linkA := by
  simp [State.linkOf, Pcie.has, State.carrier, State.onLinkB]

theorem State.counterLoRead_plain {s : State} (hup : s.pcie.linkA.up = true) (scope inst idx : Nat) (shadow : Bool) :
    s.counterLoRead 0 scope inst idx shadow false = s.loRead (hiKey scope inst idx shadow)
      (if shadow then s.shadow scope inst idx else s.counter scope inst idx)
      ((if shadow then s.shadow scope inst idx else s.counter scope inst idx) / 2 ^ 32) := by
  unfold State.counterLoRead
  rw [if_neg (by simp [State.linkOf_zero, hup])]
  rfl

theorem counterLoRead_latches {s : State} {scope inst idx : Nat} {shadow : Bool} (t : Nat) (hok : counterOk scope inst idx = true)
    (hup : s.pcie.linkA.up = true) (hfns : 0 < s.pcie.fns.length) :
    ∃ s', exec (.counterLoRead 0 scope inst idx shadow false t) s = .next s' ∧
      s'.pcie.readData = (if shadow then s.shadow scope inst idx else s.counter scope inst idx) % 2 ^ 32 ∧
      lookupD 0 (hiKey scope inst idx shadow) (s'.fnS 0).counterHi =
        (if shadow then s.shadow scope inst idx else s.counter scope inst idx) / 2 ^ 32 ∧
      { s' with time := s.time, pcie := s.pcie } = s := by
  refine ⟨_, (exec_counterLoRead 0 scope inst idx shadow false t s).trans (ranAt_pos (by rw [hok]; rfl) ..), ?_⟩
  rw [State.counterLoRead_plain (s := s.at t) hup]
  obtain ⟨hread, hhi, hrest⟩ := State.loRead_leaves (s := s.at t) hfns (hiKey scope inst idx shadow)
    (if shadow then s.shadow scope inst idx else s.counter scope inst idx)
    ((if shadow then s.shadow scope inst idx else s.counter scope inst idx) / 2 ^ 32)
  exact ⟨hread, hhi, congrArg (fun x : State => { x with time := s.time, pending := s.pending }) hrest⟩

/-- The counter of a cluster restarts, the read marked as one of the value before (R455). -/
def State.sampledAndReset (p idx : Nat) (s : State) : State :=
  ((s.modCl p fun c => { c with selCounters := upsert idx 0 c.selCounters }).modObs fun o => { o with snapPrev := true }).bumpHub 14

theorem State.counterLoRead_reset {s : State} {p idx : Nat} {e : CounterSel} (hup : s.pcie.linkA.up = true)
    (he : s.selEntry 0 p idx = some e) (hscope : e.cmdScope = true) :
    s.counterLoRead 0 0 p idx false true =
      (s.loRead (hiKey 0 p idx false) (s.counter 0 p idx) (s.counter 0 p idx / 2 ^ 32 + 2 ^ 31)).sampledAndReset p idx := by
  unfold State.counterLoRead
  rw [if_neg (by simp [State.linkOf_zero, hup]), he]
  simp only [hscope, Option.map_some, Option.getD_some, Bool.not_false, Bool.and_true]
  rfl

theorem State.counter_selectable {s : State} {p idx : Nat} (hp : s.enabled p = true) (hidx : 16 ≤ idx) :
    s.counter 0 p idx = lookupD 0 idx (s.cl p).selCounters := by
  simp [State.counter, hp, Nat.not_lt.mpr hidx]

theorem State.cl_modCl {s : State} {p : Nat} (h : p < s.clusters.length) (f : Cluster → Cluster) : (s.modCl p f).cl p = f (s.cl p) := by
  simp [State.cl, h]

theorem State.sampledAndReset_leaves {s : State} {p idx : Nat} (hp : p < s.clusters.length) (hen : s.enabled p = true)
    (hidx : 16 ≤ idx) : (s.sampledAndReset p idx).obs.snapPrev = true ∧ (s.sampledAndReset p idx).counter 0 p idx = 0 ∧
      (s.sampledAndReset p idx).hub.counters = s.hub.counters.modify 14 (fun k => (k + 1) % 2 ^ 48) ∧
      { s.sampledAndReset p idx with obs := s.obs, clusters := s.clusters, hub := s.hub } = s := by
  refine ⟨rfl, ?_, rfl, rfl⟩
  rw [State.counter_selectable (s := s.sampledAndReset p idx) hen hidx]
  refine (congrArg (fun x : Cluster => lookupD 0 idx x.selCounters) (State.cl_modCl hp _)).trans ?_
  exact lookupD_upsert_same ..

theorem counterLoRead_resets {s : State} {p idx : Nat} {e : CounterSel} (t : Nat) (hp : p < 64) (h16 : 16 ≤ idx) (h64 : idx < 64)
    (hup : s.pcie.linkA.up = true) (hfns : 0 < s.pcie.fns.length) (hcl : p < s.clusters.length) (hen : s.enabled p = true)
    (he : s.selEntry 0 p idx = some e) (hscope : e.cmdScope = true) :
    ∃ s', exec (.counterLoRead 0 0 p idx false true t) s = .next s' ∧
      s'.pcie.readData = lookupD 0 idx (s.cl p).selCounters % 2 ^ 32 ∧
      lookupD 0 (hiKey 0 p idx false) (s'.fnS 0).counterHi = lookupD 0 idx (s.cl p).selCounters / 2 ^ 32 + 2 ^ 31 ∧
      s'.obs.snapPrev = true ∧ s'.counter 0 p idx = 0 ∧
      s'.hub.counters = s.hub.counters.modify 14 (fun k => (k + 1) % 2 ^ 48) ∧
      { s' with time := s.time, pcie := s.pcie, obs := s.obs, clusters := s.clusters, hub := s.hub } = s := by
  have hok : (fnOk 0 && counterOk 0 p idx) = true := by simp [fnOk, counterOk, below, hp, h64]
  refine ⟨_, (exec_counterLoRead 0 0 p idx false true t s).trans (ranAt_pos hok ..), ?_⟩
  rw [State.counterLoRead_reset (s := s.at t) hup he hscope, State.counter_selectable (s := s.at t) hen h16]
  obtain ⟨hread, hhi, hrest⟩ := State.loRead_leaves (s := s.at t) hfns (hiKey 0 p idx false)
    (lookupD 0 idx (s.cl p).selCounters) (lookupD 0 idx (s.cl p).selCounters / 2 ^ 32 + 2 ^ 31)
  obtain ⟨hsnap, hzero, hhub, -⟩ := State.sampledAndReset_leaves (s := (s.at t).loRead (hiKey 0 p idx false)
    (lookupD 0 idx (s.cl p).selCounters) (lookupD 0 idx (s.cl p).selCounters / 2 ^ 32 + 2 ^ 31)) hcl hen h16
  refine ⟨hread, hhi, hsnap, hzero, hhub, ?_⟩
  apply State.ext_parts <;> simp [State.sampledAndReset, State.loRead]

/-- Settles O23. -/
theorem countersReadAndReset : Obligations.CountersReadAndReset :=
  ⟨fun _ _ _ t _ _ hslot => ⟨ctrRead_answers hslot t, ctrRead_refused hslot t, ctrSelect_answers hslot t,
    fun _ _ _ _ => counterLoRead_latches t⟩, fun _ _ _ _ t => counterLoRead_resets t⟩

end Sys2Proof.Machine
end

section
/-!
SUPPORT. FREEZE: its triggers and its instant (R350, R456), and the obligation on them.
-/
namespace Sys2Proof.Machine

/-- What a freeze writes of the observability block. -/
def Observability.frozenView (o : Observability) : List (Nat × Nat × Nat × Nat) × Option Nat × Bool × Nat :=
  (o.shadows, o.freezePending, o.freezeWriting, o.freezeTime)

/-- A unit traced touches the trace buffers and the counters of its unit. -/
def State.AtTrace (s s' : State) : Prop := ∃ ks h bs, s' = { s with stks := ks, hub := h, obs := { s.obs with buffers := bs } } ∧
  h.counters.getD 16 0 = s.hub.counters.getD 16 0

theorem State.AtTrace.refl (s : State) : s.AtTrace s := ⟨_, _, _, rfl, rfl⟩

theorem State.AtTrace.trans {a b d : State} (h : a.AtTrace b) (h' : b.AtTrace d) : a.AtTrace d := by
  obtain ⟨_, _, _, rfl, hc⟩ := h
  obtain ⟨_, _, _, rfl, hc'⟩ := h'
  exact ⟨_, _, _, rfl, hc'.trans hc⟩

theorem State.AtTrace.buffers (b : Nat) (f : TraceBuf → TraceBuf) (s : State) :
    s.AtTrace (s.modObs fun o => { o with buffers := o.buffers.modify b f }) := ⟨_, _, _, rfl, rfl⟩

theorem State.AtTrace.hub {i : Nat} (hi : i ≠ 16) (k : Nat) (s : State) : s.AtTrace (s.bumpHub i k) := by
  refine ⟨_, _, _, rfl, ?_⟩
  simp [bumpAt, List.getD, hi]

theorem State.AtTrace.stack (k i n : Nat) (s : State) : s.AtTrace (s.bumpStk k i n) := ⟨_, _, _, rfl, rfl⟩

theorem State.trace_atTrace (b source kind : Nat) (body : List Byte) (s : State) (layer op : Nat := 0xFFFF) :
    s.AtTrace (s.trace b source kind body layer op) := by
  unfold State.trace
  dsimp only
  generalize (if kind = 13 then _ else _ : List (List Byte)) = units
  split
  · exact .buffers b _ s
  · split
    · split
      · split
        · exact (State.AtTrace.buffers b _ s).trans (.hub (by decide) _ _)
        · exact (State.AtTrace.buffers b _ s).trans (.stack ..)
      · exact .buffers b _ s
    · exact .refl s

/-- A trigger touches the trace buffers and the trigger output. -/
theorem State.traceTrigger_obs (src : Nat) (s : State) :
    ∃ bs out, s.traceTrigger src = { s with obs := { s.obs with buffers := bs, trigOut := out } } := by
  unfold State.traceTrigger
  dsimp only
  refine State.foldl_inv (fun x => ∃ bs out, x = { s with obs := { s.obs with buffers := bs, trigOut := out } }) _
    (fun x b hx => ?_) _ _ ⟨_, _, rfl⟩
  obtain ⟨bs, out, rfl⟩ := hx
  split
  · split
    · exact ⟨_, _, rfl⟩
    · split <;> exact ⟨_, _, rfl⟩
  · exact ⟨_, _, rfl⟩

/-- A time event touches the mark of the frame and the slip log, with no frame under way nothing. -/
theorem State.timingEvent_leaves (cause stack cluster delay : Nat) (s : State) :
    (∃ b n l, s.timingEvent cause stack cluster delay = { s with
      frame := { s.frame with timingSlip := b, slipTicks := n }, det := { s.det with slipLog := l } }) ∧
    (s.noSlips → s.timingEvent cause stack cluster delay = s) := by
  unfold State.timingEvent
  constructor
  · split
    · exact ⟨_, _, _, rfl⟩
    · exact ⟨_, _, _, rfl⟩
  · intro h
    rw [if_neg]
    rintro ⟨hexact, hruns, hphase, -⟩
    rcases h with h | h | h
    · simp [h] at hexact
    · simp [h] at hruns
    · exact hphase h

/-- The block with the shadows written. -/
def State.frozenObs (s : State) : Observability := { s.obs with
  shadows := s.snapshotAll, freezePending := none, freezeRemote := false, freezeWriting := true, freezeTime := s.time.now,
  trigOut := if s.obs.trigOutEn then some s.time.now else s.obs.trigOut }

/-- The events of a freeze of its own: a timing event of `n` ticks, its count, the trigger of the trace. -/
def State.freezeEvents (n : Nat) (s : State) : State := ((s.timingEvent 7 0xFF 0xFF n).bumpHub 16).traceTrigger 4

/-- The state at the instant of a freeze, its events counted. -/
def State.snapped (s : State) : State :=
  State.freezeEvents ((s.modObs fun _ => s.frozenObs).fresh.1.toNat % 2 ^ 32) (s.modObs fun _ => s.frozenObs).fresh.2

/-- The state before the answers. -/
def State.frozen (s : State) : State :=
  let x := (List.range 5).foldl (fun x b => x.trace b (bufferSource b) 0xF (le 8 s.time.now)) s.snapped
  if s.obs.fabricEn && !s.obs.freezeRemote then x.fabricSend 0 0xFF [0x46] none else x

theorem State.freezeInstant_due {s : State} {t0 : Nat} (h : s.obs.freezePending = some t0) (hdue : t0 + 5 ≤ s.time.now) :
    s.freezeInstant = (s.frozen.mbx.cmds.filter fun c => c.opcode == 0x0803 && decide (c.stage = .waiting)).foldl
      (fun x c => x.accept c (le 8 s.time.now)) s.frozen := by
  unfold State.freezeInstant
  rw [h]
  dsimp only
  rw [if_neg (Nat.not_lt.mpr hdue)]
  rfl

theorem State.freezeInstant_early {s : State} {t0 : Nat} (h : s.obs.freezePending = some t0) (hearly : s.time.now < t0 + 5) :
    s.freezeInstant = s := by
  unfold State.freezeInstant
  rw [h]
  exact if_pos hearly

theorem State.freezeEvents_leaves (n : Nat) (s : State) : ∃ b m l o, s.freezeEvents n = { s with
      frame := { s.frame with timingSlip := b, slipTicks := m }, det := { s.det with slipLog := l },
      hub := { s.hub with counters := bumpAt s.hub.counters 16 }, obs := o } ∧ o.frozenView = s.obs.frozenView ∧
      (s.noSlips → (s.freezeEvents n).frame = s.frame ∧ (s.freezeEvents n).det = s.det) := by
  unfold State.freezeEvents
  obtain ⟨⟨b, m, l, ht⟩, hkeep⟩ := State.timingEvent_leaves 7 0xFF 0xFF n s
  generalize s.timingEvent 7 0xFF 0xFF n = x at ht hkeep
  obtain ⟨bs, out, ho⟩ := State.traceTrigger_obs 4 (x.bumpHub 16)
  refine ⟨b, m, l, { s.obs with buffers := bs, trigOut := out }, ho.trans ?_, ?_, fun hno => ?_⟩
  · rw [ht]; rfl
  · rfl
  · have hx := hkeep hno
    subst hx
    exact ⟨by rw [ho]; rfl, by rw [ho]; rfl⟩

/-- What the instant leaves of the state, but for the command table. -/
structure State.Freezes (s x : State) : Prop where
  view : x.obs.frozenView = s.frozenObs.frozenView
  counts : x.hub.counters.getD 16 0 = (bumpAt s.hub.counters 16).getD 16 0
  slips : s.noSlips → x.frame = s.frame ∧ x.det = s.det
  rest : { s.slipApart x with obs := s.obs, hub := s.hub, stks := s.stks, fabric := s.fabric } = s

theorem State.Freezes.events (s : State) (k n : Nat) :
    s.Freezes (State.freezeEvents n { s with obs := s.frozenObs, free := k }) := by
  generalize hobs : s.frozenObs = o'
  obtain ⟨b, m, l, o, h, hview, hslips⟩ := State.freezeEvents_leaves n { s with obs := o', free := k }
  refine ⟨?_, ?_, hslips, ?_⟩
  · rw [h, hobs]; exact hview
  · rw [h]
  · rw [h]; rfl

theorem State.Freezes.snapped (s : State) : s.Freezes s.snapped := State.Freezes.events s (s.free + 1) _

theorem State.Freezes.trace {s x y : State} (h : s.Freezes x) (hxy : x.AtTrace y) : s.Freezes y := by
  obtain ⟨_, _, _, rfl, hcount⟩ := hxy
  exact ⟨h.view, hcount.trans h.counts, h.slips, h.rest⟩

theorem State.Freezes.send {s x : State} (h : s.Freezes x) (vc dst : Nat) (body : List Byte) (cmd : Option (Nat × Nat)) :
    s.Freezes (x.fabricSend vc dst body cmd) := ⟨h.view, h.counts, h.slips, h.rest⟩

theorem State.Freezes.frozen (s : State) : s.Freezes s.frozen := by
  have htraced : s.Freezes ((List.range 5).foldl (fun x b => x.trace b (bufferSource b) 0xF (le 8 s.time.now)) s.snapped) :=
    State.foldl_inv s.Freezes _ (fun x b hx => hx.trace (State.trace_atTrace ..)) _ _ (.snapped s)
  unfold State.frozen
  dsimp only
  split
  · exact htraced.send ..
  · exact htraced

/-- A command without a response but the one in question. -/
def State.OpenFor (s : State) (r : Response) (fn slot : Nat) : Prop :=
  ∃ c, s.cmd? fn slot = some c ∧ (c.response = none ∨ c.response = some r)

theorem State.OpenFor.accept {s : State} {p : List Byte} {fn slot : Nat} (h : s.OpenFor (okReply p) fn slot) (x : Cmd) :
    (s.accept x p).OpenFor (okReply p) fn slot := by
  obtain ⟨c, hc, hresp⟩ := h
  refine ⟨x.answer (okReply p) c, by rw [State.cmd?_accept, hc, Option.map_some], ?_⟩
  unfold Cmd.answer
  split
  · split
    · exact .inr rfl
    · exact hresp
  · exact hresp

theorem State.OpenFor.reply {s : State} {p : List Byte} {fn slot : Nat} (h : s.OpenFor (okReply p) fn slot) {x : Cmd}
    (hx : x.fn = fn ∧ x.slot = slot) : (s.accept x p).reply? fn slot = some (okReply p) := by
  obtain ⟨c, hc, hresp⟩ := h
  obtain ⟨hcf, hcs⟩ := State.cmd?_slot hc
  rw [State.reply?, State.cmd?_accept, hc, Option.map_some, Option.bind_some, Cmd.answer,
    if_pos ⟨hcf.trans hx.1.symm, hcs.trans hx.2.symm⟩]
  split
  · rfl
  · next hn => exact hresp.resolve_left hn

/-- A response once decided stays. -/
theorem State.reply?_accept_keeps {s : State} {r : Response} {fn slot : Nat} (h : s.reply? fn slot = some r) (x : Cmd)
    (p : List Byte) : (s.accept x p).reply? fn slot = some r := by
  obtain ⟨c, hc, hr⟩ := Option.bind_eq_some_iff.mp h
  rw [State.reply?, State.cmd?_accept, hc, Option.map_some, Option.bind_some]
  simp [Cmd.answer, hr]

/-- Of the commands answered with one payload, each that had no response has this one. -/
theorem State.foldl_accept_reply {s : State} {fn slot : Nat} {c : Cmd} {l : List Cmd} (hc : s.cmd? fn slot = some c)
    (hn : c.response = none) (hl : c ∈ l) (p : List Byte) :
    (l.foldl (fun x y => x.accept y p) s).reply? fn slot = some (okReply p) := by
  obtain ⟨l₁, l₂, rfl⟩ := List.append_of_mem hl
  rw [List.foldl_append, List.foldl_cons]
  have hopen := State.foldl_inv (fun x => x.OpenFor (okReply p) fn slot) (fun x y => x.accept y p) (fun _ y h => h.accept y) l₁ s
    ⟨c, hc, .inl hn⟩
  exact State.foldl_inv (fun x => x.reply? fn slot = some (okReply p)) _ (fun _ y h => State.reply?_accept_keeps h y p) l₂ _
    (hopen.reply (State.cmd?_slot hc))

/-- Answers touch the commands alone. -/
theorem State.foldl_accept_atCmds (p : List Byte) (l : List Cmd) (s : State) : s.AtCmds (l.foldl (fun x y => x.accept y p) s) :=
  State.foldl_inv s.AtCmds _ (fun _ _ h => h.trans ⟨_, rfl⟩) l s ⟨_, rfl⟩

theorem State.snapshotScope_value {s : State} {scope insts idxs : Nat} {x : Nat × Nat × Nat × Nat}
    (h : x ∈ s.snapshotScope scope insts idxs) : x.2.2.2 = s.counter x.1 x.2.1 x.2.2.1 := by
  obtain ⟨i, -, hi⟩ := List.mem_flatMap.mp h
  obtain ⟨k, -, hk⟩ := List.mem_filterMap.mp hi
  dsimp only at hk
  split at hk
  · exact absurd hk (by simp)
  · obtain rfl := Option.some.inj hk; rfl

theorem State.mem_snapshotScope {s : State} {scope insts idxs inst idx : Nat} (hi : inst < insts) (hk : idx < idxs)
    (h : s.counter scope inst idx ≠ 0) : (scope, inst, idx, s.counter scope inst idx) ∈ s.snapshotScope scope insts idxs :=
  List.mem_flatMap.mpr ⟨inst, List.mem_range.mpr hi, List.mem_filterMap.mpr ⟨idx, List.mem_range.mpr hk, if_neg h⟩⟩

theorem State.snapshotAll_value {s : State} {x : Nat × Nat × Nat × Nat} (h : x ∈ s.snapshotAll) :
    x.2.2.2 = s.counter x.1 x.2.1 x.2.2.1 := by
  simp only [State.snapshotAll, List.mem_append] at h
  rcases h with ((h | h) | h) | h <;> exact State.snapshotScope_value h

theorem State.mem_snapshotAll {s : State} {scope inst idx : Nat} (hok : counterOk scope inst idx = true)
    (h : s.counter scope inst idx ≠ 0) : (scope, inst, idx, s.counter scope inst idx) ∈ s.snapshotAll := by
  simp only [counterOk, below, Bool.or_eq_true, Bool.and_eq_true, beq_iff_eq, decide_eq_true_eq] at hok
  simp only [State.snapshotAll, List.mem_append]
  rcases hok with ((⟨⟨rfl, hi⟩, hk⟩ | ⟨⟨rfl, hi⟩, hk⟩) | ⟨⟨rfl, hi⟩, hk⟩) | ⟨⟨rfl, hi⟩, hk⟩
  · exact .inl (.inl (.inl (State.mem_snapshotScope hi hk h)))
  · exact .inl (.inl (.inr (State.mem_snapshotScope hi hk h)))
  · exact .inl (.inr (State.mem_snapshotScope (by omega) hk h))
  · exact .inr (State.mem_snapshotScope hi hk h)

/-- The shadow of a counter is its value at the freeze. -/
theorem State.shadow_snapshotAll {s s' : State} (h : s'.obs.shadows = s.snapshotAll) {scope inst idx : Nat}
    (hok : counterOk scope inst idx = true) : s'.shadow scope inst idx = s.counter scope inst idx := by
  unfold State.shadow
  rw [h]
  split
  · next x hx =>
    have hvalue := State.snapshotAll_value (List.mem_of_find?_eq_some hx)
    have hkey := List.find?_some hx
    simp only [Bool.and_eq_true, beq_iff_eq] at hkey
    obtain ⟨⟨h1, h2⟩, h3⟩ := hkey
    rw [hvalue, h1, h2, h3]
  · next hnone =>
    by_contra hne
    exact absurd (List.find?_eq_none.mp hnone _ (State.mem_snapshotAll hok (Ne.symm hne))) (by simp)

theorem freezeInstant_early {s : State} {t t0 : Nat} (h : s.obs.freezePending = some t0) (hearly : max s.time.now t < t0 + 5) :
    ∃ s', exec (.freezeInstant t) s = .next s' ∧ { s' with time := s.time } = s := by
  refine ⟨_, (exec_freezeInstant t s).trans (ranAt_pos rfl ..), ?_⟩
  rw [State.freezeInstant_early (s := s.at t) h hearly]
  rfl

theorem State.bumpAt_getD {l : List Nat} {i : Nat} (h : i < l.length) : (bumpAt l i).getD i 0 = (l.getD i 0 + 1) % 2 ^ 48 := by
  simp [bumpAt, inc48, List.getD, h]

theorem freezeInstant_freezes {s : State} {t t0 : Nat} (h : s.obs.freezePending = some t0) (hdue : t0 + 5 ≤ max s.time.now t) :
    ∃ s', exec (.freezeInstant t) s = .next s' ∧
      (∀ scope inst idx, counterOk scope inst idx = true → s'.shadow scope inst idx = s.counter scope inst idx) ∧
      (s.hub.counters.length = 32 → s'.hub.counters.getD 16 0 = (s.hub.counters.getD 16 0 + 1) % 2 ^ 48) ∧
      s'.obs.freezePending = none ∧ s'.obs.freezeWriting = true ∧ s'.obs.freezeTime = max s.time.now t ∧
      (∀ fn slot c, s.cmd? fn slot = some c → c.opcode = 0x0803 → c.stage = .waiting → c.response = none →
        s'.reply? fn slot = some (okReply (le 8 (max s.time.now t)))) ∧
      (s.noSlips → s'.frame = s.frame ∧ s'.det = s.det) ∧
      { s.slipApart s' with obs := s.obs, hub := s.hub, stks := s.stks, fabric := s.fabric,
                            mbx := { s'.mbx with cmds := s.mbx.cmds } } = s := by
  have hrow := (exec_freezeInstant t s).trans (ranAt_pos rfl ..)
  rw [State.freezeInstant_due (s := s.at t) h hdue] at hrow
  obtain ⟨hview, hcount, hslips, hrest⟩ := State.Freezes.frozen (s.at t)
  have hm : (s.at t).frozen.mbx = s.mbx := (congrArg State.mbx hrest :)
  generalize hx : (s.at t).frozen = x at hrow hview hcount hslips hrest hm
  obtain ⟨cs, hcs⟩ := State.foldl_accept_atCmds (le 8 (s.at t).time.now)
    (x.mbx.cmds.filter fun c => c.opcode == 0x0803 && decide (c.stage = .waiting)) x
  have hreply : ∀ fn slot c, s.cmd? fn slot = some c → c.opcode = 0x0803 → c.stage = .waiting → c.response = none →
      ((x.mbx.cmds.filter fun c => c.opcode == 0x0803 && decide (c.stage = .waiting)).foldl
        (fun x y => x.accept y (le 8 (s.at t).time.now)) x).reply? fn slot = some (okReply (le 8 (max s.time.now t))) := by
    intro fn slot c hc hop hst hn
    refine State.foldl_accept_reply ((State.cmd?_mbx hm fn slot).trans hc) hn ?_ _
    rw [hm]
    exact List.mem_filter.mpr ⟨List.mem_of_find?_eq_some hc, by simp [hop, hst]⟩
  generalize (x.mbx.cmds.filter fun c => c.opcode == 0x0803 && decide (c.stage = .waiting)).foldl
    (fun x y => x.accept y (le 8 (s.at t).time.now)) x = y at hrow hcs hreply
  have hshadows : x.obs.shadows = (s.at t).snapshotAll := congrArg (·.1) hview
  subst hcs
  refine ⟨_, hrow, fun scope inst idx hok => State.shadow_snapshotAll hshadows hok, fun hlen => ?_,
    congrArg (·.2.1) hview, congrArg (·.2.2.1) hview, congrArg (·.2.2.2) hview, hreply, hslips, ?_⟩
  · exact hcount.trans (State.bumpAt_getD (by simp [hlen]))
  · refine Eq.trans (congrArg (fun z : State =>
      { z with time := s.time, mbx := { x.mbx with cmds := s.mbx.cmds }, pending := s.pending }) hrest) ?_
    rw [hm]
    rfl

section
variable {s : State} (t : Nat)

theorem freeze_waits {fn slot : Nat} {c : Cmd} (hslot : isSlot fn slot) (h : s.isArrived 0x0803 fn slot c) (hp : c.payload = []) :
    ∃ s', exec (.freeze fn slot t) s = .next s' ∧ s'.waitsAt fn slot ∧
      s'.obs.freezePending = some (s.obs.freezePending.getD (max s.time.now t)) ∧
      { s' with time := s.time, det := s.det, mbx := { s'.mbx with cmds := s.mbx.cmds }, obs := s.obs } = s := by
  refine ⟨_, (exec_freeze fn slot t s).trans (execTakenA hslot h (fun _ => rfl) (fun _ => rfl) t _), ?_⟩
  unfold bodyFreeze State.freezeTrigger
  rw [State.shape_pos (by simp [hp]) (by simp)]
  refine ⟨⟨_, State.cmd?_wait (by simp) h.1, rfl, h.2.2.2.1⟩, by simp, ?_⟩
  apply State.ext_parts <;> simp

theorem freezeGo_triggers (s : State) : ∃ s', exec (.freezeGo t) s = .next s' ∧
    s'.obs.freezePending = some (s.obs.freezePending.getD (max s.time.now t)) ∧ s'.obs.freezeRemote = false ∧
    { s' with time := s.time, obs := s.obs } = s :=
  ⟨_, (exec_freezeGo t s).trans (ranAt_pos rfl ..), rfl, rfl, rfl⟩

theorem trigIn_triggers (s : State) : ∃ s', exec (.trigInEdge t) s = .next s' ∧
    s'.obs.freezePending = (if s.obs.trigInEn then some (s.obs.freezePending.getD (max s.time.now t))
      else s.obs.freezePending) ∧ { s' with time := s.time, obs := s.obs } = s := by
  obtain ⟨bs, out, ho⟩ := State.traceTrigger_obs 0 (if (s.at t).obs.trigInEn then (s.at t).freezeTrigger else s.at t)
  have hrow := (exec_trigInEdge t s).trans (ranAt_pos rfl ..)
  have htrig : (s.at t).trigIn = (if (s.at t).obs.trigInEn then (s.at t).freezeTrigger else s.at t).traceTrigger 0 := rfl
  rw [htrig, ho] at hrow
  refine ⟨_, hrow, ?_, ?_⟩
  · cases hb : s.obs.trigInEn <;> simp [State.freezeTrigger, State.at, hb]
  · cases hb : s.obs.trigInEn <;> simp [State.freezeTrigger, State.at, hb, State.modObs]

theorem fabricFreeze_triggers (s : State) : ∃ s', exec (.fabricFreeze t) s = .next s' ∧
    s'.obs.freezePending = (if s.obs.fabricEn then some (s.obs.freezePending.getD (max s.time.now t))
      else s.obs.freezePending) ∧ { s' with time := s.time, obs := s.obs } = s := by
  refine ⟨_, (exec_fabricFreeze t s).trans (ranAt_pos rfl ..), ?_⟩
  cases hb : s.obs.fabricEn <;> simp [State.fabricFreeze, State.freezeTrigger, State.at, hb, State.modObs]

theorem mem_insertAsc_self (n : Nat) (l : List Nat) : n ∈ insertAsc n l := by
  induction l with
  | nil => exact List.mem_singleton_self n
  | cons m l ih =>
    unfold insertAsc
    split
    · exact List.mem_cons_self
    · split
      · next h => exact h ▸ List.mem_cons_self
      · exact List.mem_cons_of_mem _ ih

/-- An interrupt that is open goes out, another stands in the pending bits. -/
theorem State.msixRaise_leaves {s : State} {fn vec : Nat} (hfn : fn < s.pcie.fns.length) :
    (if s.msixOpen fn vec then (s.msixRaise fn vec).pcie.sent = s.pcie.sent ++ [(fn, vec)]
      else vec ∈ ((s.msixRaise fn vec).fnS fn).pendingBits) ∧
      { s.msixRaise fn vec with pcie := s.pcie, host := s.host } = s := by
  unfold State.msixRaise
  split
  · exact ⟨rfl, rfl⟩
  · rw [State.fnS_modFn _ _ _ hfn, if_pos rfl]
    exact ⟨mem_insertAsc_self .., rfl⟩

theorem freezeShadowsDone_raises (hw : s.obs.freezeWriting = true) (hfns : s.pcie.fns.length = 17) :
    ∃ s', exec (.freezeShadowsDone t) s = .next s' ∧ s'.obs.freezeDone = true ∧ s'.obs.freezeWriting = false ∧
      (if s.msixOpen 0 35 then s'.pcie.sent = s.pcie.sent ++ [(0, 35)] else 35 ∈ (s'.fnS 0).pendingBits) ∧
      { s' with time := s.time, obs := s.obs, pcie := s.pcie, host := s.host } = s := by
  have hrow := (exec_freezeShadowsDone t s).trans (ranAt_pos rfl ..)
  have hdone : (s.at t).shadowsDone =
      ((s.at t).modObs fun o => { o with freezeWriting := false, freezeDone := true }).msixRaise 0 35 := if_pos hw
  obtain ⟨hraise, hrest⟩ := State.msixRaise_leaves (fn := 0) (vec := 35)
    (s := (s.at t).modObs fun o => { o with freezeWriting := false, freezeDone := true }) (by simp [hfns])
  rw [hdone] at hrow
  refine ⟨_, hrow, by simp, by simp, hraise, ?_⟩
  exact congrArg (fun x : State => { x with time := s.time, obs := s.obs, pending := s.pending }) hrest

end

/-- Settles O24. -/
theorem freezeCopiesCounters : Obligations.FreezeCopiesCounters :=
  ⟨fun s t => ⟨fun _ _ _ => freeze_waits t, freezeGo_triggers t s, trigIn_triggers t s, fabricFreeze_triggers t s⟩,
    fun _ t => ⟨fun _ => freezeInstant_early, fun _ => freezeInstant_freezes, freezeShadowsDone_raises t⟩⟩

end Sys2Proof.Machine
end

section
/-!
SUPPORT. Trace commands and the buffer modes (R350, R458-R460), and the obligation on them.
-/
namespace Sys2Proof.Machine

/-- A counter programme that waits takes effect. -/
def State.settleProgramme (s : State) : State := match s.obs.programmeNext with
  | some p =>
    let s := s.modObs fun o => { o with programme := p, programmeNext := none }
    let s := s.modClusters fun l => l.map fun (c : Cluster) => { c with selCounters := [] }
    let s := s.modStks fun l => l.map fun (c : Stack) => { c with selCounters := [] }
    s.modHub fun h => { h with selCounters := [] }
  | none => s

/-- A trace configuration that waits takes effect. -/
def State.settleTrace (s : State) : State := match s.obs.traceConfNext with
  | some c => s.modObs fun o => { o with traceConf := c, traceConfNext := none, buffers := (List.range 5).map fun b =>
      { state := if getU c (32 + 32 * b) 1 = 0 then 0 else 1 } }
  | none => s

/-- Breakpoints that wait are armed. -/
def Observability.armBreaks (o : Observability) : Observability := { o with
  breaks := o.breaksNext.foldl (fun l e => l.set e.1 (some { bytes := e.2, armed := true })) o.breaks, breaksNext := [] }

theorem State.settleObs_eq (s : State) : s.settleObs = s.settleProgramme.settleTrace.modObs Observability.armBreaks := rfl

theorem State.settleProgramme_leaves (s : State) : ∃ p cs ks h, s.settleProgramme = { s with
    obs := { s.obs with programme := p, programmeNext := none }, clusters := cs, stks := ks, hub := h } := by
  unfold State.settleProgramme
  split
  · exact ⟨_, _, _, _, rfl⟩
  · next h => exact ⟨s.obs.programme, s.clusters, s.stks, s.hub, by rw [← h]⟩

/-- A trace configuration that waits takes effect with every buffer empty. -/
theorem State.settleTrace_some {s : State} {c : List Byte} (h : s.obs.traceConfNext = some c) : s.settleTrace =
    s.modObs fun o => { o with traceConf := c, traceConfNext := none, buffers := (List.range 5).map fun b =>
      { state := if getU c (32 + 32 * b) 1 = 0 then 0 else 1 } } := by
  unfold State.settleTrace
  rw [h]

/-- What a trace configuration leaves as it takes effect. -/
theorem State.settleObs_trace {s : State} {c : List Byte} (h : s.obs.traceConfNext = some c) : ∃ o cs ks g,
    s.settleObs = { s with obs := o, clusters := cs, stks := ks, hub := g } ∧ o.traceConf = c ∧ o.traceConfNext = none ∧
      ∀ b < 5, o.buffers.getD b {} = { state := if getU c (32 + 32 * b) 1 = 0 then 0 else 1 } := by
  obtain ⟨p, cs, ks, g, hp⟩ := s.settleProgramme_leaves
  have hnext : s.settleProgramme.obs.traceConfNext = some c := by rw [hp]; exact h
  rw [State.settleObs_eq, State.settleTrace_some hnext, hp]
  exact ⟨_, cs, ks, g, rfl, rfl, rfl, fun b hb =>
    getD_map_range (fun b => ({ state := if getU c (32 + 32 * b) 1 = 0 then 0 else 1 } : TraceBuf)) hb {}⟩

section
variable {s : State} {fn slot : Nat} {c : Cmd} (hslot : isSlot fn slot) (t : Nat)
include hslot

theorem traceConfig_answers (h : s.isArrived 0x0804 fn slot c) (hlen : c.payload.length = 192)
    (hgood : traceConfBad c.payload = none) :
    ∃ s', exec (.traceConfig fn slot t) s = .next s' ∧ s'.reply? fn slot = some (okReply []) ∧
      (s.frame.devState ≠ 0 → s'.obs.traceConf = s.obs.traceConf ∧ s'.obs.traceConfNext = some c.payload ∧
        s'.obs.buffers = s.obs.buffers) ∧
      (s.frame.devState = 0 → s'.obs.traceConf = c.payload ∧ s'.obs.traceConfNext = none ∧
        ∀ b < 5, s'.obs.buffers.getD b {} = { state := if getU c.payload (32 + 32 * b) 1 = 0 then 0 else 1 }) ∧
      { s' with time := s.time, det := s.det, mbx := { s'.mbx with cmds := s.mbx.cmds }, obs := s.obs,
                clusters := s.clusters, stks := s.stks, hub := s.hub } = s := by
  have hrow := (exec_traceConfig fn slot t s).trans (execTakenA hslot h (fun _ => rfl) (fun _ => rfl) t _)
  have hbody : bodyTraceConfig c (s.taken t c) =
      (((s.taken t c).modObs fun o => { o with traceConfNext := some c.payload }).settleIdle State.settleObs).accept c := by
    unfold bodyTraceConfig
    rw [State.need_pos (by simp [hlen]), hgood]
  rw [hbody] at hrow
  unfold State.settleIdle at hrow
  rw [State.modObs_frame, State.taken_frame] at hrow
  by_cases h0 : s.frame.devState = 0
  · rw [if_pos h0] at hrow
    obtain ⟨o, cs, ks, g, hset, hconf, hnext, hbuffers⟩ := State.settleObs_trace
      (s := (s.taken t c).modObs fun o => { o with traceConfNext := some c.payload }) (c := c.payload) rfl
    rw [hset] at hrow
    refine ⟨_, hrow, State.answeredA h (by simp) _ _, fun hne => absurd h0 hne, fun _ => ⟨hconf, hnext, hbuffers⟩, ?_⟩
    apply State.ext_parts <;> simp
  · rw [if_neg h0] at hrow
    refine ⟨_, hrow, State.answeredA h (by simp) _ _, fun _ => ⟨by simp, by simp, by simp⟩, fun he => absurd he h0, ?_⟩
    apply State.ext_parts <;> simp

theorem traceConfig_refused {st : Nat} (h : s.isArrived 0x0804 fn slot c) (hlen : c.payload.length = 192)
    (hbad : traceConfBad c.payload = some st) :
    ∃ s', exec (.traceConfig fn slot t) s = .next s' ∧ s'.reply? fn slot = some (refusal st) ∧ s.onlyAnswered s' := by
  refine ⟨_, (exec_traceConfig fn slot t s).trans (execTakenA hslot h (fun _ => rfl) (fun _ => rfl) t _), ?_⟩
  unfold bodyTraceConfig
  rw [State.need_pos (by simp [hlen]), hbad]
  exact ⟨State.refusedA h (by simp) _ _ _, State.onlyAnswered_refuse ..⟩

theorem traceRead_answers {a len : Nat} {x : TraceBuf} (h : s.isArrived 0x0805 fn slot c) (hlen : c.payload.length = 8)
    (hz : allZero (slice c.payload 1 7) = true) (hb : getU c.payload 0 1 ≤ 4)
    (hx : x = s.obs.buffers.getD (getU c.payload 0 1) {}) (hd : c.descs = [{ addr := a, len := len, write := true }])
    (hfit : (x.units ++ x.post).flatten.length ≤ len) (hdma : s.dmaOk fn = true) :
    ∃ s', exec (.traceRead fn slot t) s = .next s' ∧
      s'.reply? fn slot = some (okReply (le 4 (x.units ++ x.post).flatten.length ++ le 4 x.overflows)) ∧
      s'.host = Mem.writeBytes a (x.units ++ x.post).flatten s.host ∧ s.onlyDelivered s' c := by
  obtain ⟨hfn, -⟩ := State.cmd?_slot h.1
  have hrow := (exec_traceRead fn slot t s).trans (execTakenA hslot h (fun _ => rfl) (fun _ => rfl) t _)
  have hbody : bodyTraceRead c (s.taken t c) = ((s.taken t c).output c (x.units ++ x.post).flatten).accept c
      (le 4 (x.units ++ x.post).flatten.length ++ le 4 x.overflows) := by
    unfold bodyTraceRead
    rw [State.shape_pos hlen (by simpa using hz)]
    dsimp only
    rw [State.need_pos (by simpa using hb), State.taken_obs, ← hx]
    exact State.deliver_fits (by simpa [Cmd.room, hd, sumN] using hfit) _ _
  rw [hbody] at hrow
  have hhost := State.output_one (c := c) (d := { addr := a, len := len, write := true }) (by simp [hd]) hfit
    (s := s.taken t c) (by rw [hfn]; simpa using hdma)
  exact ⟨_, hrow, State.answeredA h (by simp) _ _, hhost.trans (by rw [State.taken_host]), State.onlyDelivered_output ..⟩

end

theorem Stack.returnToken_takeToken {x : Stack} {i : Nat} (hi : x.freeChannel = some i) (ht : x.dmaTokens ≠ 0) :
    (x.takeToken i).returnToken i = x := by
  have hfree := List.find?_some hi
  obtain ⟨b, hb⟩ : ∃ b, x.channels[i]? = some b := by
    cases hb : x.channels[i]? with
    | some b => exact ⟨b, rfl⟩
    | none => simp [List.getD, hb] at hfree
  have hset : x.channels.set i false = x.channels := by
    obtain ⟨hlt, hget⟩ := List.getElem?_eq_some_iff.mp hb
    have : x.channels[i] = false := by simpa [List.getD, hb, hget] using hfree
    rw [← this, List.set_getElem_self]
  simp [Stack.returnToken, Stack.takeToken, hset, Nat.sub_add_cancel (Nat.pos_of_ne_zero ht)]

/-- What needs a token of the stack's DMA takes it and gives it back. -/
theorem State.withToken_keeps {s : State} {k : Nat} (h : s.dmaReady k = true) {f : State → State}
    (hf : ∀ l : List Stack, f { s with stks := l } = { f s with stks := l }) (hstks : (f s).stks = s.stks) :
    s.withToken k f = f s := by
  obtain ⟨ht, hch⟩ := by simpa [State.dmaReady] using h
  obtain ⟨i, hi⟩ := Option.isSome_iff_exists.mp hch
  unfold State.withToken
  rw [hi]
  dsimp only
  rw [if_neg ht]
  have hmod : ∀ g : Stack → Stack, s.modStk k g = { s with stks := s.stks.modify k g } := fun _ => rfl
  rw [hmod, hf]
  have hback : (s.stks.modify k (Stack.takeToken i)).modify k (Stack.returnToken i) = s.stks := by
    rw [List.modify_modify_eq]
    refine List.ext_getElem? fun j => ?_
    rw [List.getElem?_modify]
    split
    · next hj =>
      subst hj
      cases hk : s.stks[k]? with
      | none => rfl
      | some x =>
        have hx : s.stk k = x := by simp [State.stk, List.getD, hk]
        exact congrArg some (Stack.returnToken_takeToken (hx ▸ hi) (hx ▸ ht))
    · cases s.stks[j]? <;> rfl
  change { f s with stks := (s.stks.modify k (Stack.takeToken i)).modify k (Stack.returnToken i) } = f s
  rw [hback, ← hstks]

/-- The state with a timing event counted (R292). -/
def State.slipped (cause stack cluster delay : Nat) (s : State) : State :=
  let s := s.modFrame fun f => { f with timingSlip := true, slipTicks := satU 32 (f.slipTicks + delay) }
  let same (e : SlipEntry) : Bool :=
    e.frame == s.frame.counter && e.cause == cause && e.stack == stack && e.cluster == cluster
  let one : SlipEntry :=
    { frame := s.frame.counter, cause := cause, stack := stack, cluster := cluster, delay := delay, count := 1 }
  s.modDet fun d => { d with
    slipLog := if d.slipLog.any same then
        d.slipLog.map fun e => if same e then
          { e with delay := satU 32 (e.delay + delay), count := satU 32 (e.count + 1) } else e
      else (d.slipLog ++ [one]).drop (d.slipLog.length + 1 - 4096) }

theorem State.timingEvent_withStks (cause stack cluster delay : Nat) (s : State) (l : List Stack) :
    State.timingEvent cause stack cluster delay { s with stks := l } =
      { s.timingEvent cause stack cluster delay with stks := l } := by
  by_cases h : s.frame.conf.exact = true ∧ s.gridRuns = true ∧ s.frame.phase ≠ .closed ∧ 0 < delay
  · have hl : State.timingEvent cause stack cluster delay { s with stks := l } =
        State.slipped cause stack cluster delay { s with stks := l } := if_pos h
    have hr : s.timingEvent cause stack cluster delay = s.slipped cause stack cluster delay := if_pos h
    rw [hl, hr]
    rfl
  · have hl : State.timingEvent cause stack cluster delay { s with stks := l } = { s with stks := l } := if_neg h
    have hr : s.timingEvent cause stack cluster delay = s := if_neg h
    rw [hl, hr]

/-- The block with unit `u` of a source written to buffer `b`, `q` held behind it. -/
def State.bufferTakes (s : State) (b source : Nat) (q : List (List Byte)) (u : List Byte) (x : TraceBuf) : TraceBuf :=
  { x with hold := upsert source q x.hold }.take b (s.traceCfg b 0 1) (s.traceCfg b 1 1) s.time.now u

/-- The write of a unit, under the stack's token. -/
def State.writeUnit (b source : Nat) (q : List (List Byte)) (u : List Byte) (s : State) : State :=
  let r := s.fresh
  let s := r.2.timingEvent 7 (if b = 4 then 0xFF else b) 0xFF (r.1.toNat % 2 ^ 32)
  s.modObs fun o => { o with buffers := o.buffers.modify b (s.bufferTakes b source q u) }

/-- A unit is written as the timing event leaves the trace configuration. -/
theorem State.writeUnit_eq (b source : Nat) (q : List (List Byte)) (u : List Byte) (s : State) : s.writeUnit b source q u =
    (s.fresh.2.timingEvent 7 (if b = 4 then 0xFF else b) 0xFF (s.fresh.1.toNat % 2 ^ 32)).modObs fun o =>
      { o with buffers := o.buffers.modify b (s.bufferTakes b source q u) } := by
  obtain ⟨⟨y, m, l, h⟩, -⟩ := State.timingEvent_leaves 7 (if b = 4 then 0xFF else b) 0xFF (s.fresh.1.toNat % 2 ^ 32) s.fresh.2
  unfold State.writeUnit
  dsimp only
  rw [h]
  rfl

theorem State.writeUnit_withStks (b source : Nat) (q : List (List Byte)) (u : List Byte) (s : State) (l : List Stack) :
    State.writeUnit b source q u { s with stks := l } = { s.writeUnit b source q u with stks := l } := by
  rw [State.writeUnit_eq, State.writeUnit_eq]
  exact congrArg (fun x : State => x.modObs fun o => { o with buffers := o.buffers.modify b (s.bufferTakes b source q u) })
    (State.timingEvent_withStks 7 (if b = 4 then 0xFF else b) 0xFF (s.fresh.1.toNat % 2 ^ 32) s.fresh.2 l)

/-- What the write of a unit leaves. -/
theorem State.writeUnit_leaves (b source : Nat) (q : List (List Byte)) (u : List Byte) (s : State) : ∃ y m l,
    s.writeUnit b source q u = { s with
      free := s.free + 1, frame := { s.frame with timingSlip := y, slipTicks := m }, det := { s.det with slipLog := l },
      obs := { s.obs with buffers := s.obs.buffers.modify b (s.bufferTakes b source q u) } } ∧
      (s.noSlips → (s.writeUnit b source q u).frame = s.frame ∧ (s.writeUnit b source q u).det = s.det) := by
  obtain ⟨⟨y, m, l, h⟩, hkeep⟩ := State.timingEvent_leaves 7 (if b = 4 then 0xFF else b) 0xFF (s.fresh.1.toNat % 2 ^ 32) s.fresh.2
  rw [State.writeUnit_eq]
  refine ⟨y, m, l, ?_, fun hno => ?_⟩
  · rw [h]
    rfl
  · rw [hkeep hno]
    exact ⟨rfl, rfl⟩

theorem State.traceUnitWrite_writes {s : State} {b source : Nat} {u : List Byte} {q : List (List Byte)} {x : TraceBuf}
    (hx : x = s.obs.buffers.getD b {}) (hst : x.state = 1 ∨ x.state = 3) (hhold : lookupD [] source x.hold = u :: q)
    (htoken : b < 4 → s.dmaReady b = true) : s.traceUnitWrite b source u = s.writeUnit b source q u := by
  unfold State.traceUnitWrite
  dsimp only
  rw [← hx, hhold, State.when_, if_pos (by simpa using hst)]
  split
  · next hb =>
    refine State.withToken_keeps (f := State.writeUnit b source q u) (htoken hb) (State.writeUnit_withStks b source q u s) ?_
    obtain ⟨y, m, l, h, -⟩ := State.writeUnit_leaves b source q u s
    rw [h]
  · rfl

/-- What a unit written leaves: its buffer, and beside it no other and nothing but a timing event's marks. -/
structure State.UnitWritten (s s' : State) (b : Nat) (x' : TraceBuf) : Prop where
  buffer : s'.obs.buffers.getD b {} = x'
  others : ∀ k ≠ b, s'.obs.buffers.getD k {} = s.obs.buffers.getD k {}
  slips : s.noSlips → s'.frame = s.frame ∧ s'.det = s.det
  rest : { s.slipApart s' with obs := { s'.obs with buffers := s.obs.buffers } } = s

theorem traceUnitWrite_next {s : State} {b source : Nat} {u : List Byte} {q : List (List Byte)} {x : TraceBuf} (t : Nat)
    (hb : b < 5) (hsrc : source < 256) (hu : u.length = 32) (hbufs : s.obs.buffers.length = 5)
    (hx : x = s.obs.buffers.getD b {}) (htoken : b < 4 → s.dmaReady b = true) (hhold : lookupD [] source x.hold = u :: q)
    (hst : x.state = 1 ∨ x.state = 3) : ∃ s', exec (.traceUnitWrite b source u t) s = .next s' ∧ s.UnitWritten s' b
      ({ x with hold := upsert source q x.hold }.take b (s.traceCfg b 0 1) (s.traceCfg b 1 1) (max s.time.now t) u) := by
  have hrow := (exec_traceUnitWrite b source u t s).trans (ranAt_pos (by simp [below, hb, hsrc, hu]) ..)
  rw [State.traceUnitWrite_writes (s := s.at t) hx hst hhold htoken] at hrow
  obtain ⟨y, m, l, h, hslips⟩ := State.writeUnit_leaves b source q u (s.at t)
  refine ⟨_, hrow, ?_, fun k hk => ?_, hslips, ?_⟩
  · have : ((s.at t).writeUnit b source q u).obs.buffers = s.obs.buffers.modify b ((s.at t).bufferTakes b source q u) := by
      rw [h]; rfl
    simp only [this]
    have hget : s.obs.buffers[b]? = some x := by
      rw [List.getElem?_eq_getElem (hbufs ▸ hb), hx, List.getD_eq_getElem _ _ (hbufs ▸ hb)]
    simp only [List.getD, List.getElem?_modify, hget, if_true]
    rfl
  · have : ((s.at t).writeUnit b source q u).obs.buffers = s.obs.buffers.modify b ((s.at t).bufferTakes b source q u) := by
      rw [h]; rfl
    simp [this, List.getD, Ne.symm hk]
  · rw [h]
    rfl

theorem TraceBuf.take_wrap {x : TraceBuf} {b mode post now : Nat} {u : List Byte} (hm : mode = 2) :
    x.take b mode post now u = x.wrap (traceUnits b) u := by
  subst hm; rfl

theorem length_wrapped {l : List (List Byte)} {cap : Nat} (h : l.length ≤ cap) (u : List Byte) :
    ((l ++ [u]).drop (l.length + 1 - cap)).length = min (l.length + 1) cap := by
  simp
  omega

/-- In STOP_ON_FULL the unit before the last leaves the place of an OVERFLOW record, which stops the buffer. -/
theorem TraceBuf.take_stop {x : TraceBuf} {b mode post now : Nat} {u : List Byte} (hm : mode = 1) (hst : x.state = 1)
    (hroom : x.units.length + 2 ≤ traceUnits b) :
    (x.take b mode post now u).state = (if x.units.length + 2 = traceUnits b then 2 else 1) ∧
      (x.take b mode post now u).units.length =
        (if x.units.length + 2 = traceUnits b then traceUnits b else x.units.length + 1) ∧
      (x.take b mode post now u).units[x.units.length]? = some u := by
  subst hm
  unfold TraceBuf.take
  dsimp only
  rw [if_pos rfl, if_neg (not_not.mpr hst)]
  by_cases hfull : x.units.length + 2 = traceUnits b
  · rw [if_pos (by simp; omega)]
    simp only [if_pos hfull, List.length_append, List.length_singleton]
    exact ⟨trivial, hfull, by simp⟩
  · rw [if_neg (by simp; omega)]
    simp [hfull, hst]

/-- In the post region of TRIGGER_WINDOW recording stops when the region is full. -/
theorem TraceBuf.take_post {x : TraceBuf} {b mode post now : Nat} {u : List Byte} (hm : mode = 3) (hst : x.state = 3) :
    (x.take b mode post now u).post = x.post ++ [u] ∧ (x.take b mode post now u).units = x.units ∧
      (x.take b mode post now u).state = (if post * (traceUnits b / 16) ≤ x.post.length + 1 then 2 else 3) := by
  subst hm
  unfold TraceBuf.take
  dsimp only
  rw [if_neg (by decide), if_neg (by decide), if_neg (by simp [hst]), if_pos ⟨rfl, hst⟩]
  by_cases hfull : post * (traceUnits b / 16) ≤ x.post.length + 1
  · rw [if_pos (by simpa [postUnits] using hfull), if_pos hfull]
    exact ⟨rfl, rfl, rfl⟩
  · rw [if_neg (by simpa [postUnits] using hfull), if_neg hfull]
    exact ⟨rfl, rfl, hst⟩

/-- Settles O25. -/
theorem traceBuffers : Obligations.TraceBuffers := by
  refine ⟨fun s fn slot t c hslot => ⟨traceConfig_answers hslot t, fun st => traceConfig_refused hslot t,
    fun a len x => traceRead_answers hslot t⟩, fun s b source u q x t hb hsrc hu hbufs hx htoken hhold hcap =>
    ⟨fun hst hm => ?_, fun hst hm hroom => ?_, fun hst hm => ?_⟩⟩
  · obtain ⟨s', hexec, hbuf, hothers, hslips, hrest⟩ := traceUnitWrite_next t hb hsrc hu hbufs hx htoken hhold (.inl hst)
    rw [TraceBuf.take_wrap hm] at hbuf
    exact ⟨s', hexec, hbuf, by rw [hbuf]; exact length_wrapped hcap u, hothers, hslips, hrest⟩
  · obtain ⟨s', hexec, hbuf, -, -, hrest⟩ := traceUnitWrite_next t hb hsrc hu hbufs hx htoken hhold (.inl hst)
    obtain ⟨hstate, hlen, hunit⟩ := TraceBuf.take_stop (x := { x with hold := upsert source q x.hold }) (b := b)
      (mode := s.traceCfg b 0 1) (post := s.traceCfg b 1 1) (now := max s.time.now t) (u := u) hm hst hroom
    exact ⟨s', hexec, by rw [hbuf]; exact hstate, by rw [hbuf]; exact hlen, by rw [hbuf]; exact hunit, hrest⟩
  · obtain ⟨s', hexec, hbuf, -, -, hrest⟩ := traceUnitWrite_next t hb hsrc hu hbufs hx htoken hhold (.inr hst)
    obtain ⟨hpost, hunits, hstate⟩ := TraceBuf.take_post (x := { x with hold := upsert source q x.hold }) (b := b)
      (mode := s.traceCfg b 0 1) (post := s.traceCfg b 1 1) (now := max s.time.now t) (u := u) hm hst
    exact ⟨s', hexec, by rw [hbuf]; exact hpost, by rw [hbuf]; exact hunits, by rw [hbuf]; exact hstate, hrest⟩

end Sys2Proof.Machine
end

section
/-!
SUPPORT. Breakpoints (R350, R396, R461, R462), and the obligation on them.
-/
namespace Sys2Proof.Machine

/-- The block with a breakpoint that waits to be armed. -/
def Observability.breakWaits (b : List Byte) (o : Observability) : Observability :=
  { o with breaksNext := (o.breaksNext.filter fun x => x.1 != getU b 0 1) ++ [(getU b 0 1, b)] }

@[simp] theorem State.taken_classSIn (s : State) (t : Nat) (c : Cmd) (p : Nat → Bool) :
    (s.taken t c).classSIn p = s.classSIn p := by simp [State.classSIn]

@[simp] theorem State.taken_lifecycle (s : State) (t : Nat) (c : Cmd) : (s.taken t c).lifecycle = s.lifecycle := by
  simp [State.lifecycle]

@[simp] theorem State.taken_breakBad (s : State) (t : Nat) (c : Cmd) (b : List Byte) : (s.taken t c).breakBad b = s.breakBad b := by
  simp [State.breakBad]

@[simp] theorem State.taken_halted (s : State) (t : Nat) (c : Cmd) : (s.taken t c).halted = s.halted := by
  simp [State.halted]

/-- A breakpoint that passes its checks names one of the sixteen. -/
theorem State.breakBad_index {s : State} {b : List Byte} (h : s.breakBad b = none) : getU b 0 1 < 16 := by
  by_contra hlt
  unfold State.breakBad at h
  split at h
  · exact absurd h (by simp)
  · rw [if_pos (by simp; omega)] at h
    exact absurd h (by simp)

/-- The breakpoints armed: the one that waited last stands in its place. -/
theorem Observability.armBreaks_breakWaits {o : Observability} {b : List Byte} (hlen : o.breaks.length = 16)
    (hi : getU b 0 1 < 16) : (o.breakWaits b).armBreaks.breaks.getD (getU b 0 1) none = some { bytes := b, armed := true } ∧
      (o.breakWaits b).armBreaks.breaksNext = [] ∧
      (o.breaksNext = [] → (o.breakWaits b).armBreaks =
        { o with breaks := o.breaks.set (getU b 0 1) (some { bytes := b, armed := true }) }) := by
  have hkeep : ∀ (l : List (Nat × List Byte)) (x : List (Option Breakpoint)),
      (l.foldl (fun x e => x.set e.1 (some { bytes := e.2, armed := true })) x).length = x.length := by
    intro l
    induction l with
    | nil => exact fun _ => rfl
    | cons e l ih => exact fun x => (ih _).trans List.length_set
  refine ⟨?_, rfl, fun hnone => ?_⟩
  · simp only [Observability.armBreaks, Observability.breakWaits, List.foldl_append, List.foldl_cons, List.foldl_nil]
    rw [List.getD_eq_getElem _ _ (by rw [List.length_set, hkeep, hlen]; exact hi), List.getElem_set_self]
  · simp [Observability.armBreaks, Observability.breakWaits, hnone]

theorem State.settleTrace_leaves (s : State) : ∃ tc bs, s.settleTrace = { s with
      obs := { s.obs with traceConf := tc, traceConfNext := none, buffers := bs } } ∧
    (s.obs.traceConfNext = none → tc = s.obs.traceConf ∧ bs = s.obs.buffers) := by
  unfold State.settleTrace
  split
  · next h => exact ⟨_, _, rfl, fun hn => absurd (h.symm.trans hn) nofun⟩
  · next h => exact ⟨s.obs.traceConf, s.obs.buffers, by rw [← h], fun _ => ⟨rfl, rfl⟩⟩

theorem State.settleProgramme_none {s : State} (h : s.obs.programmeNext = none) : s.settleProgramme = s := by
  unfold State.settleProgramme
  rw [h]

/-- What a breakpoint leaves as it is armed, with what waited beside it. -/
theorem State.settleObs_breakWaits (s : State) (b : List Byte) : ∃ o cs ks g,
    (s.modObs (Observability.breakWaits b)).settleObs =
      { s with obs := (o.breakWaits b).armBreaks, clusters := cs, stks := ks, hub := g } ∧
    o.breaks = s.obs.breaks ∧ o.breaksNext = s.obs.breaksNext ∧
    (s.obs.programmeNext = none → cs = s.clusters ∧ ks = s.stks ∧ g = s.hub ∧ (s.obs.traceConfNext = none → o = s.obs)) := by
  rw [State.settleObs_eq]
  obtain ⟨tc, bs, htrace, hkeep⟩ := (s.modObs (Observability.breakWaits b)).settleProgramme.settleTrace_leaves
  rw [htrace]
  by_cases hp : s.obs.programmeNext = none
  · have hsame : (s.modObs (Observability.breakWaits b)).settleProgramme = s.modObs (Observability.breakWaits b) :=
      State.settleProgramme_none hp
    rw [hsame] at hkeep ⊢
    refine ⟨{ s.obs with traceConf := tc, traceConfNext := none, buffers := bs }, _, _, _, rfl, rfl, rfl,
      fun _ => ⟨rfl, rfl, rfl, fun hc => ?_⟩⟩
    obtain ⟨rfl, rfl⟩ := hkeep hc
    rw [← hc]
    rfl
  · obtain ⟨p, cs, ks, g, hset⟩ := (s.modObs (Observability.breakWaits b)).settleProgramme_leaves
    rw [hset]
    exact ⟨{ s.obs with programme := p, programmeNext := none, traceConf := tc, traceConfNext := none, buffers := bs },
      cs, ks, g, rfl, rfl, rfl, fun hn => absurd hn hp⟩

/-- The state with the halts taken away, `d` ticks after they began (R306). -/
def State.unhalted (d : Nat) (s : State) : State :=
  let s := s.modClusters fun l => l.map fun (x : Cluster) => { x with halted := false }
  let s := if s.obs.cpHalted then s.modSafety fun x => { x with cfwBeat := x.cfwBeat + d / 4 } else s
  let s := s.modObs fun o => { o with cpHalted := false }
  let s := s.modReq fun r => { r with haltSince := none, haltTicks := r.haltTicks + d }
  let running := s.frame.conf.exact && s.gridRuns && s.frame.phase != .closed && s.frame.phase != .guarded
  if running then s.modFrame fun f => { f with rakeAt := f.rakeAt + d, nextOpen := f.nextOpen + d } else s

theorem State.unhalted_leaves (d : Nat) (s : State) : ∃ sf fr, s.unhalted d = { s with
    clusters := s.clusters.map fun (x : Cluster) => { x with halted := false }, safety := sf,
    obs := { s.obs with cpHalted := false },
    req := { s.req with haltSince := none, haltTicks := s.req.haltTicks + d }, frame := fr } := by
  simp only [State.unhalted]
  split <;> split <;> exact ⟨_, _, rfl⟩

/-- The restart as a whole, its timing event counted. -/
theorem State.unhalted_slips (d : Nat) (s : State) : ∃ sf fr de, (s.unhalted d).timingEvent 7 0xFF 0xFF d = { s with
    clusters := s.clusters.map fun (x : Cluster) => { x with halted := false }, safety := sf,
    obs := { s.obs with cpHalted := false },
    req := { s.req with haltSince := none, haltTicks := s.req.haltTicks + d }, frame := fr, det := de } := by
  obtain ⟨sf, fr, h⟩ := s.unhalted_leaves d
  obtain ⟨⟨y, m, l, hslip⟩, -⟩ := State.timingEvent_leaves 7 0xFF 0xFF d (s.unhalted d)
  rw [hslip, h]
  exact ⟨_, _, _, rfl⟩

section
variable {s : State} {fn slot : Nat} {c : Cmd} (hslot : isSlot fn slot) (t : Nat)
include hslot

theorem breakSet_next (h : s.isArrived 0x0806 fn slot c) (hlen : c.payload.length = 32) (hgood : s.breakBad c.payload = none)
    (hclass : s.classSIn (fun st => inR st 2 4) = false) (hlife : getU c.payload 1 1 ≠ 3 ∨ s.lifecycle ∈ [0, 3, 4]) :
    exec (.breakSet fn slot t) s = .next { State.accept c
      (((s.taken t c).modObs (Observability.breakWaits c.payload)).settleIdle State.settleObs) with pending := s.pending } := by
  refine ((exec_breakSet fn slot t s).trans (execTakenA hslot h (fun _ => rfl) (fun _ => rfl) t _)).trans ?_
  unfold bodyBreakSet
  rw [State.need_pos (by simp [hlen]), State.taken_breakBad, hgood]
  dsimp only
  rw [State.need_pos (by simp [hclass]), State.need_pos (by simpa using hlife)]
  rfl

theorem breakSet_answers (hlen16 : s.obs.breaks.length = 16) (h : s.isArrived 0x0806 fn slot c) (hlen : c.payload.length = 32)
    (hgood : s.breakBad c.payload = none)
    (hclass : s.classSIn (fun st => inR st 2 4) = false) (hlife : getU c.payload 1 1 ≠ 3 ∨ s.lifecycle ∈ [0, 3, 4]) :
    ∃ s', exec (.breakSet fn slot t) s = .next s' ∧ s'.reply? fn slot = some (okReply []) ∧
      (s.frame.devState ≠ 0 →
        s'.obs = { s.obs with breaksNext := (s.obs.breaksNext.filter fun x => x.1 != getU c.payload 0 1) ++
          [(getU c.payload 0 1, c.payload)] }) ∧
      (s.frame.devState = 0 →
        s'.obs.breaks.getD (getU c.payload 0 1) none = some { bytes := c.payload, armed := true } ∧
        s'.obs.breaksNext = []) ∧
      (s.frame.devState = 0 → s.obs.programmeNext = none → s.obs.traceConfNext = none → s.obs.breaksNext = [] →
        s'.obs = { s.obs with
          breaks := s.obs.breaks.set (getU c.payload 0 1) (some { bytes := c.payload, armed := true }) }) ∧
      (s.frame.devState ≠ 0 ∨ s.obs.programmeNext = none →
        { s' with time := s.time, det := s.det, mbx := { s'.mbx with cmds := s.mbx.cmds }, obs := s.obs } = s) := by
  have hrow := breakSet_next hslot t h hlen hgood hclass hlife
  unfold State.settleIdle at hrow
  rw [State.modObs_frame, State.taken_frame] at hrow
  by_cases h0 : s.frame.devState = 0
  · obtain ⟨o, cs, ks, g, hset, hbreaks, hnext, hplain⟩ := State.settleObs_breakWaits (s.taken t c) c.payload
    rw [if_pos h0, hset] at hrow
    rw [State.taken_obs] at hbreaks hnext hplain
    obtain ⟨harmed, hnone, honly⟩ := Observability.armBreaks_breakWaits (o := o) (b := c.payload) (by rw [hbreaks, hlen16])
      (State.breakBad_index hgood)
    refine ⟨_, hrow, State.answeredA h (by simp) _ _, fun hne => absurd h0 hne, fun _ => ⟨harmed, hnone⟩,
      fun _ hp hc hb => ?_, fun hor => ?_⟩
    · obtain ⟨-, -, -, ho⟩ := hplain hp
      rw [ho hc] at honly
      have := honly hb
      rw [ho hc]
      exact this
    · obtain ⟨rfl, rfl, rfl, -⟩ := hplain (hor.resolve_left (not_not.mpr h0))
      apply State.ext_parts <;> simp
  · rw [if_neg h0] at hrow
    refine ⟨_, hrow, State.answeredA h (by simp) _ _, fun _ => by simp [Observability.breakWaits], fun he => absurd he h0,
      fun he => absurd he h0, fun _ => ?_⟩
    apply State.ext_parts <;> simp

theorem breakSet_refused (h : s.isArrived 0x0806 fn slot c) (hlen : c.payload.length = 32) (hgood : s.breakBad c.payload = none)
    (hclass : s.classSIn (fun st => inR st 2 4) = true) :
    ∃ s', exec (.breakSet fn slot t) s = .next s' ∧ s'.reply? fn slot = some (refusal 0x0201) ∧ s.onlyAnswered s' := by
  refine ⟨_, (exec_breakSet fn slot t s).trans (execTakenA hslot h (fun _ => rfl) (fun _ => rfl) t _), ?_⟩
  unfold bodyBreakSet
  rw [State.need_pos (by simp [hlen]), State.taken_breakBad, hgood]
  dsimp only
  rw [State.need_neg (by simp [hclass])]
  exact ⟨State.refusedA h (by simp) _ _ _, State.onlyAnswered_refuse ..⟩

theorem breakSet_locked (h : s.isArrived 0x0806 fn slot c) (hlen : c.payload.length = 32) (hgood : s.breakBad c.payload = none)
    (hclass : s.classSIn (fun st => inR st 2 4) = false) (hcore : getU c.payload 1 1 = 3) (hlife : s.lifecycle ∉ [0, 3, 4]) :
    ∃ s', exec (.breakSet fn slot t) s = .next s' ∧ s'.reply? fn slot = some (refusal 0x0503) ∧ s.onlyAnswered s' := by
  refine ⟨_, (exec_breakSet fn slot t s).trans (execTakenA hslot h (fun _ => rfl) (fun _ => rfl) t _), ?_⟩
  unfold bodyBreakSet
  rw [State.need_pos (by simp [hlen]), State.taken_breakBad, hgood]
  dsimp only
  rw [State.need_pos (by simp [hclass]), State.need_neg (by simpa [hcore] using hlife)]
  exact ⟨State.refusedA h (by simp) _ _ _, State.onlyAnswered_refuse ..⟩

theorem breakClear_answers {hit : Bool} (h : s.isArrived 0x0807 fn slot c) (hlen : c.payload.length = 8)
    (hz : allZero (slice c.payload 1 7) = true) (hi : getU c.payload 0 1 ≤ 15) :
    ∃ s', exec (.breakClear fn slot hit t) s = .next s' ∧ s'.reply? fn slot = some (okReply []) ∧
      (∀ b, s.obs.breaks.getD (getU c.payload 0 1) none = some b →
        ∃ b', s'.obs.breaks.getD (getU c.payload 0 1) none = some b' ∧ b'.armed = false ∧ b'.bytes = b.bytes) ∧
      (∀ k, k ≠ getU c.payload 0 1 → s'.obs.breaks.getD k none = s.obs.breaks.getD k none) ∧
      (∀ e ∈ s'.obs.breaksNext, e.1 ≠ getU c.payload 0 1) ∧
      { s' with time := s.time, det := s.det, mbx := { s'.mbx with cmds := s.mbx.cmds }, obs := s.obs } = s := by
  refine ⟨_, (exec_breakClear fn slot hit t s).trans (execTakenA hslot h (fun _ => rfl) (fun _ => rfl) t _), ?_⟩
  unfold bodyBreakClear
  rw [State.shape_pos hlen (by simpa using hz)]
  dsimp only
  rw [State.need_pos (by simpa using hi)]
  refine ⟨State.answeredA h (by simp) _ _, fun b hb => ?_, fun k hk => ?_, fun e he => ?_, ?_⟩
  · have hget : s.obs.breaks[getU c.payload 0 1]? = some (some b) := by
      cases hx : s.obs.breaks[getU c.payload 0 1]? with
      | none => simp [List.getD, hx] at hb
      | some y => simpa [List.getD, hx] using hb
    simp [List.getD, hget]
  · simp [List.getD, Ne.symm hk]
  · exact (by simpa using he : e ∈ s.obs.breaksNext ∧ ¬e.1 = getU c.payload 0 1).2
  · apply State.ext_parts <;> simp

theorem breakResume_answers (h : s.isArrived 0x0808 fn slot c) (hp : c.payload = []) :
    ∃ s', exec (.breakResume fn slot t) s = .next s' ∧
      (s.halted = true → s'.reply? fn slot = some (okReply []) ∧ s'.halted = false ∧ s'.req.haltSince = none ∧
        { s' with time := s.time, det := s.det, mbx := { s'.mbx with cmds := s.mbx.cmds }, obs := s.obs,
                  clusters := s.clusters, req := s.req, frame := s.frame, safety := s.safety } = s) ∧
      (s.halted = false → s'.reply? fn slot = some (refusal 0x0201) ∧ s.onlyAnswered s') := by
  have hrow := (exec_breakResume fn slot t s).trans (execTakenA hslot h (fun _ => rfl) (fun _ => rfl) t _)
  unfold bodyBreakResume at hrow
  rw [State.shape_pos (by simp [hp]) (by simp), State.taken_halted] at hrow
  cases hh : s.halted
  · rw [hh, State.need_neg rfl] at hrow
    exact ⟨_, hrow, nofun, fun _ => ⟨State.refusedA h (by simp) _ _ _, State.onlyAnswered_refuse ..⟩⟩
  · rw [hh, State.need_pos rfl] at hrow
    obtain ⟨sf, fr, de, hset⟩ := State.unhalted_slips
      ((s.taken t c).time.now - (s.taken t c).req.haltSince.getD (s.taken t c).time.now) (s.taken t c)
    change _ = Host.Outcome.next { State.accept c (((s.taken t c).unhalted _).timingEvent 7 0xFF 0xFF _) with
      pending := s.pending } at hrow
    rw [hset] at hrow
    refine ⟨_, hrow, fun _ => ⟨State.answeredA h (by simp) _ _, by simp [State.halted], rfl, ?_⟩, nofun⟩
    apply State.ext_parts <;> simp

end

/-- The halts of a hit breakpoint with a halt action (R461, R462). -/
def State.breakHalts (act unit cluster : Nat) (s : State) : State :=
  let l := if unit = 3 ∧ bits act 1 2 ≠ 2 then [] else s.haltScope (bits act 1 2) cluster
  let s := l.foldl (init := s) fun s p => s.modCl p fun x => { x with halted := true }
  let s := if unit = 3 then s.modObs fun o => { o with cpHalted := true } else s
  (s.modReq fun r => { r with haltSince := some (r.haltSince.getD s.time.now) }).msixRaise 0 35

/-- The other actions of a breakpoint: freeze, trigger of the trace, trigger output. -/
def State.breakTriggers (act : Nat) (s : State) : State :=
  let s := if bit act 3 then s.freezeTrigger else s
  let s := if bit act 4 then s.traceTrigger 1 else s
  if bit act 5 then s.modObs fun o => { o with trigOut := some s.time.now } else s

theorem State.breakAction_eq (act unit cluster : Nat) (s : State) :
    s.breakAction act unit cluster = (if bit act 0 then s.breakHalts act unit cluster else s).breakTriggers act := rfl

theorem State.breakTriggers_leaves (act : Nat) (s : State) : ∃ bs out fp fr, s.breakTriggers act = { s with
    obs := { s.obs with buffers := bs, trigOut := out, freezePending := fp, freezeRemote := fr } } := by
  have hfreeze : ∃ fp fr, (if bit act 3 then s.freezeTrigger else s) = { s with
      obs := { s.obs with freezePending := fp, freezeRemote := fr } } := by
    split <;> exact ⟨_, _, rfl⟩
  unfold State.breakTriggers
  dsimp only
  generalize (if bit act 3 then s.freezeTrigger else s) = x at hfreeze
  obtain ⟨fp, fr, rfl⟩ := hfreeze
  obtain ⟨bs, out, htrig⟩ := State.traceTrigger_obs 1 { s with obs := { s.obs with freezePending := fp, freezeRemote := fr } }
  rw [htrig]
  split <;> split <;> exact ⟨_, _, _, _, rfl⟩

/-- The clusters `l` halted. -/
theorem State.foldl_halts (l : List Nat) (s : State) : ∃ cs,
    (l.foldl (fun (s : State) p => s.modCl p fun x => { x with halted := true }) s) = { s with clusters := cs } ∧
    cs.length = s.clusters.length ∧
    ∀ q < s.clusters.length, q ∈ l ∨ (s.clusters.getD q {}).halted = true → (cs.getD q {}).halted = true := by
  induction l generalizing s with
  | nil => exact ⟨_, rfl, rfl, fun q _ h => h.resolve_left (by simp)⟩
  | cons p l ih =>
    obtain ⟨cs, heq, hlen, hhalt⟩ := ih (s.modCl p fun x => { x with halted := true })
    have hmod : (s.modCl p fun x => { x with halted := true }).clusters.length = s.clusters.length := List.length_modify ..
    refine ⟨cs, heq, hlen.trans hmod, fun q hq h => hhalt q (hmod.symm ▸ hq) ?_⟩
    change q ∈ l ∨ ((s.clusters.modify p fun x => { x with halted := true }).getD q {}).halted = true
    rw [List.getD_eq_getElem _ _ (by simpa using hq), List.getElem_modify]
    rw [List.getD_eq_getElem _ _ hq] at h
    by_cases hp : p = q
    · exact .inr (by simp [hp])
    · rcases h with h | h
      · exact .inl ((List.mem_cons.mp h).resolve_left (Ne.symm hp))
      · exact .inr (by simpa [hp] using h)

theorem State.mem_haltScope {s : State} {scope cluster q : Nat} (hq : q < 64) (hen : s.enabled q = true)
    (h : scope = 2 ∨ scope = 1 ∧ q / 16 = cluster / 16 ∨ q = cluster) : q ∈ s.haltScope scope cluster := by
  simp only [State.haltScope, State.enabledList, List.mem_filter, List.mem_range, stackOf]
  refine ⟨⟨hq, hen⟩, ?_⟩
  rcases h with rfl | ⟨rfl, h⟩ | rfl <;> simp [*]

theorem State.breakHalts_leaves {act unit cluster : Nat} {s : State} (hlen : s.clusters.length = 64) :
    ∃ cs pc ho, s.breakHalts act unit cluster = { s with
      clusters := cs, pcie := pc, host := ho, obs := { s.obs with cpHalted := decide (unit = 3) || s.obs.cpHalted },
      req := { s.req with haltSince := some (s.req.haltSince.getD s.time.now) } } ∧
    (∀ q < 64, s.enabled q = true → (unit ≠ 3 ∧ (q = cluster ∨ bits act 1 2 = 1 ∧ q / 16 = cluster / 16) ∨ bits act 1 2 = 2) →
      (cs.getD q {}).halted = true) := by
  unfold State.breakHalts
  dsimp only
  obtain ⟨cs, heq, -, hhalt⟩ := State.foldl_halts
    (if unit = 3 ∧ bits act 1 2 ≠ 2 then [] else s.haltScope (bits act 1 2) cluster) s
  rw [heq]
  generalize hx : ((if unit = 3 then ({ s with clusters := cs } : State).modObs fun o => { o with cpHalted := true }
    else { s with clusters := cs }).modReq _) = x
  have hxs : x = { s with
      clusters := cs, obs := { s.obs with cpHalted := decide (unit = 3) || s.obs.cpHalted },
      req := { s.req with haltSince := some (s.req.haltSince.getD s.time.now) } } := by
    subst hx
    by_cases h3 : unit = 3 <;> simp [h3, State.modReq, State.modObs]
  refine ⟨cs, (x.msixRaise 0 35).pcie, (x.msixRaise 0 35).host, ?_, fun q hq hen h => ?_⟩
  · subst hxs
    apply State.ext_parts <;> simp
  · refine hhalt q (hlen ▸ hq) (.inl ?_)
    rw [if_neg fun ⟨h3, h2⟩ => h.elim (fun h => h.1 h3) h2]
    refine State.mem_haltScope hq hen ?_
    rcases h with ⟨-, h | h⟩ | h
    · exact .inr (.inr h)
    · exact .inr (.inl h)
    · exact .inl h

/-- A breakpoint's hit, recorded and counted. -/
def State.breakCounted (i unit p pc layer op : Nat) (s : State) : State :=
  let buf := if unit = 3 ∨ p ≥ 64 then 4 else stackOf p
  ((s.modObs fun o => { o with breaks := o.breaks.modify i (·.map fun x => { x with hits := x.hits + 1 }) }).trace buf
    (if buf = 4 then 0xFF else p) 0xE
    (le 1 i ++ le 1 unit ++ le 1 p ++ [0] ++ le 4 pc ++ le 2 layer ++ le 2 op) layer op).bumpHub 17

theorem State.breakCounted_leaves (i unit p pc layer op : Nat) (s : State) : ∃ bs ks h,
    s.breakCounted i unit p pc layer op = { s with
      stks := ks, hub := h, obs := { s.obs with breaks := s.obs.breaks.modify i (·.map fun x => { x with hits := x.hits + 1 }), buffers := bs } } := by
  unfold State.breakCounted
  dsimp only
  generalize le 1 i ++ le 1 unit ++ le 1 p ++ [0] ++ le 4 pc ++ le 2 layer ++ le 2 op = body
  generalize (if unit = 3 ∨ p ≥ 64 then 4 else stackOf p) = buf
  obtain ⟨ks, h, bs, htrace, -⟩ := State.trace_atTrace buf (if buf = 4 then 0xFF else p) 0xE body
    (s.modObs fun o => { o with breaks := o.breaks.modify i (·.map fun x => { x with hits := x.hits + 1 }) }) layer op
  rw [htrace]
  exact ⟨bs, ks, _, rfl⟩

theorem State.breakHit_misses {s : State} {i unit p pc layer op : Nat} {b : Breakpoint}
    (hb : s.obs.breaks.getD i none = some b) (hm : breakMatches b.bytes unit p pc layer op = false) :
    s.breakHit i unit p pc layer op = s := by
  unfold State.breakHit
  rw [hb]
  exact if_neg (by simp [hm])

theorem State.breakHit_counts {s : State} {i unit p pc layer op : Nat} {b : Breakpoint}
    (hb : s.obs.breaks.getD i none = some b) (harmed : b.armed = true) (hm : breakMatches b.bytes unit p pc layer op = true) :
    s.breakHit i unit p pc layer op =
      if b.hits + 1 ≥ getU b.bytes 16 2 then (s.breakCounted i unit p pc layer op).breakAction (getU b.bytes 18 1) unit p
      else s.breakCounted i unit p pc layer op := by
  unfold State.breakHit
  rw [hb]
  exact if_pos (by simp [hm, harmed])

theorem modify_map_eq_set {l : List (Option Breakpoint)} {i : Nat} {b : Breakpoint} (hb : l.getD i none = some b)
    (f : Breakpoint → Breakpoint) : l.modify i (·.map f) = l.set i (some (f b)) := by
  have hi : i < l.length := by
    by_contra hlt
    simp [List.getD, List.getElem?_eq_none (Nat.le_of_not_lt hlt)] at hb
  rw [List.getD_eq_getElem _ _ hi] at hb
  rw [List.modify_eq_set_getElem?, List.getElem?_eq_getElem hi]
  simp [hb]

/-- What a hit leaves: below its count nothing but the hit, at it what its actions do. -/
theorem State.breakHit_leaves {s : State} {i unit p pc layer op : Nat} {b : Breakpoint}
    (hb : s.obs.breaks.getD i none = some b) (harmed : b.armed = true) (hm : breakMatches b.bytes unit p pc layer op = true)
    (hlen : s.clusters.length = 64) :
    ∃ o cs ks h rq pc' ho, s.breakHit i unit p pc layer op = { s with
        obs := o, clusters := cs, stks := ks, hub := h, req := rq, pcie := pc', host := ho } ∧
      o.breaks = s.obs.breaks.set i (some { b with hits := b.hits + 1 }) ∧
      (b.hits + 1 < getU b.bytes 16 2 → cs = s.clusters ∧ rq = s.req ∧ pc' = s.pcie ∧ ho = s.host) ∧
      (getU b.bytes 16 2 ≤ b.hits + 1 → bit (getU b.bytes 18 1) 0 = true →
        (∀ q < 64, s.enabled q = true → (unit ≠ 3 ∧ (q = p ∨ bits (getU b.bytes 18 1) 1 2 = 1 ∧ q / 16 = p / 16) ∨
          bits (getU b.bytes 18 1) 1 2 = 2) → (cs.getD q {}).halted = true) ∧
        (unit = 3 → o.cpHalted = true) ∧ rq.haltSince = some (s.req.haltSince.getD s.time.now)) := by
  have hset := modify_map_eq_set hb fun x => { x with hits := x.hits + 1 }
  rw [State.breakHit_counts hb harmed hm]
  obtain ⟨bs, ks, h, hx⟩ := State.breakCounted_leaves i unit p pc layer op s
  rw [hx]
  by_cases hcount : b.hits + 1 ≥ getU b.bytes 16 2
  · rw [if_pos hcount, State.breakAction_eq]
    by_cases hact : bit (getU b.bytes 18 1) 0 = true
    · rw [if_pos hact]
      obtain ⟨cs, pc', ho, hhalt, hall⟩ := State.breakHalts_leaves (act := getU b.bytes 18 1) (unit := unit) (cluster := p)
        (s := { s with stks := ks, hub := h, obs := { s.obs with
          breaks := s.obs.breaks.modify i (·.map fun x => { x with hits := x.hits + 1 }), buffers := bs } }) hlen
      rw [hhalt]
      obtain ⟨_, _, _, _, htrig⟩ := State.breakTriggers_leaves (getU b.bytes 18 1) _
      rw [htrig]
      exact ⟨_, _, _, _, _, _, _, rfl, hset, fun hlt => absurd hcount (Nat.not_le.mpr hlt),
        fun _ _ => ⟨hall, fun h3 => by simp [h3], rfl⟩⟩
    · rw [if_neg hact]
      obtain ⟨_, _, _, _, htrig⟩ := State.breakTriggers_leaves (getU b.bytes 18 1) _
      rw [htrig]
      exact ⟨_, _, _, _, _, _, _, rfl, hset, fun _ => ⟨rfl, rfl, rfl, rfl⟩, fun _ h => absurd h hact⟩
  · rw [if_neg hcount]
    exact ⟨_, _, _, _, _, _, _, rfl, hset, fun _ => ⟨rfl, rfl, rfl, rfl⟩, fun h => absurd h hcount⟩

theorem breakHit_next {i : Nat} (hi : i < 16) (unit p pc layer op t : Nat) (s : State) :
    exec (.breakHit i unit p pc layer op t) s =
      .next { (s.at t).breakHit i unit p pc layer op with pending := (s.at t).pending } :=
  (exec_breakHit i unit p pc layer op t s).trans (ranAt_pos (by simpa [below] using hi) ..)

theorem breakHit_misses {s : State} {i unit p pc layer op : Nat} {b : Breakpoint} (t : Nat) (hi : i < 16)
    (hb : s.obs.breaks.getD i none = some b) (hm : breakMatches b.bytes unit p pc layer op = false) :
    ∃ s', exec (.breakHit i unit p pc layer op t) s = .next s' ∧ { s' with time := s.time } = s :=
  ⟨_, breakHit_next hi unit p pc layer op t s, by rw [State.breakHit_misses (s := s.at t) hb hm]; rfl⟩

theorem breakHit_hits {s : State} {i unit p pc layer op : Nat} {b : Breakpoint} (t : Nat) (hi : i < 16)
    (hb : s.obs.breaks.getD i none = some b) (harmed : b.armed = true) (hlen : s.clusters.length = 64)
    (hm : breakMatches b.bytes unit p pc layer op = true) :
    ∃ s', exec (.breakHit i unit p pc layer op t) s = .next s' ∧
      s'.obs.breaks = s.obs.breaks.set i (some { b with hits := b.hits + 1 }) ∧
      (b.hits + 1 < getU b.bytes 16 2 →
        { s' with time := s.time, obs := s.obs, hub := s.hub, stks := s.stks } = s) ∧
      (getU b.bytes 16 2 ≤ b.hits + 1 → bit (getU b.bytes 18 1) 0 = true →
        (∀ q < 64, s.enabled q = true → (unit ≠ 3 ∧ (q = p ∨ bits (getU b.bytes 18 1) 1 2 = 1 ∧ q / 16 = p / 16) ∨
          bits (getU b.bytes 18 1) 1 2 = 2) → (s'.cl q).halted = true) ∧
        (unit = 3 → s'.obs.cpHalted = true) ∧ s'.req.haltSince = some (s.req.haltSince.getD (max s.time.now t))) ∧
      { s' with time := s.time, obs := s.obs, hub := s.hub, stks := s.stks, clusters := s.clusters, req := s.req,
                pcie := s.pcie, host := s.host } = s := by
  obtain ⟨o, cs, ks, h, rq, pc', ho, heq, hbreaks, hbelow, hat⟩ :=
    State.breakHit_leaves (s := s.at t) hb harmed hm hlen
  refine ⟨_, breakHit_next hi unit p pc layer op t s, ?_⟩
  rw [heq]
  refine ⟨hbreaks, fun hlt => ?_, hat, rfl⟩
  obtain ⟨rfl, rfl, rfl, rfl⟩ := hbelow hlt
  rfl

/-- Settles O26, a command and a hit at a time. -/
theorem breakpoints : Obligations.Breakpoints := by
  unfold Obligations.Breakpoints
  refine ⟨fun s fn slot t c hslot hlen16 => ⟨breakSet_answers hslot t hlen16, breakSet_refused hslot t, breakSet_locked hslot t,
    fun _ => breakClear_answers hslot t, breakResume_answers hslot t⟩,
    fun s i unit p pc layer op b t hi hb harmed hlen => ⟨breakHit_misses t hi hb, breakHit_hits t hi hb harmed hlen⟩⟩

end Sys2Proof.Machine
end

section
/-!
SUPPORT. Heat and the power limit (R281, R474, R477), and the obligation on them.
-/
namespace Sys2Proof.Machine

/-- A change of a clock step is a timing event with a free delay. -/
theorem State.clockStepped_leaves (k : Nat) (s : State) :
    ∃ n fr de, s.clockStepped k = { s with free := n, frame := fr, det := de } := by
  obtain ⟨⟨b, m, l, h⟩, -⟩ := State.timingEvent_leaves 6 k 0xFF (s.fresh.1.toNat % 2 ^ 32) s.fresh.2
  exact ⟨_, _, _, h⟩

/-- The step of a clock, taken or not, leaves the always-on domain as it is. -/
theorem State.stepped_leaves {P : Aon → Prop} {p : Prop} [Decidable p] {k : Nat} {s x : State}
    (hx : x = { s with aon := x.aon }) (hP : P x.aon) :
    ∃ a n fr de, (if p then x.clockStepped k else x) = { s with aon := a, free := n, frame := fr, det := de } ∧ P a := by
  split
  · obtain ⟨n, fr, de, h⟩ := State.clockStepped_leaves k x
    rw [h, hx]
    exact ⟨_, _, _, _, rfl, hP⟩
  · rw [hx]
    exact ⟨_, _, _, _, rfl, hP⟩

theorem foldl_max_ge (r : List Int) (d : Int) : d ≤ r.foldl max d ∧ ∀ y ∈ r, y ≤ r.foldl max d := by
  induction r generalizing d with
  | nil => exact ⟨le_refl _, nofun⟩
  | cons x r ih =>
    obtain ⟨hd, hr⟩ := ih (max d x)
    exact ⟨(le_max_left d x).trans hd, fun y hy => (List.mem_cons.mp hy).elim
      (fun h => h ▸ (le_max_right d x).trans hd) (hr y)⟩

theorem foldl_max_mem (r : List Int) (d : Int) : r.foldl max d = d ∨ r.foldl max d ∈ r := by
  induction r generalizing d with
  | nil => exact .inl rfl
  | cons x r ih =>
    rcases ih (max d x) with h | h
    · rcases max_choice d x with hx | hx
      · exact .inl (h.trans hx)
      · exact .inr (List.mem_cons.mpr (.inl (h.trans hx)))
    · exact .inr (List.mem_cons_of_mem x h)

theorem le_maxD {d x : Int} {l : List Int} (h : x ∈ l) : x ≤ maxD d l := by
  cases l with
  | nil => exact absurd h (by simp)
  | cons y r => exact (List.mem_cons.mp h).elim (fun e => e ▸ (foldl_max_ge r y).1) ((foldl_max_ge r y).2 x)

theorem maxD_mem (d : Int) {l : List Int} (h : l ≠ []) : maxD d l ∈ l := by
  cases l with
  | nil => exact absurd rfl h
  | cons y r => exact (foldl_max_mem r y).elim (fun e => List.mem_cons.mpr (.inl e)) (List.mem_cons_of_mem y)

theorem bit_or (a b i : Nat) : bit (a ||| b) i = (bit a i || bit b i) := by
  have h (v : Nat) : bit v i = v.testBit i := by
    simp [bit, Nat.testBit_eq_decide_div_mod_eq, beq_eq_decide]
  simp [h]

theorem stackTemps_ne {s : State} {k : Nat} {raw : List Int} (h : raw ≠ []) : s.stackTemps k raw ≠ [] := by
  simp [State.stackTemps, h]

/-- The stacks of the tripped clusters, in four bits. -/
theorem tripStacks_eq (v : Nat) : tripStacks v = flag (bits v 0 16 != 0) 0 + flag (bits v 16 16 != 0) 1 +
    flag (bits v 32 16 != 0) 2 + flag (bits v 48 16 != 0) 3 := by
  simp [tripStacks, List.range_succ, sumN]

/-- The cause of a trip: the sensors' bits, an excursion's, the stacks' from bit 8 on. -/
def tripCause (any hub hbm b0 b1 b2 b3 : Bool) (exc : Option Bool) : Nat :=
  flag any 0 + flag hub 1 + flag hbm 2 + (match exc with
      | some true => 16
      | some false => 8
      | none => 0) + 256 * (flag b0 0 + flag b1 1 + flag b2 2 + flag b3 3)

theorem bit_tripCause (any hub hbm b0 b1 b2 b3 : Bool) (exc : Option Bool) :
    bit (tripCause any hub hbm b0 b1 b2 b3 exc) 0 = any ∧ bit (tripCause any hub hbm b0 b1 b2 b3 exc) 1 = hub ∧
    bit (tripCause any hub hbm b0 b1 b2 b3 exc) 2 = hbm ∧
    bit (tripCause any hub hbm b0 b1 b2 b3 exc) 3 = (exc == some false) ∧
    bit (tripCause any hub hbm b0 b1 b2 b3 exc) 4 = (exc == some true) ∧
    bit (tripCause any hub hbm b0 b1 b2 b3 exc) 8 = b0 ∧ bit (tripCause any hub hbm b0 b1 b2 b3 exc) 9 = b1 ∧
    bit (tripCause any hub hbm b0 b1 b2 b3 exc) 10 = b2 ∧ bit (tripCause any hub hbm b0 b1 b2 b3 exc) 11 = b3 := by
  revert any hub hbm b0 b1 b2 b3 exc
  decide

section
variable {s : State} (t : Nat)

theorem thermalTrip_trips {tripped : Nat} {hub hbm : Bool} (hrails : s.aon.railsUp = true) (exc : Option Bool)
    (hlt : tripped < 2 ^ 64) (hany : tripped ≠ 0 ∨ hub = true ∨ hbm = true) :
    ∃ s', exec (.thermalTrip tripped hub hbm exc t) s = .next s' ∧ s'.aon.railsUp = false ∧ s'.aon.pstate = 5 ∧
      s'.aon.thermTripped = true ∧ s'.aon.tripTime = some (max s.time.now t) ∧
      bit s'.aon.cause 0 = (bit s.aon.cause 0 || decide (tripped ≠ 0)) ∧ bit s'.aon.cause 1 = (bit s.aon.cause 1 || hub) ∧
      bit s'.aon.cause 2 = (bit s.aon.cause 2 || hbm) ∧ bit s'.aon.cause 3 = (bit s.aon.cause 3 || exc == some false) ∧
      bit s'.aon.cause 4 = (bit s.aon.cause 4 || exc == some true) ∧
      (∀ j < 4, bit s'.aon.cause (8 + j) = (bit s.aon.cause (8 + j) || decide (tripped / 2 ^ (16 * j) % 2 ^ 16 ≠ 0))) ∧
      s'.mgmt.smbAlert = true ∧ s'.boot.cfwUp = false ∧ (∀ i < 16, (s'.ses i).state = 0) ∧ s'.part = s.part ∧
      s'.flash = s.flash ∧ s'.host = s.host := by
  have hne (v : Nat) : (v != 0) = decide (v ≠ 0) := by by_cases h : v = 0 <;> simp [h]
  have htrip : (s.at t).thermalTrip tripped hub hbm exc = (((s.at t).mainOff.modAon fun a => { a with
      pstate := 5, thermTripped := true, tripTime := some (s.at t).time.now, shutdownSince := (s.at t).time.now,
      mainInRange := a.mainInRange && exc.isNone,
      cause := a.cause ||| tripCause (tripped != 0) hub hbm (bits tripped 0 16 != 0) (bits tripped 16 16 != 0)
        (bits tripped 32 16 != 0) (bits tripped 48 16 != 0) exc }).modMgmt fun m => { m with smbAlert := true }) := by
    unfold State.thermalTrip State.when_
    rw [if_pos (by simpa [State.at, hrails, or_assoc] using hany), tripStacks_eq]
    rfl
  obtain ⟨h0, h1, h2, h3, h4, h8, h9, h10, h11⟩ := bit_tripCause (tripped != 0) hub hbm (bits tripped 0 16 != 0)
    (bits tripped 16 16 != 0) (bits tripped 32 16 != 0) (bits tripped 48 16 != 0) exc
  refine ⟨_, (exec_thermalTrip ..).trans (ranAt_pos (by simpa [below] using hlt) ..), ?_⟩
  rw [htrip]
  generalize hcause : tripCause (tripped != 0) hub hbm (bits tripped 0 16 != 0) (bits tripped 16 16 != 0)
    (bits tripped 32 16 != 0) (bits tripped 48 16 != 0) exc = cause at h0 h1 h2 h3 h4 h8 h9 h10 h11
  refine ⟨rfl, rfl, rfl, rfl, (bit_or ..).trans (by rw [h0, hne]; rfl), (bit_or ..).trans (by rw [h1]; rfl),
    (bit_or ..).trans (by rw [h2]; rfl), (bit_or ..).trans (by rw [h3]; rfl), (bit_or ..).trans (by rw [h4]; rfl),
    fun j hj => (bit_or ..).trans (congrArg (bit s.aon.cause (8 + j) || ·) ?_), rfl, rfl,
    fun i _ => congrArg Session.state (State.mainOff_ses _ i), rfl, rfl, rfl⟩
  match j with
  | 0 => exact h8.trans (hne _)
  | 1 => exact h9.trans (hne _)
  | 2 => exact h10.trans (hne _)
  | 3 => exact h11.trans (hne _)

theorem thermalTrip_none : ∃ s', exec (.thermalTrip 0 false false none t) s = .next s' ∧ { s' with time := s.time } = s := by
  refine ⟨_, (exec_thermalTrip ..).trans (ranAt_pos (by decide) ..), ?_⟩
  simp [State.thermalTrip, State.when_, State.at]

/-- The thermal step of a stack whose hottest reading is `hot`, the readings below 97 degrees since `since`. -/
def thermalTo (hot : Int) (cool spaced : Bool) (old : Nat) : Nat :=
  if 100 * 64 ≤ hot ∧ old < 4 then old + 1 else if (cool && spaced && decide (0 < old)) = true then old - 1 else old

/-- Since when the stack is cool. -/
def State.coolSince (s : State) (k : Nat) (hot : Int) : Option Nat :=
  if hot < 97 * 64 then some ((s.aon.coolSince.getD k none).getD s.time.now) else none

/-- It is cool for 1 ms. -/
def State.cooled (s : State) (k : Nat) (hot : Int) : Bool :=
  match s.coolSince k hot with
  | some t => decide (t + 1000 * ticksPerUs ≤ s.time.now)
  | none => false

theorem State.thermalStep_leaves {s : State} {k : Nat} {raw : List Int} (hrails : s.aon.railsUp = true) (hraw : raw ≠ []) :
    ∃ a n fr de, s.thermalStep k raw = { s with aon := a, free := n, frame := fr, det := de } ∧ a.tempValid = true ∧
      a.thermStep = s.aon.thermStep.set k (thermalTo (maxD 0 (s.stackTemps k raw)) (s.cooled k (maxD 0 (s.stackTemps k raw)))
        (s.spacedMs (s.aon.lastThermDown.getD k none)) (s.aon.thermStep.getD k 0)) := by
  unfold State.thermalStep State.when_
  rw [if_pos (by simp [hrails, hraw])]
  dsimp only
  have hstep : (if decide (100 * 64 ≤ maxD 0 (s.stackTemps k raw) ∧ s.aon.thermStep.getD k 0 < 4) = true
      then s.aon.thermStep.getD k 0 + 1 else if (!decide (100 * 64 ≤ maxD 0 (s.stackTemps k raw) ∧ s.aon.thermStep.getD k 0 < 4) &&
        s.cooled k (maxD 0 (s.stackTemps k raw)) && s.spacedMs (s.aon.lastThermDown.getD k none) &&
        decide (0 < s.aon.thermStep.getD k 0)) = true then s.aon.thermStep.getD k 0 - 1 else s.aon.thermStep.getD k 0) =
      thermalTo (maxD 0 (s.stackTemps k raw)) (s.cooled k (maxD 0 (s.stackTemps k raw)))
        (s.spacedMs (s.aon.lastThermDown.getD k none)) (s.aon.thermStep.getD k 0) := by
    by_cases hup : 100 * 64 ≤ maxD 0 (s.stackTemps k raw) ∧ s.aon.thermStep.getD k 0 < 4
    · simp only [thermalTo, if_pos hup, decide_eq_true hup, if_true]
    · simp only [thermalTo, if_neg hup, decide_eq_false hup, Bool.not_false, Bool.true_and, Bool.false_eq_true, if_false]
  exact State.stepped_leaves rfl ⟨rfl, congrArg (s.aon.thermStep.set k) hstep⟩

theorem thermalStep_steps {k : Nat} {temps : List Int} (hrails : s.aon.railsUp = true) (hk : k < 4)
    (hlen : s.aon.thermStep.length = 4) (hne : temps ≠ []) :
    ∃ s', exec (.thermalStep k temps t) s = .next s' ∧ s'.aon.tempValid = true ∧
      ((∃ x ∈ s.stackTemps k temps, 6400 ≤ x) → s'.aon.thermStep.getD k 0 = max (s.aon.thermStep.getD k 0) (min 4 (s.aon.thermStep.getD k 0 + 1))) ∧
      ((∃ x ∈ s.stackTemps k temps, 6208 ≤ x) → (∀ x ∈ s.stackTemps k temps, x < 6400) → s'.aon.thermStep = s.aon.thermStep) ∧
      ((∀ x ∈ s.stackTemps k temps, x < 6208) → (∃ u, s.aon.coolSince.getD k none = some u ∧ u + 1000 * ticksPerUs ≤ max s.time.now t) →
        (∀ u, s.aon.lastThermDown.getD k none = some u → u + 1000 * ticksPerUs ≤ max s.time.now t) →
        s'.aon.thermStep.getD k 0 = s.aon.thermStep.getD k 0 - 1) ∧
      (∀ j, j ≠ k → s'.aon.thermStep.getD j 0 = s.aon.thermStep.getD j 0) ∧
      { s' with time := s.time, aon := s.aon, frame := s.frame, det := s.det, free := s.free } = s := by
  obtain ⟨a, n, fr, de, heq, hvalid, hstep⟩ := State.thermalStep_leaves (s := s.at t) (k := k) hrails hne
  have hmem := maxD_mem 0 (stackTemps_ne (s := s) (k := k) hne)
  have hmax : ∀ x ∈ s.stackTemps k temps, x ≤ maxD 0 (s.stackTemps k temps) := fun x hx => le_maxD hx
  have hself (v : Nat) : (s.aon.thermStep.set k v).getD k 0 = v := by simp [List.getD, hlen, hk]
  have hself' : s.aon.thermStep.set k (s.aon.thermStep.getD k 0) = s.aon.thermStep := by
    rw [List.getD_eq_getElem _ _ (hlen ▸ hk)]; exact List.set_getElem_self _
  refine ⟨_, (exec_thermalStep ..).trans (ranAt_pos (by simpa [below] using hk) ..), ?_⟩
  rw [heq]
  dsimp only
  change a.thermStep = s.aon.thermStep.set k (thermalTo (maxD 0 (s.stackTemps k temps)) ((s.at t).cooled k (maxD 0 (s.stackTemps k temps)))
    ((s.at t).spacedMs (s.aon.lastThermDown.getD k none)) (s.aon.thermStep.getD k 0)) at hstep
  rw [hstep]
  generalize maxD 0 (s.stackTemps k temps) = hot at hmem hmax
  have hwarm : 6208 ≤ hot → (s.at t).cooled k hot = false := fun h => by
    simp [State.cooled, State.coolSince, Int.not_lt.mpr h]
  refine ⟨hvalid, fun ⟨x, hx, hge⟩ => ?_, fun ⟨x, hx, hge⟩ hlt => ?_, fun hlt hcool hspaced => ?_, fun j hj => ?_, rfl⟩
  · have := hmax x hx
    rw [hself, thermalTo, hwarm (by omega)]
    by_cases hup : 100 * 64 ≤ hot ∧ s.aon.thermStep.getD k 0 < 4
    · rw [if_pos hup]; omega
    · rw [if_neg hup, Bool.false_and, Bool.false_and, if_neg (by decide)]; omega
  · have := hmax x hx
    have := hlt hot hmem
    rw [thermalTo, hwarm (by omega), if_neg (by omega)]
    simpa only [Bool.false_and, Bool.false_eq_true, if_false] using hself'
  · obtain ⟨u, hu, hcooled⟩ := hcool
    have hlow := hlt hot hmem
    have hcool' : (s.at t).cooled k hot = true := by
      have hs : (s.at t).coolSince k hot = some u := by
        rw [State.coolSince, if_pos (by omega)]
        exact congrArg (fun x => some (Option.getD x _)) hu
      rw [State.cooled, hs]
      exact decide_eq_true hcooled
    have hspaced' : (s.at t).spacedMs (s.aon.lastThermDown.getD k none) = true := by
      cases hd : s.aon.lastThermDown.getD k none with
      | none => rfl
      | some u => exact decide_eq_true (hspaced u hd)
    rw [hself, thermalTo, hcool', hspaced', if_neg (by omega)]
    simp only [Bool.true_and, decide_eq_true_eq]
    split <;> omega
  · simp [List.getD, Ne.symm hj]

/-- A reading enters its band; band 2 counts its refreshes, a timing event. -/
theorem State.hbmTempRead_leaves {s : State} {h : Nat} {c : Int} (hrails : s.aon.railsUp = true) :
    ∃ a n cs fr de, s.hbmTempRead h c = { s with
      aon := a, free := n, frame := fr, det := de,
      hub := { s.hub with
        hbmTemp := s.hub.hbmTemp.set h c, counters := cs
        hbmBand := s.hub.hbmBand.set h (refreshBand (s.hub.hbmBand.getD h 0) c) } } := by
  unfold State.hbmTempRead State.when_
  rw [if_pos hrails]
  dsimp only
  split
  · obtain ⟨⟨b, m, l, ht⟩, -⟩ := State.timingEvent_leaves 1 0xFF 0xFF _ _
    rw [ht]
    exact ⟨_, _, _, _, _, rfl⟩
  · exact ⟨_, _, _, _, _, rfl⟩

theorem refreshBand_hot {old : Nat} {c : Int} (h : 95 < c) : refreshBand old c = 2 := by
  unfold refreshBand
  dsimp only
  rw [if_pos h]
  split <;> [skip; split] <;> rfl

theorem refreshBand_cool {old : Nat} {c : Int} (h : c ≤ 83) : refreshBand old c = 0 := by
  simp [refreshBand, show ¬95 < c by omega, show ¬85 < c by omega, show ¬93 < c by omega, show ¬83 < c by omega]

theorem refreshBand_warm {old : Nat} {c : Int} (h : 85 < c) (h' : c ≤ 93) : refreshBand old c = 1 := by
  simp only [refreshBand, if_neg (show ¬95 < c by omega), if_pos h, if_neg (show ¬(old = 2 ∧ 93 < c) by omega)]
  split <;> rfl

theorem refreshBand_held {old : Nat} {c : Int} (h : 93 < c) (h' : c ≤ 95) :
    refreshBand old c = if old = 2 then 2 else 1 := by
  simp only [refreshBand, if_neg (show ¬95 < c by omega), if_pos (show 85 < c by omega), h, and_true]
  split
  · rfl
  · split <;> rfl

theorem hbmTempRead_reads {h : Nat} {c : Int} (hrails : s.aon.railsUp = true) (hh : h < 2)
    (hband : s.hub.hbmBand.length = 2) (htemp : s.hub.hbmTemp.length = 2) :
    ∃ s', exec (.hbmTempRead h c t) s = .next s' ∧ s'.hub.hbmTemp.getD h 0 = c ∧
      (95 < c → s'.hub.hbmBand.getD h 0 = 2) ∧ (c ≤ 83 → s'.hub.hbmBand.getD h 0 = 0) ∧
      (85 < c → c ≤ 93 → s'.hub.hbmBand.getD h 0 = 1) ∧
      (93 < c → c ≤ 95 → s'.hub.hbmBand.getD h 0 = if s.hub.hbmBand.getD h 0 = 2 then 2 else 1) ∧
      (∀ j, j ≠ h → s'.hub.hbmBand.getD j 0 = s.hub.hbmBand.getD j 0) ∧
      { s' with time := s.time, aon := s.aon, hub := s.hub, frame := s.frame, det := s.det, free := s.free } = s := by
  obtain ⟨a, n, cs, fr, de, heq⟩ := State.hbmTempRead_leaves (s := s.at t) (h := h) (c := c) hrails
  have hself : (s.hub.hbmBand.set h (refreshBand (s.hub.hbmBand.getD h 0) c)).getD h 0 =
      refreshBand (s.hub.hbmBand.getD h 0) c := by simp [List.getD, hband, hh]
  refine ⟨_, (exec_hbmTempRead ..).trans (ranAt_pos (by simpa [below] using hh) ..), ?_⟩
  rw [heq]
  refine ⟨by simp [State.at, List.getD, htemp, hh], fun hc => hself.trans (refreshBand_hot hc),
    fun hc => hself.trans (refreshBand_cool hc), fun h1 h2 => hself.trans (refreshBand_warm h1 h2),
    fun h1 h2 => hself.trans (refreshBand_held h1 h2), fun j hj => by simp [State.at, List.getD, Ne.symm hj], rfl⟩

/-- Of the power limiter: power above 460 W, or the average above the limit and the last step up 1 ms ago. -/
def State.limitUp (s : State) (power avg : Nat) : Bool :=
  decide (4600 < power) || (decide (10 * s.aon.limit < avg) && s.spacedMs s.aon.lastStepUp)

/-- The instant at which the power was last above 460 W. -/
def State.lastOver (s : State) (power : Nat) : Option Nat := if decide (4600 < power) then some s.time.now else s.aon.lastOver460

/-- It steps down: the average below 95 % of the limit, the last excess and the last step 1 ms ago. -/
def State.limitDown (s : State) (power avg : Nat) : Bool :=
  !s.limitUp power avg && decide (100 * avg < 950 * s.aon.limit) && s.spacedMs (s.lastOver power) && s.spacedMs s.aon.lastStepChange

theorem State.powerSample_leaves {s : State} {power avg voltage : Nat} (hrails : s.aon.railsUp = true) :
    ∃ a n fr de, s.powerSample power avg voltage = { s with aon := a, free := n, frame := fr, det := de } ∧
      a.power = avg ∧ a.voltage = voltage ∧ a.lastOver460 = s.lastOver power ∧
      a.powerStep = (if s.limitUp power avg then min 4 (s.aon.powerStep + 1)
        else if s.limitDown power avg then s.aon.powerStep - 1 else s.aon.powerStep) := by
  have hfold (before : List Nat) (x : State) : ∃ n fr de, (List.range 4).foldl (fun (s : State) k =>
      if s.clockStep k ≠ before.getD k 0 then s.clockStepped k else s) x = { x with free := n, frame := fr, det := de } := by
    refine State.foldl_inv (fun y => ∃ n fr de, y = { x with free := n, frame := fr, det := de }) _ (fun y k hy => ?_) _ _
      ⟨_, _, _, rfl⟩
    obtain ⟨n, fr, de, rfl⟩ := hy
    split
    · obtain ⟨n, fr, de, h⟩ := State.clockStepped_leaves k _
      rw [h]
      exact ⟨_, _, _, rfl⟩
    · exact ⟨_, _, _, rfl⟩
  unfold State.powerSample State.when_
  rw [if_pos hrails]
  dsimp only
  obtain ⟨n, fr, de, h⟩ := hfold ((List.range 4).map s.clockStep) _
  rw [h]
  refine ⟨_, _, _, _, rfl, ?_, ?_, ?_, ?_⟩ <;> rfl

theorem State.spacedMs_pos {s : State} {o : Option Nat} (h : ∀ u, o = some u → u + 1000 * ticksPerUs ≤ s.time.now) :
    s.spacedMs o = true := by
  cases o with
  | none => rfl
  | some u => exact decide_eq_true (h u rfl)

theorem State.limitUp_above {s : State} {power avg : Nat} (h : 10 * s.aon.limit < avg)
    (hsp : ∀ u, s.aon.lastStepUp = some u → u + 1000 * ticksPerUs ≤ s.time.now) : s.limitUp power avg = true := by
  simp [State.limitUp, h, State.spacedMs_pos hsp]

theorem State.limitUp_below {s : State} {power avg : Nat} (hp : power ≤ 4600) (h : avg ≤ 10 * s.aon.limit) :
    s.limitUp power avg = false := by
  simp [State.limitUp, hp, Nat.not_lt.mpr h]

theorem State.limitDown_below {s : State} {power avg : Nat} (hp : power ≤ 4600) (h : 100 * avg < 950 * s.aon.limit)
    (hsp : ∀ u, s.aon.lastOver460 = some u → u + 1000 * ticksPerUs ≤ s.time.now)
    (hsp' : ∀ u, s.aon.lastStepChange = some u → u + 1000 * ticksPerUs ≤ s.time.now) : s.limitDown power avg = true := by
  have hlast : s.lastOver power = s.aon.lastOver460 := if_neg (by simpa using hp)
  simp [State.limitDown, State.limitUp_below hp (show avg ≤ 10 * s.aon.limit by omega), h, hlast, State.spacedMs_pos hsp,
    State.spacedMs_pos hsp']

theorem State.limitDown_within {s : State} {power avg : Nat} (h : 950 * s.aon.limit ≤ 100 * avg) :
    s.limitDown power avg = false := by
  simp [State.limitDown, Nat.not_lt.mpr h]

theorem powerSample_steps {power avg voltage : Nat} (hrails : s.aon.railsUp = true) :
    ∃ s', exec (.powerSample power avg voltage t) s = .next s' ∧ s'.aon.power = avg ∧ s'.aon.voltage = voltage ∧
      (4600 < power → s'.aon.powerStep = min 4 (s.aon.powerStep + 1) ∧ s'.aon.lastOver460 = some (max s.time.now t)) ∧
      (power ≤ 4600 → 10 * s.aon.limit < avg →
        (∀ u, s.aon.lastStepUp = some u → u + 1000 * ticksPerUs ≤ max s.time.now t) →
        s'.aon.powerStep = min 4 (s.aon.powerStep + 1)) ∧
      (power ≤ 4600 → 100 * avg < 950 * s.aon.limit →
        (∀ u, s.aon.lastOver460 = some u → u + 1000 * ticksPerUs ≤ max s.time.now t) →
        (∀ u, s.aon.lastStepChange = some u → u + 1000 * ticksPerUs ≤ max s.time.now t) →
        s'.aon.powerStep = s.aon.powerStep - 1) ∧
      (power ≤ 4600 → avg ≤ 10 * s.aon.limit → 950 * s.aon.limit ≤ 100 * avg → s'.aon.powerStep = s.aon.powerStep) ∧
      { s' with time := s.time, aon := s.aon, frame := s.frame, det := s.det, free := s.free } = s := by
  obtain ⟨a, n, fr, de, heq, hpower, hvolt, hover, hstep⟩ :=
    State.powerSample_leaves (s := s.at t) (power := power) (avg := avg) (voltage := voltage) hrails
  refine ⟨_, (exec_powerSample ..).trans (ranAt_pos rfl ..), ?_⟩
  rw [heq]
  refine ⟨hpower, hvolt, fun hp => ⟨hstep.trans (if_pos ?_), hover.trans (if_pos (decide_eq_true hp))⟩,
    fun hp hlim hsp => hstep.trans (if_pos (State.limitUp_above (s := s.at t) hlim hsp)),
    fun hp hlim hsp hsp' => hstep.trans ((if_neg ?_).trans (if_pos (State.limitDown_below (s := s.at t) hp hlim hsp hsp'))),
    fun hp hlim hlim' => hstep.trans ((if_neg ?_).trans (if_neg ?_)), rfl⟩
  · simp [State.limitUp, hp]
  · exact Bool.eq_false_iff.mp (State.limitUp_below (s := s.at t) hp (show avg ≤ 10 * s.aon.limit by omega))
  · exact Bool.eq_false_iff.mp (State.limitUp_below hp hlim)
  · exact Bool.eq_false_iff.mp (State.limitDown_within hlim')

end

/-- Settles O54, a sensor at a time. -/
theorem heatAndPowerLimit : Obligations.HeatAndPowerLimit := by
  unfold Obligations.HeatAndPowerLimit
  exact ⟨fun s tripped k h hub hbm c temps t hrails => ⟨thermalTrip_trips t hrails, fun _ => thermalTrip_none t,
    thermalStep_steps t hrails, hbmTempRead_reads t hrails⟩, fun s power avg voltage t => powerSample_steps t⟩

end Sys2Proof.Machine
end

section
/-!
SUPPORT. The power inputs and the power control (R466 to R471, R478, R479), and the obligations on them.
-/
namespace Sys2Proof.Machine

theorem bit_or_two_pow (v i : Nat) : bit (v ||| 2 ^ i) i = true := by
  rw [bit_or, Bool.or_eq_true]
  exact .inr (by simp [bit])

theorem le_foldl_max {l : List Nat} {x : Nat} (h : x ∈ l) (d : Nat) : x ≤ l.foldl max d := by
  have hmono (l : List Nat) (d : Nat) : d ≤ l.foldl max d := by
    induction l generalizing d with
    | nil => exact le_refl _
    | cons y l ih => exact (le_max_left d y).trans (ih _)
  induction l generalizing d with
  | nil => exact absurd h (by simp)
  | cons y l ih => exact (List.mem_cons.mp h).elim (fun e => e ▸ (le_max_right d y).trans (hmono l _)) (fun h => ih h _)

/-- Both inputs away: nothing is left but the part, the flash and the host. -/
theorem State.off_leaves (s : State) : s.off.aon.railsUp = false ∧ s.off.aon.pstate = 0 ∧ s.off.aon.auxPresent = false ∧
    s.off.boot.cfwUp = false ∧ s.off.safety.safeA = false ∧ s.off.safety.safeB = false ∧ (∀ i < 16, (s.off.ses i).state = 0) ∧
    s.off.part = s.part ∧ s.off.flash = s.flash ∧ s.off.host = s.host :=
  ⟨rfl, rfl, rfl, rfl, rfl, rfl, fun i _ => congrArg Session.state (State.mainOff_ses s i), rfl, rfl, rfl⟩

section
variable {s : State} (t : Nat)

theorem auxRise_starts {g0 g1 perst lid tamper : Bool} (haux : s.aon.auxPresent = false) (hstate : s.aon.pstate = 0) :
    ∃ s', exec (.auxRise g0 g1 perst lid tamper t) s = .next s' ∧ s'.aon.auxPresent = true ∧
      s'.aon.pstate = (if s.aon.mainInRange then 2 else 1) ∧ s'.aon.railsUp = s.aon.mainInRange ∧
      s'.aon.limit = 420 ∧ s'.mgmt.smbAddress = 76 + (if g1 then 2 else 0) + (if g0 then 1 else 0) ∧
      s'.mgmt.bootSel = none ∧ s'.mgmt.linkLatched = false ∧ s'.mgmt.perstAsserted = !perst ∧ s'.mgmt.lid = lid ∧ s'.mgmt.tamperPin = tamper ∧
      (∀ e ∈ s.part.ledger, e.time < s'.mgmt.rtc) ∧ s'.part = s.part ∧ s'.flash = s.flash ∧ s'.host = s.host := by
  have hrtc : ∀ e ∈ s.part.ledger, e.time < (s.part.ledger.map (·.time)).foldl max 0 + 1 := fun e he =>
    Nat.lt_succ_of_le (le_foldl_max (List.mem_map_of_mem he) 0)
  have haddr : 76 + 2 * flag g1 0 + flag g0 0 = 76 + (if g1 then 2 else 0) + (if g0 then 1 else 0) := by
    cases g0 <;> cases g1 <;> rfl
  refine ⟨_, (exec_auxRise ..).trans (ranAt_pos rfl ..), ?_⟩
  simp only [State.auxRise, show (s.at t).aon = s.aon from rfl, haux, hstate]
  cases hmain : s.aon.mainInRange
  · exact ⟨rfl, rfl, rfl, rfl, haddr, rfl, rfl, rfl, rfl, rfl, hrtc, rfl, rfl, rfl⟩
  · exact ⟨rfl, rfl, rfl, rfl, haddr, rfl, rfl, rfl, rfl, rfl, hrtc, rfl, rfl, rfl⟩

theorem auxRise_keeps {g0 g1 perst lid tamper : Bool} (h : s.aon.auxPresent = true ∨ s.aon.pstate ≠ 0) :
    ∃ s', exec (.auxRise g0 g1 perst lid tamper t) s = .next s' ∧ s'.aon = { s.aon with auxPresent := true } ∧
      s'.mgmt.linkLatched = (s.mgmt.linkLatched && s.aon.auxPresent) ∧
      { s' with time := s.time, aon := s.aon, mgmt := { s'.mgmt with linkLatched := s.mgmt.linkLatched } } = s := by
  refine ⟨_, (exec_auxRise ..).trans (ranAt_pos rfl ..), ?_⟩
  cases haux : s.aon.auxPresent
  · have hstate := h.resolve_left (by simp [haux])
    simp only [State.auxRise, show (s.at t).aon = s.aon from rfl, haux, Bool.false_eq_true, if_false, if_pos hstate]
    exact ⟨rfl, (Bool.and_false _).symm, rfl⟩
  · simp only [State.auxRise, show (s.at t).aon = s.aon from rfl, haux, if_true]
    exact ⟨haux ▸ rfl, (Bool.and_true _).symm, rfl⟩

theorem auxLoss_fed (h : s.aon.railsUp = true ∨ s.aon.mainInRange = true) :
    ∃ s', exec (.auxLoss t) s = .next s' ∧ s'.aon = { s.aon with auxPresent := false } ∧ s'.mgmt.linkLatched = false ∧
      { s' with time := s.time, aon := s.aon, mgmt := { s'.mgmt with linkLatched := s.mgmt.linkLatched } } = s := by
  refine ⟨_, (exec_auxLoss ..).trans (ranAt_pos rfl ..), ?_⟩
  have hloss : (s.at t).auxLoss = ((s.at t).modAon fun a => { a with auxPresent := false }).modMgmt fun m =>
      { m with linkLatched := false } := if_pos h
  rw [hloss]
  exact ⟨rfl, rfl, rfl⟩

theorem auxLoss_off (hrails : s.aon.railsUp = false) (hmain : s.aon.mainInRange = false) :
    ∃ s', exec (.auxLoss t) s = .next s' ∧ s'.aon.pstate = 0 ∧ s'.aon.auxPresent = false ∧ (∀ i < 16, (s'.ses i).state = 0) ∧
      s'.safety.safeA = false ∧ s'.safety.safeB = false ∧
      s'.part = s.part ∧ s'.flash = s.flash ∧ s'.host = s.host := by
  refine ⟨_, (exec_auxLoss ..).trans (ranAt_pos rfl ..), ?_⟩
  have hloss : (s.at t).auxLoss = (s.at t).off := if_neg (by simp [State.at, hrails, hmain])
  rw [hloss]
  obtain ⟨-, hstate, haux, -, hsafeA, hsafeB, hses, hpart, hflash, hhost⟩ := (s.at t).off_leaves
  exact ⟨hstate, haux, hses, hsafeA, hsafeB, hpart, hflash, hhost⟩

theorem mainInRange_starts (hrails : s.aon.railsUp = false) (h : (s.aon.auxPresent = true ∧ s.aon.pstate ≠ 5) ∨
    (s.aon.pstate = 5 ∧ s.aon.mainInRange = false ∧ s.aon.shutdownSince + 1000000 * ticksPerUs ≤ max s.time.now t)) :
    ∃ s', exec (.mainInRange t) s = .next s' ∧ s'.aon.mainInRange = true ∧ s'.aon.railsUp = true ∧ s'.aon.pstate = 2 ∧
      s'.aon.wakeN = false ∧ s'.aon.thermTripped = false ∧ { s' with time := s.time, aon := s.aon } = s := by
  refine ⟨_, (exec_mainInRange ..).trans (ranAt_pos rfl ..), ?_⟩
  rcases h with ⟨haux, hstate⟩ | ⟨hstate, hmain, haway⟩
  · simp only [State.mainRise, State.at, State.modAon, State.modTime, hrails, haux, hstate, Bool.false_eq_true, if_false, if_true]
    exact ⟨rfl, rfl, rfl, rfl, rfl, rfl⟩
  · simp only [State.mainRise, State.at, State.modAon, State.modTime, hrails, hstate, hmain, haway, Bool.false_eq_true, if_false,
      if_true, Bool.not_false, Bool.true_and, decide_true]
    exact ⟨rfl, rfl, rfl, rfl, rfl, rfl⟩

theorem mainInRange_keeps (h : s.aon.railsUp = true ∨ (s.aon.pstate ≠ 5 ∧ s.aon.auxPresent = false) ∨ (s.aon.pstate = 5 ∧
    (s.aon.mainInRange = true ∨ max s.time.now t < s.aon.shutdownSince + 1000000 * ticksPerUs))) :
    ∃ s', exec (.mainInRange t) s = .next s' ∧ s'.aon = { s.aon with mainInRange := true, wakeN := false } ∧
      { s' with time := s.time, aon := s.aon } = s := by
  have hkeep : (s.at t).mainRise = (s.at t).modAon fun a => { a with mainInRange := true, wakeN := false } := by
    unfold State.mainRise
    dsimp only
    rcases h with hrails | ⟨hstate, haux⟩ | ⟨hstate, haway⟩
    · exact if_pos hrails
    · split
      · rfl
      · exact (if_neg hstate).trans (if_neg (by simp [State.modAon, State.at, haux]))
    · split
      · rfl
      · refine (if_pos hstate).trans (if_neg ?_)
        rcases haway with hmain | haway
        · simp [State.at, hmain]
        · simpa [State.at] using fun _ => haway
  refine ⟨_, (exec_mainInRange ..).trans (ranAt_pos rfl ..), ?_⟩
  rw [hkeep]
  exact ⟨rfl, rfl⟩

/-- What an excursion leaves (R468): its cause, the static pins, the instant at which the rails go off. -/
theorem State.excursion_leaves (b p : Nat) (s : State) : bit (s.excursion b p).aon.cause b = true ∧ (s.excursion b p).aon.pstate = p ∧
    (s.excursion b p).aon.railsUp = s.aon.railsUp ∧ (s.excursion b p).aon.railsOffDue = some (s.time.now + 200 * ticksPerUs) ∧
    (s.excursion b p).safety.safeA = false ∧ (s.excursion b p).safety.safeB = true ∧
    (s.excursion b p).safety.latch = s.safety.latch ∧ (s.excursion b p).mgmt.smbAlert = true ∧
    { s.excursion b p with aon := s.aon, safety := s.safety, mgmt := s.mgmt } = s :=
  ⟨bit_or_two_pow s.aon.cause b, rfl, rfl, rfl, rfl, rfl, rfl, rfl, rfl⟩

theorem powerFaults_shutDown (i : Instr) (b p : Nat)
    (h : (i, b, p) ∈ [(Instr.undervoltage t, 3, s.aon.pstate), (.overvoltage t, 4, 5), (.railFault t, 5, 5)])
    (hrails : s.aon.railsUp = true) : ∃ s', exec i s = .next s' ∧ bit s'.aon.cause b = true ∧ s'.aon.pstate = p ∧
      s'.aon.railsUp = true ∧ s'.aon.railsOffDue = some (max s.time.now t + 200 * ticksPerUs) ∧
      s'.safety.safeA = false ∧ s'.safety.safeB = true ∧ s'.safety.latch = s.safety.latch ∧ s'.mgmt.smbAlert = true ∧
      { s' with time := s.time, aon := s.aon, safety := s.safety, mgmt := s.mgmt } = s := by
  obtain ⟨hcause, hstate, hup, hdue, -⟩ := (s.at t).excursion_leaves b p
  simp only [List.mem_cons, Prod.mk.injEq, List.not_mem_nil, or_false] at h
  rcases h with ⟨rfl, rfl, rfl⟩ | ⟨rfl, rfl, rfl⟩ | ⟨rfl, rfl, rfl⟩
  · have hfault : (s.at t).undervoltage = (s.at t).excursion 3 s.aon.pstate := if_pos hrails
    refine ⟨_, (exec_undervoltage ..).trans (ranAt_pos rfl ..), ?_⟩
    rw [hfault]
    exact ⟨hcause, hstate, hup.trans hrails, hdue, rfl, rfl, rfl, rfl, rfl⟩
  · have hfault : (s.at t).overvoltage = (s.at t).excursion 4 5 := if_pos hrails
    refine ⟨_, (exec_overvoltage ..).trans (ranAt_pos rfl ..), ?_⟩
    rw [hfault]
    exact ⟨hcause, hstate, hup.trans hrails, hdue, rfl, rfl, rfl, rfl, rfl⟩
  · have hfault : (s.at t).railFault = ((s.at t).excursion 5 5).modAon fun a => { a with mainInRange := s.aon.mainInRange } :=
      if_pos hrails
    refine ⟨_, (exec_railFault ..).trans (ranAt_pos rfl ..), ?_⟩
    rw [hfault]
    exact ⟨hcause, hstate, hup.trans hrails, hdue, rfl, rfl, rfl, rfl, rfl⟩

theorem powerFaults_unpowered (hrails : s.aon.railsUp = false) :
    (s.aon.auxPresent = true → ∃ s', exec (.undervoltage t) s = .next s' ∧ s'.aon.mainInRange = false ∧
      s'.aon.pstate = s.aon.pstate ∧ { s' with time := s.time, aon := s.aon } = s) ∧
    (s.aon.auxPresent = false → ∃ s', exec (.undervoltage t) s = .next s' ∧ s'.aon.pstate = 0 ∧
      s'.safety.safeA = false ∧ s'.safety.safeB = false ∧ s'.part = s.part ∧ s'.flash = s.flash ∧ s'.host = s.host) ∧
    ∀ i ∈ [Instr.overvoltage t, .railFault t], ∃ s', exec i s = .next s' ∧ { s' with time := s.time } = s := by
  have hneg : ¬(s.at t).aon.railsUp = true := Bool.eq_false_iff.mp hrails
  refine ⟨fun haux => ⟨_, (exec_undervoltage ..).trans (ranAt_pos rfl ..), ?_⟩,
    fun haux => ⟨_, (exec_undervoltage ..).trans (ranAt_pos rfl ..), ?_⟩, fun i hi => ?_⟩
  · have hunder : (s.at t).undervoltage = (s.at t).modAon fun a => { a with
        mainInRange := false, shutdownSince := if a.mainInRange then (s.at t).time.now else a.shutdownSince } :=
      (if_neg hneg).trans (if_neg (by simp [State.at, haux]))
    rw [hunder]
    exact ⟨rfl, rfl, rfl⟩
  · have hunder : (s.at t).undervoltage = (s.at t).off := (if_neg hneg).trans (if_pos (by simp [State.at, haux]))
    rw [hunder]
    exact ⟨rfl, rfl, rfl, rfl, rfl, rfl⟩
  · simp only [List.mem_cons, List.not_mem_nil, or_false] at hi
    rcases hi with rfl | rfl
    · refine ⟨_, (exec_overvoltage ..).trans (ranAt_pos rfl ..), ?_⟩
      rw [show (s.at t).overvoltage = s.at t from if_neg hneg]
      rfl
    · refine ⟨_, (exec_railFault ..).trans (ranAt_pos rfl ..), ?_⟩
      rw [show (s.at t).railFault = s.at t from if_neg hneg]
      rfl

theorem State.railsOff_due {s : State} {due : Nat} (h : s.aon.railsOffDue = some due) (hdue : due ≤ s.time.now) : s.railsOff =
    if !s.aon.auxPresent ∧ !s.aon.mainInRange then s.off
    else s.mainOff.modAon fun a => { a with pstate := if s.aon.pstate = 5 then 5 else if s.aon.auxPresent then 1 else 0 } := by
  unfold State.railsOff
  rw [h]
  exact if_pos (decide_eq_true hdue)

theorem railsOff_off {due : Nat} (h : s.aon.railsOffDue = some due) (hdue : due ≤ max s.time.now t)
    (haux : s.aon.auxPresent = false) (hmain : s.aon.mainInRange = false) :
    ∃ s', exec (.railsOff t) s = .next s' ∧ s'.aon.railsUp = false ∧ s'.aon.pstate = 0 ∧ s'.boot.cfwUp = false ∧
      s'.safety.safeA = false ∧ s'.safety.safeB = false ∧ (∀ i < 16, (s'.ses i).state = 0) ∧
      s'.part = s.part ∧ s'.flash = s.flash ∧ s'.host = s.host := by
  refine ⟨_, (exec_railsOff ..).trans (ranAt_pos rfl ..), ?_⟩
  rw [State.railsOff_due (s := s.at t) h hdue, if_pos (by simp [State.at, haux, hmain])]
  obtain ⟨hup, hstate, -, hcfw, hsafeA, hsafeB, hses, hrest⟩ := (s.at t).off_leaves
  exact ⟨hup, hstate, hcfw, hsafeA, hsafeB, hses, hrest⟩

theorem railsOff_standby {due : Nat} (h : s.aon.railsOffDue = some due) (hdue : due ≤ max s.time.now t)
    (hin : s.aon.auxPresent = true ∨ s.aon.mainInRange = true) :
    ∃ s', exec (.railsOff t) s = .next s' ∧ s'.aon.railsUp = false ∧ s'.aon.railsOffDue = none ∧
      s'.aon.pstate = (if s.aon.pstate = 5 then 5 else if s.aon.auxPresent then 1 else 0) ∧ s'.boot.cfwUp = false ∧
      s'.safety.safeA = false ∧ s'.safety.safeB = true ∧ (∀ i < 16, (s'.ses i).state = 0) ∧ s'.streams = [] ∧
      s'.hbm = [] ∧ s'.aon.cause = s.aon.cause ∧ s'.part = s.part ∧ s'.flash = s.flash ∧ s'.host = s.host := by
  refine ⟨_, (exec_railsOff ..).trans (ranAt_pos rfl ..), ?_⟩
  rw [State.railsOff_due (s := s.at t) h hdue, if_neg ?_]
  · exact ⟨rfl, rfl, rfl, rfl, rfl, rfl, fun i _ => congrArg Session.state (State.mainOff_ses (s.at t) i),
      rfl, rfl, rfl, rfl, rfl, rfl⟩
  · rintro ⟨haux, hmain⟩
    exact hin.elim (fun h => by simp [State.at, h] at haux) (fun h => by simp [State.at, h] at hmain)

theorem railsOff_early (h : ∀ due, s.aon.railsOffDue = some due → max s.time.now t < due) :
    ∃ s', exec (.railsOff t) s = .next s' ∧ { s' with time := s.time } = s := by
  refine ⟨_, (exec_railsOff ..).trans (ranAt_pos rfl ..), ?_⟩
  unfold State.railsOff
  cases hd : s.aon.railsOffDue with
  | none => rw [show (s.at t).aon.railsOffDue = none from hd]; rfl
  | some due =>
    rw [show (s.at t).aon.railsOffDue = some due from hd]
    dsimp only
    rw [State.when_, if_neg (by simpa [State.at] using h due hd)]
    rfl

end

/-- Settles O52, an input at a time. -/
theorem powerInputs : Obligations.PowerInputs := by
  unfold Obligations.PowerInputs
  exact fun s g0 g1 perst lid tamper t => ⟨auxRise_starts t, auxRise_keeps t, auxLoss_fed t, auxLoss_off t, mainInRange_starts t,
    mainInRange_keeps t, powerFaults_shutDown t, powerFaults_unpowered t, fun _ => railsOff_off t, fun _ => railsOff_standby t,
    railsOff_early t⟩

end Sys2Proof.Machine
end

section
/-!
SUPPORT. PWR_CTL, WAKE_N, SMB_ALERT_N and HUB_ONLY (R469, R470, R478, R479), and the obligation on them.
-/
namespace Sys2Proof.Machine

theorem State.stk_modStk {s : State} {k : Nat} (h : k < s.stks.length) (f : Stack → Stack) :
    (s.modStk k f).stk k = f (s.stk k) := by
  simp [State.stk, State.modStk, State.modStks, h]

theorem State.stk_modStk_ne {k j : Nat} (h : j ≠ k) (f : Stack → Stack) (s : State) : (s.modStk k f).stk j = s.stk j := by
  simp [State.stk, State.modStk, State.modStks, List.getD, Ne.symm h]

/-- A write of PWR_CTL with the key and not both OFF and RESTART does what its bits say, in their order. -/
theorem State.pwrCtl_keyed {v : Nat} {s : State} (hkey : v / 65536 = 0x5057) (h : (bit v 0 && bit v 2) = false) :
    s.pwrCtl v =
      let s := if bit v 1 then s.pwrWake else s
      let s := if bit v 0 then s.pwrOff.modMgmt fun m => { m with smbAlert := true } else s
      if bit v 2 then s.pwrRestart else s := if_neg (by simp [hkey, h])

theorem State.pwrCtl_unkeyed {v : Nat} {s : State} (h : v / 65536 ≠ 0x5057 ∨ (bit v 0 && bit v 2) = true) : s.pwrCtl v = s :=
  if_pos h

theorem State.pwrRestart_early {s : State} {u : Nat} (h : s.aon.tripTime = some u) (hu : s.time.now < u + 10000000 * ticksPerUs) :
    s.pwrRestart = s := by
  unfold State.pwrRestart
  rw [h]
  exact if_neg (by simp [hu])

theorem State.pwrRestart_late {s : State} (hstate : s.aon.pstate = 5)
    (h : ∀ u, s.aon.tripTime = some u → u + 10000000 * ticksPerUs ≤ s.time.now) : s.pwrRestart =
      let s := s.mainOff.modAon fun a => { a with pstate := 1, thermTripped := false, tripTime := none }
      if s.aon.mainInRange then s.railsOn else s := by
  unfold State.pwrRestart
  cases htrip : s.aon.tripTime with
  | none => exact if_pos (by simp [hstate])
  | some u => exact if_pos (by simpa [hstate] using h u htrip)

section
variable {s : State} {v k : Nat} (t : Nat)

theorem pwrCtlOff_shutsDown (hkey : v / 65536 = 0x5057) (h0 : bit v 0 = true) (h1 : bit v 1 = false) (h2 : bit v 2 = false) :
    ∃ s', exec (.pwrCtlOff v t) s = .next s' ∧ s'.aon.pstate = 5 ∧ bit s'.aon.cause 7 = true ∧
      s'.aon.railsOffDue = some (max s.time.now t + 200 * ticksPerUs) ∧ s'.aon.railsUp = s.aon.railsUp ∧
      s'.safety.safeA = false ∧ s'.safety.safeB = true ∧ s'.safety.latch = s.safety.latch ∧
      { s' with time := s.time, aon := s.aon, safety := s.safety, mgmt := s.mgmt } = s := by
  refine ⟨_, (exec_pwrCtlOff ..).trans (ranAt_pos rfl ..), ?_⟩
  rw [if_pos h0, State.pwrCtl_keyed hkey (by simp [h2]), h0, h1, h2]
  exact ⟨rfl, bit_or_two_pow s.aon.cause 7, rfl, rfl, rfl, rfl, rfl, rfl⟩

theorem pwrCtlWake_wakes (hkey : v / 65536 = 0x5057) (h0 : bit v 0 = false) (h1 : bit v 1 = true) (h2 : bit v 2 = false)
    (hstate : s.aon.pstate = 1) :
    ∃ s', exec (.pwrCtlWake v t) s = .next s' ∧
      s'.aon = { s.aon with wakeN := true, wakeSince := max s.time.now t } ∧
      { s' with time := s.time, aon := s.aon } = s := by
  have hwake : (s.at t).pwrWake = (s.at t).modAon fun a => { a with wakeN := true, wakeSince := (s.at t).time.now } :=
    if_pos (by simp [State.at, hstate])
  refine ⟨_, (exec_pwrCtlWake ..).trans (ranAt_pos rfl ..), ?_⟩
  rw [if_pos h1, State.pwrCtl_keyed hkey (by simp [h2]), h0, h1, h2, hwake]
  exact ⟨rfl, rfl⟩

theorem pwrCtlRestart_restarts (hkey : v / 65536 = 0x5057) (h0 : bit v 0 = false) (h1 : bit v 1 = false) (h2 : bit v 2 = true)
    (hstate : s.aon.pstate = 5) (hlate : ∀ u, s.aon.tripTime = some u → u + 10000000 * ticksPerUs ≤ max s.time.now t) :
    ∃ s', exec (.pwrCtlRestart v t) s = .next s' ∧ s'.aon.pstate = (if s.aon.mainInRange then 2 else 1) ∧
      s'.aon.railsUp = s.aon.mainInRange ∧ s'.aon.railsOffDue = none ∧ s'.aon.thermTripped = false ∧
      s'.boot.cfwUp = false ∧ (∀ i < 16, (s'.ses i).state = 0) ∧ s'.part = s.part ∧ s'.flash = s.flash ∧
      s'.host = s.host := by
  have hses : ∀ i < 16, ((s.at t).mainOff.ses i).state = 0 := fun i _ => congrArg Session.state (State.mainOff_ses (s.at t) i)
  refine ⟨_, (exec_pwrCtlRestart ..).trans (ranAt_pos rfl ..), ?_⟩
  rw [if_pos h2, State.pwrCtl_keyed hkey (by simp [h0]), h0, h1, h2]
  simp only [Bool.false_eq_true, if_false, if_true, State.pwrRestart_late (s := s.at t) hstate hlate, State.modAon_aon,
    State.mainOff_aon, show (s.at t).aon = s.aon from rfl]
  cases hmain : s.aon.mainInRange
  · exact ⟨rfl, rfl, rfl, rfl, rfl, hses, rfl, rfl, rfl⟩
  · exact ⟨rfl, rfl, rfl, rfl, rfl, hses, rfl, rfl, rfl⟩

theorem pwrCtl_ignored (h : v / 65536 ≠ 0x5057 ∨ (bit v 0 && bit v 2) = true ∨ (bit v 0 = false ∧ bit v 1 = false ∧
      bit v 2 = true ∧ ∃ u, s.aon.tripTime = some u ∧ max s.time.now t < u + 10000000 * ticksPerUs)) :
    ∀ i ∈ [Instr.pwrCtlOff v t, .pwrCtlWake v t, .pwrCtlRestart v t],
      ∃ s', exec i s = .next s' ∧ { s' with time := s.time } = s := by
  have hsame : (s.at t).pwrCtl v = s.at t := by
    by_cases hno : v / 65536 ≠ 0x5057 ∨ (bit v 0 && bit v 2) = true
    · exact State.pwrCtl_unkeyed hno
    · obtain ⟨hkey, hboth⟩ := not_or.mp hno
      obtain ⟨h0, h1, h2, u, htrip, hu⟩ := (h.resolve_left hkey).resolve_left hboth
      rw [State.pwrCtl_keyed (not_not.mp hkey) (Bool.eq_false_iff.mpr hboth), h0, h1, h2]
      exact State.pwrRestart_early htrip hu
  have hbit (b : Bool) : { (if b then (s.at t).pwrCtl v else s.at t) with pending := (s.at t).pending, time := s.time } = s := by
    rw [hsame, ite_self]
    rfl
  intro i hi
  simp only [List.mem_cons, List.not_mem_nil, or_false] at hi
  rcases hi with rfl | rfl | rfl
  · exact ⟨_, (exec_pwrCtlOff ..).trans (ranAt_pos rfl ..), hbit _⟩
  · exact ⟨_, (exec_pwrCtlWake ..).trans (ranAt_pos rfl ..), hbit _⟩
  · exact ⟨_, (exec_pwrCtlRestart ..).trans (ranAt_pos rfl ..), hbit _⟩

theorem wakeNTimeout_releases : ∃ s', exec (.wakeNTimeout t) s = .next s' ∧
    s'.aon.wakeN = (s.aon.wakeN && decide (max s.time.now t < s.aon.wakeSince + 1000000 * ticksPerUs)) ∧
    { s' with time := s.time, aon := { s'.aon with wakeN := s.aon.wakeN } } = s := by
  refine ⟨_, (exec_wakeNTimeout ..).trans (ranAt_pos rfl ..), ?_⟩
  unfold State.wakeTimeout State.when_
  split
  · next h =>
    obtain ⟨-, hdue⟩ := Bool.and_eq_true_iff.mp h
    have hlate : ¬max s.time.now t < s.aon.wakeSince + 1000000 * ticksPerUs := Nat.not_lt.mpr (of_decide_eq_true hdue)
    exact ⟨by rw [decide_eq_false hlate, Bool.and_false]; rfl, rfl⟩
  · next h =>
    refine ⟨?_, rfl⟩
    change s.aon.wakeN = _
    cases hw : s.aon.wakeN
    · rfl
    · have hearly : max s.time.now t < s.aon.wakeSince + 1000000 * ticksPerUs := by simpa [State.at, hw] using h
      rw [decide_eq_true hearly]
      rfl

theorem smbAlertResponse_releases : ∃ s', exec (.smbAlertResponse t) s = .next s' ∧ s'.mgmt = { s.mgmt with smbAlert := false } ∧
    { s' with time := s.time, mgmt := s.mgmt } = s :=
  ⟨_, (exec_smbAlertResponse ..).trans (ranAt_pos rfl ..), rfl, rfl⟩

theorem hubOnlyExit_exits (hk : k < 4) (hlen : s.stks.length = 4) (hneed : s.stackNeed = true) (hub : (s.stk k).hubOnly = true)
    (hrails : s.aon.railsUp = true) :
    ∃ s', exec (.hubOnlyExit k t) s = .next s' ∧ (s'.stk k).hubOnly = false ∧ (s'.stk k).pllStopped = false ∧
      s'.aon.pstate = (if s.aon.pstate = 3 then 4 else s.aon.pstate) ∧ (∀ j, j ≠ k → s'.stk j = s.stk j) ∧
      { s' with time := s.time, stks := s.stks, aon := s.aon } = s := by
  have hexit : (s.at t).hubOnlyExit k = ((s.at t).modStk k fun x => { x with hubOnly := false, pllStopped := false }).modAon fun a =>
      { a with pstate := if a.pstate = 3 then 4 else a.pstate } := by
    refine if_pos ?_
    rw [show (s.at t).stackNeed = true from hneed, show ((s.at t).stk k).hubOnly = true from hub]
    exact hrails
  have hstk := State.stk_modStk (s := s.at t) (hlen.symm ▸ hk : k < s.stks.length)
    fun x => { x with hubOnly := false, pllStopped := false }
  refine ⟨_, (exec_hubOnlyExit ..).trans (ranAt_pos (by simpa [below] using hk) ..), ?_⟩
  rw [hexit]
  exact ⟨congrArg Stack.hubOnly hstk, congrArg Stack.pllStopped hstk, rfl, fun j hj => State.stk_modStk_ne hj _ (s.at t), rfl⟩

theorem hubOnlyEntry_enters (hk : k < 4) (hlen : s.stks.length = 4) (hneed : s.stackNeed = false)
    (hub : (s.stk k).hubOnly = false) :
    ∃ s', exec (.hubOnlyEntry k t) s = .next s' ∧ (s'.stk k).hubOnly = true ∧ (∀ j, j ≠ k → s'.stk j = s.stk j) ∧
      ((∀ j < 4, j ≠ k → (s.stk j).hubOnly = true) → s.aon.pstate = 4 → s'.aon.pstate = 3) ∧
      { s' with time := s.time, stks := s.stks, aon := s.aon } = s := by
  have hentry : (s.at t).hubOnlyEntry k =
      let x := (s.at t).modStk k fun x => { x with hubOnly := true, pllStopped := true }
      if x.stks.all (·.hubOnly) then x.modAon fun a => { a with pstate := if a.pstate = 4 then 3 else a.pstate } else x := by
    refine if_pos ?_
    rw [show (s.at t).stackNeed = false from hneed, show ((s.at t).stk k).hubOnly = false from hub]
    rfl
  have hstk := State.stk_modStk (s := s.at t) (hlen.symm ▸ hk : k < s.stks.length)
    fun x => { x with hubOnly := true, pllStopped := true }
  have hothers (j : Nat) (hj : j ≠ k) := State.stk_modStk_ne hj (fun x => { x with hubOnly := true, pllStopped := true }) (s.at t)
  have hall : (∀ j < 4, j ≠ k → (s.stk j).hubOnly = true) →
      ((s.at t).modStk k fun x => { x with hubOnly := true, pllStopped := true }).stks.all (·.hubOnly) = true := by
    intro h
    refine List.all_eq_true.mpr fun x hx => ?_
    obtain ⟨j, hj, rfl⟩ := List.mem_iff_getElem.mp hx
    have hj4 : j < 4 := by simpa [State.modStk, State.modStks, State.at, hlen] using hj
    have hget := List.getD_eq_getElem _ ({} : Stack) hj
    rw [← hget]
    by_cases hjk : j = k
    · subst hjk; exact congrArg Stack.hubOnly hstk
    · exact (congrArg Stack.hubOnly (hothers j hjk)).trans (h j hj4 hjk)
  refine ⟨_, (exec_hubOnlyEntry ..).trans (ranAt_pos (by simpa [below] using hk) ..), ?_⟩
  rw [hentry]
  dsimp only
  split
  · exact ⟨congrArg Stack.hubOnly hstk, hothers, fun _ h4 => if_pos h4, rfl⟩
  · next h => exact ⟨congrArg Stack.hubOnly hstk, hothers, fun hj _ => absurd (hall hj) h, rfl⟩

theorem hubOnlyEntry_needed (hk : k < 4) (hneed : s.stackNeed = true) :
    ∃ s', exec (.hubOnlyEntry k t) s = .next s' ∧ { s' with time := s.time } = s := by
  have hentry : (s.at t).hubOnlyEntry k = s.at t := by
    refine if_neg ?_
    rw [show (s.at t).stackNeed = true from hneed]
    simp
  refine ⟨_, (exec_hubOnlyEntry ..).trans (ranAt_pos (by simpa [below] using hk) ..), ?_⟩
  rw [hentry]
  rfl

end

/-- Settles O53, a key and an event at a time. -/
theorem powerControl : Obligations.PowerControl := by
  unfold Obligations.PowerControl
  exact fun s v k t => ⟨pwrCtlOff_shutsDown t, pwrCtlWake_wakes t, pwrCtlRestart_restarts t, pwrCtl_ignored t, wakeNTimeout_releases t,
    smbAlertResponse_releases t, hubOnlyExit_exits t, hubOnlyEntry_enters t, hubOnlyEntry_needed t⟩

end Sys2Proof.Machine
end

section
/-!
SUPPORT. What an event of a ring touches: the host's bytes, the rings, the vectors, a session's counters.
-/
namespace Sys2Proof.Machine

/-- `s'` differs from `s` at most where an event of a ring is kept and counted. -/
def State.AtEvents (s s' : State) : Prop := ∃ pc rs ss ho l, s' = { s with
  pcie := pc, rings := rs, sessions := ss, host := ho, hub := { s.hub with selCounters := l } }

theorem State.AtEvents.refl (s : State) : s.AtEvents s := ⟨_, _, _, _, _, rfl⟩

theorem State.AtEvents.trans {a b c : State} (h : a.AtEvents b) (h' : b.AtEvents c) : a.AtEvents c := by
  obtain ⟨pc, rs, ss, ho, l, rfl⟩ := h
  obtain ⟨pc', rs', ss', ho', l', rfl⟩ := h'
  exact ⟨pc', rs', ss', ho', l', rfl⟩

theorem State.AtHost.atEvents {s s' : State} (h : s.AtHost s') : s.AtEvents s' := by
  obtain ⟨ho, l, rfl⟩ := h
  exact ⟨_, _, _, ho, l, rfl⟩

theorem State.modRing_atEvents (key : Nat) (f : Ring → Ring) (s : State) : s.AtEvents (s.modRing key f) := ⟨_, _, _, _, _, rfl⟩

theorem State.bumpSes_atEvents (j i : Nat) (s : State) : s.AtEvents (s.bumpSes j i) := ⟨_, _, _, _, _, rfl⟩

theorem State.msixRaise_atEvents (fn v : Nat) (s : State) : s.AtEvents (s.msixRaise fn v) := by
  unfold State.msixRaise
  split <;> exact ⟨_, _, _, _, _, rfl⟩

theorem State.ringPut_atEvents (r : Ring) (bs : List Byte) (s : State) : s.AtEvents (s.ringPut r bs) :=
  ((State.hostWrite_atHost ..).atEvents.trans (State.hostWrite_atHost ..).atEvents).trans (State.modRing_atEvents ..)

theorem State.eventTo_atEvents (key type se stream : Nat) (b : List Byte) (s : State) :
    s.AtEvents (s.eventTo key type se stream b) := by
  unfold State.eventTo
  split
  · exact .refl s
  · next r hr =>
    have hlost : s.AtEvents (if r.lost > 0 ∧ s.ringRoom r then
        (s.ringPut r (eventEntry 5 (if key = 32 then 0xFF else key / 2) 0xFF s.frameNo s.time.now r.eventSeq (le 4 r.lost))).modRing
          key fun r => { r with eventSeq := (r.eventSeq + 1) % 2 ^ 32, lost := 0 } else s) := by
      split
      · exact (State.ringPut_atEvents ..).trans (State.modRing_atEvents ..)
      · exact .refl s
    dsimp only
    generalize (if r.lost > 0 ∧ s.ringRoom r then _ else s) = x at hlost ⊢
    split
    · split
      · exact ((hlost.trans (State.ringPut_atEvents ..)).trans (State.modRing_atEvents ..)).trans (State.msixRaise_atEvents ..)
      · exact (hlost.trans (State.ringPut_atEvents ..)).trans (State.modRing_atEvents ..)
    · split
      · exact hlost.trans (State.modRing_atEvents ..)
      · exact (hlost.trans (State.modRing_atEvents ..)).trans (State.bumpSes_atEvents ..)

theorem State.deviceEvent_atEvents (type stream : Nat) (b : List Byte) (s : State) : s.AtEvents (s.deviceEvent type stream b) := by
  unfold State.deviceEvent
  refine State.foldl_inv s.AtEvents _ (fun x i hx => ?_) _ _ (State.eventTo_atEvents ..)
  split
  · exact hx.trans (State.eventTo_atEvents ..)
  · exact hx

theorem State.warn_atEvents (code stack cluster : Nat) (arg : List Byte) (s : State) : s.AtEvents (s.warn code stack cluster arg) :=
  State.deviceEvent_atEvents ..

/-- A warning that is due, or not. -/
theorem State.ite_warn_atEvents (c : Prop) [Decidable c] (code k p : Nat) (arg : List Byte) (s : State) :
    s.AtEvents (if c then s.warn code k p arg else s) := by
  split
  · exact State.warn_atEvents ..
  · exact .refl s

theorem State.sessionEvent_atEvents (se type stream : Nat) (b : List Byte) (s : State) :
    s.AtEvents (s.sessionEvent se type stream b) := State.eventTo_atEvents ..

theorem State.sesTo_atEvents (i st cause : Nat) (s : State) : s.AtEvents (s.sesTo i st cause) :=
  State.AtEvents.trans ⟨_, _, _, _, _, rfl⟩ (State.sessionEvent_atEvents ..)

end Sys2Proof.Machine
end

section
/-!
SUPPORT. Tamper, clock monitor, test port and boot (R437 to R440, R448, R449, R475, R480), and the obligation on them.
-/
namespace Sys2Proof.Machine

/-- What the log entries of `l` leave: their count, the alert. -/
theorem State.foldl_logTamper (l : List Nat) (s : State) : ∃ log next, l.foldl (fun (s : State) k => s.logTamper k) s = { s with
    mgmt := { s.mgmt with tamperLog := log, tamperNext := next,
                          tamperCount := (l.foldl (fun n _ => satU 16 (n + 1)) s.mgmt.tamperCount),
                          smbAlert := !l.isEmpty || s.mgmt.smbAlert } } := by
  induction l generalizing s with
  | nil => exact ⟨_, _, rfl⟩
  | cons k l ih =>
    obtain ⟨log, next, h⟩ := ih (s.logTamper k)
    exact ⟨log, next, h.trans (by cases l <;> rfl)⟩

theorem foldl_satU {n : Nat} (l : List Nat) (h : n + l.length < 2 ^ 16) :
    l.foldl (fun n _ => satU 16 (n + 1)) n = n + l.length := by
  induction l generalizing n with
  | nil => rfl
  | cons k l ih =>
    rw [List.length_cons] at h ⊢
    have hsat : satU 16 (n + 1) = n + 1 := Nat.min_eq_left (by omega)
    rw [List.foldl_cons, hsat, ih (by omega)]
    omega

/-- The levels that the sources of one cycle leave. -/
def State.levels (sources : List Nat) (s : State) : State := s.modMgmt fun m => { m with
  lid := m.lid || sources.contains 0, tamperPin := m.tamperPin || sources.contains 1 }

/-- The sources of one cycle in source-code order. -/
def tamperHits (sources : List Nat) : List Nat := (List.range 5).filter fun k => sources.contains k

theorem tamperHits_ne {sources : List Nat} (hne : sources ≠ []) (h : ∀ k ∈ sources, k < 5) : tamperHits sources ≠ [] := by
  obtain ⟨k, hk⟩ := List.exists_mem_of_ne_nil _ hne
  exact List.ne_nil_of_mem (List.mem_filter.mpr ⟨List.mem_range.mpr (h k hk), List.contains_iff_mem.mpr hk⟩)

theorem State.tamper_armed {sources : List Nat} {s : State} (harm : s.armed = true) (hne : tamperHits sources ≠ []) :
    s.tamper sources = (tamperHits sources).foldl (fun s k => s.logTamper k)
      (if s.aon.railsUp then (s.levels sources).wipeSecure else s.levels sources) := by
  refine if_pos ?_
  rw [Bool.and_eq_true]
  exact ⟨harm, by simpa [tamperHits] using hne⟩

theorem State.tamper_powered {sources : List Nat} {s : State} (harm : s.armed = true) (hne : tamperHits sources ≠ [])
    (hrails : s.aon.railsUp = true) :
    s.tamper sources = (tamperHits sources).foldl (fun s k => s.logTamper k) (s.levels sources).wipeSecure := by
  rw [State.tamper_armed harm hne, if_pos hrails]

theorem State.tamper_unarmed {sources : List Nat} {s : State} (harm : s.armed = false) : s.tamper sources = s.levels sources := by
  refine if_neg ?_
  rw [Bool.and_eq_true]
  exact fun h => Bool.eq_false_iff.mp harm h.1

section
variable {s : State} (t : Nat)

theorem tamperEvent_wipes {sources : List Nat} {rtc : Nat} (harm : s.armed = true) (hrails : s.aon.railsUp = true)
    (hne : sources ≠ []) (hlt : ∀ k ∈ sources, k < 5) (hcount : s.mgmt.tamperCount < 65530) :
    ∃ s', exec (.tamperEvent sources rtc t) s = .next s' ∧ s'.hub.secretsKeys = false ∧ s'.hub.secretsGolden = false ∧
      s'.hub.secureWiped = true ∧ s'.hub.wipeDone = some (max s.time.now t + 40 * ticksPerUs) ∧ s'.mgmt.smbAlert = true ∧
      s'.mgmt.tamperCount = s.mgmt.tamperCount + ((List.range 5).filter fun k => sources.contains k).length ∧
      s'.mgmt.lid = (s.mgmt.lid || sources.contains 0) ∧ s'.mgmt.tamperPin = (s.mgmt.tamperPin || sources.contains 1) ∧
      { s' with time := s.time, mgmt := s.mgmt, hub := s.hub, sram := s.sram } = s := by
  refine ⟨_, (exec_tamperEvent ..).trans (ranAt_pos (by simpa [below] using hlt) ..), ?_⟩
  rw [State.tamper_powered (s := (s.at t).atRtc rtc) harm (tamperHits_ne hne hlt) hrails]
  obtain ⟨log, next, h⟩ := State.foldl_logTamper (tamperHits sources) (((s.at t).atRtc rtc).levels sources).wipeSecure
  have hlen : (tamperHits sources).length ≤ 5 := (List.length_filter_le ..).trans (by simp)
  rw [h]
  refine ⟨rfl, rfl, rfl, rfl, ?_, foldl_satU _ ?_, rfl, rfl, rfl⟩
  · simp [tamperHits_ne hne hlt]
  · exact (Nat.add_le_add_left hlen _).trans_lt (show s.mgmt.tamperCount + 5 < 2 ^ 16 by omega)

theorem tamperEvent_unarmed {sources : List Nat} {rtc : Nat} (harm : s.armed = false) (hlt : ∀ k ∈ sources, k < 5) :
    ∃ s', exec (.tamperEvent sources rtc t) s = .next s' ∧ s'.mgmt.tamperLog = s.mgmt.tamperLog ∧
      s'.mgmt.tamperCount = s.mgmt.tamperCount ∧ s'.mgmt.lid = (s.mgmt.lid || sources.contains 0) ∧
      { s' with time := s.time, mgmt := s.mgmt } = s := by
  refine ⟨_, (exec_tamperEvent ..).trans (ranAt_pos (by simpa [below] using hlt) ..), ?_⟩
  rw [State.tamper_unarmed (s := (s.at t).atRtc rtc) harm]
  exact ⟨rfl, rfl, rfl, rfl⟩

/-- The sources of one cycle leave the block of the hub, the secure bytes and the management block. -/
theorem State.tamper_leaves (sources : List Nat) (s : State) : ∃ m h sr, s.tamper sources = { s with mgmt := m, hub := h, sram := sr } ∧
    m.clkMon = s.mgmt.clkMon := by
  by_cases harm : s.armed = true
  · by_cases hne : tamperHits sources = []
    · have hsame : s.tamper sources = s.levels sources := if_neg (by simpa [tamperHits] using fun _ => hne)
      exact ⟨_, _, _, hsame, rfl⟩
    · rw [State.tamper_armed harm hne]
      obtain ⟨log, next, h⟩ := State.foldl_logTamper (tamperHits sources)
        (if s.aon.railsUp then (s.levels sources).wipeSecure else s.levels sources)
      rw [h]
      split
      · exact ⟨_, _, _, rfl, rfl⟩
      · exact ⟨_, _, _, rfl, rfl⟩
  · rw [State.tamper_unarmed (Bool.eq_false_iff.mpr harm)]
    exact ⟨_, _, _, rfl, rfl⟩

/-- The comparison noted, the PLLs of a lost reference stopped. -/
def State.monitored (ok lost : Bool) (s : State) : State :=
  let s := s.modMgmt fun m => { m with clkMon := !ok }
  if lost then s.modStks fun l => l.map fun (k : Stack) => { k with pllStopped := true } else s

theorem State.monitored_leaves (ok lost : Bool) (s : State) : ∃ ks, s.monitored ok lost = { s with
      mgmt := { s.mgmt with clkMon := !ok }, stks := ks } ∧
    ∀ k < 4, s.stks.length = 4 → (ks.getD k {}).pllStopped = ((s.stk k).pllStopped || lost) := by
  cases lost
  · exact ⟨_, rfl, fun k _ _ => (Bool.or_false _).symm⟩
  · refine ⟨_, rfl, fun k hk hlen => ?_⟩
    simp [List.getD, hlen, hk]

theorem clockMonitor_monitors {ok lost : Bool} : ∃ s', exec (.clockMonitor ok lost t) s = .next s' ∧ s'.mgmt.clkMon = !ok ∧
    (∀ k < 4, s.stks.length = 4 → (s'.stk k).pllStopped = ((s.stk k).pllStopped || lost)) ∧
    (ok = false → s.mgmt.clkMon = false → s.armed = true → s.aon.railsUp = true →
      s'.hub.secureWiped = true ∧ s'.mgmt.smbAlert = true) ∧
    { s' with time := s.time, mgmt := s.mgmt, stks := s.stks, hub := s.hub, sram := s.sram } = s := by
  refine ⟨_, (exec_clockMonitor ..).trans (ranAt_pos rfl ..), ?_⟩
  obtain ⟨ks, hmon, hpll⟩ := (s.at t).monitored_leaves ok lost
  have heq : (s.at t).clockMonitor ok lost = if ((!ok && !s.mgmt.clkMon) && ((s.at t).monitored ok lost).aon.railsUp) = true
      then ((s.at t).monitored ok lost).tamper [4] else (s.at t).monitored ok lost := rfl
  rw [heq, hmon]
  split
  · obtain ⟨m, h, sr, htamper, hclk⟩ := State.tamper_leaves [4] { s.at t with mgmt := { (s.at t).mgmt with clkMon := !ok }, stks := ks }
    refine ⟨by rw [htamper]; exact hclk, fun k hk hlen => by rw [htamper]; exact hpll k hk hlen, fun hok hmon harm hrails => ?_,
      by rw [htamper]; rfl⟩
    rw [State.tamper_powered (s := { s.at t with mgmt := { (s.at t).mgmt with clkMon := !ok }, stks := ks }) harm (by decide)
      hrails, show tamperHits [4] = [4] from by decide]
    exact ⟨rfl, rfl⟩
  · next hno =>
    refine ⟨rfl, hpll, fun hok hmon harm hrails => absurd ?_ hno, rfl⟩
    rw [hok, hmon]
    exact hrails

theorem jtagInstruction_loads {code : Nat} (hcode : code < 256) (hrails : s.aon.railsUp = true) :
    ∃ s', exec (.jtagInstruction code t) s = .next s' ∧ s'.mgmt.jtagInstr = code ∧ s'.mgmt.jtagReset = false ∧
      (s.lifecycle = 5 → s'.mgmt.jtagEffective = 0xFF) ∧ (s.lifecycle = 0 ∨ s.lifecycle = 3 → s'.mgmt.jtagEffective = code) ∧
      (s.lifecycle = 2 → code = 0 → s.mgmt.perstAsserted = false → s'.mgmt.jtagEffective = 0xFF) ∧
      (s.lifecycle = 2 → code ∉ [0, 1, 2, 0xFF] → s'.mgmt.jtagEffective = 0xFF) ∧
      s'.mgmt.jtagData = (if s'.mgmt.jtagEffective = 2 then jtagIdcode else 0) ∧
      { s' with time := s.time, mgmt := s.mgmt } = s := by
  have hload : (s.at t).jtag code = (s.at t).modMgmt fun m => { m with
      jtagInstr := code, jtagReset := false, jtagEffective := s.jtagActs code,
      jtagData := if s.jtagActs code = 2 then jtagIdcode else 0 } := if_pos hrails
  refine ⟨_, (exec_jtagInstruction ..).trans (ranAt_pos (by simpa [below] using hcode) ..), ?_⟩
  rw [hload]
  refine ⟨rfl, rfl, fun h5 => ?_, fun hopen => ?_, fun h2 h0 hperst => ?_, fun h2 hno => ?_, rfl, rfl⟩
  · exact if_neg (by simp [h5])
  · exact if_pos (by rcases hopen with h | h <;> simp [h])
  · exact if_neg (by simp [h2, h0, hperst])
  · exact if_neg (by simpa [h2, jtagMandatory] using fun h => absurd h (by simpa using hno))

end

/-! ## Boot -/

/-- What the filling of the secure region leaves (R448, R449). -/
theorem State.fillSecure_leaves (sfw : List Byte) (s : State) : ∃ h sr ck g, s.fillSecure sfw = { s with
      hub := h, sram := sr, boot := { s.boot with contentKeys := ck, golden := g } } ∧
    (s.held = false → h.secretsGolden = true ∧ h.secureWiped = false ∧ h.secretsKeys = decide (s.part.lifecycle ≠ 4)) := by
  unfold State.fillSecure
  split
  · next hheld => exact ⟨_, _, _, _, rfl, fun h => absurd hheld (by simp [h])⟩
  · refine ⟨_, _, _, _, rfl, fun _ => ⟨rfl, rfl, ?_⟩⟩
    show (s.part.lifecycle != 4) = _
    by_cases h : s.part.lifecycle = 4 <;> simp [h]

/-- The boot of bank `i`, a cold one with what a power-up does, up to its warnings. -/
def State.bootFrom (cold : Bool) (i : Nat) (s : State) : State :=
  let ran := s.runSet i (s.flash.banks.getD i []) (s.bankManifests i)
  let p := if cold then ran.powerUp else (ran, false)
  let x := p.1.loadVoff.modSafety fun x => { x with quarantineNext := x.quarantineNext || p.2 }
  x.modBoot fun b => { b with mode := x.bootMode (s.bankManifests i) }

/-- What the boot of bank `i` leaves: its set runs, the bank is verified, the secure region filled. -/
structure State.Booted (i : Nat) (s x : State) : Prop where
  up : x.boot.cfwUp = true ∧ x.boot.activeBank = i
  versions : x.boot.cfwVersion = fwVersion ((s.bankManifests i).getD 1 []) ∧
    x.boot.sfwVersion = fwVersion ((s.bankManifests i).getD 2 []) ∧ x.boot.ucodeVersion = fwVersion ((s.bankManifests i).getD 3 [])
  mode : x.boot.mode ≤ 2 ∧ (s.safety.quarantineNext = true → x.boot.mode = 1)
  verified : x.flash.verified = s.flash.verified.set i true
  mgmt : x.mgmt = s.mgmt
  aon : x.aon = s.aon
  filled : s.held = false → x.hub.secretsGolden = true ∧ x.hub.secureWiped = false ∧
    x.hub.secretsKeys = decide (s.part.lifecycle ≠ 4)
  safety : x.safety.cfwBeat = s.safety.ssvNow ∧ x.safety.latch = s.safety.latch

theorem State.bootMode_le (s : State) (ms : List (List Byte)) : s.bootMode ms ≤ 2 := by
  unfold State.bootMode
  split
  · decide
  · split <;> decide

/-- What the running set leaves (R437, R443). -/
theorem State.runSet_leaves (i : Nat) (bank : List Byte) (ms : List (List Byte)) (s : State) : ∃ h sr b, s.runSet i bank ms = { s with
      hub := h, sram := sr, flash := { s.flash with verified := s.flash.verified.set i true },
      safety := { s.safety with cfwBeat := s.safety.ssvNow }, boot := b } ∧
    (b.cfwUp = true ∧ b.activeBank = i) ∧ (b.cfwVersion = fwVersion (ms.getD 1 []) ∧
      b.sfwVersion = fwVersion (ms.getD 2 []) ∧ b.ucodeVersion = fwVersion (ms.getD 3 [])) ∧
    (s.held = false → h.secretsGolden = true ∧ h.secureWiped = false ∧ h.secretsKeys = decide (s.part.lifecycle ≠ 4)) := by
  unfold State.runSet
  dsimp only
  obtain ⟨h, sr, ck, g, heq, hfill⟩ := State.fillSecure_leaves (fwImage bank (ms.getD 2 [])) _
  rw [heq]
  exact ⟨h, sr, _, rfl, ⟨rfl, rfl⟩, ⟨rfl, rfl, rfl⟩, hfill⟩

theorem State.bootFrom_booted (cold : Bool) (i : Nat) (s : State) : s.Booted i (s.bootFrom cold i) := by
  obtain ⟨h, sr, b, hrun, hup, hversions, hfill⟩ := s.runSet_leaves i (s.flash.banks.getD i []) (s.bankManifests i)
  have hquarantine (q : Bool) (h : s.safety.quarantineNext = true) : (s.safety.quarantineNext || q) = true := by rw [h]; rfl
  unfold State.bootFrom
  rw [hrun]
  cases cold
  · exact ⟨hup, hversions, ⟨State.bootMode_le .., fun h => State.bootMode_quarantine (hquarantine false h) _⟩, rfl, rfl, rfl, hfill,
      ⟨rfl, rfl⟩⟩
  · exact ⟨hup, hversions, ⟨State.bootMode_le .., fun h => State.bootMode_quarantine (hquarantine _ h) _⟩, rfl, rfl, rfl, hfill,
      ⟨rfl, rfl⟩⟩

/-- The power state behind a boot. -/
def State.bootedState (s : State) : State := s.modAon fun a => { a with pstate := if a.pstate = 2 then 3 else a.pstate }

/-- A boot that finds bank `i` runs it, warns where the page or the calibration failed, and leaves power state 2. -/
theorem State.bootUp_runs {s : State} {sel : Bool} {i : Nat}
    (hdue : (s.aon.pstate = 2 ∧ s.aon.railsUp = true) ∨ s.safety.resetUnderWay = true)
    (hcfw : s.boot.cfwUp = false) (hmode : s.boot.mode ≠ 3) (hlife : s.part.lifecycle ≠ 5)
    (hi : (s.bootSampled sel).usableBank = some i) :
    ∃ cold x, ((s.bootSampled sel).bootFrom cold i).AtEvents x ∧ s.bootUp sel = x.bootedState := by
  have hgo : ((s.aon.pstate == 2 && s.aon.railsUp || s.safety.resetUnderWay) && !s.boot.cfwUp && s.boot.mode != 3 &&
      s.part.lifecycle != 5) = true := by
    simpa [hcfw, hmode, hlife] using hdue
  unfold State.usableBank State.bootSampled at hi
  unfold State.bootUp State.when_
  rw [if_pos hgo]
  dsimp only
  rw [hi]
  refine ⟨s.aon.pstate == 2 && s.aon.railsUp, _, ?_, rfl⟩
  exact (State.ite_warn_atEvents ..).trans (State.ite_warn_atEvents ..)

/-- Events and the power state behind them leave what a boot left. -/
theorem State.Booted.behind {s b x : State} {i : Nat} (h : s.Booted i b) (hx : b.AtEvents x) :
    s.Booted i { x.bootedState with aon := s.aon } ∧
    x.bootedState.aon = { s.aon with pstate := if s.aon.pstate = 2 then 3 else s.aon.pstate } := by
  obtain ⟨pc, rs, ss, ho, l, rfl⟩ := hx
  obtain ⟨hup, hversions, hmode, hverified, hmgmt, haon, hfilled, hsafety⟩ := h
  exact ⟨⟨hup, hversions, hmode, hverified, hmgmt, rfl, hfilled, hsafety⟩, by rw [← haon]; rfl⟩

section
variable {s : State} {sel : Bool} {a : Nat} (t : Nat)

/-- BOOT_BANK, turned by BOOT_SEL. -/
theorem State.bootSampled_first (ha : (s.flash.bootBank.read.getD 0) ^^^ (if s.mgmt.bootSel.getD sel then 1 else 0) = a) :
    ((s.bootSampled sel).flash.bootBank.read.getD 0) ^^^ flag ((s.bootSampled sel).mgmt.bootSel.getD false) 0 = a := ha

theorem State.usableBank_of {s : State} {i : Nat}
    (ha : (s.flash.bootBank.read.getD 0) ^^^ flag (s.mgmt.bootSel.getD false) 0 = a)
    (hi : (i = a ∧ s.part.bankBad (s.flash.banks.getD a []) = none) ∨ (i = 1 - a ∧
      s.part.bankBad (s.flash.banks.getD a []) ≠ none ∧ s.part.bankBad (s.flash.banks.getD (1 - a) []) = none)) :
    s.usableBank = some i := by
  unfold State.usableBank
  rw [ha]
  rcases hi with ⟨rfl, hgood⟩ | ⟨rfl, hbad, hgood⟩
  · simp only [List.find?_cons, hgood, Option.isNone_none]
  · have hbad' : (s.part.bankBad (s.flash.banks.getD a [])).isNone = false :=
      Option.isNone_eq_false_iff.mpr (Option.isSome_iff_ne_none.mpr hbad)
    simp only [List.find?_cons, hbad', hgood, Option.isNone_none]

theorem boot_runs (hdue : (s.aon.pstate = 2 ∧ s.aon.railsUp = true) ∨ s.safety.resetUnderWay = true)
    (hcfw : s.boot.cfwUp = false) (hmode : s.boot.mode ≠ 3) (hlife : s.part.lifecycle ≠ 5)
    (ha : (s.flash.bootBank.read.getD 0) ^^^ (if s.mgmt.bootSel.getD sel then 1 else 0) = a) (hlt : a < 2)
    (hlen : s.flash.verified.length = 2) (i : Nat)
    (hi : (i = a ∧ s.part.bankBad (s.flash.banks.getD a []) = none) ∨
      (i = 1 - a ∧ s.part.bankBad (s.flash.banks.getD a []) ≠ none ∧ s.part.bankBad (s.flash.banks.getD (1 - a) []) = none)) :
    ∃ s', exec (.boot ⟨sel, t⟩) s = .next s' ∧ s'.boot.cfwUp = true ∧ s'.boot.activeBank = i ∧ s'.flash.verified.getD i false = true ∧
      (∀ ms, manifests (s.flash.banks.getD i []) = some ms →
        s'.boot.cfwVersion = fwVersion (ms.getD 1 []) ∧ s'.boot.sfwVersion = fwVersion (ms.getD 2 []) ∧
        s'.boot.ucodeVersion = fwVersion (ms.getD 3 [])) ∧
      s'.mgmt.bootSel = some (s.mgmt.bootSel.getD sel) ∧ s'.boot.mode ≤ 2 ∧ (s.safety.quarantineNext = true → s'.boot.mode = 1) ∧
      (s.aon.pstate = 2 → s'.aon.pstate = 3) ∧ (s.aon.pstate ≠ 2 → s'.aon.pstate = s.aon.pstate) ∧
      (s.mgmt.lid = false → s.mgmt.tamperPin = false →
        s'.hub.secretsGolden = true ∧ s'.hub.secureWiped = false ∧ s'.hub.secretsKeys = decide (s.part.lifecycle ≠ 4)) ∧
      s'.safety.cfwBeat = s.safety.ssvNow ∧ s'.safety.latch = s.safety.latch := by
  obtain ⟨cold, x, hevents, hboot⟩ := State.bootUp_runs (s := s.at t) hdue hcfw hmode hlife
    (State.usableBank_of (s := (s.at t).bootSampled sel) (State.bootSampled_first (s := s.at t) ha) hi)
  obtain ⟨⟨⟨hup, hbank⟩, hversions, ⟨hle, hquarantine⟩, hverified, hmgmt, -, hfilled, hsafety⟩, haon⟩ :=
    (State.bootFrom_booted cold i ((s.at t).bootSampled sel)).behind hevents
  have hi2 : i < 2 := by omega
  refine ⟨_, (exec_boot ..).trans (ranAt_pos rfl ..), ?_⟩
  dsimp only
  rw [hboot]
  refine ⟨hup, hbank, ?_, fun ms hms => ?_, congrArg Management.bootSel hmgmt, hle, hquarantine,
    fun h2 => (congrArg Aon.pstate haon).trans (if_pos h2), fun h2 => (congrArg Aon.pstate haon).trans (if_neg h2),
    fun hlid hpin => hfilled ?_, hsafety⟩
  · refine (congrArg (List.getD · i false) hverified).trans ?_
    change (s.flash.verified.set i true).getD i false = true
    simp [List.getD, hlen, hi2]
  · have hof : ((s.at t).bootSampled sel).bankManifests i = ms := congrArg (Option.getD · []) hms
    rw [hof] at hversions
    exact hversions
  · change (s.mgmt.lid || s.mgmt.tamperPin) = false
    rw [hlid, hpin]
    rfl

theorem boot_fails (hdue : (s.aon.pstate = 2 ∧ s.aon.railsUp = true) ∨ s.safety.resetUnderWay = true)
    (hcfw : s.boot.cfwUp = false) (hmode : s.boot.mode ≠ 3) (hlife : s.part.lifecycle ≠ 5)
    (ha : (s.flash.bootBank.read.getD 0) ^^^ (if s.mgmt.bootSel.getD sel then 1 else 0) = a) (hlt : a < 2)
    (hbad0 : s.part.bankBad (s.flash.banks.getD 0 []) ≠ none) (hbad1 : s.part.bankBad (s.flash.banks.getD 1 []) ≠ none) :
    ∃ s', exec (.boot ⟨sel, t⟩) s = .next s' ∧ s'.boot = { s.boot with mode := 3 } ∧
      s'.mgmt = { s.mgmt with smbAlert := true, bootSel := some (s.mgmt.bootSel.getD sel) } ∧
      { s' with time := s.time, boot := s.boot, mgmt := s.mgmt } = s := by
  have hbad : ∀ i < 2, (s.part.bankBad (s.flash.banks.getD i [])).isNone = false := fun i hi => by
    match i with
    | 0 => exact Option.isNone_eq_false_iff.mpr (Option.isSome_iff_ne_none.mpr hbad0)
    | 1 => exact Option.isNone_eq_false_iff.mpr (Option.isSome_iff_ne_none.mpr hbad1)
  have hnone : ((s.at t).bootSampled sel).usableBank = none := by
    unfold State.usableBank
    rw [State.bootSampled_first (s := s.at t) ha]
    change [a, 1 - a].find? (fun i => (s.part.bankBad (s.flash.banks.getD i [])).isNone) = none
    simp only [List.find?_cons, List.find?_nil, hbad a hlt, hbad (1 - a) (by omega)]
  have hboot : (s.at t).bootUp sel = (((s.at t).bootSampled sel).modBoot fun b => { b with mode := 3 }).modMgmt fun m =>
      { m with smbAlert := true } := by
    unfold State.usableBank State.bootSampled at hnone
    have hgo : (((s.at t).aon.pstate == 2 && (s.at t).aon.railsUp || (s.at t).safety.resetUnderWay) && !(s.at t).boot.cfwUp &&
        (s.at t).boot.mode != 3 && (s.at t).part.lifecycle != 5) = true := by
      simpa [State.at, hcfw, hmode, hlife] using hdue
    unfold State.bootUp State.when_
    rw [if_pos hgo]
    dsimp only
    rw [hnone]
    rfl
  refine ⟨_, (exec_boot ..).trans (ranAt_pos rfl ..), ?_⟩
  dsimp only
  rw [hboot]
  exact ⟨rfl, rfl, rfl⟩

end

/-- Settles O55, an event at a time. -/
theorem tamperTestAndBoot : Obligations.TamperTestAndBoot := by
  unfold Obligations.TamperTestAndBoot
  exact ⟨fun s sources rtc code ok lost t => ⟨tamperEvent_wipes t, tamperEvent_unarmed t, clockMonitor_monitors t,
    jtagInstruction_loads t⟩, fun s sel t a hdue hcfw hmode hlife ha hlt hlen => ⟨boot_runs t hdue hcfw hmode hlife ha hlt hlen,
    boot_fails t hdue hcfw hmode hlife ha hlt⟩⟩

end Sys2Proof.Machine
end

section
/-!
SUPPORT. What the SSV watches and the reactions to a fault (R398 to R403, R408, R412, R413), and the obligation on them.
-/
namespace Sys2Proof.Machine

/-! ## A detection -/

/-- Of the supervisor a detection changes the latch and, on a Restart code, what is to follow. -/
theorem State.detect_safety (code stack cluster stream : Nat) (arg : List Byte) (s : State) : ∃ rp qn,
    (s.detect code stack cluster stream arg).safety =
      { s.safety.latchCode (s.faultEntry code cluster arg) with restartPending := rp, quarantineNext := qn } ∧
    (isRestart code = false → rp = s.safety.restartPending) ∧
    (isRestart code = true → s.safety.resetUnderWay = false → s.safety.restartPending = none → rp = some code) := by
  have hsafety : (((List.range 16).foldl (State.faultLeave code) (s.faultReport code stack cluster stream arg)).triggerDump
      code).safety = s.safety.latchCode (s.faultEntry code cluster arg) := by
    rw [State.triggerDump_safety, State.foldl_safety _ (State.faultLeave_safety code), State.faultReport_safety]
  rw [State.detect, State.faultReact_eq]
  split
  · next hr =>
    rw [State.modSafety_safety, hsafety]
    refine ⟨_, _, rfl, fun hno => absurd hr (by simp [hno]), fun _ hreset hnone => if_neg ?_⟩
    change ¬(s.safety.resetUnderWay || s.safety.restartPending.isSome) = true
    rw [hreset, hnone]
    simp
  · next hr =>
    rw [hsafety]
    exact ⟨s.safety.restartPending, s.safety.quarantineNext, rfl, fun _ => rfl, fun h => absurd h hr⟩

theorem State.faultLeave_frame (code : Nat) (s : State) (i : Nat) : (s.faultLeave code i).frame = s.frame := by
  unfold State.faultLeave
  split
  · exact State.sesTo_frame ..
  · rfl

/-- The frame of a running grid carries the mark of the detection (R399). -/
theorem State.detect_frame (code stack cluster stream : Nat) (arg : List Byte) (s : State) :
    (s.detect code stack cluster stream arg).frame.faultReaction = (s.gridRuns || s.frame.faultReaction) := by
  have hreport : (s.faultReport code stack cluster stream arg).frame.faultReaction = (s.gridRuns || s.frame.faultReaction) := by
    simp only [State.faultReport, State.traceError_frame, State.logError_frame, State.deviceEvent_frame, State.ite_frame,
      State.modFrame_frame, State.modSafety_frame]
    cases hg : s.gridRuns
    · exact (congrArg Frame.faultReaction (if_neg (Bool.eq_false_iff.mp hg))).trans rfl
    · exact congrArg Frame.faultReaction (if_pos hg)
  rw [State.detect, State.faultReact_eq, State.ite_frame, State.modSafety_frame, State.triggerDump_frame, ite_self,
    State.foldl_keeps (·.frame) _ (State.faultLeave_frame code), hreport]

/-- A detection leaves every session that its code does not move in its state. -/
theorem State.detect_state_keeps {s : State} {code j : Nat} (h : (s.ses j).leavesOn code = false) (stack cluster stream : Nat)
    (arg : List Byte) : ((s.detect code stack cluster stream arg).ses j).state = (s.ses j).state := by
  have hstep (x : State) (i : Nat) (hx : (x.ses j).core = (s.ses j).core) : ((x.faultLeave code i).ses j).core = (s.ses j).core := by
    by_cases hji : j = i
    · subst hji
      rw [State.faultLeave, if_neg (by rw [Session.leavesOn_congr hx, h]; decide)]
      exact hx
    · exact (State.faultLeave_core_of_ne hji code x).trans hx
  have hreport := State.core_eq (State.faultReport_cores code stack cluster stream arg s) j
  have hcores : (s.detect code stack cluster stream arg).cores =
      ((List.range 16).foldl (State.faultLeave code) (s.faultReport code stack cluster stream arg)).cores := by
    simp [State.detect, State.faultReact_eq, State.cores_ite]
  refine (Session.core_fields ((State.core_eq hcores j).trans ?_)).1
  exact State.foldl_inv (fun x => (x.ses j).core = (s.ses j).core) _ (fun x i => hstep x i) _ _ hreport

theorem State.detect_states {s : State} (hlen : s.sessions.length = 16) (code stack cluster stream : Nat) (arg : List Byte) :
    ∀ i < 16, ((s.detect code stack cluster stream arg).ses i).state =
      if (s.ses i).leavesOn code then 5 else (s.ses i).state := by
  intro i hi
  split
  · next h => exact State.detect_state hlen hi h ..
  · next h => exact State.detect_state_keeps (Bool.eq_false_iff.mpr h) ..

/-- An event that comes to one detection: its outcome. -/
theorem ranAt_detects {ok : Bool} (hok : ok = true) {s y : State} {t code stack cluster stream : Nat} {arg : List Byte}
    {f : State → State} (hf : f (s.at t) = y.detect code stack cluster stream arg) (hy : y.pending = s.pending) :
    ranAt ok t s f = .next (y.detect code stack cluster stream arg) := by
  have hpending : (s.at t).pending = (y.detect code stack cluster stream arg).pending :=
    hy.symm.trans (State.detect_pending ..).symm
  rw [ranAt_pos hok, hf, hpending]

/-! ## The watches -/

/-- The supervisor and device time are among what a detection may change. -/
theorem State.onlyFault_of {s y s' : State} {a : TimeBase} {b : Safety} (h : y.onlyFault s')
    (hy : y = { s with time := a, safety := b }) : s.onlyFault s' := by
  subst hy
  have hrest := congrArg (fun x : State => { x with time := s.time, safety := s.safety }) h
  exact hrest

section
variable {s : State} (ssv t : Nat)

theorem wdogEdge_notes (level : Bool) : ∃ s', exec (.wdogEdge level ssv t) s = .next s' ∧ s'.safety.wdogLevel = level ∧
    (level ≠ s.safety.wdogLevel → s'.safety.wdogEdge = some (max s.safety.ssvNow ssv)) ∧
    (level = s.safety.wdogLevel → s'.safety.wdogEdge = s.safety.wdogEdge) ∧
    { s' with time := s.time, safety := s.safety } = s := by
  refine ⟨_, (exec_wdogEdge ..).trans (ranAt_pos rfl ..), ?_⟩
  by_cases h : level = s.safety.wdogLevel
  · have hsame : ((s.at t).atSsv ssv).wdogEdge level = (s.at t).atSsv ssv :=
      if_neg (show ¬(level != s.safety.wdogLevel) = true by simp [h])
    rw [hsame]
    exact ⟨h.symm, fun hne => absurd h hne, fun _ => rfl, rfl⟩
  · have hedge : ((s.at t).atSsv ssv).wdogEdge level =
        ((s.at t).atSsv ssv).modSafety fun x => { x with wdogLevel := level, wdogEdge := some x.ssvNow } :=
      if_pos (show (level != s.safety.wdogLevel) = true by simp [h])
    rw [hedge]
    exact ⟨rfl, fun _ => rfl, fun he => absurd he h, rfl⟩

theorem wdogLost_latches (hroom : s.safety.latch.length < 32) (hrun : s.classSRunning = true)
    (hlost : ∀ e, s.safety.wdogEdge = some e → 250000 < max s.safety.ssvNow ssv - e) :
    ∃ s', exec (.wdogLost ssv t) s = .next s' ∧ s'.faultLatched 0x0010 (max s.time.now t) ∧ s.onlyFault s' := by
  have hout : ((s.at t).atSsv ssv).wdogPresent = false := by
    unfold State.wdogPresent
    split
    · next e he => exact decide_eq_false (Nat.not_le.mpr (hlost e he))
    · rfl
  have hfault : ((s.at t).atSsv ssv).wdogLost = ((s.at t).atSsv ssv).detect 0x0010 0xFF 0xFF 0xFF [] :=
    if_pos (by rw [hout, show ((s.at t).atSsv ssv).classSRunning = true from hrun]; rfl)
  refine ⟨_, (exec_wdogLost ..).trans (ranAt_detects rfl hfault rfl), ?_⟩
  exact ⟨State.detect_faultLatched (s := (s.at t).atSsv ssv) hroom .., State.onlyFault_of (State.detect_onlyFault ..) rfl⟩

theorem wdogLost_waits (h : s.classSRunning = false ∨ (∃ e, s.safety.wdogEdge = some e ∧ max s.safety.ssvNow ssv - e ≤ 250000)) :
    ∃ s', exec (.wdogLost ssv t) s = .next s' ∧ { s' with time := s.time, safety := s.safety } = s ∧
      s'.safety.latch = s.safety.latch := by
  have hsame : ((s.at t).atSsv ssv).wdogLost = (s.at t).atSsv ssv := by
    refine if_neg ?_
    rcases h with hrun | ⟨e, he, hle⟩
    · rw [show ((s.at t).atSsv ssv).classSRunning = false from hrun]
      simp
    · have hin : ((s.at t).atSsv ssv).wdogPresent = true := by
        unfold State.wdogPresent
        rw [show ((s.at t).atSsv ssv).safety.wdogEdge = some e from he]
        exact decide_eq_true hle
      rw [hin]
      simp
  refine ⟨_, (exec_wdogLost ..).trans (ranAt_pos rfl ..), ?_⟩
  dsimp only
  rw [hsame]
  exact ⟨rfl, rfl⟩

theorem cfwBeat_beats (hup : s.boot.cfwUp = true) : ∃ s', exec (.cfwBeat ssv t) s = .next s' ∧
    s'.safety.cfwBeat = max s.safety.ssvNow ssv ∧ { s' with time := s.time, safety := s.safety } = s := by
  have hbeat : (s.at t).beat ssv = ((s.at t).atSsv ssv).modSafety fun x => { x with cfwBeat := x.ssvNow } := if_pos hup
  refine ⟨_, (exec_cfwBeat ..).trans (ranAt_pos rfl ..), ?_⟩
  rw [hbeat]
  exact ⟨rfl, rfl⟩

theorem cfwSilent_latches (hroom : s.safety.latch.length < 32) (hup : s.boot.cfwUp = true) (hhalt : s.obs.cpHalted = false)
    (hreset : s.safety.resetUnderWay = false) (hnone : s.safety.restartPending = none)
    (hlate : 15000 ≤ max s.safety.ssvNow ssv - s.safety.cfwBeat) :
    ∃ s', exec (.cfwSilent ssv t) s = .next s' ∧ s'.faultLatched 0x000B (max s.time.now t) ∧
      s'.safety.restartPending = some 0x000B ∧ s.onlyFault s' := by
  have hdue : (((s.at t).atSsv ssv).boot.cfwUp && !((s.at t).atSsv ssv).obs.cpHalted && !((s.at t).atSsv ssv).safety.resetUnderWay &&
      decide (((s.at t).atSsv ssv).safety.ssvNow - ((s.at t).atSsv ssv).safety.cfwBeat ≥ 15000) &&
      ((s.at t).atSsv ssv).safety.restartPending != some 0x000B) = true := by
    change (s.boot.cfwUp && !s.obs.cpHalted && !s.safety.resetUnderWay &&
      decide (max s.safety.ssvNow ssv - s.safety.cfwBeat ≥ 15000) && s.safety.restartPending != some 0x000B) = true
    rw [hup, hhalt, hreset, hnone, decide_eq_true hlate]
    rfl
  have hfault : ((s.at t).atSsv ssv).cfwSilent = (((s.at t).atSsv ssv).detect 0x000B 0xFF 0xFF 0xFF []).modErrors fun e => { e with
      dump := if e.dump.writing.isSome then
          { e.dump with writing := some 0x000B,
                        codes := if ((s.at t).atSsv ssv).errors.dump.writing.isSome then e.dump.codes else [0x000B] }
        else e.dump } := if_pos hdue
  obtain ⟨rp, qn, hsafety, -, hrestart⟩ := State.detect_safety 0x000B 0xFF 0xFF 0xFF [] ((s.at t).atSsv ssv)
  have hlatched := State.detect_faultLatched (s := (s.at t).atSsv ssv) hroom 0x000B 0xFF 0xFF 0xFF []
  have honly : s.onlyFault _ := State.onlyFault_of (State.detect_onlyFault 0x000B 0xFF 0xFF 0xFF [] ((s.at t).atSsv ssv)) rfl
  have hpending := State.detect_pending 0x000B 0xFF 0xFF 0xFF [] ((s.at t).atSsv ssv)
  refine ⟨_, (exec_cfwSilent ..).trans (ranAt_pos rfl ..), ?_⟩
  dsimp only
  rw [hfault]
  generalize ((s.at t).atSsv ssv).detect 0x000B 0xFF 0xFF 0xFF [] = x at hsafety hlatched honly hpending
  have hleft := congrArg (fun x : State => { x with pending := s.pending }) honly
  exact ⟨hlatched, (congrArg Safety.restartPending hsafety).trans (hrestart (by decide) hreset hnone), hleft⟩

theorem cfwSilent_waits (h : s.boot.cfwUp = false ∨ s.obs.cpHalted = true ∨ max s.safety.ssvNow ssv - s.safety.cfwBeat < 15000) :
    ∃ s', exec (.cfwSilent ssv t) s = .next s' ∧ { s' with time := s.time, safety := s.safety } = s ∧
      s'.safety.latch = s.safety.latch := by
  have hsame : ((s.at t).atSsv ssv).cfwSilent = (s.at t).atSsv ssv := by
    refine if_neg ?_
    change ¬(s.boot.cfwUp && !s.obs.cpHalted && !s.safety.resetUnderWay &&
      decide (max s.safety.ssvNow ssv - s.safety.cfwBeat ≥ 15000) && s.safety.restartPending != some 0x000B) = true
    rcases h with h | h | h
    · simp [h]
    · simp [h]
    · simp [decide_eq_false (Nat.not_le.mpr h)]
  refine ⟨_, (exec_cfwSilent ..).trans (ranAt_pos rfl ..), ?_⟩
  dsimp only
  rw [hsame]
  exact ⟨rfl, rfl⟩

theorem cpLockstep_detects {pair : Nat} (h : pair < 2) :
    exec (.cpLockstep pair t) s = .next ((s.at t).detect 0x0009 0xFF 0xFF 0xFF (le 1 pair)) := by
  rw [exec_cpLockstep, show below pair 2 = true by simpa [below] using h]
  exact ranAt_detect ..

theorem cpLockstep_latches (hroom : s.safety.latch.length < 32) {pair : Nat} (h : pair < 2) :
    ∃ s', exec (.cpLockstep pair t) s = .next s' ∧ s'.faultLatched 0x0009 (max s.time.now t) ∧ s.onlyFault s' :=
  ⟨_, cpLockstep_detects t h, State.detect_faultLatched (s := s.at t) hroom .., State.onlyFault_of_at (State.detect_onlyFault ..)⟩

theorem ssvLockstep_latches (hroom : s.safety.latch.length < 32) : ∃ s', exec (.ssvLockstep t) s = .next s' ∧
    s'.safety.keeper = true ∧ s'.faultLatched 0x000A (max s.time.now t) ∧ s.onlyFault s' := by
  obtain ⟨rp, qn, hsafety, -⟩ := State.detect_safety 0x000A 0xFF 0xFF 0xFF [] ((s.at t).modSafety fun x => { x with keeper := true })
  have hlatched := State.detect_faultLatched (s := (s.at t).modSafety fun x => { x with keeper := true }) hroom 0x000A 0xFF 0xFF 0xFF []
  have honly := State.detect_onlyFault 0x000A 0xFF 0xFF 0xFF [] ((s.at t).modSafety fun x => { x with keeper := true })
  refine ⟨_, (exec_ssvLockstep ..).trans (ranAt_detects rfl rfl rfl), ?_, hlatched, ?_⟩
  · exact congrArg Safety.keeper hsafety
  · exact State.onlyFault_of honly rfl

theorem healthyWaveformEdge_drives (hpin : s.safety.pinState = 1) :
    ∃ s', exec (.healthyWaveformEdge (!s.safety.safeA) s.safety.safeA ssv t) s = .next s' ∧
      s'.safety.safeA = !s.safety.safeA ∧ s'.safety.safeB = !s'.safety.safeA ∧ s'.safety.latch = s.safety.latch ∧
      { s' with time := s.time, safety := s.safety } = s := by
  have hedge : ((s.at t).atSsv ssv).healthyEdge (!s.safety.safeA) s.safety.safeA =
      ((s.at t).atSsv ssv).modSafety fun x => { x with safeA := !x.safeA, safeB := x.safeA } :=
    (if_pos (beq_iff_eq.mpr hpin)).trans (if_pos ⟨rfl, rfl⟩)
  refine ⟨_, (exec_healthyWaveformEdge ..).trans (ranAt_pos rfl ..), ?_⟩
  rw [hedge]
  exact ⟨rfl, (Bool.not_not _).symm, rfl, rfl⟩

/-- The reference of the next check is taken, the corrections reported so far are spent. -/
def State.rateMark (s : State) : State :=
  (s.modSafety fun x => { x with rateRef := some (s.safety.ssvNow, s.time.now) }).modTime fun b => { b with corrections := [] }

theorem State.timeBaseCheck_due {s : State} {ssv0 now0 : Nat} (href : s.safety.rateRef = some (ssv0, now0))
    (hnone : s.time.corrections = []) (hdue : ssv0 + 500000 ≤ s.safety.ssvNow) : s.timeBaseCheck =
      if (s.safety.ssvNow - ssv0 : Int) * 4 < 50 * ((s.time.now : Int) - now0 - 4 * ((s.safety.ssvNow : Int) - ssv0)).natAbs then
        (s.rateMark.modSafety fun x => { x with timeBaseAt := some s.time.now }).detect 0x000C 0xFF 0xFF 0xFF []
      else s.rateMark := by
  have hwant : ((4 * ((s.safety.ssvNow : Int) - ssv0)).natAbs : Int) = ((s.safety.ssvNow : Int) - ssv0) * 4 := by omega
  unfold State.timeBaseCheck
  rw [href, hnone]
  dsimp only
  rw [if_neg (by omega)]
  refine if_congr ?_ rfl rfl
  rw [← hwant, List.map_nil, show sumI [] = 0 from rfl, Int.sub_zero]
  omega

theorem timeBaseCheck_checks (hroom : s.safety.latch.length < 32) {ssv0 now0 : Nat} (href : s.safety.rateRef = some (ssv0, now0))
    (hnone : s.time.corrections = []) (hdue : ssv0 + 500000 ≤ max s.safety.ssvNow ssv) :
    ∃ s', exec (.timeBaseCheck ssv t) s = .next s' ∧
      s'.safety.rateRef = some (max s.safety.ssvNow ssv, max s.time.now t) ∧
      ((max s.safety.ssvNow ssv - ssv0 : Int) * 4 <
          50 * (((max s.time.now t : Nat) : Int) - now0 - 4 * ((max s.safety.ssvNow ssv : Nat) - ssv0)).natAbs →
        s'.faultLatched 0x000C (max s.time.now t) ∧ s.onlyFault s') ∧
      (50 * (((max s.time.now t : Nat) : Int) - now0 - 4 * ((max s.safety.ssvNow ssv : Nat) - ssv0)).natAbs ≤
          (max s.safety.ssvNow ssv - ssv0 : Int) * 4 →
        { s' with time := s.time, safety := s.safety } = s ∧ s'.safety.latch = s.safety.latch) := by
  have hcheck := State.timeBaseCheck_due (s := (s.at t).atSsv ssv) href hnone hdue
  have hcast : ((max s.safety.ssvNow ssv : Nat) : Int) = max (s.safety.ssvNow : Int) ssv := Nat.cast_max ..
  change _ = if ((max s.safety.ssvNow ssv : Nat) - ssv0 : Int) * 4 <
    50 * (((max s.time.now t : Nat) : Int) - now0 - 4 * (((max s.safety.ssvNow ssv : Nat) : Int) - ssv0)).natAbs then _ else _ at hcheck
  by_cases hoff : ((max s.safety.ssvNow ssv : Nat) - ssv0 : Int) * 4 <
      50 * (((max s.time.now t : Nat) : Int) - now0 - 4 * (((max s.safety.ssvNow ssv : Nat) : Int) - ssv0)).natAbs
  · rw [if_pos hoff] at hcheck
    obtain ⟨rp, qn, hsafety, -⟩ := State.detect_safety 0x000C 0xFF 0xFF 0xFF []
      (((s.at t).atSsv ssv).rateMark.modSafety fun x => { x with timeBaseAt := some ((s.at t).atSsv ssv).time.now })
    have hlatched := State.detect_faultLatched (s := ((s.at t).atSsv ssv).rateMark.modSafety fun x =>
      { x with timeBaseAt := some ((s.at t).atSsv ssv).time.now }) hroom 0x000C 0xFF 0xFF 0xFF []
    have honly := State.detect_onlyFault 0x000C 0xFF 0xFF 0xFF []
      (((s.at t).atSsv ssv).rateMark.modSafety fun x => { x with timeBaseAt := some ((s.at t).atSsv ssv).time.now })
    refine ⟨_, (exec_timeBaseCheck ..).trans (ranAt_detects rfl hcheck rfl), congrArg Safety.rateRef hsafety, fun _ => ⟨hlatched,
      State.onlyFault_of honly rfl⟩,
      fun hle => absurd (hcast ▸ hoff) (Int.not_lt.mpr hle)⟩
  · rw [if_neg hoff] at hcheck
    refine ⟨_, (exec_timeBaseCheck ..).trans (ranAt_pos rfl ..), ?_⟩
    dsimp only
    rw [hcheck]
    exact ⟨rfl, fun hlt => absurd (hcast ▸ hlt) hoff, fun _ => ⟨rfl, rfl⟩⟩

/-! ## Reactions -/

theorem cpLockstep_restarts (hlen : s.sessions.length = 16) {pair : Nat} (h : pair < 2) :
    ∃ s', exec (.cpLockstep pair t) s = .next s' ∧
      (∀ i < 16, (s'.ses i).state = if (s.ses i).live then 5 else (s.ses i).state) ∧
      (s.safety.resetUnderWay = false → s.safety.restartPending = none → s'.safety.restartPending = some 0x0009) ∧
      s'.frame.faultReaction = (s.gridRuns || s.frame.faultReaction) := by
  obtain ⟨rp, qn, hsafety, -, hrestart⟩ := State.detect_safety 0x0009 0xFF 0xFF 0xFF (le 1 pair) (s.at t)
  have hall (x : Session) : x.leavesOn 0x0009 = x.live := by simp [Session.leavesOn, isRestart, restartCodes]
  refine ⟨_, cpLockstep_detects t h, fun i hi => ?_, fun hreset hnone => ?_, State.detect_frame ..⟩
  · rw [State.detect_states (s := s.at t) hlen _ _ _ _ _ i hi, hall]
    rfl
  · exact (congrArg Safety.restartPending hsafety).trans (hrestart (by decide) hreset hnone)

theorem rakeOverdue_reports (hlen : s.sessions.length = 16) (hroom : s.safety.latch.length < 32) {unit item : Nat}
    (hok : rakeItemOk unit item = true) (hrun : s.classSRunning = true)
    (hold : ∃ r, r ∈ s.safety.rakeItems ∧ r.unit = unit ∧ r.item = item ∧ 200000 * ticksPerUs < max s.time.now t - r.last) :
    ∃ s', exec (.rakeOverdue unit item t) s = .next s' ∧ s'.faultLatched 0x0004 (max s.time.now t) ∧
      (∀ i < 16, (s'.ses i).state = if (s.ses i).live && (s.ses i).classS then 5 else (s.ses i).state) ∧
      s'.safety.restartPending = s.safety.restartPending ∧ s.onlyFault s' := by
  have holder : ((s.at t).olderThan unit item 200000).isSome = true := by
    obtain ⟨r, hr, hunit, hitem, hlate⟩ := hold
    unfold State.olderThan
    rw [if_pos (show (s.at t).classSRunning = true from hrun), List.find?_isSome]
    exact ⟨r, hr, by simpa [hunit, hitem] using hlate⟩
  have hfault : (s.at t).rakeOverdue unit item =
      (s.at t).detect 0x0004 (rakePlace unit).1 (rakePlace unit).2 0xFF (rakeArg unit item) := if_pos holder
  obtain ⟨rp, qn, hsafety, hkeep, -⟩ := State.detect_safety 0x0004 (rakePlace unit).1 (rakePlace unit).2 0xFF (rakeArg unit item) (s.at t)
  have hlatched := State.detect_faultLatched (s := s.at t) hroom 0x0004 (rakePlace unit).1 (rakePlace unit).2 0xFF (rakeArg unit item)
  have honly := State.onlyFault_of_at (State.detect_onlyFault 0x0004 (rakePlace unit).1 (rakePlace unit).2 0xFF (rakeArg unit item) (s.at t))
  have hreport (x : Session) : x.leavesOn 0x0004 = (x.live && x.classS) := by simp [Session.leavesOn, isRestart, restartCodes]
  refine ⟨_, (exec_rakeOverdue ..).trans (ranAt_detects hok hfault rfl), ?_⟩
  refine ⟨hlatched, fun i hi => ?_, (congrArg Safety.restartPending hsafety).trans (hkeep (by decide)), honly⟩
  refine (State.detect_states (s := s.at t) hlen _ _ _ _ _ i hi).trans ?_
  rw [hreport]
  rfl

end

/-- Settles O41, a watch and a reaction at a time. -/
theorem supervisorAndReactions : Obligations.SupervisorAndReactions := by
  unfold Obligations.SupervisorAndReactions
  exact ⟨fun s ssv t hroom => ⟨wdogEdge_notes ssv t, wdogLost_latches ssv t hroom, wdogLost_waits ssv t, cfwBeat_beats ssv t,
    cfwSilent_latches ssv t hroom, cfwSilent_waits ssv t, fun _ => cpLockstep_latches t hroom, ssvLockstep_latches t hroom,
    healthyWaveformEdge_drives ssv t, fun _ _ => timeBaseCheck_checks ssv t hroom⟩,
    fun s pair unit item t hlen hroom => ⟨cpLockstep_restarts t hlen, rakeOverdue_reports t hlen hroom⟩⟩

end Sys2Proof.Machine
end

section
/-!
SUPPORT. Ages of the rake items, self-test, the restart behind a dump and the health page (R401, R408, R409, R426, R430), and the
obligation on them.
-/
namespace Sys2Proof.Machine

/-! ## Faults detected together -/

theorem Mailbox.with_cmds_with_cmds (a : Mailbox) (l l' : List Cmd) : { ({ a with cmds := l } : Mailbox) with cmds := l' } =
    { a with cmds := l' } := rfl

theorem State.onlyFault_refl (s : State) : s.onlyFault s := rfl

theorem State.onlyFault_trans {a b c : State} (h : a.onlyFault b) (h' : b.onlyFault c) : a.onlyFault c := by
  have hrest := congrArg (fun x : State => { x with
    time := a.time, safety := a.safety, errors := a.errors, obs := a.obs, frame := a.frame,
    mbx := { x.mbx with cmds := a.mbx.cmds }, rings := a.rings, sessions := a.sessions, pcie := a.pcie,
    clusters := a.clusters, stks := a.stks, hub := a.hub, host := a.host, free := a.free }) h'
  exact hrest.trans h

theorem State.faultReport_onlyFault (code stack cluster stream : Nat) (arg : List Byte) (s : State) :
    s.onlyFault (s.faultReport code stack cluster stream arg) := by
  have hmbx : (s.faultReport code stack cluster stream arg).mbx = s.mbx := by simp [State.faultReport, State.ite_mbx]
  unfold State.onlyFault
  rw [hmbx]
  apply State.ext_parts <;> simp [State.faultReport, State.ite_part, State.ite_flash, State.ite_aon, State.ite_mgmt,
    State.ite_images, State.ite_worlds, State.ite_streams, State.ite_req, State.ite_det, State.ite_boot, State.ite_fabric,
    State.ite_farming, State.ite_hbm, State.ite_sram, State.ite_saves, State.ite_pending]

theorem State.faultReport_time (code stack cluster stream : Nat) (arg : List Byte) (s : State) :
    (s.faultReport code stack cluster stream arg).time = s.time := by simp [State.faultReport, State.ite_time]

theorem State.faultLeave_onlyFault (code : Nat) (s : State) (i : Nat) : s.onlyFault (s.faultLeave code i) := by
  unfold State.faultLeave
  split
  · obtain ⟨pc, rs, ss, ho, l, h⟩ := State.sesTo_atEvents i 5 code s
    rw [h]
    rfl
  · exact s.onlyFault_refl

theorem State.triggerDump_onlyFault (code : Nat) (s : State) : s.onlyFault (s.triggerDump code) := by
  unfold State.onlyFault
  rw [State.triggerDump_mbx]
  apply State.ext_parts <;> simp

theorem State.faultReact_onlyFault (code : Nat) (s : State) : s.onlyFault (s.faultReact code) := by
  have hleave : s.onlyFault ((List.range 16).foldl (State.faultLeave code) s) :=
    State.foldl_inv s.onlyFault _ (fun x i hx => State.onlyFault_trans hx (State.faultLeave_onlyFault code x i)) _ _ s.onlyFault_refl
  have hdump := State.onlyFault_trans hleave (State.triggerDump_onlyFault code _)
  rw [State.faultReact_eq]
  generalize ((List.range 16).foldl (State.faultLeave code) s).triggerDump code = x at hdump
  split <;> exact hdump

/-- Every report, then every reaction. -/
theorem State.detectAll_onlyFault (l : List Detection) (s : State) : s.onlyFault (s.detectAll l) := by
  have hreports := State.foldl_inv s.onlyFault (fun x (e : Detection) => x.faultReport e.code e.stack e.cluster e.stream e.arg)
    (fun x e hx => State.onlyFault_trans hx (State.faultReport_onlyFault e.code e.stack e.cluster e.stream e.arg x)) l s
    s.onlyFault_refl
  exact State.foldl_inv s.onlyFault (fun x (e : Detection) => x.faultReact e.code)
    (fun x e hx => State.onlyFault_trans hx (State.faultReact_onlyFault e.code x)) l _ hreports

/-- The code stands in the latch with the time `now`. -/
def Safety.Holds (x : Safety) (code now : Nat) : Prop := ∃ e ∈ x.latch, e.code = code ∧ e.time = now

/-- The latch has room for the two codes of a failed test, but for those of them that stand in it. -/
def Safety.RoomForTests (x : Safety) : Prop :=
  x.latch.length ≤ 30 + flag (x.latch.any (·.code == 0x0001)) 0 + flag (x.latch.any (·.code == 0x0003)) 0

theorem Safety.any_again (l : List Latched) (e : Latched) (c : Nat) :
    ((l.map fun x => if x.code = e.code then x.again e else x).any (·.code == c)) = l.any (·.code == c) := by
  rw [List.any_map]
  refine congrArg l.any (funext fun x => ?_)
  by_cases h : x.code = e.code <;> simp [h, Latched.again]

theorem any_latchInsert (e : Latched) (l : List Latched) (c : Nat) :
    (latchInsert e l).any (·.code == c) = (e.code == c || l.any (·.code == c)) := by
  generalize hk : l.length - (l.reverse.takeWhile fun x => x.first == e.first && decide (e.code < x.code)).length = k
  have hsplit : l.any (·.code == c) = ((l.take k).any (·.code == c) || (l.drop k).any (·.code == c)) := by
    rw [← List.any_append, List.take_append_drop]
  unfold latchInsert
  rw [hk, hsplit]
  simp only [List.any_append, List.any_cons, List.any_nil, Bool.or_false]
  cases (List.take k l).any (·.code == c) <;> simp

theorem length_latchInsert (e : Latched) (l : List Latched) : (latchInsert e l).length = l.length + 1 := by
  unfold latchInsert
  simp only [List.length_append, List.length_take, List.length_drop, List.length_cons, List.length_nil]
  omega

/-- The latch after a detection: a known code's entry again, a new one inserted while there is room. -/
theorem Safety.latchCode_latch (x : Safety) (e : Latched) : (x.latchCode e).latch =
    if x.latch.any (·.code == e.code) then x.latch.map fun l => if l.code = e.code then l.again e else l
    else if x.latch.length < 32 then latchInsert e x.latch else x.latch := rfl

theorem Safety.Holds.latchCode {x : Safety} {code now : Nat} (h : x.Holds code now) {e : Latched} (htime : e.time = now) :
    (x.latchCode e).Holds code now := by
  obtain ⟨l, hl, hcode, hnow⟩ := h
  unfold Safety.Holds
  rw [Safety.latchCode_latch]
  split
  · by_cases hc : l.code = e.code
    · exact ⟨l.again e, List.mem_map.mpr ⟨l, hl, if_pos hc⟩, hc.symm.trans hcode, htime⟩
    · exact ⟨l, List.mem_map.mpr ⟨l, hl, if_neg hc⟩, hcode, hnow⟩
  · split
    · refine ⟨l, ?_, hcode, hnow⟩
      unfold latchInsert
      generalize x.latch.length - _ = k
      have hmem : l ∈ x.latch.take k ++ x.latch.drop k := by rwa [List.take_append_drop]
      rcases List.mem_append.mp hmem with h | h
      · simp [h]
      · simp [h]
    · exact ⟨l, hl, hcode, hnow⟩

theorem Safety.RoomForTests.length_lt {x : Safety} (h : x.RoomForTests) {c : Nat} (hc : c = 0x0001 ∨ c = 0x0003)
    (hnew : x.latch.any (·.code == c) = false) : x.latch.length < 32 := by
  have hle (b : Bool) : flag b 0 ≤ 1 := by cases b <;> decide
  have h1 := hle (x.latch.any (·.code == 0x0001))
  have h3 := hle (x.latch.any (·.code == 0x0003))
  unfold Safety.RoomForTests at h
  rcases hc with rfl | rfl
  · rw [hnew, show flag false 0 = 0 from rfl] at h
    omega
  · rw [hnew, show flag false 0 = 0 from rfl] at h
    omega

theorem Safety.RoomForTests.latchCode {x : Safety} (h : x.RoomForTests) {e : Latched} (hc : e.code = 0x0001 ∨ e.code = 0x0003) :
    (x.latchCode e).RoomForTests := by
  have hlatch := x.latchCode_latch e
  unfold Safety.RoomForTests
  cases hknown : x.latch.any (·.code == e.code)
  · rw [hknown, if_neg (by decide), if_pos (h.length_lt hc hknown)] at hlatch
    rw [hlatch, length_latchInsert, any_latchInsert, any_latchInsert]
    unfold Safety.RoomForTests at h
    rcases hc with hc | hc <;> rw [hc] at hknown ⊢ <;> rw [hknown] at h ⊢ <;> simp [flag] at h ⊢ <;> omega
  · rw [hknown, if_pos rfl] at hlatch
    rw [hlatch, List.length_map, Safety.any_again, Safety.any_again]
    exact h

/-- A detection with room, or of a known code, latches it. -/
theorem Safety.latchCode_holds {x : Safety} (h : x.RoomForTests) {e : Latched} (hc : e.code = 0x0001 ∨ e.code = 0x0003) :
    (x.latchCode e).Holds e.code e.time := by
  cases hknown : x.latch.any (·.code == e.code)
  · exact Safety.exists_mem_latchCode (h.length_lt hc hknown) e
  · obtain ⟨old, hold, hcode⟩ := List.any_eq_true.mp hknown
    unfold Safety.Holds
    rw [Safety.latchCode_latch, hknown, if_pos rfl]
    exact ⟨old.again e, List.mem_map.mpr ⟨old, hold, if_pos (by simpa using hcode)⟩, rfl, rfl⟩

/-- The reports of failed tests: every code latched, the pins static. -/
theorem State.foldl_faultReport_holds (l : List Detection) (s : State) (hcodes : ∀ d ∈ l, d.code = 0x0001 ∨ d.code = 0x0003)
    (hroom : s.safety.RoomForTests) :
    (l.foldl (fun (x : State) d => x.faultReport d.code d.stack d.cluster d.stream d.arg) s).time = s.time ∧
    (∀ c, s.safety.Holds c s.time.now →
      (l.foldl (fun (x : State) d => x.faultReport d.code d.stack d.cluster d.stream d.arg) s).safety.Holds c s.time.now) ∧
    (∀ d ∈ l, (l.foldl (fun (x : State) d => x.faultReport d.code d.stack d.cluster d.stream d.arg) s).safety.Holds
      d.code s.time.now) ∧
    (s.pinsLatched ∨ l ≠ [] →
      (l.foldl (fun (x : State) d => x.faultReport d.code d.stack d.cluster d.stream d.arg) s).pinsLatched) := by
  induction l generalizing s with
  | nil => exact ⟨rfl, fun _ h => h, nofun, fun h => h.resolve_right (by simp)⟩
  | cons d l ih =>
    have htime := State.faultReport_time d.code d.stack d.cluster d.stream d.arg s
    have hsafety := State.faultReport_safety d.code d.stack d.cluster d.stream d.arg s
    have hcode := hcodes d (List.mem_cons_self ..)
    have hpins : (s.faultReport d.code d.stack d.cluster d.stream d.arg).pinsLatched := by
      unfold State.pinsLatched
      rw [hsafety]
      exact ⟨rfl, rfl, rfl⟩
    rw [List.foldl_cons]
    generalize s.faultReport d.code d.stack d.cluster d.stream d.arg = x at htime hsafety hpins
    obtain ⟨hnow, hkeep, hmem, hlatched⟩ := ih x
      (fun e he => hcodes e (List.mem_cons_of_mem d he)) (by rw [hsafety]; exact hroom.latchCode hcode)
    rw [htime] at hnow hkeep hmem
    refine ⟨hnow, fun c h => hkeep c (by rw [hsafety]; exact h.latchCode rfl), fun e he => ?_, fun _ => hlatched (.inl hpins)⟩
    rcases List.mem_cons.mp he with rfl | he
    · exact hkeep _ (by rw [hsafety]; exact Safety.latchCode_holds hroom hcode)
    · exact hmem e he

theorem Safety.roomForTests {x : Safety} (h : x.latch.length < 31) : x.RoomForTests :=
  (show x.latch.length ≤ 30 by omega).trans (by omega)

/-- Failed tests detected together: each code is latched. -/
theorem State.detectAll_faultLatched {l : List Detection} {s : State} (hcodes : ∀ d ∈ l, d.code = 0x0001 ∨ d.code = 0x0003)
    (hroom : s.safety.latch.length < 31) : ∀ d ∈ l, (s.detectAll l).faultLatched d.code s.time.now := by
  intro d hd
  obtain ⟨-, -, hmem, hpins⟩ := State.foldl_faultReport_holds l s hcodes (Safety.roomForTests hroom)
  exact State.foldl_inv (fun x => x.faultLatched d.code s.time.now) (fun x (e : Detection) => x.faultReact e.code)
    (fun x e hx => State.faultReact_faultLatched hx e.code) l _ ⟨hpins (.inr (List.ne_nil_of_mem hd)), hmem d hd⟩

/-! ## The self-test -/

/-- The signatures of the passed assay (R409). -/
def State.goldenSigs (s : State) : List Nat := (List.range 8).map fun u => (s.boot.golden.getD 0 []).getD u 0

/-- The cluster's assay stands as passed now. -/
def Cluster.Passed (sigs : List Nat) (now : Nat) (c : Cluster) : Prop :=
  c.test.assaySig = sigs ∧ c.test.assayComplete = true ∧ c.test.assayPassedAt = some now

/-- The signature drawn for a unit of an assay, with the state behind the draw. -/
def State.assaySig (mask : Nat) (s : State) (a : List Nat × State) (u : Nat) : List Nat × State :=
  if bit mask u then (a.1 ++ [if a.2.fresh.1.toNat = (s.boot.golden.getD 0 []).getD u 0
    then (a.2.fresh.1.toNat + 1) % 2 ^ 64 else a.2.fresh.1.toNat], a.2.fresh.2)
  else (a.1 ++ [(s.boot.golden.getD 0 []).getD u 0], a.2)

/-- The signatures drawn for an assay, unit by unit. -/
def State.assaySigs (mask : Nat) (s : State) : List Nat × State := (List.range 8).foldl (State.assaySig mask s) ([], s)

theorem State.foldl_assaySig (mask : Nat) (s : State) (l : List Nat) (a : List Nat × State)
    (ha : ∃ n, a.2 = { s with free := n }) : ∃ n, (l.foldl (State.assaySig mask s) a).2 = { s with free := n } := by
  induction l generalizing a with
  | nil => exact ha
  | cons u l ih =>
    refine ih _ ?_
    obtain ⟨n, hn⟩ := ha
    unfold State.assaySig
    split
    · rw [hn]; exact ⟨_, rfl⟩
    · exact ⟨n, hn⟩

theorem State.assaySigs_leaves (mask : Nat) (s : State) : ∃ n, (s.assaySigs mask).2 = { s with free := n } :=
  State.foldl_assaySig mask s _ _ ⟨_, rfl⟩

theorem State.assaySigs_zero (s : State) : s.assaySigs 0 = (s.goldenSigs, s) := by
  have hbit (u : Nat) : bit 0 u = false := by simp [bit]
  have h (l acc : List Nat) : l.foldl (State.assaySig 0 s) (acc, s) =
      (acc ++ l.map fun u => (s.boot.golden.getD 0 []).getD u 0, s) := by
    induction l generalizing acc with
    | nil => simp
    | cons u l ih =>
      rw [List.foldl_cons, State.assaySig, hbit, if_neg (by decide), ih]
      simp
  exact h (List.range 8) []

/-- What a self-test's assay writes to its cluster. -/
def State.assayed (sigs : List Nat) (mask : Nat) (s : State) (c : Cluster) : Cluster :=
  { c with test := { c.test with
    assaySig := sigs, assayComplete := true, assayFrameLo := s.frame.counter.toNat % 2 ^ 24, assayRunning := false,
    assayPassedAt := if mask = 0 then some s.time.now else c.test.assayPassedAt } }

theorem State.selfAssay_eq (mask p : Nat) (s : State) : s.selfAssay mask p =
    ((((s.assaySigs mask).2.modCl p (State.assayed (s.assaySigs mask).1 mask s)).bumpCl p (if mask = 0 then 12 else 13)).bumpCl p 14) :=
  rfl

theorem State.selfAssay_onlyFault (mask p : Nat) (s : State) : s.onlyFault (s.selfAssay mask p) := by
  obtain ⟨n, h⟩ := s.assaySigs_leaves mask
  rw [State.selfAssay_eq, h]
  rfl

/-- A self-test's assay writes clusters and takes free values. -/
theorem State.selfAssay_leaves (mask p : Nat) (s : State) : ∃ cs n, s.selfAssay mask p = { s with clusters := cs, free := n } := by
  obtain ⟨n, h⟩ := s.assaySigs_leaves mask
  rw [State.selfAssay_eq, h]
  exact ⟨_, n, rfl⟩

/-- The bump of a cluster's counter leaves its tests. -/
theorem State.bumpCl_test (p q i : Nat) (s : State) : ((s.bumpCl q i).cl p).test = (s.cl p).test := by
  simp only [State.cl, State.bumpCl, State.modCl, State.modClusters_clusters, List.getD, List.getElem?_modify]
  split
  · cases s.clusters[p]? <;> rfl
  · simp

theorem Cluster.Passed.congr {sigs : List Nat} {now : Nat} {c d : Cluster} (h : c.Passed sigs now) (he : d.test = c.test) :
    d.Passed sigs now := by
  unfold Cluster.Passed
  rw [he]
  exact h

/-- A passed assay: the cluster's own tests read passed, another's stay. -/
theorem State.selfAssay_passes {p : Nat} {s : State} (hp : p < s.clusters.length) : ∃ cs, s.selfAssay 0 p = { s with clusters := cs } ∧
    cs.length = s.clusters.length ∧ (cs.getD p {}).Passed s.goldenSigs s.time.now ∧
    ∀ q, (s.cl q).Passed s.goldenSigs s.time.now → (cs.getD q {}).Passed s.goldenSigs s.time.now := by
  have hself : ((s.selfAssay 0 p).cl p).Passed s.goldenSigs s.time.now := by
    rw [State.selfAssay_eq, State.assaySigs_zero]
    have htest : ((((s.modCl p (State.assayed s.goldenSigs 0 s)).bumpCl p 12).bumpCl p 14).cl p).test =
        (State.assayed s.goldenSigs 0 s (s.cl p)).test := by
      rw [State.bumpCl_test, State.bumpCl_test, State.cl_modCl hp]
    exact Cluster.Passed.congr (c := State.assayed s.goldenSigs 0 s (s.cl p)) ⟨rfl, rfl, rfl⟩ htest
  refine ⟨(s.selfAssay 0 p).clusters, ?_, ?_, hself, fun q hq => ?_⟩
  · rw [State.selfAssay_eq, State.assaySigs_zero]
    rfl
  · rw [State.selfAssay_eq, State.assaySigs_zero]
    simp [State.bumpCl, State.modCl]
  · by_cases hqp : q = p
    · exact hqp ▸ hself
    · rw [State.selfAssay_eq, State.assaySigs_zero]
      have htest : ((((s.modCl p (State.assayed s.goldenSigs 0 s)).bumpCl p 12).bumpCl p 14).cl q).test = (s.cl q).test := by
        rw [State.bumpCl_test, State.bumpCl_test]
        simp [State.cl, State.modCl, List.getD, Ne.symm hqp]
      exact hq.congr htest

theorem State.foldl_selfAssay_passes (l : List Nat) {s : State} (hl : ∀ p ∈ l, p < s.clusters.length) :
    ∃ cs, l.foldl (fun (s : State) p => s.selfAssay 0 p) s = { s with clusters := cs } ∧
      ∀ q, q ∈ l ∨ (s.cl q).Passed s.goldenSigs s.time.now → (cs.getD q {}).Passed s.goldenSigs s.time.now := by
  induction l generalizing s with
  | nil => exact ⟨_, rfl, fun q h => h.resolve_left (by simp)⟩
  | cons p l ih =>
    obtain ⟨cs, hstep, hlen, hself, hkeep⟩ := State.selfAssay_passes (hl p (List.mem_cons_self ..))
    obtain ⟨cs', hrest, hpassed⟩ := ih (s := { s with clusters := cs })
      (fun q hq => hlen.symm ▸ hl q (List.mem_cons_of_mem p hq))
    refine ⟨cs', by rw [List.foldl_cons, hstep]; exact hrest, fun q hq => hpassed q ?_⟩
    rcases hq with hq | hq
    · rcases List.mem_cons.mp hq with rfl | hq
      · exact .inr hself
      · exact .inl hq
    · exact .inr (hkeep q hq)

theorem State.advance_leaves (s : State) : ∃ pt, s.advance = { s with part := pt } := by
  unfold State.advance
  split <;> exact ⟨_, rfl⟩

theorem State.signLate_leaves (s : State) : ∃ er, s.signLate = { s with errors := er } := by
  unfold State.signLate
  dsimp only
  split <;> exact ⟨_, rfl⟩

/-- The SSV's minimal dump takes the place of the full one (R432). -/
def State.minimalKept (s : State) : State :=
  match s.errors.dump.minimal with
  | some b => s.modErrors fun e => { e with dump :=
      if s.errors.dump.canWrite then { (s.errors.dump.holds b 1 (getU b 7 1)) with minimal := none }
      else { s.errors.dump with minimal := none } }
  | none => s

theorem State.minimalKept_leaves (s : State) : ∃ er, s.minimalKept = { s with errors := er } := by
  unfold State.minimalKept
  split <;> exact ⟨_, rfl⟩

/-- The warning of a suppressed dump, where one is due. -/
def State.suppressionWarned (s : State) : State :=
  if s.errors.dump.suppressedEvent then
    (s.modErrors fun e => { e with dump := { e.dump with suppressedEvent := false } }).warn 0x0126 0xFF 0xFF []
  else s

theorem State.suppressionWarned_leaves (s : State) : ∃ er, State.AtEvents { s with errors := er } s.suppressionWarned := by
  unfold State.suppressionWarned
  split
  · exact ⟨_, State.warn_atEvents ..⟩
  · exact ⟨s.errors, .refl s⟩

theorem State.afterReset_eq (s : State) : s.afterReset = (s.modSafety fun x => { x with
    resetUnderWay := false, warmResets := x.warmResets + flag x.resetUnderWay 0 }).advance.minimalKept.signLate.suppressionWarned := rfl

/-- The end of a reset leaves all but the part's ledger, the dump and what its warning touches. -/
theorem State.afterReset_leaves (s : State) : ∃ pt er, State.AtEvents { s with
    part := pt, errors := er, safety := { s.safety with
      resetUnderWay := false, warmResets := s.safety.warmResets + flag s.safety.resetUnderWay 0 } } s.afterReset := by
  rw [State.afterReset_eq]
  obtain ⟨pt, hpart⟩ := State.advance_leaves (s.modSafety fun x => { x with
    resetUnderWay := false, warmResets := x.warmResets + flag x.resetUnderWay 0 })
  rw [hpart]
  obtain ⟨er, hkept⟩ := State.minimalKept_leaves { (s.modSafety fun x => { x with
    resetUnderWay := false, warmResets := x.warmResets + flag x.resetUnderWay 0 }) with part := pt }
  rw [hkept]
  obtain ⟨er', hsigned⟩ := State.signLate_leaves { (s.modSafety fun x => { x with
    resetUnderWay := false, warmResets := x.warmResets + flag x.resetUnderWay 0 }) with part := pt, errors := er }
  rw [hsigned]
  obtain ⟨er'', hwarned⟩ := State.suppressionWarned_leaves { (s.modSafety fun x => { x with
    resetUnderWay := false, warmResets := x.warmResets + flag x.resetUnderWay 0 }) with part := pt, errors := er' }
  exact ⟨pt, er'', hwarned⟩

theorem State.mem_allRakeItems {s : State} {p i : Nat} (hp : p < 64) (hen : s.enabled p = true) (h1 : 1 ≤ i) (h11 : i ≤ 11) :
    (p, i) ∈ s.allRakeItems := by
  refine List.mem_append_left _ (List.mem_flatMap.mpr ⟨p, ?_, List.mem_map.mpr ⟨i - 1, ?_, ?_⟩⟩)
  · simpa [State.enabledList] using ⟨hp, hen⟩
  · simp; omega
  · simp; omega

/-- A self-test without failures: the clusters' assays passed, the ages at zero, in a reset its end. -/
theorem State.selfTest_passes {s : State} (hdue : s.selfTestDue = true) (hgolden : s.hub.secretsGolden = true) :
    s.selfTest [] =
      let x := (s.enabledList.foldl (fun (s : State) p => s.selfAssay 0 p) s).restartAges
      if s.safety.resetUnderWay || s.safety.selfTests == 0 then x.afterReset else x := by
  have htests : s.testFailures [] = ([], s) := by
    unfold State.testFailures
    exact if_pos hgolden
  have hsafety : (s.enabledList.foldl (fun (s : State) p => s.selfAssay 0 p) s).safety = s.safety :=
    State.foldl_keeps (·.safety) _ (fun x p => State.selfAssay_safety 0 p x) _ s
  unfold State.selfTest State.when_
  rw [if_pos hdue]
  dsimp only
  rw [htests]
  change (if (s.enabledList.foldl (fun (s : State) p => s.selfAssay 0 p) s).safety.resetUnderWay ||
    (s.enabledList.foldl (fun (s : State) p => s.selfAssay 0 p) s).safety.selfTests == 0 then _ else _) = _
  rw [hsafety]
  rfl

/-- A cluster without golden data fails its assay, whatever it reports. -/
def State.wipedFailure (a : List TestFailure × State) (p : Nat) : List TestFailure × State :=
  if a.1.any fun f => f.unit == p && f.item == 0 then a
  else (a.1 ++ [{ unit := p, item := 0, mask := a.2.fresh.1.toNat % 255 + 1 }], a.2.fresh.2)

theorem State.wipedFailure_leaves (a : List TestFailure × State) (p : Nat) :
    (∃ n, (State.wipedFailure a p).2 = { a.2 with free := n }) ∧ (∀ f ∈ a.1, f ∈ (State.wipedFailure a p).1) ∧
    ∃ f ∈ (State.wipedFailure a p).1, f.item = 0 := by
  unfold State.wipedFailure
  split
  · next h =>
    obtain ⟨f, hf, hmatch⟩ := List.any_eq_true.mp h
    simp only [Bool.and_eq_true, beq_iff_eq] at hmatch
    exact ⟨⟨_, rfl⟩, fun f hf => hf, f, hf, hmatch.2⟩
  · exact ⟨⟨_, rfl⟩, fun f hf => List.mem_append_left _ hf, _, List.mem_append_right _ (List.mem_singleton.mpr rfl), rfl⟩

/-- The failures of a self-test, those of the wiped golden data with them: all given ones of enabled clusters stand among them. -/
theorem State.testFailures_leaves (given : List TestFailure) (s : State) : (∃ n, (s.testFailures given).2 = { s with free := n }) ∧
    (∀ f ∈ given, f.unit = 64 ∨ s.enabled f.unit = true → f ∈ (s.testFailures given).1) ∧
    (s.hub.secretsGolden = false → ∀ p < 64, s.enabled p = true → ∃ f ∈ (s.testFailures given).1, f.item = 0) := by
  have hgiven : ∀ f ∈ given, f.unit = 64 ∨ s.enabled f.unit = true → f ∈ given.filter fun f => f.unit == 64 || s.enabled f.unit :=
    fun f hf h => List.mem_filter.mpr ⟨hf, by simpa using h⟩
  have hfold (l : List Nat) (a : List TestFailure × State) (ha : ∃ n, a.2 = { s with free := n }) :
      (∃ n, (l.foldl State.wipedFailure a).2 = { s with free := n }) ∧ (∀ f ∈ a.1, f ∈ (l.foldl State.wipedFailure a).1) ∧
      ∀ p ∈ l, ∃ f ∈ (l.foldl State.wipedFailure a).1, f.item = 0 := by
    induction l generalizing a with
    | nil => exact ⟨ha, fun f hf => hf, nofun⟩
    | cons p l ih =>
      obtain ⟨hfree, hold, hnew⟩ := State.wipedFailure_leaves a p
      obtain ⟨n, hn⟩ := ha
      obtain ⟨hfree', hold', hnew'⟩ := ih (State.wipedFailure a p) (by obtain ⟨m, hm⟩ := hfree; exact ⟨m, by rw [hm, hn]⟩)
      refine ⟨hfree', fun f hf => hold' f (hold f hf), fun q hq => ?_⟩
      rcases List.mem_cons.mp hq with rfl | hq
      · obtain ⟨f, hf, hitem⟩ := hnew
        exact ⟨f, hold' f hf, hitem⟩
      · exact hnew' q hq
  unfold State.testFailures
  dsimp only
  split
  · next hgolden => exact ⟨⟨_, rfl⟩, hgiven, fun h => absurd hgolden (by simp [h])⟩
  · obtain ⟨hfree, hold, hnew⟩ := hfold s.enabledList (given.filter fun f => f.unit == 64 || s.enabled f.unit, s) ⟨_, rfl⟩
    exact ⟨hfree, fun f hf h => hold f (hgiven f hf h), fun _ p hp hen => hnew p (by simpa [State.enabledList] using ⟨hp, hen⟩)⟩

/-- The faults of a failed self-test: those of its assays first. -/
def testFaults (l : List TestFailure) : List Detection := (l.filter (·.item == 0) ++ l.filter (·.item != 0)).map TestFailure.fault

theorem mem_testFaults {l : List TestFailure} {f : TestFailure} (h : f ∈ l) : TestFailure.fault f ∈ testFaults l := by
  refine List.mem_map_of_mem ?_
  rw [List.mem_append, List.mem_filter, List.mem_filter]
  by_cases h0 : f.item = 0
  · exact .inl ⟨h, by simp [h0]⟩
  · exact .inr ⟨h, by simp [h0]⟩

theorem TestFailure.fault_code (f : TestFailure) : (TestFailure.fault f).code = if f.item = 0 then 0x0001 else 0x0003 := rfl

theorem testFaults_codes (l : List TestFailure) : ∀ d ∈ testFaults l, d.code = 0x0001 ∨ d.code = 0x0003 := by
  intro d hd
  obtain ⟨f, -, rfl⟩ := List.mem_map.mp hd
  rw [TestFailure.fault_code]
  split
  · exact .inl rfl
  · exact .inr rfl

/-- A self-test with failures detects them together behind its assays. -/
theorem State.selfTest_fails {s : State} {given : List TestFailure} (hdue : s.selfTestDue = true)
    (hne : (s.testFailures given).1 ≠ []) : ∃ cs n, s.selfTest given =
      State.detectAll (testFaults (s.testFailures given).1) { s with clusters := cs, free := n } := by
  obtain ⟨⟨n, hn⟩, -⟩ := s.testFailures_leaves given
  have hassays : ∃ cs n, ((s.testFailures given).2.enabledList.foldl (fun (x : State) p =>
      x.selfAssay (maskOf (s.testFailures given).1 p) p) (s.testFailures given).2) = { s with clusters := cs, free := n } := by
    refine State.foldl_inv (fun x => ∃ cs n, x = { s with clusters := cs, free := n }) _ (fun x p hx => ?_) _ _ ⟨_, n, hn⟩
    obtain ⟨cs, m, rfl⟩ := hx
    obtain ⟨cs', m', h⟩ := State.selfAssay_leaves (maskOf (s.testFailures given).1 p) p { s with clusters := cs, free := m }
    exact ⟨cs', m', h⟩
  obtain ⟨cs, m, hcs⟩ := hassays
  refine ⟨cs, m, ?_⟩
  unfold State.selfTest State.when_
  rw [if_pos hdue]
  dsimp only
  rw [hcs, if_neg (by simpa using hne)]
  rfl

/-- Every rake item at age zero. -/
def State.freshItems (s : State) : List RakeItem := s.allRakeItems.map fun u => { unit := u.1, item := u.2, last := s.time.now }

/-- What a passed self-test leaves. -/
theorem State.selfTest_leaves {s : State} (hdue : s.selfTestDue = true) (hgolden : s.hub.secretsGolden = true) :
    ∃ x, s.selfTest [] = x ∧
      (∀ p < 64, s.clusters.length = 64 → s.enabled p = true → (x.cl p).Passed s.goldenSigs s.time.now) ∧
      x.safety.rakeItems = s.freshItems ∧ x.safety.latch = s.safety.latch ∧
      x.worlds = s.worlds ∧ x.images = s.images ∧ x.streams = s.streams := by
  refine ⟨_, rfl, ?_⟩
  rw [State.selfTest_passes hdue hgolden]
  obtain ⟨cs, n, hfold⟩ : ∃ cs n, s.enabledList.foldl (fun (s : State) p => s.selfAssay 0 p) s = { s with clusters := cs, free := n } := by
    refine State.foldl_inv (fun x => ∃ cs n, x = { s with clusters := cs, free := n }) _ (fun x p hx => ?_) _ _ ⟨_, _, rfl⟩
    obtain ⟨cs, m, rfl⟩ := hx
    obtain ⟨cs', m', h⟩ := State.selfAssay_leaves 0 p { s with clusters := cs, free := m }
    exact ⟨cs', m', h⟩
  have hpassed : ∀ p < 64, s.clusters.length = 64 → s.enabled p = true → (cs.getD p {}).Passed s.goldenSigs s.time.now := by
    intro p hp hlen hen
    obtain ⟨cs', hfold', hall⟩ := State.foldl_selfAssay_passes s.enabledList (s := s)
      (fun q hq => hlen ▸ List.mem_range.mp (List.mem_filter.mp hq).1)
    have hcs : cs' = cs := congrArg State.clusters (hfold'.symm.trans hfold)
    exact hcs ▸ hall p (.inl (by simpa [State.enabledList] using ⟨hp, hen⟩))
  dsimp only
  rw [hfold]
  split
  · obtain ⟨pt, er, pc, rs, ss, ho, l, hreset⟩ := State.afterReset_leaves ({ s with clusters := cs, free := n } : State).restartAges
    rw [hreset]
    exact ⟨hpassed, rfl, rfl, rfl, rfl, rfl⟩
  · exact ⟨hpassed, rfl, rfl, rfl, rfl, rfl⟩

/-! ## Restart and health page -/

theorem State.fresh_ses (i : Nat) : ({} : State).ses i = {} := State.mainOff_ses {} i

/-- What a warm reset leaves (R372). -/
theorem State.warmReset_leaves (cause : Nat) (s : State) : (∀ i < 16, ((s.warmReset cause).ses i).state = 0) ∧
    (s.warmReset cause).streams = [] ∧ (s.warmReset cause).boot.cfwUp = false ∧ (s.warmReset cause).part = s.part ∧
    (s.warmReset cause).flash = s.flash ∧ (s.warmReset cause).aon = s.aon ∧ (s.warmReset cause).time.now = s.time.now := by
  have hses (i : Nat) : (s.warmReset cause).ses i = ({} : State).ses i := State.ses_congr (by unfold State.warmReset; rfl) i
  refine ⟨fun i _ => congrArg Session.state ((hses i).trans (State.fresh_ses i)), ?_, ?_, ?_, ?_, ?_, ?_⟩ <;> simp [State.warmReset]

/-- A write of a paired record stands in one of its copies. -/
theorem Paired.write_copy {α : Type} (p : Paired α) (v : α) :
    ∃ n, (p.write v).copy0 = some (n, v) ∨ (p.write v).copy1 = some (n, v) := by
  unfold Paired.write
  dsimp only
  split
  · exact ⟨_, .inl rfl⟩
  · split
    · exact ⟨_, .inr rfl⟩
    · split
      · exact ⟨_, .inl rfl⟩
      · exact ⟨_, .inr rfl⟩

/-- The health page as it is written next. -/
def State.nextPage (s : State) : HealthPage :=
  let old := s.flash.health.read.getD {}
  { old with
    voff := s.clusters.map (·.test.voff), signed := true,
    marks := old.marks ++ (List.range 64).filterMap fun p =>
      if (s.cl p).test.retirePending && !(old.marks.any fun m => m.1 == p) then some (p, (s.cl p).test.retireCause) else none }

theorem State.nextPage_marks {s : State} {p : Nat} (hp : p < 64) (h : (s.cl p).test.retirePending = true) :
    ∃ m ∈ s.nextPage.marks, m.1 = p := by
  cases hold : (s.flash.health.read.getD {}).marks.any fun m => m.1 == p
  · refine ⟨(p, (s.cl p).test.retireCause), List.mem_append_right _ (List.mem_filterMap.mpr ⟨p, List.mem_range.mpr hp, ?_⟩), rfl⟩
    rw [h, hold]
    rfl
  · obtain ⟨m, hm, hmp⟩ := List.any_eq_true.mp hold
    exact ⟨m, List.mem_append_left _ hm, beq_iff_eq.mp hmp⟩

section
variable {s : State} (t : Nat)

theorem latentOverdue_warns {unit item : Nat} (hok : rakeItemOk unit item = true) (hrun : s.classSRunning = true)
    (hlate : ∀ r ∈ s.safety.rakeItems, r.unit = unit → r.item = item → 100000 * ticksPerUs < max s.time.now t - r.last)
    (hold : ∃ r ∈ s.safety.rakeItems, r.unit = unit ∧ r.item = item) :
    ∃ s', exec (.latentOverdue unit item t) s = .next s' ∧
      (∀ r ∈ s'.safety.rakeItems, r.unit = unit → r.item = item → r.warned = true ∨ ∃ q ∈ s.safety.rakeItems,
        q.unit = unit ∧ q.item = item ∧ q.warned = true) ∧
      s'.safety.latch = s.safety.latch ∧
      { s' with time := s.time, safety := s.safety, rings := s.rings, sessions := s.sessions, pcie := s.pcie,
                clusters := s.clusters, stks := s.stks, hub := s.hub, host := s.host } = s := by
  obtain ⟨i, hi⟩ : ∃ i, (s.at t).olderThan unit item 100000 = some i := by
    obtain ⟨r, hr, hunit, hitem⟩ := hold
    refine Option.isSome_iff_exists.mp ?_
    unfold State.olderThan
    rw [if_pos (show (s.at t).classSRunning = true from hrun), List.find?_isSome]
    exact ⟨r, hr, by simpa [hunit, hitem] using hlate r hr hunit hitem⟩
  have hfound : i ∈ s.safety.rakeItems ∧ i.unit = unit ∧ i.item = item := by
    unfold State.olderThan at hi
    rw [if_pos (show (s.at t).classSRunning = true from hrun)] at hi
    have hmatch := List.find?_some hi
    simp only [Bool.and_eq_true, beq_iff_eq] at hmatch
    exact ⟨List.mem_of_find?_eq_some hi, hmatch.1⟩
  obtain ⟨hmem, hunit, hitem⟩ := hfound
  refine ⟨_, (exec_latentOverdue ..).trans (ranAt_pos hok ..), ?_⟩
  by_cases hw : i.warned = true
  · have hsame : (s.at t).latentWarn unit item = s.at t := by
      unfold State.latentWarn
      rw [hi]
      exact if_pos hw
    rw [hsame]
    exact ⟨fun _ _ _ _ => .inr ⟨i, hmem, hunit, hitem, hw⟩, rfl, rfl⟩
  · have hwarn : (s.at t).latentWarn unit item = ((s.at t).modSafety (Safety.modItem unit item fun i =>
        { i with warned := true })).warn 0x0127 (rakePlace unit).1 (rakePlace unit).2 (rakeArg unit item) := by
      unfold State.latentWarn
      rw [hi]
      exact if_neg hw
    obtain ⟨pc, rs, ss, ho, l, hevents⟩ := State.warn_atEvents 0x0127 (rakePlace unit).1 (rakePlace unit).2 (rakeArg unit item)
      ((s.at t).modSafety (Safety.modItem unit item fun i => { i with warned := true }))
    rw [hwarn, hevents]
    refine ⟨fun r hr hru hri => .inl ?_, rfl, rfl⟩
    obtain ⟨q, -, hq⟩ := List.mem_map.mp (show r ∈ s.safety.rakeItems.map _ from hr)
    split at hq
    · rw [← hq]
    · next hno => exact absurd ⟨hq ▸ hru, hq ▸ hri⟩ hno

theorem selfTestComplete_passes (hdue : s.selfTestDue = true) (hgolden : s.hub.secretsGolden = true) :
    ∃ s', exec (.selfTestComplete [] t) s = .next s' ∧
      (∀ p < 64, s.clusters.length = 64 → s.enabled p = true → (s'.cl p).test.assaySig =
        (List.range 8).map (fun u => (s.boot.golden.getD 0 []).getD u 0) ∧ (s'.cl p).test.assayComplete = true ∧
        (s'.cl p).test.assayPassedAt = some (max s.time.now t)) ∧
      (∀ p < 64, s.enabled p = true → ∀ i, 1 ≤ i → i ≤ 11 →
        ∃ r ∈ s'.safety.rakeItems, r.unit = p ∧ r.item = i ∧ r.last = max s.time.now t) ∧
      (∀ r ∈ s'.safety.rakeItems, r.last = max s.time.now t ∧ r.warned = false) ∧ s'.safety.latch = s.safety.latch ∧
      s'.worlds = s.worlds ∧ s'.images = s.images ∧ s'.streams = s.streams := by
  obtain ⟨x, hx, hpassed, hitems, hlatch, hrest⟩ := State.selfTest_leaves (s := s.at t) hdue hgolden
  refine ⟨_, (exec_selfTestComplete ..).trans (ranAt_pos rfl ..), ?_⟩
  rw [hx]
  refine ⟨hpassed, fun p hp hen i h1 h11 => ?_, fun r hr => ?_, hlatch, hrest⟩
  · have hmem : ({ unit := p, item := i, last := max s.time.now t } : RakeItem) ∈ (s.at t).freshItems :=
      List.mem_map.mpr ⟨(p, i), State.mem_allRakeItems (s := s.at t) hp hen h1 h11, rfl⟩
    exact ⟨_, hitems ▸ hmem, rfl, rfl, rfl⟩
  · have hmem : r ∈ (s.at t).freshItems := hitems ▸ hr
    obtain ⟨u, -, rfl⟩ := List.mem_map.mp hmem
    exact ⟨rfl, rfl⟩

theorem selfTestComplete_fails (l : List TestFailure) (hwf : l.all TestFailure.wf = true) (hdue : s.selfTestDue = true)
    (hroom : s.safety.latch.length < 31)
    (hfail : (∃ f ∈ l, f.unit = 64 ∨ s.enabled f.unit = true) ∨ s.hub.secretsGolden = false ∧ (∃ p < 64, s.enabled p = true)) :
    ∃ s', exec (.selfTestComplete l t) s = .next s' ∧ s.onlyFault s' ∧
      (∀ f ∈ l, f.unit = 64 ∨ s.enabled f.unit = true →
        s'.faultLatched (if f.item = 0 then 0x0001 else 0x0003) (max s.time.now t)) ∧
      (s.hub.secretsGolden = false → (∃ p < 64, s.enabled p = true) →
        s'.faultLatched 0x0001 (max s.time.now t)) := by
  obtain ⟨-, hgiven, hwiped⟩ := (s.at t).testFailures_leaves l
  have hne : ((s.at t).testFailures l).1 ≠ [] := by
    rcases hfail with ⟨f, hf, hen⟩ | ⟨hgolden, p, hp, hen⟩
    · exact List.ne_nil_of_mem (hgiven f hf hen)
    · obtain ⟨f, hf, -⟩ := hwiped hgolden p hp hen
      exact List.ne_nil_of_mem hf
  obtain ⟨cs, n, htest⟩ := State.selfTest_fails (s := s.at t) hdue hne
  have hlatched := State.detectAll_faultLatched (s := { s.at t with clusters := cs, free := n })
    (testFaults_codes ((s.at t).testFailures l).1) hroom
  have honly : s.onlyFault _ := State.onlyFault_trans (b := { s.at t with clusters := cs, free := n }) rfl
    (State.detectAll_onlyFault (testFaults ((s.at t).testFailures l).1) _)
  refine ⟨_, (exec_selfTestComplete ..).trans (ranAt_pos hwf ..), ?_⟩
  dsimp only
  rw [htest]
  generalize State.detectAll (testFaults ((s.at t).testFailures l).1) { s.at t with clusters := cs, free := n } = x at hlatched honly
  have hleft := congrArg (fun x : State => { x with pending := s.pending }) honly
  refine ⟨hleft, fun f hf hen => hlatched _ (mem_testFaults (hgiven f hf hen)), fun hgolden ⟨p, hp, hen⟩ => ?_⟩
  obtain ⟨f, hf, hitem⟩ := hwiped hgolden p hp hen
  have hcode : (TestFailure.fault f).code = 0x0001 := (TestFailure.fault_code f).trans (if_pos hitem)
  exact hcode ▸ hlatched _ (mem_testFaults hf)

theorem selfTestComplete_early (l : List TestFailure) (h : s.selfTestDue = false) :
    ∃ s', exec (.selfTestComplete l t) s = .next s' ∧ { s' with time := s.time } = s := by
  rw [exec_selfTestComplete]
  cases hwf : l.all TestFailure.wf
  · exact ⟨_, ranAt_skip rfl .., rfl⟩
  · have hsame : (s.at t).selfTest l = s.at t := if_neg (Bool.eq_false_iff.mp h)
    refine ⟨_, ranAt_pos rfl .., ?_⟩
    rw [hsame]
    rfl

theorem dumpWritten_idle (hw : s.errors.dump.writing = none) (hr : s.safety.restartPending = none) :
    ∃ s', exec (.dumpWritten t) s = .next s' ∧ { s' with time := s.time } = s := by
  have hsame : (s.at t).dumpWritten = s.at t := by
    unfold State.dumpWritten
    rw [show (s.at t).errors.dump.writing = none from hw]
    dsimp only
    rw [show (s.at t).safety.restartPending = none from hr]
  refine ⟨_, (exec_dumpWritten ..).trans (ranAt_pos rfl ..), ?_⟩
  rw [hsame]
  rfl

theorem dumpWritten_restarts {code : Nat} (hw : s.errors.dump.writing = none) (hr : s.safety.restartPending = some code) :
    ∃ s', exec (.dumpWritten t) s = .next s' ∧ (∀ i < 16, (s'.ses i).state = 0) ∧ s'.streams = [] ∧
      s'.boot.cfwUp = false ∧ s'.safety.restartPending = none ∧ s'.safety.resetUnderWay = true ∧
      s'.safety.restarts = s.safety.restarts ++ [max s.time.now t] ∧ s'.safety.latch = s.safety.latch ∧
      s'.part = s.part ∧ s'.flash = s.flash ∧ s'.aon = s.aon ∧ s'.time.now = max s.time.now t := by
  have hrestart : (s.at t).dumpWritten = ((s.at t).modSafety fun x =>
      { x with restarts := x.restarts ++ [(s.at t).time.now] }).warmReset code := by
    unfold State.dumpWritten
    rw [show (s.at t).errors.dump.writing = none from hw]
    dsimp only
    rw [show (s.at t).safety.restartPending = some code from hr]
    rfl
  refine ⟨_, (exec_dumpWritten ..).trans (ranAt_pos rfl ..), ?_⟩
  dsimp only
  rw [hrestart]
  obtain ⟨hses, hstreams, hup, hpart, hflash, haon, hnow⟩ := State.warmReset_leaves code ((s.at t).modSafety fun x =>
    { x with restarts := x.restarts ++ [(s.at t).time.now] })
  have hsafety := State.warmReset_safety code ((s.at t).modSafety fun x => { x with restarts := x.restarts ++ [(s.at t).time.now] })
  generalize State.warmReset code _ = x at hses hstreams hup hpart hflash haon hnow hsafety
  exact ⟨hses, hstreams, hup, congrArg Safety.restartPending hsafety, congrArg Safety.resetUnderWay hsafety,
    congrArg Safety.restarts hsafety, (congrArg Safety.latch hsafety :), hpart, hflash, haon, hnow⟩

theorem healthPageWrite_writes (hnew : s.boot.markNew = true) : ∃ s' page n, exec (.healthPageWrite t) s = .next s' ∧
    (s'.flash.health.copy0 = some (n, page) ∨ s'.flash.health.copy1 = some (n, page)) ∧
    page.voff = s.clusters.map (fun x => x.test.voff) ∧
    (∀ p < 64, (s.cl p).test.retirePending = true → ∃ m ∈ page.marks, m.1 = p) ∧
    s'.boot.markNew = false ∧ s'.boot.healthWritten = some (max s.time.now t) ∧
    { s' with time := s.time, flash := s.flash, boot := s.boot } = s := by
  have hwrite : (s.at t).healthPageWrite = ((s.at t).modFlash fun f => { f with health := f.health.write s.nextPage }).modBoot fun b =>
      { b with markNew := false, voffChanged := false, healthWritten := some (s.at t).time.now } := by
    refine if_pos ?_
    rw [show (s.at t).boot.markNew = true from hnew]
    rfl
  obtain ⟨n, hcopy⟩ := s.flash.health.write_copy s.nextPage
  refine ⟨_, s.nextPage, n, (exec_healthPageWrite ..).trans (ranAt_pos rfl ..), ?_⟩
  rw [hwrite]
  exact ⟨hcopy, rfl, fun p hp hpending => State.nextPage_marks hp hpending, rfl, rfl, rfl⟩

theorem healthPageWrite_waits (hnew : s.boot.markNew = false) (hvoff : s.boot.voffChanged = false) :
    ∃ s', exec (.healthPageWrite t) s = .next s' ∧ { s' with time := s.time } = s := by
  have hsame : (s.at t).healthPageWrite = s.at t := by
    refine if_neg ?_
    rw [show (s.at t).boot.markNew = false from hnew, show (s.at t).boot.voffChanged = false from hvoff]
    simp
  refine ⟨_, (exec_healthPageWrite ..).trans (ranAt_pos rfl ..), ?_⟩
  rw [hsame]
  rfl

end

/-- Settles O42, an event at a time. -/
theorem latentTestsAndRestart : Obligations.LatentTestsAndRestart := by
  unfold Obligations.LatentTestsAndRestart
  exact fun s unit item t => ⟨latentOverdue_warns t, selfTestComplete_passes t, selfTestComplete_fails t, selfTestComplete_early t,
    dumpWritten_idle t, fun _ => dumpWritten_restarts t, healthPageWrite_writes t, healthPageWrite_waits t⟩

end Sys2Proof.Machine
end

section
/-!
SUPPORT. The PCIe controller under events: what an MSI-X message leaves; and the obligation on link resets and link errors
(R291, R355 to R357, R370, R472).
-/
namespace Sys2Proof.Machine

/-- A function without its pending vectors. -/
def FnState.core (f : FnState) : FnState := { f with pendingBits := [] }

/-- The controller without what an interrupt changes: the messages sent, the vectors pending. -/
def Pcie.core (p : Pcie) : Pcie := { p with sent := [], fns := p.fns.map FnState.core }

theorem map_modify_of {α β : Type} (core : α → β) {g : α → α} (hg : ∀ x, core (g x) = core x) (l : List α) (i : Nat) :
    (l.modify i g).map core = l.map core := by
  induction l generalizing i with
  | nil => simp
  | cons x l ih => cases i <;> simp [List.modify_zero_cons, List.modify_succ_cons, hg, ih]

theorem State.modFn_pcieCore {f : FnState → FnState} (hf : ∀ x, (f x).core = x.core) (fn : Nat) (s : State) :
    (s.modFn fn f).pcie.core = s.pcie.core := by
  show ({ s.pcie with fns := s.pcie.fns.modify fn f } : Pcie).core = s.pcie.core
  rw [Pcie.core, Pcie.core, map_modify_of FnState.core hf]

@[simp] theorem State.msixSend_pcieCore (fn v : Nat) (s : State) : (s.msixSend fn v).pcie.core = s.pcie.core := rfl

@[simp] theorem State.msixRaise_pcieCore (fn v : Nat) (s : State) : (s.msixRaise fn v).pcie.core = s.pcie.core := by
  unfold State.msixRaise
  split
  · rfl
  · exact State.modFn_pcieCore (by exact fun _ => rfl) fn s

@[simp] theorem State.msixFlush_pcieCore (fn : Nat) (s : State) : (s.msixFlush fn).pcie.core = s.pcie.core := by
  unfold State.msixFlush
  refine State.foldl_inv (fun x => x.pcie.core = s.pcie.core) _ (fun x v hx => ?_) _ _ rfl
  split
  · exact (State.msixSend_pcieCore ..).trans ((State.modFn_pcieCore (by exact fun _ => rfl) fn x).trans hx)
  · exact hx

@[simp] theorem State.eventTo_pcieCore (key type se stream : Nat) (b : List Byte) (s : State) :
    (s.eventTo key type se stream b).pcie.core = s.pcie.core := by
  unfold State.eventTo
  split
  · rfl
  · next r hr =>
    have hlost : (if r.lost > 0 ∧ s.ringRoom r then
        (s.ringPut r (eventEntry 5 (if key = 32 then 0xFF else key / 2) 0xFF s.frameNo s.time.now r.eventSeq (le 4 r.lost))).modRing
          key fun r => { r with eventSeq := (r.eventSeq + 1) % 2 ^ 32, lost := 0 } else s).pcie = s.pcie := by
      split <;> simp
    dsimp only
    generalize (if r.lost > 0 ∧ s.ringRoom r then _ else s) = x at hlost ⊢
    split
    · split <;> simp [hlost]
    · split <;> simp [hlost]

theorem State.foldl_pcieCore {α : Type} {g : State → α → State} (h : ∀ s a, (g s a).pcie.core = s.pcie.core) (l : List α)
    (s : State) : (l.foldl g s).pcie.core = s.pcie.core := State.foldl_keeps (·.pcie.core) g h l s

@[simp] theorem State.deviceEvent_pcieCore (type stream : Nat) (b : List Byte) (s : State) :
    (s.deviceEvent type stream b).pcie.core = s.pcie.core := by
  unfold State.deviceEvent
  rw [State.foldl_pcieCore, State.eventTo_pcieCore]
  intro x i
  split
  · exact State.eventTo_pcieCore ..
  · rfl

@[simp] theorem State.warn_pcieCore (code stack cluster : Nat) (arg : List Byte) (s : State) :
    (s.warn code stack cluster arg).pcie.core = s.pcie.core := State.deviceEvent_pcieCore ..

@[simp] theorem State.sesTo_pcieCore (i st cause : Nat) (s : State) : (s.sesTo i st cause).pcie.core = s.pcie.core :=
  State.eventTo_pcieCore ..

theorem State.faultReport_pcieCore (code stack cluster stream : Nat) (arg : List Byte) (s : State) :
    (s.faultReport code stack cluster stream arg).pcie.core = s.pcie.core := by
  simp [State.faultReport, State.ite_pcie]

theorem State.faultLeave_pcieCore (code : Nat) (s : State) (i : Nat) : (s.faultLeave code i).pcie.core = s.pcie.core := by
  unfold State.faultLeave
  split
  · exact State.sesTo_pcieCore ..
  · rfl

theorem State.triggerDump_pcieCore (code : Nat) (s : State) : (s.triggerDump code).pcie.core = s.pcie.core := by
  unfold State.triggerDump
  dsimp only
  split
  · rfl
  · split
    · rfl
    · split
      · rfl
      · exact State.warn_pcieCore ..

/-- Of the PCIe controller a detection changes messages and pending vectors alone. -/
theorem State.faultReact_pcieCore (code : Nat) (s : State) : (s.faultReact code).pcie.core = s.pcie.core := by
  rw [State.faultReact_eq, State.ite_pcie, State.modSafety_pcie, ite_self, State.triggerDump_pcieCore,
    State.foldl_pcieCore (State.faultLeave_pcieCore code)]

theorem State.detect_pcieCore (code stack cluster stream : Nat) (arg : List Byte) (s : State) :
    (s.detect code stack cluster stream arg).pcie.core = s.pcie.core :=
  (State.faultReact_pcieCore ..).trans (State.faultReport_pcieCore ..)

theorem State.fnS_core {s s' : State} (h : s'.pcie.core = s.pcie.core) (g : Nat) : (s'.fnS g).core = (s.fnS g).core := by
  have hfns : s'.pcie.fns.map FnState.core = s.pcie.fns.map FnState.core := congrArg Pcie.fns h
  have hget (p : Pcie) : (p.fns.getD g {}).core = (p.fns.map FnState.core).getD g (FnState.core {}) := by
    rw [List.getD_map]
  exact (hget s'.pcie).trans ((congrArg (List.getD · g (FnState.core {})) hfns).trans (hget s.pcie).symm)

/-! ## Links -/

/-- A code that stands in the latch stands there behind a detection. -/
theorem Safety.latchCode_keeps (x : Safety) (e : Latched) : ∀ l ∈ x.latch, ∃ m ∈ (x.latchCode e).latch, m.code = l.code := by
  intro l hl
  rw [Safety.latchCode_latch]
  split
  · by_cases hc : l.code = e.code
    · exact ⟨l.again e, List.mem_map.mpr ⟨l, hl, if_pos hc⟩, hc.symm⟩
    · exact ⟨l, List.mem_map.mpr ⟨l, hl, if_neg hc⟩, rfl⟩
  · split
    · refine ⟨l, ?_, rfl⟩
      unfold latchInsert
      generalize x.latch.length - _ = k
      have hmem : l ∈ x.latch.take k ++ x.latch.drop k := by rwa [List.take_append_drop]
      rcases List.mem_append.mp hmem with h | h
      · simp [h]
      · simp [h]
    · exact ⟨l, hl, rfl⟩

/-- The detection of LINK_RESET, where a class-S session runs. -/
def State.linkResetSeen (s : State) : State :=
  let s := s.modLink false Link.lowered
  if s.classSOf (List.range 17) then s.detect 0x0011 0xFF 0xFF 0xFF (le 16 s.classSFn) else s

theorem State.linkAReset_eq (s : State) : s.linkAReset = (s.linkResetSeen.warmReset 0x0011).modLink false Link.lowered := rfl

/-- A detection leaves the part, the flash, the always-on domain, the management block and device time. -/
theorem State.detect_keeps (code stack cluster stream : Nat) (arg : List Byte) (s : State) :
    (s.detect code stack cluster stream arg).part = s.part ∧ (s.detect code stack cluster stream arg).flash = s.flash ∧
    (s.detect code stack cluster stream arg).aon = s.aon ∧ (s.detect code stack cluster stream arg).mgmt = s.mgmt ∧
    (s.detect code stack cluster stream arg).time = s.time := by
  have h := State.detect_onlyFault code stack cluster stream arg s
  have htime : (s.detect code stack cluster stream arg).time = s.time := by simp
  exact ⟨(congrArg State.part h :), (congrArg State.flash h :), (congrArg State.aon h :), (congrArg State.mgmt h :), htime⟩

/-- What precedes the reset of link A. -/
theorem State.linkResetSeen_leaves {s : State} (hroom : s.safety.latch.length < 32) :
    (∀ l ∈ s.safety.latch, ∃ m ∈ s.linkResetSeen.safety.latch, m.code = l.code) ∧
    (s.classSOf (List.range 17) = true → ∃ m ∈ s.linkResetSeen.safety.latch, m.code = 0x0011) ∧
    s.linkResetSeen.part = s.part ∧ s.linkResetSeen.flash = s.flash ∧ s.linkResetSeen.aon = s.aon ∧
    s.linkResetSeen.mgmt = s.mgmt ∧ s.linkResetSeen.time = s.time := by
  have hsame : (s.modLink false Link.lowered).classSOf (List.range 17) = s.classSOf (List.range 17) := rfl
  unfold State.linkResetSeen
  dsimp only
  rw [hsame]
  split
  · obtain ⟨rp, qn, hsafety, -⟩ := State.detect_safety 0x0011 0xFF 0xFF 0xFF (le 16 (s.modLink false Link.lowered).classSFn)
      (s.modLink false Link.lowered)
    obtain ⟨-, m, hm, hcode, -⟩ := State.detect_faultLatched (s := s.modLink false Link.lowered) hroom 0x0011 0xFF 0xFF 0xFF
      (le 16 (s.modLink false Link.lowered).classSFn)
    refine ⟨fun l hl => ?_, fun _ => ⟨m, hm, hcode⟩, State.detect_keeps ..⟩
    rw [hsafety]
    exact Safety.latchCode_keeps _ _ l hl
  · next hno => exact ⟨fun l hl => ⟨l, hl, rfl⟩, fun h => absurd h hno, rfl, rfl, rfl, rfl, rfl⟩

/-- The warm reset keeps the management block but for the debug unlock, and takes every ring. -/
theorem State.warmReset_mgmt (cause : Nat) (s : State) : (s.warmReset cause).mgmt = { s.mgmt with fieldDebug := false } ∧
    (s.warmReset cause).rings = [] := by
  unfold State.warmReset
  constructor <;> simp

/-- The reset of link A (R370, R372). -/
theorem State.linkAReset_leaves {s : State} (hroom : s.safety.latch.length < 32) :
    (∀ j < 16, (s.linkAReset.ses j).state = 0) ∧ s.linkAReset.streams = [] ∧ s.linkAReset.rings = [] ∧
    s.linkAReset.boot.cfwUp = false ∧ s.linkAReset.pcie.linkA.up = false ∧ s.linkAReset.pcie.linkA.downSeen = true ∧
    s.linkAReset.safety.resetUnderWay = true ∧ (∀ l ∈ s.safety.latch, ∃ m ∈ s.linkAReset.safety.latch, m.code = l.code) ∧
    (s.classSOf (List.range 17) = true → ∃ m ∈ s.linkAReset.safety.latch, m.code = 0x0011) ∧
    s.linkAReset.mgmt.perstAsserted = s.mgmt.perstAsserted ∧ s.linkAReset.part = s.part ∧ s.linkAReset.flash = s.flash ∧
    s.linkAReset.aon = s.aon ∧ s.linkAReset.time.now = s.time.now := by
  obtain ⟨hcodes, hnew, hpart, hflash, haon, hmgmt, htime⟩ := State.linkResetSeen_leaves hroom
  obtain ⟨hses, hstreams, hup, hpart', hflash', haon', hnow⟩ := s.linkResetSeen.warmReset_leaves 0x0011
  obtain ⟨hmgmt', hrings⟩ := s.linkResetSeen.warmReset_mgmt 0x0011
  have hsafety := State.warmReset_safety 0x0011 s.linkResetSeen
  have hlatch : (s.linkResetSeen.warmReset 0x0011).safety.latch = s.linkResetSeen.safety.latch := (congrArg Safety.latch hsafety :)
  have hreset := congrArg Safety.resetUnderWay hsafety
  have hperst : (s.linkResetSeen.warmReset 0x0011).mgmt.perstAsserted = s.mgmt.perstAsserted := by rw [hmgmt', hmgmt]
  rw [State.linkAReset_eq]
  rw [← hlatch] at hcodes hnew
  generalize s.linkResetSeen.warmReset 0x0011 = x at *
  exact ⟨hses, hstreams, hrings, hup, rfl, rfl, hreset, hcodes, hnew, hperst, hpart'.trans hpart, hflash'.trans hflash,
    haon'.trans haon, hnow.trans (congrArg TimeBase.now htime)⟩

theorem State.perstDeassert_leaves (gpio3 refclk : Bool) (s : State) : ∃ m, s.perstDeassert gpio3 refclk = { s with mgmt := m } ∧
    m.perstAsserted = false ∧ m.linkLatched = true ∧
    m.bifurcated = (if s.mgmt.linkLatched then s.mgmt.bifurcated else some gpio3) := by
  refine ⟨_, rfl, ?_⟩
  dsimp only
  cases hl : s.mgmt.linkLatched
  · simp only [Bool.false_eq_true, if_false]
    split <;> exact ⟨rfl, rfl, rfl⟩
  · simp only [if_true]
    split <;> exact ⟨rfl, rfl, rfl⟩

/-- Link A lowered, the loss of a class-S session's link detected. -/
def State.linkDownSeen (s : State) : State :=
  let x := s.modLink false Link.lowered
  if x.classSOf (s.fnsOn false) then x.detect 0x0012 0xFF 0xFF 0xFF (le 16 (flag false 0)) else x

theorem State.dlDown_up {s : State} (hup : s.pcie.linkA.up = true) : s.dlDown false =
    if s.linkDownSeen.time.source = 1 then s.linkDownSeen.sourceLost else s.linkDownSeen := by
  unfold State.dlDown
  dsimp only
  exact (if_pos hup).trans (if_congr (by simp [State.linkDownSeen]) rfl rfl)

theorem State.timingEvent_frame {s : State} {delay : Nat} (cause stack cluster : Nat)
    (h : s.frame.conf.exact = true ∧ s.gridRuns = true ∧ s.frame.phase ≠ .closed ∧ 0 < delay) :
    (s.timingEvent cause stack cluster delay).frame =
      { s.frame with timingSlip := true, slipTicks := satU 32 (s.frame.slipTicks + delay) } :=
  (congrArg State.frame (if_pos h)).trans rfl

theorem State.timingEvent_none {s : State} {delay : Nat} (cause stack cluster : Nat)
    (h : s.frame.conf.exact = false ∨ delay = 0) : s.timingEvent cause stack cluster delay = s := by
  refine if_neg ?_
  rintro ⟨hexact, -, -, hdelay⟩
  rcases h with h | h
  · simp [h] at hexact
  · omega

section
variable {s : State} (t : Nat)

theorem linkA_resets (hroom : s.safety.latch.length < 32) (i : Instr) (hi : i ∈ [Instr.pcieLinkReset false t, .perstNAssert t])
    (hrails : s.aon.railsUp = true) (hperst : s.mgmt.perstAsserted = false) :
    ∃ s', exec i s = .next s' ∧ (∀ j < 16, (s'.ses j).state = 0) ∧ s'.streams = [] ∧ s'.rings = [] ∧
      s'.boot.cfwUp = false ∧ s'.pcie.linkA.up = false ∧ s'.pcie.linkA.downSeen = true ∧
      s'.safety.resetUnderWay = true ∧ (∀ l ∈ s.safety.latch, ∃ m ∈ s'.safety.latch, m.code = l.code) ∧
      (s.classSOf (List.range 17) = true → ∃ m ∈ s'.safety.latch, m.code = 0x0011) ∧
      s'.mgmt.perstAsserted = (i == .perstNAssert t) ∧ s'.part = s.part ∧ s'.flash = s.flash ∧ s'.aon = s.aon ∧
      s'.time.now = max s.time.now t := by
  obtain ⟨hses, hstreams, hrings, hup, hlink, hseen, hreset, hcodes, hnew, hpin, hrest⟩ := State.linkAReset_leaves (s := s.at t) hroom
  simp only [List.mem_cons, List.not_mem_nil, or_false] at hi
  rcases hi with rfl | rfl
  · refine ⟨_, (exec_pcieLinkReset ..).trans (ranAt_pos rfl ..), ?_⟩
    have hlinkA : (s.at t).linkReset false = (s.at t).linkAReset := if_neg Bool.false_ne_true
    rw [hlinkA]
    generalize (s.at t).linkAReset = x at hses hstreams hrings hup hlink hseen hreset hcodes hnew hpin hrest ⊢
    have hne : (Instr.pcieLinkReset false t == .perstNAssert t) = false := beq_false_of_ne nofun
    exact ⟨hses, hstreams, hrings, hup, hlink, hseen, hreset, hcodes, hnew, hne ▸ hpin.trans hperst, hrest⟩
  · have hassert : (s.at t).perstAssert = (s.at t).linkAReset.modMgmt fun m => { m with perstAsserted := true } := by
      refine if_pos ?_
      rw [show (s.at t).aon.railsUp = true from hrails, show (s.at t).mgmt.perstAsserted = false from hperst]
      rfl
    refine ⟨_, (exec_perstNAssert ..).trans (ranAt_pos rfl ..), ?_⟩
    rw [hassert]
    generalize (s.at t).linkAReset = x at hses hstreams hrings hup hlink hseen hreset hcodes hnew hpin hrest ⊢
    exact ⟨hses, hstreams, hrings, hup, hlink, hseen, hreset, hcodes, hnew, (beq_self_eq_true _).symm, hrest⟩

theorem perstNAssert_unpowered (hrails : s.aon.railsUp = false) : ∃ s', exec (.perstNAssert t) s = .next s' ∧
    s'.mgmt = { s.mgmt with perstAsserted := true } ∧ { s' with time := s.time, mgmt := s.mgmt } = s := by
  have hassert : (s.at t).perstAssert = (s.at t).modMgmt fun m => { m with perstAsserted := true } := by
    refine if_neg ?_
    rw [show (s.at t).aon.railsUp = false from hrails]
    simp
  refine ⟨_, (exec_perstNAssert ..).trans (ranAt_pos rfl ..), ?_⟩
  rw [hassert]
  exact ⟨rfl, rfl⟩

theorem perstNDeassert_latches (gpio3 refclk : Bool) : ∃ s', exec (.perstNDeassert gpio3 refclk t) s = .next s' ∧
    s'.mgmt.perstAsserted = false ∧ s'.mgmt.linkLatched = true ∧
    s'.mgmt.bifurcated = (if s.mgmt.linkLatched then s.mgmt.bifurcated else some gpio3) ∧ { s' with time := s.time, mgmt := s.mgmt } = s := by
  refine ⟨_, (exec_perstNDeassert ..).trans (ranAt_pos rfl ..), ?_⟩
  obtain ⟨m, hm, hpin, hlatch, hbif⟩ := (s.at t).perstDeassert_leaves gpio3 refclk
  rw [hm]
  exact ⟨hpin, hlatch, hbif, rfl⟩

theorem Pcie.core_links {p q : Pcie} (h : p.core = q.core) : p.linkA = q.linkA ∧ p.linkB = q.linkB :=
  ⟨(congrArg Pcie.linkA h :), (congrArg Pcie.linkB h :)⟩

theorem dlDown_lowers (hroom : s.safety.latch.length < 32) (hup : s.pcie.linkA.up = true) (hsource : s.time.source ≠ 1) :
    ∃ s', exec (.dlDown false t) s = .next s' ∧
      s'.pcie.linkA = { up := false, downSeen := true, width := 0, speed := 0, flit := false } ∧
      s'.pcie.linkB = s.pcie.linkB ∧
      (s.classSOf (s.fnsOn false) = true → s'.faultLatched 0x0012 (max s.time.now t) ∧ s.onlyFault s') ∧
      (s.classSOf (s.fnsOn false) = false → { s' with time := s.time, pcie := s.pcie } = s) := by
  have hkeep : ((s.at t).linkDownSeen).time.source = s.time.source := by
    unfold State.linkDownSeen
    dsimp only
    split
    · obtain ⟨-, -, -, -, htime⟩ := State.detect_keeps 0x0012 0xFF 0xFF 0xFF (le 16 (flag false 0))
        ((s.at t).modLink false Link.lowered)
      exact (congrArg TimeBase.source htime).trans rfl
    · rfl
  have hdown : (s.at t).dlDown false = (s.at t).linkDownSeen :=
    (State.dlDown_up (s := s.at t) hup).trans (if_neg fun h => hsource (hkeep ▸ h))
  unfold State.linkDownSeen at hdown
  dsimp only at hdown
  rw [show ((s.at t).modLink false Link.lowered).classSOf ((s.at t).fnsOn false) = s.classSOf (s.fnsOn false) from rfl] at hdown
  have hlowered : ((s.at t).modLink false Link.lowered).pcie.linkA =
      { up := false, downSeen := true, width := 0, speed := 0, flit := false } := rfl
  cases hclass : s.classSOf (s.fnsOn false)
  · rw [hclass, if_neg (by decide)] at hdown
    refine ⟨_, (exec_dlDown ..).trans (ranAt_pos rfl ..), ?_⟩
    rw [hdown]
    exact ⟨rfl, rfl, nofun, fun _ => rfl⟩
  · rw [hclass, if_pos rfl] at hdown
    obtain ⟨hA, hB⟩ := Pcie.core_links (State.detect_pcieCore 0x0012 0xFF 0xFF 0xFF (le 16 (flag false 0))
      ((s.at t).modLink false Link.lowered))
    have hlatched := State.detect_faultLatched (s := (s.at t).modLink false Link.lowered) hroom 0x0012 0xFF 0xFF 0xFF
      (le 16 (flag false 0))
    have honly : s.onlyFault _ := State.onlyFault_trans (b := (s.at t).modLink false Link.lowered) rfl
      (State.detect_onlyFault 0x0012 0xFF 0xFF 0xFF (le 16 (flag false 0)) _)
    exact ⟨_, (exec_dlDown ..).trans (ranAt_detects rfl hdown rfl), hA.trans hlowered, hB, fun _ => ⟨hlatched, honly⟩, nofun⟩

/-- What the messages that were pending leave. -/
theorem State.foldl_msixFlush (l : List Nat) (s : State) : ∃ pc ho,
    l.foldl (fun (s : State) f => s.msixFlush f) s = { s with pcie := pc, host := ho } ∧ pc.core = s.pcie.core := by
  refine State.foldl_inv (fun x => ∃ pc ho, x = { s with pcie := pc, host := ho } ∧ pc.core = s.pcie.core) _ (fun x f hx => ?_) _ _
    ⟨_, _, rfl, rfl⟩
  obtain ⟨pc, ho, rfl, hcore⟩ := hx
  refine ⟨(State.msixFlush f { s with pcie := pc, host := ho }).pcie, (State.msixFlush f { s with pcie := pc, host := ho }).host,
    ?_, (State.msixFlush_pcieCore f _).trans hcore⟩
  apply State.ext_parts <;> simp

theorem dlUp_comes {w sp : Nat} {fl : Bool} (hrails : s.aon.railsUp = true) (hmode : s.boot.mode ≠ 3)
    (hperst : s.mgmt.perstAsserted = false) (hw : w = 4 ∨ w = 8 ∨ w = 16)
    (hmost : w ≤ (if s.mgmt.bifurcated = some true then 8 else 16)) (h1 : 1 ≤ sp) (h6 : sp ≤ 6) (hfl : sp = 6 → fl = true) :
    ∃ s', exec (.dlUp false w sp fl t) s = .next s' ∧
      s'.pcie.linkA = { s.pcie.linkA with up := true, width := w, speed := sp, flit := fl } ∧
      { s' with time := s.time, pcie := s.pcie, host := s.host } = s := by
  have hform : [4, 8, 16].contains w = true := by rcases hw with rfl | rfl | rfl <;> rfl
  have hlink : (s.at t).dlUp false w sp fl =
      let s := (s.at t).modLink false fun l => { l with up := true, width := w, speed := sp, flit := fl }
      (s.fnsOn false).foldl (fun s f => s.msixFlush f) s := by
    refine if_pos ⟨hrails, hmode, .inl rfl, .inr ?_, hform, hmost, h1, h6, hfl⟩
    change (!s.mgmt.perstAsserted) = true
    rw [hperst]
    rfl
  refine ⟨_, (exec_dlUp ..).trans (ranAt_pos rfl ..), ?_⟩
  rw [hlink]
  dsimp only
  obtain ⟨pc, ho, hflush, hcore⟩ := State.foldl_msixFlush
    (((s.at t).modLink false fun l => { l with up := true, width := w, speed := sp, flit := fl }).fnsOn false)
    ((s.at t).modLink false fun l => { l with up := true, width := w, speed := sp, flit := fl })
  rw [hflush]
  exact ⟨(Pcie.core_links hcore).1, rfl⟩

theorem dlUp_refuses {b : Bool} {w sp : Nat} {fl : Bool}
    (h : w ∉ [4, 8, 16] ∨ s.mgmt.bifurcated = some true ∧ w = 16 ∨ sp ∉ [1, 2, 3, 4, 5, 6] ∨ sp = 6 ∧ fl = false) :
    ∃ s', exec (.dlUp b w sp fl t) s = .next s' ∧ { s' with time := s.time } = s := by
  have hsame : (s.at t).dlUp b w sp fl = s.at t := by
    refine if_neg ?_
    rintro ⟨-, -, -, -, hform, hmost, h1, h6, hfl⟩
    rcases h with hw | ⟨hbif, rfl⟩ | hsp | ⟨rfl, hno⟩
    · exact hw (List.contains_iff_mem.mp hform)
    · rw [if_pos (show (s.at t).mgmt.bifurcated = some true from hbif)] at hmost
      exact absurd hmost (by decide)
    · exact hsp (by simp; omega)
    · exact absurd (hfl rfl) (by simp [hno])
  refine ⟨_, (exec_dlUp ..).trans (ranAt_pos rfl ..), ?_⟩
  rw [hsame]
  rfl

/-! ## Errors -/

theorem pcieReplay_counts {b : Bool} {delay : Nat} (hlen : s.hub.counters.length = 32) :
    ∃ s', exec (.pcieReplay b delay t) s = .next s' ∧ s'.pcie.aerCorrectable = s.pcie.aerCorrectable + 1 ∧
      s'.hub.counters.getD 5 0 = (s.hub.counters.getD 5 0 + 1) % 2 ^ 48 ∧
      (s.frame.conf.exact = true → s.gridRuns = true → s.frame.phase ≠ .closed → 0 < delay → s'.frame.timingSlip = true ∧
        s'.frame.slipTicks = min (s.frame.slipTicks + delay) (2 ^ 32 - 1)) ∧
      (s.frame.conf.exact = false ∨ delay = 0 → s'.frame = s.frame ∧ s'.det = s.det) ∧
      { s' with time := s.time, pcie := s.pcie, host := s.host, hub := s.hub, frame := s.frame, det := s.det } = s := by
  have hreplay : (s.at t).pcieReplay b delay =
      (((((s.at t).modPcie fun p => { p with aerCorrectable := p.aerCorrectable + 1 }).bumpHub 5).timingEvent 4 0xFF 0xFF
        delay).msixRaise (if b then 1 else 0) 34) := rfl
  obtain ⟨⟨y, m, l, hslip⟩, -⟩ := State.timingEvent_leaves 4 0xFF 0xFF delay
    (((s.at t).modPcie fun p => { p with aerCorrectable := p.aerCorrectable + 1 }).bumpHub 5)
  have hmark := State.timingEvent_frame (s := ((s.at t).modPcie fun p =>
    { p with aerCorrectable := p.aerCorrectable + 1 }).bumpHub 5) 4 0xFF 0xFF (delay := delay)
  have hkeep := State.timingEvent_none (s := ((s.at t).modPcie fun p =>
    { p with aerCorrectable := p.aerCorrectable + 1 }).bumpHub 5) (delay := delay) 4 0xFF 0xFF
  refine ⟨_, (exec_pcieReplay ..).trans (ranAt_pos rfl ..), ?_⟩
  rw [hreplay]
  generalize State.timingEvent 4 0xFF 0xFF delay _ = x at hslip hkeep hmark
  have haer := congrArg Pcie.aerCorrectable (State.msixRaise_pcieCore (if b then 1 else 0) 34 x)
  have hpcie : x.pcie.aerCorrectable = s.pcie.aerCorrectable + 1 := by rw [hslip]; rfl
  refine ⟨haer.trans hpcie, ?_, fun hexact hgrid hphase hdelay => ?_, fun hno => ?_, ?_⟩
  · rw [State.msixRaise_hub, hslip]
    exact State.bumpAt_getD (show 5 < s.hub.counters.length by omega)
  · rw [State.msixRaise_frame, hmark ⟨hexact, hgrid, hphase, hdelay⟩]
    exact ⟨rfl, rfl⟩
  · rw [State.msixRaise_frame, State.msixRaise_det, hkeep hno]
    exact ⟨rfl, rfl⟩
  · rw [hslip]
    apply State.ext_parts <;> simp

theorem poisonedInboundWrite_counts {fn : Nat} (hfns : s.pcie.fns.length = 17) (hfn : fn < 17) :
    ∃ s', exec (.poisonedInboundWrite fn t) s = .next s' ∧ s'.pcie.aerNonFatal = s.pcie.aerNonFatal + 1 ∧
      (s'.fnS fn).discard = min ((s.fnS fn).discard + 1) 65535 ∧
      { s' with time := s.time, pcie := s.pcie, host := s.host } = s := by
  have haer := congrArg Pcie.aerNonFatal (State.msixRaise_pcieCore fn 34
    (((s.at t).discard fn).modPcie fun p => { p with aerNonFatal := p.aerNonFatal + 1 }))
  have hdiscard := congrArg FnState.discard (State.fnS_core (State.msixRaise_pcieCore fn 34
    (((s.at t).discard fn).modPcie fun p => { p with aerNonFatal := p.aerNonFatal + 1 })) fn)
  refine ⟨_, (exec_poisonedInboundWrite ..).trans (ranAt_pos (by simpa [fnOk, below] using hfn) ..), haer, hdiscard.trans ?_, ?_⟩
  · have hget := State.fnS_modFn (s.at t) fn (fun f => { f with discard := satU 16 (f.discard + 1) })
      (hfns.symm ▸ hfn : fn < s.pcie.fns.length) fn
    rw [if_pos rfl] at hget
    exact congrArg FnState.discard hget
  · apply State.ext_parts <;> simp [State.poisonedWrite]

end

/-- Settles O46, an event at a time. -/
theorem linkResetsAndErrors : Obligations.LinkResetsAndErrors := by
  unfold Obligations.LinkResetsAndErrors
  exact ⟨fun s t hroom _ => ⟨linkA_resets t hroom, perstNAssert_unpowered t, perstNDeassert_latches t, dlDown_lowers t hroom,
    fun _ _ _ => dlUp_comes t, fun _ _ _ _ => dlUp_refuses t⟩,
    fun s b delay fn t hfns hlen => ⟨pcieReplay_counts t hlen, poisonedInboundWrite_counts t hfns⟩⟩

end Sys2Proof.Machine
end

section
/-!
SUPPORT. Resets of functions (R359, R370, R371, R373), and the obligation on them.
-/
namespace Sys2Proof.Machine

/-! ## Closing the sessions of a function -/

/-- What `dropWaiting` does to a command. -/
def Cmd.leave (ses : Nat) (c : Cmd) : Cmd :=
  if c.session = ses ∧ c.response = none ∧
      (c.stage = .held ∨ (c.stage = .waiting ∧ c.opcode = 0x0205) ∨ (c.stage ≠ .done ∧ c.opcode ≥ 0x0504 ∧ c.opcode ≤ 0x0507))
  then { c with stage := .done, response := some { status := 0x0201 } } else c

theorem Cmd.leave_keeps (ses : Nat) (c : Cmd) : (c.leave ses).fn = c.fn ∧ (c.leave ses).silentDrop = c.silentDrop := by
  unfold Cmd.leave
  split <;> exact ⟨rfl, rfl⟩

theorem State.closeSession_mbx (i ca : Nat) (s : State) :
    (s.closeSession i ca).mbx = { s.mbx with cmds := s.mbx.cmds.map (Cmd.leave i) } := by
  have hdrop (x : State) (f : Stream → Bool) : (x.dropStreams f).mbx = x.mbx := by
    unfold State.dropStreams
    split <;> rfl
  have hwait (x : State) : (x.dropWaiting i).mbx = { x.mbx with cmds := x.mbx.cmds.map (Cmd.leave i) } := rfl
  simp only [State.closeSession, State.modSes, State.modSessions_mbx, State.modRings_mbx, hdrop, hwait, State.sesTo_mbx]

theorem State.closeSession_length (i ca : Nat) (s : State) : (s.closeSession i ca).sessions.length = s.sessions.length := by
  have hdrop (x : State) (f : Stream → Bool) : (x.dropStreams f).sessions = x.sessions := by
    unfold State.dropStreams
    split <;> rfl
  have hwait (x : State) : (x.dropWaiting i).sessions = x.sessions := rfl
  simp only [State.closeSession, State.modSes, State.modSessions_sessions, List.length_modify, State.modRings_sessions, hdrop, hwait]
  exact State.sesTo_length i 0 ca s

/-- What the closing of sessions keeps of the rest: rings only leave, commands only change as they leave. -/
structure State.Closes (s x : State) : Prop where
  rings : ∀ r ∈ x.rings, r ∈ s.rings
  own : x.mbx.own = s.mbx.own
  cmds : ∀ c ∈ x.mbx.cmds, ∃ d ∈ s.mbx.cmds, c.fn = d.fn ∧ c.silentDrop = d.silentDrop
  pcie : x.pcie.core = s.pcie.core

theorem State.Closes.refl (s : State) : s.Closes s := ⟨fun _ h => h, rfl, fun c h => ⟨c, h, rfl, rfl⟩, rfl⟩

theorem State.Closes.trans {a b c : State} (h : a.Closes b) (h' : b.Closes c) : a.Closes c := by
  refine ⟨fun r hr => h.rings r (h'.rings r hr), h'.own.trans h.own, fun x hx => ?_, h'.pcie.trans h.pcie⟩
  obtain ⟨y, hy, hfn, hdrop⟩ := h'.cmds x hx
  obtain ⟨z, hz, hfn', hdrop'⟩ := h.cmds y hy
  exact ⟨z, hz, hfn.trans hfn', hdrop.trans hdrop'⟩

theorem State.closeSession_closes (i ca : Nat) (s : State) : s.Closes (s.closeSession i ca) := by
  have hmbx := State.closeSession_mbx i ca s
  refine ⟨fun r hr => ?_, (congrArg Mailbox.own hmbx :), fun c hc => ?_, ?_⟩
  · rw [State.closeSession_rings] at hr
    exact (List.mem_filter.mp hr).1
  · rw [hmbx] at hc
    obtain ⟨d, hd, rfl⟩ := List.mem_map.mp hc
    exact ⟨d, hd, d.leave_keeps i⟩
  · have hdrop (x : State) (f : Stream → Bool) : (x.dropStreams f).pcie = x.pcie := by
      unfold State.dropStreams
      split <;> rfl
    have hwait (x : State) : (x.dropWaiting i).pcie = x.pcie := rfl
    simp only [State.closeSession, State.modSes, State.modSessions_pcie, State.modRings_pcie, hdrop, hwait, State.sesTo_pcieCore]

/-- One turn of the closing: session `i`, where `of` picks it. -/
theorem State.closeIf_length (of : Session → Bool) (i ca : Nat) {x : State} (hx : x.sessions.length = 16) :
    (if (x.ses i).state != 0 && of (x.ses i) then x.closeSession i ca else x).sessions.length = 16 := by
  split
  · exact (State.closeSession_length ..).trans hx
  · exact hx

theorem State.closeIf_closes (of : Session → Bool) (i ca : Nat) (x : State) :
    x.Closes (if (x.ses i).state != 0 && of (x.ses i) then x.closeSession i ca else x) := by
  split
  · exact State.closeSession_closes ..
  · exact .refl x

theorem State.closeIf_ses {of : Session → Bool} (hof : ∀ x y : Session, x.classS = y.classS → x.fn = y.fn → of x = of y) (ca : Nat)
    {x : State} (hx : x.sessions.length = 16) {i j : Nat} (hj : j < 16) :
    let y := if (x.ses i).state != 0 && of (x.ses i) then x.closeSession i ca else x
    (y.ses j).fn = (x.ses j).fn ∧ ((x.ses j).state = 0 → (y.ses j).state = 0) ∧
      (j = i → of (x.ses j) = true → (y.ses j).state = 0) ∧ of (y.ses j) = of (x.ses j) ∧
      (of (x.ses j) = false → (y.ses j).core = (x.ses j).core) := by
  by_cases hclose : ((x.ses i).state != 0 && of (x.ses i)) = true
  · dsimp only
    rw [if_pos hclose]
    have hcore := State.closeSession_core i ca x j
    by_cases hji : j = i
    · subst hji
      rw [if_pos ⟨rfl, by omega⟩] at hcore
      obtain ⟨hstate, hclass, hfn, -⟩ := Session.core_fields hcore
      refine ⟨hfn, fun _ => hstate, fun _ _ => hstate, hof _ _ hclass hfn, fun h => ?_⟩
      rw [h, Bool.and_false] at hclose
      exact absurd hclose (by decide)
    · rw [if_neg (fun h => hji h.1)] at hcore
      obtain ⟨hstate, hclass, hfn, -⟩ := Session.core_fields hcore
      exact ⟨hfn, fun h => hstate.trans h, fun h => absurd h hji, hof _ _ hclass hfn, fun _ => hcore⟩
  · dsimp only
    rw [if_neg hclose]
    refine ⟨rfl, fun h => h, fun h hpick => ?_, rfl, fun _ => rfl⟩
    subst h
    rw [hpick, Bool.and_true] at hclose
    simpa using hclose

/-- Session `j` behind the closing of the sessions that `of` picks. -/
theorem State.closeSessions_ses {of : Session → Bool} (hof : ∀ x y : Session, x.classS = y.classS → x.fn = y.fn → of x = of y) (ca : Nat)
    {s : State}
    (hlen : s.sessions.length = 16) : (s.closeSessions of ca).sessions.length = 16 ∧ s.Closes (s.closeSessions of ca) ∧
    ∀ j < 16, ((s.closeSessions of ca).ses j).fn = (s.ses j).fn ∧
      (of (s.ses j) = true → ((s.closeSessions of ca).ses j).state = 0) ∧
      (of (s.ses j) = false → ((s.closeSessions of ca).ses j).core = (s.ses j).core) := by
  have hfold (l : List Nat) (x : State) (hx : x.sessions.length = 16) :
      let y := l.foldl (fun (s : State) i => if (s.ses i).state != 0 && of (s.ses i) then s.closeSession i ca else s) x
      y.sessions.length = 16 ∧ x.Closes y ∧ ∀ j < 16, (y.ses j).fn = (x.ses j).fn ∧
        ((x.ses j).state = 0 → (y.ses j).state = 0) ∧ (j ∈ l → of (x.ses j) = true → (y.ses j).state = 0) ∧
        (of (x.ses j) = false → (y.ses j).core = (x.ses j).core) := by
    induction l generalizing x with
    | nil => exact ⟨hx, .refl x, fun j _ => ⟨rfl, fun h => h, nofun, fun _ => rfl⟩⟩
    | cons i l ih =>
      obtain ⟨hlen', hcloses, hses⟩ := ih _ (State.closeIf_length of i ca hx)
      refine ⟨hlen', (State.closeIf_closes of i ca x).trans hcloses, fun j hj => ?_⟩
      obtain ⟨hfn, hzero, hin, hout⟩ := hses j hj
      obtain ⟨hfn₁, hzero₁, hin₁, hsame₁, hout₁⟩ := State.closeIf_ses hof ca hx (j := j) (i := i) hj
      refine ⟨hfn.trans hfn₁, fun h => hzero (hzero₁ h), fun hmem hj' => ?_, fun h => (hout (hsame₁.trans h)).trans (hout₁ h)⟩
      rcases List.mem_cons.mp hmem with rfl | hmem
      · exact hzero (hin₁ rfl hj')
      · exact hin hmem (hsame₁.trans hj')
  obtain ⟨hlen', hcloses, hses⟩ := hfold (List.range 16) s hlen
  refine ⟨hlen', hcloses, fun j hj => ?_⟩
  obtain ⟨hfn, -, hclosed, hkept⟩ := hses j hj
  exact ⟨hfn, hclosed (List.mem_range.mpr hj), hkept⟩

/-! ## One function reset -/

/-- What the reset of functions leaves of the rest of the device. -/
structure State.Spares (s x : State) : Prop where
  part : x.part = s.part
  flash : x.flash = s.flash
  unkeyed : x.images.unkeyed = s.images.unkeyed
  frame : x.frame = s.frame
  safety : x.safety = s.safety
  fabric : { x.fabric with msgs := s.fabric.msgs, answers := s.fabric.answers } = s.fabric

theorem State.Spares.trans {a b c : State} (h : a.Spares b) (h' : b.Spares c) : a.Spares c :=
  ⟨h'.part.trans h.part, h'.flash.trans h.flash, h'.unkeyed.trans h.unkeyed, h'.frame.trans h.frame, h'.safety.trans h.safety,
    (congrArg (fun x : Fabric => { x with msgs := a.fabric.msgs, answers := a.fabric.answers }) h'.fabric).trans h.fabric⟩

theorem State.silence_spares (fn : Nat) (s : State) : s.Spares (s.silence fn) := by
  refine ⟨rfl, rfl, ?_, rfl, rfl, rfl⟩
  simp [State.silence, Images.unkeyed, Function.comp_def]

/-- What a function reset does behind the closing of the function's sessions. -/
def State.dropFn (fn : Nat) (w : Worlds → Worlds) (p : Cmd → Bool) (e : Errors → Errors) (n : FnState → Nat) (y : State) : State :=
  ((((((y.modWorlds w).modMbx fun m => { m with own := m.own.filter fun o => o.1 != fn, cmds := m.cmds.filter p }).silence fn).modRings
    fun l => l.filter fun r => r.fn != fn).modErrors e).modFn fn fun f => { f with flrBusy := true, discard := n f })

theorem State.flr_eq (fn ca : Nat) (s : State) :
    ∃ w p e n, s.flr fn ca = (s.closeSessions (fun x => x.fn == fn) ca).dropFn fn w p e n := by
  have hite (g : Errors → Errors) (x : State) :
      (if fn = 0 then x.modErrors g else x) = x.modErrors (if fn = 0 then g else id) := by
    split <;> rfl
  unfold State.flr
  dsimp only
  rw [hite]
  exact ⟨_, _, _, _, rfl⟩

section
variable (fn : Nat) (w : Worlds → Worlds) (p : Cmd → Bool) (e : Errors → Errors) (n : FnState → Nat) (y : State)

theorem State.dropFn_sessions : (y.dropFn fn w p e n).sessions = y.sessions := by simp [State.dropFn, State.silence]

theorem State.dropFn_rings : (y.dropFn fn w p e n).rings = y.rings.filter fun r => r.fn != fn := by
  simp [State.dropFn, State.silence]

theorem State.dropFn_own : (y.dropFn fn w p e n).mbx.own = y.mbx.own.filter fun o => o.1 != fn := by
  simp [State.dropFn, State.silence]

theorem State.dropFn_pcie : (y.dropFn fn w p e n).pcie = (y.modFn fn fun f => { f with flrBusy := true, discard := n f }).pcie := by
  simp [State.dropFn, State.silence]

theorem State.silence_cmds (s : State) : ∀ c ∈ (s.silence fn).mbx.cmds, ∃ d ∈ s.mbx.cmds, c.fn = d.fn ∧
    (c.fn = fn → c.silentDrop = true) ∧ (d.silentDrop = true → c.silentDrop = true) := by
  intro c hc
  obtain ⟨d, hd, rfl⟩ := List.mem_map.mp hc
  refine ⟨d, hd, ?_⟩
  split
  · exact ⟨rfl, fun _ => rfl, fun _ => rfl⟩
  · next hne => exact ⟨rfl, fun h => absurd h hne, fun h => h⟩

theorem State.dropFn_cmds : ∀ c ∈ (y.dropFn fn w p e n).mbx.cmds, ∃ d ∈ y.mbx.cmds, c.fn = d.fn ∧
    (c.fn = fn → c.silentDrop = true) ∧ (d.silentDrop = true → c.silentDrop = true) := by
  intro c hc
  have hmbx : (y.dropFn fn w p e n).mbx = (((y.modWorlds w).modMbx fun m =>
      { m with own := m.own.filter fun o => o.1 != fn, cmds := m.cmds.filter p }).silence fn).mbx := by simp [State.dropFn]
  rw [hmbx] at hc
  obtain ⟨d, hd, h⟩ := State.silence_cmds fn _ c hc
  exact ⟨d, (List.mem_filter.mp hd).1, h⟩

theorem State.dropFn_spares : y.Spares (y.dropFn fn w p e n) := by
  have hone : y.Spares ((y.modWorlds w).modMbx fun m => { m with own := m.own.filter fun o => o.1 != fn, cmds := m.cmds.filter p }) :=
    ⟨rfl, rfl, rfl, rfl, rfl, rfl⟩
  unfold State.dropFn
  generalize (y.modWorlds w).modMbx _ = x at hone
  have htwo := hone.trans (State.silence_spares fn x)
  generalize x.silence fn = x at htwo
  exact htwo.trans ⟨rfl, rfl, rfl, rfl, rfl, rfl⟩

end

theorem State.flr_spares (fn ca : Nat) (s : State) : s.Spares (s.flr fn ca) := by
  have hclosed : s.Spares (s.closeSessions (fun x => x.fn == fn) ca) :=
    ⟨by simp, by simp, by simp, by simp, by simp, by simp⟩
  obtain ⟨w, p, e, n, h⟩ := s.flr_eq fn ca
  rw [h]
  exact hclosed.trans (State.dropFn_spares ..)

/-- The functions of `l` are reset in `x`: their sessions closed, the others' left; their rings and slots gone. -/
structure State.FnsReset (l : List Nat) (s x : State) : Prop where
  sessions : x.sessions.length = 16
  fns : x.pcie.fns.length = 17
  sesFn : ∀ j < 16, (x.ses j).fn = (s.ses j).fn
  closed : ∀ j < 16, (s.ses j).fn ∈ l → (x.ses j).state = 0
  kept : ∀ j < 16, (s.ses j).fn ∉ l → (x.ses j).core = (s.ses j).core
  rings : ∀ r ∈ x.rings, r.fn ∉ l
  own : ∀ o ∈ x.mbx.own, o.1 ∉ l
  cmds : ∀ c ∈ x.mbx.cmds, c.fn ∈ l → c.silentDrop = true
  busy : ∀ g ∈ l, g < 17 → (x.fnS g).flrBusy = true

theorem State.FnsReset.nil {s : State} (hlen : s.sessions.length = 16) (hfns : s.pcie.fns.length = 17) : s.FnsReset [] s :=
  ⟨hlen, hfns, fun _ _ => rfl, nofun, fun _ _ _ => rfl, nofun, nofun, nofun, nofun⟩

/-- One function more is reset. -/
theorem State.FnsReset.flr {l : List Nat} {s x : State} (h : s.FnsReset l x) (f ca : Nat) : s.FnsReset (f :: l) (x.flr f ca) := by
  obtain ⟨hlen, hcloses, hses⟩ := State.closeSessions_ses (of := fun x => x.fn == f) (fun x y _ hfn => by rw [hfn]) ca h.sessions
  obtain ⟨w, p, e, n, heq⟩ := x.flr_eq f ca
  rw [heq]
  generalize x.closeSessions (fun x => x.fn == f) ca = y at hlen hcloses hses
  have hfns : y.pcie.fns.length = 17 := (List.length_map FnState.core).symm.trans
    ((congrArg (fun p : Pcie => p.fns.length) hcloses.pcie).trans ((List.length_map FnState.core).trans h.fns))
  have hzero (j : Nat) (hj : j < 16) (hx : (x.ses j).state = 0) : (y.ses j).state = 0 := by
    cases hof : (x.ses j).fn == f
    · exact (Session.core_fields ((hses j hj).2.2 hof)).1.trans hx
    · exact (hses j hj).2.1 hof
  have hdrop := y.dropFn_sessions f w p e n
  constructor
  case sessions => exact (congrArg List.length hdrop).trans hlen
  case fns => rw [State.dropFn_pcie]; exact (List.length_modify ..).trans hfns
  case sesFn =>
    intro j hj
    rw [State.ses_congr hdrop]
    exact (hses j hj).1.trans (h.sesFn j hj)
  case closed =>
    intro j hj hin
    rw [State.ses_congr hdrop]
    rcases List.mem_cons.mp hin with hfn | hin
    · exact (hses j hj).2.1 (beq_iff_eq.mpr ((h.sesFn j hj).trans hfn))
    · exact hzero j hj (h.closed j hj hin)
  case kept =>
    intro j hj hout
    rw [State.ses_congr hdrop]
    obtain ⟨hne, hout⟩ := not_or.mp (mt List.mem_cons.mpr hout)
    exact ((hses j hj).2.2 (beq_eq_false_iff_ne.mpr ((h.sesFn j hj).symm ▸ hne))).trans (h.kept j hj hout)
  case rings =>
    intro r hr
    rw [State.dropFn_rings] at hr
    obtain ⟨hr, hne⟩ := List.mem_filter.mp hr
    exact mt List.mem_cons.mp (not_or.mpr ⟨bne_iff_ne.mp hne, h.rings r (hcloses.rings r hr)⟩)
  case own =>
    intro o ho
    rw [State.dropFn_own] at ho
    obtain ⟨ho, hne⟩ := List.mem_filter.mp ho
    exact mt List.mem_cons.mp (not_or.mpr ⟨bne_iff_ne.mp hne, h.own o (hcloses.own ▸ ho)⟩)
  case cmds =>
    intro c hc hin
    obtain ⟨d, hd, hfn, hthis, hkeep⟩ := State.dropFn_cmds f w p e n y c hc
    obtain ⟨d', hd', hfn', hdrop'⟩ := hcloses.cmds d hd
    rcases List.mem_cons.mp hin with hf | hin
    · exact hthis hf
    · exact hkeep (hdrop'.trans (h.cmds d' hd' (hfn' ▸ hfn ▸ hin)))
  case busy =>
    intro g hg hlt
    rw [State.fnS, State.dropFn_pcie]
    show ((y.modFn f fun z => { z with flrBusy := true, discard := n z }).fnS g).flrBusy = true
    by_cases hgf : g = f
    · subst hgf
      rw [State.fnS_modFn _ _ _ (hfns.symm ▸ hlt), if_pos rfl]
    · have hbusy : (y.fnS g).flrBusy = true :=
        (congrArg FnState.flrBusy (State.fnS_core hcloses.pcie g) :).trans
          (h.busy g ((List.mem_cons.mp hg).resolve_left hgf) hlt)
      have hsame : (y.modFn f fun z => { z with flrBusy := true, discard := n z }).fnS g = y.fnS g := by
        simp [State.fnS, State.modFn, State.modPcie, Ne.symm hgf]
      rw [hsame, hbusy]

theorem State.foldl_flr (ca : Nat) {s : State} (fns l : List Nat) {x : State} (h : s.FnsReset l x) :
    s.FnsReset (fns.reverse ++ l) (fns.foldl (fun x f => x.flr f ca) x) := by
  induction fns generalizing l x with
  | nil => exact h
  | cons f fns ih =>
    rw [List.foldl_cons, List.reverse_cons, List.append_assoc]
    exact ih (f :: l) (h.flr f ca)
theorem State.foldl_flr_spares (ca : Nat) (fns : List Nat) (s : State) : s.Spares (fns.foldl (fun x f => x.flr f ca) s) :=
  State.foldl_inv s.Spares _ (fun x f hx => hx.trans (x.flr_spares f ca)) fns s ⟨rfl, rfl, rfl, rfl, rfl, rfl⟩

/-! ## Function-level resets -/

theorem State.classSOf_single {s : State} {fns : List Nat} (h : s.classSOf fns = false) {f : Nat} (hf : f ∈ fns) :
    s.classSOf [f] = false := by
  refine List.any_eq_false.mpr fun x hx hsingle => List.any_eq_false.mp h x hx ?_
  simp only [Bool.and_eq_true, List.contains_eq_mem, List.mem_singleton, decide_eq_true_eq] at hsingle ⊢
  obtain ⟨hlive, rfl⟩ := hsingle
  exact ⟨hlive, hf⟩

/-- The detections of a reset of functions: one for each that owns a live class-S session (R399). -/
def State.resetFaults (s : State) (fns : List Nat) : List Detection :=
  (fns.filter fun f => s.classSOf [f]).map fun f => { code := 0x0013, arg := le 16 f }

theorem State.flrAll_eq (fns : List Nat) (ca : Nat) (s : State) :
    s.flrAll fns ca = fns.foldl (fun x f => x.flr f ca) (s.detectAll (s.resetFaults fns)) := rfl

theorem State.flrAll_classN {s : State} {fns : List Nat} (h : s.classSOf fns = false) (ca : Nat) :
    s.flrAll fns ca = fns.foldl (fun x f => x.flr f ca) s := by
  have hnone : s.resetFaults fns = [] := by
    unfold State.resetFaults
    rw [List.filter_eq_nil_iff.mpr (fun f hf => by rw [State.classSOf_single h hf]; decide)]
    rfl
  rw [State.flrAll_eq, hnone]
  rfl

/-- Reports of one moment keep what is latched with that time. -/
theorem State.foldl_faultReport_keeps (l : List Detection) {s : State} {c : Nat} (h : s.faultLatched c s.time.now) :
    (l.foldl (fun (x : State) d => x.faultReport d.code d.stack d.cluster d.stream d.arg) s).faultLatched c s.time.now := by
  have hstep (x : State) (d : Detection) (hx : x.time = s.time ∧ x.faultLatched c s.time.now) :
      (x.faultReport d.code d.stack d.cluster d.stream d.arg).time = s.time ∧
        (x.faultReport d.code d.stack d.cluster d.stream d.arg).faultLatched c s.time.now := by
    obtain ⟨htime, -, hmem⟩ := hx
    refine ⟨(State.faultReport_time ..).trans htime, ?_⟩
    rw [State.faultLatched, State.pinsLatched, State.faultReport_safety]
    exact ⟨⟨rfl, rfl, rfl⟩, Safety.Holds.latchCode hmem (show x.time.now = s.time.now by rw [htime])⟩
  obtain ⟨-, h'⟩ := State.foldl_inv (fun x => x.time = s.time ∧ x.faultLatched c s.time.now)
    (fun (x : State) (d : Detection) => x.faultReport d.code d.stack d.cluster d.stream d.arg) hstep l s ⟨rfl, h⟩
  exact h'

theorem State.detectAll_eq (l : List Detection) (s : State) : s.detectAll l = l.foldl (fun x (e : Detection) => x.faultReact e.code)
    (l.foldl (fun (x : State) d => x.faultReport d.code d.stack d.cluster d.stream d.arg) s) := rfl

theorem State.detectAll_cons_faultLatched {s : State} (hroom : s.safety.latch.length < 32) (d : Detection) (l : List Detection) :
    (s.detectAll (d :: l)).faultLatched d.code s.time.now := by
  have hfirst := State.faultReport_faultLatched hroom d.code d.stack d.cluster d.stream d.arg
  have htime := State.faultReport_time d.code d.stack d.cluster d.stream d.arg s
  have hcons (g : State → Detection → State) : (d :: l).foldl g s = l.foldl g (g s d) := rfl
  rw [State.detectAll_eq, hcons]
  generalize s.faultReport d.code d.stack d.cluster d.stream d.arg = y at hfirst htime
  rw [← htime] at hfirst ⊢
  have hkept := State.foldl_faultReport_keeps l hfirst
  generalize l.foldl (fun (x : State) d => x.faultReport d.code d.stack d.cluster d.stream d.arg) y = z at hkept
  exact State.foldl_inv (fun x => x.faultLatched d.code y.time.now) (fun x (e : Detection) => x.faultReact e.code)
    (fun x e hx => State.faultReact_faultLatched hx e.code) (d :: l) z hkept

section
variable {s : State} {fn t : Nat}

theorem flrScope_lt (hfn : fn < 17) {g : Nat} (hg : g ∈ flrScope fn) : g < 17 := by
  unfold flrScope at hg
  split at hg
  · obtain ⟨k, hk, rfl⟩ := List.mem_map.mp hg
    have := List.mem_range.mp hk
    omega
  · rw [List.mem_singleton.mp hg]
    exact hfn

/-- An FLR of functions with no live class-S session (R359, R371, R373). -/
theorem flr_resets (hfn : fn < 17) (hlen : s.sessions.length = 16) (hfns : s.pcie.fns.length = 17)
    (hclass : s.classSOf (flrScope fn) = false) :
    ∃ s', exec (.flr fn t) s = .next s' ∧ (∀ j < 16, (s.ses j).fn ∈ flrScope fn → (s'.ses j).state = 0) ∧
      (∀ j < 16, (s.ses j).fn ∉ flrScope fn → { s'.ses j with counters := [] } = { s.ses j with counters := [] }) ∧
      (∀ r ∈ s'.rings, r.fn ∉ flrScope fn) ∧ (∀ o ∈ s'.mbx.own, o.1 ∉ flrScope fn) ∧
      (∀ c ∈ s'.mbx.cmds, c.fn ∈ flrScope fn → c.silentDrop = true) ∧ (∀ g ∈ flrScope fn, (s'.fnS g).flrBusy = true) ∧
      s'.part = s.part ∧ s'.flash = s.flash ∧ s'.images.unkeyed = s.images.unkeyed ∧ s'.frame = s.frame ∧
      s'.safety = s.safety ∧ { s'.fabric with msgs := s.fabric.msgs, answers := s.fabric.answers } = s.fabric := by
  have hreset := State.foldl_flr 0x0013 (flrScope fn) [] (State.FnsReset.nil (s := s.at t) hlen hfns)
  have hspares := State.foldl_flr_spares 0x0013 (flrScope fn) (s.at t)
  have heq := State.flrAll_classN (s := s.at t) hclass 0x0013
  refine ⟨_, (exec_flr fn t s).trans (ranAt_pos (by simpa [fnOk, below] using hfn) ..), ?_⟩
  dsimp only
  rw [heq]
  generalize (flrScope fn).foldl (fun (x : State) f => x.flr f 0x0013) (s.at t) = x at hreset hspares
  rw [List.append_nil] at hreset
  have hmem (g : Nat) : g ∈ (flrScope fn).reverse ↔ g ∈ flrScope fn := List.mem_reverse
  exact ⟨fun j hj hin => hreset.closed j hj ((hmem _).mpr hin), fun j hj hout => hreset.kept j hj (mt (hmem _).mp hout),
    fun r hr => mt (hmem _).mpr (hreset.rings r hr), fun o ho => mt (hmem _).mpr (hreset.own o ho),
    fun c hc hin => hreset.cmds c hc ((hmem _).mpr hin), fun g hg => hreset.busy g ((hmem _).mpr hg) (flrScope_lt hfn hg),
    hspares.part, hspares.flash, hspares.unkeyed, hspares.frame, hspares.safety, hspares.fabric⟩

/-- An FLR that takes a live class-S session away is latched (R399). -/
theorem flr_latches (hfn : fn < 17) (hclass : s.classSOf (flrScope fn) = true) (hroom : s.safety.latch.length < 32) :
    ∃ s', exec (.flr fn t) s = .next s' ∧ s'.faultLatched 0x0013 (max s.time.now t) := by
  have hsome : (s.at t).resetFaults (flrScope fn) ≠ [] := by
    obtain ⟨x, hx, hin⟩ := List.any_eq_true.mp hclass
    simp only [Bool.and_eq_true, List.contains_eq_mem, decide_eq_true_eq] at hin
    obtain ⟨hlive, hin⟩ := hin
    refine List.ne_nil_of_mem (List.mem_map_of_mem (List.mem_filter.mpr ⟨hin, List.any_eq_true.mpr ⟨x, hx, ?_⟩⟩))
    simpa [Bool.and_eq_true] using hlive
  obtain ⟨d, l, hl⟩ := List.exists_cons_of_ne_nil hsome
  have hcode : d.code = 0x0013 := by
    have hd : d ∈ (s.at t).resetFaults (flrScope fn) := hl ▸ List.mem_cons_self ..
    obtain ⟨f, -, rfl⟩ := List.mem_map.mp hd
    rfl
  have hlatched := State.detectAll_cons_faultLatched (s := s.at t) hroom d l
  have hspares := State.foldl_flr_spares 0x0013 (flrScope fn) ((s.at t).detectAll (d :: l))
  refine ⟨_, (exec_flr fn t s).trans (ranAt_pos (by simpa [fnOk, below] using hfn) ..), ?_⟩
  dsimp only
  rw [State.flrAll_eq, hl]
  rw [hcode] at hlatched
  generalize (flrScope fn).foldl (fun (x : State) f => x.flr f 0x0013) ((s.at t).detectAll (d :: l)) = x at hspares
  show x.faultLatched 0x0013 (s.at t).time.now
  rw [State.faultLatched, State.pinsLatched, hspares.safety]
  exact hlatched

/-- The slots of `fn` in its window. -/
theorem Mem.read_filter (p : Nat → Bool) (a : Nat) (m : Mem) :
    Mem.read a (m.filter fun c => p c.1) = if p a then Mem.read a m else 0 := by
  induction m with
  | nil => simp [Mem.read]
  | cons c m ih =>
    rw [List.filter_cons]
    by_cases hac : a = c.1
    · subst hac
      by_cases hp : p c.1 = true
      · simp [hp, Mem.read]
      · rw [if_neg hp, ih, if_neg hp, if_neg hp]
    · split <;> simp [Mem.read, hac, ih]

/-- The completion of an FLR under way (R373): the slots zero, the registers at reset. -/
theorem flrComplete_completes (hfn : fn < 17) (hfns : s.pcie.fns.length = 17) (hbusy : (s.fnS fn).flrBusy = true) :
    ∃ s', exec (.flrComplete fn t) s = .next s' ∧ s'.fnS fn = {} ∧
      (∀ a, slotAddr fn 0 0 ≤ a → a < slotAddr fn 32 0 → Mem.read a s'.mbx.bytes = 0) ∧
      (∀ a, a < slotAddr fn 0 0 ∨ slotAddr fn 32 0 ≤ a → Mem.read a s'.mbx.bytes = Mem.read a s.mbx.bytes) ∧
      (∀ g, g ≠ fn → s'.fnS g = s.fnS g) ∧
      { s' with time := s.time, pcie := { s'.pcie with fns := s.pcie.fns },
                mbx := { s'.mbx with bytes := s.mbx.bytes, own := s.mbx.own } } = s := by
  have heq : State.flrComplete fn (s.at t) = _ := if_pos (show ((s.at t).fnS fn).flrBusy = true from hbusy)
  have hread (a : Nat) := Mem.read_filter (fun a => decide (a < slotAddr fn 0 0) || decide (slotAddr fn 32 0 ≤ a)) a s.mbx.bytes
  refine ⟨_, (exec_flrComplete fn t s).trans (ranAt_pos (by simpa [fnOk, below] using hfn) ..), ?_⟩
  rw [heq]
  dsimp only
  refine ⟨?_, fun a hlow hhigh => (hread a).trans (if_neg (by simp; omega)),
    fun a hout => (hread a).trans (if_pos (by simpa using hout)), fun g hg => ?_, rfl⟩
  · exact (State.fnS_modFn ((s.at t).modMbx _) fn _ (show fn < s.pcie.fns.length by omega) fn).trans (if_pos rfl)
  · exact (State.fnS_modFn ((s.at t).modMbx _) fn _ (show fn < s.pcie.fns.length by omega) g).trans (if_neg hg)

theorem flrComplete_idle (hfn : fn < 17) (hidle : (s.fnS fn).flrBusy = false) :
    ∃ s', exec (.flrComplete fn t) s = .next s' ∧ { s' with time := s.time } = s := by
  have heq : State.flrComplete fn (s.at t) = _ := if_neg (show ¬((s.at t).fnS fn).flrBusy = true from Bool.eq_false_iff.mp hidle)
  refine ⟨_, (exec_flrComplete fn t s).trans (ranAt_pos (by simpa [fnOk, below] using hfn) ..), ?_⟩
  rw [heq]
  rfl

/-- A write of Bus Master Enable (R359); enabling sends what was pending. -/
theorem busMasterEnable_sets (hfn : fn < 17) (hfns : s.pcie.fns.length = 17) (on : Bool) :
    ∃ s', exec (.busMasterEnable fn on t) s = .next s' ∧ (s'.fnS fn).busMaster = on ∧
      (on = false → { s' with time := s.time, pcie := { s'.pcie with fns := s.pcie.fns } } = s) ∧
      { s' with time := s.time, pcie := s.pcie, host := s.host } = s := by
  have hset : (((s.at t).modFn fn fun f => { f with busMaster := on }).fnS fn).busMaster = on := by
    rw [State.fnS_modFn (s.at t) fn _ (show fn < s.pcie.fns.length by omega), if_pos rfl]
  refine ⟨_, (exec_busMasterEnable fn on t s).trans (ranAt_pos (by simpa [fnOk, below] using hfn) ..), ?_⟩
  cases on
  · exact ⟨hset, fun _ => rfl, rfl⟩
  · have heq : State.busMaster fn true (s.at t) =
        ((s.at t).modFn fn fun f => { f with busMaster := true }).msixFlush fn := by
      unfold State.busMaster
      exact if_pos rfl
    rw [heq]
    refine ⟨?_, nofun, ?_⟩
    · exact (congrArg FnState.busMaster (State.fnS_core (State.msixFlush_pcieCore fn _) fn) :).trans hset
    · apply State.ext_parts <;> simp

/-- What a detection keeps of the sessions' owners and of the controller. -/
structure State.KeepsOwners (s x : State) : Prop where
  sessions : x.sessions.length = s.sessions.length
  sesFn : ∀ j, (x.ses j).fn = (s.ses j).fn
  pcie : x.pcie.core = s.pcie.core

theorem State.KeepsOwners.trans {a b c : State} (h : a.KeepsOwners b) (h' : b.KeepsOwners c) : a.KeepsOwners c :=
  ⟨h'.sessions.trans h.sessions, fun j => (h'.sesFn j).trans (h.sesFn j), h'.pcie.trans h.pcie⟩

theorem State.keepsOwners_of_cores {s x : State} (h : x.cores = s.cores) (hpcie : x.pcie.core = s.pcie.core) : s.KeepsOwners x :=
  ⟨State.cores_length h, fun j => by
    obtain ⟨-, -, hfn, -⟩ := Session.core_fields (State.core_eq h j)
    exact hfn, hpcie⟩

theorem State.faultLeave_keepsOwners (code : Nat) (s : State) (i : Nat) : s.KeepsOwners (s.faultLeave code i) := by
  refine ⟨?_, fun j => ?_, State.faultLeave_pcieCore ..⟩
  · unfold State.faultLeave
    split
    · exact State.sesTo_length ..
    · rfl
  · unfold State.faultLeave
    split
    · have hcore := State.sesTo_core i 5 code s j
      split at hcore
      · next hji =>
          obtain ⟨rfl, -⟩ := hji
          obtain ⟨-, -, hfn, -⟩ := Session.core_fields hcore
          exact hfn
      · obtain ⟨-, -, hfn, -⟩ := Session.core_fields hcore
        exact hfn
    · rfl

theorem State.faultReact_keepsOwners (code : Nat) (s : State) : s.KeepsOwners (s.faultReact code) := by
  have hleave : s.KeepsOwners ((List.range 16).foldl (State.faultLeave code) s) :=
    State.foldl_inv s.KeepsOwners (State.faultLeave code) (fun x i hx => hx.trans (State.faultLeave_keepsOwners code x i)) _ s
      ⟨rfl, fun _ => rfl, rfl⟩
  rw [State.faultReact_eq]
  generalize (List.range 16).foldl (State.faultLeave code) s = x at hleave
  have hdump := hleave.trans (State.keepsOwners_of_cores (State.triggerDump_cores code x) (State.triggerDump_pcieCore code x))
  generalize x.triggerDump code = y at hdump
  split
  · exact hdump.trans ⟨rfl, fun _ => rfl, rfl⟩
  · exact hdump

theorem State.detectAll_keepsOwners (l : List Detection) (s : State) : s.KeepsOwners (s.detectAll l) := by
  have hreports := State.foldl_inv s.KeepsOwners (fun x (e : Detection) => x.faultReport e.code e.stack e.cluster e.stream e.arg)
    (fun x e hx => hx.trans (State.keepsOwners_of_cores (State.faultReport_cores ..) (State.faultReport_pcieCore ..))) l s
    ⟨rfl, fun _ => rfl, rfl⟩
  exact State.foldl_inv s.KeepsOwners (fun x (e : Detection) => x.faultReact e.code)
    (fun x e hx => hx.trans (State.faultReact_keepsOwners e.code x)) l _ hreports

/-- A write that takes virtual functions away closes their sessions (R371). -/
theorem vfRemove_resets (hlen : s.sessions.length = 16) (hfns : s.pcie.fns.length = 17) (on : Bool) {n : Nat} (hn : n < 16) :
    ∃ s', exec (.vfRemove on n t) s = .next s' ∧ s'.pcie.vfEnable = on ∧ s'.pcie.numVfs = n ∧
      (∀ j < 16, (s.ses j).fn ∈ s.pcie.vfs → (s.ses j).fn ∉ s'.pcie.vfs → (s'.ses j).state = 0) ∧
      s'.part = s.part ∧ s'.flash = s.flash ∧ s'.images.unkeyed = s.images.unkeyed := by
  obtain ⟨gone, hgone⟩ : ∃ l, l = s.pcie.vfs.filter fun f => !({ s.pcie with vfEnable := on, numVfs := n } : Pcie).vfs.contains f :=
    ⟨_, rfl⟩
  have howners := State.detectAll_keepsOwners ((s.at t).resetFaults gone) (s.at t)
  have honly := State.detectAll_onlyFault ((s.at t).resetFaults gone) (s.at t)
  have hkeeps : ((s.at t).detectAll ((s.at t).resetFaults gone)).part = s.part ∧
      ((s.at t).detectAll ((s.at t).resetFaults gone)).flash = s.flash ∧
      ((s.at t).detectAll ((s.at t).resetFaults gone)).images = s.images :=
    ⟨(congrArg State.part honly :), (congrArg State.flash honly :), (congrArg State.images honly :)⟩
  have heq : State.vfRemove on n (s.at t) = (gone.foldl (fun x f => x.flr f 0x0013)
      ((s.at t).detectAll ((s.at t).resetFaults gone))).modPcie fun p => { p with vfEnable := on, numVfs := n } := by
    rw [hgone]
    rfl
  generalize (s.at t).detectAll ((s.at t).resetFaults gone) = x at howners hkeeps heq
  have hfnsX : x.pcie.fns.length = 17 := (List.length_map FnState.core).symm.trans
    ((congrArg (fun p : Pcie => p.fns.length) howners.pcie).trans ((List.length_map FnState.core).trans hfns))
  have hreset := State.foldl_flr 0x0013 gone [] (State.FnsReset.nil (howners.sessions.trans hlen) hfnsX)
  have hspares := State.foldl_flr_spares 0x0013 gone x
  refine ⟨_, (exec_vfRemove on n t s).trans (ranAt_pos (by simpa [below] using hn) ..), ?_⟩
  rw [heq]
  generalize gone.foldl (fun (x : State) f => x.flr f 0x0013) x = y at hreset hspares
  obtain ⟨hpart, hflash, himages⟩ := hkeeps
  refine ⟨rfl, rfl, fun j hj hin hout => ?_, hspares.part.trans hpart, hspares.flash.trans hflash,
    hspares.unkeyed.trans (congrArg Images.unkeyed himages)⟩
  have hvfs : (y.modPcie fun p => { p with vfEnable := on, numVfs := n }).pcie.vfs =
    ({ s.pcie with vfEnable := on, numVfs := n } : Pcie).vfs := rfl
  refine hreset.closed j hj ?_
  rw [List.append_nil, List.mem_reverse, howners.sesFn j, hgone]
  exact List.mem_filter.mpr ⟨hin, by
    rw [hvfs] at hout
    show (!_) = true
    rw [Bool.not_eq_true', List.contains_eq_mem, decide_eq_false_iff_not]
    exact hout⟩

end

/-- Settles O47. -/
theorem functionResets : Obligations.FunctionResets := by
  unfold Obligations.FunctionResets
  intro s fn t hfn hlen hfns
  exact ⟨flr_resets hfn hlen hfns, flr_latches hfn, flrComplete_completes hfn hfns, flrComplete_idle hfn,
    busMasterEnable_sets hfn hfns, fun on _ hn => vfRemove_resets hlen hfns on hn⟩

end Sys2Proof.Machine
end

section
/-!
SUPPORT. The obligation on calibration and the ledger (R427-R429, R450).
-/
namespace Sys2Proof.Machine

section
variable {s : State} {fn slot t : Nat} {c : Cmd} (hslot : isSlot fn slot)

/-- A row whose body delivers counted bytes through one descriptor that holds them. -/
theorem deliverCounted_answers {i : Instr} {a len : Nat} {bs : List Byte} {body : Cmd → State → State} {op : Nat}
    (h : s.isArrived op fn slot c) (hrow : exec i s = .next { body c (s.taken t c) with pending := s.pending })
    (hbody : body c (s.taken t c) = (s.taken t c).deliverCounted c bs)
    (hd : c.descs = [{ addr := a, len := len, write := true }]) (hdma : s.dmaOk fn = true) (hfit : bs.length ≤ len) :
    ∃ s', exec i s = .next s' ∧ s'.reply? fn slot = some (okReply (le 4 bs.length)) ∧
      s'.host = Mem.writeBytes a bs s.host ∧
      { s' with time := s.time, det := s.det, mbx := { s'.mbx with cmds := s.mbx.cmds }, host := s.host,
                clusters := s.clusters, stks := s.stks, hub := s.hub } = s := by
  obtain ⟨hfn, -⟩ := State.cmd?_slot h.1
  have hfits : (s.taken t c).deliverCounted c bs = ((s.taken t c).output c bs).accept c (le 4 bs.length) :=
    State.deliver_fits (by simpa [Cmd.room, hd, sumN] using hfit) _ _
  rw [hbody, hfits] at hrow
  have hhost := State.output_one (c := c) (d := { addr := a, len := len, write := true }) (by simp [hd]) hfit
    (s := s.taken t c) (by rw [hfn]; simpa using hdma)
  obtain ⟨m, l, hat⟩ := State.output_atHost c bs (s.taken t c)
  refine ⟨_, hrow, State.answeredA h (by simp) _ _, hhost.trans (by rw [State.taken_host]), ?_⟩
  rw [hat]
  apply State.ext_parts <;> simp

include hslot

theorem calRead_delivers {a len : Nat} {bs : List Byte} (h : s.isArrived 0x0904 fn slot c) (hlen : c.payload.length = 8)
    (hz : allZero (slice c.payload 1 7) = true) (hwhich : getU c.payload 0 1 ≤ 2)
    (hd : c.descs = [{ addr := a, len := len, write := true }]) (hdma : s.dmaOk fn = true)
    (hbs : bs = (if getU c.payload 0 1 = 0 then calBytes s.part.factory else if getU c.payload 0 1 = 1 then
      fit 320 (s.flash.userCal.read.getD []) else calBytes s.boot.effective)) (hmode : s.frame.devState ≠ 3)
    (hfit : bs.length ≤ len) :
    ∃ s', exec (.calRead fn slot t) s = .next s' ∧ s'.reply? fn slot = some (okReply (le 4 bs.length)) ∧
      s'.host = Mem.writeBytes a bs s.host ∧
      { s' with time := s.time, det := s.det, mbx := { s'.mbx with cmds := s.mbx.cmds }, host := s.host,
                clusters := s.clusters, stks := s.stks, hub := s.hub } = s := by
  refine deliverCounted_answers h ((exec_calRead fn slot t s).trans (execTakenA hslot h (fun _ => rfl)
    (fun hreplay => absurd hreplay hmode) t _)) ?_ hd hdma hfit
  unfold bodyCalRead
  rw [State.shape_pos hlen (by simpa using hz)]
  dsimp only
  rw [State.need_pos (by simpa using hwhich), hbs]
  simp

theorem ledgerRead_delivers {a len : Nat} (h : s.isArrived 0x0908 fn slot c) (hp : c.payload = [])
    (hd : c.descs = [{ addr := a, len := len, write := true }]) (hdma : s.dmaOk fn = true) (hmode : s.frame.devState ≠ 3)
    (hfit : (s.part.ledgerOrder.flatMap ledgerBytes).length ≤ len) :
    ∃ s', exec (.ledgerRead fn slot t) s = .next s' ∧
      s'.reply? fn slot = some (okReply (le 4 (s.part.ledgerOrder.flatMap ledgerBytes).length)) ∧
      s'.host = Mem.writeBytes a (s.part.ledgerOrder.flatMap ledgerBytes) s.host ∧
      { s' with time := s.time, det := s.det, mbx := { s'.mbx with cmds := s.mbx.cmds }, host := s.host,
                clusters := s.clusters, stks := s.stks, hub := s.hub } = s := by
  refine deliverCounted_answers h ((exec_ledgerRead fn slot t s).trans (execTakenA hslot h (fun _ => rfl)
    (fun hreplay => absurd hreplay hmode) t _)) ?_ hd hdma hfit
  unfold bodyLedgerRead
  rw [State.shape_pos (by simp [hp]) (by simp), State.taken_part]

theorem calWrite_length (h : s.isReady 0x0905 fn slot c) (hp : c.payload = []) (hlen : c.bulk.length ≠ 320) :
    ∃ s', exec (.calWrite fn slot t) s = .next s' ∧ s'.reply? fn slot = some (refusal 0x0104) ∧ s.onlyAnswered s' := by
  refine ⟨_, (exec_calWrite fn slot t s).trans (execTaken hslot h t _), ?_⟩
  unfold bodyCalWrite
  rw [State.shape_pos (by simp [hp]) (by simp), State.need_neg (by simpa using hlen)]
  exact ⟨State.refused h (by simp) _ _ _, State.onlyAnswered_refuse ..⟩

theorem calWrite_state (h : s.isReady 0x0905 fn slot c) (hp : c.payload = []) (hlen : c.bulk.length = 320)
    (hgrid : s.frame.devState = 1) :
    ∃ s', exec (.calWrite fn slot t) s = .next s' ∧ s'.reply? fn slot = some (refusal 0x0201) ∧ s.onlyAnswered s' := by
  refine ⟨_, (exec_calWrite fn slot t s).trans (execTaken hslot h t _), ?_⟩
  unfold bodyCalWrite
  rw [State.shape_pos (by simp [hp]) (by simp), State.need_pos (by simpa using hlen),
    State.need_neg (by simp [State.devIn, hgrid])]
  exact ⟨State.refused h (by simp) _ _ _, State.onlyAnswered_refuse ..⟩

/-- A calibration page where one may be written: its signature, then its fields. -/
theorem calWrite_judges (h : s.isReady 0x0905 fn slot c) (hp : c.payload = []) (hlen : c.bulk.length = 320)
    (hdev : s.frame.devState ∈ [0, 2]) (hlow : 1 ≤ s.lifecycle) (hhigh : s.lifecycle ≤ 3) (howner : s.part.ownerValid = true) :
    ∃ s', exec (.calWrite fn slot t) s = .next s' ∧
      (s.calSigned c.bulk = false → s'.reply? fn slot = some (refusal 0x0501) ∧ s.onlyAnswered s') ∧
      (s.calSigned c.bulk = true → s.calPageOk c.bulk = false →
        s'.reply? fn slot = some (refusal 0x0106) ∧ s.onlyAnswered s') ∧
      (s.calSigned c.bulk = true → s.calPageOk c.bulk = true → s'.reply? fn slot = some (okReply []) ∧
        s'.flash = { s.flash with userCal := s.flash.userCal.write c.bulk } ∧
        { s' with time := s.time, det := s.det, mbx := { s'.mbx with cmds := s.mbx.cmds }, flash := s.flash } = s) := by
  have hsigned : (s.taken t c).calSigned c.bulk = s.calSigned c.bulk := by simp [State.calSigned]
  have hpage : (s.taken t c).calPageOk c.bulk = s.calPageOk c.bulk := by simp [State.calPageOk]
  refine ⟨_, (exec_calWrite fn slot t s).trans (execTaken hslot h t _), ?_⟩
  have hbody : bodyCalWrite c (s.taken t c) = (s.taken t c).need c (s.calSigned c.bulk) 0x0501 fun x =>
      x.need c (x.calPageOk c.bulk) 0x0106 fun x =>
        (x.modFlash fun f => { f with userCal := f.userCal.write c.bulk }).accept c := by
    unfold bodyCalWrite
    rw [State.shape_pos (by simp [hp]) (by simp), State.need_pos (by simpa using hlen),
      State.need_pos (by simpa [State.devIn] using hdev),
      State.need_pos (by simpa [inR, State.lifecycle, howner] using ⟨hlow, hhigh⟩), hsigned]
  rw [hbody]
  refine ⟨fun hbad => ?_, fun hgood hbad => ?_, fun hgood hok => ?_⟩
  · rw [State.need_neg hbad]
    exact ⟨State.refused h (by simp) _ _ _, State.onlyAnswered_refuse ..⟩
  · rw [State.need_pos hgood, hpage, State.need_neg hbad]
    exact ⟨State.refused h (by simp) _ _ _, State.onlyAnswered_refuse ..⟩
  · rw [State.need_pos hgood, State.need_pos (hpage.trans hok)]
    refine ⟨State.answered h (by simp) _ _, by simp, ?_⟩
    apply State.ext_parts <;> simp

end

/-- Settles O44. -/
theorem calibrationAndLedger : Obligations.CalibrationAndLedger := by
  unfold Obligations.CalibrationAndLedger
  intro s fn slot a len t c hslot hmode
  exact ⟨fun _ h hlen hz hwhich hd hdma hbs => calRead_delivers hslot h hlen hz hwhich hd hdma hbs hmode,
    fun h hp hd hdma => ledgerRead_delivers hslot h hp hd hdma hmode, calWrite_length hslot, calWrite_judges hslot,
    calWrite_state hslot⟩

end Sys2Proof.Machine
end

section
/-!
SUPPORT. The obligation on firmware and dump commands (R353, R354, R432, R433, R437, R439).
-/
namespace Sys2Proof.Machine

/-- What is written last is what a paired area gives, while its sequence numbers do not wrap (R436). -/
theorem Paired.read_write {α : Type} {p : Paired α} (v : α)
    (h : ∀ x, p.copy0 = some x ∨ p.copy1 = some x → x.1 + 1 < 2 ^ 32) : (p.write v).read = some v := by
  obtain ⟨c0, c1⟩ := p
  match c0, c1 with
  | none, none => rfl
  | none, some b =>
    have hb := h b (.inr rfl)
    simp only [Paired.write, Option.map_none, Option.map_some, Option.getD_none, Option.getD_some, Option.isNone_none, if_true,
      Paired.read]
    rw [if_neg (by omega)]
  | some a, none =>
    have ha := h a (.inl rfl)
    simp only [Paired.write, Option.map_none, Option.map_some, Option.getD_none, Option.getD_some, Option.isNone_some,
      Option.isNone_none, if_true, Bool.false_eq_true, if_false, Paired.read]
    rw [if_pos (by omega)]
  | some a, some b =>
    have ha := h a (.inl rfl)
    have hb := h b (.inr rfl)
    simp only [Paired.write, Option.map_some, Option.getD_some, Option.isNone_some, Bool.false_eq_true, if_false]
    split <;> simp only [Paired.read]
    · rw [if_neg (by omega)]
    · rw [if_pos (by omega)]

section
variable {s : State} {fn slot t : Nat} {c : Cmd} (hslot : isSlot fn slot)

@[simp] theorem State.taken_stagingNow : (s.taken t c).stagingNow = s.stagingNow := by simp [State.stagingNow]

@[simp] theorem State.taken_fwStatus : (s.taken t c).fwStatus = s.fwStatus := by simp [State.fwStatus]

theorem getD_set_self {α : Type} {l : List α} {i : Nat} (h : i < l.length) (v d : α) : (l.set i v).getD i d = v := by
  simp [h]

theorem getD_set_ne {α : Type} {i j : Nat} (h : i ≠ j) (l : List α) (v d : α) : (l.set i v).getD j d = l.getD j d := by
  simp [List.getElem?_set_ne h]

/-- What a bank's checks say against it (R439). -/
def State.stageBad (s : State) (b : List Byte) : Option Nat := match s.part.bankBad b with
  | some st => some st
  | none => if ((manifests b).map rangesAgree).getD false then none else some 0x0407

/-- The bank `i` written by the command's staging. -/
def State.staged (i : Nat) (c : Cmd) (ok : Bool) (s : State) : State := s.modFlash fun f => { f with
  banks := f.banks.set i c.bulk, verified := f.verified.set i ok, staging := some c.order }

/-- The answer that a check's result gives. -/
def State.answerBad (c : Cmd) (s : State) : Option Nat → State
  | some st => s.refuse c st
  | none => s.accept c

theorem State.answerBad_flash (c : Cmd) (s : State) (bad : Option Nat) : (s.answerBad c bad).flash = s.flash := by
  cases bad <;> rfl

theorem State.answerBad_reply (h : s.isArrived op fn slot c) {x : State} (hx : x.mbx = s.mbx) (p : State) (bad : Option Nat) :
    ({ x.answerBad c bad with pending := p.pending } : State).reply? fn slot = some ((bad.map refusal).getD (okReply [])) := by
  cases bad with
  | some st => exact State.refusedA h hx _ _ _
  | none => exact State.answeredA h hx _ _

theorem bodyFwStage_eq (hp : c.payload = []) (hstaging : s.stagingNow = false)
    (hsize : c.bulk.length ≤ bankSize (1 - s.boot.activeBank)) : bodyFwStage c (s.taken t c) =
      ((s.taken t c).staged (1 - s.boot.activeBank) c (s.stageBad c.bulk).isNone).answerBad c (s.stageBad c.bulk) := by
  unfold bodyFwStage
  dsimp only
  rw [State.shape_pos (by simp [hp]) (by simp), State.need_pos (by simpa using hstaging), State.need_pos (by simpa using hsize),
    State.taken_boot, State.taken_part]
  unfold State.stageBad
  cases s.part.bankBad c.bulk with
  | some st => rfl
  | none =>
    cases ((manifests c.bulk).map rangesAgree).getD false <;> rfl

theorem State.onlyAnswered_wait (s : State) (t : Nat) (c : Cmd) : s.onlyAnswered { (s.taken t c).wait c with pending := s.pending } := by
  unfold State.onlyAnswered
  apply State.ext_parts <;> simp

include hslot

/-- Staging writes the bank that is not booted, verified when every check passes (R437, R439). -/
theorem fwStage_stages (h : s.isArrived 0x0B01 fn slot c) (hmode : s.frame.devState ≠ 3) (hactive : s.boot.activeBank ≤ 1)
    (hbanks : s.flash.banks.length = 2) (hverified : s.flash.verified.length = 2) (hstaging : s.stagingNow = false)
    (hp : c.payload = []) (hsize : c.bulk.length ≤ bankSize (1 - s.boot.activeBank)) :
    ∃ s', exec (.fwStage fn slot t) s = .next s' ∧
      s'.flash.banks.getD (1 - s.boot.activeBank) [] = c.bulk ∧
      s'.flash.banks.getD s.boot.activeBank [] = s.flash.banks.getD s.boot.activeBank [] ∧
      s'.flash.bootBank = s.flash.bootBank ∧
      (∀ st, s.part.bankBad c.bulk = some st → s'.reply? fn slot = some (refusal st) ∧
        s'.flash.verified.getD (1 - s.boot.activeBank) true = false) ∧
      (∀ ms, s.part.bankBad c.bulk = none → manifests c.bulk = some ms →
        s'.reply? fn slot = some (if rangesAgree ms then okReply [] else refusal 0x0407) ∧
        s'.flash.verified.getD (1 - s.boot.activeBank) true = rangesAgree ms) ∧
      { s' with time := s.time, det := s.det, mbx := { s'.mbx with cmds := s.mbx.cmds }, flash := s.flash } = s := by
  have hrow := (exec_fwStage fn slot t s).trans (execTakenA hslot h (fun _ => rfl) (fun hreplay => absurd hreplay hmode) t _)
  rw [bodyFwStage_eq hp hstaging hsize] at hrow
  have hreply := State.answerBad_reply h (x := (s.taken t c).staged (1 - s.boot.activeBank) c (s.stageBad c.bulk).isNone)
    (by simp [State.staged]) s (s.stageBad c.bulk)
  have hflash : (((s.taken t c).staged (1 - s.boot.activeBank) c (s.stageBad c.bulk).isNone).answerBad c
      (s.stageBad c.bulk)).flash = { s.flash with
        banks := s.flash.banks.set (1 - s.boot.activeBank) c.bulk,
        verified := s.flash.verified.set (1 - s.boot.activeBank) (s.stageBad c.bulk).isNone, staging := some c.order } := by
    rw [State.answerBad_flash]
    simp [State.staged]
  have hframe : ∀ x, x = ((s.taken t c).staged (1 - s.boot.activeBank) c (s.stageBad c.bulk).isNone).answerBad c
      (s.stageBad c.bulk) → { x with time := s.time, det := s.det, mbx := { x.mbx with cmds := s.mbx.cmds }, flash := s.flash,
                                     pending := s.pending } = s := by
    rintro x rfl
    cases s.stageBad c.bulk <;> apply State.ext_parts <;> simp [State.answerBad, State.staged]
  have hleft := hframe _ rfl
  generalize ((s.taken t c).staged (1 - s.boot.activeBank) c (s.stageBad c.bulk).isNone).answerBad c
    (s.stageBad c.bulk) = x at hrow hflash hreply hleft
  refine ⟨_, hrow, (congrArg (fun f : Flash => f.banks.getD (1 - s.boot.activeBank) []) hflash).trans (getD_set_self (by omega) ..),
    (congrArg (fun f : Flash => f.banks.getD s.boot.activeBank []) hflash).trans (getD_set_ne (by omega) ..),
    (congrArg Flash.bootBank hflash :), fun st hst => ?_, fun ms hnone hms => ?_, hleft⟩
  · have hbad : s.stageBad c.bulk = some st := by simp [State.stageBad, hst]
    rw [hbad] at hreply hflash
    exact ⟨hreply, (congrArg (fun f : Flash => f.verified.getD (1 - s.boot.activeBank) true) hflash).trans
      (getD_set_self (by omega) ..)⟩
  · have hbad : s.stageBad c.bulk = if rangesAgree ms then none else some 0x0407 := by simp [State.stageBad, hnone, hms]
    rw [hbad] at hreply hflash
    have hverified := (congrArg (fun f : Flash => f.verified.getD (1 - s.boot.activeBank) true) hflash).trans
      (getD_set_self (by omega) ..)
    cases hagree : rangesAgree ms <;> rw [hagree] at hreply hverified <;> exact ⟨hreply, hverified⟩

theorem fwCommit_selects (h : s.isArrived 0x0B02 fn slot c) (hmode : s.frame.devState ≠ 3) (hstaging : s.stagingNow = false)
    (hlen : c.payload.length = 8) (hz : allZero (slice c.payload 1 7) = true) (hb : getU c.payload 0 1 ≤ 1) :
    ∃ s', exec (.fwCommit fn slot t) s = .next s' ∧
      (s.flash.verified.getD (getU c.payload 0 1) false = true → s'.reply? fn slot = some (okReply []) ∧
        ((∀ x, s.flash.bootBank.copy0 = some x ∨ s.flash.bootBank.copy1 = some x → x.1 + 1 < 2 ^ 32) →
          s'.flash.bootBank.read = some (getU c.payload 0 1)) ∧
        { s' with time := s.time, det := s.det, mbx := { s'.mbx with cmds := s.mbx.cmds },
                  flash := { s'.flash with bootBank := s.flash.bootBank } } = s) ∧
      (s.flash.verified.getD (getU c.payload 0 1) false = false → s'.reply? fn slot = some (refusal 0x0405) ∧
        s.onlyAnswered s') := by
  have hbody : bodyFwCommit c (s.taken t c) = (s.taken t c).need c (s.flash.verified.getD (getU c.payload 0 1) false) 0x0405
      fun x => (x.modFlash fun f => { f with bootBank := f.bootBank.write (getU c.payload 0 1) }).accept c := by
    unfold bodyFwCommit
    dsimp only
    rw [State.shape_pos hlen (by simpa using hz), State.need_pos (by simpa using hb), State.need_pos (by simpa using hstaging),
      State.taken_flash]
  refine ⟨_, (exec_fwCommit fn slot t s).trans (execTakenA hslot h (fun _ => rfl) (fun hreplay => absurd hreplay hmode) t _), ?_⟩
  rw [hbody]
  refine ⟨fun hok => ?_, fun hbad => ?_⟩
  · rw [State.need_pos hok]
    refine ⟨State.answeredA h (by simp) _ _, fun hseq => ?_, ?_⟩
    · exact (congrArg (fun f : Flash => (f.bootBank.write (getU c.payload 0 1)).read) (s.taken_flash (t := t) (c := c))).trans
        (Paired.read_write _ hseq)
    · apply State.ext_parts <;> simp
  · rw [State.need_neg hbad]
    exact ⟨State.refusedA h (by simp) _ _ _, State.onlyAnswered_refuse ..⟩

theorem fwStatus_answers (h : s.isArrived 0x0B03 fn slot c) (hmode : s.frame.devState ≠ 3) (hp : c.payload = []) :
    ∃ s' p, exec (.fwStatus fn slot t) s = .next s' ∧ s'.reply? fn slot = some (okReply p) ∧ p.length = 32 ∧
      slice p 0 1 = le 1 s.boot.activeBank ∧ slice p 1 1 = le 1 (s.flash.bootBank.read.getD 0) ∧ s.onlyAnswered s' := by
  have hbody : bodyFwStatus c (s.taken t c) = (s.taken t c).accept c s.fwStatus := by
    unfold bodyFwStatus
    rw [State.shape_pos (by simp [hp]) (by simp), State.taken_fwStatus]
  have hrow := (exec_fwStatus fn slot t s).trans
    (execTakenA hslot h (fun _ => rfl) (fun hreplay => absurd hreplay hmode) t _)
  rw [hbody] at hrow
  refine ⟨_, s.fwStatus, hrow, State.answeredA h (by simp) _ _, ?_, ?_, ?_, State.onlyAnswered_accept ..⟩
  · simp [State.fwStatus, le_length, zeros]
  · simp [State.fwStatus, slice, le_length]
  · simp [State.fwStatus, slice, le_length]

theorem dumpRead_waits (h : s.isArrived 0x0B04 fn slot c) (hmode : s.frame.devState ≠ 3) (hp : c.payload = [])
    (hw : s.errors.dump.writing.isSome = true) :
    ∃ s', exec (.dumpRead fn slot t) s = .next s' ∧ s'.waitsAt fn slot ∧ s.onlyAnswered s' := by
  have hbody : bodyDumpRead c (s.taken t c) = (s.taken t c).wait c := by
    unfold bodyDumpRead
    rw [State.shape_pos (by simp [hp]) (by simp), if_pos (by simpa using hw)]
  have hrow := (exec_dumpRead fn slot t s).trans
    (execTakenA hslot h (fun _ => rfl) (fun hreplay => absurd hreplay hmode) t _)
  rw [hbody] at hrow
  obtain ⟨hcmd, -, -, hresp, -⟩ := h
  exact ⟨_, hrow, ⟨_, State.cmd?_wait (by simp) hcmd, rfl, hresp⟩, State.onlyAnswered_wait ..⟩

theorem dumpClear_waits (h : s.isArrived 0x0B06 fn slot c) (hmode : s.frame.devState ≠ 3) (hp : c.payload = [])
    (hw : s.errors.dump.writing.isSome = true) :
    ∃ s', exec (.dumpClear fn slot t) s = .next s' ∧ s'.waitsAt fn slot ∧ s.onlyAnswered s' := by
  have hbody : bodyDumpClear c (s.taken t c) = (s.taken t c).wait c := by
    unfold bodyDumpClear
    rw [State.shape_pos (by simp [hp]) (by simp), if_pos (by simpa using hw)]
  have hrow := (exec_dumpClear fn slot t s).trans
    (execTakenA hslot h (fun _ => rfl) (fun hreplay => absurd hreplay hmode) t _)
  rw [hbody] at hrow
  obtain ⟨hcmd, -, -, hresp, -⟩ := h
  exact ⟨_, hrow, ⟨_, State.cmd?_wait (by simp) hcmd, rfl, hresp⟩, State.onlyAnswered_wait ..⟩

/-- With no dump being written the read delivers it and sets READ (R432, R433). -/
theorem dumpRead_delivers {a len : Nat} (h : s.isArrived 0x0B04 fn slot c) (hmode : s.frame.devState ≠ 3) (hp : c.payload = [])
    (hw : s.errors.dump.writing = none) (hd : c.descs = [{ addr := a, len := len, write := true }])
    (hdma : s.dmaOk fn = true) (hfit : s.errors.dump.image.length ≤ len) :
    ∃ s', exec (.dumpRead fn slot t) s = .next s' ∧
      s'.reply? fn slot = some (okReply (le 4 s.errors.dump.image.length ++ le 1 (s.errors.dump.state % 2) ++ zeros 3)) ∧
      s'.host = Mem.writeBytes a s.errors.dump.image s.host ∧
      (s.errors.dump.state % 2 = 1 → bit s'.errors.dump.state 2 = true) ∧ s'.errors.dump.bytes = s.errors.dump.bytes ∧
      { s' with time := s.time, det := s.det, mbx := { s'.mbx with cmds := s.mbx.cmds }, host := s.host,
                errors := s.errors, clusters := s.clusters, stks := s.stks, hub := s.hub } = s := by
  obtain ⟨hfn, -⟩ := State.cmd?_slot h.1
  have hbody : bodyDumpRead c (s.taken t c) = (((s.taken t c).output c s.errors.dump.image).modErrors fun e => { e with
      dump := { e.dump with state := if e.dump.state % 2 = 1 then e.dump.state ||| 4 else 0 } }).accept c
        (le 4 s.errors.dump.image.length ++ le 1 (s.errors.dump.state % 2) ++ zeros 3) := by
    unfold bodyDumpRead
    rw [State.shape_pos (by simp [hp]) (by simp), if_neg (by simp [hw])]
    unfold State.dumpRead
    dsimp only
    rw [State.taken_errors, if_pos (by simpa [Cmd.room, hd, sumN] using hfit), State.output_errors, State.taken_errors]
  have hrow := (exec_dumpRead fn slot t s).trans
    (execTakenA hslot h (fun _ => rfl) (fun hreplay => absurd hreplay hmode) t _)
  rw [hbody] at hrow
  have hhost := State.output_one (c := c) (d := { addr := a, len := len, write := true }) (by simp [hd]) hfit
    (s := s.taken t c) (by rw [hfn]; simpa using hdma)
  obtain ⟨m, l, hat⟩ := State.output_atHost c s.errors.dump.image (s.taken t c)
  refine ⟨_, hrow, State.answeredA h (by simp) _ _, hhost.trans (by rw [State.taken_host]), fun hodd => ?_, ?_, ?_⟩
  · have hstate : ((s.taken t c).output c s.errors.dump.image).errors = s.errors := by simp
    dsimp only [State.accept_errors, State.modErrors_errors]
    simp only [hstate, if_pos hodd]
    exact bit_or_two_pow s.errors.dump.state 2
  · simp
  · rw [hat]
    apply State.ext_parts <;> simp

/-- With no dump being written the clear leaves the region empty. -/
theorem dumpClear_clears (h : s.isArrived 0x0B06 fn slot c) (hmode : s.frame.devState ≠ 3) (hp : c.payload = [])
    (hw : s.errors.dump.writing = none) :
    ∃ s', exec (.dumpClear fn slot t) s = .next s' ∧ s'.reply? fn slot = some (okReply []) ∧
      s'.errors = { s.errors with dump := { s.errors.dump with bytes := [], length := 0, state := 0 } } ∧
      { s' with time := s.time, det := s.det, mbx := { s'.mbx with cmds := s.mbx.cmds }, errors := s.errors } = s := by
  have hbody : bodyDumpClear c (s.taken t c) = ((s.taken t c).modErrors fun e => { e with
      dump := { e.dump with bytes := [], length := 0, state := 0 } }).accept c := by
    unfold bodyDumpClear
    rw [State.shape_pos (by simp [hp]) (by simp), if_neg (by simp [hw])]
    rfl
  have hrow := (exec_dumpClear fn slot t s).trans
    (execTakenA hslot h (fun _ => rfl) (fun hreplay => absurd hreplay hmode) t _)
  rw [hbody] at hrow
  refine ⟨_, hrow, State.answeredA h (by simp) _ _, by simp, ?_⟩
  apply State.ext_parts <;> simp

theorem dumpTarget_names (h : s.isArrived 0x0B05 fn slot c) (hmode : s.frame.devState ≠ 3) (hp : c.payload = []) :
    ∃ s', exec (.dumpTarget fn slot t) s = .next s' ∧ s'.reply? fn slot = some (okReply []) ∧
      s'.errors = { s.errors with dump := { s.errors.dump with target := c.descs.head? } } ∧
      { s' with time := s.time, det := s.det, mbx := { s'.mbx with cmds := s.mbx.cmds }, errors := s.errors } = s := by
  refine ⟨_, (exec_dumpTarget fn slot t s).trans
    (execTakenA hslot h (fun _ => rfl) (fun hreplay => absurd hreplay hmode) t _), ?_⟩
  unfold bodyDumpTarget
  rw [State.shape_pos (by simp [hp]) (by simp)]
  refine ⟨State.answeredA h (by simp) _ _, by simp, ?_⟩
  apply State.ext_parts <;> simp

end

/-- Settles O45. -/
theorem firmwareAndDumps : Obligations.FirmwareAndDumps := by
  unfold Obligations.FirmwareAndDumps
  refine ⟨fun s fn slot t c hslot hmode hactive hbanks hverified hstaging =>
      ⟨fun h => fwStage_stages hslot h hmode hactive hbanks hverified hstaging,
        fun h => fwCommit_selects hslot h hmode hstaging, fun h => fwStatus_answers hslot h hmode⟩,
    fun s fn slot a len t c hslot hmode hp => ⟨fun h => dumpRead_waits hslot h hmode hp,
      fun h => dumpClear_waits hslot h hmode hp, fun h => dumpRead_delivers hslot h hmode hp,
      fun h => dumpClear_clears hslot h hmode hp, fun h => dumpTarget_names hslot h hmode hp⟩⟩

end Sys2Proof.Machine
end

section
/-!
SUPPORT. The obligation on reads with a side effect, read indices and MSI-X unmasking (R16, R321, R361, R362, R365, R479).
-/
namespace Sys2Proof.Machine

section
variable {s : State} {t fn : Nat}

theorem hubTimeLoRead_latches (hfns : s.pcie.fns.length = 17) (hfn : fn < 17) :
    ∃ s', exec (.hubTimeLoRead fn t) s = .next s' ∧ s'.time.now = max s.time.now t ∧
      s'.pcie.readData = (max s.time.now t) % 2 ^ 32 ∧ (s'.fnS fn).timeHi = (max s.time.now t) / 2 ^ 32 % 2 ^ 32 ∧
      (∀ f, f ≠ fn → s'.fnS f = s.fnS f) ∧ { s' with time := s.time, pcie := s.pcie } = s := by
  have hget := State.fnS_modFn ((s.at t).modPcie fun p => { p with readData := (max s.time.now t) % 2 ^ 32 }) fn
    (fun f => { f with timeHi := (max s.time.now t) / 2 ^ 32 % 2 ^ 32 }) (show fn < s.pcie.fns.length by omega)
  refine ⟨_, (exec_hubTimeLoRead fn t s).trans (ranAt_pos (by simpa [fnOk, below] using hfn) ..), rfl, rfl, ?_, fun f hf => ?_, rfl⟩
  · exact (congrArg FnState.timeHi ((hget fn).trans (if_pos rfl)) :)
  · exact (hget f).trans (if_neg hf)

theorem mbxWriteDiscardRead_clears (hfns : s.pcie.fns.length = 17) (hfn : fn < 17) (same : Bool) :
    ∃ s', exec (.mbxWriteDiscardRead fn same t) s = .next s' ∧ s'.pcie.readData = (s.fnS fn).discard ∧
      (s'.fnS fn).discard = (if same then 1 else 0) ∧ (∀ f, f ≠ fn → s'.fnS f = s.fnS f) ∧
      { s' with time := s.time, pcie := s.pcie } = s := by
  have hget := State.fnS_modFn ((s.at t).modPcie fun p => { p with readData := (s.fnS fn).discard }) fn
    (fun f => { f with discard := flag same 0 }) (show fn < s.pcie.fns.length by omega)
  refine ⟨_, (exec_mbxWriteDiscardRead fn same t s).trans (ranAt_pos (by simpa [fnOk, below] using hfn) ..), rfl, ?_,
    fun f hf => ?_, rfl⟩
  · exact (congrArg FnState.discard ((hget fn).trans (if_pos rfl)) :)
  · exact (hget f).trans (if_neg hf)

theorem pwrRtcLoRead_latches {master rtc : Nat} (hmaster : master < 2) (hrtc : rtc < 2 ^ 48) (hle : s.mgmt.rtc ≤ rtc) :
    ∃ s', exec (.pwrRtcLoRead master rtc t) s = .next s' ∧ s'.pcie.readData = rtc % 2 ^ 32 ∧ s'.mgmt.rtc = rtc ∧
      lookupD 0 master s'.mgmt.rtcHi = rtc / 2 ^ 32 ∧
      (∀ m, m ≠ master → lookupD 0 m s'.mgmt.rtcHi = lookupD 0 m s.mgmt.rtcHi) ∧
      { s' with time := s.time, mgmt := s.mgmt, pcie := s.pcie } = s := by
  have hnow : max s.mgmt.rtc (rtc % 2 ^ 48) = rtc := by omega
  refine ⟨_, (exec_pwrRtcLoRead master rtc t s).trans (ranAt_pos (by simp [below]; omega) ..), congrArg (· % 2 ^ 32) hnow, hnow,
    ?_, fun m hm => lookupD_upsert_ne 0 hm .., rfl⟩
  exact (lookupD_upsert_same ..).trans (congrArg (· / 2 ^ 32) hnow)

theorem secTamperLogLoRead_latches {master i : Nat} (hmaster : master < 2) (hi : i < 16) :
    ∃ s', exec (.secTamperLogLoRead master i t) s = .next s' ∧
      (∀ e, s.mgmt.tamperLog.getD i none = some e → s'.pcie.readData = e.rtc % 2 ^ 32 ∧
        lookupD 0 (master * 16 + i) s'.mgmt.logHi = e.source * 2 ^ 28 + (if e.wiped then 2 ^ 27 else 0) +
          (if e.standby then 2 ^ 26 else 0) + e.rtc / 2 ^ 32 % 2 ^ 16) ∧
      (s.mgmt.tamperLog.getD i none = none → s'.pcie.readData = 0 ∧ lookupD 0 (master * 16 + i) s'.mgmt.logHi = 0) ∧
      s'.mgmt.tamperLog = s.mgmt.tamperLog ∧ { s' with time := s.time, mgmt := s.mgmt, pcie := s.pcie } = s := by
  have hhi := lookupD_upsert_same 0 (master * 16 + i) (tamperHi (s.mgmt.tamperLog.getD i none)) s.mgmt.logHi
  have hdata (e : Option TamperEntry) (he : s.mgmt.tamperLog.getD i none = e) :
      (State.tamperLoRead master i (s.at t)).pcie.readData = (e.map fun x => x.rtc % 2 ^ 32).getD 0 :=
    congrArg (fun e : Option TamperEntry => (e.map fun x : TamperEntry => x.rtc % 2 ^ 32).getD 0) he
  refine ⟨_, (exec_secTamperLogLoRead master i t s).trans (ranAt_pos (by simp [below]; omega) ..), fun e he => ?_, fun he => ?_,
    rfl, rfl⟩
  · exact ⟨hdata _ he, hhi.trans (congrArg tamperHi he)⟩
  · exact ⟨hdata _ he, hhi.trans (congrArg tamperHi he)⟩

/-- A function's registers with read index `r` taken at `now`; an entry of the same cycle still sees the old one. -/
def FnState.takeIndex (r value now : Nat) (f : FnState) : FnState :=
  let old := f.ridxOld.filter fun x => x.2.1 == now
  { f with
    ridx := upsert r value f.ridx, ridxOld := if old.any (·.1 == r) then old else old ++ [(r, now, lookupD 0 r f.ridx)] }

theorem FnState.takeIndex_old {f : FnState} {r value now : Nat} (h : ∀ x ∈ f.ridxOld, x.1 = r → x.2.1 ≠ now) :
    (r, now, lookupD 0 r f.ridx) ∈ (f.takeIndex r value now).ridxOld := by
  have hnone : (f.ridxOld.filter fun x => x.2.1 == now).any (·.1 == r) = false := by
    refine List.any_eq_false.mpr fun x hx hxr => ?_
    obtain ⟨hin, hnow⟩ := List.mem_filter.mp hx
    exact h x hin (beq_iff_eq.mp hxr) (beq_iff_eq.mp hnow)
  unfold FnState.takeIndex
  dsimp only
  rw [hnone]
  exact List.mem_append_right _ (List.mem_singleton_self _)

/-- A read index between 0 and ENTRIES entries behind the ring's W is taken (R321, R362). -/
theorem ringReadIndexWrite_takes {r value : Nat} {g : Ring} (hfn : fn < 17) (hfns : s.pcie.fns.length = 17) (hr : r < 33)
    (hdev : r ≠ 32 ∨ fn = 0) (hvalue : value < 2 ^ 32) (hring : s.ring? r = some g) (hg : g.fn = fn)
    (hroom : ((g.w : Int) - value) % 2 ^ 32 ≤ g.entries) :
    ∃ s', exec (.ringReadIndexWrite fn r value t) s = .next s' ∧ lookupD 0 r (s'.fnS fn).ridx = value ∧
      (∀ q, q ≠ r → lookupD 0 q (s'.fnS fn).ridx = lookupD 0 q (s.fnS fn).ridx) ∧
      ((∀ x ∈ (s.fnS fn).ridxOld, x.1 = r → x.2.1 ≠ max s.time.now t) →
        (r, max s.time.now t, lookupD 0 r (s.fnS fn).ridx) ∈ (s'.fnS fn).ridxOld) ∧
      (s'.fnS fn).discard = (s.fnS fn).discard ∧ { s' with time := s.time, pcie := s.pcie } = s := by
  have hget (h : FnState → FnState) := (State.fnS_modFn (s.at t) fn h (show fn < s.pcie.fns.length by omega) fn).trans (if_pos rfl)
  have heq : State.ridxWrite fn r value (s.at t) = (s.at t).modFn fn (FnState.takeIndex r value (max s.time.now t)) := by
    unfold State.ridxWrite
    rw [if_neg (by omega), show (s.at t).ring? r = some g from hring]
    dsimp only
    rw [if_neg (by omega)]
    rfl
  refine ⟨_, (exec_ringReadIndexWrite fn r value t s).trans (ranAt_pos (by simp [fnOk, below]; omega) ..), ?_⟩
  rw [heq]
  have hridx := hget (FnState.takeIndex r value (max s.time.now t))
  refine ⟨?_, fun q hq => ?_, fun hfresh => ?_, (congrArg FnState.discard hridx :), rfl⟩
  · exact (congrArg (fun f : FnState => lookupD 0 r f.ridx) hridx).trans (lookupD_upsert_same ..)
  · exact (congrArg (fun f : FnState => lookupD 0 q f.ridx) hridx).trans (lookupD_upsert_ne 0 hq ..)
  · exact (congrArg FnState.ridxOld hridx :) ▸ FnState.takeIndex_old hfresh

/-- The device ring's index belongs to PF0 alone. -/
theorem ringReadIndexWrite_foreign {value : Nat} (h : fn ≠ 0) :
    ∃ s', exec (.ringReadIndexWrite fn 32 value t) s = .next s' ∧ { s' with time := s.time } = s := by
  have heq : State.ridxWrite fn 32 value (s.at t) = s.at t := if_pos ⟨rfl, h⟩
  cases hok : fnOk fn && below 32 33 && below value (2 ^ 32)
  · exact ⟨_, (exec_ringReadIndexWrite fn 32 value t s).trans (ranAt_skip hok ..), rfl⟩
  · refine ⟨_, (exec_ringReadIndexWrite fn 32 value t s).trans (ranAt_pos hok ..), ?_⟩
    rw [heq]
    rfl

theorem ringReadIndexWrite_discards {r value : Nat} (hfn : fn < 17) (hfns : s.pcie.fns.length = 17) (hr : r < 33)
    (hdev : r ≠ 32 ∨ fn = 0) (hvalue : value < 2 ^ 32)
    (hbad : s.ring? r = none ∨ ∃ g, s.ring? r = some g ∧ (g.fn ≠ fn ∨ (g.entries : Int) < ((g.w : Int) - value) % 2 ^ 32)) :
    ∃ s', exec (.ringReadIndexWrite fn r value t) s = .next s' ∧ (s'.fnS fn).ridx = (s.fnS fn).ridx ∧
      (s'.fnS fn).discard = min ((s.fnS fn).discard + 1) 65535 ∧ { s' with time := s.time, pcie := s.pcie } = s := by
  have hget (h : FnState → FnState) := (State.fnS_modFn (s.at t) fn h (show fn < s.pcie.fns.length by omega) fn).trans (if_pos rfl)
  have heq : State.ridxWrite fn r value (s.at t) = (s.at t).discard fn := by
    unfold State.ridxWrite
    rw [if_neg (by omega)]
    rcases hbad with hnone | ⟨g, hsome, hout⟩
    · rw [show (s.at t).ring? r = none from hnone]
    · rw [show (s.at t).ring? r = some g from hsome]
      exact if_pos hout
  refine ⟨_, (exec_ringReadIndexWrite fn r value t s).trans (ranAt_pos (by simp [fnOk, below]; omega) ..), ?_⟩
  rw [heq]
  exact ⟨(congrArg FnState.ridx (hget _) :), (congrArg FnState.discard (hget _) :), rfl⟩

/-- The vector `vec` without its mask. -/
def FnState.unmasked (vec : Nat) (f : FnState) : FnState :=
  { f with msix := upsert vec { lookupD {} vec f.msix with masked := false } f.msix }

theorem State.msixUnmask_eq (vec : Nat) (s : State) : State.msixUnmask fn vec s = (s.modFn fn (FnState.unmasked vec)).msixFlush fn := rfl

theorem State.fnS_unmasked (hfns : s.pcie.fns.length = 17) (hfn : fn < 17) (vec : Nat) :
    (s.modFn fn (FnState.unmasked vec)).fnS fn = (s.fnS fn).unmasked vec :=
  (State.fnS_modFn s fn _ (by omega) fn).trans (if_pos rfl)

/-- Unmasking the vector that is pending sends it (R365). -/
theorem msixUnmask_sends {vec : Nat} (hfn : fn < 17) (hfns : s.pcie.fns.length = 17) (hvec : vec < 64)
    (hpend : (s.fnS fn).pendingBits = [vec]) (hen : (s.fnS fn).msixEnabled = true) (hmask : (s.fnS fn).msixFnMask = false)
    (hdma : s.dmaOk fn = true) :
    ∃ s', exec (.msixUnmask fn vec t) s = .next s' ∧ (s'.fnS fn).pendingBits = [] ∧
      s'.pcie.sent = s.pcie.sent ++ [(fn, vec)] ∧ { s' with time := s.time, pcie := s.pcie, host := s.host } = s := by
  have hget := State.fnS_unmasked (s := s.at t) hfns hfn vec
  have hopen : ((s.at t).modFn fn (FnState.unmasked vec)).msixOpen fn vec = true := by
    have hdma' : ((s.at t).modFn fn (FnState.unmasked vec)).dmaOk fn = true := by
      unfold State.dmaOk
      rw [hget]
      exact hdma
    unfold State.msixOpen
    dsimp only
    rw [hget, hdma']
    show ((s.fnS fn).msixEnabled && !(s.fnS fn).msixFnMask &&
      !(lookupD {} vec (upsert vec { lookupD {} vec (s.fnS fn).msix with masked := false } (s.fnS fn).msix)).masked && true) = true
    rw [hen, hmask, lookupD_upsert_same]
    rfl
  have heq : State.msixUnmask fn vec (s.at t) = (((s.at t).modFn fn (FnState.unmasked vec)).modFn fn fun f => { f with
      pendingBits := f.pendingBits.filter (· != vec) }).msixSend fn vec := by
    have hbits : (((s.at t).modFn fn (FnState.unmasked vec)).fnS fn).pendingBits = [vec] :=
      (congrArg FnState.pendingBits hget :).trans hpend
    rw [State.msixUnmask_eq, State.msixFlush, hbits, List.foldl_cons, List.foldl_nil, if_pos hopen]
  have hget₂ := (State.fnS_modFn ((s.at t).modFn fn (FnState.unmasked vec)) fn
    (fun f => { f with pendingBits := f.pendingBits.filter (· != vec) })
    (by rw [show ((s.at t).modFn fn (FnState.unmasked vec)).pcie.fns.length = s.pcie.fns.length from List.length_modify ..]; omega)
    fn).trans (if_pos rfl)
  refine ⟨_, (exec_msixUnmask fn vec t s).trans (ranAt_pos (by simp [fnOk, below]; omega) ..), ?_⟩
  rw [heq]
  have hbits := (congrArg FnState.pendingBits hget₂ :).trans
    ((congrArg (fun f : FnState => f.pendingBits.filter (· != vec)) hget).trans
      ((congrArg (List.filter (· != vec)) hpend).trans (show [vec].filter (· != vec) = [] by simp)))
  have hsent : (((s.at t).modFn fn (FnState.unmasked vec)).modFn fn fun f => { f with
      pendingBits := f.pendingBits.filter (· != vec) }).pcie.sent = s.pcie.sent := rfl
  have hrest : ∀ p m, { ((s.at t).modFn fn (FnState.unmasked vec)).modFn fn (fun f => { f with
      pendingBits := f.pendingBits.filter (· != vec) }) with time := s.time, pcie := p, host := m } =
        { s with pcie := p, host := m } := fun p m => rfl
  generalize ((s.at t).modFn fn (FnState.unmasked vec)).modFn fn (fun f => { f with
    pendingBits := f.pendingBits.filter (· != vec) }) = x at hbits hsent hrest
  refine ⟨hbits, congrArg (· ++ [(fn, vec)]) hsent, ?_⟩
  exact congrArg (fun y : State => { y with pending := s.pending }) (hrest s.pcie s.host)

theorem msixUnmask_quiet {vec : Nat} (hfn : fn < 17) (hfns : s.pcie.fns.length = 17) (hvec : vec < 64)
    (hpend : (s.fnS fn).pendingBits = []) :
    ∃ s', exec (.msixUnmask fn vec t) s = .next s' ∧
      (lookupD {} vec (s'.fnS fn).msix).masked = false ∧ s'.pcie.sent = s.pcie.sent ∧
      { s' with time := s.time, pcie := s.pcie } = s := by
  have hget := State.fnS_unmasked (s := s.at t) hfns hfn vec
  have heq : State.msixUnmask fn vec (s.at t) = (s.at t).modFn fn (FnState.unmasked vec) := by
    have hbits : (((s.at t).modFn fn (FnState.unmasked vec)).fnS fn).pendingBits = [] :=
      (congrArg FnState.pendingBits hget :).trans hpend
    rw [State.msixUnmask_eq, State.msixFlush, hbits]
    rfl
  refine ⟨_, (exec_msixUnmask fn vec t s).trans (ranAt_pos (by simp [fnOk, below]; omega) ..), ?_⟩
  rw [heq]
  refine ⟨?_, rfl, rfl⟩
  refine (congrArg (fun f : FnState => (lookupD {} vec f.msix).masked) hget).trans ?_
  exact congrArg MsixEntry.masked (lookupD_upsert_same ..)

end

/-- Settles O58. -/
theorem readsIndicesAndUnmask : Obligations.ReadsIndicesAndUnmask := by
  unfold Obligations.ReadsIndicesAndUnmask
  exact ⟨fun s fn master rtc i same t hfns => ⟨hubTimeLoRead_latches hfns, fun hfn => mbxWriteDiscardRead_clears hfns hfn same,
      pwrRtcLoRead_latches, secTamperLogLoRead_latches⟩,
    fun s fn r value vec g t hfn hfns => ⟨ringReadIndexWrite_takes hfn hfns, ringReadIndexWrite_foreign,
      ringReadIndexWrite_discards hfn hfns, msixUnmask_sends hfn hfns, msixUnmask_quiet hfn hfns⟩⟩

end Sys2Proof.Machine
end

section
/-!
SUPPORT. The obligation on the DOE mailbox and its SPDM responder (R369, R443, R444, R448).
-/
namespace Sys2Proof.Machine

/-- The instruction answers with `content` under `code`; the exchange so far was `old`. -/
def State.Tells (s : State) (req : List Byte) (i : Instr) (code : Nat) (content old : List Byte) : Prop :=
  ∃ s', exec i s = .next s' ∧ s'.pcie.doeResponse = Config.spdmBody code req content ∧ s'.pcie.doeBusy = some req ∧
    s'.pcie.spdmTranscript = old ++ req ++ Config.spdmBody code req content ∧
    { s' with time := s.time, pcie := s.pcie } = s

/-- The responder takes the request. -/
structure State.Takes (s : State) (req : List Byte) : Prop where
  up : s.boot.cfwUp = true
  link : s.pcie.linkA.up = true
  len : req.length ≤ 4096

section
variable {s : State} {req : List Byte} {t : Nat} {i : Instr} {f : State → State}

theorem State.Takes.isOpen (h : s.Takes req) : s.doeOpen req = true := by
  simp [State.doeOpen, State.linkOf_zero, h.up, h.link, h.len]

theorem State.when_pos {b : Bool} (h : b = true) (g : State → State) (x : State) : x.when_ b g = g x := if_pos h

theorem State.when_neg {b : Bool} (h : b = false) (g : State → State) (x : State) : x.when_ b g = x :=
  if_neg (Bool.eq_false_iff.mp h)

/-- An answer in a state that differs in the controller alone. -/
theorem State.tells_of {code : Nat} {content old : List Byte} (hrow : exec i s = ranAt true t s f) {p : Pcie}
    (hf : f (s.at t) = State.answer code req content { s.at t with pcie := p }) (hold : p.spdmTranscript = old) :
    s.Tells req i code content old := by
  refine ⟨_, hrow.trans (ranAt_pos rfl ..), ?_⟩
  rw [hf]
  exact ⟨rfl, rfl, congrArg (fun x => x ++ req ++ Config.spdmBody code req content) hold, rfl⟩

/-- A request that needs the algorithms, and passes its check. -/
theorem State.tells_spdm (h : s.Takes req) (hversion : s.pcie.spdmVersion = true) (halgorithms : s.pcie.spdmAlgorithms = true)
    {code : Nat} {ok : Bool} {content : List Byte} (hrow : exec i s = ranAt true t s f)
    (hf : f (s.at t) = (s.at t).spdm code req ok content) (hok : ok = true) :
    s.Tells req i code content s.pcie.spdmTranscript := by
  refine State.tells_of hrow (p := s.pcie) (hf.trans ?_) rfl
  unfold State.spdm
  rw [State.when_pos (show (s.at t).doeOpen req = true from h.isOpen)]
  exact if_pos (by rw [hok, Bool.and_true]; exact Bool.and_eq_true_iff.mpr ⟨hversion, halgorithms⟩)

theorem State.tells_spdmError (h : s.Takes req) {code : Nat} {ok : Bool} {content : List Byte}
    (hrow : exec i s = ranAt true t s f) (hf : f (s.at t) = (s.at t).spdm code req ok content)
    (hbad : s.pcie.spdmVersion = false ∨ s.pcie.spdmAlgorithms = false ∨ ok = false) :
    s.Tells req i 0xFF [] s.pcie.spdmTranscript := by
  refine State.tells_of hrow (p := s.pcie) (hf.trans ?_) rfl
  unfold State.spdm
  rw [State.when_pos (show (s.at t).doeOpen req = true from h.isOpen)]
  refine if_neg fun hall => ?_
  simp only [Bool.and_eq_true] at hall
  obtain ⟨⟨hversion, halgorithms⟩, hok⟩ := hall
  rcases hbad with hb | hb | hb
  · exact Bool.false_ne_true (hb.symm.trans hversion)
  · exact Bool.false_ne_true (hb.symm.trans halgorithms)
  · exact Bool.false_ne_true (hb.symm.trans hok)

theorem getVersion_tells (h : s.Takes req) : s.Tells req (.getVersion req t) 1 [0x12] [] :=
  State.tells_of (exec_getVersion req t s) (p := { s.pcie with spdmTranscript := [], spdmVersion := true, spdmAlgorithms := false })
    (State.when_pos (show (s.at t).doeOpen req = true from h.isOpen) ..) rfl

theorem getCapabilities_tells (h : s.Takes req) : s.Tells req (.getCapabilities req t) (if s.pcie.spdmVersion then 2 else 0xFF)
    (if s.pcie.spdmVersion then [1, 1, 2] else []) s.pcie.spdmTranscript := by
  refine State.tells_of (exec_getCapabilities req t s) (p := s.pcie)
    ((State.when_pos (show (s.at t).doeOpen req = true from h.isOpen) ..).trans ?_) rfl
  show (if s.pcie.spdmVersion then _ else _) = _
  cases s.pcie.spdmVersion <;> rfl

theorem negotiate_tells (h : s.Takes req) (hversion : s.pcie.spdmVersion = true) :
    s.Tells req (.negotiateAlgorithms req true true false t) 3 [1, 1] s.pcie.spdmTranscript := by
  refine State.tells_of (exec_negotiateAlgorithms req true true false t s) (p := { s.pcie with spdmAlgorithms := true })
    ((State.when_pos (show (s.at t).doeOpen req = true from h.isOpen) ..).trans ?_) rfl
  exact if_pos (show (s.pcie.spdmVersion && true && true && !false) = true by rw [hversion]; rfl)

theorem negotiate_error (h : s.Takes req) {a b sign : Bool}
    (hbad : (s.pcie.spdmVersion && a && b && !sign) = false) :
    s.Tells req (.negotiateAlgorithms req a b sign t) 0xFF [] s.pcie.spdmTranscript := by
  refine State.tells_of (exec_negotiateAlgorithms req a b sign t s) (p := s.pcie)
    ((State.when_pos (show (s.at t).doeOpen req = true from h.isOpen) ..).trans ?_) rfl
  exact if_neg (Bool.eq_false_iff.mp hbad)

theorem getMeasurements_eq (k : Nat) (sign : Bool) : State.getMeasurements k sign req (s.at t) =
    (s.at t).spdm 7 req ((if k = 0xFF then some s.measurements else s.measurement k).isSome && (!sign || s.hub.secretsKeys))
      ((if k = 0xFF then some s.measurements else s.measurement k).getD [] ++
        if sign then s.identitySign (s.pcie.spdmTranscript ++ req ++
          (if k = 0xFF then some s.measurements else s.measurement k).getD []) else []) := rfl

/-- A request that finds the responder closed does nothing. -/
theorem closed_ignores (hrow : exec i s = ranAt true t s f) {g : State → State}
    (hf : f (s.at t) = (s.at t).when_ ((s.at t).doeOpen req) g) (hclosed : s.doeOpen req = false) :
    ∃ s', exec i s = .next s' ∧ { s' with time := s.time } = s := by
  refine ⟨_, hrow.trans (ranAt_pos rfl ..), ?_⟩
  rw [hf, State.when_neg (show (s.at t).doeOpen req = false from hclosed)]
  rfl

/-- The requests behind the negotiation, where it was made. -/
theorem spdmRequests_tell (h : s.Takes req) (hversion : s.pcie.spdmVersion = true) (halgorithms : s.pcie.spdmAlgorithms = true)
    (k off len : Nat) (sign : Bool) :
    (s.boot.certOk = true → s.Tells req (.getDigests req t) 4 (sha512 s.flash.certChain) s.pcie.spdmTranscript) ∧
    (s.boot.certOk = false → s.Tells req (.getDigests req t) 0xFF [] s.pcie.spdmTranscript ∧
      s.Tells req (.challenge k req t) 0xFF [] s.pcie.spdmTranscript) ∧
    (s.boot.certOk = true → off < s.flash.certChain.length →
      s.Tells req (.getCertificate 0 off len req t) 5 ((s.flash.certChain.drop off).take len) s.pcie.spdmTranscript) ∧
    (k ≠ 0 → s.Tells req (.getCertificate k off len req t) 0xFF [] s.pcie.spdmTranscript ∧
      s.Tells req (.challenge k req t) 0xFF [] s.pcie.spdmTranscript) ∧
    (s.boot.certOk = true → s.hub.secretsKeys = true → s.Tells req (.challenge 0 req t) 6
      (sha512 s.flash.certChain ++ s.measurements ++ s.identitySign (s.pcie.spdmTranscript ++ req ++ s.measurements))
        s.pcie.spdmTranscript) ∧
    (s.hub.secretsKeys = false → s.Tells req (.challenge 0 req t) 0xFF [] s.pcie.spdmTranscript) ∧
    (∀ j m, j ≠ 0xFF → s.measurement j = some m → s.Tells req (.getMeasurements j false req t) 7 m s.pcie.spdmTranscript) ∧
    (∀ j, j ≠ 0xFF → s.measurement j = none → s.Tells req (.getMeasurements j sign req t) 0xFF [] s.pcie.spdmTranscript) ∧
    s.Tells req (.getMeasurements 0xFF false req t) 7 s.measurements s.pcie.spdmTranscript ∧
    (s.hub.secretsKeys = true → s.Tells req (.getMeasurements 0xFF true req t) 7
      (s.measurements ++ s.identitySign (s.pcie.spdmTranscript ++ req ++ s.measurements)) s.pcie.spdmTranscript) ∧
    (s.hub.secretsKeys = false → s.Tells req (.getMeasurements 0xFF true req t) 0xFF [] s.pcie.spdmTranscript) := by
  have htell {i : Instr} {f : State → State} {code : Nat} {ok : Bool} {content : List Byte} :=
    State.tells_spdm (i := i) (f := f) (code := code) (ok := ok) (content := content) (t := t) h hversion halgorithms
  have herror {i : Instr} {f : State → State} {code : Nat} {ok : Bool} {content : List Byte} (hrow : exec i s = ranAt true t s f)
      (hf : f (s.at t) = (s.at t).spdm code req ok content) (hbad : ok = false) :=
    State.tells_spdmError (t := t) h hrow hf (.inr (.inr hbad))
  have hmeasure (j : Nat) (sg : Bool) := getMeasurements_eq (s := s) (t := t) (req := req) j sg
  refine ⟨htell (exec_getDigests req t s) rfl, fun hcert => ⟨herror (exec_getDigests req t s) rfl hcert,
      herror (exec_challenge k req t s) rfl ?_⟩, fun hcert hoff => htell (exec_getCertificate 0 off len req t s) rfl ?_,
    fun hk => ⟨herror (exec_getCertificate k off len req t s) rfl ?_, herror (exec_challenge k req t s) rfl ?_⟩,
    fun hcert hkeys => htell (exec_challenge 0 req t s) rfl ?_, fun hkeys => herror (exec_challenge 0 req t s) rfl ?_,
    fun j m hj hm => ?_, fun j hj hm => ?_, ?_, fun hkeys => ?_, fun hkeys => ?_⟩
  · show (s.boot.certOk && s.hub.secretsKeys && k == 0) = false
    rw [hcert]; rfl
  · show (s.boot.certOk && 0 == 0 && decide (off < s.flash.certChain.length)) = true
    rw [hcert, decide_eq_true hoff]; rfl
  · show (s.boot.certOk && k == 0 && decide (off < s.flash.certChain.length)) = false
    simp [hk]
  · show (s.boot.certOk && s.hub.secretsKeys && k == 0) = false
    simp [hk]
  · show (s.boot.certOk && s.hub.secretsKeys && 0 == 0) = true
    rw [hcert, hkeys]; rfl
  · show (s.boot.certOk && s.hub.secretsKeys && 0 == 0) = false
    rw [hkeys, Bool.and_false]; rfl
  · have heq := hmeasure j false
    rw [if_neg hj, hm] at heq
    simp only [Option.getD_some, Bool.false_eq_true, if_false, List.append_nil] at heq
    exact htell (exec_getMeasurements j false req t s) heq rfl
  · have heq := hmeasure j sign
    rw [if_neg hj, hm] at heq
    exact herror (exec_getMeasurements j sign req t s) heq rfl
  · have heq := hmeasure 0xFF false
    rw [if_pos rfl] at heq
    simp only [Option.getD_some, Bool.false_eq_true, if_false, List.append_nil] at heq
    exact htell (exec_getMeasurements 0xFF false req t s) heq rfl
  · have heq := hmeasure 0xFF true
    rw [if_pos rfl] at heq
    exact htell (exec_getMeasurements 0xFF true req t s) heq hkeys
  · have heq := hmeasure 0xFF true
    rw [if_pos rfl] at heq
    exact herror (exec_getMeasurements 0xFF true req t s) heq hkeys

/-- The requests behind the negotiation are errors before it. -/
theorem spdmRequests_error (h : s.Takes req) (hearly : s.pcie.spdmVersion = false ∨ s.pcie.spdmAlgorithms = false)
    (k off len : Nat) (sign : Bool) :
    ∀ i ∈ [Instr.getDigests req t, .getCertificate k off len req t, .challenge k req t, .getMeasurements k sign req t],
      s.Tells req i 0xFF [] s.pcie.spdmTranscript := by
  have hbad {ok : Bool} : s.pcie.spdmVersion = false ∨ s.pcie.spdmAlgorithms = false ∨ ok = false :=
    hearly.elim .inl fun h => .inr (.inl h)
  simp only [List.forall_mem_cons, List.not_mem_nil, false_implies, implies_true, and_true]
  exact ⟨State.tells_spdmError h (exec_getDigests req t s) rfl hbad,
    State.tells_spdmError h (exec_getCertificate k off len req t s) rfl hbad,
    State.tells_spdmError h (exec_challenge k req t s) rfl hbad,
    State.tells_spdmError h (exec_getMeasurements k sign req t s) (getMeasurements_eq k sign) hbad⟩

theorem doeDiscovery_names (hup : s.boot.cfwUp = true) (hlink : s.pcie.linkA.up = true) {k : Nat} (hk : k ≤ 1) :
    ∃ s', exec (.doeDiscovery k t) s = .next s' ∧
      s'.pcie.doeResponse = le 2 1 ++ le 1 k ++ le 1 (if k = 0 then 1 else 0) ∧
      { s' with time := s.time, pcie := { s'.pcie with doeResponse := s.pcie.doeResponse } } = s := by
  have hopen : (s.at t).doeOpen [] = true := State.Takes.isOpen (s := s) ⟨hup, hlink, by decide⟩
  have heq : State.doeDiscovery k (s.at t) = _ := State.when_pos hopen ..
  refine ⟨_, (exec_doeDiscovery k t s).trans (ranAt_pos (by simp [below]; omega) ..), ?_⟩
  rw [heq]
  exact ⟨if_pos hk, rfl⟩

theorem doeAbort_empties : ∃ s', exec (.doeAbort t) s = .next s' ∧
    s'.pcie = { s.pcie with doeBusy := none, doeResponse := [] } ∧ { s' with time := s.time, pcie := s.pcie } = s :=
  ⟨_, (exec_doeAbort t s).trans (ranAt_pos rfl ..), rfl, rfl⟩

theorem doeClosed_ignores (hclosed : s.boot.cfwUp = false ∨ 4096 < req.length) :
    ∀ i ∈ [Instr.getVersion req t, .getCapabilities req t, .getDigests req t, .challenge 0 req t],
      ∃ s', exec i s = .next s' ∧ { s' with time := s.time } = s := by
  have hno : s.doeOpen req = false := by
    rcases hclosed with h | h
    · simp [State.doeOpen, h]
    · simp [State.doeOpen, h]
  simp only [List.forall_mem_cons, List.not_mem_nil, false_implies, implies_true, and_true]
  exact ⟨closed_ignores (exec_getVersion req t s) rfl hno, closed_ignores (exec_getCapabilities req t s) rfl hno,
    closed_ignores (exec_getDigests req t s) rfl hno, closed_ignores (exec_challenge 0 req t s) (by rw [State.challenge, State.spdm]) hno⟩

end

/-- Settles O60. -/
theorem spdmAndDoe : Obligations.SpdmAndDoe := by
  unfold Obligations.SpdmAndDoe
  refine ⟨fun s req a b k off len sign t hup hlink hlen => ?_, fun s req t => ⟨fun hup hlink => ⟨?_, ?_⟩, doeAbort_empties,
    doeClosed_ignores⟩⟩
  · have h : s.Takes req := ⟨hup, hlink, hlen⟩
    refine ⟨getVersion_tells h, getCapabilities_tells h, negotiate_tells h, fun hbad => negotiate_error h ?_,
      negotiate_error h (by simp), fun hversion halgorithms => spdmRequests_tell h hversion halgorithms k off len sign,
      fun hearly => spdmRequests_error h hearly k off len sign⟩
    rcases hbad with hb | hb | hb <;> simp [hb]
  · exact doeDiscovery_names hup hlink (Nat.zero_le 1)
  · exact doeDiscovery_names hup hlink (Nat.le_refl 1)

end Sys2Proof.Machine
end

section
/-!
SUPPORT. The obligation on register writes (R16, R355, R360, R364, R474).
-/
namespace Sys2Proof.Machine

/-! ## Bits of a W1C register -/

theorem bit_eq_testBit (v i : Nat) : bit v i = v.testBit i := by
  simp [bit, Nat.testBit_eq_decide_div_mod_eq, beq_eq_decide]

theorem bit_and (a b i : Nat) : bit (a &&& b) i = (bit a i && bit b i) := by simp [bit_eq_testBit]

theorem bit_xor (a b i : Nat) : bit (a ^^^ b) i = (bit a i ^^ bit b i) := by simp [bit_eq_testBit]

/-- A one clears the bit; a set of the same cycle wins (R16). -/
theorem bit_w1c (old w hw i : Nat) : bit (w1c old w hw) i = ((bit old i && !bit w i) || bit hw i) := by
  rw [w1c, bit_or, bit_and, bit_xor]
  cases bit old i <;> cases bit w i <;> rfl

theorem bit_w1c_masked {old mask value hw i : Nat} (hmask : bit mask i = true) :
    bit (w1c old (value &&& mask) (hw &&& mask)) i = ((bit old i && !bit value i) || bit hw i) := by
  rw [bit_w1c, bit_and, bit_and, hmask, Bool.and_true, Bool.and_true]

theorem getD_modify_self {α : Type} {l : List α} {i : Nat} (h : i < l.length) (f : α → α) (d : α) :
    (l.modify i f).getD i d = f (l.getD i d) := by simp [List.getD, h]

theorem getD_modify_ne {α : Type} {i j : Nat} (h : i ≠ j) (l : List α) (f : α → α) (d : α) :
    (l.modify i f).getD j d = l.getD j d := by simp [h]

section
variable {s : State} {t fn off size value hw : Nat}

/-! ## BAR0 -/

theorem State.registerWrite_bar0 (hup : (s.linkOf fn).up = true) (hvalue : value < 2 ^ 32) (hhw : hw < 2 ^ 32)
    (halign : off % 4 = 0) : State.registerWrite .bar0 fn off 4 value hw s = s.writeBar0 fn off value hw := by
  unfold State.registerWrite
  dsimp only
  rw [if_neg (by simp [hup]), if_pos ⟨rfl, halign⟩, Nat.mod_eq_of_lt hvalue, Nat.mod_eq_of_lt hhw]

/-- The three W1C bits of TIME_STATUS as its word. -/
def TimeBase.w1c (b : TimeBase) : Nat := flag b.stepDeferred 5 + flag b.ppsReject 4 + flag b.srcLost 3

theorem TimeBase.bit_w1c (b : TimeBase) :
    bit b.w1c 3 = b.srcLost ∧ bit b.w1c 4 = b.ppsReject ∧ bit b.w1c 5 = b.stepDeferred := by
  unfold TimeBase.w1c
  cases b.stepDeferred <;> cases b.ppsReject <;> cases b.srcLost <;> exact ⟨rfl, rfl, rfl⟩

theorem timeStatusWrite_clears (hvalue : value < 2 ^ 32) (hhw : hw < 2 ^ 32) (hup : s.pcie.linkA.up = true) :
    ∃ s', exec (.registerWrite .bar0 0 0x0010 4 value hw t) s = .next s' ∧
      s'.time.srcLost = ((s.time.srcLost && !bit value 3) || bit hw 3) ∧
      s'.time.ppsReject = ((s.time.ppsReject && !bit value 4) || bit hw 4) ∧
      s'.time.stepDeferred = ((s.time.stepDeferred && !bit value 5) || bit hw 5) ∧
      (s.hub.counters.length = 32 → s'.hub.counters.getD 13 0 =
        (s.hub.counters.getD 13 0 + popCount ((value &&& 0x38) &&& (hw &&& 0x38)) 32) % 2 ^ 48) ∧
      { s' with time := s.time, hub := s.hub } = s ∧ { s'.hub with counters := s.hub.counters } = s.hub := by
  obtain ⟨h3, h4, h5⟩ := s.time.bit_w1c
  have heq : State.registerWrite .bar0 0 0x0010 4 value hw (s.at t) = (s.at t).writeBar0 0 0x0010 value hw :=
    State.registerWrite_bar0 (s := s.at t) (by rw [State.linkOf_zero]; exact hup) hvalue hhw rfl
  refine ⟨_, (exec_registerWrite .bar0 0 0x0010 4 value hw t s).trans
    (ranAt_pos (by simp [registerWriteOk, fnOk, below]; omega) ..), ?_⟩
  rw [heq]
  refine ⟨(bit_w1c_masked rfl).trans ?_, (bit_w1c_masked rfl).trans ?_, (bit_w1c_masked rfl).trans ?_, fun hlen => ?_, rfl, rfl⟩
  · exact congrArg (fun b => (b && !bit value 3) || bit hw 3) h3
  · exact congrArg (fun b => (b && !bit value 4) || bit hw 4) h4
  · exact congrArg (fun b => (b && !bit value 5) || bit hw 5) h5
  · show (s.hub.counters.modify 13 _).getD 13 0 = _
    rw [getD_modify_self (by omega)]
    rfl

theorem barWrite_wrongSize (hfns : s.pcie.fns.length = 17) (hvalue : value < 2 ^ 32) (hhw : hw < 2 ^ 32) (hfn : fn < 17)
    (hup : (s.linkOf fn).up = true) (hoff : off < 65536) (hone : 1 ≤ size) (height : size ≤ 8) (h4 : size ≠ 4) (h8 : size ≠ 8) :
    ∃ s', exec (.registerWrite .bar0 fn off size value hw t) s = .next s' ∧
      (s'.fnS fn).discard = min ((s.fnS fn).discard + 1) 65535 ∧ { s' with time := s.time, pcie := s.pcie } = s := by
  have hget := (State.fnS_modFn (s.at t) fn (fun f => { f with discard := satU 16 (f.discard + 1) })
    (show fn < s.pcie.fns.length by omega) fn).trans (if_pos rfl)
  have heq : State.registerWrite .bar0 fn off size value hw (s.at t) = (s.at t).discard fn := by
    unfold State.registerWrite
    dsimp only
    rw [if_neg (by rw [show ((s.at t).linkOf fn).up = true from hup]; decide), if_neg (fun h => h4 h.1), if_neg (fun h => h8 h.1)]
  refine ⟨_, (exec_registerWrite .bar0 fn off size value hw t s).trans
    (ranAt_pos (by simp [registerWriteOk, fnOk, below]; omega) ..), ?_⟩
  rw [heq]
  exact ⟨(congrArg FnState.discard hget :), rfl⟩

theorem barWrite_linkDown (hvalue : value < 2 ^ 32) (hhw : hw < 2 ^ 32) (hfn : fn < 17)
    (hdown : (s.linkOf fn).up = false) (hoff : off < 65536) (hone : 1 ≤ size) (height : size ≤ 8) :
    ∃ s', exec (.registerWrite .bar0 fn off size value hw t) s = .next s' ∧ { s' with time := s.time } = s := by
  have heq : State.registerWrite .bar0 fn off size value hw (s.at t) = s.at t := by
    unfold State.registerWrite
    dsimp only
    rw [if_pos (by rw [show ((s.at t).linkOf fn).up = false from hdown]; rfl)]
  refine ⟨_, (exec_registerWrite .bar0 fn off size value hw t s).trans
    (ranAt_pos (by simp [registerWriteOk, fnOk, below]; omega) ..), ?_⟩
  rw [heq]
  rfl

/-! ## BAR4 -/

theorem State.discard_fnS {s : State} (hfns : s.pcie.fns.length = 17) (hfn : fn < 17) :
    ((s.discard fn).fnS fn).discard = min ((s.fnS fn).discard + 1) 65535 :=
  congrArg FnState.discard ((State.fnS_modFn s fn (fun f => { f with discard := satU 16 (f.discard + 1) }) (by omega) fn).trans
    (if_pos rfl))

/-- A pair of writes that discards once or twice is counted as one discard (R364). -/
theorem State.onePairDiscard_leaves (hfns : s.pcie.fns.length = 17) (hfn : fn < 17) {f : State → State}
    (hf : f s = s.discard fn ∨ f s = (s.discard fn).discard fn) :
    ((s.onePairDiscard fn f).fnS fn).discard = min ((s.fnS fn).discard + 1) 65535 ∧
      { s.onePairDiscard fn f with pcie := s.pcie } = s := by
  have hone := State.discard_fnS hfns hfn
  have hlen : (s.discard fn).pcie.fns.length = 17 := (List.length_modify ..).trans hfns
  have htwo := State.discard_fnS hlen hfn
  have hlen₂ : ((s.discard fn).discard fn).pcie.fns.length = 17 := (List.length_modify ..).trans hlen
  have hset (x : State) (hx : x.pcie.fns.length = 17) (n : Nat) :
      ((x.modFn fn fun y => { y with discard := n }).fnS fn).discard = n :=
    congrArg FnState.discard ((State.fnS_modFn x fn (fun y => { y with discard := n }) (by omega) fn).trans (if_pos rfl))
  rw [hone] at htwo
  unfold State.onePairDiscard
  dsimp only
  rcases hf with hf | hf
  · rw [hf, hone]
    split
    · rw [hset _ hlen]
      exact ⟨by omega, rfl⟩
    · exact ⟨hone, rfl⟩
  · rw [hf, htwo]
    split
    · rw [hset _ hlen₂]
      exact ⟨by omega, rfl⟩
    · exact ⟨by omega, rfl⟩

/-- The offset of register `o` in a cluster's block. -/
theorem cluBlock_split {p o : Nat} (ho : o < 0x1000) :
    (0x140000 + 0x1000 * p + o - 0x140000) / 0x1000 = p ∧ (0x140000 + 0x1000 * p + o) % 0x1000 = o := by
  omega

theorem State.writeBar4_clu {p o : Nat} (hp : p < 64) (ho : o < 0x1000) (hen : s.enabled p = true) :
    s.writeBar4 (0x140000 + 0x1000 * p + o) value hw =
      if o = 0x140 then
        s.w1cWrite (s.cl p).arithFlags 0xFF value hw fun v s => s.modCl p fun c => { c with arithFlags := v }
      else if o = 0x1C0 then
        s.w1cWrite (flag (s.cl p).test.bgtLate 25 + flag (s.cl p).test.bgtFail 24) 0x3000000 value hw fun v s =>
          s.modCl p fun c => { c with test := { c.test with bgtLate := bit v 25, bgtFail := bit v 24 } }
      else if 0x300 ≤ o ∧ o < 0x344 then s.discard 0
      else s := by
  obtain ⟨hdiv, hmod⟩ := cluBlock_split (p := p) ho
  unfold State.writeBar4
  rw [if_neg (by omega), if_neg (by omega), if_neg (by omega), if_pos (by omega)]
  dsimp only
  rw [hdiv, hmod, if_neg (by simp [hen])]

theorem cluRegion_discards (hfns : s.pcie.fns.length = 17) (hvalue : value < 2 ^ 32) (hhw : hw < 2 ^ 32) {p : Nat} (hp : p < 64)
    (hen : s.enabled p = true) (hup : s.pcie.linkA.up = true) (hoff : off < 0x44) :
    ∃ s', exec (.registerWrite .bar4 0 (0x140000 + 0x1000 * p + 0x300 + off / 8 * 8) 8 value hw t) s = .next s' ∧
      (s'.fnS 0).discard = min ((s.fnS 0).discard + 1) 65535 ∧ { s' with time := s.time, pcie := s.pcie } = s := by
  have hplace : 0x140000 + 0x1000 * p + 0x300 + off / 8 * 8 = 0x140000 + 0x1000 * p + (0x300 + off / 8 * 8) := by omega
  have hnext : 0x140000 + 0x1000 * p + (0x300 + off / 8 * 8) + 4 = 0x140000 + 0x1000 * p + (0x304 + off / 8 * 8) := by omega
  have hlow (v h : Nat) : (s.at t).writeBar4 (0x140000 + 0x1000 * p + (0x300 + off / 8 * 8)) v h = (s.at t).discard 0 := by
    rw [State.writeBar4_clu (s := s.at t) hp (by omega) hen, if_neg (by omega), if_neg (by omega), if_pos (by omega)]
  have hhigh (v h : Nat) : ((s.at t).discard 0).writeBar4 (0x140000 + 0x1000 * p + (0x304 + off / 8 * 8)) v h =
      if 0x304 + off / 8 * 8 < 0x344 then ((s.at t).discard 0).discard 0 else (s.at t).discard 0 := by
    rw [State.writeBar4_clu (s := (s.at t).discard 0) hp (by omega) hen, if_neg (by omega), if_neg (by omega)]
    split
    · next h => rw [if_pos h.2]
    · next h => rw [if_neg (by omega)]
  have heq : State.registerWrite .bar4 0 (0x140000 + 0x1000 * p + (0x300 + off / 8 * 8)) 8 value hw (s.at t) =
      (s.at t).onePairDiscard 0 fun s =>
        (s.writeBar4 (0x140000 + 0x1000 * p + (0x300 + off / 8 * 8)) (value % 2 ^ 32) (hw % 2 ^ 32)).writeBar4
          (0x140000 + 0x1000 * p + (0x300 + off / 8 * 8) + 4) (value / 2 ^ 32) (hw / 2 ^ 32) := by
    unfold State.registerWrite
    dsimp only
    rw [if_neg (by rw [State.linkOf_zero, show (s.at t).pcie.linkA.up = true from hup]; decide), if_neg (by omega),
      if_pos ⟨rfl, by omega⟩]
  have hpair := State.onePairDiscard_leaves (s := s.at t) (fn := 0) hfns (by omega) (f := fun s =>
    (s.writeBar4 (0x140000 + 0x1000 * p + (0x300 + off / 8 * 8)) (value % 2 ^ 32) (hw % 2 ^ 32)).writeBar4
      (0x140000 + 0x1000 * p + (0x300 + off / 8 * 8) + 4) (value / 2 ^ 32) (hw / 2 ^ 32)) (by
    rw [hlow, hnext, hhigh]
    split
    · exact .inr rfl
    · exact .inl rfl)
  obtain ⟨hcount, hrest⟩ := hpair
  rw [hplace]
  refine ⟨_, (exec_registerWrite .bar4 0 (0x140000 + 0x1000 * p + (0x300 + off / 8 * 8)) 8 value hw t s).trans
    (ranAt_pos (by simp [registerWriteOk, fnOk, below]; omega) ..), ?_⟩
  rw [heq]
  exact ⟨hcount, congrArg (fun x : State => { x with time := s.time, pending := s.pending }) hrest⟩

theorem arithFlagsWrite_clears (hvalue : value < 2 ^ 32) (hhw : hw < 2 ^ 32) {p : Nat} (hp : p < 64)
    (hlen : s.clusters.length = 64) (hen : s.enabled p = true) (hup : s.pcie.linkA.up = true) :
    ∃ s', exec (.registerWrite .bar4 0 (0x140000 + 0x1000 * p + 0x140) 4 value hw t) s = .next s' ∧
      (∀ i < 8, bit (s'.cl p).arithFlags i = ((bit (s.cl p).arithFlags i && !bit value i) || bit hw i)) ∧
      (∀ q, q ≠ p → s'.cl q = s.cl q) ∧ { s' with time := s.time, clusters := s.clusters, hub := s.hub } = s := by
  have heq : State.registerWrite .bar4 0 (0x140000 + 0x1000 * p + 0x140) 4 value hw (s.at t) =
      (s.at t).w1cWrite (s.cl p).arithFlags 0xFF value hw fun v s => s.modCl p fun c => { c with arithFlags := v } := by
    unfold State.registerWrite
    dsimp only
    rw [if_neg (by rw [State.linkOf_zero, show (s.at t).pcie.linkA.up = true from hup]; decide), if_pos ⟨rfl, by omega⟩,
      Nat.mod_eq_of_lt hvalue, Nat.mod_eq_of_lt hhw, State.writeBar4_clu (s := s.at t) hp (by omega) hen, if_pos rfl]
    rfl
  have hcl (c : Nat) := State.cl_modCl (s := s.at t) (show p < s.clusters.length by omega)
    (fun x => { x with arithFlags := c })
  refine ⟨_, (exec_registerWrite .bar4 0 (0x140000 + 0x1000 * p + 0x140) 4 value hw t s).trans
    (ranAt_pos (by simp [registerWriteOk, fnOk, below]; omega) ..), ?_⟩
  rw [heq]
  refine ⟨fun i hi => ?_, fun q hq => ?_, rfl⟩
  · refine (congrArg (fun c : Cluster => bit c.arithFlags i) (hcl _)).trans (bit_w1c_masked ?_)
    interval_cases i <;> rfl
  · exact getD_modify_ne (by omega) ..

end

end Sys2Proof.Machine
end

section
/-!
SUPPORT. Register writes of the configuration space and the SMBus, and HUB_RESET (R355, R370, R372, R474).
-/
namespace Sys2Proof.Machine

section
variable {s : State} {t fn off size value hw : Nat}

/-! ## Configuration space -/

/-- The four spaces whose writes change the function's fields alone. -/
theorem registerWrite_config {sp : RegSpace} (hsp : sp ∈ [RegSpace.deviceControl, .deviceControl2, .linkControl, .aerControl])
    (x : State) : State.registerWrite sp fn off size value hw x = x.modFn fn (fun f => f.configWrite sp value) ∧
      registerWriteOk sp fn off size value hw = registerWriteOk .msixControl fn off size value hw := by
  simp only [List.mem_cons, List.not_mem_nil, or_false] at hsp
  rcases hsp with rfl | rfl | rfl | rfl <;> exact ⟨rfl, rfl⟩

theorem msixControl_ok (hvalue : value < 2 ^ 32) (hhw : hw < 2 ^ 32) (hfn : fn < 17) (hone : 1 ≤ size) (height : size ≤ 8) :
    registerWriteOk .msixControl fn off size value hw = true := by
  simp [registerWriteOk, fnOk, below]
  omega

theorem configWrite_sets (hfns : s.pcie.fns.length = 17) (hvalue : value < 2 ^ 32) (hhw : hw < 2 ^ 32) (hfn : fn < 17)
    (hone : 1 ≤ size) (height : size ≤ 8) :
    ∀ sp ∈ [RegSpace.deviceControl, .deviceControl2, .linkControl, .aerControl],
      ∃ s', exec (.registerWrite sp fn off size value hw t) s = .next s' ∧
        s'.fnS fn = (s.fnS fn).configWrite sp value ∧ (∀ f, f ≠ fn → s'.fnS f = s.fnS f) ∧
        { s' with time := s.time, pcie := { s'.pcie with fns := s.pcie.fns } } = s := by
  intro sp hsp
  obtain ⟨heq, hok⟩ := registerWrite_config (fn := fn) (off := off) (size := size) (value := value) (hw := hw) hsp (s.at t)
  have hget := State.fnS_modFn (s.at t) fn (fun f => f.configWrite sp value) (show fn < s.pcie.fns.length by omega)
  refine ⟨_, (exec_registerWrite sp fn off size value hw t s).trans
    (ranAt_pos (hok.trans (msixControl_ok hvalue hhw hfn hone height)) ..), ?_⟩
  rw [heq]
  exact ⟨(hget fn).trans (if_pos rfl), fun f hf => (hget f).trans (if_neg hf), rfl⟩

/-- A vector is sent neither while MSI-X is disabled nor while the function is masked. -/
theorem State.msixFlush_closed {x : State} {fn : Nat}
    (h : (x.fnS fn).pendingBits = [] ∨ (x.fnS fn).msixEnabled = false ∨ (x.fnS fn).msixFnMask = true) : x.msixFlush fn = x := by
  unfold State.msixFlush
  rcases h with hnone | hclosed
  · rw [hnone]
    rfl
  · have hopen (v : Nat) : x.msixOpen fn v = false := by
      unfold State.msixOpen
      rcases hclosed with h | h <;> simp [h]
    refine State.foldl_inv (· = x) _ (fun y v hy => ?_) _ x rfl
    subst hy
    exact if_neg (Bool.eq_false_iff.mp (hopen v))

theorem msixControlWrite_sets (hfns : s.pcie.fns.length = 17) (hvalue : value < 2 ^ 32) (hhw : hw < 2 ^ 32) (hfn : fn < 17)
    (hone : 1 ≤ size) (height : size ≤ 8) :
    ∃ s', exec (.registerWrite .msixControl fn off size value hw t) s = .next s' ∧
      (s'.fnS fn).msixEnabled = bit value 15 ∧ (s'.fnS fn).msixFnMask = bit value 14 ∧
      ((s.fnS fn).pendingBits = [] ∨ bit value 15 = false ∨ bit value 14 = true → s'.pcie.sent = s.pcie.sent ∧
        s'.host = s.host) ∧
      { s' with time := s.time, pcie := s.pcie, host := s.host } = s := by
  have hget := (State.fnS_modFn (s.at t) fn (fun f => f.configWrite .msixControl value)
    (show fn < s.pcie.fns.length by omega) fn).trans (if_pos rfl)
  have hcore := State.fnS_core (State.msixFlush_pcieCore fn ((s.at t).modFn fn fun f => f.configWrite .msixControl value)) fn
  rw [hget] at hcore
  have heq : State.registerWrite .msixControl fn off size value hw (s.at t) =
      ((s.at t).modFn fn fun f => f.configWrite .msixControl value).msixFlush fn := rfl
  refine ⟨_, (exec_registerWrite .msixControl fn off size value hw t s).trans
    (ranAt_pos (msixControl_ok hvalue hhw hfn hone height) ..), ?_⟩
  rw [heq]
  refine ⟨(congrArg FnState.msixEnabled hcore :), (congrArg FnState.msixFnMask hcore :), fun hquiet => ?_, ?_⟩
  · have hsame := State.msixFlush_closed (x := (s.at t).modFn fn fun f => f.configWrite .msixControl value) (fn := fn)
      (by rw [hget]; exact hquiet)
    rw [hsame]
    exact ⟨rfl, rfl⟩
  · apply State.ext_parts <;> simp

/-! ## SMBus and HUB_RESET -/

theorem limitWrite_sets (hvalue : value < 2 ^ 32) (hhw : hw < 2 ^ 32) (hfn : fn < 17) :
    ∃ s', exec (.registerWrite .smbus fn 6 4 value hw t) s = .next s' ∧
      s'.aon = { s.aon with limit := max 150 (min 420 (value % 65536)) } ∧ { s' with time := s.time, aon := s.aon } = s := by
  have heq : State.registerWrite .smbus fn 6 4 value hw (s.at t) =
      (s.at t).modAon fun a => { a with limit := max 150 (min 420 (value % 65536)) } := by
    unfold State.registerWrite
    dsimp only
    rw [if_pos rfl, Nat.mod_eq_of_lt hvalue]
    rfl
  refine ⟨_, (exec_registerWrite .smbus fn 6 4 value hw t s).trans
    (ranAt_pos (by simp [registerWriteOk, fnOk, below]; omega) ..), ?_⟩
  rw [heq]
  exact ⟨rfl, rfl⟩

theorem hubReset_ignored (hvalue : value < 2 ^ 32) (hfn : fn < 17) (h : value / 65536 ≠ 0x5741 ∨ fn ≠ 0 ∨ value % 2 = 0) :
    ∃ s', exec (.hubResetWarm fn value t) s = .next s' ∧ { s' with time := s.time } = s := by
  have heq : State.hubReset fn value (s.at t) = s.at t := if_neg (by omega)
  refine ⟨_, (exec_hubResetWarm fn value t s).trans (ranAt_pos (by simp [fnOk, below]; omega) ..), ?_⟩
  rw [heq]
  rfl

/-- What HUB_RESET resets: the state with the loss of a running class-S session detected. -/
def State.hubResetSeen (s : State) : State :=
  if s.classSIn fun st => st == 3 || st == 4 then s.detect 0x0014 0xFF 0xFF 0xFF (le 16 s.classSFn) else s

theorem State.hubReset_eq (hkey : value / 65536 = 0x5741) (hwarm : value % 2 = 1) (hup : s.pcie.linkA.up = true) :
    State.hubReset 0 value s = s.hubResetSeen.warmReset 0x0014 :=
  if_pos ⟨rfl, hkey, hwarm, by rw [State.linkOf_zero]; exact hup⟩

theorem hubReset_resets (hvalue : value < 2 ^ 32) (hkey : value / 65536 = 0x5741) (hwarm : value % 2 = 1)
    (hup : s.pcie.linkA.up = true) (hclass : ∀ y ∈ s.sessions, y.classS = true → y.state ≠ 3 ∧ y.state ≠ 4) :
    ∃ s', exec (.hubResetWarm 0 value t) s = .next s' ∧ (∀ i < 16, (s'.ses i).state = 0) ∧ s'.streams = [] ∧
      s'.boot.cfwUp = false ∧ s'.safety.resetUnderWay = true ∧ s'.safety.latch = s.safety.latch ∧
      s'.time.now = max s.time.now t ∧ s'.part = s.part ∧ s'.flash = s.flash ∧ s'.aon = s.aon := by
  have hseen : (s.at t).hubResetSeen = s.at t := by
    refine if_neg (Bool.eq_false_iff.mp (List.any_eq_false.mpr fun y hy hbad => ?_))
    simp only [Bool.and_eq_true, Bool.or_eq_true, beq_iff_eq] at hbad
    obtain ⟨hy3, hy4⟩ := hclass y hy hbad.1
    exact hbad.2.elim hy3 hy4
  have heq := State.hubReset_eq (s := s.at t) hkey hwarm hup
  rw [hseen] at heq
  obtain ⟨hses, hstreams, hcfw, hpart, hflash, haon, hnow⟩ := (s.at t).warmReset_leaves 0x0014
  have hsafety := State.warmReset_safety 0x0014 (s.at t)
  refine ⟨_, (exec_hubResetWarm 0 value t s).trans (ranAt_pos (by simp [fnOk, below]; omega) ..), ?_⟩
  rw [heq]
  generalize (s.at t).warmReset 0x0014 = x at hses hstreams hcfw hpart hflash haon hnow hsafety
  exact ⟨hses, hstreams, hcfw, congrArg Safety.resetUnderWay hsafety, (congrArg Safety.latch hsafety :), hnow, hpart, hflash, haon⟩

theorem hubReset_latches (hvalue : value < 2 ^ 32) (hkey : value / 65536 = 0x5741) (hwarm : value % 2 = 1)
    (hup : s.pcie.linkA.up = true) (hroom : s.safety.latch.length < 32)
    (hclass : ∃ i < 16, (s.ses i).classS = true ∧ ((s.ses i).state = 3 ∨ (s.ses i).state = 4)) (hlen : s.sessions.length = 16) :
    ∃ s', exec (.hubResetWarm 0 value t) s = .next s' ∧ s'.faultLatched 0x0014 (max s.time.now t) ∧
      (∀ i < 16, (s'.ses i).state = 0) ∧ s'.safety.resetUnderWay = true := by
  have hseen : (s.at t).hubResetSeen = (s.at t).detect 0x0014 0xFF 0xFF 0xFF (le 16 s.classSFn) := by
    obtain ⟨i, hi, hcls, hst⟩ := hclass
    refine if_pos (List.any_eq_true.mpr ⟨s.ses i, ?_, ?_⟩)
    · have hget : s.ses i = s.sessions[i] := List.getD_eq_getElem ..
      rw [hget]
      exact List.getElem_mem _
    · simpa [hcls] using hst
  have hlatched := State.detect_faultLatched (s := s.at t) hroom 0x0014 0xFF 0xFF 0xFF (le 16 s.classSFn)
  have heq := State.hubReset_eq (s := s.at t) hkey hwarm hup
  rw [hseen] at heq
  generalize (s.at t).detect 0x0014 0xFF 0xFF 0xFF (le 16 s.classSFn) = x at hlatched heq
  obtain ⟨hses, -⟩ := x.warmReset_leaves 0x0014
  have hsafety := State.warmReset_safety 0x0014 x
  refine ⟨_, (exec_hubResetWarm 0 value t s).trans (ranAt_pos (by simp [fnOk, below]; omega) ..), ?_⟩
  rw [heq]
  generalize x.warmReset 0x0014 = y at hses hsafety
  refine ⟨?_, hses, congrArg Safety.resetUnderWay hsafety⟩
  show y.faultLatched 0x0014 (s.at t).time.now
  rw [State.faultLatched, State.pinsLatched, hsafety]
  exact hlatched

end

/-- Settles O59. -/
theorem registerWrites : Obligations.RegisterWrites := by
  unfold Obligations.RegisterWrites
  intro s fn off size value hw t hfns hvalue hhw
  exact ⟨timeStatusWrite_clears hvalue hhw, barWrite_wrongSize hfns hvalue hhw, barWrite_linkDown hvalue hhw,
    fun p hp hen hup hoff => cluRegion_discards hfns hvalue hhw hp hen hup hoff,
    fun p hp hlen hen hup => arithFlagsWrite_clears hvalue hhw hp hlen hen hup,
    fun hfn hone height => ⟨configWrite_sets hfns hvalue hhw hfn hone height, msixControlWrite_sets hfns hvalue hhw hfn hone height⟩,
    limitWrite_sets hvalue hhw, hubReset_ignored hvalue,
    fun hkey hwarm hup hclass _ => hubReset_resets hvalue hkey hwarm hup hclass,
    fun hkey hwarm hup hroom hclass hlen => hubReset_latches hvalue hkey hwarm hup hroom hclass hlen⟩

end Sys2Proof.Machine
end

section
/-!
SUPPORT. Arrival of commands, the response point, the sluice and the dispatcher inputs (R256, R257, R311, R313, R317, R327).
-/
namespace Sys2Proof.Machine

/-! ## Arrival -/

/-- What arrival makes of a command. -/
def Cmd.arrived (bulk : List Byte) (order t : Nat) (frame : BitVec 32) (c : Cmd) : Cmd :=
  { c with bulk := bulk, stage := .ready, admitted := true, order := order, arrival := t, frame := frame }

theorem State.arrive_mbx (c : Cmd) (b : List Byte) (t : Nat) (s : State) : (s.arrive c b t).mbx =
    { (s.modCmd c.fn c.slot (Cmd.arrived b s.mbx.nextOrder t (s.frameFor t))).mbx with nextOrder := s.mbx.nextOrder + 1 } := by
  unfold State.arrive
  simp only [State.ite_mbx, State.traceTrigger_mbx, State.trace_mbx, State.cmdScopeReset_mbx, ite_self]
  rfl

theorem State.cmd?_cmds {s s' : State} (h : s'.mbx.cmds = s.mbx.cmds) (fn slot : Nat) : s'.cmd? fn slot = s.cmd? fn slot := by
  rw [State.cmd?, State.cmd?, h]

/-- The command in the slot of one that arrives. -/
theorem State.cmd?_arrive {s : State} {fn slot : Nat} {c x : Cmd} (hc : c.fn = fn ∧ c.slot = slot)
    (h : s.cmd? fn slot = some x) (b : List Byte) (t : Nat) :
    (s.arrive c b t).cmd? fn slot = some (x.arrived b s.mbx.nextOrder t (s.frameFor t)) := by
  obtain ⟨rfl, rfl⟩ := hc
  have hcmds : (s.arrive c b t).mbx.cmds = (s.modCmd c.fn c.slot (Cmd.arrived b s.mbx.nextOrder t (s.frameFor t))).mbx.cmds := by
    rw [State.arrive_mbx]
  rw [State.cmd?_cmds hcmds, State.cmd?_modCmd _ _ _ (Cmd.arrived b s.mbx.nextOrder t (s.frameFor t)) (fun _ => ⟨rfl, rfl⟩), h,
    Option.map_some]

/-- The sluice is what it was behind every count of the hub. -/
theorem State.arrive_sluice (c : Cmd) (b : List Byte) (t : Nat) (s : State) :
    (s.arrive c b t).hub.sluiceClosed = s.hub.sluiceClosed := by
  have hreset (layer op : Nat) (x : State) : (x.cmdScopeReset layer op).hub.sluiceClosed = x.hub.sluiceClosed := by
    unfold State.cmdScopeReset
    refine State.foldl_keeps (·.hub.sluiceClosed) _ (fun y e => ?_) _ _
    split
    · split
      · rfl
      · split <;> rfl
    · rfl
  have htrace (b source kind : Nat) (body : List Byte) (layer op : Nat) (x : State) :
      (x.trace b source kind body layer op).hub.sluiceClosed = x.hub.sluiceClosed := by
    unfold State.trace
    dsimp only
    generalize (if kind = 13 then _ else _ : List (List Byte)) = units
    split
    · rfl
    · split
      · split
        · split <;> rfl
        · rfl
      · rfl
  unfold State.arrive
  simp only [State.ite_hub, State.traceTrigger_hub, ite_self]
  rw [htrace, hreset]
  rfl

/-! ## The response point -/

section
variable {s : State} {fn slot t : Nat} {c : Cmd} {r : Response}

/-- What a response leaves of the mailbox: the other commands. -/
def Mailbox.without (c : Cmd) (m : Mailbox) : Mailbox := { m with cmds := m.cmds.filter fun x => x.order != c.order }

theorem Mailbox.without_cmds (m : Mailbox) : ∀ x ∈ (m.without c).cmds, x ∈ m.cmds ∧ x.order ≠ c.order := fun _ hx =>
  ⟨(List.mem_filter.mp hx).1, bne_iff_ne.mp (List.mem_filter.mp hx).2⟩

/-- The mailbox behind a response written to the slot (R311). -/
def Mailbox.answered (c : Cmd) (r : Response) (fn slot now : Nat) (m : Mailbox) : Mailbox := { m.without c with
  bytes := Mem.write (slotAddr fn slot 0xFFC) 0 (Mem.writeBytes (slotAddr fn slot 0)
    (responseBytes c r (Mem.readBytes m.bytes (slotAddr fn slot 32) (16 * c.descs.length))) m.bytes),
  own := m.own.filter (· != (fn, slot)),
  freed := (m.freed.filter fun x => x.2 == now) ++ [((fn, slot), now)] }

theorem State.traceHub_stks (source kind : Nat) (body : List Byte) (layer op : Nat) (x : State) :
    (x.trace 4 source kind body layer op).stks = x.stks := by
  unfold State.trace
  simp [State.ite_stks]

/-- What is written at the response point. -/
def State.putResponse (c : Cmd) (r : Response) (fn slot : Nat) (x : State) : State :=
  if c.silentDrop then x.modMbx (Mailbox.without c)
  else if bit c.flags 1 then x.modMbx (Mailbox.answered c r fn slot x.time.now)
  else (x.modMbx (Mailbox.answered c r fn slot x.time.now)).msixRaise fn 0

/-- A response that is due is written behind the trace of the command's end. -/
theorem State.mailboxResponse_due (hfor : s.cmdFor fn slot (fun x => x.response.isSome) = some c) (hr : c.response = some r)
    (hlast : c.opcode = 0x0507 → r.status = 0 → ∀ x ∈ s.mbx.cmds, x.atCutoff s = false) :
    ∃ x : State, State.mailboxResponse fn slot s = x.putResponse c r fn slot ∧ { x with hub := s.hub, obs := s.obs } = s := by
  refine ⟨s.trace 4 0xFF 8 (cmdBody c r.status) c.layerId c.operatorId, ?_, ?_⟩
  · have hnot : ¬(c.opcode = 0x0507 ∧ r.status = 0 ∧ (s.mbx.cmds.any fun x => x.atCutoff s) = true) := by
      rintro ⟨hop, hst, hany⟩
      obtain ⟨x, hx, hcut⟩ := List.any_eq_true.mp hany
      exact Bool.false_ne_true ((hlast hop hst x hx).symm.trans hcut)
    have hmbx := State.trace_mbx 4 0xFF 8 (cmdBody c r.status) c.layerId c.operatorId s
    unfold State.mailboxResponse
    rw [hfor]
    dsimp only
    rw [hr]
    dsimp only
    rw [if_neg hnot]
    generalize s.trace 4 0xFF 8 (cmdBody c r.status) c.layerId c.operatorId = x
    unfold State.putResponse
    dsimp only [State.modMbx, Mailbox.answered, Mailbox.without]
  · have hstks := State.traceHub_stks 0xFF 8 (cmdBody c r.status) c.layerId c.operatorId s
    apply State.ext_parts <;> simp [hstks]

theorem State.atCutoff_at (h : c.opcode = 0x0507 → r.status = 0 → ∀ x ∈ s.mbx.cmds, x.atCutoff s = false) (t : Nat) :
    c.opcode = 0x0507 → r.status = 0 → ∀ x ∈ (s.at t).mbx.cmds, x.atCutoff (s.at t) = false := h

theorem mailboxResponse_none (hslot : isSlot fn slot) (hnone : s.cmdFor fn slot (fun x => x.response.isSome) = none) :
    ∃ s', exec (.mailboxResponse fn slot t) s = .next s' ∧ { s' with time := s.time } = s := by
  have heq : State.mailboxResponse fn slot (s.at t) = s.at t := by
    unfold State.mailboxResponse
    rw [show (s.at t).cmdFor fn slot (fun x => x.response.isSome) = none from hnone]
  refine ⟨_, (exec_mailboxResponse fn slot t s).trans (ranAt_pos (slotOk_of _ _ hslot) ..), ?_⟩
  rw [heq]
  rfl

/-- A command whose function was reset leaves in silence (R373). -/
theorem mailboxResponse_silent (hslot : isSlot fn slot) (hfor : s.cmdFor fn slot (fun x => x.response.isSome) = some c)
    (hr : c.response = some r) (hlast : c.opcode = 0x0507 → r.status = 0 → ∀ x ∈ s.mbx.cmds, x.atCutoff s = false)
    (hdrop : c.silentDrop = true) :
    ∃ s', exec (.mailboxResponse fn slot t) s = .next s' ∧ s'.mbx.bytes = s.mbx.bytes ∧ s'.mbx.own = s.mbx.own ∧
      (∀ x ∈ s'.mbx.cmds, x ∈ s.mbx.cmds ∧ x.order ≠ c.order) ∧ s'.pcie = s.pcie := by
  obtain ⟨x, heq, hx⟩ := State.mailboxResponse_due (s := s.at t) hfor hr hlast
  have hmbx : x.mbx = s.mbx := (congrArg State.mbx hx :)
  have hpcie : x.pcie = s.pcie := (congrArg State.pcie hx :)
  rw [State.putResponse, if_pos hdrop] at heq
  refine ⟨_, (exec_mailboxResponse fn slot t s).trans (ranAt_pos (slotOk_of _ _ hslot) ..), ?_⟩
  rw [heq]
  refine ⟨(congrArg Mailbox.bytes hmbx :), (congrArg Mailbox.own hmbx :), fun y hy => ?_, hpcie⟩
  exact hmbx ▸ Mailbox.without_cmds x.mbx y hy

theorem slotAddr_disjoint {f k fn slot a b : Nat} (hk : k < 32) (hslot : slot < 32) (hne : (f, k) ≠ (fn, slot))
    (hlow : slotAddr f k 0 ≤ a) (hhigh : a < slotAddr f k 4096) (hblow : slotAddr fn slot 0 ≤ b) (hbhigh : b < slotAddr fn slot 4096) :
    a ≠ b := by
  rintro rfl
  unfold slotAddr at *
  have hfn : f = fn := by omega
  subst hfn
  exact hne (Prod.ext rfl (by dsimp only; omega))

theorem Mem.readBytes_congr {m m' : Mem} {a n : Nat} (h : ∀ x, a ≤ x → x < a + n → Mem.read x m = Mem.read x m') :
    Mem.readBytes m a n = Mem.readBytes m' a n := by
  induction n generalizing a with
  | zero => rfl
  | succ n ih => rw [Mem.readBytes, Mem.readBytes, h a (by omega) (by omega), ih fun x hx hx' => h x (by omega) (by omega)]

/-- The bytes of an answered mailbox: the response from the slot's start on, no other slot's byte changed. -/
theorem Mailbox.answered_bytes {m : Mailbox} (hwf : m.bytes.wf = true) (hslot : isSlot fn slot) (now : Nat)
    (hlen : (responseBytes c r (Mem.readBytes m.bytes (slotAddr fn slot 32) (16 * c.descs.length))).length ≤ 4092) :
    Mem.readBytes (m.answered c r fn slot now).bytes (slotAddr fn slot 0)
      (responseBytes c r (Mem.readBytes m.bytes (slotAddr fn slot 32) (16 * c.descs.length))).length =
        responseBytes c r (Mem.readBytes m.bytes (slotAddr fn slot 32) (16 * c.descs.length)) ∧
    (∀ f k a, isSlot f k → (f, k) ≠ (fn, slot) → slotAddr f k 0 ≤ a → a < slotAddr f k 4096 →
      Mem.read a (m.answered c r fn slot now).bytes = Mem.read a m.bytes) := by
  unfold Mailbox.answered
  dsimp only
  generalize responseBytes c r (Mem.readBytes m.bytes (slotAddr fn slot 32) (16 * c.descs.length)) = bs at hlen
  have hwritten := Mem.writeBytes_wf bs (slotAddr fn slot 0) m.bytes hwf
  refine ⟨?_, fun f k a hfk hne hlow hhigh => ?_⟩
  · refine (Mem.readBytes_congr fun x _ hx => ?_).trans (Mem.readBytes_writeBytes bs (slotAddr fn slot 0) m.bytes hwf)
    rw [Mem.read_write _ _ _ _ hwritten, if_neg (by unfold slotAddr at *; omega)]
  · have hslot' := hslot.2
    rw [Mem.read_write _ _ _ _ hwritten,
      if_neg (slotAddr_disjoint hfk.2 hslot' hne hlow hhigh (by unfold slotAddr; omega) (by unfold slotAddr; omega))]
    refine Mem.read_writeBytes_out _ _ _ _ hwf ?_
    by_contra hin
    obtain ⟨hge, hlt⟩ := not_or.mp hin
    have hend : slotAddr fn slot 4096 = slotAddr fn slot 0 + 4096 := by unfold slotAddr; omega
    exact slotAddr_disjoint (b := a) hfk.2 hslot' hne hlow hhigh (by omega) (by omega) rfl

/-- A mailbox written, and the interrupt that follows. -/
theorem State.modMbx_msixRaise {x : State} (hfn : fn < x.pcie.fns.length) (g : Mailbox → Mailbox) :
    ((x.modMbx g).msixRaise fn 0).mbx = g x.mbx ∧ ((x.modMbx g).msixRaise fn 0).time = x.time ∧
    (if x.msixOpen fn 0 then ((x.modMbx g).msixRaise fn 0).pcie.sent = x.pcie.sent ++ [(fn, 0)]
      else 0 ∈ (((x.modMbx g).msixRaise fn 0).fnS fn).pendingBits) ∧
    { (x.modMbx g).msixRaise fn 0 with mbx := x.mbx, pcie := x.pcie, host := x.host } = x := by
  obtain ⟨hraise, hrest⟩ := State.msixRaise_leaves (s := x.modMbx g) (fn := fn) (vec := 0) hfn
  refine ⟨State.msixRaise_mbx .., State.msixRaise_time .., hraise, ?_⟩
  generalize (x.modMbx g).msixRaise fn 0 = z at hrest
  exact congrArg (fun z : State => { z with mbx := x.mbx }) hrest

theorem State.putResponse_leaves {x : State} (hdrop : c.silentDrop = false) (hfn : fn < x.pcie.fns.length) :
    (x.putResponse c r fn slot).mbx = x.mbx.answered c r fn slot x.time.now ∧ (x.putResponse c r fn slot).time = x.time ∧
    (bit c.flags 1 = true → (x.putResponse c r fn slot).pcie = x.pcie) ∧
    (bit c.flags 1 = false → if x.msixOpen fn 0 then (x.putResponse c r fn slot).pcie.sent = x.pcie.sent ++ [(fn, 0)]
      else 0 ∈ ((x.putResponse c r fn slot).fnS fn).pendingBits) ∧
    { x.putResponse c r fn slot with mbx := x.mbx, pcie := x.pcie, host := x.host } = x := by
  obtain ⟨hmbx, htime, hraise, hrest⟩ := State.modMbx_msixRaise hfn (Mailbox.answered c r fn slot x.time.now)
  unfold State.putResponse
  generalize Mailbox.answered c r fn slot x.time.now = g at *
  rw [if_neg (by simp [hdrop])]
  cases hbit : bit c.flags 1
  · rw [if_neg (by decide)]
    exact ⟨hmbx, htime, nofun, fun _ => hraise, hrest⟩
  · rw [if_pos rfl]
    exact ⟨rfl, rfl, fun _ => rfl, nofun, rfl⟩

/-- The slot is the host's again, and a write of the same cycle still finds it held. -/
theorem State.answered_slot {z : State} {m : Mailbox} (hz : z.mbx = m.answered c r fn slot z.time.now) :
    z.owned fn slot = false ∧ z.slotHeld fn slot = true := by
  have hown : (fn, slot) ∉ z.mbx.own := by
    rw [hz]
    intro h
    exact bne_iff_ne.mp (List.mem_filter.mp h).2 rfl
  have hfreed : ((fn, slot), z.time.now) ∈ z.mbx.freed := by
    rw [hz]
    exact List.mem_append_right _ (List.mem_singleton_self _)
  refine ⟨?_, Bool.or_eq_true_iff.mpr (.inr (List.contains_iff_mem.mpr hfreed))⟩
  exact Bool.eq_false_iff.mpr (mt List.contains_iff_mem.mp hown)

theorem State.msixOpen_pcie {x y : State} (h : x.pcie = y.pcie) (h' : x.mgmt = y.mgmt) (fn v : Nat) :
    x.msixOpen fn v = y.msixOpen fn v := by
  unfold State.msixOpen State.dmaOk State.fnS State.linkOf State.carrier State.onLinkB
  rw [h, h']

/-- The response point of a command in its slot (R311, R313). -/
theorem mailboxResponse_writes {d : List Byte} (hslot : isSlot fn slot) (hfns : s.pcie.fns.length = 17)
    (hwf : s.mbx.bytes.wf = true) (hd : d = Mem.readBytes s.mbx.bytes (slotAddr fn slot 32) (16 * c.descs.length))
    (hcmd : s.cmd? fn slot = some c) (hr : c.response = some r)
    (hlast : c.opcode = 0x0507 → r.status = 0 → ∀ x ∈ s.mbx.cmds, x.atCutoff s = false) (hdrop : c.silentDrop = false)
    (hlen : (responseBytes c r d).length ≤ 4092) :
    ∃ s', exec (.mailboxResponse fn slot t) s = .next s' ∧ s'.owned fn slot = false ∧ s'.slotHeld fn slot = true ∧
      Mem.readBytes s'.mbx.bytes (slotAddr fn slot 0) (responseBytes c r d).length = responseBytes c r d ∧
      (∀ f k a, isSlot f k → (f, k) ≠ (fn, slot) → slotAddr f k 0 ≤ a → a < slotAddr f k 4096 →
        Mem.read a s'.mbx.bytes = Mem.read a s.mbx.bytes) ∧
      (∀ x ∈ s'.mbx.cmds, x ∈ s.mbx.cmds ∧ x.order ≠ c.order) ∧
      (bit c.flags 1 = true → s'.pcie = s.pcie) ∧
      (bit c.flags 1 = false → if s.msixOpen fn 0 then s'.pcie.sent = s.pcie.sent ++ [(fn, 0)]
        else 0 ∈ (s'.fnS fn).pendingBits) ∧
      { s' with time := s.time, mbx := s.mbx, pcie := s.pcie, obs := s.obs, hub := s.hub, host := s.host } = s := by
  have hfor : s.cmdFor fn slot (fun x => x.response.isSome) = some c := by
    rw [State.cmdFor, hcmd]
    simp [Option.filter, hr]
  obtain ⟨x, heq, hx⟩ := State.mailboxResponse_due (s := s.at t) hfor hr hlast
  have hmbx : x.mbx = s.mbx := (congrArg State.mbx hx :)
  have hpcie : x.pcie = s.pcie := (congrArg State.pcie hx :)
  have hxrest : { x with time := s.time, obs := s.obs, hub := s.hub } = s :=
    congrArg (fun z : State => { z with time := s.time }) hx
  obtain ⟨hread, hother⟩ := Mailbox.answered_bytes (m := s.mbx) hwf hslot x.time.now (hd ▸ hlen)
  rw [← hd] at hread
  obtain ⟨hz, htime, hquiet, hsent, hrest⟩ := State.putResponse_leaves (x := x) (r := r) (slot := slot) hdrop
    (by rw [hpcie, hfns]; exact hslot.1)
  refine ⟨_, (exec_mailboxResponse fn slot t s).trans (ranAt_pos (slotOk_of _ _ hslot) ..), ?_⟩
  rw [heq]
  generalize x.putResponse c r fn slot = z at hz htime hquiet hsent hrest
  rw [hmbx] at hz
  rw [hpcie] at hquiet hsent
  rw [State.msixOpen_pcie hpcie (congrArg State.mgmt hx :)] at hsent
  obtain ⟨hown, hheld⟩ := State.answered_slot (z := z) (hz.trans (by rw [htime]))
  refine ⟨hown, hheld, ?_, fun f k a hfk hne hlow hhigh => ?_, fun w hw => ?_, hquiet, hsent, ?_⟩
  · exact hz ▸ hread
  · exact hz ▸ hother f k a hfk hne hlow hhigh
  · exact Mailbox.without_cmds s.mbx w ((congrArg Mailbox.cmds hz : z.mbx.cmds = _) ▸ hw)
  · have hleft := congrArg (fun y : State => { y with
      time := s.time, mbx := s.mbx, pcie := s.pcie, obs := s.obs, hub := s.hub, host := s.host, pending := s.pending }) hrest
    exact hleft.trans (congrArg (fun y : State => { y with
      mbx := s.mbx, pcie := s.pcie, host := s.host, pending := s.pending }) hxrest)

end

/-! ## Dispatcher inputs and the sluice -/

section
variable {s : State} {k t : Nat}

theorem hubTaskTransfer_idle (hk : k < 4) (hnone : (s.stk k).taskList = []) :
    ∃ s', exec (.hubTaskTransfer k t) s = .next s' ∧ { s' with time := s.time } = s := by
  have heq : State.hubTaskTransfer k (s.at t) = s.at t := by
    unfold State.hubTaskTransfer
    rw [show ((s.at t).stk k).taskList = [] from hnone]
  refine ⟨_, (exec_hubTaskTransfer k t s).trans (ranAt_pos (by simpa [below] using hk) ..), ?_⟩
  rw [heq]
  rfl

/-- The oldest task moves into an input with room; the input that becomes full closes the sluice (R256, R257). -/
theorem hubTaskTransfer_moves {x : TaskDesc} {rest : List TaskDesc} (hk : k < 4) (hlen : s.stks.length = 4)
    (hlist : (s.stk k).taskList = x :: rest) (hroom : (s.stk k).dispatcher.length < 128) :
    ∃ s', exec (.hubTaskTransfer k t) s = .next s' ∧ (s'.stk k).taskList = rest ∧
      (s'.stk k).dispatcher = (s.stk k).dispatcher ++ [{ task := x }] ∧ (∀ j, j ≠ k → s'.stk j = s.stk j) ∧
      s'.hub.sluiceClosed = (s.hub.sluiceClosed || decide ((s.stk k).dispatcher.length = 127)) ∧
      { s' with time := s.time, stks := s.stks, hub := s.hub } = s := by
  obtain ⟨y, hy⟩ : ∃ y, y = ((s.at t).modStk k fun y => { y with taskList := rest }).modStk k
    fun y => { y with dispatcher := y.dispatcher ++ [{ task := x }] } := ⟨_, rfl⟩
  have hthis : y.stk k = { s.stk k with taskList := rest, dispatcher := (s.stk k).dispatcher ++ [{ task := x }] } := by
    rw [hy, State.stk_modStk (by simp [hlen, hk]), State.stk_modStk (by simp [hlen, hk])]
    rfl
  have hother (j : Nat) (hj : j ≠ k) : y.stk j = s.stk j := by
    rw [hy, State.stk_modStk_ne hj, State.stk_modStk_ne hj]
    rfl
  have hrest : { y with time := s.time, stks := s.stks } = s := by rw [hy]; rfl
  have hhub : y.hub = s.hub := by rw [hy]; rfl
  have heq : State.hubTaskTransfer k (s.at t) =
      if (s.stk k).dispatcher.length = 127 then y.modHub fun h => { h with sluiceClosed := true } else y := by
    have hqueue : State.hubTaskTransfer k (s.at t) =
        if (y.stk k).dispatcher.length ≥ inputDepth then y.modHub fun h => { h with sluiceClosed := true } else y := by
      unfold State.hubTaskTransfer
      rw [show ((s.at t).stk k).taskList = x :: rest from hlist]
      dsimp only
      rw [if_neg (show ¬((s.at t).stk k).dispatcher.length ≥ inputDepth from Nat.not_le.mpr hroom), State.queueTask, ← hy]
    rw [hqueue, hthis]
    refine if_congr ?_ rfl rfl
    simp only [List.length_append, List.length_singleton, inputDepth]
    omega
  refine ⟨_, (exec_hubTaskTransfer k t s).trans (ranAt_pos (by simpa [below] using hk) ..), ?_⟩
  rw [heq]
  by_cases hfull : (s.stk k).dispatcher.length = 127
  · rw [if_pos hfull, decide_eq_true hfull, Bool.or_true]
    exact ⟨(congrArg Stack.taskList hthis :), (congrArg Stack.dispatcher hthis :), hother, rfl,
      congrArg (fun z : State => { z with hub := s.hub, pending := s.pending }) hrest⟩
  · rw [if_neg hfull, decide_eq_false hfull, Bool.or_false]
    exact ⟨(congrArg Stack.taskList hthis :), (congrArg Stack.dispatcher hthis :), hother, (congrArg Hub.sluiceClosed hhub :),
      congrArg (fun z : State => { z with hub := s.hub, pending := s.pending }) hrest⟩

theorem hubTaskTransfer_refused {x : TaskDesc} {rest : List TaskDesc} (hk : k < 4) (hlen : s.stks.length = 4)
    (hlist : (s.stk k).taskList = x :: rest) (hfull : 128 ≤ (s.stk k).dispatcher.length) :
    ∃ s', exec (.hubTaskTransfer k t) s = .next s' ∧ (s'.stk k).taskList = (s.stk k).taskList ∧
      (s'.stk k).dispatcher = (s.stk k).dispatcher ∧ { s' with time := s.time, stks := s.stks } = s := by
  have heq : State.hubTaskTransfer k (s.at t) = (s.at t).bumpStk k 1 := by
    unfold State.hubTaskTransfer
    rw [show ((s.at t).stk k).taskList = x :: rest from hlist]
    exact if_pos hfull
  have hstk := State.stk_modStk (s := s.at t) (k := k) (by simp [hlen, hk]) (fun c => { c with counters := bumpAt c.counters 1 1 })
  refine ⟨_, (exec_hubTaskTransfer k t s).trans (ranAt_pos (by simpa [below] using hk) ..), ?_⟩
  rw [heq]
  exact ⟨(congrArg Stack.taskList hstk :), (congrArg Stack.dispatcher hstk :), rfl⟩

/-- Every stack's input is at most half full. -/
theorem State.stks_all {P : Stack → Prop} (hlen : s.stks.length = 4) (h : ∀ j < 4, P (s.stk j)) : ∀ x ∈ s.stks, P x := by
  intro x hx
  obtain ⟨j, hj, rfl⟩ := List.getElem_of_mem hx
  have hget : s.stk j = s.stks[j] := List.getD_eq_getElem ..
  exact hget ▸ h j (by omega)

theorem sluiceReopen_opens (hlen : s.stks.length = 4) (hroom : ∀ j < 4, (s.stk j).dispatcher.length ≤ 64)
    (hnone : ∀ c ∈ s.mbx.cmds, c.stage ≠ .held) :
    ∃ s', exec (.sluiceReopen t) s = .next s' ∧ s'.hub = { s.hub with sluiceClosed := false } ∧
      { s' with time := s.time, hub := s.hub } = s := by
  have hheld : (s.at t).mbx.cmds.filter (fun c => c.stage == .held) = [] :=
    List.filter_eq_nil_iff.mpr fun c hc => by simpa using hnone c hc
  have hall : (s.at t).stks.all (fun x => decide (x.dispatcher.length ≤ 64)) = true :=
    List.all_eq_true.mpr fun x hx => decide_eq_true (State.stks_all (P := fun x => x.dispatcher.length ≤ 64) hlen hroom x hx)
  refine ⟨_, (exec_sluiceReopen t s).trans (ranAt_pos rfl ..), ?_⟩
  dsimp only
  unfold State.sluiceReopen
  rw [hall, Bool.and_true, hheld, List.foldl_nil]
  cases hclosed : s.hub.sluiceClosed
  · rw [if_neg (by simp [hclosed])]
    exact ⟨by rw [← hclosed]; rfl, rfl⟩
  · rw [if_pos (by simp [hclosed])]
    exact ⟨rfl, rfl⟩

/-- The held command is admitted (R257, R327). -/
theorem sluiceReopen_admits {c : Cmd} (hlen : s.stks.length = 4) (hroom : ∀ j < 4, (s.stk j).dispatcher.length ≤ 64)
    (hclosed : s.hub.sluiceClosed = true) (hheld : s.mbx.cmds.filter (fun x => x.stage == .held) = [c])
    (hcmd : s.cmd? c.fn c.slot = some c) (hbytes : c.fetchBytes = 0)
    (hdesc : badDesc c.opcode (s.rawDescs c.fn c.slot c.descs.length) = none) :
    ∃ s' c', exec (.sluiceReopen t) s = .next s' ∧ s'.hub.sluiceClosed = false ∧ s'.cmd? c.fn c.slot = some c' ∧
      c'.stage = .ready ∧ c'.arrival = max s.time.now t := by
  have hall : (s.at t).stks.all (fun x => decide (x.dispatcher.length ≤ 64)) = true :=
    List.all_eq_true.mpr fun x hx => decide_eq_true (State.stks_all (P := fun x => x.dispatcher.length ≤ 64) hlen hroom x hx)
  have heq : (s.at t).sluiceReopen (s.at t).time.now =
      (((s.at t).modHub fun h => { h with sluiceClosed := false }).arrive c [] (s.at t).time.now) := by
    unfold State.sluiceReopen
    rw [hall, Bool.and_true, if_pos (show (s.at t).hub.sluiceClosed = true from hclosed),
      show (s.at t).mbx.cmds.filter (fun c => c.stage == .held) = [c] from hheld, List.foldl_cons, List.foldl_nil, State.letIn,
      show badDesc c.opcode (((s.at t).modHub fun h => { h with sluiceClosed := false }).rawDescs c.fn c.slot c.descs.length) = none
        from hdesc]
    exact if_pos hbytes
  have hcmd' := State.cmd?_arrive (s := (s.at t).modHub fun h => { h with sluiceClosed := false }) ⟨rfl, rfl⟩ hcmd []
    (s.at t).time.now
  have hsluice := State.arrive_sluice c [] (s.at t).time.now ((s.at t).modHub fun h => { h with sluiceClosed := false })
  have hrow : exec (.sluiceReopen t) s = .next _ := (exec_sluiceReopen t s).trans (ranAt_pos rfl ..)
  rw [heq] at hrow
  exact ⟨_, _, hrow, hsluice, hcmd', rfl, rfl⟩

theorem sluiceReopen_waits (hlen : s.stks.length = 4) (hfull : ∃ j < 4, 64 < (s.stk j).dispatcher.length) :
    ∃ s', exec (.sluiceReopen t) s = .next s' ∧ { s' with time := s.time } = s := by
  have hall : (s.at t).stks.all (fun x => decide (x.dispatcher.length ≤ 64)) = false := by
    obtain ⟨j, hj, hlong⟩ := hfull
    refine List.all_eq_false.mpr ⟨s.stk j, ?_, by simpa using hlong⟩
    have hget : s.stk j = s.stks[j] := List.getD_eq_getElem ..
    exact hget ▸ List.getElem_mem _
  have heq : (s.at t).sluiceReopen (s.at t).time.now = s.at t := by
    unfold State.sluiceReopen
    rw [hall, Bool.and_false]
    rfl
  refine ⟨_, (exec_sluiceReopen t s).trans (ranAt_pos rfl ..), ?_⟩
  dsimp only
  rw [heq]
  rfl

end

/-- Settles O57. -/
theorem responseAndSluice : Obligations.ResponseAndSluice := by
  unfold Obligations.ResponseAndSluice
  refine ⟨fun s fn slot t c r d hslot hfns hwf hd => ⟨mailboxResponse_none hslot, mailboxResponse_silent hslot,
      mailboxResponse_writes hslot hfns hwf hd⟩,
    fun s k t x rest hk hlen => ⟨hubTaskTransfer_idle hk, hubTaskTransfer_moves hk hlen, hubTaskTransfer_refused hk hlen,
      sluiceReopen_opens hlen, fun c => sluiceReopen_admits hlen, sluiceReopen_waits hlen⟩⟩

end Sys2Proof.Machine
end

section
/-!
SUPPORT. Refutes the obligation on submission and fetches (R310, R312, R317).
-/
namespace Sys2Proof.Machine

/-- A command whose bulk data is being fetched. -/
def fetchingCmd : Cmd := { fn := 0, slot := 0, opcode := 0x0101, landed := 1 }

/-- Two commands of one slot are being fetched, the one behind in the list landed sooner. -/
def twoInSlot : State := {
  pcie := { linkA := { up := true }, fns := List.replicate 17 { busMaster := true } },
  mbx := { cmds := [fetchingCmd, { fetchingCmd with landed := 0 }] } }

theorem twoInSlot_arrival : State.commandArrival 0 0 none 0 (twoInSlot.at 0) =
    ((twoInSlot.at 0).arrive fetchingCmd [] 0).selEvent 2 0 0x41 0 0 0 0 := by
  unfold State.commandArrival
  rw [show (twoInSlot.at 0).cmd? 0 0 = some fetchingCmd by decide, show (twoInSlot.at 0).dmaOk 0 = true by decide]
  rfl

/-- Refutes O56: arrival is by slot, so with two commands under one slot number in the mailbox both arrive, and the one that
landed sooner keeps the first from its turn. -/
theorem not_submissionAndFetches : ¬ Obligations.SubmissionAndFetches := by
  unfold Obligations.SubmissionAndFetches
  rintro ⟨-, h⟩
  obtain ⟨-, -, hfetch, -⟩ := h twoInSlot 0 0 0 [] 0 fetchingCmd ⟨by decide, by decide⟩ rfl
  obtain ⟨harrives, -⟩ := hfetch (by decide) rfl rfl
  obtain ⟨s', hexec, ⟨c', hcmd, -, -, -, hturn, -⟩, -⟩ := harrives (by decide)
  have hrow : exec (.commandArrival 0 0 none 0) twoInSlot = .next _ :=
    (exec_commandArrival 0 0 none 0 twoInSlot).trans (ranAt_pos (by decide) ..)
  have hs' := Host.Outcome.next.inj (hexec.symm.trans hrow)
  have hmbx : s'.mbx = ((twoInSlot.at 0).arrive fetchingCmd [] 0).mbx := by
    rw [hs']
    show (State.commandArrival 0 0 none 0 (twoInSlot.at 0)).mbx = _
    rw [twoInSlot_arrival, State.selEvent_mbx]
  rw [State.arrive_mbx] at hmbx
  have hin : s'.inTurn c' = false := by
    have hc' : some c' = some (fetchingCmd.arrived [] 0 0 1) := by
      rw [← hcmd, State.cmd?, hmbx]
      decide
    rw [Option.some.inj hc', State.inTurn, hmbx]
    decide
  exact Bool.false_ne_true (hin.symm.trans (hturn (by decide)))

end Sys2Proof.Machine
end

section
/-!
SUPPORT. The Zerelet link layer (R375-R378): what the traffic of the ports leaves as it was, and which flits a port keeps.
-/
namespace Sys2Proof.Machine

/-! ## What sending leaves unchanged -/

/-- A port without what its traffic moves. -/
def Port.still (p : Port) : Port :=
  { ({} : Port) with
    enabled := p.enabled, up := p.up, neighbour := p.neighbour, neighbourId := p.neighbourId, rtt := p.rtt,
    retrying := p.retrying, replays := p.replays, crcFail := p.crcFail, rxSeq := p.rxSeq, nacked := p.nacked,
    pinged := p.pinged }

/-- The state without what the traffic of the ports moves (R375-R377, Table 20.4). -/
def State.wire (s : State) : State :=
  { s with
    fabric := { s.fabric with ports := s.fabric.ports.map Port.still }, hub := { s.hub with selCounters := [] } }

/-- The state without the messages that the fabric carries either. -/
def State.quiet (s : State) : State :=
  { s.wire with fabric := { s.wire.fabric with msgs := [], nextMsg := [] } }

/-- The state without what dropped messages touch either: the commands they answer, their landing space and the hub's counters
(R384). -/
def State.links (s : State) : State :=
  { s.quiet with
    hub := { s.quiet.hub with counters := [] }, mbx := { s.mbx with cmds := [] },
    worlds := { s.worlds with landingUsed := 0 } }

theorem State.links_of_quiet {s s' : State} (h : s'.quiet = s.quiet) : s'.links = s.links :=
  congrArg (fun x : State => { x with
    hub := { x.hub with counters := [] }, mbx := { x.mbx with cmds := [] },
    worlds := { x.worlds with landingUsed := 0 } }) h

theorem State.quiet_of_wire {s s' : State} (h : s'.wire = s.wire) : s'.quiet = s.quiet :=
  congrArg (fun x : State => { x with fabric := { x.fabric with msgs := [], nextMsg := [] } }) h

theorem State.port_still (s : State) (i : Nat) : s.wire.port i = (s.port i).still :=
  List.getD_map (n := i) s.fabric.ports {} Port.still

theorem State.still_of_links {s s' : State} (h : s'.links = s.links) (i : Nat) : (s'.port i).still = (s.port i).still := by
  have hport : s'.links.port i = s.links.port i := congrArg (fun x : State => x.port i) h
  exact (State.port_still s' i).symm.trans (hport.trans (State.port_still s i))

section
variable {s s' : State} (h : s'.links = s.links)
include h

theorem State.up_of_links (i : Nat) : (s'.port i).up = (s.port i).up :=
  (congrArg Port.up (State.still_of_links h i) :)
theorem State.enabled_of_links (i : Nat) : (s'.port i).enabled = (s.port i).enabled :=
  (congrArg Port.enabled (State.still_of_links h i) :)
theorem State.neighbour_of_links (i : Nat) : (s'.port i).neighbour = (s.port i).neighbour :=
  (congrArg Port.neighbour (State.still_of_links h i) :)
theorem State.rxSeq_of_links (i : Nat) : (s'.port i).rxSeq = (s.port i).rxSeq :=
  (congrArg Port.rxSeq (State.still_of_links h i) :)
theorem State.nacked_of_links (i : Nat) : (s'.port i).nacked = (s.port i).nacked :=
  (congrArg Port.nacked (State.still_of_links h i) :)
theorem State.pinged_of_links (i : Nat) : (s'.port i).pinged = (s.port i).pinged :=
  (congrArg Port.pinged (State.still_of_links h i) :)
theorem State.replays_of_links (i : Nat) : (s'.port i).replays = (s.port i).replays :=
  (congrArg Port.replays (State.still_of_links h i) :)

theorem State.census_of_links : s'.fabric.census = s.fabric.census :=
  (congrArg (fun x : State => x.fabric.census) h :)
theorem State.nextHop_of_links : s'.fabric.nextHop = s.fabric.nextHop :=
  (congrArg (fun x : State => x.fabric.nextHop) h :)
theorem State.portTo_of_links (n : Nat) : s'.portTo n = s.portTo n := by
  rw [State.portTo, State.portTo, State.nextHop_of_links h]
theorem State.ports_length_of_links : s'.fabric.ports.length = s.fabric.ports.length := by
  have hports := congrArg (fun x : State => x.fabric.ports.length) h
  simpa only [State.links, State.quiet, State.wire, List.length_map] using hports

end

/-- Quiet states differ in the fabric and the hub's selectable counters only. -/
theorem State.onlyFabric_of_quiet {s s' : State} (h : s'.quiet = s.quiet) : s.onlyFabric s' := by
  have hrest := congrArg (fun x : State => { x with
    time := s.time, fabric := s.fabric, farming := s.farming, req := s.req,
    hub := { x.hub with selCounters := s.hub.selCounters } }) h
  exact hrest

theorem State.wire_modPort {g : Port → Port} (hg : ∀ p, (g p).still = p.still) (i : Nat) (s : State) :
    (s.modPort i g).wire = s.wire := by
  have hports : (s.fabric.ports.modify i g).map Port.still = s.fabric.ports.map Port.still := by
    apply List.ext_getElem (by simp)
    intro k hk hk'
    simp only [List.getElem_map, List.getElem_modify]
    split
    · exact hg _
    · rfl
  exact congrArg (fun l => { s with
    fabric := { s.fabric with ports := l }, hub := { s.hub with selCounters := [] } }) hports

/-- A selectable counter of the hub counts on. -/
theorem State.wire_selEvent (inst event qual layer op k : Nat) (s : State) :
    (s.selEvent 2 inst event qual layer op k).wire = s.wire := by
  unfold State.selEvent
  refine State.foldl_keeps State.wire _ (fun s e => ?_) _ _
  split
  · rfl
  · rfl

theorem State.wire_portSend (i : Nat) (f : Flit) (s : State) : (s.portSend i f).wire = s.wire := by
  unfold State.portSend
  exact (State.wire_modPort (by intro; rfl) i _).trans (State.wire_selEvent ..)

theorem State.wire_drainVc (i vc : Nat) (s : State) : (s.drainVc i vc).wire = s.wire := by
  unfold State.drainVc
  refine (State.foldl_keeps State.wire _ (fun s f => ?_) _ _).trans (State.wire_modPort (by intro; rfl) i s)
  split
  · exact State.wire_portSend ..
  · exact State.wire_modPort (by intro; rfl) i s

theorem State.wire_relayVc (i vc : Nat) (s : State) : (s.relayVc i vc).wire = s.wire := by
  unfold State.relayVc
  refine (State.foldl_keeps State.wire _ (fun s f => ?_) _ _).trans (State.wire_modPort (by intro; rfl) i s)
  dsimp only
  split
  · exact State.wire_modPort (by intro; rfl) i s
  · split
    · exact State.wire_modPort (by intro; rfl) i s
    · split
      · exact (State.wire_modPort (by intro; rfl) i _).trans (State.wire_portSend ..)
      · exact State.wire_modPort (by intro; rfl) i s

theorem State.wire_pump (s : State) : s.pump.wire = s.wire := by
  unfold State.pump
  refine State.foldl_keeps State.wire _ (fun s vc => ?_) _ _
  exact (State.foldl_keeps State.wire _ (fun s i => State.wire_drainVc ..) _ _).trans
    (State.foldl_keeps State.wire _ (fun s i => State.wire_relayVc ..) _ _)

theorem State.wire_linkFlit (i kind : Nat) (s : State) : (s.linkFlit i kind).wire = s.wire :=
  State.wire_modPort (by intro; rfl) i s

theorem State.quiet_msgs (s : State) (l : List FabMsg) (n : List Nat) :
    (s.modFabric fun f => { f with msgs := l, nextMsg := n }).quiet = s.quiet := rfl

theorem State.quiet_modMsg (vc id : Nat) (g : FabMsg → FabMsg) (s : State) : (s.modMsg vc id g).quiet = s.quiet := rfl

theorem State.quiet_controlTo (ports : List Nat) (dst : Nat) (body : List Byte) (s : State) :
    (s.controlTo ports dst body).quiet = s.quiet := by
  unfold State.controlTo
  refine (State.foldl_keeps State.quiet _ (fun s i => State.quiet_of_wire (State.wire_drainVc ..)) _ _).trans ?_
  refine State.foldl_keeps State.quiet _ (fun s b => ?_) _ _
  refine (State.foldl_keeps State.quiet _ (fun s i => ?_) _ _).trans rfl
  exact State.quiet_of_wire (State.wire_modPort (by intro; rfl) i s)

theorem State.quiet_flood (but : Nat) (body : List Byte) (s : State) : (s.flood but body).quiet = s.quiet :=
  State.quiet_controlTo ..

theorem State.quiet_sendControl (s : State) : s.sendControl.quiet = s.quiet := by
  unfold State.sendControl
  refine (State.foldl_keeps State.quiet _ (fun s m => ?_) _ _).trans rfl
  split
  · exact State.quiet_flood ..
  · split
    · exact State.quiet_controlTo ..
    · rfl

theorem State.quiet_sendGranted (s : State) : s.sendGranted.quiet = s.quiet := by
  unfold State.sendGranted
  split
  · refine (State.quiet_of_wire (State.wire_pump _)).trans (State.foldl_keeps State.quiet _ (fun s m => ?_) _ _)
    dsimp only
    split
    · rfl
    · exact (State.quiet_of_wire (State.wire_modPort (by intro; rfl) _ _)).trans rfl
  · rfl

/-! ## Messages without a route (R384) -/

section
variable (ports : List Nat) (dst : Nat) (body : List Byte) (s : State)

theorem State.msgs_of_wire {s s' : State} (h : s'.wire = s.wire) : s'.fabric.msgs = s.fabric.msgs :=
  (congrArg (fun x : State => x.fabric.msgs) h :)

theorem State.controlTo_msgs : (s.controlTo ports dst body).fabric.msgs = s.fabric.msgs := by
  unfold State.controlTo
  refine (State.foldl_keeps (·.fabric.msgs) _ (fun s i => State.msgs_of_wire (State.wire_drainVc ..)) _ _).trans ?_
  refine State.foldl_keeps (·.fabric.msgs) _ (fun s b => ?_) _ _
  refine (State.foldl_keeps (·.fabric.msgs) _ (fun s i => ?_) _ _).trans ?_
  · rfl
  · rfl

theorem State.sendControl_msgs : s.sendControl.fabric.msgs = s.fabric.msgs.filter fun m => m.vc != 0 := by
  unfold State.sendControl
  refine (State.foldl_keeps (·.fabric.msgs) _ (fun s m => ?_) _ _).trans rfl
  split
  · exact State.controlTo_msgs ..
  · split
    · exact State.controlTo_msgs ..
    · rfl

end

theorem State.dropMsg_links (m : FabMsg) (s : State) : (s.dropMsg m).links = s.links := by
  unfold State.dropMsg
  dsimp only
  split
  · split
    · unfold State.freeLanding
      split <;> rfl
    · rfl
  · split <;> rfl

theorem State.requestGrants_links (s : State) : s.requestGrants.links = s.links := by
  unfold State.requestGrants
  split
  · refine State.foldl_keeps State.links _ (fun s m => ?_) _ _
    split
    · exact State.links_of_quiet ((State.quiet_controlTo ..).trans rfl)
    · exact State.dropMsg_links ..
  · rfl

theorem State.fabricGo_links (s : State) : s.fabricGo.links = s.links := by
  unfold State.fabricGo
  calc _ = _ := State.links_of_quiet (State.quiet_of_wire (State.wire_pump _))
    _ = _ := State.links_of_quiet (State.quiet_sendGranted _)
    _ = _ := State.requestGrants_links _
    _ = _ := State.links_of_quiet (State.quiet_sendControl _)

/-- An update of the elements of a list that keeps a view of every state like the first keeps it as a whole. -/
theorem State.foldl_keeps_of {α β : Type} (v : State → β) (g : State → α → State) (s₀ : State) :
    ∀ l : List α, (∀ a ∈ l, ∀ s, v s = v s₀ → v (g s a) = v s₀) → ∀ s, v s = v s₀ → v (l.foldl g s) = v s₀
  | [], _, _, hs => hs
  | a :: l, h, s, hs =>
    State.foldl_keeps_of v g s₀ l (fun b hb => h b (List.mem_cons_of_mem a hb)) (g s a) (h a List.mem_cons_self s hs)

theorem State.requestGrants_quiet {s : State} (h : s.allRouted) : s.requestGrants.quiet = s.quiet := by
  unfold State.requestGrants
  split
  · rename_i hactive
    refine State.foldl_keeps_of State.quiet _ s _ (fun m hm x hx => ?_) s rfl
    have hroute : (x.portTo m.dst).isSome = true := by
      rw [State.portTo_of_links (State.links_of_quiet hx)]
      exact (h.resolve_left (not_not_intro hactive)) m (List.mem_of_mem_filter hm)
    obtain ⟨p, hp⟩ := Option.isSome_iff_exists.mp hroute
    rw [hp]
    exact (State.quiet_controlTo ..).trans hx
  · rfl

/-- Control messages need no route: the fabric goes on without a dropped message where the others have one. -/
theorem State.fabricGo_quiet {s : State}
    (h : s.fabric.census ≠ 4 ∨ ∀ m ∈ s.fabric.msgs, m.vc ≠ 0 → (s.portTo m.dst).isSome = true) :
    s.fabricGo.quiet = s.quiet := by
  have hlinks := State.links_of_quiet (State.quiet_sendControl s)
  have hrouted : s.sendControl.allRouted := by
    unfold State.allRouted
    rw [State.census_of_links hlinks]
    refine h.imp_right fun hall m hm => ?_
    rw [State.sendControl_msgs, List.mem_filter] at hm
    rw [State.portTo_of_links hlinks]
    exact hall m hm.1 (by simpa using hm.2)
  unfold State.fabricGo
  calc _ = _ := State.quiet_of_wire (State.wire_pump _)
    _ = _ := State.quiet_sendGranted _
    _ = _ := State.requestGrants_quiet hrouted
    _ = _ := State.quiet_sendControl _

/-- States with the same links differ in what messages without a route touch only. -/
theorem State.onlyLinks_of_links {s s' : State} (h : s'.links = s.links) (hq : s.allRouted → s'.quiet = s.quiet) :
    s.onlyLinks s' := by
  refine ⟨?_, fun hrouted => ?_⟩
  · have hrest := congrArg (fun x : State => { x with
      time := s.time, fabric := s.fabric, farming := s.farming, req := s.req,
      hub := { x.hub with selCounters := s.hub.selCounters, counters := s.hub.counters },
      mbx := { x.mbx with cmds := s.mbx.cmds }, worlds := { x.worlds with landingUsed := s.worlds.landingUsed } }) h
    exact hrest
  · exact ⟨(congrArg State.mbx (hq hrouted) :), (congrArg State.worlds (hq hrouted) :)⟩

end Sys2Proof.Machine
end

section
/-!
SUPPORT. The flits that a port holds (R375, R376): a port that sends keeps them.
-/
namespace Sys2Proof.Machine

theorem State.port_modPort (s : State) {i : Nat} (hi : i < s.fabric.ports.length) (g : Port → Port) :
    (s.modPort i g).port i = g (s.port i) :=
  getD_modify_self hi g {}

theorem State.port_modPort_ne (s : State) {i j : Nat} (hne : j ≠ i) (g : Port → Port) :
    (s.modPort i g).port j = s.port j :=
  getD_modify_ne (Ne.symm hne) s.fabric.ports g {}

theorem State.ports_length_modPort (s : State) (i : Nat) (g : Port → Port) :
    (s.modPort i g).fabric.ports.length = s.fabric.ports.length :=
  List.length_modify ..

/-- An update of one port leaves another, or one that does not exist, as it is. -/
theorem State.port_modPort_cases (s : State) (i j : Nat) (g : Port → Port) :
    (s.modPort i g).port j = s.port j ∨ (s.modPort i g).port j = g (s.port j) := by
  by_cases hj : j = i
  · subst hj
    by_cases hlen : j < s.fabric.ports.length
    · exact .inr (State.port_modPort s hlen g)
    · refine .inl ?_
      have hports : (s.modPort j g).fabric.ports = s.fabric.ports := List.modify_eq_self (Nat.le_of_not_lt hlen)
      rw [State.port, hports, State.port]
  · exact .inl (State.port_modPort_ne s hj g)

theorem State.port_selEvent (scope inst event qual layer op k : Nat) (s : State) (j : Nat) :
    (s.selEvent scope inst event qual layer op k).port j = s.port j := by
  rw [State.port, State.selEvent_fabric, State.port]

theorem State.portSend_port_ne (s : State) {i j : Nat} (hne : j ≠ i) (f : Flit) : (s.portSend i f).port j = s.port j := by
  unfold State.portSend
  rw [State.port_modPort_ne _ hne, State.port_selEvent]

/-- A flit that leaves a port is kept for replay, with its VC, destination and payload. -/
theorem State.portSend_held (s : State) {i : Nat} (hi : i < s.fabric.ports.length) (f : Flit) :
    ∃ g : Flit, g.vc = f.vc ∧ g.dst = f.dst ∧ g.payload = f.payload ∧
      ((s.portSend i f).port i).held = (s.port i).held ++ [g] := by
  unfold State.portSend
  rw [State.port_modPort _ (by rwa [State.selEvent_fabric]), State.port_selEvent]
  generalize s.port i = p
  refine ⟨Flit.sealed { f with
    lseq := (p.txSeq + 1) % 65536, lack := p.rxSeq, credits := owedNow p.owed, sendTime := s.time.now }, rfl, rfl, rfl, ?_⟩
  simp only [Port.held, List.map_append, List.append_assoc, List.map_cons, List.map_nil]

/-! ## A message that a port holds -/

/-- A port holds a flit with this destination and payload, for the first time or for replay. -/
def Port.holds (dst : Nat) (body : List Byte) (p : Port) : Prop := ∃ f ∈ p.held, f.dst = dst ∧ f.payload = body

section
variable {dst : Nat} {body : List Byte} {j : Nat} {s : State}

/-- A port that holds more flits still holds a message. -/
theorem Port.holds_of_subset {p q : Port} (hsub : ∀ f ∈ p.held, f ∈ q.held) (h : p.holds dst body) : q.holds dst body := by
  obtain ⟨f, hf, hfields⟩ := h
  exact ⟨f, hsub f hf, hfields⟩

/-- An update of a port that keeps its flits keeps a message. -/
theorem State.modPort_holds {i : Nat} {g : Port → Port} (hg : ∀ p, ∀ f ∈ p.held, f ∈ (g p).held)
    (h : (s.port j).holds dst body) : ((s.modPort i g).port j).holds dst body := by
  rcases State.port_modPort_cases s i j g with hport | hport <;> rw [hport]
  · exact h
  · exact Port.holds_of_subset (hg _) h

theorem State.portSend_holds (i : Nat) (f : Flit) (h : (s.port j).holds dst body) :
    ((s.portSend i f).port j).holds dst body := by
  unfold State.portSend
  refine State.modPort_holds (fun p f hf => ?_) (by rwa [State.port_selEvent])
  simp only [Port.held, List.mem_append, List.map_append] at hf ⊢
  exact hf.imp_right Or.inl

/-- The flit that a port sends stands in its replay buffer. -/
theorem State.portSend_holds_sent {f : Flit} (hj : j < s.fabric.ports.length) :
    ((s.portSend j f).port j).holds f.dst f.payload := by
  obtain ⟨g, -, hdst, hbody, hheld⟩ := State.portSend_held s hj f
  exact ⟨g, by rw [hheld]; exact List.mem_append_right _ List.mem_cons_self, hdst, hbody⟩

theorem Port.held_tx_append (p : Port) (l : List Flit) : ∀ f ∈ p.held, f ∈ ({ p with tx := p.tx ++ l } : Port).held := by
  intro f hf
  simp only [Port.held, List.mem_append] at hf ⊢
  exact hf.imp_left Or.inl

theorem Port.held_rx (p : Port) (l : List Flit) : ({ p with rx := l } : Port).held = p.held := rfl

/-- While the flits of a transmit queue are gone through, a message stands at its port or among those still to come. -/
theorem State.drain_holds (i vc : Nat) : ∀ (l : List Flit) (s : State), j < s.fabric.ports.length →
    ((s.port j).holds dst body ∨ (j = i ∧ ∃ f ∈ l, f.dst = dst ∧ f.payload = body)) →
    ((l.foldl (fun s f => if f.vc = vc ∧ s.portReady i vc = true then s.portSend i f
      else s.modPort i fun p => { p with tx := p.tx ++ [f] }) s).port j).holds dst body
  | [], s, _, h => by
    rcases h with h | ⟨-, f, hf, -⟩
    · exact h
    · exact absurd hf List.not_mem_nil
  | f :: l, s, hj, h => by
    rw [List.foldl_cons]
    refine State.drain_holds i vc l _ ?_ ?_
    · split
      · rwa [State.ports_length_of_links (State.links_of_quiet (State.quiet_of_wire (State.wire_portSend ..)))]
      · rwa [State.ports_length_modPort]
    · rcases h with h | ⟨rfl, g, hg, hdst, hbody⟩
      · refine .inl ?_
        split
        · exact State.portSend_holds i f h
        · exact State.modPort_holds (fun p => Port.held_tx_append p _) h
      · rcases List.mem_cons.mp hg with rfl | hg
        · subst hdst hbody
          refine .inl ?_
          split
          · exact State.portSend_holds_sent hj
          · rw [State.port_modPort _ hj]
            exact ⟨g, by simp [Port.held], rfl, rfl⟩
        · exact .inr ⟨rfl, g, hg, hdst, hbody⟩

theorem State.drainVc_holds (i vc : Nat) (hj : j < s.fabric.ports.length) (h : (s.port j).holds dst body) :
    ((s.drainVc i vc).port j).holds dst body := by
  unfold State.drainVc
  refine State.drain_holds i vc _ _ (by rwa [State.ports_length_modPort]) ?_
  by_cases hji : j = i
  · subst hji
    obtain ⟨f, hf, hfields⟩ := h
    rcases List.mem_append.mp hf with hf | hf
    · exact .inr ⟨rfl, f, hf, hfields⟩
    · refine .inl ⟨f, ?_, hfields⟩
      rw [State.port_modPort _ hj]
      exact List.mem_append_right _ hf
  · exact .inl (by rwa [State.port_modPort_ne _ hji])

theorem State.relayVc_holds (i vc : Nat) (h : (s.port j).holds dst body) : ((s.relayVc i vc).port j).holds dst body := by
  unfold State.relayVc
  refine State.foldl_inv (fun s => (s.port j).holds dst body) _ (fun s f hs => ?_) _ _
    (State.modPort_holds (fun p f hf => hf) h)
  split
  · exact State.modPort_holds (fun p f hf => hf) hs
  · split
    · exact State.modPort_holds (fun p f hf => hf) hs
    · split
      · exact State.modPort_holds (fun p f hf => hf) (State.portSend_holds _ _ hs)
      · exact State.modPort_holds (fun p f hf => hf) hs

/-- The ports of a state with the same links are as many. -/
theorem State.lt_of_wire {s' : State} (hw : s'.wire = s.wire) (hj : j < s.fabric.ports.length) :
    j < s'.fabric.ports.length := by
  rwa [State.ports_length_of_links (State.links_of_quiet (State.quiet_of_wire hw))]

theorem State.pump_holds (hj : j < s.fabric.ports.length) (h : (s.port j).holds dst body) :
    (s.pump.port j).holds dst body := by
  unfold State.pump
  refine (State.foldl_inv (fun s => j < s.fabric.ports.length ∧ (s.port j).holds dst body) _ (fun s vc hs => ?_) _ _
    ⟨hj, h⟩).2
  refine State.foldl_inv (fun s => j < s.fabric.ports.length ∧ (s.port j).holds dst body) _ (fun s i hs => ?_) _ _
    (State.foldl_inv (fun s => j < s.fabric.ports.length ∧ (s.port j).holds dst body) _ (fun s i hs => ?_) _ _ hs)
  · exact ⟨State.lt_of_wire (State.wire_drainVc ..) hs.1, State.drainVc_holds i vc hs.1 hs.2⟩
  · exact ⟨State.lt_of_wire (State.wire_relayVc ..) hs.1, State.relayVc_holds i vc hs.2⟩

/-- A part of a control message enters the transmit queues. -/
def State.queuePart (ports : List Nat) (f : Flit) (s : State) : State :=
  ports.foldl (init := s) fun s i => s.modPort i fun p => { p with tx := p.tx ++ [f] }

theorem State.queuePart_holds (ports : List Nat) (f : Flit) (h : (s.port j).holds dst body) :
    ((s.queuePart ports f).port j).holds dst body :=
  State.foldl_inv (fun s => (s.port j).holds dst body) _
    (fun _ _ hs => State.modPort_holds (fun p => Port.held_tx_append p _) hs) _ _ h

theorem State.queuePart_length (ports : List Nat) (f : Flit) :
    (s.queuePart ports f).fabric.ports.length = s.fabric.ports.length :=
  State.foldl_keeps (·.fabric.ports.length) _ (fun _ _ => State.ports_length_modPort ..) _ _

theorem State.drainPorts_holds (ports : List Nat) (hj : j < s.fabric.ports.length) (h : (s.port j).holds dst body) :
    ((ports.foldl (fun s i => s.drainVc i 0) s).port j).holds dst body :=
  (State.foldl_inv (fun s => j < s.fabric.ports.length ∧ (s.port j).holds dst body) _
    (fun _ i hs => ⟨State.lt_of_wire (State.wire_drainVc ..) hs.1, State.drainVc_holds i 0 hs.1 hs.2⟩) _ _ ⟨hj, h⟩).2

/-- The parts of a control message enter the transmit queues, each under its number. -/
def State.queueParts (ports : List Nat) (to_ : Nat) (parts : List (List Byte)) (s : State) : State :=
  parts.foldl (init := s) fun s b => (s.modFabric (Fabric.useId 0)).queuePart ports {
    crc := 0, vc := 0, kind := 0, src := s.address, dst := to_, lseq := 0, lack := 0, sendTime := 0, len := b.length,
    credits := [], msg := s.fabric.nextId 0, payload := b }

theorem State.controlTo_eq (ports : List Nat) (to_ : Nat) (b : List Byte) (s : State) :
    s.controlTo ports to_ b = ports.foldl (fun s i => s.drainVc i 0) (s.queueParts ports to_ (controlParts b)) := rfl

theorem State.queueParts_length (ports : List Nat) (to_ : Nat) (parts : List (List Byte)) :
    (s.queueParts ports to_ parts).fabric.ports.length = s.fabric.ports.length := by
  unfold State.queueParts
  refine State.foldl_keeps (·.fabric.ports.length) _ (fun s b => ?_) _ _
  exact State.queuePart_length ..

theorem State.controlTo_holds (ports : List Nat) (to_ : Nat) (b : List Byte) (hj : j < s.fabric.ports.length)
    (h : (s.port j).holds dst body) : ((s.controlTo ports to_ b).port j).holds dst body := by
  rw [State.controlTo_eq]
  refine State.drainPorts_holds ports (by rwa [State.queueParts_length]) ?_
  unfold State.queueParts
  refine State.foldl_inv (fun s => (s.port j).holds dst body) _ (fun s b hs => ?_) _ s h
  exact State.queuePart_holds ports _ hs

/-- A control message of one flit that a port sends stands at the port. -/
theorem State.controlTo_holds_sent (to_ : Nat) {b : List Byte} (hb : b.length ≤ 228) (hj : j < s.fabric.ports.length) :
    ((s.controlTo [j] to_ b).port j).holds to_ b := by
  rw [State.controlTo_eq, controlParts, if_pos hb]
  refine State.drainPorts_holds [j] (by rwa [State.queueParts_length]) ?_
  have hport := State.port_modPort (s.modFabric (Fabric.useId 0)) hj fun p => { p with tx := p.tx ++ [{
    crc := 0, vc := 0, kind := 0, src := s.address, dst := to_, lseq := 0, lack := 0, sendTime := 0, len := b.length,
    credits := [], msg := s.fabric.nextId 0, payload := b }] }
  refine hport ▸ ⟨_, List.mem_append_left _ (List.mem_append_right _ List.mem_cons_self), rfl, rfl⟩

theorem State.sendMsg_holds (m : FabMsg) (hj : j < s.fabric.ports.length) (h : (s.port j).holds dst body) :
    (State.port (if m.dst = 0xFF then s.flood 4 m.body
      else match s.portTo m.dst with
        | some p => s.controlTo [p] m.dst m.body
        | none => s) j).holds dst body := by
  split
  · exact State.controlTo_holds _ _ _ hj h
  · split
    · exact State.controlTo_holds _ _ _ hj h
    · exact h

/-- An update of each element of a list that keeps a view of the state, and a property that one of them brings about, leaves
that property. -/
theorem State.foldl_reaches {α β : Type} (v : State → β) (P : State → Prop) (g : State → α → State) (s₀ : State) {a : α}
    (hv : ∀ s b, v (g s b) = v s) (hkeep : ∀ s b, v s = v s₀ → P s → P (g s b)) (hreach : ∀ s, v s = v s₀ → P (g s a)) :
    ∀ l : List α, ∀ s, v s = v s₀ → (P s ∨ a ∈ l) → P (l.foldl g s)
  | [], _, _, hs => hs.resolve_right List.not_mem_nil
  | b :: l, s, hvs, hs => by
    refine State.foldl_reaches v P g s₀ hv hkeep hreach l (g s b) ((hv s b).trans hvs) ?_
    rcases hs with hs | hs
    · exact .inl (hkeep s b hvs hs)
    · rcases List.mem_cons.mp hs with rfl | hs
      · exact .inl (hreach s hvs)
      · exact .inr hs

theorem State.lt_of_links {s' : State} (hw : s'.links = s.links) (hj : j < s.fabric.ports.length) :
    j < s'.fabric.ports.length := by
  rwa [State.ports_length_of_links hw]

theorem State.quiet_sendMsg (m : FabMsg) (s : State) :
    (if m.dst = 0xFF then s.flood 4 m.body
      else match s.portTo m.dst with
        | some p => s.controlTo [p] m.dst m.body
        | none => s).quiet = s.quiet := by
  split
  · exact State.quiet_flood ..
  · split
    · exact State.quiet_controlTo ..
    · rfl

/-- A control message of one flit with a route leaves as a flit of the port toward its node. -/
theorem State.sendControl_holds {m : FabMsg} (hm : m ∈ s.fabric.msgs) (hvc : m.vc = 0) (hdst : m.dst ≠ 0xFF)
    (hroute : s.portTo m.dst = some j) (hb : m.body.length ≤ 228) (hj : j < s.fabric.ports.length) :
    (s.sendControl.port j).holds m.dst m.body := by
  unfold State.sendControl
  refine State.foldl_reaches State.quiet (fun s => (s.port j).holds m.dst m.body) _ s (fun s m => State.quiet_sendMsg m s)
    (fun x b hx => State.sendMsg_holds b (State.lt_of_links (State.links_of_quiet hx) hj)) (fun x hx => ?_) _ _ rfl
    (.inr (List.mem_filter.mpr ⟨hm, by simpa using hvc⟩))
  rw [if_neg hdst, State.portTo_of_links (State.links_of_quiet hx), hroute]
  exact State.controlTo_holds_sent _ hb (State.lt_of_links (State.links_of_quiet hx) hj)

theorem State.dropMsg_ports (m : FabMsg) (s : State) : (s.dropMsg m).fabric.ports = s.fabric.ports := by
  unfold State.dropMsg
  dsimp only
  split
  · split
    · unfold State.freeLanding
      split <;> rfl
    · rfl
  · split <;> rfl

theorem State.requestGrants_holds (hj : j < s.fabric.ports.length) (h : (s.port j).holds dst body) :
    (s.requestGrants.port j).holds dst body := by
  unfold State.requestGrants
  split
  · refine (State.foldl_inv (fun s => j < s.fabric.ports.length ∧ (s.port j).holds dst body) _ (fun s m hs => ?_) _ _
      ⟨hj, h⟩).2
    obtain ⟨hlen, hs⟩ := hs
    split
    · exact ⟨State.lt_of_links (State.links_of_quiet (State.quiet_controlTo ..)) hlen, State.controlTo_holds _ _ _ hlen hs⟩
    · exact ⟨State.lt_of_links (State.dropMsg_links ..) hlen, by rwa [State.port, State.dropMsg_ports]⟩
  · exact h

theorem State.sendGranted_holds (hj : j < s.fabric.ports.length) (h : (s.port j).holds dst body) :
    (s.sendGranted.port j).holds dst body := by
  unfold State.sendGranted
  split
  · refine (fun hs : _ ∧ _ => State.pump_holds hs.1 hs.2) (State.foldl_inv
      (fun s => j < s.fabric.ports.length ∧ (s.port j).holds dst body) _ (fun s m hs => ?_) _ _ ⟨hj, h⟩)
    obtain ⟨hlen, hs⟩ := hs
    split
    · exact ⟨hlen, hs⟩
    · exact ⟨(State.ports_length_modPort ..).symm ▸ hlen, State.modPort_holds (fun p => Port.held_tx_append p _) hs⟩
  · exact h

/-- A control message of one flit with a route stands at the port toward its node once the fabric went on. -/
theorem State.fabricGo_holds {m : FabMsg} (hm : m ∈ s.fabric.msgs) (hvc : m.vc = 0) (hdst : m.dst ≠ 0xFF)
    (hroute : s.portTo m.dst = some j) (hb : m.body.length ≤ 228) (hj : j < s.fabric.ports.length) :
    (s.fabricGo.port j).holds m.dst m.body := by
  have hcontrol := State.lt_of_links (State.links_of_quiet (State.quiet_sendControl s)) hj
  have hgrants := State.lt_of_links (State.requestGrants_links s.sendControl) hcontrol
  have hsent := State.lt_of_links (State.links_of_quiet (State.quiet_sendGranted s.sendControl.requestGrants)) hgrants
  exact State.pump_holds hsent (State.sendGranted_holds hgrants (State.requestGrants_holds hcontrol
    (State.sendControl_holds hm hvc hdst hroute hb hj)))

end

end Sys2Proof.Machine
end

section
/-!
SUPPORT. The obligation on messages from other nodes (R46, R298, R300, R387, R390, R391).
-/
namespace Sys2Proof.Machine

/-! ## Farm messages and completions -/

section
variable (s : State) (kind port src : Nat) (body : List Byte) (t : Nat)

theorem State.farmInput_live (h : s.frame.devState ≠ 3) : State.farmInput kind port src body s =
    s.modFarming fun f => { f with inputs := f.inputs ++ [{
      kind := kind, src := src, frame := s.frameFor s.time.now, body := body, world := port, seq := s.time.now }] } :=
  State.when_pos (by simpa using h) ..

theorem State.farmInput_replay (h : s.frame.devState = 3) : State.farmInput kind port src body s = s :=
  State.when_neg (by simpa using h) ..

end

/-- Brine sent to another node has no command of its own left here: its completion changes nothing. -/
theorem State.brineCompletion_none {s : State} {msg : Nat}
    (h : ∀ c ∈ s.mbx.cmds, c.proxyMsg = some msg → c.response ≠ none) (status arg frame : Nat) :
    s.brineCompletion msg status arg frame = s := by
  have hnone : s.mbx.cmds.find? (fun c => c.proxyMsg == some msg && c.response.isNone) = none :=
    List.find?_eq_none.mpr fun c hc => by simpa using h c hc
  rw [State.brineCompletion, hnone]

/-- The payload that a completion brings its proxy command. -/
def State.completionPayload (s : State) (c : Cmd) (status frame : Nat) : List Byte :=
  if status ≠ 0 then []
  else if c.opcode = 0x0402 then
    le 8 s.fresh.1.toNat ++ le 4 frame ++ le 1 s.fresh.2.fresh.1.toNat ++ zeros 3
  else le 4 (c.recordList.elim (fun _ => 0) List.length) ++ le 4 frame

/-- The state with the free values of an urgent completion drawn. -/
def State.completionDrawn (s : State) (c : Cmd) : State := s.modFree fun n => if c.opcode = 0x0402 then n + 2 else n

theorem State.brineCompletion_some {s : State} {msg : Nat} {c : Cmd}
    (h : s.mbx.cmds.find? (fun x => x.proxyMsg == some msg && x.response.isNone) = some c) (status arg frame : Nat) :
    s.brineCompletion msg status arg frame =
      (((s.completionDrawn c).respond c
        { status := status, arg := arg, payload := s.completionPayload c status frame }).freeLanding c).modFabric
          fun f => { f with msgs := f.msgs.filter fun m => !(m.same 1 msg) } := by
  rw [State.brineCompletion, h]
  dsimp only
  unfold State.completionDrawn State.completionPayload
  by_cases hu : c.opcode = 0x0402
  · simp only [hu, beq_self_eq_true, if_true]
    rfl
  · have hu' : (c.opcode == 0x0402) = false := by simpa using hu
    simp only [hu', hu, if_false, Bool.false_eq_true]
    cases c.recordList <;> rfl

/-! ## Brine from another node -/

/-- A number that is not free is the last of those tried. -/
theorem leastFree_mem {used : List Nat} : ∀ {n a : Nat}, leastFree used a n ∈ used → ∀ k ≤ n, a + k ∈ used
  | 0, a, h, k, hk => by
    obtain rfl : k = 0 := by omega
    exact h
  | n + 1, a, h, k, hk => by
    by_cases hin : a ∈ used
    · rw [leastFree, if_pos (List.contains_iff_mem.mpr hin)] at h
      rcases k with _ | k
      · exact hin
      · have := leastFree_mem h k (by omega)
        rwa [show a + (k + 1) = a + 1 + k by omega]
    · rw [leastFree, if_neg (mt List.contains_iff_mem.mp hin)] at h
      exact absurd h hin

/-- Among enough numbers one is free. -/
theorem leastFree_not_mem {used : List Nat} {n : Nat} (h : used.length ≤ n) : leastFree used 0 n ∉ used := fun hin => by
  have hsub : List.range (n + 1) ⊆ used := fun k hk => by
    have := leastFree_mem hin k (by have := List.mem_range.mp hk; omega)
    rwa [Nat.zero_add] at this
  have hlen := (List.nodup_range.subperm hsub).length_le
  rw [List.length_range] at hlen
  omega

/-- The command table with one more command. -/
def State.withCmd (c : Cmd) (s : State) : State :=
  s.modMbx fun m => { m with cmds := m.cmds ++ [c], nextOrder := m.nextOrder + 1 }

/-- Stage 1 of a brine command from another node. -/
def State.fabricStage (urgent : Bool) (c : Cmd) (s : State) : State :=
  if urgent then bodyBrineUrgent c s else bodyBrine c s

/-- The capture entry of a brine command from another node (R298). -/
def State.fabricCaptured (c : Cmd) (s : State) : State :=
  s.capture 5 c.flags 1 0 c.arrival (le 1 (flag (c.opcode == 0x0402) 0) ++ le 1 c.world ++ c.records)

theorem map_append_fresh {l : List Cmd} {c : Cmd} (h : ∀ x ∈ l, ¬(x.fn = c.fn ∧ x.slot = c.slot)) (g : Cmd → Cmd) :
    ((l ++ [c]).map fun x => if x.fn = c.fn ∧ x.slot = c.slot then g x else x) = l ++ [g c] := by
  rw [List.map_append, List.map_singleton, if_pos ⟨rfl, rfl⟩,
    List.map_congr_left (f := fun x => if x.fn = c.fn ∧ x.slot = c.slot then g x else x) (g := id)
      fun x hx => if_neg (h x hx), List.map_id]

section
variable {s : State} {c : Cmd}

/-- A command from another node stands in a slot of its own. -/
theorem State.fabricCmd_fresh {port src : Nat} {urgent : Bool} {world seq : Nat} {body : List Byte}
    (hlen : s.mbx.cmds.length < 65536) (hc : c = s.fabricCmd port src urgent world seq body) :
    ∀ x ∈ s.mbx.cmds, ¬(x.fn = c.fn ∧ x.slot = c.slot) := by
  subst hc
  rintro x hx ⟨hfn, hslot⟩
  have hused : ((s.mbx.cmds.filter fun c => c.fn == fabricFn).map (·.slot)).length ≤ 65536 := by
    rw [List.length_map]
    exact (List.length_filter_le ..).trans hlen.le
  refine leastFree_not_mem hused (List.mem_map.mpr ⟨x, List.mem_filter.mpr ⟨hx, ?_⟩, hslot⟩)
  exact beq_iff_eq.mpr hfn

/-- A command from another node that is answered. -/
def Cmd.fabricDone (c : Cmd) : Bool := c.fn == fabricFn && c.response.isSome

/-- The answer of a command goes back to its node. -/
def State.answerBack (s : State) (c : Cmd) : State :=
  s.fabricSend 0 c.layerId (le 4 c.seq ++ le 2 (c.response.getD { status := 0 }).status ++
    le 2 (c.response.getD { status := 0 }).arg ++ le 4 s.frameNo) none

theorem State.fabricAnswers_eq (s : State) : s.fabricAnswers = (s.mbx.cmds.filter Cmd.fabricDone).foldl State.answerBack
    { s with mbx := { s.mbx with cmds := s.mbx.cmds.filter fun c => !c.fabricDone } } := rfl

theorem fabricDone_none {l : List Cmd} (h : ∀ x ∈ l, x.fn = fabricFn → x.response = none) :
    l.filter (fun c => !c.fabricDone) = l ∧ l.filter Cmd.fabricDone = [] := by
  have hno : ∀ x ∈ l, x.fabricDone = false := fun x hx => by
    simpa [Cmd.fabricDone] using h x hx
  exact ⟨List.filter_eq_self.mpr fun x hx => by simp [hno x hx],
    List.filter_eq_nil_iff.mpr fun x hx => by simp [hno x hx]⟩

/-- Answers go back only for answered commands. -/
theorem State.fabricAnswers_none (h : ∀ x ∈ s.mbx.cmds, x.fn = fabricFn → x.response = none) : s.fabricAnswers = s := by
  obtain ⟨hkept, hdone⟩ := fabricDone_none h
  rw [State.fabricAnswers_eq, hkept, hdone]
  rfl

/-- The answer to the one command answered goes back to its node, and the command leaves. -/
theorem State.fabricAnswers_one {l : List Cmd} (hcmds : s.mbx.cmds = l ++ [c]) (hfn : c.fn = fabricFn) {r : Response}
    (hr : c.response = some r) (h : ∀ x ∈ l, x.fn = fabricFn → x.response = none) :
    s.fabricAnswers = (s.modMbx fun m => { m with cmds := l }).fabricSend 0 c.layerId
      (le 4 c.seq ++ le 2 r.status ++ le 2 r.arg ++ le 4 s.frameNo) none := by
  obtain ⟨hkept, hdone⟩ := fabricDone_none h
  have hc : c.fabricDone = true := by simp [Cmd.fabricDone, hfn, hr]
  rw [State.fabricAnswers_eq, hcmds, List.filter_append, List.filter_append, hkept, hdone]
  simp only [List.filter_cons, hc, List.filter_nil, Bool.not_true, Bool.false_eq_true, if_true, if_false,
    List.append_nil, List.nil_append, List.foldl_cons, List.foldl_nil, State.answerBack, hr, Option.getD_some]
  rfl

end

/-! ## Stage 1 of a command from another node -/

/-- A brine command that came over the fabric: whole, with inline records. -/
def Cmd.FromFabric (c : Cmd) : Prop :=
  c.fn = fabricFn ∧ c.descs = [] ∧ 8 ≤ c.payload.length ∧ allZero (slice c.payload 1 7) = true

theorem State.fabricCmd_fromFabric (s : State) (port src : Nat) (urgent : Bool) (world seq : Nat) (body : List Byte) :
    (s.fabricCmd port src urgent world seq body).FromFabric := by
  refine ⟨rfl, rfl, ?_, ?_⟩
  · simp [State.fabricCmd, le]
  · have hpayload : (s.fabricCmd port src urgent world seq body).payload = le 1 world ++ (zeros 7 ++ body) := by
      simp [State.fabricCmd]
    rw [hpayload, slice_append_right (by simp [le]), show 1 - (le 1 world).length = 0 by simp [le],
      slice_append_left (by simp)]
    decide

/-- The first number at which a search finds something. -/
theorem findSome?_range_first {β : Type} {f : Nat → Option β} {n i : Nat} {b : β} (hi : i < n)
    (hbefore : ∀ j < i, f j = none) (hbad : f i = some b) : (List.range n).findSome? f = some b := by
  obtain ⟨k, rfl⟩ : ∃ k, n = i + (k + 1) := ⟨n - i - 1, by omega⟩
  have hnone : (List.range i).findSome? f = none :=
    List.findSome?_eq_none_iff.mpr fun j hj => hbefore j (List.mem_range.mp hj)
  rw [List.range_add, List.findSome?_append, hnone, List.range_succ_eq_map]
  simp [hbad]

/-- The refusal of a command from another node, with its capture entry. -/
def State.fabricNo (c : Cmd) (st arg : Nat) (s : State) : State := (s.fabricCaptured c).refuse c st arg

section
variable {s : State} {c : Cmd} {urgent : Bool} {rs : List (List Byte)} (hc : c.FromFabric)
  (f : List (List Byte) → State → State)
include hc

theorem State.captureBrine_fabric (k : Nat) (s : State) : s.captureBrine k 0 c = s.fabricCaptured c := by
  obtain ⟨hfn, -⟩ := hc
  exact if_pos hfn

theorem State.freeLanding_fabric (s : State) : s.freeLanding c = s := by
  obtain ⟨-, hdescs, -⟩ := hc
  unfold State.freeLanding
  split
  · rw [Cmd.fetchBytes, hdescs]
    rfl
  · rfl

theorem State.refuses_fabric (k st arg : Nat) (s : State) :
    ((s.captureBrine k 0 c).refuse c st arg).freeLanding c = s.fabricNo c st arg := by
  rw [State.freeLanding_fabric hc, State.captureBrine_fabric hc, State.fabricNo]

theorem State.brineArrival_world (h : 3 < c.world) : s.brineArrival urgent c f = s.fabricNo c 0x0106 0 := by
  obtain ⟨-, hdescs, hlen, hz⟩ := id hc
  unfold State.brineArrival
  rw [if_neg (by simp [hdescs]; omega), if_neg (by simp [hz]), if_pos h]
  exact State.refuses_fabric hc ..

theorem State.brineArrival_proxy (h : c.world ≤ 3) (hp : s.isProxy c.world = true) :
    s.brineArrival urgent c f = (s.fabricCaptured c).forwardBrine urgent c := by
  obtain ⟨-, hdescs, hlen, hz⟩ := id hc
  unfold State.brineArrival
  rw [if_neg (by simp [hdescs]; omega), if_neg (by simp [hz]), if_neg (by omega), if_pos hp]
  exact congrArg _ (State.captureBrine_fabric hc ..)

variable (h : c.world ≤ 3) (hp : s.isProxy c.world = false)
include h hp

theorem State.brineArrival_unloaded (hw : (s.wd c.world).loaded = false) :
    s.brineArrival urgent c f = s.fabricNo c 0x0207 0 := by
  obtain ⟨-, hdescs, hlen, hz⟩ := id hc
  unfold State.brineArrival
  rw [if_neg (by simp [hdescs]; omega), if_neg (by simp [hz]), if_neg (by omega), if_neg (by simp [hp]),
    if_pos (by simp [hw])]
  exact State.refuses_fabric hc ..

variable (hw : (s.wd c.world).loaded = true)
include hw

theorem State.brineArrival_uncut {i : Nat} (hrec : c.recordList = .inl i) :
    s.brineArrival urgent c f = s.fabricNo c 0x0104 i := by
  obtain ⟨-, hdescs, hlen, hz⟩ := id hc
  unfold State.brineArrival
  rw [if_neg (by simp [hdescs]; omega), if_neg (by simp [hz]), if_neg (by omega), if_neg (by simp [hp]),
    if_neg (by simp [hw]), hrec]
  exact State.refuses_fabric hc ..

/-- The checks of the records. -/
theorem State.brineArrival_records (hrec : c.recordList = .inr rs) : s.brineArrival urgent c f =
    if rs.isEmpty then s.fabricNo c 0x0104 0
    else if urgent = true ∧ rs.length > 16 then s.fabricNo c 0x0104 16
    else match (List.range rs.length).findSome? fun i =>
        (recordBad urgent c.world (s.wd c.world) (rs.getD i [])).map fun st => (st, i) with
      | some (st, i) => s.fabricNo c st i
      | none => f rs s := by
  obtain ⟨-, hdescs, hlen, hz⟩ := id hc
  unfold State.brineArrival
  rw [if_neg (by simp [hdescs]; omega), if_neg (by simp [hz]), if_neg (by omega), if_neg (by simp [hp]),
    if_neg (by simp [hw]), hrec]
  simp only [State.refuses_fabric hc] <;> rfl

theorem State.brineArrival_empty (hrec : c.recordList = .inr []) : s.brineArrival urgent c f = s.fabricNo c 0x0104 0 :=
  State.brineArrival_records hc f h hp hw hrec

theorem State.brineArrival_long (hrec : c.recordList = .inr rs) (hu : urgent = true) (hlong : 16 < rs.length) :
    s.brineArrival urgent c f = s.fabricNo c 0x0104 16 := by
  have hne : rs.isEmpty = false := by
    cases rs
    · simp at hlong
    · rfl
  rw [State.brineArrival_records hc f h hp hw hrec, if_neg (by simp [hne]), if_pos ⟨hu, hlong⟩]

variable (hrec : c.recordList = .inr rs) (hne : rs ≠ []) (hshort : urgent = true → rs.length ≤ 16)
include hrec hne hshort

theorem State.brineArrival_bad {i st : Nat} (hi : i < rs.length)
    (hbefore : ∀ j < i, recordBad urgent c.world (s.wd c.world) (rs.getD j []) = none)
    (hbad : recordBad urgent c.world (s.wd c.world) (rs.getD i []) = some st) :
    s.brineArrival urgent c f = s.fabricNo c st i := by
  have hfind : (List.range rs.length).findSome? (fun i =>
      (recordBad urgent c.world (s.wd c.world) (rs.getD i [])).map fun st => (st, i)) = some (st, i) := by
    refine findSome?_range_first hi (fun j hj => ?_) ?_
    · rw [hbefore j hj, Option.map_none]
    · rw [hbad, Option.map_some]
  rw [State.brineArrival_records hc f h hp hw hrec, if_neg (by simpa using hne),
    if_neg (fun hlong => by have := hshort hlong.1; omega), hfind]

theorem State.brineArrival_good
    (hgood : ∀ i < rs.length, recordBad urgent c.world (s.wd c.world) (rs.getD i []) = none) :
    s.brineArrival urgent c f = f rs s := by
  have hfind : (List.range rs.length).findSome? (fun i =>
      (recordBad urgent c.world (s.wd c.world) (rs.getD i [])).map fun st => (st, i)) = none :=
    List.findSome?_eq_none_iff.mpr fun i hi => by rw [hgood i (List.mem_range.mp hi)]; rfl
  rw [State.brineArrival_records hc f h hp hw hrec, if_neg (by simpa using hne),
    if_neg (fun hlong => by have := hshort hlong.1; omega), hfind]

end

/-- What a command from another node does once its records passed the checks at arrival (R107). -/
def Cmd.passes (urgent : Bool) (c : Cmd) (rs : List (List Byte)) (s : State) : State :=
  if urgent then s.modCmd c.fn c.slot fun c => { c with stage := .waiting }
  else match rs.findIdx? fun r => decide ((recFrame r - c.frame).toInt > 16) with
    | some i => ((s.captureBrine 2 0 c).refuse c 0x0108 i).freeLanding c
    | none => s.modCmd c.fn c.slot fun c => { c with stage := .waiting, frame := (rs.map recFrame).foldl laterOf c.frame }

theorem State.fabricStage_eq (urgent : Bool) (c : Cmd) (s : State) :
    s.fabricStage urgent c = s.brineArrival urgent c (c.passes urgent) := by
  cases urgent <;> rfl

@[simp] theorem State.fabricCaptured_farming (c : Cmd) (s : State) : (s.fabricCaptured c).farming = s.farming := by
  simp [State.fabricCaptured]
@[simp] theorem State.fabricCaptured_fabric (c : Cmd) (s : State) : (s.fabricCaptured c).fabric = s.fabric := by
  simp [State.fabricCaptured]
@[simp] theorem State.fabricCaptured_mbx (c : Cmd) (s : State) : (s.fabricCaptured c).mbx = s.mbx := by
  simp [State.fabricCaptured]
@[simp] theorem State.fabricCaptured_frameNo (c : Cmd) (s : State) : (s.fabricCaptured c).frameNo = s.frameNo := by
  simp [State.fabricCaptured, State.frameNo]
theorem State.fabricCaptured_reachable (c : Cmd) (s : State) (n : Nat) :
    (s.fabricCaptured c).reachable n = s.reachable n := by
  rw [State.reachable, State.reachable, State.inCensus, State.inCensus, State.fabricCaptured_fabric]

/-- Capture writes what is recorded alone. -/
theorem State.fabricCaptured_det (c : Cmd) (s : State) : { s.fabricCaptured c with det := s.det } = s := by
  apply State.ext_parts <;> simp [State.fabricCaptured]

section
variable {s : State} {c : Cmd} {urgent : Bool}

theorem State.fabricStage_refuses (hc : c.FromFabric) {st arg : Nat} (h : s.fabricRefuses urgent c st arg) :
    s.fabricStage urgent c = s.fabricNo c st arg := by
  rw [State.fabricStage_eq]
  obtain ⟨hworld, heq⟩ | ⟨hworld, ⟨e, he, hreach⟩, heq⟩ | ⟨⟨hworld, hproxy⟩, hload, heq⟩ |
    ⟨⟨⟨hworld, hproxy⟩, hload⟩, i, hrec, heq⟩ | ⟨⟨⟨hworld, hproxy⟩, hload⟩, rs, hrec, hrs⟩ := h
  · cases heq
    exact State.brineArrival_world hc _ hworld
  · cases heq
    have hproxy : s.isProxy c.world = true := by
      rw [State.isProxy, List.any_eq_true]
      exact ⟨e, List.mem_of_find?_eq_some he, List.find?_some (p := fun e : Shard => e.home != s.fabric.nodeId &&
        e.localWorld == c.world) he⟩
    rw [State.brineArrival_proxy hc _ hworld hproxy, State.forwardBrine, State.fabricCaptured_farming,
      State.fabricCaptured_fabric, he]
    dsimp only
    rw [State.fabricCaptured_reachable, hreach, State.freeLanding_fabric hc]
    rfl
  · cases heq
    exact State.brineArrival_unloaded hc _ hworld hproxy hload
  · cases heq
    exact State.brineArrival_uncut hc _ hworld hproxy hload hrec
  · obtain ⟨rfl, heq⟩ | ⟨hu, hlong, heq⟩ | ⟨hne, hshort, i, hi, hbefore, hbad, rfl⟩ | ⟨hu, hne, hgood, hfar, rfl⟩ := hrs
    · cases heq
      exact State.brineArrival_empty hc _ hworld hproxy hload hrec
    · cases heq
      exact State.brineArrival_long hc _ hworld hproxy hload hrec hu hlong
    · exact State.brineArrival_bad hc _ hworld hproxy hload hrec hne hshort hi hbefore hbad
    · subst hu
      rw [State.brineArrival_good hc _ hworld hproxy hload hrec hne (fun h => absurd h Bool.false_ne_true) hgood,
        Cmd.passes, if_neg Bool.false_ne_true, hfar]
      exact State.refuses_fabric hc ..

theorem State.fabricStage_passes (hc : c.FromFabric) (hworld : c.world ≤ 3) (hproxy : s.isProxy c.world = false)
    (hload : (s.wd c.world).loaded = true) {rs : List (List Byte)} (hrec : c.recordList = .inr rs) (hne : rs ≠ [])
    (hshort : urgent = true → rs.length ≤ 16)
    (hgood : ∀ i < rs.length, recordBad urgent c.world (s.wd c.world) (rs.getD i []) = none)
    (hnear : urgent = false → ∀ r ∈ rs, (recFrame r - c.frame).toInt ≤ 16) :
    s.fabricStage urgent c = s.modCmd c.fn c.slot fun x => { x with
      stage := .waiting, frame := if urgent then x.frame else (rs.map recFrame).foldl laterOf x.frame } := by
  rw [State.fabricStage_eq, State.brineArrival_good hc _ hworld hproxy hload hrec hne hshort hgood, Cmd.passes]
  cases urgent
  · have hfar : rs.findIdx? (fun r => decide ((recFrame r - c.frame).toInt > 16)) = none :=
      List.findIdx?_eq_none_iff.mpr fun r hr => by simpa using hnear rfl r hr
    rw [if_neg Bool.false_ne_true, hfar]
    rfl
  · rfl

/-- Brine for a proxy slot goes on to its home. -/
theorem State.fabricStage_forwards (hc : c.FromFabric) (hworld : c.world ≤ 3) {e : Shard}
    (he : s.farming.shards.find? (fun e => e.home != s.fabric.nodeId && e.localWorld == c.world) = some e)
    (hreach : s.reachable e.home = true) : ∃ body, s.fabricStage urgent c =
      ((s.fabricCaptured c).fabricSend 1 e.home body (some (c.fn, c.slot))).modCmd c.fn c.slot fun x => { x with
        stage := .waiting, proxyMsg := some (s.fabric.nextId 1) } := by
  have hproxy : s.isProxy c.world = true := by
    rw [State.isProxy, List.any_eq_true]
    exact ⟨e, List.mem_of_find?_eq_some he, List.find?_some (p := fun e : Shard => e.home != s.fabric.nodeId &&
      e.localWorld == c.world) he⟩
  rw [State.fabricStage_eq, State.brineArrival_proxy hc _ hworld hproxy, State.forwardBrine, State.fabricCaptured_farming,
    State.fabricCaptured_fabric, he]
  dsimp only
  rw [State.fabricCaptured_reachable, hreach]
  exact ⟨_, rfl⟩

end

/-! ## The rows -/

section
variable {s : State} {port src world seq t : Nat} {urgent : Bool} {body : List Byte} {c : Cmd}

/-- The row of a farm message (R46, R390, R391). -/
theorem farm_bound {kind : Nat} {now : Nat} {frame : BitVec 32} (hnow : now = max s.time.now t)
    (hframe : frame = (if s.gridRuns = true ∧ s.frame.phase = .opened ∧
       now < s.frame.openTime + s.frame.conf.tc * ticksPerUs then s.frame.counter else s.frame.counter + 1))
    (hlive : s.frame.devState ≠ 3) {ok : Bool} (hok : ok = true) :
    ∃ s', ranAt ok t s (State.farmInput kind port src body) = .next s' ∧
      s' = { s with
        time := s'.time,
        farming := { s.farming with inputs := s.farming.inputs ++ [{
          kind := kind, src := src, frame := frame, body := body, world := port, seq := now }] } } ∧ s'.time.now = now := by
  subst hnow hframe
  refine ⟨_, ranAt_pos hok .., ?_⟩
  rw [State.farmInput_live kind port src body (s := s.at t) hlive]
  exact ⟨rfl, rfl⟩

theorem farm_replay {kind : Nat} (hreplay : s.frame.devState = 3) {ok : Bool} (hok : ok = true) :
    ∃ s', ranAt ok t s (State.farmInput kind port src body) = .next s' ∧ { s' with time := s.time } = s := by
  refine ⟨_, ranAt_pos hok .., ?_⟩
  rw [State.farmInput_replay kind port src body (s := s.at t) hreplay]
  rfl

theorem brineCompletion_answers {msg frame n : Nat}
    (hfind : s.mbx.cmds.find? (fun x => x.proxyMsg == some msg && x.response.isNone) = some c)
    (hcmd : s.cmd? c.fn c.slot = some c) (hn : n = c.recordList.elim (fun _ => 0) List.length) (status arg : Nat) :
    ∃ s', exec (.brineCompletion msg status arg frame t) s = .next s' ∧
      (status ≠ 0 → s'.reply? c.fn c.slot = some (refusal status arg)) ∧
      (status = 0 → c.opcode ≠ 0x0402 →
        s'.reply? c.fn c.slot = some { status := 0, arg := arg, payload := le 4 n ++ le 4 frame }) ∧
      (status = 0 → c.opcode = 0x0402 → ∃ p, s'.reply? c.fn c.slot = some { status := 0, arg := arg, payload := p } ∧
        p.length = 16 ∧ slice p 8 4 = le 4 frame ∧ allZero (slice p 13 3) = true) ∧
      (c.opcode ≠ 0x0402 → s'.free = s.free) ∧
      s'.worlds.landingUsed = s.worlds.landingUsed -
        (if c.opcode = 0x0401 ∨ c.opcode = 0x0402 then c.fetchBytes else 0) ∧
      s'.fabric.msgs = s.fabric.msgs.filter (fun m => !(m.same 1 msg)) ∧
      { s' with
        time := s.time, mbx := { s'.mbx with cmds := s.mbx.cmds },
        worlds := { s'.worlds with landingUsed := s.worlds.landingUsed },
        fabric := { s'.fabric with msgs := s.fabric.msgs }, free := s.free } = s := by
  have hopen : c.response = none := by
    have := List.find?_some hfind
    simp only [Bool.and_eq_true, Option.isNone_iff_eq_none] at this
    exact this.2
  have hdrawn : ((s.at t).completionDrawn c).cmd? c.fn c.slot = some c := hcmd
  refine ⟨_, (exec_brineCompletion msg status arg frame t s).trans (ranAt_pos rfl ..), ?_⟩
  rw [State.brineCompletion_some (s := s.at t) hfind, State.freeLanding_eq]
  have hreply := State.reply?_respond
    { status := status, arg := arg, payload := (s.at t).completionPayload c status frame } hdrawn ⟨rfl, rfl⟩ hopen
  refine ⟨fun h => ?_, fun h hop => ?_, fun h hop => ⟨(s.at t).completionPayload c status frame, ?_, ?_, ?_, ?_⟩,
    fun hop => ?_, ?_, rfl, ?_⟩
  · refine hreply.trans ?_
    rw [State.completionPayload, if_pos h]
    rfl
  · subst hn h
    refine hreply.trans ?_
    rw [State.completionPayload, if_neg (not_not_intro rfl), if_neg hop]
  · subst h
    exact hreply
  · rw [State.completionPayload, if_neg (not_not_intro h), if_pos hop]
    simp [le]
  · rw [State.completionPayload, if_neg (not_not_intro h), if_pos hop, List.append_assoc, List.append_assoc,
      slice_append_right (by simp [le]), show 8 - (le 8 (s.at t).fresh.1.toNat).length = 0 by simp [le],
      slice_append_left (by simp [le])]
  · rw [State.completionPayload, if_neg (not_not_intro h), if_pos hop, slice_append_right (by simp [le]),
      show (13 : Nat) - (le 8 (s.at t).fresh.1.toNat ++ le 4 frame ++ le 1 (s.at t).fresh.2.fresh.1.toNat).length = 0 by
        simp [le], slice_all (by simp)]
    decide
  · exact if_neg hop
  · show (if c.opcode = 0x0401 ∨ c.opcode = 0x0402 then _ else _) = _
    split <;> rfl
  · rfl

end

section
variable {s : State} {port src world seq t : Nat} {urgent : Bool} {body : List Byte} {c : Cmd}

theorem fabricBrine_replay (hport : port < 4) (hsrc : src < 64) (h : s.frame.devState = 3) :
    ∃ s', exec (.fabricBrineArrival port src urgent world seq body t) s = .next s' ∧ { s' with time := s.time } = s := by
  refine ⟨_, (exec_fabricBrineArrival port src urgent world seq body t s).trans
    (ranAt_pos (by simp [below, hport, hsrc]) ..), ?_⟩
  rw [State.fabricBrine, if_pos (show (s.at t).frame.devState = 3 from h)]
  rfl

theorem fabricBrine_runs (hport : port < 4) (hsrc : src < 64) (h : s.frame.devState ≠ 3)
    (hc : c = (s.at t).fabricCmd port src urgent world seq body) :
    exec (.fabricBrineArrival port src urgent world seq body t) s =
      .next { ((((s.at t).withCmd c).fabricStage urgent c).fabricAnswers).fabricGo with pending := s.pending } := by
  subst hc
  refine (exec_fabricBrineArrival port src urgent world seq body t s).trans
    ((ranAt_pos (by simp [below, hport, hsrc]) ..).trans ?_)
  rw [State.fabricBrine, if_neg (show ¬ (s.at t).frame.devState = 3 from h)]
  rfl

/-- Where the fabric goes on behind a state that differs in the mailboxes, capture and messages, only fabric parts do. -/
theorem State.onlyFabric_behind {y z : State} (hq : z.quiet = y.quiet)
    (hy : { y with time := s.time, mbx := s.mbx, det := s.det, fabric := s.fabric } = s) :
    s.onlyFabric { z with pending := s.pending, mbx := s.mbx, det := s.det } := by
  have hz := congrArg (fun x : State => { x with
    time := s.time, mbx := s.mbx, det := s.det, fabric := s.fabric, farming := s.farming, req := s.req,
    hub := { x.hub with selCounters := s.hub.selCounters }, pending := s.pending }) hq
  have hy' := congrArg (fun x : State => { x with
    time := s.time, mbx := s.mbx, det := s.det, fabric := s.fabric, farming := s.farming, req := s.req,
    hub := { x.hub with selCounters := s.hub.selCounters }, pending := s.pending }) hy
  exact (hz.trans hy' :)

variable (hport : port < 4) (hsrc : src < 64) (hlive : s.frame.devState ≠ 3) (hlen : s.mbx.cmds.length < 65536)
  (hopen : ∀ x ∈ s.mbx.cmds, x.fn = fabricFn → x.response = none) (hrouted : s.allRouted)
  (hc : c = (s.at t).fabricCmd port src urgent world seq body)
include hport hsrc hlive hlen hopen hrouted hc

/-- A command that passes its checks waits like one of this device (R387). -/
theorem fabricBrine_waits (hworld : c.world ≤ 3) (hproxy : s.isProxy c.world = false)
    (hload : (s.wd c.world).loaded = true) {rs : List (List Byte)} (hrec : c.recordList = .inr rs) (hne : rs ≠ [])
    (hshort : urgent = true → rs.length ≤ 16)
    (hgood : ∀ i < rs.length, recordBad urgent c.world (s.wd c.world) (rs.getD i []) = none)
    (hnear : urgent = false → ∀ r ∈ rs, (recFrame r - c.frame).toInt ≤ 16) :
    ∃ s', exec (.fabricBrineArrival port src urgent world seq body t) s = .next s' ∧
      s'.mbx = { s.mbx with
        cmds := s.mbx.cmds ++ [{ c with
          stage := .waiting, frame := if urgent then c.frame else (rs.map recFrame).foldl laterOf c.frame }],
        nextOrder := s.mbx.nextOrder + 1 } ∧
      s.onlyFabric { s' with mbx := s.mbx } := by
  have hrow := fabricBrine_runs hport hsrc hlive hc
  have hfrom : c.FromFabric := hc ▸ State.fabricCmd_fromFabric ..
  have hnone : c.response = none := by rw [hc]; rfl
  have hfresh := State.fabricCmd_fresh (s := s.at t) hlen hc
  rw [State.fabricStage_passes (s := (s.at t).withCmd c) hfrom hworld hproxy hload hrec hne hshort hgood hnear] at hrow
  generalize hy : ((s.at t).withCmd c).modCmd c.fn c.slot _ = y at hrow
  have hmbx : y.mbx = { s.mbx with
      cmds := s.mbx.cmds ++ [{ c with
        stage := .waiting, frame := if urgent then c.frame else (rs.map recFrame).foldl laterOf c.frame }],
      nextOrder := s.mbx.nextOrder + 1 } := by
    subst hy
    exact congrArg (fun l => { s.mbx with cmds := l, nextOrder := s.mbx.nextOrder + 1 }) (map_append_fresh hfresh _)
  have hrest : { y with time := s.time, mbx := s.mbx, det := s.det, fabric := s.fabric } = s := by subst hy; rfl
  have hanswers : y.fabricAnswers = y := State.fabricAnswers_none fun x hx hfn => by
    rw [hmbx] at hx
    rcases List.mem_append.mp hx with hx | hx
    · exact hopen x hx hfn
    · rw [List.mem_singleton.mp hx]
      exact hnone
  have hfabric : y.fabric = s.fabric := by subst hy; rfl
  have hq : y.fabricGo.quiet = y.quiet := State.fabricGo_quiet (by
    rw [hfabric]
    refine hrouted.imp_right fun hall m hm _ => ?_
    rw [State.portTo, hfabric]
    exact hall m hm)
  rw [hanswers] at hrow
  generalize y.fabricGo = z at hrow hq
  refine ⟨_, hrow, (congrArg State.mbx hq :).trans hmbx, ?_⟩
  have hydet : y.det = s.det := by subst hy; rfl
  have hdet : z.det = s.det := (congrArg State.det hq :).trans hydet
  have := State.onlyFabric_behind hq hrest
  rwa [← hdet] at this

/-- A command that fails a check leaves, and its answer goes back to its source (R387). -/
theorem fabricBrine_refused {status arg : Nat} (hrefuses : s.fabricRefuses urgent c status arg) :
    ∃ s', exec (.fabricBrineArrival port src urgent world seq body t) s = .next s' ∧
      s'.mbx = { s.mbx with nextOrder := s.mbx.nextOrder + 1 } ∧
      (∀ p, s.portTo src = some p → p < 4 → s.fabric.ports.length = 4 →
        ∃ f, (f ∈ (s'.port p).tx ∨ f ∈ (s'.port p).unacked.map (·.flit)) ∧ f.dst = src ∧
          f.payload = le 4 seq ++ le 2 status ++ le 2 arg ++ le 4 s.frameNo) ∧
      s.onlyFabric { s' with mbx := s.mbx, det := s.det } := by
  have hrow := fabricBrine_runs hport hsrc hlive hc
  have hfrom : c.FromFabric := hc ▸ State.fabricCmd_fromFabric ..
  have hnone : c.response = none := by rw [hc]; rfl
  have hfresh := State.fabricCmd_fresh (s := s.at t) hlen hc
  have hrefuses' : ((s.at t).withCmd c).fabricRefuses urgent c status arg := hrefuses
  rw [State.fabricStage_refuses hfrom hrefuses', State.fabricNo] at hrow
  have hframeNo : ((((s.at t).withCmd c).fabricCaptured c).refuse c status arg).frameNo = s.frameNo :=
    State.fabricCaptured_frameNo ..
  have hmbx : ((((s.at t).withCmd c).fabricCaptured c).refuse c status arg).mbx = { s.mbx with
      cmds := s.mbx.cmds ++ [{ c with response := some (refusal status arg), stage := .done }],
      nextOrder := s.mbx.nextOrder + 1 } := by
    rw [State.refuse_mbx, State.fabricCaptured_mbx]
    have hcmds := map_append_fresh hfresh fun x =>
      if x.response = none then { x with response := some (refusal status arg), stage := .done } else x
    rw [if_pos hnone] at hcmds
    exact congrArg (fun l => { s.mbx with cmds := l, nextOrder := s.mbx.nextOrder + 1 }) hcmds
  have hfabric : ((((s.at t).withCmd c).fabricCaptured c).refuse c status arg).fabric = s.fabric :=
    State.fabricCaptured_fabric ..
  have hrest : { (((s.at t).withCmd c).fabricCaptured c).refuse c status arg with
      time := s.time, mbx := s.mbx, det := s.det } = s := by
    have hcaptured := State.fabricCaptured_det c ((s.at t).withCmd c)
    exact (congrArg (fun x : State => { x with time := s.time, mbx := s.mbx, det := s.det }) hcaptured :)
  generalize (((s.at t).withCmd c).fabricCaptured c).refuse c status arg = y at hrow hframeNo hmbx hfabric hrest
  have hlayer : c.layerId = src ∧ c.seq = seq := by rw [hc]; exact ⟨rfl, rfl⟩
  rw [State.fabricAnswers_one (l := s.mbx.cmds) (c := { c with response := some (refusal status arg), stage := .done })
    (r := refusal status arg) (by rw [hmbx]) hfrom.1 rfl hopen, hframeNo, hlayer.1, hlayer.2] at hrow
  have hbytes : (le 4 seq ++ le 2 status ++ le 2 arg ++ le 4 s.frameNo).length ≤ 228 := by simp [le]
  change exec _ s = .next { State.fabricGo ((y.modMbx _).fabricSend 0 src
    (le 4 seq ++ le 2 status ++ le 2 arg ++ le 4 s.frameNo) none) with pending := s.pending } at hrow
  generalize le 4 seq ++ le 2 status ++ le 2 arg ++ le 4 s.frameNo = answer at hrow hbytes ⊢
  generalize hy : (y.modMbx _).fabricSend 0 src answer none = x at hrow
  have hsent : x.fabric = Fabric.useId 0 { s.fabric with
      msgs := s.fabric.msgs ++ [{ id := s.fabric.nextId 0, vc := 0, dst := src, body := answer, cmd := none }] } := by
    subst hy
    exact congrArg (fun f : Fabric => Fabric.useId 0 { f with
      msgs := f.msgs ++ [{ id := f.nextId 0, vc := 0, dst := src, body := answer, cmd := none }] }) hfabric
  have hroute : ∀ n, x.portTo n = s.portTo n := fun n => by rw [State.portTo, hsent]; rfl
  have hq : x.fabricGo.quiet = x.quiet := State.fabricGo_quiet (by
    refine hrouted.imp (fun h => by rwa [hsent]) fun hall m hm hvc => ?_
    rw [hsent] at hm
    rw [hroute]
    rcases List.mem_append.mp hm with hm | hm
    · exact hall m hm
    · exact absurd (congrArg FabMsg.vc (List.mem_singleton.mp hm)) hvc)
  have hholds : ∀ p, s.portTo src = some p → p < 4 → s.fabric.ports.length = 4 →
      (x.fabricGo.port p).holds src answer := fun p hp hlt hfour =>
    State.fabricGo_holds (m := { id := s.fabric.nextId 0, vc := 0, dst := src, body := answer, cmd := none })
      (by rw [hsent]; exact List.mem_append_right _ List.mem_cons_self) rfl (show src ≠ 0xFF by omega)
      ((hroute src).trans hp) hbytes (by rw [hsent]; exact hfour.symm ▸ hlt)
  have hxmbx : x.mbx = { s.mbx with nextOrder := s.mbx.nextOrder + 1 } := by
    subst hy
    exact congrArg (fun m : Mailbox => { m with cmds := s.mbx.cmds }) hmbx
  have hxrest : { x with time := s.time, mbx := s.mbx, det := s.det, fabric := s.fabric } = s := by
    subst hy
    exact (congrArg (fun z : State => { z with fabric := s.fabric }) hrest :)
  generalize x.fabricGo = z at hrow hq hholds
  have honly := State.onlyFabric_behind hq hxrest
  refine ⟨_, hrow, (congrArg State.mbx hq :).trans hxmbx, fun p hp hlt hfour => ?_, honly⟩
  obtain ⟨f, hf, hfields⟩ := hholds p hp hlt hfour
  exact ⟨f, List.mem_append.mp hf, hfields⟩

/-- Brine for a proxy slot waits here and goes on to its home (R387). -/
theorem fabricBrine_proxied {e : Shard} (hworld : c.world ≤ 3)
    (he : s.farming.shards.find? (fun e => e.home != s.fabric.nodeId && e.localWorld == c.world) = some e)
    (hreach : s.reachable e.home = true) (hhome : s.fabric.census = 4 → (s.portTo e.home).isSome = true) :
    ∃ s', exec (.fabricBrineArrival port src urgent world seq body t) s = .next s' ∧
      s'.mbx = { s.mbx with
        cmds := s.mbx.cmds ++ [{ c with stage := .waiting, proxyMsg := some (s.fabric.nextId 1) }],
        nextOrder := s.mbx.nextOrder + 1 } ∧
      s.onlyFabric { s' with mbx := s.mbx, det := s.det } := by
  have hrow := fabricBrine_runs hport hsrc hlive hc
  have hfrom : c.FromFabric := hc ▸ State.fabricCmd_fromFabric ..
  have hnone : c.response = none := by rw [hc]; rfl
  have hfresh := State.fabricCmd_fresh (s := s.at t) hlen hc
  obtain ⟨text, hstage⟩ := State.fabricStage_forwards (s := (s.at t).withCmd c) (urgent := urgent) hfrom hworld he hreach
  rw [hstage] at hrow
  have hcaptured := State.fabricCaptured_det c ((s.at t).withCmd c)
  have hcmbx : (((s.at t).withCmd c).fabricCaptured c).mbx = { s.mbx with
      cmds := s.mbx.cmds ++ [c], nextOrder := s.mbx.nextOrder + 1 } := State.fabricCaptured_mbx ..
  have hcfabric : (((s.at t).withCmd c).fabricCaptured c).fabric = s.fabric := State.fabricCaptured_fabric ..
  change exec _ s = .next { State.fabricGo (State.fabricAnswers (State.modCmd _ _ (fun x => { x with
    stage := .waiting, proxyMsg := some (s.fabric.nextId 1) }) _)) with pending := s.pending } at hrow
  generalize ((s.at t).withCmd c).fabricCaptured c = x at hrow hcaptured hcmbx hcfabric
  generalize hy : (x.fabricSend 1 e.home text _).modCmd c.fn c.slot _ = y at hrow
  have hmbx : y.mbx = { s.mbx with
      cmds := s.mbx.cmds ++ [{ c with stage := .waiting, proxyMsg := some (s.fabric.nextId 1) }],
      nextOrder := s.mbx.nextOrder + 1 } := by
    subst hy
    refine (congrArg (fun m : Mailbox => { m with cmds := m.cmds.map fun y : Cmd =>
      if y.fn = c.fn ∧ y.slot = c.slot then { y with stage := .waiting, proxyMsg := some (s.fabric.nextId 1) } else y })
      hcmbx).trans ?_
    exact congrArg (fun l => { s.mbx with cmds := l, nextOrder := s.mbx.nextOrder + 1 }) (map_append_fresh hfresh _)
  have hsent : y.fabric = Fabric.useId 1 { s.fabric with msgs := s.fabric.msgs ++ [{
      id := s.fabric.nextId 1, vc := 1, dst := e.home, body := text, cmd := some (c.fn, c.slot) }] } := by
    subst hy
    exact congrArg (fun f : Fabric => Fabric.useId 1 { f with msgs := f.msgs ++ [{
      id := f.nextId 1, vc := 1, dst := e.home, body := text, cmd := some (c.fn, c.slot) }] }) hcfabric
  have hanswers : y.fabricAnswers = y := State.fabricAnswers_none fun x hx hfn => by
    rw [hmbx] at hx
    rcases List.mem_append.mp hx with hx | hx
    · exact hopen x hx hfn
    · rw [List.mem_singleton.mp hx]
      exact hnone
  have hq : y.fabricGo.quiet = y.quiet := State.fabricGo_quiet (by
    rw [hsent]
    by_cases hactive : s.fabric.census = 4
    · refine .inr fun m hm _ => ?_
      rw [State.portTo, hsent]
      rcases List.mem_append.mp hm with hm | hm
      · exact (hrouted.resolve_left (not_not_intro hactive)) m hm
      · rw [List.mem_singleton.mp hm]
        exact hhome hactive
    · exact .inl hactive)
  have hyrest : { y with time := s.time, mbx := s.mbx, det := s.det, fabric := s.fabric } = s := by
    subst hy
    exact (congrArg (fun z : State => { z with time := s.time, mbx := s.mbx, det := s.det, fabric := s.fabric })
      hcaptured :)
  rw [hanswers] at hrow
  generalize y.fabricGo = z at hrow hq
  have honly := State.onlyFabric_behind hq hyrest
  exact ⟨_, hrow, (congrArg State.mbx hq :).trans hmbx, honly⟩

end

/-- Settles O51. -/
theorem fabricMessages : Obligations.FabricMessages := by
  unfold Obligations.FabricMessages
  refine ⟨fun s port src body t now frame hport hsrc hnow hframe => ⟨fun hlive => ?_, fun hlive => ?_, fun hreplay => ⟨?_, ?_⟩⟩,
    fun s msg frame t => ⟨fun h status arg => ?_, fun c n hfind hcmd hn status arg =>
      brineCompletion_answers hfind hcmd hn status arg⟩,
    fun s port src world seq urgent body t c hport hsrc => ⟨fabricBrine_replay hport hsrc,
      fun hlive hlen hopen hrouted hc => ⟨?_, ?_, ?_⟩⟩⟩
  · exact farm_bound hnow hframe hlive (by simp [below, hport, hsrc])
  · exact farm_bound hnow hframe hlive (by simp [below, hport])
  · exact farm_replay hreplay (by simp [below, hport, hsrc])
  · exact farm_replay hreplay (by simp [below, hport])
  · refine ⟨_, (exec_brineCompletion msg status arg frame t s).trans (ranAt_pos rfl ..), ?_⟩
    rw [State.brineCompletion_none (s := s.at t) h]
    rfl
  · intro hworld hproxy hload rs hrec hne hshort hgood hnear
    exact fabricBrine_waits hport hsrc hlive hlen hopen hrouted hc hworld hproxy hload hrec hne hshort hgood hnear
  · exact fun status arg h => fabricBrine_refused hport hsrc hlive hlen hopen hrouted hc h
  · exact fun e hworld he hreach hhome =>
      fabricBrine_proxied hport hsrc hlive hlen hopen hrouted hc hworld he hreach hhome

end Sys2Proof.Machine
end

section
/-!
SUPPORT. The start of a census and what its triggers leave (R379, R384, R385).
-/
namespace Sys2Proof.Machine

/-- The state without the fabric, what waits for it and the hub's selectable counters. -/
def State.offFabric (s : State) : State :=
  { s with fabric := {}, farming := {}, req := {}, hub := { s.hub with selCounters := [] } }

theorem State.offFabric_of_quiet {s s' : State} (h : s'.quiet = s.quiet) : s'.offFabric = s.offFabric :=
  congrArg (fun x : State => { x with fabric := {}, farming := {}, req := {} }) h

theorem State.onlyFabric_of_off {s s' : State} (h : s'.offFabric = s.offFabric) : s.onlyFabric s' := by
  have hrest := congrArg (fun x : State => { x with
    time := s.time, fabric := s.fabric, farming := s.farming, req := s.req,
    hub := { x.hub with selCounters := s.hub.selCounters } }) h
  exact hrest

/-- The like for a row, whose time moved on. -/
theorem State.onlyFabric_row {s s' : State} {t : Nat} (h : s'.offFabric = (s.at t).offFabric) :
    s.onlyFabric { s' with pending := (s.at t).pending } := by
  have hrest := congrArg (fun x : State => { x with
    time := s.time, fabric := s.fabric, farming := s.farming, req := s.req,
    hub := { x.hub with selCounters := s.hub.selCounters }, pending := s.pending }) h
  exact hrest

/-! ## The start of a census -/

/-- The fabric and the farming state of a census that begins. -/
def State.censusSet (epoch : Nat) (repeated : Bool) (s : State) : State :=
  let replaces := s.inCensus
  let s := s.unsend (s.fabric.ports.flatMap (·.tx))
  let s := s.modFabric fun f => { f with
    census := 1, epoch := epoch, highestEpoch := max f.highestEpoch epoch, censusStart := s.time.now,
    quietSince := s.time.now, repeated := repeated, again := f.again && replaces,
    answers := if replaces then f.answers else s.waitingCensus, reports := [s.ownReport epoch], routeMsg := none,
    verified := [], ports := f.ports.map Port.settle }
  s.modFarming fun f =>
    { f with shardsCensus := f.shardsCensus || f.pendingShards.isSome, farmsCensus := f.farmsCensus || f.pendingFarms.isSome }

/-- The state in which a census begins, before its REPORT floods; a running session that spans devices pauses (R385). -/
def State.censusBegun (epoch : Nat) (repeated : Bool) (s : State) : State :=
  let s := s.censusSet epoch repeated
  if s.frame.devState = 1 ∧ (List.range 16).any fun i => (s.ses i).state == 3 && s.spans i then
    s.modReq fun r => { r with autoPause := true }
  else s

section
variable (epoch : Nat) (repeated : Bool) (s : State)

theorem State.startCensus_eq : s.startCensus epoch repeated =
    (s.censusBegun epoch repeated).flood 4 (reportBody ((s.censusBegun epoch repeated).ownReport epoch)) := rfl

/-- The fabric of a census that begins. -/
theorem State.censusBegun_fabric : ∃ l, (s.censusBegun epoch repeated).fabric = { s.fabric with
    msgs := l, census := 1, epoch := epoch, highestEpoch := max s.fabric.highestEpoch epoch, censusStart := s.time.now,
    quietSince := s.time.now, repeated := repeated, again := s.fabric.again && s.inCensus,
    answers := if s.inCensus then s.fabric.answers else s.waitingCensus, reports := [s.ownReport epoch], routeMsg := none,
    verified := [], ports := s.fabric.ports.map Port.settle } := by
  refine ⟨(s.unsend (s.fabric.ports.flatMap (·.tx))).fabric.msgs, ?_⟩
  unfold State.censusBegun
  dsimp only
  generalize hset : s.censusSet epoch repeated = y
  have hy := congrArg State.fabric hset
  split <;> exact hy.symm

theorem State.censusBegun_off : (s.censusBegun epoch repeated).offFabric = s.offFabric := by
  unfold State.censusBegun
  dsimp only
  have hset : (s.censusSet epoch repeated).offFabric = s.offFabric := by
    unfold State.offFabric State.censusSet
    rfl
  generalize s.censusSet epoch repeated = y at hset
  split <;> exact hset

theorem Port.settle_still (p : Port) : p.settle.still = p.still := rfl

theorem State.censusBegun_port (i : Nat) : (s.censusBegun epoch repeated).port i = (s.port i).settle := by
  obtain ⟨l, h⟩ := s.censusBegun_fabric epoch repeated
  rw [State.port, h]
  exact List.getD_map (n := i) s.fabric.ports {} Port.settle

theorem State.startCensus_quiet : (s.startCensus epoch repeated).quiet = (s.censusBegun epoch repeated).quiet :=
  State.quiet_flood ..

theorem State.startCensus_off : (s.startCensus epoch repeated).offFabric = s.offFabric :=
  (State.offFabric_of_quiet (State.quiet_flood ..)).trans (s.censusBegun_off epoch repeated)

theorem State.startCensus_still (i : Nat) : ((s.startCensus epoch repeated).port i).still = (s.port i).still := by
  rw [State.still_of_links (State.links_of_quiet (s.startCensus_quiet epoch repeated)), State.censusBegun_port]
  rfl

/-- What stands of the census after its start. -/
theorem State.startCensus_fabric : (s.startCensus epoch repeated).fabric.census = 1 ∧
    (s.startCensus epoch repeated).fabric.epoch = epoch ∧
    (s.startCensus epoch repeated).fabric.highestEpoch = max s.fabric.highestEpoch epoch ∧
    (s.startCensus epoch repeated).fabric.repeated = repeated ∧
    (s.startCensus epoch repeated).fabric.reports = [s.ownReport epoch] ∧
    (s.startCensus epoch repeated).fabric.verified = [] ∧
    (s.startCensus epoch repeated).fabric.enabledAt = s.fabric.enabledAt := by
  obtain ⟨l, hf⟩ := s.censusBegun_fabric epoch repeated
  have hq := s.startCensus_quiet epoch repeated
  generalize s.startCensus epoch repeated = z at hq
  generalize s.censusBegun epoch repeated = y at hq hf
  have hz : z.quiet.fabric = y.quiet.fabric := congrArg State.fabric hq
  refine ⟨(congrArg Fabric.census hz :).trans ?_, (congrArg Fabric.epoch hz :).trans ?_,
    (congrArg Fabric.highestEpoch hz :).trans ?_, (congrArg Fabric.repeated hz :).trans ?_,
    (congrArg Fabric.reports hz :).trans ?_, (congrArg Fabric.verified hz :).trans ?_,
    (congrArg Fabric.enabledAt hz :).trans ?_⟩
  · exact (congrArg Fabric.census hf :)
  · exact (congrArg Fabric.epoch hf :)
  · exact (congrArg Fabric.highestEpoch hf :)
  · exact (congrArg Fabric.repeated hf :)
  · exact (congrArg Fabric.reports hf :)
  · exact (congrArg Fabric.verified hf :)
  · exact (congrArg Fabric.enabledAt hf :)

end

/-! ## Triggers -/

/-- The state without what a trigger of a census touches: the fabric and the commands that wait for a census. -/
def State.offCensus (s : State) : State := { s.offFabric with mbx := { s.mbx with cmds := [] } }

theorem State.offCensus_of_off {s s' : State} (h : s'.offFabric = s.offFabric) : s'.offCensus = s.offCensus :=
  congrArg (fun x : State => { x with mbx := { x.mbx with cmds := [] } }) h

section
variable (s : State)

theorem State.censusTrigger_running (h : s.inCensus = true) :
    s.censusTrigger = s.modFabric fun f => { f with again := true } :=
  if_pos h

theorem State.censusTrigger_starts (h : s.inCensus = false) (hports : s.fabric.ports.any (·.enabled) = true) :
    s.censusTrigger = s.startCensus s.nextEpoch false :=
  (if_neg (by simp [h])).trans (if_pos hports)

/-- The fabric of a device whose ports are all disabled. -/
def State.fabricOff (s : State) : State :=
  s.modFabric fun f => { f with census := 0, nodeId := 0xFF, bound := false, nodes := 0, nextHop := [], again := false }

theorem State.censusTrigger_off (h : s.inCensus = false) (hports : s.fabric.ports.any (·.enabled) = false) :
    s.censusTrigger = s.fabricOff.acceptAll s.waitingCensus :=
  (if_neg (by simp [h])).trans (if_neg (by simp [hports]))

/-- What answering commands leaves. -/
theorem State.acceptAll_keeps (l : List (Nat × Nat)) :
    { s.acceptAll l with mbx := { (s.acceptAll l).mbx with cmds := [] } } = { s with mbx := { s.mbx with cmds := [] } } := by
  unfold State.acceptAll
  refine State.foldl_keeps (fun s : State => { s with mbx := { s.mbx with cmds := [] } }) _ (fun s k => ?_) l s
  split
  · split <;> rfl
  · rfl

theorem State.acceptAll_fabric (l : List (Nat × Nat)) : (s.acceptAll l).fabric = s.fabric :=
  (congrArg State.fabric (s.acceptAll_keeps l) :)

theorem State.acceptAll_offCensus (l : List (Nat × Nat)) : (s.acceptAll l).offCensus = s.offCensus :=
  congrArg (fun x : State => { x with
    fabric := {}, farming := {}, req := {}, hub := { x.hub with selCounters := [] } }) (s.acceptAll_keeps l)

theorem State.censusTrigger_offCensus : s.censusTrigger.offCensus = s.offCensus := by
  by_cases h : s.inCensus = true
  · rw [s.censusTrigger_running h]
    rfl
  · have h' := Bool.eq_false_iff.mpr h
    by_cases hports : s.fabric.ports.any (·.enabled) = true
    · rw [s.censusTrigger_starts h' hports]
      exact State.offCensus_of_off (s.startCensus_off ..)
    · rw [s.censusTrigger_off h' (Bool.eq_false_iff.mpr hports)]
      exact (s.fabricOff.acceptAll_offCensus _).trans rfl

/-- While a port is enabled a trigger answers no command. -/
theorem State.censusTrigger_offFabric (hports : s.fabric.ports.any (·.enabled) = true) :
    s.censusTrigger.offFabric = s.offFabric := by
  by_cases h : s.inCensus = true
  · rw [s.censusTrigger_running h]
    rfl
  · rw [s.censusTrigger_starts (Bool.eq_false_iff.mpr h) hports]
    exact s.startCensus_off ..

theorem State.censusTrigger_still (i : Nat) : (s.censusTrigger.port i).still = (s.port i).still := by
  by_cases h : s.inCensus = true
  · rw [s.censusTrigger_running h]
    rfl
  · have h' := Bool.eq_false_iff.mpr h
    by_cases hports : s.fabric.ports.any (·.enabled) = true
    · rw [s.censusTrigger_starts h' hports]
      exact s.startCensus_still ..
    · rw [s.censusTrigger_off h' (Bool.eq_false_iff.mpr hports), State.port, State.acceptAll_fabric]
      rfl

end

theorem State.any_enabled {s : State} {i : Nat} (h : (s.port i).enabled = true) :
    s.fabric.ports.any (·.enabled) = true := by
  by_cases hi : i < s.fabric.ports.length
  · rw [State.port, List.getD_eq_getElem _ _ hi] at h
    exact List.any_eq_true.mpr ⟨_, List.getElem_mem hi, h⟩
  · rw [State.port, List.getD_eq_default _ _ (Nat.le_of_not_lt hi)] at h
    exact absurd h (by decide)

end Sys2Proof.Machine
end

section
/-!
SUPPORT. The obligation on the fabric command group (R352, R379, R381, R386, R389).
-/
namespace Sys2Proof.Machine

/-! ## Waiting commands that are answered together -/

section
variable {s : State} {fn slot : Nat}

theorem State.cmd?_accept_map (x : Cmd) (s : State) (fn slot : Nat) :
    (s.accept x).cmd? fn slot = (s.cmd? fn slot).map (x.answer (okReply [])) := by
  refine State.cmd?_map s (s.accept x) (x.answer (okReply [])) (fun c => ?_) rfl fn slot
  unfold Cmd.answer
  split_ifs <;> simp

/-- An answer that stands stays when another command is answered. -/
theorem State.accept_replied (x : Cmd) {r : Response} (h : s.reply? fn slot = some r) :
    (s.accept x).reply? fn slot = some r := by
  rw [State.reply?, Option.bind_eq_some_iff] at h
  obtain ⟨c, hc, hr⟩ := h
  have hkeep : x.answer (okReply []) c = c := by
    rw [Cmd.answer, if_neg (by simp [hr] : ¬ c.response = none), ite_self]
  rw [State.reply?, State.cmd?_accept_map, hc, Option.map_some, hkeep]
  exact hr

/-- A command that waits goes on waiting when another one is answered, or is answered itself. -/
theorem State.accept_waits (x : Cmd) (h : s.waitsAt fn slot) :
    (s.accept x).waitsAt fn slot ∨ (s.accept x).reply? fn slot = some (okReply []) := by
  obtain ⟨c, hc, hstage, hopen⟩ := h
  have hcmd := State.cmd?_accept_map x s fn slot
  rw [hc, Option.map_some, Cmd.answer, if_pos hopen] at hcmd
  by_cases hx : c.fn = x.fn ∧ c.slot = x.slot
  · rw [if_pos hx] at hcmd
    exact .inr (by rw [State.reply?, hcmd]; rfl)
  · rw [if_neg hx] at hcmd
    exact .inl ⟨c, hcmd, hstage, hopen⟩

/-- One step of answering a list of commands. -/
def State.acceptOne (s : State) (k : Nat × Nat) : State :=
  match s.cmd? k.1 k.2 with
  | some c => if c.stage = .waiting ∧ c.response = none then s.accept c else s
  | none => s

theorem State.acceptAll_eq (l : List (Nat × Nat)) (s : State) : s.acceptAll l = l.foldl State.acceptOne s := rfl

theorem State.acceptOne_replied (k : Nat × Nat) {r : Response} (h : s.reply? fn slot = some r) :
    (s.acceptOne k).reply? fn slot = some r := by
  unfold State.acceptOne
  split
  · split
    · exact State.accept_replied _ h
    · exact h
  · exact h

theorem State.acceptOne_waits (k : Nat × Nat) (h : s.waitsAt fn slot) :
    (s.acceptOne k).waitsAt fn slot ∨ (s.acceptOne k).reply? fn slot = some (okReply []) := by
  unfold State.acceptOne
  split
  · split
    · exact State.accept_waits _ h
    · exact .inl h
  · exact .inl h

theorem State.acceptOne_answers (h : s.waitsAt fn slot) : (s.acceptOne (fn, slot)).reply? fn slot = some (okReply []) := by
  obtain ⟨c, hc, hstage, hopen⟩ := h
  unfold State.acceptOne
  rw [hc]
  dsimp only
  rw [if_pos ⟨hstage, hopen⟩]
  exact State.reply?_accept rfl hc hopen []

/-- Answering the commands of a list answers each that waits. -/
theorem State.acceptAll_reply : ∀ (l : List (Nat × Nat)) {s : State},
    s.reply? fn slot = some (okReply []) ∨ s.waitsAt fn slot ∧ (fn, slot) ∈ l →
    (s.acceptAll l).reply? fn slot = some (okReply [])
  | [], _, h => h.resolve_right fun hin => List.not_mem_nil hin.2
  | k :: l, s, h => by
    refine State.acceptAll_reply (s := s.acceptOne k) l ?_
    rcases h with hreply | ⟨hwaits, hin⟩
    · exact .inl (State.acceptOne_replied k hreply)
    · rcases List.mem_cons.mp hin with rfl | hin
      · exact .inl (State.acceptOne_answers hwaits)
      · rcases State.acceptOne_waits k hwaits with hwaits | hreply
        · exact .inr ⟨hwaits, hin⟩
        · exact .inl hreply

end

/-! ## FAB_STATUS, FAB_ROUTE_READ and FAB_NODE_BIND -/

section
variable {s : State} {fn slot t : Nat} {c : Cmd} (hslot : isSlot fn slot)

theorem State.fabStatus_taken (s : State) (t : Nat) (c : Cmd) : (s.taken t c).fabStatus = s.fabStatus := by
  unfold State.fabStatus
  simp only [State.port, State.taken_fabric]

theorem State.fabStatus_fields (s : State) : s.fabStatus.length = 64 ∧
    slice s.fabStatus 0 1 = le 1 s.fabric.nodeId ∧ slice s.fabStatus 1 1 = le 1 s.fabric.leader ∧
    slice s.fabStatus 2 1 = le 1 s.fabric.census ∧ slice s.fabStatus 4 1 = le 1 s.fabric.nodes ∧
    slice s.fabStatus 8 4 = le 4 s.fabric.censusCount ∧ slice s.fabStatus 12 8 = le 8 s.fabric.lastCensus := by
  have hzeros : zeros 3 = [0, 0, 0] := rfl
  simp [State.fabStatus, slice, le, hzeros]

include hslot

theorem fabStatus_answers (h : s.isReady 0x0A01 fn slot c) (hp : c.payload = []) :
    ∃ s' p, exec (.fabStatus fn slot t) s = .next s' ∧ s'.reply? fn slot = some (okReply p) ∧ p.length = 64 ∧
      slice p 0 1 = le 1 s.fabric.nodeId ∧ slice p 1 1 = le 1 s.fabric.leader ∧ slice p 2 1 = le 1 s.fabric.census ∧
      slice p 4 1 = le 1 s.fabric.nodes ∧ slice p 8 4 = le 4 s.fabric.censusCount ∧
      slice p 12 8 = le 8 s.fabric.lastCensus ∧ s.onlyAnswered s' := by
  refine ⟨_, s.fabStatus, (exec_fabStatus fn slot t s).trans (execTaken hslot h t _), ?_⟩
  have hbody : bodyFabStatus c (s.taken t c) = (s.taken t c).accept c s.fabStatus := by
    unfold bodyFabStatus
    rw [State.shape_pos (by simp [hp]) (by simp), State.fabStatus_taken]
  rw [hbody]
  obtain ⟨hlen, hnode, hleader, hcensus, hnodes, hcount, hlast⟩ := s.fabStatus_fields
  exact ⟨State.answered h (by simp) _ _, hlen, hnode, hleader, hcensus, hnodes, hcount, hlast,
    State.onlyAnswered_accept ..⟩

theorem fabRouteRead_delivers {a len : Nat} (h : s.isReady 0x0A04 fn slot c) (hp : c.payload = [])
    (hd : c.descs = [{ addr := a, len := len, write := true }]) (hdma : s.dmaOk fn = true) :
    ∃ s', exec (.fabRouteRead fn slot t) s = .next s' ∧
      ((Config.routeTable s.fabric.nextHop).length ≤ len →
        s'.reply? fn slot = some (okReply (le 4 (Config.routeTable s.fabric.nextHop).length)) ∧
        s'.host = Mem.writeBytes a (Config.routeTable s.fabric.nextHop) s.host) ∧
      { s' with time := s.time, det := s.det, mbx := { s'.mbx with cmds := s.mbx.cmds }, host := s.host,
                clusters := s.clusters, stks := s.stks, hub := s.hub } = s := by
  have hrow := (exec_fabRouteRead fn slot t s).trans (execTaken hslot h t _)
  have hbody : bodyFabRouteRead c (s.taken t c) = (s.taken t c).deliverCounted c (Config.routeTable s.fabric.nextHop) := by
    unfold bodyFabRouteRead
    rw [State.shape_pos (by simp [hp]) (by simp), State.taken_fabric]
  by_cases hfit : (Config.routeTable s.fabric.nextHop).length ≤ len
  · obtain ⟨s', hexec, hreply, hhost, hrest⟩ := deliverCounted_answers h.arrived hrow hbody hd hdma hfit
    exact ⟨s', hexec, fun _ => ⟨hreply, hhost⟩, hrest⟩
  · have hshort := State.deliver_short (c := c) (bs := Config.routeTable s.fabric.nextHop)
      (by simpa [Cmd.room, hd, sumN] using hfit) (le 4 (Config.routeTable s.fabric.nextHop).length) (s.taken t c)
    rw [hbody, State.deliverCounted, hshort] at hrow
    obtain ⟨m, l, hat⟩ := State.output_atHost c (Config.routeTable s.fabric.nextHop) (s.taken t c)
    refine ⟨_, hrow, fun hfits => absurd hfits hfit, ?_⟩
    rw [hat]
    apply State.ext_parts <;> simp

theorem fabNodeBind_binds (h : s.isReady 0x0A05 fn slot c) (hlen : c.payload.length = 8)
    (hz : allZero (slice c.payload 1 7) = true) (hdev : s.frame.devState = 0)
    (hn : getU c.payload 0 1 < 64 ∨ getU c.payload 0 1 = 0xFF) (hroom : s.part.ledgerRoom 2 = true) :
    ∃ s', exec (.fabNodeBind fn slot t) s = .next s' ∧ s'.reply? fn slot = some (okReply []) ∧
      s'.boundId = getU c.payload 0 1 ∧ (∀ e ∈ s.part.ledger, e ∈ s'.part.ledger) ∧
      { s' with time := s.time, det := s.det, mbx := { s'.mbx with cmds := s.mbx.cmds },
                part := { s'.part with ledger := s.part.ledger } } = s := by
  refine ⟨_, (exec_fabNodeBind fn slot t s).trans (execTaken hslot h t _), ?_⟩
  have hbody : bodyFabNodeBind c (s.taken t c) =
      ((s.taken t c).ledgerPut 2 (getU c.payload 0 1) (zeros 8)).accept c := by
    unfold bodyFabNodeBind
    dsimp only
    rw [State.shape_pos hlen (by simpa using hz), State.need_pos (by simp [State.devIn, hdev]),
      State.need_pos (by simpa using hn), State.need_pos (by simpa using hroom)]
  rw [hbody]
  refine ⟨State.answered h (by simp [State.ledgerPut]) _ _, ?_, fun e he => ?_, ?_⟩
  · simp [State.boundId, Part.ledgerValue, Part.committed, State.ledgerPut]
  · simp [State.ledgerPut, he]
  · unfold State.ledgerPut
    apply State.ext_parts <;> simp

end

/-! ## FAB_PORTS and FAB_CENSUS -/

section
variable {s : State} {fn slot t : Nat} {c : Cmd}

/-- A command that does not wait is left alone. -/
theorem State.acceptOne_cmd? (k : Nat × Nat) (h : s.cmd? fn slot = some c) (hstage : c.stage ≠ .waiting) :
    (s.acceptOne k).cmd? fn slot = some c := by
  unfold State.acceptOne
  split
  · next x hx =>
    split
    · next hwaits =>
      obtain ⟨hxfn, hxslot⟩ := State.cmd?_slot hx
      obtain ⟨hcfn, hcslot⟩ := State.cmd?_slot h
      have hother : ¬(c.fn = x.fn ∧ c.slot = x.slot) := by
        rintro ⟨hfn, hslot⟩
        rw [← hxfn, ← hxslot, ← hfn, ← hslot, hcfn, hcslot, h] at hx
        exact hstage ((Option.some.inj hx) ▸ hwaits.1)
      rw [State.cmd?_accept_map, h, Option.map_some, Cmd.answer, if_neg hother]
    · exact h
  · exact h

theorem State.acceptAll_cmd? (l : List (Nat × Nat)) (h : s.cmd? fn slot = some c) (hstage : c.stage ≠ .waiting) :
    (s.acceptAll l).cmd? fn slot = some c :=
  State.foldl_inv (fun s => s.cmd? fn slot = some c) _ (fun _ k hs => State.acceptOne_cmd? k hs hstage) l s h

theorem State.censusTrigger_cmd? (h : s.cmd? fn slot = some c) (hstage : c.stage ≠ .waiting) :
    s.censusTrigger.cmd? fn slot = some c := by
  by_cases hin : s.inCensus = true
  · rw [s.censusTrigger_running hin]
    exact h
  · have hin' := Bool.eq_false_iff.mpr hin
    by_cases hports : s.fabric.ports.any (·.enabled) = true
    · rw [s.censusTrigger_starts hin' hports]
      exact (State.cmd?_mbx (congrArg State.mbx (s.startCensus_off s.nextEpoch false) :) fn slot).trans h
    · rw [s.censusTrigger_off hin' (Bool.eq_false_iff.mpr hports)]
      exact State.acceptAll_cmd? _ (s := s.fabricOff) h hstage

/-- FAB_PORTS on one port. -/
def State.switchPort (enable : Nat) (s : State) (i : Nat) : State :=
  if bit enable i then s.modPort i fun p => { p with enabled := true } else s.lowerPort i false

/-- FAB_PORTS on the four ports, with the time of an enabling. -/
def State.portsSet (enable : Nat) (s : State) : State :=
  ((List.range 4).foldl (State.switchPort enable) s).modFabric fun f => { f with
    enabledAt := if (List.range 4).any fun i => bit enable i && !(s.port i).enabled then
      some ((List.range 4).foldl (State.switchPort enable) s).time.now else f.enabledAt }

theorem State.fabPorts_eq (enable : Nat) (s : State) : s.fabPorts enable = (s.portsSet enable).censusTrigger := rfl

theorem State.switchPort_length (enable : Nat) (s : State) (i : Nat) :
    (s.switchPort enable i).fabric.ports.length = s.fabric.ports.length := by
  unfold State.switchPort
  split
  · exact State.ports_length_modPort ..
  · exact State.ports_length_modPort ..

/-- A port is enabled as the mask says, and down where it is not. -/
def Port.isSwitched (on : Bool) (p : Port) : Prop := p.enabled = on ∧ (on = false → p.up = false)

theorem State.switchPort_same {enable i : Nat} (hi : i < s.fabric.ports.length) :
    ((s.switchPort enable i).port i).isSwitched (bit enable i) := by
  unfold State.switchPort
  by_cases hb : bit enable i = true
  · rw [if_pos hb, State.port_modPort s hi, hb]
    exact ⟨rfl, fun h => absurd h Bool.noConfusion⟩
  · rw [if_neg hb, State.lowerPort, State.port_modPort (s.unsend (s.port i).held) hi, Bool.eq_false_iff.mpr hb]
    exact ⟨rfl, fun _ => rfl⟩

theorem State.switchPort_ne {enable i j : Nat} (hne : j ≠ i) : (s.switchPort enable i).port j = s.port j := by
  unfold State.switchPort
  split
  · exact State.port_modPort_ne _ hne _
  · exact State.port_modPort_ne _ hne _

theorem State.portsSet_switched {enable i : Nat} (hi : i < 4) (hlen : s.fabric.ports.length = 4) :
    ((s.portsSet enable).port i).isSwitched (bit enable i) := by
  refine State.foldl_reaches (a := i) (·.fabric.ports.length) (fun x => (x.port i).isSwitched (bit enable i))
    (State.switchPort enable) s (fun x j => x.switchPort_length enable j) (fun x j hx hs => ?_)
    (fun x hx => State.switchPort_same (hx.symm ▸ hlen.symm ▸ hi)) (List.range 4) s rfl (.inr (List.mem_range.mpr hi))
  by_cases hji : i = j
  · subst hji
    exact State.switchPort_same (hx.symm ▸ hlen.symm ▸ hi)
  · rwa [State.switchPort_ne hji]

theorem State.portsSet_offFabric (enable : Nat) (s : State) : (s.portsSet enable).offFabric = s.offFabric := by
  refine State.foldl_keeps State.offFabric (State.switchPort enable) (fun x j => ?_) (List.range 4) s
  unfold State.switchPort
  split <;> rfl

theorem State.portsSet_census (enable : Nat) (s : State) : (s.portsSet enable).fabric.census = s.fabric.census := by
  refine State.foldl_keeps (·.fabric.census) (State.switchPort enable) (fun x j => ?_) (List.range 4) s
  unfold State.switchPort
  split <;> rfl

/-- Of four bits that are not all 0 one is set. -/
theorem exists_bit_of_lt_16 : ∀ n < 16, n ≠ 0 → ∃ i < 4, bit n i = true := by decide

/-- What a row of the fabric group that triggers a census touches. -/
theorem State.onlyFabric_answered {z : State} (hz : z.offCensus = (s.taken t c).offCensus) :
    s.onlyFabric { z with pending := s.pending, det := s.det, mbx := { z.mbx with cmds := s.mbx.cmds } } := by
  have hrest := congrArg (fun x : State => { x with
    time := s.time, fabric := s.fabric, farming := s.farming, req := s.req, det := s.det,
    hub := { x.hub with selCounters := s.hub.selCounters }, mbx := { x.mbx with cmds := s.mbx.cmds },
    pending := s.pending }) hz
  have hs : { s.taken t c with
      time := s.time, fabric := s.fabric, farming := s.farming, req := s.req, det := s.det,
      hub := { (s.taken t c).hub with selCounters := s.hub.selCounters },
      mbx := { (s.taken t c).mbx with cmds := s.mbx.cmds }, pending := s.pending } = s := by
    apply State.ext_parts <;> simp
  exact (hrest.trans hs :)

end

section
variable {s : State} {fn slot t : Nat} {c : Cmd} (hslot : isSlot fn slot)
include hslot

theorem fabPorts_switches (hfour : s.fabric.ports.length = 4) (h : s.isReady 0x0A02 fn slot c)
    (hlen : c.payload.length = 8) (hz : allZero (slice c.payload 1 7) = true) (hmask : getU c.payload 0 1 < 16) :
    ∃ s', exec (.fabPorts fn slot t) s = .next s' ∧
      (s.frame.devState = 1 → s'.reply? fn slot = some (refusal 0x0201) ∧ s.onlyAnswered s') ∧
      (s.frame.devState ∈ [0, 2] → s'.reply? fn slot = some (okReply []) ∧
        (∀ i < 4, (s'.port i).enabled = bit (getU c.payload 0 1) i) ∧
        (∀ i < 4, bit (getU c.payload 0 1) i = false → (s'.port i).up = false) ∧
        (getU c.payload 0 1 ≠ 0 → s.inCensus = false → s'.fabric.census = 1) ∧
        s.onlyFabric { s' with det := s.det, mbx := { s'.mbx with cmds := s.mbx.cmds } }) := by
  have hrow := (exec_fabPorts fn slot t s).trans (execTaken hslot h t _)
  refine ⟨_, hrow, fun hgrid => ?_, fun hidle => ?_⟩
  · unfold bodyFabPorts
    rw [State.shape_pos hlen (by simpa using hz), State.need_neg (by simp [State.devIn, hgrid])]
    exact ⟨State.refused h (by simp) _ _ _, State.onlyAnswered_refuse ..⟩
  · have hbody : bodyFabPorts c (s.taken t c) = ((s.taken t c).fabPorts (getU c.payload 0 1)).accept c := by
      unfold bodyFabPorts
      rw [State.shape_pos hlen (by simpa using hz), State.need_pos (by simpa [State.devIn] using hidle),
        State.need_pos (by simpa using hmask)]
    rw [hbody, State.fabPorts_eq]
    generalize getU c.payload 0 1 = enable at hmask
    have hswitched : ∀ i < 4, (((s.taken t c).portsSet enable).censusTrigger.port i).isSwitched (bit enable i) := by
      intro i hi
      have hstill := ((s.taken t c).portsSet enable).censusTrigger_still i
      obtain ⟨hen, hup⟩ := State.portsSet_switched (s := s.taken t c) (enable := enable) hi (by simpa using hfour)
      exact ⟨(congrArg Port.enabled hstill :).trans hen, fun hb => (congrArg Port.up hstill :).trans (hup hb)⟩
    have hcmd : ((s.taken t c).portsSet enable).cmd? fn slot = some c :=
      (State.cmd?_mbx ((congrArg State.mbx ((s.taken t c).portsSet_offFabric enable) :).trans
        (s.taken_mbx t c)) fn slot).trans h.1
    have hkept := State.censusTrigger_cmd? hcmd (by rw [h.2.2.1]; exact Stage.noConfusion)
    have hoff := ((s.taken t c).portsSet enable).censusTrigger_offCensus.trans
      (State.offCensus_of_off ((s.taken t c).portsSet_offFabric enable))
    have hcensus : enable ≠ 0 → s.inCensus = false →
        ((s.taken t c).portsSet enable).censusTrigger.fabric.census = 1 := by
      intro hne hin
      obtain ⟨i, hi, hb⟩ := exists_bit_of_lt_16 enable hmask hne
      obtain ⟨hen, -⟩ := State.portsSet_switched (s := s.taken t c) (enable := enable) hi (by simpa using hfour)
      rw [State.censusTrigger_starts _ ?_ (State.any_enabled (hen.trans hb))]
      · exact (State.startCensus_fabric ..).1
      · rw [State.inCensus, State.portsSet_census, State.taken_fabric]
        exact hin
    generalize ((s.taken t c).portsSet enable).censusTrigger = z at hswitched hkept hoff hcensus
    refine ⟨State.reply?_accept rfl hkept h.2.2.2.1 [], fun i hi => (hswitched i hi).1, fun i hi => (hswitched i hi).2,
      hcensus, ?_⟩
    have honly := State.onlyFabric_answered hoff
    exact honly

theorem fabCensus_waits (h : s.isReady 0x0A03 fn slot c) (hp : c.payload = []) :
    ∃ s', exec (.fabCensus fn slot t) s = .next s' ∧
      (s.inCensus = true → s'.waitsAt fn slot ∧ s'.fabric = { s.fabric with again := true }) ∧
      (s.inCensus = false → s.fabric.ports.any (·.enabled) = true → s'.waitsAt fn slot ∧ s'.fabric.census = 1 ∧
        s'.fabric.epoch = (s.fabric.highestEpoch + 1) % 2 ^ 32) ∧
      (s.inCensus = false → s.fabric.ports.any (·.enabled) = false → s'.reply? fn slot = some (okReply []) ∧
        s'.fabric.census = 0 ∧ s'.fabric.nodeId = 0xFF) ∧
      s.onlyFabric { s' with det := s.det, mbx := { s'.mbx with cmds := s.mbx.cmds } } := by
  have hrow := (exec_fabCensus fn slot t s).trans (execTaken hslot h t _)
  have hbody : bodyFabCensus c (s.taken t c) = ((s.taken t c).wait c).censusTrigger := by
    unfold bodyFabCensus
    rw [State.shape_pos (by simp [hp]) (by simp)]
  rw [hbody] at hrow
  obtain ⟨hcmd, hop, -, hopen, -⟩ := id h
  obtain ⟨hcfn, hcslot⟩ := State.cmd?_slot hcmd
  have hwait : ((s.taken t c).wait c).cmd? fn slot = some { c with stage := .waiting } :=
    State.cmd?_wait (State.taken_mbx ..) hcmd
  have hfabric : ((s.taken t c).wait c).fabric = s.fabric := State.taken_fabric ..
  have hoff : ((s.taken t c).wait c).censusTrigger.offCensus = (s.taken t c).offCensus :=
    (State.censusTrigger_offCensus _).trans rfl
  generalize (s.taken t c).wait c = y at hrow hwait hfabric hoff
  have honly := State.onlyFabric_answered hoff
  have hin : y.inCensus = s.inCensus := by rw [State.inCensus, State.inCensus, hfabric]
  refine ⟨_, hrow, fun hrun => ?_, fun hidle hports => ?_, fun hidle hports => ?_, honly⟩
  · rw [State.censusTrigger_running y (hin.trans hrun)]
    exact ⟨⟨_, hwait, rfl, hopen⟩, congrArg (fun f : Fabric => { f with again := true }) hfabric⟩
  · rw [State.censusTrigger_starts y (hin.trans hidle) (by rw [hfabric]; exact hports)]
    obtain ⟨hone, hepoch, -⟩ := y.startCensus_fabric y.nextEpoch false
    have hmbx : (y.startCensus y.nextEpoch false).mbx = y.mbx :=
      (congrArg State.mbx (y.startCensus_off y.nextEpoch false) :)
    exact ⟨⟨_, (State.cmd?_mbx hmbx fn slot).trans hwait, rfl, hopen⟩, hone,
      hepoch.trans (by rw [State.nextEpoch, hfabric])⟩
  · rw [State.censusTrigger_off y (hin.trans hidle) (by rw [hfabric]; exact hports)]
    have hlisted : (fn, slot) ∈ y.waitingCensus := by
      refine List.mem_map.mpr ⟨{ c with stage := .waiting }, List.mem_filter.mpr ⟨List.mem_of_find?_eq_some hwait, ?_⟩, ?_⟩
      · simp [hop, hopen]
      · rw [← hcfn, ← hcslot]
    have hanswer := State.acceptAll_reply y.waitingCensus (s := y.fabricOff) (.inr ⟨⟨_, hwait, rfl, hopen⟩, hlisted⟩)
    have hf := y.fabricOff.acceptAll_fabric y.waitingCensus
    exact ⟨hanswer, (congrArg Fabric.census hf :), (congrArg Fabric.nodeId hf :)⟩

/-- A table whose entries are good waits for the next census; the first bad entry refuses it. -/
theorem fabShard_checks {rs : List (List Byte)} (h : s.isReady 0x0A06 fn slot c) (hp : c.payload = [])
    (hrun : s.anySession [3] = false) (hrs : tableEntries 32 c.bulk = .inr rs)
    (hz : ∀ r ∈ rs, allZero (slice r 4 4) = true) :
    ∃ s', exec (.fabShard fn slot t) s = .next s' ∧
      (∀ k, (List.range rs.length).find? (s.shardBad (rs.map shardOf)) = some k →
        s'.reply? fn slot = some (refusal 0x0106 k) ∧ s.onlyAnswered s') ∧
      ((List.range rs.length).find? (s.shardBad (rs.map shardOf)) = none → s'.reply? fn slot = some (okReply []) ∧
        s'.farming = { s.farming with pendingShards := some (rs.map shardOf), shardsCensus := false } ∧
        { s' with time := s.time, det := s.det, mbx := { s'.mbx with cmds := s.mbx.cmds }, farming := s.farming } = s) := by
  have hreserved : rs.findIdx? (fun r => !allZero (slice r 4 4)) = none :=
    List.findIdx?_eq_none_iff.mpr fun r hr => by simp [hz r hr]
  have hsame : (s.taken t c).shardBad (rs.map shardOf) = s.shardBad (rs.map shardOf) := by
    funext i
    simp only [State.shardBad, State.wd, State.taken_fabric, State.taken_images, State.taken_worlds]
  have hbody : bodyFabShard c (s.taken t c) =
      match (List.range rs.length).find? (s.shardBad (rs.map shardOf)) with
      | some i => (s.taken t c).refuse c 0x0106 i
      | none => ((s.taken t c).modFarming fun f =>
          { f with pendingShards := some (rs.map shardOf), shardsCensus := false }).accept c := by
    unfold bodyFabShard
    rw [State.shape_pos (by simp [hp]) (by simp), State.need_pos (by simpa [State.anySession] using hrun), hrs]
    dsimp only
    rw [hreserved]
    dsimp only
    rw [hsame, List.length_map] <;> rfl
  refine ⟨_, (exec_fabShard fn slot t s).trans (execTaken hslot h t _), fun k hk => ?_, fun hk => ?_⟩
  · rw [hbody, hk]
    exact ⟨State.refused h (by simp) _ _ _, State.onlyAnswered_refuse ..⟩
  · rw [hbody, hk]
    refine ⟨State.answered h (by simp) _ _, by simp, ?_⟩
    apply State.ext_parts <;> simp

theorem fabFarm_checks {rs : List (List Byte)} (h : s.isReady 0x0A07 fn slot c) (hp : c.payload = [])
    (hrun : s.anySession [3] = false) (hrs : tableEntries 8 c.bulk = .inr rs)
    (hz : ∀ r ∈ rs, allZero (slice r 4 4) = true) :
    ∃ s', exec (.fabFarm fn slot t) s = .next s' ∧
      (∀ k, (List.range rs.length).find? (s.farmBad (rs.map farmOf)) = some k →
        s'.reply? fn slot = some (refusal 0x0106 k) ∧ s.onlyAnswered s') ∧
      ((List.range rs.length).find? (s.farmBad (rs.map farmOf)) = none → s'.reply? fn slot = some (okReply []) ∧
        s'.farming = { s.farming with pendingFarms := some (rs.map farmOf), farmsCensus := false } ∧
        { s' with time := s.time, det := s.det, mbx := { s'.mbx with cmds := s.mbx.cmds }, farming := s.farming } = s) := by
  have hreserved : rs.findIdx? (fun r => !allZero (slice r 4 4)) = none :=
    List.findIdx?_eq_none_iff.mpr fun r hr => by simp [hz r hr]
  have hsame : (s.taken t c).farmBad (rs.map farmOf) = s.farmBad (rs.map farmOf) := by
    funext i
    simp only [State.farmBad, State.stream?, State.taken_fabric, State.taken_streams]
  have hbody : bodyFabFarm c (s.taken t c) =
      match (List.range rs.length).find? (s.farmBad (rs.map farmOf)) with
      | some i => (s.taken t c).refuse c 0x0106 i
      | none => ((s.taken t c).modFarming fun f =>
          { f with pendingFarms := some (rs.map farmOf), farmsCensus := false }).accept c := by
    unfold bodyFabFarm
    rw [State.shape_pos (by simp [hp]) (by simp), State.need_pos (by simpa [State.anySession] using hrun), hrs]
    dsimp only
    rw [hreserved]
    dsimp only
    rw [hsame, List.length_map] <;> rfl
  refine ⟨_, (exec_fabFarm fn slot t s).trans (execTaken hslot h t _), fun k hk => ?_, fun hk => ?_⟩
  · rw [hbody, hk]
    exact ⟨State.refused h (by simp) _ _ _, State.onlyAnswered_refuse ..⟩
  · rw [hbody, hk]
    refine ⟨State.answered h (by simp) _ _, by simp, ?_⟩
    apply State.ext_parts <;> simp

end

/-- Settles O50. -/
theorem fabricCommands : Obligations.FabricCommands := by
  unfold Obligations.FabricCommands
  intro s fn slot a len t c hslot hfour
  exact ⟨fabStatus_answers hslot, fabPorts_switches hslot hfour, fabCensus_waits hslot, fabRouteRead_delivers hslot,
    fabNodeBind_binds hslot, fun _ => fabShard_checks hslot, fun _ => fabFarm_checks hslot⟩

end Sys2Proof.Machine
end

section
/-!
SUPPORT. The obligation on the census from its start to ACTIVE or FAILED (R379-R385).
-/
namespace Sys2Proof.Machine

/-! ## The start of a census -/

section
variable {s : State} {i t : Nat}

theorem censusStart_joins {epoch : Nat} (hlt : epoch < 2 ^ 32) (hports : s.fabric.ports.any (·.enabled) = true)
    (hnew : s.fabric.highestEpoch < epoch) :
    ∃ s', exec (.censusStart epoch t) s = .next s' ∧ s'.fabric.census = 1 ∧ s'.fabric.epoch = epoch ∧
      s'.fabric.highestEpoch = epoch ∧ s'.fabric.reports = [s.ownReport epoch] ∧ s'.fabric.verified = [] ∧
      s.onlyFabric s' := by
  have hrow := (exec_censusStart epoch t s).trans (ranAt_pos (by simpa [below] using hlt) ..)
  have hjoin : (s.at t).joinCensus epoch = (s.at t).startCensus epoch false :=
    State.when_pos (Bool.and_eq_true_iff.mpr ⟨decide_eq_true hnew, hports⟩) ..
  rw [hjoin] at hrow
  obtain ⟨hone, hepoch, hhighest, -, hreports, hverified, -⟩ := (s.at t).startCensus_fabric epoch false
  have honly := State.onlyFabric_row ((s.at t).startCensus_off epoch false)
  exact ⟨_, hrow, hone, hepoch, hhighest.trans (max_eq_right hnew.le), hreports, hverified, honly⟩

theorem State.joinCensus_old {epoch : Nat} (h : epoch ≤ s.fabric.highestEpoch) : s.joinCensus epoch = s :=
  State.when_neg (by simp [h]) ..

theorem censusStart_old {epoch : Nat} (h : epoch ≤ s.fabric.highestEpoch) :
    ∃ s', exec (.censusStart epoch t) s = .next s' ∧ { s' with time := s.time } = s := by
  by_cases hlt : below epoch (2 ^ 32) = true
  · refine ⟨_, (exec_censusStart epoch t s).trans (ranAt_pos hlt ..), ?_⟩
    rw [State.joinCensus_old (s := s.at t) h]
    rfl
  · exact ⟨_, (exec_censusStart epoch t s).trans (ranAt_skip (Bool.eq_false_iff.mpr hlt) ..), rfl⟩

theorem hail_triggers (hi : i < 4) (hfour : s.fabric.ports.length = 4) (h : List Byte) (hup : (s.port i).up = true)
    (hidle : s.inCensus = false) (hen : (s.port i).enabled = true) :
    ∃ s', exec (.hail i h t) s = .next s' ∧ (h = (s.port i).neighbour → { s' with time := s.time } = s) ∧
      (h ≠ (s.port i).neighbour → (s'.port i).neighbour = h ∧ s'.fabric.census = 1 ∧
        s'.fabric.epoch = (s.fabric.highestEpoch + 1) % 2 ^ 32) ∧
      s.onlyFabric s' := by
  have hrow := (exec_hail i h t s).trans (ranAt_pos (by simpa [below] using hi) ..)
  have hup' : ((s.at t).port i).up = true := hup
  by_cases hsame : h = (s.port i).neighbour
  · have heq : State.hail i h (s.at t) = s.at t := by
      have hsame' : ((s.at t).port i).neighbour = h := hsame.symm
      unfold State.hail
      exact State.when_neg (by simp [hsame']) ..
    rw [heq] at hrow
    exact ⟨_, hrow, fun _ => rfl, fun hne => absurd hsame hne, rfl⟩
  · have hne : ((s.at t).port i).neighbour ≠ h := fun heq => hsame heq.symm
    have heq : State.hail i h (s.at t) = ((s.at t).modPort i fun p => { p with neighbour := h }).censusTrigger := by
      unfold State.hail
      exact State.when_pos (by simp [hup', hne]) ..
    have hport := State.port_modPort (s.at t) (i := i) (hfour.symm ▸ hi) fun p => { p with neighbour := h }
    have hoff : ((s.at t).modPort i fun p => { p with neighbour := h }).offFabric = (s.at t).offFabric := rfl
    have hhighest : ((s.at t).modPort i fun p => { p with neighbour := h }).fabric.highestEpoch = s.fabric.highestEpoch := rfl
    have hin : ((s.at t).modPort i fun p => { p with neighbour := h }).inCensus = false := hidle
    rw [heq] at hrow
    generalize (s.at t).modPort i (fun p => { p with neighbour := h }) = y at hrow hport hoff hin hhighest
    rw [y.censusTrigger_starts hin (State.any_enabled (i := i) (by rw [hport]; exact hen))] at hrow
    obtain ⟨hone, hepoch, -⟩ := y.startCensus_fabric y.nextEpoch false
    have hstill := y.startCensus_still y.nextEpoch false i
    have honly := State.onlyFabric_row ((y.startCensus_off y.nextEpoch false).trans hoff)
    refine ⟨_, hrow, fun h => absurd h hsame, fun _ => ⟨?_, hone, hepoch.trans (by rw [State.nextEpoch, hhighest])⟩, honly⟩
    exact (congrArg Port.neighbour hstill :).trans (congrArg Port.neighbour hport)

theorem selfCensus_starts {e : Nat} (he : s.fabric.enabledAt = some e) (hdue : e + 1000 * ticksPerUs ≤ max s.time.now t)
    (hports : s.fabric.ports.any (·.enabled) = true) (hdown : s.fabric.ports.any (·.up) = false)
    (hidle : s.inCensus = false) :
    ∃ s', exec (.selfCensus t) s = .next s' ∧ s'.fabric.enabledAt = none ∧ s'.fabric.census = 1 ∧ s.onlyFabric s' := by
  have hrow := (exec_selfCensus t s).trans (ranAt_pos rfl ..)
  have he' : (s.at t).fabric.enabledAt = some e := he
  have heq : (s.at t).selfCensus = ((s.at t).modFabric fun f => { f with enabledAt := none }).censusTrigger := by
    have hdue' : (decide (e + 1000 * ticksPerUs ≤ (s.at t).time.now) && (s.at t).fabric.ports.any (·.enabled) &&
        !(s.at t).fabric.ports.any (·.up)) = true := by
      have hnow : e + 1000 * ticksPerUs ≤ (s.at t).time.now := hdue
      have hen : (s.at t).fabric.ports.any (·.enabled) = true := hports
      have hup : (s.at t).fabric.ports.any (·.up) = false := hdown
      rw [hen, hup, decide_eq_true hnow]
      rfl
    unfold State.selfCensus
    rw [he']
    exact State.when_pos hdue' ..
  have hoff : ((s.at t).modFabric fun f => { f with enabledAt := none }).offFabric = (s.at t).offFabric := rfl
  have hin : ((s.at t).modFabric fun f => { f with enabledAt := none }).inCensus = false := hidle
  have hen : ((s.at t).modFabric fun f => { f with enabledAt := none }).fabric.ports.any (·.enabled) = true := hports
  have hnone : ((s.at t).modFabric fun f => { f with enabledAt := none }).fabric.enabledAt = none := rfl
  rw [heq] at hrow
  generalize (s.at t).modFabric (fun f => { f with enabledAt := none }) = y at hrow hoff hin hen hnone
  rw [y.censusTrigger_starts hin hen] at hrow
  obtain ⟨hone, -, -, -, -, -, hat⟩ := y.startCensus_fabric y.nextEpoch false
  have honly := State.onlyFabric_row ((y.startCensus_off y.nextEpoch false).trans hoff)
  exact ⟨_, hrow, hat.trans hnone, hone, honly⟩

/-! ## COLLECT -/

theorem report_kept {r : CensusReport} (hi : i < 4) (hcollect : s.fabric.census = 1) (hepoch : r.epoch = s.fabric.epoch)
    (hlt : r.epoch < 2 ^ 32) (hold : r.epoch ≤ s.fabric.highestEpoch) :
    ∃ s', exec (.report r i t) s = .next s' ∧
      (s.fabric.reports.any (fun x => x.hash == r.hash) = true → { s' with time := s.time } = s) ∧
      (s.fabric.reports.any (fun x => x.hash == r.hash) = false →
        s'.fabric.reports = s.fabric.reports ++ [r] ∧ s'.fabric.quietSince = max s.time.now t ∧
        s.onlyFabric s' ∧ s'.farming = s.farming ∧ s'.req = s.req) := by
  have hrow := (exec_report r i t s).trans (ranAt_pos (by simpa [below, hi] using hlt) ..)
  have hjoin : (s.at t).joinCensus r.epoch = s.at t := State.joinCensus_old (s := s.at t) hold
  have hcollect' : (s.at t).fabric.census = 1 := hcollect
  have hepoch' : (s.at t).fabric.epoch = r.epoch := hepoch.symm
  unfold State.report at hrow
  rw [hjoin] at hrow
  refine ⟨_, hrow, fun hknown => ?_, fun hnew => ?_⟩
  · have hknown' : (s.at t).fabric.reports.any (fun x => x.hash == r.hash) = true := hknown
    dsimp only
    rw [State.when_neg (by rw [hknown', Bool.not_true, Bool.and_false])]
    rfl
  · have hnew' : (s.at t).fabric.reports.any (fun x => x.hash == r.hash) = false := hnew
    dsimp only
    rw [State.when_pos (by rw [hcollect', hepoch', hnew']; simp)]
    have hq := State.quiet_flood i (reportBody r)
      ((s.at t).modFabric fun f => { f with reports := f.reports ++ [r], quietSince := (s.at t).time.now })
    have hoff : ((s.at t).modFabric fun f => { f with
        reports := f.reports ++ [r], quietSince := (s.at t).time.now }).offFabric = (s.at t).offFabric := rfl
    generalize State.flood i _ _ = z at hq
    have honly := State.onlyFabric_row ((State.offFabric_of_quiet hq).trans hoff)
    exact ⟨(congrArg (fun x : State => x.fabric.reports) hq :), (congrArg (fun x : State => x.fabric.quietSince) hq :), honly,
      (congrArg State.farming hq :), (congrArg State.req hq :)⟩

theorem collectEnd_waits (hearly : max s.time.now t < s.fabric.quietSince + 20 * ticksPerUs) :
    ∃ s', exec (.collectEnd t) s = .next s' ∧ { s' with time := s.time } = s := by
  have heq : (s.at t).collectEnd = s.at t := by
    unfold State.collectEnd
    exact if_neg fun h => absurd h.2.2 (Nat.not_le_of_lt hearly)
  refine ⟨_, (exec_collectEnd t s).trans (ranAt_pos rfl ..), ?_⟩
  rw [heq]
  rfl

theorem collectEnd_follows (hcollect : s.fabric.census = 1)
    (hquiet : s.fabric.quietSince + 20 * ticksPerUs ≤ max s.time.now t) (hall : s.collected = true)
    (hother : (sortReports s.fabric.reports).head?.map (·.hash) ≠ some s.part.certHash) :
    ∃ s', exec (.collectEnd t) s = .next s' ∧ s'.fabric = { s.fabric with census := 2 } ∧
      { s' with time := s.time, fabric := s.fabric } = s := by
  have heq : (s.at t).collectEnd = (s.at t).modFabric fun f => { f with census := 2 } := by
    unfold State.collectEnd
    rw [if_pos ⟨hcollect, hall, hquiet⟩]
    exact if_neg hother
  refine ⟨_, (exec_collectEnd t s).trans (ranAt_pos rfl ..), ?_⟩
  rw [heq]
  exact ⟨rfl, rfl⟩

end

/-! ## VERIFY -/

section
variable {s : State} {t : Nat} {r : RouteMsg}

/-- A ROUTE message of this census is relayed and checked. -/
theorem route_runs (hcensus : s.fabric.census = 1 ∨ s.fabric.census = 2) (hepoch : r.epoch = s.fabric.epoch)
    (hlt : r.epoch < 2 ^ 32) (hold : r.epoch ≤ s.fabric.highestEpoch) :
    exec (.route r t) s =
      .next { ((s.at t).flood 4 (routeBody r)).takeRoute r with pending := (s.at t).pending } := by
  have hrow := (exec_route r t s).trans (ranAt_pos (by simpa [below] using hlt) ..)
  have hjoin : (s.at t).joinCensus r.epoch = s.at t := State.joinCensus_old (s := s.at t) hold
  have hepoch' : (s.at t).fabric.epoch = r.epoch := hepoch.symm
  have hcensus' : ((s.at t).fabric.census == 1 || (s.at t).fabric.census == 2) = true := by
    rcases hcensus with h | h
    · rw [show (s.at t).fabric.census = 1 from h]
      rfl
    · rw [show (s.at t).fabric.census = 2 from h]
      rfl
  unfold State.route at hrow
  rw [hjoin] at hrow
  dsimp only at hrow
  rwa [State.when_pos (by rw [hcensus', hepoch']; simp)] at hrow

theorem State.ownId_of_quiet {s s' : State} (h : s'.quiet = s.quiet) (r : RouteMsg) : s'.ownId r = s.ownId r := by
  rw [State.ownId, State.ownId, show s'.part = s.part from (congrArg State.part h :)]

theorem route_verifies (hcensus : s.fabric.census = 1 ∨ s.fabric.census = 2) (hepoch : r.epoch = s.fabric.epoch)
    (hlt : r.epoch < 2 ^ 32) (hold : r.epoch ≤ s.fabric.highestEpoch) (hown : s.ownId r ≠ 0xFF)
    (hlead : routeLeader r ≠ s.ownId r) (hnear : routeSealed r = false ∨ routeWithin8 r = true) :
    ∃ s', exec (.route r t) s = .next s' ∧ s'.fabric.census = 3 ∧ s'.fabric.routeMsg = some r ∧
      s.onlyFabric s' ∧ s'.farming = s.farming ∧ s'.req = s.req := by
  have hrow := route_runs (t := t) hcensus hepoch hlt hold
  have hflood := State.quiet_flood 4 (routeBody r) (s.at t)
  generalize (s.at t).flood 4 (routeBody r) = y at hrow hflood
  have hid : y.ownId r = s.ownId r := State.ownId_of_quiet hflood r
  have hfar : ¬((routeSealed r && !routeWithin8 r) || (y.ownId r == 0xFF && decide (64 ≤ (routeNodes r).length))) = true := by
    rw [hid]
    rcases hnear with h | h <;> simp [h, hown]
  have htake : ∃ ports body, y.takeRoute r =
      (y.modFabric fun f => { f with census := 3, routeMsg := some r, nextHop := routeHops r (y.ownId r) }).controlTo ports
        (routeLeader r) body := by
    unfold State.takeRoute
    dsimp only
    rw [if_neg hfar, if_neg (by rw [hid]; exact hlead)]
    exact ⟨_, _, rfl⟩
  obtain ⟨ports, text, htake⟩ := htake
  have hq := State.quiet_controlTo ports (routeLeader r) text
    (y.modFabric fun f => { f with census := 3, routeMsg := some r, nextHop := routeHops r (y.ownId r) })
  rw [← htake] at hq
  generalize y.takeRoute r = z at hrow hq
  have hset : (y.modFabric fun f => { f with
      census := 3, routeMsg := some r, nextHop := routeHops r (y.ownId r) }).offFabric = y.offFabric := rfl
  have hoff : z.offFabric = (s.at t).offFabric :=
    (State.offFabric_of_quiet hq).trans (hset.trans (State.offFabric_of_quiet hflood))
  exact ⟨_, hrow, State.census_of_links (State.links_of_quiet hq), (congrArg (fun x : State => x.fabric.routeMsg) hq :),
    State.onlyFabric_row hoff, (congrArg State.farming hq :).trans (congrArg State.farming hflood :),
    (congrArg State.req hq :).trans (congrArg State.req hflood :)⟩

/-- What the end of a census does where no trigger asks for another one. -/
theorem State.censusEnd_done (h : s.fabric.again = false) : s.censusEnd = (s.modFabric fun f => { f with
    censusCount := f.censusCount + 1, lastCensus := s.time.now, answers := [] }).acceptAll s.fabric.answers := by
  unfold State.censusEnd
  refine State.when_neg ?_ _ _
  rw [State.acceptAll_fabric]
  exact h

/-- A census that fails without another trigger. -/
theorem State.censusFailed_parts (h : s.fabric.again = false) : s.censusFailed.fabric.census = 5 ∧
    s.censusFailed.frame = s.frame ∧ s.censusFailed.part = s.part ∧ s.censusFailed.streams = s.streams := by
  have hfabric : (((s.modFabric fun f => { f with census := 5 }).modReq fun r =>
      { r with autoPaused := false }).warnFree 0xFF []).fabric = { s.fabric with census := 5 } := by simp
  have hframe : (((s.modFabric fun f => { f with census := 5 }).modReq fun r =>
      { r with autoPaused := false }).warnFree 0xFF []).frame = s.frame := by simp
  have hpart : (((s.modFabric fun f => { f with census := 5 }).modReq fun r =>
      { r with autoPaused := false }).warnFree 0xFF []).part = s.part := by simp
  have hstreams : (((s.modFabric fun f => { f with census := 5 }).modReq fun r =>
      { r with autoPaused := false }).warnFree 0xFF []).streams = s.streams := by simp
  unfold State.censusFailed
  generalize ((s.modFabric fun f => { f with census := 5 }).modReq fun r =>
    { r with autoPaused := false }).warnFree 0xFF [] = y at hfabric hframe hpart hstreams
  rw [State.censusEnd_done (by rw [hfabric]; exact h)]
  have hkeeps := (y.modFabric fun f => { f with
    censusCount := f.censusCount + 1, lastCensus := y.time.now, answers := [] }).acceptAll_keeps y.fabric.answers
  generalize State.acceptAll _ _ = z at hkeeps
  refine ⟨?_, (congrArg State.frame hkeeps :).trans hframe, (congrArg State.part hkeeps :).trans hpart,
    (congrArg State.streams hkeeps :).trans hstreams⟩
  exact (congrArg (fun x : State => x.fabric.census) hkeeps :).trans (congrArg Fabric.census hfabric)

theorem route_fails (hcensus : s.fabric.census = 1 ∨ s.fabric.census = 2) (hepoch : r.epoch = s.fabric.epoch)
    (hlt : r.epoch < 2 ^ 32) (hold : r.epoch ≤ s.fabric.highestEpoch) (hsealed : routeSealed r = true)
    (hfar : routeWithin8 r = false) (hlast : s.fabric.again = false) :
    ∃ s', exec (.route r t) s = .next s' ∧ s'.fabric.census = 5 := by
  have hrow := route_runs (t := t) hcensus hepoch hlt hold
  have hflood := State.quiet_flood 4 (routeBody r) (s.at t)
  generalize (s.at t).flood 4 (routeBody r) = y at hrow hflood
  have htake : y.takeRoute r = y.censusFailed := by
    unfold State.takeRoute
    exact if_pos (by simp [hsealed, hfar])
  rw [htake] at hrow
  have hagain : y.fabric.again = false := (congrArg (fun x : State => x.fabric.again) hflood :).trans hlast
  obtain ⟨hfive, -⟩ := State.censusFailed_parts hagain
  generalize y.censusFailed = z at hrow hfive
  exact ⟨_, hrow, hfive⟩

theorem verifyOk_other {node : Nat} {v : VerifyAnswer} (h : s.fabric.census ≠ 3 ∨ v.epoch ≠ s.fabric.epoch) :
    ∃ s', exec (.verifyOk node v t) s = .next s' ∧ { s' with time := s.time } = s := by
  by_cases hok : (below node 256 && below v.epoch (2 ^ 32)) = true
  · have heq : (s.at t).verifyOk node v = s.at t := by
      unfold State.verifyOk
      split
      · rfl
      · exact if_pos (h.elim .inl fun h => .inr (.inr h))
    refine ⟨_, (exec_verifyOk node v t s).trans (ranAt_pos hok ..), ?_⟩
    rw [heq]
    rfl
  · exact ⟨_, (exec_verifyOk node v t s).trans (ranAt_skip (Bool.eq_false_iff.mpr hok) ..), rfl⟩

theorem mem_insertAsc {n k : Nat} : ∀ {l : List Nat}, k ∈ insertAsc n l → k = n ∨ k ∈ l
  | [], h => .inl (List.mem_singleton.mp h)
  | m :: l, h => by
    unfold insertAsc at h
    split at h
    · exact List.mem_cons.mp h
    · split at h
      · exact .inr h
      · rcases List.mem_cons.mp h with rfl | h
        · exact .inr List.mem_cons_self
        · exact (mem_insertAsc h).imp_right (List.mem_cons_of_mem m)

theorem verifyOk_leader {node : Nat} {v : VerifyAnswer} (hnode : node < 256) (hlt : v.epoch < 2 ^ 32)
    (hepoch : v.epoch = s.fabric.epoch) (hcensus : s.fabric.census = 3) (hr : s.fabric.routeMsg = some r)
    (hlead : routeLeader r = s.ownId r) : ∃ s', exec (.verifyOk node v t) s = .next s' ∧
      (v.ok = false → s.fabric.repeated = true → s.fabric.again = false → s'.fabric.census = 5) ∧
      (v.ok = false → s.fabric.repeated = false → s'.fabric.census = 1 ∧ s'.fabric.repeated = true ∧
        s'.fabric.epoch = (s.fabric.highestEpoch + 1) % 2 ^ 32) ∧
      (v.ok = true → node ∈ routeNodes r → (∃ k ∈ routeNodes r, k ≠ node ∧ k ∉ s.fabric.verified) → s'.fabric.census = 3 ∧
        node ∈ s'.fabric.verified ∧ { s' with time := s.time, fabric := s.fabric } = s) := by
  have hrow := (exec_verifyOk node v t s).trans (ranAt_pos (by simpa [below, hnode] using hlt) ..)
  have heq : (s.at t).verifyOk node v =
      if !v.ok then (if s.fabric.repeated then (s.at t).censusFailed else (s.at t).startCensus s.nextEpoch true)
      else if !(routeNodes r).contains node then s.at t
      else
        let x := (s.at t).modFabric fun f => { f with verified := insertAsc node f.verified }
        if (routeNodes r).all fun i => x.fabric.verified.contains i then
          (x.flood 4 ([0x45] ++ le 4 r.epoch)).censusActive r else x := by
    have hr' : (s.at t).fabric.routeMsg = some r := hr
    have hturn : ¬((s.at t).fabric.census ≠ 3 ∨ routeLeader r ≠ (s.at t).ownId r ∨ v.epoch ≠ (s.at t).fabric.epoch) :=
      not_or.mpr ⟨not_not_intro hcensus, not_or.mpr ⟨not_not_intro hlead, not_not_intro hepoch⟩⟩
    unfold State.verifyOk
    rw [hr']
    exact if_neg hturn
  refine ⟨_, hrow, fun hbad hrep hlast => ?_, fun hbad hrep => ?_, fun hgood hin hmissing => ?_⟩
  · rw [heq, hbad, hrep, Bool.not_false, if_pos rfl, if_pos rfl]
    obtain ⟨hfive, -⟩ := State.censusFailed_parts (s := s.at t) hlast
    generalize (s.at t).censusFailed = z at hfive
    exact hfive
  · rw [heq, hbad, hrep, Bool.not_false, if_pos rfl, if_neg Bool.false_ne_true]
    obtain ⟨hone, hnew, -, hrepeated, -⟩ := (s.at t).startCensus_fabric s.nextEpoch true
    generalize (s.at t).startCensus s.nextEpoch true = z at hone hnew hrepeated
    exact ⟨hone, hrepeated, hnew⟩
  · obtain ⟨k, hk, hne, hopen⟩ := hmissing
    rw [heq, hgood, Bool.not_true, if_neg Bool.false_ne_true, if_neg (by simp [hin])]
    dsimp only
    rw [if_neg ?_]
    · exact ⟨hcensus, mem_insertAsc_self .., rfl⟩
    · intro hall
      have hlisted := List.all_eq_true.mp hall k hk
      have hmem : k ∈ insertAsc node s.fabric.verified := List.contains_iff_mem.mp hlisted
      exact (mem_insertAsc hmem).elim hne hopen

end

/-! ## ACTIVE and FAILED -/

/-- The fabric with the assignment of a ROUTE message in force. -/
def Fabric.activated (cert : List Byte) (r : RouteMsg) (a : Nat) (f : Fabric) : Fabric :=
  { f with
    census := 4, nodeId := a, bound := f.reports.any fun x => x.hash == cert && x.bound == a, leader := routeLeader r,
    nodes := (routeNodes r).length, nextHop := routeHops r a,
    ports := (List.range 4).map fun i =>
      { f.ports.getD i {} with neighbourId := (r.adjacency.getD a []).getD i 0xFF } }

section
variable {s : State} {t : Nat} {r : RouteMsg}

theorem State.censusActive_eq (r : RouteMsg) (s : State) : s.censusActive r =
    (((s.modFabric (Fabric.activated s.part.certHash r (s.ownId r))).fabric.msgs.filter fun m =>
        m.dst != 0xFF && !((routeNodes r).contains m.dst)).foldl (fun s m => s.dropMsg m)
      (s.modFabric (Fabric.activated s.part.certHash r (s.ownId r)))).autoResume.fabricGo.censusEnd := rfl

/-- With the frames not paused a census that becomes ACTIVE resumes nothing. -/
theorem State.autoResume_idle (h : s.frame.devState ≠ 2) :
    s.autoResume = s.modReq fun r => { r with autoPause := false } :=
  if_neg fun hpaused => h hpaused.1

/-- What stands of the state once the assignment is in force, before the census ends. -/
theorem State.censusActive_links (h : s.frame.devState ≠ 2) (hlast : s.fabric.again = false) : ∃ y : State,
    s.censusActive r = (y.modFabric fun f => { f with
      censusCount := f.censusCount + 1, lastCensus := y.time.now, answers := [] }).acceptAll y.fabric.answers ∧
    y.links = ((s.modFabric (Fabric.activated s.part.certHash r (s.ownId r))).modReq fun r =>
      { r with autoPause := false }).links := by
  have hframe : (s.modFabric (Fabric.activated s.part.certHash r (s.ownId r))).frame.devState ≠ 2 := h
  have hagain : (s.modFabric (Fabric.activated s.part.certHash r (s.ownId r))).fabric.again = false := hlast
  rw [State.censusActive_eq]
  generalize s.modFabric (Fabric.activated s.part.certHash r (s.ownId r)) = x at hframe hagain
  have hdrop := State.foldl_keeps State.links (fun s m => State.dropMsg m s) (fun s m => State.dropMsg_links m s)
    (x.fabric.msgs.filter fun m => m.dst != 0xFF && !((routeNodes r).contains m.dst)) x
  generalize List.foldl (fun s m => State.dropMsg m s) x _ = z at hdrop
  have hz : z.frame = x.frame := (congrArg State.frame hdrop :)
  rw [State.autoResume_idle (by rw [hz]; exact hframe)]
  have hgo : (z.modReq fun r => { r with autoPause := false }).fabricGo.links =
      (x.modReq fun r => { r with autoPause := false }).links :=
    (State.fabricGo_links _).trans (congrArg (fun x : State => { x with req := { x.req with autoPause := false } }) hdrop :)
  generalize (z.modReq fun r => { r with autoPause := false }).fabricGo = y at hgo
  exact ⟨y, State.censusEnd_done ((congrArg (fun x : State => x.fabric.again) hgo :).trans hagain), hgo⟩

theorem enable_activates (hcensus : s.fabric.census = 3) (hr : s.fabric.routeMsg = some r)
    (hepoch : r.epoch = s.fabric.epoch) (hlt : r.epoch < 2 ^ 32) (hlast : s.fabric.again = false)
    (hdev : s.frame.devState ≠ 2) :
    ∃ s', exec (.enable s.fabric.epoch t) s = .next s' ∧ s'.fabric.census = 4 ∧ s'.fabric.nodeId = s.ownId r ∧
      s'.fabric.leader = routeLeader r ∧ s'.fabric.nextHop = routeHops r (s.ownId r) ∧
      s'.fabric.censusCount = s.fabric.censusCount + 1 ∧ s'.fabric.lastCensus = max s.time.now t ∧ s'.frame = s.frame ∧
      s'.part = s.part ∧ s'.images = s.images ∧ s'.streams = s.streams := by
  have hrow := (exec_enable s.fabric.epoch t s).trans (ranAt_pos (by simpa [below, ← hepoch] using hlt) ..)
  have heq : (s.at t).enable s.fabric.epoch =
      ((s.at t).flood 4 ([0x45] ++ le 4 s.fabric.epoch)).censusActive r := by
    have hr' : (s.at t).fabric.routeMsg = some r := hr
    have hcensus' : (s.at t).fabric.census = 3 := hcensus
    have hepoch' : (s.at t).fabric.epoch = s.fabric.epoch := rfl
    unfold State.enable
    rw [hr']
    exact State.when_pos (by rw [hcensus', hepoch', hepoch]; simp) ..
  rw [heq] at hrow
  have hq := State.quiet_flood 4 ([0x45] ++ le 4 s.fabric.epoch) (s.at t)
  generalize (s.at t).flood 4 _ = x at hrow hq
  have hid : x.ownId r = s.ownId r := State.ownId_of_quiet hq r
  have hframe : x.frame = s.frame := (congrArg State.frame hq :)
  obtain ⟨y, hactive, hlinks⟩ := State.censusActive_links (s := x) (r := r) (by rw [hframe]; exact hdev)
    ((congrArg (fun x : State => x.fabric.again) hq :).trans hlast)
  have hkeeps := (y.modFabric fun f => { f with
    censusCount := f.censusCount + 1, lastCensus := y.time.now, answers := [] }).acceptAll_keeps y.fabric.answers
  rw [← hactive] at hkeeps
  rw [hid] at hlinks
  generalize x.censusActive r = z at hrow hkeeps
  have hzf : z.fabric = { y.fabric with censusCount := y.fabric.censusCount + 1, lastCensus := y.time.now, answers := [] } :=
    (congrArg State.fabric hkeeps :)
  have hyf := congrArg State.fabric hlinks
  have hcount : y.fabric.censusCount = s.fabric.censusCount :=
    (congrArg Fabric.censusCount hyf :).trans (congrArg (fun x : State => x.fabric.censusCount) hq :)
  have hnow : y.time.now = max s.time.now t :=
    (congrArg (fun x : State => x.time.now) hlinks :).trans (congrArg (fun x : State => x.time.now) hq :)
  refine ⟨_, hrow, ?_, ?_, ?_, ?_, ?_, ?_, ?_, ?_, ?_, ?_⟩
  · exact (congrArg Fabric.census hzf).trans (congrArg Fabric.census hyf :)
  · exact (congrArg Fabric.nodeId hzf).trans (congrArg Fabric.nodeId hyf :)
  · exact (congrArg Fabric.leader hzf).trans (congrArg Fabric.leader hyf :)
  · exact (congrArg Fabric.nextHop hzf).trans (congrArg Fabric.nextHop hyf :)
  · exact (congrArg Fabric.censusCount hzf).trans (congrArg (· + 1) hcount)
  · exact (congrArg Fabric.lastCensus hzf).trans hnow
  · exact (congrArg State.frame hkeeps :).trans ((congrArg State.frame hlinks :).trans hframe)
  · exact (congrArg State.part hkeeps :).trans ((congrArg State.part hlinks :).trans (congrArg State.part hq :))
  · exact (congrArg State.images hkeeps :).trans ((congrArg State.images hlinks :).trans (congrArg State.images hq :))
  · exact (congrArg State.streams hkeeps :).trans ((congrArg State.streams hlinks :).trans (congrArg State.streams hq :))

theorem censusTimeout_fails (hin : s.inCensus = true) (hlate : s.fabric.censusStart + 50000 * ticksPerUs ≤ max s.time.now t)
    (hlast : s.fabric.again = false) :
    ∃ s', exec (.censusTimeout t) s = .next s' ∧ s'.fabric.census = 5 ∧ s'.frame = s.frame ∧ s'.part = s.part ∧
      s'.streams = s.streams := by
  have hrow := (exec_censusTimeout t s).trans (ranAt_pos rfl ..)
  have heq : (s.at t).censusTimeout = (s.at t).censusFailed :=
    State.when_pos (Bool.and_eq_true_iff.mpr ⟨hin, decide_eq_true hlate⟩) ..
  rw [heq] at hrow
  obtain ⟨hfive, hframe, hpart, hstreams⟩ := State.censusFailed_parts (s := s.at t) hlast
  generalize (s.at t).censusFailed = z at hrow hfive hframe hpart hstreams
  exact ⟨_, hrow, hfive, hframe, hpart, hstreams⟩

theorem censusTimeout_early (h : s.inCensus = false ∨ max s.time.now t < s.fabric.censusStart + 50000 * ticksPerUs) :
    ∃ s', exec (.censusTimeout t) s = .next s' ∧ { s' with time := s.time } = s := by
  have heq : (s.at t).censusTimeout = s.at t := by
    refine State.when_neg (Bool.and_eq_false_iff.mpr (h.imp id fun hearly => ?_)) _ _
    exact decide_eq_false (Nat.not_le_of_lt hearly)
  refine ⟨_, (exec_censusTimeout t s).trans (ranAt_pos rfl ..), ?_⟩
  rw [heq]
  rfl

end

/-- Settles O49. -/
theorem censusEvents : Obligations.CensusEvents := by
  unfold Obligations.CensusEvents
  intro s i t hi hfour
  exact ⟨fun _ => censusStart_joins, fun _ => censusStart_old, fun h => hail_triggers hi hfour h,
    fun _ => selfCensus_starts, fun _ => report_kept hi, fun _ => collectEnd_waits, collectEnd_follows,
    fun _ => route_verifies, fun _ => route_fails, fun _ _ => verifyOk_other, fun _ _ _ => verifyOk_leader,
    fun _ => enable_activates, censusTimeout_fails, censusTimeout_early⟩

end Sys2Proof.Machine
end

section
/-!
SUPPORT. The Zerelet link layer (R375-R377): the ports that a message does not leave by, and the VCs of the flits that stand
at a port.
-/
namespace Sys2Proof.Machine

/-! ## Ports that a message does not leave by -/

section
variable {s : State} {i j : Nat}

theorem State.drainVc_port_ne (hne : j ≠ i) (vc : Nat) : (s.drainVc i vc).port j = s.port j := by
  unfold State.drainVc
  refine (State.foldl_keeps (·.port j) _ (fun s f => ?_) _ _).trans (State.port_modPort_ne s hne _)
  split
  · exact State.portSend_port_ne s hne f
  · exact State.port_modPort_ne s hne _

theorem State.queuePart_port {ports : List Nat} (hj : j ∉ ports) (f : Flit) : (s.queuePart ports f).port j = s.port j := by
  refine State.foldl_keeps_of (·.port j) _ s ports (fun i hi x hx => ?_) s rfl
  exact (State.port_modPort_ne x (fun heq : j = i => hj (heq ▸ hi)) _).trans hx

theorem State.controlTo_port {ports : List Nat} (hj : j ∉ ports) (to_ : Nat) (b : List Byte) :
    (s.controlTo ports to_ b).port j = s.port j := by
  rw [State.controlTo_eq]
  have hparts : (s.queueParts ports to_ (controlParts b)).port j = s.port j := by
    unfold State.queueParts
    refine State.foldl_keeps (·.port j) _ (fun x b => ?_) _ s
    exact State.queuePart_port hj _
  refine State.foldl_keeps_of (·.port j) _ s ports (fun i hi x hx => ?_) _ hparts
  exact (State.drainVc_port_ne (fun heq : j = i => hj (heq ▸ hi)) 0).trans hx

/-- What floods leaves by the ports that are up. -/
theorem State.flood_port_down (but : Nat) (b : List Byte) (h : (s.port j).up = false) :
    (s.flood but b).port j = s.port j := by
  refine State.controlTo_port (fun hin => ?_) 0xFF b
  have := (List.mem_filter.mp hin).2
  rw [h] at this
  exact Bool.noConfusion this

/-- A census that a trigger starts settles a port that is down. -/
theorem State.censusTrigger_port_down (h : (s.port j).up = false) :
    s.censusTrigger.port j = s.port j ∨ s.censusTrigger.port j = (s.port j).settle := by
  by_cases hin : s.inCensus = true
  · rw [s.censusTrigger_running hin]
    exact .inl rfl
  · have hin' := Bool.eq_false_iff.mpr hin
    by_cases hports : s.fabric.ports.any (·.enabled) = true
    · rw [s.censusTrigger_starts hin' hports, State.startCensus_eq, State.flood_port_down, State.censusBegun_port]
      · exact .inr rfl
      · rw [State.censusBegun_port]
        exact h
    · rw [s.censusTrigger_off hin' (Bool.eq_false_iff.mpr hports), State.port, State.acceptAll_fabric]
      exact .inl rfl

/-! ## The VCs of the flits of a port -/

/-- Every flit that a port holds is one of the control VC. -/
def Port.plain (p : Port) : Prop := ∀ f ∈ p.held, f.vc = 0

theorem State.portSend_plain {f : Flit} (hf : f.vc = 0) (h : (s.port j).plain) : ((s.portSend i f).port j).plain := by
  by_cases hj : j = i
  · subst hj
    by_cases hlen : j < s.fabric.ports.length
    · obtain ⟨g, hvc, -, -, hheld⟩ := State.portSend_held s hlen f
      intro x hx
      rw [hheld, List.mem_append, List.mem_singleton] at hx
      rcases hx with hx | rfl
      · exact h x hx
      · exact hvc.trans hf
    · have hports : (s.portSend j f).port j = s.port j := by
        unfold State.portSend
        rw [State.port, State.modPort_eq]
        refine (congrArg (fun l : List Port => l.getD j {}) (List.modify_eq_self ?_)).trans (State.port_selEvent ..)
        rw [State.selEvent_fabric]
        exact Nat.le_of_not_lt hlen
      rwa [hports]
  · rwa [State.portSend_port_ne s hj]

theorem State.modPort_plain {g : Port → Port} (hg : ∀ p, p.plain → (g p).plain) (h : (s.port j).plain) :
    ((s.modPort i g).port j).plain := by
  rcases State.port_modPort_cases s i j g with hport | hport <;> rw [hport]
  · exact h
  · exact hg _ h

theorem Port.plain_tx_append {p : Port} {f : Flit} (hf : f.vc = 0) (h : p.plain) :
    ({ p with tx := p.tx ++ [f] } : Port).plain := by
  intro x hx
  simp only [Port.held, List.mem_append, List.mem_singleton] at hx
  rcases hx with (hx | rfl) | hx
  · exact h x (List.mem_append_left _ hx)
  · exact hf
  · exact h x (List.mem_append_right _ hx)

theorem Port.plain_tx_nil {p : Port} (h : p.plain) : ({ p with tx := [] } : Port).plain := fun x hx =>
  h x (List.mem_append_right _ hx)

theorem State.drain_plain (vc : Nat) : ∀ (l : List Flit) (s : State), (∀ f ∈ l, f.vc = 0) → (s.port j).plain →
    ((l.foldl (fun s f => if f.vc = vc ∧ s.portReady i vc = true then s.portSend i f
      else s.modPort i fun p => { p with tx := p.tx ++ [f] }) s).port j).plain
  | [], _, _, h => h
  | f :: l, s, hl, h => by
    refine State.drain_plain vc l _ (fun g hg => hl g (List.mem_cons_of_mem f hg)) ?_
    dsimp only
    split
    · exact State.portSend_plain (hl f List.mem_cons_self) h
    · exact State.modPort_plain (fun p => Port.plain_tx_append (hl f List.mem_cons_self)) h

/-- Where two ports hold control flits alone, draining one keeps that of the other. -/
theorem State.drainVc_plain (vc : Nat) (h : (s.port j).plain) : ((s.drainVc i vc).port j).plain := by
  by_cases hj : j = i
  · subst hj
    unfold State.drainVc
    exact State.drain_plain vc _ _ (fun f hf => h f (List.mem_append_left _ hf))
      (State.modPort_plain (fun p => Port.plain_tx_nil) h)
  · rwa [State.drainVc_port_ne hj]

theorem State.controlTo_plain (ports : List Nat) (to_ : Nat) (b : List Byte) (h : (s.port j).plain) :
    ((s.controlTo ports to_ b).port j).plain := by
  rw [State.controlTo_eq]
  refine State.foldl_inv (fun s => (s.port j).plain) _ (fun s i hs => State.drainVc_plain 0 hs) _ _ ?_
  refine State.foldl_inv (fun s => (s.port j).plain) _ (fun s b hs => ?_) _ s h
  exact State.foldl_inv (fun s => (s.port j).plain) _ (fun s i hs => State.modPort_plain
    (fun p => Port.plain_tx_append rfl) hs) ports _ hs

/-- A port that holds nothing holds control flits alone once a census was triggered. -/
theorem State.censusTrigger_plain (h : (s.port j).held = []) : (s.censusTrigger.port j).plain := by
  have hnone : (s.port j).plain := fun f hf => absurd (h ▸ hf) List.not_mem_nil
  by_cases hin : s.inCensus = true
  · rw [s.censusTrigger_running hin]
    exact hnone
  · have hin' := Bool.eq_false_iff.mpr hin
    by_cases hports : s.fabric.ports.any (·.enabled) = true
    · rw [s.censusTrigger_starts hin' hports, State.startCensus_eq]
      refine State.controlTo_plain _ _ _ ?_
      rw [State.censusBegun_port]
      obtain ⟨htx, hunacked⟩ := List.append_eq_nil_iff.mp h
      intro f hf
      rw [Port.held, Port.settle, htx, List.map_eq_nil_iff.mp hunacked] at hf
      exact absurd hf List.not_mem_nil
    · rw [s.censusTrigger_off hin' (Bool.eq_false_iff.mpr hports), State.port, State.acceptAll_fabric]
      exact hnone

end

end Sys2Proof.Machine
end

section
/-!
SUPPORT. The obligation on the Zerelet links (R374-R379, R393): training, loss, flits out of sequence, replay.
-/
namespace Sys2Proof.Machine

/-! ## Training and loss -/

section
variable {s : State} {i t : Nat}

/-- The port that comes up (R374, Table 16.1). -/
def Port.trained (rtt : Nat) (h : List Byte) (n : Nat) (p : Port) : Port :=
  { ({} : Port) with
    enabled := true, up := true, replays := p.replays, crcFail := p.crcFail, rtt := rtt, neighbour := h, neighbourId := n }

theorem portUp_trains (hi : i < 4) (hfour : s.fabric.ports.length = 4) (rtt : Nat) (h : List Byte) (n : Nat) (hn : n < 256)
    (hen : (s.port i).enabled = true) (hdown : (s.port i).up = false) :
    ∃ s', exec (.portUp i rtt h n t) s = .next s' ∧
      (300 < rtt → { s' with time := s.time } = s) ∧
      (rtt ≤ 300 → (s'.port i).up = true ∧ (s'.port i).neighbour = h ∧
        (∀ u ∈ (s'.port i).unacked, u.flit.vc = 0) ∧
        (s.inCensus = false → s'.fabric.census = 1 ∧ s'.fabric.epoch = (s.fabric.highestEpoch + 1) % 2 ^ 32) ∧
        (s.inCensus = true → s'.fabric.again = true ∧ s'.fabric.census = s.fabric.census) ∧
        s.onlyFabric s') := by
  have hrow := (exec_portUp i rtt h n t s).trans (ranAt_pos (by simp [below, hi, hn]) ..)
  have hen' : ((s.at t).port i).enabled = true := hen
  have hdown' : ((s.at t).port i).up = false := hdown
  refine ⟨_, hrow, fun hfar => ?_, fun hnear => ?_⟩
  · have heq : (s.at t).portUp i rtt h n = s.at t := by
      unfold State.portUp
      exact State.when_neg (by simp [Nat.not_le_of_lt hfar]) ..
    rw [heq]
    rfl
  · have heq : (s.at t).portUp i rtt h n = ((s.at t).modPort i (Port.trained rtt h n)).censusTrigger := by
      unfold State.portUp
      exact State.when_pos (by simp [hen', hdown', hnear]) ..
    have hport := State.port_modPort (s.at t) (i := i) (hfour.symm ▸ hi) (Port.trained rtt h n)
    have hoff : ((s.at t).modPort i (Port.trained rtt h n)).offFabric = (s.at t).offFabric := rfl
    have hin : ((s.at t).modPort i (Port.trained rtt h n)).inCensus = s.inCensus := rfl
    have hfabric : ((s.at t).modPort i (Port.trained rtt h n)).fabric.highestEpoch = s.fabric.highestEpoch ∧
        ((s.at t).modPort i (Port.trained rtt h n)).fabric.census = s.fabric.census := ⟨rfl, rfl⟩
    rw [heq]
    generalize (s.at t).modPort i (Port.trained rtt h n) = y at hport hoff hin hfabric
    have hports := State.any_enabled (s := y) (i := i) (by rw [hport]; rfl)
    have hstill := y.censusTrigger_still i
    have hplain := State.censusTrigger_plain (s := y) (j := i) (by rw [hport]; rfl)
    have hcensus : s.inCensus = false → y.censusTrigger.fabric.census = 1 ∧
        y.censusTrigger.fabric.epoch = (s.fabric.highestEpoch + 1) % 2 ^ 32 := fun hidle => by
      rw [y.censusTrigger_starts (hin.trans hidle) hports]
      obtain ⟨hone, hepoch, -⟩ := y.startCensus_fabric y.nextEpoch false
      exact ⟨hone, hepoch.trans (by rw [State.nextEpoch, hfabric.1])⟩
    have hagain : s.inCensus = true → y.censusTrigger.fabric.again = true ∧
        y.censusTrigger.fabric.census = s.fabric.census := fun hrun => by
      rw [y.censusTrigger_running (hin.trans hrun)]
      exact ⟨rfl, hfabric.2⟩
    have hall := (y.censusTrigger_offFabric hports).trans hoff
    generalize y.censusTrigger = z at hstill hplain hcensus hagain hall
    refine ⟨(congrArg Port.up hstill :).trans (congrArg Port.up hport),
      (congrArg Port.neighbour hstill :).trans (congrArg Port.neighbour hport), fun u hu => ?_, hcensus, hagain,
      State.onlyFabric_row hall⟩
    exact hplain _ (List.mem_append_right _ (List.mem_map_of_mem hu))

/-- A port that went down holds nothing, and keeps whether it is enabled. -/
theorem State.portDown_port (hi : i < s.fabric.ports.length) (hup : (s.port i).up = true) :
    ((s.portDown i).port i).up = false ∧ ((s.portDown i).port i).unacked = [] ∧ ((s.portDown i).port i).tx = [] ∧
      ((s.portDown i).port i).enabled = (s.port i).enabled := by
  have heq : s.portDown i = (s.lowerPort i (s.port i).enabled).censusTrigger := if_pos hup
  have hport := State.port_modPort (s.unsend (s.port i).held) (i := i) hi fun p =>
    { ({} : Port) with enabled := (s.port i).enabled, replays := p.replays, crcFail := p.crcFail }
  have hlowered : (s.lowerPort i (s.port i).enabled).port i = _ := hport
  rw [heq]
  rcases State.censusTrigger_port_down (s := s.lowerPort i (s.port i).enabled) (j := i) (by rw [hlowered]) with h | h <;>
    rw [h, hlowered] <;> exact ⟨rfl, rfl, rfl, rfl⟩

/-- Lowering a port that stays enabled leaves as many ports enabled. -/
theorem State.lowerPort_enabled (hi : i < s.fabric.ports.length) (h : s.fabric.ports.any (·.enabled) = true) :
    (s.lowerPort i (s.port i).enabled).fabric.ports.any (·.enabled) = true := by
  obtain ⟨p, hp, hen⟩ := List.any_eq_true.mp h
  obtain ⟨k, hk, rfl⟩ := List.mem_iff_getElem.mp hp
  have hport : (s.port k).enabled = true := by rwa [State.port, List.getD_eq_getElem _ _ hk]
  refine State.any_enabled (i := k) ?_
  by_cases hki : k = i
  · subst hki
    exact (congrArg Port.enabled (State.port_modPort (s.unsend (s.port k).held) hi _)).trans hport
  · exact (congrArg Port.enabled (State.port_modPort_ne (s.unsend (s.port i).held) hki _)).trans hport

theorem portDown_lowers (hi : i < 4) (hfour : s.fabric.ports.length = 4) (hup : (s.port i).up = true) :
    ∃ s', exec (.portDown i t) s = .next s' ∧ (s'.port i).up = false ∧ (s'.port i).unacked = [] ∧
      (s'.port i).tx = [] ∧ (s'.port i).enabled = (s.port i).enabled ∧
      (s.fabric.ports.any (·.enabled) = true → s.onlyFabric s') := by
  have hrow := (exec_portDown i t s).trans (ranAt_pos (by simpa [below] using hi) ..)
  obtain ⟨hdown, hunacked, htx, hen⟩ := State.portDown_port (s := s.at t) (i := i) (hfour.symm ▸ hi) hup
  have hoff : s.fabric.ports.any (·.enabled) = true → ((s.at t).portDown i).offFabric = (s.at t).offFabric := fun hports => by
    have heq : (s.at t).portDown i = ((s.at t).lowerPort i ((s.at t).port i).enabled).censusTrigger := if_pos hup
    rw [heq, State.censusTrigger_offFabric _ (State.lowerPort_enabled (s := s.at t) (i := i) (hfour.symm ▸ hi) hports)]
    rfl
  generalize (s.at t).portDown i = z at hrow hdown hunacked htx hen hoff
  refine ⟨_, hrow, hdown, hunacked, htx, hen, fun hports => ?_⟩
  have honly := State.onlyFabric_row (hoff hports)
  exact honly

/-! ## Flits that are discarded (R376) -/

/-- The NACK of a run of discarded flits: the port has sent it, and no other part of it changes but its link-level flit. -/
theorem State.nackOnce_port (hi : i < s.fabric.ports.length) : ((s.nackOnce i).port i).nacked = true ∧
    ((s.nackOnce i).port i).rxSeq = (s.port i).rxSeq ∧ ((s.nackOnce i).port i).rx = (s.port i).rx ∧
    ((s.nackOnce i).port i).unacked = (s.port i).unacked ∧ ((s.nackOnce i).port i).crcFail = (s.port i).crcFail ∧
    ((s.port i).nacked = false → ((s.nackOnce i).port i).linkOut.map (·.kind) = some kindNack) := by
  unfold State.nackOnce
  split
  · next h => exact ⟨h, rfl, rfl, rfl, rfl, fun hno => absurd (h.symm.trans hno) Bool.noConfusion⟩
  · unfold State.linkFlit
    rw [State.port_modPort _ (by rwa [State.ports_length_modPort]), State.port_modPort _ hi]
    exact ⟨rfl, rfl, rfl, rfl, rfl, fun _ => rfl⟩

theorem State.nackOnce_rest (s : State) (i : Nat) : { s.nackOnce i with fabric := {} } = { s with fabric := {} } := by
  unfold State.nackOnce
  split <;> rfl

theorem flitReceive_badCrc (hi : i < 4) (hfour : s.fabric.ports.length = 4) (f : Flit) (hvc : f.vc < 4)
    (hup : (s.port i).up = true) (hcrc : f.crcOk = false) :
    ∃ s', exec (.flitReceive i f t) s = .next s' ∧
      (s'.port i).crcFail = min ((s.port i).crcFail + 1) 65535 ∧ (s'.port i).nacked = true ∧
      (s'.port i).rxSeq = (s.port i).rxSeq ∧ (s'.port i).rx = (s.port i).rx ∧
      ((s.port i).nacked = false → (s'.port i).linkOut.map (·.kind) = some kindNack) ∧
      { s' with time := s.time, fabric := s.fabric } = s := by
  have hrow := (exec_flitReceive i f t s).trans (ranAt_pos (by simp [below, hi, hvc]) ..)
  have hup' : ((s.at t).port i).up = true := hup
  have heq : (s.at t).flitReceive i f =
      ((s.at t).modPort i fun p => { p with crcFail := satU 16 (p.crcFail + 1) }).nackOnce i := by
    unfold State.flitReceive
    dsimp only
    rw [if_neg (by simp [hup']), if_pos (by simp [hcrc])]
  have hport := State.port_modPort (s.at t) (i := i) (hfour.symm ▸ hi) fun p => { p with crcFail := satU 16 (p.crcFail + 1) }
  have hrest : { (s.at t).modPort i (fun p => { p with crcFail := satU 16 (p.crcFail + 1) }) with fabric := {} } =
      { s.at t with fabric := {} } := rfl
  have hlen : i < ((s.at t).modPort i fun p => { p with crcFail := satU 16 (p.crcFail + 1) }).fabric.ports.length := by
    rw [State.ports_length_modPort]
    exact hfour.symm ▸ hi
  rw [heq] at hrow
  generalize (s.at t).modPort i (fun p => { p with crcFail := satU 16 (p.crcFail + 1) }) = y at hrow hport hrest hlen
  obtain ⟨hnacked, hseq, hrx, -, hfail, hlink⟩ := State.nackOnce_port hlen
  rw [hport] at hseq hrx hfail hlink
  have hall := (y.nackOnce_rest i).trans hrest
  generalize y.nackOnce i = z at hrow hnacked hseq hrx hfail hlink hall
  refine ⟨_, hrow, hfail, hnacked, hseq, hrx, hlink, ?_⟩
  exact congrArg (fun x : State => { x with time := s.time, fabric := s.fabric, pending := s.pending }) hall

theorem flitReceive_outOfSequence (hi : i < 4) (hfour : s.fabric.ports.length = 4) (f : Flit) (hvc : f.vc < 4)
    (hup : (s.port i).up = true) (hcrc : f.crcOk = true) (hkind : f.kind < 4)
    (hseq : f.lseq ≠ ((s.port i).rxSeq + 1) % 65536) :
    ∃ s', exec (.flitReceive i f t) s = .next s' ∧ (s'.port i).nacked = true ∧ (s'.port i).rxSeq = (s.port i).rxSeq ∧
      (s'.port i).rx = (s.port i).rx ∧ (s'.port i).unacked = (s.port i).unacked ∧
      { s' with time := s.time, fabric := s.fabric } = s := by
  have hrow := (exec_flitReceive i f t s).trans (ranAt_pos (by simp [below, hi, hvc]) ..)
  have hup' : ((s.at t).port i).up = true := hup
  have hseq' : f.lseq ≠ (((s.at t).port i).rxSeq + 1) % 65536 := hseq
  have heq : (s.at t).flitReceive i f = (s.at t).nackOnce i := by
    unfold State.flitReceive
    dsimp only
    rw [if_neg (by simp [hup']), if_neg (by simp [hcrc]), if_neg (Nat.not_le_of_lt hkind), if_pos hseq']
  rw [heq] at hrow
  obtain ⟨hnacked, hsame, hrx, hunacked, -⟩ := State.nackOnce_port (s := s.at t) (i := i) (hfour.symm ▸ hi)
  have hall := (s.at t).nackOnce_rest i
  generalize (s.at t).nackOnce i = z at hrow hnacked hsame hrx hunacked hall
  refine ⟨_, hrow, hnacked, hsame, hrx, hunacked, ?_⟩
  exact congrArg (fun x : State => { x with time := s.time, fabric := s.fabric, pending := s.pending }) hall

end

end Sys2Proof.Machine
end

section
/-!
SUPPORT. The obligation on the Zerelet links (R375-R378, R393): flits in sequence, replay, credits, grants and PING.
-/
namespace Sys2Proof.Machine

/-! ## Flits that are taken (R376, R377) -/

/-- The state without the fabric, the trace and what messages without a route touch. -/
def State.offLinks (s : State) : State := { s.links with fabric := {}, obs := {} }

theorem State.offLinks_of_links {s s' : State} (h : s'.links = s.links) : s'.offLinks = s.offLinks :=
  congrArg (fun x : State => { x with fabric := {}, obs := {} }) h

/-- A view that both branches of a condition have. -/
theorem ite_view {α β : Type} {v : α → β} {p : Prop} [Decidable p] {a b : α} {x : β} (ha : v a = x) (hb : v b = x) :
    v (if p then a else b) = x := by
  split <;> assumption

/-- The state without the trace and the hub's counters. -/
def State.offTrace (s : State) : State := { s with obs := {}, hub := { s.hub with counters := [] } }

/-- A record of the fabric's trace buffer touches the trace and the hub's counters alone (R393). -/
theorem State.trace_four (source kind : Nat) (body : List Byte) (s : State) :
    (s.trace 4 source kind body).offTrace = s.offTrace := by
  unfold State.trace
  exact ite_view rfl (ite_view (ite_view ((congrArg State.offTrace (if_pos rfl)).trans rfl) rfl) rfl)

theorem State.stamp_offTrace (i : Nat) (f : Flit) (s : State) : (s.stamp i f).offTrace = s.offTrace := by
  unfold State.stamp
  exact ite_view (State.trace_four ..) rfl

section
variable {s : State} {i t : Nat}

theorem State.stamp_fabric (i : Nat) (f : Flit) (s : State) : (s.stamp i f).fabric = s.fabric :=
  (congrArg State.fabric (s.stamp_offTrace i f) :)

theorem State.stamp_offLinks (i : Nat) (f : Flit) (s : State) : (s.stamp i f).offLinks = s.offLinks :=
  congrArg (fun x : State => { x with
    fabric := {}, hub := { x.hub with selCounters := [], counters := [] }, mbx := { x.mbx with cmds := [] },
    worlds := { x.worlds with landingUsed := 0 } }) (s.stamp_offTrace i f)

/-- A row that lets the fabric go on behind a state `y` that differs in the ports, the trace and counters. -/
theorem State.onlyLinks_behind {y : State} (hoff : y.offLinks = (s.at t).offLinks)
    (hroutes : y.fabric.nextHop = s.fabric.nextHop ∧ y.fabric.census = s.fabric.census ∧ y.fabric.msgs = s.fabric.msgs)
    (hmbx : y.mbx = s.mbx) (hworlds : y.worlds = s.worlds) :
    s.onlyLinks { y.fabricGo with pending := (s.at t).pending, obs := s.obs } := by
  obtain ⟨hhop, hcensus, hmsgs⟩ := hroutes
  refine ⟨?_, fun hrouted => ?_⟩
  · have hgo := (State.offLinks_of_links y.fabricGo_links).trans hoff
    generalize y.fabricGo = z at hgo
    have hrest := congrArg (fun x : State => { x with
      time := s.time, fabric := s.fabric, farming := s.farming, req := s.req, obs := s.obs, pending := s.pending,
      hub := { x.hub with selCounters := s.hub.selCounters, counters := s.hub.counters },
      mbx := { x.mbx with cmds := s.mbx.cmds }, worlds := { x.worlds with landingUsed := s.worlds.landingUsed } }) hgo
    unfold State.offLinks State.links State.quiet State.wire at hrest
    exact hrest
  · have hq := State.fabricGo_quiet (s := y) (by
      rw [hcensus, hmsgs]
      refine hrouted.imp_right fun hall m hm _ => ?_
      rw [State.portTo, hhop]
      exact hall m hm)
    generalize y.fabricGo = z at hq
    exact ⟨(congrArg State.mbx hq :).trans hmbx, (congrArg State.worlds hq :).trans hworlds⟩

theorem State.offLinks_modPort (s : State) (i : Nat) (g : Port → Port) : (s.modPort i g).offLinks = s.offLinks := rfl

theorem State.offLinks_selEvent (inst event qual layer op k : Nat) (s : State) :
    (s.selEvent 2 inst event qual layer op k).offLinks = s.offLinks :=
  State.offLinks_of_links (State.links_of_quiet (State.quiet_of_wire (State.wire_selEvent ..)))

/-- The fabric goes on behind a port that took a flit: the port stands as the flit left it, and no other part changed but those
of messages without a route. -/
theorem flitReceive_goes {f : Flit} {y : State} (hi : i < 4) (hvc : f.vc < 4)
    (heq : (s.at t).flitReceive i f = y.fabricGo) (hoff : y.offLinks = (s.at t).offLinks)
    (hroutes : y.fabric.nextHop = s.fabric.nextHop ∧ y.fabric.census = s.fabric.census ∧ y.fabric.msgs = s.fabric.msgs)
    (hmbx : y.mbx = s.mbx) (hworlds : y.worlds = s.worlds) {p : Port} (hport : (y.port i).still = p.still) :
    ∃ s', exec (.flitReceive i f t) s = .next s' ∧ (s'.port i).still = p.still ∧ s.onlyLinks { s' with obs := s.obs } := by
  have hrow := (exec_flitReceive i f t s).trans (ranAt_pos (by simp [below, hi, hvc]) ..)
  rw [heq] at hrow
  have honly := State.onlyLinks_behind (t := t) hoff hroutes hmbx hworlds
  have hstill := State.still_of_links y.fabricGo_links i
  generalize y.fabricGo = z at hrow honly hstill
  exact ⟨_, hrow, hstill.trans hport, honly⟩

end

/-- The port that takes a flit in sequence. -/
def Port.takes (f : Flit) (p : Port) : Port := { Port.acknowledge f p with rxSeq := f.lseq, nacked := false }

/-- A flit in sequence is taken: counted and stamped. -/
def State.flitTaken (i : Nat) (f : Flit) (s : State) : State :=
  ((s.modPort i (Port.takes f)).selEvent 2 0 0x42 (i + 4 * f.vc) 0xFFFF 0xFFFF f.len).stamp i f

/-- A taken flit returns its credit, or waits to be relayed. -/
def State.flitKept (i : Nat) (f : Flit) (s : State) : State :=
  if (f.dst == s.address || f.dst == 0xFE || f.dst == 0xFF) = true then
    s.modPort i fun p => { p with owed := p.owed.modify f.vc (· + 1) }
  else s.modPort i fun p => { p with rx := p.rx ++ [f] }

section
variable {s : State} {i t : Nat}

theorem State.flitReceive_inSequence {f : Flit} (hup : (s.port i).up = true) (hcrc : f.crcOk = true) (hkind : f.kind < 4)
    (hseq : f.lseq = ((s.port i).rxSeq + 1) % 65536) :
    s.flitReceive i f = ((s.flitTaken i f).flitKept i f).fabricGo := by
  unfold State.flitReceive
  dsimp only
  rw [if_neg (by simp [hup]), if_neg (by simp [hcrc]), if_neg (Nat.not_le_of_lt hkind), if_neg (not_not_intro hseq)]
  rfl

theorem State.flitKept_eq (i : Nat) (f : Flit) (s : State) :
    ∃ h : Port → Port, (∀ p, (h p).still = p.still) ∧ s.flitKept i f = s.modPort i h := by
  unfold State.flitKept
  split
  · exact ⟨fun p => { p with owed := p.owed.modify f.vc (· + 1) }, fun _ => rfl, rfl⟩
  · exact ⟨fun p => { p with rx := p.rx ++ [f] }, fun _ => rfl, rfl⟩

theorem State.flitTaken_fabric (i : Nat) (f : Flit) (s : State) :
    (s.flitTaken i f).fabric = (s.modPort i (Port.takes f)).fabric := by
  rw [State.flitTaken, State.stamp_fabric, State.selEvent_fabric]

theorem State.flitTaken_offLinks (i : Nat) (f : Flit) (s : State) : (s.flitTaken i f).offLinks = s.offLinks :=
  (State.stamp_offLinks ..).trans ((State.offLinks_selEvent ..).trans (State.offLinks_modPort ..))

theorem State.flitTaken_mbx (i : Nat) (f : Flit) (s : State) :
    (s.flitTaken i f).mbx = s.mbx ∧ (s.flitTaken i f).worlds = s.worlds := by
  have hstamp := State.stamp_offTrace i f ((s.modPort i (Port.takes f)).selEvent 2 0 0x42 (i + 4 * f.vc) 0xFFFF 0xFFFF f.len)
  have hmbx : ((s.modPort i (Port.takes f)).selEvent 2 0 0x42 (i + 4 * f.vc) 0xFFFF 0xFFFF f.len).mbx = s.mbx :=
    State.selEvent_mbx ..
  have hworlds : ((s.modPort i (Port.takes f)).selEvent 2 0 0x42 (i + 4 * f.vc) 0xFFFF 0xFFFF f.len).worlds = s.worlds :=
    State.selEvent_worlds ..
  rw [State.flitTaken]
  generalize State.selEvent 2 0 0x42 _ _ _ _ _ = x at hstamp hmbx hworlds
  exact ⟨(congrArg State.mbx hstamp :).trans hmbx, (congrArg State.worlds hstamp :).trans hworlds⟩

theorem flitReceive_inSequence (hi : i < 4) (hfour : s.fabric.ports.length = 4) (f : Flit) (hvc : f.vc < 4)
    (hup : (s.port i).up = true) (hcrc : f.crcOk = true) (hkind : f.kind < 4)
    (hseq : f.lseq = ((s.port i).rxSeq + 1) % 65536) :
    ∃ s', exec (.flitReceive i f t) s = .next s' ∧ (s'.port i).rxSeq = f.lseq ∧ (s'.port i).nacked = false ∧
      s.onlyLinks { s' with obs := s.obs } := by
  have heq := State.flitReceive_inSequence (s := s.at t) (i := i) hup hcrc hkind hseq
  have hport : ((s.at t).flitTaken i f).port i = Port.takes f (s.port i) := by
    rw [State.port, State.flitTaken_fabric]
    exact State.port_modPort (s.at t) (i := i) (hfour.symm ▸ hi) (Port.takes f)
  have hoff := State.flitTaken_offLinks i f (s.at t)
  have hfabric := State.flitTaken_fabric i f (s.at t)
  obtain ⟨hmbx, hworlds⟩ := State.flitTaken_mbx i f (s.at t)
  generalize (s.at t).flitTaken i f = x at heq hport hoff hfabric hmbx hworlds
  obtain ⟨h, hh, hkept⟩ := State.flitKept_eq i f x
  rw [hkept] at heq
  have hstill : ((x.modPort i h).port i).still = (Port.takes f (s.port i)).still := by
    rw [State.still_of_links (State.links_of_quiet (State.quiet_of_wire (State.wire_modPort hh i x))), hport]
  obtain ⟨s', hexec, hsame, honly⟩ := flitReceive_goes (t := t) hi hvc heq ((x.offLinks_modPort i h).trans hoff)
    ⟨(congrArg Fabric.nextHop hfabric :), (congrArg Fabric.census hfabric :), (congrArg Fabric.msgs hfabric :)⟩
    hmbx hworlds hstill
  exact ⟨s', hexec, (congrArg Port.rxSeq hsame :), (congrArg Port.nacked hsame :), honly⟩

/-! ## Link-level flits and replay (R376, R377) -/

/-- A link-level flit acknowledges and returns credits. -/
def State.linkTaken (i : Nat) (f : Flit) (s : State) : State := (s.modPort i (Port.acknowledge f)).stamp i f

theorem State.flitReceive_linkLevel {f : Flit} (hup : (s.port i).up = true) (hcrc : f.crcOk = true) (hkind : 4 ≤ f.kind) :
    s.flitReceive i f =
      (if f.kind = kindNack then (s.linkTaken i f).nackReceive i f.lack else s.linkTaken i f).fabricGo := by
  unfold State.flitReceive
  dsimp only
  rw [if_neg (by simp [hup]), if_neg (by simp [hcrc]), if_pos hkind]
  rfl

theorem State.linkTaken_parts (i : Nat) (f : Flit) (s : State) :
    (s.linkTaken i f).fabric = (s.modPort i (Port.acknowledge f)).fabric ∧
    (s.linkTaken i f).offLinks = s.offLinks ∧ (s.linkTaken i f).mbx = s.mbx ∧ (s.linkTaken i f).worlds = s.worlds := by
  have hstamp := State.stamp_offTrace i f (s.modPort i (Port.acknowledge f))
  exact ⟨State.stamp_fabric .., (State.stamp_offLinks ..).trans (State.offLinks_modPort ..),
    (congrArg State.mbx hstamp :), (congrArg State.worlds hstamp :)⟩

/-- The port that takes a link-level flit. -/
theorem State.linkTaken_port (hi : i < s.fabric.ports.length) (f : Flit) :
    (s.linkTaken i f).port i = (s.port i).acknowledge f := by
  rw [State.port, (State.linkTaken_parts i f s).1]
  exact State.port_modPort s hi _

theorem flitReceive_credit (hi : i < 4) (hfour : s.fabric.ports.length = 4) (f : Flit) (hvc : f.vc < 4)
    (hup : (s.port i).up = true) (hcrc : f.crcOk = true) (hkind : f.kind = kindCredit) :
    ∃ s', exec (.flitReceive i f t) s = .next s' ∧ (s'.port i).rxSeq = (s.port i).rxSeq ∧ (s'.port i).up = true ∧
      s.onlyLinks { s' with obs := s.obs } := by
  have heq := State.flitReceive_linkLevel (s := s.at t) (i := i) hup hcrc (show 4 ≤ f.kind from hkind.ge)
  rw [if_neg (by rw [hkind]; decide)] at heq
  obtain ⟨hfabric, hoff, hmbx, hworlds⟩ := State.linkTaken_parts i f (s.at t)
  have hport := State.linkTaken_port (s := s.at t) (i := i) (hfour.symm ▸ hi) f
  generalize (s.at t).linkTaken i f = x at heq hfabric hoff hmbx hworlds hport
  obtain ⟨s', hexec, hsame, honly⟩ := flitReceive_goes (t := t) hi hvc heq hoff
    ⟨(congrArg Fabric.nextHop hfabric :), (congrArg Fabric.census hfabric :), (congrArg Fabric.msgs hfabric :)⟩
    hmbx hworlds (congrArg Port.still hport)
  exact ⟨s', hexec, (congrArg Port.rxSeq hsame :), (congrArg Port.up hsame :).trans hup, honly⟩

/-- What a NACK does to a port. -/
def Port.nack (now lack : Nat) (p : Port) : Port :=
  let left := p.unacked.filter fun u => !seqReached lack u.flit.lseq
  { p.resend now left with
    retrying := !left.isEmpty, replays := if left.isEmpty then p.replays else satU 16 (p.replays + 1) }

theorem filter_reached {l : List Unacked} {lack : Nat} (h : ∀ u ∈ l, seqReached lack u.flit.lseq = true) :
    l.filter (fun u => !seqReached lack u.flit.lseq) = [] :=
  List.filter_eq_nil_iff.mpr fun u hu => by simp [h u hu]

/-- A NACK that finds every flit acknowledged sends none again. -/
theorem State.nackReceive_all {lack : Nat} (hi : i < s.fabric.ports.length) (hup : (s.port i).up = true)
    (h : ∀ u ∈ (s.port i).unacked, seqReached lack u.flit.lseq = true) :
    s.nackReceive i lack = s.modPort i (Port.nack s.time.now lack) ∧
      (s.nackReceive i lack).port i = { s.port i with unacked := [], retrying := false } := by
  have hport := State.port_modPort s hi (Port.nack s.time.now lack)
  have hnack : Port.nack s.time.now lack (s.port i) = { s.port i with unacked := [], retrying := false } := by
    unfold Port.nack
    rw [filter_reached h]
    rfl
  have heq : s.nackReceive i lack = s.modPort i (Port.nack s.time.now lack) := by
    unfold State.nackReceive
    rw [if_pos hup]
    refine if_pos ?_
    show ((s.modPort i (Port.nack s.time.now lack)).port i).unacked.isEmpty = true
    rw [hport, hnack]
    rfl
  exact ⟨heq, heq ▸ hport.trans hnack⟩

theorem flitReceive_nack (hi : i < 4) (hfour : s.fabric.ports.length = 4) (f : Flit) (hvc : f.vc < 4)
    (hup : (s.port i).up = true) (hcrc : f.crcOk = true) (hkind : f.kind = kindNack)
    (hall : ∀ u ∈ (s.port i).unacked, seqReached f.lack u.flit.lseq = true) :
    ∃ s', exec (.flitReceive i f t) s = .next s' ∧ (s'.port i).rxSeq = (s.port i).rxSeq ∧ (s'.port i).up = true ∧
      (s'.port i).replays = (s.port i).replays ∧ s.onlyLinks { s' with obs := s.obs } := by
  have heq := State.flitReceive_linkLevel (s := s.at t) (i := i) hup hcrc (show 4 ≤ f.kind by rw [hkind]; decide)
  rw [if_pos hkind] at heq
  obtain ⟨hfabric, hoff, hmbx, hworlds⟩ := State.linkTaken_parts i f (s.at t)
  have hport := State.linkTaken_port (s := s.at t) (i := i) (hfour.symm ▸ hi) f
  have hlen : i < ((s.at t).linkTaken i f).fabric.ports.length := by
    rw [hfabric, State.ports_length_modPort]
    exact hfour.symm ▸ hi
  generalize (s.at t).linkTaken i f = x at heq hfabric hoff hmbx hworlds hport hlen
  have hnone : (x.port i).unacked = [] := by
    rw [hport]
    exact filter_reached hall
  obtain ⟨hnack, hnacked⟩ := State.nackReceive_all (lack := f.lack) hlen (by rw [hport]; exact hup)
    (by rw [hnone]; exact fun u hu => absurd hu List.not_mem_nil)
  rw [hport] at hnacked
  rw [hnack] at heq hnacked
  obtain ⟨s', hexec, hsame, honly⟩ := flitReceive_goes (t := t) hi hvc heq ((x.offLinks_modPort i _).trans hoff)
    ⟨(congrArg Fabric.nextHop hfabric :), (congrArg Fabric.census hfabric :), (congrArg Fabric.msgs hfabric :)⟩
    hmbx hworlds (congrArg Port.still hnacked)
  exact ⟨s', hexec, (congrArg Port.rxSeq hsame :), (congrArg Port.up hsame :).trans hup, (congrArg Port.replays hsame :),
    honly⟩

theorem nackReceive_acknowledges (hi : i < 4) (hfour : s.fabric.ports.length = 4) (lack : Nat) (hlack : lack < 65536)
    (hup : (s.port i).up = true) (hall : ∀ u ∈ (s.port i).unacked, seqReached lack u.flit.lseq = true) :
    ∃ s', exec (.nackReceive i lack t) s = .next s' ∧ (s'.port i).unacked = [] ∧
      (s'.port i).replays = (s.port i).replays ∧ { s' with time := s.time, fabric := s.fabric } = s := by
  have hrow := (exec_nackReceive i lack t s).trans (ranAt_pos (by simp [below, hi, hlack]) ..)
  obtain ⟨heq, hport⟩ := State.nackReceive_all (s := s.at t) (i := i) (lack := lack) (hfour.symm ▸ hi) hup hall
  have hrest : { (s.at t).nackReceive i lack with time := s.time, fabric := s.fabric } = s := by
    rw [heq]
    rfl
  generalize (s.at t).nackReceive i lack = z at hrow hport hrest
  refine ⟨_, hrow, (congrArg Port.unacked hport :), (congrArg Port.replays hport :), ?_⟩
  exact (congrArg (fun x : State => { x with pending := s.pending }) hrest :)

/-- What of a flit a replay sends again unchanged, with how often it was replayed. -/
def Unacked.key (u : Unacked) : Nat × Nat × Nat × Nat × List Byte × Nat :=
  (u.flit.lseq, u.flit.vc, u.flit.dst, u.flit.msg, u.flit.payload, u.replays)

/-- A flit as a port sends it again. -/
def Unacked.again (now : Nat) (p : Port) (u : Unacked) : Unacked := {
  flit := Flit.sealed { u.flit with lack := p.rxSeq, credits := owedNow p.owed, sendTime := now },
  replays := u.replays + 1 }

/-- One flit of a replay. -/
def Port.resendOne (now : Nat) (p : Port) (u : Unacked) : Port :=
  { p with owed := owedLeft p.owed, unacked := p.unacked ++ [u.again now p] }

/-- Flits go out again in order, each sealed anew with the port's LACK and the time. -/
theorem Port.resendOne_all (now : Nat) : ∀ (l : List Unacked) (p : Port), ∃ l',
    (l.foldl (Port.resendOne now) p).unacked = p.unacked ++ l' ∧
    l'.map Unacked.key = l.map (fun u => { u with replays := u.replays + 1 }.key) ∧
    (∀ u ∈ l', u.flit.lack = p.rxSeq ∧ u.flit.sendTime = now ∧ u.flit.crcOk = true) ∧
    (l.foldl (Port.resendOne now) p).up = p.up
  | [], p => ⟨[], (List.append_nil _).symm, rfl, fun _ hu => absurd hu List.not_mem_nil, rfl⟩
  | u :: l, p => by
    obtain ⟨l', happ, hkeys, hall, hup⟩ := Port.resendOne_all now l (p.resendOne now u)
    refine ⟨u.again now p :: l', ?_, ?_, fun v hv => ?_, hup⟩
    · rw [List.foldl_cons, happ, Port.resendOne, List.append_assoc]
      rfl
    · rw [List.map_cons, List.map_cons, hkeys]
      rfl
    · rcases List.mem_cons.mp hv with rfl | hv
      · exact ⟨rfl, rfl, beq_self_eq_true _⟩
      · exact hall v hv

/-- A NACK of a port that is up: replay, and the port goes down at the eighth one of a flit. -/
theorem State.nackReceive_up {lack : Nat} (hup : (s.port i).up = true) : s.nackReceive i lack =
    (let y := s.modPort i (Port.nack s.time.now lack)
    if (y.port i).unacked.isEmpty then y
    else
      let r := (y.bumpHub (6 + i)).fresh
      let s := r.2.timingEvent 5 0xFF 0xFF (r.1.toNat % 2 ^ 32)
      if (y.port i).unacked.any fun u => decide (u.replays ≥ 8) then s.portDown i else s) := by
  unfold State.nackReceive
  rw [if_pos hup]
  dsimp only
  generalize hy : State.modPort i _ s = y
  have hport : ∀ n k, State.port ((y.bumpHub (6 + i)).fresh.2.timingEvent 5 0xFF 0xFF n) k = y.port k := fun n k => by
    rw [State.port, State.timingEvent_fabric]
    rfl
  rw [hport]
  subst hy
  rfl

/-- The port that sends again what a NACK left. -/
theorem Port.nack_left {now lack : Nat} {p : Port} {left : List Unacked}
    (hleft : left = p.unacked.filter (fun u => !seqReached lack u.flit.lseq)) (hne : left ≠ []) :
    ∃ l', (Port.nack now lack p).unacked = l' ∧
      l'.map Unacked.key = left.map (fun u => { u with replays := u.replays + 1 }.key) ∧
      (∀ u ∈ l', u.flit.lack = p.rxSeq ∧ u.flit.sendTime = now ∧ u.flit.crcOk = true) ∧
      (Port.nack now lack p).up = p.up ∧ (Port.nack now lack p).replays = min (p.replays + 1) 65535 := by
  obtain ⟨l', happ, hkeys, hall, hup⟩ := Port.resendOne_all now left { p with unacked := [] }
  have hempty : left.isEmpty = false := by simpa using hne
  refine ⟨l', ?_, hkeys, hall, ?_, ?_⟩
  · unfold Port.nack
    rw [← hleft]
    exact happ
  · unfold Port.nack
    rw [← hleft]
    exact hup
  · unfold Port.nack
    rw [← hleft]
    exact if_neg (by simp [hempty])

theorem nackReceive_replays (hi : i < 4) (hfour : s.fabric.ports.length = 4) (lack : Nat) (left : List Unacked)
    (hlack : lack < 65536) (hup : (s.port i).up = true)
    (hleft : left = (s.port i).unacked.filter (fun u => !seqReached lack u.flit.lseq)) (hne : left ≠ [])
    (hfew : ∀ u ∈ left, u.replays < 7) :
    ∃ s', exec (.nackReceive i lack t) s = .next s' ∧ (s'.port i).up = true ∧
      (s'.port i).unacked.map (fun u => (u.flit.lseq, u.flit.vc, u.flit.dst, u.flit.msg, u.flit.payload, u.replays)) =
        left.map (fun u => (u.flit.lseq, u.flit.vc, u.flit.dst, u.flit.msg, u.flit.payload, u.replays + 1)) ∧
      (∀ u ∈ (s'.port i).unacked, u.flit.lack = (s.port i).rxSeq ∧ u.flit.sendTime = max s.time.now t ∧
        u.flit.crcOk = true) ∧
      (s'.port i).replays = min ((s.port i).replays + 1) 65535 := by
  have hrow := (exec_nackReceive i lack t s).trans (ranAt_pos (by simp [below, hi, hlack]) ..)
  obtain ⟨l', hunacked, hkeys, hall, hstay, hreplays⟩ := Port.nack_left (now := max s.time.now t) hleft hne
  have heq := State.nackReceive_up (s := s.at t) (i := i) (lack := lack) hup
  have hport : ((s.at t).modPort i (Port.nack (s.at t).time.now lack)).port i = Port.nack (max s.time.now t) lack (s.port i) :=
    State.port_modPort (s.at t) (i := i) (hfour.symm ▸ hi) (Port.nack (s.at t).time.now lack)
  generalize (s.at t).modPort i (Port.nack (s.at t).time.now lack) = y at heq hport
  have hsome : ¬ (y.port i).unacked.isEmpty = true := by
    rw [hport, hunacked, List.isEmpty_iff]
    intro hnil
    rw [hnil, List.map_nil, eq_comm, List.map_eq_nil_iff] at hkeys
    exact hne hkeys
  have hnodown : ¬ ((y.port i).unacked.any fun u => decide (u.replays ≥ 8)) = true := by
    rw [hport, hunacked, List.any_eq_true]
    rintro ⟨u, hu, hmany⟩
    have hkey : u.key ∈ left.map (fun u => { u with replays := u.replays + 1 }.key) :=
      hkeys ▸ List.mem_map_of_mem hu
    obtain ⟨v, hv, hvkey⟩ := List.mem_map.mp hkey
    have hreplayed : v.replays + 1 = u.replays := congrArg (fun k : Nat × Nat × Nat × Nat × List Byte × Nat => k.2.2.2.2.2) hvkey
    have := hfew v hv
    have := of_decide_eq_true hmany
    omega
  dsimp only at heq
  rw [if_neg hsome, if_neg hnodown] at heq
  rw [heq] at hrow
  generalize hz : State.timingEvent 5 0xFF 0xFF _ _ = z at hrow
  have hzport : z.port i = Port.nack (max s.time.now t) lack (s.port i) := by
    rw [← hport, ← hz, State.port, State.timingEvent_fabric]
    rfl
  refine ⟨_, hrow, (congrArg Port.up hzport :).trans (hstay.trans hup), ?_, fun u hu => ?_,
    (congrArg Port.replays hzport :).trans hreplays⟩
  · have hzl : (z.port i).unacked = l' := by rw [hzport, hunacked]
    exact (congrArg (List.map Unacked.key) hzl).trans hkeys
  · have hzl : (z.port i).unacked = l' := by rw [hzport, hunacked]
    exact hall u (hzl ▸ hu)

theorem nackReceive_lowers (hi : i < 4) (hfour : s.fabric.ports.length = 4) (lack : Nat) (hlack : lack < 65536)
    (hup : (s.port i).up = true)
    (hmany : ∃ u ∈ (s.port i).unacked, seqReached lack u.flit.lseq = false ∧ 7 ≤ u.replays) :
    ∃ s', exec (.nackReceive i lack t) s = .next s' ∧ (s'.port i).up = false ∧ (s'.port i).unacked = [] := by
  have hrow := (exec_nackReceive i lack t s).trans (ranAt_pos (by simp [below, hi, hlack]) ..)
  obtain ⟨v, hv, hopen, hseven⟩ := hmany
  have hvleft : v ∈ (s.port i).unacked.filter (fun u => !seqReached lack u.flit.lseq) :=
    List.mem_filter.mpr ⟨hv, by simp [hopen]⟩
  obtain ⟨l', hunacked, hkeys, -, hstay, -⟩ :=
    Port.nack_left (now := max s.time.now t) (p := s.port i) rfl (List.ne_nil_of_mem hvleft)
  have heq := State.nackReceive_up (s := s.at t) (i := i) (lack := lack) hup
  have hport : ((s.at t).modPort i (Port.nack (s.at t).time.now lack)).port i = Port.nack (max s.time.now t) lack (s.port i) :=
    State.port_modPort (s.at t) (i := i) (hfour.symm ▸ hi) (Port.nack (s.at t).time.now lack)
  have hlen : i < ((s.at t).modPort i (Port.nack (s.at t).time.now lack)).fabric.ports.length := by
    rw [State.ports_length_modPort]
    exact hfour.symm ▸ hi
  generalize (s.at t).modPort i (Port.nack (s.at t).time.now lack) = y at heq hport hlen
  have hkey : { v with replays := v.replays + 1 }.key ∈ l'.map Unacked.key :=
    hkeys ▸ List.mem_map_of_mem (f := fun u : Unacked => { u with replays := u.replays + 1 }.key) hvleft
  obtain ⟨u, hu, hukey⟩ := List.mem_map.mp hkey
  have hreplayed : u.replays = v.replays + 1 :=
    congrArg (fun k : Nat × Nat × Nat × Nat × List Byte × Nat => k.2.2.2.2.2) hukey
  have hsome : ¬ (y.port i).unacked.isEmpty = true := by
    rw [hport, hunacked, List.isEmpty_iff]
    exact List.ne_nil_of_mem hu
  have hdown : ((y.port i).unacked.any fun u => decide (u.replays ≥ 8)) = true := by
    rw [hport, hunacked, List.any_eq_true]
    exact ⟨u, hu, decide_eq_true (by omega)⟩
  dsimp only at heq
  rw [if_neg hsome, if_pos hdown] at heq
  rw [heq] at hrow
  generalize hz : State.timingEvent 5 0xFF 0xFF _ _ = z at hrow
  have hzfabric : z.fabric = y.fabric := by
    rw [← hz, State.timingEvent_fabric]
    rfl
  have hzup : (z.port i).up = true := by
    rw [State.port, hzfabric]
    exact (congrArg Port.up hport :).trans (hstay.trans hup)
  obtain ⟨hfalse, hnil, -⟩ := State.portDown_port (s := z) (by rw [hzfabric]; exact hlen) hzup
  generalize z.portDown i = w at hrow hfalse hnil
  exact ⟨_, hrow, hfalse, hnil⟩

end

end Sys2Proof.Machine
end

section
/-!
SUPPORT. The obligation on the Zerelet links (R377, R378, R390, R393): CREDIT flits, grants and PING.
-/
namespace Sys2Proof.Machine

section
variable {s : State} {i t : Nat}

theorem creditFlit_sends (hi : i < 4) (hfour : s.fabric.ports.length = 4) (hup : (s.port i).up = true)
    (htx : (s.port i).tx = []) (howed : ∃ n ∈ (s.port i).owed, 0 < n) :
    ∃ s', exec (.creditFlit i t) s = .next s' ∧ (s'.port i).owed = (s.port i).owed.map (· - 15) ∧
      (∃ f, (s'.port i).linkOut = some f ∧ f.kind = kindCredit ∧ f.credits = (s.port i).owed.map (min · 15) ∧
        f.lack = (s.port i).rxSeq) ∧
      (∀ j, j ≠ i → s'.port j = s.port j) ∧ { s' with time := s.time, fabric := s.fabric } = s := by
  have hrow := (exec_creditFlit i t s).trans (ranAt_pos (by simpa [below] using hi) ..)
  have hup' : ((s.at t).port i).up = true := hup
  have htx' : ((s.at t).port i).tx = [] := htx
  have howed' : (((s.at t).port i).owed.any fun n => decide (n > 0)) = true := by
    obtain ⟨n, hn, hpos⟩ := howed
    exact List.any_eq_true.mpr ⟨n, hn, decide_eq_true hpos⟩
  have heq : (s.at t).creditFlit i = (s.at t).linkFlit i kindCredit := by
    unfold State.creditFlit
    exact State.when_pos (by rw [hup', htx', howed']; rfl) ..
  rw [heq] at hrow
  refine ⟨_, hrow, ?_, ?_, fun j hj => State.port_modPort_ne (s.at t) hj _, rfl⟩
  · exact (congrArg Port.owed (State.port_modPort (s.at t) (i := i) (hfour.symm ▸ hi) _) :)
  · exact ⟨_, (congrArg Port.linkOut (State.port_modPort (s.at t) (i := i) (hfour.symm ▸ hi) _) :), rfl, rfl, rfl⟩

/-! ## Grants (R378) -/

/-- The messages of a VC and number are granted. -/
def State.allGranted (g : GrantAnswer) (s : State) : Prop :=
  ∀ m ∈ s.fabric.msgs, m.same g.vc g.msg = true → m.granted = true

theorem State.pump_msgs (s : State) : s.pump.fabric.msgs = s.fabric.msgs := State.msgs_of_wire s.wire_pump

theorem State.sendGranted_allGranted {g : GrantAnswer} (h : s.allGranted g) : s.sendGranted.allGranted g := by
  unfold State.sendGranted
  split
  · rw [State.allGranted, State.pump_msgs]
    refine State.foldl_inv (State.allGranted g) _ (fun x m hx => ?_) _ s h
    split
    · exact hx
    · intro k hk hsame
      obtain ⟨hk, -⟩ := List.mem_filter.mp hk
      obtain ⟨k', hk', rfl⟩ := List.mem_map.mp hk
      by_cases hm : k'.same m.vc m.id = true
      · rw [if_pos hm] at hsame ⊢
        exact hx k' hk' hsame
      · rw [if_neg hm] at hsame ⊢
        exact hx k' hk' hsame
  · exact h

theorem State.sendGranted_closed (h : s.fabric.census ≠ 4) : s.sendGranted = s := if_neg h

theorem grant_granted (g : GrantAnswer) (hvc : g.vc < 4) (hyes : g.granted = true)
    (hasked : ∃ m ∈ s.fabric.msgs, m.same g.vc g.msg = true ∧ m.requested = true ∧ m.granted = false) :
    ∃ s', exec (.grant g t) s = .next s' ∧ (∀ m ∈ s'.fabric.msgs, m.same g.vc g.msg = true → m.granted = true) ∧
      (s.fabric.census ≠ 4 → s'.fabric = { s.fabric with msgs := s.fabric.msgs.map fun m =>
        if (m.same g.vc g.msg) then { m with granted := true } else m }) ∧ s.onlyFabric s' := by
  have hrow := (exec_grant g t s).trans (ranAt_pos (by simpa [below] using hvc) ..)
  obtain ⟨m, hm, hsame, hreq, hopen⟩ := hasked
  have hfind : ∃ k, (s.at t).fabric.msgs.find? (fun m => m.same g.vc g.msg && m.requested && !m.granted) = some k := by
    refine Option.isSome_iff_exists.mp (List.find?_isSome.mpr ⟨m, hm, ?_⟩)
    rw [hsame, hreq, hopen]
    rfl
  obtain ⟨k, hk⟩ := hfind
  have heq : (s.at t).grant g = ((s.at t).modMsg g.vc g.msg fun m => { m with granted := true }).sendGranted := by
    unfold State.grant
    rw [hk]
    exact if_pos hyes
  have hall : ((s.at t).modMsg g.vc g.msg fun m => { m with granted := true }).allGranted g := by
    intro x hx hxsame
    obtain ⟨y, hy, rfl⟩ := List.mem_map.mp hx
    by_cases hys : y.same g.vc g.msg = true
    · rw [if_pos hys]
    · rw [if_neg hys] at hxsame
      exact absurd hxsame hys
  have hfabric : ((s.at t).modMsg g.vc g.msg fun m => { m with granted := true }).fabric =
      { s.fabric with msgs := s.fabric.msgs.map fun m => if (m.same g.vc g.msg) then { m with granted := true } else m } := rfl
  have hoff : ((s.at t).modMsg g.vc g.msg fun m => { m with granted := true }).offFabric = (s.at t).offFabric := rfl
  rw [heq] at hrow
  generalize (s.at t).modMsg g.vc g.msg (fun m => { m with granted := true }) = y at hrow hall hfabric hoff
  have hsent := State.sendGranted_allGranted hall
  have hclosed : s.fabric.census ≠ 4 → y.sendGranted.fabric = y.fabric := fun hne => by
    rw [State.sendGranted_closed (by rw [hfabric]; exact hne)]
  have hq := (State.offFabric_of_quiet y.quiet_sendGranted).trans hoff
  generalize y.sendGranted = z at hrow hsent hclosed hq
  exact ⟨_, hrow, hsent, fun hne => (hclosed hne).trans hfabric, State.onlyFabric_row hq⟩

theorem grant_refused (g : GrantAnswer) (m : FabMsg) (hvc : g.vc < 4) (hno : g.granted = false)
    (hfind : s.fabric.msgs.find? (fun m => m.same g.vc g.msg && m.requested && !m.granted) = some m) :
    ∃ s', exec (.grant g t) s = .next s' ∧
      (g.vc = 2 → m.cmd = none → (∀ x ∈ s'.fabric.msgs, x.same g.vc g.msg = false) ∧
        s'.hub.counters = bumpAt s.hub.counters 10 1 ∧ { s' with time := s.time, fabric := s.fabric, hub := s.hub } = s) ∧
      (g.vc ≠ 2 → s'.fabric = { s.fabric with msgs := s.fabric.msgs.map fun m =>
        if (m.same g.vc g.msg) then { m with requested := false } else m } ∧
        { s' with time := s.time, fabric := s.fabric } = s) := by
  have hrow := (exec_grant g t s).trans (ranAt_pos (by simpa [below] using hvc) ..)
  have hfind' : (s.at t).fabric.msgs.find? (fun m => m.same g.vc g.msg && m.requested && !m.granted) = some m := hfind
  have heq : (s.at t).grant g = if g.vc = 2 then (s.at t).dropMsg m else
      (s.at t).modMsg g.vc g.msg fun m => { m with requested := false } := by
    unfold State.grant
    rw [hfind']
    exact if_neg (by simp [hno])
  refine ⟨_, hrow, fun htwo hcmd => ?_, fun hne => ?_⟩
  · have hsame : m.vc = g.vc ∧ m.id = g.msg := by
      have := List.find?_some hfind
      simp only [Bool.and_eq_true, FabMsg.same, beq_iff_eq] at this
      exact this.1.1
    have hdrop : (s.at t).dropMsg m = ((s.at t).modFabric fun f => { f with
        msgs := f.msgs.filter fun x => !(x.same m.vc m.id) }).bumpHub 10 := by
      unfold State.dropMsg
      rw [hcmd]
      exact if_pos (hsame.1.trans htwo)
    rw [heq, if_pos htwo, hdrop]
    refine ⟨fun x hx => ?_, rfl, rfl⟩
    have hkept := (List.mem_filter.mp hx).2
    rw [hsame.1, hsame.2] at hkept
    simpa using hkept
  · rw [heq, if_neg hne]
    exact ⟨rfl, rfl⟩

theorem grant_none (g : GrantAnswer)
    (h : ∀ m ∈ s.fabric.msgs, m.same g.vc g.msg = true → m.requested = false ∨ m.granted = true) :
    ∃ s', exec (.grant g t) s = .next s' ∧ { s' with time := s.time } = s := by
  by_cases hvc : below g.vc 4 = true
  · have hfind : (s.at t).fabric.msgs.find? (fun m => m.same g.vc g.msg && m.requested && !m.granted) = none :=
      List.find?_eq_none.mpr fun m hm => by
        simp only [Bool.and_eq_true, Bool.not_eq_true', not_and, and_imp]
        intro hsame hreq
        rcases h m hm hsame with hno | hyes
        · exact absurd (hreq.symm.trans hno) Bool.noConfusion
        · simp [hyes]
    refine ⟨_, (exec_grant g t s).trans (ranAt_pos hvc ..), ?_⟩
    rw [State.grant, hfind]
    rfl
  · exact ⟨_, (exec_grant g t s).trans (ranAt_skip (Bool.eq_false_iff.mpr hvc) ..), rfl⟩

/-! ## PING (R393) -/

theorem ping_sends (hi : i < 4) (hfour : s.fabric.ports.length = 4) (hup : (s.port i).up = true)
    (hdue : ∀ p, (s.port i).pinged = some p → p + 1024 * ticksPerUs ≤ max s.time.now t) :
    ∃ s', exec (.ping i t) s = .next s' ∧ (s'.port i).pinged = some (max s.time.now t) ∧ s.onlyLinks s' := by
  have hrow := (exec_ping i t s).trans (ranAt_pos (by simpa [below] using hi) ..)
  have hup' : ((s.at t).port i).up = true := hup
  have heq : (s.at t).ping i = (((s.at t).modPort i fun p => { p with pinged := some (max s.time.now t) }).controlTo
      [i] 0xFE [0x50]).fabricGo := by
    unfold State.ping
    refine State.when_pos (Bool.and_eq_true_iff.mpr ⟨hup', ?_⟩) _ _
    split
    · rfl
    · next p hp => exact decide_eq_true (hdue p hp)
  have hport := State.port_modPort (s.at t) (i := i) (hfour.symm ▸ hi) fun p => { p with pinged := some (max s.time.now t) }
  have hoff : ((s.at t).modPort i fun p => { p with pinged := some (max s.time.now t) }).offLinks = (s.at t).offLinks := rfl
  have hroutes : ((s.at t).modPort i fun p => { p with pinged := some (max s.time.now t) }).fabric.nextHop =
        s.fabric.nextHop ∧
      ((s.at t).modPort i fun p => { p with pinged := some (max s.time.now t) }).fabric.census = s.fabric.census ∧
      ((s.at t).modPort i fun p => { p with pinged := some (max s.time.now t) }).fabric.msgs = s.fabric.msgs :=
    ⟨rfl, rfl, rfl⟩
  have hparts : ((s.at t).modPort i fun p => { p with pinged := some (max s.time.now t) }).mbx = s.mbx ∧
      ((s.at t).modPort i fun p => { p with pinged := some (max s.time.now t) }).worlds = s.worlds ∧
      ((s.at t).modPort i fun p => { p with pinged := some (max s.time.now t) }).obs = s.obs := ⟨rfl, rfl, rfl⟩
  rw [heq] at hrow
  generalize (s.at t).modPort i (fun p => { p with pinged := some (max s.time.now t) }) = y
    at hrow hport hoff hroutes hparts
  have hq := y.quiet_controlTo [i] 0xFE [0x50]
  have hmsgs := y.controlTo_msgs [i] 0xFE [0x50]
  generalize y.controlTo [i] 0xFE [0x50] = x at hrow hq hmsgs
  have hlinks := State.links_of_quiet hq
  have hstill := State.still_of_links (x.fabricGo_links.trans hlinks) i
  rw [hport] at hstill
  have honly := State.onlyLinks_behind (t := t) ((State.offLinks_of_links hlinks).trans hoff)
    ⟨(State.nextHop_of_links hlinks).trans hroutes.1, (State.census_of_links hlinks).trans hroutes.2.1,
      hmsgs.trans hroutes.2.2⟩
    ((congrArg State.mbx hq :).trans hparts.1) ((congrArg State.worlds hq :).trans hparts.2.1)
  have hgo := x.fabricGo_links
  generalize x.fabricGo = z at hrow hstill honly hgo
  have hobs : z.obs = s.obs := (congrArg State.obs hgo :).trans ((congrArg State.obs hq :).trans hparts.2.2)
  refine ⟨_, hrow, (congrArg Port.pinged hstill :), ?_⟩
  rwa [← hobs] at honly

theorem ping_waits (hi : i < 4) (h : (s.port i).up = false ∨
      (∃ p, (s.port i).pinged = some p ∧ max s.time.now t < p + 1024 * ticksPerUs)) :
    ∃ s', exec (.ping i t) s = .next s' ∧ { s' with time := s.time } = s := by
  have heq : (s.at t).ping i = s.at t := by
    unfold State.ping
    refine State.when_neg (Bool.and_eq_false_iff.mpr (h.imp id ?_)) _ _
    rintro ⟨p, hp, hearly⟩
    have hp' : ((s.at t).port i).pinged = some p := hp
    rw [hp']
    exact decide_eq_false (Nat.not_le_of_lt hearly)
  refine ⟨_, (exec_ping i t s).trans (ranAt_pos (by simpa [below] using hi) ..), ?_⟩
  rw [heq]
  rfl

end

/-- Settles O48. -/
theorem zereletLinks : Obligations.ZereletLinks := by
  unfold Obligations.ZereletLinks
  intro s i t hi hfour
  exact ⟨portUp_trains hi hfour, portDown_lowers hi hfour, flitReceive_badCrc hi hfour, flitReceive_outOfSequence hi hfour,
    flitReceive_inSequence hi hfour, flitReceive_credit hi hfour, flitReceive_nack hi hfour,
    nackReceive_acknowledges hi hfour, nackReceive_replays hi hfour, nackReceive_lowers hi hfour,
    creditFlit_sends hi hfour, grant_granted, grant_refused, grant_none, ping_sends hi hfour, ping_waits hi⟩

end Sys2Proof.Machine
end

section
/-!
SUPPORT. The obligation on the stream commands (R312, R320, R341, R342), judged at T_c.
-/
namespace Sys2Proof.Machine

/-! ## Answers behind the forming of the queries -/

section
variable {s : State} {fn slot : Nat} {r : Response}

theorem State.refuse_replied (x : Cmd) (st arg : Nat) (h : s.reply? fn slot = some r) :
    (s.refuse x st arg).reply? fn slot = some r := by
  rw [State.reply?, Option.bind_eq_some_iff] at h
  obtain ⟨c, hc, hr⟩ := h
  have hmap : (s.refuse x st arg).cmd? fn slot = (s.cmd? fn slot).map (x.answer (refusal st arg)) := by
    refine State.cmd?_map s (s.refuse x st arg) (x.answer (refusal st arg)) (fun c => ?_) rfl fn slot
    unfold Cmd.answer
    split_ifs <;> simp
  have hkeep : x.answer (refusal st arg) c = c := by
    rw [Cmd.answer, if_neg (by simp [hr] : ¬ c.response = none), ite_self]
  rw [State.reply?, hmap, hc, Option.map_some, hkeep]
  exact hr

theorem State.dropMsg_replied (m : FabMsg) (h : s.reply? fn slot = some r) : (s.dropMsg m).reply? fn slot = some r := by
  unfold State.dropMsg
  dsimp only
  have hs : (s.modFabric fun f => { f with msgs := f.msgs.filter fun x => !(x.same m.vc m.id) }).reply? fn slot = some r := h
  generalize s.modFabric _ = y at hs
  split
  · split
    · rw [State.freeLanding_eq]
      exact State.refuse_replied _ _ _ hs
    · exact hs
  · split
    · exact hs
    · exact hs

/-- An answer stands while the fabric goes on. -/
theorem State.fabricGo_replied (h : s.reply? fn slot = some r) : s.fabricGo.reply? fn slot = some r := by
  have hcontrol : s.sendControl.reply? fn slot = some r :=
    (State.reply?_mbx (State.sendControl_mbx s) fn slot).trans h
  have hgrants : s.sendControl.requestGrants.reply? fn slot = some r := by
    generalize s.sendControl = x at hcontrol
    unfold State.requestGrants
    split
    · refine State.foldl_inv (fun s => s.reply? fn slot = some r) _ (fun y m hy => ?_) _ x hcontrol
      split
      · exact (State.reply?_mbx (by simp) fn slot).trans hy
      · exact State.dropMsg_replied m hy
    · exact hcontrol
  unfold State.fabricGo
  generalize s.sendControl.requestGrants = x at hgrants
  exact (State.reply?_mbx (by simp) fn slot).trans hgrants

/-- The forming of the queries leaves the answers that stand, and of the mailboxes all but the command table. -/
theorem State.formQueries_mailboxes (s : State) : ∃ y : State, y.mbx = s.mbx ∧
    (s.formQueries = y.fabricGo ∨ s.formQueries = s) := by
  unfold State.formQueries
  by_cases hrun : (s.working && !s.judging) = true
  · rw [State.when_pos hrun]
    dsimp only
    exact ⟨_, by simp [State.foldl_mbx], .inl rfl⟩
  · rw [State.when_neg (Bool.eq_false_iff.mpr hrun)]
    exact ⟨s, rfl, .inr rfl⟩

theorem State.formQueries_replied (h : s.reply? fn slot = some r) : s.formQueries.reply? fn slot = some r := by
  obtain ⟨y, hmbx, hgo | hsame⟩ := s.formQueries_mailboxes
  · rw [hgo]
    exact State.fabricGo_replied ((State.reply?_mbx hmbx fn slot).trans h)
  · rwa [hsame]

theorem State.formQueries_mbx (l : List Cmd) (s : State) :
    { s.formQueries.mbx with cmds := l } = { s.mbx with cmds := l } := by
  obtain ⟨y, hmbx, hgo | hsame⟩ := s.formQueries_mailboxes
  · rw [hgo, ← hmbx]
    have hlinks := y.fabricGo_links
    generalize y.fabricGo = z at hlinks
    exact congrArg (fun x : State => { x.mbx with cmds := l }) hlinks
  · rw [hsame]

end

/-! ## Rows judged at T_c -/

section
variable {s : State} {fn slot t op : Nat} {c : Cmd}

/-- The row of a command that is due at T_c. -/
theorem execCutoff {i : Instr} {body : Cmd → State → State} (hslot : isSlot fn slot) (h : s.isReady op fn slot c)
    (hdue : dueAtCutoff c s = true)
    (hexec : exec i s = ranAt (slotOk fn slot) t s fun s => (runCmd op fn slot body (due := dueAtCutoff) s).formQueries) :
    exec i s = .next { (body c (s.taken t c)).formQueries with pending := s.pending } := by
  rw [hexec, ranAt_pos (slotOk_of fn slot hslot), runCmd_ready (State.isReady_at h t) body dueAtCutoff hdue true]
  rfl

/-- What an accepted stream command leaves beside the streams. -/
theorem State.onlyStreams (s : State) (t : Nat) (c : Cmd) (f : List Stream → List Stream) :
    { ((s.taken t c).modStreams f).accept c [] with
      time := s.time, det := s.det, mbx := { s.mbx with cmds := s.mbx.cmds }, streams := s.streams } = s := by
  apply State.ext_parts <;> simp

theorem mem_insertBy {α : Type} (lt : α → α → Bool) (x y : α) : ∀ l : List α, y ∈ insertBy lt x l ↔ y = x ∨ y ∈ l
  | [] => by simp [insertBy]
  | z :: l => by
    unfold insertBy
    split
    · simp
    · rw [List.mem_cons, mem_insertBy lt x y l, List.mem_cons]
      exact ⟨fun h => h.elim (fun h => .inr (.inl h)) fun h => h.imp_right .inr,
        fun h => h.elim (fun h => .inr (.inl h)) fun h => h.imp_right .inr⟩

theorem State.taken_admits_streams (s : State) (t : Nat) (c : Cmd) (f : List Stream → List Stream) (conf : FrameConf)
    (i : Nat) : ((s.taken t c).modStreams f).admits conf i = (s.modStreams f).admits conf i :=
  State.admits_congr (by simp) (by simp) (by simp) (by simp) conf i

/-- A stream command that is accepted: its answer stands behind the forming of the queries, and beside it only the streams
change. -/
theorem cutoff_accepts {i : Instr} {body : Cmd → State → State} {f : List Stream → List Stream} (hslot : isSlot fn slot)
    (h : s.isReady op fn slot c) (hdue : dueAtCutoff c s = true)
    (hexec : exec i s = ranAt (slotOk fn slot) t s fun s => (runCmd op fn slot body (due := dueAtCutoff) s).formQueries)
    (hbody : body c (s.taken t c) = ((s.taken t c).modStreams f).accept c) :
    ∃ s' s1 : State, exec i s = .next s' ∧ s' = { s1.formQueries with pending := s.pending } ∧
      s'.reply? fn slot = some (okReply []) ∧ s1.streams = f s.streams ∧
      { s1 with time := s.time, det := s.det, mbx := { s'.mbx with cmds := s.mbx.cmds }, streams := s.streams } = s := by
  have hrow := execCutoff (t := t) hslot h hdue hexec
  rw [hbody] at hrow
  have hreply : (((s.taken t c).modStreams f).accept c).reply? fn slot = some (okReply []) :=
    State.reply?_accept (State.taken_mbx ..) h.1 h.2.2.2.1 []
  have hstreams : (((s.taken t c).modStreams f).accept c).streams = f s.streams := congrArg f (State.taken_streams ..)
  have hrest := State.onlyStreams s t c f
  have hmbx : { (((s.taken t c).modStreams f).accept c).mbx with cmds := s.mbx.cmds } = s.mbx :=
    congrArg (fun m : Mailbox => { m with cmds := s.mbx.cmds }) (s.taken_mbx t c)
  generalize ((s.taken t c).modStreams f).accept c = y at hrow hreply hstreams hrest hmbx
  have hreplied := State.formQueries_replied hreply
  have hboxes := (State.formQueries_mbx s.mbx.cmds y).trans hmbx
  refine ⟨_, y, hrow, rfl, hreplied, hstreams, ?_⟩
  exact (congrArg (fun m : Mailbox => { y with time := s.time, det := s.det, mbx := m, streams := s.streams })
    hboxes).trans hrest

theorem candidates_ok {n : Nat} (hlow : 64 ≤ n) (hhigh : n ≤ 4096) (hmod : n % 64 = 0) : candidatesOk n = true := by
  simp [candidatesOk, inR, hlow, hhigh, hmod]

theorem streamAdd_enters (hslot : isSlot fn slot) (hdue : dueAtCutoff c s = true) (hlow : 2 ≤ (s.ses c.session).state)
    (hhigh : (s.ses c.session).state ≤ 4) (x : Stream) (h : s.isReady 0x0504 fn slot c) (hlen : c.payload.length = 16)
    (hz1 : allZero (slice c.payload 1 1) = true) (hz8 : allZero (slice c.payload 8 8) = true)
    (hn64 : 64 ≤ getU c.payload 2 2) (hn4096 : getU c.payload 2 2 ≤ 4096) (hmod : getU c.payload 2 2 % 64 = 0)
    (hage : getU c.payload 4 4 = 0 ∨ 250 ≤ getU c.payload 4 4 ∧ getU c.payload 4 4 ≤ 60000)
    (hprofile : ∀ p, s.safety.profile = some p → (s.ses c.session).classS = true → x.ageLimit ≤ p.ageMax)
    (hfree : ∀ y ∈ s.streams, y.id ≠ getU c.payload 0 1)
    (hx : x = { id := getU c.payload 0 1, session := c.session, candidates := getU c.payload 2 2,
                ageLimit := if getU c.payload 4 4 = 0 then 3000 else getU c.payload 4 4,
                ssvAge := if getU c.payload 4 4 = 0 then 3000 else getU c.payload 4 4 })
    (hadmits : (s.modStreams fun l => insertBy (fun a b => decide (a.id < b.id)) x l).admits s.nextConf c.session = true) :
    ∃ s' s1 : State, exec (.streamAdd fn slot t) s = .next s' ∧ s' = { s1.formQueries with pending := s.pending } ∧
      s'.reply? fn slot = some (okReply []) ∧ x.active = false ∧ (∀ y, y ∈ s1.streams ↔ y = x ∨ y ∈ s.streams) ∧
      { s1 with time := s.time, det := s.det, mbx := { s'.mbx with cmds := s.mbx.cmds }, streams := s.streams } = s := by
  have hbody : bodyStreamAdd c (s.taken t c) =
      ((s.taken t c).modStreams fun l => insertBy (fun a b => decide (a.id < b.id)) x l).accept c := by
    have hwithin : (match (s.taken t c).safety.profile with
        | some p => !((s.taken t c).ses c.session).classS ||
            decide ((if getU c.payload 4 4 = 0 then 3000 else getU c.payload 4 4) ≤ p.ageMax)
        | none => true) = true := by
      rw [State.taken_safety, State.taken_ses]
      split
      · next p hp =>
        by_cases hclass : (s.ses c.session).classS = true
        · have hlimit : x.ageLimit ≤ p.ageMax := hprofile p hp hclass
          rw [hx] at hlimit
          rw [decide_eq_true hlimit, Bool.or_true]
        · simp [hclass]
      · rfl
    have hages : (getU c.payload 4 4 == 0 || inR (getU c.payload 4 4) 250 60000) = true := by
      simpa [inR] using hage
    have hin : (!(s.taken t c).streams.any fun y => y.id == getU c.payload 0 1) = true := by
      rw [State.taken_streams]
      simpa using hfree
    unfold bodyStreamAdd
    dsimp only
    rw [State.shape_pos hlen (by simp [hz1, hz8]), State.need_pos (by simp [inR, hlow, hhigh]),
      State.need_pos (by
        exact Bool.and_eq_true_iff.mpr ⟨by rw [hages, candidates_ok hn64 hn4096 hmod]; rfl, hwithin⟩),
      State.need_pos hin, ← hx, State.need_pos]
    exact (State.taken_admits_streams ..).trans (by simpa [State.nextConf] using hadmits)
  obtain ⟨s', s1, hexec, hs', hreply, hstreams, hrest⟩ :=
    cutoff_accepts hslot h hdue (exec_streamAdd fn slot t s) hbody
  refine ⟨s', s1, hexec, hs', hreply, by rw [hx], fun y => ?_, hrest⟩
  rw [hstreams]
  exact mem_insertBy _ x y s.streams

theorem streamAdd_inUse (hslot : isSlot fn slot) (hdue : dueAtCutoff c s = true) (hlow : 2 ≤ (s.ses c.session).state)
    (hhigh : (s.ses c.session).state ≤ 4) (h : s.isReady 0x0504 fn slot c) (hlen : c.payload.length = 16)
    (hz1 : allZero (slice c.payload 1 1) = true) (hz8 : allZero (slice c.payload 8 8) = true)
    (hn64 : 64 ≤ getU c.payload 2 2) (hn4096 : getU c.payload 2 2 ≤ 4096) (hmod : getU c.payload 2 2 % 64 = 0)
    (hage : getU c.payload 4 4 = 0) (hprofile : s.safety.profile = none)
    (hused : ∃ y ∈ s.streams, y.id = getU c.payload 0 1) :
    ∃ s' s1 : State, exec (.streamAdd fn slot t) s = .next s' ∧ s' = { s1.formQueries with pending := s.pending } ∧
      s'.reply? fn slot = some (refusal 0x0203) ∧ s.onlyAnswered s1 := by
  have hbody : bodyStreamAdd c (s.taken t c) = (s.taken t c).refuse c 0x0203 0 := by
    have hin : (!(s.taken t c).streams.any fun y => y.id == getU c.payload 0 1) = false := by
      rw [State.taken_streams]
      simpa using hused
    unfold bodyStreamAdd
    dsimp only
    rw [State.shape_pos hlen (by simp [hz1, hz8]), State.need_pos (by simp [inR, hlow, hhigh]), State.taken_safety, hprofile,
      State.need_pos (by rw [hage, candidates_ok hn64 hn4096 hmod]; rfl), State.need_neg hin]
  have hrow := execCutoff (t := t) hslot h hdue (exec_streamAdd fn slot t s)
  rw [hbody] at hrow
  have hreply : ((s.taken t c).refuse c 0x0203 0).reply? fn slot = some (refusal 0x0203) :=
    State.reply?_refuse (State.taken_mbx ..) h.1 h.2.2.2.1 0x0203 0
  have honly := State.onlyAnswered_refuse s t c 0x0203 0
  have hpending : ((s.taken t c).refuse c 0x0203 0).pending = s.pending := State.taken_pending ..
  generalize (s.taken t c).refuse c 0x0203 0 = y at hrow hreply honly hpending
  have hreplied := State.formQueries_replied hreply
  refine ⟨_, y, hrow, rfl, hreplied, ?_⟩
  rwa [← hpending] at honly

theorem ownStream_of (h : ∃ y ∈ s.streams, y.id = getU c.payload 0 1 ∧ y.session = c.session ∧ y.active = true) :
    ((s.taken t c).ownStream? c.session (getU c.payload 0 1)).isSome = true := by
  obtain ⟨y, hy, hid, hses, hactive⟩ := h
  rw [State.ownStream?, State.taken_streams]
  exact List.find?_isSome.mpr ⟨y, hy, by simp [hid, hses, hactive]⟩

theorem streamResize_marks (hslot : isSlot fn slot) (hdue : dueAtCutoff c s = true) (hlow : 2 ≤ (s.ses c.session).state)
    (hhigh : (s.ses c.session).state ≤ 4) (h : s.isReady 0x0505 fn slot c) (hlen : c.payload.length = 8)
    (hz1 : allZero (slice c.payload 1 1) = true) (hz4 : allZero (slice c.payload 4 4) = true)
    (hn64 : 64 ≤ getU c.payload 2 2) (hn4096 : getU c.payload 2 2 ≤ 4096) (hmod : getU c.payload 2 2 % 64 = 0)
    (hown : ∃ y ∈ s.streams, y.id = getU c.payload 0 1 ∧ y.session = c.session ∧ y.active = true)
    (hadmits : (s.modStream (getU c.payload 0 1) fun y => { y with
      pendingCandidates := some (getU c.payload 2 2) }).admits s.nextConf c.session = true) :
    ∃ s' s1 : State, exec (.streamResize fn slot t) s = .next s' ∧ s' = { s1.formQueries with pending := s.pending } ∧
      s'.reply? fn slot = some (okReply []) ∧
      s1.streams = s.streams.map (fun y =>
        if y.id = getU c.payload 0 1 then { y with pendingCandidates := some (getU c.payload 2 2) } else y) ∧
      { s1 with time := s.time, det := s.det, mbx := { s'.mbx with cmds := s.mbx.cmds }, streams := s.streams } = s := by
  refine cutoff_accepts hslot h hdue (exec_streamResize fn slot t s) ?_
  unfold bodyStreamResize
  dsimp only
  rw [State.shape_pos hlen (by simp [hz1, hz4]), State.need_pos (by simp [inR, hlow, hhigh]),
    State.need_pos (by rw [ownStream_of hown, candidates_ok hn64 hn4096 hmod]; rfl), State.need_pos]
  · rfl
  · exact (State.taken_admits_streams ..).trans (by simpa [State.nextConf] using hadmits)

theorem streamRemove_marks (hslot : isSlot fn slot) (hdue : dueAtCutoff c s = true) (hlow : 2 ≤ (s.ses c.session).state)
    (hhigh : (s.ses c.session).state ≤ 4) (h : s.isReady 0x0506 fn slot c) (hlen : c.payload.length = 8)
    (hz : allZero (slice c.payload 1 7) = true)
    (hown : ∃ y ∈ s.streams, y.id = getU c.payload 0 1 ∧ y.session = c.session ∧ y.active = true) :
    ∃ s' s1 : State, exec (.streamRemove fn slot t) s = .next s' ∧ s' = { s1.formQueries with pending := s.pending } ∧
      s'.reply? fn slot = some (okReply []) ∧
      s1.streams = s.streams.map (fun y => if y.id = getU c.payload 0 1 then { y with removing := true } else y) ∧
      { s1 with time := s.time, det := s.det, mbx := { s'.mbx with cmds := s.mbx.cmds }, streams := s.streams } = s := by
  refine cutoff_accepts hslot h hdue (exec_streamRemove fn slot t s) ?_
  unfold bodyStreamRemove
  dsimp only
  rw [State.shape_pos hlen (by simp [hz]), State.need_pos (by simp [inR, hlow, hhigh]),
    State.need_pos (ownStream_of hown)]
  rfl

end

/-- Settles O18. -/
theorem streamCommands : Obligations.StreamCommands := by
  unfold Obligations.StreamCommands
  intro s fn slot t c hslot hdue hlow hhigh
  exact ⟨streamAdd_enters hslot hdue hlow hhigh, streamAdd_inUse hslot hdue hlow hhigh,
    streamResize_marks hslot hdue hlow hhigh, streamRemove_marks hslot hdue hlow hhigh⟩

end Sys2Proof.Machine
end

section
/-!
SUPPORT. The obligation on queries and commits: QUERY_SUBMIT (R343, R344).
-/
namespace Sys2Proof.Machine

/-! ## Dispositions (R344) -/

theorem dispositions_length (later : Nat → Bool) : ∀ l : List Nat, (dispositions later l).length = l.length
  | [] => rfl
  | _ :: r => congrArg (· + 1) (dispositions_length later r)

/-- The disposition of a record says whether a later record of the command, or a later command, names its stream. -/
theorem dispositions_getD (later : Nat → Bool) : ∀ (l : List Nat) (k : Nat), k < l.length →
    (dispositions later l).getD k 2 = if (l.drop (k + 1)).contains (l.getD k 0) || later (l.getD k 0) then 1 else 0
  | _ :: _, 0, _ => rfl
  | _ :: r, k + 1, h => dispositions_getD later r k (Nat.lt_of_succ_lt_succ h)

theorem dispositions_bit (later : Nat → Bool) {l : List Nat} {k : Nat} (h : k < l.length) :
    (dispositions later l).getD k 2 = 0 ∨ (dispositions later l).getD k 2 = 1 := by
  rw [dispositions_getD later l k h]
  split
  · exact .inr rfl
  · exact .inl rfl

theorem dispositions_eq_one (later : Nat → Bool) {l : List Nat} {k : Nat} (h : k < l.length) :
    (dispositions later l).getD k 2 = 1 ↔ l.getD k 0 ∈ l.drop (k + 1) ∨ later (l.getD k 0) = true := by
  rw [dispositions_getD later l k h, ← List.contains_iff_mem, ← Bool.or_eq_true]
  split
  · next hc => exact iff_of_true rfl hc
  · next hc => exact iff_of_false (by decide) hc

theorem dispositions_eq_zero (later : Nat → Bool) {l : List Nat} {k : Nat} (h : k < l.length)
    (hzero : (dispositions later l).getD k 2 = 0) : l.getD k 0 ∉ l.drop (k + 1) ∧ later (l.getD k 0) = false := by
  have hone := (dispositions_eq_one later h).not.mp (by rw [hzero]; decide)
  rw [not_or, Bool.not_eq_true] at hone
  exact hone

/-- The members behind place `k`, by their places. -/
theorem mem_drop_iff_getD {α : Type} (l : List α) (k : Nat) (d x : α) :
    x ∈ l.drop (k + 1) ↔ ∃ j < l.length, k < j ∧ l.getD j d = x := by
  rw [List.mem_drop_iff_getElem]
  constructor
  · rintro ⟨i, hi, rfl⟩
    exact ⟨i + (k + 1), hi, by omega, by
      rw [List.getD_eq_getElem _ _ hi]
      congr 1
      omega⟩
  · rintro ⟨j, hj, hkj, rfl⟩
    refine ⟨j - (k + 1), by omega, ?_⟩
    rw [List.getD_eq_getElem _ _ hj]
    congr 1
    omega

/-! ## Queries that enter their streams (R343) -/

/-- The stream with the query of a record of the command. -/
def Stream.asked (dof : Nat) (c : Cmd) (b : List Byte) (y : Stream) : Stream :=
  { y with query := some (queryOf dof c.seq b), tagLayer := c.layerId, tagOperator := c.operatorId }

/-- The streams with the query of a record. -/
def askStreams (dof : Nat) (c : Cmd) (l : List Stream) (b : List Byte) : List Stream :=
  l.map fun y => if y.id = getU b 0 1 then y.asked dof c b else y

/-- A stream that no record names stays as it is. -/
theorem mem_askStreams_of_unnamed {dof : Nat} {c : Cmd} {x : Stream} : ∀ (recs : List (List Byte)) (l : List Stream), x ∈ l →
    (∀ b ∈ recs, getU b 0 1 ≠ x.id) → x ∈ recs.foldl (askStreams dof c) l
  | [], _, hx, _ => hx
  | b :: r, l, hx, hn => by
    refine mem_askStreams_of_unnamed r _ (List.mem_map.mpr ⟨x, hx, if_neg fun h => ?_⟩) fun b' hb' => hn b' (.tail _ hb')
    exact hn b (.head _) h.symm

/-- Each stream behind the records stood before them as a stream of its ID, with its query where no record names it. -/
theorem askStreams_keeps {dof : Nat} {c : Cmd} {x : Stream} : ∀ (recs : List (List Byte)) (l : List Stream),
    x ∈ recs.foldl (askStreams dof c) l → (∀ b ∈ recs, getU b 0 1 ≠ x.id) → x ∈ l
  | [], _, hx, _ => hx
  | b :: r, l, hx, hn => by
    have hmem := askStreams_keeps r _ hx fun b' hb' => hn b' (.tail _ hb')
    obtain ⟨y, hy, hyx⟩ := List.mem_map.mp hmem
    by_cases hid : y.id = getU b 0 1
    · rw [if_pos hid] at hyx
      refine absurd ?_ (hn b (.head _))
      rw [← hid, ← hyx]
      rfl
    · rw [if_neg hid] at hyx
      exact hyx ▸ hy

/-- A record behind which none names its stream gives each stream of its ID its query. -/
theorem askStreams_asks {dof : Nat} {c : Cmd} {x : Stream} (before after : List (List Byte)) (b : List Byte) (l : List Stream)
    (hx : x ∈ (before ++ b :: after).foldl (askStreams dof c) l) (hid : x.id = getU b 0 1)
    (hafter : ∀ b' ∈ after, getU b' 0 1 ≠ x.id) : x.query = some (queryOf dof c.seq b) := by
  rw [List.foldl_append, List.foldl_cons] at hx
  obtain ⟨y, _, hyx⟩ := List.mem_map.mp (askStreams_keeps after _ hx hafter)
  by_cases hy : y.id = getU b 0 1
  · rw [if_pos hy] at hyx
    rw [← hyx]
    rfl
  · rw [if_neg hy] at hyx
    exact absurd (hyx ▸ hid) hy

/-- One record's query enters its streams. -/
def State.ask (dof : Nat) (c : Cmd) (s : State) (b : List Byte) : State := s.modStream (getU b 0 1) (Stream.asked dof c b)

theorem State.foldl_ask (dof : Nat) (c : Cmd) : ∀ (l : List (List Byte)) (s : State),
    l.foldl (State.ask dof c) s = s.modStreams fun x => l.foldl (askStreams dof c) x
  | [], _ => rfl
  | b :: r, s => State.foldl_ask dof c r (s.ask dof c b)

/-! ## The command -/

/-- The response of an earlier QUERY_SUBMIT with the records of `ids` marked as replaced. -/
def Cmd.replacedMark (ids : List Nat) (x : Cmd) (r : Response) : Response :=
  { r with payload := r.payload.take 8 ++
      (List.range (x.queryStreams (Machine.queryBytes (getU x.queryBytes 1 1))).length).map fun k =>
        if ids.contains ((x.queryStreams (Machine.queryBytes (getU x.queryBytes 1 1))).getD k 256) then (1 : Byte)
        else r.payload.getD (8 + k) 0 }

/-- A command of the mailbox behind a QUERY_SUBMIT that names `ids`. -/
def Cmd.replaced (c : Cmd) (ids : List Nat) (x : Cmd) : Cmd :=
  if x.opcode = 0x0507 ∧ x.frame = c.frame ∧ x.sooner c then
    { x with response := x.response.map fun r => if r.status = 0 then x.replacedMark ids r else r } else x

theorem State.replaceQueries_eq (c : Cmd) (ids : List Nat) (s : State) :
    s.replaceQueries c ids = s.modMbx fun m => { m with cmds := m.cmds.map (Cmd.replaced c ids) } := rfl

/-- A command without a response keeps its place, unanswered, when it marks those before it. -/
theorem State.cmd?_replaceQueries {s : State} {fn slot : Nat} {c : Cmd} (h : s.cmd? fn slot = some c) (hopen : c.response = none)
    (ids : List Nat) : (s.replaceQueries c ids).cmd? fn slot = some c := by
  rw [State.cmd?_map s (s.replaceQueries c ids) (Cmd.replaced c ids) (fun x => ?_) rfl, h, Option.map_some, Cmd.replaced, hopen]
  · refine congrArg some ?_
    split
    · rw [Option.map_none, ← hopen]
    · rfl
  · unfold Cmd.replaced
    split <;> exact ⟨rfl, rfl⟩

section
variable {s : State} {fn slot t : Nat} {c : Cmd}

/-- The state behind the queries of an accepted QUERY_SUBMIT with the records `recs`. -/
def State.asked (dof n : Nat) (recs : List (List Byte)) (c : Cmd) (s : State) : State :=
  ((s.modStreams fun l => (recs.filter fun b => !s.replacedBy c (getU b 0 1)).foldl (askStreams dof c) l).bumpSes c.session 0 n)

theorem State.asked_mbx (dof n : Nat) (recs : List (List Byte)) (c : Cmd) (s : State) : (s.asked dof n recs c).mbx = s.mbx := rfl

theorem State.asked_streams (dof n : Nat) (recs : List (List Byte)) (c : Cmd) (s : State) :
    (s.asked dof n recs c).streams = (recs.filter fun b => !s.replacedBy c (getU b 0 1)).foldl (askStreams dof c) s.streams := rfl

theorem State.asked_parts (dof n : Nat) (recs : List (List Byte)) (c : Cmd) (s : State) :
    (s.asked dof n recs c).frame = s.frame ∧ (s.asked dof n recs c).safety = s.safety ∧
      (s.asked dof n recs c).rings = s.rings ∧ (s.asked dof n recs c).host = s.host := ⟨rfl, rfl, rfl, rfl⟩

/-- The stream that record `k` of a QUERY_SUBMIT names. -/
theorem Cmd.queryStreams_getD {len n k : Nat} {bytes : List Byte} (hbytes : c.queryBytes = bytes) (hn : getU c.payload 0 2 = n)
    (hk : k < n) (hlen : 0 < len) :
    (c.queryStreams len).getD k 0 = getU (slice bytes (k * len) len) 0 1 := by
  rw [Cmd.queryStreams, hn, getD_map_range _ hk, hbytes]
  unfold getU slice
  obtain ⟨m, rfl⟩ : ∃ m, len = m + 1 := ⟨len - 1, by omega⟩
  cases bytes.drop (k * (m + 1)) with
  | nil => rfl
  | cons b r => rfl

/-- The body of a QUERY_SUBMIT whose records are in form (R343). -/
theorem bodyQuerySubmit_good {s : State} {c : Cmd} {n dof : Nat} {recs : List (List Byte)}
    (hdof : (s.images.rigs.getD ((s.ses c.session).rig.getD 8) {}).dof = dof)
    (hlow : 2 ≤ (s.ses c.session).state) (hhigh : (s.ses c.session).state ≤ 4) (hpay : 8 ≤ c.payload.length)
    (hn : getU c.payload 0 2 = n) (hzero : allZero (slice c.payload 2 6) = true) (hpos : 1 ≤ n) (hmax : n ≤ 256)
    (hbytes : c.queryBytes.length = n * queryBytes dof) (hdescs : c.descs = [] ∨ c.payload.length = 8)
    (hrecs : recs = (List.range n).map fun k => slice c.queryBytes (k * queryBytes dof) (queryBytes dof))
    (hgood : ∀ r ∈ recs, s.queryBad c.session dof r = none) :
    bodyQuerySubmit c s = ((s.asked dof n recs c).replaceQueries c (c.queryStreams (queryBytes dof))).accept c
      (le 2 n ++ zeros 6 ++ dispositions (s.replacedBy c) (c.queryStreams (queryBytes dof))) := by
  subst hdof hn
  have hform : (c.queryBytes.length == getU c.payload 0 2 *
      queryBytes (s.images.rigs.getD ((s.ses c.session).rig.getD 8) {}).dof && (c.descs.isEmpty || c.payload.length == 8)) = true := by
    rw [hbytes, beq_self_eq_true, Bool.true_and, Bool.or_eq_true, List.isEmpty_iff, beq_iff_eq]
    exact hdescs
  have hnone : (List.range (getU c.payload 0 2)).findSome? (fun k =>
      (s.queryBad c.session (s.images.rigs.getD ((s.ses c.session).rig.getD 8) {}).dof (recs.getD k [])).map fun st => (st, k)) =
        none := by
    refine findSome?_range_none fun k hk => ?_
    refine hgood _ ?_
    rw [List.getD_eq_getElem _ _ (by simpa [hrecs] using hk)]
    exact List.getElem_mem _
  unfold bodyQuerySubmit
  dsimp only
  rw [← hrecs, State.need_pos (decide_eq_true hpay), State.need_pos hzero, State.need_pos (by simp [inR, hlow, hhigh]),
    State.need_pos (by simp [inR, hpos, hmax]), State.need_pos hform]
  simp only [hnone]
  exact congrArg (fun x : State => ((x.bumpSes c.session 0 (getU c.payload 0 2)).replaceQueries c _).accept c _)
    (State.foldl_ask _ c _ s)

/-- QUERY_SUBMIT with records in form (R343, R344). -/
theorem querySubmit_enters {n dof : Nat} {bytes : List Byte} {recs : List (List Byte)} (hslot : isSlot fn slot)
    (h : s.isReady 0x0507 fn slot c) (hdue : dueAtCutoff c s = true)
    (hdof : (s.images.rigs.getD ((s.ses c.session).rig.getD 8) {}).dof = dof)
    (hlow : 2 ≤ (s.ses c.session).state) (hhigh : (s.ses c.session).state ≤ 4) (hpay : 8 ≤ c.payload.length)
    (hn : getU c.payload 0 2 = n) (hzero : allZero (slice c.payload 2 6) = true) (hpos : 1 ≤ n) (hmax : n ≤ 256)
    (hsame : c.queryBytes = bytes) (hbytes : bytes.length = n * queryBytes dof) (hdescs : c.descs = [] ∨ c.payload.length = 8)
    (hrecs : recs = (List.range n).map fun k => slice bytes (k * queryBytes dof) (queryBytes dof))
    (hgood : ∀ r ∈ recs, s.queryBad c.session dof r = none) :
    ∃ (s' s1 : State) (disp : List Byte), exec (.querySubmit fn slot t) s = .next s' ∧
      s' = { s1.formQueries with pending := s.pending } ∧
      s'.reply? fn slot = some (okReply (le 2 n ++ zeros 6 ++ disp)) ∧ disp.length = n ∧
      (∀ k < n, disp.getD k 2 = 0 ∨ disp.getD k 2 = 1) ∧
      (∀ k < n, disp.getD k 2 = 1 ↔ (∃ j < n, k < j ∧ getU (recs.getD j []) 0 1 = getU (recs.getD k []) 0 1) ∨
        s.replacedBy c (getU (recs.getD k []) 0 1) = true) ∧
      (∀ x ∈ s.streams, (∀ k < n, getU (recs.getD k []) 0 1 ≠ x.id) → x ∈ s1.streams) ∧
      s1.frame = s.frame ∧ s1.safety = s.safety ∧ s1.rings = s.rings ∧ s1.host = s.host ∧
      (∀ k < n, disp.getD k 2 = 0 → ∀ x ∈ s1.streams, x.id = getU (recs.getD k []) 0 1 → x.query = some
        (queryOf dof c.seq (recs.getD k []))) := by
  subst hsame
  have hlater : (s.taken t c).replacedBy c = s.replacedBy c := by
    unfold State.replacedBy
    rw [State.taken_mbx]
  have hqueryBad (b : List Byte) : (s.taken t c).queryBad c.session dof b = s.queryBad c.session dof b := by
    unfold State.queryBad State.ownStream?
    rw [State.taken_streams]
  have hbody := bodyQuerySubmit_good (s := s.taken t c) (c := c) (recs := recs) (by rw [State.taken_images, State.taken_ses, hdof])
    (by rwa [State.taken_ses]) (by rwa [State.taken_ses]) hpay hn hzero hpos hmax hbytes hdescs hrecs
    fun r hr => (hqueryBad r).trans (hgood r hr)
  rw [hlater] at hbody
  have hrow := execCutoff (t := t) hslot h hdue (exec_querySubmit fn slot t s)
  rw [hbody] at hrow
  have hcmd : ((s.taken t c).asked dof n recs c).cmd? fn slot = some c :=
    (State.cmd?_mbx ((State.asked_mbx ..).trans (State.taken_mbx ..)) fn slot).trans h.1
  have hreply := State.reply?_accept rfl (State.cmd?_replaceQueries hcmd h.2.2.2.1 (c.queryStreams (queryBytes dof))) h.2.2.2.1
    (le 2 n ++ zeros 6 ++ dispositions (s.replacedBy c) (c.queryStreams (queryBytes dof)))
  have hstreams := State.asked_streams dof n recs c (s.taken t c)
  rw [hlater, State.taken_streams] at hstreams
  have hparts := State.asked_parts dof n recs c (s.taken t c)
  rw [State.taken_frame, State.taken_safety, State.taken_rings, State.taken_host] at hparts
  generalize (s.taken t c).asked dof n recs c = y at hrow hreply hstreams hparts
  obtain ⟨hframe, hsafety, hrings, hhost⟩ := hparts
  have hlen : (c.queryStreams (queryBytes dof)).length = n := by rw [Cmd.queryStreams, List.length_map, List.length_range, hn]
  have hid {k : Nat} (hk : k < n) : (c.queryStreams (queryBytes dof)).getD k 0 = getU (recs.getD k []) 0 1 := by
    rw [Cmd.queryStreams_getD rfl hn hk (by unfold queryBytes ceilDiv; omega), hrecs, getD_map_range _ hk]
  have hreclen : recs.length = n := by rw [hrecs, List.length_map, List.length_range]
  refine ⟨_, _, dispositions (s.replacedBy c) (c.queryStreams (queryBytes dof)), hrow, rfl, State.formQueries_replied hreply,
    (dispositions_length ..).trans hlen, fun k hk => dispositions_bit _ (hlen ▸ hk), fun k hk => ?_, fun x hx hn => ?_,
    hframe, hsafety, hrings, hhost, fun k hk hkeep x hx hxid => ?_⟩
  · rw [dispositions_eq_one _ (hlen ▸ hk), mem_drop_iff_getD _ _ 0, hlen, hid hk]
    refine or_congr_left (exists_congr fun j => and_congr_right fun hj => ?_)
    rw [hid hj]
  · refine hstreams ▸ mem_askStreams_of_unnamed _ _ hx fun b hb => ?_
    obtain ⟨k, hk, rfl⟩ := List.getElem_of_mem (List.mem_of_mem_filter hb)
    have hname := hn k (hreclen ▸ hk)
    rwa [List.getD_eq_getElem _ _ hk] at hname
  · obtain ⟨hlast, hused⟩ := dispositions_eq_zero _ (hlen ▸ hk) hkeep
    rw [hid hk] at hlast hused
    have hk' : k < recs.length := hreclen ▸ hk
    have hsplit : recs = recs.take k ++ recs.getD k [] :: recs.drop (k + 1) := by
      rw [List.getD_eq_getElem _ _ hk', List.getElem_cons_drop, List.take_append_drop]
    have hfold : x ∈ (recs.filter fun b => !s.replacedBy c (getU b 0 1)).foldl (askStreams dof c) s.streams := hstreams ▸ hx
    rw [hsplit, List.filter_append, List.filter_cons_of_pos (by rw [hused]; rfl)] at hfold
    refine askStreams_asks _ _ _ _ hfold hxid fun b hb hbx => hlast ?_
    obtain ⟨j, hj, hkj, hbj⟩ := (mem_drop_iff_getD recs k [] b).mp (List.mem_of_mem_filter hb)
    refine (mem_drop_iff_getD _ k 0 _).mpr ⟨j, by omega, hkj, ?_⟩
    rw [hid (by omega), hbj, hbx, hxid]

end

end Sys2Proof.Machine
end

section
/-!
SUPPORT. The obligation on queries and commits: COMMIT and PUBLISH_DEADLINE (R52, R230-R233, R346).
-/
namespace Sys2Proof.Machine

/-! ## What a detection leaves of the frame -/

/-- The frame without the mark of a fault reaction (R399). -/
def Frame.unmarked (f : Frame) : Frame := { f with faultReaction := false }

theorem State.faultReport_unmarked (code stack cluster stream : Nat) (arg : List Byte) (s : State) :
    (s.faultReport code stack cluster stream arg).frame.unmarked = s.frame.unmarked := by
  simp only [State.faultReport, State.traceError_frame, State.logError_frame, State.deviceEvent_frame]
  split <;> rfl

theorem State.faultReact_frame (code : Nat) (s : State) : (s.faultReact code).frame = s.frame := by
  rw [State.faultReact_eq, State.ite_frame, State.modSafety_frame, ite_self, State.triggerDump_frame,
    State.foldl_keeps (·.frame) _ (State.faultLeave_frame code)]

theorem State.detectAll_unmarked (l : List Detection) (s : State) : (s.detectAll l).frame.unmarked = s.frame.unmarked := by
  unfold State.detectAll
  rw [State.foldl_keeps (·.frame.unmarked) _ (fun x (e : Detection) => congrArg Frame.unmarked (x.faultReact_frame e.code)),
    State.foldl_keeps (·.frame.unmarked) _
      (fun x (e : Detection) => x.faultReport_unmarked e.code e.stack e.cluster e.stream e.arg)]

/-- No session is RUNNING in `s'` that was not in `s`. -/
def State.startsNone (s s' : State) : Prop := ∀ j, (s'.ses j).state = 3 → (s.ses j).state = 3

theorem State.startsNone_of_cores {s s' : State} (h : s'.cores = s.cores) : s.startsNone s' := fun j hj =>
  (Session.core_fields (State.core_eq h j)).1.symm.trans hj

theorem State.startsNone_trans {a b c : State} (h : a.startsNone b) (h' : b.startsNone c) : a.startsNone c :=
  fun j hj => h j (h' j hj)

theorem State.faultLeave_startsNone (code : Nat) (s : State) (i : Nat) : s.startsNone (s.faultLeave code i) := by
  unfold State.faultLeave
  split
  · intro j hj
    have hcore := State.sesTo_core i 5 code s j
    split at hcore
    · exact absurd ((Session.core_fields hcore).1.symm.trans hj) (by simp)
    · exact (Session.core_fields hcore).1.symm.trans hj
  · exact fun _ => id

theorem State.detectAll_startsNone (l : List Detection) (s : State) : s.startsNone (s.detectAll l) := by
  have hreact (x : State) (code : Nat) : x.startsNone (x.faultReact code) := by
    have hleave := State.foldl_inv x.startsNone _ (fun y i hy => State.startsNone_trans hy (State.faultLeave_startsNone code y i))
      (List.range 16) x fun _ => id
    refine State.startsNone_trans hleave (State.startsNone_of_cores ?_)
    simp [State.faultReact_eq, State.cores_ite]
  refine State.foldl_inv s.startsNone (fun x (e : Detection) => x.faultReact e.code)
    (fun x e hx => State.startsNone_trans hx (hreact x e.code)) l _ (State.startsNone_of_cores ?_)
  exact State.foldl_keeps State.cores _
    (fun x (e : Detection) => State.faultReport_cores e.code e.stack e.cluster e.stream e.arg x) l s

/-! ## The record of a stream (R231, R345, R346) -/

/-- The parts of the state that a record's counters, its place in the ring and its faults leave as they are. -/
def State.beside (s : State) := (s.streams, s.frame.unmarked, s.worlds, s.images, s.hbm, s.part, s.time)

theorem State.streams_of_beside {a b : State} (h : a.beside = b.beside) : a.streams = b.streams := congrArg Prod.fst h

theorem State.detectAll_beside (l : List Detection) (s : State) : (s.detectAll l).beside = s.beside := by
  have honly := State.detectAll_onlyFault l s
  have hmark := s.detectAll_unmarked l
  have htime : (s.detectAll l).time = s.time := by
    unfold State.detectAll
    rw [State.foldl_keeps (·.time) _ (fun x (e : Detection) => by
        rw [State.faultReact_eq, State.ite_time, State.modSafety_time, ite_self, State.triggerDump_time, State.foldl_keeps (·.time) _ (fun x i => by
          unfold State.faultLeave; split <;> simp)]),
      State.foldl_time _ (fun x (e : Detection) => State.faultReport_time e.code e.stack e.cluster e.stream e.arg x)]
  generalize s.detectAll l = z at honly hmark htime
  unfold State.beside
  rw [hmark, htime, (congrArg State.streams honly :), (congrArg State.worlds honly :), (congrArg State.images honly :),
    (congrArg State.hbm honly :), (congrArg State.part honly :)]

theorem State.countRecord_beside (ses outcome : Nat) (refused : Bool) (s : State) :
    (s.countRecord ses outcome refused).beside = s.beside := by
  unfold State.countRecord
  exact ite_view rfl rfl

theorem State.resultPut_beside (ses stream seq : Nat) (bytes : List Byte) (s : State) :
    (s.resultPut ses stream seq bytes).beside = s.beside := by
  unfold State.resultPut
  split
  · rfl
  · split <;> simp [State.beside]

theorem State.countRecord_cores (ses outcome : Nat) (refused : Bool) (s : State) :
    (s.countRecord ses outcome refused).cores = s.cores := by
  unfold State.countRecord
  exact ite_view (by simp) (by simp)

theorem State.resultPut_cores (ses stream seq : Nat) (bytes : List Byte) (s : State) :
    (s.resultPut ses stream seq bytes).cores = s.cores := by
  unfold State.resultPut
  split
  · rfl
  · split <;> simp

/-- The bytes of the record that a stream commits. -/
def State.recordOf (s : State) (late : Bool) (x : Stream) : List Byte :=
  (s.recordParts x late ((x.recSeq + 1) % 2 ^ 32)).1 ++
    le 4 (sealOf (s.recordParts x late ((x.recSeq + 1) % 2 ^ 32))
      (s.complements x (s.recordParts x late ((x.recSeq + 1) % 2 ^ 32)).1 late)) ++
    (s.recordParts x late ((x.recSeq + 1) % 2 ^ 32)).2

/-- The stream behind its commit. -/
def State.committed (s : State) (late : Bool) (x : Stream) : Stream :=
  s.committedStream x late ((x.recSeq + 1) % 2 ^ 32) (s.recordOf late x)

/-- The state with the record and the stream's commit, before the counters, the ring and the faults. -/
def State.recorded (s : State) (late : Bool) (x : Stream) : State :=
  (s.modStream x.id fun _ => s.committed late x).modFrame fun f => { f with records := f.records ++ [(x.id, s.recordOf late x)] }

theorem State.commitStream_eq (late : Bool) (x0 : Stream) (s : State) : ∃ l : List Detection,
    s.commitStream late x0 = ((((s.recorded late (s.ageTest x0)).countRecord (s.ageTest x0).session ((s.ageTest x0).outcome late)
      (s.ageRefused (s.ageTest x0))).resultPut (s.ageTest x0).session (s.ageTest x0).id
        (((s.ageTest x0).recSeq + 1) % 2 ^ 32) (s.recordOf late (s.ageTest x0))).detectAll l) := ⟨_, rfl⟩

theorem State.commitStream_beside (late : Bool) (x0 : Stream) (s : State) :
    (s.commitStream late x0).beside = (s.recorded late (s.ageTest x0)).beside := by
  obtain ⟨l, h⟩ := s.commitStream_eq late x0
  rw [h, State.detectAll_beside, State.resultPut_beside, State.countRecord_beside]

theorem State.commitStream_startsNone (late : Bool) (x0 : Stream) (s : State) : s.startsNone (s.commitStream late x0) := by
  obtain ⟨l, h⟩ := s.commitStream_eq late x0
  rw [h]
  refine State.startsNone_trans (State.startsNone_of_cores ?_) (State.detectAll_startsNone l _)
  rw [State.resultPut_cores, State.countRecord_cores]
  rfl

/-- The age test leaves the stream's ID, session and record number. -/
theorem State.ageTest_fields (s : State) (x : Stream) :
    (s.ageTest x).id = x.id ∧ (s.ageTest x).session = x.session ∧ (s.ageTest x).recSeq = x.recSeq := by
  unfold State.ageTest
  split
  · exact ⟨rfl, rfl, rfl⟩
  · split <;> exact ⟨rfl, rfl, rfl⟩

/-- An entry past its age limit is not published (R230). -/
theorem State.published_expired {s : State} {x : Stream} (h : s.expiryOf x < s.ageTime) (late : Bool) :
    (s.committed late (s.ageTest x)).published = none := by
  have hagreed : (s.ageTest x).agreed = none := by
    unfold State.ageTest
    split
    · assumption
    · rw [if_pos h]
  have hwinner : (s.ageTest x).winner late = none := by
    unfold Stream.winner
    split
    · rw [hagreed, Option.bind_none]
    · rfl
  change ((s.ageTest x).winner late).map _ = none
  rw [hwinner, Option.map_none]

/-- The first of some appended lists. -/
theorem exists_append {α : Type} (a b c : List α) : (∃ r, a = c ++ r) → ∃ r, a ++ b = c ++ r
  | ⟨r, h⟩ => ⟨r ++ b, by rw [h, List.append_assoc]⟩

/-- A record's bytes begin with its magic, its length, its session and its stream. -/
theorem State.recordParts_head (s : State) (late : Bool) (x : Stream) (seq : Nat) : ∃ len r,
    (s.recordParts x late seq).1 = le 4 0x544C5352 ++ le 4 len ++ le 1 x.session ++ le 1 x.id ++ r := by
  refine ⟨256 + (s.recordParts x late seq).2.length, ?_⟩
  unfold State.recordParts
  dsimp only
  iterate 23 refine exists_append _ _ _ ?_
  exact ⟨[], (List.append_nil _).symm⟩

/-- A record begins with its magic, its length, its session and its stream. -/
theorem State.recordOf_head (s : State) (late : Bool) (x : Stream) : ∃ len r,
    s.recordOf late x = le 4 0x544C5352 ++ le 4 len ++ le 1 x.session ++ le 1 x.id ++ r := by
  obtain ⟨len, r, h⟩ := s.recordParts_head late x ((x.recSeq + 1) % 2 ^ 32)
  unfold State.recordOf
  rw [h]
  exact ⟨len, exists_append _ _ _ (exists_append _ _ _ ⟨r, rfl⟩)⟩

/-! ## Streams by their ID -/

theorem State.stream?_mem {s : State} {id : Nat} {x : Stream} (h : s.stream? id = some x) : x ∈ s.streams ∧ x.id = id :=
  ⟨List.mem_of_find?_eq_some h, by simpa using List.find?_some h⟩

theorem find?_map_id {g : Stream → Stream} (hg : ∀ x, (g x).id = x.id) (id : Nat) (l : List Stream) :
    (l.map g).find? (·.id == id) = (l.find? (·.id == id)).map g := by
  rw [List.find?_map]
  congr 2
  funext x
  exact congrArg (· == id) (hg x)

/-- A stream behind the commit of another, or of itself. -/
def Stream.become (y z : Stream) : Stream := if z.id = y.id then y else z

theorem Stream.become_id (y z : Stream) : (Stream.become y z).id = z.id := by
  unfold Stream.become
  split
  · next h => exact h.symm
  · rfl

theorem State.recorded_streams (late : Bool) (x : Stream) (s : State) :
    (s.recorded late x).streams = s.streams.map (Stream.become (s.committed late x)) := by
  unfold State.recorded
  rw [State.modFrame_streams, State.modStream_eq, State.modStreams_streams]
  rfl

theorem State.commitStream_streams (late : Bool) (x : Stream) (s : State) :
    (s.commitStream late x).streams = s.streams.map (Stream.become (s.committed late (s.ageTest x))) := by
  rw [← State.recorded_streams]
  exact State.streams_of_beside (s.commitStream_beside late x)

theorem State.committed_id (s : State) (late : Bool) (x : Stream) : (s.committed late (s.ageTest x)).id = x.id :=
  (s.ageTest_fields x).1

theorem State.commitStream_stream? (late : Bool) (x : Stream) (s : State) (id : Nat) :
    (s.commitStream late x).stream? id = (s.stream? id).map (Stream.become (s.committed late (s.ageTest x))) := by
  rw [State.stream?, State.commitStream_streams, find?_map_id (Stream.become_id _)]
  rfl

/-! ## COMMIT -/

/-- The parts of `s'` that a commit leaves as they are in `s`. -/
def State.contents (s s' : State) : Prop := s'.worlds = s.worlds ∧ s'.images = s.images ∧ s'.hbm = s.hbm ∧ s'.part = s.part

theorem State.contents_trans {a b c : State} (h : a.contents b) (h' : b.contents c) : a.contents c :=
  ⟨h'.1.trans h.1, h'.2.1.trans h.2.1, h'.2.2.1.trans h.2.2.1, h'.2.2.2.trans h.2.2.2⟩

theorem State.contents_of_beside {a b : State} (h : b.beside = a.beside) : a.contents b := by
  unfold State.beside at h
  simp only [Prod.mk.injEq] at h
  obtain ⟨-, -, hworlds, himages, hhbm, hpart, -⟩ := h
  exact ⟨hworlds, himages, hhbm, hpart⟩

theorem State.recorded_contents (s : State) (late : Bool) (x : Stream) : s.contents (s.recorded late x) := ⟨rfl, rfl, rfl, rfl⟩

theorem State.commitStream_contents (late : Bool) (x : Stream) (s : State) : s.contents (s.commitStream late x) :=
  State.contents_trans (State.recorded_contents ..) (State.contents_of_beside (State.commitStream_beside ..))

theorem State.unmarked_of_beside {a b : State} (h : a.beside = b.beside) : a.frame.unmarked = b.frame.unmarked :=
  congrArg (·.2.1) h

theorem State.records_of_beside {a b : State} (h : a.beside = b.beside) : a.frame.records = b.frame.records :=
  (congrArg Frame.records (State.unmarked_of_beside h) :)

theorem State.closed_of_beside {a b : State} (h : a.beside = b.beside) : a.frame.reverifyClosed = b.frame.reverifyClosed :=
  (congrArg Frame.reverifyClosed (State.unmarked_of_beside h) :)

theorem State.recorded_records (s : State) (late : Bool) (x : Stream) :
    (s.recorded late x).frame.records = s.frame.records ++ [(x.id, s.recordOf late x)] := rfl

theorem State.recorded_closed (s : State) (late : Bool) (x : Stream) :
    (s.recorded late x).frame.reverifyClosed = s.frame.reverifyClosed := rfl

theorem State.commitStream_records (late : Bool) (x : Stream) (s : State) : (s.commitStream late x).frame.records =
    s.frame.records ++ [(x.id, s.recordOf late (s.ageTest x))] := by
  have hrecords := State.records_of_beside (s.commitStream_beside late x)
  rw [State.recorded_records, (s.ageTest_fields x).1] at hrecords
  exact hrecords

section
variable {s : State} {id t : Nat} {x : Stream}

/-- COMMIT of a stream whose outcome is decided (R230, R231, R346). -/
theorem commit_records (hid : id < 512) (hphase : s.frame.phase = .afterHarvest) (hgrid : s.gridRuns = true)
    (hx : s.stream? id = some x) (hmay : s.mayCommit x = true) (hexact : s.frame.conf.exact = false) :
    ∃ s' y r, exec (.commit id t) s = .next s' ∧ s'.stream? id = some y ∧ y.committed = true ∧
      y.recSeq = (x.recSeq + 1) % 2 ^ 32 ∧ y.lastRecord = r ∧ s'.frame.records = s.frame.records ++ [(id, r)] ∧
      r.take 4 = le 4 0x544C5352 ∧ slice r 8 2 = le 1 x.session ++ le 1 x.id ∧
      (s.expiryOf x < max s.time.now t → y.published = none) ∧
      (∀ z ∈ s'.streams, z.id ≠ id → z ∈ s.streams) ∧
      s'.worlds = s.worlds ∧ s'.images = s.images ∧ s'.hbm = s.hbm ∧ s'.part = s.part := by
  have hrow := (exec_commit id t s).trans (ranAt_pos (by simpa [streamOk, below] using hid) ..)
  have hx' : (s.at t).stream? id = some x := hx
  have hcond : ((s.at t).harvesting && (s.at t).mayCommit x) = true := by
    have hmay' : (s.at t).mayCommit x = true := hmay
    have hharvest : (s.at t).harvesting = true := by
      have hgrid' : (s.at t).gridRuns = true := hgrid
      have hphase' : (s.at t).frame.phase = .afterHarvest := hphase
      rw [State.harvesting, hgrid', hphase']
      rfl
    rw [hmay', hharvest]
    rfl
  have heq : State.commit id (s.at t) = (s.at t).commitStream false x := by
    unfold State.commit
    rw [hx']
    exact State.when_pos hcond _ _
  rw [heq] at hrow
  obtain ⟨-, hsession, hseq⟩ := (s.at t).ageTest_fields x
  have hxid := (State.stream?_mem hx).2
  have hstream := (s.at t).commitStream_stream? false x id
  rw [hx', Option.map_some, Stream.become, if_pos ((s.at t).committed_id false x).symm] at hstream
  have hstreams := (s.at t).commitStream_streams false x
  have hrecords := (s.at t).commitStream_records false x
  have hcontents := (s.at t).commitStream_contents false x
  have hage : s.expiryOf x < max s.time.now t → ((s.at t).committed false ((s.at t).ageTest x)).published = none := fun h => by
    have hexact' : (s.at t).frame.conf.exact = false := hexact
    refine State.published_expired ?_ false
    rw [State.ageTime, hexact']
    exact h
  obtain ⟨len, r, hhead⟩ := (s.at t).recordOf_head false ((s.at t).ageTest x)
  rw [hsession, ((s.at t).ageTest_fields x).1] at hhead
  generalize (s.at t).commitStream false x = z at hrow hstream hstreams hrecords hcontents
  refine ⟨_, _, (s.at t).recordOf false ((s.at t).ageTest x), hrow, hstream, rfl, congrArg (fun n => (n + 1) % 2 ^ 32) hseq, rfl, hxid ▸ hrecords, ?_, ?_, hage, ?_,
    hcontents⟩
  · rw [hhead]
    rfl
  · rw [hhead]
    rfl
  · intro y hy hne
    change y ∈ z.streams at hy
    rw [hstreams] at hy
    obtain ⟨u, hu, rfl⟩ := List.mem_map.mp hy
    rw [Stream.become_id] at hne
    rw [Stream.become, if_neg fun h => hne (h.trans (((s.at t).committed_id false x).trans hxid))]
    exact hu

end

/-! ## PUBLISH_DEADLINE (R52) -/

/-- Each publishing stream with one of the IDs has its record. -/
def State.recordsOf (ids : List Nat) (s : State) : Prop :=
  ∀ id ∈ ids, ∀ x, s.stream? id = some x → s.publishes x = true → x.committed = true

/-- A stream that publishes where fewer sessions are RUNNING publishes where more are. -/
theorem State.publishes_of_startsNone {s s' : State} (h : s.startsNone s') {x : Stream} (hx : s'.publishes x = true) :
    s.publishes x = true := by
  unfold State.publishes State.works at hx ⊢
  simp only [Bool.and_eq_true, Bool.or_eq_true, beq_iff_eq] at hx ⊢
  obtain ⟨⟨hquery, hruns⟩, hguest⟩ := hx
  exact ⟨⟨hquery, hruns.imp_right (h _)⟩, hguest⟩

theorem State.commitLate_records {ids : List Nat} {s : State} (h : s.recordsOf ids) (id : Nat) :
    (s.commitLate id).recordsOf (id :: ids) := by
  have hstay : (∀ x, s.stream? id = some x → s.publishes x = true → x.committed = true) → s.recordsOf (id :: ids) := fun hown j hj => by
    rcases List.mem_cons.mp hj with rfl | hj
    · exact hown
    · exact h j hj
  unfold State.commitLate
  split
  · next hnone => exact hstay fun x hx => absurd (hnone.symm.trans hx) (by simp)
  · next x hx =>
    by_cases hc : (s.publishes x && !x.committed) = true
    · rw [State.when_pos hc]
      intro j hj y hy hpub
      rw [State.commitStream_stream?, Option.map_eq_some_iff] at hy
      obtain ⟨z, hz, rfl⟩ := hy
      unfold Stream.become at hpub ⊢
      split at hpub
      · next heq => rw [if_pos heq]; rfl
      · next hne =>
        rw [if_neg hne]
        rw [State.committed_id, (State.stream?_mem hx).2] at hne
        have hj' : j ∈ ids := (List.mem_cons.mp hj).resolve_left fun h => hne (h ▸ (State.stream?_mem hz).2)
        exact h j hj' z hz (State.publishes_of_startsNone (s.commitStream_startsNone true x) hpub)
    · rw [State.when_neg (Bool.eq_false_iff.mpr hc)]
      refine hstay fun y hy hpub => ?_
      obtain rfl : x = y := Option.some.inj (hx.symm.trans hy)
      rw [hpub, Bool.true_and, Bool.not_eq_true', Bool.not_eq_false] at hc
      exact hc

theorem State.foldl_commitLate_records : ∀ (l ids : List Nat) (s : State), s.recordsOf ids →
    (l.foldl State.commitLate s).recordsOf (l ++ ids)
  | [], _, _, h => h
  | id :: l, ids, s, h => by
    intro j hj
    refine State.foldl_commitLate_records l (id :: ids) _ (State.commitLate_records h id) j ?_
    simp only [List.mem_append, List.mem_cons, List.cons_append] at hj ⊢
    tauto

/-- What late commits leave: the streams' IDs, the closed re-verify and the contents. -/
def State.lateKept (s : State) := (s.streams.map (·.id), s.frame.reverifyClosed, s.worlds, s.images, s.hbm, s.part)

theorem State.commitLate_lateKept (s : State) (id : Nat) : (s.commitLate id).lateKept = s.lateKept := by
  have hcommit (x : Stream) : (s.commitStream true x).lateKept = s.lateKept := by
    have hids : (s.commitStream true x).streams.map (·.id) = s.streams.map (·.id) := by
      rw [State.commitStream_streams, List.map_map]
      exact congrArg (s.streams.map ·) (funext (Stream.become_id _))
    have hclosed : (s.commitStream true x).frame.reverifyClosed = s.frame.reverifyClosed :=
      (State.closed_of_beside (s.commitStream_beside true x)).trans (State.recorded_closed ..)
    obtain ⟨hworlds, himages, hhbm, hpart⟩ := s.commitStream_contents true x
    unfold State.lateKept
    rw [hids, hclosed, hworlds, himages, hhbm, hpart]
  unfold State.commitLate
  split
  · rfl
  · unfold State.when_
    split
    · exact hcommit _
    · rfl

/-- A stream as the released shortlists leave it. -/
def Stream.released (device : Option (List Entry)) (x : Stream) : Stream :=
  { x with device := device, treeNodes := [], agreed := none }

theorem State.releaseLists_stream? (device : Option (List Entry)) (s : State) (id : Nat) :
    (s.releaseLists device).stream? id = (s.stream? id).map (Stream.released device) :=
  find?_map_id (g := Stream.released device) (fun _ => rfl) id s.streams

theorem State.withdraw_contents (op : TaskOp) (stream : Nat) (s : State) : s.contents (s.withdraw op stream) := ⟨rfl, rfl, rfl, rfl⟩

/-- The re-verify cutoff leaves the contents. -/
theorem State.reverifyCutoff_contents (s : State) : s.contents s.reverifyCutoff := by
  unfold State.reverifyCutoff State.when_
  split
  · have hfold := State.foldl_inv s.contents
      (fun x id => (x.withdraw .stop (x.wireId id)).withdraw .reverify (x.wireId id))
      (fun x id hx => State.contents_trans (State.contents_trans hx (x.withdraw_contents ..)) (State.withdraw_contents ..))
      (s.streams.map (·.id)) s ⟨rfl, rfl, rfl, rfl⟩
    dsimp only
    generalize (s.streams.map (·.id)).foldl _ s = z at hfold ⊢
    exact hfold
  · exact ⟨rfl, rfl, rfl, rfl⟩

theorem State.reverifyCutoff_closed {s : State}
    (h : (s.harvesting && !s.frame.conf.exact && !s.frame.reverifyClosed && decide (s.partAt 86 ≤ s.time.now)) = true) :
    s.reverifyCutoff.frame.reverifyClosed = true := by
  unfold State.reverifyCutoff
  rw [State.when_pos h]
  rfl

section
variable {s : State} {t : Nat}

/-- PUBLISH_DEADLINE of Throughput mode leaves no publishing stream without its record (R52). -/
theorem publishDeadline_records (hphase : s.frame.phase = .afterHarvest) (hgrid : s.gridRuns = true)
    (hexact : s.frame.conf.exact = false)
    (htime : s.frame.openTime + 88 * s.frame.conf.period / 100 * ticksPerUs ≤ max s.time.now t) :
    ∃ s', exec (.publishDeadline t) s = .next s' ∧
      (∀ id x, s'.stream? id = some x → s'.publishes x = true → x.committed = true) ∧
      s'.frame.reverifyClosed = true ∧ s'.worlds = s.worlds ∧ s'.images = s.images ∧ s'.hbm = s.hbm ∧ s'.part = s.part := by
  have hrow := (exec_publishDeadline t s).trans (ranAt_pos rfl ..)
  have hharvest : (s.at t).harvesting = true := by
    have hgrid' : (s.at t).gridRuns = true := hgrid
    have hphase' : (s.at t).frame.phase = .afterHarvest := hphase
    rw [State.harvesting, hgrid', hphase']
    rfl
  have hexact' : (s.at t).frame.conf.exact = false := hexact
  have hlate : (s.at t).partAt 88 ≤ (s.at t).time.now := htime
  have hsooner : (s.at t).partAt 86 ≤ (s.at t).time.now := by
    refine le_trans ?_ hlate
    unfold State.partAt FrameConf.part
    exact Nat.add_le_add_left (Nat.mul_le_mul_right _ (Nat.div_le_div_right (Nat.mul_le_mul_right _ (by decide)))) _
  obtain ⟨y, hy, hclosed, hcontents⟩ : ∃ y : State, (if (s.at t).frame.reverifyClosed then s.at t else (s.at t).reverifyCutoff) = y ∧
      y.frame.reverifyClosed = true ∧ s.contents y := by
    refine ⟨_, rfl, ?_⟩
    split
    · next h => exact ⟨h, rfl, rfl, rfl, rfl⟩
    · next h =>
      refine ⟨State.reverifyCutoff_closed ?_, State.reverifyCutoff_contents _⟩
      rw [hharvest, hexact', Bool.eq_false_iff.mpr h, decide_eq_true hsooner]
      rfl
  have heq : State.publishDeadline (s.at t) = ((y.streams.map (·.id)).foldl State.commitLate y).releaseLists (some []) := by
    unfold State.publishDeadline
    rw [State.when_pos (by rw [hharvest, hexact', decide_eq_true hlate]; rfl)]
    dsimp only
    rw [hy]
  rw [heq] at hrow
  have hdone := State.foldl_commitLate_records (y.streams.map (·.id)) [] y (fun _ h => absurd h List.not_mem_nil)
  have hkept := State.foldl_keeps State.lateKept State.commitLate State.commitLate_lateKept (y.streams.map (·.id)) y
  rw [List.append_nil] at hdone
  generalize (y.streams.map (·.id)).foldl State.commitLate y = z at hrow hdone hkept
  unfold State.lateKept at hkept
  simp only [Prod.mk.injEq] at hkept
  obtain ⟨hids, hclosed', hworlds, himages, hhbm, hpart⟩ := hkept
  refine ⟨_, hrow, fun id x hx hpub => ?_, hclosed'.trans hclosed, State.contents_trans hcontents ⟨hworlds, himages, hhbm, hpart⟩⟩
  change (z.releaseLists (some [])).stream? id = some x at hx
  rw [State.releaseLists_stream?, Option.map_eq_some_iff] at hx
  obtain ⟨u, hu, rfl⟩ := hx
  obtain ⟨hmem, hid⟩ := State.stream?_mem hu
  exact hdone id (hids ▸ List.mem_map.mpr ⟨u, hmem, hid⟩) u hu hpub

end

/-- Settles O19. -/
theorem queriesAndCommits : Obligations.QueriesAndCommits := by
  unfold Obligations.QueriesAndCommits
  refine ⟨fun s fn slot t c n len recs hslot h hdue hlow hhigh hpay hn hzero hpos hmax hlen hbytes hdescs hrecs hgood => ?_,
    fun s t => ⟨fun id x => commit_records, publishDeadline_records⟩⟩
  subst hlen
  exact querySubmit_enters hslot h hdue rfl hlow hhigh hpay hn hzero hpos hmax rfl hbytes hdescs hrecs hgood

end Sys2Proof.Machine
end

section
/-!
SUPPORT. The obligation on brine at arrival and reads of a world (R106, R107, R276, R339).
-/
namespace Sys2Proof.Machine

/-! ## Arrival of brine from a host -/

/-- Capture writes what is recorded alone. -/
theorem State.captureBrine_det (k w : Nat) (c : Cmd) (s : State) : { s.captureBrine k w c with det := s.det } = s := by
  unfold State.captureBrine
  split
  · apply State.ext_parts <;> simp
  · dsimp only
    split
    · apply State.ext_parts <;> simp
    · apply State.ext_parts <;> simp

theorem State.captureBrine_keeps {α : Type} (k w : Nat) (c : Cmd) (s : State) {v : State → α}
    (hv : ∀ x d, v { x with det := d } = v x) : v (s.captureBrine k w c) = v s :=
  (hv _ s.det).symm.trans (congrArg v (s.captureBrine_det k w c))

/-- A brine command's landing space is given back (R276). -/
theorem State.freeLanding_brine {c : Cmd} (h : c.opcode = 0x0401 ∨ c.opcode = 0x0402) (s : State) :
    s.freeLanding c = s.modWorlds fun y => { y with landingUsed := y.landingUsed - c.fetchBytes } := if_pos h

/-- A refusal at arrival, with its capture entry and the landing space given back (R276). -/
def State.brineNo (urgent : Bool) (c : Cmd) (st arg : Nat) (s : State) : State :=
  ((s.captureBrine (if urgent then 3 else 2) 0 c).refuse c st arg).freeLanding c

section
variable {s : State} {fn slot t : Nat} {c : Cmd} {urgent : Bool} {rs : List (List Byte)}

/-- The row of a brine command that is ready. -/
theorem brineRow (hslot : isSlot fn slot) (h : s.isReady (if urgent then 0x0402 else 0x0401) fn slot c) :
    exec (if urgent then .brineUrgent fn slot t else .brine fn slot t) s =
      .next { (s.at t).brineArrival urgent c (c.passes urgent) with pending := s.pending } := by
  cases urgent
  · refine (exec_brine fn slot t s).trans ?_
    rw [ranAt_pos (slotOk_of fn slot hslot), runCmd_ready (op := 0x0401) (State.isReady_at h t) bodyBrine _ rfl]
    rfl
  · refine (exec_brineUrgent fn slot t s).trans ?_
    rw [ranAt_pos (slotOk_of fn slot hslot), runCmd_ready (op := 0x0402) (State.isReady_at h t) bodyBrineUrgent _ rfl]
    rfl

/-- What a refusal at arrival answers and leaves. -/
theorem brineNo_answers (h : s.isReady (if urgent then 0x0402 else 0x0401) fn slot c) (st arg : Nat) {z : State}
    (hz : z = { (s.at t).brineNo urgent c st arg with pending := s.pending }) :
    z.reply? fn slot = some (refusal st arg) ∧
      z.worlds = { s.worlds with landingUsed := s.worlds.landingUsed - c.fetchBytes } ∧
      { z with time := s.time, det := s.det, mbx := { z.mbx with cmds := s.mbx.cmds }, worlds := s.worlds } = s := by
  subst hz
  obtain ⟨hcmd, hop, -, hopen, -⟩ := h
  have hop' : c.opcode = 0x0401 ∨ c.opcode = 0x0402 := by
    cases urgent
    · exact .inl hop
    · exact .inr hop
  have hmbx : ((s.at t).captureBrine (if urgent then 3 else 2) 0 c).mbx = s.mbx := State.captureBrine_keeps _ _ _ _ fun _ _ => rfl
  have hrest := (s.at t).captureBrine_det (if urgent then 3 else 2) 0 c
  unfold State.brineNo
  rw [State.freeLanding_brine hop']
  generalize (s.at t).captureBrine (if urgent then 3 else 2) 0 c = y at hmbx hrest
  refine ⟨State.reply?_refuse hmbx hcmd hopen st arg, ?_, ?_⟩
  · have hworlds : y.worlds = s.worlds := (congrArg State.worlds hrest :)
    rw [← hworlds]
    rfl
  · exact congrArg (fun x : State => { x with time := s.time, det := s.det, mbx := { x.mbx with cmds := s.mbx.cmds }, worlds := s.worlds, pending := s.pending }) hrest

section
variable (hlen : 8 ≤ c.payload.length) (hdescs : c.descs ≠ [] → c.payload.length = 8) (hz : allZero (slice c.payload 1 7) = true)
  (hworld : c.world ≤ 3) (hproxy : s.isProxy c.world = false) (f : List (List Byte) → State → State)
include hlen hdescs hz hworld hproxy

/-- The checks of the command's shape, its world and its home pass. -/
theorem State.brineArrival_shaped : s.brineArrival urgent c f =
    if !(s.wd c.world).loaded then s.brineNo urgent c 0x0207 0
    else match c.recordList with
      | .inl i => s.brineNo urgent c 0x0104 i
      | .inr rs =>
        if rs.isEmpty then s.brineNo urgent c 0x0104 0
        else if urgent ∧ rs.length > 16 then s.brineNo urgent c 0x0104 16
        else match (List.range rs.length).findSome? fun i =>
            (recordBad urgent c.world (s.wd c.world) (rs.getD i [])).map fun st => (st, i) with
          | some (st, i) => s.brineNo urgent c st i
          | none => f rs s := by
  unfold State.brineArrival
  rw [if_neg (by
    rintro (hshort | ⟨hd, hne⟩)
    · omega
    · exact hne (hdescs fun hnil => by simp [hnil] at hd)), if_neg (by simp [hz]), if_neg (by omega), if_neg (by simp [hproxy])] <;> rfl

theorem State.brineArrival_notLoaded (hw : (s.wd c.world).loaded = false) :
    s.brineArrival urgent c f = s.brineNo urgent c 0x0207 0 := by
  rw [State.brineArrival_shaped hlen hdescs hz hworld hproxy, if_pos (by simp [hw])]

/-- The checks of the records. -/
theorem State.brineArrival_checks (hw : (s.wd c.world).loaded = true) (hrec : c.recordList = .inr rs) (hne : rs ≠ [])
    (hshort : urgent = true → rs.length ≤ 16) : s.brineArrival urgent c f =
      match (List.range rs.length).findSome? fun i =>
          (recordBad urgent c.world (s.wd c.world) (rs.getD i [])).map fun st => (st, i) with
        | some (st, i) => s.brineNo urgent c st i
        | none => f rs s := by
  rw [State.brineArrival_shaped hlen hdescs hz hworld hproxy, if_neg (by simp [hw]), hrec]
  dsimp only
  rw [if_neg (by simpa using hne), if_neg fun hlong => absurd (hshort hlong.1) (by omega)]

end

/-- A search over the records that stays within them, by the records. -/
theorem State.at_recordBad (s : State) (t : Nat) (rs : List (List Byte)) : (List.range rs.length).findSome? (fun i =>
    (recordBad urgent c.world ((s.at t).wd c.world) (rs.getD i [])).map fun st => (st, i)) =
      (List.range rs.length).findSome? fun i => (recordBad urgent c.world (s.wd c.world) (rs.getD i [])).map fun st => (st, i) := rfl

/-- The waiting command stands in its slot, with its frame. -/
theorem waits_in {g : Cmd → Cmd} (h : s.cmd? fn slot = some c) (hopen : c.response = none)
    (hg : ∀ x, (g x).fn = x.fn ∧ (g x).slot = x.slot ∧ (g x).stage = .waiting ∧ (g x).response = x.response) :
    (s.modCmd c.fn c.slot g).waitsAt fn slot ∧ ∀ c', (s.modCmd c.fn c.slot g).cmd? fn slot = some c' → c' = g c := by
  obtain ⟨rfl, rfl⟩ := State.cmd?_slot h
  have hcmd : (s.modCmd c.fn c.slot g).cmd? c.fn c.slot = some (g c) := by
    rw [State.cmd?_modCmd _ _ _ _ (fun x => ⟨(hg x).1, (hg x).2.1⟩), h, Option.map_some]
  exact ⟨⟨_, hcmd, (hg c).2.2.1, (hg c).2.2.2.trans hopen⟩, fun c' hc' => (Option.some.inj (hcmd.symm.trans hc')).symm⟩

section
variable (hslot : isSlot fn slot) (h : s.isReady (if urgent then 0x0402 else 0x0401) fn slot c) (hlen : 8 ≤ c.payload.length)
  (hdescs : c.descs ≠ [] → c.payload.length = 8) (hz : allZero (slice c.payload 1 7) = true) (hworld : c.world ≤ 3)
  (hproxy : s.isProxy c.world = false)
include hslot h hlen hdescs hz hworld hproxy

/-- Brine for a world that is not loaded is refused (R107). -/
theorem brine_notLoaded (hw : (s.wd c.world).loaded = false) :
    ∃ s', exec (if urgent then .brineUrgent fn slot t else .brine fn slot t) s = .next s' ∧
      s'.reply? fn slot = some (refusal 0x0207) ∧
      s'.worlds = { s.worlds with landingUsed := s.worlds.landingUsed - c.fetchBytes } ∧
      { s' with time := s.time, det := s.det, mbx := { s'.mbx with cmds := s.mbx.cmds }, worlds := s.worlds } = s := by
  have hrow := brineRow (t := t) hslot h
  rw [State.brineArrival_notLoaded (s := s.at t) hlen hdescs hz hworld hproxy _ hw] at hrow
  exact ⟨_, hrow, brineNo_answers h 0x0207 0 rfl⟩

/-- Brine for a loaded world: the first record that fails a check refuses it, a target too far ahead too, else it waits. -/
theorem brine_checked (hw : (s.wd c.world).loaded = true) (hrec : c.recordList = .inr rs) (hne : rs ≠ [])
    (hshort : urgent = true → rs.length ≤ 16) :
    ∃ s', exec (if urgent then .brineUrgent fn slot t else .brine fn slot t) s = .next s' ∧
      (∀ st i, (List.range rs.length).findSome? (fun i =>
          (recordBad urgent c.world (s.wd c.world) (rs.getD i [])).map fun st => (st, i)) = some (st, i) →
        s'.reply? fn slot = some (refusal st i) ∧
        s'.worlds = { s.worlds with landingUsed := s.worlds.landingUsed - c.fetchBytes } ∧
        { s' with time := s.time, det := s.det, mbx := { s'.mbx with cmds := s.mbx.cmds }, worlds := s.worlds } = s) ∧
      ((List.range rs.length).findSome? (fun i =>
          (recordBad urgent c.world (s.wd c.world) (rs.getD i [])).map fun st => (st, i)) = none →
        (urgent = true → s'.waitsAt fn slot ∧ { s' with time := s.time, mbx := { s'.mbx with cmds := s.mbx.cmds } } = s) ∧
        (urgent = false → (∀ r ∈ rs, (recFrame r - c.frame).toInt ≤ 16) → s'.waitsAt fn slot ∧
          (∀ c', s'.cmd? fn slot = some c' → c'.frame = (rs.map recFrame).foldl laterOf c.frame) ∧
          { s' with time := s.time, mbx := { s'.mbx with cmds := s.mbx.cmds } } = s) ∧
        (urgent = false → ∀ i, rs.findIdx? (fun r => decide ((recFrame r - c.frame).toInt > 16)) = some i →
          s'.reply? fn slot = some (refusal 0x0108 i) ∧
          s'.worlds = { s.worlds with landingUsed := s.worlds.landingUsed - c.fetchBytes } ∧
          { s' with time := s.time, det := s.det, mbx := { s'.mbx with cmds := s.mbx.cmds }, worlds := s.worlds } = s)) := by
  have hrow := brineRow (t := t) hslot h
  rw [State.brineArrival_checks (s := s.at t) hlen hdescs hz hworld hproxy _ hw hrec hne hshort, State.at_recordBad] at hrow
  cases hfind : (List.range rs.length).findSome? fun i =>
      (recordBad urgent c.world (s.wd c.world) (rs.getD i [])).map fun st => (st, i) with
  | some p =>
    rw [hfind] at hrow
    refine ⟨_, hrow, fun st i heq => ?_, fun hnone => absurd hnone (Option.some_ne_none _)⟩
    obtain rfl : p = (st, i) := Option.some.inj heq
    exact brineNo_answers h st i rfl
  | none =>
    rw [hfind] at hrow
    refine ⟨_, hrow, fun st i heq => absurd heq.symm (Option.some_ne_none _), fun _ => ?_⟩
    cases urgent with
    | true =>
      have hwaits := waits_in (s := s.at t) (g := fun c => { c with stage := .waiting }) h.1 h.2.2.2.1 fun _ => ⟨rfl, rfl, rfl, rfl⟩
      exact ⟨fun _ => ⟨hwaits.1, rfl⟩, fun hf => absurd hf.symm Bool.false_ne_true, fun hf => absurd hf.symm Bool.false_ne_true⟩
    | false =>
      refine ⟨fun hf => absurd hf Bool.false_ne_true, fun _ hnear => ?_, fun _ i hi => ?_⟩
      · have hidx : rs.findIdx? (fun r => decide ((recFrame r - c.frame).toInt > 16)) = none :=
          List.findIdx?_eq_none_iff.mpr fun r hr => decide_eq_false (by have := hnear r hr; omega)
        have hwaits := waits_in (s := s.at t)
          (g := fun c => { c with stage := .waiting, frame := (rs.map recFrame).foldl laterOf c.frame }) h.1 h.2.2.2.1
          fun _ => ⟨rfl, rfl, rfl, rfl⟩
        have hpass : c.passes false rs (s.at t) = (s.at t).modCmd c.fn c.slot fun c =>
            { c with stage := .waiting, frame := (rs.map recFrame).foldl laterOf c.frame } := by
          rw [Cmd.passes, if_neg Bool.false_ne_true, hidx]
        dsimp only
        rw [hpass]
        exact ⟨hwaits.1, fun c' hc' => congrArg Cmd.frame (hwaits.2 c' hc'), rfl⟩
      · have hpass : c.passes false rs (s.at t) = (s.at t).brineNo false c 0x0108 i := by
          rw [Cmd.passes, if_neg Bool.false_ne_true, hi]
          rfl
        dsimp only
        rw [hpass]
        exact brineNo_answers (urgent := false) h 0x0108 i rfl

end
end

/-! ## WORLD_STATUS and PAN_READ (R339) -/

section
variable {s : State} {fn slot t : Nat} {c : Cmd}

/-- A command that is taken changes the time and what is recorded alone. -/
theorem State.taken_keeps {α : Type} (s : State) (t : Nat) (c : Cmd) {v : State → α}
    (hv : ∀ x y d, v { x with time := y, det := d } = v x) : v (s.taken t c) = v s := by
  have hrest : { s.taken t c with time := s.time, det := s.det } = s := by apply State.ext_parts <;> simp
  exact (hv _ s.time s.det).symm.trans (congrArg v hrest)

theorem State.worldStatus_length (s : State) (w : Nat) : (s.worldStatus w).length = 40 := by
  simp [State.worldStatus, le_length]

/-- The fields of a WORLD_STATUS answer, by their places. -/
theorem worldStatus_slices (a b c d e f g : Nat) (r : List Byte) :
    let p := le 8 a ++ le 4 b ++ le 4 c ++ le 4 d ++ le 2 e ++ le 2 f ++ le 2 g ++ r
    slice p 0 8 = le 8 a ∧ slice p 8 4 = le 4 b ∧ slice p 12 4 = le 4 c ∧ slice p 16 4 = le 4 d ∧ slice p 24 2 = le 2 g :=
  ⟨rfl, rfl, rfl, rfl, rfl⟩

theorem State.worldStatus_fields (s : State) (w : Nat) :
    slice (s.worldStatus w) 0 8 = le 8 (s.wd w).worldTime ∧ slice (s.worldStatus w) 8 4 = le 4 (s.wd w).lastSeq ∧
      slice (s.worldStatus w) 12 4 = le 4 (s.wd w).urgentSeq ∧ slice (s.worldStatus w) 16 4 = le 4 s.freeHandles ∧
      slice (s.worldStatus w) 24 2 = le 2 ((s.wd w).movers.filter (·.isSome)).length := by
  have hsplit : ∃ e f r, s.worldStatus w = le 8 (s.wd w).worldTime ++ le 4 (s.wd w).lastSeq ++ le 4 (s.wd w).urgentSeq ++
      le 4 s.freeHandles ++ le 2 e ++ le 2 f ++ le 2 ((s.wd w).movers.filter (·.isSome)).length ++ r := by
    refine ⟨fineMapCount - sumN (s.fineUsed.map (·.2)), sliceCount - sumN (s.sliceUsed.map (·.2)), ?_⟩
    unfold State.worldStatus
    dsimp only
    iterate 3 refine exists_append _ _ _ ?_
    exact ⟨[], (List.append_nil _).symm⟩
  obtain ⟨e, f, r, h⟩ := hsplit
  rw [h]
  exact worldStatus_slices ..

theorem worldStatus_answers (hslot : isSlot fn slot) (hworld : c.world ≤ 3) (h : s.isReady 0x0403 fn slot c)
    (hlen : c.payload.length = 8) (hz : allZero (slice c.payload 1 7) = true) :
    ∃ s', exec (.worldStatus fn slot t) s = .next s' ∧ s.onlyAnswered s' ∧
      ((s.wd c.world).loaded = false → s'.reply? fn slot = some (refusal 0x0207)) ∧
      ((s.wd c.world).loaded = true → ∃ p, s'.reply? fn slot = some (okReply p) ∧ p.length = 40 ∧
        slice p 0 8 = le 8 (s.wd c.world).worldTime ∧ slice p 8 4 = le 4 (s.wd c.world).lastSeq ∧
        slice p 12 4 = le 4 (s.wd c.world).urgentSeq ∧ slice p 16 4 = le 4 s.freeHandles ∧
        slice p 24 2 = le 2 ((s.wd c.world).movers.filter (·.isSome)).length) := by
  have hrow := (exec_worldStatus fn slot t s).trans (execTaken hslot h t _)
  have hbody : bodyWorldStatus c (s.taken t c) = (s.taken t c).need c (s.wd c.world).loaded 0x0207 fun x =>
      x.accept c (s.worldStatus c.world) := by
    have hstatus : (s.taken t c).worldStatus c.world = s.worldStatus c.world :=
      s.taken_keeps t c (v := fun x => x.worldStatus c.world) fun _ _ _ => rfl
    have hwd : (s.taken t c).wd c.world = s.wd c.world := s.taken_keeps t c (v := fun x => x.wd c.world) fun _ _ _ => rfl
    unfold bodyWorldStatus
    rw [State.shape_pos hlen (by simpa using hz)]
    rw [State.need_pos (decide_eq_true hworld), hwd]
    unfold State.need
    dsimp only
    rw [hstatus]
  rw [hbody] at hrow
  cases hload : (s.wd c.world).loaded with
  | false =>
    rw [hload, State.need_neg rfl] at hrow
    exact ⟨_, hrow, State.onlyAnswered_refuse .., fun _ => State.refused h (by simp) _ _ _, fun hf => absurd hf Bool.false_ne_true⟩
  | true =>
    rw [hload, State.need_pos rfl] at hrow
    refine ⟨_, hrow, State.onlyAnswered_accept .., fun hf => absurd hf.symm Bool.false_ne_true, fun _ =>
      ⟨_, State.answered h (by simp) _ _, State.worldStatus_length .., State.worldStatus_fields ..⟩⟩

section
variable (hslot : isSlot fn slot) (hworld : c.world ≤ 3) (h : s.isReady 0x0404 fn slot c) (hlen : c.payload.length = 24)
  (hz : allZero (slice c.payload 1 7) = true) (hz1 : allZero (slice c.payload 11 1) = true)
  (hz2 : allZero (slice c.payload 20 4) = true) (haddr : addrOk c.payload 8 = true)
include hslot hworld h hlen hz hz1 hz2 haddr

omit hslot h in
theorem bodyPanRead_shaped : bodyPanRead c (s.taken t c) = (s.taken t c).need c (s.wd c.world).loaded 0x0207 fun x =>
    match s.panAt c.world (addrAt c.payload 8) with
    | none => x.refuse c 0x0207
    | some h => x.deliverCounted c (s.panHeader h ++ s.panPayload h) := by
  have hwd : (s.taken t c).wd c.world = s.wd c.world := s.taken_keeps t c (v := fun x => x.wd c.world) fun _ _ _ => rfl
  have hpan : (s.taken t c).panAt c.world (addrAt c.payload 8) = s.panAt c.world (addrAt c.payload 8) :=
    s.taken_keeps t c (v := fun x => x.panAt c.world (addrAt c.payload 8)) fun _ _ _ => rfl
  have hbytes (k : Nat) : (s.taken t c).panHeader k ++ (s.taken t c).panPayload k = s.panHeader k ++ s.panPayload k :=
    s.taken_keeps t c (v := fun x => x.panHeader k ++ x.panPayload k) fun _ _ _ => rfl
  unfold bodyPanRead
  rw [State.shape_pos hlen (by simp [hz, hz1, hz2])]
  rw [State.need_pos (by rw [decide_eq_true hworld, haddr]; rfl), hwd]
  unfold State.need
  dsimp only
  rw [hpan]
  simp only [hbytes] <;> rfl

theorem panRead_delivers {k a len : Nat} (hw : (s.wd c.world).loaded = true)
    (hpan : s.panAt c.world (addrAt c.payload 8) = some k) (hdma : s.dmaOk fn = true)
    (hd : c.descs = [{ addr := a, len := len, write := true }]) (hfit : (s.panHeader k ++ s.panPayload k).length ≤ len) :
    ∃ s', exec (.panRead fn slot t) s = .next s' ∧
      s'.reply? fn slot = some (okReply (le 4 (s.panHeader k ++ s.panPayload k).length)) ∧
      s'.host = Mem.writeBytes a (s.panHeader k ++ s.panPayload k) s.host ∧ s.onlyDelivered s' c := by
  obtain ⟨hfn, -⟩ := State.cmd?_slot h.1
  have hrow := (exec_panRead fn slot t s).trans (execTaken hslot h t _)
  have hbody := bodyPanRead_shaped (s := s) (t := t) hworld hlen hz hz1 hz2 haddr
  rw [State.need_pos hw, hpan] at hbody
  dsimp only at hbody
  generalize s.panHeader k ++ s.panPayload k = bs at hbody hfit ⊢
  have hfits : (s.taken t c).deliverCounted c bs = ((s.taken t c).output c bs).accept c (le 4 bs.length) :=
    State.deliver_fits (by simpa [Cmd.room, hd, sumN] using hfit) _ _
  rw [hbody.trans hfits] at hrow
  have hhost := State.output_one (c := c) (d := { addr := a, len := len, write := true }) (by simp [hd]) hfit
    (s := s.taken t c) (by rw [hfn]; simpa using hdma)
  exact ⟨_, hrow, State.answered h (by simp) _ _, hhost.trans (by rw [State.taken_host]), State.onlyDelivered_output ..⟩

theorem panRead_refused
    (hno : (s.wd c.world).loaded = false ∨ s.panAt c.world (addrAt c.payload 8) = none) :
    ∃ s', exec (.panRead fn slot t) s = .next s' ∧ s'.reply? fn slot = some (refusal 0x0207) ∧ s.onlyAnswered s' := by
  have hrow := (exec_panRead fn slot t s).trans (execTaken hslot h t _)
  have hbody : bodyPanRead c (s.taken t c) = (s.taken t c).refuse c 0x0207 := by
    rw [bodyPanRead_shaped hworld hlen hz hz1 hz2 haddr]
    cases hload : (s.wd c.world).loaded with
    | false => exact State.need_neg rfl ..
    | true =>
      rw [State.need_pos rfl, hno.resolve_left (by simp [hload])]
  rw [hbody] at hrow
  exact ⟨_, hrow, State.refused h (by simp) _ _ _, State.onlyAnswered_refuse ..⟩

end
end

/-- Settles O28. -/
theorem brineArrivalAndWorldReads : Obligations.BrineArrivalAndWorldReads := by
  unfold Obligations.BrineArrivalAndWorldReads
  refine ⟨fun s fn slot t c rs urgent hslot h hlen hdescs hz hworld hproxy =>
    ⟨brine_notLoaded hslot h hlen hdescs hz hworld hproxy, brine_checked hslot h hlen hdescs hz hworld hproxy⟩,
    fun s fn slot t c hslot hworld => ⟨worldStatus_answers hslot hworld,
      fun k a len h hlen hz hz1 hz2 haddr hw hpan hdma hd hfit =>
        panRead_delivers hslot hworld h hlen hz hz1 hz2 haddr hw hpan hdma hd hfit, panRead_refused hslot hworld⟩⟩

end Sys2Proof.Machine
end

section
/-!
SUPPORT. The obligation on urgent brine and the cutoff: URGENT_APPLY and URGENT_CHECKPOINT (R49, R109, R181, R229).
-/
namespace Sys2Proof.Machine

/-! ## Answers over the fabric leave the rest -/

/-- The state without the mailboxes' commands and the messages of the fabric. -/
def State.offAnswers (s : State) : State :=
  { s with mbx := { s.mbx with cmds := [] }, fabric := { s.fabric with msgs := [], nextMsg := [] } }

theorem State.fabricAnswers_offAnswers (s : State) : s.fabricAnswers.offAnswers = s.offAnswers := by
  rw [State.fabricAnswers_eq]
  exact State.foldl_keeps State.offAnswers State.answerBack (fun _ _ => rfl) _ _

theorem State.answerBack_mbx (s : State) (c : Cmd) : (s.answerBack c).mbx = s.mbx := rfl

/-- A command of the host keeps its place when answers go back to other nodes. -/
theorem State.cmd?_fabricAnswers {fn : Nat} (hfn : fn ≠ fabricFn) (slot : Nat) (s : State) :
    s.fabricAnswers.cmd? fn slot = s.cmd? fn slot := by
  rw [State.fabricAnswers_eq]
  refine (State.cmd?_mbx (State.foldl_keeps (·.mbx) State.answerBack State.answerBack_mbx _ _) fn slot).trans ?_
  unfold State.cmd?
  dsimp only
  rw [List.find?_filter]
  refine congrArg (List.find? · s.mbx.cmds) (funext fun c => ?_)
  by_cases h : c.fn = fn
  · have hkeep : c.fabricDone = false := by simp [Cmd.fabricDone, h, hfn]
    simp [hkeep, Bool.beq_eq_decide_eq]
  · simp [h]

/-- The answers are control messages. -/
theorem State.fabricAnswers_control {s : State} (h : s.fabric.msgs = []) : ∀ m ∈ s.fabricAnswers.fabric.msgs, m.vc = 0 := by
  rw [State.fabricAnswers_eq]
  refine State.foldl_inv (fun x => ∀ m ∈ x.fabric.msgs, m.vc = 0) State.answerBack (fun x c hx m hm => ?_) _ _ ?_
  · obtain hm | hm := List.mem_append.mp (show m ∈ x.fabric.msgs ++ [_] from hm)
    · exact hx m hm
    · rw [List.mem_singleton.mp hm]
  · intro m hm
    change m ∈ s.fabric.msgs at hm
    rw [h] at hm
    exact absurd hm List.not_mem_nil

/-- Behind an application: the answers of other nodes' commands go out, and the fabric goes on. -/
def State.concluded (s : State) : State := s.fabricAnswers.fabricGo

/-- What goes out over the fabric leaves the streams, HBM and the worlds, but for the landing space of commands that leave. -/
theorem State.concluded_keeps (s : State) : s.concluded.streams = s.streams ∧ s.concluded.hbm = s.hbm ∧
    (∀ n, { s.concluded.worlds with landingUsed := n } = { s.worlds with landingUsed := n }) ∧
    s.concluded.worlds.ws = s.worlds.ws ∧ s.concluded.worlds.epoch = s.worlds.epoch ∧
    s.concluded.worlds.checkpointEpochs = s.worlds.checkpointEpochs := by
  have hgo := s.fabricAnswers.fabricGo_links
  have hback := s.fabricAnswers_offAnswers
  unfold State.concluded
  generalize s.fabricAnswers.fabricGo = z at hgo
  generalize s.fabricAnswers = y at hgo hback
  have hworlds : y.worlds = s.worlds := (congrArg State.worlds hback :)
  refine ⟨(congrArg State.streams hgo :).trans (congrArg State.streams hback :),
    (congrArg State.hbm hgo :).trans (congrArg State.hbm hback :), fun n => ?_, ?_⟩
  · rw [← hworlds]
    exact (congrArg (fun x : State => { x.worlds with landingUsed := n }) hgo :)
  · rw [← hworlds]
    exact ⟨(congrArg (fun x : State => x.worlds.ws) hgo :), (congrArg (fun x : State => x.worlds.epoch) hgo :),
      (congrArg (fun x : State => x.worlds.checkpointEpochs) hgo :)⟩

theorem State.concluded_replied {fn slot : Nat} {s : State} (hfn : fn ≠ fabricFn) {r : Response}
    (h : s.reply? fn slot = some r) : s.concluded.reply? fn slot = some r := by
  refine State.fabricGo_replied ?_
  rw [State.reply?, State.cmd?_fabricAnswers hfn]
  exact h

/-- With no message under way only control messages go out, and no landing space comes back. -/
theorem State.concluded_worlds {s : State} (h : s.fabric.msgs = []) : s.concluded.worlds = s.worlds := by
  have hquiet := State.fabricGo_quiet (s := s.fabricAnswers) (.inr fun m hm hvc =>
    absurd (State.fabricAnswers_control h m hm) hvc)
  have hback := s.fabricAnswers_offAnswers
  unfold State.concluded
  generalize s.fabricAnswers.fabricGo = z at hquiet
  generalize s.fabricAnswers = y at hquiet hback
  exact (congrArg State.worlds hquiet :).trans (congrArg State.worlds hback :)

/-! ## One application (R109, R181) -/

/-- The parts of the state that an application's epoch and touch test leave as they are. -/
def State.offEpoch (s : State) := (s.mbx, s.worlds.ws, s.worlds.landingUsed, s.worlds.checkpointEpochs, s.hbm, s.fabric, s.frame)

theorem State.reissueStops_offEpoch (s : State) :
    s.reissueStops.offEpoch = s.offEpoch ∧ s.reissueStops.worlds.epoch = s.worlds.epoch := by
  have hfold := State.foldl_keeps (fun x : State => (x.offEpoch, x.worlds.epoch)) (fun s x => s.issuePinned x .stop)
    (fun s x => by simp [State.offEpoch]) (s.streams.filter fun x => x.stopPending && x.stopEpoch == s.worlds.epoch) s
  exact ⟨congrArg Prod.fst hfold, congrArg Prod.snd hfold⟩

theorem State.newEpoch_offEpoch (l : Touched) (s : State) :
    (s.newEpoch l).offEpoch = s.offEpoch ∧ (s.newEpoch l).worlds.epoch = s.worlds.epoch + 1 := by
  unfold State.newEpoch
  dsimp only
  rw [(State.reissueStops_offEpoch _).1, (State.reissueStops_offEpoch _).2]
  unfold State.offEpoch State.dropTouched
  exact ⟨rfl, rfl⟩

theorem State.copyUrgents_offEpoch (w : Nat) (s : State) :
    (s.copyUrgents w).offEpoch = s.offEpoch ∧ (s.copyUrgents w).worlds.epoch = s.worlds.epoch := by
  unfold State.copyUrgents
  dsimp only
  generalize Mem.readBytes s.hbm (moverAddr w 1024) 1536 = rows
  have hfold := State.foldl_keeps (fun x : State => (x.offEpoch, x.worlds.epoch)) (fun x p =>
    x.sramWrite (scratchAddr p (urgentCopyOffset x.worlds.epoch 0)) rows) (fun _ _ => rfl) s.enabledList s
  exact ⟨congrArg Prod.fst hfold, congrArg Prod.snd hfold⟩

/-- An application with changes: past T_c it makes a new epoch (R181). -/
theorem State.applied_offEpoch {l : Touched} (hl : l ≠ []) (s : State) :
    (s.applied l).offEpoch = s.offEpoch ∧
      (s.applied l).worlds.epoch = if s.pastCutoff then s.worlds.epoch + 1 else s.worlds.epoch := by
  have hcopies (x : State) (ws : List Nat) : (ws.foldl (fun s w => s.copyUrgents w) x).offEpoch = x.offEpoch ∧
      (ws.foldl (fun s w => s.copyUrgents w) x).worlds.epoch = x.worlds.epoch :=
    ⟨State.foldl_keeps State.offEpoch _ (fun s w => (s.copyUrgents_offEpoch w).1) ws x,
      State.foldl_keeps (·.worlds.epoch) _ (fun s w => (s.copyUrgents_offEpoch w).2) ws x⟩
  unfold State.applied
  rw [State.when_pos (by cases l with | nil => exact absurd rfl hl | cons a r => rfl)]
  dsimp only
  obtain ⟨hoff, hepoch⟩ := hcopies (if s.pastCutoff then s.newEpoch l else s) ((l.map (·.1)).dedup)
  rw [hoff, hepoch]
  split
  · exact s.newEpoch_offEpoch l
  · exact ⟨rfl, rfl⟩

theorem State.applied_nil (s : State) : s.applied [] = s := rfl

/-- Only the worlds' contents and HBM differ. -/
def State.AtContents (s s' : State) : Prop := ∃ ws m, s' = { s with worlds := { s.worlds with ws := ws }, hbm := m }

theorem State.AtContents.trans {a b c : State} (h : a.AtContents b) (h' : b.AtContents c) : a.AtContents c := by
  obtain ⟨ws, m, rfl⟩ := h
  obtain ⟨ws', m', rfl⟩ := h'
  exact ⟨ws', m', rfl⟩

theorem State.hbmWrite_atContents (a : Nat) (bs : List Byte) (s : State) : s.AtContents (s.hbmWrite a bs) := ⟨_, _, rfl⟩

theorem State.modWd_atContents (w : Nat) (f : World → World) (s : State) : s.AtContents (s.modWd w f) := ⟨_, _, rfl⟩

theorem applyUrgentRecord_writes {w : Nat} {r : List Byte} {s s' : State} (h : applyUrgentRecord w r s = .inr s') :
    s.AtContents s' := by
  unfold applyUrgentRecord at h
  dsimp only at h
  split at h
  · cases h
  · split at h
    · cases h
    · split at h
      · cases h
      · cases h
        exact (State.hbmWrite_atContents ..).trans (State.modWd_atContents ..)

/-- Urgent records write their world and HBM alone. -/
theorem applyUrgentRecords_writes {w : Nat} : ∀ {rs : List (List Byte)} {i : Nat} {s s' : State},
    applyUrgentRecords w i rs s = .inr s' → s.AtContents s'
  | [], i, s, s', h => ⟨_, _, (Sum.inr.inj h).symm⟩
  | r :: rs, i, s, s', h => by
    rw [applyUrgentRecords] at h
    cases hr : applyUrgentRecord w r s with
    | inl st => rw [hr] at h; cases h
    | inr x =>
      rw [hr] at h
      exact (applyUrgentRecord_writes hr).trans (applyUrgentRecords_writes h)

/-! ## One command applied (R49, R109) -/

theorem State.countBrine_rest (c : Cmd) (n : Nat) (s : State) : { s.countBrine c n with sessions := [] } = { s with sessions := [] } := by
  unfold State.countBrine
  refine State.foldl_keeps (fun x : State => { x with sessions := [] }) _ (fun x i => ?_) _ s
  dsimp only
  split <;> rfl

section
variable {s : State} {fn slot : Nat} {c : Cmd} (hcmd : s.cmd? fn slot = some c) (hopen : c.response = none)
  (hop : c.opcode = 0x0402) (hfn : fn ≠ fabricFn) (k : Nat)
include hcmd hopen hop hfn

/-- A record that fails refuses the command whole, and the world keeps its content. -/
theorem applyUrgentCmds_refuses {rs : List (List Byte)} {st i : Nat} (hrec : c.recordList = .inr rs)
    (hbad : applyUrgentRecords c.world 0 rs s = .inl (st, i)) :
    (s.applyUrgentCmds k [c]).reply? fn slot = some (refusal st i) ∧
      { (s.applyUrgentCmds k [c]).worlds with landingUsed := s.worlds.landingUsed } = s.worlds ∧
      (s.applyUrgentCmds k [c]).streams = s.streams ∧
      (s.fabric.msgs = [] → (s.applyUrgentCmds k [c]).worlds.landingUsed = s.worlds.landingUsed - c.fetchBytes) := by
  have heq : s.applyUrgentCmds k [c] = (((s.captureBrine 3 k c).refuse c st i).freeLanding c).concluded := by
    have hone : s.applyUrgentCmd k c = (((s.captureBrine 3 k c).refuse c st i).freeLanding c, []) := by
      unfold State.applyUrgentCmd
      rw [hrec]
      dsimp only
      rw [hbad]
    unfold State.applyUrgentCmds
    simp only [List.foldl_cons, List.foldl_nil, hone, List.append_nil, State.applied_nil]
    rfl
  rw [heq, State.freeLanding_brine (.inr hop)]
  have hrest := s.captureBrine_det 3 k c
  generalize s.captureBrine 3 k c = y at hrest
  have hmbx : y.mbx = s.mbx := (congrArg State.mbx hrest :)
  have hworlds : y.worlds = s.worlds := (congrArg State.worlds hrest :)
  have hmsgs : y.fabric = s.fabric := (congrArg State.fabric hrest :)
  have hreply : State.reply? ((y.refuse c st i).modWorlds fun y => { y with landingUsed := y.landingUsed - c.fetchBytes }) fn slot =
      some (refusal st i) := State.reply?_refuse hmbx hcmd hopen st i
  obtain ⟨hstreams, -, hkept, -⟩ := State.concluded_keeps ((y.refuse c st i).modWorlds fun y => { y with
    landingUsed := y.landingUsed - c.fetchBytes })
  refine ⟨State.concluded_replied hfn hreply, ?_, hstreams.trans (congrArg State.streams hrest :), fun hnone => ?_⟩
  · have hback : { y.worlds with landingUsed := s.worlds.landingUsed } = s.worlds := by rw [hworlds]
    exact (hkept s.worlds.landingUsed).trans hback
  · have hsame := State.concluded_worlds (s := (y.refuse c st i).modWorlds fun y => { y with
      landingUsed := y.landingUsed - c.fetchBytes }) ((congrArg Fabric.msgs hmsgs).trans hnone)
    rw [hsame, ← hworlds]
    exact rfl

/-- Records that pass take effect, and past T_c they make a new epoch (R181). -/
theorem applyUrgentCmds_accepts {r : List Byte} {rs : List (List Byte)} {s1 : State} (hrec : c.recordList = .inr (r :: rs))
    (hgood : applyUrgentRecords c.world 0 (r :: rs) s = .inr s1) :
    (s.applyUrgentCmds k [c]).reply? fn slot = some (okReply (le 8 s.time.now ++ le 4 s.frameNo ++ le 1 k ++ zeros 3)) ∧
      (s.applyUrgentCmds k [c]).worlds.ws = s1.worlds.ws ∧
      (s.applyUrgentCmds k [c]).worlds.epoch = (if s.pastCutoff then s.worlds.epoch + 1 else s.worlds.epoch) ∧
      (s.applyUrgentCmds k [c]).worlds.checkpointEpochs = s.worlds.checkpointEpochs ∧
      (s.applyUrgentCmds k [c]).hbm = s1.hbm := by
  have heq : s.applyUrgentCmds k [c] = ((((((s1.captureBrine 3 k c).countBrine c (r :: rs).length).freeLanding c).accept c
      (le 8 (((s1.captureBrine 3 k c).countBrine c (r :: rs).length).freeLanding c).time.now ++
        le 4 (((s1.captureBrine 3 k c).countBrine c (r :: rs).length).freeLanding c).frameNo ++ le 1 k ++ zeros 3)).applied
          (touchedBy c.world (r :: rs)))).concluded := by
    have hone : s.applyUrgentCmd k c = ((((s1.captureBrine 3 k c).countBrine c (r :: rs).length).freeLanding c).accept c
      (le 8 (((s1.captureBrine 3 k c).countBrine c (r :: rs).length).freeLanding c).time.now ++
        le 4 (((s1.captureBrine 3 k c).countBrine c (r :: rs).length).freeLanding c).frameNo ++ le 1 k ++ zeros 3),
          touchedBy c.world (r :: rs)) := by
      unfold State.applyUrgentCmd
      rw [hrec]
      dsimp only
      rw [hgood]
    unfold State.applyUrgentCmds
    simp only [List.foldl_cons, List.foldl_nil, hone, List.nil_append]
    rfl
  obtain ⟨ws, m, rfl⟩ := applyUrgentRecords_writes hgood
  rw [heq]
  clear heq hgood
  generalize hs1 : ({ s with worlds := { s.worlds with ws := ws }, hbm := m } : State) = s1
  have hcapture := s1.captureBrine_det 3 k c
  generalize s1.captureBrine 3 k c = y at hcapture
  have hcount := y.countBrine_rest c (r :: rs).length
  generalize y.countBrine c (r :: rs).length = z at hcount
  rw [State.freeLanding_brine (.inr hop)]
  have hrest : { z with sessions := [], det := s1.det } = { s1 with sessions := [] } := by
    have hz := congrArg (fun x : State => { x with det := s1.det }) hcount
    exact hz.trans (congrArg (fun x : State => { x with sessions := [] }) hcapture)
  subst hs1
  have hmbx : z.mbx = s.mbx := (congrArg State.mbx hrest :)
  have hworlds : z.worlds = { s.worlds with ws := ws } := (congrArg State.worlds hrest :)
  have hhbm : z.hbm = m := (congrArg State.hbm hrest :)
  have hframe : z.frame = s.frame := (congrArg State.frame hrest :)
  have htime : z.time = s.time := (congrArg State.time hrest :)
  clear hrest hcount hcapture
  have hnow : (z.modWorlds fun y => { y with landingUsed := y.landingUsed - c.fetchBytes }).time.now = s.time.now :=
    congrArg TimeBase.now htime
  have hno : (z.modWorlds fun y => { y with landingUsed := y.landingUsed - c.fetchBytes }).frameNo = s.frameNo :=
    congrArg (fun f : Frame => f.counter.toNat) hframe
  rw [hnow, hno]
  generalize hx : (z.modWorlds fun y => { y with landingUsed := y.landingUsed - c.fetchBytes }).accept c
    (le 8 s.time.now ++ le 4 s.frameNo ++ le 1 k ++ zeros 3) = x
  have hreply : x.reply? fn slot = some (okReply (le 8 s.time.now ++ le 4 s.frameNo ++ le 1 k ++ zeros 3)) :=
    hx ▸ State.reply?_accept hmbx hcmd hopen _
  have hxparts : x.worlds = { s.worlds with ws := ws, landingUsed := s.worlds.landingUsed - c.fetchBytes } ∧ x.hbm = m ∧
      x.frame = s.frame := by
    subst hx
    refine ⟨?_, hhbm, hframe⟩
    change { z.worlds with landingUsed := z.worlds.landingUsed - c.fetchBytes } = _
    rw [hworlds]
  obtain ⟨hxworlds, hxhbm, hxframe⟩ := hxparts
  have hpast : x.pastCutoff = s.pastCutoff := by
    unfold State.pastCutoff State.gridRuns
    rw [hxframe]
  clear hx
  obtain ⟨hoff, hepoch⟩ := x.applied_offEpoch (l := touchedBy c.world (r :: rs)) (List.cons_ne_nil _ _)
  generalize x.applied (touchedBy c.world (r :: rs)) = v at hoff hepoch
  unfold State.offEpoch at hoff
  simp only [Prod.mk.injEq] at hoff
  obtain ⟨hvmbx, hvws, -, hvcheck, hvhbm, -⟩ := hoff
  obtain ⟨-, hchbm, -, hcws, hcepoch, hccheck⟩ := v.concluded_keeps
  refine ⟨State.concluded_replied hfn ((State.reply?_mbx hvmbx fn slot).trans hreply), ?_, ?_, ?_, ?_⟩
  · exact hcws.trans (hvws.trans (congrArg Worlds.ws hxworlds :))
  · refine hcepoch.trans (hepoch.trans ?_)
    rw [hpast, hxworlds]
  · exact hccheck.trans (hvcheck.trans (congrArg Worlds.checkpointEpochs hxworlds :))
  · exact hchbm.trans (hvhbm.trans hxhbm)

end

end Sys2Proof.Machine
end

section
/-!
SUPPORT. The obligation on urgent brine and the cutoff: the rows, and BRINE_CUTOFF (R46, R113, R181).
-/
namespace Sys2Proof.Machine

section
variable {s : State} {fn slot j t : Nat} {c : Cmd} {r : List Byte} {rs : List (List Byte)}

theorem State.brineWaits_fields {op : Nat} (h : s.brineWaits c op = true) : c.opcode = op ∧ c.response = none := by
  unfold State.brineWaits at h
  simp only [Bool.and_eq_true, beq_iff_eq, Option.isNone_iff_eq_none] at h
  exact ⟨h.1.1.1.1, h.1.1.2⟩

theorem brineSlotOk_of (hslot : isSlot fn slot) : brineSlotOk fn slot = true := by
  rw [brineSlotOk, slotOk_of fn slot hslot, Bool.true_or]

theorem isSlot_ne_fabric (hslot : isSlot fn slot) : fn ≠ fabricFn := Nat.ne_of_lt hslot.1

/-- Its checkpoint's WHEN in a response: 0xFE in Throughput mode. -/
theorem urgentReply (now no k : Nat) :
    le 8 now ++ le 4 no ++ le 1 k ++ zeros 3 = le 8 now ++ le 4 no ++ [BitVec.ofNat 8 k, 0, 0, 0] := by
  have hle : le 1 k = [BitVec.ofNat 8 k] := rfl
  rw [hle, List.append_assoc]
  rfl

section
variable (hslot : isSlot fn slot) (hcmd : s.cmd? fn slot = some c) (hrec : c.recordList = .inr (r :: rs))
  (hwaits : s.brineWaits c 0x0402 = true) (hdev : s.frame.devState = 1)
include hslot hcmd hwaits hdev

theorem urgentApply_row (hexact : s.frame.conf.exact = false)
    (hfirst : ∀ x ∈ s.mbx.cmds, s.brineWaits x 0x0402 = true → x.world = c.world → x.before c = false) :
    exec (.urgentApply fn slot t) s = .next { (s.at t).applyUrgentCmds 0xFE [c] with pending := s.pending } := by
  have heq : State.urgentApply fn slot (s.at t) = (s.at t).applyUrgentCmds 0xFE [c] := by
    have hexact' : (s.at t).frame.conf.exact = false := hexact
    have hdev' : (s.at t).frame.devState = 1 := hdev
    have hwaits' : (s.at t).brineWaits c 0x0402 = true := hwaits
    have hfind : (s.at t).cmdFor fn slot ((s.at t).brineWaits · 0x0402) = some c := State.cmdFor_of hcmd hwaits'
    have hnone : ((s.at t).mbx.cmds.any fun x => (s.at t).brineWaits x 0x0402 && x.world == c.world && x.before c) = false := by
      rw [List.any_eq_false]
      intro x hx hall
      simp only [Bool.and_eq_true, beq_iff_eq] at hall
      exact absurd (hfirst x hx hall.1.1 hall.1.2) (by simp [hall.2])
    unfold State.urgentApply
    rw [State.when_pos (by rw [hexact']; rfl)]
    dsimp only
    rw [if_neg (by rw [hdev']; decide), hfind]
    dsimp only
    rw [State.when_pos (by rw [hwaits', hnone]; rfl)]
  have hrow := (exec_urgentApply fn slot t s).trans (ranAt_pos (brineSlotOk_of hslot) ..)
  rw [heq] at hrow
  exact hrow

include hrec

theorem urgentApply_refuses (hexact : s.frame.conf.exact = false)
    (hfirst : ∀ x ∈ s.mbx.cmds, s.brineWaits x 0x0402 = true → x.world = c.world → x.before c = false) (st i : Nat)
    (hbad : applyUrgentRecords c.world 0 (r :: rs) (s.at t) = .inl (st, i)) :
    ∃ s', exec (.urgentApply fn slot t) s = .next s' ∧ s'.reply? fn slot = some (refusal st i) ∧
      { s'.worlds with landingUsed := s.worlds.landingUsed } = s.worlds ∧ s'.streams = s.streams ∧
      (s.fabric.msgs = [] → s'.worlds.landingUsed = s.worlds.landingUsed - c.fetchBytes) := by
  have hrow := urgentApply_row (t := t) hslot hcmd hwaits hdev hexact hfirst
  obtain ⟨hop, hopen⟩ := State.brineWaits_fields hwaits
  have hall := applyUrgentCmds_refuses (s := s.at t) hcmd hopen hop (isSlot_ne_fabric hslot) 0xFE hrec hbad
  generalize (s.at t).applyUrgentCmds 0xFE [c] = z at hrow hall
  exact ⟨_, hrow, hall⟩

theorem urgentApply_applies (hexact : s.frame.conf.exact = false)
    (hfirst : ∀ x ∈ s.mbx.cmds, s.brineWaits x 0x0402 = true → x.world = c.world → x.before c = false) (s1 : State)
    (hgood : applyUrgentRecords c.world 0 (r :: rs) (s.at t) = .inr s1) :
    ∃ s', exec (.urgentApply fn slot t) s = .next s' ∧
      s'.reply? fn slot = some (okReply (le 8 (max s.time.now t) ++ le 4 s.frame.counter.toNat ++ [0xFE, 0, 0, 0])) ∧
      s'.worlds.ws = s1.worlds.ws ∧
      s'.worlds.epoch = (if s.frame.phase = .closed ∨ s.frame.phase = .opened then s.worlds.epoch
        else s.worlds.epoch + 1) ∧ s'.hbm = s1.hbm := by
  have hrow := urgentApply_row (t := t) hslot hcmd hwaits hdev hexact hfirst
  obtain ⟨hop, hopen⟩ := State.brineWaits_fields hwaits
  obtain ⟨hreply, hws, hepoch, -, hhbm⟩ := applyUrgentCmds_accepts (s := s.at t) hcmd hopen hop (isSlot_ne_fabric hslot) 0xFE hrec hgood
  rw [urgentReply] at hreply
  have hpast : (if (s.at t).pastCutoff then (s.at t).worlds.epoch + 1 else (s.at t).worlds.epoch) =
      if s.frame.phase = .closed ∨ s.frame.phase = .opened then s.worlds.epoch else s.worlds.epoch + 1 := by
    have hgrid : (s.at t).gridRuns = true := by
      change (s.frame.devState == 1 || s.frame.devState == 3) = true
      rw [hdev]
      rfl
    unfold State.pastCutoff
    rw [hgrid]
    change (if (true && s.frame.phase != .closed && s.frame.phase != .opened) = true then s.worlds.epoch + 1 else s.worlds.epoch) = _
    cases s.frame.phase <;> simp
  rw [hpast] at hepoch
  generalize (s.at t).applyUrgentCmds 0xFE [c] = z at hrow hreply hws hepoch hhbm
  exact ⟨_, hrow, hreply, hws, hepoch, hhbm⟩

end

/-- In Exact mode the checkpoints apply urgent commands. -/
theorem urgentApply_exact (hslot : isSlot fn slot) (hexact : s.frame.conf.exact = true) :
    ∃ s', exec (.urgentApply fn slot t) s = .next s' ∧ { s' with time := s.time } = s := by
  have hrow := (exec_urgentApply fn slot t s).trans (ranAt_pos (brineSlotOk_of hslot) ..)
  have heq : State.urgentApply fn slot (s.at t) = s.at t := by
    have hexact' : (s.at t).frame.conf.exact = true := hexact
    unfold State.urgentApply
    exact State.when_neg (by rw [hexact']; rfl) ..
  rw [heq] at hrow
  exact ⟨_, hrow, rfl⟩

/-- A checkpoint after T_c in Exact mode. -/
theorem urgentCheckpoint_applies (hslot : isSlot fn slot) (hcmd : s.cmd? fn slot = some c)
    (hrec : c.recordList = .inr (r :: rs)) (hwaits : s.brineWaits c 0x0402 = true) (hdev : s.frame.devState = 1)
    (hexact : s.frame.conf.exact = true) (hlow : 2 ≤ j) (hhigh : j ≤ 4) (hclosed : s.frame.phase ≠ .closed)
    (hopened : s.frame.phase ≠ .opened) (hnext : s.worlds.checkpointEpochs.length + 1 = j)
    (htime : s.checkpointAt j ≤ max s.time.now t) (hdue : s.urgentsBefore (s.checkpointAt j) = [c]) (s1 : State)
    (hgood : applyUrgentRecords c.world 0 (r :: rs) (s.at t) = .inr s1) :
    ∃ s', exec (.urgentCheckpoint j t) s = .next s' ∧
      s'.reply? fn slot = some (okReply (le 8 (max s.time.now t) ++ le 4 s.frame.counter.toNat ++ le 1 j ++ zeros 3)) ∧
      s'.worlds.ws = s1.worlds.ws ∧ s'.worlds.epoch = s.worlds.epoch + 1 ∧
      s'.worlds.checkpointEpochs = s.worlds.checkpointEpochs ++ [s.worlds.epoch + 1] ∧ s'.hbm = s1.hbm := by
  have hrow := (exec_urgentCheckpoint j t s).trans (ranAt_pos (by simp [below]; omega) ..)
  have hgrid : (s.at t).gridRuns = true := by
    change (s.frame.devState == 1 || s.frame.devState == 3) = true
    rw [hdev]
    rfl
  have hpast : (s.at t).pastCutoff = true := by
    have hclosed' : (s.at t).frame.phase ≠ .closed := hclosed
    have hopened' : (s.at t).frame.phase ≠ .opened := hopened
    unfold State.pastCutoff
    rw [hgrid, bne_iff_ne.mpr hclosed', bne_iff_ne.mpr hopened']
    rfl
  have heq : State.urgentCheckpoint j (s.at t) = ((s.at t).applyUrgentCmds j [c]).noteCheckpoint := by
    have hexact' : (s.at t).frame.conf.exact = true := hexact
    have hdev' : (s.at t).frame.devState = 1 := hdev
    have hnext' : (s.at t).worlds.checkpointEpochs.length + 1 = j := hnext
    have htime' : (s.at t).checkpointAt j ≤ (s.at t).time.now := htime
    have hdue' : (s.at t).urgentsBefore ((s.at t).checkpointAt j) = [c] := hdue
    unfold State.urgentCheckpoint
    dsimp only
    rw [if_neg (by omega), State.when_pos (by rw [hgrid, hexact', hpast, beq_iff_eq.mpr hnext', decide_eq_true htime']; rfl),
      if_neg (by omega), State.applyCheckpoint, if_neg (by rw [hdev']; decide), hdue']
  rw [heq] at hrow
  obtain ⟨hop, hopen⟩ := State.brineWaits_fields hwaits
  obtain ⟨hreply, hws, hepoch, hcheck, hhbm⟩ := applyUrgentCmds_accepts (s := s.at t) hcmd hopen hop (isSlot_ne_fabric hslot) j hrec hgood
  rw [hpast, if_pos rfl] at hepoch
  generalize (s.at t).applyUrgentCmds j [c] = z at hrow hreply hws hepoch hcheck hhbm
  refine ⟨_, hrow, hreply, hws, hepoch, ?_, hhbm⟩
  change z.worlds.checkpointEpochs ++ [z.worlds.epoch] = _
  rw [hcheck, hepoch]
  rfl

/-- Before its instant a checkpoint does nothing. -/
theorem urgentCheckpoint_early (hlow : 2 ≤ j) (hhigh : j ≤ 4) (htime : max s.time.now t < s.checkpointAt j) :
    ∃ s', exec (.urgentCheckpoint j t) s = .next s' ∧ { s' with time := s.time } = s := by
  have hrow := (exec_urgentCheckpoint j t s).trans (ranAt_pos (by simp [below]; omega) ..)
  have heq : State.urgentCheckpoint j (s.at t) = s.at t := by
    have htime' : ¬(s.at t).checkpointAt j ≤ (s.at t).time.now := not_le.mpr htime
    unfold State.urgentCheckpoint
    exact State.when_neg (by rw [decide_eq_false htime', Bool.and_false]) ..
  rw [heq] at hrow
  exact ⟨_, hrow, rfl⟩

end

/-! ## The inputs close (R46, R113, R181) -/

/-- What the staging, the tasks and the queries behind T_c leave as it is. -/
def State.closing (s : State) := (s.worlds.ws, s.worlds.epoch, s.frame.phase, s.frame.counter, s.safety, s.hbm)

theorem State.withToken_view {α : Type} {v : State → α} (hv : ∀ x k g, v (State.modStk k g x) = v x) {f : State → State}
    (hf : ∀ x, v (f x) = v x) (k : Nat) (s : State) : v (s.withToken k f) = v s := by
  unfold State.withToken
  split
  · rfl
  · split
    · rfl
    · exact (hv ..).trans ((hf _).trans (hv ..))

theorem State.sramWrite_closing (a : Nat) (bs : List Byte) (s : State) : (s.sramWrite a bs).closing = s.closing := rfl

theorem State.modStk_closing (s : State) (k : Nat) (g : Stack → Stack) : (s.modStk k g).closing = s.closing := rfl

theorem State.dmaWrite_closing (k a : Nat) (bs : List Byte) (s : State) : (s.dmaWrite k a bs).closing = s.closing := by
  unfold State.dmaWrite
  exact State.foldl_keeps State.closing _ (fun x i =>
    State.withToken_view State.modStk_closing (fun y => State.sramWrite_closing _ _ y) k x) _ _

theorem State.dmaEvents_closing (p src off n : Nat) (s : State) : (s.dmaEvents p src off n).closing = s.closing := by
  unfold State.dmaEvents State.closing
  dsimp only
  split <;> simp

theorem State.copyPan_closing (p slot h : Nat) (s : State) : (s.copyPan p slot h).closing = s.closing := by
  unfold State.copyPan
  dsimp only
  refine (State.foldl_keeps State.closing _ (fun x j => ?_) _ _).trans ?_
  · exact State.withToken_view State.modStk_closing
      (fun y => State.foldl_keeps State.closing _ (fun z i => State.sramWrite_closing _ _ z) _ y) _ x
  · rw [State.dmaEvents_closing, State.dmaEvents_closing, State.dmaWrite_closing]

theorem State.modCl_closing (p : Nat) (f : Cluster → Cluster) (s : State) : (s.modCl p f).closing = s.closing := rfl

theorem State.stageAt_closing (p slot h : Nat) (s : State) : (s.stageAt p slot h).closing = s.closing := by
  unfold State.stageAt
  dsimp only
  rw [State.modCl_closing, State.copyPan_closing]

theorem State.panFault_closing (p h : Nat) (s : State) : (s.panFault p h).closing = s.closing := by
  unfold State.panFault State.closing
  simp

theorem State.stageAtCutoff_closing (s : State) (p : Nat) : (s.stageAtCutoff p).closing = s.closing := by
  unfold State.stageAtCutoff
  refine State.foldl_keeps State.closing _ (fun x e => ?_) _ s
  dsimp only
  split
  · rfl
  · split
    · rfl
    · split
      · exact State.stageAt_closing ..
      · exact State.panFault_closing ..

theorem State.issueBoxes_closing (s : State) : s.issueBoxes.closing = s.closing := by
  unfold State.issueBoxes
  refine State.foldl_keeps State.closing _ (fun x j => ?_) _ s
  split
  · simp [State.closing]
  · rfl

theorem State.takeRequest_closing (s : State) (i : FabInput) : (s.takeRequest i).closing = s.closing := by
  unfold State.takeRequest
  dsimp only
  split
  · unfold State.closing
    simp [State.fabricSend]
  · unfold State.closing
    simp

theorem State.takeRequests_closing (s : State) : s.takeRequests.closing = s.closing := by
  unfold State.takeRequests
  exact (State.foldl_keeps State.closing _ State.takeRequest_closing _ _).trans rfl

/-- Forming the queries leaves the worlds' contents. -/
theorem State.formQueries_closing (s : State) : s.formQueries.closing = s.closing := by
  have hworlds : ∃ y : State, y.worlds = s.worlds ∧ (s.formQueries = y.fabricGo ∨ s.formQueries = s) := by
    unfold State.formQueries
    by_cases hrun : (s.working && !s.judging) = true
    · rw [State.when_pos hrun]
      exact ⟨_, by simp [State.foldl_worlds], .inl rfl⟩
    · rw [State.when_neg (Bool.eq_false_iff.mpr hrun)]
      exact ⟨s, rfl, .inr rfl⟩
  have hparts : s.formQueries.worlds.ws = s.worlds.ws ∧ s.formQueries.worlds.epoch = s.worlds.epoch := by
    obtain ⟨y, hy, hgo | hsame⟩ := hworlds
    · rw [hgo, ← hy]
      have hlinks := y.fabricGo_links
      generalize y.fabricGo = z at hlinks
      exact ⟨(congrArg (fun x : State => x.worlds.ws) hlinks :), (congrArg (fun x : State => x.worlds.epoch) hlinks :)⟩
    · rw [hsame]
      exact ⟨rfl, rfl⟩
  unfold State.closing
  rw [hparts.1, hparts.2, State.formQueries_frame, State.formQueries_safety, State.formQueries_hbm]

theorem State.copyAllUrgents_closing (s : State) : s.copyAllUrgents.closing = s.closing := by
  have hcopy (x : State) (w : Nat) : (x.copyUrgents w).closing = x.closing := by
    unfold State.copyUrgents
    dsimp only
    generalize Mem.readBytes x.hbm (moverAddr w 1024) 1536 = rows
    exact State.foldl_keeps State.closing (fun x p => x.sramWrite (scratchAddr p (urgentCopyOffset x.worlds.epoch 0)) rows)
      (fun _ _ => rfl) _ x
  unfold State.copyAllUrgents
  refine State.foldl_keeps State.closing _ (fun x w => ?_) _ s
  split
  · exact hcopy x w
  · rfl

/-- Behind the closing of the inputs the cutoff leaves what `closing` names. -/
theorem State.behindClose_closing (s : State) :
    (s.copyAllUrgents.enabledList.foldl State.stageAtCutoff s.copyAllUrgents).issueBoxes.takeRequests.formQueries.closing =
      s.closing := by
  rw [State.formQueries_closing, State.takeRequests_closing, State.issueBoxes_closing,
    State.foldl_keeps State.closing _ State.stageAtCutoff_closing, State.copyAllUrgents_closing]

/-! ## Boxes of earlier frames are written (R112) -/

/-- Times and urgent slots of the worlds, with what else the writing of boxes leaves. -/
def State.boxView (s : State) := (s.worlds.ws.map fun w : World => (w.worldTime, w.urgent), s.frame, s.safety)

theorem State.markDirty_boxView (w i : Nat) (s : State) : (s.markDirty w i).boxView = s.boxView :=
  congrArg (fun l => (l, s.frame, s.safety)) (map_modify_of (fun w : World => (w.worldTime, w.urgent))
    (g := fun x => { x with dirty := insertAsc i x.dirty }) (fun _ => rfl) s.worlds.ws w)

theorem State.setDir_boxView (w i e : Nat) (s : State) : (s.setDir w i e).boxView = s.boxView := by
  unfold State.setDir
  rw [State.markDirty_boxView]
  rfl

theorem State.hbmWrite_boxView (a : Nat) (bs : List Byte) (s : State) : (s.hbmWrite a bs).boxView = s.boxView := rfl

theorem State.goodHandle_boxView (h : Nat) (s : State) : (s.goodHandle h).boxView = s.boxView := rfl

theorem State.brinePan_boxView (h : Nat) (a : CellAddr) (build snapshot seq interp crc : Nat) (payload : List Byte) (s : State) :
    (s.brinePan h a build snapshot seq interp crc payload).boxView = s.boxView := by
  unfold State.brinePan State.panWrite
  rw [State.goodHandle_boxView, State.hbmWrite_boxView, State.hbmWrite_boxView]

theorem State.takeHandle_boxView (s : State) : s.takeHandle.2.boxView = s.boxView := rfl

theorem State.distPan_boxView (j : DistJob) (a : CellAddr) (field : List Int) (s : State) :
    (s.distPan j a field).boxView = s.boxView := by
  unfold State.distPan
  dsimp only
  split
  · rw [State.markDirty_boxView, State.brinePan_boxView]
  · split
    · rw [State.markDirty_boxView, State.brinePan_boxView, State.setDir_boxView, State.takeHandle_boxView]
    · rfl

theorem State.modCmd_boxView (fn slot : Nat) (f : Cmd → Cmd) (s : State) : (s.modCmd fn slot f).boxView = s.boxView := rfl

theorem State.writeBoxes_boxView (s : State) : s.writeBoxes.boxView = s.boxView := by
  unfold State.writeBoxes
  dsimp only
  refine (State.foldl_keeps State.boxView _ (fun x j => ?_) _ _).trans rfl
  have hpans (l : List Nat) : (l.foldl (fun s k => match j.cells.getD k none with
      | some a => s.distPan j a ((j.output.getD []).getD k [])
      | none => s) x).boxView = x.boxView := by
    refine State.foldl_keeps State.boxView _ (fun y k => ?_) l x
    split
    · exact State.distPan_boxView ..
    · rfl
  split
  · exact hpans _
  · split
    · exact hpans _
    · exact (State.modCmd_boxView ..).trans (hpans _)

/-- With no box converted, writing the boxes leaves HBM. -/
theorem State.writeBoxes_hbm {s : State} (h : ∀ j ∈ s.worlds.distJobs, j.output = none) : s.writeBoxes.hbm = s.hbm := by
  have hnone : (s.worlds.distJobs.filter fun j => j.output.isSome && laterFrame s.frame.counter j.frame) = [] :=
    List.filter_eq_nil_iff.mpr fun j hj => by simp [h j hj]
  unfold State.writeBoxes
  rw [hnone]
  rfl

/-! ## BRINE_CUTOFF -/

/-- A world as T_c leaves it: its time is fixed, and its urgent slots begin a new frame. -/
def World.cut (w : World) : World := { w with timeAtCutoff := w.worldTime, urgentChanged := w.urgentTouched, urgentTouched := [] }

theorem State.closeInputs_closing (s : State) : s.closeInputs.closing =
    (s.worlds.ws.map World.cut, 0, .afterCutoff, s.frame.counter, s.safety, s.hbm) := rfl

section
variable {s : State} {t : Nat}

theorem brineCutoff_early (htime : max s.time.now t < s.cutoffAt) :
    ∃ s', exec (.brineCutoff t) s = .next s' ∧ { s' with time := s.time } = s := by
  have hrow := (exec_brineCutoff t s).trans (ranAt_pos rfl ..)
  have heq : State.brineCutoff (s.at t) = s.at t := by
    have htime' : ¬(s.at t).cutoffAt ≤ (s.at t).time.now := not_le.mpr htime
    unfold State.brineCutoff
    exact State.when_neg (by rw [decide_eq_false htime', Bool.and_false]) ..
  rw [heq] at hrow
  exact ⟨_, hrow, rfl⟩

/-- In Throughput mode the inputs close at T_c (R46, R113, R181). -/
theorem brineCutoff_closes (hdev : s.frame.devState = 1) (hphase : s.frame.phase = .opened)
    (htime : s.cutoffAt ≤ max s.time.now t) (hexact : s.frame.conf.exact = false) :
    ∃ s', exec (.brineCutoff t) s = .next s' ∧ s'.frame.phase = .afterCutoff ∧ s'.worlds.epoch = 0 ∧
      (∀ w < 4, (s'.wd w).timeAtCutoff = (s.wd w).worldTime ∧ (s'.wd w).worldTime = (s.wd w).worldTime ∧
        (s'.wd w).urgent = (s.wd w).urgent ∧ (s'.wd w).urgentTouched = []) ∧
      ((∀ j ∈ s.worlds.distJobs, j.output = none) → s'.hbm = s.hbm) ∧ s'.frame.counter = s.frame.counter ∧
      s'.safety = s.safety := by
  have hrow := (exec_brineCutoff t s).trans (ranAt_pos rfl ..)
  have hboxes := (s.at t).writeBoxes_boxView
  have hhbm : (∀ j ∈ s.worlds.distJobs, j.output = none) → (s.at t).writeBoxes.hbm = s.hbm := fun h =>
    State.writeBoxes_hbm (s := s.at t) h
  have heq : ∃ x : State, x = (s.at t).writeBoxes ∧ State.brineCutoff (s.at t) =
      (x.closeInputs.copyAllUrgents.enabledList.foldl State.stageAtCutoff
        x.closeInputs.copyAllUrgents).issueBoxes.takeRequests.formQueries := by
    have hdev' : (s.at t).frame.devState = 1 := hdev
    have hphase' : (s.at t).frame.phase = .opened := hphase
    have htime' : (s.at t).cutoffAt ≤ (s.at t).time.now := htime
    have hexact' : (s.at t).frame.conf.exact = false := hexact
    have hgrid : (s.at t).gridRuns = true := by
      unfold State.gridRuns
      rw [hdev']
      rfl
    have hframe : (s.at t).writeBoxes.frame = (s.at t).frame := (congrArg (·.2.1) hboxes :)
    refine ⟨_, rfl, ?_⟩
    have hreplay : (s.at t).writeBoxes.replayInputs = (s.at t).writeBoxes := by
      unfold State.replayInputs
      exact State.when_neg (by rw [hframe, hdev']; rfl) ..
    unfold State.brineCutoff
    rw [State.when_pos (by rw [hgrid, hphase', decide_eq_true htime']; rfl)]
    dsimp only
    rw [hreplay, if_neg (by rw [hframe, hexact']; exact Bool.false_ne_true)]
  obtain ⟨x, hx, heq⟩ := heq
  rw [← hx] at hboxes hhbm
  clear hx
  rw [heq] at hrow
  have hclosing := (State.behindClose_closing x.closeInputs).trans x.closeInputs_closing
  generalize (x.closeInputs.copyAllUrgents.enabledList.foldl State.stageAtCutoff
    x.closeInputs.copyAllUrgents).issueBoxes.takeRequests.formQueries = z at hrow hclosing
  unfold State.closing at hclosing
  unfold State.boxView at hboxes
  simp only [Prod.mk.injEq] at hclosing hboxes
  obtain ⟨hws, hepoch, hzphase, hcounter, hsafety, hzhbm⟩ := hclosing
  obtain ⟨hxws, hxframe, hxsafety⟩ := hboxes
  refine ⟨_, hrow, hzphase, hepoch, fun w _ => ?_, fun h => hzhbm.trans (hhbm h), ?_, hsafety.trans hxsafety⟩
  · have hz : z.wd w = (x.wd w).cut := by
      unfold State.wd
      rw [hws]
      exact List.getD_map (n := w) x.worlds.ws {} World.cut
    have hw : ((x.wd w).worldTime, (x.wd w).urgent) = ((s.wd w).worldTime, (s.wd w).urgent) := by
      have hmap := List.getD_map (n := w) x.worlds.ws {} fun w : World => (w.worldTime, w.urgent)
      rw [hxws] at hmap
      exact hmap.symm.trans (List.getD_map (n := w) s.worlds.ws {} fun w : World => (w.worldTime, w.urgent))
    obtain ⟨htimes, hurgent⟩ := Prod.mk.inj hw
    change (z.wd w).timeAtCutoff = _ ∧ (z.wd w).worldTime = _ ∧ (z.wd w).urgent = _ ∧ (z.wd w).urgentTouched = []
    rw [hz]
    exact ⟨htimes, htimes, hurgent, rfl⟩
  · rw [hcounter, hxframe]
    rfl

end

/-- Settles O30. -/
theorem urgentAndCutoff : Obligations.UrgentAndCutoff := by
  unfold Obligations.UrgentAndCutoff
  refine ⟨fun s fn slot j t c r rs hslot hcmd hrec hwaits hdev => ⟨fun hexact hfirst => ⟨?_, ?_⟩, ?_, ?_, ?_⟩,
    fun s t hdev hphase => ⟨brineCutoff_early, brineCutoff_closes hdev hphase⟩⟩
  · exact urgentApply_refuses hslot hcmd hrec hwaits hdev hexact hfirst
  · exact urgentApply_applies hslot hcmd hrec hwaits hdev hexact hfirst
  · exact urgentApply_exact hslot
  · exact urgentCheckpoint_applies hslot hcmd hrec hwaits hdev
  · exact urgentCheckpoint_early

end Sys2Proof.Machine
end

section
/-!
SUPPORT. The obligation on ordinary brine: one record's checks and order (R106, R109), and BRINE_APPLY (R46, R47, R107, R112).
-/
namespace Sys2Proof.Machine

/-! ## Worlds by their number -/

theorem State.wd_modWd {s : State} {w : Nat} (hw : w < s.worlds.ws.length) (f : World → World) :
    (s.modWd w f).wd w = f (s.wd w) := getD_modify_self hw f {}

theorem State.wd_modWd_ne {s : State} {v w : Nat} (h : v ≠ w) (f : World → World) : (s.modWd w f).wd v = s.wd v :=
  getD_modify_ne h.symm s.worlds.ws f {}

/-! ## One record (R106, Table 04.10) -/

section
variable {s : State} {w : Nat} {cmd : Nat × Nat} {r : List Byte} (hload : (s.wd w).loaded = true)
include hload

theorem applyRecord_outOfOrder (hseq : recSeq r ≠ ((s.wd w).lastSeq + 1) % 2 ^ 32) : applyRecord w cmd r s = .inl 0x0403 := by
  unfold applyRecord
  dsimp only
  rw [if_neg (by simp [hload]), if_pos hseq]

section
variable (hseq : recSeq r = ((s.wd w).lastSeq + 1) % 2 ^ 32)
include hseq

theorem applyRecord_early (htime : recTime r < (s.wd w).worldTime) : applyRecord w cmd r s = .inl 0x0404 := by
  unfold applyRecord
  dsimp only
  rw [if_neg (by simp [hload]), if_neg (not_not_intro hseq), if_pos htime]

variable (htime : (s.wd w).worldTime ≤ recTime r) (hw : w < 4) (hlen : s.worlds.ws.length = 4)
include htime hw hlen

/-- A record without content moves SEQUENCE and TIME on. -/
theorem applyRecord_none (htype : recType r = 9) :
    ∃ s', applyRecord w cmd r s = .inr (0, s') ∧
      s'.wd w = { s.wd w with lastSeq := recSeq r, worldTime := recTime r } ∧ (∀ v, v ≠ w → s'.wd v = s.wd v) ∧
      { s' with worlds := s.worlds } = s := by
  refine ⟨_, ?_, ?_, fun v hv => State.wd_modWd_ne hv fun y =>
    { y with lastSeq := recSeq r, worldTime := max y.worldTime (recTime r) }, ?_⟩
  · unfold applyRecord
    dsimp only
    rw [if_neg (by simp [hload]), if_neg (not_not_intro hseq), if_neg (not_lt.mpr htime), htype] <;> rfl
  · rw [State.wd_modWd (hlen ▸ hw), max_eq_right htime]
  · rfl

/-- A record of type 3 replaces the world's mover table. -/
theorem applyRecord_moverTable (htype : recType r = 3) :
    ∃ s', applyRecord w cmd r s = .inr (8 + 96 * getU r 32 2, s') ∧
      (s'.wd w).movers = (recordsOf (r.drop 40) 96 (getU r 32 2)).map (fun b => some (moverOf b)) ∧
      (s'.wd w).lastSeq = recSeq r ∧ (s'.wd w).worldTime = recTime r ∧ (∀ v, v ≠ w → s'.wd v = s.wd v) ∧
      s'.hbm = Mem.writeBytes (moverAddr w 0) (slice r 40 (96 * getU r 32 2) ++
        zeros (96 * ((s.wd w).movers.length - getU r 32 2))) s.hbm ∧
      { s' with worlds := s.worlds, hbm := s.hbm } = s := by
  have hresult : applyRecord w cmd r s = .inr (8 + 96 * getU r 32 2,
      ((s.hbmWrite (moverAddr w 0) (slice r 40 (96 * getU r 32 2) ++
        zeros (96 * ((s.wd w).movers.length - getU r 32 2)))).modWd w fun x => { x with
          movers := (recordsOf (r.drop 40) 96 (getU r 32 2)).map fun b => some (moverOf b) }).modWd w fun y =>
            { y with lastSeq := recSeq r, worldTime := max y.worldTime (recTime r) }) := by
    unfold applyRecord
    dsimp only
    rw [if_neg (by simp [hload]), if_neg (not_not_intro hseq), if_neg (not_lt.mpr htime), htype] <;> rfl
  generalize (recordsOf (r.drop 40) 96 (getU r 32 2)).map (fun b => some (moverOf b)) = ms at hresult ⊢
  generalize slice r 40 (96 * getU r 32 2) ++ zeros (96 * ((s.wd w).movers.length - getU r 32 2)) = rows at hresult ⊢
  generalize hx : s.hbmWrite (moverAddr w 0) rows = x at hresult
  have hxlen : w < x.worlds.ws.length := by
    subst hx
    exact hlen ▸ hw
  have hxwd (v : Nat) : x.wd v = s.wd v := by
    subst hx
    rfl
  have hinner := State.wd_modWd hxlen fun y => { y with movers := ms }
  have houter := State.wd_modWd (s := x.modWd w fun y => { y with movers := ms }) (w := w)
    (by simpa [State.modWd] using hxlen) fun y => { y with lastSeq := recSeq r, worldTime := max y.worldTime (recTime r) }
  rw [hinner, hxwd] at houter
  refine ⟨_, hresult, ?_, ?_, ?_, fun v hv => ?_, ?_, ?_⟩
  · rw [houter]
  · rw [houter]
  · rw [houter]
    exact max_eq_right htime
  · rw [State.wd_modWd_ne hv, State.wd_modWd_ne hv, hxwd]
  · subst hx
    rfl
  · subst hx
    rfl

end

/-- An urgent record sets or clears one slot (R109). -/
theorem applyUrgentRecord_slot (hw : w < 4) (hlen : s.worlds.ws.length = 4)
    (hseq : recSeq r = ((s.wd w).urgentSeq + 1) % 2 ^ 32) (htime : (s.wd w).worldTime ≤ recTime r) (hslot : getU r 32 1 < 16)
    (hurgent : (s.wd w).urgent.length = 16) : ∃ s', applyUrgentRecord w r s = .inr s' ∧
      (s'.wd w).urgent.getD (getU r 32 1) none = (if getU r 33 1 = 0 then some (moverOf (slice r 40 96)) else none) ∧
      (∀ k, k ≠ getU r 32 1 → (s'.wd w).urgent.getD k none = (s.wd w).urgent.getD k none) ∧
      (s'.wd w).urgentSeq = recSeq r ∧ (s'.wd w).worldTime = (s.wd w).worldTime ∧ (∀ v, v ≠ w → s'.wd v = s.wd v) ∧
      s'.hbm = Mem.writeBytes (moverAddr w (1024 + getU r 32 1))
        (if getU r 33 1 = 0 then slice r 40 96 else zeros 96) s.hbm ∧
      { s' with worlds := s.worlds, hbm := s.hbm } = s := by
  have hresult : applyUrgentRecord w r s = .inr ((s.hbmWrite (moverAddr w (1024 + getU r 32 1))
      (if getU r 33 1 = 0 then slice r 40 96 else zeros 96)).modWd w fun y => { y with
        urgentSeq := recSeq r, urgent := y.urgent.set (getU r 32 1) (if getU r 33 1 = 0 then some (moverOf (slice r 40 96)) else none),
        urgentTouched := insertAsc (getU r 32 1) y.urgentTouched }) := by
    unfold applyUrgentRecord
    dsimp only
    rw [if_neg (by simp [hload]), if_neg (not_not_intro hseq), if_neg (not_lt.mpr htime)]
    simp only [beq_iff_eq]
  generalize (if getU r 33 1 = 0 then some (moverOf (slice r 40 96)) else none) = m at hresult ⊢
  generalize (if getU r 33 1 = 0 then slice r 40 96 else zeros 96) = row at hresult ⊢
  generalize getU r 32 1 = k at hresult hslot ⊢
  generalize hx : s.hbmWrite (moverAddr w (1024 + k)) row = x at hresult
  have hxlen : w < x.worlds.ws.length := by
    subst hx
    exact hlen ▸ hw
  have hxwd (v : Nat) : x.wd v = s.wd v := by
    subst hx
    rfl
  have hwd := State.wd_modWd hxlen fun y => { y with
    urgentSeq := recSeq r, urgent := y.urgent.set k m, urgentTouched := insertAsc k y.urgentTouched }
  rw [hxwd] at hwd
  refine ⟨_, hresult, ?_, fun i hi => ?_, ?_, ?_, fun v hv => ?_, ?_, ?_⟩
  · rw [hwd]
    exact getD_set_self (hurgent ▸ hslot) ..
  · rw [hwd]
    exact getD_set_ne hi.symm ..
  · rw [hwd]
  · rw [hwd]
  · rw [State.wd_modWd_ne hv, hxwd]
  · subst hx
    rfl
  · subst hx
    rfl

end

/-! ## The boxes of earlier frames, and a command that waits (R112) -/

/-- The state without commands, worlds and HBM. -/
def State.offBrine (s : State) : State := { s with mbx := { s.mbx with cmds := [] }, worlds := {}, hbm := [] }

theorem State.AtWorlds.offBrine {s s' : State} (h : s.AtWorlds s') : s'.offBrine = s.offBrine := by
  obtain ⟨ws, m, rfl⟩ := h
  rfl

theorem State.AtWorlds.cmd? {s s' : State} (h : s.AtWorlds s') (fn slot : Nat) : s'.cmd? fn slot = s.cmd? fn slot := by
  obtain ⟨ws, m, rfl⟩ := h
  rfl

theorem State.distPan_atWorlds (j : DistJob) (a : CellAddr) (field : List Int) (s : State) : s.AtWorlds (s.distPan j a field) := by
  unfold State.distPan
  dsimp only
  split
  · exact ((State.AtWorlds.refl s).brinePan ..).markDirty ..
  · split
    · exact (((State.AtWorlds.refl s).takeHandle.setDir ..).brinePan ..).markDirty ..
    · exact .refl s

/-- The pans of one converted box are written. -/
def State.writeBox (j : DistJob) (s : State) : State :=
  ((List.range (j.output.getD []).length).foldl (fun s k => match j.cells.getD k none with
    | some a => s.distPan j a ((j.output.getD []).getD k [])
    | none => s) s).modWorlds fun y => { y with ingestUsed := y.ingestUsed + 32832 * (j.output.getD []).length }

theorem State.writeBox_atWorlds (j : DistJob) (s : State) : s.AtWorlds (s.writeBox j) := by
  unfold State.writeBox
  refine State.AtWorlds.modWorlds (State.AtWorlds.foldl (fun s k => ?_) _ s) _
  split
  · exact State.distPan_atWorlds ..
  · exact .refl s

/-- The records of a command of boxes. -/
def Cmd.boxRecords (c : Cmd) : Nat :=
  match delimit (c.bulk.length + c.payload.length) (if c.descs.isEmpty then c.payload.drop 8 else c.bulk) [] with
  | .inr rs => rs.length
  | .inl _ => 0

/-- The answer of the command whose last box was written. -/
def Cmd.boxesDone (no : Nat) (c : Cmd) : Cmd :=
  if c.opcode = 0x0401 ∧ c.stage = .waiting ∧ c.response = none then
    { c with stage := .done, response := some { status := 0, payload := le 4 c.boxRecords ++ le 4 no } }
  else c

/-- One converted box is written, and its command answered with the last one. -/
def State.finishBox (s : State) (j : DistJob) : State :=
  match j.cmd with
  | none => s.writeBox j
  | some l => if (s.writeBox j).worlds.distJobs.any fun o => o.cmd == some l then s.writeBox j
      else (s.writeBox j).modCmd l.1 l.2 (Cmd.boxesDone (s.writeBox j).frameNo)

theorem State.writeBoxes_eq (s : State) : s.writeBoxes =
    (s.worlds.distJobs.filter fun j => j.output.isSome && laterFrame s.frame.counter j.frame).foldl State.finishBox
      (s.modWorlds fun y => { y with
        distJobs := y.distJobs.filter fun j => !(j.output.isSome && laterFrame s.frame.counter j.frame) }) := rfl

theorem State.modCmd_offBrine (fn slot : Nat) (f : Cmd → Cmd) (s : State) : (s.modCmd fn slot f).offBrine = s.offBrine := rfl

theorem State.finishBox_offBrine (s : State) (j : DistJob) : (s.finishBox j).offBrine = s.offBrine := by
  have hbox := (s.writeBox_atWorlds j).offBrine
  unfold State.finishBox
  split
  · exact hbox
  · split
    · exact hbox
    · exact (State.modCmd_offBrine ..).trans hbox

theorem State.writeBoxes_offBrine (s : State) : s.writeBoxes.offBrine = s.offBrine := by
  rw [State.writeBoxes_eq, State.foldl_keeps State.offBrine _ State.finishBox_offBrine]
  rfl

/-- A command in another slot keeps its place. -/
theorem State.cmd?_modCmd_ne {fn slot a b : Nat} (h : (a, b) ≠ (fn, slot)) (f : Cmd → Cmd)
    (hf : ∀ c, (f c).fn = c.fn ∧ (f c).slot = c.slot) (s : State) : (s.modCmd a b f).cmd? fn slot = s.cmd? fn slot := by
  rw [State.cmd?_map s (s.modCmd a b f) (fun c => if c.fn = a ∧ c.slot = b then f c else c) (fun c => ?_) rfl]
  · cases hc : s.cmd? fn slot with
    | none => rfl
    | some c =>
      obtain ⟨rfl, rfl⟩ := State.cmd?_slot hc
      rw [Option.map_some, if_neg fun hab => h (Prod.ext hab.1.symm hab.2.symm)]
  · split
    · exact hf c
    · exact ⟨rfl, rfl⟩

theorem Cmd.boxesDone_slot (no : Nat) (c : Cmd) : (c.boxesDone no).fn = c.fn ∧ (c.boxesDone no).slot = c.slot := by
  unfold Cmd.boxesDone
  split <;> exact ⟨rfl, rfl⟩

/-- A command none of whose boxes is written keeps its place. -/
theorem State.cmd?_writeBoxes {s : State} {fn slot : Nat} (h : ∀ j ∈ s.worlds.distJobs, j.cmd ≠ some (fn, slot)) :
    s.writeBoxes.cmd? fn slot = s.cmd? fn slot := by
  rw [State.writeBoxes_eq]
  refine State.foldl_keeps_of (fun x : State => x.cmd? fn slot) State.finishBox s _ (fun j hj x hx => ?_) _ rfl
  have hbox := ((x.writeBox_atWorlds j).cmd? fn slot).trans hx
  have hother := h j (List.mem_of_mem_filter hj)
  unfold State.finishBox
  split
  · exact hbox
  · next l hl =>
    split
    · exact hbox
    · exact (State.cmd?_modCmd_ne (fun heq => hother (hl.trans (congrArg some heq))) _ (Cmd.boxesDone_slot _) _).trans hbox

end Sys2Proof.Machine
end

section
/-!
SUPPORT. The obligation on ordinary brine: BRINE_APPLY (R46, R47, R106, R107, R112).
-/
namespace Sys2Proof.Machine

/-! ## What the answers over the fabric leave of a brine command's effect -/

theorem State.fabricAnswers_keeps (s : State) : s.fabricAnswers.worlds = s.worlds ∧ s.fabricAnswers.hbm = s.hbm ∧
    s.fabricAnswers.streams = s.streams ∧ s.fabricAnswers.sessions = s.sessions ∧ s.fabricAnswers.frame = s.frame := by
  have hback := s.fabricAnswers_offAnswers
  generalize s.fabricAnswers = y at hback
  exact ⟨(congrArg State.worlds hback :), (congrArg State.hbm hback :), (congrArg State.streams hback :),
    (congrArg State.sessions hback :), (congrArg State.frame hback :)⟩

theorem State.fabricAnswers_reply {fn : Nat} (hfn : fn ≠ fabricFn) (slot : Nat) (s : State) :
    s.fabricAnswers.reply? fn slot = s.reply? fn slot := by
  rw [State.reply?, State.cmd?_fabricAnswers hfn]
  rfl

/-! ## A command is started (R47, R106) -/

/-- What the count of a command's records leaves. -/
theorem State.countBrine_parts (c : Cmd) (n : Nat) (s : State) : (s.countBrine c n).worlds = s.worlds ∧
    (s.countBrine c n).hbm = s.hbm ∧ (s.countBrine c n).frame = s.frame ∧ (s.countBrine c n).mbx = s.mbx := by
  have hrest := s.countBrine_rest c n
  generalize s.countBrine c n = y at hrest
  exact ⟨(congrArg State.worlds hrest :), (congrArg State.hbm hrest :), (congrArg State.frame hrest :), (congrArg State.mbx hrest :)⟩

/-- The state behind a command's writes, before its answer. -/
def State.brineWritten (c : Cmd) (rs : List (List Byte)) (s : State) (n : Nat) (s1 : State) : State :=
  let late := (rs.filter fun r => laterFrame s.frame.counter (recFrame r)).length
  let x := ((s1.captureBrine 2 0 c).modWorlds fun y => { y with ingestUsed := s.ingestStart + n }).bumpHub 1 late
  (((x.modFrame fun f => { f with brineLate := f.brineLate + late }).countBrine c rs.length).freeLanding c).selEvent
    2 0 0x40 0x84 c.layerId c.operatorId n

theorem State.brineWritten_parts {c : Cmd} (hop : c.opcode = 0x0401) (rs : List (List Byte)) (s : State) (n : Nat) (s1 : State) :
    (s.brineWritten c rs n s1).worlds.ws = s1.worlds.ws ∧ (s.brineWritten c rs n s1).worlds.ingestUsed = s.ingestStart + n ∧
      (s.brineWritten c rs n s1).hbm = s1.hbm ∧ (s.brineWritten c rs n s1).frame.brineHeld = s1.frame.brineHeld ∧
      (s.brineWritten c rs n s1).mbx = s1.mbx := by
  have hdet := s1.captureBrine_det 2 0 c
  unfold State.brineWritten
  dsimp only
  generalize s1.captureBrine 2 0 c = x at hdet
  have hworlds : x.worlds = s1.worlds := (congrArg State.worlds hdet :)
  have hhbm : x.hbm = s1.hbm := (congrArg State.hbm hdet :)
  have hframe : x.frame = s1.frame := (congrArg State.frame hdet :)
  have hmbx : x.mbx = s1.mbx := (congrArg State.mbx hdet :)
  rw [State.freeLanding_brine (.inl hop)]
  simp only [State.selEvent_worlds, State.selEvent_hbm, State.selEvent_frame, State.selEvent_mbx, State.modWorlds_worlds,
    State.modWorlds_hbm, State.modWorlds_frame, State.modWorlds_mbx, State.countBrine_parts, State.modFrame_worlds,
    State.modFrame_hbm, State.modFrame_frame, State.modFrame_mbx, State.bumpHub_worlds, State.bumpHub_hbm, State.bumpHub_frame,
    State.bumpHub_mbx, hworlds, hhbm, hframe, hmbx, and_self]

section
variable {s s1 : State} {c : Cmd} {rs : List (List Byte)} {n : Nat}

theorem State.startBrine_refuses {st i : Nat} (h : applyRecords c.world (c.fn, c.slot) 0 rs (0, s) = .inl (st, i)) :
    s.startBrine c rs = ((s.captureBrine 2 0 c).refuse c st i).freeLanding c := by
  unfold State.startBrine
  rw [h]

/-- The boxes of the frame in progress. -/
def State.boxesNow (s : State) (no : BitVec 32) : Nat := (s.worlds.distJobs.filter fun j => j.frame == no).length

theorem State.startBrine_writes (h : applyRecords c.world (c.fn, c.slot) 0 rs (0, s) = .inr (n, s1))
    (hboxes : s1.boxesNow s.frame.counter ≤ 8) (hfit : s.ingestStart + n ≤ s.ingestEnd) :
    s.startBrine c rs = if s1.boxesNow s.frame.counter - s.boxesNow s.frame.counter > 0 then s.brineWritten c rs n s1
      else (s.brineWritten c rs n s1).accept c (le 4 rs.length ++ le 4 s.frameNo) := by
  unfold State.startBrine
  rw [h]
  dsimp only
  rw [if_neg (by
    rintro (hmany | hlong)
    · exact absurd hboxes (not_le.mpr hmany)
    · exact absurd hfit (not_le.mpr hlong))]
  rfl

theorem State.startBrine_holds (h : applyRecords c.world (c.fn, c.slot) 0 rs (0, s) = .inr (n, s1))
    (hlong : 8 < s1.boxesNow s.frame.counter ∨ s.ingestEnd < s.ingestStart + n) : s.startBrine c rs = s.holdBrine c := by
  unfold State.startBrine
  rw [h]
  dsimp only
  exact if_pos hlong

end

/-- A held command waits for the next frame. -/
theorem State.cmd?_holdBrine {s : State} {c : Cmd} (h : s.cmd? c.fn c.slot = some c) :
    (s.holdBrine c).cmd? c.fn c.slot = some { c with frame := s.frame.counter + 1 } := by
  unfold State.holdBrine
  dsimp only
  refine (State.cmd?_modCmd _ c.fn c.slot _ fun x => ?_).trans (congrArg (Option.map _) h)
  exact ⟨rfl, rfl⟩

/-! ## BRINE_APPLY -/

section
variable {s : State} {fn slot t : Nat} {c : Cmd} {rs : List (List Byte)} (hslot : isSlot fn slot)
  (hcmd : s.cmd? fn slot = some c) (hrec : c.recordList = .inr rs) (hdev : s.frame.devState = 1)
  (hwaits : s.brineWaits c 0x0401 = true)
include hslot hcmd hrec hdev hwaits

omit hdev in
/-- Outside the window, out of its turn or before its frame a command is not applied. -/
theorem brineApply_nothing (hno : s.frame.phase ≠ .opened ∨ max s.time.now t < s.frame.openTime + 10 * ticksPerUs ∨
    s.frame.openTime + s.frame.conf.tc * ticksPerUs ≤ max s.time.now t ∨ s.brineFirst c = false ∨
      laterFrame c.frame s.frame.counter = true) :
    ∃ s', exec (.brineApply fn slot t) s = .next s' ∧ { s' with time := s.time } = s := by
  have hrow := (exec_brineApply fn slot t s).trans (ranAt_pos (brineSlotOk_of hslot) ..)
  have heq : State.brineApply fn slot (s.at t) = s.at t := by
    have hwaits' : (s.at t).brineWaits c 0x0401 = true := hwaits
    have hfind : (s.at t).cmdFor fn slot ((s.at t).brineWaits · 0x0401) = some c := State.cmdFor_of hcmd hwaits'
    have hfalse : ((s.at t).ingesting && (s.at t).brineWaits c 0x0401 && (s.at t).brineFirst c &&
        !laterFrame c.frame (s.at t).frame.counter) = false := by
      have hin : (s.at t).ingesting = (s.frame.devState == 1 && decide (s.frame.phase = .opened ∧
        s.frame.openTime + 10 * ticksPerUs ≤ max s.time.now t ∧ max s.time.now t < s.frame.openTime + s.frame.conf.tc * ticksPerUs)) := rfl
      have hfirst : (s.at t).brineFirst c = s.brineFirst c := rfl
      have hcounter : (s.at t).frame.counter = s.frame.counter := rfl
      rw [hin, hfirst, hcounter, Bool.eq_false_iff]
      intro hall
      simp only [Bool.and_eq_true, decide_eq_true_eq, Bool.not_eq_true'] at hall
      obtain ⟨⟨⟨⟨-, hphase, hstart, hend⟩, -⟩, hturn⟩, hframe⟩ := hall
      rcases hno with h | h | h | h | h
      · exact h hphase
      · exact absurd hstart (not_le.mpr h)
      · exact absurd hend (not_lt.mpr h)
      · exact absurd hturn (by simp [h])
      · exact absurd hframe (by simp [h])
    unfold State.brineApply
    rw [hfind]
    dsimp only
    rw [hrec]
    exact State.when_neg hfalse ..
  rw [heq] at hrow
  exact ⟨_, hrow, rfl⟩

omit hslot hrec hdev in
/-- The command stands as it was behind the boxes of earlier frames. -/
theorem cmd?_behindBoxes : (s.at t).writeBoxes.cmd? fn slot = some c := by
  obtain ⟨rfl, rfl⟩ := State.cmd?_slot hcmd
  have hother : ∀ j ∈ (s.at t).worlds.distJobs, j.cmd ≠ some (c.fn, c.slot) := by
    intro j hj heq
    unfold State.brineWaits at hwaits
    simp only [Bool.and_eq_true, Bool.not_eq_true'] at hwaits
    exact absurd (List.any_eq_false.mp hwaits.2 j hj) (by simp [heq])
  exact (State.cmd?_writeBoxes hother).trans hcmd

section
variable (hphase : s.frame.phase = .opened) (hstart : s.frame.openTime + 10 * ticksPerUs ≤ max s.time.now t)
  (hend : max s.time.now t < s.frame.openTime + s.frame.conf.tc * ticksPerUs) (hfirst : s.brineFirst c = true)
  (hframe : laterFrame c.frame s.frame.counter = false)
include hphase hstart hend hfirst hframe

theorem brineApply_row : exec (.brineApply fn slot t) s =
    .next { ((s.at t).writeBoxes.startBrine c rs).fabricAnswers with pending := s.pending } := by
  have hrow := (exec_brineApply fn slot t s).trans (ranAt_pos (brineSlotOk_of hslot) ..)
  have heq : State.brineApply fn slot (s.at t) = ((s.at t).writeBoxes.startBrine c rs).fabricAnswers := by
    have hwaits' : (s.at t).brineWaits c 0x0401 = true := hwaits
    have hfind : (s.at t).cmdFor fn slot ((s.at t).brineWaits · 0x0401) = some c := State.cmdFor_of hcmd hwaits'
    have hin : (s.at t).ingesting = true := by
      have hdev' : (s.at t).frame.devState = 1 := hdev
      unfold State.ingesting
      rw [hdev']
      exact decide_eq_true (p := s.frame.phase = .opened ∧ s.frame.openTime + 10 * ticksPerUs ≤ max s.time.now t ∧
        max s.time.now t < s.frame.openTime + s.frame.conf.tc * ticksPerUs) ⟨hphase, hstart, hend⟩
    have hfirst' : (s.at t).brineFirst c = true := hfirst
    have hframe' : laterFrame c.frame (s.at t).frame.counter = false := hframe
    unfold State.brineApply
    rw [hfind]
    dsimp only
    rw [hrec]
    exact State.when_pos (by rw [hin, hwaits', hfirst', hframe']; rfl) ..
  rw [heq] at hrow
  exact hrow

/-- A record that fails its checks refuses the command, and its world keeps its content. -/
theorem brineApply_refuses (st i : Nat)
    (hbad : applyRecords c.world (fn, slot) 0 rs (0, (s.at t).writeBoxes) = .inl (st, i)) :
    ∃ s', exec (.brineApply fn slot t) s = .next s' ∧ s'.reply? fn slot = some (refusal st i) ∧
      s'.worlds = { (s.at t).writeBoxes.worlds with
        landingUsed := (s.at t).writeBoxes.worlds.landingUsed - c.fetchBytes } ∧
      s'.hbm = (s.at t).writeBoxes.hbm ∧ s'.streams = s.streams ∧ s'.sessions = s.sessions := by
  have hrow := brineApply_row (t := t) hslot hcmd hrec hdev hwaits hphase hstart hend hfirst hframe
  have hat := cmd?_behindBoxes (t := t) hcmd hwaits
  have hoff := (s.at t).writeBoxes_offBrine
  obtain ⟨hop, hopen⟩ := State.brineWaits_fields hwaits
  generalize (s.at t).writeBoxes = x at hrow hat hoff hbad ⊢
  obtain ⟨hfn, hsl⟩ := State.cmd?_slot hat
  rw [← hfn, ← hsl] at hbad
  rw [State.startBrine_refuses hbad] at hrow
  have hdet := x.captureBrine_det 2 0 c
  generalize x.captureBrine 2 0 c = y at hdet hrow
  have hmbx : y.mbx = x.mbx := (congrArg State.mbx hdet :)
  have hworlds : y.worlds = x.worlds := (congrArg State.worlds hdet :)
  have hreply : ((y.refuse c st i).freeLanding c).reply? fn slot = some (refusal st i) := by
    rw [State.freeLanding_brine (.inl hop)]
    exact State.reply?_refuse hmbx hat hopen st i
  have hfreed : ((y.refuse c st i).freeLanding c).worlds = { x.worlds with landingUsed := x.worlds.landingUsed - c.fetchBytes } := by
    rw [State.freeLanding_brine (.inl hop), ← hworlds]
    rfl
  have hrest : ((y.refuse c st i).freeLanding c).hbm = x.hbm ∧ ((y.refuse c st i).freeLanding c).streams = s.streams ∧
      ((y.refuse c st i).freeLanding c).sessions = s.sessions := by
    rw [State.freeLanding_brine (.inl hop)]
    exact ⟨(congrArg State.hbm hdet :), (congrArg State.streams hdet :).trans (congrArg State.streams hoff :),
      (congrArg State.sessions hdet :).trans (congrArg State.sessions hoff :)⟩
  generalize (y.refuse c st i).freeLanding c = z at hrow hreply hfreed hrest
  obtain ⟨hzw, hzh, hzst, hzse, -⟩ := z.fabricAnswers_keeps
  exact ⟨_, hrow, (State.fabricAnswers_reply (isSlot_ne_fabric hslot) slot z).trans hreply, hzw.trans hfreed, hzh.trans hrest.1,
    hzst.trans hrest.2.1, hzse.trans hrest.2.2⟩

variable {s1 : State} {n : Nat}
  (hgood : applyRecords c.world (fn, slot) 0 rs (0, (s.at t).writeBoxes) = .inr (n, s1))
include hgood

/-- A command whose writes fit takes effect, and is answered unless boxes of its own still wait. -/
theorem brineApply_writes (hboxes : (s1.worlds.distJobs.filter fun j => j.frame == s.frame.counter).length ≤ 8)
    (hfit : (s.at t).writeBoxes.ingestStart + n ≤ s.ingestEnd) :
    ∃ s', exec (.brineApply fn slot t) s = .next s' ∧ s'.worlds.ws = s1.worlds.ws ∧
      s'.hbm = s1.hbm ∧ s'.worlds.ingestUsed = (s.at t).writeBoxes.ingestStart + n ∧ s'.frame.brineHeld = s.frame.brineHeld ∧
      (s1.worlds.distJobs = (s.at t).writeBoxes.worlds.distJobs → s'.reply? fn slot =
        some (okReply (le 4 rs.length ++ le 4 s.frame.counter.toNat))) ∧
      (((s.at t).writeBoxes.worlds.distJobs.filter fun j => j.frame == s.frame.counter).length <
        (s1.worlds.distJobs.filter fun j => j.frame == s.frame.counter).length → s'.waitsAt fn slot) := by
  have hrow := brineApply_row (t := t) hslot hcmd hrec hdev hwaits hphase hstart hend hfirst hframe
  have hat := cmd?_behindBoxes (t := t) hcmd hwaits
  have hoff := (s.at t).writeBoxes_offBrine
  obtain ⟨hop, hopen⟩ := State.brineWaits_fields hwaits
  have hstage : c.stage = .waiting := by
    unfold State.brineWaits at hwaits
    simp only [Bool.and_eq_true, beq_iff_eq] at hwaits
    exact hwaits.1.1.1.2
  generalize (s.at t).writeBoxes = x at hrow hat hoff hgood hfit ⊢
  have hxframe : x.frame = s.frame := (congrArg State.frame hoff :)
  have hxdet : x.det = s.det := (congrArg State.det hoff :)
  have hxend : x.ingestEnd = s.ingestEnd := by
    unfold State.ingestEnd State.ingestRate
    rw [hxframe, hxdet]
  obtain ⟨hfn, hsl⟩ := State.cmd?_slot hat
  have hats : x.AtWorlds s1 := applyRecords_atWorlds c.world (fn, slot) rs 0 (0, x) (n, s1) (.refl x) hgood
  have hs1frame : s1.frame = s.frame := by
    obtain ⟨ws, m, rfl⟩ := hats
    exact hxframe
  have hs1cmd := hats.cmd? fn slot
  rw [← hfn, ← hsl] at hgood
  have hboxes' : s1.boxesNow x.frame.counter ≤ 8 := by
    rw [hxframe]
    exact hboxes
  rw [State.startBrine_writes hgood hboxes' (hxend ▸ hfit)] at hrow
  obtain ⟨hws, hused, hhbm, hheld, hmbx⟩ := State.brineWritten_parts hop rs x n s1
  generalize x.brineWritten c rs n s1 = y at hrow hws hused hhbm hheld hmbx
  have hycmd : y.cmd? fn slot = some c := (State.cmd?_mbx hmbx fn slot).trans (hs1cmd.trans hat)
  have hno : x.frameNo = s.frame.counter.toNat := congrArg (fun f : Frame => f.counter.toNat) hxframe
  have hheld' := hheld.trans (congrArg Frame.brineHeld hs1frame)
  by_cases hown : s1.boxesNow x.frame.counter - x.boxesNow x.frame.counter > 0
  · rw [if_pos hown] at hrow
    obtain ⟨hzw, hzh, -, -, hzf⟩ := y.fabricAnswers_keeps
    refine ⟨_, hrow, (congrArg Worlds.ws hzw).trans hws, hzh.trans hhbm, (congrArg Worlds.ingestUsed hzw).trans hused,
      (congrArg Frame.brineHeld hzf).trans hheld', fun hsame => ?_, fun _ => ?_⟩
    · exact absurd hown (by unfold State.boxesNow; rw [hsame]; simp)
    · exact ⟨c, (State.cmd?_fabricAnswers (isSlot_ne_fabric hslot) slot y).trans hycmd, hstage, hopen⟩
  · rw [if_neg hown, hno] at hrow
    have hreply : (y.accept c (le 4 rs.length ++ le 4 s.frame.counter.toNat)).reply? fn slot =
        some (okReply (le 4 rs.length ++ le 4 s.frame.counter.toNat)) := State.reply?_accept rfl hycmd hopen _
    obtain ⟨hzw, hzh, -, -, hzf⟩ := (y.accept c (le 4 rs.length ++ le 4 s.frame.counter.toNat)).fabricAnswers_keeps
    refine ⟨_, hrow, (congrArg Worlds.ws hzw).trans hws, hzh.trans hhbm, (congrArg Worlds.ingestUsed hzw).trans hused,
      (congrArg Frame.brineHeld hzf).trans hheld', fun _ => ?_, fun hmore => ?_⟩
    · exact (State.fabricAnswers_reply (isSlot_ne_fabric hslot) slot _).trans hreply
    · rw [hxframe] at hown
      exact absurd (Nat.sub_pos_of_lt hmore) hown

/-- A command that does not fit is held for the next frame. -/
theorem brineApply_holds (hlong : 8 < (s1.worlds.distJobs.filter fun j => j.frame == s.frame.counter).length ∨
    s.ingestEnd < (s.at t).writeBoxes.ingestStart + n) :
    ∃ s', exec (.brineApply fn slot t) s = .next s' ∧ s'.worlds = (s.at t).writeBoxes.worlds ∧
      s'.hbm = (s.at t).writeBoxes.hbm ∧ s'.frame.brineHeld = s.frame.brineHeld + 1 ∧
      (∃ c', s'.cmd? fn slot = some c' ∧ c'.frame = s.frame.counter + 1 ∧ c'.stage = .waiting ∧ c'.response = none) := by
  have hrow := brineApply_row (t := t) hslot hcmd hrec hdev hwaits hphase hstart hend hfirst hframe
  have hat := cmd?_behindBoxes (t := t) hcmd hwaits
  have hoff := (s.at t).writeBoxes_offBrine
  obtain ⟨hop, hopen⟩ := State.brineWaits_fields hwaits
  have hstage : c.stage = .waiting := by
    unfold State.brineWaits at hwaits
    simp only [Bool.and_eq_true, beq_iff_eq] at hwaits
    exact hwaits.1.1.1.2
  generalize (s.at t).writeBoxes = x at hrow hat hoff hgood hlong ⊢
  have hxframe : x.frame = s.frame := (congrArg State.frame hoff :)
  have hxdet : x.det = s.det := (congrArg State.det hoff :)
  have hxend : x.ingestEnd = s.ingestEnd := by
    unfold State.ingestEnd State.ingestRate
    rw [hxframe, hxdet]
  obtain ⟨hfn, hsl⟩ := State.cmd?_slot hat
  rw [← hfn, ← hsl] at hgood
  have hlong' : 8 < s1.boxesNow x.frame.counter ∨ x.ingestEnd < x.ingestStart + n := by
    rw [hxframe, hxend]
    exact hlong
  rw [State.startBrine_holds hgood hlong'] at hrow
  have hheld := State.cmd?_holdBrine (s := x) (c := c) (by rwa [hfn, hsl])
  rw [hfn, hsl] at hheld
  have hparts : (x.holdBrine c).worlds = x.worlds ∧ (x.holdBrine c).hbm = x.hbm ∧
      (x.holdBrine c).frame.brineHeld = x.frame.brineHeld + 1 := ⟨rfl, rfl, rfl⟩
  generalize x.holdBrine c = z at hrow hheld hparts
  obtain ⟨hzw, hzh, -, -, hzf⟩ := z.fabricAnswers_keeps
  exact ⟨_, hrow, hzw.trans hparts.1, hzh.trans hparts.2.1, (congrArg Frame.brineHeld hzf).trans
    (hparts.2.2.trans (congrArg (fun f : Frame => f.brineHeld + 1) hxframe)), _,
    (State.cmd?_fabricAnswers (isSlot_ne_fabric hslot) slot z).trans hheld, congrArg (fun f : Frame => f.counter + 1) hxframe,
    hstage, hopen⟩

end
end

/-- Settles O29. -/
theorem brineAppliesInOrder : Obligations.BrineAppliesInOrder := by
  unfold Obligations.BrineAppliesInOrder
  refine ⟨fun s w cmd r hw hlen hload => ⟨applyRecord_outOfOrder hload, applyRecord_early hload, fun hseq htime htype => ?_,
    fun hseq htime htype => ?_, applyUrgentRecord_slot hload hw hlen⟩, fun s fn slot t c rs hslot hcmd hrec hdev hwaits =>
    ⟨fun hphase hstart hend hfirst hframe => ⟨?_, fun n s1 hgood => ⟨?_, ?_⟩⟩, ?_⟩⟩
  · exact applyRecord_none hload hseq htime hw hlen htype
  · exact applyRecord_moverTable hload hseq htime hw hlen htype
  · exact brineApply_refuses hslot hcmd hrec hdev hwaits hphase hstart hend hfirst hframe
  · exact brineApply_writes hslot hcmd hrec hdev hwaits hphase hstart hend hfirst hframe hgood
  · exact brineApply_holds hslot hcmd hrec hdev hwaits hphase hstart hend hfirst hframe hgood
  · exact brineApply_nothing hslot hcmd hrec hwaits

end Sys2Proof.Machine
end

section
/-!
SUPPORT. A cluster apart from its counters, and what the end of a check operation does to it (R70, R160, R162, R454).
-/
namespace Sys2Proof.Machine

/-! ## Clusters apart from their counters -/

/-- A cluster without its counters. -/
def Cluster.still (c : Cluster) : Cluster := { c with counters := [], selCounters := [] }

/-- Every cluster without its counters. -/
def State.stillCls (s : State) : List Cluster := s.clusters.map Cluster.still

theorem State.still_cl (s : State) (p : Nat) : (s.cl p).still = s.stillCls.getD p (Cluster.still {}) :=
  (List.getD_map (n := p) s.clusters {} Cluster.still).symm

theorem State.still_of_stillCls {s s' : State} (h : s'.stillCls = s.stillCls) (p : Nat) : (s'.cl p).still = (s.cl p).still := by
  rw [State.still_cl, State.still_cl, h]

theorem State.clusters_length_of_still {s s' : State} (h : s'.stillCls = s.stillCls) : s'.clusters.length = s.clusters.length := by
  have hlen := congrArg List.length h
  simpa [State.stillCls] using hlen

theorem State.cl_modCl_ne {s : State} {p q : Nat} (h : q ≠ p) (f : Cluster → Cluster) : (s.modCl p f).cl q = s.cl q :=
  getD_modify_ne h.symm s.clusters f {}

theorem State.clusters_length_modCl (s : State) (p : Nat) (f : Cluster → Cluster) :
    (s.modCl p f).clusters.length = s.clusters.length := by
  simp [State.modCl]

theorem State.modCl_stillCls {f : Cluster → Cluster} (hf : ∀ c, (f c).still = c.still) (p : Nat) (s : State) :
    (s.modCl p f).stillCls = s.stillCls := map_modify_of Cluster.still hf s.clusters p

theorem State.addSel_stillCls (scope inst idx k : Nat) (s : State) : (s.addSel scope inst idx k).stillCls = s.stillCls := by
  unfold State.addSel
  dsimp only
  split
  · exact State.modCl_stillCls (by intro; rfl) inst s
  · split <;> rfl

theorem State.selEvent_stillCls (scope inst event qual layer op k : Nat) (s : State) :
    (s.selEvent scope inst event qual layer op k).stillCls = s.stillCls := by
  unfold State.selEvent
  refine State.foldl_keeps State.stillCls _ (fun x e => ?_) _ _
  split
  · exact State.addSel_stillCls ..
  · rfl

theorem State.bumpCl_stillCls (p i k : Nat) (s : State) : (s.bumpCl p i k).stillCls = s.stillCls :=
  State.modCl_stillCls (by intro; rfl) p s

theorem State.busy_stillCls (p i : Nat) (s : State) : (s.busy p i).stillCls = s.stillCls := State.bumpCl_stillCls ..

/-! ## Events and errors leave the clusters -/

theorem State.AtEvents.clusters {s s' : State} (h : s.AtEvents s') : s'.clusters = s.clusters := by
  obtain ⟨pc, rs, ss, ho, l, rfl⟩ := h
  rfl

theorem State.contained_clusters (code stack cluster stream arg : Nat) (quiet : Bool) (s : State) :
    (s.contained code stack cluster stream arg quiet).clusters = s.clusters := by
  unfold State.contained
  dsimp only
  split
  · rw [State.traceError_clusters, State.logError_clusters]
  · rw [(State.warn_atEvents ..).clusters, State.modErrors_clusters, State.traceError_clusters, State.logError_clusters]

theorem State.panFault_clusters (p h : Nat) (s : State) : (s.panFault p h).clusters = s.clusters := by
  unfold State.panFault
  exact State.contained_clusters ..

/-! ## The end of a sweep (R70, R160, R162) -/

/-- A cluster that raises arithmetic flags. -/
def Cluster.raise (flags : Nat) (c : Cluster) : Cluster :=
  { c with arithFlags := c.arithFlags ||| flags, arithFrame := c.arithFrame ||| flags }

theorem State.raiseArith_stillCls (p flags guards : Nat) (s : State) :
    (s.raiseArith p flags guards).stillCls = (s.modCl p (Cluster.raise flags)).stillCls := by
  unfold State.raiseArith
  refine (State.foldl_keeps State.stillCls _ (fun x i => ?_) _ _).trans (State.bumpCl_stillCls ..)
  split
  · exact State.selEvent_stillCls ..
  · rfl

/-- The like of two states under one update of a cluster that does not look at counters. -/
theorem State.modCl_stillCls_congr {s s' : State} {f : Cluster → Cluster} (hf : ∀ c, (f c).still = (f c.still).still)
    (h : s'.stillCls = s.stillCls) (p : Nat) : (s'.modCl p f).stillCls = (s.modCl p f).stillCls := by
  have hmodify (l : List Cluster) : (l.modify p f).map Cluster.still =
      (l.map Cluster.still).modify p fun c => (f c).still := by
    refine List.ext_getElem? fun i => ?_
    simp only [List.getElem?_map, List.getElem?_modify]
    cases l[i]? with
    | none => rfl
    | some c =>
      by_cases hi : p = i
      · simp [hi, hf c]
      · simp [hi]
  change (s'.clusters.modify p f).map Cluster.still = (s.clusters.modify p f).map Cluster.still
  rw [hmodify, hmodify]
  exact congrArg (fun l : List Cluster => l.modify p fun c => (f c).still) h

theorem State.afterSweep_stillCls (p kind : Nat) (x : Progress) (layer op : Nat) (s : State) :
    (s.afterSweep p kind x layer op).stillCls = (s.modCl p (Cluster.raise x.flags)).stillCls := by
  unfold State.afterSweep
  dsimp only
  rw [State.foldl_keeps State.stillCls _ (fun y h => congrArg (List.map Cluster.still) (y.panFault_clusters p h)),
    State.selEvent_stillCls, State.raiseArith_stillCls]
  exact State.modCl_stillCls_congr (by intro; rfl) (State.busy_stillCls ..) p

/-- What a check operation's end writes apart from clusters: errors, events, counters, bad handles and a free value. -/
def State.offSweep (s : State) := (s.streams, s.hbm, s.safety, s.frame, s.images, { s.worlds with badHandles := [] })

theorem State.panFault_offSweep (p h : Nat) (s : State) : (s.panFault p h).offSweep = s.offSweep := by
  unfold State.panFault State.offSweep
  simp

theorem State.selEvent_offSweep (scope inst event qual layer op k : Nat) (s : State) :
    (s.selEvent scope inst event qual layer op k).offSweep = s.offSweep := by
  unfold State.offSweep
  simp

theorem State.raiseArith_offSweep (p flags guards : Nat) (s : State) : (s.raiseArith p flags guards).offSweep = s.offSweep := by
  unfold State.raiseArith
  refine (State.foldl_keeps State.offSweep _ (fun x i => ?_) _ _).trans rfl
  split
  · exact State.selEvent_offSweep ..
  · rfl

theorem State.afterSweep_offSweep (p kind : Nat) (x : Progress) (layer op : Nat) (s : State) :
    (s.afterSweep p kind x layer op).offSweep = s.offSweep := by
  unfold State.afterSweep
  dsimp only
  rw [State.foldl_keeps State.offSweep _ (fun y h => State.panFault_offSweep p h y), State.selEvent_offSweep,
    State.raiseArith_offSweep]
  rfl

theorem mem_insertAsc_of_mem {n k : Nat} : ∀ {l : List Nat}, k ∈ l → k ∈ insertAsc n l
  | m :: l, h => by
    unfold insertAsc
    split
    · exact List.mem_cons_of_mem n h
    · split
      · exact h
      · obtain rfl | h := List.mem_cons.mp h
        · exact List.mem_cons_self
        · exact List.mem_cons_of_mem m (mem_insertAsc_of_mem h)

/-- The bad handles only grow. -/
theorem State.panFault_badHandles (p k : Nat) (s : State) {h : Nat} (hbad : h ∈ s.worlds.badHandles ∨ h = k) :
    h ∈ (s.panFault p k).worlds.badHandles := by
  have hworlds : (s.panFault p k).worlds.badHandles = insertAsc k s.worlds.badHandles := by
    unfold State.panFault
    simp
  rw [hworlds]
  obtain hold | rfl := hbad
  · exact mem_insertAsc_of_mem hold
  · exact mem_insertAsc_self ..

/-- The cluster that a verdict ends on: its flags, and the verdict's record. -/
def Cluster.judged (flags : Nat) (v : Verdict) (c : Cluster) : Cluster :=
  { c.raise flags with verdicts := c.verdicts ++ [v] }

theorem State.verdictDone_stillCls (p kind phase : Nat) (x : Stream) (g : Nat) (r : Progress) (v : Verdict) (s : State) :
    (s.verdictDone p kind phase x g r v).stillCls = (s.modCl p (Cluster.judged r.flags v)).stillCls := by
  have hdigest (y : State) (a b c d e : Nat) (out : List Byte) : (y.opDigest a b c d e out).stillCls = y.stillCls := by
    unfold State.opDigest
    split <;> rfl
  unfold State.verdictDone
  rw [hdigest, State.modCl_stillCls_congr (by intro; rfl) (State.afterSweep_stillCls ..) p]
  refine congrArg (List.map Cluster.still) ?_
  exact (List.modify_modify_eq ..)

theorem State.verdictDone_offSweep (p kind phase : Nat) (x : Stream) (g : Nat) (r : Progress) (v : Verdict) (s : State) :
    (s.verdictDone p kind phase x g r v).offSweep = s.offSweep := by
  have hdigest (y : State) (a b c d e : Nat) (out : List Byte) : (y.opDigest a b c d e out).offSweep = y.offSweep := by
    unfold State.opDigest
    split <;> rfl
  unfold State.verdictDone
  rw [hdigest]
  exact State.afterSweep_offSweep ..

end Sys2Proof.Machine
end

section
/-!
SUPPORT. The obligation on boxes and resolution: DIST_BUILD (R110-R112).
-/
namespace Sys2Proof.Machine

/-! ## Conversion of a box -/

/-- Digests of operations touch the digests alone. -/
theorem State.opDigest_digests (a b c d e : Nat) (out : List Byte) (s : State) : ∃ l,
    s.opDigest a b c d e out = { s with det := { s.det with opDigests := l } } ∧ (s.det.opDigest = false → l = s.det.opDigests) := by
  unfold State.opDigest
  split
  · next h => exact ⟨_, rfl, fun hno => absurd (h.symm.trans hno) (by decide)⟩
  · exact ⟨_, rfl, fun _ => rfl⟩

/-- A fold of steps that commute with an update commutes with it. -/
theorem State.foldl_commutes {α : Type} {g : State → α → State} {u : State → State} (h : ∀ x a, g (u x) a = u (g x a)) :
    ∀ (l : List α) (s : State), l.foldl g (u s) = u (l.foldl g s)
  | [], _ => rfl
  | a :: l, s => by rw [List.foldl_cons, List.foldl_cons, h, State.foldl_commutes h l]

/-- One field of a box is written to its place of the output area (R111). -/
def State.writeField (job : Nat) (j : DistJob) (out : List (List Int)) (s : State) (k : Nat) : State :=
  match j.cells.getD k none with
  | none => s
  | some a => s.hbmWrite (distAddr (job % 8) k) (panHead 0 a 4 j.snapshot j.seq 56
      (crc32c (s.distPayload j a (out.getD k []))) (s.distPayload j a (out.getD k [])) ++ s.distPayload j a (out.getD k []))

theorem State.distOutput_eq (job : Nat) (j : DistJob) (out : List (List Int)) (s : State) :
    s.distOutput job j out = (List.range out.length).foldl (State.writeField job j out) s := rfl

theorem State.distPayload_congr {s s' : State} (hw : s'.worlds = s.worlds) (hm : s'.hbm = s.hbm) (j : DistJob) (a : CellAddr)
    (field : List Int) : s'.distPayload j a field = s.distPayload j a field := by
  have hdir (i : Nat) : s'.dirEntry i = s.dirEntry i := by
    unfold State.dirEntry
    rw [hm]
  have hfine (b i : Nat) : s'.fineEntry b i = s.fineEntry b i := by
    unfold State.fineEntry
    rw [hm]
  have hpan : s'.panAt j.world a = s.panAt j.world a := by
    unfold State.panAt State.wd
    simp only [hw, hdir, hfine]
  have hload (h : Nat) : s'.panPayload h = s.panPayload h := by
    unfold State.panPayload
    rw [hm]
  unfold State.distPayload
  rw [hpan, hdir]
  simp only [hload, State.wd, hw]

/-- Writing a field does not look at the determinism. -/
theorem State.writeField_det (job : Nat) (j : DistJob) (out : List (List Int)) (d : Determinism) (s : State) (k : Nat) :
    State.writeField job j out { s with det := d } k = { State.writeField job j out s k with det := d } := by
  have hload (a : CellAddr) (l : List Int) := State.distPayload_congr (s := s) (s' := { s with det := d }) rfl rfl j a l
  unfold State.writeField
  generalize j.cells.getD k none = o
  cases o with
  | none => rfl
  | some a =>
    dsimp only
    rw [hload]
    generalize s.distPayload j a _ = b
    generalize panHead 0 a 4 j.snapshot j.seq 56 (crc32c b) b ++ b = bs
    rfl

theorem State.distOutput_det (job : Nat) (j : DistJob) (out : List (List Int)) (d : Determinism) (s : State) :
    ({ s with det := d } : State).distOutput job j out = { s.distOutput job j out with det := d } := by
  rw [State.distOutput_eq, State.distOutput_eq]
  exact State.foldl_commutes (u := fun x => { x with det := d }) (State.writeField_det job j out d) _ s

theorem State.distOutput_hbm (job : Nat) (j : DistJob) (out : List (List Int)) (s : State) :
    ∃ m, s.distOutput job j out = { s with hbm := m } := by
  refine State.foldl_inv (fun x => ∃ m, x = { s with hbm := m }) (State.writeField job j out) (fun x k hx => ?_) _ s ⟨_, rfl⟩
  obtain ⟨m, rfl⟩ := hx
  unfold State.writeField
  split
  · exact ⟨m, rfl⟩
  · exact ⟨_, rfl⟩

section
variable {s : State} {job t : Nat} {j : DistJob}

/-- A box is converted from T_c of its frame on, into its place of the output area (R110, R111). -/
theorem distBuild_converts (hj : s.worlds.distJobs[job]? = some j) (hout : j.output = none)
    (hdue : laterFrame s.frame.counter j.frame = true ∨
      j.frame = s.frame.counter ∧ s.frame.phase ≠ .closed ∧ s.frame.phase ≠ .opened) :
    ∃ s', exec (.distBuild job t) s = .next s' ∧ s'.worlds.distJobs[job]? = some { j with output := some ((s.at t).distField j) } ∧
      (∀ i, i ≠ job → s'.worlds.distJobs[i]? = s.worlds.distJobs[i]?) ∧ s' = { s.at t with
        worlds := s'.worlds, hbm := s'.hbm, det := s'.det } ∧ { s'.det with opDigests := s.det.opDigests } = s.det ∧
      (s.det.opDigest = false → s'.det = s.det) ∧ s'.hbm = ((s.at t).distOutput job j ((s.at t).distField j)).hbm ∧
      { s'.worlds with distJobs := s.worlds.distJobs } = s.worlds := by
  have hrow := (exec_distBuild job t s).trans (ranAt_pos rfl ..)
  obtain ⟨l, hl, hsame⟩ := (s.at t).opDigest_digests 4 0xFFFF 0xFFFF 0xFF job
    ((((s.at t).distField j).flatten).flatMap (leS 2))
  obtain ⟨m, hm⟩ := (s.at t).distOutput_hbm job j ((s.at t).distField j)
  have heq : State.distBuild job (s.at t) = { s.at t with
      hbm := m, det := { s.det with opDigests := l },
      worlds := { s.worlds with distJobs := s.worlds.distJobs.modify job fun x =>
        { x with output := some ((s.at t).distField j) } } } := by
    have hj' : (s.at t).worlds.distJobs[job]? = some j := hj
    have hdue' : (j.output.isNone && (laterFrame (s.at t).frame.counter j.frame ||
        (j.frame == (s.at t).frame.counter && (s.at t).frame.phase != .closed && (s.at t).frame.phase != .opened))) = true := by
      change (j.output.isNone && (laterFrame s.frame.counter j.frame ||
        (j.frame == s.frame.counter && s.frame.phase != .closed && s.frame.phase != .opened))) = true
      simpa [hout, and_assoc] using hdue
    unfold State.distBuild
    rw [hj']
    dsimp only
    rw [State.when_pos hdue', hl, State.distOutput_det, hm]
    rfl
  rw [heq] at hrow
  generalize (s.at t).distField j = out at hrow hm ⊢
  refine ⟨_, hrow, ?_, fun i hi => ?_, rfl, rfl, fun hno => ?_, ?_, rfl⟩
  · change (s.worlds.distJobs.modify job _)[job]? = _
    rw [List.getElem?_modify_eq, hj]
    rfl
  · change (s.worlds.distJobs.modify job _)[i]? = _
    simp [List.getElem?_modify, hi.symm]
  · change { s.det with opDigests := l } = s.det
    rw [hsame hno]
    rfl
  · rw [hm]

/-- Before T_c of its frame a box waits. -/
theorem distBuild_early (hj : s.worlds.distJobs[job]? = some j) (hframe : j.frame = s.frame.counter)
    (hphase : s.frame.phase = .opened) :
    ∃ s', exec (.distBuild job t) s = .next s' ∧ { s' with time := s.time } = s := by
  have hrow := (exec_distBuild job t s).trans (ranAt_pos rfl ..)
  have heq : State.distBuild job (s.at t) = s.at t := by
    have hj' : (s.at t).worlds.distJobs[job]? = some j := hj
    unfold State.distBuild
    rw [hj']
    refine State.when_neg ?_ ..
    change (j.output.isNone && (laterFrame s.frame.counter j.frame ||
      (j.frame == s.frame.counter && s.frame.phase != .closed && s.frame.phase != .opened))) = false
    rw [hframe, hphase]
    simp [laterFrame]
  rw [heq] at hrow
  exact ⟨_, hrow, rfl⟩

end

/-! ## Resolution without a parked query -/

theorem resolution_nothing {s : State} {p q t : Nat} (hp : p < 64) (hno : (s.cl p).parked[q]? = none) (r : HbmRead) :
    ∃ s', exec (.resolutionRequest p q r t) s = .next s' ∧ { s' with time := s.time } = s := by
  have hrow := (exec_resolutionRequest p q r t s).trans (ranAt_pos (by simpa [below] using hp) ..)
  have heq : State.resolution p q r (s.at t) = s.at t := by
    have hno' : ((s.at t).cl p).parked[q]? = none := hno
    unfold State.resolution
    rw [hno']
  rw [heq] at hrow
  exact ⟨_, hrow, rfl⟩

end Sys2Proof.Machine
end

section
/-!
SUPPORT. The resolution of a parked query (R161-R163): the table takes its keys, and a query whose pans are there leaves.
-/
namespace Sys2Proof.Machine

/-! ## The resolution table (R159, R163) -/

/-- A resolution changes the table and the order of its reads alone. -/
theorem Cluster.resolve_rest (c : Cluster) (k : Nat × Nat) :
    { c.resolve k with resolved := c.resolved, readOrder := c.readOrder } = c := by
  unfold Cluster.resolve
  dsimp only
  split <;> rfl

/-- While the table has room a resolution adds at most one entry, and keeps every key. -/
theorem Cluster.resolve_keeps {c : Cluster} (hroom : c.resolved.length < 2048) (k : Nat × Nat) :
    (c.resolve k).resolved.length ≤ c.resolved.length + 1 ∧ (∃ n, (k.1, k.2, n) ∈ (c.resolve k).resolved) ∧
      ∀ a b n, (a, b, n) ∈ c.resolved → ∃ m, (a, b, m) ∈ (c.resolve k).resolved := by
  unfold Cluster.resolve
  dsimp only
  rw [if_pos hroom]
  split
  · next hknown =>
    obtain ⟨r, hr, hkey⟩ := List.any_eq_true.mp hknown
    refine ⟨by simp, ⟨c.readOrder, List.mem_map.mpr ⟨r, hr, if_pos hkey⟩⟩, fun a b n hmem => ?_⟩
    by_cases hab : (a == k.1 && b == k.2) = true
    · obtain ⟨rfl, rfl⟩ : a = k.1 ∧ b = k.2 := by simpa using hab
      exact ⟨c.readOrder, List.mem_map.mpr ⟨_, hmem, if_pos hab⟩⟩
    · exact ⟨n, List.mem_map.mpr ⟨_, hmem, if_neg hab⟩⟩
  · exact ⟨by simp, ⟨c.readOrder, by simp⟩, fun a b n hmem => ⟨n, List.mem_append_left _ hmem⟩⟩

theorem Cluster.resolveAll_rest (l : List (Nat × Nat)) (c : Cluster) :
    { l.foldl Cluster.resolve c with resolved := c.resolved, readOrder := c.readOrder } = c := by
  induction l generalizing c with
  | nil => rfl
  | cons k l ih =>
    rw [List.foldl_cons]
    have hone := Cluster.resolve_rest c k
    have hrest := congrArg (fun x : Cluster => { x with resolved := c.resolved, readOrder := c.readOrder }) (ih (c.resolve k))
    exact hrest.trans hone

theorem Cluster.resolveAll_parts (l : List (Nat × Nat)) (c : Cluster) :
    (l.foldl Cluster.resolve c).staged = c.staged ∧ (l.foldl Cluster.resolve c).parked = c.parked ∧
      (l.foldl Cluster.resolve c).inFlight = c.inFlight ∧ (l.foldl Cluster.resolve c).cands = c.cands := by
  have h := Cluster.resolveAll_rest l c
  exact ⟨(congrArg Cluster.staged h :), (congrArg Cluster.parked h :), (congrArg Cluster.inFlight h :),
    (congrArg Cluster.cands h :)⟩

/-- With room for all of them, the table holds every key afterwards. -/
theorem Cluster.resolveAll_holds (l : List (Nat × Nat)) {c : Cluster} (hroom : c.resolved.length + l.length ≤ 2048) :
    (∀ k ∈ l, ∃ n, (k.1, k.2, n) ∈ (l.foldl Cluster.resolve c).resolved) ∧
      ∀ a b n, (a, b, n) ∈ c.resolved → ∃ m, (a, b, m) ∈ (l.foldl Cluster.resolve c).resolved := by
  induction l generalizing c with
  | nil => exact ⟨fun k hk => absurd hk List.not_mem_nil, fun a b n h => ⟨n, h⟩⟩
  | cons k l ih =>
    rw [List.length_cons] at hroom
    obtain ⟨hlen, ⟨n, hk⟩, hold⟩ := Cluster.resolve_keeps (c := c) (by omega) k
    obtain ⟨hall, hkeep⟩ := ih (c := c.resolve k) (by omega)
    rw [List.foldl_cons]
    refine ⟨List.forall_mem_cons.mpr ⟨hkeep _ _ _ hk, hall⟩, fun a b m hmem => ?_⟩
    obtain ⟨m', hm'⟩ := hold a b m hmem
    exact hkeep a b m' hm'

/-! ## The lanes that are done -/

theorem Cluster.pin_handles (c : Cluster) (pans : List Nat) (f : Nat → Nat) :
    { c.pin pans f with staged := c.staged } = c ∧ (c.pin pans f).staged.map StagedPan.handle = c.staged.map StagedPan.handle := by
  refine ⟨rfl, ?_⟩
  unfold Cluster.pin
  rw [List.map_map]
  refine List.map_congr_left fun x _ => ?_
  simp only [Function.comp_apply]
  split <;> rfl

/-- Lanes that are done unpin pans, and leave each pan where it is. -/
theorem Cluster.lanesDone_parts (c : Cluster) (now : Nat) :
    { c.lanesDone now with lanes := c.lanes, staged := c.staged } = c ∧
      (c.lanesDone now).staged.map StagedPan.handle = c.staged.map StagedPan.handle := by
  have hfold (l : List (Nat × List Nat)) (d : Cluster)
      (hd : { d with lanes := c.lanes, staged := c.staged } = c ∧ d.staged.map StagedPan.handle = c.staged.map StagedPan.handle) :
      { l.foldl (fun c l => c.pin l.2 (· - 1)) d with lanes := c.lanes, staged := c.staged } = c ∧
        (l.foldl (fun c l => c.pin l.2 (· - 1)) d).staged.map StagedPan.handle = c.staged.map StagedPan.handle := by
    induction l generalizing d with
    | nil => exact hd
    | cons x l ih => exact ih _ ⟨hd.1, (Cluster.pin_handles ..).2.trans hd.2⟩
  exact hfold _ _ ⟨rfl, rfl⟩

theorem Cluster.lanesDone_none {c : Cluster} (h : c.lanes = []) (now : Nat) : c.lanesDone now = c := by
  unfold Cluster.lanesDone
  rw [h]
  change { c with lanes := [] } = c
  rw [← h]

theorem Cluster.holdsPan_congr {c d : Cluster} (h : c.staged.map StagedPan.handle = d.staged.map StagedPan.handle) (k : Nat) :
    c.holdsPan k = d.holdsPan k := by
  have hmap (c : Cluster) : c.holdsPan k = (c.staged.map StagedPan.handle).any (· == k) := by
    rw [List.any_map]
    rfl
  rw [hmap, hmap, h]

/-- The start of a resolution: done lanes leave, and the event of the request counts. -/
def State.lanesFreed (p : Nat) (s : State) : State :=
  (s.modCl p fun c => c.lanesDone s.time.now).selEvent 0 p 0x0A 0 0xFFFF 0xFFFF 1

/-- An event of a cluster counts in clusters alone. -/
theorem State.selEvent_clusters (inst event qual layer op k : Nat) (s : State) :
    ∃ l, s.selEvent 0 inst event qual layer op k = { s with clusters := l } := by
  unfold State.selEvent
  refine State.foldl_inv (fun x => ∃ l, x = { s with clusters := l }) _ (fun x e hx => ?_) _ _ ⟨_, rfl⟩
  obtain ⟨l, rfl⟩ := hx
  split
  · exact ⟨_, rfl⟩
  · exact ⟨l, rfl⟩

theorem State.lanesFreed_only (p : Nat) (s : State) : ∃ l, s.lanesFreed p = { s with clusters := l } := by
  obtain ⟨l, hl⟩ := State.selEvent_clusters p 0x0A 0 0xFFFF 0xFFFF 1 (s.modCl p fun c => c.lanesDone s.time.now)
  exact ⟨l, hl⟩

theorem State.lanesFreed_stillCls (p : Nat) (s : State) :
    (s.lanesFreed p).stillCls = (s.modCl p fun c => c.lanesDone s.time.now).stillCls := State.selEvent_stillCls ..

theorem State.lanesFreed_cl {s : State} {p : Nat} (hp : p < s.clusters.length) :
    ((s.lanesFreed p).cl p).still = ((s.cl p).lanesDone s.time.now).still := by
  rw [State.still_of_stillCls (s.lanesFreed_stillCls p), State.cl_modCl hp]

/-! ## The read's error, if any -/

theorem State.panBad_congr {s s' : State} (hbad : s'.worlds.badHandles = s.worlds.badHandles) (hhbm : s'.hbm = s.hbm)
    (n : Need) (h : Nat) : s'.panBad n h = s.panBad n h := by
  have hhead (k : Nat) : s'.panHeader k = s.panHeader k := by
    unfold State.panHeader
    rw [hhbm]
  have hload (k : Nat) : s'.panPayload k = s.panPayload k := by
    unfold State.panPayload
    rw [hhbm]
  unfold State.panBad State.panOk
  simp only [hbad, hhead, hload]

theorem State.corrected_parts (key stack cluster arg : Nat) (s : State) :
    (s.corrected key stack cluster arg).clusters = s.clusters ∧ (s.corrected key stack cluster arg).worlds = s.worlds ∧
      (s.corrected key stack cluster arg).hbm = s.hbm := by
  unfold State.corrected
  dsimp only
  split
  · refine ⟨?_, ?_, ?_⟩
    · rw [(State.warn_atEvents ..).clusters, State.traceError_clusters, State.logError_clusters]
      rfl
    · simp
    · simp
  · exact ⟨rfl, rfl, rfl⟩

/-- A corrected read is late; it changes no cluster, no world and no byte. -/
theorem State.hbmCorrected_parts (p a : Nat) (s : State) : (s.hbmCorrected p a).clusters = s.clusters ∧
    (s.hbmCorrected p a).worlds = s.worlds ∧ (s.hbmCorrected p a).hbm = s.hbm := by
  unfold State.hbmCorrected
  dsimp only
  obtain ⟨⟨b, n, l, hl⟩, -⟩ := State.timingEvent_leaves 2 (stackOf p) p
    (((s.bumpHub 3).corrected (channelKey (pseudoChannel a)) 0xFF 0xFF (pseudoChannel a)).fresh.1.toNat % 2 ^ 32)
    ((s.bumpHub 3).corrected (channelKey (pseudoChannel a)) 0xFF 0xFF (pseudoChannel a)).fresh.2
  rw [hl]
  exact State.corrected_parts ..

/-! ## Where every pan is there -/

theorem foldl_fixed_of_mem {α β : Type} {g : β → α → β} {b : β} : ∀ {l : List α}, (∀ a ∈ l, g b a = b) → l.foldl g b = b
  | [], _ => rfl
  | a :: l, h => by
    rw [List.foldl_cons, h a List.mem_cons_self]
    exact foldl_fixed_of_mem fun x hx => h x (List.mem_cons_of_mem a hx)

theorem State.stagePan_there {s : State} {p h : Nat} {n : Need} (hthere : (s.cl p).holdsPan h = true ∨ s.panBad n h = true) :
    s.stagePan p n h = s := by
  unfold State.stagePan
  dsimp only
  refine if_pos ?_
  obtain h | h := hthere <;> simp [h]

/-- The cluster of a query that leaves for the lanes. -/
def Cluster.served (now query : Nat) (n : Need) (c : Cluster) : Cluster :=
  { c.enterLanes now n with parked := c.parked.eraseIdx query }

/-- With every pan staged or bad, the query leaves the store. -/
theorem State.resolveQuery_there {s : State} {p query : Nat} {n : Need} (hp : p < s.clusters.length)
    (hthere : ∀ h ∈ n.pans, (s.cl p).holdsPan h = true ∨ s.panBad n h = true) :
    s.resolveQuery p query n = (s.modCl p (n.keys.foldl Cluster.resolve)).modCl p (Cluster.served s.time.now query n) := by
  have hstill : ∀ h ∈ n.pans, ((s.modCl p (n.keys.foldl Cluster.resolve)).cl p).holdsPan h = true ∨
      (s.modCl p (n.keys.foldl Cluster.resolve)).panBad n h = true := by
    intro h hh
    rw [State.cl_modCl hp, State.panBad_congr (s := s) (s' := s.modCl p _) rfl rfl n h]
    obtain ⟨hstaged, -⟩ := Cluster.resolveAll_parts n.keys (s.cl p)
    rw [Cluster.holdsPan_congr (congrArg (List.map StagedPan.handle) hstaged)]
    exact hthere h hh
  unfold State.resolveQuery
  dsimp only
  rw [foldl_fixed_of_mem fun h hh => State.stagePan_there (hstill h hh)]
  refine if_pos (List.all_eq_true.mpr fun h hh => ?_)
  obtain h | h := hstill h hh
  · rw [h, Bool.true_or]
  · rw [h, Bool.or_true]

theorem Cluster.served_parts (now query : Nat) (n : Need) (c : Cluster) :
    (c.served now query n).inFlight = c.inFlight ∧ (c.served now query n).cands = c.cands ∧
      (c.served now query n).parked = c.parked.eraseIdx query ∧
      (∀ a b m, (a, b, m) ∈ c.resolved → ∃ m', (a, b, m') ∈ (c.served now query n).resolved) := by
  refine ⟨rfl, rfl, rfl, fun a b m h => ?_⟩
  by_cases hk : n.keys.contains (a, b) = true
  · exact ⟨c.readOrder, List.mem_map.mpr ⟨_, h, if_pos hk⟩⟩
  · exact ⟨m, List.mem_map.mpr ⟨_, h, if_neg hk⟩⟩

theorem State.finishSweeps_idle {s : State} {p : Nat} (h : (s.cl p).inFlight = []) : s.finishSweeps p = s := by
  unfold State.finishSweeps
  dsimp only
  rw [h]
  rfl

end Sys2Proof.Machine
end

section
/-!
SUPPORT. The resolution of parked queries: what each read of it leads to (R161-R163, R280).
-/
namespace Sys2Proof.Machine

section
variable {s : State} {p q : Nat} {k : Parked}

theorem State.resolution_runs (hk : (s.cl p).parked[q]? = some k) (hen : s.enabled p = true) (hq : q < 64) (r : HbmRead) :
    s.resolution p q r = match r.fault, k.need.panOf r.addr, (s.lanesFreed p).entryOf k.need r.addr with
      | .corrected, some _, _ => (((s.lanesFreed p).hbmCorrected p r.addr).resolveQuery p q k.need).finishSweeps p
      | .corrected, none, true => (((s.lanesFreed p).hbmCorrected p r.addr).resolveQuery p q k.need).finishSweeps p
      | .uncorrectable, some h, _ => (((s.lanesFreed p).bumpHub 4).spoilPan p h).finishSweeps p
      | .uncorrectable, none, true => ((s.lanesFreed p).bumpHub 4).hwFault 0x0101 p r.addr
      | _, _, _ => ((s.lanesFreed p).resolveQuery p q k.need).finishSweeps p := by
  have hwhen : (s.enabled p && decide (q < 64)) = true := by rw [hen, decide_eq_true hq]; rfl
  unfold State.resolution
  rw [hk]
  exact State.when_pos hwhen _ _

/-- A read that is at worst late goes on to the resolution. -/
theorem State.resolution_goes (hk : (s.cl p).parked[q]? = some k) (hen : s.enabled p = true) (hq : q < 64) {r : HbmRead}
    (hr : r.fault ≠ .uncorrectable) : ∃ y, s.resolution p q r = (y.resolveQuery p q k.need).finishSweeps p ∧
      y.clusters = (s.lanesFreed p).clusters ∧ y.worlds = s.worlds ∧ y.hbm = s.hbm ∧ (r.fault = .none → y = s.lanesFreed p) := by
  obtain ⟨l, hl⟩ := s.lanesFreed_only p
  have hworlds : (s.lanesFreed p).worlds = s.worlds := by rw [hl]
  have hhbm : (s.lanesFreed p).hbm = s.hbm := by rw [hl]
  have hlate (hfault : r.fault = .corrected) :
      ((s.lanesFreed p).hbmCorrected p r.addr).clusters = (s.lanesFreed p).clusters ∧
        ((s.lanesFreed p).hbmCorrected p r.addr).worlds = s.worlds ∧ ((s.lanesFreed p).hbmCorrected p r.addr).hbm = s.hbm ∧
        (r.fault = .none → (s.lanesFreed p).hbmCorrected p r.addr = s.lanesFreed p) := by
    obtain ⟨hc, hw, hm⟩ := (s.lanesFreed p).hbmCorrected_parts p r.addr
    exact ⟨hc, hw.trans hworlds, hm.trans hhbm, fun h => absurd (h.symm.trans hfault) (by decide)⟩
  rw [State.resolution_runs hk hen hq]
  cases hfault : r.fault with
  | none => exact ⟨s.lanesFreed p, rfl, rfl, hworlds, hhbm, fun _ => rfl⟩
  | uncorrectable => exact absurd hfault hr
  | corrected =>
    have hafter := hlate hfault
    rw [hfault] at hafter
    cases k.need.panOf r.addr with
    | some h => exact ⟨_, rfl, hafter⟩
    | none =>
      cases (s.lanesFreed p).entryOf k.need r.addr with
      | true => exact ⟨_, rfl, hafter⟩
      | false => exact ⟨s.lanesFreed p, rfl, rfl, hworlds, hhbm, fun _ => rfl⟩

/-- What the cluster of a resolved query keeps and takes. -/
def Cluster.resolvedFrom (c : Cluster) (q : Nat) (n : Need) (d : Cluster) : Prop :=
  d.parked = c.parked.eraseIdx q ∧ d.inFlight = c.inFlight ∧ d.cands = c.cands ∧
    (c.resolved.length + n.fine.length < 2048 → ∀ x ∈ n.keys, ∃ m, (x.1, x.2, m) ∈ d.resolved)

theorem State.resolveQuery_resolves (hp : p < s.clusters.length) {y : State} {n : Need}
    (hcls : y.clusters = (s.lanesFreed p).clusters) (hworlds : y.worlds = s.worlds) (hhbm : y.hbm = s.hbm)
    (hthere : ∀ h ∈ n.pans, (s.cl p).holdsPan h = true ∨ s.panBad n h = true) :
    (s.cl p).resolvedFrom q n ((y.resolveQuery p q n).cl p) ∧
      y.resolveQuery p q n = { y with clusters := (y.resolveQuery p q n).clusters } ∧
      (y.resolveQuery p q n).clusters.length = s.clusters.length := by
  have hcl : y.cl p = (s.lanesFreed p).cl p := by
    unfold State.cl
    rw [hcls]
  have hfreed := State.lanesFreed_cl hp
  rw [← hcl] at hfreed
  obtain ⟨hrest, hhandles⟩ := (s.cl p).lanesDone_parts s.time.now
  have hlen : y.clusters.length = s.clusters.length := by
    rw [hcls, State.clusters_length_of_still (s.lanesFreed_stillCls p), State.clusters_length_modCl]
  have hparked : (y.cl p).parked = (s.cl p).parked :=
    (congrArg Cluster.parked hfreed :).trans (congrArg Cluster.parked hrest :)
  have hflight : (y.cl p).inFlight = (s.cl p).inFlight :=
    (congrArg Cluster.inFlight hfreed :).trans (congrArg Cluster.inFlight hrest :)
  have hcands : (y.cl p).cands = (s.cl p).cands :=
    (congrArg Cluster.cands hfreed :).trans (congrArg Cluster.cands hrest :)
  have htable : (y.cl p).resolved = (s.cl p).resolved :=
    (congrArg Cluster.resolved hfreed :).trans (congrArg Cluster.resolved hrest :)
  have hstaged : (y.cl p).staged = ((s.cl p).lanesDone s.time.now).staged := (congrArg Cluster.staged hfreed :)
  have hthere' : ∀ h ∈ n.pans, (y.cl p).holdsPan h = true ∨ y.panBad n h = true := by
    intro h hh
    rw [State.panBad_congr (congrArg Worlds.badHandles hworlds) hhbm,
      Cluster.holdsPan_congr ((congrArg (List.map StagedPan.handle) hstaged).trans hhandles)]
    exact hthere h hh
  have heq := State.resolveQuery_there (query := q) (hlen ▸ hp) hthere'
  have hfinal : (y.resolveQuery p q n).cl p = ((n.keys.foldl Cluster.resolve (y.cl p)).served y.time.now q n) := by
    rw [heq, State.cl_modCl (by rw [State.clusters_length_modCl, hlen]; exact hp), State.cl_modCl (hlen ▸ hp)]
  obtain ⟨-, hp2, hf2, hc2⟩ := Cluster.resolveAll_parts n.keys (y.cl p)
  obtain ⟨hf3, hc3, hp3, hkeys⟩ := Cluster.served_parts y.time.now q n (n.keys.foldl Cluster.resolve (y.cl p))
  refine ⟨?_, by rw [heq]; rfl, by rw [heq, State.clusters_length_modCl, State.clusters_length_modCl, hlen]⟩
  rw [hfinal]
  refine ⟨by rw [hp3, hp2, hparked], by rw [hf3, hf2, hflight], by rw [hc3, hc2, hcands], fun hroom x hx => ?_⟩
  have hroom' : (y.cl p).resolved.length + n.keys.length ≤ 2048 := by
    rw [htable]
    have : n.keys.length = n.fine.length + 1 := by simp [Need.keys]
    omega
  obtain ⟨m, hm⟩ := (Cluster.resolveAll_holds n.keys hroom').1 x hx
  exact hkeys _ _ m hm

end

section
variable {s : State} {p q t : Nat} {k : Parked}

theorem resolutionRequest_runs (hp : p < 64) (r : HbmRead) :
    exec (.resolutionRequest p q r t) s = .next { (s.at t).resolution p q r with pending := s.pending } := by
  have hbelow : below p 64 = true := by simpa [below] using hp
  exact (exec_resolutionRequest p q r t s).trans (ranAt_pos hbelow ..)

/-- With every pan there a query leaves the store (R161, R163). -/
theorem resolution_leaves (hp : p < 64) (hq : q < 64) (hlen : s.clusters.length = 64) (hk : (s.cl p).parked[q]? = some k)
    (hen : s.enabled p = true) (r : HbmRead) (hidle : (s.cl p).inFlight = []) (hr : r.fault ≠ .uncorrectable)
    (hthere : ∀ h ∈ k.need.pans, (s.cl p).holdsPan h = true ∨ s.panBad k.need h = true) :
    ∃ s', exec (.resolutionRequest p q r t) s = .next s' ∧ (s'.cl p).parked = (s.cl p).parked.eraseIdx q ∧
      ((s.cl p).resolved.length + k.need.fine.length < 2048 → (∃ n, (k.need.dir, 0, n) ∈ (s'.cl p).resolved) ∧
        ∀ f ∈ k.need.fine, ∃ n, (f.1, f.2 + 1, n) ∈ (s'.cl p).resolved) ∧
      (s'.cl p).cands = (s.cl p).cands ∧
      (r.fault = .none → { s' with time := s.time, clusters := s.clusters } = s) := by
  have hrow := resolutionRequest_runs (s := s) (q := q) (t := t) hp r
  obtain ⟨y, hy, hcls, hworlds, hhbm, hnone⟩ := State.resolution_goes (s := s.at t) (p := p) hk hen hq hr
  obtain ⟨⟨hparked, hflight, hcands, hkeys⟩, honly, -⟩ :=
    State.resolveQuery_resolves (s := s.at t) (q := q) (n := k.need) (p := p) (by rw [State.at_clusters]; omega) hcls hworlds hhbm hthere
  have hfree : ((y.resolveQuery p q k.need).cl p).inFlight = [] := hflight.trans hidle
  rw [hy, State.finishSweeps_idle hfree] at hrow
  refine ⟨_, hrow, hparked, fun hroom => ⟨?_, fun f hf => ?_⟩, hcands, fun hfault => ?_⟩
  · exact hkeys hroom (k.need.dir, 0) List.mem_cons_self
  · exact hkeys hroom (f.1, f.2 + 1) (List.mem_cons_of_mem _ (List.mem_map.mpr ⟨f, hf, rfl⟩))
  · obtain ⟨l, hl⟩ := (s.at t).lanesFreed_only p
    rw [honly, hnone hfault, hl]
    rfl

end

end Sys2Proof.Machine
end

section
/-!
SUPPORT. Staging of a pan for a parked query (R161, R271), and the ends of operations that its query held (R160, R162).
-/
namespace Sys2Proof.Machine

/-! ## Staging -/

/-- A state apart from what a copy into a scratchpad moves. -/
def State.offStage (s : State) : State := { s with clusters := [], stks := [], hub := {}, sram := [] }

theorem State.selEvent_offStage (scope inst event qual layer op k : Nat) (s : State) :
    (s.selEvent scope inst event qual layer op k).offStage = s.offStage := by
  unfold State.selEvent
  refine State.foldl_keeps State.offStage _ (fun x e => ?_) _ _
  split
  · unfold State.addSel
    dsimp only
    split
    · rfl
    · split <;> rfl
  · rfl

theorem State.dmaEvents_offStage (p src off n : Nat) (s : State) : (s.dmaEvents p src off n).offStage = s.offStage := by
  unfold State.dmaEvents
  dsimp only
  split <;> simp only [State.selEvent_offStage]

theorem State.dmaEvents_stillCls (p src off n : Nat) (s : State) : (s.dmaEvents p src off n).stillCls = s.stillCls := by
  unfold State.dmaEvents
  dsimp only
  split <;> simp only [State.selEvent_stillCls]

theorem State.modStk_offStage (s : State) (k : Nat) (g : Stack → Stack) : (s.modStk k g).offStage = s.offStage := rfl

theorem State.modStk_stillCls (s : State) (k : Nat) (g : Stack → Stack) : (s.modStk k g).stillCls = s.stillCls := rfl

theorem State.sramWrite_offStage (a : Nat) (bs : List Byte) (s : State) : (s.sramWrite a bs).offStage = s.offStage := rfl

theorem State.sramWrite_stillCls (a : Nat) (bs : List Byte) (s : State) : (s.sramWrite a bs).stillCls = s.stillCls := rfl

/-- What a copy of a pan keeps is what its events, its tokens and its writes keep. -/
theorem State.copyPan_view {α : Type} {v : State → α} (hev : ∀ p a b n s, v (State.dmaEvents p a b n s) = v s)
    (hstk : ∀ s k g, v (State.modStk k g s) = v s) (hwrite : ∀ a bs s, v (State.sramWrite a bs s) = v s)
    (p slot h : Nat) (s : State) : v (s.copyPan p slot h) = v s := by
  unfold State.copyPan State.dmaWrite
  dsimp only
  refine (State.foldl_keeps v _ (fun x j => ?_) _ _).trans ?_
  · exact State.withToken_view hstk (fun y => State.foldl_keeps v _ (fun z i => hwrite _ _ z) _ y) _ x
  · rw [hev, hev]
    exact State.foldl_keeps v _ (fun x i => State.withToken_view hstk (fun y => hwrite _ _ y) _ x) _ _

/-- The cluster that a pan is staged in. -/
def Cluster.staging (slot h gen : Nat) (c : Cluster) : Cluster :=
  { c with readOrder := c.readOrder + 1, staged := (c.staged.filter (·.slot != slot)) ++ [⟨slot, h, gen, c.readOrder, 0⟩] }

theorem State.stageAt_stillCls (p slot h : Nat) (s : State) : (s.stageAt p slot h).stillCls =
    (s.modCl p (Cluster.staging slot h (getU (s.panHeader h) 12 4))).stillCls := by
  unfold State.stageAt
  exact State.modCl_stillCls_congr (by intro; rfl)
    (State.copyPan_view State.dmaEvents_stillCls State.modStk_stillCls State.sramWrite_stillCls p slot h s) p

theorem State.stageAt_offStage (p slot h : Nat) (s : State) : (s.stageAt p slot h).offStage = s.offStage := by
  have hmod (y : State) (f : Cluster → Cluster) : (y.modCl p f).offStage = y.offStage := rfl
  unfold State.stageAt
  dsimp only
  rw [hmod]
  exact State.copyPan_view State.dmaEvents_offStage State.modStk_offStage State.sramWrite_offStage p slot h s

theorem Cluster.slotFor_congr {c d : Cluster} (h : c.staged = d.staged) (k : Nat) : c.slotFor k = d.slotFor k := by
  unfold Cluster.slotFor
  rw [h]

/-- A good pan that is not staged takes its slot while the stack DMA may carry it. -/
theorem State.stagePan_stages {s : State} {p h i : Nat} {n : Need} (hnot : (s.cl p).holdsPan h = false)
    (hgood : s.panBad n h = false) (hready : s.dmaReady (stackOf p) = true) (hslot : (s.cl p).slotFor h = some i) :
    (s.stagePan p n h).stillCls = (s.modCl p (Cluster.staging i h (getU (s.panHeader h) 12 4))).stillCls ∧
      (s.stagePan p n h).offStage = s.offStage := by
  unfold State.stagePan
  dsimp only
  rw [if_neg (by rw [hnot, hgood, hready]; decide), hslot]
  dsimp only
  split <;> exact ⟨State.stageAt_stillCls .., State.stageAt_offStage ..⟩

/-! ## The end of operations leaves the parked queries -/

/-- The parked queries of every cluster. -/
def State.stores (s : State) : List (List Parked) := s.clusters.map Cluster.parked

/-- Two states with the same parked queries, the second with the first one's bad handle `h`. -/
def State.SameStores (h : Nat) (s s' : State) : Prop :=
  s'.stores = s.stores ∧ (h ∈ s.worlds.badHandles → h ∈ s'.worlds.badHandles)

theorem State.SameStores.trans {h : Nat} {s s' s'' : State} (h1 : s.SameStores h s') (h2 : s'.SameStores h s'') :
    s.SameStores h s'' := ⟨h2.1.trans h1.1, fun hm => h2.2 (h1.2 hm)⟩

theorem State.sameStores_refl (h : Nat) (s : State) : s.SameStores h s := ⟨rfl, id⟩

theorem State.sameStores_of {h : Nat} {s s' : State} (hc : s'.clusters = s.clusters) (hw : s'.worlds = s.worlds) :
    s.SameStores h s' := ⟨congrArg (List.map Cluster.parked) hc, fun hm => hw ▸ hm⟩

theorem State.sameStores_modCl {f : Cluster → Cluster} (hf : ∀ c, (f c).parked = c.parked) (h p : Nat) (s : State) :
    s.SameStores h (s.modCl p f) := ⟨map_modify_of Cluster.parked hf s.clusters p, id⟩

theorem State.stores_of_stillCls {s s' : State} (h : s'.stillCls = s.stillCls) : s'.stores = s.stores := by
  have hview (x : State) : x.stores = x.stillCls.map Cluster.parked := by
    unfold State.stores State.stillCls
    rw [List.map_map]
    rfl
  rw [hview, hview, h]

theorem State.stores_cl (s : State) (p : Nat) : (s.cl p).parked = s.stores.getD p (Cluster.parked {}) :=
  (List.getD_map (n := p) s.clusters {} Cluster.parked).symm

theorem State.sameStores_afterSweep (h p kind : Nat) (x : Progress) (layer op : Nat) (s : State) :
    s.SameStores h (s.afterSweep p kind x layer op) := by
  refine ⟨(State.stores_of_stillCls (State.afterSweep_stillCls ..)).trans
    (map_modify_of Cluster.parked (by intro; rfl) s.clusters p), fun hm => ?_⟩
  unfold State.afterSweep
  dsimp only
  refine State.foldl_inv (fun y => h ∈ y.worlds.badHandles) _ (fun y k hy => State.panFault_badHandles p k y (.inl hy)) _ _ ?_
  have hworlds (y : State) (fl gu : Nat) : (y.raiseArith p fl gu).worlds = y.worlds := by
    unfold State.raiseArith
    refine (State.foldl_keeps State.worlds _ (fun y i => ?_) _ _).trans rfl
    split
    · exact State.selEvent_worlds ..
    · rfl
  rw [State.selEvent_worlds, hworlds]
  exact hm

theorem State.sameStores_opDigest (h a b c d e : Nat) (out : List Byte) (s : State) : s.SameStores h (s.opDigest a b c d e out) := by
  obtain ⟨l, hl, -⟩ := s.opDigest_digests a b c d e out
  rw [hl]
  exact ⟨rfl, id⟩

theorem State.sameStores_verdictDone (h p kind phase : Nat) (x : Stream) (g : Nat) (r : Progress) (v : Verdict) (s : State) :
    s.SameStores h (s.verdictDone p kind phase x g r v) := by
  unfold State.verdictDone
  refine State.SameStores.trans ?_ (State.sameStores_opDigest ..)
  exact (State.sameStores_afterSweep ..).trans (State.sameStores_modCl (by intro; rfl) h p _)

theorem State.sameStores_checkDone (h p id g e : Nat) (s : State) : s.SameStores h (s.checkDone p id g e) := by
  unfold State.checkDone
  split
  · dsimp only
    split
    · exact (State.sameStores_verdictDone ..).trans
        ((State.sameStores_modCl (by intro; rfl) h p _).trans (State.sameStores_modCl (by intro; rfl) h p _))
    · exact (State.sameStores_verdictDone ..).trans (State.sameStores_modCl (by intro; rfl) h p _)
  · exact State.sameStores_refl h s

theorem State.sameStores_recheckDone (h p id g e : Nat) (s : State) : s.SameStores h (s.recheckDone p id g e) := by
  have hkeep (slot : Nat) (tm : List TmEntry) (y : State) : y.SameStores h (y.keepMap p slot tm) := by
    unfold State.keepMap
    dsimp only
    split <;> exact State.sameStores_modCl (by intro; rfl) h p y
  have hcand (f : Cand → Cand) (y : State) : y.SameStores h (y.modCand p id g Cand.wantsRecheck f) :=
    State.sameStores_modCl (by intro; rfl) h p y
  have htally (f : Tally → Tally) (y : State) : y.SameStores h (y.tallyOn p id f) :=
    State.sameStores_modCl (by intro; rfl) h p y
  have htally' (b : Prop) [Decidable b] (f : Tally → Tally) (y : State) :
      y.SameStores h (if b then y else y.tallyOn p id f) := by
    split
    · exact State.sameStores_refl h y
    · exact htally f y
  have hses (b : Prop) [Decidable b] (j : Nat) (y : State) : y.SameStores h (if b then y else y.bumpSes j 10) := by
    split
    · exact State.sameStores_refl h y
    · exact ⟨rfl, fun hm => hm⟩
  unfold State.recheckDone
  split
  · dsimp only
    split
    · exact (State.sameStores_verdictDone ..).trans ((((hkeep ..).trans (hcand ..)).trans (htally' ..)).trans (hses ..))
    · exact (State.sameStores_verdictDone ..).trans (hcand ..)
  · exact State.sameStores_refl h s

theorem State.sameStores_repairDone (h p id e : Nat) (s : State) : s.SameStores h (s.repairDone p id e) := by
  have hplace (y : State) : y.SameStores h (y.placeCarried id) := by
    unfold State.placeCarried
    split
    · exact State.sameStores_refl h y
    · split
      · split
        · exact State.sameStores_modCl (by intro; rfl) h _ y
        · exact State.sameStores_refl h y
      · exact State.sameStores_refl h y
  have hwithdraw (op : TaskOp) (k : Nat) (y : State) : y.SameStores h (y.withdraw op k) := by
    refine ⟨?_, fun hm => hm⟩
    change (y.clusters.map _).map Cluster.parked = y.clusters.map Cluster.parked
    rw [List.map_map]
    rfl
  have hmod (f : Stream → Stream) (y : State) : y.SameStores h (y.modStream id f) := ⟨rfl, fun hm => hm⟩
  unfold State.repairDone
  split
  · exact State.sameStores_refl h s
  · split
    · dsimp only
      split
      · exact (State.sameStores_verdictDone ..).trans ((hmod ..).trans (hplace _))
      · exact (State.sameStores_verdictDone ..).trans ((hmod ..).trans (hwithdraw _ _ _))
    · exact State.sameStores_refl h s

theorem State.sameStores_stopDone (h p id e : Nat) (s : State) : s.SameStores h (s.stopDone p id e) := by
  have hmod (f : Stream → Stream) (y : State) : y.SameStores h (y.modStream id f) := ⟨rfl, fun hm => hm⟩
  unfold State.stopDone
  split
  · exact State.sameStores_refl h s
  · dsimp only
    split
    · exact (State.sameStores_verdictDone ..).trans ((hmod ..).trans
        (State.sameStores_of (State.issuePinned_clusters ..) (State.issuePinned_worlds ..)))
    · exact (State.sameStores_verdictDone ..).trans (hmod ..)

theorem State.sameStores_probeDone (h p id g e : Nat) (s : State) : s.SameStores h (s.probeDone p id g e) := by
  have hnote (v : Verdict) (y : State) : y.SameStores h (y.modCl p fun c => { c with verdicts := c.verdicts ++ [v] }) :=
    State.sameStores_modCl (by intro; rfl) h p y
  have hcand (f : Cand → Cand) (y : State) : y.SameStores h (y.modCand p id g Cand.wantsProbe f) :=
    State.sameStores_modCl (by intro; rfl) h p y
  unfold State.probeDone
  split
  · dsimp only
    exact (State.sameStores_afterSweep ..).trans ((hnote ..).trans ((State.sameStores_opDigest ..).trans (hcand ..)))
  · exact State.sameStores_refl h s

theorem State.sameStores_reverifyDone (h p id : Nat) (s : State) : s.SameStores h (s.reverifyDone p id) := by
  have hmod (f : Stream → Stream) (y : State) : y.SameStores h (y.modStream id f) := ⟨rfl, fun hm => hm⟩
  unfold State.reverifyDone
  split
  · exact State.sameStores_refl h s
  · split
    · exact State.sameStores_refl h s
    · exact (State.sameStores_verdictDone ..).trans (hmod ..)

theorem State.sameStores_finishSweep (h p : Nat) (f : Sweeping) (s : State) : s.SameStores h (s.finishSweep p f) := by
  unfold State.finishSweep
  refine State.SameStores.trans (State.sameStores_modCl (f := fun c => { c with inFlight := c.inFlight.filter (· != f) })
    (by intro; rfl) h p s) ?_
  dsimp only
  split
  · exact State.sameStores_checkDone ..
  · exact State.sameStores_recheckDone ..
  · exact State.sameStores_repairDone ..
  · exact State.sameStores_stopDone ..
  · exact State.sameStores_probeDone ..
  · exact State.sameStores_reverifyDone ..

theorem State.sameStores_finishSweeps (h p : Nat) (s : State) : s.SameStores h (s.finishSweeps p) := by
  unfold State.finishSweeps
  exact State.foldl_inv (s.SameStores h) _ (fun x f hx => hx.trans (State.sameStores_finishSweep h p f x)) _ _
    (State.sameStores_refl h s)

end Sys2Proof.Machine
end

section
/-!
SUPPORT. The verdict of a CHECK, and the obligation on boxes and resolution (R110-R112, R161-R163, R280).
-/
namespace Sys2Proof.Machine

/-! ## The first candidate that waits -/

theorem modFirst_length (P : Cand → Bool) (f : Cand → Cand) : ∀ l, (modFirst P f l).length = l.length
  | [] => rfl
  | x :: l => by
    unfold modFirst
    split
    · rfl
    · rw [List.length_cons, List.length_cons, modFirst_length P f l]

theorem mem_modFirst {P : Cand → Bool} {c : Cand} (f : Cand → Cand) : ∀ {l}, l.find? P = some c → f c ∈ modFirst P f l
  | x :: l, h => by
    rw [List.find?_cons] at h
    unfold modFirst
    cases hx : P x with
    | true =>
      rw [hx] at h
      rw [if_pos rfl, ← Option.some.inj h]
      exact List.mem_cons_self
    | false =>
      rw [hx] at h
      rw [if_neg Bool.false_ne_true]
      exact List.mem_cons_of_mem x (mem_modFirst f h)

/-- What a found candidate is. -/
theorem Cluster.cand?_some {c : Cluster} {id g : Nat} {P : Cand → Bool} {x : Cand} (h : c.cand? id g P = some x) :
    x.stream = id ∧ x.g = g ∧ x.dropped = false ∧ P x = true := by
  have hx := List.find?_some h
  simp only [Bool.and_eq_true, beq_iff_eq, Bool.not_eq_true'] at hx
  obtain ⟨⟨⟨hs, hg⟩, hd⟩, hp⟩ := hx
  exact ⟨hs, hg, hd, hp⟩

/-! ## The end of a CHECK (R160, R194) -/

/-- A candidate with its CHECK's verdict, and with its clearances where it is CLEAR. -/
def Cand.checked (n : Nat) (r : Progress) (v : Verdict) (c : Cand) : Cand :=
  { c with check := some v, segClear := if r.verdict = 0 then r.clearances n else [] }

/-- A cluster whose candidate took its CHECK's verdict. -/
def Cluster.checked (id g n : Nat) (r : Progress) (v : Verdict) (c : Cluster) : Cluster :=
  { c.judged r.flags v with
    cands := modFirst (fun x => x.stream == id && x.g == g && !x.dropped && Cand.wantsCheck x) (Cand.checked n r v) c.cands,
    tallies := if r.verdict = 0 then upsert id { lookupD {} id c.tallies with
        clearCheck := addS (lookupD {} id c.tallies).clearCheck 1 } c.tallies else c.tallies }

theorem State.checkDone_judges {s : State} {id p g e : Nat} {x : Stream} {c : Cand} (hx : s.stream? id = some x)
    (hc : (s.cl p).cand? id g Cand.wantsCheck = some c) :
    (s.checkDone p id g e).stillCls = (s.modCl p (Cluster.checked id g (s.binding x).n (s.checkRun x c e)
        ((s.checkRun x c e).record (s.binding x).wid g 0 e))).stillCls ∧
      (s.checkDone p id g e).offSweep = s.offSweep := by
  have hdone := State.verdictDone_stillCls p 0 6 x g (s.checkRun x c e) ((s.checkRun x c e).record (s.binding x).wid g 0 e) s
  have hoff := State.verdictDone_offSweep p 0 6 x g (s.checkRun x c e) ((s.checkRun x c e).record (s.binding x).wid g 0 e) s
  unfold State.checkDone
  rw [hx, hc]
  dsimp only
  generalize s.checkRun x c e = r at hdone hoff ⊢
  generalize r.record (s.binding x).wid g 0 e = v at hdone hoff ⊢
  generalize s.verdictDone p 0 6 x g r v = y at hdone hoff ⊢
  unfold State.modCand State.tallyOn
  by_cases hv : r.verdict = 0
  · rw [if_pos hv]
    refine ⟨?_, hoff⟩
    rw [State.modCl_stillCls_congr (by intro; rfl) (State.modCl_stillCls_congr (by intro; rfl) hdone p) p]
    refine congrArg (List.map Cluster.still) ?_
    change ((s.clusters.modify p _).modify p _).modify p _ = s.clusters.modify p _
    rw [List.modify_modify_eq, List.modify_modify_eq]
    unfold Cluster.checked Cand.checked
    simp only [if_pos hv]
    rfl
  · rw [if_neg hv]
    refine ⟨?_, hoff⟩
    rw [State.modCl_stillCls_congr (by intro; rfl) hdone p]
    refine congrArg (List.map Cluster.still) ?_
    change (s.clusters.modify p _).modify p _ = s.clusters.modify p _
    rw [List.modify_modify_eq]
    unfold Cluster.checked Cand.checked
    simp only [if_neg hv]
    rfl

/-! ## The clauses -/

section
variable {s : State} {p q t : Nat} {k : Parked}

theorem State.finishSweeps_one {f : Sweeping} (hf : (s.cl p).inFlight = [f]) (hk : (s.cl p).parked = []) :
    s.finishSweeps p = s.finishSweep p f := by
  unfold State.finishSweeps
  dsimp only
  rw [hf, hk]
  rfl

/-- The last query of a CHECK ends it with its verdict (R160). -/
theorem resolution_ends (hp : p < 64) (hq : q < 64) (hlen : s.clusters.length = 64) (hk : (s.cl p).parked[q]? = some k)
    (hen : s.enabled p = true) {c : Cand} {e : Nat} (hone : (s.cl p).parked = [k])
    (hflight : (s.cl p).inFlight = [⟨0, k.stream, k.g, e⟩]) (hc : (s.cl p).cand? k.stream k.g Cand.wantsCheck = some c)
    (hx : (s.stream? k.stream).isSome = true)
    (hthere : ∀ h ∈ k.need.pans, (s.cl p).holdsPan h = true ∨ s.panBad k.need h = true) :
    ∃ s' c', exec (.resolutionRequest p q ⟨.none, 0⟩ t) s = .next s' ∧ (s'.cl p).parked = [] ∧ (s'.cl p).inFlight = [] ∧
      c' ∈ (s'.cl p).cands ∧ c'.stream = k.stream ∧ c'.g = k.g ∧ c'.check.isSome = true := by
  have hrow := resolutionRequest_runs (s := s) (q := q) (t := t) hp ⟨.none, 0⟩
  obtain ⟨y, hy, hcls, hworlds, hhbm, hnone⟩ := State.resolution_goes (s := s.at t) (p := p) hk hen hq (r := ⟨.none, 0⟩) (by decide)
  obtain ⟨⟨hparked, hflight', hcands, -⟩, honly, hlength⟩ :=
    State.resolveQuery_resolves (s := s.at t) (q := q) (n := k.need) (p := p) (by rw [State.at_clusters]; omega) hcls hworlds hhbm
      hthere
  have hstreams : (y.resolveQuery p q k.need).streams = s.streams := by
    obtain ⟨l, hl⟩ := (s.at t).lanesFreed_only p
    rw [honly, hnone rfl, hl]
    rfl
  have hempty : (s.cl p).parked.eraseIdx q = [] := by
    rw [hone] at hk ⊢
    cases q with
    | zero => rfl
    | succ q => exact absurd hk (by simp)
  rw [hy] at hrow
  generalize y.resolveQuery p q k.need = z at hrow hparked hflight' hcands hstreams hlength
  have hparked : (z.cl p).parked = [] := hparked.trans hempty
  have hflight' : (z.cl p).inFlight = [⟨0, k.stream, k.g, e⟩] := hflight'.trans hflight
  have hpz : p < z.clusters.length := by
    rw [hlength, State.at_clusters]
    omega
  rw [State.finishSweeps_one hflight' hparked] at hrow
  obtain ⟨x, hx⟩ := Option.isSome_iff_exists.mp hx
  generalize hw : z.modCl p (fun c => { c with inFlight := c.inFlight.filter (· != ⟨0, k.stream, k.g, e⟩) }) = w at *
  have hcl : w.cl p = { z.cl p with inFlight := [] } := by
    rw [← hw, State.cl_modCl hpz, hflight']
    simp
  have hpw : p < w.clusters.length := by
    rw [← hw, State.clusters_length_modCl]
    exact hpz
  have hdone : z.finishSweep p ⟨0, k.stream, k.g, e⟩ = w.checkDone p k.stream k.g e := by
    unfold State.finishSweep
    rw [hw]
    rfl
  have hwx : w.stream? k.stream = some x := by
    have : w.streams = s.streams := by
      rw [← hw]
      exact hstreams
    unfold State.stream?
    rw [this]
    exact hx
  have hwc : (w.cl p).cand? k.stream k.g Cand.wantsCheck = some c := by
    rw [hcl]
    unfold Cluster.cand? at hc ⊢
    rw [← hc]
    exact congrArg (List.find? _) hcands
  obtain ⟨hstill, -⟩ := State.checkDone_judges (p := p) (g := k.g) (e := e) hwx hwc
  have hfinal := State.still_of_stillCls hstill p
  rw [State.cl_modCl hpw, hcl] at hfinal
  rw [hdone] at hrow
  have hfound : (z.cl p).cands.find? (fun x => x.stream == k.stream && x.g == k.g && !x.dropped && Cand.wantsCheck x) = some c := by
    rw [hcands]
    exact hc
  obtain ⟨hcs, hcg, -, -⟩ := Cluster.cand?_some hc
  generalize w.checkDone p k.stream k.g e = u at hrow hfinal
  generalize (w.checkRun x c e).record (w.binding x).wid k.g 0 e = v at hfinal
  refine ⟨_, Cand.checked (w.binding x).n (w.checkRun x c e) v c, hrow, ?_, (congrArg Cluster.inFlight hfinal :), ?_, hcs, hcg, rfl⟩
  · exact (congrArg Cluster.parked hfinal :).trans hparked
  · have hlist := (congrArg Cluster.cands hfinal :)
    change _ ∈ (u.cl p).cands
    rw [show (u.cl p).cands = _ from hlist]
    exact mem_modFirst _ hfound

/-- A good pan that is not staged takes its slot, and the query leaves (R161, R271). -/
theorem resolution_stages (hp : p < 64) (hq : q < 64) (hlen : s.clusters.length = 64) (hk : (s.cl p).parked[q]? = some k)
    (hen : s.enabled p = true) {h i : Nat} (a : Nat) (hidle : (s.cl p).inFlight = []) (hlanes : (s.cl p).lanes = [])
    (hpans : k.need.pans = [h]) (hnot : (s.cl p).holdsPan h = false) (hgood : s.panBad k.need h = false)
    (hready : s.dmaReady (stackOf p) = true) (hslot : (s.cl p).slotFor h = some i) :
    ∃ s', exec (.resolutionRequest p q ⟨.none, a⟩ t) s = .next s' ∧ (s'.cl p).parked = (s.cl p).parked.eraseIdx q ∧
      (∃ y ∈ (s'.cl p).staged, y.slot = i ∧ y.handle = h ∧ y.pins = 1) ∧
      { s' with time := s.time, clusters := s.clusters, stks := s.stks, hub := s.hub, sram := s.sram } = s := by
  have hrow := resolutionRequest_runs (s := s) (q := q) (t := t) hp ⟨.none, a⟩
  have hlen' : p < (s.at t).clusters.length := by
    rw [State.at_clusters]
    omega
  have hgo : (s.at t).resolution p q ⟨.none, a⟩ = (((s.at t).lanesFreed p).resolveQuery p q k.need).finishSweeps p :=
    State.resolution_runs (s := s.at t) hk hen hq _
  have hfreed := State.lanesFreed_cl hlen'
  rw [Cluster.lanesDone_none (c := (s.at t).cl p) hlanes] at hfreed
  obtain ⟨l, hl⟩ := (s.at t).lanesFreed_only p
  have hlenF : p < ((s.at t).lanesFreed p).clusters.length := by
    rw [State.clusters_length_of_still ((s.at t).lanesFreed_stillCls p), State.clusters_length_modCl]
    exact hlen'
  generalize (s.at t).lanesFreed p = y at *
  have hoffY : y.offStage = (s.at t).offStage := by rw [hl]; rfl
  generalize hz : y.modCl p (fun c => k.need.keys.foldl Cluster.resolve c) = z at *
  have hclZ : z.cl p = k.need.keys.foldl Cluster.resolve (y.cl p) := by rw [← hz, State.cl_modCl hlenF]
  have hlenZ : p < z.clusters.length := by
    rw [← hz, State.clusters_length_modCl]
    exact hlenF
  obtain ⟨hst, hpk, hfl, -⟩ := Cluster.resolveAll_parts k.need.keys (y.cl p)
  rw [← hclZ] at hst hpk hfl
  have hstS : (z.cl p).staged = (s.cl p).staged := hst.trans (congrArg Cluster.staged hfreed :)
  have hpkS : (z.cl p).parked = (s.cl p).parked := hpk.trans (congrArg Cluster.parked hfreed :)
  have hflS : (z.cl p).inFlight = (s.cl p).inFlight := hfl.trans (congrArg Cluster.inFlight hfreed :)
  have hbadZ (n : Need) (j : Nat) : z.panBad n j = s.panBad n j := by
    refine State.panBad_congr ?_ ?_ n j
    · rw [← hz, hl]
      rfl
    · rw [← hz, hl]
      rfl
  have hreadyZ : z.dmaReady (stackOf p) = true := by
    rw [← hz, hl]
    exact hready
  obtain ⟨hstaged, hoff⟩ := State.stagePan_stages (s := z) (p := p) (n := k.need)
    ((Cluster.holdsPan_congr (congrArg (List.map StagedPan.handle) hstS) h).trans hnot) ((hbadZ ..).trans hgood) hreadyZ
    ((Cluster.slotFor_congr hstS h).trans hslot)
  have hoffZ : z.offStage = y.offStage := by rw [← hz]; rfl
  have hfold : k.need.pans.foldl (State.stagePan p k.need) z = z.stagePan p k.need h := by rw [hpans]; rfl
  generalize hu : z.stagePan p k.need h = u at *
  have hlenU : p < u.clusters.length := by
    rw [State.clusters_length_of_still hstaged, State.clusters_length_modCl]
    exact hlenZ
  have hclU := State.still_of_stillCls hstaged p
  rw [State.cl_modCl hlenZ] at hclU
  have hstU : (u.cl p).staged = (z.cl p).staged.filter (·.slot != i) ++ [⟨i, h, getU (z.panHeader h) 12 4, (z.cl p).readOrder, 0⟩] :=
    (congrArg Cluster.staged hclU :)
  have hhold : (u.cl p).holdsPan h = true := by
    unfold Cluster.holdsPan
    rw [hstU]
    simp
  have hresolve : y.resolveQuery p q k.need = u.modCl p (Cluster.served u.time.now q k.need) := by
    unfold State.resolveQuery
    rw [hz]
    dsimp only
    rw [hfold]
    refine if_pos (List.all_eq_true.mpr fun j hj => ?_)
    rw [hpans, List.mem_singleton] at hj
    rw [hj, hhold, Bool.true_or]
  have hclV : (u.modCl p (Cluster.served u.time.now q k.need)).cl p = (u.cl p).served u.time.now q k.need := State.cl_modCl hlenU _
  obtain ⟨hflV, -, hpkV, -⟩ := Cluster.served_parts u.time.now q k.need (u.cl p)
  have hflU : (u.cl p).inFlight = (z.cl p).inFlight := (congrArg Cluster.inFlight hclU :)
  have hpkU : (u.cl p).parked = (z.cl p).parked := (congrArg Cluster.parked hclU :)
  rw [hgo, hresolve, State.finishSweeps_idle (by rw [hclV, hflV, hflU, hflS, hidle])] at hrow
  refine ⟨_, hrow, ?_, ?_, ?_⟩
  · change ((u.modCl p _).cl p).parked = _
    rw [hclV, hpkV, hpkU, hpkS]
  · change ∃ y ∈ ((u.modCl p _).cl p).staged, _
    rw [hclV]
    refine ⟨⟨i, h, getU (z.panHeader h) 12 4, (u.cl p).readOrder, 1⟩, ?_, rfl, rfl, rfl⟩
    have hin : (⟨i, h, getU (z.panHeader h) 12 4, (z.cl p).readOrder, 0⟩ : StagedPan) ∈ (u.cl p).staged := by
      rw [hstU]
      simp
    have hmem : k.need.pans.contains h = true := by
      rw [hpans]
      simp
    refine List.mem_map.mpr ⟨⟨i, h, getU (z.panHeader h) 12 4, (u.cl p).readOrder, 0⟩, List.mem_map.mpr ⟨_, hin, ?_⟩, ?_⟩
    · exact if_pos hmem
    · exact if_pos hmem
  · have hframe : u.offStage = (s.at t).offStage := (hoff.trans hoffZ).trans hoffY
    exact congrArg (fun x : State => { x with time := s.time, clusters := s.clusters, stks := s.stks, hub := s.hub, sram := s.sram,
                                              pending := s.pending }) hframe

/-- An uncorrectable read of a pan marks it bad, and every query that needs it leaves (R162, R280). -/
theorem resolution_spoils (hp : p < 64) (hq : q < 64) (hlen : s.clusters.length = 64) (hk : (s.cl p).parked[q]? = some k)
    (hen : s.enabled p = true) {h a : Nat} (hpan : k.need.panOf a = some h) :
    ∃ s', exec (.resolutionRequest p q ⟨.uncorrectable, a⟩ t) s = .next s' ∧
      (∀ r ∈ (s'.cl p).parked, h ∉ r.need.pans) ∧ h ∈ s'.worlds.badHandles ∧
      ((s.cl p).inFlight = [] → s'.safety = s.safety) := by
  have hrow := resolutionRequest_runs (s := s) (q := q) (t := t) hp ⟨.uncorrectable, a⟩
  have hlen' : p < (s.at t).clusters.length := by
    rw [State.at_clusters]
    omega
  have hgo : (s.at t).resolution p q ⟨.uncorrectable, a⟩ =
      ((((s.at t).lanesFreed p).bumpHub 4).spoilPan p h).finishSweeps p := by
    rw [State.resolution_runs (s := s.at t) hk hen hq, hpan]
  have hfreed := State.lanesFreed_cl hlen'
  have hrest := ((s.at t).cl p).lanesDone_parts (s.at t).time.now |>.1
  have hlenF : ((s.at t).lanesFreed p).clusters.length = s.clusters.length := by
    rw [State.clusters_length_of_still ((s.at t).lanesFreed_stillCls p), State.clusters_length_modCl]
    rfl
  have hsafety : ((s.at t).lanesFreed p).safety = s.safety := by
    obtain ⟨l, hl⟩ := (s.at t).lanesFreed_only p
    rw [hl]
    rfl
  have hflight : (((s.at t).lanesFreed p).cl p).inFlight = (s.cl p).inFlight :=
    (congrArg Cluster.inFlight hfreed :).trans (congrArg Cluster.inFlight hrest :)
  generalize hz : ((s.at t).lanesFreed p).bumpHub 4 = z at *
  have hflightZ : (z.cl p).inFlight = (s.cl p).inFlight := by
    rw [← hz]
    exact hflight
  have hlenZ : p < (z.panFault p h).clusters.length := by
    rw [State.panFault_clusters, ← hz, State.bumpHub_clusters, hlenF, hlen]
    exact hp
  have hclZ : (z.panFault p h).cl p = z.cl p := by
    unfold State.cl
    rw [State.panFault_clusters]
  have hgone : ∀ r ∈ ((z.spoilPan p h).cl p).parked, h ∉ r.need.pans := by
    intro r hr hin
    unfold State.spoilPan at hr
    rw [State.cl_modCl hlenZ, hclZ] at hr
    obtain ⟨hmem, hnone⟩ := List.mem_filter.mp hr
    simp only [Bool.not_eq_true', List.any_eq_false, List.mem_filter, List.contains_iff_mem] at hnone
    exact absurd (by simp) (hnone r ⟨hmem, hin⟩)
  have hbad : h ∈ (z.spoilPan p h).worlds.badHandles := State.panFault_badHandles p h z (.inr rfl)
  have hsafetyS : (z.spoilPan p h).safety = s.safety := by
    rw [State.spoilPan_safety, ← hz]
    exact hsafety
  have hflightS : ((z.spoilPan p h).cl p).inFlight = (s.cl p).inFlight := by
    unfold State.spoilPan
    rw [State.cl_modCl hlenZ, hclZ]
    exact hflightZ
  rw [hgo] at hrow
  obtain ⟨hstores, hkeep⟩ := State.sameStores_finishSweeps h p (z.spoilPan p h)
  refine ⟨_, hrow, ?_, hkeep hbad, fun hidle => ?_⟩
  · change ∀ r ∈ (((z.spoilPan p h).finishSweeps p).cl p).parked, _
    rw [State.stores_cl, hstores, ← State.stores_cl]
    exact hgone
  · rw [State.finishSweeps_idle (hflightS.trans hidle)]
    exact hsafetyS

/-- An uncorrectable read of a directory or fine-map entry is HBM_UE (R280). -/
theorem resolution_latches (hp : p < 64) (hq : q < 64) (hk : (s.cl p).parked[q]? = some k) (hen : s.enabled p = true) {a : Nat}
    (hpan : k.need.panOf a = none) (hentry : s.entryOf k.need a = true) (hroom : s.safety.latch.length < 32) :
    ∃ s', exec (.resolutionRequest p q ⟨.uncorrectable, a⟩ t) s = .next s' ∧ s'.faultLatched 0x0101 (max s.time.now t) := by
  have hrow := resolutionRequest_runs (s := s) (q := q) (t := t) hp ⟨.uncorrectable, a⟩
  obtain ⟨l, hl⟩ := (s.at t).lanesFreed_only p
  have hgo : (s.at t).resolution p q ⟨.uncorrectable, a⟩ = (((s.at t).lanesFreed p).bumpHub 4).hwFault 0x0101 p a := by
    rw [State.resolution_runs (s := s.at t) hk hen hq, hpan, hl]
    dsimp only
    rw [show ({ s.at t with clusters := l } : State).entryOf k.need a = true from hentry]
  rw [hgo, hl] at hrow
  have hlatched := State.detect_faultLatched (s := ({ s.at t with clusters := l } : State).bumpHub 4) hroom 0x0101
    (if p < 64 then stackOf p else 0xFF) p 0xFF (le 16 a)
  have hname : (({ s.at t with clusters := l } : State).bumpHub 4).hwFault 0x0101 p a =
    (({ s.at t with clusters := l } : State).bumpHub 4).detect 0x0101 (if p < 64 then stackOf p else 0xFF) p 0xFF (le 16 a) := rfl
  rw [← hname] at hlatched
  generalize (({ s.at t with clusters := l } : State).bumpHub 4).hwFault 0x0101 p a = u at hrow hlatched
  exact ⟨_, hrow, hlatched⟩

end

/-- Settles O39, each clause from the rule of its conversion or its resolution. -/
theorem boxesAndResolution : Obligations.BoxesAndResolution := by
  unfold Obligations.BoxesAndResolution
  intro s p q job j k t hp hq hlen
  refine ⟨distBuild_converts, distBuild_early, fun hk hen => ⟨fun r => resolution_leaves hp hq hlen hk hen r, ?_, ?_, ?_, ?_⟩,
    fun hno r => resolution_nothing hp hno r⟩
  · exact fun h i a => resolution_stages hp hq hlen hk hen a
  · exact fun c e _ => resolution_ends hp hq hlen hk hen
  · exact fun h a => resolution_spoils hp hq hlen hk hen
  · exact fun a => resolution_latches hp hq hk hen

end Sys2Proof.Machine
end

section
/-!
SUPPORT. A check operation that runs to its end, or stays in flight (R160, R161, R177).
-/
namespace Sys2Proof.Machine

/-! ## Queries of an operation -/

theorem Cluster.enterLanes_rest (c : Cluster) (now : Nat) (n : Need) : { c.enterLanes now n with
    readOrder := c.readOrder, resolved := c.resolved, staged := c.staged, lanes := c.lanes } = c := rfl

/-- The cluster at the start of an operation: done lanes leave, reads are counted, queries enter the lanes or the store. -/
def Cluster.begun (now : Nat) (f : Sweeping) (needs : List Need) (c : Cluster) : Cluster :=
  ((c.lanesDone now).countReads needs).park now f needs

/-- A cluster apart from its sweep unit's queries, pans and reads. -/
def Cluster.offQueries (c : Cluster) : Cluster :=
  { c with readOrder := 0, resolved := [], staged := [], lanes := [], parked := [], panReads := [], panPlaces := [] }

theorem Cluster.enterAll_parked (l : List Need) (now : Nat) (c : Cluster) :
    (l.foldl (fun c n => c.enterLanes now n) c).parked = c.parked := by
  induction l generalizing c with
  | nil => rfl
  | cons n l ih => exact (ih _).trans rfl

theorem Cluster.enterAll_offQueries (l : List Need) (now : Nat) (c : Cluster) :
    (l.foldl (fun c n => c.enterLanes now n) c).offQueries = c.offQueries := by
  induction l generalizing c with
  | nil => rfl
  | cons n l ih => exact (ih _).trans rfl

theorem Cluster.lanesDone_offQueries (c : Cluster) (now : Nat) : (c.lanesDone now).offQueries = c.offQueries :=
  (congrArg Cluster.offQueries (c.lanesDone_parts now).1 :)

theorem Cluster.begun_offQueries (now : Nat) (f : Sweeping) (needs : List Need) (c : Cluster) :
    (c.begun now f needs).offQueries = c.offQueries := by
  unfold Cluster.begun Cluster.park
  dsimp only
  exact (Cluster.enterAll_offQueries ..).trans (c.lanesDone_offQueries now)

theorem Cluster.begun_parked (now : Nat) (f : Sweeping) (needs : List Need) (c : Cluster) : (c.begun now f needs).parked =
    c.parked ++ ((needs.filter fun n => !((c.lanesDone now).countReads needs).ready n).map fun n =>
      ({ stream := f.stream, g := f.g, kind := f.kind, need := n } : Parked)).dedup := by
  have hlanes := (congrArg Cluster.parked (c.lanesDone_parts now).1 :)
  unfold Cluster.begun Cluster.park
  dsimp only
  rw [Cluster.enterAll_parked]
  exact congrArg (· ++ _) hlanes

/-- Whether a query finds all it needs is a matter of the table and the staged pans. -/
theorem Cluster.begun_ready (now : Nat) (needs : List Need) (c : Cluster) (n : Need) :
    ((c.lanesDone now).countReads needs).ready n = c.ready n := by
  obtain ⟨hrest, hhandles⟩ := c.lanesDone_parts now
  have htable : (c.lanesDone now).resolved = c.resolved := (congrArg Cluster.resolved hrest :)
  have hknows (a b : Nat) : ((c.lanesDone now).countReads needs).knows a b = c.knows a b :=
    congrArg (fun l : List (Nat × Nat × Nat) => l.any fun r => r.1 == a && r.2.1 == b) htable
  have hholds : ((c.lanesDone now).countReads needs).holdsPan = c.holdsPan := funext (Cluster.holdsPan_congr hhandles)
  unfold Cluster.ready
  simp only [hknows, hholds]

/-! ## To its end, or in flight -/

section
variable {s : State} {p : Nat} {f : Sweeping} {needs : List Need}

theorem State.sweep_ends (h : ∀ n ∈ needs, (s.cl p).ready n = true) (done : State → State) :
    s.sweep p f needs done = done (s.modCl p (Cluster.begun s.time.now f needs)) := by
  unfold State.sweep
  exact if_pos (List.all_eq_true.mpr h)

/-- The state of a cluster whose operation stays in flight. -/
theorem State.sweep_waits (h : ∃ n ∈ needs, (s.cl p).ready n = false) (done : State → State) : s.sweep p f needs done =
    (s.modCl p (Cluster.begun s.time.now f needs)).modCl p fun c => { c with inFlight := c.inFlight ++ [f] } := by
  unfold State.sweep
  refine if_neg fun hall => ?_
  obtain ⟨n, hn, hno⟩ := h
  have hyes := List.all_eq_true.mp hall n hn
  rw [hno] at hyes
  exact absurd hyes Bool.false_ne_true

theorem State.sweep_stays (hp : p < s.clusters.length) (h : ∃ n ∈ needs, (s.cl p).ready n = false) (done : State → State) :
    s.staysInFlight (s.sweep p f needs done) p f := by
  rw [State.sweep_waits h]
  have hcl : ((s.modCl p (Cluster.begun s.time.now f needs)).modCl p fun c => { c with inFlight := c.inFlight ++ [f] }).cl p =
      { (s.cl p).begun s.time.now f needs with inFlight := ((s.cl p).begun s.time.now f needs).inFlight ++ [f] } := by
    rw [State.cl_modCl (by rw [State.clusters_length_modCl]; exact hp), State.cl_modCl hp]
  have hoff := Cluster.begun_offQueries s.time.now f needs (s.cl p)
  unfold State.staysInFlight
  rw [hcl]
  refine ⟨?_, (congrArg Cluster.cands hoff :), ⟨_, ?_, Cluster.begun_parked .., ?_⟩, fun q hq => ?_, rfl⟩
  · exact List.mem_append_right _ List.mem_cons_self
  · obtain ⟨n, hn, hno⟩ := h
    refine List.ne_nil_of_mem (a := ⟨f.stream, f.g, f.kind, n⟩) (List.mem_dedup.mpr (List.mem_map.mpr ⟨n, ?_, rfl⟩))
    exact List.mem_filter.mpr ⟨hn, by rw [Cluster.begun_ready, hno]; rfl⟩
  · intro k hk
    obtain ⟨n, -, rfl⟩ := List.mem_map.mp (List.mem_dedup.mp hk)
    exact ⟨rfl, rfl, rfl⟩
  · rw [State.cl_modCl_ne hq, State.cl_modCl_ne hq]

end

/-- What the beginning of an operation leaves to its end. -/
theorem State.begun_parts {s : State} {p : Nat} (hp : p < s.clusters.length) (f : Sweeping) (needs : List Need) :
    ((s.modCl p (Cluster.begun s.time.now f needs)).cl p).offQueries = (s.cl p).offQueries ∧
      (∀ q, q ≠ p → (s.modCl p (Cluster.begun s.time.now f needs)).cl q = s.cl q) ∧
      p < (s.modCl p (Cluster.begun s.time.now f needs)).clusters.length := by
  refine ⟨by rw [State.cl_modCl hp, Cluster.begun_offQueries], fun q hq => State.cl_modCl_ne hq _, ?_⟩
  rw [State.clusters_length_modCl]
  exact hp

theorem Cluster.cand?_congr {c d : Cluster} (h : c.cands = d.cands) (id g : Nat) (P : Cand → Bool) :
    c.cand? id g P = d.cand? id g P := congrArg (List.find? _) h

/-! ## CHECK (R160, R177) -/

section
variable {s : State} {id p g e t : Nat} {x : Stream} {c : Cand}

theorem check_runs (hp : p < 64) (hid : id < 512) (hx : s.stream? id = some x) (hwork : s.working = true)
    (hsweep : (s.at t).sweeps p = true) (hc : (s.cl p).cand? id g Cand.wantsCheck = some c)
    (hlatch : s.latch .check id g = some e) (hfree : (s.cl p).flying 0 id g = false) :
    exec (.check p id g t) s = .next { (s.at t).sweep p ⟨0, id, g, e⟩ ((s.at t).checkRun x c e).needs
      (State.checkDone p id g e) with pending := s.pending } := by
  have hguard : (below p 64 && streamOk id) = true := by simp [below, streamOk, hp, hid]
  have hrow := (exec_check p id g t s).trans (ranAt_pos hguard ..)
  have heq : State.checkOp p id g (s.at t) = (s.at t).sweep p ⟨0, id, g, e⟩ ((s.at t).checkRun x c e).needs
      (State.checkDone p id g e) := by
    have hx' : (s.at t).stream? id = some x := hx
    have hc' : ((s.at t).cl p).cand? id g Cand.wantsCheck = some c := hc
    have hlatch' : (s.at t).latch .check id g = some e := hlatch
    have hwork' : (s.at t).working = true := hwork
    have hfree' : ((s.at t).cl p).flying 0 id g = false := hfree
    unfold State.checkOp
    rw [hx', hc', hlatch']
    exact State.when_pos (by rw [hwork', hsweep, hfree']; rfl) _ _
  rw [heq] at hrow
  exact hrow

theorem check_nothing (hp : p < 64) (hid : id < 512) (hc : (s.cl p).cand? id g Cand.wantsCheck = none) :
    ∃ s', exec (.check p id g t) s = .next s' ∧ { s' with time := s.time } = s := by
  have hguard : (below p 64 && streamOk id) = true := by simp [below, streamOk, hp, hid]
  have hrow := (exec_check p id g t s).trans (ranAt_pos hguard ..)
  have heq : State.checkOp p id g (s.at t) = s.at t := by
    have hc' : ((s.at t).cl p).cand? id g Cand.wantsCheck = none := hc
    unfold State.checkOp
    rw [hc']
    cases (s.at t).stream? id <;> rfl
  rw [heq] at hrow
  exact ⟨_, hrow, rfl⟩

/-- A limited operation whose spline leaves a joint's span is LIMIT_DROP without a step (R200). -/
theorem SweepOp.judged_limit {op : SweepOp} {j : Nat} (h : op.b.limitJoint op.cp = some j) (s : State) :
    (op.judged s true).verdict = 11 ∧ (op.judged s true).hitObj = j ∧ (op.judged s true).steps = 0 := by
  have heq : op.judged s true = limitDrop j := by
    unfold SweepOp.judged
    rw [if_pos rfl, h]
  rw [heq]
  exact ⟨rfl, rfl, rfl⟩

theorem State.checkRun_limit {j : Nat} (h : (s.binding x).limitJoint c.cp = some j) (e : Nat) :
    (s.checkRun x c e).verdict = 11 ∧ (s.checkRun x c e).hitObj = j ∧ (s.checkRun x c e).steps = 0 := by
  unfold State.checkRun
  refine SweepOp.judged_limit ?_ s
  exact h

theorem check_judges (hp : p < 64) (hid : id < 512) (hlen : s.clusters.length = 64) (hx : s.stream? id = some x)
    (hwork : s.working = true) (hsweep : (s.at t).sweeps p = true) (hc : (s.cl p).cand? id g Cand.wantsCheck = some c)
    (hlatch : s.latch .check id g = some e) (hfree : (s.cl p).flying 0 id g = false)
    (hready : ∀ n ∈ ((s.at t).checkRun x c e).needs, (s.cl p).ready n = true) :
    ∃ s' c' v, exec (.check p id g t) s = .next s' ∧ c' ∈ (s'.cl p).cands ∧ c'.stream = id ∧ c'.g = g ∧ c'.cp = c.cp ∧
      c'.check = some v ∧ v.g = g ∧ v.stream = (s.binding x).wid ∧ v.kind = 0 ∧ v.epoch = e ∧
      (v.verdict ≠ 0 → c'.segClear = []) ∧
      (∀ j, (s.binding x).limitJoint c.cp = some j → v.verdict = 11 ∧ v.hitObj = j ∧ v.steps = 0) ∧
      (s'.cl p).cands.length = (s.cl p).cands.length ∧ (∀ q, q ≠ p → (s'.cl q).cands = (s.cl q).cands) ∧
      s'.streams = s.streams ∧ s'.hbm = s.hbm ∧ s'.safety = s.safety ∧ s'.frame = s.frame := by
  have hrow := check_runs hp hid hx hwork hsweep hc hlatch hfree
  rw [State.sweep_ends (s := s.at t) hready] at hrow
  obtain ⟨hoffq, hothers, hlenZ⟩ := State.begun_parts (s := s.at t) (p := p) (by rw [State.at_clusters]; omega) ⟨0, id, g, e⟩
    ((s.at t).checkRun x c e).needs
  have hstreamsZ : ((s.at t).modCl p (Cluster.begun (s.at t).time.now ⟨0, id, g, e⟩ ((s.at t).checkRun x c e).needs)).streams =
      s.streams := rfl
  have hkeep : ((s.at t).modCl p (Cluster.begun (s.at t).time.now ⟨0, id, g, e⟩ ((s.at t).checkRun x c e).needs)).offSweep =
      s.offSweep := rfl
  have hbind : ((s.at t).modCl p (Cluster.begun (s.at t).time.now ⟨0, id, g, e⟩ ((s.at t).checkRun x c e).needs)).binding x =
      s.binding x := rfl
  generalize (s.at t).modCl p (Cluster.begun (s.at t).time.now ⟨0, id, g, e⟩ ((s.at t).checkRun x c e).needs) = z at *
  have hcands : (z.cl p).cands = (s.cl p).cands := (congrArg Cluster.cands hoffq :)
  have hzx : z.stream? id = some x := (congrArg (List.find? fun y : Stream => y.id == id) hstreamsZ).trans hx
  obtain ⟨hstill, hoff⟩ := State.checkDone_judges (g := g) (e := e) hzx ((Cluster.cand?_congr hcands ..).trans hc)
  rw [hbind] at hstill
  have hlimit (j : Nat) (hj : (s.binding x).limitJoint c.cp = some j) : (z.checkRun x c e).verdict = 11 ∧
      (z.checkRun x c e).hitObj = j ∧ (z.checkRun x c e).steps = 0 := by
    rw [← hbind] at hj
    exact State.checkRun_limit hj e
  generalize z.checkRun x c e = r at hstill hlimit
  have hcl := State.still_of_stillCls hstill p
  rw [State.cl_modCl hlenZ] at hcl
  have hlist : ((z.checkDone p id g e).cl p).cands = modFirst (fun y => y.stream == id && y.g == g && !y.dropped && Cand.wantsCheck y)
      (Cand.checked (s.binding x).n r (r.record (s.binding x).wid g 0 e)) (z.cl p).cands := (congrArg Cluster.cands hcl :)
  have hrest : ∀ q, q ≠ p → ((z.checkDone p id g e).cl q).cands = (s.cl q).cands := by
    intro q hq
    have hq' := State.still_of_stillCls hstill q
    rw [State.cl_modCl_ne hq, hothers q hq] at hq'
    exact (congrArg Cluster.cands hq' :)
  have hparts := hoff.trans hkeep
  obtain ⟨hcs, hcg, -, -⟩ := Cluster.cand?_some hc
  rw [hcands] at hlist
  generalize z.checkDone p id g e = u at hrow hlist hrest hparts
  simp only [State.offSweep, Prod.mk.injEq] at hparts
  obtain ⟨hstreams, hhbm, hsafety, hframe, -⟩ := hparts
  refine ⟨_, Cand.checked (s.binding x).n r (r.record (s.binding x).wid g 0 e) c, r.record (s.binding x).wid g 0 e, hrow, ?_, hcs,
    hcg, rfl, rfl, rfl, rfl, rfl, rfl, fun hv => if_neg hv, fun j hj => ?_, ?_, hrest, hstreams, hhbm, hsafety, hframe⟩
  · change _ ∈ (u.cl p).cands
    rw [hlist]
    exact mem_modFirst _ hc
  · exact hlimit j hj
  · change (u.cl p).cands.length = _
    rw [hlist, modFirst_length]

end

end Sys2Proof.Machine
end

section
/-!
SUPPORT. RECHECK and PROBE of a candidate (R182, R200, R206, R209).
-/
namespace Sys2Proof.Machine

/-! ## RECHECK -/

/-- What a RECHECK's end is asked about. -/
def State.recView (p : Nat) (s : State) :=
  ((s.cl p).cands, (s.cl p).mapSlots, s.hbm, s.streams, s.safety, s.frame)

/-- The candidates of a cluster after one of them changed. -/
def Cluster.candsWith (id g : Nat) (P : Cand → Bool) (f : Cand → Cand) (c : Cluster) : List Cand :=
  modFirst (fun z => z.stream == id && z.g == g && !z.dropped && P z) f c.cands

theorem Cluster.mem_candsWith {c : Cluster} {id g : Nat} {P : Cand → Bool} {x : Cand} (f : Cand → Cand)
    (h : c.cand? id g P = some x) : f x ∈ c.candsWith id g P f := mem_modFirst f h

section
variable {s : State} {p : Nat}

theorem State.cl_modCand (hp : p < s.clusters.length) (id g : Nat) (P : Cand → Bool) (f : Cand → Cand) :
    (s.modCand p id g P f).cl p = { s.cl p with cands := (s.cl p).candsWith id g P f } := State.cl_modCl hp _

theorem State.tallyOn_recView (hp : p < s.clusters.length) (id : Nat) (f : Tally → Tally) :
    (s.tallyOn p id f).recView p = s.recView p := by
  unfold State.recView State.tallyOn
  rw [State.cl_modCl hp]
  rfl

theorem State.modCand_recView (hp : p < s.clusters.length) (id g : Nat) (P : Cand → Bool) (f : Cand → Cand) :
    (s.modCand p id g P f).recView p =
      ((s.cl p).candsWith id g P f, (s.cl p).mapSlots, s.hbm, s.streams, s.safety, s.frame) := by
  unfold State.recView
  rw [State.cl_modCand hp]
  rfl

theorem State.keepMap_recView (hp : p < s.clusters.length) (slot : Nat) (tm : List TmEntry) :
    (s.keepMap p slot tm).recView p = ((s.cl p).cands, (s.cl p).mapSlots ++ [slot],
      if slot < 320 then Mem.writeBytes (timeMapAddr p slot) (tmBytes tm) s.hbm else s.hbm, s.streams, s.safety, s.frame) := by
  have hcl : (s.keepMap p slot tm).cl p = { s.cl p with mapSlots := (s.cl p).mapSlots ++ [slot] } := by
    unfold State.keepMap
    dsimp only
    split <;> exact State.cl_modCl hp _
  unfold State.recView
  rw [hcl]
  unfold State.keepMap
  dsimp only
  split <;> rfl

theorem State.keepMap_length (s : State) (p slot : Nat) (tm : List TmEntry) :
    (s.keepMap p slot tm).clusters.length = s.clusters.length := by
  unfold State.keepMap
  dsimp only
  split <;> exact State.clusters_length_modCl s p _

/-- A CLEAR candidate with its slot of HBM and its swept boxes. -/
def Cand.recheckedClear (n slot : Nat) (r : Progress) (v : Verdict) (c : Cand) : Cand :=
  { c with recheck := some v, swept := r.swept n, smooth := { c.smooth with mapSlot := slot } }

/-- What the end of a RECHECK leaves (R182, R200, R209). -/
theorem State.recheckDone_recView {id g e : Nat} {x : Stream} {c : Cand} (hp : p < s.clusters.length)
    (hx : s.stream? id = some x) (hc : (s.cl p).cand? id g Cand.wantsRecheck = some c) :
    (s.recheckDone p id g e).recView p =
      let r := s.recheckRun x c e
      let v := r.record (s.binding x).wid g 1 e
      let slot := (s.cl p).freeMapSlot
      if r.verdict = 0 then
        ((s.cl p).candsWith id g Cand.wantsRecheck (Cand.recheckedClear (s.binding x).n slot r v), (s.cl p).mapSlots ++ [slot],
          if slot < 320 then Mem.writeBytes (timeMapAddr p slot) (tmBytes c.tm) s.hbm else s.hbm, s.streams, s.safety, s.frame)
      else ((s.cl p).candsWith id g Cand.wantsRecheck (fun c => { c with recheck := some v }), (s.cl p).mapSlots, s.hbm, s.streams,
        s.safety, s.frame) := by
  have hdone := State.verdictDone_stillCls p 1 9 x g (s.recheckRun x c e) ((s.recheckRun x c e).record (s.binding x).wid g 1 e) s
  have hoff := State.verdictDone_offSweep p 1 9 x g (s.recheckRun x c e) ((s.recheckRun x c e).record (s.binding x).wid g 1 e) s
  unfold State.recheckDone
  rw [hx, hc]
  dsimp only
  generalize s.recheckRun x c e = r at hdone hoff ⊢
  generalize r.record (s.binding x).wid g 1 e = v at hdone hoff ⊢
  generalize s.verdictDone p 1 9 x g r v = y at hdone hoff ⊢
  have hcl := State.still_of_stillCls hdone p
  rw [State.cl_modCl hp] at hcl
  have hcands (P : Cand → Bool) (f : Cand → Cand) : (y.cl p).candsWith id g P f = (s.cl p).candsWith id g P f :=
    congrArg (modFirst _ f) (congrArg Cluster.cands hcl :)
  have hslots : (y.cl p).mapSlots = (s.cl p).mapSlots := (congrArg Cluster.mapSlots hcl :)
  have hfree : (y.cl p).freeMapSlot = (s.cl p).freeMapSlot :=
    congrArg (fun l : List Nat => ((List.range 320).find? fun i => !l.contains i).getD 65535) hslots
  have hpy : p < y.clusters.length := by
    rw [State.clusters_length_of_still hdone, State.clusters_length_modCl]
    exact hp
  simp only [State.offSweep, Prod.mk.injEq] at hoff
  obtain ⟨hstreams, hhbm, hsafety, hframe, -⟩ := hoff
  by_cases hv : r.verdict = 0
  · rw [if_pos hv, if_pos hv, hfree]
    generalize (s.cl p).freeMapSlot = slot
    have hmap := State.keepMap_recView hpy slot c.tm
    rw [hslots, hhbm, hstreams, hsafety, hframe] at hmap
    have hmapLen := hpy
    rw [← State.keepMap_length y p slot c.tm] at hmapLen
    generalize y.keepMap p slot c.tm = w at hmap hmapLen ⊢
    simp only [State.recView, Prod.mk.injEq] at hmap
    obtain ⟨hwc, hwm, hwh, hws, hwsafe, hwf⟩ := hmap
    have hcand := State.modCand_recView hmapLen id g Cand.wantsRecheck (Cand.recheckedClear (s.binding x).n slot r v)
    have hcandLen : p < (w.modCand p id g Cand.wantsRecheck (Cand.recheckedClear (s.binding x).n slot r v)).clusters.length :=
      (State.clusters_length_modCl w p _).symm ▸ hmapLen
    have hlist : (w.cl p).candsWith id g Cand.wantsRecheck (Cand.recheckedClear (s.binding x).n slot r v) =
        (s.cl p).candsWith id g Cand.wantsRecheck (Cand.recheckedClear (s.binding x).n slot r v) :=
      (congrArg (modFirst _ _) hwc).trans (hcands ..)
    rw [hlist, hwm, hwh, hws, hwsafe, hwf] at hcand
    refine Eq.trans ?_ hcand
    have hinner (z : State) (hz : p < z.clusters.length) : (if c.origin = 3 then z else z.tallyOn p id fun t =>
        { t with clearRecheck := addS t.clearRecheck 1 }).recView p = z.recView p :=
      ite_view rfl (State.tallyOn_recView hz ..)
    exact ite_view (hinner _ hcandLen) (hinner _ hcandLen)
  · rw [if_neg hv, if_neg hv, State.modCand_recView hpy, hcands, hslots, hhbm, hstreams, hsafety, hframe]

end

section
variable {s : State} {id p g e t : Nat} {x : Stream} {c : Cand}

theorem recheck_runs (hp : p < 64) (hid : id < 512) (hx : s.stream? id = some x) (hwork : s.working = true)
    (hsweep : (s.at t).sweeps p = true) (hc : (s.cl p).cand? id g Cand.wantsRecheck = some c)
    (hlatch : s.latch .recheck id g = some e) (hfree : (s.cl p).flying 1 id g = false)
    (htask : c.origin = 2 → (s.cl p).runs .carriedRecheck (s.wireId id) = true) :
    exec (.recheck p id g t) s = .next { (s.at t).sweep p ⟨1, id, g, e⟩ ((s.at t).recheckRun x c e).needs
      (State.recheckDone p id g e) with pending := s.pending } := by
  have hguard : (below p 64 && streamOk id) = true := by simp [below, streamOk, hp, hid]
  have hrow := (exec_recheck p id g t s).trans (ranAt_pos hguard ..)
  have heq : State.recheckOp p id g (s.at t) = (s.at t).sweep p ⟨1, id, g, e⟩ ((s.at t).recheckRun x c e).needs
      (State.recheckDone p id g e) := by
    have hx' : (s.at t).stream? id = some x := hx
    have hc' : ((s.at t).cl p).cand? id g Cand.wantsRecheck = some c := hc
    have hlatch' : (s.at t).latch .recheck id g = some e := hlatch
    have hwork' : (s.at t).working = true := hwork
    have hfree' : ((s.at t).cl p).flying 1 id g = false := hfree
    have htask' : (c.origin != 2 || ((s.at t).cl p).runs .carriedRecheck ((s.at t).wireId id)) = true := by
      by_cases ho : c.origin = 2
      · rw [show ((s.at t).cl p).runs .carriedRecheck ((s.at t).wireId id) = true from htask ho, Bool.or_true]
      · rw [bne_iff_ne.mpr ho, Bool.true_or]
    unfold State.recheckOp
    rw [hx', hc', hlatch']
    exact State.when_pos (by rw [hwork', hsweep, hfree', htask']; rfl) _ _
  rw [heq] at hrow
  exact hrow

theorem State.recheckRun_limit {j : Nat} (ho : c.origin < 2) (h : (s.binding x).limitJoint c.cp = some j) (e : Nat) :
    (s.recheckRun x c e).verdict = 11 ∧ (s.recheckRun x c e).hitObj = j := by
  have hlimit : (s.recheckRun x c e).verdict = 11 ∧ (s.recheckRun x c e).hitObj = j ∧ (s.recheckRun x c e).steps = 0 := by
    unfold State.recheckRun
    rw [decide_eq_true ho]
    refine SweepOp.judged_limit ?_ s
    exact h
  exact ⟨hlimit.1, hlimit.2.1⟩

theorem recheck_judges (hp : p < 64) (hid : id < 512) (hlen : s.clusters.length = 64) (hx : s.stream? id = some x)
    (hwork : s.working = true) (hsweep : (s.at t).sweeps p = true) (hc : (s.cl p).cand? id g Cand.wantsRecheck = some c)
    (hlatch : s.latch .recheck id g = some e) (hfree : (s.cl p).flying 1 id g = false)
    (htask : c.origin = 2 → (s.cl p).runs .carriedRecheck (s.wireId id) = true)
    (hready : ∀ n ∈ ((s.at t).recheckRun x c e).needs, (s.cl p).ready n = true) :
    ∃ s' c' v, exec (.recheck p id g t) s = .next s' ∧ c' ∈ (s'.cl p).cands ∧ c'.stream = id ∧ c'.g = g ∧
      c'.cp = c.cp ∧ c'.recheck = some v ∧ v.g = g ∧ v.kind = 1 ∧ v.epoch = e ∧
      (v.verdict = 0 → c'.smooth.mapSlot = (s.cl p).freeMapSlot ∧
        (s'.cl p).mapSlots = (s.cl p).mapSlots ++ [(s.cl p).freeMapSlot] ∧
        ((s.cl p).freeMapSlot < 320 →
          s'.hbm = Mem.writeBytes (timeMapAddr p (s.cl p).freeMapSlot) (tmBytes c.tm) s.hbm)) ∧
      (v.verdict ≠ 0 → (s'.cl p).mapSlots = (s.cl p).mapSlots ∧ s'.hbm = s.hbm) ∧
      (c.origin < 2 → ∀ j, (s.binding x).limitJoint c.cp = some j → v.verdict = 11 ∧ v.hitObj = j) ∧
      s'.streams = s.streams ∧ s'.safety = s.safety ∧ s'.frame = s.frame := by
  have hrow := recheck_runs hp hid hx hwork hsweep hc hlatch hfree htask
  rw [State.sweep_ends (s := s.at t) hready] at hrow
  obtain ⟨hoffq, -, hlenZ⟩ := State.begun_parts (s := s.at t) (p := p) (by rw [State.at_clusters]; omega) ⟨1, id, g, e⟩
    ((s.at t).recheckRun x c e).needs
  generalize hz : (s.at t).modCl p (Cluster.begun (s.at t).time.now ⟨1, id, g, e⟩ ((s.at t).recheckRun x c e).needs) = z at *
  have hbind : z.binding x = s.binding x := by rw [← hz]; rfl
  have hcands : (z.cl p).cands = (s.cl p).cands := (congrArg Cluster.cands hoffq :)
  have hslots : (z.cl p).mapSlots = (s.cl p).mapSlots := (congrArg Cluster.mapSlots hoffq :)
  have hslot : (z.cl p).freeMapSlot = (s.cl p).freeMapSlot :=
    congrArg (fun l : List Nat => ((List.range 320).find? fun i => !l.contains i).getD 65535) hslots
  have hkept : z.hbm = s.hbm ∧ z.streams = s.streams ∧ z.safety = s.safety ∧ z.frame = s.frame := by
    rw [← hz]
    exact ⟨rfl, rfl, rfl, rfl⟩
  obtain ⟨hzh, hzs, hzsafe, hzf⟩ := hkept
  have hzx : z.stream? id = some x := (congrArg (List.find? fun y : Stream => y.id == id) hzs).trans hx
  have hview := State.recheckDone_recView (e := e) hlenZ hzx ((Cluster.cand?_congr hcands ..).trans hc)
  have hlist (f : Cand → Cand) : (z.cl p).candsWith id g Cand.wantsRecheck f = (s.cl p).candsWith id g Cand.wantsRecheck f :=
    congrArg (modFirst _ f) hcands
  simp only [hbind, hslot, hslots, hlist, hzh, hzs, hzsafe, hzf] at hview
  have hlimit (ho : c.origin < 2) (j : Nat) (hj : (s.binding x).limitJoint c.cp = some j) :
      (z.recheckRun x c e).verdict = 11 ∧ (z.recheckRun x c e).hitObj = j := by
    rw [← hbind] at hj
    exact State.recheckRun_limit ho hj e
  generalize z.recheckRun x c e = r at hview hlimit
  generalize z.recheckDone p id g e = u at hrow hview
  obtain ⟨hcs, hcg, -, -⟩ := Cluster.cand?_some hc
  unfold State.recView at hview
  by_cases hv : r.verdict = 0
  · simp only [if_pos hv, Prod.mk.injEq] at hview
    obtain ⟨huc, hum, huh, hus, husafe, huf⟩ := hview
    have hmem := Cluster.mem_candsWith (Cand.recheckedClear (s.binding x).n (s.cl p).freeMapSlot r
      (r.record (s.binding x).wid g 1 e)) hc
    rw [← huc] at hmem
    exact ⟨_, _, r.record (s.binding x).wid g 1 e, hrow, hmem, hcs, hcg, rfl, rfl, rfl, rfl, rfl,
      fun _ => ⟨rfl, hum, fun hlow => huh.trans (if_pos hlow)⟩, fun hno => absurd hv hno, hlimit, hus, husafe, huf⟩
  · simp only [if_neg hv, Prod.mk.injEq] at hview
    obtain ⟨huc, hum, huh, hus, husafe, huf⟩ := hview
    have hmem := Cluster.mem_candsWith (fun c => { c with recheck := some (r.record (s.binding x).wid g 1 e) }) hc
    rw [← huc] at hmem
    exact ⟨_, _, r.record (s.binding x).wid g 1 e, hrow, hmem, hcs, hcg, rfl, rfl, rfl, rfl, rfl,
      fun hyes => absurd hyes hv, fun _ => ⟨hum, huh⟩, hlimit, hus, husafe, huf⟩

/-! ## PROBE -/

theorem SweepOp.probe_length (op : SweepOp) (s : State) (sigmaEnd : Nat) (times : Nat → Nat → Nat × Nat) :
    (op.probe s sigmaEnd times).1.length = 33 := by
  unfold SweepOp.probe
  simp only [List.length_map, List.length_range]
  rfl

theorem State.probeRun_length : (s.probeRun x c e).1.length = 33 := by
  unfold State.probeRun
  exact SweepOp.probe_length ..

theorem State.probeDone_parts (hp : p < s.clusters.length) (hx : s.stream? id = some x)
    (hc : (s.cl p).cand? id g Cand.wantsProbe = some c) :
    { c with probe := some ((s.probeRun x c e).1, e) } ∈ ((s.probeDone p id g e).cl p).cands ∧
      ((s.probeDone p id g e).cl p).verdicts = (s.cl p).verdicts ++ [(s.probeRun x c e).2.record (s.binding x).wid g 4 e] ∧
      (s.probeDone p id g e).offSweep = s.offSweep := by
  have hafter := State.afterSweep_stillCls p 4 (s.probeRun x c e).2 x.tagLayer x.tagOperator s
  have hoff := State.afterSweep_offSweep p 4 (s.probeRun x c e).2 x.tagLayer x.tagOperator s
  unfold State.probeDone
  rw [hx, hc]
  dsimp only
  generalize s.probeRun x c e = r at hafter hoff ⊢
  generalize s.afterSweep p 4 r.2 x.tagLayer x.tagOperator = y at hafter hoff ⊢
  have hcl := State.still_of_stillCls hafter p
  rw [State.cl_modCl hp] at hcl
  have hcands : (y.cl p).cands = (s.cl p).cands := (congrArg Cluster.cands hcl :)
  have hverdicts : (y.cl p).verdicts = (s.cl p).verdicts := (congrArg Cluster.verdicts hcl :)
  have hpy : p < y.clusters.length := by
    rw [State.clusters_length_of_still hafter, State.clusters_length_modCl]
    exact hp
  generalize r.2.record (s.binding x).wid g 4 e = v
  have hnoted : (y.modCl p fun c => { c with verdicts := c.verdicts ++ [v] }).cl p = { y.cl p with
      verdicts := (y.cl p).verdicts ++ [v] } := State.cl_modCl hpy _
  have hnotedLen : p < (y.modCl p fun c => { c with verdicts := c.verdicts ++ [v] }).clusters.length :=
    (State.clusters_length_modCl y p _).symm ▸ hpy
  have hnotedOff : (y.modCl p fun c => { c with verdicts := c.verdicts ++ [v] }).offSweep = y.offSweep := rfl
  generalize (y.modCl p fun c => { c with verdicts := c.verdicts ++ [v] }) = w at hnoted hnotedLen hnotedOff ⊢
  obtain ⟨l, hl, -⟩ := w.opDigest_digests 8 x.tagLayer x.tagOperator ((s.binding x).wid % 256) g
    (r.1.flatMap fun n => n.flatMap fun t => t.flatMap (leS 4))
  rw [hl]
  have hdigCl : ({ w with det := { w.det with opDigests := l } } : State).cl p = w.cl p := rfl
  have hdigLen : p < ({ w with det := { w.det with opDigests := l } } : State).clusters.length := hnotedLen
  have hdigOff : ({ w with det := { w.det with opDigests := l } } : State).offSweep = w.offSweep := rfl
  generalize ({ w with det := { w.det with opDigests := l } } : State) = u at hdigCl hdigLen hdigOff ⊢
  unfold State.modCand
  rw [State.cl_modCl hdigLen, hdigCl, hnoted]
  refine ⟨?_, congrArg (· ++ [v]) hverdicts, hdigOff.trans (hnotedOff.trans hoff)⟩
  exact mem_modFirst (fun c => { c with probe := some (r.1, e) }) ((congrArg (List.find? _) hcands).trans hc)

theorem probe_runs (hp : p < 64) (hid : id < 512) (hx : s.stream? id = some x) (hwork : s.working = true)
    (hsweep : (s.at t).sweeps p = true) (hc : (s.cl p).cand? id g Cand.wantsProbe = some c)
    (hlatch : s.latch .timeScale id g = some e) (hfree : (s.cl p).flying 4 id g = false) :
    exec (.probe p id g t) s = .next { (s.at t).sweep p ⟨4, id, g, e⟩ ((s.at t).probeRun x c e).2.needs
      (State.probeDone p id g e) with pending := s.pending } := by
  have hguard : (below p 64 && streamOk id) = true := by simp [below, streamOk, hp, hid]
  have hrow := (exec_probe p id g t s).trans (ranAt_pos hguard ..)
  have heq : State.probeOp p id g (s.at t) = (s.at t).sweep p ⟨4, id, g, e⟩ ((s.at t).probeRun x c e).2.needs
      (State.probeDone p id g e) := by
    have hx' : (s.at t).stream? id = some x := hx
    have hc' : ((s.at t).cl p).cand? id g Cand.wantsProbe = some c := hc
    have hlatch' : (s.at t).latch .timeScale id g = some e := hlatch
    have hwork' : (s.at t).working = true := hwork
    have hfree' : ((s.at t).cl p).flying 4 id g = false := hfree
    unfold State.probeOp
    rw [hx', hc', hlatch']
    exact State.when_pos (by rw [hwork', hsweep, hfree']; rfl) _ _
  rw [heq] at hrow
  exact hrow

theorem probe_judges (hp : p < 64) (hid : id < 512) (hlen : s.clusters.length = 64) (hx : s.stream? id = some x)
    (hwork : s.working = true) (hsweep : (s.at t).sweeps p = true) (hc : (s.cl p).cand? id g Cand.wantsProbe = some c)
    (hlatch : s.latch .timeScale id g = some e) (hfree : (s.cl p).flying 4 id g = false)
    (hready : ∀ n ∈ ((s.at t).probeRun x c e).2.needs, (s.cl p).ready n = true) :
    ∃ s' c' r v, exec (.probe p id g t) s = .next s' ∧ c' ∈ (s'.cl p).cands ∧ c'.stream = id ∧ c'.g = g ∧ c'.cp = c.cp ∧
      c'.probe = some (r, e) ∧ r.length = 33 ∧ (s'.cl p).verdicts = (s.cl p).verdicts ++ [v] ∧ v.kind = 4 ∧ v.g = g ∧
      s'.streams = s.streams ∧ s'.hbm = s.hbm ∧ s'.safety = s.safety ∧ s'.frame = s.frame := by
  have hrow := probe_runs hp hid hx hwork hsweep hc hlatch hfree
  rw [State.sweep_ends (s := s.at t) hready] at hrow
  obtain ⟨hoffq, -, hlenZ⟩ := State.begun_parts (s := s.at t) (p := p) (by rw [State.at_clusters]; omega) ⟨4, id, g, e⟩
    ((s.at t).probeRun x c e).2.needs
  generalize hz : (s.at t).modCl p (Cluster.begun (s.at t).time.now ⟨4, id, g, e⟩ ((s.at t).probeRun x c e).2.needs) = z at *
  have hcands : (z.cl p).cands = (s.cl p).cands := (congrArg Cluster.cands hoffq :)
  have hverdicts : (z.cl p).verdicts = (s.cl p).verdicts := (congrArg Cluster.verdicts hoffq :)
  have hkeep : z.offSweep = s.offSweep := by rw [← hz]; rfl
  have hzs : z.streams = s.streams := by rw [← hz]; rfl
  have hzx : z.stream? id = some x := (congrArg (List.find? fun y : Stream => y.id == id) hzs).trans hx
  obtain ⟨hmem, hlist, hoff⟩ := State.probeDone_parts (e := e) hlenZ hzx ((Cluster.cand?_congr hcands ..).trans hc)
  have hlength := State.probeRun_length (s := z) (e := e) (x := x) (c := c)
  have hparts := hoff.trans hkeep
  generalize z.probeRun x c e = r at hmem hlist hlength
  generalize z.probeDone p id g e = u at hrow hmem hlist hparts
  simp only [State.offSweep, Prod.mk.injEq] at hparts
  obtain ⟨hstreams, hhbm, hsafety, hframe, -⟩ := hparts
  obtain ⟨hcs, hcg, -, -⟩ := Cluster.cand?_some hc
  rw [hverdicts] at hlist
  exact ⟨_, _, r.1, r.2.record (z.binding x).wid g 4 e, hrow, hmem, hcs, hcg, rfl, rfl, hlength, hlist, rfl, rfl, hstreams, hhbm,
    hsafety, hframe⟩

end

end Sys2Proof.Machine
end

section
/-!
SUPPORT. REPAIR, STOP and REVERIFY of a stream, and the obligation on verdicts (R184-R186, R236, R239, R240).
-/
namespace Sys2Proof.Machine

/-! ## The streams behind an operation -/

/-- What the operations of a stream are asked about. -/
def State.streamView (s : State) := (s.streams, s.hbm, s.safety, s.frame)

theorem State.streamView_of_offSweep {s s' : State} (h : s'.offSweep = s.offSweep) : s'.streamView = s.streamView := by
  simp only [State.offSweep, Prod.mk.injEq] at h
  obtain ⟨hstreams, hhbm, hsafety, hframe, -⟩ := h
  unfold State.streamView
  rw [hstreams, hhbm, hsafety, hframe]

theorem State.stream?_modStream {f : Stream → Stream} (hf : ∀ y, (f y).id = y.id) (id : Nat) (s : State) :
    (s.modStream id f).stream? id = (s.stream? id).map f := by
  change (s.streams.map fun x => if x.id = id then f x else x).find? (·.id == id) = (s.streams.find? (·.id == id)).map f
  generalize s.streams = l
  induction l with
  | nil => rfl
  | cons y l ih =>
    rw [List.map_cons, List.find?_cons, List.find?_cons]
    by_cases h : y.id = id
    · simp [h, hf]
    · have hb : (y.id == id) = false := by simpa using h
      simp [h, hb, ih]

/-- A stream that an operation changed, in a state that it left otherwise as it was. -/
theorem State.modStream_view {s y w : State} {id : Nat} {f : Stream → Stream} {x : Stream} (hf : ∀ y, (f y).id = y.id)
    (hx : s.stream? id = some x) (hy : y.streamView = s.streamView) (hw : w.streamView = (y.modStream id f).streamView) :
    w.stream? id = some (f x) ∧ w.hbm = s.hbm ∧ w.safety = s.safety ∧ w.frame = s.frame := by
  simp only [State.streamView, Prod.mk.injEq] at hy hw
  obtain ⟨hys, hyh, hysafe, hyf⟩ := hy
  obtain ⟨hws, hwh, hwsafe, hwf⟩ := hw
  have hyx : y.stream? id = some x := (congrArg (List.find? fun y : Stream => y.id == id) hys).trans hx
  refine ⟨?_, hwh.trans hyh, hwsafe.trans hysafe, hwf.trans hyf⟩
  have hfound := State.stream?_modStream hf id y
  rw [hyx] at hfound
  exact (congrArg (List.find? fun y : Stream => y.id == id) hws).trans hfound

theorem State.placeCarried_streamView (id : Nat) (s : State) : (s.placeCarried id).streamView = s.streamView := by
  unfold State.placeCarried
  split
  · rfl
  · split
    · split <;> rfl
    · rfl

theorem State.withdraw_streamView (op : TaskOp) (k : Nat) (s : State) : (s.withdraw op k).streamView = s.streamView := rfl

theorem State.issuePinned_streamView (x : Stream) (op : TaskOp) (s : State) : (s.issuePinned x op).streamView = s.streamView := by
  unfold State.streamView
  simp

section
variable {s : State} {id p e t : Nat} {x : Stream}

/-- A begun operation leaves everything but its cluster. -/
theorem State.begun_streamView (p : Nat) (f : Sweeping) (needs : List Need) (s : State) :
    (s.modCl p (Cluster.begun s.time.now f needs)).streamView = s.streamView := rfl

theorem State.stream?_of_view {s s' : State} (h : s'.streamView = s.streamView) (id : Nat) : s'.stream? id = s.stream? id := by
  simp only [State.streamView, Prod.mk.injEq] at h
  exact congrArg (List.find? fun y : Stream => y.id == id) h.1

/-! ## REPAIR (R184, R236, R239) -/

theorem State.repairDone_parts {plan : Plan} {run : Nat × Nat} {rest : List (Nat × Nat)} (hx : s.stream? id = some x)
    (hplan : x.carried = some plan) (hruns : x.repairRuns = run :: rest) (p e : Nat) :
    ∃ y, (s.repairDone p id e).stream? id = some y ∧
      ((s.repairRun x plan run e).verdict = 0 → y = { x with repairRuns := rest }) ∧
      ((s.repairRun x plan run e).verdict ≠ 0 → y.repairRuns = [] ∧
        y.repairVerdict = some ((s.repairRun x plan run e).record (s.binding x).wid plan.g 2 e) ∧
        y.repairFrozen = y.repairWindow.isNone) ∧
      (s.repairDone p id e).hbm = s.hbm ∧ (s.repairDone p id e).safety = s.safety ∧ (s.repairDone p id e).frame = s.frame := by
  have hview := State.streamView_of_offSweep (State.verdictDone_offSweep p 2 4 x plan.g (s.repairRun x plan run e)
    ((s.repairRun x plan run e).record (s.binding x).wid plan.g 2 e) s)
  have heq : s.repairDone p id e =
      if (s.repairRun x plan run e).verdict = 0 then
        ((s.verdictDone p 2 4 x plan.g (s.repairRun x plan run e) ((s.repairRun x plan run e).record (s.binding x).wid plan.g 2
          e)).modStream id fun y => { y with repairRuns := rest }).placeCarried id
      else ((s.verdictDone p 2 4 x plan.g (s.repairRun x plan run e) ((s.repairRun x plan run e).record (s.binding x).wid plan.g 2
        e)).modStream id fun y => y.repairHit (s.binding x) plan ((s.repairRun x plan run e).record (s.binding x).wid plan.g 2
          e)).withdraw .carriedRecheck (s.binding x).wid := by
    unfold State.repairDone
    rw [hx]
    dsimp only
    rw [hplan, hruns]
  rw [heq]
  generalize s.repairRun x plan run e = r at hview ⊢
  generalize r.record (s.binding x).wid plan.g 2 e = v at hview ⊢
  generalize s.verdictDone p 2 4 x plan.g r v = y at hview ⊢
  by_cases hv : r.verdict = 0
  · rw [if_pos hv]
    obtain ⟨hstream, hrest⟩ := State.modStream_view (f := fun y => { y with repairRuns := rest }) (by intro; rfl) hx hview
      (State.placeCarried_streamView id _)
    exact ⟨_, hstream, fun _ => rfl, fun hno => absurd hv hno, hrest⟩
  · rw [if_neg hv]
    obtain ⟨hstream, hrest⟩ := State.modStream_view (f := fun y => y.repairHit (s.binding x) plan v) (by intro; rfl) hx hview
      (State.withdraw_streamView .carriedRecheck (s.binding x).wid _)
    exact ⟨_, hstream, fun hyes => absurd hyes hv, fun _ => ⟨rfl, rfl, rfl⟩, hrest⟩

theorem repair_runs {plan : Plan} {run : Nat × Nat} {rest : List (Nat × Nat)} (hid : id < 512) (hx : s.stream? id = some x)
    (hblock : x.block0 = some p) (hplan : x.carried = some plan) (hruns : x.repairRuns = run :: rest) (hwork : s.working = true)
    (hworks : s.works x = true) (hsweep : (s.at t).sweeps p = true) (hlatch : s.latch .repair id x.repairRuns.length = some e)
    (hfree : (s.cl p).flying 2 id plan.g = false) (htask : (s.cl p).runs .repair (s.wireId id) = true) :
    exec (.repair id t) s = .next { (s.at t).sweep p ⟨2, id, plan.g, e⟩ ((s.at t).repairRun x plan run e).needs
      (State.repairDone p id e) with pending := s.pending } := by
  have hguard : streamOk id = true := by simp [streamOk, below, hid]
  have hrow := (exec_repair id t s).trans (ranAt_pos hguard ..)
  have heq : State.repairOp id (s.at t) = (s.at t).sweep p ⟨2, id, plan.g, e⟩ ((s.at t).repairRun x plan run e).needs
      (State.repairDone p id e) := by
    have hx' : (s.at t).stream? id = some x := hx
    have hlatch' : (s.at t).latch .repair id (run :: rest).length = some e := hruns ▸ hlatch
    have hwork' : (s.at t).working = true := hwork
    have hworks' : (s.at t).works x = true := hworks
    have hfree' : ((s.at t).cl p).flying 2 id plan.g = false := hfree
    have htask' : ((s.at t).cl p).runs .repair ((s.at t).wireId id) = true := htask
    unfold State.repairOp
    rw [hx']
    dsimp only
    rw [hblock, hplan, hruns, hlatch']
    exact State.when_pos (by rw [hwork', hworks', hsweep, htask', hfree']; rfl) _ _
  rw [heq] at hrow
  exact hrow

theorem repair_judges {plan : Plan} {run : Nat × Nat} {rest : List (Nat × Nat)} (hid : id < 512) (hx : s.stream? id = some x)
    (hblock : x.block0 = some p) (hplan : x.carried = some plan) (hruns : x.repairRuns = run :: rest) (hwork : s.working = true)
    (hworks : s.works x = true) (hsweep : (s.at t).sweeps p = true) (hlatch : s.latch .repair id x.repairRuns.length = some e)
    (hfree : (s.cl p).flying 2 id plan.g = false) (htask : (s.cl p).runs .repair (s.wireId id) = true)
    (hready : ∀ n ∈ ((s.at t).repairRun x plan run e).needs, (s.cl p).ready n = true) :
    ∃ s' y v, exec (.repair id t) s = .next s' ∧ s'.stream? id = some y ∧ v.kind = 2 ∧ v.g = plan.g ∧ v.epoch = e ∧
      (v.verdict = 0 → y = { x with repairRuns := rest }) ∧
      (v.verdict ≠ 0 → y.repairRuns = [] ∧ y.repairVerdict = some v ∧ y.repairFrozen = y.repairWindow.isNone) ∧
      s'.hbm = s.hbm ∧ s'.safety = s.safety ∧ s'.frame = s.frame := by
  have hrow := repair_runs hid hx hblock hplan hruns hwork hworks hsweep hlatch hfree htask
  rw [State.sweep_ends (s := s.at t) hready] at hrow
  generalize hz : (s.at t).modCl p (Cluster.begun (s.at t).time.now ⟨2, id, plan.g, e⟩
    ((s.at t).repairRun x plan run e).needs) = z at *
  have hkeep : z.streamView = s.streamView := by rw [← hz]; rfl
  obtain ⟨y, hy, hclear, hhit, hhbm, hsafety, hframe⟩ :=
    State.repairDone_parts ((State.stream?_of_view hkeep id).trans hx) hplan hruns p e
  generalize z.repairRun x plan run e = r at hclear hhit
  generalize z.repairDone p id e = u at hrow hy hhbm hsafety hframe
  simp only [State.streamView, Prod.mk.injEq] at hkeep
  obtain ⟨-, hzh, hzsafe, hzf⟩ := hkeep
  exact ⟨_, y, r.record (z.binding x).wid plan.g 2 e, hrow, hy, rfl, rfl, rfl, hclear, hhit, hhbm.trans hzh, hsafety.trans hzsafe,
    hframe.trans hzf⟩

/-! ## STOP (R185, R186, R240) -/

/-- A stream whose STOP ended with its verdict. -/
def Stream.stopped (r : Progress) (epoch : Nat) (y : Stream) : Stream :=
  { y with
    stopPending := false,
    stop := { y.stop with status := if r.verdict = 0 then 0 else 1, verdict := r.verdict, epoch := epoch } }

theorem State.stopDone_parts (hx : s.stream? id = some x) (p e : Nat) :
    (s.stopDone p id e).stream? id = some (match s.touchedSince (s.binding x) ((s.binding x).stopSpline x) x.stopTime.1
        x.stopTime.2 e with
      | some n => (x.stopped (s.stopRun x e) e).touchStop false n
      | none => x.stopped (s.stopRun x e) e) ∧
      (s.stopDone p id e).hbm = s.hbm ∧ (s.stopDone p id e).safety = s.safety ∧ (s.stopDone p id e).frame = s.frame := by
  have hview := State.streamView_of_offSweep (State.verdictDone_offSweep p 3 4 x 0 (s.stopRun x e)
    ((s.stopRun x e).record (s.binding x).wid 0 3 e) s)
  unfold State.stopDone
  rw [hx]
  dsimp only
  generalize s.stopRun x e = r at hview ⊢
  generalize s.verdictDone p 3 4 x 0 r (r.record (s.binding x).wid 0 3 e) = y at hview ⊢
  cases s.touchedSince (s.binding x) ((s.binding x).stopSpline x) x.stopTime.1 x.stopTime.2 e with
  | some n =>
    exact State.modStream_view (f := fun y => (y.stopped r e).touchStop false n) (by intro; rfl) hx hview
      (State.issuePinned_streamView x .stop _)
  | none => exact State.modStream_view (f := Stream.stopped r e) (by intro; rfl) hx hview rfl

theorem stop_runs (hid : id < 512) (hx : s.stream? id = some x) (hblock : x.block0 = some p) (hpending : x.stopPending = true)
    (hworks : s.works x = true) (htask : (s.cl p).runs .stop (s.wireId id) = true) (hsweep : (s.at t).sweeps p = true)
    (hgrid : s.gridRuns = true) (hopen : s.frame.reverifyClosed = false)
    (hphase : s.frame.phase = .afterCutoff ∨ s.frame.phase = .afterHarvest) (hlatch : s.latch .stop id 0 = some e)
    (hfree : (s.cl p).flying 3 id 0 = false) :
    exec (.stop id t) s = .next { (s.at t).sweep p ⟨3, id, 0, max e x.stopEpoch⟩
      ((s.at t).stopRun x (max e x.stopEpoch)).needs (State.stopDone p id (max e x.stopEpoch)) with pending := s.pending } := by
  have hguard : streamOk id = true := by simp [streamOk, below, hid]
  have hrow := (exec_stop id t s).trans (ranAt_pos hguard ..)
  have heq : State.stopOp id (s.at t) = (s.at t).sweep p ⟨3, id, 0, max e x.stopEpoch⟩
      ((s.at t).stopRun x (max e x.stopEpoch)).needs (State.stopDone p id (max e x.stopEpoch)) := by
    have hx' : (s.at t).stream? id = some x := hx
    have hlatch' : (s.at t).latch .stop id 0 = some e := hlatch
    have hworks' : (s.at t).works x = true := hworks
    have hgrid' : (s.at t).gridRuns = true := hgrid
    have hopen' : (s.at t).frame.reverifyClosed = false := hopen
    have hfree' : ((s.at t).cl p).flying 3 id 0 = false := hfree
    have htask' : ((s.at t).cl p).runs .stop ((s.at t).wireId id) = true := htask
    have hphase' : ((s.at t).frame.phase == .afterCutoff || (s.at t).frame.phase == .afterHarvest) = true := by
      obtain h | h := hphase
      · rw [show (s.at t).frame.phase = .afterCutoff from h]
        rfl
      · rw [show (s.at t).frame.phase = .afterHarvest from h]
        rfl
    unfold State.stopOp
    rw [hx']
    dsimp only
    rw [hblock, hlatch']
    exact State.when_pos (by rw [hpending, hworks', hsweep, htask', hgrid', hopen', hphase', hfree']; rfl) _ _
  rw [heq] at hrow
  exact hrow

theorem stop_judges (hid : id < 512) (hx : s.stream? id = some x) (hblock : x.block0 = some p) (hpending : x.stopPending = true)
    (hworks : s.works x = true) (htask : (s.cl p).runs .stop (s.wireId id) = true) (hsweep : (s.at t).sweeps p = true)
    (hgrid : s.gridRuns = true) (hopen : s.frame.reverifyClosed = false)
    (hphase : s.frame.phase = .afterCutoff ∨ s.frame.phase = .afterHarvest) (hlatch : s.latch .stop id 0 = some e)
    (hfree : (s.cl p).flying 3 id 0 = false)
    (hready : ∀ n ∈ ((s.at t).stopRun x (max e x.stopEpoch)).needs, (s.cl p).ready n = true) :
    ∃ s' y, exec (.stop id t) s = .next s' ∧ s'.stream? id = some y ∧ y.stop.epoch = max e x.stopEpoch ∧
      (s.touchedSince (s.binding x) ((s.binding x).stopSpline x) x.stopTime.1 x.stopTime.2 (max e x.stopEpoch) = none →
        y.stopPending = false ∧ y.stop.status = (if y.stop.verdict = 0 then 0 else 1)) ∧
      (∀ n, s.touchedSince (s.binding x) ((s.binding x).stopSpline x) x.stopTime.1 x.stopTime.2 (max e x.stopEpoch) =
        some n → y.stopPending = true ∧ y.stop.status = 4 ∧ y.stopEpoch = n) ∧
      s'.hbm = s.hbm ∧ s'.safety = s.safety ∧ s'.frame = s.frame := by
  have hrow := stop_runs hid hx hblock hpending hworks htask hsweep hgrid hopen hphase hlatch hfree
  rw [State.sweep_ends (s := s.at t) hready] at hrow
  generalize max e x.stopEpoch = m at *
  generalize hz : (s.at t).modCl p (Cluster.begun (s.at t).time.now ⟨3, id, 0, m⟩ ((s.at t).stopRun x m).needs) = z at *
  have hkeep : z.streamView = s.streamView := by rw [← hz]; rfl
  have htouched : z.touchedSince (z.binding x) ((z.binding x).stopSpline x) x.stopTime.1 x.stopTime.2 m =
      s.touchedSince (s.binding x) ((s.binding x).stopSpline x) x.stopTime.1 x.stopTime.2 m := by
    rw [← hz]
    rfl
  obtain ⟨hy, hhbm, hsafety, hframe⟩ := State.stopDone_parts ((State.stream?_of_view hkeep id).trans hx) p m
  rw [htouched] at hy
  generalize z.stopRun x m = r at hy
  generalize z.stopDone p id m = u at hrow hy hhbm hsafety hframe
  simp only [State.streamView, Prod.mk.injEq] at hkeep
  obtain ⟨-, hzh, hzsafe, hzf⟩ := hkeep
  refine ⟨_, _, hrow, hy, ?_, ?_, ?_, hhbm.trans hzh, hsafety.trans hzsafe, hframe.trans hzf⟩
  · split <;> rfl
  · intro hnone
    rw [hnone]
    exact ⟨rfl, rfl⟩
  · intro n hsome
    rw [hsome]
    exact ⟨rfl, rfl, rfl⟩

theorem stop_nothing (hid : id < 512) (hx : s.stream? id = some x) (hno : x.stopPending = false ∨ s.frame.reverifyClosed = true) :
    ∃ s', exec (.stop id t) s = .next s' ∧ { s' with time := s.time } = s := by
  have hguard : streamOk id = true := by simp [streamOk, below, hid]
  have hrow := (exec_stop id t s).trans (ranAt_pos hguard ..)
  have heq : State.stopOp id (s.at t) = s.at t := by
    have hx' : (s.at t).stream? id = some x := hx
    unfold State.stopOp
    rw [hx']
    dsimp only
    split
    · refine State.when_neg ?_ _ _
      obtain h | h := hno
      · rw [h]
        simp
      · rw [show (s.at t).frame.reverifyClosed = true from h]
        simp
    · rfl
  rw [heq] at hrow
  exact ⟨_, hrow, rfl⟩

/-! ## REVERIFY (R227, R411) -/

theorem Stream.attempt?_some {i epoch : Nat} {en : Entry} (hattempt : x.attempting = some (i, epoch))
    (hentry : (x.device.getD [])[i]? = some en) : x.attempt? = some (en, epoch) := by
  unfold Stream.attempt?
  rw [hattempt]
  dsimp only [Option.bind_some]
  rw [hentry]
  rfl

theorem reverify_runs {i epoch : Nat} {en : Entry} (hid : id < 512) (hx : s.stream? id = some x)
    (hattempt : x.attempting = some (i, epoch)) (hcluster : s.reverifyCluster id = some p)
    (hentry : (x.device.getD [])[i]? = some en) (hgrid : s.gridRuns = true) (hphase : s.frame.phase = .afterHarvest)
    (hno : x.attemptVerdict = none) (hsweep : (s.at t).sweeps p = true) (hfree : (s.cl p).flying 5 id en.g = false) :
    exec (.reverify id t) s = .next { (s.at t).sweep p ⟨5, id, en.g, epoch⟩ ((s.at t).reverifyRun x en epoch).needs
      (State.reverifyDone p id) with pending := s.pending } := by
  have hguard : streamOk id = true := by simp [streamOk, below, hid]
  have hrow := (exec_reverify id t s).trans (ranAt_pos hguard ..)
  have heq : State.reverifyOp id (s.at t) = (s.at t).sweep p ⟨5, id, en.g, epoch⟩ ((s.at t).reverifyRun x en epoch).needs
      (State.reverifyDone p id) := by
    have hx' : (s.at t).stream? id = some x := hx
    have hgrid' : (s.at t).gridRuns = true := hgrid
    have hphase' : ((s.at t).frame.phase == .afterHarvest) = true := by
      rw [show (s.at t).frame.phase = .afterHarvest from hphase]
      rfl
    have hcluster' : (s.at t).reverifyCluster id = some p := hcluster
    have hfree' : ((s.at t).cl p).flying 5 id en.g = false := hfree
    unfold State.reverifyOp
    rw [hx']
    dsimp only
    rw [Stream.attempt?_some hattempt hentry, hcluster']
    exact State.when_pos (by rw [hgrid', hphase', hno, hsweep, hfree']; rfl) _ _
  rw [heq] at hrow
  exact hrow

theorem reverify_judges {i epoch : Nat} {en : Entry} (hid : id < 512) (hx : s.stream? id = some x)
    (hattempt : x.attempting = some (i, epoch)) (hcluster : s.reverifyCluster id = some p)
    (hentry : (x.device.getD [])[i]? = some en) (hgrid : s.gridRuns = true) (hphase : s.frame.phase = .afterHarvest)
    (hno : x.attemptVerdict = none) (hsweep : (s.at t).sweeps p = true) (hfree : (s.cl p).flying 5 id en.g = false)
    (hready : ∀ n ∈ ((s.at t).reverifyRun x en epoch).needs, (s.cl p).ready n = true) :
    ∃ s' y v, exec (.reverify id t) s = .next s' ∧ s'.stream? id = some y ∧ y = { x with attemptVerdict := some v } ∧
      v.kind = 5 ∧ v.g = en.g ∧ v.epoch = epoch ∧
      s'.hbm = s.hbm ∧ s'.safety = s.safety ∧ s'.frame = s.frame := by
  have hrow := reverify_runs hid hx hattempt hcluster hentry hgrid hphase hno hsweep hfree
  rw [State.sweep_ends (s := s.at t) hready] at hrow
  generalize hz : (s.at t).modCl p (Cluster.begun (s.at t).time.now ⟨5, id, en.g, epoch⟩
    ((s.at t).reverifyRun x en epoch).needs) = z at *
  have hkeep : z.streamView = s.streamView := by rw [← hz]; rfl
  have hzx : z.stream? id = some x := (State.stream?_of_view hkeep id).trans hx
  have hdone : z.reverifyDone p id = (z.verdictDone p 5 11 x en.g (z.reverifyRun x en epoch)
      ((z.reverifyRun x en epoch).record (z.binding x).wid en.g 5 epoch)).modStream id fun y => { y with
        attemptVerdict := some ((z.reverifyRun x en epoch).record (z.binding x).wid en.g 5 epoch) } := by
    unfold State.reverifyDone
    rw [hzx]
    dsimp only
    rw [Stream.attempt?_some hattempt hentry]
  rw [hdone] at hrow
  generalize z.reverifyRun x en epoch = r at hrow
  have hview := State.streamView_of_offSweep (State.verdictDone_offSweep p 5 11 x en.g r (r.record (z.binding x).wid en.g 5 epoch) z)
  generalize hv : r.record (z.binding x).wid en.g 5 epoch = v at hrow hview
  generalize z.verdictDone p 5 11 x en.g r v = u at hrow hview
  obtain ⟨hstream, hhbm, hsafety, hframe⟩ := State.modStream_view (f := fun y => { y with attemptVerdict := some v }) (by intro; rfl)
    hx (hview.trans hkeep) rfl
  exact ⟨_, _, v, hrow, hstream, rfl, by rw [← hv]; rfl, by rw [← hv]; rfl, by rw [← hv]; rfl, hhbm, hsafety, hframe⟩

end

/-! ## The obligation -/

/-- A row whose operation stays in flight. -/
theorem exec_stays {s : State} {i : Instr} {p t : Nat} {f : Sweeping} {needs : List Need} {done : State → State} (hp : p < 64)
    (hlen : s.clusters.length = 64) (hrow : exec i s = .next { (s.at t).sweep p f needs done with pending := s.pending })
    (h : ∃ n ∈ needs, (s.cl p).ready n = false) : ∃ s', exec i s = .next s' ∧ s.staysInFlight s' p f := by
  have hstays := State.sweep_stays (s := s.at t) (p := p) (f := f) (by rw [State.at_clusters]; omega) h done
  generalize (s.at t).sweep p f needs done = u at hrow hstays
  obtain ⟨hin, hcands, hparked, hothers, honly⟩ := hstays
  exact ⟨_, hrow, hin, hcands, hparked, hothers,
    (congrArg (fun y : State => { y with time := s.time, pending := s.pending }) honly :)⟩

/-- Settles O37, each clause from the rule of its operation's end, or from the rule of an operation that stays in flight. -/
theorem verdictsAndStreamOperations : Obligations.VerdictsAndStreamOperations := by
  unfold Obligations.VerdictsAndStreamOperations
  refine ⟨fun s id p g e x c t hp hid hlen hx hwork hsweep => ⟨fun hc hlatch hfree => ⟨?_, ?_⟩,
    fun hc hlatch hfree htask => ⟨?_, ?_⟩, fun hc hlatch hfree => ⟨?_, ?_⟩, fun hc => check_nothing hp hid hc⟩,
    fun s id p e x t hid hp hlen hx => ⟨?_, ?_, stop_nothing hid hx, ?_⟩⟩
  · exact check_judges hp hid hlen hx hwork hsweep hc hlatch hfree
  · exact exec_stays hp hlen (check_runs hp hid hx hwork hsweep hc hlatch hfree)
  · exact recheck_judges hp hid hlen hx hwork hsweep hc hlatch hfree htask
  · exact exec_stays hp hlen (recheck_runs hp hid hx hwork hsweep hc hlatch hfree htask)
  · exact probe_judges hp hid hlen hx hwork hsweep hc hlatch hfree
  · exact exec_stays hp hlen (probe_runs hp hid hx hwork hsweep hc hlatch hfree)
  · intro plan run rest hblock hplan hruns hwork hworks hsweep hlatch hfree htask
    exact ⟨repair_judges hid hx hblock hplan hruns hwork hworks hsweep hlatch hfree htask,
      exec_stays hp hlen (repair_runs hid hx hblock hplan hruns hwork hworks hsweep hlatch hfree htask)⟩
  · intro hblock hpending hworks htask hsweep hgrid hopen hphase hlatch hfree
    exact ⟨stop_judges hid hx hblock hpending hworks htask hsweep hgrid hopen hphase hlatch hfree,
      exec_stays hp hlen (stop_runs hid hx hblock hpending hworks htask hsweep hgrid hopen hphase hlatch hfree)⟩
  · intro i epoch en hattempt hcluster hentry hgrid hphase hno hsweep hfree
    exact ⟨reverify_judges hid hx hattempt hcluster hentry hgrid hphase hno hsweep hfree,
      exec_stays hp hlen (reverify_runs hid hx hattempt hcluster hentry hgrid hphase hno hsweep hfree)⟩

end Sys2Proof.Machine
end

section
/-!
SUPPORT. Factorisation and the turns of the solver (R196-R202, R212).
-/
namespace Sys2Proof.Machine

/-! ## The candidates that a change leaves alone -/

theorem mem_modFirst_of_mem {P : Cand → Bool} (f : Cand → Cand) {k : Cand} (hk : P k = false) : ∀ {l}, k ∈ l → k ∈ modFirst P f l
  | x :: l, h => by
    unfold modFirst
    obtain rfl | h := List.mem_cons.mp h
    · rw [hk, if_neg Bool.false_ne_true]
      exact List.mem_cons_self
    · split
      · exact List.mem_cons_of_mem _ h
      · exact List.mem_cons_of_mem _ (mem_modFirst_of_mem f hk h)

theorem find?_modFirst {P : Cand → Bool} {f : Cand → Cand} {c : Cand} (hf : P (f c) = true) :
    ∀ {l}, l.find? P = some c → (modFirst P f l).find? P = some (f c)
  | x :: l, h => by
    rw [List.find?_cons] at h
    unfold modFirst
    cases hx : P x with
    | true =>
      rw [hx] at h
      rw [if_pos rfl, Option.some.inj h, List.find?_cons, hf]
    | false =>
      rw [hx] at h
      rw [if_neg Bool.false_ne_true, List.find?_cons, hx]
      exact find?_modFirst hf h

/-- The test of a candidate by its stream, its generator index and its wants. -/
def Cand.isOf (id g : Nat) (P : Cand → Bool) (z : Cand) : Bool := z.stream == id && z.g == g && !z.dropped && P z

theorem Cand.isOf_other {id g : Nat} {k : Cand} (h : k.stream ≠ id ∨ k.g ≠ g) (P : Cand → Bool) : k.isOf id g P = false := by
  unfold Cand.isOf
  obtain h | h := h
  · simp [beq_eq_false_iff_ne.mpr h]
  · simp [beq_eq_false_iff_ne.mpr h]

/-! ## The unit's marks -/

/-- A state apart from clusters and operator digests. -/
def State.offWork (s : State) : State := { s with clusters := [], det := {} }

theorem State.selEvent_offWork (inst event qual layer op k : Nat) (s : State) :
    (s.selEvent 0 inst event qual layer op k).offWork = s.offWork := by
  obtain ⟨l, hl⟩ := State.selEvent_clusters inst event qual layer op k s
  rw [hl]
  rfl

theorem State.raiseArith_offWork (p flags guards : Nat) (s : State) : (s.raiseArith p flags guards).offWork = s.offWork := by
  unfold State.raiseArith
  refine (State.foldl_keeps State.offWork _ (fun x i => ?_) _ _).trans rfl
  split
  · exact State.selEvent_offWork ..
  · rfl

theorem State.opDigest_offWork (a b c d e : Nat) (out : List Byte) (s : State) : (s.opDigest a b c d e out).offWork = s.offWork := by
  obtain ⟨l, hl, -⟩ := s.opDigest_digests a b c d e out
  rw [hl]
  rfl

theorem State.opDigest_stillCls (a b c d e : Nat) (out : List Byte) (s : State) :
    (s.opDigest a b c d e out).stillCls = s.stillCls := by
  obtain ⟨l, hl, -⟩ := s.opDigest_digests a b c d e out
  rw [hl]
  rfl

theorem State.modCl_offWork (p : Nat) (f : Cluster → Cluster) (s : State) : (s.modCl p f).offWork = s.offWork := rfl

/-- A row that leaves everything apart from clusters and digests. -/
theorem State.frame_of_offWork {s u : State} {t : Nat} (h : u.offWork = (s.at t).offWork) :
    { u with time := s.time, clusters := s.clusters, det := s.det, pending := s.pending } = s :=
  (congrArg (fun x : State => { x with time := s.time, clusters := s.clusters, det := s.det, pending := s.pending }) h :)

/-! ## Factorisation (R23, R196) -/

/-- A candidate with one block factored. -/
def Cand.factored (block : Nat) (f : Factor) (c : Cand) : Cand :=
  { c with
    solver := { c.solver with
      factors := c.solver.factors.set block (some (f.l, f.inv)), overflow := c.solver.overflow || f.sat },
    smooth := { c.smooth with flags := c.smooth.flags ||| f.flags } }

section
variable {s : State} {id p g block core t : Nat} {x : Stream} {c : Cand}

theorem factorisation_factors (hp : p < 64) (hid : id < 512) (hcore : core < 2) (hlen : s.clusters.length = 64)
    (hx : s.stream? id = some x) (hwork : s.working = true) (htakes : (s.at t).takesWork p = true)
    (hc : (s.cl p).cand? id g Cand.smoothing = some c) {d : Nat × Nat} {f : Factor}
    (hd : d = ((s.binding x).diagBlocks c).getD block (0, 0))
    (hf : f = factorise c.solver.h d.1 d.2 (s.binding x).set.pivotExp)
    (hblock : block < c.solver.factors.length) (hnone : c.solver.factors.getD block none = none) :
    ∃ s', exec (.factorisation ⟨p, core⟩ id g block t) s = .next s' ∧
      (s'.cl p).cand? id g Cand.smoothing = some (c.factored block f) ∧
      (s'.cl p).arithFlags = (s.cl p).arithFlags ||| (if f.sat then coreSat else 0) ∧
      (s'.cl p).cands.length = (s.cl p).cands.length ∧
      (∀ k ∈ (s.cl p).cands, k.stream ≠ id ∨ k.g ≠ g → k ∈ (s'.cl p).cands) ∧
      { s' with time := s.time, clusters := s.clusters, det := s.det } = s := by
  have hguard : (below p 64 && streamOk id && below core 2) = true := by simp [below, streamOk, hp, hid, hcore]
  have hrow := (exec_factorisation ⟨p, core⟩ id g block t s).trans (ranAt_pos hguard ..)
  have hdue : ((s.at t).working && (s.at t).takesWork p && (c.solver.factors.getD block (some ([], []))).isNone) = true := by
    rw [List.getD_eq_getElem _ _ hblock] at hnone ⊢
    rw [show (s.at t).working = true from hwork, htakes, hnone]
    rfl
  have hlenZ : p < (s.at t).clusters.length := by
    rw [State.at_clusters]
    omega
  have hstill (n : Nat) (out : List Byte) : ((((s.at t).bumpCl p (4 + core) n).raiseArith p (if f.sat then coreSat else 0)).opDigest
      8 x.tagLayer x.tagOperator ((s.binding x).wid % 256) g out).stillCls =
      ((s.at t).modCl p (Cluster.raise (if f.sat then coreSat else 0))).stillCls := by
    rw [State.opDigest_stillCls, State.raiseArith_stillCls]
    exact State.modCl_stillCls_congr (by intro; rfl) (State.bumpCl_stillCls ..) p
  have hoff (n : Nat) (out : List Byte) : ((((s.at t).bumpCl p (4 + core) n).raiseArith p (if f.sat then coreSat else 0)).opDigest
      8 x.tagLayer x.tagOperator ((s.binding x).wid % 256) g out).offWork = (s.at t).offWork := by
    rw [State.opDigest_offWork, State.raiseArith_offWork]
    rfl
  have heq : State.factorisation p id g block core (s.at t) =
      ((((s.at t).bumpCl p (4 + core) (factorCycles d.2)).raiseArith p (if f.sat then coreSat else 0)).opDigest 8 x.tagLayer
        x.tagOperator ((s.binding x).wid % 256) g ((f.l.flatten ++ f.inv).flatMap (leS 4))).modCand p id g Cand.smoothing
          (Cand.factored block f) := by
    have hx' : (s.at t).stream? id = some x := hx
    have hc' : ((s.at t).cl p).cand? id g Cand.smoothing = some c := hc
    unfold State.factorisation
    rw [hx', hc']
    dsimp only
    rw [State.when_pos hdue, hf, hd]
    rfl
  rw [heq] at hrow
  have hstill := hstill (factorCycles d.2) ((f.l.flatten ++ f.inv).flatMap (leS 4))
  have hoff := hoff (factorCycles d.2) ((f.l.flatten ++ f.inv).flatMap (leS 4))
  generalize ((((s.at t).bumpCl p (4 + core) (factorCycles d.2)).raiseArith p (if f.sat then coreSat else 0)).opDigest 8 x.tagLayer
    x.tagOperator ((s.binding x).wid % 256) g ((f.l.flatten ++ f.inv).flatMap (leS 4))) = z at hrow hstill hoff
  have hcl := State.still_of_stillCls hstill p
  rw [State.cl_modCl hlenZ] at hcl
  have hcands : (z.cl p).cands = (s.cl p).cands := (congrArg Cluster.cands hcl :)
  have hflags : (z.cl p).arithFlags = (s.cl p).arithFlags ||| (if f.sat then coreSat else 0) := (congrArg Cluster.arithFlags hcl :)
  have hpz : p < z.clusters.length := by
    rw [State.clusters_length_of_still hstill, State.clusters_length_modCl]
    exact hlenZ
  have hmod := State.cl_modCand hpz id g Cand.smoothing (Cand.factored block f)
  have hoffU : (z.modCand p id g Cand.smoothing (Cand.factored block f)).offWork = (s.at t).offWork := hoff
  generalize z.modCand p id g Cand.smoothing (Cand.factored block f) = u at hrow hmod hoffU
  have hframe := State.frame_of_offWork hoffU
  have hlist : (u.cl p).cands = modFirst (Cand.isOf id g Cand.smoothing) (Cand.factored block f) (s.cl p).cands := by
    rw [hmod, ← hcands]
    rfl
  have hcf : (s.cl p).cands.find? (Cand.isOf id g Cand.smoothing) = some c := hc
  refine ⟨_, hrow, ?_, ?_, ?_, fun k hk hne => ?_, hframe⟩
  · change (u.cl p).cands.find? (Cand.isOf id g Cand.smoothing) = _
    rw [hlist]
    have hof := List.find?_some hcf
    exact find?_modFirst (f := Cand.factored block f) hof hcf
  · change (u.cl p).arithFlags = _
    rw [hmod]
    exact hflags
  · change (u.cl p).cands.length = _
    rw [hlist, modFirst_length]
  · change k ∈ (u.cl p).cands
    rw [hlist]
    exact mem_modFirst_of_mem _ (Cand.isOf_other hne _) hk

theorem factorisation_nothing (hp : p < 64) (hid : id < 512) (hcore : core < 2) (hx : s.stream? id = some x)
    (hc : (s.cl p).cand? id g Cand.smoothing = some c) (hdone : (c.solver.factors.getD block (some ([], []))).isSome = true) :
    ∃ s', exec (.factorisation ⟨p, core⟩ id g block t) s = .next s' ∧ { s' with time := s.time } = s := by
  have hguard : (below p 64 && streamOk id && below core 2) = true := by simp [below, streamOk, hp, hid, hcore]
  have hrow := (exec_factorisation ⟨p, core⟩ id g block t s).trans (ranAt_pos hguard ..)
  have heq : State.factorisation p id g block core (s.at t) = s.at t := by
    have hx' : (s.at t).stream? id = some x := hx
    have hc' : ((s.at t).cl p).cand? id g Cand.smoothing = some c := hc
    have hno : (c.solver.factors.getD block (some ([], []))).isNone = false := by
      rw [Option.isNone_eq_false_iff]
      exact hdone
    unfold State.factorisation
    rw [hx', hc']
    exact State.when_neg (by rw [hno, Bool.and_false]) _ _
  rw [heq] at hrow
  exact ⟨_, hrow, rfl⟩

end

/-! ## A turn of a candidate (R199-R201) -/

section
variable {b : Binding} {c : Cand}

/-- The solver of a candidate after its next iteration. -/
def Binding.iterated (b : Binding) (c : Cand) : Solver :=
  ((if c.solver.started then c.solver else (c.solver.start (b.diagBlocks c)).1).iterate (b.diagBlocks c)).1

/-- The candidate after its next iteration. -/
def Binding.advanced (b : Binding) (c : Cand) : Cand :=
  { c with solver := b.iterated c, smooth := { c.smooth with iters := c.smooth.iters + 1 } }

theorem Binding.turnOf_cand (b : Binding) (c : Cand) : (b.turnOf c).1 =
    if c.smooth.iters + 1 < b.set.smoothIters then b.advanced c else (b.finish (b.advanced c)).1 := by
  have hstart : (if c.solver.started then (c.solver, 0) else c.solver.start (b.diagBlocks c)).1 =
      if c.solver.started then c.solver else (c.solver.start (b.diagBlocks c)).1 := by
    split <;> rfl
  unfold Binding.turnOf Binding.advanced Binding.iterated
  dsimp only
  rw [hstart]
  split <;> rfl

theorem Binding.turnOf_keeps (b : Binding) (c : Cand) :
    (b.turnOf c).1.stream = c.stream ∧ (b.turnOf c).1.g = c.g ∧ (b.turnOf c).1.origin = c.origin := by
  rw [Binding.turnOf_cand]
  split <;> exact ⟨rfl, rfl, rfl⟩

theorem collect_fst (l : List Flagged) : (collect l).1 = l.map (·.1) := rfl

theorem Binding.turnOf_ends (h : b.set.smoothIters ≤ c.smooth.iters + 1) : (b.turnOf c).1.smoothed = true ∧
    (b.turnOf c).1.solver = {} ∧
    ((b.iterated c).overflow = true ∨ (b.iterated c).done = 2 → (b.turnOf c).1.cp = c.cp) ∧
    ((b.iterated c).overflow = false → (b.iterated c).done ≠ 2 →
      (b.turnOf c).1.cp = (b.trim { c with solver := b.iterated c }).map (·.map (·.1))) := by
  rw [Binding.turnOf_cand, if_neg (by omega)]
  refine ⟨rfl, rfl, fun hbad => ?_, fun hover hdone => ?_⟩
  · have hbad' : ((b.iterated c).overflow || (b.iterated c).done == 2) = true := by
      obtain h | h := hbad
      · rw [h, Bool.true_or]
      · rw [h]
        simp
    exact if_pos hbad'
  · have hgood : ¬((b.iterated c).overflow || (b.iterated c).done == 2) = true := by
      rw [hover, beq_eq_false_iff_ne.mpr hdone]
      decide
    refine (if_neg hgood).trans ?_
    rw [List.map_map]
    rfl

end

end Sys2Proof.Machine
end

section
/-!
SUPPORT. The solver's groups, time scaling, and the obligation on both (R199, R205-R209, R212).
-/
namespace Sys2Proof.Machine

/-! ## A group's turns on the list of candidates -/

/-- The list of candidates after the turns of a group. -/
def turnsOn (b : Binding) (id : Nat) (cs : List Cand) (l : List Cand) : List Cand :=
  cs.foldl (fun l c => modFirst (Cand.isOf id c.g Cand.smoothing) (fun _ => (b.turnOf c).1) l) l

theorem turnsOn_length (b : Binding) (id : Nat) (cs l : List Cand) : (turnsOn b id cs l).length = l.length := by
  induction cs generalizing l with
  | nil => rfl
  | cons c cs ih => exact (ih _).trans (modFirst_length ..)

theorem mem_turnsOn_of_mem {b : Binding} {id : Nat} {cs l : List Cand} {k : Cand} (hk : k ∈ l)
    (hne : k.stream ≠ id ∨ ∀ c ∈ cs, k.g ≠ c.g) : k ∈ turnsOn b id cs l := by
  induction cs generalizing l with
  | nil => exact hk
  | cons c cs ih =>
    refine ih (mem_modFirst_of_mem _ (Cand.isOf_other (hne.imp_right fun h => h c List.mem_cons_self) _) hk) ?_
    exact hne.imp_right fun h d hd => h d (List.mem_cons_of_mem c hd)

theorem modFirst_const_mem {P : Cand → Bool} {y z : Cand} {l : List Cand} (hz : z ∈ l) (hPz : P z = true) :
    y ∈ modFirst P (fun _ => y) l := by
  induction l with
  | nil => exact absurd hz List.not_mem_nil
  | cons x l ih =>
    unfold modFirst
    split
    · exact List.mem_cons_self
    · next hx =>
      obtain rfl | hz := List.mem_cons.mp hz
      · exact absurd hPz hx
      · exact List.mem_cons_of_mem x (ih hz)

/-- In a group of distinct candidates each one's turn stands in the list. -/
theorem turn_mem_turnsOn {b : Binding} {id : Nat} {cs l : List Cand} (hdistinct : (cs.map Cand.g).Nodup)
    (hthere : ∀ c ∈ cs, ∃ z ∈ l, z.isOf id c.g Cand.smoothing = true) : ∀ c ∈ cs, (b.turnOf c).1 ∈ turnsOn b id cs l := by
  induction cs generalizing l with
  | nil => exact fun c hc => absurd hc List.not_mem_nil
  | cons d cs ih =>
    rw [List.map_cons, List.nodup_cons] at hdistinct
    obtain ⟨hnew, hdistinct⟩ := hdistinct
    have hdiffer (c : Cand) (hc : c ∈ cs) : d.g ≠ c.g := fun h => hnew (List.mem_map.mpr ⟨c, hc, h.symm⟩)
    refine List.forall_mem_cons.mpr ⟨?_, ih hdistinct fun c hc => ?_⟩
    · obtain ⟨z, hz, hof⟩ := hthere d List.mem_cons_self
      have hmade : (b.turnOf d).1 ∈ modFirst (Cand.isOf id d.g Cand.smoothing) (fun _ => (b.turnOf d).1) l :=
        modFirst_const_mem hz hof
      refine mem_turnsOn_of_mem (cs := cs) hmade (.inr fun c hc => ?_)
      rw [(b.turnOf_keeps d).2.1]
      exact hdiffer c hc
    · obtain ⟨z, hz, hof⟩ := hthere c (List.mem_cons_of_mem d hc)
      have hzg : z.g = c.g := by
        unfold Cand.isOf at hof
        simp only [Bool.and_eq_true, beq_iff_eq] at hof
        exact hof.1.1.2
      exact ⟨z, mem_modFirst_of_mem _ (Cand.isOf_other (.inr fun h => hdiffer c hc (h.symm.trans hzg)) _) hz, hof⟩

/-- The candidates that a group's indices name. -/
theorem group_cands {F : Nat → Option Cand} (hF : ∀ g c, F g = some c → c.g = g) {gs : List Nat} {cs : List Cand}
    (h : gs.map F = cs.map some) : gs.filterMap F = cs ∧ cs.map Cand.g = gs := by
  induction gs generalizing cs with
  | nil =>
    obtain rfl := List.map_eq_nil_iff.mp h.symm
    exact ⟨rfl, rfl⟩
  | cons g gs ih =>
    cases cs with
    | nil => exact absurd h (by simp)
    | cons c cs =>
      rw [List.map_cons, List.map_cons, List.cons.injEq] at h
      obtain ⟨hg, h⟩ := h
      obtain ⟨hfilter, hmap⟩ := ih h
      rw [List.filterMap_cons, hg, List.map_cons, hmap, hF g c hg, hfilter]
      exact ⟨rfl, rfl⟩

/-! ## SOLVER_ITERATION (R199, R212) -/

/-- The turn of one candidate of a group. -/
def State.turnStep (p id : Nat) (x : Stream) (b : Binding) (s : State) (c : Cand) : State :=
  (((s.raiseArith p (b.turnOf c).2).modCand p id c.g Cand.smoothing fun _ => (b.turnOf c).1).opDigest 8 x.tagLayer x.tagOperator
    (b.wid % 256) c.g (if (b.turnOf c).1.smoothed then (b.turnOf c).1.cp.flatMap fun l => l.flatMap (leS 4)
      else (b.turnOf c).1.solver.x.flatMap (leS 2))).countSmooth p x (b.turnOf c).1

theorem State.countSmooth_stillCls (p : Nat) (x : Stream) (c : Cand) (s : State) : (s.countSmooth p x c).stillCls = s.stillCls := by
  unfold State.countSmooth
  split
  · refine State.foldl_keeps State.stillCls _ (fun y i => ?_) _ s
    split
    · exact State.selEvent_stillCls ..
    · rfl
  · rfl

theorem State.countSmooth_offWork (p : Nat) (x : Stream) (c : Cand) (s : State) : (s.countSmooth p x c).offWork = s.offWork := by
  unfold State.countSmooth
  split
  · refine State.foldl_keeps State.offWork _ (fun y i => ?_) _ s
    split
    · exact State.selEvent_offWork ..
    · rfl
  · rfl

section
variable {s : State} {id p t : Nat} {x : Stream}

theorem State.turnStep_parts (hp : p < s.clusters.length) (b : Binding) (c : Cand) :
    ((s.turnStep p id x b c).cl p).cands =
        modFirst (Cand.isOf id c.g Cand.smoothing) (fun _ => (b.turnOf c).1) (s.cl p).cands ∧
      ((s.turnStep p id x b c).cl p).arithFlags = (s.cl p).arithFlags ||| (b.turnOf c).2 ∧
      (s.turnStep p id x b c).clusters.length = s.clusters.length ∧ (s.turnStep p id x b c).offWork = s.offWork := by
  have hstill : (s.turnStep p id x b c).stillCls = ((s.raiseArith p (b.turnOf c).2).modCand p id c.g Cand.smoothing fun _ =>
      (b.turnOf c).1).stillCls := by
    unfold State.turnStep
    rw [State.countSmooth_stillCls, State.opDigest_stillCls]
  have hoff : (s.turnStep p id x b c).offWork = s.offWork := by
    unfold State.turnStep State.modCand
    rw [State.countSmooth_offWork, State.opDigest_offWork, State.modCl_offWork, State.raiseArith_offWork]
  generalize s.turnStep p id x b c = u at hstill hoff ⊢
  have hraise := State.still_of_stillCls (s.raiseArith_stillCls p (b.turnOf c).2 0) p
  have hlenR := State.clusters_length_of_still (s.raiseArith_stillCls p (b.turnOf c).2 0)
  rw [State.cl_modCl hp] at hraise
  rw [State.clusters_length_modCl] at hlenR
  generalize s.raiseArith p (b.turnOf c).2 = y at hstill hraise hlenR
  have hcl := State.still_of_stillCls hstill p
  rw [State.cl_modCand (hlenR ▸ hp)] at hcl
  refine ⟨?_, ?_, ?_, hoff⟩
  · exact (congrArg Cluster.cands hcl :).trans (congrArg (modFirst _ _) (congrArg Cluster.cands hraise :))
  · exact (congrArg Cluster.arithFlags hcl :).trans (congrArg Cluster.arithFlags hraise :)
  · rw [State.clusters_length_of_still hstill]
    exact (State.clusters_length_modCl ..).trans hlenR

theorem State.turns_parts (b : Binding) (cs : List Cand) : ∀ {s : State}, p < s.clusters.length →
    ((cs.foldl (State.turnStep p id x b) s).cl p).cands = turnsOn b id cs (s.cl p).cands ∧
      ((cs.foldl (State.turnStep p id x b) s).cl p).arithFlags =
        cs.foldl (fun a c => a ||| (b.turnOf c).2) (s.cl p).arithFlags ∧
      (cs.foldl (State.turnStep p id x b) s).offWork = s.offWork := by
  induction cs with
  | nil => exact fun _ => ⟨rfl, rfl, rfl⟩
  | cons c cs ih =>
    intro s hp
    obtain ⟨hcands, hflags, hlen, hoff⟩ := State.turnStep_parts (id := id) (x := x) hp b c
    obtain ⟨hcands', hflags', hoff'⟩ := ih (hlen.symm ▸ hp)
    rw [List.foldl_cons, hcands', hflags', hoff', hcands, hflags, hoff]
    exact ⟨rfl, rfl, rfl⟩

/-- When a group's iteration is done. -/
def State.groupDue (s : State) (p : Nat) (b : Binding) (gs : List Nat) (cs : List Cand) : Bool :=
  s.working && s.takesWork p && !gs.isEmpty && decide (gs.Nodup) && cs.length == gs.length &&
    (cs.all fun c => c.turn == (cs.map Cand.turn).headD 0 && c.solver.factors.all (·.isSome)) && decide (gs.length ≤ 8) &&
    decide (gs.length * b.iterCost + 40 ≤ 2800)

theorem State.solverIteration_group (hx : s.stream? id = some x) {gs : List Nat} {cs : List Cand}
    (hcs : gs.filterMap (fun g => (s.cl p).cand? id g Cand.smoothing) = cs) :
    ∃ n, s.solverIteration p id gs = s.when_ (s.groupDue p (s.binding x) gs cs) fun s' =>
      cs.foldl (State.turnStep p id x (s.binding x)) (s'.bumpCl p 2 n) := by
  refine ⟨gs.length * (s.binding x).iterCost + 40 + if (cs.map Cand.turn).headD 0 = 0 then
    gs.length * (2 * ((s.binding x).n - 3) + (s.binding x).vecCost + 16) else 0, ?_⟩
  unfold State.solverIteration
  rw [hx]
  dsimp only
  rw [hcs]
  rfl

theorem solverIteration_turns (hp : p < 64) (hid : id < 512) (hlen : s.clusters.length = 64) (hx : s.stream? id = some x)
    (hwork : s.working = true) (htakes : (s.at t).takesWork p = true) {turn : Nat} {gs : List Nat} {cs : List Cand}
    (hcs : gs.map (fun g => (s.cl p).cand? id g Cand.smoothing) = cs.map some) (hne : gs ≠ []) (hdistinct : gs.Nodup)
    (height : gs.length ≤ 8) (hcost : gs.length * (s.binding x).iterCost + 40 ≤ 2800)
    (hturn : ∀ c ∈ cs, c.turn = turn ∧ ∀ f ∈ c.solver.factors, f.isSome = true) :
    ∃ s', exec (.solverIteration p id gs t) s = .next s' ∧ (∀ c ∈ cs, ((s.binding x).turnOf c).1 ∈ (s'.cl p).cands) ∧
      (s'.cl p).arithFlags = cs.foldl (fun a c => a ||| ((s.binding x).turnOf c).2) (s.cl p).arithFlags ∧
      (s'.cl p).cands.length = (s.cl p).cands.length ∧
      (∀ k ∈ (s.cl p).cands, k.stream ≠ id ∨ k.g ∉ gs → k ∈ (s'.cl p).cands) ∧
      { s' with time := s.time, clusters := s.clusters, det := s.det } = s := by
  have hguard : (below p 64 && streamOk id) = true := by simp [below, streamOk, hp, hid]
  have hrow := (exec_solverIteration p id gs t s).trans (ranAt_pos hguard ..)
  obtain ⟨hfilter, hgs⟩ := group_cands (fun g c hc => (Cluster.cand?_some hc).2.1) hcs
  obtain ⟨n, heq⟩ := State.solverIteration_group (s := s.at t) (p := p) hx hfilter
  have hdue : (s.at t).groupDue p (s.binding x) gs cs = true := by
    have hhead : (cs.map Cand.turn).headD 0 = turn := by
      cases cs with
      | nil => exact absurd hgs.symm hne
      | cons c cs => exact (hturn c List.mem_cons_self).1
    have hall : (cs.all fun c => c.turn == (cs.map Cand.turn).headD 0 && c.solver.factors.all (·.isSome)) = true := by
      refine List.all_eq_true.mpr fun c hc => ?_
      obtain ⟨h1, h2⟩ := hturn c hc
      rw [hhead, h1, List.all_eq_true.mpr h2, beq_self_eq_true]
      rfl
    have hlength : cs.length = gs.length := by rw [← hgs, List.length_map]
    unfold State.groupDue
    rw [show (s.at t).working = true from hwork, htakes, hall, hlength]
    simp [hne, hdistinct, height, hcost]
  have hbind : (s.at t).binding x = s.binding x := rfl
  rw [hbind] at heq
  rw [heq, State.when_pos hdue] at hrow
  have hlenZ : p < (s.at t).clusters.length := by
    rw [State.at_clusters]
    omega
  have hlenB : p < ((s.at t).bumpCl p 2 n).clusters.length :=
    (State.clusters_length_of_still (State.bumpCl_stillCls ..)).symm ▸ hlenZ
  have hclB := State.still_of_stillCls (State.bumpCl_stillCls p 2 n (s.at t)) p
  obtain ⟨hcands, hflags, hoff⟩ := State.turns_parts (id := id) (x := x) (s.binding x) cs hlenB
  have hoffU : (cs.foldl (State.turnStep p id x (s.binding x)) ((s.at t).bumpCl p 2 n)).offWork = (s.at t).offWork := hoff
  generalize cs.foldl (State.turnStep p id x (s.binding x)) ((s.at t).bumpCl p 2 n) = u at hrow hcands hflags hoffU
  have hlist : (u.cl p).cands = turnsOn (s.binding x) id cs (s.cl p).cands := by
    rw [hcands]
    exact congrArg (turnsOn _ _ _) (congrArg Cluster.cands hclB :)
  have hflag : (u.cl p).arithFlags = cs.foldl (fun a c => a ||| ((s.binding x).turnOf c).2) (s.cl p).arithFlags := by
    rw [hflags]
    exact congrArg (fun a => cs.foldl (fun a c => a ||| ((s.binding x).turnOf c).2) a) (congrArg Cluster.arithFlags hclB :)
  have hframe := State.frame_of_offWork hoffU
  refine ⟨_, hrow, fun c hc => ?_, hflag, ?_, fun k hk hno => ?_, hframe⟩
  · change _ ∈ (u.cl p).cands
    rw [hlist]
    refine turn_mem_turnsOn (hgs.symm ▸ hdistinct) (fun d hd => ?_) c hc
    obtain ⟨g, -, hg⟩ := List.mem_map.mp (hcs.symm ▸ List.mem_map.mpr ⟨d, hd, rfl⟩)
    have hdg := (Cluster.cand?_some hg).2.1
    exact ⟨d, List.mem_of_find?_eq_some hg, by rw [hdg]; exact List.find?_some hg⟩
  · change (u.cl p).cands.length = _
    rw [hlist, turnsOn_length]
  · change k ∈ (u.cl p).cands
    rw [hlist]
    refine mem_turnsOn_of_mem hk (hno.imp_right fun h c hc heq => h ?_)
    rw [heq, ← hgs]
    exact List.mem_map.mpr ⟨c, hc, rfl⟩

theorem solverIteration_nothing (hp : p < 64) (hid : id < 512) (hx : s.stream? id = some x) {gs : List Nat} {cs : List Cand}
    (hcs : gs.map (fun g => (s.cl p).cand? id g Cand.smoothing) = cs.map some)
    (hno : gs = [] ∨ ¬gs.Nodup ∨ 8 < gs.length ∨ 2800 < gs.length * (s.binding x).iterCost + 40 ∨
      (∃ c ∈ cs, ∃ f ∈ c.solver.factors, f = none) ∨ (∃ c ∈ cs, ∃ k ∈ cs, c.turn ≠ k.turn)) :
    ∃ s', exec (.solverIteration p id gs t) s = .next s' ∧ { s' with time := s.time } = s := by
  have hguard : (below p 64 && streamOk id) = true := by simp [below, streamOk, hp, hid]
  have hrow := (exec_solverIteration p id gs t s).trans (ranAt_pos hguard ..)
  obtain ⟨hfilter, -⟩ := group_cands (fun g c hc => (Cluster.cand?_some hc).2.1) hcs
  obtain ⟨n, heq⟩ := State.solverIteration_group (s := s.at t) (p := p) hx hfilter
  have hdue : (s.at t).groupDue p (s.binding x) gs cs = false := by
    refine Bool.eq_false_iff.mpr fun hyes => ?_
    unfold State.groupDue at hyes
    simp only [Bool.and_eq_true, decide_eq_true_eq, Bool.not_eq_true', List.all_eq_true, beq_iff_eq] at hyes
    obtain ⟨⟨⟨⟨⟨-, hempty⟩, hdistinct⟩, -⟩, hall⟩, height⟩ := hyes.1
    have hcost := hyes.2
    obtain rfl | h | h | h | ⟨c, hc, f, hf, rfl⟩ | ⟨c, hc, k, hk, hne⟩ := hno
    · exact absurd hempty (by decide)
    · exact h hdistinct
    · omega
    · omega
    · exact absurd ((hall c hc).2 none hf) (by decide)
    · exact hne ((hall c hc).1.trans (hall k hk).1.symm)
  have hbind : (s.at t).binding x = s.binding x := rfl
  rw [hbind] at heq
  rw [heq, State.when_neg hdue] at hrow
  exact ⟨_, hrow, rfl⟩

end

end Sys2Proof.Machine
end

section
/-!
SUPPORT. Time scaling of a candidate, and the obligation on smoothing and time scaling (R205-R209).
-/
namespace Sys2Proof.Machine

/-! ## An operation's result -/

/-- A time map that is taken ends within the horizon (R207). -/
theorem TsIn.run_within (x : TsIn) (horizon : Nat) (late : Int) (h : (x.run horizon late).status = 0) :
    ((tmAt (x.run horizon late).tm 255).tHi : Int) ≤ horizon + late := by
  unfold TsIn.run at h ⊢
  split at h
  · exact absurd h Nat.one_ne_zero
  · next hcap =>
    rw [if_neg hcap]
    dsimp only at h ⊢
    split at h
    · exact absurd h (Nat.succ_ne_zero 2)
    · next hin =>
      rw [if_neg hin]
      exact not_lt.mp fun hlt => hin ⟨h, hlt⟩

section
variable {id p g : Nat} {x : Stream} {c : Cand} {r : TsOut} {b : Binding}

/-- A candidate that an operation ended. -/
def Cand.timeDropped (r : TsOut) (c : Cand) : Cand :=
  { c with dropped := true, smooth := { c.smooth with tsStatus := r.status, tsRetries := r.retries } }

/-- A candidate with its time map. -/
def Cand.timed (r : TsOut) (c : Cand) : Cand :=
  { c with
    tsDone := true, tm := r.tm,
    smooth := { c.smooth with
      tsStatus := 0, tsRetries := r.retries, duration := (tmAt r.tm 255).tHi, jerkInt := r.jerk,
      probeEpoch := (c.probe.map fun q => epochByte q.2).getD 255 } }

/-- What an operation leaves of a candidate: the provisional map, an end, or the time map. -/
def Cand.timeScaled (prov : Bool) (r : TsOut) (c : Cand) : Cand :=
  if prov = true ∧ r.status ≠ 1 ∧ r.status ≠ 2 then { c with tmProv := some r.tm }
  else if r.status ≠ 0 then c.timeDropped r
  else c.timed r

/-- The marks of a time-scaling operation. -/
def State.timeMarked (p g : Nat) (x : Stream) (b : Binding) (r : TsOut) (s : State) : State :=
  (((s.busy p 6).raiseArith p r.flags).bumpCl p 3 (b.tsCycles r.retries)).opDigest 8 x.tagLayer x.tagOperator (b.wid % 256) g
    (tmBytes r.tm)

/-- What an operation does behind its marks (R205, R206, R209). -/
def State.timeEnds (p id g : Nat) (b : Binding) (prov : Bool) (r : TsOut) (s : State) : State :=
  let drop (s : State) : State :=
    (s.modCand p id g (·.wantsTime b.cartesian) (Cand.timeDropped r)).tallyOn p id
      fun t => { t with tsDropped := addS t.tsDropped 1 }
  if prov then
    (if r.status = 1 ∨ r.status = 2 then drop s
    else s.modCand p id g (·.wantsTime true) fun c => { c with tmProv := some r.tm })
  else if r.status ≠ 0 then drop s
  else (s.bufferMap p r.tm).modCand p id g (·.wantsTime b.cartesian) (Cand.timed r)

/-- The result of an operation on a candidate. -/
def Binding.timeOut (b : Binding) (x : Stream) (c : Cand) : TsOut :=
  TsIn.run (b.tsIn x c (if (b.cartesian && c.tmProv.isNone) = true then none else c.probe.map fun q => b.vtOf q.1)) x.q.horizon
    (if c.origin = 1 then x.elapsed else 0)

variable {s : State}

theorem State.timeScalingOp_ends (hx : s.stream? id = some x)
    (hc : (s.cl p).cand? id g (fun k => k.wantsTime (s.binding x).cartesian) = some c) (hwork : s.working = true)
    (htakes : s.takesWork p = true) : s.timeScalingOp p id g =
      ((s.timeMarked p g x (s.binding x) ((s.binding x).timeOut x c)).timeEnds p id g (s.binding x)
        ((s.binding x).cartesian && c.tmProv.isNone) ((s.binding x).timeOut x c)) := by
  have hdue : (s.working && s.takesWork p) = true := by rw [hwork, htakes]; rfl
  unfold State.timeScalingOp
  rw [hx]
  dsimp only
  rw [hc]
  dsimp only
  rw [State.when_pos hdue]
  rfl

theorem State.timeMarked_stillCls (s : State) (p g : Nat) (x : Stream) (b : Binding) (r : TsOut) :
    (s.timeMarked p g x b r).stillCls = (s.modCl p (Cluster.raise r.flags)).stillCls := by
  unfold State.timeMarked
  rw [State.opDigest_stillCls, State.bumpCl_stillCls, State.raiseArith_stillCls]
  exact State.modCl_stillCls_congr (by intro; rfl) (State.busy_stillCls ..) p

theorem State.timeMarked_offWork (s : State) (p g : Nat) (x : Stream) (b : Binding) (r : TsOut) :
    { s.timeMarked p g x b r with free := s.free }.offWork = s.offWork := by
  have hbump (y : State) (i n : Nat) : (y.bumpCl p i n).offWork = y.offWork := rfl
  have hmarks : (s.timeMarked p g x b r).offWork = (s.busy p 6).offWork := by
    unfold State.timeMarked
    rw [State.opDigest_offWork, hbump, State.raiseArith_offWork]
  exact congrArg (fun y : State => { y with free := s.free }) hmarks

/-- The three ends of an operation on its cluster and on the group buffer. -/
theorem State.timeEnds_parts (hp : p < s.clusters.length) (prov : Bool) (hprov : prov = true → b.cartesian = true) (r : TsOut) :
    ((s.timeEnds p id g b prov r).cl p).cands =
        (s.cl p).candsWith id g (fun k => k.wantsTime b.cartesian) (Cand.timeScaled prov r) ∧
      ((s.timeEnds p id g b prov r).cl p).arithFlags = (s.cl p).arithFlags ∧
      (s.timeEnds p id g b prov r).sram = (if r.status = 0 ∧ prov = false then
        Mem.writeBytes (scratchAddr p (timeMapBuffer + (s.cl p).mapsMade % 16 * 4096)) (tmBytes r.tm) s.sram else s.sram) ∧
      { s.timeEnds p id g b prov r with sram := s.sram }.offWork = s.offWork := by
  have hdrop : ∀ u, u = (s.modCand p id g (·.wantsTime b.cartesian) (Cand.timeDropped r)).tallyOn p id
        (fun t => { t with tsDropped := addS t.tsDropped 1 }) →
      (u.cl p).cands = (s.cl p).candsWith id g (fun k => k.wantsTime b.cartesian) (Cand.timeDropped r) ∧
        (u.cl p).arithFlags = (s.cl p).arithFlags ∧ u.sram = s.sram ∧ { u with sram := s.sram }.offWork = s.offWork := by
    rintro u rfl
    have hcl := State.cl_modCand hp id g (·.wantsTime b.cartesian) (Cand.timeDropped r)
    have hlen : p < (s.modCand p id g (·.wantsTime b.cartesian) (Cand.timeDropped r)).clusters.length :=
      (State.clusters_length_modCl s p _).symm ▸ hp
    refine ⟨?_, ?_, rfl, rfl⟩
    · unfold State.tallyOn
      rw [State.cl_modCl hlen, hcl]
    · unfold State.tallyOn
      rw [State.cl_modCl hlen, hcl]
  unfold State.timeEnds
  dsimp only
  cases prov with
  | true =>
    rw [if_pos rfl, hprov rfl]
    have hsram : ¬(r.status = 0 ∧ true = false) := fun h => absurd h.2 (by decide)
    rw [if_neg hsram]
    split
    · next h12 =>
      have hend : Cand.timeScaled true r = Cand.timeDropped r := by
        funext c
        unfold Cand.timeScaled
        rw [if_neg (by tauto), if_pos (by omega)]
      rw [hend, ← hprov rfl]
      exact hdrop _ rfl
    · next h12 =>
      have hend : Cand.timeScaled true r = fun c => { c with tmProv := some r.tm } := by
        funext c
        exact if_pos ⟨rfl, fun h => h12 (.inl h), fun h => h12 (.inr h)⟩
      rw [hend]
      refine ⟨?_, ?_, rfl, rfl⟩ <;> rw [State.cl_modCand hp]
  | false =>
    have hnot : ¬(false = true ∧ r.status ≠ 1 ∧ r.status ≠ 2) := fun h => absurd h.1 (by decide)
    rw [if_neg Bool.false_ne_true]
    split
    · next hbad =>
      have hend : Cand.timeScaled false r = Cand.timeDropped r := by
        funext c
        unfold Cand.timeScaled
        rw [if_neg hnot, if_pos hbad]
      rw [hend, if_neg fun h => hbad h.1]
      exact hdrop _ rfl
    · next hgood =>
      have hend : Cand.timeScaled false r = Cand.timed r := by
        funext c
        unfold Cand.timeScaled
        rw [if_neg hnot, if_neg hgood]
      have hbuffer : (s.bufferMap p r.tm).cl p = { s.cl p with mapsMade := (s.cl p).mapsMade + 1 } :=
        State.cl_modCl (s := s.sramWrite _ _) hp _
      have hlen : p < (s.bufferMap p r.tm).clusters.length :=
        (State.clusters_length_modCl (s.sramWrite _ _) p _).symm ▸ hp
      have hsram : (s.bufferMap p r.tm).sram =
        Mem.writeBytes (scratchAddr p (timeMapBuffer + (s.cl p).mapsMade % 16 * 4096)) (tmBytes r.tm) s.sram := rfl
      have hoff : { s.bufferMap p r.tm with sram := s.sram }.offWork = s.offWork := rfl
      rw [hend, if_pos ⟨not_not.mp hgood, rfl⟩]
      generalize s.bufferMap p r.tm = y at hbuffer hlen hsram hoff ⊢
      refine ⟨?_, ?_, hsram, hoff⟩
      · rw [State.cl_modCand hlen, hbuffer]
        rfl
      · rw [State.cl_modCand hlen, hbuffer]

end

section
variable {s : State} {id p g t : Nat} {x : Stream} {c : Cand} {r : TsOut}

theorem timeScalingOp_scales (hp : p < 64) (hid : id < 512) (hlen : s.clusters.length = 64) (hx : s.stream? id = some x)
    (hwork : s.working = true) (htakes : (s.at t).takesWork p = true)
    (hc : (s.cl p).cand? id g (fun k => k.wantsTime (s.binding x).cartesian) = some c)
    (hr : r = (s.binding x).timeOut x c) :
    ∃ s', exec (.timeScalingOp p id g t) s = .next s' ∧ (s'.cl p).cands.length = (s.cl p).cands.length ∧
      (s'.cl p).arithFlags = (s.cl p).arithFlags ||| r.flags ∧
      (∀ k ∈ (s.cl p).cands, k.stream ≠ id ∨ k.g ≠ g → k ∈ (s'.cl p).cands) ∧
      c.timeScaled ((s.binding x).cartesian && c.tmProv.isNone) r ∈ (s'.cl p).cands ∧
      s'.sram = (if r.status = 0 ∧ ((s.binding x).cartesian && c.tmProv.isNone) = false then
        Mem.writeBytes (scratchAddr p (timeMapBuffer + (s.cl p).mapsMade % 16 * 4096)) (tmBytes r.tm) s.sram else s.sram) ∧
      { s' with time := s.time, clusters := s.clusters, det := s.det, sram := s.sram, free := s.free } = s := by
  have hguard : (below p 64 && streamOk id) = true := by simp [below, streamOk, hp, hid]
  have hrow := (exec_timeScalingOp p id g t s).trans (ranAt_pos hguard ..)
  have heq := State.timeScalingOp_ends (s := s.at t) (p := p) (g := g) hx hc hwork htakes
  have hbind : (s.at t).binding x = s.binding x := rfl
  rw [hbind, ← hr] at heq
  rw [heq] at hrow
  have hlenZ : p < (s.at t).clusters.length := by
    rw [State.at_clusters]
    omega
  have hstill := (s.at t).timeMarked_stillCls p g x (s.binding x) r
  have hoff := (s.at t).timeMarked_offWork p g x (s.binding x) r
  generalize (s.at t).timeMarked p g x (s.binding x) r = z at hrow hstill hoff
  have hpz : p < z.clusters.length := by
    rw [State.clusters_length_of_still hstill, State.clusters_length_modCl]
    exact hlenZ
  have hcl := State.still_of_stillCls hstill p
  rw [State.cl_modCl hlenZ] at hcl
  have hcands : (z.cl p).cands = (s.cl p).cands := (congrArg Cluster.cands hcl :)
  have hflagsZ : (z.cl p).arithFlags = (s.cl p).arithFlags ||| r.flags := (congrArg Cluster.arithFlags hcl :)
  have hmapsZ : (z.cl p).mapsMade = (s.cl p).mapsMade := (congrArg Cluster.mapsMade hcl :)
  have hsramZ : z.sram = s.sram := (congrArg State.sram hoff :)
  obtain ⟨hlist, hflags, hsram, hoffU⟩ := State.timeEnds_parts (id := id) (g := g) (b := s.binding x) hpz
    ((s.binding x).cartesian && c.tmProv.isNone) (fun h => (Bool.and_eq_true_iff.mp h).1) r
  generalize ((s.binding x).cartesian && c.tmProv.isNone) = prov at hrow hlist hflags hsram hoffU ⊢
  generalize z.timeEnds p id g (s.binding x) prov r = u at hrow hlist hflags hsram hoffU
  rw [hmapsZ, hsramZ] at hsram
  have hlist : (u.cl p).cands = modFirst (Cand.isOf id g fun k => k.wantsTime (s.binding x).cartesian)
      (Cand.timeScaled prov r) (s.cl p).cands := hlist.trans (congrArg (modFirst _ _) hcands)
  have hoffAll : { u with sram := s.sram, free := s.free }.offWork = (s.at t).offWork :=
    (congrArg (fun y : State => { y with sram := s.sram, free := s.free }) hoffU :).trans
      (congrArg (fun y : State => { y with sram := s.sram }) hoff :)
  have hframe := State.frame_of_offWork hoffAll
  refine ⟨_, hrow, ?_, hflags.trans hflagsZ, fun k hk hne => ?_, ?_, hsram, ?_⟩
  · change (u.cl p).cands.length = _
    rw [hlist, modFirst_length]
  · change k ∈ (u.cl p).cands
    rw [hlist]
    exact mem_modFirst_of_mem _ (Cand.isOf_other hne _) hk
  · change _ ∈ (u.cl p).cands
    rw [hlist]
    exact mem_modFirst _ hc
  · exact hframe

end

/-- Settles O38: each clause from the rule of a factorisation, of a group's turns, of one turn, or of a time-scaling operation. -/
theorem smoothingAndTimeScaling : Obligations.SmoothingAndTimeScaling := by
  unfold Obligations.SmoothingAndTimeScaling
  refine ⟨fun s id p g block core x c d f t hp hid hcore hlen hx hwork htakes hc hd hf => ⟨?_, ?_⟩,
    fun s id p turn gs cs x t hp hid hlen hx hwork htakes hcs => ⟨?_, solverIteration_nothing hp hid hx hcs⟩, ?_, ?_⟩
  · exact factorisation_factors hp hid hcore hlen hx hwork htakes hc hd hf
  · exact factorisation_nothing hp hid hcore hx hc
  · exact solverIteration_turns hp hid hlen hx hwork htakes hcs
  · rintro b c c' x rfl rfl
    obtain ⟨hstream, hg, horigin⟩ := b.turnOf_keeps c
    exact ⟨hstream, hg, horigin, fun h => (b.turnOf_cand c).trans (if_pos h), Binding.turnOf_ends⟩
  · intro s id p g x c r t hp hid hlen hx hwork htakes hc hr
    have hout : r = (s.binding x).timeOut x c := by
      have hcond : ((s.binding x).cartesian = true ∧ c.tmProv = none) = (((s.binding x).cartesian && c.tmProv.isNone) = true) := by
        simp
      unfold Binding.timeOut
      rw [hr]
      simp only [hcond]
    obtain ⟨s', hrow, hlength, hflags, hothers, hmem, hsram, hframe⟩ :=
      timeScalingOp_scales (g := g) hp hid hlen hx hwork htakes hc hout
    have hfinal : (s.binding x).cartesian = false ∨ c.tmProv.isSome = true → ((s.binding x).cartesian && c.tmProv.isNone) = false := by
      rintro (h | h)
      · rw [h, Bool.false_and]
      · rw [Option.isNone_eq_false_iff.mpr h, Bool.and_false]
    have hprov : (s.binding x).cartesian = true → c.tmProv = none → ((s.binding x).cartesian && c.tmProv.isNone) = true := by
      intro h1 h2
      rw [h1, h2]
      rfl
    unfold Cand.timeScaled at hmem
    refine ⟨s', hrow, hlength, hflags, hothers, fun hcart hnone hstatus => ?_, fun hbad hends => ?_, fun hgood hends => ⟨?_, ?_, ?_⟩,
      fun hno => ?_, hframe⟩
    · rw [if_pos ⟨hprov hcart hnone, fun h => hstatus (by simp [h]), fun h => hstatus (by simp [h])⟩] at hmem
      exact hmem
    · have hnot : ¬(((s.binding x).cartesian && c.tmProv.isNone) = true ∧ r.status ≠ 1 ∧ r.status ≠ 2) := by
        rintro ⟨hp1, h1, h2⟩
        obtain h | h | h := hends
        · rw [h] at hp1
          exact absurd hp1 (by simp)
        · rw [Option.isNone_eq_false_iff.mpr h, Bool.and_false] at hp1
          exact absurd hp1 (by decide)
        · simp [h1, h2] at h
      rw [if_neg hnot, if_pos hbad] at hmem
      exact hmem
    · rw [if_neg (by rw [hfinal hends]; simp), if_neg (not_not.mpr hgood)] at hmem
      exact hmem
    · rw [hout] at hgood ⊢
      exact TsIn.run_within _ _ _ hgood
    · rw [hsram, if_pos ⟨hgood, hfinal hends⟩]
    · rw [hsram]
      refine if_neg fun hyes => ?_
      obtain h | ⟨h1, h2⟩ := hno
      · exact h hyes.1
      · rw [hprov h1 h2] at hyes
        exact absurd hyes.2 (by decide)

end Sys2Proof.Machine
end

section
/-!
SUPPORT. What stays within one cluster, the weight stream, and CONTEXT (R139, R155).
-/
namespace Sys2Proof.Machine

/-! ## Changes of one cluster -/

/-- Only one cluster changed. -/
def State.OnlyCl (p : Nat) (s s' : State) : Prop :=
  (∃ l, s' = { s with clusters := l }) ∧ ∀ q, q ≠ p → s'.cl q = s.cl q

theorem State.onlyCl_refl (p : Nat) (s : State) : s.OnlyCl p s := ⟨⟨_, rfl⟩, fun _ _ => rfl⟩

theorem State.OnlyCl.trans {p : Nat} {s s' s'' : State} (h : s.OnlyCl p s') (h' : s'.OnlyCl p s'') : s.OnlyCl p s'' := by
  obtain ⟨⟨l, rfl⟩, hq⟩ := h
  obtain ⟨⟨l', rfl⟩, hq'⟩ := h'
  exact ⟨⟨l', rfl⟩, fun q hne => (hq' q hne).trans (hq q hne)⟩

theorem State.modCl_onlyCl (p : Nat) (f : Cluster → Cluster) (s : State) : s.OnlyCl p (s.modCl p f) :=
  ⟨⟨_, rfl⟩, fun _ hq => State.cl_modCl_ne hq f⟩

theorem State.bumpCl_onlyCl (p i k : Nat) (s : State) : s.OnlyCl p (s.bumpCl p i k) := State.modCl_onlyCl ..

theorem State.selEvent_onlyCl (p event qual layer op k : Nat) (s : State) : s.OnlyCl p (s.selEvent 0 p event qual layer op k) := by
  unfold State.selEvent
  refine State.foldl_inv (s.OnlyCl p) _ (fun x e hx => ?_) _ _ (State.onlyCl_refl p s)
  split
  · exact hx.trans (State.modCl_onlyCl ..)
  · exact hx

theorem State.raiseArith_onlyCl (p flags guards : Nat) (s : State) : s.OnlyCl p (s.raiseArith p flags guards) := by
  unfold State.raiseArith
  refine State.foldl_inv (s.OnlyCl p) _ (fun x i hx => ?_) _ _ ((State.modCl_onlyCl ..).trans (State.bumpCl_onlyCl ..))
  split
  · exact hx.trans (State.selEvent_onlyCl ..)
  · exact hx

/-! ## The weight stream (R155, R266) -/

theorem State.streamTiles_sram (p : Nat) (net : Net) (s : State) :
    ∃ m, s.streamTiles p net = { s with sram := m } ∧ (net.resident = true → m = s.sram) := by
  unfold State.streamTiles
  split
  · exact ⟨_, rfl, fun _ => rfl⟩
  · next hno =>
    have hfold (l : List Nat) : ∃ m, l.foldl (fun (s : State) i =>
        s.sramWrite (scratchAddr p (weightBuffer + i % 2 * tileBytes)) ((net.weights.drop (i * tileBytes)).take tileBytes)) s =
        { s with sram := m } :=
      State.foldl_inv (fun x => ∃ m, x = { s with sram := m }) _ (fun x i hx => by
        obtain ⟨m, rfl⟩ := hx
        exact ⟨_, rfl⟩) l s ⟨_, rfl⟩
    obtain ⟨m, hm⟩ := hfold ((List.range (ceilDiv net.weights.length tileBytes)).drop (ceilDiv net.weights.length tileBytes - 2))
    exact ⟨m, hm, fun h => absurd h hno⟩

/-! ## CONTEXT (R139, R147, R155) -/

section
variable {s : State} {id p t : Nat} {x : Stream}

theorem State.stream?_id (hx : s.stream? id = some x) : x.id = id := by
  have h := List.find?_some hx
  exact beq_iff_eq.mp h

/-- The marks of a CONTEXT run on its cluster. -/
def State.contextMarked (p : Nat) (b : Binding) (r : List Int × Nat × Nat) (s : State) : State :=
  (s.raiseArith p r.2.1 r.2.2).bumpCl p 0 b.net.ctxCycles

theorem State.contextMarked_stillCls (p : Nat) (b : Binding) (r : List Int × Nat × Nat) (s : State) :
    (s.contextMarked p b r).stillCls = (s.modCl p (Cluster.raise r.2.1)).stillCls :=
  (State.bumpCl_stillCls ..).trans (State.raiseArith_stillCls ..)

theorem State.contextMarked_onlyCl (p : Nat) (b : Binding) (r : List Int × Nat × Nat) (s : State) :
    s.OnlyCl p (s.contextMarked p b r) := (State.raiseArith_onlyCl ..).trans (State.bumpCl_onlyCl ..)

/-- The cluster that CONTEXT ran on. -/
def Cluster.withContext (id : Nat) (e : Option Nat) (out : List Int) (c : Cluster) : Cluster :=
  Cluster.make e { c with contexts := upsert id out c.contexts }

theorem contextRun_runs (hp : p < 64) (hid : id < 512) (hlen : s.clusters.length = 64) (hx : s.stream? id = some x) {e : Option Nat}
    (hwork : s.working = true) (htakes : (s.at t).takesWork p = true) (hstack : p / 16 = (s.binding x).wid % 4)
    (hworks : s.works x = true) (htask : s.contextTask p x = some e) :
    ∃ s' y, exec (.contextRun id p t) s = .next s' ∧ s'.stream? id = some y ∧
      y = { x with contextOut := some (s.runContext (s.binding x) x).1 } ∧
      lookupD [] id (s'.cl p).contexts = (s.runContext (s.binding x) x).1 ∧ (s'.cl p).made = (s.cl p).made ++ e.toList ∧
      (∀ q, q ≠ p → s'.cl q = s.cl q) ∧ ((s.binding x).net.resident = true → s'.sram = s.sram) ∧
      { s' with time := s.time, clusters := s.clusters, stks := s.stks, hub := s.hub, streams := s.streams, det := s.det,
                sram := s.sram } = s := by
  have hguard : (below p 64 && streamOk id) = true := by simp [below, streamOk, hp, hid]
  have hrow := (exec_contextRun id p t s).trans (ranAt_pos hguard ..)
  have heq : State.contextRun id p (s.at t) =
      ((((((s.at t).contextMarked p (s.binding x) (s.runContext (s.binding x) x)).streamTiles p (s.binding x).net).modCl p
        (Cluster.withContext id e (s.runContext (s.binding x) x).1)).opDigest 5 x.tagLayer x.tagOperator
          ((s.binding x).wid % 256) 0 ((s.runContext (s.binding x) x).1.flatMap (leS 2))).modStream id fun y =>
            { y with contextOut := some (s.runContext (s.binding x) x).1 }) := by
    have hx' : (s.at t).stream? id = some x := hx
    have htask' : (s.at t).contextTask p x = some e := htask
    have hdue : ((s.at t).working && (s.at t).takesWork p && stackOf p == ((s.at t).binding x).wid % 4 && (s.at t).works x) =
        true := by
      rw [show (s.at t).working = true from hwork, htakes, show (s.at t).works x = true from hworks,
        show (stackOf p == ((s.at t).binding x).wid % 4) = true from beq_iff_eq.mpr hstack]
      rfl
    unfold State.contextRun
    rw [hx']
    dsimp only
    rw [htask']
    dsimp only
    rw [State.when_pos hdue]
    rfl
  rw [heq] at hrow
  generalize s.runContext (s.binding x) x = r at hrow ⊢
  have hlenZ : p < (s.at t).clusters.length := by
    rw [State.at_clusters]
    omega
  have hstill := (s.at t).contextMarked_stillCls p (s.binding x) r
  obtain ⟨⟨l, hl⟩, hothers⟩ := (s.at t).contextMarked_onlyCl p (s.binding x) r
  have hcl := State.still_of_stillCls hstill p
  rw [State.cl_modCl hlenZ] at hcl
  have hlen1 : p < ((s.at t).contextMarked p (s.binding x) r).clusters.length := by
    rw [State.clusters_length_of_still hstill, State.clusters_length_modCl]
    exact hlenZ
  generalize (s.at t).contextMarked p (s.binding x) r = y at *
  obtain ⟨m, hm, hres⟩ := y.streamTiles_sram p (s.binding x).net
  rw [hm] at hrow
  have hlen2 : p < ({ y with sram := m } : State).clusters.length := hlen1
  have hcl2 : ({ y with sram := m } : State).cl p = y.cl p := rfl
  have hctx := State.cl_modCl hlen2 (Cluster.withContext id e r.1)
  have hne (q : Nat) (hq : q ≠ p) : (({ y with sram := m } : State).modCl p (Cluster.withContext id e r.1)).cl q = s.cl q :=
    (State.cl_modCl_ne hq _).trans (hothers q hq)
  obtain ⟨d, hd, -⟩ := (({ y with sram := m } : State).modCl p (Cluster.withContext id e r.1)).opDigest_digests 5 x.tagLayer
    x.tagOperator ((s.binding x).wid % 256) 0 (r.1.flatMap (leS 2))
  rw [hd] at hrow
  have hmade : (y.cl p).made = (s.cl p).made := (congrArg Cluster.made hcl :)
  have hys : y.streams = s.streams := by rw [hl]; rfl
  have hysram : y.sram = s.sram := by rw [hl]; rfl
  refine ⟨_, _, hrow, ?_, rfl, ?_, ?_, hne, fun h => (hres h).trans hysram, ?_⟩
  · have hyx : y.stream? id = some x := (congrArg (List.find? fun y : Stream => y.id == id) hys).trans hx
    have hfound := State.stream?_modStream (f := fun y => { y with contextOut := some r.1 }) (by intro; rfl) id y
    rw [hyx] at hfound
    exact hfound
  · exact (congrArg (fun c : Cluster => lookupD [] id c.contexts) hctx).trans (lookupD_upsert_same ..)
  · exact (congrArg Cluster.made hctx).trans (congrArg (· ++ e.toList) hmade)
  · rw [hl]
    rfl

theorem contextRun_nothing (hp : p < 64) (hid : id < 512) (hx : s.stream? id = some x)
    (hno : s.works x = false ∨ s.working = false ∨ s.contextTask p x = none) :
    ∃ s', exec (.contextRun id p t) s = .next s' ∧ { s' with time := s.time } = s := by
  have hguard : (below p 64 && streamOk id) = true := by simp [below, streamOk, hp, hid]
  have hrow := (exec_contextRun id p t s).trans (ranAt_pos hguard ..)
  have heq : State.contextRun id p (s.at t) = s.at t := by
    have hx' : (s.at t).stream? id = some x := hx
    unfold State.contextRun
    rw [hx']
    dsimp only
    obtain h | h | h := hno
    · split
      · rfl
      · refine State.when_neg ?_ _ _
        rw [show (s.at t).works x = false from h, Bool.and_false]
    · split
      · rfl
      · refine State.when_neg ?_ _ _
        rw [show (s.at t).working = false from h]
        rfl
    · rw [show (s.at t).contextTask p x = none from h]
  rw [heq] at hrow
  exact ⟨_, hrow, rfl⟩

end

end Sys2Proof.Machine
end

section
/-!
SUPPORT. Blocks of proposed candidates, ordinary and of a repair (R139, R147-R154).
-/
namespace Sys2Proof.Machine

/-! ## What a block is asked about -/

/-- A cluster's candidates, its next local index and its made outputs, and the parts that a block leaves. -/
def State.blockView (p : Nat) (s : State) :=
  ((s.cl p).cands, (s.cl p).nextLocal, (s.cl p).made, s.clusters.length, s.streams, s.hbm, s.safety, s.frame)

section
variable {s : State} {p : Nat}

theorem State.blockView_of_onlyCl {s s' : State} {f : Cluster → Cluster} (hp : p < s.clusters.length)
    (hstill : s'.stillCls = (s.modCl p f).stillCls) (honly : s.OnlyCl p s')
    (hf : ∀ c, (f c).cands = c.cands ∧ (f c).nextLocal = c.nextLocal ∧ (f c).made = c.made) : s'.blockView p = s.blockView p := by
  obtain ⟨⟨l, hl⟩, -⟩ := honly
  have hcl := State.still_of_stillCls hstill p
  rw [State.cl_modCl hp] at hcl
  obtain ⟨hc, hn, hm⟩ := hf (s.cl p)
  have hlen := State.clusters_length_of_still hstill
  rw [State.clusters_length_modCl] at hlen
  have h1 : (s'.cl p).cands = (s.cl p).cands := (congrArg Cluster.cands hcl :).trans hc
  have h2 : (s'.cl p).nextLocal = (s.cl p).nextLocal := (congrArg Cluster.nextLocal hcl :).trans hn
  have h3 : (s'.cl p).made = (s.cl p).made := (congrArg Cluster.made hcl :).trans hm
  unfold State.blockView
  rw [h1, h2, h3, hlen, hl]

theorem State.raiseArith_blockView (hp : p < s.clusters.length) (flags guards : Nat) :
    (s.raiseArith p flags guards).blockView p = s.blockView p :=
  State.blockView_of_onlyCl hp (State.raiseArith_stillCls ..) (State.raiseArith_onlyCl ..) fun _ => ⟨rfl, rfl, rfl⟩

theorem State.streamTiles_blockView (p q : Nat) (net : Net) (s : State) : (s.streamTiles q net).blockView p = s.blockView p := by
  obtain ⟨m, hm, -⟩ := s.streamTiles_sram q net
  rw [hm]
  rfl

theorem State.modCl_blockView (hp : p < s.clusters.length) (f : Cluster → Cluster) : (s.modCl p f).blockView p =
    ((f (s.cl p)).cands, (f (s.cl p)).nextLocal, (f (s.cl p)).made, s.clusters.length, s.streams, s.hbm, s.safety, s.frame) := by
  unfold State.blockView
  rw [State.cl_modCl hp, State.clusters_length_modCl]
  rfl

theorem State.opDigest_blockView (p a b c d e : Nat) (out : List Byte) (s : State) :
    (s.opDigest a b c d e out).blockView p = s.blockView p := by
  obtain ⟨l, hl, -⟩ := s.opDigest_digests a b c d e out
  rw [hl]
  rfl

theorem State.blockView_length {s' : State} (h : s'.blockView p = s.blockView p) : s'.clusters.length = s.clusters.length := by
  simp only [State.blockView, Prod.mk.injEq] at h
  exact h.2.2.2.1

/-- A block's candidates join the cluster's (R147). -/
theorem State.addBlock_blockView (hp : p < s.clusters.length) (b : Binding) (x : Stream) (cs : List Cand) (flags guards cycles : Nat) :
    (s.addBlock p b x cs flags guards cycles).blockView p = ((s.cl p).cands ++ cs, (s.cl p).nextLocal + 64, (s.cl p).made,
      s.clusters.length, s.streams, s.hbm, s.safety, s.frame) := by
  have htiles := (State.streamTiles_blockView p p b.net (s.raiseArith p flags guards)).trans (State.raiseArith_blockView hp flags guards)
  unfold State.addBlock
  dsimp only
  rw [State.opDigest_blockView]
  generalize (s.raiseArith p flags guards).streamTiles p b.net = y at htiles ⊢
  have hpy : p < y.clusters.length := by rw [State.blockView_length htiles]; exact hp
  have hbump : (y.bumpCl p 0 cycles).blockView p = y.blockView p := State.modCl_blockView hpy _
  have hpz : p < (y.bumpCl p 0 cycles).clusters.length := by rw [State.blockView_length hbump]; exact hpy
  have hall := hbump.trans htiles
  generalize y.bumpCl p 0 cycles = z at hpz hall ⊢
  have hmod : (z.modCl p fun c => { c with cands := c.cands ++ cs, nextLocal := c.nextLocal + 64 }).blockView p =
      ((s.cl p).cands ++ cs, (s.cl p).nextLocal + 64, (s.cl p).made, s.clusters.length, s.streams, s.hbm, s.safety, s.frame) := by
    rw [State.modCl_blockView hpz]
    simp only [State.blockView, Prod.mk.injEq] at hall
    obtain ⟨h1, h2, h3, h4, h5, h6, h7, h8⟩ := hall
    rw [← h1, ← h2, ← h3, h4, h5, h6, h7, h8]
  exact ite_view hmod hmod

/-! ## Block 0 brings the carried plan and the farmed entries (R239, R391) -/

theorem State.placeCarried_blockView (hp : p < s.clusters.length) {id : Nat} {y : Stream} (hy : s.stream? id = some y)
    (hblock : y.block0 = some p) : ∃ more : List Cand, (∀ c ∈ more, c.stream = id ∧ 2 ≤ c.origin) ∧
      (s.placeCarried id).blockView p = ((s.cl p).cands ++ more, (s.cl p).nextLocal, (s.cl p).made, s.clusters.length, s.streams,
        s.hbm, s.safety, s.frame) := by
  have hnone : s.blockView p = ((s.cl p).cands ++ [], (s.cl p).nextLocal, (s.cl p).made, s.clusters.length, s.streams,
      s.hbm, s.safety, s.frame) := by
    rw [List.append_nil]
    rfl
  have hempty : ∀ c ∈ ([] : List Cand), c.stream = id ∧ 2 ≤ c.origin := fun c hc => absurd hc List.not_mem_nil
  unfold State.placeCarried
  rw [hy]
  dsimp only
  rw [hblock]
  cases y.carried with
  | none => exact ⟨[], hempty, hnone⟩
  | some plan =>
    dsimp only
    split
    · exact ⟨[carriedCand id plan], fun c hc => by rw [List.mem_singleton.mp hc]; exact ⟨rfl, le_refl 2⟩,
        State.modCl_blockView hp _⟩
    · exact ⟨[], hempty, hnone⟩

theorem State.placeFarmed_blockView (hp : p < s.clusters.length) (id : Nat) : ∃ more : List Cand,
    (∀ c ∈ more, c.stream = id ∧ 2 ≤ c.origin) ∧ (s.placeFarmed id p).blockView p = ((s.cl p).cands ++ more, (s.cl p).nextLocal,
      (s.cl p).made, s.clusters.length, s.streams, s.hbm, s.safety, s.frame) := by
  refine ⟨(lookupD [] id s.farming.usable).map (farmedCand id), fun c hc => ?_, ?_⟩
  · obtain ⟨e, -, rfl⟩ := List.mem_map.mp hc
    exact ⟨rfl, Nat.le_succ 2⟩
  · exact State.modCl_blockView (s := s.modFarming fun f => { f with usable := f.usable.filter (·.1 != id) }) hp _

theorem State.block0On_blockView (hp : p < s.clusters.length) {id : Nat} {y : Stream} (hy : s.stream? id = some y) :
    ∃ more : List Cand, (∀ c ∈ more, c.stream = id ∧ 2 ≤ c.origin) ∧ (s.block0On id p).blockView p = ((s.cl p).cands ++ more,
      (s.cl p).nextLocal, (s.cl p).made, s.clusters.length, (s.modStream id fun y => { y with block0 := some p }).streams,
      s.hbm, s.safety, s.frame) := by
  have hfound := State.stream?_modStream (f := fun y => { y with block0 := some p }) (by intro; rfl) id s
  rw [hy] at hfound
  have hpz : p < (s.modStream id fun y => { y with block0 := some p }).clusters.length := hp
  have hclz : (s.modStream id fun y => { y with block0 := some p }).cl p = s.cl p := rfl
  have hrest : ∀ z, z = (s.modStream id fun y => { y with block0 := some p }) → z.clusters.length = s.clusters.length ∧
      z.hbm = s.hbm ∧ z.safety = s.safety ∧ z.frame = s.frame := by
    rintro z rfl
    exact ⟨rfl, rfl, rfl, rfl⟩
  unfold State.block0On
  generalize (s.modStream id fun y => { y with block0 := some p }) = z at *
  obtain ⟨h4, h6, h7, h8⟩ := hrest z rfl
  obtain ⟨more1, hmore1, hview1⟩ := State.placeCarried_blockView hpz hfound rfl
  rw [hclz, h4, h6, h7, h8] at hview1
  generalize z.placeCarried id = w at hview1
  simp only [State.blockView, Prod.mk.injEq] at hview1
  obtain ⟨w1, w2, w3, w4, w5, w6, w7, w8⟩ := hview1
  obtain ⟨more2, hmore2, hview2⟩ := State.placeFarmed_blockView (w4 ▸ hp) id
  refine ⟨more1 ++ more2, fun c hc => ?_, ?_⟩
  · obtain hc | hc := List.mem_append.mp hc
    · exact hmore1 c hc
    · exact hmore2 c hc
  · rw [hview2, w1, w2, w3, w4, w5, w6, w7, w8, List.append_assoc]

end

/-! ## An ordinary block (R139, R148) -/

theorem State.modStream_streams {w s : State} (h : w.streams = s.streams) (id : Nat) (f : Stream → Stream) :
    (w.modStream id f).streams = (s.modStream id f).streams :=
  congrArg (List.map fun x : Stream => if x.id = id then f x else x) h

section
variable {s : State} {id p t : Nat} {x : Stream}

theorem State.runBlock_length (s : State) (b : Binding) (x : Stream) (g : NetGraph) (extra : List (Nat × List Int)) (ctx : List Int)
    (g0 wBase : Nat) : (s.runBlock b x g extra ctx g0 wBase).1.length = 64 := by
  unfold State.runBlock
  simp only [List.length_map, List.length_range]

/-- Each spline passes through its start, with its first points about it (R148). -/
theorem Binding.spline_start (b : Binding) (q : Query) (v : List Int) : (b.spline q v).length = b.dof ∧
    ∀ k < b.dof, at0 ((b.spline q v).getD k []) 1 = at0 q.qStart k ∧
      at0 ((b.spline q v).getD k []) 0 + at0 ((b.spline q v).getD k []) 2 = 2 * at0 q.qStart k := by
  unfold Binding.spline
  refine ⟨by simp, fun k hk => ?_⟩
  have hget (F : Nat → List Int) : ((List.range b.dof).map F).getD k [] = F k := by
    rw [List.getD_eq_getElem?_getD, List.getElem?_map, List.getElem?_range hk]
    rfl
  rw [hget]
  refine ⟨rfl, ?_⟩
  change at0 q.qStart k - at0 q.tau k + (at0 q.qStart k + at0 q.tau k) = 2 * at0 q.qStart k
  omega

/-- The run of the head for an ordinary block. -/
def State.headRun (s : State) (p base : Nat) (x : Stream) : List Sample × Nat × Nat :=
  s.runBlock (s.binding x) x (s.binding x).net.head [] ((s.contextOn p x).getD []) (p * 4096 + base) 0

/-- The candidates of an ordinary block. -/
def State.headCands (s : State) (id p base : Nat) (x : Stream) : List Cand :=
  (s.headRun p base x).1.zipIdx.map fun n =>
    ({ stream := id, g := p * 4096 + base + n.2, component := n.1.component, weight := n.1.weight, flags := n.1.flags,
       cp := (s.binding x).spline x.q n.1.cp, tStart := x.q.tStart } : Cand)

theorem State.headCands_parts (s : State) (id p base : Nat) (x : Stream) : (s.headCands id p base x).length = 64 ∧
    ∀ j < 64, ∃ c, (s.headCands id p base x)[j]? = some c ∧ c.g = p * 4096 + base + j ∧ c.stream = id ∧ c.origin = 0 ∧
      c.check = none ∧ c.cp.length = (s.binding x).dof ∧
      (∀ k < (s.binding x).dof, at0 (c.cp.getD k []) 1 = at0 x.q.qStart k ∧
        at0 (c.cp.getD k []) 0 + at0 (c.cp.getD k []) 2 = 2 * at0 x.q.qStart k) := by
  unfold State.headCands
  have hlen : (s.headRun p base x).1.length = 64 := s.runBlock_length ..
  generalize (s.headRun p base x).1 = l at hlen
  refine ⟨by simp [hlen], fun j hj => ?_⟩
  have hget : l.zipIdx[j]? = some (l[j], j) := by simp [hlen, hj]
  obtain ⟨hdof, hpoints⟩ := (s.binding x).spline_start x.q l[j].cp
  rw [List.getElem?_map, hget]
  exact ⟨_, rfl, rfl, rfl, rfl, rfl, hdof, hpoints⟩

/-- A block as its cluster, its tally and its stream keep it. -/
def State.blockMade (p id : Nat) (x : Stream) (cs : List Cand) (flags guards cycles : Nat) (f : Cluster → Cluster) (g : Tally → Tally)
    (h : Stream → Stream) (s : State) : State :=
  (((s.addBlock p (s.binding x) x cs flags guards cycles).modCl p f).tallyOn p id g).modStream id h

theorem State.blockMade_blockView (hp : p < s.clusters.length) (id : Nat) (x : Stream) {e : Nat} (cs : List Cand)
    (flags guards cycles : Nat) {f : Cluster → Cluster} (g : Tally → Tally) (h : Stream → Stream)
    (hf : ∀ c, (f c).cands = c.cands ∧ (f c).nextLocal = c.nextLocal ∧ (f c).made = c.made ++ [e]) :
    (s.blockMade p id x cs flags guards cycles f g h).blockView p = ((s.cl p).cands ++ cs, (s.cl p).nextLocal + 64,
      (s.cl p).made ++ [e], s.clusters.length, (s.modStream id h).streams, s.hbm, s.safety, s.frame) := by
  have hadd := State.addBlock_blockView hp (s.binding x) x cs flags guards cycles
  unfold State.blockMade
  generalize s.addBlock p (s.binding x) x cs flags guards cycles = y at hadd
  simp only [State.blockView, Prod.mk.injEq] at hadd
  obtain ⟨h1, h2, h3, h4, h5, h6, h7, h8⟩ := hadd
  have hpy : p < y.clusters.length := h4 ▸ hp
  have hmake := State.modCl_blockView hpy f
  obtain ⟨f1, f2, f3⟩ := hf (y.cl p)
  rw [f1, f2, f3, h1, h2, h3] at hmake
  generalize y.modCl p f = z at hmake
  simp only [State.blockView, Prod.mk.injEq] at hmake
  obtain ⟨z1, z2, z3, z4, z5, z6, z7, z8⟩ := hmake
  have hpz : p < z.clusters.length := z4 ▸ hpy
  have htally : (z.tallyOn p id g).blockView p = z.blockView p := State.modCl_blockView hpz _
  generalize z.tallyOn p id g = w at htally
  simp only [State.blockView, Prod.mk.injEq] at htally
  obtain ⟨w1, w2, w3, w4, w5, w6, w7, w8⟩ := htally
  have hstreams := State.modStream_streams (w5.trans (z5.trans h5)) id h
  change (((w.cl p).cands, (w.cl p).nextLocal, (w.cl p).made, w.clusters.length, (w.modStream id h).streams, w.hbm, w.safety,
    w.frame) : _ × _) = _
  rw [hstreams, w1, w2, w3, w4, w6, w7, w8, z1, z2, z3, z4, z6, z7, z8, h4, h6, h7, h8]

/-- An ordinary block as its cluster and its stream keep it. -/
def State.headMade (p id : Nat) (x : Stream) (e : Nat) (cs : List Cand) (flags guards : Nat) (s : State) : State :=
  s.blockMade p id x cs flags guards (s.binding x).net.blk (fun c => ({ c with
    blocks := upsert id (lookupD 0 id c.blocks + 1) c.blocks }).make (some e)) (fun t => { t with proposed := addS t.proposed 64 })
      fun y => { y with blocksDone := y.blocksDone + 1 }

theorem State.headMade_blockView (hp : p < s.clusters.length) (id : Nat) (x : Stream) (e : Nat) (cs : List Cand) (flags guards : Nat) :
    (s.headMade p id x e cs flags guards).blockView p = ((s.cl p).cands ++ cs, (s.cl p).nextLocal + 64, (s.cl p).made ++ [e],
      s.clusters.length, (s.modStream id fun y => { y with blocksDone := y.blocksDone + 1 }).streams, s.hbm, s.safety, s.frame) :=
  State.blockMade_blockView hp id x cs flags guards _ _ _ fun _ => ⟨rfl, rfl, rfl⟩

theorem headBlock_makes (hp : p < 64) (hid : id < 512) (hlen : s.clusters.length = 64) (hx : s.stream? id = some x) {i base e : Nat}
    (hnext : s.nextBlock p x false x.blocksDone (lookupD 0 id (s.cl p).blocks) = some i)
    (hmake : (s.cl p).toMake (if i = 0 then .firstBlock else .block) (s.wireId id) = some e)
    (hbase : base = s.localBase p id false i) (hdue : (s.at t).blockDue p (s.binding x) x base = true) (hi : i < x.blocks) :
    ∃ s' cs more, exec (.headBlock id p t) s = .next s' ∧ (s'.cl p).cands = (s.cl p).cands ++ cs ++ more ∧
      cs.length = 64 ∧ (i ≠ 0 → more = []) ∧ (∀ c ∈ more, c.stream = id ∧ 2 ≤ c.origin) ∧
      (∀ j < 64, ∃ c, cs[j]? = some c ∧ c.g = p * 4096 + base + j ∧ c.stream = id ∧ c.origin = 0 ∧
        c.check = none ∧ c.cp.length = (s.binding x).dof ∧
        (∀ k < (s.binding x).dof, at0 (c.cp.getD k []) 1 = at0 x.q.qStart k ∧
          at0 (c.cp.getD k []) 0 + at0 (c.cp.getD k []) 2 = 2 * at0 x.q.qStart k)) ∧
      (s'.cl p).nextLocal = (s.cl p).nextLocal + 64 ∧
      (s'.cl p).made = (s.cl p).made ++ [e] ∧
      (∀ y, s'.stream? id = some y → y.blocksDone = x.blocksDone + 1 ∧ y.blocksAccepted = x.blocksAccepted ∧
        (i = 0 → y.block0 = some p)) ∧
      s'.hbm = s.hbm ∧ s'.safety = s.safety ∧ s'.frame = s.frame := by
  have hguard : (below p 64 && streamOk id) = true := by simp [below, streamOk, hp, hid]
  have hrow := (exec_headBlock id p t s).trans (ranAt_pos hguard ..)
  have heq : ∃ flags guards, State.headBlock id p (s.at t) =
      if i = 0 then ((s.at t).headMade p id x e ((s.at t).headCands id p base x) flags guards).block0On id p
      else (s.at t).headMade p id x e ((s.at t).headCands id p base x) flags guards := by
    have hx' : (s.at t).stream? id = some x := hx
    have hnext' : (s.at t).nextBlock p x false x.blocksDone (lookupD 0 id ((s.at t).cl p).blocks) = some i := hnext
    have hmake' : ((s.at t).cl p).toMake (if i = 0 then .firstBlock else .block) ((s.at t).wireId id) = some e := hmake
    have hdue' : ((s.at t).blockDue p ((s.at t).binding x) x ((s.at t).localBase p id false i) && decide (i < x.blocks)) = true := by
      rw [show (s.at t).localBase p id false i = base from hbase.symm, show (s.at t).binding x = s.binding x from rfl, hdue,
        decide_eq_true hi]
      rfl
    have hbase' : (s.at t).localBase p id false i = base := hbase.symm
    refine ⟨((s.at t).headRun p base x).2.1, ((s.at t).headRun p base x).2.2, ?_⟩
    unfold State.headBlock
    rw [hx']
    dsimp only
    rw [hnext']
    dsimp only
    rw [hmake']
    dsimp only
    rw [State.when_pos hdue', hbase']
    rfl
  obtain ⟨flags, guards, heq⟩ := heq
  have hlenZ : p < (s.at t).clusters.length := by
    rw [State.at_clusters]
    omega
  obtain ⟨hcount, hcs⟩ := (s.at t).headCands_parts id p base x
  have hview := State.headMade_blockView hlenZ id x e ((s.at t).headCands id p base x) flags guards
  rw [heq] at hrow
  generalize (s.at t).headCands id p base x = cs at hrow hcount hcs hview
  generalize (s.at t).headMade p id x e cs flags guards = y at hrow hview
  simp only [State.blockView, Prod.mk.injEq] at hview
  obtain ⟨h1, h2, h3, h4, h5, h6, h7, h8⟩ := hview
  have hyx : y.stream? id = some { x with blocksDone := x.blocksDone + 1 } := by
    have hfound := State.stream?_modStream (f := fun y => { y with blocksDone := y.blocksDone + 1 }) (by intro; rfl) id (s.at t)
    rw [show (s.at t).stream? id = some x from hx] at hfound
    exact (congrArg (List.find? fun y : Stream => y.id == id) h5).trans hfound
  by_cases hzero : i = 0
  · rw [if_pos hzero] at hrow
    obtain ⟨more, hmore, hview⟩ := State.block0On_blockView (h4 ▸ hlenZ) hyx
    generalize y.block0On id p = u at hrow hview
    simp only [State.blockView, Prod.mk.injEq] at hview
    obtain ⟨u1, u2, u3, -, u5, u6, u7, u8⟩ := hview
    refine ⟨_, cs, more, hrow, u1.trans (congrArg (· ++ more) h1), hcount, fun hno => absurd hzero hno, hmore, hcs, u2.trans h2,
      u3.trans h3, fun z hz => ?_, u6.trans h6, u7.trans h7, u8.trans h8⟩
    have hfound := State.stream?_modStream (f := fun y => { y with block0 := some p }) (by intro; rfl) id y
    rw [hyx] at hfound
    have hzu := ((congrArg (List.find? fun y : Stream => y.id == id) u5).trans hfound).symm.trans hz
    obtain rfl := Option.some.inj hzu
    exact ⟨rfl, rfl, fun _ => rfl⟩
  · rw [if_neg hzero] at hrow
    refine ⟨_, cs, [], hrow, h1.trans (List.append_nil _).symm, hcount, fun _ => rfl, fun c hc => absurd hc List.not_mem_nil, hcs, h2,
      h3, fun z hz => ?_, h6, h7, h8⟩
    obtain rfl := Option.some.inj (hyx.symm.trans hz)
    exact ⟨rfl, rfl, fun h => absurd h hzero⟩

end

end Sys2Proof.Machine
end

section
/-!
SUPPORT. Blocks of a repair, cost programs, and a sort by a key (R154, R220, R222).
-/
namespace Sys2Proof.Machine

/-! ## A block of a repair (R154) -/

section
variable {s : State} {id p t : Nat} {x : Stream}

/-- Outside the window a repair keeps the carried control points. -/
theorem Binding.stitch_outside (b : Binding) (cp : List (List Int)) (w : Nat × Nat) (v : List Int) {d k : Nat} (hd : d < b.dof)
    (hk : k < b.n) (hout : k < w.1 ∨ w.2 < k) : at0 ((b.stitch cp w v).getD d []) k = cpAt cp d k := by
  unfold Binding.stitch
  rw [getD_map_range _ hd]
  unfold at0
  rw [getD_map_range _ hk]
  exact if_neg (by omega)

/-- The run of the local graph, or the head, for a block of a repair. -/
def State.localRun (s : State) (p base : Nat) (x : Stream) (plan : Plan) (w : Nat × Nat) : List Sample × Nat × Nat :=
  s.runBlock (s.binding x) x (if (s.binding x).net.localGraph then (s.binding x).net.localG else (s.binding x).net.head)
    (if (s.binding x).net.localGraph then [(roleWindow, (s.binding x).window plan.cp w)] else []) ((s.contextOn p x).getD [])
    (p * 4096 + base) 32

/-- The candidates of a repair block. -/
def State.localCands (s : State) (id p base : Nat) (x : Stream) (plan : Plan) (w : Nat × Nat) : List Cand :=
  (s.localRun p base x plan w).1.zipIdx.map fun n =>
    ({ stream := id, g := p * 4096 + base + n.2, origin := 1, component := n.1.component, weight := n.1.weight,
       flags := n.1.flags + 1, cp := (s.binding x).stitch plan.cp w n.1.cp, winA := w.1, winB := w.2, tStart := plan.tStart } : Cand)

theorem State.localCands_parts (s : State) (id p base : Nat) (x : Stream) (plan : Plan) (w : Nat × Nat) :
    (s.localCands id p base x plan w).length = 64 ∧
      ∀ c ∈ s.localCands id p base x plan w, c.stream = id ∧ c.origin = 1 ∧ c.winA = w.1 ∧ c.winB = w.2 ∧
        (∀ d < (s.binding x).dof, ∀ k < (s.binding x).n, k < w.1 ∨ w.2 < k → at0 (c.cp.getD d []) k = cpAt plan.cp d k) := by
  unfold State.localCands
  refine ⟨?_, fun c hc => ?_⟩
  · rw [List.length_map, List.length_zipIdx]
    exact s.runBlock_length ..
  · obtain ⟨n, -, rfl⟩ := List.mem_map.mp hc
    exact ⟨rfl, rfl, rfl, rfl, fun d hd k hk hout => Binding.stitch_outside _ _ _ _ hd hk hout⟩

theorem localBlock_makes (hp : p < 64) (hid : id < 512) (hlen : s.clusters.length = 64) (hx : s.stream? id = some x) {plan : Plan}
    {w : Nat × Nat} {i base e : Nat} (hplan : x.carried = some plan) (hwindow : x.repairWindow = some w)
    (hnext : s.nextBlock p x true x.repairDone (lookupD 0 id (s.cl p).repairsAccepted) = some i)
    (hmake : (s.cl p).toMake .repairBlock (s.wireId id) = some e) (hbase : base = s.localBase p id true i)
    (hdue : (s.at t).blockDue p (s.binding x) x base = true) (hi : i < (s.binding x).set.repairBlocks) :
    ∃ s' cs, exec (.localBlock id p t) s = .next s' ∧ (s'.cl p).cands = (s.cl p).cands ++ cs ∧ cs.length = 64 ∧
      (∀ c ∈ cs, c.stream = id ∧ c.origin = 1 ∧ c.winA = w.1 ∧ c.winB = w.2 ∧
        (∀ d < (s.binding x).dof, ∀ k < (s.binding x).n, k < w.1 ∨ w.2 < k → at0 (c.cp.getD d []) k = cpAt plan.cp d k)) ∧
      (s'.cl p).made = (s.cl p).made ++ [e] ∧ (∀ y, s'.stream? id = some y → y.repairDone = x.repairDone + 1) ∧
      s'.hbm = s.hbm ∧ s'.safety = s.safety ∧ s'.frame = s.frame := by
  have hguard : (below p 64 && streamOk id) = true := by simp [below, streamOk, hp, hid]
  have hrow := (exec_localBlock id p t s).trans (ranAt_pos hguard ..)
  have heq : ∃ cycles, State.localBlock id p (s.at t) = (s.at t).blockMade p id x ((s.at t).localCands id p base x plan w)
      ((s.at t).localRun p base x plan w).2.1 ((s.at t).localRun p base x plan w).2.2 cycles
      (fun c => ({ c with repairsAccepted := upsert id (lookupD 0 id c.repairsAccepted + 1) c.repairsAccepted }).make (some e))
      (fun t => { t with repairs := addS t.repairs 64 }) fun y => { y with repairDone := y.repairDone + 1 } := by
    have hx' : (s.at t).stream? id = some x := hx
    have hnext' : (s.at t).nextBlock p x true x.repairDone (lookupD 0 id ((s.at t).cl p).repairsAccepted) = some i := hnext
    have hmake' : ((s.at t).cl p).toMake .repairBlock ((s.at t).wireId id) = some e := hmake
    have hbase' : (s.at t).localBase p id true i = base := hbase.symm
    have hdue' : ((s.at t).blockDue p ((s.at t).binding x) x ((s.at t).localBase p id true i) &&
        decide (i < ((s.at t).binding x).set.repairBlocks)) = true := by
      rw [hbase', show (s.at t).binding x = s.binding x from rfl, hdue, decide_eq_true hi]
      rfl
    refine ⟨(if (s.binding x).net.localGraph then (s.binding x).net.localCycles else (s.binding x).net.headCycles) +
      ((s.binding x).net.noiseDim + 8) + ((s.binding x).dof * ((s.binding x).net.ncp + 6) + 12), ?_⟩
    unfold State.localBlock
    rw [hx']
    dsimp only
    rw [hplan, hwindow, hnext', hmake']
    dsimp only
    rw [State.when_pos hdue', hbase']
    rfl
  obtain ⟨cycles, heq⟩ := heq
  have hlenZ : p < (s.at t).clusters.length := by
    rw [State.at_clusters]
    omega
  obtain ⟨hcount, hcs⟩ := (s.at t).localCands_parts id p base x plan w
  have hview := State.blockMade_blockView hlenZ id x (e := e) ((s.at t).localCands id p base x plan w)
    ((s.at t).localRun p base x plan w).2.1 ((s.at t).localRun p base x plan w).2.2 cycles
    (f := fun c => ({ c with repairsAccepted := upsert id (lookupD 0 id c.repairsAccepted + 1) c.repairsAccepted }).make (some e))
    (fun t => { t with repairs := addS t.repairs 64 }) (fun y => { y with repairDone := y.repairDone + 1 })
    fun _ => ⟨rfl, rfl, rfl⟩
  rw [← heq] at hview
  generalize State.localBlock id p (s.at t) = u at hrow hview
  generalize (s.at t).localCands id p base x plan w = cs at hcount hcs hview
  simp only [State.blockView, Prod.mk.injEq] at hview
  obtain ⟨h1, -, h3, -, h5, h6, h7, h8⟩ := hview
  refine ⟨_, cs, hrow, h1, hcount, hcs, h3, fun z hz => ?_, h6, h7, h8⟩
  have hfound := State.stream?_modStream (f := fun y => { y with repairDone := y.repairDone + 1 }) (by intro; rfl) id (s.at t)
  rw [show (s.at t).stream? id = some x from hx] at hfound
  have hzu := ((congrArg (List.find? fun y : Stream => y.id == id) h5).trans hfound).symm.trans hz
  obtain rfl := Option.some.inj hzu
  rfl

end

/-! ## Cost programs (R220) -/

section
variable {s : State} {id p g t : Nat} {x : Stream} {c : Cand}

/-- The marks of a cost program. -/
def State.costMarked (p g stage : Nat) (x : Stream) (b : Binding) (c : Cand) (s : State) : State :=
  (((s.bumpCl p 5 (b.costSpent x c stage).1).selEvent 0 p 0x06 2 x.tagLayer x.tagOperator (b.costSpent x c stage).2).raiseArith p
    (b.costOf x c stage).2).opDigest (if stage = 0 then 7 else 9) x.tagLayer x.tagOperator (b.wid % 256) g
      (leS 4 (b.costOf x c stage).1)

theorem State.costMarked_stillCls (s : State) (p g stage : Nat) (x : Stream) (b : Binding) (c : Cand) :
    (s.costMarked p g stage x b c).stillCls = (s.modCl p (Cluster.raise (b.costOf x c stage).2)).stillCls := by
  unfold State.costMarked
  rw [State.opDigest_stillCls, State.raiseArith_stillCls]
  exact State.modCl_stillCls_congr (by intro; rfl) ((State.selEvent_stillCls ..).trans (State.bumpCl_stillCls ..)) p

theorem State.costMarked_offWork (s : State) (p g stage : Nat) (x : Stream) (b : Binding) (c : Cand) :
    (s.costMarked p g stage x b c).offWork = s.offWork := by
  unfold State.costMarked
  rw [State.opDigest_offWork, State.raiseArith_offWork, State.selEvent_offWork]
  rfl

theorem costProgram_runs {stage : Nat} (hp : p < 64) (hid : id < 512) (hstage : stage < 2) (hx : s.stream? id = some x)
    (hwork : s.working = true) (htakes : (s.at t).takesWork p = true)
    (hc : (s.cl p).cand? id g (fun k => k.wantsCost stage) = some c) :
    exec (.costProgram p id g stage t) s = .next { (if stage = 0 then
        ((s.at t).costMarked p g stage x (s.binding x) c).modCand p id g (·.wantsCost 0) fun k => { k with
          cost0 := some ((s.binding x).costOf x c stage).1 }
      else (((s.at t).costMarked p g stage x (s.binding x) c).modCand p id g (·.wantsCost 1) fun k => { k with
          cost1 := some ((s.binding x).costOf x c stage).1 }).shortlist p
        ({ c with cost1 := some ((s.binding x).costOf x c stage).1 }.entry p)) with pending := s.pending } := by
  have hguard : (below p 64 && streamOk id && below stage 2) = true := by simp [below, streamOk, hp, hid, hstage]
  have hrow := (exec_costProgram p id g stage t s).trans (ranAt_pos hguard ..)
  have heq : State.costProgram p id g stage (s.at t) = if stage = 0 then
        ((s.at t).costMarked p g stage x (s.binding x) c).modCand p id g (·.wantsCost 0) fun k => { k with
          cost0 := some ((s.binding x).costOf x c stage).1 }
      else (((s.at t).costMarked p g stage x (s.binding x) c).modCand p id g (·.wantsCost 1) fun k => { k with
          cost1 := some ((s.binding x).costOf x c stage).1 }).shortlist p
        ({ c with cost1 := some ((s.binding x).costOf x c stage).1 }.entry p) := by
    have hx' : (s.at t).stream? id = some x := hx
    have hc' : ((s.at t).cl p).cand? id g (fun k => k.wantsCost stage) = some c := hc
    have hdue : ((s.at t).working && (s.at t).takesWork p) = true := by
      rw [show (s.at t).working = true from hwork, htakes]
      rfl
    unfold State.costProgram
    rw [hx', hc']
    dsimp only
    rw [State.when_pos hdue]
    rfl
  rw [heq] at hrow
  exact hrow

/-- What a cost program finds on its cluster behind its marks. -/
theorem State.costMarked_parts (hp : p < s.clusters.length) (g stage : Nat) (x : Stream) (b : Binding) (c : Cand) :
    ((s.costMarked p g stage x b c).cl p).cands = (s.cl p).cands ∧
      ((s.costMarked p g stage x b c).cl p).shortlists = (s.cl p).shortlists ∧
      p < (s.costMarked p g stage x b c).clusters.length := by
  have hstill := s.costMarked_stillCls p g stage x b c
  generalize s.costMarked p g stage x b c = y at hstill
  have hcl := State.still_of_stillCls hstill p
  rw [State.cl_modCl hp] at hcl
  refine ⟨(congrArg Cluster.cands hcl :), (congrArg Cluster.shortlists hcl :), ?_⟩
  rw [State.clusters_length_of_still hstill, State.clusters_length_modCl]
  exact hp

/-- A stage-0 cost stands on its candidate. -/
theorem costProgram_zero (hp : p < 64) (hid : id < 512) (hlen : s.clusters.length = 64) (hx : s.stream? id = some x)
    (hwork : s.working = true) (htakes : (s.at t).takesWork p = true)
    (hc : (s.cl p).cand? id g (fun k => k.wantsCost 0) = some c) :
    ∃ s', exec (.costProgram p id g 0 t) s = .next s' ∧
      (∃ c' ∈ (s'.cl p).cands, c'.stream = id ∧ c'.g = g ∧ c'.cp = c.cp ∧ c'.cost0 = some ((s.binding x).costOf x c 0).1) ∧
      (s'.cl p).cands.length = (s.cl p).cands.length ∧
      { s' with time := s.time, clusters := s.clusters, det := s.det } = s := by
  have hrow := costProgram_runs hp hid Nat.two_pos hx hwork htakes hc
  rw [if_pos rfl] at hrow
  obtain ⟨hcands, -, hlenY⟩ := State.costMarked_parts (s := s.at t) (p := p) (by rw [State.at_clusters]; omega) g 0 x (s.binding x) c
  have hoff := (s.at t).costMarked_offWork p g 0 x (s.binding x) c
  generalize (s.at t).costMarked p g 0 x (s.binding x) c = y at hrow hcands hlenY hoff
  generalize ((s.binding x).costOf x c 0).1 = v at hrow ⊢
  have hcl := State.cl_modCand hlenY id g (fun k => k.wantsCost 0) fun k => { k with cost0 := some v }
  have hoffU : (y.modCand p id g (fun k => k.wantsCost 0) fun k => { k with cost0 := some v }).offWork = (s.at t).offWork := hoff
  generalize (y.modCand p id g (fun k => k.wantsCost 0) fun k => { k with cost0 := some v }) = u at hrow hcl hoffU
  have hframe := State.frame_of_offWork hoffU
  have hlist : (u.cl p).cands = modFirst (Cand.isOf id g fun k => k.wantsCost 0) (fun k => { k with cost0 := some v })
      (s.cl p).cands := by
    rw [hcl]
    exact congrArg (modFirst _ _) hcands
  obtain ⟨hcs, hcg, -, -⟩ := Cluster.cand?_some hc
  refine ⟨_, hrow, ⟨{ c with cost0 := some v }, ?_, hcs, hcg, rfl, rfl⟩, ?_, hframe⟩
  · change _ ∈ (u.cl p).cands
    rw [hlist]
    exact mem_modFirst (fun k => { k with cost0 := some v }) hc
  · change (u.cl p).cands.length = _
    rw [hlist, modFirst_length]

/-- A stage-1 cost stands on its candidate and brings it into its query's shortlist. -/
theorem costProgram_one (hp : p < 64) (hid : id < 512) (hlen : s.clusters.length = 64) (hx : s.stream? id = some x)
    (hwork : s.working = true) (htakes : (s.at t).takesWork p = true)
    (hc : (s.cl p).cand? id g (fun k => k.wantsCost 1) = some c) :
    ∃ s', exec (.costProgram p id g 1 t) s = .next s' ∧
      (∃ c' ∈ (s'.cl p).cands, c'.stream = id ∧ c'.g = g ∧ c'.cp = c.cp ∧ c'.cost1 = some ((s.binding x).costOf x c 1).1) ∧
      lookupD [] id (s'.cl p).shortlists = lowest4 (lookupD [] id (s.cl p).shortlists ++
        [Cand.entry { c with cost1 := some ((s.binding x).costOf x c 1).1 } p]) ∧
      { s' with time := s.time, clusters := s.clusters, det := s.det } = s := by
  have hrow := costProgram_runs hp hid Nat.one_lt_two hx hwork htakes hc
  rw [if_neg Nat.one_ne_zero] at hrow
  obtain ⟨hcands, hshort, hlenY⟩ :=
    State.costMarked_parts (s := s.at t) (p := p) (by rw [State.at_clusters]; omega) g 1 x (s.binding x) c
  have hoff := (s.at t).costMarked_offWork p g 1 x (s.binding x) c
  generalize (s.at t).costMarked p g 1 x (s.binding x) c = y at hrow hcands hshort hlenY hoff
  generalize ((s.binding x).costOf x c 1).1 = v at hrow ⊢
  have hcl := State.cl_modCand hlenY id g (fun k => k.wantsCost 1) fun k => { k with cost1 := some v }
  have hlenZ : p < (y.modCand p id g (fun k => k.wantsCost 1) fun k => { k with cost1 := some v }).clusters.length :=
    (State.clusters_length_modCl y p _).symm ▸ hlenY
  have hoffZ : (y.modCand p id g (fun k => k.wantsCost 1) fun k => { k with cost1 := some v }).offWork = (s.at t).offWork := hoff
  generalize (y.modCand p id g (fun k => k.wantsCost 1) fun k => { k with cost1 := some v }) = z at hrow hcl hlenZ hoffZ
  obtain ⟨hcs, hcg, -, -⟩ := Cluster.cand?_some hc
  have hstream : (({ c with cost1 := some v } : Cand).entry p).stream = id := hcs
  generalize ({ c with cost1 := some v } : Cand).entry p = en at hrow hstream ⊢
  have hclU : ((z.shortlist p en).cl p).cands = (z.cl p).cands ∧ ((z.shortlist p en).cl p).shortlists =
      upsert en.stream (lowest4 (lookupD [] en.stream (z.cl p).shortlists ++ [en])) (z.cl p).shortlists := by
    unfold State.shortlist
    rw [State.cl_modCl hlenZ]
    exact ⟨rfl, rfl⟩
  have hoffU : (z.shortlist p en).offWork = (s.at t).offWork := hoffZ
  generalize z.shortlist p en = u at hrow hclU hoffU
  obtain ⟨huc, hus⟩ := hclU
  have hframe := State.frame_of_offWork hoffU
  have hlist : (u.cl p).cands = modFirst (Cand.isOf id g fun k => k.wantsCost 1) (fun k => { k with cost1 := some v })
      (s.cl p).cands := by
    rw [huc, hcl]
    exact congrArg (modFirst _ _) hcands
  have hzs : (z.cl p).shortlists = (s.cl p).shortlists := by
    rw [hcl]
    exact hshort
  refine ⟨_, hrow, ⟨{ c with cost1 := some v }, ?_, hcs, hcg, rfl, rfl⟩, ?_, hframe⟩
  · change _ ∈ (u.cl p).cands
    rw [hlist]
    exact mem_modFirst (fun k => { k with cost1 := some v }) hc
  · change lookupD [] id (u.cl p).shortlists = _
    rw [hus, hstream, lookupD_upsert_same, hzs]

end

/-! ## A sort by a key -/

theorem insertBy_perm {α : Type} (lt : α → α → Bool) (x : α) : ∀ l, (insertBy lt x l).Perm (x :: l)
  | [] => .refl _
  | y :: l => by
    unfold insertBy
    split
    · exact .refl _
    · exact ((insertBy_perm lt x l).cons y).trans (.swap x y l)

theorem insertBy_sorted {α : Type} {lt : α → α → Bool} {key : α → Int} (hlt : ∀ a b, lt a b = true → key a ≤ key b)
    (hge : ∀ a b, lt a b = false → key b ≤ key a) (x : α) {l : List α} (h : l.Pairwise fun a b => key a ≤ key b) :
    (insertBy lt x l).Pairwise fun a b => key a ≤ key b := by
  induction l with
  | nil => exact List.pairwise_singleton ..
  | cons y l ih =>
    obtain ⟨hy, hl⟩ := List.pairwise_cons.mp h
    unfold insertBy
    split
    · next hxy =>
      refine List.pairwise_cons.mpr ⟨List.forall_mem_cons.mpr ⟨hlt x y hxy, fun z hz => ?_⟩, h⟩
      exact (hlt x y hxy).trans (hy z hz)
    · next hxy =>
      refine List.pairwise_cons.mpr ⟨fun z hz => ?_, ih hl⟩
      obtain rfl | hz := List.mem_cons.mp ((insertBy_perm lt x l).mem_iff.mp hz)
      · exact hge z y (Bool.eq_false_iff.mpr hxy)
      · exact hy z hz

/-- A sort keeps its elements, and orders them by any key that its test respects. -/
theorem sortBy_parts {α : Type} {lt : α → α → Bool} {key : α → Int} (hlt : ∀ a b, lt a b = true → key a ≤ key b)
    (hge : ∀ a b, lt a b = false → key b ≤ key a) (l : List α) :
    (sortBy lt l).Perm l ∧ (sortBy lt l).Pairwise fun a b => key a ≤ key b := by
  have hfold (l acc : List α) (hacc : acc.Pairwise fun a b => key a ≤ key b) :
      (l.foldl (fun acc x => insertBy lt x acc) acc).Perm (acc ++ l) ∧
        (l.foldl (fun acc x => insertBy lt x acc) acc).Pairwise fun a b => key a ≤ key b := by
    induction l generalizing acc with
    | nil =>
      rw [List.append_nil]
      exact ⟨.refl _, hacc⟩
    | cons x l ih =>
      obtain ⟨hperm, hsorted⟩ := ih (insertBy lt x acc) (insertBy_sorted hlt hge x hacc)
      exact ⟨hperm.trans (((insertBy_perm lt x acc).append_right l).trans List.perm_middle.symm), hsorted⟩
  exact hfold l [] List.Pairwise.nil

end Sys2Proof.Machine
end

section
/-!
SUPPORT. The pre-rank cut, and the obligation on proposal and cost (R139, R147-R155, R220, R222).
-/
namespace Sys2Proof.Machine

/-! ## The candidates of a cut -/

/-- The order of the cut (R222). -/
def Cand.cutBefore (a k : Cand) : Bool :=
  a.cost0.getD 0 < k.cost0.getD 0 || a.cost0 == k.cost0 && (a.g < k.g || a.g == k.g && decide (a.origin < k.origin))

/-- A proposed candidate of a stream. -/
def Cand.proposedOf (id : Nat) (k : Cand) : Bool := k.stream == id && decide (k.origin < 2)

/-- The candidates that a cut chooses from, and those that it keeps. -/
def cutMine (id : Nat) (l : List Cand) : List Cand := l.filter fun k => k.proposedOf id && k.cost0.isSome

def cutKept (id n : Nat) (l : List Cand) : List Cand := (sortBy Cand.cutBefore (cutMine id l)).take n

/-- A kept candidate, ready for smoothing. -/
def Binding.cutReady (b : Binding) (k : Cand) : Cand := { k with selected := true, solver := (b.setup k).1 }

/-- A cluster's candidates after the cut. -/
def Binding.cutList (b : Binding) (id : Nat) (l : List Cand) : List Cand :=
  (l.filter fun k => k.stream != id || decide (2 ≤ k.origin)) ++ (cutKept id b.set.prerankK l).map b.cutReady

theorem cutBefore_key {a k : Cand} :
    (a.cutBefore k = true → a.cost0.getD 0 ≤ k.cost0.getD 0) ∧ (a.cutBefore k = false → k.cost0.getD 0 ≤ a.cost0.getD 0) := by
  unfold Cand.cutBefore
  refine ⟨fun h => ?_, fun h => ?_⟩
  · obtain h | h := Bool.or_eq_true_iff.mp h
    · exact (of_decide_eq_true h).le
    · rw [beq_iff_eq.mp (Bool.and_eq_true_iff.mp h).1]
  · exact not_lt.mp (of_decide_eq_false (Bool.or_eq_false_iff.mp h).1)

theorem cut_sorted (id : Nat) (l : List Cand) : (sortBy Cand.cutBefore (cutMine id l)).Perm (cutMine id l) ∧
    (sortBy Cand.cutBefore (cutMine id l)).Pairwise fun a k => a.cost0.getD 0 ≤ k.cost0.getD 0 :=
  sortBy_parts (key := fun k : Cand => k.cost0.getD 0) (fun _ _ => cutBefore_key.1) (fun _ _ => cutBefore_key.2) _

theorem mem_cutMine {id : Nat} {l : List Cand} {k : Cand} :
    k ∈ cutMine id l ↔ k ∈ l ∧ k.stream = id ∧ k.origin < 2 ∧ k.cost0.isSome = true := by
  simp [cutMine, Cand.proposedOf, and_assoc]

theorem cutKept_mine {id n : Nat} {l : List Cand} {k : Cand} (h : k ∈ cutKept id n l) : k ∈ cutMine id l :=
  (cut_sorted id l).1.mem_iff.mp (List.mem_of_mem_take h)

/-- A chosen candidate costs no more than one that is not. -/
theorem cutKept_cheaper {id n : Nat} {l : List Cand} {k r : Cand} (hk : k ∈ cutKept id n l) (hr : r ∈ cutMine id l)
    (hout : r ∉ cutKept id n l) : k.cost0.getD 0 ≤ r.cost0.getD 0 := by
  obtain ⟨hperm, hsorted⟩ := cut_sorted id l
  have hmem := hperm.mem_iff.mpr hr
  unfold cutKept at hk hout
  generalize sortBy Cand.cutBefore (cutMine id l) = m at hk hout hsorted hmem
  rw [← List.take_append_drop n m] at hsorted hmem
  obtain hin | hin := List.mem_append.mp hmem
  · exact absurd hin hout
  · exact (List.pairwise_append.mp hsorted).2.2 k hk r hin

section
variable {b : Binding} {id : Nat} {l : List Cand} {k : Cand}

theorem mem_cutList : k ∈ b.cutList id l ↔ (k ∈ l ∧ (k.stream ≠ id ∨ 2 ≤ k.origin)) ∨
    ∃ c ∈ cutKept id b.set.prerankK l, k = b.cutReady c := by
  unfold Binding.cutList
  rw [List.mem_append, List.mem_filter, List.mem_map]
  refine or_congr (and_congr_right fun _ => ?_) (exists_congr fun c => and_congr_right fun _ => eq_comm)
  simp

/-- A proposed candidate behind the cut is a kept one. -/
theorem cutList_proposed (hk : k ∈ b.cutList id l) (hs : k.stream = id) (ho : k.origin < 2) :
    ∃ c ∈ cutKept id b.set.prerankK l, k = b.cutReady c := by
  obtain ⟨-, h | h⟩ | h := mem_cutList.mp hk
  · exact absurd hs h
  · omega
  · exact h

theorem cutList_other (hs : k.stream ≠ id) : k ∈ b.cutList id l ↔ k ∈ l := by
  rw [mem_cutList]
  refine ⟨fun h => ?_, fun h => .inl ⟨h, .inl hs⟩⟩
  obtain ⟨h, -⟩ | ⟨c, hc, rfl⟩ := h
  · exact h
  · exact absurd (mem_cutMine.mp (cutKept_mine hc)).2.1 hs

theorem cutList_count (b : Binding) (id : Nat) (l : List Cand) :
    ((b.cutList id l).filter fun k => k.stream == id && decide (k.origin < 2)).length =
      min b.set.prerankK (l.filter fun k => k.stream == id && decide (k.origin < 2) && k.cost0.isSome).length := by
  have hnone : (l.filter fun k => k.stream != id || decide (2 ≤ k.origin)).filter
      (fun k => k.stream == id && decide (k.origin < 2)) = [] := by
    refine List.filter_eq_nil_iff.mpr fun k hk => ?_
    have hout := (List.mem_filter.mp hk).2
    simp only [Bool.or_eq_true, bne_iff_ne, decide_eq_true_eq, Bool.and_eq_true, beq_iff_eq, not_and, not_lt] at hout ⊢
    exact fun hs => hout.resolve_left (not_not.mpr hs)
  have hall : ((cutKept id b.set.prerankK l).map b.cutReady).filter (fun k => k.stream == id && decide (k.origin < 2)) =
      (cutKept id b.set.prerankK l).map b.cutReady := by
    refine List.filter_eq_self.mpr fun k hk => ?_
    obtain ⟨c, hc, rfl⟩ := List.mem_map.mp hk
    obtain ⟨-, hs, ho, -⟩ := mem_cutMine.mp (cutKept_mine hc)
    exact Bool.and_eq_true_iff.mpr ⟨beq_iff_eq.mpr hs, decide_eq_true ho⟩
  unfold Binding.cutList
  rw [List.filter_append, hnone, hall, List.nil_append, List.length_map]
  unfold cutKept
  rw [List.length_take, (cut_sorted id l).1.length_eq]
  rfl

end

/-! ## TOPK_CUT -/

section
variable {s : State} {id p t : Nat} {x : Stream}

/-- A cluster behind a cut that kept some candidates. -/
def Cluster.cut (b : Binding) (id : Nat) (kept : List Cand) (c : Cluster) : Cluster :=
  { c with
    cutDone := c.cutDone ++ [id],
    cands := (c.cands.filter fun k => k.stream != id || decide (2 ≤ k.origin)) ++ kept.map b.cutReady }

theorem topkCut_cuts (hp : p < 64) (hid : id < 512) (hlen : s.clusters.length = 64) (hx : s.stream? id = some x)
    (hwork : s.working = true) (htakes : (s.at t).takesWork p = true) (haccepted : s.allAccepted x = true)
    (hready : (s.cl p).cutReady id (s.binding x).wid = true) (hnot : id ∉ (s.cl p).cutDone)
    (hsome : ∃ k ∈ (s.cl p).cands, k.stream = id ∧ k.origin < 2) :
    ∃ s', exec (.topkCut p id t) s = .next s' ∧ id ∈ (s'.cl p).cutDone ∧
      (s'.cl p).cands = (s.binding x).cutList id (s.cl p).cands ∧
      { s' with time := s.time, clusters := s.clusters, det := s.det } = s := by
  have hguard : (below p 64 && streamOk id) = true := by simp [below, streamOk, hp, hid]
  have hrow := (exec_topkCut p id t s).trans (ranAt_pos hguard ..)
  have hlenZ : p < (s.at t).clusters.length := by
    rw [State.at_clusters]
    omega
  have heq : ∃ flags n out, State.topkCut p id (s.at t) = ((((s.at t).modCl p (Cluster.cut (s.binding x) id
      (cutKept id (s.binding x).set.prerankK (s.cl p).cands))).raiseArith p flags).opDigest 7 x.tagLayer x.tagOperator
        ((s.binding x).wid % 256) p out).tallyOn p id fun t => { t with smoothed := addS t.smoothed n } := by
    have hx' : (s.at t).stream? id = some x := hx
    have hnot' : ((s.at t).cl p).cutDone.contains id = false :=
      Bool.eq_false_iff.mpr fun h => hnot (List.contains_iff_mem.mp h)
    have hany : (((s.at t).cl p).cands.any fun k => k.stream == id && decide (k.origin < 2)) = true := by
      obtain ⟨k, hk, hs, ho⟩ := hsome
      exact List.any_eq_true.mpr ⟨k, hk, Bool.and_eq_true_iff.mpr ⟨beq_iff_eq.mpr hs, decide_eq_true ho⟩⟩
    have hdue : ((s.at t).working && (s.at t).takesWork p && (s.at t).allAccepted x &&
        ((s.at t).cl p).cutReady id ((s.at t).binding x).wid && !((s.at t).cl p).cutDone.contains id &&
        ((s.at t).cl p).cands.any fun k => k.stream == id && decide (k.origin < 2)) = true := by
      rw [show (s.at t).working = true from hwork, htakes, show (s.at t).allAccepted x = true from haccepted,
        show ((s.at t).cl p).cutReady id ((s.at t).binding x).wid = true from hready, hnot', hany]
      rfl
    refine ⟨(cutKept id (s.binding x).set.prerankK (s.cl p).cands).foldl (fun f k => f ||| ((s.binding x).setup k).2) 0,
      (cutKept id (s.binding x).set.prerankK (s.cl p).cands).length,
      (cutKept id (s.binding x).set.prerankK (s.cl p).cands).flatMap fun k => le 4 k.g, ?_⟩
    unfold State.topkCut
    rw [hx']
    dsimp only
    rw [State.when_pos hdue]
    rfl
  obtain ⟨flags, n, out, heq⟩ := heq
  rw [heq] at hrow
  generalize hkept : cutKept id (s.binding x).set.prerankK (s.cl p).cands = kept at hrow
  have hcut := State.cl_modCl hlenZ (Cluster.cut (s.binding x) id kept)
  have hlenY : p < ((s.at t).modCl p (Cluster.cut (s.binding x) id kept)).clusters.length :=
    (State.clusters_length_modCl (s.at t) p _).symm ▸ hlenZ
  have hoffY : ((s.at t).modCl p (Cluster.cut (s.binding x) id kept)).offWork = (s.at t).offWork := rfl
  generalize (s.at t).modCl p (Cluster.cut (s.binding x) id kept) = y at hrow hcut hlenY hoffY
  have hstill : ((y.raiseArith p flags).opDigest 7 x.tagLayer x.tagOperator ((s.binding x).wid % 256) p out).stillCls =
      (y.modCl p (Cluster.raise flags)).stillCls := (State.opDigest_stillCls ..).trans (State.raiseArith_stillCls ..)
  have hoffZ : ((y.raiseArith p flags).opDigest 7 x.tagLayer x.tagOperator ((s.binding x).wid % 256) p out).offWork =
      (s.at t).offWork := ((State.opDigest_offWork ..).trans (State.raiseArith_offWork ..)).trans hoffY
  generalize (y.raiseArith p flags).opDigest 7 x.tagLayer x.tagOperator ((s.binding x).wid % 256) p out = z at hrow hstill hoffZ
  have hclZ := State.still_of_stillCls hstill p
  rw [State.cl_modCl hlenY] at hclZ
  have hlenW : p < z.clusters.length := by
    rw [State.clusters_length_of_still hstill, State.clusters_length_modCl]
    exact hlenY
  have hclU : ((z.tallyOn p id fun t => { t with smoothed := addS t.smoothed n }).cl p).cands = (z.cl p).cands ∧
      ((z.tallyOn p id fun t => { t with smoothed := addS t.smoothed n }).cl p).cutDone = (z.cl p).cutDone := by
    unfold State.tallyOn
    rw [State.cl_modCl hlenW]
    exact ⟨rfl, rfl⟩
  have hoffU : (z.tallyOn p id fun t => { t with smoothed := addS t.smoothed n }).offWork = (s.at t).offWork := hoffZ
  generalize (z.tallyOn p id fun t => { t with smoothed := addS t.smoothed n }) = u at hrow hclU hoffU
  obtain ⟨huc, hud⟩ := hclU
  have hframe := State.frame_of_offWork hoffU
  refine ⟨_, hrow, ?_, ?_, hframe⟩
  · change id ∈ (u.cl p).cutDone
    rw [hud, show (z.cl p).cutDone = (y.cl p).cutDone from (congrArg Cluster.cutDone hclZ :), hcut]
    exact List.mem_append_right _ List.mem_cons_self
  · change (u.cl p).cands = _
    rw [huc, show (z.cl p).cands = (y.cl p).cands from (congrArg Cluster.cands hclZ :), hcut]
    unfold Binding.cutList
    rw [hkept]
    rfl

end

/-- Settles O36: CONTEXT, the two kinds of block, the two stages of a cost program, and the cut, each by its own rule. -/
theorem proposalAndCost : Obligations.ProposalAndCost := by
  unfold Obligations.ProposalAndCost
  refine ⟨fun s id p x t hp hid hlen hx => ⟨?_, contextRun_nothing hp hid hx, ?_, ?_⟩,
    fun s id p g x t hp hid hlen hx hwork htakes => ⟨?_, ?_, ?_⟩⟩
  · exact fun e hwork htakes hstack hworks => contextRun_runs hp hid hlen hx hwork htakes hstack hworks
  · exact fun i base e hnext hmake hbase hdue => headBlock_makes hp hid hlen hx hnext hmake hbase hdue
  · exact fun plan w i base e hplan hwindow hnext hmake hbase hdue =>
      localBlock_makes hp hid hlen hx hplan hwindow hnext hmake hbase hdue
  · exact fun c hc => costProgram_zero hp hid hlen hx hwork htakes hc
  · exact fun c hc => costProgram_one hp hid hlen hx hwork htakes hc
  · intro haccepted hready hnot hsome
    obtain ⟨s', hrow, hdone, hlist, hframe⟩ := topkCut_cuts hp hid hlen hx hwork htakes haccepted hready hnot hsome
    refine ⟨s', hrow, hdone, ?_⟩
    rw [hlist]
    refine ⟨fun k hs => cutList_other hs, fun k hk hs ho => ?_, cutList_count .., fun k hk hs ho r hr hrs hro hcost
      hout => ?_, hframe⟩
    · obtain ⟨c, hc, rfl⟩ := cutList_proposed hk hs ho
      exact ⟨rfl, (mem_cutMine.mp (cutKept_mine hc)).2.2.2⟩
    · obtain ⟨c, hc, rfl⟩ := cutList_proposed hk hs ho
      have hdropped : r ∉ cutKept id (s.binding x).set.prerankK (s.cl p).cands := fun hin =>
        hout ((s.binding x).cutReady r) (mem_cutList.mpr (.inr ⟨r, hin, rfl⟩)) hrs rfl rfl
      have hcheaper := cutKept_cheaper hc (mem_cutMine.mpr ⟨hr, hrs, hro, hcost⟩) hdropped
      exact hcheaper

end Sys2Proof.Machine
end

section
/-!
SUPPORT. The background memory test (R284, R285): the march of a region, its faults, and the steps that wait.
-/
namespace Sys2Proof.Machine

/-! ## A march -/

/-- The state with the test part of cluster `p` and the SRAM rewritten. -/
def State.withTest (p : Nat) (x : ClusterTest) (m : Mem) (s : State) : State :=
  { s.modCl p fun c => { c with test := x } with sram := m }

theorem State.modCl_modCl (p : Nat) (f g : Cluster → Cluster) (s : State) :
    (s.modCl p f).modCl p g = s.modCl p fun c => g (f c) := by
  have h : (s.clusters.modify p f).modify p g = s.clusters.modify p fun c => g (f c) := List.modify_modify_eq ..
  change { s with clusters := (s.clusters.modify p f).modify p g } = _
  rw [h]
  rfl

theorem State.modCl_self {p : Nat} {s : State} {f : Cluster → Cluster} (h : f (s.cl p) = s.cl p) : s.modCl p f = s := by
  have hl : s.clusters.modify p f = s.clusters := by
    refine List.ext_getElem? fun i => ?_
    rw [List.getElem?_modify]
    split
    · next hi =>
      subst hi
      cases hc : s.clusters[p]? with
      | none => rfl
      | some c =>
        have hcl : s.cl p = c := by simp [State.cl, List.getD, hc]
        rw [hcl] at h
        exact congrArg some h
    · simp
  change { s with clusters := s.clusters.modify p f } = s
  rw [hl]

theorem State.withTest_self (p : Nat) (s : State) : s.withTest p (s.cl p).test s.sram = s := by
  have h : s.modCl p (fun c => { c with test := (s.cl p).test }) = s := State.modCl_self rfl
  unfold State.withTest
  rw [h]

theorem State.withTest_cl {p : Nat} {s : State} (hp : p < s.clusters.length) (x : ClusterTest) (m : Mem) :
    (s.withTest p x m).cl p = { s.cl p with test := x } := State.cl_modCl hp _

theorem State.withTest_cl_ne {p q : Nat} (h : q ≠ p) (x : ClusterTest) (m : Mem) (s : State) :
    (s.withTest p x m).cl q = s.cl q := State.cl_modCl_ne h _

theorem State.modTest_withTest (p : Nat) (f : ClusterTest → ClusterTest) (x : ClusterTest) (m : Mem) (s : State) :
    (s.withTest p x m).modCl p (fun c => { c with test := f c.test }) = s.withTest p (f x) m := by
  have h := State.modCl_modCl p (fun c => { c with test := x }) (fun c => { c with test := f c.test }) s
  exact congrArg (fun y : State => { y with sram := m }) h

/-- The rows of a region, written back one by one. -/
def regionBack (rows : List Nat) (back : List Byte) (m : Mem) (i : Nat) : Mem :=
  Mem.writeBytes (rows.getD i 0) (slice back (8 * i) 8) m

theorem State.foldl_sramWrite (rows : List Nat) (back : List Byte) (l : List Nat) (s : State) :
    l.foldl (fun s i => s.sramWrite (rows.getD i 0) (slice back (8 * i) 8)) s =
      { s with sram := l.foldl (regionBack rows back) s.sram } := by
  induction l generalizing s with
  | nil => rfl
  | cons i l ih => exact (ih _).trans rfl

theorem Mem.readBytes_getElem (m : Mem) : ∀ (n a i : Nat) (h : i < (Mem.readBytes m a n).length),
    (Mem.readBytes m a n)[i] = Mem.read (a + i) m
  | 0, _, _, h => absurd h (by simp [Mem.readBytes])
  | _ + 1, _, 0, _ => rfl
  | n + 1, a, i + 1, h => by
    have := Mem.readBytes_getElem m n (a + 1) i (by simpa [Mem.readBytes] using h)
    rw [Nat.add_assoc, Nat.add_comm 1 i] at this
    exact this

/-- Bytes that an equal memory reads are written back: no byte changes. -/
theorem Mem.read_writeBytes_back {m m' : Mem} (hwf : m'.wf = true) (hread : ∀ a, Mem.read a m' = Mem.read a m) (a n x : Nat) :
    Mem.read x (Mem.writeBytes a (Mem.readBytes m a n) m') = Mem.read x m := by
  by_cases hx : x < a ∨ a + (Mem.readBytes m a n).length ≤ x
  · rw [Mem.read_writeBytes_out x _ a m' hwf hx]
    exact hread x
  · have hlt : x - a < (Mem.readBytes m a n).length := by omega
    have hin := Mem.read_writeBytes_in (Mem.readBytes m a n) a (x - a) m' hwf hlt
    have hxa : a + (x - a) = x := by omega
    rw [Mem.readBytes_getElem, hxa] at hin
    exact hin

/-- The bytes of a list of rows, row by row. -/
theorem slice_rows {rows : List Nat} (m : Mem) {i : Nat} (h : i < rows.length) :
    slice (rows.flatMap fun a => Mem.readBytes m a 8) (8 * i) 8 = Mem.readBytes m (rows.getD i 0) 8 := by
  induction rows generalizing i with
  | nil => exact absurd h (by simp)
  | cons a l ih =>
    cases i with
    | zero => exact slice_append_left (Mem.length_readBytes ..)
    | succ i =>
      have hle : (Mem.readBytes m a 8).length ≤ 8 * (i + 1) := by rw [Mem.length_readBytes]; omega
      have hoff : 8 * (i + 1) - (Mem.readBytes m a 8).length = 8 * i := by rw [Mem.length_readBytes]; omega
      rw [List.flatMap_cons, slice_append_right hle, hoff]
      exact ih (by simpa using h)

theorem length_rows (rows : List Nat) (m : Mem) : (rows.flatMap fun a => Mem.readBytes m a 8).length = 8 * rows.length := by
  induction rows with
  | nil => rfl
  | cons a l ih => rw [List.flatMap_cons, List.length_append, ih, Mem.length_readBytes, List.length_cons]; omega

/-- The rows written back read as before. -/
theorem foldl_regionBack {rows : List Nat} {m : Mem} (l : List Nat) (hl : ∀ i ∈ l, i < rows.length) (m' : Mem)
    (hwf : m'.wf = true) (hread : ∀ a, Mem.read a m' = Mem.read a m) :
    (l.foldl (regionBack rows (rows.flatMap fun a => Mem.readBytes m a 8)) m').wf = true ∧
      ∀ a, Mem.read a (l.foldl (regionBack rows (rows.flatMap fun a => Mem.readBytes m a 8)) m') = Mem.read a m := by
  induction l generalizing m' with
  | nil => exact ⟨hwf, hread⟩
  | cons i l ih =>
    have hback : regionBack rows (rows.flatMap fun a => Mem.readBytes m a 8) m' i =
        Mem.writeBytes (rows.getD i 0) (Mem.readBytes m (rows.getD i 0) 8) m' := by
      unfold regionBack
      rw [slice_rows m (hl i (List.mem_cons_self ..))]
    rw [List.foldl_cons, hback]
    exact ih (fun j hj => hl j (List.mem_cons_of_mem _ hj)) _ (Mem.writeBytes_wf _ _ _ hwf)
      (Mem.read_writeBytes_back hwf hread _ _)

/-- The step spare takes the bytes of the region. -/
def State.spared (p spare : Nat) (bs : List Byte) (s : State) : State :=
  s.modCl p fun c => { c with test := { c.test with spares := Mem.writeBytes spare bs c.test.spares } }

theorem State.march_eq {p r spare : Nat} {bs back : List Byte} {s : State}
    (hspare : r / 256 * 512 + (s.cl p).test.sparesUsed.getD (r / 256) 0 % 2 * 256 = spare)
    (hbs : ((regionRows p r).flatMap fun a => Mem.readBytes s.sram a 8) = bs)
    (hback : Mem.readBytes ((s.spared p spare bs).cl p).test.spares spare 256 = back) :
    s.march p r = { s.spared p spare bs with sram := (List.range 32).foldl (regionBack (regionRows p r) back) s.sram } := by
  subst hspare hbs hback
  exact State.foldl_sramWrite _ _ _ _

/-- A march writes a step spare and writes the region back as it was (R284). -/
theorem State.march_withTest {p : Nat} {s : State} (hp : p < s.clusters.length) (r : Nat) (x : ClusterTest) (m : Mem) :
    ∃ sp m', (s.withTest p x m).march p r = s.withTest p { x with spares := sp } m' ∧
      (m.wf = true → Mem.wf x.spares = true → m'.wf = true ∧ Mem.wf sp = true ∧ ∀ a, Mem.read a m' = Mem.read a m) := by
  have hcl : (s.withTest p x m).cl p = { s.cl p with test := x } := State.withTest_cl hp x m
  have hlen : (regionRows p r).length = 32 := by simp [regionRows]
  have hbytes : ((regionRows p r).flatMap fun a => Mem.readBytes m a 8).length = 256 := by rw [length_rows, hlen]
  generalize hspare : r / 256 * 512 + x.sparesUsed.getD (r / 256) 0 % 2 * 256 = spare
  generalize hbs : ((regionRows p r).flatMap fun a => Mem.readBytes m a 8) = bs at hbytes
  refine ⟨Mem.writeBytes spare bs x.spares,
    (List.range 32).foldl (regionBack (regionRows p r) (Mem.readBytes (Mem.writeBytes spare bs x.spares) spare 256)) m, ?_, ?_⟩
  · have hsp : (s.withTest p x m).spared p spare bs = s.withTest p { x with spares := Mem.writeBytes spare bs x.spares } m :=
      State.modTest_withTest p (fun y => { y with spares := Mem.writeBytes spare bs y.spares }) x m s
    have hplace : r / 256 * 512 + ((s.withTest p x m).cl p).test.sparesUsed.getD (r / 256) 0 % 2 * 256 = spare := by
      rw [hcl]
      exact hspare
    have hback : Mem.readBytes (((s.withTest p x m).spared p spare bs).cl p).test.spares spare 256 =
        Mem.readBytes (Mem.writeBytes spare bs x.spares) spare 256 := by
      rw [hsp, State.withTest_cl hp]
    have hmarch := State.march_eq hplace hbs hback
    rw [hsp] at hmarch
    exact hmarch
  · intro hm hsp
    have hback : Mem.readBytes (Mem.writeBytes spare bs x.spares) spare 256 = bs := by
      rw [← hbytes]
      exact Mem.readBytes_writeBytes bs spare x.spares hsp
    rw [hback, ← hbs]
    obtain ⟨hwf, hread⟩ := foldl_regionBack (rows := regionRows p r) (List.range 32)
      (fun i hi => hlen ▸ List.mem_range.mp hi) m hm fun _ => rfl
    exact ⟨hwf, Mem.writeBytes_wf _ _ _ hsp, hread⟩

/-! ## A run -/

/-- What a run of the test without a fault leaves in the cluster. -/
def ClusterTest.marched (x : ClusterTest) (region : Nat) (sp : Mem) : ClusterTest := { x with bgtRegion := region, spares := sp }

/-- A run without a fault: the region advances, and no byte of the scratchpads changes. -/
theorem State.bgtRun_clean {p : Nat} {s : State} (hp : p < s.clusters.length) (x : ClusterTest) (m : Mem) :
    ∃ sp m', (s.withTest p x m).bgtRun p false = s.withTest p (x.marched ((x.bgtRegion + 1) % 16384) sp) m' ∧
      (m.wf = true → Mem.wf x.spares = true → m'.wf = true ∧ Mem.wf sp = true ∧ ∀ a, Mem.read a m' = Mem.read a m) := by
  have hcl : (s.withTest p x m).cl p = { s.cl p with test := x } := State.withTest_cl hp x m
  by_cases hskip : x.sparesUsed.getD (x.bgtRegion / 256) 0 < 2
  · obtain ⟨sp, m', hmarch, hkeep⟩ := State.march_withTest hp x.bgtRegion x m
    refine ⟨sp, m', ?_, hkeep⟩
    unfold State.bgtRun
    rw [hcl]
    dsimp only
    rw [if_pos hskip, if_neg Bool.false_ne_true, hmarch]
    exact State.modTest_withTest p (fun y => { y with bgtRegion := (y.bgtRegion + 1) % 16384 }) _ m' s
  · refine ⟨x.spares, m, ?_, fun hm hsp => ⟨hm, hsp, fun _ => rfl⟩⟩
    unfold State.bgtRun
    rw [hcl]
    dsimp only
    rw [if_neg hskip]
    exact State.modTest_withTest p (fun y => { y with bgtRegion := (y.bgtRegion + 1) % 16384 }) x m s

/-- The steps that waited without a fault run, one after the other. -/
theorem State.foldl_bgtRun_clean {p : Nat} {s : State} (hp : p < s.clusters.length) (l : List Bool) (hl : ∀ f ∈ l, f = false)
    (x : ClusterTest) (m : Mem) (hx : x.bgtRegion < 16384) :
    ∃ sp m', l.foldl (fun s f => s.bgtRun p f) (s.withTest p x m) =
        s.withTest p (x.marched ((x.bgtRegion + l.length) % 16384) sp) m' ∧
      (m.wf = true → Mem.wf x.spares = true → m'.wf = true ∧ Mem.wf sp = true ∧ ∀ a, Mem.read a m' = Mem.read a m) := by
  induction l generalizing x m with
  | nil =>
    refine ⟨x.spares, m, ?_, fun hm hsp => ⟨hm, hsp, fun _ => rfl⟩⟩
    have hreg : (x.bgtRegion + 0) % 16384 = x.bgtRegion := Nat.mod_eq_of_lt hx
    change s.withTest p x m = s.withTest p (x.marched ((x.bgtRegion + 0) % 16384) x.spares) m
    rw [hreg]
    rfl
  | cons f l ih =>
    have hf : f = false := hl f (List.mem_cons_self ..)
    subst hf
    obtain ⟨sp, m', hrun, hkeep⟩ := State.bgtRun_clean hp x m
    obtain ⟨sp', m'', hrest, hkeep'⟩ := ih (fun g hg => hl g (List.mem_cons_of_mem _ hg))
      (x.marched ((x.bgtRegion + 1) % 16384) sp) m' (Nat.mod_lt _ (by decide))
    refine ⟨sp', m'', ?_, fun hm hsp => ?_⟩
    · rw [List.foldl_cons, hrun, hrest]
      have hreg : ((x.bgtRegion + 1) % 16384 + l.length) % 16384 = (x.bgtRegion + (false :: l).length) % 16384 := by
        rw [List.length_cons]
        omega
      exact congrArg (fun n => s.withTest p (x.marched n sp') m'') hreg
    · obtain ⟨hm', hsp', hread⟩ := hkeep hm hsp
      obtain ⟨hm'', hsp'', hread'⟩ := hkeep' hm' hsp'
      exact ⟨hm'', hsp'', fun a => (hread' a).trans (hread a)⟩

end Sys2Proof.Machine
end

section
/-!
SUPPORT. BGT_STEP (R284, R285): a region found faulty, and what the obligation says of a step.
-/
namespace Sys2Proof.Machine

/-- What a fault of region `r` leaves in the tests of its cluster (R285). -/
def ClusterTest.faulted (r : Nat) (x : ClusterTest) : ClusterTest := { x with
  bgtFail := true, bgtFailBank := r / 256, sparesUsed := x.sparesUsed.set (r / 256) (min 2 (x.sparesUsed.getD (r / 256) 0 + 1)),
  remapped := if x.sparesUsed.getD (r / 256) 0 = 0 then insertAsc r x.remapped else x.remapped,
  retirePending := x.retirePending || x.sparesUsed.getD (r / 256) 0 != 0,
  retireCause := if x.sparesUsed.getD (r / 256) 0 = 0 then x.retireCause else 2 }

/-- The mark for retirement, with its warning (R422, R425). -/
def State.retireMarked (p bank : Nat) (s : State) : State :=
  (s.modBoot fun b => { b with markNew := true }).warn 0x0122 (stackOf p) p (le 8 bank)

theorem State.bgtFault_eq (p r : Nat) (s : State) : s.bgtFault p r =
    if (s.cl p).test.sparesUsed.getD (r / 256) 0 = 0 then
      s.modCl p fun c => { c with test := { c.test with
        bgtFail := true, bgtFailBank := r / 256,
        sparesUsed := c.test.sparesUsed.set (r / 256) (min 2 ((s.cl p).test.sparesUsed.getD (r / 256) 0 + 1)),
        remapped := if (s.cl p).test.sparesUsed.getD (r / 256) 0 = 0 then insertAsc r c.test.remapped else c.test.remapped,
        retirePending := c.test.retirePending || (s.cl p).test.sparesUsed.getD (r / 256) 0 != 0,
        retireCause := if (s.cl p).test.sparesUsed.getD (r / 256) 0 = 0 then c.test.retireCause else 2 } }
    else (s.modCl p fun c => { c with test := { c.test with
        bgtFail := true, bgtFailBank := r / 256,
        sparesUsed := c.test.sparesUsed.set (r / 256) (min 2 ((s.cl p).test.sparesUsed.getD (r / 256) 0 + 1)),
        remapped := if (s.cl p).test.sparesUsed.getD (r / 256) 0 = 0 then insertAsc r c.test.remapped else c.test.remapped,
        retirePending := c.test.retirePending || (s.cl p).test.sparesUsed.getD (r / 256) 0 != 0,
        retireCause := if (s.cl p).test.sparesUsed.getD (r / 256) 0 = 0 then c.test.retireCause else 2 } }).retireMarked p (r / 256) := rfl

theorem State.bgtFault_withTest {p : Nat} {s : State} (hp : p < s.clusters.length) (r : Nat) (x : ClusterTest) (m : Mem) :
    (s.withTest p x m).bgtFault p r =
      if x.sparesUsed.getD (r / 256) 0 = 0 then s.withTest p (x.faulted r) m
      else (s.withTest p (x.faulted r) m).retireMarked p (r / 256) := by
  have hmod := State.modTest_withTest p (fun y => { y with
    bgtFail := true, bgtFailBank := r / 256,
    sparesUsed := y.sparesUsed.set (r / 256) (min 2 (x.sparesUsed.getD (r / 256) 0 + 1)),
    remapped := if x.sparesUsed.getD (r / 256) 0 = 0 then insertAsc r y.remapped else y.remapped,
    retirePending := y.retirePending || x.sparesUsed.getD (r / 256) 0 != 0,
    retireCause := if x.sparesUsed.getD (r / 256) 0 = 0 then y.retireCause else 2 }) x m s
  rw [State.bgtFault_eq, State.withTest_cl hp]
  dsimp only at hmod ⊢
  rw [hmod]
  rfl

/-- The place of the next run. -/
def ClusterTest.moved (x : ClusterTest) : ClusterTest := { x with bgtRegion := (x.bgtRegion + 1) % 16384 }

theorem State.bgtRun_found {p : Nat} {s : State} (hp : p < s.clusters.length) {x : ClusterTest} (m : Mem)
    (hused : x.sparesUsed.getD (x.bgtRegion / 256) 0 < 2) :
    ∃ sp m', (s.withTest p x m).bgtRun p true =
      if x.sparesUsed.getD (x.bgtRegion / 256) 0 = 0 then
        s.withTest p (({ x with spares := sp } : ClusterTest).faulted x.bgtRegion).moved m'
      else ((s.withTest p (({ x with spares := sp } : ClusterTest).faulted x.bgtRegion) m').retireMarked p
        (x.bgtRegion / 256)).modCl p fun c => { c with test := c.test.moved } := by
  obtain ⟨sp, m', hmarch, -⟩ := State.march_withTest hp x.bgtRegion x m
  refine ⟨sp, m', ?_⟩
  have hcl : (s.withTest p x m).cl p = { s.cl p with test := x } := State.withTest_cl hp x m
  have hfault := State.bgtFault_withTest hp x.bgtRegion ({ x with spares := sp } : ClusterTest) m'
  unfold State.bgtRun
  rw [hcl]
  dsimp only
  rw [if_pos hused, if_pos rfl, hmarch, hfault]
  dsimp only
  split
  · exact State.modTest_withTest p ClusterTest.moved _ m' s
  · rfl

/-- What a run does before its region moves on leaves the region. -/
theorem State.march_region {p : Nat} {s : State} (hp : p < s.clusters.length) (found : Bool) :
    ∃ y : State, s.bgtRun p found = y.modCl p (fun c => { c with test := c.test.moved }) ∧ y.clusters.length = s.clusters.length ∧
      (y.cl p).test.bgtRegion = (s.cl p).test.bgtRegion := by
  refine ⟨_, rfl, ?_⟩
  obtain ⟨sp, m', hmarch, -⟩ := State.march_withTest hp (s.cl p).test.bgtRegion (s.cl p).test s.sram
  rw [s.withTest_self p] at hmarch
  have hlen (x : ClusterTest) (m : Mem) : (s.withTest p x m).clusters.length = s.clusters.length := s.clusters_length_modCl p _
  have hreg (x : ClusterTest) (m : Mem) : ((s.withTest p x m).cl p).test.bgtRegion = x.bgtRegion :=
    congrArg (fun c : Cluster => c.test.bgtRegion) (State.withTest_cl hp x m)
  dsimp only
  split
  · rw [hmarch]
    split
    · rw [State.bgtFault_withTest hp]
      split
      · exact ⟨hlen .., hreg ..⟩
      · have hwarn (y : State) (b : Nat) : (y.retireMarked p b).clusters = y.clusters := (State.warn_atEvents ..).clusters
        have hcl (y : State) (b : Nat) : (y.retireMarked p b).cl p = y.cl p := congrArg (fun l : List Cluster => l.getD p {}) (hwarn y b)
        rw [hwarn, hcl]
        exact ⟨hlen .., hreg ..⟩
    · exact ⟨hlen .., hreg ..⟩
  · exact ⟨rfl, rfl⟩

/-- Whatever a run finds, the region of its cluster moves on. -/
theorem State.bgtRun_region {p : Nat} {s : State} (hp : p < s.clusters.length) (found : Bool) :
    ((s.bgtRun p found).cl p).test.bgtRegion = ((s.cl p).test.bgtRegion + 1) % 16384 ∧
      (s.bgtRun p found).clusters.length = s.clusters.length := by
  obtain ⟨y, hrun, hlen, hreg⟩ := State.march_region hp found
  rw [hrun, State.cl_modCl (hlen ▸ hp), State.clusters_length_modCl, ← hreg]
  exact ⟨rfl, hlen⟩

theorem State.foldl_bgtRun_region {p : Nat} (l : List Bool) {s : State} (hp : p < s.clusters.length)
    (hr : (s.cl p).test.bgtRegion < 16384) :
    ((l.foldl (fun s f => s.bgtRun p f) s).cl p).test.bgtRegion = ((s.cl p).test.bgtRegion + l.length) % 16384 ∧
      (l.foldl (fun s f => s.bgtRun p f) s).clusters.length = s.clusters.length := by
  induction l generalizing s with
  | nil => exact ⟨(Nat.mod_eq_of_lt hr).symm, rfl⟩
  | cons f l ih =>
    obtain ⟨hreg, hlen⟩ := State.bgtRun_region hp f
    obtain ⟨hrest, hlen'⟩ := ih (s := s.bgtRun p f) (hlen.symm ▸ hp) (hreg ▸ Nat.mod_lt _ (by decide))
    refine ⟨?_, hlen'.trans hlen⟩
    rw [List.foldl_cons, hrest, hreg, List.length_cons]
    omega

theorem State.bgtRun_skips {p : Nat} {s : State} (h : 2 ≤ (s.cl p).test.sparesUsed.getD ((s.cl p).test.bgtRegion / 256) 0)
    (found : Bool) : s.bgtRun p found = s.modCl p fun c => { c with test := c.test.moved } := by
  unfold State.bgtRun
  dsimp only
  rw [if_neg (Nat.not_lt.mpr h)]
  rfl

/-! ## BGT_STEP -/

section
variable {s : State} {p : Nat} (t : Nat)

/-- No step waits any more. -/
def ClusterTest.caughtUp (x : ClusterTest) : ClusterTest := { x with bgtWaiting := [] }

theorem State.bgtStep_runs (hen : s.enabled p = true) (hup : s.aon.railsUp = true) (found : Bool) :
    (s.at t).bgtStep p false found = (((s.cl p).test.bgtWaiting ++ [found]).foldl (fun s f => s.bgtRun p f) (s.at t)).modCl p
      fun c => { c with test := c.test.caughtUp } := by
  have hdue : ((s.at t).enabled p && (s.at t).aon.railsUp) = true := by
    rw [show (s.at t).enabled p = true from hen, show (s.at t).aon.railsUp = true from hup]
    rfl
  exact (State.when_pos hdue _ _).trans (if_neg Bool.false_ne_true)

theorem bgtStep_row (hp : p < 64) (running found : Bool) :
    exec (.bgtStep p running found t) s = .next { (s.at t).bgtStep p running found with pending := s.pending } := by
  have hguard : below p 64 = true := by simp [below, hp]
  exact (exec_bgtStep ..).trans (ranAt_pos hguard ..)

/-- A step that is due while the last one runs waits and sets LATE. -/
theorem bgtStep_waits (hp : p < 64) (hc : s.clusters.length = 64) (hen : s.enabled p = true) (hup : s.aon.railsUp = true)
    (found : Bool) : ∃ s', exec (.bgtStep p true found t) s = .next s' ∧
      s'.cl p = { s.cl p with test := { (s.cl p).test with bgtLate := true, bgtWaiting := (s.cl p).test.bgtWaiting ++ [found] } } ∧
      (∀ q, q ≠ p → s'.cl q = s.cl q) ∧ { s' with time := s.time, clusters := s.clusters } = s := by
  have hdue : ((s.at t).enabled p && (s.at t).aon.railsUp) = true := by
    rw [show (s.at t).enabled p = true from hen, show (s.at t).aon.railsUp = true from hup]
    rfl
  have hstep : (s.at t).bgtStep p true found = (s.at t).modCl p fun c =>
      { c with test := { c.test with bgtLate := true, bgtWaiting := c.test.bgtWaiting ++ [found] } } :=
    (State.when_pos hdue _ _).trans (if_pos rfl)
  refine ⟨_, bgtStep_row t hp true found, ?_⟩
  rw [hstep]
  exact ⟨State.cl_modCl (s := s.at t) (hc.symm ▸ hp) _, fun q hq => State.cl_modCl_ne (s := s.at t) hq _, rfl⟩

theorem bgtStep_region (hp : p < 64) (hc : s.clusters.length = 64) (hen : s.enabled p = true) (hup : s.aon.railsUp = true)
    (hr : (s.cl p).test.bgtRegion < 16384) (found : Bool) :
    ∃ s', exec (.bgtStep p false found t) s = .next s' ∧ (s'.cl p).test.bgtWaiting = [] ∧
      (s'.cl p).test.bgtRegion = ((s.cl p).test.bgtRegion + (s.cl p).test.bgtWaiting.length + 1) % 16384 := by
  obtain ⟨hreg, hlen⟩ := State.foldl_bgtRun_region (p := p) ((s.cl p).test.bgtWaiting ++ [found]) (s := s.at t)
    (hc.symm ▸ hp : p < s.clusters.length) hr
  have hrow := bgtStep_row (s := s) t hp false found
  rw [State.bgtStep_runs t hen hup] at hrow
  generalize ((s.cl p).test.bgtWaiting ++ [found]).foldl (fun s f => s.bgtRun p f) (s.at t) = y at hrow hreg hlen
  have hcl := State.cl_modCl (s := y) (p := p) (hlen.trans hc ▸ hp) fun c => { c with test := c.test.caughtUp }
  refine ⟨_, hrow, (congrArg (fun c : Cluster => c.test.bgtWaiting) hcl :),
    ((congrArg (fun c : Cluster => c.test.bgtRegion) hcl :).trans hreg).trans ?_⟩
  rw [List.length_append]
  rfl

/-- What a step leaves whose runs rewrote the cluster's tests and the SRAM alone. -/
theorem bgtStep_withTest (hp : p < 64) (hen : s.enabled p = true) (hup : s.aon.railsUp = true) {found : Bool} {x : ClusterTest} {m : Mem}
    (hruns : ((s.cl p).test.bgtWaiting ++ [found]).foldl (fun s f => s.bgtRun p f) (s.at t) = (s.at t).withTest p x m) :
    exec (.bgtStep p false found t) s = .next ((s.at t).withTest p x.caughtUp m) := by
  have hrow := bgtStep_row (s := s) t hp false found
  rw [State.bgtStep_runs t hen hup, hruns, State.modTest_withTest p ClusterTest.caughtUp] at hrow
  exact hrow

/-- Steps without a fault march over their regions and leave every byte as it was. -/
theorem bgtStep_clean (hp : p < 64) (hc : s.clusters.length = 64) (hen : s.enabled p = true) (hup : s.aon.railsUp = true)
    (hr : (s.cl p).test.bgtRegion < 16384) (hclean : ∀ f ∈ (s.cl p).test.bgtWaiting, f = false) :
    ∃ s', exec (.bgtStep p false false t) s = .next s' ∧ s'.cl p = { s.cl p with test := { (s.cl p).test with
        bgtRegion := ((s.cl p).test.bgtRegion + (s.cl p).test.bgtWaiting.length + 1) % 16384, bgtWaiting := [],
        spares := (s'.cl p).test.spares } } ∧ (∀ q, q ≠ p → s'.cl q = s.cl q) ∧
      (s.sram.wf = true → Mem.wf (s.cl p).test.spares = true → ∀ a, Mem.read a s'.sram = Mem.read a s.sram) ∧
      { s' with time := s.time, clusters := s.clusters, sram := s.sram } = s := by
  have hp' : p < (s.at t).clusters.length := hc.symm ▸ hp
  have hall : ∀ f ∈ (s.cl p).test.bgtWaiting ++ [false], f = false := by
    intro f hf
    rcases List.mem_append.mp hf with h | h
    · exact hclean f h
    · exact List.mem_singleton.mp h
  obtain ⟨sp, m, hruns, hkeep⟩ := State.foldl_bgtRun_clean hp' _ hall (s.cl p).test s.sram hr
  have hself : (s.at t).withTest p (s.cl p).test s.sram = s.at t := (s.at t).withTest_self p
  have hlen : (s.cl p).test.bgtRegion + ((s.cl p).test.bgtWaiting ++ [false]).length =
      (s.cl p).test.bgtRegion + (s.cl p).test.bgtWaiting.length + 1 := by
    rw [List.length_append]
    rfl
  rw [hself, hlen] at hruns
  have hcl := State.withTest_cl hp' (((s.cl p).test.marched
    (((s.cl p).test.bgtRegion + (s.cl p).test.bgtWaiting.length + 1) % 16384) sp).caughtUp) m
  refine ⟨_, bgtStep_withTest t hp hen hup hruns, ?_, fun q hq => State.withTest_cl_ne hq .., fun hm hsp => (hkeep hm hsp).2.2, rfl⟩
  rw [hcl]
  rfl

/-- The first fault of a bank maps the region to the spare. -/
theorem bgtStep_maps (hp : p < 64) (hc : s.clusters.length = 64) (hen : s.enabled p = true) (hup : s.aon.railsUp = true)
    (hr : (s.cl p).test.bgtRegion < 16384) (hused : (s.cl p).test.sparesUsed.length = 64) {found : Bool}
    (hfound : ((s.cl p).test.bgtWaiting, found) = ([], true) ∨ ((s.cl p).test.bgtWaiting, found) = ([true], false))
    (hfree : (s.cl p).test.sparesUsed.getD ((s.cl p).test.bgtRegion / 256) 0 = 0) :
    ∃ s', exec (.bgtStep p false found t) s = .next s' ∧ (s'.cl p).test.bgtFail = true ∧
      (s'.cl p).test.bgtFailBank = (s.cl p).test.bgtRegion / 256 ∧
      (s'.cl p).test.sparesUsed.getD ((s.cl p).test.bgtRegion / 256) 0 = 1 ∧
      (s.cl p).test.bgtRegion ∈ (s'.cl p).test.remapped ∧
      (s'.cl p).test.retirePending = (s.cl p).test.retirePending ∧ (∀ q, q ≠ p → s'.cl q = s.cl q) ∧
      { s' with time := s.time, clusters := s.clusters, sram := s.sram } = s := by
  have hp' : p < (s.at t).clusters.length := hc.symm ▸ hp
  have hself : (s.at t).withTest p (s.cl p).test s.sram = s.at t := (s.at t).withTest_self p
  obtain ⟨sp, m, hrun⟩ := State.bgtRun_found hp' (x := (s.cl p).test) s.sram (by omega)
  rw [hself, if_pos hfree] at hrun
  generalize hx : (({ (s.cl p).test with spares := sp } : ClusterTest).faulted (s.cl p).test.bgtRegion).moved = x at hrun
  have hbank : (s.cl p).test.bgtRegion / 256 < (s.cl p).test.sparesUsed.length := by omega
  have hfacts : x.bgtFail = true ∧ x.bgtFailBank = (s.cl p).test.bgtRegion / 256 ∧
      x.sparesUsed.getD ((s.cl p).test.bgtRegion / 256) 0 = 1 ∧ (s.cl p).test.bgtRegion ∈ x.remapped ∧
      x.retirePending = (s.cl p).test.retirePending := by
    subst hx
    refine ⟨rfl, rfl, ?_, ?_, ?_⟩
    · change ((s.cl p).test.sparesUsed.set _ (min 2 ((s.cl p).test.sparesUsed.getD _ 0 + 1))).getD _ 0 = 1
      rw [hfree, getD_set_self hbank]
      rfl
    · change (s.cl p).test.bgtRegion ∈ (if (s.cl p).test.sparesUsed.getD _ 0 = 0 then _ else _)
      rw [if_pos hfree]
      exact mem_insertAsc_self ..
    · change ((s.cl p).test.retirePending || (s.cl p).test.sparesUsed.getD _ 0 != 0) = _
      rw [hfree]
      exact Bool.or_false _
  clear hx
  have hrow : ∃ sp' r m', exec (.bgtStep p false found t) s = .next ((s.at t).withTest p (x.marched r sp').caughtUp m') := by
    rcases hfound with h | h
    · obtain ⟨hwait, rfl⟩ := Prod.mk.inj h
      refine ⟨x.spares, x.bgtRegion, m, bgtStep_withTest t hp hen hup ?_⟩
      rw [hwait]
      exact hrun
    · obtain ⟨hwait, rfl⟩ := Prod.mk.inj h
      obtain ⟨sp', m', hrun', -⟩ := State.bgtRun_clean hp' x m
      refine ⟨sp', (x.bgtRegion + 1) % 16384, m', bgtStep_withTest t hp hen hup ?_⟩
      rw [hwait]
      exact (congrArg (fun y : State => y.bgtRun p false) hrun).trans hrun'
  obtain ⟨sp', r, m', hrow⟩ := hrow
  have hcl := State.withTest_cl hp' (x.marched r sp').caughtUp m'
  obtain ⟨hfail, hfailBank, hspares, hmapped, hpending⟩ := hfacts
  refine ⟨_, hrow, ?_, ?_, ?_, ?_, ?_, fun q hq => State.withTest_cl_ne hq .., rfl⟩ <;> rw [hcl] <;> assumption

/-- The second fault of a bank marks the cluster for retirement. -/
theorem bgtStep_retires (hp : p < 64) (hc : s.clusters.length = 64) (hen : s.enabled p = true) (hup : s.aon.railsUp = true)
    (hr : (s.cl p).test.bgtRegion < 16384) (hused : (s.cl p).test.sparesUsed.length = 64) (hwait : (s.cl p).test.bgtWaiting = [])
    (hone : (s.cl p).test.sparesUsed.getD ((s.cl p).test.bgtRegion / 256) 0 = 1) :
    ∃ s', exec (.bgtStep p false true t) s = .next s' ∧ (s'.cl p).test.retirePending = true ∧
      (s'.cl p).test.retireCause = 2 ∧ (s'.cl p).test.sparesUsed.getD ((s.cl p).test.bgtRegion / 256) 0 = 2 ∧
      s'.boot = { s.boot with markNew := true } ∧ s'.safety = s.safety := by
  have hp' : p < (s.at t).clusters.length := hc.symm ▸ hp
  have hself : (s.at t).withTest p (s.cl p).test s.sram = s.at t := (s.at t).withTest_self p
  obtain ⟨sp, m, hrun⟩ := State.bgtRun_found hp' (x := (s.cl p).test) s.sram (by omega)
  rw [hself, if_neg (by omega)] at hrun
  generalize hx : (({ (s.cl p).test with spares := sp } : ClusterTest).faulted (s.cl p).test.bgtRegion) = x at hrun
  have hbank : (s.cl p).test.bgtRegion / 256 < (s.cl p).test.sparesUsed.length := by omega
  have hfacts : x.retirePending = true ∧ x.retireCause = 2 ∧ x.sparesUsed.getD ((s.cl p).test.bgtRegion / 256) 0 = 2 := by
    subst hx
    refine ⟨?_, if_neg ?_, ?_⟩
    · change ((s.cl p).test.retirePending || (s.cl p).test.sparesUsed.getD _ 0 != 0) = true
      rw [hone]
      exact Bool.or_true _
    · change ¬(s.cl p).test.sparesUsed.getD _ 0 = 0
      rw [hone]
      exact Nat.one_ne_zero
    · change ((s.cl p).test.sparesUsed.set _ (min 2 ((s.cl p).test.sparesUsed.getD _ 0 + 1))).getD _ 0 = 2
      rw [hone, getD_set_self hbank]
      rfl
  have hrow := bgtStep_row (s := s) t hp false true
  rw [State.bgtStep_runs t hen hup, hwait] at hrow
  change exec (.bgtStep p false true t) s = .next { ((s.at t).bgtRun p true).modCl p _ with pending := s.pending } at hrow
  rw [hrun, State.modCl_modCl] at hrow
  have hevents : ((s.at t).withTest p x m).AtEvents _ := State.warn_atEvents 0x0122 (stackOf p) p (le 8 ((s.cl p).test.bgtRegion / 256)) _
  generalize hy : ((s.at t).withTest p x m).retireMarked p ((s.cl p).test.bgtRegion / 256) = y at hrow
  have hcls : y.clusters = ((s.at t).withTest p x m).clusters := hy ▸ (State.warn_atEvents ..).clusters
  have hboot : y.boot = { s.boot with markNew := true } := hy ▸ State.warn_boot ..
  have hsafety : y.safety = s.safety := hy ▸ State.warn_safety ..
  have hpy : p < y.clusters.length := by
    rw [hcls]
    exact (State.clusters_length_modCl ..).symm ▸ hp'
  have hycl : y.cl p = { s.cl p with test := x } :=
    (congrArg (fun l : List Cluster => l.getD p {}) hcls).trans (State.withTest_cl hp' x m)
  have hcl := State.cl_modCl hpy fun c => { c with test := c.test.moved.caughtUp }
  rw [hycl] at hcl
  obtain ⟨hpending, hcause, hspares⟩ := hfacts
  exact ⟨_, hrow, ((congrArg (fun c : Cluster => c.test.retirePending) hcl :).trans hpending),
    ((congrArg (fun c : Cluster => c.test.retireCause) hcl :).trans hcause),
    ((congrArg (fun c : Cluster => c.test.sparesUsed.getD ((s.cl p).test.bgtRegion / 256) 0) hcl :).trans hspares), hboot, hsafety⟩

/-- A bank with both spares used is skipped. -/
theorem bgtStep_skips (hp : p < 64) (hc : s.clusters.length = 64) (hen : s.enabled p = true) (hup : s.aon.railsUp = true)
    (hwait : (s.cl p).test.bgtWaiting = []) (htwo : 2 ≤ (s.cl p).test.sparesUsed.getD ((s.cl p).test.bgtRegion / 256) 0)
    (found : Bool) : ∃ s', exec (.bgtStep p false found t) s = .next s' ∧ s'.cl p = { s.cl p with test := { (s.cl p).test with
        bgtRegion := ((s.cl p).test.bgtRegion + 1) % 16384 } } ∧ (∀ q, q ≠ p → s'.cl q = s.cl q) ∧
      { s' with time := s.time, clusters := s.clusters } = s := by
  have hp' : p < (s.at t).clusters.length := hc.symm ▸ hp
  have hrow := bgtStep_row (s := s) t hp false found
  rw [State.bgtStep_runs t hen hup, hwait] at hrow
  change exec (.bgtStep p false found t) s = .next { ((s.at t).bgtRun p found).modCl p _ with pending := s.pending } at hrow
  rw [State.bgtRun_skips (s := s.at t) htwo, State.modCl_modCl] at hrow
  refine ⟨_, hrow, (State.cl_modCl hp' _).trans ?_, fun q hq => State.cl_modCl_ne (s := s.at t) hq _, rfl⟩
  change { s.cl p with test := { (s.cl p).test with bgtRegion := ((s.cl p).test.bgtRegion + 1) % 16384, bgtWaiting := [] } } = _
  rw [← hwait]

end

end Sys2Proof.Machine
end

section
/-!
SUPPORT. What a scheduling step writes: one cluster, the stacks' books, the trace and the streams (R243-R256).
-/
namespace Sys2Proof.Machine

/-! ## A step that stays with one cluster and the stacks -/

/-- A stack without its counters. -/
def Stack.booked (x : Stack) : Stack := { x with counters := [], selCounters := [] }

/-- A state in which cluster `p` has become `c` and the stacks `bk`, both apart from their counters, the streams `ss`, and in which
nothing else but the trace has changed. -/
structure State.Becomes (p : Nat) (c : Cluster) (bk : List Stack) (ss : List Stream) (s s' : State) : Prop where
  rest : ∃ l ks o, s' = { s with clusters := l, stks := ks, obs := o, streams := ss }
  cluster : (s'.cl p).still = c.still
  others : ∀ q, q ≠ p → s'.cl q = s.cl q
  inRange : p < s'.clusters.length
  books : s'.stks.map Stack.booked = bk.map Stack.booked

theorem State.becomes_self {p : Nat} {s : State} (hp : p < s.clusters.length) : s.Becomes p (s.cl p) s.stks s.streams s :=
  ⟨⟨_, _, _, rfl⟩, rfl, fun _ _ => rfl, hp, rfl⟩

section
variable {p : Nat} {c : Cluster} {bk : List Stack} {ss : List Stream} {s x : State}

theorem State.Becomes.sched (h : s.Becomes p c bk ss x) : (x.cl p).sched = c.sched :=
  (congrArg Cluster.sched h.cluster :)

theorem State.Becomes.streams (h : s.Becomes p c bk ss x) : x.streams = ss := by
  obtain ⟨l, ks, o, hx⟩ := h.rest
  rw [hx]

theorem State.Becomes.stk (h : s.Becomes p c bk ss x) (k : Nat) : (x.stk k).booked = (bk.getD k {}).booked := by
  have hmap (l : List Stack) : (l.getD k {}).booked = (l.map Stack.booked).getD k (Stack.booked {}) := (List.getD_map ..).symm
  exact (hmap x.stks).trans ((congrArg (fun l => l.getD k (Stack.booked {})) h.books).trans (hmap bk).symm)

theorem State.Becomes.of_eq (h : s.Becomes p c bk ss x) {c' : Cluster} {bk' : List Stack} (hc : c' = c) (hb : bk' = bk) :
    s.Becomes p c' bk' ss x := by
  rw [hc, hb]
  exact h

theorem State.Becomes.mod (h : s.Becomes p c bk ss x) {f : Cluster → Cluster} (hf : ∀ c, (f c).still = (f c.still).still) :
    s.Becomes p (f c) bk ss (x.modCl p f) := by
  obtain ⟨l, ks, o, hx⟩ := h.rest
  refine ⟨?_, ?_, fun q hq => (State.cl_modCl_ne hq f).trans (h.others q hq), ?_, h.books⟩
  · rw [hx]
    exact ⟨_, _, _, rfl⟩
  · rw [State.cl_modCl h.inRange, hf, h.cluster, ← hf]
  · rw [State.clusters_length_modCl]
    exact h.inRange

theorem State.Becomes.stack (h : s.Becomes p c bk ss x) {k : Nat} {f : Stack → Stack} (hf : ∀ y, (f y).booked = (f y.booked).booked) :
    s.Becomes p c (bk.modify k f) ss (x.modStk k f) := by
  obtain ⟨l, ks, o, hx⟩ := h.rest
  refine ⟨?_, h.cluster, h.others, h.inRange, ?_⟩
  · rw [hx]
    exact ⟨_, _, _, rfl⟩
  · have hmap (l : List Stack) : (l.modify k f).map Stack.booked = (l.map Stack.booked).modify k fun y => (f y).booked := by
      refine List.ext_getElem? fun i => ?_
      rw [List.getElem?_map, List.getElem?_modify, List.getElem?_modify, List.getElem?_map]
      split
      · cases l[i]? with
        | none => rfl
        | some y => exact congrArg some (hf y)
      · simp
    change (x.stks.modify k f).map Stack.booked = _
    rw [hmap, hmap, h.books]

theorem State.Becomes.event (h : s.Becomes p c bk ss x) (event qual layer op k : Nat) :
    s.Becomes p c bk ss (x.selEvent 0 p event qual layer op k) := by
  obtain ⟨l, ks, o, hx⟩ := h.rest
  obtain ⟨⟨l', hl⟩, hq⟩ := State.selEvent_onlyCl p event qual layer op k x
  have hstill := State.selEvent_stillCls 0 p event qual layer op k x
  refine ⟨⟨l', ks, o, ?_⟩, (State.still_of_stillCls hstill p).trans h.cluster, fun q hne => (hq q hne).trans (h.others q hne), ?_, ?_⟩
  · rw [hl, hx]
  · rw [State.clusters_length_of_still hstill]
    exact h.inRange
  · rw [hl]
    exact h.books

/-- A unit traced of a stack's buffer writes the trace and the stack's counters alone. -/
theorem State.trace_stack {b : Nat} (hb : b < 4) (source kind : Nat) (body : List Byte) (s : State) (layer op : Nat := 0xFFFF) :
    ∃ ks o, s.trace b source kind body layer op = { s with stks := ks, obs := o } ∧ ks.map Stack.booked = s.stks.map Stack.booked := by
  unfold State.trace
  dsimp only
  generalize (if kind = 13 then _ else _ : List (List Byte)) = units
  split
  · exact ⟨_, _, rfl, rfl⟩
  · split
    · split
      · rw [if_neg (Nat.ne_of_lt hb)]
        exact ⟨_, _, rfl, map_modify_of Stack.booked (by intro; rfl) _ _⟩
      · exact ⟨_, _, rfl, rfl⟩
    · exact ⟨_, _, rfl, rfl⟩

theorem State.Becomes.trace (h : s.Becomes p c bk ss x) {b : Nat} (hb : b < 4) (source kind : Nat) (body : List Byte)
    (layer op : Nat := 0xFFFF) : s.Becomes p c bk ss (x.trace b source kind body layer op) := by
  obtain ⟨l, ks, o, hx⟩ := h.rest
  obtain ⟨ks', o', htrace, hks⟩ := State.trace_stack hb source kind body x layer op
  rw [htrace]
  refine ⟨⟨l, ks', o', ?_⟩, h.cluster, h.others, h.inRange, hks.trans h.books⟩
  rw [hx]

theorem State.Becomes.traceTask (h : s.Becomes p c bk ss x) (hp : p < 64) (kind : Nat) (d : TaskDesc) (st producer reason : Nat) :
    s.Becomes p c bk ss (x.traceTask p kind d st producer reason) :=
  h.trace (b := stackOf p) (by unfold stackOf; omega) p kind (taskBody d st producer reason) d.layerId d.operatorId

theorem State.Becomes.stackCounter (h : s.Becomes p c bk ss x) (k i n : Nat) : s.Becomes p c bk ss (x.bumpStk k i n) := by
  obtain ⟨l, ks, o, hx⟩ := h.rest
  refine ⟨?_, h.cluster, h.others, h.inRange, (map_modify_of Stack.booked (by intro; rfl) _ _).trans h.books⟩
  rw [hx]
  exact ⟨_, _, _, rfl⟩

/-- A selectable event of a stack counts in it alone. -/
theorem State.Becomes.stackEvent (h : s.Becomes p c bk ss x) (k event qual layer op n : Nat) :
    s.Becomes p c bk ss (x.selEvent 1 k event qual layer op n) := by
  unfold State.selEvent
  refine State.foldl_inv (s.Becomes p c bk ss) _ (fun y e hy => ?_) _ _ h
  split
  · obtain ⟨l, ks, o, hy'⟩ := hy.rest
    refine ⟨?_, hy.cluster, hy.others, hy.inRange, (map_modify_of Stack.booked (by intro; rfl) _ _).trans hy.books⟩
    rw [hy']
    exact ⟨_, _, _, rfl⟩
  · exact hy

theorem State.Becomes.counter (h : s.Becomes p c bk ss x) (i k : Nat) : s.Becomes p c bk ss (x.bumpCl p i k) :=
by
  obtain ⟨l, ks, o, hx⟩ := h.rest
  have hstill := State.bumpCl_stillCls p i k x
  refine ⟨?_, (State.still_of_stillCls hstill p).trans h.cluster,
    fun q hq => (State.cl_modCl_ne hq _).trans (h.others q hq), State.clusters_length_of_still hstill ▸ h.inRange, h.books⟩
  rw [hx]
  exact ⟨_, _, _, rfl⟩

theorem State.Becomes.stream (h : s.Becomes p c bk ss x) (f : List Stream → List Stream) :
    s.Becomes p c bk (f ss) (x.modStreams f) := by
  obtain ⟨l, ks, o, hx⟩ := h.rest
  refine ⟨?_, h.cluster, h.others, h.inRange, h.books⟩
  rw [hx]
  exact ⟨_, _, _, rfl⟩

/-- What a step that kept the streams may have changed. -/
theorem State.Becomes.frame (h : s.Becomes p c bk ss x) :
    { x with clusters := s.clusters, stks := s.stks, obs := s.obs, streams := s.streams } = s := by
  obtain ⟨l, ks, o, hx⟩ := h.rest
  rw [hx]

theorem State.Becomes.frame_streams (h : s.Becomes p c bk s.streams x) :
    { x with clusters := s.clusters, stks := s.stks, obs := s.obs } = s := by
  obtain ⟨l, ks, o, hx⟩ := h.rest
  rw [hx]

end

end Sys2Proof.Machine
end

section
/-!
SUPPORT. The steps of a scheduler, one by one: a task enters a structure, is refused, is taken by a unit, waits (R243-R250).
-/
namespace Sys2Proof.Machine

/-- A task with the AGE it has in the structure that it enters (R248). -/
def agedTask (d : TaskDesc) (age : Nat) : TaskDesc := if taskStruct d = 0 then d else { d with age := age % 65536 }

/-- The entry that a task takes. -/
def Scheduler.newHeld (x : Scheduler) (seat : Nat) (d : TaskDesc) : Held :=
  { entry := x.nextEntry, task := agedTask d x.age, seat := seat, extraSeat := taskStruct d }

/-- A scheduler that a task has entered. -/
def Scheduler.entered (x : Scheduler) (seat : Nat) (d : TaskDesc) : Scheduler :=
  { x.push (taskStruct d) (x.newHeld seat d) with
    nextEntry := x.nextEntry + 1, age := if taskStruct d = 0 then x.age else x.age + 1 }

/-- Its cluster. -/
def Cluster.entered (c : Cluster) (seat : Nat) (d : TaskDesc) : Cluster :=
  { c with sched := c.sched.entered seat d, gate := .on, worked := true }

/-- A cluster with another scheduler. -/
def Cluster.withSched (c : Cluster) (x : Scheduler) : Cluster := { c with sched := x }

/-- A task that a cluster has taken, noted for the order of offers (R255). -/
def Cluster.took (c : Cluster) (d : TaskDesc) : Cluster :=
  { c with taken := if c.taken.contains (taskKey d) then c.taken else c.taken ++ [(taskKey d)] }

/-- The streams after a block of `d`'s stream has been counted (R245). -/
def notedStreams (d : TaskDesc) (l : List Stream) : List Stream :=
  if isBlock d then l.map fun x => if (match x.guest with
    | some g => g.stream
    | none => x.id) = d.stream then { x with blocksAccepted := x.blocksAccepted + 1 } else x
  else l

/-- A stack to whose dispatcher input a new task came. -/
def Stack.queued (d : TaskDesc) (x : Stack) : Stack := { x with flow := x.flow.offer, dispatcher := x.dispatcher ++ [{ task := d }] }

section
variable {p : Nat} {c : Cluster} {bk : List Stack} {ss : List Stream} {s x : State}

theorem State.Becomes.sched_mod (h : s.Becomes p c bk ss x) (f : Scheduler → Scheduler) :
    s.Becomes p (c.withSched (f c.sched)) bk ss (x.modSched p f) :=
  h.mod (f := fun c => { c with sched := f c.sched }) (by intro; rfl)

theorem State.Becomes.enter (h : s.Becomes p c bk ss x) (hp : p < 64) (seat : Nat) (d : TaskDesc) (producer : Nat) :
    s.Becomes p (c.entered seat d) bk ss (x.enter p seat d producer) := by
  have hsched := h.sched
  unfold State.enter
  dsimp only
  rw [hsched]
  have hpush := h.sched_mod fun y => { y.push (taskStruct d) { entry := y.nextEntry, task := agedTask d c.sched.age, seat := seat, extraSeat := taskStruct d } with
    nextEntry := y.nextEntry + 1, age := if taskStruct d = 0 then y.age else y.age + 1 }
  have hon := hpush.mod (f := fun c => { c with gate := .on, worked := true }) (by intro; rfl)
  exact hon.traceTask hp 2 (agedTask d c.sched.age) (taskStruct d) producer 0

theorem State.Becomes.refuse (h : s.Becomes p c bk ss x) (hp : p < 64) (hexact : s.frame.conf.exact = false) (d : TaskDesc)
    (producer : Nat) (reserved : Bool) : s.Becomes p c bk ss (x.refuseTask p d producer reserved) := by
  have htrace := (h.counter 10 1).traceTask hp 3 d (taskStruct d) producer (flag reserved 0)
  have hframe : ((x.bumpCl p 10).traceTask p 3 d (taskStruct d) producer (flag reserved 0)).frame = s.frame := by
    obtain ⟨l, ks, o, hx⟩ := htrace.rest
    rw [hx]
  unfold State.refuseTask
  dsimp only
  rw [hframe, hexact]
  exact htrace

theorem State.Becomes.noteTaken (h : s.Becomes p c bk ss x) (d : TaskDesc) :
    s.Becomes p (c.took d) bk (notedStreams d ss) (x.noteTaken p d) := by
  have hstreams : s.Becomes p c bk (notedStreams d ss) (if isBlock d then x.streamOn d.stream fun y => { y with
      blocksAccepted := y.blocksAccepted + 1 } else x) := by
    unfold notedStreams
    split
    · exact h.stream _
    · exact h
  exact hstreams.mod (f := fun c => c.took d) (by intro; rfl)

theorem State.Becomes.holdOwn (h : s.Becomes p c bk ss x) (d : TaskDesc) :
    s.Becomes p { c with own := c.own ++ [d], ownFlow := c.ownFlow.offer } bk ss (x.holdOwn p d) :=
  h.mod (f := fun c => { c with own := c.own ++ [d], ownFlow := c.ownFlow.offer }) (by intro; rfl)

/-- A task new to a dispatcher input with room joins it. -/
theorem State.Becomes.newTask (h : s.Becomes p c bk ss x) {k : Nat} (hk : k < bk.length) (d : TaskDesc)
    (hnew : ∀ q ∈ (bk.getD k {}).dispatcher, q.task ≠ d) (hlist : d ∉ (bk.getD k {}).taskList)
    (hroom : (bk.getD k {}).dispatcher.length < 127) : s.Becomes p c (bk.modify k (Stack.queued d)) ss (x.newTask k d) := by
  have hstk := h.stk k
  have hdisp : (x.stk k).dispatcher = (bk.getD k {}).dispatcher := (congrArg Stack.dispatcher hstk :)
  have htasks : (x.stk k).taskList = (bk.getD k {}).taskList := (congrArg Stack.taskList hstk :)
  have hlen : bk.length = x.stks.length := by
    have hb := congrArg List.length h.books
    simpa using hb.symm
  have hoff : ((((x.stk k).dispatcher.any fun q => q.task == d) || (x.stk k).taskList.contains d)) = false := by
    rw [hdisp, htasks]
    simp only [Bool.or_eq_false_iff, List.any_eq_false, List.contains_eq_mem, decide_eq_false_iff_not]
    exact ⟨fun q hq => by simpa using hnew q hq, hlist⟩
  have hq := (h.stack (k := k) (f := fun x => { x with flow := x.flow.offer }) (by intro; rfl)).stack (k := k)
    (f := fun y => { y with dispatcher := y.dispatcher ++ [{ task := d }] }) (by intro; rfl)
  rw [List.modify_modify_eq] at hq
  unfold State.newTask
  dsimp only
  rw [hoff, if_neg Bool.false_ne_true, hdisp, if_neg (by change ¬128 ≤ _; omega)]
  unfold State.queueTask
  dsimp only
  have hfull : ¬(((x.modStk k fun x => { x with flow := x.flow.offer }).modStk k fun y => { y with
      dispatcher := y.dispatcher ++ [{ task := d }] }).stk k).dispatcher.length ≥ inputDepth := by
    have hmod := hq.stk k
    have hget : ((bk.modify k (Stack.queued d)).getD k {}) = (bk.getD k {}).queued d := getD_modify_self hk ..
    have hd := (congrArg Stack.dispatcher (hmod.trans (congrArg Stack.booked hget)) :)
    have hl := congrArg List.length hd
    have hq' : ((bk.getD k {}).queued d).booked.dispatcher.length = (bk.getD k {}).dispatcher.length + 1 := by
      simp [Stack.queued, Stack.booked]
    rw [hq'] at hl
    change ¬128 ≤ (Stack.booked _).dispatcher.length
    omega
  rw [if_neg hfull]
  exact hq

/-- A unit takes a task: the scheduler, and the cluster where the task is an assay's. -/
def Scheduler.dispatched (x : Scheduler) (unit : Nat) (h : Held) : Scheduler :=
  { x with rl := x.rl.filter (·.entry != h.entry), running := x.running ++ [(unit, h)] }

def Cluster.dispatched (c : Cluster) (unit : Nat) (h : Held) : Cluster :=
  let c := c.withSched (c.sched.dispatched unit h)
  if h.task.op = .assay then { c with test := { c.test with
    assaySig := List.replicate 8 0, assayComplete := false, assayFrameLo := 0, assayRunning := true } } else c

theorem State.Becomes.dispatch (h : s.Becomes p c bk ss x) (hp : p < 64) {unit : Nat} {e : Held}
    (hfirst : c.sched.firstFor unit = some e) : s.Becomes p (c.dispatched unit e) bk ss (x.dispatch p unit) := by
  have hsched := h.sched
  have hrun := ((h.sched_mod fun y => y.dispatched unit e).traceTask hp 4 e.task 1 0 0).event 0x09 unit e.task.layerId e.task.operatorId 1
  have hstep : x.dispatch p unit = if e.task.op = .assay then
      (((x.modSched p fun y => y.dispatched unit e).traceTask p 4 e.task 1 0 0).selEvent 0 p 0x09 unit e.task.layerId
        e.task.operatorId 1).assayBegins p else
      (((x.modSched p fun y => y.dispatched unit e).traceTask p 4 e.task 1 0 0).selEvent 0 p 0x09 unit e.task.layerId
        e.task.operatorId 1) := by
    unfold State.dispatch
    rw [hsched, hfirst]
    rfl
  rw [hstep]
  unfold Cluster.dispatched
  dsimp only
  split
  · exact hrun.mod (f := fun c => { c with test := { c.test with
      assaySig := List.replicate 8 0, assayComplete := false, assayFrameLo := 0, assayRunning := true } }) (by intro; rfl)
  · exact hrun

end

end Sys2Proof.Machine
end

section
/-!
SUPPORT. A task of the dispatcher input that its cluster takes (R245, R253), and the safety task of a slice (R250, R251).
-/
namespace Sys2Proof.Machine

/-! ## Offers -/

theorem State.admitTask_takes {p : Nat} {d : TaskDesc} {s : State} (producer : Nat) (yes no : State → State)
    (hroom : 1 + d.succExtra ≤ (s.cl p).sched.room (taskStruct d) d.safety) (hareas : isBlock d = true → s.areasFit p d.stream = true) :
    s.admitTask p d producer yes no = yes (s.enter p (taskStruct d) d producer) := by
  have hblock : ¬(isBlock d && !s.areasFit p d.stream) = true := by
    cases hb : isBlock d with
    | false => simp
    | true => simp [hareas hb]
  unfold State.admitTask
  dsimp only
  rw [if_neg (Nat.not_lt.mpr hroom), if_neg hblock]

theorem State.admitTask_refuses {p : Nat} {d : TaskDesc} {s : State} (producer : Nat) (yes no : State → State)
    (hroom : (s.cl p).sched.room (taskStruct d) d.safety < 1 + d.succExtra) :
    s.admitTask p d producer yes no =
      no (s.refuseTask p d producer (decide (1 + d.succExtra ≤ (s.cl p).sched.open_ (taskStruct d)))) := by
  unfold State.admitTask
  dsimp only
  rw [if_pos hroom]

/-- What the acceptance of a dispatcher's task writes beside the scheduler (R253, R254). -/
def State.offerTaken (p : Nat) (d : TaskDesc) (s : State) : State :=
  ((((s.modStk (stackOf p) fun x => { x with dispatcher := replaceFirst d none x.dispatcher, flow := x.flow.accept }).noteAffinity
    p d).noteBlock0 p d).noteTaken p d).issueCopy p d

/-- What a refusal leaves at the dispatcher input: the probe goes on (R253). -/
def State.offerKept (p : Nat) (q : Queued) (s : State) : State :=
  s.modStk (stackOf p) fun x => { x with dispatcher := replaceFirst q.task (some (s.probeNext p q)) x.dispatcher }

/-- A task that finds its cluster's ready list full is passed over. -/
def State.passedOver (s : State) (p : Nat) (q : Queued) : Bool :=
  !(s.pinnedNow q.task || s.frame.conf.exact || q.task.safety) && q.start.isNone && (s.cl p).sched.room 1 false == 0

theorem State.offerTo_eq (p : Nat) (q : Queued) (s : State) : s.offerTo p q =
    if s.barred p q.task || s.passedOver p q then s.offerKept p q
    else s.admitTask p q.task 0 (State.offerTaken p q.task) (State.offerKept p q) := rfl

theorem State.offerTo_takes {p : Nat} {q : Queued} {s : State} (hbar : s.barred p q.task = false) (hfull : s.passedOver p q = false)
    (hroom : 1 + q.task.succExtra ≤ (s.cl p).sched.room (taskStruct q.task) q.task.safety)
    (hareas : isBlock q.task = true → s.areasFit p q.task.stream = true) :
    s.offerTo p q = State.offerTaken p q.task (s.enter p (taskStruct q.task) q.task 0) := by
  rw [State.offerTo_eq, hbar, hfull]
  exact State.admitTask_takes 0 _ _ hroom hareas

/-! ## The safety task of a slice -/

section
variable {p : Nat} {c : Cluster} {bk : List Stack} {ss : List Stream} {s x : State}

/-- A stack whose first waiting task of a kind has been taken. -/
def Stack.given (d : TaskDesc) (x : Stack) : Stack :=
  { x with dispatcher := replaceFirst d none x.dispatcher, flow := x.flow.accept }

/-- The acceptance of a slice's task writes no stream. -/
theorem State.Becomes.safetyTaken (h : s.Becomes p c bk ss x) {op : TaskOp} (hop : op = .assay ∨ op = .rake) (release : Nat) :
    s.Becomes p (c.took (safetyDesc op release)) (bk.modify (stackOf p) (Stack.given (safetyDesc op release))) ss
      (State.offerTaken p (safetyDesc op release) x) := by
  generalize hd : safetyDesc op release = d
  have hstream : d.stream = 255 := hd ▸ rfl
  have hdop : d.op = op := hd ▸ rfl
  have hblock : isBlock d = false := by
    unfold isBlock
    rw [hdop]
    rcases hop with rfl | rfl <;> rfl
  have hcopy : (d.op == .block || d.op == .repairBlock) = false := by
    rw [hdop]
    rcases hop with rfl | rfl <;> rfl
  have hnot0 : (d.op == .context || d.op == .firstBlock) = false := by
    rw [hdop]
    rcases hop with rfl | rfl <;> rfl
  obtain ⟨hctx, hfirst⟩ := Bool.or_eq_false_iff.mp hnot0
  have hgiven := h.stack (k := stackOf p) (f := Stack.given d) (by intro; rfl)
  have hnoted := hgiven.noteTaken d
  have hss : notedStreams d ss = ss := by
    unfold notedStreams
    rw [hblock]
    rfl
  rw [hss] at hnoted
  have haff (y : State) : y.noteAffinity p d = y := by
    unfold State.noteAffinity
    rw [hstream]
    exact if_pos (by simp)
  have hzero (y : State) : y.noteBlock0 p d = y := by
    unfold State.noteBlock0
    rw [hctx, hfirst]
    exact if_neg (by simp)
  have hissue (y : State) : y.issueCopy p d = y := by
    unfold State.issueCopy
    split
    · rfl
    · dsimp only
      rw [hcopy]
      exact if_neg (by simp)
  have heq : State.offerTaken p d x = (x.modStk (stackOf p) (Stack.given d)).noteTaken p d := by
    unfold State.offerTaken
    rw [haff, hzero, hissue]
    rfl
  rw [heq]
  exact hnoted

theorem State.Becomes.barred (h : s.Becomes p c bk ss x) (d : TaskDesc) : x.barred p d = s.barred p d := by
  obtain ⟨l, ks, o, hx⟩ := h.rest
  rw [hx]
  rfl

theorem replaceFirst_append (d : TaskDesc) {l : List Queued} (h : ∀ q ∈ l, q.task ≠ d) :
    replaceFirst d none (l ++ [{ task := d }]) = l := by
  induction l with
  | nil => exact if_pos rfl
  | cons q l ih =>
    have hq : q.task ≠ d := h q (List.mem_cons_self ..)
    rw [List.cons_append, replaceFirst, if_neg hq, ih fun y hy => h y (List.mem_cons_of_mem _ hy)]

/-- A slice's task comes to the dispatcher and is taken in the same step (R251). -/
def State.sliceOffered (p : Nat) (op : TaskOp) (release : Nat) (s : State) : State :=
  if ((s.newTask (stackOf p) (safetyDesc op release)).stk (stackOf p)).dispatcher.any (·.task == safetyDesc op release) then
    (s.newTask (stackOf p) (safetyDesc op release)).offerTo p { task := safetyDesc op release }
  else s.newTask (stackOf p) (safetyDesc op release)

theorem State.safetyTask_eq (p : Nat) (op : TaskOp) (release : Nat) (s : State) : s.safetyTask p op release =
    (((((s.sliceOffered p op release).cl p).sched.dl.filter fun h => h.task.op == op).foldl (fun s h => s.release p h)
      (s.sliceOffered p op release)).takeFree p 4) := rfl

theorem State.Becomes.sliceOffered (h : s.Becomes p c bk ss x) (hp : p < 64) {op : TaskOp} (hop : op = .assay ∨ op = .rake)
    (release : Nat) (hk : stackOf p < bk.length) (hnew : ∀ q ∈ (bk.getD (stackOf p) {}).dispatcher, q.task.op ≠ op)
    (hlist : ∀ d ∈ (bk.getD (stackOf p) {}).taskList, d.op ≠ op) (hlen : (bk.getD (stackOf p) {}).dispatcher.length < 127)
    (hbar : s.barred p (safetyDesc op release) = false)
    (hroom : 0 < c.sched.open_ (taskStruct (safetyDesc op release))) :
    s.Becomes p ((c.entered (taskStruct (safetyDesc op release)) (safetyDesc op release)).took (safetyDesc op release))
      ((bk.modify (stackOf p) (Stack.queued (safetyDesc op release))).modify (stackOf p) (Stack.given (safetyDesc op release))) ss
      (x.sliceOffered p op release) := by
  have hdop : (safetyDesc op release).op = op := rfl
  have hsafe : (safetyDesc op release).safety = true := rfl
  have hextra : (safetyDesc op release).succExtra = 0 := rfl
  have hblock : isBlock (safetyDesc op release) = false := by
    unfold isBlock
    rw [hdop]
    rcases hop with rfl | rfl <;> rfl
  have htaken {y : State} {c' : Cluster} {bk' : List Stack} (hy : s.Becomes p c' bk' ss y) := hy.safetyTaken hop release
  unfold State.sliceOffered
  generalize safetyDesc op release = d at *
  have hq := h.newTask hk d (fun q hq he => hnew q hq (he ▸ hdop)) (fun hd => hlist d hd hdop) hlen
  have hany : ((x.newTask (stackOf p) d).stk (stackOf p)).dispatcher.any (·.task == d) = true := by
    have hdisp := (congrArg Stack.dispatcher (hq.stk (stackOf p)) :)
    have hget : (bk.modify (stackOf p) (Stack.queued d)).getD (stackOf p) {} = (bk.getD (stackOf p) {}).queued d :=
      getD_modify_self hk ..
    rw [hget] at hdisp
    have hmem : ({ task := d } : Queued) ∈ ((x.newTask (stackOf p) d).stk (stackOf p)).dispatcher :=
      hdisp ▸ List.mem_append_right _ (List.mem_singleton.mpr rfl)
    exact List.any_eq_true.mpr ⟨_, hmem, beq_self_eq_true d⟩
  rw [if_pos hany]
  have hroom' : 1 + d.succExtra ≤ ((x.newTask (stackOf p) d).cl p).sched.room (taskStruct d) d.safety := by
    rw [hq.sched, hsafe, hextra]
    exact hroom
  have hpass : (x.newTask (stackOf p) d).passedOver p { task := d } = false := by
    unfold State.passedOver
    rw [hsafe]
    simp
  rw [State.offerTo_takes (q := { task := d }) ((hq.barred d).trans hbar) hpass hroom' fun hb => absurd (hblock ▸ hb) Bool.false_ne_true]
  exact htaken (hq.enter hp (taskStruct d) d 0)

/-- A free unit takes the task that names it, unless a slice bars it. -/
theorem State.Becomes.takeFree (h : s.Becomes p c bk ss x) (hp : p < 64) {unit : Nat} {e : Held}
    (hfree : ∀ r ∈ c.sched.running, r.1 ≠ unit) (hfirst : c.sched.firstFor unit = some e) (hbar : s.barred p e.task = false) :
    s.Becomes p (c.dispatched unit e) bk ss (x.takeFree p unit) := by
  have hany : c.sched.running.any (·.1 == unit) = false := List.any_eq_false.mpr fun r hr => by simpa using hfree r hr
  have hdue : (!(x.cl p).sched.running.any (·.1 == unit) &&
      (((x.cl p).sched.firstFor unit).map fun h => !x.barred p h.task).getD false) = true := by
    rw [h.sched, hany, hfirst, Option.map_some, h.barred, hbar]
    rfl
  unfold State.takeFree
  dsimp only
  rw [State.when_pos hdue]
  exact h.dispatch hp hfirst

end

end Sys2Proof.Machine
end

section
/-!
SUPPORT. The assay slot (R404-R406): its start, its completion and its deadline.
-/
namespace Sys2Proof.Machine

theorem Scheduler.firstFor_append {x : Scheduler} {unit : Nat} (h : ∀ y ∈ x.rl, y.task.unit ≠ unit) {e : Held} (he : e.task.unit = unit)
    {y : Scheduler} (hy : y.rl = x.rl ++ [e]) : y.firstFor unit = some e := by
  have hnone : (x.rl.filter fun h => h.task.unit == unit) = [] := List.filter_eq_nil_iff.mpr fun z hz => by simpa using h z hz
  have hone : ([e].filter fun h => h.task.unit == unit) = [e] := by simp [he]
  unfold Scheduler.firstFor
  rw [hy, List.filter_append, hnone, hone]
  rfl

/-! ## Gating of an idle cluster -/

/-- A cluster apart from its gate, and a stack apart from its PLL. -/
def Cluster.ungated (c : Cluster) : Cluster := { c with gate := .on }
def Stack.running (x : Stack) : Stack := { x with pllStopped := false }

/-- `s'` differs from `s` at most by gates, PLLs and the SRAM. -/
structure State.Gated (s s' : State) : Prop where
  rest : ∃ l ks m, s' = { s with clusters := l, stks := ks, sram := m }
  clusters : s'.clusters.map Cluster.ungated = s.clusters.map Cluster.ungated
  stks : s'.stks.map Stack.running = s.stks.map Stack.running

theorem State.gated_refl (s : State) : s.Gated s := ⟨⟨_, _, _, rfl⟩, rfl, rfl⟩

theorem State.Gated.trans {a b c : State} (h : a.Gated b) (h' : b.Gated c) : a.Gated c := by
  obtain ⟨l, ks, m, hb⟩ := h.rest
  obtain ⟨l', ks', m', hc⟩ := h'.rest
  refine ⟨⟨l', ks', m', ?_⟩, h'.clusters.trans h.clusters, h'.stks.trans h.stks⟩
  rw [hc, hb]

theorem State.writeDrain_gated (p : Nat) (g : Bool) (s : State) : s.Gated (s.writeDrain p g) := by
  unfold State.writeDrain
  generalize (s.drainRecord p g).bytes = bs
  exact ⟨⟨s.clusters, s.stks, Mem.writeBytes (drainAddr p) bs s.sram, rfl⟩, rfl, rfl⟩

theorem State.modGate_gated (p : Nat) (g : Gate) (s : State) : s.Gated (s.modCl p fun c => { c with gate := g }) :=
  ⟨⟨_, _, _, rfl⟩, map_modify_of Cluster.ungated (by intro; rfl) _ _, rfl⟩

theorem State.stopPll_gated (k : Nat) (s : State) : s.Gated (s.stopPll k) := by
  unfold State.stopPll
  dsimp only
  split
  · exact ⟨⟨_, _, _, rfl⟩, rfl, map_modify_of Stack.running (by intro; rfl) _ _⟩
  · exact s.gated_refl

theorem State.gateIdle_gated (p : Nat) (s : State) : s.Gated (s.gateIdle p) := by
  unfold State.gateIdle
  dsimp only
  split
  · exact s.gated_refl
  · split
    · have hdrain : s.Gated (if (s.cl p).worked then s.writeDrain p false else s) := by
        split
        · exact State.writeDrain_gated ..
        · exact s.gated_refl
      exact (hdrain.trans (State.modGate_gated ..)).trans (State.stopPll_gated ..)
    · split
      · exact State.modGate_gated ..
      · exact s.gated_refl

theorem State.Gated.cl {s s' : State} (h : s.Gated s') (q : Nat) : (s'.cl q).ungated = (s.cl q).ungated := by
  have hmap (l : List Cluster) : (l.getD q {}).ungated = (l.map Cluster.ungated).getD q (Cluster.ungated {}) :=
    (List.getD_map ..).symm
  exact (hmap s'.clusters).trans ((congrArg (fun l => l.getD q (Cluster.ungated {})) h.clusters).trans (hmap s.clusters).symm)

theorem State.Gated.stk {s s' : State} (h : s.Gated s') (k : Nat) : (s'.stk k).running = (s.stk k).running := by
  have hmap (l : List Stack) : (l.getD k {}).running = (l.map Stack.running).getD k (Stack.running {}) :=
    (List.getD_map ..).symm
  exact (hmap s'.stks).trans ((congrArg (fun l => l.getD k (Stack.running {})) h.stks).trans (hmap s.stks).symm)

theorem State.Gated.length {s s' : State} (h : s.Gated s') : s'.clusters.length = s.clusters.length := by
  have hl := congrArg List.length h.clusters
  simpa using hl

/-! ## What a detection leaves of clusters and stacks -/

theorem State.detect_clusters (code stack cluster stream : Nat) (arg : List Byte) (s : State) :
    (s.detect code stack cluster stream arg).clusters = s.clusters := by
  have hreport : (s.faultReport code stack cluster stream arg).clusters = s.clusters := by
    simp only [State.faultReport, State.traceError_clusters, State.logError_clusters, (State.deviceEvent_atEvents ..).clusters]
    split <;> rfl
  have hleave (i : Nat) (x : State) : (x.faultLeave code i).clusters = x.clusters := by
    unfold State.faultLeave
    split
    · rw [State.dropWaiting_clusters, (State.sesTo_atEvents ..).clusters]
    · rfl
  have hdump (x : State) : (x.triggerDump code).clusters = x.clusters := by
    unfold State.triggerDump
    dsimp only
    split
    · rfl
    · split
      · rfl
      · split
        · rfl
        · exact (State.warn_atEvents ..).clusters
  unfold State.detect
  rw [State.faultReact_eq, State.ite_clusters, State.modSafety_clusters, ite_self, hdump,
    State.foldl_keeps (·.clusters) _ (fun x i => hleave i x), hreport]

theorem State.AtEvents.stks {s s' : State} (h : s.AtEvents s') : s'.stks = s.stks := by
  obtain ⟨pc, rs, ss, ho, l, rfl⟩ := h
  rfl

theorem State.traceError_stks (code cls stack cluster stream : Nat) (arg : List Byte) (s : State) :
    (s.traceError code cls stack cluster stream arg).stks = s.stks := by
  have htrace (source kind : Nat) (body : List Byte) (x : State) : (x.trace 4 source kind body).stks = x.stks := by
    unfold State.trace
    dsimp only
    generalize (if kind = 13 then _ else _ : List (List Byte)) = units
    split
    · rfl
    · split
      · split
        · rfl
        · rfl
      · rfl
  unfold State.traceError
  dsimp only
  rw [State.traceTrigger_stks, State.ite_stks, State.traceTrigger_stks, ite_self, htrace]

theorem State.detect_stks (code stack cluster stream : Nat) (arg : List Byte) (s : State) :
    (s.detect code stack cluster stream arg).stks = s.stks := by
  have hreport : (s.faultReport code stack cluster stream arg).stks = s.stks := by
    simp only [State.faultReport, State.traceError_stks, State.logError_stks, (State.deviceEvent_atEvents ..).stks]
    split <;> rfl
  have hleave (i : Nat) (x : State) : (x.faultLeave code i).stks = x.stks := by
    unfold State.faultLeave
    split
    · rw [State.dropWaiting_stks, (State.sesTo_atEvents ..).stks]
    · rfl
  have hdump (x : State) : (x.triggerDump code).stks = x.stks := by
    unfold State.triggerDump
    dsimp only
    split
    · rfl
    · split
      · rfl
      · split
        · rfl
        · exact (State.warn_atEvents ..).stks
  unfold State.detect
  rw [State.faultReact_eq, State.ite_stks, State.modSafety_stks, ite_self, hdump,
    State.foldl_keeps (·.stks) _ (fun x i => hleave i x), hreport]

end Sys2Proof.Machine
end

section
/-!
SUPPORT. The events of the assay slot (R404-R406), clause by clause.
-/
namespace Sys2Proof.Machine

/-! ## Changes of a slice's end -/

/-- Nothing changed but clusters, stacks and the SRAM. -/
def State.AtSlice (s s' : State) : Prop := ∃ l ks m, s' = { s with clusters := l, stks := ks, sram := m }

theorem State.AtSlice.trans {a b c : State} (h : a.AtSlice b) (h' : b.AtSlice c) : a.AtSlice c := by
  obtain ⟨l, ks, m, rfl⟩ := h
  obtain ⟨l', ks', m', rfl⟩ := h'
  exact ⟨l', ks', m', rfl⟩

theorem State.modCl_atSlice (p : Nat) (f : Cluster → Cluster) (s : State) : s.AtSlice (s.modCl p f) := ⟨_, _, _, rfl⟩
theorem State.modStk_atSlice (k : Nat) (f : Stack → Stack) (s : State) : s.AtSlice (s.modStk k f) := ⟨_, _, _, rfl⟩

theorem State.endSafety_atSlice (p : Nat) (op : TaskOp) (s : State) : s.AtSlice (s.endSafety p op) :=
  (State.modStk_atSlice ..).trans (State.modCl_atSlice ..)

theorem State.gateIdle_atSlice (p : Nat) (s : State) : s.AtSlice (s.gateIdle p) := (State.gateIdle_gated p s).rest

theorem State.AtSlice.time {s s' : State} (h : s.AtSlice s') : s'.time = s.time := by obtain ⟨l, ks, m, rfl⟩ := h; rfl
theorem State.AtSlice.safety {s s' : State} (h : s.AtSlice s') : s'.safety = s.safety := by obtain ⟨l, ks, m, rfl⟩ := h; rfl
theorem State.AtSlice.pending {s s' : State} (h : s.AtSlice s') : s'.pending = s.pending := by obtain ⟨l, ks, m, rfl⟩ := h; rfl

theorem State.AtSlice.frame_eq {s s' : State} (h : s.AtSlice s') :
    { s' with clusters := s.clusters, stks := s.stks, sram := s.sram } = s := by
  obtain ⟨l, ks, m, rfl⟩ := h
  rfl

/-- A fault's detection, and the SRAM. -/
def State.onlyFaultSram (s s' : State) : Prop := s.onlyFault { s' with sram := s.sram }

theorem State.onlyFault.sram {s s' : State} (h : s.onlyFault s') : s.onlyFaultSram s' := by
  have hsram := congrArg (fun x : State => { x with sram := s.sram }) h
  exact hsram

theorem State.onlyFaultSram_trans {a b c : State} (h : a.onlyFaultSram b) (h' : b.onlyFaultSram c) : a.onlyFaultSram c := by
  have hrest := congrArg (fun x : State => { x with
    time := a.time, safety := a.safety, errors := a.errors, obs := a.obs, frame := a.frame,
    mbx := { x.mbx with cmds := a.mbx.cmds }, rings := a.rings, sessions := a.sessions, pcie := a.pcie,
    clusters := a.clusters, stks := a.stks, hub := a.hub, host := a.host, free := a.free, sram := a.sram }) h'
  exact hrest.trans h

theorem State.AtSlice.onlyFaultSram {s s' : State} (h : s.AtSlice s') : s.onlyFaultSram s' := by
  obtain ⟨l, ks, m, rfl⟩ := h
  rfl

/-- The end of a slice's safety task leaves the tests of its cluster. -/
theorem State.endSafety_test {p : Nat} {s : State} (hp : p < s.clusters.length) (op : TaskOp) :
    ((s.endSafety p op).cl p).test = (s.cl p).test := by
  have hmod := State.cl_modCl (s := s.modStk (stackOf p) fun x => { x with
    dispatcher := x.dispatcher.filter fun q => q.task.op != op, taskList := x.taskList.filter fun d => d.op != op }) hp
    fun c => { c with sched := c.sched.remove (s.modStk (stackOf p) fun x => { x with
      dispatcher := x.dispatcher.filter fun q => q.task.op != op,
      taskList := x.taskList.filter fun d => d.op != op }).instantCycle fun h => h.task.op == op }
  exact (congrArg Cluster.test hmod :)

/-- The tests of a cluster after the safety task of a slice has ended there and the idle cluster was gated. -/
theorem State.sliceEnded_test {p : Nat} {s : State} (hp : p < s.clusters.length) (op : TaskOp) (f : ClusterTest → ClusterTest) :
    ((((s.endSafety p op).modTest p f).gateIdle p).cl p).test = f (s.cl p).test ∧
      (((s.endSafety p op).modTest p f).gateIdle p).clusters.length = s.clusters.length := by
  have hgated := State.gateIdle_gated p ((s.endSafety p op).modTest p f)
  have hlen : (s.endSafety p op).clusters.length = s.clusters.length := State.clusters_length_modCl ..
  have hcl : ((s.endSafety p op).modTest p f).cl p = { (s.endSafety p op).cl p with test := f ((s.endSafety p op).cl p).test } :=
    State.cl_modCl (hlen.symm ▸ hp) _
  have hend : ((s.endSafety p op).cl p).test = (s.cl p).test := State.endSafety_test hp op
  refine ⟨?_, hgated.length.trans ((State.clusters_length_modCl ..).trans hlen)⟩
  have htest := (congrArg Cluster.test (hgated.cl p) :)
  rw [← hend]
  exact htest.trans (congrArg Cluster.test hcl :)

/-! ## Signatures -/

theorem foldl_add_eq_zero (l : List Nat) : ∀ n, l.foldl (· + ·) n = 0 ↔ n = 0 ∧ ∀ x ∈ l, x = 0 := by
  induction l with
  | nil => simp
  | cons x l ih =>
    intro n
    rw [List.foldl_cons, ih]
    simp only [List.mem_cons, forall_eq_or_imp, Nat.add_eq_zero_iff, and_assoc]

theorem assayMask_eq_zero (golden sigs : List Nat) : assayMask golden sigs = 0 ↔ ∀ u < 8, sigs.getD u 0 = golden.getD u 0 := by
  have hflag (u : Nat) : flag (sigs.getD u 0 != golden.getD u 0) u = 0 ↔ sigs.getD u 0 = golden.getD u 0 := by
    unfold flag
    by_cases h : sigs.getD u 0 = golden.getD u 0
    · simp only [h, bne_self_eq_false, Bool.false_eq_true, if_false]
    · simp only [bne_iff_ne, ne_eq, h, not_false_eq_true, if_true, iff_false]
      exact Nat.ne_of_gt (Nat.two_pow_pos u)
  unfold assayMask sumN
  rw [foldl_add_eq_zero]
  simp only [true_and, List.mem_map, List.mem_range, forall_exists_index, and_imp, forall_apply_eq_imp_iff₂, hflag]

/-- The signatures that the SSV takes are the eight of the event. -/
theorem assaySigs_eq {sigs : List Nat} (h : sigs.length = 8) (hlt : ∀ x ∈ sigs, x < 2 ^ 64) :
    ((List.range 8).map fun u => sigs.getD u 0 % 2 ^ 64) = sigs := by
  refine List.ext_getElem (by simp [h]) fun i hi hi' => ?_
  have hget : sigs.getD i 0 = sigs[i] := by simp [List.getD, hi']
  rw [List.getElem_map, List.getElem_range, hget]
  exact Nat.mod_eq_of_lt (hlt _ (List.getElem_mem hi'))

section
variable {s : State} {k p : Nat} (t : Nat)

/-- ASSAY_START waits for 10 µs, and takes a cluster once a frame. -/
theorem assayStart_waits (hk : k < 4) (hc : (s.stk k).assayCluster = some p)
    (h : max s.time.now t < s.frame.openTime + 10 * ticksPerUs ∨ (∃ h ∈ (s.cl p).sched.tasks, h.task.op = .assay) ∨
      (s.cl p).test.assayComplete = true ∧ (s.cl p).test.assayFrameLo = s.frame.counter.toNat % 2 ^ 24) :
    ∃ s', exec (.assayStart k t) s = .next s' ∧ { s' with time := s.time } = s := by
  have hguard : below k 4 = true := by simp [below, hk]
  have hrow := (exec_assayStart k t s).trans (ranAt_pos hguard ..)
  have hsame : (s.at t).assayStart k = s.at t := by
    unfold State.assayStart
    rw [show ((s.at t).stk k).assayCluster = some p from hc]
    refine if_neg ?_
    rcases h with h | ⟨y, hy, hop⟩ | ⟨hdone, hframe⟩
    · have : decide (s.frame.openTime + 10 * ticksPerUs ≤ max s.time.now t) = false := decide_eq_false (Nat.not_le.mpr h)
      change ¬((s.at t).inFrame && decide (s.frame.openTime + 10 * ticksPerUs ≤ max s.time.now t) && _ && _) = true
      rw [this]
      simp
    · have : ((s.cl p).sched.tasks.any fun h => h.task.op == .assay) = true :=
        List.any_eq_true.mpr ⟨y, hy, by rw [hop]; rfl⟩
      change ¬((s.at t).inFrame && _ && !((s.cl p).sched.tasks.any fun h => h.task.op == .assay) && _) = true
      rw [this]
      simp
    · change ¬((s.at t).inFrame && _ && _ && !((s.cl p).test.assayComplete &&
        (s.cl p).test.assayFrameLo == s.frame.counter.toNat % 2 ^ 24)) = true
      rw [hdone, hframe]
      simp
  rw [hsame] at hrow
  exact ⟨_, hrow, rfl⟩

/-- ASSAY_START: the safety task comes to CC0 at once, which clears the registers. -/
theorem assayStart_takes (hp : p < 64) (hlen : s.clusters.length = 64) (hstks : s.stks.length = 4)
    (hc : (s.stk (stackOf p)).assayCluster = some p) (hin : s.inFrame = true)
    (hdue : s.frame.openTime + 10 * ticksPerUs ≤ max s.time.now t)
    (hnot : (s.cl p).test.assayComplete = false ∨ (s.cl p).test.assayFrameLo ≠ s.frame.counter.toNat % 2 ^ 24)
    (htasks : ∀ h ∈ (s.cl p).sched.tasks, h.task.op ≠ .assay ∧ h.task.unit ≠ 4) (hrun : ∀ r ∈ (s.cl p).sched.running, r.1 ≠ 4)
    (hopen : 0 < (s.cl p).sched.open_ 1) (hroom : (s.stk (stackOf p)).dispatcher.length < 127)
    (hdisp : ∀ q ∈ (s.stk (stackOf p)).dispatcher, q.task.op ≠ .assay) (hlist : ∀ d ∈ (s.stk (stackOf p)).taskList, d.op ≠ .assay) :
    ∃ s', exec (.assayStart (stackOf p) t) s = .next s' ∧ (s'.cl p).test.assayRunning = true ∧
      (s'.cl p).test.assaySig = List.replicate 8 0 ∧ (s'.cl p).test.assayFrameLo = 0 ∧ (∀ q, q ≠ p → s'.cl q = s.cl q) ∧
      (∃ h, (4, h) ∈ (s'.cl p).sched.running ∧ h.task.op = .assay ∧ h.task.safety = true) ∧
      { s' with time := s.time, clusters := s.clusters, stks := s.stks, obs := s.obs } = s := by
  have hk : stackOf p < 4 := by unfold stackOf; omega
  have hguard : below (stackOf p) 4 = true := by simp [below, hk]
  have hrow := (exec_assayStart (stackOf p) t s).trans (ranAt_pos hguard ..)
  have hnone : ((s.cl p).sched.tasks.any fun h => h.task.op == .assay) = false :=
    List.any_eq_false.mpr fun y hy => by simpa using (htasks y hy).1
  have hstart : (s.at t).assayStart (stackOf p) = (s.at t).safetyTask p .assay 0 := by
    unfold State.assayStart
    rw [show ((s.at t).stk (stackOf p)).assayCluster = some p from hc]
    refine if_pos ?_
    change ((s.at t).inFrame && decide (s.frame.openTime + 10 * ticksPerUs ≤ max s.time.now t) &&
      !((s.cl p).sched.tasks.any fun h => h.task.op == .assay) &&
      !((s.cl p).test.assayComplete && (s.cl p).test.assayFrameLo == s.frame.counter.toNat % 2 ^ 24)) = true
    rw [show (s.at t).inFrame = true from hin, decide_eq_true hdue, hnone]
    rcases hnot with h | h
    · rw [h]
      rfl
    · rw [beq_false_of_ne h, Bool.and_false]
      rfl
  have hself : (s.at t).Becomes p (s.cl p) s.stks s.streams (s.at t) :=
    State.becomes_self (s := s.at t) (hlen.symm ▸ hp : p < s.clusters.length)
  have hoff := hself.sliceOffered hp (.inl rfl) 0 (hstks.symm ▸ hk) hdisp hlist hroom (by simp [State.barred, safetyDesc]) hopen
  have hrl : ∀ y ∈ (s.cl p).sched.rl, y.task.unit ≠ 4 := fun y hy =>
    (htasks y (List.mem_append_left _ (List.mem_append_left _ (List.mem_append_right _ hy)))).2
  have hdl : ((s.cl p).sched.dl.filter fun h => h.task.op == .assay) = [] := List.filter_eq_nil_iff.mpr fun y hy => by
    simpa using (htasks y (List.mem_append_left _ (List.mem_append_right _ hy))).1
  have hfirst : ((s.cl p).sched.entered 1 (safetyDesc .assay 0)).firstFor 4 = some ((s.cl p).sched.newHeld 1 (safetyDesc .assay 0)) :=
    Scheduler.firstFor_append hrl rfl rfl
  have htake := hoff.takeFree hp (unit := 4) hrun hfirst (by simp [State.barred, Scheduler.newHeld, agedTask, safetyDesc, taskStruct])
  have hdl' : (((s.at t).sliceOffered p .assay 0).cl p).sched.dl = (s.cl p).sched.dl := (congrArg Scheduler.dl hoff.sched :)
  rw [hstart, State.safetyTask_eq, hdl', hdl] at hrow
  change exec (.assayStart (stackOf p) t) s = .next { ((s.at t).sliceOffered p .assay 0).takeFree p 4 with pending := s.pending } at hrow
  generalize ((s.at t).sliceOffered p .assay 0).takeFree p 4 = u at hrow htake
  have htest := (congrArg Cluster.test htake.cluster :)
  refine ⟨_, hrow, (congrArg ClusterTest.assayRunning htest :), (congrArg ClusterTest.assaySig htest :),
    (congrArg ClusterTest.assayFrameLo htest :), htake.others, ⟨(s.cl p).sched.newHeld 1 (safetyDesc .assay 0), ?_, rfl, rfl⟩, ?_⟩
  · have hrunning := (congrArg Scheduler.running htake.sched :)
    change (4, _) ∈ (u.cl p).sched.running
    rw [hrunning]
    exact List.mem_append_right _ (List.mem_singleton.mpr rfl)
  · have hframe := State.Becomes.frame_streams (s := s.at t) htake
    exact congrArg (fun x : State => { x with time := s.time, clusters := s.clusters, stks := s.stks, obs := s.obs, pending := s.pending }) hframe

end

end Sys2Proof.Machine
end

section
/-!
SUPPORT. The completion of the assay and its deadline (R405).
-/
namespace Sys2Proof.Machine

/-- What the completion of an assay writes to the tests of its cluster. -/
def ClusterTest.completed (sigs : List Nat) (frame : Nat) (x : ClusterTest) : ClusterTest :=
  { x with assaySig := sigs, assayComplete := true, assayFrameLo := frame % 2 ^ 24, assayRunning := false }

/-- The cluster after its assay: the task has left, and the idle cluster is gated. -/
def State.assayEnded (p : Nat) (sigs : List Nat) (s : State) : State :=
  ((s.endSafety p .assay).modTest p (ClusterTest.completed sigs s.frameNo)).gateIdle p

/-- ASSAY_FAIL with a mask of units. -/
def State.assayFails (k p mask : Nat) (s : State) : State := (s.bumpCl p 13).detect 0x0001 k p 0xFF (le 16 mask)

section
variable {s : State} {k p : Nat}

theorem State.assayEnded_slice (p : Nat) (sigs : List Nat) (s : State) : s.AtSlice (s.assayEnded p sigs) :=
  ((State.endSafety_atSlice ..).trans (State.modCl_atSlice ..)).trans (State.gateIdle_atSlice ..)

theorem State.assayFails_leaves {x : State} (hs : s.onlyFaultSram x) (hlen : p < x.clusters.length) (hroom : x.safety.latch.length < 32)
    (k mask : Nat) : s.onlyFaultSram (x.assayFails k p mask) ∧ ((x.assayFails k p mask).cl p).test = (x.cl p).test ∧
      (x.assayFails k p mask).faultLatched 0x0001 x.time.now ∧ (x.assayFails k p mask).pending = x.pending := by
  have hbump : x.onlyFaultSram (x.bumpCl p 13) := (State.modCl_atSlice ..).onlyFaultSram
  have hcl : ((x.bumpCl p 13).detect 0x0001 k p 0xFF (le 16 mask)).cl p = (x.bumpCl p 13).cl p :=
    congrArg (fun l : List Cluster => l.getD p {}) (State.detect_clusters ..)
  refine ⟨State.onlyFaultSram_trans hs (State.onlyFaultSram_trans hbump (State.detect_onlyFault ..).sram), ?_,
    State.detect_faultLatched (s := x.bumpCl p 13) hroom .., State.detect_pending ..⟩
  exact (congrArg Cluster.test hcl).trans (congrArg Cluster.test (State.cl_modCl hlen _) :)

theorem State.assayComplete_eq {t : Nat} {given sigs : List Nat} (hc : (s.stk k).assayCluster = some p) (hin : s.inFrame = true)
    (hrun : (s.cl p).test.assayRunning = true) (hsigs : ((List.range 8).map fun u => given.getD u 0 % 2 ^ 64) = sigs) :
    (s.at t).assayComplete k given =
      if !((s.at t).assayEnded p sigs).hub.secretsGolden then
        ((s.at t).assayEnded p sigs).fresh.2.assayFails k p (((s.at t).assayEnded p sigs).fresh.1.toNat % 255 + 1)
      else if assayMask (((s.at t).assayEnded p sigs).boot.golden.getD (((s.at t).assayEnded p sigs).frameNo % 16) []) sigs = 0 then
        (((s.at t).assayEnded p sigs).bumpCl p 12).modTest p fun x => { x with
          assayPassedAt := some (((s.at t).assayEnded p sigs).bumpCl p 12).time.now }
      else ((s.at t).assayEnded p sigs).assayFails k p
        (assayMask (((s.at t).assayEnded p sigs).boot.golden.getD (((s.at t).assayEnded p sigs).frameNo % 16) []) sigs) := by
  have hdue : ((s.at t).inFrame && ((s.at t).cl p).test.assayRunning) = true := by
    rw [show (s.at t).inFrame = true from hin, show ((s.at t).cl p).test.assayRunning = true from hrun]
    rfl
  unfold State.assayComplete
  rw [show ((s.at t).stk k).assayCluster = some p from hc]
  dsimp only
  rw [hsigs]
  exact State.when_pos hdue _ _

theorem State.at_onlyFaultSram {t : Nat} {x : State} (h : (s.at t).onlyFaultSram x) : s.onlyFaultSram x := by
  have hback := congrArg (fun y : State => { y with time := s.time }) h
  exact hback

/-- The cluster's tests once its assay has ended. -/
theorem State.assayEnded_test (hp : p < s.clusters.length) (sigs : List Nat) :
    ((s.assayEnded p sigs).cl p).test = (s.cl p).test.completed sigs s.frameNo ∧
      p < (s.assayEnded p sigs).clusters.length := by
  obtain ⟨htest, hlen⟩ := State.sliceEnded_test hp .assay (ClusterTest.completed sigs s.frameNo)
  exact ⟨htest, hlen.symm ▸ hp⟩

section
variable {sigs : List Nat} (t : Nat)

/-- The row of ASSAY_COMPLETE. -/
theorem assayComplete_row {s' : State} (hk : k < 4) (h8 : sigs.length = 8) (h : (s.at t).assayComplete k sigs = s')
    (hpending : s'.pending = s.pending) : exec (.assayComplete k sigs t) s = .next s' := by
  have hguard : (below k 4 && decide (sigs.length = 8)) = true := by simp [below, hk, h8]
  have hrow := (exec_assayComplete k sigs t s).trans (ranAt_pos hguard ..)
  rw [h] at hrow
  have hself : ({ s' with pending := (s.at t).pending } : State) = s' := by
    have : (s.at t).pending = s'.pending := hpending.symm
    rw [this]
  rw [hself] at hrow
  exact hrow

/-- ASSAY_COMPLETE writes the signatures, and ASSAY_FAIL where any differs from the golden ones. -/
theorem assayComplete_compares (hk : k < 4) (hp : p < 64) (hlen : s.clusters.length = 64) (hc : (s.stk k).assayCluster = some p)
    (hin : s.inFrame = true) (hroom : s.safety.latch.length < 32) (h8 : sigs.length = 8) (hlt : ∀ x ∈ sigs, x < 2 ^ 64)
    (hrun : (s.cl p).test.assayRunning = true) (hgold : s.hub.secretsGolden = true) :
    ∃ s', exec (.assayComplete k sigs t) s = .next s' ∧ (s'.cl p).test.assayComplete = true ∧
      (s'.cl p).test.assaySig = sigs ∧ (s'.cl p).test.assayFrameLo = s.frame.counter.toNat % 2 ^ 24 ∧
      (s'.cl p).test.assayRunning = false ∧
      ((∀ u < 8, sigs.getD u 0 = (s.boot.golden.getD (s.frame.counter.toNat % 16) []).getD u 0) →
        s'.safety = s.safety ∧ (s'.cl p).test.assayPassedAt = some (max s.time.now t) ∧
        { s' with time := s.time, clusters := s.clusters, stks := s.stks, sram := s.sram } = s) ∧
      ((∃ u < 8, sigs.getD u 0 ≠ (s.boot.golden.getD (s.frame.counter.toNat % 16) []).getD u 0) →
        s'.faultLatched 0x0001 (max s.time.now t) ∧ s.onlyFault { s' with sram := s.sram }) := by
  have heq := State.assayComplete_eq (t := t) hc hin hrun (assaySigs_eq h8 hlt)
  have hslice := State.assayEnded_slice p sigs (s.at t)
  obtain ⟨htest, hin'⟩ := State.assayEnded_test (s := s.at t) (p := p) (hlen.symm ▸ hp : p < s.clusters.length) sigs
  generalize (s.at t).assayEnded p sigs = z at heq hslice htest hin'
  have hhub : z.hub.secretsGolden = true := by obtain ⟨l, ks, m, rfl⟩ := hslice; exact hgold
  have hmask : assayMask (z.boot.golden.getD (z.frameNo % 16) []) sigs =
      assayMask (s.boot.golden.getD (s.frame.counter.toNat % 16) []) sigs := by obtain ⟨l, ks, m, rfl⟩ := hslice; rfl
  have hlatch : z.safety.latch.length < 32 := hslice.safety ▸ hroom
  have hnow : z.time.now = max s.time.now t := congrArg TimeBase.now hslice.time
  rw [hhub, if_neg (by simp), hmask] at heq
  by_cases hzero : assayMask (s.boot.golden.getD (s.frame.counter.toNat % 16) []) sigs = 0
  · rw [if_pos hzero] at heq
    have hall := (assayMask_eq_zero _ _).mp hzero
    have hfinal : (z.bumpCl p 12).modTest p (fun x => { x with assayPassedAt := some (z.bumpCl p 12).time.now }) =
        z.modCl p fun c => { c with counters := bumpAt c.counters 12, test := { c.test with assayPassedAt := some z.time.now } } :=
      State.modCl_modCl ..
    rw [hfinal] at heq
    have hcl := State.cl_modCl hin' fun c => { c with
      counters := bumpAt c.counters 12, test := { c.test with assayPassedAt := some z.time.now } }
    rw [hnow] at hcl heq
    have htest' := (congrArg Cluster.test hcl).trans (congrArg (fun x : ClusterTest => { x with
      assayPassedAt := some (max s.time.now t) }) htest)
    have hrow := assayComplete_row t hk h8 heq hslice.pending
    refine ⟨_, hrow, (congrArg ClusterTest.assayComplete htest' :), (congrArg ClusterTest.assaySig htest' :),
      (congrArg ClusterTest.assayFrameLo htest' :), (congrArg ClusterTest.assayRunning htest' :),
      fun _ => ⟨hslice.safety, (congrArg ClusterTest.assayPassedAt htest' :), ?_⟩, fun ⟨u, hu, hne⟩ => absurd (hall u hu) hne⟩
    have hframe := congrArg (fun x : State => { x with time := s.time }) (State.AtSlice.frame_eq hslice)
    exact hframe
  · rw [if_neg hzero] at heq
    obtain ⟨honly, hcl, hfault, hpending⟩ := State.assayFails_leaves hslice.onlyFaultSram hin' hlatch k
      (assayMask (s.boot.golden.getD (s.frame.counter.toNat % 16) []) sigs)
    rw [hnow] at hfault
    generalize z.assayFails k p _ = s' at heq honly hcl hfault hpending
    have htest' := hcl.trans htest
    have hrow := assayComplete_row t hk h8 heq (hpending.trans hslice.pending)
    exact ⟨s', hrow, (congrArg ClusterTest.assayComplete htest' :), (congrArg ClusterTest.assaySig htest' :),
      (congrArg ClusterTest.assayFrameLo htest' :), (congrArg ClusterTest.assayRunning htest' :),
      fun hall => absurd ((assayMask_eq_zero _ _).mpr hall) hzero, fun _ => ⟨hfault, State.at_onlyFaultSram honly⟩⟩

/-- With the golden data wiped every assay fails (R406). -/
theorem assayComplete_wiped (hk : k < 4) (hp : p < 64) (hlen : s.clusters.length = 64) (hc : (s.stk k).assayCluster = some p)
    (hin : s.inFrame = true) (hroom : s.safety.latch.length < 32) (h8 : sigs.length = 8)
    (hrun : (s.cl p).test.assayRunning = true) (hgold : s.hub.secretsGolden = false) :
    ∃ s', exec (.assayComplete k sigs t) s = .next s' ∧ (s'.cl p).test.assayComplete = true ∧
      s'.faultLatched 0x0001 (max s.time.now t) ∧ s.onlyFault { s' with sram := s.sram } := by
  generalize hsigs : ((List.range 8).map fun u => sigs.getD u 0 % 2 ^ 64) = taken
  have heq := State.assayComplete_eq (t := t) hc hin hrun hsigs
  have hslice := State.assayEnded_slice p taken (s.at t)
  obtain ⟨htest, hin'⟩ := State.assayEnded_test (s := s.at t) (p := p) (hlen.symm ▸ hp : p < s.clusters.length) taken
  generalize (s.at t).assayEnded p taken = z at heq hslice htest hin'
  have hhub : z.hub.secretsGolden = false := by obtain ⟨l, ks, m, rfl⟩ := hslice; exact hgold
  have hlatch : z.fresh.2.safety.latch.length < 32 := (hslice.safety ▸ hroom : z.safety.latch.length < 32)
  have hnow : z.fresh.2.time.now = max s.time.now t := congrArg TimeBase.now hslice.time
  have hfresh : (s.at t).onlyFaultSram z.fresh.2 := by
    have hfree := congrArg (fun x : State => { x with free := s.free }) hslice.onlyFaultSram
    exact hfree
  rw [hhub, if_pos (by rfl)] at heq
  obtain ⟨honly, hcl, hfault, hpending⟩ := State.assayFails_leaves hfresh hin' hlatch k (z.fresh.1.toNat % 255 + 1)
  rw [hnow] at hfault
  generalize z.fresh.2.assayFails k p _ = s' at heq honly hcl hfault hpending
  have hrow := assayComplete_row t hk h8 heq (hpending.trans hslice.pending)
  exact ⟨s', hrow, (congrArg ClusterTest.assayComplete (hcl.trans htest) :), hfault, State.at_onlyFaultSram honly⟩

end

end

end Sys2Proof.Machine
end

section
/-!
SUPPORT. The end of the assay slot at 40 µs, and the items of the rake (R405, R407, R408, R424).
-/
namespace Sys2Proof.Machine

/-- The cluster joins frame work at the end of its slot. -/
def State.slotEnded (k p : Nat) (s : State) : State :=
  ((s.endSafety p .assay).modStk k fun x => { x with assayCluster := none }).gateIdle p

section
variable {s : State} {k p : Nat} (t : Nat)

theorem State.slotEnded_slice (k p : Nat) (s : State) : s.AtSlice (s.slotEnded k p) :=
  ((State.endSafety_atSlice ..).trans (State.modStk_atSlice ..)).trans (State.gateIdle_atSlice ..)

theorem State.slotEnded_stk (hk : k < s.stks.length) (p : Nat) : ((s.slotEnded k p).stk k).assayCluster = none := by
  have hlen : k < (s.endSafety p .assay).stks.length := by
    change k < (s.stks.modify (stackOf p) _).length
    rw [List.length_modify]
    exact hk
  have hmod := State.stk_modStk hlen fun x => { x with assayCluster := none }
  have hgated := (State.gateIdle_gated p ((s.endSafety p .assay).modStk k fun x => { x with assayCluster := none })).stk k
  exact (congrArg Stack.assayCluster hgated :).trans (congrArg Stack.assayCluster hmod :)

/-- The frame's signatures stand in the cluster's registers. -/
def ClusterTest.doneIn (x : ClusterTest) (frame : Nat) : Bool := x.assayComplete && x.assayFrameLo == frame % 2 ^ 24

theorem assayLate_runs (hk : k < 4) (hc : (s.stk k).assayCluster = some p) (hin : s.inFrame = true)
    (hdue : s.frame.openTime + 40 * ticksPerUs ≤ max s.time.now t) :
    exec (.assayLate k t) s = .next { (if (s.cl p).test.doneIn s.frameNo then (s.at t).slotEnded k p else
      (((s.at t).slotEnded k p).modTest p fun x => { x with assayRunning := false }).detect 0x0002 k p 0xFF []) with
      pending := s.pending } := by
  have hguard : below k 4 = true := by simp [below, hk]
  have hrow := (exec_assayLate k t s).trans (ranAt_pos hguard ..)
  have hdue' : ((s.at t).inFrame && decide ((s.at t).frame.openTime + 40 * ticksPerUs ≤ (s.at t).time.now)) = true := by
    rw [show (s.at t).inFrame = true from hin]
    exact decide_eq_true hdue
  have hstep : (s.at t).assayLate k = if (s.cl p).test.doneIn s.frameNo then (s.at t).slotEnded k p else
      (((s.at t).slotEnded k p).modTest p fun x => { x with assayRunning := false }).detect 0x0002 k p 0xFF [] := by
    unfold State.assayLate
    rw [show ((s.at t).stk k).assayCluster = some p from hc]
    exact State.when_pos hdue' _ _
  rw [hstep] at hrow
  exact hrow

theorem assayLate_ends (hk : k < 4) (hstks : s.stks.length = 4) (hc : (s.stk k).assayCluster = some p)
    (hin : s.inFrame = true) (hroom : s.safety.latch.length < 32) (hdue : s.frame.openTime + 40 * ticksPerUs ≤ max s.time.now t) :
    ∃ s', exec (.assayLate k t) s = .next s' ∧ (s'.stk k).assayCluster = none ∧
      ((s.cl p).test.assayComplete = true → (s.cl p).test.assayFrameLo = s.frame.counter.toNat % 2 ^ 24 →
        s'.safety = s.safety ∧ { s' with time := s.time, stks := s.stks, clusters := s.clusters, sram := s.sram } = s) ∧
      ((s.cl p).test.assayComplete = false ∨ (s.cl p).test.assayFrameLo ≠ s.frame.counter.toNat % 2 ^ 24 →
        s'.faultLatched 0x0002 (max s.time.now t) ∧ s.onlyFault { s' with sram := s.sram }) := by
  have hrow := assayLate_runs t hk hc hin hdue
  have hslice := State.slotEnded_slice k p (s.at t)
  have hstk := State.slotEnded_stk (s := s.at t) (k := k) (hstks.symm ▸ hk : k < s.stks.length) p
  generalize (s.at t).slotEnded k p = z at hrow hslice hstk
  cases hdone : (s.cl p).test.doneIn s.frameNo with
  | true =>
    rw [hdone, if_pos rfl] at hrow
    have hboth := Bool.and_eq_true_iff.mp hdone
    have hframe := congrArg (fun x : State => { x with time := s.time, pending := s.pending }) hslice.frame_eq
    refine ⟨_, hrow, hstk, fun _ _ => ⟨hslice.safety, hframe⟩, fun h => ?_⟩
    rcases h with h | h
    · exact absurd hboth.1 (by rw [h]; exact Bool.false_ne_true)
    · exact absurd (beq_iff_eq.mp hboth.2) h
  | false =>
    rw [hdone, if_neg Bool.false_ne_true] at hrow
    have hlatch : (z.modTest p fun x => { x with assayRunning := false }).safety.latch.length < 32 :=
      (hslice.safety ▸ hroom : z.safety.latch.length < 32)
    have hnow : (z.modTest p fun x => { x with assayRunning := false }).time.now = max s.time.now t :=
      congrArg TimeBase.now hslice.time
    have hfault := State.detect_faultLatched hlatch 0x0002 k p 0xFF []
    rw [hnow] at hfault
    have hstk' : (((z.modTest p fun x => { x with assayRunning := false }).detect 0x0002 k p 0xFF []).stk k).assayCluster = none :=
      (congrArg (fun l : List Stack => (l.getD k {}).assayCluster) (State.detect_stks ..)).trans hstk
    have honly : s.onlyFaultSram ((z.modTest p fun x => { x with assayRunning := false }).detect 0x0002 k p 0xFF []) :=
      State.at_onlyFaultSram (State.onlyFaultSram_trans (hslice.trans (State.modCl_atSlice ..)).onlyFaultSram
        (State.detect_onlyFault ..).sram)
    have hpending : ((z.modTest p fun x => { x with assayRunning := false }).detect 0x0002 k p 0xFF []).pending = s.pending :=
      (State.detect_pending ..).trans hslice.pending
    generalize (z.modTest p fun x => { x with assayRunning := false }).detect 0x0002 k p 0xFF [] = u at hrow hfault hstk' honly hpending
    have hself : ({ u with pending := s.pending } : State) = u := by rw [← hpending]
    rw [hself] at hrow
    refine ⟨u, hrow, hstk', fun hcomplete hframe => absurd hdone ?_, fun _ => ⟨hfault, honly⟩⟩
    unfold ClusterTest.doneIn
    rw [hcomplete, hframe]
    simp [State.frameNo]

end

/-! ## Rake items -/

/-- The events of an item that restarts its age. -/
def State.itemRun (unit item : Nat) (s : State) : State :=
  s.modSafety (Safety.modItem unit item fun i => { i with last := s.time.now, warned := false })

/-- What an item's run and its set's sequence change: tests and counters of clusters, gates, the rake's place, and an event. -/
def State.rakeSteps (unit item taps : Nat) (temp : Int) (osc : List Nat) (s : State) : State :=
  (if unit < 64 ∧ item = 11 then (s.itemRun unit item).rakeMonitor unit taps temp osc else s.itemRun unit item).rakeNext unit item

theorem rakeItem_row {s : State} {unit item : Nat} (hok : rakeItemOk unit item = true) (ok : Bool) (taps : Nat) (temp : Int)
    (osc : List Nat) (t : Nat) : exec (.rakeItemDone unit item ok taps temp osc t) s =
      .next { (s.at t).rakeItemDone unit item ok taps temp osc with pending := s.pending } :=
  (exec_rakeItemDone ..).trans (ranAt_pos hok ..)

theorem State.rakeItemDone_due {s : State} {unit item : Nat} {t : Nat} (hgrid : s.gridRuns = true) (hphase : s.frame.phase = .rake)
    (hdue : s.rakeDue unit item = true) (hbefore : max s.time.now t < s.frame.rakeAt + 20 * ticksPerUs) (ok : Bool) (taps : Nat)
    (temp : Int) (osc : List Nat) : (s.at t).rakeItemDone unit item ok taps temp osc =
      if ok then (s.at t).rakeSteps unit item taps temp osc
      else ((s.at t).rakeSteps unit item taps temp osc).detect 0x0003 (rakePlace unit).1 (rakePlace unit).2 0xFF (rakeArg unit item) := by
  have hcond : ((s.at t).gridRuns && (s.at t).frame.phase == .rake &&
      decide ((s.at t).time.now < (s.at t).frame.rakeAt + 20 * ticksPerUs) && (s.at t).rakeDue unit item) = true := by
    rw [show (s.at t).gridRuns = true from hgrid, show (s.at t).frame.phase = .rake from hphase,
      show (s.at t).rakeDue unit item = true from hdue, show decide ((s.at t).time.now < (s.at t).frame.rakeAt + 20 * ticksPerUs) = true
        from decide_eq_true hbefore]
    rfl
  exact State.when_pos hcond _ _

theorem rakeItemDone_waits {s : State} {unit item : Nat} {t : Nat} (hok : rakeItemOk unit item = true) (ok : Bool) (taps : Nat)
    (temp : Int) (osc : List Nat)
    (h : s.frame.phase ≠ .rake ∨ s.rakeDue unit item = false ∨ s.frame.rakeAt + 20 * ticksPerUs ≤ max s.time.now t) :
    ∃ s', exec (.rakeItemDone unit item ok taps temp osc t) s = .next s' ∧ { s' with time := s.time } = s := by
  have hcond : ¬((s.at t).gridRuns && (s.at t).frame.phase == .rake &&
      decide ((s.at t).time.now < (s.at t).frame.rakeAt + 20 * ticksPerUs) && (s.at t).rakeDue unit item) = true := by
    rcases h with h | h | h
    · rw [show ((s.at t).frame.phase == .rake) = false from beq_false_of_ne h]
      simp
    · rw [show (s.at t).rakeDue unit item = false from h]
      simp
    · rw [show decide ((s.at t).time.now < (s.at t).frame.rakeAt + 20 * ticksPerUs) = false from decide_eq_false (Nat.not_lt.mpr h)]
      simp
  have hsame : (s.at t).rakeItemDone unit item ok taps temp osc = s.at t := if_neg hcond
  have hrow := rakeItem_row (s := s) hok ok taps temp osc t
  rw [hsame] at hrow
  exact ⟨_, hrow, rfl⟩

end Sys2Proof.Machine
end

section
/-!
SUPPORT. The run of a rake item, and the obligation on background tests, assay and rake (R284, R285, R404-R408, R424).
-/
namespace Sys2Proof.Machine

theorem State.rakeCycleNote_eq (n : Nat) (s : State) :
    ∃ c l, s.rakeCycleNote n = s.modSafety fun x => { x with rakeCycle := c, rakeDone := l } := by
  unfold State.rakeCycleNote
  dsimp only
  split
  · exact ⟨s.safety.rakeCycle + 1, [], rfl⟩
  · exact ⟨s.safety.rakeCycle, _, rfl⟩

theorem State.AtEvents.onlyFault {s s' : State} (h : s.AtEvents s') : s.onlyFault s' := by
  obtain ⟨pc, rs, ss, ho, l, rfl⟩ := h
  rfl

/-- Item 11 reads its cluster's monitors, and an event may go out (R424, R427). -/
theorem State.rakeMonitor_reads (p taps : Nat) (raw : Int) (osc : List Nat) (s : State) :
    ∃ f : ClusterTest → ClusterTest, (∀ x, (f x).taps = taps ∧ (f x).slackRead = true) ∧
      (s.modTest p f).AtEvents (s.rakeMonitor p taps raw osc) := by
  refine ⟨_, ?_, State.ite_warn_atEvents ..⟩
  exact fun x => ⟨rfl, rfl⟩

/-- What the run of an item leaves. -/
structure State.ItemRan (unit item taps : Nat) (s s' : State) : Prop where
  only : s.onlyFaultSram s'
  items : s'.safety.rakeItems = s.safety.rakeItems
  latch : s'.safety.latch = s.safety.latch
  time : s'.time = s.time
  pending : s'.pending = s.pending
  hub : unit = 64 → s'.safety.rakeHubNext = item % 16
  stack : unit < 64 → (s'.stk (unit / 16)).rakeNext = item % 11
  monitors : unit < 64 → item = 11 → (s'.cl unit).test.taps = taps ∧ (s'.cl unit).test.slackRead = true ∧
    (s'.stk (unit / 16)).rakeTarget = none

/-- The sequence of the hub's set moves on. -/
theorem State.rakeNext_hub (item taps : Nat) (s : State) : State.ItemRan 64 item taps s (s.rakeNext 64 item) := by
  obtain ⟨n, l, hnote⟩ := State.rakeCycleNote_eq (63 + item) (s.modSafety fun x => { x with rakeHubNext := item % 16 })
  have hnext : s.rakeNext 64 item = (s.modSafety fun x => { x with rakeHubNext := item % 16 }).rakeCycleNote (63 + item) := if_pos rfl
  rw [hnext, hnote]
  exact ⟨rfl, rfl, rfl, rfl, rfl, fun _ => rfl, fun h => absurd h (by decide), fun h => absurd h (by decide)⟩

/-- The sequence of a cluster's set moves on (R407). -/
def State.setMoved (unit item : Nat) (s : State) : State :=
  s.modStk (stackOf unit) fun x => { x with rakeNext := item % 11, rakeTarget := if item = 11 then none else x.rakeTarget }

/-- The last item of a cluster's set ends its safety task. -/
def State.setEnded (unit : Nat) (s : State) : State := ((s.endSafety unit .rake).bumpCl unit 14).gateIdle unit

theorem State.rakeNext_cluster {unit : Nat} (hu : unit < 64) (item : Nat) (s : State) : s.rakeNext unit item =
    if item = 11 then ((s.setMoved unit item).setEnded unit).rakeCycleNote unit else s.setMoved unit item :=
  if_neg (Nat.ne_of_lt hu)

theorem State.setMoved_stk {unit : Nat} (hu : unit < 64) (item : Nat) {s : State} (hstks : s.stks.length = 4) :
    ((s.setMoved unit item).stk (unit / 16)).rakeNext = item % 11 ∧
      (item = 11 → ((s.setMoved unit item).stk (unit / 16)).rakeTarget = none) := by
  have hmod := State.stk_modStk (s := s) (k := unit / 16) (by omega)
    fun x => { x with rakeNext := item % 11, rakeTarget := if item = 11 then none else x.rakeTarget }
  refine ⟨(congrArg Stack.rakeNext hmod :), fun h => ?_⟩
  exact (congrArg Stack.rakeTarget hmod :).trans (if_pos h)

theorem State.setEnded_slice (unit : Nat) (s : State) : s.AtSlice (s.setEnded unit) :=
  ((State.endSafety_atSlice ..).trans (State.modCl_atSlice ..)).trans (State.gateIdle_atSlice ..)

theorem State.setEnded_stk (unit k : Nat) (s : State) : ((s.setEnded unit).stk k).rakeNext = (s.stk k).rakeNext ∧
    ((s.setEnded unit).stk k).rakeTarget = (s.stk k).rakeTarget := by
  have hgated := (State.gateIdle_gated unit ((s.endSafety unit .rake).bumpCl unit 14)).stk k
  have hend : ((s.endSafety unit .rake).stk k).rakeNext = (s.stk k).rakeNext ∧
      ((s.endSafety unit .rake).stk k).rakeTarget = (s.stk k).rakeTarget := by
    have hmap := map_modify_of (fun x : Stack => (x.rakeNext, x.rakeTarget)) (g := fun x : Stack => { x with
      dispatcher := x.dispatcher.filter fun q => q.task.op != .rake, taskList := x.taskList.filter fun d => d.op != .rake })
      (by intro; rfl) s.stks (stackOf unit)
    have hget (l : List Stack) : ((l.getD k {}).rakeNext, (l.getD k {}).rakeTarget) =
        (l.map fun x : Stack => (x.rakeNext, x.rakeTarget)).getD k ((({} : Stack)).rakeNext, (({} : Stack)).rakeTarget) :=
      (List.getD_map (n := k) l {} fun x : Stack => (x.rakeNext, x.rakeTarget)).symm
    have hpair := (hget (s.endSafety unit .rake).stks).trans
      ((congrArg (fun l => l.getD k ((({} : Stack)).rakeNext, (({} : Stack)).rakeTarget)) hmap).trans (hget s.stks).symm)
    exact Prod.mk.inj hpair
  exact ⟨(congrArg Stack.rakeNext hgated :).trans hend.1, (congrArg Stack.rakeTarget hgated :).trans hend.2⟩

theorem State.setEnded_test {unit : Nat} {s : State} (hu : unit < s.clusters.length) :
    ((s.setEnded unit).cl unit).test = (s.cl unit).test := by
  have hgated := State.gateIdle_gated unit ((s.endSafety unit .rake).bumpCl unit 14)
  have hcl := (congrArg Cluster.test (hgated.cl unit) :)
  exact (hcl.trans (State.bumpCl_test ..)).trans (State.endSafety_test hu .rake)

theorem State.rakeNext_ran {unit item taps : Nat} {s : State} (hu : unit < 64) (hlen : s.clusters.length = 64) (hstks : s.stks.length = 4)
    (hread : item = 11 → (s.cl unit).test.taps = taps ∧ (s.cl unit).test.slackRead = true) :
    State.ItemRan unit item taps s (s.rakeNext unit item) := by
  have hmoved : s.AtSlice (s.setMoved unit item) := State.modStk_atSlice ..
  obtain ⟨hnext, htarget⟩ := State.setMoved_stk hu item hstks
  rw [State.rakeNext_cluster hu]
  split
  · next h11 =>
    obtain ⟨n, l, hnote⟩ := State.rakeCycleNote_eq unit ((s.setMoved unit item).setEnded unit)
    have hslice := hmoved.trans (State.setEnded_slice unit _)
    obtain ⟨hn, ht⟩ := State.setEnded_stk unit (unit / 16) (s.setMoved unit item)
    have htest := State.setEnded_test (s := s.setMoved unit item) (unit := unit) (hlen.symm ▸ hu : unit < s.clusters.length)
    rw [hnote]
    generalize (s.setMoved unit item).setEnded unit = z at hslice hn ht htest
    have hsafe := hslice.safety
    obtain ⟨htaps, hslack⟩ := hread h11
    refine ⟨?_, (congrArg Safety.rakeItems hsafe :), (congrArg Safety.latch hsafe :), hslice.time, hslice.pending,
      fun h => absurd h (Nat.ne_of_lt hu), fun _ => hn.trans hnext, fun _ _ => ⟨?_, ?_, ht.trans (htarget h11)⟩⟩
    · have hany := congrArg (fun x : State => { x with safety := s.safety }) hslice.onlyFaultSram
      exact hany
    · exact (congrArg ClusterTest.taps htest :).trans htaps
    · exact (congrArg ClusterTest.slackRead htest :).trans hslack
  · next h11 =>
    exact ⟨hmoved.onlyFaultSram, rfl, rfl, rfl, rfl, fun h => absurd h (Nat.ne_of_lt hu), fun _ => hnext, fun _ h => absurd h h11⟩

/-- The run of an item, from the monitors of item 11 to the next item of its set. -/
theorem State.rakeSteps_ran {unit item : Nat} {s : State} (hok : rakeItemOk unit item = true) (hlen : s.clusters.length = 64)
    (hstks : s.stks.length = 4) (taps : Nat) (temp : Int) (osc : List Nat) :
    State.ItemRan unit item taps (s.itemRun unit item) (s.rakeSteps unit item taps temp osc) := by
  unfold State.rakeSteps
  have hlen' : (s.itemRun unit item).clusters.length = 64 := hlen
  have hstks' : (s.itemRun unit item).stks.length = 4 := hstks
  generalize s.itemRun unit item = a at hlen' hstks'
  by_cases hu : unit < 64
  · by_cases h11 : item = 11
    · rw [if_pos ⟨hu, h11⟩]
      obtain ⟨f, hf, hevents⟩ := State.rakeMonitor_reads unit taps temp osc a
      generalize a.rakeMonitor unit taps temp osc = b at hevents
      have hcls : b.clusters = (a.modTest unit f).clusters := hevents.clusters
      have hblen : b.clusters.length = 64 := by
        rw [hcls]
        exact (State.clusters_length_modCl ..).trans hlen'
      have hbstks : b.stks.length = 4 := by rw [hevents.stks]; exact hstks'
      have htest : (b.cl unit).test = f (a.cl unit).test := by
        have hcl : b.cl unit = (a.modTest unit f).cl unit := congrArg (fun l : List Cluster => l.getD unit {}) hcls
        rw [hcl]
        exact (congrArg Cluster.test (State.cl_modCl (s := a) (hlen'.symm ▸ hu) fun c => { c with test := f c.test }) :)
      have hread : (b.cl unit).test.taps = taps ∧ (b.cl unit).test.slackRead = true := by
        rw [htest]
        exact hf _
      have hran := State.rakeNext_ran (item := item) hu hblen hbstks fun _ => hread
      have hpre : a.onlyFaultSram b := State.onlyFaultSram_trans (State.modCl_atSlice unit _ a).onlyFaultSram hevents.onlyFault.sram
      obtain ⟨pc, rs, se, ho, l, hb⟩ := hevents
      have hsafe : b.safety = a.safety := by rw [hb]; rfl
      have htime : b.time = a.time := by rw [hb]; rfl
      have hpend : b.pending = a.pending := by rw [hb]; rfl
      exact ⟨State.onlyFaultSram_trans hpre hran.only, hran.items.trans (congrArg Safety.rakeItems hsafe),
        hran.latch.trans (congrArg Safety.latch hsafe), hran.time.trans htime, hran.pending.trans hpend, hran.hub, hran.stack,
        hran.monitors⟩
    · rw [if_neg fun h => h11 h.2]
      exact State.rakeNext_ran hu hlen' hstks' fun h => absurd h h11
  · have h64 : unit = 64 := by
      have := hok
      simp only [rakeItemOk, below, Bool.and_eq_true, Bool.or_eq_true, decide_eq_true_eq, beq_iff_eq] at this
      omega
    subst h64
    rw [if_neg fun h => hu h.1]
    exact State.rakeNext_hub item taps a

/-! ## RAKE_ITEM_DONE -/

theorem Safety.modItem_items (unit item now : Nat) (x : Safety) :
    (∀ r ∈ (Safety.modItem unit item (fun i => { i with last := now, warned := false }) x).rakeItems,
      r.unit = unit → r.item = item → r.last = now ∧ r.warned = false) ∧
    ∀ r ∈ x.rakeItems, r.unit ≠ unit ∨ r.item ≠ item →
      r ∈ (Safety.modItem unit item (fun i => { i with last := now, warned := false }) x).rakeItems := by
  constructor
  · intro r hr hunit hitem
    obtain ⟨i, -, rfl⟩ := List.mem_map.mp hr
    by_cases h : i.unit = unit ∧ i.item = item
    · rw [if_pos h]
      exact ⟨rfl, rfl⟩
    · rw [if_neg h] at hunit hitem
      exact absurd ⟨hunit, hitem⟩ h
  · intro r hr hne
    refine List.mem_map.mpr ⟨r, hr, if_neg fun h => ?_⟩
    exact hne.elim (fun hu => hu h.1) fun hi => hi h.2

theorem rakeItemDone_runs {s : State} {unit item : Nat} (t : Nat) (ok : Bool) (taps : Nat) (temp : Int) (osc : List Nat)
    (hok : rakeItemOk unit item = true) (hlen : s.clusters.length = 64) (hstks : s.stks.length = 4)
    (hroom : s.safety.latch.length < 32) (hgrid : s.gridRuns = true) (hphase : s.frame.phase = .rake)
    (hdue : s.rakeDue unit item = true) (hbefore : max s.time.now t < s.frame.rakeAt + 20 * ticksPerUs) :
    ∃ s', exec (.rakeItemDone unit item ok taps temp osc t) s = .next s' ∧
      (∀ r ∈ s'.safety.rakeItems, r.unit = unit → r.item = item → r.last = max s.time.now t ∧ r.warned = false) ∧
      (∀ r ∈ s.safety.rakeItems, r.unit ≠ unit ∨ r.item ≠ item → r ∈ s'.safety.rakeItems) ∧
      (unit < 64 → (s'.stk (unit / 16)).rakeNext = item % 11) ∧ (unit = 64 → s'.safety.rakeHubNext = item % 16) ∧
      (unit < 64 → item = 11 → (s'.cl unit).test.taps = taps ∧ (s'.cl unit).test.slackRead = true ∧
        (s'.stk (unit / 16)).rakeTarget = none) ∧
      (ok = true → s'.safety.latch = s.safety.latch) ∧
      (ok = false → s'.faultLatched 0x0003 (max s.time.now t)) ∧ s.onlyFault { s' with sram := s.sram } := by
  have hran := State.rakeSteps_ran (s := s.at t) hok hlen hstks taps temp osc
  have hrow := rakeItem_row (s := s) hok ok taps temp osc t
  rw [State.rakeItemDone_due hgrid hphase hdue hbefore ok taps temp osc] at hrow
  generalize (s.at t).rakeSteps unit item taps temp osc = z at hran hrow
  obtain ⟨hnew, hold⟩ := Safety.modItem_items unit item (max s.time.now t) s.safety
  have honly : s.onlyFaultSram z := State.at_onlyFaultSram (t := t) (State.onlyFaultSram_trans
    (show (s.at t).onlyFaultSram ((s.at t).itemRun unit item) from rfl) hran.only)
  have hitems : z.safety.rakeItems = (Safety.modItem unit item (fun i => { i with last := max s.time.now t, warned := false })
    s.safety).rakeItems := hran.items
  have hlatch : z.safety.latch = s.safety.latch := hran.latch
  have hpending : z.pending = s.pending := hran.pending
  rw [← hitems] at hnew hold
  cases ok with
  | true =>
    rw [if_pos rfl] at hrow
    have hself : ({ z with pending := s.pending } : State) = z := by rw [← hpending]
    rw [hself] at hrow
    exact ⟨z, hrow, hnew, hold, hran.stack, hran.hub, hran.monitors, fun _ => hlatch, fun h => absurd h (by simp), honly⟩
  | false =>
    rw [if_neg Bool.false_ne_true] at hrow
    have hnow : z.time.now = max s.time.now t := congrArg TimeBase.now hran.time
    have hfault := State.detect_faultLatched (s := z) (hlatch.symm ▸ hroom) 0x0003 (rakePlace unit).1 (rakePlace unit).2 0xFF
      (rakeArg unit item)
    rw [hnow] at hfault
    have hdetect := State.detect_onlyFault 0x0003 (rakePlace unit).1 (rakePlace unit).2 0xFF (rakeArg unit item) z
    obtain ⟨rp, qn, hsafety, -⟩ := State.detect_safety 0x0003 (rakePlace unit).1 (rakePlace unit).2 0xFF (rakeArg unit item) z
    have hcls := State.detect_clusters 0x0003 (rakePlace unit).1 (rakePlace unit).2 0xFF (rakeArg unit item) z
    have hstk := State.detect_stks 0x0003 (rakePlace unit).1 (rakePlace unit).2 0xFF (rakeArg unit item) z
    have hpending' := (State.detect_pending 0x0003 (rakePlace unit).1 (rakePlace unit).2 0xFF (rakeArg unit item) z).trans hpending
    have hkept : (z.detect 0x0003 (rakePlace unit).1 (rakePlace unit).2 0xFF (rakeArg unit item)).safety.rakeItems =
        z.safety.rakeItems ∧ (z.detect 0x0003 (rakePlace unit).1 (rakePlace unit).2 0xFF (rakeArg unit item)).safety.rakeHubNext =
        z.safety.rakeHubNext := by
      rw [hsafety]
      exact ⟨rfl, rfl⟩
    obtain ⟨hitemsKept, hhubKept⟩ := hkept
    clear hsafety
    generalize z.detect 0x0003 (rakePlace unit).1 (rakePlace unit).2 0xFF (rakeArg unit item) = u at *
    have hself : ({ u with pending := s.pending } : State) = u := by rw [← hpending']
    rw [hself] at hrow
    have hcl : u.cl unit = z.cl unit := congrArg (fun l : List Cluster => l.getD unit {}) hcls
    have hst : u.stk (unit / 16) = z.stk (unit / 16) := congrArg (fun l : List Stack => l.getD (unit / 16) {}) hstk
    rw [← hitemsKept] at hnew hold
    refine ⟨u, hrow, hnew, hold, ?_, fun h => hhubKept.trans (hran.hub h), ?_, fun h => absurd h Bool.false_ne_true, fun _ => hfault,
      State.onlyFaultSram_trans honly hdetect.sram⟩
    · rw [hst]
      exact hran.stack
    · rw [hst, hcl]
      exact hran.monitors

/-- Settles O40, a clause at a time: the background test of scratchpads, the assay slot and the rake items. -/
theorem testsAssayAndRake : Obligations.TestsAssayAndRake := by
  unfold Obligations.TestsAssayAndRake
  refine ⟨fun s p t hp hc hen hup hr hused => ⟨bgtStep_waits t hp hc hen hup, bgtStep_region t hp hc hen hup hr,
      bgtStep_clean t hp hc hen hup hr, fun found => bgtStep_maps t hp hc hen hup hr hused,
      bgtStep_retires t hp hc hen hup hr hused, bgtStep_skips t hp hc hen hup⟩,
    fun s k p sigs t hk hp hc hst hassay hin hroom => ⟨?_, assayStart_waits t hk hassay, ?_, ?_, ?_⟩,
    fun s unit item taps ok tempC osc t hok hc hst hroom => ⟨rakeItemDone_runs t ok taps tempC osc hok hc hst hroom,
      rakeItemDone_waits hok ok taps tempC osc⟩⟩
  · intro hkp
    subst hkp
    exact assayStart_takes t hp hc hst hassay hin
  · exact fun h8 hlt hrun hgold => assayComplete_compares t hk hp hc hassay hin hroom h8 hlt hrun hgold
  · exact fun h8 hrun hgold => assayComplete_wiped t hk hp hc hassay hin hroom h8 hrun hgold
  · exact assayLate_ends t hk hst hassay hin hroom

end Sys2Proof.Machine
end

section
/-!
SUPPORT. The completion of a task (R247, R260): its entries pass on, its successors enter or wait.
-/
namespace Sys2Proof.Machine

/-! ## The completing task -/

/-- The scheduler of which a task leaves its unit, its entries going to its successors or free. -/
def Scheduler.leaves (unit : Nat) (h : Held) (succ : List TaskDesc) (x : Scheduler) : Scheduler :=
  let x := { x with running := x.running.filter (·.1 != unit) }
  ((if succ.isEmpty then x.free h.seat 1 else (x.hand h.seat 1).hand h.extraSeat (min h.task.succExtra (succ.length - 1))).free
    h.extraSeat (h.task.succExtra - min h.task.succExtra (succ.length - 1)))

/-- The lists of a scheduler and what numbers its entries. -/
def Scheduler.lists (x : Scheduler) : List Held × List Held × List Held × Nat × Nat := (x.ms, x.rl, x.dl, x.nextEntry, x.age)

theorem Scheduler.inCycle_lists (x : Scheduler) (cyc rank : Nat) :
    (x.inCycle cyc rank).lists = x.lists ∧ (x.inCycle cyc rank).running = x.running := by
  unfold Scheduler.inCycle
  split <;> exact ⟨rfl, rfl⟩

theorem Scheduler.leaves_lists (unit : Nat) (h : Held) (succ : List TaskDesc) (x : Scheduler) :
    (x.leaves unit h succ).lists = x.lists ∧ (x.leaves unit h succ).running = x.running.filter (·.1 != unit) := by
  unfold Scheduler.leaves
  dsimp only
  split <;> exact ⟨rfl, rfl⟩

theorem State.complete_eq (p unit : Nat) (h : Held) (succ : List TaskDesc) (s : State) : s.complete p unit h succ =
    (succ.drop (1 + h.task.succExtra)).foldl (fun s n => s.holdOwn p n)
      (((succ.take (1 + h.task.succExtra)).zipIdx).foldl
        (fun s n => s.handOver p (if n.2 = 0 then h.seat else h.extraSeat) n.1) (s.modSched p (Scheduler.leaves unit h succ))) := rfl

/-- A scheduler between a completion and the entry of a successor of it. -/
theorem Scheduler.handed_lists (seat : Nat) (x : Scheduler) :
    (x.handed seat).lists = x.lists ∧ (x.handed seat).running = x.running := ⟨rfl, rfl⟩

/-- A successor that asks for the ready list alone. -/
def plainTask (n : TaskDesc) : Prop := n.tokens = 0 ∧ n.release = 0 ∧ n.succExtra = 0

theorem plainTask_struct {n : TaskDesc} (h : plainTask n) : taskStruct n = 1 := by
  obtain ⟨htokens, hrelease, -⟩ := h
  unfold taskStruct
  rw [htokens, hrelease]
  rfl

section
variable {p : Nat} {c : Cluster} {bk : List Stack} {ss : List Stream} {s x : State}

/-- The cluster that a successor has entered. -/
def Cluster.handedOver (c : Cluster) (seat : Nat) (n : TaskDesc) : Cluster :=
  let y := ((c.withSched (c.sched.handed seat)).entered seat n).took n
  { y with ownFlow := y.ownFlow.offer.accept }

theorem State.Becomes.handOver (h : s.Becomes p c bk ss x) (hp : p < 64) (seat : Nat) {n : TaskDesc} (hn : plainTask n) :
    s.Becomes p (c.handedOver seat n) bk (notedStreams n ss) (x.handOver p seat n) := by
  have hextra : n.succExtra = 0 := hn.2.2
  have hmod := (((h.sched_mod fun y => y.handed seat).enter hp seat n 2).noteTaken n).mod
    (f := fun y => { y with ownFlow := y.ownFlow.offer.accept }) (by intro; rfl)
  unfold State.handOver
  dsimp only
  rw [hextra, if_neg (Nat.not_lt_zero _)]
  exact hmod

/-- What the entry of a successor leaves of the cluster. -/
theorem Cluster.handedOver_parts (c : Cluster) (seat : Nat) {n : TaskDesc} (hn : plainTask n) :
    (c.handedOver seat n).sched.running = c.sched.running ∧
    (c.handedOver seat n).sched.rl.map (·.task) = c.sched.rl.map (·.task) ++ [{ n with age := c.sched.age % 65536 }] ∧
    (c.handedOver seat n).sched.age = c.sched.age + 1 ∧ (c.handedOver seat n).own = c.own ∧ (c.handedOver seat n).gate = .on := by
  have hstruct := plainTask_struct hn
  have hsched : (c.handedOver seat n).sched = (c.sched.handed seat).entered seat n := rfl
  have hentered : (c.sched.handed seat).entered seat n = { c.sched.handed seat with
      rl := c.sched.rl ++ [(c.sched.handed seat).newHeld seat n], nextEntry := c.sched.nextEntry + 1, age := c.sched.age + 1 } := by
    unfold Scheduler.entered Scheduler.push
    rw [hstruct]
    rfl
  rw [hsched, hentered]
  refine ⟨rfl, ?_, rfl, rfl, rfl⟩
  have haged : ((c.sched.handed seat).newHeld seat n).task = { n with age := c.sched.age % 65536 } := by
    unfold Scheduler.newHeld agedTask
    rw [hstruct]
    rfl
  simp only [List.map_append, List.map_cons, List.map_nil, haged]

theorem notedStreams_of_not {n : TaskDesc} (h : isBlock n = false) (l : List Stream) : notedStreams n l = l := by
  unfold notedStreams
  rw [h]
  rfl

/-- The successors enter one behind the other. -/
theorem State.Becomes.handOvers (hp : p < 64) (a b : Nat) (l : List TaskDesc) :
    ∀ {c : Cluster} {ss : List Stream} {x : State} (i : Nat), s.Becomes p c bk ss x → (∀ n ∈ l, plainTask n) →
    ∃ c' ss', s.Becomes p c' bk ss' ((l.zipIdx i).foldl (fun s n => s.handOver p (if n.2 = 0 then a else b) n.1) x) ∧
      c'.sched.running = c.sched.running ∧
      c'.sched.rl.map (·.task) = c.sched.rl.map (·.task) ++ l.mapIdx (fun i n => { n with age := (c.sched.age + i) % 65536 }) ∧
      c'.own = c.own ∧ (l ≠ [] ∨ c.gate = .on → c'.gate = .on) ∧ ((∀ n ∈ l, isBlock n = false) → ss' = ss) := by
  induction l with
  | nil =>
    intro c ss x i h _
    exact ⟨c, ss, h, rfl, (List.append_nil _).symm, rfl, fun hg => hg.elim (fun hne => absurd rfl hne) fun hon => hon, fun _ => rfl⟩
  | cons n l ih =>
    intro c ss x i h hl
    have hn := hl n (List.mem_cons_self ..)
    obtain ⟨hrun, hrl, hage, hown, hgate⟩ := c.handedOver_parts (if i = 0 then a else b) hn
    obtain ⟨c', ss', h', hrun', hrl', hown', hgate', hss'⟩ := ih (i + 1) (h.handOver hp (if i = 0 then a else b) hn)
      fun y hy => hl y (List.mem_cons_of_mem _ hy)
    refine ⟨c', ss', h', hrun'.trans hrun, ?_, hown'.trans hown, fun _ => hgate' (.inr hgate), fun hb => ?_⟩
    · rw [hrl', hrl, hage, List.append_assoc, List.mapIdx_cons]
      have hshift : (fun i (n : TaskDesc) => ({ n with age := (c.sched.age + 1 + i) % 65536 } : TaskDesc)) =
          fun i n => { n with age := (c.sched.age + (i + 1)) % 65536 } := by
        funext i n
        rw [Nat.add_assoc, Nat.add_comm 1 i]
      rw [hshift]
      rfl
    · exact (hss' fun y hy => hb y (List.mem_cons_of_mem _ hy)).trans (notedStreams_of_not (hb n (List.mem_cons_self ..)) ss)

/-- The further successors wait with the cluster. -/
theorem State.Becomes.holdOwns (l : List TaskDesc) : ∀ {c : Cluster} {x : State}, s.Becomes p c bk ss x →
    ∃ f, s.Becomes p { c with own := c.own ++ l, ownFlow := f } bk ss (l.foldl (fun s n => s.holdOwn p n) x) := by
  induction l with
  | nil => exact fun {c x} h => ⟨c.ownFlow, h.of_eq (by rw [List.append_nil]) rfl⟩
  | cons n l ih =>
    intro c x h
    obtain ⟨f, hf⟩ := ih (h.holdOwn n)
    exact ⟨f, hf.of_eq (by rw [← List.append_cons]) rfl⟩

/-- A copy of a context that completes reaches its cluster alone. -/
theorem State.Becomes.copyDone (h : s.Becomes p c bk ss x) (d : TaskDesc) :
    ∃ l, s.Becomes p { c with contexts := l } bk ss (x.copyDone p d) := by
  unfold State.copyDone
  split
  · split
    · exact ⟨_, h.mod (f := fun c => { c with contexts := upsert _ _ c.contexts }) (by intro; rfl)⟩
    · exact ⟨c.contexts, h⟩
  · exact ⟨c.contexts, h⟩

/-- A cluster with a task in its ready list is not gated. -/
theorem State.gateIdle_busy {p : Nat} {s : State} (h : (s.cl p).sched.rl ≠ []) : s.gateIdle p = s := by
  have hidle : (s.cl p).idle = false := by
    unfold Cluster.idle
    have hrl : (s.cl p).sched.rl.isEmpty = false := by simpa using h
    rw [hrl]
    simp
  unfold State.gateIdle
  dsimp only
  rw [hidle]
  exact if_pos (by simp)

end

end Sys2Proof.Machine
end

section
/-!
SUPPORT. TASK_COMPLETION, CLUSTER_WAKE, PLL_RESTART and NOC_CREDIT_TIMEOUT, and the obligation on them (R61, R62, R247, R260, R274).
-/
namespace Sys2Proof.Machine

theorem State.faultLatched.congr {s s' : State} {code now : Nat} (h : s.faultLatched code now) (hs : s'.safety = s.safety) :
    s'.faultLatched code now := by
  unfold State.faultLatched State.pinsLatched at h ⊢
  rw [hs]
  exact h

section
variable {s : State} {p unit cyc : Nat} {h : Held} (t : Nat)

/-- The state once a running task has completed, its successors where they go. -/
def State.completed (p unit : Nat) (h : Held) (ns : List TaskDesc) (cyc : Nat) (s : State) : State :=
  ((s.modSched p fun x => x.inCycle cyc unit).complete p unit h ns).copyDone p h.task

/-- No removal of T_h is due: the running task of a unit is found as it is. -/
theorem State.completion_due {ns : List TaskDesc} (hfind : (s.cl p).sched.running.find? (fun x => x.1 == unit) = some (unit, h))
    (hcyc : s.cycleDue p cyc unit = true) (hrem : (s.at t).removalDue = false) (ok : Bool) :
    (s.at t).completion p unit ns ok cyc =
      (if ok then (s.at t).completed p unit h ns cyc else ((s.at t).completed p unit h ns cyc).schedBook p).gateIdle p := by
  have hpred : (fun (x : Nat × Held) => x.1 == unit && !((s.at t).removalDue && abandons x.2.task)) = fun x => x.1 == unit := by
    funext x
    rw [hrem]
    simp
  unfold State.completion
  rw [hpred, show ((s.at t).cl p).sched.running.find? (fun x => x.1 == unit) = some (unit, h) from hfind]
  exact State.when_pos hcyc _ _

theorem taskCompletion_row {ns : List TaskDesc} (hp : p < 64) (hu : unit < 6) (hwf : ∀ n ∈ ns, n.wf = true) (ok : Bool) :
    exec (.taskCompletion p unit ns ok ⟨cyc, t⟩) s = .next { (s.at t).completion p unit ns ok cyc with pending := s.pending } := by
  have hguard : (below p 64 && below unit 6 && ns.all (·.wf)) = true := by
    rw [List.all_eq_true.mpr hwf]
    simp [below, hp, hu]
  exact (exec_taskCompletion ..).trans (ranAt_pos hguard ..)

/-- The scheduler behind a completion, before its successors. -/
theorem Scheduler.left_lists (x : Scheduler) (cyc unit : Nat) (h : Held) (ns : List TaskDesc) :
    ((x.inCycle cyc unit).leaves unit h ns).lists = x.lists ∧
      ((x.inCycle cyc unit).leaves unit h ns).running = x.running.filter (·.1 != unit) := by
  obtain ⟨hlists, hrun⟩ := Scheduler.leaves_lists unit h ns (x.inCycle cyc unit)
  obtain ⟨hlists', hrun'⟩ := Scheduler.inCycle_lists x cyc unit
  exact ⟨hlists.trans hlists', hrun.trans (by rw [hrun'])⟩

/-- A completed task hands its entries to its successors (R247). -/
theorem taskCompletion_hands (hp : p < 64) (hu : unit < 6) (hlen : s.clusters.length = 64) {ns : List TaskDesc}
    (hwf : ∀ n ∈ ns, n.wf = true) (hfind : (s.cl p).sched.running.find? (fun x => x.1 == unit) = some (unit, h))
    (hcyc : s.cycleDue p cyc unit = true) (hrem : (s.at t).removalDue = false) (hne : ns ≠ [])
    (hplain : ∀ n ∈ ns, n.tokens = 0 ∧ n.release = 0 ∧ n.succExtra = 0) :
    ∃ s', exec (.taskCompletion p unit ns true ⟨cyc, t⟩) s = .next s' ∧
      (s'.cl p).sched.running = (s.cl p).sched.running.filter (fun x => x.1 != unit) ∧
      (s'.cl p).sched.rl.map (·.task) = (s.cl p).sched.rl.map (·.task) ++
        (ns.take (1 + h.task.succExtra)).mapIdx (fun i n => { n with age := ((s.cl p).sched.age + i) % 65536 }) ∧
      (s'.cl p).own = (s.cl p).own ++ ns.drop (1 + h.task.succExtra) ∧ (s'.cl p).gate = .on ∧
      ((∀ n ∈ ns, isBlock n = false) → s'.streams = s.streams) ∧
      { s' with time := s.time, clusters := s.clusters, stks := s.stks, obs := s.obs, streams := s.streams } = s := by
  have hrow := taskCompletion_row (s := s) (cyc := cyc) t hp hu hwf true
  rw [State.completion_due t hfind hcyc hrem true, if_pos rfl] at hrow
  have hself : (s.at t).Becomes p (s.cl p) s.stks s.streams (s.at t) :=
    State.becomes_self (s := s.at t) (hlen.symm ▸ hp : p < s.clusters.length)
  have hleft := (hself.sched_mod fun x => x.inCycle cyc unit).sched_mod (Scheduler.leaves unit h ns)
  obtain ⟨hlists, hrunning⟩ := Scheduler.left_lists (s.cl p).sched cyc unit h ns
  have hrl := (congrArg (fun l : List Held × List Held × List Held × Nat × Nat => l.2.1) hlists :)
  have hage := (congrArg (fun l : List Held × List Held × List Held × Nat × Nat => l.2.2.2.2) hlists :)
  obtain ⟨c, ss, hover, hrun, hready, hown, hgate, hss⟩ := State.Becomes.handOvers (s := s.at t) hp h.seat h.extraSeat
    (ns.take (1 + h.task.succExtra)) 0 hleft fun n hn => hplain n (List.mem_of_mem_take hn)
  obtain ⟨f, hheld⟩ := hover.holdOwns (ns.drop (1 + h.task.succExtra))
  rw [← State.complete_eq] at hheld
  obtain ⟨l, hdone⟩ := hheld.copyDone h.task
  change (s.at t).Becomes p _ _ _ ((s.at t).completed p unit h ns cyc) at hdone
  generalize (s.at t).completed p unit h ns cyc = y at hrow hdone
  have hfirst : ns.take (1 + h.task.succExtra) ≠ [] := by
    cases ns with
    | nil => exact absurd rfl hne
    | cons n ns => simp [Nat.add_comm 1]
  change c.sched.rl.map (·.task) = (((s.cl p).sched.inCycle cyc unit).leaves unit h ns).rl.map (·.task) ++
    (ns.take (1 + h.task.succExtra)).mapIdx (fun i n => { n with
      age := ((((s.cl p).sched.inCycle cyc unit).leaves unit h ns).age + i) % 65536 }) at hready
  change (((s.cl p).sched.inCycle cyc unit).leaves unit h ns).rl = (s.cl p).sched.rl at hrl
  change (((s.cl p).sched.inCycle cyc unit).leaves unit h ns).age = (s.cl p).sched.age at hage
  rw [hrl, hage] at hready
  have hsched : (y.cl p).sched = c.sched := hdone.sched
  have hbusy : (y.cl p).sched.rl ≠ [] := by
    intro hnil
    rw [hsched] at hnil
    rw [hnil] at hready
    have hl := congrArg List.length hready
    rw [List.length_append, List.length_mapIdx] at hl
    have hpos := List.length_pos_of_ne_nil hfirst
    simp only [List.map_nil, List.length_nil, List.length_map] at hl
    omega
  rw [State.gateIdle_busy hbusy] at hrow
  refine ⟨_, hrow, ?_, ?_, ?_, ?_, fun hb => ?_, ?_⟩
  · exact ((congrArg Scheduler.running hsched).trans hrun).trans hrunning
  · exact (congrArg (fun x : Scheduler => x.rl.map (·.task)) hsched).trans hready
  · exact (congrArg Cluster.own hdone.cluster :).trans (congrArg (· ++ ns.drop (1 + h.task.succExtra)) hown)
  · exact (congrArg Cluster.gate hdone.cluster :).trans (hgate (.inl hfirst))
  · exact hdone.streams.trans (hss fun n hn => hb n (List.mem_of_mem_take hn))
  · have hframe := congrArg (fun x : State => { x with time := s.time, pending := s.pending }) hdone.frame
    exact hframe

/-- A completion without successors touches clusters alone. -/
theorem State.completed_nil (p unit : Nat) (h : Held) (cyc : Nat) (s : State) (hp : p < s.clusters.length) :
    s.AtSlice (s.completed p unit h [] cyc) ∧ (s.completed p unit h [] cyc).clusters.length = s.clusters.length ∧
      ((s.completed p unit h [] cyc).cl p).sched.lists = (s.cl p).sched.lists ∧
      ((s.completed p unit h [] cyc).cl p).sched.running = (s.cl p).sched.running.filter (·.1 != unit) := by
  have hself := State.becomes_self hp
  have hleft := (hself.sched_mod fun x => x.inCycle cyc unit).sched_mod (Scheduler.leaves unit h [])
  obtain ⟨hlists, hrunning⟩ := Scheduler.left_lists (s.cl p).sched cyc unit h []
  have hcopy (y : State) : y.AtSlice (y.copyDone p h.task) ∧ (y.copyDone p h.task).clusters.length = y.clusters.length := by
    unfold State.copyDone
    split
    · split
      · exact ⟨State.modCl_atSlice .., State.clusters_length_modCl ..⟩
      · exact ⟨⟨_, _, _, rfl⟩, rfl⟩
    · exact ⟨⟨_, _, _, rfl⟩, rfl⟩
  have heq : s.completed p unit h [] cyc =
      ((s.modSched p fun x => x.inCycle cyc unit).modSched p (Scheduler.leaves unit h [])).copyDone p h.task := by
    unfold State.completed
    rw [State.complete_eq, List.take_nil, List.drop_nil]
    rfl
  obtain ⟨l, hdone⟩ := hleft.copyDone h.task
  rw [heq]
  obtain ⟨hslice, hlen⟩ := hcopy ((s.modSched p fun x => x.inCycle cyc unit).modSched p (Scheduler.leaves unit h []))
  refine ⟨((State.modCl_atSlice ..).trans (State.modCl_atSlice ..)).trans hslice, hlen.trans ?_, ?_, ?_⟩
  · exact (State.clusters_length_modCl ..).trans (State.clusters_length_modCl ..)
  · exact (congrArg Scheduler.lists hdone.sched).trans hlists
  · exact (congrArg Scheduler.running hdone.sched).trans hrunning

theorem taskCompletion_ends (hp : p < 64) (hu : unit < 6) (hlen : s.clusters.length = 64)
    (hfind : (s.cl p).sched.running.find? (fun x => x.1 == unit) = some (unit, h))
    (hcyc : s.cycleDue p cyc unit = true) (hrem : (s.at t).removalDue = false) :
    ∃ s', exec (.taskCompletion p unit [] true ⟨cyc, t⟩) s = .next s' ∧
      (s'.cl p).sched.running = (s.cl p).sched.running.filter (fun x => x.1 != unit) ∧
      (s'.cl p).sched.ms = (s.cl p).sched.ms ∧ (s'.cl p).sched.rl = (s.cl p).sched.rl ∧
      (s'.cl p).sched.dl = (s.cl p).sched.dl ∧
      { s' with time := s.time, clusters := s.clusters, stks := s.stks, sram := s.sram } = s := by
  have hrow := taskCompletion_row (s := s) (cyc := cyc) (ns := []) t hp hu (fun n hn => absurd hn (by simp)) true
  rw [State.completion_due t hfind hcyc hrem true, if_pos rfl] at hrow
  obtain ⟨hslice, -, hlists, hrunning⟩ := State.completed_nil p unit h cyc (s.at t) (hlen.symm ▸ hp : p < s.clusters.length)
  generalize (s.at t).completed p unit h [] cyc = y at hrow hslice hlists hrunning
  have hgated := State.gateIdle_gated p y
  have hsched := (congrArg Cluster.sched (hgated.cl p) :)
  have hall := hslice.trans (State.gateIdle_atSlice p y)
  generalize y.gateIdle p = z at hrow hsched hall
  have hl : (z.cl p).sched.lists = (s.cl p).sched.lists := (congrArg Scheduler.lists hsched :).trans hlists
  refine ⟨_, hrow, (congrArg Scheduler.running hsched :).trans hrunning, (congrArg Prod.fst hl :),
    (congrArg (fun l : List Held × List Held × List Held × Nat × Nat => l.2.1) hl :),
    (congrArg (fun l : List Held × List Held × List Held × Nat × Nat => l.2.2.1) hl :), ?_⟩
  have hframe := congrArg (fun x : State => { x with time := s.time, pending := s.pending }) hall.frame_eq
  exact hframe

/-- A book out of balance is SCHED_BOOK (R260). -/
theorem taskCompletion_book (hp : p < 64) (hu : unit < 6) (hlen : s.clusters.length = 64)
    (hfind : (s.cl p).sched.running.find? (fun x => x.1 == unit) = some (unit, h))
    (hcyc : s.cycleDue p cyc unit = true) (hrem : (s.at t).removalDue = false) (hroom : s.safety.latch.length < 32) :
    ∃ s', exec (.taskCompletion p unit [] false ⟨cyc, t⟩) s = .next s' ∧
      (s'.cl p).sched.running = (s.cl p).sched.running.filter (fun x => x.1 != unit) ∧
      s'.faultLatched 0x0007 (max s.time.now t) ∧ s.onlyFault { s' with sram := s.sram } := by
  have hrow := taskCompletion_row (s := s) (cyc := cyc) (ns := []) t hp hu (fun n hn => absurd hn (by simp)) false
  rw [State.completion_due t hfind hcyc hrem false, if_neg Bool.false_ne_true] at hrow
  obtain ⟨hslice, -, hlists, hrunning⟩ := State.completed_nil p unit h cyc (s.at t) (hlen.symm ▸ hp : p < s.clusters.length)
  generalize (s.at t).completed p unit h [] cyc = y at hrow hslice hlists hrunning
  have hfault := State.detect_faultLatched (s := y) (hslice.safety ▸ hroom : y.safety.latch.length < 32) 0x0007 (stackOf p) p 0xFF
    (le 4 ((y.cl p).sched.freeIn 0) ++ le 4 ((y.cl p).sched.freeIn 1) ++ le 4 ((y.cl p).sched.freeIn 2))
  rw [show y.time.now = max s.time.now t from congrArg TimeBase.now hslice.time] at hfault
  have honly := State.detect_onlyFault 0x0007 (stackOf p) p 0xFF
    (le 4 ((y.cl p).sched.freeIn 0) ++ le 4 ((y.cl p).sched.freeIn 1) ++ le 4 ((y.cl p).sched.freeIn 2)) y
  have hcls := State.detect_clusters 0x0007 (stackOf p) p 0xFF
    (le 4 ((y.cl p).sched.freeIn 0) ++ le 4 ((y.cl p).sched.freeIn 1) ++ le 4 ((y.cl p).sched.freeIn 2)) y
  have hpending := State.detect_pending 0x0007 (stackOf p) p 0xFF
    (le 4 ((y.cl p).sched.freeIn 0) ++ le 4 ((y.cl p).sched.freeIn 1) ++ le 4 ((y.cl p).sched.freeIn 2)) y
  rw [show y.schedBook p = y.detect 0x0007 (stackOf p) p 0xFF
    (le 4 ((y.cl p).sched.freeIn 0) ++ le 4 ((y.cl p).sched.freeIn 1) ++ le 4 ((y.cl p).sched.freeIn 2)) from rfl] at hrow
  generalize y.detect 0x0007 (stackOf p) p 0xFF _ = d at hrow hfault honly hcls hpending
  have hsched := (congrArg Cluster.sched ((State.gateIdle_gated p d).cl p) :)
  have hgate := State.gateIdle_atSlice p d
  generalize d.gateIdle p = z at hrow hsched hgate
  have hself : ({ z with pending := s.pending } : State) = z := by
    have hz : z.pending = s.pending := hgate.pending.trans (hpending.trans hslice.pending)
    rw [← hz]
  rw [hself] at hrow
  have hdcl : (d.cl p).sched = (y.cl p).sched := congrArg (fun l : List Cluster => (l.getD p {}).sched) hcls
  refine ⟨z, hrow, ?_, ?_, State.at_onlyFaultSram (State.onlyFaultSram_trans hslice.onlyFaultSram
    (State.onlyFaultSram_trans honly.sram hgate.onlyFaultSram))⟩
  · exact ((congrArg Scheduler.running hsched :).trans (congrArg Scheduler.running hdcl)).trans hrunning
  · exact hfault.congr hgate.safety

/-- A completion of a unit without a task does nothing. -/
theorem taskCompletion_idle (hp : p < 64) (hu : unit < 6) {ns : List TaskDesc} (hwf : ∀ n ∈ ns, n.wf = true)
    (hnone : (s.cl p).sched.running.find? (fun x => x.1 == unit) = none) (ok : Bool) :
    ∃ s', exec (.taskCompletion p unit ns ok ⟨cyc, t⟩) s = .next s' ∧ { s' with time := s.time } = s := by
  have hrow := taskCompletion_row (s := s) (cyc := cyc) t hp hu hwf ok
  have hnone' : ((s.at t).cl p).sched.running.find? (fun x => x.1 == unit && !((s.at t).removalDue && abandons x.2.task)) = none := by
    refine List.find?_eq_none.mpr fun x hx hc => ?_
    exact List.find?_eq_none.mp hnone x hx (Bool.and_eq_true_iff.mp hc).1
  have hsame : (s.at t).completion p unit ns ok cyc = s.at t := by
    unfold State.completion
    rw [hnone']
  rw [hsame] at hrow
  exact ⟨_, hrow, rfl⟩

end

/-! ## Waking, PLLs and credits -/

section
variable {s : State} {p k e : Nat} (t : Nat)

theorem clusterWake_wakes (hp : p < 64) (hlen : s.clusters.length = 64) (hen : s.enabled p = true)
    (hgate : (s.cl p).gate = .powerGated) (hpll : (s.stk (p / 16)).pllStopped = false)
    (hdue : if s.frame.conf.exact then (s.at t).gatingGap p = none else (s.at t).nextNeed p ≤ max s.time.now t + 2 * ticksPerUs) :
    ∃ s', exec (.clusterWake p t) s = .next s' ∧ (s'.cl p).gate = .waking ∧ (s'.cl p).sched.ms = [] ∧
      (s'.cl p).sched.rl = [] ∧ (s'.cl p).sched.dl = [] ∧ (s'.cl p).sched.running = [] ∧
      (∀ q, q ≠ p → s'.cl q = s.cl q) ∧ { s' with time := s.time, clusters := s.clusters } = s := by
  have hguard : below p 64 = true := by simp [below, hp]
  have hrow := (exec_clusterWake p t s).trans (ranAt_pos hguard ..)
  have hwake : (s.at t).wakeDue p = true := by
    unfold State.wakeDue
    by_cases hexact : s.frame.conf.exact = true
    · rw [if_pos hexact] at hdue
      rw [if_pos (show (s.at t).frame.conf.exact = true from hexact), hdue]
      rfl
    · rw [if_neg hexact] at hdue
      rw [if_neg (show ¬(s.at t).frame.conf.exact = true from hexact)]
      exact decide_eq_true hdue
  have hcond : ((s.at t).enabled p && ((s.at t).cl p).gate == .powerGated && !((s.at t).stk (stackOf p)).pllStopped &&
      (s.at t).wakeDue p) = true := by
    rw [show (s.at t).enabled p = true from hen, show ((s.at t).cl p).gate = .powerGated from hgate,
      show ((s.at t).stk (stackOf p)).pllStopped = false from hpll, hwake]
    rfl
  have hstep : (s.at t).clusterWake p = (s.at t).modCl p fun c => { c with
      gate := .waking, sched := { age := c.sched.age, nextEntry := c.sched.nextEntry, cycle := c.sched.cycle } } :=
    State.when_pos hcond _ _
  have hcl := State.cl_modCl (s := s.at t) (hlen.symm ▸ hp : p < s.clusters.length) fun c => { c with
    gate := .waking, sched := { age := c.sched.age, nextEntry := c.sched.nextEntry, cycle := c.sched.cycle } }
  rw [hstep] at hrow
  exact ⟨_, hrow, (congrArg Cluster.gate hcl :), (congrArg (fun c : Cluster => c.sched.ms) hcl :),
    (congrArg (fun c : Cluster => c.sched.rl) hcl :), (congrArg (fun c : Cluster => c.sched.dl) hcl :),
    (congrArg (fun c : Cluster => c.sched.running) hcl :), fun q hq => State.cl_modCl_ne (s := s.at t) hq _, rfl⟩

theorem clusterWake_waits (hp : p < 64) (h : (s.cl p).gate ≠ .powerGated ∨ (s.stk (p / 16)).pllStopped = true) :
    ∃ s', exec (.clusterWake p t) s = .next s' ∧ { s' with time := s.time } = s := by
  have hguard : below p 64 = true := by simp [below, hp]
  have hrow := (exec_clusterWake p t s).trans (ranAt_pos hguard ..)
  have hcond : ¬((s.at t).enabled p && ((s.at t).cl p).gate == .powerGated && !((s.at t).stk (stackOf p)).pllStopped &&
      (s.at t).wakeDue p) = true := by
    rcases h with h | h
    · rw [show (((s.at t).cl p).gate == .powerGated) = false from beq_false_of_ne h]
      simp
    · rw [show ((s.at t).stk (stackOf p)).pllStopped = true from h]
      simp
  have hsame : (s.at t).clusterWake p = s.at t := if_neg hcond
  rw [hsame] at hrow
  exact ⟨_, hrow, rfl⟩

theorem pllRestart_restarts (hk : k < 4) (hstks : s.stks.length = 4) (hstop : (s.stk k).pllStopped = true)
    (hhub : (s.stk k).hubOnly = false)
    (hneed : ∃ q ∈ s.enabledIn k, (s.at t).nextNeed q ≤ max s.time.now t + 10 * ticksPerUs) :
    ∃ s', exec (.pllRestart k t) s = .next s' ∧ s'.stk k = { s.stk k with pllStopped := false } ∧
      (∀ j, j ≠ k → s'.stk j = s.stk j) ∧ { s' with time := s.time, stks := s.stks } = s := by
  have hguard : below k 4 = true := by simp [below, hk]
  have hrow := (exec_pllRestart k t s).trans (ranAt_pos hguard ..)
  obtain ⟨q, hq, hdue⟩ := hneed
  have hany : (((s.at t).enabledIn k).any fun p => decide ((s.at t).nextNeed p ≤ (s.at t).time.now + 10 * ticksPerUs)) = true :=
    List.any_eq_true.mpr ⟨q, hq, decide_eq_true hdue⟩
  have hcond : (((s.at t).stk k).pllStopped && !((s.at t).stk k).hubOnly &&
      ((s.at t).enabledIn k).any fun p => decide ((s.at t).nextNeed p ≤ (s.at t).time.now + 10 * ticksPerUs)) = true := by
    rw [show ((s.at t).stk k).pllStopped = true from hstop, show ((s.at t).stk k).hubOnly = false from hhub, hany]
    rfl
  have hstep : (s.at t).pllRestart k = (s.at t).modStk k fun x => { x with pllStopped := false } := State.when_pos hcond _ _
  have hstk := State.stk_modStk (s := s.at t) (hstks.symm ▸ hk : k < s.stks.length) fun x => { x with pllStopped := false }
  rw [hstep] at hrow
  exact ⟨_, hrow, hstk, fun j hj => State.stk_modStk_ne hj _ (s.at t), rfl⟩

/-- A lost credit writes its endpoint's count alone. -/
theorem State.creditLost_leaves (k e : Nat) (s : State) : ∃ l ks, s.creditLost k e = { s with clusters := l, stks := ks } := by
  unfold State.creditLost
  dsimp only
  split
  · exact ⟨_, _, rfl⟩
  · split
    · exact ⟨_, _, rfl⟩
    · split <;> exact ⟨_, _, rfl⟩

theorem State.creditLost_counts (hk : k < 4) (he : e < 19) (hlen : s.clusters.length = 64) (hstks : s.stks.length = 4) :
    (e < 16 → ((s.creditLost k e).cl (16 * k + e)).creditsOut = min (nocDepth e) ((s.cl (16 * k + e)).creditsOut + 1)) ∧
    (e = 16 → ((s.creditLost k e).stk k).storeCredits = min (nocDepth e) ((s.stk k).storeCredits + 1)) ∧
    (e = 17 → ((s.creditLost k e).stk k).hubCredits = min (nocDepth e) ((s.stk k).hubCredits + 1)) ∧
    (e = 18 → ((s.creditLost k e).stk k).hubSideCredits = min (nocDepth e) ((s.stk k).hubSideCredits + 1)) := by
  have hk' : k < s.stks.length := hstks.symm ▸ hk
  refine ⟨fun h => ?_, fun h => ?_, fun h => ?_, fun h => ?_⟩
  · have heq : s.creditLost k e = s.modCl (16 * k + e) fun c => { c with creditsOut := min (nocDepth e) (c.creditsOut + 1) } :=
      if_pos h
    rw [heq]
    have hin : 16 * k + e < s.clusters.length := by omega
    exact (congrArg Cluster.creditsOut (State.cl_modCl hin fun c => { c with creditsOut := min (nocDepth e) (c.creditsOut + 1) }) :)
  all_goals subst h
  · exact (congrArg Stack.storeCredits (State.stk_modStk hk' fun x => { x with storeCredits := min (nocDepth 16) (x.storeCredits + 1) }) :)
  · exact (congrArg Stack.hubCredits (State.stk_modStk hk' fun x => { x with hubCredits := min (nocDepth 17) (x.hubCredits + 1) }) :)
  · exact (congrArg Stack.hubSideCredits (State.stk_modStk hk' fun x => { x with
      hubSideCredits := min (nocDepth 18) (x.hubSideCredits + 1) }) :)

theorem State.onlyFault_behind {y s' : State} {t : Nat} {l : List Cluster} {ks : List Stack}
    (hy : y = { s.at t with clusters := l, stks := ks }) (h : y.onlyFault s') : s.onlyFault s' := by
  subst hy
  have hback := congrArg (fun x : State => { x with time := s.time, clusters := s.clusters, stks := s.stks }) h
  exact hback

theorem nocCreditTimeout_latches (hk : k < 4) (hlen : s.clusters.length = 64) (hstks : s.stks.length = 4)
    (hroom : s.safety.latch.length < 32) (he : e < 19) : ∃ s', exec (.nocCreditTimeout k e t) s = .next s' ∧
      s'.faultLatched 0x0007 (max s.time.now t) ∧ s.onlyFault s' ∧
      (e < 16 → (s'.cl (16 * k + e)).creditsOut = min (nocDepth e) ((s.cl (16 * k + e)).creditsOut + 1)) ∧
      (e = 16 → (s'.stk k).storeCredits = min (nocDepth e) ((s.stk k).storeCredits + 1)) ∧
      (e = 17 → (s'.stk k).hubCredits = min (nocDepth e) ((s.stk k).hubCredits + 1)) ∧
      (e = 18 → (s'.stk k).hubSideCredits = min (nocDepth e) ((s.stk k).hubSideCredits + 1)) := by
  have hguard : (below k 4 && below e 19) = true := by simp [below, hk, he]
  obtain ⟨l, ks, hleft⟩ := State.creditLost_leaves k e (s.at t)
  have hcount := State.creditLost_counts (s := s.at t) hk he hlen hstks
  have hrow := (exec_nocCreditTimeout k e t s).trans
    (ranAt_detects (y := (s.at t).creditLost k e) hguard rfl (by rw [hleft]; rfl))
  generalize hy : (s.at t).creditLost k e = y at hrow hcount hleft
  have hfault := State.detect_faultLatched (s := y) (by rw [hleft]; exact hroom) 0x0007 k 0xFF 0xFF (le 8 e)
  rw [show y.time.now = max s.time.now t by rw [hleft]; rfl] at hfault
  have honly := State.detect_onlyFault 0x0007 k 0xFF 0xFF (le 8 e) y
  have hcl (p : Nat) : (y.detect 0x0007 k 0xFF 0xFF (le 8 e)).cl p = y.cl p :=
    congrArg (fun l : List Cluster => l.getD p {}) (State.detect_clusters ..)
  have hstk (j : Nat) : (y.detect 0x0007 k 0xFF 0xFF (le 8 e)).stk j = y.stk j :=
    congrArg (fun l : List Stack => l.getD j {}) (State.detect_stks ..)
  refine ⟨_, hrow, hfault, State.onlyFault_behind hleft honly, ?_⟩
  rw [hcl, hstk]
  exact hcount

end

/-- Settles O35, a clause at a time: completion of a task, SCHED_BOOK, waking, PLLs and NoC credits. -/
theorem completionAndWaking : Obligations.CompletionAndWaking := by
  unfold Obligations.CompletionAndWaking
  intro s p k unit e cyc h ns t hp hk hu hlen hstks hwf
  exact ⟨fun hfind hcyc hrem => ⟨taskCompletion_hands t hp hu hlen hwf hfind hcyc hrem,
      taskCompletion_ends t hp hu hlen hfind hcyc hrem, taskCompletion_book t hp hu hlen hfind hcyc hrem⟩,
    taskCompletion_idle t hp hu hwf, clusterWake_wakes t hp hlen, clusterWake_waits t hp, pllRestart_restarts t hk hstks,
    nocCreditTimeout_latches t hk hlen hstks⟩

end Sys2Proof.Machine
end

section
/-!
SUPPORT. TASK_OFFER of a cluster's own work and of the stack DMA (R243, R245, R251).
-/
namespace Sys2Proof.Machine

/-! ## What an offer reads does not change before it -/

/-- What the areas of R245 look at in a cluster. -/
def Cluster.areas (c : Cluster) : List Cand × List Nat × List Nat := (c.cands, c.blocksAhead, c.queriesHeld)

section
variable {p : Nat} {c : Cluster} {bk : List Stack} {s x : State}

theorem State.Becomes.areasFit (h : s.Becomes p c bk s.streams x) (hc : c.areas = (s.cl p).areas) (id : Nat) :
    x.areasFit p id = s.areasFit p id := by
  have hareas : (x.cl p).areas = (s.cl p).areas := (congrArg Cluster.areas h.cluster :).trans hc
  have hcands : (x.cl p).cands = (s.cl p).cands := congrArg Prod.fst hareas
  have hblocks : (x.cl p).blocksAhead = (s.cl p).blocksAhead := congrArg (fun a => a.2.1) hareas
  have hheld : (x.cl p).queriesHeld = (s.cl p).queriesHeld := congrArg (fun a => a.2.2) hareas
  have hnet (i : Nat) : x.netOfStream i = s.netOfStream i := by
    obtain ⟨l, ks, o, hx⟩ := h.rest
    rw [hx]
    rfl
  unfold State.areasFit
  dsimp only
  rw [hcands, hblocks, hheld]
  simp only [hnet]

theorem State.Becomes.pinnedNow {ss : List Stream} (h : s.Becomes p c bk ss x) (d : TaskDesc) : x.pinnedNow d = s.pinnedNow d := by
  obtain ⟨l, ks, o, hx⟩ := h.rest
  rw [hx]
  rfl

theorem State.Becomes.misplaced (h : s.Becomes p c bk s.streams x) (d : TaskDesc) : x.misplaced p d = s.misplaced p d := by
  obtain ⟨l, ks, o, hx⟩ := h.rest
  rw [hx]
  rfl

theorem State.Becomes.firstChoice (h : s.Becomes p c bk s.streams x) (k : Nat) (d : TaskDesc) : x.firstChoice k d = s.firstChoice k d := by
  obtain ⟨l, ks, o, hx⟩ := h.rest
  rw [hx]
  rfl

end

theorem Scheduler.inCycle_tasks (x : Scheduler) (cyc rank : Nat) : (x.inCycle cyc rank).tasks = x.tasks := by
  unfold Scheduler.inCycle
  split <;> rfl

theorem Cluster.areas_inCycle (c : Cluster) (cyc rank : Nat) (own : List TaskDesc) (f : Flow) :
    ({ c with sched := c.sched.inCycle cyc rank, own := own, ownFlow := f } : Cluster).areas = c.areas := by
  have htasks := c.sched.inCycle_tasks cyc rank
  have hahead : ({ c with sched := c.sched.inCycle cyc rank, own := own, ownFlow := f } : Cluster).blocksAhead = c.blocksAhead := by
    unfold Cluster.blocksAhead
    dsimp only
    rw [htasks]
  unfold Cluster.areas Cluster.queriesHeld
  rw [hahead]

/-- The scheduler that a task has entered, as the obligation writes it. -/
theorem Scheduler.entered_eq (x : Scheduler) (d : TaskDesc) {h : Held}
    (hh : h = { entry := x.nextEntry, task := if 0 < d.tokens then d else { d with age := x.age % 65536 },
                seat := taskStruct d, extraSeat := taskStruct d }) :
    x.entered (taskStruct d) d = { x.push (taskStruct d) h with
      nextEntry := x.nextEntry + 1, age := if 0 < d.tokens then x.age else x.age + 1 } := by
  have hstruct : taskStruct d = 0 ↔ 0 < d.tokens := by
    unfold taskStruct
    by_cases ht : 0 < d.tokens
    · rw [if_pos ht]
      exact ⟨fun _ => ht, fun _ => rfl⟩
    · rw [if_neg ht]
      split
      · exact ⟨fun h2 => absurd h2 (by decide), fun h2 => absurd h2 ht⟩
      · exact ⟨fun h1 => absurd h1 (by decide), fun h1 => absurd h1 ht⟩
  have hheld : x.newHeld (taskStruct d) d = h := by
    subst hh
    unfold Scheduler.newHeld agedTask
    by_cases ht : 0 < d.tokens
    · rw [if_pos ht, if_pos (hstruct.mpr ht)]
    · rw [if_neg ht, if_neg fun h0 => ht (hstruct.mp h0)]
  unfold Scheduler.entered
  rw [hheld]
  by_cases ht : 0 < d.tokens
  · rw [if_pos ht, if_pos (hstruct.mpr ht)]
  · rw [if_neg ht, if_neg fun h0 => ht (hstruct.mp h0)]

theorem notedStreams_eq (s : State) (d : TaskDesc) : notedStreams d s.streams =
    (if isBlock d then s.streamOn d.stream fun y => { y with blocksAccepted := y.blocksAccepted + 1 } else s).streams := by
  unfold notedStreams
  split <;> rfl

/-! ## The offer of a cluster's own work -/

section
variable {s : State} {p cyc : Nat} {d : TaskDesc} (t : Nat)

theorem taskOffer_row (hp : p < 64) (hwf : d.wf = true) (q : Producer) :
    exec (.taskOffer p q d ⟨cyc, t⟩) s = .next { (s.at t).taskOffer p q d cyc with pending := s.pending } := by
  have hguard : (below p 64 && d.wf) = true := by simp [below, hp, hwf]
  exact (exec_taskOffer ..).trans (ranAt_pos hguard ..)

/-- The cycle of an offer has begun at its cluster. -/
def Cluster.offered (c : Cluster) (cyc rank : Nat) : Cluster := c.withSched (c.sched.inCycle cyc rank)

/-- A cluster that holds a task of its own. -/
def Cluster.holding (c : Cluster) (d : TaskDesc) : Cluster :=
  if c.own.contains d then c else { c with own := c.own ++ [d], ownFlow := c.ownFlow.offer }

/-- A cluster whose own task has gone. -/
def Cluster.gave (c : Cluster) (d : TaskDesc) : Cluster := { c with own := c.own.erase d, ownFlow := c.ownFlow.accept }

/-- The state of an offer of own work before it is judged. -/
def State.ownHeld (p : Nat) (d : TaskDesc) (s : State) : State := if (s.cl p).own.contains d then s else s.holdOwn p d

theorem State.Becomes.ownHeld {c : Cluster} {bk : List Stack} {ss : List Stream} {x : State} (h : s.Becomes p c bk ss x)
    (d : TaskDesc) : s.Becomes p (c.holding d) bk ss (x.ownHeld p d) := by
  have hown : (x.cl p).own = c.own := (congrArg Cluster.own h.cluster :)
  unfold State.ownHeld Cluster.holding
  rw [hown]
  split
  · exact h
  · exact h.holdOwn d

theorem State.taskOffer_own (hdue : (s.at t).offerDue p cyc .ownCluster = true) : (s.at t).taskOffer p .ownCluster d cyc =
    ((s.at t).modSched p fun x => x.inCycle cyc rankToken).ownOffer p d := State.when_pos hdue _ _

theorem State.taskOffer_dma (hdue : (s.at t).offerDue p cyc .stackDma = true) : (s.at t).taskOffer p .stackDma d cyc =
    ((s.at t).modSched p fun x => x.inCycle cyc rankToken).dmaOffer p d := State.when_pos hdue _ _

theorem State.ownOffer_eq (p : Nat) (d : TaskDesc) (s : State) : s.ownOffer p d =
    if (s.ownHeld p d).barred p d || (s.ownHeld p d).misplaced p d then s.ownHeld p d
    else (s.ownHeld p d).admitTask p d 2 (fun s => (s.modCl p fun c => c.gave d).noteTaken p d) id := rfl

theorem Cluster.holding_parts (c : Cluster) (d : TaskDesc) : (c.holding d).sched = c.sched ∧
    (c.holding d).own.erase d = c.own.erase d ∧ d ∈ (c.holding d).own := by
  unfold Cluster.holding
  split
  · next h => exact ⟨rfl, rfl, by simpa using h⟩
  · next h =>
    have hnot : d ∉ c.own := by simpa using h
    refine ⟨rfl, ?_, List.mem_append_right _ (List.mem_singleton.mpr rfl)⟩
    change (c.own ++ [d]).erase d = c.own.erase d
    rw [List.erase_append_right _ hnot, List.erase_of_not_mem hnot]
    simp

theorem Cluster.holding_areas (c : Cluster) (cyc rank : Nat) (d : TaskDesc) : ((c.offered cyc rank).holding d).areas = c.areas := by
  unfold Cluster.holding
  split
  · exact Cluster.areas_inCycle c cyc rank c.own c.ownFlow
  · exact Cluster.areas_inCycle c cyc rank (c.own ++ [d]) c.ownFlow.offer

end

end Sys2Proof.Machine
end

section
/-!
SUPPORT. TASK_OFFER of own work and of the stack DMA, taken or refused (R243, R245, R251, R253).
-/
namespace Sys2Proof.Machine

/-- The stacks behind an offer of the stack DMA before it is judged, and once it is taken. -/
def Stack.dmaHolding (p : Nat) (d : TaskDesc) (x : Stack) : Stack :=
  { x with dmaTasks := x.dmaTasks ++ [(d, p)], dmaFlow := x.dmaFlow.offer }
def Stack.dmaGave (p : Nat) (d : TaskDesc) (x : Stack) : Stack :=
  { x with dmaTasks := x.dmaTasks.erase (d, p), dmaFlow := x.dmaFlow.accept }

/-- The state of an offer of the stack DMA before it is judged. -/
def State.dmaHeld (p : Nat) (d : TaskDesc) (s : State) : State :=
  if (s.stk (stackOf p)).dmaTasks.contains (d, p) then s else s.modStk (stackOf p) (Stack.dmaHolding p d)

theorem State.dmaOffer_eq (p : Nat) (d : TaskDesc) (s : State) : s.dmaOffer p d =
    if (s.dmaHeld p d).barred p d || (s.dmaHeld p d).misplaced p d then s.dmaHeld p d
    else (s.dmaHeld p d).admitTask p d 1 (fun s => (s.modStk (stackOf p) (Stack.dmaGave p d)).noteTaken p d) id := rfl

section
variable {s : State} {p cyc : Nat} {d : TaskDesc} (t : Nat)

/-- What an offer finds at its cluster: the cycle has begun, and the task is held. -/
structure State.OfferHeld (p : Nat) (d : TaskDesc) (cyc rank : Nat) (c : Cluster) (bk : List Stack) (s y : State) : Prop where
  becomes : s.Becomes p c bk s.streams y
  sched : c.sched = (s.cl p).sched.inCycle cyc rank
  areas : c.areas = (s.cl p).areas

/-- A task that finds its entries enters (R245). -/
theorem State.OfferHeld.enters {rank : Nat} {c : Cluster} {bk : List Stack} {y : State} (h : State.OfferHeld p d cyc rank c bk s y)
    (hp : p < 64) (producer : Nat) (yes no : State → State)
    (hroom : 1 + d.succExtra ≤ ((s.cl p).sched.inCycle cyc rank).room (taskStruct d) d.safety)
    (hareas : isBlock d = true → s.areasFit p d.stream = true) :
    y.admitTask p d producer yes no = yes (y.enter p (taskStruct d) d producer) ∧
      s.Becomes p (c.entered (taskStruct d) d) bk s.streams (y.enter p (taskStruct d) d producer) := by
  refine ⟨State.admitTask_takes producer yes no ?_ fun hb => ?_, h.becomes.enter hp ..⟩
  · rw [h.becomes.sched, h.sched]
    exact hroom
  · rw [h.becomes.areasFit h.areas]
    exact hareas hb

/-- A task that does not is refused, and the structures stay as they are. -/
theorem State.OfferHeld.refuses {rank : Nat} {c : Cluster} {bk : List Stack} {y : State} (h : State.OfferHeld p d cyc rank c bk s y)
    (hp : p < 64) (producer : Nat) (yes no : State → State) (hexact : s.frame.conf.exact = false)
    (hroom : ((s.cl p).sched.inCycle cyc rank).room (taskStruct d) d.safety < 1 + d.succExtra) :
    ∃ z, y.admitTask p d producer yes no = no z ∧ s.Becomes p c bk s.streams z := by
  refine ⟨_, State.admitTask_refuses producer yes no ?_, h.becomes.refuse hp hexact ..⟩
  rw [h.becomes.sched, h.sched]
  exact hroom

theorem State.ownHeld_held (hp : p < s.clusters.length) (cyc rank : Nat) (d : TaskDesc) :
    State.OfferHeld p d cyc rank (((s.cl p).offered cyc rank).holding d) s.stks s
      ((s.modSched p fun x => x.inCycle cyc rank).ownHeld p d) :=
  ⟨((State.becomes_self hp).sched_mod fun x => x.inCycle cyc rank).ownHeld d, (Cluster.holding_parts ..).1, Cluster.holding_areas ..⟩

/-- The books of the stacks behind an offer of the stack DMA. -/
def dmaBooks (p : Nat) (d : TaskDesc) (bk : List Stack) : List Stack :=
  if (bk.getD (stackOf p) {}).dmaTasks.contains (d, p) then bk else bk.modify (stackOf p) (Stack.dmaHolding p d)

theorem dmaBooks_stack {bk : List Stack} (hk : stackOf p < bk.length) (d : TaskDesc) :
    (d, p) ∈ ((dmaBooks p d bk).getD (stackOf p) {}).dmaTasks ∧
    (((dmaBooks p d bk).modify (stackOf p) (Stack.dmaGave p d)).getD (stackOf p) {}).dmaTasks =
      (bk.getD (stackOf p) {}).dmaTasks.erase (d, p) := by
  unfold dmaBooks
  split
  · next h =>
    refine ⟨by simpa using h, ?_⟩
    exact (congrArg Stack.dmaTasks (getD_modify_self hk (Stack.dmaGave p d) {}) :)
  · next h =>
    have hnot : (d, p) ∉ (bk.getD (stackOf p) {}).dmaTasks := by simpa using h
    have hhold : (bk.modify (stackOf p) (Stack.dmaHolding p d)).getD (stackOf p) {} = (bk.getD (stackOf p) {}).dmaHolding p d :=
      getD_modify_self hk _ _
    refine ⟨?_, ?_⟩
    · rw [hhold]
      exact List.mem_append_right _ (List.mem_singleton.mpr rfl)
    · have hlen : stackOf p < (bk.modify (stackOf p) (Stack.dmaHolding p d)).length := by
        rw [List.length_modify]
        exact hk
      have hgave := (congrArg Stack.dmaTasks (getD_modify_self hlen (Stack.dmaGave p d) {}) :)
      rw [hgave, hhold]
      change ((bk.getD (stackOf p) {}).dmaTasks ++ [(d, p)]).erase (d, p) = _
      rw [List.erase_append_right _ hnot, List.erase_of_not_mem hnot]
      simp

theorem State.Becomes.dmaHeld {c : Cluster} {bk : List Stack} {ss : List Stream} {x : State} (h : s.Becomes p c bk ss x)
    (d : TaskDesc) : s.Becomes p c (dmaBooks p d bk) ss (x.dmaHeld p d) := by
  have htasks : (x.stk (stackOf p)).dmaTasks = (bk.getD (stackOf p) {}).dmaTasks := (congrArg Stack.dmaTasks (h.stk (stackOf p)) :)
  unfold State.dmaHeld dmaBooks
  rw [htasks]
  split
  · exact h
  · exact h.stack (by intro; rfl)

theorem State.dmaHeld_held (hp : p < s.clusters.length) (cyc rank : Nat) (d : TaskDesc) :
    State.OfferHeld p d cyc rank ((s.cl p).offered cyc rank) (dmaBooks p d s.stks) s
      ((s.modSched p fun x => x.inCycle cyc rank).dmaHeld p d) :=
  ⟨((State.becomes_self hp).sched_mod fun x => x.inCycle cyc rank).dmaHeld d, rfl, Cluster.areas_inCycle ..⟩

/-- Own work that finds its entries is taken whole. -/
theorem taskOffer_own_takes (hp : p < 64) (hlen : s.clusters.length = 64) (hwf : d.wf = true)
    (hdue : (s.at t).offerDue p cyc .ownCluster = true) (hbar : (s.at t).barred p d = false) (hplace : s.misplaced p d = false)
    (hroom : 1 + d.succExtra ≤ ((s.cl p).sched.inCycle cyc rankToken).room (taskStruct d) d.safety)
    (hareas : isBlock d = true → s.areasFit p d.stream = true) :
    ∃ z c bk, exec (.taskOffer p .ownCluster d ⟨cyc, t⟩) s = .next { z with pending := s.pending } ∧
      (s.at t).Becomes p c bk (notedStreams d s.streams) z ∧
      c.sched = ((s.cl p).sched.inCycle cyc rankToken).entered (taskStruct d) d ∧ c.gate = .on ∧
      c.own = (s.cl p).own.erase d := by
  have hrow := taskOffer_row (s := s) (cyc := cyc) t hp hwf .ownCluster
  have hheld := State.ownHeld_held (s := s.at t) (p := p) (hlen.symm ▸ hp : p < s.clusters.length) cyc rankToken d
  rw [State.taskOffer_own t hdue, State.ownOffer_eq, hheld.becomes.barred, hbar, hheld.becomes.misplaced,
    show (s.at t).misplaced p d = false from hplace, if_neg (by simp)] at hrow
  obtain ⟨hadmit, hin⟩ := hheld.enters hp 2 (fun s => (s.modCl p fun c => c.gave d).noteTaken p d) id hroom hareas
  rw [hadmit] at hrow
  have hgave := (hin.mod (f := fun c => c.gave d) (by intro; rfl)).noteTaken d
  obtain ⟨hsched, hown, -⟩ := Cluster.holding_parts ((s.cl p).offered cyc rankToken) d
  refine ⟨_, _, _, hrow, hgave, ?_, rfl, hown⟩
  change ((((s.cl p).offered cyc rankToken).holding d).sched).entered (taskStruct d) d = _
  rw [hsched]
  rfl

theorem taskOffer_dma_takes (hp : p < 64) (hlen : s.clusters.length = 64) (hstks : s.stks.length = 4) (hwf : d.wf = true)
    (hdue : (s.at t).offerDue p cyc .stackDma = true) (hbar : (s.at t).barred p d = false) (hplace : s.misplaced p d = false)
    (hroom : 1 + d.succExtra ≤ ((s.cl p).sched.inCycle cyc rankToken).room (taskStruct d) d.safety)
    (hareas : isBlock d = true → s.areasFit p d.stream = true) :
    ∃ z c bk, exec (.taskOffer p .stackDma d ⟨cyc, t⟩) s = .next { z with pending := s.pending } ∧
      (s.at t).Becomes p c bk (notedStreams d s.streams) z ∧
      c.sched = ((s.cl p).sched.inCycle cyc rankToken).entered (taskStruct d) d ∧ c.gate = .on ∧
      (bk.getD (p / 16) {}).dmaTasks = (s.stk (p / 16)).dmaTasks.erase (d, p) := by
  have hrow := taskOffer_row (s := s) (cyc := cyc) t hp hwf .stackDma
  have hk : stackOf p < s.stks.length := by unfold stackOf; omega
  have hheld := State.dmaHeld_held (s := s.at t) (p := p) (hlen.symm ▸ hp : p < s.clusters.length) cyc rankToken d
  rw [State.taskOffer_dma t hdue, State.dmaOffer_eq, hheld.becomes.barred, hbar, hheld.becomes.misplaced,
    show (s.at t).misplaced p d = false from hplace, if_neg (by simp)] at hrow
  obtain ⟨hadmit, hin⟩ := hheld.enters hp 1 (fun s => (s.modStk (stackOf p) (Stack.dmaGave p d)).noteTaken p d) id hroom hareas
  rw [hadmit] at hrow
  have hgave := (hin.stack (k := stackOf p) (f := Stack.dmaGave p d) (by intro; rfl)).noteTaken d
  exact ⟨_, _, _, hrow, hgave, rfl, rfl, (dmaBooks_stack hk d).2⟩

/-- What the obligation says of a task taken. -/
theorem State.Becomes.offerTaken {c : Cluster} {bk : List Stack} {z : State}
    (hz : (s.at t).Becomes p c bk (notedStreams d s.streams) z) {h : Held} {x : Scheduler}
    (hh : h = { entry := x.nextEntry, task := if 0 < d.tokens then d else { d with age := x.age % 65536 },
                seat := taskStruct d, extraSeat := taskStruct d })
    (hsched : c.sched = x.entered (taskStruct d) d) :
    (z.cl p).sched = { x.push (taskStruct d) h with
      nextEntry := x.nextEntry + 1, age := if 0 < d.tokens then x.age else x.age + 1 } ∧
    (∀ r, r ≠ p → z.cl r = s.cl r) ∧
    z.streams = (if isBlock d then s.streamOn d.stream fun y => { y with blocksAccepted := y.blocksAccepted + 1 }
      else s).streams ∧
    { z with time := s.time, clusters := s.clusters, stks := s.stks, obs := s.obs, streams := s.streams, pending := s.pending } = s := by
  refine ⟨(hz.sched.trans hsched).trans (Scheduler.entered_eq x d hh), hz.others, hz.streams.trans (notedStreams_eq s d), ?_⟩
  have hframe := congrArg (fun y : State => { y with time := s.time, pending := s.pending }) hz.frame
  exact hframe

/-- Own work and work of the DMA that a cluster takes. -/
theorem taskOffer_takes (hp : p < 64) (hlen : s.clusters.length = 64) (hstks : s.stks.length = 4) (hwf : d.wf = true) {h : Held}
    {x : Scheduler}
    (hh : h = { entry := x.nextEntry, task := if 0 < d.tokens then d else { d with age := x.age % 65536 },
                seat := taskStruct d, extraSeat := taskStruct d })
    (q : Producer) (hq : q = .ownCluster ∨ q = .stackDma) (hx : x = (s.cl p).sched.inCycle cyc rankToken)
    (hdue : (s.at t).offerDue p cyc q = true) (hbar : (s.at t).barred p d = false) (hplace : s.misplaced p d = false)
    (hroom : 1 + d.succExtra ≤ x.room (taskStruct d) d.safety) (hareas : isBlock d = true → s.areasFit p d.stream = true) :
    ∃ s', exec (.taskOffer p q d ⟨cyc, t⟩) s = .next s' ∧ (s'.cl p).gate = .on ∧
      (s'.cl p).sched = { x.push (taskStruct d) h with
        nextEntry := x.nextEntry + 1, age := if 0 < d.tokens then x.age else x.age + 1 } ∧
      (q = .ownCluster → (s'.cl p).own = (s.cl p).own.erase d) ∧
      (q = .stackDma → (s'.stk (p / 16)).dmaTasks = (s.stk (p / 16)).dmaTasks.erase (d, p)) ∧
      (∀ r, r ≠ p → s'.cl r = s.cl r) ∧
      s'.streams = (if isBlock d then s.streamOn d.stream fun y => { y with blocksAccepted := y.blocksAccepted + 1 }
        else s).streams ∧
      { s' with time := s.time, clusters := s.clusters, stks := s.stks, obs := s.obs, streams := s.streams } = s := by
  subst hx
  rcases hq with rfl | rfl
  · obtain ⟨z, c, bk, hrow, hz, hsched, hgate, hown⟩ := taskOffer_own_takes t hp hlen hwf hdue hbar hplace hroom hareas
    obtain ⟨hs, hothers, hstreams, hframe⟩ := hz.offerTaken t hh hsched
    exact ⟨_, hrow, (congrArg Cluster.gate hz.cluster :).trans hgate, hs, fun _ => (congrArg Cluster.own hz.cluster :).trans hown,
      fun h => absurd h (by decide), hothers, hstreams, hframe⟩
  · obtain ⟨z, c, bk, hrow, hz, hsched, hgate, hdma⟩ := taskOffer_dma_takes t hp hlen hstks hwf hdue hbar hplace hroom hareas
    obtain ⟨hs, hothers, hstreams, hframe⟩ := hz.offerTaken t hh hsched
    exact ⟨_, hrow, (congrArg Cluster.gate hz.cluster :).trans hgate, hs, fun h => absurd h (by decide),
      fun _ => (congrArg Stack.dmaTasks (hz.stk (p / 16)) :).trans hdma, hothers, hstreams, hframe⟩

/-- Own work and work of the DMA that finds no entry is refused, and its producer holds it (R259). -/
theorem taskOffer_refuses (hp : p < 64) (hlen : s.clusters.length = 64) (hstks : s.stks.length = 4) (hwf : d.wf = true)
    {x : Scheduler} (q : Producer) (hq : q = .ownCluster ∨ q = .stackDma) (hx : x = (s.cl p).sched.inCycle cyc rankToken)
    (hdue : (s.at t).offerDue p cyc q = true) (hbar : (s.at t).barred p d = false) (hplace : s.misplaced p d = false)
    (hroom : x.room (taskStruct d) d.safety < 1 + d.succExtra) (hexact : s.frame.conf.exact = false) :
    ∃ s', exec (.taskOffer p q d ⟨cyc, t⟩) s = .next s' ∧ (s'.cl p).sched = x ∧
      (q = .ownCluster → d ∈ (s'.cl p).own) ∧ (q = .stackDma → (d, p) ∈ (s'.stk (p / 16)).dmaTasks) ∧
      (∀ r, r ≠ p → s'.cl r = s.cl r) ∧
      { s' with time := s.time, clusters := s.clusters, stks := s.stks, obs := s.obs, free := s.free } = s := by
  subst hx
  have hrow := taskOffer_row (s := s) (cyc := cyc) t hp hwf q
  have hp' : p < (s.at t).clusters.length := (hlen.symm ▸ hp : p < s.clusters.length)
  have hframe {c : Cluster} {bk : List Stack} {z : State} (hz : (s.at t).Becomes p c bk s.streams z) :
      { z with
        time := s.time, clusters := s.clusters, stks := s.stks, obs := s.obs, free := s.free, pending := s.pending } = s := by
    have hback := congrArg (fun y : State => { y with time := s.time, free := s.free, pending := s.pending })
      (State.Becomes.frame_streams (s := s.at t) hz)
    exact hback
  rcases hq with rfl | rfl
  · have hheld := State.ownHeld_held hp' cyc rankToken d
    rw [State.taskOffer_own t hdue, State.ownOffer_eq, hheld.becomes.barred, hbar, hheld.becomes.misplaced,
      show (s.at t).misplaced p d = false from hplace, if_neg (by simp)] at hrow
    obtain ⟨z, hadmit, hz⟩ := hheld.refuses hp 2 (fun s => (s.modCl p fun c => c.gave d).noteTaken p d) id hexact hroom
    rw [hadmit] at hrow
    obtain ⟨hsched, -, hmem⟩ := Cluster.holding_parts ((s.cl p).offered cyc rankToken) d
    have hown : (z.cl p).own = (((s.cl p).offered cyc rankToken).holding d).own := (congrArg Cluster.own hz.cluster :)
    have hkeep := hframe hz
    exact ⟨_, hrow, hz.sched.trans hsched, fun _ => hown.symm ▸ hmem, fun h => absurd h (by decide), hz.others, hkeep⟩
  · have hk : stackOf p < s.stks.length := by unfold stackOf; omega
    have hheld := State.dmaHeld_held hp' cyc rankToken d
    rw [State.taskOffer_dma t hdue, State.dmaOffer_eq, hheld.becomes.barred, hbar, hheld.becomes.misplaced,
      show (s.at t).misplaced p d = false from hplace, if_neg (by simp)] at hrow
    obtain ⟨z, hadmit, hz⟩ := hheld.refuses hp 1 (fun s => (s.modStk (stackOf p) (Stack.dmaGave p d)).noteTaken p d) id hexact hroom
    rw [hadmit] at hrow
    have hdma : (z.stk (stackOf p)).dmaTasks = ((dmaBooks p d s.stks).getD (stackOf p) {}).dmaTasks :=
      (congrArg Stack.dmaTasks (hz.stk (stackOf p)) :)
    have hkeep := hframe hz
    exact ⟨_, hrow, hz.sched, fun h => absurd h (by decide), fun _ => hdma.symm ▸ (dmaBooks_stack hk d).1, hz.others, hkeep⟩

end

end Sys2Proof.Machine
end

section
/-!
SUPPORT. TASK_OFFER of the dispatcher, and the obligation on task offers (R243, R245, R248, R249, R251, R253, R254, R256).
-/
namespace Sys2Proof.Machine

section
variable {p : Nat} {c : Cluster} {bk : List Stack} {ss : List Stream} {s x : State}

theorem State.Becomes.noteAffinity (h : s.Becomes p c bk ss x) (hp : p < 64) (d : TaskDesc) :
    ∃ ss', s.Becomes p c bk ss' (x.noteAffinity p d) := by
  have hk : stackOf p < 4 := by unfold stackOf; omega
  unfold State.noteAffinity
  dsimp only
  split
  · exact ⟨ss, h⟩
  · exact ⟨_, ((h.stackCounter ..).trace hk _ _ _ d.layerId d.operatorId).stream _⟩

theorem State.Becomes.noteBlock0 (h : s.Becomes p c bk ss x) (d : TaskDesc) : ∃ ss', s.Becomes p c bk ss' (x.noteBlock0 p d) := by
  unfold State.noteBlock0
  split
  · exact ⟨_, h.stream _⟩
  · exact ⟨ss, h⟩

/-- What may wait at the input behind an acceptance: the copy of a context for the cluster (R254). -/
def copyFor (p : Nat) (d : TaskDesc) (y : Queued) : Prop := isBlock d = true ∧ y.task.op = .contextCopy ∧ y.task.target = some p

/-- A task new to an empty dispatcher input. -/
theorem State.Becomes.newTask_empty (h : s.Becomes p c bk ss x) {k : Nat} (hk : k < bk.length)
    (hempty : (bk.getD k {}).dispatcher = []) (d : TaskDesc) :
    ∃ bk', s.Becomes p c bk' ss (x.newTask k d) ∧ ∀ y ∈ (bk'.getD k {}).dispatcher, y.task = d := by
  by_cases hlist : d ∈ (bk.getD k {}).taskList
  · have htasks : (x.stk k).taskList = (bk.getD k {}).taskList := (congrArg Stack.taskList (h.stk k) :)
    have hsame : x.newTask k d = x := by
      unfold State.newTask
      dsimp only
      rw [htasks, List.contains_iff_mem.mpr hlist, Bool.or_true]
      exact if_pos rfl
    rw [hsame]
    exact ⟨bk, h, fun y hy => absurd (hempty ▸ hy) (by simp)⟩
  · refine ⟨_, h.newTask hk d (fun q hq => absurd (hempty ▸ hq) (by simp)) hlist (by rw [hempty]; decide), ?_⟩
    have hget : (bk.modify k (Stack.queued d)).getD k {} = (bk.getD k {}).queued d := getD_modify_self hk ..
    rw [hget]
    intro y hy
    change y ∈ (bk.getD k {}).dispatcher ++ [{ task := d }] at hy
    rw [hempty] at hy
    rw [List.mem_singleton.mp hy]

theorem State.Becomes.issueCopy (h : s.Becomes p c bk ss x) (hk : stackOf p < bk.length)
    (hempty : (bk.getD (stackOf p) {}).dispatcher = []) (d : TaskDesc) :
    ∃ bk', s.Becomes p c bk' ss (x.issueCopy p d) ∧ ∀ y ∈ (bk'.getD (stackOf p) {}).dispatcher, copyFor p d y := by
  unfold State.issueCopy
  split
  · exact ⟨bk, h, fun y hy => absurd (hempty ▸ hy) (by simp)⟩
  · next st _ =>
    dsimp only
    split
    · next hcopy =>
      obtain ⟨bk', hnew, hall⟩ := h.newTask_empty hk hempty (copyTask st d.stream p)
      refine ⟨bk', hnew, fun y hy => ?_⟩
      have hblock : isBlock d = true := by
        have hop := (Bool.and_eq_true_iff.mp (Bool.and_eq_true_iff.mp hcopy).1).1
        unfold isBlock
        rcases Bool.or_eq_true_iff.mp hop with h | h
        · rw [h, Bool.or_true, Bool.true_or]
        · rw [h, Bool.or_true]
      rw [copyFor, hall y hy]
      exact ⟨hblock, rfl, rfl⟩
    · exact ⟨bk, h, fun y hy => absurd (hempty ▸ hy) (by simp)⟩

/-- What the acceptance of the one waiting task leaves. -/
theorem State.Becomes.offerTaken_one (h : s.Becomes p c bk ss x) (hp : p < 64) (hk : stackOf p < bk.length) {d : TaskDesc}
    (hone : (bk.getD (stackOf p) {}).dispatcher = [{ task := d }]) :
    ∃ c' bk' ss', s.Becomes p c' bk' ss' (State.offerTaken p d x) ∧ c'.sched = c.sched ∧ c'.gate = c.gate ∧
      ∀ y ∈ (bk'.getD (stackOf p) {}).dispatcher, copyFor p d y := by
  have hgiven := h.stack (k := stackOf p) (f := Stack.given d) (by intro; rfl)
  obtain ⟨ss1, haff⟩ := hgiven.noteAffinity hp d
  obtain ⟨ss2, hzero⟩ := haff.noteBlock0 d
  have htaken := hzero.noteTaken d
  have hget : (bk.modify (stackOf p) (Stack.given d)).getD (stackOf p) {} = (bk.getD (stackOf p) {}).given d :=
    getD_modify_self hk ..
  have hempty : ((bk.modify (stackOf p) (Stack.given d)).getD (stackOf p) {}).dispatcher = [] := by
    rw [hget]
    change replaceFirst d none (bk.getD (stackOf p) {}).dispatcher = []
    rw [hone]
    exact if_pos rfl
  obtain ⟨bk', hcopy, hall⟩ := htaken.issueCopy (by rw [List.length_modify]; exact hk) hempty d
  exact ⟨_, bk', _, hcopy, rfl, rfl, hall⟩

/-- The refused task stays at the input with its probe moved on (R253). -/
theorem State.Becomes.offerKept (h : s.Becomes p c bk ss x) (hk : stackOf p < bk.length) {d : TaskDesc}
    (hone : (bk.getD (stackOf p) {}).dispatcher = [{ task := d }]) :
    ∃ bk', s.Becomes p c bk' ss (x.offerKept p { task := d }) ∧ (bk'.getD (stackOf p) {}).dispatcher.map (·.task) = [d] := by
  have hprobe : (x.probeNext p { task := d }).task = d := by
    unfold State.probeNext
    split
    · rfl
    · dsimp only
      split
      · split <;> rfl
      · rfl
  have hkept := h.stack (k := stackOf p) (f := fun y => { y with
    dispatcher := replaceFirst d (some (x.probeNext p { task := d })) y.dispatcher }) (by intro; rfl)
  refine ⟨_, hkept, ?_⟩
  have hget := getD_modify_self hk (fun y : Stack => { y with
    dispatcher := replaceFirst d (some (x.probeNext p { task := d })) y.dispatcher }) {}
  rw [hget]
  change (replaceFirst d _ (bk.getD (stackOf p) {}).dispatcher).map (·.task) = [d]
  rw [hone]
  change (if d = d then _ else _ : List Queued).map (·.task) = [d]
  rw [if_pos rfl]
  change [(x.probeNext p { task := d }).task] = [d]
  rw [hprobe]

end

section
variable {s : State} {p cyc : Nat} {d : TaskDesc} (t : Nat)

/-- The task that came to the empty input is the one offered to its first cluster. -/
theorem State.dispatcherOffer_first {x y : State} (hx : x.newTask (stackOf p) d = y) (hexact : y.frame.conf.exact = false)
    (hone : (y.stk (stackOf p)).dispatcher = [{ task := d }]) (hchoice : y.firstChoice (stackOf p) d = some p) :
    x.dispatcherOffer p cyc d = y.offerTo p { task := d } := by
  have hnext : y.nextOffer (stackOf p) { task := d } = some p := hchoice
  have hoff : y.offered p cyc = some { task := d } := by
    unfold State.offered
    dsimp only
    rw [hexact, if_neg Bool.false_ne_true, hone]
    have hmine : ([({ task := d } : Queued)].filter fun q => y.nextOffer (stackOf p) q == some p) = [{ task := d }] :=
      List.filter_eq_self.mpr fun q hq => by
        rw [List.mem_singleton.mp hq, hnext]
        exact beq_self_eq_true _
    rw [hmine]
    rfl
  unfold State.dispatcherOffer
  dsimp only
  rw [hx, hoff]
  exact if_neg fun hne => hne rfl

/-- The offer of a task new to an empty input: its state before it is judged. -/
theorem taskOffer_dispatcher (hp : p < 64) (hlen : s.clusters.length = 64) (hstks : s.stks.length = 4) (hwf : d.wf = true)
    (hdue : (s.at t).offerDue p cyc .dispatcher = true) (hexact : s.frame.conf.exact = false)
    (hempty : (s.stk (p / 16)).dispatcher = []) (hlist : d ∉ (s.stk (p / 16)).taskList)
    (hchoice : s.firstChoice (p / 16) d = some p) :
    ∃ y bk, exec (.taskOffer p .dispatcher d ⟨cyc, t⟩) s = .next { y.offerTo p { task := d } with pending := s.pending } ∧
      State.OfferHeld p d cyc rankDispatcher ((s.cl p).offered cyc rankDispatcher) bk (s.at t) y ∧ stackOf p < bk.length ∧
      (bk.getD (stackOf p) {}).dispatcher = [{ task := d }] := by
  have hrow := taskOffer_row (s := s) (cyc := cyc) t hp hwf .dispatcher
  have hk : stackOf p < s.stks.length := by unfold stackOf; omega
  have hstep : (s.at t).taskOffer p .dispatcher d cyc =
      ((s.at t).modSched p fun x => x.inCycle cyc rankDispatcher).dispatcherOffer p cyc d := State.when_pos hdue _ _
  have hself := (State.becomes_self (s := s.at t) (p := p) (hlen.symm ▸ hp : p < s.clusters.length)).sched_mod
    fun x => x.inCycle cyc rankDispatcher
  have hnew := hself.newTask hk d (fun q hq => absurd (hempty ▸ hq) (by simp)) hlist
    (by rw [show ((s.at t).stks.getD (stackOf p) {}).dispatcher = [] from hempty]; decide)
  have hget : (s.stks.modify (stackOf p) (Stack.queued d)).getD (stackOf p) {} = (s.stks.getD (stackOf p) {}).queued d :=
    getD_modify_self hk ..
  have hone : ((s.stks.modify (stackOf p) (Stack.queued d)).getD (stackOf p) {}).dispatcher = [{ task := d }] := by
    rw [hget]
    change (s.stk (p / 16)).dispatcher ++ [{ task := d }] = _
    rw [hempty]
    rfl
  generalize hy : ((s.at t).modSched p fun x => x.inCycle cyc rankDispatcher).newTask (stackOf p) d = y at hnew
  have hdisp : (y.stk (stackOf p)).dispatcher = [{ task := d }] := (congrArg Stack.dispatcher (hnew.stk (stackOf p)) :).trans hone
  have hframe : y.frame.conf.exact = false := by
    obtain ⟨l, ks, o, hx⟩ := hnew.rest
    rw [hx]
    exact hexact
  have hoff := State.dispatcherOffer_first (cyc := cyc) hy hframe hdisp ((hnew.firstChoice _ d).trans hchoice)
  rw [hstep, hoff] at hrow
  exact ⟨y, _, hrow, ⟨hnew, rfl, Cluster.areas_inCycle ..⟩, by rw [List.length_modify]; exact hk, hone⟩

/-- A task new to the empty input is taken in its first cluster (R253). -/
theorem taskOffer_dispatcher_takes (hp : p < 64) (hlen : s.clusters.length = 64) (hstks : s.stks.length = 4) (hwf : d.wf = true)
    {h : Held} {x : Scheduler}
    (hh : h = { entry := x.nextEntry, task := if 0 < d.tokens then d else { d with age := x.age % 65536 },
                seat := taskStruct d, extraSeat := taskStruct d })
    (hx : x = (s.cl p).sched.inCycle cyc rankDispatcher) (hdue : (s.at t).offerDue p cyc .dispatcher = true)
    (hbar : (s.at t).barred p d = false) (hexact : s.frame.conf.exact = false)
    (hempty : (s.stk (p / 16)).dispatcher = []) (hlist : d ∉ (s.stk (p / 16)).taskList)
    (hchoice : s.firstChoice (p / 16) d = some p)
    (hroom : 1 + d.succExtra ≤ x.room (taskStruct d) d.safety ∧ (isBlock d = true → s.areasFit p d.stream = true) ∧
      (d.safety = true ∨ s.pinnedNow d = true ∨ 0 < x.room 1 false)) :
    ∃ s', exec (.taskOffer p .dispatcher d ⟨cyc, t⟩) s = .next s' ∧ (s'.cl p).gate = .on ∧
      (s'.cl p).sched = { x.push (taskStruct d) h with
        nextEntry := x.nextEntry + 1, age := if 0 < d.tokens then x.age else x.age + 1 } ∧
      (∀ y ∈ (s'.stk (p / 16)).dispatcher, isBlock d = true ∧ y.task.op = .contextCopy ∧ y.task.target = some p) ∧
      (∀ r, r ≠ p → s'.cl r = s.cl r) ∧
      { s' with time := s.time, clusters := s.clusters, stks := s.stks, obs := s.obs, streams := s.streams } = s := by
  subst hx
  obtain ⟨hfree, hareas, hopen⟩ := hroom
  obtain ⟨y, bk, hrow, hheld, hk, hone⟩ := taskOffer_dispatcher t hp hlen hstks hwf hdue hexact hempty hlist hchoice
  have hpass : y.passedOver p { task := d } = false := by
    unfold State.passedOver
    dsimp only
    rw [hheld.becomes.sched, hheld.sched, hheld.becomes.pinnedNow]
    rcases hopen with h | h | h
    · rw [h]
      simp
    · rw [show (s.at t).pinnedNow d = true from h]
      simp
    · rw [beq_false_of_ne (Nat.ne_of_gt (show 0 < (((s.at t).cl p).sched.inCycle cyc rankDispatcher).room 1 false from h))]
      simp
  obtain ⟨-, hin⟩ := hheld.enters hp 0 id id hfree hareas
  have htakes := State.offerTo_takes (q := { task := d }) ((hheld.becomes.barred d).trans hbar) hpass
    (by rw [hheld.becomes.sched, hheld.sched]; exact hfree)
    fun hb => (hheld.becomes.areasFit hheld.areas d.stream).trans (hareas hb)
  rw [htakes] at hrow
  obtain ⟨c, bk', ss', hz, hsched, hgate, hcopies⟩ := hin.offerTaken_one hp hk hone
  generalize State.offerTaken p d _ = z at hrow hz
  have hframe := congrArg (fun y : State => { y with time := s.time, pending := s.pending }) hz.frame
  have hdisp : (z.stk (stackOf p)).dispatcher = (bk'.getD (stackOf p) {}).dispatcher := (congrArg Stack.dispatcher (hz.stk (stackOf p)) :)
  refine ⟨_, hrow, (congrArg Cluster.gate hz.cluster :).trans hgate,
    (hz.sched.trans hsched).trans (Scheduler.entered_eq _ d hh), fun q hq => ?_, hz.others, hframe⟩
  change q ∈ (z.stk (stackOf p)).dispatcher at hq
  rw [hdisp] at hq
  exact hcopies q hq

/-- A task new to the empty input that its first cluster cannot hold waits for its next one. -/
theorem taskOffer_dispatcher_refuses (hp : p < 64) (hlen : s.clusters.length = 64) (hstks : s.stks.length = 4) (hwf : d.wf = true)
    {x : Scheduler} (hx : x = (s.cl p).sched.inCycle cyc rankDispatcher) (hdue : (s.at t).offerDue p cyc .dispatcher = true)
    (hexact : s.frame.conf.exact = false)
    (hempty : (s.stk (p / 16)).dispatcher = []) (hlist : d ∉ (s.stk (p / 16)).taskList)
    (hchoice : s.firstChoice (p / 16) d = some p) (hroom : x.room (taskStruct d) d.safety < 1 + d.succExtra) :
    ∃ s', exec (.taskOffer p .dispatcher d ⟨cyc, t⟩) s = .next s' ∧ (s'.cl p).sched = x ∧
      (s'.stk (p / 16)).dispatcher.map (·.task) = [d] ∧ (∀ r, r ≠ p → s'.cl r = s.cl r) ∧
      { s' with time := s.time, clusters := s.clusters, stks := s.stks, obs := s.obs, free := s.free } = s := by
  subst hx
  obtain ⟨y, bk, hrow, hheld, hk, hone⟩ := taskOffer_dispatcher t hp hlen hstks hwf hdue hexact hempty hlist hchoice
  have hkept : ∃ z, y.offerTo p { task := d } = z.offerKept p { task := d } ∧
      (s.at t).Becomes p ((s.cl p).offered cyc rankDispatcher) bk (s.at t).streams z := by
    rw [State.offerTo_eq]
    split
    · exact ⟨y, rfl, hheld.becomes⟩
    · exact hheld.refuses hp 0 _ _ hexact hroom
  obtain ⟨z, heq, hz⟩ := hkept
  rw [heq] at hrow
  obtain ⟨bk', hz', hmap⟩ := hz.offerKept hk hone
  generalize z.offerKept p { task := d } = u at hrow hz'
  have hframe := congrArg (fun y : State => { y with time := s.time, free := s.free, pending := s.pending })
    (State.Becomes.frame_streams (s := s.at t) hz')
  have hdisp : (u.stk (stackOf p)).dispatcher = (bk'.getD (stackOf p) {}).dispatcher := (congrArg Stack.dispatcher (hz'.stk (stackOf p)) :)
  exact ⟨_, hrow, hz'.sched, (congrArg (List.map (·.task)) hdisp).trans hmap, hz'.others, hframe⟩

/-- Outside its slot, in the guard and in a gated cluster no task is taken. -/
theorem taskOffer_waits (hp : p < 64) (hwf : d.wf = true)
    (h : (s.cl p).gate = .powerGated ∨ s.frame.phase = .guarded ∨ s.frame.phase = .closed ∨ cyc % 16 ≠ p % 16 ∨ s.enabled p = false)
    (q : Producer) : ∃ s', exec (.taskOffer p q d ⟨cyc, t⟩) s = .next s' ∧ { s' with time := s.time } = s := by
  have hrow := taskOffer_row (s := s) (cyc := cyc) t hp hwf q
  have hdue : ¬(s.at t).offerDue p cyc q = true := by
    unfold State.offerDue
    dsimp only
    rcases h with h | h | h | h | h
    · rw [show ((s.at t).cl p).gate = .powerGated from h]
      simp
    · rw [show (s.at t).frame.phase = .guarded from h]
      simp
    · rw [show (s.at t).frame.phase = .closed from h]
      simp
    · rw [show dispatchSlot p cyc = false from beq_false_of_ne h]
      simp
    · rw [show (s.at t).enabled p = false from h]
      simp
  have hsame : (s.at t).taskOffer p q d cyc = s.at t := if_neg hdue
  rw [hsame] at hrow
  exact ⟨_, hrow, rfl⟩

end

/-- Settles O33, a clause at a time: own work, the stack DMA's tasks and the dispatcher's, taken or refused. -/
theorem taskOffers : Obligations.TaskOffers := by
  unfold Obligations.TaskOffers
  intro s p cyc d t x h hp hlen hstks hwf hh
  exact ⟨fun q hq hx hdue hbar hplace => ⟨taskOffer_takes t hp hlen hstks hwf hh q hq hx hdue hbar hplace,
      taskOffer_refuses t hp hlen hstks hwf q hq hx hdue hbar hplace⟩,
    fun hx hdue hbar hexact hempty hlist hchoice =>
      ⟨taskOffer_dispatcher_takes t hp hlen hstks hwf hh hx hdue hbar hexact hempty hlist hchoice,
        taskOffer_dispatcher_refuses t hp hlen hstks hwf hx hdue hexact hempty hlist hchoice⟩,
    taskOffer_waits t hp hwf⟩

end Sys2Proof.Machine
end

section
/-!
SUPPORT. The transfer of an operand by the stack DMA, and the token behind it (R246, R249, R263, R268).
-/
namespace Sys2Proof.Machine

/-! ## The bytes of a transfer -/

theorem Mem.writeBytes_append (l r : List Byte) : ∀ (a : Nat) (m : Mem),
    Mem.writeBytes a (l ++ r) m = Mem.writeBytes (a + l.length) r (Mem.writeBytes a l m) := by
  induction l with
  | nil => exact fun _ _ => rfl
  | cons b l ih =>
    intro a m
    change Mem.writeBytes (a + 1) (l ++ r) (Mem.write a b m) = _
    rw [ih, List.length_cons, Nat.add_assoc, Nat.add_comm 1]
    rfl

/-- Slot by slot, a DMA that has its token writes its bytes and nothing else (R268). -/
theorem State.dmaWrite_eq {s : State} {k : Nat} (h : s.dmaReady k = true) (a : Nat) (bs : List Byte) :
    s.dmaWrite k a bs = s.sramWrite a bs := by
  have hslots (n : Nat) : (List.range n).foldl (fun s i => s.withToken k fun s =>
      s.sramWrite (a + slotBytes * i) ((bs.drop (slotBytes * i)).take slotBytes)) s = s.sramWrite a (bs.take (slotBytes * n)) := by
    induction n with
    | zero => rfl
    | succ n ih =>
      rw [List.range_succ, List.foldl_append, ih]
      change (s.sramWrite a (bs.take (slotBytes * n))).withToken k _ = _
      rw [State.withToken_keeps (s := s.sramWrite a (bs.take (slotBytes * n))) h (fun _ => rfl) rfl]
      have htake : bs.take (slotBytes * (n + 1)) = bs.take (slotBytes * n) ++ (bs.drop (slotBytes * n)).take slotBytes := by
        rw [Nat.mul_add, Nat.mul_one, List.take_add]
      rw [htake]
      by_cases hlen : slotBytes * n ≤ bs.length
      · have hl : (bs.take (slotBytes * n)).length = slotBytes * n := List.length_take_of_le hlen
        change { s with sram := _ } = { s with sram := _ }
        rw [Mem.writeBytes_append, hl]
        rfl
      · have hnil : (bs.drop (slotBytes * n)).take slotBytes = [] := by
          rw [List.drop_of_length_le (by omega)]
          exact List.take_nil
        rw [hnil, List.append_nil]
        rfl
  unfold State.dmaWrite
  rw [hslots, List.take_of_length_le]
  unfold ceilDiv
  have := Nat.div_add_mod (bs.length + slotBytes - 1) slotBytes
  have := Nat.mod_lt (bs.length + slotBytes - 1) (show 0 < slotBytes by decide)
  have hslot : slotBytes = 256 := rfl
  omega

section
variable {p : Nat} {c : Cluster} {bk : List Stack} {ss : List Stream} {s x : State}

theorem State.Becomes.withHub (h : s.Becomes p c bk ss x) (b : Hub) : ({ s with hub := b } : State).Becomes p c bk ss { x with hub := b } := by
  obtain ⟨l, ks, o, hx⟩ := h.rest
  refine ⟨⟨l, ks, o, ?_⟩, h.cluster, h.others, h.inRange, h.books⟩
  rw [hx]

theorem State.Becomes.withSram (h : s.Becomes p c bk ss x) (m : Mem) :
    ({ s with sram := m } : State).Becomes p c bk ss { x with sram := m } := by
  obtain ⟨l, ks, o, hx⟩ := h.rest
  refine ⟨⟨l, ks, o, ?_⟩, h.cluster, h.others, h.inRange, h.books⟩
  rw [hx]

/-- A selectable event of the hub counts in the hub alone. -/
theorem State.selEvent_hub (event qual layer op n : Nat) (s : State) : ∃ b, s.selEvent 2 0 event qual layer op n = { s with hub := b } := by
  unfold State.selEvent
  refine State.foldl_inv (fun y => ∃ b, y = { s with hub := b }) _ (fun y e hy => ?_) _ _ ⟨s.hub, rfl⟩
  obtain ⟨b, rfl⟩ := hy
  split
  · exact ⟨_, rfl⟩
  · exact ⟨b, rfl⟩

theorem State.Becomes.hubEvent (h : s.Becomes p c bk ss x) (event qual layer op n : Nat) :
    ∃ b, ({ s with hub := b } : State).Becomes p c bk ss (x.selEvent 2 0 event qual layer op n) := by
  obtain ⟨b, hb⟩ := State.selEvent_hub event qual layer op n x
  rw [hb]
  exact ⟨b, h.withHub b⟩

/-- The events of a transfer count in its cluster, its stack and the hub. -/
theorem State.Becomes.dmaEvents (h : s.Becomes p c bk ss x) (src off n : Nat) :
    ∃ b, ({ s with hub := b } : State).Becomes p c bk ss (x.dmaEvents p src off n) := by
  have hbase := ((h.event 0x02 (scratchRegion off) 0xFFFF 0xFFFF n).event 0x03 0 0xFFFF 0xFFFF n).stackEvent (stackOf p) 0x22 0xFF 0xFFFF
    0xFFFF n
  unfold State.dmaEvents
  dsimp only
  split
  · exact ⟨s.hub, hbase.stackEvent ..⟩
  · exact (hbase.stackEvent ..).hubEvent ..
  · exact (hbase.stackEvent ..).hubEvent ..
  · exact ⟨s.hub, hbase⟩

/-- A cluster without its scheduler. -/
def Cluster.unscheduled (c : Cluster) : Cluster := { c with sched := {} }

theorem State.modSched_cl (p q : Nat) (f : Scheduler → Scheduler) (s : State) :
    ((s.modSched p f).cl q).unscheduled = (s.cl q).unscheduled := by
  have hmap := map_modify_of Cluster.unscheduled (g := fun c : Cluster => { c with sched := f c.sched }) (by intro; rfl) s.clusters p
  have hget (l : List Cluster) : (l.getD q {}).unscheduled = (l.map Cluster.unscheduled).getD q (Cluster.unscheduled {}) :=
    (List.getD_map ..).symm
  exact (hget (s.modSched p f).clusters).trans
    ((congrArg (fun l => l.getD q (Cluster.unscheduled {})) hmap).trans (hget s.clusters).symm)

/-- No byte of the memory map is a scheduler's. -/
theorem State.internalBytes_modSched (p : Nat) (f : Scheduler → Scheduler) (s : State) (a n : Nat) :
    (s.modSched p f).internalBytes a n = s.internalBytes a n := by
  have hbyte (a : Nat) : (s.modSched p f).internalByte a = s.internalByte a := by
    unfold State.internalByte
    cases regionOf a with
    | none => rfl
    | some g =>
      cases g with
      | scratchpad q off =>
        have hq := State.modSched_cl p q f s
        have hcands : ((s.modSched p f).cl q).cands = (s.cl q).cands := (congrArg Cluster.cands hq :)
        have hlists : ((s.modSched p f).cl q).shortlistBytes = (s.cl q).shortlistBytes := (congrArg Cluster.shortlistBytes hq :)
        have hwork : ((s.modSched p f).cl q).workBytes = (s.cl q).workBytes := (congrArg Cluster.workBytes hq :)
        dsimp only
        unfold State.scratchByte State.candBytes
        rw [hcands, hlists, hwork]
        rfl
      | _ => rfl
  unfold State.internalBytes
  simp only [hbyte]

/-- An operand's transfer: its bytes stand in the scratchpad before its token comes (R246). -/
theorem State.Becomes.dmaTransfer (h : s.Becomes p c bk ss x) {dma : DmaDesc} (waits : Nat)
    (hsrc : s.badAddress (.stackDma (stackOf p)) false dma.src dma.len = none)
    (hdst : s.badAddress (.stackDma (stackOf p)) true (scratchAddr p dma.off) dma.len = none)
    (hbytes : x.internalBytes dma.src dma.len = s.internalBytes dma.src dma.len) (hopen : x.dmaOpen p dma = true) (f : State → State) :
    ∃ b y, x.dmaTransfer p dma waits .none f = f y ∧
      ({ s with hub := b, sram := Mem.writeBytes (scratchAddr p dma.off) (s.internalBytes dma.src dma.len) s.sram } : State).Becomes
        p c bk ss y := by
  have hready : x.dmaReady (stackOf p) = true := (Bool.and_eq_true_iff.mp (Bool.and_eq_true_iff.mp hopen).1).1
  have hsame : x.badAddress (.stackDma (stackOf p)) false dma.src dma.len = none ∧
      x.badAddress (.stackDma (stackOf p)) true (scratchAddr p dma.off) dma.len = none ∧
      x.sram = s.sram := by
    obtain ⟨l, ks, o, hx⟩ := h.rest
    rw [hx]
    exact ⟨hsrc, hdst, rfl⟩
  obtain ⟨hsrc', hdst', hsram⟩ := hsame
  have hwrite : x.dmaWrite (stackOf p) (scratchAddr p dma.off) (x.internalBytes dma.src dma.len) =
      { x with sram := Mem.writeBytes (scratchAddr p dma.off) (s.internalBytes dma.src dma.len) s.sram } := by
    rw [State.dmaWrite_eq hready, hbytes, ← hsram]
    rfl
  obtain ⟨b, hevents⟩ := ((h.withSram (Mem.writeBytes (scratchAddr p dma.off) (s.internalBytes dma.src dma.len) s.sram)).stackCounter
    (stackOf p) 0 waits).dmaEvents dma.src dma.off dma.len
  refine ⟨b, _, ?_, hevents⟩
  unfold State.dmaTransfer
  dsimp only
  rw [hsrc', hdst']
  dsimp only
  rw [State.when_pos hopen]
  exact congrArg (fun y : State => f ((y.bumpStk (stackOf p) 0 waits).dmaEvents p dma.src dma.off dma.len)) hwrite

end

end Sys2Proof.Machine
end

section
/-!
SUPPORT. What a token does to its task (R246, R249), and the clauses of TOKEN_DELIVERY.
-/
namespace Sys2Proof.Machine

/-! ## Tokens -/

/-- A matching-store task with one token fewer. -/
def Scheduler.tokenTaken (x : Scheduler) (e : Nat) : Scheduler := { x with
  ms := x.ms.map fun y => if y.entry = e then { y with task := { y.task with tokens := y.task.tokens - 1 } } else y }

/-- A task whose last operand has come. -/
def Held.readied (h : Held) (age : Nat) : Held :=
  { h with task := { h.task with tokens := 0, age := age % 65536 },
           seat := taskStruct { h.task with tokens := 0, age := age % 65536 } }

/-- The scheduler in which it has left the matching store. -/
def Scheduler.readied (x : Scheduler) (h : Held) : Scheduler :=
  { (if h.seat = (h.readied x.age).seat then x else x.free h.seat 1).push (h.readied x.age).seat (h.readied x.age) with
    ms := x.ms.filter (·.entry != h.entry), age := x.age + 1 }

section
variable {p : Nat} {c : Cluster} {bk : List Stack} {ss : List Stream} {s x : State}

theorem State.Becomes.tokenFind (h : s.Becomes p c bk ss x) (hrem : s.removalDue = false) (e : Nat) :
    ((x.cl p).sched.ms.find? fun h => h.entry == e && !(x.removalDue && abandons h.task)) =
      c.sched.ms.find? fun h => h.entry == e := by
  have hsame : x.removalDue = s.removalDue := by
    obtain ⟨l, ks, o, hx⟩ := h.rest
    rw [hx]
    rfl
  have hpred : (fun h : Held => h.entry == e && !(x.removalDue && abandons h.task)) = fun h => h.entry == e := by
    funext h
    rw [hsame, hrem]
    simp
  rw [hpred, h.sched]

theorem State.Becomes.token_none (h : s.Becomes p c bk ss x) (hrem : s.removalDue = false) {e : Nat}
    (hfind : (c.sched.ms.find? fun h => h.entry == e) = none) :
    ∃ bk', s.Becomes p c bk' ss (x.token p e) := by
  have hf := h.tokenFind hrem e
  rw [hfind] at hf
  have hstep : x.token p e = (x.bumpCl p 15).modStk (stackOf p) fun y => { y with dmaTokensHeld := y.dmaTokensHeld.erase (p, e) } := by
    unfold State.token
    rw [hf]
  rw [hstep]
  exact ⟨_, (h.counter 15 1).stack (by intro; rfl)⟩

theorem State.token_some {h : s.Becomes p c bk ss x} (hrem : s.removalDue = false) {e : Nat} {y : Held}
    (hfind : (c.sched.ms.find? fun h => h.entry == e) = some y) :
    x.token p e = if y.task.tokens ≤ 1 then x.ready p y else x.modSched p fun z => z.tokenTaken e := by
  have hf := h.tokenFind hrem e
  rw [hfind] at hf
  unfold State.token
  rw [hf]
  rfl

/-- A task that stays with the stack DMA for want of an entry. -/
def State.readyHeld (p : Nat) (h : Held) (s : State) : State :=
  (s.refuseTask p h.task 1 (decide (0 < (s.cl p).sched.open_ (h.readied (s.cl p).sched.age).seat))).modStk (stackOf p)
    fun y => { y with
      dmaTokensHeld := if y.dmaTokensHeld.contains (p, h.entry) then y.dmaTokensHeld else y.dmaTokensHeld ++ [(p, h.entry)] }

/-- A task that leaves the matching store. -/
def State.readyGoes (p : Nat) (h : Held) (s : State) : State :=
  (((s.modSched p fun z => { (if h.seat = (h.readied (s.cl p).sched.age).seat then z else z.free h.seat 1).push
      (h.readied (s.cl p).sched.age).seat (h.readied (s.cl p).sched.age) with
      ms := z.ms.filter (·.entry != h.entry), age := z.age + 1 }).modStk (stackOf p)
    fun y => { y with dmaTokensHeld := y.dmaTokensHeld.erase (p, h.entry) }).modCl p
    fun c => { c with gate := .on }).traceTask p 2 (h.readied (s.cl p).sched.age).task (h.readied (s.cl p).sched.age).seat 1 0

theorem State.ready_eq (p : Nat) (h : Held) (s : State) : s.ready p h =
    if h.seat ≠ (h.readied (s.cl p).sched.age).seat ∧ (s.cl p).sched.room (h.readied (s.cl p).sched.age).seat h.task.safety = 0 then
      s.readyHeld p h else s.readyGoes p h := rfl

theorem State.Becomes.readyGoes (h : s.Becomes p c bk ss x) (hp : p < 64) (y : Held) :
    ∃ bk', s.Becomes p { c with sched := c.sched.readied y, gate := .on } bk' ss (x.readyGoes p y) := by
  have hsched := h.sched
  unfold State.readyGoes
  rw [hsched]
  exact ⟨_, (((h.sched_mod fun z => { (if y.seat = (y.readied c.sched.age).seat then z else z.free y.seat 1).push
      (y.readied c.sched.age).seat (y.readied c.sched.age) with
      ms := z.ms.filter (·.entry != y.entry), age := z.age + 1 }).stack (k := stackOf p)
    (f := fun z => { z with dmaTokensHeld := z.dmaTokensHeld.erase (p, y.entry) }) (by intro; rfl)).mod
    (f := fun c => { c with gate := .on }) (by intro; rfl)).traceTask hp ..⟩

theorem State.Becomes.readyHeld (h : s.Becomes p c bk ss x) (hp : p < 64) (hk : stackOf p < bk.length)
    (hexact : s.frame.conf.exact = false) (y : Held) :
    ∃ bk', s.Becomes p c bk' ss (x.readyHeld p y) ∧ (p, y.entry) ∈ (bk'.getD (stackOf p) {}).dmaTokensHeld := by
  have hheld := (h.refuse hp hexact y.task 1 (decide (0 < (x.cl p).sched.open_ (y.readied (x.cl p).sched.age).seat))).stack (k := stackOf p)
    (f := fun z => { z with
      dmaTokensHeld := if z.dmaTokensHeld.contains (p, y.entry) then z.dmaTokensHeld else z.dmaTokensHeld ++ [(p, y.entry)] })
    (by intro; rfl)
  refine ⟨_, hheld, ?_⟩
  rw [getD_modify_self hk]
  dsimp only
  split
  · next hin => simpa using hin
  · exact List.mem_append_right _ (List.mem_singleton.mpr rfl)

/-- Outside Exact mode a token writes its cluster, the stacks and the trace alone. -/
theorem State.Becomes.token (h : s.Becomes p c bk ss x) (hp : p < 64) (hk : stackOf p < bk.length)
    (hexact : s.frame.conf.exact = false) (hrem : s.removalDue = false) (e : Nat) :
    ∃ c' bk', s.Becomes p c' bk' ss (x.token p e) := by
  cases hfind : c.sched.ms.find? fun h => h.entry == e with
  | none =>
    obtain ⟨bk', hnone⟩ := h.token_none hrem hfind
    exact ⟨c, bk', hnone⟩
  | some y =>
    rw [State.token_some (h := h) hrem hfind, State.ready_eq]
    split
    · split
      · obtain ⟨bk', hheld, -⟩ := h.readyHeld hp hk hexact y
        exact ⟨c, bk', hheld⟩
      · obtain ⟨bk', hgoes⟩ := h.readyGoes hp y
        exact ⟨_, bk', hgoes⟩
    · exact ⟨_, bk, h.sched_mod _⟩

end

/-- The SRAM and the tokens of the stacks' DMAs, which no token of a task touches. -/
def State.dmaView (s : State) : Mem × List Nat := (s.sram, s.stks.map (·.dmaTokens))

theorem State.modStk_dmaView {f : Stack → Stack} (hf : ∀ y, (f y).dmaTokens = y.dmaTokens) (k : Nat) (s : State) :
    (s.modStk k f).dmaView = s.dmaView := congrArg (Prod.mk s.sram) (map_modify_of (·.dmaTokens) hf s.stks k)

theorem State.modCl_dmaView (p : Nat) (f : Cluster → Cluster) (s : State) : (s.modCl p f).dmaView = s.dmaView := rfl

theorem State.traceTask_dmaView {p : Nat} (hp : p < 64) (kind : Nat) (d : TaskDesc) (st producer reason : Nat) (s : State) :
    (s.traceTask p kind d st producer reason).dmaView = s.dmaView := by
  obtain ⟨ks, o, htrace, hks⟩ := State.trace_stack (b := stackOf p) (by unfold stackOf; omega) p kind (taskBody d st producer reason) s
    d.layerId d.operatorId
  have hmap := congrArg (List.map Stack.dmaTokens) hks
  rw [List.map_map, List.map_map] at hmap
  unfold State.traceTask
  rw [htrace]
  exact congrArg (Prod.mk s.sram) hmap

theorem State.refuseTask_dmaView {p : Nat} (hp : p < 64) (d : TaskDesc) (producer : Nat) (reserved : Bool) (s : State) :
    (s.refuseTask p d producer reserved).dmaView = s.dmaView := by
  have htrace : ((s.bumpCl p 10).traceTask p 3 d (taskStruct d) producer (flag reserved 0)).dmaView = s.dmaView :=
    State.traceTask_dmaView hp ..
  unfold State.refuseTask
  dsimp only
  generalize (s.bumpCl p 10).traceTask p 3 d (taskStruct d) producer (flag reserved 0) = y at htrace
  split
  · obtain ⟨b, n, l, hslip⟩ := (y.fresh.2.timingEvent_leaves 8 (stackOf p) p (y.fresh.1.toNat % 2 ^ 32)).1
    rw [hslip]
    exact htrace
  · exact htrace

theorem State.token_dmaView {p : Nat} (hp : p < 64) (e : Nat) (s : State) : (s.token p e).dmaView = s.dmaView := by
  unfold State.token
  split
  · exact State.modStk_dmaView (by intro; rfl) _ (s.bumpCl p 15)
  · split
    · rw [State.ready_eq]
      split
      · exact (State.modStk_dmaView (by intro; rfl) ..).trans (State.refuseTask_dmaView hp ..)
      · exact ((State.traceTask_dmaView hp ..).trans (State.modCl_dmaView ..)).trans (State.modStk_dmaView (by intro; rfl) ..)
    · rfl

/-- The stop of a PLL writes it alone. -/
theorem State.stopPll_leaves (k : Nat) (s : State) :
    ∃ ks, s.stopPll k = { s with stks := ks } ∧ ks.map Stack.running = s.stks.map Stack.running := by
  unfold State.stopPll
  dsimp only
  split
  · exact ⟨_, rfl, map_modify_of Stack.running (by intro; rfl) _ _⟩
  · exact ⟨_, rfl, rfl⟩

end Sys2Proof.Machine
end

section
/-!
SUPPORT. TOKEN_DELIVERY (R246, R249, R263, R268, R271).
-/
namespace Sys2Proof.Machine

/-- A task without a release tick goes to the ready list. -/
theorem Scheduler.readied_ready (x : Scheduler) {h : Held} (hrel : h.task.release = 0) :
    (h.readied x.age).seat = 1 ∧ (x.readied h).ms = x.ms.filter (·.entry != h.entry) ∧
    (x.readied h).rl = x.rl ++ [{ h with task := { h.task with tokens := 0, age := x.age % 65536 }, seat := 1 }] := by
  have hseat : (h.readied x.age).seat = 1 := by
    unfold Held.readied taskStruct
    dsimp only
    rw [hrel]
    rfl
  have hheld : h.readied x.age = { h with task := { h.task with tokens := 0, age := x.age % 65536 }, seat := 1 } := by
    unfold Held.readied at hseat ⊢
    dsimp only at hseat
    rw [hseat]
  refine ⟨hseat, rfl, ?_⟩
  unfold Scheduler.readied
  rw [hseat, hheld]
  split <;> rfl

section
variable {s : State} {p e cyc waits : Nat} {dma : DmaDesc} (t : Nat)

theorem tokenDelivery_row (hp : p < 64) (hwf : dma.wf = true) (ok : Bool) (read : ReadFault) :
    exec (.tokenDelivery p e ⟨dma, waits, ok, read⟩ ⟨cyc, t⟩) s =
      .next { (s.at t).tokenDelivery p e ⟨dma, waits, ok, read⟩ cyc with pending := s.pending } := by
  have hguard : (below p 64 && dma.wf) = true := by simp [below, hp, hwf]
  exact (exec_tokenDelivery ..).trans (ranAt_pos hguard ..)

/-- The state when an operand's bytes stand in the scratchpad. -/
def State.operandCome (t p : Nat) (dma : DmaDesc) (b : Hub) (s : State) : State :=
  { s.at t with hub := b, sram := Mem.writeBytes (scratchAddr p dma.off) (s.internalBytes dma.src dma.len) s.sram }

/-- An operand arrives, and then its token. -/
theorem tokenDelivery_arrives (hp : p < 64) (hlen : s.clusters.length = 64) (hwf : dma.wf = true) (hen : s.enabled p = true)
    (hslot : cyc % 16 = p % 16) (hcyc : s.cycleDue p cyc rankToken = true) (hnew : (p, e) ∉ (s.stk (p / 16)).dmaTokensHeld)
    (hopen : (s.at t).dmaOpen p dma = true) (hsrc : s.badAddress (.stackDma (p / 16)) false dma.src dma.len = none)
    (hdst : s.badAddress (.stackDma (p / 16)) true (scratchAddr p dma.off) dma.len = none) :
    ∃ b y, exec (.tokenDelivery p e ⟨dma, waits, true, .none⟩ ⟨cyc, t⟩) s =
        .next { (y.token p e).stopPll (stackOf p) with pending := s.pending } ∧
      (s.operandCome t p dma b).Becomes p ((s.cl p).offered cyc rankToken) s.stks s.streams y := by
  have hrow := tokenDelivery_row (s := s) (e := e) (cyc := cyc) (waits := waits) t hp hwf true .none
  have hself := (State.becomes_self (s := s.at t) (p := p) (hlen.symm ▸ hp : p < s.clusters.length)).sched_mod
    fun x => x.inCycle cyc rankToken
  have hpin : (((s.at t).modSched p fun x => x.inCycle cyc rankToken).cl p).pinnedAt dma.off dma.len =
      ((s.at t).cl p).pinnedAt dma.off dma.len :=
    (congrArg (fun c : Cluster => c.pinnedAt dma.off dma.len) (State.modSched_cl p p (fun x => x.inCycle cyc rankToken) (s.at t)) :)
  have hopen' : ((s.at t).modSched p fun x => x.inCycle cyc rankToken).dmaOpen p dma = true := by
    unfold State.dmaOpen at hopen ⊢
    rw [hpin]
    exact hopen
  obtain ⟨b, y, htransfer, hy⟩ := hself.dmaTransfer waits hsrc hdst (State.internalBytes_modSched ..) hopen' (State.token p e)
  refine ⟨b, y, ?_, hy⟩
  have hcond : (dispatchSlot p cyc && (s.at t).cycleDue p cyc rankToken) = true := by
    rw [show (s.at t).cycleDue p cyc rankToken = true from hcyc, show dispatchSlot p cyc = true from beq_iff_eq.mpr hslot]
    rfl
  have hheld : ((((s.at t).modSched p fun x => x.inCycle cyc rankToken).stk (stackOf p)).dmaTokensHeld.contains (p, e)) = false := by
    have hnot : (p, e) ∉ (((s.at t).modSched p fun x => x.inCycle cyc rankToken).stk (stackOf p)).dmaTokensHeld := hnew
    simpa using hnot
  have hstep : (s.at t).tokenDelivery p e ⟨dma, waits, true, .none⟩ cyc = (y.token p e).stopPll (stackOf p) := by
    unfold State.tokenDelivery
    rw [show (s.at t).enabled p = true from hen]
    refine ((if_neg (by simp)).trans ((if_neg (by simp)).trans (State.when_pos hcond _ _))).trans ?_
    dsimp only
    rw [hheld, if_neg Bool.false_ne_true, htransfer]
  rw [hstep] at hrow
  exact hrow

end

section
variable {s : State} {p e : Nat} {c : Cluster} {x : Scheduler} {y : State} {h : Held}

/-- The stop of a PLL behind a token leaves the schedulers and the tokens held. -/
theorem State.stopPll_stk (k j : Nat) (s : State) : ((s.stopPll k).stk j).running = (s.stk j).running ∧
    (s.stopPll k).clusters = s.clusters := by
  obtain ⟨ks, hstop, hks⟩ := State.stopPll_leaves k s
  have hget (l : List Stack) : (l.getD j {}).running = (l.map Stack.running).getD j (Stack.running {}) := (List.getD_map ..).symm
  rw [hstop]
  exact ⟨(hget ks).trans ((congrArg (fun l => l.getD j (Stack.running {})) hks).trans (hget s.stks).symm), rfl⟩

theorem State.stopPll_cl (k p : Nat) (s : State) : (s.stopPll k).cl p = s.cl p :=
  congrArg (fun l : List Cluster => l.getD p {}) (s.stopPll_stk k 0).2

/-- What becomes of a task at its token (R246). -/
theorem State.Becomes.token_sched {bk : List Stack} (hy : s.Becomes p c bk s.streams y) (hp : p < 64) (hk : stackOf p < bk.length)
    (hx : c.sched = x) (hrem : s.removalDue = false) :
    (x.ms.find? (fun z => z.entry == e) = some h → 1 < h.task.tokens → ((y.token p e).cl p).sched = { x with
      ms := x.ms.map fun z => if z.entry = e then { z with task := { z.task with tokens := z.task.tokens - 1 } } else z }) ∧
    (x.ms.find? (fun z => z.entry == e) = some h → h.task.tokens = 1 → h.task.release = 0 →
      h.seat = 1 ∨ 0 < x.room 1 h.task.safety →
      ((y.token p e).cl p).sched.ms = x.ms.filter (fun z => z.entry != e) ∧
      ((y.token p e).cl p).sched.rl = x.rl ++ [{ h with task := { h.task with tokens := 0, age := x.age % 65536 }, seat := 1 }]) ∧
    (x.ms.find? (fun z => z.entry == e) = some h → h.task.tokens = 1 → h.task.release = 0 → h.seat ≠ 1 →
      x.room 1 h.task.safety = 0 → s.frame.conf.exact = false →
      ((y.token p e).cl p).sched = x ∧ (p, e) ∈ ((y.token p e).stk (stackOf p)).dmaTokensHeld) ∧
    (x.ms.find? (fun z => z.entry == e) = none → ((y.token p e).cl p).sched = x) := by
  subst hx
  have hsched := hy.sched
  refine ⟨fun hfind hmore => ?_, fun hfind hone hrel hfree => ?_, fun hfind hone hrel hseat hfull hexact => ?_, fun hnone => ?_⟩
  · rw [State.token_some (h := hy) hrem hfind, if_neg (Nat.not_le.mpr hmore)]
    exact (hy.sched_mod fun z => z.tokenTaken e).sched
  · obtain ⟨hst, hms, hrl⟩ := Scheduler.readied_ready c.sched hrel
    have hentry : h.entry = e := by
      have hfound := List.find?_some hfind
      exact beq_iff_eq.mp hfound
    have hgo : ¬(h.seat ≠ (h.readied (y.cl p).sched.age).seat ∧
        (y.cl p).sched.room (h.readied (y.cl p).sched.age).seat h.task.safety = 0) := by
      rw [hsched, hst]
      rintro ⟨hne, hzero⟩
      exact hfree.elim hne fun hpos => absurd hzero (Nat.ne_of_gt hpos)
    rw [State.token_some (h := hy) hrem hfind, if_pos (by omega), State.ready_eq, if_neg hgo]
    obtain ⟨bk', hgoes⟩ := hy.readyGoes hp h
    have hs := hgoes.sched
    refine ⟨?_, (congrArg Scheduler.rl hs).trans hrl⟩
    rw [← hentry]
    exact (congrArg Scheduler.ms hs).trans hms
  · obtain ⟨hst, -, -⟩ := Scheduler.readied_ready c.sched hrel
    have hentry : h.entry = e := by
      have hfound := List.find?_some hfind
      exact beq_iff_eq.mp hfound
    have hstay : h.seat ≠ (h.readied (y.cl p).sched.age).seat ∧
        (y.cl p).sched.room (h.readied (y.cl p).sched.age).seat h.task.safety = 0 := by
      rw [hsched, hst]
      exact ⟨hseat, hfull⟩
    rw [State.token_some (h := hy) hrem hfind, if_pos (by omega), State.ready_eq, if_pos hstay]
    obtain ⟨bk', hheld, hmem⟩ := hy.readyHeld hp hk hexact h
    have hlist : ((y.readyHeld p h).stk (stackOf p)).dmaTokensHeld = (bk'.getD (stackOf p) {}).dmaTokensHeld :=
      (congrArg Stack.dmaTokensHeld (hheld.stk (stackOf p)) :)
    rw [hlist, ← hentry]
    exact ⟨hheld.sched, hmem⟩
  · obtain ⟨bk', hn⟩ := hy.token_none hrem hnone
    exact hn.sched

end

/-- An operand whose bytes reach the scratchpad brings its task nearer (R246). -/
theorem tokenDelivery_brings {s : State} {p e cyc waits : Nat} {h : Held} {dma : DmaDesc} (t : Nat) {x : Scheduler} (hp : p < 64)
    (hlen : s.clusters.length = 64) (hstks : s.stks.length = 4) (hwf : dma.wf = true) (hen : s.enabled p = true)
    (hx : x = (s.cl p).sched.inCycle cyc rankToken) (hslot : cyc % 16 = p % 16) (hcyc : s.cycleDue p cyc rankToken = true)
    (hrem : (s.at t).removalDue = false) (hnew : (p, e) ∉ (s.stk (p / 16)).dmaTokensHeld) (hopen : (s.at t).dmaOpen p dma = true)
    (hsrc : s.badAddress (.stackDma (p / 16)) false dma.src dma.len = none)
    (hdst : s.badAddress (.stackDma (p / 16)) true (scratchAddr p dma.off) dma.len = none) :
    ∃ s', exec (.tokenDelivery p e ⟨dma, waits, true, .none⟩ ⟨cyc, t⟩) s = .next s' ∧
      s'.sram = Mem.writeBytes (scratchAddr p dma.off) (s.internalBytes dma.src dma.len) s.sram ∧
      (s'.stk (p / 16)).dmaTokens = (s.stk (p / 16)).dmaTokens ∧
      (x.ms.find? (fun y => y.entry == e) = some h → 1 < h.task.tokens → (s'.cl p).sched = { x with
        ms := x.ms.map fun y => if y.entry = e then { y with task := { y.task with tokens := y.task.tokens - 1 } } else y }) ∧
      (x.ms.find? (fun y => y.entry == e) = some h → h.task.tokens = 1 → h.task.release = 0 →
        h.seat = 1 ∨ 0 < x.room 1 h.task.safety →
        (s'.cl p).sched.ms = x.ms.filter (fun y => y.entry != e) ∧
        (s'.cl p).sched.rl = x.rl ++ [{ h with task := { h.task with tokens := 0, age := x.age % 65536 }, seat := 1 }]) ∧
      (x.ms.find? (fun y => y.entry == e) = some h → h.task.tokens = 1 → h.task.release = 0 → h.seat ≠ 1 →
        x.room 1 h.task.safety = 0 → s.frame.conf.exact = false →
        (s'.cl p).sched = x ∧ (p, e) ∈ (s'.stk (p / 16)).dmaTokensHeld) ∧
      (x.ms.find? (fun y => y.entry == e) = none → (s'.cl p).sched = x) ∧
      (s.frame.conf.exact = false → { s' with
        time := s.time, clusters := s.clusters, stks := s.stks, hub := s.hub, obs := s.obs, sram := s.sram,
        free := s.free } = s) := by
  have hk : stackOf p < s.stks.length := by unfold stackOf; omega
  obtain ⟨b, y, hrow, hy⟩ := tokenDelivery_arrives (e := e) (waits := waits) t hp hlen hwf hen hslot hcyc hnew hopen hsrc hdst
  have hx' : ((s.cl p).offered cyc rankToken).sched = x := hx.symm
  obtain ⟨hdec, hready, hheld, hnone⟩ := State.Becomes.token_sched (s := s.operandCome t p dma b) (e := e) (h := h) hy hp hk hx' hrem
  have hview := State.token_dmaView hp e y
  obtain ⟨hsram, htokens⟩ := Prod.mk.inj hview
  have hysram : y.sram = Mem.writeBytes (scratchAddr p dma.off) (s.internalBytes dma.src dma.len) s.sram := by
    obtain ⟨l, ks, o, hye⟩ := hy.rest
    rw [hye]
    rfl
  have hytokens : (y.stk (stackOf p)).dmaTokens = (s.stk (stackOf p)).dmaTokens := (congrArg Stack.dmaTokens (hy.stk (stackOf p)) :)
  have hget (l : List Stack) : (l.getD (stackOf p) {}).dmaTokens = (l.map (·.dmaTokens)).getD (stackOf p) 16 := (List.getD_map (n := stackOf p) l {} (·.dmaTokens)).symm
  have htok : ((y.token p e).stk (stackOf p)).dmaTokens = (s.stk (stackOf p)).dmaTokens :=
    ((hget (y.token p e).stks).trans ((congrArg (fun l => l.getD (stackOf p) 16) htokens).trans (hget y.stks).symm)).trans hytokens
  have hframe : s.frame.conf.exact = false → { y.token p e with
      time := s.time, clusters := s.clusters, stks := s.stks, hub := s.hub, obs := s.obs, sram := s.sram, free := s.free,
      pending := s.pending } = s := by
    intro hexact
    obtain ⟨c', bk', htoken⟩ := hy.token hp hk hexact hrem e
    obtain ⟨l, ks, o, he⟩ := htoken.rest
    rw [he]
    rfl
  generalize y.token p e = u at *
  obtain ⟨ks, hstop, -⟩ := State.stopPll_leaves (stackOf p) u
  have hcl := State.stopPll_cl (stackOf p) p u
  have hrun := (State.stopPll_stk (stackOf p) (stackOf p) u).1
  have hrest : { u.stopPll (stackOf p) with
      time := s.time, clusters := s.clusters, stks := s.stks, hub := s.hub, obs := s.obs, sram := s.sram, free := s.free,
      pending := s.pending } = { u with
      time := s.time, clusters := s.clusters, stks := s.stks, hub := s.hub, obs := s.obs, sram := s.sram, free := s.free,
      pending := s.pending } := by rw [hstop]
  have hsram' : (u.stopPll (stackOf p)).sram = u.sram := by rw [hstop]
  generalize u.stopPll (stackOf p) = v at *
  have hlistHeld : (v.stk (stackOf p)).dmaTokensHeld = (u.stk (stackOf p)).dmaTokensHeld := (congrArg Stack.dmaTokensHeld hrun :)
  rw [← hcl] at hdec hready hheld hnone
  rw [← hlistHeld] at hheld
  exact ⟨_, hrow, hsram'.trans (hsram.trans hysram), (congrArg Stack.dmaTokens hrun :).trans htok, hdec, hready, hheld, hnone,
    fun hexact => hrest.trans (hframe hexact)⟩

end Sys2Proof.Machine
end

section
/-!
SUPPORT. UNIT_TAKE and DELAY_RELEASE, and the obligation on tokens, units and delayed tasks (R246, R248-R250, R263, R268, R271, R282).
-/
namespace Sys2Proof.Machine

/-- The parts of the state that a corrected error leaves as they are. -/
def State.uncorrected (s : State) := (s.clusters, s.safety, s.worlds, s.streams, s.hbm, s.sram, s.part, s.frame.phase, s.frame.counter)

theorem State.corrected_uncorrected (key stack cluster arg : Nat) (s : State) :
    (s.corrected key stack cluster arg).uncorrected = s.uncorrected := by
  have hcls := (State.corrected_parts key stack cluster arg s).1
  unfold State.uncorrected
  rw [hcls]
  unfold State.corrected
  dsimp only
  split
  · simp
  · rfl

theorem State.sramCorrected_uncorrected (p key arg : Nat) (s : State) :
    (s.sramCorrected p key arg).uncorrected = (s.bumpCl p 7).uncorrected := by
  have hleft := State.corrected_uncorrected key (stackOf p) p arg (s.bumpCl p 7)
  unfold State.sramCorrected
  dsimp only
  generalize (s.bumpCl p 7).corrected key (stackOf p) p arg = y at hleft
  obtain ⟨⟨b, n, l, hl⟩, -⟩ := y.fresh.2.timingEvent_leaves 3 (stackOf p) p (y.fresh.1.toNat % 2 ^ 32)
  rw [hl]
  exact hleft

section
variable {s : State} {p e unit cyc : Nat} {h : Held} (t : Nat)

/-! ## Faults of a delivery -/

theorem tokenDelivery_badFlit {waits : Nat} {dma : DmaDesc} (hp : p < 64) (hwf : dma.wf = true) (hen : s.enabled p = true)
    (hroom : s.safety.latch.length < 32) (read : ReadFault) :
    ∃ s', exec (.tokenDelivery p e ⟨dma, waits, false, read⟩ ⟨cyc, t⟩) s = .next s' ∧
      s'.faultLatched 0x0102 (max s.time.now t) ∧ s.onlyFault s' := by
  have hguard : (below p 64 && dma.wf) = true := by simp [below, hp, hwf]
  have hstep : (s.at t).tokenDelivery p e ⟨dma, waits, false, read⟩ cyc =
      (s.at t).detect 0x0102 (if p < 64 then stackOf p else 0xFF) p 0xFF (le 16 0) := by
    unfold State.tokenDelivery
    rw [show (s.at t).enabled p = true from hen]
    exact (if_neg (by simp)).trans (if_pos rfl)
  refine ⟨_, (exec_tokenDelivery ..).trans (ranAt_detects hguard hstep rfl), ?_, ?_⟩
  · exact State.detect_faultLatched (s := s.at t) hroom ..
  · exact State.onlyFault_of (State.detect_onlyFault ..) (rfl : s.at t = { s with time := (s.at t).time, safety := s.safety })

theorem tokenDelivery_disabled {waits : Nat} {dma : DmaDesc} (hp : p < 64) (hwf : dma.wf = true) (hen : s.enabled p = false)
    (hroom : s.safety.latch.length < 32) (ok : Bool) (read : ReadFault) :
    ∃ s', exec (.tokenDelivery p e ⟨dma, waits, ok, read⟩ ⟨cyc, t⟩) s = .next s' ∧
      s'.faultLatched 0x0103 (max s.time.now t) ∧ s.onlyFault s' := by
  have hguard : (below p 64 && dma.wf) = true := by simp [below, hp, hwf]
  have hstep : (s.at t).tokenDelivery p e ⟨dma, waits, ok, read⟩ cyc =
      (s.at t).detect 0x0103 (if p < 64 then stackOf p else 0xFF) p 0xFF (le 16 (scratchAddr p dma.off)) := by
    unfold State.tokenDelivery
    rw [show (s.at t).enabled p = false from hen]
    exact if_pos rfl
  refine ⟨_, (exec_tokenDelivery ..).trans (ranAt_detects hguard hstep rfl), ?_, ?_⟩
  · exact State.detect_faultLatched (s := s.at t) hroom ..
  · exact State.onlyFault_of (State.detect_onlyFault ..) (rfl : s.at t = { s with time := (s.at t).time, safety := s.safety })

/-! ## UNIT_TAKE -/

/-- The task that a free unit finds goes on. -/
theorem State.unitTake_due (hen : s.enabled p = true) (hgate : (s.cl p).gate ≠ .powerGated)
    (hphase : s.frame.phase ≠ .guarded) (hhalt : (s.cl p).halted = false) (hfirst : (s.cl p).sched.firstFor unit = some h)
    (hbar : (s.at t).barred p h.task = false) (hfree : ∀ y ∈ (s.cl p).sched.running, y.1 ≠ unit) (read : ReadFault) :
    (s.at t).unitTake p unit read = match read with
      | .none => (s.at t).dispatch p unit
      | .corrected => ((s.at t).sramCorrected p (schedKey p 1) 0).dispatch p unit
      | .uncorrectable => ((s.at t).bumpCl p 8).hwFault 0x0100 p 0 := by
  have hany : (s.cl p).sched.running.any (·.1 == unit) = false := List.any_eq_false.mpr fun r hr => by simpa using hfree r hr
  unfold State.unitTake
  dsimp only
  rw [show ((s.at t).cl p).sched.firstFor unit = some h from hfirst]
  dsimp only
  rw [hbar, show (s.at t).enabled p = true from hen, show (((s.at t).cl p).gate != .powerGated) = true from bne_iff_ne.mpr hgate,
    show ((s.at t).frame.phase != .guarded) = true from bne_iff_ne.mpr hphase, show ((s.at t).cl p).halted = false from hhalt,
    show ((s.at t).cl p).sched.running.any (·.1 == unit) = false from hany]
  exact State.when_pos rfl _ _

/-- The scheduler behind a dispatch. -/
theorem Cluster.dispatched_sched (c : Cluster) (unit : Nat) (h : Held) : (c.dispatched unit h).sched = c.sched.dispatched unit h := by
  unfold Cluster.dispatched
  dsimp only
  split <;> rfl

theorem unitTake_takes (hp : p < 64) (hlen : s.clusters.length = 64) (hu : unit < 6) (hen : s.enabled p = true)
    (hgate : (s.cl p).gate ≠ .powerGated) (hphase : s.frame.phase ≠ .guarded) (hhalt : (s.cl p).halted = false)
    (hfirst : (s.cl p).sched.firstFor unit = some h) (hbar : (s.at t).barred p h.task = false)
    (hfree : ∀ y ∈ (s.cl p).sched.running, y.1 ≠ unit) :
    ∃ s', exec (.unitTake p unit .none t) s = .next s' ∧
      (s'.cl p).sched.running = (s.cl p).sched.running ++ [(unit, h)] ∧
      (s'.cl p).sched.rl = (s.cl p).sched.rl.filter (fun y => y.entry != h.entry) ∧
      { s' with time := s.time, clusters := s.clusters, stks := s.stks, hub := s.hub, obs := s.obs } = s := by
  have hguard : (below p 64 && below unit 6) = true := by simp [below, hp, hu]
  have hrow := (exec_unitTake p unit .none t s).trans (ranAt_pos hguard ..)
  rw [State.unitTake_due t hen hgate hphase hhalt hfirst hbar hfree] at hrow
  have hself := State.becomes_self (s := s.at t) (p := p) (hlen.symm ▸ hp : p < s.clusters.length)
  have hd := hself.dispatch hp hfirst
  have hsched := hd.sched.trans (Cluster.dispatched_sched ..)
  dsimp only at hrow
  generalize (s.at t).dispatch p unit = u at hrow hd hsched
  have hframe := congrArg (fun y : State => { y with time := s.time, hub := s.hub, pending := s.pending })
    (State.Becomes.frame_streams (s := s.at t) hd)
  exact ⟨_, hrow, (congrArg Scheduler.running hsched :), (congrArg Scheduler.rl hsched :), hframe⟩

theorem unitTake_corrected (hp : p < 64) (hlen : s.clusters.length = 64) (hu : unit < 6) (hen : s.enabled p = true)
    (hgate : (s.cl p).gate ≠ .powerGated) (hphase : s.frame.phase ≠ .guarded) (hhalt : (s.cl p).halted = false)
    (hfirst : (s.cl p).sched.firstFor unit = some h) (hbar : (s.at t).barred p h.task = false)
    (hfree : ∀ y ∈ (s.cl p).sched.running, y.1 ≠ unit) :
    ∃ s', exec (.unitTake p unit .corrected t) s = .next s' ∧
      (s'.cl p).sched.running = (s.cl p).sched.running ++ [(unit, h)] ∧
      (s'.cl p).sched.rl = (s.cl p).sched.rl.filter (fun y => y.entry != h.entry) ∧ s'.safety = s.safety ∧
      s'.worlds = s.worlds ∧ s'.streams = s.streams ∧ s'.hbm = s.hbm ∧ s'.sram = s.sram := by
  have hguard : (below p 64 && below unit 6) = true := by simp [below, hp, hu]
  have hrow := (exec_unitTake p unit .corrected t s).trans (ranAt_pos hguard ..)
  rw [State.unitTake_due t hen hgate hphase hhalt hfirst hbar hfree] at hrow
  dsimp only at hrow
  have hleft := State.sramCorrected_uncorrected p (schedKey p 1) 0 (s.at t)
  generalize (s.at t).sramCorrected p (schedKey p 1) 0 = y at hrow hleft
  have hcls : y.clusters = ((s.at t).bumpCl p 7).clusters := congrArg (fun v => v.1) hleft
  have hylen : p < y.clusters.length := by
    rw [hcls]
    exact (State.clusters_length_modCl ..).symm ▸ (hlen.symm ▸ hp : p < s.clusters.length)
  have hysched : (y.cl p).sched = (s.cl p).sched := by
    have hstill := (State.still_of_stillCls (State.bumpCl_stillCls p 7 1 (s.at t)) p)
    have hcl : y.cl p = ((s.at t).bumpCl p 7).cl p := congrArg (fun l : List Cluster => l.getD p {}) hcls
    rw [hcl]
    exact (congrArg Cluster.sched hstill :)
  have hd := (State.becomes_self hylen).dispatch hp (hysched.symm ▸ hfirst)
  have hsched := hd.sched.trans ((Cluster.dispatched_sched ..).trans (congrArg (fun x : Scheduler => x.dispatched unit h) hysched))
  generalize y.dispatch p unit = u at hrow hd hsched
  obtain ⟨l, ks, o, hu'⟩ := hd.rest
  refine ⟨_, hrow, (congrArg Scheduler.running hsched :), (congrArg Scheduler.rl hsched :), ?_⟩
  rw [hu']
  exact ⟨congrArg (fun v => v.2.1) hleft, congrArg (fun v => v.2.2.1) hleft, congrArg (fun v => v.2.2.2.1) hleft,
    congrArg (fun v => v.2.2.2.2.1) hleft, congrArg (fun v => v.2.2.2.2.2.1) hleft⟩

theorem unitTake_fails (hp : p < 64) (hu : unit < 6) (hen : s.enabled p = true)
    (hgate : (s.cl p).gate ≠ .powerGated) (hphase : s.frame.phase ≠ .guarded) (hhalt : (s.cl p).halted = false)
    (hfirst : (s.cl p).sched.firstFor unit = some h) (hbar : (s.at t).barred p h.task = false)
    (hfree : ∀ y ∈ (s.cl p).sched.running, y.1 ≠ unit) (hroom : s.safety.latch.length < 32) :
    ∃ s', exec (.unitTake p unit .uncorrectable t) s = .next s' ∧ s'.faultLatched 0x0100 (max s.time.now t) ∧ s.onlyFault s' := by
  have hguard : (below p 64 && below unit 6) = true := by simp [below, hp, hu]
  have hrow := (exec_unitTake p unit .uncorrectable t s).trans
    (ranAt_detects (y := (s.at t).bumpCl p 8) hguard (State.unitTake_due t hen hgate hphase hhalt hfirst hbar hfree .uncorrectable) rfl)
  exact ⟨_, hrow, State.detect_faultLatched (s := (s.at t).bumpCl p 8) hroom ..,
    State.onlyFault_behind (t := t) (rfl : (s.at t).bumpCl p 8 = { s.at t with
      clusters := ((s.at t).bumpCl p 8).clusters, stks := s.stks }) (State.detect_onlyFault ..)⟩

/-! ## DELAY_RELEASE -/

/-- A scheduler whose delayed task has come to the ready list. -/
def Scheduler.released (x : Scheduler) (h : Held) : Scheduler := { (if h.seat = 1 then x else x.free h.seat 1) with
  dl := x.dl.filter (·.entry != h.entry), rl := x.rl ++ [{ h with task := { h.task with release := 0 }, seat := 1 }],
  age := x.age + 1 }

theorem State.Becomes.release {c : Cluster} {bk : List Stack} {ss : List Stream} {x : State} (hx : s.Becomes p c bk ss x) (hp : p < 64)
    (hdue : s.frame.openTime + h.task.release * ticksPerUs ≤ s.time.now) (hfree : h.seat = 1 ∨ 0 < c.sched.room 1 h.task.safety) :
    s.Becomes p { c with sched := c.sched.released h, gate := .on } bk ss (x.release p h) := by
  have hnow : x.frame.openTime = s.frame.openTime ∧ x.time.now = s.time.now := by
    obtain ⟨l, ks, o, he⟩ := hx.rest
    rw [he]
    exact ⟨rfl, rfl⟩
  have hcond : (decide (x.frame.openTime + h.task.release * ticksPerUs ≤ x.time.now) &&
      (h.seat == 1 || decide (0 < (x.cl p).sched.room 1 h.task.safety))) = true := by
    rw [hnow.1, hnow.2, decide_eq_true hdue, hx.sched]
    rcases hfree with hs | hr
    · rw [hs]
      rfl
    · rw [decide_eq_true hr, Bool.or_true]
      rfl
  have hall := (((hx.sched_mod fun y => y.released h).mod (f := fun c => { c with gate := .on }) (by intro; rfl)).traceTask hp 6 h.task 2 0
    0).event 0x08 0 h.task.layerId h.task.operatorId 1
  unfold State.release
  dsimp only
  rw [State.when_pos hcond]
  exact hall

theorem Scheduler.released_parts (x : Scheduler) (h : Held) : (x.released h).dl = x.dl.filter (·.entry != h.entry) ∧
    (x.released h).rl = x.rl ++ [{ h with task := { h.task with release := 0 }, seat := 1 }] := by
  unfold Scheduler.released
  split <;> exact ⟨rfl, rfl⟩

/-- A delayed task in its turn: its step. -/
theorem delayRelease_row (hp : p < 64) (hcyc : s.cycleDue p cyc rankRelease = true)
    (hfind : ((s.cl p).sched.inCycle cyc rankRelease).dl.find? (fun y => y.entry == e) = some h)
    (hfirst : ((s.cl p).sched.inCycle cyc rankRelease).firstDelayed h.task.safety = some h) :
    exec (.delayRelease p e ⟨cyc, t⟩) s =
      .next { ((s.at t).modSched p fun x => x.inCycle cyc rankRelease).release p h with pending := s.pending } := by
  have hguard : below p 64 = true := by simp [below, hp]
  have hrow := (exec_delayRelease p e ⟨cyc, t⟩ s).trans (ranAt_pos hguard ..)
  have hdl : ((s.cl p).sched.inCycle cyc rankRelease).dl = (s.cl p).sched.dl :=
    congrArg (fun l : List Held × List Held × List Held × Nat × Nat => l.2.2.1) ((s.cl p).sched.inCycle_lists cyc rankRelease).1
  have hfind' : ((s.at t).cl p).sched.dl.find? (fun y => y.entry == e) = some h := hdl ▸ hfind
  have hfirst' : ((s.at t).cl p).sched.firstDelayed h.task.safety = some h := by
    unfold Scheduler.firstDelayed at hfirst ⊢
    rw [hdl] at hfirst
    exact hfirst
  have hcond : ((s.at t).cycleDue p cyc rankRelease && ((s.at t).cl p).sched.firstDelayed h.task.safety == some h) = true := by
    rw [show (s.at t).cycleDue p cyc rankRelease = true from hcyc, hfirst']
    simp
  have hstep : (s.at t).delayRelease p e cyc = ((s.at t).modSched p fun x => x.inCycle cyc rankRelease).release p h := by
    unfold State.delayRelease
    dsimp only
    rw [hfind']
    exact State.when_pos hcond _ _
  rw [hstep] at hrow
  exact hrow

theorem delayRelease_releases (hp : p < 64) (hlen : s.clusters.length = 64) {x : Scheduler}
    (hx : x = (s.cl p).sched.inCycle cyc rankRelease) (hcyc : s.cycleDue p cyc rankRelease = true)
    (hfind : x.dl.find? (fun y => y.entry == e) = some h) (hfirst : x.firstDelayed h.task.safety = some h)
    (hdue : s.frame.openTime + h.task.release * ticksPerUs ≤ max s.time.now t)
    (hfree : h.seat = 1 ∨ 0 < x.room 1 h.task.safety) :
    ∃ s', exec (.delayRelease p e ⟨cyc, t⟩) s = .next s' ∧
      (s'.cl p).sched.dl = x.dl.filter (fun y => y.entry != e) ∧
      (s'.cl p).sched.rl = x.rl ++ [{ h with task := { h.task with release := 0 }, seat := 1 }] ∧
      (s'.cl p).gate = .on ∧
      { s' with time := s.time, clusters := s.clusters, stks := s.stks, hub := s.hub, obs := s.obs } = s := by
  subst hx
  have hrow := delayRelease_row t hp hcyc hfind hfirst
  have hself := (State.becomes_self (s := s.at t) (p := p) (hlen.symm ▸ hp : p < s.clusters.length)).sched_mod
    fun x => x.inCycle cyc rankRelease
  have hgo := hself.release (h := h) hp hdue hfree
  have hentry : h.entry = e := by
    have hfound := List.find?_some hfind
    exact beq_iff_eq.mp hfound
  obtain ⟨hdl, hrl⟩ := Scheduler.released_parts ((s.cl p).sched.inCycle cyc rankRelease) h
  generalize ((s.at t).modSched p fun x => x.inCycle cyc rankRelease).release p h = u at hrow hgo
  have hframe := congrArg (fun y : State => { y with time := s.time, hub := s.hub, pending := s.pending })
    (State.Becomes.frame_streams (s := s.at t) hgo)
  refine ⟨_, hrow, ?_, (congrArg Scheduler.rl hgo.sched :).trans hrl, (congrArg Cluster.gate hgo.cluster :), hframe⟩
  rw [← hentry]
  exact (congrArg Scheduler.dl hgo.sched :).trans hdl

theorem delayRelease_waits (hp : p < 64) (hlen : s.clusters.length = 64) {x : Scheduler}
    (hx : x = (s.cl p).sched.inCycle cyc rankRelease) (hcyc : s.cycleDue p cyc rankRelease = true)
    (hfind : x.dl.find? (fun y => y.entry == e) = some h) (hfirst : x.firstDelayed h.task.safety = some h)
    (hearly : max s.time.now t < s.frame.openTime + h.task.release * ticksPerUs) :
    ∃ s', exec (.delayRelease p e ⟨cyc, t⟩) s = .next s' ∧ (s'.cl p).sched = x ∧
      { s' with time := s.time, clusters := s.clusters } = s := by
  subst hx
  have hrow := delayRelease_row t hp hcyc hfind hfirst
  have hnot : ¬(decide ((s.at t).frame.openTime + h.task.release * ticksPerUs ≤ (s.at t).time.now) &&
      (h.seat == 1 || decide (0 < ((((s.at t).modSched p fun x => x.inCycle cyc rankRelease).cl p).sched.room 1 h.task.safety)))) = true := by
    rw [show decide ((s.at t).frame.openTime + h.task.release * ticksPerUs ≤ (s.at t).time.now) = false from
      decide_eq_false (Nat.not_le.mpr hearly)]
    simp
  have hstay : ((s.at t).modSched p fun x => x.inCycle cyc rankRelease).release p h =
      (s.at t).modSched p fun x => x.inCycle cyc rankRelease := if_neg hnot
  rw [hstay] at hrow
  have hcl := State.cl_modCl (s := s.at t) (p := p) (hlen.symm ▸ hp : p < s.clusters.length)
    fun c => { c with sched := c.sched.inCycle cyc rankRelease }
  exact ⟨_, hrow, (congrArg Cluster.sched hcl :), rfl⟩

end

/-- Settles O34, a clause at a time: tokens, free units and delayed tasks. -/
theorem tokensUnitsDelays : Obligations.TokensUnitsDelays := by
  unfold Obligations.TokensUnitsDelays
  intro s p e unit cyc waits h dma t x hp hlen hstks hwf
  exact ⟨tokenDelivery_brings t hp hlen hstks hwf, tokenDelivery_badFlit t hp hwf, tokenDelivery_disabled t hp hwf,
    fun hu hen hgate hphase hhalt hfirst hbar hfree =>
      ⟨unitTake_takes t hp hlen hu hen hgate hphase hhalt hfirst hbar hfree,
        unitTake_corrected t hp hlen hu hen hgate hphase hhalt hfirst hbar hfree,
        unitTake_fails t hp hu hen hgate hphase hhalt hfirst hbar hfree⟩,
    fun hx hcyc hfind hfirst => ⟨delayRelease_releases t hp hlen hx hcyc hfind hfirst,
      delayRelease_waits t hp hlen hx hcyc hfind hfirst⟩⟩

end Sys2Proof.Machine
end

section
/-!
SUPPORT. The cutoff of the re-verify: the operations that leave the schedulers (R227, R236).
-/
namespace Sys2Proof.Machine

/-! ## Tasks that leave a scheduler -/

theorem Scheduler.remove_tasks (x : Scheduler) (cyc : Nat) (gone : Held → Bool) :
    (x.remove cyc gone).tasks = x.tasks.filter fun h => !gone h := by
  have hfree (l : List Held) (y : Scheduler) :
      (l.foldl (fun x h => (x.free h.seat 1).free h.extraSeat h.task.succExtra) y).tasks = y.tasks := by
    induction l generalizing y with
    | nil => rfl
    | cons h l ih => exact (ih _).trans rfl
  have hrest (y : Scheduler) (hy : y.ms = x.ms ∧ y.rl = x.rl ∧ y.dl = x.dl ∧ y.running = x.running) :
      ({ y with ms := y.ms.filter fun h => !gone h, rl := y.rl.filter fun h => !gone h, dl := y.dl.filter fun h => !gone h,
                running := y.running.filter fun r => !gone r.2 } : Scheduler).tasks = x.tasks.filter fun h => !gone h := by
    obtain ⟨hms, hrl, hdl, hrun⟩ := hy
    have hmap : (x.running.filter fun r => !gone r.2).map (·.2) = (x.running.map (·.2)).filter fun h => !gone h :=
      (List.filter_map (p := fun h => !gone h) (f := Prod.snd)).symm
    simp only [Scheduler.tasks, hms, hrl, hdl, hrun, List.filter_append, hmap]
  unfold Scheduler.remove
  dsimp only
  rw [hfree]
  apply hrest
  split
  · unfold Scheduler.inCycle
    split <;> exact ⟨rfl, rfl, rfl, rfl⟩
  · exact ⟨rfl, rfl, rfl, rfl⟩

/-! ## Operations withdrawn -/

/-- Tasks left the schedulers and the stacks: nothing else of a cluster changed, and no task came. -/
structure State.Withdrawn (s s' : State) : Prop where
  rest : ∃ l ks, s' = { s with clusters := l, stks := ks }
  clusters : s'.clusters.map Cluster.unscheduled = s.clusters.map Cluster.unscheduled
  tasks : ∀ c ∈ s'.clusters, ∃ c0 ∈ s.clusters, ∀ h ∈ c.sched.tasks, h ∈ c0.sched.tasks

theorem State.withdrawn_refl (s : State) : s.Withdrawn s := ⟨⟨_, _, rfl⟩, rfl, fun c hc => ⟨c, hc, fun _ h => h⟩⟩

theorem State.Withdrawn.trans {a b c : State} (h : a.Withdrawn b) (h' : b.Withdrawn c) : a.Withdrawn c := by
  obtain ⟨l, ks, hb⟩ := h.rest
  obtain ⟨l', ks', hc⟩ := h'.rest
  refine ⟨⟨l', ks', ?_⟩, h'.clusters.trans h.clusters, fun x hx => ?_⟩
  · rw [hc, hb]
  · obtain ⟨y, hy, hxy⟩ := h'.tasks x hx
    obtain ⟨z, hz, hyz⟩ := h.tasks y hy
    exact ⟨z, hz, fun t ht => hyz t (hxy t ht)⟩

/-- No cluster holds a task of an operation of a stream. -/
def State.without (op : TaskOp) (stream : Nat) (s : State) : Prop :=
  ∀ c ∈ s.clusters, ∀ h ∈ c.sched.tasks, h.task.stream = stream → h.task.op ≠ op

theorem State.Withdrawn.without {s s' : State} {op : TaskOp} {k : Nat} (h : s.Withdrawn s') (hs : s.without op k) :
    s'.without op k := fun c hc t ht => by
  obtain ⟨c0, hc0, hsub⟩ := h.tasks c hc
  exact hs c0 hc0 t (hsub t ht)

theorem State.withdraw_withdrawn (op : TaskOp) (k : Nat) (s : State) :
    s.Withdrawn (s.withdraw op k) ∧ (s.withdraw op k).without op k := by
  have hmem (c : Cluster) (hc : c ∈ (s.withdraw op k).clusters) : ∃ c0 ∈ s.clusters,
      ∀ h ∈ c.sched.tasks, h ∈ c0.sched.tasks ∧ (h.task.op == op && h.task.stream == k) = false := by
    obtain ⟨c0, hc0, rfl⟩ := List.mem_map.mp hc
    refine ⟨c0, hc0, fun h hh => ?_⟩
    have hin : h ∈ (c0.sched.remove s.instantCycle fun h => h.task.op == op && h.task.stream == k).tasks := hh
    rw [Scheduler.remove_tasks] at hin
    obtain ⟨hold, hstay⟩ := List.mem_filter.mp hin
    exact ⟨hold, Bool.not_eq_true' _ ▸ hstay⟩
  refine ⟨⟨⟨_, _, rfl⟩, ?_, fun c hc => ?_⟩, fun c hc h hh hk hop => ?_⟩
  · exact (List.map_map ..).trans rfl
  · obtain ⟨c0, hc0, hall⟩ := hmem c hc
    exact ⟨c0, hc0, fun h hh => (hall h hh).1⟩
  · obtain ⟨c0, -, hall⟩ := hmem c hc
    have hno := (hall h hh).2
    simp [hk, hop] at hno

/-- A stream's STOP and re-verify are withdrawn. -/
def State.cutTasks (s : State) (id : Nat) : State := (s.withdraw .stop (s.wireId id)).withdraw .reverify (s.wireId id)

theorem State.cutTasks_withdrawn (s : State) (id : Nat) : s.Withdrawn (s.cutTasks id) ∧
    (s.cutTasks id).without .stop (s.wireId id) ∧ (s.cutTasks id).without .reverify (s.wireId id) := by
  obtain ⟨hstop, hnostop⟩ := s.withdraw_withdrawn .stop (s.wireId id)
  obtain ⟨hverify, hnoverify⟩ := (s.withdraw .stop (s.wireId id)).withdraw_withdrawn .reverify (s.wireId id)
  exact ⟨hstop.trans hverify, hverify.without hnostop, hnoverify⟩

theorem State.Withdrawn.wireId {s s' : State} (h : s.Withdrawn s') (id : Nat) : s'.wireId id = s.wireId id := by
  obtain ⟨l, ks, rfl⟩ := h.rest
  rfl

theorem State.cutAll_withdrawn (l : List Nat) (s : State) : s.Withdrawn (l.foldl State.cutTasks s) ∧
    ∀ id ∈ l, (l.foldl State.cutTasks s).without .stop (s.wireId id) ∧
      (l.foldl State.cutTasks s).without .reverify (s.wireId id) := by
  induction l generalizing s with
  | nil => exact ⟨s.withdrawn_refl, by simp⟩
  | cons i l ih =>
    obtain ⟨hone, hstop, hverify⟩ := s.cutTasks_withdrawn i
    obtain ⟨hall, hrest⟩ := ih (s.cutTasks i)
    refine ⟨hone.trans hall, fun id hid => ?_⟩
    rcases List.mem_cons.mp hid with rfl | hl
    · exact ⟨hall.without hstop, hall.without hverify⟩
    · have hkeep := hrest id hl
      rw [hone.wireId] at hkeep
      exact hkeep

section
variable {s : State} {t : Nat}

/-- REVERIFY_CUTOFF of Throughput mode (R227, R236). -/
theorem reverifyCutoff_ends (hphase : s.frame.phase = .afterHarvest) (hgrid : s.gridRuns = true)
    (hexact : s.frame.conf.exact = false) (hopen : s.frame.reverifyClosed = false)
    (htime : s.frame.openTime + 86 * s.frame.conf.period / 100 * ticksPerUs ≤ max s.time.now t) :
    ∃ s', exec (.reverifyCutoff t) s = .next s' ∧ s'.frame = { s.frame with reverifyClosed := true } ∧
      s'.streams = s.streams.map (fun y => if y.attempting.isSome then
          { y with attempting := none, attemptVerdict := none, attemptCodes := y.attemptCodes ++ [2], stopPending := false }
        else { y with stopPending := false }) ∧
      s'.clusters.map (fun c => { c with sched := {} }) = s.clusters.map (fun c => { c with
        sched := {}, inFlight := c.inFlight.filter (fun f => f.kind ≠ 3 ∧ f.kind ≠ 5),
        parked := c.parked.filter (fun k => k.kind ≠ 3 ∧ k.kind ≠ 5) }) ∧
      (∀ y ∈ s.streams, ∀ c ∈ s'.clusters, ∀ h ∈ c.sched.tasks, h.task.stream = s.wireId y.id →
        h.task.op ≠ .stop ∧ h.task.op ≠ .reverify) ∧
      (∀ c ∈ s'.clusters, ∀ h ∈ c.sched.tasks, ∃ c0 ∈ s.clusters, h ∈ c0.sched.tasks) ∧
      { s' with time := s.time, frame := s.frame, streams := s.streams, clusters := s.clusters, stks := s.stks } = s := by
  have hrow := (exec_reverifyCutoff t s).trans (ranAt_pos rfl ..)
  have hgrid' : (s.at t).gridRuns = true := hgrid
  have hpart : (s.at t).partAt 86 ≤ (s.at t).time.now := htime
  have hcond : ((s.at t).harvesting && !(s.at t).frame.conf.exact && !(s.at t).frame.reverifyClosed &&
      decide ((s.at t).partAt 86 ≤ (s.at t).time.now)) = true := by
    have hharvest : (s.at t).harvesting = true := by
      unfold State.harvesting
      rw [hgrid', show (s.at t).frame.phase = .afterHarvest from hphase]
      rfl
    rw [hharvest, decide_eq_true hpart, show (s.at t).frame.conf.exact = false from hexact,
      show (s.at t).frame.reverifyClosed = false from hopen]
    rfl
  obtain ⟨hcut, hgone⟩ := State.cutAll_withdrawn (s.streams.map (·.id)) (s.at t)
  have hstep : (s.at t).reverifyCutoff = ((((s.streams.map (·.id)).foldl State.cutTasks (s.at t)).modStreams fun l =>
      l.map Stream.cutReverify).modFrame fun f => { f with reverifyClosed := true }).modClusters fun l =>
        l.map (Cluster.dropSweeps fun kind _ => kind == 3 || kind == 5) := by
    unfold State.reverifyCutoff
    rw [State.when_pos hcond]
    rfl
  rw [hstep] at hrow
  generalize (s.streams.map (·.id)).foldl State.cutTasks (s.at t) = z at hcut hgone hrow
  obtain ⟨l, ks, hz⟩ := hcut.rest
  have hsched (c : Cluster) (hc : c ∈ z.clusters.map (Cluster.dropSweeps fun kind _ => kind == 3 || kind == 5)) :
      ∃ c0 ∈ z.clusters, c.sched = c0.sched := by
    obtain ⟨c0, hc0, rfl⟩ := List.mem_map.mp hc
    exact ⟨c0, hc0, rfl⟩
  refine ⟨_, hrow, ?_, ?_, ?_, fun y hy c hc h hh hk => ?_, fun c hc h hh => ?_, ?_⟩
  · change { z.frame with reverifyClosed := true } = _
    rw [hz]
    rfl
  · change z.streams.map Stream.cutReverify = _
    rw [hz]
    change s.streams.map Stream.cutReverify = _
    refine List.map_congr_left fun y _ => ?_
    unfold Stream.cutReverify
    cases y.attempting.isSome <;> rfl
  · have hkind (n : Nat) : (!(n == 3 || n == 5)) = decide (n ≠ 3 ∧ n ≠ 5) := by
      rw [Bool.eq_iff_iff]
      simp
    have hview := congrArg (List.map (Cluster.dropSweeps fun kind _ => kind == 3 || kind == 5)) hcut.clusters
    rw [List.map_map, List.map_map] at hview
    have hl : z.clusters.map (Cluster.dropSweeps (fun kind _ => kind == 3 || kind == 5) ∘ Cluster.unscheduled) =
        (z.clusters.map (Cluster.dropSweeps fun kind _ => kind == 3 || kind == 5)).map fun c => { c with sched := {} } :=
      (List.map_map ..).symm ▸ rfl
    refine hl.symm.trans (hview.trans (List.map_congr_left fun c _ => ?_))
    simp only [Cluster.dropSweeps, Cluster.unscheduled, Function.comp_apply, hkind]
  · obtain ⟨c0, hc0, he⟩ := hsched c hc
    obtain ⟨hstop, hverify⟩ := hgone y.id (List.mem_map_of_mem hy)
    rw [he] at hh
    exact ⟨hstop c0 hc0 h hh hk, hverify c0 hc0 h hh hk⟩
  · obtain ⟨c0, hc0, he⟩ := hsched c hc
    obtain ⟨c1, hc1, hsub⟩ := hcut.tasks c0 hc0
    rw [he] at hh
    exact ⟨c1, hc1, hsub h hh⟩
  · rw [hz]
    rfl

end
end Sys2Proof.Machine
end

section
/-!
SUPPORT. The attempts of a shortlist (R227, R228, R411).
-/
namespace Sys2Proof.Machine

/-! ## A disagreement -/

theorem State.detect_disagree (code stack cluster stream : Nat) (arg : List Byte) (s : State) :
    (s.detect code stack cluster stream arg).safety.disagree = s.safety.disagree := by
  obtain ⟨rp, qn, hsafety, -⟩ := State.detect_safety code stack cluster stream arg s
  rw [hsafety]
  rfl

/-- What a disagreement of a cluster counts, and what it leaves. -/
theorem State.disagree_leaves (p : Nat) (s : State) : (s.disagree p).safety.disagree = satU 32 (s.safety.disagree + 1) ∧
    (s.disagree p).streams = s.streams ∧ (s.disagree p).worlds = s.worlds ∧ (s.disagree p).images = s.images := by
  unfold State.disagree
  dsimp only
  split
  · exact ⟨rfl, rfl, rfl, rfl⟩
  · generalize hz : State.modCl p _ (s.modSafety _) = z
    have hfour : z.safety.disagree = satU 32 (s.safety.disagree + 1) ∧ z.streams = s.streams ∧ z.worlds = s.worlds ∧
        z.images = s.images := by
      rw [← hz]
      exact ⟨rfl, rfl, rfl, rfl⟩
    obtain ⟨hcount, hstreams, hworlds, himages⟩ := hfour
    split
    · rw [State.detect_disagree, State.detect_streams, State.detect_worlds, State.detect_images]
      exact ⟨hcount, hstreams, hworlds, himages⟩
    · rw [State.warnFree_safety, State.warnFree_streams, State.warnFree_worlds, State.warnFree_images]
      exact ⟨hcount, hstreams, hworlds, himages⟩

section
variable {s : State} {id i e t : Nat} {x : Stream}

/-! ## ATTEMPT_START -/

theorem attemptStart_latches (hid : id < 512) (hphase : s.frame.phase = .afterHarvest) (hgrid : s.gridRuns = true)
    (hx : s.stream? id = some x) (hworks : s.works x = true) (hcommit : x.committed = false) (hguest : x.guest = none)
    (hidle : x.attempting = none) (hnext : x.nextAttempt = some i) (hlatch : s.latch .reverify id i = some e)
    (hopen : s.frame.conf.exact = true ∧ s.harvested = true ∨ s.frame.conf.exact = false ∧ s.frame.reverifyClosed = false ∧
      max s.time.now t < s.frame.openTime + 86 * s.frame.conf.period / 100 * ticksPerUs) :
    ∃ s', exec (.attemptStart id t) s = .next s' ∧
      (s.frame.conf.exact = false → e = s.worlds.epoch) ∧
      (s.touchedEntry x i e = false → s'.stream? id = some { x with attempting := some (i, e), attemptVerdict := none }) ∧
      (s.touchedEntry x i e = true → s'.stream? id = some { x with
        attempting := none, attemptVerdict := none, attemptCodes := x.attemptCodes ++ [3] }) ∧
      { s' with time := s.time, streams := s.streams } = s := by
  have hguard : streamOk id = true := by simp [streamOk, below, hid]
  have hrow := (exec_attemptStart id t s).trans (ranAt_pos hguard ..)
  have hharvest : s.harvesting = true := by
    unfold State.harvesting
    rw [hgrid, hphase]
    rfl
  have hwindow : (if s.frame.conf.exact then s.harvested
      else !s.frame.reverifyClosed && decide ((s.at t).time.now < s.partAt 86)) = true := by
    rcases hopen with ⟨hexact, hall⟩ | ⟨hexact, hclosed, htime⟩
    · rw [if_pos hexact, hall]
    · have hbefore : (s.at t).time.now < s.partAt 86 := htime
      rw [hexact, hclosed, decide_eq_true hbefore]
      rfl
  have hdue : (s.harvesting && s.works x && !x.committed && x.guest.isNone && x.attempting.isNone &&
      if s.frame.conf.exact then s.harvested else !s.frame.reverifyClosed && decide ((s.at t).time.now < s.partAt 86)) = true := by
    rw [hharvest, hworks, hcommit, hguest, hidle, hwindow]
    rfl
  let begun (y : Stream) : Stream :=
    let y := { y with attempting := some (i, e), attemptVerdict := none }
    if s.touchedEntry x i e then y.touchAttempt else y
  have hstep : State.attemptStart id (s.at t) = State.modStream id begun (s.at t) := by
    unfold State.attemptStart
    rw [show (s.at t).stream? id = some x from hx]
    dsimp only
    rw [hnext]
    dsimp only
    rw [show (s.at t).latch .reverify id i = some e from hlatch]
    exact State.when_pos hdue _ _
  rw [hstep] at hrow
  have hstream : (State.modStream id begun (s.at t)).stream? id = some (begun x) := by
    have hone := State.stream?_modStream (f := begun) (by intro y; dsimp only [begun]; split <;> rfl) id (s.at t)
    rw [show (s.at t).stream? id = some x from hx] at hone
    exact hone
  refine ⟨_, hrow, fun hexact => ?_, fun hno => ?_, fun hyes => ?_, rfl⟩
  · unfold State.latch at hlatch
    rw [hexact] at hlatch
    exact (Option.some.inj hlatch).symm
  · refine hstream.trans (congrArg some ?_)
    exact if_neg (by rw [hno]; decide)
  · refine hstream.trans (congrArg some ?_)
    exact if_pos hyes

/-! ## ATTEMPT_RESULT -/

variable {v : Verdict}

theorem attemptResult_ends (hid : id < 512) (hphase : s.frame.phase = .afterHarvest) (hgrid : s.gridRuns = true)
    (hx : s.stream? id = some x) (hrun : x.attempting = some (i, e)) (hverdict : x.attemptVerdict = some v) :
    ∃ s', exec (.attemptResult id t) s = .next s' ∧
      (v.verdict = 0 → s'.stream? id = some { x with
          attempting := none, agreed := some i, attemptCodes := x.attemptCodes ++ [0] } ∧
        { s' with time := s.time, streams := s.streams, clusters := s.clusters, stks := s.stks, hub := s.hub } = s) ∧
      (v.verdict ≠ 0 → s'.stream? id = some { x with
          attempting := none, attemptVerdict := none, attemptCodes := x.attemptCodes ++ [1] } ∧
        s'.safety.disagree = satU 32 (s.safety.disagree + 1) ∧ s'.worlds = s.worlds ∧ s'.images = s.images) := by
  have hguard : streamOk id = true := by simp [streamOk, below, hid]
  have hrow := (exec_attemptResult id t s).trans (ranAt_pos hguard ..)
  have hharvest : (s.at t).harvesting = true := by
    unfold State.harvesting
    rw [show (s.at t).gridRuns = true from hgrid, show (s.at t).frame.phase = .afterHarvest from hphase]
    rfl
  let agrees (y : Stream) : Stream := { y with attempting := none, agreed := some i, attemptCodes := y.attemptCodes ++ [0] }
  let fails (y : Stream) : Stream :=
    { y with attempting := none, attemptVerdict := none, attemptCodes := y.attemptCodes ++ [1] }
  obtain ⟨p, hstep⟩ : ∃ p, State.attemptResult id (s.at t) =
      if v.verdict = 0 then (State.modStream id agrees (s.at t)).selEvent 0 p 0x0B 0 0xFFFF 0xFFFF 1
      else ((State.modStream id fails (s.at t)).selEvent 0 p 0x0B 1 0xFFFF 0xFFFF 1).disagree p := by
    refine ⟨(((x.device.getD [])[i]?).map (·.cluster)).getD 0, ?_⟩
    unfold State.attemptResult
    rw [show (s.at t).stream? id = some x from hx]
    dsimp only
    rw [hrun, hverdict]
    exact State.when_pos hharvest _ _
  have hstream (f : Stream → Stream) (hf : ∀ y, (f y).id = y.id) : (State.modStream id f (s.at t)).stream? id = some (f x) := by
    have hone := State.stream?_modStream hf id (s.at t)
    rw [show (s.at t).stream? id = some x from hx] at hone
    exact hone
  refine ⟨_, hrow, fun hv => ?_, fun hv => ?_⟩
  · rw [hstep, if_pos hv]
    obtain ⟨⟨l, hsel⟩, -⟩ := State.selEvent_onlyCl p 0x0B 0 0xFFFF 0xFFFF 1 (State.modStream id agrees (s.at t))
    rw [hsel]
    exact ⟨hstream agrees (by intro; rfl), rfl⟩
  · rw [hstep, if_neg hv]
    obtain ⟨⟨l, hsel⟩, -⟩ := State.selEvent_onlyCl p 0x0B 1 0xFFFF 0xFFFF 1 (State.modStream id fails (s.at t))
    obtain ⟨hcount, hstreams, hworlds, himages⟩ :=
      State.disagree_leaves p ((State.modStream id fails (s.at t)).selEvent 0 p 0x0B 1 0xFFFF 0xFFFF 1)
    refine ⟨?_, hcount.trans ?_, hworlds.trans ?_, himages.trans ?_⟩
    · have hfound := congrArg (List.find? fun y : Stream => y.id == id) hstreams
      refine hfound.trans ?_
      rw [hsel]
      exact hstream fails (by intro; rfl)
    all_goals
      rw [hsel]
      rfl

end
end Sys2Proof.Machine
end

section
/-!
SUPPORT. The end of the work phases in Exact mode, and the harvest tree (R53, R61, R226).
-/
namespace Sys2Proof.Machine

/-! ## Gating of an idle cluster -/

theorem DrainRecord.bytes_length (d : DrainRecord) : d.bytes.length = 16 := by
  simp [DrainRecord.bytes, le_length]

/-- Gating one cluster touches no other, and of the SRAM at most its drain record. -/
theorem State.gateIdle_own (p : Nat) (s : State) : (∀ q, q ≠ p → (s.gateIdle p).cl q = s.cl q) ∧
    (s.sram.wf = true → ∀ a, ¬(drainAddr p ≤ a ∧ a < drainAddr p + 16) →
      Mem.read a (s.gateIdle p).sram = Mem.read a s.sram) := by
  have hdrain (hwf : s.sram.wf = true) (a : Nat) (ha : ¬(drainAddr p ≤ a ∧ a < drainAddr p + 16)) :
      Mem.read a (if (s.cl p).worked then s.writeDrain p false else s).sram = Mem.read a s.sram := by
    split
    · refine Mem.read_writeBytes_out a _ _ _ hwf ?_
      rw [DrainRecord.bytes_length]
      omega
    · rfl
  unfold State.gateIdle
  dsimp only
  split
  · exact ⟨fun _ _ => rfl, fun _ _ _ => rfl⟩
  · split
    · refine ⟨fun q hq => ?_, fun hwf a ha => ?_⟩
      · rw [State.stopPll_cl, State.cl_modCl_ne hq]
        split <;> rfl
      · obtain ⟨ks, hstop, -⟩ := State.stopPll_leaves (stackOf p)
          (State.modCl p (fun c => { c with gate := .powerGated }) (if (s.cl p).worked then s.writeDrain p false else s))
        rw [hstop]
        exact hdrain hwf a ha
    · split
      · exact ⟨fun q hq => State.cl_modCl_ne hq _, fun _ _ _ => rfl⟩
      · exact ⟨fun _ _ => rfl, fun _ _ _ => rfl⟩

theorem State.gateAll_gated (s : State) : s.Gated s.gateAll :=
  (State.foldl_inv s.Gated _ (fun x p hx => hx.trans (State.gateIdle_gated p x)) _ s s.gated_refl).trans
    (State.foldl_inv (State.Gated _) _ (fun x k hx => hx.trans (State.stopPll_gated k x)) _ _ (State.gated_refl _))

/-- A cluster's ungated part names everything but its gate. -/
theorem Cluster.of_ungated {c d : Cluster} (h : d.ungated = c.ungated) : d = { c with gate := d.gate } := by
  have hgate := congrArg (fun x : Cluster => { x with gate := d.gate }) h
  exact hgate

section
variable {s : State} {t : Nat}

theorem State.harvesting_at (hphase : s.frame.phase = .afterHarvest) (hgrid : s.gridRuns = true) :
    (s.at t).harvesting = true := by
  unfold State.harvesting
  rw [show (s.at t).gridRuns = true from hgrid, show (s.at t).frame.phase = .afterHarvest from hphase]
  rfl

/-! ## ENGINE_DRAIN_END -/

theorem engineDrainEnd_drains {p : Nat} (hclusters : s.clusters.length = 64) (hp : p < 64)
    (hphase : s.frame.phase = .afterHarvest) (hgrid : s.gridRuns = true) (henabled : s.enabled p = true) :
    ∃ s', exec (.engineDrainEnd p t) s = .next s' ∧ s'.cl p = { s.cl p with
      drained := true, draining := false, gate := (s'.cl p).gate } ∧
      (∀ q, q ≠ p → s'.cl q = s.cl q) ∧
      (s.sram.wf = true → ∀ a, ¬(drainAddr p ≤ a ∧ a < drainAddr p + 16) → Mem.read a s'.sram = Mem.read a s.sram) ∧
      { s' with time := s.time, clusters := s.clusters, stks := s.stks, sram := s.sram } = s := by
  have hguard : below p 64 = true := by simp [below, hp]
  have hrow := (exec_engineDrainEnd p t s).trans (ranAt_pos hguard ..)
  have hcond : ((s.at t).harvesting && (s.at t).enabled p) = true := by
    rw [State.harvesting_at hphase hgrid, show (s.at t).enabled p = true from henabled]
    rfl
  have hstep : State.engineDrainEnd p (s.at t) =
      ((s.at t).modCl p fun c => { c with drained := true, draining := false }).gateIdle p := State.when_pos hcond _ _
  rw [hstep] at hrow
  have hin : ((s.at t).modCl p fun c => { c with drained := true, draining := false }).cl p =
      { s.cl p with drained := true, draining := false } :=
    State.cl_modCl (s := s.at t) (by simpa [hclusters] using hp) _
  have hothers (q : Nat) (hq : q ≠ p) : ((s.at t).modCl p fun c => { c with drained := true, draining := false }).cl q =
      s.cl q := State.cl_modCl_ne hq _
  have hsram : ((s.at t).modCl p fun c => { c with drained := true, draining := false }).sram = s.sram := rfl
  obtain ⟨l, hy⟩ : ∃ l, ((s.at t).modCl p fun c => { c with drained := true, draining := false }) =
      { s.at t with clusters := l } := ⟨_, rfl⟩
  generalize ((s.at t).modCl p fun c => { c with drained := true, draining := false }) = y at *
  have hgated := State.gateIdle_gated p y
  obtain ⟨hne, hkeep⟩ := State.gateIdle_own p y
  obtain ⟨l', ks, m, hrest⟩ := hgated.rest
  refine ⟨_, hrow, ?_, fun q hq => (hne q hq).trans (hothers q hq), fun hwf a ha => ?_, ?_⟩
  · have hcl := Cluster.of_ungated (hgated.cl p)
    rw [hin] at hcl
    exact hcl
  · rw [← hsram] at hwf ⊢
    exact hkeep hwf a ha
  · rw [hrest, hy]
    rfl

/-! ## HARVEST_START -/

theorem harvestStart_ends (hphase : s.frame.phase = .afterCutoff) (hgrid : s.gridRuns = true)
    (hexact : s.frame.conf.exact = true) :
    ∃ s', exec (.harvestStart t) s = .next s' ∧
      (s.workComplete = true → s'.frame.phase = .afterHarvest ∧
        (∀ x ∈ s'.clusters, x.drained = true ∧ x.cands = []) ∧
        (∀ p, (s'.cl p).sched = (s.cl p).sched ∧ (s'.cl p).shortlists = (s.cl p).shortlists) ∧
        { s' with time := s.time, clusters := s.clusters, frame := s.frame, stks := s.stks, sram := s.sram } = s) ∧
      (s.workComplete = false → { s' with time := s.time } = s) := by
  have hrow := (exec_harvestStart t s).trans (ranAt_pos rfl ..)
  have hcond : ((s.at t).working && (s.at t).frame.conf.exact && (s.at t).workComplete) = s.workComplete := by
    have hworking : (s.at t).working = true := by
      unfold State.working
      rw [show (s.at t).gridRuns = true from hgrid, show (s.at t).frame.phase = .afterCutoff from hphase]
      rfl
    rw [hworking, show (s.at t).frame.conf.exact = true from hexact]
    exact Bool.true_and _
  cases hdone : s.workComplete
  · have hno : (s.at t).harvestStart = s.at t := State.when_neg (hcond.trans hdone) _ _
    rw [hno] at hrow
    exact ⟨_, hrow, fun h => absurd h (by decide), fun _ => rfl⟩
  · let begun : State := ((s.at t).modClusters fun l => l.map fun (c : Cluster) =>
      { c with drained := true, workDone := true, cands := [] }).modFrame fun f => { f with phase := .afterHarvest }
    have hstep : (s.at t).harvestStart = begun.gateAll := State.when_pos (hcond.trans hdone) _ _
    rw [hstep] at hrow
    have hgated := begun.gateAll_gated
    obtain ⟨l, ks, m, hrest⟩ := hgated.rest
    refine ⟨_, hrow, fun _ => ⟨?_, fun x hx => ?_, fun p => ?_, ?_⟩, fun h => absurd h (by decide)⟩
    · rw [hrest]
      rfl
    · have hview : x.ungated ∈ begun.clusters.map Cluster.ungated := hgated.clusters ▸ List.mem_map_of_mem hx
      obtain ⟨y, hy, hxy⟩ := List.mem_map.mp hview
      obtain ⟨z, -, rfl⟩ := List.mem_map.mp hy
      exact ⟨(congrArg Cluster.drained hxy :).symm, (congrArg Cluster.cands hxy :).symm⟩
    · have hcl := hgated.cl p
      have hkept : (begun.cl p).sched = (s.cl p).sched ∧ (begun.cl p).shortlists = (s.cl p).shortlists := by
        have hget : begun.cl p = (s.clusters.map fun (c : Cluster) =>
          { c with drained := true, workDone := true, cands := [] }).getD p {} := rfl
        rw [hget, List.getD_eq_getElem?_getD, List.getElem?_map]
        change _ ∧ _
        unfold State.cl
        rw [List.getD_eq_getElem?_getD]
        cases s.clusters[p]? <;> exact ⟨rfl, rfl⟩
      exact ⟨(congrArg Cluster.sched hcl :).trans hkept.1, (congrArg Cluster.shortlists hcl :).trans hkept.2⟩
    · rw [hrest]
      rfl

/-! ## HARVEST_NODE -/

/-- A stream with the tree node of a level and place. -/
def Stream.withNode (level pos : Nat) (es : List Entry) (t : Tally) (x : Stream) : Stream :=
  { x with treeNodes := x.treeNodes ++ [(level, pos, es, t)] }

/-- A stream of the state takes a tree node, and the digests are `l`. -/
def State.noded (id level pos : Nat) (es : List Entry) (t : Tally) (l : List OpDigest) (y : State) : State :=
  { y.modStream id (Stream.withNode level pos es t) with det := { y.det with opDigests := l } }

/-- The children of a tree position are complete and its node does not stand: the node comes. -/
theorem State.harvestNode_adds {id level pos : Nat} {x : Stream} {a b : List Entry × Tally} {y : State}
    (hx : y.stream? id = some x) (hharvest : y.harvesting = true) (hworks : y.works x = true) (hdevice : x.device = none)
    (hnode : (x.treeNodes.any fun n => n.1 == level && n.2.1 == pos) = false)
    (ha : y.treeChild x (level - 1) (2 * pos) = some a) (hb : y.treeChild x (level - 1) (2 * pos + 1) = some b) :
    ∃ l, (y.det.opDigest = false → l = y.det.opDigests) ∧
      y.harvestNode id level pos =
        if level = 6 then (y.noded id level pos (lowest4 (a.1 ++ b.1)) (a.2.add b.2) l).treeRoot id (lowest4 (a.1 ++ b.1))
          (a.2.add b.2)
        else y.noded id level pos (lowest4 (a.1 ++ b.1)) (a.2.add b.2) l := by
  have hcond : (y.harvesting && y.works x && !(x.device.isSome || x.treeNodes.any fun n => n.1 == level && n.2.1 == pos)) =
      true := by
    rw [hharvest, hworks, hdevice, hnode]
    rfl
  let w := y.modStream id (Stream.withNode level pos (lowest4 (a.1 ++ b.1)) (a.2.add b.2))
  obtain ⟨l, hdigest, hl⟩ := State.opDigest_digests 10 x.tagLayer x.tagOperator (w.wireId id % 256) (64 * level + pos)
    ((lowest4 (a.1 ++ b.1)).flatMap Entry.bytes ++ (a.2.add b.2).bytes) w
  refine ⟨l, hl, ?_⟩
  unfold State.harvestNode
  rw [hx]
  dsimp only
  rw [ha, hb]
  dsimp only
  refine (State.when_pos hcond _ _).trans ?_
  exact congrArg (fun z : State => if level = 6 then z.treeRoot id (lowest4 (a.1 ++ b.1)) (a.2.add b.2) else z) hdigest

variable {id : Nat} {x : Stream}

/-- A node above two clusters. -/
theorem harvestNode_clusters {p : Nat} (hid : id < 512) (hp : p < 32) (hphase : s.frame.phase = .afterHarvest)
    (hgrid : s.gridRuns = true) (hx : s.stream? id = some x) (hworks : s.works x = true) (hdevice : x.device = none)
    (hnodes : x.treeNodes = []) (heven : s.enabled (2 * p) = true) (hodd : s.enabled (2 * p + 1) = true)
    (hdrained : (s.cl (2 * p)).drained = true) (hdrained' : (s.cl (2 * p + 1)).drained = true) :
    ∃ s', exec (.harvestNode id 1 p t) s = .next s' ∧
      (s'.stream? id).map (·.treeNodes) = some [(1, p,
        lowest4 (lookupD [] id (s.cl (2 * p)).shortlists ++ lookupD [] id (s.cl (2 * p + 1)).shortlists),
        (lookupD {} id (s.cl (2 * p)).tallies).add (lookupD {} id (s.cl (2 * p + 1)).tallies))] ∧
      (s.det.opDigest = false → s'.det = s.det) ∧ { s' with time := s.time, streams := s.streams, det := s.det } = s := by
  have hguard : (streamOk id && decide (1 ≤ 1 ∧ 1 ≤ 6) && below p (64 / 2 ^ 1)) = true := by simp [streamOk, below, hid, hp]
  have hrow := (exec_harvestNode id 1 p t s).trans (ranAt_pos hguard ..)
  have hxid : x.id = id := State.stream?_id hx
  have hchild (q : Nat) (hq : q < 64) (hqe : s.enabled q = true) (hqd : (s.cl q).drained = true) :
      (s.at t).treeChild x 0 q = some (lookupD [] id (s.cl q).shortlists, lookupD {} id (s.cl q).tallies) := by
    have hlive : (s.at t).treeLive 0 q = true := by
      refine List.any_eq_true.mpr ⟨q, List.mem_filter.mpr ⟨List.mem_range.mpr hq, hqe⟩, ?_⟩
      simp
    unfold State.treeChild
    rw [hlive, if_neg (by decide), if_pos rfl, hxid]
    exact if_pos hqd
  obtain ⟨l, hl, hstep⟩ := State.harvestNode_adds (level := 1) (pos := p) (y := s.at t) hx (State.harvesting_at hphase hgrid) hworks
    hdevice (by rw [hnodes]; rfl) (hchild (2 * p) (by omega) heven hdrained) (hchild (2 * p + 1) (by omega) hodd hdrained')
  rw [hstep, if_neg (by decide)] at hrow
  refine ⟨_, hrow, ?_, fun hno => ?_, rfl⟩
  · have hone := State.stream?_modStream (f := Stream.withNode 1 p
      (lowest4 (lookupD [] id (s.cl (2 * p)).shortlists ++ lookupD [] id (s.cl (2 * p + 1)).shortlists))
      ((lookupD {} id (s.cl (2 * p)).tallies).add (lookupD {} id (s.cl (2 * p + 1)).tallies))) (by intro; rfl) id (s.at t)
    rw [show (s.at t).stream? id = some x from hx] at hone
    refine (congrArg (Option.map fun y : Stream => y.treeNodes) hone).trans ?_
    simp [Stream.withNode, hnodes]
  · change ({ s.det with opDigests := l } : Determinism) = s.det
    rw [hl hno]
    rfl

/-- The root gives the stream its device list. -/
theorem harvestNode_root {a b : List Entry × Tally} (hid : id < 512) (hphase : s.frame.phase = .afterHarvest)
    (hgrid : s.gridRuns = true) (hx : s.stream? id = some x) (hworks : s.works x = true) (hguest : x.guest = none)
    (hdevice : x.device = none) (hnode : (x.treeNodes.any fun n => n.1 == 6 && n.2.1 == 0) = false)
    (ha : s.treeChild x 5 0 = some a) (hb : s.treeChild x 5 1 = some b) :
    ∃ s', exec (.harvestNode id 6 0 t) s = .next s' ∧
      (s'.stream? id).map (fun y => (y.device, y.tally)) = some (some (lowest4 (a.1 ++ b.1)), a.2.add b.2) ∧
      (s.det.opDigest = false → s'.det = s.det) ∧ { s' with time := s.time, streams := s.streams, det := s.det } = s := by
  have hguard : (streamOk id && decide (1 ≤ 6 ∧ 6 ≤ 6) && below 0 (64 / 2 ^ 6)) = true := by simp [streamOk, below, hid]
  have hrow := (exec_harvestNode id 6 0 t s).trans (ranAt_pos hguard ..)
  obtain ⟨l, hl, hstep⟩ := State.harvestNode_adds (level := 6) (pos := 0) (y := s.at t) hx (State.harvesting_at hphase hgrid) hworks
    hdevice hnode ha hb
  rw [if_pos rfl] at hstep
  generalize lowest4 (a.1 ++ b.1) = es at hstep ⊢
  generalize a.2.add b.2 = n at hstep ⊢
  let root (y : Stream) : Stream := { y with device := some es, tally := n }
  let z := (s.at t).noded id 6 0 es n l
  have hnodeIn : z.stream? id = some (x.withNode 6 0 es n) := by
    have hone := State.stream?_modStream (f := Stream.withNode 6 0 es n) (by intro; rfl) id (s.at t)
    rw [show (s.at t).stream? id = some x from hx] at hone
    exact hone
  have hrootIn : (z.modStream id root).stream? id = some (root (x.withNode 6 0 es n)) := by
    rw [State.stream?_modStream (f := root) (by intro; rfl), hnodeIn]
    rfl
  have hroot : z.treeRoot id es n = z.modStream id root := by
    unfold State.treeRoot
    dsimp only
    change (match ((z.modStream id root).stream? id).bind (·.guest) with | none => _ | some g => _) = _
    rw [hrootIn]
    change (match x.guest with | none => z.modStream id root | some g => _) = _
    rw [hguest]
  rw [hstep.trans hroot] at hrow
  refine ⟨_, hrow, ?_, fun hno => ?_, rfl⟩
  · exact congrArg (Option.map fun y : Stream => (y.device, y.tally)) hrootIn
  · change ({ s.det with opDigests := l } : Determinism) = s.det
    rw [hl hno]
    rfl

end
end Sys2Proof.Machine
end

section
/-!
SUPPORT. The harvest deadline (R51), and the obligation on harvest and attempts.
-/
namespace Sys2Proof.Machine

/-! ## What T_h takes from a cluster -/

/-- Work of one cluster was given up: nothing changed but it, sessions' counters and the frame's count. -/
structure State.Cut (p : Nat) (s s' : State) : Prop where
  rest : ∃ l ss fr, s' = { s with clusters := l, sessions := ss, frame := fr }
  others : ∀ q, q ≠ p → s'.cl q = s.cl q
  length : s'.clusters.length = s.clusters.length

theorem State.cut_refl (p : Nat) (s : State) : s.Cut p s := ⟨⟨_, _, _, rfl⟩, fun _ _ => rfl, rfl⟩

theorem State.Cut.trans {p : Nat} {a b c : State} (h : a.Cut p b) (h' : b.Cut p c) : a.Cut p c := by
  obtain ⟨l, ss, fr, hb⟩ := h.rest
  obtain ⟨l', ss', fr', hc⟩ := h'.rest
  refine ⟨⟨l', ss', fr', ?_⟩, fun q hq => (h'.others q hq).trans (h.others q hq), h'.length.trans h.length⟩
  rw [hc, hb]

theorem State.modCl_cut (p : Nat) (f : Cluster → Cluster) (s : State) : s.Cut p (s.modCl p f) :=
  ⟨⟨_, _, _, rfl⟩, fun _ hq => State.cl_modCl_ne hq f, State.clusters_length_modCl s p f⟩

/-- A cluster holds nothing of phases 4 to 9 without KEEP: no queued or running task, none of its own, and no candidate. -/
def Cluster.gaveUp (c : Cluster) : Prop :=
  c.cands = [] ∧ (∀ h ∈ c.sched.tasks, abandons h.task = false) ∧ ∀ d ∈ c.own, abandons d = false

theorem Cluster.gaveUp_of_ungated {c d : Cluster} (h : d.ungated = c.ungated) (hc : c.gaveUp) : d.gaveUp := by
  rw [Cluster.of_ungated h]
  exact hc

/-- Releasing a cluster's candidates. -/
theorem State.releaseCands_cut {p : Nat} {s : State} (hp : p < s.clusters.length) : s.Cut p (s.releaseCands p) ∧
    ((s.releaseCands p).cl p).cands = [] ∧ ((s.releaseCands p).cl p).sched = (s.cl p).sched ∧
    ((s.releaseCands p).cl p).own = (s.cl p).own := by
  unfold State.releaseCands
  dsimp only
  generalize hy : List.foldl _ s _ = y
  have hfold : s.Cut p y ∧ (y.cl p).sched = (s.cl p).sched ∧ (y.cl p).own = (s.cl p).own := by
    rw [← hy]
    refine State.foldl_inv (fun y => s.Cut p y ∧ (y.cl p).sched = (s.cl p).sched ∧ (y.cl p).own = (s.cl p).own) _
      (fun x c hx => ?_) _ s ⟨s.cut_refl p, rfl, rfl⟩
    have htally : s.Cut p (if c.origin = 3 then x else x.tallyOn p c.stream fun t => { t with abandoned := addS t.abandoned 1 }) ∧
        ((if c.origin = 3 then x else x.tallyOn p c.stream fun t => { t with abandoned := addS t.abandoned 1 }).cl p).sched =
          (s.cl p).sched ∧
        ((if c.origin = 3 then x else x.tallyOn p c.stream fun t => { t with abandoned := addS t.abandoned 1 }).cl p).own =
          (s.cl p).own := by
      split
      · exact hx
      · obtain ⟨hcut, hsched, hown⟩ := hx
        have hin : p < x.clusters.length := by rw [hcut.length]; exact hp
        refine ⟨hcut.trans (State.modCl_cut ..), ?_, ?_⟩
        · rw [State.tallyOn, State.cl_modCl hin]
          exact hsched
        · rw [State.tallyOn, State.cl_modCl hin]
          exact hown
    generalize (if c.origin = 3 then x else x.tallyOn p c.stream fun t => { t with abandoned := addS t.abandoned 1 }) = z at htally
    split
    · split
      · exact htally
      · obtain ⟨hcut, hsched, hown⟩ := htally
        exact ⟨hcut.trans ⟨⟨_, _, _, rfl⟩, fun _ _ => rfl, rfl⟩, hsched, hown⟩
    · exact htally
  obtain ⟨hcut, hsched, hown⟩ := hfold
  have hin : p < y.clusters.length := by rw [hcut.length]; exact hp
  refine ⟨hcut.trans (State.modCl_cut ..), ?_, ?_, ?_⟩
  · rw [State.cl_modCl hin]
  · rw [State.cl_modCl hin]
    exact hsched
  · rw [State.cl_modCl hin]
    exact hown

/-- A cluster without the work that T_h takes from its scheduler and its own list. -/
def Cluster.abandoned (cyc : Nat) (busy : Bool) (c : Cluster) : Cluster :=
  { Cluster.cutOwn { c with sched := c.sched.remove cyc fun h => abandons h.task } with draining := busy }

theorem Cluster.abandoned_parts (cyc : Nat) (busy : Bool) (c : Cluster) :
    (∀ h ∈ (c.abandoned cyc busy).sched.tasks, abandons h.task = false) ∧ ∀ d ∈ (c.abandoned cyc busy).own, abandons d = false := by
  refine ⟨fun h hh => ?_, fun d hd => ?_⟩
  · have hin : h ∈ (c.sched.remove cyc fun h => abandons h.task).tasks := hh
    rw [Scheduler.remove_tasks] at hin
    exact Bool.not_eq_true' _ ▸ (List.mem_filter.mp hin).2
  · have hin : d ∈ c.own.filter fun d => !abandons d := hd
    exact Bool.not_eq_true' _ ▸ (List.mem_filter.mp hin).2

/-- T_h on a cluster: the cluster gave its work up. -/
theorem State.abandonOn_cut {p : Nat} {s : State} (hp : p < s.clusters.length) : s.Cut p (s.abandonOn p) ∧
    ((s.abandonOn p).cl p).gaveUp := by
  obtain ⟨busy, n, hstep⟩ : ∃ busy n, s.abandonOn p = (((s.modCl p (Cluster.abandoned s.instantCycle busy)).bumpCl p 11 n).modFrame
      fun f => { f with abandoned := satU 32 (f.abandoned + n) }).releaseCands p := by
    refine ⟨((s.cl p).sched.running.any fun r => abandons r.2.task) || !(s.cl p).inFlight.isEmpty, (s.cl p).sched.abandoned, ?_⟩
    unfold State.abandonOn State.modSched
    dsimp only
    rw [State.modCl_modCl, State.modCl_modCl]
    rfl
  obtain ⟨hsched, hown⟩ := Cluster.abandoned_parts s.instantCycle busy (s.cl p)
  have hcl := State.cl_modCl hp (Cluster.abandoned s.instantCycle busy)
  have hcut := s.modCl_cut p (Cluster.abandoned s.instantCycle busy)
  rw [hstep]
  generalize s.modCl p (Cluster.abandoned s.instantCycle busy) = a at hcl hcut ⊢
  have hina : p < a.clusters.length := by rw [hcut.length]; exact hp
  have hbump : a.Cut p (a.bumpCl p 11 n) ∧ ((a.bumpCl p 11 n).cl p).sched = (a.cl p).sched ∧
      ((a.bumpCl p 11 n).cl p).own = (a.cl p).own := by
    refine ⟨State.modCl_cut .., ?_, ?_⟩
    all_goals rw [State.bumpCl, State.cl_modCl hina]
  generalize a.bumpCl p 11 n = b at hbump ⊢
  obtain ⟨hcutb, hschedb, hownb⟩ := hbump
  have hframe : b.Cut p (b.modFrame fun f => { f with abandoned := satU 32 (f.abandoned + n) }) :=
    ⟨⟨_, _, _, rfl⟩, fun _ _ => rfl, rfl⟩
  have hclf : (b.modFrame fun f => { f with abandoned := satU 32 (f.abandoned + n) }).cl p = b.cl p := rfl
  generalize (b.modFrame fun f => { f with abandoned := satU 32 (f.abandoned + n) }) = d at hframe hclf ⊢
  have hind : p < d.clusters.length := by rw [hframe.length, hcutb.length]; exact hina
  obtain ⟨hcutd, hcands, hschedd, hownd⟩ := State.releaseCands_cut hind
  refine ⟨((hcut.trans hcutb).trans hframe).trans hcutd, hcands, ?_, ?_⟩
  · rw [hschedd, hclf, hschedb, hcl]
    exact hsched
  · rw [hownd, hclf, hownb, hcl]
    exact hown

/-- T_h on every cluster of a list. -/
theorem State.abandonAll (l : List Nat) (s : State) (hl : ∀ p ∈ l, p < s.clusters.length) :
    (∃ cs ss fr, l.foldl State.abandonOn s = { s with clusters := cs, sessions := ss, frame := fr }) ∧
    ∀ p, p < s.clusters.length → p ∈ l ∨ (s.cl p).gaveUp → ((l.foldl State.abandonOn s).cl p).gaveUp := by
  induction l generalizing s with
  | nil => exact ⟨⟨_, _, _, rfl⟩, fun p _ h => h.elim (by simp) id⟩
  | cons q l ih =>
    obtain ⟨hcut, hgave⟩ := State.abandonOn_cut (hl q List.mem_cons_self)
    obtain ⟨⟨cs, ss, fr, hrest⟩, hall⟩ := ih (s.abandonOn q) (by
      intro p hp
      rw [hcut.length]
      exact hl p (List.mem_cons_of_mem q hp))
    rw [List.foldl_cons]
    refine ⟨?_, fun p hp hone => hall p (by rw [hcut.length]; exact hp) ?_⟩
    · obtain ⟨cs', ss', fr', hstep⟩ := hcut.rest
      refine ⟨cs, ss, fr, ?_⟩
      rw [hrest, hstep]
    · by_cases hpq : p = q
      · exact .inr (hpq ▸ hgave)
      · rcases hone with hin | hgiven
        · exact .inl ((List.mem_cons.mp hin).resolve_left hpq)
        · rw [hcut.others p hpq]
          exact .inr hgiven

theorem abandons_false {d : TaskDesc} (h : abandons d = false) : ¬(4 ≤ d.phase ∧ d.phase ≤ 9 ∧ d.keep = false) := by
  rintro ⟨hlow, hhigh, hkeep⟩
  simp [abandons, hlow, hhigh, hkeep] at h

section
variable {s : State} {t : Nat}

/-- A stack without the tasks that T_h takes. -/
theorem Stack.dropTasks_abandons (x : Stack) : ∀ d ∈ (x.dropTasks abandons).dispatcher.map (·.task) ++
    (x.dropTasks abandons).taskList ++ (x.dropTasks abandons).dmaTasks.map (·.1), abandons d = false := by
  have hfilter {α : Type} (f : α → TaskDesc) (l : List α) (d : TaskDesc)
      (hd : d ∈ (l.filter fun a => !abandons (f a)).map f) : abandons d = false := by
    obtain ⟨a, ha, rfl⟩ := List.mem_map.mp hd
    exact Bool.not_eq_true' _ ▸ (List.mem_filter.mp ha).2
  intro d hd
  rcases List.mem_append.mp hd with hd | hd
  · rcases List.mem_append.mp hd with hd | hd
    · exact hfilter (·.task) x.dispatcher d hd
    · exact Bool.not_eq_true' _ ▸ (List.mem_filter.mp (show d ∈ x.taskList.filter fun d => !abandons d from hd)).2
  · exact hfilter (·.1) x.dmaTasks d hd

/-- HARVEST_DEADLINE of Throughput mode (R51). -/
theorem harvestDeadline_abandons (hclusters : s.clusters.length = 64) (hphase : s.frame.phase = .afterCutoff)
    (hgrid : s.gridRuns = true) (hexact : s.frame.conf.exact = false)
    (htime : s.frame.openTime + 72 * s.frame.conf.period / 100 * ticksPerUs ≤ max s.time.now t) :
    ∃ s', exec (.harvestDeadline t) s = .next s' ∧ s'.frame.phase = .afterHarvest ∧
      (∀ p, s.enabled p = true → (s'.cl p).cands = [] ∧
        ∀ e ∈ (s'.cl p).sched.ms ++ (s'.cl p).sched.rl ++ (s'.cl p).sched.dl ++ (s'.cl p).sched.running.map (·.2),
          ¬(4 ≤ e.task.phase ∧ e.task.phase ≤ 9 ∧ e.task.keep = false)) ∧
      (∀ p, s.enabled p = true → ∀ d ∈ (s'.cl p).own, abandons d = false) ∧
      (∀ x ∈ s'.stks, ∀ d ∈ x.dispatcher.map (·.task) ++ x.taskList ++ x.dmaTasks.map (·.1), abandons d = false) ∧
      { s' with time := s.time, clusters := s.clusters, stks := s.stks, frame := s.frame, sessions := s.sessions,
                sram := s.sram } = s := by
  have hrow := (exec_harvestDeadline t s).trans (ranAt_pos rfl ..)
  have hdue : (s.at t).partAt 72 ≤ (s.at t).time.now := htime
  have hcond : ((s.at t).working && !(s.at t).frame.conf.exact && decide ((s.at t).partAt 72 ≤ (s.at t).time.now)) = true := by
    have hworking : (s.at t).working = true := by
      unfold State.working
      rw [show (s.at t).gridRuns = true from hgrid, show (s.at t).frame.phase = .afterCutoff from hphase]
      rfl
    rw [hworking, decide_eq_true hdue, show (s.at t).frame.conf.exact = false from hexact]
    rfl
  have hstep : (s.at t).harvestDeadline = (((s.enabledList.foldl State.abandonOn (s.at t)).modStks fun l =>
      l.map (Stack.dropTasks abandons)).modFrame fun f => { f with phase := .afterHarvest }).gateAll :=
    State.when_pos hcond _ _
  rw [hstep] at hrow
  have hbelow (p : Nat) (h : s.enabled p = true) : p < 64 := by
    unfold State.enabled at h
    exact of_decide_eq_true (Bool.and_eq_true_iff.mp h).1
  obtain ⟨⟨cs, ss, fr, hfold⟩, hgave⟩ := State.abandonAll s.enabledList (s.at t) (by
    intro p hp
    have hlen : (s.at t).clusters.length = 64 := hclusters
    rw [hlen]
    exact List.mem_range.mp (List.mem_filter.mp hp).1)
  generalize s.enabledList.foldl State.abandonOn (s.at t) = y at hfold hgave hrow
  have hgated := ((y.modStks fun l => l.map (Stack.dropTasks abandons)).modFrame fun f =>
    { f with phase := .afterHarvest }).gateAll_gated
  obtain ⟨l, ks, m, hrest⟩ := hgated.rest
  have hcluster (p : Nat) (h : s.enabled p = true) :
      ((((y.modStks fun l => l.map (Stack.dropTasks abandons)).modFrame fun f =>
        { f with phase := .afterHarvest }).gateAll).cl p).gaveUp := by
    have hp : p < (s.at t).clusters.length := by
      have hlen : (s.at t).clusters.length = 64 := hclusters
      rw [hlen]
      exact hbelow p h
    have hgiven := hgave p hp (.inl (List.mem_filter.mpr ⟨List.mem_range.mpr (hbelow p h), h⟩))
    exact Cluster.gaveUp_of_ungated (hgated.cl p) hgiven
  refine ⟨_, hrow, ?_, fun p h => ?_, fun p h => ?_, fun x hx => ?_, ?_⟩
  · rw [hrest]
    rfl
  · obtain ⟨hcands, htasks, -⟩ := hcluster p h
    exact ⟨hcands, fun e he => abandons_false (htasks e he)⟩
  · obtain ⟨-, -, hown⟩ := hcluster p h
    exact hown
  · have hview : x.running ∈ (y.stks.map (Stack.dropTasks abandons)).map Stack.running :=
      hgated.stks ▸ List.mem_map_of_mem hx
    obtain ⟨z, hz, hxz⟩ := List.mem_map.mp hview
    obtain ⟨w, -, rfl⟩ := List.mem_map.mp hz
    have hsame : x.dispatcher = (w.dropTasks abandons).dispatcher ∧ x.taskList = (w.dropTasks abandons).taskList ∧
        x.dmaTasks = (w.dropTasks abandons).dmaTasks :=
      ⟨(congrArg Stack.dispatcher hxz :).symm, (congrArg Stack.taskList hxz :).symm, (congrArg Stack.dmaTasks hxz :).symm⟩
    obtain ⟨hd, hl, hdma⟩ := hsame
    rw [hd, hl, hdma]
    exact w.dropTasks_abandons
  · rw [hrest, hfold]
    rfl

end

/-! ## The obligation -/

/-- Settles O32: the end of the work phases, the harvest tree, and the attempts. -/
theorem harvestAndAttempts : Obligations.HarvestAndAttempts := by
  unfold Obligations.HarvestAndAttempts
  refine ⟨fun s t hclusters => ⟨?_, ?_, ?_, ?_, ?_⟩, fun s t id i e x hid hphase hgrid hx => ⟨?_, ?_, ?_⟩⟩
  · exact harvestDeadline_abandons hclusters
  · exact harvestStart_ends
  · exact fun p hp hphase hgrid => engineDrainEnd_drains hclusters hp hphase hgrid
  · exact fun id p x hid hp hphase hgrid hx => harvestNode_clusters hid hp hphase hgrid hx
  · exact fun id x a b hid hphase hgrid hx hworks hguest hdevice => harvestNode_root hid hphase hgrid hx hworks hguest hdevice
  · exact attemptStart_latches hid hphase hgrid hx
  · exact fun v => attemptResult_ends hid hphase hgrid hx
  · exact reverifyCutoff_ends hphase hgrid

end Sys2Proof.Machine
end

section
/-!
SUPPORT. The open of a frame: what it leaves behind it (R41, R42, R56, R59, R289).
-/
namespace Sys2Proof.Machine

/-! ## What a frame has at its open, and what the steps of the open leave of it -/

/-- The frame's registers, but for its fault mark and schedule. -/
def Frame.steady (f : Frame) : Frame := { f with faultReaction := false, schedule := [] }

/-- What a cluster starts a frame with. -/
def Cluster.openView (c : Cluster) := (c.cands, c.shortlists, c.sched.age)

/-- The part, the streams, the clusters' start and the frame. -/
def State.openView (s : State) :=
  (s.part, s.flash, s.aon, s.mgmt, s.streams, s.clusters.map Cluster.openView, s.frame.steady)

theorem State.AtEvents.openView {s s' : State} (h : s.AtEvents s') : s'.openView = s.openView := by
  obtain ⟨pc, rs, ss, ho, l, rfl⟩ := h
  rfl

theorem State.detect_steady (code stack cluster stream : Nat) (arg : List Byte) (s : State) :
    (s.detect code stack cluster stream arg).frame.steady = s.frame.steady := by
  have hreport : (s.faultReport code stack cluster stream arg).frame.steady = s.frame.steady := by
    simp only [State.faultReport, State.traceError_frame, State.logError_frame, State.deviceEvent_frame, State.ite_frame,
      State.modFrame_frame, State.modSafety_frame]
    split <;> rfl
  rw [State.detect, State.faultReact_eq, State.ite_frame, State.modSafety_frame, State.triggerDump_frame, ite_self,
    State.foldl_keeps (·.frame) _ (State.faultLeave_frame code), hreport]

theorem State.detect_openView (code stack cluster stream : Nat) (arg : List Byte) (s : State) :
    (s.detect code stack cluster stream arg).openView = s.openView := by
  obtain ⟨hpart, hflash, haon, hmgmt, -⟩ := State.detect_keeps code stack cluster stream arg s
  unfold State.openView
  rw [hpart, hflash, haon, hmgmt, State.detect_streams, State.detect_clusters, State.detect_steady]

theorem State.modTest_openView (p : Nat) (f : ClusterTest → ClusterTest) (s : State) : (s.modTest p f).openView = s.openView := by
  have hmap := map_modify_of Cluster.openView (g := fun c : Cluster => { c with test := f c.test }) (by intro; rfl) s.clusters p
  unfold State.openView
  change (s.part, s.flash, s.aon, s.mgmt, s.streams, (s.clusters.modify p _).map Cluster.openView, s.frame.steady) = _
  rw [hmap]

theorem State.trace_openView (b source kind : Nat) (body : List Byte) (s : State) :
    (s.trace b source kind body).openView = s.openView := by
  unfold State.openView
  simp

theorem State.ageHeld_openView (s : State) : s.ageHeld.openView = s.openView := by
  unfold State.ageHeld
  refine State.foldl_keeps State.openView _ (fun x c => ?_) _ s
  split <;> rfl

theorem State.answerWaiting_openView (op : Nat) (s : State) : (s.answerWaiting op).openView = s.openView :=
  State.foldl_keeps State.openView (fun x c => x.accept c) (fun _ _ => rfl) _ s

theorem State.fabricAnswers_openView (s : State) : s.fabricAnswers.openView = s.openView := by
  rw [State.fabricAnswers_eq]
  exact (State.foldl_keeps State.openView State.answerBack (fun _ _ => rfl) _ _).trans rfl

theorem State.fabricGo_openView (s : State) : s.fabricGo.openView = s.openView := by
  unfold State.openView
  simp

theorem State.formKey_openView (s : State) : s.formKey.openView = s.openView := by
  unfold State.formKey
  dsimp only
  generalize s.keyRecord = k
  generalize k.drop 248 = d
  split
  · rfl
  · exact (State.deviceEvent_atEvents ..).openView

theorem State.timeSync_openView (s : State) : s.timeSync.openView = s.openView :=
  State.foldl_keeps State.openView _ (fun _ _ => State.trace_openView ..) _ s

theorem State.tellRetired_openView (s : State) : s.tellRetired.openView = s.openView :=
  State.foldl_keeps State.openView _ (fun _ _ => (State.warn_atEvents ..).openView) _ _

theorem State.modBoot_openView (f : BootState → BootState) (s : State) : (s.modBoot f).openView = s.openView := rfl

theorem State.voffStep_openView (p : Nat) (v : Int) (s : State) : (s.voffStep p v).openView = s.openView := by
  unfold State.voffStep
  dsimp only
  split
  · rfl
  · exact (State.modBoot_openView ..).trans (State.modTest_openView ..)

theorem State.marginStep_openView (p : Nat) (s : State) : (s.marginStep p).openView = s.openView := by
  have hread := State.modTest_openView p (fun x => { x with slackRead := false }) s
  unfold State.marginStep
  dsimp only
  generalize s.modTest p (fun x => { x with slackRead := false }) = y at hread ⊢
  split
  · rfl
  · split
    · exact (State.detect_openView ..).trans hread
    · split
      · split
        · exact (State.voffStep_openView ..).trans hread
        · exact ((State.warn_atEvents ..).openView.trans (State.modTest_openView ..)).trans hread
      · split
        · exact (State.voffStep_openView ..).trans hread
        · exact hread

theorem State.openPins_openView (s : State) : s.openPins.openView = s.openView := by
  unfold State.openPins
  split
  · rfl
  · split
    · exact State.detect_openView ..
    · split <;> rfl

/-! ## What comes into force at the open, and the clearing of the frame before -/

/-- What the steps before the clearing leave: the part's memories and the frame. -/
def State.fixedView (s : State) := (s.part, s.flash, s.aon, s.mgmt, s.frame)

theorem State.settleSession_fixedView (i : Nat) (s : State) : (s.settleSession i).fixedView = s.fixedView := by
  unfold State.fixedView
  simp

theorem State.settleObs_fixedView (s : State) : s.settleObs.fixedView = s.fixedView := by
  unfold State.settleObs State.fixedView
  dsimp only
  (repeat' split) <;> simp

/-- The configuration that waited is in force behind the settling, and nothing else of the frame changed. -/
theorem State.settle_fixedView (s : State) : s.settle.fixedView = (s.part, s.flash, s.aon, s.mgmt,
    { s.frame with conf := s.frame.pendingConf.getD s.frame.conf, pendingConf := none }) := by
  have hsessions : ((List.range 16).foldl (fun s i => s.settleSession i) s.settleImages).fixedView = s.fixedView :=
    State.foldl_keeps State.fixedView _ (fun x i => State.settleSession_fixedView i x) _ s.settleImages
  unfold State.settle State.settleNow
  dsimp only
  generalize (List.range 16).foldl (fun s i => s.settleSession i) s.settleImages = y at hsessions
  have hobs : y.settleStreams.settleObs.fixedView = s.fixedView := (State.settleObs_fixedView _).trans hsessions
  generalize y.settleStreams.settleObs = z at hobs
  simp only [State.fixedView, Prod.mk.injEq] at hobs
  obtain ⟨hpart, hflash, haon, hmgmt, hframe⟩ := hobs
  have hdigest : z.settleDigest.fixedView = z.fixedView := rfl
  simp only [State.fixedView, Prod.mk.injEq] at hdigest
  generalize z.settleDigest = w at hdigest ⊢
  obtain ⟨hpart', hflash', haon', hmgmt', hframe'⟩ := hdigest
  change (w.part, w.flash, w.aon, w.mgmt, ({ w.frame with
    conf := w.frame.pendingConf.getD w.frame.conf, pendingConf := none } : Frame)) = _
  rw [hpart', hflash', haon', hmgmt', hframe']
  rw [hpart, hflash, haon, hmgmt, hframe]

theorem State.openTables_fixedView (s : State) : s.openTables.fixedView = s.fixedView := by
  unfold State.openTables State.when_
  dsimp only
  split <;> split <;> rfl

theorem State.resumeSessions_fixedView (s : State) : s.resumeSessions.fixedView = s.fixedView := by
  refine State.foldl_keeps State.fixedView _ (fun x i => ?_) _ s
  split
  · obtain ⟨pc, rs, ss, ho, l, he⟩ := State.sesTo_atEvents i 3 (if s.frame.devState = 3 then 0x0705 else 0x070B) x
    rw [he]
    rfl
  · rfl

theorem State.expireMovers_fixedView (s : State) : s.expireMovers.fixedView = s.fixedView := by
  have hsram (a : Nat) (bs : List Byte) (x : State) : (x.sramWrite a bs).fixedView = x.fixedView := rfl
  have hcopy (w : Nat) (x : State) : (x.copyUrgents w).fixedView = x.fixedView :=
    State.foldl_keeps State.fixedView _ (fun _ _ => hsram ..) _ x
  have hhbm (a : Nat) (bs : List Byte) (x : State) : (x.hbmWrite a bs).fixedView = x.fixedView := rfl
  have hrecords (w : Nat) (x : State) : (x.expireRecords w).fixedView = x.fixedView := by
    have hwrite (l : List Nat) : (l.foldl (fun s i => s.hbmWrite (moverAddr w i) (zeros 96)) x).fixedView = x.fixedView :=
      State.foldl_keeps State.fixedView _ (fun _ _ => hhbm ..) l x
    unfold State.expireRecords
    dsimp only
    split
    · exact hwrite _
    · exact (hcopy ..).trans (hwrite _)
  have hworlds (f : Worlds → Worlds) (x : State) : (x.modWorlds f).fixedView = x.fixedView := rfl
  unfold State.expireMovers
  dsimp only
  rw [hworlds]
  exact State.foldl_keeps State.fixedView _ (fun x w => hrecords w x) (List.range 4) s

theorem State.replayUnstall_openView (s : State) : s.replayUnstall.openView = s.openView := by
  rw [State.replayUnstall_eq]
  refine State.foldl_keeps State.openView _ (fun x i => ?_) _ _
  obtain ⟨l, hl⟩ := x.answerFeed_atMbx (s.det.replayStalled.getD i (0, 0))
  rw [hl]
  rfl

/-- What the clearing of the frame before leaves. -/
theorem State.clearFrame_openView (empty : Bool) (s : State) : (s.clearFrame empty).openView = (s.part, s.flash, s.aon, s.mgmt,
    (s.streams.filter (·.guest.isNone)).map Stream.opened, (s.clusters.map (Cluster.opened empty)).map Cluster.openView,
    s.frame.opened.steady) := by
  have hreplayed (x : State) : x.dropReplayed.openView = x.openView := (State.replayUnstall_openView _).trans rfl
  have hfarm (x : State) : x.dropFarmInputs.openView = x.openView := rfl
  unfold State.clearFrame
  dsimp only
  rw [hreplayed, hfarm]
  simp [State.openView]

/-- The frame behind an open whose books balance. -/
def Frame.begun (f : Frame) : Frame :=
  Frame.opened { f with conf := f.pendingConf.getD f.conf, pendingConf := none }

/-- The steps of an open behind the clearing. -/
def State.openTail (s : State) : State :=
  let s := s.scheduleInForce.ageHeld.fabricAnswers.fabricGo
  let s := [0x0501, 0x0502, 0x0701, 0x070B].foldl (fun s op => s.answerWaiting op) s
  let s := s.formKey.timeSync.tellRetired
  (s.enabledList.foldl (fun s p => s.marginStep p) s).openPins

theorem State.openTail_openView (s : State) : s.openTail.openView = s.openView := by
  have hfirst : s.scheduleInForce.ageHeld.fabricAnswers.fabricGo.openView = s.openView := by
    rw [State.fabricGo_openView, State.fabricAnswers_openView, State.ageHeld_openView]
    rfl
  unfold State.openTail
  dsimp only
  generalize s.scheduleInForce.ageHeld.fabricAnswers.fabricGo = y at hfirst ⊢
  rw [State.openPins_openView, State.foldl_keeps State.openView _ (fun x p => State.marginStep_openView p x),
    State.tellRetired_openView, State.timeSync_openView, State.formKey_openView,
    State.foldl_keeps State.openView _ (fun x op => State.answerWaiting_openView op x), hfirst]

/-- What comes into force before the clearing. -/
def State.inForce (s : State) : State := s.openWorlds.settle.openTables.resumeSessions.expireMovers

theorem State.inForce_fixedView (s : State) : s.inForce.fixedView = (s.part, s.flash, s.aon, s.mgmt,
    { s.frame with conf := s.frame.pendingConf.getD s.frame.conf, pendingConf := none }) := by
  unfold State.inForce
  rw [State.expireMovers_fixedView, State.resumeSessions_fixedView, State.openTables_fixedView, State.settle_fixedView]
  rfl

theorem State.openBalanced_eq {s : State} (hbook : s.openTimes.badBook = none) :
    ∃ empty, s.openBalanced = (s.openTimes.inForce.clearFrame empty).openTail := by
  unfold State.openBalanced
  dsimp only
  rw [hbook]
  exact ⟨_, rfl⟩

/-- An open whose books balance: the frame begins, no transient of the frame before is left, and the part's memories stay. -/
theorem State.openBalanced_begins {s : State} (hbook : s.openTimes.badBook = none) :
    s.openBalanced.part = s.openTimes.part ∧ s.openBalanced.flash = s.openTimes.flash ∧ s.openBalanced.aon = s.openTimes.aon ∧
    s.openBalanced.mgmt = s.openTimes.mgmt ∧
    (∀ x ∈ s.openBalanced.streams, x.guest = none ∧ x.query = none ∧ x.device = none) ∧
    (∀ x ∈ s.openBalanced.clusters, x.cands = [] ∧ x.shortlists = [] ∧ x.sched.age = 0) ∧
    s.openBalanced.frame.steady = s.openTimes.frame.begun.steady := by
  obtain ⟨empty, heq⟩ := State.openBalanced_eq hbook
  have hview := (State.openTail_openView (s.openTimes.inForce.clearFrame empty)).trans
    (State.clearFrame_openView empty s.openTimes.inForce)
  have hfixed := s.openTimes.inForce_fixedView
  rw [← heq] at hview
  generalize s.openTimes.inForce = y at hview hfixed
  generalize s.openBalanced = z at hview ⊢
  simp only [State.openView, State.fixedView, Prod.mk.injEq] at hview hfixed
  obtain ⟨hpart, hflash, haon, hmgmt, hstreams, hclusters, hframe⟩ := hview
  obtain ⟨hpart', hflash', haon', hmgmt', hframe'⟩ := hfixed
  refine ⟨hpart.trans hpart', hflash.trans hflash', haon.trans haon', hmgmt.trans hmgmt', fun x hx => ?_, fun x hx => ?_, ?_⟩
  · rw [hstreams] at hx
    obtain ⟨y, -, rfl⟩ := List.mem_map.mp hx
    exact ⟨rfl, rfl, rfl⟩
  · have hin : x.openView ∈ z.clusters.map Cluster.openView := List.mem_map_of_mem hx
    rw [hclusters] at hin
    obtain ⟨c, hc, hxc⟩ := List.mem_map.mp hin
    obtain ⟨c0, -, rfl⟩ := List.mem_map.mp hc
    simp only [Cluster.openView, Prod.mk.injEq] at hxc
    obtain ⟨hcands, hlists, hage⟩ := hxc
    exact ⟨hcands.symm, hlists.symm, hage.symm⟩
  · rw [hframe, hframe']
    rfl

end Sys2Proof.Machine
end

section
/-!
SUPPORT. FRAME_OPEN (R41, R42, R59, R289).
-/
namespace Sys2Proof.Machine

/-! ## The books at the open -/

/-- The books look at the memories, the structures, the mail and the counter, at the instant. -/
theorem State.badBook_congr {s s' : State} (h : s' = { s with safety := s'.safety, frame := s'.frame })
    (hcounter : s'.frame.counter = s.frame.counter) (hphase : s'.frame.phase = s.frame.phase) : s'.badBook = s.badBook := by
  have hcounts (p : Nat) : s'.drainCounts p = s.drainCounts p := by
    unfold State.drainCounts
    rw [hphase, hcounter, h]
    rfl
  have hclusters (p : Nat) : s'.clusterBooks p = s.clusterBooks p := by
    unfold State.clusterBooks
    rw [hcounts]
  unfold State.badBook
  rw [funext hclusters]
  generalize s.clusterBooks = books
  rw [h]
  rfl

section
variable {s : State} {ssv t : Nat}

/-- The state that a FRAME_OPEN of a running grid judges. -/
theorem State.openTimes_running (hgrid : s.frame.devState = 1) : s.openTimes = s.modFrame fun f => { f with
    counter := f.counter + 1, anyOpened := true, frt := s.nextFrt, openTime := f.nextOpen,
    t0s := if (s.frame.pendingConf.getD s.frame.conf).period != s.frame.conf.period then s.nextFrt else f.t0s,
    k := if (s.frame.pendingConf.getD s.frame.conf).period != s.frame.conf.period then 1 else f.k + 1 } := by
  unfold State.openTimes
  dsimp only
  rw [if_neg (by rw [hgrid]; decide)]

theorem frameOpen_waits (hgrid : s.frame.devState = 1) (hearly : max s.time.now t < s.frame.nextOpen) :
    ∃ s', exec (.frameOpen ssv t) s = .next s' ∧ { s' with time := s.time, safety := s.safety } = s := by
  have hrow := (exec_frameOpen ssv t s).trans (ranAt_pos rfl ..)
  have hlate : decide (s.frame.nextOpen ≤ ((s.at t).atSsv ssv).time.now) = false := decide_eq_false (Nat.not_le.mpr hearly)
  have hdue : ((s.at t).atSsv ssv).openDue = false := by
    unfold State.openDue
    change (_ && if s.frame.devState = 3 then _ else decide (s.frame.nextOpen ≤ ((s.at t).atSsv ssv).time.now)) = false
    rw [if_neg (by rw [hgrid]; decide), hlate, Bool.and_false]
  have hstep : ((s.at t).atSsv ssv).frameOpen = (s.at t).atSsv ssv := State.when_neg hdue _ _
  rw [hstep] at hrow
  exact ⟨_, hrow, rfl⟩

/-- A FRAME_OPEN that is due runs the open. -/
theorem frameOpen_runs (hgrid : s.frame.devState = 1) (hphase : s.frame.phase = .closed ∨ s.frame.phase = .guarded)
    (hfault : s.req.faultedOpen = false) (hcfw : s.boot.cfwUp = true) (htime : s.frame.nextOpen ≤ max s.time.now t) :
    exec (.frameOpen ssv t) s = .next { ((s.at t).atSsv ssv).openBalanced with pending := s.pending } := by
  have hrow := (exec_frameOpen ssv t s).trans (ranAt_pos rfl ..)
  generalize hx : (s.at t).atSsv ssv = x at hrow ⊢
  have hframe : x.frame = s.frame := hx ▸ rfl
  have hreq : x.req = s.req := hx ▸ rfl
  have hboot : x.boot = s.boot := hx ▸ rfl
  have hnow : x.time.now = max s.time.now t := hx ▸ rfl
  have hdue : x.openDue = true := by
    unfold State.openDue State.gridRuns
    rw [hframe, hreq, hboot, hnow, hgrid, hfault, hcfw, if_neg (by decide), decide_eq_true htime]
    rcases hphase with h | h <;> rw [h] <;> rfl
  have hsame : x.replayDiffers = false := by
    unfold State.replayDiffers
    rw [hframe, hgrid]
    rfl
  have hstep : x.frameOpen = x.openBalanced := by
    unfold State.frameOpen
    rw [State.when_pos hdue, hsame]
    rfl
  rw [hstep] at hrow
  exact hrow

/-- A FRAME_OPEN whose books balance. -/
theorem frameOpen_opens (hgrid : s.frame.devState = 1) (hphase : s.frame.phase = .closed ∨ s.frame.phase = .guarded)
    (hfault : s.req.faultedOpen = false) (hcfw : s.boot.cfwUp = true) (htime : s.frame.nextOpen ≤ max s.time.now t) {conf : FrameConf}
    (hconf : conf = s.frame.pendingConf.getD s.frame.conf)
    (hbook : State.badBook { s with time := { s.time with now := max s.time.now t },
                                    frame := { s.frame with counter := s.frame.counter + 1 } } = none) :
    ∃ s', exec (.frameOpen ssv t) s = .next s' ∧ s'.frame.counter = s.frame.counter + 1 ∧
      s'.frame.phase = .opened ∧ s'.frame.openTime = s.frame.nextOpen ∧
      s'.frame.frt = s.frame.t0s + s.frame.k * s.frame.conf.period * ticksPerUs ∧
      s'.frame.nextOpen = s.frame.nextOpen + conf.period * ticksPerUs ∧ s'.frame.conf = conf ∧
      s'.frame.pendingConf = none ∧ s'.frame.records = [] ∧ s'.frame.overrun = 0 ∧
      (∀ x ∈ s'.streams, x.guest = none ∧ x.query = none ∧ x.device = none) ∧
      (∀ x ∈ s'.clusters, x.cands = [] ∧ x.shortlists = [] ∧ x.sched.age = 0) ∧
      s'.part = s.part ∧ s'.flash = s.flash ∧ s'.aon = s.aon ∧ s'.mgmt = s.mgmt := by
  have hrow := frameOpen_runs (ssv := ssv) (t := t) hgrid hphase hfault hcfw htime
  have htimes := State.openTimes_running (s := (s.at t).atSsv ssv) hgrid
  have hbalance : ((s.at t).atSsv ssv).openTimes.badBook = none := by
    rw [htimes]
    exact (State.badBook_congr rfl rfl rfl).trans hbook
  obtain ⟨hpart, hflash, haon, hmgmt, hstreams, hclusters, hframe⟩ := State.openBalanced_begins hbalance
  rw [htimes] at hpart hflash haon hmgmt hframe
  generalize ((s.at t).atSsv ssv).openBalanced = z at *
  subst hconf
  refine ⟨_, hrow, (congrArg Frame.counter hframe :), (congrArg Frame.phase hframe :), (congrArg Frame.openTime hframe :),
    (congrArg Frame.frt hframe :), (congrArg Frame.nextOpen hframe :), (congrArg Frame.conf hframe :),
    (congrArg Frame.pendingConf hframe :), (congrArg Frame.records hframe :), (congrArg Frame.overrun hframe :), hstreams,
    hclusters, hpart, hflash, haon, hmgmt⟩

/-- A FRAME_OPEN that finds a book out of balance. -/
theorem frameOpen_audits (hgrid : s.frame.devState = 1) (hphase : s.frame.phase = .closed ∨ s.frame.phase = .guarded)
    (hfault : s.req.faultedOpen = false) (hcfw : s.boot.cfwUp = true) (htime : s.frame.nextOpen ≤ max s.time.now t) {b : Book}
    (hbook : State.badBook { s with time := { s.time with now := max s.time.now t },
                                    frame := { s.frame with counter := s.frame.counter + 1 } } = some b)
    (hroom : s.safety.latch.length < 32) :
    ∃ s', exec (.frameOpen ssv t) s = .next s' ∧ s'.req.faultedOpen = true ∧ s'.frame.phase = .closed ∧
      s'.frame.counter = s.frame.counter + 1 ∧ s'.faultLatched 0x0006 (max s.time.now t) := by
  have hrow := frameOpen_runs (ssv := ssv) (t := t) hgrid hphase hfault hcfw htime
  have htimes := State.openTimes_running (s := (s.at t).atSsv ssv) hgrid
  have hbad : ((s.at t).atSsv ssv).openTimes.badBook = some b := by
    rw [htimes]
    exact (State.badBook_congr rfl rfl rfl).trans hbook
  have hstep : ((s.at t).atSsv ssv).openBalanced = (((s.at t).atSsv ssv).openTimes.modFrame fun f =>
      { f with phase := .closed }).drainFault b := by
    unfold State.openBalanced
    dsimp only
    rw [hbad]
  rw [hstep, htimes] at hrow
  unfold State.drainFault at hrow
  generalize (if b.kind ≤ 4 then b.unit else 0xFF) = u at hrow
  generalize le 1 b.kind ++ le 1 b.stack ++ le 1 b.unit ++ [0] ++ le 4 b.want ++ le 4 b.found ++ zeros 4 = arg at hrow
  generalize hy : State.modReq (fun r => { r with faultedOpen := true }) _ = y at hrow
  have hreq : y.req.faultedOpen = true := hy ▸ rfl
  have hsteady : y.frame.phase = .closed ∧ y.frame.counter = s.frame.counter + 1 := hy ▸ ⟨rfl, rfl⟩
  have hlatch : y.safety.latch.length < 32 := hy ▸ hroom
  have hnow : y.time.now = max s.time.now t := hy ▸ rfl
  have hframe := State.detect_steady 0x0006 b.stack u 0xFF arg y
  have hfree := State.detect_onlyFault 0x0006 b.stack u 0xFF arg y
  have hlatched := State.detect_faultLatched hlatch 0x0006 b.stack u 0xFF arg
  generalize y.detect 0x0006 b.stack u 0xFF arg = z at *
  rw [hnow] at hlatched
  refine ⟨_, hrow, ?_, ?_, ?_, hlatched⟩
  · exact (congrArg (fun x : State => x.req.faultedOpen) hfree :).trans hreq
  · exact (congrArg Frame.phase hframe :).trans hsteady.1
  · exact (congrArg Frame.counter hframe :).trans hsteady.2

end
end Sys2Proof.Machine
end

section
/-!
SUPPORT. PUBLISH_END (R53, R56, R301).
-/
namespace Sys2Proof.Machine

/-- What the end of publish leaves, and the frame. -/
def State.publishView (s : State) := (s.frame, s.worlds, s.images, s.hbm, s.part, s.safety)

theorem State.AtEvents.publishView {s s' : State} (h : s.AtEvents s') : s'.publishView = s.publishView := by
  obtain ⟨pc, rs, ss, ho, l, rfl⟩ := h
  rfl

theorem State.capture_publishView (kind source slot w arrival : Nat) (p : List Byte) (s : State) :
    (s.capture kind source slot w arrival p).publishView = s.publishView := by
  unfold State.publishView
  simp

theorem State.modDet_publishView (f : Determinism → Determinism) (s : State) : (s.modDet f).publishView = s.publishView := rfl

theorem State.captureFrameEnd_publishView (s : State) : s.captureFrameEnd.publishView = s.publishView := by
  have hdigests : (if s.det.opDigest then
      s.capture 8 0 0xFF 0 s.time.now (s.det.opDigests.flatMap OpDigest.bytes) else s).publishView = s.publishView := by
    split
    · exact State.capture_publishView ..
    · rfl
  unfold State.captureFrameEnd
  dsimp only
  generalize (if s.det.opDigest then s.capture 8 0 0xFF 0 s.time.now (s.det.opDigests.flatMap OpDigest.bytes) else s) = y at hdigests ⊢
  split
  · exact hdigests
  · rw [apply_ite State.publishView, State.modDet_publishView, State.modDet_publishView, ite_self, State.capture_publishView, hdigests]

theorem State.ringVectors_publishView (s : State) : s.ringVectors.publishView = s.publishView :=
  (State.foldl_keeps State.publishView (fun (x : State) (r : Ring) => x.msixRaise r.fn (ringVec r.key))
    (fun x r => (State.msixRaise_atEvents r.fn (ringVec r.key) x).publishView) _ _).trans rfl

/-- The frame as an overrun of Exact mode leaves it. -/
def Frame.slipped (f : Frame) (now : Nat) : Frame :=
  { f with overrun := satU 32 (now - (f.openTime + f.conf.part 88 * ticksPerUs)), rakeAt := max f.rakeAt now,
           nextOpen := max f.rakeAt now + 30 * ticksPerUs }

/-- What the end of publish writes before it releases the shortlists. -/
def State.published (s : State) : State :=
  let s := s.slipGrid
  let d := s.frameDigest
  let s := s.modFrame fun f => { f with digest := d }
  let s := if s.frame.timingSlip then s.bumpHub 12 else s
  let s := s.captureFrameEnd
  (s.deviceEvent 1 0xFF s.frameEndEvent).ringVectors

theorem State.published_publishView (s : State) : ∃ d, s.published.publishView =
    ({ (if s.frame.conf.exact then s.frame.slipped s.time.now else s.frame) with digest := d }, s.worlds, s.images, s.hbm, s.part,
      s.safety) := by
  refine ⟨s.slipGrid.frameDigest, ?_⟩
  have hslip : s.slipGrid.publishView = (if s.frame.conf.exact then s.frame.slipped s.time.now else s.frame, s.worlds, s.images,
      s.hbm, s.part, s.safety) := by
    unfold State.slipGrid
    cases hexact : s.frame.conf.exact
    · rw [State.when_neg rfl]
      rfl
    · rw [State.when_pos rfl]
      rfl
  unfold State.published
  dsimp only
  generalize s.slipGrid.frameDigest = d
  rw [State.ringVectors_publishView, (State.deviceEvent_atEvents ..).publishView, State.captureFrameEnd_publishView]
  simp only [State.publishView, Prod.mk.injEq] at hslip
  obtain ⟨hframe, hworlds, himages, hhbm, hpart, hsafety⟩ := hslip
  rw [← hframe, ← hworlds, ← himages, ← hhbm, ← hpart, ← hsafety]
  split <;> rfl

/-- The shortlists released, and what no cluster has accepted dropped. -/
def State.unpublished (s : State) : State :=
  (s.releaseLists none).dropLeftTasks.modFrame fun f => { f with phase := .published }

theorem State.unpublished_parts (s : State) : s.unpublished.publishView =
      ({ s.frame with phase := .published }, s.worlds, s.images, s.hbm, s.part, s.safety) ∧
    (∀ c ∈ s.unpublished.clusters, c.shortlists = [] ∧ c.tallies = []) ∧
    ∀ x ∈ s.unpublished.streams, x.device = none ∧ x.treeNodes = [] := by
  refine ⟨?_, fun c hc => ?_, fun x hx => ?_⟩
  · unfold State.unpublished State.dropLeftTasks State.releaseLists State.publishView
    simp
  · obtain ⟨c1, hc1, rfl⟩ := List.mem_map.mp hc
    obtain ⟨c2, -, rfl⟩ := List.mem_map.mp hc1
    exact ⟨rfl, rfl⟩
  · obtain ⟨y, -, rfl⟩ := List.mem_map.mp hx
    exact ⟨rfl, rfl⟩

section
variable {s : State} {t : Nat}

theorem publishEnd_closes (hphase : s.frame.phase = .afterHarvest) (hgrid : s.gridRuns = true)
    (hall : ∀ x ∈ s.streams, s.publishes x = true → x.committed = true) :
    ∃ s', exec (.publishEnd t) s = .next s' ∧ s'.frame.phase = .published ∧
      (∀ x ∈ s'.clusters, x.shortlists = [] ∧ x.tallies = []) ∧
      (∀ x ∈ s'.streams, x.device = none ∧ x.treeNodes = []) ∧
      (s.frame.conf.exact = false → s'.frame.rakeAt = s.frame.rakeAt ∧ s'.frame.nextOpen = s.frame.nextOpen) ∧
      (s.frame.conf.exact = true → s'.frame.rakeAt = max s.frame.rakeAt (max s.time.now t) ∧
        s'.frame.nextOpen = max s.frame.rakeAt (max s.time.now t) + 30 * ticksPerUs ∧
        s'.frame.overrun = min (2 ^ 32 - 1) (max s.time.now t -
          (s.frame.openTime + 88 * s.frame.conf.period / 100 * ticksPerUs))) ∧
      s'.worlds = s.worlds ∧ s'.images = s.images ∧ s'.hbm = s.hbm ∧ s'.part = s.part ∧ s'.safety = s.safety := by
  have hrow := (exec_publishEnd t s).trans (ranAt_pos rfl ..)
  have hcond : ((s.at t).harvesting && (s.at t).streams.all fun x => !(s.at t).publishes x || x.committed) = true := by
    rw [State.harvesting_at hphase hgrid, Bool.true_and]
    refine List.all_eq_true.mpr fun x hx => ?_
    cases hp : (s.at t).publishes x
    · rfl
    · rw [hall x hx hp]
      rfl
  have hstep : (s.at t).publishEnd = (s.at t).published.unpublished.gateAll := State.when_pos hcond _ _
  rw [hstep] at hrow
  obtain ⟨d, hview⟩ := (s.at t).published_publishView
  have hgated := (s.at t).published.unpublished.gateAll_gated
  obtain ⟨hfour, hclusters, hstreams⟩ := (s.at t).published.unpublished_parts
  generalize (s.at t).published.unpublished = y at hgated hfour hclusters hstreams hrow
  obtain ⟨l, ks, m, hrest⟩ := hgated.rest
  simp only [State.publishView, Prod.mk.injEq] at hview hfour
  obtain ⟨hframe, hworlds, himages, hhbm, hpart, hsafety⟩ := hview
  obtain ⟨hframe', hworlds', himages', hhbm', hpart', hsafety'⟩ := hfour
  rw [hframe] at hframe'
  have hlast : y.gateAll.frame = y.frame := by rw [hrest]
  refine ⟨_, hrow, ?_, fun x hx => ?_, fun x hx => ?_, fun hexact => ?_, fun hexact => ?_, ?_, ?_, ?_, ?_, ?_⟩
  · change y.gateAll.frame.phase = _
    rw [hlast, hframe']
  · have hin : x.ungated ∈ y.clusters.map Cluster.ungated := hgated.clusters ▸ List.mem_map_of_mem hx
    obtain ⟨c, hc, hxc⟩ := List.mem_map.mp hin
    obtain ⟨hlists, htallies⟩ := hclusters c hc
    exact ⟨(congrArg Cluster.shortlists hxc :).symm.trans hlists, (congrArg Cluster.tallies hxc :).symm.trans htallies⟩
  · have hsame : y.gateAll.streams = y.streams := by rw [hrest]
    exact hstreams x (hsame ▸ hx)
  · change y.gateAll.frame.rakeAt = _ ∧ y.gateAll.frame.nextOpen = _
    rw [hlast, hframe', show (s.at t).frame.conf.exact = false from hexact]
    exact ⟨rfl, rfl⟩
  · change y.gateAll.frame.rakeAt = _ ∧ y.gateAll.frame.nextOpen = _ ∧ y.gateAll.frame.overrun = _
    rw [hlast, hframe', show (s.at t).frame.conf.exact = true from hexact]
    refine ⟨rfl, rfl, ?_⟩
    exact Nat.min_comm ..
  all_goals rw [hrest]
  · exact hworlds'.trans hworlds
  · exact himages'.trans himages
  · exact hhbm'.trans hhbm
  · exact hpart'.trans hpart
  · exact hsafety'.trans hsafety

end
end Sys2Proof.Machine
end

section
/-!
SUPPORT. RAKE_START (R250, R251, R407).
-/
namespace Sys2Proof.Machine

/-! ## What the slice's task leaves of memories and streams -/

/-- The memories, the worlds, the streams and the number of clusters. -/
def State.rakeKept (s : State) := (s.sram, s.hbm, s.worlds, s.streams, s.clusters.length)

theorem State.modCl_rakeKept (p : Nat) (f : Cluster → Cluster) (s : State) : (s.modCl p f).rakeKept = s.rakeKept := by
  unfold State.rakeKept
  rw [State.clusters_length_modCl]
  rfl

theorem State.trace_rakeKept (b source kind : Nat) (body : List Byte) (s : State) (layer op : Nat) :
    (s.trace b source kind body layer op).rakeKept = s.rakeKept := by
  unfold State.rakeKept
  simp

theorem State.selEvent_rakeKept (scope inst event qual layer op k : Nat) (s : State) :
    (s.selEvent scope inst event qual layer op k).rakeKept = s.rakeKept := by
  have hlen := State.clusters_length_of_still (State.selEvent_stillCls scope inst event qual layer op k s)
  unfold State.rakeKept
  rw [hlen]
  simp

theorem State.newTask_rakeKept (k : Nat) (d : TaskDesc) (s : State) : (s.newTask k d).rakeKept = s.rakeKept := by
  unfold State.rakeKept
  simp

theorem State.refuseTask_rakeKept (p : Nat) (d : TaskDesc) (producer : Nat) (reserved : Bool) (s : State) :
    (s.refuseTask p d producer reserved).rakeKept = s.rakeKept := by
  have htrace : ((s.bumpCl p 10).traceTask p 3 d (taskStruct d) producer (flag reserved 0)).rakeKept = s.rakeKept :=
    (State.trace_rakeKept ..).trans (State.modCl_rakeKept ..)
  unfold State.refuseTask
  dsimp only
  generalize (s.bumpCl p 10).traceTask p 3 d (taskStruct d) producer (flag reserved 0) = y at htrace ⊢
  split
  · obtain ⟨⟨b, n, l, hl⟩, -⟩ := State.timingEvent_leaves 8 (stackOf p) p (y.fresh.1.toNat % 2 ^ 32) y.fresh.2
    rw [hl]
    exact htrace
  · exact htrace

theorem State.enter_rakeKept (p seat : Nat) (d : TaskDesc) (producer : Nat) (s : State) :
    (s.enter p seat d producer).rakeKept = s.rakeKept :=
  (State.trace_rakeKept ..).trans ((State.modCl_rakeKept ..).trans (State.modCl_rakeKept ..))

/-- The acceptance of the rake's task writes no stream. -/
theorem State.offerTaken_rakeKept (p release : Nat) (s : State) :
    (State.offerTaken p (safetyDesc .rake release) s).rakeKept = s.rakeKept := by
  have haff (y : State) : y.noteAffinity p (safetyDesc .rake release) = y := if_pos (by simp [safetyDesc])
  have hzero (y : State) : y.noteBlock0 p (safetyDesc .rake release) = y := if_neg (by simp [safetyDesc])
  have hissue (y : State) : y.issueCopy p (safetyDesc .rake release) = y := by
    unfold State.issueCopy
    split
    · rfl
    · exact if_neg (by simp [safetyDesc])
  unfold State.offerTaken
  rw [haff, hzero, hissue]
  exact (State.modCl_rakeKept ..).trans rfl

theorem State.sliceOffered_rakeKept (p release : Nat) (s : State) : (s.sliceOffered p .rake release).rakeKept = s.rakeKept := by
  have hnew := State.newTask_rakeKept (stackOf p) (safetyDesc .rake release) s
  unfold State.sliceOffered
  generalize s.newTask (stackOf p) (safetyDesc .rake release) = y at hnew ⊢
  split
  · refine Eq.trans ?_ hnew
    rw [State.offerTo_eq]
    split
    · rfl
    · unfold State.admitTask
      dsimp only
      split
      · exact (rfl : (State.offerKept _ _ _).rakeKept = State.rakeKept _).trans (State.refuseTask_rakeKept ..)
      · split
        · exact (rfl : (State.offerKept _ _ _).rakeKept = State.rakeKept _).trans (State.refuseTask_rakeKept ..)
        · exact (State.offerTaken_rakeKept ..).trans (State.enter_rakeKept ..)
  · exact hnew

theorem State.release_rakeKept (p : Nat) (h : Held) (s : State) : (s.release p h).rakeKept = s.rakeKept := by
  unfold State.release State.when_
  dsimp only
  split
  · exact (State.selEvent_rakeKept ..).trans ((State.trace_rakeKept ..).trans
      ((State.modCl_rakeKept ..).trans (State.modCl_rakeKept ..)))
  · rfl

theorem State.takeFree_rakeKept (p unit : Nat) (s : State) : (s.takeFree p unit).rakeKept = s.rakeKept := by
  have hdispatch : (s.dispatch p unit).rakeKept = s.rakeKept := by
    unfold State.dispatch
    split
    · rfl
    · dsimp only
      split
      · exact (State.modCl_rakeKept ..).trans
          ((State.selEvent_rakeKept ..).trans ((State.trace_rakeKept ..).trans (State.modCl_rakeKept ..)))
      · exact (State.selEvent_rakeKept ..).trans ((State.trace_rakeKept ..).trans (State.modCl_rakeKept ..))
  unfold State.takeFree State.when_
  dsimp only
  split
  · exact hdispatch
  · rfl

theorem State.safetyTask_rakeKept (p release : Nat) (s : State) : (s.safetyTask p .rake release).rakeKept = s.rakeKept := by
  rw [State.safetyTask_eq, State.takeFree_rakeKept, State.foldl_keeps State.rakeKept _ (fun x h => State.release_rakeKept p h x),
    State.sliceOffered_rakeKept]

theorem State.modStk_rakeKept (k : Nat) (f : Stack → Stack) (s : State) : (s.modStk k f).rakeKept = s.rakeKept := rfl

theorem State.rakeStack_rakeKept (s : State) (k : Nat) : (s.rakeStack k).rakeKept = s.rakeKept := by
  unfold State.rakeStack
  split
  · rfl
  · split
    · rfl
    · exact (State.modStk_rakeKept ..).trans (State.safetyTask_rakeKept ..)

/-! ## The slice's task on an idle cluster -/

/-- A scheduler that holds nothing. -/
def Scheduler.isEmpty (x : Scheduler) : Prop := x.tasks = [] ∧ x.freed = [0, 0, 0] ∧ x.inHand = [0, 0, 0]

theorem Scheduler.isEmpty.lists {x : Scheduler} (h : x.isEmpty) : x.ms = [] ∧ x.rl = [] ∧ x.dl = [] ∧ x.running = [] := by
  obtain ⟨htasks, -⟩ := h
  simp only [Scheduler.tasks, List.append_eq_nil_iff, List.map_eq_nil_iff] at htasks
  obtain ⟨⟨⟨hms, hrl⟩, hdl⟩, hrun⟩ := htasks
  exact ⟨hms, hrl, hdl, hrun⟩

/-- The rake's task, held in the delay list. -/
def Scheduler.rakeHeld (x : Scheduler) (release : Nat) : Held := x.newHeld 2 (safetyDesc .rake release)

/-- The scheduler whose CC0 has the rake's task. -/
def Scheduler.raking (x : Scheduler) (release : Nat) : Scheduler :=
  ((x.entered 2 (safetyDesc .rake release)).released (x.rakeHeld release)).dispatched 4
    { x.rakeHeld release with task := { (x.rakeHeld release).task with release := 0 }, seat := 1 }

theorem safetyDesc_rake_struct {release : Nat} (h : 0 < release) : taskStruct (safetyDesc .rake release) = 2 := by
  simp [taskStruct, safetyDesc, h]

/-- The rake's task enters the empty delay list, and the ready list keeps room for it. -/
theorem Scheduler.isEmpty.entered {x : Scheduler} (h : x.isEmpty) {release : Nat} (hr : 0 < release) :
    0 < x.open_ 2 ∧ (x.entered 2 (safetyDesc .rake release)).rl = [] ∧
    (x.entered 2 (safetyDesc .rake release)).dl = [x.rakeHeld release] ∧
    (x.entered 2 (safetyDesc .rake release)).running = [] ∧
    0 < (x.entered 2 (safetyDesc .rake release)).room 1 true := by
  obtain ⟨hms, hrl, hdl, hrun⟩ := h.lists
  obtain ⟨htasks, hfreed, hhand⟩ := h
  have hstruct := safetyDesc_rake_struct hr
  have heq : x.entered 2 (safetyDesc .rake release) = { x with
      dl := x.dl ++ [x.rakeHeld release], nextEntry := x.nextEntry + 1, age := x.age + 1 } := by
    unfold Scheduler.entered
    rw [hstruct]
    rfl
  have htasks' : ({ x with dl := x.dl ++ [x.rakeHeld release], nextEntry := x.nextEntry + 1, age := x.age + 1 } : Scheduler).tasks =
      [x.rakeHeld release] := by
    simp [Scheduler.tasks, hms, hrl, hdl, hrun]
  have hextra : (x.rakeHeld release).extraSeat = 2 := hstruct
  have hseat : (x.rakeHeld release).seat = 2 := rfl
  refine ⟨?_, ?_, ?_, ?_, ?_⟩
  · simp [Scheduler.open_, Scheduler.freeIn, Scheduler.occupied, structEntries, htasks, hfreed, hhand, sumN]
  · rw [heq]
    exact hrl
  · rw [heq, hdl]
    rfl
  · rw [heq]
    exact hrun
  · rw [heq]
    unfold Scheduler.room
    rw [if_pos (Bool.true_or _)]
    unfold Scheduler.open_ Scheduler.freeIn Scheduler.occupied
    rw [htasks']
    change 0 < _ - _ - x.freed.getD 1 0
    rw [hfreed]
    simp [hextra, hseat, structEntries, hhand, sumN]

section
variable {s : State} {p : Nat}

/-- The slice's safety task on an idle cluster of an idle stack: CC0 has it. -/
theorem State.safetyTask_raking (hp : p < 64) (hlen : p < s.clusters.length) (hstks : stackOf p < s.stks.length)
    (hphase : s.frame.phase = .published) (hempty : (s.cl p).sched.isEmpty) (hdisp : (s.stk (stackOf p)).dispatcher = [])
    (hlist : (s.stk (stackOf p)).taskList = []) {release : Nat} (hr : 0 < release)
    (hdue : s.frame.openTime + release * ticksPerUs ≤ s.time.now) :
    ∃ c, c.sched = (s.cl p).sched.raking release ∧
      s.Becomes p c ((s.stks.modify (stackOf p) (Stack.queued (safetyDesc .rake release))).modify (stackOf p)
        (Stack.given (safetyDesc .rake release))) s.streams (s.safetyTask p .rake release) := by
  obtain ⟨hopen, hrl, hdl, hrun, hroom⟩ := hempty.entered hr
  have hstruct := safetyDesc_rake_struct hr
  have hbar (d : TaskDesc) : s.barred p d = false := by
    unfold State.barred State.assayHolds State.rakeHolds
    rw [hphase]
    rfl
  have hself := State.becomes_self hlen
  have hoff := hself.sliceOffered hp (.inr rfl) release hstks (by
    intro q hq
    rw [show s.stks.getD (stackOf p) {} = s.stk (stackOf p) from rfl, hdisp] at hq
    cases hq) (by
    intro d hd
    rw [show s.stks.getD (stackOf p) {} = s.stk (stackOf p) from rfl, hlist] at hd
    cases hd) (by
    rw [show s.stks.getD (stackOf p) {} = s.stk (stackOf p) from rfl, hdisp]
    decide) (hbar _) (by rw [hstruct]; exact hopen)
  rw [hstruct] at hoff
  have hsched : ((s.sliceOffered p .rake release).cl p).sched = (s.cl p).sched.entered 2 (safetyDesc .rake release) := hoff.sched
  have hfilter : (((s.sliceOffered p .rake release).cl p).sched.dl.filter fun h => h.task.op == .rake) =
      [(s.cl p).sched.rakeHeld release] := by
    rw [hsched, hdl]
    have hop : ((s.cl p).sched.rakeHeld release).task.op = .rake := by
      unfold Scheduler.rakeHeld Scheduler.newHeld agedTask
      dsimp only
      split <;> rfl
    simp [hop]
  have hheld : ((s.cl p).sched.rakeHeld release).task.release = release ∧ ((s.cl p).sched.rakeHeld release).task.safety = true ∧
      ((s.cl p).sched.rakeHeld release).task.unit = 4 := by
    unfold Scheduler.rakeHeld Scheduler.newHeld agedTask
    dsimp only
    split <;> exact ⟨rfl, rfl, rfl⟩
  obtain ⟨hrelease, hsafety, hunit⟩ := hheld
  have hreleased := hoff.release (h := (s.cl p).sched.rakeHeld release) hp (by rw [hrelease]; exact hdue) (.inr (by
    rw [hsafety]
    exact hroom))
  obtain ⟨-, hready⟩ := Scheduler.released_parts ((s.cl p).sched.entered 2 (safetyDesc .rake release))
    ((s.cl p).sched.rakeHeld release)
  have hidle : (((s.cl p).sched.entered 2 (safetyDesc .rake release)).released ((s.cl p).sched.rakeHeld release)).running = [] := by
    unfold Scheduler.released
    split
    · exact hrun
    · exact hrun
  have htake := hreleased.takeFree hp (unit := 4) (e := { (s.cl p).sched.rakeHeld release with
      task := { ((s.cl p).sched.rakeHeld release).task with release := 0 }, seat := 1 }) (fun r hin => by
    have hnil : r ∈ ([] : List (Nat × Held)) := hidle ▸ hin
    cases hnil) (Scheduler.firstFor_append (e := { (s.cl p).sched.rakeHeld release with
      task := { ((s.cl p).sched.rakeHeld release).task with release := 0 }, seat := 1 })
      (x := (s.cl p).sched.entered 2 (safetyDesc .rake release)) (fun y hy => by
      rw [hrl] at hy
      cases hy) hunit hready) (hbar _)
  rw [State.safetyTask_eq, hfilter]
  exact ⟨_, Cluster.dispatched_sched .., htake⟩

end
end Sys2Proof.Machine
end

section
/-!
SUPPORT. The rake slice of the four stacks (R250, R251, R407).
-/
namespace Sys2Proof.Machine

/-- A stack's rake target runs the slice's task, and the stack's dispatcher input is empty. -/
def State.rakes (k p : Nat) (s : State) : Prop :=
  (s.stk k).rakeTarget = some p ∧ (s.stk k).dispatcher = [] ∧
    ∃ h, (s.cl p).sched.running = [(4, h)] ∧ h.task.op = .rake ∧ h.task.safety = true

theorem State.rakes_congr {k p : Nat} {s s' : State} (hs : s.rakes k p) (hk : (s'.stk k).booked = (s.stk k).booked)
    (hc : s'.cl p = s.cl p) : s'.rakes k p := by
  obtain ⟨htarget, hdisp, hrun⟩ := hs
  refine ⟨(congrArg Stack.rakeTarget hk :).trans htarget, (congrArg Stack.dispatcher hk :).trans hdisp, ?_⟩
  rw [hc]
  exact hrun

/-- The rake slice has begun on the stacks of a list. -/
structure State.Raked (done : List Nat) (s s' : State) : Prop where
  rest : ∃ l ks o n, s' = { s with clusters := l, stks := ks, obs := o, safety := { s.safety with rakeDeferrals := n } }
  clusterCount : s'.clusters.length = s.clusters.length
  stackCount : s'.stks.length = s.stks.length
  clusters : ∀ p, stackOf p ∉ done → s'.cl p = s.cl p
  books : ∀ k, k ∉ done → (s'.stk k).booked = (s.stk k).booked
  given : ∀ k ∈ done, ∀ p, s.rakeTargetOf k s.frame.counter = some p → s.rakeBusy p = false → s'.rakes k p

theorem State.raked_nil (s : State) : State.Raked [] s s :=
  ⟨⟨_, _, _, s.safety.rakeDeferrals, rfl⟩, rfl, rfl, fun _ _ => rfl, fun _ _ => rfl, fun _ h => by cases h⟩

/-- CC0 of an empty scheduler runs the rake's task alone. -/
theorem Scheduler.isEmpty.raking_running {x : Scheduler} (h : x.isEmpty) {release : Nat} (hr : 0 < release) :
    ∃ e, (x.raking release).running = [(4, e)] ∧ e.task.op = .rake ∧ e.task.safety = true := by
  obtain ⟨-, -, -, hrun, -⟩ := h.entered hr
  have hidle : ((x.entered 2 (safetyDesc .rake release)).released (x.rakeHeld release)).running = [] := by
    unfold Scheduler.released
    split
    · exact hrun
    · exact hrun
  refine ⟨_, congrArg (· ++ [_]) hidle, ?_⟩
  unfold Scheduler.rakeHeld Scheduler.newHeld agedTask
  dsimp only
  split <;> exact ⟨rfl, rfl⟩

/-- A rake target lies in its stack. -/
theorem State.rakeTargetOf_stack {s : State} {k p : Nat} {n : BitVec 32} (h : s.rakeTargetOf k n = some p) :
    p < 64 ∧ stackOf p = k := by
  have hmem : p ∈ s.enabledIn k := by
    unfold State.rakeTargetOf at h
    dsimp only at h
    split at h
    · cases h
    · exact List.mem_reverse.mp (List.mem_of_getElem? h)
  obtain ⟨hin, hstack⟩ := List.mem_filter.mp hmem
  exact ⟨List.mem_range.mp (List.mem_filter.mp hin).1, beq_iff_eq.mp hstack⟩

section
variable {s x : State} {done : List Nat} {k : Nat}

/-- What is said of the stacks of a list holds behind a step that leaves them. -/
theorem State.Raked.kept (h : State.Raked done s x) {y : State} (hne : k ∉ done)
    (hrest : ∃ l ks o n, y = { x with clusters := l, stks := ks, obs := o, safety := { x.safety with rakeDeferrals := n } })
    (hcount : y.clusters.length = x.clusters.length) (hstacks : y.stks.length = x.stks.length)
    (hcl : ∀ p, stackOf p ≠ k → y.cl p = x.cl p) (hbooks : ∀ j, j ≠ k → (y.stk j).booked = (x.stk j).booked)
    (hgiven : ∀ p, s.rakeTargetOf k s.frame.counter = some p → s.rakeBusy p = false → y.rakes k p) :
    State.Raked (k :: done) s y := by
  obtain ⟨l, ks, o, n, hx⟩ := h.rest
  obtain ⟨l', ks', o', n', hy⟩ := hrest
  refine ⟨⟨l', ks', o', n', ?_⟩, hcount.trans h.clusterCount, hstacks.trans h.stackCount, fun p hp => ?_, fun j hj => ?_,
    fun j hj p htarget hbusy => ?_⟩
  · rw [hy, hx]
  · obtain ⟨hpk, hpd⟩ := not_or.mp fun hor => hp (List.mem_cons.mpr hor)
    exact (hcl p hpk).trans (h.clusters p hpd)
  · obtain ⟨hjk, hjd⟩ := not_or.mp fun hor => hj (List.mem_cons.mpr hor)
    exact (hbooks j hjk).trans (h.books j hjd)
  · rcases List.mem_cons.mp hj with rfl | hd
    · exact hgiven p htarget hbusy
    · have hjk : j ≠ k := fun he => hne (he ▸ hd)
      exact State.rakes_congr (h.given j hd p htarget hbusy) (hbooks j hjk) (hcl p ((State.rakeTargetOf_stack htarget).2 ▸ hjk))

/-- The rake slice begins on one more stack. -/
theorem State.Raked.next (h : State.Raked done s x) (hk : k < 4) (hne : k ∉ done) (hclusters : s.clusters.length = 64)
    (hstks : s.stks.length = 4) (hphase : s.frame.phase = .published) (hrake : s.frame.rakeAt ≤ s.time.now)
    (hfirst : s.frame.openTime + ticksPerUs ≤ s.time.now)
    (hidle : ∀ p, s.rakeTargetOf k s.frame.counter = some p → s.rakeBusy p = true ∨
      (s.cl p).sched.isEmpty ∧ (s.stk k).dispatcher = [] ∧ (s.stk k).taskList = []) :
    State.Raked (k :: done) s (x.rakeStack k) := by
  have hsame : x.rakeTargetOf k x.frame.counter = s.rakeTargetOf k s.frame.counter ∧ x.rakeTick = s.rakeTick ∧
      x.frame = s.frame ∧ x.time = s.time := by
    obtain ⟨l, ks, o, n, hx⟩ := h.rest
    rw [hx]
    exact ⟨rfl, rfl, rfl, rfl⟩
  obtain ⟨htarget, htick, hframe, htime⟩ := hsame
  unfold State.rakeStack
  rw [htarget, htick]
  cases hp : s.rakeTargetOf k s.frame.counter with
  | none => exact h.kept hne ⟨_, _, _, x.safety.rakeDeferrals, rfl⟩ rfl rfl (fun _ _ => rfl) (fun _ _ => rfl) (fun p hsome => by
      rw [hp] at hsome
      cases hsome)
  | some p =>
    obtain ⟨hp64, hstack⟩ := State.rakeTargetOf_stack hp
    have hcl : x.cl p = s.cl p := h.clusters p (hstack ▸ hne)
    have hbusy : x.rakeBusy p = s.rakeBusy p := by
      unfold State.rakeBusy
      rw [hcl]
    dsimp only
    rw [hbusy]
    cases hb : s.rakeBusy p
    · rw [if_neg Bool.false_ne_true]
      obtain ⟨hempty, hdisp, hlist⟩ := (hidle p hp).resolve_left (by rw [hb]; exact Bool.false_ne_true)
      have hbook := h.books k hne
      have hkx : stackOf p < x.stks.length := by
        rw [hstack, h.stackCount, hstks]
        exact hk
      have htickPos : 0 < s.rakeTick := by
        unfold State.rakeTick
        omega
      have hdue : x.frame.openTime + s.rakeTick * ticksPerUs ≤ x.time.now := by
        have hticks : s.rakeTick ≤ max 1 ((s.frame.rakeAt - s.frame.openTime) / ticksPerUs) := Nat.min_le_right ..
        have hdiv := Nat.div_mul_le_self (s.frame.rakeAt - s.frame.openTime) ticksPerUs
        rw [hframe, htime]
        rcases Nat.le_total ((s.frame.rakeAt - s.frame.openTime) / ticksPerUs) 1 with hone | hmore
        · rw [Nat.max_eq_left hone] at hticks
          have hmul := Nat.mul_le_mul_right ticksPerUs hticks
          omega
        · rw [Nat.max_eq_right hmore] at hticks
          have hmul := Nat.mul_le_mul_right ticksPerUs hticks
          have hpos : 0 < (s.frame.rakeAt - s.frame.openTime) / ticksPerUs * ticksPerUs :=
            Nat.mul_pos (by omega) (by decide)
          omega
      obtain ⟨c, hsched, hbecomes⟩ := State.safetyTask_raking (s := x) hp64 (by rw [h.clusterCount, hclusters]; exact hp64) hkx
        (by rw [hframe]; exact hphase) (by rw [hcl]; exact hempty)
        (by rw [hstack]; exact (congrArg Stack.dispatcher hbook :).trans hdisp)
        (by rw [hstack]; exact (congrArg Stack.taskList hbook :).trans hlist) htickPos hdue
      have hlast := hbecomes.stack (k := k) (f := fun y => { y with rakeTarget := some p }) (by intro; rfl)
      have hcount : (State.modStk k (fun y => { y with rakeTarget := some p }) (x.safetyTask p .rake s.rakeTick)).clusters.length =
          x.clusters.length := by
        have hkept := (State.modStk_rakeKept k (fun y => { y with rakeTarget := some p }) (x.safetyTask p .rake s.rakeTick)).trans
          (State.safetyTask_rakeKept p s.rakeTick x)
        simp only [State.rakeKept, Prod.mk.injEq] at hkept
        obtain ⟨-, -, -, -, hlen⟩ := hkept
        exact hlen
      generalize State.modStk k (fun y => { y with rakeTarget := some p }) (x.safetyTask p .rake s.rakeTick) = y at hlast hcount ⊢
      obtain ⟨l, ks, o, hy⟩ := hlast.rest
      rw [hstack] at hlast
      have hlen : y.stks.length = x.stks.length := by
        have hbooks := congrArg List.length hlast.books
        simpa using hbooks
      have hkx' : k < x.stks.length := hstack ▸ hkx
      have hgiven : (y.stk k).booked = ({ ((x.stks.getD k {}).queued (safetyDesc .rake s.rakeTick)).given
          (safetyDesc .rake s.rakeTick) with rakeTarget := some p } : Stack).booked := by
        have hstk := hlast.stk k
        rw [getD_modify_self (by simpa using hkx'), getD_modify_self (by simpa using hkx'), getD_modify_self hkx'] at hstk
        exact hstk
      refine h.kept hne ⟨l, ks, o, x.safety.rakeDeferrals, hy⟩ hcount hlen (fun q hq => hlast.others q fun he => hq (he ▸ hstack))
        (fun j hj => ?_) fun q hq hno => ?_
      · have hstk := hlast.stk j
        rw [getD_modify_ne hj.symm, getD_modify_ne hj.symm, getD_modify_ne hj.symm] at hstk
        exact hstk
      · rw [hp] at hq
        cases hq
        refine ⟨(congrArg Stack.rakeTarget hgiven :), (congrArg Stack.dispatcher hgiven :).trans ?_, ?_⟩
        · have hempty' : (x.stks.getD k {}).dispatcher = [] := (congrArg Stack.dispatcher hbook :).trans hdisp
          change replaceFirst _ none ((x.stks.getD k {}).dispatcher ++ [_]) = []
          rw [hempty']
          exact replaceFirst_append (l := []) _ (by intro q hq; cases hq)
        · have hrun := congrArg Scheduler.running (hlast.sched.trans hsched)
          rw [hcl] at hrun
          obtain ⟨e, he, hop⟩ := hempty.raking_running htickPos
          exact ⟨e, hrun.trans he, hop⟩
    · exact h.kept hne ⟨_, _, _, _, rfl⟩ rfl rfl (fun _ _ => rfl) (fun _ _ => rfl) (fun q hq hno => by
        rw [hp] at hq
        cases hq
        rw [hb] at hno
        cases hno)

end

section
variable {s : State} {t : Nat}

theorem rakeStart_begins (hclusters : s.clusters.length = 64) (hstks : s.stks.length = 4) (hphase : s.frame.phase = .published)
    (hgrid : s.gridRuns = true) (hrake : s.frame.rakeAt ≤ max s.time.now t) :
    ∃ s', exec (.rakeStart t) s = .next s' ∧ s'.frame.phase = .rake ∧ s'.sram = s.sram ∧ s'.hbm = s.hbm ∧
      s'.worlds = s.worlds ∧ s'.streams = s.streams ∧
      (s.frame.openTime + ticksPerUs ≤ max s.time.now t →
        (∀ k < 4, ∀ p, s.rakeTargetOf k s.frame.counter = some p → s.rakeBusy p = true ∨
          (s.cl p).sched.tasks = [] ∧ (s.cl p).sched.freed = [0, 0, 0] ∧ (s.cl p).sched.inHand = [0, 0, 0] ∧
            (s.stk k).dispatcher = [] ∧ (s.stk k).taskList = []) →
        (∀ k < 4, ∀ p, s.rakeTargetOf k s.frame.counter = some p → s.rakeBusy p = false →
          (s'.stk k).rakeTarget = some p ∧ (s'.stk k).dispatcher = [] ∧
          ∃ h, (s'.cl p).sched.running = [(4, h)] ∧ h.task.op = .rake ∧ h.task.safety = true) ∧
        { s' with time := s.time, frame := { s'.frame with phase := s.frame.phase }, stks := s.stks, clusters := s.clusters,
                  obs := s.obs, safety := { s'.safety with rakeDeferrals := s.safety.rakeDeferrals } } = s) := by
  have hrow := (exec_rakeStart t s).trans (ranAt_pos rfl ..)
  have hcond : ((s.at t).gridRuns && (s.at t).frame.phase == .published && decide ((s.at t).frame.rakeAt ≤ (s.at t).time.now)) =
      true := by
    rw [show (s.at t).gridRuns = true from hgrid, show (s.at t).frame.phase = .published from hphase,
      decide_eq_true (show (s.at t).frame.rakeAt ≤ (s.at t).time.now from hrake)]
    rfl
  have hstep : (s.at t).rakeStart = ([0, 1, 2, 3].foldl State.rakeStack (s.at t)).modFrame fun f => { f with phase := .rake } :=
    State.when_pos hcond _ _
  rw [hstep] at hrow
  have hkept : ([0, 1, 2, 3].foldl State.rakeStack (s.at t)).rakeKept = s.rakeKept :=
    State.foldl_keeps State.rakeKept _ State.rakeStack_rakeKept _ (s.at t)
  simp only [State.rakeKept, Prod.mk.injEq] at hkept
  obtain ⟨hsram, hhbm, hworlds, hstreams, -⟩ := hkept
  refine ⟨_, hrow, rfl, hsram, hhbm, hworlds, hstreams, fun hfirst hidle => ?_⟩
  have hnext {done : List Nat} {x : State} {k : Nat} (h : State.Raked done (s.at t) x) (hk : k < 4) (hne : k ∉ done) :
      State.Raked (k :: done) (s.at t) (x.rakeStack k) :=
    h.next hk hne hclusters hstks hphase hrake hfirst fun p hp => by
      rcases hidle k hk p hp with hbusy | ⟨htasks, hfreed, hhand, hdisp, hlist⟩
      · exact .inl hbusy
      · exact .inr ⟨⟨htasks, hfreed, hhand⟩, hdisp, hlist⟩
  have hall := hnext (hnext (hnext (hnext (s.at t).raked_nil (k := 0) (by decide) (by decide)) (k := 1) (by decide) (by decide))
    (k := 2) (by decide) (by decide)) (k := 3) (by decide) (by decide)
  change State.Raked [3, 2, 1, 0] (s.at t) ([0, 1, 2, 3].foldl State.rakeStack (s.at t)) at hall
  generalize [0, 1, 2, 3].foldl State.rakeStack (s.at t) = z at hall ⊢
  obtain ⟨l, ks, o, n, hz⟩ := hall.rest
  refine ⟨fun k hk p hp hbusy => hall.given k ?_ p hp hbusy, ?_⟩
  · have hcases : k = 3 ∨ k = 2 ∨ k = 1 ∨ k = 0 := by omega
    simpa using hcases
  · rw [hz]
    rfl

end
end Sys2Proof.Machine
end

section
/-!
SUPPORT. GUARD_START (R44, R53, R58, R260, R402), and the obligation on the open and the end of a frame.
-/
namespace Sys2Proof.Machine

/-! ## Drain records in the SRAM -/

theorem ofLE_le (n v : Nat) (h : v < 256 ^ n) : ofLE (le n v) = v := by
  induction n generalizing v with
  | zero => exact (Nat.lt_one_iff.mp h).symm
  | succ n ih =>
    have hdiv : v / 256 < 256 ^ n := Nat.div_lt_of_lt_mul (by rw [Nat.pow_succ, Nat.mul_comm] at h; exact h)
    rw [le, ofLE, ih _ hdiv, BitVec.toNat_ofNat]
    omega

/-- A drain record passes its CRC and names its frame. -/
theorem DrainRecord.bytes_ok (d : DrainRecord) : drainCrcOk d.bytes = true ∧ getU d.bytes 0 4 = d.frame.toNat := by
  unfold DrainRecord.bytes
  dsimp only
  generalize hb : le 4 d.frame.toNat ++ le 2 d.msFree ++ le 1 d.rlFree ++ le 1 d.dlFree ++ le 2 d.creditsOut ++
    le 2 (flag d.atGuard 0) = b
  have hlen : b.length = 12 := by simp [← hb, le_length]
  have hcrc : getU (b ++ le 4 (crc32c b)) 12 4 = crc32c b := by
    unfold getU
    rw [List.drop_left' hlen, List.take_of_length_le (by rw [le_length])]
    exact ofLE_le 4 _ (BitVec.isLt _)
  refine ⟨?_, ?_⟩
  · unfold drainCrcOk
    rw [hcrc, List.take_left' hlen]
    exact beq_self_eq_true _
  · have htake : (b ++ le 4 (crc32c b)).take 4 = le 4 d.frame.toNat := by
      rw [← hb]
      simp only [List.append_assoc]
      exact List.take_left' (le_length ..)
    unfold getU
    rw [List.drop_zero, htake]
    exact ofLE_le 4 _ d.frame.isLt

/-- The places of two clusters' drain records are apart. -/
theorem drainAddr_apart {p q : Nat} (hp : p < 64) (hq : q < 64) (h : p ≠ q) :
    drainAddr p + 16 ≤ drainAddr q ∨ drainAddr q + 16 ≤ drainAddr p := by
  unfold drainAddr storeAddr drainOffset stackOf
  omega

/-- A cluster's drain record of the frame stands, as its structures are if it is not gated. -/
def State.drained (p : Nat) (s : State) : Prop :=
  drainCrcOk (s.drainBytes p) = true ∧ getU (s.drainBytes p) 0 4 = s.frameNo ∧
    ((s.cl p).gate ≠ .powerGated → s.drainBytes p = (s.drainRecord p true).bytes)

/-- The guard's drain record of one cluster. -/
def State.guardDrain (s : State) (p : Nat) : State :=
  if (s.cl p).gate == .powerGated && (s.cl p).worked && drainCrcOk (s.drainBytes p) && getU (s.drainBytes p) 0 4 == s.frameNo then s
  else s.writeDrain p true

theorem State.writeDrain_drains {p : Nat} {s : State} (hwf : s.sram.wf = true) : (s.writeDrain p true).drained p ∧
    (s.writeDrain p true).sram.wf = true ∧ ∀ q, p < 64 → q < 64 → q ≠ p → (s.writeDrain p true).drainBytes q = s.drainBytes q := by
  have hlen := DrainRecord.bytes_length (s.drainRecord p true)
  have hbytes : (s.writeDrain p true).drainBytes p = (s.drainRecord p true).bytes := by
    have hread := Mem.readBytes_writeBytes (s.drainRecord p true).bytes (drainAddr p) s.sram hwf
    rw [hlen] at hread
    unfold State.drainBytes State.writeDrain
    generalize (s.drainRecord p true).bytes = bs at hread ⊢
    generalize drainAddr p = a at hread ⊢
    exact hread
  obtain ⟨hcrc, hframe⟩ := (s.drainRecord p true).bytes_ok
  have hrecord : (s.writeDrain p true).drainRecord p true = s.drainRecord p true := rfl
  have hsram : ∃ bs, bs.length = 16 ∧ (s.writeDrain p true).sram = Mem.writeBytes (drainAddr p) bs s.sram := by
    unfold State.writeDrain
    generalize (s.drainRecord p true).bytes = bs at hlen ⊢
    exact ⟨bs, hlen, rfl⟩
  obtain ⟨bs, hbs, hsram⟩ := hsram
  refine ⟨⟨?_, ?_, fun _ => hbytes.trans (congrArg DrainRecord.bytes hrecord.symm)⟩, ?_, fun q hp hq hne => ?_⟩
  · rw [hbytes]
    exact hcrc
  · rw [hbytes]
    exact hframe
  · rw [hsram]
    exact Mem.writeBytes_wf _ _ _ hwf
  · unfold State.drainBytes
    rw [hsram]
    refine Mem.readBytes_congr fun x hx hx' => Mem.read_writeBytes_out x bs _ _ hwf ?_
    have hapart := drainAddr_apart hp hq hne.symm
    omega

theorem State.guardDrain_drains {p : Nat} {s : State} (hwf : s.sram.wf = true) : (s.guardDrain p).drained p ∧
    (s.guardDrain p).sram.wf = true ∧ ∀ q, p < 64 → q < 64 → q ≠ p → (s.guardDrain p).drainBytes q = s.drainBytes q := by
  unfold State.guardDrain
  split
  · next hskip =>
    simp only [Bool.and_eq_true, beq_iff_eq] at hskip
    obtain ⟨⟨⟨hgate, -⟩, hcrc⟩, hframe⟩ := hskip
    exact ⟨⟨hcrc, hframe, fun hno => absurd hgate hno⟩, hwf, fun _ _ _ _ => rfl⟩
  · exact State.writeDrain_drains hwf

theorem State.guardDrain_rest (s : State) (p : Nat) : ∃ m, s.guardDrain p = { s with sram := m } := by
  unfold State.guardDrain
  split
  · exact ⟨_, rfl⟩
  · unfold State.writeDrain
    generalize (s.drainRecord p true).bytes = bs
    exact ⟨_, rfl⟩

theorem State.guardDrains_drain (l : List Nat) (s : State) (hwf : s.sram.wf = true) (hl : ∀ p ∈ l, p < 64) :
    ∀ p, p < 64 → p ∈ l ∨ s.drained p → (l.foldl State.guardDrain s).drained p := by
  induction l generalizing s with
  | nil => exact fun p _ h => h.elim (by simp) id
  | cons q l ih =>
    obtain ⟨hdrained, hwf', hkeep⟩ := State.guardDrain_drains (p := q) hwf
    intro p hp hone
    rw [List.foldl_cons]
    refine ih (s.guardDrain q) hwf' (fun x hx => hl x (List.mem_cons_of_mem q hx)) p hp ?_
    by_cases hpq : p = q
    · subst hpq
      exact .inr hdrained
    · rcases hone with hin | hstands
      · exact .inl ((List.mem_cons.mp hin).resolve_left hpq)
      · obtain ⟨hcrc, hframe, hrecord⟩ := hstands
        obtain ⟨m, hm⟩ := s.guardDrain_rest q
        have hbytes := hkeep p (hl q List.mem_cons_self) hp hpq
        have hsame : (s.guardDrain q).frameNo = s.frameNo ∧ (s.guardDrain q).cl p = s.cl p ∧
            (s.guardDrain q).drainRecord p true = s.drainRecord p true := by
          rw [hm]
          exact ⟨rfl, rfl, rfl⟩
        obtain ⟨hno, hcl, hsameRecord⟩ := hsame
        unfold State.drained
        rw [hbytes, hno, hcl, hsameRecord]
        exact .inr ⟨hcrc, hframe, hrecord⟩

theorem State.guardDrains_rest (s : State) : ∃ m, s.guardDrains = { s with sram := m } :=
  State.foldl_inv (fun x => ∃ m, x = { s with sram := m }) State.guardDrain (fun x p hx => by
    obtain ⟨m, rfl⟩ := hx
    exact State.guardDrain_rest _ p) s.enabledList s ⟨_, rfl⟩

/-! ## The slice's end -/

/-- The memory of a state stays canonical where gating writes. -/
theorem State.gateAll_wf {s : State} (h : s.sram.wf = true) : s.gateAll.sram.wf = true := by
  have hstop (x : State) (k : Nat) (hx : x.sram.wf = true) : (x.stopPll k).sram.wf = true := by
    obtain ⟨ks, hks, -⟩ := State.stopPll_leaves k x
    rw [hks]
    exact hx
  have hgate (x : State) (p : Nat) (hx : x.sram.wf = true) : (x.gateIdle p).sram.wf = true := by
    have hdrain : (if (x.cl p).worked then x.writeDrain p false else x).sram.wf = true := by
      split
      · exact Mem.writeBytes_wf _ _ _ hx
      · exact hx
    unfold State.gateIdle
    dsimp only
    split
    · exact hx
    · split
      · exact hstop _ _ hdrain
      · split <;> exact hx
  exact State.foldl_inv (fun x => x.sram.wf = true) _ hstop _ _ (State.foldl_inv (fun x => x.sram.wf = true) _ hgate _ s h)

/-- The end of the rake's item of a stack. -/
def State.rakeCutStack (s : State) (k : Nat) : State :=
  match (s.stk k).rakeTarget with
  | some p => (s.endSafety p .rake).deferRake.modStk k fun x => { x with rakeTarget := none }
  | none => s

theorem State.rakeCut_eq (s : State) : s.rakeCut = if ([0, 1, 2, 3].foldl State.rakeCutStack s).hubItemDone then
    [0, 1, 2, 3].foldl State.rakeCutStack s else ([0, 1, 2, 3].foldl State.rakeCutStack s).deferRake := rfl

/-- The rake's end writes clusters, stacks and the count of deferrals. -/
theorem State.rakeCut_rest (s : State) : ∃ l ks n,
    s.rakeCut = { s with clusters := l, stks := ks, safety := { s.safety with rakeDeferrals := n } } := by
  have hfold : ∃ l ks n, [0, 1, 2, 3].foldl State.rakeCutStack s = { s with clusters := l, stks := ks, safety := { s.safety with rakeDeferrals := n } } := by
    refine State.foldl_inv (fun x => ∃ l ks n,
      x = { s with clusters := l, stks := ks, safety := { s.safety with rakeDeferrals := n } }) _ (fun x k hx => ?_) _ s
      ⟨_, _, s.safety.rakeDeferrals, rfl⟩
    obtain ⟨l, ks, n, rfl⟩ := hx
    unfold State.rakeCutStack
    split
    · exact ⟨_, _, _, rfl⟩
    · exact ⟨_, _, _, rfl⟩
  obtain ⟨l, ks, n, hl⟩ := hfold
  rw [State.rakeCut_eq, hl]
  split
  · exact ⟨_, _, _, rfl⟩
  · exact ⟨_, _, _, rfl⟩

/-! ## Sessions that stop, and the device at the guard -/

/-- What the sessions' end leaves. -/
def State.guardKept (s : State) :=
  (s.frame, s.safety, s.req, s.streams, s.worlds, s.images, s.hbm, s.part, s.sram, s.clusters)

/-- The guard on one session. -/
def State.guardSession (s : State) (i : Nat) : State :=
  let s := s.modSes i fun x => { x with wholeDirty := false }
  if (s.ses i).stopping then
    ((s.mbx.cmds.filter fun c => c.opcode == 0x0205 && c.session == i && c.stage == .waiting && c.response.isNone).foldl
      (fun s c => s.accept c) (s.sesTo i 2 0x0205))
  else s

theorem State.guardSessions_eq (s : State) : s.guardSessions = (List.range 16).foldl State.guardSession s := rfl

theorem State.AtEvents.guardKept {s s' : State} (h : s.AtEvents s') : s'.guardKept = s.guardKept := by
  obtain ⟨pc, rs, ss, ho, l, rfl⟩ := h
  rfl

/-- A session at the guard: the step's outcome. -/
theorem State.guardSession_leaves (s : State) (i : Nat) : (s.guardSession i).guardKept = s.guardKept ∧
    (s.guardSession i).sessions.length = s.sessions.length ∧
    (∀ j, j ≠ i → ((s.guardSession i).ses j).core = (s.ses j).core) ∧
    (i < s.sessions.length → (s.ses i).stopping = true → ((s.guardSession i).ses i).state = 2) ∧
    ((s.ses i).state = 2 → ((s.guardSession i).ses i).state = 2) := by
  generalize hy : s.modSes i (fun x => { x with wholeDirty := false }) = y
  have hkept : y.guardKept = s.guardKept := hy ▸ rfl
  have hlen : y.sessions.length = s.sessions.length := by
    rw [← hy]
    simp
  have hne (j : Nat) (hj : j ≠ i) : y.ses j = s.ses j := by
    rw [← hy]
    exact getD_modify_ne hj.symm ..
  have hsame : (y.ses i).stopping = (s.ses i).stopping ∧ (y.ses i).state = (s.ses i).state := by
    rw [← hy]
    by_cases hi : i < s.sessions.length
    · have hget : (s.modSes i fun x => { x with wholeDirty := false }).ses i = { s.ses i with wholeDirty := false } :=
        getD_modify_self hi ..
      rw [hget]
      exact ⟨rfl, rfl⟩
    · have hget : (s.modSes i fun x => { x with wholeDirty := false }).ses i = s.ses i := by
        simp [State.ses, hi]
      rw [hget]
      exact ⟨rfl, rfl⟩
  obtain ⟨hstopping, hstate⟩ := hsame
  have hstep : s.guardSession i = if (y.ses i).stopping then
      ((y.mbx.cmds.filter fun c => c.opcode == 0x0205 && c.session == i && c.stage == .waiting && c.response.isNone).foldl
        (fun s c => s.accept c) (y.sesTo i 2 0x0205)) else y := by
    rw [← hy]
    rfl
  rw [hstep]
  generalize (y.mbx.cmds.filter fun c => c.opcode == 0x0205 && c.session == i && c.stage == .waiting && c.response.isNone) = l
  have hfold := State.foldl_keeps (fun x => (x.guardKept, x.sessions)) (fun (x : State) (c : Cmd) => x.accept c) (fun _ _ => rfl) l
    (y.sesTo i 2 0x0205)
  simp only [Prod.mk.injEq] at hfold
  obtain ⟨hfoldKept, hfoldSes⟩ := hfold
  have hses (j : Nat) : (l.foldl (fun (x : State) (c : Cmd) => x.accept c) (y.sesTo i 2 0x0205)).ses j = (y.sesTo i 2 0x0205).ses j :=
    congrArg (fun m : List Session => m.getD j {}) hfoldSes
  split
  · next hstop =>
    have hin : i < y.sessions.length := by
      by_contra hout
      have hdefault : y.ses i = {} := by simp [State.ses, Nat.le_of_not_lt hout]
      rw [hdefault] at hstop
      cases hstop
    have htwo := State.sesTo_state i 2 0x0205 y hin
    refine ⟨(hfoldKept.trans (State.sesTo_atEvents ..).guardKept).trans hkept, ?_, fun j hj => ?_, fun _ _ => ?_, fun _ => ?_⟩
    · rw [hfoldSes, State.sesTo_length, hlen]
    · rw [hses, State.sesTo_core, if_neg (fun h => hj h.1), hne j hj]
    · rw [hses, htwo]
    · rw [hses, htwo]
  · next hno =>
    refine ⟨hkept, hlen, fun j hj => congrArg Session.core (hne j hj), fun _ hs => absurd (hstopping.trans hs) hno, fun h2 => ?_⟩
    exact hstate.trans h2

/-- The sessions at the guard: those that stop are CONFIGURED, and nothing but sessions, mail and events changes. -/
theorem State.guardSessions_leaves (s : State) : s.guardSessions.guardKept = s.guardKept ∧
    ∀ i < 16, (s.ses i).stopping = true → (s.guardSessions.ses i).state = 2 := by
  rw [State.guardSessions_eq]
  refine ⟨State.foldl_keeps State.guardKept _ (fun x i => (x.guardSession_leaves i).1) _ s, fun i hi hstop => ?_⟩
  have hin : i < s.sessions.length := by
    by_contra hout
    have hdefault : s.ses i = {} := by simp [State.ses, Nat.le_of_not_lt hout]
    rw [hdefault] at hstop
    cases hstop
  have hfold : ∀ (l : List Nat) (x : State), i < x.sessions.length → (x.ses i).state = 2 ∨ (x.ses i).stopping = true ∧ i ∈ l →
      ((l.foldl State.guardSession x).ses i).state = 2 := by
    intro l
    induction l with
    | nil => exact fun x _ h => h.elim id (fun h => absurd h.2 (by simp))
    | cons j l ih =>
      intro x hlen h
      obtain ⟨-, hlen', hne, hstops, hstays⟩ := x.guardSession_leaves j
      refine ih _ (hlen'.symm ▸ hlen) ?_
      by_cases hij : i = j
      · subst hij
        exact .inl (h.elim hstays fun h => hstops hlen h.1)
      · have hcore := Session.core_fields (hne i hij)
        rcases h with h | ⟨h, hmem⟩
        · exact .inl (hcore.1.trans h)
        · refine .inr ⟨?_, (List.mem_cons.mp hmem).resolve_left hij⟩
          have hstopping := (congrArg Session.stopping (hne i hij) :)
          exact hstopping.trans h
  exact hfold (List.range 16) s hin (.inr ⟨hstop, List.mem_range.mpr hi⟩)

/-- Nothing waits for the guard start. -/
theorem State.guardDevice_idle {s : State} (h : s.req = {}) : s.guardDevice = s := by
  have hjudge : s.judgeStop = s := by
    unfold State.judgeStop
    rw [h]
    exact if_neg (fun h => absurd h.1 (by decide))
  unfold State.guardDevice
  dsimp only
  rw [hjudge, h]
  rfl

end Sys2Proof.Machine
end

section
/-!
SUPPORT. GUARD_START, and the obligation on the open and the end of a frame (R41, R42, R44, R53, R55, R56, R59, R402, R407).
-/
namespace Sys2Proof.Machine

/-- What the guard writes before it looks at the books. -/
def State.guarded (s : State) : State :=
  (s.rakeCut.modFrame fun f => { f with phase := .guarded }).gateAll.guardDrains

/-- The guard's start leaves all but clusters, stacks, the SRAM, the count of deferrals and the phase. -/
theorem State.guarded_rest (s : State) : ∃ l ks m n, s.guarded = { s with
    clusters := l, stks := ks, sram := m, safety := { s.safety with rakeDeferrals := n },
    frame := { s.frame with phase := .guarded } } := by
  obtain ⟨l, ks, n, hcut⟩ := s.rakeCut_rest
  unfold State.guarded
  rw [hcut]
  generalize hy : (State.modFrame _ _ : State) = y
  obtain ⟨l', ks', m', hgate⟩ := y.gateAll_gated.rest
  obtain ⟨m, hdrain⟩ := y.gateAll.guardDrains_rest
  refine ⟨l', ks', m, n, ?_⟩
  rw [hdrain, hgate, ← hy]
  rfl

/-- Behind it every enabled cluster's drain record stands. -/
theorem State.guarded_drained {s : State} (hwf : s.sram.wf = true) {p : Nat} (h : s.enabled p = true) : s.guarded.drained p := by
  obtain ⟨l, ks, n, hcut⟩ := s.rakeCut_rest
  have hp : p < 64 := by
    unfold State.enabled at h
    exact of_decide_eq_true (Bool.and_eq_true_iff.mp h).1
  unfold State.guarded
  generalize hy : s.rakeCut.modFrame (fun f => { f with phase := .guarded }) = y
  have hwfy : y.sram.wf = true := by
    rw [← hy, hcut]
    exact hwf
  have hpart : y.part = s.part := by
    rw [← hy, hcut]
    rfl
  obtain ⟨l', ks', m', hgate⟩ := y.gateAll_gated.rest
  have hpart' : y.gateAll.part = s.part := by
    rw [hgate]
    exact hpart
  have hin : p ∈ y.gateAll.enabledList := by
    have henabled : y.gateAll.enabled p = true := by
      unfold State.enabled at h ⊢
      rw [hpart']
      exact h
    exact List.mem_filter.mpr ⟨List.mem_range.mpr hp, henabled⟩
  exact State.guardDrains_drain y.gateAll.enabledList y.gateAll (State.gateAll_wf hwfy)
    (fun q hq => List.mem_range.mp (List.mem_filter.mp hq).1) p hp (.inl hin)

/-- A state whose drain record of a cluster stands, elsewhere. -/
theorem State.drained_congr {p : Nat} {s s' : State} (h : s.drained p) (hsram : s'.sram = s.sram) (hcl : s'.clusters = s.clusters)
    (hframe : s'.frame = s.frame) : s'.drained p := by
  have hbytes : s'.drainBytes p = s.drainBytes p := by
    unfold State.drainBytes
    rw [hsram]
  have hcluster : s'.cl p = s.cl p := congrArg (fun l : List Cluster => l.getD p {}) hcl
  have hrecord : s'.drainRecord p true = s.drainRecord p true := by
    unfold State.drainRecord
    rw [hcluster, hframe]
  have hno : s'.frameNo = s.frameNo := congrArg (fun f : Frame => f.counter.toNat) hframe
  unfold State.drained at h ⊢
  rw [hbytes, hcluster, hrecord, hno]
  exact h

/-- The one cluster that a list of one names. -/
theorem State.enabledList_only {s : State} {p : Nat} (h : s.enabled p = true) : s.enabledList.filter [p].contains = [p] := by
  have hp : p < 64 := by
    unfold State.enabled at h
    exact of_decide_eq_true (Bool.and_eq_true_iff.mp h).1
  have hin : p ∈ s.enabledList := List.mem_filter.mpr ⟨List.mem_range.mpr hp, h⟩
  have hnodup : s.enabledList.Nodup := List.nodup_range.filter _
  have hpred : [p].contains = fun q => q == p := by
    funext q
    rw [List.contains_cons]
    exact Bool.or_false _
  rw [hpred, List.filter_beq, List.count_eq_one_of_mem hnodup hin]
  rfl

/-- The pins go IDLE, and nothing else changes. -/
theorem State.guardPins_rest (s : State) : ∃ x, s.guardPins = { s with safety := x } := by
  unfold State.guardPins
  split
  · exact ⟨_, rfl⟩
  · exact ⟨_, rfl⟩

section
variable {s : State} {t : Nat}

/-- A GUARD_START that is due. -/
theorem guardStart_runs (bad : List Nat) (hbad : bad.all (fun p => below p 64) = true)
    (hphase : s.frame.phase = .published ∨ s.frame.phase = .rake) (hgrid : s.gridRuns = true)
    (htime : s.frame.rakeAt + 20 * ticksPerUs ≤ max s.time.now t) :
    exec (.guardStart ⟨bad, t⟩) s = .next { (((((s.at t).guarded.enabledList.filter bad.contains).foldl
      (fun s p => s.schedBook p) (s.at t).guarded).guardSessions).guardDevice).guardPins with pending := s.pending } := by
  have hrow := (exec_guardStart ⟨bad, t⟩ s).trans (ranAt_pos hbad ..)
  have hcond : ((s.at t).gridRuns && ((s.at t).frame.phase == .published || (s.at t).frame.phase == .rake) &&
      decide ((s.at t).frame.rakeAt + 20 * ticksPerUs ≤ (s.at t).time.now)) = true := by
    rw [show (s.at t).gridRuns = true from hgrid,
      decide_eq_true (show (s.at t).frame.rakeAt + 20 * ticksPerUs ≤ (s.at t).time.now from htime), Bool.and_true, Bool.true_and]
    rcases hphase with h | h
    · rw [show (s.at t).frame.phase = .published from h]
      rfl
    · rw [show (s.at t).frame.phase = .rake from h]
      rfl
  have hstep : State.guardStart bad (s.at t) = (((((s.at t).guarded.enabledList.filter bad.contains).foldl
      (fun s p => s.schedBook p) (s.at t).guarded).guardSessions).guardDevice).guardPins := by
    unfold State.guardStart
    dsimp only
    exact State.when_pos hcond _ _
  rw [← hstep]
  exact hrow

/-- A cluster whose identities do not hold is SCHED_BOOK (R260). -/
theorem guardStart_books (hphase : s.frame.phase = .published ∨ s.frame.phase = .rake) (hgrid : s.gridRuns = true)
    (htime : s.frame.rakeAt + 20 * ticksPerUs ≤ max s.time.now t) (hreq : s.req = {}) {p : Nat} (hp : s.enabled p = true)
    (hroom : s.safety.latch.length < 32) : ∃ s', exec (.guardStart ⟨[p], t⟩) s = .next s' ∧ s'.frame.phase = .guarded ∧
      s'.faultLatched 0x0007 (max s.time.now t) := by
  have hp64 : p < 64 := by
    unfold State.enabled at hp
    exact of_decide_eq_true (Bool.and_eq_true_iff.mp hp).1
  have hrow := guardStart_runs [p] (by simp [below, hp64]) hphase hgrid htime
  obtain ⟨l, ks, m, n, hrest⟩ := (s.at t).guarded_rest
  generalize (s.at t).guarded = y at hrest hrow
  have hall : y.part = s.part ∧ y.req = {} ∧ y.frame.phase = .guarded ∧ y.safety.latch = s.safety.latch ∧
      y.time.now = max s.time.now t := by
    rw [hrest]
    exact ⟨rfl, hreq, rfl, rfl, rfl⟩
  obtain ⟨hpart, hreqy, hphasey, hlatch, hnow⟩ := hall
  have henabled : y.enabled p = true := by
    unfold State.enabled at hp ⊢
    rw [hpart]
    exact hp
  rw [State.enabledList_only henabled] at hrow
  unfold State.schedBook at hrow
  dsimp only [List.foldl] at hrow
  generalize le 4 ((y.cl p).sched.freeIn 0) ++ le 4 ((y.cl p).sched.freeIn 1) ++ le 4 ((y.cl p).sched.freeIn 2) = arg at hrow
  have hlatched := State.detect_faultLatched (s := y) (by rw [hlatch]; exact hroom) 0x0007 (stackOf p) p 0xFF arg
  have hsteady := State.detect_steady 0x0007 (stackOf p) p 0xFF arg y
  have hfree := State.detect_onlyFault 0x0007 (stackOf p) p 0xFF arg y
  generalize y.detect 0x0007 (stackOf p) p 0xFF arg = z at *
  have hreqz : z.req = {} := (congrArg State.req hfree :).trans hreqy
  have hphasez : z.frame.phase = .guarded := (congrArg Frame.phase hsteady :).trans hphasey
  obtain ⟨hkept, -⟩ := z.guardSessions_leaves
  simp only [State.guardKept, Prod.mk.injEq] at hkept
  obtain ⟨hframe, hsafety, hreqw, -⟩ := hkept
  generalize z.guardSessions = w at *
  rw [State.guardDevice_idle (hreqw.trans hreqz)] at hrow
  have hpins : w.guardPins = w := by
    have hactive : w.safety.pinState = 2 := by
      rw [hsafety]
      obtain ⟨⟨hpinState, -⟩, -⟩ := hlatched
      exact hpinState
    exact if_neg fun h => absurd (hactive.symm.trans h.1) (by decide)
  rw [hpins] at hrow
  rw [hnow] at hlatched
  exact ⟨_, hrow, (congrArg Frame.phase hframe).trans hphasez, State.faultLatched.congr hlatched hsafety⟩

/-- A guard whose books all hold (R58, R402). -/
theorem guardStart_closes (hphase : s.frame.phase = .published ∨ s.frame.phase = .rake) (hgrid : s.gridRuns = true)
    (htime : s.frame.rakeAt + 20 * ticksPerUs ≤ max s.time.now t) (hreq : s.req = {}) :
    ∃ s', exec (.guardStart ⟨[], t⟩) s = .next s' ∧ s'.frame = { s.frame with phase := .guarded } ∧
      (s.sram.wf = true → ∀ p, s.enabled p = true → drainCrcOk (s'.drainBytes p) = true ∧
        getU (s'.drainBytes p) 0 4 = s.frameNo ∧
        ((s'.cl p).gate ≠ .powerGated → s'.drainBytes p = (s'.drainRecord p true).bytes)) ∧
      (∀ i < 16, (s.ses i).stopping = true → (s'.ses i).state = 2) ∧
      (s.safety.pinState = 1 → s'.classSRunning = false → s'.safety.pinState = 0 ∧ s'.safety.safeA = false ∧
        s'.safety.safeB = true) ∧
      s'.streams = s.streams ∧ s'.worlds = s.worlds ∧ s'.images = s.images ∧ s'.hbm = s.hbm ∧ s'.part = s.part := by
  have hrow := guardStart_runs (s := s) (t := t) [] rfl hphase hgrid htime
  have hnone : (s.at t).guarded.enabledList.filter ([] : List Nat).contains = [] := List.filter_eq_nil_iff.mpr fun _ _ => by simp
  rw [hnone] at hrow
  have hdrains : s.sram.wf = true → ∀ p, s.enabled p = true → (s.at t).guarded.drained p :=
    fun hwf p hp => State.guarded_drained (s := s.at t) hwf hp
  obtain ⟨l, ks, m, n, hrest⟩ := (s.at t).guarded_rest
  dsimp only [List.foldl] at hrow
  generalize (s.at t).guarded = y at hrest hrow hdrains
  have hall : y.req = {} ∧ y.frame = { s.frame with phase := .guarded } ∧ y.safety.pinState = s.safety.pinState ∧
      y.sessions = s.sessions ∧ y.streams = s.streams ∧ y.worlds = s.worlds ∧ y.images = s.images ∧ y.hbm = s.hbm ∧
      y.part = s.part := by
    rw [hrest]
    exact ⟨hreq, rfl, rfl, rfl, rfl, rfl, rfl, rfl, rfl⟩
  obtain ⟨hreqy, hframey, hpiny, hsesy, hstreamsy, hworldsy, himagesy, hhbmy, hparty⟩ := hall
  obtain ⟨hkept, hsessions⟩ := y.guardSessions_leaves
  simp only [State.guardKept, Prod.mk.injEq] at hkept
  obtain ⟨hframe, hsafety, hreqw, hstreams, hworlds, himages, hhbm, hpart, hsram, hclusters⟩ := hkept
  generalize y.guardSessions = w at *
  rw [State.guardDevice_idle (hreqw.trans hreqy)] at hrow
  obtain ⟨x, hpins⟩ := w.guardPins_rest
  have hidle : w.safety.pinState = 1 → w.classSRunning = false → w.guardPins.safety.pinState = 0 ∧
      w.guardPins.safety.safeA = false ∧ w.guardPins.safety.safeB = true := by
    intro hpin hclass
    have hgo : w.guardPins = w.modSafety fun x => { x with pinState := 0, safeA := false, safeB := true } :=
      if_pos ⟨hpin, by rw [hclass]; rfl⟩
    rw [hgo]
    exact ⟨rfl, rfl, rfl⟩
  refine ⟨_, hrow, ?_, fun hwf p hp => ?_, fun i hi hstop => ?_, fun hpin hclass => ?_, ?_⟩
  · change w.guardPins.frame = _
    rw [hpins]
    exact hframe.trans hframey
  · have hdrained : w.guardPins.drained p := State.drained_congr (hdrains hwf p hp) (by rw [hpins]; exact hsram)
      (by rw [hpins]; exact hclusters) (by rw [hpins]; exact hframe)
    obtain ⟨hcrc, hno, hrecord⟩ := hdrained
    refine ⟨hcrc, hno.trans ?_, hrecord⟩
    have hcounter : w.guardPins.frame = { s.frame with phase := .guarded } := by
      rw [hpins]
      exact hframe.trans hframey
    exact (congrArg (fun f : Frame => f.counter.toNat) hcounter :)
  · change (w.guardPins.ses i).state = 2
    rw [hpins]
    refine hsessions i hi ?_
    unfold State.ses
    rw [hsesy]
    exact hstop
  · have hclassw : w.classSRunning = false := by
      change w.guardPins.classSRunning = false at hclass
      rw [hpins] at hclass
      exact hclass
    exact hidle ((congrArg Safety.pinState hsafety).trans (hpiny.trans hpin)) hclassw
  · change w.guardPins.streams = _ ∧ w.guardPins.worlds = _ ∧ w.guardPins.images = _ ∧ w.guardPins.hbm = _ ∧ w.guardPins.part = _
    rw [hpins]
    exact ⟨hstreams.trans hstreamsy, hworlds.trans hworldsy, himages.trans himagesy, hhbm.trans hhbmy, hpart.trans hparty⟩

end

/-! ## The obligation -/

/-- Settles O31: FRAME_OPEN with its audit, and the end of a frame. -/
theorem frameOpensAndEnds : Obligations.FrameOpensAndEnds := by
  unfold Obligations.FrameOpensAndEnds
  refine ⟨fun s ssv t => ⟨frameOpen_waits, fun conf hgrid hphase hfault hcfw htime hconf => ⟨?_, fun b => ?_⟩⟩,
    fun s t hclusters hstks => ⟨publishEnd_closes, rakeStart_begins hclusters hstks, fun hphase hgrid htime hreq => ⟨fun p => ?_, ?_⟩⟩⟩
  · exact frameOpen_opens hgrid hphase hfault hcfw htime hconf
  · exact frameOpen_audits hgrid hphase hfault hcfw htime
  · exact guardStart_books hphase hgrid htime hreq
  · exact guardStart_closes hphase hgrid htime hreq

end Sys2Proof.Machine
end

section
/-!
SUPPORT. IMG_LOAD of rigs, networks and cost programs (R117, R125, R135, R138, R216, R336).
-/
namespace Sys2Proof.Machine

/-! ## Slots -/

theorem Images.slots_modSlot {kind : Nat} (hk : kind ∈ [1, 2, 3, 4]) (i : Nat) (f : SlotState → SlotState) (s : State) :
    (s.modSlot kind i f).images.slots kind = (s.images.slots kind).modify i f := by
  simp only [List.mem_cons, List.not_mem_nil, or_false] at hk
  rcases hk with rfl | rfl | rfl | rfl <;> rfl

/-- A slot's change leaves the images' contents. -/
theorem State.modSlot_rest (kind i : Nat) (f : SlotState → SlotState) (s : State) : ∃ w r n k,
    s.modSlot kind i f = { s with images := { s.images with worldSlots := w, rigSlots := r, netSlots := n, costSlots := k } } := by
  unfold State.modSlot
  split <;> exact ⟨_, _, _, _, rfl⟩

/-- A load that finds a slot finds one that there is. -/
theorem State.loadSlot_lt {s : State} {kind named i : Nat} (hn : named = 0xFF ∨ named < (s.images.slots kind).length)
    (h : s.loadSlot kind named = .inr i) : i < (s.images.slots kind).length := by
  unfold State.loadSlot at h
  dsimp only at h
  split at h
  · split at h
    · next hfind =>
      cases h
      exact List.mem_range.mp (List.mem_of_find?_eq_some hfind)
    · cases h
  · next hff =>
    split at h
    · cases h
    · cases h
      exact hn.resolve_left hff

/-! ## Copies in the stack stores -/

theorem State.storeCopies_rest (off : Nat) (bs : List Byte) (s : State) : s.storeCopies off bs = { s with
    sram := (List.range 4).foldl (fun m k => Mem.writeBytes (storeAddr k off) bs m) s.sram } := by
  have hfold : ∀ (l : List Nat) (x : State), l.foldl (fun s k => s.sramWrite (storeAddr k off) bs) x =
      { x with sram := l.foldl (fun m k => Mem.writeBytes (storeAddr k off) bs m) x.sram } := by
    intro l
    induction l with
    | nil => exact fun _ => rfl
    | cons k l ih =>
      intro x
      rw [List.foldl_cons, ih]
      rfl
  exact hfold _ s

theorem State.storeCopies_sram {s s' : State} (h : s'.sram = s.sram) (off : Nat) (bs : List Byte) :
    (s'.storeCopies off bs).sram = (s.storeCopies off bs).sram := by
  rw [State.storeCopies_rest, State.storeCopies_rest, h]

/-- The SRAM and the HBM behind the copies of an image. -/
def State.copiedSram (kind i : Nat) (p : List Byte) (s : State) : Mem :=
  if kind = 2 then (s.storeCopies (rigOffset i) p).sram
  else if kind = 4 then (s.storeCopies (costOffset i) p).sram else s.sram

@[inherit_doc State.copiedSram] def State.copiedHbm (kind i : Nat) (p : List Byte) (s : State) : Mem :=
  if kind = 3 ∧ (s.images.nets.getD i {}).resident = false then Mem.writeBytes (streamedAddr i) (sectionOf p 72 3) s.hbm else s.hbm

theorem State.copyImage_eq (kind i : Nat) (p : List Byte) (s : State) :
    s.copyImage kind i p = { s with sram := s.copiedSram kind i p, hbm := s.copiedHbm kind i p } := by
  unfold State.copyImage State.copiedSram State.copiedHbm
  by_cases h2 : kind = 2
  · rw [if_pos h2, if_pos h2, if_neg (by omega), State.storeCopies_rest]
  · rw [if_neg h2, if_neg h2]
    by_cases h4 : kind = 4
    · rw [if_pos h4, if_pos h4, if_neg (by omega), State.storeCopies_rest]
    · rw [if_neg h4, if_neg h4]
      by_cases hres : kind = 3 ∧ (s.images.nets.getD i {}).resident = false
      · rw [if_pos hres, if_pos ⟨hres.1, by rw [hres.2]; rfl⟩]
        rfl
      · rw [if_neg hres, if_neg fun h => hres ⟨h.1, by simpa using h.2⟩]

/-! ## The checks and the load -/

/-- The first of an image's own checks that fails. -/
def imageChecks (kind : Nat) (p : List Byte) : Option Nat :=
  if kind = 2 then rigChecks p
  else if kind = 3 then (match netChecks p with
    | .inl k => some k
    | .inr _ => none)
  else costChecks p

section
variable {c : Cmd} {kind named i k : Nat} {p : List Byte} {s : State}

theorem State.loadImage_refuses (h : imageChecks kind p = some k) : s.loadImage c kind named p = s.refuse c 0x0405 k := by
  unfold imageChecks at h
  unfold State.loadImage
  dsimp only
  by_cases h2 : kind = 2
  · rw [if_pos h2] at h ⊢
    rw [h]
  · rw [if_neg h2] at h ⊢
    by_cases h3 : kind = 3
    · rw [if_pos h3] at h ⊢
      cases hn : netChecks p with
      | inl j =>
        rw [hn] at h
        cases h
        rfl
      | inr n =>
        rw [hn] at h
        cases h
    · rw [if_neg h3] at h ⊢
      rw [h]

/-- An image that passes its checks goes where a slot is found. -/
theorem State.loadImage_passes (h : imageChecks kind p = none) : ∃ (f : Nat → Images → Images) (id : Nat),
    (∀ j m, ∃ r n o, f j m = { m with rigs := r, nets := n, costs := o }) ∧
    s.loadImage c kind named p = match s.loadSlot kind named with
      | .inl st => s.refuse c st
      | .inr i => ((s.modImages (f i)).copyImage kind i p).startCopy c kind i id p := by
  unfold imageChecks at h
  unfold State.loadImage
  dsimp only
  by_cases h2 : kind = 2
  · rw [if_pos h2] at h ⊢
    rw [h]
    exact ⟨fun i m => { m with rigs := m.rigs.set i (rigOf p) }, getU p 16 4, fun _ _ => ⟨_, _, _, rfl⟩, rfl⟩
  · rw [if_neg h2] at h ⊢
    by_cases h3 : kind = 3
    · rw [if_pos h3] at h ⊢
      cases hn : netChecks p with
      | inl j =>
        rw [hn] at h
        cases h
      | inr n => exact ⟨fun i m => { m with nets := m.nets.set i { n with
          weights := sectionOf p 72 3, resident := decide (s.residentBytes i + n.weightBytes ≤ 12582912) } }, n.netId,
          fun _ _ => ⟨_, _, _, rfl⟩, rfl⟩
    · rw [if_neg h3] at h ⊢
      rw [h]
      exact ⟨fun i m => { m with costs := m.costs.set i (costOf p) }, getU p 16 4, fun _ _ => ⟨_, _, _, rfl⟩, rfl⟩

/-- IMG_LOAD of a rig, network or cost image, its payload in order. -/
theorem bodyImgLoad_image (hlen : c.payload.length = 8) (h3 : allZero (slice c.payload 3 1) = true)
    (h6 : allZero (slice c.payload 6 2) = true) (hflags : getU c.payload 2 1 ≤ 1) (hpart : getU c.payload 4 2 = 0)
    (hk : kind ∈ [2, 3, 4]) (hkind : getU c.payload 0 1 = kind)
    (hslot : getU c.payload 1 1 = 0xFF ∨ getU c.payload 1 1 < (s.images.slots kind).length) :
    bodyImgLoad c s = match s.checkImage (bit (getU c.payload 2 1) 0) c.bulk with
      | .inl e => s.refuse c e.1 e.2
      | .inr p => s.loadImage c kind (getU c.payload 1 1) p := by
  have hbit : bit (getU c.payload 2 1) 1 = false := by
    have hcases : getU c.payload 2 1 = 0 ∨ getU c.payload 2 1 = 1 := by omega
    rcases hcases with h | h <;> rw [h] <;> rfl
  have hnamed : (getU c.payload 1 1 == 0xFF || decide (getU c.payload 1 1 < (s.images.slots kind).length)) = true := by
    simpa using hslot
  have hrange : inR kind 1 4 = true ∧ kind ≠ 1 := by
    simp only [List.mem_cons, List.not_mem_nil, or_false] at hk
    rcases hk with rfl | rfl | rfl <;> exact ⟨rfl, by decide⟩
  unfold bodyImgLoad
  dsimp only
  rw [State.shape_pos (by simpa using hlen) (by simp [h3, h6]), State.need_pos (by simp; omega), hkind,
    State.need_pos (by rw [hrange.1, hnamed]; rfl), if_neg hrange.2, State.need_pos (by rw [hpart, hbit]; rfl)] <;> rfl

end
end Sys2Proof.Machine
end

section
/-!
SUPPORT. The outcome of an IMG_LOAD of a rig, network or cost image.
-/
namespace Sys2Proof.Machine

/-- The state that a row runs its command on differs in time and determinism alone. -/
theorem State.taken_rest (s : State) (t : Nat) (c : Cmd) : ∃ d, s.taken t c = { s.at t with det := d } :=
  ⟨(s.taken t c).det, by apply State.ext_parts <;> simp [State.taken]⟩

/-- An image's signature step reads the part, the hub and the boot alone. -/
theorem State.checkImage_congr {s s' : State} (hpart : s'.part = s.part) (hhub : s'.hub = s.hub) (hboot : s'.boot = s.boot)
    (enc : Bool) (bs : List Byte) : s'.checkImage enc bs = s.checkImage enc bs := by
  unfold State.checkImage State.signerBad State.plainImage
  rw [hpart, hhub, hboot]

section
variable {s : State} {fn slot t : Nat} {c : Cmd} {kind i : Nat}

theorem State.checkImage_taken (enc : Bool) (bs : List Byte) : (s.taken t c).checkImage enc bs = s.checkImage enc bs := by
  exact State.checkImage_congr (State.taken_part ..) (State.taken_hub ..) (State.taken_boot ..) enc bs

theorem State.loadSlot_taken (named : Nat) : (s.taken t c).loadSlot kind named = s.loadSlot kind named := by
  obtain ⟨d, hd⟩ := s.taken_rest t c
  rw [hd]
  rfl

/-- An image whose copies begin: its slot, and what the start writes. -/
theorem startCopy_leaves (h : s.isReady 0x0301 fn slot c) (hk : kind ∈ [2, 3, 4]) (hi : i < (s.images.slots kind).length)
    {f : Images → Images} (hf : ∀ m, ∃ r n o, f m = { m with rigs := r, nets := n, costs := o }) (id : Nat) (p : List Byte)
    {s' : State} (hs' : s' = { ((((s.taken t c).modImages f).copyImage kind i p).startCopy c kind i id p) with
      pending := s.pending }) :
    s'.waitsAt fn slot ∧ ((s'.images.slots kind).getD i {}).state = 1 ∧ ((s'.images.slots kind).getD i {}).hash = sha512 p ∧
      ((s'.images.slots kind).getD i {}).loader = some (fn, slot) ∧
      (∀ j, j ≠ i → (s'.images.slots kind).getD j {} = (s.images.slots kind).getD j {}) ∧
      s'.sram = (if kind = 2 then (s.storeCopies (rigOffset i) p).sram
        else if kind = 4 then (s.storeCopies (costOffset i) p).sram else s.sram) ∧
      s'.hbm = (if kind = 3 ∧ (s'.images.nets.getD i {}).resident = false
        then Mem.writeBytes (streamedAddr i) (sectionOf p 72 3) s.hbm else s.hbm) ∧
      { s' with time := s.time, det := s.det, mbx := { s'.mbx with cmds := s.mbx.cmds }, images := s.images,
                hbm := s.hbm, sram := s.sram } = s := by
  obtain ⟨hcmd, -, -, hresp, -⟩ := h
  obtain ⟨hcfn, hcslot⟩ := State.cmd?_slot hcmd
  obtain ⟨d, hd⟩ := s.taken_rest t c
  obtain ⟨r, n, o, himages⟩ := hf s.images
  have hmodImages : (s.taken t c).modImages f = { s.at t with det := d, images := { s.images with rigs := r, nets := n, costs := o } } := by
    rw [hd]
    change { s.at t with det := d, images := f s.images } = _
    rw [himages]
  rw [hmodImages, State.copyImage_eq] at hs'
  have hsram : State.copiedSram kind i p { s.at t with det := d, images := { s.images with rigs := r, nets := n, costs := o } } =
      if kind = 2 then (s.storeCopies (rigOffset i) p).sram
      else if kind = 4 then (s.storeCopies (costOffset i) p).sram else s.sram := by
    unfold State.copiedSram
    rw [State.storeCopies_sram (s := s) rfl (rigOffset i), State.storeCopies_sram (s := s) rfl (costOffset i)]
    rfl
  have hhbm : State.copiedHbm kind i p { s.at t with det := d, images := { s.images with rigs := r, nets := n, costs := o } } =
      if kind = 3 ∧ (n.getD i {}).resident = false
        then Mem.writeBytes (streamedAddr i) (sectionOf p 72 3) s.hbm else s.hbm := rfl
  rw [hsram, hhbm] at hs'
  generalize (if kind = 2 then (s.storeCopies (rigOffset i) p).sram
      else if kind = 4 then (s.storeCopies (costOffset i) p).sram else s.sram) = ram at hs' ⊢
  have hk' : kind ∈ [1, 2, 3, 4] := List.mem_cons_of_mem _ hk
  unfold State.startCopy at hs'
  generalize hx : ({ s.at t with
    det := d, images := { s.images with rigs := r, nets := n, costs := o }, sram := ram,
    hbm := if kind = 3 ∧ (n.getD i {}).resident = false then Mem.writeBytes (streamedAddr i) (sectionOf p 72 3) s.hbm
      else s.hbm } : State) = x at hs'
  have hslots : x.images.slots kind = s.images.slots kind := by
    rw [← hx]
    rfl
  have hmod := Images.slots_modSlot hk' i (fun _ : SlotState => {
    state := 1, id := id, hash := sha512 p, loader := some (c.fn, c.slot) }) x
  rw [hslots] at hmod
  obtain ⟨w, r', n', k', hrest⟩ := x.modSlot_rest kind i fun _ : SlotState => {
    state := 1, id := id, hash := sha512 p, loader := some (c.fn, c.slot) }
  generalize x.modSlot kind i (fun _ : SlotState => {
    state := 1, id := id, hash := sha512 p, loader := some (c.fn, c.slot) }) = y at hs' hmod hrest
  have hymbx : y.mbx = s.mbx := by rw [hrest, ← hx]; rfl
  have hself : (s'.images.slots kind).getD i {} = {
      state := 1, id := id, hash := sha512 p, loader := some (c.fn, c.slot) } := by
    have hget := getD_modify_self hi (fun _ : SlotState => {
      state := 1, id := id, hash := sha512 p, loader := some (c.fn, c.slot) }) {}
    rw [← hmod] at hget
    rw [hs']
    exact hget
  have hnets : s'.images.nets = n := by rw [hs', State.wait, hrest, ← hx]; rfl
  refine ⟨?_, ?_, ?_, ?_, fun j hj => ?_, ?_, ?_, ?_⟩
  · rw [hs']
    exact ⟨_, State.cmd?_wait hymbx hcmd, rfl, hresp⟩
  · rw [hself]
  · rw [hself]
  · rw [hself, hcfn, hcslot]
  · have hget := getD_modify_ne hj.symm (s.images.slots kind) (fun _ : SlotState => {
      state := 1, id := id, hash := sha512 p, loader := some (c.fn, c.slot) }) {}
    rw [← hmod] at hget
    rw [hs']
    exact hget
  · rw [hs', State.wait, hrest, ← hx]
    rfl
  · rw [hnets, hs', State.wait, hrest, ← hx]
    rfl
  · rw [hs', State.wait, hrest, ← hx]
    rfl

theorem imgLoad_image (hslot : isSlot fn slot) (h : s.isReady 0x0301 fn slot c) (hlen : c.payload.length = 8)
    (h3 : allZero (slice c.payload 3 1) = true) (h6 : allZero (slice c.payload 6 2) = true) (hflags : getU c.payload 2 1 ≤ 1)
    (hpart : getU c.payload 4 2 = 0) (hk : kind ∈ [2, 3, 4]) (hkind : getU c.payload 0 1 = kind)
    (hnamed : getU c.payload 1 1 = 0xFF ∨ getU c.payload 1 1 < (s.images.slots kind).length) :
    ∃ s', exec (.imgLoad fn slot t) s = .next s' ∧
      (∀ e, s.checkImage (bit (getU c.payload 2 1) 0) c.bulk = .inl e →
        s'.reply? fn slot = some (refusal e.1 e.2) ∧ s.onlyAnswered s') ∧
      (∀ p k, s.checkImage (bit (getU c.payload 2 1) 0) c.bulk = .inr p → imageChecks kind p = some k →
        s'.reply? fn slot = some (refusal 0x0405 k) ∧ s.onlyAnswered s') ∧
      (∀ p, s.checkImage (bit (getU c.payload 2 1) 0) c.bulk = .inr p → imageChecks kind p = none →
        (∀ st, s.loadSlot kind (getU c.payload 1 1) = .inl st →
          s'.reply? fn slot = some (refusal st) ∧ s.onlyAnswered s') ∧
        (s.loadSlot kind (getU c.payload 1 1) = .inr i → s'.waitsAt fn slot ∧
          ((s'.images.slots kind).getD i {}).state = 1 ∧ ((s'.images.slots kind).getD i {}).hash = sha512 p ∧
          ((s'.images.slots kind).getD i {}).loader = some (fn, slot) ∧
          (∀ j, j ≠ i → (s'.images.slots kind).getD j {} = (s.images.slots kind).getD j {}) ∧
          s'.sram = (if kind = 2 then (s.storeCopies (rigOffset i) p).sram
            else if kind = 4 then (s.storeCopies (costOffset i) p).sram else s.sram) ∧
          s'.hbm = (if kind = 3 ∧ (s'.images.nets.getD i {}).resident = false
            then Mem.writeBytes (streamedAddr i) (sectionOf p 72 3) s.hbm else s.hbm) ∧
          { s' with time := s.time, det := s.det, mbx := { s'.mbx with cmds := s.mbx.cmds }, images := s.images,
                    hbm := s.hbm, sram := s.sram } = s)) := by
  have hrow := (exec_imgLoad fn slot t s).trans (execTaken hslot h t _)
  have himages : (s.taken t c).images = s.images := State.taken_images ..
  have hbody := bodyImgLoad_image (s := s.taken t c) hlen h3 h6 hflags hpart hk hkind (by rw [himages]; exact hnamed)
  rw [hbody, State.checkImage_taken] at hrow
  generalize hs' : ({ (match s.checkImage (bit (getU c.payload 2 1) 0) c.bulk with
    | .inl e => (s.taken t c).refuse c e.1 e.2
    | .inr p => (s.taken t c).loadImage c kind (getU c.payload 1 1) p) with pending := s.pending } : State) = s' at hrow
  refine ⟨_, hrow, fun e he => ?_, fun p k hp hcheck => ?_, fun p hp hcheck => ?_⟩
  · rw [he] at hs'
    subst hs'
    exact ⟨State.refused h (by simp) _ _ _, State.onlyAnswered_refuse ..⟩
  · rw [hp] at hs'
    dsimp only at hs'
    rw [State.loadImage_refuses hcheck] at hs'
    subst hs'
    exact ⟨State.refused h (by simp) _ _ _, State.onlyAnswered_refuse ..⟩
  · obtain ⟨f, id, hf, hload⟩ := State.loadImage_passes (c := c) (named := getU c.payload 1 1) (s := s.taken t c) hcheck
    rw [State.loadSlot_taken] at hload
    rw [hp] at hs'
    dsimp only at hs'
    rw [hload] at hs'
    refine ⟨fun st hst => ?_, fun hi => ?_⟩
    · rw [hst] at hs'
      subst hs'
      exact ⟨State.refused h (by simp) _ _ _, State.onlyAnswered_refuse ..⟩
    · rw [hi] at hs'
      exact startCopy_leaves h hk (State.loadSlot_lt hnamed hi) (hf i) id p hs'.symm

end
end Sys2Proof.Machine
end

section
/-!
SUPPORT. IMG_LOAD of a world image, in parts (R85, R337, R338).
-/
namespace Sys2Proof.Machine

/-! ## Emptying a world reads the worlds, the HBM and the device state alone -/

/-- The worlds, the HBM and the device state of two states agree. -/
def State.SameWorlds (a b : State) : Prop := a.worlds = b.worlds ∧ a.hbm = b.hbm ∧ a.frame.devState = b.frame.devState

section
variable {a b : State}

theorem State.SameWorlds.hbmWrite (h : a.SameWorlds b) (p : Nat) (bs : List Byte) :
    (a.hbmWrite p bs).SameWorlds (b.hbmWrite p bs) :=
  ⟨h.1, congrArg (Mem.writeBytes p bs) h.2.1, h.2.2⟩

theorem State.SameWorlds.modWorlds (h : a.SameWorlds b) (f : Worlds → Worlds) : (a.modWorlds f).SameWorlds (b.modWorlds f) :=
  ⟨congrArg f h.1, h.2⟩

theorem State.SameWorlds.modWd (h : a.SameWorlds b) (w : Nat) (f : World → World) : (a.modWd w f).SameWorlds (b.modWd w f) :=
  h.modWorlds _

theorem State.SameWorlds.freeHandle (h : a.SameWorlds b) (p : Nat) : (a.freeHandle p).SameWorlds (b.freeHandle p) := by
  unfold State.freeHandle
  rw [h.2.2]
  split
  · exact h.modWorlds _
  · exact h.modWorlds _

theorem State.SameWorlds.foldl {α : Type} {g : State → α → State} (hg : ∀ (a b : State) x, a.SameWorlds b → (g a x).SameWorlds (g b x))
    (l : List α) (h : a.SameWorlds b) : (l.foldl g a).SameWorlds (l.foldl g b) :=
  List.foldl_rel h fun x _ a b hab => hg a b x hab

theorem State.SameWorlds.clearFineMap (h : a.SameWorlds b) (m : Nat) : (a.clearFineMap m).SameWorlds (b.clearFineMap m) := by
  unfold State.clearFineMap State.fineEntry
  dsimp only
  rw [h.2.1]
  exact (State.SameWorlds.foldl (fun _ _ p hab => hab.freeHandle p) _ h).hbmWrite _ _

/-- A pan of a directory entry is freed and the entry zeroed. -/
def State.clearDir (s : State) (i : Nat) : State :=
  let e := s.dirEntry i
  let s := if dirKind e = 0 then s else s.freeHandle (dirHandle e)
  s.hbmWrite (dirAddr i) (zeros 8)

theorem State.SameWorlds.clearDir (h : a.SameWorlds b) (i : Nat) : (a.clearDir i).SameWorlds (b.clearDir i) := by
  unfold State.clearDir State.dirEntry
  dsimp only
  rw [h.2.1]
  split
  · exact h.hbmWrite _ _
  · exact (h.freeHandle _).hbmWrite _ _

theorem State.SameWorlds.emptyWorld (h : a.SameWorlds b) (w : Nat) : (a.emptyWorld w).SameWorlds (b.emptyWorld w) := by
  have hwd : a.wd w = b.wd w := by rw [State.wd, State.wd, h.1]
  have hmaps : ((b.worlds.workcells.filter (·.world == w)).foldl (init := a) fun s k =>
      (List.range k.cells).foldl (init := s) fun s i => s.clearFineMap (k.fineMapBase + i)).SameWorlds
      ((b.worlds.workcells.filter (·.world == w)).foldl (init := b) fun s k =>
        (List.range k.cells).foldl (init := s) fun s i => s.clearFineMap (k.fineMapBase + i)) :=
    State.SameWorlds.foldl (g := fun s (k : Workcell) =>
        (List.range k.cells).foldl (init := s) fun s i => s.clearFineMap (k.fineMapBase + i))
      (fun _ _ k hab => State.SameWorlds.foldl (g := fun s i => s.clearFineMap (k.fineMapBase + i))
        (fun _ _ i hab => hab.clearFineMap (k.fineMapBase + i)) (List.range k.cells) hab) _ h
  unfold State.emptyWorld
  dsimp only
  rw [hwd, h.1]
  split
  · generalize ((b.worlds.workcells.filter (·.world == w)).foldl (init := a) fun s k =>
      (List.range k.cells).foldl (init := s) fun s i => s.clearFineMap (k.fineMapBase + i)) = a' at hmaps ⊢
    generalize ((b.worlds.workcells.filter (·.world == w)).foldl (init := b) fun s k =>
      (List.range k.cells).foldl (init := s) fun s i => s.clearFineMap (k.fineMapBase + i)) = b' at hmaps ⊢
    have hdir : ((b.wd w).dirRange.foldl State.clearDir a').SameWorlds ((b.wd w).dirRange.foldl State.clearDir b') :=
      .foldl (fun _ _ i hab => hab.clearDir i) _ hmaps
    unfold State.clearDir at hdir
    dsimp only at hdir
    rw [hdir.1]
    refine .modWd (.modWorlds (.hbmWrite (.hbmWrite (.foldl (fun _ _ _ hab => ?_) _ hdir) _ _) _ _) _) _ _
    exact hab.hbmWrite _ _
  · exact h

end

theorem State.worldCheck5_congr {s s' : State} (h : s'.worlds = s.worlds) (p : List Byte) (w : Nat) :
    s'.worldCheck5 p w = s.worldCheck5 p w := by
  unfold State.worldCheck5 State.imageWorkcellsOk State.freeHandles State.fineUsed State.sliceUsed
  rw [h]

/-- Installing a world touches worlds and HBM alone. -/
theorem State.installWorld_atWorlds (p : List Byte) (w : Nat) (s : State) : s.AtWorlds (s.installWorld p w) := by
  unfold State.installWorld
  dsimp only
  refine .modWd (.modWorlds (.trans (.hbmWrite (.hbmWrite (.hbmWrite ?_ ..) ..) ..)
    (.foldl (fun s k => (State.AtWorlds.refl s).putWorkcell ..) ..)) ..) ..
  refine List.foldlRecOn (motive := fun x : State × List Nat => s.AtWorlds x.1) _ _ (.refl s) fun x hx r _ => ?_
  exact (hx.takeHandle.hbmWrite ..).hbmWrite ..

end Sys2Proof.Machine
end

section
/-!
SUPPORT. The outcomes of IMG_LOAD of a world image (R85, R337, R338).
-/
namespace Sys2Proof.Machine

/-! ## What a part of a world leaves -/

/-- What no part of a world image touches. -/
def State.loadView (s : State) : Frame × List Session × List Stream × Mem × Mem :=
  (s.frame, s.sessions, s.streams, s.host, s.sram)

section
variable (c : Cmd) (s : State)

theorem State.AtWorlds.loadView {a b : State} (h : a.AtWorlds b) : b.loadView = a.loadView := by
  obtain ⟨_, _, rfl⟩ := h
  rfl

theorem State.modSlot_loadView (kind i : Nat) (f : SlotState → SlotState) : (s.modSlot kind i f).loadView = s.loadView := by
  obtain ⟨w, r, n, k, h⟩ := s.modSlot_rest kind i f
  rw [h]
  rfl

theorem State.emptySlot_loadView (i : Nat) : (s.emptySlot i).loadView = s.loadView := rfl
theorem State.refuse_loadView (st a : Nat) : (s.refuse c st a).loadView = s.loadView := rfl
theorem State.accept_loadView (p : List Byte) : (s.accept c p).loadView = s.loadView := rfl
theorem State.startCopy_loadView (kind i id : Nat) (p : List Byte) : (s.startCopy c kind i id p).loadView = s.loadView :=
  State.modSlot_loadView s kind i fun _ => { state := 1, id := id, hash := sha512 p, loader := some (c.fn, c.slot) }

theorem State.finishWorld_loadView (i : Nat) (enc : Bool) (bs : List Byte) :
    (s.finishWorld c i enc bs).loadView = s.loadView := by
  unfold State.finishWorld
  dsimp only
  (repeat' split) <;>
    simp [State.emptySlot_loadView, State.refuse_loadView, State.startCopy_loadView,
      (State.installWorld_atWorlds _ _ _).loadView]

end

/-! ## The end of a world image -/

/-- The first of a world image's own checks that fails. -/
def worldChecks (p : List Byte) : Option Nat :=
  if worldCheck2 p = false then some 2 else if worldCheck3 p = false then some 3
  else if worldCheck4 p = false then some 4 else none

section
variable {c : Cmd} {s : State} {i k : Nat} {enc : Bool} {bs p : List Byte} {e : Nat × Nat}

theorem State.finishWorld_unchecked (h : s.checkImage enc bs = .inl e) :
    s.finishWorld c i enc bs = (s.refuse c e.1 e.2).emptySlot i := by
  unfold State.finishWorld
  rw [h]

theorem State.finishWorld_bad (h : s.checkImage enc bs = .inr p) (hk : worldChecks p = some k) :
    s.finishWorld c i enc bs = (s.refuse c 0x0405 k).emptySlot i := by
  unfold State.finishWorld
  rw [h]
  unfold worldChecks at hk
  dsimp only
  cases h2 : worldCheck2 p with
  | false =>
    rw [h2] at hk
    cases hk
    rfl
  | true =>
    cases h3 : worldCheck3 p with
    | false =>
      rw [h2, h3] at hk
      cases hk
      rfl
    | true =>
      cases h4 : worldCheck4 p with
      | false =>
        rw [h2, h3, h4] at hk
        cases hk
        rfl
      | true =>
        rw [h2, h3, h4] at hk
        cases hk

theorem State.finishWorld_good (h : s.checkImage enc bs = .inr p) (h2 : worldCheck2 p = true) (h3 : worldCheck3 p = true)
    (h4 : worldCheck4 p = true) : s.finishWorld c i enc bs = if s.worldCheck5 p i = false
      then (s.refuse c 0x0303 0).emptySlot i
      else ((s.emptySlot i).installWorld p i).startCopy c 1 i (getU p 16 4) p := by
  unfold State.finishWorld
  rw [h]
  dsimp only
  rw [h2, h3, h4]
  cases s.worldCheck5 p i <;> rfl

end

section
variable {s y : State} {fn slot t op : Nat} {c : Cmd} {i : Nat}

/-- A world slot emptied behind a refusal. -/
theorem State.emptySlot_refused (h : s.isReady op fn slot c) (hm : y.mbx = s.mbx) (hi : i < y.images.worldSlots.length)
    (st a : Nat) {s' : State} (hs' : s' = { (y.refuse c st a).emptySlot i with pending := s.pending }) :
    s'.reply? fn slot = some (refusal st a) ∧ (s'.images.worldSlots.getD i {}).state = 0 := by
  subst hs'
  refine ⟨State.refused h hm st a [], ?_⟩
  have hget := getD_modify_self hi (fun _ : SlotState => ({} : SlotState)) {}
  exact congrArg SlotState.state hget

/-- A world image whose copies begin. -/
theorem State.startCopy_world (h : s.isReady op fn slot c) (hm : y.mbx = s.mbx) (hi : i < y.images.worldSlots.length) (id : Nat)
    (p : List Byte) {s' : State}
    (hs' : s' = { ((y.emptySlot i).installWorld p i).startCopy c 1 i id p with pending := s.pending }) :
    s'.waitsAt fn slot ∧ (s'.images.worldSlots.getD i {}).state = 1 ∧ (s'.images.worldSlots.getD i {}).hash = sha512 p := by
  obtain ⟨w, m, hw⟩ := (y.emptySlot i).installWorld_atWorlds p i
  rw [hw] at hs'
  have hlen : i < (y.images.worldSlots.modify i fun _ => ({} : SlotState)).length := by simpa using hi
  have hget := getD_modify_self hlen (fun _ : SlotState => ({
    state := 1, id := id, hash := sha512 p, loader := some (c.fn, c.slot) } : SlotState)) {}
  obtain ⟨hcmd, -, -, hresp, -⟩ := h
  subst hs'
  refine ⟨⟨_, State.cmd?_wait hm hcmd, rfl, hresp⟩, ?_, ?_⟩
  · exact congrArg SlotState.state hget
  · exact congrArg SlotState.hash hget

/-! ## The parts -/

theorem bodyImgLoad_world (hlen : c.payload.length = 8) (h3 : allZero (slice c.payload 3 1) = true)
    (h6 : allZero (slice c.payload 6 2) = true) (hflags : getU c.payload 2 1 ≤ 3) (hkind : getU c.payload 0 1 = 1)
    (hnamed : getU c.payload 1 1 = 0xFF ∨ getU c.payload 1 1 < s.images.worldSlots.length) :
    bodyImgLoad c s = s.loadPart c (getU c.payload 1 1) (getU c.payload 4 2) (bit (getU c.payload 2 1) 1)
      (bit (getU c.payload 2 1) 0) := by
  have hok : (getU c.payload 1 1 == 0xFF || decide (getU c.payload 1 1 < (s.images.slots 1).length)) = true := by
    rw [Images.slots]
    simpa using hnamed
  unfold bodyImgLoad
  dsimp only
  rw [State.shape_pos (by simpa using hlen) (by simp [h3, h6]), State.need_pos (by simp; omega), hkind,
    State.need_pos (by rw [hok]; rfl), if_pos rfl]

/-- A first part that names no part load's slot begins a load in the slot found. -/
theorem State.loadPart_first {named : Nat} {more enc : Bool}
    (hnone : ∀ l ∈ s.images.partLoads, (l.named ≠ named ∨ named = 0xFF) ∧ l.slot ≠ named) :
    s.loadPart c named 0 more enc = match s.loadSlot 1 named with
      | .inl st => s.refuse c st
      | .inr i => if more then
          (((s.emptyWorld i).modSlot 1 i fun _ => { state := 1 }).modImages fun m => { m with
            partLoads := m.partLoads ++ [{ slot := i, named := named, nextPart := 1, bytes := c.bulk }] }).accept c
        else (s.emptyWorld i).finishWorld c i enc c.bulk := by
  have hfind : (s.images.partLoads.find? fun l => l.named == named && !(named == 0xFF && (0 : Nat) == 0) || l.slot == named) = none := by
    refine List.find?_eq_none.mpr fun l hl => ?_
    obtain ⟨hnamed, hslot⟩ := hnone l hl
    rcases hnamed with h | h
    · simp [h, hslot]
    · simp [h, h ▸ hslot]
  unfold State.loadPart
  rw [hfind, if_neg (by decide)] <;> rfl

theorem State.loadPart_view {named : Nat} {more enc : Bool}
    (hnone : ∀ l ∈ s.images.partLoads, (l.named ≠ named ∨ named = 0xFF) ∧ l.slot ≠ named) :
    (s.loadPart c named 0 more enc).loadView = s.loadView := by
  rw [State.loadPart_first hnone]
  split
  · exact State.refuse_loadView ..
  · next i _ =>
    have hempty := (s.emptyWorld_atWorlds i).loadView
    split
    · generalize s.emptyWorld i = y at hempty ⊢
      exact hempty
    · exact (State.finishWorld_loadView ..).trans hempty

end
end Sys2Proof.Machine
end

section
/-!
SUPPORT. IMG_LOAD of a world image: the steps.
-/
namespace Sys2Proof.Machine

section
variable {s : State} {fn slot t : Nat} {c : Cmd} {i : Nat}

/-- The last part of a world image, on the world that its first part emptied. -/
theorem finishWorld_leaves {y s' : State} {enc : Bool} {bs : List Byte} {op : Nat} (h : s.isReady op fn slot c)
    (hm : y.mbx = s.mbx) (hi : i < y.images.worldSlots.length)
    (hcheck : y.checkImage enc bs = s.checkImage enc bs) (hfive : ∀ p, y.worldCheck5 p i = (s.emptyWorld i).worldCheck5 p i)
    (hs' : s' = { y.finishWorld c i enc bs with pending := s.pending }) :
    (∀ e, s.checkImage enc bs = .inl e →
      s'.reply? fn slot = some (refusal e.1 e.2) ∧ (s'.images.worldSlots.getD i {}).state = 0) ∧
    (∀ p, s.checkImage enc bs = .inr p →
      (∀ k, worldChecks p = some k →
        s'.reply? fn slot = some (refusal 0x0405 k) ∧ (s'.images.worldSlots.getD i {}).state = 0) ∧
      (worldCheck2 p = true → worldCheck3 p = true → worldCheck4 p = true →
        ((s.emptyWorld i).worldCheck5 p i = false →
          s'.reply? fn slot = some (refusal 0x0303) ∧ (s'.images.worldSlots.getD i {}).state = 0) ∧
        ((s.emptyWorld i).worldCheck5 p i = true → s'.waitsAt fn slot ∧
          (s'.images.worldSlots.getD i {}).state = 1 ∧ (s'.images.worldSlots.getD i {}).hash = sha512 p))) := by
  refine ⟨fun e he => ?_, fun p hp => ⟨fun k hk => ?_, fun h2 h3 h4 => ⟨fun h5 => ?_, fun h5 => ?_⟩⟩⟩
  · rw [State.finishWorld_unchecked (hcheck.trans he)] at hs'
    exact State.emptySlot_refused h hm hi _ _ hs'
  · rw [State.finishWorld_bad (hcheck.trans hp) hk] at hs'
    exact State.emptySlot_refused h hm hi _ _ hs'
  · rw [State.finishWorld_good (hcheck.trans hp) h2 h3 h4, if_pos ((hfive p).trans h5)] at hs'
    exact State.emptySlot_refused h hm hi _ _ hs'
  · rw [State.finishWorld_good (hcheck.trans hp) h2 h3 h4, if_neg (by rw [hfive, h5]; decide)] at hs'
    exact State.startCopy_world h hm hi _ _ hs'

/-- A first part with MORE: its slot is taken and its bytes kept. -/
theorem partLoad_leaves {y s' : State} {op named : Nat} (h : s.isReady op fn slot c)
    (hm : y.mbx = s.mbx) (hi : i < y.images.worldSlots.length)
    (hs' : s' = { (((y.modSlot 1 i fun _ => { state := 1 }).modImages fun m => { m with
      partLoads := m.partLoads ++ [{ slot := i, named := named, nextPart := 1, bytes := c.bulk }] }).accept c) with
        pending := s.pending }) :
    s'.reply? fn slot = some (okReply []) ∧ (s'.images.worldSlots.getD i {}).state = 1 ∧
      { slot := i, named := named, nextPart := 1, bytes := c.bulk } ∈ s'.images.partLoads := by
  subst hs'
  refine ⟨State.answered h hm [] [], ?_, List.mem_append_right _ (List.mem_singleton.mpr rfl)⟩
  have hget := getD_modify_self hi (fun _ : SlotState => ({ state := 1 } : SlotState)) {}
  exact congrArg SlotState.state hget

theorem imgLoad_world (hslot : isSlot fn slot) (h : s.isReady 0x0301 fn slot c) (hlen : c.payload.length = 8)
    (h3 : allZero (slice c.payload 3 1) = true) (h6 : allZero (slice c.payload 6 2) = true)
    (hflags : getU c.payload 2 1 ≤ 3) (hpart : getU c.payload 4 2 = 0) (hkind : getU c.payload 0 1 = 1)
    (hnamed : getU c.payload 1 1 = 0xFF ∨ getU c.payload 1 1 < s.images.worldSlots.length)
    (hnone : ∀ l ∈ s.images.partLoads,
      (l.named ≠ getU c.payload 1 1 ∨ getU c.payload 1 1 = 0xFF) ∧ l.slot ≠ getU c.payload 1 1) :
    ∃ s', exec (.imgLoad fn slot t) s = .next s' ∧
      (∀ st, s.loadSlot 1 (getU c.payload 1 1) = .inl st → s'.reply? fn slot = some (refusal st) ∧ s.onlyAnswered s') ∧
      (s.loadSlot 1 (getU c.payload 1 1) = .inr i →
        (bit (getU c.payload 2 1) 1 = true → s'.reply? fn slot = some (okReply []) ∧
          (s'.images.worldSlots.getD i {}).state = 1 ∧
          { slot := i, named := getU c.payload 1 1, nextPart := 1, bytes := c.bulk } ∈ s'.images.partLoads) ∧
        (∀ e, bit (getU c.payload 2 1) 1 = false → s.checkImage (bit (getU c.payload 2 1) 0) c.bulk = .inl e →
          s'.reply? fn slot = some (refusal e.1 e.2) ∧ (s'.images.worldSlots.getD i {}).state = 0) ∧
        (∀ p, bit (getU c.payload 2 1) 1 = false → s.checkImage (bit (getU c.payload 2 1) 0) c.bulk = .inr p →
          (∀ k, worldChecks p = some k →
            s'.reply? fn slot = some (refusal 0x0405 k) ∧ (s'.images.worldSlots.getD i {}).state = 0) ∧
          (worldCheck2 p = true → worldCheck3 p = true → worldCheck4 p = true →
            ((s.emptyWorld i).worldCheck5 p i = false →
              s'.reply? fn slot = some (refusal 0x0303) ∧ (s'.images.worldSlots.getD i {}).state = 0) ∧
            ((s.emptyWorld i).worldCheck5 p i = true → s'.waitsAt fn slot ∧
              (s'.images.worldSlots.getD i {}).state = 1 ∧ (s'.images.worldSlots.getD i {}).hash = sha512 p)))) ∧
      s'.frame = s.frame ∧ s'.sessions = s.sessions ∧ s'.streams = s.streams ∧ s'.host = s.host ∧ s'.sram = s.sram := by
  have hrow := (exec_imgLoad fn slot t s).trans (execTaken hslot h t _)
  have himages : (s.taken t c).images = s.images := State.taken_images ..
  rw [bodyImgLoad_world (s := s.taken t c) hlen h3 h6 hflags hkind (by rw [himages]; exact hnamed), hpart] at hrow
  generalize getU c.payload 1 1 = named at hnamed hnone hrow ⊢
  generalize bit (getU c.payload 2 1) 1 = more at hrow ⊢
  generalize bit (getU c.payload 2 1) 0 = enc at hrow ⊢
  have hnone' : ∀ l ∈ (s.taken t c).images.partLoads, (l.named ≠ named ∨ named = 0xFF) ∧ l.slot ≠ named := by
    rw [himages]
    exact hnone
  have hview : ((s.taken t c).loadPart c named 0 more enc).loadView = s.loadView := by
    rw [State.loadPart_view hnone']
    simp [State.loadView]
  obtain ⟨s', hs's, hs'⟩ : ∃ s', exec (.imgLoad fn slot t) s = .next s' ∧
      s' = { (s.taken t c).loadPart c named 0 more enc with pending := s.pending } := ⟨_, hrow, rfl⟩
  obtain ⟨ws, hbm, hempty⟩ := (s.taken t c).emptyWorld_atWorlds i
  have hworlds : ((s.taken t c).emptyWorld i).worlds = (s.emptyWorld i).worlds :=
    (State.SameWorlds.emptyWorld ⟨State.taken_worlds .., State.taken_hbm .., by simp⟩ i).1
  have hfields : s'.loadView = s.loadView := by
    rw [hs']
    exact hview
  rw [State.loadPart_first hnone', State.loadSlot_taken] at hs'
  refine ⟨s', hs's, fun st hst => ?_, fun hi => ?_, congrArg (·.1) hfields, congrArg (·.2.1) hfields,
    congrArg (·.2.2.1) hfields, congrArg (·.2.2.2.1) hfields, congrArg (·.2.2.2.2) hfields⟩
  · rw [hst] at hs'
    subst hs'
    exact ⟨State.refused h (by simp) _ _ _, State.onlyAnswered_refuse ..⟩
  · have hlt : i < s.images.worldSlots.length := State.loadSlot_lt (kind := 1) hnamed hi
    rw [hi] at hs'
    dsimp only at hs'
    generalize (s.taken t c).emptyWorld i = y at hempty hworlds hs'
    have hmbx : y.mbx = s.mbx := by rw [hempty]; exact State.taken_mbx ..
    have hyi : i < y.images.worldSlots.length := by rw [hempty]; exact himages ▸ hlt
    have hcheck : y.checkImage enc c.bulk = s.checkImage enc c.bulk :=
      State.checkImage_congr (by rw [hempty]; exact State.taken_part ..) (by rw [hempty]; exact State.taken_hub ..)
        (by rw [hempty]; exact State.taken_boot ..) enc c.bulk
    cases more with
    | true =>
      rw [if_pos rfl] at hs'
      exact ⟨fun _ => partLoad_leaves h hmbx hyi hs', fun _ hfalse => absurd hfalse (by decide),
        fun _ hfalse => absurd hfalse (by decide)⟩
    | false =>
      rw [if_neg (by decide)] at hs'
      obtain ⟨hbad, hgood⟩ := finishWorld_leaves h hmbx hyi hcheck (fun p => State.worldCheck5_congr hworlds p i) hs'
      exact ⟨fun hfalse => absurd hfalse (by decide), fun e _ => hbad e, fun p _ => hgood p⟩

/-- A load that names the slot of a part load begun under 0xFF. -/
theorem imgLoad_inUse (hslot : isSlot fn slot) (h : s.isReady 0x0301 fn slot c) (hlen : c.payload.length = 8)
    (h3 : allZero (slice c.payload 3 1) = true) (h6 : allZero (slice c.payload 6 2) = true)
    (hflags : getU c.payload 2 1 ≤ 3) (hkind : getU c.payload 0 1 = 1)
    (hlt : getU c.payload 1 1 < s.images.worldSlots.length) (hpart : ∃ l ∈ s.images.partLoads, l.slot = getU c.payload 1 1)
    (hnames : ∀ l ∈ s.images.partLoads, l.named ≠ getU c.payload 1 1) :
    ∃ s', exec (.imgLoad fn slot t) s = .next s' ∧ s'.reply? fn slot = some (refusal 0x0203) ∧ s.onlyAnswered s' := by
  have hrow := (exec_imgLoad fn slot t s).trans (execTaken hslot h t _)
  have himages : (s.taken t c).images = s.images := State.taken_images ..
  rw [bodyImgLoad_world (s := s.taken t c) hlen h3 h6 hflags hkind (by rw [himages]; exact .inr hlt)] at hrow
  generalize getU c.payload 1 1 = named at hlt hpart hnames hrow
  obtain ⟨l, hl, hlslot⟩ := hpart
  have hrefuse : ∀ part more enc, (s.taken t c).loadPart c named part more enc = (s.taken t c).refuse c 0x0203 := by
    intro part more enc
    have hsome : (s.images.partLoads.find? fun l =>
        l.named == named && !(named == 0xFF && part == 0) || l.slot == named).isSome :=
      List.find?_isSome.mpr ⟨l, hl, by simp [hlslot]⟩
    obtain ⟨l', hl'⟩ := Option.isSome_iff_exists.mp hsome
    unfold State.loadPart
    rw [himages, hl']
    exact if_pos (hnames l' (List.mem_of_find?_eq_some hl'))
  rw [hrefuse] at hrow
  exact ⟨_, hrow, State.refused h (by simp) _ _ _, State.onlyAnswered_refuse ..⟩

end
end Sys2Proof.Machine
end

section
/-!
SUPPORT. IMG_UNLOAD, IMG_LIST and the completion of a load's copies.
-/
namespace Sys2Proof.Machine

theorem mem_kinds_of_imageSlotOk {kind i : Nat} (h : imageSlotOk kind i = true) : kind ∈ [1, 2, 3, 4] := by
  unfold imageSlotOk at h
  simp only [Bool.or_eq_true, Bool.and_eq_true, beq_iff_eq] at h
  simp only [List.mem_cons, List.not_mem_nil, or_false]
  omega

section
variable {s : State} {fn slot t : Nat} {c : Cmd} {kind i : Nat}

/-- In IDLE the slots settle at once; nothing else changes. -/
theorem State.settleImages_leaves (hk : kind ∈ [1, 2, 3, 4]) (y : State) :
    ∃ im, y.settleIdle State.settleImages = { y with images := im } ∧ im.nets = y.images.nets ∧
      ∀ j, (im.slots kind).getD j {} = if y.frame.devState = 0 then settleSlot ((y.images.slots kind).getD j {})
        else (y.images.slots kind).getD j {} := by
  unfold State.settleIdle
  split
  · refine ⟨_, rfl, rfl, fun j => ?_⟩
    have hget (l : List SlotState) : (l.map settleSlot).getD j {} = settleSlot (l.getD j {}) :=
      List.getD_map l ({} : SlotState) settleSlot
    simp only [List.mem_cons, List.not_mem_nil, or_false] at hk
    rcases hk with rfl | rfl | rfl | rfl <;> exact hget _
  · exact ⟨_, rfl, rfl, fun j => rfl⟩

/-! ## IMG_UNLOAD -/

/-- An emptied world holds nothing. -/
theorem State.emptyWorld_unloaded (w : Nat) (y : State) : ((y.emptyWorld w).wd w).loaded = false := by
  have hgone (z : State) : ((z.modWd w fun _ => {}).wd w).loaded = false := by
    unfold State.wd State.modWd State.modWorlds
    dsimp only
    by_cases hw : w < z.worlds.ws.length
    · rw [getD_modify_self hw]
    · rw [List.getD_eq_default]
      rw [List.length_modify]
      exact Nat.le_of_not_lt hw
  unfold State.emptyWorld
  dsimp only
  split
  · exact hgone _
  · next h => exact Bool.eq_false_iff.mpr h

/-- A slot marked for the next frame open, a world's content gone at once (R320, R338). -/
def State.slotGoes (kind i : Nat) (s : State) : State :=
  let s := s.modSlot kind i fun x => { x with state := 3 }
  let s := if kind = 1 then s.emptyWorld i else s
  s.settleIdle State.settleImages

theorem State.slotGoes_leaves (hk : kind ∈ [1, 2, 3, 4]) (hi : i < (s.images.slots kind).length) :
    ∃ im ws m, s.slotGoes kind i = { s with images := im, worlds := ws, hbm := m } ∧
      ((im.slots kind).getD i {}).state = (if s.frame.devState = 0 then 0 else 3) ∧
      (kind = 1 → (ws.ws.getD i {}).loaded = false) ∧ (kind ≠ 1 → ws = s.worlds ∧ m = s.hbm) := by
  unfold State.slotGoes
  dsimp only
  obtain ⟨w, r, n, k, hrest⟩ := s.modSlot_rest kind i fun x => { x with state := 3 }
  have hmod : ((s.modSlot kind i fun x => { x with state := 3 }).images.slots kind).getD i {} =
      { (s.images.slots kind).getD i {} with state := 3 } := by
    rw [Images.slots_modSlot hk]
    exact getD_modify_self hi (fun x : SlotState => { x with state := 3 }) {}
  generalize s.modSlot kind i (fun x => { x with state := 3 }) = y at hrest hmod ⊢
  have hworld : ∃ ws m, (if kind = 1 then y.emptyWorld i else y) = { y with worlds := ws, hbm := m } ∧
      (kind = 1 → (ws.ws.getD i {}).loaded = false) ∧ (kind ≠ 1 → ws = s.worlds ∧ m = s.hbm) := by
    by_cases h1 : kind = 1
    · rw [if_pos h1]
      obtain ⟨ws, m, hempty⟩ := y.emptyWorld_atWorlds i
      have hgone := y.emptyWorld_unloaded i
      rw [hempty] at hgone
      exact ⟨ws, m, hempty, fun _ => hgone, fun h => absurd h1 h⟩
    · rw [if_neg h1, hrest]
      exact ⟨_, _, rfl, fun h => absurd h h1, fun _ => ⟨rfl, rfl⟩⟩
  obtain ⟨ws, m, hz, hloaded, hsame⟩ := hworld
  generalize (if kind = 1 then y.emptyWorld i else y) = z at hz ⊢
  obtain ⟨im, hsettle, -, hslots⟩ := State.settleImages_leaves hk z
  refine ⟨im, ws, m, ?_, ?_, hloaded, hsame⟩
  · rw [hsettle, hz, hrest]
  · have himages : z.images = y.images := by rw [hz]
    have hdev : z.frame.devState = s.frame.devState := by rw [hz, hrest]
    rw [hslots, himages, hmod, hdev]
    split <;> rfl

theorem imgUnload_goes (hslot : isSlot fn slot) (h : s.isReady 0x0302 fn slot c) (hlen : c.payload.length = 8)
    (h2 : allZero (slice c.payload 2 6) = true) (hkind : getU c.payload 0 1 = kind) (hnamed : getU c.payload 1 1 = i)
    (hok : imageSlotOk kind i = true) (huse : s.slotInUse kind i = false) (hhome : kind = 1 → s.isHomeWorld i = false)
    (hstate : ((s.images.slots kind).getD i {}).state = 2) :
    ∃ s', exec (.imgUnload fn slot t) s = .next s' ∧ s'.reply? fn slot = some (okReply []) ∧
      (s.frame.devState ≠ 0 → ((s'.images.slots kind).getD i {}).state = 3) ∧
      (s.frame.devState = 0 → ((s'.images.slots kind).getD i {}).state = 0) ∧
      (kind = 1 → (s'.wd i).loaded = false) ∧ (kind ≠ 1 → s'.worlds = s.worlds ∧ s'.hbm = s.hbm) ∧
      { s' with time := s.time, det := s.det, mbx := { s'.mbx with cmds := s.mbx.cmds }, images := s.images,
                worlds := s.worlds, hbm := s.hbm } = s := by
  have hi : i < (s.images.slots kind).length := by
    by_contra hge
    rw [List.getD_eq_default _ _ (Nat.le_of_not_lt hge)] at hstate
    cases hstate
  have hinUse : (s.taken t c).slotInUse kind i = false := by
    unfold State.slotInUse
    rw [State.taken_images, State.taken_sessions]
    exact huse
  have hfree : (kind == 1 && (s.taken t c).isHomeWorld i) = false := by
    unfold State.isHomeWorld
    rw [State.taken_farming, State.taken_fabric]
    by_cases h1 : kind = 1
    · rw [show (s.farming.shards.any fun e => e.home == s.fabric.nodeId && e.homeWorld == i) = false from hhome h1, Bool.and_false]
    · simp [h1]
  have hbody : bodyImgUnload c (s.taken t c) = ((s.taken t c).slotGoes kind i).accept c := by
    unfold bodyImgUnload
    dsimp only
    rw [State.shape_pos (by simpa using hlen) (by simp [h2]), hkind, hnamed, State.need_pos hok,
      State.need_pos (by rw [hinUse, hfree]; rfl), State.need_pos (by rw [State.taken_images, hstate]; rfl)]
    rfl
  have hrow := (exec_imgUnload fn slot t s).trans (execTaken hslot h t _)
  obtain ⟨im, ws, m, hgoes, hslots, hloaded, hsame⟩ := State.slotGoes_leaves (s := s.taken t c)
    (mem_kinds_of_imageSlotOk hok) (by rw [State.taken_images]; exact hi)
  rw [State.taken_frame] at hslots
  rw [State.taken_worlds, State.taken_hbm] at hsame
  rw [hbody, hgoes] at hrow
  refine ⟨_, hrow, State.answered h (by simp) [] _, fun hdev => ?_, fun hdev => ?_, hloaded, hsame, ?_⟩
  · exact hslots.trans (if_neg hdev)
  · exact hslots.trans (if_pos hdev)
  · apply State.ext_parts <;> simp

theorem imgUnload_inUse (hslot : isSlot fn slot) (h : s.isReady 0x0302 fn slot c) (hlen : c.payload.length = 8)
    (h2 : allZero (slice c.payload 2 6) = true) (hok : imageSlotOk (getU c.payload 0 1) (getU c.payload 1 1) = true)
    (huse : s.slotInUse (getU c.payload 0 1) (getU c.payload 1 1) = true) :
    ∃ s', exec (.imgUnload fn slot t) s = .next s' ∧ s'.reply? fn slot = some (refusal 0x0203) ∧ s.onlyAnswered s' := by
  have hinUse : (s.taken t c).slotInUse (getU c.payload 0 1) (getU c.payload 1 1) = true := by
    unfold State.slotInUse
    rw [State.taken_images, State.taken_sessions]
    exact huse
  have hbody : bodyImgUnload c (s.taken t c) = (s.taken t c).refuse c 0x0203 := by
    unfold bodyImgUnload
    dsimp only
    rw [State.shape_pos (by simpa using hlen) (by simp [h2]), State.need_pos hok, State.need_neg (by rw [hinUse]; rfl)]
  have hrow := (exec_imgUnload fn slot t s).trans (execTaken hslot h t _)
  rw [hbody] at hrow
  exact ⟨_, hrow, State.refused h (by simp) _ _ _, State.onlyAnswered_refuse ..⟩

/-! ## IMG_LIST -/

theorem imgList_lists (hslot : isSlot fn slot) (h : s.isReady 0x0303 fn slot c) (hp : c.payload = []) :
    ∃ s', exec (.imgList fn slot t) s = .next s' ∧
      s'.reply? fn slot = some (okReply ([1, 2, 3, 4].flatMap fun k => (s.images.slots k).flatMap fun x =>
        le 1 x.state ++ le 1 k ++ zeros 2 ++ le 4 x.id ++ x.shown.take 8)) ∧ s.onlyAnswered s' := by
  have hbody : bodyImgList c (s.taken t c) = (s.taken t c).accept c s.images.listing := by
    unfold bodyImgList
    rw [State.shape_pos (by simp [hp]) (by simp), State.taken_images]
  have hrow := (exec_imgList fn slot t s).trans (execTaken hslot h t _)
  rw [hbody] at hrow
  exact ⟨_, hrow, State.answered h (by simp) _ _, State.onlyAnswered_accept ..⟩

end
end Sys2Proof.Machine
end

section
/-!
SUPPORT. The completion of an image's copies (R125, R135, R216, R320).
-/
namespace Sys2Proof.Machine

section
variable {s : State} {fn slot t : Nat} {c : Cmd} {kind i : Nat} {x : SlotState}

/-- The stops of the PLLs write them alone. -/
theorem State.foldl_stopPll_leaves (l : List Nat) (y : State) :
    ∃ ks, l.foldl (fun z k => z.stopPll k) y = { y with stks := ks } ∧ ks.map Stack.running = y.stks.map Stack.running := by
  refine State.foldl_inv (fun z => ∃ ks, z = { y with stks := ks } ∧ ks.map Stack.running = y.stks.map Stack.running)
    (fun z k => z.stopPll k) (fun z k hz => ?_) l y ⟨_, rfl, rfl⟩
  obtain ⟨ks, hz, hks⟩ := hz
  obtain ⟨ks', hstop, hks'⟩ := State.stopPll_leaves k z
  subst hz
  exact ⟨ks', hstop, hks'.trans hks⟩

/-- Stacks that agree but for their stopped PLLs. -/
theorem stks_running {l m : List Stack} (h : l.map Stack.running = m.map Stack.running) (k : Nat) :
    { l.getD k {} with pllStopped := (m.getD k {}).pllStopped } = m.getD k {} := by
  have hget (l : List Stack) : (l.getD k {}).running = (l.map Stack.running).getD k (Stack.running {}) := (List.getD_map ..).symm
  have hrun : (l.getD k {}).running = (m.getD k {}).running :=
    (hget l).trans ((congrArg (fun l => l.getD k (Stack.running {})) h).trans (hget m).symm)
  exact congrArg (fun z : Stack => { z with pllStopped := (m.getD k {}).pllStopped }) hrun

/-- The last copy of an image: its slot is loaded, usable at once in IDLE, and the load is answered. -/
theorem State.copyComplete_ends (hk : kind ∈ [1, 2, 3, 4]) (hx : (s.images.slots kind)[i]? = some x) (hstate : x.state = 1)
    (hloader : x.loader = some (fn, slot)) (hcmd : s.cmd? fn slot = some c) (hop : c.opcode = 0x0301)
    (hstage : c.stage = .waiting) :
    ∃ im, s.copyComplete kind i = State.accept c { s with images := im } (x.hash ++ le 1 i ++
        le 1 (flag (kind == 3 && (s.images.nets.getD i {}).resident) 0) ++ zeros 6) ∧
      (im.slots kind).getD i {} = { x with
        state := 2, copied := true, loader := none, usable := if s.frame.devState = 0 then true else x.usable } := by
  have hget : (s.images.slots kind).getD i {} = x := by
    rw [List.getD, hx]
    rfl
  have hi : i < (s.images.slots kind).length := (List.getElem?_eq_some_iff.mp hx).1
  obtain ⟨w, r, n, k, hrest⟩ := s.modSlot_rest kind i fun y => { y with state := 2, copied := true, loader := none }
  have hmod : ((s.modSlot kind i fun y => { y with state := 2, copied := true, loader := none }).images.slots kind).getD i {} =
      { x with state := 2, copied := true, loader := none } := by
    rw [Images.slots_modSlot hk]
    exact (getD_modify_self hi (fun y : SlotState => { y with state := 2, copied := true, loader := none }) {}).trans
      (congrArg (fun y : SlotState => { y with state := 2, copied := true, loader := none }) hget)
  unfold State.copyComplete
  dsimp only
  rw [hget, hloader]
  dsimp only
  rw [if_pos hstate]
  generalize (s.modSlot kind i fun y => { y with state := 2, copied := true, loader := none }) = y at hrest hmod ⊢
  obtain ⟨im, hsettle, hnets, hslots⟩ := State.settleImages_leaves hk y
  have hy : { y with images := im } = { s with images := im } := by rw [hrest]
  have hynets : im.nets = s.images.nets := hnets.trans (by rw [hrest])
  have hdev : y.frame.devState = s.frame.devState := by rw [hrest]
  rw [hsettle, hy]
  have hfound : State.cmd? { s with images := im } fn slot = some c := hcmd
  rw [hfound]
  dsimp only
  rw [if_pos ⟨hop, hstage⟩, hynets]
  refine ⟨im, rfl, ?_⟩
  rw [hslots, hmod, hdev]
  split <;> rfl

theorem imageCopyComplete_ends (hok : imageSlotOk kind i = true) (hx : (s.images.slots kind)[i]? = some x) (hstate : x.state = 1)
    (hloader : x.loader = some (fn, slot)) (hcmd : s.cmd? fn slot = some c) (hop : c.opcode = 0x0301)
    (hstage : c.stage = .waiting) (hresp : c.response = none) :
    ∃ s', exec (.imageCopyComplete kind i t) s = .next s' ∧
      ((s'.images.slots kind).getD i {}).state = 2 ∧ ((s'.images.slots kind).getD i {}).hash = x.hash ∧
      (s.frame.devState = 0 → ((s'.images.slots kind).getD i {}).usable = true) ∧
      (s.frame.devState ≠ 0 → ((s'.images.slots kind).getD i {}).usable = x.usable) ∧
      s'.reply? fn slot = some (okReply (x.hash ++ le 1 i ++
        le 1 (flag (kind == 3 && (s.images.nets.getD i {}).resident) 0) ++ zeros 6)) ∧
      (∀ k < 4, { s'.stk k with pllStopped := (s.stk k).pllStopped } = s.stk k) ∧
      { s' with time := s.time, mbx := { s'.mbx with cmds := s.mbx.cmds }, images := s.images, stks := s.stks } = s := by
  have hrow := (exec_imageCopyComplete kind i t s).trans (ranAt_pos hok t s _)
  obtain ⟨im, hcopied, hslot⟩ := State.copyComplete_ends (s := s.at t) (mem_kinds_of_imageSlotOk hok) hx hstate hloader hcmd hop hstage
  have hreply : ((State.accept c { s.at t with images := im } (x.hash ++ le 1 i ++
      le 1 (flag (kind == 3 && ((s.at t).images.nets.getD i {}).resident) 0) ++ zeros 6)).reply? fn slot) = some (okReply (x.hash ++ le 1 i ++
        le 1 (flag (kind == 3 && (s.images.nets.getD i {}).resident) 0) ++ zeros 6)) := State.reply?_accept rfl hcmd hresp _
  obtain ⟨ks, hks, hrunning⟩ := State.foldl_stopPll_leaves [0, 1, 2, 3] ((s.at t).copyComplete kind i)
  have hend : (s.at t).copiesEnd kind i = { (s.at t).copyComplete kind i with stks := ks } := hks
  rw [hcopied] at hend hrunning
  rw [hend] at hrow
  generalize (x.hash ++ le 1 i ++ le 1 (flag (kind == 3 && ((s.at t).images.nets.getD i {}).resident) 0) ++ zeros 6) = p
    at hrow hreply hrunning
  refine ⟨_, hrow, (congrArg SlotState.state hslot :), (congrArg SlotState.hash hslot :), fun hdev => ?_, fun hdev => ?_, hreply,
    fun k _ => stks_running hrunning k, rfl⟩
  · exact (congrArg SlotState.usable hslot :).trans (if_pos hdev)
  · exact (congrArg SlotState.usable hslot :).trans (if_neg hdev)

end
end Sys2Proof.Machine
end

section
/-!
The image commands and the completion of a load's copies.
-/
namespace Sys2Proof.Machine

/-- Settles O27: each image command is decided by its checks in order; a load's copies end in a slot that is loaded. -/
theorem imagesLoadAndCopy : Obligations.ImagesLoadAndCopy := by
  unfold Obligations.ImagesLoadAndCopy
  refine ⟨fun s fn slot t c kind i hslot => ⟨?_, ?_, ?_, ?_, ?_, ?_⟩, ?_⟩
  · intro h hlen h3 h6 hflags hpart hk hkind hnamed
    exact imgLoad_image hslot h hlen h3 h6 hflags hpart hk hkind hnamed
  · intro h hlen h3 h6 hflags hpart hkind hnamed hnone
    exact imgLoad_world hslot h hlen h3 h6 hflags hpart hkind hnamed hnone
  · intro h hlen h3 h6 hflags hkind hlt hpart hnames
    exact imgLoad_inUse hslot h hlen h3 h6 hflags hkind hlt hpart hnames
  · intro h hlen h2 hkind hnamed hok huse hhome hstate
    exact imgUnload_goes hslot h hlen h2 hkind hnamed hok huse hhome hstate
  · intro h hlen h2 hok huse
    exact imgUnload_inUse hslot h hlen h2 hok huse
  · intro h hp
    exact imgList_lists hslot h hp
  · intro s kind i fn slot x c t hok hx hstate hloader hcmd hop hstage hresp
    exact imageCopyComplete_ends hok hx hstate hloader hcmd hop hstage hresp

end Sys2Proof.Machine
end
